-- ==== Sys2Proof/Word.lean ====
section
/-!
DEFINITION. The word types of the module: the byte, the 32-bit register, the 64-bit word, the 32-lane mask.
-/
namespace Sys2Proof

/-- A byte of memory. -/
abbrev Byte := BitVec 8

/-- A 32-bit register of one thread (R59). -/
abbrev Reg32 := BitVec 32

/-- A 64-bit word: an instruction word (R86), a manager register (R14), an address. -/
abbrev Word64 := BitVec 64

/-- One bit for each of the 32 lanes of a group (R66). -/
abbrev LaneMask := BitVec 32

/-- A 64-byte command ring entry (R290). -/
abbrev Entry512 := BitVec 512

end Sys2Proof
end

