-- ==== Sys2Proof/Syntax.lean ====
section
/-!
DEFINITION. The commands of the block: one constructor for each row of spec/opcode_table.json, with the operands its
source gives it.
-/
namespace Sys2Proof

/-- A check of a die's own storage while a step reads it (R480): clean, a corrected error, an
uncorrectable word of a register file or local store, or an uncorrectable sector of the L1. -/
inductive Sram where
  | ok | corrected | uncorrectable | l1
deriving DecidableEq, Repr

/-- A check of the storage that a row of the matrix engine reads (R480): clean, a corrected error, an uncorrectable word of the local store at an offset, or
an uncorrectable word of a unit of the accumulator file. -/
inductive MxSram where
  | ok | corrected | operand (off : Nat) | acc (unit word : Nat)
deriving DecidableEq, Repr

/-- An Agith instruction issued by a group: the logical core, the group's number in its launch, the base word and second
word that its fetch delivered (R86, R87), the code of the fetch (0, E_POISON or E_UNCORR) and the storage check. -/
structure Issue where
  core : Nat
  group : Nat
  w : Word64
  second : Word64
  fetch : Nat
  sram : Sram
deriving DecidableEq, Repr

/-- A command taken by the front end (R290, R430 to R432): its origin (1 physical function, 2 an instance, 3 fabric manager, 4
sideband). One of a ring is named by its instance, ring and position, and is the entry that the front end has read there. One of the sideband
or the fabric manager carries its entry and the contents of its buffer; `bus` is the management bus, and `authed` says that it came within a
secured session whose chain ends in the sideband root (R431). -/
structure Cmd where
  origin : Nat
  inst : Nat
  ring : Nat
  pos : Nat
  entry : Entry512
  bus : Nat
  authed : Bool
  payload : List Byte
deriving DecidableEq, Repr

/-- Result of reading a sector at a controller (R235, R245): clean, corrected, uncorrectable, or a burst that failed its
check four times. `retries` counts the failed bursts before. -/
inductive ReadOutcome where
  | clean | corrected | uncorrectable | burstFailed
deriving DecidableEq, Repr

/-- A line and the poison of its two sectors. -/
structure LineData where
  data : BitVec 512
  poison : BitVec 2
deriving DecidableEq, Repr

/-- One lane's part of an atomic at its home (R106, R107): the lane, the byte offset in the sector, OP, width and operands. -/
structure LaneAtom where
  lane : Nat
  off : Nat
  op : Nat
  w64 : Bool
  a : Nat
  b : Nat
deriving DecidableEq, Repr

/-- Coherence operations between an outside agent and a home (R222, R223). `recall` leaves a clean copy, `recallInv` does
not; `noCopy` answers that no copy remains; `supply` carries a copy to the agent for
which a request was forwarded, and `done` reports that it has been supplied. -/
inductive CohOp where
  | read | rx | own | wb | drop | forwardRead | forwardRx | recallLine | recallInv | inval | grant | supply | data | ack | noCopy | done | refuse
deriving DecidableEq, Repr

/-- The header that every collective message carries (R361), with the key of its communicator. -/
structure CollHead where
  key : Nat
  seq : Nat
  kind : Nat
  dtype : Nat
  op : Nat
  count : Nat
deriving DecidableEq, Repr

/-- What a member says in an admission (R353): its ARCH_ID, its member index and the one it gives the other, the epoch it last held for the
pair, and its certificate chain and measurements. -/
structure AdmitNote where
  archId : Nat
  index : Nat
  yours : Nat
  lastEpoch : Nat
  chain : List Byte
  measured : List Byte
deriving DecidableEq, Repr

/-- What a fabric message carries beside its header (R336). Codes are error codes, 0 for E_OK. The spec gives the bodies of KIND 7, 8 and 10 to 15 no
bits, so they are named by their content. -/
inductive FabBody where
  | idle
  | readReq (len : Nat)
  | readResp (code : Nat) (data : List Byte)
  | write (data : List Byte)
  | writeAck (code : Nat)
  | atomic (ops : List LaneAtom)
  | atomicResp (code : Nat) (vals : List (Nat × Nat))
  | coh (op : CohOp) (third : Nat) (data : Option LineData)
  | segment (data : List Byte)
  | segmentResp (code : Nat)
  | collective (h : CollHead) (down : Bool) (blocks : List (Nat × List Byte))
  | signal (h : CollHead) (down : Bool) (code : Nat) (word : Nat)
  | progress (word : Nat)
  | resyncQuery (port : Nat)
  | resyncReply (port last : Nat)
  | unreachable
  | depart
  | identity (device serial port : Nat) (chain : List Byte)
  | measurements (measured : List Byte)
  | keys
  | admission (n : AdmitNote)
deriving DecidableEq, Repr

/-- A fabric message (R335). `reserved` says that its KIND or a header bit that is reserved is set. -/
structure FabMsg where
  dst : Nat
  src : Nat
  hops : Nat
  poison : Bool
  epoch : Nat
  tag : Nat
  offset : Nat
  reserved : Bool
  body : FabBody
deriving DecidableEq, Repr

/-- A fabric flit (R334) with what its checks find: codewords, with the symbols corrected, CRC, reserved trailer fields, tag. -/
structure FabFlit where
  seq : Nat
  ackSeq : Nat
  ackV : Bool
  nak : Bool
  secure : Bool
  keyPhase : Nat
  fecOk : Bool
  fixed : Nat
  crcOk : Bool
  resvOk : Bool
  tagOk : Bool
  slots : List FabMsg
deriving DecidableEq, Repr

/-- What a training of the host link ends in (R370 to R373): 0 down, 1 training, 2 PCIe only, 3 CXL up; flit mode, speed and width as HST_STATUS codes
them; and the bases that the host assigned at enumeration to the functions' BAR0 and BAR2: function, BAR0, BAR2 (R374). -/
structure LinkUp where
  link : Nat
  flit256 : Bool
  lopt : Bool
  speed : Nat
  width : Nat
  bars : List (Nat × Nat × Nat)
deriving DecidableEq, Repr

/-- A DOE object (R387): Discovery, CDAT, IDE_KM setting a stream's keys in use or stopping it (`link` names the link stream), or a protocol that is not
supported. SPDM and TDISP requests are rows of their own. -/
inductive DoeBody where
  | discovery
  | cdat
  | ideKm (link : Bool) (stream : Nat) (go : Bool)
  | unsupported
deriving DecidableEq, Repr

/-- What a host's CXL.mem read wants of the line: a shared copy, ownership with data, ownership alone, or its present bytes without a copy (R385). -/
inductive MemRd where
  | shared | exclusive | ownOnly | current
deriving DecidableEq, Repr

/-- What a host keeps of a line that it writes by CXL.mem. -/
inductive MemKeep where
  | none | shared | owned
deriving DecidableEq, Repr

/-- An access to a register (R14, R431): over a management bus (`side`), `authed` saying that it came within a secured session whose chain ends in the
sideband root, or from the host of a function; the offset in the function's BAR0 window, size in bytes, and value of a write. `ide` says that it came on
the IDE stream that the function's interface bound at lock (R388). -/
structure RegWr where
  side : Bool
  fn : Nat
  off : Nat
  size : Nat
  value : Nat
  bus : Nat
  authed : Bool
  ide : Bool
deriving DecidableEq, Repr


/-- The commands: one constructor for each row of spec/opcode_table.json. -/
inductive Instr where
  /-- ADD (R96): Integer add modulo 2^width in the participating lanes. -/
  | add (issue : Issue)
  /-- SUB (R96): Integer subtract modulo 2^width. -/
  | sub (issue : Issue)
  /-- MUL (R96): Low half of the integer product. -/
  | mul (issue : Issue)
  /-- MULH (R96): High half of the integer product, signed or unsigned by TYPE. -/
  | mulh (issue : Issue)
  /-- MADD (R96): Integer multiply-add into the destination's old value. -/
  | madd (issue : Issue)
  /-- DIV (R96): Integer divide truncated toward zero, with defined results for divisor 0 and overflow. -/
  | div (issue : Issue)
  /-- REM (R96): Integer remainder with the sign of A. -/
  | rem (issue : Issue)
  /-- MIN (R96): Integer minimum by TYPE. -/
  | min (issue : Issue)
  /-- MAX (R96): Integer maximum by TYPE. -/
  | max (issue : Issue)
  /-- AND (R96): Bitwise AND. -/
  | andOp (issue : Issue)
  /-- OR (R96): Bitwise OR. -/
  | orOp (issue : Issue)
  /-- XOR (R96): Bitwise XOR. -/
  | xorOp (issue : Issue)
  /-- SHL (R96): Shift left by B mod width. -/
  | shl (issue : Issue)
  /-- SHR (R96): Shift right by B mod width, arithmetic or logical by TYPE. -/
  | shr (issue : Issue)
  /-- CMP (R96): Integer compare writing a predicate. -/
  | cmp (issue : Issue)
  /-- PICK (R96): Select A or B by a predicate. -/
  | pick (issue : Issue)
  /-- MOV (R96): Copy source B to the destination. -/
  | mov (issue : Issue)
  /-- NOT (R96): Bitwise complement of B. -/
  | notOp (issue : Issue)
  /-- CNT1 (R96): Population count of B. -/
  | cnt1 (issue : Issue)
  /-- LZC (R96): Leading-zero count of B. -/
  | lzc (issue : Issue)
  /-- ADDF (R99): Floating add rounded once by RM. -/
  | addf (issue : Issue)
  /-- MULF (R99): Floating multiply rounded once. -/
  | mulf (issue : Issue)
  /-- MACF (R99): Floating fused multiply-add into the destination's old value. -/
  | macf (issue : Issue)
  /-- MINF (R99): Floating minimum with -0 below +0 and NaN rules. -/
  | minf (issue : Issue)
  /-- MAXF (R99): Floating maximum with -0 below +0 and NaN rules. -/
  | maxf (issue : Issue)
  /-- CMPF (R99): Quiet floating compare writing a predicate. -/
  | cmpf (issue : Issue)
  /-- RCPF (R99): Correctly rounded reciprocal. -/
  | rcpf (issue : Issue)
  /-- SQRTF (R99): Correctly rounded square root. -/
  | sqrtf (issue : Issue)
  /-- RSQF (R100): Reciprocal square root rounded once to FP32. -/
  | rsqf (issue : Issue)
  /-- EXP2F (R100): Base-2 exponential rounded once to FP32. -/
  | exp2f (issue : Issue)
  /-- LOG2F (R100): Base-2 logarithm rounded once to FP32. -/
  | log2f (issue : Issue)
  /-- SINF (R100): Sine with exact reduction rounded once to FP32. -/
  | sinf (issue : Issue)
  /-- COSF (R100): Cosine with exact reduction rounded once to FP32. -/
  | cosf (issue : Issue)
  /-- TANHF (R100): Hyperbolic tangent rounded once to FP32. -/
  | tanhf (issue : Issue)
  /-- XFMT (R103): Converts one element between formats with RNE, RZ or keyed stochastic rounding. -/
  | xfmt (issue : Issue)
  /-- RDG (R105): Global load, optionally with acquire at a scope. -/
  | rdg (issue : Issue)
  /-- WRG (R105): Global store, optionally with release at a scope. -/
  | wrg (issue : Issue)
  /-- RDL (R105): Load from the set's local-store slot. -/
  | rdl (issue : Issue)
  /-- WRL (R105): Store to the set's local-store slot. -/
  | wrl (issue : Issue)
  /-- AMOG (R107): Global atomic performed at the line's home slice. -/
  | amog (issue : Issue)
  /-- AMOL (R107): Atomic in the local-store slot. -/
  | amol (issue : Issue)
  /-- CFLUSH (R108): Writes back dirty L1 sectors of a range at a scope. -/
  | cflush (issue : Issue)
  /-- CINV (R108): Writes back and invalidates L1 sectors of a range at a scope. -/
  | cinv (issue : Issue)
  /-- BAR (R70): Group arrives at a barrier of its set with core-scope release and acquire. -/
  | bar (issue : Issue)
  /-- FENCE (R190): Acquire, release or both at a scope. -/
  | fence (issue : Issue)
  /-- LXCH (R110): Lane exchange AT, UP, DN or XOR. -/
  | lxch (issue : Issue)
  /-- TALLY (R111): Vote ANY, ALL or MASK over participating lanes. -/
  | tally (issue : Issue)
  /-- JMP (R112): Relative branch in participating lanes, splitting paths on disagreement. -/
  | jmp (issue : Issue)
  /-- JMPR (R112): Indirect branch to a register pair. -/
  | jmpr (issue : Issue)
  /-- CALL (R112): Writes the return address and branches. -/
  | call (issue : Issue)
  /-- CONV (R69): Pushes a convergence record with join address and mask. -/
  | conv (issue : Issue)
  /-- JOIN (R69): Waits at the innermost record's join address until the record completes. -/
  | join (issue : Issue)
  /-- END (R71): Participating threads end; the group ends when all its threads have. -/
  | endOp (issue : Issue)
  /-- NOP (R112): Does nothing. -/
  | nop (issue : Issue)
  /-- SREAD (R92): Copies a special register to a destination. -/
  | sread (issue : Issue)
  /-- RND (R113): Writes 32 bits from the keyed counter-based generator. -/
  | rnd (issue : Issue)
  /-- MXI (R126): Issues a matrix step-table operation on a token. -/
  | mxi (issue : Issue)
  /-- MXW (R130): Waits for tokens and delivers a stored operation error. -/
  | mxw (issue : Issue)
  /-- MXT (R130): Tests whether tokens have completed. -/
  | mxt (issue : Issue)
  /-- MXZ (R144): Zeroes an accumulator tile as a one-row operation. -/
  | mxz (issue : Issue)
  /-- MXST (R144): Writes out an accumulator tile through the output stage. -/
  | mxst (issue : Issue)
  /-- MX_ROW (R144): Sequencer executes one ZERO, MAC or OUT row of an accepted operation. -/
  | mxRow (core : Nat) (sram : MxSram)
  /-- MX_TOKEN_COMPLETE (R129): Token completes after all rows, writes and flag merge. -/
  | mxTokenComplete (core token : Nat)
  /-- FYI (R117): Starts a ferry on a handle. -/
  | fyi (issue : Issue)
  /-- FYW (R118): Waits for ferry handles and delivers a stored ferry error. -/
  | fyw (issue : Issue)
  /-- FYT (R118): Tests whether ferry handles have completed. -/
  | fyt (issue : Issue)
  /-- FERRY_SEGMENT (R280): Ferry engine performs one 4 KiB segment of a transfer. -/
  | ferrySegment (core handle : Nat)
  /-- FERRY_COMPLETE (R118): Ferry ends, with or without error, and frees its handle. -/
  | ferryComplete (core handle : Nat)
  /-- SSLOT (R120): Sets the group's current batch slot. -/
  | sslot (issue : Issue)
  /-- SIN (R120): Loads from the slot session's input frame. -/
  | sin (issue : Issue)
  /-- SOUT (R120): Stores to the slot session's output frame. -/
  | sout (issue : Issue)
  /-- SPGL (R120): Returns the address of a key-value page-list entry. -/
  | spgl (issue : Issue)
  /-- SPGN (R120): Returns the page count of the session's list. -/
  | spgn (issue : Issue)
  /-- SCOREBOARD_ENTRY_FREE (R80): Range-scoreboard entry freed, releasing waiting accesses and stalled issues. -/
  | scoreboardEntryFree (core index : Nat)
  /-- WRITEBACK_ACCEPT (R188): A write-back or write is accepted at its visibility point, letting waiting releases complete. -/
  | writebackAccept (core : Nat)
  /-- SET_ADMIT (R58): Next set becomes resident on a core when slots and a local-store slot are free. -/
  | setAdmit (core : Nat)
  /-- DISPATCH_START (R204): Launch or batch starts on its islands: acquire, split change, argument load, first set admitted. -/
  | dispatchStart (dispatch : Nat)
  /-- LAUNCH_COMPLETE (R85): All groups and async operations done; cores release and the completion is written. -/
  | launchComplete (dispatch : Nat)
  /-- STEP_COMPLETE (R307): Session step ends: release, session entries, completions, deferred commands, digests. -/
  | stepComplete (dispatch : Nat)
  /-- TRANSLATION_WALK (R267): Walker reads page-table levels and checks them, filling buffers or stalling with a fault. -/
  | translationWalk (core engine tag va : Nat)
  /-- FAULT_BATCH_CLOSE (R273): Open batch closes at 256 records or its 50 µs limit. -/
  | faultBatchClose (inst : Nat)
  /-- FAULT_BATCH_WRITE (R275): Closed batch written to the fault ring once room exists, with MSI-X. -/
  | faultBatchWrite (inst : Nat) (ringBad : Bool)
  /-- INVALIDATE_DRAIN_COMPLETE (R280): Drain of segments under dropped translations ends and the invalidation completes. -/
  | invalidateDrainComplete (inst : Nat)
  /-- WATCH_LINE_WAKE (R285): Write or invalidation of a marked watch line wakes the front end. -/
  | watchLineWake (inst ring : Nat)
  /-- RING_SERVICE (R286): Front end acquires, reads the producer index and entries of a woken ring. -/
  | ringService (inst ring producer : Nat) (entries : List Entry512)
  /-- COMPLETION_WRITE (R289): Completion entry written once the completion ring has room. -/
  | completionWrite (inst ring consumed : Nat)
  /-- IRQ_MODERATION_EXPIRY (R292): Moderation interval ends and a covering MSI-X message is sent. -/
  | irqModerationExpiry (inst ring : Nat)
  /-- SESSION_INPUT (R306): Session input entry accepted or rejected. -/
  | sessionInput (inst ring pos : Nat)
  /-- LAUNCH (R297): Command that submits a plain launch. -/
  | launch (c : Cmd)
  /-- SESSION_OPEN (R300): Opens a session at the lowest Closed index of the instance. -/
  | sessionOpen (c : Cmd)
  /-- SESSION_BIND (R301): Binds a session to a program binding. -/
  | sessionBind (c : Cmd)
  /-- SESSION_STEP (R306): Queues a frame for a session with completion on the command's ring. -/
  | sessionStep (c : Cmd)
  /-- SESSION_PARK (R303): Moves a session's migratable pages to tier B and parks it. -/
  | sessionPark (c : Cmd)
  /-- SESSION_RESUME (R301): Returns a Parked, Suspended or Failed session to Ready. -/
  | sessionResume (c : Cmd)
  /-- SESSION_SUSPEND (R301): Suspends a session. -/
  | sessionSuspend (c : Cmd)
  /-- SESSION_CLOSE (R301): Closes a session and discards its pending frames. -/
  | sessionClose (c : Cmd)
  /-- BIND_CREATE (R299): Creates a program binding. -/
  | bindCreate (c : Cmd)
  /-- BIND_DESTROY (R299): Destroys a program binding. -/
  | bindDestroy (c : Cmd)
  /-- RING_CREATE (R296): Creates a command or session input ring. -/
  | ringCreate (c : Cmd)
  /-- RING_DESTROY (R296): Destroys a ring. -/
  | ringDestroy (c : Cmd)
  /-- SET_CLASS (R312): Sets a deadline class's cadence limits and target. -/
  | setClass (c : Cmd)
  /-- SET_XLATE_ROOT (R264): Sets an instance's root page table. -/
  | setXlateRoot (c : Cmd)
  /-- XLATE_INVALIDATE (R280): Drops translations of a range and starts the drain, optionally pinning. -/
  | xlateInvalidate (c : Cmd)
  /-- SET_FAULT_RING (R275): Sets the instance's fault batch ring. -/
  | setFaultRing (c : Cmd)
  /-- RESUME_BATCH (R278): Gives a verdict on a fault batch and re-walks or fails its accesses. -/
  | resumeBatch (c : Cmd)
  /-- SET_HOME_SET (R215): Defines a home set of logical islands. -/
  | setHomeSet (c : Cmd)
  /-- SET_HOME_MAP (R217): Changes the home attribute of a run of frames. -/
  | setHomeMap (c : Cmd)
  /-- SET_MEM_REGULATOR (R251): Sets a requester's weight and cap in channel groups. -/
  | setMemRegulator (c : Cmd)
  /-- SET_MIG_POOL_ADD (R252): Adds frames to an instance's migration pool. -/
  | setMigPoolAdd (c : Cmd)
  /-- SET_MIG_POOL_REMOVE (R252): Removes frames from an instance's migration pool. -/
  | setMigPoolRemove (c : Cmd)
  /-- PKG_MANIFEST (R30): Writes the package manifest into a host buffer. -/
  | pkgManifest (c : Cmd)
  /-- JOURNAL_START (R321): Starts recording an instance's journal with a MARK record. -/
  | journalStart (c : Cmd)
  /-- JOURNAL_STOP (R321): Stops recording and writes an END record. -/
  | journalStop (c : Cmd)
  /-- REPLAY_START (R327): Starts replay of an instance from a journal feed. -/
  | replayStart (c : Cmd)
  /-- REPLAY_FEED_RECORD (R328): One feed record is consumed and acted on during replay. -/
  | replayFeedRecord (inst produced : Nat) (record : List Byte)
  /-- SESSION_SEEK (R320): Sets a session's STEP and SEED. -/
  | sessionSeek (c : Cmd)
  /-- CLASS_TICK (R309): Class cadence tick: batch former cuts eligible sessions into batches and dispatches them. -/
  | classTick (cls : Nat)
  /-- BATCH_DISPATCH (R310): A waiting batch is dispatched once islands and session-cache room are free. -/
  | batchDispatch (dispatch : Nat)
  /-- CADENCE_ADJUST (R312): Every 100 ms the former adjusts each class's cadence. -/
  | cadenceAdjust
  /-- FAB_SET_DEVICE (R348): Sets the device number. -/
  | fabSetDevice (c : Cmd)
  /-- FAB_ROUTE_SET (R342): Loads route-table entries. -/
  | fabRouteSet (c : Cmd)
  /-- FAB_ARCH_ADMIT (R352): FAB_ARCH_SET OP 0 enters a member in the archipelago table. -/
  | fabArchAdmit (c : Cmd)
  /-- FAB_ARCH_DEPART (R355): FAB_ARCH_SET OP 1 makes a member depart in order. -/
  | fabArchDepart (c : Cmd)
  /-- FAB_EXPORT (R350): Adds an export entry. -/
  | fabExport (c : Cmd)
  /-- FAB_UNEXPORT (R351): Removes an export entry after admitted requests are performed. -/
  | fabUnexport (c : Cmd)
  /-- MCAST_GROUP_SET (R357): Defines a multicast group. -/
  | mcastGroupSet (c : Cmd)
  /-- MCAST_SEND (R357): Copies data to every target of a multicast group. -/
  | mcastSend (c : Cmd)
  /-- COMM_CREATE (R360): Creates a collective communicator. -/
  | commCreate (c : Cmd)
  /-- COLL_RUN (R361): Runs one collective on a communicator. -/
  | collRun (c : Cmd)
  /-- COMM_DESTROY (R368): Destroys a communicator. -/
  | commDestroy (c : Cmd)
  /-- HOST_BIND (R379): Binds a VF to a host with windows. -/
  | hostBind (c : Cmd) (placed : Bool)
  /-- HOST_UNBIND (R381): Unbinds a VF from its host. -/
  | hostUnbind (c : Cmd)
  /-- INS_CREATE (R403): Creates an instance. -/
  | insCreate (c : Cmd)
  /-- INS_MEM_ASSIGN (R405): Assigns and zeroes frames for an instance. -/
  | insMemAssign (c : Cmd)
  /-- INS_MEM_RELEASE (R405): Releases frames of an instance. -/
  | insMemRelease (c : Cmd)
  /-- INS_ISLANDS_ADD (R405): Moves islands from instance 0 to an instance. -/
  | insIslandsAdd (c : Cmd)
  /-- INS_ISLANDS_REMOVE (R405): Returns islands of an instance to instance 0. -/
  | insIslandsRemove (c : Cmd)
  /-- INS_DESTROY (R406): Resets an instance and returns its resources. -/
  | insDestroy (c : Cmd)
  /-- INS_RESET (R408): Runs an instance reset. -/
  | insReset (c : Cmd)
  /-- INS_FREEZE (R410): Sets an instance Freezing. -/
  | insFreeze (c : Cmd)
  /-- FREEZE_COMPLETE (R410): Instance becomes Frozen once its in-flight work has ended. -/
  | freezeComplete (inst : Nat)
  /-- INS_RESUME (R415): Returns a Frozen instance to Active and re-reads its rings. -/
  | insResume (c : Cmd)
  /-- INS_SAVE (R413): Writes a migration image of a Frozen instance. -/
  | insSave (c : Cmd)
  /-- INS_RESTORE (R414): Reads a migration image into a restore target. -/
  | insRestore (c : Cmd)
  /-- INS_MIG_KEY (R411): Opens a secured session and derives a migration key into a slot. -/
  | insMigKey (c : Cmd) (chain measured : List Byte) (key : Nat)
  /-- VF_FLR (R388): A VF function-level reset starts an instance reset. -/
  | vfFlr (fn : Nat) (ide : Bool)
  /-- SET_EPOCH (R441): Sets the log epoch stamp. -/
  | setEpoch (c : Cmd)
  /-- LOG_READ (R442): Returns log entries, redacted for other instances. -/
  | logRead (c : Cmd)
  /-- LOG_CHECKPOINT_READ (R442): Returns one checkpoint. -/
  | logCheckpointRead (c : Cmd)
  /-- LOG_CHECKPOINT_NOW (R439): Requests a checkpoint over entries since the last. -/
  | logCheckpointNow (c : Cmd)
  /-- PERM_SET (R435): Changes a permission-table row's effective set. -/
  | permSet (c : Cmd)
  /-- ADMIT_POLICY_SET (R429): Replaces the fabric admission policy. -/
  | admitPolicySet (c : Cmd)
  /-- FW_STAGE (R444): Verifies and writes a firmware image to a slot. -/
  | fwStage (c : Cmd)
  /-- FW_COMMIT_SVN (R424): Raises the fused SVN to the running image's SVN. -/
  | fwCommitSvn (c : Cmd)
  /-- SB_ROOT_SET (R431): Sets the sideband root digest. -/
  | sbRootSet (c : Cmd)
  /-- PWR_HOST_LIMIT (R468): Sets or removes the host power limit. -/
  | pwrHostLimit (c : Cmd)
  /-- REPLICA_SET (R484): Creates a replica pair and copies the primary lines. -/
  | replicaSet (c : Cmd)
  /-- REPLICA_CLEAR (R484): Ends a replica pair. -/
  | replicaClear (c : Cmd)
  /-- TRACE_START (R515): Starts a debug trace. -/
  | traceStart (c : Cmd)
  /-- TRACE_STOP (R515): Stops a debug trace. -/
  | traceStop (c : Cmd)
  /-- MODULE_START (R504): Sideband message that starts the module, optionally holding at HELD. -/
  | moduleStart (bus hold : Nat) (session : Bool)
  /-- REGISTER_WRITE (R13): Write to a register without behaviour of its own, checked against permissions and logged. -/
  | registerWrite (w : RegWr)
  /-- REGISTER_ACCESS_MISALIGNED (R14): Misaligned or wrong-size register access completes without effect and is counted. -/
  | registerAccessMisaligned (w : RegWr) (write : Bool)
  /-- SHC_DIR_PROBE_ADDR (R233): 64-bit write starts a directory probe of a line. -/
  | shcDirProbeAddr (value : Nat)
  /-- WCH_BOOT_CTL_ENABLE (R314): Writing ENABLE checks the boot block and starts ring 0 or sets ERROR. -/
  | wchBootCtlEnable (fn value : Nat) (ide : Bool)
  /-- BRG_MARGIN_CTL_GO (R512): Writing GO starts a margining run in HELD. -/
  | brgMarginCtlGo (w : RegWr)
  /-- MARGIN_RUN_DONE (R512): Margining run ends, result written and trained values restored. -/
  | marginRunDone (errors low high : Nat)
  /-- MSIX_VECTOR_UNMASK (R377): Unmasking a vector sends its pending message. -/
  | msixVectorUnmask (fn vec : Nat) (ide : Bool)
  /-- FLIT_RECEIVE (R35): Mesh flit received and checked, accepted or discarded with NAK. -/
  | flitReceive (strait bundle dir : Nat) (flit : BitVec 2048)
  /-- NAK (R35): Sender replays from the named sequence number. -/
  | meshNak (strait bundle dir seq : Nat)
  /-- ROTATE_REQ (R38): Control flit pausing a bundle-direction for lane rotation. -/
  | rotateReq (strait bundle dir lane : Nat)
  /-- NARROW_REQ (R39): Control flit pausing a bundle-direction for narrowing. -/
  | narrowReq (strait bundle dir lane : Nat)
  /-- REPLAY_BUFFER_DRAINED (R38): Paused bundle-direction's replay buffer empties and spare training begins. -/
  | replayBufferDrained (strait bundle dir : Nat)
  /-- LANE_TRAIN_COMPLETE (R38): Spare lane PRBS training or narrowed retrain ends. -/
  | laneTrainComplete (strait bundle dir : Nat) (ok : Bool)
  /-- ROTATE_ACK (R38): Ends agree the switch-over flit for the new lane map. -/
  | rotateAck (strait bundle dir : Nat) (ok : Bool)
  /-- BUNDLE_DIRECTION_LOSS (R40): Bundle-direction lost by clock or lane failure; unaccepted flits resent. -/
  | bundleDirectionLoss (strait bundle dir : Nat)
  /-- ROUTER_FAIL (R45): A base die stops forwarding and its router standby set is used. -/
  | routerFail (site : Nat)
  /-- ROUTE_SWITCH (R45): Every router switches to the named standby table set. -/
  | routeSwitch
  /-- RESYNC_QUERY (R45): Mesh query for the far end's last accepted sequence numbers. -/
  | resyncQuery (strait bundle dir : Nat)
  /-- RESYNC_REPLY (R40): Mesh reply with last accepted sequence numbers; sender resends later flits. -/
  | resyncReply (strait bundle dir last : Nat)
  /-- SLOW_REROUTE_COMPLETE (R46): Firmware finishes computing tables for a loss without standby sets. -/
  | slowRerouteComplete
  /-- STANDBY_RECOMPUTE_DONE (R44): Standby table sets recomputed and STANDBY_VALID set. -/
  | standbyRecomputeDone
  /-- BUNDLE_RETRAIN_COMPLETE (R35): Retrain after 8 failed replays of one sequence number ends. -/
  | bundleRetrainComplete (strait bundle dir : Nat) (ok : Bool)
  /-- STRAIT_PARK (R455): Idle bundle-direction other than bundle 0 parks its data lanes. -/
  | straitPark (strait bundle dir : Nat)
  /-- STRAIT_UNPARK (R455): Parked bundle returns to service for a queued flit. -/
  | straitUnpark (strait bundle dir : Nat)
  /-- SLICE_ACCESS (R225): Request reaches its home slice and is served or queued behind a busy line. -/
  | sliceAccess (n : Nat) (sram : Sram) (dirBad : Bool)
  /-- COH_READ (R223): Read by an outside agent handled at the home directory. -/
  | cohRead (m : FabMsg) (dirBad : Bool)
  /-- COH_RX (R223): Read for ownership by an outside agent. -/
  | cohRx (m : FabMsg) (dirBad : Bool)
  /-- COH_OWN (R222): Ownership request from an agent holding the line in X or S. -/
  | cohOwn (m : FabMsg) (dirBad : Bool)
  /-- COH_WB (R226): Write-back from a holder, possibly answering a recall. -/
  | cohWb (m : FabMsg)
  /-- COH_DROP_NOTICE (R222): Holder drops an X or F copy. -/
  | cohDropNotice (m : FabMsg)
  /-- COH_FORWARD (R227): Agent receives a forward and supplies data, holding it until its grant arrives. -/
  | cohForward (m : FabMsg)
  /-- COH_RECALL (R223): Agent receives a recall or invalidate and answers. -/
  | cohRecall (m : FabMsg)
  /-- COH_GRANT (R227): Agent receives an ownership grant and performs its access. -/
  | cohGrant (m : FabMsg)
  /-- COH_RESPONSE (R223): Home receives an acknowledgement, recall reply or completion report. -/
  | cohResponse (m : FabMsg)
  /-- SLICE_BYPASS_ENTER (R454): Slice of an island Off for BYPASS_MS enters bypass. -/
  | sliceBypassEnter (island : Nat)
  /-- MEM_READ (R245): Controller reads a sector, correcting, retrying or returning poison. -/
  | memRead (sec : Nat) (outcome : ReadOutcome) (retries : Nat) (copy : ReadOutcome) (keyBad : Bool)
  /-- MEM_WRITE (R242): Controller writes a sector or merges a partial write in the WCB. -/
  | memWrite (line retries : Nat) (failed : Bool)
  /-- WCB_TIMEOUT (R243): Partial WCB entry retired by read-modify-write after 2 µs. -/
  | wcbTimeout (sec : Nat) (outcome : ReadOutcome)
  /-- PATROL_SCRUB_READ (R245): Patrol scrub reads a sector as a read. -/
  | patrolScrubRead (outcome : ReadOutcome) (retries : Nat)
  /-- MIGRATION_PERIOD (R253): Every PERIOD_MS firmware selects hot and cold pages and starts moves. -/
  | migrationPeriod
  /-- PAGE_MOVE_COMPLETE (R254): Copy of a moving page ends; translation rewritten and held accesses released. -/
  | pageMoveComplete (inst va : Nat)
  /-- STACK_THERMAL_REPORT (R256): Stack layer temperatures reported and thermal state updated. -/
  | stackThermalReport (stack : Nat) (temps : List Nat)
  /-- DUTY_LEVEL_STEP (R256): Each 1 ms in Duty the level d rises or falls. -/
  | dutyLevelStep (unit : Nat)
  /-- DUTY_PAUSE_PERIOD (R256): Start of a 40 µs duty period with a traffic pause. -/
  | dutyPausePeriod (unit : Nat)
  /-- MR4_REPORT (R257): Tier B package refresh-rate report sets its thermal state. -/
  | mr4Report (pkg code level : Nat)
  /-- UNIT_THERMAL_SHUTDOWN (R258): Stack or package over limit for its time is shut down and its channels become holes. -/
  | unitThermalShutdown (unit : Nat)
  /-- SELF_REFRESH_ENTRY (R457): Idle channel group or package enters self-refresh. -/
  | selfRefreshEntry (group : Nat)
  /-- FABRIC_FLIT_RECEIVE (R337): Fabric flit received, checked, deciphered and its slots delivered or forwarded. -/
  | fabricFlitReceive (port : Nat) (f : FabFlit)
  /-- FABRIC_NAK (R337): Sender replays from the named fabric sequence number. -/
  | fabricNak (port seq : Nat)
  /-- FAB_READ_REQUEST (R349): Incoming read admitted by export and performed at the home slice. -/
  | fabReadRequest (m : FabMsg)
  /-- FAB_READ_RESPONSE (R336): Read response ends the waiting access with data or a code. -/
  | fabReadResponse (m : FabMsg)
  /-- FAB_WRITE (R349): Incoming write admitted and performed at the home slice. -/
  | fabWrite (m : FabMsg)
  /-- FAB_WRITE_ACK (R195): Write acknowledgement marks a remote write accepted. -/
  | fabWriteAck (m : FabMsg)
  /-- FAB_ATOMIC (R349): Incoming atomic performed at the home slice. -/
  | fabAtomic (m : FabMsg)
  /-- FAB_ATOMIC_RESPONSE (R336): Atomic response returns the result or a code. -/
  | fabAtomicResponse (m : FabMsg)
  /-- MULTICAST_SEGMENT (R358): Target takes a segment into a receive buffer or answers busy. -/
  | multicastSegment (m : FabMsg) (die : Nat)
  /-- MULTICAST_RESPONSE (R359): Sender records a segment acknowledgement, busy or refusal. -/
  | multicastResponse (m : FabMsg)
  /-- MCAST_RETRY (R358): Refused segment retried after 300 ns. -/
  | mcastRetry (n target seg : Nat)
  /-- MCAST_TARGET_GIVE_UP (R358): Target missed after 20 µs since its first refusal. -/
  | mcastTargetGiveUp (n target : Nat)
  /-- COLLECTIVE_DATA (R362): Collective partial or result arrives and is combined in fixed order. -/
  | collectiveData (m : FabMsg)
  /-- COLLECTIVE_SIGNAL (R361): Barrier signal or release arrives on VC0. -/
  | collectiveSignal (m : FabMsg)
  /-- PROGRESS_WORD (R354): Member's progress word received. -/
  | progressWord (m : FabMsg)
  /-- PROGRESS_PUSH (R354): Progress word pushed to members every 1 ms. -/
  | progressPush
  /-- PROGRESS_UPDATE (R364): Progress word refreshed at least every 100 µs. -/
  | progressUpdate
  /-- COLLECTIVE_PROGRESS_POLL (R365): Waiting device reads awaited ranks' progress words every 100 µs. -/
  | collectiveProgressPoll (comm : Nat)
  /-- PACE_TIMEOUT (R366): After PACE_AFTER_US waiting on a throttled rank, fabric pacing starts. -/
  | paceTimeout (comm : Nat)
  /-- UNREACHABLE (R343): Source receives UNREACHABLE and ends the access with E_PEER_GONE. -/
  | unreachable (m : FabMsg)
  /-- FABRIC_DEPART (R355): DEPART message received from a member. -/
  | fabricDepart (m : FabMsg)
  /-- MEMBER_SILENCE_TIMEOUT (R355): Nothing from a member or no route for DEPART_MS. -/
  | memberSilenceTimeout (device : Nat)
  /-- FABRIC_RESYNC_QUERY (R339): Neighbour asked for the last SEQ accepted on a lost port. -/
  | fabricResyncQuery (m : FabMsg)
  /-- FABRIC_RESYNC_REPLY (R339): Held messages beyond the reported SEQ resent on other ports. -/
  | fabricResyncReply (m : FabMsg)
  /-- PORT_LOSS (R339): Port leaves service by loss of light or lanes and is removed from route masks. -/
  | portLoss (port : Nat) (light : Bool)
  /-- PORT_DETECT (R333): Far end detected and training starts. -/
  | portDetect (port : Nat)
  /-- PORT_TRAINED (R333): Training ends at full or half width or the port stays down. -/
  | portTrained (port lanes : Nat)
  /-- IDENTITY (R345): Neighbour's signed identity received during link bring-up. -/
  | fabIdentity (port : Nat) (m : FabMsg)
  /-- FABRIC_SPDM_MESSAGE (R345): SPDM or admission message advances link attestation or archipelago admission. -/
  | fabricSpdmMessage (port : Nat) (m : FabMsg)
  /-- ADMISSION_TIMEOUT (R353): No matching entry at the other end within DEPART_MS. -/
  | admissionTimeout (device : Nat)
  /-- KEY_UPDATE (R347): Direction updates its key before SEQ advances 2^31. -/
  | keyUpdate (port : Nat) (ok : Bool)
  /-- FABRIC_LANE_PARK (R456): Lightly loaded port parks lanes 4–7. -/
  | fabricLanePark (port : Nat)
  /-- FABRIC_LANE_UNPARK (R456): Port unparks when its replay buffer holds 32 flits. -/
  | fabricLaneUnpark (port : Nat)
  /-- CXL_MEM_READ (R385): Host CXL.mem read checked and performed at the home slice. -/
  | cxlMemRead (hpa : Nat) (want : MemRd)
  /-- CXL_MEM_WRITE (R385): Host CXL.mem write checked and performed at the home slice. -/
  | cxlMemWrite (hpa : Nat) (mask : BitVec 64) (d : LineData) (keep : MemKeep)
  /-- BAR2_ACCESS (R376): Host BAR2 access translated and performed or refused. -/
  | bar2Access (fn off n : Nat) (write : Bool) (data : List Byte) (poison ide : Bool)
  /-- SNP_DATA (R382): Host snoop for data served at the device's slice. -/
  | snpData (line : Nat)
  /-- SNP_INV (R382): Host invalidating snoop served at the device's slice. -/
  | snpInv (line : Nat)
  /-- SNP_CUR (R382): Host current-data snoop served at the device's slice. -/
  | snpCur (line : Nat)
  /-- HOST_GO (R383): GO and data arrive for a CXL.cache request; pending writes applied. -/
  | hostGo (line : Nat) (sole : Bool) (data : LineData)
  /-- BIRSP (R385): Host answers a back-invalidate snoop. -/
  | birsp (line : Nat) (data : Option LineData)
  /-- BI_TIMEOUT (R386): BISnp unanswered for BI_TIMEOUT_US; coherent host departs. -/
  | biTimeout (line : Nat)
  /-- LINK_DOWN_TIMEOUT (R389): Host link down for GONE_MS. -/
  | linkDownTimeout
  /-- HOT_RESET (R389): Hot reset, link disable or PF function-level reset from upstream. -/
  | hotReset
  /-- CXLIO_COMPLETION_TIMEOUT (R389): CXL.io completion to a non-coherent VF host times out after 50 ms. -/
  | cxlioCompletionTimeout (fn : Nat)
  /-- LINK_TRAINING (R371): Host link trains and negotiates CXL, flit mode, speed and width. -/
  | linkTraining (t : LinkUp)
  /-- LINK_RETRY (R390): Link-level retry after a flit CRC or FEC failure. -/
  | linkRetry (exhausted : Bool)
  /-- DOE_OBJECT (R387): DOE mailbox object received and dispatched to its protocol. -/
  | doeObject (fn len : Nat) (body : DoeBody)
  /-- GET_CERTIFICATE (R428): SPDM request returning a certificate chain. -/
  | getCertificate (conn slot off n : Nat)
  /-- CHALLENGE (R426): SPDM challenge answered with a signed CHALLENGE_AUTH. -/
  | spdmChallenge (conn slot : Nat) (nonce : List Byte)
  /-- GET_MEASUREMENTS (R428): SPDM request returning signed measurement blocks. -/
  | getMeasurements (conn index : Nat) (signed : Bool) (nonce : List Byte)
  /-- KEY_EXCHANGE (R426): SPDM key exchange opening a secured session. -/
  | keyExchange (conn : Nat) (request : List Byte)
  /-- FINISH (R426): SPDM FINISH completing a secured session. -/
  | spdmFinish (conn : Nat) (ok : Bool)
  /-- PQ_COSIGN (R427): Vendor request returning an ML-DSA co-signature of the previous signed response. -/
  | pqCosign (conn : Nat)
  /-- LOCK_INTERFACE_REQUEST (R388): TDISP lock of a VF interface. -/
  | lockInterfaceRequest (fn stream : Nat)
  /-- START_INTERFACE_REQUEST (R388): TDISP move of a locked interface to RUN. -/
  | startInterfaceRequest (fn : Nat)
  /-- STOP_INTERFACE_REQUEST (R388): TDISP stop returning the interface to CONFIG_UNLOCKED by instance reset. -/
  | stopInterfaceRequest (fn : Nat)
  /-- GET_DEVICE_INTERFACE_REPORT (R388): TDISP interface report with ranges and configuration digest. -/
  | getDeviceInterfaceReport (fn : Nat)
  /-- GET_DEVICE_INTERFACE_STATE (R388): TDISP request returning the interface state. -/
  | getDeviceInterfaceState (fn : Nat)
  /-- GET_TDISP_VERSION (R388): TDISP version request. -/
  | getTdispVersion (fn : Nat)
  /-- GET_TDISP_CAPABILITIES (R388): TDISP capabilities request. -/
  | getTdispCapabilities (fn : Nat)
  /-- IDE_INTEGRITY_FAILURE (R390): IDE check fails, stream goes insecure and the TLP is dropped. -/
  | ideIntegrityFailure (link : Bool) (stream : Nat)
  /-- ISLAND_GATE (R452): Idle island enters Gated after GATE_US. -/
  | islandGate (island : Nat)
  /-- ISLAND_OFF (R453): Gated island writes back and removes its rail after OFF_US. -/
  | islandOff (island : Nat)
  /-- ISLAND_WAKE_COMPLETE (R451): Island returns to Run after a wake request. -/
  | islandWakeComplete (island : Nat)
  /-- DVFS_CHANGE_COMPLETE (R459): Island frequency and rail change ends. -/
  | dvfsChangeComplete (island : Nat)
  /-- DROOP_TRIP (R462): Droop detector trips and the clock period doubles. -/
  | droopTrip (island : Nat)
  /-- DROOP_RECOVER (R462): Rail above threshold for 32 cycles ends clock stretching. -/
  | droopRecover (island cycles : Nat)
  /-- DVFS_DEFER_TIMEOUT (R463): Deferred frequency change proceeds or is dropped after 2 µs. -/
  | dvfsDeferTimeout (island : Nat)
  /-- POWER_SAMPLE (R466): Input voltage and current sampled every 10 µs with immediate peak and current cuts. -/
  | powerSample (vin iin : Nat)
  /-- POWER_LOOP (R466): Every 100 µs the cap loop adjusts F and L. -/
  | powerLoop
  /-- ISLAND_THERMAL_REPORT (R469): Compute die reports its hottest sensor every 10 µs. -/
  | islandThermalReport (island temp : Nat)
  /-- ISLAND_THERMAL_STEP (R469): F_therm lowered or raised by 50 MHz each 100 µs. -/
  | islandThermalStep (island : Nat)
  /-- ISLAND_OVERHEAT (R469): Compute die at 115 °C for 1 ms; island lost. -/
  | islandOverheat (island : Nat)
  /-- COOLANT_SIGNAL_CHANGE (R470): COOLANT_OK signal change passes its 50 µs filter. -/
  | coolantSignalChange (a b : Bool)
  /-- PLL_UNLOCK (R448): An edge-die PLL loses lock. -/
  | pllUnlock (die : Nat)
  /-- PLL_RELOCK (R448): Edge-die PLL relocks and traffic resumes. -/
  | pllRelock (die : Nat)
  /-- REF_CLOCK_LOSS (R495): Reference absent at HW for 10 µs; device-fatal. -/
  | refClockLoss
  /-- INPUT_VOLTAGE_EXCURSION (R520): Input outside 56–66 V for 1 ms; device-fatal. -/
  | inputVoltageExcursion
  /-- INPUT_OVERVOLTAGE (R520): Input above 70 V opens the input switch. -/
  | inputOvervoltage (vin : Nat)
  /-- INPUT_UNDERVOLTAGE (R520): Input falls below VUVF and conversion stops. -/
  | inputUndervoltage
  /-- PSENSE_BREAK (R531): PSENSE breaks and the input switch opens. -/
  | psenseBreak
  /-- ISLAND_LOSS (R487): Island lost: rail off, homes moved, dispatches ended, SITE_MAP entry. -/
  | islandLoss (island : Nat) (baseDead : Bool)
  /-- CTL_PAIR_MISMATCH (R491): Control-core pair fails its compare and its work fails over. -/
  | ctlPairMismatch (die pair : Nat)
  /-- DRBG_HEALTH_FAIL (R420): Entropy health test fails and key formation stops. -/
  | drbgHealthFail
  /-- CHECKPOINT_SIGNED (R440): Checkpoint signed and written to the tier B slots. -/
  | checkpointSigned (n : Nat)
  /-- CHECKPOINT_FLASH_COPY (R439): Checkpoint copy reaches flash or fails and is retried. -/
  | checkpointFlashCopy (n : Nat) (ok : Bool)
  /-- POWER_APPLIED (R503): Input rises into range with always-on domains unpowered; start reason 0. -/
  | powerApplied (slot : Nat)
  /-- HOST_RESET_WHILE_FATAL (R503): Host fundamental reset held 100 ms while FATAL starts the module. -/
  | hostResetWhileFatal
  /-- WAIT_INPUT (R506): Stage 0 ends once input, coolant and reference are good for 10 ms. -/
  | waitInput (ref : Bool)
  /-- BOOT_ROM_VERIFY (R421): Boot ROM verifies and measures a firmware slot or enters RECOVERY. -/
  | bootRomVerify (chains : Bool)
  /-- EDGE_SELF_TEST (R508): Stage 2 edge-die self-test completes. -/
  | edgeSelfTest (pairs plls : Nat) (kat : Bool)
  /-- SITE_CHECK (R509): Stage 3 site checks complete; promotion, numbering and feature level follow. -/
  | siteCheck (results : List (Nat × Nat))
  /-- LANE_TEST (R510): Stage 4 lane test completes and routes are installed. -/
  | laneTest (failed : List (Nat × Nat))
  /-- CHANNEL_TEST (R511): Stage 5 channel test completes and tiers are mapped. -/
  | channelTest (stackMask : Nat) (failed : List Nat)
  /-- ZERO (R240): Stage 8 zeroing ends and the module is READY. -/
  | zeroStage
  /-- TAP_INSTRUCTION (R513): Test access port loads an instruction, selecting BYPASS if unavailable. -/
  | tapInstruction (die instr : Nat)
  /-- ALERT_READ (R525): Sideband alert read releases ALERT#. -/
  | alertRead (bus : Nat)
  /-- PRIMARY_DOMAIN_STOP (R495): The primary always-on domain in HW stops, the secondary takes over the coolant watch and the device takes the device-fatal fault of cause 9. -/
  | primaryDomainStop
  /-- LAYER_LOSS (R246): A stack reports the loss of a channel's layer or interface, and the channel becomes a hole. -/
  | layerLoss (channel : Nat)
  /-- JOURNAL_ROOM_RETURN (R325): Host software advances the journal ring's CONSUMED so room returns, ending a DROP 0 hold or writing the GAP record under DROP 1. -/
  | journalRoomReturn (inst : Nat)
  /-- REGULATOR_WINDOW (R250): A 1 µs window of a channel group's arbiter ends: the used caps are reset and pending SET_MEM_REGULATOR values take effect. -/
  | regulatorWindow (group : Nat)
  /-- THERMAL_PAUSE_END (R256): The d × 2.5 µs traffic pause at the start of a duty period ends and traffic to the stack runs again. -/
  | thermalPauseEnd (unit : Nat)
deriving DecidableEq, Repr

end Sys2Proof
end

