-- ==== Sys2Proof/Decode.lean ====
section
/-!
DEFINITION. Commands by words: spec/opcode_table.json gives none of its rows bits, so no word spells a command.
-/
namespace Sys2Proof

/-- The command that a word of the table spells. DESIGN CHOICE: log entry 3. -/
def decodeTableWord (_nbits _w : Nat) : Option Instr := none

end Sys2Proof
end

