-- ==== Sys2Proof/Config.lean ====
section
/-!
DEFINITION. What an implementation fixes and the spec leaves open: free values and uninterpreted functions, each an
opaque constant with no body.
-/
namespace Sys2Proof.Config

/-- The n-th value that the spec leaves open: nothing constrains it. -/
opaque freeValue : Nat → Nat

/-- What a byte of a frame reads after an instance reset changed its key (R408), before it is zeroed: by the reset and the
address. -/
opaque scrambledByte : Nat → Nat → Byte

/-- The cycle count of a core at an issue (R92 code 12): a timing counter. -/
opaque cycleCount : Nat → Nat

/-- Whether cryptographic checks of some bytes pass: 0 a certificate chain and the signature that comes with it (R345, R346), 1 signed measurements
with their co-signature (R427), 2 a firmware image (R421), 3 an authenticated migration record (R412). -/
opaque verifies : Nat → List Byte → Bool

/-- Device identity material written at manufacture, by certificate slot (R425). -/
opaque chain : Nat → List Byte

/-- What a signature by a key over some bytes reads: 0 the identity key, 1 the co-signing key (R425, R427). -/
opaque signature : Nat → List Byte → List Byte

/-- SVN of a firmware image, and its version, as its header gives them: the layout of the header is not in the spec (R421, R446). -/
opaque imageHeader : List Byte → Nat × Nat

/-- The SHA-512 of a firmware image's header and body (R421). -/
opaque imageDigest : List Byte → List Byte

/-- The detour that firmware substitutes where a dimension-ordered route crosses an avoided strait (R44): by the straits avoided, the node, and the
destination. -/
opaque detour : List Nat → Nat → Nat → Nat

/-- Identifiers of dies, by record of the package manifest (R31). -/
opaque dieId : Nat → Nat

/-- Stepping codes of the stacks (R31). -/
opaque stackStep : Nat → Nat

/-- What the boot ROM measures beside the image (R421, R422): 0 its own code's SHA-512, 1 the SHA-512 of the configuration block in flash. -/
opaque bootDigest : Nat → List Byte

/-- Mode registers MR5 to MR8 of a tier B package, as its register shows them (R261). -/
opaque modeRegs : Nat → Nat

/-- Bytes of what firmware measures and whose layout the spec does not give (R422): 4 the field map and the field lane maps, 6 the permission
table, 7 the fabric admission policy. -/
opaque flashBytes : Nat → List Nat → List Byte

/-- Nalaro's JEP106 manufacturer code (R513). -/
opaque jep106 : Nat

end Sys2Proof.Config
end

