-- ==== Sys2Proof/Machine/Tbl.lean ====
section
/-!
DEFINITION. Sparse tables: sorted association lists keyed by Nat, and the bit-field helpers every other file uses.
-/
namespace Sys2Proof.Machine

/-- A sparse table: pairs of key and value, keys rising. -/
abbrev Tbl (V : Type) := List (Nat × V)

/-- The entry at a key, if any. -/
def tget {V : Type} : List (Nat × V) → Nat → Option V
  | [], _ => none
  | (k', v) :: t, k => if k' = k then some v else tget t k

/-- The entry at a key, or a default. -/
def tgetD {V : Type} (t : List (Nat × V)) (k : Nat) (d : V) : V := (tget t k).getD d

/-- Write an entry, keeping the keys rising. -/
def tset {V : Type} : List (Nat × V) → Nat → V → List (Nat × V)
  | [], k, v => [(k, v)]
  | (k', v') :: t, k, v =>
    if k' = k then (k, v) :: t
    else if k < k' then (k, v) :: (k', v') :: t
    else (k', v') :: tset t k v

/-- Remove an entry. -/
def tdel {V : Type} (t : List (Nat × V)) (k : Nat) : List (Nat × V) := t.filter (fun p => p.1 != k)

/-- Apply a function to an entry that is there. -/
def tmod {V : Type} (t : List (Nat × V)) (k : Nat) (f : V → V) : List (Nat × V) :=
  match tget t k with
  | some v => tset t k (f v)
  | none => t

/-- True where the key has an entry. -/
def thas {V : Type} (t : List (Nat × V)) (k : Nat) : Bool := (tget t k).isSome

/-- The keys. -/
def tkeys {V : Type} (t : List (Nat × V)) : List Nat := t.map (·.1)

/-- Apply a function to every value. -/
def tmap {V W : Type} (t : List (Nat × V)) (f : Nat → V → W) : List (Nat × W) := t.map (fun p => (p.1, f p.1 p.2))

/-- Keep the entries that satisfy a test. -/
def tfilter {V : Type} (t : List (Nat × V)) (f : Nat → V → Bool) : List (Nat × V) := t.filter (fun p => f p.1 p.2)

/-- The first key that satisfies a test. -/
def tfindKey {V : Type} (t : List (Nat × V)) (f : Nat → V → Bool) : Option Nat :=
  (t.find? (fun p => f p.1 p.2)).map (·.1)

/-- The lowest number below a bound that satisfies a test, counting from a start. -/
def lowestFrom (p : Nat → Bool) : Nat → Nat → Option Nat
  | 0, _ => none
  | n + 1, i => if p i then some i else lowestFrom p n (i + 1)

/-- The lowest number below n that satisfies a test. -/
def lowest (n : Nat) (p : Nat → Bool) : Option Nat := lowestFrom p n 0

/-- Bits [lo + w - 1 : lo] of a number. -/
def bitsOf (x lo w : Nat) : Nat := x / 2 ^ lo % 2 ^ w

/-- Bit i of a number. -/
def bitOf (x i : Nat) : Bool := x / 2 ^ i % 2 == 1

/-- A number with bits [lo + w - 1 : lo] replaced. -/
def setBits (x lo w v : Nat) : Nat :=
  x % 2 ^ lo + (v % 2 ^ w) * 2 ^ lo + (x / 2 ^ (lo + w)) * 2 ^ (lo + w)

/-- Two's complement reading of the low w bits. -/
def signedOf (x w : Nat) : Int :=
  if x % 2 ^ w < 2 ^ (w - 1) then (x % 2 ^ w : Nat) else (x % 2 ^ w : Nat) - (2 ^ w : Nat)

/-- The low w bits of an integer as a number. -/
def wrap (x : Int) (w : Nat) : Nat := (x % (2 ^ w : Nat)).toNat

/-- 1 for true, 0 for false. -/
def b2n (b : Bool) : Nat := if b then 1 else 0

/-- Round up division. -/
def ceilDiv (a b : Nat) : Nat := (a + b - 1) / b

/-- The population count of the low n bits. -/
def popcount : Nat → Nat → Nat
  | 0, _ => 0
  | n + 1, x => x % 2 + popcount n (x / 2)

/-- The set bits among the low n bits, in increasing order, numbered from i. -/
def bitList : Nat → Nat → Nat → List Nat
  | 0, _, _ => []
  | n + 1, x, i => if x % 2 == 1 then i :: bitList n (x / 2) (i + 1) else bitList n (x / 2) (i + 1)

/-- The set bits of x below n. -/
def setBitsOf (n x : Nat) : List Nat := bitList n x 0

/-- True where every element differs from every other. -/
def noRepeats : List Nat → Bool
  | [] => true
  | a :: t => !t.contains a && noRepeats t

/-- Insert into a rising list without repeats. -/
def insertNat (x : Nat) : List Nat → List Nat
  | [] => [x]
  | a :: t => if x = a then a :: t else if x < a then x :: a :: t else a :: insertNat x t

/-- Little-endian bytes of a number. -/
def leBytes : Nat → Nat → List Byte
  | 0, _ => []
  | n + 1, x => BitVec.ofNat 8 x :: leBytes n (x / 256)

/-- The number little-endian bytes spell. -/
def ofLe : List Byte → Nat
  | [] => 0
  | b :: t => b.toNat + 256 * ofLe t

end Sys2Proof.Machine
end

