-- ==== Sys2Proof/Machine/Numbers.lean ====
section
/-!
DEFINITION. Number formats and rounding (chapter 06, R157 to R175): decoding every format, one rounding function for
every destination, and the exact dyadic arithmetic that the floating instructions and the matrix engine round once.
-/
namespace Sys2Proof.Machine

/-- The sticky flag word of a group, [0] NV to [5] SAT (R178). -/
abbrev Flags := BitVec 6

/-- NV (R178). -/
def flNV : Flags := 0x01
/-- DZ (R178). -/
def flDZ : Flags := 0x02
/-- OF (R178). -/
def flOF : Flags := 0x04
/-- UF (R178). -/
def flUF : Flags := 0x08
/-- NX (R178). -/
def flNX : Flags := 0x10
/-- SAT (R178). -/
def flSAT : Flags := 0x20

/-- Rounding modes (R170); SR carries its 32-bit draw (R171). -/
inductive Rnd where
  | rne | rz | ru | rd | sr (draw : Nat)
deriving DecidableEq, Repr

/-- How a format encodes NaN (R157): not at all, IEEE style, or E4M3 style. -/
inductive NanKind where
  | none | ieee | e4m3
deriving DecidableEq, Repr

/-- A floating format (R157): exponent and mantissa widths, bias, infinity, NaN encodings, the encoding of the
largest finite magnitude and the canonical NaN (R159). -/
structure Fmt where
  eb : Nat
  mb : Nat
  bias : Nat
  hasInf : Bool
  nan : NanKind
  maxEnc : Nat
  canon : Nat
deriving DecidableEq, Repr

/-- FP64. -/
def fmtF64 : Fmt := ⟨11, 52, 1023, true, .ieee, 0x7FEFFFFFFFFFFFFF, 0x7FF8000000000000⟩
/-- FP32. -/
def fmtF32 : Fmt := ⟨8, 23, 127, true, .ieee, 0x7F7FFFFF, 0x7FC00000⟩
/-- FP16. -/
def fmtF16 : Fmt := ⟨5, 10, 15, true, .ieee, 0x7BFF, 0x7E00⟩
/-- BF16. -/
def fmtBF16 : Fmt := ⟨8, 7, 127, true, .ieee, 0x7F7F, 0x7FC0⟩
/-- FP8 E4M3. -/
def fmtE4M3 : Fmt := ⟨4, 3, 7, false, .e4m3, 0x7E, 0x7F⟩
/-- FP8 E5M2. -/
def fmtE5M2 : Fmt := ⟨5, 2, 15, true, .ieee, 0x7B, 0x7E⟩
/-- FP6 E3M2. -/
def fmtE3M2 : Fmt := ⟨3, 2, 3, false, .none, 0x1F, 0⟩
/-- FP4 E2M1. -/
def fmtE2M1 : Fmt := ⟨2, 1, 1, false, .none, 0x7, 0⟩

/-- The width of a format in bits. -/
def Fmt.width (f : Fmt) : Nat := 1 + f.eb + f.mb

/-- A decoded floating value: a finite one is (-1)^s * m * 2^e. -/
inductive FV where
  | nan
  | inf (s : Bool)
  | fin (s : Bool) (m : Nat) (e : Int)
deriving DecidableEq, Repr

/-- The value an encoding has (R158). -/
def decodeF (f : Fmt) (b : Nat) : FV :=
  let m := b % 2 ^ f.mb
  let e := b / 2 ^ f.mb % 2 ^ f.eb
  let s := b / 2 ^ (f.mb + f.eb) % 2 == 1
  if f.nan = .ieee ∧ e = 2 ^ f.eb - 1 then (if m = 0 then .inf s else .nan)
  else if f.nan = .e4m3 ∧ e = 2 ^ f.eb - 1 ∧ m = 2 ^ f.mb - 1 then .nan
  else if e = 0 then .fin s m (1 - (f.bias : Int) - f.mb)
  else .fin s (2 ^ f.mb + m) ((e : Int) - f.bias - f.mb)

/-- True for a zero of either sign. -/
def FV.isZero : FV → Bool
  | .fin _ 0 _ => true
  | _ => false

/-- floor(log2 (n / d)) for n, d > 0. -/
def floorLog2 (n d : Nat) : Int :=
  let k : Int := (Nat.log2 n : Int) - (Nat.log2 d : Int)
  if n * 2 ^ (-k).toNat ≥ d * 2 ^ k.toNat then k else k - 1

/-- Quotient, remainder and divisor of (n / d) in units of 2^u. -/
def unitDiv (n d : Nat) (u : Int) : Nat × Nat × Nat :=
  let num := n * 2 ^ (-u).toNat
  let den := d * 2 ^ u.toNat
  (num / den, num % den, den)

/-- Whether a magnitude q + r / den (plus a nonzero remainder below every bit when `extra`) rounds away from zero
(R170, R171). -/
def roundsUp (rm : Rnd) (s : Bool) (q r den : Nat) (extra : Bool) : Bool :=
  match rm with
  | .rne => 2 * r > den || (2 * r == den && (extra || q % 2 == 1))
  | .rz => false
  | .ru => !s && (r != 0 || extra)
  | .rd => s && (r != 0 || extra)
  | .sr d => decide (d + r * 2 ^ 32 / den ≥ 2 ^ 32)

/-- The sign bit of a format in place. -/
def signBit (f : Fmt) (s : Bool) : Nat := b2n s * 2 ^ (f.mb + f.eb)

/-- The encoding of an infinity. -/
def infEnc (f : Fmt) (s : Bool) : Nat := signBit f s + (2 ^ f.eb - 1) * 2 ^ f.mb

/-- What an overflow gives (R173). -/
def overflowF (f : Fmt) (rm : Rnd) (sat : Bool) (s : Bool) : Nat × Flags :=
  let away : Bool := match rm with
    | .rne => true
    | .sr _ => true
    | .rz => false
    | .ru => !s
    | .rd => s
  if away then
    (if f.hasInf && !sat then (infEnc f s, flOF ||| flNX)
     else (signBit f s + f.maxEnc, flOF ||| flNX ||| flSAT))
  else (signBit f s + f.maxEnc, flOF ||| flNX)

/-- One rounding of the exact magnitude n / d, n > 0, into a floating format (R170 to R175). `extra` says that the
exact value lies strictly above n / d and below the next bit that matters (an irrational value cut off). -/
def roundF (f : Fmt) (rm : Rnd) (sat : Bool) (s : Bool) (n d : Nat) (extra : Bool) : Nat × Flags :=
  let lg := floorLog2 n d
  let emin : Int := 1 - (f.bias : Int)
  let e := max lg emin
  let (q, r, den) := unitDiv n d (e - f.mb)
  let up := roundsUp rm s q r den extra
  let enc := (e + f.bias - 1).toNat * 2 ^ f.mb + q + b2n up
  let inexact := r != 0 || extra
  if enc > f.maxEnc then overflowF f rm sat s
  else (signBit f s + enc,
        if inexact then (if lg < emin then flUF ||| flNX else flNX) else 0)

/-- One rounding of a magnitude to an integer: the integer and whether it was exact. -/
def roundInt (rm : Rnd) (s : Bool) (n d : Nat) : Nat × Bool :=
  let q := n / d
  let r := n % d
  (q + b2n (roundsUp rm s q r d false), r == 0)

/-- An exact dyadic number m * 2^e. -/
structure Dy where
  m : Int
  e : Int
deriving DecidableEq, Repr

/-- Zero. -/
def dyZero : Dy := ⟨0, 0⟩

/-- Exact product. -/
def dyMul (a b : Dy) : Dy := ⟨a.m * b.m, a.e + b.e⟩

/-- Exact sum. -/
def dyAdd (a b : Dy) : Dy :=
  let e := min a.e b.e
  ⟨a.m * 2 ^ (a.e - e).toNat + b.m * 2 ^ (b.e - e).toNat, e⟩

/-- The magnitude of a dyadic number as a ratio. -/
def dyRatio (a : Dy) : Nat × Nat := (a.m.natAbs * 2 ^ a.e.toNat, 2 ^ (-a.e).toNat)

/-- The dyadic value of a finite decoded value. -/
def dyOf : FV → Dy
  | .fin s m e => ⟨if s then -(m : Int) else m, e⟩
  | _ => dyZero

/-- One rounding of a nonzero dyadic number. -/
def roundDy (f : Fmt) (rm : Rnd) (sat : Bool) (a : Dy) : Nat × Flags :=
  let (n, d) := dyRatio a
  roundF f rm sat (a.m < 0) n d false

/-- The encoding of a zero of a sign. -/
def zeroEnc (f : Fmt) (s : Bool) : Nat := signBit f s

/-- Sum of two decoded values rounded once (IEEE 754 with R159, R160). -/
def addFV (f : Fmt) (rm : Rnd) (a b : FV) : Nat × Flags :=
  match a, b with
  | .nan, _ => (f.canon, 0)
  | _, .nan => (f.canon, 0)
  | .inf s, .inf t => if s = t then (infEnc f s, 0) else (f.canon, flNV)
  | .inf s, .fin _ _ _ => (infEnc f s, 0)
  | .fin _ _ _, .inf t => (infEnc f t, 0)
  | .fin s m e, .fin t n u =>
    let x := dyAdd (dyOf (.fin s m e)) (dyOf (.fin t n u))
    if x.m = 0 then (zeroEnc f (if s = t then s else decide (rm = .rd)), 0)
    else roundDy f rm false x

/-- Exact product of two decoded values; none for 0 * infinity. -/
def mulFV (a b : FV) : Option FV :=
  match a, b with
  | .nan, _ => some .nan
  | _, .nan => some .nan
  | .inf s, .inf t => some (.inf (s != t))
  | .inf s, .fin t m _ => if m = 0 then none else some (.inf (s != t))
  | .fin t m _, .inf s => if m = 0 then none else some (.inf (s != t))
  | .fin s m e, .fin t n u => some (.fin (s != t) (m * n) (e + u))

/-- Round a decoded value into a format (exact zero keeps its sign). -/
def encFV (f : Fmt) (rm : Rnd) (a : FV) : Nat × Flags :=
  match a with
  | .nan => (f.canon, 0)
  | .inf s => (infEnc f s, 0)
  | .fin s m e => if m = 0 then (zeroEnc f s, 0) else roundDy f rm false (dyOf (.fin s m e))

/-- MULF (R99): a product rounded once; 0 * infinity gives the canonical NaN and NV. -/
def mulRound (f : Fmt) (rm : Rnd) (a b : FV) : Nat × Flags :=
  match mulFV a b with
  | none => (f.canon, flNV)
  | some p => encFV f rm p

/-- MACF (R99, R160): a * b + d rounded once. -/
def fmaRound (f : Fmt) (rm : Rnd) (a b d : FV) : Nat × Flags :=
  if a = .nan ∨ b = .nan ∨ d = .nan then (f.canon, 0)
  else match mulFV a b with
    | none => (f.canon, flNV)
    | some p => addFV f rm p d

/-- Negation of a decoded value. -/
def negFV : FV → FV
  | .nan => .nan
  | .inf s => .inf (!s)
  | .fin s m e => .fin (!s) m e

/-- Absolute value of a decoded value. -/
def absFV : FV → FV
  | .nan => .nan
  | .inf _ => .inf false
  | .fin _ m e => .fin false m e

/-- Exact comparison of two decoded values that are not NaN: negative, zero or positive. Zeros compare equal. -/
def cmpFV (a b : FV) : Int :=
  match a, b with
  | .inf s, .inf t => if s = t then 0 else if s then -1 else 1
  | .inf s, _ => if s then -1 else 1
  | _, .inf t => if t then 1 else -1
  | x, y => (dyAdd (dyOf x) (dyOf (negFV y))).m

/-- Sign of a decoded value. -/
def signFV : FV → Bool
  | .nan => false
  | .inf s => s
  | .fin s _ _ => s

/-- Total order used by MINF and MAXF: −0 below +0 (R99). -/
def ltFV (a b : FV) : Bool :=
  let c := cmpFV a b
  if c < 0 then true else if c > 0 then false
  else signFV a && !signFV b

/-- MINF or MAXF of two decoded values with their encodings (R99): exactly one NaN gives the other operand, two give the
canonical NaN. -/
def minmaxF (f : Fmt) (isMax : Bool) (a b : FV) (ea eb : Nat) : Nat :=
  match a, b with
  | .nan, .nan => f.canon
  | .nan, _ => eb
  | _, .nan => ea
  | x, y => if isMax then (if ltFV x y then eb else ea) else (if ltFV y x then eb else ea)

/-- The comparisons of CMPF (R98, R99). -/
def cmpF (cond : Nat) (a b : FV) : Bool :=
  if a = .nan ∨ b = .nan then cond = 1 ∨ cond = 7
  else
    let c := cmpFV a b
    match cond with
    | 0 => c = 0
    | 1 => c ≠ 0
    | 2 => c < 0
    | 3 => c ≤ 0
    | 4 => c > 0
    | 5 => c ≥ 0
    | 6 => true
    | _ => false

/-- RCPF (R99, R178). -/
def rcpF (f : Fmt) (rm : Rnd) (a : FV) : Nat × Flags :=
  match a with
  | .nan => (f.canon, 0)
  | .inf s => (zeroEnc f s, 0)
  | .fin s m e =>
    if m = 0 then (infEnc f s, flDZ)
    else
      let (n, d) := dyRatio ⟨m, e⟩
      roundF f rm false s d n false

/-- Integer square root by Newton's iteration from above, with fuel. -/
def isqrtAux (n : Nat) : Nat → Nat → Nat
  | 0, x => x
  | fuel + 1, x =>
    let y := (x + n / x) / 2
    if y < x then isqrtAux n fuel y else x

/-- floor(sqrt n). -/
def isqrt (n : Nat) : Nat := if n = 0 then 0 else isqrtAux n (Nat.log2 n + 8) (2 ^ (Nat.log2 n / 2 + 1))

/-- Round the square root of a ratio n / d > 0. The root is cut at weight 2^-k; the remainder is kept as `extra`. -/
def roundSqrt (f : Fmt) (rm : Rnd) (n d k : Nat) : Nat × Flags :=
  let v := n * 2 ^ (2 * k) / d
  let exact := n * 2 ^ (2 * k) % d == 0
  let y := isqrt v
  roundF f rm false false y (2 ^ k) (!(exact && y * y == v))

/-- SQRTF (R99, R178). -/
def sqrtF (f : Fmt) (rm : Rnd) (a : FV) : Nat × Flags :=
  match a with
  | .nan => (f.canon, 0)
  | .inf s => if s then (f.canon, flNV) else (infEnc f false, 0)
  | .fin s m e =>
    if m = 0 then (zeroEnc f s, 0)
    else if s then (f.canon, flNV)
    else let (n, d) := dyRatio ⟨m, e⟩; roundSqrt f rm n d 700

/-- RSQF (R99, R100). -/
def rsqF (a : FV) : Nat × Flags :=
  match a with
  | .nan => (fmtF32.canon, 0)
  | .inf s => if s then (fmtF32.canon, flNV) else (zeroEnc fmtF32 false, 0)
  | .fin s m e =>
    if m = 0 then (infEnc fmtF32 s, flDZ)
    else if s then (fmtF32.canon, flNV)
    else let (n, d) := dyRatio ⟨m, e⟩; roundSqrt fmtF32 .rne d n 300

/-! ### Format codes of R102 -/

/-- The floating format of a format code 0 to 7. -/
def fmtOfCode : Nat → Option Fmt
  | 0 => some fmtF64
  | 1 => some fmtF32
  | 2 => some fmtF16
  | 3 => some fmtBF16
  | 4 => some fmtE4M3
  | 5 => some fmtE5M2
  | 6 => some fmtE3M2
  | 7 => some fmtE2M1
  | _ => none

/-- The integer types of R102: width and signedness of codes 8 to 11. -/
def intOfCode : Nat → Option (Nat × Bool)
  | 8 => some (8, true)
  | 9 => some (4, true)
  | 10 => some (32, true)
  | 11 => some (32, false)
  | _ => none

/-- Elements in a register of a format code (R102). -/
def elemCount : Nat → Nat
  | 0 => 1 | 1 => 1 | 2 => 2 | 3 => 2 | 4 => 4 | 5 => 4 | 6 => 5 | 7 => 8 | 8 => 4 | 9 => 8 | 10 => 1 | 11 => 1
  | _ => 0

/-- Element width of a format code (R102). -/
def elemWidth : Nat → Nat
  | 0 => 64 | 1 => 32 | 2 => 16 | 3 => 16 | 4 => 8 | 5 => 8 | 6 => 6 | 7 => 4 | 8 => 8 | 9 => 4 | 10 => 32 | 11 => 32
  | _ => 0

/-- Limits of an integer type. -/
def intMin (w : Nat) (signed : Bool) : Int := if signed then -(2 ^ (w - 1) : Nat) else 0
/-- Largest value of an integer type. -/
def intMax (w : Nat) (signed : Bool) : Int := if signed then (2 ^ (w - 1) : Nat) - 1 else (2 ^ w : Nat) - 1

/-- Saturate an integer (R103, R174). -/
def satInt (w : Nat) (signed : Bool) (x : Int) : Int × Bool :=
  if x < intMin w signed then (intMin w signed, true)
  else if x > intMax w signed then (intMax w signed, true)
  else (x, false)

/-- A floating value into an integer type (R103, R174). The exact value is (-1)^s n / d. -/
def ratioToInt (w : Nat) (signed : Bool) (rm : Rnd) (s : Bool) (n d : Nat) : Nat × Flags :=
  let (q, exact) := roundInt rm s n d
  let (v, sat) := satInt w signed (if s then -(q : Int) else q)
  (wrap v w, if sat then flSAT ||| flNX else if exact then 0 else flNX)

/-- An infinity into an integer type (R174). -/
def infToInt (w : Nat) (signed s : Bool) : Nat × Flags :=
  (wrap (if s then intMin w signed else intMax w signed) w, flSAT)

/-- A special value or a ratio into a floating destination (R173, R174). -/
def specialToF (f : Fmt) (sat : Bool) : FV → Nat × Flags
  | .nan => if f.nan = .none then (0, flNV) else (f.canon, 0)
  | .inf s =>
    if f.hasInf then (if sat then (signBit f s + f.maxEnc, flSAT) else (infEnc f s, 0))
    else (signBit f s + f.maxEnc, flSAT)
  | .fin s _ _ => (zeroEnc f s, 0)

/-- Convert a decoded floating value to a floating format (R172 to R175). -/
def floatToF (f : Fmt) (rm : Rnd) (sat : Bool) (v : FV) : Nat × Flags :=
  match v with
  | .fin s m e => if m = 0 then (zeroEnc f s, 0) else let (n, d) := dyRatio ⟨m, e⟩; roundF f rm sat s n d false
  | x => specialToF f sat x

/-- Convert an integer to a floating format. -/
def intToF (f : Fmt) (rm : Rnd) (sat : Bool) (x : Int) : Nat × Flags :=
  if x = 0 then (zeroEnc f false, 0) else roundF f rm sat (x < 0) x.natAbs 1 false

/-- One conversion of XFMT: source code and element bits to destination code (R103, R172, R174). -/
def convert (sf df : Nat) (rm : Rnd) (sat : Bool) (x : Nat) : Nat × Flags :=
  match fmtOfCode sf, intOfCode sf, fmtOfCode df, intOfCode df with
  | some f, _, some g, _ => floatToF g rm sat (decodeF f x)
  | some f, _, _, some (w, sg) =>
    (match decodeF f x with
     | .nan => (0, flNV)
     | .inf s => infToInt w sg s
     | .fin s m e => let (n, d) := dyRatio ⟨m, e⟩; ratioToInt w sg rm s n d)
  | _, some (w, sg), some g, _ => intToF g rm sat (if sg then signedOf x w else (x % 2 ^ w : Nat))
  | _, some (w, sg), _, some (v, tg) =>
    let (y, spill) := satInt v tg (if sg then signedOf x w else (x % 2 ^ w : Nat))
    (wrap y v, if spill then flSAT else 0)
  | _, _, _, _ => (0, 0)

/-! ### The counter-based generator (R319) -/

/-- The mixing function of R319. -/
def mix64 (z : Word64) : Word64 :=
  let z := (z ^^^ (z >>> 30)) * 0xBF58476D1CE4E5B9#64
  let z := (z ^^^ (z >>> 27)) * 0x94D049BB133111EB#64
  z ^^^ (z >>> 31)

/-- One round of R319. -/
def drawRound (seed k1 : Word64) (x : Word64) (r : Nat) : Word64 :=
  let x := mix64 (x + seed)
  mix64 (x + k1 + BitVec.ofNat 64 r * 0x9E3779B97F4A7C15#64)

/-- draw32 of R319: step is 32 bits, dom 0 for a thread draw and 1 for an element draw. -/
def draw32 (seed : Word64) (step index draw dom : Nat) : Nat :=
  let k1 : Word64 := BitVec.ofNat 64 (step % 2 ^ 32 * 2 + dom)
  let x : Word64 := BitVec.ofNat 64 (index % 2 ^ 32 * 2 ^ 32 + draw % 2 ^ 32)
  let x := [1, 2, 3, 4].foldl (fun x r => drawRound seed k1 x r) x
  x.toNat / 2 ^ 32

end Sys2Proof.Machine
end

