-- ==== Sys2Proof/Machine/StateCore.lean ====
section
/-!
DEFINITION. State of the cores (chapters 03, 04, 05): thread groups, L1, local store, range scoreboard, matrix engine,
ferries, and the dispatch a core runs.
-/
namespace Sys2Proof.Machine

/-- A path of a group: threads that execute together (R66). -/
structure Path where
  pc : Nat
  mask : LaneMask
deriving DecidableEq, Repr

/-- A convergence record (R69): join address, mask, and the threads waiting at the join. -/
structure ConvRec where
  addr : Nat
  mask : LaneMask
  waiting : LaneMask
deriving DecidableEq, Repr

/-- Why a group has not moved past its instruction. -/
inductive Stall where
  | none | walk | response | entries | overlap | release | busy
deriving DecidableEq, Repr

/-- A translation fault an access waits on (R271, R278): the record, the lane or byte address it stalls, and the verdict
(none: waiting; 0: retried; else the code it fails with). -/
structure FaultWait where
  record : Nat
  key : Nat
  verdict : Option Nat
deriving DecidableEq, Repr

/-- A fault charged to a group (R84): code, program address, and place in the core's issue order. -/
structure Charge where
  code : Nat
  addr : Nat
  seq : Nat
deriving DecidableEq, Repr

/-- A page an access still has to be walked for (R271): the virtual address, the lane or byte address it serves, and the access
kind: 0 read, 1 write, 2 atomic, 3 fetch, 4 read or write (R268), and the engine: 1 the load-store unit, 2 the matrix engine, 3 the
ferry engine. -/
structure Walk where
  va : Nat
  key : Nat
  access : Nat
  engine : Nat
deriving DecidableEq, Repr

/-- A thread group (R55, R59, R66 to R71, R178). Registers are keyed lane * 256 + number; a register with no entry
reads 0. -/
structure Group where
  set : Nat
  part : Nat
  run : Option Path
  queue : List Path
  bars : List (Nat × Path)
  recs : List ConvRec
  ended : LaneMask
  done : Bool
  gr : Tbl Reg32
  pr : Tbl LaneMask
  ur : Tbl Reg32
  slot : Nat
  flags : Flags
  stall : Stall
  phase : Nat
  relSeq : Nat
  walks : List Walk
  faults : List FaultWait
  dead : Option Nat
  charges : List Charge
deriving DecidableEq, Repr

/-- A group at its start: one path of 32 threads, everything 0 (R59, R66). -/
def Group.start (set part pc : Nat) (ur : Tbl Reg32) : Group :=
  { set := set, part := part, run := some ⟨pc, 0xFFFFFFFF⟩, queue := [], bars := [], recs := [], ended := 0,
    done := false, gr := [], pr := [], ur := ur, slot := 0, flags := 0, stall := .none, phase := 0, relSeq := 0,
    walks := [], faults := [], dead := none, charges := [] }

/-- A sector of a core's L1 (R187): bytes, valid and dirty masks, bytes stored since it was allocated, poison, stale. -/
structure L1Sector where
  data : BitVec 256
  valid : BitVec 32
  dirty : BitVec 32
  stored : BitVec 32
  poison : Bool
  uncorr : Bool
  stale : Bool
deriving DecidableEq, Repr

/-- A write on its way from a core to its visibility point (R187, R188, R195). `op` names the matrix token (0 to 15) or
the ferry handle (16 to 31) it belongs to; `sent` gives the tag under which it was sent to another device and the acknowledgements it waits for. -/
structure WbEntry where
  sec : Nat
  data : BitVec 256
  mask : BitVec 32
  poison : Bool
  op : Option Nat
  group : Nat
  seq : Nat
  sent : Option (Nat × Nat)
deriving DecidableEq, Repr

/-- An entry of the range scoreboard (R79). `lsSet` is the set whose slot the range lies in, none for global memory. -/
structure SbEntry where
  lsSet : Option Nat
  base : Nat
  len : Nat
  write : Bool
  op : Nat
  seq : Nat
deriving DecidableEq, Repr

/-- Data read for an engine or a group of a core, waiting to be used. `tag` is a token, 16 + handle, or 64 + group. -/
structure ReadBuf where
  tag : Nat
  sec : Nat
  data : BitVec 256
  code : Nat
deriving DecidableEq, Repr

/-- Result of one lane's atomic, waiting to be used. -/
structure AmoResult where
  group : Nat
  lane : Nat
  value : Nat
  code : Nat
deriving DecidableEq, Repr

/-- A matrix token or a ferry handle with an operation or an undelivered error (R118, R126 to R130). -/
structure AsyncSlot where
  busy : Bool
  group : Nat
  set : Nat
  addr : Nat
  seq : Nat
  code : Nat
deriving DecidableEq, Repr

/-- A ferry in flight (R116, R117); `bad` is the code of the first poisoned source sector (R479). -/
structure Ferry where
  group : Nat
  set : Nat
  src : Nat
  dst : Nat
  rowBytes : Nat
  rows : Nat
  srcLs : Bool
  dstLs : Bool
  srcStride : Nat
  dstStride : Nat
  seq : Nat
  row : Nat
  off : Nat
  code : Nat
  bad : Nat
  walks : List Walk
  faults : List FaultWait
deriving DecidableEq, Repr

/-- An operand block of the matrix descriptor (R141), with the page addresses read at issue (R139). -/
structure MxOperand where
  addr : Nat
  saddr : Nat
  stride : Nat
  sstride : Nat
  tscale : Nat
  kind : Nat
  layout : Nat
  rpp : Nat
  fmt : Nat
  firstRow : Nat
  scale : Nat
  firstPage : Nat
  pages : List Nat
deriving DecidableEq, Repr

/-- A step-table row (R143). -/
structure MxRow where
  op : Nat
  acc : Nat
  zeroAfter : Bool
  kFrom : Nat
  kCount : Nat
  mOff : Nat
  nOff : Nat
deriving DecidableEq, Repr

/-- An accepted matrix operation (R126, R141), with the seed and step its draws are keyed by (R146), and the sectors read for
the row in progress by virtual sector number: data and code. -/
structure MxOp where
  token : Nat
  group : Nat
  set : Nat
  kTotal : Nat
  mValid : Nat
  nValid : Nat
  a : MxOperand
  b : MxOperand
  outAddr : Nat
  osAddr : Nat
  outStride : Nat
  osStride : Nat
  omul : Nat
  otscale : Nat
  odraw : Nat
  outKind : Nat
  ofmt : Nat
  oscale : Nat
  orm : Nat
  statusAddr : Nat
  statusKind : Nat
  rows : List MxRow
  next : Nat
  outNext : Nat
  seed : Word64
  step : Nat
  seq : Nat
  flags : Flags
  code : Nat
  walks : List Walk
  faults : List FaultWait
  got : List (Nat × BitVec 256 × Nat)
deriving DecidableEq, Repr

/-- A translation held in a buffer (R269): instance, first virtual address, size in bytes, target location, rights,
migratable. -/
structure Tlb where
  inst : Nat
  va : Nat
  size : Nat
  loc : Nat
  r : Bool
  w : Bool
  a : Bool
  mig : Bool
deriving DecidableEq, Repr

/-- A resident or released set of a core (R58): local-store slot number and whether it still holds resources. -/
structure SetSt where
  slot : Nat
  resident : Bool
deriving DecidableEq, Repr

/-- One core (R55). The local store is keyed by byte offset from its base; a byte with no entry is 0. `sbWait` lists the groups
whose asynchronous issue waits for scoreboard entries, in the order in which they stalled (R80); `mxHold` is the group whose matrix
operation is held at steps 2 to 4 of R126 (R127). -/
structure Core where
  disp : Option Nat
  split : Nat
  groups : Tbl Group
  sets : Tbl SetSt
  nextSet : Nat
  ls : Tbl Byte
  l1 : Tbl L1Sector
  wb : List WbEntry
  sb : List SbEntry
  sbWait : List Nat
  mxHold : Option Nat
  seq : Nat
  acc : Tbl Reg32
  accPoison : BitVec 8
  tokens : Tbl AsyncSlot
  mxq : List MxOp
  handles : Tbl AsyncSlot
  ferries : Tbl Ferry
  tlb : List (Nat × Tlb)
  rbuf : List ReadBuf
  abuf : List AmoResult
  releasing : Bool
deriving DecidableEq, Repr

/-- A core at module start. DESIGN CHOICE: log entry 8. -/
def Core.reset : Core :=
  { disp := none, split := 0, groups := [], sets := [], nextSet := 0, ls := [], l1 := [], wb := [], sb := [],
    sbWait := [], mxHold := none, seq := 0, acc := [], accPoison := 0, tokens := [], mxq := [], handles := [], ferries := [],
    tlb := [], rbuf := [], abuf := [], releasing := false }

/-- The shape of a launch (R56). -/
structure Shape where
  groups : Nat
  setGroups : Nat
  regs : Nat
  lsSplit : Nat
  lsPerSet : Nat
deriving DecidableEq, Repr

/-- Local store of each LS_SPLIT in bytes (R56). -/
def lsBytes : Nat → Nat
  | 0 => 0
  | 1 => 256 * 1024
  | 2 => 512 * 1024
  | 3 => 768 * 1024
  | 4 => 896 * 1024
  | _ => 0

end Sys2Proof.Machine
end

