-- ==== Sys2Proof/Machine/StateMem.lean ====
section
/-!
DEFINITION. State of the memory system (chapters 07 to 10): tiers, write combining, slices, directory, requests on their
way, translation faults and invalidations, migration, regulators.

Locations are one number space: a local physical address below 2^42, a host physical address plus 2^58, a global address
plus 2^59. A line number is a location div 64, a sector number a location div 32.
-/
namespace Sys2Proof.Machine

/-- Base of host locations. -/
def hostBase : Nat := 2 ^ 58
/-- Base of global locations. -/
def globalBase : Nat := 2 ^ 59

/-- The contents of both tiers by local physical address. `cells` lists the bytes that differ from 0 (R240), addresses
rising; in a frame of `scrambled` (a 2 MiB frame whose key changed, R408) an unlisted byte reads a free value. `poison`
lists sectors whose POISON bit is set, `held` lines whose HELD_DIRTY mark is set (R234). -/
structure Dram where
  cells : List Host.Cell
  poison : List Nat
  held : List Nat
  scrambled : Tbl Nat
deriving DecidableEq, Repr

/-- A write-combining entry (R242): sector, byte mask, bytes, HW tick of its allocation. -/
structure WcbEntry where
  sec : Nat
  mask : BitVec 32
  data : BitVec 256
  time : Nat
deriving DecidableEq, Repr

/-- A write request on its way from a home slice to a controller: bytes of a line that a mask names, the POISON bits of
sectors written whole, and the HELD_DIRTY mark to be written (R213, R234, R242). -/
structure MemWr where
  line : Nat
  mask : BitVec 64
  data : BitVec 512
  poison : BitVec 2
  markPoison : BitVec 2
  held : Option Bool
deriving DecidableEq, Repr

/-- How a slice holds a line (R209): as its home, or as the device's slice for a peer or host line. `f` is S, held as the line's forwarder (R221, R222). -/
inductive Hold where
  | home | s | f | x | d | pending
deriving DecidableEq, Repr

/-- A line held by a slice (R209). `pmask` marks the bytes of pending-ownership writes (R185); `uncorr` marks sectors
whose error a read has just found and no consumer has seen (R477). -/
structure Line where
  data : BitVec 512
  dirty : Bool
  poison : BitVec 2
  uncorr : BitVec 2
  ext : Bool
  hold : Hold
  pmask : BitVec 64
deriving DecidableEq, Repr

/-- One sector of a fill in progress: data and E_OK, E_POISON or E_UNCORR. -/
structure FillHalf where
  data : BitVec 256
  code : Nat
deriving DecidableEq, Repr

/-- A fill in progress (R210): the sectors read so far. -/
structure Fill where
  lo : Option FillHalf
  hi : Option FillHalf
deriving DecidableEq, Repr

/-- Directory states (R221). -/
inductive DirState where
  | shared | forwarder | sole | dirty
deriving DecidableEq, Repr

/-- A directory entry (R220). The host's presence bit and number are kept beside the member presence bits. `tag` is the transaction tag of the
request by which AGENT came to be named. -/
structure DirEntry where
  state : DirState
  agent : Nat
  holderHost : Bool
  hostId : Nat
  presHost : Bool
  pres : BitVec 64
  granted : Nat
  tag : Nat
deriving DecidableEq, Repr

/-- What a request of a core asks of a home slice. -/
inductive ReqKind where
  | fill
  | read
  | atomic (ops : List LaneAtom)
deriving DecidableEq, Repr

/-- A request on its way to a home slice, or beyond it. `sent` marks one that waits for another device or the host. -/
structure Req where
  core : Nat
  tag : Nat
  sec : Nat
  kind : ReqKind
  sent : Bool
deriving DecidableEq, Repr

/-- A coherence request of an outside agent: 0 READ, 1 RX, 2 OWN; agents 0 to 63 are members, 64 is the host. -/
structure CohReq where
  agent : Nat
  hostId : Nat
  kind : Nat
  tag : Nat
deriving DecidableEq, Repr

/-- Why a line of the directory is BUSY (R223, R224). -/
inductive TxnKind where
  | homeWrite | homeRead | forward | invalidate | free
deriving DecidableEq, Repr

/-- A transaction on a line whose BUSY is set: who must answer, whom it serves, the entry it ends in (none: V), and whether another
agent has supplied the request. -/
structure Txn where
  kind : TxnKind
  req : Option CohReq
  waiting : List Nat
  next : Option DirEntry
  served : Bool
deriving DecidableEq, Repr

/-- A forward or recall that reached this device as an outside agent before its grant (R227). -/
structure HeldFwd where
  line : Nat
  dest : Nat
  kind : Nat
  tag : Nat
deriving DecidableEq, Repr

/-- The shore caches and the directory. `wants` holds this device's requests to the homes of other lines: 0 READ, 1 RX, 2 OWN, plus 4 times the
request's tag. Tags of this device's own: 4 n for a request, 4 n + 1 for a write, 4 n + 2 for a multicast segment, 4 n + 3 for a coherence request. -/
structure Shore where
  lines : Tbl Line
  fills : Tbl Fill
  dir : Tbl DirEntry
  txn : Tbl Txn
  queue : Tbl (List CohReq)
  wants : Tbl Nat
  heldFwd : List HeldFwd
  grants : Nat
  homeMap : Tbl Nat
deriving DecidableEq, Repr

/-- The shore caches and the directory at start. -/
def Shore.reset : Shore :=
  { lines := [], fills := [], dir := [], txn := [], queue := [], wants := [], heldFwd := [], grants := 0, homeMap := [] }

/-- A fault record (R277). `phase`: 0 open, 1 closed, 2 written, 3 resumed. -/
structure FltRec where
  inst : Nat
  island : Nat
  page : Nat
  cause : Nat
  level : Nat
  access : Nat
  engines : Nat
  va : Nat
  terminal : Bool
  tick : Nat
  batch : Nat
  index : Nat
  phase : Nat
deriving DecidableEq, Repr

/-- An instance's fault batch state (R273, R275). -/
structure FltInst where
  base : Nat
  sizeLog2 : Nat
  vector : Nat
  ringSet : Bool
  producer : Nat
  consumed : Nat
  lastBatch : Nat
  openTick : Option Nat
  waitedFull : Bool
deriving DecidableEq, Repr

/-- An XLATE_INVALIDATE in progress (R280): range, PIN, the requests and the writes (core, issue place) its drain waits for,
its HW tick at step 2, and the command that completes (none for firmware's own, of a page move). -/
structure Inval where
  inst : Nat
  all : Bool
  base : Nat
  pages : Nat
  pin : Bool
  reqs : List Nat
  writes : List (Nat × Nat)
  tick : Nat
  cmd : Option Nat
deriving DecidableEq, Repr

/-- A page move (R254): instance, virtual page, source and destination frames (64 KiB numbers), the leaf's address,
whether the drain has ended, and whether a park or resume asked for it. -/
structure Move where
  inst : Nat
  va : Nat
  src : Nat
  dst : Nat
  leaf : Nat
  drained : Bool
  forPark : Bool
  session : Option Nat
deriving DecidableEq, Repr

/-- A regulator entry (R250): WEIGHT, CAP, use in this window, and values that take effect at the next one. -/
structure Regulator where
  weight : Nat
  cap : Nat
  used : Nat
  next : Option (Nat × Nat)
deriving DecidableEq, Repr

/-- Thermal bookkeeping of a stack or package beyond its register (R256 to R258). -/
structure ThermalUnit where
  hotSince : Option Nat
  paused : Bool
deriving DecidableEq, Repr

/-- The controllers, the address map and page migration. `listA` and `listB` are the channel lists (R238): tier A channel c of
stack s is 128 s + c, tier B channel h of package k is 1024 + 4 k + h. `wcb` and `samples` are keyed by die (0 MN, 1 MS),
`uncorrTicks` by channel, `regul` by 34 * group + requester with groups 0 to 63 of tier A and 64 to 95 of tier B, `pools`
(free migration frames) by instance, `counters` (R253) by 64 KiB page, `units` by stack (0 to 7) or 8 + package. `asleep` lists
groups in self-refresh (R457), `cold` pages found cold in the last period. -/
structure Mem where
  wcb : Tbl (List WcbEntry)
  writes : List MemWr
  listA : List Nat
  listB : List Nat
  uncorrTicks : Tbl (List Nat)
  regul : Tbl Regulator
  pools : Tbl (List Nat)
  counters : Tbl Nat
  cold : List Nat
  moves : List Move
  units : Tbl ThermalUnit
  asleep : List Nat
  samples : Tbl Nat
  scrubNext : Nat
deriving DecidableEq, Repr

/-- The controllers at start, before any channel is mapped. -/
def Mem.reset : Mem :=
  { wcb := [], writes := [], listA := [], listB := [], uncorrTicks := [], regul := [], pools := [], counters := [], cold := [], moves := [],
    units := [], asleep := [], samples := [], scrubNext := 0 }

/-- Tiers that hold zeros (R240). -/
def Dram.zero : Dram := { cells := [], poison := [], held := [], scrambled := [] }

/-- Translation and fault collection. -/
structure Xlate where
  l2 : List (Nat × Tlb)
  recs : Tbl FltRec
  nextRec : Nat
  insts : Tbl FltInst
  invals : List Inval
deriving DecidableEq, Repr

/-- Translation at start. -/
def Xlate.reset : Xlate := { l2 := [], recs := [], nextRec := 0, insts := [], invals := [] }

end Sys2Proof.Machine
end

