-- ==== Sys2Proof/Machine/Dram.lean ====
section
/-!
DEFINITION. The contents of the two memory tiers (R234, R236, R240): bytes, sectors, POISON and HELD_DIRTY marks, and the
canonical form of the list of bytes.
-/
namespace Sys2Proof.Machine

/-- What a byte with no entry reads: 0 (R240), or in a frame whose key changed (R408) a value the spec leaves open. -/
def dramDefault (sc : Tbl Nat) (a : Nat) : Byte :=
  match tget sc (a / 2 ^ 21) with
  | none => 0
  | some g => Config.scrambledByte g a

/-- The byte an entry lists. -/
def cellGet : List Host.Cell → Nat → Option Byte
  | [], _ => none
  | (a', b) :: t, a => if a' = a then some b else cellGet t a

/-- Write a byte, keeping addresses rising and listing no byte that equals what an unlisted one reads. -/
def cellSet (dflt : Byte) : List Host.Cell → Nat → Byte → List Host.Cell
  | [], a, b => if b = dflt then [] else [(a, b)]
  | (a', b') :: t, a, b =>
    if a' = a then (if b = dflt then t else (a, b) :: t)
    else if a < a' then (if b = dflt then (a', b') :: t else (a, b) :: (a', b') :: t)
    else (a', b') :: cellSet dflt t a b

/-- A byte of memory by local physical address. DEDUCED: log entries 95, 117. -/
def dramByte (d : Dram) (a : Nat) : Byte := (cellGet d.cells a).getD (dramDefault d.scrambled a)

/-- Write a byte of memory. -/
def dramSet (d : Dram) (a : Nat) (b : Byte) : Dram := { d with cells := cellSet (dramDefault d.scrambled a) d.cells a b }

/-- Addresses rise strictly. -/
def cellsRise : List Host.Cell → Bool
  | [] => true
  | [_] => true
  | a :: b :: t => decide (a.1 < b.1) && cellsRise (b :: t)

/-- The canonical form: addresses rise strictly and no entry equals what an unlisted address reads. -/
def Memory.wf (d : Dram) : Bool := cellsRise d.cells && d.cells.all (fun c => c.2 != dramDefault d.scrambled c.1)

/-- Bring a memory to its canonical form: the same bytes, listed canonically. -/
def dramCanon (d : Dram) : Dram :=
  { d with cells := d.cells.foldr (fun c acc => cellSet (dramDefault d.scrambled c.1) acc c.1 c.2) [] }

/-- The 32 bytes of a sector, as a number. -/
def dramSector (d : Dram) (sec : Nat) : BitVec 256 :=
  BitVec.ofNat 256 (ofLe ((List.range 32).map (fun i => dramByte d (32 * sec + i))))

/-- Byte i of a number. -/
def byteAt (x i : Nat) : Byte := BitVec.ofNat 8 (x / 2 ^ (8 * i))

/-- Write the bytes of a sector that a mask names. -/
def dramMerge (d : Dram) (sec : Nat) (mask : BitVec 32) (data : BitVec 256) : Dram :=
  (setBitsOf 32 mask.toNat).foldl (fun d i => dramSet d (32 * sec + i) (byteAt data.toNat i)) d

/-- A sector is marked poisoned (R234). -/
def dramPoisoned (d : Dram) (sec : Nat) : Bool := d.poison.contains sec

/-- Write a sector's POISON bit. -/
def dramSetPoison (d : Dram) (sec : Nat) (p : Bool) : Dram :=
  { d with poison := if p then insertNat sec d.poison else d.poison.filter (· != sec) }

/-- Write a line's HELD_DIRTY mark (R213). -/
def dramSetHeld (d : Dram) (line : Nat) (h : Bool) : Dram :=
  { d with held := if h then insertNat line d.held else d.held.filter (· != line) }

/-- Zero a 2 MiB frame (R240, R405): every byte 0, POISON and HELD_DIRTY clear. -/
def dramZeroFrame (d : Dram) (frame : Nat) : Dram :=
  { cells := d.cells.filter (fun c => c.1 / 2 ^ 21 != frame),
    poison := d.poison.filter (fun x => x / 2 ^ 16 != frame),
    held := d.held.filter (fun x => x / 2 ^ 15 != frame),
    scrambled := tdel d.scrambled frame }

/-- A frame's key changes (R402, R408): what its bytes read is left open; the marks are not enciphered (R401). -/
def dramScrambleFrame (d : Dram) (frame gen : Nat) : Dram :=
  { d with cells := d.cells.filter (fun c => c.1 / 2 ^ 21 != frame), scrambled := tset d.scrambled frame gen }

/-- A mask of bytes as a mask of bits. -/
def spread : Nat → Nat → Nat
  | 0, _ => 0
  | n + 1, m => (if m % 2 = 1 then 255 else 0) + 256 * spread n (m / 2)

/-- Replace the bytes of a sector that a mask names. -/
def merge256 (old new : BitVec 256) (mask : BitVec 32) : BitVec 256 :=
  let m := BitVec.ofNat 256 (spread 32 mask.toNat)
  (old &&& ~~~m) ||| (new &&& m)

/-- Half h of a line. -/
def halfOf (l : BitVec 512) (h : Nat) : BitVec 256 := BitVec.ofNat 256 (l.toNat / 2 ^ (256 * h))

/-- Replace half h of a line. -/
def setHalf (l : BitVec 512) (h : Nat) (v : BitVec 256) : BitVec 512 :=
  if h = 0 then BitVec.ofNat 512 (l.toNat / 2 ^ 256 * 2 ^ 256 + v.toNat)
  else BitVec.ofNat 512 (l.toNat % 2 ^ 256 + v.toNat * 2 ^ 256)

end Sys2Proof.Machine
end

