-- ==== Sys2Proof/Machine/RegMap.lean ====
section
/-!
DEFINITION. The register map: the offset of every manager register, every field of the register tables, and the reset
values the tables give. Offsets are from the base of the physical-function manager window; WCH_BOOT registers,
HST_BAR2_VA and HST_INST_STATUS lie in each instance window (R314, R392).
-/
namespace Sys2Proof.Machine

/-- A register field: register offset, lowest bit, width. -/
structure Fld where
  off : Nat
  lo : Nat
  width : Nat
deriving DecidableEq, Repr

namespace Reg

/-- BRG_MODULE_ID (R29). -/
abbrev BRG_MODULE_ID : Nat := 0x100000
/-- BRG_MODULE_SERIAL (R29). -/
abbrev BRG_MODULE_SERIAL : Nat := 0x100008
/-- BRG_PKG_LEVEL (R29). -/
abbrev BRG_PKG_LEVEL : Nat := 0x100010
/-- BRG_ENABLE_MAP (R29). -/
abbrev BRG_ENABLE_MAP : Nat := 0x100018
/-- BRG_SPARE_MAP (R29). -/
abbrev BRG_SPARE_MAP : Nat := 0x100020
/-- BRG_LOST_MAP (R29). -/
abbrev BRG_LOST_MAP : Nat := 0x100028
/-- BRG_SITE_STATUS_n (R29). -/
abbrev BRG_SITE_STATUS (n : Nat) : Nat := 0x100100 + 8 * n
/-- BRG_EDGE_STATUS_d (R29). -/
abbrev BRG_EDGE_STATUS (d : Nat) : Nat := 0x100400 + 8 * d
/-- STR_MESH_STATUS (R54). -/
abbrev STR_MESH_STATUS : Nat := 0x110000
/-- STR_MESH_BW (R54). -/
abbrev STR_MESH_BW : Nat := 0x110008
/-- STR_EDGE_BW (R54). -/
abbrev STR_EDGE_BW : Nat := 0x110010
/-- STR_LANE_POLICY (R54). -/
abbrev STR_LANE_POLICY : Nat := 0x110018
/-- STR_CNT_ROTATIONS (R54). -/
abbrev STR_CNT_ROTATIONS : Nat := 0x110040
/-- STR_CNT_NARROWINGS (R54). -/
abbrev STR_CNT_NARROWINGS : Nat := 0x110048
/-- STR_CNT_BUNDLE_LOSSES (R54). -/
abbrev STR_CNT_BUNDLE_LOSSES : Nat := 0x110050
/-- STR_CNT_STRAIT_LOSSES (R54). -/
abbrev STR_CNT_STRAIT_LOSSES : Nat := 0x110058
/-- STR_CNT_ROUTE_SWITCHES (R54). -/
abbrev STR_CNT_ROUTE_SWITCHES : Nat := 0x110060
/-- STR_CNT_SLOW_REROUTES (R54). -/
abbrev STR_CNT_SLOW_REROUTES : Nat := 0x110068
/-- STR_STRAIT_STATUS_k (R54). -/
abbrev STR_STRAIT_STATUS (k : Nat) : Nat := 0x110100 + 8 * k
/-- STR_BD_STATUS (R54). -/
abbrev STR_BD_STATUS (k b d : Nat) : Nat := 0x120000 + 1024 * k + 128 * b + 64 * d + 0x00
/-- STR_BD_LANE_MAP (R54). -/
abbrev STR_BD_LANE_MAP (k b d : Nat) : Nat := 0x120000 + 1024 * k + 128 * b + 64 * d + 0x08
/-- STR_BD_LANE_FAIL_LO (R54). -/
abbrev STR_BD_LANE_FAIL_LO (k b d : Nat) : Nat := 0x120000 + 1024 * k + 128 * b + 64 * d + 0x10
/-- STR_BD_LANE_FAIL_HI (R54). -/
abbrev STR_BD_LANE_FAIL_HI (k b d : Nat) : Nat := 0x120000 + 1024 * k + 128 * b + 64 * d + 0x18
/-- STR_BD_CRC_ERRORS (R54). -/
abbrev STR_BD_CRC_ERRORS (k b d : Nat) : Nat := 0x120000 + 1024 * k + 128 * b + 64 * d + 0x20
/-- STR_BD_REPLAYS (R54). -/
abbrev STR_BD_REPLAYS (k b d : Nat) : Nat := 0x120000 + 1024 * k + 128 * b + 64 * d + 0x28
/-- STR_BD_VC0_PREEMPTS (R54). -/
abbrev STR_BD_VC0_PREEMPTS (k b d : Nat) : Nat := 0x120000 + 1024 * k + 128 * b + 64 * d + 0x30
/-- MXE_CORE_STATUS (R156). -/
abbrev MXE_CORE_STATUS (c : Nat) : Nat := 0x140000 + 64 * c + 0x00
/-- MXE_CNT_BUSY_CYCLES (R156). -/
abbrev MXE_CNT_BUSY_CYCLES (c : Nat) : Nat := 0x140000 + 64 * c + 0x08
/-- MXE_CNT_MAC_ROWS (R156). -/
abbrev MXE_CNT_MAC_ROWS (c : Nat) : Nat := 0x140000 + 64 * c + 0x10
/-- MXE_CNT_OUT_ROWS (R156). -/
abbrev MXE_CNT_OUT_ROWS (c : Nat) : Nat := 0x140000 + 64 * c + 0x18
/-- MXE_CNT_POISON_TILES (R156). -/
abbrev MXE_CNT_POISON_TILES (c : Nat) : Nat := 0x140000 + 64 * c + 0x20
/-- MXE_CNT_REJECTS (R156). -/
abbrev MXE_CNT_REJECTS (c : Nat) : Nat := 0x140000 + 64 * c + 0x28
/-- MXE_CNT_STALL_CYCLES (R156). -/
abbrev MXE_CNT_STALL_CYCLES (c : Nat) : Nat := 0x140000 + 64 * c + 0x30
/-- SHC_STATUS (R233). -/
abbrev SHC_STATUS : Nat := 0x150000
/-- SHC_HOME_MAP_BASE (R233). -/
abbrev SHC_HOME_MAP_BASE : Nat := 0x150008
/-- SHC_DIR_PROBE_ADDR (R233). -/
abbrev SHC_DIR_PROBE_ADDR : Nat := 0x150010
/-- SHC_DIR_PROBE_LO (R233). -/
abbrev SHC_DIR_PROBE_LO : Nat := 0x150018
/-- SHC_DIR_PROBE_HI (R233). -/
abbrev SHC_DIR_PROBE_HI : Nat := 0x150020
/-- SHC_CNT_HITS (R233). -/
abbrev SHC_CNT_HITS : Nat := 0x150040
/-- SHC_CNT_MISSES (R233). -/
abbrev SHC_CNT_MISSES : Nat := 0x150048
/-- SHC_CNT_WRITEBACKS (R233). -/
abbrev SHC_CNT_WRITEBACKS : Nat := 0x150050
/-- SHC_CNT_FORWARDS (R233). -/
abbrev SHC_CNT_FORWARDS : Nat := 0x150058
/-- SHC_CNT_BACK_INVALIDATES (R233). -/
abbrev SHC_CNT_BACK_INVALIDATES : Nat := 0x150060
/-- SHC_CNT_DIR_EVICTIONS (R233). -/
abbrev SHC_CNT_DIR_EVICTIONS : Nat := 0x150068
/-- SHC_CNT_RACE_QUEUED (R233). -/
abbrev SHC_CNT_RACE_QUEUED : Nat := 0x150070
/-- SHC_CNT_LOST_DIRTY (R233). -/
abbrev SHC_CNT_LOST_DIRTY : Nat := 0x150078
/-- SHC_CNT_STALE_EPOCH (R233). -/
abbrev SHC_CNT_STALE_EPOCH : Nat := 0x150080
/-- SHC_CNT_RECLAIMS (R233). -/
abbrev SHC_CNT_RECLAIMS : Nat := 0x150088
/-- SHC_CNT_POISON_READS (R233). -/
abbrev SHC_CNT_POISON_READS : Nat := 0x150090
/-- SHC_CNT_HOMEMAP_MISSES (R233). -/
abbrev SHC_CNT_HOMEMAP_MISSES : Nat := 0x150098
/-- SHC_HOME_SET_n (R233). -/
abbrev SHC_HOME_SET (n : Nat) : Nat := 0x150200 + 8 * n
/-- SHC_SLICE_STATUS_i (R233). -/
abbrev SHC_SLICE_STATUS (i : Nat) : Nat := 0x150400 + 8 * i
/-- SHC_EPOCH_m (R233). -/
abbrev SHC_EPOCH (m : Nat) : Nat := 0x150600 + 8 * m
/-- MEM_TIER_A_STATUS (R261). -/
abbrev MEM_TIER_A_STATUS : Nat := 0x160000
/-- MEM_TIER_A_CAP (R261). -/
abbrev MEM_TIER_A_CAP : Nat := 0x160008
/-- MEM_TIER_B_STATUS (R261). -/
abbrev MEM_TIER_B_STATUS : Nat := 0x160010
/-- MEM_TIER_B_CAP (R261). -/
abbrev MEM_TIER_B_CAP : Nat := 0x160018
/-- MEM_RSVD_A (R261). -/
abbrev MEM_RSVD_A : Nat := 0x160020
/-- MEM_RSVD_B (R261). -/
abbrev MEM_RSVD_B : Nat := 0x160028
/-- MEM_MIG_POLICY (R261). -/
abbrev MEM_MIG_POLICY : Nat := 0x160030
/-- MEM_SCRUB_POLICY (R261). -/
abbrev MEM_SCRUB_POLICY : Nat := 0x160038
/-- MEM_CNT_CORRECTED (R261). -/
abbrev MEM_CNT_CORRECTED : Nat := 0x160040
/-- MEM_CNT_UNCORRECTED (R261). -/
abbrev MEM_CNT_UNCORRECTED : Nat := 0x160048
/-- MEM_CNT_LINK_RETRIES (R261). -/
abbrev MEM_CNT_LINK_RETRIES : Nat := 0x160050
/-- MEM_CNT_RMW (R261). -/
abbrev MEM_CNT_RMW : Nat := 0x160058
/-- MEM_CNT_WCB_MERGES (R261). -/
abbrev MEM_CNT_WCB_MERGES : Nat := 0x160060
/-- MEM_CNT_HOLE_WRITES (R261). -/
abbrev MEM_CNT_HOLE_WRITES : Nat := 0x160068
/-- MEM_CNT_UNMAPPED (R261). -/
abbrev MEM_CNT_UNMAPPED : Nat := 0x160070
/-- MEM_CNT_MIGRATIONS_UP (R261). -/
abbrev MEM_CNT_MIGRATIONS_UP : Nat := 0x160078
/-- MEM_CNT_MIGRATIONS_DOWN (R261). -/
abbrev MEM_CNT_MIGRATIONS_DOWN : Nat := 0x160080
/-- MEM_CNT_THERMAL_EVENTS (R261). -/
abbrev MEM_CNT_THERMAL_EVENTS : Nat := 0x160088
/-- MEM_A_CHAN_s_c (R261). -/
abbrev MEM_A_CHAN (s c : Nat) : Nat := 0x161000 + 8 * (128 * s + c)
/-- MEM_B_CHAN_k_h (R261). -/
abbrev MEM_B_CHAN (k h : Nat) : Nat := 0x163000 + 8 * (4 * k + h)
/-- MEM_B_PKG_k (R261). -/
abbrev MEM_B_PKG (k : Nat) : Nat := 0x163400 + 8 * k
/-- MEM_A_THERMAL_s (R261). -/
abbrev MEM_A_THERMAL (s : Nat) : Nat := 0x163800 + 8 * s
/-- TRN_ROOT_i (R283). -/
abbrev TRN_ROOT (i : Nat) : Nat := 0x170000 + 64 * i
/-- TRN_STATUS_i (R283). -/
abbrev TRN_STATUS (i : Nat) : Nat := 0x170008 + 64 * i
/-- TRN_CNT_WALKS_i (R283). -/
abbrev TRN_CNT_WALKS (i : Nat) : Nat := 0x170010 + 64 * i
/-- TRN_CNT_L2_MISSES_i (R283). -/
abbrev TRN_CNT_L2_MISSES (i : Nat) : Nat := 0x170018 + 64 * i
/-- TRN_CNT_INVALIDATES_i (R283). -/
abbrev TRN_CNT_INVALIDATES (i : Nat) : Nat := 0x170020 + 64 * i
/-- TRN_DRAIN_MAX_i (R283). -/
abbrev TRN_DRAIN_MAX (i : Nat) : Nat := 0x170028 + 64 * i
/-- FLT_RING_i (R283). -/
abbrev FLT_RING (i : Nat) : Nat := 0x171000 + 64 * i
/-- FLT_STATUS_i (R283). -/
abbrev FLT_STATUS (i : Nat) : Nat := 0x171008 + 64 * i
/-- FLT_CNT_RECORDS_i (R283). -/
abbrev FLT_CNT_RECORDS (i : Nat) : Nat := 0x171010 + 64 * i
/-- FLT_CNT_MERGED_i (R283). -/
abbrev FLT_CNT_MERGED (i : Nat) : Nat := 0x171018 + 64 * i
/-- FLT_CNT_LATE_JOINS_i (R283). -/
abbrev FLT_CNT_LATE_JOINS (i : Nat) : Nat := 0x171020 + 64 * i
/-- FLT_CNT_RING_FULL_i (R283). -/
abbrev FLT_CNT_RING_FULL (i : Nat) : Nat := 0x171028 + 64 * i
/-- FLT_CNT_TABLE_FULL_i (R283). -/
abbrev FLT_CNT_TABLE_FULL (i : Nat) : Nat := 0x171030 + 64 * i
/-- FLT_CNT_NO_RING_i (R283). -/
abbrev FLT_CNT_NO_RING (i : Nat) : Nat := 0x171038 + 64 * i
/-- WCH_BOOT_RING (R314), in the instance window. -/
abbrev WCH_BOOT_RING : Nat := 0x002000
/-- WCH_BOOT_CPL (R314), in the instance window. -/
abbrev WCH_BOOT_CPL : Nat := 0x002008
/-- WCH_BOOT_WATCH (R314), in the instance window. -/
abbrev WCH_BOOT_WATCH : Nat := 0x002010
/-- WCH_BOOT_CTL (R314), in the instance window. -/
abbrev WCH_BOOT_CTL : Nat := 0x002018
/-- WCH_STATUS (R314). -/
abbrev WCH_STATUS : Nat := 0x180000
/-- WCH_CNT_WAKES (R314). -/
abbrev WCH_CNT_WAKES : Nat := 0x180008
/-- WCH_CNT_SPURIOUS (R314). -/
abbrev WCH_CNT_SPURIOUS : Nat := 0x180010
/-- WCH_CNT_ENTRIES (R314). -/
abbrev WCH_CNT_ENTRIES : Nat := 0x180018
/-- SES_TABLE_BASE (R314). -/
abbrev SES_TABLE_BASE : Nat := 0x180020
/-- SES_STATUS (R314). -/
abbrev SES_STATUS : Nat := 0x180028
/-- SES_CNT_STEPS (R314). -/
abbrev SES_CNT_STEPS : Nat := 0x180030
/-- SES_CNT_REJECTS (R314). -/
abbrev SES_CNT_REJECTS : Nat := 0x180038
/-- SES_CNT_INPUT_REJECTS (R314). -/
abbrev SES_CNT_INPUT_REJECTS : Nat := 0x180040
/-- SES_CNT_FAILED (R314). -/
abbrev SES_CNT_FAILED : Nat := 0x180048
/-- SES_CNT_CACHE_MISSES (R314). -/
abbrev SES_CNT_CACHE_MISSES : Nat := 0x180050
/-- SES_CLASS_CFG_k (R314). -/
abbrev SES_CLASS_CFG (k : Nat) : Nat := 0x180100 + 32 * k
/-- SES_CLASS_LAT_k (R314). -/
abbrev SES_CLASS_LAT (k : Nat) : Nat := 0x180108 + 32 * k
/-- SES_CLASS_CNT_STEPS_k (R314). -/
abbrev SES_CLASS_CNT_STEPS (k : Nat) : Nat := 0x180110 + 32 * k
/-- SES_CLASS_CNT_MISSES_k (R314). -/
abbrev SES_CLASS_CNT_MISSES (k : Nat) : Nat := 0x180118 + 32 * k
/-- SES_JNL_STATUS_i (R330). -/
abbrev SES_JNL_STATUS (i : Nat) : Nat := 0x181000 + 32 * i
/-- SES_JNL_CNT_RECORDS_i (R330). -/
abbrev SES_JNL_CNT_RECORDS (i : Nat) : Nat := 0x181008 + 32 * i
/-- SES_JNL_CNT_LOST_i (R330). -/
abbrev SES_JNL_CNT_LOST (i : Nat) : Nat := 0x181010 + 32 * i
/-- SES_JNL_CNT_DIVERGE_i (R330). -/
abbrev SES_JNL_CNT_DIVERGE (i : Nat) : Nat := 0x181018 + 32 * i
/-- FAB_STATUS (R369). -/
abbrev FAB_STATUS : Nat := 0x190000
/-- FAB_PROGRESS (R369). -/
abbrev FAB_PROGRESS : Nat := 0x190008
/-- FAB_POLICY (R369). -/
abbrev FAB_POLICY : Nat := 0x190010
/-- FAB_CNT_ADMITS (R369). -/
abbrev FAB_CNT_ADMITS : Nat := 0x190040
/-- FAB_CNT_DEPARTS (R369). -/
abbrev FAB_CNT_DEPARTS : Nat := 0x190048
/-- FAB_CNT_REROUTES (R369). -/
abbrev FAB_CNT_REROUTES : Nat := 0x190050
/-- FAB_CNT_TRANSIT (R369). -/
abbrev FAB_CNT_TRANSIT : Nat := 0x190058
/-- FAB_CNT_TRANSIT_DROPS (R369). -/
abbrev FAB_CNT_TRANSIT_DROPS : Nat := 0x190060
/-- FAB_CNT_EXPORT_DENIED (R369). -/
abbrev FAB_CNT_EXPORT_DENIED : Nat := 0x190068
/-- FAB_CNT_MCAST_RETRIES (R369). -/
abbrev FAB_CNT_MCAST_RETRIES : Nat := 0x190070
/-- FAB_CNT_MCAST_MISSED (R369). -/
abbrev FAB_CNT_MCAST_MISSED : Nat := 0x190078
/-- FAB_CNT_AUTH_FAILS (R369). -/
abbrev FAB_CNT_AUTH_FAILS : Nat := 0x190080
/-- FAB_CNT_BAD_MESSAGES (R369). -/
abbrev FAB_CNT_BAD_MESSAGES : Nat := 0x190088
/-- FAB_CNT_PACE_EVENTS (R369). -/
abbrev FAB_CNT_PACE_EVENTS : Nat := 0x190090
/-- FAB_PORT_STATUS (R369). -/
abbrev FAB_PORT_STATUS (p : Nat) : Nat := 0x191000 + 128 * p + 0x00
/-- FAB_PORT_CNT_TX (R369). -/
abbrev FAB_PORT_CNT_TX (p : Nat) : Nat := 0x191000 + 128 * p + 0x08
/-- FAB_PORT_CNT_RX (R369). -/
abbrev FAB_PORT_CNT_RX (p : Nat) : Nat := 0x191000 + 128 * p + 0x10
/-- FAB_PORT_CNT_FEC (R369). -/
abbrev FAB_PORT_CNT_FEC (p : Nat) : Nat := 0x191000 + 128 * p + 0x18
/-- FAB_PORT_CNT_CRC (R369). -/
abbrev FAB_PORT_CNT_CRC (p : Nat) : Nat := 0x191000 + 128 * p + 0x20
/-- FAB_PORT_CNT_REPLAYS (R369). -/
abbrev FAB_PORT_CNT_REPLAYS (p : Nat) : Nat := 0x191000 + 128 * p + 0x28
/-- FAB_PORT_CNT_TAG_FAILS (R369). -/
abbrev FAB_PORT_CNT_TAG_FAILS (p : Nat) : Nat := 0x191000 + 128 * p + 0x30
/-- FAB_PORT_CNT_VC0_PREEMPTS (R369). -/
abbrev FAB_PORT_CNT_VC0_PREEMPTS (p : Nat) : Nat := 0x191000 + 128 * p + 0x38
/-- FAB_PORT_CNT_RETRAINS (R369). -/
abbrev FAB_PORT_CNT_RETRAINS (p : Nat) : Nat := 0x191000 + 128 * p + 0x40
/-- HST_STATUS (R392). -/
abbrev HST_STATUS : Nat := 0x1A0000
/-- HST_POLICY (R392). -/
abbrev HST_POLICY : Nat := 0x1A0008
/-- HST_CNT_ACCESS_ERRORS (R392). -/
abbrev HST_CNT_ACCESS_ERRORS : Nat := 0x1A0040
/-- HST_CNT_LINK_RETRIES (R392). -/
abbrev HST_CNT_LINK_RETRIES : Nat := 0x1A0048
/-- HST_CNT_MEM_REFUSED (R392). -/
abbrev HST_CNT_MEM_REFUSED : Nat := 0x1A0050
/-- HST_CNT_BAR2_REFUSED (R392). -/
abbrev HST_CNT_BAR2_REFUSED : Nat := 0x1A0058
/-- HST_CNT_BI_SENT (R392). -/
abbrev HST_CNT_BI_SENT : Nat := 0x1A0060
/-- HST_CNT_BI_TIMEOUTS (R392). -/
abbrev HST_CNT_BI_TIMEOUTS : Nat := 0x1A0068
/-- HST_CNT_POISON_SENT (R392). -/
abbrev HST_CNT_POISON_SENT : Nat := 0x1A0070
/-- HST_CNT_IDE_FAILS (R392). -/
abbrev HST_CNT_IDE_FAILS : Nat := 0x1A0078
/-- HST_CNT_HOST_DEPARTS (R392). -/
abbrev HST_CNT_HOST_DEPARTS : Nat := 0x1A0080
/-- HST_CNT_LOST_HOST_LINES (R392). -/
abbrev HST_CNT_LOST_HOST_LINES : Nat := 0x1A0088
/-- HST_CNT_DROPPED_CPL (R392). -/
abbrev HST_CNT_DROPPED_CPL : Nat := 0x1A0090
/-- HST_BIND_STATUS (R392). -/
abbrev HST_BIND_STATUS (h : Nat) : Nat := 0x1A0100 + 64 * h + 0x00
/-- HST_BIND_BASE0 (R392). -/
abbrev HST_BIND_BASE0 (h : Nat) : Nat := 0x1A0100 + 64 * h + 0x08
/-- HST_BIND_LIMIT0 (R392). -/
abbrev HST_BIND_LIMIT0 (h : Nat) : Nat := 0x1A0100 + 64 * h + 0x10
/-- HST_BIND_BASE1 (R392). -/
abbrev HST_BIND_BASE1 (h : Nat) : Nat := 0x1A0100 + 64 * h + 0x18
/-- HST_BIND_LIMIT1 (R392). -/
abbrev HST_BIND_LIMIT1 (h : Nat) : Nat := 0x1A0100 + 64 * h + 0x20
/-- HST_BAR2_VA (R392), in the instance window. -/
abbrev HST_BAR2_VA : Nat := 0x003000
/-- HST_INST_STATUS (R392), in the instance window. -/
abbrev HST_INST_STATUS : Nat := 0x003008
/-- INS_STATUS_i (R418). -/
abbrev INS_STATUS (i : Nat) : Nat := 0x1B0000 + 64 * i + 0x00
/-- INS_ISLANDS_i (R418). -/
abbrev INS_ISLANDS (i : Nat) : Nat := 0x1B0000 + 64 * i + 0x08
/-- INS_SESSIONS_i (R418). -/
abbrev INS_SESSIONS (i : Nat) : Nat := 0x1B0000 + 64 * i + 0x10
/-- INS_QUOTA_i (R418). -/
abbrev INS_QUOTA (i : Nat) : Nat := 0x1B0000 + 64 * i + 0x18
/-- INS_FRAMES_i (R418). -/
abbrev INS_FRAMES (i : Nat) : Nat := 0x1B0000 + 64 * i + 0x20
/-- INS_CNT_RESETS_i (R418). -/
abbrev INS_CNT_RESETS (i : Nat) : Nat := 0x1B0000 + 64 * i + 0x28
/-- INS_CNT_FATAL_i (R418). -/
abbrev INS_CNT_FATAL (i : Nat) : Nat := 0x1B0000 + 64 * i + 0x30
/-- SEC_STATUS (R446). -/
abbrev SEC_STATUS : Nat := 0x1D0000
/-- SEC_FW_VERSION (R446). -/
abbrev SEC_FW_VERSION : Nat := 0x1D0008
/-- SEC_SB_ROOT_j (R446). -/
abbrev SEC_SB_ROOT (j : Nat) : Nat := 0x1D0040 + 8 * j
/-- SEC_MEAS_n_j (R446). -/
abbrev SEC_MEAS (n j : Nat) : Nat := 0x1D0100 + 64 * n + 8 * j
/-- SEC_PERM_r (R446). -/
abbrev SEC_PERM (r : Nat) : Nat := 0x1D0800 + 8 * r
/-- LOG_HEAD (R446). -/
abbrev LOG_HEAD : Nat := 0x1E0000
/-- LOG_OLDEST (R446). -/
abbrev LOG_OLDEST : Nat := 0x1E0008
/-- LOG_RING_BASE (R446). -/
abbrev LOG_RING_BASE : Nat := 0x1E0010
/-- LOG_EPOCH (R446). -/
abbrev LOG_EPOCH : Nat := 0x1E0018
/-- LOG_CP_LAST (R446). -/
abbrev LOG_CP_LAST : Nat := 0x1E0020
/-- LOG_CHAIN_j (R446). -/
abbrev LOG_CHAIN (j : Nat) : Nat := 0x1E0040 + 8 * j
/-- LOG_CNT_ENTRIES (R446). -/
abbrev LOG_CNT_ENTRIES : Nat := 0x1E0100
/-- LOG_CNT_OVERWRITTEN (R446). -/
abbrev LOG_CNT_OVERWRITTEN : Nat := 0x1E0108
/-- LOG_CNT_CHECKPOINTS (R446). -/
abbrev LOG_CNT_CHECKPOINTS : Nat := 0x1E0110
/-- LOG_CNT_FLASH_FAILS (R446). -/
abbrev LOG_CNT_FLASH_FAILS : Nat := 0x1E0118
/-- LOG_CNT_DENIED (R446). -/
abbrev LOG_CNT_DENIED : Nat := 0x1E0120
/-- LOG_CNT_AUTH_FAILS (R446). -/
abbrev LOG_CNT_AUTH_FAILS : Nat := 0x1E0128
/-- PWR_STATUS (R473). -/
abbrev PWR_STATUS : Nat := 0x1F0000
/-- PWR_POLICY (R473). -/
abbrev PWR_POLICY : Nat := 0x1F0008
/-- PWR_IDLE_POLICY (R473). -/
abbrev PWR_IDLE_POLICY : Nat := 0x1F0010
/-- PWR_LIMITS (R473). -/
abbrev PWR_LIMITS : Nat := 0x1F0018
/-- PWR_ENERGY_DEVICE (R473). -/
abbrev PWR_ENERGY_DEVICE : Nat := 0x1F0040
/-- PWR_ENERGY_INST_i (R473). -/
abbrev PWR_ENERGY_INST (i : Nat) : Nat := 0x1F0100 + 8 * i
/-- PWR_ENERGY_CLASS_k (R473). -/
abbrev PWR_ENERGY_CLASS (k : Nat) : Nat := 0x1F0280 + 8 * k
/-- PWR_THR_DUR_r (R473). -/
abbrev PWR_THR_DUR (r : Nat) : Nat := 0x1F0300 + 16 * (r - 1)
/-- PWR_THR_CNT_r (R473). -/
abbrev PWR_THR_CNT (r : Nat) : Nat := 0x1F0308 + 16 * (r - 1)
/-- PWR_ISLAND_i (R473). -/
abbrev PWR_ISLAND (i : Nat) : Nat := 0x1F0400 + 8 * i
/-- THM_POLICY (R473). -/
abbrev THM_POLICY : Nat := 0x1F1000
/-- THM_ISLAND_i (R473). -/
abbrev THM_ISLAND (i : Nat) : Nat := 0x1F1100 + 8 * i
/-- CLK_STATUS (R473). -/
abbrev CLK_STATUS : Nat := 0x1F2000
/-- CLK_CNT_UNLOCKS (R473). -/
abbrev CLK_CNT_UNLOCKS : Nat := 0x1F2008
/-- CLK_CNT_STRETCH_CYCLES (R473). -/
abbrev CLK_CNT_STRETCH_CYCLES : Nat := 0x1F2010
/-- CLK_CNT_DROOP_DEFERRALS (R473). -/
abbrev CLK_CNT_DROOP_DEFERRALS : Nat := 0x1F2018
/-- BRG_ERR_STATUS (R498). -/
abbrev BRG_ERR_STATUS : Nat := 0x100800
/-- BRG_CNT_SRAM_CORRECTED (R498). -/
abbrev BRG_CNT_SRAM_CORRECTED : Nat := 0x100840
/-- BRG_CNT_SRAM_UNCORR (R498). -/
abbrev BRG_CNT_SRAM_UNCORR : Nat := 0x100848
/-- BRG_CNT_MIRROR_REPAIRS (R498). -/
abbrev BRG_CNT_MIRROR_REPAIRS : Nat := 0x100850
/-- BRG_CNT_REFETCHES (R498). -/
abbrev BRG_CNT_REFETCHES : Nat := 0x100858
/-- BRG_CNT_REFETCH_FAILS (R498). -/
abbrev BRG_CNT_REFETCH_FAILS : Nat := 0x100860
/-- BRG_CNT_ISLAND_LOSSES (R498). -/
abbrev BRG_CNT_ISLAND_LOSSES : Nat := 0x100868
/-- BRG_CNT_CTL_FAILOVERS (R498). -/
abbrev BRG_CNT_CTL_FAILOVERS : Nat := 0x100870
/-- BRG_CNT_POISON_FAULTS (R498). -/
abbrev BRG_CNT_POISON_FAULTS : Nat := 0x100878
/-- BRG_START_STATUS (R517). -/
abbrev BRG_START_STATUS : Nat := 0x100C00
/-- BRG_START_TICKS (R517). -/
abbrev BRG_START_TICKS : Nat := 0x100C08
/-- BRG_MEM_TEST (R517). -/
abbrev BRG_MEM_TEST : Nat := 0x100C10
/-- BRG_LANE_TEST (R517). -/
abbrev BRG_LANE_TEST : Nat := 0x100C18
/-- BRG_MARGIN_CTL (R517). -/
abbrev BRG_MARGIN_CTL : Nat := 0x100C40
/-- BRG_MARGIN_RESULT (R517). -/
abbrev BRG_MARGIN_RESULT : Nat := 0x100C48

end Reg

namespace RF

def BRG_MODULE_ID_PRODUCT : Fld := ⟨Reg.BRG_MODULE_ID, 0, 16⟩
def BRG_MODULE_ID_BOARD_REV : Fld := ⟨Reg.BRG_MODULE_ID, 16, 8⟩
def BRG_MODULE_ID_PANEL_REV : Fld := ⟨Reg.BRG_MODULE_ID, 24, 8⟩
def BRG_MODULE_SERIAL_SERIAL : Fld := ⟨Reg.BRG_MODULE_SERIAL, 0, 64⟩
def BRG_PKG_LEVEL_FEATURE_LEVEL : Fld := ⟨Reg.BRG_PKG_LEVEL, 0, 2⟩
def BRG_PKG_LEVEL_ENABLED_COUNT : Fld := ⟨Reg.BRG_PKG_LEVEL, 8, 6⟩
def BRG_PKG_LEVEL_B0_COUNT : Fld := ⟨Reg.BRG_PKG_LEVEL, 16, 6⟩
def BRG_PKG_LEVEL_B1_COUNT : Fld := ⟨Reg.BRG_PKG_LEVEL, 24, 6⟩
def BRG_PKG_LEVEL_SPARE_COUNT : Fld := ⟨Reg.BRG_PKG_LEVEL, 32, 6⟩
def BRG_PKG_LEVEL_DEFECTIVE_COUNT : Fld := ⟨Reg.BRG_PKG_LEVEL, 40, 6⟩
def BRG_PKG_LEVEL_BASE_STEP : Fld := ⟨Reg.BRG_PKG_LEVEL, 48, 4⟩
def BRG_PKG_LEVEL_EDGE_STEP : Fld := ⟨Reg.BRG_PKG_LEVEL, 52, 4⟩
def BRG_PKG_LEVEL_REDUCED : Fld := ⟨Reg.BRG_PKG_LEVEL, 56, 1⟩
def BRG_ENABLE_MAP_SITES : Fld := ⟨Reg.BRG_ENABLE_MAP, 0, 48⟩
def BRG_SPARE_MAP_SITES : Fld := ⟨Reg.BRG_SPARE_MAP, 0, 48⟩
def BRG_LOST_MAP_SITES : Fld := ⟨Reg.BRG_LOST_MAP, 0, 48⟩
def BRG_SITE_STATUS_STATE (n : Nat) : Fld := ⟨(Reg.BRG_SITE_STATUS n), 0, 2⟩
def BRG_SITE_STATUS_STEP (n : Nat) : Fld := ⟨(Reg.BRG_SITE_STATUS n), 2, 2⟩
def BRG_SITE_STATUS_LOGICAL (n : Nat) : Fld := ⟨(Reg.BRG_SITE_STATUS n), 8, 8⟩
def BRG_SITE_STATUS_CHECK (n : Nat) : Fld := ⟨(Reg.BRG_SITE_STATUS n), 16, 8⟩
def BRG_SITE_STATUS_DEFECT_ORIGIN (n : Nat) : Fld := ⟨(Reg.BRG_SITE_STATUS n), 32, 2⟩
def BRG_EDGE_STATUS_STEP (d : Nat) : Fld := ⟨(Reg.BRG_EDGE_STATUS d), 0, 4⟩
def BRG_EDGE_STATUS_CTL_PAIR0_OK (d : Nat) : Fld := ⟨(Reg.BRG_EDGE_STATUS d), 8, 1⟩
def BRG_EDGE_STATUS_CTL_PAIR1_OK (d : Nat) : Fld := ⟨(Reg.BRG_EDGE_STATUS d), 9, 1⟩
def BRG_EDGE_STATUS_STACKS_OK (d : Nat) : Fld := ⟨(Reg.BRG_EDGE_STATUS d), 16, 4⟩
def STR_MESH_STATUS_STRAITS_UP : Fld := ⟨Reg.STR_MESH_STATUS, 0, 7⟩
def STR_MESH_STATUS_STRAITS_DEGRADED : Fld := ⟨Reg.STR_MESH_STATUS, 8, 7⟩
def STR_MESH_STATUS_STRAITS_LOST : Fld := ⟨Reg.STR_MESH_STATUS, 16, 7⟩
def STR_MESH_STATUS_STRAITS_UNUSED : Fld := ⟨Reg.STR_MESH_STATUS, 24, 7⟩
def STR_MESH_STATUS_ROUTE_GEN : Fld := ⟨Reg.STR_MESH_STATUS, 32, 16⟩
def STR_MESH_STATUS_STANDBY_VALID : Fld := ⟨Reg.STR_MESH_STATUS, 48, 1⟩
def STR_MESH_BW_BISECT_COL_GBPS : Fld := ⟨Reg.STR_MESH_BW, 0, 16⟩
def STR_MESH_BW_BISECT_ROW_GBPS : Fld := ⟨Reg.STR_MESH_BW, 16, 16⟩
def STR_MESH_BW_MESH_TOTAL_GBPS : Fld := ⟨Reg.STR_MESH_BW, 32, 32⟩
def STR_EDGE_BW_HW_GBPS : Fld := ⟨Reg.STR_EDGE_BW, 0, 16⟩
def STR_EDGE_BW_HE_GBPS : Fld := ⟨Reg.STR_EDGE_BW, 16, 16⟩
def STR_EDGE_BW_MN_GBPS : Fld := ⟨Reg.STR_EDGE_BW, 32, 16⟩
def STR_EDGE_BW_MS_GBPS : Fld := ⟨Reg.STR_EDGE_BW, 48, 16⟩
def STR_LANE_POLICY_REPLAY_THRESH : Fld := ⟨Reg.STR_LANE_POLICY, 0, 8⟩
def STR_LANE_POLICY_WINDOW_TICKS : Fld := ⟨Reg.STR_LANE_POLICY, 8, 24⟩
def STR_LANE_POLICY_ROTATE_EN : Fld := ⟨Reg.STR_LANE_POLICY, 32, 1⟩
def STR_CNT_ROTATIONS_COUNT : Fld := ⟨Reg.STR_CNT_ROTATIONS, 0, 64⟩
def STR_CNT_NARROWINGS_COUNT : Fld := ⟨Reg.STR_CNT_NARROWINGS, 0, 64⟩
def STR_CNT_BUNDLE_LOSSES_COUNT : Fld := ⟨Reg.STR_CNT_BUNDLE_LOSSES, 0, 64⟩
def STR_CNT_STRAIT_LOSSES_COUNT : Fld := ⟨Reg.STR_CNT_STRAIT_LOSSES, 0, 64⟩
def STR_CNT_ROUTE_SWITCHES_COUNT : Fld := ⟨Reg.STR_CNT_ROUTE_SWITCHES, 0, 64⟩
def STR_CNT_SLOW_REROUTES_COUNT : Fld := ⟨Reg.STR_CNT_SLOW_REROUTES, 0, 64⟩
def STR_STRAIT_STATUS_STATE (k : Nat) : Fld := ⟨(Reg.STR_STRAIT_STATUS k), 0, 2⟩
def STR_STRAIT_STATUS_END_A (k : Nat) : Fld := ⟨(Reg.STR_STRAIT_STATUS k), 8, 7⟩
def STR_STRAIT_STATUS_END_B (k : Nat) : Fld := ⟨(Reg.STR_STRAIT_STATUS k), 16, 7⟩
def STR_STRAIT_STATUS_BW_AB_GBPS (k : Nat) : Fld := ⟨(Reg.STR_STRAIT_STATUS k), 32, 16⟩
def STR_STRAIT_STATUS_BW_BA_GBPS (k : Nat) : Fld := ⟨(Reg.STR_STRAIT_STATUS k), 48, 16⟩
def STR_BD_STATUS_MODE (k b d : Nat) : Fld := ⟨(Reg.STR_BD_STATUS k b d), 0, 2⟩
def STR_BD_STATUS_SPARES_LEFT (k b d : Nat) : Fld := ⟨(Reg.STR_BD_STATUS k b d), 2, 3⟩
def STR_BD_STATUS_GOOD_LANES (k b d : Nat) : Fld := ⟨(Reg.STR_BD_STATUS k b d), 8, 7⟩
def STR_BD_STATUS_ROTATIONS (k b d : Nat) : Fld := ⟨(Reg.STR_BD_STATUS k b d), 16, 8⟩
def STR_BD_LANE_MAP_SPARE0 (k b d : Nat) : Fld := ⟨(Reg.STR_BD_LANE_MAP k b d), 0, 8⟩
def STR_BD_LANE_MAP_SPARE1 (k b d : Nat) : Fld := ⟨(Reg.STR_BD_LANE_MAP k b d), 8, 8⟩
def STR_BD_LANE_MAP_SPARE2 (k b d : Nat) : Fld := ⟨(Reg.STR_BD_LANE_MAP k b d), 16, 8⟩
def STR_BD_LANE_MAP_SPARE3 (k b d : Nat) : Fld := ⟨(Reg.STR_BD_LANE_MAP k b d), 24, 8⟩
def STR_BD_LANE_FAIL_LO_FAIL (k b d : Nat) : Fld := ⟨(Reg.STR_BD_LANE_FAIL_LO k b d), 0, 64⟩
def STR_BD_LANE_FAIL_HI_FAIL (k b d : Nat) : Fld := ⟨(Reg.STR_BD_LANE_FAIL_HI k b d), 0, 4⟩
def STR_BD_CRC_ERRORS_COUNT (k b d : Nat) : Fld := ⟨(Reg.STR_BD_CRC_ERRORS k b d), 0, 64⟩
def STR_BD_REPLAYS_COUNT (k b d : Nat) : Fld := ⟨(Reg.STR_BD_REPLAYS k b d), 0, 64⟩
def STR_BD_VC0_PREEMPTS_COUNT (k b d : Nat) : Fld := ⟨(Reg.STR_BD_VC0_PREEMPTS k b d), 0, 64⟩
def MXE_CORE_STATUS_QUEUED (c : Nat) : Fld := ⟨(Reg.MXE_CORE_STATUS c), 0, 5⟩
def MXE_CORE_STATUS_ACC_POISON (c : Nat) : Fld := ⟨(Reg.MXE_CORE_STATUS c), 8, 8⟩
def MXE_CORE_STATUS_TOKENS_BUSY (c : Nat) : Fld := ⟨(Reg.MXE_CORE_STATUS c), 16, 16⟩
def MXE_CORE_STATUS_XLATE_STALL (c : Nat) : Fld := ⟨(Reg.MXE_CORE_STATUS c), 32, 1⟩
def MXE_CNT_BUSY_CYCLES_COUNT (c : Nat) : Fld := ⟨(Reg.MXE_CNT_BUSY_CYCLES c), 0, 64⟩
def MXE_CNT_MAC_ROWS_COUNT (c : Nat) : Fld := ⟨(Reg.MXE_CNT_MAC_ROWS c), 0, 64⟩
def MXE_CNT_OUT_ROWS_COUNT (c : Nat) : Fld := ⟨(Reg.MXE_CNT_OUT_ROWS c), 0, 64⟩
def MXE_CNT_POISON_TILES_COUNT (c : Nat) : Fld := ⟨(Reg.MXE_CNT_POISON_TILES c), 0, 64⟩
def MXE_CNT_REJECTS_COUNT (c : Nat) : Fld := ⟨(Reg.MXE_CNT_REJECTS c), 0, 64⟩
def MXE_CNT_STALL_CYCLES_COUNT (c : Nat) : Fld := ⟨(Reg.MXE_CNT_STALL_CYCLES c), 0, 64⟩
def SHC_STATUS_DIR_USED_HW : Fld := ⟨Reg.SHC_STATUS, 0, 20⟩
def SHC_STATUS_DIR_USED_HE : Fld := ⟨Reg.SHC_STATUS, 20, 20⟩
def SHC_STATUS_SLICES_ACTIVE : Fld := ⟨Reg.SHC_STATUS, 40, 6⟩
def SHC_STATUS_SLICES_BYPASS : Fld := ⟨Reg.SHC_STATUS, 46, 6⟩
def SHC_STATUS_RECLAIM_BUSY : Fld := ⟨Reg.SHC_STATUS, 52, 1⟩
def SHC_HOME_MAP_BASE_BASE : Fld := ⟨Reg.SHC_HOME_MAP_BASE, 0, 42⟩
def SHC_DIR_PROBE_ADDR_LINE : Fld := ⟨Reg.SHC_DIR_PROBE_ADDR, 0, 36⟩
def SHC_DIR_PROBE_ADDR_DONE : Fld := ⟨Reg.SHC_DIR_PROBE_ADDR, 63, 1⟩
def SHC_DIR_PROBE_LO_ENTRY : Fld := ⟨Reg.SHC_DIR_PROBE_LO, 0, 64⟩
def SHC_DIR_PROBE_HI_ENTRY : Fld := ⟨Reg.SHC_DIR_PROBE_HI, 0, 64⟩
def SHC_CNT_HITS_COUNT : Fld := ⟨Reg.SHC_CNT_HITS, 0, 64⟩
def SHC_CNT_MISSES_COUNT : Fld := ⟨Reg.SHC_CNT_MISSES, 0, 64⟩
def SHC_CNT_WRITEBACKS_COUNT : Fld := ⟨Reg.SHC_CNT_WRITEBACKS, 0, 64⟩
def SHC_CNT_FORWARDS_COUNT : Fld := ⟨Reg.SHC_CNT_FORWARDS, 0, 64⟩
def SHC_CNT_BACK_INVALIDATES_COUNT : Fld := ⟨Reg.SHC_CNT_BACK_INVALIDATES, 0, 64⟩
def SHC_CNT_DIR_EVICTIONS_COUNT : Fld := ⟨Reg.SHC_CNT_DIR_EVICTIONS, 0, 64⟩
def SHC_CNT_RACE_QUEUED_COUNT : Fld := ⟨Reg.SHC_CNT_RACE_QUEUED, 0, 64⟩
def SHC_CNT_LOST_DIRTY_COUNT : Fld := ⟨Reg.SHC_CNT_LOST_DIRTY, 0, 64⟩
def SHC_CNT_STALE_EPOCH_COUNT : Fld := ⟨Reg.SHC_CNT_STALE_EPOCH, 0, 64⟩
def SHC_CNT_RECLAIMS_COUNT : Fld := ⟨Reg.SHC_CNT_RECLAIMS, 0, 64⟩
def SHC_CNT_POISON_READS_COUNT : Fld := ⟨Reg.SHC_CNT_POISON_READS, 0, 64⟩
def SHC_CNT_HOMEMAP_MISSES_COUNT : Fld := ⟨Reg.SHC_CNT_HOMEMAP_MISSES, 0, 64⟩
def SHC_HOME_SET_ISLANDS (n : Nat) : Fld := ⟨(Reg.SHC_HOME_SET n), 0, 44⟩
def SHC_HOME_SET_COUNT (n : Nat) : Fld := ⟨(Reg.SHC_HOME_SET n), 44, 6⟩
def SHC_SLICE_STATUS_STATE (i : Nat) : Fld := ⟨(Reg.SHC_SLICE_STATUS i), 0, 2⟩
def SHC_SLICE_STATUS_DIRTY_LINES (i : Nat) : Fld := ⟨(Reg.SHC_SLICE_STATUS i), 8, 21⟩
def SHC_SLICE_STATUS_EPOCH (i : Nat) : Fld := ⟨(Reg.SHC_SLICE_STATUS i), 32, 16⟩
def SHC_EPOCH_EPOCH (m : Nat) : Fld := ⟨(Reg.SHC_EPOCH m), 0, 16⟩
def SHC_EPOCH_DEVICE (m : Nat) : Fld := ⟨(Reg.SHC_EPOCH m), 16, 15⟩
def SHC_EPOCH_VALID (m : Nat) : Fld := ⟨(Reg.SHC_EPOCH m), 31, 1⟩
def MEM_TIER_A_STATUS_CHANNELS_MAPPED : Fld := ⟨Reg.MEM_TIER_A_STATUS, 0, 11⟩
def MEM_TIER_A_STATUS_HOLES : Fld := ⟨Reg.MEM_TIER_A_STATUS, 16, 11⟩
def MEM_TIER_A_STATUS_PEAK_GBPS : Fld := ⟨Reg.MEM_TIER_A_STATUS, 32, 16⟩
def MEM_TIER_A_CAP_VALUE : Fld := ⟨Reg.MEM_TIER_A_CAP, 0, 42⟩
def MEM_TIER_B_STATUS_CHANNELS_MAPPED : Fld := ⟨Reg.MEM_TIER_B_STATUS, 0, 11⟩
def MEM_TIER_B_STATUS_HOLES : Fld := ⟨Reg.MEM_TIER_B_STATUS, 16, 11⟩
def MEM_TIER_B_STATUS_PEAK_GBPS : Fld := ⟨Reg.MEM_TIER_B_STATUS, 32, 16⟩
def MEM_TIER_B_CAP_VALUE : Fld := ⟨Reg.MEM_TIER_B_CAP, 0, 42⟩
def MEM_RSVD_A_VALUE : Fld := ⟨Reg.MEM_RSVD_A, 0, 42⟩
def MEM_RSVD_B_VALUE : Fld := ⟨Reg.MEM_RSVD_B, 0, 42⟩
def MEM_MIG_POLICY_MIG_EN : Fld := ⟨Reg.MEM_MIG_POLICY, 0, 1⟩
def MEM_MIG_POLICY_HOT_THRESH : Fld := ⟨Reg.MEM_MIG_POLICY, 8, 8⟩
def MEM_MIG_POLICY_COLD_THRESH : Fld := ⟨Reg.MEM_MIG_POLICY, 16, 8⟩
def MEM_MIG_POLICY_PERIOD_MS : Fld := ⟨Reg.MEM_MIG_POLICY, 24, 16⟩
def MEM_MIG_POLICY_MAX_MOVES : Fld := ⟨Reg.MEM_MIG_POLICY, 40, 16⟩
def MEM_SCRUB_POLICY_SCRUB_HOURS : Fld := ⟨Reg.MEM_SCRUB_POLICY, 0, 8⟩
def MEM_CNT_CORRECTED_COUNT : Fld := ⟨Reg.MEM_CNT_CORRECTED, 0, 64⟩
def MEM_CNT_UNCORRECTED_COUNT : Fld := ⟨Reg.MEM_CNT_UNCORRECTED, 0, 64⟩
def MEM_CNT_LINK_RETRIES_COUNT : Fld := ⟨Reg.MEM_CNT_LINK_RETRIES, 0, 64⟩
def MEM_CNT_RMW_COUNT : Fld := ⟨Reg.MEM_CNT_RMW, 0, 64⟩
def MEM_CNT_WCB_MERGES_COUNT : Fld := ⟨Reg.MEM_CNT_WCB_MERGES, 0, 64⟩
def MEM_CNT_HOLE_WRITES_COUNT : Fld := ⟨Reg.MEM_CNT_HOLE_WRITES, 0, 64⟩
def MEM_CNT_UNMAPPED_COUNT : Fld := ⟨Reg.MEM_CNT_UNMAPPED, 0, 64⟩
def MEM_CNT_MIGRATIONS_UP_COUNT : Fld := ⟨Reg.MEM_CNT_MIGRATIONS_UP, 0, 64⟩
def MEM_CNT_MIGRATIONS_DOWN_COUNT : Fld := ⟨Reg.MEM_CNT_MIGRATIONS_DOWN, 0, 64⟩
def MEM_CNT_THERMAL_EVENTS_COUNT : Fld := ⟨Reg.MEM_CNT_THERMAL_EVENTS, 0, 64⟩
def MEM_A_CHAN_STATE (s c : Nat) : Fld := ⟨(Reg.MEM_A_CHAN s c), 0, 2⟩
def MEM_A_CHAN_CAUSE (s c : Nat) : Fld := ⟨(Reg.MEM_A_CHAN s c), 2, 2⟩
def MEM_A_CHAN_POSITION (s c : Nat) : Fld := ⟨(Reg.MEM_A_CHAN s c), 16, 11⟩
def MEM_A_CHAN_CORRECTED (s c : Nat) : Fld := ⟨(Reg.MEM_A_CHAN s c), 32, 16⟩
def MEM_A_CHAN_RETRIES (s c : Nat) : Fld := ⟨(Reg.MEM_A_CHAN s c), 48, 16⟩
def MEM_B_CHAN_STATE (k h : Nat) : Fld := ⟨(Reg.MEM_B_CHAN k h), 0, 2⟩
def MEM_B_CHAN_CAUSE (k h : Nat) : Fld := ⟨(Reg.MEM_B_CHAN k h), 2, 2⟩
def MEM_B_CHAN_POSITION (k h : Nat) : Fld := ⟨(Reg.MEM_B_CHAN k h), 16, 11⟩
def MEM_B_CHAN_CORRECTED (k h : Nat) : Fld := ⟨(Reg.MEM_B_CHAN k h), 32, 16⟩
def MEM_B_CHAN_RETRIES (k h : Nat) : Fld := ⟨(Reg.MEM_B_CHAN k h), 48, 16⟩
def MEM_B_PKG_MANUFACTURER (k : Nat) : Fld := ⟨(Reg.MEM_B_PKG k), 0, 8⟩
def MEM_B_PKG_REVISION1 (k : Nat) : Fld := ⟨(Reg.MEM_B_PKG k), 8, 8⟩
def MEM_B_PKG_REVISION2 (k : Nat) : Fld := ⟨(Reg.MEM_B_PKG k), 16, 8⟩
def MEM_B_PKG_DENSITY (k : Nat) : Fld := ⟨(Reg.MEM_B_PKG k), 24, 8⟩
def MEM_B_PKG_CHANNELS_OK (k : Nat) : Fld := ⟨(Reg.MEM_B_PKG k), 32, 4⟩
def MEM_B_PKG_REFRESH_CODE (k : Nat) : Fld := ⟨(Reg.MEM_B_PKG k), 36, 3⟩
def MEM_B_PKG_THERMAL (k : Nat) : Fld := ⟨(Reg.MEM_B_PKG k), 39, 2⟩
def MEM_B_PKG_DUTY (k : Nat) : Fld := ⟨(Reg.MEM_B_PKG k), 41, 4⟩
def MEM_A_THERMAL_HOT_TEMP (s : Nat) : Fld := ⟨(Reg.MEM_A_THERMAL s), 0, 8⟩
def MEM_A_THERMAL_HOT_LAYER (s : Nat) : Fld := ⟨(Reg.MEM_A_THERMAL s), 8, 4⟩
def MEM_A_THERMAL_THERMAL (s : Nat) : Fld := ⟨(Reg.MEM_A_THERMAL s), 12, 2⟩
def MEM_A_THERMAL_DUTY (s : Nat) : Fld := ⟨(Reg.MEM_A_THERMAL s), 16, 4⟩
def TRN_ROOT_VALID (i : Nat) : Fld := ⟨(Reg.TRN_ROOT i), 0, 1⟩
def TRN_ROOT_ROOT (i : Nat) : Fld := ⟨(Reg.TRN_ROOT i), 12, 30⟩
def TRN_STATUS_INVALIDATES_BUSY (i : Nat) : Fld := ⟨(Reg.TRN_STATUS i), 0, 8⟩
def TRN_STATUS_PIN_BUSY (i : Nat) : Fld := ⟨(Reg.TRN_STATUS i), 8, 1⟩
def TRN_STATUS_STALLED_ENGINES (i : Nat) : Fld := ⟨(Reg.TRN_STATUS i), 16, 16⟩
def TRN_CNT_WALKS_COUNT (i : Nat) : Fld := ⟨(Reg.TRN_CNT_WALKS i), 0, 64⟩
def TRN_CNT_L2_MISSES_COUNT (i : Nat) : Fld := ⟨(Reg.TRN_CNT_L2_MISSES i), 0, 64⟩
def TRN_CNT_INVALIDATES_COUNT (i : Nat) : Fld := ⟨(Reg.TRN_CNT_INVALIDATES i), 0, 64⟩
def TRN_DRAIN_MAX_TICKS (i : Nat) : Fld := ⟨(Reg.TRN_DRAIN_MAX i), 0, 32⟩
def FLT_RING_SIZE_LOG2 (i : Nat) : Fld := ⟨(Reg.FLT_RING i), 0, 5⟩
def FLT_RING_VECTOR (i : Nat) : Fld := ⟨(Reg.FLT_RING i), 5, 6⟩
def FLT_RING_BASE (i : Nat) : Fld := ⟨(Reg.FLT_RING i), 12, 40⟩
def FLT_STATUS_NEXT_BATCH (i : Nat) : Fld := ⟨(Reg.FLT_STATUS i), 0, 32⟩
def FLT_STATUS_UNRESUMED (i : Nat) : Fld := ⟨(Reg.FLT_STATUS i), 32, 8⟩
def FLT_STATUS_OPEN_RECORDS (i : Nat) : Fld := ⟨(Reg.FLT_STATUS i), 40, 9⟩
def FLT_CNT_RECORDS_COUNT (i : Nat) : Fld := ⟨(Reg.FLT_CNT_RECORDS i), 0, 64⟩
def FLT_CNT_MERGED_COUNT (i : Nat) : Fld := ⟨(Reg.FLT_CNT_MERGED i), 0, 64⟩
def FLT_CNT_LATE_JOINS_COUNT (i : Nat) : Fld := ⟨(Reg.FLT_CNT_LATE_JOINS i), 0, 64⟩
def FLT_CNT_RING_FULL_COUNT (i : Nat) : Fld := ⟨(Reg.FLT_CNT_RING_FULL i), 0, 64⟩
def FLT_CNT_TABLE_FULL_COUNT (i : Nat) : Fld := ⟨(Reg.FLT_CNT_TABLE_FULL i), 0, 64⟩
def FLT_CNT_NO_RING_COUNT (i : Nat) : Fld := ⟨(Reg.FLT_CNT_NO_RING i), 0, 64⟩
def WCH_BOOT_RING_ADDR : Fld := ⟨Reg.WCH_BOOT_RING, 0, 52⟩
def WCH_BOOT_CPL_ADDR : Fld := ⟨Reg.WCH_BOOT_CPL, 0, 52⟩
def WCH_BOOT_WATCH_ADDR : Fld := ⟨Reg.WCH_BOOT_WATCH, 0, 52⟩
def WCH_BOOT_CTL_ENABLE : Fld := ⟨Reg.WCH_BOOT_CTL, 0, 1⟩
def WCH_BOOT_CTL_READY : Fld := ⟨Reg.WCH_BOOT_CTL, 1, 1⟩
def WCH_BOOT_CTL_ERROR : Fld := ⟨Reg.WCH_BOOT_CTL, 2, 1⟩
def WCH_BOOT_CTL_SIZE_LOG2 : Fld := ⟨Reg.WCH_BOOT_CTL, 8, 4⟩
def WCH_BOOT_CTL_CPL_SIZE_LOG2 : Fld := ⟨Reg.WCH_BOOT_CTL, 12, 4⟩
def WCH_BOOT_CTL_VECTOR : Fld := ⟨Reg.WCH_BOOT_CTL, 16, 11⟩
def WCH_STATUS_LINES_USED : Fld := ⟨Reg.WCH_STATUS, 0, 13⟩
def WCH_STATUS_FE_AWAKE : Fld := ⟨Reg.WCH_STATUS, 13, 1⟩
def WCH_CNT_WAKES_COUNT : Fld := ⟨Reg.WCH_CNT_WAKES, 0, 64⟩
def WCH_CNT_SPURIOUS_COUNT : Fld := ⟨Reg.WCH_CNT_SPURIOUS, 0, 64⟩
def WCH_CNT_ENTRIES_COUNT : Fld := ⟨Reg.WCH_CNT_ENTRIES, 0, 64⟩
def SES_TABLE_BASE_BASE : Fld := ⟨Reg.SES_TABLE_BASE, 0, 42⟩
def SES_STATUS_OPEN : Fld := ⟨Reg.SES_STATUS, 0, 21⟩
def SES_STATUS_RUNNING : Fld := ⟨Reg.SES_STATUS, 21, 21⟩
def SES_STATUS_PARKED : Fld := ⟨Reg.SES_STATUS, 42, 21⟩
def SES_CNT_STEPS_COUNT : Fld := ⟨Reg.SES_CNT_STEPS, 0, 64⟩
def SES_CNT_REJECTS_COUNT : Fld := ⟨Reg.SES_CNT_REJECTS, 0, 64⟩
def SES_CNT_INPUT_REJECTS_COUNT : Fld := ⟨Reg.SES_CNT_INPUT_REJECTS, 0, 64⟩
def SES_CNT_FAILED_COUNT : Fld := ⟨Reg.SES_CNT_FAILED, 0, 64⟩
def SES_CNT_CACHE_MISSES_COUNT : Fld := ⟨Reg.SES_CNT_CACHE_MISSES, 0, 64⟩
def SES_CLASS_CFG_CAD_MIN_US (k : Nat) : Fld := ⟨(Reg.SES_CLASS_CFG k), 0, 16⟩
def SES_CLASS_CFG_CAD_MAX_US (k : Nat) : Fld := ⟨(Reg.SES_CLASS_CFG k), 16, 16⟩
def SES_CLASS_CFG_TARGET_US (k : Nat) : Fld := ⟨(Reg.SES_CLASS_CFG k), 32, 16⟩
def SES_CLASS_CFG_CADENCE_US (k : Nat) : Fld := ⟨(Reg.SES_CLASS_CFG k), 48, 16⟩
def SES_CLASS_LAT_MAX_LAT_US (k : Nat) : Fld := ⟨(Reg.SES_CLASS_LAT k), 0, 32⟩
def SES_CLASS_LAT_FILL_PCT (k : Nat) : Fld := ⟨(Reg.SES_CLASS_LAT k), 32, 7⟩
def SES_CLASS_CNT_STEPS_COUNT (k : Nat) : Fld := ⟨(Reg.SES_CLASS_CNT_STEPS k), 0, 64⟩
def SES_CLASS_CNT_MISSES_COUNT (k : Nat) : Fld := ⟨(Reg.SES_CLASS_CNT_MISSES k), 0, 64⟩
def SES_JNL_STATUS_MODE (i : Nat) : Fld := ⟨(Reg.SES_JNL_STATUS i), 0, 2⟩
def SES_JNL_STATUS_HELD (i : Nat) : Fld := ⟨(Reg.SES_JNL_STATUS i), 2, 1⟩
def SES_JNL_STATUS_GAPPED (i : Nat) : Fld := ⟨(Reg.SES_JNL_STATUS i), 3, 1⟩
def SES_JNL_STATUS_JOURNAL (i : Nat) : Fld := ⟨(Reg.SES_JNL_STATUS i), 16, 32⟩
def SES_JNL_CNT_RECORDS_COUNT (i : Nat) : Fld := ⟨(Reg.SES_JNL_CNT_RECORDS i), 0, 64⟩
def SES_JNL_CNT_LOST_COUNT (i : Nat) : Fld := ⟨(Reg.SES_JNL_CNT_LOST i), 0, 64⟩
def SES_JNL_CNT_DIVERGE_COUNT (i : Nat) : Fld := ⟨(Reg.SES_JNL_CNT_DIVERGE i), 0, 64⟩
def FAB_STATUS_DEVICE : Fld := ⟨Reg.FAB_STATUS, 0, 15⟩
def FAB_STATUS_DEVICE_VALID : Fld := ⟨Reg.FAB_STATUS, 15, 1⟩
def FAB_STATUS_PORTS_UP : Fld := ⟨Reg.FAB_STATUS, 16, 16⟩
def FAB_STATUS_ARCH_ID : Fld := ⟨Reg.FAB_STATUS, 32, 16⟩
def FAB_STATUS_ARCH_VALID : Fld := ⟨Reg.FAB_STATUS, 48, 1⟩
def FAB_STATUS_MY_MEMBER : Fld := ⟨Reg.FAB_STATUS, 49, 6⟩
def FAB_STATUS_MEMBERS : Fld := ⟨Reg.FAB_STATUS, 55, 7⟩
def FAB_STATUS_PACING : Fld := ⟨Reg.FAB_STATUS, 62, 1⟩
def FAB_PROGRESS_POWER_CAP : Fld := ⟨Reg.FAB_PROGRESS, 0, 1⟩
def FAB_PROGRESS_INPUT_CURRENT : Fld := ⟨Reg.FAB_PROGRESS, 1, 1⟩
def FAB_PROGRESS_ISLAND_THERMAL : Fld := ⟨Reg.FAB_PROGRESS, 2, 1⟩
def FAB_PROGRESS_STACK_THERMAL : Fld := ⟨Reg.FAB_PROGRESS, 3, 1⟩
def FAB_PROGRESS_DROOP : Fld := ⟨Reg.FAB_PROGRESS, 4, 1⟩
def FAB_PROGRESS_FABRIC_PACING : Fld := ⟨Reg.FAB_PROGRESS, 5, 1⟩
def FAB_PROGRESS_COOLANT : Fld := ⟨Reg.FAB_PROGRESS, 6, 1⟩
def FAB_PROGRESS_HOST_REQUEST : Fld := ⟨Reg.FAB_PROGRESS, 7, 1⟩
def FAB_PROGRESS_RATE : Fld := ⟨Reg.FAB_PROGRESS, 8, 5⟩
def FAB_PROGRESS_TICK : Fld := ⟨Reg.FAB_PROGRESS, 16, 32⟩
def FAB_POLICY_PACE_EN : Fld := ⟨Reg.FAB_POLICY, 0, 1⟩
def FAB_POLICY_PACE_AFTER_US : Fld := ⟨Reg.FAB_POLICY, 8, 16⟩
def FAB_POLICY_DEPART_MS : Fld := ⟨Reg.FAB_POLICY, 24, 16⟩
def FAB_CNT_ADMITS_COUNT : Fld := ⟨Reg.FAB_CNT_ADMITS, 0, 64⟩
def FAB_CNT_DEPARTS_COUNT : Fld := ⟨Reg.FAB_CNT_DEPARTS, 0, 64⟩
def FAB_CNT_REROUTES_COUNT : Fld := ⟨Reg.FAB_CNT_REROUTES, 0, 64⟩
def FAB_CNT_TRANSIT_COUNT : Fld := ⟨Reg.FAB_CNT_TRANSIT, 0, 64⟩
def FAB_CNT_TRANSIT_DROPS_COUNT : Fld := ⟨Reg.FAB_CNT_TRANSIT_DROPS, 0, 64⟩
def FAB_CNT_EXPORT_DENIED_COUNT : Fld := ⟨Reg.FAB_CNT_EXPORT_DENIED, 0, 64⟩
def FAB_CNT_MCAST_RETRIES_COUNT : Fld := ⟨Reg.FAB_CNT_MCAST_RETRIES, 0, 64⟩
def FAB_CNT_MCAST_MISSED_COUNT : Fld := ⟨Reg.FAB_CNT_MCAST_MISSED, 0, 64⟩
def FAB_CNT_AUTH_FAILS_COUNT : Fld := ⟨Reg.FAB_CNT_AUTH_FAILS, 0, 64⟩
def FAB_CNT_BAD_MESSAGES_COUNT : Fld := ⟨Reg.FAB_CNT_BAD_MESSAGES, 0, 64⟩
def FAB_CNT_PACE_EVENTS_COUNT : Fld := ⟨Reg.FAB_CNT_PACE_EVENTS, 0, 64⟩
def FAB_PORT_STATUS_STATE (p : Nat) : Fld := ⟨(Reg.FAB_PORT_STATUS p), 0, 3⟩
def FAB_PORT_STATUS_HALF (p : Nat) : Fld := ⟨(Reg.FAB_PORT_STATUS p), 3, 1⟩
def FAB_PORT_STATUS_GOOD_LANES (p : Nat) : Fld := ⟨(Reg.FAB_PORT_STATUS p), 8, 8⟩
def FAB_PORT_STATUS_NEIGHBOUR (p : Nat) : Fld := ⟨(Reg.FAB_PORT_STATUS p), 16, 15⟩
def FAB_PORT_STATUS_NEIGHBOUR_PORT (p : Nat) : Fld := ⟨(Reg.FAB_PORT_STATUS p), 32, 4⟩
def FAB_PORT_STATUS_SECURE (p : Nat) : Fld := ⟨(Reg.FAB_PORT_STATUS p), 36, 1⟩
def FAB_PORT_STATUS_KEY_PHASE (p : Nat) : Fld := ⟨(Reg.FAB_PORT_STATUS p), 37, 1⟩
def FAB_PORT_STATUS_BW_GBPS (p : Nat) : Fld := ⟨(Reg.FAB_PORT_STATUS p), 48, 16⟩
def FAB_PORT_CNT_TX_COUNT (p : Nat) : Fld := ⟨(Reg.FAB_PORT_CNT_TX p), 0, 64⟩
def FAB_PORT_CNT_RX_COUNT (p : Nat) : Fld := ⟨(Reg.FAB_PORT_CNT_RX p), 0, 64⟩
def FAB_PORT_CNT_FEC_COUNT (p : Nat) : Fld := ⟨(Reg.FAB_PORT_CNT_FEC p), 0, 64⟩
def FAB_PORT_CNT_CRC_COUNT (p : Nat) : Fld := ⟨(Reg.FAB_PORT_CNT_CRC p), 0, 64⟩
def FAB_PORT_CNT_REPLAYS_COUNT (p : Nat) : Fld := ⟨(Reg.FAB_PORT_CNT_REPLAYS p), 0, 64⟩
def FAB_PORT_CNT_TAG_FAILS_COUNT (p : Nat) : Fld := ⟨(Reg.FAB_PORT_CNT_TAG_FAILS p), 0, 64⟩
def FAB_PORT_CNT_VC0_PREEMPTS_COUNT (p : Nat) : Fld := ⟨(Reg.FAB_PORT_CNT_VC0_PREEMPTS p), 0, 64⟩
def FAB_PORT_CNT_RETRAINS_COUNT (p : Nat) : Fld := ⟨(Reg.FAB_PORT_CNT_RETRAINS p), 0, 64⟩
def HST_STATUS_LINK : Fld := ⟨Reg.HST_STATUS, 0, 3⟩
def HST_STATUS_FLIT256 : Fld := ⟨Reg.HST_STATUS, 3, 1⟩
def HST_STATUS_LOPT : Fld := ⟨Reg.HST_STATUS, 4, 1⟩
def HST_STATUS_SPEED : Fld := ⟨Reg.HST_STATUS, 8, 3⟩
def HST_STATUS_WIDTH : Fld := ⟨Reg.HST_STATUS, 11, 5⟩
def HST_STATUS_CACHE_EN : Fld := ⟨Reg.HST_STATUS, 16, 1⟩
def HST_STATUS_MEM_EN : Fld := ⟨Reg.HST_STATUS, 17, 1⟩
def HST_STATUS_IDE_LINK : Fld := ⟨Reg.HST_STATUS, 18, 1⟩
def HST_STATUS_IDE_STREAMS : Fld := ⟨Reg.HST_STATUS, 20, 8⟩
def HST_STATUS_HOST_VALID : Fld := ⟨Reg.HST_STATUS, 28, 1⟩
def HST_STATUS_USABLE_GBPS : Fld := ⟨Reg.HST_STATUS, 32, 16⟩
def HST_POLICY_GONE_MS : Fld := ⟨Reg.HST_POLICY, 0, 16⟩
def HST_POLICY_BI_TIMEOUT_US : Fld := ⟨Reg.HST_POLICY, 16, 16⟩
def HST_CNT_ACCESS_ERRORS_COUNT : Fld := ⟨Reg.HST_CNT_ACCESS_ERRORS, 0, 64⟩
def HST_CNT_LINK_RETRIES_COUNT : Fld := ⟨Reg.HST_CNT_LINK_RETRIES, 0, 64⟩
def HST_CNT_MEM_REFUSED_COUNT : Fld := ⟨Reg.HST_CNT_MEM_REFUSED, 0, 64⟩
def HST_CNT_BAR2_REFUSED_COUNT : Fld := ⟨Reg.HST_CNT_BAR2_REFUSED, 0, 64⟩
def HST_CNT_BI_SENT_COUNT : Fld := ⟨Reg.HST_CNT_BI_SENT, 0, 64⟩
def HST_CNT_BI_TIMEOUTS_COUNT : Fld := ⟨Reg.HST_CNT_BI_TIMEOUTS, 0, 64⟩
def HST_CNT_POISON_SENT_COUNT : Fld := ⟨Reg.HST_CNT_POISON_SENT, 0, 64⟩
def HST_CNT_IDE_FAILS_COUNT : Fld := ⟨Reg.HST_CNT_IDE_FAILS, 0, 64⟩
def HST_CNT_HOST_DEPARTS_COUNT : Fld := ⟨Reg.HST_CNT_HOST_DEPARTS, 0, 64⟩
def HST_CNT_LOST_HOST_LINES_COUNT : Fld := ⟨Reg.HST_CNT_LOST_HOST_LINES, 0, 64⟩
def HST_CNT_DROPPED_CPL_COUNT : Fld := ⟨Reg.HST_CNT_DROPPED_CPL, 0, 64⟩
def HST_BIND_STATUS_BOUND (h : Nat) : Fld := ⟨(Reg.HST_BIND_STATUS h), 0, 1⟩
def HST_BIND_STATUS_COHERENT (h : Nat) : Fld := ⟨(Reg.HST_BIND_STATUS h), 1, 1⟩
def HST_BIND_STATUS_TDISP (h : Nat) : Fld := ⟨(Reg.HST_BIND_STATUS h), 2, 2⟩
def HST_BIND_STATUS_GENERATION (h : Nat) : Fld := ⟨(Reg.HST_BIND_STATUS h), 8, 16⟩
def HST_BIND_BASE0_ADDR (h : Nat) : Fld := ⟨(Reg.HST_BIND_BASE0 h), 0, 52⟩
def HST_BIND_LIMIT0_ADDR (h : Nat) : Fld := ⟨(Reg.HST_BIND_LIMIT0 h), 0, 52⟩
def HST_BIND_BASE1_ADDR (h : Nat) : Fld := ⟨(Reg.HST_BIND_BASE1 h), 0, 52⟩
def HST_BIND_LIMIT1_ADDR (h : Nat) : Fld := ⟨(Reg.HST_BIND_LIMIT1 h), 0, 52⟩
def HST_BAR2_VA_BASE : Fld := ⟨Reg.HST_BAR2_VA, 36, 21⟩
def HST_INST_STATUS_BOUND : Fld := ⟨Reg.HST_INST_STATUS, 0, 1⟩
def HST_INST_STATUS_COHERENT : Fld := ⟨Reg.HST_INST_STATUS, 1, 1⟩
def HST_INST_STATUS_TDISP : Fld := ⟨Reg.HST_INST_STATUS, 2, 2⟩
def HST_INST_STATUS_VECTORS : Fld := ⟨Reg.HST_INST_STATUS, 8, 7⟩
def INS_STATUS_STATE (i : Nat) : Fld := ⟨(Reg.INS_STATUS i), 0, 3⟩
def INS_STATUS_RESTORE_TARGET (i : Nat) : Fld := ⟨(Reg.INS_STATUS i), 3, 1⟩
def INS_STATUS_REACH (i : Nat) : Fld := ⟨(Reg.INS_STATUS i), 4, 2⟩
def INS_STATUS_ISLAND_COUNT (i : Nat) : Fld := ⟨(Reg.INS_STATUS i), 8, 6⟩
def INS_STATUS_KEY_GEN (i : Nat) : Fld := ⟨(Reg.INS_STATUS i), 16, 16⟩
def INS_ISLANDS_ISLANDS (i : Nat) : Fld := ⟨(Reg.INS_ISLANDS i), 0, 44⟩
def INS_SESSIONS_FIRST (i : Nat) : Fld := ⟨(Reg.INS_SESSIONS i), 0, 20⟩
def INS_SESSIONS_COUNT (i : Nat) : Fld := ⟨(Reg.INS_SESSIONS i), 32, 21⟩
def INS_QUOTA_MAX_BINDINGS (i : Nat) : Fld := ⟨(Reg.INS_QUOTA i), 0, 13⟩
def INS_QUOTA_BINDINGS_USED (i : Nat) : Fld := ⟨(Reg.INS_QUOTA i), 16, 13⟩
def INS_QUOTA_MAX_RINGS (i : Nat) : Fld := ⟨(Reg.INS_QUOTA i), 32, 13⟩
def INS_QUOTA_RINGS_USED (i : Nat) : Fld := ⟨(Reg.INS_QUOTA i), 48, 13⟩
def INS_FRAMES_FRAMES_A (i : Nat) : Fld := ⟨(Reg.INS_FRAMES i), 0, 19⟩
def INS_FRAMES_FRAMES_B (i : Nat) : Fld := ⟨(Reg.INS_FRAMES i), 32, 21⟩
def INS_CNT_RESETS_COUNT (i : Nat) : Fld := ⟨(Reg.INS_CNT_RESETS i), 0, 64⟩
def INS_CNT_FATAL_COUNT (i : Nat) : Fld := ⟨(Reg.INS_CNT_FATAL i), 0, 64⟩
def SEC_STATUS_BOOT_LOCK : Fld := ⟨Reg.SEC_STATUS, 0, 1⟩
def SEC_STATUS_SLOT : Fld := ⟨Reg.SEC_STATUS, 1, 1⟩
def SEC_STATUS_SB_ROOT_VALID : Fld := ⟨Reg.SEC_STATUS, 2, 1⟩
def SEC_STATUS_DRBG_OK : Fld := ⟨Reg.SEC_STATUS, 3, 1⟩
def SEC_STATUS_FUSED_SVN : Fld := ⟨Reg.SEC_STATUS, 8, 6⟩
def SEC_STATUS_IMAGE_SVN : Fld := ⟨Reg.SEC_STATUS, 16, 6⟩
def SEC_FW_VERSION_VERSION : Fld := ⟨Reg.SEC_FW_VERSION, 0, 64⟩
def SEC_SB_ROOT_DIGEST (j : Nat) : Fld := ⟨(Reg.SEC_SB_ROOT j), 0, 64⟩
def SEC_MEAS_VALUE (n j : Nat) : Fld := ⟨(Reg.SEC_MEAS n j), 0, 64⟩
def SEC_PERM_EFFECTIVE (r : Nat) : Fld := ⟨(Reg.SEC_PERM r), 0, 5⟩
def SEC_PERM_CEILING (r : Nat) : Fld := ⟨(Reg.SEC_PERM r), 8, 5⟩
def SEC_PERM_FIXED (r : Nat) : Fld := ⟨(Reg.SEC_PERM r), 16, 1⟩
def LOG_HEAD_SEQ : Fld := ⟨Reg.LOG_HEAD, 0, 64⟩
def LOG_OLDEST_SEQ : Fld := ⟨Reg.LOG_OLDEST, 0, 64⟩
def LOG_RING_BASE_BASE : Fld := ⟨Reg.LOG_RING_BASE, 0, 42⟩
def LOG_EPOCH_STAMP : Fld := ⟨Reg.LOG_EPOCH, 0, 64⟩
def LOG_CP_LAST_CP_NUMBER : Fld := ⟨Reg.LOG_CP_LAST, 0, 64⟩
def LOG_CHAIN_CHAIN (j : Nat) : Fld := ⟨(Reg.LOG_CHAIN j), 0, 64⟩
def LOG_CNT_ENTRIES_COUNT : Fld := ⟨Reg.LOG_CNT_ENTRIES, 0, 64⟩
def LOG_CNT_OVERWRITTEN_COUNT : Fld := ⟨Reg.LOG_CNT_OVERWRITTEN, 0, 64⟩
def LOG_CNT_CHECKPOINTS_COUNT : Fld := ⟨Reg.LOG_CNT_CHECKPOINTS, 0, 64⟩
def LOG_CNT_FLASH_FAILS_COUNT : Fld := ⟨Reg.LOG_CNT_FLASH_FAILS, 0, 64⟩
def LOG_CNT_DENIED_COUNT : Fld := ⟨Reg.LOG_CNT_DENIED, 0, 64⟩
def LOG_CNT_AUTH_FAILS_COUNT : Fld := ⟨Reg.LOG_CNT_AUTH_FAILS, 0, 64⟩
def PWR_STATUS_VIN_CV : Fld := ⟨Reg.PWR_STATUS, 0, 16⟩
def PWR_STATUS_IIN_CA : Fld := ⟨Reg.PWR_STATUS, 16, 16⟩
def PWR_STATUS_PIN_W : Fld := ⟨Reg.PWR_STATUS, 32, 13⟩
def PWR_STATUS_REASONS : Fld := ⟨Reg.PWR_STATUS, 48, 8⟩
def PWR_STATUS_COOLANT_OK_A : Fld := ⟨Reg.PWR_STATUS, 56, 1⟩
def PWR_STATUS_COOLANT_OK_B : Fld := ⟨Reg.PWR_STATUS, 57, 1⟩
def PWR_STATUS_HALTED : Fld := ⟨Reg.PWR_STATUS, 58, 1⟩
def PWR_POLICY_CAP_W : Fld := ⟨Reg.PWR_POLICY, 0, 12⟩
def PWR_POLICY_COOL_WARN_W : Fld := ⟨Reg.PWR_POLICY, 12, 12⟩
def PWR_POLICY_HYST_W : Fld := ⟨Reg.PWR_POLICY, 24, 8⟩
def PWR_POLICY_ILIM_A : Fld := ⟨Reg.PWR_POLICY, 32, 7⟩
def PWR_POLICY_FMAX_MHZ : Fld := ⟨Reg.PWR_POLICY, 40, 12⟩
def PWR_POLICY_PACE_MHZ : Fld := ⟨Reg.PWR_POLICY, 52, 12⟩
def PWR_IDLE_POLICY_GATE_US : Fld := ⟨Reg.PWR_IDLE_POLICY, 0, 12⟩
def PWR_IDLE_POLICY_OFF_US : Fld := ⟨Reg.PWR_IDLE_POLICY, 12, 16⟩
def PWR_IDLE_POLICY_STRAIT_PARK_US : Fld := ⟨Reg.PWR_IDLE_POLICY, 28, 8⟩
def PWR_IDLE_POLICY_SR_IDLE_US : Fld := ⟨Reg.PWR_IDLE_POLICY, 36, 12⟩
def PWR_IDLE_POLICY_SLICE_BYPASS_EN : Fld := ⟨Reg.PWR_IDLE_POLICY, 48, 1⟩
def PWR_IDLE_POLICY_BYPASS_MS : Fld := ⟨Reg.PWR_IDLE_POLICY, 56, 8⟩
def PWR_LIMITS_F_CAP : Fld := ⟨Reg.PWR_LIMITS, 0, 12⟩
def PWR_LIMITS_L_CAP : Fld := ⟨Reg.PWR_LIMITS, 12, 5⟩
def PWR_LIMITS_F_HOST_COOL : Fld := ⟨Reg.PWR_LIMITS, 17, 12⟩
def PWR_LIMITS_L_HOST_COOL : Fld := ⟨Reg.PWR_LIMITS, 29, 5⟩
def PWR_LIMITS_L_CUR : Fld := ⟨Reg.PWR_LIMITS, 34, 5⟩
def PWR_LIMITS_HOST_LIMIT_W : Fld := ⟨Reg.PWR_LIMITS, 39, 12⟩
def PWR_LIMITS_POWER_VECTOR : Fld := ⟨Reg.PWR_LIMITS, 51, 11⟩
def PWR_ENERGY_DEVICE_COUNT : Fld := ⟨Reg.PWR_ENERGY_DEVICE, 0, 64⟩
def PWR_ENERGY_INST_COUNT (i : Nat) : Fld := ⟨(Reg.PWR_ENERGY_INST i), 0, 64⟩
def PWR_ENERGY_CLASS_COUNT (k : Nat) : Fld := ⟨(Reg.PWR_ENERGY_CLASS k), 0, 64⟩
def PWR_THR_DUR_COUNT (r : Nat) : Fld := ⟨(Reg.PWR_THR_DUR r), 0, 64⟩
def PWR_THR_CNT_COUNT (r : Nat) : Fld := ⟨(Reg.PWR_THR_CNT r), 0, 64⟩
def PWR_ISLAND_STATE (i : Nat) : Fld := ⟨(Reg.PWR_ISLAND i), 0, 2⟩
def PWR_ISLAND_BYPASS (i : Nat) : Fld := ⟨(Reg.PWR_ISLAND i), 2, 1⟩
def PWR_ISLAND_F_MHZ (i : Nat) : Fld := ⟨(Reg.PWR_ISLAND i), 8, 12⟩
def PWR_ISLAND_F_TARGET_MHZ (i : Nat) : Fld := ⟨(Reg.PWR_ISLAND i), 20, 12⟩
def PWR_ISLAND_L (i : Nat) : Fld := ⟨(Reg.PWR_ISLAND i), 32, 5⟩
def PWR_ISLAND_REASONS (i : Nat) : Fld := ⟨(Reg.PWR_ISLAND i), 40, 8⟩
def PWR_ISLAND_STRETCH (i : Nat) : Fld := ⟨(Reg.PWR_ISLAND i), 48, 1⟩
def THM_POLICY_ISL_HOT_C : Fld := ⟨Reg.THM_POLICY, 0, 8⟩
def THM_POLICY_ISL_SEVERE_C : Fld := ⟨Reg.THM_POLICY, 8, 8⟩
def THM_ISLAND_TEMP_C (i : Nat) : Fld := ⟨(Reg.THM_ISLAND i), 0, 8⟩
def THM_ISLAND_MAX_C (i : Nat) : Fld := ⟨(Reg.THM_ISLAND i), 8, 8⟩
def THM_ISLAND_F_THERM_MHZ (i : Nat) : Fld := ⟨(Reg.THM_ISLAND i), 16, 12⟩
def THM_ISLAND_L_THERM (i : Nat) : Fld := ⟨(Reg.THM_ISLAND i), 28, 5⟩
def CLK_STATUS_REF_OK : Fld := ⟨Reg.CLK_STATUS, 0, 1⟩
def CLK_STATUS_EDGE_LOCK : Fld := ⟨Reg.CLK_STATUS, 1, 4⟩
def CLK_STATUS_SITE_LOCK : Fld := ⟨Reg.CLK_STATUS, 8, 48⟩
def CLK_CNT_UNLOCKS_COUNT : Fld := ⟨Reg.CLK_CNT_UNLOCKS, 0, 64⟩
def CLK_CNT_STRETCH_CYCLES_COUNT : Fld := ⟨Reg.CLK_CNT_STRETCH_CYCLES, 0, 64⟩
def CLK_CNT_DROOP_DEFERRALS_COUNT : Fld := ⟨Reg.CLK_CNT_DROOP_DEFERRALS, 0, 64⟩
def BRG_ERR_STATUS_FATAL : Fld := ⟨Reg.BRG_ERR_STATUS, 0, 1⟩
def BRG_ERR_STATUS_FATAL_CAUSE : Fld := ⟨Reg.BRG_ERR_STATUS, 8, 8⟩
def BRG_ERR_STATUS_ISLANDS_LOST : Fld := ⟨Reg.BRG_ERR_STATUS, 16, 6⟩
def BRG_ERR_STATUS_REPLICA_PAIRS : Fld := ⟨Reg.BRG_ERR_STATUS, 24, 7⟩
def BRG_ERR_STATUS_CTL_PAIRS_HW : Fld := ⟨Reg.BRG_ERR_STATUS, 32, 3⟩
def BRG_ERR_STATUS_CTL_PAIRS_HE : Fld := ⟨Reg.BRG_ERR_STATUS, 35, 3⟩
def BRG_CNT_SRAM_CORRECTED_COUNT : Fld := ⟨Reg.BRG_CNT_SRAM_CORRECTED, 0, 64⟩
def BRG_CNT_SRAM_UNCORR_COUNT : Fld := ⟨Reg.BRG_CNT_SRAM_UNCORR, 0, 64⟩
def BRG_CNT_MIRROR_REPAIRS_COUNT : Fld := ⟨Reg.BRG_CNT_MIRROR_REPAIRS, 0, 64⟩
def BRG_CNT_REFETCHES_COUNT : Fld := ⟨Reg.BRG_CNT_REFETCHES, 0, 64⟩
def BRG_CNT_REFETCH_FAILS_COUNT : Fld := ⟨Reg.BRG_CNT_REFETCH_FAILS, 0, 64⟩
def BRG_CNT_ISLAND_LOSSES_COUNT : Fld := ⟨Reg.BRG_CNT_ISLAND_LOSSES, 0, 64⟩
def BRG_CNT_CTL_FAILOVERS_COUNT : Fld := ⟨Reg.BRG_CNT_CTL_FAILOVERS, 0, 64⟩
def BRG_CNT_POISON_FAULTS_COUNT : Fld := ⟨Reg.BRG_CNT_POISON_FAULTS, 0, 64⟩
def BRG_START_STATUS_STAGE : Fld := ⟨Reg.BRG_START_STATUS, 0, 4⟩
def BRG_START_STATUS_KIND : Fld := ⟨Reg.BRG_START_STATUS, 4, 1⟩
def BRG_START_STATUS_HELD : Fld := ⟨Reg.BRG_START_STATUS, 5, 1⟩
def BRG_START_STATUS_STOPPED : Fld := ⟨Reg.BRG_START_STATUS, 6, 1⟩
def BRG_START_STATUS_RECOVERY : Fld := ⟨Reg.BRG_START_STATUS, 7, 1⟩
def BRG_START_STATUS_REASON : Fld := ⟨Reg.BRG_START_STATUS, 8, 3⟩
def BRG_START_STATUS_TAP_OPENED : Fld := ⟨Reg.BRG_START_STATUS, 11, 1⟩
def BRG_START_STATUS_LOG_HELD : Fld := ⟨Reg.BRG_START_STATUS, 12, 1⟩
def BRG_START_STATUS_STOP_CAUSE : Fld := ⟨Reg.BRG_START_STATUS, 16, 8⟩
def BRG_START_TICKS_LOCK_TICKS : Fld := ⟨Reg.BRG_START_TICKS, 0, 32⟩
def BRG_START_TICKS_READY_TICKS : Fld := ⟨Reg.BRG_START_TICKS, 32, 32⟩
def BRG_MEM_TEST_A_OUT : Fld := ⟨Reg.BRG_MEM_TEST, 0, 11⟩
def BRG_MEM_TEST_B_OUT : Fld := ⟨Reg.BRG_MEM_TEST, 16, 8⟩
def BRG_MEM_TEST_STACKS_OUT : Fld := ⟨Reg.BRG_MEM_TEST, 24, 8⟩
def BRG_LANE_TEST_ROTATED : Fld := ⟨Reg.BRG_LANE_TEST, 0, 16⟩
def BRG_LANE_TEST_NARROWED : Fld := ⟨Reg.BRG_LANE_TEST, 16, 16⟩
def BRG_LANE_TEST_LOST : Fld := ⟨Reg.BRG_LANE_TEST, 32, 16⟩
def BRG_MARGIN_CTL_GO : Fld := ⟨Reg.BRG_MARGIN_CTL, 0, 1⟩
def BRG_MARGIN_CTL_DONE : Fld := ⟨Reg.BRG_MARGIN_CTL, 1, 1⟩
def BRG_MARGIN_CTL_ERROR : Fld := ⟨Reg.BRG_MARGIN_CTL, 2, 1⟩
def BRG_MARGIN_CTL_TIER : Fld := ⟨Reg.BRG_MARGIN_CTL, 3, 1⟩
def BRG_MARGIN_CTL_CHANNEL : Fld := ⟨Reg.BRG_MARGIN_CTL, 4, 10⟩
def BRG_MARGIN_CTL_AXIS : Fld := ⟨Reg.BRG_MARGIN_CTL, 14, 2⟩
def BRG_MARGIN_CTL_STEPS : Fld := ⟨Reg.BRG_MARGIN_CTL, 16, 8⟩
def BRG_MARGIN_CTL_SWEEP : Fld := ⟨Reg.BRG_MARGIN_CTL, 24, 1⟩
def BRG_MARGIN_CTL_PATTERN : Fld := ⟨Reg.BRG_MARGIN_CTL, 25, 3⟩
def BRG_MARGIN_CTL_BURSTS : Fld := ⟨Reg.BRG_MARGIN_CTL, 32, 16⟩
def BRG_MARGIN_RESULT_ERRORS : Fld := ⟨Reg.BRG_MARGIN_RESULT, 0, 32⟩
def BRG_MARGIN_RESULT_EDGE_LOW : Fld := ⟨Reg.BRG_MARGIN_RESULT, 32, 16⟩
def BRG_MARGIN_RESULT_EDGE_HIGH : Fld := ⟨Reg.BRG_MARGIN_RESULT, 48, 16⟩

end RF

/-- The permission table's ceilings (R433), bit o - 1 for origin o. -/
def permCeiling (r : Nat) : Nat :=
  match r with
  | 0 => 0x01 | 1 => 0x05 | 2 => 0x03 | 3 => 0x03 | 4 => 0x01 | 5 => 0x09 | 6 => 0x03 | 7 => 0x09 | 8 => 0x09
  | 9 => 0x09 | 10 => 0x0B | 11 => 0x09 | 12 => 0x09 | 13 => 0x09 | 14 => 0x08 | 15 => 0x10 | 16 => 0x10
  | _ => 0

/-- A permission row at first start: the effective set equals the ceiling; rows 13 to 16 are fixed (R433, R446). -/
def permReset (r : Nat) : Nat := permCeiling r * 0x101 + (if r ≥ 13 then 0x10000 else 0)

/-- True for base + 8 * stride-steps below a count. -/
def inBlock (off base stride count : Nat) : Bool :=
  decide (base ≤ off) && decide (off < base + stride * count) && ((off - base) % stride == 0)

/-- The reset value of the register at an offset (the Reset columns of R29, R54, R156, R233, R261, R283, R314, R330,
R369, R392, R418, R446, R473, R498, R517). Fused fields read 0 here: DESIGN CHOICE, notes/assumptions/9.md. DESIGN CHOICE: log entry 9. -/
def regReset (off : Nat) : Nat :=
  if off = Reg.BRG_MODULE_ID then 0x48
  else if inBlock off (Reg.BRG_SITE_STATUS 0) 8 48 then 0xFF02
  else if off = Reg.STR_LANE_POLICY then 0x100C35010
  else if inBlock off (Reg.STR_STRAIT_STATUS 0) 8 110 then 3
  else if inBlock off (Reg.STR_BD_STATUS 0 0 0) 64 1760 then 3
  else if inBlock off (Reg.STR_BD_LANE_MAP 0 0 0) 64 1760 then 0x7F7F7F7F
  else if off = Reg.MEM_MIG_POLICY then 0x10000064022001
  else if off = Reg.MEM_SCRUB_POLICY then 0x18
  else if inBlock off (Reg.MEM_A_CHAN 0 0) 8 1024 then 0x7FF0001
  else if inBlock off (Reg.MEM_B_CHAN 0 0) 8 128 then 0x7FF0001
  else if inBlock off (Reg.SES_CLASS_CFG 0) 32 8 then 0x1F427104E2001F4
  else if off = Reg.FAB_STATUS then 0x7FFF
  else if off = Reg.FAB_PROGRESS then 0x1000
  else if off = Reg.FAB_POLICY then 0x1400C801
  else if inBlock off (Reg.FAB_PORT_STATUS 0) 128 16 then 0x7FFF0000
  else if off = Reg.HST_POLICY then 0xFA00064
  else if off = Reg.INS_STATUS 0 then 1
  else if inBlock off (Reg.SEC_PERM 0) 8 17 then permReset ((off - Reg.SEC_PERM 0) / 8)
  else if off = Reg.PWR_POLICY then 0x3E896044647D0E10
  else if off = Reg.PWR_IDLE_POLICY then 0x64000320A138800A
  else if off = Reg.PWR_LIMITS then 0x4212C10960
  else if inBlock off (Reg.PWR_ISLAND 0) 8 44 then 0x1000000002
  else if off = Reg.THM_POLICY then 0x695F
  else if inBlock off (Reg.THM_ISLAND 0) 8 44 then 0x109600000
  else if off = Reg.BRG_MARGIN_CTL then 0x100000000
  else 0

end Sys2Proof.Machine
end

