-- ==== Sys2Proof/Machine/StateInst.lean ====
section
/-!
DEFINITION. State of instances (chapter 15) and of what their frames take part in (R350, R378, R483).
-/
namespace Sys2Proof.Machine

/-- A replica pair (R483): the instance, and two runs of 2 MiB frames of equal length. -/
structure Replica where
  inst : Nat
  first : Nat
  frames : Nat
  copy : Nat
deriving DecidableEq, Repr

/-- An export entry (R350): the instance, a run of frames, rights, and its sources: 0 one device, 1 the archipelago, 2 every
device. `closing` refuses new requests (R351). -/
structure Export where
  inst : Nat
  first : Nat
  frames : Nat
  r : Bool
  w : Bool
  a : Bool
  src : Nat
  device : Nat
  closing : Bool
deriving DecidableEq, Repr

/-- Instances beyond their registers: the ownership map (R398; a frame with no entry is unassigned, 0xFF), the replica pairs by number (R483), the export
table by handle (R350), the bases that the host assigned to each function's BAR0 and BAR2 (R374), restore targets that INS_RESTORE has not filled (R414),
what follows a reset in progress (0 Active, 1 the instance is destroyed, 2 it is left Frozen and unfilled), and the functions whose
STOP_INTERFACE_REQUEST waits for one (R388). -/
structure Insts where
  owner : Tbl Nat
  pairs : Tbl Replica
  exports : Tbl Export
  bar0 : Tbl Nat
  bar2 : Tbl Nat
  unfilled : List Nat
  after : Tbl Nat
  stopping : List Nat
deriving DecidableEq, Repr

/-- Instances at start. -/
def Insts.reset : Insts :=
  { owner := [], pairs := [], exports := [], bar0 := [], bar2 := [], unfilled := [], after := [], stopping := [] }

end Sys2Proof.Machine
end

