-- ==== Sys2Proof/Machine/StateMod.lean ====
section
/-!
DEFINITION. State of the module as a whole (chapters 01, 16, 17, 18, 20, 21): audit log, start, trust, power.
-/
namespace Sys2Proof.Machine

/-- An audit-log entry (R436). OLD and NEW are 40 B values, CHAIN 64 bytes. -/
structure LogEntry where
  seq : Nat
  stamp : Nat
  tick : Nat
  origin : Nat
  flags : Nat
  originId : Nat
  result : Nat
  kind : Nat
  object : Nat
  inst : Nat
  old : Nat
  new : Nat
  chain : List Byte
deriving DecidableEq, Repr

/-- A checkpoint (R440), without its signatures, which `signed` says are formed; `inRing` and `inFlash` say where it is held. -/
structure Checkpoint where
  number : Nat
  first : Nat
  last : Nat
  chain : List Byte
  prevDigest : List Byte
  stamp : Nat
  tick : Nat
  kind : Nat
  signed : Bool
  inRing : Bool
  inFlash : Bool
deriving DecidableEq, Repr

/-- A throttle entry that later ones may merge into (R436): reason, unit, tick and sequence number. -/
structure ThrottleMark where
  reason : Nat
  unit : Nat
  tick : Nat
  seq : Nat
deriving DecidableEq, Repr

/-- The log unit (R437 to R439). `early` holds what stages 1 to 5 record before the START entry is formed; entries numbered from `wrote` on are held in
the unit, those below are written to the ring. -/
structure LogUnit where
  started : Bool
  everStarted : Bool
  early : List LogEntry
  entries : Tbl LogEntry
  next : Nat
  chain : List Byte
  cps : Tbl Checkpoint
  cpNext : Nat
  cpLast : Nat
  wrote : Nat
  held : Bool
  throttles : List ThrottleMark
  lastOverwritten : Nat
  lastFlashFails : Nat
deriving DecidableEq, Repr

/-- A log unit that has never held an entry: 64 zero bytes of chain (R437). DESIGN CHOICE: log entry 38. -/
def LogUnit.reset : LogUnit :=
  { started := false, everStarted := false, early := [], entries := [], next := 0, chain := List.replicate 64 0,
    cps := [], cpNext := 0, cpLast := 0, wrote := 0, held := false, throttles := [], lastOverwritten := 0, lastFlashFails := 0 }

/-- Power bookkeeping beyond the registers (chapter 17): where each throttle reason applies, as reason and unit (R464), the tick
of the last message on POWER_VECTOR by reason (R465), and the islands that have been asked to return to Run (R452); the last ten samples of input power
in units of 10^-4 W (R466), whether every sample since the last loop stood below the current limit less 2 A (R467), the reason whose source was the
lowest cap (R466), and whether a coolant warning stands (R470); frequency changes in progress by island and those deferred (R459, R463); and the tick
of the last PLL unlock by edge die (R448). -/
structure Power where
  applies : List (Nat × Nat)
  told : Tbl Nat
  wake : List Nat
  samples : List Nat
  calm : Bool
  source : Nat
  warning : Bool
  changing : Tbl Nat
  deferred : List Nat
  unlocks : Tbl Nat
deriving DecidableEq, Repr

/-- Power bookkeeping at start: the power cap is the only source. -/
def Power.reset : Power :=
  { applies := [], told := [], wake := [], samples := [], calm := true, source := 1, warning := false, changing := [], deferred := [], unlocks := [] }

/-- A debug trace (R515): the instance that started it, its events and islands, its buffer, records formed and written so far, its STATE, and the
STATE that its header shows. -/
structure Trace where
  inst : Nat
  events : Nat
  islands : Nat
  va : Nat
  len : Nat
  records : Nat
  written : Nat
  state : Nat
  shown : Nat
deriving DecidableEq, Repr

/-- A firmware image in a flash slot (R421): the SHA-512 of its header and body, SVN and version, and whether both signatures verify by keys of the
fused digests. -/
structure FwImage where
  digest : List Byte
  svn : Nat
  version : Nat
  good : Bool
deriving DecidableEq, Repr

/-- A site as the field map records it (R21): state, stepping and origin of a defect, as codes of BRG_SITE_STATUS (R29). -/
structure SiteRec where
  state : Nat
  step : Nat
  origin : Nat
deriving DecidableEq, Repr

/-- A field lane map (R37): STR_BD_LANE_MAP, STR_BD_LANE_FAIL_LO and STR_BD_LANE_FAIL_HI. -/
structure LaneRec where
  map : Nat
  failLo : Nat
  failHi : Nat
deriving DecidableEq, Repr

/-- Module flash and the fuses, which outlast every start: firmware slots and the active one (R421), fused SVN and the raises used (R424), the fabric
admission policy (R429), the sideband root's digest (R431), effective permission rows that differ from the ceiling (R433), the field map and field
lane maps (R21, R37), the site and level registers of the previous start (R21), and commands that the boot ROM recorded (R431). The flash copies of
checkpoints are marked in the log unit. -/
structure Flash where
  active : Nat
  slots : Tbl FwImage
  fusedSvn : Nat
  raises : Nat
  minSvn : Nat
  allowed : List (List Byte)
  sbRoot : Option (List Byte)
  perms : Tbl Nat
  sites : Tbl SiteRec
  lanes : Tbl LaneRec
  lastMaps : List Nat
  romLog : List LogEntry
deriving DecidableEq, Repr

/-- The site of a field map as assembly leaves it in this model: S05 and S30 spare, S19 and S44 defective, every compute die B1.
DESIGN CHOICE: log entry 13. -/
def builtSite (n : Nat) : SiteRec :=
  if n = 5 ∨ n = 30 then ⟨1, 2, 0⟩ else if n = 19 ∨ n = 44 then ⟨2, 2, 1⟩ else ⟨0, 2, 0⟩

/-- Module flash and fuses of a module that has never been started: an image of SVN 0 in both slots, slot 0 active. DESIGN CHOICE: log entry 13. -/
def Flash.reset : Flash :=
  let image : FwImage := { digest := List.replicate 64 0, svn := 0, version := 0, good := true }
  { active := 0, slots := [(0, image), (1, image)], fusedSvn := 0, raises := 0, minSvn := 0, allowed := [], sbRoot := none, perms := [],
    sites := (List.range 48).map (fun n => (n, builtSite n)), lanes := [],
    lastMaps := [0xEFFFBFF7FFDF, 0x40000020, 0, 0], romLog := [] }

/-- An SPDM connection of a responder (R426, R427): the message just answered with an RSA signature, a key exchange that waits for its FINISH, and
an open session. Connections are keyed 0 to 32 for the functions' mailboxes, 64 and 65 for the management buses. -/
structure SpdmConn where
  signed : Option (List Byte)
  exchanged : Bool
  session : Bool
deriving DecidableEq, Repr

/-- Trust beyond the registers: SPDM connections, and migration key slots (R411) with their peers and generations. -/
structure Trust where
  conns : Tbl SpdmConn
  slots : Tbl (Nat × Nat)
deriving DecidableEq, Repr

/-- A start in progress (R503 to R511): HOLD, HW's count at its begin, the first stop cause, whether a known-answer test of HW has failed, the always-on
domains that are powered, the input switch and the slot strap (R521, R525), ALERT# of the two management buses as a mask, a margining run (R512), the
instructions that the dies of the test chain hold (R513), and the field map and field lane maps as read from flash at the start (R422). -/
structure Start where
  hold : Bool
  begun : Nat
  cause : Nat
  kat : Bool
  primary : Bool
  secondary : Bool
  closed : Bool
  slot : Nat
  alerts : Nat
  margin : Bool
  tap : Tbl Nat
  fieldMap : List Byte
deriving DecidableEq, Repr

/-- A module without power. -/
def Start.reset : Start :=
  { hold := false, begun := 0, cause := 0, kat := false, primary := false, secondary := false, closed := false, slot := 0, alerts := 0,
    margin := false, tap := [], fieldMap := [] }

end Sys2Proof.Machine
end

