-- ==== Sys2Proof/Machine/StateSes.lean ====
section
/-!
DEFINITION. State of dispatches, rings and sessions (chapters 11 and 12).
-/
namespace Sys2Proof.Machine

/-- What a batch slot's session supplies to its step (R304 to R307). -/
structure SlotInfo where
  session : Nat
  step : Nat
  seed : Word64
  inVa : Nat
  inLen : Nat
  outVa : Nat
  outLen : Nat
  kvVa : Nat
  kvCount : Nat
deriving DecidableEq, Repr

/-- Progress of a dispatch: waiting for islands, given islands, running, or releasing (R85). -/
inductive DispPhase where
  | waiting | assigned | running | ended
deriving DecidableEq, Repr

/-- A launch or a step of a batch (R57, R84, R204, R299, R310). `cores` is the core list by logical core number, `canon`
the core numbers that CORE reads at the same positions, `got` the islands taken so far. `source` is the command of a plain LAUNCH.
`start` is HW's count at which the first set was admitted. -/
structure Dispatch where
  inst : Nat
  plain : Bool
  bind : Nat
  cls : Nat
  shape : Shape
  prog : Nat
  args : Nat
  islands : Nat
  seed : Word64
  got : List Nat
  cores : List Nat
  canon : List Nat
  slots : List SlotInfo
  phase : DispPhase
  order : Nat
  source : Option Nat
  uregs : Tbl Reg32
  flags : Flags
  poisonTiles : Nat
  code : Nat
  seq : Nat
  start : Option Nat
deriving DecidableEq, Repr

/-- A command that the front end has read into its die's command store (R289, R491). Instances 0 to 32 are those of its ring; 33 stands
for the sideband and 34 for the fabric manager. `phase`: 0 read, 1 begun, 2 its completion is owed. -/
structure StoreEntry where
  inst : Nat
  ring : Nat
  pos : Nat
  entry : Entry512
  phase : Nat
  replay : Bool
deriving DecidableEq, Repr

/-- A completion entry that waits to be written (R291): the command it completes, and the dispatch it belongs to. -/
structure Cpl where
  tag : Nat
  status : Nat
  opcode : Nat
  r0 : Nat
  r1 : Nat
  r2 : Nat
  r3 : Nat
  flags : Nat
  implicit : Bool
  irq : Bool
  key : Option Nat
  disp : Option Nat
deriving DecidableEq, Repr

/-- A ring (R288, R289): kind, sizes, MSI-X vector and moderation, the locations of its pages, of its completion ring's pages and of its
watch line; entries read, completions written, CONSUMED as last read; the producer index last seen; completions that wait; HW's count of
the last MSI-X message, and whether one is due; the input rejections since the last logged one and its tick (R294). `dead` marks a ring
out of service (R534). The virtual addresses are those of RING_CREATE. `gen` is the GENERATION of the function's binding at its creation (R381),
and `fresh` says that no look at the producer index has followed the last wake (R285). -/
structure Ring where
  kind : Nat
  sizeLog2 : Nat
  cplLog2 : Nat
  vector : Nat
  irqMod : Nat
  ringVa : Nat
  cplVa : Nat
  watchVa : Nat
  pages : List Nat
  cplPages : List Nat
  watch : Nat
  read : Nat
  written : Nat
  consumed : Nat
  lastP : Nat
  dead : Bool
  gen : Nat
  fresh : Bool
  cplQ : List Cpl
  lastIrq : Option Nat
  irqDue : Bool
  rejects : Nat
  lastReject : Option Nat
deriving DecidableEq, Repr

/-- Session states (R301). -/
inductive SesState where
  | closed | opened | ready | running | parked | suspended | failed
deriving DecidableEq, Repr

/-- A session entry (R300). `defer` is DEFER_OP with the command that waits; `moving` the PARK (0) or RESUME (1) whose page moves are in
progress, with its command; `steps` the frames submitted by SESSION_STEP, with their commands and TAGs; `arrivals` HW's counts at which the pending
frames were accepted and `ended` that of the last step's completion (R311); `away` says that a PARK moved its pages (R303). -/
structure Session where
  state : SesState
  defer : Option (Nat × Nat)
  cls : Nat
  inst : Nat
  pending : Nat
  binding : Nat
  cplRing : Nat
  step : Nat
  seed : Word64
  kvList : Nat
  ioVa : Nat
  energy : Nat
  oldest : Nat
  lastCode : Nat
  moving : Option (Nat × Nat)
  steps : List (Nat × Nat × Nat)
  arrivals : List Nat
  ended : Nat
  away : Bool
deriving DecidableEq, Repr

/-- A program binding (R299). -/
structure Binding where
  inst : Nat
  prog : Nat
  args : Nat
  islands : Nat
  shape : Shape
  frames : Nat
  maxBatch : Nat
  perIsland : Nat
  inBytes : Nat
  outBytes : Nat
deriving DecidableEq, Repr

/-- A class's figures of the current 100 ms window (R312): largest latency in ticks, sum of B / MAX_BATCH in units of 2^-32, and
batches. -/
structure ClassWindow where
  maxLat : Nat
  fill : Nat
  batches : Nat
deriving DecidableEq, Repr

/-- A journal record before it is written (R323). -/
structure JRec where
  kind : Nat
  flags : Nat
  ring : Nat
  seq : Nat
  step : Nat
  session : Nat
  aux : Nat
  payload : List Byte
deriving DecidableEq, Repr

/-- A digest that waits for the OUTCOME records of its dispatch (R326): dispatch, ring, session, step, value. -/
structure Digest where
  disp : Nat
  ring : Nat
  session : Nat
  step : Nat
  value : Nat
deriving DecidableEq, Repr

/-- An OUTCOME or DIGEST that replay compares (R328): kind 7 or 8, ring, session, step, and the bytes; `seq` is the record's. -/
structure Expect where
  kind : Nat
  ring : Nat
  session : Nat
  step : Nat
  seq : Nat
  bytes : List Byte
deriving DecidableEq, Repr

/-- An instance's journal or replay (R321 to R328). The mode, number, HELD and GAPPED stand in SES_JNL_STATUS. `queue` holds records that
wait for room under DROP 0, `lost` the records lost since the last GAP under DROP 1. -/
structure Journal where
  base : Nat
  sizeLog2 : Nat
  drop : Bool
  digLaunch : Bool
  digVa : Nat
  digLen : Nat
  produced : Nat
  consumed : Nat
  records : Nat
  totalLost : Nat
  lost : Nat
  seq : Nat
  queue : List JRec
  stopping : Option Nat
  digests : List Digest
  cmd : Nat
  stopFirst : Bool
  watch : Nat
  feed : Nat
  expect : List Expect
  outcomes : List Expect
  first : Option (Nat × Nat)
  diverged : Nat
  lastSeq : Nat
deriving DecidableEq, Repr

/-- The front end, the sessions and the batch former. Rings are keyed 4096 * instance + number; `marks` names the ring of each watch
line; `wakes` are sent and not yet taken, `woken` rings have been woken and not yet left, `last` is the ring served last (R287). `cache`
lists the session indices that HW's session cache holds. -/
structure FrontEnd where
  store : List StoreEntry
  rings : Tbl Ring
  marks : Tbl Nat
  wakes : List Nat
  woken : List Nat
  last : Nat
  sessions : Tbl Session
  cache : List Nat
  bindings : Tbl Binding
  windows : Tbl ClassWindow
  journals : Tbl Journal
  order : Nat
deriving DecidableEq, Repr

/-- A front end after start. DESIGN CHOICE: log entry 38. -/
def FrontEnd.reset : FrontEnd :=
  { store := [], rings := [], marks := [], wakes := [], woken := [], last := 0, sessions := [], cache := [], bindings := [], windows := [],
    journals := [], order := 0 }

end Sys2Proof.Machine
end

