-- ==== Sys2Proof/Machine/StateNet.lean ====
section
/-!
DEFINITION. Messages the device sends, and the state of its links (chapters 02, 13, 14).
-/
namespace Sys2Proof.Machine

/-- CXL.cache requests of the device (R382). -/
inductive CacheOp where
  | rdShared | rdOwn | itoMWr | woWrInv | dirtyEvict | cleanEvict
deriving DecidableEq, Repr

/-- What the device answers on a DOE mailbox or a management bus: Discovery, CDAT, IDE_KM and TDISP (R387, R388), and SPDM (R426 to R428). Replies are
named by their content; a signature covers the nonce and the content. `cdat` lists latency in ns and bandwidth in GB/s of the two tiers. -/
inductive Reply where
  | protocols (names : List Nat)
  | cdat (tiers : List (Nat × Nat))
  | ideKm (done : Bool)
  | tdispVersion
  | tdispCapabilities
  | locked
  | started
  | stopped
  | tdispError
  | ifState (state : Nat)
  | report (bar0 bar2 msix : Nat) (digest : List Byte)
  | notReady
  | unexpected
  | invalid
  | certificate (bytes : List Byte)
  | challengeAuth (content signature : List Byte)
  | measurements (content signature : List Byte)
  | keyExchange (signature : List Byte)
  | finished
  | cosign (signature : List Byte)
deriving DecidableEq, Repr

/-- A message the device sends or a pin it drives. A fabric flit names its port. `memData` answers a CXL.mem read or a snoop of the host, and
`grant` lets the host have a line; `barData` answers a BAR read, and `regAck` a
write of a register over a management bus. -/
inductive Out where
  | flit (port : Nat) (f : FabFlit)
  | portNak (port seq : Nat)
  | cxlCache (op : CacheOp) (line : Nat) (data : Option LineData)
  | biSnoop (line : Nat) (inv : Bool)
  | memData (line : Nat) (owned : Bool) (data : Option LineData)
  | memDone (line : Nat)
  | snoopRsp (line : Nat) (kept : Bool) (data : Option LineData)
  | ioRead (host addr : Nat)
  | ioWrite (host addr : Nat) (mask : BitVec 32) (data : BitVec 256) (poison : Bool)
  | barData (fn : Nat) (data : List Byte) (poisoned : Bool)
  | msix (fn vector : Nat)
  | unsupported (fn : Nat)
  | mailbox (conn : Nat) (r : Reply)
  | viral
  | reply (origin bus : Nat) (completion buffer : List Byte)
  | regData (bus value : Nat)
  | regAck (bus code : Nat)
  | mesh (strait bundle dir : Nat) (flit : BitVec 2048)
  | meshNak (strait bundle dir seq : Nat)
  | meshCtl (strait bundle dir code arg : Nat)
  | alert (bus : Nat) (asserted : Bool)
  | idcode (die value : Nat)
  | inputSwitch (closed : Bool)
  | faultPin (asserted : Bool)
deriving DecidableEq, Repr

/-- An MSI-X vector of a function (R377): masked, and a message pending. -/
structure MsixVec where
  masked : Bool
  pending : Bool
deriving DecidableEq, Repr

/-- The host port (chapter 14): MSI-X vectors by 64 * function + vector (a vector not listed is masked, none pending), the tick of the last refusal
that was logged (R384), DOE error bits by function (R387), the flit mode under which binding 0 was formed (R373), the selective IDE streams that
are secure, and the stream that a function's interface bound at lock (R388). -/
structure HostPort where
  msix : Tbl MsixVec
  lastRefusal : Option Nat
  doeError : Tbl Bool
  wide : Bool
  streams : List Nat
  locked : Tbl Nat
deriving DecidableEq, Repr

/-- The host port at start. -/
def HostPort.reset : HostPort := { msix := [], lastRefusal := none, doeError := [], wide := false, streams := [], locked := [] }

/-- A fabric port beyond its registers (R334 to R347): the next sequence number to send and the next expected, flits not acknowledged,
successive failures of one number, flits not acknowledged when the port left service, the neighbour that is asked what it accepted of them (R339; 0x8000: none), the
number accepted last before that, the checks
that attestation has passed (1 identity, 2 measurements), a retrain that has succeeded and waits for its key update (R337), flits sent under the
present key, and parked lanes (R456). -/
structure Port where
  tx : Nat
  rx : Nat
  replay : List FabFlit
  fails : Nat
  held : List FabFlit
  heldFrom : Nat
  accepted : Nat
  passed : Nat
  trained : Bool
  keyUse : Nat
  parked : Bool
deriving DecidableEq, Repr

/-- A port at start. DESIGN CHOICE: log entry 8. -/
def Port.reset : Port :=
  { tx := 0, rx := 0, replay := [], fails := 0, held := [], heldFrom := 0x8000, accepted := 2 ^ 32 - 1, passed := 0, trained := false, keyUse := 0, parked := false }

/-- An entry of the member table (R352): device, the ARCH_ID it was entered with, the command that waits for its admission, and the tick
of the last message from it. -/
structure Member where
  device : Nat
  cmd : Option Nat
  heard : Nat
deriving DecidableEq, Repr

/-- A target of a multicast in progress (R358): base, segments acknowledged and refused, refusals, tick of the first one, whether it is missed. -/
structure McastTarget where
  base : Nat
  acked : List Nat
  refused : List Nat
  refusals : Nat
  firstBusy : Option Nat
  missed : Bool
deriving DecidableEq, Repr

/-- A multicast in progress (R357, R359): its command, instance, length, offset, source bytes and targets. -/
structure McastOp where
  cmd : Nat
  inst : Nat
  off : Nat
  data : List Byte
  poison : Bool
  targets : List McastTarget
deriving DecidableEq, Repr

/-- A segment in a multicast receive buffer (R358): its die (0 HW, 1 HE), and the message. -/
structure SegBuf where
  die : Nat
  msg : FabMsg
deriving DecidableEq, Repr

/-- A collective in progress at this rank (R361, R362): its command, header, buffers, what its children sent (rank, blocks), whether its own part
has gone up, the flags raised, and the tick at which it began to wait. -/
structure Coll where
  cmd : Nat
  head : CollHead
  src : Nat
  dst : Nat
  got : List (Nat × List (Nat × List Byte))
  sentUp : Bool
  flags : Nat
  since : Nat
  pacing : Bool
deriving DecidableEq, Repr

/-- A communicator (R360): instance, key, devices by rank, own rank, collectives issued and in progress, and messages that came before
this member issued theirs. -/
structure Comm where
  inst : Nat
  key : Nat
  ranks : List Nat
  rank : Nat
  issued : Nat
  colls : List Coll
  early : List FabMsg
deriving DecidableEq, Repr

/-- The fabric (chapter 13): route table by device number (R342; an entry not listed is 0), ports, the port used last, messages that wait for a replay
buffer, the member table, the epoch last held with each device, multicast groups by 256 * instance + group, multicasts and receive buffers,
communicators by handle, the progress words read of other devices, messages that arrived in a flit and wait for lines held outside the device, with the
die they came to (0 HW, 1 HE), and what devices said that ask for admission (R353). -/
structure Fabric where
  routes : Tbl Nat
  ports : Tbl Port
  lastPort : Nat
  waiting : List FabMsg
  members : Tbl Member
  epochs : Tbl Nat
  groups : Tbl (List Nat)
  sends : Tbl McastOp
  nextSend : Nat
  segs : List SegBuf
  comms : Tbl Comm
  words : Tbl Nat
  inbox : List (Nat × FabMsg)
  notes : Tbl AdmitNote
  lastBad : Option Nat
deriving DecidableEq, Repr

/-- The fabric at start. DESIGN CHOICE: log entry 8. -/
def Fabric.reset : Fabric :=
  { routes := [], ports := [], lastPort := 0, waiting := [], members := [], epochs := [], groups := [], sends := [], nextSend := 0, segs := [],
    comms := [], words := [], inbox := [], notes := [], lastBad := none }

/-! ### The mesh (chapter 02) -/

/-- Where a pause of a bundle-direction stands (R38, R39): none; waiting for one of two places (R51); the sender's replay buffer drains; a spare, or
the narrowed link, trains; the switch-over is agreed; a retrain after 8 failures of one number (R35). -/
inductive BdPhase where
  | running | queued | draining | training | switching | retraining
deriving DecidableEq, Repr

/-- A bundle-direction beyond its registers (R35 to R40, R455): the sender's next sequence number and its replay buffer, the receiver's next
expected one, its successive failures and the failed copy it keeps, charged replays by physical lane and tick, lanes that await rotation, whether the
pause is for narrowing, whether it ran narrowed, and whether it is parked. -/
structure Bd where
  tx : Nat
  replay : List (Nat × BitVec 2048)
  rx : Nat
  fails : Nat
  copy : Option (BitVec 2048)
  charges : List (Nat × Nat)
  lanes : List Nat
  phase : BdPhase
  narrow : Bool
  wasNarrow : Bool
  parked : Bool
deriving DecidableEq, Repr

/-- A bundle-direction at start. DESIGN CHOICE: log entry 8. -/
def Bd.reset : Bd :=
  { tx := 0, replay := [], rx := 0, fails := 0, copy := none, charges := [], lanes := [], phase := .running, narrow := false,
    wasNarrow := false, parked := false }

/-- The mesh: bundle-directions by 16 * strait + 2 * bundle + direction, flits that a router holds for want of a bundle (node, flit), the straits that the active
tables avoid, straits and routers lost since, and the bundle used last of a strait-direction. -/
structure Mesh where
  bds : Tbl Bd
  waiting : List (Nat × BitVec 2048)
  avoided : List Nat
  switching : Bool
  last : Tbl Nat
deriving DecidableEq, Repr

/-- The mesh at start. DESIGN CHOICE: log entry 8. -/
def Mesh.reset : Mesh := { bds := [], waiting := [], avoided := [], switching := false, last := [] }

end Sys2Proof.Machine
end

