-- ==== Sys2Proof/Machine/State.lean ====
section
/-!
DEFINITION. The state of the module: plain data.
-/
namespace Sys2Proof.Machine

/-- Why a step faults: the spec gives the module no event that stops it, so there is no reason. -/
inductive Fault where
deriving DecidableEq, Repr

/-- Why a step is refused. -/
inductive Refusal where
  /-- Raised by an arm of exec whose command has no meaning yet: of this model, by none. Safe: the model stops. -/
  | notModelled (mnemonic : String)
deriving DecidableEq, Repr

/-- Always-on counts of the dies (R449) and of the base dies. -/
structure Time where
  hw : Nat
  he : Nat
  mn : Nat
  ms : Nat
  base : Nat
deriving DecidableEq, Repr

/-- The module, apart from the commands that wait for it. `blocked` lists lines that the command in progress found held
outside the device, with what it needs of them (0 read, 1 write, 2 freed); it is empty between commands. `traces` holds the debug traces by number and `traceQ` the records
formed and not yet written, with their trace and their place in it. -/
structure Dev where
  regs : Tbl Word64
  iregs : Tbl Word64
  free : Nat
  time : Time
  cores : Tbl Core
  disp : Tbl Dispatch
  net : Tbl Req
  nextReq : Nat
  shore : Shore
  mem : Mem
  dram : Dram
  xl : Xlate
  ins : Insts
  fe : FrontEnd
  fab : Fabric
  mesh : Mesh
  flash : Flash
  trust : Trust
  start : Start
  host : HostPort
  out : List Out
  log : LogUnit
  power : Power
  traces : Tbl Trace
  traceQ : List (Nat × Nat × Nat)
  blocked : List (Nat × Nat)
deriving DecidableEq, Repr

/-- The state: the commands that wait, first in first out, and the module. -/
structure State where
  pending : List Instr
  dev : Dev
deriving DecidableEq, Repr

/-- The module right after reset: without power, nothing in its memories, every register at the value of its Reset column, instance 0 Active. POWER_APPLIED
begins its first start. DESIGN CHOICE: log entries 3, 8. -/
def State.reset : State :=
  { pending := [],
    dev :=
      { regs := [], iregs := [], free := 0, time := ⟨0, 0, 0, 0, 0⟩, cores := [], disp := [], net := [], nextReq := 0, shore := Shore.reset,
        mem := Mem.reset, dram := Dram.zero, xl := Xlate.reset, ins := Insts.reset, fe := FrontEnd.reset, fab := Fabric.reset,
        mesh := Mesh.reset, flash := Flash.reset, trust := { conns := [], slots := [] }, start := Start.reset, host := HostPort.reset,
        out := [], log := LogUnit.reset, power := Power.reset, traces := [], traceQ := [], blocked := [] } }

end Sys2Proof.Machine
end

