-- ==== Sys2Proof/Machine/Ops.lean ====
section
/-!
DEFINITION. Named operations over the state: registers and their fields, counters, cores, free values.
-/
namespace Sys2Proof.Machine

/-- The value of a manager register. -/
def regRead (s : Dev) (off : Nat) : Nat := (tgetD s.regs off (BitVec.ofNat 64 (regReset off))).toNat

/-- Write a manager register whole. -/
def regWrite (s : Dev) (off v : Nat) : Dev := { s with regs := tset s.regs off (BitVec.ofNat 64 v) }

/-- The value of a register field. -/
def fget (s : Dev) (f : Fld) : Nat := bitsOf (regRead s f.off) f.lo f.width

/-- Write a register field; the register's other bits keep their values. -/
def fset (s : Dev) (f : Fld) (v : Nat) : Dev := regWrite s f.off (setBits (regRead s f.off) f.lo f.width v)

/-- Add to a counter that wraps modulo 2^64. -/
def bumpBy (s : Dev) (off n : Nat) : Dev := regWrite s off (regRead s off + n)

/-- Count one event. -/
def bump (s : Dev) (off : Nat) : Dev := bumpBy s off 1

/-- Add to a field, saturating at its largest value. -/
def fsat (s : Dev) (f : Fld) (n : Nat) : Dev := fset s f (min (fget s f + n) (2 ^ f.width - 1))

/-- Change a field by a signed amount, kept within 0 and its largest value. -/
def fadj (s : Dev) (f : Fld) (n : Int) : Dev :=
  fset s f (min ((fget s f : Int) + n).toNat (2 ^ f.width - 1))

/-- The offset of a register of an instance window, in the table of those registers. -/
def winKey (fn off : Nat) : Nat := fn * 2 ^ 20 + off

/-- The value of an instance-window register. -/
def winRead (s : Dev) (fn off : Nat) : Nat := (tgetD s.iregs (winKey fn off) 0).toNat

/-- Write an instance-window register whole. -/
def winWrite (s : Dev) (fn off v : Nat) : Dev :=
  { s with iregs := tset s.iregs (winKey fn off) (BitVec.ofNat 64 v) }

/-- The value of a field of an instance-window register. -/
def wfget (s : Dev) (fn : Nat) (f : Fld) : Nat := bitsOf (winRead s fn f.off) f.lo f.width

/-- Write a field of an instance-window register. -/
def wfset (s : Dev) (fn : Nat) (f : Fld) (v : Nat) : Dev :=
  winWrite s fn f.off (setBits (winRead s fn f.off) f.lo f.width v)

/-- Take the next free value. DESIGN CHOICE: log entry 7. -/
def takeFree (s : Dev) : Nat × Dev := (Config.freeValue s.free, { s with free := s.free + 1 })

/-- A core of the module. -/
def coreOf (s : Dev) (c : Nat) : Core := tgetD s.cores c Core.reset

/-- Replace a core. -/
def setCore (s : Dev) (c : Nat) (x : Core) : Dev := { s with cores := tset s.cores c x }

/-- Change a core. -/
def modCore (s : Dev) (c : Nat) (f : Core → Core) : Dev := setCore s c (f (coreOf s c))

/-- Change a dispatch that is there. -/
def modDisp (s : Dev) (d : Nat) (f : Dispatch → Dispatch) : Dev := { s with disp := tmod s.disp d f }

/-! ### Debug trace (R515) -/

/-- Record n of a trace is formed: where it would pass the buffer's end the trace stops with STATE 2. -/
def traceAdd (s : Dev) (t : Nat) (rec : Nat) : Dev :=
  match tget s.traces t with
  | some x =>
    if x.state ≠ 0 then s
    else if 64 + 32 * (x.records + 1) > x.len then { s with traces := tset s.traces t { x with state := 2 } }
    else { s with traces := tset s.traces t { x with records := x.records + 1 }, traceQ := s.traceQ ++ [(t, x.records, rec)] }
  | none => s

/-- Events 1 to 5 on a core: every running trace of that event and island records them. DEDUCED: log entry 104. -/
def traceCore (s : Dev) (event bit core addr group code id : Nat) : Dev :=
  let rec_ := event + 2 ^ 16 * core + 2 ^ 64 * s.time.hw + 2 ^ 128 * (addr % 2 ^ 64) + 2 ^ 192 * (group % 2 ^ 32)
    + 2 ^ 224 * (code % 2 ^ 16) + 2 ^ 240 * id
  (tkeys s.traces).foldl (fun s t => match tget s.traces t with
    | some x => if bitOf x.events bit && bitOf x.islands (core / 4) then traceAdd s t rec_ else s
    | none => s) s

/-- Event 6, a directory transition, for the traces of the instance that owns the line's frame. DEDUCED: log entry 104. -/
def traceDir (s : Dev) (owner entry : Nat) : Dev :=
  let rec_ := 6 + 2 ^ 16 * 0xFFFF + 2 ^ 64 * s.time.hw + 2 ^ 128 * entry
  (tkeys s.traces).foldl (fun s t => match tget s.traces t with
    | some x => if bitOf x.events 3 && x.inst == owner then traceAdd s t rec_ else s
    | none => s) s

/-- Count of directory entries of one half (R220): parity of the line number. DESIGN CHOICE: log entry 56. -/
def dirCount (s : Dev) (parity : Nat) : Nat := (s.shore.dir.filter (fun p => p.1 % 2 == parity)).length

/-- What closes every command: memory is brought to its canonical form, the count of directory entries shows in SHC_STATUS
(R233), and no line is left marked as blocked. DESIGN CHOICE: log entries 2, 56. -/
def finish (s : Dev) : Dev :=
  let s := { s with dram := dramCanon s.dram, blocked := [] }
  fset (fset s RF.SHC_STATUS_DIR_USED_HW (dirCount s 0)) RF.SHC_STATUS_DIR_USED_HE (dirCount s 1)

/-- A command's effect on the module; the queue of waiting commands is not its concern. DESIGN CHOICE: log entry 2. -/
def perform (s : State) (f : Dev → Dev) : Host.Outcome State Fault Refusal := .next { s with dev := finish (f s.dev) }

end Sys2Proof.Machine
end

