-- ==== Sys2Proof/Machine/Audit.lean ====
section
/-!
DEFINITION. The audit log (R436 to R439): forming entries, the chain hash, checkpoints, and the counters that report them.
-/
namespace Sys2Proof.Machine

/-- Entries the log region holds (R438). -/
def logCapacity : Nat := 327680

/-- Bytes 0 to 127 of an entry (R436), the part the chain hash covers. -/
def entryBytes (e : LogEntry) : List Byte :=
  leBytes 8 e.seq ++ leBytes 8 e.stamp ++ leBytes 8 e.tick ++ leBytes 1 e.origin ++ leBytes 1 e.flags
  ++ leBytes 2 e.originId ++ leBytes 2 e.result ++ leBytes 2 e.kind ++ leBytes 8 e.object ++ leBytes 1 e.inst
  ++ List.replicate 7 0 ++ leBytes 40 e.old ++ leBytes 40 e.new

/-- CHAIN(n) from CHAIN(n - 1) and the entry (R437). -/
def chainStep (prev : List Byte) (e : LogEntry) : List Byte := sha512 (prev ++ sha512 (entryBytes e))

/-- Record a chain in LOG_CHAIN_0 to LOG_CHAIN_7. -/
def showChain (s : Dev) (ch : List Byte) : Dev :=
  (List.range 8).foldl (fun s j => regWrite s (Reg.LOG_CHAIN j) (ofLe ((ch.drop (8 * j)).take 8))) s

/-- Bytes 0 to 255 of a checkpoint (R440), which its signatures and PREV_DIGEST cover. -/
def checkpointBytes (s : Dev) (p : Checkpoint) : List Byte :=
  leBytes 8 p.number ++ leBytes 8 p.first ++ leBytes 8 p.last ++ p.chain ++ p.prevDigest ++ leBytes 8 p.stamp ++ leBytes 8 p.tick
    ++ leBytes 8 (regRead s Reg.BRG_MODULE_SERIAL) ++ leBytes 1 p.kind ++ List.replicate 79 0

/-- Start a checkpoint over the entries since the last one (R439); its signing completes later. DESIGN CHOICE: log entry 14. DEDUCED: log entry 74. -/
def beginCheckpoint (s : Dev) (kind : Nat) : Dev :=
  let l := s.log
  let cp : Checkpoint :=
    { number := l.cpNext, first := if l.cpNext = 0 ∧ l.cpLast = 0 then 0 else l.cpLast + 1, last := l.next - 1, chain := l.chain,
      prevDigest := (match (if l.cpNext = 0 then none else tget l.cps (l.cpNext - 1)) with
        | some p => sha512 (checkpointBytes s p)
        | none => List.replicate 64 0),
      stamp := regRead s Reg.LOG_EPOCH, tick := s.time.hw, kind := kind, signed := false, inRing := false, inFlash := false }
  { s with log := { l with cps := tset l.cps l.cpNext cp, cpNext := l.cpNext + 1, cpLast := l.next - 1 } }

/-- An entry lies beyond the newest checkpoint. DEDUCED: log entry 78. -/
def hasNew (s : Dev) : Bool := s.log.cpNext == 0 || s.log.next != s.log.cpLast + 1

/-- Enter an entry whose SEQ and CHAIN are given now (R437, R438). An entry is written to the ring from READY on; what was formed before is written at
the end of stage 8. DEDUCED: log entry 76. -/
def logPut (s : Dev) (e : LogEntry) : Dev :=
  let e := { e with seq := s.log.next }
  let e := { e with chain := chainStep s.log.chain e }
  let spill := decide (logCapacity ≤ e.seq) && thas s.log.entries (e.seq - logCapacity)
  let kept := if spill then tdel s.log.entries (e.seq - logCapacity) else s.log.entries
  let entries := tset kept e.seq e
  let s := { s with log := { s.log with entries := entries, next := e.seq + 1, chain := e.chain } }
  let s := showChain (regWrite s Reg.LOG_HEAD e.seq) e.chain
  let s := regWrite s Reg.LOG_OLDEST ((tkeys entries).headD e.seq)
  let s := if fget s RF.BRG_START_STATUS_STAGE = 9 then bump { s with log := { s.log with wrote := s.log.next } } Reg.LOG_CNT_ENTRIES else s
  if spill then bump s Reg.LOG_CNT_OVERWRITTEN else s

/-- Entries overwritten since the last LOG entry that says so: the first entry after a regular checkpoint (R438). DEDUCED: log entry 78. -/
def noteOverwritten (s : Dev) : Dev :=
  let n := regRead s Reg.LOG_CNT_OVERWRITTEN
  if n ≤ s.log.lastOverwritten then s
  else
    logPut { s with log := { s.log with lastOverwritten := n } }
      { seq := 0, stamp := regRead s Reg.LOG_EPOCH, tick := s.time.hw, origin := 5, flags := 0, originId := 0, result := 0, kind := 13, object := 1,
        inst := 0xFF, old := s.log.lastOverwritten, new := n, chain := [] }

/-- Enter an entry; a checkpoint follows SEQ mod 4,096 = 4,095 (R439). -/
def logCommit (s : Dev) (e : LogEntry) : Dev :=
  let s := logPut s e
  if s.log.next % 4096 = 0 then noteOverwritten (beginCheckpoint s 0) else s

/-- Form an entry (R436): before the START entry of a start it is held without SEQ (R439), and in RECOVERY the boot ROM records it in flash (R431). -/
def logAdd (s : Dev) (origin originId result kind object inst old new : Nat) : Dev :=
  let e : LogEntry :=
    { seq := 0, stamp := regRead s Reg.LOG_EPOCH, tick := s.time.hw, origin := origin, flags := 0, originId := originId,
      result := result, kind := kind, object := object, inst := inst, old := old, new := new, chain := [] }
  if fget s RF.BRG_START_STATUS_RECOVERY = 1 then { s with flash := { s.flash with romLog := s.flash.romLog ++ [e] } }
  else if s.log.started then logCommit s e
  else { s with log := { s.log with early := s.log.early ++ [e] } }

/-- An entry of firmware (origin 5) for the device as a whole. -/
def logFw (s : Dev) (kind object old new : Nat) : Dev := logAdd s 5 0 0 kind object 0xFF old new

/-- Count an event and enter it as an EVENT entry (R436 kind 15), with an address where the rule names one. -/
def logEvent (s : Dev) (off addr : Nat) : Dev :=
  let old := regRead s off
  let s := bump s off
  logFw s 15 off old (regRead s off + addr * 2 ^ 64)

/-- Count of bits of OLD and NEW packing 8 B values, first lowest. -/
def pack8 : List Nat → Nat
  | [] => 0
  | a :: t => a % 2 ^ 64 + 2 ^ 64 * pack8 t

/-- A throttle entry (R436 kind 8): entries of one reason and unit within a millisecond are merged with MERGED set. OLD
carries the cumulative duration in ticks and NEW the events merged (DEDUCED, notes/assumptions/11.md). DEDUCED: log entries 11, 78. -/
def logThrottle (s : Dev) (reason unit : Nat) : Dev :=
  let dur := regRead s (Reg.PWR_THR_DUR reason)
  match s.log.throttles.find? (fun m => m.reason == reason && m.unit == unit && s.time.hw < m.tick + 50000) with
  | some m =>
    let upd := fun (e : LogEntry) => { e with flags := e.flags ||| 4, new := e.new + 1 }
    (match tget s.log.entries m.seq with
     | some e =>
       -- a merged entry is rewritten only while it is the newest: its chain is formed again
       if m.seq + 1 = s.log.next then
         let e := upd e
         let prev := match tget s.log.entries (m.seq - 1) with
           | some p => if m.seq = 0 then List.replicate 64 0 else p.chain
           | none => List.replicate 64 0
         let ch := chainStep prev e
         showChain { s with log := { s.log with entries := tset s.log.entries m.seq { e with chain := ch }, chain := ch } } ch
       else logFw s 8 (reason + unit * 2 ^ 8) dur 1
     | none => logFw s 8 (reason + unit * 2 ^ 8) dur 1)
  | none =>
    let seq := s.log.next
    let s := logFw s 8 (reason + unit * 2 ^ 8) dur 1
    { s with log := { s.log with throttles :=
        ⟨reason, unit, s.time.hw, seq⟩ :: s.log.throttles.filter (fun m => !(m.reason == reason && m.unit == unit)) } }

end Sys2Proof.Machine
end

