-- ==== Sys2Proof/Machine/Throttle.lean ====
section
/-!
DEFINITION. MSI-X messages (R377) and throttle reasons (R464, R465).
-/
namespace Sys2Proof.Machine

/-- A function has a host that its messages reach: a binding, or for the physical function a link that is up without CXL (R371, R381). -/
def hasHost (s : Dev) (fn : Nat) : Bool :=
  fget s (RF.HST_BIND_STATUS_BOUND fn) == 1 || (fn == 0 && fget s RF.HST_STATUS_LINK == 2)

/-- Send a function's MSI-X message, or set its pending bit where the vector is masked (R377). One for a host that has gone is dropped and
counted (R381). DESIGN CHOICE: log entry 90. -/
def sendMsix (s : Dev) (fn vec : Nat) : Dev :=
  let v := tgetD s.host.msix (64 * fn + vec) ⟨true, false⟩
  if !hasHost s fn then bump s Reg.HST_CNT_DROPPED_CPL
  else if v.masked then { s with host := { s.host with msix := tset s.host.msix (64 * fn + vec) { v with pending := true } } }
  else { s with out := s.out ++ [.msix fn vec] }

/-- A reason applies to some unit. -/
def reasonOn (s : Dev) (r : Nat) : Bool := s.power.applies.any (fun p => p.1 == r)

/-- RATE of the progress word (R465): the lowest rate of an island in Run, in sixteenths of 2,400 MHz; 16 where none runs. DEDUCED: log entry 112. -/
def progressRate (s : Dev) : Nat :=
  let l := (List.range (fget s RF.BRG_PKG_LEVEL_ENABLED_COUNT)).filter (fun i => fget s (RF.PWR_ISLAND_STATE i) == 0)
  l.foldl (fun n i => min n (max 1 (fget s (RF.PWR_ISLAND_L i) * fget s (RF.PWR_ISLAND_F_MHZ i) / 2400))) 16

/-- The progress word is updated (R364). -/
def updateProgress (s : Dev) : Dev :=
  let reasons := (List.range 8).foldl (fun n i => if reasonOn s (i + 1) then n + 2 ^ i else n) 0
  regWrite s Reg.FAB_PROGRESS (reasons + 2 ^ 8 * progressRate s + 2 ^ 16 * (s.time.hw % 2 ^ 32))

/-- Reasons that apply to an island or to the whole module. -/
def islandReasons (s : Dev) (i : Nat) : Nat :=
  (List.range 8).foldl (fun n r =>
    if s.power.applies.contains (r + 1, 0xFF) || (r + 1 != 4 && s.power.applies.contains (r + 1, i)) then n + 2 ^ r else n) 0

/-- Show the reasons in PWR_STATUS, in the islands' registers and in the progress word (R364, R465, R473). -/
def showReasons (s : Dev) : Dev :=
  let s := fset s RF.PWR_STATUS_REASONS ((List.range 8).foldl (fun n i => if reasonOn s (i + 1) then n + 2 ^ i else n) 0)
  updateProgress ((List.range 44).foldl (fun s i => fset s (RF.PWR_ISLAND_REASONS i) (islandReasons s i)) s)

/-- A reason begins to apply to a unit: counted where it applied to none, entered in the log, and told on POWER_VECTOR at most
once per millisecond (R465). DEDUCED: log entry 112. -/
def beginReason (s : Dev) (r unit : Nat) : Dev :=
  if s.power.applies.contains (r, unit) then s
  else
    let first := !reasonOn s r
    let s := { s with power := { s.power with applies := s.power.applies ++ [(r, unit)] } }
    let s := showReasons s
    let s := logThrottle (if first then bump s (Reg.PWR_THR_CNT r) else s) r unit
    let last := tget s.power.told r
    if first && (match last with
        | some t => decide (t + 50000 ≤ s.time.hw)
        | none => true) then
      sendMsix { s with power := { s.power with told := tset s.power.told r s.time.hw } } 0 (fget s RF.PWR_LIMITS_POWER_VECTOR % 64)
    else s

/-- A reason no longer applies to a unit. -/
def endReason (s : Dev) (r unit : Nat) : Dev :=
  showReasons { s with power := { s.power with applies := s.power.applies.filter (· != (r, unit)) } }

/-- A reason applies to a unit or not. DEDUCED: log entry 112. -/
def setReason (s : Dev) (r unit : Nat) (on : Bool) : Dev := if on then beginReason s r unit else endReason s r unit

/-- An island is asked to return to Run (R452); a slice in bypass leaves it then (R454). -/
def requestRun (s : Dev) (i : Nat) : Dev :=
  if fget s (RF.PWR_ISLAND_STATE i) = 1 ∨ fget s (RF.PWR_ISLAND_STATE i) = 2 then
    { s with power := { s.power with wake := insertNat i s.power.wake } }
  else s

end Sys2Proof.Machine
end

