-- ==== Sys2Proof/Machine/Links.lean ====
section
/-!
DEFINITION. Sending on the fabric (R334 to R342): ports, flits, and messages by destination.
-/
namespace Sys2Proof.Machine

/-- A port. -/
def portAt (s : Dev) (p : Nat) : Port := tgetD s.fab.ports p Port.reset

/-- Change a port. -/
def modPort (s : Dev) (p : Nat) (f : Port → Port) : Dev :=
  { s with fab := { s.fab with ports := tset s.fab.ports p (f (portAt s p)) } }

/-- Place a message in a flit of its own on a port: it is held for replay until it is acknowledged (R337). DESIGN CHOICE: log entry 62. -/
def placeFlit (s : Dev) (p : Nat) (m : FabMsg) : Dev :=
  let q := portAt s p
  let up := fget s (RF.FAB_PORT_STATUS_SECURE p) == 1
  let f : FabFlit :=
    { seq := q.tx, ackSeq := (q.rx + 2 ^ 32 - 1) % 2 ^ 32, ackV := true, nak := false, secure := up,
      keyPhase := fget s (RF.FAB_PORT_STATUS_KEY_PHASE p), fecOk := true, fixed := 0, crcOk := true, resvOk := true, tagOk := true, slots := [m] }
  let s := bump (modPort s p (fun q => { q with tx := (q.tx + 1) % 2 ^ 32, replay := q.replay ++ [f], keyUse := q.keyUse + 1 }))
    (Reg.FAB_PORT_CNT_TX p)
  { s with out := s.out ++ [.flit p f] }

/-- Ports that a device's route names and that are in service (R342). DESIGN CHOICE: log entry 62. -/
def routePorts (s : Dev) (d : Nat) : List Nat := setBitsOf 16 (tgetD s.fab.routes d 0 &&& fget s RF.FAB_STATUS_PORTS_UP)

/-- Send a message by its destination: the ports of its route in turn, of those whose replay buffer has room (R337, R342); where none has,
it waits. DESIGN CHOICE: log entry 62. -/
def routeMsg (s : Dev) (m : FabMsg) : Dev :=
  let l := (routePorts s m.dst).filter (fun p => decide ((portAt s p).replay.length < 128))
  let pick := match l.find? (fun p => decide (p > s.fab.lastPort)) with
    | some p => some p
    | none => l.head?
  match pick with
  | some p => placeFlit { s with fab := { s.fab with lastPort := p } } p m
  | none => { s with fab := { s.fab with waiting := s.fab.waiting ++ [m] } }

/-- Messages that waited go on where a port has room again. DESIGN CHOICE: log entry 113. -/
def drainWaiting (s : Dev) : Dev :=
  let l := s.fab.waiting
  l.foldl routeMsg { s with fab := { s.fab with waiting := [] } }

/-- EPOCH of messages to a device (R335): that agreed with an admitted member, else 0. -/
def epochFor (s : Dev) (d : Nat) : Nat :=
  match lowest 64 (fun m => fget s (RF.SHC_EPOCH_VALID m) == 1 && fget s (RF.SHC_EPOCH_DEVICE m) == d) with
  | some m => fget s (RF.SHC_EPOCH_EPOCH m)
  | none => 0

/-- A message of this device. -/
def mkMsg (s : Dev) (d tag offset : Nat) (poison : Bool) (body : FabBody) : FabMsg :=
  { dst := d, src := fget s RF.FAB_STATUS_DEVICE, hops := 0, poison := poison, epoch := epochFor s d, tag := tag, offset := offset,
    reserved := false, body := body }

/-- Send a message to a device. DESIGN CHOICE: log entries 62, 113. -/
def sendFab (s : Dev) (d tag offset : Nat) (poison : Bool) (body : FabBody) : Dev := routeMsg s (mkMsg s d tag offset poison body)

/-- Send a coherence message to a member about a line, numbered at its home. -/
def sendCoh (s : Dev) (m line : Nat) (op : CohOp) (third tag : Nat) (data : Option LineData) : Dev :=
  sendFab s (fget s (RF.SHC_EPOCH_DEVICE m)) tag (64 * line) (match data with
    | some d => d.poison != 0
    | none => false) (.coh op third data)

/-- Runs of bytes of a mask: offset and length. DESIGN CHOICE: log entry 66. -/
def maskRuns (m : Nat) : Nat → Nat → List (Nat × Nat)
  | 0, _ => []
  | n + 1, i =>
    let rest := maskRuns m n (i + 1)
    if bitOf m i then
      match rest with
      | (o, l) :: t => if o = i + 1 then (i, l + 1) :: t else (i, 1) :: rest
      | [] => [(i, 1)]
    else rest

/-- Write masked bytes of a sector at a device: one message for each run of bytes. DESIGN CHOICE: log entry 66. -/
def sendWrites (s : Dev) (d tag offset : Nat) (mask : BitVec 32) (data : BitVec 256) (poison : Bool) : Dev :=
  (maskRuns mask.toNat 32 0).foldl (fun s r =>
    sendFab s d tag (offset + r.1) poison (.write (leBytes r.2 (data.toNat / 2 ^ (8 * r.1))))) s

end Sys2Proof.Machine
end

