-- ==== Sys2Proof/Machine/Operands.lean ====
section
/-!
DEFINITION. Instruction words and operand forms of Agith (R86 to R91): fields, the checks of steps 1 and 2 of R121 that
every class shares, and reading and writing of registers, pairs and quads.
-/
namespace Sys2Proof.Machine

/-! ### Error codes (R475) -/
/-- E_ARG. -/
abbrev eArg : Nat := 0x0101
/-- E_ALIGN. -/
abbrev eAlign : Nat := 0x0102
/-- E_RESERVED. -/
abbrev eReserved : Nat := 0x0103
/-- E_STATE. -/
abbrev eState : Nat := 0x0201
/-- E_BUSY. -/
abbrev eBusy : Nat := 0x0202
/-- E_QUOTA. -/
abbrev eQuota : Nat := 0x0301
/-- E_NOSPACE. -/
abbrev eNoSpace : Nat := 0x0302
/-- E_AUTH. -/
abbrev eAuth : Nat := 0x0401
/-- E_ORIGIN. -/
abbrev eOrigin : Nat := 0x0402
/-- E_POISON. -/
abbrev ePoison : Nat := 0x0501
/-- E_UNCORR. -/
abbrev eUncorr : Nat := 0x0502
/-- E_ISLAND_LOST. -/
abbrev eIslandLost : Nat := 0x0503
/-- E_PEER_GONE. -/
abbrev ePeerGone : Nat := 0x0601
/-- E_MCAST_PARTIAL. -/
abbrev eMcastPartial : Nat := 0x0602
/-- E_XLATE_FAULT. -/
abbrev eXlateFault : Nat := 0x0701
/-- E_RIGHTS. -/
abbrev eRights : Nat := 0x0702
/-- E_DIVERGENT_MX. -/
abbrev eDivergentMx : Nat := 0x0801

/-! ### Fields of the base word (R86) -/

/-- OP. DEDUCED: log entry 118. -/
def wOp (w : Word64) : Nat := bitsOf w.toNat 57 7
/-- DST. -/
def wDst (w : Word64) : Nat := bitsOf w.toNat 49 8
/-- SRCA. -/
def wSrcA (w : Word64) : Nat := bitsOf w.toNat 41 8
/-- SRCB. -/
def wSrcB (w : Word64) : Nat := bitsOf w.toNat 33 8
/-- GNEG. -/
def wGneg (w : Word64) : Bool := bitOf w.toNat 32
/-- GPRED. -/
def wGpred (w : Word64) : Nat := bitsOf w.toNat 29 3
/-- LONG, MOD[28] (R88). -/
def wLong (w : Word64) : Bool := bitOf w.toNat 28
/-- BSEL, MOD[27:26] (R88). -/
def wBsel (w : Word64) : Nat := bitsOf w.toNat 26 2
/-- ASEL, MOD[25] (R88). -/
def wAsel (w : Word64) : Bool := bitOf w.toNat 25
/-- A field of MOD[24:0]. -/
def wMod (w : Word64) (lo n : Nat) : Nat := bitsOf w.toNat lo n
/-- MOD[13:0] as a signed byte offset (R104). -/
def wOffset (w : Word64) : Int := signedOf (wMod w 0 14) 14
/-- MOD[23:0] as a signed word offset (R112). -/
def wBranch (w : Word64) : Int := signedOf (wMod w 0 24) 24
/-- Length of the instruction in bytes (R87). -/
def wLen (w : Word64) : Nat := if wLong w then 16 else 8

/-- The always guard of R91. DEDUCED: log entry 18. -/
def alwaysGuard (w : Word64) : Bool := wGpred w == 7 && !wGneg w

/-- True for an assigned major opcode (R93). -/
def opAssigned (op : Nat) : Bool :=
  op ≤ 0x13 || (0x18 ≤ op && op ≤ 0x25) || op == 0x28 || (0x30 ≤ op && op ≤ 0x33) || (0x38 ≤ op && op ≤ 0x39)
  || (0x3C ≤ op && op ≤ 0x41) || (0x48 ≤ op && op ≤ 0x50) || (0x58 ≤ op && op ≤ 0x5C) || (0x60 ≤ op && op ≤ 0x62)
  || (0x68 ≤ op && op ≤ 0x6C)

/-! ### Checks of steps 1 and 2 (R121) -/

/-- Outcome of checks made together: a step 1 failure (E_RESERVED) comes before a step 2 failure (E_ARG). -/
structure Ck where
  rsv : Bool
  arg : Bool
deriving DecidableEq, Repr

/-- No failure. -/
def ckOk : Ck := ⟨false, false⟩
/-- E_RESERVED where a condition holds. DEDUCED: log entry 16. -/
def rsvIf (b : Bool) : Ck := ⟨b, false⟩
/-- E_ARG where a condition holds. DEDUCED: log entry 16. -/
def argIf (b : Bool) : Ck := ⟨false, b⟩
/-- All of several checks. -/
def ckAll (l : List Ck) : Ck := ⟨l.any (·.rsv), l.any (·.arg)⟩
/-- The code of the first failing step, 0 when none fails. -/
def ckCode (c : Ck) : Nat := if c.rsv then eReserved else if c.arg then eArg else 0

/-- A register number that is a legal base of k registers below a limit (R89). DEDUCED: log entry 18. -/
def baseOk (n k limit : Nat) : Bool := n % k == 0 && decide (n + k ≤ limit)

/-- A G register, pair or quad below REGS (R59, R89). -/
def gCk (n k regs : Nat) : Ck := argIf (!baseOk n k regs)
/-- A U register, pair or quad (R89). -/
def uCk (n k : Nat) : Ck := argIf (!baseOk n k 64)

/-- Source A of k registers. -/
def aCk (w : Word64) (k regs : Nat) : Ck := if wAsel w then uCk (wSrcA w) k else gCk (wSrcA w) k regs

/-- Source B of k registers or an immediate. A 16 B operand must be a G quad (R105). A 64-bit immediate of a 32-bit
operation must have bits [63:32] at 0 (R89). -/
def bCk (w second : Word64) (k regs : Nat) : Ck :=
  match wBsel w with
  | 0 => gCk (wSrcB w) k regs
  | 1 => if k = 4 then argIf true else uCk (wSrcB w) k
  | 2 => argIf (k == 4)
  | _ => if k = 4 then argIf true else argIf (k == 1 && second.toNat ≥ 2 ^ 32)

/-- Source A unused (R88). -/
def noA (w : Word64) : Ck := rsvIf (wSrcA w != 0 || wAsel w)
/-- Source B unused (R88). -/
def noB (w : Word64) : Ck := rsvIf (wSrcB w != 0 || wBsel w != 0)
/-- DST unused (R88). -/
def noD (w : Word64) : Ck := rsvIf (wDst w != 0)
/-- A G or, with DSEL, U destination of k registers (R90). -/
def dCk (w : Word64) (k regs : Nat) (dsel : Bool) : Ck := if dsel then uCk (wDst w) k else gCk (wDst w) k regs
/-- A predicate destination (R90). -/
def pCk (w : Word64) : Ck := argIf (wDst w ≥ 8)
/-- Select combinations for instructions that take no descriptor (R88). -/
def selCk (w : Word64) : Ck := rsvIf ((wBsel w == 3) != wLong w)
/-- Reserved bits of MOD[24:0] (R94): a mask of the bits the class layout uses. -/
def modCk (w : Word64) (used : Nat) : Ck := rsvIf (w.toNat % 2 ^ 25 &&& (2 ^ 25 - 1 - used) != 0)

/-! ### Registers of a group -/

/-- One G register of one lane. -/
def gReg (g : Group) (lane n : Nat) : Nat := (tgetD g.gr (lane * 256 + n) 0).toNat

/-- k G registers of one lane from register n, lowest first (R89). -/
def readG (g : Group) (lane n : Nat) : Nat → Nat
  | 0 => 0
  | k + 1 => gReg g lane n + 2 ^ 32 * readG g lane (n + 1) k

/-- k U registers from register n. -/
def readU (g : Group) (n : Nat) : Nat → Nat
  | 0 => 0
  | k + 1 => (tgetD g.ur n 0).toNat + 2 ^ 32 * readU g (n + 1) k

/-- Write k G registers of one lane. -/
def writeG (g : Group) (lane n : Nat) : Nat → Nat → Group
  | 0, _ => g
  | k + 1, v => writeG { g with gr := tset g.gr (lane * 256 + n) (BitVec.ofNat 32 v) } lane (n + 1) k (v / 2 ^ 32)

/-- Write k U registers. -/
def writeU (g : Group) (n : Nat) : Nat → Nat → Group
  | 0, _ => g
  | k + 1, v => writeU { g with ur := tset g.ur n (BitVec.ofNat 32 v) } (n + 1) k (v / 2 ^ 32)

/-- A predicate as a lane mask; P7 always reads true (R59). -/
def predMask (g : Group) (p : Nat) : LaneMask := if p = 7 then 0xFFFFFFFF else tgetD g.pr p 0

/-- Write a predicate in the lanes of a mask; a write to P7 is discarded (R90). -/
def writePred (g : Group) (p : Nat) (lanes vals : LaneMask) : Group :=
  if p = 7 then g else { g with pr := tset g.pr p ((predMask g p &&& ~~~lanes) ||| (vals &&& lanes)) }

/-- The lanes of a mask, in increasing order. -/
def lanesOf (m : LaneMask) : List Nat := setBitsOf 32 m.toNat

/-- A lane mask from a list of lanes. -/
def maskOf (l : List Nat) : LaneMask := l.foldl (fun m i => m ||| ((1 : LaneMask) <<< i)) 0

/-- Guard of an instruction as a lane mask (R91). -/
def guardMask (g : Group) (w : Word64) : LaneMask :=
  if wGneg w then ~~~(predMask g (wGpred w)) else predMask g (wGpred w)

/-- Source A of k registers in a lane. -/
def srcA (g : Group) (w : Word64) (lane k : Nat) : Nat :=
  if wAsel w then readU g (wSrcA w) k else readG g lane (wSrcA w) k

/-- Source B of k registers in a lane: register, uniform register, sign-extended 8-bit immediate, 64-bit immediate. -/
def srcB (g : Group) (w second : Word64) (lane k : Nat) : Nat :=
  match wBsel w with
  | 0 => readG g lane (wSrcB w) k
  | 1 => readU g (wSrcB w) k
  | 2 => wrap (signedOf (wSrcB w) 8) (32 * k)
  | _ => second.toNat % 2 ^ (32 * k)

/-- Write per-lane results of k registers to a G destination, in each lane named. -/
def writeLanes (g : Group) (dst k : Nat) (vals : List (Nat × Nat)) : Group :=
  vals.foldl (fun g p => writeG g p.1 dst k p.2) g

/-- Write results to a G destination in every lane, or with DSEL the lowest lane's result to a U register (R90). -/
def writeDst (g : Group) (dsel : Bool) (dst k : Nat) (vals : List (Nat × Nat)) : Group :=
  if dsel then
    (match vals with
     | [] => g
     | (_, v) :: _ => writeU g dst k v)
  else writeLanes g dst k vals

/-- Old value of the destination in a lane. -/
def oldDst (g : Group) (w : Word64) (dsel : Bool) (lane k : Nat) : Nat :=
  if dsel then readU g (wDst w) k else readG g lane (wDst w) k

end Sys2Proof.Machine
end

