-- ==== Sys2Proof/Machine/Memory.lean ====
section
/-!
DEFINITION. The memory tiers (chapter 09): the address map, channels and holes, ownership of frames, the controllers' reads
and writes with their error handling, write combining, replica pairs, sampling and regulation.
-/
namespace Sys2Proof.Machine

/-! ### The address map (R236 to R239) -/

/-- CAP_A in bytes. -/
def capA (s : Dev) : Nat := fget s RF.MEM_TIER_A_CAP_VALUE
/-- CAP_B in bytes. -/
def capB (s : Dev) : Nat := fget s RF.MEM_TIER_B_CAP_VALUE
/-- Base of tier B (R236). -/
def tierB : Nat := 2 ^ 39
/-- A local physical address of tier A. -/
def inA (s : Dev) (pa : Nat) : Bool := decide (pa < capA s)
/-- A local physical address of tier B. -/
def inB (s : Dev) (pa : Nat) : Bool := decide (tierB ≤ pa) && decide (pa < tierB + capB s)

/-- The channel that holds an address (R238); none where it is unmapped (R237). -/
def chanOf (s : Dev) (pa : Nat) : Option Nat :=
  if inA s pa then s.mem.listA[(pa / 256) % s.mem.listA.length]?
  else if inB s pa then s.mem.listB[((pa - tierB) / 256) % s.mem.listB.length]?
  else none

/-- Register of a channel (R261). -/
def chanReg (id : Nat) : Nat :=
  if id < 1024 then Reg.MEM_A_CHAN (id / 128) (id % 128) else Reg.MEM_B_CHAN ((id - 1024) / 4) ((id - 1024) % 4)
/-- STATE of a channel. -/
def chanSTATE (id : Nat) : Fld := ⟨chanReg id, 0, 2⟩
/-- CAUSE of a channel. -/
def chanCAUSE (id : Nat) : Fld := ⟨chanReg id, 2, 2⟩
/-- CORRECTED of a channel. -/
def chanCORRECTED (id : Nat) : Fld := ⟨chanReg id, 32, 16⟩
/-- RETRIES of a channel. -/
def chanRETRIES (id : Nat) : Fld := ⟨chanReg id, 48, 16⟩
/-- A channel that has become a hole. -/
def isHole (s : Dev) (id : Nat) : Bool := fget s (chanSTATE id) == 2

/-- The memory-edge die of a channel: 0 MN, 1 MS. -/
def dieOf (id : Nat) : Nat := if id < 1024 then id / 512 else (id - 1024) / 64
/-- The channel group of a regulator (R249): 8 s + j in tier A, 64 + package in tier B. -/
def groupOf (id : Nat) : Nat := if id < 1024 then id / 16 else 64 + (id - 1024) / 4
/-- The thermal unit of a channel: a stack, or 8 + package. -/
def unitOf (id : Nat) : Nat := if id < 1024 then id / 128 else 8 + (id - 1024) / 4

/-- A frame of a firmware-reserved region (R239). DESIGN CHOICE: log entry 38. -/
def reservedFrame (s : Dev) (fr : Nat) : Bool :=
  let pa := fr * 2 ^ 21
  (decide (fget s RF.MEM_RSVD_A_VALUE ≤ pa) && inA s pa) || (decide (fget s RF.MEM_RSVD_B_VALUE ≤ pa) && inB s pa)

/-- The ownership map (R398). -/
def ownerOf (s : Dev) (fr : Nat) : Nat := if reservedFrame s fr then 0xFE else tgetD s.ins.owner fr 0xFF

/-- A frame of a copy run counts as not owned (R483). -/
def isCopyFrame (s : Dev) (fr : Nat) : Bool := s.ins.pairs.any (fun p => decide (p.2.copy ≤ fr) && decide (fr < p.2.copy + p.2.frames))

/-- An instance owns a frame, in the sense of R267, R350 and R384. -/
def owns (s : Dev) (inst fr : Nat) : Bool := ownerOf s fr == inst && !isCopyFrame s fr

/-- The line of the copy run that pairs with a line of a primary run (R483). -/
def replicaLine (s : Dev) (line : Nat) : Option Nat :=
  let fr := line / 2 ^ 15
  match s.ins.pairs.find? (fun p => decide (p.2.first ≤ fr) && decide (fr < p.2.first + p.2.frames)) with
  | some p => some ((p.2.copy + (fr - p.2.first)) * 2 ^ 15 + line % 2 ^ 15)
  | none => none

/-- The tier A firmware-reserved region keeps the session table twice, an entry taking 64 B (R239, R300, R482): the sectors of both copies of an entry. -/
def entrySectors (s : Dev) (n : Nat) : List Nat :=
  let sec := fget s RF.MEM_RSVD_A_VALUE / 32 + 2 * n
  [sec, sec + 1, sec + 2 ^ 24, sec + 2 ^ 24 + 1]

/-! ### Channels -/

/-- Working bandwidth of a number of channels, truncated to GB/s: 25.6 GB/s each in tier A, 17.066 GB/s in tier B (R261). DEDUCED: log entry 52. -/
def peakGbps (a : Bool) (n : Nat) : Nat := if a then n * 256 / 10 else n * 17066 / 1000

/-- Recompute PEAK_GBPS of a tier (R246, R261). -/
def setPeak (s : Dev) (a : Bool) : Dev :=
  if a then fset s RF.MEM_TIER_A_STATUS_PEAK_GBPS (peakGbps true (s.mem.listA.length - fget s RF.MEM_TIER_A_STATUS_HOLES))
  else fset s RF.MEM_TIER_B_STATUS_PEAK_GBPS (peakGbps false (s.mem.listB.length - fget s RF.MEM_TIER_B_STATUS_HOLES))

/-- An audit entry of a channel change (R436 kind 4): the channel's register and the tier's CAP before and after. DEDUCED: log entry 84. -/
def logChannel (s : Dev) (id old oldCap : Nat) : Dev :=
  let cap := if id < 1024 then capA s else capB s
  logFw s 4 (if id < 1024 then 2 * id else 1 + 2 * (id - 1024)) (pack8 [old, oldCap]) (pack8 [regRead s (chanReg id), cap])

/-- CHANNEL_HOLE (R246): a mapped channel becomes a hole. Its write-combining entries are dropped. -/
def makeHole (s : Dev) (id cause : Nat) : Dev :=
  if fget s (chanSTATE id) ≠ 0 then s
  else
    let old := regRead s (chanReg id)
    let cap := if id < 1024 then capA s else capB s
    let s := fset (fset s (chanSTATE id) 2) (chanCAUSE id) cause
    let s := if id < 1024 then setPeak (fsat s RF.MEM_TIER_A_STATUS_HOLES 1) true
      else setPeak (fsat s RF.MEM_TIER_B_STATUS_HOLES 1) false
    let keep := (tgetD s.mem.wcb (dieOf id) []).filter (fun w => chanOf s (32 * w.sec) != some id)
    logChannel { s with mem := { s.mem with wcb := tset s.mem.wcb (dieOf id) keep } } id old cap

/-- An access to an unmapped address (R237): counted once a request, the first one of a start logged with its address. -/
def countUnmapped (s : Dev) (pa : Nat) : Dev :=
  if regRead s Reg.MEM_CNT_UNMAPPED = 0 then logEvent s Reg.MEM_CNT_UNMAPPED pa else bump s Reg.MEM_CNT_UNMAPPED

/-- Requester of an access for the regulators (R249): the owning instance, or the device class. DESIGN CHOICE: log entry 53. -/
def requesterOf (s : Dev) (pa : Nat) : Nat := if ownerOf s (pa / 2 ^ 21) ≤ 32 then ownerOf s (pa / 2 ^ 21) else 33

/-- WEIGHT 1 and CAP 256 for instances, 16 and 16 for the device class (R250). DESIGN CHOICE: log entry 53. -/
def regulDefault (requester : Nat) : Regulator := if requester = 33 then ⟨16, 16, 0, none⟩ else ⟨1, 256, 0, none⟩

/-- What an access that reaches a channel does beside its data: it is charged to a regulator (R249, R250), one in sixteen
of a die is sampled into its page's counter (R253), and a group in self-refresh leaves it (R457). `device` charges the device class.
DESIGN CHOICE: log entry 53. -/
def touchChannel (s : Dev) (pa id : Nat) (device : Bool) : Dev :=
  let rq := if device then 33 else requesterOf s pa
  let k := 34 * groupOf id + rq
  let r := tgetD s.mem.regul k (regulDefault rq)
  let n := tgetD s.mem.samples (dieOf id) 0 + 1
  let page := pa / 2 ^ 16
  let counters := if n % 16 = 0 then tset s.mem.counters page (min 255 (tgetD s.mem.counters page 0 + 1)) else s.mem.counters
  { s with mem := { s.mem with regul := tset s.mem.regul k { r with used := r.used + 1 },
                               samples := tset s.mem.samples (dieOf id) (n % 16), counters := counters,
                               asleep := s.mem.asleep.filter (· != groupOf id) } }

/-- Count burst retries (R235). -/
def countRetries (s : Dev) (id n : Nat) : Dev := fsat (bumpBy s Reg.MEM_CNT_LINK_RETRIES n) (chanRETRIES id) n

/-! ### Write combining (R242, R243) -/

/-- The write-combining entry of a sector. -/
def wcbFind (s : Dev) (id sec : Nat) : Option WcbEntry := (tgetD s.mem.wcb (dieOf id) []).find? (fun w => w.sec == sec)

/-- Entries of a die. -/
def wcbOf (s : Dev) (id : Nat) : List WcbEntry := tgetD s.mem.wcb (dieOf id) []

/-- Replace the entries of a die. -/
def setWcb (s : Dev) (id : Nat) (l : List WcbEntry) : Dev := { s with mem := { s.mem with wcb := tset s.mem.wcb (dieOf id) l } }

/-- Drop the write-combining entry of a sector. -/
def wcbDrop (s : Dev) (id sec : Nat) : Dev :=
  if (wcbFind s id sec).isSome then setWcb s id ((wcbOf s id).filter (fun w => w.sec != sec)) else s

/-- Retire an entry by read-modify-write: the masked bytes are merged; a poisoned sector stays poisoned. DEDUCED: log entry 55. -/
def wcbRetire (s : Dev) (id : Nat) (w : WcbEntry) : Dev :=
  bump (wcbDrop { s with dram := dramMerge s.dram w.sec w.mask w.data } id w.sec) Reg.MEM_CNT_RMW

/-- A partial write at a controller: merged into its entry, which is written without a read once it is full; a new entry takes
the oldest entry's slot where all 256 are in use. -/
def wcbWrite (s : Dev) (id sec : Nat) (mask : BitVec 32) (data : BitVec 256) : Dev :=
  match wcbFind s id sec with
  | some w =>
    let w' := { w with mask := w.mask ||| mask, data := merge256 w.data data mask }
    let s := bump s Reg.MEM_CNT_WCB_MERGES
    if w'.mask = 0xFFFFFFFF then
      let s := wcbDrop s id sec
      { s with dram := dramSetPoison (dramMerge s.dram sec w'.mask w'.data) sec false }
    else setWcb s id ((wcbOf s id).map (fun x => if x.sec = sec then w' else x))
  | none =>
    let s := match wcbOf s id with
      | [] => s
      | oldest :: _ => if (wcbOf s id).length ≥ 256 then wcbRetire s id oldest else s
    setWcb s id (wcbOf s id ++ [⟨sec, mask, data, s.time.hw⟩])

/-! ### Controller reads and writes -/

/-- The always-on ticks of one second (R449: 50 MHz). -/
def ticksPerSecond : Nat := 50000000

/-- The bits that a read finds in an uncorrectable sector are left open. DESIGN CHOICE: log entry 7. -/
def spoil (s : Dev) (sec : Nat) : Dev :=
  let (v, s) := takeFree s
  { s with dram := dramMerge s.dram sec (BitVec.allOnes 32) (BitVec.ofNat 256 v) }

/-- An uncorrectable sector (R245): POISON is written, the event counted and logged; sixteen within a second make the channel a
hole (R246). -/
def uncorrectable (s : Dev) (id sec : Nat) : Dev :=
  let s := logEvent { s with dram := dramSetPoison s.dram sec true } Reg.MEM_CNT_UNCORRECTED 0
  let recent := (tgetD s.mem.uncorrTicks id []).filter (fun t => s.time.hw < t + ticksPerSecond) ++ [s.time.hw]
  let s := { s with mem := { s.mem with uncorrTicks := tset s.mem.uncorrTicks id recent } }
  if recent.length ≥ 16 then makeHole s id 3 else s

/-- A sector read on its channel alone: the state, the data, and 0, E_POISON or E_UNCORR (R235, R243, R245, R246). The data of
a sector read from a hole is left open, and so is what an uncorrectable one is found to hold. DESIGN CHOICE: log entries 7, 15. DEDUCED: log entry 55. -/
def ctlSector (s : Dev) (id sec : Nat) (outcome : ReadOutcome) (retries : Nat) (device : Bool) : Dev × BitVec 256 × Nat :=
  if isHole s id then
    let (v, s) := takeFree s
    (s, BitVec.ofNat 256 v, ePoison)
  else
    let s := countRetries (touchChannel s (32 * sec) id device) id (min retries 3)
    match outcome with
    | .burstFailed =>
      let (v, s) := takeFree (makeHole s id 2)
      (s, BitVec.ofNat 256 v, ePoison)
    | .uncorrectable =>
      let s := spoil s sec
      let s := match wcbFind s id sec with
        | some w => wcbRetire s id w
        | none => s
      let d := dramSector s.dram sec
      (uncorrectable s id sec, d, eUncorr)
    | _ =>
      let s := if outcome = .corrected then fsat (bump s Reg.MEM_CNT_CORRECTED) (chanCORRECTED id) 1 else s
      let s := match wcbFind s id sec with
        | some w => wcbRetire s id w
        | none => s
      (s, dramSector s.dram sec, if dramPoisoned s.dram sec then ePoison else 0)

/-- A sector read with REPLICA_REFETCH (R485): a primary sector that would be returned poisoned is served from its copy.
DESIGN CHOICE: log entry 7. DEDUCED: log entry 55. -/
def ctlRead (s : Dev) (sec : Nat) (outcome : ReadOutcome) (retries : Nat) (copy : ReadOutcome) : Dev × BitVec 256 × Nat :=
  match chanOf s (32 * sec) with
  | none =>
    let (v, s) := takeFree s
    (s, BitVec.ofNat 256 v, ePoison)
  | some id =>
    let (s, d, c) := ctlSector s id sec outcome retries false
    if c = 0 then (s, d, 0)
    else match replicaLine s (sec / 2) with
      | none => (s, d, c)
      | some cl =>
        (match chanOf s (64 * cl) with
         | none => (bump s Reg.BRG_CNT_REFETCH_FAILS, d, c)
         | some cid =>
           let (s, d2, c2) := ctlSector s cid (2 * cl + sec % 2) copy 0 false
           if c2 = 0 then
             let s := if isHole s id then s
               else { s with dram := dramSetPoison (dramMerge s.dram sec 0xFFFFFFFF d2) sec false }
             (logEvent s Reg.BRG_CNT_REFETCHES 0, d2, 0)
           else (bump s Reg.BRG_CNT_REFETCH_FAILS, d, c))

/-- One sector of a write request on a working channel (R212, R242). -/
def ctlWriteHalf (s : Dev) (id : Nat) (w : MemWr) (h : Nat) : Dev :=
  let sec := 2 * w.line + h
  let m := BitVec.ofNat 32 (w.mask.toNat / 2 ^ (32 * h))
  let d := halfOf w.data h
  let s :=
    if m = 0 then s
    else if m = 0xFFFFFFFF then
      let s := wcbDrop s id sec
      { s with dram := dramSetPoison (dramMerge s.dram sec m d) sec (w.poison.getLsbD h) }
    else wcbWrite s id sec m d
  if w.markPoison.getLsbD h then { s with dram := dramSetPoison s.dram sec true } else s

/-- A write request on one channel: dropped and counted at a hole (R247). -/
def ctlWriteChan (s : Dev) (id : Nat) (w : MemWr) : Dev :=
  if isHole s id then bump s Reg.MEM_CNT_HOLE_WRITES
  else
    let s := ctlWriteHalf (ctlWriteHalf (touchChannel s (64 * w.line) id false) id w 0) id w 1
    match w.held with
    | none => s
    | some b => { s with dram := dramSetHeld s.dram w.line b }

/-- A write request at its controller (R235, R237, R242, R247), and at the copy of a primary line (R483). -/
def ctlWrite (s : Dev) (w : MemWr) (retries : Nat) (failed : Bool) : Dev :=
  match chanOf s (64 * w.line) with
  | none => countUnmapped s (64 * w.line)
  | some id =>
    let s := if isHole s id then s else countRetries s id (min retries 3)
    let s := ctlWriteChan (if failed then makeHole s id 2 else s) id w
    match replicaLine s w.line with
    | none => s
    | some cl => (match chanOf s (64 * cl) with
      | some cid => ctlWriteChan s cid { w with line := cl }
      | none => s)

/-- Perform the queued writes of a line, oldest first (R244). -/
def drainWrites (s : Dev) (line : Nat) : Dev :=
  let mine := s.mem.writes.filter (fun w => w.line == line)
  let s := { s with mem := { s.mem with writes := s.mem.writes.filter (fun w => w.line != line) } }
  mine.foldl (fun s w => ctlWrite s w 0 false) s

/-- Queue a write request for its controller. -/
def queueWrite (s : Dev) (w : MemWr) : Dev := { s with mem := { s.mem with writes := s.mem.writes ++ [w] } }

end Sys2Proof.Machine
end

