-- ==== Sys2Proof/Machine/Slices.lean ====
section
/-!
DEFINITION. The shore cache and the archipelago directory (chapter 08), and the visibility points of lines held elsewhere
(R184 to R186): homing, lines of a slice, transactions on a line, writes and reads at a home slice, and accesses of the
device's own agents to any location.
-/
namespace Sys2Proof.Machine

/-! ### Homing (R214 to R218) -/

/-- Members of a home set, in increasing order. -/
def setMembers (s : Dev) (h : Nat) : List Nat := setBitsOf 44 (fget s (RF.SHC_HOME_SET_ISLANDS h))

/-- A slice is lost with its island (R24, R487). -/
def sliceLost (s : Dev) (i : Nat) : Bool := fget s (RF.SHC_SLICE_STATUS_STATE i) == 3

/-- First member from position i on, going round, that is not lost. -/
def skipLost (s : Dev) (m : List Nat) : Nat → Nat → Nat
  | 0, i => m.getD (i % m.length) 0
  | k + 1, i => if sliceLost s (m.getD (i % m.length) 0) then skipLost s m k (i + 1) else m.getD (i % m.length) 0

/-- The hash of a line number (R214). -/
def homeHash (l : Nat) : Nat := ((bitsOf l 0 16 ^^^ bitsOf l 16 16 ^^^ bitsOf l 32 4) * 40503) % 65536

/-- Home island of a line number under a home set (R214). -/
def homeUnder (s : Dev) (h l : Nat) : Nat :=
  let m := setMembers s h
  let m := if m.all (sliceLost s) then setMembers s 0 else m
  skipLost s m m.length (homeHash l * m.length / 65536)

/-- Home set of a frame (R216). -/
def homeSetOf (s : Dev) (fr : Nat) : Nat := tgetD s.shore.homeMap fr 0

/-- A line of local memory. -/
def isLocal (k : Nat) : Bool := decide (k < 2 ^ 36)

/-- The slice a line is held in (R214, R218): lines of peers and hosts by home set 0 and bits [41:6] of their address. -/
def sliceOf (s : Dev) (k : Nat) : Nat :=
  if isLocal k then homeUnder s (homeSetOf s (k / 2 ^ 15)) k else homeUnder s 0 (k % 2 ^ 36)

/-- A slice in bypass (R219). -/
def inBypass (s : Dev) (k : Nat) : Bool := fget s (RF.SHC_SLICE_STATUS_STATE (sliceOf s k)) == 2

/-- A line whose home, without the fallback of R214, would be a lost island (R230). -/
def homeMoved (s : Dev) (l : Nat) : Bool :=
  let m := setMembers s (homeSetOf s (l / 2 ^ 15))
  sliceLost s (m.getD (homeHash l * m.length / 65536) 0)

/-! ### Where a location lies (R184) -/

/-- The kinds of visibility point. -/
inductive Place where
  | home
  | member (m : Nat)
  | far (device : Nat)
  | host
  | io (binding : Nat)
deriving DecidableEq, Repr

/-- The device's own number (R348). -/
def ownDevice (s : Dev) (d : Nat) : Bool := fget s RF.FAB_STATUS_DEVICE_VALID == 1 && fget s RF.FAB_STATUS_DEVICE == d

/-- The member index of an admitted device of the archipelago. -/
def memberOf (s : Dev) (d : Nat) : Option Nat :=
  lowest 64 (fun m => fget s (RF.SHC_EPOCH_VALID m) == 1 && fget s (RF.SHC_EPOCH_DEVICE m) == d)

/-- A device that the fabric can reach (R342, R343). -/
def fabReach (s : Dev) (d : Nat) : Bool := tgetD s.fab.routes d 0 &&& fget s RF.FAB_STATUS_PORTS_UP != 0

/-- A binding whose host memory goes through CXL.cache (R378, R380). -/
def coherentBinding (s : Dev) (b : Nat) : Bool := fget s (RF.HST_BIND_STATUS_COHERENT b) == 1

/-- Location of a host physical address as an instance reaches it: coherent bindings share the coherent host's lines (R378, R380), others keep
their binding above bit 52. -/
def hostLoc (s : Dev) (b hpa : Nat) : Nat := hostBase + (if coherentBinding s b then 0 else b * 2 ^ 52) + hpa

/-- The place of a line (R184). -/
def placeOf (s : Dev) (k : Nat) : Place :=
  if isLocal k then .home
  else if 64 * k < globalBase then
    (let b := (64 * k - hostBase) / 2 ^ 52
     if coherentBinding s b then .host else .io b)
  else
    let d := (64 * k - globalBase) / 2 ^ 42
    if ownDevice s d then .home
    else match memberOf s d with
      | some m => .member m
      | none => .far d

/-- The address a line has at its own device or host. -/
def addrAt (k : Nat) : Nat := if 64 * k < globalBase then (64 * k - hostBase) % 2 ^ 52 else (64 * k - globalBase) % 2 ^ 42

/-! ### Lines of the slices -/

/-- The line a slice holds. -/
def lineAt (s : Dev) (k : Nat) : Option Line := tget s.shore.lines k

/-- Put a line into its slice. -/
def putLine (s : Dev) (k : Nat) (l : Line) : Dev := { s with shore := { s.shore with lines := tset s.shore.lines k l } }

/-- Remove a line from its slice. -/
def dropLine (s : Dev) (k : Nat) : Dev := { s with shore := { s.shore with lines := tdel s.shore.lines k } }

/-- A clean line held at its home. -/
def Line.fresh (data : BitVec 512) (poison uncorr : BitVec 2) (ext : Bool) : Line :=
  { data := data, dirty := false, poison := poison, uncorr := uncorr, ext := ext, hold := .home, pmask := 0 }

/-- Bytes 0 to 31 or 32 to 63 of a line as part of a mask of 64. -/
def maskAt (h : Nat) (m : BitVec 32) : BitVec 64 := BitVec.ofNat 64 (m.toNat * 2 ^ (32 * h))

/-- Write masked bytes of half h (R212): a whole sector clears its poison, part of one leaves it; marked data poisons it. -/
def lineMerge (l : Line) (h : Nat) (mask : BitVec 32) (data : BitVec 256) (poison : Bool) : Line :=
  let bit := (1 : BitVec 2) <<< h
  { l with data := setHalf l.data h (merge256 (halfOf l.data h) data mask),
           poison := if poison then l.poison ||| bit else if mask = 0xFFFFFFFF then l.poison &&& ~~~bit else l.poison,
           uncorr := if mask = 0xFFFFFFFF then l.uncorr &&& ~~~bit else l.uncorr }

/-- A write to a marked watch line is accepted, or the host invalidates it (R285): a wake goes to the front end. DESIGN CHOICE: log entry 37. -/
def sendWake (s : Dev) (k : Nat) : Dev :=
  match tget s.fe.marks k with
  | some r => { s with fe := { s.fe with wakes := s.fe.wakes ++ [r] } }
  | none => s

/-- First DIRTY of a home line writes its held-dirty mark (R213). -/
def storeHomeLine (s : Dev) (k : Nat) (l : Line) : Dev :=
  let s := if l.dirty then sendWake s k
    else queueWrite (fadj (sendWake s k) (RF.SHC_SLICE_STATUS_DIRTY_LINES (sliceOf s k)) 1) ⟨k, 0, 0, 0, 0, some true⟩
  putLine s k { l with dirty := true }

/-- Write a home line back clean (R212, R213). -/
def cleanHomeLine (s : Dev) (k : Nat) (l : Line) : Dev :=
  if l.dirty then
    let s := bump (fadj s (RF.SHC_SLICE_STATUS_DIRTY_LINES (sliceOf s k)) (-1)) Reg.SHC_CNT_WRITEBACKS
    queueWrite (putLine s k { l with dirty := false }) ⟨k, BitVec.allOnes 64, l.data, l.poison, 0, some false⟩
  else s

/-- Line number at its home of a line of a peer. -/
def peerLine (k : Nat) : Nat := (64 * k - globalBase) % 2 ^ 42 / 64

/-- Messages to an outside agent about a line of the device: 64 is the host, reached by back-invalidate (R385). -/
def tellAgent (s : Dev) (agent : Nat) (op : CohOp) (k third : Nat) : Dev :=
  if agent = 64 then
    let inv := op != .recallLine && op != .forwardRead
    bump { s with out := s.out ++ [.biSnoop k inv] } Reg.HST_CNT_BI_SENT
  else sendCoh s agent k op third (match tget s.shore.dir k with
    | some e => if e.agent = agent then e.tag else 0
    | none => 0) none

/-- Data sent to a host with a poisoned sector is counted once a transfer (R390). -/
def countSent (s : Dev) (d : Option LineData) : Dev :=
  match d with
  | some d => if d.poison = 0 then s else bump s Reg.HST_CNT_POISON_SENT
  | none => s

/-- Evict a line (R211, R213, R222, R382). Home lines with EXT are never evicted here (R210). DESIGN CHOICE: log entry 49. -/
def evictLine (s : Dev) (k : Nat) (l : Line) : Dev :=
  match l.hold with
  | .home => dropLine (cleanHomeLine s k l) k
  | .pending => s
  | h =>
    let op : CohOp := if h = .d then .wb else .drop
    let data := if h = .d then some ⟨l.data, l.poison⟩ else none
    let s := dropLine s k
    (match placeOf s k with
     | .member m => if h = .s then s else sendCoh s m (peerLine k) op 0 0 data
     | .host => if h = .s then s
         else countSent { s with out := s.out ++ [.cxlCache (if h = .d then .dirtyEvict else .cleanEvict) k data] } data
     | _ => s)

/-! ### The directory (R220 to R227) -/

/-- The entry of a line. -/
def dirAt (s : Dev) (k : Nat) : Option DirEntry := tget s.shore.dir k

/-- The agents of an entry's presence vector; the host is 64. -/
def agentsOf (e : DirEntry) : List Nat := setBitsOf 64 e.pres.toNat ++ (if e.presHost then [64] else [])

/-- Holder or forwarder of an entry. -/
def holderOf (e : DirEntry) : Nat := if e.holderHost then 64 else e.agent

/-- Add an agent to an entry's presence vector. -/
def addAgent (e : DirEntry) (a hostId : Nat) : DirEntry :=
  if a = 64 then { e with presHost := true, hostId := hostId } else { e with pres := e.pres ||| ((1 : BitVec 64) <<< a) }

/-- Remove an agent. -/
def removeAgent (e : DirEntry) (a : Nat) : DirEntry :=
  if a = 64 then { e with presHost := false } else { e with pres := e.pres &&& ~~~((1 : BitVec 64) <<< a) }

/-- An entry with one agent that is holder or forwarder. -/
def soleEntry (st : DirState) (a hostId granted : Nat) : DirEntry :=
  addAgent { state := st, agent := if a = 64 then 0x3F else a, holderHost := a == 64, hostId := hostId, presHost := false,
             pres := 0, granted := granted, tag := 0 } a hostId

/-- Name a holder or forwarder. -/
def withHolder (e : DirEntry) (a : Nat) : DirEntry := { e with agent := if a = 64 then 0x3F else a, holderHost := a == 64 }

/-- Code of a directory state (R220). -/
def dirCode : DirState → Nat
  | .shared => 1
  | .forwarder => 2
  | .sole => 3
  | .dirty => 4

/-- A directory entry in the layout of R220; a line without one is Vacant. -/
def dirWord (k : Nat) (busy : Bool) : Option DirEntry → Nat
  | none => k + 2 ^ 39 * b2n busy
  | some e => k + 2 ^ 36 * dirCode e.state + 2 ^ 39 * b2n busy
      + (if e.state = .shared then 0 else 2 ^ 40 * e.agent + 2 ^ 46 * b2n e.holderHost)
      + (if e.presHost then 2 ^ 47 * e.hostId + 2 ^ 53 else 0) + 2 ^ 64 * e.pres.toNat

/-- Record an entry; none frees it and clears EXT (R223). -/
def setEntry (s : Dev) (k : Nat) (e : Option DirEntry) : Dev :=
  let s := traceDir s (ownerOf s (k / 2 ^ 15)) (dirWord k (thas s.shore.txn k) e)
  let s := match lineAt s k with
    | some l => putLine s k { l with ext := e.isSome }
    | none => s
  match e with
  | some e => { s with shore := { s.shore with dir := tset s.shore.dir k { e with granted := s.shore.grants },
                                               grants := s.shore.grants + 1 } }
  | none => { s with shore := { s.shore with dir := tdel s.shore.dir k } }

/-- Start a transaction: BUSY is set and each agent is told what it must do. -/
def startTxn (s : Dev) (k : Nat) (t : Txn) (tell : Nat → CohOp) (third : Nat) : Dev :=
  let s := { s with shore := { s.shore with txn := tset s.shore.txn k t } }
  t.waiting.foldl (fun s a =>
    let s := tellAgent s a (tell a) k third
    if tell a = .forwardRead ∨ tell a = .forwardRx then s else bump s Reg.SHC_CNT_BACK_INVALIDATES) s

/-- Free an entry (R224): clean copies are invalidated, a dirty one is recalled. -/
def startFree (s : Dev) (k : Nat) : Dev :=
  match dirAt s k, tget s.shore.txn k with
  | some e, none =>
    if agentsOf e = [] then setEntry s k none
    else startTxn s k ⟨.free, none, agentsOf e, none, false⟩ (fun _ => if e.state = .dirty then .recallInv else .inval) 0
  | _, _ => s

/-- An access at the home by an agent that keeps no copy (R223): true when it may be performed now. Otherwise what must be
recalled or invalidated has been asked for, or the line is busy. -/
def homeAccess (s : Dev) (k : Nat) (write : Bool) : Dev × Bool :=
  match tget s.shore.txn k, dirAt s k with
  | some _, _ => (s, false)
  | none, none => (s, true)
  | none, some e =>
    if write then
      if agentsOf e = [] then (setEntry s k none, true)
      else (startTxn s k ⟨.homeWrite, none, agentsOf e, none, false⟩
              (fun _ => if e.state = .dirty then .recallInv else .inval) 0, false)
    else if e.state = .dirty then
      (startTxn s k ⟨.homeRead, none, [holderOf e], some { e with state := .shared }, false⟩ (fun _ => .recallLine) 0, false)
    else (s, true)

/-- Queue a request behind a busy line or a fill (R225); a place already taken is kept. -/
def enqueue (s : Dev) (k : Nat) (r : CohReq) : Dev :=
  let q := tgetD s.shore.queue k []
  if q.contains r then s
  else
    let s := if thas s.shore.txn k then bump s Reg.SHC_CNT_RACE_QUEUED else s
    { s with shore := { s.shore with queue := tset s.shore.queue k (q ++ [r]) } }

/-- Begin a fill from memory (R210). -/
def startFill (s : Dev) (k : Nat) : Dev :=
  if thas s.shore.fills k then s
  else bump { s with shore := { s.shore with fills := tset s.shore.fills k ⟨none, none⟩ } } Reg.SHC_CNT_MISSES

/-- Lines that compete for one set of one bank of one slice (R209). -/
def rivals (s : Dev) (k : Nat) : List (Nat × Line) :=
  s.shore.lines.filter (fun p => p.1 % 16 == k % 16 && (p.1 % 2 ^ 36 / 16) % 6144 == (k % 2 ^ 36 / 16) % 6144
    && sliceOf s p.1 == sliceOf s k)

/-- Make room in a line's set (R210, R211): true when there is a free way. A line with EXT, or with writes pending, is no
victim; where every way has EXT, an entry is freed first (R224). Which of the others goes is this model's choice. DESIGN CHOICE: log entry 49. -/
def makeRoom (s : Dev) (k : Nat) : Dev × Bool :=
  let rs := rivals s k
  if rs.length < 16 then (s, true)
  else match rs.find? (fun p => !p.2.ext && p.2.hold != .pending && !thas s.shore.txn p.1) with
    | some p => (evictLine s p.1 p.2, true)
    | none => (match rs.find? (fun p => p.2.ext && !thas s.shore.txn p.1) with
      | some p => (startFree s p.1, false)
      | none => (s, false))

/-- Install a line whose two sectors have been read (R210, R213, R230). False where its set has no room yet. -/
def finishFill (s : Dev) (k : Nat) (lo hi : FillHalf) : Dev × Bool :=
  let (s, room) := makeRoom s k
  if !room then (s, false)
  else
    let s := { s with shore := { s.shore with fills := tdel s.shore.fills k } }
    let lost := s.dram.held.contains k
    let pz := fun (c : FillHalf) (b : BitVec 2) => if c.code ≠ 0 then b else (0 : BitVec 2)
    let un := fun (c : FillHalf) (b : BitVec 2) => if c.code = eUncorr then b else (0 : BitVec 2)
    let data := setHalf (setHalf 0 0 lo.data) 1 hi.data
    let s := if lost then
        queueWrite (bump s Reg.SHC_CNT_LOST_DIRTY) ⟨k, 0, 0, 0, 3, some false⟩ else s
    let l := Line.fresh data (if lost then 3 else pz lo 1 ||| pz hi 2) (if lost then 0 else un lo 1 ||| un hi 2)
      (homeMoved s k && thas s.shore.dir k)
    (putLine s k l, true)

/-- A sector for a fill made at once, for an access that does not go through MEM_READ: no new error is found. -/
def readHalf (s : Dev) (sec : Nat) : Dev × FillHalf :=
  let (s, d, c) := ctlRead s sec .clean 0 .clean
  (s, ⟨d, c⟩)

/-- The line at its home, filled at once where it is absent. None where the line is unmapped or its set has no room. -/
def lineNow (s : Dev) (k : Nat) : Dev × Option Line :=
  match lineAt s k with
  | some l => (s, some l)
  | none =>
    if (chanOf s (64 * k)).isNone then (countUnmapped s (64 * k), none)
    else
      let (s, lo) := readHalf (drainWrites s k) (2 * k)
      let (s, hi) := readHalf s (2 * k + 1)
      let (s, ok) := finishFill s k lo hi
      if ok then (s, lineAt s k) else ({ s with blocked := s.blocked ++ [(k, 3)] }, none)

/-- The code that a read of half h of a line carries (R477): E_UNCORR for the first consumer, then E_POISON. -/
def halfCode (l : Line) (h : Nat) : Nat :=
  if l.poison.getLsbD h then (if l.uncorr.getLsbD h then eUncorr else ePoison) else 0

/-- Read half h of a held line: its data and code; a poisoned one is counted, and its error is no longer new. -/
def takeHalf (s : Dev) (k : Nat) (l : Line) (h : Nat) : Dev × BitVec 256 × Nat :=
  let c := halfCode l h
  if c = 0 then (s, halfOf l.data h, 0)
  else (bump (putLine s k { l with uncorr := l.uncorr &&& ~~~((1 : BitVec 2) <<< h) }) Reg.SHC_CNT_POISON_READS,
        halfOf l.data h, c)

/-- A slice in bypass keeps no line (R219). -/
def settleBypass (s : Dev) (k : Nat) : Dev :=
  if isLocal k && inBypass s k then
    (match lineAt s k with
     | some l => if l.ext then s else evictLine s k l
     | none => s)
  else s

/-! ### Writes at a visibility point -/

/-- What becomes of a write that reaches its visibility point; one sent to another device waits for acknowledgements under a tag. -/
inductive WrRes where
  | done | wait | gone
  | sent (tag acks : Nat)
deriving DecidableEq, Repr

/-- A pending-ownership line of a peer or the host (R185). -/
def pendingWrite (s : Dev) (k h : Nat) (mask : BitVec 32) (data : BitVec 256) (poison : Bool) (ask : Dev → Bool → Dev) : Dev :=
  let s := sendWake s k
  match lineAt s k with
  | some l =>
    let l' := lineMerge l h mask data poison
    (match l.hold with
     | .d => putLine s k l'
     | .pending => putLine s k { l' with pmask := l.pmask ||| maskAt h mask }
     | _ => ask (putLine s k { l' with hold := .pending, pmask := maskAt h mask }) true)
  | none =>
    let l := { Line.fresh 0 0 0 false with hold := .pending, pmask := maskAt h mask }
    ask (putLine s k (lineMerge l h mask data poison)) false

/-- Ask the home of a peer line for ownership (R222): OWN where a copy is held, RX otherwise. -/
def askOwn (m k : Nat) (s : Dev) (held : Bool) : Dev :=
  if thas s.shore.wants k then s
  else
    let n := 4 * s.nextReq + 3
    let s := sendCoh { s with nextReq := s.nextReq + 1 } m (peerLine k) (if held then .own else .rx) 0 n none
    { s with shore := { s.shore with wants := tset s.shore.wants k ((if held then 2 else 1) + 4 * n) } }

/-- Ask the host for ownership (R382). -/
def askHostOwn (k : Nat) (s : Dev) (_held : Bool) : Dev :=
  if thas s.shore.wants k then s
  else { s with out := s.out ++ [.cxlCache .rdOwn k none], shore := { s.shore with wants := tset s.shore.wants k 1 } }

/-- A write of masked bytes of a sector at the visibility point of its line (R184, R185, R195). `direct` writes that find no
line held at home go to the controller (R242); the others have the line filled first. `now` fills at once. -/
def acceptWrite (s : Dev) (sec : Nat) (mask : BitVec 32) (data : BitVec 256) (poison direct now : Bool) : Dev × WrRes :=
  let k := sec / 2
  let h := sec % 2
  match placeOf s k with
  | .home =>
    let k := if isLocal k then k else addrAt k / 64
    let (s, ok) := homeAccess s k true
    if !ok then (if now then { s with blocked := s.blocked ++ [(k, 1)] } else s, .wait)
    else
      (match lineAt s k with
       | some l =>
         let l' := lineMerge l h mask data poison
         (settleBypass (storeHomeLine (bump s Reg.SHC_CNT_HITS) k { l' with dirty := l.dirty }) k, .done)
       | none =>
         if (chanOf s (64 * k)).isNone then (countUnmapped s (64 * k), .done)
         else if direct || inBypass s k then
           let pz : BitVec 2 := if poison then (1 : BitVec 2) <<< h else 0
           (queueWrite (sendWake s k) ⟨k, maskAt h mask, setHalf 0 h data, pz, if mask = 0xFFFFFFFF then 0 else pz, none⟩, .done)
         else if now then
           (match lineNow s k with
            | (s, some l) =>
              let l' := lineMerge l h mask data poison
              (storeHomeLine s k { l' with dirty := l.dirty }, .done)
            | (s, none) => (s, .wait))
         else (startFill s k, .wait))
  | .member m =>
    if fabReach s ((64 * k - globalBase) / 2 ^ 42) then (pendingWrite s k h mask data poison (askOwn m k), .done)
    else (s, .gone)
  | .host =>
    if fget s RF.HST_STATUS_HOST_VALID = 1 then
      (match lineAt s k with
       | some l => if l.hold = .x then
             let l' := lineMerge l h mask data poison
             (putLine (sendWake s k) k { l' with hold := .d }, .done)
           else (pendingWrite s k h mask data poison (askHostOwn k), .done)
       | none => (pendingWrite s k h mask data poison (askHostOwn k), .done))
    else (s, .gone)
  | .far d =>
    if fabReach s d then
      (let n := 4 * s.nextReq + 1
       (sendWrites { s with nextReq := s.nextReq + 1 } d n (addrAt k + 32 * h) mask data poison, .sent n (maskRuns mask.toNat 32 0).length))
    else (s, .gone)
  | .io b =>
    if fget s (RF.HST_BIND_STATUS_BOUND b) = 1 then
      let s := { s with out := s.out ++ [.ioWrite b (addrAt k + 32 * h) mask data poison] }
      (if poison then bump s Reg.HST_CNT_POISON_SENT else s, .done)
    else (s, .gone)

/-! ### Accesses of firmware, the walker and the front end, performed in one step (R182, R266) -/

/-- Read a sector at device scope: data and code (E_PEER_GONE where it cannot be reached). A line that must be recalled
first is marked as blocked. What the host or a device beyond the archipelago answers is left open. DESIGN CHOICE: log entry 7. -/
def devReadSec (s : Dev) (sec : Nat) : Dev × BitVec 256 × Nat :=
  let k := sec / 2
  let h := sec % 2
  match placeOf s k with
  | .home =>
    let k := if isLocal k then k else addrAt k / 64
    let (s, ok) := homeAccess s k false
    if !ok then ({ s with blocked := s.blocked ++ [(k, 0)] }, 0, 0)
    else (match lineNow s k with
      | (s, some l) => takeHalf s k l h
      | (s, none) => (s, 0, ePoison))
  | .far d => if fabReach s d then openRead s else (s, 0, ePeerGone)
  | .io b => if fget s (RF.HST_BIND_STATUS_BOUND b) = 1 then
        openRead { s with out := s.out ++ [.ioRead b (addrAt k + 32 * h)] } else (s, 0, ePeerGone)
  | .member _ => (match lineAt s k with
      | some l => if l.hold = .pending then openRead s else takeHalf s k l h
      | none => if fabReach s ((64 * k - globalBase) / 2 ^ 42) then openRead s else (s, 0, ePeerGone))
  | .host => (match lineAt s k with
      | some l => if l.hold = .pending then openRead s else takeHalf s k l h
      | none => if fget s RF.HST_STATUS_HOST_VALID = 1 then openRead s else (s, 0, ePeerGone))
where
  /-- Data that comes from beyond the device. -/
  openRead (s : Dev) : Dev × BitVec 256 × Nat :=
    let (v, s) := takeFree s
    (s, BitVec.ofNat 256 v, 0)

/-- Read n bytes from a location: the first code met, and the bytes. -/
def devRead (s : Dev) (loc : Nat) : Nat → Dev × List Byte × Nat
  | 0 => (s, [], 0)
  | n + 1 => go s loc (n + 1) ((loc + n) / 32 - loc / 32 + 1)
where
  /-- Sector by sector. -/
  go (s : Dev) (loc n : Nat) : Nat → Dev × List Byte × Nat
    | 0 => (s, [], 0)
    | f + 1 =>
      if n = 0 then (s, [], 0)
      else
        let off := loc % 32
        let m := min n (32 - off)
        let (s, d, c) := devReadSec s (loc / 32)
        let (s, rest, c') := go s (loc + m) (n - m) f
        (s, leBytes m (d.toNat / 2 ^ (8 * off)) ++ rest, if c ≠ 0 then c else c')

/-- Write bytes at a location at device scope: E_PEER_GONE where it cannot be reached. -/
def devWriteGo (s : Dev) (loc : Nat) (bytes : List Byte) : Nat → Dev × Nat
  | 0 => (s, 0)
  | f + 1 =>
    if bytes.isEmpty then (s, 0)
    else
      let off := loc % 32
      let m := min bytes.length (32 - off)
      let mask := BitVec.ofNat 32 ((2 ^ m - 1) * 2 ^ off)
      let data := BitVec.ofNat 256 (ofLe (bytes.take m) * 2 ^ (8 * off))
      let (s, r) := acceptWrite s (loc / 32) mask data false false true
      let (s, c) := devWriteGo s (loc + m) (bytes.drop m) f
      (s, if r = .gone then ePeerGone else c)

/-- Write bytes at a location. -/
def devWrite (s : Dev) (loc : Nat) (bytes : List Byte) : Dev × Nat := devWriteGo s loc bytes (bytes.length / 32 + 2)

/-- Run a command of firmware or the front end whole: where it needs lines that are held outside the device, those are
recalled, invalidated or freed, and the command waits to be sent again (4: it waits for a page that is moving). DESIGN CHOICE: log entry 5. -/
def whole (s : Dev) (f : Dev → Dev) : Dev :=
  let s' := f s
  if s'.blocked.isEmpty then s'
  else s'.blocked.foldl (fun s p =>
    if p.2 = 2 then startFree s p.1
    else if p.2 = 3 then (makeRoom s p.1).1
    else if p.2 = 4 then s
    else (homeAccess s p.1 (p.2 == 1)).1) s

end Sys2Proof.Machine
end

