-- ==== Sys2Proof/Machine/L1.lean ====
section
/-!
DEFINITION. The L1 of a core (R61, R62, R187 to R189), the local store, and the atomic operations (R106, R107).
-/
namespace Sys2Proof.Machine

/-- The group field of a write-back that no single group owns. -/
def noGroup : Nat := 2 ^ 40

/-! ### L1 sectors (R187) -/

/-- Bytes [off, off + n) of a sector as a mask. -/
def byteSpan (off n : Nat) : BitVec 32 := BitVec.ofNat 32 ((2 ^ n - 1) * 2 ^ off)

/-- Push the dirty bytes of a sector towards their visibility point; the sector stays valid and clean (R188). -/
def l1Push (c : Core) (sec : Nat) : Core :=
  match tget c.l1 sec with
  | some x =>
    if x.dirty = 0 then c
    else { c with l1 := tset c.l1 sec { x with dirty := 0 },
                  wb := c.wb ++ [⟨sec, x.data, x.dirty, false, none, noGroup, c.seq, none⟩] }
  | none => c

/-- Push every dirty sector. DEDUCED: log entry 22. -/
def l1PushAll (c : Core) : Core := (tkeys c.l1).foldl l1Push c

/-- Push and drop a sector. DEDUCED: log entry 22. -/
def l1Drop (c : Core) (sec : Nat) : Core :=
  let c := l1Push c sec
  { c with l1 := tdel c.l1 sec }

/-- A sector marked stale (R189): it keeps its contents, but its next access is a miss. -/
def L1Sector.staled (x : L1Sector) : L1Sector := { x with stale := true, dirty := 0, stored := 0, poison := false, uncorr := false }

/-- An acquire at island scope or wider (R189): every dirty sector is written back, then every sector is stale. -/
def l1Acquire (c : Core) : Core :=
  let c := l1PushAll c
  { c with l1 := tmap c.l1 (fun _ x => x.staled) }

/-- Sectors that the L1 holds at a split (R61). -/
def l1Capacity (c : Core) : Nat := (2 ^ 20 - lsBytes c.split) / 32

/-- Make room for one more sector: which one leaves is this model's choice. DESIGN CHOICE: log entry 49. -/
def l1Room (c : Core) (sec : Nat) : Core :=
  if thas c.l1 sec then c
  else if c.l1.length < l1Capacity c then c
  else match c.l1 with
    | (k, _) :: _ => l1Drop c k
    | [] => c

/-- Deliver a fill: dirty bytes are kept, poison is only ever set (R187). -/
def l1Fill (c : Core) (sec : Nat) (data : BitVec 256) (code : Nat) : Core :=
  let c := l1Room c sec
  let bad := code != 0
  let fresh : L1Sector := ⟨data, 0xFFFFFFFF, 0, 0, bad, code == eUncorr, false⟩
  match tget c.l1 sec with
  | none => { c with l1 := tset c.l1 sec fresh }
  | some x =>
    if x.stale then { c with l1 := tset c.l1 sec fresh }
    else { c with l1 := tset c.l1 sec { x with data := merge256 data x.data x.dirty, valid := 0xFFFFFFFF,
                                               poison := x.poison || bad, uncorr := x.uncorr || code == eUncorr } }

/-- Store bytes: a miss allocates the sector without fetching it; poison clears once stores have rewritten every byte. DEDUCED: log entry 110. -/
def l1Store (c : Core) (sec : Nat) (mask : BitVec 32) (data : BitVec 256) (dirty : Bool) : Core :=
  let c := l1Room c sec
  let x : L1Sector := match tget c.l1 sec with
    | some x => if x.stale then ⟨0, 0, 0, 0, false, false, false⟩ else x
    | none => ⟨0, 0, 0, 0, false, false, false⟩
  let stored := x.stored ||| mask
  let clear := stored == 0xFFFFFFFF
  { c with l1 := tset c.l1 sec { x with data := merge256 x.data data mask, valid := x.valid ||| mask,
                                        dirty := if dirty then x.dirty ||| mask else x.dirty &&& ~~~mask, stored := stored,
                                        poison := x.poison && !clear, uncorr := x.uncorr && !clear } }

/-- The L1 can serve a load of masked bytes of a sector. -/
def l1Has (c : Core) (sec : Nat) (mask : BitVec 32) : Bool :=
  match tget c.l1 sec with
  | some x => !x.stale && mask &&& ~~~x.valid == 0
  | none => false

/-- The L1 holds a sector. -/
def l1Holds (c : Core) (sec : Nat) : Bool :=
  match tget c.l1 sec with
  | some x => !x.stale
  | none => false

/-- The code a load of a sector meets: E_UNCORR for the first consumer of an error just found, then E_POISON (R477). -/
def l1Code (c : Core) (sec : Nat) : Nat :=
  match tget c.l1 sec with
  | some x => if x.poison then (if x.uncorr then eUncorr else ePoison) else 0
  | none => 0

/-- The error of a sector is no longer new. -/
def l1Seen (c : Core) (sec : Nat) : Core := { c with l1 := tmod c.l1 sec (fun x => { x with uncorr := false }) }

/-- An uncorrectable sector of the L1 (R480): dropped and fetched again, or written back poisoned where it is dirty, with data that is left open. True
where it was dirty. -/
def l1Bad (c : Core) (sec : Nat) (data : BitVec 256) : Core × Bool :=
  match tget c.l1 sec with
  | some x =>
    if x.dirty = 0 then ({ c with l1 := tdel c.l1 sec }, false)
    else ({ c with l1 := tdel c.l1 sec, wb := c.wb ++ [⟨sec, data, x.dirty, true, none, noGroup, c.seq, none⟩] }, true)
  | none => (c, false)

/-! ### Local store (R63) -/

/-- First byte of a set's slot. -/
def slotBase (c : Core) (shape : Shape) (set : Nat) : Nat := ((tgetD c.sets set ⟨0, false⟩).slot) * shape.lsPerSet

/-- Read n bytes of the local store, as a number. -/
def lsRead (c : Core) (a : Nat) : Nat → Nat
  | 0 => 0
  | n + 1 => (tgetD c.ls a 0).toNat + 256 * lsRead c (a + 1) n

/-- Write n bytes of the local store. -/
def lsWrite (c : Core) (a : Nat) : Nat → Nat → Core
  | 0, _ => c
  | n + 1, v => lsWrite { c with ls := if v % 256 = 0 then tdel c.ls a else tset c.ls a (BitVec.ofNat 8 v) } (a + 1) n (v / 256)

/-- Zero a slot (R63). -/
def lsZero (c : Core) (base n : Nat) : Core :=
  { c with ls := c.ls.filter (fun p => !(decide (base ≤ p.1) && decide (p.1 < base + n))) }

/-! ### Atomic operations (R106, R107) -/

/-- FP format of a floating atomic. DEDUCED: log entry 107. -/
def amoFmt (w64 : Bool) : Fmt := if w64 then fmtF64 else fmtF32

/-- The value an atomic leaves. DEDUCED: log entry 107. -/
def amoResult (op : Nat) (w64 : Bool) (old a b : Nat) : Nat :=
  let w := if w64 then 64 else 32
  let f := amoFmt w64
  let old := old % 2 ^ w
  let a := a % 2 ^ w
  match op with
  | 0 => (old + a) % 2 ^ w
  | 1 => if signedOf a w < signedOf old w then a else old
  | 2 => if signedOf old w < signedOf a w then a else old
  | 3 => min old a
  | 4 => max old a
  | 5 => old &&& a
  | 6 => old ||| a
  | 7 => old ^^^ a
  | 8 => a
  | 9 => if old = a then b % 2 ^ w else old
  | 10 => (addFV f .rne (decodeF f old) (decodeF f a)).1
  | 11 => minmaxF f false (decodeF f old) (decodeF f a) old a
  | _ => minmaxF f true (decodeF f old) (decodeF f a) old a

/-- One lane's atomic on the bytes of a sector: the new bytes and the old value. -/
def amoOnSector (data : BitVec 256) (o : LaneAtom) : BitVec 256 × Nat :=
  let w := if o.w64 then 64 else 32
  let old := bitsOf data.toNat (8 * o.off) w
  (BitVec.ofNat 256 (setBits data.toNat (8 * o.off) w (amoResult o.op o.w64 old o.a o.b)), old)

/-- The atomics of one instruction on one sector, in increasing lane order (R77). -/
def amoAll (data : BitVec 256) (ops : List LaneAtom) : BitVec 256 × List (Nat × Nat) :=
  ops.foldl (fun (d : BitVec 256 × List (Nat × Nat)) o =>
    let (x, old) := amoOnSector d.1 o
    (x, d.2 ++ [(o.lane, old)])) (data, [])

end Sys2Proof.Machine
end

