-- ==== Sys2Proof/Machine/Requests.lean ====
section
/-!
DEFINITION. Requests at the visibility points (chapters 07, 08): requests of the cores, coherence requests of outside agents,
the queue of a busy line, transactions and their answers, ownership of lines of peers and of the host.
-/
namespace Sys2Proof.Machine

/-! ### Answers to a core -/

/-- Remove a request. -/
def endReq (s : Dev) (n : Nat) : Dev := { s with net := tdel s.net n }

/-- Data for a core: a fill of its L1, or data kept for the group or engine that asked. A code of another family than
data integrity ends the access. -/
def deliver (s : Dev) (n : Nat) (r : Req) (data : BitVec 256) (code : Nat) : Dev :=
  let keep := fun (c : Core) => { c with rbuf := c.rbuf ++ [⟨r.tag, r.sec, data, code⟩] }
  endReq (modCore s r.core (fun c =>
    match r.kind with
    | .fill => if code = 0 ∨ code = ePoison ∨ code = eUncorr then l1Fill c r.sec data code else keep c
    | _ => keep c)) n

/-- Results of the atomics of a request: one for each lane. -/
def deliverAtomic (s : Dev) (n : Nat) (r : Req) (ops : List LaneAtom) (vals : List (Nat × Nat)) (code : Nat) : Dev :=
  let res : List AmoResult := if code = 0 then vals.map (fun v => ⟨r.tag - 64, v.1, v.2, 0⟩)
    else ops.map (fun o => ⟨r.tag - 64, o.lane, 0, code⟩)
  endReq (modCore s r.core (fun c => { c with abuf := c.abuf ++ res })) n

/-- End a request with a code. -/
def failReq (s : Dev) (n : Nat) (r : Req) (code : Nat) : Dev :=
  match r.kind with
  | .atomic ops => deliverAtomic s n r ops [] code
  | _ => deliver s n r 0 code

/-! ### Serving a core's request -/

/-- A request queued behind a line: agents 0 to 63 are members, 64 the host, 65 a core's request by number, 66 the oldest
write of a core to the line. -/
def ownReq (n : Nat) : CohReq := ⟨65, 0, 3, n⟩

/-- Perform atomics on half h of a held line. -/
def atomicHere (s : Dev) (n k h : Nat) (r : Req) (ops : List LaneAtom) (l : Line) (put : Dev → Line → Dev) : Dev :=
  let c := halfCode l h
  if c ≠ 0 then
    let (s, _, c) := takeHalf s k l h
    failReq s n r c
  else
    let (d, vals) := amoAll (halfOf l.data h) ops
    let l' := { l with data := setHalf l.data h d }
    deliverAtomic (put s l') n r ops vals 0

/-- A request at its home slice (R210, R223, R225). DESIGN CHOICE: log entry 7. -/
def serveHome (s : Dev) (n k : Nat) (r : Req) : Dev :=
  let h := r.sec % 2
  match lineAt s k with
  | none =>
    if (chanOf s (64 * k)).isNone then
      let (v, s) := takeFree (countUnmapped s (64 * k))
      (match r.kind with
       | .atomic _ => failReq s n r ePoison
       | _ => deliver s n r (BitVec.ofNat 256 v) ePoison)
    else enqueue (startFill s k) k (ownReq n)
  | some _ =>
    let write := match r.kind with
      | .atomic _ => true
      | _ => false
    let (s, ok) := homeAccess s k write
    if !ok then enqueue s k (ownReq n)
    else match lineAt s k with
      | none => s
      | some l =>
        let s := bump s Reg.SHC_CNT_HITS
        (match r.kind with
         | .atomic ops => settleBypass (atomicHere s n k h r ops l (fun s l => storeHomeLine s k l)) k
         | _ =>
           let (s, d, c) := takeHalf s k l h
           settleBypass (deliver s n r d c) k)

/-- Ask the host for a line to be read. -/
def askRead (s : Dev) (k : Nat) (o : Out) : Dev :=
  if thas s.shore.wants k then s
  else { s with out := s.out ++ [o], shore := { s.shore with wants := tset s.shore.wants k 0 } }

/-- Ask a peer's home for a line to be read (R222). -/
def askPeer (s : Dev) (k m : Nat) : Dev :=
  if thas s.shore.wants k then s
  else
    let n := 4 * s.nextReq + 3
    let s := sendCoh { s with nextReq := s.nextReq + 1 } m (peerLine k) .read 0 n none
    { s with shore := { s.shore with wants := tset s.shore.wants k (4 * n) } }

/-- Mark a request as sent beyond the device. -/
def markSent (s : Dev) (n : Nat) : Dev := { s with net := tmod s.net n (fun r => { r with sent := true }) }

/-- A request on a line of a peer of the archipelago (R184, R185, R200). -/
def serveMember (s : Dev) (n k m : Nat) (r : Req) : Dev :=
  let h := r.sec % 2
  if r.sent then s
  else if !fabReach s ((64 * k - globalBase) / 2 ^ 42) then failReq s n r ePeerGone
  else match r.kind, lineAt s k with
    | .atomic ops, l =>
      if (l.map (·.hold)) = some .pending then enqueue s k (ownReq n)
      else sendFab (markSent s n) ((64 * k - globalBase) / 2 ^ 42) (4 * n) (addrAt k + 32 * h) false (.atomic ops)
    | _, some l =>
      if l.hold = .pending ∧ l.pmask.toNat / 2 ^ (32 * h) % 2 ^ 32 ≠ 2 ^ 32 - 1 then enqueue s k (ownReq n)
      else
        let (s, d, c) := takeHalf (bump s Reg.SHC_CNT_HITS) k l h
        deliver s n r d c
    | _, none => enqueue (askPeer (bump s Reg.SHC_CNT_MISSES) k m) k (ownReq n)

/-- A request on a line of the coherent host (R184, R200, R382). -/
def serveHost (s : Dev) (n k : Nat) (r : Req) : Dev :=
  let h := r.sec % 2
  if fget s RF.HST_STATUS_HOST_VALID ≠ 1 then failReq s n r ePeerGone
  else match r.kind, lineAt s k with
    | .atomic ops, some l =>
      if l.hold = .x ∨ l.hold = .d then atomicHere s n k h r ops l (fun s l => putLine (sendWake s k) k { l with hold := .d })
      else enqueue (askHostOwn k s true) k (ownReq n)
    | .atomic _, none => enqueue (askHostOwn k s false) k (ownReq n)
    | _, some l =>
      if l.hold = .pending ∧ l.pmask.toNat / 2 ^ (32 * h) % 2 ^ 32 ≠ 2 ^ 32 - 1 then enqueue s k (ownReq n)
      else
        let (s, d, c) := takeHalf (bump s Reg.SHC_CNT_HITS) k l h
        deliver s n r d c
    | _, none => enqueue (askRead (bump s Reg.SHC_CNT_MISSES) k (.cxlCache .rdShared k none)) k (ownReq n)

/-- A request to a device outside the archipelago (R186). -/
def serveFar (s : Dev) (n k d : Nat) (r : Req) : Dev :=
  let a := addrAt k + 32 * (r.sec % 2)
  if r.sent then s
  else if !fabReach s d then failReq s n r ePeerGone
  else match r.kind with
    | .atomic ops => sendFab (markSent s n) d (4 * n) a false (.atomic ops)
    | _ => sendFab (markSent s n) d (4 * n) a false (.readReq 32)

/-- A request to the memory of a host that is not coherent (R380): what its reads return is left open. DESIGN CHOICE: log entry 7. -/
def serveIo (s : Dev) (n k b : Nat) (r : Req) : Dev :=
  let a := addrAt k + 32 * (r.sec % 2)
  if fget s (RF.HST_BIND_STATUS_BOUND b) ≠ 1 then failReq s n r ePeerGone
  else
    let (v, s) := takeFree { s with out := s.out ++ [.ioRead b a] }
    match r.kind with
    | .atomic ops =>
      let (d, vals) := amoAll (BitVec.ofNat 256 v) ops
      deliverAtomic { s with out := s.out ++ [.ioWrite b a 0xFFFFFFFF d false] } n r ops vals 0
    | _ => deliver s n r (BitVec.ofNat 256 v) 0

/-- A core's request reaches its visibility point. One whose sector the core still writes back waits (R187, R200). -/
def serveReq (s : Dev) (n : Nat) : Dev :=
  match tget s.net n with
  | none => s
  | some r =>
    if (coreOf s r.core).wb.any (fun w => w.sec == r.sec) then s
    else
      let k := r.sec / 2
      match placeOf s k with
      | .home => serveHome s n (if isLocal k then k else addrAt k / 64) r
      | .member m => serveMember s n k m r
      | .host => serveHost s n k r
      | .far d => serveFar s n k d r
      | .io b => serveIo s n k b r

/-! ### Writes of a core -/

/-- A write ends with a code, E_PEER_GONE where its target has departed (R206, R336): groups whose release waits for it, and the operation it belongs to,
end with the code. -/
def loseWrite (c : Core) (w : WbEntry) (code : Nat) : Core :=
  let c := { c with groups := tmap c.groups (fun n g =>
    if g.stall = .release ∨ (w.group = n ∧ g.phase ≠ 0) then { g with dead := some code } else g) }
  match w.op with
  | some o =>
    if o < 16 then { c with mxq := c.mxq.map (fun m => if m.token = o ∧ m.code = 0 then { m with code := code } else m) }
    else { c with ferries := tmod c.ferries (o - 16) (fun f => if f.code = 0 then { f with code := code } else f) }
  | none => c

/-- Accept a write of a core at its visibility point; it leaves the core, waits for an acknowledgement, or stays. -/
def acceptOne (s : Dev) (core : Nat) (w : WbEntry) : Dev :=
  let direct := match w.op with
    | some o => decide (o ≥ 16)
    | none => false
  let (s, r) := acceptWrite s w.sec w.mask w.data w.poison direct false
  match r with
  | .done => modCore s core (fun c => { c with wb := c.wb.erase w })
  | .wait => enqueue s (w.sec / 2) ⟨66, 0, 3, core⟩
  | .sent n a => modCore s core (fun c => { c with wb := c.wb.map (fun x => if x = w then { x with sent := some (n, a) } else x) })
  | .gone => modCore s core (fun c => loseWrite { c with wb := c.wb.erase w } w ePeerGone)

/-- The oldest write of a core that has not left it, to a line where one is named. -/
def oldestWrite (s : Dev) (core : Nat) (line : Option Nat) : Option WbEntry :=
  (coreOf s core).wb.find? (fun w => w.sent.isNone && (match line with
    | some k => w.sec / 2 == k
    | none => true))

/-- WRITEBACK_ACCEPT's effect (R188). -/
def acceptOldest (s : Dev) (core : Nat) (line : Option Nat) : Dev :=
  match oldestWrite s core line with
  | some w => acceptOne s core w
  | none => s

/-! ### Requests of outside agents at the home (R223) -/

/-- How a grant lets an agent hold the line (R223): 0 for reading, 1 and 2 for writing, 3 for reading with no other copy outside, 4 for reading as the
forwarder. DESIGN CHOICE: log entry 50. -/
def grantKind (s : Dev) (k : Nat) (r : CohReq) : Nat :=
  if r.kind ≠ 0 then r.kind
  else match dirAt s k with
    | some e => if e.state = .sole then 3 else if e.state = .forwarder ∧ holderOf e = r.agent then 4 else 0
    | none => 0

/-- Grant a line to an agent: with its data unless it asked for ownership alone. DESIGN CHOICE: log entry 50. -/
def sendGrant (s : Dev) (k : Nat) (r : CohReq) (withData : Bool) : Dev :=
  let data := match lineAt s k with
    | some l => if withData then some ⟨l.data, l.poison⟩ else none
    | none => none
  if r.agent = 64 then countSent { s with out := s.out ++ [.memData k (r.kind != 0) data] } data else sendCoh s r.agent k .grant (grantKind s k r) r.tag data

/-- The entry a granted request leaves. -/
def entryAfter (e : Option DirEntry) (r : CohReq) : DirEntry :=
  let x := if r.kind = 0 then
      match e with
      | none => soleEntry .sole r.agent r.hostId 0
      | some e => (match e.state with
        | .shared => addAgent e r.agent r.hostId
        | .dirty => withHolder (addAgent (soleEntry .forwarder (holderOf e) e.hostId 0) r.agent r.hostId) r.agent
        | _ => { withHolder (addAgent e r.agent r.hostId) r.agent with state := .forwarder })
    else soleEntry .dirty r.agent r.hostId 0
  { x with tag := if holderOf x = r.agent then r.tag else x.tag }

/-- Entries of a directory set (R220). -/
def dirSet (s : Dev) (k : Nat) : List (Nat × DirEntry) :=
  s.shore.dir.filter (fun p => p.1 % 2 == k % 2 && (p.1 / 2) % 32768 == (k / 2) % 32768)

/-- The least recently granted entry of a set that is not busy (R224). -/
def dirVictim (s : Dev) (k : Nat) : Option Nat :=
  let c := (dirSet s k).filter (fun p => !thas s.shore.txn p.1)
  match c with
  | [] => none
  | p :: t => some (t.foldl (fun (b : Nat × DirEntry) q => if q.2.granted < b.2.granted then q else b) p).1

/-- Room for a new entry: where its set is full, a victim's entry is freed first (R224). -/
def dirRoom (s : Dev) (k : Nat) : Dev × Bool :=
  if (dirSet s k).length < 16 then (s, true)
  else match dirVictim s k with
    | some v => (startFree (bump s Reg.SHC_CNT_DIR_EVICTIONS) v, false)
    | none => (s, false)

/-- A request of an outside agent on a line that is not busy (R223, R224). -/
def serveAgent (s : Dev) (k : Nat) (r : CohReq) : Dev :=
  match lineAt s k with
  | none => enqueue (startFill s k) k r
  | some _ =>
    match dirAt s k with
    | none =>
      let (s, room) := dirRoom s k
      if room then sendGrant (setEntry s k (some (entryAfter none r))) k r true else enqueue s k r
    | some e =>
      let inPres := (agentsOf e).contains r.agent
      let others := (agentsOf e).filter (· != r.agent)
      let next := entryAfter (some e) r
      let own := r.kind == 2 && inPres
      if r.kind = 0 then
        (match e.state with
         | .shared => sendGrant (setEntry s k (some next)) k r true
         | _ =>
           if holderOf e = r.agent then sendGrant (setEntry s k (some { e with granted := 0 })) k r true
           else bump (startTxn s k ⟨.forward, some r, [holderOf e], some next, false⟩
             (fun _ => if holderOf e = 64 ∨ r.agent = 64 then .recallLine else .forwardRead) r.agent) Reg.SHC_CNT_FORWARDS)
      else if others = [] then sendGrant (setEntry s k (some next)) k r (!own)
      else
        (match e.state with
         | .dirty =>
           bump (startTxn s k ⟨.forward, some r, [holderOf e], some next, false⟩
             (fun _ => if holderOf e = 64 ∨ r.agent = 64 then .recallInv else .forwardRx) r.agent) Reg.SHC_CNT_FORWARDS
         | .forwarder =>
           if own ∨ holderOf e = 64 ∨ r.agent = 64 ∨ holderOf e = r.agent then
             startTxn s k ⟨.invalidate, some { r with kind := if own then 2 else 1 }, others, some next, false⟩
               (fun _ => .inval) r.agent
           else bump (startTxn s k ⟨.forward, some r, others, some next, false⟩
             (fun a => if a = holderOf e then .forwardRx else .inval) r.agent) Reg.SHC_CNT_FORWARDS
         | _ => startTxn s k ⟨.invalidate, some { r with kind := if own then 2 else 1 }, others, some next, false⟩
                  (fun _ => .inval) r.agent)

/-! ### Queues (R225) -/

/-- Serve one queued request. -/
def serveOne (s : Dev) (k : Nat) (r : CohReq) : Dev :=
  if r.agent = 65 then serveReq s r.tag
  else if r.agent = 66 then acceptOldest s r.tag (some k)
  else serveAgent s k r

/-- Serve a line's queue in order until it is empty or the line is busy or being filled. -/
def serveQueueN (s : Dev) (k : Nat) : Nat → Dev
  | 0 => s
  | f + 1 =>
    if thas s.shore.txn k || thas s.shore.fills k then s
    else match tgetD s.shore.queue k [] with
      | [] => { s with shore := { s.shore with queue := tdel s.shore.queue k } }
      | r :: q => serveQueueN (serveOne { s with shore := { s.shore with queue := tset s.shore.queue k q } } k r) k f

/-- Serve a line's queue. -/
def serveQueue (s : Dev) (k : Nat) : Dev := serveQueueN s k ((tgetD s.shore.queue k []).length + 1)

/-- A request of an outside agent arrives: served, or queued behind a busy line or a fill (R225). -/
def arriveAgent (s : Dev) (k : Nat) (r : CohReq) : Dev :=
  if thas s.shore.txn k || thas s.shore.fills k || !(tgetD s.shore.queue k []).isEmpty then enqueue s k r
  else serveAgent s k r

/-! ### Fills and answers -/

/-- A fill whose two sectors have been read is installed and its queue served (R210). -/
def tryFinishFill (s : Dev) (k : Nat) : Dev :=
  match tget s.shore.fills k with
  | some ⟨some lo, some hi⟩ =>
    let (s, ok) := finishFill s k lo hi
    if ok then settleBypass (serveQueue s k) k else s
  | _ => s

/-- Fills that waited for a way, and requests that waited for a directory entry, go on after an entry is freed. -/
def afterFree (s : Dev) (k : Nat) : Dev :=
  let s := (tkeys s.shore.fills).foldl tryFinishFill s
  (tkeys s.shore.queue).foldl (fun s q => if q % 2 = k % 2 ∧ (q / 2) % 32768 = (k / 2) % 32768 then serveQueue s q else s) s

/-- A transaction ends: the entry takes its new value, the request that caused it is granted, and the queue is served. -/
def finishTxn (s : Dev) (k : Nat) (t : Txn) : Dev :=
  let s := setEntry { s with shore := { s.shore with txn := tdel s.shore.txn k } } k t.next
  let s := match t.req with
    | some r => if t.served then s else sendGrant s k r (r.kind != 2)
    | none => s
  let s := serveQueue s k
  if t.next.isNone then afterFree s k else s

/-- The home's copy takes data that an agent returned. -/
def homeTakes (s : Dev) (k : Nat) (d : LineData) : Dev :=
  match lineAt s k with
  | some l => storeHomeLine s k { l with data := d.data, poison := d.poison, uncorr := 0 }
  | none => queueWrite s ⟨k, BitVec.allOnes 64, d.data, d.poison, 0, some false⟩

/-- An answer of an agent to a recall, forward or invalidation (R223); `served` reports that it has supplied the request. One that
nothing waits for is discarded (R226). -/
def answerTxn (s : Dev) (k agent : Nat) (data : Option LineData) (served : Bool) : Dev :=
  match tget s.shore.txn k with
  | none => s
  | some t =>
    if !t.waiting.contains agent then s
    else
      let s := match data with
        | some d => homeTakes s k d
        | none => s
      let t := { t with waiting := t.waiting.filter (· != agent), served := t.served || served }
      let s := { s with shore := { s.shore with txn := tset s.shore.txn k t } }
      if t.waiting.isEmpty then finishTxn s k t else s

/-! ### The device as an outside agent (R222, R227) -/

/-- Supply a line of a third device to the agent that asked for it: `third` names the home. -/
def sendSupply (s : Dev) (agent k tag : Nat) (data : Option LineData) : Dev :=
  sendFab s (fget s (RF.SHC_EPOCH_DEVICE agent)) tag (64 * peerLine k) (match data with
    | some d => d.poison != 0
    | none => false) (.coh .supply ((64 * k - globalBase) / 2 ^ 42) data)

/-- Answer a forward or recall from what this device holds. DESIGN CHOICE: log entry 50. -/
def honour (s : Dev) (f : HeldFwd) : Dev :=
  match placeOf s f.line, lineAt s f.line with
  | .member m, some l =>
    if l.hold = .pending then sendCoh s m (peerLine f.line) .noCopy 0 f.tag none
    else
      let data : Option LineData := some ⟨l.data, l.poison⟩
      let dirty := l.hold == .d
      -- kinds: 0 forward for a read, 1 forward for ownership, 2 recall, 3 recall with invalidate, 4 invalidate
      let s := if f.kind ≤ 1 then sendSupply s f.dest f.line f.tag data else s
      let back := if dirty && (f.kind = 0 || f.kind = 2 || f.kind = 3) then data else none
      let s := sendCoh s m (peerLine f.line) (if f.kind ≤ 1 then .done else if back.isSome then .data else .ack) 0 f.tag back
      if f.kind = 0 ∨ f.kind = 2 then putLine s f.line { l with hold := .s } else dropLine s f.line
  | .member m, none => sendCoh s m (peerLine f.line) (if f.kind = 4 then .ack else .noCopy) 0 f.tag none
  | _, _ => s

/-- A grant reaches the device: writes held pending are applied and the line is held as granted; requests that waited are
performed before forwards that came early (R185, R227, R383). `hold` is how a line that was to be read is held, `own` how one that was to be written is
held where no write waits for it any more. -/
def takeGrant (s : Dev) (k : Nat) (hold own : Hold) (data : Option LineData) : Dev :=
  match tget s.shore.wants k with
  | none => s
  | some w =>
    let w := w % 4
    let s := { s with shore := { s.shore with wants := tdel s.shore.wants k } }
    let old := lineAt s k
    let base : LineData := match data, old with
      | some d, _ => d
      | none, some l => ⟨l.data, l.poison⟩
      | none, none => ⟨0, 0⟩
    let line : Line := match old with
      | some l =>
        if l.hold = .pending then
          let m := BitVec.ofNat 512 (spread 64 l.pmask.toNat)
          let full := fun (h : Nat) => l.pmask.toNat / 2 ^ (32 * h) % 2 ^ 32 == 2 ^ 32 - 1
          { l with data := (base.data &&& ~~~m) ||| (l.data &&& m),
                   poison := (if full 0 then 0 else base.poison &&& 1) ||| (if full 1 then 0 else base.poison &&& 2)
                     ||| l.poison,
                   hold := if w = 0 then .pending else .d, pmask := if w = 0 then l.pmask else 0 }
        else { l with data := base.data, poison := base.poison, hold := if w = 0 then hold else own }
      | none => { Line.fresh base.data base.poison 0 false with hold := if w = 0 then hold else own }
    let s := putLine s k line
    let s := if w = 0 ∧ line.hold = .pending then
        (match placeOf s k with
         | .member m => askOwn m k s false
         | _ => askHostOwn k s false)
      else s
    let s := serveQueue s k
    let early := s.shore.heldFwd.filter (fun f => f.line == k)
    let s := { s with shore := { s.shore with heldFwd := s.shore.heldFwd.filter (fun f => f.line != k) } }
    early.foldl honour s

end Sys2Proof.Machine
end

