-- ==== Sys2Proof/Machine/Translate.lean ====
section
/-!
DEFINITION. Address translation (chapter 10): page-table entries and their checks, the walk, translation buffers, fault
records and batches.
-/
namespace Sys2Proof.Machine

/-! ### Page-table entries (R265) -/

/-- V. -/
def eV (e : Nat) : Bool := bitOf e 0
/-- KIND: 0 TABLE, 1 LEAF, 2 TABLE64. -/
def eKind (e : Nat) : Nat := bitsOf e 1 2
/-- R. -/
def eR (e : Nat) : Bool := bitOf e 3
/-- W. -/
def eW (e : Nat) : Bool := bitOf e 4
/-- A. -/
def eA (e : Nat) : Bool := bitOf e 5
/-- TARGET. -/
def eTarget (e : Nat) : Nat := bitsOf e 6 2
/-- MIG. -/
def eMig (e : Nat) : Bool := bitOf e 8
/-- MOVING. -/
def eMoving (e : Nat) : Bool := bitOf e 9
/-- ADDR, as an address. -/
def eAddr (e : Nat) : Nat := bitsOf e 12 45 * 2 ^ 12

/-- Log2 of a leaf's size by level; `t64` for level 0 under TABLE64 (R264). -/
def leafBits (level : Nat) (t64 : Bool) : Nat :=
  match level with
  | 2 => 30
  | 1 => 21
  | _ => if t64 then 16 else 12

/-- A kind of entry is allowed at a level (R264). -/
def kindOk (level kind : Nat) : Bool :=
  match level with
  | 4 => kind == 0
  | 3 => kind == 0
  | 2 => kind == 0 || kind == 1
  | 1 => kind == 0 || kind == 1 || kind == 2
  | _ => kind == 1

/-- Check 3 of R267: kind, reserved bits and values, and the alignment and ranges of R265. -/
def entryOk (level : Nat) (t64 : Bool) (e : Nat) : Bool :=
  kindOk level (eKind e) && bitsOf e 10 2 == 0 && bitsOf e 57 7 == 0
  && (if eKind e = 1 then
        eTarget e != 3 && eAddr e % 2 ^ leafBits level t64 == 0
        && (eTarget e != 0 || decide (eAddr e < 2 ^ 42)) && (eTarget e != 1 || decide (eAddr e < 2 ^ 52))
        && (!eMig e || (level == 0 && t64 && eTarget e == 0)) && (!eMoving e || eMig e)
      else bitsOf e 3 7 == 0 && decide (eAddr e < 2 ^ 42))

/-- Index of a virtual address into the table of a level (R264). -/
def tableIndex (level : Nat) (t64 : Bool) (va : Nat) : Nat :=
  match level with
  | 4 => bitsOf va 48 9
  | 3 => bitsOf va 39 9
  | 2 => bitsOf va 30 9
  | 1 => bitsOf va 21 9
  | _ => if t64 then bitsOf va 16 5 else bitsOf va 12 9

/-! ### Ownership of targets (check 4 of R267) -/

/-- A local range of 2 MiB frames is owned, not reserved, and below CAP_A or CAP_B. DEDUCED: log entry 28. -/
def ownsRange (s : Dev) (inst pa size : Nat) : Bool :=
  (List.range (ceilDiv (pa % 2 ^ 21 + size) (2 ^ 21))).all (fun i =>
    let fr := pa / 2 ^ 21 + i
    (inA s (fr * 2 ^ 21) || inB s (fr * 2 ^ 21)) && owns s inst fr)

/-- A host physical range lies within a binding's windows (R378). Binding 0 covers every address. -/
def inBinding (s : Dev) (b hpa size : Nat) : Bool :=
  let win := fun (lo hi : Nat) => decide (lo ≤ hpa) && decide (hpa + size ≤ hi + 1)
  fget s (RF.HST_BIND_STATUS_BOUND b) == 1 &&
  (b == 0 || win (fget s (RF.HST_BIND_BASE0_ADDR b)) (fget s (RF.HST_BIND_LIMIT0_ADDR b))
   || (fget s (RF.HST_BIND_LIMIT1_ADDR b) != 0 && win (fget s (RF.HST_BIND_BASE1_ADDR b)) (fget s (RF.HST_BIND_LIMIT1_ADDR b)))
   || (match tget s.ins.bar2 b with
       | some base => win base (base + 2 ^ 36 - 1)
       | none => false))

/-- A device that an instance's leaves may name (R400). -/
def mayReach (s : Dev) (inst d : Nat) : Bool :=
  match fget s (RF.INS_STATUS_REACH inst) with
  | 1 => (memberOf s d).isSome
  | 2 => true
  | _ => inst == 0

/-- A leaf's target passes check 4. DEDUCED: log entry 28. -/
def targetOk (s : Dev) (inst e size : Nat) : Bool :=
  match eTarget e with
  | 0 => ownsRange s inst (eAddr e) size
  | 1 => inBinding s inst (eAddr e) size
  | _ =>
    let d := eAddr e / 2 ^ 42
    if ownDevice s d then ownsRange s inst (eAddr e % 2 ^ 42) size else mayReach s inst d

/-- Location that a leaf's frame names (R263, R265). -/
def leafLoc (s : Dev) (inst e : Nat) : Nat :=
  match eTarget e with
  | 0 => eAddr e
  | 1 => hostLoc s inst (eAddr e)
  | _ => if ownDevice s (eAddr e / 2 ^ 42) then eAddr e % 2 ^ 42 else globalBase + eAddr e

/-! ### The walk (R264 to R268) -/

/-- Right that an access needs: 0 read, 1 write, 2 atomic, 3 fetch, 4 read or write (R268). -/
def rightOk (access : Nat) (r w a : Bool) : Bool :=
  match access with
  | 0 => r
  | 1 => w
  | 2 => a
  | 3 => r
  | _ => r || w

/-- What a walk ends in. -/
inductive WalkRes where
  | ok (t : Tlb)
  | fault (cause level : Nat)
  | moving
  | bad (code : Nat)
deriving DecidableEq, Repr

/-- One level and those below it, from a table that has passed its own check. DEDUCED: log entry 28. -/
def walkFrom (s : Dev) (inst va access : Nat) (t64 : Bool) (table : Nat) : Nat → Dev × WalkRes
  | 0 => go 0 s (fun s _ => (s, .fault 3 0))
  | n + 1 => go (n + 1) s (fun s e => walkFrom s inst va access (eKind e == 2) (eAddr e) n)
where
  /-- Read and check the entry of a level; `below` continues at the table it names. -/
  go (level : Nat) (s : Dev) (below : Dev → Nat → Dev × WalkRes) : Dev × WalkRes :=
    let (s, bytes, code) := devRead s (table + 8 * tableIndex level t64 va) 8
    let e := ofLe bytes
    let size := 2 ^ leafBits level t64
    if code ≠ 0 then (s, .bad code)
    else if !eV e then (s, .fault 1 level)
    else if !entryOk level t64 e then (s, .fault 3 level)
    else if eKind e = 1 then
      if !targetOk s inst e size then (s, .fault 4 level)
      else if !rightOk access (eR e) (eW e) (eA e) then (s, .fault 2 level)
      else if eMoving e then (s, .moving)
      else (s, .ok { inst := inst, va := va / size * size, size := size, loc := leafLoc s inst e, r := eR e, w := eW e,
                     a := eA e, mig := eMig e })
    else if !ownsRange s inst (eAddr e) 4096 then (s, .fault 4 level)
    else below s e

/-- A walk of an instance's tables from its root (R264, R267); the address is canonical. -/
def walk (s : Dev) (inst va access : Nat) : Dev × WalkRes :=
  let root := fget s (RF.TRN_ROOT_ROOT inst) * 2 ^ 12
  if fget s (RF.TRN_ROOT_VALID inst) = 0 then (s, .fault 1 4)
  else if !ownsRange s inst root 4096 then (s, .fault 4 4)
  else walkFrom s inst va access false root 4

/-- A canonical virtual address (R262). -/
def canonical (va : Nat) : Bool := decide (va < 2 ^ 57)

/-- Location of a virtual address under a translation. -/
def Tlb.at (t : Tlb) (va : Nat) : Nat := t.loc + (va - t.va)

/-- A buffered translation that serves an access. -/
def Tlb.serves (t : Tlb) (inst va access : Nat) : Bool :=
  t.inst == inst && decide (t.va ≤ va) && decide (va < t.va + t.size) && rightOk access t.r t.w t.a

/-- L1 translation buffer of an engine of a core (R269). -/
def tlbFind (c : Core) (engine inst va access : Nat) : Option Tlb :=
  (c.tlb.find? (fun p => p.1 == engine && p.2.serves inst va access)).map (·.2)

/-- Keep a translation in a buffer of n entries of one owner: the oldest leaves. -/
def tlbPut (l : List (Nat × Tlb)) (owner n : Nat) (t : Tlb) : List (Nat × Tlb) :=
  let mine := (l.filter (fun p => p.1 == owner && p.2 != t)) ++ [(owner, t)]
  l.filter (fun p => p.1 != owner) ++ mine.drop (mine.length - n)

/-- Error code of a failed fault record (R276, R278). -/
def causeCode (cause : Nat) : Nat := if cause = 2 ∨ cause = 4 then eRights else eXlateFault

/-- A translation of the front end or of BAR2, made at once (R270, R376): location, or a code. Nothing stalls and no record is
written. DEDUCED: log entry 58. -/
def feTranslate (s : Dev) (inst va access : Nat) : Dev × (Nat ⊕ Nat) :=
  if !canonical va then (s, .inr eXlateFault)
  else
    let (s, r) := walk (bump s (Reg.TRN_CNT_WALKS inst)) inst va access
    match r with
    | .ok t => (s, .inl (t.at va))
    | .fault c _ => (s, .inr (causeCode c))
    | .moving => ({ s with blocked := s.blocked ++ [(0, 4)] }, .inr eXlateFault)
    | .bad c => (s, .inr c)

/-! ### Fault records and batches (R271 to R276) -/

/-- An instance's fault collection. -/
def FltInst.none : FltInst :=
  { base := 0, sizeLog2 := 0, vector := 0, ringSet := false, producer := 0, consumed := 0, lastBatch := 0, openTick := Option.none,
    waitedFull := false }

/-- The fault collection of an instance. -/
def fltOf (s : Dev) (i : Nat) : FltInst := tgetD s.xl.insts i FltInst.none

/-- Change it. -/
def modFlt (s : Dev) (i : Nat) (f : FltInst → FltInst) : Dev := { s with xl := { s.xl with insts := tset s.xl.insts i (f (fltOf s i)) } }

/-- Change a record. -/
def modRec (s : Dev) (r : Nat) (f : FltRec → FltRec) : Dev := { s with xl := { s.xl with recs := tmod s.xl.recs r f } }

/-- Show the engines stalled on records of an instance (R283). -/
def showStalled (s : Dev) (i : Nat) : Dev :=
  let n := (s.xl.recs.filter (fun p => p.2.inst == i && decide (p.2.phase < 3) && !p.2.terminal)).foldl
    (fun n p => n + popcount 16 p.2.engines) 0
  fset s (RF.TRN_STATUS_STALLED_ENGINES i) (min n 65535)

/-- The open batch of an instance closes (R273). -/
def closeBatch (s : Dev) (i : Nat) : Dev :=
  if (fltOf s i).openTick.isNone then s
  else
    let b := fget s (RF.FLT_STATUS_NEXT_BATCH i)
    let s := modFlt s i (fun f => { f with openTick := none })
    let s := { s with xl := { s.xl with recs := tmap s.xl.recs (fun _ r =>
      if r.inst = i ∧ r.batch = b ∧ r.phase = 0 then { r with phase := 1 } else r) } }
    fsat (fset (fset s (RF.FLT_STATUS_NEXT_BATCH i) (b + 1)) (RF.FLT_STATUS_OPEN_RECORDS i) 0) (RF.FLT_STATUS_UNRESUMED i) 1

/-- Open a record in the current batch (R271, R273, R277). -/
def newRecord (s : Dev) (inst island cause level access engines va : Nat) (terminal : Bool) : Dev × Nat :=
  let s := if fget s (RF.FLT_STATUS_OPEN_RECORDS inst) ≥ 256 then closeBatch s inst else s
  let n := s.xl.nextRec
  let r : FltRec :=
    { inst := inst, island := island, page := va / 4096, cause := cause, level := level, access := access, engines := engines,
      va := va, terminal := terminal, tick := s.time.base, batch := fget s (RF.FLT_STATUS_NEXT_BATCH inst),
      index := fget s (RF.FLT_STATUS_OPEN_RECORDS inst), phase := 0 }
  let s := { s with xl := { s.xl with recs := tset s.xl.recs n r, nextRec := n + 1 } }
  let s := modFlt s inst (fun f => { f with openTick := some (f.openTick.getD s.time.hw) })
  (showStalled (fset s (RF.FLT_STATUS_OPEN_RECORDS inst) (fget s (RF.FLT_STATUS_OPEN_RECORDS inst) + 1)) inst, n)

/-- ACCESS bit of a kind of access (R277); a range operation counts as a read. DEDUCED: log entry 29. -/
def accessBit (access : Nat) : Nat := match access with
  | 1 => 2
  | 2 => 4
  | 3 => 8
  | _ => 1

/-- What a failed walk does to its access. -/
inductive FaultRes where
  | joined (record : Nat)
  | ended (code : Nat)
  | full
deriving DecidableEq, Repr

/-- FAULT_RECORD_OPEN (R271, R274, R276): a failed walk with cause 1 to 4. DEDUCED: log entry 29. -/
def openFault (s : Dev) (inst core engine cause level access va : Nat) : Dev × FaultRes :=
  let island := core / 4
  let bit := 2 ^ (4 * (core % 4) + engine)
  if !(fltOf s inst).ringSet then (bump s (Reg.FLT_CNT_NO_RING inst), .ended (causeCode cause))
  else
    let same := fun (r : FltRec) => r.inst == inst && r.page == va / 4096 && r.cause == cause && r.island == island && !r.terminal
    match tfindKey s.xl.recs (fun _ r => same r && r.phase == 0) with
    | some n =>
      (showStalled (modRec (bump s (Reg.FLT_CNT_MERGED inst)) n (fun r =>
        { r with engines := r.engines ||| bit, access := r.access ||| accessBit access })) inst, .joined n)
    | none =>
      (match tfindKey s.xl.recs (fun _ r => same r && (r.phase == 1 || r.phase == 2)) with
       | some n => (showStalled (modRec (bump s (Reg.FLT_CNT_LATE_JOINS inst)) n (fun r =>
           { r with engines := r.engines ||| bit })) inst, .joined n)
       | none =>
         if (s.xl.recs.filter (fun p => p.2.island == island && p.2.phase == 0)).length ≥ 32 then
           (bump s (Reg.FLT_CNT_TABLE_FULL inst), .full)
         else
           let (s, n) := newRecord s inst island cause level (accessBit access) bit va false
           (s, .joined n))

/-- A non-canonical access (R272): its record is TERMINAL and the access ends at once. DEDUCED: log entry 29. -/
def openTerminal (s : Dev) (inst core engine access va : Nat) : Dev :=
  if !(fltOf s inst).ringSet then bump s (Reg.FLT_CNT_NO_RING inst)
  else (newRecord s inst (core / 4) 5 4 (accessBit access) (2 ^ (4 * (core % 4) + engine)) va true).1

end Sys2Proof.Machine
end

