-- ==== Sys2Proof/Machine/FrontEnd.lean ====
section
/-!
DEFINITION. The front end (chapters 11, 12, 16): its accesses by virtual address, journal records, completions, the table of commands, and
the checks through which every command runs (R293, R433).
-/
namespace Sys2Proof.Machine

/-- The module is READY and no device-fatal fault stands (R496, R506). -/
def serving (s : Dev) : Bool := fget s RF.BRG_START_STATUS_STAGE == 9 && fget s RF.BRG_ERR_STATUS_FATAL == 0

/-- HW ticks of a number of microseconds (R449: 50 MHz). -/
def usTicks (us : Nat) : Nat := 50 * us

/-- State code of an instance (R396). DEDUCED: log entry 36. -/
def insState (s : Dev) (i : Nat) : Nat := fget s (RF.INS_STATUS_STATE i)

/-! ### Accesses by virtual address (R270) -/

/-- Read n bytes at a virtual address of an instance: the bytes, or the first code. DEDUCED: log entry 58. -/
def vaReadN (s : Dev) (inst va n : Nat) : Nat → Dev × List Byte × Nat
  | 0 => (s, [], 0)
  | f + 1 =>
    if n = 0 then (s, [], 0)
    else
      let m := min n (4096 - va % 4096)
      match feTranslate s inst va 0 with
      | (s, .inr c) => (s, [], c)
      | (s, .inl loc) =>
        let (s, b, c) := devRead s loc m
        if c ≠ 0 then (s, [], c)
        else
          let (s, rest, c) := vaReadN s inst (va + m) (n - m) f
          (s, b ++ rest, c)

/-- Read n bytes at a virtual address. -/
def vaRead (s : Dev) (inst va n : Nat) : Dev × List Byte × Nat := vaReadN s inst va n (n / 4096 + 2)

/-- Write bytes at a virtual address of an instance: the first code, or 0. DEDUCED: log entry 58. -/
def vaWriteN (s : Dev) (inst va : Nat) (b : List Byte) : Nat → Dev × Nat
  | 0 => (s, 0)
  | f + 1 =>
    if b.isEmpty then (s, 0)
    else
      let m := min b.length (4096 - va % 4096)
      match feTranslate s inst va 1 with
      | (s, .inr c) => (s, c)
      | (s, .inl loc) =>
        let (s, c) := devWrite s loc (b.take m)
        if c ≠ 0 then (s, c) else vaWriteN s inst (va + m) (b.drop m) f

/-- Write bytes at a virtual address. -/
def vaWrite (s : Dev) (inst va : Nat) (b : List Byte) : Dev × Nat := vaWriteN s inst va b (b.length / 4096 + 2)

/-- Check that every page of a range translates with a right, touching nothing: the locations of its 4 KiB pages, or a code. -/
def vaPagesN (s : Dev) (inst va access : Nat) : Nat → Dev × (Nat ⊕ List Nat)
  | 0 => (s, .inr [])
  | f + 1 =>
    match feTranslate s inst va access with
    | (s, .inr c) => (s, .inl c)
    | (s, .inl loc) =>
      (match vaPagesN s inst (va + 4096) access f with
       | (s, .inl c) => (s, .inl c)
       | (s, .inr l) => (s, .inr (loc :: l)))

/-- Locations of the pages that n bytes from a page-aligned virtual address span. -/
def vaPages (s : Dev) (inst va n access : Nat) : Dev × (Nat ⊕ List Nat) :=
  vaPagesN s inst (va / 4096 * 4096) access (if n = 0 then 0 else (va + n - 1) / 4096 - va / 4096 + 1)

/-- The code of a buffer that must translate for every byte, 0 where it does. DEDUCED: log entries 31, 58. -/
def vaCheck (s : Dev) (inst va n access : Nat) : Dev × Nat :=
  match vaPages s inst va n access with
  | (s, .inl c) => (s, c)
  | (s, .inr _) => (s, 0)

/-! ### Journal records (R321 to R325) -/

/-- No journal. -/
def Journal.none : Journal :=
  { base := 0, sizeLog2 := 0, drop := false, digLaunch := false, digVa := 0, digLen := 0, produced := 0, consumed := 0, records := 0,
    totalLost := 0, lost := 0, seq := 0, queue := [], stopping := Option.none, digests := [], cmd := 0, stopFirst := false, watch := 0,
    feed := 0, expect := [], outcomes := [], first := Option.none, diverged := 0, lastSeq := 0 }

/-- An instance's journal. -/
def jnlOf (s : Dev) (i : Nat) : Journal := tgetD s.fe.journals i Journal.none

/-- Change it. -/
def modJnl (s : Dev) (i : Nat) (f : Journal → Journal) : Dev :=
  { s with fe := { s.fe with journals := tset s.fe.journals i (f (jnlOf s i)) } }

/-- The instance records (1) or replays (2) a journal. -/
def jnlMode (s : Dev) (i : Nat) : Nat := fget s (RF.SES_JNL_STATUS_MODE i)

/-- Recording holds the instance for room (R325). -/
def jnlHeld (s : Dev) (i : Nat) : Bool := fget s (RF.SES_JNL_STATUS_HELD i) == 1

/-- Bytes padded with zeros to a multiple of 32. -/
def pad32 (b : List Byte) : List Byte := b ++ List.replicate ((32 - b.length % 32) % 32) 0

/-- The bytes of a record (R323). -/
def recBytes (r : JRec) : List Byte :=
  leBytes 1 r.kind ++ leBytes 1 r.flags ++ leBytes 2 r.ring ++ leBytes 4 r.payload.length ++ leBytes 8 r.seq ++ leBytes 8 r.step
    ++ leBytes 4 r.session ++ leBytes 4 r.aux ++ r.payload

/-- Write the journal's header fields (R322). -/
def jnlHeader (s : Dev) (i : Nat) : Dev :=
  let j := jnlOf s i
  let (s, _) := vaWrite s i j.base (leBytes 8 j.produced)
  (vaWrite s i (j.base + 16) (leBytes 8 j.records ++ leBytes 8 j.totalLost)).1

/-- Put bytes at the stream's end and advance it. DEDUCED: log entry 60. -/
def jnlPut (s : Dev) (i : Nat) (b : List Byte) : Dev :=
  let j := jnlOf s i
  let (s, _) := vaWrite s i (j.base + 64 + j.produced % 2 ^ j.sizeLog2) b
  let s := modJnl s i (fun j => { j with produced := j.produced + b.length, records := j.records + 1 })
  bump s (Reg.SES_JNL_CNT_RECORDS i)

/-- Write one record where there is room, with a PAD record before one that would cross the area's end (R322). DEDUCED: log entry 60. -/
def jnlWrite (s : Dev) (i : Nat) (r : JRec) : Dev × Bool :=
  let (s, cons, code) := vaRead s i ((jnlOf s i).base + 8) 8
  let s := if code = 0 then modJnl s i (fun j => { j with consumed := ofLe cons }) else s
  let j := jnlOf s i
  let size := 2 ^ j.sizeLog2
  let b := recBytes r
  let toEnd := size - j.produced % size
  let pad := if b.length > toEnd then toEnd else 0
  if code ≠ 0 ∨ j.produced + pad + b.length > j.consumed + size then (s, false)
  else
    let s := if pad = 0 then s else
      jnlPut s i (recBytes { kind := 9, flags := 0, ring := 0xFFFF, seq := r.seq, step := 0, session := 0xFFFFFFFF, aux := 0,
                             payload := List.replicate (pad - 32) 0 })
    (jnlHeader (jnlPut s i b) i, true)

/-- A record is lost under DROP 1. -/
def jnlLose (s : Dev) (i : Nat) : Dev :=
  jnlHeader (bump (modJnl s i (fun j => { j with lost := j.lost + 1, totalLost := j.totalLost + 1 })) (Reg.SES_JNL_CNT_LOST i)) i

/-- Record an event of an instance (R324, R325). DEDUCED: log entry 39. -/
def jnlRecord (s : Dev) (i kind flags ring step session aux : Nat) (payload : List Byte) : Dev :=
  if jnlMode s i ≠ 1 ∨ (jnlOf s i).stopping.isSome then s
  else
    let j := jnlOf s i
    let r : JRec := { kind := kind, flags := flags, ring := ring, seq := j.seq, step := step, session := session, aux := aux,
                      payload := pad32 payload }
    if !j.queue.isEmpty then modJnl s i (fun j => { j with queue := j.queue ++ [r] })
    else if j.lost ≠ 0 then jnlLose s i
    else
      let (s, ok) := jnlWrite s i r
      if ok then s
      else if j.drop then jnlLose s i
      else fset (modJnl s i (fun j => { j with queue := j.queue ++ [r] })) (RF.SES_JNL_STATUS_HELD i) 1

/-- A write or atomic of another device to an instance's memory is accepted at its home: a FABRIC_RX record (R324), or the write itself
is part of what replay feeds. The instance offset counts the instance's owned frames in physical order. -/
def insOffset (s : Dev) (i pa : Nat) : Nat :=
  ((s.ins.owner.filter (fun p => p.2 == i && decide (p.1 < pa / 2 ^ 21))).length) * 2 ^ 21 + pa % 2 ^ 21

/-! ### Rings and completions (R288 to R292) -/

/-- Key of a ring. -/
def ringKey (inst ring : Nat) : Nat := 4096 * inst + ring

/-- A ring. -/
def ringAt (s : Dev) (k : Nat) : Option Ring := tget s.fe.rings k

/-- Change a ring that is there. -/
def modRing (s : Dev) (k : Nat) (f : Ring → Ring) : Dev := { s with fe := { s.fe with rings := tmod s.fe.rings k f } }

/-- Key of a command: its position, instance and ring. -/
def cmdKey (inst ring pos : Nat) : Nat := pos * 2 ^ 20 + ringKey inst ring

/-- The instance of a command's key. -/
def keyInst (k : Nat) : Nat := k % 2 ^ 20 / 4096
/-- The ring of a command's key. -/
def keyRing (k : Nat) : Nat := k % 4096

/-- The command of a key in the store. -/
def storeAt (s : Dev) (key : Nat) : Option StoreEntry := s.fe.store.find? (fun e => cmdKey e.inst e.ring e.pos == key)

/-- Change the phase of a command. -/
def setPhase (s : Dev) (key ph : Nat) : Dev :=
  { s with fe := { s.fe with store := s.fe.store.map (fun e => if cmdKey e.inst e.ring e.pos = key then { e with phase := ph } else e) } }

/-- A command leaves the store. -/
def dropStore (s : Dev) (key : Nat) : Dev :=
  { s with fe := { s.fe with store := s.fe.store.filter (fun e => cmdKey e.inst e.ring e.pos != key) } }

/-- Bytes of an entry's field. -/
def eb (e : Entry512) (off n : Nat) : Nat := bitsOf e.toNat (8 * off) (8 * n)

/-- OPCODE of an entry. -/
def entryOp (e : Entry512) : Nat := eb e 0 2

/-- What a command's completion carries beside its TAG and opcode (R291); `data` is a buffer returned over sideband. -/
structure Ret where
  status : Nat
  r0 : Nat
  r1 : Nat
  r2 : Nat
  r3 : Nat
  flags : Nat
  data : List Byte
deriving DecidableEq, Repr

/-- E_OK and zeros. -/
def Ret.ok : Ret := { status := 0, r0 := 0, r1 := 0, r2 := 0, r3 := 0, flags := 0, data := [] }

/-- Bytes 0 to 30 of a completion entry. -/
def cplBody (c : Cpl) : List Byte :=
  leBytes 8 c.tag ++ leBytes 2 c.status ++ leBytes 2 c.opcode ++ leBytes 4 c.r0 ++ leBytes 8 c.r1 ++ leBytes 4 c.r2 ++ leBytes 2 c.r3
    ++ leBytes 1 c.flags

/-- Owe a completion on a ring; one on a ring that is gone or out of service is not written, and its command is over (R534). -/
def oweCpl (s : Dev) (k : Nat) (c : Cpl) : Dev :=
  let spill := match c.key with
    | some key => dropStore s key
    | none => s
  match ringAt s k with
  | some r => if r.dead then spill else modRing s k (fun r => { r with cplQ := r.cplQ ++ [c] })
  | none => spill

/-! ### The table of commands (R296, R321, R369, R379, R403, R433, R444, R468, R484, R515) -/

/-- A row of the command tables: opcode, permission row (none: no row), assigned body bytes as first byte and length, reserved bits
within them, place of an INSTANCE field, whether the device as a whole is affected, and whether an accepted one is entered as COMMAND. -/
structure CmdSpec where
  op : Nat
  row : Option Nat
  body : List (Nat × Nat)
  resv : List (Nat × Nat)
  inst : Option Nat
  device : Bool
  logged : Bool
deriving DecidableEq, Repr

/-- Commands of chapter 11 (R296). -/
def sessionSpecs : List CmdSpec :=
  [⟨0x01, some 2, [(16, 43)], [], none, false, false⟩,
   ⟨0x10, some 2, [(16, 27)], [], none, false, false⟩,
   ⟨0x11, some 2, [(16, 6)], [], none, false, false⟩,
   ⟨0x12, some 2, [(16, 4), (24, 8)], [], none, false, false⟩,
   ⟨0x13, some 2, [(16, 4)], [], none, false, false⟩,
   ⟨0x14, some 2, [(16, 4)], [], none, false, false⟩,
   ⟨0x15, some 2, [(16, 4)], [], none, false, false⟩,
   ⟨0x16, some 2, [(16, 4)], [], none, false, false⟩,
   ⟨0x18, some 2, [(16, 35), (52, 12)], [], none, false, false⟩,
   ⟨0x19, some 2, [(16, 2)], [], none, false, false⟩,
   ⟨0x20, some 2, [(16, 3), (20, 28)], [], none, false, true⟩,
   ⟨0x21, some 2, [(16, 2)], [], none, false, true⟩,
   ⟨0x22, some 4, [(16, 1), (20, 12)], [], none, true, true⟩]

/-- Commands of translation, homing and the tiers (R296), and of journals (R320, R321, R327). -/
def memorySpecs : List CmdSpec :=
  [⟨0x30, some 2, [(16, 1), (24, 8)], [], some 16, false, true⟩,
   ⟨0x31, some 2, [(16, 3), (24, 16)], [], some 16, false, false⟩,
   ⟨0x32, some 2, [(16, 4), (24, 8)], [], some 16, false, true⟩,
   ⟨0x33, some 2, [(16, 2), (20, 44)], [], some 16, false, false⟩,
   ⟨0x40, some 4, [(16, 1), (24, 8)], [], none, true, true⟩,
   ⟨0x41, some 3, [(16, 1), (20, 8)], [], none, false, true⟩,
   ⟨0x42, some 4, [(16, 3), (20, 2), (24, 8)], [], none, true, true⟩,
   ⟨0x43, some 4, [(16, 3), (20, 8)], [], some 16, false, true⟩,
   ⟨0x50, some 8, [(24, 12)], [], none, true, false⟩,
   ⟨0x60, some 2, [(16, 3), (24, 20)], [(18, 0xFC)], some 16, false, true⟩,
   ⟨0x61, some 2, [(16, 1)], [], some 16, false, true⟩,
   ⟨0x62, some 2, [(16, 3), (24, 16)], [(18, 0xFE)], some 16, false, true⟩,
   ⟨0x63, some 2, [(16, 4), (24, 16)], [], none, false, true⟩]

/-- Commands of the fabric and the host port (R348 to R368, R379). -/
def linkSpecs : List CmdSpec :=
  [⟨0x70, some 5, [(16, 2)], [], none, true, true⟩,
   ⟨0x71, some 5, [(16, 4), (24, 8)], [], none, true, true⟩,
   ⟨0x72, some 5, [(16, 6)], [], none, true, true⟩,
   ⟨0x73, some 6, [(16, 3), (20, 2), (24, 8)], [(17, 0xF8)], some 16, false, true⟩,
   ⟨0x74, some 6, [(16, 2)], [], none, false, true⟩,
   ⟨0x75, some 6, [(16, 2), (24, 8)], [], none, false, true⟩,
   ⟨0x76, some 6, [(16, 1), (24, 12), (40, 8)], [], none, false, false⟩,
   ⟨0x77, some 6, [(16, 4), (24, 16)], [], none, false, true⟩,
   ⟨0x78, some 6, [(16, 5), (24, 24)], [], none, false, false⟩,
   ⟨0x79, some 6, [(16, 2)], [], none, false, true⟩,
   ⟨0x80, some 1, [(16, 3), (24, 32)], [(17, 0xFE)], none, false, true⟩,
   ⟨0x81, some 1, [(16, 1)], [], none, false, true⟩]

/-- Commands of instances, trust, power, errors and traces (R403, R444, R468, R484, R515). -/
def deviceSpecs : List CmdSpec :=
  [⟨0x90, some 0, [(16, 3), (20, 20)], [(17, 0xFE)], some 16, false, true⟩,
   ⟨0x91, some 0, [(16, 2), (20, 8)], [], some 16, false, true⟩,
   ⟨0x92, some 0, [(16, 2), (24, 8)], [], some 16, false, true⟩,
   ⟨0x93, some 0, [(16, 1)], [], some 16, false, true⟩,
   ⟨0x94, some 0, [(16, 1)], [], some 16, false, true⟩,
   ⟨0x95, some 0, [(16, 1)], [], some 16, false, true⟩,
   ⟨0x96, some 0, [(16, 1)], [], some 16, false, true⟩,
   ⟨0x97, some 0, [(16, 2), (24, 16)], [], some 16, false, true⟩,
   ⟨0x98, some 0, [(16, 2), (24, 16)], [], some 16, false, true⟩,
   ⟨0x99, some 0, [(16, 3), (20, 2)], [], none, true, true⟩,
   ⟨0xA0, some 9, [(24, 8)], [], none, true, false⟩,
   ⟨0xA1, some 10, [(24, 12), (40, 12)], [], none, true, false⟩,
   ⟨0xA2, some 10, [(24, 8), (40, 8)], [], none, true, false⟩,
   ⟨0xA3, some 9, [], [], none, true, true⟩,
   ⟨0xA4, some 13, [(16, 3)], [(17, 0xE0), (18, 0xE0)], none, true, false⟩,
   ⟨0xA5, some 11, [(16, 3), (24, 8)], [], none, true, true⟩,
   ⟨0xA6, some 12, [(24, 13)], [], none, true, false⟩,
   ⟨0xA7, some 12, [], [], none, true, false⟩,
   ⟨0xA8, some 14, [(24, 8)], [], none, true, true⟩,
   ⟨0xB0, some 7, [(16, 2)], [], none, true, true⟩,
   ⟨0xC0, some 3, [(16, 1), (20, 12)], [], some 16, false, true⟩,
   ⟨0xC1, some 3, [(16, 2)], [], some 16, false, true⟩,
   ⟨0xD1, none, [(16, 2), (24, 20)], [(17, 0xF0)], some 16, false, true⟩,
   ⟨0xD2, none, [(16, 2)], [], none, false, true⟩]

/-- The row of an opcode; none where it is not assigned. -/
def specOf (op : Nat) : Option CmdSpec :=
  (sessionSpecs ++ memorySpecs ++ linkSpecs ++ deviceSpecs).find? (fun c => c.op == op)

/-- Body bytes 16 to 63 that are assigned. -/
def bodyHas (sp : CmdSpec) (b : Nat) : Bool := sp.body.any (fun p => decide (p.1 ≤ b) && decide (b < p.1 + p.2))

/-- Step 1 of R293 apart from the opcode: a reserved header or body field is not 0 (R290, R295). -/
def reservedSet (sp : CmdSpec) (e : Entry512) : Bool :=
  eb e 2 1 ≥ 4 || eb e 3 5 != 0 || (List.range 48).any (fun i => !bodyHas sp (16 + i) && eb e (16 + i) 1 != 0)
    || sp.resv.any (fun p => eb e p.1 1 &&& p.2 != 0)

/-! ### Running a command -/

/-- What a command sees: its entry, origin (R430), issuing instance, key, bus and buffer, and the rights its session gives it. -/
structure Ctx where
  e : Entry512
  origin : Nat
  inst : Nat
  ring : Nat
  pos : Nat
  key : Nat
  bus : Nat
  authed : Bool
  replay : Bool
  payload : List Byte
deriving DecidableEq, Repr

/-- What checks and effect of a command end in. -/
inductive CmdRes where
  | reject (code : Nat)
  | done (r : Ret)
  | later
deriving DecidableEq, Repr

/-- ORIGIN_ID (R430). -/
def originId (x : Ctx) : Nat := match x.origin with
  | 2 => x.inst
  | 4 => x.bus
  | _ => 0

/-- INSTANCE of a command's log entry (R436). DEDUCED: log entry 33. -/
def affected (sp : CmdSpec) (x : Ctx) : Nat :=
  match sp.inst with
  | some off => eb x.e off 1
  | none => if sp.device || decide (x.origin > 2) then 0xFF else x.inst

/-- The completion of a command. -/
def cplOf (x : Ctx) (r : Ret) : Cpl :=
  { tag := eb x.e 8 8, status := r.status, opcode := entryOp x.e, r0 := r.r0, r1 := r.r1, r2 := r.r2, r3 := r.r3, flags := r.flags,
    implicit := false, irq := bitOf (eb x.e 2 1) 0, key := some x.key, disp := none }

/-- A COMMAND entry (R436 kind 2). DEDUCED: log entry 39. -/
def logCmd (s : Dev) (x : Ctx) (inst : Nat) (c : Cpl) : Dev :=
  let body := ofLe (cplBody c)
  logAdd s x.origin (originId x) c.status 2
    (entryOp x.e + 2 ^ 16 * (x.ring % 2 ^ 16) + 2 ^ 32 * (x.pos % 2 ^ 32)) inst (eb x.e 16 40) (eb x.e 56 8 + 2 ^ 64 * bitsOf body 64 176)

/-- The completion goes to the command's ring, or back over the bus it came on (R431, R432). DEDUCED: log entry 39. -/
def answerCmd (s : Dev) (x : Ctx) (c : Cpl) (data : List Byte) : Dev :=
  if x.origin ≤ 2 then oweCpl (setPhase s x.key 2) (ringKey x.inst x.ring) c
  else
    let s := dropStore s x.key
    { s with out := s.out ++ [.reply x.origin x.bus (cplBody c ++ [0]) data] }

/-- A rejection: counted, always entered in the log, completed at once (R293). The boot ROM records accepted commands alone (R431).
DEDUCED: log entry 34. -/
def rejectCmd (s : Dev) (x : Ctx) (inst code : Nat) : Dev :=
  let s := bump s Reg.SES_CNT_REJECTS
  let s := if code = eAuth ∧ x.origin = 4 then bump s Reg.LOG_CNT_AUTH_FAILS else s
  let c := cplOf x { Ret.ok with status := code }
  answerCmd (if fget s RF.BRG_START_STATUS_RECOVERY = 1 then s else logCmd s x inst c) x c []

/-- An accepted command ends: its entry is formed before its completion (R438). Every step completion sends the ring's message (R292). -/
def endCmd (s : Dev) (sp : CmdSpec) (x : Ctx) (r : Ret) : Dev :=
  let c := cplOf x r
  let c := { c with irq := c.irq || sp.op == 0x12 }
  answerCmd (if sp.logged then logCmd s x (affected sp x) c else s) x c r.data

/-- An origin may make the changes of a permission row (R433, R434). -/
def permits (s : Dev) (row origin : Nat) : Bool := bitOf (fget s (RF.SEC_PERM_EFFECTIVE row)) (origin - 1)

/-- Steps 1 and 2 of R293, with the session that the sideband needs (R431). SB_ROOT_SET needs none while no root is set. DEDUCED: log entry 32. -/
def headCode (s : Dev) (sp : CmdSpec) (x : Ctx) : Nat :=
  if reservedSet sp x.e then eReserved
  else if x.origin = 3 ∧ sp.op ≠ 0x80 ∧ sp.op ≠ 0x81 then eOrigin
  else if (match sp.row with
    | some r => !permits s r x.origin
    | none => decide (x.origin > 2)) then eOrigin
  else if (match sp.inst with
    | some off => x.origin == 2 && eb x.e off 1 != x.inst
    | none => false) then eOrigin
  else if x.origin = 4 ∧ !x.authed ∧ !(sp.op = 0xA8 ∧ fget s RF.SEC_STATUS_SB_ROOT_VALID = 0) then eAuth
  else if sp.inst = some 16 ∧ eb x.e 16 1 > 32 then eArg
  else 0

/-- Step 6 where a command comes on a ring of an instance that is Resetting or in Error (R396, R416), or that replays (R328): replay accepts
management commands alone. DEDUCED: log entry 36. -/
def ringCode (s : Dev) (sp : CmdSpec) (x : Ctx) : Nat :=
  if x.origin > 2 then 0
  else if (insState s x.inst = 4 ∨ insState s x.inst = 5) ∧ x.inst ≠ 0 then eState
  else if jnlMode s x.inst = 2 ∧ !x.replay ∧ sp.op < 0x60 then eState
  else 0

/-- What stands behind a command operand: a ring command that the front end has read and not begun, with every earlier one of its ring begun,
and completed where FENCE asks for it (R290), while no journal holds the instance (R325); or one of the sideband or the fabric manager (R431, R432). -/
def ctxOf (op : Nat) (c : Cmd) (s : Dev) : Option Ctx :=
  if c.origin = 3 ∨ c.origin = 4 then
    let bus := if c.origin = 4 then c.bus % 2 else 0
    let x : Ctx := { e := c.entry, origin := c.origin, inst := 0, ring := 0, pos := 0, key := cmdKey (37 - c.origin) bus 0, bus := bus,
                     authed := c.authed, replay := false, payload := c.payload }
    if entryOp c.entry = op then some x else none
  else
    let key := cmdKey c.inst c.ring c.pos
    match storeAt s key with
    | none => none
    | some e =>
      let before := s.fe.store.filter (fun d => d.inst == e.inst && d.ring == e.ring && decide (d.pos < e.pos))
      if entryOp e.entry = op ∧ e.phase = 0 ∧ !jnlHeld s e.inst ∧ before.all (fun d => d.phase != 0) ∧ (!bitOf (eb e.entry 2 1) 1 ∨ before.isEmpty) then
        some { e := e.entry, origin := if e.inst = 0 then 1 else 2, inst := e.inst, ring := e.ring, pos := e.pos, key := key, bus := 0,
               authed := true, replay := e.replay, payload := [] }
      else none

/-- A command begins and does not end at once. One that came over sideband keeps its bus in place of a ring. -/
def beginCmd (s : Dev) (x : Ctx) : Dev :=
  if x.origin ≤ 2 then setPhase s x.key 1
  else { s with fe := { s.fe with store := s.fe.store ++ [⟨37 - x.origin, x.bus, 0, x.e, 1, false⟩] } }

/-- Run a command: the checks of R293 in order, then its own effect. Lines that its accesses find held outside the device are recalled, and
the command is sent again (`whole`). -/
def runCmd (s : Dev) (sp : CmdSpec) (x : Ctx) (f : Ctx → Dev → Dev × CmdRes) : Dev :=
  whole s (fun s =>
    if headCode s sp x ≠ 0 then rejectCmd s x (affected sp x) (headCode s sp x)
    else if ringCode s sp x ≠ 0 then rejectCmd s x (affected sp x) (ringCode s sp x)
    else match f x s with
      | (s, .reject code) => rejectCmd s x (affected sp x) code
      | (s, .done r) => endCmd s sp x r
      | (s, .later) => beginCmd s x)

/-- A command over sideband can run: at READY; under a device-fatal fault while the log is read (R496); in RECOVERY what the boot ROM serves
(R431); in HELD and STOPPED any command (R507, R525). DEDUCED: log entry 75. -/
def sidebandRuns (s : Dev) (op : Nat) : Bool :=
  if fget s RF.BRG_ERR_STATUS_FATAL = 1 then s.log.started && (op == 0xA1 || op == 0xA2)
  else if fget s RF.BRG_START_STATUS_RECOVERY = 1 then op == 0xA6 || (op == 0xA8 && fget s RF.SEC_STATUS_SB_ROOT_VALID == 0)
  else fget s RF.BRG_START_STATUS_STAGE == 7 || serving s

/-- A management bus answers: its always-on domain is powered (R525). DEDUCED: log entry 99. -/
def busOn (s : Dev) (bus : Nat) : Bool := if bus = 0 then s.start.primary else s.start.secondary

/-- Run a command that comes over sideband, one at a time on both buses (R431, R525). In RECOVERY no session is needed. DEDUCED: log entries 75, 99. -/
def runSideband (s : Dev) (sp : CmdSpec) (x : Ctx) (f : Ctx → Dev → Dev × CmdRes) : Dev :=
  if !busOn s x.bus then s
  else if s.fe.store.any (fun e => e.inst == 33) then
    (let c := cplOf x { Ret.ok with status := eBusy }
     let s := logCmd (bump s Reg.SES_CNT_REJECTS) x (affected sp x) c
     { s with out := s.out ++ [.reply 4 x.bus (cplBody c ++ [0]) []] })
  else if sidebandRuns s sp.op then
    runCmd s sp (if fget s RF.BRG_START_STATUS_RECOVERY = 1 then { x with authed := true } else x) f
  else rejectCmd s x (affected sp x) eState

/-- Run a command by its origin. Rings and the fabric manager's tunnel are served at READY, the fabric manager one command at a time.
DESIGN CHOICE: log entries 2, 5. -/
def command (op : Nat) (c : Cmd) (s : Dev) (f : Ctx → Dev → Dev × CmdRes) : Dev :=
  match specOf op, ctxOf op c s with
  | some sp, some x =>
    if x.origin = 4 then runSideband s sp x f
    else if !serving s || (storeAt s x.key).any (fun e => e.phase == 1) then s
    else runCmd s sp x f
  | _, _ => s

/-- The context of a command that was begun earlier. -/
def laterCtx (e : StoreEntry) : Ctx :=
  let own := decide (e.inst ≤ 32)
  { e := e.entry, origin := if e.inst = 0 then 1 else if own then 2 else 37 - e.inst, inst := if own then e.inst else 0,
    ring := if own then e.ring else 0, pos := e.pos, key := cmdKey e.inst e.ring e.pos, bus := if own then 0 else e.ring, authed := true,
    replay := e.replay, payload := [] }

/-- A command that was begun earlier ends. -/
def completeKey (s : Dev) (key : Nat) (r : Ret) : Dev :=
  match storeAt s key with
  | none => s
  | some e =>
    match specOf (entryOp e.entry) with
    | some sp => endCmd s sp (laterCtx e) r
    | none => s

/-- The first code of a list of checks, in order: each gives a code where its condition holds. DEDUCED: log entry 32. -/
def firstCode : List (Bool × Nat) → Nat
  | [] => 0
  | (b, c) :: t => if b then c else firstCode t

/-- Go on where no check fails. DEDUCED: log entry 31. -/
def afterChecks (s : Dev) (l : List (Bool × Nat)) (k : Dev × CmdRes) : Dev × CmdRes :=
  if firstCode l ≠ 0 then (s, .reject (firstCode l)) else k

/-- The result that a recorded completion entry carries. -/
def retOf (b : List Byte) : Ret :=
  let f := fun (o n : Nat) => ofLe ((b.drop o).take n)
  { status := f 8 2, r0 := f 12 4, r1 := f 16 8, r2 := f 24 4, r3 := f 28 2, flags := f 30 1, data := [] }

/-- What a replayed COLL_RUN or MCAST_SEND does (note n of R501): nothing goes to the fabric, and it completes with its recorded outcome, now where the
feed has brought it, else when it does. -/
def fromRecord (s : Dev) (x : Ctx) (k : Dev × CmdRes) : Dev × CmdRes :=
  if !x.replay then k
  else match (jnlOf s x.inst).expect.find? (fun y => y.kind == 7 && y.ring == x.ring
      && leBytes 8 (eb x.e 8 8) ++ leBytes 2 (entryOp x.e) == y.bytes.take 8 ++ (y.bytes.drop 10).take 2) with
    | some y => (s, .done (retOf y.bytes))
    | none => (s, .later)

/-- Step 6 for a named instance (R293, R396). DEDUCED: log entry 32. -/
def namedState (s : Dev) (i : Nat) : List (Bool × Nat) := [(insState s i == 0 || insState s i == 4, eState)]

end Sys2Proof.Machine
end

