-- ==== Sys2Proof/Machine/Flags.lean ====
section
/-!
DEFINITION. The sticky flags of a group (R178 to R180): every flag computation is part of the rounding functions of
Numbers.lean; this file merges them.
-/
namespace Sys2Proof.Machine

/-- OR flags into a group's sticky word (R178). -/
def raiseFlags (g : Group) (f : Flags) : Group := { g with flags := g.flags ||| f }

/-- The flags of several lane results together. -/
def orFlags (l : List Flags) : Flags := l.foldl (· ||| ·) 0

/-- The launch's flag field as its completion carries it: [5:0] with [7:6] reserved (R180). -/
def flagField (f : Flags) : Nat := f.toNat

end Sys2Proof.Machine
end

