-- ==== Sys2Proof/Machine/Transc.lean ====
section
/-!
DEFINITION. The exact transcendental functions of R99 and R100, evaluated in fixed point to 640 fractional bits and
rounded once to FP32.
DEDUCED: the spec gives the exact function rounded once; a cut-off of 2^-600 decides every FP32 rounding unless an exact
value lies closer than that to a rounding boundary, which no FP32 operand is known to do (notes/assumptions/6.md).
-/
namespace Sys2Proof.Machine

/-- Fractional bits of the fixed-point evaluation. -/
def fxP : Nat := 640

/-- One in fixed point. -/
def fxOne : Nat := 2 ^ fxP

/-- Alternating arctangent series of 1 / k with p fractional bits. -/
def atanInvAux (k2 : Nat) : Nat → Nat → Nat → Int
  | 0, _, _ => 0
  | fuel + 1, i, t => (t / (2 * i + 1) : Nat) - atanInvAux k2 fuel (i + 1) (t / k2)

/-- pi with p fractional bits by Machin's formula, with guard bits. -/
def piBits (p : Nat) : Nat :=
  let g := p + 40
  let a : Int := atanInvAux 25 (g / 4 + 8) 0 (2 ^ g / 5)
  let b : Int := atanInvAux 57121 (g / 15 + 8) 0 (2 ^ g / 239)
  (16 * a - 4 * b).toNat / 2 ^ 40

/-- Series of the inverse hyperbolic tangent: sum of z^(2i+1) / (2i+1). -/
def atanhAux (z2 : Nat) : Nat → Nat → Nat → Nat
  | 0, _, _ => 0
  | fuel + 1, i, t => t / (2 * i + 1) + atanhAux z2 fuel (i + 1) (t * z2 / fxOne)

/-- ln m in fixed point, m = n / d with 1 <= m < 2. DEDUCED: log entry 6. -/
def fxLn (n d : Nat) : Nat :=
  let z := (n - d) * fxOne / (n + d)
  2 * atanhAux (z * z / fxOne) 240 0 z

/-- ln 2. -/
def fxLn2 : Nat := fxLn 2 1

/-- Exponential series of r, 0 <= r < 1 in fixed point. -/
def expAux (r : Nat) : Nat → Nat → Nat → Nat
  | 0, _, _ => 0
  | fuel + 1, i, t => t + expAux r fuel (i + 1) (t * r / fxOne / (i + 1))

/-- e^r in fixed point. DEDUCED: log entry 6. -/
def fxExp (r : Nat) : Nat := expAux r 200 0 fxOne

/-- e^-r in fixed point for 0 <= r < 1 (the reciprocal of e^r). -/
def fxExpNeg (r : Nat) : Nat := fxOne * fxOne / fxExp r

/-- Alternating series shared by sine and cosine: t - t r2/((i+1)(i+2)) + ... -/
def trigAux (r2 : Nat) : Nat → Nat → Nat → Int
  | 0, _, _ => 0
  | fuel + 1, i, t => (t : Int) - trigAux r2 fuel (i + 2) (t * r2 / fxOne / ((i + 1) * (i + 2)))

/-- sin r in fixed point. DEDUCED: log entry 6. -/
def fxSin (r : Nat) : Nat := (trigAux (r * r / fxOne) 120 1 r).toNat

/-- cos r in fixed point. DEDUCED: log entry 6. -/
def fxCos (r : Nat) : Nat := (trigAux (r * r / fxOne) 120 0 fxOne).toNat

/-- A magnitude m * 2^e in fixed point with p fractional bits (bits below are dropped). -/
def toFx (p m : Nat) (e : Int) : Nat :=
  let u := e + p
  if u ≥ 0 then m * 2 ^ u.toNat else m / 2 ^ (-u).toNat

/-- Round a positive fixed-point value that is a cut-off of an irrational one. DEDUCED: log entry 6. -/
def roundFx (s : Bool) (v : Nat) : Nat × Flags :=
  if v = 0 then roundF fmtF32 .rne false s 1 (2 ^ 700) true
  else roundF fmtF32 .rne false s v fxOne true

/-- Quadrant and reduced argument of a magnitude m * 2^e in radians (exact reduction). -/
def trigReduce (m : Nat) (e : Int) : Nat × Nat :=
  let p := 840
  let halfPi := piBits p / 2
  let x := toFx p m e
  (x / halfPi % 4, x % halfPi / 2 ^ (p - fxP))

/-- SINF (R100). DEDUCED: log entry 6. -/
def sinF (a : FV) : Nat × Flags :=
  match a with
  | .nan => (fmtF32.canon, 0)
  | .inf _ => (fmtF32.canon, flNV)
  | .fin s m e =>
    if m = 0 then (zeroEnc fmtF32 s, 0)
    else
      let (q, r) := trigReduce m e
      let v := if q % 2 = 0 then fxSin r else fxCos r
      roundFx (s != decide (q ≥ 2)) v

/-- COSF (R100). DEDUCED: log entry 6. -/
def cosF (a : FV) : Nat × Flags :=
  match a with
  | .nan => (fmtF32.canon, 0)
  | .inf _ => (fmtF32.canon, flNV)
  | .fin _ m e =>
    if m = 0 then (0x3F800000, 0)
    else
      let (q, r) := trigReduce m e
      let v := if q % 2 = 0 then fxCos r else fxSin r
      roundFx (decide (q = 1 ∨ q = 2)) v

/-- EXP2F (R100). DEDUCED: log entry 6. -/
def exp2F (a : FV) : Nat × Flags :=
  match a with
  | .nan => (fmtF32.canon, 0)
  | .inf s => if s then (0, 0) else (infEnc fmtF32 false, 0)
  | .fin s m e =>
    if m = 0 then (0x3F800000, 0)
    else
      let (n, d) := dyRatio ⟨m, e⟩
      if n ≥ 400 * d then
        (if s then roundF fmtF32 .rne false false 1 (2 ^ 400) true else roundF fmtF32 .rne false false (2 ^ 400) 1 false)
      else
        let fl := n / d
        let exact := n % d == 0
        if exact then
          (if s then roundF fmtF32 .rne false false 1 (2 ^ fl) false
           else roundF fmtF32 .rne false false (2 ^ fl) 1 false)
        else
          let fr := (n % d) * fxOne / d
          if s then
            -- 2^-(fl + fr) = 2^-(fl + 1) * 2^(1 - fr)
            roundF fmtF32 .rne false false (fxExp ((fxOne - fr) * fxLn2 / fxOne)) (fxOne * 2 ^ (fl + 1)) true
          else roundF fmtF32 .rne false false (fxExp (fr * fxLn2 / fxOne) * 2 ^ fl) fxOne true

/-- LOG2F (R100). DEDUCED: log entry 6. -/
def log2F (a : FV) : Nat × Flags :=
  match a with
  | .nan => (fmtF32.canon, 0)
  | .inf s => if s then (fmtF32.canon, flNV) else (infEnc fmtF32 false, 0)
  | .fin s m e =>
    if m = 0 then (infEnc fmtF32 true, flDZ)
    else if s then (fmtF32.canon, flNV)
    else
      let lg := Nat.log2 m
      let k : Int := e + lg
      if m = 2 ^ lg then
        (if k = 0 then (0, 0) else roundF fmtF32 .rne false (k < 0) k.natAbs 1 false)
      else
        let frac := fxLn m (2 ^ lg) * fxOne / fxLn2
        let v : Int := k * (fxOne : Nat) + (frac : Nat)
        roundFx (v < 0) v.natAbs

/-- TANHF (R100). DEDUCED: log entry 6. -/
def tanhF (a : FV) : Nat × Flags :=
  match a with
  | .nan => (fmtF32.canon, 0)
  | .inf s => (if s then 0xBF800000 else 0x3F800000, 0)
  | .fin s m e =>
    if m = 0 then (zeroEnc fmtF32 s, 0)
    else
      let (n, d) := dyRatio ⟨m, e⟩
      if n ≥ 200 * d then roundF fmtF32 .rne false s (2 ^ 600 - 1) (2 ^ 600) true
      else
        let y := toFx fxP (2 * m) e
        let k := y / fxLn2
        let en := fxExpNeg (y % fxLn2) / 2 ^ k
        roundFx s ((fxOne - en) * fxOne / (fxOne + en))

end Sys2Proof.Machine
end

