-- ==== Sys2Proof/Machine/Vector.lean ====
section
/-!
DEFINITION. The effect of the register-only instructions on their group: integer (R95 to R97), floating vector (R98 to
R100), conversion (R102, R103), random numbers (R113), shuffle and vote (R72, R73, R110, R111) and SREAD (R92).
Each takes the participating lanes and answers the new group or the code of a precise fault.
-/
namespace Sys2Proof.Machine

/-- What a group-local instruction ends in: the new group, or a precise fault. -/
inductive GRes where
  | ok (g : Group)
  | fail (code : Nat)
deriving DecidableEq, Repr

/-- What the launch tells an instruction: REGS, group number, the core and island SREAD reads, whether it is a plain
LAUNCH, BATCH, the slot's session index, seed and step, the always-on count, and the cycle count (a free value). -/
structure VCtx where
  regs : Nat
  gno : Nat
  lcore : Nat
  plain : Bool
  batch : Nat
  session : Nat
  seed : Word64
  step : Nat
  tick : Nat
  cycle : Nat
  kvCount : Nat
deriving DecidableEq, Repr

/-- Apply an effect once the checks of steps 1 and 2 hold. -/
def checked (c : Ck) (g : Group) : GRes := if ckCode c ≠ 0 then .fail (ckCode c) else .ok g

/-! ### Integer (R95 to R97) -/

/-- TYPE. -/
def iType (w : Word64) : Nat := wMod w 21 3
/-- COND. -/
def iCond (w : Word64) : Nat := wMod w 18 3
/-- SELN. -/
def iSeln (w : Word64) : Bool := bitOf w.toNat 17
/-- DSEL of the integer and floating layouts. -/
def iDsel (w : Word64) : Bool := bitOf w.toNat 24
/-- Registers of an operand of the TYPE. -/
def iRegs (w : Word64) : Nat := if iType w ≥ 2 then 2 else 1
/-- Signed TYPE. -/
def iSigned (w : Word64) : Bool := iType w % 2 == 1

/-- An operand as an integer of the TYPE. -/
def iVal (signed : Bool) (width x : Nat) : Int := if signed then signedOf x width else (x % 2 ^ width : Nat)

/-- Leading zeros of the low width bits. -/
def lzc (width x : Nat) : Nat := if x % 2 ^ width = 0 then width else width - 1 - Nat.log2 (x % 2 ^ width)

/-- The comparisons of R95. -/
def icmp (cond : Nat) (a b : Int) : Bool :=
  match cond with
  | 0 => a = b
  | 1 => a ≠ b
  | 2 => a < b
  | 3 => a ≤ b
  | 4 => a > b
  | _ => a ≥ b

/-- The result of an integer instruction in one lane (R96): opcode, signedness, width, A, B, old destination. -/
def intResult (op : Nat) (signed : Bool) (width a b d : Nat) : Nat :=
  let sa := iVal signed width a
  let sb := iVal signed width b
  match op with
  | 0x00 => wrap (sa + sb) width
  | 0x01 => wrap (sa - sb) width
  | 0x02 => wrap (sa * sb) width
  | 0x03 => wrap (sa * sb / (2 ^ width : Nat)) width
  | 0x04 => wrap (sa * sb + (d : Nat)) width
  | 0x05 => if b % 2 ^ width = 0 then 2 ^ width - 1 else wrap (sa.tdiv sb) width
  | 0x06 => if b % 2 ^ width = 0 then a % 2 ^ width else wrap (sa.tmod sb) width
  | 0x07 => wrap (min sa sb) width
  | 0x08 => wrap (max sa sb) width
  | 0x09 => (a &&& b) % 2 ^ width
  | 0x0A => (a ||| b) % 2 ^ width
  | 0x0B => (a ^^^ b) % 2 ^ width
  | 0x0C => a * 2 ^ (b % width) % 2 ^ width
  | 0x0D => wrap (sa / (2 ^ (b % width) : Nat)) width
  | 0x10 => b % 2 ^ width
  | 0x11 => 2 ^ width - 1 - b % 2 ^ width
  | 0x12 => popcount width b
  | 0x13 => lzc width b
  | _ => 0

/-- True for the integer instructions whose source A is unused (R96). -/
def intNoA (op : Nat) : Bool := 0x10 ≤ op && op ≤ 0x13
/-- Registers of the result: CNT1 and LZC write 32 bits (R96, R97). -/
def intDstRegs (op : Nat) (w : Word64) : Nat := if op = 0x12 ∨ op = 0x13 then 1 else iRegs w

/-- Steps 1 and 2 for the integer class (R88, R94 to R96). -/
def intCk (op : Nat) (w second : Word64) (regs : Nat) : Ck :=
  ckAll [selCk w, modCk w 0x1FE0000, rsvIf (iType w > 3),
    (if op = 0x0E then ckAll [rsvIf (iCond w > 5), argIf (iDsel w || iSeln w), pCk w]
     else ckAll [argIf (op != 0x0F && (iCond w != 0 || iSeln w)), dCk w (intDstRegs op w) regs (iDsel w)]),
    (if intNoA op then noA w else aCk w (iRegs w) regs),
    bCk w second (iRegs w) regs]

/-- The lanes in which a test holds. -/
def laneTest (part : LaneMask) (p : Nat → Bool) : LaneMask := maskOf ((lanesOf part).filter p)

/-- Source value of A for an integer lane (0 where unused). -/
def intA (op : Nat) (g : Group) (w : Word64) (lane : Nat) : Nat := if intNoA op then 0 else srcA g w lane (iRegs w)

/-- Results of an integer instruction other than CMP and PICK, lane by lane. -/
def intVals (op : Nat) (w second : Word64) (g : Group) (part : LaneMask) : List (Nat × Nat) :=
  (lanesOf part).map (fun l => (l, intResult op (iSigned w) (32 * iRegs w) (intA op g w l) (srcB g w second l (iRegs w))
    (oldDst g w (iDsel w) l (iRegs w))))

/-- The effect of an integer instruction other than CMP and PICK. -/
def intGroup (op : Nat) (v : VCtx) (w second : Word64) (g : Group) (part : LaneMask) : GRes :=
  checked (intCk op w second v.regs)
    (writeDst g (iDsel w) (wDst w) (intDstRegs op w) (intVals op w second g part))

/-- The effect of CMP. -/
def cmpGroup (v : VCtx) (w second : Word64) (g : Group) (part : LaneMask) : GRes :=
  checked (intCk 0x0E w second v.regs)
    (writePred g (wDst w) part (laneTest part (fun l =>
      icmp (iCond w) (iVal (iSigned w) (32 * iRegs w) (srcA g w l (iRegs w)))
        (iVal (iSigned w) (32 * iRegs w) (srcB g w second l (iRegs w))))))

/-- The effect of PICK. -/
def pickGroup (v : VCtx) (w second : Word64) (g : Group) (part : LaneMask) : GRes :=
  checked (intCk 0x0F w second v.regs)
    (writeDst g (iDsel w) (wDst w) (iRegs w) ((lanesOf part).map (fun l =>
      (l, if ((predMask g (iCond w)).toNat.testBit l) != iSeln w then srcA g w l (iRegs w)
          else srcB g w second l (iRegs w)))))

/-! ### Floating vector (R98 to R100) -/

/-- FTYPE. -/
def fType (w : Word64) : Nat := wMod w 21 3
/-- Rounding mode of an arithmetic instruction, MOD[20:19]. -/
def fRm (w : Word64) : Rnd :=
  match wMod w 19 2 with
  | 0 => .rne | 1 => .rz | 2 => .ru | _ => .rd
/-- The format of an element of an FTYPE. -/
def fFmt (t : Nat) : Fmt :=
  match t with
  | 0 => fmtF32 | 1 => fmtF64 | 2 => fmtF16 | _ => fmtBF16
/-- Registers of an FTYPE operand. -/
def fRegs (w : Word64) : Nat := if fType w = 1 then 2 else 1
/-- Elements in an FTYPE operand. -/
def fElems (w : Word64) : Nat := if fType w ≥ 2 then 2 else 1

/-- ABS and then NEG on an element's encoding (R98). -/
def fMods (f : Fmt) (abs neg : Bool) (x : Nat) : Nat :=
  let s := 2 ^ (f.eb + f.mb)
  let y := if abs then x % s else x
  if neg then (if y / s % 2 = 1 then y % s else y % s + s) else y

/-- Source A of a floating instruction in one element, after ABSA and NEGA. -/
def fA (w : Word64) (f : Fmt) (x e : Nat) : Nat := fMods f (bitOf w.toNat 15) (bitOf w.toNat 17) (bitsOf x (f.width * e) f.width)
/-- Source B of a floating instruction in one element, after ABSB and NEGB. -/
def fB (w : Word64) (f : Fmt) (x e : Nat) : Nat := fMods f (bitOf w.toNat 14) (bitOf w.toNat 16) (bitsOf x (f.width * e) f.width)

/-- The result of a floating instruction on encodings (R99, R100). -/
def floatResult (op : Nat) (f : Fmt) (rm : Rnd) (a b d : Nat) : Nat × Flags :=
  match op with
  | 0x18 => addFV f rm (decodeF f a) (decodeF f b)
  | 0x19 => mulRound f rm (decodeF f a) (decodeF f b)
  | 0x1A => fmaRound f rm (decodeF f a) (decodeF f b) (decodeF f d)
  | 0x1B => (minmaxF f false (decodeF f a) (decodeF f b) a b, 0)
  | 0x1C => (minmaxF f true (decodeF f a) (decodeF f b) a b, 0)
  | 0x1E => rcpF f rm (decodeF f a)
  | 0x1F => sqrtF f rm (decodeF f a)
  | 0x20 => rsqF (decodeF f a)
  | 0x21 => exp2F (decodeF f a)
  | 0x22 => log2F (decodeF f a)
  | 0x23 => sinF (decodeF f a)
  | 0x24 => cosF (decodeF f a)
  | 0x25 => tanhF (decodeF f a)
  | _ => (0, 0)

/-- True for the floating instructions whose source B is unused (R99). -/
def floatNoB (op : Nat) : Bool := 0x1E ≤ op && op ≤ 0x25

/-- Steps 1 and 2 for the floating class (R94, R98, R99). -/
def floatCk (op : Nat) (w second : Word64) (regs : Nat) : Ck :=
  ckAll [selCk w, modCk w 0x1FFC000, rsvIf (fType w > 3),
    (if op = 0x1D then ckAll [argIf (fType w ≥ 2 || iDsel w), pCk w]
     else ckAll [rsvIf (bitOf w.toNat 18), dCk w (fRegs w) regs (iDsel w)]),
    argIf ((op == 0x1E || op == 0x1F) && fType w ≥ 2),
    argIf (op ≥ 0x20 && (fType w != 0 || wMod w 19 2 != 0)),
    aCk w (fRegs w) regs,
    (if floatNoB op then noB w else bCk w second (fRegs w) regs)]

/-- A floating result in one lane: every element, packed again. -/
def floatLane (op : Nat) (w : Word64) (a b d : Nat) : Nat × Flags :=
  let f := fFmt (fType w)
  let r0 := floatResult op f (fRm w) (fA w f a 0) (fB w f b 0) (bitsOf d 0 f.width)
  if fElems w = 2 then
    let r1 := floatResult op f (fRm w) (fA w f a 1) (fB w f b 1) (bitsOf d f.width f.width)
    (r0.1 + 2 ^ f.width * r1.1, r0.2 ||| r1.2)
  else r0

/-- Results and flags of a floating instruction, lane by lane. -/
def floatVals (op : Nat) (w second : Word64) (g : Group) (part : LaneMask) : List (Nat × Nat × Flags) :=
  (lanesOf part).map (fun l => (l, floatLane op w (srcA g w l (fRegs w))
    (if floatNoB op then 0 else srcB g w second l (fRegs w)) (oldDst g w (iDsel w) l (fRegs w))))

/-- The effect of a floating instruction other than CMPF. -/
def floatGroup (op : Nat) (v : VCtx) (w second : Word64) (g : Group) (part : LaneMask) : GRes :=
  let r := floatVals op w second g part
  checked (floatCk op w second v.regs)
    (raiseFlags (writeDst g (iDsel w) (wDst w) (fRegs w) (r.map (fun p => (p.1, p.2.1))))
      (orFlags (r.map (fun p => p.2.2))))

/-- The effect of CMPF; it raises no flag (R99). -/
def cmpfGroup (v : VCtx) (w second : Word64) (g : Group) (part : LaneMask) : GRes :=
  let f := fFmt (fType w)
  checked (floatCk 0x1D w second v.regs)
    (writePred g (wDst w) part (laneTest part (fun l =>
      cmpF (wMod w 18 3) (decodeF f (fA w f (srcA g w l (fRegs w)) 0)) (decodeF f (fB w f (srcB g w second l (fRegs w)) 0)))))

/-! ### Conversion (R102, R103) -/

/-- SFMT. -/
def xS (w : Word64) : Nat := wMod w 21 4
/-- DFMT. -/
def xD (w : Word64) : Nat := wMod w 17 4
/-- RM. -/
def xRm (w : Word64) : Nat := wMod w 15 2
/-- SEL. -/
def xSel (w : Word64) : Nat := wMod w 11 3
/-- DEL. -/
def xDel (w : Word64) : Nat := wMod w 8 3

/-- Steps 1 and 2 for XFMT. -/
def xfmtCk (w second : Word64) (regs : Nat) : Ck :=
  ckAll [selCk w, modCk w 0x1FFFF00, rsvIf (xS w > 11 || xD w > 11 || xRm w == 3),
    argIf ((xS w ≤ 11 && xSel w ≥ elemCount (xS w)) || (xD w ≤ 11 && xDel w ≥ elemCount (xD w))),
    aCk w (if xS w = 0 then 2 else 1) regs, gCk (wDst w) (if xD w = 0 then 2 else 1) regs,
    (if xRm w = 2 then bCk w second 1 regs else noB w)]

/-- The rounding mode of XFMT in a lane; SR draws with the thread index 32 * GROUP + LANE (R103). -/
def xfmtRnd (v : VCtx) (w second : Word64) (g : Group) (lane : Nat) : Rnd :=
  match xRm w with
  | 0 => .rne
  | 1 => .rz
  | _ => .sr (draw32 v.seed v.step (32 * v.gno + lane) (srcB g w second lane 1) 0)

/-- XFMT in one lane: the new destination and the flags. -/
def xfmtLane (v : VCtx) (w second : Word64) (g : Group) (lane : Nat) : Nat × Flags :=
  let k := if xD w = 0 then 2 else 1
  let x := bitsOf (srcA g w lane (if xS w = 0 then 2 else 1)) (elemWidth (xS w) * xSel w) (elemWidth (xS w))
  let r := convert (xS w) (xD w) (xfmtRnd v w second g lane) (bitOf w.toNat 14) x
  (setBits (readG g lane (wDst w) k) (elemWidth (xD w) * xDel w) (elemWidth (xD w)) r.1, r.2)

/-- The effect of XFMT. -/
def xfmtGroup (v : VCtx) (w second : Word64) (g : Group) (part : LaneMask) : GRes :=
  let r := (lanesOf part).map (fun l => (l, xfmtLane v w second g l))
  checked (xfmtCk w second v.regs)
    (raiseFlags (writeLanes g (wDst w) (if xD w = 0 then 2 else 1) (r.map (fun p => (p.1, p.2.1))))
      (orFlags (r.map (fun p => p.2.2))))

/-! ### Random numbers (R113) -/

/-- The shapes of R113. -/
def rndShape (shape draw : Nat) : Nat :=
  if shape = 0 then draw
  else if draw / 256 = 0 then 0
  else (roundF fmtF32 .rne false false (draw / 256) (2 ^ 24) false).1

/-- Steps 1 and 2 for RND. -/
def rndCk (w : Word64) (regs : Nat) : Ck :=
  ckAll [selCk w, modCk w 0x1C00000, rsvIf (wMod w 22 3 > 1), aCk w 1 regs, noB w, gCk (wDst w) 1 regs]

/-- The effect of RND. -/
def rndGroup (v : VCtx) (w _second : Word64) (g : Group) (part : LaneMask) : GRes :=
  checked (rndCk w v.regs)
    (writeLanes g (wDst w) 1 ((lanesOf part).map (fun l =>
      (l, rndShape (wMod w 22 3) (draw32 v.seed v.step (32 * v.gno + l) (srcA g w l 1) 0)))))

/-! ### Shuffle and vote (R73, R110, R111) -/

/-- The source lane of LXCH, if there is one in 0 to 31 (R73, R110). -/
def lxchSrc (mode lane b : Nat) : Option Nat :=
  match mode with
  | 0 => if b % 64 < 32 then some (b % 64) else none
  | 1 => if b % 64 ≤ lane then some (lane - b % 64) else none
  | 2 => if lane + b % 64 < 32 then some (lane + b % 64) else none
  | _ => some (lane ^^^ (b % 32))

/-- Steps 1 and 2 for LXCH. -/
def lxchCk (w second : Word64) (regs : Nat) : Ck :=
  let k := if bitOf w.toNat 22 then 2 else 1
  ckAll [selCk w, modCk w 0x1C00000, aCk w k regs, bCk w second 1 regs, gCk (wDst w) k regs]

/-- The effect of LXCH. A lane that does not participate reads as 0 (R72). -/
def lxchGroup (v : VCtx) (w second : Word64) (g : Group) (part : LaneMask) : GRes :=
  let k := if bitOf w.toNat 22 then 2 else 1
  checked (lxchCk w second v.regs)
    (writeLanes g (wDst w) k ((lanesOf part).map (fun l =>
      (l, match lxchSrc (wMod w 23 2) l (srcB g w second l 1) with
          | some j => if part.toNat.testBit j then srcA g w j k else 0
          | none => 0))))

/-- The lanes that participate and whose predicate operand holds (R73). -/
def tallyMask (w : Word64) (g : Group) (part : LaneMask) : LaneMask :=
  part &&& (if bitOf w.toNat 19 then ~~~(predMask g (wMod w 20 3)) else predMask g (wMod w 20 3))

/-- Steps 1 and 2 for TALLY. -/
def tallyCk (w : Word64) (regs : Nat) : Ck :=
  ckAll [selCk w, modCk w 0x1FC0000, rsvIf (wMod w 23 2 == 3), noA w, noB w,
    (if wMod w 23 2 = 2 then dCk w 1 regs (bitOf w.toNat 18) else ckAll [argIf (bitOf w.toNat 18), pCk w])]

/-- The effect of TALLY. -/
def tallyGroup (v : VCtx) (w _second : Word64) (g : Group) (part : LaneMask) : GRes :=
  let m := tallyMask w g part
  checked (tallyCk w v.regs)
    (if wMod w 23 2 = 2 then
      writeDst g (bitOf w.toNat 18) (wDst w) 1 ((lanesOf part).map (fun l => (l, m.toNat)))
     else writePred g (wDst w) part
      (if (if wMod w 23 2 = 0 then m != 0 else m == part) then 0xFFFFFFFF else 0))

/-! ### SREAD (R92) -/

/-- The value of a special register in a lane (R92). DEDUCED: log entry 106. -/
def sregVal (v : VCtx) (g : Group) (lane code : Nat) : Nat :=
  match code with
  | 0 => lane
  | 1 => v.gno % 2 ^ 32
  | 2 => v.lcore
  | 3 => v.lcore / 4
  | 4 => if v.plain then 0 else v.step % 2 ^ 32
  | 5 => v.seed.toNat % 2 ^ 32
  | 6 => v.seed.toNat / 2 ^ 32
  | 7 => if v.plain then 0xFFFFFFFF else v.session
  | 8 => g.slot
  | 9 => if v.plain then 1 else v.batch
  | 10 => v.tick % 2 ^ 32
  | 11 => v.tick / 2 ^ 32 % 2 ^ 32
  | 12 => v.cycle % 2 ^ 32
  | _ => if v.plain then 0 else v.step / 2 ^ 32 % 2 ^ 32

/-- Steps 1 and 2 for SREAD. -/
def sreadCk (w : Word64) (regs : Nat) : Ck :=
  ckAll [selCk w, modCk w 0x100001F, rsvIf (wMod w 0 5 > 13), noA w, noB w, dCk w 1 regs (iDsel w)]

/-- The effect of SREAD. -/
def sreadGroup (v : VCtx) (w _second : Word64) (g : Group) (part : LaneMask) : GRes :=
  checked (sreadCk w v.regs)
    (writeDst g (iDsel w) (wDst w) 1 ((lanesOf part).map (fun l => (l, sregVal v g l (wMod w 0 5)))))

/-! ### Session slot (R119, R120) -/

/-- Steps 1 and 2 for SSLOT: source B is a U register or an immediate. -/
def sslotCk (w second : Word64) : Ck :=
  ckAll [selCk w, modCk w 0, noA w, noD w, argIf (wBsel w == 0), bCk w second 1 256]

/-- The effect of SSLOT: a value of BATCH or above is E_ARG; in a plain LAUNCH only 0 is legal (R120, BATCH reads 1). -/
def sslotGroup (v : VCtx) (w second : Word64) (g : Group) (_part : LaneMask) : GRes :=
  let n := srcB g w second 0 1
  if ckCode (sslotCk w second) ≠ 0 then .fail (ckCode (sslotCk w second))
  else if n ≥ (if v.plain then 1 else v.batch) then .fail eArg
  else .ok { g with slot := n }

/-- Steps 1 and 2 for SPGN. -/
def spgnCk (w : Word64) (regs : Nat) : Ck :=
  ckAll [selCk w, modCk w 0, noA w, noB w, gCk (wDst w) 1 regs]

/-- The effect of SPGN; E_STATE in a plain LAUNCH (R120, R121 step 4). -/
def spgnGroup (v : VCtx) (w _second : Word64) (g : Group) (part : LaneMask) : GRes :=
  if ckCode (spgnCk w v.regs) ≠ 0 then .fail (ckCode (spgnCk w v.regs))
  else if v.plain then .fail eState
  else .ok (writeLanes g (wDst w) 1 ((lanesOf part).map (fun l => (l, v.kvCount))))

/-- The effect of NOP (R112): none, once its word passes steps 1 and 2. -/
def nopGroup (_v : VCtx) (w _second : Word64) (g : Group) (_part : LaneMask) : GRes :=
  checked (ckAll [selCk w, modCk w 0, noA w, noB w, noD w]) g

end Sys2Proof.Machine
end

