-- ==== Sys2Proof/Machine/Issue.lean ====
section
/-!
DEFINITION. Group issue (R64 to R72, R84, R91, R121): which lanes participate, precise faults, the path queue, ending of
groups and sets, and the one function through which every group instruction runs.
-/
namespace Sys2Proof.Machine

/-! ### The path queue (R66, R67) -/

/-- Let the front path run where none does. -/
def schedule (g : Group) : Group :=
  match g.run, g.queue with
  | none, p :: q => { g with run := some p, queue := q }
  | _, _ => g

/-- The running path joins the back of the queue and the front runs (R67 step 2). -/
def yieldPath (g : Group) : Group :=
  match g.run with
  | some p => schedule { g with run := none, queue := g.queue ++ [p] }
  | none => schedule g

/-- Progress of one instruction is forgotten: the next one begins afresh. -/
def freshInstr (g : Group) : Group :=
  { g with stall := .none, phase := 0, relSeq := 0, walks := [], faults := [], dead := none }

/-- The running path moves on by a number of bytes. -/
def advancePc (g : Group) (n : Nat) : Group :=
  { freshInstr g with run := g.run.map (fun p => { p with pc := (p.pc + n) % 2 ^ 64 }) }

/-! ### Ends of groups, sets and barriers -/

/-- Charge a fault to a group (R84). -/
def charge (g : Group) (code addr seq : Nat) : Group := { g with charges := g.charges ++ [⟨code, addr, seq⟩] }

/-- The group ends: no path, no record, no barrier arrival of its own (R71). -/
def endedGroup (g : Group) : Group :=
  { freshInstr g with run := none, queue := [], bars := [], recs := [], done := true, ended := 0xFFFFFFFF }

/-- Errors of the group's own asynchronous operations that no MXW or FYW delivered (R118, R130). -/
def undelivered (slots : Tbl AsyncSlot) (gno : Nat) : List Charge :=
  (slots.filter (fun p => p.2.group == gno && !p.2.busy && p.2.code != 0)).map (fun p => ⟨p.2.code, p.2.addr, p.2.seq⟩)

/-- Slots once a group's errors have been charged. -/
def clearErrors (slots : Tbl AsyncSlot) (gno : Nat) : Tbl AsyncSlot :=
  slots.filter (fun p => !(p.2.group == gno && !p.2.busy))

/-- True where every group of a set has ended and none of its asynchronous operations is in flight (R58). -/
def setFinished (c : Core) (set : Nat) : Bool :=
  c.groups.all (fun p => p.2.set != set || p.2.done)
  && c.tokens.all (fun p => p.2.set != set || !p.2.busy)
  && c.handles.all (fun p => p.2.set != set || !p.2.busy)

/-- SET_RELEASE (R58): the set's group slots, registers and local-store slot become free together. -/
def releaseSet (c : Core) (set : Nat) : Core :=
  if setFinished c set then { c with sets := tmod c.sets set (fun x => { x with resident := false }) } else c

/-- True where a group stands at barrier b: every thread that has not ended waits at a BAR naming b (R70). -/
def atBarrier (g : Group) (b : Nat) : Bool :=
  g.done || (g.run.isNone && g.queue.isEmpty && !g.bars.isEmpty && g.bars.all (fun p => p.1 == b)
    && g.recs.all (fun r => r.waiting == 0))

/-- Paths that waited at a barrier resume separately (R70). -/
def leaveBarrier (g : Group) : Group := schedule { g with queue := g.queue ++ g.bars.map (·.2), bars := [] }

/-- BARRIER_COMPLETE (R70): when every group of the set has arrived at b or ended, its waiting paths resume. -/
def completeBarrier (c : Core) (set b : Nat) : Core :=
  if c.groups.all (fun p => p.2.set != set || atBarrier p.2 b) then
    { c with groups := tmap c.groups (fun _ g => if g.set = set ∧ !g.done then leaveBarrier g else g) }
  else c

/-- After a group of a set ended: barriers it no longer holds up complete, and the set may release. -/
def afterGroupEnd (c : Core) (set : Nat) : Core :=
  releaseSet ((List.range 16).foldl (fun c b =>
    if c.groups.any (fun p => p.2.set == set && !p.2.done && p.2.bars.any (fun q => q.1 == b))
    then completeBarrier c set b else c) c) set

/-- End a group on its core: undelivered errors are charged and its set moves on. -/
def endGroup (c : Core) (gno : Nat) (g : Group) : Core :=
  let g := { g with charges := g.charges ++ undelivered c.tokens gno ++ undelivered c.handles gno }
  afterGroupEnd
    { c with groups := tset c.groups gno (endedGroup g), tokens := clearErrors c.tokens gno,
             handles := clearErrors c.handles gno, sbWait := c.sbWait.filter (· != gno),
             mxHold := c.mxHold.filter (· != gno),
             rbuf := c.rbuf.filter (fun r => r.tag != 64 + gno), abuf := c.abuf.filter (fun r => r.group != gno) } g.set

/-! ### Convergence (R69) -/

/-- A record is complete when every thread of its mask waits at the join; ended threads have left the mask. DEDUCED: log entry 19. -/
def recComplete (r : ConvRec) : Bool := r.mask &&& ~~~r.waiting == 0

/-- CONVERGENCE_RECORD_COMPLETE without an arriving path: complete records are popped and their waiting threads join the
back of the queue after the JOIN. DEDUCED: log entry 19. -/
def popComplete (g : Group) : Group :=
  { g with recs := g.recs.filter (fun r => !recComplete r),
           queue := g.queue ++ (g.recs.filter (fun r => recComplete r && r.waiting != 0)).map
             (fun r => ⟨(r.addr + 8) % 2 ^ 64, r.waiting⟩) }

/-- Threads end: they leave the running path and every record (R69, R71). -/
def endThreads (g : Group) (m : LaneMask) : Group :=
  let left := g.run.map (fun p => { p with mask := p.mask &&& ~~~m })
  let g := { g with ended := g.ended ||| m,
                    run := left.filter (fun p => p.mask != 0),
                    recs := g.recs.map (fun r => { r with mask := r.mask &&& ~~~m, waiting := r.waiting &&& ~~~m }) }
  schedule (popComplete g)

/-! ### Running one instruction -/

/-- What an instruction sees: its group, path, participating lanes, core and dispatch. -/
structure Env where
  core : Nat
  gno : Nat
  w : Word64
  second : Word64
  part : LaneMask
  path : Path
  g : Group
  c : Core
  d : Dispatch
deriving DecidableEq, Repr

/-- The slot a group stands in. -/
def slotOf (d : Dispatch) (n : Nat) : SlotInfo := d.slots.getD n ⟨0, 0, 0, 0, 0, 0, 0, 0, 0⟩

/-- The core number that SREAD reads (R92, R310). -/
def canonCore (d : Dispatch) (core : Nat) : Nat :=
  d.canon.getD (d.cores.idxOf core) core

/-- What the launch tells an instruction of a group. -/
def vctxOf (s : Dev) (core gno : Nat) (d : Dispatch) (g : Group) : VCtx :=
  let sl := slotOf d g.slot
  { regs := d.shape.regs, gno := gno, lcore := canonCore d core, plain := d.plain, batch := d.slots.length,
    session := sl.session, seed := if d.plain then d.seed else sl.seed, step := if d.plain then 0 else sl.step,
    tick := s.time.base, cycle := Config.cycleCount s.free, kvCount := sl.kvCount }

/-- The environment of an issue: the core runs a dispatch, the group is resident and not ended, a path runs, and no
translation the path waits for is outstanding. DEDUCED: log entry 106. -/
def envOf (s : Dev) (i : Issue) : Option Env :=
  let c := coreOf s i.core
  match c.disp with
  | none => none
  | some dn =>
    match tget s.disp dn, tget c.groups i.group with
    | some d, some g =>
      (match g.run with
       | some p =>
         if g.done || !g.walks.isEmpty || g.faults.any (fun f => f.verdict.isNone) then none
         else some { core := i.core, gno := i.group, w := i.w, second := i.second,
                     part := p.mask &&& guardMask g i.w, path := p, g := g, c := c, d := d }
       | none => none)
    | _, _ => none

/-- Replace the group of an environment. -/
def putGroup (s : Dev) (e : Env) (g : Group) : Dev :=
  modCore s e.core (fun c => { c with groups := tset c.groups e.gno g })

/-- The place of the next instruction in the core's issue order. -/
def nextSeq (s : Dev) (core : Nat) : Nat := (coreOf s core).seq

/-- Count an issue in the core's order. -/
def tickSeq (s : Dev) (core : Nat) : Dev := modCore s core (fun c => { c with seq := c.seq + 1 })

/-- A precise fault (R84): nothing is written, the group ends at the instruction. Those of poisoned data are counted (R498). -/
def preciseFault (s : Dev) (e : Env) (code : Nat) : Dev :=
  let s := if code = ePoison ∨ code = eUncorr then bump s Reg.BRG_CNT_POISON_FAULTS else s
  let s := traceCore s 1 0 e.core e.path.pc e.gno code 0
  modCore s e.core (fun c => endGroup { c with seq := c.seq + 1 } e.gno (charge e.g code e.path.pc c.seq))

/-- The instruction completes: the group's new state, the path past the instruction. -/
def complete (s : Dev) (e : Env) (g : Group) : Dev := tickSeq (putGroup s e (advancePc g (wLen e.w))) e.core

/-- The instruction does not move on, for a reason; it is issued again later. DESIGN CHOICE: log entry 5. -/
def stallAt (s : Dev) (e : Env) (r : Stall) : Dev := putGroup s e { e.g with stall := r }

/-- The code that a failed verdict gives: that of the record that stalls the lowest lane or byte (R278). -/
def failedVerdict (fs : List FaultWait) : Option Nat :=
  let failed := fs.filter (fun f => f.verdict.getD 0 != 0)
  match failed with
  | [] => none
  | f :: t => some ((t.foldl (fun (b : FaultWait) x => if x.key < b.key then x else b) f).verdict.getD 0)

/-- A verdict or a departed target has ended the access of the instruction in progress. -/
def pendingEnd (g : Group) : Option Nat := if g.dead.isSome then g.dead else failedVerdict g.faults

/-- Run one group instruction of a row with major opcode `op`: fetch outcome (R121 steps 6 and 7), reserved opcodes (R93),
the guard (R72, R91), and then its own effect. A word whose opcode is another row's is not this row's command.
DESIGN CHOICE: log entry 2. DEDUCED: log entry 18. -/
def issue (op : Nat) (always : Bool) (i : Issue) (s : Dev) (body : Env → Dev → Dev) : Dev :=
  match envOf s i with
  | none => s
  | some e =>
    if i.fetch ≠ 0 then preciseFault s e i.fetch
    else if !opAssigned (wOp i.w) then (if e.part = 0 then complete s e e.g else preciseFault s e eReserved)
    else if wOp i.w ≠ op then s
    else match pendingEnd e.g with
      | some code => preciseFault s e code
      | none =>
        if e.part = 0 ∧ !always then complete s e e.g
        else if i.sram = .uncorrectable then
          bump (preciseFault s e eUncorr) Reg.BRG_CNT_SRAM_UNCORR
        else body e (if i.sram = .corrected then bump s Reg.BRG_CNT_SRAM_CORRECTED else s)

/-- A group-local instruction: its result or its precise fault. -/
def runLocal (f : VCtx → Word64 → Word64 → Group → LaneMask → GRes) (e : Env) (s : Dev) : Dev :=
  match f (vctxOf s e.core e.gno e.d e.g) e.w e.second e.g e.part with
  | .ok g => complete s e g
  | .fail code => preciseFault s e code

end Sys2Proof.Machine
end

