-- ==== Sys2Proof/Machine/Control.lean ====
section
/-!
DEFINITION. Control instructions (R66 to R71, R112): branches, calls, convergence, barriers and END.
-/
namespace Sys2Proof.Machine

/-- Steps 1 and 2 of a branch with a 24-bit offset (R112). -/
def branchCk (w : Word64) : Ck := ckAll [selCk w, modCk w 0xFFFFFF, noA w, noB w]

/-- Address a branch offset names (R112). -/
def branchTarget (w : Word64) (pc : Nat) : Nat := wrap ((pc : Int) + 8 * wBranch w) 64

/-- The running path branches to one target in the participating lanes (R66, R67). -/
def takeBranch (g : Group) (p : Path) (part : LaneMask) (next target : Nat) : Group :=
  let g := freshInstr g
  let rest := p.mask &&& ~~~part
  if rest = 0 then
    let g := { g with run := some ⟨target, p.mask⟩ }
    if target ≤ p.pc then yieldPath g else g
  else { g with run := some ⟨next, rest⟩, queue := g.queue ++ [⟨target, part⟩] }

/-- The running path branches to per-lane targets: one path per distinct target, rising (R66, R67). -/
def takeIndirect (g : Group) (p : Path) (part : LaneMask) (next : Nat) (tgt : Nat → Nat) : Group :=
  let g := freshInstr g
  let rest := p.mask &&& ~~~part
  let ts := (lanesOf part).foldl (fun l i => insertNat (tgt i) l) []
  let paths := ts.map (fun t => (⟨t, laneTest part (fun i => tgt i == t)⟩ : Path))
  if rest = 0 then
    match paths with
    | [q] => yieldPath { g with run := some q }
    | q :: others => { g with run := some q, queue := g.queue ++ others }
    | [] => g
  else { g with run := some ⟨next, rest⟩, queue := g.queue ++ paths }

/-- Fail with a code or go on. -/
def orFail (s : Dev) (e : Env) (c : Ck) (k : Dev) : Dev :=
  if ckCode c ≠ 0 then preciseFault s e (ckCode c) else k

/-- JMP (R112). -/
def execJmp (i : Issue) (s : State) : Host.Outcome State Fault Refusal :=
  perform s (fun s => issue 0x48 false i s (fun e s =>
    orFail s e (ckAll [branchCk e.w, noD e.w])
      (tickSeq (putGroup s e (takeBranch e.g e.path e.part (e.path.pc + 8) (branchTarget e.w e.path.pc))) e.core)))

/-- JMPR (R112). -/
def execJmpr (i : Issue) (s : State) : Host.Outcome State Fault Refusal :=
  perform s (fun s => issue 0x49 false i s (fun e s =>
    orFail s e (ckAll [selCk e.w, modCk e.w 0, aCk e.w 2 e.d.shape.regs, noB e.w, noD e.w])
      (if (lanesOf e.part).any (fun l => srcA e.g e.w l 2 % 8 != 0) then preciseFault s e eAlign
       else tickSeq (putGroup s e (takeIndirect e.g e.path e.part (e.path.pc + 8) (fun l => srcA e.g e.w l 2))) e.core)))

/-- CALL (R112): the return address, then as JMP. -/
def execCall (i : Issue) (s : State) : Host.Outcome State Fault Refusal :=
  perform s (fun s => issue 0x4A false i s (fun e s =>
    orFail s e (ckAll [branchCk e.w, gCk (wDst e.w) 2 e.d.shape.regs])
      (tickSeq (putGroup s e (takeBranch
        (writeLanes e.g (wDst e.w) 2 ((lanesOf e.part).map (fun l => (l, (e.path.pc + 8) % 2 ^ 64))))
        e.path e.part (e.path.pc + 8) (branchTarget e.w e.path.pc))) e.core)))

/-- CONV (R69): the guard must be always (R91); a full stack is E_NOSPACE (R121 step 8). DEDUCED: log entry 19. -/
def execConv (i : Issue) (s : State) : Host.Outcome State Fault Refusal :=
  perform s (fun s => issue 0x4B true i s (fun e s =>
    orFail s e (ckAll [branchCk e.w, noD e.w, argIf (!alwaysGuard e.w)])
      (if e.g.recs.length ≥ 32 then preciseFault s e eNoSpace
       else complete s e { e.g with recs := ⟨branchTarget e.w e.path.pc, e.path.mask, 0⟩ :: e.g.recs })))

/-- The effect of JOIN on its group (R69). DEDUCED: log entry 19. -/
def joinGroup (g : Group) (p : Path) : Group :=
  match g.recs with
  | [] => advancePc g 8
  | r :: rs =>
    let w := p.mask &&& r.mask
    let rest := p.mask &&& ~~~r.mask
    if r.addr ≠ p.pc ∨ w = 0 then advancePc g 8
    else
      let r' := { r with waiting := r.waiting ||| w }
      let restPath : List Path := if rest = 0 then [] else [⟨(p.pc + 8) % 2 ^ 64, rest⟩]
      let g := freshInstr g
      if recComplete r' then
        { g with recs := rs, run := some ⟨(p.pc + 8) % 2 ^ 64, r'.waiting⟩, queue := g.queue ++ restPath }
      else schedule { g with recs := r' :: rs, run := none, queue := g.queue ++ restPath }

/-- JOIN (R69). -/
def execJoin (i : Issue) (s : State) : Host.Outcome State Fault Refusal :=
  perform s (fun s => issue 0x4C true i s (fun e s =>
    orFail s e (ckAll [selCk e.w, modCk e.w 0, noA e.w, noB e.w, noD e.w, argIf (!alwaysGuard e.w)])
      (tickSeq (putGroup s e (joinGroup e.g e.path)) e.core)))

/-- Barriers at which a group's paths wait may complete after a change of the group. -/
def settleBarriers (c : Core) (gno : Nat) : Core :=
  match tget c.groups gno with
  | some g => (match g.bars with
    | (b, _) :: _ => if atBarrier g b then completeBarrier c g.set b else c
    | [] => c)
  | none => c

/-- True while a store of the group that bypassed the L1 waits for acceptance (R187, R188). -/
def ownStoresPending (c : Core) (gno : Nat) : Bool := c.wb.any (fun w => w.group == gno)

/-- BAR (R70, R193): a core-scope release on arrival, then the path waits; the last arrival completes the barrier. -/
def execBar (i : Issue) (s : State) : Host.Outcome State Fault Refusal :=
  perform s (fun s => issue 0x3E true i s (fun e s =>
    orFail s e (ckAll [selCk e.w, modCk e.w 0xF, noA e.w, noB e.w, noD e.w, argIf (!alwaysGuard e.w)])
      (if ownStoresPending e.c e.gno then stallAt s e .release
       else
        let g := { freshInstr e.g with
          run := none, bars := e.g.bars ++ [(wMod e.w 0 4, ⟨(e.path.pc + 8) % 2 ^ 64, e.path.mask⟩)] }
        modCore (tickSeq (putGroup s e (schedule g)) e.core) e.core (fun c => settleBarriers c e.gno))))

/-- END (R71): the participating threads end; the group ends when all have. -/
def execEndOp (i : Issue) (s : State) : Host.Outcome State Fault Refusal :=
  perform s (fun s => issue 0x4D false i s (fun e s =>
    orFail s e (ckAll [selCk e.w, modCk e.w 0, noA e.w, noB e.w, noD e.w])
      (let g := endThreads (advancePc e.g 8) e.part
       tickSeq (modCore s e.core (fun c =>
         if g.ended = 0xFFFFFFFF then endGroup c e.gno g
         else settleBarriers { c with groups := tset c.groups e.gno g } e.gno)) e.core)))

end Sys2Proof.Machine
end

