-- ==== Sys2Proof/Machine/LoadStore.lean ====
section
/-!
DEFINITION. Loads, stores, atomics, cache range operations, fences and session access (R104 to R109, R119, R120), with the
ordering of R188 to R194 and the scoreboard check of R81.
-/
namespace Sys2Proof.Machine

/-! ### Translation of the lanes of an instruction (step 6 of R121) -/

/-- Insert a page to be walked, once. -/
def addWalk (l : List Walk) (w : Walk) : List Walk := if l.any (fun x => x.va / 4096 == w.va / 4096) then l else l ++ [w]

/-- Locations of lane accesses, or the state in which the group waits for walks or has ended with E_XLATE_FAULT. -/
def lanesTranslate (s : Dev) (e : Env) (access : Nat) (l : List (Nat × Nat)) : Dev × Option (List (Nat × Nat × Nat)) :=
  match l.find? (fun p => !canonical p.2) with
  | some p => (preciseFault (openTerminal s e.d.inst e.core 1 access p.2) e eXlateFault, none)
  | none =>
    let find := fun (va : Nat) => tlbFind (coreOf s e.core) 1 e.d.inst va access
    let missing := l.filter (fun p => (find p.2).isNone)
    if missing.isEmpty then
      (s, some (l.filterMap (fun p => (find p.2).map (fun t => (p.1, p.2, t.at p.2)))))
    else
      (putGroup s e { e.g with stall := .walk,
                               walks := missing.foldl (fun ws p => addWalk ws ⟨p.2, p.1, access, 1⟩) [] }, none)

/-! ### The range scoreboard (R81) -/

/-- Two ranges overlap. -/
def overlaps (a n b m : Nat) : Bool := decide (a < b + m) && decide (b < a + n)

/-- An access conflicts with an entry of the scoreboard in the same space. -/
def sbBlocks (c : Core) (lsSet : Option Nat) (base len : Nat) (write : Bool) : Bool :=
  c.sb.any (fun x => x.lsSet == lsSet && overlaps base len x.base x.len && (write || x.write))

/-! ### Requests of a group -/

/-- Tag of a group's requests. -/
def groupTag (gno : Nat) : Nat := 64 + gno

/-- Send a request unless the same one is on its way. -/
def sendReq (s : Dev) (core tag sec : Nat) (kind : ReqKind) : Dev :=
  if s.net.any (fun p => p.2.core == core && p.2.sec == sec && p.2.kind == kind && (kind == .fill || p.2.tag == tag)) then s
  else { s with net := tset s.net s.nextReq ⟨core, tag, sec, kind, false⟩, nextReq := s.nextReq + 1 }

/-- Data kept for a tag. -/
def bufFind (c : Core) (tag sec : Nat) : Option ReadBuf := c.rbuf.find? (fun r => r.tag == tag && r.sec == sec)

/-- Forget what was kept for a tag. -/
def bufClear (s : Dev) (core tag : Nat) : Dev := modCore s core (fun c => { c with rbuf := c.rbuf.filter (fun r => r.tag != tag) })

/-- Data and code of a sector for a group: from the L1, or as read past it. None where it is not there yet. -/
def sectorFor (c : Core) (gno : Nat) (past : Bool) (sec : Nat) (mask : BitVec 32) : Option (BitVec 256 × Nat) :=
  match bufFind c (groupTag gno) sec with
  | some r => some (r.data, r.code)
  | none =>
    if past && !l1Holds c sec then none
    else if l1Has c sec mask then (tget c.l1 sec).map (fun x => (x.data, l1Code c sec))
    else none

/-- Width in bytes of a WIDTH field. -/
def widthOf (f : Nat) : Nat := 2 ^ f

/-- Registers of a width (R105). -/
def regsOfWidth (n : Nat) : Nat := if n ≤ 4 then 1 else n / 4

/-- Sign extension of a loaded value (R104). -/
def extend (sx : Bool) (width v : Nat) : Nat :=
  if sx && width ≤ 2 then wrap (signedOf v (8 * width)) 32 else v

/-- An uncorrectable sector of the L1 under the first lane (R480). DESIGN CHOICE: log entry 7. -/
def l1Trouble (s : Dev) (e : Env) (sram : Sram) (locs : List (Nat × Nat × Nat)) : Dev :=
  match sram, locs with
  | .l1, (_, _, loc) :: _ =>
    let (v, s) := takeFree s
    let (c, dirty) := l1Bad (coreOf s e.core) (loc / 32) (BitVec.ofNat 256 v)
    let s := setCore s e.core c
    if dirty then bump s Reg.BRG_CNT_SRAM_UNCORR else bump s Reg.BRG_CNT_SRAM_CORRECTED
  | _, _ => s

/-- A load of lanes at locations: the values once every sector is there, a precise fault of poisoned data, or a wait. `past`
reads sectors that the L1 does not hold past it; `atHome` reads every sector past it (R187, R190). -/
def loadLanes (s : Dev) (e : Env) (past atHome : Bool) (width : Nat) (locs : List (Nat × Nat × Nat))
    (k : Dev → List (Nat × Nat) → Dev) : Dev :=
  let c := coreOf s e.core
  let mask := fun (loc : Nat) => byteSpan (loc % 32) width
  let look := fun (loc : Nat) =>
    if atHome then (bufFind c (groupTag e.gno) (loc / 32)).map (fun r => (r.data, r.code))
    else sectorFor c e.gno past (loc / 32) (mask loc)
  let missing := locs.filter (fun p => (look p.2.2).isNone)
  if missing.isEmpty then
    let got := locs.filterMap (fun p => (look p.2.2).map (fun d => (p.1, p.2.2, d)))
    match got.find? (fun g => g.2.2.2 != 0) with
    | some g =>
      let s := modCore (bufClear s e.core (groupTag e.gno)) e.core (fun c => l1Seen c (g.2.1 / 32))
      preciseFault s e g.2.2.2
    | none => k (bufClear s e.core (groupTag e.gno))
        (got.map (fun g => (g.1, bitsOf g.2.2.1.toNat (8 * (g.2.1 % 32)) (8 * width))))
  else
    let s := if atHome then modCore s e.core (fun c => missing.foldl (fun c p => l1Push c (p.2.2 / 32)) c) else s
    let s := missing.foldl (fun s p =>
      let sec := p.2.2 / 32
      sendReq s e.core (groupTag e.gno) sec (if atHome || (past && !l1Holds (coreOf s e.core) sec) then .read else .fill)) s
    stallAt s e .response

/-- Stores of lanes in increasing order (R77): into the L1, or with HINT 2 past it where it does not hold the sector (R187). -/
def storeLanes (c : Core) (gno width : Nat) (past : Bool) (locs : List (Nat × Nat × Nat)) (val : Nat → Nat) : Core :=
  locs.foldl (fun c p =>
    let sec := p.2.2 / 32
    let off := p.2.2 % 32
    let mask := byteSpan off width
    let data := BitVec.ofNat 256 (val p.1 % 2 ^ (8 * width) * 2 ^ (8 * off))
    if past && !l1Holds c sec then { c with wb := c.wb ++ [⟨sec, data, mask, false, none, gno, c.seq, none⟩] }
    else l1Store c sec mask data true) c

/-- Ordered stores of lanes: written through, with no dirty byte left in the L1 (R190). DEDUCED: log entry 27. -/
def storeThrough (c : Core) (gno width : Nat) (locs : List (Nat × Nat × Nat)) (val : Nat → Nat) : Core :=
  locs.foldl (fun c p =>
    let sec := p.2.2 / 32
    let off := p.2.2 % 32
    let mask := byteSpan off width
    let data := BitVec.ofNat 256 (val p.1 % 2 ^ (8 * width) * 2 ^ (8 * off))
    let c := if l1Holds c sec then l1Store c sec mask data false else c
    { c with wb := c.wb ++ [⟨sec, data, mask, false, none, gno, c.seq, none⟩] }) c

/-! ### Release and acquire (R188, R189) -/

/-- A line of this device's slices waits for ownership: of a peer, or of the host. -/
def pendingLine (s : Dev) (host : Bool) : Bool :=
  s.shore.lines.any (fun p => p.2.hold == .pending && (match placeOf s p.1 with
    | .host => host
    | .member _ => !host
    | _ => false))

/-- A release begun at a place of the core's issue order has completed at its scope (R188). DEDUCED: log entry 27. -/
def releaseReady (s : Dev) (core gno relSeq scope : Nat) : Bool :=
  let c := coreOf s core
  if scope ≤ 1 then !ownStoresPending c gno
  else c.wb.all (fun w => decide (relSeq ≤ w.seq)) && c.sb.all (fun x => decide (relSeq ≤ x.seq))
    && (decide (scope ≤ 3) || !pendingLine s false) && (decide (scope ≤ 4) || !pendingLine s true)

/-- Wait for a release before going on: the first time the dirty sectors of the core are pushed. -/
def afterRelease (s : Dev) (e : Env) (scope : Nat) (k : Dev → Env → Dev) : Dev :=
  let go := fun (s : Dev) (e : Env) =>
    if releaseReady s e.core e.gno e.g.relSeq scope then k s e else stallAt s e .release
  if e.g.phase = 0 then
    let c := coreOf s e.core
    let c := if scope ≥ 2 then l1PushAll c else c
    let g := { e.g with phase := 1, relSeq := c.seq + 1 }
    let s := setCore s e.core { c with seq := c.seq + 1, groups := tset c.groups e.gno g }
    go s { e with g := g }
  else go s e

/-- An acquire (R189). -/
def acquire (s : Dev) (core scope : Nat) : Dev := if scope ≥ 2 then modCore s core l1Acquire else s

/-! ### Fields and checks of the memory class (R104, R105) -/

/-- WIDTH in bytes. -/
def mWidth (w : Word64) : Nat := widthOf (wMod w 22 3)
/-- ORD. -/
def mOrd (w : Word64) : Nat := wMod w 19 2
/-- SCOPE. -/
def mScope (w : Word64) : Nat := wMod w 16 3
/-- HINT. -/
def mHint (w : Word64) : Nat := wMod w 14 2
/-- SX. -/
def mSx (w : Word64) : Bool := bitOf w.toNat 21

/-- Steps 1 and 2 for RDG, WRG, RDL and WRL (R104, R105). DEDUCED: log entry 16. -/
def memCk (w second : Word64) (regs : Nat) (load isGlobal : Bool) : Ck :=
  let k := regsOfWidth (mWidth w)
  ckAll [selCk w, rsvIf (wMod w 22 3 ≥ 5 || mOrd w == 3 || mScope w ≥ 6 || mHint w == 3),
    argIf (mSx w && !(load && wMod w 22 3 ≤ 1)), argIf (mOrd w == (if load then 2 else 1)),
    argIf (mOrd w == 0 && mScope w != 0), argIf (!isGlobal && (mHint w != 0 || mScope w > 1)),
    aCk w (if isGlobal then 2 else 1) regs,
    if load then ckAll [noB w, gCk (wDst w) k regs] else ckAll [argIf (wDst w != 0), bCk w second k regs]]

/-- Virtual addresses of a global access by lane (R105). -/
def globalAddrs (e : Env) : List (Nat × Nat) :=
  (lanesOf e.part).map (fun l => (l, wrap ((srcA e.g e.w l 2 : Int) + wOffset e.w) 64))

/-- Offsets of a local-store access by lane (R105). -/
def localAddrs (e : Env) : List (Nat × Nat) :=
  (lanesOf e.part).map (fun l => (l, wrap ((srcA e.g e.w l 1 : Int) + wOffset e.w) 32))

/-- Misaligned in any lane (step 5 of R121). -/
def misaligned (l : List (Nat × Nat)) (width : Nat) : Bool := l.any (fun p => p.2 % width != 0)

/-- Write loaded values and complete. -/
def finishLoad (width : Nat) (sx : Bool) (s : Dev) (e : Env) (vals : List (Nat × Nat)) : Dev :=
  complete s e (writeLanes e.g (wDst e.w) (regsOfWidth width) (vals.map (fun p => (p.1, extend sx width p.2))))

/-- RDG (R104, R105, R187, R190). -/
def execRdg (i : Issue) (s : State) : Host.Outcome State Fault Refusal :=
  perform s (fun s => issue 0x30 false i s (fun e s =>
    let width := mWidth e.w
    let addrs := globalAddrs e
    orFail s e (memCk e.w e.second e.d.shape.regs true true)
      (if misaligned addrs width then preciseFault s e eAlign
       else match lanesTranslate s e 0 addrs with
         | (s, none) => s
         | (s, some locs) =>
           if locs.any (fun p => sbBlocks (coreOf s e.core) none p.2.1 width false) then stallAt s e .overlap
           else
             let s := l1Trouble s e i.sram locs
             if mOrd e.w = 1 then
               loadLanes s e false (mScope e.w ≥ 2) width locs (fun s vals =>
                 finishLoad width (mSx e.w) (acquire s e.core (mScope e.w)) e vals)
             else loadLanes s e (mHint e.w == 2) false width locs (fun s vals => finishLoad width (mSx e.w) s e vals))))

/-- WRG (R104, R105, R187, R190). -/
def execWrg (i : Issue) (s : State) : Host.Outcome State Fault Refusal :=
  perform s (fun s => issue 0x31 false i s (fun e s =>
    let width := mWidth e.w
    let addrs := globalAddrs e
    let val := fun l => srcB e.g e.w e.second l (regsOfWidth width)
    orFail s e (memCk e.w e.second e.d.shape.regs false true)
      (if misaligned addrs width then preciseFault s e eAlign
       else match lanesTranslate s e 1 addrs with
         | (s, none) => s
         | (s, some locs) =>
           if locs.any (fun p => sbBlocks (coreOf s e.core) none p.2.1 width true) then stallAt s e .overlap
           else if mOrd e.w = 2 then
             afterRelease s e (mScope e.w) (fun s e =>
               let s := modCore s e.core (fun c =>
                 if mScope e.w ≤ 1 then storeLanes c e.gno width false locs val else storeThrough c e.gno width locs val)
               complete s e e.g)
           else complete (modCore s e.core (fun c => storeLanes c e.gno width (mHint e.w == 2) locs val)) e e.g)))

/-- The checks of a local-store access: bounds of the slot, then alignment (R63, step 5 of R121). DEDUCED: log entry 16. -/
def localCk (e : Env) (width : Nat) (addrs : List (Nat × Nat)) : Nat :=
  if addrs.any (fun p => p.2 + width > e.d.shape.lsPerSet) then eArg
  else if misaligned addrs width then eAlign else 0

/-- First byte of the group's slot. -/
def groupSlot (e : Env) : Nat := slotBase e.c e.d.shape e.g.set

/-- RDL (R104, R105). -/
def execRdl (i : Issue) (s : State) : Host.Outcome State Fault Refusal :=
  perform s (fun s => issue 0x32 false i s (fun e s =>
    let width := mWidth e.w
    let addrs := localAddrs e
    orFail s e (memCk e.w e.second e.d.shape.regs true false)
      (if localCk e width addrs ≠ 0 then preciseFault s e (localCk e width addrs)
       else if addrs.any (fun p => sbBlocks (coreOf s e.core) (some e.g.set) p.2 width false) then stallAt s e .overlap
       else finishLoad width (mSx e.w) s e
         (addrs.map (fun p => (p.1, lsRead (coreOf s e.core) (groupSlot e + p.2) width))))))

/-- WRL (R104, R105): with a release at core scope it first waits as R188 lays down. -/
def execWrl (i : Issue) (s : State) : Host.Outcome State Fault Refusal :=
  perform s (fun s => issue 0x33 false i s (fun e s =>
    let width := mWidth e.w
    let addrs := localAddrs e
    orFail s e (memCk e.w e.second e.d.shape.regs false false)
      (if localCk e width addrs ≠ 0 then preciseFault s e (localCk e width addrs)
       else if addrs.any (fun p => sbBlocks (coreOf s e.core) (some e.g.set) p.2 width true) then stallAt s e .overlap
       else
         let store := fun (s : Dev) (e : Env) =>
           complete (modCore s e.core (fun c => addrs.foldl (fun c p =>
             lsWrite c (groupSlot e + p.2) width (srcB e.g e.w e.second p.1 (regsOfWidth width))) c)) e e.g
         if mOrd e.w = 2 then afterRelease s e (mScope e.w) store else store s e)))

/-! ### Atomics (R106, R107, R200) -/

/-- OP. -/
def aOp (w : Word64) : Nat := wMod w 21 4
/-- W64. -/
def aW64 (w : Word64) : Bool := bitOf w.toNat 15
/-- NR. -/
def aNr (w : Word64) : Bool := bitOf w.toNat 14

/-- Steps 1 and 2 for AMOG and AMOL. -/
def amoCk (w second : Word64) (regs : Nat) (isGlobal : Bool) : Ck :=
  let k := if aW64 w then 2 else 1
  ckAll [selCk w, rsvIf (aOp w ≥ 13 || mScope w ≥ 6), argIf (!isGlobal && mScope w > 1),
    aCk w (if isGlobal then 2 else 1) regs,
    (if aOp w = 9 then ckAll [argIf (wBsel w != 0), gCk (wSrcB w) (if aW64 w then 4 else 1) regs,
        argIf (!aW64 w && wSrcB w + 2 > regs)]
     else bCk w second k regs),
    if aNr w then argIf (wDst w != 0) else gCk (wDst w) k regs]

/-- The atomic of one lane: operand, and for CAS the new value. -/
def laneAtom (e : Env) (lane off : Nat) : LaneAtom :=
  let k := if aW64 e.w then 2 else 1
  if aOp e.w = 9 then
    { lane := lane, off := off, op := 9, w64 := aW64 e.w, a := readG e.g lane (wSrcB e.w) k,
      b := readG e.g lane (wSrcB e.w + k) k }
  else { lane := lane, off := off, op := aOp e.w, w64 := aW64 e.w, a := srcB e.g e.w e.second lane k, b := 0 }

/-- Return the old values and complete. -/
def finishAtomic (s : Dev) (e : Env) (vals : List (Nat × Nat)) : Dev :=
  complete s e (if aNr e.w then e.g else writeLanes e.g (wDst e.w) (if aW64 e.w then 2 else 1) vals)

/-- Distinct sectors of lane accesses, in increasing order. DEDUCED: log entry 26. -/
def sectorsOf (locs : List (Nat × Nat × Nat)) : List Nat := locs.foldl (fun l p => insertNat (p.2.2 / 32) l) []

/-- Send the atomics, one request for each sector: dirty bytes of the sectors are written back and the sectors are stale. DEDUCED: log entry 26. -/
def sendAtomics (s : Dev) (e : Env) (locs : List (Nat × Nat × Nat)) : Dev :=
  let s := modCore s e.core (fun c => (sectorsOf locs).foldl (fun c sec =>
    let c := l1Push c sec
    { c with l1 := tmod c.l1 sec L1Sector.staled }) c)
  let s := (sectorsOf locs).foldl (fun s sec =>
    sendReq s e.core (groupTag e.gno) sec (.atomic ((locs.filter (fun p => p.2.2 / 32 == sec)).map (fun p =>
      laneAtom e p.1 (p.2.2 % 32))))) s
  putGroup s e { e.g with phase := 3, stall := .response }

/-- AMOG from its release on: where it touches several sectors their data is first looked at, so that a poisoned one ends the
instruction before any atomic is performed (R84, R479); then the atomics are sent; then their results are taken. DEDUCED: log entry 26. -/
def runAtomics (s : Dev) (e : Env) (locs : List (Nat × Nat × Nat)) : Dev :=
  if e.g.phase ≤ 1 then
    if (sectorsOf locs).length ≤ 1 then sendAtomics s e locs
    else
      let near := locs.filter (fun p => match placeOf s (p.2.2 / 64) with
        | .home => true
        | .host => true
        | _ => false)
      loadLanes s e false true 1 near (fun s _ => sendAtomics s e locs)
  else
    let mine := (coreOf s e.core).abuf.filter (fun r => r.group == e.gno)
    if mine.length < locs.length then stallAt s e .response
    else
      let s := modCore s e.core (fun c => { c with abuf := c.abuf.filter (fun r => r.group != e.gno) })
      let sorted := (locs.filterMap (fun p => mine.find? (fun r => r.lane == p.1)))
      match sorted.find? (fun r => r.code != 0) with
      | some r => preciseFault s e r.code
      | none =>
        finishAtomic (if mOrd e.w % 2 = 1 then acquire s e.core (mScope e.w) else s) e (sorted.map (fun r => (r.lane, r.value)))

/-- AMOG (R106, R107, R190, R200). -/
def execAmog (i : Issue) (s : State) : Host.Outcome State Fault Refusal :=
  perform s (fun s => issue 0x38 false i s (fun e s =>
    let width := if aW64 e.w then 8 else 4
    let addrs := globalAddrs e
    orFail s e (amoCk e.w e.second e.d.shape.regs true)
      (if misaligned addrs width then preciseFault s e eAlign
       else match lanesTranslate s e 2 addrs with
         | (s, none) => s
         | (s, some locs) =>
           if e.g.phase ≤ 1 ∧ locs.any (fun p => sbBlocks (coreOf s e.core) none p.2.1 width true) then stallAt s e .overlap
           else if mOrd e.w ≥ 2 ∧ e.g.phase ≤ 1 then afterRelease s e (mScope e.w) (fun s e => runAtomics s e locs)
           else runAtomics s e locs)))

/-- AMOL (R106, R107): performed in the slot, in increasing lane order. -/
def execAmol (i : Issue) (s : State) : Host.Outcome State Fault Refusal :=
  perform s (fun s => issue 0x39 false i s (fun e s =>
    let width := if aW64 e.w then 8 else 4
    let addrs := localAddrs e
    orFail s e (amoCk e.w e.second e.d.shape.regs false)
      (if localCk e width addrs ≠ 0 then preciseFault s e (localCk e width addrs)
       else if addrs.any (fun p => sbBlocks (coreOf s e.core) (some e.g.set) p.2 width true) then stallAt s e .overlap
       else
         let run := fun (s : Dev) (e : Env) =>
           let r := addrs.foldl (fun (x : Core × List (Nat × Nat)) p =>
             let o := laneAtom e p.1 0
             let old := lsRead x.1 (groupSlot e + p.2) width
             (lsWrite x.1 (groupSlot e + p.2) width (amoResult o.op o.w64 old o.a o.b), x.2 ++ [(p.1, old)]))
             (coreOf s e.core, [])
           finishAtomic (setCore s e.core r.1) e r.2
         if mOrd e.w ≥ 2 then afterRelease s e (mScope e.w) run else run s e)))

/-! ### Cache range operations (R108, R194) -/

/-- Steps 1 and 2 for CFLUSH and CINV. DEDUCED: log entry 16. -/
def rangeCk (w second : Word64) : Ck :=
  ckAll [selCk w, modCk w 0x70000, rsvIf (mScope w ≥ 6), noD w, argIf (!wAsel w), argIf (wBsel w == 0), uCk (wSrcA w) 2,
    (if wBsel w = 1 then uCk (wSrcB w) 1 else argIf (wBsel w == 3 && second.toNat ≥ 2 ^ 32))]

/-- Push a sector with its group named, so that the group's range operation can wait for it. -/
def l1PushFor (gno : Nat) (c : Core) (sec : Nat) : Core :=
  match tget c.l1 sec with
  | some x =>
    if x.dirty = 0 then c
    else { c with l1 := tset c.l1 sec { x with dirty := 0 },
                  wb := c.wb ++ [⟨sec, x.data, x.dirty, false, none, gno, c.seq, none⟩] }
  | none => c

/-- Sectors of a location range that the L1 holds. -/
def heldSectors (c : Core) (first last : Nat) : List Nat :=
  (tkeys c.l1).filter (fun sec => decide (first ≤ sec) && decide (sec ≤ last))

/-- The pages of a range from page number `page` on, each translated and acted on; progress is kept in the group's phase as
the number of pages done. -/
def rangePages (s : Dev) (e : Env) (inv : Bool) (first last : Nat) : Nat → Nat → Dev × Bool
  | 0, _ => (s, true)
  | n + 1, page =>
    let va := max first (page * 4096)
    let hi := min last (page * 4096 + 4095)
    match tlbFind (coreOf s e.core) 1 e.d.inst va 4 with
    | none => (putGroup s e { e.g with stall := .walk, phase := page - first / 4096 + 1, walks := [⟨va, 0, 4, 1⟩] }, false)
    | some t =>
      let s := modCore s e.core (fun c =>
        let secs := heldSectors c (t.at va / 32) (t.at hi / 32)
        let c := secs.foldl (l1PushFor e.gno) c
        if inv then { c with l1 := secs.foldl (fun l sec => tmod l sec L1Sector.staled) c.l1 } else c)
      rangePages s e inv first last n (page + 1)

/-- CFLUSH and CINV: once for the group. The phase counts pages done plus one; past the last page the write-backs are awaited. -/
def rangeOp (inv : Bool) (e : Env) (s : Dev) : Dev :=
  let base := readU e.g (wSrcA e.w) 2
  let len := srcB e.g e.w e.second 0 1
  let first := base / 32 * 32
  let last := (base + len - 1) / 32 * 32 + 31
  let pages := last / 4096 - first / 4096 + 1
  orFail s e (rangeCk e.w e.second)
    (if len = 0 then complete s e e.g
     else if !(canonical base && canonical last) then
       preciseFault (openTerminal s e.d.inst e.core 1 4 (if canonical base then last else base)) e eXlateFault
     else if e.g.phase = 0 ∧ sbBlocks (coreOf s e.core) none first (last + 1 - first) false then stallAt s e .overlap
     else if mScope e.w ≤ 1 then complete s e e.g
     else
       let done := e.g.phase - 1
       let (s, all) := rangePages s e inv first last (pages - done) (first / 4096 + done)
       if !all then s
       else if (coreOf s e.core).wb.any (fun w => w.group == e.gno) || (decide (mScope e.w ≥ 4) && pendingLine s false)
           || (decide (mScope e.w = 5) && pendingLine s true) then
         putGroup s e { e.g with phase := pages + 1, stall := .release }
       else complete s e e.g)

/-- CFLUSH (R108, R194). -/
def execCflush (i : Issue) (s : State) : Host.Outcome State Fault Refusal :=
  perform s (fun s => issue 0x3C false i s (rangeOp false))

/-- CINV (R108, R194). -/
def execCinv (i : Issue) (s : State) : Host.Outcome State Fault Refusal :=
  perform s (fun s => issue 0x3D false i s (rangeOp true))

/-- FENCE (R109, R190). -/
def execFence (i : Issue) (s : State) : Host.Outcome State Fault Refusal :=
  perform s (fun s => issue 0x3F false i s (fun e s =>
    orFail s e (ckAll [selCk e.w, modCk e.w 0x1F0000, rsvIf (mOrd e.w == 0 || mScope e.w ≥ 6), noA e.w, noB e.w, noD e.w])
      (let finish := fun (s : Dev) (e : Env) =>
         complete (if mOrd e.w % 2 = 1 then acquire s e.core (mScope e.w) else s) e e.g
       if mOrd e.w ≥ 2 then afterRelease s e (mScope e.w) finish else finish s e)))

/-! ### Session access (R119, R120) -/

/-- Steps 1 and 2 for SIN and SOUT. DEDUCED: log entry 16. -/
def frameCk (w second : Word64) (regs : Nat) (load : Bool) : Ck :=
  let f := wMod w 22 3
  let k := regsOfWidth (widthOf (min f 4))
  ckAll [selCk w, modCk w 0x1C03FFF, argIf (f < 2 || f > 4), aCk w 1 regs,
    if load then ckAll [noB w, gCk (wDst w) k regs] else ckAll [argIf (wDst w != 0), bCk w second k regs]]

/-- Virtual addresses of a frame access by lane, and whether any lies beyond the frame. -/
def frameAddrs (e : Env) (va len width : Nat) : List (Nat × Nat) × Bool :=
  let offs := localAddrs e
  (offs.map (fun p => (p.1, (va + p.2) % 2 ^ 64)), offs.any (fun p => p.2 + width > len))

/-- SIN (R119, R120): a load from the slot session's input frame. -/
def execSin (i : Issue) (s : State) : Host.Outcome State Fault Refusal :=
  perform s (fun s => issue 0x69 false i s (fun e s =>
    let width := mWidth e.w
    let sl := slotOf e.d e.g.slot
    let a := frameAddrs e sl.inVa sl.inLen width
    orFail s e (frameCk e.w e.second e.d.shape.regs true)
      (if e.d.plain then preciseFault s e eState
       else if a.2 then preciseFault s e eArg
       else if misaligned a.1 width then preciseFault s e eAlign
       else match lanesTranslate s e 0 a.1 with
         | (s, none) => s
         | (s, some locs) =>
           if locs.any (fun p => sbBlocks (coreOf s e.core) none p.2.1 width false) then stallAt s e .overlap
           else loadLanes (l1Trouble s e i.sram locs) e false false width locs (fun s vals => finishLoad width false s e vals))))

/-- SOUT (R119, R120): a store to the slot session's output frame. -/
def execSout (i : Issue) (s : State) : Host.Outcome State Fault Refusal :=
  perform s (fun s => issue 0x6A false i s (fun e s =>
    let width := mWidth e.w
    let sl := slotOf e.d e.g.slot
    let a := frameAddrs e sl.outVa sl.outLen width
    orFail s e (frameCk e.w e.second e.d.shape.regs false)
      (if e.d.plain then preciseFault s e eState
       else if a.2 then preciseFault s e eArg
       else if misaligned a.1 width then preciseFault s e eAlign
       else match lanesTranslate s e 1 a.1 with
         | (s, none) => s
         | (s, some locs) =>
           if locs.any (fun p => sbBlocks (coreOf s e.core) none p.2.1 width true) then stallAt s e .overlap
           else complete (modCore s e.core (fun c => storeLanes c e.gno width false locs
             (fun l => srcB e.g e.w e.second l (regsOfWidth width)))) e e.g)))

/-- SPGL (R119, R120, R305): the address of an entry of the page list. -/
def execSpgl (i : Issue) (s : State) : Host.Outcome State Fault Refusal :=
  perform s (fun s => issue 0x6B false i s (fun e s =>
    let sl := slotOf e.d e.g.slot
    let idx := fun l => srcB e.g e.w e.second l 1
    orFail s e (ckAll [selCk e.w, modCk e.w 0, noA e.w, bCk e.w e.second 1 e.d.shape.regs,
        gCk (wDst e.w) 2 e.d.shape.regs])
      (if e.d.plain then preciseFault s e eState
       else if (lanesOf e.part).any (fun l => decide (idx l ≥ sl.kvCount)) then preciseFault s e eArg
       else complete s e (writeLanes e.g (wDst e.w) 2
         ((lanesOf e.part).map (fun l => (l, (sl.kvVa + 8 + 8 * idx l) % 2 ^ 64)))))))

end Sys2Proof.Machine
end

