-- ==== Sys2Proof/Machine/MatrixNum.lean ====
section
/-!
DEFINITION. The arithmetic of the matrix engine: families and scales (R133, R134, R161 to R164), the canonical accumulation
(R165 to R168), and the output stage (R146, R147, R172 to R177).
-/
namespace Sys2Proof.Machine

/-- Operation families (R133, R164). -/
inductive Family where
  | f4 | f8 | i4 | i8 | i8s | h16 | f32
deriving DecidableEq, Repr

/-- The family of two format codes, `mx` where an operand carries an MX scale; none where the pairing is not offered. -/
def familyOf (fa fb : Nat) (mx : Bool) : Option Family :=
  let low := fun (f : Nat) => decide (4 ≤ f) && decide (f ≤ 7)
  let int := fun (f : Nat) => f == 8 || f == 9
  if fa = 7 ∧ fb = 7 then some .f4
  else if low fa && low fb then some .f8
  else if fa = 9 ∧ fb = 9 then some .i4
  else if int fa && int fb then some (if mx then .i8s else .i8)
  else if fa = fb ∧ (fa = 2 ∨ fa = 3) then some .h16
  else if fa = 1 ∧ fb = 1 then some .f32
  else none

/-- Columns of a family's tile (R133). -/
def Family.cols : Family → Nat
  | .h16 => 64
  | .f32 => 64
  | _ => 128

/-- Families whose accumulator words are INT32 (R131, R164). -/
def Family.isInt : Family → Bool
  | .i4 => true
  | .i8 => true
  | _ => false

/-- Families that take the integer output formats (R147). -/
def Family.isI : Family → Bool
  | .i4 => true
  | .i8 => true
  | .i8s => true
  | _ => false

/-- A block scale that a format may carry (R134): 0 none, 1 MX, 2 NX16. -/
def scaleOk (fmt scale : Nat) : Bool :=
  match scale with
  | 0 => true
  | 1 => decide (4 ≤ fmt) && decide (fmt ≤ 8)
  | 2 => fmt == 6 || fmt == 7
  | _ => false

/-- Block length of a scale (R134). -/
def blockLen (scale : Nat) : Nat := if scale = 2 then 16 else 32

/-- The value of an operand's element (R158, R161). -/
def elemVal (fmt : Nat) (mx : Bool) (x : Nat) : FV :=
  match fmtOfCode fmt with
  | some f => decodeF f x
  | none =>
    let i := signedOf x (elemWidth fmt)
    .fin (decide (i < 0)) i.natAbs (if mx then -6 else 0)

/-- The value of an E8M0 scale byte (R161). -/
def e8m0 (b : Nat) : FV := if b = 255 then .nan else .fin false 1 ((b : Int) - 127)

/-- A finite UE4M4 byte in units of 2^-10 (R162). -/
def ue4m4Units (b : Nat) : Nat :=
  let e := b / 16
  if e = 0 then b % 16 else (16 + b % 16) * 2 ^ (e - 1)

/-- The value of a UE4M4 scale byte. -/
def ue4m4 (b : Nat) : FV := if b = 255 then .nan else .fin false (ue4m4Units b) (-10)

/-- An exact product and whether a NaN arose from operands that were not NaN (R166, R178). -/
def mulMark (a b : FV × Bool) : FV × Bool :=
  match mulFV a.1 b.1 with
  | none => (.nan, true)
  | some p => (p, a.2 || b.2)

/-- floor(log2) of a nonzero finite magnitude. -/
def fvLog2 (m : Nat) (e : Int) : Int := (Nat.log2 m : Int) + e

/-- A term cut to the window's unit 2^u, and whether a bit was discarded (R165). -/
def windowTerm (u : Int) : FV → Int × Bool
  | .fin s m e =>
    let num := m * 2 ^ (e - u).toNat
    let den := 2 ^ (u - e).toNat
    let q : Nat := num / den
    (if s then -(q : Int) else q, num % den != 0)
  | _ => (0, false)

/-- The exponent e of R165: the largest of the nonzero terms; none where every term is zero. -/
def windowTop (ps : List FV) : Option Int :=
  ps.foldl (fun t p => match p with
    | .fin _ m e => if m = 0 then t else some (match t with
      | some x => max x (fvLog2 m e)
      | none => fvLog2 m e)
    | _ => t) none

/-- The sum of a chunk's products under the common factor (R165, R166), with its flags; discarded bits raise NX only in H16 and
F32 (R167). -/
def chunkSum (ps : List (FV × Bool)) (g : FV) (h16 : Bool) : FV × Flags :=
  let vs := ps.map (·.1)
  let nv : Flags := if ps.any (·.2) then flNV else 0
  if g = .nan ∨ vs.contains .nan then (.nan, nv)
  else if vs.contains (.inf false) && vs.contains (.inf true) then (.nan, flNV)
  else if vs.contains (.inf false) then (.inf (signFV g), 0)
  else if vs.contains (.inf true) then (.inf (!signFV g), 0)
  else match windowTop vs with
    | none => (.fin false 0 0, 0)
    | some e =>
      let ts := vs.map (windowTerm (e - 73))
      let w := ts.foldl (fun (a : Int) t => a + t.1) 0
      let x := dyMul ⟨w, e - 73⟩ (dyOf g)
      (.fin (decide (x.m < 0)) x.m.natAbs x.e, if h16 && ts.any (·.2) then flNX else 0)

/-- One chunk into an FP32 accumulator word (R165). -/
def accumulate (acc : Nat) (ps : List (FV × Bool)) (g : FV) (h16 : Bool) : Nat × Flags :=
  let (s, fl) := chunkSum ps g h16
  let (r, fl') := addFV fmtF32 .rne (decodeF fmtF32 acc) s
  (r, fl ||| fl')

/-- One chunk into an INT32 accumulator word (R168). -/
def accumulateInt (acc : Nat) (ps : List (Int × Int)) : Nat :=
  wrap (ps.foldl (fun a p => a + p.1 * p.2) (acc : Int)) 32

/-! ### The output stage -/

/-- A quotient of a finite value by a positive dyadic number, as a ratio. -/
def quotient (m : Nat) (e : Int) (d : Dy) : Nat × Nat :=
  let (n1, d1) := dyRatio ⟨m, e⟩
  let (n2, d2) := dyRatio d
  (n1 * d2, d1 * n2)

/-- One conversion of v / d to an output format (R146, R147, R172 to R175); d is positive. DEDUCED: log entries 25, 109. -/
def outConvert (ofmt : Nat) (rm : Rnd) (sat : Bool) (v : FV) (d : Dy) : Nat × Flags :=
  match fmtOfCode ofmt, intOfCode ofmt with
  | some f, _ =>
    (match v with
     | .fin s m e =>
       if m = 0 then (zeroEnc f s, 0)
       else
         let (n, q) := quotient m e d
         roundF f rm sat s n q false
     | x => specialToF f sat x)
  | none, some (w, sg) =>
    (match v with
     | .nan => (0, flNV)
     | .inf s => infToInt w sg s
     | .fin s m e =>
       let (n, q) := quotient m e d
       ratioToInt w sg rm s n q)
  | none, none => (0, 0)

/-- Exponent of the largest normal of an MX element format (R176). -/
def mxEmax : Nat → Int
  | 4 => 8
  | 5 => 15
  | 6 => 4
  | 7 => 2
  | _ => 0

/-- The larger of two finite magnitudes. -/
def maxMag (a b : Nat × Int) : Nat × Int :=
  if cmpFV (.fin false a.1 a.2) (.fin false b.1 b.2) < 0 then b else a

/-- The largest finite magnitude of a block, 0 where none is finite and nonzero. -/
def blockMax (vs : List FV) : Nat × Int :=
  vs.foldl (fun b v => match v with
    | .fin _ m e => maxMag b (m, e)
    | _ => b) (0, 0)

/-- X of an MX block (R176); none where no value is finite and nonzero. -/
def mxX (ofmt : Nat) (vs : List FV) : Option Int :=
  let (m, e) := blockMax vs
  if m = 0 then none else some (max (-127) (min 127 (fvLog2 m e - mxEmax ofmt)))

/-- Converted elements, a scale byte, and the flags of one block. -/
structure OutBlock where
  elems : List Nat
  scale : Nat
  flags : Flags
deriving DecidableEq, Repr

/-- Flags and values of a list of conversions. -/
def outBlock (scale : Nat) (fl : Flags) (l : List (Nat × Flags)) : OutBlock :=
  { elems := l.map (·.1), scale := scale, flags := l.foldl (fun a p => a ||| p.2) fl }

/-- A block of an MX output (R176). -/
def mxBlock (ofmt : Nat) (sat : Bool) (vs : List (FV × Rnd)) : OutBlock :=
  if (vs.map (·.1)).contains .nan then
    (match fmtOfCode ofmt with
     | some f => if f.nan = .none then outBlock 255 flNV (vs.map (fun _ => (0, 0)))
       else outBlock 255 0 (vs.map (fun _ => (f.canon, 0)))
     | none => outBlock 255 flNV (vs.map (fun _ => (0, 0))))
  else
    let x := mxX ofmt (vs.map (·.1))
    let div : Dy := if ofmt = 8 then ⟨1, x.getD (-127) - 6⟩ else ⟨1, x.getD (-127)⟩
    outBlock ((x.getD (-127) + 127).toNat) 0 (vs.map (fun v => outConvert ofmt v.2 sat v.1 div))

/-- M of an NX16 output (R177). -/
def nxM (ofmt : Nat) : Nat := if ofmt = 7 then 6 else 28

/-- A block of an NX16 output (R177): the smallest scale byte from 0x01 to 0xFE not below amax / (OTSCALE M), else 0xFE and
SAT. -/
def nxBlock (ofmt : Nat) (ot : Dy) (sat : Bool) (vs : List (FV × Rnd)) : OutBlock :=
  if (vs.map (·.1)).contains .nan then outBlock 255 flNV (vs.map (fun _ => (0, 0)))
  else
    let (m, e) := blockMax (vs.map (·.1))
    let (n, d) := quotient m e ⟨ot.m * nxM ofmt, ot.e⟩
    let pick := lowest 254 (fun i => decide (ue4m4Units (i + 1) * d ≥ n * 1024))
    let b := match pick with
      | some i => i + 1
      | none => 254
    let div := dyMul ot ⟨ue4m4Units b, -10⟩
    outBlock b (if pick.isNone then flSAT else 0) (vs.map (fun v => outConvert ofmt v.2 sat v.1 div))

/-- Cut a list into blocks of n, at most k of them. -/
def blocks {α : Type} (n : Nat) : Nat → List α → List (List α)
  | 0, _ => []
  | k + 1, l => if l.isEmpty then [] else l.take n :: blocks n k (l.drop n)

/-- One tile row through the output stage: elements, scale bytes and flags. -/
def outRow (ofmt oscale : Nat) (ot : Dy) (sat : Bool) (vs : List (FV × Rnd)) : List Nat × List Nat × Flags :=
  if oscale = 0 then
    let l := vs.map (fun v => outConvert ofmt v.2 sat v.1 ⟨1, 0⟩)
    (l.map (·.1), [], l.foldl (fun a p => a ||| p.2) 0)
  else
    let bs := (blocks (blockLen oscale) 8 vs).map (fun b => if oscale = 1 then mxBlock ofmt sat b else nxBlock ofmt ot sat b)
    (bs.flatMap (·.elems), bs.map (·.scale), bs.foldl (fun a b => a ||| b.flags) 0)

/-- The exact product acc × OMUL of a word (R146, R147), and NV where it is 0 × infinity. -/
def outProduct (fam : Family) (word omul : Nat) : FV × Flags :=
  let a : FV := if fam.isInt then
      let i := signedOf word 32
      .fin (decide (i < 0)) i.natAbs 0
    else decodeF fmtF32 word
  match mulFV a (decodeF fmtF32 omul) with
  | none => (.nan, flNV)
  | some (.fin s m e) => (.fin (if fam.isInt && m == 0 then false else s) m e, 0)
  | some p => (p, 0)

end Sys2Proof.Machine
end

