-- ==== Sys2Proof/Machine/Matrix.lean ====
section
/-!
DEFINITION. The matrix engine (chapter 05): issue checks, tokens, the sequencer's rows, the output stage and completion.
-/
namespace Sys2Proof.Machine

/-! ### The descriptor (R141 to R143) -/

/-- n bytes at offset o of a structure held as a number. -/
def fieldAt (d o n : Nat) : Nat := bitsOf d (8 * o) (8 * n)

/-- An operand block of the descriptor. -/
def readOperand (d b : Nat) : MxOperand :=
  { addr := fieldAt d b 8, saddr := fieldAt d (b + 8) 8, stride := fieldAt d (b + 16) 4, sstride := fieldAt d (b + 20) 4,
    tscale := fieldAt d (b + 24) 4, kind := fieldAt d (b + 28) 1, layout := fieldAt d (b + 29) 1, rpp := fieldAt d (b + 30) 1,
    fmt := fieldAt d (b + 31) 1, firstRow := fieldAt d (b + 32) 4, scale := fieldAt d (b + 36) 1, firstPage := 0, pages := [] }

/-- A row of the step table. -/
def readRow (r : Nat) : MxRow :=
  { op := fieldAt r 0 1, acc := fieldAt r 1 1, zeroAfter := bitOf (fieldAt r 2 1) 0, kFrom := fieldAt r 4 2, kCount := fieldAt r 6 2,
    mOff := fieldAt r 8 2, nOff := fieldAt r 12 4 }

/-- The operation a descriptor describes. -/
def readOp (d : Nat) (rows : List MxRow) : MxOp :=
  { token := 0, group := 0, set := 0, kTotal := fieldAt d 0 2, mValid := fieldAt d 2 1, nValid := fieldAt d 3 1,
    a := readOperand d 16, b := readOperand d 56, outAddr := fieldAt d 96 8, osAddr := fieldAt d 104 8,
    outStride := fieldAt d 112 4, osStride := fieldAt d 116 4, omul := fieldAt d 120 4, otscale := fieldAt d 124 4,
    odraw := fieldAt d 128 4, outKind := fieldAt d 132 1, ofmt := fieldAt d 133 1, oscale := fieldAt d 134 1,
    orm := fieldAt d 135 1, statusAddr := fieldAt d 144 8, statusKind := fieldAt d 152 1, rows := rows, next := 0, outNext := 0,
    seed := 0, step := 0, seq := 0, flags := 0, code := 0, walks := [], faults := [], got := [] }

/-- The kinds of matrix issue. -/
inductive MxKind where
  | mxi | mxz | mxst
deriving DecidableEq, Repr

/-- An operation's family. MXZ does not look at the scales, which change no tile shape (R142). -/
def mxFamily (o : MxOp) : Option Family := familyOf o.a.fmt o.b.fmt (o.a.scale == 1 || o.b.scale == 1)

/-- The rows an instruction runs (R144). -/
def mxRows (k : MxKind) (d : Nat) (table : List Nat) : List MxRow :=
  match k with
  | .mxi => table.map readRow
  | .mxz => [{ op := 1, acc := fieldAt d 4 1, zeroAfter := false, kFrom := 0, kCount := 0, mOff := 0, nOff := 0 }]
  | .mxst => [{ op := 3, acc := fieldAt d 4 1, zeroAfter := false, kFrom := 0, kCount := 0, mOff := 0, nOff := 0 }]

/-- Reserved bytes of the descriptor (R141). -/
def mxReservedBytes (d : Nat) : Bool :=
  fieldAt d 5 3 != 0 || fieldAt d 14 2 != 0 || fieldAt d 53 3 != 0 || fieldAt d 93 3 != 0 || fieldAt d 136 8 != 0
  || fieldAt d 153 7 != 0

/-- Step 3 of R150: reserved bytes, and reserved values of the fields that the instruction uses (R142, R143). -/
def mxReserved (k : MxKind) (d : Nat) (table : List Nat) : Bool :=
  let o := readOp d []
  let opnd := fun (x : MxOperand) => decide (x.kind > 2) || decide (x.layout > 1)
  let row := fun (r : Nat) => fieldAt r 0 1 == 0 || decide (fieldAt r 0 1 > 3) || fieldAt r 3 1 != 0 || fieldAt r 10 2 != 0
    || (if fieldAt r 0 1 = 3 then decide (fieldAt r 2 1 > 1) else fieldAt r 2 1 != 0)
  mxReservedBytes d || decide (o.a.fmt > 11) || decide (o.b.fmt > 11)
  || (k == .mxi && (opnd o.a || opnd o.b || table.any row))
  || (k != .mxz && (decide (o.a.scale > 2) || decide (o.b.scale > 2) || decide (o.outKind > 1) || decide (o.ofmt > 11)
      || decide (o.oscale > 2) || o.orm % 4 == 3 || decide (o.orm > 7) || decide (o.statusKind > 2)))

/-- A positive normal FP32 value. -/
def positiveNormal (x : Nat) : Bool := decide (0x00800000 ≤ x) && decide (x < 0x7F800000)

/-- Field values of an operand (R134, R136, R137, R139, R141). DESIGN CHOICE: log entry 20. -/
def operandOk (x : MxOperand) (isB : Bool) (kTotal : Nat) : Bool :=
  (isB || x.layout == 0)
  && (if x.kind = 2 then decide (x.rpp ≤ 12) else x.rpp == 0 && x.firstRow == 0)
  && (x.kind != 0 || decide (x.addr < 2 ^ 32))
  && (if x.scale = 0 then x.saddr == 0 && x.tscale == 0
      else scaleOk x.fmt x.scale && x.layout == 0
        && (if x.scale = 2 then positiveNormal x.tscale else x.tscale == 0)
        && (x.kind == 1 || decide (x.saddr < 2 ^ 32))
        && (x.kind != 2 || (x.sstride == 0 && decide (x.saddr + kTotal / blockLen x.scale ≤ x.stride))))

/-- Output fields (R141, R147, R164). DESIGN CHOICE: log entry 20. -/
def outputOk (f : Family) (o : MxOp) : Bool :=
  let fmts : List Nat := if f = .i8s then [1] else if f.isI then [10, 8, 9, 1] else [1, 2, 3, 4, 5, 6, 7]
  fmts.contains o.ofmt && o.omul / 2 ^ 23 % 256 != 255
  && (!(f.isInt && o.ofmt == 10) || o.omul == 0x3F800000)
  && scaleOk o.ofmt o.oscale
  && (if o.oscale = 2 then positiveNormal o.otscale else o.otscale == 0)
  && (if o.oscale = 0 then o.osAddr == 0 else o.nValid % blockLen o.oscale == 0)
  && (o.outKind == 1 || (decide (o.outAddr < 2 ^ 32) && decide (o.osAddr < 2 ^ 32)))
  && (o.statusKind != 1 || decide (o.statusAddr < 2 ^ 32))

/-- The run of each tile so far: unit, offsets, and the first chunk not yet covered (R145). -/
abbrev Runs := List (Nat × (Nat × Nat) × Nat)

/-- Rows of a table in order (R143, R145, R147, R148). -/
def rowsOk (f : Family) (o : MxOp) (runs : Runs) : List MxRow → Bool
  | [] => true
  | r :: rest =>
    let clear := runs.filter (fun p => p.1 != r.acc)
    let unit := decide (r.acc ≤ 7) && (f.cols == 64 || r.acc % 2 == 0)
    match r.op with
    | 1 => unit && r.kFrom == 0 && r.kCount == 0 && r.mOff == 0 && r.nOff == 0 && rowsOk f o clear rest
    | 2 =>
      unit && decide (1 ≤ r.kCount) && decide (r.kFrom + r.kCount ≤ o.kTotal / 32)
      && (o.b.layout == 0 || r.nOff % 32 == 0)
      && (match runs.find? (fun p => p.1 == r.acc) with
          | some (_, off, k) => off == (r.mOff, r.nOff) && decide (k ≤ r.kFrom)
          | none => true)
      && rowsOk f o ((r.acc, (r.mOff, r.nOff), r.kFrom + r.kCount) :: clear) rest
    | _ =>
      unit && r.kFrom == 0 && r.kCount == 0 && r.nOff * elemWidth o.ofmt % 256 == 0
      && (o.oscale == 0 || r.nOff % blockLen o.oscale == 0)
      && rowsOk f o (if r.zeroAfter then clear else runs) rest

/-- Field values and combinations of step 4 of R150, ranges aside. -/
def mxFieldsOk (k : MxKind) (o : MxOp) : Bool :=
  match mxFamily o with
  | none => false
  | some f =>
    rowsOk f o [] o.rows
    && (k == .mxz || (decide (32 ≤ o.kTotal) && decide (o.kTotal ≤ 4096) && o.kTotal % 32 == 0 && decide (1 ≤ o.mValid)
        && decide (o.mValid ≤ 128) && decide (1 ≤ o.nValid) && decide (o.nValid ≤ f.cols) && outputOk f o))
    && (k != .mxi || (operandOk o.a false o.kTotal && operandOk o.b true o.kTotal))
    && (k != .mxst || (scaleOk o.a.fmt o.a.scale && scaleOk o.b.fmt o.b.scale))

/-! ### Ranges (R139, R140, R151) -/

/-- A span of bytes of one space: the slot or virtual memory. -/
structure Span where
  isLs : Bool
  lo : Nat
  hi : Nat
  write : Bool
deriving DecidableEq, Repr

/-- Smallest span that holds several [lo, hi) pairs. -/
def hull : List (Nat × Nat) → Option (Nat × Nat)
  | [] => none
  | (a, b) :: t => (match hull t with
    | none => some (a, b)
    | some (c, d) => some (min a c, max b d))

/-- MAC rows of an operation. -/
def macRows (o : MxOp) : List MxRow := o.rows.filter (fun r => r.op == 2)
/-- OUT rows. -/
def outRows (o : MxOp) : List MxRow := o.rows.filter (fun r => r.op == 3)

/-- First and last row index of an operand that a MAC row reads (R136). -/
def rowSpan (o : MxOp) (isB : Bool) (r : MxRow) : Nat × Nat :=
  if isB ∧ o.b.layout = 1 then (32 * r.kFrom, 32 * (r.kFrom + r.kCount) - 1)
  else if isB then (r.nOff, r.nOff + o.nValid - 1)
  else (r.mOff, r.mOff + o.mValid - 1)

/-- Bytes of a row of an operand that a MAC row reads. -/
def byteSpanOf (o : MxOp) (x : MxOperand) (isB : Bool) (r : MxRow) : Nat × Nat :=
  let w := elemWidth x.fmt
  if isB ∧ o.b.layout = 1 then (r.nOff * w / 8, ((r.nOff + o.nValid) * w + 7) / 8)
  else (4 * w * r.kFrom, 4 * w * (r.kFrom + r.kCount))

/-- Blocks of scales of a row that a MAC row reads. -/
def blockSpan (x : MxOperand) (r : MxRow) : Nat × Nat :=
  (32 * r.kFrom / blockLen x.scale, 32 * (r.kFrom + r.kCount) / blockLen x.scale)

/-- Range of an operand of kind 0 or 1 (R151). -/
def operandHull (o : MxOp) (x : MxOperand) (isB : Bool) : Option (Nat × Nat) :=
  hull ((macRows o).flatMap (fun r =>
    let j := rowSpan o isB r
    let b := byteSpanOf o x isB r
    let s := blockSpan x r
    (x.addr + j.1 * x.stride + b.1, x.addr + j.2 * x.stride + b.2)
      :: (if x.scale = 0 then [] else [(x.saddr + j.1 * x.sstride + s.1, x.saddr + j.2 * x.sstride + s.2)])))

/-- First and last page-list entry of a paged operand (R139). -/
def pageSpan (o : MxOp) (x : MxOperand) (isB : Bool) : Option (Nat × Nat) :=
  (hull ((macRows o).map (rowSpan o isB))).map (fun p => ((x.firstRow + p.1) / 2 ^ x.rpp, (x.firstRow + p.2) / 2 ^ x.rpp))

/-- Range of the outputs (R148, R151). -/
def outHull (o : MxOp) : Option (Nat × Nat) :=
  let w := elemWidth o.ofmt
  let l := blockLen o.oscale
  hull ((outRows o).flatMap (fun r =>
    (o.outAddr + r.mOff * o.outStride + r.nOff * w / 8,
     o.outAddr + (r.mOff + o.mValid - 1) * o.outStride + ((r.nOff + o.nValid) * w + 7) / 8)
      :: (if o.oscale = 0 then []
          else [(o.osAddr + r.mOff * o.osStride + r.nOff / l,
                 o.osAddr + (r.mOff + o.mValid - 1) * o.osStride + (r.nOff + o.nValid) / l)])))

/-- A span of a hull. -/
def spanOf (isLs write : Bool) (h : Option (Nat × Nat)) : List Span :=
  match h with
  | some (lo, hi) => [⟨isLs, lo, hi, write⟩]
  | none => []

/-- Spans known before the page lists are read. -/
def mxSpans (o : MxOp) : List Span :=
  (if o.a.kind = 2 then [] else spanOf (o.a.kind == 0) false (operandHull o o.a false))
  ++ (if o.b.kind = 2 then [] else spanOf (o.b.kind == 0) false (operandHull o o.b true))
  ++ spanOf (o.outKind == 0) true (outHull o)
  ++ (if o.statusKind = 0 ∨ outRows o = [] then []
      else [⟨o.statusKind == 1, o.statusAddr, o.statusAddr + 4 * (outRows o).length, true⟩])

/-- Span of a paged operand whose entries have been read (R140). -/
def pagedSpan (x : MxOperand) : List Span :=
  if x.kind = 2 then spanOf false false (hull (x.pages.map (fun p => (p, p + 2 ^ x.rpp * x.stride)))) else []

/-- An output span overlaps another span of its space (step 7 of R150). -/
def spansClash : List Span → Bool
  | [] => false
  | a :: t => t.any (fun b => a.isLs == b.isLs && (a.write || b.write) && overlaps a.lo (a.hi - a.lo) b.lo (b.hi - b.lo))
      || spansClash t

/-- Paged operands name at most 64 entries (R139). -/
def pagesFew (o : MxOp) (x : MxOperand) (isB : Bool) : Bool :=
  x.kind != 2 || (match pageSpan o x isB with
    | some (a, b) => decide (b - a < 64)
    | none => true)

/-- Alignment of step 5 of R150. DESIGN CHOICE: log entry 20. -/
def mxAligned (k : MxKind) (o : MxOp) : Bool :=
  (k == .mxz || (o.outAddr % 32 == 0 && o.outStride % 32 == 0 && (o.statusKind == 0 || o.statusAddr % 4 == 0)))
  && (k != .mxi || ([o.a, o.b].all (fun x => x.stride % 32 == 0 && x.addr % (if x.kind = 2 then 8 else 32) == 0)))

/-- Steps 1 to 5 of R150 on a slot of `len` bytes whose bytes `rd` reads: a code, or the operation. -/
def mxDescribe (k : MxKind) (rd : Nat → Nat → Nat) (len off : Nat) : Nat ⊕ MxOp :=
  if off + 160 > len then .inl eArg
  else
    let d := rd off 160
    let steps := fieldAt d 8 4
    let n := fieldAt d 12 2
    if k = .mxi ∧ steps + 16 * n > len then .inl eArg
    else if off % 32 ≠ 0 ∨ (k = .mxi ∧ steps % 16 ≠ 0) then .inl eAlign
    else
      let table := if k = .mxi then (List.range n).map (fun i => rd (steps + 16 * i) 16) else []
      if mxReserved k d table then .inl eReserved
      else
        let o := readOp d (mxRows k d table)
        if (k = .mxi ∧ (n = 0 ∨ n > 64)) ∨ !mxFieldsOk k o then .inl eArg
        else if k ≠ .mxz ∧ ((mxSpans o).any (fun x => x.isLs && decide (x.hi > len)) || !pagesFew o o.a false
            || !pagesFew o o.b true) then .inl eArg
        else if !mxAligned k o then .inl eAlign
        else .inr o

/-! ### Issue (R125 to R127, R150, R151) -/

/-- Steps 1 and 2 of R121 for MXI, MXZ, MXST and FYI (R88, R114, R115). DEDUCED: log entry 17. -/
def descCk (w second : Word64) : Ck :=
  ckAll [rsvIf (wBsel w == 3 && !wLong w), modCk w 0, rsvIf (wSrcB w != 0), argIf (wDst w > 15),
    if wLong w then ckAll [argIf (wAsel w || wBsel w != 0), rsvIf (wSrcA w != 0 && !wAsel w), argIf (second.toNat ≥ 2 ^ 32)]
    else ckAll [argIf (!wAsel w || wBsel w != 0), uCk (wSrcA w) 1]]

/-- Descriptor offset (R114). -/
def descOffset (e : Env) : Nat := if wLong e.w then e.second.toNat % 2 ^ 32 else readU e.g (wSrcA e.w) 1

/-- Show a core's engine in MXE_CORE_STATUS (R156). DEDUCED: log entry 22. -/
def syncMx (s : Dev) (core : Nat) : Dev :=
  let c := coreOf s core
  let s := fset s (RF.MXE_CORE_STATUS_QUEUED core) c.mxq.length
  let s := fset s (RF.MXE_CORE_STATUS_ACC_POISON core) c.accPoison.toNat
  let s := fset s (RF.MXE_CORE_STATUS_TOKENS_BUSY core)
    (c.tokens.foldl (fun n p => if p.2.busy then n + 2 ^ p.1 else n) 0)
  fset s (RF.MXE_CORE_STATUS_XLATE_STALL core) (b2n (match c.mxq with
    | m :: _ => m.faults.any (fun f => f.verdict.isNone)
    | [] => false))

/-- A rejected matrix issue. -/
def mxReject (s : Dev) (e : Env) (code : Nat) : Dev := preciseFault s e code

/-- Scoreboard entries of spans. -/
def sbEntries (e : Env) (op : Nat) (l : List Span) : List SbEntry :=
  l.map (fun x => { lsSet := if x.isLs then some e.g.set else none, base := x.lo, len := x.hi - x.lo, write := x.write, op := op,
                    seq := e.c.seq })

/-- Claim entries all at once, in the order in which issues stalled (R80). -/
def claim (c : Core) (gno : Nat) (l : List SbEntry) : Core × Bool :=
  let first := match c.sbWait with
    | [] => true
    | g :: _ => g == gno
  if first && decide (c.sb.length + l.length ≤ 16) then
    ({ c with sb := c.sb ++ l, sbWait := c.sbWait.filter (· != gno) }, true)
  else ({ c with sbWait := if c.sbWait.contains gno then c.sbWait else c.sbWait ++ [gno] }, false)

/-- R82: dirty sectors are written back, and where the operation writes global memory the sectors leave the L1. DEDUCED: log entry 22. -/
def flushFor (c : Core) (l : List SbEntry) : Core :=
  if l.any (fun x => x.lsSet.isNone && x.write) then { l1PushAll c with l1 := [] }
  else if l.any (fun x => x.lsSet.isNone) then l1PushAll c
  else c

/-- A matrix instruction is held at steps 2 to 4 of R126 (R127). -/
def mxStall (s : Dev) (e : Env) (r : Stall) : Dev :=
  modCore (stallAt s e r) e.core (fun c => { c with mxHold := some e.gno })

/-- Accept an operation (R126 step 5): the token is busy and the engine holds its own copy. -/
def mxAccept (s : Dev) (e : Env) (o : MxOp) (entries : List SbEntry) : Dev :=
  let v := vctxOf s e.core e.gno e.d e.g
  let o := { o with token := wDst e.w, group := e.gno, set := e.g.set, seed := v.seed, step := v.step, seq := e.c.seq }
  let s := modCore s e.core (fun c =>
    let c := flushFor c entries
    { c with mxq := c.mxq ++ [o], mxHold := none, rbuf := c.rbuf.filter (fun r => r.tag != groupTag e.gno),
             tokens := tset c.tokens o.token ⟨true, e.gno, e.g.set, e.path.pc, e.c.seq, 0⟩ })
  syncMx (complete (traceCore s 2 1 e.core e.path.pc e.gno 0 o.token) e e.g) e.core

/-- Virtual sectors of a page list (R139). -/
def listSectors (o : MxOp) (x : MxOperand) (isB : Bool) : List Nat :=
  if x.kind ≠ 2 then []
  else match pageSpan o x isB with
    | some (a, b) =>
      let lo := (x.addr + 8 * a) / 32
      let hi := (x.addr + 8 * b) / 32
      (List.range (hi + 1 - lo)).map (· + lo)
    | none => []

/-- Location of an address under an engine's buffer. -/
def engLoc (s : Dev) (core engine inst va access : Nat) : Option Nat :=
  (tlbFind (coreOf s core) engine inst va access).map (fun t => t.at va)

/-- Read the entries of a page list from what was fetched: its entries, or the code of the first bad one. -/
def listPages (look : Nat → Option (BitVec 256 × Nat)) (o : MxOp) (x : MxOperand) (isB : Bool) : Nat ⊕ MxOperand :=
  if x.kind ≠ 2 then .inr x
  else match pageSpan o x isB with
    | none => .inr x
    | some (a, b) =>
      let es := (List.range (b + 1 - a)).map (fun i =>
        let va := x.addr + 8 * (a + i)
        match look (va / 32) with
        | some (d, code) => (code, bitsOf d.toNat (8 * (va % 32)) 64)
        | none => (0, 0))
      match es.find? (fun p => p.1 != 0) with
      | some p => .inl p.1
      | none =>
        if es.any (fun p => decide (p.2 ≥ 2 ^ 57)) then .inl eReserved
        else if es.any (fun p => p.2 % 32 != 0) then .inl eAlign
        else .inr { x with firstPage := a, pages := es.map (·.2) }

/-- Steps 6 and 7 of R150, then the claim and acceptance. DESIGN CHOICE: log entry 24. -/
def mxClaim (s : Dev) (e : Env) (o : MxOp) (look : Nat → Option (BitVec 256 × Nat)) : Dev :=
  match listPages look o o.a false, listPages look o o.b true with
  | .inl c, _ => mxReject s e c
  | _, .inl c => mxReject s e c
  | .inr a, .inr b =>
    let o := { o with a := a, b := b }
    let spans := mxSpans o ++ pagedSpan a ++ pagedSpan b
    if spansClash spans then mxReject s e eArg
    else
      let entries := sbEntries e (wDst e.w) spans
      let (c, ok) := claim (coreOf s e.core) e.gno entries
      let s := setCore s e.core c
      if ok then mxAccept s e o entries else mxStall s e .entries

/-- Read the page lists (step 6 of R150): as a load of the group, through the matrix engine's address stage (R139). -/
def mxPages (s : Dev) (e : Env) (o : MxOp) : Dev :=
  let secs := listSectors o o.a false ++ listSectors o o.b true
  if secs.isEmpty then mxClaim s e o (fun _ => none)
  else match secs.find? (fun v => !canonical (32 * v)) with
    | some v => mxReject (openTerminal s e.d.inst e.core 2 0 (32 * v)) e eXlateFault
    | none =>
      if secs.any (fun v => sbBlocks (coreOf s e.core) none (32 * v) 32 false) then mxStall s e .overlap
      else
        let loc := fun (v : Nat) => engLoc s e.core 2 e.d.inst (32 * v) 0
        let unmapped := secs.filter (fun v => (loc v).isNone)
        if !unmapped.isEmpty then
          mxStall s { e with g := { e.g with walks := unmapped.foldl (fun ws v => addWalk ws ⟨32 * v, v, 0, 2⟩) [] } } .walk
        else
          let look := fun (v : Nat) => (loc v).bind (fun l => (bufFind (coreOf s e.core) (groupTag e.gno) (l / 32)).map
            (fun r => (r.data, r.code)))
          let missing := secs.filter (fun v => (look v).isNone)
          if missing.isEmpty then mxClaim s e o look
          else
            let s := missing.foldl (fun s v => match loc v with
              | some l => sendReq (modCore s e.core (fun c => l1Push c (l / 32))) e.core (groupTag e.gno) (l / 32) .read
              | none => s) s
            mxStall s e .response

/-- MXI, MXZ and MXST. -/
def mxIssue (k : MxKind) (e : Env) (s : Dev) : Dev :=
  if ckCode (descCk e.w e.second) ≠ 0 then mxReject s e (ckCode (descCk e.w e.second))
  else if e.part ≠ 0xFFFFFFFF then mxReject s e eDivergentMx
  else if e.c.mxHold.isSome && e.c.mxHold != some e.gno then stallAt s e .busy
  else if (tgetD e.c.tokens (wDst e.w) ⟨false, 0, 0, 0, 0, 0⟩).busy then mxStall s e .busy
  else
    let base := slotBase e.c e.d.shape e.g.set
    let off := descOffset e
    let rd := fun a n => lsRead e.c (base + a) n
    if sbBlocks e.c (some e.g.set) off 160 false
        || (k == .mxi && sbBlocks e.c (some e.g.set) (fieldAt (rd off 160) 8 4) (16 * fieldAt (rd off 160) 12 2) false) then
      mxStall s e .overlap
    else match mxDescribe k rd e.d.shape.lsPerSet off with
      | .inl c => mxReject s e c
      | .inr o => if k = .mxi then mxPages s e o else mxClaim s e o (fun _ => none)

/-- A group of a core has ended. -/
def groupDone (s : Dev) (core gno : Nat) : Bool :=
  match tget (coreOf s core).groups gno with
  | some g => g.done
  | none => true

/-- Issue a matrix operation and count its rejection (R156). -/
def mxRun (op : Nat) (k : MxKind) (i : Issue) (s : Dev) : Dev :=
  let s' := issue op false i s (mxIssue k)
  if !groupDone s i.core i.group && groupDone s' i.core i.group && i.fetch == 0 && wOp i.w == op && i.sram != .uncorrectable then
    bump s' (Reg.MXE_CNT_REJECTS i.core)
  else s'

/-- MXI (R126). -/
def execMxi (i : Issue) (s : State) : Host.Outcome State Fault Refusal :=
  perform s (fun s => mxRun 0x58 .mxi i s)

/-- MXZ (R144). -/
def execMxz (i : Issue) (s : State) : Host.Outcome State Fault Refusal :=
  perform s (fun s => mxRun 0x5B .mxz i s)

/-- MXST (R144). -/
def execMxst (i : Issue) (s : State) : Host.Outcome State Fault Refusal :=
  perform s (fun s => mxRun 0x5C .mxst i s)

/-! ### Waiting for tokens and handles (R118, R130) -/

/-- Steps 1 and 2 of MXW, MXT, FYW and FYT (R114, R118). -/
def waitCk (w : Word64) (test : Bool) : Ck :=
  ckAll [selCk w, modCk w 0xFFFF, noA w, noB w, argIf (wMod w 0 16 == 0), if test then pCk w else noD w]

/-- A slot named by a mask is busy. -/
def anyBusy (slots : Tbl AsyncSlot) (mask : Nat) : Bool := slots.any (fun p => bitOf mask p.1 && p.2.busy)

/-- The error of the issuing group that a wait delivers: the earliest in issue order (R84). -/
def firstError (slots : Tbl AsyncSlot) (mask gno : Nat) : Option (Nat × AsyncSlot) :=
  let mine := slots.filter (fun p => bitOf mask p.1 && p.2.group == gno && p.2.code != 0)
  match mine with
  | [] => none
  | p :: t => some (t.foldl (fun (b : Nat × AsyncSlot) q => if q.2.seq < b.2.seq then q else b) p)

/-- A wait that is not over: the path yields (R67). -/
def waitYield (s : Dev) (e : Env) : Dev := putGroup s e (yieldPath e.g)

/-- A wait of a group (R118, R130). -/
def waitOn (get : Core → Tbl AsyncSlot) (put : Core → Tbl AsyncSlot → Core) (e : Env) (s : Dev) : Dev :=
  orFail s e (waitCk e.w false)
    (let m := wMod e.w 0 16
     if anyBusy (get e.c) m then waitYield s e
     else match firstError (get e.c) m e.gno with
       | some (n, x) => preciseFault (modCore s e.core (fun c => put c (tdel (get c) n))) e x.code
       | none => complete s e e.g)

/-- A test of tokens or handles (R118, R130). -/
def testOn (get : Core → Tbl AsyncSlot) (e : Env) (s : Dev) : Dev :=
  orFail s e (waitCk e.w true)
    (complete s e (writePred e.g (wDst e.w) e.part (if anyBusy (get e.c) (wMod e.w 0 16) then 0 else 0xFFFFFFFF)))

/-- A matrix instruction behind one that is held waits (R127). DEDUCED: log entry 23. -/
def behindHold (e : Env) (s : Dev) (k : Dev) : Dev :=
  if e.c.mxHold.isSome && e.c.mxHold != some e.gno then stallAt s e .busy else k

/-- MXW (R130). -/
def execMxw (i : Issue) (s : State) : Host.Outcome State Fault Refusal :=
  perform s (fun s => issue 0x59 false i s (fun e s =>
    behindHold e s (waitOn (fun c => c.tokens) (fun c t => { c with tokens := t }) e s)))

/-- MXT (R130). -/
def execMxt (i : Issue) (s : State) : Host.Outcome State Fault Refusal :=
  perform s (fun s => issue 0x5A false i s (fun e s => behindHold e s (testOn (fun c => c.tokens) e s)))

/-! ### The sequencer (R128, R144, R145, R152, R153) -/

/-- The operation whose rows run: the first that has rows left. DEDUCED: log entry 23. -/
def mxHead (c : Core) : Option MxOp := c.mxq.find? (fun m => m.code == 0 && decide (m.next < m.rows.length))

/-- Change an operation in the queue. -/
def modMx (s : Dev) (core token : Nat) (f : MxOp → MxOp) : Dev :=
  modCore s core (fun c => { c with mxq := c.mxq.map (fun m => if m.token = token then f m else m) })

/-- An operation touches global memory. -/
def mxGlobal (o : MxOp) : Bool :=
  o.a.kind != 0 || o.b.kind != 0 || o.outKind == 1 || o.statusKind == 2

/-- An asynchronous operation may not begin: an earlier entry conflicts with one of its own (R81), or write-backs of R82 are on
their way. -/
def opHeld (c : Core) (op seq : Nat) (isGlobal : Bool) : Bool :=
  let mine := c.sb.filter (fun x => x.op == op && x.seq == seq)
  c.sb.any (fun x => decide (x.seq < seq) && mine.any (fun y =>
    x.lsSet == y.lsSet && overlaps x.base x.len y.base y.len && (x.write || y.write)))
  || (isGlobal && c.wb.any (fun w => w.op.isNone && decide (w.seq ≤ seq)))

/-- Address of row j of an operand (R136, R139). -/
def operandRow (x : MxOperand) (j : Nat) : Nat :=
  if x.kind = 2 then
    let p := x.firstRow + j
    x.pages.getD (p / 2 ^ x.rpp - x.firstPage) 0 + p % 2 ^ x.rpp * x.stride
  else x.addr + j * x.stride

/-- Address of the scale of block b of row j (R137). -/
def scaleAddr (x : MxOperand) (j b : Nat) : Nat :=
  if x.kind = 2 then operandRow x j + x.saddr % 2 ^ 32 + b else x.saddr + j * x.sstride + b

/-- Byte pieces of an operand that a MAC row reads. -/
def operandPieces (o : MxOp) (x : MxOperand) (isB : Bool) (r : MxRow) : List (Nat × Nat) :=
  let j := rowSpan o isB r
  let b := byteSpanOf o x isB r
  let s := blockSpan x r
  (List.range (j.2 + 1 - j.1)).flatMap (fun i =>
    (operandRow x (j.1 + i) + b.1, b.2 - b.1)
      :: (if x.scale = 0 then [] else [(scaleAddr x (j.1 + i) s.1, s.2 - s.1)]))

/-- Virtual sectors of byte pieces. -/
def pieceSectors (l : List (Nat × Nat)) : List Nat :=
  l.foldl (fun acc p => (List.range ((p.1 + p.2 - 1) / 32 + 1 - p.1 / 32)).foldl (fun a i => insertNat (p.1 / 32 + i) a) acc) []

/-- What was fetched of a virtual sector. -/
def gotSector (got : List (Nat × BitVec 256 × Nat)) (v : Nat) : Option (BitVec 256 × Nat) :=
  (got.find? (fun p => p.1 == v)).map (·.2)

/-- Fetch virtual sectors for an operation; true once all are there. One page is walked at a time. -/
def mxFetch (s : Dev) (core inst : Nat) (o : MxOp) (secs : List Nat) (access : Nat) : Dev × Bool :=
  let missing := secs.filter (fun v => (gotSector o.got v).isNone)
  match missing.find? (fun v => !canonical (32 * v)) with
  | some v => (modMx (openTerminal s inst core 2 access (32 * v)) core o.token (fun m => { m with code := eXlateFault }), false)
  | none =>
    let s := missing.foldl (fun s v =>
      match engLoc s core 2 inst (32 * v) access with
      | none => modMx s core o.token (fun m =>
          if m.walks.isEmpty then { m with walks := [⟨32 * v, 32 * v, access, 2⟩] } else m)
      | some loc =>
        (match bufFind (coreOf s core) o.token (loc / 32) with
         | some r =>
           modMx (modCore s core (fun c => { c with rbuf := c.rbuf.erase r })) core o.token
             (fun m => { m with got := m.got ++ [(v, r.data, r.code)] })
         | none => sendReq s core o.token (loc / 32) .read)) s
    (s, match (coreOf s core).mxq.find? (fun m => m.token == o.token) with
      | some m => missing.all (fun v => (gotSector m.got v).isSome)
      | none => false)

/-- Bytes of an operand, from the slot or from what was fetched. -/
def mxBytes (c : Core) (base : Nat) (got : List (Nat × BitVec 256 × Nat)) (isLs : Bool) (addr : Nat) : Nat → Nat
  | 0 => 0
  | n + 1 =>
    let b : Nat := if isLs then (tgetD c.ls (base + addr) 0).toNat
      else match gotSector got (addr / 32) with
        | some (d, _) => bitsOf d.toNat (8 * (addr % 32)) 8
        | none => 0
    b + 256 * mxBytes c base got isLs (addr + 1) n

/-- Raw element i of a row at an address. -/
def rawElem (rd : Nat → Nat → Nat) (addr w i : Nat) : Nat :=
  rd (addr + i * w / 8) ((i * w % 8 + w + 7) / 8) / 2 ^ (i * w % 8) % 2 ^ w

/-- The 32 raw elements that operand x supplies for chunk c to tile row or column t. -/
def rawChunk (rd : Nat → Nat → Nat) (o : MxOp) (x : MxOperand) (isB : Bool) (r : MxRow) (c t : Nat) : List Nat :=
  let w := elemWidth x.fmt
  (List.range 32).map (fun k =>
    if isB ∧ o.b.layout = 1 then rawElem rd (operandRow x (32 * c + k)) w (r.nOff + t)
    else rawElem rd (operandRow x ((if isB then r.nOff else r.mOff) + t)) w (32 * c + k))

/-- Elements with their NX16 block scales, and the factor of R165, for chunk c of tile row or column t. -/
def chunkSide (rd : Nat → Nat → Nat) (o : MxOp) (x : MxOperand) (isB : Bool) (r : MxRow) (c t : Nat) : List (FV × FV) × FV :=
  let els := (rawChunk rd o x isB r c t).map (elemVal x.fmt (x.scale == 1))
  let j := (if isB then r.nOff else r.mOff) + t
  let one : FV := .fin false 1 0
  match x.scale with
  | 1 => (els.map (fun v => (v, one)), e8m0 (rd (scaleAddr x j c) 1))
  | 2 => ((List.range 32).zip els |>.map (fun p => (p.2, ue4m4 (rd (scaleAddr x j (2 * c + p.1 / 16)) 1))),
          decodeF fmtF32 x.tscale)
  | _ => (els.map (fun v => (v, one)), one)

/-- Product of R165 for one k: elements, then A's block scale, then B's. -/
def chunkProduct (a b : FV × FV) : FV × Bool :=
  mulMark (mulMark (mulMark (a.1, false) (b.1, false)) (a.2, false)) (b.2, false)

/-- Key of accumulator word (r, n) of the tile at a unit (R131). -/
def accKey (unit r n : Nat) : Nat := (unit + n / 64) * 8192 + 64 * r + n % 64

/-- One chunk into one word. -/
def accumulateWord (f : Family) (rd : Nat → Nat → Nat) (o : MxOp) (r : MxRow) (c m n old : Nat) : Nat × Flags :=
  if f.isInt then
    (accumulateInt old (((rawChunk rd o o.a false r c m).map (fun v => signedOf v (elemWidth o.a.fmt))).zip
      ((rawChunk rd o o.b true r c n).map (fun v => signedOf v (elemWidth o.b.fmt)))), 0)
  else
    let a := chunkSide rd o o.a false r c m
    let b := chunkSide rd o o.b true r c n
    let g : FV := (mulMark (a.2, false) (b.2, false)).1
    accumulate old ((a.1.zip b.1).map (fun p => chunkProduct p.1 p.2)) g (f == .h16 || f == .f32)

/-- A MAC row on the accumulator file: chunks in increasing order, valid elements only (R144). -/
def macTile (f : Family) (rdA : Nat → Nat → Nat) (o : MxOp) (r : MxRow) (acc : Tbl Reg32) : Tbl Reg32 × Flags :=
  ((List.range r.kCount).map (· + r.kFrom)).foldl (fun (x : Tbl Reg32 × Flags) c =>
    (List.range o.mValid).foldl (fun x m =>
      (List.range o.nValid).foldl (fun (x : Tbl Reg32 × Flags) n =>
        let k := accKey r.acc m n
        let (v, fl) := accumulateWord f rdA o r c m n (tgetD x.1 k 0).toNat
        (tset x.1 k (BitVec.ofNat 32 v), x.2 ||| fl)) x) x) (acc, 0)

/-- Units of a tile (R131). -/
def tileUnits (f : Family) (u : Nat) : List Nat := if f.cols = 128 then [u, u + 1] else [u]

/-- Zero a tile (R144). -/
def clearTile (c : Core) (f : Family) (u : Nat) : Core :=
  let us := tileUnits f u
  { c with acc := c.acc.filter (fun p => !us.contains (p.1 / 8192)),
           accPoison := us.foldl (fun m x => m &&& ~~~((1 : BitVec 8) <<< x)) c.accPoison }

/-- Set the poison bits of units (R131). -/
def poisonUnits (c : Core) (us : List Nat) : Core := { c with accPoison := us.foldl (fun m x => m ||| ((1 : BitVec 8) <<< x)) c.accPoison }

/-- A tile's poison bit. -/
def tilePoisoned (c : Core) (f : Family) (u : Nat) : Bool := (tileUnits f u).any (fun x => c.accPoison.getLsbD x)

/-- The row in progress ends. -/
def mxRowDone (s : Dev) (core token : Nat) : Dev :=
  modMx s core token (fun m => { m with next := m.next + 1, outNext := 0, got := [] })

/-- A count of clock cycles, which the model leaves open, is added to a counter. DESIGN CHOICE: log entries 7, 108. -/
def bumpCycles (s : Dev) (off : Nat) : Dev :=
  let (v, s) := takeFree s
  bumpBy s off v

/-- A MAC row whose bytes are there takes effect as a whole (R144, R152, R153). -/
def macRow (s : Dev) (core base : Nat) (f : Family) (o : MxOp) (r : MxRow) : Dev :=
  let c := coreOf s core
  let bad := o.got.any (fun p => p.2.2 != 0)
  -- both readers are one function of an address: local-store addresses of one operand and virtual ones of the other are told
  -- apart by adding 2^64 to virtual ones
  let lift := fun (x : MxOperand) => if x.kind = 0 then x
    else { x with addr := x.addr + 2 ^ 64, pages := x.pages.map (· + 2 ^ 64),
                  saddr := if x.kind = 1 then x.saddr + 2 ^ 64 else x.saddr }
  let rd := fun (addr n : Nat) => if addr < 2 ^ 64 then mxBytes c base o.got true addr n
    else mxBytes c base o.got false (addr - 2 ^ 64) n
  let (acc, fl) := macTile f rd { o with a := lift o.a, b := lift o.b } r c.acc
  let c := if bad then poisonUnits { c with acc := acc } (tileUnits f r.acc) else { c with acc := acc }
  let s := modMx (setCore s core c) core o.token (fun m => { m with flags := m.flags ||| fl })
  bumpCycles (bumpCycles (bump (mxRowDone s core o.token) (Reg.MXE_CNT_MAC_ROWS core)) (Reg.MXE_CNT_BUSY_CYCLES core))
    (Reg.MXE_CNT_STALL_CYCLES core)

/-- Rounding of an element of the output (R141, R146). -/
def outRnd (o : MxOp) (q r n : Nat) : Rnd :=
  match o.orm % 4 with
  | 0 => .rne
  | 1 => .rz
  | _ => .sr (draw32 o.seed o.step (128 * r + n) (o.odraw + q) 1)

/-- Tile row r through the output stage: elements, scale bytes, flags. DEDUCED: log entry 21. -/
def outTileRow (c : Core) (f : Family) (o : MxOp) (row : MxRow) (q r : Nat) : List Nat × List Nat × Flags :=
  let word := fun (n : Nat) => (tgetD c.acc (accKey row.acc r n) 0).toNat
  if o.ofmt = 10 then ((List.range o.nValid).map word, [], 0)
  else
    let ps := (List.range o.nValid).map (fun n => outProduct f (word n) o.omul)
    let (el, sc, fl) := outRow o.ofmt o.oscale (dyOf (decodeF fmtF32 o.otscale)) (bitOf o.orm 2)
      ((ps.map (·.1)).zip ((List.range o.nValid).map (outRnd o q r)))
    (el, sc, ps.foldl (fun a p => a ||| p.2) fl)

/-- Elements of w bits as one number, element 0 lowest. -/
def packBits (w : Nat) : List Nat → Nat
  | [] => 0
  | a :: t => a % 2 ^ w + 2 ^ w * packBits w t

/-- Bits of a last byte that an output row leaves alone, as a count of valid bits in it (0: the row ends on a byte). -/
def tailBits (o : MxOp) : Nat := o.nValid * elemWidth o.ofmt % 8

/-- Address of tile row r of an OUT row (R148). -/
def outRowAddr (o : MxOp) (row : MxRow) (r : Nat) : Nat :=
  o.outAddr + (row.mOff + r) * o.outStride + row.nOff * elemWidth o.ofmt / 8

/-- Address of its scales. -/
def outScaleAddr (o : MxOp) (row : MxRow) (r : Nat) : Nat :=
  o.osAddr + (row.mOff + r) * o.osStride + row.nOff / blockLen o.oscale

/-- Bytes of one tile row of output. -/
def outRowBytes (o : MxOp) : Nat := (o.nValid * elemWidth o.ofmt + 7) / 8

/-- Write bytes of an operation: into the slot, or as writes on their way to memory (R152, R195). Every page is translated. -/
def mxPut (s : Dev) (core inst base : Nat) (o : MxOp) (isLs : Bool) (addr n v : Nat) (poison : Bool) : Dev :=
  if isLs then modCore s core (fun c => lsWrite c (base + addr) n v)
  else
    (pieceSectors [(addr, n)]).foldl (fun s vs =>
      match engLoc s core 2 inst (32 * vs) 1 with
      | none => s
      | some loc =>
        let lo := max addr (32 * vs)
        let hi := min (addr + n) (32 * vs + 32)
        let data := BitVec.ofNat 256 (bitsOf v (8 * (lo - addr)) (8 * (hi - lo)) * 2 ^ (8 * (lo - 32 * vs)))
        modCore s core (fun c =>
          let c := l1Drop c (loc / 32)
          { c with wb := c.wb ++ [⟨loc / 32, data, byteSpan (lo - 32 * vs) (hi - lo), poison, some o.token, noGroup, c.seq, none⟩] })) s

/-- Pages of byte pieces that are not translated for writing: the first is walked. False where one is missing. -/
def mxWritable (s : Dev) (core inst : Nat) (o : MxOp) (pieces : List (Nat × Nat)) : Dev × Bool :=
  let missing := (pieceSectors pieces).filter (fun v => (engLoc s core 2 inst (32 * v) 1).isNone)
  match missing with
  | [] => (s, true)
  | v :: _ =>
    (match missing.find? (fun v => !canonical (32 * v)) with
     | some x => modMx (openTerminal s inst core 2 1 (32 * x)) core o.token (fun m => { m with code := eXlateFault })
     | none => modMx s core o.token (fun m => { m with walks := [⟨32 * v, 32 * v, 1, 2⟩] }), false)

/-- Sectors that the elements of an OUT row touch. -/
def outSectors (o : MxOp) (row : MxRow) : Nat :=
  (List.range o.mValid).foldl (fun n r =>
    let a := outRowAddr o row r
    n + ((a + outRowBytes o - 1) / 32 + 1 - a / 32)) 0

/-- Tile rows of an OUT row from outNext on, then its status word, then the end of the row. -/
def outRowsFrom (s : Dev) (core inst base : Nat) (f : Family) (o : MxOp) (row : MxRow) (q : Nat) (bad : Bool) : Nat → Dev
  | 0 => s
  | fuel + 1 =>
    match (coreOf s core).mxq.find? (fun m => m.token == o.token) with
    | none => s
    | some o =>
      if o.outNext < o.mValid then
        let r := o.outNext
        let ls := o.outKind == 0
        let a := outRowAddr o row r
        let n := outRowBytes o
        let (el, sc, fl) := outTileRow (coreOf s core) f o row q r
        let sa := outScaleAddr o row r
        let (s, ok) := if ls then (s, true)
          else mxWritable s core inst o ((a, n) :: (if sc.isEmpty then [] else [(sa, sc.length)]))
        if !ok then s
        else
          let (s, ok) := if ls || tailBits o = 0 then (s, true) else mxFetch s core inst o [(a + n - 1) / 32] 1
          if !ok then s
          else
            let got := match (coreOf s core).mxq.find? (fun m => m.token == o.token) with
              | some m => m.got
              | none => []
            let last := mxBytes (coreOf s core) base got ls (a + n - 1) 1
            let keep := if tailBits o = 0 then 0 else last / 2 ^ tailBits o * 2 ^ (tailBits o + 8 * (n - 1))
            let s := mxPut s core inst base o ls a n (packBits (elemWidth o.ofmt) el + keep) bad
            let s := if sc.isEmpty then s else mxPut s core inst base o ls sa sc.length (packBits 8 sc) bad
            let s := modMx s core o.token (fun m => { m with flags := m.flags ||| fl, outNext := m.outNext + 1, got := [] })
            outRowsFrom s core inst base f o row q bad fuel
      else
        let st := (if bad then ePoison else 0) + 2 ^ 16 * (if bad then min 65535 (outSectors o row) else 0)
        let sa := o.statusAddr + 4 * q
        let (s, ok) := if o.statusKind = 2 then mxWritable s core inst o [(sa, 4)] else (s, true)
        if !ok then s
        else
          let s := if o.statusKind = 0 then s else mxPut s core inst base o (o.statusKind == 1) sa 4 st false
          let s := if row.zeroAfter then modCore s core (fun c => clearTile c f row.acc) else s
          let s := bump (mxRowDone s core o.token) (Reg.MXE_CNT_OUT_ROWS core)
          if bad then
            let s := bump s (Reg.MXE_CNT_POISON_TILES core)
            match (coreOf s core).disp with
            | some d => modDisp s d (fun x => { x with poisonTiles := x.poisonTiles + 1 })
            | none => s
          else s

/-- A verdict on a translation fault, or a departed device, ends an operation (R130, R153). -/
def asyncDead (faults : List FaultWait) (got : List (Nat × BitVec 256 × Nat)) : Option Nat :=
  match failedVerdict faults with
  | some c => some c
  | none => (got.find? (fun p => p.2.2 != 0 && p.2.2 != ePoison && p.2.2 != eUncorr)).map (·.2.2)

/-- One row of the head operation, or as much of it as can be done now. DEDUCED: log entry 21. -/
def mxRow (s : Dev) (core : Nat) : Dev :=
  let c := coreOf s core
  match mxHead c, c.disp with
  | some o, some dn =>
    (match tget s.disp dn, mxFamily o, o.rows[o.next]? with
     | some d, some f, some r =>
       let base := slotBase c d.shape o.set
       if !o.walks.isEmpty || o.faults.any (fun x => x.verdict.isNone) then s
       else if opHeld c o.token o.seq (mxGlobal o) then s
       else match asyncDead o.faults o.got with
         | some code => modMx s core o.token (fun m => { m with code := code })
         | none =>
           (match r.op with
            | 1 => mxRowDone (modCore s core (fun c => clearTile c f r.acc)) core o.token
            | 2 =>
              let pieces := (if o.a.kind = 0 then [] else operandPieces o o.a false r)
                ++ (if o.b.kind = 0 then [] else operandPieces o o.b true r)
              let (s, ok) := mxFetch s core d.inst o (pieceSectors pieces) 0
              if !ok then s
              else (match (coreOf s core).mxq.find? (fun m => m.token == o.token) with
                | some o => (match asyncDead [] o.got with
                  | some code => modMx s core o.token (fun m => { m with code := code })
                  | none => macRow s core base f o r)
                | none => s)
            | _ =>
              let q := ((o.rows.take o.next).filter (fun x => x.op == 3)).length
              outRowsFrom s core d.inst base f o r q (tilePoisoned c f r.acc) (o.mValid + 2))
     | _, _, _ => s)
  | _, _ => s

/-- What the storage that a row reads is found to hold (R152, R480): an uncorrectable word of the accumulator file sets its unit's poison bit, and one of an
operand in the local store the bits of the row's tile. The word's bits are left open. DESIGN CHOICE: log entry 7. DEDUCED: log entry 119. -/
def mxStorage (s : Dev) (core : Nat) (sram : MxSram) : Dev :=
  let c := coreOf s core
  match mxHead c with
  | none => s
  | some o =>
    (match mxFamily o, o.rows[o.next]? with
     | some f, some r =>
       (match sram with
        | .ok => s
        | .corrected => bump s Reg.BRG_CNT_SRAM_CORRECTED
        | .operand off =>
          if r.op = 2 ∧ (o.a.kind = 0 ∨ o.b.kind = 0) then
            let (v, s) := takeFree s
            bump (setCore s core (poisonUnits (lsWrite c (off / 4 * 4) 4 v) (tileUnits f r.acc))) Reg.BRG_CNT_SRAM_UNCORR
          else s
        | .acc unit word =>
          if r.op ≠ 1 ∧ (tileUnits f r.acc).contains unit then
            let (v, s) := takeFree s
            bump (setCore s core (poisonUnits { c with acc := tset c.acc (8192 * unit + word) (BitVec.ofNat 32 v) } [unit])) Reg.BRG_CNT_SRAM_UNCORR
          else s)
     | _, _ => s)

/-- MX_ROW (R144, R480). `sram` is what the check of the storage that the row reads finds. DESIGN CHOICE: log entry 15. -/
def execMxRow (core : Nat) (sram : MxSram) (s : State) : Host.Outcome State Fault Refusal :=
  perform s (fun s => syncMx (mxRow (mxStorage s core sram) core) core)

/-- What an ended asynchronous operation leaves its group with (R84, R118, R130): a delivered-later error, or where the group has
ended already a charge. -/
def chargeEnded (c : Core) (slot : AsyncSlot) (code : Nat) : Core :=
  if code = 0 then c
  else { c with groups := tmod c.groups slot.group (fun g => if g.done then charge g code slot.addr slot.seq else g) }

/-- MX_TOKEN_COMPLETE (R129, R130, R153): every row done or the operation in error, and every write accepted. -/
def mxComplete (s : Dev) (core token : Nat) : Dev :=
  let c := coreOf s core
  match c.mxq.find? (fun m => m.token == token), tget c.tokens token with
  | some o, some slot =>
    if (o.code == 0 && decide (o.next < o.rows.length)) || c.wb.any (fun w => w.op == some token) then s
    else
      let done := match tget c.groups o.group with
        | some g => g.done
        | none => true
      let c := { c with mxq := c.mxq.filter (fun m => m.token != token), sb := c.sb.filter (fun x => x.op != token),
                        rbuf := c.rbuf.filter (fun r => r.tag != token),
                        tokens := if o.code = 0 || done then tdel c.tokens token
                          else tset c.tokens token { slot with busy := false, code := o.code },
                        groups := tmod c.groups o.group (fun g => raiseFlags g o.flags) }
      let s := traceCore (setCore s core (releaseSet (chargeEnded c slot o.code) o.set)) 3 1 core slot.addr o.group o.code token
      { s with net := tfilter s.net (fun _ r => !(r.core == core && r.tag == token)) }
  | _, _ => s

/-- MX_TOKEN_COMPLETE (R129). -/
def execMxTokenComplete (core token : Nat) (s : State) : Host.Outcome State Fault Refusal :=
  perform s (fun s => syncMx (mxComplete s core token) core)

end Sys2Proof.Machine
end

