-- ==== Sys2Proof/Machine/Dispatches.lean ====
section
/-!
DEFINITION. Sessions as entries, the end of dispatches, and faults that stop an instance (R300, R408, R416, R494, R534).
-/
namespace Sys2Proof.Machine

/-! ### Session entries (R300) -/

/-- The instance that holds a session index (R399). -/
def holderOfSession (s : Dev) (n : Nat) : Nat :=
  match (List.range 32).find? (fun k => insState s (k + 1) != 0 && decide (fget s (RF.INS_SESSIONS_FIRST (k + 1)) ≤ n)
      && decide (n < fget s (RF.INS_SESSIONS_FIRST (k + 1)) + fget s (RF.INS_SESSIONS_COUNT (k + 1)))) with
  | some k => k + 1
  | none => 0

/-- A Closed entry (R301): everything clear except INSTANCE. -/
def Session.closed (inst : Nat) : Session :=
  { state := .closed, defer := none, cls := 0, inst := inst, pending := 0, binding := 0, cplRing := 0, step := 0, seed := 0, kvList := 0,
    ioVa := 0, energy := 0, oldest := 0, lastCode := 0, moving := none, steps := [], arrivals := [], ended := 0, away := false }

/-- A session's entry. -/
def sesAt (s : Dev) (n : Nat) : Session := tgetD s.fe.sessions n (Session.closed (holderOfSession s n))

/-- Write a session's entry, keeping SES_STATUS and SES_CNT_FAILED. -/
def putSession (s : Dev) (n : Nat) (x : Session) : Dev :=
  let old := sesAt s n
  let d := fun (p : SesState → Bool) => (b2n (p x.state) : Int) - (b2n (p old.state) : Int)
  let s := fadj s RF.SES_STATUS_OPEN (d (fun t => t != .closed))
  let s := fadj s RF.SES_STATUS_RUNNING (d (fun t => t == .running))
  let s := fadj s RF.SES_STATUS_PARKED (d (fun t => t == .parked))
  let s := if x.state = .failed ∧ old.state ≠ .failed then bump s Reg.SES_CNT_FAILED else s
  { s with fe := { s.fe with sessions := if x.state = .closed then tdel s.fe.sessions n else tset s.fe.sessions n x } }

/-- The session cache takes an entry (R300): a Running session's entry is never evicted. -/
def touchSession (s : Dev) (n : Nat) : Dev :=
  if s.fe.cache.contains n then s
  else
    let c := if s.fe.cache.length < 16384 then s.fe.cache
      else match s.fe.cache.find? (fun k => (sesAt s k).state != .running) with
        | some k => s.fe.cache.erase k
        | none => s.fe.cache
    bump { s with fe := { s.fe with cache := c ++ [n] } } Reg.SES_CNT_CACHE_MISSES

/-! ### Results of a dispatch (R84, R180, R299) -/

/-- Groups of a dispatch, over its cores. -/
def dispGroups (s : Dev) (d : Dispatch) : List (Nat × Group) :=
  d.cores.foldl (fun l c => l ++ (coreOf s c).groups) []

/-- Sticky flags of a dispatch. -/
def dispFlags (s : Dev) (d : Dispatch) : Flags := (dispGroups s d).foldl (fun f p => f ||| p.2.flags) d.flags

/-- The first charge of a group in its issue order. -/
def firstCharge (g : Group) : Option Charge :=
  match g.charges with
  | [] => none
  | c :: t => some (t.foldl (fun (b : Charge) x => if x.seq < b.seq then x else b) c)

/-- Groups that faulted, with the charge each is counted by. -/
def faultedGroups (s : Dev) (d : Dispatch) : List (Nat × Charge) :=
  (dispGroups s d).filterMap (fun p => (firstCharge p.2).map (fun c => (p.1, c)))

/-- The lowest-numbered faulted group. -/
def firstFaulted (l : List (Nat × Charge)) : Option (Nat × Charge) :=
  match l with
  | [] => none
  | c :: t => some (t.foldl (fun (b : Nat × Charge) x => if x.1 < b.1 then x else b) c)

/-- A core leaves its dispatch: everything of its groups goes; with `discard` its L1 is invalidated without write-back (R408). -/
def Core.vacate (c : Core) (discard : Bool) : Core :=
  { c with disp := none, groups := [], sets := [], nextSet := 0, ls := [], l1 := if discard then [] else c.l1, sb := [], sbWait := [],
           mxHold := none, tokens := [], mxq := [], handles := [], ferries := [], rbuf := [], abuf := [], releasing := false }

/-- Vacate a core; its requests are forgotten. -/
def vacate (s : Dev) (core : Nat) (discard : Bool) : Dev :=
  let s := modCore s core (fun c => Core.vacate c discard)
  syncMx { s with net := s.net.filter (fun p => p.2.core != core) } core

/-- A dispatch ends and frees its cores. -/
def removeDispatch (s : Dev) (n : Nat) (discard : Bool) : Dev :=
  match tget s.disp n with
  | none => s
  | some d =>
    let s := d.cores.foldl (fun s c => if (coreOf s c).disp = some n then vacate s c discard else s) s
    { s with disp := tdel s.disp n }

/-! ### Stopping an instance (steps 1 and 2 of R408) -/

/-- Islands that an instance holds (R397). -/
def heldIslands (s : Dev) (i : Nat) : List Nat := setBitsOf 44 (fget s (RF.INS_ISLANDS_ISLANDS i))

/-- Open fault records and batches of an instance are discarded. -/
def dropFaults (s : Dev) (i : Nat) : Dev :=
  let s := { s with xl := { s.xl with recs := tfilter s.xl.recs (fun _ r => r.inst != i) } }
  let s := modFlt s i (fun f => { f with openTick := none, waitedFull := false })
  showStalled (fset (fset s (RF.FLT_STATUS_OPEN_RECORDS i) 0) (RF.FLT_STATUS_UNRESUMED i) 0) i

/-- Every launch and step of an instance ends without a completion, its fault records are discarded, and the L1s of its cores are
invalidated without write-back. Sessions that were Running fail. DEDUCED: log entry 46. -/
def stopWork (s : Dev) (i : Nat) : Dev :=
  let mine := s.disp.filter (fun p => p.2.inst == i)
  let s := mine.foldl (fun s p =>
    let s := p.2.slots.foldl (fun s sl =>
      let x := sesAt s sl.session
      if x.state = .running then putSession s sl.session { x with state := .failed, defer := none } else s) s
    let s := match p.2.source with
      | some k => dropStore s k
      | none => s
    removeDispatch s p.1 true) s
  let s := (heldIslands s i).foldl (fun s isl =>
    (List.range 4).foldl (fun s c => modCore s (4 * isl + c) (fun x => { x with l1 := [] })) s) s
  dropFaults s i

/-! ### Instance-fatal faults (R416, R494, R534) -/

/-- Count a fault of R494 and enter it in the log. -/
def countFatal (s : Dev) (i : Nat) : Dev :=
  let off := Reg.INS_CNT_FATAL i
  let old := regRead s off
  let s := bump s off
  logAdd s 5 0 0 15 off i old (regRead s off)

/-- An instance-fatal fault of an instance 1 to 32 sets Error; one of instance 0 ends only the work that met it, which its own rule does
(R534). DEDUCED: log entry 46. -/
def instanceFatal (s : Dev) (i : Nat) : Dev :=
  if insState s i = 5 then s
  else if i = 0 then countFatal s 0
  else stopWork (fset (countFatal s i) (RF.INS_STATUS_STATE i) 5) i

end Sys2Proof.Machine
end

