-- ==== Sys2Proof/Machine/Pages.lean ====
section
/-!
DEFINITION. The translation rows (chapter 10): walks, fault batches, invalidation with drain, and the commands of R264 to R280; and page
moves (R252 to R255).
-/
namespace Sys2Proof.Machine

/-! ### TRANSLATION_WALK (R267 to R276) -/

/-- The group, matrix operation or ferry that an engine works for: walks it needs and faults it waits on. -/
def userOf (c : Core) (engine tag : Nat) : Option (List Walk × List FaultWait) :=
  if tag ≥ 64 then (tget c.groups (tag - 64)).map (fun g => (g.walks, g.faults))
  else if engine = 3 then (tget c.ferries tag).map (fun f => (f.walks, f.faults))
  else (c.mxq.find? (fun m => m.token == tag)).map (fun m => (m.walks, m.faults))

/-- Change what a user waits for. -/
def modUser (c : Core) (engine tag : Nat) (f : List Walk → List FaultWait → List Walk × List FaultWait) : Core :=
  if tag ≥ 64 then { c with groups := tmod c.groups (tag - 64) (fun g =>
    let r := f g.walks g.faults
    { g with walks := r.1, faults := r.2 }) }
  else if engine = 3 then { c with ferries := tmod c.ferries tag (fun x =>
    let r := f x.walks x.faults
    { x with walks := r.1, faults := r.2 }) }
  else { c with mxq := c.mxq.map (fun m => if m.token = tag then
    let r := f m.walks m.faults
    { m with walks := r.1, faults := r.2 } else m) }

/-- The walk that an engine needs: one that its user asked for, or for FETCH the page of the instruction a group is to run (R87).
DESIGN CHOICE: log entry 24. -/
def neededWalk (c : Core) (engine tag va : Nat) : Option Walk :=
  if engine = 0 then
    match tget c.groups (tag - 64) with
    | some g => (match g.run with
      | some p => if tag ≥ 64 ∧ !g.done ∧ (va / 4096 = p.pc / 4096 ∨ va / 4096 = (p.pc + 8) / 4096) then some ⟨va, 0, 3, 0⟩ else none
      | none => none)
    | none => none
  else match userOf c engine tag with
    | some (ws, _) => ws.find? (fun w => w.va / 4096 == va / 4096 && w.engine == engine)
    | none => none

/-- The L2 buffer of the island, and on a miss the walk, which fills it (R269). -/
def walkFor (s : Dev) (core inst va access : Nat) : Dev × WalkRes :=
  match s.xl.l2.find? (fun p => p.1 == core / 4 && p.2.serves inst va access) with
  | some p => (s, .ok p.2)
  | none =>
    match walk (bump (bump s (Reg.TRN_CNT_L2_MISSES inst)) (Reg.TRN_CNT_WALKS inst)) inst va access with
    | (s, .ok t) => ({ s with xl := { s.xl with l2 := tlbPut s.xl.l2 (core / 4) 8192 t } }, .ok t)
    | r => r

/-- A walk is done with: it leaves its user's list, with what its user now waits on. -/
def endWalk (s : Dev) (core tag : Nat) (w : Walk) (f : Option FaultWait) : Dev :=
  modCore s core (fun c => modUser c w.engine tag (fun ws fs =>
    (ws.filter (fun x => !(x.va / 4096 == w.va / 4096 && x.engine == w.engine)), match f with
      | some f => fs ++ [f]
      | none => fs)))

/-- TRANSLATION_WALK: the walk of one access of an engine, with its outcome. A non-canonical fetch ends at once (R272). -/
def translationWalk (s : Dev) (core engine tag va : Nat) : Dev :=
  let c := coreOf s core
  match c.disp.bind (fun n => tget s.disp n), neededWalk c engine tag va with
  | some d, some w =>
    if !canonical va then
      endWalk (openTerminal s d.inst core engine w.access va) core tag w (some ⟨0, w.key, some eXlateFault⟩)
    else match walkFor s core d.inst va w.access with
      | (s, .ok t) => endWalk (modCore s core (fun c => { c with tlb := tlbPut c.tlb engine 64 t })) core tag w none
      | (s, .moving) => s
      | (s, .bad code) =>
        if d.inst = 0 then endWalk (countFatal s 0) core tag w (some ⟨0, w.key, some code⟩) else instanceFatal s d.inst
      | (s, .fault cause level) =>
        (match openFault s d.inst core engine cause level w.access va with
         | (s, .joined n) => endWalk s core tag w (some ⟨n, w.key, none⟩)
         | (s, .ended code) => endWalk s core tag w (some ⟨0, w.key, some code⟩)
         | (s, .full) => s)
  | _, _ => s

/-- TRANSLATION_WALK (R264 to R276): engine 0 to 3 of a core (R269), for the group 64 + n, token or handle `tag`. -/
def execTranslationWalk (core engine tag va : Nat) (s : State) : Host.Outcome State Fault Refusal :=
  perform s (fun s => whole s (fun s => translationWalk s core engine tag va))

/-! ### Fault batches (R273, R275) -/

/-- FAULT_BATCH_CLOSE (R273). -/
def execFaultBatchClose (inst : Nat) (s : State) : Host.Outcome State Fault Refusal := perform s (fun s => closeBatch s inst)

/-- Batches of an instance that are closed and not resumed. -/
def unresumed (s : Dev) (i : Nat) : List Nat :=
  s.xl.recs.foldl (fun l p => if p.2.inst = i ∧ (p.2.phase = 1 ∨ p.2.phase = 2) then insertNat p.2.batch l else l) []

/-- The bytes of a fault record (R277). -/
def fltBytes (r : FltRec) : List Byte :=
  leBytes 8 r.va ++ leBytes 2 r.engines ++ leBytes 1 r.island ++ leBytes 1 r.cause ++ leBytes 1 r.access ++ leBytes 1 r.level
    ++ leBytes 1 (b2n r.terminal) ++ [0] ++ leBytes 4 r.batch ++ leBytes 2 r.index ++ leBytes 2 0 ++ leBytes 4 r.tick ++ leBytes 4 0

/-- Location of a byte of an instance's fault ring, which lies in host memory (R275). DEDUCED: log entry 59. -/
def fltLoc (s : Dev) (i off : Nat) : Nat := hostLoc s i ((fltOf s i).base + off)

/-- The oldest closed batch of an instance that is not written. -/
def closedBatch (s : Dev) (i : Nat) : Option Nat :=
  (s.xl.recs.foldl (fun l p => if p.2.inst = i ∧ p.2.phase = 1 then insertNat p.2.batch l else l) []).head?

/-- Write a closed batch: its records, then the header, then the message. -/
def writeBatch (s : Dev) (i b : Nat) : Dev :=
  let recs := (s.xl.recs.filter (fun p => p.2.inst == i && p.2.batch == b)).map (·.2)
  let f := fltOf s i
  let cap := 2 ^ f.sizeLog2
  let s := recs.foldl (fun s r => (devWrite s (fltLoc s i (64 + 32 * ((f.producer + r.index) % cap))) (fltBytes r)).1) s
  let s := modFlt s i (fun f => { f with producer := f.producer + recs.length, lastBatch := b, waitedFull := false })
  let s := (devWrite s (fltLoc s i 0) (leBytes 8 (fltOf s i).producer ++ leBytes 4 b)).1
  let s := { s with xl := { s.xl with recs := tmap s.xl.recs (fun _ r => if r.inst = i ∧ r.batch = b then { r with phase := 2 } else r) } }
  sendMsix (bumpBy s (Reg.FLT_CNT_RECORDS i) recs.length) i f.vector

/-- FAULT_BATCH_WRITE (R275, R494, R534): the oldest closed batch is written where the ring has room. `ringBad` says that the ring was found
uncorrectable or poisoned. -/
def execFaultBatchWrite (inst : Nat) (ringBad : Bool) (s : State) : Host.Outcome State Fault Refusal :=
  perform s (fun s => whole s (fun s =>
    match closedBatch s inst with
    | none => s
    | some b =>
      let f := fltOf s inst
      if !f.ringSet then s
      else if ringBad then modFlt (instanceFatal s inst) inst (fun f => { f with ringSet := false })
      else if f.producer + 256 > f.consumed + 2 ^ f.sizeLog2 then
        (if f.waitedFull then s else modFlt (bump s (Reg.FLT_CNT_RING_FULL inst)) inst (fun f => { f with waitedFull := true }))
      else writeBatch s inst b))

/-- SET_FAULT_RING (R275). DEDUCED: log entry 59. -/
def execSetFaultRing (c : Cmd) (s : State) : Host.Outcome State Fault Refusal :=
  perform s (fun s => command 0x32 c s (fun x s =>
    let i := eb x.e 16 1
    let size := eb x.e 17 1
    let vec := eb x.e 18 2
    let base := eb x.e 24 8
    afterChecks s ([(decide (size < 9) || decide (size > 16) || decide (vec > 63), eArg),
        (base % 4096 == 0 && !inBinding s i base (64 + 32 * 2 ^ size), eArg), (base % 4096 != 0, eAlign)] ++ namedState s i
        ++ [((fltOf s i).openTick.isSome || !(unresumed s i).isEmpty, eBusy)])
      (let s := modFlt s i (fun f => { f with base := base, sizeLog2 := size, vector := vec, ringSet := true, producer := 0, consumed := 0 })
       (fset (fset (fset s (RF.FLT_RING_SIZE_LOG2 i) size) (RF.FLT_RING_VECTOR i) vec) (RF.FLT_RING_BASE i) (base / 4096), .done Ret.ok))))

/-- Waits on a record end with a verdict: 0 forgets them, so that the access walks again. -/
def settleFaults (rec verdict : Nat) (fs : List FaultWait) : List FaultWait :=
  if verdict = 0 then fs.filter (fun f => f.record != rec)
  else fs.map (fun f => if f.record = rec ∧ f.verdict.isNone then { f with verdict := some verdict } else f)

/-- A record gets its verdict in every core that waits on it (R278). -/
def settleRecord (s : Dev) (n verdict : Nat) : Dev :=
  { s with cores := tmap s.cores (fun _ c =>
      { c with groups := tmap c.groups (fun _ g => { g with faults := settleFaults n verdict g.faults }),
               mxq := c.mxq.map (fun m => { m with faults := settleFaults n verdict m.faults }),
               ferries := tmap c.ferries (fun _ f => { f with faults := settleFaults n verdict f.faults }) }) }

/-- Buffered translations of an instance that overlap a range are dropped. -/
def dropBuffered (s : Dev) (inst : Nat) (all : Bool) (lo hi : Nat) : Dev :=
  let gone := fun (t : Tlb) => t.inst == inst && (all || (decide (t.va < hi) && decide (lo < t.va + t.size)))
  { s with cores := tmap s.cores (fun _ c => { c with tlb := c.tlb.filter (fun p => !gone p.2) }),
           xl := { s.xl with l2 := s.xl.l2.filter (fun p => !gone p.2) } }

/-- One record of a batch is resumed. -/
def resumeRecord (s : Dev) (n : Nat) (r : FltRec) (verdict : Nat) (mask : Nat) : Dev :=
  let fails := verdict == 1 || (verdict == 2 && bitOf mask r.index)
  let s := if fails then settleRecord s n (causeCode r.cause)
    else settleRecord (dropBuffered s r.inst false (r.page * 4096) (r.page * 4096 + 4096)) n 0
  { s with xl := { s.xl with recs := tdel s.xl.recs n } }

/-- RESUME_BATCH (R278). -/
def execResumeBatch (c : Cmd) (s : State) : Host.Outcome State Fault Refusal :=
  perform s (fun s => command 0x33 c s (fun x s =>
    let i := eb x.e 16 1
    let verdict := eb x.e 17 1
    let b := eb x.e 20 4
    let consumed := eb x.e 24 8
    let recs := s.xl.recs.filter (fun p => p.2.inst == i && p.2.batch == b && p.2.phase == 2)
    let f := fltOf s i
    afterChecks s ([(decide (verdict ≥ 3), eReserved), (decide (consumed > f.producer) || decide (consumed < f.consumed), eArg)]
        ++ namedState s i ++ [(recs.isEmpty, eState)])
      (let s := recs.foldl (fun s p => resumeRecord s p.1 p.2 verdict (eb x.e 32 32)) s
       let s := modFlt s i (fun f => { f with consumed := consumed })
       (showStalled (fset s (RF.FLT_STATUS_UNRESUMED i) (min 255 (unresumed s i).length)) i, .done Ret.ok))))

/-! ### SET_XLATE_ROOT and XLATE_INVALIDATE (R264, R280) -/

/-- SET_XLATE_ROOT (R264). -/
def execSetXlateRoot (c : Cmd) (s : State) : Host.Outcome State Fault Refusal :=
  perform s (fun s => command 0x30 c s (fun x s =>
    let i := eb x.e 16 1
    let root := eb x.e 24 8
    afterChecks s ([(decide (root ≥ 2 ^ 42), eArg), (root % 4096 != 0, eAlign)] ++ namedState s i
        ++ [(s.disp.any (fun p => p.2.inst == i) || s.fe.bindings.any (fun p => p.2.inst == i), eBusy)])
      (fset (fset s (RF.TRN_ROOT_VALID i) 1) (RF.TRN_ROOT_ROOT i) (root / 4096), .done Ret.ok)))

/-- Cores of the islands that an instance holds. DEDUCED: log entry 30. -/
def instCores (s : Dev) (i : Nat) : List Nat := (heldIslands s i).foldl (fun l k => l ++ [4 * k, 4 * k + 1, 4 * k + 2, 4 * k + 3]) []

/-- Steps 1 and 2 of R280: translations are dropped; what was issued under them is noted for the drain. The L1s of the instance's cores write
back and drop their sectors, so that a store made under an old translation reaches its visibility point. DEDUCED: log entries 30, 57. -/
def beginInval (s : Dev) (inst : Nat) (all : Bool) (base pages : Nat) (pin : Bool) (cmd : Option Nat) : Dev :=
  let s := dropBuffered s inst all base (base + 4096 * pages)
  let cores := instCores s inst
  let s := cores.foldl (fun s c => modCore s c (fun x => { l1PushAll x with l1 := [] })) s
  let reqs := (s.net.filter (fun p => cores.contains p.2.core)).map (·.1)
  let writes := cores.foldl (fun l c => l ++ ((coreOf s c).wb.map (fun w => (c, w.seq)))) []
  { s with xl := { s.xl with invals := s.xl.invals ++ [⟨inst, all, base, pages, pin, reqs, writes, s.time.hw, cmd⟩] } }

/-- XLATE_INVALIDATE (R280): it completes when its drain has. DEDUCED: log entry 30. -/
def execXlateInvalidate (c : Cmd) (s : State) : Host.Outcome State Fault Refusal :=
  perform s (fun s => command 0x31 c s (fun x s =>
    let i := eb x.e 16 1
    let mode := eb x.e 17 1
    let pin := eb x.e 18 1
    let base := eb x.e 24 8
    let pages := eb x.e 32 8
    afterChecks s ([(decide (mode > 1) || decide (pin > 1), eArg), (mode == 0 && (pages == 0 || decide (pages > 2 ^ 45)), eArg),
        (mode == 0 && base % 4096 != 0, eAlign)] ++ namedState s i)
      (fadj (beginInval s i (mode == 1) base pages (pin == 1) (some x.key)) (RF.TRN_STATUS_INVALIDATES_BUSY i) 1, .later)))

/-! ### Leaves and page moves (R252 to R255) -/

/-- The leaf of a virtual address: where its entry lies, the entry, and whether it is a 64 KiB one. -/
def leafFrom (s : Dev) (va : Nat) (t64 : Bool) (table : Nat) : Nat → Dev × Option (Nat × Nat × Bool)
  | 0 =>
    let (s, b, c) := devRead s (table + 8 * tableIndex 0 t64 va) 8
    (s, if c = 0 ∧ eV (ofLe b) ∧ eKind (ofLe b) = 1 then some (table + 8 * tableIndex 0 t64 va, ofLe b, t64) else none)
  | n + 1 =>
    let (s, b, c) := devRead s (table + 8 * tableIndex (n + 1) t64 va) 8
    let e := ofLe b
    if c ≠ 0 ∨ !eV e then (s, none)
    else if eKind e = 1 then (s, some (table + 8 * tableIndex (n + 1) t64 va, e, false))
    else leafFrom s va (eKind e == 2) (eAddr e) n

/-- The leaf of a virtual address of an instance. -/
def leafAt (s : Dev) (inst va : Nat) : Dev × Option (Nat × Nat × Bool) :=
  if fget s (RF.TRN_ROOT_VALID inst) = 0 ∨ !canonical va then (s, none)
  else leafFrom s va false (fget s (RF.TRN_ROOT_ROOT inst) * 4096) 4

/-- The migratable leaf of a virtual address: where it lies and its entry. -/
def migLeafAt (s : Dev) (inst va : Nat) : Dev × Option (Nat × Nat) :=
  match leafAt s inst va with
  | (s, some (a, e, true)) => (s, if eMig e && eTarget e == 0 then some (a, e) else none)
  | (s, _) => (s, none)

/-- A 64 KiB frame of tier A. -/
def pageInA (p : Nat) : Bool := decide (p * 2 ^ 16 < tierB)

/-- A 64 KiB frame has a channel that is a hole. -/
def pageHasHole (s : Dev) (p : Nat) : Bool :=
  (List.range 256).any (fun i => match chanOf s (p * 65536 + 256 * i) with
    | some id => isHole s id
    | none => true)

/-- A free frame of an instance's pool in a tier, with the source's home attribute (R217). -/
def poolFrame (s : Dev) (inst src : Nat) (a : Bool) : Option Nat :=
  (tgetD s.mem.pools inst []).find? (fun p => pageInA p == a && homeSetOf s (p / 32) == homeSetOf s (src / 32) && !pageHasHole s p)

/-- Steps 1 and 2 of R254: the leaf is marked as moving, its translations are dropped, and the destination leaves the pool. -/
def startMove (s : Dev) (inst va leaf e dst : Nat) (session : Option Nat) : Dev :=
  let va := va / 65536 * 65536
  let (s, _) := devWrite s leaf (leBytes 8 (setBits e 9 1 1))
  let s := beginInval s inst false va 16 false none
  { s with mem := { s.mem with
      pools := tset s.mem.pools inst ((tgetD s.mem.pools inst []).erase dst),
      moves := s.mem.moves ++ [{ inst := inst, va := va, src := eAddr e / 65536, dst := dst, leaf := leaf, drained := false,
                                 forPark := session.isSome, session := session }] } }

/-- A move of the page that holds a virtual address is in progress. -/
def movingPage (s : Dev) (inst va : Nat) : Bool := s.mem.moves.any (fun m => m.inst == inst && m.va == va / 65536 * 65536)

/-- Copy a line through the home slices, poison with it (steps 3 and 4 of R254). -/
def copyLine (s : Dev) (src dst : Nat) : Dev :=
  match lineNow s src with
  | (s, none) => s
  | (s, some l) =>
    let put := fun (s : Dev) (h : Nat) => (acceptWrite s (2 * dst + h) 0xFFFFFFFF (halfOf l.data h) (l.poison.getLsbD h) false true).1
    let s := put (put s 0) 1
    match lineAt s src with
    | some l => dropLine (cleanHomeLine s src l) src
    | none => s

/-- Copy a 64 KiB frame. -/
def copyPage (s : Dev) (src dst : Nat) : Dev :=
  (List.range 1024).foldl (fun s i => copyLine s (src * 1024 + i) (dst * 1024 + i)) s

/-- Steps 3 to 6 of R254: the page is copied, the leaf names the new frame, and the source joins the pool. A destination in which a channel has
become a hole is moved again (R255). -/
def finishMove (s : Dev) (m : Move) : Dev :=
  let s := copyPage s m.src m.dst
  let (s, b, _) := devRead s m.leaf 8
  let e := setBits (setBits (ofLe b) 9 1 0) 12 45 (m.dst * 16)
  let (s, _) := devWrite s m.leaf (leBytes 8 e)
  let s := { s with mem := { s.mem with moves := s.mem.moves.erase m,
                                        pools := tset s.mem.pools m.inst (tgetD s.mem.pools m.inst [] ++ [m.src]) } }
  let s := bump s (if pageInA m.dst then Reg.MEM_CNT_MIGRATIONS_UP else Reg.MEM_CNT_MIGRATIONS_DOWN)
  if pageHasHole s m.dst then
    match poolFrame s m.inst m.dst (pageInA m.dst) with
    | some d => startMove s m.inst m.va m.leaf e d m.session
    | none => s
  else s

/-! ### INVALIDATE_DRAIN_COMPLETE (R280) -/

/-- The drain of an invalidation has ended: no request and no write noted at its step 2 is still on its way. DEDUCED: log entry 57. -/
def drained (s : Dev) (v : Inval) : Bool :=
  v.reqs.all (fun n => !thas s.net n) && v.writes.all (fun w => !(coreOf s w.1).wb.any (fun x => x.seq == w.2))

/-- Every migratable leaf below a table, with its virtual address: as va, leaf address, entry. -/
def tableMig (s : Dev) (va : Nat) (t64 : Bool) (table : Nat) : Nat → Dev × List (Nat × Nat × Nat)
  | 0 =>
    (List.range (if t64 then 32 else 0)).foldl (fun (p : Dev × List (Nat × Nat × Nat)) i =>
      let (s, b, c) := devRead p.1 (table + 8 * i) 8
      let e := ofLe b
      (s, if c = 0 ∧ eV e ∧ eMig e then p.2 ++ [(va + i * 65536, table + 8 * i, e)] else p.2)) (s, [])
  | n + 1 =>
    (List.range 512).foldl (fun (p : Dev × List (Nat × Nat × Nat)) i =>
      let (s, b, c) := devRead p.1 (table + 8 * i) 8
      let e := ofLe b
      if c = 0 ∧ eV e ∧ (eKind e = 0 ∨ eKind e = 2) then
        (let (s, l) := tableMig s (va + i * 2 ^ (12 + 9 * (n + 1))) (eKind e == 2) (eAddr e) n
         (s, p.2 ++ l))
      else (s, p.2)) (s, [])

/-- Every migratable leaf of an instance. -/
def allMig (s : Dev) (inst : Nat) : Dev × List (Nat × Nat × Nat) :=
  if fget s (RF.TRN_ROOT_VALID inst) = 0 then (s, []) else tableMig s 0 false (fget s (RF.TRN_ROOT_ROOT inst) * 4096) 4

/-- Step 4 of R280: MIG is cleared in each leaf of the range. -/
def pinLeaves (s : Dev) (v : Inval) : Dev :=
  let (s, l) := allMig s v.inst
  (l.filter (fun x => v.all || (decide (v.base < x.1 + 65536) && decide (x.1 < v.base + 4096 * v.pages)))).foldl (fun s x =>
    (devWrite s x.2.1 (leBytes 8 (setBits x.2.2 8 1 0))).1) s

/-- A move in the range of an invalidation. -/
def moveIn (s : Dev) (v : Inval) : Bool :=
  s.mem.moves.any (fun m => m.inst == v.inst && (v.all || (decide (v.base < m.va + 65536) && decide (m.va < v.base + 4096 * v.pages))))

/-- The invalidation that is first in its instance goes on once it has drained. DEDUCED: log entry 57. -/
def drainStep (s : Dev) (inst : Nat) : Dev :=
  match s.xl.invals.find? (fun v => v.inst == inst) with
  | none => s
  | some v =>
    if !drained s v then s
    else
      let len := s.time.hw - v.tick
      let s := if len > fget s (RF.TRN_DRAIN_MAX_TICKS inst) then fset s (RF.TRN_DRAIN_MAX_TICKS inst) (min len (2 ^ 32 - 1)) else s
      let out := fun (s : Dev) => { s with xl := { s.xl with invals := s.xl.invals.erase v } }
      match v.cmd with
      | none => out { s with mem := { s.mem with moves := s.mem.moves.map (fun m =>
          if m.inst = inst ∧ m.va = v.base then { m with drained := true } else m) } }
      | some k =>
        if v.pin && moveIn s v then fset s (RF.TRN_STATUS_PIN_BUSY inst) 1
        else
          let s := if v.pin then fset (pinLeaves s v) (RF.TRN_STATUS_PIN_BUSY inst) 0 else s
          let s := bump (fadj s (RF.TRN_STATUS_INVALIDATES_BUSY inst) (-1)) (Reg.TRN_CNT_INVALIDATES inst)
          completeKey (out s) k Ret.ok

/-- INVALIDATE_DRAIN_COMPLETE (R280, R281). DEDUCED: log entry 57. -/
def execInvalidateDrainComplete (inst : Nat) (s : State) : Host.Outcome State Fault Refusal :=
  perform s (fun s => whole s (fun s => drainStep s inst))

end Sys2Proof.Machine
end

