-- ==== Sys2Proof/Machine/Sessions.lean ====
section
/-!
DEFINITION. Sessions and program bindings (R297 to R306, R312, R320): the state table, frames, parking, and their commands.
-/
namespace Sys2Proof.Machine

/-! ### The state table (R301) -/

/-- STATE code. -/
def sesCode : SesState → Nat
  | .closed => 0
  | .opened => 1
  | .ready => 2
  | .running => 3
  | .parked => 4
  | .suspended => 5
  | .failed => 6

/-- State that a command leads to: 0 PARK, 1 SUSPEND, 2 CLOSE (as DEFER_OP numbers them), 3 RESUME. None is E_STATE. A Running session
defers. -/
def sesNext (op : Nat) : SesState → Option SesState
  | .closed => none
  | .running => none
  | .opened => if op = 2 then some .closed else none
  | .ready => match op with
    | 0 => some .parked
    | 1 => some .suspended
    | 2 => some .closed
    | _ => none
  | .parked => match op with
    | 0 => none
    | 1 => some .suspended
    | 2 => some .closed
    | _ => some .ready
  | .suspended => match op with
    | 0 => some .parked
    | 1 => none
    | 2 => some .closed
    | _ => some .ready
  | .failed => match op with
    | 2 => some .closed
    | 3 => some .ready
    | _ => none

/-- The completion of a session command (R299). -/
def sesRet (s : Dev) (n code : Nat) : Ret :=
  { Ret.ok with status := code, r0 := n, r1 := (sesAt s n).step, r2 := sesCode (sesAt s n).state }

/-- A binding. -/
def bindAt (s : Dev) (b : Nat) : Option Binding := tget s.fe.bindings b

/-- Close a session: its frames are discarded. A SESSION_STEP whose frame is discarded completes with E_STATE. DEDUCED: log entry 41. -/
def closeSession (s : Dev) (n : Nat) : Dev :=
  let x := sesAt s n
  let s := putSession s n (Session.closed x.inst)
  x.steps.foldl (fun s p => match storeAt s p.2.1 with
    | some e => if e.phase = 1 then completeKey s p.2.1 { Ret.ok with status := eState, r0 := n } else s
    | none => s) s

/-! ### Parking (R303) -/

/-- Virtual 64 KiB pages of a byte range. -/
def pages64 (va n : Nat) : List Nat :=
  if n = 0 then [] else (List.range ((va + n - 1) / 65536 - va / 65536 + 1)).map (fun i => (va / 65536 + i) * 65536)

/-- Pages of a session's frame area and key-value list. A list that cannot be read holds no page to move. DEDUCED: log entry 40. -/
def sessionPages (s : Dev) (x : Session) : Dev × List Nat :=
  let area := match bindAt s x.binding with
    | some b => pages64 x.ioVa (b.frames * (b.inBytes + b.outBytes))
    | none => []
  let (s, cnt, c) := vaRead s x.inst x.kvList 4
  if c ≠ 0 then (s, area)
  else
    let n := ofLe cnt
    let (s, b, c) := vaRead s x.inst (x.kvList + 8) (8 * n)
    let kv := if c ≠ 0 then [] else (List.range n).map (fun i => ofLe ((b.drop (8 * i)).take 8) % 2 ^ 57 / 65536 * 65536)
    (s, (area ++ kv).foldl (fun l v => insertNat v l) [])

/-- The migratable leaves of pages that lie in a tier: virtual page, leaf address, entry. -/
def leavesIn (s : Dev) (inst : Nat) (a : Bool) (vas : List Nat) : Dev × List (Nat × Nat × Nat) :=
  vas.foldl (fun (p : Dev × List (Nat × Nat × Nat)) va =>
    match migLeafAt p.1 inst va with
    | (s, some (l, e)) => (s, if pageInA (eAddr e / 65536) == a && !movingPage s inst va then p.2 ++ [(va, l, e)] else p.2)
    | (s, none) => (s, p.2)) (s, [])

/-- Start the moves of a session's pages into the other tier; none where a pool holds too few free frames. -/
def startMoves (s : Dev) (inst n : Nat) (toA : Bool) : List (Nat × Nat × Nat) → Option Dev
  | [] => some s
  | (va, l, e) :: t =>
    match poolFrame s inst (eAddr e / 65536) toA with
    | none => none
    | some d => startMoves (startMove s inst va l e d (some n)) inst n toA t

/-- A closed entry is written whole to both copies of the session table, which clears what marks them poisoned (R482, R534). DEDUCED: log entry 119. -/
def rewriteEntry (s : Dev) (n : Nat) : Dev :=
  { s with dram := (entrySectors s n).foldl (fun d k => dramSetPoison d k false) s.dram }

/-- Apply a state change: at once, or when the page moves that it needs have finished. The state, and a code, or none while moves run. -/
def applyNext (s : Dev) (n op key : Nat) (next : SesState) : Dev × Option Nat :=
  let x := sesAt s n
  if next = .closed then (rewriteEntry (closeSession s n) n, some 0)
  else if (op = 0 ∧ !x.away) ∨ (op = 3 ∧ x.away) then
    let (s, vas) := sessionPages s x
    let (s, ls) := leavesIn s x.inst (op == 0) vas
    match startMoves s x.inst n (op == 3) ls with
    | none => (s, some eNoSpace)
    | some s' =>
      if ls.isEmpty then (putSession s n { x with state := next, away := op == 0 }, some 0)
      else (putSession s' n { sesAt s' n with moving := some (op, key) }, none)
  else (putSession s n { x with state := next }, some 0)

/-- The last move of a park or resume has finished: the state changes and the command completes. -/
def finishMoving (s : Dev) (n : Nat) : Dev :=
  let x := sesAt s n
  match x.moving with
  | some (op, key) =>
    if s.mem.moves.any (fun m => m.session == some n) then s
    else
      let s := putSession s n { x with state := (sesNext op x.state).getD x.state, moving := none, away := op == 0 }
      completeKey s key (sesRet s n 0)
  | none => s

/-- SESSION names a session of the issuing instance (step 3 of R293). -/
def ownsSession (s : Dev) (inst n : Nat) : Bool := decide (n < 2 ^ 20) && holderOfSession s n == inst

/-- A command that changes a session's state: 0 PARK, 1 SUSPEND, 2 CLOSE, 3 RESUME. -/
def sesCommand (op : Nat) (x : Ctx) (s : Dev) : Dev × CmdRes :=
  let n := eb x.e 16 4
  if !ownsSession s x.inst n then (s, .reject eArg)
  else
    let s := touchSession s n
    let y := sesAt s n
    if y.moving.isSome then (s, .reject eBusy)
    else if y.state = .running ∧ op ≠ 3 then
      (if y.defer.isSome then (s, .reject eBusy) else (putSession s n { y with defer := some (op, x.key) }, .later))
    else match sesNext op y.state with
      | none => (s, .reject eState)
      | some next =>
        (match applyNext s n op x.key next with
         | (s, some 0) => (s, .done (sesRet s n 0))
         | (s, some c) => (s, .reject c)
         | (s, none) => (s, .later))

/-- SESSION_PARK (R301, R303). -/
def execSessionPark (c : Cmd) (s : State) : Host.Outcome State Fault Refusal := perform s (fun s => command 0x13 c s (sesCommand 0))

/-- SESSION_RESUME (R301, R303). -/
def execSessionResume (c : Cmd) (s : State) : Host.Outcome State Fault Refusal := perform s (fun s => command 0x14 c s (sesCommand 3))

/-- SESSION_SUSPEND (R301). -/
def execSessionSuspend (c : Cmd) (s : State) : Host.Outcome State Fault Refusal := perform s (fun s => command 0x15 c s (sesCommand 1))

/-- SESSION_CLOSE (R301). -/
def execSessionClose (c : Cmd) (s : State) : Host.Outcome State Fault Refusal := perform s (fun s => command 0x16 c s (sesCommand 2))

/-- A deferred command is applied when the step has ended (R301). DEDUCED: log entry 41. -/
def applyDeferred (s : Dev) (n : Nat) : Dev :=
  let x := sesAt s n
  match x.defer with
  | none => s
  | some (op, key) =>
    let s := putSession s n { x with defer := none }
    match sesNext op x.state with
    | none => completeKey s key (sesRet s n eState)
    | some next =>
      (match applyNext s n op key next with
       | (s, some c) => completeKey s key (sesRet s n c)
       | (s, none) => s)

/-- SESSION_OPEN (R300). DEDUCED: log entry 31. -/
def execSessionOpen (c : Cmd) (s : State) : Host.Outcome State Fault Refusal :=
  perform s (fun s => command 0x10 c s (fun x s =>
    let io := eb x.e 24 8
    let kv := eb x.e 32 8
    let ring := eb x.e 40 2
    let cls := eb x.e 42 1
    let free := lowest (2 ^ 20) (fun n => holderOfSession s n == x.inst && (sesAt s n).state == .closed)
    afterChecks s [(decide (cls > 7) || decide (ring ≥ 4096) || (ringAt s (ringKey x.inst ring)).isNone, eArg),
        (io % 4096 != 0 || kv % 32 != 0, eAlign), (free.isNone, eQuota)]
      (let n := free.getD 0
       let s := touchSession s n
       let s := putSession s n { Session.closed x.inst with
         state := .opened, cls := cls, seed := BitVec.ofNat 64 (eb x.e 16 8), ioVa := io, kvList := kv, cplRing := ring, binding := 0xFFFF }
       (s, .done (sesRet s n 0)))))

/-- SESSION_BIND (R301). -/
def execSessionBind (c : Cmd) (s : State) : Host.Outcome State Fault Refusal :=
  perform s (fun s => command 0x11 c s (fun x s =>
    let n := eb x.e 16 4
    let b := eb x.e 20 2
    match ownsSession s x.inst n, bindAt s b with
    | true, some bd =>
      if bd.inst ≠ x.inst then (s, .reject eArg)
      else
        let s := touchSession s n
        let y := sesAt s n
        let same := match bindAt s y.binding with
          | some o => o.frames == bd.frames && o.inBytes == bd.inBytes && o.outBytes == bd.outBytes
          | none => false
        if y.moving.isSome then (s, .reject eBusy)
        else match y.state with
          | .opened =>
            let s := putSession s n { y with state := .ready, binding := b }
            (s, .done (sesRet s n 0))
          | .suspended =>
            if y.pending ≠ 0 ∧ !same then (s, .reject eState)
            else
              let s := putSession s n { y with binding := b }
              (s, .done (sesRet s n 0))
          | _ => (s, .reject eState)
    | _, _ => (s, .reject eArg)))

/-- SESSION_SEEK (R320). -/
def execSessionSeek (c : Cmd) (s : State) : Host.Outcome State Fault Refusal :=
  perform s (fun s => command 0x63 c s (fun x s =>
    let n := eb x.e 16 4
    if !ownsSession s x.inst n then (s, .reject eArg)
    else
      let s := touchSession s n
      let y := sesAt s n
      if y.state = .closed ∨ y.state = .running ∨ y.pending ≠ 0 then (s, .reject eState)
      else
        let s := putSession s n { y with step := eb x.e 24 8, seed := BitVec.ofNat 64 (eb x.e 32 8) }
        (s, .done (sesRet s n 0))))

/-! ### Frames (R304, R306) -/

/-- Address of a session's input frame f. -/
def inFrame (x : Session) (b : Binding) (f : Nat) : Nat := x.ioVa + f % b.frames * b.inBytes
/-- Address of a session's output frame f. -/
def outFrame (x : Session) (b : Binding) (f : Nat) : Nat := x.ioVa + b.frames * b.inBytes + f % b.frames * b.outBytes

/-- Code that the frame of an input entry or SESSION_STEP meets (R301, R306). DEDUCED: log entry 41. -/
def frameCode (s : Dev) (inst n f : Nat) : Nat :=
  let x := sesAt s n
  firstCode [(!ownsSession s inst n, eArg), (f != (x.step + x.pending) % 2 ^ 64, eArg),
    (x.state == .closed || x.state == .opened || x.state == .failed, eState),
    ((match bindAt s x.binding with
      | some b => x.pending ≥ b.frames
      | none => true), eNoSpace)]

/-- Accept a frame (R306), and record it (R324): by SESSION_STEP with the command's key and TAG, or by an input entry of a ring.
DESIGN CHOICE: log entry 7. DEDUCED: log entry 41. -/
def acceptFrame (s : Dev) (n f ring : Nat) (step : Option (Nat × Nat)) : Dev :=
  let s := touchSession s n
  let x := sesAt s n
  let s := putSession s n { x with
    pending := x.pending + 1, oldest := if x.pending = 0 then s.time.hw % 2 ^ 32 else x.oldest, arrivals := x.arrivals ++ [s.time.hw],
    steps := match step with
      | some (k, t) => x.steps ++ [(f, k, t)]
      | none => x.steps }
  match bindAt s x.binding with
  | some b =>
    if jnlMode s x.inst ≠ 1 then s
    else
      let (s, bytes, c) := vaRead s x.inst (inFrame x b f) b.inBytes
      let (v, s) := takeFree s
      let bytes := if c = 0 then bytes else leBytes b.inBytes v
      jnlRecord s x.inst 4 (b2n step.isSome) ring f n 0
        (leBytes 4 n ++ leBytes 4 0 ++ leBytes 8 f ++ List.replicate 16 0 ++ bytes)
  | none => s

/-! ### Bindings and classes (R297, R299, R312) -/

/-- The shape is legal (R56). -/
def shapeOk (g sg r sp ls : Nat) : Bool :=
  decide (1 ≤ sg) && decide (sg ≤ 64) && decide (1 ≤ g) && decide (g ≤ 16777216) && g % sg == 0
    && decide (16 ≤ r) && decide (r ≤ 256) && r % 8 == 0 && decide (sp ≤ 4) && decide (ls ≤ lsBytes sp) && ls % 1024 == 0
    && decide (ceilDiv sg 4 ≤ min 16 (32768 / (32 * r)))

/-- ISLANDS is a non-empty subset of what the instance holds (R297). -/
def islandsOk (s : Dev) (inst m : Nat) : Bool :=
  decide (m ≠ 0) && m &&& fget s (RF.INS_ISLANDS_ISLANDS inst) == m

/-- An island of a mask is lost (R489). DEDUCED: log entry 42. -/
def namesLost (s : Dev) (m : Nat) : Bool := (setBitsOf 44 m).any (fun i => fget s (RF.PWR_ISLAND_STATE i) == 3)

/-- Keep BINDINGS_USED of an instance (R418). -/
def showBindings (s : Dev) (i : Nat) : Dev :=
  fset s (RF.INS_QUOTA_BINDINGS_USED i) (s.fe.bindings.filter (fun p => p.2.inst == i)).length

/-- BIND_CREATE (R297, R299). DEDUCED: log entries 31, 42. -/
def execBindCreate (c : Cmd) (s : State) : Host.Outcome State Fault Refusal :=
  perform s (fun s => command 0x18 c s (fun x s =>
    let f := fun (o n : Nat) => eb x.e o n
    let shape : Shape := ⟨f 40 4, f 48 1, f 44 2, f 49 1, 1024 * f 46 2⟩
    let b : Binding := { inst := x.inst, prog := f 16 8, args := f 24 8, islands := f 32 8, shape := shape, frames := f 50 1,
                         maxBatch := f 52 2, perIsland := f 54 2, inBytes := f 56 4, outBytes := f 60 4 }
    let frameOk := fun (n : Nat) => decide (32 ≤ n) && decide (n ≤ 1048576) && n % 32 == 0
    let free := lowest 4096 (fun k => !thas s.fe.bindings k)
    afterChecks s [(!shapeOk shape.groups shape.setGroups shape.regs shape.lsSplit shape.lsPerSet || !islandsOk s x.inst b.islands
          || decide (b.frames < 1) || decide (b.frames > 16) || decide (b.maxBatch < 1) || decide (b.maxBatch > 512)
          || decide (b.perIsland < 1) || decide (b.perIsland > 512) || !frameOk b.inBytes || !frameOk b.outBytes
          || decide (b.maxBatch > b.perIsland * popcount 44 b.islands), eArg),
        (b.prog % 8 != 0 || b.args % 64 != 0, eAlign), (namesLost s b.islands, eState),
        (free.isNone || decide (fget s (RF.INS_QUOTA_BINDINGS_USED x.inst) ≥ fget s (RF.INS_QUOTA_MAX_BINDINGS x.inst)), eQuota)]
      (let n := free.getD 0
       (showBindings { s with fe := { s.fe with bindings := tset s.fe.bindings n b } } x.inst, .done { Ret.ok with r0 := n }))))

/-- BIND_DESTROY (R299). DEDUCED: log entry 42. -/
def execBindDestroy (c : Cmd) (s : State) : Host.Outcome State Fault Refusal :=
  perform s (fun s => command 0x19 c s (fun x s =>
    let n := eb x.e 16 2
    afterChecks s [((match bindAt s n with
          | some b => b.inst != x.inst
          | none => true), eArg), (s.fe.sessions.any (fun p => p.2.binding == n && p.2.state != .opened), eBusy)]
      (showBindings { s with fe := { s.fe with bindings := tdel s.fe.bindings n } } x.inst, .done Ret.ok)))

/-- SET_CLASS (R312). -/
def execSetClass (c : Cmd) (s : State) : Host.Outcome State Fault Refusal :=
  perform s (fun s => command 0x22 c s (fun x s =>
    let k := eb x.e 16 1
    let lo := eb x.e 20 4
    let hi := eb x.e 24 4
    let tg := eb x.e 28 4
    afterChecks s [(decide (k > 7) || decide (lo < 500) || decide (hi < lo) || decide (hi > 20000) || decide (tg < lo + 200)
        || decide (tg > 65535), eArg)]
      (fset (fset (fset (fset s (RF.SES_CLASS_CFG_CAD_MIN_US k) lo) (RF.SES_CLASS_CFG_CAD_MAX_US k) hi)
         (RF.SES_CLASS_CFG_TARGET_US k) tg) (RF.SES_CLASS_CFG_CADENCE_US k) lo, .done Ret.ok)))

end Sys2Proof.Machine
end

