-- ==== Sys2Proof/Machine/Homing.lean ====
section
/-!
DEFINITION. Commands over frames and channel groups: homing (R215 to R217), regulators (R251), migration pools and migration (R252 to R255),
replica pairs (R483, R484).
-/
namespace Sys2Proof.Machine

/-! ### Lines of a frame -/

/-- Every directory entry of a frame's lines is freed (R224): lines that are held outside must first be recalled. -/
def freeEntries (s : Dev) (fr : Nat) : Dev :=
  ((tkeys s.shore.dir).filter (fun k => k / 2 ^ 15 == fr)).foldl (fun s k =>
    match homeAccess s k true with
    | (s, true) => s
    | (s, false) => { s with blocked := s.blocked ++ [(k, 2)] }) s

/-- Every line of a frame leaves its slice, written back or not (R217, R405). -/
def dropFrameLines (s : Dev) (fr : Nat) (writeBack : Bool) : Dev :=
  (s.shore.lines.filter (fun p => p.1 / 2 ^ 15 == fr)).foldl (fun s p =>
    let s := if writeBack then cleanHomeLine s p.1 p.2
      else if p.2.dirty then fadj s (RF.SHC_SLICE_STATUS_DIRTY_LINES (sliceOf s p.1)) (-1) else s
    dropLine s p.1) s

/-- A run of frames lies in mapped memory. -/
def framesMapped (s : Dev) (first n : Nat) : Bool :=
  (decide (first + n ≤ 2 ^ 18) && decide ((first + n) * 2 ^ 21 ≤ capA s))
    || (decide (2 ^ 18 ≤ first) && decide ((first + n) * 2 ^ 21 ≤ tierB + capB s))

/-- Frames of a run. -/
def runOf (first n : Nat) : List Nat := (List.range n).map (first + ·)

/-! ### Home sets and the home map -/

/-- SET_HOME_SET (R215). -/
def execSetHomeSet (c : Cmd) (s : State) : Host.Outcome State Fault Refusal :=
  perform s (fun s => command 0x40 c s (fun x s =>
    let h := eb x.e 16 1
    let m := eb x.e 24 8
    afterChecks s [(h == 0 || decide (h > 63) || m == 0 || decide (m ≥ 2 ^ fget s RF.BRG_PKG_LEVEL_ENABLED_COUNT), eArg),
        (s.shore.homeMap.any (fun p => p.2 == h), eBusy)]
      (fset (fset s (RF.SHC_HOME_SET_ISLANDS h) m) (RF.SHC_HOME_SET_COUNT h) (popcount 44 m), .done Ret.ok)))

/-- Steps 2 to 4 of R217 for one frame. -/
def rehome (s : Dev) (fr h : Nat) : Dev :=
  let s := dropFrameLines (freeEntries s fr) fr true
  { s with shore := { s.shore with homeMap := if h = 0 then tdel s.shore.homeMap fr else tset s.shore.homeMap fr h } }

/-- SET_HOME_MAP (R217). DEDUCED: log entry 48. -/
def execSetHomeMap (c : Cmd) (s : State) : Host.Outcome State Fault Refusal :=
  perform s (fun s => command 0x41 c s (fun x s =>
    let h := eb x.e 16 1
    let first := eb x.e 20 4
    let n := eb x.e 24 4
    let mask := fget s (RF.SHC_HOME_SET_ISLANDS (h % 64))
    let foreign := x.origin == 2 && ((decide (h > 0) && decide (h < 64) && mask &&& fget s (RF.INS_ISLANDS_ISLANDS x.inst) != mask)
      || (framesMapped s first n && (runOf first n).any (fun fr => !owns s x.inst fr)))
    afterChecks s [(foreign, eOrigin), (decide (h > 63) || mask == 0 || !framesMapped s first n, eArg)]
      ((runOf first n).foldl (fun s fr => rehome s fr h) s, .done Ret.ok)))

/-! ### Regulators -/

/-- SET_MEM_REGULATOR (R251): the values take effect at the next window of each group. -/
def execSetMemRegulator (c : Cmd) (s : State) : Host.Outcome State Fault Refusal :=
  perform s (fun s => command 0x42 c s (fun x s =>
    let tier := eb x.e 16 1
    let rq := eb x.e 17 1
    let w := eb x.e 18 1
    let cap := eb x.e 20 2
    let m := eb x.e 24 8
    afterChecks s [(decide (tier > 1) || decide (rq > 33) || cap == 0 || decide (cap > 256) || (tier == 1 && decide (m ≥ 2 ^ 32)), eArg)]
      ((setBitsOf 64 m).foldl (fun s g =>
        let k := 34 * ((if tier = 0 then 0 else 64) + g) + rq
        { s with mem := { s.mem with regul := tset s.mem.regul k { tgetD s.mem.regul k (regulDefault rq) with next := some (w, cap) } } }) s,
       .done Ret.ok)))

/-! ### Migration pools and moves -/

/-- Pages of 64 KiB of a pool command that are legal: in the tier, mapped, and owned by the instance. DEDUCED: log entry 48. -/
def poolPagesOk (s : Dev) (i tier first n : Nat) : Bool :=
  decide (tier ≤ 1) && (List.range n).all (fun k =>
    let p := first + k
    pageInA p == (tier == 0) && (inA s (p * 65536) || inB s (p * 65536)) && owns s i (p / 32))

/-- An entry of an opcode that two rows share names neither OP of the row: the other row runs it. -/
def otherOp (off want : Nat) (c : Cmd) (s : Dev) (op : Nat) : Bool :=
  match ctxOf op c s with
  | some x => (eb x.e off 1 == 1) != (want == 1)
  | none => false

/-- SET_MIG_POOL with OP 0, or an OP that is not legal (R252). DEDUCED: log entry 48. -/
def execSetMigPoolAdd (c : Cmd) (s : State) : Host.Outcome State Fault Refusal :=
  perform s (fun s => if otherOp 18 0 c s 0x43 then s else command 0x43 c s (fun x s =>
    let i := eb x.e 16 1
    let first := eb x.e 20 4
    let n := eb x.e 24 4
    let pool := tgetD s.mem.pools i []
    afterChecks s ([(decide (eb x.e 18 1 > 1) || !poolPagesOk s i (eb x.e 17 1) first n, eArg)] ++ namedState s i
        ++ [((List.range n).any (fun k => pool.contains (first + k)), eBusy)])
      ({ s with mem := { s.mem with pools := tset s.mem.pools i (pool ++ (List.range n).map (first + ·)) } }, .done Ret.ok)))

/-- SET_MIG_POOL with OP 1 (R252): frames that are free leave the pool. DEDUCED: log entry 48. -/
def execSetMigPoolRemove (c : Cmd) (s : State) : Host.Outcome State Fault Refusal :=
  perform s (fun s => if otherOp 18 1 c s 0x43 then s else command 0x43 c s (fun x s =>
    let i := eb x.e 16 1
    let first := eb x.e 20 4
    let n := eb x.e 24 4
    let pool := tgetD s.mem.pools i []
    afterChecks s ([(!poolPagesOk s i (eb x.e 17 1) first n, eArg)] ++ namedState s i
        ++ [((List.range n).any (fun k => !pool.contains (first + k)), eBusy)])
      ({ s with mem := { s.mem with pools := tset s.mem.pools i (pool.filter (fun p => !(decide (first ≤ p) && decide (p < first + n)))) } },
       .done Ret.ok)))

/-- PAGE_MOVE_COMPLETE (R254, R255): a move whose drain has ended finishes; the last one of a park or resume completes it (R303). -/
def execPageMoveComplete (inst va : Nat) (s : State) : Host.Outcome State Fault Refusal :=
  perform s (fun s => whole s (fun s =>
    match s.mem.moves.find? (fun m => m.inst == inst && m.va == va / 65536 * 65536 && m.drained) with
    | none => s
    | some m =>
      let s := finishMove s m
      match m.session with
      | some n => finishMoving s n
      | none => s))

/-- Migratable pages that firmware may move: as instance, virtual page, leaf address, entry (R252). DESIGN CHOICE: log entry 47. -/
def movable (s : Dev) : Dev × List (Nat × Nat × Nat × Nat) :=
  (List.range 33).foldl (fun (p : Dev × List (Nat × Nat × Nat × Nat)) i =>
    if insState p.1 i ≠ 1 then p
    else
      let (s, l) := allMig p.1 i
      let pinned := fun (va : Nat) => s.xl.invals.any (fun v => v.inst == i && v.pin
        && (v.all || (decide (v.base < va + 65536) && decide (va < v.base + 4096 * v.pages))))
      (s, p.2 ++ (l.filter (fun x => !movingPage s i x.1 && !pinned x.1)).map (fun x => (i, x.1, x.2.1, x.2.2)))) (s, [])

/-- The access counter of a page. -/
def counterOf (s : Dev) (e : Nat) : Nat := tgetD s.mem.counters (eAddr e / 65536) 0

/-- Insert by a key, smaller first, after those equal. -/
def insertBy {α : Type} (key : α → Nat) (x : α) : List α → List α
  | [] => [x]
  | a :: t => if key x < key a then x :: a :: t else a :: insertBy key x t

/-- Sort by a key. DESIGN CHOICE: log entry 47. -/
def sortBy {α : Type} (key : α → Nat) (l : List α) : List α := l.foldl (fun acc x => insertBy key x acc) []

/-- Start up to a number of moves in order. DESIGN CHOICE: log entry 47. -/
def startSome (s : Dev) (toA : Bool) : List (Nat × Nat × Nat × Nat) → Nat → Dev × Nat
  | [], n => (s, n)
  | _, 0 => (s, 0)
  | x :: t, n + 1 =>
    match poolFrame s x.1 (eAddr x.2.2.2 / 65536) toA with
    | some d => startSome (startMove s x.1 x.2.1 x.2.2.1 x.2.2.2 d none) toA t n
    | none => startSome s toA t (n + 1)

/-- MIGRATION_PERIOD (R253). DESIGN CHOICE: log entry 47. -/
def execMigrationPeriod (s : State) : Host.Outcome State Fault Refusal :=
  perform s (fun s => whole s (fun s =>
    if fget s RF.MEM_MIG_POLICY_MIG_EN = 0 ∨ !serving s then s
    else
      let (s, l) := movable s
      let page := fun (x : Nat × Nat × Nat × Nat) => eAddr x.2.2.2 / 65536
      let coldNow := l.filter (fun x => pageInA (page x) && decide (counterOf s x.2.2.2 ≤ fget s RF.MEM_MIG_POLICY_COLD_THRESH))
      let cold := sortBy page (coldNow.filter (fun x => s.mem.cold.contains (page x)))
      let hot := sortBy (fun x => (255 - counterOf s x.2.2.2) * 2 ^ 32 + page x)
        (l.filter (fun x => !pageInA (page x) && decide (counterOf s x.2.2.2 ≥ fget s RF.MEM_MIG_POLICY_HOT_THRESH)))
      let (s, n) := startSome s false cold (fget s RF.MEM_MIG_POLICY_MAX_MOVES)
      let (s, _) := startSome s true hot n
      let s := { s with mem := { s.mem with cold := coldNow.map page } }
      { s with mem := { s.mem with counters := (tmap s.mem.counters (fun _ v => v / 2)).filter (fun p => p.2 != 0) } }))

/-! ### Replica pairs -/

/-- A frame is part of a pair. -/
def inPair (s : Dev) (fr : Nat) : Bool :=
  s.ins.pairs.any (fun p => (decide (p.2.first ≤ fr) && decide (fr < p.2.first + p.2.frames))
    || (decide (p.2.copy ≤ fr) && decide (fr < p.2.copy + p.2.frames)))

/-- A frame is covered by an export entry (R350). -/
def inExport (s : Dev) (fr : Nat) : Bool := s.ins.exports.any (fun p => decide (p.2.first ≤ fr) && decide (fr < p.2.first + p.2.frames))

/-- A frame holds a ring, a completion ring or a watch line. -/
def holdsRing (s : Dev) (fr : Nat) : Bool :=
  s.fe.rings.any (fun p => (p.2.watch :: p.2.pages ++ p.2.cplPages).any (fun a => a / 2 ^ 21 == fr))

/-- A frame holds a page of a migration pool, or one that is moving. -/
def inPool (s : Dev) (fr : Nat) : Bool :=
  s.mem.pools.any (fun p => p.2.any (fun q => q / 32 == fr)) || s.mem.moves.any (fun m => m.src / 32 == fr || m.dst / 32 == fr)

/-- Frames that hold a page with MIG set, of an instance. -/
def migFrames (s : Dev) (i : Nat) : Dev × List Nat :=
  let (s, l) := allMig s i
  (s, l.map (fun x => eAddr x.2.2 / 2 ^ 21))

/-- Keep REPLICA_PAIRS (R498). -/
def showPairs (s : Dev) : Dev := fset s RF.BRG_ERR_STATUS_REPLICA_PAIRS s.ins.pairs.length

/-- Copy a primary line into its copy (R484). DEDUCED: log entry 55. -/
def copyPrimary (s : Dev) (src dst : Nat) : Dev :=
  let s := match lineAt s src with
    | some l => cleanHomeLine s src l
    | none => s
  let s := drainWrites (drainWrites s src) dst
  (List.range 2).foldl (fun s h =>
    let (s, d, c) := ctlRead s (2 * src + h) .clean 0 .clean
    let bit : BitVec 2 := (1 : BitVec 2) <<< h
    ctlWrite s ⟨dst, maskAt h 0xFFFFFFFF, setHalf 0 h d, if c ≠ 0 then bit else 0, 0, none⟩ 0 false) s

/-- REPLICA_SET (R483, R484). DEDUCED: log entry 55. -/
def execReplicaSet (c : Cmd) (s : State) : Host.Outcome State Fault Refusal :=
  perform s (fun s => command 0xC0 c s (fun x s =>
    let i := eb x.e 16 1
    let first := eb x.e 20 4
    let n := eb x.e 24 4
    let copy := eb x.e 28 4
    let all := runOf first n ++ runOf copy n
    let (s, mig) := migFrames s i
    let free := lowest 64 (fun k => !thas s.ins.pairs k)
    afterChecks s ([(decide (n < 1) || decide (n > 262144) || decide (first + n > 2 ^ 18) || decide (copy < 2 ^ 18)
          || all.any (fun fr => ownerOf s fr != i), eArg)] ++ namedState s i
        ++ [(all.any (fun fr => inPair s fr || mig.contains fr || inPool s fr || holdsRing s fr || inExport s fr), eBusy),
            (free.isNone, eNoSpace)])
      (let p := free.getD 0
       let s := (runOf copy n).foldl (fun s fr => dropFrameLines (freeEntries s fr) fr true) s
       let s := (List.range (n * 2 ^ 15)).foldl (fun s k => copyPrimary s (first * 2 ^ 15 + k) (copy * 2 ^ 15 + k)) s
       (showPairs { s with ins := { s.ins with pairs := tset s.ins.pairs p ⟨i, first, n, copy⟩ } }, .done { Ret.ok with r0 := p }))))

/-- REPLICA_CLEAR (R484). -/
def execReplicaClear (c : Cmd) (s : State) : Host.Outcome State Fault Refusal :=
  perform s (fun s => command 0xC1 c s (fun x s =>
    let i := eb x.e 16 1
    let p := eb x.e 17 1
    afterChecks s ([(decide (p > 63) || (match tget s.ins.pairs p with
          | some r => r.inst != i
          | none => true), eArg)] ++ namedState s i)
      (showPairs { s with ins := { s.ins with pairs := tdel s.ins.pairs p } }, .done Ret.ok)))

end Sys2Proof.Machine
end

