-- ==== Sys2Proof/Machine/Former.lean ====
section
/-!
DEFINITION. Launches, the batch former and the life of a dispatch (R57 to R63, R84, R85, R204, R297 to R312, R326).
-/
namespace Sys2Proof.Machine

/-! ### Digests (R326) -/

/-- Fold the 64-bit words of some bytes. -/
def digestWords (h : Word64) : List Byte → Nat → Word64
  | _, 0 => h
  | b, n + 1 => digestWords (mix64 (h ^^^ BitVec.ofNat 64 (ofLe (b.take 8)))) (b.drop 8) n

/-- The digest of a step or launch. -/
def digestOf (b : List Byte) (status flags r3 : Nat) : Nat :=
  let h := digestWords 0x6A09E667F3BCC908 b (b.length / 8)
  let h := mix64 (h ^^^ BitVec.ofNat 64 (status + 2 ^ 16 * flags + 2 ^ 32 * r3))
  (mix64 (h ^^^ BitVec.ofNat 64 b.length)).toNat

/-- Bytes at a virtual address for a digest; what cannot be read is left open. DESIGN CHOICE: log entry 7. DEDUCED: log entry 40. -/
def digestBytes (s : Dev) (inst va n : Nat) : Dev × List Byte :=
  let (s, b, c) := vaRead s inst va n
  let (v, s) := takeFree s
  (s, if c = 0 then b else leBytes n v)

/-! ### Ends of launches and steps (R85, R299, R307) -/

/-- The results of a dispatch that its completions carry. -/
structure DispResult where
  status : Nat
  group : Nat
  r1 : Nat
  r2 : Nat
  r3 : Nat
  flags : Nat
deriving DecidableEq, Repr

/-- Owe the completion of a command that belongs to a dispatch. -/
def oweFor (s : Dev) (key disp : Nat) (r : Ret) (irq : Bool) : Dev :=
  match storeAt s key with
  | none => s
  | some e =>
    let c := cplOf (laterCtx e) r
    oweCpl (setPhase s key 2) (ringKey e.inst e.ring) { c with irq := c.irq || irq, disp := some disp }

/-- The ring and the command of a session's step f: the command that submitted the frame, with its TAG, or CPL_RING. -/
def stepCpl (s : Dev) (n f disp : Nat) (x : Session) (r : Ret) : Dev :=
  let c : Cpl := { tag := f, status := r.status, opcode := 0x12, r0 := n, r1 := r.r1, r2 := r.r2, r3 := r.r3, flags := r.flags,
                   implicit := true, irq := true, key := none, disp := some disp }
  match x.steps.find? (fun p => p.1 == f) with
  | some (_, key, tag) =>
    (match storeAt s key with
     | some e => if e.phase = 1 then oweFor s key disp r true else oweCpl s (key % 2 ^ 20) { c with tag := tag, implicit := false }
     | none => oweCpl s (key % 2 ^ 20) { c with tag := tag, implicit := false })
  | none => oweCpl s (ringKey x.inst x.cplRing) c

/-- A session's entry at the end of its step (R307). -/
def endStep (s : Dev) (n energy : Nat) (ok : Bool) (code : Nat) : Dev :=
  let x := sesAt s n
  if ok then
    let rest := x.arrivals.drop 1
    bump (putSession s n { x with
      state := .ready, step := (x.step + 1) % 2 ^ 64, pending := x.pending - 1, arrivals := rest, ended := s.time.hw,
      oldest := (rest.headD x.oldest) % 2 ^ 32, energy := (x.energy + energy) % 2 ^ 64,
      steps := x.steps.filter (fun p => p.1 != x.step) }) Reg.SES_CNT_STEPS
  else putSession s n { x with state := .failed, lastCode := code, ended := s.time.hw, energy := (x.energy + energy) % 2 ^ 64 }

/-- A digest is formed while the instance records or replays; it is written after the OUTCOME records of its dispatch. -/
def addDigest (s : Dev) (inst disp ring session step va n : Nat) (r : DispResult) : Dev :=
  if jnlMode s inst = 0 then s
  else
    let (s, b) := digestBytes s inst va n
    modJnl s inst (fun j => { j with digests := j.digests ++ [⟨disp, ring, session, step, digestOf b r.status r.flags r.r3⟩] })

/-- One session of a batch at its step's end: its completion. -/
def slotDone (s : Dev) (disp : Nat) (sl : SlotInfo) (r : DispResult) (x : Session) : Dev :=
  let s := addDigest s x.inst disp 0xFFFF sl.session sl.step sl.outVa sl.outLen r
  stepCpl s sl.session sl.step disp x { status := r.status, r0 := sl.session, r1 := r.r1, r2 := r.r2, r3 := r.r3, flags := r.flags, data := [] }

/-- A dispatch is over: its cores are free, its sessions move on and its completions are owed. The energy of its islands is a measurement, so its
value is left open (R316, R471). DESIGN CHOICE: log entry 7. DEDUCED: log entry 96. -/
def conclude (s : Dev) (n : Nat) (r : DispResult) : Dev :=
  match tget s.disp n with
  | none => s
  | some d =>
    let (e, s) := takeFree (removeDispatch s n false)
    let s := bumpBy s (Reg.PWR_ENERGY_CLASS d.cls) e
    if d.plain then
      match d.source with
      | none => s
      | some key =>
        let j := jnlOf s d.inst
        let s := if jnlMode s d.inst ≠ 0 ∧ j.digLaunch then addDigest s d.inst n (keyRing key) 0xFFFFFFFF 0 j.digVa j.digLen r else s
        oweFor s key n { status := r.status, r0 := r.group, r1 := r.r1, r2 := r.r2, r3 := r.r3, flags := r.flags, data := [] } false
    else
      let before := d.slots.map (fun sl => (sl, sesAt s sl.session))
      let B := d.slots.length
      let s := ((List.range B).zip d.slots).foldl (fun s p =>
        endStep s p.2.session (e / B + if p.1 = 0 then e % B else 0) (r.status == 0) r.status) s
      let s := before.foldl (fun s p => slotDone s n p.1 r p.2) s
      d.slots.foldl (fun s sl => applyDeferred s sl.session) s

/-- The result of a dispatch that ran to its end. -/
def resultOf (s : Dev) (d : Dispatch) : DispResult :=
  let l := faultedGroups s d
  match firstFaulted l with
  | some (g, c) => { status := c.code, group := g, r1 := c.addr % 2 ^ 57, r2 := l.length % 2 ^ 24, r3 := min d.poisonTiles 65535,
                     flags := (dispFlags s d).toNat }
  | none => { status := 0, group := 0xFFFFFFFF, r1 := 0, r2 := 0, r3 := min d.poisonTiles 65535, flags := (dispFlags s d).toNat }

/-! ### Eligibility and batches (R308 to R310) -/

/-- Completion ring of a session's next step. -/
def nextRing (x : Session) : Nat :=
  match x.steps.find? (fun p => p.1 == x.step) with
  | some p => p.2.1 % 2 ^ 20
  | none => ringKey x.inst x.cplRing

/-- Completions already owed on a ring: those that wait to be written, commands begun, and steps that run. -/
def owedOn (s : Dev) (k : Nat) : Nat :=
  (match ringAt s k with
   | some r => r.cplQ.length
   | none => 0)
  + (s.fe.store.filter (fun e => ringKey e.inst e.ring == k && e.phase == 1 && entryOp e.entry != 0x12)).length
  + (s.fe.sessions.filter (fun p => p.2.state == .running && nextRing p.2 == k)).length

/-- A ring has room for one more completion beyond a number owed. -/
def ringRoom (s : Dev) (k owed : Nat) : Bool :=
  match ringAt s k with
  | some r => !r.dead && decide (r.written + owed + 1 ≤ r.consumed + 2 ^ r.cplLog2)
  | none => false

/-- Sessions of a binding and class that are eligible, in order (R308): oldest first with wrap-around, then by index. -/
def eligible (s : Dev) (b cls : Nat) : List Nat :=
  let cand := s.fe.sessions.filter (fun p => p.2.state == .ready && decide (p.2.pending ≥ 1) && p.2.binding == b && p.2.cls == cls
    && p.2.moving.isNone)
  let ord := sortBy (fun (p : Nat × Session) => (2 ^ 32 - 1 - (s.time.hw + 2 ^ 32 - p.2.oldest) % 2 ^ 32) * 2 ^ 20 + p.1) cand
  (ord.foldl (fun (a : List Nat × List Nat) p =>
    let k := nextRing p.2
    if ringRoom s k (owedOn s k + (a.2.filter (· == k)).length) then (a.1 ++ [p.1], a.2 ++ [k]) else a) ([], [])).1

/-- The batch former forms batches for an instance (R325, R328, R408, R410). -/
def formsFor (s : Dev) (i : Nat) : Bool := insState s i == 1 && jnlMode s i != 2 && !jnlHeld s i

/-- Islands of a mask that are not lost. -/
def liveIslands (s : Dev) (m : Nat) : List Nat := (setBitsOf 44 m).filter (fun i => fget s (RF.PWR_ISLAND_STATE i) != 3)

/-- A binding's batch limit (R309). -/
def batchLimit (s : Dev) (b : Binding) : Nat := min b.maxBatch (b.perIsland * (liveIslands s b.islands).length)

/-- What a session's slot supplies to its step (R304, R307). -/
def slotInfo (s : Dev) (b : Binding) (n : Nat) : SlotInfo :=
  let x := sesAt s n
  { session := n, step := x.step, seed := x.seed, inVa := inFrame x b x.step, inLen := b.inBytes, outVa := outFrame x b x.step,
    outLen := b.outBytes, kvVa := x.kvList, kvCount := 0 }

/-- A dispatch that waits for its islands. -/
def addDispatch (s : Dev) (d : Dispatch) : Dev :=
  { s with disp := tset s.disp s.fe.order { d with order := s.fe.order }, fe := { s.fe with order := s.fe.order + 1 } }

/-- Sessions that are Running, whose entries are pinned (R300). -/
def runningCount (s : Dev) : Nat := (s.fe.sessions.filter (fun p => p.2.state == .running)).length

/-- Cut a batch of sessions of a binding: they are Running, and it is dispatched (R309, R310, R324). One that the session cache cannot pin is
not cut yet. DEDUCED: log entry 43. -/
def cutBatch (s : Dev) (b : Nat) (bd : Binding) (cls : Nat) (l : List Nat) : Dev :=
  if l.isEmpty || decide (runningCount s + l.length > 16384) then s
  else
    let slots := l.map (slotInfo s bd)
    let s := l.foldl (fun s n => putSession (touchSession s n) n { sesAt s n with state := .running }) s
    let s := modJnl s bd.inst (fun j => { j with seq := j.seq + 1 })
    let s := jnlRecord s bd.inst 5 0 0xFFFF 0 0xFFFFFFFF l.length
      (leBytes 2 b ++ leBytes 1 cls ++ List.replicate 5 0 ++ l.foldr (fun n acc => leBytes 4 n ++ acc) [])
    addDispatch s { inst := bd.inst, plain := false, bind := b, cls := cls, shape := bd.shape, prog := bd.prog, args := bd.args,
                    islands := bd.islands, seed := 0, got := [], cores := [], canon := [], slots := slots, phase := .waiting, order := 0,
                    source := none, uregs := [], flags := 0, poisonTiles := 0, code := 0, seq := (jnlOf s bd.inst).seq, start := none }

/-- Cut the eligible sessions of a binding and class into batches: all of them at a tick, whole batches alone between ticks.
DESIGN CHOICE: log entry 44. -/
def cutGroup (s : Dev) (b cls : Nat) (tick : Bool) : Nat → Dev
  | 0 => s
  | f + 1 =>
    match bindAt s b with
    | none => s
    | some bd =>
      let lim := batchLimit s bd
      let l := eligible s b cls
      if !formsFor s bd.inst then
        (if tick && jnlHeld s bd.inst && !l.isEmpty then bump s (Reg.SES_CLASS_CNT_MISSES cls) else s)
      else if lim = 0 || l.isEmpty || (!tick && decide (l.length < lim)) then s
      else
        let s' := cutBatch s b bd cls (l.take lim)
        if s'.fe.order = s.fe.order then s else cutGroup s' b cls tick f

/-- A group that has reached its limit is dispatched at once (R309). DEDUCED: log entry 43. -/
def pokeFormer (s : Dev) (n : Nat) : Dev :=
  let x := sesAt s n
  cutGroup s x.binding x.cls false 16385

/-- CLASS_TICK (R309). -/
def execClassTick (cls : Nat) (s : State) : Host.Outcome State Fault Refusal :=
  perform s (fun s => whole s (fun s =>
    if cls > 7 ∨ !serving s then s
    else (tkeys s.fe.bindings).foldl (fun s b => cutGroup s b cls true 16385) s))

/-- SESSION_STEP (R306). -/
def execSessionStep (c : Cmd) (s : State) : Host.Outcome State Fault Refusal :=
  perform s (fun s => command 0x12 c s (fun x s =>
    let n := eb x.e 16 4
    let f := eb x.e 24 8
    let code := frameCode s x.inst n f
    if code ≠ 0 then (s, .reject code)
    else (pokeFormer (acceptFrame s n f x.ring (some (x.key, eb x.e 8 8))) n, .later)))

/-! ### LAUNCH (R297) -/

/-- LAUNCH: accepted, it waits for its islands. DEDUCED: log entry 31. -/
def execLaunch (c : Cmd) (s : State) : Host.Outcome State Fault Refusal :=
  perform s (fun s => command 0x01 c s (fun x s =>
    let f := fun (o n : Nat) => eb x.e o n
    let shape : Shape := ⟨f 48 4, f 56 1, f 52 2, f 57 1, 1024 * f 54 2⟩
    let isl := f 32 8
    afterChecks s [(!shapeOk shape.groups shape.setGroups shape.regs shape.lsSplit shape.lsPerSet || !islandsOk s x.inst isl
          || decide (f 58 1 > 7), eArg),
        (f 16 8 % 8 != 0 || f 24 8 % 64 != 0, eAlign), (namesLost s isl, eState)]
      (let s := modJnl s x.inst (fun j => { j with seq := j.seq + 1 })
       (addDispatch s { inst := x.inst, plain := true, bind := 0, cls := f 58 1, shape := shape, prog := f 16 8, args := f 24 8,
                        islands := isl, seed := BitVec.ofNat 64 (f 40 8), got := [], cores := [], canon := [], slots := [],
                        phase := .waiting, order := 0, source := some x.key, uregs := [], flags := 0, poisonTiles := 0, code := 0,
                        seq := (jnlOf s x.inst).seq, start := none }, .later))))

/-! ### Islands (R310) -/

/-- Islands a dispatch needs: all of a launch's, or enough for a batch's slots. -/
def wanted (s : Dev) (d : Dispatch) : Nat :=
  if d.plain then popcount 44 d.islands
  else ceilDiv d.slots.length (match bindAt s d.bind with
    | some b => b.perIsland
    | none => 512)

/-- An island runs a launch or step, or is held for one. -/
def islandTaken (s : Dev) (i : Nat) : Bool := s.disp.any (fun p => p.2.got.contains i)

/-- Work goes before other work (R310): lower class, then earlier dispatch. DESIGN CHOICE: log entry 44. -/
def goesBefore (a b : Dispatch) : Bool := decide (a.cls < b.cls) || (a.cls == b.cls && decide (a.order < b.order))

/-- The canonical islands of a dispatch: the lowest-numbered of its mask, lost or not. -/
def canonIslands (d : Dispatch) (n : Nat) : List Nat := (setBitsOf 44 d.islands).take n

/-- Cores of islands, in increasing logical core number. -/
def coresOf (l : List Nat) : List Nat := l.foldl (fun a i => a ++ [4 * i, 4 * i + 1, 4 * i + 2, 4 * i + 3]) []

/-- BATCH_DISPATCH: a waiting launch or batch takes the islands of its mask that are free and that no earlier work waits for; with all it needs, its
core list is fixed and its islands are asked to run (R57, R310). DESIGN CHOICE: log entry 44. -/
def takeIslands (s : Dev) (n : Nat) : Dev :=
  match tget s.disp n with
  | none => s
  | some d =>
    if d.phase ≠ .waiting then s
    else
      let ahead := s.disp.filter (fun p => p.1 != n && p.2.phase == .waiting && goesBefore p.2 d)
      let free := (liveIslands s d.islands).filter (fun i => !islandTaken s i && !ahead.any (fun p => bitOf p.2.islands i))
      let need := wanted s d
      let got := (d.got ++ free.take (need - d.got.length)).foldl (fun l i => insertNat i l) []
      if got.length < need then modDisp s n (fun d => { d with got := got })
      else
        let s := modDisp s n (fun d => { d with got := got, cores := coresOf got, canon := coresOf (canonIslands d need), phase := .assigned })
        got.foldl requestRun s

/-- BATCH_DISPATCH (R310). -/
def execBatchDispatch (dispatch : Nat) (s : State) : Host.Outcome State Fault Refusal :=
  perform s (fun s => if serving s then takeIslands s dispatch else s)

/-! ### Sets (R57, R58, R63) -/

/-- Position of a core in a core list. -/
def corePos (d : Dispatch) (core : Nat) : Nat := d.cores.idxOf core

/-- Groups that a partition can hold. -/
def partCapacity (sh : Shape) : Nat := min 16 (32768 / (32 * sh.regs))

/-- Partition of group k of the groups assigned to a core. -/
def partOf (sh : Shape) (C set gi : Nat) : Nat := (set / C * sh.setGroups + gi) % 4

/-- Resident groups of a partition. -/
def partUsed (c : Core) (q : Nat) : Nat :=
  (c.groups.filter (fun p => p.2.part == q && (tgetD c.sets p.2.set ⟨0, false⟩).resident)).length

/-- The lowest free local-store slot (R58). -/
def freeSlot (c : Core) (sh : Shape) : Option Nat :=
  if sh.lsPerSet = 0 then some 0
  else lowest (lsBytes sh.lsSplit / sh.lsPerSet) (fun k => !c.sets.any (fun p => p.2.resident && p.2.slot == k))

/-- SET_ADMIT on a core: the next set becomes resident when every partition has room and a slot is free (R58); its slot reads as zero (R63), and its
groups start with the argument block (R59, R298). -/
def admitSet (s : Dev) (core : Nat) : Dev :=
  let c := coreOf s core
  match c.disp.bind (fun n => (tget s.disp n).map (fun d => (n, d))) with
  | none => s
  | some (n, d) =>
    let sh := d.shape
    let C := d.cores.length
    let set := c.nextSet
    let gis := List.range sh.setGroups
    let fits := (List.range 4).all (fun q =>
      decide (partUsed c q + (gis.filter (fun gi => partOf sh C set gi == q)).length ≤ partCapacity sh))
    if d.phase ≠ .running ∨ set * sh.setGroups ≥ sh.groups ∨ !fits then s
    else match freeSlot c sh with
      | none => s
      | some k =>
        let c := lsZero c (k * sh.lsPerSet) sh.lsPerSet
        let groups := gis.foldl (fun t gi =>
          tset t (set * sh.setGroups + gi) (Group.start set (partOf sh C set gi) d.prog d.uregs)) c.groups
        let s := setCore s core { c with groups := groups, sets := tset c.sets set ⟨k, true⟩, nextSet := set + C }
        if d.start.isSome then s
        else modDisp s n (fun d => { d with start := some s.time.hw })

/-- SET_ADMIT (R58). -/
def execSetAdmit (core : Nat) (s : State) : Host.Outcome State Fault Refusal := perform s (fun s => admitSet s core)

/-! ### Start and end of a dispatch -/

/-- A core takes a launch (R62, R204): an acquire at system scope, and where the split changes the L1 is written back and invalidated. -/
def startCore (s : Dev) (n : Nat) (d : Dispatch) (core : Nat) : Dev :=
  modCore s core (fun c =>
    let c := l1Acquire c
    let c := if c.split = d.shape.lsSplit then c else { c with l1 := [], split := d.shape.lsSplit }
    { c with disp := some n, groups := [], sets := [], nextSet := corePos d core, ls := [] })

/-- The uniform registers that an argument block gives (R298). -/
def argRegs (b : List Byte) : Tbl Reg32 :=
  (List.range 64).foldl (fun t j =>
    let v := ofLe ((b.drop (4 * j)).take 4)
    if v = 0 then t else tset t j (BitVec.ofNat 32 v)) []

/-- Page counts of the slots' key-value lists (R305); one that cannot be read is left open. DESIGN CHOICE: log entry 7. DEDUCED: log entry 40. -/
def readCounts (s : Dev) (inst : Nat) : List SlotInfo → Dev × List SlotInfo
  | [] => (s, [])
  | sl :: t =>
    let (s, b, c) := vaRead s inst sl.kvVa 4
    let (v, s) := if c = 0 then (ofLe b, s) else takeFree s
    let (s, rest) := readCounts s inst t
    (s, { sl with kvCount := v % 2 ^ 32 } :: rest)

/-- Latency of a step's start against the bound of R311, for one class. -/
def countStart (s : Dev) (d : Dispatch) : Dev :=
  if d.plain then s
  else
    let lat := (d.slots.map (fun sl =>
      let x := sesAt s sl.session
      s.time.hw - max (x.arrivals.headD 0) x.ended)).foldl max 0
    let s := bump s (Reg.SES_CLASS_CNT_STEPS d.cls)
    let w := tgetD s.fe.windows d.cls ⟨0, 0, 0⟩
    let fill := match bindAt s d.bind with
      | some b => d.slots.length * 2 ^ 32 / b.maxBatch
      | none => 0
    let s := { s with fe := { s.fe with windows := tset s.fe.windows d.cls ⟨max w.maxLat lat, w.fill + fill, w.batches + 1⟩ } }
    if lat > usTicks (fget s (RF.SES_CLASS_CFG_CADENCE_US d.cls) + 200) then bump s (Reg.SES_CLASS_CNT_MISSES d.cls) else s

/-- DISPATCH_START's effect (R62, R204, R298, R310). -/
def startDispatch (s : Dev) (n : Nat) : Dev :=
  match tget s.disp n with
  | none => s
  | some d =>
    if d.phase ≠ .assigned ∨ d.got.any (fun i => fget s (RF.PWR_ISLAND_STATE i) != 0) then s
    else
      let s := d.cores.foldl (fun s c => startCore s n d c) s
      let (s, b, code) := if d.args = 0 then (s, [], 0) else vaRead s d.inst d.args 256
      if code ≠ 0 then conclude s n { status := code, group := 0xFFFFFFFF, r1 := 0, r2 := 0, r3 := 0, flags := 0 }
      else
        let (s, slots) := readCounts s d.inst d.slots
        let s := modDisp s n (fun d => { d with slots := slots, uregs := argRegs b, phase := .running })
        countStart (admitSet s (d.cores.headD 0)) d

/-- DISPATCH_START (R204, R298). -/
def execDispatchStart (dispatch : Nat) (s : State) : Host.Outcome State Fault Refusal :=
  perform s (fun s => if serving s then whole s (fun s => startDispatch s dispatch) else s)

/-- Every set of a dispatch's core has been admitted and has finished. -/
def coreFinished (c : Core) (sh : Shape) : Bool :=
  decide (c.nextSet * sh.setGroups ≥ sh.groups) && c.groups.all (fun p => p.2.done)
    && c.tokens.all (fun p => !p.2.busy) && c.handles.all (fun p => !p.2.busy)

/-- The release of R85 by each core, and then the end of the dispatch. -/
def endDispatch (s : Dev) (n : Nat) (plain : Bool) : Dev :=
  match tget s.disp n with
  | none => s
  | some d =>
    if d.plain ≠ plain then s
    else
      let s := if d.phase = .running ∧ d.cores.all (fun c => coreFinished (coreOf s c) d.shape) then
          d.cores.foldl (fun s c => modCore s c l1PushAll) (modDisp s n (fun d => { d with phase := .ended }))
        else s
      match tget s.disp n with
      | some d =>
        if d.phase = .ended ∧ d.cores.all (fun c => (coreOf s c).wb.isEmpty) ∧ !pendingLine s false ∧ !pendingLine s true then
          let sessions := d.slots.map (·.session)
          sessions.foldl pokeFormer (conclude s n (resultOf s d))
        else s
      | none => s

/-- LAUNCH_COMPLETE (R85, R299): first the release of each core, then the completion. -/
def execLaunchComplete (dispatch : Nat) (s : State) : Host.Outcome State Fault Refusal :=
  perform s (fun s => if serving s then whole s (fun s => endDispatch s dispatch true) else s)

/-- STEP_COMPLETE (R307). -/
def execStepComplete (dispatch : Nat) (s : State) : Host.Outcome State Fault Refusal :=
  perform s (fun s => if serving s then whole s (fun s => endDispatch s dispatch false) else s)

/-- CADENCE_ADJUST for one class (R312); a window without a batch leaves the cadence as it is. DEDUCED: log entry 43. -/
def adjustClass (s : Dev) (k : Nat) : Dev :=
  let w := tgetD s.fe.windows k ⟨0, 0, 0⟩
  if w.batches = 0 then fset (fset s (RF.SES_CLASS_LAT_MAX_LAT_US k) 0) (RF.SES_CLASS_LAT_FILL_PCT k) 0
  else
    let lat := w.maxLat / 50
    let s := fset (fset s (RF.SES_CLASS_LAT_MAX_LAT_US k) lat) (RF.SES_CLASS_LAT_FILL_PCT k) (w.fill * 100 / (w.batches * 2 ^ 32))
    let cad := fget s (RF.SES_CLASS_CFG_CADENCE_US k)
    let tgt := fget s (RF.SES_CLASS_CFG_TARGET_US k)
    let new := if w.maxLat > usTicks tgt then max (fget s (RF.SES_CLASS_CFG_CAD_MIN_US k)) (cad / 2)
      else if 2 * w.maxLat ≤ usTicks tgt ∧ 2 * w.fill < w.batches * 2 ^ 32 then min (fget s (RF.SES_CLASS_CFG_CAD_MAX_US k)) (cad + 500)
      else cad
    if new = cad then s
    else
      let old := regRead s (Reg.SES_CLASS_CFG k)
      let s := fset s (RF.SES_CLASS_CFG_CADENCE_US k) new
      logFw s 1 (Reg.SES_CLASS_CFG k) old (regRead s (Reg.SES_CLASS_CFG k))

/-- CADENCE_ADJUST (R312). -/
def execCadenceAdjust (s : State) : Host.Outcome State Fault Refusal :=
  perform s (fun s =>
    if !serving s then s
    else
      let s := (List.range 8).foldl adjustClass s
      { s with fe := { s.fe with windows := [] } })

end Sys2Proof.Machine
end

