-- ==== Sys2Proof/Machine/Rings.lean ====
section
/-!
DEFINITION. Watch lines, rings and completion rings (R284 to R296, R314), and digests as they are recorded or compared (R324 to R329).
-/
namespace Sys2Proof.Machine

/-! ### Pages of a ring -/

/-- MSI-X vectors of a function (R377). -/
def vectorsOf (fn : Nat) : Nat := if fn = 0 then 64 else 62

/-- Location of a byte of a run of 4 KiB pages. DEDUCED: log entry 35. -/
def pageLoc (pages : List Nat) (off : Nat) : Nat := pages.getD (off / 4096) 0 + off % 4096

/-- Bytes of an entry of a ring kind (R288). -/
def entryBytesOf (kind : Nat) : Nat := if kind = 0 then 64 else 16

/-- A location whose contents this device holds: its own memory, or a line that a slice holds. -/
def heldHere (s : Dev) (loc : Nat) : Bool :=
  placeOf s (loc / 64) == .home || (lineAt s (loc / 64)).isSome

/-- Read bytes at a location; what a host or another device answers is the operand `given`. -/
def readGiven (s : Dev) (loc n given : Nat) : Dev × Nat × Nat :=
  let here := heldHere s loc
  let (s, b, c) := devRead s loc n
  (s, if here then ofLe b else given % 2 ^ (8 * n), c)

/-- The slice takes a watch line in host memory in S (R285, R382). DESIGN CHOICE: log entry 37. -/
def takeWatch (s : Dev) (loc : Nat) : Dev :=
  let k := loc / 64
  if placeOf s k = .host ∧ (lineAt s k).isNone then askRead s k (.cxlCache .rdShared k none) else s

/-- A location lies in the memory of a host. -/
def inHost (loc : Nat) : Bool := decide (hostBase ≤ loc) && decide (loc < globalBase)

/-- Rings in the memory of a host that has gone are not serviced, and their completions are dropped (R381). -/
def locLive (s : Dev) (i : Nat) (r : Ring) (loc : Nat) : Bool :=
  !inHost loc || (fget s (RF.HST_BIND_STATUS_BOUND i) == 1 && fget s (RF.HST_BIND_STATUS_GENERATION i) == r.gen)

/-- A ring whose pages and lines are all there. DEDUCED: log entry 36. -/
def ringLive (s : Dev) (i : Nat) (r : Ring) : Bool :=
  !r.dead && locLive s i r (r.pages.headD 0) && locLive s i r (r.cplPages.headD 0) && locLive s i r r.watch
    && fget s (RF.HST_BIND_STATUS_TDISP i) != 3

/-- Show the rings of an instance and the watch lines in use (R314, R418). DEDUCED: log entry 105. -/
def showRings (s : Dev) (i : Nat) : Dev :=
  fset (fset s (RF.INS_QUOTA_RINGS_USED i) (s.fe.rings.filter (fun p => p.1 / 4096 == i)).length)
    RF.WCH_STATUS_LINES_USED s.fe.rings.length

/-- A ring is put into service, with its mark on its watch line (R285). -/
def addRing (s : Dev) (i n : Nat) (r : Ring) : Dev :=
  let k := ringKey i n
  let s := { s with fe := { s.fe with rings := tset s.fe.rings k r, marks := tset s.fe.marks (r.watch / 64) k } }
  takeWatch (showRings s i) r.watch

/-- A ring is destroyed: its mark, its wakes and its commands go with it. -/
def dropRing (s : Dev) (k : Nat) : Dev :=
  let i := k / 4096
  showRings { s with fe := { s.fe with
    rings := tdel s.fe.rings k, marks := tfilter s.fe.marks (fun _ r => r != k), wakes := s.fe.wakes.filter (· != k),
    woken := s.fe.woken.filter (· != k), store := s.fe.store.filter (fun e => ringKey e.inst e.ring != k) } } i

/-- A fresh ring. -/
def Ring.make (kind size cpl vec mod ringVa cplVa watchVa : Nat) (pages cplPages : List Nat) (watch gen : Nat) : Ring :=
  { kind := kind, sizeLog2 := size, cplLog2 := cpl, vector := vec, irqMod := mod, ringVa := ringVa, cplVa := cplVa, watchVa := watchVa,
    pages := pages, cplPages := cplPages, watch := watch, read := 0, written := 0, consumed := 0, lastP := 0, dead := false, gen := gen,
    fresh := false, cplQ := [], lastIrq := none, irqDue := false, rejects := 0, lastReject := none }

/-- A ring entry, a header or a watch line is uncorrectable or poisoned (R494, R534). DEDUCED: log entry 35. -/
def badRing (s : Dev) (k : Nat) : Dev :=
  if k / 4096 = 0 then
    (let s := modRing (countFatal s 0) k (fun r => { r with dead := true, cplQ := [] })
     { s with fe := { s.fe with woken := s.fe.woken.filter (· != k) } })
  else instanceFatal s (k / 4096)

/-- A code of data that is poisoned or uncorrectable. -/
def badData (c : Nat) : Bool := c == ePoison || c == eUncorr

/-! ### Wakes (R285) -/

/-- WATCH_LINE_WAKE: a wake that was sent reaches the front end. DESIGN CHOICE: log entry 37. -/
def execWatchLineWake (inst ring : Nat) (s : State) : Host.Outcome State Fault Refusal :=
  perform s (fun s =>
    let k := ringKey inst ring
    if !s.fe.wakes.contains k then s
    else
      let s := fset (bump s Reg.WCH_CNT_WAKES) RF.WCH_STATUS_FE_AWAKE 1
      let s := modRing s k (fun r => { r with fresh := true })
      { s with fe := { s.fe with wakes := s.fe.wakes.erase k, woken := insertNat k s.fe.woken } })

/-! ### Service (R286, R287, R289) -/

/-- The front end may read a ring now: an instance whose state allows it (R408, R410, R416), no journal that holds it (R325), and in
replay the ring that carried REPLAY_START alone (R328). DEDUCED: log entry 36. -/
def serviceable (s : Dev) (k : Nat) : Bool :=
  match ringAt s k with
  | none => false
  | some r =>
    let i := k / 4096
    ringLive s i r && (insState s i == 1 || (insState s i == 5 && r.kind == 0)) && !jnlHeld s i
      && (jnlMode s i != 2 || (k == (jnlOf s i).cmd % 2 ^ 20 && r.kind == 0))

/-- The ring that is served next: round robin among the woken rings (R287). DEDUCED: log entry 105. -/
def nextServed (s : Dev) : Option Nat :=
  let l := s.fe.woken.filter (serviceable s)
  match l.find? (fun k => decide (k > s.fe.last)) with
  | some k => some k
  | none => l.head?

/-- Place an entry in the command store. One with an opcode that is not assigned is rejected at once (R293, R295). -/
def takeEntry (s : Dev) (i ring pos : Nat) (e : Entry512) (kind : Nat) (replay : Bool) : Dev :=
  let s := { s with fe := { s.fe with store := s.fe.store ++ [⟨i, ring, pos, e, 0, replay⟩] } }
  if kind = 0 ∧ (specOf (entryOp e)).isNone then
    let x := laterCtx ⟨i, ring, pos, e, 0, replay⟩
    rejectCmd s x (if x.origin = 2 then i else 0xFF) eReserved
  else s

/-- SEQ of a COMMAND record: a LAUNCH counts itself and those read before it that have not begun. -/
def commandSeq (s : Dev) (i : Nat) (e : Entry512) : Nat :=
  if entryOp e = 1 then (s.fe.store.filter (fun x => x.inst == i && x.phase == 0 && entryOp x.entry == 1)).length + 1 else 0

/-- Read up to n entries of a ring; what lies in the memory of a host or another device is given. -/
def readEntries (s : Dev) (k : Nat) : List Entry512 → Nat → Dev
  | _, 0 => s
  | given, n + 1 =>
    match ringAt s k with
    | none => s
    | some r =>
      let i := k / 4096
      if jnlHeld s i || r.dead then s
      else
        let size := entryBytesOf r.kind
        let loc := pageLoc r.pages (size * (r.read % 2 ^ r.sizeLog2))
        let (s, v, c) := readGiven s loc size (given.headD 0).toNat
        if badData c then badRing s k
        else if c ≠ 0 then s
        else
          let e : Entry512 := BitVec.ofNat 512 v
          let s := if r.kind = 0 then
              jnlRecord (modJnl s i (fun j => { j with seq := j.seq + commandSeq s i e })) i 2 0 (k % 4096) 0 0xFFFFFFFF (r.read % 2 ^ 32)
                (leBytes 64 v)
            else s
          let s := if r.kind = 0 then modJnl s i (fun j => { j with seq := j.seq - commandSeq s i e }) else s
          let s := takeEntry s i (k % 4096) r.read e r.kind false
          let s := bump (modRing s k (fun r => { r with read := r.read + 1 })) Reg.WCH_CNT_ENTRIES
          let s := (devWrite s (pageLoc r.cplPages 16) (leBytes 8 (r.read + 1))).1
          readEntries s k (given.drop 1) n

/-- One turn of a ring: its producer index is read; where entries stand below it, at most 16 of them are read, else the ring is left. -/
def serveRing (s : Dev) (k producer : Nat) (given : List Entry512) : Dev :=
  match ringAt s k with
  | none => s
  | some r =>
    let i := k / 4096
    let (s, p, c) := readGiven (takeWatch s r.watch) r.watch 8 producer
    if badData c then badRing s k
    else if c ≠ 0 then s
    else
      let s := if r.fresh && p == r.lastP then bump s Reg.WCH_CNT_SPURIOUS else s
      let s := if p = r.lastP then s else jnlRecord s i 3 0 (k % 4096) 0 0xFFFFFFFF 0 (leBytes 8 p ++ List.replicate 24 0)
      let s := modRing s k (fun r => { r with fresh := false, lastP := p })
      let s := { s with fe := { s.fe with last := k } }
      if p ≤ r.read then
        let w := s.fe.woken.filter (· != k)
        fset { s with fe := { s.fe with woken := w } } RF.WCH_STATUS_FE_AWAKE (b2n !w.isEmpty)
      else readEntries s k given (min 16 (p - r.read))

/-- RING_SERVICE (R286, R287): one turn of the ring whose turn it is. `producer` and `entries` are what lies in the memory of a host or
of another device. DEDUCED: log entry 105. -/
def execRingService (inst ring producer : Nat) (entries : List Entry512) (s : State) : Host.Outcome State Fault Refusal :=
  perform s (fun s => whole s (fun s =>
    if serving s && nextServed s == some (ringKey inst ring) then serveRing s (ringKey inst ring) producer entries else s))

/-! ### Outcomes and digests (R324, R328, R329) -/

/-- Replay ends: REPLAY_START completes (R327). -/
def endReplay (s : Dev) (i r3 : Nat) : Dev :=
  let j := jnlOf s i
  let s := fset s (RF.SES_JNL_STATUS_MODE i) 0
  let s := modJnl s i (fun j => { j with expect := [], outcomes := [], digests := [], stopping := none })
  completeKey s j.cmd { Ret.ok with
    r0 := (match j.first with
      | some p => p.2
      | none => 0xFFFFFFFF),
    r1 := (match j.first with
      | some p => p.1
      | none => j.lastSeq),
    r2 := min j.diverged (2 ^ 32 - 1), r3 := r3 }

/-- A divergence (R329). DEDUCED: log entry 61. -/
def diverge (s : Dev) (i seq session : Nat) : Dev :=
  let off := Reg.SES_JNL_CNT_DIVERGE i
  let old := regRead s off
  let s := bump s off
  let s := logAdd s 5 0 0 15 off i old (regRead s off)
  let s := modJnl s i (fun j => { j with diverged := j.diverged + 1, first := match j.first with
    | some p => some p
    | none => some (seq, session) })
  if (jnlOf s i).stopFirst then endReplay s i 2 else s

/-- An outcome's bytes without its PHASE bit. -/
def sansPhase (kind : Nat) (b : List Byte) : List Byte := if kind = 7 then b.take 31 ++ [b.getD 31 0 &&& 0xFE] else b

/-- What a recorded outcome or digest and a replayed one must agree in to be compared. -/
def sameSubject (a b : Expect) : Bool :=
  a.kind == b.kind && a.session == b.session && (if a.kind = 7 then
      a.ring == b.ring && a.bytes.take 8 == b.bytes.take 8 && (a.bytes.drop 10).take 2 == (b.bytes.drop 10).take 2
    else a.step == b.step && a.ring == b.ring)

/-- A replayed COLL_RUN or MCAST_SEND that waits for the outcome that the feed has brought completes with it (note n of R501). -/
def completeRecorded (s : Dev) (i : Nat) (x : Expect) : Dev :=
  match s.fe.store.find? (fun e => e.inst == i && e.replay && e.phase == 1 && e.ring == x.ring && (entryOp e.entry == 0x76 || entryOp e.entry == 0x78)
      && leBytes 8 (eb e.entry 8 8) ++ leBytes 2 (entryOp e.entry) == x.bytes.take 8 ++ (x.bytes.drop 10).take 2) with
  | some e => completeKey s (cmdKey e.inst e.ring e.pos) (retOf x.bytes)
  | none => s

/-- Compare what replay produced with what the feed holds, whichever comes first. DEDUCED: log entry 61. -/
def compareOne (s : Dev) (i : Nat) (x : Expect) (fromFeed : Bool) : Dev :=
  let j := jnlOf s i
  let others := if fromFeed then j.outcomes else j.expect
  match others.find? (sameSubject x) with
  | none =>
    if fromFeed then completeRecorded (modJnl s i (fun j => { j with expect := j.expect ++ [x] })) i x
    else modJnl s i (fun j => { j with outcomes := j.outcomes ++ [x] })
  | some y =>
    let s := modJnl s i (fun j => if fromFeed then { j with outcomes := j.outcomes.erase y } else { j with expect := j.expect.erase y })
    if sansPhase x.kind x.bytes = sansPhase y.kind y.bytes then s
    else diverge s i (if fromFeed then x.seq else y.seq) x.session

/-- A completion entry has been written for an instance. DEDUCED: log entry 61. -/
def noteOutcome (s : Dev) (i ring step session : Nat) (bytes : List Byte) (replayed : Bool) : Dev :=
  match jnlMode s i with
  | 1 => jnlRecord s i 7 0 ring step session 0 bytes
  | 2 => if replayed then compareOne s i ⟨7, ring, session, step, 0, bytes⟩ false else s
  | _ => s

/-- Digests whose dispatch has no completion left to write are recorded or compared, in slot order. -/
def flushDigests (s : Dev) (i : Nat) : Dev :=
  let waits := fun (d : Digest) => s.fe.rings.any (fun p => p.2.cplQ.any (fun c => c.disp == some d.disp))
  let ready := (jnlOf s i).digests.filter (fun d => !waits d)
  let s := modJnl s i (fun j => { j with digests := j.digests.filter waits })
  ready.foldl (fun s d =>
    let bytes := leBytes 8 d.value ++ List.replicate 24 0
    match jnlMode s i with
    | 1 => jnlRecord s i 8 0 d.ring d.step d.session 0 bytes
    | 2 => compareOne s i ⟨8, d.ring, d.session, d.step, 0, bytes⟩ false
    | _ => s) s

/-! ### Completions (R289 to R292) -/

/-- Send a ring's message, or leave it to the end of the interval (R292). -/
def ringIrq (s : Dev) (k : Nat) (r : Ring) : Dev :=
  let soon := match r.lastIrq with
    | some t => decide (s.time.hw < t + usTicks r.irqMod)
    | none => false
  if soon then modRing s k (fun r => { r with irqDue := true })
  else sendMsix (modRing s k (fun r => { r with lastIrq := some s.time.hw })) (k / 4096) r.vector

/-- Refresh CONSUMED from a completion ring's header. -/
def refreshConsumed (s : Dev) (k consumed : Nat) (r : Ring) : Dev × Bool :=
  let (s, v, c) := readGiven s (pageLoc r.cplPages 0) 8 consumed
  if badData c then (badRing s k, false)
  else if c ≠ 0 then (s, true)
  else (modRing s k (fun r => { r with consumed := v }), true)

/-- Write the first completion of a ring that has room. -/
def writeCpl (s : Dev) (k : Nat) (r : Ring) (c : Cpl) (rest : List Cpl) : Dev :=
  let i := k / 4096
  let cap := 2 ^ r.cplLog2
  let bytes := cplBody c ++ [BitVec.ofNat 8 ((r.written / cap + 1) % 2 + 2 * b2n c.implicit)]
  let replayed := match c.key with
    | some key => (match storeAt s key with
      | some e => e.replay
      | none => false)
    | none => true
  let spill := match c.key with
    | some key => dropStore s key
    | none => s
  let s := modRing spill k (fun r => { r with cplQ := rest })
  if !locLive s i r (r.cplPages.headD 0) then flushDigests (bump s Reg.HST_CNT_DROPPED_CPL) i
  else
    let s := (devWrite s (pageLoc r.cplPages (64 + 32 * (r.written % cap))) bytes).1
    let s := (devWrite s (pageLoc r.cplPages 8) (leBytes 8 (r.written + 1))).1
    let s := modRing s k (fun r => { r with written := r.written + 1 })
    let s := if c.irq then ringIrq s k r else s
    let step := c.opcode == 0x12
    flushDigests (noteOutcome s i (k % 4096) (if step then c.tag else 0) (if step then c.r0 else 0xFFFFFFFF) bytes replayed) i

/-- A turn of a completion ring. -/
def completionTurn (s : Dev) (k consumed : Nat) : Dev :=
  match ringAt s k with
  | none => s
  | some r =>
    if r.dead then s
    else match r.cplQ with
      | [] => if locLive s (k / 4096) r (r.cplPages.headD 0) then flushDigests (refreshConsumed s k consumed r).1 (k / 4096) else s
      | c :: rest =>
        let full := decide (r.written ≥ r.consumed + 2 ^ r.cplLog2)
        if full && locLive s (k / 4096) r (r.cplPages.headD 0) then
          (match refreshConsumed s k consumed r with
           | (s, true) => (match ringAt s k with
             | some r => if r.written ≥ r.consumed + 2 ^ r.cplLog2 then s else writeCpl s k r c rest
             | none => s)
           | (s, false) => s)
        else writeCpl s k r c rest

/-- COMPLETION_WRITE (R289, R291): the first completion owed on a ring is written where there is room; with none owed, CONSUMED is read again.
`consumed` is what lies in the memory of a host or of another device. -/
def execCompletionWrite (inst ring consumed : Nat) (s : State) : Host.Outcome State Fault Refusal :=
  perform s (fun s => if serving s then whole s (fun s => completionTurn s (ringKey inst ring) consumed) else s)

/-- IRQ_MODERATION_EXPIRY (R292). -/
def execIrqModerationExpiry (inst ring : Nat) (s : State) : Host.Outcome State Fault Refusal :=
  perform s (fun s =>
    let k := ringKey inst ring
    match ringAt s k with
    | some r => if r.irqDue then
        sendMsix (modRing s k (fun r => { r with irqDue := false, lastIrq := some s.time.hw })) inst r.vector else s
    | none => s)

/-! ### Input entries (R294, R306) -/

/-- An input entry is rejected: its completion, its count, and at most one log entry a millisecond for its ring. -/
def rejectInput (s : Dev) (i ring pos n f code : Nat) (e : Entry512) : Dev :=
  let k := ringKey i ring
  let s := oweCpl (bump s Reg.SES_CNT_INPUT_REJECTS) k
    { tag := f, status := code, opcode := 0x17, r0 := n, r1 := 0, r2 := 0, r3 := 0, flags := 0, implicit := false, irq := true, key := none,
      disp := none }
  match ringAt s k with
  | none => s
  | some r =>
    let cnt := r.rejects + 1
    if (match r.lastReject with
      | some t => decide (s.time.hw < t + usTicks 1000)
      | none => false) then modRing s k (fun r => { r with rejects := cnt })
    else
      let s := modRing s k (fun r => { r with rejects := 0, lastReject := some s.time.hw })
      logAdd s (if i = 0 then 1 else 2) i code 2 (0x17 + 2 ^ 16 * ring + 2 ^ 32 * (pos % 2 ^ 32)) i (eb e 0 16) cnt

/-- SESSION_INPUT (R294, R306): the first entry that is read and not yet checked of an input ring. -/
def execSessionInput (inst ring pos : Nat) (s : State) : Host.Outcome State Fault Refusal :=
  perform s (fun s => whole s (fun s =>
    let key := cmdKey inst ring pos
    match storeAt s key, ringAt s (ringKey inst ring) with
    | some e, some r =>
      if r.kind ≠ 1 ∨ e.phase ≠ 0 ∨ jnlHeld s inst ∨ !serving s
          ∨ s.fe.store.any (fun d => d.inst == inst && d.ring == ring && decide (d.pos < pos)) then s
      else
        let n := eb e.entry 0 4
        let f := eb e.entry 8 8
        let code := if eb e.entry 4 4 ≠ 0 then eReserved else frameCode s inst n f
        let s := dropStore s key
        if code ≠ 0 then rejectInput s inst ring pos n f code e.entry
        else pokeFormer (acceptFrame s n f ring none) n
    | _, _ => s))

/-! ### RING_CREATE and RING_DESTROY (R288, R296) -/

/-- A page of a range is a migratable leaf (R288). -/
def anyMig (s : Dev) (inst va n : Nat) : Bool :=
  (List.range ((va + n - 1) / 4096 - va / 4096 + 1)).any (fun i => ((migLeafAt s inst ((va / 4096 + i) * 4096)).2).isSome)

/-- RING_CREATE (R288, R296, R380). DEDUCED: log entry 35. -/
def execRingCreate (c : Cmd) (s : State) : Host.Outcome State Fault Refusal :=
  perform s (fun s => command 0x20 c s (fun x s =>
    let i := x.inst
    let kind := eb x.e 16 1
    let size := eb x.e 17 1
    let cpl := eb x.e 18 1
    let vec := eb x.e 20 2
    let rva := eb x.e 24 8
    let cva := eb x.e 32 8
    let wva := eb x.e 40 8
    let rn := entryBytesOf kind * 2 ^ size
    let cn := 64 + 32 * 2 ^ cpl
    let early := firstCode [(decide (kind > 1) || decide (size < 6) || decide (size > 16) || decide (cpl < 6) || decide (cpl > 16)
        || decide (vec ≥ vectorsOf i), eArg), (rva % 4096 != 0 || cva % 4096 != 0 || wva % 64 != 0, eAlign)]
    if early ≠ 0 then (s, .reject early)
    else
      match vaPages s i rva rn 0 with
      | (s, .inl c) => (s, .reject c)
      | (s, .inr rp) =>
        (match vaPages s i cva cn 1 with
         | (s, .inl c) => (s, .reject c)
         | (s, .inr cp) =>
           (match vaPages s i cva 8 0 with
            | (s, .inl c) => (s, .reject c)
            | (s, .inr _) =>
              (match feTranslate s i wva 0 with
               | (s, .inr c) => (s, .reject c)
               | (s, .inl w) =>
                 let free := lowest 4095 (fun n => !thas s.fe.rings (ringKey i (n + 1)))
                 afterChecks s [(anyMig s i rva rn || anyMig s i cva cn || anyMig s i wva 8
                     || (inHost w && !coherentBinding s i), eArg),
                   (thas s.fe.marks (w / 64), eBusy),
                   (decide (fget s (RF.INS_QUOTA_RINGS_USED i) ≥ fget s (RF.INS_QUOTA_MAX_RINGS i)), eQuota),
                   (free.isNone || decide (s.fe.rings.length ≥ 4096), eNoSpace)]
                   (let n := free.getD 0 + 1
                    (addRing s i n (Ring.make kind size cpl vec (eb x.e 22 2) rva cva wva rp cp w
                       (fget s (RF.HST_BIND_STATUS_GENERATION i))), .done { Ret.ok with r0 := n })))))))

/-- RING_DESTROY (R296, R534). -/
def execRingDestroy (c : Cmd) (s : State) : Host.Outcome State Fault Refusal :=
  perform s (fun s => command 0x21 c s (fun x s =>
    let n := eb x.e 16 2
    let k := ringKey x.inst n
    match decide (n < 4096), ringAt s k with
    | true, some r =>
      afterChecks s [(n == x.ring || (!r.dead && (s.fe.store.any (fun e => ringKey e.inst e.ring == k) || !r.cplQ.isEmpty))
          || s.fe.sessions.any (fun p => p.2.inst == x.inst && p.2.cplRing == n && p.2.state != .closed), eBusy)]
        (dropRing s k, .done Ret.ok)
    | _, _ => (s, .reject eArg)))

/-! ### The boot block (R314, R371, R380) -/

/-- BAR2_VA of a function (R376). -/
def bar2Va (s : Dev) (fn : Nat) : Nat := wfget s fn RF.HST_BAR2_VA_BASE * 2 ^ 36

/-- Location of a page that the boot block names: in the function's own BAR2 it is device memory under its translation, else the host's. -/
def bootLoc (s : Dev) (i hpa access : Nat) : Dev × Option Nat :=
  match tget s.ins.bar2 i with
  | some base =>
    if base ≤ hpa ∧ hpa < base + 2 ^ 36 then
      (match feTranslate s i (bar2Va s i + (hpa - base)) access with
       | (s, .inl loc) => (s, if inHost loc || decide (loc ≥ globalBase) then none else some loc)
       | (s, .inr _) => (s, none))
    else (s, some (hostLoc s i hpa))
  | none => (s, some (hostLoc s i hpa))

/-- Locations of the pages of a range that the boot block names. -/
def bootPages (s : Dev) (i hpa access : Nat) : Nat → Dev × Option (List Nat)
  | 0 => (s, some [])
  | n + 1 =>
    match bootLoc s i hpa access with
    | (s, none) => (s, none)
    | (s, some loc) => (match bootPages s i (hpa + 4096) access n with
      | (s, some l) => (s, some (loc :: l))
      | (s, none) => (s, none))

/-- The checks of ENABLE, and the ring they give. -/
def bootRing (s : Dev) (fn : Nat) : Dev × Option Ring :=
  let ring := wfget s fn RF.WCH_BOOT_RING_ADDR
  let cpl := wfget s fn RF.WCH_BOOT_CPL_ADDR
  let watch := wfget s fn RF.WCH_BOOT_WATCH_ADDR
  let size := wfget s fn RF.WCH_BOOT_CTL_SIZE_LOG2
  let csize := wfget s fn RF.WCH_BOOT_CTL_CPL_SIZE_LOG2
  let vec := wfget s fn RF.WCH_BOOT_CTL_VECTOR
  let rn := 64 * 2 ^ size
  let cn := 64 + 32 * 2 ^ csize
  if !serving s || insState s fn == 0 || insState s fn == 4 || fget s RF.HST_STATUS_LINK == 2
      || decide (size < 6) || decide (size > 12) || decide (csize < 6) || decide (csize > 15) || decide (vec ≥ vectorsOf fn)
      || ring % 4096 != 0 || cpl % 4096 != 0 || watch % 64 != 0
      || !inBinding s fn ring rn || !inBinding s fn cpl cn || !inBinding s fn watch 64
      || decide (s.fe.rings.length ≥ 4096) || decide (fget s (RF.INS_QUOTA_RINGS_USED fn) ≥ fget s (RF.INS_QUOTA_MAX_RINGS fn)) then (s, none)
  else
    match bootPages s fn ring 0 (rn / 4096 + b2n (rn % 4096 != 0)) with
    | (s, none) => (s, none)
    | (s, some rp) =>
      (match bootPages s fn cpl 1 (cn / 4096 + b2n (cn % 4096 != 0)) with
       | (s, none) => (s, none)
       | (s, some cp) =>
         (match bootLoc s fn watch 0 with
          | (s, none) => (s, none)
          | (s, some w) =>
            if (inHost w && !coherentBinding s fn) || thas s.fe.marks (w / 64) then (s, none)
            else (s, some (Ring.make 0 size csize vec 0 ring cpl watch rp cp w (fget s (RF.HST_BIND_STATUS_GENERATION fn))))))

/-- A host's write of WCH_BOOT_CTL with ENABLE set, in the window of a function (R314). -/
def enableBoot (s : Dev) (fn value : Nat) : Dev :=
  if wfget s fn RF.WCH_BOOT_CTL_READY = 1 then s
  else
    let s := winWrite s fn Reg.WCH_BOOT_CTL (value % 2 ^ 27 &&& 0x7FFFF01)
    match bootRing s fn with
    | (s, some r) => addRing (wfset s fn RF.WCH_BOOT_CTL_READY 1) fn 0 r
    | (s, none) => wfset s fn RF.WCH_BOOT_CTL_ERROR 1

/-- A function's TDISP interface enters ERROR, which is a fault of its instance (R388, R494). -/
def tdispError (s : Dev) (fn : Nat) : Dev := instanceFatal (fset s (RF.HST_BIND_STATUS_TDISP fn) 3) fn

/-- A CXL.io access to a function goes on (R388): from a locked interface on, only on the IDE stream bound at lock, and not before RUN. -/
def vfGate (s : Dev) (fn : Nat) (ide : Bool) : Dev × Bool :=
  if fn = 0 then (s, true)
  else match fget s (RF.HST_BIND_STATUS_TDISP fn) with
    | 0 => (s, true)
    | 3 => (s, false)
    | t => if ide && (tget s.host.locked fn).any (fun n => s.host.streams.contains n) then (s, t == 2) else (tdispError (bump s Reg.HST_CNT_IDE_FAILS) fn, false)

/-- WCH_BOOT_CTL_ENABLE (R314): a 64-bit write of `value`, whose ENABLE is 1, to a function's window; `ide` says that it came on the IDE stream
bound at lock. -/
def execWchBootCtlEnable (fn value : Nat) (ide : Bool) (s : State) : Host.Outcome State Fault Refusal :=
  perform s (fun s => whole s (fun s =>
    if fn > 32 ∨ value % 2 = 0 then s
    else match vfGate s fn ide with
      | (s, true) => enableBoot s fn value
      | (s, false) => s))

end Sys2Proof.Machine
end

