-- ==== Sys2Proof/Machine/Replay.lean ====
section
/-!
DEFINITION. Journals and replay (R321 to R329): recording, room, and the records of a feed.
-/
namespace Sys2Proof.Machine

/-! ### Recording (R321, R325) -/

/-- Log2 of a journal's or feed's data area (R321). -/
def journalSizeOk (n : Nat) : Bool := decide (20 ≤ n) && decide (n ≤ 36)

/-- An instance has a launch or step that is running or queued. -/
def hasDispatch (s : Dev) (i : Nat) : Bool := s.disp.any (fun p => p.2.inst == i)

/-- JOURNAL_START (R321). DEDUCED: log entry 60. -/
def execJournalStart (c : Cmd) (s : State) : Host.Outcome State Fault Refusal :=
  perform s (fun s => command 0x60 c s (fun x s =>
    let i := eb x.e 16 1
    let base := eb x.e 24 8
    let dig := eb x.e 32 8
    let len := eb x.e 40 4
    let digest := bitOf (eb x.e 18 1) 1
    let early := firstCode [(!journalSizeOk (eb x.e 17 1) || len % 32 != 0 || decide (len > 16777216) || (len == 0 && digest), eArg),
        (base % 4096 != 0 || dig % 32 != 0, eAlign)]
    if early ≠ 0 then (s, .reject early)
    else
      let (s, c1) := vaCheck s i base 64 1
      let (s, c2) := if digest then vaCheck s i dig len 0 else (s, 0)
      afterChecks s ([(c1 != 0, c1), (c2 != 0, c2)] ++ namedState s i ++ [(jnlMode s i != 0, eState), (hasDispatch s i, eBusy)])
        (let n := (fget s (RF.SES_JNL_STATUS_JOURNAL i) + 1) % 2 ^ 32
         let s := fset (fset (fset (fset s (RF.SES_JNL_STATUS_JOURNAL i) n) (RF.SES_JNL_STATUS_MODE i) 1) (RF.SES_JNL_STATUS_HELD i) 0)
           (RF.SES_JNL_STATUS_GAPPED i) 0
         let s := modJnl s i (fun _ => { Journal.none with base := base, sizeLog2 := eb x.e 17 1, drop := bitOf (eb x.e 18 1) 0,
                                                           digLaunch := digest, digVa := dig, digLen := len })
         let s := jnlRecord s i 1 0 0xFFFF 0 0xFFFFFFFF n (leBytes 8 s.time.hw ++ leBytes 8 (regRead s Reg.LOG_EPOCH) ++ List.replicate 16 0)
         (s, .done { Ret.ok with r0 := n }))))

/-- Recording is over. -/
def stopRecording (s : Dev) (i : Nat) : Dev :=
  modJnl (fset (fset s (RF.SES_JNL_STATUS_MODE i) 0) (RF.SES_JNL_STATUS_HELD i) 0) i (fun j => { j with stopping := none, digests := [] })

/-- Write the records that wait, oldest first, while there is room. DEDUCED: log entry 60. -/
def flushQueue (s : Dev) (i : Nat) : Nat → Dev
  | 0 => s
  | n + 1 =>
    match (jnlOf s i).queue with
    | [] => s
    | r :: t =>
      let (s, ok) := jnlWrite s i r
      if ok then flushQueue (modJnl s i (fun j => { j with queue := t })) i n else s

/-- Room has returned (R325): one GAP record after a loss, then the records that wait; a stop that waited completes. DEDUCED: log entry 60. -/
def journalRoom (s : Dev) (i : Nat) : Dev :=
  if jnlMode s i ≠ 1 then s
  else
    let j := jnlOf s i
    let s := if j.lost = 0 then s
      else
        let gap : JRec := { kind := 10, flags := 0, ring := 0xFFFF, seq := j.seq, step := 0, session := 0xFFFFFFFF, aux := j.lost, payload := [] }
        let (s, ok) := jnlWrite s i gap
        if ok then fset (modJnl s i (fun j => { j with lost := 0 })) (RF.SES_JNL_STATUS_GAPPED i) 1 else s
    let s := if (jnlOf s i).lost = 0 then flushQueue s i ((jnlOf s i).queue.length + 1) else s
    if !(jnlOf s i).queue.isEmpty then s
    else
      let s := fset s (RF.SES_JNL_STATUS_HELD i) 0
      match (jnlOf s i).stopping with
      | some key => completeKey (stopRecording s i) key Ret.ok
      | none => s

/-- JOURNAL_ROOM_RETURN (R325). -/
def execJournalRoomReturn (inst : Nat) (s : State) : Host.Outcome State Fault Refusal :=
  perform s (fun s => whole s (fun s => journalRoom s inst))

/-- JOURNAL_STOP (R321): an END record, which waits for room under either POLICY. -/
def execJournalStop (c : Cmd) (s : State) : Host.Outcome State Fault Refusal :=
  perform s (fun s => command 0x61 c s (fun x s =>
    let i := eb x.e 16 1
    let j := jnlOf s i
    afterChecks s (namedState s i ++ [(jnlMode s i != 1 || j.stopping.isSome, eState)])
      (let r : JRec := { kind := 11, flags := 0, ring := 0xFFFF, seq := j.seq, step := 0, session := 0xFFFFFFFF,
                         aux := fget s (RF.SES_JNL_STATUS_JOURNAL i), payload := [] }
       let (s, ok) := if j.queue.isEmpty && j.lost == 0 then jnlWrite s i r else (s, false)
       if ok then (stopRecording s i, .done Ret.ok)
       else (modJnl s i (fun j => { j with queue := j.queue ++ [r], stopping := some x.key }), .later))))

/-! ### Replay (R327, R328) -/

/-- Read bytes by virtual address; what lies in the memory of a host or of another device is given. -/
def vaGiven (s : Dev) (inst va n : Nat) (given : List Byte) : Dev × List Byte × Nat :=
  match feTranslate s inst va 0 with
  | (s, .inr c) => (s, [], c)
  | (s, .inl loc) =>
    let here := heldHere s loc
    let (s, b, c) := vaRead s inst va n
    (s, if here then b else given.take n, c)

/-- REPLAY_START (R327). The first bytes of a feed that lies elsewhere are the command's buffer. -/
def execReplayStart (c : Cmd) (s : State) : Host.Outcome State Fault Refusal :=
  perform s (fun s => command 0x62 c s (fun x s =>
    let i := eb x.e 16 1
    let feed := eb x.e 24 8
    let watch := eb x.e 32 8
    let early := firstCode [(!journalSizeOk (eb x.e 17 1), eArg), (feed % 4096 != 0 || watch % 64 != 0, eAlign)]
    if early ≠ 0 then (s, .reject early)
    else
      let (s, c1) := vaCheck s i feed 64 1
      let (s, b, c2) := vaGiven s i (feed + 64) 32 (c.payload)
      let (s, c3) := vaCheck s i watch 8 0
      afterChecks s ([(c1 != 0, c1), (c2 != 0, c2), (c3 != 0, c3), (b.getD 0 0 != 1, eArg)] ++ namedState s i
          ++ [(jnlMode s i != 0, eState),
              (hasDispatch s i || s.fe.sessions.any (fun p => p.2.inst == i && p.2.state == .running), eBusy)])
        (let s := fset s (RF.SES_JNL_STATUS_MODE i) 2
         (modJnl s i (fun _ => { Journal.none with feed := feed, sizeLog2 := eb x.e 17 1, watch := watch, cmd := x.key,
                                                   stopFirst := bitOf (eb x.e 18 1) 0 }), .later))))

/-- A replayed command could begin and has not. -/
def replayReady (s : Dev) (i : Nat) : Bool :=
  s.fe.store.any (fun e => e.inst == i && e.replay && e.phase == 0
    && (let before := s.fe.store.filter (fun d => d.inst == e.inst && d.ring == e.ring && decide (d.pos < e.pos))
        before.all (fun d => d.phase != 0) && (!bitOf (eb e.entry 2 1) 1 || before.isEmpty)))

/-- Replayed work that is not over: commands, dispatches, or completions that wait. -/
def replayBusy (s : Dev) (i : Nat) : Bool :=
  s.fe.store.any (fun e => e.inst == i && e.replay) || hasDispatch s i
    || s.fe.rings.any (fun p => p.1 / 4096 == i && !p.2.dead && !p.2.cplQ.isEmpty) || !(jnlOf s i).digests.isEmpty

/-- The frame at a position of an instance's owned frames, in physical order (R324). -/
def frameAt (s : Dev) (i n : Nat) : Option Nat := ((s.ins.owner.filter (fun p => p.2 == i)).map (·.1))[n]?

/-- A DISPATCH record (R328): exactly the recorded sessions in the recorded slots, or a divergence. DEDUCED: log entry 61. -/
def replayDispatch (s : Dev) (i seq : Nat) (p : List Byte) (n : Nat) : Dev :=
  let b := ofLe (p.take 2)
  let l := (List.range n).map (fun k => ofLe ((p.drop (8 + 4 * k)).take 4))
  let fits := fun (bd : Binding) => bd.inst == i && !l.isEmpty && noRepeats l && l.all (fun x =>
    ownsSession s i x && (sesAt s x).state == .ready && decide ((sesAt s x).pending ≥ 1) && (sesAt s x).binding == b)
  match bindAt s b with
  | some bd =>
    if fits bd then
      let s' := cutBatch s b bd (ofLe ((p.drop 2).take 1)) l
      if s'.fe.order = s.fe.order then diverge s i seq (l.headD 0xFFFFFFFF) else modJnl s' i (fun j => { j with lastSeq := seq })
    else diverge s i seq ((l.find? (fun x => (sesAt s x).state != .ready || (sesAt s x).pending == 0)).getD (l.headD 0xFFFFFFFF))
  | none => diverge s i seq (l.headD 0xFFFFFFFF)

/-- An INPUT record (R328): the frame is written, and an input entry accepted. A SESSION_STEP's own command accepts its frame. DEDUCED: log entry 61. -/
def replayInput (s : Dev) (i flags ring : Nat) (p : List Byte) : Dev :=
  let n := ofLe (p.take 4)
  let f := ofLe ((p.drop 8).take 8)
  let x := sesAt s n
  match bindAt s x.binding with
  | some b =>
    if !ownsSession s i n then s
    else
      let (s, _) := vaWrite s i (inFrame x b f) ((p.drop 32).take b.inBytes)
      if bitOf flags 0 || frameCode s i n f != 0 then s else acceptFrame s n f ring none
  | none => s

/-- What a record of the feed does; none while it must wait. DEDUCED: log entry 61. -/
def replayRecord (s : Dev) (i : Nat) (h p : List Byte) : Option Dev :=
  let f := fun (o n : Nat) => ofLe ((h.drop o).take n)
  let seq := f 8 8
  match f 0 1 with
  | 2 =>
    let e : Entry512 := BitVec.ofNat 512 (ofLe (p.take 64))
    let s := if entryOp e = 1 then modJnl s i (fun j => { j with lastSeq := seq }) else s
    some (takeEntry s i (f 2 2) (f 28 4) e 0 true)
  | 4 => some (replayInput s i (f 1 1) (f 2 2) p)
  | 5 => some (replayDispatch s i seq p (f 28 4))
  | 6 =>
    if (jnlOf s i).seq < seq then none
    else match frameAt s i (ofLe (p.take 8) / 2 ^ 21) with
      | some fr => some (devWrite s (fr * 2 ^ 21 + ofLe (p.take 8) % 2 ^ 21) ((p.drop 32).take (f 28 4))).1
      | none => some s
  | 7 => some (compareOne s i ⟨7, f 2 2, f 24 4, f 16 8, seq, p.take 32⟩ true)
  | 8 => some (compareOne s i ⟨8, f 2 2, f 24 4, f 16 8, seq, p.take 32⟩ true)
  | 10 => some (endReplay s i 1)
  | 11 => if replayBusy s i then none else some (endReplay s i 0)
  | _ => some s

/-- Consume one record of the feed. -/
def feedStep (s : Dev) (i produced : Nat) (given : List Byte) : Dev :=
  let j := jnlOf s i
  let (s, w, c) := vaGiven s i j.watch 8 (leBytes 8 produced)
  if c ≠ 0 ∨ ofLe w ≤ j.consumed ∨ replayReady s i then s
  else
    let pos := j.feed + 64 + j.consumed % 2 ^ j.sizeLog2
    let (s, h, c) := vaGiven s i pos 32 given
    let len := ofLe ((h.drop 4).take 4)
    let (s, p, c') := vaGiven s i (pos + 32) len (given.drop 32)
    if c ≠ 0 ∨ c' ≠ 0 then s
    else match replayRecord s i h p with
      | none => s
      | some s =>
        let s := bump s (Reg.SES_JNL_CNT_RECORDS i)
        let s := modJnl s i (fun j => { j with consumed := j.consumed + 32 + len })
        (vaWrite s i (j.feed + 8) (leBytes 8 (j.consumed + 32 + len))).1

/-- REPLAY_FEED_RECORD (R328). `produced` and `record` are what lies in the memory of a host or of another device. -/
def execReplayFeedRecord (inst produced : Nat) (record : List Byte) (s : State) : Host.Outcome State Fault Refusal :=
  perform s (fun s => whole s (fun s => if jnlMode s inst = 2 ∧ serving s then feedStep s inst produced record else s))

end Sys2Proof.Machine
end

