-- ==== Sys2Proof/Machine/Reclaim.lean ====
section
/-!
DEFINITION. What happens when another device or a host departs (R206, R228, R229, R231, R355), and admission of requests by exports (R349).
-/
namespace Sys2Proof.Machine

/-! ### Exports (R349, R350) -/

/-- An export names a source (R350). -/
def exportNames (s : Dev) (x : Export) (src : Nat) : Bool :=
  match x.src with
  | 0 => x.device == src
  | 1 => (memberOf s src).isSome
  | _ => true

/-- An export covers a frame for a source with a right: 0 R, 1 W, 2 A. -/
def exportCovers (s : Dev) (fr src right : Nat) : Bool :=
  s.ins.exports.any (fun p => let x := p.2
    !x.closing && decide (x.first ≤ fr) && decide (fr < x.first + x.frames) && exportNames s x src && rightOk right x.r x.w x.a)

/-- Code of an incoming request to a frame (R239, R252, R328, R349, R410), and whether an export refused it. -/
def admitFrame (s : Dev) (src fr right : Nat) : Nat × Bool :=
  let i := ownerOf s fr
  if reservedFrame s fr then (eRights, true)
  else if i ≤ 32 ∧ jnlMode s i = 2 then (ePeerGone, false)
  else if i ≤ 32 ∧ (insState s i = 2 ∨ insState s i = 3) then (eRights, true)
  else if i ≤ 32 ∧ (migFrames s i).2.contains fr then (eRights, true)
  else if exportCovers s fr src right then (0, false) else (eRights, true)

/-- Admission of n bytes at an offset: the first code, counted where an export refuses. -/
def admitRange (s : Dev) (src off n right : Nat) : Dev × Nat :=
  let l := (List.range ((off + max n 1 - 1) / 2 ^ 21 - off / 2 ^ 21 + 1)).map (fun k => admitFrame s src (off / 2 ^ 21 + k) right)
  match l.find? (fun p => p.1 != 0) with
  | some (c, denied) => (if denied then bump s Reg.FAB_CNT_EXPORT_DENIED else s, c)
  | none => (s, 0)

/-! ### Reclaim (R228) -/

/-- What an entry becomes when an agent has departed. DEDUCED: log entry 51. -/
def reclaimEntry (e : DirEntry) (a : Nat) : Option DirEntry :=
  if !(agentsOf e).contains a then some e
  else match e.state with
    | .shared =>
      let e := removeAgent e a
      if (agentsOf e).isEmpty then none else some e
    | .forwarder =>
      let h := holderOf e
      let e := removeAgent e a
      if (agentsOf e).isEmpty then none else some (if h = a then { e with state := .shared } else e)
    | _ => if holderOf e = a then none else some (removeAgent e a)

/-- A line that a departed agent held dirty is poisoned, at its slice and in memory. DEDUCED: log entry 51. -/
def poisonLost (s : Dev) (k : Nat) : Dev :=
  let s := match lineAt s k with
    | some l => putLine s k { l with poison := 3, uncorr := 0 }
    | none => s
  bump (queueWrite s ⟨k, 0, 0, 0, 3, none⟩) Reg.SHC_CNT_LOST_DIRTY

/-- Reclaim one line: its entry, the transaction on it, and what the agent had queued. DEDUCED: log entry 51. -/
def reclaimLine (s : Dev) (a k : Nat) : Dev × Bool :=
  let lost := match dirAt s k with
    | some e => e.state == .dirty && holderOf e == a
    | none => false
  let s := if lost then poisonLost s k else s
  let q := (tgetD s.shore.queue k []).filter (fun r => r.agent != a)
  let s := { s with shore := { s.shore with queue := if q.isEmpty then tdel s.shore.queue k else tset s.shore.queue k q } }
  match tget s.shore.txn k with
  | none =>
    (match dirAt s k with
     | some e =>
       if (agentsOf e).contains a then
         (let s := setEntry s k (reclaimEntry e a)
          (if (dirAt s k).isNone then afterFree (serveQueue s k) k else s, lost))
       else (s, lost)
     | none => (s, lost))
  | some t =>
    let mine := match t.req with
      | some r => r.agent == a
      | none => false
    let t' := { t with req := if mine then none else t.req, next := t.next.bind (fun e => reclaimEntry e a) }
    let s := { s with shore := { s.shore with txn := tset s.shore.txn k t' } }
    (answerTxn s k a none false, lost)

/-- Reclaim every line that names an agent: the number lost dirty, and the first of them. -/
def reclaimAgent (s : Dev) (a : Nat) : Dev × Nat × Nat :=
  let keys := ((tkeys s.shore.dir) ++ (tkeys s.shore.txn) ++ (tkeys s.shore.queue)).foldl (fun l k => insertNat k l) []
  let r := keys.foldl (fun (p : Dev × List Nat) k =>
    let (s, lost) := reclaimLine p.1 a k
    (s, if lost then p.2 ++ [k] else p.2)) (s, [])
  (bump r.1 Reg.SHC_CNT_RECLAIMS, r.2.length, r.2.headD 0)

/-! ### Accesses that await what has departed (R206) -/

/-- A location lies at a device, at a member's or not. -/
def atDevice (d loc : Nat) : Bool := decide (globalBase ≤ loc) && (loc - globalBase) / 2 ^ 42 == d

/-- A location is one that the coherent host serves. -/
def atHost (s : Dev) (loc : Nat) : Bool := inHost loc && placeOf s (loc / 64) == .host

/-- Groups whose release waits only for a write that is held pending take the fault of R206. -/
def failReleases (s : Dev) : Dev :=
  { s with cores := tmap s.cores (fun _ c => { c with groups := tmap c.groups (fun _ g =>
      if g.stall = .release ∧ c.wb.all (fun w => decide (w.seq > g.relSeq)) then { g with dead := some ePeerGone } else g) }) }

/-- Every access of this device that awaits a target ends with E_PEER_GONE: requests, writes on their way, writes held pending. `hit` tells a
location of the target. -/
def endAccesses (s : Dev) (hit : Nat → Bool) : Dev :=
  let s := (s.net.filter (fun p => hit (32 * p.2.sec))).foldl (fun s p => failReq s p.1 p.2 ePeerGone) s
  let s := (tkeys s.cores).foldl (fun s c =>
    modCore s c (fun x => (x.wb.filter (fun w => hit (32 * w.sec))).foldl (fun x w => loseWrite { x with wb := x.wb.erase w } w ePeerGone) x)) s
  let held := s.shore.lines.filter (fun p => hit (64 * p.1) && p.2.hold == .pending)
  let s := held.foldl (fun s p => dropLine s p.1) s
  let gone := fun (k : Nat) => hit (64 * k)
  let s := { s with shore := { s.shore with wants := tfilter s.shore.wants (fun k _ => !gone k), queue := tfilter s.shore.queue (fun k _ => !gone k),
                                            heldFwd := s.shore.heldFwd.filter (fun f => !gone f.line) } }
  if held.isEmpty then s else failReleases s

/-- Drop this device's lines of a member without writing them back (R231). -/
def dropPeerLines (s : Dev) (d : Nat) : Dev :=
  { s with shore := { s.shore with lines := tfilter s.shore.lines (fun k _ => !atDevice d (64 * k)) } }

/-- Give back this device's lines of a member in order (R355): dirty ones are written back. -/
def returnPeerLines (s : Dev) (d : Nat) : Dev :=
  (s.shore.lines.filter (fun p => atDevice d (64 * p.1))).foldl (fun s p => evictLine s p.1 p.2) s

end Sys2Proof.Machine
end

