-- ==== Sys2Proof/Machine/Collectives.lean ====
section
/-!
DEFINITION. Communicators and collectives (R360 to R366).
-/
namespace Sys2Proof.Machine

/-! ### The tree (R361) -/

/-- Children of a rank. DEDUCED: log entry 67. -/
def childRanks (size r : Nat) : List Nat := (List.range 8).filterMap (fun i => if 8 * r + 1 + i < size then some (8 * r + 1 + i) else none)

/-- Parent of a rank above 0. DEDUCED: log entry 67. -/
def parentRank (r : Nat) : Nat := (r - 1) / 8

/-- Ranks of the subtree of a rank, in tree order, to a depth that covers 32,768 ranks. -/
def subtree (size r : Nat) : Nat → List Nat
  | 0 => [r]
  | n + 1 => r :: (childRanks size r).foldl (fun l c => l ++ subtree size c n) []

/-! ### Elements (R362) -/

/-- Bytes of an element in memory. -/
def elemBytes (dtype : Nat) : Nat := match dtype with
  | 1 => 8
  | 2 => 2
  | _ => 4

/-- Bytes of an element of a partial: BF16 travels as FP32. -/
def partialBytes (dtype : Nat) : Nat := if dtype = 1 then 8 else 4

/-- A member's own elements as a partial. -/
def toPartial (dtype : Nat) (b : List Byte) : Nat → List Byte
  | 0 => []
  | n + 1 =>
    let e := elemBytes dtype
    (if dtype = 2 then [0, 0] ++ b.take 2 else b.take e) ++ toPartial dtype (b.drop e) n

/-- Combine one element: the encoding and the flags raised. -/
def combineElem (dtype op a b : Nat) : Nat × Flags :=
  if dtype ≤ 2 then
    let f := if dtype = 1 then fmtF64 else fmtF32
    if op = 0 then addFV f .rne (decodeF f a) (decodeF f b)
    else (minmaxF f (op == 2) (decodeF f a) (decodeF f b) a b, 0)
  else
    let less := if dtype = 3 then decide (signedOf a 32 < signedOf b 32) else decide (a < b)
    (match op with
     | 0 => (a + b) % 2 ^ 32
     | 1 => if less then a else b
     | _ => if less then b else a, 0)

/-- Combine two partials element by element. DEDUCED: log entry 67. -/
def combinePartial (dtype op : Nat) : List Byte → List Byte → Nat → List Byte × Flags
  | _, _, 0 => ([], 0)
  | x, y, n + 1 =>
    let w := partialBytes dtype
    let (v, f) := combineElem dtype op (ofLe (x.take w)) (ofLe (y.take w))
    let (r, g) := combinePartial dtype op (x.drop w) (y.drop w) n
    (leBytes w v ++ r, f ||| g)

/-- The result in memory: BF16 is converted by RNE at the root. -/
def fromPartial (dtype : Nat) : List Byte → Nat → List Byte × Flags
  | _, 0 => ([], 0)
  | b, n + 1 =>
    let w := partialBytes dtype
    let (v, f) := if dtype = 2 then floatToF fmtBF16 .rne false (decodeF fmtF32 (ofLe (b.take 4))) else (ofLe (b.take w), 0)
    let (r, g) := fromPartial dtype (b.drop w) n
    (leBytes (elemBytes dtype) v ++ r, f ||| g)

/-! ### State of a communicator -/

/-- A communicator. -/
def commAt (s : Dev) (h : Nat) : Option Comm := tget s.fab.comms h

/-- Change a communicator. -/
def modComm (s : Dev) (h : Nat) (f : Comm → Comm) : Dev := { s with fab := { s.fab with comms := tmod s.fab.comms h f } }

/-- Send a collective message to a rank. -/
def sendRank (s : Dev) (c : Comm) (r : Nat) (b : FabBody) : Dev := sendFab s (c.ranks.getD r 0) 0 0 false b

/-- Pacing of an instance's islands ends (R366). -/
def endPacing (s : Dev) (inst : Nat) : Dev :=
  let s := (heldIslands s inst).foldl (fun s i => endReason s 6 i) s
  fset s RF.FAB_STATUS_PACING (b2n (reasonOn s 6))

/-- The first collective of a communicator is over. -/
def endColl (s : Dev) (h status : Nat) (flags : Nat) : Dev :=
  match commAt s h with
  | none => s
  | some c =>
    match c.colls with
    | [] => s
    | x :: rest =>
      let s := modComm s h (fun c => { c with colls := rest, early := c.early.filter (fun m => match m.body with
        | .collective g _ _ => g.seq != x.head.seq
        | .signal g _ _ _ => g.seq != x.head.seq
        | _ => true) })
      let s := if x.pacing ∧ !s.fab.comms.any (fun p => p.2.inst == c.inst && p.2.colls.any (·.pacing)) then endPacing s c.inst else s
      completeKey s x.cmd { Ret.ok with status := status, flags := flags }

/-- The first collective of a communicator ends with a code, which is signalled up and down the tree (R361, R363). -/
def failColl (s : Dev) (h code : Nat) : Dev :=
  match commAt s h with
  | none => s
  | some c =>
    match c.colls with
    | [] => s
    | x :: _ =>
      let word := regRead s Reg.FAB_PROGRESS
      let s := (childRanks c.ranks.length c.rank).foldl (fun s r => sendRank s c r (.signal x.head true code word)) s
      let s := if c.rank = 0 then s else sendRank s c (parentRank c.rank) (.signal x.head false code word)
      endColl s h code 0

/-- Release or result goes down to the children. -/
def sendDown (s : Dev) (c : Comm) (x : Coll) (blocks : List (Nat × List Byte)) : Dev :=
  (childRanks c.ranks.length c.rank).foldl (fun s r =>
    sendRank s c r (if x.head.kind = 0 then .signal x.head true 0 (regRead s Reg.FAB_PROGRESS) else .collective x.head true blocks)) s

/-- Write a result; a code ends the collective with it. -/
def writeResult (s : Dev) (h : Nat) (c : Comm) (x : Coll) (b : List Byte) (k : Dev → Dev) : Dev :=
  match vaWrite s c.inst x.dst b with
  | (s, 0) => k s
  | (s, code) => failColl s h code

/-- Every child has sent its part. -/
def allIn (c : Comm) (x : Coll) : Bool := (childRanks c.ranks.length c.rank).all (fun r => x.got.any (fun g => g.1 == r))

/-- The array of ALLGATHER, in rank order. DEDUCED: log entry 67. -/
def gathered (l : List (Nat × List Byte)) (n : Nat) : List Byte :=
  (List.range n).foldl (fun b r => b ++ ((l.find? (fun p => p.1 == r)).map (·.2)).getD []) []

/-- The first collective goes on where it can (R361, R362). DEDUCED: log entry 67. -/
def collStep (s : Dev) (h : Nat) : Dev :=
  match commAt s h with
  | none => s
  | some c =>
    match c.colls with
    | [] => s
    | x :: rest =>
      let n := x.head.count
      let kids := childRanks c.ranks.length c.rank
      let up := fun (s : Dev) (b : FabBody) (fl : Nat) =>
        let s := sendRank s c (parentRank c.rank) b
        if x.head.kind = 2 then endColl s h 0 fl
        else modComm s h (fun c => { c with colls := { x with sentUp := true, flags := fl } :: rest })
      let own := fun (s : Dev) => vaRead s c.inst x.src (n * elemBytes x.head.dtype)
      if x.sentUp then s
      else match x.head.kind with
        | 0 =>
          if !allIn c x then s
          else if c.rank = 0 then endColl (sendDown s c x []) h 0 0
          else up s (.signal x.head false 0 (regRead s Reg.FAB_PROGRESS)) 0
        | 1 =>
          if c.rank ≠ 0 then s
          else match own s with
            | (s, b, 0) => endColl (sendDown s c x [(0, b)]) h 0 0
            | (s, _, code) => failColl s h code
        | 4 =>
          if !allIn c x then s
          else (match own s with
            | (s, b, 0) =>
              let blocks := (c.rank, b) :: x.got.foldl (fun l g => l ++ g.2) []
              if c.rank = 0 then
                writeResult s h c x (gathered blocks c.ranks.length) (fun s => endColl (sendDown s c x blocks) h 0 0)
              else up s (.collective x.head false blocks) 0
            | (s, _, code) => failColl s h code)
        | _ =>
          if !allIn c x then s
          else (match own s with
            | (s, b, 0) =>
              let mine := toPartial x.head.dtype b n
              let part := fun (r : Nat) => ((x.got.find? (fun g => g.1 == r)).bind (fun g => g.2.head?.map (·.2))).getD []
              let (sum, fl) := kids.foldl (fun (a : List Byte × Flags) r =>
                let (v, f) := combinePartial x.head.dtype x.head.op a.1 (part r) n
                (v, a.2 ||| f)) (mine, 0)
              if c.rank = 0 then
                let (out, f) := fromPartial x.head.dtype sum n
                writeResult s h c x out (fun s =>
                  endColl (if x.head.kind = 3 then sendDown s c x [(0, out)] else s) h 0 (fl ||| f).toNat)
              else up s (.collective x.head false [(c.rank, sum)]) fl.toNat
            | (s, _, code) => failColl s h code)

/-! ### Messages (R361, R365) -/

/-- Rank of a device in a communicator. -/
def rankOf (c : Comm) (d : Nat) : Option Nat := lowest c.ranks.length (fun r => c.ranks.getD r 0x8000 == d)

/-- Local frames of a buffer of an instance that are covered by an export for a source (R360). -/
def bufferExported (s : Dev) (inst va n src right : Nat) : Bool :=
  match vaPages s inst va n right with
  | (s, .inr l) => l.all (fun loc => !decide (loc < 2 ^ 42) || exportCovers s (loc / 2 ^ 21) src right)
  | (_, .inl _) => false

/-- A message about the collective that is first: parts from children are kept, results from the parent written and passed on. -/
def collMessage (s : Dev) (h : Nat) (c : Comm) (x : Coll) (m : FabMsg) : Dev :=
  let keep := fun (g : Nat × List (Nat × List Byte)) => modComm s h (fun c => { c with colls := match c.colls with
    | y :: t => { y with got := y.got ++ [g] } :: t
    | [] => [] })
  match m.body, rankOf c m.src with
  | .signal g down code _, some r =>
    if g ≠ x.head then failColl s h eArg
    else if code ≠ 0 then failColl s h code
    else if down then endColl (sendDown s c x []) h 0 0
    else if (childRanks c.ranks.length c.rank).contains r then collStep (keep (r, [])) h
    else s
  | .collective g down blocks, some r =>
    if g ≠ x.head then failColl s h eArg
    else if !bufferExported s c.inst (if down then x.dst else x.src)
        ((if down && g.kind == 4 then c.ranks.length else 1) * g.count * elemBytes g.dtype) m.src (if down then 1 else 0) then
      failColl (bump s Reg.FAB_CNT_EXPORT_DENIED) h eRights
    else if down then
      writeResult s h c x (if g.kind = 4 then gathered blocks c.ranks.length else (blocks.headD (0, [])).2) (fun s =>
        endColl (sendDown s c x blocks) h 0 x.flags)
    else if (childRanks c.ranks.length c.rank).contains r then collStep (keep (r, blocks)) h
    else s
  | _, _ => s

/-- The header of a collective message. -/
def headOf (m : FabMsg) : Option CollHead :=
  match m.body with
  | .collective h _ _ => some h
  | .signal h _ _ _ => some h
  | _ => none

/-- The first collective takes the messages that came before it was first. -/
def replayEarly (s : Dev) (h : Nat) : Nat → Dev
  | 0 => s
  | n + 1 =>
    match commAt s h with
    | none => s
    | some c =>
      match c.colls with
      | [] => s
      | x :: _ =>
        (match c.early.find? (fun m => (headOf m).map (·.seq) == some x.head.seq) with
         | none => s
         | some m => replayEarly (collMessage (modComm s h (fun c => { c with early := c.early.erase m })) h c x m) h n)

/-- Start what is first and feed it what has come for it. -/
def collAdvance (s : Dev) (h : Nat) : Nat → Dev
  | 0 => s
  | n + 1 =>
    match commAt s h with
    | none => s
    | some c =>
      let s' := replayEarly (collStep s h) h (c.early.length + 1)
      (match commAt s' h with
       | some c' => if c'.colls.length < c.colls.length ∧ !c'.colls.isEmpty then collAdvance s' h n else s'
       | none => s')

/-- A collective message that may be acted on arrives: for the collective that is first, or to be kept. -/
def takeColl (s : Dev) (m : FabMsg) : Dev :=
  match headOf m with
  | none => s
  | some g =>
    let s := match m.body with
      | .signal _ _ _ word => { s with fab := { s.fab with words := tset s.fab.words m.src word } }
      | _ => s
    match s.fab.comms.find? (fun p => p.2.key == g.key && (rankOf p.2 m.src).isSome) with
    | none => s
    | some (h, c) =>
      (match c.colls with
       | x :: _ =>
         if g.seq = x.head.seq then collAdvance (collMessage s h c x m) h 4096
         else if g.seq > x.head.seq then modComm s h (fun c => { c with early := c.early ++ [m] })
         else s
       | [] => if g.seq ≥ c.issued then modComm s h (fun c => { c with early := c.early ++ [m] }) else s)

/-- A device departs: every collective of a communicator that names it ends (R363). -/
def departColls (s : Dev) (d : Nat) : Dev :=
  (s.fab.comms.filter (fun p => p.2.ranks.contains d)).foldl (fun s p =>
    (List.range p.2.colls.length).foldl (fun s _ => failColl s p.1 ePeerGone) s) s

/-! ### Commands (R360, R361, R368) -/

/-- COMM_CREATE (R360). -/
def execCommCreate (c : Cmd) (s : State) : Host.Outcome State Fault Refusal :=
  perform s (fun s => command 0x77 c s (fun x s =>
    let n := eb x.e 16 4
    let va := eb x.e 24 8
    if n < 2 ∨ n > 32768 then (s, .reject eArg)
    else if va % 2 ≠ 0 then (s, .reject eAlign)
    else match vaGiven s x.inst va (2 * n) x.payload with
      | (s, b, 0) =>
        let ranks := (List.range n).map (fun i => ofLe ((b.drop (2 * i)).take 2))
        let me := rankOf { inst := 0, key := 0, ranks := ranks, rank := 0, issued := 0, colls := [], early := [] } (fget s RF.FAB_STATUS_DEVICE)
        let mine := (s.fab.comms.filter (fun p => p.2.inst == x.inst)).length
        let free := lowest 65536 (fun h => !thas s.fab.comms h)
        afterChecks s [(fget s RF.FAB_STATUS_DEVICE_VALID == 0 || me.isNone || !noRepeats ranks || ranks.any (fun r => decide (r > 32767)), eArg),
            (decide (mine ≥ 256) || free.isNone, eQuota)]
          (let h := free.getD 0
           let cm : Comm := { inst := x.inst, key := eb x.e 32 8, ranks := ranks, rank := me.getD 0, issued := 0, colls := [], early := [] }
           ({ s with fab := { s.fab with comms := tset s.fab.comms h cm } }, .done { Ret.ok with r0 := h, r1 := me.getD 0 }))
      | (s, _, code) => (s, .reject code)))

/-- COMM_DESTROY (R368). -/
def execCommDestroy (c : Cmd) (s : State) : Host.Outcome State Fault Refusal :=
  perform s (fun s => command 0x79 c s (fun x s =>
    let h := eb x.e 16 2
    match commAt s h with
    | some cm =>
      if cm.inst ≠ x.inst then (s, .reject eArg)
      else if !cm.colls.isEmpty then (s, .reject eBusy)
      else ({ s with fab := { s.fab with comms := tdel s.fab.comms h } }, .done Ret.ok)
    | none => (s, .reject eArg)))

/-- Every communicator goes on where it can. -/
def collTurns (s : Dev) : Dev := (tkeys s.fab.comms).foldl (fun s h => whole s (fun s => collAdvance s h 4096)) s

/-- COLL_RUN (R361). -/
def execCollRun (c : Cmd) (s : State) : Host.Outcome State Fault Refusal :=
  perform s (fun s => collTurns (command 0x78 c s (fun x s => fromRecord s x (
    let h := eb x.e 16 2
    let kind := eb x.e 18 1
    let dtype := eb x.e 19 1
    let op := eb x.e 20 1
    let src := eb x.e 24 8
    let dst := eb x.e 32 8
    let n := eb x.e 40 8
    match commAt s h with
    | none => (s, .reject eArg)
    | some cm =>
      let early := firstCode [(cm.inst != x.inst || decide (kind > 4) || decide (dtype > 4) || decide (op > 2)
            || (kind == 0 && (n != 0 || src != 0 || dst != 0)), eArg),
          (kind != 0 && (src % 4 != 0 || dst % 4 != 0), eAlign)]
      if early ≠ 0 then (s, .reject early)
      else
        let b := n * elemBytes dtype
        let reads := kind != 0 && !(kind == 1 && cm.rank != 0)
        let writes := (kind == 1 && cm.rank != 0) || (kind == 2 && cm.rank == 0) || decide (kind ≥ 3)
        let (s, c1) := if reads then vaCheck s x.inst src b 0 else (s, 0)
        let (s, c2) := if writes then vaCheck s x.inst dst (if kind = 4 then b * cm.ranks.length else b) 1 else (s, 0)
        afterChecks s [(c1 != 0, c1), (c2 != 0, c2)]
          (let g : CollHead := ⟨cm.key, cm.issued, kind, dtype, op, n⟩
           let y : Coll := { cmd := x.key, head := g, src := src, dst := dst, got := [], sentUp := false, flags := 0, since := s.time.hw, pacing := false }
           (modComm s h (fun c => { c with issued := c.issued + 1, colls := c.colls ++ [y] }), .later))))))

end Sys2Proof.Machine
end

