-- ==== Sys2Proof/Machine/Departures.lean ====
section
/-!
DEFINITION. Multicast at its sender (R357 to R359), departure of members (R355), and the arrival of fabric messages (R231, R336, R354, R356).
-/
namespace Sys2Proof.Machine

/-! ### Multicast (R357 to R359) -/

/-- Bytes of a segment. -/
def segBytes (o : McastOp) (k : Nat) : List Byte := (o.data.drop (4096 * k)).take 4096

/-- Segments of a multicast. -/
def segCount (o : McastOp) : Nat := ceilDiv o.data.length 4096

/-- Tag of a segment: multicast, target and segment. -/
def segTag (n t k : Nat) : Nat := 4 * (n * 2 ^ 20 + t * 2 ^ 13 + k) + 2

/-- Change a target of a multicast. -/
def modTarget (s : Dev) (n t : Nat) (f : McastTarget → McastTarget) : Dev :=
  { s with fab := { s.fab with sends := tmod s.fab.sends n (fun o =>
      { o with targets := (List.range o.targets.length).zip o.targets |>.map (fun p => if p.1 = t then f p.2 else p.2) }) } }

/-- A target is missed (R358). -/
def missTarget (s : Dev) (n t : Nat) : Dev :=
  match (tget s.fab.sends n).bind (fun o => o.targets[t]?) with
  | some g => if g.missed then s else bump (modTarget s n t (fun g => { g with missed := true })) Reg.FAB_CNT_MCAST_MISSED
  | none => s

/-- A target has acknowledged every segment. -/
def delivered (o : McastOp) (g : McastTarget) : Bool := !g.missed && decide (g.acked.length ≥ segCount o)

/-- A multicast ends when every target is delivered or missed (R359). -/
def finishMcast (s : Dev) (n : Nat) : Dev :=
  match tget s.fab.sends n with
  | none => s
  | some o =>
    if !o.targets.all (fun g => g.missed || delivered o g) then s
    else
      let missed := (o.targets.filter (·.missed)).length
      let mask := ((List.range o.targets.length).zip o.targets).foldl (fun m p => if delivered o p.2 then m + 2 ^ p.1 else m) 0
      let retries := o.targets.foldl (fun m g => m + g.refusals) 0
      let s := { s with fab := { s.fab with sends := tdel s.fab.sends n } }
      completeKey s o.cmd { Ret.ok with status := if missed = 0 then 0 else eMcastPartial, r0 := missed, r1 := mask,
                                        r2 := min retries (2 ^ 32 - 1) }

/-- Send one segment to one target; this device's own number is delivered at once (R357). -/
def sendSegment (s : Dev) (n t k : Nat) : Dev :=
  match tget s.fab.sends n with
  | none => s
  | some o =>
    match o.targets[t]? with
    | none => s
    | some g =>
      if g.missed then s
      else
        let d := g.base / 2 ^ 42
        let off := (g.base + o.off) % 2 ^ 42 + 4096 * k
        if ownDevice s d then
          (if ownsRange s o.inst off (segBytes o k).length then
             modTarget (devWrite s off (segBytes o k)).1 n t (fun g => { g with acked := insertNat k g.acked })
           else missTarget s n t)
        else if fabReach s d then sendFab s d (segTag n t k) off o.poison (.segment (segBytes o k))
        else missTarget s n t

/-- An answer to a segment (R358): accepted, busy, or refused. A target that is busy after 64 retries is missed. -/
def segmentAnswer (s : Dev) (tag code : Nat) : Dev :=
  let n := tag / 2 ^ 22
  let t := tag / 2 ^ 15 % 128
  let k := tag / 4 % 2 ^ 13
  if code = 0 then finishMcast (modTarget s n t (fun g => { g with acked := insertNat k g.acked })) n
  else if code = eBusy ∧ ((tget s.fab.sends n).bind (fun o => o.targets[t]?)).any (fun g => decide (g.refusals < 64)) then
    modTarget s n t (fun g => { g with refused := insertNat k g.refused, firstBusy := some (g.firstBusy.getD s.time.hw) })
  else finishMcast (missTarget s n t) n

/-- Targets at a device that departs are missed. -/
def departMcast (s : Dev) (d : Nat) : Dev :=
  (tkeys s.fab.sends).foldl (fun s n => match tget s.fab.sends n with
    | some o => finishMcast (((List.range o.targets.length).zip o.targets).foldl (fun s p =>
        if p.2.base / 2 ^ 42 = d ∧ !delivered o p.2 then missTarget s n p.1 else s) s) n
    | none => s) s

/-! ### Departure (R355) -/

/-- Admitted members, this device included (R369). -/
def showMembers (s : Dev) : Dev :=
  fset s RF.FAB_STATUS_MEMBERS (((List.range 64).filter (fun m => fget s (RF.SHC_EPOCH_VALID m) == 1)).length
    + (if fget s RF.FAB_STATUS_ARCH_VALID = 1 then 1 else 0))

/-- OBJECT of a MEMBER entry (R436). -/
def memberObject (s : Dev) (idx dev : Nat) : Nat := dev + 2 ^ 16 * idx + 2 ^ 32 * fget s RF.FAB_STATUS_ARCH_ID

/-- A member departs (R355, R228): its entry goes invalid, it is told where a route exists, its lines are reclaimed, what awaits it ends. `told` says
that a DEPART is to be sent. DESIGN CHOICE: log entry 4. DEDUCED: log entry 65. -/
def departMember (s : Dev) (idx : Nat) : Dev :=
  if fget s (RF.SHC_EPOCH_VALID idx) = 0 then s
  else
    let old := regRead s (Reg.SHC_EPOCH idx)
    let dev := fget s (RF.SHC_EPOCH_DEVICE idx)
    let farewell := mkMsg s dev 0 0 false .depart
    let s := fset s (RF.SHC_EPOCH_VALID idx) 0
    let s := if fabReach s dev then routeMsg s farewell else s
    let (s, lost, first) := reclaimAgent s idx
    let s := endAccesses s (atDevice dev)
    let s := departMcast (departColls s dev) dev
    let s := { s with fab := { s.fab with members := tdel s.fab.members idx } }
    let s := showMembers (bump s Reg.FAB_CNT_DEPARTS)
    logFw s 6 (memberObject s idx dev) (pack8 [old, 0, 0]) (pack8 [regRead s (Reg.SHC_EPOCH idx), lost, first])

/-- An admission that waits for a device ends with a code (R353, R355). DEDUCED: log entry 65. -/
def endAdmission (s : Dev) (dev code : Nat) : Dev :=
  (s.fab.members.filter (fun p => p.2.device == dev && p.2.cmd.isSome)).foldl (fun s p =>
    let s := { s with fab := { s.fab with members := tdel s.fab.members p.1 } }
    match p.2.cmd with
    | some k => completeKey s k { Ret.ok with status := code }
    | none => s) s

/-- A device departs for the accesses addressed to it, member or not (R355). -/
def departDevice (s : Dev) (dev : Nat) : Dev :=
  let s := endAdmission s dev ePeerGone
  match memberOf s dev with
  | some m => departMember s m
  | none => departMcast (departColls (endAccesses s (atDevice dev)) dev) dev

/-! ### Arrival of a message -/

/-- A bad message is counted, and the first of each second entered in the log (R336). -/
def badMessage (s : Dev) : Dev :=
  if (match s.fab.lastBad with
    | some t => decide (s.time.hw < t + ticksPerSecond)
    | none => false) then bump s Reg.FAB_CNT_BAD_MESSAGES
  else logEvent { s with fab := { s.fab with lastBad := some s.time.hw } } Reg.FAB_CNT_BAD_MESSAGES 0

/-- A message whose DST is this device may be acted on: nothing reserved is set, and its epoch is the one agreed with its sender (R231, R335, R336, R356). A
higher one shows that a member has restarted, and it departs (R355). A sender that is not a member sends 0. -/
def arrive (s : Dev) (m : FabMsg) : Dev × Bool :=
  if !serving s || !ownDevice s m.dst then (s, false)
  else if m.reserved then (badMessage s, false)
  else match memberOf s m.src with
    | none => if m.epoch = 0 then (s, true) else (bump s Reg.SHC_CNT_STALE_EPOCH, false)
    | some i =>
      let e := fget s (RF.SHC_EPOCH_EPOCH i)
      if m.epoch = e then
        ({ s with fab := { s.fab with members := tmod s.fab.members i (fun x => { x with heard := s.time.hw }) } }, true)
      else
        let s := bump s Reg.SHC_CNT_STALE_EPOCH
        (if m.epoch > e then departMember s i else s, false)

end Sys2Proof.Machine
end

