-- ==== Sys2Proof/Machine/Attest.lean ====
section
/-!
DEFINITION. Fabric admission policy and the admission of archipelago members (R346, R353, R429), ports that leave service (R338, R339), and messages
held for a lost port.
-/
namespace Sys2Proof.Machine

/-- What this device reports of itself (R428): image SVN and fused SVN (block 0x42), then measurement block 2. -/
def ownMeasured (s : Dev) : List Byte :=
  leBytes 8 (fget s RF.SEC_STATUS_IMAGE_SVN) ++ leBytes 8 (fget s RF.SEC_STATUS_FUSED_SVN)
    ++ ((List.range 8).map (fun j => leBytes 8 (regRead s (Reg.SEC_MEAS 1 j)))).flatten

/-- A peer passes the measurement check (R427, R429). DESIGN CHOICE: log entry 14. -/
def measuredOk (s : Dev) (b : List Byte) : Bool :=
  Config.verifies 1 b && decide (ofLe (b.take 8) ≥ s.flash.minSvn) && (s.flash.allowed.isEmpty || s.flash.allowed.contains (b.drop 16))

/-- Members that no port reaches any more depart (R355). -/
def departUnreached (s : Dev) : Dev :=
  (List.range 64).foldl (fun s m =>
    if fget s (RF.SHC_EPOCH_VALID m) = 1 ∧ !fabReach s (fget s (RF.SHC_EPOCH_DEVICE m)) then departMember s m else s) s

/-- An attestation fails (R346): counted and entered in the log. DEDUCED: log entry 65. -/
def authFail (s : Dev) : Dev := logEvent s Reg.FAB_CNT_AUTH_FAILS 0

/-- Send this device's side of an admission (R353). -/
def sendAdmit (s : Dev) (idx dev : Nat) : Dev :=
  sendFab s dev 0 0 false (.admission ⟨fget s RF.FAB_STATUS_ARCH_ID, fget s RF.FAB_STATUS_MY_MEMBER, idx, tgetD s.fab.epochs dev 0,
    Config.chain 0, ownMeasured s⟩)

/-- The epoch that two sides agree: one more than the larger of those last held, 0 skipped (R353). -/
def nextEpoch (a b : Nat) : Nat :=
  let e := (max a b + 1) % 2 ^ 16
  if e = 0 then 1 else e

/-- A device is admitted under an index (R353). DEDUCED: log entry 65. -/
def admitMember (s : Dev) (idx dev e : Nat) : Dev :=
  let old := regRead s (Reg.SHC_EPOCH idx)
  let cmd := (tget s.fab.members idx).bind (·.cmd)
  let s := dropPeerLines s dev
  let s := fset (fset (fset s (RF.SHC_EPOCH_EPOCH idx) e) (RF.SHC_EPOCH_DEVICE idx) dev) (RF.SHC_EPOCH_VALID idx) 1
  let s := { s with fab := { s.fab with epochs := tset s.fab.epochs dev e, notes := tdel s.fab.notes dev,
                                        members := tset s.fab.members idx { device := dev, cmd := none, heard := s.time.hw } } }
  let s := showMembers (bump s Reg.FAB_CNT_ADMITS)
  let s := logFw s 6 (memberObject s idx dev) (pack8 [old, 0, 0]) (pack8 [regRead s (Reg.SHC_EPOCH idx), 0, 0])
  match cmd with
  | some k => completeKey s k Ret.ok
  | none => s

/-- Go on with the admission of a device, once both member tables name each other: authentication, agreement of ARCH_ID and indices, and the epoch.
DEDUCED: log entry 65. -/
def tryAdmit (s : Dev) (dev : Nat) : Dev :=
  match s.fab.members.find? (fun p => p.2.device == dev && p.2.cmd.isSome), tget s.fab.notes dev with
  | some (idx, _), some n =>
    let forget := fun (s : Dev) => { s with fab := { s.fab with notes := tdel s.fab.notes dev } }
    if !(Config.verifies 0 n.chain && measuredOk s n.measured) then endAdmission (authFail (forget s)) dev eAuth
    else if n.archId ≠ fget s RF.FAB_STATUS_ARCH_ID ∨ n.index ≠ idx ∨ n.yours ≠ fget s RF.FAB_STATUS_MY_MEMBER then
      endAdmission (forget s) dev eArg
    else admitMember s idx dev (nextEpoch (tgetD s.fab.epochs dev 0) n.lastEpoch)
  | _, _ => s

/-- A device's word on an admission arrives. A word from a device that is still counted as a member is kept until its departure. -/
def takeNote (s : Dev) (m : FabMsg) (n : AdmitNote) : Dev :=
  if !serving s || !ownDevice s m.dst then s
  else if m.reserved then badMessage s
  else tryAdmit { s with fab := { s.fab with notes := tset s.fab.notes m.src n } } m.src

/-! ### Ports that leave service (R338, R339) -/

/-- Bandwidth of a port as trained (R332, R369). -/
def portBw (half : Bool) : Nat := if half then 100 else 200

/-- A port leaves its STATE for another; one that was up leaves the route masks, and its neighbour is asked what it accepted (R339). -/
def portOut (s : Dev) (p state : Nat) : Dev :=
  let was := fget s (RF.FAB_PORT_STATUS_STATE p)
  let s := fset (fset (fset s (RF.FAB_PORT_STATUS_STATE p) state) (RF.FAB_PORT_STATUS_SECURE p) 0) (RF.FAB_PORT_STATUS_BW_GBPS p) 0
  let s := modPort s p (fun q => { q with fails := 0, trained := false, parked := false, passed := if state = 4 then q.passed else 0 })
  if was = 3 then
    let n := fget s (RF.FAB_PORT_STATUS_NEIGHBOUR p)
    let s := fset s RF.FAB_STATUS_PORTS_UP (fget s RF.FAB_STATUS_PORTS_UP &&& (0xFFFF - 2 ^ p))
    let s := bump s Reg.FAB_CNT_REROUTES
    let s := modPort s p (fun q => { q with held := q.held ++ q.replay, replay := [], accepted := (q.rx + 2 ^ 32 - 1) % 2 ^ 32 })
    if (portAt s p).held.isEmpty then s
    else sendFab (modPort s p (fun q => { q with heldFrom := n })) n 0 0 false (.resyncQuery (fget s (RF.FAB_PORT_STATUS_NEIGHBOUR_PORT p)))
  else s

/-- A neighbour asks what was accepted on a port (R339). -/
def answerResync (s : Dev) (m : FabMsg) (p : Nat) : Dev :=
  if !serving s || p > 15 then s
  else sendFab s m.src m.tag 0 false (.resyncReply (fget s (RF.FAB_PORT_STATUS_NEIGHBOUR_PORT p)) 
    (if fget s (RF.FAB_PORT_STATUS_STATE p) = 3 then ((portAt s p).rx + 2 ^ 32 - 1) % 2 ^ 32 else (portAt s p).accepted))

/-- Flits of a list of numbers that lie beyond one accepted last, numbers being modulo 2^32 (R347). -/
def beyond (last : Nat) (l : List FabFlit) : List FabFlit := l.filter (fun f => decide ((f.seq + 2 ^ 32 - last) % 2 ^ 32 < 2 ^ 31) && f.seq != last)

/-- The neighbour says what it accepted: what lies beyond is sent again as new messages on other ports (R339). -/
def takeResync (s : Dev) (m : FabMsg) (p last : Nat) : Dev :=
  if !serving s || p > 15 || (portAt s p).heldFrom != m.src then s
  else
    let l := (beyond last (portAt s p).held).flatMap (·.slots)
    let s := modPort s p (fun q => { q with held := [], heldFrom := 0x8000 })
    l.foldl routeMsg s

/-- The neighbour of a lost port cannot be reached: the messages of other devices are dropped, and those of this one are returned, to end what waits for
them (R339, R355). -/
def dropHeld (s : Dev) (dev : Nat) : Dev × List FabMsg :=
  (List.range 16).foldl (fun (r : Dev × List FabMsg) p =>
    if (portAt r.1 p).heldFrom = dev then
      (modPort r.1 p (fun q => { q with held := [], heldFrom := 0x8000 }),
       r.2 ++ ((portAt r.1 p).held.flatMap (·.slots)).filter (fun m => ownDevice r.1 m.src))
    else r) (s, [])

end Sys2Proof.Machine
end

