-- ==== Sys2Proof/Machine/Coherence.lean ====
section
/-!
DEFINITION. The shore-cache rows (chapter 08): coherence messages of the archipelago, requests at their slices, bypass, and the
directory probe.
-/
namespace Sys2Proof.Machine

/-- A coherence message that its receiver may act on: the sender's member index. -/
def cohFrom (s : Dev) (m : FabMsg) : Dev × Option Nat :=
  match arrive s m with
  | (s, true) => (s, memberOf s m.src)
  | (s, false) => (s, none)

/-- An entry of the directory that reads as uncorrectable is taken as Dirty with every presence bit set (R481): every admitted member and the host are
asked for what they hold, and the line becomes Vacant. -/
def badEntry (s : Dev) (k : Nat) : Dev :=
  if thas s.shore.txn k then s
  else
    let agents := (List.range 64).filter (fun m => fget s (RF.SHC_EPOCH_VALID m) == 1) ++ (if fget s RF.HST_STATUS_HOST_VALID = 1 then [64] else [])
    if agents.isEmpty then setEntry s k none
    else startTxn s k ⟨.free, none, agents, none, false⟩ (fun _ => .recallInv) 0

/-- A request of a member at its home: 0 READ needs R, 1 RX and 2 OWN need W (R349). `dirBad` says that the line's directory entry reads as
uncorrectable (R481). DESIGN CHOICE: log entry 15. -/
def cohRequest (s : Dev) (m : FabMsg) (kind : Nat) (dirBad : Bool) : Dev :=
  match cohFrom s m with
  | (s, none) => s
  | (s, some a) =>
    let k := m.offset / 64
    (match admitRange s m.src m.offset 64 (if kind = 0 then 0 else 1) with
     | (s, 0) => arriveAgent (if dirBad && thas s.shore.dir k then badEntry s k else s) k ⟨a, 0, kind, m.tag⟩
     | (s, c) => sendCoh s a k .refuse c m.tag none)

/-- COH_READ (R223). -/
def cohRead (s : Dev) (m : FabMsg) : Dev := cohRequest s m 0 false
/-- COH_RX (R223). -/
def cohRx (s : Dev) (m : FabMsg) : Dev := cohRequest s m 1 false
/-- COH_OWN (R222, R223). -/
def cohOwn (s : Dev) (m : FabMsg) : Dev := cohRequest s m 2 false

/-- COH_WB (R222, R223, R226): it answers what waits for its sender, or leaves the line Vacant with its data at the home. -/
def cohWb (s : Dev) (m : FabMsg) (data : Option LineData) : Dev :=
  match cohFrom s m with
  | (s, none) => s
  | (s, some a) =>
    let k := m.offset / 64
    (match tget s.shore.txn k with
     | some _ => answerTxn s k a data false
     | none => (match dirAt s k, data with
       | some e, some d =>
         if e.state = .dirty ∧ holderOf e = a then afterFree (serveQueue (setEntry (homeTakes s k d) k none) k) k else s
       | _, _ => s))

/-- COH_DROP_NOTICE (R222, R223). -/
def cohDrop (s : Dev) (m : FabMsg) : Dev :=
  match cohFrom s m with
  | (s, none) => s
  | (s, some a) =>
    let k := m.offset / 64
    (match tget s.shore.txn k, dirAt s k with
     | none, some e =>
       if holderOf e ≠ a then s
       else match e.state with
         | .forwarder =>
           let e' := removeAgent e a
           if (agentsOf e').isEmpty then afterFree (setEntry s k none) k else setEntry s k (some { e' with state := .shared })
         | .sole => afterFree (setEntry s k none) k
         | _ => s
     | _, _ => s)

/-- COH_RESPONSE (R223, R226): an acknowledgement, a recall's reply, or the report that a forward was honoured. -/
def cohResponse (s : Dev) (m : FabMsg) (op : CohOp) (data : Option LineData) : Dev :=
  match cohFrom s m with
  | (s, none) => s
  | (s, some a) => answerTxn s (m.offset / 64) a data (op == .done)

/-- The line of a message as this device, an outside agent of it, numbers it. -/
def peerKey (dev off : Nat) : Nat := (globalBase + dev * 2 ^ 42) / 64 + off / 64

/-- A forward, recall or invalidation reaches this device as an agent (R223, R227): one that follows a grant still on its way is held until the
grant arrives. -/
def cohAsked (s : Dev) (m : FabMsg) (kind third : Nat) : Dev :=
  match cohFrom s m with
  | (s, none) => s
  | (s, some _) =>
    let k := peerKey m.src m.offset
    let f : HeldFwd := ⟨k, third, kind, m.tag⟩
    let early := match tget s.shore.wants k with
      | some w => m.tag != 0 && w / 4 == m.tag
      | none => false
    if early then { s with shore := { s.shore with heldFwd := s.shore.heldFwd ++ [f] } } else honour s f

/-- COH_FORWARD (R223, R227). DESIGN CHOICE: log entry 50. -/
def cohForward (s : Dev) (m : FabMsg) (op : CohOp) (third : Nat) : Dev := cohAsked s m (if op = .forwardRead then 0 else 1) third

/-- COH_RECALL (R223): a recall, a recall with invalidate, or an invalidation. DESIGN CHOICE: log entry 50. -/
def cohRecall (s : Dev) (m : FabMsg) (op : CohOp) : Dev :=
  cohAsked s m (match op with
    | .recallLine => 2
    | .recallInv => 3
    | _ => 4) 0

/-- COH_GRANT (R185, R227): from the home, with `third` saying how the line is held; or with a copy that a third agent supplies, to the new forwarder or
owner (R223), and `third` the home's device number. A refused request ends what
waited for it (R336). DESIGN CHOICE: log entry 50. -/
def cohGrant (s : Dev) (m : FabMsg) (op : CohOp) (third : Nat) (data : Option LineData) : Dev :=
  match cohFrom s m with
  | (s, none) => s
  | (s, some _) =>
    let k := peerKey (if op = .supply then third else m.src) m.offset
    if op = .refuse then
      (let s := (s.net.filter (fun p => p.2.sec / 2 == k)).foldl (fun s p => failReq s p.1 p.2 third) s
       let s := { s with shore := { s.shore with wants := tdel s.shore.wants k, queue := tdel s.shore.queue k } }
       if (lineAt s k).any (fun l => l.hold == .pending) then failReleases (dropLine s k) else s)
    else takeGrant s k (if op = .supply ∨ third = 4 then .f else if third = 3 then .x else .s) .d data

/-- A coherence message by its operation. DESIGN CHOICE: log entry 50. -/
def cohMessage (s : Dev) (m : FabMsg) (op : CohOp) (third : Nat) (data : Option LineData) : Dev :=
  match op with
  | .read => cohRead s m
  | .rx => cohRx s m
  | .own => cohOwn s m
  | .wb => cohWb s m data
  | .drop => cohDrop s m
  | .forwardRead | .forwardRx => cohForward s m op third
  | .recallLine | .recallInv | .inval => cohRecall s m op
  | .grant | .supply | .refuse => cohGrant s m op third data
  | .data | .ack | .noCopy | .done => cohResponse s m op data

/-- A message of one of some operations. -/
def cohOf (s : Dev) (m : FabMsg) (ops : List CohOp) : Dev :=
  match m.body with
  | .coh op third data => if ops.contains op then cohMessage s m op third data else s
  | _ => s

/-- A request message of an operation, with what the read of the directory finds (R481). -/
def cohAsks (s : Dev) (m : FabMsg) (op : CohOp) (kind : Nat) (dirBad : Bool) : Dev :=
  match m.body with
  | .coh o _ _ => if o = op then cohRequest s m kind dirBad else s
  | _ => s

/-- COH_READ. -/
def execCohRead (m : FabMsg) (dirBad : Bool) (s : State) : Host.Outcome State Fault Refusal := perform s (fun s => cohAsks s m .read 0 dirBad)
/-- COH_RX. -/
def execCohRx (m : FabMsg) (dirBad : Bool) (s : State) : Host.Outcome State Fault Refusal := perform s (fun s => cohAsks s m .rx 1 dirBad)
/-- COH_OWN. -/
def execCohOwn (m : FabMsg) (dirBad : Bool) (s : State) : Host.Outcome State Fault Refusal := perform s (fun s => cohAsks s m .own 2 dirBad)
/-- COH_WB. -/
def execCohWb (m : FabMsg) (s : State) : Host.Outcome State Fault Refusal := perform s (fun s => cohOf s m [.wb])
/-- COH_DROP_NOTICE. -/
def execCohDropNotice (m : FabMsg) (s : State) : Host.Outcome State Fault Refusal := perform s (fun s => cohOf s m [.drop])
/-- COH_FORWARD. -/
def execCohForward (m : FabMsg) (s : State) : Host.Outcome State Fault Refusal := perform s (fun s => cohOf s m [.forwardRead, .forwardRx])
/-- COH_RECALL. -/
def execCohRecall (m : FabMsg) (s : State) : Host.Outcome State Fault Refusal :=
  perform s (fun s => cohOf s m [.recallLine, .recallInv, .inval])
/-- COH_GRANT. -/
def execCohGrant (m : FabMsg) (s : State) : Host.Outcome State Fault Refusal := perform s (fun s => cohOf s m [.grant, .supply, .refuse])
/-- COH_RESPONSE. -/
def execCohResponse (m : FabMsg) (s : State) : Host.Outcome State Fault Refusal :=
  perform s (fun s => cohOf s m [.data, .ack, .noCopy, .done])

/-! ### SLICE_ACCESS (R225, R480, R481) -/

/-- A slice's own storage finds an error in a line (R480): corrected, or uncorrectable and then a clean line is fetched again and a sector of a dirty one is
poisoned, its data being left open. DESIGN CHOICE: log entry 7. -/
def sliceError (s : Dev) (sec : Nat) (e : Sram) : Dev :=
  match lineAt s (sec / 2), e with
  | some _, .ok => s
  | some _, .corrected => bump s Reg.BRG_CNT_SRAM_CORRECTED
  | some l, _ =>
    let bit := (1 : BitVec 2) <<< (sec % 2)
    let dirty := l.dirty || l.hold == .d || l.hold == .pending
    let s := bump s (if dirty then Reg.BRG_CNT_SRAM_UNCORR else Reg.BRG_CNT_SRAM_CORRECTED)
    if dirty then
      let (v, s) := takeFree s
      putLine s (sec / 2) { l with data := setHalf l.data (sec % 2) (BitVec.ofNat 256 v), poison := l.poison ||| bit, uncorr := l.uncorr ||| bit }
    else if l.hold == .home && !l.ext then dropLine s (sec / 2)
    else if l.hold == .home then
      (let (s, d, c) := ctlRead (drainWrites s (sec / 2)) sec .clean 0 .clean
       putLine s (sec / 2) { l with data := setHalf l.data (sec % 2) d, poison := if c = 0 then l.poison &&& ~~~bit else l.poison ||| bit })
    else dropLine s (sec / 2)
  | none, _ => s

/-- SLICE_ACCESS (R225): request n of a core reaches the slice of its line. `sram` is what the slice's check finds, `dirBad` that the line's directory
entry reads as uncorrectable. DESIGN CHOICE: log entry 15. -/
def execSliceAccess (n : Nat) (sram : Sram) (dirBad : Bool) (s : State) : Host.Outcome State Fault Refusal :=
  perform s (fun s =>
    match tget s.net n with
    | none => s
    | some r =>
      let k := r.sec / 2
      let s := sliceError s r.sec sram
      serveReq (if dirBad && isLocal k && (thas s.shore.dir k) then badEntry s k else s) n)

/-! ### Bypass (R219, R454) -/

/-- Lines of a slice. -/
def sliceLines (s : Dev) (i : Nat) : List (Nat × Line) := s.shore.lines.filter (fun p => sliceOf s p.1 == i)

/-- Show which slices are active and in bypass (R233, R473). DESIGN CHOICE: log entry 56. -/
def showSlices (s : Dev) : Dev :=
  let n := fget s RF.BRG_PKG_LEVEL_ENABLED_COUNT
  let cnt := fun (v : Nat) => ((List.range n).filter (fun i => fget s (RF.SHC_SLICE_STATUS_STATE i) == v)).length
  let s := (List.range n).foldl (fun s i => fset s (RF.PWR_ISLAND_BYPASS i) (b2n (fget s (RF.SHC_SLICE_STATUS_STATE i) == 2))) s
  fset (fset s RF.SHC_STATUS_SLICES_ACTIVE (cnt 0 + cnt 1)) RF.SHC_STATUS_SLICES_BYPASS (cnt 2)

/-- SLICE_BYPASS_ENTER (R219, R454): the slice of an island that is Off frees its lines with EXT, writes back its dirty ones, and powers its data
arrays down once nothing of a line outside is left in it. -/
def execSliceBypassEnter (island : Nat) (s : State) : Host.Outcome State Fault Refusal :=
  perform s (fun s =>
    if fget s RF.PWR_IDLE_POLICY_SLICE_BYPASS_EN = 0 ∨ fget s (RF.PWR_ISLAND_STATE island) ≠ 2
        ∨ fget s (RF.SHC_SLICE_STATUS_STATE island) > 1 ∨ !serving s then s
    else
      let s := fset s (RF.SHC_SLICE_STATUS_STATE island) 1
      let s := ((sliceLines s island).filter (fun p => p.2.ext)).foldl (fun s p => startFree s p.1) s
      let l := sliceLines s island
      if l.any (fun p => p.2.ext || p.2.hold == .pending || thas s.shore.txn p.1 || thas s.shore.fills p.1) then showSlices s
      else showSlices (fset (l.foldl (fun s p => evictLine s p.1 p.2) s) (RF.SHC_SLICE_STATUS_STATE island) 2))

/-- A slice whose island returns to Run leaves bypass with a new epoch (R219, R231). -/
def leaveBypass (s : Dev) (i : Nat) : Dev :=
  if fget s (RF.SHC_SLICE_STATUS_STATE i) = 1 ∨ fget s (RF.SHC_SLICE_STATUS_STATE i) = 2 then
    let s := if fget s (RF.SHC_SLICE_STATUS_STATE i) = 2 then
        fset s (RF.SHC_SLICE_STATUS_EPOCH i) (fget s (RF.SHC_SLICE_STATUS_EPOCH i) + 1) else s
    showSlices (fset s (RF.SHC_SLICE_STATUS_STATE i) 0)
  else s

/-! ### The probe (R233) -/

/-- The probe of a line's directory entry. -/
def probeLine (s : Dev) (k : Nat) : Dev :=
  let w := match dirAt s k with
    | some e => dirWord k (thas s.shore.txn k) (some e)
    | none => 0
  regWrite (regWrite (regWrite s Reg.SHC_DIR_PROBE_ADDR (k + 2 ^ 63)) Reg.SHC_DIR_PROBE_LO (w % 2 ^ 64)) Reg.SHC_DIR_PROBE_HI (w / 2 ^ 64)

/-- SHC_DIR_PROBE_ADDR (R233): a 64-bit write starts a probe, whose result is there when it ends. -/
def execShcDirProbeAddr (value : Nat) (s : State) : Host.Outcome State Fault Refusal :=
  perform s (fun s => probeLine s (value % 2 ^ 36))

end Sys2Proof.Machine
end

