-- ==== Sys2Proof/Machine/Fabric.lean ====
section
/-!
DEFINITION. Fabric messages as they are performed (R336, R349, R354 to R366), and the fabric commands (R348 to R357, R368).
-/
namespace Sys2Proof.Machine

/-! ### Requests of other devices (R344, R349) -/

/-- The progress-word window (R364). -/
def progressOffset : Nat := 0x28000000000

/-- Answer a message. -/
def answer (s : Dev) (m : FabMsg) (poison : Bool) (b : FabBody) : Dev := sendFab s m.src m.tag m.offset poison b

/-- A read of another device. -/
def fabRead (s : Dev) (m : FabMsg) (len : Nat) : Dev :=
  match arrive s m with
  | (s, false) => s
  | (s, true) =>
    if m.offset = progressOffset then answer s m false (.readResp 0 ((leBytes 8 (regRead s Reg.FAB_PROGRESS)).take len))
    else match admitRange s m.src m.offset len 0 with
      | (s, 0) =>
        let (s, b, c) := devRead s m.offset len
        answer s m (c != 0) (.readResp c b)
      | (s, c) => answer s m false (.readResp c [])

/-- Write bytes at the home, poisoned or not (R212). -/
def putBytes (s : Dev) (loc : Nat) (bytes : List Byte) (poison : Bool) : Nat → Dev
  | 0 => s
  | f + 1 =>
    if bytes.isEmpty then s
    else
      let off := loc % 32
      let n := min bytes.length (32 - off)
      let (s, _) := acceptWrite s (loc / 32) (BitVec.ofNat 32 ((2 ^ n - 1) * 2 ^ off)) (BitVec.ofNat 256 (ofLe (bytes.take n) * 2 ^ (8 * off)))
        poison false true
      putBytes s (loc + n) (bytes.drop n) poison f

/-- What a fabric write or atomic left is recorded in the journal of the instance (R324). -/
def recordRx (s : Dev) (off : Nat) (bytes : List Byte) : Dev :=
  let i := ownerOf s (off / 2 ^ 21)
  if i ≤ 32 then jnlRecord s i 6 0 0xFFFF 0 0xFFFFFFFF bytes.length (leBytes 8 (insOffset s i off) ++ List.replicate 24 0 ++ bytes) else s

/-- Write and record. -/
def rxBytes (s : Dev) (off : Nat) (bytes : List Byte) (poison : Bool) : Dev :=
  recordRx (putBytes s off bytes poison (bytes.length / 32 + 2)) off bytes

/-- A write of another device. -/
def fabWriteIn (s : Dev) (m : FabMsg) (data : List Byte) : Dev :=
  match arrive s m with
  | (s, false) => s
  | (s, true) =>
    match admitRange s m.src m.offset data.length 1 with
    | (s, 0) => answer (rxBytes s m.offset data m.poison) m false (.writeAck 0)
    | (s, c) => answer s m false (.writeAck c)

/-- An atomic of another device at its home slice (R107, R200). -/
def fabAtomicIn (s : Dev) (m : FabMsg) (ops : List LaneAtom) : Dev :=
  match arrive s m with
  | (s, false) => s
  | (s, true) =>
    match admitRange s m.src m.offset 32 2 with
    | (s, 0) =>
      let k := m.offset / 64
      let h := m.offset / 32 % 2
      let (s, ok) := homeAccess s k true
      if !ok then { s with blocked := s.blocked ++ [(k, 1)] }
      else (match lineNow s k with
        | (s, none) => answer s m false (.atomicResp ePoison [])
        | (s, some l) =>
          if halfCode l h ≠ 0 then
            (let (s, _, c) := takeHalf s k l h
             answer s m false (.atomicResp c []))
          else
            let (d, vals) := amoAll (halfOf l.data h) ops
            let s := settleBypass (storeHomeLine s k { l with data := setHalf l.data h d }) k
            let s := ops.foldl (fun s o => recordRx s (m.offset / 32 * 32 + o.off)
              (leBytes (if o.w64 then 8 else 4) (d.toNat / 2 ^ (8 * o.off)))) s
            answer s m false (.atomicResp 0 vals))
    | (s, c) => answer s m false (.atomicResp c [])

/-! ### Answers (R336) -/

/-- A read response: the data of a request, or a progress word that was asked for (R365). -/
def fabReadBack (s : Dev) (m : FabMsg) (code : Nat) (data : List Byte) : Dev :=
  match arrive s m with
  | (s, false) => s
  | (s, true) =>
    if m.tag = 3 then (if code = 0 then { s with fab := { s.fab with words := tset s.fab.words m.src (ofLe data) } } else s)
    else match m.tag % 4, tget s.net (m.tag / 4) with
      | 0, some r =>
        if !r.sent then s
        else if code = 0 ∨ badData code then deliver s (m.tag / 4) r (BitVec.ofNat 256 (ofLe data)) (if code = 0 ∧ m.poison then ePoison else code)
        else failReq s (m.tag / 4) r code
      | _, _ => s

/-- The write of a core that was sent under a tag. -/
def sentWrite (s : Dev) (tag : Nat) : Option (Nat × WbEntry) :=
  (s.cores.map (fun p => (p.1, p.2.wb.find? (fun w => (w.sent.map (·.1)) == some tag)))).findSome? (fun p => p.2.map (fun w => (p.1, w)))

/-- A write acknowledgement (R195): the write is accepted when the last one is there, or ends with a code. -/
def fabWriteDone (s : Dev) (m : FabMsg) (code : Nat) : Dev :=
  match arrive s m with
  | (s, false) => s
  | (s, true) =>
    match sentWrite s m.tag with
    | none => s
    | some (core, w) =>
      let left := ((w.sent.map (·.2)).getD 1) - 1
      modCore s core (fun c =>
        if code ≠ 0 then loseWrite { c with wb := c.wb.erase w } w code
        else if left = 0 then { c with wb := c.wb.erase w }
        else { c with wb := c.wb.map (fun x => if x = w then { x with sent := some (m.tag, left) } else x) })

/-- An atomic response. -/
def fabAtomicBack (s : Dev) (m : FabMsg) (code : Nat) (vals : List (Nat × Nat)) : Dev :=
  match arrive s m with
  | (s, false) => s
  | (s, true) =>
    match m.tag % 4, tget s.net (m.tag / 4) with
    | 0, some r =>
      (match r.kind with
       | .atomic ops => if r.sent then deliverAtomic s (m.tag / 4) r ops vals code else s
       | _ => s)
    | _, _ => s

/-- UNREACHABLE (R343): the access that the tag names ends with E_PEER_GONE. -/
def fabUnreachable (s : Dev) (m : FabMsg) : Dev :=
  if !serving s || !ownDevice s m.dst || m.reserved then s
  else match m.tag % 4 with
    | 0 => (match tget s.net (m.tag / 4) with
      | some r => if r.sent then failReq s (m.tag / 4) r ePeerGone else s
      | none => s)
    | 1 => (match sentWrite s m.tag with
      | some (core, w) => modCore s core (fun c => loseWrite { c with wb := c.wb.erase w } w ePeerGone)
      | none => s)
    | 2 => segmentAnswer s m.tag ePeerGone
    | _ => (match s.shore.wants.find? (fun p => p.2 / 4 == m.tag && m.tag != 3) with
      | some (k, _) =>
        let s := (s.net.filter (fun p => p.2.sec / 2 == k)).foldl (fun s p => failReq s p.1 p.2 ePeerGone) s
        let s := { s with shore := { s.shore with wants := tdel s.shore.wants k, queue := tdel s.shore.queue k } }
        if (lineAt s k).any (fun l => l.hold == .pending) then failReleases (dropLine s k) else s
      | none => s)

/-! ### Multicast at a target (R358) -/

/-- Segments in receive buffers are written where their lines allow it; the rest waits for what has been recalled. -/
def drainSegs (s : Dev) : Dev :=
  s.fab.segs.foldl (fun s b =>
    match b.msg.body with
    | .segment data =>
      let s' := rxBytes s b.msg.offset data b.msg.poison
      if s'.blocked.isEmpty then answer { s' with fab := { s'.fab with segs := s'.fab.segs.erase b } } b.msg false (.segmentResp 0)
      else whole s (fun s => rxBytes s b.msg.offset data b.msg.poison)
    | _ => s) s

/-- A multicast segment arrives at a harbour die. -/
def fabSegment (s : Dev) (m : FabMsg) (die : Nat) (data : List Byte) : Dev :=
  match arrive s m with
  | (s, false) => s
  | (s, true) =>
    match admitRange s m.src m.offset data.length 1 with
    | (s, 0) =>
      if (s.fab.segs.filter (fun b => b.die == die)).length ≥ 256 then answer s m false (.segmentResp eBusy)
      else drainSegs { s with fab := { s.fab with segs := s.fab.segs ++ [⟨die, m⟩] } }
    | (s, c) => answer s m false (.segmentResp c)

/-! ### The rows -/

/-- FAB_READ_REQUEST. -/
def execFabReadRequest (m : FabMsg) (s : State) : Host.Outcome State Fault Refusal :=
  perform s (fun s => whole s (fun s => match m.body with
    | .readReq len => fabRead s m len
    | _ => s))

/-- FAB_READ_RESPONSE. -/
def execFabReadResponse (m : FabMsg) (s : State) : Host.Outcome State Fault Refusal :=
  perform s (fun s => match m.body with
    | .readResp code data => fabReadBack s m code data
    | _ => s)

/-- FAB_WRITE. -/
def execFabWrite (m : FabMsg) (s : State) : Host.Outcome State Fault Refusal :=
  perform s (fun s => whole s (fun s => match m.body with
    | .write data => fabWriteIn s m data
    | _ => s))

/-- FAB_WRITE_ACK. -/
def execFabWriteAck (m : FabMsg) (s : State) : Host.Outcome State Fault Refusal :=
  perform s (fun s => match m.body with
    | .writeAck code => fabWriteDone s m code
    | _ => s)

/-- FAB_ATOMIC. -/
def execFabAtomic (m : FabMsg) (s : State) : Host.Outcome State Fault Refusal :=
  perform s (fun s => whole s (fun s => match m.body with
    | .atomic ops => fabAtomicIn s m ops
    | _ => s))

/-- FAB_ATOMIC_RESPONSE. -/
def execFabAtomicResponse (m : FabMsg) (s : State) : Host.Outcome State Fault Refusal :=
  perform s (fun s => match m.body with
    | .atomicResp code vals => fabAtomicBack s m code vals
    | _ => s)

/-- UNREACHABLE. -/
def execUnreachable (m : FabMsg) (s : State) : Host.Outcome State Fault Refusal :=
  perform s (fun s => match m.body with
    | .unreachable => fabUnreachable s m
    | _ => s)

/-- MULTICAST_SEGMENT, at HW (0) or HE (1). -/
def execMulticastSegment (m : FabMsg) (die : Nat) (s : State) : Host.Outcome State Fault Refusal :=
  perform s (fun s => match m.body with
    | .segment data => fabSegment s m die data
    | _ => s)

/-- MULTICAST_RESPONSE (R358, R359). -/
def execMulticastResponse (m : FabMsg) (s : State) : Host.Outcome State Fault Refusal :=
  perform s (fun s => match m.body, arrive s m with
    | .segmentResp code, (s, true) => if m.tag % 4 = 2 then segmentAnswer s m.tag code else s
    | .segmentResp _, (s, false) => s
    | _, _ => s)

/-- MCAST_RETRY (R358): a refused segment of a target is sent again. DESIGN CHOICE: log entry 4. -/
def execMcastRetry (n target seg : Nat) (s : State) : Host.Outcome State Fault Refusal :=
  perform s (fun s =>
    match (tget s.fab.sends n).bind (fun o => o.targets[target]?) with
    | some g =>
      if g.missed ∨ !g.refused.contains seg then s
      else
        let s := modTarget s n target (fun g => { g with refused := g.refused.filter (· != seg), refusals := g.refusals + 1 })
        finishMcast (sendSegment (bump s Reg.FAB_CNT_MCAST_RETRIES) n target seg) n
    | none => s)

/-- MCAST_TARGET_GIVE_UP (R358): 20 µs have passed since a target's first refusal. -/
def execMcastTargetGiveUp (n target : Nat) (s : State) : Host.Outcome State Fault Refusal :=
  perform s (fun s =>
    match tget s.fab.sends n with
    | some o => (match o.targets[target]? with
      | some g => if g.firstBusy.isNone ∨ delivered o g then s else finishMcast (missTarget s n target) n
      | none => s)
    | none => s)

/-- COLLECTIVE_DATA (R362). -/
def execCollectiveData (m : FabMsg) (s : State) : Host.Outcome State Fault Refusal :=
  perform s (fun s => whole s (fun s => match m.body, arrive s m with
    | .collective _ _ _, (s, true) => takeColl s m
    | .collective _ _ _, (s, false) => s
    | _, _ => s))

/-- COLLECTIVE_SIGNAL (R361). -/
def execCollectiveSignal (m : FabMsg) (s : State) : Host.Outcome State Fault Refusal :=
  perform s (fun s => whole s (fun s => match m.body, arrive s m with
    | .signal _ _ _ _, (s, true) => takeColl s m
    | .signal _ _ _ _, (s, false) => s
    | _, _ => s))

/-- PROGRESS_WORD (R354). -/
def execProgressWord (m : FabMsg) (s : State) : Host.Outcome State Fault Refusal :=
  perform s (fun s => match m.body, arrive s m with
    | .progress w, (s, true) => { s with fab := { s.fab with words := tset s.fab.words m.src w } }
    | .progress _, (s, false) => s
    | _, _ => s)

/-- PROGRESS_PUSH (R354). -/
def execProgressPush (s : State) : Host.Outcome State Fault Refusal :=
  perform s (fun s =>
    if !serving s then s
    else ((List.range 64).filter (fun m => fget s (RF.SHC_EPOCH_VALID m) == 1)).foldl (fun s m =>
      sendFab s (fget s (RF.SHC_EPOCH_DEVICE m)) 0 0 false (.progress (regRead s Reg.FAB_PROGRESS))) s)

/-- PROGRESS_UPDATE (R364). -/
def execProgressUpdate (s : State) : Host.Outcome State Fault Refusal := perform s updateProgress

/-- Ranks of a collective's subtree whose contribution is still awaited (R365). -/
def awaited (c : Comm) (x : Coll) : List Nat :=
  ((childRanks c.ranks.length c.rank).filter (fun r => x.head.kind != 1 && !x.got.any (fun g => g.1 == r))).foldl
    (fun l r => l ++ subtree c.ranks.length r 6) []

/-- COLLECTIVE_PROGRESS_POLL (R365): the progress words of the awaited ranks of a communicator are read. -/
def execCollectiveProgressPoll (comm : Nat) (s : State) : Host.Outcome State Fault Refusal :=
  perform s (fun s =>
    let s := collTurns s
    match commAt s comm with
    | some c => (match c.colls with
      | x :: _ => (awaited c x).foldl (fun s r => sendFab s (c.ranks.getD r 0) 3 progressOffset false (.readReq 8)) s
      | [] => s)
    | none => s)

/-- PACE_TIMEOUT (R366): PACE_AFTER_US have passed in the first collective of a communicator. DESIGN CHOICE: log entry 4. -/
def execPaceTimeout (comm : Nat) (s : State) : Host.Outcome State Fault Refusal :=
  perform s (fun s =>
    match commAt s comm with
    | some c => (match c.colls with
      | x :: rest =>
        let slow := (awaited c x).any (fun r => (tgetD s.fab.words (c.ranks.getD r 0) 0) % 256 &&& 0xDF != 0)
        if fget s RF.FAB_POLICY_PACE_EN = 0 ∨ x.pacing ∨ !slow then s
        else
          let s := modComm s comm (fun c => { c with colls := { x with pacing := true } :: rest })
          let s := (heldIslands s c.inst).foldl (fun s i => beginReason s 6 i) s
          fset (bump s Reg.FAB_CNT_PACE_EVENTS) RF.FAB_STATUS_PACING 1
      | [] => s)
    | none => s)

/-- FABRIC_DEPART (R355). -/
def execFabricDepart (m : FabMsg) (s : State) : Host.Outcome State Fault Refusal :=
  perform s (fun s => match m.body, arrive s m with
    | .depart, (s, true) => departDevice s m.src
    | .depart, (s, false) => s
    | _, _ => s)

/-- MEMBER_SILENCE_TIMEOUT (R339, R355): nothing has come from a member for DEPART_MS, or a device has had no route for that long. What was held for
a lost port to it is dropped. -/
def execMemberSilenceTimeout (device : Nat) (s : State) : Host.Outcome State Fault Refusal :=
  perform s (fun s =>
    let heard := match memberOf s device with
      | some i => ((tget s.fab.members i).map (·.heard)).getD 0
      | none => s.time.hw
    if !serving s ∨ (s.time.hw < heard + usTicks (1000 * max 1 (fget s RF.FAB_POLICY_DEPART_MS)) ∧ fabReach s device) then s
    else
      let (s, mine) := dropHeld s device
      departDevice (mine.foldl (fun s m => fabUnreachable s { m with dst := m.src }) s) device)

/-! ### Commands (R348 to R357) -/

/-- FAB_SET_DEVICE (R348). -/
def execFabSetDevice (c : Cmd) (s : State) : Host.Outcome State Fault Refusal :=
  perform s (fun s => command 0x70 c s (fun x s =>
    let d := eb x.e 16 2
    afterChecks s [(decide (d > 32767), eArg), ((List.range 16).any (fun p => fget s (RF.FAB_PORT_STATUS_STATE p) != 0), eBusy)]
      (fset (fset s RF.FAB_STATUS_DEVICE d) RF.FAB_STATUS_DEVICE_VALID 1, .done Ret.ok)))

/-- The buffer of a command (R431): by virtual address on a ring, else the buffer that came with it. -/
def cmdBuffer (s : Dev) (x : Ctx) (va n : Nat) : Dev × List Byte × Nat :=
  if x.origin ≤ 2 then vaGiven s x.inst va n x.payload
  else if x.payload.length < n then (s, [], eArg) else (s, x.payload.take n, 0)

/-- FAB_ROUTE_SET (R342). -/
def execFabRouteSet (c : Cmd) (s : State) : Host.Outcome State Fault Refusal :=
  perform s (fun s => command 0x71 c s (fun x s =>
    let first := eb x.e 16 2
    let n := eb x.e 18 2
    if n = 0 ∨ first + n > 32768 then (s, .reject eArg)
    else match cmdBuffer s x (eb x.e 24 8) (2 * n) with
      | (s, b, 0) =>
        let routes := (List.range n).foldl (fun t i =>
          let v := ofLe ((b.drop (2 * i)).take 2)
          if v = 0 then tdel t (first + i) else tset t (first + i) v) s.fab.routes
        (drainWaiting { s with fab := { s.fab with routes := routes } }, .done Ret.ok)
      | (s, _, code) => (s, .reject code)))

/-- FAB_ARCH_SET with OP 0, or an OP that is not legal (R352): this device's own index and ARCH_ID at once, another device when its
admission ends. -/
def execFabArchAdmit (c : Cmd) (s : State) : Host.Outcome State Fault Refusal :=
  perform s (fun s => if otherOp 19 0 c s 0x72 then s else command 0x72 c s (fun x s =>
    let arch := eb x.e 16 2
    let idx := eb x.e 18 1
    let dev := eb x.e 20 2
    let valid := fget s RF.FAB_STATUS_ARCH_VALID = 1
    let others := (List.range 64).any (fun m => fget s (RF.SHC_EPOCH_VALID m) == 1) || !s.fab.members.isEmpty
    let own := ownDevice s dev
    let held := (match tget s.fab.members idx with
        | some e => e.device != dev
        | none => false) || (!own && valid && fget s RF.FAB_STATUS_MY_MEMBER == idx)
      || (own && thas s.fab.members idx)
    let admitted := (memberOf s dev).isSome || s.fab.members.any (fun p => p.2.device == dev)
    afterChecks s [(decide (idx > 63) || decide (dev > 32767) || decide (eb x.e 19 1 > 1) || held
          || (!own && (!valid || fget s RF.FAB_STATUS_ARCH_ID != arch)) || (own && valid && others && fget s RF.FAB_STATUS_ARCH_ID == arch
              && fget s RF.FAB_STATUS_MY_MEMBER != idx), eArg),
        (own && valid && fget s RF.FAB_STATUS_ARCH_ID != arch && others, eBusy),
        (!own && admitted, eBusy)]
      (if own then
         (showMembers (fset (fset (fset s RF.FAB_STATUS_ARCH_ID arch) RF.FAB_STATUS_ARCH_VALID 1) RF.FAB_STATUS_MY_MEMBER idx), .done Ret.ok)
       else
         let s := { s with fab := { s.fab with members := tset s.fab.members idx { device := dev, cmd := some x.key, heard := s.time.hw } } }
         (sendAdmit s idx dev, .later)))
    |> fun s => if s.fab.notes.isEmpty then s else (tkeys s.fab.notes).foldl tryAdmit s)

/-- FAB_ARCH_SET with OP 1 (R355): an orderly departure. -/
def execFabArchDepart (c : Cmd) (s : State) : Host.Outcome State Fault Refusal :=
  perform s (fun s => if otherOp 19 1 c s 0x72 then s else command 0x72 c s (fun x s =>
    let idx := eb x.e 18 1
    let dev := eb x.e 20 2
    let named := fget s (RF.SHC_EPOCH_VALID idx) = 1 ∧ fget s (RF.SHC_EPOCH_DEVICE idx) = dev
    afterChecks s [(decide (idx > 63) || !decide named || fget s RF.FAB_STATUS_ARCH_ID != eb x.e 16 2, eArg)]
      (departMember (returnPeerLines s dev) idx, .done Ret.ok)))

/-- FAB_EXPORT (R350). -/
def execFabExport (c : Cmd) (s : State) : Host.Outcome State Fault Refusal :=
  perform s (fun s => command 0x73 c s (fun x s =>
    let i := eb x.e 16 1
    let rights := eb x.e 17 1
    let kind := eb x.e 18 1
    let dev := eb x.e 20 2
    let first := eb x.e 24 4
    let n := eb x.e 28 4
    let free := lowest 1024 (fun h => !thas s.ins.exports h)
    afterChecks s ([(decide (kind > 2) || decide (dev > 32767) || n == 0 || (runOf first n).any (fun fr => !owns s i fr), eArg)] ++ namedState s i
        ++ [((runOf first n).any (inPair s), eBusy), (free.isNone, eNoSpace)])
      (let h := free.getD 0
       let e : Export := { inst := i, first := first, frames := n, r := bitOf rights 0, w := bitOf rights 1, a := bitOf rights 2, src := kind,
                           device := dev, closing := false }
       ({ s with ins := { s.ins with exports := tset s.ins.exports h e } }, .done { Ret.ok with r0 := h }))))

/-- A directory entry names a member that no export covers for its frame. -/
def uncovered (s : Dev) (fr : Nat) (e : DirEntry) : Bool :=
  (agentsOf e).any (fun a => a != 64 && !(exportCovers s fr (fget s (RF.SHC_EPOCH_DEVICE a)) 0 || exportCovers s fr (fget s (RF.SHC_EPOCH_DEVICE a)) 1))

/-- Steps 1 and 3 of R351: the export is closed, and entries that name a device no longer covered are freed. -/
def closeExport (s : Dev) (h : Nat) : Dev :=
  match tget s.ins.exports h with
  | none => s
  | some x =>
    let s := { s with ins := { s.ins with exports := tset s.ins.exports h { x with closing := true } } }
    let ks := (s.shore.dir.filter (fun p => decide (x.first ≤ p.1 / 2 ^ 15) && decide (p.1 / 2 ^ 15 < x.first + x.frames)
      && uncovered s (p.1 / 2 ^ 15) p.2)).map (·.1)
    ks.foldl (fun s k => match homeAccess s k true with
      | (s, true) => s
      | (s, false) => { s with blocked := s.blocked ++ [(k, 2)] }) s

/-- FAB_UNEXPORT (R351). -/
def execFabUnexport (c : Cmd) (s : State) : Host.Outcome State Fault Refusal :=
  perform s (fun s => command 0x74 c s (fun x s =>
    let h := eb x.e 16 2
    match tget s.ins.exports h with
    | none => (s, .reject eArg)
    | some e =>
      if e.inst ≠ x.inst ∧ x.origin = 2 then (s, .reject eArg)
      else
        let s := closeExport s h
        ({ s with ins := { s.ins with exports := tdel s.ins.exports h } }, .done Ret.ok)))

/-- MCAST_GROUP_SET (R357). -/
def execMcastGroupSet (c : Cmd) (s : State) : Host.Outcome State Fault Refusal :=
  perform s (fun s => command 0x75 c s (fun x s =>
    let n := eb x.e 17 1
    let va := eb x.e 24 8
    if n < 1 ∨ n > 64 then (s, .reject eArg)
    else if va % 8 ≠ 0 then (s, .reject eAlign)
    else match vaGiven s x.inst va (8 * n) x.payload with
      | (s, b, 0) =>
        let l := (List.range n).map (fun i => ofLe ((b.drop (8 * i)).take 8))
        if l.any (fun v => decide (v ≥ 2 ^ 57)) then (s, .reject eReserved)
        else ({ s with fab := { s.fab with groups := tset s.fab.groups (256 * x.inst + eb x.e 16 1) l } }, .done Ret.ok)
      | (s, _, code) => (s, .reject code)))

/-- MCAST_SEND (R357 to R359). -/
def execMcastSend (c : Cmd) (s : State) : Host.Outcome State Fault Refusal :=
  perform s (fun s =>
    let n := s.fab.nextSend
    let s := command 0x76 c s (fun x s => fromRecord s x (
      let bytes := eb x.e 32 4
      match tget s.fab.groups (256 * x.inst + eb x.e 16 1) with
      | none => (s, .reject eArg)
      | some l =>
        if bytes < 1 ∨ bytes > 16777216 then (s, .reject eArg)
        else
          let (s, c1) := vaCheck s x.inst (eb x.e 24 8) bytes 0
          if c1 ≠ 0 then (s, .reject c1)
          else
            let (s, data, code) := vaRead s x.inst (eb x.e 24 8) bytes
            let o : McastOp := { cmd := x.key, inst := x.inst, off := eb x.e 40 8, data := data, poison := badData code,
                                 targets := l.map (fun b => ⟨b, [], [], 0, none, false⟩) }
            if data.length < bytes then (s, .reject code)
            else ({ s with fab := { s.fab with sends := tset s.fab.sends n o, nextSend := n + 1 } }, .later)))
    match tget s.fab.sends n with
    | none => s
    | some o => finishMcast ((List.range o.targets.length).foldl (fun s t =>
        (List.range (segCount o)).foldl (fun s k => sendSegment s n t k) s) s) n)

end Sys2Proof.Machine
end

