-- ==== Sys2Proof/Machine/FabricLink.lean ====
section
/-!
DEFINITION. The fabric ports (R332 to R347, R456): flits, replay, transit, port loss, training, identity and keys.
-/
namespace Sys2Proof.Machine

/-! ### Messages of a flit -/

/-- Perform a message whose DST is this device; `die` is the harbour die it came to. -/
def performMsg (s : Dev) (die : Nat) (m : FabMsg) : Dev :=
  let then_ := fun (f : Dev → Dev) => match arrive s m with
    | (s, true) => f s
    | (s, false) => s
  match m.body with
  | .idle => s
  | .readReq len => fabRead s m len
  | .readResp code data => fabReadBack s m code data
  | .write data => fabWriteIn s m data
  | .writeAck code => fabWriteDone s m code
  | .atomic ops => fabAtomicIn s m ops
  | .atomicResp code vals => fabAtomicBack s m code vals
  | .coh op third data => cohMessage s m op third data
  | .segment data => fabSegment s m die data
  | .segmentResp code => then_ (fun s => if m.tag % 4 = 2 then segmentAnswer s m.tag code else s)
  | .collective _ _ _ => then_ (fun s => takeColl s m)
  | .signal _ _ _ _ => then_ (fun s => takeColl s m)
  | .progress w => then_ (fun s => { s with fab := { s.fab with words := tset s.fab.words m.src w } })
  | .resyncQuery p => answerResync s m p
  | .resyncReply p last => takeResync s m p last
  | .unreachable => fabUnreachable s m
  | .depart => then_ (fun s => departDevice s m.src)
  | .admission n => takeNote s m n
  | .identity _ _ _ _ | .measurements _ | .keys => s

/-- Messages that waited for lines held outside the device are performed where the lines have come home; for the rest, what they need is recalled. -/
def drainInbox (s : Dev) : Dev :=
  s.fab.inbox.foldl (fun s b =>
    let s' := performMsg s b.1 b.2
    if s'.blocked.isEmpty then { s' with fab := { s'.fab with inbox := s'.fab.inbox.erase b } }
    else whole s (fun s => performMsg s b.1 b.2)) s

/-- A message that is not for this device is forwarded, or UNREACHABLE goes to its source (R340, R343). -/
def transit (s : Dev) (m : FabMsg) : Dev :=
  if m.hops ≥ 7 ∨ (routePorts s m.dst).isEmpty then
    (let s := bump s Reg.FAB_CNT_TRANSIT_DROPS
     if (routePorts s m.src).isEmpty then s else sendFab s m.src m.tag 0 false .unreachable)
  else routeMsg (bump s Reg.FAB_CNT_TRANSIT) { m with hops := m.hops + 1 }

/-- KIND 14 or 15 (R336). -/
def isLinkKind : FabBody → Bool
  | .resyncQuery _ | .resyncReply _ _ | .unreachable | .depart | .identity _ _ _ _ | .measurements _ | .keys | .admission _ => true
  | _ => false

/-! ### Bringing a link into service (R333, R345, R346) -/

/-- Send a message over one port, whatever the routes say. -/
def sendPort (s : Dev) (p : Nat) (b : FabBody) : Dev := placeFlit s p (mkMsg s (fget s (RF.FAB_PORT_STATUS_NEIGHBOUR p)) 0 0 false b)

/-- A port begins to attest: flits start anew, and this side's identity goes out. -/
def startAttest (s : Dev) (p : Nat) : Dev :=
  let s := fset s (RF.FAB_PORT_STATUS_STATE p) 2
  let s := modPort s p (fun q => { q with tx := 0, rx := 0, passed := 0, replay := [] })
  sendPort s p (.identity (fget s RF.FAB_STATUS_DEVICE) (regRead s Reg.BRG_MODULE_SERIAL) p (Config.chain 0))

/-- A port is in service: it joins the route masks, flits are SECURE, and what waited goes on. -/
def portUp (s : Dev) (p : Nat) : Dev :=
  let s := fset (fset s (RF.FAB_PORT_STATUS_STATE p) 3) (RF.FAB_PORT_STATUS_SECURE p) 1
  let s := fset s (RF.FAB_PORT_STATUS_BW_GBPS p) (portBw (fget s (RF.FAB_PORT_STATUS_HALF p) == 1))
  let s := modPort s p (fun q => { q with tx := 0, rx := 0, replay := [], trained := false, keyUse := 0 })
  drainWaiting (fset s RF.FAB_STATUS_PORTS_UP (fget s RF.FAB_STATUS_PORTS_UP ||| 2 ^ p))

/-- A KEY entry for a port's link keys (R419 kind 4, R436). DEDUCED: log entries 63, 64. -/
def logLinkKey (s : Dev) (p old new : Nat) : Dev := logFw s 9 (4 + 2 ^ 8 * p) old new

/-- An attestation fails: the port stays down (R346), and members that nothing else reaches depart (R355). -/
def attestFail (s : Dev) (p : Nat) : Dev := departUnreached (authFail (portOut s p 0))

/-- The neighbour's identity (R345 step 1, R346). -/
def takeIdentity (s : Dev) (p device port : Nat) (chain : List Byte) : Dev :=
  if fget s (RF.FAB_PORT_STATUS_STATE p) ≠ 2 ∨ (portAt s p).passed ≠ 0 then s
  else if !(Config.verifies 0 chain && decide (device ≤ 32767) && !ownDevice s device) then attestFail s p
  else
    let s := fset (fset s (RF.FAB_PORT_STATUS_NEIGHBOUR p) device) (RF.FAB_PORT_STATUS_NEIGHBOUR_PORT p) port
    sendPort (modPort s p (fun q => { q with passed := 1 })) p (.measurements (ownMeasured s))

/-- The neighbour's measurements (R345 step 2, R346); the lower device number then opens the session (step 3). -/
def takeMeasured (s : Dev) (p : Nat) (b : List Byte) : Dev :=
  if fget s (RF.FAB_PORT_STATUS_STATE p) ≠ 2 ∨ (portAt s p).passed ≠ 1 then s
  else if !measuredOk s b then attestFail s p
  else
    let s := modPort s p (fun q => { q with passed := 2 })
    if fget s RF.FAB_STATUS_DEVICE < fget s (RF.FAB_PORT_STATUS_NEIGHBOUR p) then sendPort s p .keys else s

/-- The session's keys (R345 steps 3 to 5): the side with the higher number answers. DEDUCED: log entry 63. -/
def takeKeys (s : Dev) (p : Nat) : Dev :=
  if fget s (RF.FAB_PORT_STATUS_STATE p) ≠ 2 ∨ (portAt s p).passed ≠ 2 then s
  else
    let s := if fget s RF.FAB_STATUS_DEVICE < fget s (RF.FAB_PORT_STATUS_NEIGHBOUR p) then s else sendPort s p .keys
    portUp (logLinkKey (fset s (RF.FAB_PORT_STATUS_KEY_PHASE p) 0) p 0 0) p

/-- A message that a port's link brings, before or after the port is up. -/
def linkMsg (s : Dev) (p : Nat) (m : FabMsg) : Dev :=
  match m.body with
  | .identity device _ port chain => takeIdentity s p device port chain
  | .measurements b => takeMeasured s p b
  | .keys => takeKeys s p
  | _ => s

/-- A message of an accepted flit. -/
def slotIn (s : Dev) (p : Nat) (m : FabMsg) : Dev :=
  match m.body with
  | .idle => s
  | .identity _ _ _ _ | .measurements _ | .keys => linkMsg s p m
  | _ =>
    if fget s (RF.FAB_PORT_STATUS_STATE p) = 2 ∧ !isLinkKind m.body then s
    else if m.reserved then badMessage s
    else if ownDevice s m.dst then
      (let s' := performMsg s (p / 8) m
       if s'.blocked.isEmpty then s'
       else { (whole s (fun s => performMsg s (p / 8) m)) with
              fab := { (whole s (fun s => performMsg s (p / 8) m)).fab with inbox := s.fab.inbox ++ [(p / 8, m)] } })
    else transit s m

/-! ### Flits (R337, R338) -/

/-- Flits up to a number are acknowledged. -/
def ackFlits (s : Dev) (p last : Nat) : Dev := modPort s p (fun q => { q with replay := beyond last q.replay })

/-- The sender replays from a number on. -/
def replayFrom (s : Dev) (p seq : Nat) : Dev :=
  let s := ackFlits s p ((seq + 2 ^ 32 - 1) % 2 ^ 32)
  let l := (portAt s p).replay
  bumpBy { s with out := s.out ++ l.map (fun f => .flit p f) } (Reg.FAB_PORT_CNT_REPLAYS p) l.length

/-- A port retrains (R337): its session goes on if a key update succeeds. DEDUCED: log entry 63. -/
def portRetrain (s : Dev) (p : Nat) : Dev := departUnreached (bump (portOut s p 4) (Reg.FAB_PORT_CNT_RETRAINS p))

/-- A flit fails a check: it is discarded and asked for again; after 8 failures of one number the port retrains. -/
def flitBad (s : Dev) (p : Nat) : Dev :=
  let s := bump s (Reg.FAB_PORT_CNT_CRC p)
  let s := modPort s p (fun q => { q with fails := q.fails + 1 })
  if (portAt s p).fails ≥ 8 then portRetrain s p else { s with out := s.out ++ [.portNak p (portAt s p).rx] }

/-- A flit whose CRC is good fails its tag (R338). DEDUCED: log entry 63. -/
def flitTampered (s : Dev) (p : Nat) : Dev := departUnreached (portOut (logEvent s (Reg.FAB_PORT_CNT_TAG_FAILS p) 0) p 0)

/-- FABRIC_FLIT_RECEIVE (R337, R338, R343). DESIGN CHOICE: log entry 15. -/
def flitIn (s : Dev) (p : Nat) (f : FabFlit) : Dev :=
  let st := fget s (RF.FAB_PORT_STATUS_STATE p)
  if !serving s || p > 15 || (st != 2 && st != 3) then s
  else
    let s := bumpBy s (Reg.FAB_PORT_CNT_FEC p) f.fixed
    if !(f.fecOk && f.crcOk && f.resvOk) then flitBad s p
    else if st = 3 ∧ !(f.secure && f.tagOk) then flitTampered s p
    else
      let s := if f.nak then replayFrom s p f.ackSeq else if f.ackV then ackFlits s p f.ackSeq else s
      if f.seq ≠ (portAt s p).rx then drainWaiting s
      else
        let s := bump (modPort s p (fun q => { q with rx := (q.rx + 1) % 2 ^ 32, fails := 0 })) (Reg.FAB_PORT_CNT_RX p)
        drainInbox (drainWaiting (f.slots.foldl (fun s m => slotIn s p m) s))

/-- FABRIC_FLIT_RECEIVE. -/
def execFabricFlitReceive (port : Nat) (f : FabFlit) (s : State) : Host.Outcome State Fault Refusal := perform s (fun s => flitIn s port f)

/-- FABRIC_NAK (R337). -/
def execFabricNak (port seq : Nat) (s : State) : Host.Outcome State Fault Refusal :=
  perform s (fun s => if serving s && (fget s (RF.FAB_PORT_STATUS_STATE port) == 3 || fget s (RF.FAB_PORT_STATUS_STATE port) == 2) then
    replayFrom s port seq else s)

/-- FABRIC_RESYNC_QUERY (R339). -/
def execFabricResyncQuery (m : FabMsg) (s : State) : Host.Outcome State Fault Refusal :=
  perform s (fun s => match m.body with
    | .resyncQuery p => if ownDevice s m.dst then answerResync s m p else s
    | _ => s)

/-- FABRIC_RESYNC_REPLY (R339). -/
def execFabricResyncReply (m : FabMsg) (s : State) : Host.Outcome State Fault Refusal :=
  perform s (fun s => match m.body with
    | .resyncReply p last => if ownDevice s m.dst then takeResync s m p last else s
    | _ => s)

/-! ### Ports -/

/-- PORT_LOSS (R339): loss of light takes a port down, loss of lanes retrains it. DEDUCED: log entry 63. -/
def execPortLoss (port : Nat) (light : Bool) (s : State) : Host.Outcome State Fault Refusal :=
  perform s (fun s =>
    let st := fget s (RF.FAB_PORT_STATUS_STATE port)
    if !serving s || port > 15 || st == 0 then s
    else if light then departUnreached (portOut s port 0)
    else if st = 3 then portRetrain s port
    else portOut s port 0)

/-- PORT_DETECT (R333, R348): training starts once the device has a number. -/
def execPortDetect (port : Nat) (s : State) : Host.Outcome State Fault Refusal :=
  perform s (fun s =>
    if !serving s || port > 15 || fget s RF.FAB_STATUS_DEVICE_VALID == 0 || fget s (RF.FAB_PORT_STATUS_STATE port) != 0 then s
    else fset s (RF.FAB_PORT_STATUS_STATE port) 1)

/-- PORT_TRAINED (R333): every lane at full width, else the half whose lanes all pass, else the port stays down.
DESIGN CHOICE: log entry 15. DEDUCED: log entry 63. -/
def execPortTrained (port lanes : Nat) (s : State) : Host.Outcome State Fault Refusal :=
  perform s (fun s =>
    let st := fget s (RF.FAB_PORT_STATUS_STATE port)
    if !serving s || port > 15 || (st != 1 && st != 4) then s
    else
      let good := lanes % 256
      let s := fset s (RF.FAB_PORT_STATUS_GOOD_LANES port) good
      if good = 0xFF ∨ good % 16 = 0xF ∨ good / 16 = 0xF then
        let s := fset s (RF.FAB_PORT_STATUS_HALF port) (b2n (good != 0xFF))
        if st = 1 then startAttest s port else modPort s port (fun q => { q with trained := true })
      else portOut s port 0)

/-- IDENTITY (R345, R346): the neighbour's identity on a port. -/
def execFabIdentity (port : Nat) (m : FabMsg) (s : State) : Host.Outcome State Fault Refusal :=
  perform s (fun s => match m.body with
    | .identity device _ p chain => if serving s then takeIdentity s port device p chain else s
    | _ => s)

/-- FABRIC_SPDM_MESSAGE (R345, R353): a step of a link's attestation, or of an admission. -/
def execFabricSpdmMessage (port : Nat) (m : FabMsg) (s : State) : Host.Outcome State Fault Refusal :=
  perform s (fun s => if !serving s then s else match m.body with
    | .measurements _ | .keys => linkMsg s port m
    | .admission n => takeNote s m n
    | _ => s)

/-- ADMISSION_TIMEOUT (R353). -/
def execAdmissionTimeout (device : Nat) (s : State) : Host.Outcome State Fault Refusal :=
  perform s (fun s => if serving s then endAdmission s device ePeerGone else s)

/-- KEY_UPDATE (R337, R347): KEY_PHASE flips; a retrained port returns to service with it, or attests from the start where it fails. -/
def execKeyUpdate (port : Nat) (ok : Bool) (s : State) : Host.Outcome State Fault Refusal :=
  perform s (fun s =>
    let st := fget s (RF.FAB_PORT_STATUS_STATE port)
    let ph := fget s (RF.FAB_PORT_STATUS_KEY_PHASE port)
    if !serving s || port > 15 then s
    else if st = 3 ∧ ok then
      logLinkKey (fset (modPort s port (fun q => { q with keyUse := 0 })) (RF.FAB_PORT_STATUS_KEY_PHASE port) (1 - ph)) port ph (1 - ph)
    else if st = 4 ∧ (portAt s port).trained then
      (if ok then portUp (logLinkKey (fset s (RF.FAB_PORT_STATUS_KEY_PHASE port) (1 - ph)) port ph (1 - ph)) port
       else startAttest (modPort s port (fun q => { q with trained := false })) port)
    else s)

/-- FABRIC_LANE_PARK (R456): a port in STATE up at full width that has been lightly loaded parks lanes 4 to 7. -/
def execFabricLanePark (port : Nat) (s : State) : Host.Outcome State Fault Refusal :=
  perform s (fun s =>
    if !serving s || port > 15 || fget s (RF.FAB_PORT_STATUS_STATE port) != 3 || fget s (RF.FAB_PORT_STATUS_HALF port) == 1
      || decide ((portAt s port).replay.length ≥ 32) then s
    else modPort s port (fun q => { q with parked := true }))

/-- FABRIC_LANE_UNPARK (R456): 32 flits or more wait for their acknowledgement. -/
def execFabricLaneUnpark (port : Nat) (s : State) : Host.Outcome State Fault Refusal :=
  perform s (fun s =>
    if (portAt s port).parked && decide ((portAt s port).replay.length ≥ 32) then modPort s port (fun q => { q with parked := false }) else s)

end Sys2Proof.Machine
end

