-- ==== Sys2Proof/Machine/Ferry.lean ====
section
/-!
DEFINITION. Ferries (R115 to R118): descriptor, issue, waiting, segments and completion.
-/
namespace Sys2Proof.Machine

/-- The transfer a descriptor describes (R116). -/
def readFerry (d : Nat) : Ferry :=
  let fl := fieldAt d 22 1
  { group := 0, set := 0, src := fieldAt d 0 8, dst := fieldAt d 8 8, rowBytes := fieldAt d 16 4, rows := fieldAt d 20 2,
    srcLs := bitOf fl 0, dstLs := bitOf fl 1, srcStride := fieldAt d 24 4, dstStride := fieldAt d 28 4, seq := 0, row := 0, off := 0,
    code := 0, bad := 0, walks := [], faults := [] }

/-- Source and destination spans: the smallest ranges that hold every row (R117). -/
def ferrySpans (f : Ferry) : List Span :=
  [⟨f.srcLs, f.src, f.src + (f.rows - 1) * f.srcStride + f.rowBytes, false⟩,
   ⟨f.dstLs, f.dst, f.dst + (f.rows - 1) * f.dstStride + f.rowBytes, true⟩]

/-- Checks 3 to 7 of R117 on a slot of `len` bytes: a code, or the transfer. -/
def ferryDescribe (rd : Nat → Nat → Nat) (len off : Nat) : Nat ⊕ Ferry :=
  if off + 32 > len then .inl eArg
  else if off % 32 ≠ 0 then .inl eAlign
  else
    let d := rd off 32
    let f := readFerry d
    if fieldAt d 22 1 > 3 ∨ fieldAt d 23 1 ≠ 0 ∨ f.rows = 0 then .inl eReserved
    else if f.rowBytes < 4 ∨ f.rowBytes > 16777216 ∨ f.rowBytes % 4 ≠ 0 ∨ (f.rows > 1 ∧ f.dstStride < f.rowBytes)
        ∨ (f.srcLs ∧ f.src ≥ 2 ^ 32) ∨ (f.dstLs ∧ f.dst ≥ 2 ^ 32)
        ∨ (ferrySpans f).any (fun x => x.isLs && decide (x.hi > len)) ∨ spansClash (ferrySpans f) then .inl eArg
    else if f.src % 4 ≠ 0 ∨ f.dst % 4 ≠ 0 then .inl eAlign
    else .inr f

/-- Accept a ferry: the handle is busy (R117 check 8). -/
def ferryAccept (s : Dev) (e : Env) (f : Ferry) (entries : List SbEntry) : Dev :=
  let h := wDst e.w
  let f := { f with group := e.gno, set := e.g.set, seq := e.c.seq }
  let s := modCore s e.core (fun c =>
    let c := flushFor c entries
    { c with ferries := tset c.ferries h f, handles := tset c.handles h ⟨true, e.gno, e.g.set, e.path.pc, e.c.seq, 0⟩ })
  complete (traceCore s 4 2 e.core e.path.pc e.gno 0 h) e e.g

/-- FYI (R115, R117). -/
def ferryIssue (e : Env) (s : Dev) : Dev :=
  orFail s e (descCk e.w e.second)
    (if (tgetD e.c.handles (wDst e.w) ⟨false, 0, 0, 0, 0, 0⟩).busy then stallAt s e .busy
     else
       let base := slotBase e.c e.d.shape e.g.set
       let off := descOffset e
       if sbBlocks e.c (some e.g.set) off 32 false then stallAt s e .overlap
       else match ferryDescribe (fun a n => lsRead e.c (base + a) n) e.d.shape.lsPerSet off with
         | .inl c => preciseFault s e c
         | .inr f =>
           let entries := sbEntries e (16 + wDst e.w) (ferrySpans f)
           let (c, ok) := claim (coreOf s e.core) e.gno entries
           let s := setCore s e.core c
           if ok then ferryAccept s e f entries else stallAt s e .entries)

/-- FYI (R115, R117). -/
def execFyi (i : Issue) (s : State) : Host.Outcome State Fault Refusal :=
  perform s (fun s => issue 0x60 false i s ferryIssue)

/-- FYW (R118). -/
def execFyw (i : Issue) (s : State) : Host.Outcome State Fault Refusal :=
  perform s (fun s => issue 0x61 false i s (waitOn (fun c => c.handles) (fun c t => { c with handles := t })))

/-- FYT (R118). -/
def execFyt (i : Issue) (s : State) : Host.Outcome State Fault Refusal :=
  perform s (fun s => issue 0x62 false i s (testOn (fun c => c.handles)))

/-- Change a ferry. -/
def modFerry (s : Dev) (core h : Nat) (f : Ferry → Ferry) : Dev :=
  modCore s core (fun c => { c with ferries := tmod c.ferries h f })

/-- Addresses and length of the segment a ferry stands at: at most 4 KiB, and never across a page (R280). -/
def ferrySegment (f : Ferry) : Nat × Nat × Nat :=
  let a := f.src + f.row * f.srcStride + f.off
  let b := f.dst + f.row * f.dstStride + f.off
  let n := min 4096 (f.rowBytes - f.off)
  let n := if f.srcLs then n else min n (4096 - a % 4096)
  let n := if f.dstLs then n else min n (4096 - b % 4096)
  (a, b, n)

/-- Write one destination sector of a segment. -/
def ferryPut (s : Dev) (core inst h base : Nat) (f : Ferry) (b : Nat) (bytes : List (Byte × Bool)) : Dev :=
  if f.dstLs then modCore s core (fun c => lsWrite c (base + b) bytes.length (ofLe (bytes.map (·.1))))
  else
    (pieceSectors [(b, bytes.length)]).foldl (fun s v =>
      match engLoc s core 3 inst (32 * v) 1 with
      | none => s
      | some loc =>
        let lo := max b (32 * v)
        let hi := min (b + bytes.length) (32 * v + 32)
        let part := (bytes.drop (lo - b)).take (hi - lo)
        let data := BitVec.ofNat 256 (ofLe (part.map (·.1)) * 2 ^ (8 * (lo - 32 * v)))
        modCore s core (fun c =>
          let c := l1Drop c (loc / 32)
          { c with wb := c.wb ++ [⟨loc / 32, data, byteSpan (lo - 32 * v) (hi - lo), part.any (·.2), some (16 + h), noGroup, c.seq,
                                   none⟩] })) s

/-- Source bytes of a segment with their poison, and the first code met; none where a sector is still to come. -/
def ferryBytes (s : Dev) (core inst h base : Nat) (f : Ferry) (a n : Nat) : Option (List (Byte × Bool) × Nat) :=
  let c := coreOf s core
  if f.srcLs then some ((List.range n).map (fun i => (tgetD c.ls (base + a + i) 0, false)), 0)
  else
    let sec := fun (v : Nat) => (engLoc s core 3 inst (32 * v) 0).bind (fun l => bufFind c (16 + h) (l / 32))
    let secs := pieceSectors [(a, n)]
    if secs.any (fun v => (sec v).isNone) then none
    else
      let byte := fun (x : Nat) => match sec (x / 32) with
        | some r => (byteAt r.data.toNat (x % 32), r.code != 0)
        | none => (0, false)
      some ((List.range n).map (fun i => byte (a + i)),
        (secs.findSome? (fun v => (sec v).bind (fun r => if r.code = 0 then none else some r.code))).getD 0)

/-- Pages of a segment that the engine's buffer does not serve. DESIGN CHOICE: log entry 24. -/
def ferryWalks (s : Dev) (core inst : Nat) (f : Ferry) (a b : Nat) : List Walk :=
  (if f.srcLs || (engLoc s core 3 inst a 0).isSome then [] else [⟨a, a, 0, 3⟩])
  ++ (if f.dstLs || (engLoc s core 3 inst b 1).isSome then [] else [⟨b, b, 1, 3⟩])

/-- The segment has been performed: the ferry stands at the next. -/
def ferryStep (f : Ferry) (n code : Nat) : Ferry :=
  let f := { f with bad := if f.bad = 0 then code else f.bad }
  if f.off + n < f.rowBytes then { f with off := f.off + n } else { f with row := f.row + 1, off := 0 }

/-- One segment of a ferry (R116, R153, R271, R280, R479). -/
def ferryRun (s : Dev) (core h : Nat) : Dev :=
  let c := coreOf s core
  match tget c.ferries h, c.disp with
  | some f, some dn =>
    (match tget s.disp dn with
     | none => s
     | some d =>
       let base := slotBase c d.shape f.set
       let (a, b, n) := ferrySegment f
       let fail := fun (s : Dev) (code : Nat) => modFerry s core h (fun f => { f with code := code })
       if f.code ≠ 0 ∨ f.row ≥ f.rows ∨ !f.walks.isEmpty ∨ f.faults.any (fun x => x.verdict.isNone) then s
       else if opHeld c (16 + h) f.seq (!f.srcLs || !f.dstLs) then s
       else match failedVerdict f.faults with
         | some code => fail s code
         | none =>
           if !f.srcLs && !canonical a then fail (openTerminal s d.inst core 3 0 a) eXlateFault
           else if !f.dstLs && !canonical b then fail (openTerminal s d.inst core 3 1 b) eXlateFault
           else if !(ferryWalks s core d.inst f a b).isEmpty then
             modFerry s core h (fun x => { x with walks := ferryWalks s core d.inst f a b })
           else match ferryBytes s core d.inst h base f a n with
             | none =>
               (pieceSectors [(a, n)]).foldl (fun s v => match engLoc s core 3 d.inst (32 * v) 0 with
                 | some l => if (bufFind (coreOf s core) (16 + h) (l / 32)).isSome then s
                     else sendReq s core (16 + h) (l / 32) .read
                 | none => s) s
             | some (bytes, code) =>
               if code ≠ 0 ∧ code ≠ ePoison ∧ code ≠ eUncorr then fail s code
               else
                 let s := ferryPut (bufClear s core (16 + h)) core d.inst h base f b bytes
                 modFerry s core h (fun f => ferryStep f n code))
  | _, _ => s

/-- FERRY_SEGMENT (R280). -/
def execFerrySegment (core handle : Nat) (s : State) : Host.Outcome State Fault Refusal :=
  perform s (fun s => ferryRun s core handle)

/-- The ferry ends once every segment is done, or it has failed, and every write is accepted (R118, R195). -/
def ferryComplete (s : Dev) (core h : Nat) : Dev :=
  let c := coreOf s core
  match tget c.ferries h, tget c.handles h with
  | some f, some slot =>
    if (f.code == 0 && decide (f.row < f.rows)) || c.wb.any (fun w => w.op == some (16 + h)) then s
    else
      let code := if f.code ≠ 0 then f.code else f.bad
      let done := groupDone s core f.group
      let c := { c with ferries := tdel c.ferries h, sb := c.sb.filter (fun x => x.op != 16 + h),
                        rbuf := c.rbuf.filter (fun r => r.tag != 16 + h),
                        handles := if code = 0 || done then tdel c.handles h
                          else tset c.handles h { slot with busy := false, code := code } }
      let s := traceCore (setCore s core (releaseSet (chargeEnded c slot code) f.set)) 5 2 core slot.addr f.group code h
      { s with net := tfilter s.net (fun _ r => !(r.core == core && r.tag == 16 + h)) }
  | _, _ => s

/-- FERRY_COMPLETE (R118). -/
def execFerryComplete (core handle : Nat) (s : State) : Host.Outcome State Fault Refusal :=
  perform s (fun s => ferryComplete s core handle)

/-- An entry is freed when the operation's last access to its range has completed (R80). -/
def entryDone (c : Core) (x : SbEntry) : Bool :=
  if x.op < 16 then
    match c.mxq.find? (fun m => m.token == x.op) with
    | none => true
    | some o =>
      if x.write then (o.rows.drop o.next).all (fun r => r.op != 3) && !c.wb.any (fun w => w.op == some x.op)
      else (o.rows.drop o.next).all (fun r => r.op != 2)
  else
    match tget c.ferries (x.op - 16) with
    | none => true
    | some f => decide (f.row ≥ f.rows) && (!x.write || !c.wb.any (fun w => w.op == some x.op))

/-- SCOREBOARD_ENTRY_FREE (R80): an entry whose accesses have completed. -/
def execScoreboardEntryFree (core index : Nat) (s : State) : Host.Outcome State Fault Refusal :=
  perform s (fun s => modCore s core (fun c => match c.sb[index]? with
    | some x => if entryDone c x then { c with sb := c.sb.eraseIdx index } else c
    | none => c))

/-- WRITEBACK_ACCEPT (R188, R195): the oldest write of a core that has not left it is accepted at its visibility point. -/
def execWritebackAccept (core : Nat) (s : State) : Host.Outcome State Fault Refusal :=
  perform s (fun s => acceptOldest s core none)

end Sys2Proof.Machine
end

