-- ==== Sys2Proof/Machine/Floating.lean ====
section
/-!
DEFINITION. The floating vector instructions (R98 to R100), conversion (R102, R103), random numbers (R113), shuffle and
vote (R110, R111), SREAD (R92), NOP (R112) and the session slot instructions that touch no memory (R119, R120).
-/
namespace Sys2Proof.Machine

/-- ADDF (R99). -/
def execAddf (i : Issue) (s : State) : Host.Outcome State Fault Refusal :=
  perform s (fun s => issue 0x18 false i s (runLocal (floatGroup 0x18)))

/-- MULF (R99). -/
def execMulf (i : Issue) (s : State) : Host.Outcome State Fault Refusal :=
  perform s (fun s => issue 0x19 false i s (runLocal (floatGroup 0x19)))

/-- MACF (R99). -/
def execMacf (i : Issue) (s : State) : Host.Outcome State Fault Refusal :=
  perform s (fun s => issue 0x1A false i s (runLocal (floatGroup 0x1A)))

/-- MINF (R99). -/
def execMinf (i : Issue) (s : State) : Host.Outcome State Fault Refusal :=
  perform s (fun s => issue 0x1B false i s (runLocal (floatGroup 0x1B)))

/-- MAXF (R99). -/
def execMaxf (i : Issue) (s : State) : Host.Outcome State Fault Refusal :=
  perform s (fun s => issue 0x1C false i s (runLocal (floatGroup 0x1C)))

/-- CMPF (R99). -/
def execCmpf (i : Issue) (s : State) : Host.Outcome State Fault Refusal :=
  perform s (fun s => issue 0x1D false i s (runLocal cmpfGroup))

/-- RCPF (R99). -/
def execRcpf (i : Issue) (s : State) : Host.Outcome State Fault Refusal :=
  perform s (fun s => issue 0x1E false i s (runLocal (floatGroup 0x1E)))

/-- SQRTF (R99). -/
def execSqrtf (i : Issue) (s : State) : Host.Outcome State Fault Refusal :=
  perform s (fun s => issue 0x1F false i s (runLocal (floatGroup 0x1F)))

/-- RSQF (R100). -/
def execRsqf (i : Issue) (s : State) : Host.Outcome State Fault Refusal :=
  perform s (fun s => issue 0x20 false i s (runLocal (floatGroup 0x20)))

/-- EXP2F (R100). -/
def execExp2f (i : Issue) (s : State) : Host.Outcome State Fault Refusal :=
  perform s (fun s => issue 0x21 false i s (runLocal (floatGroup 0x21)))

/-- LOG2F (R100). -/
def execLog2f (i : Issue) (s : State) : Host.Outcome State Fault Refusal :=
  perform s (fun s => issue 0x22 false i s (runLocal (floatGroup 0x22)))

/-- SINF (R100). -/
def execSinf (i : Issue) (s : State) : Host.Outcome State Fault Refusal :=
  perform s (fun s => issue 0x23 false i s (runLocal (floatGroup 0x23)))

/-- COSF (R100). -/
def execCosf (i : Issue) (s : State) : Host.Outcome State Fault Refusal :=
  perform s (fun s => issue 0x24 false i s (runLocal (floatGroup 0x24)))

/-- TANHF (R100). -/
def execTanhf (i : Issue) (s : State) : Host.Outcome State Fault Refusal :=
  perform s (fun s => issue 0x25 false i s (runLocal (floatGroup 0x25)))

/-- XFMT (R103). -/
def execXfmt (i : Issue) (s : State) : Host.Outcome State Fault Refusal :=
  perform s (fun s => issue 0x28 false i s (runLocal xfmtGroup))

/-- RND (R113). -/
def execRnd (i : Issue) (s : State) : Host.Outcome State Fault Refusal :=
  perform s (fun s => issue 0x50 false i s (runLocal rndGroup))

/-- LXCH (R110). -/
def execLxch (i : Issue) (s : State) : Host.Outcome State Fault Refusal :=
  perform s (fun s => issue 0x40 false i s (runLocal lxchGroup))

/-- TALLY (R111). -/
def execTally (i : Issue) (s : State) : Host.Outcome State Fault Refusal :=
  perform s (fun s => issue 0x41 false i s (runLocal tallyGroup))

/-- SREAD (R92). Code 12 reads a timing counter: a free value each time. -/
def execSread (i : Issue) (s : State) : Host.Outcome State Fault Refusal :=
  perform s (fun s => issue 0x4F false i s (fun e s =>
    let t := runLocal sreadGroup e s
    if wMod e.w 0 5 = 12 then { t with free := t.free + 1 } else t))

/-- NOP (R112). -/
def execNop (i : Issue) (s : State) : Host.Outcome State Fault Refusal :=
  perform s (fun s => issue 0x4E false i s (runLocal nopGroup))

/-- SSLOT (R120). -/
def execSslot (i : Issue) (s : State) : Host.Outcome State Fault Refusal :=
  perform s (fun s => issue 0x68 false i s (runLocal sslotGroup))

/-- SPGN (R120). -/
def execSpgn (i : Issue) (s : State) : Host.Outcome State Fault Refusal :=
  perform s (fun s => issue 0x6C false i s (runLocal spgnGroup))

end Sys2Proof.Machine
end

