-- ==== Sys2Proof/Machine/Integer.lean ====
section
/-!
DEFINITION. The integer instructions (R95 to R97).
-/
namespace Sys2Proof.Machine

/-- ADD (R96). -/
def execAdd (i : Issue) (s : State) : Host.Outcome State Fault Refusal :=
  perform s (fun s => issue 0x00 false i s (runLocal (intGroup 0x00)))

/-- SUB (R96). -/
def execSub (i : Issue) (s : State) : Host.Outcome State Fault Refusal :=
  perform s (fun s => issue 0x01 false i s (runLocal (intGroup 0x01)))

/-- MUL (R96). -/
def execMul (i : Issue) (s : State) : Host.Outcome State Fault Refusal :=
  perform s (fun s => issue 0x02 false i s (runLocal (intGroup 0x02)))

/-- MULH (R96). -/
def execMulh (i : Issue) (s : State) : Host.Outcome State Fault Refusal :=
  perform s (fun s => issue 0x03 false i s (runLocal (intGroup 0x03)))

/-- MADD (R96). -/
def execMadd (i : Issue) (s : State) : Host.Outcome State Fault Refusal :=
  perform s (fun s => issue 0x04 false i s (runLocal (intGroup 0x04)))

/-- DIV (R96). -/
def execDiv (i : Issue) (s : State) : Host.Outcome State Fault Refusal :=
  perform s (fun s => issue 0x05 false i s (runLocal (intGroup 0x05)))

/-- REM (R96). -/
def execRem (i : Issue) (s : State) : Host.Outcome State Fault Refusal :=
  perform s (fun s => issue 0x06 false i s (runLocal (intGroup 0x06)))

/-- MIN (R96). -/
def execMin (i : Issue) (s : State) : Host.Outcome State Fault Refusal :=
  perform s (fun s => issue 0x07 false i s (runLocal (intGroup 0x07)))

/-- MAX (R96). -/
def execMax (i : Issue) (s : State) : Host.Outcome State Fault Refusal :=
  perform s (fun s => issue 0x08 false i s (runLocal (intGroup 0x08)))

/-- AND (R96). -/
def execAndOp (i : Issue) (s : State) : Host.Outcome State Fault Refusal :=
  perform s (fun s => issue 0x09 false i s (runLocal (intGroup 0x09)))

/-- OR (R96). -/
def execOrOp (i : Issue) (s : State) : Host.Outcome State Fault Refusal :=
  perform s (fun s => issue 0x0A false i s (runLocal (intGroup 0x0A)))

/-- XOR (R96). -/
def execXorOp (i : Issue) (s : State) : Host.Outcome State Fault Refusal :=
  perform s (fun s => issue 0x0B false i s (runLocal (intGroup 0x0B)))

/-- SHL (R96). -/
def execShl (i : Issue) (s : State) : Host.Outcome State Fault Refusal :=
  perform s (fun s => issue 0x0C false i s (runLocal (intGroup 0x0C)))

/-- SHR (R96). -/
def execShr (i : Issue) (s : State) : Host.Outcome State Fault Refusal :=
  perform s (fun s => issue 0x0D false i s (runLocal (intGroup 0x0D)))

/-- CMP (R96). -/
def execCmp (i : Issue) (s : State) : Host.Outcome State Fault Refusal :=
  perform s (fun s => issue 0x0E false i s (runLocal cmpGroup))

/-- PICK (R96). -/
def execPick (i : Issue) (s : State) : Host.Outcome State Fault Refusal :=
  perform s (fun s => issue 0x0F false i s (runLocal pickGroup))

/-- MOV (R96). -/
def execMov (i : Issue) (s : State) : Host.Outcome State Fault Refusal :=
  perform s (fun s => issue 0x10 false i s (runLocal (intGroup 0x10)))

/-- NOT (R96). -/
def execNotOp (i : Issue) (s : State) : Host.Outcome State Fault Refusal :=
  perform s (fun s => issue 0x11 false i s (runLocal (intGroup 0x11)))

/-- CNT1 (R96). -/
def execCnt1 (i : Issue) (s : State) : Host.Outcome State Fault Refusal :=
  perform s (fun s => issue 0x12 false i s (runLocal (intGroup 0x12)))

/-- LZC (R96). -/
def execLzc (i : Issue) (s : State) : Host.Outcome State Fault Refusal :=
  perform s (fun s => issue 0x13 false i s (runLocal (intGroup 0x13)))

end Sys2Proof.Machine
end

