-- ==== Sys2Proof/Machine/Traces.lean ====
section
/-!
DEFINITION. Debug traces (R515): starting and stopping them, and writing their records.
-/
namespace Sys2Proof.Machine

/-- Write a trace's header. -/
def traceHeader (s : Dev) (t : Nat) : Dev :=
  match tget s.traces t with
  | some x =>
    let s := { s with traces := tset s.traces t { x with shown := x.state } }
    (vaWrite s x.inst x.va (leBytes 8 x.written ++ leBytes 1 x.state ++ leBytes 1 x.events ++ leBytes 2 t ++ List.replicate 52 0)).1
  | none => s

/-- Write one record that was formed, and then advance RECORDS; one whose page is gone is lost. DEDUCED: log entry 104. -/
def traceWrite (s : Dev) (q : Nat × Nat × Nat) : Dev :=
  let s := { s with traceQ := s.traceQ.erase q }
  match tget s.traces q.1 with
  | some x =>
    let s := (vaWrite s x.inst (x.va + 64 + 32 * q.2.1) (leBytes 32 q.2.2)).1
    traceHeader { s with traces := tset s.traces q.1 { x with written := q.2.1 + 1 } } q.1
  | none => s

/-- Write what is due of all traces. DEDUCED: log entry 104. -/
def drainTraces (s : Dev) : Dev :=
  let s := s.traceQ.foldl (fun s q => whole s (fun s => traceWrite s q)) s
  (tkeys s.traces).foldl (fun s t => match tget s.traces t with
    | some x => if x.shown = x.state then s else whole s (fun s => traceHeader s t)
    | none => s) s

/-- A trace ends: its records are written and its header shows why. -/
def endTrace (s : Dev) (t state : Nat) : Dev :=
  match tget s.traces t with
  | some x => if x.state ≠ 0 then s else drainTraces { s with traces := tset s.traces t { x with state := state } }
  | none => s

/-- Traces of an instance end (R515, note q of R501). DEDUCED: log entry 104. -/
def endTraces (s : Dev) (inst : Nat) (state : Nat) : Dev :=
  (tkeys s.traces).foldl (fun s t => if (tget s.traces t).any (fun x => x.inst == inst) then endTrace s t state else s) s

/-- An island that a running trace names (R452). -/
def traced (s : Dev) (i : Nat) : Bool := s.traces.any (fun p => p.2.state == 0 && bitOf p.2.islands i)

/-- TRACE_START (R515). DEDUCED: log entry 104. -/
def execTraceStart (c : Cmd) (s : State) : Host.Outcome State Fault Refusal :=
  perform s (fun s => command 0xD1 c s (fun x s =>
    let i := eb x.e 16 1
    let isl := eb x.e 24 8
    let va := eb x.e 32 8
    let len := eb x.e 40 4
    let free := lowest 4 (fun t => !(tget s.traces t).any (fun x => x.state == 0))
    let early := firstCode [(i != x.inst || isl &&& fget s (RF.INS_ISLANDS_ISLANDS x.inst) != isl || decide (len < 4096) || len % 32 != 0, eArg),
      (va % 4096 != 0, eAlign)]
    if early ≠ 0 then (s, .reject early)
    else
      let (s, c1) := vaCheck s i va len 1
      afterChecks s ([(c1 != 0, c1)] ++ namedState s i ++ [(free.isNone, eNoSpace)])
        (let t := free.getD 0
         let s := { s with traces := tset s.traces t { inst := i, events := eb x.e 17 1, islands := isl, va := va, len := len, records := 0,
                                                       written := 0, state := 0, shown := 0 } }
         let s := (setBitsOf 44 isl).foldl requestRun s
         (traceHeader s t, .done { Ret.ok with r0 := t }))))

/-- TRACE_STOP (R515). DEDUCED: log entry 104. -/
def execTraceStop (c : Cmd) (s : State) : Host.Outcome State Fault Refusal :=
  perform s (fun s => command 0xD2 c s (fun x s =>
    let t := eb x.e 16 2
    match tget s.traces t with
    | some y =>
      if y.inst ≠ x.inst then (s, .reject eArg)
      else
        let s := endTrace s t 1
        (s, .done { Ret.ok with r0 := ((tget s.traces t).map (·.records)).getD 0 })
    | none => (s, .reject eArg)))

end Sys2Proof.Machine
end

