-- ==== Sys2Proof/Machine/Confine.lean ====
section
/-!
DEFINITION. Instances: their summary registers, ownership of frames (R398, R405), and the instance reset (R408, R409).
-/
namespace Sys2Proof.Machine

/-! ### Registers that sum up instances (R418) -/

/-- Frames that an instance owns, in increasing physical order. -/
def framesOf (s : Dev) (i : Nat) : List Nat := (s.ins.owner.filter (fun p => p.2 == i)).map (·.1)

/-- Keep INS_FRAMES of an instance. -/
def showFrames (s : Dev) (i : Nat) : Dev :=
  let l := framesOf s i
  let a := (l.filter (fun f => decide (f < 2 ^ 18))).length
  fset (fset s (RF.INS_FRAMES_FRAMES_A i) a) (RF.INS_FRAMES_FRAMES_B i) (l.length - a)

/-- Give an instance its islands. -/
def setIslands (s : Dev) (i m : Nat) : Dev := fset (fset s (RF.INS_ISLANDS_ISLANDS i) m) (RF.INS_STATUS_ISLAND_COUNT i) (popcount 44 m)

/-- Instance 0 holds every island, session index and quota that no other instance holds (R397, R399). -/
def showZero (s : Dev) : Dev :=
  let others := (List.range 32).map (· + 1)
  let sum := fun (f : Nat → Fld) => others.foldl (fun n i => n + fget s (f i)) 0
  let taken := others.foldl (fun n i => n ||| fget s (RF.INS_ISLANDS_ISLANDS i)) 0
  let s := setIslands s 0 ((2 ^ fget s RF.BRG_PKG_LEVEL_ENABLED_COUNT - 1) ^^^ taken)
  let s := fset (fset s (RF.INS_SESSIONS_FIRST 0) 0) (RF.INS_SESSIONS_COUNT 0) (1048576 - sum RF.INS_SESSIONS_COUNT)
  fset (fset s (RF.INS_QUOTA_MAX_BINDINGS 0) (4096 - sum RF.INS_QUOTA_MAX_BINDINGS)) (RF.INS_QUOTA_MAX_RINGS 0) (4096 - sum RF.INS_QUOTA_MAX_RINGS)

/-! ### Frames (R405) -/

/-- A new memory key for an instance (R402): its generation rises and a KEY entry is made. DEDUCED: log entries 64, 92, 117. -/
def newKey (s : Dev) (i : Nat) : Dev :=
  let old := fget s (RF.INS_STATUS_KEY_GEN i)
  let s := fset s (RF.INS_STATUS_KEY_GEN i) (old + 1)
  logAdd s 5 0 0 9 (5 + 2 ^ 8 * i) i old (fget s (RF.INS_STATUS_KEY_GEN i))

/-- Writes of a line of a frame that have not reached its controller, or that a controller combines, are gone. -/
def dropWrites (s : Dev) (fr : Nat) : Dev :=
  { s with mem := { s.mem with writes := s.mem.writes.filter (fun w => w.line / 2 ^ 15 != fr),
                               wcb := tmap s.mem.wcb (fun _ l => l.filter (fun w => w.sec / 2 ^ 16 != fr)) } }

/-- Lines of a frame that lie on a channel that is a hole: zeroing counts them (R247). -/
def holeLines (s : Dev) (fr : Nat) : Nat :=
  4 * ((List.range 8192).filter (fun i => match chanOf s (fr * 2 ^ 21 + 256 * i) with
    | some id => isHole s id
    | none => false)).length

/-- Assign a frame: every sector holds zeros under the owner's key, and then the ownership byte is written. -/
def assignFrame (s : Dev) (i fr : Nat) : Dev :=
  let n := if fget s RF.MEM_TIER_A_STATUS_HOLES = 0 ∧ fget s RF.MEM_TIER_B_STATUS_HOLES = 0 then 0 else holeLines s fr
  let s := if n = 0 then s else bumpBy s Reg.MEM_CNT_HOLE_WRITES n
  { dropWrites s fr with dram := dramZeroFrame s.dram fr, ins := { s.ins with owner := tset s.ins.owner fr i } }

/-- Steps 1 and 2 of INS_MEM release on a frame, where its directory entries can be freed now: its lines leave their slices without being
written back. DEDUCED: log entries 95, 117. -/
def clearFrame (s : Dev) (fr : Nat) : Dev :=
  let s := dropWrites (dropFrameLines (freeEntries s fr) fr false) fr
  { s with dram := { s.dram with held := s.dram.held.filter (fun l => l / 2 ^ 15 != fr) } }

/-- Release a frame. DEDUCED: log entry 95. -/
def releaseFrame (s : Dev) (fr : Nat) : Dev :=
  let s := clearFrame s fr
  { s with ins := { s.ins with owner := tdel s.ins.owner fr } }

/-! ### The instance reset (R408) -/

/-- Commands of the store that are begun, have an opcode, and name an instance. -/
def begunFor (s : Dev) (op i : Nat) : List Nat :=
  (s.fe.store.filter (fun e => e.phase == 1 && entryOp e.entry == op && eb e.entry 16 1 == i)).map (fun e => cmdKey e.inst e.ring e.pos)

/-- What stands in the way of a reset completes first (R409): page moves and invalidations of the instance, and a pending freeze. -/
def settleInstance (s : Dev) (i : Nat) : Dev :=
  let s := (begunFor s 0x95 i).foldl (fun s k => completeKey s k { Ret.ok with status := eState }) s
  let s := (s.mem.moves.filter (fun m => m.inst == i)).foldl finishMove s
  let s := (s.xl.invals.filter (fun v => v.inst == i)).foldl (fun s v =>
    let s := if v.pin then pinLeaves s v else s
    let s := { s with xl := { s.xl with invals := s.xl.invals.erase v } }
    match v.cmd with
    | some k => completeKey (bump s (Reg.TRN_CNT_INVALIDATES i)) k Ret.ok
    | none => s) s
  fset (fset s (RF.TRN_STATUS_INVALIDATES_BUSY i) 0) (RF.TRN_STATUS_PIN_BUSY i) 0

/-- Exports, multicast, communicators and journals of an instance end (step 3). -/
def endFabricOf (s : Dev) (i : Nat) : Dev :=
  let s := { s with ins := { s.ins with exports := tfilter s.ins.exports (fun _ x => x.inst != i) },
                    fab := { s.fab with groups := tfilter s.fab.groups (fun k _ => k / 256 != i),
                                        sends := tfilter s.fab.sends (fun _ o => o.inst != i) } }
  let s := (s.fab.comms.filter (fun p => p.2.inst == i)).foldl (fun s p =>
    let s := (List.range p.2.colls.length).foldl (fun s _ => failColl s p.1 ePeerGone) s
    { s with fab := { s.fab with comms := tdel s.fab.comms p.1 } }) s
  let s := fset (fset s (RF.SES_JNL_STATUS_MODE i) 0) (RF.SES_JNL_STATUS_HELD i) 0
  { s with fe := { s.fe with journals := tdel s.fe.journals i } }

/-- Sessions, rings, bindings, the fault ring, the translation root, BAR2_VA and the boot block of an instance go (step 5). DEDUCED: log entry 46. -/
def clearObjects (s : Dev) (i : Nat) : Dev :=
  let s := ((tkeys s.fe.rings).filter (fun k => k / 4096 == i)).foldl dropRing s
  let s := (s.fe.sessions.filter (fun p => p.2.inst == i)).foldl (fun s p => putSession s p.1 (Session.closed i)) s
  let s := { s with fe := { s.fe with bindings := tfilter s.fe.bindings (fun _ b => b.inst != i),
                                      store := s.fe.store.filter (fun e => e.inst != i) } }
  let s := dropBuffered (showBindings s i) i true 0 0
  let s := { s with xl := { s.xl with insts := tdel s.xl.insts i } }
  let s := regWrite (regWrite s (Reg.FLT_RING i) 0) (Reg.TRN_ROOT i) 0
  [Reg.WCH_BOOT_RING, Reg.WCH_BOOT_CPL, Reg.WCH_BOOT_WATCH, Reg.WCH_BOOT_CTL, Reg.HST_BAR2_VA].foldl (fun s r => winWrite s i r 0) s

/-- Steps 1 and 2, once nothing under way stands before them. DEDUCED: log entry 95. -/
def beginReset (s : Dev) (i : Nat) : Dev :=
  let s := stopWork (fset (settleInstance s i) (RF.INS_STATUS_STATE i) 4) i
  let s := (instCores s i).foldl (fun s c => modCore s c (fun x => { x with wb := [] })) s
  endTraces s i 3

/-- What INS_DESTROY releases after the reset (R406). DEDUCED: log entry 92. -/
def destroyInstance (s : Dev) (i : Nat) : Dev :=
  let s := (framesOf s i).foldl releaseFrame s
  let s := { s with ins := { s.ins with pairs := tfilter s.ins.pairs (fun _ p => p.inst != i) },
                    mem := { s.mem with pools := tdel s.mem.pools i } }
  let s := setIslands (showFrames (showPairs s) i) i 0
  let s := fset (fset s (RF.INS_SESSIONS_FIRST i) 0) (RF.INS_SESSIONS_COUNT i) 0
  let s := fset (fset s (RF.INS_QUOTA_MAX_BINDINGS i) 0) (RF.INS_QUOTA_MAX_RINGS i) 0
  showZero (fset (fset s (RF.INS_STATUS_REACH i) 0) (RF.INS_STATUS_STATE i) 0)

/-- Steps 4 to 6 and what follows them: commands that waited for the reset complete. DEDUCED: log entry 95. -/
def endReset (s : Dev) (i : Nat) : Dev :=
  let frames := framesOf s i
  let s := newKey (frames.foldl clearFrame (endFabricOf s i)) i
  let s := frames.foldl (fun s fr => { s with dram := dramScrambleFrame s.dram fr s.free, free := s.free + 1 }) s
  let s := clearObjects s i
  let after := tgetD s.ins.after i 0
  let un := if after = 2 then insertNat i s.ins.unfilled else s.ins.unfilled.filter (· != i)
  let s := { s with ins := { s.ins with after := tdel s.ins.after i, unfilled := un } }
  let s := fset s (RF.INS_STATUS_STATE i) (if after = 2 then 3 else 1)
  let s := if after = 2 then s else fset s (RF.INS_STATUS_RESTORE_TARGET i) 0
  let off := Reg.INS_CNT_RESETS i
  let old := regRead s off
  let s := bump s off
  let s := logAdd s 5 0 0 15 off i old (regRead s off)
  let s := if after = 1 then destroyInstance s i else s
  let s := (begunFor s 0x94 i ++ begunFor s 0x93 i).foldl (fun s k => completeKey s k Ret.ok) s
  let s := (begunFor s 0x98 i).foldl (fun s k => completeKey s k { Ret.ok with status := eAuth }) s
  if s.ins.stopping.contains i then
    let s := fset s (RF.HST_BIND_STATUS_TDISP i) 0
    { s with
      ins := { s.ins with stopping := s.ins.stopping.filter (· != i) }, out := s.out ++ [.mailbox i .stopped],
      host := { s.host with locked := tdel s.host.locked i } }
  else s

/-- A reset goes on (step 3): it ends when no directory entry of the instance's frames is left; those that are left are recalled.
DEDUCED: log entry 95. -/
def goReset (s : Dev) (i : Nat) : Dev :=
  if insState s i ≠ 4 then s
  else
    let mine := fun (k : Nat) => isLocal k && ownerOf s (k / 2 ^ 15) == i
    let ks := (tkeys s.shore.dir ++ tkeys s.shore.txn).filter mine
    if ks.isEmpty then endReset s i else ks.foldl startFree s

/-- An instance reset is asked for: it begins, or joins the one in progress (R409). DEDUCED: log entry 95. -/
def resetInstance (s : Dev) (i : Nat) : Dev := goReset (if insState s i = 4 then s else beginReset s i) i

/-- Resets in progress go on. DEDUCED: log entry 95. -/
def drainResets (s : Dev) : Dev := (List.range 33).foldl goReset s

end Sys2Proof.Machine
end

