-- ==== Sys2Proof/Machine/Instances.lean ====
section
/-!
DEFINITION. Commands over instances (chapter 15): creation, resources, destruction, reset, freeze and resume.
-/
namespace Sys2Proof.Machine

/-! ### Creation (R397 to R404) -/

/-- Instances 1 to 32. -/
def tenants : List Nat := (List.range 32).map (· + 1)

/-- Sum of a field over instances 1 to 32. -/
def tenantSum (s : Dev) (f : Nat → Fld) : Nat := tenants.foldl (fun n i => n + fget s (f i)) 0

/-- A range of session indices overlaps one that an instance holds. -/
def overlapsRange (s : Dev) (first n : Nat) : Bool :=
  tenants.any (fun i => decide (first < fget s (RF.INS_SESSIONS_FIRST i) + fget s (RF.INS_SESSIONS_COUNT i))
    && decide (fget s (RF.INS_SESSIONS_FIRST i) < first + n))

/-- An island is held by an instance 1 to 32. -/
def heldByTenant (s : Dev) (m : Nat) : Bool := tenants.any (fun i => m &&& fget s (RF.INS_ISLANDS_ISLANDS i) != 0)

/-- INS_CREATE (R403, R404). -/
def execInsCreate (c : Cmd) (s : State) : Host.Outcome State Fault Refusal :=
  perform s (fun s => command 0x90 c s (fun x s =>
    let i := eb x.e 16 1
    let target := bitOf (eb x.e 17 1) 0
    let reach := eb x.e 18 1
    let first := eb x.e 20 4
    let n := eb x.e 24 4
    let mb := eb x.e 28 2
    let mr := eb x.e 30 2
    let m := eb x.e 32 8
    let all := 2 ^ fget s RF.BRG_PKG_LEVEL_ENABLED_COUNT - 1
    afterChecks s [(i == 0 || decide (reach > 2) || n == 0 || decide (n > 1048576) || mr == 0 || m == 0 || m &&& all != m
          || decide (first + n > 1048576) || overlapsRange s first n, eArg),
        (insState s i != 0, eState),
        (heldByTenant s m || s.fe.sessions.any (fun p => decide (first ≤ p.1) && decide (p.1 < first + n)), eBusy),
        (fget s (RF.INS_ISLANDS_ISLANDS 0) &&& m == fget s (RF.INS_ISLANDS_ISLANDS 0)
          || decide (tenantSum s RF.INS_QUOTA_MAX_BINDINGS + mb + fget s (RF.INS_QUOTA_BINDINGS_USED 0) > 4096)
          || decide (tenantSum s RF.INS_QUOTA_MAX_RINGS + mr + fget s (RF.INS_QUOTA_RINGS_USED 0) > 4096), eQuota)]
      (let s := fset (fset (fset s (RF.INS_STATUS_STATE i) (if target then 3 else 1)) (RF.INS_STATUS_RESTORE_TARGET i) (b2n target))
         (RF.INS_STATUS_REACH i) reach
       let s := fset (fset s (RF.INS_SESSIONS_FIRST i) first) (RF.INS_SESSIONS_COUNT i) n
       let s := fset (fset s (RF.INS_QUOTA_MAX_BINDINGS i) mb) (RF.INS_QUOTA_MAX_RINGS i) mr
       let s := showZero (setIslands s i m)
       let un := if target then insertNat i s.ins.unfilled else s.ins.unfilled
       (newKey { s with ins := { s.ins with unfilled := un } } i, .done Ret.ok))))

/-! ### Memory and islands (R404, R405) -/

/-- INS_MEM and INS_ISLANDS find their instance in service; a restore target takes frames until it is filled (R414). DEDUCED: log entry 92. -/
def resizable (s : Dev) (i : Nat) : List (Bool × Nat) :=
  namedState s i ++ [((insState s i == 2 || insState s i == 3) && !s.ins.unfilled.contains i, eState)]

/-- INS_MEM with OP 0, or an OP that is not legal. DEDUCED: log entry 92. -/
def execInsMemAssign (c : Cmd) (s : State) : Host.Outcome State Fault Refusal :=
  perform s (fun s => if otherOp 17 0 c s 0x91 then s else command 0x91 c s (fun x s =>
    let i := eb x.e 16 1
    let first := eb x.e 20 4
    let n := eb x.e 24 4
    afterChecks s ([(eb x.e 17 1 != 0 || n == 0 || !framesMapped s first n || (runOf first n).any (reservedFrame s), eArg)] ++ resizable s i
        ++ [((runOf first n).any (fun fr => ownerOf s fr != 0xFF), eBusy)])
      (showFrames ((runOf first n).foldl (fun s fr => assignFrame s i fr) s) i, .done Ret.ok)))

/-- INS_MEM with OP 1. -/
def execInsMemRelease (c : Cmd) (s : State) : Host.Outcome State Fault Refusal :=
  perform s (fun s => if otherOp 17 1 c s 0x91 then s else command 0x91 c s (fun x s =>
    let i := eb x.e 16 1
    let first := eb x.e 20 4
    let n := eb x.e 24 4
    let (s, mig) := migFrames s i
    afterChecks s ([(eb x.e 17 1 != 1 || n == 0 || !framesMapped s first n || (runOf first n).any (fun fr => !owns s i fr), eArg)] ++ resizable s i
        ++ [((runOf first n).any (fun fr => inPool s fr || mig.contains fr || inExport s fr || holdsRing s fr), eBusy)])
      (showFrames ((runOf first n).foldl releaseFrame s) i, .done Ret.ok)))

/-- Move islands between an instance and instance 0. DEDUCED: log entry 92. -/
def giveIslands (s : Dev) (i m : Nat) : Dev := showZero (setIslands s i m)

/-- INS_ISLANDS with OP 0, or an OP that is not legal. -/
def execInsIslandsAdd (c : Cmd) (s : State) : Host.Outcome State Fault Refusal :=
  perform s (fun s => if otherOp 17 0 c s 0x92 then s else command 0x92 c s (fun x s =>
    let i := eb x.e 16 1
    let m := eb x.e 24 8
    let free := fget s (RF.INS_ISLANDS_ISLANDS 0)
    afterChecks s ([(i == 0 || eb x.e 17 1 != 0 || m == 0 || free &&& m != m, eArg)] ++ resizable s i ++ [(free == m, eQuota)])
      (giveIslands s i (fget s (RF.INS_ISLANDS_ISLANDS i) ||| m), .done Ret.ok)))

/-- INS_ISLANDS with OP 1. -/
def execInsIslandsRemove (c : Cmd) (s : State) : Host.Outcome State Fault Refusal :=
  perform s (fun s => if otherOp 17 1 c s 0x92 then s else command 0x92 c s (fun x s =>
    let i := eb x.e 16 1
    let m := eb x.e 24 8
    let held := fget s (RF.INS_ISLANDS_ISLANDS i)
    afterChecks s ([(i == 0 || eb x.e 17 1 != 1 || m == 0 || held &&& m != m, eArg)] ++ resizable s i
        ++ [(s.fe.bindings.any (fun p => p.2.inst == i && p.2.islands &&& m != 0) || s.disp.any (fun p => p.2.got.any (bitOf m)), eBusy),
            (held == m, eQuota)])
      (giveIslands s i (held ^^^ m), .done Ret.ok)))

/-! ### Destruction and reset (R404, R406, R408, R409) -/

/-- INS_DESTROY. -/
def execInsDestroy (c : Cmd) (s : State) : Host.Outcome State Fault Refusal :=
  perform s (fun s => drainResets (command 0x93 c s (fun x s =>
    let i := eb x.e 16 1
    afterChecks s ([(i == 0, eArg)] ++ namedState s i ++ [(fget s (RF.HST_BIND_STATUS_BOUND i) == 1, eBusy)])
      (beginReset { s with ins := { s.ins with after := tset s.ins.after i 1 } } i, .later))))

/-- INS_RESET: it begins, or joins a reset in progress. -/
def execInsReset (c : Cmd) (s : State) : Host.Outcome State Fault Refusal :=
  perform s (fun s => drainResets (command 0x94 c s (fun x s =>
    let i := eb x.e 16 1
    afterChecks s [(i == 0, eArg), (insState s i == 0, eState)]
      (if insState s i = 4 then s else beginReset s i, .later))))

/-! ### Freeze and resume (R410, R415) -/

/-- INS_FREEZE. -/
def execInsFreeze (c : Cmd) (s : State) : Host.Outcome State Fault Refusal :=
  perform s (fun s => command 0x95 c s (fun x s =>
    let i := eb x.e 16 1
    afterChecks s ([(i == 0, eArg)] ++ namedState s i ++ [(insState s i != 1 || jnlMode s i == 2, eState)])
      (fset s (RF.INS_STATUS_STATE i) 2, .later)))

/-- Nothing of an instance is under way. -/
def quiet (s : Dev) (i : Nat) : Bool :=
  !(s.disp.any (fun p => p.2.inst == i) || s.fe.store.any (fun e => e.inst == i) || s.mem.moves.any (fun m => m.inst == i)
    || s.xl.invals.any (fun v => v.inst == i) || s.fab.sends.any (fun p => p.2.inst == i)
    || s.fab.comms.any (fun p => p.2.inst == i && !p.2.colls.isEmpty))

/-- FREEZE_COMPLETE. -/
def execFreezeComplete (inst : Nat) (s : State) : Host.Outcome State Fault Refusal :=
  perform s (fun s =>
    if insState s inst ≠ 2 ∨ !quiet s inst then s
    else
      let s := fset s (RF.INS_STATUS_STATE inst) 3
      let s := { s with fe := { s.fe with cache := s.fe.cache.filter (fun n => holderOfSession s n != inst) } }
      (begunFor s 0x95 inst).foldl (fun s k => completeKey s k Ret.ok) s)

/-- The pages and the watch line of a ring, translated afresh (R288); a boot ring's are its host's. -/
def retranslate (s : Dev) (k : Nat) (r : Ring) : Dev × (Nat ⊕ Ring) :=
  let i := k / 4096
  if k % 4096 = 0 then (s, .inr r)
  else match vaPages s i r.ringVa (entryBytesOf r.kind * 2 ^ r.sizeLog2) 0 with
    | (s, .inl c) => (s, .inl c)
    | (s, .inr rp) =>
      (match vaPages s i r.cplVa (64 + 32 * 2 ^ r.cplLog2) 1 with
       | (s, .inl c) => (s, .inl c)
       | (s, .inr cp) =>
         (match feTranslate s i r.watchVa 0 with
          | (s, .inr c) => (s, .inl c)
          | (s, .inl w) => (s, .inr { r with pages := rp, cplPages := cp, watch := w })))

/-- Every ring of an instance translated afresh, or the first code. -/
def retranslateAll (s : Dev) : List (Nat × Ring) → Dev × Nat
  | [] => (s, 0)
  | (k, r) :: t =>
    match retranslate s k r with
    | (s, .inl c) => (s, c)
    | (s, .inr r) =>
      let marks := tset (tfilter s.fe.marks (fun _ q => q != k)) (r.watch / 64) k
      retranslateAll (takeWatch { s with fe := { s.fe with rings := tset s.fe.rings k r, marks := marks } } r.watch) t

/-- INS_RESUME: its rings are read again as after a wake (R286). -/
def execInsResume (c : Cmd) (s : State) : Host.Outcome State Fault Refusal :=
  perform s (fun s => command 0x96 c s (fun x s =>
    let i := eb x.e 16 1
    let mine := s.fe.rings.filter (fun p => p.1 / 4096 == i)
    afterChecks s ([(i == 0, eArg)] ++ namedState s i ++ [(insState s i != 3 || s.ins.unfilled.contains i, eState)])
      (match retranslateAll s mine with
       | (s', 0) =>
         (let s := fset (fset s' (RF.INS_STATUS_STATE i) 1) (RF.INS_STATUS_RESTORE_TARGET i) 0
          let s := { s with fe := { s.fe with woken := mine.foldl (fun l p => insertNat p.1 l) s.fe.woken } }
          (if mine.isEmpty then s else fset s RF.WCH_STATUS_FE_AWAKE 1, .done Ret.ok))
       | (s', code) => ({ s with blocked := s'.blocked }, .done { Ret.ok with status := code }))))

/-- VF_FLR (R388, R393): a function-level reset of a VF; `ide` says that the request came on the stream bound at lock. -/
def execVfFlr (fn : Nat) (ide : Bool) (s : State) : Host.Outcome State Fault Refusal :=
  perform s (fun s => whole s (fun s =>
    if fn = 0 ∨ fn > 32 ∨ !serving s then s
    else
      let t := fget s (RF.HST_BIND_STATUS_TDISP fn)
      let own := ide && (tget s.host.locked fn).any (fun n => s.host.streams.contains n)
      if (t = 1 ∨ t = 2) ∧ !own then tdispError (bump s Reg.HST_CNT_IDE_FAILS) fn
      else if insState s fn = 0 then s else resetInstance s fn))

end Sys2Proof.Machine
end

