-- ==== Sys2Proof/Machine/HostPort.lean ====
section
/-!
DEFINITION. The CXL host port (chapter 14): departure of hosts, link training, bindings, CXL.mem, snoops and grants, BAR2.
-/
namespace Sys2Proof.Machine

/-! ### Registers of the port -/

/-- The CXL component registers (R375), the HDM decoder capability laid out as CXL 3.1 lays it out: capability and global control, then 32 B for each of
four decoders: base low and high, size low and high, control, DPA skip low and high. Where the capability lies is PRESUMED. PRESUMED: log entry 87. -/
def hdmBase : Nat := 0x1C1200

/-- A 32-bit register of the component block. PRESUMED: log entry 87. -/
def comp32 (s : Dev) (off : Nat) : Nat := regRead s (off / 8 * 8) / 2 ^ (32 * (off % 8 / 4)) % 2 ^ 32

/-- Write a 32-bit register of the component block. -/
def setComp32 (s : Dev) (off v : Nat) : Dev := regWrite s (off / 8 * 8) (setBits (regRead s (off / 8 * 8)) (32 * (off % 8 / 4)) 32 v)

/-- A pair of 32-bit registers as an address or size: bits [63:28]. PRESUMED: log entry 87. -/
def comp64 (s : Dev) (off : Nat) : Nat := comp32 s off / 2 ^ 28 * 2 ^ 28 + 2 ^ 32 * comp32 s (off + 4)

/-- Registers of decoder n. PRESUMED: log entry 87. -/
def hdmDec (n : Nat) : Nat := hdmBase + 0x10 + 0x20 * n

/-- A decoder is committed. -/
def hdmCommitted (s : Dev) (n : Nat) : Bool := bitOf (comp32 s (hdmDec n + 0x10)) 10

/-- DPA_BASE of decoder n: skips and sizes of those before it, and its own skip. -/
def dpaBase (s : Dev) (n : Nat) : Nat :=
  (List.range n).foldl (fun a m => a + comp64 s (hdmDec m + 8)) ((List.range (n + 1)).foldl (fun a m => a + comp64 s (hdmDec m + 0x14)) 0)

/-- Local physical address that a committed decoder gives a host physical address (R384). -/
def hdmMap (s : Dev) (hpa : Nat) : Option Nat :=
  (lowest 4 (fun n => hdmCommitted s n && decide (comp64 s (hdmDec n) ≤ hpa) && decide (hpa < comp64 s (hdmDec n) + comp64 s (hdmDec n + 8)))).map
    (fun n => dpaBase s n + (hpa - comp64 s (hdmDec n)))

/-- Decoders come out of use. DEDUCED: log entry 88. -/
def dropDecoders (s : Dev) : Dev := (List.range 4).foldl (fun s n => setComp32 s (hdmDec n + 0x10) 0) s

/-- No IDE stream is secure. DEDUCED: log entry 88. -/
def dropIde (s : Dev) : Dev :=
  let s := fset (fset s RF.HST_STATUS_IDE_LINK 0) RF.HST_STATUS_IDE_STREAMS 0
  { s with host := { s.host with streams := [] } }

/-- Show the selective streams that are secure. -/
def showStreams (s : Dev) : Dev := fset s RF.HST_STATUS_IDE_STREAMS s.host.streams.length

/-- HST_INST_STATUS of a function's window (R392), which shows its binding. DEDUCED: log entry 88. -/
def instStatus (s : Dev) (fn : Nat) : Nat := regRead s (Reg.HST_BIND_STATUS fn) % 16 + 2 ^ 8 * vectorsOf fn

/-! ### Bindings (R378 to R381) -/

/-- A binding is formed. DEDUCED: log entry 88. -/
def formBinding (s : Dev) (h : Nat) (coherent : Bool) : Dev :=
  let s := fset (fset s (RF.HST_BIND_STATUS_BOUND h) 1) (RF.HST_BIND_STATUS_COHERENT h) (b2n coherent)
  fset s (RF.HST_BIND_STATUS_GENERATION h) (fget s (RF.HST_BIND_STATUS_GENERATION h) + 1)

/-- Instance that a core runs for. -/
def instanceOn (s : Dev) (core : Nat) : Option Nat := ((coreOf s core).disp.bind (tget s.disp)).map (·.inst)

/-- Accesses of an instance to host memory that are in flight end with E_PEER_GONE (R206, R381). -/
def endHostOf (s : Dev) (i : Nat) : Dev :=
  let mine := fun (c sec : Nat) => inHost (32 * sec) && instanceOn s c == some i
  let s := (s.net.filter (fun p => mine p.2.core p.2.sec)).foldl (fun s p => failReq s p.1 p.2 ePeerGone) s
  (tkeys s.cores).foldl (fun s c =>
    modCore s c (fun x => (x.wb.filter (fun w => mine c w.sec)).foldl (fun x w => loseWrite { x with wb := x.wb.erase w } w ePeerGone) x)) s

/-- Translations of an instance into host memory are dropped. -/
def dropHostTlb (s : Dev) (i : Nat) : Dev :=
  let gone := fun (t : Tlb) => t.inst == i && inHost t.loc
  { s with cores := tmap s.cores (fun _ c => { c with tlb := c.tlb.filter (fun p => !gone p.2) }),
           xl := { s.xl with l2 := s.xl.l2.filter (fun p => !gone p.2) } }

/-- The effects of R381 on a function. -/
def unbindFn (s : Dev) (fn : Nat) : Dev :=
  let s := { s with trust := { s.trust with conns := tdel s.trust.conns fn } }
  dropHostTlb (endHostOf (fset s (RF.HST_BIND_STATUS_BOUND fn) 0) fn) fn

/-- A HOST entry (R436): OLD is HST_BIND_STATUS before; NEW is HST_BIND_STATUS, lines lost dirty, host lines lost, the first line lost.
DEDUCED: log entry 88. -/
def logHost (s : Dev) (h old lost hostLost first : Nat) : Dev :=
  logAdd s 5 0 0 7 h (if h = 0 then 0xFF else h) old (pack8 [regRead s (Reg.HST_BIND_STATUS h), lost, hostLost, first])

/-- This device's lines of host memory are dropped (step 3 of R389): those held in D or pending ownership are counted. -/
def dropHostLines (s : Dev) : Dev × Nat :=
  let mine := s.shore.lines.filter (fun p => placeOf s p.1 == .host)
  let lost := (mine.filter (fun p => p.2.hold == .d || p.2.hold == .pending)).length
  let s := mine.foldl (fun s p => if p.2.hold = .pending then s else dropLine s p.1) s
  (bumpBy s Reg.HST_CNT_LOST_HOST_LINES lost, lost)

/-- Functions bound to the coherent host. -/
def coherentFns (s : Dev) : List Nat := (List.range 33).filter (fun h => fget s (RF.HST_BIND_STATUS_BOUND h) == 1 && coherentBinding s h)

/-- The coherent host departs (R389). -/
def hostDepart (s : Dev) : Dev :=
  if fget s (RF.HST_BIND_STATUS_BOUND 0) = 0 then s
  else
    let old := regRead s (Reg.HST_BIND_STATUS 0)
    let fns := coherentFns s
    let s := fns.foldl (fun s h => fset s (RF.HST_BIND_STATUS_BOUND h) 0) (fset s RF.HST_STATUS_HOST_VALID 0)
    let s := fset s (RF.SHC_EPOCH_VALID 64) 0
    let (s, lost, first) := reclaimAgent s 64
    let (s, hostLost) := dropHostLines s
    let s := endAccesses s (atHost s)
    let s := fns.foldl unbindFn s
    logHost (bump s Reg.HST_CNT_HOST_DEPARTS) 0 old lost hostLost first

/-- Binding 0 is formed with a new epoch (R231, R378). -/
def hostArrive (s : Dev) (wide : Bool) : Dev :=
  if fget s (RF.HST_BIND_STATUS_BOUND 0) = 1 then s
  else
    let old := regRead s (Reg.HST_BIND_STATUS 0)
    let s := fset (formBinding s 0 true) RF.HST_STATUS_HOST_VALID 1
    let s := fset (fset s (RF.SHC_EPOCH_EPOCH 64) (fget s (RF.SHC_EPOCH_EPOCH 64) + 1)) (RF.SHC_EPOCH_VALID 64) 1
    logHost { s with host := { s.host with wide := wide } } 0 old 0 0 0

/-- HOST_BIND (R379). `placed` is the fabric manager's binding request: the VF lies in the coherent host's virtual hierarchy. DEDUCED: log entry 92. -/
def execHostBind (c : Cmd) (placed : Bool) (s : State) : Host.Outcome State Fault Refusal :=
  perform s (fun s => command 0x80 c s (fun x s =>
    let fn := eb x.e 16 1
    let coherent := bitOf (eb x.e 17 1) 0
    let n := eb x.e 18 1
    let b0 := eb x.e 24 8
    let l0 := eb x.e 32 8
    let b1 := eb x.e 40 8
    let l1 := eb x.e 48 8
    let bad := fun (b l : Nat) => b % 4096 != 0 || (l + 1) % 4096 != 0 || decide (l < b) || decide (l ≥ 2 ^ 52)
    let t := fget s (RF.HST_BIND_STATUS_TDISP fn)
    afterChecks s [(fn == 0 || decide (fn > 32) || n == 0 || decide (n > 2) || bad b0 l0 || (if n = 2 then bad b1 l1 else b1 != 0 || l1 != 0)
          || (x.origin == 3 && coherent && !placed), eArg),
        (t == 1 || t == 2, eState), (fget s (RF.HST_BIND_STATUS_BOUND fn) == 1, eBusy)]
      (let s := formBinding s fn coherent
       let s := regWrite (regWrite s (Reg.HST_BIND_BASE0 fn) b0) (Reg.HST_BIND_LIMIT0 fn) l0
       (regWrite (regWrite s (Reg.HST_BIND_BASE1 fn) b1) (Reg.HST_BIND_LIMIT1 fn) l1, .done Ret.ok))))

/-- Host accesses and lines of one function's own host end with its binding. -/
def unbindOwn (s : Dev) (fn : Nat) : Dev :=
  let s := if coherentBinding s fn then s else endAccesses s (fun loc => inHost loc && placeOf s (loc / 64) == .io fn)
  unbindFn s fn

/-- HOST_UNBIND (R379, R381). -/
def execHostUnbind (c : Cmd) (s : State) : Host.Outcome State Fault Refusal :=
  perform s (fun s => command 0x81 c s (fun x s =>
    let fn := eb x.e 16 1
    let t := fget s (RF.HST_BIND_STATUS_TDISP fn)
    afterChecks s [(fn == 0 || decide (fn > 32), eArg), (t == 1 || t == 2 || fget s (RF.HST_BIND_STATUS_BOUND fn) == 0, eState)]
      (unbindOwn s fn, .done Ret.ok)))

/-! ### Link training and departure (R370 to R373, R389, R390) -/

/-- USABLE_GBPS of R372. -/
def usableGbps (wide : Bool) (speed width : Nat) : Nat :=
  let x16 := if wide then (if speed = 4 then 121 else if speed = 3 then 60 else 0) else if speed = 3 then 57 else 0
  if wide ∧ speed = 4 then (if width = 16 then 121 else if width = 8 then 60 else 30)
  else if x16 = 60 then (if width = 16 then 60 else if width = 8 then 30 else 15)
  else if x16 = 57 then (if width = 16 then 57 else if width = 8 then 28 else 14)
  else 0

/-- A combination that R370 lists. -/
def linkLegal (t : LinkUp) : Bool :=
  decide (t.link < 2) || ((t.width == 4 || t.width == 8 || t.width == 16)
    && (if t.flit256 then t.speed == 3 || t.speed == 4 else !t.lopt && decide (1 ≤ t.speed) && decide (t.speed ≤ 3)))

/-- The port's figures. -/
def showLink (s : Dev) (t : LinkUp) : Dev :=
  let up := decide (t.link ≥ 2)
  let v := fun (n : Nat) => if up then n else 0
  let s := fset (fset (fset s RF.HST_STATUS_LINK t.link) RF.HST_STATUS_FLIT256 (v (b2n t.flit256))) RF.HST_STATUS_LOPT (v (b2n t.lopt))
  let s := fset (fset (fset s RF.HST_STATUS_SPEED (v t.speed)) RF.HST_STATUS_WIDTH (v t.width)) RF.HST_STATUS_USABLE_GBPS (v (usableGbps t.flit256 t.speed t.width))
  fset (fset s RF.HST_STATUS_CACHE_EN (b2n (t.link == 3))) RF.HST_STATUS_MEM_EN (b2n (t.link == 3 && t.flit256))

/-- LINK_TRAINING (R371 to R373, R378): the port trains from stage 8 on. A retrain in another flit mode, or without CXL, is a departure of the coherent
host. DEDUCED: log entry 115. -/
def execLinkTraining (t : LinkUp) (s : State) : Host.Outcome State Fault Refusal :=
  perform s (fun s =>
    if fget s RF.BRG_START_STATUS_STAGE < 8 ∨ fget s RF.BRG_ERR_STATUS_FATAL = 1 ∨ !linkLegal t then s
    else
      let s := if t.link = 2 ∨ (t.link = 3 ∧ t.flit256 ≠ s.host.wide) then hostDepart s else s
      let s := if t.link ≠ 3 ∨ !t.flit256 then dropIde s else s
      let s := if t.link = 3 ∧ !t.flit256 then dropDecoders s else s
      let s := showLink s t
      let s := if t.link < 2 then s else
        { s with ins := { s.ins with bar0 := t.bars.foldl (fun b p => tset b p.1 p.2.1) s.ins.bar0,
                                     bar2 := t.bars.foldl (fun b p => tset b p.1 p.2.2) s.ins.bar2 } }
      if t.link = 3 then hostArrive s t.flit256 else s)

/-- LINK_RETRY (R390): a flit is sent again; where the retries are exhausted, the link retrains. -/
def execLinkRetry (exhausted : Bool) (s : State) : Host.Outcome State Fault Refusal :=
  perform s (fun s =>
    if fget s RF.HST_STATUS_LINK < 2 then s
    else if exhausted then
      (let old := regRead s (Reg.HST_BIND_STATUS 0)
       logHost (showLink s ⟨1, false, false, 0, 0, []⟩) 0 old 0 0 0)
    else bump s Reg.HST_CNT_LINK_RETRIES)

/-- LINK_DOWN_TIMEOUT (R389): the link has stayed down for GONE_MS. DESIGN CHOICE: log entry 4. -/
def execLinkDownTimeout (s : State) : Host.Outcome State Fault Refusal :=
  perform s (fun s => if fget s RF.HST_STATUS_LINK < 2 then hostDepart s else s)

/-- HOT_RESET (R389): a hot reset, link disable or function-level reset of the PF from upstream. DEDUCED: log entry 88. -/
def execHotReset (s : State) : Host.Outcome State Fault Refusal :=
  perform s (fun s => dropDecoders (dropIde (hostDepart s)))

/-- CXLIO_COMPLETION_TIMEOUT (R389): a completion from the host of a VF that is not coherent has not come for 50 ms. DESIGN CHOICE: log entry 4. -/
def execCxlioCompletionTimeout (fn : Nat) (s : State) : Host.Outcome State Fault Refusal :=
  perform s (fun s =>
    if fn = 0 ∨ fn > 32 ∨ fget s (RF.HST_BIND_STATUS_BOUND fn) = 0 ∨ coherentBinding s fn then s
    else
      let old := regRead s (Reg.HST_BIND_STATUS fn)
      logHost (bump (unbindOwn s fn) Reg.HST_CNT_HOST_DEPARTS) fn old 0 0 0)

/-! ### CXL.mem (R384 to R386) -/

/-- A refusal of R384: counted, and the first of each second entered in the log. DEDUCED: log entry 115. -/
def memRefused (s : Dev) : Dev :=
  if (match s.host.lastRefusal with
    | some t => decide (s.time.hw < t + ticksPerSecond)
    | none => false) then bump s Reg.HST_CNT_MEM_REFUSED
  else logEvent { s with host := { s.host with lastRefusal := some s.time.hw } } Reg.HST_CNT_MEM_REFUSED 0

/-- A frame that the coherent host may reach. -/
def memAdmitted (s : Dev) (fr : Nat) : Dev × Bool :=
  if !owns s 0 fr then (s, false)
  else
    let (s, mig) := migFrames s 0
    (s, !mig.contains fr)

/-- A CXL.mem access: what it does on the line it reaches, or its refusal. One that no decoder covers is unsupported. -/
def cxlMem (s : Dev) (hpa : Nat) (refuse : Dev → Dev) (go : Dev → Nat → Dev) : Dev :=
  if !serving s || fget s RF.HST_STATUS_MEM_EN == 0 || fget s RF.HST_STATUS_HOST_VALID == 0 then s
  else whole s (fun s =>
    match hdmMap s hpa with
    | none => { s with out := s.out ++ [.unsupported 0] }
    | some pa =>
      (match memAdmitted s (pa / 2 ^ 21) with
       | (s, true) => go s (pa / 64)
       | (s, false) => refuse (memRefused s)))

/-- Poisoned data of which nothing else is said. DESIGN CHOICE: log entry 7. -/
def poisonedLine (s : Dev) : Dev × LineData :=
  let (v, s) := takeFree s
  (s, ⟨BitVec.ofNat 512 v, 3⟩)

/-- CXL_MEM_READ. -/
def execCxlMemRead (hpa : Nat) (want : MemRd) (s : State) : Host.Outcome State Fault Refusal :=
  perform s (fun s => cxlMem s hpa
    (fun s =>
      let (s, d) := poisonedLine s
      countSent { s with out := s.out ++ [.memData (hpa / 64) false (some d)] } (some d))
    (fun s k => match want with
      | .shared => arriveAgent s k ⟨64, 0, 0, 0⟩
      | .exclusive => arriveAgent s k ⟨64, 0, 1, 0⟩
      | .ownOnly => arriveAgent s k ⟨64, 0, 2, 0⟩
      | .current =>
        (match homeAccess s k false with
         | (s, false) => { s with blocked := s.blocked ++ [(k, 0)] }
         | (s, true) => (match lineNow s k with
           | (s, some l) =>
             let d : LineData := ⟨l.data, l.poison⟩
             let s := if l.poison = 0 then s else bump (putLine s k { l with uncorr := 0 }) Reg.SHC_CNT_POISON_READS
             settleBypass (countSent { s with out := s.out ++ [.memData k false (some d)] } (some d)) k
           | (s, none) => s))))

/-- A line of the host's own copy, before its write: the host no longer holds it. -/
def releaseHostCopy (s : Dev) (k : Nat) : Dev :=
  match dirAt s k with
  | none => s
  | some e =>
    if !(agentsOf e).contains 64 then s
    else setEntry s k (reclaimEntry e 64)

/-- CXL_MEM_WRITE: masked bytes of a line with the poison of its sectors, and what the host keeps of the line. It is ordered behind a BIRSP that is
awaited (R385). -/
def execCxlMemWrite (hpa : Nat) (mask : BitVec 64) (d : LineData) (keep : MemKeep) (s : State) : Host.Outcome State Fault Refusal :=
  perform s (fun s => cxlMem s hpa (fun s => { s with out := s.out ++ [.memDone (hpa / 64)] })
    (fun s k =>
      if thas s.shore.txn k then { s with blocked := s.blocked ++ [(k, 1)] }
      else
        let had := match dirAt s k with
          | some e => (agentsOf e).contains 64
          | none => false
        let s := releaseHostCopy s k
        let put := fun (s : Dev) (h : Nat) =>
          let m := BitVec.ofNat 32 (mask.toNat / 2 ^ (32 * h))
          if m = 0 then s else (acceptWrite s (2 * k + h) m (halfOf d.data h) (d.poison.getLsbD h) false true).1
        let s := put (put s 0) 1
        let s := match keep with
          | .none => s
          | .shared => if had && s.blocked.isEmpty then setEntry s k (some (soleEntry .sole 64 0 0)) else s
          | .owned => if had && s.blocked.isEmpty then setEntry s k (some (soleEntry .dirty 64 0 0)) else s
        { s with out := s.out ++ [.memDone k] }))

/-- BIRSP (R385): the host answers a back-invalidate snoop of a line, with data where it held it dirty. -/
def execBirsp (line : Nat) (data : Option LineData) (s : State) : Host.Outcome State Fault Refusal :=
  perform s (fun s => answerTxn s line 64 data false)

/-- BI_TIMEOUT (R386): the coherent host departs, and the snoop completes as if it had held no copy. DESIGN CHOICE: log entry 4. -/
def execBiTimeout (line : Nat) (s : State) : Host.Outcome State Fault Refusal :=
  perform s (fun s =>
    if (tget s.shore.txn line).any (fun t => t.waiting.contains 64) then hostDepart (bump s Reg.HST_CNT_BI_TIMEOUTS) else s)

/-! ### Snoops and grants (R382, R383) -/

/-- A line of the coherent host, by its number there. -/
def hostLine (n : Nat) : Nat := hostBase / 64 + n

/-- A host snoop of a line: 0 for data, 1 invalidating, 2 for its present data. One that meets an ownership request without its GO finds no copy.
DEDUCED: log entry 89. -/
def snoop (s : Dev) (n kind : Nat) : Dev :=
  let k := hostLine n
  if !serving s || fget s RF.HST_STATUS_HOST_VALID == 0 then s
  else
    let rsp := fun (s : Dev) (kept : Bool) (d : Option LineData) => countSent { s with out := s.out ++ [.snoopRsp n kept d] } d
    match lineAt s k with
    | none => rsp s false none
    | some l =>
      match l.hold with
      | .pending => rsp s false none
      | h =>
        let d : Option LineData := if h = .d then some ⟨l.data, l.poison⟩ else none
        if kind = 1 then rsp (sendWake (dropLine s k) k) false d
        else if kind = 0 then rsp (putLine s k { l with hold := .s }) true d
        else rsp s true d

/-- SNP_DATA. DEDUCED: log entry 89. -/
def execSnpData (line : Nat) (s : State) : Host.Outcome State Fault Refusal := perform s (fun s => snoop s line 0)
/-- SNP_INV. -/
def execSnpInv (line : Nat) (s : State) : Host.Outcome State Fault Refusal := perform s (fun s => snoop s line 1)
/-- SNP_CUR. -/
def execSnpCur (line : Nat) (s : State) : Host.Outcome State Fault Refusal := perform s (fun s => snoop s line 2)

/-- HOST_GO (R383): GO and data for a request of this device; `sole` says that a read is granted exclusively. -/
def execHostGo (line : Nat) (sole : Bool) (data : LineData) (s : State) : Host.Outcome State Fault Refusal :=
  perform s (fun s => if serving s ∧ fget s RF.HST_STATUS_HOST_VALID = 1 then takeGrant s (hostLine line) (if sole then .x else .s) .x (some data) else s)

/-! ### BAR2 (R376, R388) -/

/-- How a CXL.io access to a function's BAR goes on (R388): 0 it is performed, 1 unsupported, 2 dropped, 3 all ones. -/
def barGate (s : Dev) (fn : Nat) (ide : Bool) : Dev × Nat :=
  let t := if fn = 0 then 0 else fget s (RF.HST_BIND_STATUS_TDISP fn)
  if t = 3 then (s, 3)
  else match vfGate s fn ide with
    | (s, true) => (s, 0)
    | (s, false) => (s, if fget s (RF.HST_BIND_STATUS_TDISP fn) = 3 then 2 else 1)

/-- Location of an address under a leaf with TARGET 0 that grants a right. -/
def barTranslate (s : Dev) (i va access : Nat) : Dev × Option Nat :=
  match feTranslate s i va access with
  | (s, .inr _) => (s, none)
  | (s, .inl loc) =>
    (match leafAt s i va with
     | (s, some (_, e, _)) => (s, if eTarget e = 0 then some loc else none)
     | (s, none) => (s, none))

/-- Locations of the 4 KiB pages that an access touches. -/
def barPages (s : Dev) (i va access : Nat) : Nat → Dev × Option (List Nat)
  | 0 => (s, some [])
  | n + 1 =>
    match barTranslate s i va access with
    | (s, none) => (s, none)
    | (s, some loc) => (match barPages s i (va / 4096 * 4096 + 4096) access n with
      | (s, some l) => (s, some (loc / 4096 * 4096 :: l))
      | (s, none) => (s, none))

/-- Pieces of an access within its pages: location, length. -/
def barPieces (pages : List Nat) (off n : Nat) : List (Nat × Nat) :=
  match pages with
  | [] => []
  | p :: t =>
    let m := min n (4096 - off)
    (p + off, m) :: barPieces t 0 (n - m)

/-- A BAR2 access whose pages all translate. DEDUCED: log entry 89. -/
def barPerform (s : Dev) (fn : Nat) (pieces : List (Nat × Nat)) (write : Bool) (data : List Byte) (poison : Bool) : Dev :=
  if write then
    (pieces.foldl (fun (p : Dev × List Byte) q => (putBytes p.1 q.1 (p.2.take q.2) poison (q.2 / 32 + 2), p.2.drop q.2)) (s, data)).1
  else
    let (s, b, c) := pieces.foldl (fun (p : Dev × List Byte × Nat) q =>
      let (s, b, c) := devRead p.1 q.1 q.2
      (s, p.2.1 ++ b, if p.2.2 ≠ 0 then p.2.2 else c)) (s, [], 0)
    let s := if c = 0 then s else bump s Reg.HST_CNT_POISON_SENT
    { s with out := s.out ++ [.barData fn b (c != 0)] }

/-- A refused BAR2 access (R376). DESIGN CHOICE: log entry 7. -/
def barRefuse (s : Dev) (fn n : Nat) (write : Bool) : Dev :=
  let s := bump s Reg.HST_CNT_BAR2_REFUSED
  if write then s
  else
    let (v, s) := takeFree s
    bump { s with out := s.out ++ [.barData fn (leBytes n v) true] } Reg.HST_CNT_POISON_SENT

/-- BAR2_ACCESS: a host's write of `data`, or read of `n` bytes, at an offset in a function's BAR2. -/
def execBar2Access (fn off n : Nat) (write : Bool) (data : List Byte) (poison ide : Bool) (s : State) : Host.Outcome State Fault Refusal :=
  perform s (fun s =>
    let n := if write then data.length else n
    if fn > 32 ∨ n = 0 ∨ off + n > 2 ^ 36 ∨ !serving s ∨ !hasHost s fn ∨ fget s RF.HST_STATUS_LINK = 2 then s
    else whole s (fun s =>
      match barGate s fn ide with
      | (s, 0) =>
        let va := bar2Va s fn + off
        if insState s fn = 2 ∨ insState s fn = 3 then barRefuse s fn n write
        else (match barPages s fn va (if write then 1 else 0) ((va + n - 1) / 4096 - va / 4096 + 1) with
          | (s', some pages) => barPerform s' fn (barPieces pages (va % 4096) n) write data poison
          | (s', none) => barRefuse { s with blocked := s'.blocked } fn n write)
      | (s, 1) => { s with out := s.out ++ [.unsupported fn] }
      | (s, 3) => if write then s else { s with out := s.out ++ [.barData fn (List.replicate n 0xFF) false] }
      | (s, _) => s))

/-! ### MSI-X (R377) -/

/-- Mask or unmask a vector: unmasking sends its pending message. DESIGN CHOICE: log entry 90. -/
def setMask (s : Dev) (fn vec : Nat) (masked : Bool) : Dev :=
  if fn > 32 ∨ vec ≥ vectorsOf fn then s
  else
    let k := 64 * fn + vec
    let v := tgetD s.host.msix k ⟨true, false⟩
    let s := { s with host := { s.host with msix := tset s.host.msix k ⟨masked, v.pending && masked⟩ } }
    if v.pending && !masked then sendMsix s fn vec else s

/-- MSIX_VECTOR_UNMASK. DESIGN CHOICE: log entry 90. -/
def execMsixVectorUnmask (fn vec : Nat) (ide : Bool) (s : State) : Host.Outcome State Fault Refusal :=
  perform s (fun s => if fn > 32 ∨ !serving s then s else match vfGate s fn ide with
    | (s, true) => setMask s fn vec false
    | (s, false) => s)

end Sys2Proof.Machine
end

