-- ==== Sys2Proof/Machine/Mailboxes.lean ====
section
/-!
DEFINITION. DOE mailboxes (R387), SPDM responders (R423 to R428), TDISP and IDE (R388, R390).
-/
namespace Sys2Proof.Machine

/-! ### SPDM (R425 to R428) -/

/-- A connection: 0 to 32 are the functions' mailboxes, 64 and 65 the management buses. -/
def connAt (s : Dev) (n : Nat) : SpdmConn := tgetD s.trust.conns n ⟨none, false, false⟩

/-- Change a connection. -/
def setConn (s : Dev) (n : Nat) (c : SpdmConn) : Dev := { s with trust := { s.trust with conns := tset s.trust.conns n c } }

/-- Answer on a connection. DEDUCED: log entry 115. -/
def reply (s : Dev) (n : Nat) (r : Reply) : Dev := { s with out := s.out ++ [.mailbox n r] }

/-- A connection reaches a responder: a mailbox of a function with a host once the module is READY, a bus in every state but RECOVERY (R431, R506). -/
def connOpen (s : Dev) (n : Nat) : Bool :=
  if n ≤ 32 then serving s && hasHost s n && (n == 0 || fget s RF.HST_STATUS_LINK != 2)
  else (n == 64 || n == 65) && (s.start.primary || s.start.secondary) && fget s RF.BRG_START_STATUS_RECOVERY == 0

/-- A request of SPDM: every one is answered, before boot lock with ResponseNotReady (R423). Each but PQ_COSIGN ends what it could co-sign (R427).
DEDUCED: log entries 111, 115. -/
def spdm (s : Dev) (n : Nat) (f : Dev → Dev) : Dev :=
  if !connOpen s n then s
  else if fget s RF.SEC_STATUS_BOOT_LOCK = 0 then reply s n .notReady
  else f (setConn s n { connAt s n with signed := none })

/-- A response with an RSA signature over the nonce and the content (R427). DESIGN CHOICE: log entry 14. DEDUCED: log entry 111. -/
def signedReply (s : Dev) (n : Nat) (nonce content : List Byte) (r : List Byte → Reply) : Dev :=
  let c := nonce ++ content
  reply (setConn s n { connAt s n with signed := some c }) n (r (Config.signature 0 c))

/-- GET_CERTIFICATE (R425): part of the chain of slot 0 or 1. DESIGN CHOICE: log entry 14. -/
def execGetCertificate (conn slot off n : Nat) (s : State) : Host.Outcome State Fault Refusal :=
  perform s (fun s => spdm s conn (fun s =>
    reply s conn (if slot > 1 ∨ off > (Config.chain slot).length then .invalid else .certificate (((Config.chain slot).drop off).take n))))

/-- CHALLENGE (R426): the identity key signs; its chain is slot 0. -/
def execSpdmChallenge (conn slot : Nat) (nonce : List Byte) (s : State) : Host.Outcome State Fault Refusal :=
  perform s (fun s => spdm s conn (fun s =>
    if slot ≠ 0 then reply s conn .invalid
    else
      let content := sha512 (Config.chain 0)
      signedReply s conn nonce content (.challengeAuth content)))

/-- A measurement register. -/
def measOf (s : Dev) (n : Nat) : List Byte := ((List.range 8).map (fun j => leBytes 8 (regRead s (Reg.SEC_MEAS n j)))).flatten

/-- The instance configuration digest (R418). -/
def configDigest (s : Dev) (i : Nat) : List Byte :=
  sha512 (leBytes 8 i ++ leBytes 8 (fget s (RF.INS_STATUS_REACH i) * 2 ^ 4) ++ leBytes 8 (fget s (RF.INS_ISLANDS_ISLANDS i))
    ++ leBytes 8 (regRead s (Reg.INS_SESSIONS i))
    ++ leBytes 8 (fget s (RF.INS_QUOTA_MAX_BINDINGS i) + 2 ^ 32 * fget s (RF.INS_QUOTA_MAX_RINGS i))
    ++ leBytes 8 (regRead s (Reg.INS_FRAMES i)) ++ leBytes 8 (regRead s (Reg.HST_BIND_STATUS i) % 4))

/-- Indices of the measurement blocks that a connection answers for (R428). -/
def blockIndices (conn : Nat) : List Nat :=
  (List.range 16).map (· + 1) ++ (if 1 ≤ conn ∧ conn ≤ 32 then [0x40, 0x41] else []) ++ [0x42]

/-- A measurement block. -/
def blockOf (s : Dev) (conn idx : Nat) : List Byte :=
  if idx ≤ 16 then measOf s (idx - 1)
  else if idx = 0x40 then configDigest s conn
  else if idx = 0x41 then leBytes 8 (regRead s (Reg.INS_STATUS conn))
  else leBytes 8 (fget s RF.SEC_STATUS_IMAGE_SVN) ++ leBytes 8 (fget s RF.SEC_STATUS_FUSED_SVN)

/-- GET_MEASUREMENTS (R426, R428): block `index`, 0xFF for all of them, or 0 for their number. A request without a signature is not supported. -/
def execGetMeasurements (conn index : Nat) (signed : Bool) (nonce : List Byte) (s : State) : Host.Outcome State Fault Refusal :=
  perform s (fun s => spdm s conn (fun s =>
    let all := blockIndices conn
    if !signed || !(index == 0 || index == 0xFF || all.contains index) then reply s conn .invalid
    else
      let part := if index = 0 then [] else if index = 0xFF then all else [index]
      let content := BitVec.ofNat 8 all.length :: (part.map (fun k => BitVec.ofNat 8 k :: blockOf s conn k)).flatten
      signedReply s conn nonce content (.measurements content)))

/-- KEY_EXCHANGE (R426): while the DRBG is healthy (R420). -/
def execKeyExchange (conn : Nat) (request : List Byte) (s : State) : Host.Outcome State Fault Refusal :=
  perform s (fun s => spdm s conn (fun s =>
    if fget s RF.SEC_STATUS_DRBG_OK = 0 then reply s conn .invalid
    else signedReply (setConn s conn { connAt s conn with exchanged := true }) conn request [] .keyExchange))

/-- FINISH (R426): `ok` says that its checks pass. -/
def execSpdmFinish (conn : Nat) (ok : Bool) (s : State) : Host.Outcome State Fault Refusal :=
  perform s (fun s => spdm s conn (fun s =>
    let c := connAt s conn
    if !c.exchanged then reply s conn .unexpected
    else if ok then reply (setConn s conn { c with exchanged := false, session := true }) conn .finished
    else reply (setConn s conn { c with exchanged := false }) conn .invalid))

/-- PQ_COSIGN (R427). -/
def execPqCosign (conn : Nat) (s : State) : Host.Outcome State Fault Refusal :=
  perform s (fun s =>
    let c := connAt s conn
    spdm s conn (fun s => reply s conn (match c.signed with
      | some b => .cosign (Config.signature 1 b)
      | none => .unexpected)))

/-! ### TDISP (R388) -/

/-- A TDISP request within the secured session of a VF's mailbox. DEDUCED: log entry 111. -/
def tdisp (s : Dev) (fn : Nat) (f : Dev → Nat → Dev) : Dev :=
  if fn = 0 ∨ fn > 32 ∨ !connOpen s fn then s
  else if !(connAt s fn).session then reply s fn .unexpected
  else f (setConn s fn { connAt s fn with signed := none }) (fget s (RF.HST_BIND_STATUS_TDISP fn))

/-- LOCK_INTERFACE_REQUEST: it binds a selective stream that is secure; refused in 68B flit mode (R373). DEDUCED: log entry 111. -/
def execLockInterfaceRequest (fn stream : Nat) (s : State) : Host.Outcome State Fault Refusal :=
  perform s (fun s => tdisp s fn (fun s t =>
    if t ≠ 0 ∨ fget s RF.HST_STATUS_FLIT256 = 0 ∨ !s.host.streams.contains stream then reply s fn .tdispError
    else
      let s := fset s (RF.HST_BIND_STATUS_TDISP fn) 1
      reply { s with host := { s.host with locked := tset s.host.locked fn stream } } fn .locked))

/-- START_INTERFACE_REQUEST. -/
def execStartInterfaceRequest (fn : Nat) (s : State) : Host.Outcome State Fault Refusal :=
  perform s (fun s => tdisp s fn (fun s t =>
    if t = 1 then reply (fset s (RF.HST_BIND_STATUS_TDISP fn) 2) fn .started else reply s fn .tdispError))

/-- STOP_INTERFACE_REQUEST: an instance reset returns the interface to CONFIG_UNLOCKED, and then it is answered. -/
def execStopInterfaceRequest (fn : Nat) (s : State) : Host.Outcome State Fault Refusal :=
  perform s (fun s => whole s (fun s => tdisp s fn (fun s _ =>
    if insState s fn = 0 then
      (let s := fset s (RF.HST_BIND_STATUS_TDISP fn) 0
       reply { s with host := { s.host with locked := tdel s.host.locked fn } } fn .stopped)
    else resetInstance { s with ins := { s.ins with stopping := insertNat fn s.ins.stopping } } fn)))

/-- Offset of the MSI-X table in BAR0 (R375). -/
def msixTable : Nat := 0x4000

/-- GET_DEVICE_INTERFACE_REPORT. -/
def execGetDeviceInterfaceReport (fn : Nat) (s : State) : Host.Outcome State Fault Refusal :=
  perform s (fun s => tdisp s fn (fun s _ =>
    reply s fn (.report (tgetD s.ins.bar0 fn 0) (tgetD s.ins.bar2 fn 0) msixTable (configDigest s fn))))

/-- GET_DEVICE_INTERFACE_STATE. -/
def execGetDeviceInterfaceState (fn : Nat) (s : State) : Host.Outcome State Fault Refusal :=
  perform s (fun s => tdisp s fn (fun s t => reply s fn (.ifState t)))

/-- GET_TDISP_VERSION. -/
def execGetTdispVersion (fn : Nat) (s : State) : Host.Outcome State Fault Refusal :=
  perform s (fun s => tdisp s fn (fun s _ => reply s fn .tdispVersion))

/-- GET_TDISP_CAPABILITIES. -/
def execGetTdispCapabilities (fn : Nat) (s : State) : Host.Outcome State Fault Refusal :=
  perform s (fun s => tdisp s fn (fun s _ => reply s fn .tdispCapabilities))

/-! ### DOE and IDE (R387, R390) -/

/-- IDE_KM: keys of a stream go into use or are stopped, within a secured session and in 256B flit mode (R373); eight selective streams at most (R370). -/
def ideKm (s : Dev) (fn : Nat) (link : Bool) (stream : Nat) (go : Bool) : Dev :=
  if !(connAt s fn).session then reply s fn .unexpected
  else if fget s RF.HST_STATUS_FLIT256 = 0 then reply s fn (.ideKm false)
  else if link then reply (fset s RF.HST_STATUS_IDE_LINK (b2n go)) fn (.ideKm true)
  else
    let l := if go then insertNat stream s.host.streams else s.host.streams.filter (· != stream)
    if l.length > 8 then reply s fn (.ideKm false)
    else reply (showStreams { s with host := { s.host with streams := l } }) fn (.ideKm true)

/-- DOE_OBJECT: an object of `len` bytes in a function's mailbox. One that is too long, or of a protocol that the function does not support, is
discarded with the error bit set. DEDUCED: log entry 111. -/
def execDoeObject (fn len : Nat) (body : DoeBody) (s : State) : Host.Outcome State Fault Refusal :=
  perform s (fun s =>
    let bad := { s with host := { s.host with doeError := tset s.host.doeError fn true } }
    if fn > 32 ∨ !connOpen s fn then s
    else if len > 65536 then bad
    else match body with
      | .unsupported => bad
      | .discovery => reply s fn (.protocols (if fn = 0 then [0, 1, 2, 3] else [0, 1, 2]))
      | .cdat => if fn = 0 then reply s fn (.cdat [(600, 121), (750, 121)]) else bad
      | .ideKm link stream go => ideKm s fn link stream go)

/-- IDE_INTEGRITY_FAILURE (R390): the link stream, or a selective one, enters its insecure state. -/
def execIdeIntegrityFailure (link : Bool) (stream : Nat) (s : State) : Host.Outcome State Fault Refusal :=
  perform s (fun s =>
    if link then (if fget s RF.HST_STATUS_IDE_LINK = 0 then s else logEvent (fset s RF.HST_STATUS_IDE_LINK 0) Reg.HST_CNT_IDE_FAILS 0)
    else if !s.host.streams.contains stream then s
    else logEvent (showStreams { s with host := { s.host with streams := s.host.streams.filter (· != stream) } }) Reg.HST_CNT_IDE_FAILS 0)

end Sys2Proof.Machine
end

