-- ==== Sys2Proof/Machine/Straits.lean ====
section
/-!
DEFINITION. Straits and the on-package mesh (R17, R32 to R54): geometry, routes, flits with their checksum, status and bandwidth registers, lane maps.
-/
namespace Sys2Proof.Machine

/-! ### Geometry (R17, R33, R54) -/

/-- END_A of a strait: a site. -/
def endA (k : Nat) : Nat :=
  if k < 42 then 8 * (k / 7) + k % 7
  else if k < 82 then k - 42
  else if k < 90 then k - 82
  else if k < 98 then 40 + (k - 90)
  else if k < 104 then 8 * (k - 98)
  else 8 * (k - 104) + 7

/-- END_B of a strait: a site, or an edge die (48 HW, 49 HE, 50 MN, 51 MS). -/
def endB (k : Nat) : Nat :=
  if k < 42 then endA k + 1
  else if k < 82 then endA k + 8
  else if k < 90 then 50
  else if k < 98 then 51
  else if k < 104 then 48
  else 49

/-- The strait at a site's port: 0 north, 1 south, 2 west, 3 east. -/
def portStrait (n port : Nat) : Nat :=
  let r := n / 8
  let c := n % 8
  match port with
  | 0 => if r = 0 then 82 + c else 42 + 8 * (r - 1) + c
  | 1 => if r = 5 then 90 + c else 42 + 8 * r + c
  | 2 => if c = 0 then 98 + r else 7 * r + c - 1
  | _ => if c = 7 then 104 + r else 7 * r + c

/-- Straits of a node. -/
def straitsOf (n : Nat) : List Nat := (List.range 110).filter (fun k => endA k == n || endB k == n)

/-- The other end of a strait. -/
def farEnd (k n : Nat) : Nat := if endA k = n then endB k else endA k

/-- The direction in which a node sends on a strait. -/
def dirFrom (k n : Nat) : Nat := if endA k = n then 0 else 1

/-- The node that sends in a direction of a strait. -/
def sender (k d : Nat) : Nat := if d = 0 then endA k else endB k

/-- The node that receives in a direction of a strait. -/
def receiver (k d : Nat) : Nat := if d = 0 then endB k else endA k

/-- A die's always-on count (R449). -/
def dieTicks (s : Dev) (n : Nat) : Nat := match n with
  | 48 => s.time.hw
  | 49 => s.time.he
  | 50 => s.time.mn
  | 51 => s.time.ms
  | _ => s.time.base

/-! ### Routes (R43, R44) -/

/-- A strait that carries traffic. -/
def straitUp (s : Dev) (k : Nat) : Bool := decide (fget s (RF.STR_STRAIT_STATUS_STATE k) < 2)

/-- The strait of the dimension-ordered route from a node towards another. An edge die enters on the destination's row or column; towards another
edge die it takes its straits in turn. -/
def orderedStrait (n d turn : Nat) : Nat :=
  if n < 48 then
    if d < 48 then
      portStrait n (if d % 8 < n % 8 then 2 else if d % 8 > n % 8 then 3 else if d / 8 < n / 8 then 0 else 1)
    else portStrait n (match d with
      | 48 => 2
      | 49 => 3
      | 50 => 0
      | _ => 1)
  else
    match n with
    | 48 => 98 + (if d < 48 then d / 8 else turn % 6)
    | 49 => 104 + (if d < 48 then d / 8 else turn % 6)
    | 50 => 82 + (if d < 48 then d % 8 else turn % 8)
    | _ => 90 + (if d < 48 then d % 8 else turn % 8)

/-- The dimension-ordered route crosses none of some straits. -/
def orderedClear (avoid : List Nat) (turn n d : Nat) : Nat → Bool
  | 0 => true
  | f + 1 =>
    let k := orderedStrait n d turn
    n == d || (!avoid.contains k && orderedClear avoid turn (farEnd k n) d f)

/-- The strait that the installed tables name: the dimension-ordered one, or firmware's detour over another strait of the node.
DESIGN CHOICE: log entries 14, 70. -/
def routeStrait (s : Dev) (n d turn : Nat) : Nat :=
  if orderedClear s.mesh.avoided turn n d 20 then orderedStrait n d turn
  else
    let l := (straitsOf n).filter (fun k => !s.mesh.avoided.contains k)
    l.getD (Config.detour s.mesh.avoided n d % max 1 l.length) (orderedStrait n d turn)

/-- A turn that dimension order forbids: from a column onto a row. -/
def forbiddenTurn (kin kout : Nat) : Bool := decide (42 ≤ kin) && decide (kin < 98) && (decide (kout < 42) || decide (98 ≤ kout))

/-! ### Flits (R33) -/

/-- CRC-32C, taken over n bits from the least significant one. PRESUMED: log entry 68. -/
def crcBits (x : Nat) : Nat → BitVec 32 → BitVec 32
  | 0, c => c
  | n + 1, c =>
    let c' := (c >>> 1) ^^^ (if (c.getLsbD 0 != (x % 2 == 1)) then 0x82F63B78 else 0)
    crcBits (x / 2) n c'

/-- The checksum of a flit: bytes 0 to 251. PRESUMED: log entry 68. -/
def flitCrc (f : BitVec 2048) : Nat := (crcBits f.toNat 2016 0xFFFFFFFF ^^^ 0xFFFFFFFF).toNat

/-- A flit passes its CRC. PRESUMED: log entry 68. -/
def crcGood (f : BitVec 2048) : Bool := bitsOf f.toNat 2016 32 == flitCrc f

/-- VC of a flit. -/
def flitVc (f : BitVec 2048) : Nat := bitsOf f.toNat 0 2
/-- KIND of a flit. -/
def flitKind (f : BitVec 2048) : Nat := bitsOf f.toNat 2 4
/-- DEST_NODE of a flit. -/
def flitDest (f : BitVec 2048) : Nat := bitsOf f.toNat 6 7
/-- Sequence number of a flit. -/
def flitSeq (f : BitVec 2048) : Nat := bitsOf f.toNat 1984 32

/-- KIND and the header's reserved bits hold no reserved value. -/
def headerGood (f : BitVec 2048) : Bool := decide (flitKind f < 3) && bitsOf f.toNat 55 9 == 0

/-- A flit as it leaves on a bundle-direction: its number, the acknowledgement of the reverse direction, and its CRC. -/
def flitFor (f : BitVec 2048) (seq ack : Nat) (detour : Bool) : BitVec 2048 :=
  let x := setBits (setBits (setBits f.toNat 21 1 1) 22 16 ack) 1984 32 seq
  let x := if detour then setBits x 20 1 1 else x
  BitVec.ofNat 2048 (setBits x 2016 32 (flitCrc (BitVec.ofNat 2048 x)))

/-! ### Bundle-directions -/

/-- Key of a bundle-direction. -/
def bdKey (k b d : Nat) : Nat := 16 * k + 2 * b + d

/-- A bundle-direction. -/
def bdAt (s : Dev) (k b d : Nat) : Bd := tgetD s.mesh.bds (bdKey k b d) Bd.reset

/-- Change it. -/
def modBd (s : Dev) (k b d : Nat) (f : Bd → Bd) : Dev :=
  { s with mesh := { s.mesh with bds := tset s.mesh.bds (bdKey k b d) (f (bdAt s k b d)) } }

/-- MODE of a bundle-direction: 0 full, 1 narrowed, 2 paused, 3 lost. -/
def bdMode (s : Dev) (k b d : Nat) : Nat := fget s (RF.STR_BD_STATUS_MODE k b d)

/-- The lane registers of a bundle-direction. -/
def laneRegs (s : Dev) (k b d : Nat) : List Nat :=
  [regRead s (Reg.STR_BD_LANE_MAP k b d), regRead s (Reg.STR_BD_LANE_FAIL_LO k b d), regRead s (Reg.STR_BD_LANE_FAIL_HI k b d),
   regRead s (Reg.STR_BD_STATUS k b d)]

/-- Failed physical lanes, as a mask of 68. -/
def failMask (s : Dev) (k b d : Nat) : Nat :=
  regRead s (Reg.STR_BD_LANE_FAIL_LO k b d) + 2 ^ 64 * fget s (RF.STR_BD_LANE_FAIL_HI_FAIL k b d)

/-- Spare q of a bundle-direction: the logical lane it carries, 0x7E failed, 0x7F unused. -/
def spareOf (s : Dev) (k b d q : Nat) : Nat := bitsOf (regRead s (Reg.STR_BD_LANE_MAP k b d)) (8 * q) 8

/-- Record what spare q carries. -/
def setSpare (s : Dev) (k b d q v : Nat) : Dev := fset s ⟨Reg.STR_BD_LANE_MAP k b d, 8 * q, 8⟩ v

/-- The lowest-numbered spare that is unused and has not failed (R37). -/
def freeSpare (s : Dev) (k b d : Nat) : Option Nat :=
  lowest 4 (fun q => spareOf s k b d q == 0x7F && !bitOf (failMask s k b d) (64 + q))

/-- Show the numbers of good lanes and of spares left. -/
def showLanes (s : Dev) (k b d : Nat) : Dev :=
  let s := fset s (RF.STR_BD_STATUS_GOOD_LANES k b d) (68 - popcount 68 (failMask s k b d))
  fset s (RF.STR_BD_STATUS_SPARES_LEFT k b d)
    ((List.range 4).filter (fun q => spareOf s k b d q == 0x7F && !bitOf (failMask s k b d) (64 + q))).length

/-- Mark a physical lane failed. -/
def failLane (s : Dev) (k b d p : Nat) : Dev :=
  let s := if p < 64 then regWrite s (Reg.STR_BD_LANE_FAIL_LO k b d) (regRead s (Reg.STR_BD_LANE_FAIL_LO k b d) ||| 2 ^ p)
    else setSpare (fset s (RF.STR_BD_LANE_FAIL_HI_FAIL k b d) (fget s (RF.STR_BD_LANE_FAIL_HI_FAIL k b d) ||| 2 ^ (p - 64))) k b d (p - 64) 0x7E
  showLanes s k b d

/-- The logical lane that a physical lane carries at full width, if any. -/
def carries (s : Dev) (k b d p : Nat) : Option Nat :=
  if p < 64 then (if (List.range 4).any (fun q => spareOf s k b d q == p) then none else some p)
  else
    let v := spareOf s k b d (p - 64)
    if v < 64 then some v else none

/-- The physical lane of a logical lane (R37, R39). -/
def physLane (s : Dev) (k b d j : Nat) : Nat :=
  if (bdAt s k b d).wasNarrow then ((List.range 68).filter (fun p => !bitOf (failMask s k b d) p)).getD j 0
  else match lowest 4 (fun q => spareOf s k b d q == j) with
    | some q => 64 + q
    | none => j

/-! ### Status and bandwidth (R41, R42, R53, R54) -/

/-- Bandwidth of a bundle-direction by MODE. DEDUCED: log entry 69. -/
def modeBw : Nat → Nat
  | 0 => 256
  | 1 => 64
  | _ => 0

/-- Bandwidth of a strait in a direction. DEDUCED: log entry 69. -/
def straitBw (s : Dev) (k d : Nat) : Nat := (List.range 8).foldl (fun n b => n + modeBw (bdMode s k b d)) 0

/-- BW field of a direction. -/
def bwFld (k d : Nat) : Fld := if d = 0 then RF.STR_STRAIT_STATUS_BW_AB_GBPS k else RF.STR_STRAIT_STATUS_BW_BA_GBPS k

/-- The lower direction's bandwidth, as the strait's register shows it. -/
def lowerBw (s : Dev) (k : Nat) : Nat := min (fget s (bwFld k 0)) (fget s (bwFld k 1))

/-- Sum over some straits of one direction, and of the other: the lower. DEDUCED: log entry 69. -/
def cutBw (s : Dev) (l : List Nat) : Nat :=
  min (l.foldl (fun n k => n + fget s (bwFld k 0)) 0) (l.foldl (fun n k => n + fget s (bwFld k 1)) 0)

/-- Sum of the lower directions over some straits. -/
def sumBw (s : Dev) (l : List Nat) : Nat := l.foldl (fun n k => n + lowerBw s k) 0

/-- Straits numbered from a base. -/
def straitRun (base step n : Nat) : List Nat := (List.range n).map (fun i => base + step * i)

/-- Show the mesh's status registers. DEDUCED: log entry 69. -/
def showMesh (s : Dev) : Dev :=
  let cnt := fun (p : Nat → Bool) => ((List.range 110).filter (fun k => p (fget s (RF.STR_STRAIT_STATUS_STATE k)))).length
  let s := fset (fset s RF.STR_MESH_STATUS_STRAITS_UP (cnt (fun t => decide (t < 2)))) RF.STR_MESH_STATUS_STRAITS_DEGRADED (cnt (· == 1))
  let s := fset (fset s RF.STR_MESH_STATUS_STRAITS_LOST (cnt (· == 2))) RF.STR_MESH_STATUS_STRAITS_UNUSED (cnt (· == 3))
  let s := fset (fset s RF.STR_MESH_BW_BISECT_COL_GBPS (cutBw s (straitRun 3 7 6))) RF.STR_MESH_BW_BISECT_ROW_GBPS (cutBw s (straitRun 58 1 8))
  let s := fset s RF.STR_MESH_BW_MESH_TOTAL_GBPS (sumBw s (List.range 110))
  let s := fset (fset s RF.STR_EDGE_BW_HW_GBPS (sumBw s (straitRun 98 1 6))) RF.STR_EDGE_BW_HE_GBPS (sumBw s (straitRun 104 1 6))
  fset (fset s RF.STR_EDGE_BW_MN_GBPS (sumBw s (straitRun 82 1 8))) RF.STR_EDGE_BW_MS_GBPS (sumBw s (straitRun 90 1 8))

/-- A strait's state and bandwidth follow from its bundle-directions; one that is lost or unused stays so until the next start. -/
def showStrait (s : Dev) (k : Nat) : Dev :=
  let st := fget s (RF.STR_STRAIT_STATUS_STATE k)
  if st ≥ 2 then showMesh (fset (fset s (bwFld k 0) 0) (bwFld k 1) 0)
  else
    let modes := (List.range 16).map (fun j => bdMode s k (j / 2) (j % 2))
    let s := fset s (RF.STR_STRAIT_STATUS_STATE k) (if modes.all (· == 0) then 0 else 1)
    showMesh (fset (fset s (bwFld k 0) (straitBw s k 0)) (bwFld k 1) (straitBw s k 1))

/-- A bundle-direction's MODE changes. -/
def setMode (s : Dev) (k b d m : Nat) : Dev := showStrait (fset s (RF.STR_BD_STATUS_MODE k b d) m) k

/-- A LANE_MAP entry (R42, R436), and the field lane map in flash (R37). -/
def logLanes (s : Dev) (k b d : Nat) (old : List Nat) : Dev :=
  let s := { s with flash := { s.flash with lanes := tset s.flash.lanes (bdKey k b d)
                                                       ⟨regRead s (Reg.STR_BD_LANE_MAP k b d), regRead s (Reg.STR_BD_LANE_FAIL_LO k b d), regRead s (Reg.STR_BD_LANE_FAIL_HI k b d)⟩ } }
  logFw s 3 (k + 2 ^ 8 * b + 2 ^ 16 * d) (pack8 old) (pack8 (laneRegs s k b d))

/-- The mesh runs: from the end of stage 4 on, while no device-fatal fault stands. -/
def meshOn (s : Dev) : Bool := decide (fget s RF.BRG_START_STATUS_STAGE ≥ 4) && fget s RF.BRG_ERR_STATUS_FATAL == 0

/-! ### Sending (R35, R36) -/

/-- Room in a bundle-direction's replay buffer, on one that is neither paused nor lost. -/
def bdTakes (s : Dev) (k b d : Nat) : Bool := decide (bdMode s k b d < 2) && decide ((bdAt s k b d).replay.length < 64)

/-- The bundle for a flit. A VC0 flit prefers full width, then narrowed, then a parked one; the others go round. -/
def pickBundle (s : Dev) (k d vc : Nat) : Option Nat :=
  if vc = 0 then
    let awake := fun (m : Nat) => lowest 8 (fun b => bdTakes s k b d && bdMode s k b d == m && !(bdAt s k b d).parked)
    ((awake 0).orElse (fun _ => awake 1)).orElse (fun _ => lowest 8 (fun b => bdTakes s k b d))
  else
    let from_ := tgetD s.mesh.last (2 * k + d) 7
    (lowest 8 (fun i => bdTakes s k ((from_ + 1 + i) % 8) d)).map (fun i => (from_ + 1 + i) % 8)

/-- A node sends a data or control flit towards its destination; `kin` is the strait it came on. Where no bundle takes it, it waits.
DESIGN CHOICE: log entry 113. -/
def placeMesh (s : Dev) (n : Nat) (kin : Option Nat) (f : BitVec 2048) : Dev :=
  let turn := tgetD s.mesh.last (1000 + n) 0
  let k := routeStrait s n (flitDest f) turn
  let d := dirFrom k n
  match (if straitUp s k then pickBundle s k d (flitVc f) else none) with
  | none => { s with mesh := { s.mesh with waiting := s.mesh.waiting ++ [(n, f)] } }
  | some b =>
    let detour := match kin with
      | some k0 => forbiddenTurn k0 k
      | none => false
    let x := bdAt s k b d
    let g := flitFor f x.tx (((bdAt s k b (1 - d)).rx + 2 ^ 32 - 1) % 2 ^ 16) detour
    let s := modBd s k b d (fun x => { x with tx := (x.tx + 1) % 2 ^ 32, replay := x.replay ++ [(x.tx, g)], parked := false })
    let s := { s with mesh := { s.mesh with last := tset (tset s.mesh.last (2 * k + d) b) (1000 + n) (turn + 1) } }
    { s with out := s.out ++ [.mesh k b d g] }

/-- Flits that waited go on. DESIGN CHOICE: log entry 113. -/
def drainMesh (s : Dev) : Dev :=
  let l := s.mesh.waiting
  l.foldl (fun s p => placeMesh s p.1 none p.2) { s with mesh := { s.mesh with waiting := [] } }

end Sys2Proof.Machine
end

