-- ==== Sys2Proof/Machine/Lanes.lean ====
section
/-!
DEFINITION. Replay, lane repair and loss of bundle-directions and straits (R35 to R42, R45, R46, R51, R455).
-/
namespace Sys2Proof.Machine

/-! ### Pauses (R38, R39, R51) -/

/-- Bundle-directions of a strait-direction that are paused. -/
def pausedCount (s : Dev) (k d : Nat) : Nat := ((List.range 8).filter (fun b => bdMode s k b d == 2)).length

/-- A pause begins, or waits for one of the two places. -/
def beginPause (s : Dev) (k b d : Nat) : Dev :=
  if pausedCount s k d ≥ 2 then modBd s k b d (fun x => { x with phase := .queued })
  else setMode (modBd s k b d (fun x => { x with phase := .draining, parked := false })) k b d 2

/-- The next request that waits for a pause goes on. -/
def nextPause (s : Dev) (k d : Nat) : Dev :=
  match lowest 8 (fun b => (bdAt s k b d).phase == .queued && decide (bdMode s k b d < 2)) with
  | some b => beginPause s k b d
  | none => s

/-- A bundle-direction resumes at full or narrowed width. -/
def resumeBd (s : Dev) (k b d : Nat) (narrow : Bool) : Dev :=
  let s := modBd s k b d (fun x => { x with phase := .running, narrow := false, wasNarrow := narrow, lanes := [], fails := 0, copy := none, charges := [] })
  drainMesh (nextPause (setMode s k b d (b2n narrow)) k d)

/-! ### Loss (R40, R41, R45) -/

/-- A strait is lost: both directions carry nothing, and routes must go round it. A second loss before the switch needs tables of its own (R46). -/
def loseStrait (s : Dev) (k b d : Nat) (old : List Nat) : Dev :=
  if fget s (RF.STR_STRAIT_STATUS_STATE k) ≥ 2 then s
  else
    let s := (List.range 16).foldl (fun s j =>
      modBd (fset s (RF.STR_BD_STATUS_MODE k (j / 2) (j % 2)) 3) k (j / 2) (j % 2) (fun x => { x with phase := .running, lanes := [] })) s
    let s := showStrait (fset (bump s Reg.STR_CNT_STRAIT_LOSSES) (RF.STR_STRAIT_STATUS_STATE k) 2) k
    let s := logLanes s k b d old
    let s := if s.mesh.switching then fset s RF.STR_MESH_STATUS_STANDBY_VALID 0 else s
    let s := { s with mesh := { s.mesh with switching := true } }
    { s with out := s.out ++ [.meshCtl k b d 7 k] }

/-- A bundle-direction is lost; the far end reports what it accepted over a bundle that is left. -/
def loseBd (s : Dev) (k b d : Nat) : Dev :=
  if bdMode s k b d = 3 then s
  else
    let old := laneRegs s k b d
    let s := modBd (bump s Reg.STR_CNT_BUNDLE_LOSSES) k b d (fun x => { x with phase := .running, lanes := [], parked := false })
    let s := setMode s k b d 3
    let s := logLanes s k b d old
    if (List.range 8).all (fun b => bdMode s k b d == 3) then loseStrait s k b d (laneRegs s k b d)
    else nextPause { s with out := s.out ++ [.meshCtl k b d 6 (((bdAt s k b d).rx + 2 ^ 32 - 1) % 2 ^ 32)] } k d

/-- Straits that a node's routers may not use: lost or unused. -/
def deadStraits (s : Dev) : List Nat := (List.range 110).filter (fun k => !straitUp s k)

/-- Every router switches to other tables (R45): the ends of lost straits ask what was accepted, and held flits go on. DESIGN CHOICE: log entry 70. -/
def switchRoutes (s : Dev) : Dev :=
  let s := { s with mesh := { s.mesh with avoided := deadStraits s, switching := false } }
  let s := fset s RF.STR_MESH_STATUS_ROUTE_GEN ((fget s RF.STR_MESH_STATUS_ROUTE_GEN + 1) % 2 ^ 16)
  let s := fset (bump s Reg.STR_CNT_ROUTE_SWITCHES) RF.STR_MESH_STATUS_STANDBY_VALID 0
  let asks := (List.range 1760).filter (fun j =>
    fget s (RF.STR_STRAIT_STATUS_STATE (j / 16)) == 2 && !(bdAt s (j / 16) (j % 16 / 2) (j % 2)).replay.isEmpty)
  drainMesh { s with out := s.out ++ asks.map (fun j => .meshCtl (j / 16) (j % 16 / 2) (j % 2) 5 0) }

/-- Numbers beyond one accepted last. -/
def flitsBeyond (last : Nat) (l : List (Nat × BitVec 2048)) : List (Nat × BitVec 2048) :=
  l.filter (fun p => decide ((p.1 + 2 ^ 32 - last) % 2 ^ 32 < 2 ^ 31) && p.1 != last)

/-- The sender of a bundle-direction that is lost learns what was accepted: the rest goes on as new flits (R40, R45). DESIGN CHOICE: log entry 70. -/
def resendLost (s : Dev) (k b d last : Nat) : Dev :=
  if bdMode s k b d ≠ 3 then s
  else
    let l := flitsBeyond last (bdAt s k b d).replay
    let s := modBd s k b d (fun x => { x with replay := [] })
    l.foldl (fun s p => placeMesh s (sender k d) none p.2) s

/-! ### Lane repair (R38, R39) -/

/-- Narrowing takes the place of a rotation that has no spare, or of a retrain that failed: fewer than 32 good lanes are a loss.
DEDUCED: log entry 71. -/
def narrowNow (s : Dev) (k b d : Nat) : Dev :=
  if 68 - popcount 68 ((bdAt s k b d).lanes.foldl (fun m p => m ||| 2 ^ p) (failMask s k b d)) < 32 then loseBd s k b d
  else modBd s k b d (fun x => { x with narrow := true, phase := .training })

/-- A request for rotation or narrowing reaches the sender. -/
def askRepair (s : Dev) (k b d lane : Nat) (narrow : Bool) : Dev :=
  let x := bdAt s k b d
  if fget s RF.STR_LANE_POLICY_ROTATE_EN = 0 ∨ bdMode s k b d = 3 ∨ lane > 67 ∨ bitOf (failMask s k b d) lane then s
  else
    let s := modBd s k b d (fun x => { x with lanes := insertNat lane x.lanes, narrow := x.narrow || narrow || x.wasNarrow })
    match x.phase with
    | .running => beginPause s k b d
    | _ => s

/-- The replay buffer of a paused bundle-direction is empty: its spare, or its lanes at half rate, train. -/
def startTraining (s : Dev) (k b d : Nat) : Dev :=
  let x := bdAt s k b d
  if x.phase ≠ .draining ∨ !x.replay.isEmpty ∨ bdMode s k b d ≠ 2 then s
  else if x.narrow || (freeSpare s k b d).isNone then narrowNow s k b d
  else modBd s k b d (fun x => { x with phase := .training })

/-- A spare fails to train or to carry: it is marked failed, and the next one is tried. DEDUCED: log entry 71. -/
def spareFails (s : Dev) (k b d : Nat) : Dev :=
  match freeSpare s k b d with
  | none => s
  | some q =>
    let s := failLane s k b d (64 + q)
    if (freeSpare s k b d).isSome then modBd s k b d (fun x => { x with phase := .training })
    else narrowNow s k b d

/-- Training ends (R38 step 4, R39): a rotation goes on to the switch-over; a narrowed link resumes, is counted and entered, or is lost.
DEDUCED: log entry 71. -/
def endTraining (s : Dev) (k b d : Nat) (ok : Bool) : Dev :=
  let x := bdAt s k b d
  if x.phase ≠ .training then s
  else if x.narrow then
    (if ok then
       let old := laneRegs s k b d
       let s := x.lanes.foldl (fun s p => failLane s k b d p) (bump s Reg.STR_CNT_NARROWINGS)
       let s := logLanes (fset s (RF.STR_BD_STATUS_MODE k b d) 1) k b d old
       resumeBd s k b d true
     else loseBd s k b d)
  else if ok then { modBd s k b d (fun x => { x with phase := .switching }) with out := s.out ++ [.meshCtl k b d 3 0] }
  else spareFails s k b d

/-- The switch-over ends (R38 steps 5 and 6): the first waiting lane has moved onto the spare, or the spare has failed its idle flits.
DEDUCED: log entry 71. -/
def switchLane (s : Dev) (k b d : Nat) (ok : Bool) : Dev :=
  let x := bdAt s k b d
  match x.phase, x.lanes, freeSpare s k b d with
  | .switching, p :: rest, some q =>
    if !ok then spareFails s k b d
    else
      let old := laneRegs s k b d
      let s := match carries s k b d p with
        | some j => setSpare s k b d q j
        | none => s
      let s := failLane s k b d p
      let s := fsat (bump s Reg.STR_CNT_ROTATIONS) (RF.STR_BD_STATUS_ROTATIONS k b d) 1
      let s := logLanes s k b d old
      let s := modBd s k b d (fun x => { x with lanes := rest, phase := .training })
      if rest.isEmpty then resumeBd s k b d false
      else if (freeSpare s k b d).isSome then s
      else narrowNow s k b d
  | _, _, _ => s

/-! ### Receiving and replay (R35, R38) -/

/-- Physical lanes that carried a differing bit of two copies. -/
def differLanes (s : Dev) (k b d : Nat) (a c : BitVec 2048) : List Nat :=
  let x := (a ^^^ c).toNat
  let w := if (bdAt s k b d).wasNarrow then 32 else 64
  ((List.range w).filter (fun j => (List.range (2048 / w)).any (fun u => bitOf x (u * w + j)))).map (physLane s k b d)

/-- Charge a replay to lanes; one whose charges within the window reach the threshold asks for repair. -/
def chargeLanes (s : Dev) (k b d : Nat) (l : List Nat) : Dev :=
  let now := dieTicks s (receiver k d)
  let win := max 1 (fget s RF.STR_LANE_POLICY_WINDOW_TICKS)
  let th := fget s RF.STR_LANE_POLICY_REPLAY_THRESH
  let th := if th < 4 then 4 else th
  let s := modBd s k b d (fun x => { x with charges := (x.charges.filter (fun c => decide (now < c.2 + win))) ++ l.map (fun p => (p, now)) })
  l.foldl (fun s p =>
    if fget s RF.STR_LANE_POLICY_ROTATE_EN = 1 ∧ ((bdAt s k b d).charges.filter (fun c => c.1 == p)).length ≥ th ∧ !(bdAt s k b d).lanes.contains p then
      { s with out := s.out ++ [.meshCtl k b d (if (freeSpare s k b d).isSome && !(bdAt s k b d).wasNarrow then 2 else 4) p] }
    else s) s

/-- A flit's acknowledgement of the reverse direction. -/
def takeAck (s : Dev) (k b d : Nat) (f : BitVec 2048) : Dev :=
  if bitOf f.toNat 21 then
    let a := bitsOf f.toNat 22 16
    modBd s k b (1 - d) (fun x =>
      if x.replay.any (fun p => p.1 % 2 ^ 16 == a) then { x with replay := (x.replay.dropWhile (fun p => p.1 % 2 ^ 16 != a)).drop 1 } else x)
  else s

/-- A received flit fails its check: it is kept, asked for again, and after 8 failures of one number the bundle-direction retrains. -/
def flitFails (s : Dev) (k b d : Nat) (f : BitVec 2048) : Dev :=
  let s := bump s (Reg.STR_BD_CRC_ERRORS k b d)
  let s := modBd s k b d (fun x => { x with fails := x.fails + 1, copy := some f })
  if (bdAt s k b d).fails ≥ 8 then setMode (modBd s k b d (fun x => { x with phase := .retraining })) k b d 2
  else { s with out := s.out ++ [.meshNak k b d (bdAt s k b d).rx] }

/-- A data or control flit that is accepted reaches its node, or goes on. -/
def passOn (s : Dev) (k d : Nat) (f : BitVec 2048) : Dev :=
  if flitDest f = receiver k d ∨ flitKind f = 2 then s else placeMesh s (receiver k d) (some k) f

/-- A flit is received on a bundle-direction. -/
def meshFlit (s : Dev) (k b d : Nat) (f : BitVec 2048) : Dev :=
  if !meshOn s || decide (bdMode s k b d = 3) || (bdAt s k b d).phase == .retraining then s
  else if !(crcGood f && headerGood f) then flitFails s k b d f
  else
    let s := takeAck s k b d f
    let x := bdAt s k b d
    if flitKind f = 0 ∨ (flitKind f = 2 ∧ bitsOf f.toNat 64 8 = 1) then drainMesh s
    else if flitSeq f ≠ x.rx then drainMesh s
    else
      let s := match x.copy with
        | some c => chargeLanes s k b d (differLanes s k b d f c)
        | none => s
      let s := modBd s k b d (fun x => { x with rx := (x.rx + 1) % 2 ^ 32, fails := 0, copy := none })
      drainMesh (passOn s k d f)

/-- The sender replays from a number on. -/
def replayMesh (s : Dev) (k b d seq : Nat) : Dev :=
  if bdMode s k b d = 3 then s
  else
    let s := modBd s k b d (fun x => { x with replay := flitsBeyond ((seq + 2 ^ 32 - 1) % 2 ^ 32) x.replay })
    let l := (bdAt s k b d).replay
    bumpBy { s with out := s.out ++ l.map (fun p => .mesh k b d p.2) } (Reg.STR_BD_REPLAYS k b d) l.length

end Sys2Proof.Machine
end

