-- ==== Sys2Proof/Machine/Errors.lean ====
section
/-!
DEFINITION. Errors of the module (chapter 18): device-fatal faults, the loss of an island, control-core pairs.
-/
namespace Sys2Proof.Machine

/-! ### Device-fatal faults (R495, R496) -/

/-- MOD_FAULT# follows FATAL, STOPPED, RECOVERY and HALTED (R524). -/
def showFault (s : Dev) : Dev :=
  { s with out := s.out ++ [.faultPin (fget s RF.BRG_ERR_STATUS_FATAL == 1 || fget s RF.BRG_START_STATUS_STOPPED == 1
      || fget s RF.BRG_START_STATUS_RECOVERY == 1 || fget s RF.PWR_STATUS_HALTED == 1)] }

/-- An alert on sideband (R470, R496, R525): ALERT# of each bus whose domain runs is asserted. DEDUCED: log entry 98. -/
def sendAlert (s : Dev) : Dev :=
  let m := b2n s.start.primary + 2 * b2n s.start.secondary
  { s with start := { s.start with alerts := s.start.alerts ||| m }, out := s.out ++ (setBitsOf 2 m).map (fun b => .alert b true) }

/-- The fabric ports send DEPART where a route exists and go down. -/
def portsDown (s : Dev) : Dev :=
  let s := ((List.range 64).filter (fun m => fget s (RF.SHC_EPOCH_VALID m) == 1)).foldl (fun s m =>
    let d := fget s (RF.SHC_EPOCH_DEVICE m)
    if fabReach s d then sendFab s d 0 0 false .depart else s) s
  let s := (List.range 16).foldl (fun s p =>
    fset (fset (fset s (RF.FAB_PORT_STATUS_STATE p) 0) (RF.FAB_PORT_STATUS_SECURE p) 0) (RF.FAB_PORT_STATUS_BW_GBPS p) 0) s
  fset s RF.FAB_STATUS_PORTS_UP 0

/-- Island rails turn off, the tiers enter self-refresh, and what was in flight is over; the log region stays intact where it is (R439, R470). -/
def railsOff (s : Dev) : Dev :=
  let s := (List.range 44).foldl (fun s i => if fget s (RF.PWR_ISLAND_STATE i) = 3 then s else fset s (RF.PWR_ISLAND_STATE i) 2) s
  let intact := fget s RF.BRG_START_STATUS_STAGE == 9 || s.log.held
  { s with cores := [], disp := [], net := [], blocked := [], fe := FrontEnd.reset, traceQ := [],
           shore := { s.shore with lines := [], fills := [], dir := [], txn := [], queue := [], wants := [], heldFwd := [] },
           mem := { s.mem with wcb := [], writes := [], moves := [], asleep := List.range 96 },
           log := { s.log with held := intact && s.start.primary && s.start.secondary } }

/-- Steps 2 and 3 of R496: all work ends, the host port asserts viral, and the fabric ports go down. -/
def endAllWork (s : Dev) : Dev :=
  let s := (tkeys s.traces).foldl (fun s t => endTrace s t 3) s
  let s := railsOff (portsDown s)
  { s with out := s.out ++ [.viral] }

/-- A device-fatal fault (R496): the first one stands until the next start. DEDUCED: log entry 73. -/
def deviceFatal (s : Dev) (cause : Nat) : Dev :=
  if fget s RF.BRG_ERR_STATUS_FATAL = 1 then s
  else
    let old := regRead s Reg.BRG_ERR_STATUS
    let s := fset (fset s RF.BRG_ERR_STATUS_FATAL 1) RF.BRG_ERR_STATUS_FATAL_CAUSE cause
    let s := if cause = 7 then fset s RF.PWR_STATUS_HALTED 1 else s
    let s := endAllWork s
    let s := logFw s 1 Reg.BRG_ERR_STATUS old (regRead s Reg.BRG_ERR_STATUS)
    let s := if s.log.started then beginCheckpoint s (if cause = 7 then 3 else 2) else s
    showFault (sendMsix (sendAlert s) 0 (fget s RF.PWR_LIMITS_POWER_VECTOR % 64))

/-! ### Loss of an island (R487 to R490) -/

/-- The site of a logical island. -/
def siteOf (s : Dev) (i : Nat) : Option Nat :=
  lowest 48 (fun n => fget s (RF.BRG_SITE_STATUS_LOGICAL n) == i && (fget s (RF.BRG_SITE_STATUS_STATE n) == 0 || fget s (RF.BRG_SITE_STATUS_STATE n) == 3))

/-- The site registers that a SITE_MAP entry carries. -/
def siteRegs (s : Dev) : List Nat :=
  [regRead s Reg.BRG_ENABLE_MAP, regRead s Reg.BRG_SPARE_MAP, regRead s Reg.BRG_LOST_MAP, regRead s Reg.BRG_PKG_LEVEL]

/-- The contents of a lost slice go (R230): lines of this device are refetched, those held dirty being found by their mark; lines of peers and hosts are
given back poisoned where they were dirty. DEDUCED: log entry 51. -/
def loseSlice (s : Dev) (i : Nat) : Dev :=
  (s.shore.lines.filter (fun p => sliceOf s p.1 == i)).foldl (fun s p => match p.2.hold with
    | .home => dropLine s p.1
    | .pending => putLine s p.1 { p.2 with poison := 3 }
    | _ => evictLine s p.1 { p.2 with poison := 3 }) s

/-- What a dispatch that ran on a lost island ends with. DEDUCED: log entry 45. -/
def lostResult (s : Dev) (d : Dispatch) (i : Nat) : DispResult :=
  { status := eIslandLost, group := 0xFFFFFFFF, r1 := i, r2 := 0, r3 := min d.poisonTiles 65535, flags := (dispFlags s d).toNat }

/-- Work that waits cannot get the islands it needs any more. DEDUCED: log entry 45. -/
def cannotRun (s : Dev) (d : Dispatch) (i : Nat) : Bool :=
  if d.plain then bitOf d.islands i else decide ((liveIslands s d.islands).length < wanted s d)

/-- A dispatch meets the loss of an island: it ends where it runs on it; where it waits, it goes without that island or ends. DEDUCED: log entry 45. -/
def dispatchLoses (s : Dev) (n i : Nat) : Dev :=
  match tget s.disp n with
  | none => s
  | some d =>
    if d.phase = .running ∨ d.phase = .ended then (if d.got.contains i then conclude s n (lostResult s d i) else s)
    else
      let s := if d.got.contains i then modDisp s n (fun d => { d with got := d.got.filter (· != i), cores := [], canon := [], phase := .waiting }) else s
      if cannotRun s d i then conclude s n (lostResult s d i) else s

/-- An island is lost. `baseDead` says that its base die has failed as well. DEDUCED: log entry 45. -/
def loseIsland (s : Dev) (i : Nat) (baseDead : Bool) : Dev :=
  match siteOf s i with
  | none => s
  | some n =>
    if fget s (RF.PWR_ISLAND_STATE i) = 3 ∨ fget s RF.BRG_ERR_STATUS_FATAL = 1 then s
    else
      let old := siteRegs s
      let s := loseSlice s i
      let s := regWrite s Reg.BRG_LOST_MAP (regRead s Reg.BRG_LOST_MAP ||| 2 ^ n)
      let s := fset (fset (fset s (RF.BRG_SITE_STATUS_STATE n) 3) (RF.BRG_SITE_STATUS_CHECK n) 0x0A) (RF.BRG_SITE_STATUS_DEFECT_ORIGIN n) 3
      let s := { s with flash := { s.flash with sites := tmod s.flash.sites n (fun x => { x with origin := 3 }) } }
      let s := fset (fset s (RF.PWR_ISLAND_STATE i) 3) (RF.SHC_SLICE_STATUS_STATE i) 3
      let s := fset (fset s (RF.SHC_SLICE_STATUS_DIRTY_LINES i) 0) (RF.PWR_ISLAND_STRETCH i) 0
      let s := if baseDead then fset s RF.CLK_STATUS_SITE_LOCK (setBits (fget s RF.CLK_STATUS_SITE_LOCK) n 1 0) else s
      let s := { s with power := { s.power with wake := s.power.wake.filter (· != i) } }
      let s := (tkeys s.disp).foldl (fun s k => dispatchLoses s k i) s
      let s := (List.range 4).foldl (fun s c => setCore s (4 * i + c) Core.reset) s
      let s := { s with net := tfilter s.net (fun _ r => r.core / 4 != i), xl := { s.xl with l2 := s.xl.l2.filter (fun p => p.1 != i) } }
      let s := fsat s RF.BRG_ERR_STATUS_ISLANDS_LOST 1
      let s := endReason (endReason (endReason s 3 i) 5 i) 6 i
      let s := showSlices s
      let s := bump (logFw s 5 1 (pack8 old) (pack8 (siteRegs s))) Reg.BRG_CNT_ISLAND_LOSSES
      if (setMembers s 0).all (sliceLost s) then deviceFatal s 12 else s

/-- Nodes that straits in service join to HW. -/
def reached (s : Dev) : List Nat :=
  let up := (List.range 110).filter (straitUp s)
  (List.range 52).foldl (fun l _ => up.foldl (fun l k =>
    if l.contains (endA k) then insertNat (endB k) l else if l.contains (endB k) then insertNat (endA k) l else l) l) [48]

/-- What the surviving straits do not reach: sites are lost islands, an edge die with no strait is device-fatal (R47). DEDUCED: log entry 45. -/
def checkReach (s : Dev) : Dev :=
  if [48, 49, 50, 51].any (fun e => (straitsOf e).all (fun k => !straitUp s k)) then deviceFatal s 3
  else
    let r := reached s
    (List.range 44).foldl (fun s i => match siteOf s i with
      | some n => if r.contains n then s else loseIsland s i false
      | none => s) s

/-- An island may be lost: from stage 4 on. -/
def inService (s : Dev) : Bool := decide (fget s RF.BRG_START_STATUS_STAGE ≥ 4) && fget s RF.BRG_ERR_STATUS_FATAL == 0

/-- ISLAND_LOSS (R487): a PLL of its base die, its power controller or rail, or the hybrid bond has failed. -/
def execIslandLoss (island : Nat) (baseDead : Bool) (s : State) : Host.Outcome State Fault Refusal :=
  perform s (fun s => if inService s then loseIsland s island baseDead else s)

/-- ISLAND_OVERHEAT (R469, R487): a compute die has stood at 115 °C or above for 1 ms. -/
def execIslandOverheat (island : Nat) (s : State) : Host.Outcome State Fault Refusal :=
  perform s (fun s => if inService s ∧ fget s (RF.THM_ISLAND_TEMP_C island) ≥ 115 ∧ island < 44 then loseIsland s island false else s)

/-! ### Control-core pairs and domains (R450, R491, R495) -/

/-- Control-core pairs in service, in BRG_ERR_STATUS. -/
def showPairsOk (s : Dev) : Dev :=
  let n := fun (d : Nat) => fget s (RF.BRG_EDGE_STATUS_CTL_PAIR0_OK d) + fget s (RF.BRG_EDGE_STATUS_CTL_PAIR1_OK d)
  fset (fset s RF.BRG_ERR_STATUS_CTL_PAIRS_HW (n 0)) RF.BRG_ERR_STATUS_CTL_PAIRS_HE (n 1)

/-- CTL_PAIR_MISMATCH (R491): a pair of HW (0) or HE (1) fails its compare; the other takes its work over from the command store. -/
def execCtlPairMismatch (die pair : Nat) (s : State) : Host.Outcome State Fault Refusal :=
  perform s (fun s =>
    let f := if pair = 0 then RF.BRG_EDGE_STATUS_CTL_PAIR0_OK die else RF.BRG_EDGE_STATUS_CTL_PAIR1_OK die
    if die > 1 ∨ pair > 1 ∨ fget s f = 0 then s
    else
      let s := showPairsOk (fset s f 0)
      let s := logEvent s Reg.BRG_CNT_CTL_FAILOVERS 0
      if fget s (RF.BRG_EDGE_STATUS_CTL_PAIR0_OK die) = 0 ∧ fget s (RF.BRG_EDGE_STATUS_CTL_PAIR1_OK die) = 0 then deviceFatal s (die + 1) else s)

/-- DRBG_HEALTH_FAIL (R420, R495). -/
def execDrbgHealthFail (s : State) : Host.Outcome State Fault Refusal :=
  perform s (fun s => if fget s RF.SEC_STATUS_DRBG_OK = 0 then s else deviceFatal (fset s RF.SEC_STATUS_DRBG_OK 0) 6)

/-- PRIMARY_DOMAIN_STOP (R450, R495): the secondary domain takes the fault of cause 9. -/
def execPrimaryDomainStop (s : State) : Host.Outcome State Fault Refusal :=
  perform s (fun s =>
    if !s.start.primary then s
    else
      let s := { s with start := { s.start with primary := false }, log := { s.log with held := false } }
      deviceFatal s 9)

end Sys2Proof.Machine
end

