-- ==== Sys2Proof/Machine/MeshRows.lean ====
section
/-!
DEFINITION. The mesh rows (R35 to R46, R455): flits and control flits of a bundle-direction, given by strait, bundle and direction.
-/
namespace Sys2Proof.Machine

/-- A bundle-direction that exists, while the mesh runs. -/
def bdOk (s : Dev) (k b d : Nat) : Bool := meshOn s && decide (k < 110) && decide (b < 8) && decide (d < 2)

/-- Act on a bundle-direction. -/
def onBd (s : Dev) (k b d : Nat) (f : Dev → Dev) : Dev := if bdOk s k b d then f s else s

/-- FLIT_RECEIVE (R35). -/
def execFlitReceive (strait bundle dir : Nat) (flit : BitVec 2048) (s : State) : Host.Outcome State Fault Refusal :=
  perform s (fun s => onBd s strait bundle dir (fun s => meshFlit s strait bundle dir flit))

/-- NAK (R35). -/
def execMeshNak (strait bundle dir seq : Nat) (s : State) : Host.Outcome State Fault Refusal :=
  perform s (fun s => onBd s strait bundle dir (fun s => replayMesh s strait bundle dir seq))

/-- ROTATE_REQ (R38). -/
def execRotateReq (strait bundle dir lane : Nat) (s : State) : Host.Outcome State Fault Refusal :=
  perform s (fun s => onBd s strait bundle dir (fun s => askRepair s strait bundle dir lane false))

/-- NARROW_REQ (R39). -/
def execNarrowReq (strait bundle dir lane : Nat) (s : State) : Host.Outcome State Fault Refusal :=
  perform s (fun s => onBd s strait bundle dir (fun s => askRepair s strait bundle dir lane true))

/-- REPLAY_BUFFER_DRAINED (R38). -/
def execReplayBufferDrained (strait bundle dir : Nat) (s : State) : Host.Outcome State Fault Refusal :=
  perform s (fun s => onBd s strait bundle dir (fun s => startTraining s strait bundle dir))

/-- LANE_TRAIN_COMPLETE (R38, R39). -/
def execLaneTrainComplete (strait bundle dir : Nat) (ok : Bool) (s : State) : Host.Outcome State Fault Refusal :=
  perform s (fun s => onBd s strait bundle dir (fun s => endTraining s strait bundle dir ok))

/-- ROTATE_ACK (R38): `ok` says that all 64 idle flits passed. -/
def execRotateAck (strait bundle dir : Nat) (ok : Bool) (s : State) : Host.Outcome State Fault Refusal :=
  perform s (fun s => onBd s strait bundle dir (fun s => switchLane s strait bundle dir ok))

/-- BUNDLE_DIRECTION_LOSS (R40): its clock pair has failed, or fewer than 32 good lanes are left. -/
def execBundleDirectionLoss (strait bundle dir : Nat) (s : State) : Host.Outcome State Fault Refusal :=
  perform s (fun s => onBd s strait bundle dir (fun s => loseBd s strait bundle dir))

/-- BUNDLE_RETRAIN_COMPLETE (R35, R39, R40): a retrain that fails at full width narrows, and one in narrowed mode loses the bundle-direction. -/
def execBundleRetrainComplete (strait bundle dir : Nat) (ok : Bool) (s : State) : Host.Outcome State Fault Refusal :=
  perform s (fun s => onBd s strait bundle dir (fun s =>
    let x := bdAt s strait bundle dir
    if x.phase ≠ .retraining then s
    else if ok then resumeBd s strait bundle dir x.wasNarrow
    else if x.wasNarrow then loseBd s strait bundle dir
    else narrowNow s strait bundle dir))

/-- ROUTER_FAIL (R45, R47): a base die stops forwarding, its four straits are lost, and its island with them. DEDUCED: log entry 72. -/
def execRouterFail (site : Nat) (s : State) : Host.Outcome State Fault Refusal :=
  perform s (fun s =>
    if !meshOn s || decide (site > 47) then s
    else
      let s := (straitsOf site).foldl (fun s k => loseStrait s k 0 0 (laneRegs s k 0 0)) s
      match lowest 44 (fun i => siteOf s i == some site) with
      | some i => loseIsland s i true
      | none => s)

/-- ROUTE_SWITCH (R45): every router switches to its standby tables at once. -/
def execRouteSwitch (s : State) : Host.Outcome State Fault Refusal :=
  perform s (fun s =>
    if meshOn s && s.mesh.switching && fget s RF.STR_MESH_STATUS_STANDBY_VALID == 1 then checkReach (switchRoutes s) else s)

/-- SLOW_REROUTE_COMPLETE (R46): a loss without standby sets. -/
def execSlowRerouteComplete (s : State) : Host.Outcome State Fault Refusal :=
  perform s (fun s =>
    if meshOn s && s.mesh.switching && fget s RF.STR_MESH_STATUS_STANDBY_VALID == 0 then
      checkReach (switchRoutes (logEvent s Reg.STR_CNT_SLOW_REROUTES 0))
    else s)

/-- STANDBY_RECOMPUTE_DONE (R44). -/
def execStandbyRecomputeDone (s : State) : Host.Outcome State Fault Refusal :=
  perform s (fun s => if meshOn s && !s.mesh.switching then fset s RF.STR_MESH_STATUS_STANDBY_VALID 1 else s)

/-- RESYNC_QUERY (R40, R45): the far end answers with the last number it accepted. -/
def execResyncQuery (strait bundle dir : Nat) (s : State) : Host.Outcome State Fault Refusal :=
  perform s (fun s => onBd s strait bundle dir (fun s =>
    { s with out := s.out ++ [.meshCtl strait bundle dir 6 (((bdAt s strait bundle dir).rx + 2 ^ 32 - 1) % 2 ^ 32)] }))

/-- RESYNC_REPLY (R40, R45). -/
def execResyncReply (strait bundle dir last : Nat) (s : State) : Host.Outcome State Fault Refusal :=
  perform s (fun s => onBd s strait bundle dir (fun s => resendLost s strait bundle dir last))

/-- The bundle of a strait-direction that never parks: bundle 0, or where that is lost the lowest-numbered one in service (R455, note s of R501). -/
def neverParks (s : Dev) (k d : Nat) : Nat := (lowest 8 (fun b => bdMode s k b d != 3)).getD 0

/-- STRAIT_PARK (R455): an idle bundle-direction parks its data lanes; its MODE and bandwidth stay. -/
def execStraitPark (strait bundle dir : Nat) (s : State) : Host.Outcome State Fault Refusal :=
  perform s (fun s => onBd s strait bundle dir (fun s =>
    if fget s RF.PWR_IDLE_POLICY_STRAIT_PARK_US = 0 ∨ bundle = neverParks s strait dir ∨ bdMode s strait bundle dir > 1
        ∨ !(bdAt s strait bundle dir).replay.isEmpty then s
    else modBd s strait bundle dir (fun x => { x with parked := true })))

/-- STRAIT_UNPARK (R455): a parked bundle-direction returns to service. -/
def execStraitUnpark (strait bundle dir : Nat) (s : State) : Host.Outcome State Fault Refusal :=
  perform s (fun s => onBd s strait bundle dir (fun s =>
    if (bdAt s strait bundle dir).parked then drainMesh (modBd s strait bundle dir (fun x => { x with parked := false })) else s))

end Sys2Proof.Machine
end

