-- ==== Sys2Proof/Machine/Migration.lean ====
section
/-!
DEFINITION. Saving, restoring and migration keys (R411 to R414). The image's records are enciphered, and the spec gives its sections no bit layout: an image is
what a key makes of its contents.
-/
namespace Sys2Proof.Machine

/-- What a migration image says (R412): the header, session entries by index less SES_FIRST, bindings and rings by number, the fault ring with its next batch,
the bytes of the frames by instance offset with frames whose bytes the spec leaves open by ordinal, and the poisoned sectors. -/
structure MigImage where
  version : Nat
  islands : Nat
  reach : Nat
  sesFirst : Nat
  sesCount : Nat
  maxBindings : Nat
  maxRings : Nat
  framesA : Nat
  framesB : Nat
  root : Option Nat
  keyGen : Nat
  sessions : List (Nat × Session)
  bindings : List (Nat × Binding)
  rings : List (Nat × Ring)
  fault : Option FltInst
  nextBatch : Nat
  fltRing : Nat
  cells : List Host.Cell
  open_ : List (Nat × Nat)
  poison : List Nat
deriving DecidableEq, Repr

end Sys2Proof.Machine

namespace Sys2Proof.Config
open Sys2Proof.Machine

/-- The records of an image under a migration key. -/
opaque sealImage : Nat → MigImage → List Byte

/-- What the records before the Frames section say under a key: none where a tag, an INDEX or a COUNT is wrong (R414). -/
opaque openHead : Nat → List Byte → Option MigImage

/-- What all the records say under a key: none where a tag or an INDEX is wrong, or a record is missing (R414). -/
opaque openAll : Nat → List Byte → Option MigImage

end Sys2Proof.Config

namespace Sys2Proof.Machine

/-! ### Keys (R411) -/

/-- INS_MIG_KEY. What the peer presents in the session, and the name of the key that both ends derive, are given. DEDUCED: log entry 94. -/
def execInsMigKey (c : Cmd) (chain measured : List Byte) (key : Nat) (s : State) : Host.Outcome State Fault Refusal :=
  perform s (fun s => command 0x99 c s (fun x s =>
    let slot := eb x.e 16 1
    let role := eb x.e 17 1
    let path := eb x.e 18 1
    let d := eb x.e 20 2
    afterChecks s [(decide (slot > 7) || decide (role > 1) || decide (path > 1) || (path == 0 && decide (d > 32767)), eArg)]
      (if path = 0 ∧ !fabReach s d then (s, .done { Ret.ok with status := ePeerGone })
       else if !(Config.verifies 0 chain && measuredOk s measured) then (authFail s, .done { Ret.ok with status := eAuth })
       else
         let s := { s with trust := { s.trust with slots := tset s.trust.slots slot (role, key) } }
         (logFw s 9 (7 + 2 ^ 8 * slot) 0 0, .done Ret.ok))))

/-- The key of a slot that has the right role; a slot is cleared after its one use. -/
def slotKey (s : Dev) (slot role : Nat) : Option Nat :=
  match tget s.trust.slots slot with
  | some (r, k) => if r = role then some k else none
  | none => none

/-- Clear a slot. -/
def clearSlot (s : Dev) (slot : Nat) : Dev := { s with trust := { s.trust with slots := tdel s.trust.slots slot } }

/-! ### Saving (R412, R413) -/

/-- Ordinal of a frame among those an instance owns. -/
def ordinalOf (s : Dev) (i fr : Nat) : Nat := (framesOf s i).idxOf fr

/-- Frame addresses become instance offsets (or, at a restore, the other way): `place` maps the address of a TABLE entry or of a TARGET 0 leaf, none where
the entry is written with V at 0. -/
def relocate (ok : Nat → Bool → Nat → Bool) (place back : Nat → Nat) (d : Dram) (table : Nat) (t64 : Bool) : Nat → Dram
  | 0 => (List.range (if t64 then 32 else 512)).foldl (fun d i => one d 0 i) d
  | n + 1 => (List.range 512).foldl (fun d i =>
      let e := entry d i
      let d' := one d (n + 1) i
      if eV e && ok (n + 1) t64 e && eKind e != 1 then relocate ok place back d' (back (eAddr e)) (eKind e == 2) n else d') d
where
  /-- An entry of the table. -/
  entry (d : Dram) (i : Nat) : Nat := ofLe ((List.range 8).map (fun b => dramByte d (table + 8 * i + b)))
  /-- Write one entry as it reads in the other frame of reference. -/
  one (d : Dram) (level i : Nat) : Dram :=
    let e := entry d i
    if !eV e then d
    else
      let v := if !ok level t64 e then setBits e 0 1 0
        else if eKind e = 1 ∧ eTarget e ≠ 0 then e
        else setBits e 12 45 (place (eAddr e) / 4096)
      (List.range 8).foldl (fun d b => dramSet d (table + 8 * i + b) (byteAt v b)) d

/-- An entry passes checks 3 and 4 of R267 for an instance. -/
def entryPasses (s : Dev) (i level : Nat) (t64 : Bool) (e : Nat) : Bool :=
  entryOk level t64 e && (if eKind e = 1 then targetOk s i e (2 ^ leafBits level t64) else ownsRange s i (eAddr e) 4096)

/-- The frames of an instance as the memory holds them, once its slices have written back. -/
def flushInstance (s : Dev) (i : Nat) : Dev :=
  (framesOf s i).foldl (fun s fr =>
    let s := (s.shore.dir.filter (fun p => p.1 / 2 ^ 15 == fr && p.2.state == .dirty)).foldl (fun s p =>
      { s with blocked := s.blocked ++ [(p.1, 0)] }) s
    let s := (s.shore.lines.filter (fun p => p.1 / 2 ^ 15 == fr)).foldl (fun s p => cleanHomeLine s p.1 p.2) s
    (s.mem.writes.filter (fun w => w.line / 2 ^ 15 == fr)).foldl (fun s w => drainWrites s w.line) s) s

/-- Write-combining entries as they would read. -/
def mergeCombined (s : Dev) (d : Dram) : Dram :=
  s.mem.wcb.foldl (fun d p => p.2.foldl (fun d w => dramMerge d w.sec w.mask w.data) d) d

/-- Poisoned sectors of an instance, with those on channels that are holes (note p of R501). -/
def poisonOf (s : Dev) (i : Nat) : List Nat :=
  (framesOf s i).foldl (fun l fr =>
    l ++ (List.range 65536).filterMap (fun k =>
      let sec := fr * 65536 + k
      let hole := match chanOf s (32 * sec) with
        | some id => isHole s id
        | none => true
      if dramPoisoned s.dram sec || hole then some (insOffset s i (32 * sec)) else none)) []

/-- The image of an instance whose slices have written back. DESIGN CHOICE: log entry 93. -/
def imageOf (s : Dev) (i : Nat) : MigImage :=
  let d := mergeCombined s s.dram
  let rooted := fget s (RF.TRN_ROOT_VALID i) == 1
  let root := fget s (RF.TRN_ROOT_ROOT i) * 4096
  let d := if rooted then relocate (entryPasses s i) (insOffset s i) id d root false 4 else d
  let mine := framesOf s i
  let first := fget s (RF.INS_SESSIONS_FIRST i)
  { version := 1, islands := fget s (RF.INS_ISLANDS_ISLANDS i), reach := fget s (RF.INS_STATUS_REACH i), sesFirst := first,
    sesCount := fget s (RF.INS_SESSIONS_COUNT i), maxBindings := fget s (RF.INS_QUOTA_MAX_BINDINGS i),
    maxRings := fget s (RF.INS_QUOTA_MAX_RINGS i), framesA := fget s (RF.INS_FRAMES_FRAMES_A i), framesB := fget s (RF.INS_FRAMES_FRAMES_B i),
    root := if rooted then some (insOffset s i root) else none, keyGen := fget s (RF.INS_STATUS_KEY_GEN i),
    sessions := (s.fe.sessions.filter (fun p => p.2.inst == i)).map (fun p => (p.1 - first, p.2)),
    bindings := s.fe.bindings.filter (fun p => p.2.inst == i),
    rings := (s.fe.rings.filter (fun p => p.1 / 4096 == i && p.1 % 4096 != 0)).map (fun p => (p.1 % 4096, p.2)),
    fault := tget s.xl.insts i, nextBatch := fget s (RF.FLT_STATUS_NEXT_BATCH i), fltRing := regRead s (Reg.FLT_RING i),
    cells := (d.cells.filter (fun c => mine.contains (c.1 / 2 ^ 21))).map (fun c => (insOffset s i c.1, c.2)),
    open_ := d.scrambled.filterMap (fun p => if mine.contains p.1 then some (ordinalOf s i p.1, p.2) else none),
    poison := poisonOf s i }

/-- Length of an image in bytes: its stream in records of 65,504 B of payload. DESIGN CHOICE: log entry 93. -/
def imageBytes (m : MigImage) : Nat :=
  65536 * ceilDiv (4096 + 64 * m.sesCount + 64 * m.bindings.length + 64 * m.rings.length + 64 + 2 ^ 21 * (m.framesA + m.framesB)
    + 8 * m.poison.length) 65504

/-- INS_SAVE. DESIGN CHOICE: log entry 93. -/
def execInsSave (c : Cmd) (s : State) : Host.Outcome State Fault Refusal :=
  perform s (fun s => command 0x97 c s (fun x s =>
    let i := eb x.e 16 1
    let slot := eb x.e 17 1
    let va := eb x.e 24 8
    let len := eb x.e 32 8
    let early := firstCode [(i == 0 || decide (slot > 7), eArg), (va % 4096 != 0, eAlign)]
    if early ≠ 0 then (s, .reject early)
    else
      let (s, c1) := vaCheck s 0 va len 1
      let s' := flushInstance s i
      let m := imageOf s' i
      afterChecks s ([(c1 != 0, c1)] ++ namedState s i ++ [(insState s i != 3 || (slotKey s slot 0).isNone, eState),
          (fget s (RF.FLT_STATUS_UNRESUMED i) != 0, eBusy), (decide (len < imageBytes m), eNoSpace)])
        (let key := (slotKey s slot 0).getD 0
         (clearSlot (vaWrite s' 0 va ((Config.sealImage key m).take (imageBytes m))).1 slot, .done Ret.ok))))

/-! ### Restoring (R414) -/

/-- The image is not one that its target can take: the first code of the checks 2 to 4. -/
def imageCode (s : Dev) (i : Nat) (m : MigImage) : Nat :=
  firstCode [(m.version != 1, eReserved),
    (m.islands != fget s (RF.INS_ISLANDS_ISLANDS i) || m.reach != fget s (RF.INS_STATUS_REACH i)
      || m.sesFirst != fget s (RF.INS_SESSIONS_FIRST i) || m.sesCount != fget s (RF.INS_SESSIONS_COUNT i)
      || m.maxBindings != fget s (RF.INS_QUOTA_MAX_BINDINGS i) || m.maxRings != fget s (RF.INS_QUOTA_MAX_RINGS i)
      || m.framesA != fget s (RF.INS_FRAMES_FRAMES_A i) || m.framesB != fget s (RF.INS_FRAMES_FRAMES_B i), eArg),
    (m.rings.any (fun p => thas s.fe.rings (ringKey i p.1)) || m.bindings.any (fun p => thas s.fe.bindings p.1), eBusy)]

/-- Address of an instance offset in the target's frame of the same ordinal. -/
def fromOffset (s : Dev) (i off : Nat) : Nat := ((framesOf s i)[off / 2 ^ 21]?).getD 0 * 2 ^ 21 + off % 2 ^ 21

/-- The frames of the target take the image's bytes, poison and tables. -/
def installFrames (s : Dev) (i : Nat) (m : MigImage) : Dev :=
  let s := (framesOf s i).foldl (fun s fr => { dropWrites (dropFrameLines (freeEntries s fr) fr false) fr with dram := dramZeroFrame s.dram fr }) s
  let d := m.open_.foldl (fun d p => dramScrambleFrame d (fromOffset s i (p.1 * 2 ^ 21) / 2 ^ 21) p.2) s.dram
  let d := m.cells.foldl (fun d c => dramSet d (fromOffset s i c.1) c.2) d
  let d := m.poison.foldl (fun d o => dramSetPoison d (fromOffset s i o / 32) true) d
  let d := match m.root with
    | some r => relocate entryOk (fromOffset s i) (fromOffset s i) d (fromOffset s i r) false 4
    | none => d
  { s with dram := d }

/-- Sessions, bindings, rings, the fault ring and the root of an image come back; its rings are put into service by INS_RESUME.
DESIGN CHOICE: log entry 93. -/
def installImage (s : Dev) (i : Nat) (m : MigImage) : Dev :=
  let s := installFrames s i m
  let s := m.sessions.foldl (fun s p => putSession s (p.1 + m.sesFirst) { p.2 with inst := i }) s
  let s := { s with fe := { s.fe with
    bindings := m.bindings.foldl (fun t p => tset t p.1 { p.2 with inst := i }) s.fe.bindings,
    rings := m.rings.foldl (fun t p => tset t (ringKey i p.1) p.2) s.fe.rings } }
  let s := match m.fault with
    | some f => { s with xl := { s.xl with insts := tset s.xl.insts i f } }
    | none => s
  let s := regWrite (fset s (RF.FLT_STATUS_NEXT_BATCH i) m.nextBatch) (Reg.FLT_RING i) m.fltRing
  let s := match m.root with
    | some r => fset (fset s (RF.TRN_ROOT_VALID i) 1) (RF.TRN_ROOT_ROOT i) (fromOffset s i r / 4096)
    | none => s
  let s := fset (showRings (showBindings s i) i) (RF.INS_STATUS_KEY_GEN i) m.keyGen
  { s with ins := { s.ins with unfilled := s.ins.unfilled.filter (· != i) } }

/-- INS_RESTORE. The part of the buffer that lies in the memory of a host is the command's buffer. DESIGN CHOICE: log entry 93. -/
def execInsRestore (c : Cmd) (s : State) : Host.Outcome State Fault Refusal :=
  perform s (fun s => drainResets (command 0x98 c s (fun x s =>
    let i := eb x.e 16 1
    let slot := eb x.e 17 1
    let va := eb x.e 24 8
    let len := eb x.e 32 8
    let early := firstCode [(i == 0 || decide (slot > 7), eArg), (va % 4096 != 0, eAlign)]
    if early ≠ 0 then (s, .reject early)
    else
      let (s, c1) := vaCheck s 0 va len 0
      let bad := firstCode ([(c1 != 0, c1)] ++ namedState s i ++ [(insState s i != 3 || (slotKey s slot 1).isNone || !s.ins.unfilled.contains i, eState)])
      if bad ≠ 0 then (s, .reject bad)
      else
        let (s, bytes, _) := vaGiven s 0 va len x.payload
        let key := (slotKey s slot 1).getD 0
        match Config.openHead key bytes with
        | none => (s, .reject eAuth)
        | some h =>
          if imageCode s i h ≠ 0 then (s, .reject (imageCode s i h))
          else match Config.openAll key bytes with
            | none => (beginReset { clearSlot s slot with ins := { s.ins with after := tset s.ins.after i 2 } } i, .later)
            | some m => (clearSlot (installImage s i m) slot, .done Ret.ok))))

end Sys2Proof.Machine
end

