-- ==== Sys2Proof/Machine/Controllers.lean ====
section
/-!
DEFINITION. The memory controllers' own rows (chapter 09, R457): writes, write-combining timeouts, thermal states of stacks and packages, self-refresh, lost layers and regulator windows.
-/
namespace Sys2Proof.Machine

/-! ### Thermal states (R256 to R258) -/

/-- THERMAL of a stack (0 to 7) or package (8 + k). -/
def thermalFld (u : Nat) : Fld := if u < 8 then RF.MEM_A_THERMAL_THERMAL u else RF.MEM_B_PKG_THERMAL (u - 8)
/-- DUTY of a unit. -/
def dutyFld (u : Nat) : Fld := if u < 8 then RF.MEM_A_THERMAL_DUTY u else RF.MEM_B_PKG_DUTY (u - 8)
/-- The unit's number in a throttle reason (R464). -/
def thermalUnitCode (u : Nat) : Nat := if u < 8 then u else 0x40 + (u - 8)
/-- Thermal bookkeeping of a unit. -/
def thermalUnit (s : Dev) (u : Nat) : ThermalUnit := tgetD s.mem.units u ⟨none, false⟩
/-- Change it. -/
def modUnit (s : Dev) (u : Nat) (f : ThermalUnit → ThermalUnit) : Dev :=
  { s with mem := { s.mem with units := tset s.mem.units u (f (thermalUnit s u)) } }

/-- An entry to Hot or Duty, or a change of the level d (R259): counted, entered in the log, and reported as stack thermal. -/
def thermalEvent (s : Dev) (u : Nat) : Dev :=
  let s := bump s Reg.MEM_CNT_THERMAL_EVENTS
  if s.power.applies.contains (4, thermalUnitCode u) then logThrottle s 4 (thermalUnitCode u) else beginReason s 4 (thermalUnitCode u)

/-- The thermal state of a unit becomes t (R256, R257): the level d starts at 1 in Duty and is 0 outside it, and stack thermal is a
throttle reason outside Normal. -/
def setThermal (s : Dev) (u t : Nat) : Dev :=
  let old := fget s (thermalFld u)
  if old = t ∨ old = 3 then s
  else
    let s := fset (fset s (thermalFld u) t) (dutyFld u) (if t = 2 then 1 else 0)
    let s := if t = 2 then s else modUnit s u (fun x => { x with paused := false })
    if t = 0 then endReason s 4 (thermalUnitCode u) else thermalEvent s u

/-- The state a hottest layer's temperature leads to (R256). -/
def nextThermal (now t : Nat) : Nat :=
  if t ≥ 105 then 2
  else match now with
    | 2 => if t < 102 then 1 else 2
    | 1 => if t < 92 then 0 else 1
    | _ => if t ≥ 95 then 1 else 0

/-- The hottest of a list and its place. -/
def hottest (l : List Nat) : Nat × Nat :=
  ((List.range l.length).zip l).foldl (fun (b : Nat × Nat) p => if p.2 > b.2 then p else b) (0, l.headD 0)

/-- STACK_THERMAL_REPORT (R256, R258). -/
def execStackThermalReport (stack : Nat) (temps : List Nat) (s : State) : Host.Outcome State Fault Refusal :=
  perform s (fun s =>
    if stack ≥ 8 then s
    else
      let (layer, t) := hottest temps
      let s := fset (fset s (RF.MEM_A_THERMAL_HOT_TEMP stack) t) (RF.MEM_A_THERMAL_HOT_LAYER stack) layer
      let now := if stack < 4 then s.time.mn else s.time.ms
      let s := modUnit s stack (fun x => { x with hotSince := if t ≥ 115 then some (x.hotSince.getD now) else none })
      setThermal s stack (nextThermal (fget s (thermalFld stack)) t))

/-- MR4_REPORT (R257): the code, and whether the LPDDR5X standard makes it the high-temperature code (1) or the highest (2). -/
def execMr4Report (pkg code level : Nat) (s : State) : Host.Outcome State Fault Refusal :=
  perform s (fun s =>
    if pkg ≥ 32 then s
    else
      let s := fset s (RF.MEM_B_PKG_REFRESH_CODE pkg) code
      let now := if pkg < 16 then s.time.mn else s.time.ms
      let top := decide (level ≥ 2) && fget s (dutyFld (8 + pkg)) == 8
      let s := modUnit s (8 + pkg) (fun x => { x with hotSince := if top then some (x.hotSince.getD now) else none })
      setThermal s (8 + pkg) (min level 2))

/-- A unit in Duty stands at or above the limit that raises its level (R256, R257). -/
def dutyRises (s : Dev) (u : Nat) : Bool :=
  if u < 8 then decide (fget s (RF.MEM_A_THERMAL_HOT_TEMP u) ≥ 105) else true

/-- DUTY_LEVEL_STEP (R256, R259). -/
def execDutyLevelStep (unit : Nat) (s : State) : Host.Outcome State Fault Refusal :=
  perform s (fun s =>
    if unit ≥ 40 ∨ fget s (thermalFld unit) ≠ 2 then s
    else
      let d := fget s (dutyFld unit)
      let d' := if dutyRises s unit then min 8 (d + 1) else d - 1
      if d' = d then s else thermalEvent (fset s (dutyFld unit) d') unit)

/-- DUTY_PAUSE_PERIOD (R256): traffic to the unit pauses. -/
def execDutyPausePeriod (unit : Nat) (s : State) : Host.Outcome State Fault Refusal :=
  perform s (fun s =>
    if unit ≥ 40 ∨ fget s (thermalFld unit) ≠ 2 ∨ fget s (dutyFld unit) = 0 then s
    else modUnit s unit (fun x => { x with paused := true }))

/-- THERMAL_PAUSE_END (R256). -/
def execThermalPauseEnd (unit : Nat) (s : State) : Host.Outcome State Fault Refusal :=
  perform s (fun s => if unit ≥ 40 then s else modUnit s unit (fun x => { x with paused := false }))

/-- Mapped channels of a unit. -/
def unitChannels (s : Dev) (u : Nat) : List Nat := (s.mem.listA ++ s.mem.listB).filter (fun c => unitOf c == u)

/-- UNIT_THERMAL_SHUTDOWN (R258): every channel becomes a hole, the unit goes into self-refresh for good, and the event is
entered in the log. -/
def execUnitThermalShutdown (unit : Nat) (s : State) : Host.Outcome State Fault Refusal :=
  perform s (fun s =>
    if unit ≥ 40 ∨ fget s (thermalFld unit) = 3 ∨ (thermalUnit s unit).hotSince.isNone then s
    else
      let chans := unitChannels s unit
      let s := chans.foldl (fun s c => makeHole s c 3) s
      let groups := chans.map groupOf
      let s := { s with mem := { s.mem with asleep := groups.foldl (fun l g => insertNat g l) s.mem.asleep } }
      let old := regRead s Reg.MEM_CNT_THERMAL_EVENTS
      let s := fset (fset (bump s Reg.MEM_CNT_THERMAL_EVENTS) (thermalFld unit) 3) (dutyFld unit) 0
      let s := logFw s 15 Reg.MEM_CNT_THERMAL_EVENTS old (old + 1)
      beginReason (modUnit s unit (fun x => { x with paused := false })) 4 (thermalUnitCode unit))

/-! ### Reads and writes -/

/-- Traffic to a channel's unit is paused (R256). -/
def chanPaused (s : Dev) (id : Nat) : Bool := (thermalUnit s (unitOf id)).paused

/-- MEM_WRITE (R242, R244): the controller performs the oldest queued write of a line. -/
def execMemWrite (line retries : Nat) (failed : Bool) (s : State) : Host.Outcome State Fault Refusal :=
  perform s (fun s =>
    match s.mem.writes.find? (fun w => w.line == line) with
    | none => s
    | some w =>
      if (match chanOf s (64 * line) with
          | some id => chanPaused s id
          | none => false) then s
      else ctlWrite { s with mem := { s.mem with writes := s.mem.writes.erase w } } w retries failed)

/-- WCB_TIMEOUT (R243): a write-combining entry that is not full is retired by read-modify-write. DESIGN CHOICE: log entry 4. -/
def execWcbTimeout (sec : Nat) (outcome : ReadOutcome) (s : State) : Host.Outcome State Fault Refusal :=
  perform s (fun s =>
    match chanOf s (32 * sec) with
    | none => s
    | some id =>
      (match wcbFind s id sec with
       | none => s
       | some w =>
         let s := touchChannel s (32 * sec) id false
         (match outcome with
          | .burstFailed => makeHole s id 2
          | .uncorrectable => uncorrectable (wcbRetire (spoil s sec) id w) id sec
          | .corrected => wcbRetire (fsat (bump s Reg.MEM_CNT_CORRECTED) (chanCORRECTED id) 1) id w
          | .clean => wcbRetire s id w)))

/-- The sector after one in the order of a patrol: tier A, then tier B, then again. DESIGN CHOICE: log entry 54. -/
def nextScrub (s : Dev) (sec : Nat) : Nat :=
  let n := sec + 1
  if 32 * n < capA s then n
  else if 32 * n < tierB then (if capB s = 0 then 0 else tierB / 32)
  else if 32 * n < tierB + capB s then n
  else 0

/-- LAYER_LOSS (R246): a channel whose layer or interface is lost becomes a hole. -/
def execLayerLoss (channel : Nat) (s : State) : Host.Outcome State Fault Refusal :=
  perform s (fun s => if (s.mem.listA ++ s.mem.listB).contains channel then makeHole s channel 3 else s)

/-- SELF_REFRESH_ENTRY (R457): an idle channel group of tier A (0 to 63) or package of tier B (64 to 95) enters self-refresh. -/
def execSelfRefreshEntry (group : Nat) (s : State) : Host.Outcome State Fault Refusal :=
  perform s (fun s => if group ≥ 96 then s else { s with mem := { s.mem with asleep := insertNat group s.mem.asleep } })

/-- REGULATOR_WINDOW (R250, R251): used caps start again and new values take effect in one group. DESIGN CHOICE: log entry 53. -/
def execRegulatorWindow (group : Nat) (s : State) : Host.Outcome State Fault Refusal :=
  perform s (fun s => { s with mem := { s.mem with regul := tmap s.mem.regul (fun k r =>
    if k / 34 = group then
      (match r.next with
       | some (w, c) => { weight := w, cap := c, used := 0, next := none }
       | none => { r with used := 0 })
    else r) } })

end Sys2Proof.Machine
end

