-- ==== Sys2Proof/Machine/Mirrors.lean ====
section
/-!
DEFINITION. Reads of sectors by the controllers and the patrol scrub (R245), and what they find: in the tables of the firmware-reserved region (R239,
R482) mirrored copies and page access counters, and for an instance's frame a memory key that fails its check (R494).
-/
namespace Sys2Proof.Machine

/-! ### The firmware-reserved region of tier A (R239) -/

/-- Offset of a sector in the tier A firmware-reserved region. DEDUCED: log entry 119. -/
def reservedOffset (s : Dev) (sec : Nat) : Option Nat :=
  let base := fget s RF.MEM_RSVD_A_VALUE
  if inA s (32 * sec) ∧ base ≤ 32 * sec then some (32 * sec - base) else none

/-- Offset in a copy of the session table. -/
def inSessionTable (c : Nat) : Bool := decide (c < 64 * 2 ^ 20)

/-- Offset in a copy of the home map or of the ownership map, of which 1,310,720 B each are used. -/
def inFrameMaps (c : Nat) : Bool :=
  (decide (64 * 2 ^ 20 ≤ c) && decide (c < 64 * 2 ^ 20 + 1310720)) || (decide (66 * 2 ^ 20 ≤ c) && decide (c < 66 * 2 ^ 20 + 1310720))

/-- The 64 KiB page whose access counter stands at an offset: tier A's, then tier B's. -/
def countedPage (o : Nat) : Option Nat :=
  if o < 68 * 2 ^ 20 then none
  else if o < 76 * 2 ^ 20 then some (o - 68 * 2 ^ 20)
  else if o < 108 * 2 ^ 20 then some (tierB / 65536 + (o - 76 * 2 ^ 20))
  else none

/-- The bytes of a sector cannot be had: it is poisoned, its channel is a hole or it has no channel. -/
def sectorBad (s : Dev) (sec : Nat) : Bool :=
  dramPoisoned s.dram sec || (match chanOf s (32 * sec) with
    | some id => isHole s id
    | none => true)

/-- A sector is rewritten from its other copy, and the rewrite is counted (R482). -/
def repairMirror (s : Dev) (sec twin : Nat) : Dev :=
  let d := dramMerge s.dram sec (BitVec.allOnes 32) (dramSector s.dram twin)
  bump { s with dram := dramSetPoison d sec false } Reg.BRG_CNT_MIRROR_REPAIRS

/-- Both copies of a session's entry are bad (R482, R494, R534). An entry that the session cache holds is not lost. A session of instance 0 is set
Failed; any other instance takes an instance-fatal fault. DEDUCED: log entry 119. -/
def sessionLost (s : Dev) (n : Nat) : Dev :=
  if s.fe.cache.contains n then s
  else if holderOfSession s n = 0 then putSession (countFatal s 0) n { sesAt s n with state := .failed, lastCode := eUncorr }
  else instanceFatal s (holderOfSession s n)

/-- A sector of the firmware-reserved region cannot be read (R482). DEDUCED: log entry 119. -/
def reservedBad (s : Dev) (sec : Nat) : Dev :=
  match reservedOffset s sec with
  | none => s
  | some o =>
    let c := o % 2 ^ 29
    let twin := if o < 2 ^ 29 then sec + 2 ^ 24 else sec - 2 ^ 24
    if inSessionTable c then
      if sectorBad s (twin - twin % 2) || sectorBad s (twin - twin % 2 + 1) then sessionLost s (c / 64) else repairMirror s sec twin
    else if inFrameMaps c then (if sectorBad s twin then deviceFatal s 8 else repairMirror s sec twin)
    else match countedPage o with
      | some page => { s with mem := { s.mem with counters := s.mem.counters.filter (fun p => !(decide (page ≤ p.1) && decide (p.1 < page + 32))) } }
      | none => s

/-! ### Memory keys (R401, R494, R495, R534) -/

/-- The memory key of a frame's owner fails its integrity check: the instance takes an instance-fatal fault, and for instance 0 the module a device-fatal one. A
frame that no instance owns is under the device memory key, for which no fault is named. DEDUCED: log entry 119. -/
def keyFault (s : Dev) (sec : Nat) : Dev :=
  let i := ownerOf s (32 * sec / 2 ^ 21)
  if i = 0 then deviceFatal s 10 else if i ≤ 32 then instanceFatal s i else s

/-! ### Reads -/

/-- A read of a sector of the firmware-reserved region, for the device's own use: what it finds is dealt with (R482). -/
def readReserved (s : Dev) (sec : Nat) (outcome : ReadOutcome) (retries : Nat) : Dev :=
  match reservedOffset s sec, chanOf s (32 * sec) with
  | some _, some id =>
    if chanPaused s id then s
    else
      let (s, _, code) := ctlSector s id sec outcome retries true
      if code = 0 then s else reservedBad s sec
  | _, _ => s

/-- MEM_READ (R210, R235, R243 to R247, R482, R494): the controller reads a sector that a fill waits for, or one of the device's own tables; writes of its line that
arrived before go first. `copy` is the outcome at the replica's copy where that is read (R485), and `keyBad` says that the memory key of the sector's
owner fails its integrity check: what the fill gets is then left open, and marked poisoned. DESIGN CHOICE: log entries 7, 15. DEDUCED: log entry 119. -/
def execMemRead (sec : Nat) (outcome : ReadOutcome) (retries : Nat) (copy : ReadOutcome) (keyBad : Bool) (s : State) :
    Host.Outcome State Fault Refusal :=
  perform s (fun s =>
    let k := sec / 2
    match tget s.shore.fills k, chanOf s (32 * sec) with
    | some f, some id =>
      if (if sec % 2 = 0 then f.lo else f.hi).isSome ∨ chanPaused s id then s
      else
        let bad := keyBad && decide (ownerOf s (32 * sec / 2 ^ 21) ≤ 32)
        let (s, d, c) := ctlRead (drainWrites s k) sec outcome retries copy
        let (v, s) := if bad then takeFree s else (0, s)
        let x : FillHalf := if bad then ⟨BitVec.ofNat 256 v, ePoison⟩ else ⟨d, c⟩
        let f := if sec % 2 = 0 then { f with lo := some x } else { f with hi := some x }
        let s := tryFinishFill { s with shore := { s.shore with fills := tset s.shore.fills k f } } k
        if bad then keyFault s sec else s
    | none, _ => readReserved s sec outcome retries
    | _, _ => s)

/-! ### The patrol -/

/-- PATROL_SCRUB_READ (R245, R482): the next sector of the patrol is read as a read, charged to the device class (R249); an uncorrectable sector of the
firmware-reserved region has its own effect. DESIGN CHOICE: log entry 54. DEDUCED: log entry 119. -/
def execPatrolScrubRead (outcome : ReadOutcome) (retries : Nat) (s : State) : Host.Outcome State Fault Refusal :=
  perform s (fun s =>
    let sec := s.mem.scrubNext
    if fget s RF.MEM_SCRUB_POLICY_SCRUB_HOURS = 0 then s
    else match chanOf s (32 * sec) with
      | none => { s with mem := { s.mem with scrubNext := 0 } }
      | some id =>
        if chanPaused s id then s
        else
          let (s, _, code) := ctlSector s id sec outcome retries true
          let s := { s with mem := { s.mem with scrubNext := nextScrub s sec } }
          if code = eUncorr then reservedBad s sec else s)

end Sys2Proof.Machine
end

