-- ==== Sys2Proof/Machine/PowerOps.lean ====
section
/-!
DEFINITION. Power, clocks and thermal control (chapter 17).
-/
namespace Sys2Proof.Machine

/-! ### Frequency and issue-rate limit (R459 to R461) -/

/-- An MHz value as it acts: rounded down to 50, from 600 to 2,400. DEDUCED: log entry 97. -/
def mhz (v : Nat) : Nat := max 600 (min 2400 (v / 50 * 50))

/-- F of an island (R461). DEDUCED: log entry 97. -/
def islandF (s : Dev) (i : Nat) : Nat :=
  let pace := if s.power.applies.contains (6, i) then mhz (fget s RF.PWR_POLICY_PACE_MHZ) else 2400
  min (mhz (fget s RF.PWR_POLICY_FMAX_MHZ)) (min (fget s RF.PWR_LIMITS_F_CAP) (min (fget s RF.PWR_LIMITS_F_HOST_COOL)
    (min (fget s (RF.THM_ISLAND_F_THERM_MHZ i)) pace)))

/-- L of an island (R461). DEDUCED: log entry 97. -/
def islandL (s : Dev) (i : Nat) : Nat :=
  min 16 (min (fget s RF.PWR_LIMITS_L_CAP) (min (fget s RF.PWR_LIMITS_L_HOST_COOL) (min (fget s RF.PWR_LIMITS_L_CUR) (fget s (RF.THM_ISLAND_L_THERM i)))))

/-- Droop defers a frequency change (R463). -/
def deferChange (s : Dev) (i : Nat) : Dev :=
  if s.power.deferred.contains i then s
  else logThrottle (bump { s with power := { s.power with deferred := s.power.deferred ++ [i] } } Reg.CLK_CNT_DROOP_DEFERRALS) 5 i

/-- An island's limits follow the terms: L at once, F by a change that takes its time. One that is Gated or Off takes them at its next Run (R453).
DEDUCED: log entry 97. -/
def retargetIsland (s : Dev) (i : Nat) : Dev :=
  let f := islandF s i
  let s := fset s (RF.PWR_ISLAND_F_TARGET_MHZ i) f
  if fget s (RF.PWR_ISLAND_STATE i) ≠ 0 then s
  else
    let s := fset s (RF.PWR_ISLAND_L i) (islandL s i)
    if fget s (RF.PWR_ISLAND_F_MHZ i) = f then { s with power := { s.power with changing := tdel s.power.changing i } }
    else if tget s.power.changing i = some f then s
    else
      let s := { s with power := { s.power with changing := tset s.power.changing i f } }
      if fget s (RF.PWR_ISLAND_STRETCH i) = 1 then deferChange s i else s

/-- Islands of the module. -/
def islandCount (s : Dev) : Nat := fget s RF.BRG_PKG_LEVEL_ENABLED_COUNT

/-- Every island's limits follow the terms, and RATE shows it. -/
def retarget (s : Dev) : Dev := updateProgress ((List.range (islandCount s)).foldl retargetIsland s)

/-- DVFS_CHANGE_COMPLETE (R459). -/
def execDvfsChangeComplete (island : Nat) (s : State) : Host.Outcome State Fault Refusal :=
  perform s (fun s =>
    match tget s.power.changing island with
    | some f =>
      if s.power.deferred.contains island ∨ fget s (RF.PWR_ISLAND_STATE island) ≠ 0 then s
      else updateProgress (fset { s with power := { s.power with changing := tdel s.power.changing island } } (RF.PWR_ISLAND_F_MHZ island) f)
    | none => s)

/-- DVFS_DEFER_TIMEOUT (R463): a decrease goes on under the stretch, an increase is dropped. -/
def execDvfsDeferTimeout (island : Nat) (s : State) : Host.Outcome State Fault Refusal :=
  perform s (fun s =>
    if !s.power.deferred.contains island then s
    else
      let s := { s with power := { s.power with deferred := s.power.deferred.filter (· != island) } }
      if (tget s.power.changing island).any (fun f => decide (f > fget s (RF.PWR_ISLAND_F_MHZ island))) then
        { s with power := { s.power with changing := tdel s.power.changing island } }
      else s)

/-! ### Droop (R462, R463) -/

/-- DROOP_TRIP (R462). -/
def execDroopTrip (island : Nat) (s : State) : Host.Outcome State Fault Refusal :=
  perform s (fun s =>
    if island ≥ 44 ∨ fget s (RF.PWR_ISLAND_STATE island) ≠ 0 then s
    else beginReason (fset s (RF.PWR_ISLAND_STRETCH island) 1) 5 island)

/-- DROOP_RECOVER (R462, R463): the rail has been above the threshold for 32 cycles; a deferred change begins. -/
def execDroopRecover (island cycles : Nat) (s : State) : Host.Outcome State Fault Refusal :=
  perform s (fun s =>
    if island ≥ 44 ∨ fget s (RF.PWR_ISLAND_STRETCH island) = 0 then s
    else
      let s := bumpBy (fset s (RF.PWR_ISLAND_STRETCH island) 0) Reg.CLK_CNT_STRETCH_CYCLES cycles
      endReason { s with power := { s.power with deferred := s.power.deferred.filter (· != island) } } 5 island)

/-! ### Power cap and input current (R466 to R468) -/

/-- The caps with the reasons of their sources: power cap, coolant warning, host request. DEDUCED: log entry 97. -/
def caps (s : Dev) : List (Nat × Nat) :=
  [(1, min 3600 (fget s RF.PWR_POLICY_CAP_W))]
    ++ (if s.power.warning then [(7, max 600 (fget s RF.PWR_POLICY_COOL_WARN_W))] else [])
    ++ (if fget s RF.PWR_LIMITS_HOST_LIMIT_W = 0 then [] else [(8, fget s RF.PWR_LIMITS_HOST_LIMIT_W)])

/-- C and its source: the lowest, a tie going to the lowest reason code. DEDUCED: log entry 97. -/
def lowestCap (s : Dev) : Nat × Nat := (caps s).foldl (fun b p => if p.2 < b.2 then p else b) (1, min 3600 (fget s RF.PWR_POLICY_CAP_W))

/-- F_x of a source. -/
def capF (x : Nat) : Fld := if x = 1 then RF.PWR_LIMITS_F_CAP else RF.PWR_LIMITS_F_HOST_COOL
/-- L_x of a source. -/
def capL (x : Nat) : Fld := if x = 1 then RF.PWR_LIMITS_L_CAP else RF.PWR_LIMITS_L_HOST_COOL

/-- C has another source: the old one's terms are unset, and the new one starts from them. DEDUCED: log entry 97. -/
def changeSource (s : Dev) (x : Nat) : Dev :=
  let y := s.power.source
  if x = y then s
  else
    let f := fget s (capF y)
    let l := fget s (capL y)
    let s := fset (fset (fset (fset s RF.PWR_LIMITS_F_CAP 2400) RF.PWR_LIMITS_L_CAP 16) RF.PWR_LIMITS_F_HOST_COOL 2400) RF.PWR_LIMITS_L_HOST_COOL 16
    fset (fset { s with power := { s.power with source := x } } (capF x) f) (capL x) l

/-- A module reason applies while its terms hold the islands down. -/
def showCaps (s : Dev) : Dev :=
  let x := s.power.source
  let held := fun (r : Nat) => x == r && (decide (fget s (capF x) < 2400) || decide (fget s (capL x) < 16))
  let s := setReason s 1 0xFF (held 1 || decide (fget s RF.PWR_LIMITS_L_CAP < 16))
  let s := setReason s 7 0xFF (held 7 || s.power.warning)
  let s := setReason s 8 0xFF (held 8)
  setReason s 2 0xFF (decide (fget s RF.PWR_LIMITS_L_CUR < 16))

/-- The current limit of a sample, in units of 10 mA. -/
def ilim (s : Dev) : Nat := 100 * min 70 (fget s RF.PWR_POLICY_ILIM_A)

/-- POWER_SAMPLE (R466, R467, R471): input voltage in 10 mV and current in 10 mA. DEDUCED: log entry 96. -/
def execPowerSample (vin iin : Nat) (s : State) : Host.Outcome State Fault Refusal :=
  perform s (fun s =>
    let v := vin % 65536
    let i := iin % 65536
    let s := fset (fset s RF.PWR_STATUS_VIN_CV v) RF.PWR_STATUS_IIN_CA i
    let s := bumpBy s Reg.PWR_ENERGY_DEVICE (v * i / 1000)
    let s := { s with power := { s.power with samples := (s.power.samples ++ [v * i]).drop (s.power.samples.length - 9),
                                              calm := s.power.calm && decide (i + 200 < ilim s) } }
    let s := if v * i > 42000000 then fset s RF.PWR_LIMITS_L_CAP (max 4 (fget s RF.PWR_LIMITS_L_CAP - 4)) else s
    let s := if i > ilim s then fset s RF.PWR_LIMITS_L_CUR 8 else s
    if v * i > 42000000 ∨ i > ilim s then retarget (showCaps s) else s)

/-- One period of the loop of R466. DEDUCED: log entry 97. -/
def powerStep (s : Dev) (sum c x : Nat) : Dev :=
  let f := fget s (capF x)
  let l := fget s (capL x)
  if sum > c * 100000 then
    (if l > 8 then fset s (capL x) (l - 1) else fset s (capF x) (max 600 (f - 50)))
  else if sum + fget s RF.PWR_POLICY_HYST_W * 100000 < c * 100000 then
    (if f < 2400 then fset s (capF x) (min 2400 (f + 50)) else if l < 16 then fset s (capL x) (l + 1) else s)
  else s

/-- Island energy of the instances that hold islands is a measurement (R316, R471): its amount is left open.
DESIGN CHOICE: log entry 7. DEDUCED: log entry 96. -/
def addEnergy (s : Dev) : Dev :=
  (List.range 33).foldl (fun s i =>
    if fget s (RF.INS_ISLANDS_ISLANDS i) = 0 then s
    else
      let (e, s) := takeFree s
      bumpBy s (Reg.PWR_ENERGY_INST i) e) s

/-- POWER_LOOP (R466, R467): every ten samples. -/
def execPowerLoop (s : State) : Host.Outcome State Fault Refusal :=
  perform s (fun s =>
    if s.power.samples.length < 10 ∨ fget s RF.BRG_ERR_STATUS_FATAL = 1 then s
    else
      let sum := s.power.samples.foldl (· + ·) 0
      let (x, c) := lowestCap s
      let s := powerStep (changeSource s x) sum c x
      let s := if x = 1 then s else fset (fset s RF.PWR_LIMITS_F_CAP 2400) RF.PWR_LIMITS_L_CAP 16
      let s := fset s RF.PWR_STATUS_PIN_W (min 8191 (sum / 100000))
      let s := if s.power.calm then fset s RF.PWR_LIMITS_L_CUR (min 16 (fget s RF.PWR_LIMITS_L_CUR + 1)) else s
      let s := { s with power := { s.power with calm := true } }
      addEnergy (retarget (showCaps s)))

/-- PWR_HOST_LIMIT (R468). -/
def execPwrHostLimit (c : Cmd) (s : State) : Host.Outcome State Fault Refusal :=
  perform s (fun s => command 0xB0 c s (fun x s =>
    let w := eb x.e 16 2
    afterChecks s [((w != 0 && decide (w < 600)) || decide (w > 3600), eArg)] (fset s RF.PWR_LIMITS_HOST_LIMIT_W w, .done Ret.ok)))

/-! ### Island temperature (R469) -/

/-- Island thermal applies while its terms hold the island down. -/
def showThermal (s : Dev) (i : Nat) : Dev :=
  retarget (setReason s 3 i (decide (fget s (RF.THM_ISLAND_F_THERM_MHZ i) < 2400) || decide (fget s (RF.THM_ISLAND_L_THERM i) < 16)))

/-- ISLAND_THERMAL_REPORT (R469). -/
def execIslandThermalReport (island temp : Nat) (s : State) : Host.Outcome State Fault Refusal :=
  perform s (fun s =>
    if island ≥ 44 ∨ fget s (RF.PWR_ISLAND_STATE island) = 3 then s
    else
      let t := min temp 255
      let hot := fget s RF.THM_POLICY_ISL_HOT_C
      let s := fset s (RF.THM_ISLAND_TEMP_C island) t
      let s := fset s (RF.THM_ISLAND_MAX_C island) (max t (fget s (RF.THM_ISLAND_MAX_C island)))
      let s := if t ≥ fget s RF.THM_POLICY_ISL_SEVERE_C then fset (fset s (RF.THM_ISLAND_F_THERM_MHZ island) 600) (RF.THM_ISLAND_L_THERM island) 4
        else if t ≥ hot ∨ t + 3 < hot then fset s (RF.THM_ISLAND_L_THERM island) 16 else s
      showThermal s island)

/-- ISLAND_THERMAL_STEP (R469): 100 µs have passed. -/
def execIslandThermalStep (island : Nat) (s : State) : Host.Outcome State Fault Refusal :=
  perform s (fun s =>
    if island ≥ 44 ∨ fget s (RF.PWR_ISLAND_STATE island) = 3 then s
    else
      let t := fget s (RF.THM_ISLAND_TEMP_C island)
      let f := fget s (RF.THM_ISLAND_F_THERM_MHZ island)
      let hot := fget s RF.THM_POLICY_ISL_HOT_C
      let f' := if t ≥ fget s RF.THM_POLICY_ISL_SEVERE_C then 600 else if t ≥ hot then max 600 (f - 50) else if t + 3 < hot then min 2400 (f + 50) else f
      showThermal (fset s (RF.THM_ISLAND_F_THERM_MHZ island) f') island)

/-! ### Island power states (R451 to R454) -/

/-- An island is idle: no launch or step, no asynchronous operation, no trace, and no wake asked for (R452). -/
def islandIdle (s : Dev) (i : Nat) : Bool :=
  !(s.disp.any (fun p => p.2.phase != .waiting && p.2.got.contains i)) && !traced s i && !s.power.wake.contains i
    && (List.range 4).all (fun c => (coreOf s (4 * i + c)).tokens.all (fun t => !t.2.busy) && (coreOf s (4 * i + c)).handles.all (fun t => !t.2.busy))

/-- ISLAND_GATE (R452): an island has been idle for GATE_US. -/
def execIslandGate (island : Nat) (s : State) : Host.Outcome State Fault Refusal :=
  perform s (fun s =>
    if island ≥ islandCount s ∨ fget s (RF.PWR_ISLAND_STATE island) ≠ 0 ∨ !islandIdle s island then s
    else
      let s := { s with power := { s.power with changing := tdel s.power.changing island, deferred := s.power.deferred.filter (· != island) } }
      updateProgress (endReason (fset (fset (fset s (RF.PWR_ISLAND_STATE island) 1) (RF.PWR_ISLAND_F_MHZ island) 0) (RF.PWR_ISLAND_STRETCH island) 0) 5 island))

/-- ISLAND_OFF (R452, R453): a Gated island writes its L1s back; when every write-back has been accepted its rail is removed. A wake asked for meanwhile
abandons the entry. -/
def execIslandOff (island : Nat) (s : State) : Host.Outcome State Fault Refusal :=
  perform s (fun s =>
    if island ≥ islandCount s ∨ fget s (RF.PWR_ISLAND_STATE island) ≠ 1 ∨ fget s RF.PWR_IDLE_POLICY_OFF_US = 0 ∨ !islandIdle s island then s
    else
      let cores := (List.range 4).map (4 * island + ·)
      let s := cores.foldl (fun s c => modCore s c l1PushAll) s
      if cores.any (fun c => !(coreOf s c).wb.isEmpty) then s
      else cores.foldl (fun s c => setCore s c Core.reset) (fset s (RF.PWR_ISLAND_STATE island) 2))

/-- ISLAND_WAKE_COMPLETE (R451, R452): an island that was asked to run runs, under the limits as they stand. -/
def execIslandWakeComplete (island : Nat) (s : State) : Host.Outcome State Fault Refusal :=
  perform s (fun s =>
    let st := fget s (RF.PWR_ISLAND_STATE island)
    if !s.power.wake.contains island ∨ (st ≠ 1 ∧ st ≠ 2) ∨ fget s RF.BRG_ERR_STATUS_FATAL = 1 then s
    else
      let s := { s with power := { s.power with wake := s.power.wake.filter (· != island) } }
      let s := fset (fset s (RF.PWR_ISLAND_STATE island) 0) (RF.PWR_ISLAND_F_MHZ island) (islandF s island)
      let s := fset (fset s (RF.PWR_ISLAND_F_TARGET_MHZ island) (islandF s island)) (RF.PWR_ISLAND_L island) (islandL s island)
      updateProgress (leaveBypass s island))

/-! ### Coolant, clocks (R448, R470, R495) -/

/-- COOLANT_SIGNAL_CHANGE (R470, R531): the signals as filtered. Both low are a coolant halt once a start has begun, one low a warning.
DEDUCED: log entry 98. -/
def execCoolantSignalChange (a b : Bool) (s : State) : Host.Outcome State Fault Refusal :=
  perform s (fun s =>
    let s := fset (fset s RF.PWR_STATUS_COOLANT_OK_A (b2n a)) RF.PWR_STATUS_COOLANT_OK_B (b2n b)
    if fget s RF.BRG_START_STATUS_STAGE = 0 ∨ fget s RF.BRG_ERR_STATUS_FATAL = 1 then { s with power := { s.power with warning := a != b } }
    else if !a && !b then deviceFatal s 7
    else if a != b then
      (if s.power.warning then s else sendAlert (beginReason { s with power := { s.power with warning := true } } 7 0xFF))
    else showCaps { s with power := { s.power with warning := false } })

/-- PLL_UNLOCK (R448): an edge die (0 to 3), or the base die of a site (4 + n), whose island is lost. -/
def execPllUnlock (die : Nat) (s : State) : Host.Outcome State Fault Refusal :=
  perform s (fun s =>
    if fget s RF.BRG_ERR_STATUS_FATAL = 1 ∨ die > 51 then s
    else
      let s := logEvent s Reg.CLK_CNT_UNLOCKS 0
      if die < 4 then
        (let s := fset s RF.CLK_STATUS_EDGE_LOCK (setBits (fget s RF.CLK_STATUS_EDGE_LOCK) die 1 0)
         let again := (tget s.power.unlocks die).any (fun t => decide (s.time.hw < t + ticksPerSecond))
         let s := { s with power := { s.power with unlocks := tset s.power.unlocks die s.time.hw } }
         if again then deviceFatal s 4 else s)
      else
        let s := fset s RF.CLK_STATUS_SITE_LOCK (setBits (fget s RF.CLK_STATUS_SITE_LOCK) (die - 4) 1 0)
        match (if inService s then lowest 44 (fun i => siteOf s i == some (die - 4)) else none) with
        | some i => loseIsland s i false
        | none => s)

/-- PLL_RELOCK (R448): an edge die's PLL has locked again. -/
def execPllRelock (die : Nat) (s : State) : Host.Outcome State Fault Refusal :=
  perform s (fun s => if die > 3 then s else fset s RF.CLK_STATUS_EDGE_LOCK (setBits (fget s RF.CLK_STATUS_EDGE_LOCK) die 1 1))

/-- REF_CLOCK_LOSS (R495, R531): the reference has been absent at HW for 10 µs. -/
def execRefClockLoss (s : State) : Host.Outcome State Fault Refusal :=
  perform s (fun s =>
    let s := fset s RF.CLK_STATUS_REF_OK 0
    if fget s RF.BRG_START_STATUS_STAGE = 0 then s else deviceFatal s 5)

end Sys2Proof.Machine
end

