-- ==== Sys2Proof/Machine/TrustCmds.lean ====
section
/-!
DEFINITION. Trust and audit commands (R30, R31, R421, R424, R429, R431, R435, R439 to R444), and the completion of checkpoints.
-/
namespace Sys2Proof.Machine

/-- Write a command's result buffer (R431): by virtual address on a ring, else after the completion. -/
def giveBuffer (s : Dev) (x : Ctx) (va : Nat) (b : List Byte) (r : Ret) : Dev × CmdRes :=
  if x.origin ≤ 2 then
    (let (s, c) := vaCheck s x.inst va b.length 1
     if c ≠ 0 then (s, .reject c) else ((vaWrite s x.inst va b).1, .done r))
  else (s, .done { r with data := b })

/-- A list of bytes cut or filled with zeros to a length. -/
def fitBytes (n : Nat) (b : List Byte) : List Byte := (b ++ List.replicate n 0).take n

/-! ### The package manifest (R30, R31) -/

/-- Both dies of a site answered with their DIE_IDs at this start's check. DEDUCED: log entry 102. -/
def siteAnswers (s : Dev) (n : Nat) : Bool :=
  let c := fget s (RF.BRG_SITE_STATUS_CHECK n)
  c != 0x01 && c != 0x02 && c != 0x09 && c != 0xFF

/-- A record of the manifest. DEDUCED: log entry 102. -/
def dieRecord (kind pos step state : Nat) (id : Nat) : List Byte :=
  leBytes 1 kind ++ leBytes 1 pos ++ leBytes 1 step ++ leBytes 1 state ++ List.replicate 4 0 ++ leBytes 16 id ++ List.replicate 8 0

/-- The record of a site's compute die (kind 1) or base die (kind 2). DEDUCED: log entry 102. -/
def siteRecord (s : Dev) (kind n : Nat) : List Byte :=
  dieRecord kind n (fget s (RF.BRG_SITE_STATUS_STEP n)) (fget s (RF.BRG_SITE_STATUS_STATE n))
    (if siteAnswers s n then Config.dieId (48 * (kind - 1) + n) else 2 ^ 128 - 1)

/-- The package manifest: 3,520 bytes. DESIGN CHOICE: log entry 14. DEDUCED: log entry 102. -/
def manifest (s : Dev) : List Byte :=
  leBytes 2 1 ++ leBytes 2 108 ++ List.replicate 4 0 ++ leBytes 8 (regRead s Reg.BRG_MODULE_SERIAL)
    ++ leBytes 1 (fget s RF.BRG_PKG_LEVEL_FEATURE_LEVEL) ++ leBytes 1 (fget s RF.BRG_PKG_LEVEL_ENABLED_COUNT) ++ List.replicate 46 0
    ++ (List.range 48).flatMap (siteRecord s 1) ++ (List.range 48).flatMap (siteRecord s 2)
    ++ (List.range 4).flatMap (fun d => dieRecord (3 + d) 0 (fget s (RF.BRG_EDGE_STATUS_STEP d)) 0 (Config.dieId (96 + d)))
    ++ (List.range 8).flatMap (fun k => dieRecord 7 k (Config.stackStep k) 0 (Config.dieId (100 + k)))

/-- PKG_MANIFEST (R30). -/
def execPkgManifest (c : Cmd) (s : State) : Host.Outcome State Fault Refusal :=
  perform s (fun s => command 0x50 c s (fun x s =>
    afterChecks s [(decide (eb x.e 32 4 < 3520), eArg), (eb x.e 24 8 % 64 != 0, eAlign)]
      (giveBuffer s x (eb x.e 24 8) (manifest s) Ret.ok)))

/-! ### Reading the log (R442) -/

/-- An entry as it is returned whole. -/
def wholeEntry (e : LogEntry) : List Byte := entryBytes e ++ fitBytes 64 e.chain

/-- An entry as it is returned redacted: SEQ, FLAGS, the digest of R437 and CHAIN. -/
def redactedEntry (e : LogEntry) : List Byte :=
  leBytes 8 e.seq ++ List.replicate 17 0 ++ leBytes 1 (e.flags ||| 1) ++ List.replicate 22 0 ++ fitBytes 64 (sha512 (entryBytes e))
    ++ List.replicate 16 0 ++ fitBytes 64 e.chain

/-- An entry as a reader gets it: an instance sees its own entries and the device's. -/
def entryFor (x : Ctx) (e : LogEntry) : List Byte :=
  if x.origin = 2 ∧ e.inst ≠ x.inst ∧ e.inst ≠ 0xFF then redactedEntry e else wholeEntry e

/-- LOG_READ (R442). -/
def execLogRead (c : Cmd) (s : State) : Host.Outcome State Fault Refusal :=
  perform s (fun s => command 0xA1 c s (fun x s =>
    let first := eb x.e 24 8
    let count := eb x.e 32 4
    let va := eb x.e 40 8
    let l := (s.log.entries.filter (fun p => decide (first ≤ p.1))).take count
    afterChecks s [(count == 0 || decide (count > logCapacity) || decide (first > regRead s Reg.LOG_HEAD) || decide (eb x.e 48 4 < 192 * count), eArg),
        (va % 64 != 0, eAlign)]
      (giveBuffer s x va (l.flatMap (fun p => entryFor x p.2)) { Ret.ok with r0 := l.length, r1 := ((l.head?).map (·.1)).getD first })))

/-- The 8 KiB of a checkpoint (R440). DESIGN CHOICE: log entry 14. -/
def checkpointImage (s : Dev) (p : Checkpoint) : List Byte :=
  let b := checkpointBytes s p
  fitBytes 8192 (b ++ fitBytes 512 (Config.signature 0 b) ++ fitBytes 4627 (Config.signature 1 b))

/-- LOG_CHECKPOINT_READ (R442). -/
def execLogCheckpointRead (c : Cmd) (s : State) : Host.Outcome State Fault Refusal :=
  perform s (fun s => command 0xA2 c s (fun x s =>
    let va := eb x.e 40 8
    match tget s.log.cps (eb x.e 24 8) with
    | some p =>
      afterChecks s [(!(p.inRing || p.inFlash), eArg), (va % 4096 != 0, eAlign)] (giveBuffer s x va (checkpointImage s p) Ret.ok)
    | none => (s, .reject eArg)))

/-! ### Checkpoints (R439, R440) -/

/-- LOG_CHECKPOINT_NOW (R439). -/
def execLogCheckpointNow (c : Cmd) (s : State) : Host.Outcome State Fault Refusal :=
  perform s (fun s => command 0xA3 c s (fun _ s =>
    if !hasNew s then (s, .done { Ret.ok with r0 := s.log.cpNext - 1 })
    else (beginCheckpoint s 1, .done { Ret.ok with r0 := s.log.cpNext })))

/-- Change a checkpoint; one that is held nowhere any more is gone. DEDUCED: log entry 74. -/
def modCheckpoint (s : Dev) (n : Nat) (f : Checkpoint → Checkpoint) : Dev :=
  let cps := tfilter (tmod s.log.cps n f) (fun k p => k != n || !p.signed || p.inRing || p.inFlash)
  { s with log := { s.log with cps := cps } }

/-- CHECKPOINT_SIGNED (R440): checkpoints are signed in the order of their numbers, and written to their slots of tier B. Under a device-fatal fault,
with tier B in self-refresh, it goes to flash alone. DEDUCED: log entry 74. -/
def execCheckpointSigned (n : Nat) (s : State) : Host.Outcome State Fault Refusal :=
  perform s (fun s =>
    match tget s.log.cps n with
    | some p =>
      if p.signed ∨ !s.start.primary ∨ s.log.cps.any (fun q => decide (q.1 < n) && !q.2.signed) then s
      else
        let ring := fget s RF.BRG_ERR_STATUS_FATAL == 0 && fget s RF.BRG_START_STATUS_STAGE == 9
        let s := { s with log := { s.log with cps := tmod s.log.cps n (fun p => { p with signed := true, inRing := ring }) } }
        let s := if ring ∧ n ≥ 512 then modCheckpoint s (n - 512) (fun p => { p with inRing := false }) else s
        regWrite (bump s Reg.LOG_CNT_CHECKPOINTS) Reg.LOG_CP_LAST n
    | none => s)

/-- CHECKPOINT_FLASH_COPY (R439): a signed checkpoint reaches its flash slot, or the write fails, to be tried again.
DEDUCED: log entry 74. DESIGN CHOICE: log entry 103. -/
def execCheckpointFlashCopy (n : Nat) (ok : Bool) (s : State) : Host.Outcome State Fault Refusal :=
  perform s (fun s =>
    match tget s.log.cps n with
    | some p =>
      if !p.signed ∨ p.inFlash ∨ !s.start.primary then s
      else if ok then
        (let s := modCheckpoint s n (fun p => { p with inFlash := true })
         if n ≥ 2048 then modCheckpoint s (n - 2048) (fun p => { p with inFlash := false }) else s)
      else
        let s := bump s Reg.LOG_CNT_FLASH_FAILS
        let fails := regRead s Reg.LOG_CNT_FLASH_FAILS
        logFw { s with log := { s.log with lastFlashFails := fails } } 13 2 s.log.lastFlashFails fails
    | none => s)

/-! ### Epoch, permissions, policy (R429, R435, R441) -/

/-- SET_EPOCH (R441): the entry is formed under the stamp before. -/
def execSetEpoch (c : Cmd) (s : State) : Host.Outcome State Fault Refusal :=
  perform s (fun s => command 0xA0 c s (fun x s =>
    let old := regRead s Reg.LOG_EPOCH
    let new := eb x.e 24 8
    afterChecks s [(decide (new < old), eArg)]
      (regWrite (logAdd s x.origin (originId x) 0 14 0 0xFF old new) Reg.LOG_EPOCH new, .done Ret.ok)))

/-- PERM_SET (R435). DEDUCED: log entry 101. -/
def execPermSet (c : Cmd) (s : State) : Host.Outcome State Fault Refusal :=
  perform s (fun s => command 0xA4 c s (fun x s =>
    let row := eb x.e 16 1
    let clr := eb x.e 17 1
    let set := eb x.e 18 1
    let old := fget s (RF.SEC_PERM_EFFECTIVE row)
    let new := (old &&& (31 - clr % 32)) ||| set
    afterChecks s [(x.origin == 1 && set != 0, eOrigin),
        (decide (row > 16) || fget s (RF.SEC_PERM_FIXED row) == 1 || set &&& (31 - fget s (RF.SEC_PERM_CEILING row)) != 0, eArg)]
      (let s := logAdd s x.origin (originId x) 0 12 row 0xFF old new
       let s := { s with flash := { s.flash with perms := tset s.flash.perms row new } }
       (fset s (RF.SEC_PERM_EFFECTIVE row) new, .done Ret.ok))))

/-- ADMIT_POLICY_SET (R429). -/
def execAdmitPolicySet (c : Cmd) (s : State) : Host.Outcome State Fault Refusal :=
  perform s (fun s => command 0xA5 c s (fun x s =>
    let n := eb x.e 18 1
    if n > 16 then (s, .reject eArg)
    else match cmdBuffer s x (eb x.e 24 8) (64 * n) with
      | (s, b, 0) =>
        ({ s with flash := { s.flash with minSvn := eb x.e 16 2, allowed := (List.range n).map (fun i => (b.drop (64 * i)).take 64) } }, .done Ret.ok)
      | (s, _, code) => (s, .reject code)))

/-! ### Firmware (R421, R424, R431, R444) -/

/-- The image that some bytes are. DESIGN CHOICE: log entry 14. -/
def fwImageOf (b : List Byte) : FwImage :=
  let h := Config.imageHeader b
  { digest := fitBytes 64 (Config.imageDigest b), svn := h.1 % 64, version := h.2 % 2 ^ 64, good := Config.verifies 2 b }

/-- An image passes step 2 of R421. -/
def imagePasses (s : Dev) (i : FwImage) : Bool := i.good && decide (s.flash.fusedSvn ≤ i.svn)

/-- The slot that FW_STAGE writes: the one that is not running; in RECOVERY the one that the flash byte names. DESIGN CHOICE: log entry 103. -/
def stageSlot (s : Dev) : Nat :=
  if fget s RF.BRG_START_STATUS_RECOVERY = 1 then s.flash.active else 1 - fget s RF.SEC_STATUS_SLOT

/-- FW_STAGE (R444). DESIGN CHOICE: log entry 103. -/
def execFwStage (c : Cmd) (s : State) : Host.Outcome State Fault Refusal :=
  perform s (fun s => command 0xA6 c s (fun x s =>
    let n := eb x.e 32 4
    let act := eb x.e 36 1
    if n > 2 ^ 25 ∨ act > 1 then (s, .reject eArg)
    else match cmdBuffer s x (eb x.e 24 8) n with
      | (s, b, 0) =>
        let slot := stageSlot s
        let old := ((tget s.flash.slots slot).map (·.svn)).getD 0
        afterChecks s [(!imagePasses s (fwImageOf b), eAuth)]
          (let f := { s.flash with slots := tset s.flash.slots slot (fwImageOf b), active := if act = 1 then slot else s.flash.active }
           (logAdd { s with flash := f } x.origin (originId x) 0 11 slot 0xFF old (fwImageOf b).svn, .done Ret.ok))
      | (s, _, code) => (s, .reject code)))

/-- FW_COMMIT_SVN (R424): one of 63 raises. -/
def execFwCommitSvn (c : Cmd) (s : State) : Host.Outcome State Fault Refusal :=
  perform s (fun s => command 0xA7 c s (fun x s =>
    let image := fget s RF.SEC_STATUS_IMAGE_SVN
    let old := s.flash.fusedSvn
    afterChecks s [(decide (image ≤ old) || decide (s.flash.raises ≥ 63), eState)]
      (let s := logAdd s x.origin (originId x) 0 11 (fget s RF.SEC_STATUS_SLOT) 0xFF old image
       (fset { s with flash := { s.flash with fusedSvn := image, raises := s.flash.raises + 1 } } RF.SEC_STATUS_FUSED_SVN image, .done Ret.ok))))

/-- Show the sideband root of flash. -/
def showRoot (s : Dev) : Dev :=
  match s.flash.sbRoot with
  | some d => (List.range 8).foldl (fun s j => regWrite s (Reg.SEC_SB_ROOT j) (ofLe ((d.drop (8 * j)).take 8))) (fset s RF.SEC_STATUS_SB_ROOT_VALID 1)
  | none => s

/-- SB_ROOT_SET (R431). -/
def execSbRootSet (c : Cmd) (s : State) : Host.Outcome State Fault Refusal :=
  perform s (fun s => command 0xA8 c s (fun x s =>
    match cmdBuffer s x (eb x.e 24 8) 64 with
    | (s, b, 0) => (showRoot { s with flash := { s.flash with sbRoot := some b } }, .done Ret.ok)
    | (s, _, code) => (s, .reject code)))

end Sys2Proof.Machine
end

