-- ==== Sys2Proof/Machine/Starts.lean ====
section
/-!
DEFINITION. Power and the start of the module (chapters 20 and 21): loss of power, the begin of a start, and the stages up to the lane test.
-/
namespace Sys2Proof.Machine

/-! ### What a start finds (R13, R446, R503, R505) -/

/-- Policy registers of the manager window: they keep their values over a warm start. DEDUCED: log entry 79. -/
def policyRegs : List Nat :=
  [Reg.STR_LANE_POLICY, Reg.MEM_MIG_POLICY, Reg.MEM_SCRUB_POLICY, Reg.FAB_POLICY, Reg.HST_POLICY, Reg.PWR_POLICY, Reg.PWR_IDLE_POLICY, Reg.THM_POLICY]

/-- The field map and the field lane maps of flash, as they are measured (R422). DESIGN CHOICE: log entry 14. -/
def fieldMapBytes (s : Dev) : List Byte :=
  Config.flashBytes 4 (s.flash.sites.flatMap (fun p => [p.2.state, p.2.step, p.2.origin]) ++ s.flash.lanes.flatMap (fun p => [p.1, p.2.map, p.2.failLo, p.2.failHi]))

/-- What flash and fuses show from the begin of a start on. -/
def showFlash (s : Dev) : Dev :=
  let s := fset s RF.SEC_STATUS_FUSED_SVN s.flash.fusedSvn
  showRoot ((List.range 17).foldl (fun s r => match tget s.flash.perms r with
    | some v => fset s (RF.SEC_PERM_EFFECTIVE r) v
    | none => s) s)

/-- The registers, and all that the module holds between them and flash, as a start finds them. A warm start keeps the policies, POWER_VECTOR and the
bases of BAR2. The tiers keep what they hold until they are zeroed. DESIGN CHOICE: log entry 8. DEDUCED: log entry 79. -/
def clearModule (s : Dev) (warm : Bool) : Dev :=
  let coolant := (fget s RF.PWR_STATUS_COOLANT_OK_A, fget s RF.PWR_STATUS_COOLANT_OK_B)
  let vector := fget s RF.PWR_LIMITS_POWER_VECTOR
  let ref := fget s RF.CLK_STATUS_REF_OK
  let cps := tmap s.log.cps (fun _ p => { p with inRing := false })
  let t : Dev :=
    { s with regs := if warm then s.regs.filter (fun p => policyRegs.contains p.1) else [],
             iregs := if warm then s.iregs.filter (fun p => p.1 % 2 ^ 20 == Reg.HST_BAR2_VA) else [],
             cores := [], disp := [], net := [], nextReq := 0, shore := Shore.reset, mem := Mem.reset, xl := Xlate.reset, ins := Insts.reset,
             fe := FrontEnd.reset, fab := Fabric.reset, mesh := Mesh.reset, trust := { conns := [], slots := [] }, host := HostPort.reset,
             log := { s.log with started := false, early := [], cps := cps, throttles := [], lastOverwritten := 0, lastFlashFails := 0 },
             power := Power.reset, traces := [], traceQ := [], blocked := [] }
  let t := fset (fset t RF.PWR_STATUS_COOLANT_OK_A coolant.1) RF.PWR_STATUS_COOLANT_OK_B coolant.2
  let t := if warm then fset (fset t RF.PWR_LIMITS_POWER_VECTOR vector) RF.CLK_STATUS_REF_OK ref else t
  { t with power := { t.power with warning := coolant.1 != coolant.2 } }

/-- A start begins (R503, R505, R506), at stage 0 or 1. DEDUCED: log entry 81. -/
def beginStart (s : Dev) (reason : Nat) (hold warm : Bool) (stage : Nat) : Dev :=
  let held := warm && s.log.held
  let t := clearModule s warm
  let time := { s.time with hw := if s.start.primary then s.time.hw else 0, he := if s.start.secondary then s.time.he else 0 }
  let start := { s.start with hold := hold, begun := time.hw, cause := 0, kat := false, primary := true, secondary := true, margin := false,
                              tap := [], fieldMap := fieldMapBytes s }
  let t := { t with time := time, start := start, log := { t.log with held := held } }
  let t := fset (fset t RF.BRG_START_STATUS_STAGE stage) RF.BRG_START_STATUS_KIND (b2n warm)
  showFault (showFlash (fset (fset t RF.BRG_START_STATUS_REASON reason) RF.BRG_START_STATUS_LOG_HELD (b2n held)))

/-- Both always-on domains have kept power since the previous start. -/
def bothOn (s : Dev) : Bool := s.start.primary && s.start.secondary

/-! ### Power (R520, R521, R530, R531) -/

/-- POWER_APPLIED (R503, R521): the input has risen into range with PSENSE mated; the input switch closes, the slot strap is sampled, and a cold start
begins. -/
def execPowerApplied (slot : Nat) (s : State) : Host.Outcome State Fault Refusal :=
  perform s (fun s =>
    if s.start.primary || s.start.secondary then s
    else
      let s := { s with start := { s.start with closed := true, slot := slot % 32 }, out := s.out ++ [.inputSwitch true] }
      beginStart s 0 false false 0)

/-- Power is lost (R520): every domain loses it, the always-on domains included. Flash alone remains. DEDUCED: log entry 79. -/
def losePower (s : Dev) : Dev :=
  let t := clearModule s false
  let opens := if s.start.closed then [Out.inputSwitch false] else []
  { t with time := ⟨0, 0, 0, 0, 0⟩, dram := Dram.zero, start := { Start.reset with slot := s.start.slot }, out := t.out ++ opens,
           log := { t.log with entries := [], held := false, cps := tfilter t.log.cps (fun _ p => p.inFlash) } }

/-- INPUT_OVERVOLTAGE (R520): the input is above 70 V, in units of 10 mV; the switch opens at once. DEDUCED: log entry 116. -/
def execInputOvervoltage (vin : Nat) (s : State) : Host.Outcome State Fault Refusal :=
  perform s (fun s => if vin > 7000 then losePower s else s)

/-- INPUT_UNDERVOLTAGE (R520): the input has fallen below VUVF and conversion stops. -/
def execInputUndervoltage (s : State) : Host.Outcome State Fault Refusal := perform s losePower

/-- PSENSE_BREAK (R531). -/
def execPsenseBreak (s : State) : Host.Outcome State Fault Refusal := perform s losePower

/-- INPUT_VOLTAGE_EXCURSION (R514, R520): the input has been outside 56 to 66 V for 1 ms. Before READY the start returns to stage 0.
DEDUCED: log entry 81. -/
def execInputVoltageExcursion (s : State) : Host.Outcome State Fault Refusal :=
  perform s (fun s =>
    if !(s.start.primary || s.start.secondary) || fget s RF.BRG_ERR_STATUS_FATAL == 1 then s
    else if fget s RF.BRG_START_STATUS_STAGE = 9 then deviceFatal s 11
    else beginStart s (fget s RF.BRG_START_STATUS_REASON) s.start.hold (fget s RF.BRG_START_STATUS_KIND == 1) 0)

/-! ### MODULE_START and the host's reset (R503, R504, R514) -/

/-- States in which no session is needed. DEDUCED: log entry 80. -/
def startOpen (s : Dev) : Bool :=
  fget s RF.BRG_START_STATUS_HELD == 1 || fget s RF.BRG_START_STATUS_STOPPED == 1 || fget s RF.BRG_START_STATUS_RECOVERY == 1
    || fget s RF.BRG_ERR_STATUS_FATAL == 1

/-- A completion of the message, which has no opcode. DEDUCED: log entries 77, 80. -/
def startReply (s : Dev) (bus code : Nat) : Dev :=
  let c : Cpl := { tag := 0, status := code, opcode := 0xFFFF, r0 := 0, r1 := 0, r2 := 0, r3 := 0, flags := 0, implicit := false, irq := false,
                   key := none, disp := none }
  { s with out := s.out ++ [.reply 4 bus (cplBody c ++ [0]) []] }

/-- The message is rejected: counted and entered like a command, with no opcode and no ring. DEDUCED: log entries 34, 80. -/
def startRejected (s : Dev) (bus code : Nat) : Dev :=
  let s := bump s Reg.SES_CNT_REJECTS
  let s := if code = eAuth then bump s Reg.LOG_CNT_AUTH_FAILS else s
  startReply (logAdd s 4 bus code 2 0xFFFFFFFF 0xFF 0 0) bus code

/-- What MODULE_START does in a state that accepts it. DEDUCED: log entry 80. -/
def moduleStart (s : Dev) (hold : Bool) : Dev :=
  let stage := fget s RF.BRG_START_STATUS_STAGE
  if fget s RF.BRG_ERR_STATUS_FATAL = 1 then beginStart s 1 hold (bothOn s) 0
  else if stage = 9 then
    (let s := endAllWork s
     let s := if hasNew s then beginCheckpoint s 2 else s
     beginStart s 1 hold (bothOn s) 0)
  else
    let s := if stage = 7 then { s with log := { s.log with held := bothOn s } } else s
    beginStart s 1 hold (bothOn s) (if stage = 7 ∨ stage = 8 then 1 else 0)

/-- MODULE_START (R504). -/
def execModuleStart (bus hold : Nat) (session : Bool) (s : State) : Host.Outcome State Fault Refusal :=
  perform s (fun s =>
    if !busOn s (bus % 2) then s
    else if !session && !startOpen s then startRejected s (bus % 2) eAuth
    else if hold > 1 then startRejected s (bus % 2) eArg
    else if fget s RF.BRG_START_STATUS_STAGE < 7 ∧ !startOpen s then startRejected s (bus % 2) eBusy
    else moduleStart (startReply s (bus % 2) 0) (hold == 1))

/-- HOST_RESET_WHILE_FATAL (R503): the host has held the fundamental reset for 100 ms while FATAL is set. DEDUCED: log entry 81. -/
def execHostResetWhileFatal (s : State) : Host.Outcome State Fault Refusal :=
  perform s (fun s => if fget s RF.BRG_ERR_STATUS_FATAL = 1 then beginStart s 2 false (bothOn s) 0 else s)

/-! ### Stages 0 to 2 (R506 to R508) -/

/-- A start is at a stage. -/
def atStage (s : Dev) (n : Nat) : Bool :=
  fget s RF.BRG_START_STATUS_STAGE == n && fget s RF.BRG_ERR_STATUS_FATAL == 0 && fget s RF.BRG_START_STATUS_RECOVERY == 0 && s.start.primary

/-- WAIT_INPUT (R506): the input has been in range for 10 ms; `ref` says that the reference is present. -/
def execWaitInput (ref : Bool) (s : State) : Host.Outcome State Fault Refusal :=
  perform s (fun s =>
    if !atStage s 0 then s
    else
      let s := fset s RF.CLK_STATUS_REF_OK (b2n ref)
      if ref && (fget s RF.PWR_STATUS_COOLANT_OK_A == 1 || fget s RF.PWR_STATUS_COOLANT_OK_B == 1) then fset s RF.BRG_START_STATUS_STAGE 1 else s)

/-- Extend a measurement register (R422). DESIGN CHOICE: log entry 14. -/
def extendMeas (s : Dev) (n : Nat) (d : List Byte) : Dev :=
  let m := sha512 (measOf s n ++ d)
  (List.range 8).foldl (fun s j => regWrite s (Reg.SEC_MEAS n j) (ofLe ((m.drop (8 * j)).take 8))) s

/-- A slot fails its verification: entered once the log runs. DEDUCED: log entry 82. -/
def slotFails (s : Dev) (slot : Nat) : Dev :=
  let svn := ((tget s.flash.slots slot).map (·.svn)).getD 0
  logAdd s 5 0 eAuth 11 slot 0xFF svn svn

/-- Firmware of a slot runs. DEDUCED: log entry 82. -/
def runSlot (s : Dev) (slot : Nat) (i : FwImage) : Dev :=
  let s := fset (fset s RF.SEC_STATUS_SLOT slot) RF.SEC_STATUS_IMAGE_SVN i.svn
  let s := regWrite s Reg.SEC_FW_VERSION i.version
  fset (extendMeas (extendMeas s 0 (Config.bootDigest 0)) 1 i.digest) RF.BRG_START_STATUS_STAGE 2

/-- The slot that passes, and those that failed before it. `chains` says that the leaf keys of the certificate chains match (R425).
DEDUCED: log entry 82. -/
def bootSlot (s : Dev) (chains : Bool) : List Nat → Dev × Option (Nat × FwImage)
  | [] => (s, none)
  | slot :: rest =>
    match tget s.flash.slots slot with
    | some i => if imagePasses s i && chains then (s, some (slot, i)) else bootSlot (slotFails s slot) chains rest
    | none => bootSlot (slotFails s slot) chains rest

/-- BOOT_ROM_VERIFY (R421). DESIGN CHOICE: log entry 15. DEDUCED: log entry 82. -/
def execBootRomVerify (chains : Bool) (s : State) : Host.Outcome State Fault Refusal :=
  perform s (fun s =>
    if !atStage s 1 then s
    else match bootSlot s chains [s.flash.active, 1 - s.flash.active] with
      | (s, some (slot, i)) => runSlot s slot i
      | (s, none) => showFault (fset s RF.BRG_START_STATUS_RECOVERY 1))

/-- A cause of R507: the first one stands. -/
def stopFor (s : Dev) (cause : Nat) (b : Bool) : Dev :=
  if b ∧ s.start.cause = 0 then { s with start := { s.start with cause := cause } } else s

/-- EDGE_SELF_TEST (R506, R508): bits of `pairs` stand for pairs 0 and 1 of HW and of HE, bits of `plls` for HW, HE, MN and MS; `kat` is the known-answer test
of HW's engines. DESIGN CHOICE: log entry 15. -/
def execEdgeSelfTest (pairs plls : Nat) (kat : Bool) (s : State) : Host.Outcome State Fault Refusal :=
  perform s (fun s =>
    if !atStage s 2 then s
    else
      let bit := fun (n : Nat) => b2n (bitOf pairs n)
      let s := fset (fset s (RF.BRG_EDGE_STATUS_CTL_PAIR0_OK 0) (bit 0)) (RF.BRG_EDGE_STATUS_CTL_PAIR1_OK 0) (bit 1)
      let s := fset (fset s (RF.BRG_EDGE_STATUS_CTL_PAIR0_OK 1) (bit 2)) (RF.BRG_EDGE_STATUS_CTL_PAIR1_OK 1) (bit 3)
      let s := fset (fset (showPairsOk s) RF.CLK_STATUS_EDGE_LOCK plls) RF.SEC_STATUS_DRBG_OK (b2n kat)
      let s := { s with start := { s.start with kat := !kat } }
      let hw := bit 0 + bit 1
      let he := bit 2 + bit 3
      let s := stopFor s 5 (plls % 16 != 15)
      let s := stopFor s 3 (hw == 0 || he == 0 || (decide (hw < 2) && decide (he < 2)))
      fset s RF.BRG_START_STATUS_STAGE 3)

/-! ### Stage 3 (R21 to R27, R509) -/

/-- A site's record in the field map. -/
def siteRec (s : Dev) (n : Nat) : SiteRec := tgetD s.flash.sites n ⟨2, 0, 1⟩

/-- Write it. -/
def setSiteRec (s : Dev) (n : Nat) (r : SiteRec) : Dev := { s with flash := { s.flash with sites := tset s.flash.sites n r } }

/-- Sites of a state of the field map. -/
def sitesIn (s : Dev) (state : Nat) : List Nat := (List.range 48).filter (fun n => (siteRec s n).state == state)

/-- The lowest stepping of some sites; 0 of none. -/
def lowestStep (s : Dev) : List Nat → Nat
  | [] => 0
  | [n] => (siteRec s n).step
  | n :: l => min (siteRec s n).step (lowestStep s l)

/-- Promotion of spares, one at a time, until 44 sites are enabled (R22). DEDUCED: log entry 83. -/
def promote (s : Dev) : Nat → Dev
  | 0 => s
  | k + 1 =>
    if (sitesIn s 0).length ≥ 44 then s
    else
      let level := lowestStep s (sitesIn s 0)
      let spares := sitesIn s 1
      match (match spares.find? (fun n => decide (level ≤ (siteRec s n).step)) with
        | some n => some n
        | none => spares.head?) with
      | some n => promote (setSiteRec s n { siteRec s n with state := 0 }) k
      | none => s

/-- One site's check: the code of the first step that failed, or 0, and the stepping that the die gave (R29, R509). DEDUCED: log entry 83. -/
def checkSite (s : Dev) (n check step : Nat) : Dev :=
  let r := siteRec s n
  if r.state = 2 then fset s (RF.BRG_SITE_STATUS_CHECK n) 0xFF
  else
    let code := if [0x01, 0x02, 0x03, 0x04, 0x05, 0x06, 0x07, 0x09].contains check then check else 0
    let answered := code != 0x01 && code != 0x02 && code != 0x09
    let r := if answered then { r with step := step % 4 } else r
    let r := if code = 0 then { r with origin := 0 } else { r with state := 2, origin := if r.origin = 3 then 3 else 2 }
    let s := setSiteRec (fset s (RF.BRG_SITE_STATUS_CHECK n) code) n r
    if code = 0x01 ∨ code = 0x02 then s
    else fset s RF.CLK_STATUS_SITE_LOCK (fget s RF.CLK_STATUS_SITE_LOCK ||| 2 ^ n)

/-- A mask of sites. -/
def siteMask (l : List Nat) : Nat := l.foldl (fun m n => m ||| 2 ^ n) 0

/-- Promotion, numbering and the feature level, and the registers that show them (R6, R22, R24, R25, R27, R29). DEDUCED: log entry 83. -/
def assignSites (s : Dev) : Dev :=
  let s := promote s 48
  let on := sitesIn s 0
  let count := fun (step : Nat) => (on.filter (fun n => (siteRec s n).step == step)).length
  let s := (List.range 48).foldl (fun s n =>
    let r := siteRec s n
    let s := fset (fset s (RF.BRG_SITE_STATUS_STATE n) r.state) (RF.BRG_SITE_STATUS_STEP n) r.step
    fset (fset s (RF.BRG_SITE_STATUS_DEFECT_ORIGIN n) r.origin) (RF.BRG_SITE_STATUS_LOGICAL n) (if r.state = 0 then (on.idxOf n) else 0xFF)) s
  let s := regWrite (regWrite s Reg.BRG_ENABLE_MAP (siteMask on)) Reg.BRG_SPARE_MAP (siteMask (sitesIn s 1))
  let s := fset (fset s RF.BRG_PKG_LEVEL_FEATURE_LEVEL (lowestStep s on)) RF.BRG_PKG_LEVEL_ENABLED_COUNT on.length
  let s := fset (fset s RF.BRG_PKG_LEVEL_B0_COUNT (count 1)) RF.BRG_PKG_LEVEL_B1_COUNT (count 2)
  let s := fset (fset s RF.BRG_PKG_LEVEL_SPARE_COUNT (sitesIn s 1).length) RF.BRG_PKG_LEVEL_DEFECTIVE_COUNT (sitesIn s 2).length
  fset s RF.BRG_PKG_LEVEL_REDUCED (b2n (decide (on.length < 44)))

/-- Keep this start's site registers in flash. -/
def keepMaps (s : Dev) : Dev := { s with flash := { s.flash with lastMaps := siteRegs s } }

/-- SITE_CHECK (R506, R509): the check's code and the stepping read of each site, in site order; a site that is not listed passes with the stepping
recorded. DESIGN CHOICE: log entry 15. DEDUCED: log entry 83. -/
def execSiteCheck (results : List (Nat × Nat)) (s : State) : Host.Outcome State Fault Refusal :=
  perform s (fun s =>
    if !atStage s 3 then s
    else
      let s := if fget s RF.BRG_START_STATUS_KIND = 1 then s else { s with time := { s.time with base := 0 } }
      let s := (List.range 48).foldl (fun s n => match results[n]? with
        | some r => checkSite s n r.1 r.2
        | none => checkSite s n 0 (siteRec s n).step) s
      let s := assignSites s
      let s := logFw s 5 0 (pack8 s.flash.lastMaps) (pack8 (siteRegs s))
      let s := stopFor (keepMaps s) 1 (decide ((sitesIn s 0).length < 40))
      fset s RF.BRG_START_STATUS_STAGE 4)

/-! ### Stage 4 (R19, R37, R44, R510) -/

/-- A node is lit: an edge die, or an enabled site. -/
def nodeLit (s : Dev) (n : Nat) : Bool := decide (n ≥ 48) || fget s (RF.BRG_SITE_STATUS_STATE n) == 0

/-- A strait whose ends are both lit. -/
def straitLit (s : Dev) (k : Nat) : Bool := nodeLit s (endA k) && nodeLit s (endB k)

/-- The field lane map of a bundle-direction. -/
def laneRec (s : Dev) (k b d : Nat) : LaneRec := tgetD s.flash.lanes (bdKey k b d) ⟨0x7F7F7F7F, 0, 0⟩

/-- Spares after a test: one that failed is marked so and carries nothing, one that was marked and passes is unused again. DEDUCED: log entry 71. -/
def testSpares (s : Dev) (k b d fails : Nat) : Dev :=
  (List.range 4).foldl (fun s q =>
    if bitOf fails (64 + q) then setSpare s k b d q 0x7E
    else if spareOf s k b d q = 0x7E then setSpare s k b d q 0x7F else s) s

/-- Failing data lanes that no spare carries yet. DEDUCED: log entry 71. -/
def bareLanes (s : Dev) (k b d fails : Nat) : List Nat :=
  (List.range 64).filter (fun p => bitOf fails p && !(List.range 4).any (fun q => spareOf s k b d q == p))

/-- The test of one bundle-direction (R37): `fails` marks the physical lanes that failed it. DEDUCED: log entry 71. -/
def testLanes (s : Dev) (k b d fails : Nat) : Dev :=
  let r := laneRec s k b d
  let s := regWrite s (Reg.STR_BD_LANE_MAP k b d) r.map
  let s := fset (regWrite s (Reg.STR_BD_LANE_FAIL_LO k b d) r.failLo) (RF.STR_BD_LANE_FAIL_HI_FAIL k b d) r.failHi
  let old := laneRegs s k b d
  let s := fset (regWrite s (Reg.STR_BD_LANE_FAIL_LO k b d) (fails % 2 ^ 64)) (RF.STR_BD_LANE_FAIL_HI_FAIL k b d) (fails / 2 ^ 64)
  let s := testSpares s k b d fails
  let s := (bareLanes s k b d fails).foldl (fun s p => match freeSpare s k b d with
    | some q => setSpare s k b d q p
    | none => s) s
  let s := showLanes s k b d
  let good := 68 - popcount 68 fails
  let narrow := decide (good < 64) || !(bareLanes s k b d fails).isEmpty
  let mode := if good < 32 then 3 else if narrow then 1 else 0
  let s := modBd (fset s (RF.STR_BD_STATUS_MODE k b d) mode) k b d (fun x => { x with wasNarrow := mode == 1 })
  let s := if mode = 1 then fsat s RF.BRG_LANE_TEST_NARROWED 1 else if mode = 3 then fsat s RF.BRG_LANE_TEST_LOST 1 else s
  let s := if spareMap old = spareMap (laneRegs s k b d) then s else fsat s RF.BRG_LANE_TEST_ROTATED 1
  if old.take 3 = (laneRegs s k b d).take 3 then s else logLanes s k b d old
where
  spareMap (l : List Nat) : Nat := l.headD 0

/-- The test of a strait. DEDUCED: log entry 71. -/
def testStrait (s : Dev) (failed : List (Nat × Nat)) (k : Nat) : Dev :=
  let s := (List.range 16).foldl (fun s j =>
    testLanes s k (j / 2) (j % 2) ((((failed.find? (fun p => p.1 == bdKey k (j / 2) (j % 2))).map (·.2)).getD 0) % 2 ^ 68)) s
  let gone := fun (d : Nat) => (List.range 8).all (fun b => bdMode s k b d == 3)
  let s := fset s (RF.STR_STRAIT_STATUS_STATE k) (if gone 0 || gone 1 then 2 else 0)
  showStrait s k

/-- Straits whose ends have become lit are tested, and those of dark sites are unused. -/
def testStraits (s : Dev) (failed : List (Nat × Nat)) : Dev :=
  (List.range 110).foldl (fun s k =>
    let st := fget s (RF.STR_STRAIT_STATUS_STATE k)
    if straitLit s k then (if st = 3 then testStrait s failed k else s)
    else if st = 3 then s else showStrait (fset s (RF.STR_STRAIT_STATUS_STATE k) 3) k) s

/-- A site whose straits the test has lost. -/
def cutOff (s : Dev) (n : Nat) : Bool :=
  fget s (RF.BRG_SITE_STATUS_STATE n) == 0 && (List.range 4).all (fun p => !straitUp s (portStrait n p))
    && (List.range 4).any (fun p => fget s (RF.STR_STRAIT_STATUS_STATE (portStrait n p)) == 2)

/-- The lane test, with the defect of sites that it cuts off and the promotion that follows (R510). DEDUCED: log entry 83. -/
def runLaneTest (s : Dev) (failed : List (Nat × Nat)) : Nat → Dev
  | 0 => s
  | f + 1 =>
    let s := testStraits s failed
    match lowest 48 (cutOff s) with
    | none => s
    | some n =>
      let r := siteRec s n
      let s := setSiteRec (fset s (RF.BRG_SITE_STATUS_CHECK n) 0x08) n { r with state := 2, origin := if r.origin = 3 then 3 else 2 }
      runLaneTest (assignSites s) failed f

/-- The start's SITE_MAP entry, which is held until stage 6, and flash show what the lane test changed (R21). DEDUCED: log entry 83. -/
def amendSiteMap (s : Dev) : Dev :=
  let new := pack8 (siteRegs s)
  let early := s.log.early.map (fun e => if e.kind = 5 then { e with new := new } else e)
  keepMaps { s with log := { s.log with early := early } }

/-- LANE_TEST (R506, R510): physical lanes that failed, as masks by 16 * strait + 2 * bundle + direction. DESIGN CHOICE: log entry 15. -/
def execLaneTest (failed : List (Nat × Nat)) (s : State) : Host.Outcome State Fault Refusal :=
  perform s (fun s =>
    if !atStage s 4 then s
    else
      let s := amendSiteMap (runLaneTest s failed 48)
      let s := { s with mesh := { s.mesh with avoided := deadStraits s } }
      let s := stopFor s 1 (decide ((sitesIn s 0).length < 40))
      let s := stopFor s 4 ([48, 49, 50, 51].any (fun e => (straitsOf e).all (fun k => !straitUp s k)))
      fset s RF.BRG_START_STATUS_STAGE 5)

end Sys2Proof.Machine
end

