-- ==== Sys2Proof/Machine/BringUp.lean ====
section
/-!
DEFINITION. The start from the channel test on (R236 to R240, R422, R423, R439, R506, R511), margining (R512), test access (R513), and alerts (R525).
-/
namespace Sys2Proof.Machine

/-! ### Stage 5 (R236, R238, R239, R248, R511) -/

/-- The channels of a tier in the order of its list, those that failed left out. -/
def channelList (a : Bool) (out : Nat → Bool) : List Nat :=
  let all := if a then (List.range 1024).map (fun j => 128 * (j % 8) + j / 8) else (List.range 128).map (fun j => 1024 + 4 * (j % 32) + j / 32)
  all.filter (fun id => !out id)

/-- Channels by register index of one tier. -/
def tierIds (a : Bool) : List Nat := if a then List.range 1024 else (List.range 128).map (1024 + ·)

/-- Map a tier: its channels' registers, its list, its capacity and its peak. DEDUCED: log entry 84. -/
def mapTier (s : Dev) (a : Bool) (out : Nat → Bool) : Dev :=
  let l := channelList a out
  let s := l.foldl (fun s id => fset (fset (fset s (chanSTATE id) 0) (chanCAUSE id) 0) ⟨chanReg id, 16, 11⟩ (l.idxOf id)) s
  let s := ((tierIds a).filter out).foldl (fun s id => fset (fset s (chanSTATE id) 1) (chanCAUSE id) 1) s
  let s := if a then { s with mem := { s.mem with listA := l } } else { s with mem := { s.mem with listB := l } }
  let s := if a then fset (fset s RF.MEM_TIER_A_STATUS_CHANNELS_MAPPED l.length) RF.MEM_TIER_A_CAP_VALUE (l.length * 2 ^ 29)
    else fset (fset s RF.MEM_TIER_B_STATUS_CHANNELS_MAPPED l.length) RF.MEM_TIER_B_CAP_VALUE (l.length * 2 ^ 34)
  setPeak s a

/-- Bases of the firmware-reserved regions and of what they hold (R239). -/
def showReserved (s : Dev) : Dev :=
  let ra := capA s - 2 ^ 30
  let rb := tierB + capB s - 2 ^ 28
  let s := fset (fset s RF.MEM_RSVD_A_VALUE ra) RF.MEM_RSVD_B_VALUE rb
  fset (fset (fset s RF.SES_TABLE_BASE_BASE ra) RF.SHC_HOME_MAP_BASE_BASE (ra + 2 ^ 26)) RF.LOG_RING_BASE_BASE rb

/-- What the test reports: stacks and packages (R29, R261, R517). -/
def showTest (s : Dev) (stackMask : Nat) (out : Nat → Bool) : Dev :=
  let s := fset (fset s (RF.BRG_EDGE_STATUS_STACKS_OK 2) (15 - stackMask % 16)) (RF.BRG_EDGE_STATUS_STACKS_OK 3) (15 - stackMask / 16 % 16)
  let s := (List.range 32).foldl (fun s k =>
    let ok := siteMask ((List.range 4).filter (fun h => !out (1024 + 4 * k + h)))
    fset (fset s ⟨Reg.MEM_B_PKG k, 0, 32⟩ (Config.modeRegs k)) (RF.MEM_B_PKG_CHANNELS_OK k) ok) s
  let s := fset (fset s RF.BRG_MEM_TEST_A_OUT ((tierIds true).filter out).length) RF.BRG_MEM_TEST_B_OUT ((tierIds false).filter out).length
  fset s RF.BRG_MEM_TEST_STACKS_OUT stackMask

/-- The start checkpoint (R439): the log region was held and holds entries beyond the newest checkpoint. -/
def startCheckpoint (s : Dev) : Dev := if s.log.held && s.log.everStarted && hasNew s then beginCheckpoint s 4 else s

/-- The channel test ends, and the tiers are mapped. A stack with no passing channel fails as a whole. Each channel that is mapped out is entered.
DEDUCED: log entry 84. -/
def mapTiers (s : Dev) (stackMask : Nat) (failed : List Nat) : Dev :=
  let dead := fun (k : Nat) => bitOf stackMask k || (List.range 128).all (fun c => failed.contains (128 * k + c))
  let mask := siteMask ((List.range 8).filter dead)
  let out := fun (id : Nat) => failed.contains id || (decide (id < 1024) && bitOf mask (id / 128))
  let gone := ((tierIds true) ++ (tierIds false)).filter out
  let old := gone.map (fun id => regRead s (chanReg id))
  let s := showReserved (mapTier (mapTier s true out) false out)
  let s := showTest s mask out
  (gone.zip old).foldl (fun s p => logChannel s p.1 p.2 0) s

/-! ### Stage 6 (R422, R423, R439) -/

/-- The extensions of R422 beside those of the boot ROM. DESIGN CHOICE: log entry 14. -/
def measureAll (s : Dev) : Dev :=
  let perms := (List.range 17).map (fun r => regRead s (Reg.SEC_PERM r))
  let policy := s.flash.minSvn :: s.flash.allowed.map ofLe
  let root := match s.flash.sbRoot with
    | some d => d
    | none => List.replicate 64 0
  let s := extendMeas s 2 (Config.bootDigest 1)
  let s := extendMeas s 3 (sha512 (manifest s))
  let s := extendMeas s 4 (sha512 s.start.fieldMap)
  let s := extendMeas s 5 (sha512 (leBytes 8 (regRead s Reg.BRG_PKG_LEVEL)))
  let s := extendMeas s 6 (sha512 (Config.flashBytes 6 perms))
  let s := extendMeas s 7 (sha512 (Config.flashBytes 7 policy))
  let s := extendMeas s 8 (sha512 root)
  extendMeas s 9 (sha512 (leBytes 8 (fget s RF.SEC_STATUS_FUSED_SVN) ++ leBytes 8 (fget s RF.SEC_STATUS_IMAGE_SVN)))

/-- The newest checkpoint that flash holds. DEDUCED: log entry 76. -/
def newestFlash (s : Dev) : Option Checkpoint := ((s.log.cps.filter (fun p => p.2.inFlash)).getLast?).map (·.2)

/-- Where the log goes on: unbroken where the region was held, from nothing at the first start, else 8,193 beyond the newest flash checkpoint. Entries of
an unbroken log that were never written stay in the log unit. DEDUCED: log entry 76. -/
def resumeLog (s : Dev) : Dev × Nat :=
  let l := s.log
  if !l.everStarted then (s, 0)
  else if l.held then ({ s with log := { l with entries := tfilter l.entries (fun n _ => decide (l.wrote ≤ n)) } }, 0)
  else
    let cps := tfilter l.cps (fun _ p => p.inFlash)
    let (seq, chain, next) := match newestFlash s with
      | some p => (p.last + 8193, p.chain, p.number + 1)
      | none => (8192, List.replicate 64 0, 0)
    ({ s with log := { l with entries := [], cps := cps, cpNext := next, cpLast := seq - 1, next := seq, chain := chain, wrote := seq } }, 2)

/-- The START entry, then what stages 1 to 5 and the boot ROM in RECOVERY recorded (R431, R439). DEDUCED: log entries 76, 77, 82. -/
def startLog (s : Dev) : Dev :=
  let last := ((newestFlash s).map (·.last)).getD 0
  let (s, gap) := resumeLog s
  let e : LogEntry :=
    { seq := 0, stamp := 0, tick := s.time.hw, origin := 5, flags := gap, originId := 0, result := 0, kind := 10, object := fget s RF.SEC_STATUS_SLOT,
      inst := 0xFF, old := last, new := pack8 [fget s RF.SEC_STATUS_IMAGE_SVN, fget s RF.SEC_STATUS_FUSED_SVN], chain := [] }
  let later := s.log.early ++ s.flash.romLog
  let s := { s with log := { s.log with started := true, everStarted := true, early := [] }, flash := { s.flash with romLog := [] } }
  later.foldl logCommit (logCommit s e)

/-- Stage 8 begins (R419, R439, R506): LOG_HELD clears, and the device memory key is formed. DEDUCED: log entry 74. -/
def beginZero (s : Dev) : Dev :=
  logFw (fset { s with log := { s.log with held := false } } RF.BRG_START_STATUS_STAGE 8) 9 6 0 0

/-- Stages 6 and 7 (R506, R507). DEDUCED: log entry 64. -/
def lockStart (s : Dev) : Dev :=
  let s := fset (measureAll s) RF.SEC_STATUS_BOOT_LOCK 1
  let s := startLog (fset s RF.BRG_START_STATUS_STAGE 6)
  let s := fset s RF.BRG_START_TICKS_LOCK_TICKS (s.time.hw - s.start.begun)
  if s.start.cause ≠ 0 then
    showFault (fset (fset (fset s RF.BRG_START_STATUS_STAGE 7) RF.BRG_START_STATUS_STOPPED 1) RF.BRG_START_STATUS_STOP_CAUSE s.start.cause)
  else if s.start.hold then fset (fset s RF.BRG_START_STATUS_STAGE 7) RF.BRG_START_STATUS_HELD 1
  else beginZero s

/-- CHANNEL_TEST (R506, R511): bit s of `stacks` says that stack s failed loop-back as a whole; `failed` lists channels that failed either part: 128 s + c of
tier A, 1,024 + 4 k + h of tier B. The start then passes stages 6 and 7. DESIGN CHOICE: log entry 15. -/
def execChannelTest (stackMask : Nat) (failed : List Nat) (s : State) : Host.Outcome State Fault Refusal :=
  perform s (fun s =>
    if !atStage s 5 then s
    else
      let s := mapTiers (startCheckpoint s) (stackMask % 256) failed
      let s := stopFor s 2 (decide (s.mem.listA.length < 512) || decide (s.mem.listB.length < 64))
      lockStart s)

/-! ### Stages 8 and 9 (R215, R240, R397, R438, R506) -/

/-- Entries held in the log unit are written to the ring, with the checkpoints that flash does not hold yet. DEDUCED: log entry 77. -/
def writeHeld (s : Dev) : Dev :=
  let l := s.log
  let s := bumpBy s Reg.LOG_CNT_ENTRIES (l.next - l.wrote)
  { s with log := { l with wrote := l.next, cps := tmap l.cps (fun _ p => { p with inRing := p.signed && !p.inFlash }) } }

/-- ZERO (R240): both tiers hold zeros, and the module is READY. A known-answer test that HW failed is a fault now (R508). DEDUCED: log entry 77. -/
def execZeroStage (s : State) : Host.Outcome State Fault Refusal :=
  perform s (fun s =>
    if !atStage s 8 then s
    else
      let s := { s with dram := Dram.zero }
      let n := fget s RF.BRG_PKG_LEVEL_ENABLED_COUNT
      let s := fset (fset s (RF.SHC_HOME_SET_ISLANDS 0) (2 ^ n - 1)) (RF.SHC_HOME_SET_COUNT 0) n
      let s := showSlices (showZero s)
      let s := fset (writeHeld s) RF.BRG_START_STATUS_STAGE 9
      let s := fset s RF.BRG_START_TICKS_READY_TICKS (s.time.hw - s.start.begun)
      let s := fset s (RF.INS_STATUS_REACH 0) 2
      if s.start.kat then deviceFatal s 6 else s)

/-! ### Margining (R512) -/

/-- Margining runs in HELD; what applies to HELD applies to STOPPED (R507). DEDUCED: log entry 86. -/
def marginState (s : Dev) : Bool := fget s RF.BRG_START_STATUS_STAGE == 7 && fget s RF.BRG_ERR_STATUS_FATAL == 0

/-- A write of BRG_MARGIN_CTL: `v` is the register's new value, and `go` says that it starts a run. One out of range ends at once with ERROR.
DEDUCED: log entry 86. -/
def marginWrite (s : Dev) (v : Nat) (go : Bool) : Dev :=
  if !marginState s || s.start.margin then s
  else
    let s := regWrite s Reg.BRG_MARGIN_CTL v
    if !go then s
    else
      let bad := (fget s RF.BRG_MARGIN_CTL_TIER == 1 && decide (fget s RF.BRG_MARGIN_CTL_CHANNEL > 127)) || decide (fget s RF.BRG_MARGIN_CTL_PATTERN > 2)
      let s := regWrite s Reg.BRG_MARGIN_RESULT 0
      let s := fset (fset s RF.BRG_MARGIN_CTL_DONE (b2n bad)) RF.BRG_MARGIN_CTL_ERROR (b2n bad)
      { s with start := { s.start with margin := !bad } }

/-- MARGIN_RUN_DONE (R512): errors at the offset, or the eye's two edges of a sweep. DESIGN CHOICE: log entry 15. DEDUCED: log entry 86. -/
def execMarginRunDone (errors low high : Nat) (s : State) : Host.Outcome State Fault Refusal :=
  perform s (fun s =>
    if !s.start.margin then s
    else
      let sweep := fget s RF.BRG_MARGIN_CTL_SWEEP == 1
      let r := if sweep then low % 2 ^ 16 * 2 ^ 32 + high % 2 ^ 16 * 2 ^ 48 else min errors (2 ^ 32 - 1)
      let s := fset (regWrite s Reg.BRG_MARGIN_RESULT r) RF.BRG_MARGIN_CTL_DONE 1
      { s with start := { s.start with margin := false } })

/-! ### Test access (R513) -/

/-- Instructions of the test access port: 0 IDCODE, 1 BYPASS, 2 SAMPLE/PRELOAD, 3 EXTEST, 4 CLAMP, 5 HIGHZ, 6 NET1687. Dies of the chain: 0 HW, 1 HE, 2 MN, 3 MS, 4 + n
the base die of site n. DEDUCED: log entries 85, 115. -/
def tapInstr (s : Dev) (die instr : Nat) : Nat :=
  let lit := decide (die < 4) || fget s (RF.BRG_SITE_STATUS_STATE (die - 4)) == 0 || fget s (RF.BRG_SITE_STATUS_STATE (die - 4)) == 3
  let opened := (fget s RF.BRG_START_STATUS_STAGE == 7 || fget s RF.BRG_START_STATUS_RECOVERY == 1) && fget s RF.BRG_ERR_STATUS_FATAL == 0
  if lit && (decide (instr < 2) || (decide (instr < 7) && opened)) then instr else 1

/-- IDCODE of a die. DESIGN CHOICE: log entry 14. -/
def idcode (s : Dev) (die : Nat) : Nat :=
  let step := if die < 4 then fget s (RF.BRG_EDGE_STATUS_STEP die) else fget s RF.BRG_PKG_LEVEL_BASE_STEP
  step % 16 * 2 ^ 28 + (0x4801 + min die 4) * 2 ^ 12 + Config.jep106 % 2 ^ 11 * 2 + 1

/-- TAP_INSTRUCTION (R513). DEDUCED: log entry 85. -/
def execTapInstruction (die instr : Nat) (s : State) : Host.Outcome State Fault Refusal :=
  perform s (fun s =>
    if die > 51 || !s.start.closed then s
    else
      let i := tapInstr s die instr
      let s := { s with start := { s.start with tap := tset s.start.tap die i } }
      let s := if i = 0 then { s with out := s.out ++ [.idcode die (idcode s die)] } else s
      if (i = 3 ∨ i = 6) ∧ fget s RF.BRG_START_STATUS_TAP_OPENED = 0 then
        logFw (fset s RF.BRG_START_STATUS_TAP_OPENED 1) 15 Reg.BRG_START_STATUS 0 1
      else s)

/-- ALERT_READ (R525): an alert has been read on a bus, whose ALERT# is released. DEDUCED: log entry 98. -/
def execAlertRead (bus : Nat) (s : State) : Host.Outcome State Fault Refusal :=
  perform s (fun s =>
    if bus > 1 || !busOn s bus || !bitOf s.start.alerts bus then s
    else { s with start := { s.start with alerts := setBits s.start.alerts bus 1 0 }, out := s.out ++ [.alert bus false] })

end Sys2Proof.Machine
end

