-- ==== Sys2Proof/Machine/Registers.lean ====
section
/-!
DEFINITION. Accesses to registers (R2, R13, R14, R375, R431, R434): which bits software may write, permissions, the log, and writes that act.
-/
namespace Sys2Proof.Machine

/-! ### Access (R14, R375) -/

/-- A naturally aligned 32-bit or 64-bit access. -/
def accessLegal (size off : Nat) : Bool := (size == 4 || size == 8) && off % size == 0

/-- An offset lies in a function's BAR0 window: 16 MiB of the manager, 1 MiB of an instance. -/
def inWindow (fn off : Nat) : Bool := decide (off < if fn = 0 then 2 ^ 24 else 2 ^ 20)

/-- An access reaches the registers: over a bus that answers, or from the host of a function whose link is up, subject to TDISP (R388).
DEDUCED: log entry 91. -/
def accessReaches (s : Dev) (w : RegWr) : Dev × Bool :=
  if w.side then (s, busOn s (w.bus % 2) && w.fn == 0 && inWindow 0 w.off)
  else if w.fn > 32 || !inWindow w.fn w.off || decide (fget s RF.HST_STATUS_LINK < 2)
      || (w.fn != 0 && fget s (RF.HST_BIND_STATUS_BOUND w.fn) == 0) then (s, false)
  else vfGate s w.fn w.ide

/-- Origin and ORIGIN_ID of an access (R430). DEDUCED: log entry 86. -/
def accessOrigin (w : RegWr) : Nat × Nat := if w.side then (4, w.bus % 2) else if w.fn = 0 then (1, 0) else (2, w.fn)

/-- A write over sideband is answered with a code (R14, R431); the host port answers none. DEDUCED: log entry 12. -/
def ackWrite (s : Dev) (w : RegWr) (code : Nat) : Dev := if w.side then { s with out := s.out ++ [.regAck (w.bus % 2) code] } else s

/-- REGISTER_ACCESS_MISALIGNED (R14): counted on every path; a read returns all ones. -/
def execRegisterAccessMisaligned (w : RegWr) (write : Bool) (s : State) : Host.Outcome State Fault Refusal :=
  perform s (fun s =>
    if accessLegal w.size w.off then s
    else match accessReaches s w with
      | (s, true) =>
        let s := bump s Reg.HST_CNT_ACCESS_ERRORS
        if write then ackWrite s w 0
        else if w.side then { s with out := s.out ++ [.regData (w.bus % 2) (2 ^ (8 * w.size) - 1)] }
        else { s with out := s.out ++ [.barData w.fn (List.replicate w.size 0xFF) false] }
      | (s, false) => s)

/-! ### What may be written (R13) -/

/-- Registers that lie in every window: the WCH boot block, the HST instance block, the MSI-X table (R375). -/
def inEveryWindow (off : Nat) : Bool := decide (0x2000 ≤ off) && decide (off < 0x5000)

/-- RW bits of a policy register (R2): they are of row 7 of the permission table and entered in the log. DEDUCED: log entry 100. -/
def policyMask (off : Nat) : Nat :=
  if off = Reg.STR_LANE_POLICY then 0x1FFFFFFFF
  else if off = Reg.MEM_MIG_POLICY then 0xFFFFFFFFFFFF01
  else if off = Reg.MEM_SCRUB_POLICY then 0xFF
  else if off = Reg.FAB_POLICY then 0xFFFFFFFF01
  else if off = Reg.HST_POLICY then 0xFFFFFFFF
  else if off = Reg.PWR_POLICY then 0xFFFFFF7FFFFFFFFF
  else if off = Reg.PWR_IDLE_POLICY then 0xFF01FFFFFFFFFFFF
  else if off = Reg.PWR_LIMITS then 0x3FF8000000000000
  else if off = Reg.THM_POLICY then 0xFFFF
  else 0

/-- RW bits of a register of every window. -/
def windowMask (off : Nat) : Nat :=
  if off = Reg.WCH_BOOT_RING ∨ off = Reg.WCH_BOOT_CPL ∨ off = Reg.WCH_BOOT_WATCH then 2 ^ 52 - 1
  else if off = Reg.WCH_BOOT_CTL then 0x7FFFF01
  else if off = Reg.HST_BAR2_VA then 0x1FFFFF000000000
  else 0

/-- Bits that a write of a size at an offset addresses, within its register. -/
def accessMask (size off : Nat) : Nat := if size = 8 then 2 ^ 64 - 1 else (2 ^ 32 - 1) * 2 ^ (32 * (off % 8 / 4))

/-- The value of the register as the write gives it, reserved and read-only bits included. -/
def triedValue (w : RegWr) (cur : Nat) : Nat :=
  if w.size = 8 then w.value % 2 ^ 64 else setBits cur (32 * (w.off % 8 / 4)) 32 w.value

/-- The value that results where a mask of bits is writable. DEDUCED: log entry 100. -/
def writtenValue (w : RegWr) (cur mask : Nat) : Nat :=
  let m := mask &&& accessMask w.size w.off
  (cur &&& (2 ^ 64 - 1 - m)) ||| (triedValue w cur &&& m)

/-- A REGISTER entry (R436 kind 1). -/
def logRegister (s : Dev) (w : RegWr) (result base old new : Nat) : Dev :=
  let o := accessOrigin w
  logAdd s o.1 o.2 result 1 base (if inEveryWindow base then w.fn else 0xFF) old new

/-! ### Writes that act -/

/-- A policy register: permission, log, and the terms that follow from it (R434, R438, R461). DEDUCED: log entry 100. -/
def writePolicy (s : Dev) (w : RegWr) (base : Nat) : Dev :=
  let cur := regRead s base
  if !permits s 7 (accessOrigin w).1 then logRegister (bump s Reg.LOG_CNT_DENIED) w eOrigin base cur (triedValue w cur)
  else
    let new := writtenValue w cur (policyMask base)
    let s := regWrite (logRegister s w 0 base cur new) base new
    if base = Reg.PWR_POLICY then retarget s else s

/-- BRG_MARGIN_CTL (R2, R512): the row of no permission names it. DEDUCED: log entry 86. -/
def writeMargin (s : Dev) (w : RegWr) : Dev :=
  let cur := regRead s Reg.BRG_MARGIN_CTL
  let new := if marginState s && !s.start.margin then writtenValue w cur 0xFFFF0FFFFFF8 else cur
  marginWrite (logRegister s w 0 Reg.BRG_MARGIN_CTL cur new) new (w.size == 8 && w.value % 2 == 1)

/-- The base of BAR2 (R2, R376). DEDUCED: log entry 91. -/
def writeBar2Va (s : Dev) (w : RegWr) : Dev :=
  let cur := winRead s w.fn Reg.HST_BAR2_VA
  let new := writtenValue w cur (windowMask Reg.HST_BAR2_VA)
  winWrite (logRegister s w 0 Reg.HST_BAR2_VA cur new) w.fn Reg.HST_BAR2_VA new

/-- The WCH boot block (R314): while READY is 1 a write has no effect; ENABLE acts on a 64-bit write. -/
def writeBoot (s : Dev) (w : RegWr) (base : Nat) : Dev :=
  if wfget s w.fn RF.WCH_BOOT_CTL_READY = 1 then s
  else if base = Reg.WCH_BOOT_CTL ∧ w.size = 8 ∧ w.value % 2 = 1 then enableBoot s w.fn w.value
  else winWrite s w.fn base (writtenValue w (winRead s w.fn base) (windowMask base))

/-- The MSI-X table (R377): address, data and mask of each vector. Clearing the mask sends a pending message. DESIGN CHOICE: log entry 90. -/
def writeMsix (s : Dev) (w : RegWr) (base : Nat) : Dev :=
  let vec := (base - 0x4000) / 16
  if vec ≥ vectorsOf w.fn then s
  else
    let upper := base % 16 == 8
    let mask := if upper then 2 ^ 33 - 1 else 2 ^ 64 - 4
    let masked := b2n (tgetD s.host.msix (64 * w.fn + vec) ⟨true, false⟩).masked
    let cur := if upper then setBits (winRead s w.fn base) 32 1 masked else winRead s w.fn base
    let new := writtenValue w cur mask
    let s := winWrite s w.fn base new
    if upper then setMask s w.fn vec (bitOf new 32) else s

/-- A directory probe (R233): it runs on a 64-bit write. -/
def writeProbe (s : Dev) (w : RegWr) : Dev :=
  if w.size = 8 then probeLine s (w.value % 2 ^ 36)
  else regWrite s Reg.SHC_DIR_PROBE_ADDR (writtenValue w (regRead s Reg.SHC_DIR_PROBE_ADDR) (2 ^ 36 - 1))

/-- A decoder may be committed (R371, R375): CXL.mem is in use, it has a size, the decoders below it are committed, and it lies above them. -/
def canCommit (s : Dev) (n : Nat) : Bool :=
  fget s RF.HST_STATUS_MEM_EN == 1 && comp64 s (hdmDec n + 8) != 0
    && (List.range n).all (fun m => hdmCommitted s m && decide (comp64 s (hdmDec m) + comp64 s (hdmDec m + 8) ≤ comp64 s (hdmDec n)))

/-- A 32-bit register of a decoder: base and size in 256 MiB units; control, whose COMMIT bit commits it or takes it out of use; skip. What is committed
cannot be changed. -/
def writeDecoder (s : Dev) (n reg v : Nat) : Dev :=
  let off := hdmDec n + reg
  if reg = 0x10 then
    (let old := comp32 s off
     if hdmCommitted s n then (if bitOf old 8 || bitOf v 9 then s else setComp32 s off (v &&& 0x1FF))
     else if bitOf v 9 then setComp32 s off ((v &&& 0x3FF) + (if canCommit s n then 2 ^ 10 else 2 ^ 11))
     else setComp32 s off (v &&& 0x1FF))
  else if hdmCommitted s n then s
  else setComp32 s off (if reg % 8 = 0 ∨ reg = 0x14 then v &&& 0xF0000000 else v)

/-- Write 32 bits of the CXL component block (R375); the spec leaves its other registers to CXL 3.1. -/
def writeComponent (s : Dev) (off v : Nat) : Dev :=
  if hdmDec 0 ≤ off ∧ off < hdmDec 4 ∧ (off - hdmDec 0) % 0x20 < 0x1C then writeDecoder s ((off - hdmDec 0) / 0x20) ((off - hdmDec 0) % 0x20) (v % 2 ^ 32)
  else if off = hdmBase + 4 then setComp32 s off (v &&& 3)
  else s

/-- A write to a register that the access may make, by its place. -/
def writeRegister (s : Dev) (w : RegWr) : Dev :=
  let base := w.off / 8 * 8
  if inEveryWindow base then
    (if base = Reg.HST_BAR2_VA then writeBar2Va s w
     else if base < 0x3000 then (if windowMask base = 0 then s else writeBoot s w base)
     else if base ≥ 0x4000 then writeMsix s w base else s)
  else if w.fn ≠ 0 then s
  else if policyMask base ≠ 0 then writePolicy s w base
  else if base = Reg.BRG_MARGIN_CTL then writeMargin s w
  else if base = Reg.SHC_DIR_PROBE_ADDR then writeProbe s w
  else if 0x1C0000 ≤ base ∧ base < 0x1D0000 then
    (if w.size = 4 then writeComponent s w.off w.value else writeComponent (writeComponent s w.off w.value) (w.off + 4) (w.value / 2 ^ 32))
  else s

/-- A write over sideband needs a session (R431): it is refused with E_AUTH, counted and entered; the boot ROM enters nothing of it.
DEDUCED: log entry 12. -/
def refuseWrite (s : Dev) (w : RegWr) : Dev :=
  let base := w.off / 8 * 8
  let cur := if inEveryWindow base then winRead s w.fn base else regRead s base
  let s := bump s Reg.LOG_CNT_AUTH_FAILS
  if fget s RF.BRG_START_STATUS_RECOVERY = 1 then s else logRegister s w eAuth base cur cur

/-- The code that answers a write over sideband within a session (R434). DEDUCED: log entry 12. -/
def writeCode (s : Dev) (w : RegWr) : Nat := if policyMask (w.off / 8 * 8) ≠ 0 ∧ !permits s 7 4 then eOrigin else 0

/-- A write of a register, whichever row names it. DEDUCED: log entry 12. -/
def performWrite (s : Dev) (w : RegWr) : Dev :=
  if !accessLegal w.size w.off then s
  else match accessReaches s w with
    | (s, true) =>
      if w.side && (!w.authed || fget s RF.BRG_START_STATUS_RECOVERY == 1) then ackWrite (refuseWrite s w) w eAuth
      else ackWrite (writeRegister s w) w (writeCode s w)
    | (s, false) => s

/-- REGISTER_WRITE (R13, R14). -/
def execRegisterWrite (w : RegWr) (s : State) : Host.Outcome State Fault Refusal :=
  perform s (fun s => whole s (fun s => performWrite s w))

/-- BRG_MARGIN_CTL_GO (R512): a 64-bit write of BRG_MARGIN_CTL with GO set. -/
def execBrgMarginCtlGo (w : RegWr) (s : State) : Host.Outcome State Fault Refusal :=
  perform s (fun s => if w.off = Reg.BRG_MARGIN_CTL ∧ w.size = 8 ∧ w.value % 2 = 1 ∧ w.fn = 0 then performWrite s w else s)

end Sys2Proof.Machine
end

