-- ==== Sys2Proof/Machine/AllMeanings.lean ====
section
/-!
DEFINITION. Every family of meanings, gathered for the dispatch.
-/
end

