-- ==== Sys2Proof/Machine/Dispatch.lean ====
section
/-!
DEFINITION. One arm for each command: its meaning, called by its full name.
-/
namespace Sys2Proof.Machine

open Sys2Proof

/-- The effect of a command on everything but the queue. -/
def exec (i : Instr) (s : State) : Host.Outcome State Fault Refusal :=
  match i with
  | .add issue => Sys2Proof.Machine.execAdd issue s
  | .sub issue => Sys2Proof.Machine.execSub issue s
  | .mul issue => Sys2Proof.Machine.execMul issue s
  | .mulh issue => Sys2Proof.Machine.execMulh issue s
  | .madd issue => Sys2Proof.Machine.execMadd issue s
  | .div issue => Sys2Proof.Machine.execDiv issue s
  | .rem issue => Sys2Proof.Machine.execRem issue s
  | .min issue => Sys2Proof.Machine.execMin issue s
  | .max issue => Sys2Proof.Machine.execMax issue s
  | .andOp issue => Sys2Proof.Machine.execAndOp issue s
  | .orOp issue => Sys2Proof.Machine.execOrOp issue s
  | .xorOp issue => Sys2Proof.Machine.execXorOp issue s
  | .shl issue => Sys2Proof.Machine.execShl issue s
  | .shr issue => Sys2Proof.Machine.execShr issue s
  | .cmp issue => Sys2Proof.Machine.execCmp issue s
  | .pick issue => Sys2Proof.Machine.execPick issue s
  | .mov issue => Sys2Proof.Machine.execMov issue s
  | .notOp issue => Sys2Proof.Machine.execNotOp issue s
  | .cnt1 issue => Sys2Proof.Machine.execCnt1 issue s
  | .lzc issue => Sys2Proof.Machine.execLzc issue s
  | .addf issue => Sys2Proof.Machine.execAddf issue s
  | .mulf issue => Sys2Proof.Machine.execMulf issue s
  | .macf issue => Sys2Proof.Machine.execMacf issue s
  | .minf issue => Sys2Proof.Machine.execMinf issue s
  | .maxf issue => Sys2Proof.Machine.execMaxf issue s
  | .cmpf issue => Sys2Proof.Machine.execCmpf issue s
  | .rcpf issue => Sys2Proof.Machine.execRcpf issue s
  | .sqrtf issue => Sys2Proof.Machine.execSqrtf issue s
  | .rsqf issue => Sys2Proof.Machine.execRsqf issue s
  | .exp2f issue => Sys2Proof.Machine.execExp2f issue s
  | .log2f issue => Sys2Proof.Machine.execLog2f issue s
  | .sinf issue => Sys2Proof.Machine.execSinf issue s
  | .cosf issue => Sys2Proof.Machine.execCosf issue s
  | .tanhf issue => Sys2Proof.Machine.execTanhf issue s
  | .xfmt issue => Sys2Proof.Machine.execXfmt issue s
  | .rdg issue => Sys2Proof.Machine.execRdg issue s
  | .wrg issue => Sys2Proof.Machine.execWrg issue s
  | .rdl issue => Sys2Proof.Machine.execRdl issue s
  | .wrl issue => Sys2Proof.Machine.execWrl issue s
  | .amog issue => Sys2Proof.Machine.execAmog issue s
  | .amol issue => Sys2Proof.Machine.execAmol issue s
  | .cflush issue => Sys2Proof.Machine.execCflush issue s
  | .cinv issue => Sys2Proof.Machine.execCinv issue s
  | .bar issue => Sys2Proof.Machine.execBar issue s
  | .fence issue => Sys2Proof.Machine.execFence issue s
  | .lxch issue => Sys2Proof.Machine.execLxch issue s
  | .tally issue => Sys2Proof.Machine.execTally issue s
  | .jmp issue => Sys2Proof.Machine.execJmp issue s
  | .jmpr issue => Sys2Proof.Machine.execJmpr issue s
  | .call issue => Sys2Proof.Machine.execCall issue s
  | .conv issue => Sys2Proof.Machine.execConv issue s
  | .join issue => Sys2Proof.Machine.execJoin issue s
  | .endOp issue => Sys2Proof.Machine.execEndOp issue s
  | .nop issue => Sys2Proof.Machine.execNop issue s
  | .sread issue => Sys2Proof.Machine.execSread issue s
  | .rnd issue => Sys2Proof.Machine.execRnd issue s
  | .mxi issue => Sys2Proof.Machine.execMxi issue s
  | .mxw issue => Sys2Proof.Machine.execMxw issue s
  | .mxt issue => Sys2Proof.Machine.execMxt issue s
  | .mxz issue => Sys2Proof.Machine.execMxz issue s
  | .mxst issue => Sys2Proof.Machine.execMxst issue s
  | .mxRow core sram => Sys2Proof.Machine.execMxRow core sram s
  | .mxTokenComplete core token => Sys2Proof.Machine.execMxTokenComplete core token s
  | .fyi issue => Sys2Proof.Machine.execFyi issue s
  | .fyw issue => Sys2Proof.Machine.execFyw issue s
  | .fyt issue => Sys2Proof.Machine.execFyt issue s
  | .ferrySegment core handle => Sys2Proof.Machine.execFerrySegment core handle s
  | .ferryComplete core handle => Sys2Proof.Machine.execFerryComplete core handle s
  | .sslot issue => Sys2Proof.Machine.execSslot issue s
  | .sin issue => Sys2Proof.Machine.execSin issue s
  | .sout issue => Sys2Proof.Machine.execSout issue s
  | .spgl issue => Sys2Proof.Machine.execSpgl issue s
  | .spgn issue => Sys2Proof.Machine.execSpgn issue s
  | .scoreboardEntryFree core index => Sys2Proof.Machine.execScoreboardEntryFree core index s
  | .writebackAccept core => Sys2Proof.Machine.execWritebackAccept core s
  | .setAdmit core => Sys2Proof.Machine.execSetAdmit core s
  | .dispatchStart dispatch => Sys2Proof.Machine.execDispatchStart dispatch s
  | .launchComplete dispatch => Sys2Proof.Machine.execLaunchComplete dispatch s
  | .stepComplete dispatch => Sys2Proof.Machine.execStepComplete dispatch s
  | .translationWalk core engine tag va => Sys2Proof.Machine.execTranslationWalk core engine tag va s
  | .faultBatchClose inst => Sys2Proof.Machine.execFaultBatchClose inst s
  | .faultBatchWrite inst ringBad => Sys2Proof.Machine.execFaultBatchWrite inst ringBad s
  | .invalidateDrainComplete inst => Sys2Proof.Machine.execInvalidateDrainComplete inst s
  | .watchLineWake inst ring => Sys2Proof.Machine.execWatchLineWake inst ring s
  | .ringService inst ring producer entries => Sys2Proof.Machine.execRingService inst ring producer entries s
  | .completionWrite inst ring consumed => Sys2Proof.Machine.execCompletionWrite inst ring consumed s
  | .irqModerationExpiry inst ring => Sys2Proof.Machine.execIrqModerationExpiry inst ring s
  | .sessionInput inst ring pos => Sys2Proof.Machine.execSessionInput inst ring pos s
  | .launch c => Sys2Proof.Machine.execLaunch c s
  | .sessionOpen c => Sys2Proof.Machine.execSessionOpen c s
  | .sessionBind c => Sys2Proof.Machine.execSessionBind c s
  | .sessionStep c => Sys2Proof.Machine.execSessionStep c s
  | .sessionPark c => Sys2Proof.Machine.execSessionPark c s
  | .sessionResume c => Sys2Proof.Machine.execSessionResume c s
  | .sessionSuspend c => Sys2Proof.Machine.execSessionSuspend c s
  | .sessionClose c => Sys2Proof.Machine.execSessionClose c s
  | .bindCreate c => Sys2Proof.Machine.execBindCreate c s
  | .bindDestroy c => Sys2Proof.Machine.execBindDestroy c s
  | .ringCreate c => Sys2Proof.Machine.execRingCreate c s
  | .ringDestroy c => Sys2Proof.Machine.execRingDestroy c s
  | .setClass c => Sys2Proof.Machine.execSetClass c s
  | .setXlateRoot c => Sys2Proof.Machine.execSetXlateRoot c s
  | .xlateInvalidate c => Sys2Proof.Machine.execXlateInvalidate c s
  | .setFaultRing c => Sys2Proof.Machine.execSetFaultRing c s
  | .resumeBatch c => Sys2Proof.Machine.execResumeBatch c s
  | .setHomeSet c => Sys2Proof.Machine.execSetHomeSet c s
  | .setHomeMap c => Sys2Proof.Machine.execSetHomeMap c s
  | .setMemRegulator c => Sys2Proof.Machine.execSetMemRegulator c s
  | .setMigPoolAdd c => Sys2Proof.Machine.execSetMigPoolAdd c s
  | .setMigPoolRemove c => Sys2Proof.Machine.execSetMigPoolRemove c s
  | .pkgManifest c => Sys2Proof.Machine.execPkgManifest c s
  | .journalStart c => Sys2Proof.Machine.execJournalStart c s
  | .journalStop c => Sys2Proof.Machine.execJournalStop c s
  | .replayStart c => Sys2Proof.Machine.execReplayStart c s
  | .replayFeedRecord inst produced record => Sys2Proof.Machine.execReplayFeedRecord inst produced record s
  | .sessionSeek c => Sys2Proof.Machine.execSessionSeek c s
  | .classTick cls => Sys2Proof.Machine.execClassTick cls s
  | .batchDispatch dispatch => Sys2Proof.Machine.execBatchDispatch dispatch s
  | .cadenceAdjust => Sys2Proof.Machine.execCadenceAdjust s
  | .fabSetDevice c => Sys2Proof.Machine.execFabSetDevice c s
  | .fabRouteSet c => Sys2Proof.Machine.execFabRouteSet c s
  | .fabArchAdmit c => Sys2Proof.Machine.execFabArchAdmit c s
  | .fabArchDepart c => Sys2Proof.Machine.execFabArchDepart c s
  | .fabExport c => Sys2Proof.Machine.execFabExport c s
  | .fabUnexport c => Sys2Proof.Machine.execFabUnexport c s
  | .mcastGroupSet c => Sys2Proof.Machine.execMcastGroupSet c s
  | .mcastSend c => Sys2Proof.Machine.execMcastSend c s
  | .commCreate c => Sys2Proof.Machine.execCommCreate c s
  | .collRun c => Sys2Proof.Machine.execCollRun c s
  | .commDestroy c => Sys2Proof.Machine.execCommDestroy c s
  | .hostBind c placed => Sys2Proof.Machine.execHostBind c placed s
  | .hostUnbind c => Sys2Proof.Machine.execHostUnbind c s
  | .insCreate c => Sys2Proof.Machine.execInsCreate c s
  | .insMemAssign c => Sys2Proof.Machine.execInsMemAssign c s
  | .insMemRelease c => Sys2Proof.Machine.execInsMemRelease c s
  | .insIslandsAdd c => Sys2Proof.Machine.execInsIslandsAdd c s
  | .insIslandsRemove c => Sys2Proof.Machine.execInsIslandsRemove c s
  | .insDestroy c => Sys2Proof.Machine.execInsDestroy c s
  | .insReset c => Sys2Proof.Machine.execInsReset c s
  | .insFreeze c => Sys2Proof.Machine.execInsFreeze c s
  | .freezeComplete inst => Sys2Proof.Machine.execFreezeComplete inst s
  | .insResume c => Sys2Proof.Machine.execInsResume c s
  | .insSave c => Sys2Proof.Machine.execInsSave c s
  | .insRestore c => Sys2Proof.Machine.execInsRestore c s
  | .insMigKey c chain measured key => Sys2Proof.Machine.execInsMigKey c chain measured key s
  | .vfFlr fn ide => Sys2Proof.Machine.execVfFlr fn ide s
  | .setEpoch c => Sys2Proof.Machine.execSetEpoch c s
  | .logRead c => Sys2Proof.Machine.execLogRead c s
  | .logCheckpointRead c => Sys2Proof.Machine.execLogCheckpointRead c s
  | .logCheckpointNow c => Sys2Proof.Machine.execLogCheckpointNow c s
  | .permSet c => Sys2Proof.Machine.execPermSet c s
  | .admitPolicySet c => Sys2Proof.Machine.execAdmitPolicySet c s
  | .fwStage c => Sys2Proof.Machine.execFwStage c s
  | .fwCommitSvn c => Sys2Proof.Machine.execFwCommitSvn c s
  | .sbRootSet c => Sys2Proof.Machine.execSbRootSet c s
  | .pwrHostLimit c => Sys2Proof.Machine.execPwrHostLimit c s
  | .replicaSet c => Sys2Proof.Machine.execReplicaSet c s
  | .replicaClear c => Sys2Proof.Machine.execReplicaClear c s
  | .traceStart c => Sys2Proof.Machine.execTraceStart c s
  | .traceStop c => Sys2Proof.Machine.execTraceStop c s
  | .moduleStart bus hold session => Sys2Proof.Machine.execModuleStart bus hold session s
  | .registerWrite w => Sys2Proof.Machine.execRegisterWrite w s
  | .registerAccessMisaligned w write => Sys2Proof.Machine.execRegisterAccessMisaligned w write s
  | .shcDirProbeAddr value => Sys2Proof.Machine.execShcDirProbeAddr value s
  | .wchBootCtlEnable fn value ide => Sys2Proof.Machine.execWchBootCtlEnable fn value ide s
  | .brgMarginCtlGo w => Sys2Proof.Machine.execBrgMarginCtlGo w s
  | .marginRunDone errors low high => Sys2Proof.Machine.execMarginRunDone errors low high s
  | .msixVectorUnmask fn vec ide => Sys2Proof.Machine.execMsixVectorUnmask fn vec ide s
  | .flitReceive strait bundle dir flit => Sys2Proof.Machine.execFlitReceive strait bundle dir flit s
  | .meshNak strait bundle dir seq => Sys2Proof.Machine.execMeshNak strait bundle dir seq s
  | .rotateReq strait bundle dir lane => Sys2Proof.Machine.execRotateReq strait bundle dir lane s
  | .narrowReq strait bundle dir lane => Sys2Proof.Machine.execNarrowReq strait bundle dir lane s
  | .replayBufferDrained strait bundle dir => Sys2Proof.Machine.execReplayBufferDrained strait bundle dir s
  | .laneTrainComplete strait bundle dir ok => Sys2Proof.Machine.execLaneTrainComplete strait bundle dir ok s
  | .rotateAck strait bundle dir ok => Sys2Proof.Machine.execRotateAck strait bundle dir ok s
  | .bundleDirectionLoss strait bundle dir => Sys2Proof.Machine.execBundleDirectionLoss strait bundle dir s
  | .routerFail site => Sys2Proof.Machine.execRouterFail site s
  | .routeSwitch => Sys2Proof.Machine.execRouteSwitch s
  | .resyncQuery strait bundle dir => Sys2Proof.Machine.execResyncQuery strait bundle dir s
  | .resyncReply strait bundle dir last => Sys2Proof.Machine.execResyncReply strait bundle dir last s
  | .slowRerouteComplete => Sys2Proof.Machine.execSlowRerouteComplete s
  | .standbyRecomputeDone => Sys2Proof.Machine.execStandbyRecomputeDone s
  | .bundleRetrainComplete strait bundle dir ok => Sys2Proof.Machine.execBundleRetrainComplete strait bundle dir ok s
  | .straitPark strait bundle dir => Sys2Proof.Machine.execStraitPark strait bundle dir s
  | .straitUnpark strait bundle dir => Sys2Proof.Machine.execStraitUnpark strait bundle dir s
  | .sliceAccess n sram dirBad => Sys2Proof.Machine.execSliceAccess n sram dirBad s
  | .cohRead m dirBad => Sys2Proof.Machine.execCohRead m dirBad s
  | .cohRx m dirBad => Sys2Proof.Machine.execCohRx m dirBad s
  | .cohOwn m dirBad => Sys2Proof.Machine.execCohOwn m dirBad s
  | .cohWb m => Sys2Proof.Machine.execCohWb m s
  | .cohDropNotice m => Sys2Proof.Machine.execCohDropNotice m s
  | .cohForward m => Sys2Proof.Machine.execCohForward m s
  | .cohRecall m => Sys2Proof.Machine.execCohRecall m s
  | .cohGrant m => Sys2Proof.Machine.execCohGrant m s
  | .cohResponse m => Sys2Proof.Machine.execCohResponse m s
  | .sliceBypassEnter island => Sys2Proof.Machine.execSliceBypassEnter island s
  | .memRead sec outcome retries copy keyBad => Sys2Proof.Machine.execMemRead sec outcome retries copy keyBad s
  | .memWrite line retries failed => Sys2Proof.Machine.execMemWrite line retries failed s
  | .wcbTimeout sec outcome => Sys2Proof.Machine.execWcbTimeout sec outcome s
  | .patrolScrubRead outcome retries => Sys2Proof.Machine.execPatrolScrubRead outcome retries s
  | .migrationPeriod => Sys2Proof.Machine.execMigrationPeriod s
  | .pageMoveComplete inst va => Sys2Proof.Machine.execPageMoveComplete inst va s
  | .stackThermalReport stack temps => Sys2Proof.Machine.execStackThermalReport stack temps s
  | .dutyLevelStep unit => Sys2Proof.Machine.execDutyLevelStep unit s
  | .dutyPausePeriod unit => Sys2Proof.Machine.execDutyPausePeriod unit s
  | .mr4Report pkg code level => Sys2Proof.Machine.execMr4Report pkg code level s
  | .unitThermalShutdown unit => Sys2Proof.Machine.execUnitThermalShutdown unit s
  | .selfRefreshEntry group => Sys2Proof.Machine.execSelfRefreshEntry group s
  | .fabricFlitReceive port f => Sys2Proof.Machine.execFabricFlitReceive port f s
  | .fabricNak port seq => Sys2Proof.Machine.execFabricNak port seq s
  | .fabReadRequest m => Sys2Proof.Machine.execFabReadRequest m s
  | .fabReadResponse m => Sys2Proof.Machine.execFabReadResponse m s
  | .fabWrite m => Sys2Proof.Machine.execFabWrite m s
  | .fabWriteAck m => Sys2Proof.Machine.execFabWriteAck m s
  | .fabAtomic m => Sys2Proof.Machine.execFabAtomic m s
  | .fabAtomicResponse m => Sys2Proof.Machine.execFabAtomicResponse m s
  | .multicastSegment m die => Sys2Proof.Machine.execMulticastSegment m die s
  | .multicastResponse m => Sys2Proof.Machine.execMulticastResponse m s
  | .mcastRetry n target seg => Sys2Proof.Machine.execMcastRetry n target seg s
  | .mcastTargetGiveUp n target => Sys2Proof.Machine.execMcastTargetGiveUp n target s
  | .collectiveData m => Sys2Proof.Machine.execCollectiveData m s
  | .collectiveSignal m => Sys2Proof.Machine.execCollectiveSignal m s
  | .progressWord m => Sys2Proof.Machine.execProgressWord m s
  | .progressPush => Sys2Proof.Machine.execProgressPush s
  | .progressUpdate => Sys2Proof.Machine.execProgressUpdate s
  | .collectiveProgressPoll comm => Sys2Proof.Machine.execCollectiveProgressPoll comm s
  | .paceTimeout comm => Sys2Proof.Machine.execPaceTimeout comm s
  | .unreachable m => Sys2Proof.Machine.execUnreachable m s
  | .fabricDepart m => Sys2Proof.Machine.execFabricDepart m s
  | .memberSilenceTimeout device => Sys2Proof.Machine.execMemberSilenceTimeout device s
  | .fabricResyncQuery m => Sys2Proof.Machine.execFabricResyncQuery m s
  | .fabricResyncReply m => Sys2Proof.Machine.execFabricResyncReply m s
  | .portLoss port light => Sys2Proof.Machine.execPortLoss port light s
  | .portDetect port => Sys2Proof.Machine.execPortDetect port s
  | .portTrained port lanes => Sys2Proof.Machine.execPortTrained port lanes s
  | .fabIdentity port m => Sys2Proof.Machine.execFabIdentity port m s
  | .fabricSpdmMessage port m => Sys2Proof.Machine.execFabricSpdmMessage port m s
  | .admissionTimeout device => Sys2Proof.Machine.execAdmissionTimeout device s
  | .keyUpdate port ok => Sys2Proof.Machine.execKeyUpdate port ok s
  | .fabricLanePark port => Sys2Proof.Machine.execFabricLanePark port s
  | .fabricLaneUnpark port => Sys2Proof.Machine.execFabricLaneUnpark port s
  | .cxlMemRead hpa want => Sys2Proof.Machine.execCxlMemRead hpa want s
  | .cxlMemWrite hpa mask d keep => Sys2Proof.Machine.execCxlMemWrite hpa mask d keep s
  | .bar2Access fn off n write data poison ide => Sys2Proof.Machine.execBar2Access fn off n write data poison ide s
  | .snpData line => Sys2Proof.Machine.execSnpData line s
  | .snpInv line => Sys2Proof.Machine.execSnpInv line s
  | .snpCur line => Sys2Proof.Machine.execSnpCur line s
  | .hostGo line sole data => Sys2Proof.Machine.execHostGo line sole data s
  | .birsp line data => Sys2Proof.Machine.execBirsp line data s
  | .biTimeout line => Sys2Proof.Machine.execBiTimeout line s
  | .linkDownTimeout => Sys2Proof.Machine.execLinkDownTimeout s
  | .hotReset => Sys2Proof.Machine.execHotReset s
  | .cxlioCompletionTimeout fn => Sys2Proof.Machine.execCxlioCompletionTimeout fn s
  | .linkTraining t => Sys2Proof.Machine.execLinkTraining t s
  | .linkRetry exhausted => Sys2Proof.Machine.execLinkRetry exhausted s
  | .doeObject fn len body => Sys2Proof.Machine.execDoeObject fn len body s
  | .getCertificate conn slot off n => Sys2Proof.Machine.execGetCertificate conn slot off n s
  | .spdmChallenge conn slot nonce => Sys2Proof.Machine.execSpdmChallenge conn slot nonce s
  | .getMeasurements conn index signed nonce => Sys2Proof.Machine.execGetMeasurements conn index signed nonce s
  | .keyExchange conn request => Sys2Proof.Machine.execKeyExchange conn request s
  | .spdmFinish conn ok => Sys2Proof.Machine.execSpdmFinish conn ok s
  | .pqCosign conn => Sys2Proof.Machine.execPqCosign conn s
  | .lockInterfaceRequest fn stream => Sys2Proof.Machine.execLockInterfaceRequest fn stream s
  | .startInterfaceRequest fn => Sys2Proof.Machine.execStartInterfaceRequest fn s
  | .stopInterfaceRequest fn => Sys2Proof.Machine.execStopInterfaceRequest fn s
  | .getDeviceInterfaceReport fn => Sys2Proof.Machine.execGetDeviceInterfaceReport fn s
  | .getDeviceInterfaceState fn => Sys2Proof.Machine.execGetDeviceInterfaceState fn s
  | .getTdispVersion fn => Sys2Proof.Machine.execGetTdispVersion fn s
  | .getTdispCapabilities fn => Sys2Proof.Machine.execGetTdispCapabilities fn s
  | .ideIntegrityFailure link stream => Sys2Proof.Machine.execIdeIntegrityFailure link stream s
  | .islandGate island => Sys2Proof.Machine.execIslandGate island s
  | .islandOff island => Sys2Proof.Machine.execIslandOff island s
  | .islandWakeComplete island => Sys2Proof.Machine.execIslandWakeComplete island s
  | .dvfsChangeComplete island => Sys2Proof.Machine.execDvfsChangeComplete island s
  | .droopTrip island => Sys2Proof.Machine.execDroopTrip island s
  | .droopRecover island cycles => Sys2Proof.Machine.execDroopRecover island cycles s
  | .dvfsDeferTimeout island => Sys2Proof.Machine.execDvfsDeferTimeout island s
  | .powerSample vin iin => Sys2Proof.Machine.execPowerSample vin iin s
  | .powerLoop => Sys2Proof.Machine.execPowerLoop s
  | .islandThermalReport island temp => Sys2Proof.Machine.execIslandThermalReport island temp s
  | .islandThermalStep island => Sys2Proof.Machine.execIslandThermalStep island s
  | .islandOverheat island => Sys2Proof.Machine.execIslandOverheat island s
  | .coolantSignalChange a b => Sys2Proof.Machine.execCoolantSignalChange a b s
  | .pllUnlock die => Sys2Proof.Machine.execPllUnlock die s
  | .pllRelock die => Sys2Proof.Machine.execPllRelock die s
  | .refClockLoss => Sys2Proof.Machine.execRefClockLoss s
  | .inputVoltageExcursion => Sys2Proof.Machine.execInputVoltageExcursion s
  | .inputOvervoltage vin => Sys2Proof.Machine.execInputOvervoltage vin s
  | .inputUndervoltage => Sys2Proof.Machine.execInputUndervoltage s
  | .psenseBreak => Sys2Proof.Machine.execPsenseBreak s
  | .islandLoss island baseDead => Sys2Proof.Machine.execIslandLoss island baseDead s
  | .ctlPairMismatch die pair => Sys2Proof.Machine.execCtlPairMismatch die pair s
  | .drbgHealthFail => Sys2Proof.Machine.execDrbgHealthFail s
  | .checkpointSigned n => Sys2Proof.Machine.execCheckpointSigned n s
  | .checkpointFlashCopy n ok => Sys2Proof.Machine.execCheckpointFlashCopy n ok s
  | .powerApplied slot => Sys2Proof.Machine.execPowerApplied slot s
  | .hostResetWhileFatal => Sys2Proof.Machine.execHostResetWhileFatal s
  | .waitInput ref => Sys2Proof.Machine.execWaitInput ref s
  | .bootRomVerify chains => Sys2Proof.Machine.execBootRomVerify chains s
  | .edgeSelfTest pairs plls kat => Sys2Proof.Machine.execEdgeSelfTest pairs plls kat s
  | .siteCheck results => Sys2Proof.Machine.execSiteCheck results s
  | .laneTest failed => Sys2Proof.Machine.execLaneTest failed s
  | .channelTest stackMask failed => Sys2Proof.Machine.execChannelTest stackMask failed s
  | .zeroStage => Sys2Proof.Machine.execZeroStage s
  | .tapInstruction die instr => Sys2Proof.Machine.execTapInstruction die instr s
  | .alertRead bus => Sys2Proof.Machine.execAlertRead bus s
  | .primaryDomainStop => Sys2Proof.Machine.execPrimaryDomainStop s
  | .layerLoss channel => Sys2Proof.Machine.execLayerLoss channel s
  | .journalRoomReturn inst => Sys2Proof.Machine.execJournalRoomReturn inst s
  | .regulatorWindow group => Sys2Proof.Machine.execRegulatorWindow group s
  | .thermalPauseEnd unit => Sys2Proof.Machine.execThermalPauseEnd unit s

end Sys2Proof.Machine
end

