-- ==== Sys2Proof/Machine/Idle.lean ====
section
/-!
DEFINITION. One tick of the always-on clock, which passes while no command waits (R449, R464), and what the device does by itself meanwhile.
-/
namespace Sys2Proof.Machine

/-- The always-on counts advance where their domain is powered. DESIGN CHOICE: log entries 1, 114. -/
def tickTime (s : Dev) : Dev :=
  let rest := b2n (s.start.primary || s.start.secondary)
  { s with time := { hw := s.time.hw + b2n s.start.primary, he := s.time.he + b2n s.start.secondary, mn := s.time.mn + rest, ms := s.time.ms + rest,
                     base := s.time.base + rest } }

/-- Throttle durations: the primary domain counts, for each reason, the ticks during which it applies. DESIGN CHOICE: log entry 1. -/
def tickReasons (s : Dev) : Dev :=
  if s.start.primary then (List.range 8).foldl (fun s i => if reasonOn s (i + 1) then bump s (Reg.PWR_THR_DUR (i + 1)) else s) s else s

/-- What the device goes on with by itself: messages that wait for a port or a bundle, those that wait for lines held outside the device, collectives, resets
that wait for the directory, and trace records. DESIGN CHOICE: log entry 1. -/
def goOn (s : Dev) : Dev := drainTraces (drainResets (collTurns (drainInbox (drainSegs (drainMesh (drainWaiting s))))))

/-- One tick. DESIGN CHOICE: log entry 1. -/
def idleTick (s : Dev) : Dev :=
  let s := tickReasons (tickTime s)
  if serving s then goOn s else s

end Sys2Proof.Machine
end

