-- ==== Sys2Proof/Machine/Step.lean ====
section
/-!
DEFINITION. One step: the command at the front of the queue, or a tick of the always-on clock where none waits.
-/
namespace Sys2Proof.Machine

/-- Take the command at the front of the queue and run it on the module with the queue's rest. DESIGN CHOICE: log entries 1, 114. -/
def step (s : State) : Host.Outcome State Fault Refusal :=
  match s.pending with
  | [] => perform s idleTick
  | c :: rest => exec c { s with pending := rest }

/-- The command that a word spells, put at the front of the queue. The table gives no command bits, so no word spells one. DESIGN CHOICE: log entry 3. -/
def State.withFetchWord (s : State) (nbits w : Nat) : State :=
  match decodeTableWord nbits w with
  | some c => { s with pending := c :: s.pending }
  | none => s

end Sys2Proof.Machine
end

