-- ==== Sys2Proof/Safety.lean ====
section
/-!
DEFINITION. The words in which statements speak: what stays the same, when a group's instruction runs, when a command is admitted, and the settled
states, in which the machine stands between two commands.
-/
namespace Sys2Proof.Machine

/-! ### What stays the same -/

/-- Every byte of both tiers reads as before. -/
def SameBytes (s t : Dev) : Prop := ∀ a, dramByte t.dram a = dramByte s.dram a

/-- Every manager register reads as before, but those named, and SHC_STATUS, whose counts `Settled` speaks of. -/
def SameRegsBut (l : List Nat) (s t : Dev) : Prop := ∀ o, o ∉ l → o ≠ Reg.SHC_STATUS → regRead t o = regRead s o

/-- Every core but one is as before. -/
def SameCoresBut (c : Nat) (s t : Dev) : Prop := ∀ j, j ≠ c → coreOf t j = coreOf s j

/-- Every group of a core but one is as before. -/
def SameGroupsBut (n : Nat) (c d : Core) : Prop := ∀ j, j ≠ n → tget d.groups j = tget c.groups j

/-- The parts of the module beyond its registers, its memory and its cores are as before: dispatches, requests under way, slices and directory, memory
controllers, translation, instances, front end, fabric, mesh, flash, trust, start, host port, messages sent, log, power and traces. -/
def SameUnits (s t : Dev) : Prop :=
  t.iregs = s.iregs ∧ t.time = s.time ∧ t.disp = s.disp ∧ t.net = s.net ∧ t.shore = s.shore ∧ t.mem = s.mem ∧ t.xl = s.xl ∧ t.ins = s.ins
    ∧ t.fe = s.fe ∧ t.fab = s.fab ∧ t.mesh = s.mesh ∧ t.flash = s.flash ∧ t.trust = s.trust ∧ t.start = s.start ∧ t.host = s.host
    ∧ t.out = s.out ∧ t.log = s.log ∧ t.power = s.power ∧ t.traces = s.traces

/-! ### Settled states -/

/-- Between commands: memory in its canonical form, SHC_STATUS counting the directory entries of the two halves (R233), and no line marked as blocked. -/
def Settled (s : Dev) : Prop :=
  Memory.wf s.dram = true ∧ fget s RF.SHC_STATUS_DIR_USED_HW = dirCount s 0 % 2 ^ 20 ∧ fget s RF.SHC_STATUS_DIR_USED_HE = dirCount s 1 % 2 ^ 20
    ∧ s.blocked = []

/-! ### Group instructions -/

/-- The group's instruction is the one with opcode `op`, its fetch and storage are sound, and nothing it waits for has failed: it runs in `e`. -/
def Ready (s : Dev) (i : Issue) (op : Nat) (e : Env) : Prop :=
  envOf s i = some e ∧ i.fetch = 0 ∧ i.sram = .ok ∧ wOp i.w = op ∧ pendingEnd e.g = none

/-- The group of an environment in a later state. -/
def groupIn (t : Dev) (e : Env) : Group := tgetD (coreOf t e.core).groups e.gno e.g

/-- What the launch tells the instruction that runs in `e`. -/
def tells (s : Dev) (e : Env) : VCtx := vctxOf s e.core e.gno e.d e.g

/-- The running path stands behind the instruction. -/
def movedOn (e : Env) (g : Group) : Prop := g.run = some { e.path with pc := (e.path.pc + wLen e.w) % 2 ^ 64 }

/-- A group instruction that changes only its group: the command's queue, memory, registers, other units, other cores and the core's other groups are as
before. -/
def OnlyGroup (s t : State) (e : Env) : Prop :=
  t.pending = s.pending ∧ SameBytes s.dev t.dev ∧ SameRegsBut [] s.dev t.dev ∧ SameUnits s.dev t.dev ∧ SameCoresBut e.core s.dev t.dev
    ∧ SameGroupsBut e.gno (coreOf s.dev e.core) (coreOf t.dev e.core)
    ∧ (coreOf t.dev e.core).ls = (coreOf s.dev e.core).ls ∧ (coreOf t.dev e.core).l1 = (coreOf s.dev e.core).l1
    ∧ (coreOf t.dev e.core).acc = (coreOf s.dev e.core).acc ∧ (coreOf t.dev e.core).wb = (coreOf s.dev e.core).wb

/-- Registers of a group outside a destination are as before: G registers of lanes that do not participate, and every other register. -/
def SameButG (dst k : Nat) (part : LaneMask) (g g' : Group) : Prop :=
  (∀ lane n, n < 256 → (part.toNat.testBit lane = false ∨ n < dst ∨ dst + k ≤ n) → gReg g' lane n = gReg g lane n)
    ∧ g'.pr = g.pr ∧ g'.ur = g.ur

/-- The group's paths, records, barriers, slot and charges are as before, but for the running path. -/
def SamePaths (g g' : Group) : Prop :=
  g'.queue = g.queue ∧ g'.bars = g.bars ∧ g'.recs = g.recs ∧ g'.ended = g.ended ∧ g'.done = g.done ∧ g'.slot = g.slot ∧ g'.charges = g.charges

/-- As `SameButG`, for a destination of U registers. -/
def SameButU (dst k : Nat) (g g' : Group) : Prop :=
  (∀ n, (n < dst ∨ dst + k ≤ n) → tget g'.ur n = tget g.ur n) ∧ g'.pr = g.pr ∧ g'.gr = g.gr

/-- The instruction in `e` completes with a value for each participating lane: written to k G registers of the lane, or with `dsel` the lowest lane's to k
U registers; every other register, the group's paths and everything outside the group stay as they are (R90). -/
def DstGets (s t : State) (e : Env) (dsel : Bool) (k : Nat) (v : Nat → Nat) : Prop :=
  OnlyGroup s t e ∧ movedOn e (groupIn t.dev e) ∧ SamePaths e.g (groupIn t.dev e)
    ∧ if dsel then
        (∀ l, e.part.toNat.testBit l = true → (∀ j, j < l → e.part.toNat.testBit j = false) →
          readU (groupIn t.dev e) (wDst e.w) k = v l % 2 ^ (32 * k)) ∧ SameButU (wDst e.w) k e.g (groupIn t.dev e)
      else
        (∀ l, e.part.toNat.testBit l = true → readG (groupIn t.dev e) l (wDst e.w) k = v l % 2 ^ (32 * k))
          ∧ SameButG (wDst e.w) k e.part e.g (groupIn t.dev e)

/-- The instruction in `e` completes with a truth value for each participating lane, written to a predicate; P7 keeps reading true (R59, R90). -/
def PredGets (s t : State) (e : Env) (v : Nat → Bool) : Prop :=
  OnlyGroup s t e ∧ movedOn e (groupIn t.dev e) ∧ SamePaths e.g (groupIn t.dev e)
    ∧ (groupIn t.dev e).gr = e.g.gr ∧ (groupIn t.dev e).ur = e.g.ur ∧ (groupIn t.dev e).flags = e.g.flags
    ∧ (∀ p, p ≠ wDst e.w → predMask (groupIn t.dev e) p = predMask e.g p)
    ∧ ∀ l, (predMask (groupIn t.dev e) (wDst e.w)).toNat.testBit l
        = if wDst e.w ≠ 7 ∧ e.part.toNat.testBit l = true then v l else (predMask e.g (wDst e.w)).toNat.testBit l

/-- A byte of a core's local store (R63). -/
def lsByte (c : Core) (a : Nat) : Byte := tgetD c.ls a 0

/-- A byte that a core's L1 holds, by location; none where it does not hold it, or holds it stale (R187, R189). -/
def l1Byte (c : Core) (loc : Nat) : Option Byte :=
  match tget c.l1 (loc / 32) with
  | some x => if !x.stale && x.valid.getLsbD (loc % 32) then some (byteAt x.data.toNat (loc % 32)) else none
  | none => none

/-- The location of a lane's access, by the translations that the core holds (R269). -/
def heldLoc (s : Dev) (e : Env) (access va : Nat) : Option Nat := (tlbFind (coreOf s e.core) 1 e.d.inst va access).map (fun t => t.at va)

/-- Every lane's address is canonical, is translated by the core's buffer, and meets no range in use by an asynchronous operation (R81, R121). -/
def Reachable (s : Dev) (e : Env) (access width : Nat) (write : Bool) (addrs : List (Nat × Nat)) : Prop :=
  ∀ p ∈ addrs, canonical p.2 = true ∧ (heldLoc s e access p.2).isSome ∧ sbBlocks (coreOf s e.core) none p.2 width write = false

/-- The L1 serves each lane's bytes without error, and no data is kept for the group past it. -/
def HeldInL1 (s : Dev) (e : Env) (access width : Nat) (addrs : List (Nat × Nat)) : Prop :=
  (∀ sec, bufFind (coreOf s e.core) (groupTag e.gno) sec = none)
    ∧ ∀ p ∈ addrs, ∀ loc, heldLoc s e access p.2 = some loc →
        l1Has (coreOf s e.core) (loc / 32) (byteSpan (loc % 32) width) = true ∧ l1Code (coreOf s e.core) (loc / 32) = 0

/-- The bytes that a core's L1 keeps of the sector of a location, from that location on, as a number. -/
def l1Value (c : Core) (loc n : Nat) : Nat :=
  match tget c.l1 (loc / 32) with
  | some x => bitsOf x.data.toNat (8 * (loc % 32)) (8 * n)
  | none => 0

/-- A matrix operation as the engine holds it for the instruction in `e` (R126, R146). -/
def mxTaken (s : Dev) (e : Env) (o : MxOp) : MxOp :=
  { o with token := wDst e.w, group := e.gno, set := e.g.set, seed := (tells s e).seed, step := (tells s e).step, seq := e.c.seq }

/-- Every sector of the L1 is stale and clean: what an acquire at island scope or wider leaves (R189). -/
def l1Fresh (c : Core) : Prop := ∀ sec x, tget c.l1 sec = some x → x.stale = true ∧ x.dirty = 0

/-- The rows of R96 whose result is one value of the width of TYPE. -/
def intRows : List ((Issue → Instr) × Nat) :=
  [(.add, 0x00), (.sub, 0x01), (.mul, 0x02), (.mulh, 0x03), (.madd, 0x04), (.div, 0x05), (.rem, 0x06), (.min, 0x07), (.max, 0x08), (.andOp, 0x09),
   (.orOp, 0x0A), (.xorOp, 0x0B), (.shl, 0x0C), (.shr, 0x0D), (.mov, 0x10), (.notOp, 0x11)]

/-- The rows of R99 and R100 that write a floating result. -/
def floatRows : List ((Issue → Instr) × Nat) :=
  [(.addf, 0x18), (.mulf, 0x19), (.macf, 0x1A), (.minf, 0x1B), (.maxf, 0x1C), (.rcpf, 0x1E), (.sqrtf, 0x1F), (.rsqf, 0x20), (.exp2f, 0x21),
   (.log2f, 0x22), (.sinf, 0x23), (.cosf, 0x24), (.tanhf, 0x25)]

/-- The result of an integer instruction in one lane by R96, on operands and an old destination of `w` bits. -/
def intRule (op : Nat) (signed : Bool) {w : Nat} (a b d : BitVec w) : BitVec w :=
  match op with
  | 0x00 => a + b
  | 0x01 => a - b
  | 0x02 => a * b
  | 0x03 =>
    if signed then BitVec.ofInt w (a.toInt * b.toInt / 2 ^ w) else BitVec.ofNat w (a.toNat * b.toNat / 2 ^ w)
  | 0x04 => a * b + d
  | 0x05 => if b = 0 then BitVec.allOnes w else if signed then a.sdiv b else a / b
  | 0x06 => if b = 0 then a else if signed then a.srem b else a % b
  | 0x07 => if (if signed then a.slt b else a.ult b) then a else b
  | 0x08 => if (if signed then a.slt b else a.ult b) then b else a
  | 0x09 => a &&& b
  | 0x0A => a ||| b
  | 0x0B => a ^^^ b
  | 0x0C => a <<< (b.toNat % w)
  | 0x0D => if signed then a.sshiftRight (b.toNat % w) else a >>> (b.toNat % w)
  | 0x10 => b
  | _ => ~~~b

/-- A comparison of R95 on operands of `w` bits. -/
def cmpRule (cond : Nat) (signed : Bool) {w : Nat} (a b : BitVec w) : Bool :=
  let lt := if signed then a.slt b else a.ult b
  match cond with
  | 0 => a == b
  | 1 => a != b
  | 2 => lt
  | 3 => lt || a == b
  | 4 => !lt && a != b
  | _ => !lt

/-! ### Commands to the units of the module -/

/-- Both tiers hold what they held: bytes, POISON bits and HELD_DIRTY marks. -/
def SameMem (s t : Dev) : Prop :=
  SameBytes s t ∧ t.dram.poison = s.dram.poison ∧ t.dram.held = s.dram.held ∧ t.dram.scrambled = s.dram.scrambled

/-- A command leaves the queue of commands, and every part of the module that `f` takes over from before; of the registers it changes those named at
most. What it does to memory is said beside. -/
def OnlyIn (l : List Nat) (s t : State) (f : Dev) : Prop :=
  t.pending = s.pending ∧ t.dev = { f with dram := t.dev.dram, regs := t.dev.regs, blocked := [] } ∧ SameRegsBut l s.dev t.dev

/-- The registers that report the audit log (R446). -/
def logRegs : List Nat := [Reg.LOG_HEAD, Reg.LOG_OLDEST, Reg.LOG_CNT_ENTRIES, Reg.LOG_CNT_OVERWRITTEN] ++ (List.range 8).map Reg.LOG_CHAIN

/-- The registers that a throttle reason which begins or ends may change: those that show the reasons, its count, the log's, and the count of messages
to a host that has gone (R364, R381, R465). -/
def reasonRegs (r : Nat) : List Nat :=
  [Reg.PWR_STATUS, Reg.FAB_PROGRESS, Reg.PWR_THR_CNT r, Reg.HST_CNT_DROPPED_CPL] ++ (List.range 44).map Reg.PWR_ISLAND ++ logRegs

/-- Every channel of the two lists is one of the 1,152 that the module has. -/
def channelsKnown (s : Dev) : Prop := ∀ c ∈ s.mem.listA ++ s.mem.listB, c < 1152

/-! ### Commands of the front end -/

/-- The rows that issue an instruction of a group, with their major opcodes (R93). -/
def issueRows : List ((Issue → Instr) × Nat) :=
  [(.add, 0x00), (.sub, 0x01), (.mul, 0x02), (.mulh, 0x03), (.madd, 0x04), (.div, 0x05), (.rem, 0x06), (.min, 0x07), (.max, 0x08), (.andOp, 0x09),
   (.orOp, 0x0A), (.xorOp, 0x0B), (.shl, 0x0C), (.shr, 0x0D), (.cmp, 0x0E), (.pick, 0x0F), (.mov, 0x10), (.notOp, 0x11), (.cnt1, 0x12), (.lzc, 0x13),
   (.addf, 0x18), (.mulf, 0x19), (.macf, 0x1A), (.minf, 0x1B)] ++
  [(.maxf, 0x1C), (.cmpf, 0x1D), (.rcpf, 0x1E), (.sqrtf, 0x1F), (.rsqf, 0x20), (.exp2f, 0x21), (.log2f, 0x22), (.sinf, 0x23), (.cosf, 0x24),
   (.tanhf, 0x25), (.xfmt, 0x28), (.rdg, 0x30), (.wrg, 0x31), (.rdl, 0x32), (.wrl, 0x33), (.amog, 0x38), (.amol, 0x39), (.cflush, 0x3C),
   (.cinv, 0x3D), (.bar, 0x3E), (.fence, 0x3F), (.lxch, 0x40), (.tally, 0x41), (.jmp, 0x48)] ++
  [(.jmpr, 0x49), (.call, 0x4A), (.conv, 0x4B), (.join, 0x4C), (.endOp, 0x4D), (.nop, 0x4E), (.sread, 0x4F), (.rnd, 0x50), (.mxi, 0x58), (.mxw, 0x59),
   (.mxt, 0x5A), (.mxz, 0x5B), (.mxst, 0x5C), (.fyi, 0x60), (.fyw, 0x61), (.fyt, 0x62), (.sslot, 0x68), (.sin, 0x69), (.sout, 0x6A), (.spgl, 0x6B),
   (.spgn, 0x6C)]

/-- The rows that are a command of the tables of chapters 11 to 21, with their opcodes; HOST_BIND and INS_MIG_KEY have an operand more. -/
def cmdRows : List ((Cmd → Instr) × Nat) :=
  [(.launch, 0x01), (.sessionOpen, 0x10), (.sessionBind, 0x11), (.sessionStep, 0x12), (.sessionPark, 0x13), (.sessionResume, 0x14),
   (.sessionSuspend, 0x15), (.sessionClose, 0x16), (.bindCreate, 0x18), (.bindDestroy, 0x19), (.ringCreate, 0x20), (.ringDestroy, 0x21),
   (.setClass, 0x22), (.setXlateRoot, 0x30), (.xlateInvalidate, 0x31), (.setFaultRing, 0x32), (.resumeBatch, 0x33), (.setHomeSet, 0x40),
   (.setHomeMap, 0x41), (.setMemRegulator, 0x42), (.setMigPoolAdd, 0x43), (.setMigPoolRemove, 0x43), (.pkgManifest, 0x50), (.journalStart, 0x60)] ++
  [(.journalStop, 0x61), (.replayStart, 0x62), (.sessionSeek, 0x63), (.fabSetDevice, 0x70), (.fabRouteSet, 0x71), (.fabArchAdmit, 0x72),
   (.fabArchDepart, 0x72), (.fabExport, 0x73), (.fabUnexport, 0x74), (.mcastGroupSet, 0x75), (.mcastSend, 0x76), (.commCreate, 0x77),
   (.collRun, 0x78), (.commDestroy, 0x79), (.hostUnbind, 0x81), (.insCreate, 0x90), (.insMemAssign, 0x91), (.insMemRelease, 0x91),
   (.insIslandsAdd, 0x92), (.insIslandsRemove, 0x92), (.insDestroy, 0x93), (.insReset, 0x94), (.insFreeze, 0x95), (.insResume, 0x96)] ++
  [(.insSave, 0x97), (.insRestore, 0x98), (.setEpoch, 0xA0), (.logRead, 0xA1), (.logCheckpointRead, 0xA2), (.logCheckpointNow, 0xA3),
   (.permSet, 0xA4), (.admitPolicySet, 0xA5), (.fwStage, 0xA6), (.fwCommitSvn, 0xA7), (.sbRootSet, 0xA8), (.pwrHostLimit, 0xB0), (.replicaSet, 0xC0),
   (.replicaClear, 0xC1), (.traceStart, 0xD1), (.traceStop, 0xD2)]

/-- A command `x` of an opcode can run now: over sideband the bus answers, no other such command is in progress and the module serves it (R431, R507, R525);
else the module is READY and the command has not begun. -/
def Served (s : Dev) (op : Nat) (x : Ctx) : Prop :=
  if x.origin = 4 then busOn s x.bus = true ∧ sidebandRuns s op = true ∧ fget s RF.BRG_START_STATUS_RECOVERY ≠ 1 ∧ ∀ e ∈ s.fe.store, e.inst ≠ 33
  else serving s = true ∧ ∀ e ∈ s.fe.store, cmdKey e.inst e.ring e.pos = x.key → e.phase ≠ 1

/-- A command of an opcode that the front end, the fabric manager or the sideband sends, and that stands before no check of the head: it runs as `x` (R289,
R293, R431, R432). -/
def Admits (s : Dev) (op : Nat) (c : Cmd) (x : Ctx) : Prop :=
  ctxOf op c s = some x ∧ s.blocked = [] ∧ x.inst ≤ 32
    ∧ (∃ sp, specOf op = some sp ∧ headCode s sp x = 0 ∧ ringCode s sp x = 0)
    ∧ Served s op x

/-- The command `x` completes with `r`: its ring owes the completion entry, or it is answered over the bus it came on (R291, R431). -/
def Completes (s t : Dev) (x : Ctx) (r : Ret) : Prop :=
  if x.origin ≤ 2 then
    ∀ rg, ringAt s (ringKey x.inst x.ring) = some rg → rg.dead = false →
      (ringAt t (ringKey x.inst x.ring)).map (·.cplQ) = some (rg.cplQ ++ [cplOf x r]) ∧ (storeAt t x.key).map (·.phase) = some 2
  else ∃ l, t.out = l ++ [.reply x.origin x.bus (cplBody (cplOf x r) ++ [0]) r.data]

/-- The command `x` has begun, and its completion follows later. -/
def Begins (t : Dev) (x : Ctx) : Prop := ∃ e ∈ t.fe.store, cmdKey e.inst e.ring e.pos = x.key ∧ e.entry = x.e ∧ e.phase = 1

/-- What a command `x` leaves beside its own effect `f`: the registers named and those of the log, the command store, its ring's completions, messages, and
the log. Other rings and other commands are as before. -/
def OnlyCmd (l : List Nat) (s t : State) (x : Ctx) (f : Dev) : Prop :=
  OnlyIn (l ++ logRegs) s t { f with
      fe := { f.fe with store := t.dev.fe.store, rings := t.dev.fe.rings }, out := t.dev.out, log := t.dev.log,
      flash := { f.flash with romLog := t.dev.flash.romLog } }
    ∧ (∀ k, k ≠ ringKey x.inst x.ring → ringAt t.dev k = ringAt s.dev k)
    ∧ t.dev.fe.store.filter (fun e => cmdKey e.inst e.ring e.pos != x.key) = s.dev.fe.store.filter (fun e => cmdKey e.inst e.ring e.pos != x.key)

/-- A command `x` that returns the bytes `b` completes with `r`: they are written at its address, or follow the answer over its bus (R431). -/
def Gives (s t : State) (x : Ctx) (va : Nat) (b : List Byte) (r : Ret) : Prop :=
  if x.origin ≤ 2 then
    ∀ s1 s2, vaCheck s.dev x.inst va b.length 1 = (s1, 0) → s2 = (vaWrite s1 x.inst va b).1 → s2.blocked = [] → s2.fe = s.dev.fe →
      Completes s2 t.dev x r ∧ SameMem s2 t.dev ∧ OnlyCmd [] { s with dev := s2 } t x s2
  else Completes s.dev t.dev x { r with data := b } ∧ SameMem s.dev t.dev ∧ OnlyCmd [] s t x s.dev

/-- A session's entry that stays while those of other sessions may change. -/
def OtherSessions (s t : Dev) (n : Nat) : Prop := ∀ m, m ≠ n → tget t.fe.sessions m = tget s.fe.sessions m

/-- Registers that count sessions (R314). -/
def sessionRegs : List Nat := [Reg.SES_STATUS, Reg.SES_CNT_FAILED, Reg.SES_CNT_CACHE_MISSES]

/-- A line of local memory that its slice holds as home, that no agent outside holds, and that nothing waits for (R209, R223). -/
def HeldHome (s : Dev) (k : Nat) (l : Line) : Prop :=
  isLocal k = true ∧ lineAt s k = some l ∧ tget s.shore.txn k = none ∧ dirAt s k = none ∧ inBypass s k = false

/-! ### The fabric -/

/-- A message reaches this device and it may act on it: the machine runs, the message is for it, nothing reserved is set, and its epoch is the one agreed with
its sender (R231, R336, R356). -/
def Arrives (s : Dev) (m : FabMsg) : Prop :=
  serving s = true ∧ ownDevice s m.dst = true ∧ m.reserved = false
    ∧ m.epoch = (match memberOf s m.src with
      | none => 0
      | some i => fget s (RF.SHC_EPOCH_EPOCH i))

/-- The transmit counts of the ports (R369). -/
def txRegs : List Nat := (List.range 16).map Reg.FAB_PORT_CNT_TX

/-- A message of this device goes out: in a flit of its own on a port of its route with room for replay, or, where no such port has room, it waits
(R334, R337, R342). -/
def Sends (s t : Dev) (m : FabMsg) : Prop :=
  (t.out = s.out ∧ t.fab.waiting = s.fab.waiting ++ [m] ∧ ∀ p ∈ routePorts s m.dst, 128 ≤ (portAt s p).replay.length) ∨
  ∃ p f, p ∈ routePorts s m.dst ∧ (portAt s p).replay.length < 128 ∧ f.slots = [m] ∧ f.seq = (portAt s p).tx ∧ t.out = s.out ++ [.flit p f]
    ∧ t.fab.waiting = s.fab.waiting ∧ (portAt t p).replay = (portAt s p).replay ++ [f]

/-- What arrivals and sends may change of the fabric `f`: the ports, the messages that wait, and when members were heard. -/
def fabSent (t : Dev) (f : Fabric) : Fabric :=
  { f with ports := t.fab.ports, lastPort := t.fab.lastPort, waiting := t.fab.waiting, members := t.fab.members }

/-- The member table is as before, but for when members were heard. -/
def SameMembers (s t : Dev) : Prop :=
  ∀ i, (tget t.fab.members i).map (fun x => (x.device, x.cmd)) = (tget s.fab.members i).map (fun x => (x.device, x.cmd))

/-- A coherence message about a line changes what the module holds of that line, at most sends messages, and leaves memory and every other line as they
are. -/
def OnlyCoh (l : List Nat) (s t : State) (k : Nat) : Prop :=
  OnlyIn (l ++ txRegs) s t
      { s.dev with
        shore := { s.dev.shore with lines := t.dev.shore.lines, dir := t.dev.shore.dir, txn := t.dev.shore.txn, queue := t.dev.shore.queue,
                                    wants := t.dev.shore.wants, grants := t.dev.shore.grants },
        mem := { s.dev.mem with writes := t.dev.mem.writes }, fe := { s.dev.fe with wakes := t.dev.fe.wakes },
        fab := fabSent t.dev s.dev.fab, out := t.dev.out, traces := t.dev.traces, traceQ := t.dev.traceQ }
    ∧ SameMem s.dev t.dev ∧ SameMembers s.dev t.dev
    ∧ ∀ j, j ≠ k → lineAt t.dev j = lineAt s.dev j ∧ dirAt t.dev j = dirAt s.dev j ∧ tget t.dev.shore.txn j = tget s.dev.shore.txn j
        ∧ tget t.dev.shore.wants j = tget s.dev.shore.wants j ∧ tget t.dev.shore.queue j = tget s.dev.shore.queue j

/-! ### Faults and starts -/

/-- A device-fatal fault of a cause (R496): it shows, all work is over, island rails are off, the ports are down, viral and MOD_FAULT# are asserted; where no
trace has a header to write, memory keeps its bytes. -/
def Fatal (s t : State) (cause : Nat) : Prop :=
  fget t.dev RF.BRG_ERR_STATUS_FATAL = 1 ∧ fget t.dev RF.BRG_ERR_STATUS_FATAL_CAUSE = cause ∧ t.pending = s.pending
    ∧ (cause = 7 → fget t.dev RF.PWR_STATUS_HALTED = 1)
    ∧ t.dev.cores = [] ∧ t.dev.disp = [] ∧ t.dev.net = [] ∧ t.dev.fe = FrontEnd.reset ∧ t.dev.shore.lines = [] ∧ t.dev.shore.dir = []
    ∧ (∀ i, i < 44 → 2 ≤ fget t.dev (RF.PWR_ISLAND_STATE i)) ∧ fget t.dev RF.FAB_STATUS_PORTS_UP = 0
    ∧ (∀ p, p < 16 → fget t.dev (RF.FAB_PORT_STATUS_STATE p) = 0)
    ∧ Out.viral ∈ t.dev.out ∧ t.dev.out.getLast? = some (.faultPin true) ∧ (s.dev.traces = [] → SameBytes s.dev t.dev)

/-- A start begins for a reason at a stage (R503, R505, R506): nothing of what ran is left, flash and the tiers hold what they held, and no fault, hold or stop
shows. -/
def StartBegins (s t : State) (reason : Nat) (warm : Bool) (stage : Nat) : Prop :=
  fget t.dev RF.BRG_START_STATUS_STAGE = stage ∧ fget t.dev RF.BRG_START_STATUS_REASON = reason ∧ fget t.dev RF.BRG_START_STATUS_KIND = b2n warm
    ∧ (∀ f ∈ [RF.BRG_ERR_STATUS_FATAL, RF.BRG_START_STATUS_HELD, RF.BRG_START_STATUS_STOPPED, RF.BRG_START_STATUS_RECOVERY], fget t.dev f = 0)
    ∧ t.pending = s.pending ∧ t.dev.cores = [] ∧ t.dev.disp = [] ∧ t.dev.fe = FrontEnd.reset ∧ t.dev.ins = Insts.reset ∧ t.dev.fab = Fabric.reset
    ∧ t.dev.mesh = Mesh.reset ∧ t.dev.start.primary = true ∧ t.dev.start.secondary = true ∧ t.dev.log.started = false
    ∧ t.dev.flash.sites = s.dev.flash.sites ∧ t.dev.flash.slots = s.dev.flash.slots ∧ t.dev.flash.perms = s.dev.flash.perms
    ∧ (s.dev.traces = [] → SameBytes s.dev t.dev)

/-! ### Mailboxes -/

/-- The module answers `r` on a connection, which stands as `y` then; beside that and `f`, with the registers named, nothing changes. -/
def Replied (l : List Nat) (s t : State) (n : Nat) (r : Reply) (y : SpdmConn) (f : Dev) : Prop :=
  OnlyIn l s t { f with trust := { f.trust with conns := t.dev.trust.conns }, out := f.out ++ [.mailbox n r] }
    ∧ SameMem s.dev t.dev ∧ connAt t.dev n = y ∧ ∀ j, j ≠ n → tget t.dev.trust.conns j = tget s.dev.trust.conns j

/-! ### The mesh -/

/-- Every bundle-direction but one is as before. -/
def SameBdsBut (k b d : Nat) (s t : Dev) : Prop := ∀ j, j ≠ bdKey k b d → tget t.mesh.bds j = tget s.mesh.bds j

/-- The registers that a change of MODE on a strait shows in (R42, R53, R54). -/
def straitRegs (k : Nat) : List Nat :=
  [Reg.STR_STRAIT_STATUS k, Reg.STR_MESH_STATUS, Reg.STR_MESH_BW, Reg.STR_EDGE_BW] ++ (List.range 16).map (fun j => Reg.STR_BD_STATUS k (j / 2) (j % 2))

/-- The lane registers of a bundle-direction (R37). -/
def laneRegList (k b d : Nat) : List Nat := [Reg.STR_BD_LANE_MAP k b d, Reg.STR_BD_LANE_FAIL_LO k b d, Reg.STR_BD_LANE_FAIL_HI k b d]

end Sys2Proof.Machine
end

