-- ==== Sys2Proof/WellFormed.lean ====
section
/-!
DEFINITION. Which commands are well formed: every operand names a thing that the module has, or lies within the field that carries it. The machine itself is
total: a command that names nothing the module has leaves it unchanged.
-/
namespace Sys2Proof

/-- A logical core: four to an island (R57). -/
def isCore (n : Nat) : Bool := decide (n < 176)
/-- A word of the storage that a matrix row reads: within the largest local store (R61), or of one of the eight units (R131). -/
def isMxSram : MxSram → Bool
  | .ok | .corrected => true
  | .operand off => decide (off < 786432)
  | .acc unit word => decide (unit < 8) && decide (word < 8192)
/-- A logical island (R22). -/
def isIsland (n : Nat) : Bool := decide (n < 44)
/-- A site of a compute die or base die (R18). -/
def isSite (n : Nat) : Bool := decide (n < 48)
/-- A strait of the 110 (R32). -/
def isStrait (n : Nat) : Bool := decide (n < 110)
/-- A bundle of a strait (R32). -/
def isBundle (n : Nat) : Bool := decide (n < 8)
/-- One of two: a direction, a slot, a pair. -/
def isDir (n : Nat) : Bool := decide (n < 2)
/-- A lane of a bundle-direction, its spares among them (R32). -/
def isBdLane (n : Nat) : Bool := decide (n < 68)
/-- A fabric port (R333). -/
def isPort (n : Nat) : Bool := decide (n < 16)
/-- Lanes with which a port trained (R333). -/
def isLanes (n : Nat) : Bool := n == 0 || n == 4 || n == 8
/-- A function, and the instance that stands behind it (R392). -/
def isFn (n : Nat) : Bool := decide (n ≤ 32)
/-- A virtual function. -/
def isVf (n : Nat) : Bool := decide (1 ≤ n) && decide (n ≤ 32)
/-- An SPDM connection: of a function, of a management bus, of a fabric port, or of a migration peer. -/
def isConn (n : Nat) : Bool := decide (n < 2 ^ 16)
/-- A matrix token (R126). -/
def isToken (n : Nat) : Bool := decide (n < 16)
/-- A ferry handle (R117). -/
def isHandle (n : Nat) : Bool := decide (n < 16)
/-- A ring of an instance (R284). -/
def isRing (n : Nat) : Bool := decide (n < 4096)
/-- A stack of tier A (R234). -/
def isStack (n : Nat) : Bool := decide (n < 8)
/-- A package of tier B (R234). -/
def isPkg (n : Nat) : Bool := decide (n < 32)
/-- A unit of the memory system: a stack or a package (R256, R257). -/
def isUnit (n : Nat) : Bool := decide (n < 40)
/-- A channel group or a package (R249). -/
def isGroup (n : Nat) : Bool := decide (n < 96)
/-- A channel of tier A (R234). -/
def isChannel (n : Nat) : Bool := decide (n < 1024)
/-- A die with a test port: the edge dies and the sites (R513). -/
def isDie (n : Nat) : Bool := decide (n < 52)
/-- An edge die or a compute die. -/
def isEdgeOrCompute (n : Nat) : Bool := decide (n < 52)
/-- An edge die (R21). -/
def isEdge (n : Nat) : Bool := decide (n < 4)
/-- One of the two dies that carry control cores (R491). -/
def isEngineDie (n : Nat) : Bool := decide (n < 2)
/-- A management bus (R524). -/
def isBus (n : Nat) : Bool := decide (n < 2)
/-- A deadline class (R308). -/
def isClass (n : Nat) : Bool := decide (n < 8)
/-- A device number (R335). -/
def isDevice (n : Nat) : Bool := decide (n < 2 ^ 15)
/-- An engine whose access is walked (R267): the load-store unit, the matrix engine, the ferry engine. -/
def isEngine (n : Nat) : Bool := decide (1 ≤ n) && decide (n ≤ 3)
/-- The slot strap, MOD_SLOT[4:0] (R521). -/
def isModuleSlot (n : Nat) : Bool := decide (n < 32)
/-- Failed bursts before the one that is taken (R235). -/
def isRetries (n : Nat) : Bool := decide (n < 4)
/-- A number of 32 bits. -/
def isWord32 (n : Nat) : Bool := decide (n < 2 ^ 32)
/-- A number of 64 bits. -/
def isWord64 (n : Nat) : Bool := decide (n < 2 ^ 64)

/-- An issue of a group of a core; its fetch ended well, or in poison or an uncorrectable error (R121 steps 6 and 7). -/
def Issue.wf (i : Issue) : Bool := isCore i.core && (i.fetch == 0 || i.fetch == 0x0501 || i.fetch == 0x0502)

/-- A command comes from one of the four origins (R290), on a bus, of a ring that an instance can have. -/
def Cmd.wf (c : Cmd) : Bool := decide (1 ≤ c.origin) && decide (c.origin ≤ 4) && isFn c.inst && isRing c.ring && isBus c.bus

/-- A fabric message whose header fields fit their widths (R335). -/
def FabMsg.wf (m : FabMsg) : Bool :=
  isDevice m.dst && isDevice m.src && decide (m.hops < 8) && decide (m.epoch < 2 ^ 16) && decide (m.tag < 2 ^ 16)

/-- A fabric flit whose fields fit their widths (R334). -/
def FabFlit.wf (f : FabFlit) : Bool := isWord32 f.seq && isWord32 f.ackSeq && isDir f.keyPhase && f.slots.all FabMsg.wf

/-- A register access of at most 64 bits, of a function or of a bus (R14). -/
def RegWr.wf (w : RegWr) : Bool := decide (1 ≤ w.size) && decide (w.size ≤ 8) && decide (w.value < 2 ^ (8 * w.size)) && isFn w.fn && isBus w.bus

/-- What a training ended in (R370 to R373). -/
def LinkUp.wf (t : LinkUp) : Bool := decide (t.link < 4) && t.bars.all (fun b => isFn b.1)

/-- The well-formed commands. -/
def Instr.wf : Instr → Bool
  | .add i => Issue.wf i
  | .sub i => Issue.wf i
  | .mul i => Issue.wf i
  | .mulh i => Issue.wf i
  | .madd i => Issue.wf i
  | .div i => Issue.wf i
  | .rem i => Issue.wf i
  | .min i => Issue.wf i
  | .max i => Issue.wf i
  | .andOp i => Issue.wf i
  | .orOp i => Issue.wf i
  | .xorOp i => Issue.wf i
  | .shl i => Issue.wf i
  | .shr i => Issue.wf i
  | .cmp i => Issue.wf i
  | .pick i => Issue.wf i
  | .mov i => Issue.wf i
  | .notOp i => Issue.wf i
  | .cnt1 i => Issue.wf i
  | .lzc i => Issue.wf i
  | .addf i => Issue.wf i
  | .mulf i => Issue.wf i
  | .macf i => Issue.wf i
  | .minf i => Issue.wf i
  | .maxf i => Issue.wf i
  | .cmpf i => Issue.wf i
  | .rcpf i => Issue.wf i
  | .sqrtf i => Issue.wf i
  | .rsqf i => Issue.wf i
  | .exp2f i => Issue.wf i
  | .log2f i => Issue.wf i
  | .sinf i => Issue.wf i
  | .cosf i => Issue.wf i
  | .tanhf i => Issue.wf i
  | .xfmt i => Issue.wf i
  | .rdg i => Issue.wf i
  | .wrg i => Issue.wf i
  | .rdl i => Issue.wf i
  | .wrl i => Issue.wf i
  | .amog i => Issue.wf i
  | .amol i => Issue.wf i
  | .cflush i => Issue.wf i
  | .cinv i => Issue.wf i
  | .bar i => Issue.wf i
  | .fence i => Issue.wf i
  | .lxch i => Issue.wf i
  | .tally i => Issue.wf i
  | .jmp i => Issue.wf i
  | .jmpr i => Issue.wf i
  | .call i => Issue.wf i
  | .conv i => Issue.wf i
  | .join i => Issue.wf i
  | .endOp i => Issue.wf i
  | .nop i => Issue.wf i
  | .sread i => Issue.wf i
  | .rnd i => Issue.wf i
  | .mxi i => Issue.wf i
  | .mxw i => Issue.wf i
  | .mxt i => Issue.wf i
  | .mxz i => Issue.wf i
  | .mxst i => Issue.wf i
  | .mxRow core sram => isCore core && isMxSram sram
  | .mxTokenComplete core token => isCore core && isToken token
  | .fyi i => Issue.wf i
  | .fyw i => Issue.wf i
  | .fyt i => Issue.wf i
  | .ferrySegment core handle => isCore core && isHandle handle
  | .ferryComplete core handle => isCore core && isHandle handle
  | .sslot i => Issue.wf i
  | .sin i => Issue.wf i
  | .sout i => Issue.wf i
  | .spgl i => Issue.wf i
  | .spgn i => Issue.wf i
  | .scoreboardEntryFree core _ => isCore core
  | .writebackAccept core => isCore core
  | .setAdmit core => isCore core
  | .dispatchStart _ => true
  | .launchComplete _ => true
  | .stepComplete _ => true
  | .translationWalk core engine _ _ => isCore core && isEngine engine
  | .faultBatchClose inst => isFn inst
  | .faultBatchWrite inst _ => isFn inst
  | .invalidateDrainComplete inst => isFn inst
  | .watchLineWake inst ring => isFn inst && isRing ring
  | .ringService inst ring _ _ => isFn inst && isRing ring
  | .completionWrite inst ring _ => isFn inst && isRing ring
  | .irqModerationExpiry inst ring => isFn inst && isRing ring
  | .sessionInput inst ring _ => isFn inst && isRing ring
  | .launch c => Cmd.wf c
  | .sessionOpen c => Cmd.wf c
  | .sessionBind c => Cmd.wf c
  | .sessionStep c => Cmd.wf c
  | .sessionPark c => Cmd.wf c
  | .sessionResume c => Cmd.wf c
  | .sessionSuspend c => Cmd.wf c
  | .sessionClose c => Cmd.wf c
  | .bindCreate c => Cmd.wf c
  | .bindDestroy c => Cmd.wf c
  | .ringCreate c => Cmd.wf c
  | .ringDestroy c => Cmd.wf c
  | .setClass c => Cmd.wf c
  | .setXlateRoot c => Cmd.wf c
  | .xlateInvalidate c => Cmd.wf c
  | .setFaultRing c => Cmd.wf c
  | .resumeBatch c => Cmd.wf c
  | .setHomeSet c => Cmd.wf c
  | .setHomeMap c => Cmd.wf c
  | .setMemRegulator c => Cmd.wf c
  | .setMigPoolAdd c => Cmd.wf c
  | .setMigPoolRemove c => Cmd.wf c
  | .pkgManifest c => Cmd.wf c
  | .journalStart c => Cmd.wf c
  | .journalStop c => Cmd.wf c
  | .replayStart c => Cmd.wf c
  | .replayFeedRecord inst _ _ => isFn inst
  | .sessionSeek c => Cmd.wf c
  | .classTick cls => isClass cls
  | .batchDispatch _ => true
  | .cadenceAdjust => true
  | .fabSetDevice c => Cmd.wf c
  | .fabRouteSet c => Cmd.wf c
  | .fabArchAdmit c => Cmd.wf c
  | .fabArchDepart c => Cmd.wf c
  | .fabExport c => Cmd.wf c
  | .fabUnexport c => Cmd.wf c
  | .mcastGroupSet c => Cmd.wf c
  | .mcastSend c => Cmd.wf c
  | .commCreate c => Cmd.wf c
  | .collRun c => Cmd.wf c
  | .commDestroy c => Cmd.wf c
  | .hostBind c _ => Cmd.wf c
  | .hostUnbind c => Cmd.wf c
  | .insCreate c => Cmd.wf c
  | .insMemAssign c => Cmd.wf c
  | .insMemRelease c => Cmd.wf c
  | .insIslandsAdd c => Cmd.wf c
  | .insIslandsRemove c => Cmd.wf c
  | .insDestroy c => Cmd.wf c
  | .insReset c => Cmd.wf c
  | .insFreeze c => Cmd.wf c
  | .freezeComplete inst => isFn inst
  | .insResume c => Cmd.wf c
  | .insSave c => Cmd.wf c
  | .insRestore c => Cmd.wf c
  | .insMigKey c _ _ _ => Cmd.wf c
  | .vfFlr fn _ => isVf fn
  | .setEpoch c => Cmd.wf c
  | .logRead c => Cmd.wf c
  | .logCheckpointRead c => Cmd.wf c
  | .logCheckpointNow c => Cmd.wf c
  | .permSet c => Cmd.wf c
  | .admitPolicySet c => Cmd.wf c
  | .fwStage c => Cmd.wf c
  | .fwCommitSvn c => Cmd.wf c
  | .sbRootSet c => Cmd.wf c
  | .pwrHostLimit c => Cmd.wf c
  | .replicaSet c => Cmd.wf c
  | .replicaClear c => Cmd.wf c
  | .traceStart c => Cmd.wf c
  | .traceStop c => Cmd.wf c
  | .moduleStart bus hold _ => isBus bus && isDir hold
  | .registerWrite w => RegWr.wf w
  | .registerAccessMisaligned w _ => RegWr.wf w
  | .shcDirProbeAddr value => isWord64 value
  | .wchBootCtlEnable fn value _ => isFn fn && isWord64 value
  | .brgMarginCtlGo w => RegWr.wf w
  | .marginRunDone _ _ _ => true
  | .msixVectorUnmask fn vec _ => isFn fn && decide (vec < if fn = 0 then 64 else 62)
  | .flitReceive strait bundle dir _ => isStrait strait && isBundle bundle && isDir dir
  | .meshNak strait bundle dir seq => isStrait strait && isBundle bundle && isDir dir && isWord32 seq
  | .rotateReq strait bundle dir lane => isStrait strait && isBundle bundle && isDir dir && isBdLane lane
  | .narrowReq strait bundle dir lane => isStrait strait && isBundle bundle && isDir dir && isBdLane lane
  | .replayBufferDrained strait bundle dir => isStrait strait && isBundle bundle && isDir dir
  | .laneTrainComplete strait bundle dir _ => isStrait strait && isBundle bundle && isDir dir
  | .rotateAck strait bundle dir _ => isStrait strait && isBundle bundle && isDir dir
  | .bundleDirectionLoss strait bundle dir => isStrait strait && isBundle bundle && isDir dir
  | .routerFail site => isSite site
  | .routeSwitch => true
  | .resyncQuery strait bundle dir => isStrait strait && isBundle bundle && isDir dir
  | .resyncReply strait bundle dir last => isStrait strait && isBundle bundle && isDir dir && isWord32 last
  | .slowRerouteComplete => true
  | .standbyRecomputeDone => true
  | .bundleRetrainComplete strait bundle dir _ => isStrait strait && isBundle bundle && isDir dir
  | .straitPark strait bundle dir => isStrait strait && isBundle bundle && isDir dir
  | .straitUnpark strait bundle dir => isStrait strait && isBundle bundle && isDir dir
  | .sliceAccess _ _ _ => true
  | .cohRead m _ => FabMsg.wf m
  | .cohRx m _ => FabMsg.wf m
  | .cohOwn m _ => FabMsg.wf m
  | .cohWb m => FabMsg.wf m
  | .cohDropNotice m => FabMsg.wf m
  | .cohForward m => FabMsg.wf m
  | .cohRecall m => FabMsg.wf m
  | .cohGrant m => FabMsg.wf m
  | .cohResponse m => FabMsg.wf m
  | .sliceBypassEnter island => isIsland island
  | .memRead _ _ retries _ _ => isRetries retries
  | .memWrite _ retries _ => isRetries retries
  | .wcbTimeout _ _ => true
  | .patrolScrubRead _ retries => isRetries retries
  | .migrationPeriod => true
  | .pageMoveComplete inst _ => isFn inst
  | .stackThermalReport stack _ => isStack stack
  | .dutyLevelStep unit => isUnit unit
  | .dutyPausePeriod unit => isUnit unit
  | .mr4Report pkg _ _ => isPkg pkg
  | .unitThermalShutdown unit => isUnit unit
  | .selfRefreshEntry group => isGroup group
  | .fabricFlitReceive port f => isPort port && FabFlit.wf f
  | .fabricNak port seq => isPort port && isWord32 seq
  | .fabReadRequest m => FabMsg.wf m
  | .fabReadResponse m => FabMsg.wf m
  | .fabWrite m => FabMsg.wf m
  | .fabWriteAck m => FabMsg.wf m
  | .fabAtomic m => FabMsg.wf m
  | .fabAtomicResponse m => FabMsg.wf m
  | .multicastSegment m die => FabMsg.wf m && isEdge die
  | .multicastResponse m => FabMsg.wf m
  | .mcastRetry _ _ _ => true
  | .mcastTargetGiveUp _ _ => true
  | .collectiveData m => FabMsg.wf m
  | .collectiveSignal m => FabMsg.wf m
  | .progressWord m => FabMsg.wf m
  | .progressPush => true
  | .progressUpdate => true
  | .collectiveProgressPoll _ => true
  | .paceTimeout _ => true
  | .unreachable m => FabMsg.wf m
  | .fabricDepart m => FabMsg.wf m
  | .memberSilenceTimeout device => isDevice device
  | .fabricResyncQuery m => FabMsg.wf m
  | .fabricResyncReply m => FabMsg.wf m
  | .portLoss port _ => isPort port
  | .portDetect port => isPort port
  | .portTrained port lanes => isPort port && isLanes lanes
  | .fabIdentity port m => isPort port && FabMsg.wf m
  | .fabricSpdmMessage port m => isPort port && FabMsg.wf m
  | .admissionTimeout device => isDevice device
  | .keyUpdate port _ => isPort port
  | .fabricLanePark port => isPort port
  | .fabricLaneUnpark port => isPort port
  | .cxlMemRead _ _ => true
  | .cxlMemWrite _ _ _ _ => true
  | .bar2Access fn _ _ _ _ _ _ => isFn fn
  | .snpData _ => true
  | .snpInv _ => true
  | .snpCur _ => true
  | .hostGo _ _ _ => true
  | .birsp _ _ => true
  | .biTimeout _ => true
  | .linkDownTimeout => true
  | .hotReset => true
  | .cxlioCompletionTimeout fn => isVf fn
  | .linkTraining t => LinkUp.wf t
  | .linkRetry _ => true
  | .doeObject fn _ _ => isFn fn
  | .getCertificate conn slot _ _ => isConn conn && isDir slot
  | .spdmChallenge conn slot _ => isConn conn && isDir slot
  | .getMeasurements conn _ _ _ => isConn conn
  | .keyExchange conn _ => isConn conn
  | .spdmFinish conn _ => isConn conn
  | .pqCosign conn => isConn conn
  | .lockInterfaceRequest fn _ => isVf fn
  | .startInterfaceRequest fn => isVf fn
  | .stopInterfaceRequest fn => isVf fn
  | .getDeviceInterfaceReport fn => isVf fn
  | .getDeviceInterfaceState fn => isVf fn
  | .getTdispVersion fn => isVf fn
  | .getTdispCapabilities fn => isVf fn
  | .ideIntegrityFailure _ _ => true
  | .islandGate island => isIsland island
  | .islandOff island => isIsland island
  | .islandWakeComplete island => isIsland island
  | .dvfsChangeComplete island => isIsland island
  | .droopTrip island => isIsland island
  | .droopRecover island _ => isIsland island
  | .dvfsDeferTimeout island => isIsland island
  | .powerSample _ _ => true
  | .powerLoop => true
  | .islandThermalReport island _ => isIsland island
  | .islandThermalStep island => isIsland island
  | .islandOverheat island => isIsland island
  | .coolantSignalChange _ _ => true
  | .pllUnlock die => isEdgeOrCompute die
  | .pllRelock die => isEdge die
  | .refClockLoss => true
  | .inputVoltageExcursion => true
  | .inputOvervoltage _ => true
  | .inputUndervoltage => true
  | .psenseBreak => true
  | .islandLoss island _ => isIsland island
  | .ctlPairMismatch die pair => isEngineDie die && isDir pair
  | .drbgHealthFail => true
  | .checkpointSigned _ => true
  | .checkpointFlashCopy _ _ => true
  | .powerApplied slot => isModuleSlot slot
  | .hostResetWhileFatal => true
  | .waitInput _ => true
  | .bootRomVerify _ => true
  | .edgeSelfTest _ _ _ => true
  | .siteCheck _ => true
  | .laneTest _ => true
  | .channelTest _ _ => true
  | .zeroStage => true
  | .tapInstruction die _ => isDie die
  | .alertRead bus => isBus bus
  | .primaryDomainStop => true
  | .layerLoss channel => isChannel channel
  | .journalRoomReturn inst => isFn inst
  | .regulatorWindow group => isGroup group
  | .thermalPauseEnd unit => isUnit unit

end Sys2Proof
end

