-- ==== Sys2Proof/Certificates/Slice0/Obligations.lean ====
section
/-!
DEFINITION. The statements for the provers.
-/
open Sys2Proof Sys2Proof.Machine

/-- A step with a command waiting is that command's effect on the rest, and a step with none is a tick (entry 1 of the log). -/
def Obligations.StepRunsFront : Prop :=
  ∀ (s : State) (c : Instr), step { s with pending := c :: s.pending } = exec c s

/-- Every command completes, and leaves the queue of waiting commands as it found it.
The model's choices that it rests on: log entries 2, 5. -/
def Obligations.ExecCompletes : Prop := ∀ (c : Instr) (s : State), ∃ d, exec c s = .next { s with dev := d }

/-- Every step leaves the module settled: memory in canonical form, the directory counts of SHC_STATUS right, no line left marked.
The model's choices that it rests on: log entries 2, 56. -/
def Obligations.StepSettles : Prop := ∀ s t : State, step s = .next t → Settled t.dev

/-- The integer instructions with a result of the width of TYPE write the value of R96 in each participating lane, and change nothing else. -/
def Obligations.IntegerResults : Prop :=
  ∀ (s : State) (i : Issue) (e : Env) (mk : Issue → Instr) (op : Nat),
    (mk, op) ∈ intRows → Ready s.dev i op e → e.part ≠ 0 → ckCode (intCk op e.w e.second e.d.shape.regs) = 0 →
    ∃ t, exec (mk i) s = .next t ∧ (groupIn t.dev e).flags = e.g.flags
      ∧ DstGets s t e (iDsel e.w) (iRegs e.w) (fun l =>
          (intRule (w := 32 * iRegs e.w) op (iSigned e.w) (BitVec.ofNat _ (if 0x10 ≤ op then 0 else srcA e.g e.w l (iRegs e.w)))
            (BitVec.ofNat _ (srcB e.g e.w e.second l (iRegs e.w))) (BitVec.ofNat _ (oldDst e.g e.w (iDsel e.w) l (iRegs e.w)))).toNat)

/-- CNT1 counts the ones of B and LZC its leading zeros, as 32 bits (R96, R97). CMP writes a comparison of R95 to a predicate, in the participating
lanes, and PICK chooses between its sources by one. -/
def Obligations.CountsAndChoices : Prop :=
  ∀ (s : State) (i : Issue) (e : Env),
    (Ready s.dev i 0x12 e → e.part ≠ 0 → ckCode (intCk 0x12 e.w e.second e.d.shape.regs) = 0 →
      ∃ t, exec (.cnt1 i) s = .next t ∧ (groupIn t.dev e).flags = e.g.flags
        ∧ DstGets s t e (iDsel e.w) 1 (fun l =>
            ((List.range (32 * iRegs e.w)).filter (fun j => (srcB e.g e.w e.second l (iRegs e.w)).testBit j)).length)) ∧
    (Ready s.dev i 0x13 e → e.part ≠ 0 → ckCode (intCk 0x13 e.w e.second e.d.shape.regs) = 0 →
      ∃ t, exec (.lzc i) s = .next t ∧ (groupIn t.dev e).flags = e.g.flags
        ∧ DstGets s t e (iDsel e.w) 1 (fun l => (BitVec.clz (BitVec.ofNat (32 * iRegs e.w) (srcB e.g e.w e.second l (iRegs e.w)))).toNat)) ∧
    (Ready s.dev i 0x0E e → e.part ≠ 0 → ckCode (intCk 0x0E e.w e.second e.d.shape.regs) = 0 →
      ∃ t, exec (.cmp i) s = .next t
        ∧ PredGets s t e (fun l => cmpRule (w := 32 * iRegs e.w) (iCond e.w) (iSigned e.w) (BitVec.ofNat _ (srcA e.g e.w l (iRegs e.w)))
            (BitVec.ofNat _ (srcB e.g e.w e.second l (iRegs e.w))))) ∧
    (Ready s.dev i 0x0F e → e.part ≠ 0 → ckCode (intCk 0x0F e.w e.second e.d.shape.regs) = 0 →
      ∃ t, exec (.pick i) s = .next t ∧ (groupIn t.dev e).flags = e.g.flags
        ∧ DstGets s t e (iDsel e.w) (iRegs e.w) (fun l =>
            if (predMask e.g (iCond e.w)).toNat.testBit l != iSeln e.w then srcA e.g e.w l (iRegs e.w)
            else srcB e.g e.w e.second l (iRegs e.w)))

/-- The floating instructions write the rounded value of each participating lane and merge its flags into the group's sticky word (R99, R100, R178);
CMPF writes a quiet comparison to a predicate and raises no flag. The rounding itself is that of the model's number formats.
The model's choices that it rests on: log entry 6. -/
def Obligations.FloatResults : Prop :=
  ∀ (s : State) (i : Issue) (e : Env),
    (∀ (mk : Issue → Instr) (op : Nat), (mk, op) ∈ floatRows → Ready s.dev i op e → e.part ≠ 0 →
      ckCode (floatCk op e.w e.second e.d.shape.regs) = 0 →
      ∃ t, exec (mk i) s = .next t
        ∧ (∀ j, (groupIn t.dev e).flags.getLsbD j = (e.g.flags.getLsbD j || (lanesOf e.part).any (fun l =>
            (floatLane op e.w (srcA e.g e.w l (fRegs e.w)) (if floatNoB op then 0 else srcB e.g e.w e.second l (fRegs e.w))
              (oldDst e.g e.w (iDsel e.w) l (fRegs e.w))).2.getLsbD j)))
        ∧ DstGets s t e (iDsel e.w) (fRegs e.w) (fun l =>
            (floatLane op e.w (srcA e.g e.w l (fRegs e.w)) (if floatNoB op then 0 else srcB e.g e.w e.second l (fRegs e.w))
              (oldDst e.g e.w (iDsel e.w) l (fRegs e.w))).1)) ∧
    (Ready s.dev i 0x1D e → e.part ≠ 0 → ckCode (floatCk 0x1D e.w e.second e.d.shape.regs) = 0 →
      ∃ t, exec (.cmpf i) s = .next t
        ∧ PredGets s t e (fun l => cmpF (wMod e.w 18 3)
            (decodeF (fFmt (fType e.w)) (fA e.w (fFmt (fType e.w)) (srcA e.g e.w l (fRegs e.w)) 0))
            (decodeF (fFmt (fType e.w)) (fB e.w (fFmt (fType e.w)) (srcB e.g e.w e.second l (fRegs e.w)) 0))))

/-- XFMT replaces the element DEL of the destination by the converted element SEL of source A, and merges its flags (R102, R103); RND writes the drawn bits
of thread 32 × GROUP + LANE, in the shape that MOD[24:22] selects (R113). -/
def Obligations.ConversionAndDraws : Prop :=
  ∀ (s : State) (i : Issue) (e : Env),
    (Ready s.dev i 0x28 e → e.part ≠ 0 → ckCode (xfmtCk e.w e.second e.d.shape.regs) = 0 →
      ∃ t, exec (.xfmt i) s = .next t
        ∧ (∀ j, (groupIn t.dev e).flags.getLsbD j = (e.g.flags.getLsbD j
            || (lanesOf e.part).any (fun l => (xfmtLane (tells s.dev e) e.w e.second e.g l).2.getLsbD j)))
        ∧ DstGets s t e false (if xD e.w = 0 then 2 else 1) (fun l => (xfmtLane (tells s.dev e) e.w e.second e.g l).1)) ∧
    (Ready s.dev i 0x50 e → e.part ≠ 0 → ckCode (rndCk e.w e.d.shape.regs) = 0 →
      ∃ t, exec (.rnd i) s = .next t ∧ (groupIn t.dev e).flags = e.g.flags
        ∧ DstGets s t e false 1 (fun l => rndShape (wMod e.w 22 3)
            (draw32 (tells s.dev e).seed (tells s.dev e).step (32 * e.gno + l) (srcA e.g e.w l 1) 0)))

/-- LXCH gives each participating lane the value of the lane that its mode names, 0 where that lane lies outside 0 to 31 or does not participate (R73, R110);
TALLY votes over the participating lanes (R73, R111). -/
def Obligations.LaneExchangeAndVotes : Prop :=
  ∀ (s : State) (i : Issue) (e : Env),
    (Ready s.dev i 0x40 e → e.part ≠ 0 → ckCode (lxchCk e.w e.second e.d.shape.regs) = 0 →
      ∃ t, exec (.lxch i) s = .next t ∧ (groupIn t.dev e).flags = e.g.flags
        ∧ let k := if bitOf e.w.toNat 22 then 2 else 1
          DstGets s t e false k (fun l =>
            let b := srcB e.g e.w e.second l 1
            let j : Int := match wMod e.w 23 2 with
              | 0 => (b % 64 : Nat)
              | 1 => (l : Int) - (b % 64 : Nat)
              | 2 => (l : Int) + (b % 64 : Nat)
              | _ => (l ^^^ (b % 32) : Nat)
            if 0 ≤ j ∧ j ≤ 31 ∧ e.part.toNat.testBit j.toNat = true then srcA e.g e.w j.toNat k else 0)) ∧
    (Ready s.dev i 0x41 e → e.part ≠ 0 → ckCode (tallyCk e.w e.d.shape.regs) = 0 →
      let p := fun j => e.part.toNat.testBit j && ((predMask e.g (wMod e.w 20 3)).toNat.testBit j != bitOf e.w.toNat 19)
      ∃ t, exec (.tally i) s = .next t ∧ (groupIn t.dev e).flags = e.g.flags
        ∧ (wMod e.w 23 2 = 0 → PredGets s t e (fun _ => (List.range 32).any p))
        ∧ (wMod e.w 23 2 = 1 → PredGets s t e (fun _ => (List.range 32).all (fun j => !e.part.toNat.testBit j || p j)))
        ∧ (wMod e.w 23 2 = 2 → DstGets s t e (bitOf e.w.toNat 18) 1 (fun _ =>
            (List.range 32).foldl (fun m j => m + if p j then 2 ^ j else 0) 0)))

/-- SREAD copies the special register that its code names (R92), SPGN the page count and SPGL the address of a page-list entry (R120), SSLOT sets the group's
slot, and NOP does nothing (R112).
The model's choices that it rests on: log entry 106. -/
def Obligations.SpecialReads : Prop :=
  ∀ (s : State) (i : Issue) (e : Env),
    (Ready s.dev i 0x4F e → e.part ≠ 0 → ckCode (sreadCk e.w e.d.shape.regs) = 0 →
      ∃ t, exec (.sread i) s = .next t ∧ (groupIn t.dev e).flags = e.g.flags
        ∧ DstGets s t e (iDsel e.w) 1 (fun l => sregVal (tells s.dev e) e.g l (wMod e.w 0 5))) ∧
    (Ready s.dev i 0x4E e → e.part ≠ 0 → ckCode (ckAll [selCk e.w, modCk e.w 0, noA e.w, noB e.w, noD e.w]) = 0 →
      ∃ t, exec (.nop i) s = .next t ∧ OnlyGroup s t e ∧ movedOn e (groupIn t.dev e) ∧ SamePaths e.g (groupIn t.dev e)
        ∧ (groupIn t.dev e).gr = e.g.gr ∧ (groupIn t.dev e).ur = e.g.ur ∧ (groupIn t.dev e).pr = e.g.pr ∧ (groupIn t.dev e).flags = e.g.flags) ∧
    (Ready s.dev i 0x68 e → e.part ≠ 0 → ckCode (sslotCk e.w e.second) = 0 →
      srcB e.g e.w e.second 0 1 < (if e.d.plain then 1 else e.d.slots.length) →
      ∃ t, exec (.sslot i) s = .next t ∧ OnlyGroup s t e ∧ movedOn e (groupIn t.dev e) ∧ (groupIn t.dev e).slot = srcB e.g e.w e.second 0 1
        ∧ (groupIn t.dev e).gr = e.g.gr ∧ (groupIn t.dev e).ur = e.g.ur ∧ (groupIn t.dev e).pr = e.g.pr ∧ (groupIn t.dev e).flags = e.g.flags) ∧
    (Ready s.dev i 0x6C e → e.part ≠ 0 → ckCode (spgnCk e.w e.d.shape.regs) = 0 → e.d.plain = false →
      ∃ t, exec (.spgn i) s = .next t ∧ (groupIn t.dev e).flags = e.g.flags
        ∧ DstGets s t e false 1 (fun _ => (slotOf e.d e.g.slot).kvCount)) ∧
    (Ready s.dev i 0x6B e → e.part ≠ 0 →
      ckCode (ckAll [selCk e.w, modCk e.w 0, noA e.w, bCk e.w e.second 1 e.d.shape.regs, gCk (wDst e.w) 2 e.d.shape.regs]) = 0 →
      e.d.plain = false → (∀ l, e.part.toNat.testBit l = true → srcB e.g e.w e.second l 1 < (slotOf e.d e.g.slot).kvCount) →
      ∃ t, exec (.spgl i) s = .next t ∧ (groupIn t.dev e).flags = e.g.flags
        ∧ DstGets s t e false 2 (fun l => (slotOf e.d e.g.slot).kvVa + 8 + 8 * srcB e.g e.w e.second l 1))

/-- JMP and CALL branch in the participating lanes: where all of the path's lanes take the branch the path goes on at the target, yielding where that is not
beyond it, and else the lanes that do not take it run on and those that do join the back of the queue (R66, R67, R112). JMPR does the same with one path for each
distinct target. -/
def Obligations.Branches : Prop :=
  ∀ (s : State) (i : Issue) (e : Env),
    (Ready s.dev i 0x48 e → e.part ≠ 0 → ckCode (ckAll [branchCk e.w, noD e.w]) = 0 →
      ∃ t, exec (.jmp i) s = .next t ∧ OnlyGroup s t e
        ∧ let g := groupIn t.dev e
          let target := branchTarget e.w e.path.pc
          g.gr = e.g.gr ∧ g.ur = e.g.ur ∧ g.pr = e.g.pr ∧ g.flags = e.g.flags
          ∧ (e.part = e.path.mask → e.path.pc < target → g.run = some ⟨target, e.part⟩ ∧ g.queue = e.g.queue)
          ∧ (e.part = e.path.mask → target ≤ e.path.pc →
              g.run = some (e.g.queue.headD ⟨target, e.part⟩) ∧ g.queue = (e.g.queue ++ [Sys2Proof.Machine.Path.mk target e.part]).drop 1)
          ∧ (e.part ≠ e.path.mask → g.run = some ⟨e.path.pc + 8, e.path.mask &&& ~~~e.part⟩ ∧ g.queue = e.g.queue ++ [Sys2Proof.Machine.Path.mk target e.part])) ∧
    (Ready s.dev i 0x4A e → e.part ≠ 0 → ckCode (ckAll [branchCk e.w, gCk (wDst e.w) 2 e.d.shape.regs]) = 0 →
      ∃ t, exec (.call i) s = .next t ∧ OnlyGroup s t e
        ∧ let g := groupIn t.dev e
          let target := branchTarget e.w e.path.pc
          (∀ l, e.part.toNat.testBit l = true → readG g l (wDst e.w) 2 = (e.path.pc + 8) % 2 ^ 64) ∧ SameButG (wDst e.w) 2 e.part e.g g
          ∧ g.flags = e.g.flags
          ∧ (e.part = e.path.mask → e.path.pc < target → g.run = some ⟨target, e.part⟩ ∧ g.queue = e.g.queue)
          ∧ (e.part = e.path.mask → target ≤ e.path.pc →
              g.run = some (e.g.queue.headD ⟨target, e.part⟩) ∧ g.queue = (e.g.queue ++ [Sys2Proof.Machine.Path.mk target e.part]).drop 1)
          ∧ (e.part ≠ e.path.mask → g.run = some ⟨e.path.pc + 8, e.path.mask &&& ~~~e.part⟩ ∧ g.queue = e.g.queue ++ [Sys2Proof.Machine.Path.mk target e.part])) ∧
    (∀ target, Ready s.dev i 0x49 e → e.part ≠ 0 → ckCode (ckAll [selCk e.w, modCk e.w 0, aCk e.w 2 e.d.shape.regs, noB e.w, noD e.w]) = 0 →
      (∀ l, e.part.toNat.testBit l = true → srcA e.g e.w l 2 % 8 = 0) →
      (∀ l, e.part.toNat.testBit l = true → srcA e.g e.w l 2 = target) →
      ∃ t, exec (.jmpr i) s = .next t ∧ OnlyGroup s t e
        ∧ let g := groupIn t.dev e
          g.gr = e.g.gr ∧ g.ur = e.g.ur ∧ g.pr = e.g.pr ∧ g.flags = e.g.flags
          ∧ (e.part = e.path.mask →
              g.run = some (e.g.queue.headD ⟨target, e.part⟩) ∧ g.queue = (e.g.queue ++ [Sys2Proof.Machine.Path.mk target e.part]).drop 1)
          ∧ (e.part ≠ e.path.mask → g.run = some ⟨e.path.pc + 8, e.path.mask &&& ~~~e.part⟩ ∧ g.queue = e.g.queue ++ [Sys2Proof.Machine.Path.mk target e.part]))

/-- CONV pushes a record of the join address and the path's threads; JOIN makes the innermost record's threads wait there, merges them when the last one
arrives, and has no effect elsewhere (R69).
The model's choices that it rests on: log entry 19. -/
def Obligations.Convergence : Prop :=
  ∀ (s : State) (i : Issue) (e : Env),
    (Ready s.dev i 0x4B e → ckCode (ckAll [branchCk e.w, noD e.w, argIf (!alwaysGuard e.w)]) = 0 → e.g.recs.length < 32 →
      ∃ t, exec (.conv i) s = .next t ∧ OnlyGroup s t e ∧ movedOn e (groupIn t.dev e)
        ∧ let g := groupIn t.dev e
          g.recs = ⟨branchTarget e.w e.path.pc, e.path.mask, 0⟩ :: e.g.recs ∧ g.queue = e.g.queue
          ∧ g.gr = e.g.gr ∧ g.ur = e.g.ur ∧ g.pr = e.g.pr ∧ g.flags = e.g.flags) ∧
    (Ready s.dev i 0x4C e → ckCode (ckAll [selCk e.w, modCk e.w 0, noA e.w, noB e.w, noD e.w, argIf (!alwaysGuard e.w)]) = 0 →
      ∃ t, exec (.join i) s = .next t ∧ OnlyGroup s t e
        ∧ let g := groupIn t.dev e
          let after := (e.path.pc + 8) % 2 ^ 64
          g.gr = e.g.gr ∧ g.ur = e.g.ur ∧ g.pr = e.g.pr ∧ g.flags = e.g.flags
          ∧ ((∀ r, e.g.recs.head? = some r → r.addr ≠ e.path.pc ∨ e.path.mask &&& r.mask = 0) →
              g.run = some ⟨after, e.path.mask⟩ ∧ g.recs = e.g.recs ∧ g.queue = e.g.queue)
          ∧ ∀ r rs, e.g.recs = r :: rs → r.addr = e.path.pc → e.path.mask &&& r.mask = e.path.mask → e.path.mask ≠ 0 →
              (r.mask &&& ~~~(r.waiting ||| e.path.mask) = 0 →
                g.recs = rs ∧ g.run = some ⟨after, r.waiting ||| e.path.mask⟩ ∧ g.queue = e.g.queue)
              ∧ (r.mask &&& ~~~(r.waiting ||| e.path.mask) ≠ 0 →
                g.recs = { r with waiting := r.waiting ||| e.path.mask } :: rs ∧ g.run = e.g.queue.head? ∧ g.queue = e.g.queue.drop 1))

/-- A path that arrives at a barrier waits while a group of its set is still to come, and the last arrival lets the path run on (R70); END ends the
participating threads, and with the last of its threads the group (R71). -/
def Obligations.BarriersAndEnd : Prop :=
  ∀ (s : State) (i : Issue) (e : Env),
    (Ready s.dev i 0x3E e → ckCode (ckAll [selCk e.w, modCk e.w 0xF, noA e.w, noB e.w, noD e.w, argIf (!alwaysGuard e.w)]) = 0 →
      ownStoresPending e.c e.gno = false → e.g.bars = [] → e.g.queue = [] → e.g.recs = [] →
      ∃ t, exec (.bar i) s = .next t ∧ t.pending = s.pending ∧ SameBytes s.dev t.dev ∧ SameRegsBut [] s.dev t.dev ∧ SameUnits s.dev t.dev
        ∧ SameCoresBut e.core s.dev t.dev
        ∧ let g := groupIn t.dev e
          let b := wMod e.w 0 4
          let path : Sys2Proof.Machine.Path := ⟨(e.path.pc + 8) % 2 ^ 64, e.path.mask⟩
          g.gr = e.g.gr ∧ g.ur = e.g.ur ∧ g.pr = e.g.pr ∧ g.flags = e.g.flags ∧ g.queue = []
          ∧ ((∃ n o, tget (coreOf s.dev e.core).groups n = some o ∧ n ≠ e.gno ∧ o.set = e.g.set ∧ atBarrier o b = false) →
              g.run = none ∧ g.bars = [(b, path)])
          ∧ ((tset (coreOf s.dev e.core).groups e.gno { freshInstr e.g with run := none, bars := [(b, path)] }).all
                (fun p => p.2.set != e.g.set || atBarrier p.2 b) = true →
              g.run = some path ∧ g.bars = [])) ∧
    (Ready s.dev i 0x4D e → e.part ≠ 0 → ckCode (ckAll [selCk e.w, modCk e.w 0, noA e.w, noB e.w, noD e.w]) = 0 →
      ∃ t, exec (.endOp i) s = .next t ∧ t.pending = s.pending ∧ SameBytes s.dev t.dev ∧ SameRegsBut [] s.dev t.dev ∧ SameUnits s.dev t.dev
        ∧ SameCoresBut e.core s.dev t.dev
        ∧ (groupIn t.dev e).gr = e.g.gr ∧ (groupIn t.dev e).ended = e.g.ended ||| e.part
        ∧ ((groupIn t.dev e).done = true ↔ e.g.ended ||| e.part = 0xFFFFFFFF))

/-- RDL loads from the set's local-store slot (R63, R104, R105): each participating lane gets the bytes at its offset, lowest first, sign-extended with SX. -/
def Obligations.LocalLoads : Prop :=
  ∀ (s : State) (i : Issue) (e : Env),
    Ready s.dev i 0x32 e → e.part ≠ 0 → ckCode (memCk e.w e.second e.d.shape.regs true false) = 0 →
    localCk e (mWidth e.w) (localAddrs e) = 0 →
    (∀ p ∈ localAddrs e, sbBlocks (coreOf s.dev e.core) (some e.g.set) p.2 (mWidth e.w) false = false) →
    ∃ t, exec (.rdl i) s = .next t ∧ (groupIn t.dev e).flags = e.g.flags
      ∧ DstGets s t e false (regsOfWidth (mWidth e.w)) (fun l =>
          let off := wrap ((srcA e.g e.w l 1 : Int) + wOffset e.w) 32
          let v := ofLe ((List.range (mWidth e.w)).map (fun j => lsByte (coreOf s.dev e.core) (groupSlot e + off + j)))
          if mSx e.w && decide (mWidth e.w ≤ 2) then (BitVec.signExtend 32 (BitVec.ofNat (8 * mWidth e.w) v)).toNat else v)

/-- WRL stores to the set's local-store slot: the bytes of a lane that no later lane overlaps read as stored, and every byte outside the lanes' ranges is as
before (R63, R77, R105). AMOL leaves the result of its operation there and returns the old value (R106, R107). -/
def Obligations.LocalStoresAndAtomics : Prop :=
  ∀ (s : State) (i : Issue) (e : Env) (w : Nat) (at_ : Nat → Nat), at_ = (fun l => groupSlot e + wrap ((srcA e.g e.w l 1 : Int) + wOffset e.w) 32) →
    (Ready s.dev i 0x33 e → w = mWidth e.w → e.part ≠ 0 → ckCode (memCk e.w e.second e.d.shape.regs false false) = 0 →
      localCk e w (localAddrs e) = 0 → (∀ p ∈ localAddrs e, sbBlocks (coreOf s.dev e.core) (some e.g.set) p.2 w true = false) →
      (mOrd e.w = 2 → e.g.phase = 1 ∧ ownStoresPending (coreOf s.dev e.core) e.gno = false) →
      ∃ t, exec (.wrl i) s = .next t ∧ t.pending = s.pending ∧ SameBytes s.dev t.dev ∧ SameRegsBut [] s.dev t.dev ∧ SameUnits s.dev t.dev
        ∧ SameCoresBut e.core s.dev t.dev ∧ movedOn e (groupIn t.dev e) ∧ (groupIn t.dev e).gr = e.g.gr ∧ (groupIn t.dev e).pr = e.g.pr
        ∧ (groupIn t.dev e).ur = e.g.ur ∧ (coreOf t.dev e.core).l1 = (coreOf s.dev e.core).l1
        ∧ (∀ a, (∀ l, e.part.toNat.testBit l = true → a < at_ l ∨ at_ l + w ≤ a) →
            lsByte (coreOf t.dev e.core) a = lsByte (coreOf s.dev e.core) a)
        ∧ ∀ l j, e.part.toNat.testBit l = true → j < w →
            (∀ l', l < l' → e.part.toNat.testBit l' = true → at_ l + j < at_ l' ∨ at_ l' + w ≤ at_ l + j) →
            lsByte (coreOf t.dev e.core) (at_ l + j) = byteAt (srcB e.g e.w e.second l (regsOfWidth w)) j) ∧
    (Ready s.dev i 0x39 e → w = (if aW64 e.w then 8 else 4) → e.part ≠ 0 → ckCode (amoCk e.w e.second e.d.shape.regs false) = 0 →
      localCk e w (localAddrs e) = 0 → (∀ p ∈ localAddrs e, sbBlocks (coreOf s.dev e.core) (some e.g.set) p.2 w true = false) →
      (2 ≤ mOrd e.w → e.g.phase = 1 ∧ ownStoresPending (coreOf s.dev e.core) e.gno = false) →
      (∀ l l', e.part.toNat.testBit l = true → e.part.toNat.testBit l' = true → l ≠ l' → at_ l ≠ at_ l') →
      ∃ t, exec (.amol i) s = .next t ∧ t.pending = s.pending ∧ SameBytes s.dev t.dev ∧ SameRegsBut [] s.dev t.dev ∧ SameUnits s.dev t.dev
        ∧ SameCoresBut e.core s.dev t.dev ∧ movedOn e (groupIn t.dev e)
        ∧ (∀ a, (∀ l, e.part.toNat.testBit l = true → a < at_ l ∨ at_ l + w ≤ a) →
            lsByte (coreOf t.dev e.core) a = lsByte (coreOf s.dev e.core) a)
        ∧ ∀ l, e.part.toNat.testBit l = true →
            let old := lsRead (coreOf s.dev e.core) (at_ l) w
            lsRead (coreOf t.dev e.core) (at_ l) w
              = amoResult (aOp e.w) (aW64 e.w) old (laneAtom e l 0).a (laneAtom e l 0).b % 2 ^ (8 * w)
            ∧ if aNr e.w then (groupIn t.dev e).gr = e.g.gr
              else readG (groupIn t.dev e) l (wDst e.w) (if aW64 e.w then 2 else 1) = old)

/-- A plain global load is served by the L1 where it holds every lane's bytes (R105, R187), and SIN is such a load at the frame's address (R120). -/
def Obligations.GlobalLoads : Prop :=
  ∀ (s : State) (i : Issue) (e : Env),
    (Ready s.dev i 0x30 e → e.part ≠ 0 → ckCode (memCk e.w e.second e.d.shape.regs true true) = 0 → mOrd e.w = 1 → mScope e.w ≤ 1 →
      misaligned (globalAddrs e) (mWidth e.w) = false → Reachable s.dev e 0 (mWidth e.w) false (globalAddrs e) →
      HeldInL1 s.dev e 0 (mWidth e.w) (globalAddrs e) →
      ∃ t, exec (.rdg i) s = .next t ∧ (groupIn t.dev e).flags = e.g.flags
        ∧ DstGets s t e false (regsOfWidth (mWidth e.w)) (fun l =>
            let loc := (heldLoc s.dev e 0 (wrap ((srcA e.g e.w l 2 : Int) + wOffset e.w) 64)).getD 0
            let v := l1Value (coreOf s.dev e.core) loc (mWidth e.w)
            if mSx e.w && decide (mWidth e.w ≤ 2) then (BitVec.signExtend 32 (BitVec.ofNat (8 * mWidth e.w) v)).toNat else v)) ∧
    (Ready s.dev i 0x30 e → e.part ≠ 0 → ckCode (memCk e.w e.second e.d.shape.regs true true) = 0 → mOrd e.w = 0 →
      misaligned (globalAddrs e) (mWidth e.w) = false → Reachable s.dev e 0 (mWidth e.w) false (globalAddrs e) →
      HeldInL1 s.dev e 0 (mWidth e.w) (globalAddrs e) →
      ∃ t, exec (.rdg i) s = .next t ∧ (groupIn t.dev e).flags = e.g.flags
        ∧ DstGets s t e false (regsOfWidth (mWidth e.w)) (fun l =>
            let loc := (heldLoc s.dev e 0 (wrap ((srcA e.g e.w l 2 : Int) + wOffset e.w) 64)).getD 0
            let v := l1Value (coreOf s.dev e.core) loc (mWidth e.w)
            if mSx e.w && decide (mWidth e.w ≤ 2) then (BitVec.signExtend 32 (BitVec.ofNat (8 * mWidth e.w) v)).toNat else v)) ∧
    (∀ va, va = (fun l => ((slotOf e.d e.g.slot).inVa + wrap ((srcA e.g e.w l 1 : Int) + wOffset e.w) 32) % 2 ^ 64) →
      Ready s.dev i 0x69 e → e.part ≠ 0 → ckCode (frameCk e.w e.second e.d.shape.regs true) = 0 → e.d.plain = false →
      (∀ l, e.part.toNat.testBit l = true → wrap ((srcA e.g e.w l 1 : Int) + wOffset e.w) 32 + mWidth e.w ≤ (slotOf e.d e.g.slot).inLen) →
      misaligned ((lanesOf e.part).map (fun l => (l, va l))) (mWidth e.w) = false →
      Reachable s.dev e 0 (mWidth e.w) false ((lanesOf e.part).map (fun l => (l, va l))) →
      HeldInL1 s.dev e 0 (mWidth e.w) ((lanesOf e.part).map (fun l => (l, va l))) →
      ∃ t, exec (.sin i) s = .next t ∧ (groupIn t.dev e).flags = e.g.flags
        ∧ DstGets s t e false (regsOfWidth (mWidth e.w)) (fun l =>
            l1Value (coreOf s.dev e.core) ((heldLoc s.dev e 0 (va l)).getD 0) (mWidth e.w)))

/-- WRG and SOUT store to the L1 (R105, R120, R187): the bytes of a lane that no later lane overlaps are held there as stored, those outside the lanes' ranges
as before, and no byte of memory changes. A translation keeps an access within its sector. -/
def Obligations.GlobalStores : Prop :=
  ∀ (s : State) (i : Issue) (e : Env) (w : Nat) (va : Nat → Nat) (addrs : List (Nat × Nat)) (loc : Nat → Nat),
    w = mWidth e.w → addrs = (lanesOf e.part).map (fun l => (l, va l)) → (∀ l, loc l = (heldLoc s.dev e 1 (va l)).getD 0) →
    misaligned addrs w = false → Reachable s.dev e 1 w true addrs → (∀ l, e.part.toNat.testBit l = true → loc l % 32 + w ≤ 32) →
    ∀ c : Instr,
    ((c = .wrg i ∧ Ready s.dev i 0x31 e ∧ ckCode (memCk e.w e.second e.d.shape.regs false true) = 0
          ∧ va = (fun l => wrap ((srcA e.g e.w l 2 : Int) + wOffset e.w) 64)
          ∧ (mOrd e.w = 0 ∧ mHint e.w ≠ 2 ∨ mOrd e.w = 2 ∧ mScope e.w ≤ 1 ∧ e.g.phase = 1 ∧ ownStoresPending (coreOf s.dev e.core) e.gno = false)) ∨
      (c = .sout i ∧ Ready s.dev i 0x6A e ∧ ckCode (frameCk e.w e.second e.d.shape.regs false) = 0 ∧ e.d.plain = false
          ∧ va = (fun l => ((slotOf e.d e.g.slot).outVa + wrap ((srcA e.g e.w l 1 : Int) + wOffset e.w) 32) % 2 ^ 64)
          ∧ ∀ l, e.part.toNat.testBit l = true →
              wrap ((srcA e.g e.w l 1 : Int) + wOffset e.w) 32 + mWidth e.w ≤ (slotOf e.d e.g.slot).outLen)) →
    e.part ≠ 0 → (coreOf s.dev e.core).l1.length + 32 ≤ l1Capacity (coreOf s.dev e.core) →
    ∃ t, exec c s = .next t ∧ t.pending = s.pending ∧ SameBytes s.dev t.dev ∧ SameRegsBut [] s.dev t.dev ∧ SameUnits s.dev t.dev
      ∧ SameCoresBut e.core s.dev t.dev ∧ movedOn e (groupIn t.dev e) ∧ (groupIn t.dev e).gr = e.g.gr ∧ (groupIn t.dev e).pr = e.g.pr
      ∧ (coreOf t.dev e.core).wb = (coreOf s.dev e.core).wb ∧ (coreOf t.dev e.core).ls = (coreOf s.dev e.core).ls
      ∧ (∀ a, (∀ l, e.part.toNat.testBit l = true → a < loc l ∨ loc l + w ≤ a) →
          l1Byte (coreOf t.dev e.core) a = l1Byte (coreOf s.dev e.core) a)
      ∧ ∀ l j, e.part.toNat.testBit l = true → j < w →
          (∀ l', l < l' → e.part.toNat.testBit l' = true → loc l + j < loc l' ∨ loc l' + w ≤ loc l + j) →
          l1Byte (coreOf t.dev e.core) (loc l + j) = some (byteAt (srcB e.g e.w e.second l (regsOfWidth w)) j)

/-- A store with HINT 2, and an ordered store at island scope or wider whose release has completed, sends what the L1 does not hold past it, towards its
visibility point (R187, R190): one write for each lane, in increasing lane order.
The model's choices that it rests on: log entry 27. -/
def Obligations.StoresPastTheL1 : Prop :=
  ∀ (s : State) (i : Issue) (e : Env) (w : Nat) (va : Nat → Nat) (loc : Nat → Nat),
    w = mWidth e.w → va = (fun l => wrap ((srcA e.g e.w l 2 : Int) + wOffset e.w) 64) → (∀ l, loc l = (heldLoc s.dev e 1 (va l)).getD 0) →
    Ready s.dev i 0x31 e → e.part ≠ 0 → ckCode (memCk e.w e.second e.d.shape.regs false true) = 0 →
    misaligned (globalAddrs e) w = false → Reachable s.dev e 1 w true (globalAddrs e) →
    (mOrd e.w = 0 ∧ mHint e.w = 2
      ∨ mOrd e.w = 2 ∧ 2 ≤ mScope e.w ∧ e.g.phase = 1 ∧ releaseReady s.dev e.core e.gno e.g.relSeq (mScope e.w) = true) →
    (∀ l, e.part.toNat.testBit l = true → l1Holds (coreOf s.dev e.core) (loc l / 32) = false) →
    ∃ t, exec (.wrg i) s = .next t ∧ OnlyGroup { s with dev := setCore s.dev e.core { coreOf s.dev e.core with wb := (coreOf t.dev e.core).wb } } t e
      ∧ movedOn e (groupIn t.dev e) ∧ (groupIn t.dev e).gr = e.g.gr
      ∧ (coreOf t.dev e.core).wb = (coreOf s.dev e.core).wb ++ (lanesOf e.part).map (fun l =>
          ⟨loc l / 32, BitVec.ofNat 256 (srcB e.g e.w e.second l (regsOfWidth w) % 2 ^ (8 * w) * 2 ^ (8 * (loc l % 32))), byteSpan (loc l % 32) w, false,
            none, e.gno, (coreOf s.dev e.core).seq, none⟩)

/-- An atomic whose results have come back from the homes writes the old values and goes on, taking them from the core's buffer (R106, R107), with an acquire
making the L1 stale (R189); before, it sends one request for each sector, with the lanes in increasing order (R77).
The model's choices that it rests on: log entries 26, 107. -/
def Obligations.GlobalAtomics : Prop :=
  ∀ (s : State) (i : Issue) (e : Env),
    Ready s.dev i 0x38 e → e.part ≠ 0 → ckCode (amoCk e.w e.second e.d.shape.regs true) = 0 →
    misaligned (globalAddrs e) (if aW64 e.w then 8 else 4) = false →
    Reachable s.dev e 2 (if aW64 e.w then 8 else 4) true (globalAddrs e) →
    (∀ v : Nat → Nat, 1 < e.g.phase →
      (coreOf s.dev e.core).abuf.filter (fun r => r.group == e.gno) = (lanesOf e.part).map (fun l => ⟨e.gno, l, v l, 0⟩) →
      ∃ t, exec (.amog i) s = .next t ∧ SameBytes s.dev t.dev ∧ movedOn e (groupIn t.dev e)
        ∧ (coreOf t.dev e.core).abuf = (coreOf s.dev e.core).abuf.filter (fun r => r.group != e.gno)
        ∧ (if aNr e.w then (groupIn t.dev e).gr = e.g.gr
           else (∀ l, e.part.toNat.testBit l = true →
               readG (groupIn t.dev e) l (wDst e.w) (if aW64 e.w then 2 else 1) = v l % (if aW64 e.w then 2 ^ 64 else 2 ^ 32))
             ∧ SameButG (wDst e.w) (if aW64 e.w then 2 else 1) e.part e.g (groupIn t.dev e))
        ∧ (mOrd e.w % 2 = 1 → 2 ≤ mScope e.w → l1Fresh (coreOf t.dev e.core))
        ∧ (mOrd e.w % 2 = 0 ∨ mScope e.w ≤ 1 → OnlyGroup s t e)) ∧
    (∀ sec : Nat, (mOrd e.w ≤ 1 ∧ e.g.phase = 0
        ∨ 2 ≤ mOrd e.w ∧ e.g.phase = 1 ∧ releaseReady s.dev e.core e.gno e.g.relSeq (mScope e.w) = true) → s.dev.net = [] →
      (∀ l, e.part.toNat.testBit l = true → (heldLoc s.dev e 2 (wrap ((srcA e.g e.w l 2 : Int) + wOffset e.w) 64)).map (· / 32) = some sec) →
      ∃ t, exec (.amog i) s = .next t ∧ SameBytes s.dev t.dev ∧ (groupIn t.dev e).run = e.g.run ∧ (groupIn t.dev e).stall = .response
        ∧ t.dev.net = [(s.dev.nextReq, ⟨e.core, groupTag e.gno, sec, .atomic ((lanesOf e.part).map (fun l =>
            laneAtom e l ((heldLoc s.dev e 2 (wrap ((srcA e.g e.w l 2 : Int) + wOffset e.w) 64)).getD 0 % 32))), false⟩)])

/-- FENCE goes on once its release has completed, and with an acquire at island scope or wider every sector of the L1 is stale (R109, R188 to R190); at a
narrower scope nothing changes. CFLUSH and CINV write back the dirty sectors of their range, CINV leaving them stale, and go on once these
writes are accepted (R108, R194). -/
def Obligations.FencesAndRanges : Prop :=
  ∀ (s : State) (i : Issue) (e : Env),
    (Ready s.dev i 0x3F e → e.part ≠ 0 →
      ckCode (ckAll [selCk e.w, modCk e.w 0x1F0000, rsvIf (mOrd e.w == 0 || mScope e.w ≥ 6), noA e.w, noB e.w, noD e.w]) = 0 →
      (2 ≤ mOrd e.w → e.g.phase = 1 ∧ releaseReady s.dev e.core e.gno e.g.relSeq (mScope e.w) = true) →
      ∃ t, exec (.fence i) s = .next t ∧ t.pending = s.pending ∧ SameBytes s.dev t.dev ∧ SameRegsBut [] s.dev t.dev ∧ SameUnits s.dev t.dev
        ∧ SameCoresBut e.core s.dev t.dev ∧ movedOn e (groupIn t.dev e) ∧ (groupIn t.dev e).gr = e.g.gr
        ∧ (mOrd e.w % 2 = 1 → 2 ≤ mScope e.w → l1Fresh (coreOf t.dev e.core))
        ∧ (mOrd e.w % 2 = 0 ∨ mScope e.w ≤ 1 → (coreOf t.dev e.core).l1 = (coreOf s.dev e.core).l1)) ∧
    (∀ (inv : Bool) (c : Instr) (op base len sec : Nat) (x : L1Sector) (tl : Tlb),
      (c, op, inv) ∈ [(Instr.cflush i, 0x3C, false), (Instr.cinv i, 0x3D, true)] → Ready s.dev i op e → e.part ≠ 0 →
      ckCode (rangeCk e.w e.second) = 0 → base = readU e.g (wSrcA e.w) 2 → len = srcB e.g e.w e.second 0 1 → base % 32 = 0 → len = 32 →
      canonical (base + 31) = true → 2 ≤ mScope e.w →
      tlbFind (coreOf s.dev e.core) 1 e.d.inst base 4 = some tl → tl.at base = 32 * sec →
      ((e.g.phase = 0 → sbBlocks (coreOf s.dev e.core) none base 32 false = false → tl.at (base + 31) = 32 * sec + 31 →
          tget (coreOf s.dev e.core).l1 sec = some x → x.dirty ≠ 0 →
          ∃ t, exec c s = .next t ∧ SameBytes s.dev t.dev ∧ (groupIn t.dev e).run = e.g.run
            ∧ (coreOf t.dev e.core).wb = (coreOf s.dev e.core).wb ++ [⟨sec, x.data, x.dirty, false, none, e.gno, (coreOf s.dev e.core).seq, none⟩]
            ∧ tget (coreOf t.dev e.core).l1 sec = some (if inv then L1Sector.staled x else { x with dirty := 0 }))
        ∧ (e.g.phase = 2 → ownStoresPending (coreOf s.dev e.core) e.gno = false →
            (4 ≤ mScope e.w → pendingLine s.dev false = false) → (mScope e.w = 5 → pendingLine s.dev true = false) →
            ∃ t, exec c s = .next t ∧ OnlyGroup s t e ∧ movedOn e (groupIn t.dev e) ∧ (groupIn t.dev e).gr = e.g.gr)))

/-- A matrix instruction with every thread participating, whose token is free and whose descriptor passes its checks, is accepted (R126, R127, R144): its
operation joins the engine's queue with the group's seed and step, the token is busy for the group, and the path goes on.
The model's choices that it rests on: log entries 20, 22, 23, 24. -/
def Obligations.MatrixIssue : Prop :=
  ∀ (s : State) (i : Issue) (e : Env) (c : Instr) (op : Nat) (k : MxKind) (o : MxOp),
    (c, op, k) ∈ [(Instr.mxi i, 0x58, MxKind.mxi), (Instr.mxz i, 0x5B, MxKind.mxz), (Instr.mxst i, 0x5C, MxKind.mxst)] →
    Ready s.dev i op e → ckCode (descCk e.w e.second) = 0 → e.part = 0xFFFFFFFF → e.c.mxHold = none → tget e.c.tokens (wDst e.w) = none →
    e.c.sb = [] → e.c.sbWait = [] →
    mxDescribe k (fun a n => lsRead e.c (slotBase e.c e.d.shape e.g.set + a) n) e.d.shape.lsPerSet (descOffset e) = .inr o →
    o.a.kind ≠ 2 → o.b.kind ≠ 2 → spansClash (mxSpans o) = false →
    ∃ t, exec c s = .next t ∧ t.pending = s.pending ∧ SameBytes s.dev t.dev ∧ movedOn e (groupIn t.dev e) ∧ (groupIn t.dev e).gr = e.g.gr
      ∧ tget (coreOf t.dev e.core).tokens (wDst e.w) = some ⟨true, e.gno, e.g.set, e.path.pc, e.c.seq, 0⟩
      ∧ (coreOf t.dev e.core).mxq = e.c.mxq ++ [mxTaken s.dev e o]
      ∧ (coreOf t.dev e.core).sb = sbEntries e (wDst e.w) (mxSpans o)
      ∧ fget t.dev (RF.MXE_CORE_STATUS_QUEUED e.core) = (e.c.mxq.length + 1) % 2 ^ (RF.MXE_CORE_STATUS_QUEUED e.core).width

/-- FYI with a free handle and a descriptor that passes its checks starts a ferry (R115 to R117): the handle is busy for the group, the transfer stands at its
first byte, its ranges are in the scoreboard, and the path goes on. MXW and FYW go on once every token or handle they name has completed, if none of the
group's own has an error to deliver; MXT and FYT write whether they have (R118, R130).
The model's choices that it rests on: log entry 22. -/
def Obligations.FerriesAndWaits : Prop :=
  ∀ (s : State) (i : Issue) (e : Env), e.part ≠ 0 →
    (∀ f : Ferry, Ready s.dev i 0x60 e → ckCode (descCk e.w e.second) = 0 → tget e.c.handles (wDst e.w) = none → e.c.sb = [] → e.c.sbWait = [] →
      ferryDescribe (fun a n => lsRead e.c (slotBase e.c e.d.shape e.g.set + a) n) e.d.shape.lsPerSet (descOffset e) = .inr f →
      ∃ t, exec (.fyi i) s = .next t ∧ t.pending = s.pending ∧ SameBytes s.dev t.dev ∧ SameRegsBut [] s.dev t.dev ∧ SameCoresBut e.core s.dev t.dev
        ∧ movedOn e (groupIn t.dev e) ∧ (groupIn t.dev e).gr = e.g.gr
        ∧ tget (coreOf t.dev e.core).handles (wDst e.w) = some ⟨true, e.gno, e.g.set, e.path.pc, e.c.seq, 0⟩
        ∧ tget (coreOf t.dev e.core).ferries (wDst e.w) = some { f with group := e.gno, set := e.g.set, seq := e.c.seq }
        ∧ f.row = 0 ∧ f.off = 0 ∧ f.code = 0 ∧ (coreOf t.dev e.core).sb = sbEntries e (16 + wDst e.w) (ferrySpans f)) ∧
    (∀ (slots : Tbl AsyncSlot) (c : Instr) (op : Nat),
      ((c, op, slots) ∈ [(Instr.mxw i, 0x59, e.c.tokens), (Instr.fyw i, 0x61, e.c.handles)] → Ready s.dev i op e → (op < 0x60 → e.c.mxHold = none) →
        ckCode (waitCk e.w false) = 0 → anyBusy slots (wMod e.w 0 16) = false →
        (∀ p ∈ slots, bitOf (wMod e.w 0 16) p.1 = true → p.2.group = e.gno → p.2.code = 0) →
        ∃ t, exec c s = .next t ∧ OnlyGroup s t e ∧ movedOn e (groupIn t.dev e) ∧ SamePaths e.g (groupIn t.dev e) ∧ (groupIn t.dev e).gr = e.g.gr
          ∧ (groupIn t.dev e).pr = e.g.pr) ∧
      ((c, op, slots) ∈ [(Instr.mxt i, 0x5A, e.c.tokens), (Instr.fyt i, 0x62, e.c.handles)] → Ready s.dev i op e → (op < 0x60 → e.c.mxHold = none) →
        ckCode (waitCk e.w true) = 0 → ∃ t, exec c s = .next t ∧ PredGets s t e (fun _ => !anyBusy slots (wMod e.w 0 16))))

/-- The engines of a core. A ZERO row clears its tile, and the operation stands at its next row (R144); a token whose rows are done and whose writes are accepted is
free again, its flags merged into the group's (R129); a ferry within the local store copies a segment (R116, R280); one that has no byte and no write
left frees its handle (R118).
The model's choices that it rests on: log entries 24, 108. -/
def Obligations.EnginesOfACore : Prop :=
  ∀ (s : State) (core : Nat) (dn : Nat) (d : Dispatch) (c : Core), c = coreOf s.dev core → c.disp = some dn → tget s.dev.disp dn = some d →
    (∀ (o : MxOp) (f : Family) (r : MxRow), c.mxq = [o] → o.code = 0 → mxFamily o = some f → o.rows[o.next]? = some r → r.op = 1 → o.walks = [] →
      o.faults = [] → o.got = [] → opHeld c o.token o.seq (mxGlobal o) = false →
      ∃ t, exec (.mxRow core .ok) s = .next t ∧ SameBytes s.dev t.dev ∧ SameCoresBut core s.dev t.dev
        ∧ (coreOf t.dev core).mxq = [{ o with next := o.next + 1, outNext := 0 }]
        ∧ (∀ u ∈ tileUnits f r.acc, ∀ j, j < 8192 → tget (coreOf t.dev core).acc (8192 * u + j) = none)
        ∧ (∀ n, n / 8192 ∉ tileUnits f r.acc → tget (coreOf t.dev core).acc n = tget c.acc n)) ∧
    (∀ (o : MxOp) (slot : AsyncSlot) (g : Group), c.mxq = [o] → tget c.tokens o.token = some slot → tget c.groups o.group = some g → o.code = 0 →
      o.rows.length ≤ o.next → (∀ w ∈ c.wb, w.op ≠ some o.token) →
      ∃ t, exec (.mxTokenComplete core o.token) s = .next t ∧ SameBytes s.dev t.dev ∧ SameCoresBut core s.dev t.dev
        ∧ tget (coreOf t.dev core).tokens o.token = none ∧ (coreOf t.dev core).mxq = []
        ∧ (tget (coreOf t.dev core).groups o.group).map (·.flags) = some (g.flags ||| o.flags)
        ∧ fget t.dev (RF.MXE_CORE_STATUS_QUEUED core) = 0) ∧
    (∀ (h : Nat) (f : Ferry), tget c.ferries h = some f → f.srcLs = true → f.dstLs = true → f.code = 0 → f.row < f.rows → f.off < f.rowBytes → f.walks = [] →
      f.faults = [] → opHeld c (16 + h) f.seq false = false →
      let base := slotBase c d.shape f.set
      let a := base + f.src + f.row * f.srcStride + f.off
      let b := base + f.dst + f.row * f.dstStride + f.off
      let n := min 4096 (f.rowBytes - f.off)
      ∃ t, exec (.ferrySegment core h) s = .next t ∧ SameBytes s.dev t.dev ∧ SameRegsBut [] s.dev t.dev ∧ SameUnits s.dev t.dev
        ∧ SameCoresBut core s.dev t.dev
        ∧ (∀ j, j < n → lsByte (coreOf t.dev core) (b + j) = lsByte c (a + j))
        ∧ (∀ x, x < b ∨ b + n ≤ x → lsByte (coreOf t.dev core) x = lsByte c x)
        ∧ (tget (coreOf t.dev core).ferries h).map (fun f => (f.row, f.off))
            = some (if f.off + n < f.rowBytes then (f.row, f.off + n) else (f.row + 1, 0))) ∧
    (∀ (h : Nat) (f : Ferry) (slot : AsyncSlot), tget c.ferries h = some f → tget c.handles h = some slot → f.code = 0 → f.bad = 0 → f.rows ≤ f.row →
      (∀ w ∈ c.wb, w.op ≠ some (16 + h)) →
      ∃ t, exec (.ferryComplete core h) s = .next t ∧ SameBytes s.dev t.dev ∧ SameRegsBut [] s.dev t.dev ∧ SameCoresBut core s.dev t.dev
        ∧ tget (coreOf t.dev core).handles h = none ∧ tget (coreOf t.dev core).ferries h = none
        ∧ ∀ x ∈ (coreOf t.dev core).sb, x.op ≠ 16 + h) ∧
    (∀ (n : Nat) (x : SbEntry), c.sb[n]? = some x → entryDone c x = true →
      ∃ t, exec (.scoreboardEntryFree core n) s = .next t ∧ (coreOf t.dev core).sb = c.sb.eraseIdx n ∧ SameBytes s.dev t.dev
        ∧ SameRegsBut [] s.dev t.dev ∧ SameUnits s.dev t.dev ∧ SameCoresBut core s.dev t.dev)

/-! ### Memory controllers -/

/-- What the controllers do. A read of a sector that a fill waits for gives the fill the sector's bytes, with E_POISON where it is marked poisoned (R245); a
write request of a whole line puts its bytes and POISON bits into memory (R212, R242); a write-combining entry that is retired merges the bytes it
names, and is counted as a read-modify-write (R243); the patrol moves on to its next sector, and a corrected error is counted (R245).
The model's choices that it rests on: log entries 15, 54, 55. -/
def Obligations.ControllerTransfers : Prop :=
  ∀ s : State, Settled s.dev → channelsKnown s.dev →
    (∀ (sec n id : Nat) (f : Fill), tget s.dev.shore.fills (sec / 2) = some f → f.lo = none → f.hi = none → chanOf s.dev (32 * sec) = some id →
      isHole s.dev id = false → chanPaused s.dev id = false → (∀ w ∈ s.dev.mem.writes, w.line ≠ sec / 2) → wcbFind s.dev id sec = none →
      (dramPoisoned s.dev.dram sec = false ∨ replicaLine s.dev (sec / 2) = none) →
      ∃ t, exec (.memRead sec .clean n .clean false) s = .next t ∧ SameMem s.dev t.dev
        ∧ OnlyIn [chanReg id, Reg.MEM_CNT_LINK_RETRIES] s t { s.dev with mem := t.dev.mem, shore := { s.dev.shore with fills := t.dev.shore.fills } }
        ∧ (tget t.dev.shore.fills (sec / 2)).map (fun f => if sec % 2 = 0 then f.lo else f.hi)
            = some (some ⟨dramSector s.dev.dram sec, if dramPoisoned s.dev.dram sec then ePoison else 0⟩)) ∧
    (∀ (line n id : Nat) (w : MemWr), s.dev.mem.writes.find? (fun w => w.line == line) = some w → chanOf s.dev (64 * line) = some id →
      isHole s.dev id = false → chanPaused s.dev id = false → replicaLine s.dev line = none → w.mask = BitVec.allOnes 64 →
      ∃ t, exec (.memWrite line n false) s = .next t ∧ t.dev.mem.writes = s.dev.mem.writes.erase w
        ∧ (∀ j, j < 64 → dramByte t.dev.dram (64 * line + j) = byteAt w.data.toNat j)
        ∧ (∀ a, a < 64 * line ∨ 64 * line + 64 ≤ a → dramByte t.dev.dram a = dramByte s.dev.dram a)
        ∧ (∀ h, h < 2 → dramPoisoned t.dev.dram (2 * line + h) = (w.poison.getLsbD h || w.markPoison.getLsbD h))
        ∧ OnlyIn [chanReg id, Reg.MEM_CNT_LINK_RETRIES] s t { s.dev with mem := t.dev.mem }) ∧
    (∀ (sec id : Nat) (w : WcbEntry), chanOf s.dev (32 * sec) = some id → wcbFind s.dev id sec = some w →
      ∃ t, exec (.wcbTimeout sec .clean) s = .next t ∧ wcbFind t.dev id sec = none
        ∧ (∀ j, j < 32 → dramByte t.dev.dram (32 * sec + j)
            = if w.mask.getLsbD j then byteAt w.data.toNat j else dramByte s.dev.dram (32 * sec + j))
        ∧ (∀ a, a < 32 * sec ∨ 32 * sec + 32 ≤ a → dramByte t.dev.dram a = dramByte s.dev.dram a)
        ∧ regRead t.dev Reg.MEM_CNT_RMW = (regRead s.dev Reg.MEM_CNT_RMW + 1) % 2 ^ 64
        ∧ OnlyIn [Reg.MEM_CNT_RMW] s t { s.dev with mem := t.dev.mem }) ∧
    (∀ id n : Nat, fget s.dev RF.MEM_SCRUB_POLICY_SCRUB_HOURS ≠ 0 → chanOf s.dev (32 * s.dev.mem.scrubNext) = some id → isHole s.dev id = false →
      chanPaused s.dev id = false → wcbFind s.dev id s.dev.mem.scrubNext = none →
      ∃ t, exec (.patrolScrubRead .corrected n) s = .next t ∧ SameMem s.dev t.dev ∧ t.dev.mem.scrubNext = nextScrub s.dev s.dev.mem.scrubNext
        ∧ regRead t.dev Reg.MEM_CNT_CORRECTED = (regRead s.dev Reg.MEM_CNT_CORRECTED + 1) % 2 ^ 64
        ∧ OnlyIn [chanReg id, Reg.MEM_CNT_LINK_RETRIES, Reg.MEM_CNT_CORRECTED] s t { s.dev with mem := t.dev.mem })

/-- A channel whose layer is lost becomes a hole with CAUSE 3, and what was combined for it is dropped (R246); a channel group that enters
self-refresh is listed (R457); at the end of a regulator window the used caps start again, and values that waited take effect, in that group alone
(R250, R251).
The model's choices that it rests on: log entry 53. -/
def Obligations.ChannelsAndRegulators : Prop :=
  ∀ s : State,
    (∀ id : Nat, channelsKnown s.dev → id ∈ s.dev.mem.listA ++ s.dev.mem.listB → fget s.dev (chanSTATE id) = 0 →
      ∃ t, exec (.layerLoss id) s = .next t ∧ SameMem s.dev t.dev ∧ fget t.dev (chanSTATE id) = 2 ∧ fget t.dev (chanCAUSE id) = 3
        ∧ (∀ w ∈ wcbOf t.dev id, w ∈ wcbOf s.dev id ∧ chanOf s.dev (32 * w.sec) ≠ some id)
        ∧ OnlyIn ([chanReg id, Reg.MEM_TIER_A_STATUS, Reg.MEM_TIER_B_STATUS] ++ logRegs) s t
            { s.dev with mem := { s.dev.mem with wcb := t.dev.mem.wcb }, log := t.dev.log, flash := t.dev.flash }) ∧
    (∀ group : Nat, group < 96 →
      ∃ t, exec (.selfRefreshEntry group) s = .next t ∧ SameMem s.dev t.dev ∧ (∀ g, g ∈ t.dev.mem.asleep ↔ g = group ∨ g ∈ s.dev.mem.asleep)
        ∧ OnlyIn [] s t { s.dev with mem := { s.dev.mem with asleep := t.dev.mem.asleep } }) ∧
    (∀ group : Nat, ∃ t, exec (.regulatorWindow group) s = .next t ∧ SameMem s.dev t.dev
        ∧ (∀ k r, tget s.dev.mem.regul k = some r → k / 34 = group →
            tget t.dev.mem.regul k = some (match r.next with
              | some (w, c) => ⟨w, c, 0, none⟩
              | none => ⟨r.weight, r.cap, 0, none⟩))
        ∧ (∀ k, k / 34 ≠ group → tget t.dev.mem.regul k = tget s.dev.mem.regul k)
        ∧ OnlyIn [] s t { s.dev with mem := { s.dev.mem with regul := t.dev.mem.regul } })


/-! ### Cores and dispatches -/

/-- The oldest write of a core is accepted at the home slice of its line (R184, R188): the bytes that it names are in the line, the other bytes as before, the
line is dirty, and the write has left the core. The next set of a core is admitted where its partitions and a slot have room (R57, R58): its slot reads as
zero (R63), and its groups start with one path of 32 threads at the program's address, with the launch's U registers (R59).
The model's choices that it rests on: log entry 8. -/
def Obligations.WriteBacksAndSets : Prop :=
  ∀ (s : State) (core : Nat),
    (∀ (w : WbEntry) (l : Line), oldestWrite s.dev core none = some w → HeldHome s.dev (w.sec / 2) l →
      ∃ (t : State) (l' : Line), exec (.writebackAccept core) s = .next t ∧ SameMem s.dev t.dev ∧ SameCoresBut core s.dev t.dev
        ∧ coreOf t.dev core = { coreOf s.dev core with wb := (coreOf s.dev core).wb.erase w }
        ∧ lineAt t.dev (w.sec / 2) = some l' ∧ l'.dirty = true ∧ l'.hold = l.hold ∧ l'.ext = l.ext
        ∧ (∀ j, j < 32 → byteAt (halfOf l'.data (w.sec % 2)).toNat j
            = if w.mask.getLsbD j then byteAt w.data.toNat j else byteAt (halfOf l.data (w.sec % 2)).toNat j)
        ∧ halfOf l'.data (1 - w.sec % 2) = halfOf l.data (1 - w.sec % 2)
        ∧ (∀ k, k ≠ w.sec / 2 → lineAt t.dev k = lineAt s.dev k)
        ∧ OnlyIn [Reg.SHC_CNT_HITS, Reg.SHC_SLICE_STATUS (sliceOf s.dev (w.sec / 2))] s t
            { s.dev with cores := t.dev.cores, shore := { s.dev.shore with lines := t.dev.shore.lines },
                         mem := { s.dev.mem with writes := t.dev.mem.writes }, fe := { s.dev.fe with wakes := t.dev.fe.wakes } }) ∧
    (∀ (n k : Nat) (d : Dispatch) (c : Core), c = coreOf s.dev core → c.disp = some n → tget s.dev.disp n = some d → d.phase = .running →
      c.nextSet * d.shape.setGroups < d.shape.groups →
      (∀ q, q < 4 → partUsed c q + ((List.range d.shape.setGroups).filter (fun gi => partOf d.shape d.cores.length c.nextSet gi == q)).length
          ≤ partCapacity d.shape) → freeSlot c d.shape = some k →
      ∃ t, exec (.setAdmit core) s = .next t ∧ SameMem s.dev t.dev ∧ SameCoresBut core s.dev t.dev
        ∧ tget (coreOf t.dev core).sets c.nextSet = some ⟨k, true⟩ ∧ (coreOf t.dev core).nextSet = c.nextSet + d.cores.length
        ∧ (∀ gi, gi < d.shape.setGroups → tget (coreOf t.dev core).groups (c.nextSet * d.shape.setGroups + gi)
            = some (Group.start c.nextSet (partOf d.shape d.cores.length c.nextSet gi) d.prog d.uregs))
        ∧ (∀ g, (g < c.nextSet * d.shape.setGroups ∨ (c.nextSet + 1) * d.shape.setGroups ≤ g) →
            tget (coreOf t.dev core).groups g = tget c.groups g)
        ∧ (∀ a, lsByte (coreOf t.dev core) a
            = if k * d.shape.lsPerSet ≤ a ∧ a < k * d.shape.lsPerSet + d.shape.lsPerSet then 0 else lsByte c a)
        ∧ tget t.dev.disp n = some { d with start := some (d.start.getD s.dev.time.hw) }
        ∧ OnlyIn [] s t { s.dev with cores := t.dev.cores, disp := t.dev.disp })

/-- The life of a launch. LAUNCH is entered as work that waits for its islands (R297); where its islands are free and no other work waits, it takes the
lowest-numbered ones of its mask, as many as it needs (R57, R310); once they run, its cores make their L1 stale, take the launch's split, and run it, with the argument
block in the U registers (R62, R204, R298).
The model's choices that it rests on: log entries 31, 44. -/
def Obligations.LaunchesStart : Prop :=
  ∀ s : State,
    (∀ (c : Cmd) (x : Ctx), Admits s.dev 0x01 c x →
      shapeOk (eb x.e 48 4) (eb x.e 56 1) (eb x.e 52 2) (eb x.e 57 1) (1024 * eb x.e 54 2) = true → islandsOk s.dev x.inst (eb x.e 32 8) = true →
      eb x.e 58 1 ≤ 7 → eb x.e 16 8 % 8 = 0 → eb x.e 24 8 % 64 = 0 → namesLost s.dev (eb x.e 32 8) = false →
      ∃ (t : State) (d : Dispatch), exec (.launch c) s = .next t ∧ SameMem s.dev t.dev ∧ Begins t.dev x
        ∧ tget t.dev.disp s.dev.fe.order = some d ∧ t.dev.fe.order = s.dev.fe.order + 1 ∧ d.phase = .waiting ∧ d.plain = true ∧ d.inst = x.inst
        ∧ d.cls = eb x.e 58 1 ∧ d.prog = eb x.e 16 8 ∧ d.args = eb x.e 24 8 ∧ d.islands = eb x.e 32 8 ∧ d.source = some x.key
        ∧ d.shape = ⟨eb x.e 48 4, eb x.e 56 1, eb x.e 52 2, eb x.e 57 1, 1024 * eb x.e 54 2⟩ ∧ d.seed.toNat = eb x.e 40 8
        ∧ OnlyCmd [] s t x { s.dev with disp := t.dev.disp, fe := { s.dev.fe with order := t.dev.fe.order, journals := t.dev.fe.journals } }) ∧
    (∀ (n : Nat) (d : Dispatch), serving s.dev = true → tget s.dev.disp n = some d → d.phase = .waiting →
      (∀ p ∈ s.dev.disp, p.2.got = [] ∧ (p.1 ≠ n → p.2.phase ≠ .waiting)) → wanted s.dev d ≤ (liveIslands s.dev d.islands).length →
      ∃ t, exec (.batchDispatch n) s = .next t ∧ SameMem s.dev t.dev
        ∧ (let got := (liveIslands s.dev d.islands).take (wanted s.dev d)
           tget t.dev.disp n = some { d with got := got, cores := coresOf got, canon := coresOf (canonIslands d (wanted s.dev d)), phase := .assigned }
             ∧ ∀ i ∈ got, fget s.dev (RF.PWR_ISLAND_STATE i) = 1 ∨ fget s.dev (RF.PWR_ISLAND_STATE i) = 2 → i ∈ t.dev.power.wake)
        ∧ OnlyIn [] s t { s.dev with disp := t.dev.disp, power := { s.dev.power with wake := t.dev.power.wake } }) ∧
    (∀ (n : Nat) (d : Dispatch) (s' s2 : Dev) (b : List Byte), serving s.dev = true → tget s.dev.disp n = some d → d.phase = .assigned → d.plain = true →
      d.slots = [] → (∀ i ∈ d.got, fget s.dev (RF.PWR_ISLAND_STATE i) = 0) → s' = d.cores.foldl (fun s c => startCore s n d c) s.dev →
      (if d.args = 0 then (s', [], 0) else vaRead s' d.inst d.args 256) = (s2, b, 0) → s2.blocked = [] → s2.disp = s'.disp → s2.cores = s'.cores →
      ∃ t, exec (.dispatchStart n) s = .next t ∧ (tget t.dev.disp n).map (fun d => (d.phase, d.uregs)) = some (.running, argRegs b)
        ∧ (∀ c ∈ d.cores, (coreOf t.dev c).disp = some n ∧ (coreOf t.dev c).split = d.shape.lsSplit ∧ l1Fresh (coreOf t.dev c))
        ∧ (∀ j, j ∉ d.cores → j ≠ d.cores.headD 0 → coreOf t.dev j = coreOf s.dev j)
        ∧ (d.args = 0 → SameMem s.dev t.dev ∧ OnlyIn [] s t { s.dev with cores := t.dev.cores, disp := t.dev.disp }))

/-- The end of a launch or step. Where every core has finished, each writes its L1 back (R85); once the writes are accepted, the launch is over: its cores are
free, and its command completes, with E_OK where no group faulted (R299). A step of one session that ends so leaves it Ready for the next STEP, with one frame
less to do, and its completion is owed (R307).
The model's choices that it rests on: log entry 7. -/
def Obligations.DispatchesEnd : Prop :=
  ∀ (s : State) (n : Nat) (d : Dispatch), serving s.dev = true → s.dev.blocked = [] → tget s.dev.disp n = some d → (∀ c ∈ d.cores, c < 176) →
    d.cls ≤ 7 → d.inst ≤ 32 →
    (d.plain = true → d.phase = .running → (∀ c ∈ d.cores, coreFinished (coreOf s.dev c) d.shape = true) → (∃ c ∈ d.cores, (coreOf s.dev c).wb ≠ []) →
      ∃ t, exec (.launchComplete n) s = .next t ∧ SameMem s.dev t.dev ∧ (tget t.dev.disp n).map (·.phase) = some .ended
        ∧ (∀ c ∈ d.cores, ∀ sec x, tget (coreOf t.dev c).l1 sec = some x → x.dirty = 0)
        ∧ (∀ c ∈ d.cores, ∃ l, (coreOf t.dev c).wb = (coreOf s.dev c).wb ++ l)
        ∧ OnlyIn [] s t { s.dev with disp := t.dev.disp, cores := t.dev.cores }) ∧
    (d.phase = .ended → (∀ c ∈ d.cores, (coreOf s.dev c).wb = []) → pendingLine s.dev false = false → pendingLine s.dev true = false →
      (∀ c ∈ d.cores, ∀ p ∈ (coreOf s.dev c).groups, p.2.charges = []) →
      (∀ (e : StoreEntry) (rg : Ring) (key : Nat), d.plain = true → d.source = some key → d.slots = [] → jnlMode s.dev d.inst = 0 →
        storeAt s.dev key = some e → e.inst ≤ 32 → ringAt s.dev (ringKey e.inst e.ring) = some rg → rg.dead = false →
        ∃ (t : State) (c : Cpl), exec (.launchComplete n) s = .next t ∧ SameMem s.dev t.dev ∧ tget t.dev.disp n = none
          ∧ (∀ j ∈ d.cores, (coreOf s.dev j).disp = some n → (coreOf t.dev j).disp = none ∧ (coreOf t.dev j).groups = [])
          ∧ (ringAt t.dev (ringKey e.inst e.ring)).map (·.cplQ) = some (rg.cplQ ++ [c]) ∧ c.tag = eb e.entry 8 8 ∧ c.opcode = entryOp e.entry
          ∧ c.status = 0 ∧ c.r0 = 0xFFFFFFFF ∧ c.r1 = 0 ∧ c.r2 = 0) ∧
      (∀ (sl : SlotInfo) (x : Session) (rg : Ring), d.plain = false → d.slots = [sl] → x = sesAt s.dev sl.session → x.state = .running → x.defer = none →
        x.pending = 1 → x.step = sl.step → x.steps = [] → x.inst ≤ 32 → jnlMode s.dev x.inst = 0 →
        (∀ p ∈ s.dev.fe.sessions, p.2.binding = x.binding → p.2.state = .running) →
        (∀ b, bindAt s.dev x.binding = some b → b.inst ≤ 32 ∧ jnlMode s.dev b.inst = 0) →
        ringAt s.dev (ringKey x.inst x.cplRing) = some rg → rg.dead = false →
        ∃ (t : State) (c : Cpl), exec (.stepComplete n) s = .next t ∧ SameMem s.dev t.dev ∧ tget t.dev.disp n = none
          ∧ (sesAt t.dev sl.session).state = .ready ∧ (sesAt t.dev sl.session).step = (x.step + 1) % 2 ^ 64 ∧ (sesAt t.dev sl.session).pending = 0
          ∧ (sesAt t.dev sl.session).seed = x.seed ∧ (sesAt t.dev sl.session).binding = x.binding
          ∧ (ringAt t.dev (ringKey x.inst x.cplRing)).map (·.cplQ) = some (rg.cplQ ++ [c]) ∧ c.tag = x.step ∧ c.opcode = 0x12 ∧ c.status = 0
          ∧ c.r0 = sl.session ∧ c.implicit = true
          ∧ regRead t.dev Reg.SES_CNT_STEPS = (regRead s.dev Reg.SES_CNT_STEPS + 1) % 2 ^ 64))

/-- The batch former. A tick of a class cuts the eligible sessions of a binding, up to the batch limit, into a batch: they are Running, and it waits for
its islands (R309, R310). Every 100 ms each class's cadence is halved, or raised by 500 µs, or kept, by the rule of R312, between CAD_MIN and CAD_MAX,
and a new window begins.
The model's choices that it rests on: log entries 43, 44. -/
def Obligations.BatchFormer : Prop :=
  ∀ s : State, serving s.dev = true → s.dev.blocked = [] →
    (∀ (cls b : Nat) (bd : Binding), cls ≤ 7 → s.dev.fe.bindings = [(b, bd)] → formsFor s.dev bd.inst = true → jnlMode s.dev bd.inst = 0 →
      batchLimit s.dev bd ≠ 0 → eligible s.dev b cls ≠ [] →
      runningCount s.dev + ((eligible s.dev b cls).take (batchLimit s.dev bd)).length ≤ 16384 →
      ∃ (t : State) (d : Dispatch), exec (.classTick cls) s = .next t ∧ SameMem s.dev t.dev ∧ tget t.dev.disp s.dev.fe.order = some d
        ∧ d.phase = .waiting ∧ d.plain = false ∧ d.inst = bd.inst ∧ d.bind = b ∧ d.cls = cls ∧ d.prog = bd.prog ∧ d.shape = bd.shape
        ∧ d.slots.map (·.session) = (eligible s.dev b cls).take (batchLimit s.dev bd)
        ∧ ∀ n ∈ (eligible s.dev b cls).take (batchLimit s.dev bd), (sesAt t.dev n).state = .running ∧ (sesAt t.dev n).step = (sesAt s.dev n).step) ∧
    ∃ t, exec .cadenceAdjust s = .next t ∧ SameMem s.dev t.dev ∧ t.dev.fe.windows = []
      ∧ (∀ k, k < 8 →
          let w := tgetD s.dev.fe.windows k ⟨0, 0, 0⟩
          let cad := fget s.dev (RF.SES_CLASS_CFG_CADENCE_US k)
          let tgt := fget s.dev (RF.SES_CLASS_CFG_TARGET_US k)
          fget t.dev (RF.SES_CLASS_CFG_CADENCE_US k)
            = (if w.batches = 0 then cad
               else if w.maxLat > 50 * tgt then max (fget s.dev (RF.SES_CLASS_CFG_CAD_MIN_US k)) (cad / 2)
               else if 2 * w.maxLat ≤ 50 * tgt ∧ 2 * w.fill < w.batches * 2 ^ 32 then min (fget s.dev (RF.SES_CLASS_CFG_CAD_MAX_US k)) (cad + 500)
               else cad)
            ∧ fget t.dev (RF.SES_CLASS_CFG_CAD_MIN_US k) = fget s.dev (RF.SES_CLASS_CFG_CAD_MIN_US k)
            ∧ fget t.dev (RF.SES_CLASS_CFG_CAD_MAX_US k) = fget s.dev (RF.SES_CLASS_CFG_CAD_MAX_US k)
            ∧ fget t.dev (RF.SES_CLASS_CFG_TARGET_US k) = tgt)
      ∧ OnlyIn ((List.range 8).map Reg.SES_CLASS_CFG ++ (List.range 8).map Reg.SES_CLASS_LAT ++ logRegs) s t
          { s.dev with fe := { s.dev.fe with windows := [] }, log := t.dev.log, flash := { s.dev.flash with romLog := t.dev.flash.romLog } }

/-! ### Sessions, bindings and rings -/

/-- The session commands (R300 to R306, R320): OPEN takes the lowest Closed index; BIND makes an Open session Ready; SUSPEND, and PARK and RESUME where
no page has to move, lead to the state of R301; CLOSE leaves the entry Closed, both of its copies written whole
(R482, R534); a Running session defers them; SEEK sets STEP and SEED; STEP and an
input entry each add a frame. Other sessions keep their entries, but for batches that a frame completes.
The model's choices that it rests on: log entries 41, 119. -/
def Obligations.SessionCommands : Prop :=
  ∀ (s : State) (c : Cmd) (x : Ctx) (n : Nat) (y : Session), y = sesAt s.dev n →
    (Admits s.dev 0x10 c x → (ringAt s.dev (ringKey x.inst (eb x.e 40 2))).isSome → eb x.e 40 2 < 4096 → eb x.e 42 1 ≤ 7 → eb x.e 24 8 % 4096 = 0 →
      eb x.e 32 8 % 32 = 0 → n < 2 ^ 20 → (∀ m, m ≤ n → ((holderOfSession s.dev m = x.inst ∧ (sesAt s.dev m).state = .closed) ↔ m = n)) →
      ∃ t, exec (.sessionOpen c) s = .next t ∧ SameMem s.dev t.dev ∧ Completes s.dev t.dev x { Ret.ok with r0 := n, r2 := 1 }
        ∧ sesAt t.dev n = { Session.closed x.inst with
            state := .opened, cls := eb x.e 42 1, seed := BitVec.ofNat 64 (eb x.e 16 8), ioVa := eb x.e 24 8, kvList := eb x.e 32 8, cplRing := eb x.e 40 2, binding := 0xFFFF }
        ∧ OtherSessions s.dev t.dev n
        ∧ OnlyCmd sessionRegs s t x { s.dev with fe := { s.dev.fe with sessions := t.dev.fe.sessions, cache := t.dev.fe.cache } }) ∧
    (∀ bd : Binding, Admits s.dev 0x11 c x → eb x.e 16 4 = n → ownsSession s.dev x.inst n = true → bindAt s.dev (eb x.e 20 2) = some bd → bd.inst = x.inst →
      y.moving = none → y.state = .opened →
      ∃ t, exec (.sessionBind c) s = .next t ∧ SameMem s.dev t.dev ∧ Completes s.dev t.dev x { Ret.ok with r0 := n, r1 := y.step, r2 := 2 }
        ∧ sesAt t.dev n = { y with state := .ready, binding := eb x.e 20 2 } ∧ OtherSessions s.dev t.dev n
        ∧ OnlyCmd sessionRegs s t x { s.dev with fe := { s.dev.fe with sessions := t.dev.fe.sessions, cache := t.dev.fe.cache } }) ∧
    (∀ (mk : Cmd → Instr) (op code : Nat) (next : SesState),
      (mk, op, code) ∈ [(Instr.sessionPark, 0, 0x13), (Instr.sessionResume, 3, 0x14), (Instr.sessionSuspend, 1, 0x15), (Instr.sessionClose, 2, 0x16)] →
      Admits s.dev code c x → eb x.e 16 4 = n → ownsSession s.dev x.inst n = true → y.moving = none →
      (y.state ≠ .running → sesNext op y.state = some next → (op = 0 → y.away = true) → (op = 3 → y.away = false) → y.steps = [] →
        ∃ t, exec (mk c) s = .next t ∧ (sesAt t.dev n).state = next
          ∧ SameMem (if op = 2 then { s.dev with dram := { s.dev.dram with
              poison := s.dev.dram.poison.filter (fun k => !(entrySectors s.dev n).contains k) } } else s.dev) t.dev
          ∧ (op ≠ 2 → sesAt t.dev n = { y with state := next }
            ∧ Completes s.dev t.dev x { Ret.ok with r0 := n, r1 := y.step, r2 := sesCode next })
          ∧ (op = 2 → sesAt t.dev n = Session.closed x.inst ∧ Completes s.dev t.dev x { Ret.ok with r0 := n })
          ∧ OtherSessions s.dev t.dev n
          ∧ OnlyCmd sessionRegs s t x { s.dev with fe := { s.dev.fe with sessions := t.dev.fe.sessions, cache := t.dev.fe.cache } }) ∧
      (y.state = .running → op ≠ 3 → y.defer = none →
        ∃ t, exec (mk c) s = .next t ∧ SameMem s.dev t.dev ∧ sesAt t.dev n = { y with defer := some (op, x.key) } ∧ Begins t.dev x
          ∧ OtherSessions s.dev t.dev n
          ∧ OnlyCmd sessionRegs s t x { s.dev with fe := { s.dev.fe with sessions := t.dev.fe.sessions, cache := t.dev.fe.cache } })) ∧
    (Admits s.dev 0x63 c x → eb x.e 16 4 = n → ownsSession s.dev x.inst n = true → y.state ≠ .closed → y.state ≠ .running → y.pending = 0 →
      ∃ t, exec (.sessionSeek c) s = .next t ∧ SameMem s.dev t.dev ∧ sesAt t.dev n = { y with step := eb x.e 24 8, seed := BitVec.ofNat 64 (eb x.e 32 8) }
        ∧ Completes s.dev t.dev x { Ret.ok with r0 := n, r1 := eb x.e 24 8, r2 := sesCode y.state } ∧ OtherSessions s.dev t.dev n
        ∧ OnlyCmd sessionRegs s t x { s.dev with fe := { s.dev.fe with sessions := t.dev.fe.sessions, cache := t.dev.fe.cache } }) ∧
    (∀ b : Binding, y.state ≠ .closed → y.state ≠ .opened → y.state ≠ .failed → bindAt s.dev y.binding = some b → y.pending < b.frames →
      jnlMode s.dev y.inst = 0 → jnlMode s.dev b.inst = 0 →
      (Admits s.dev 0x12 c x → eb x.e 16 4 = n → ownsSession s.dev x.inst n = true → eb x.e 24 8 = (y.step + y.pending) % 2 ^ 64 →
        ∃ t, exec (.sessionStep c) s = .next t ∧ SameMem s.dev t.dev ∧ Begins t.dev x ∧ (sesAt t.dev n).pending = y.pending + 1
          ∧ (sesAt t.dev n).arrivals = y.arrivals ++ [s.dev.time.hw]
          ∧ (sesAt t.dev n).steps = y.steps ++ [(eb x.e 24 8, x.key, eb x.e 8 8)] ∧ (sesAt t.dev n).step = y.step) ∧
      (∀ (inst ring pos : Nat) (e : StoreEntry) (r : Ring), storeAt s.dev (cmdKey inst ring pos) = some e → ringAt s.dev (ringKey inst ring) = some r →
        r.kind = 1 → e.phase = 0 → serving s.dev = true → s.dev.blocked = [] → jnlHeld s.dev inst = false →
        (∀ d ∈ s.dev.fe.store, d.inst = inst → d.ring = ring → pos ≤ d.pos) → eb e.entry 0 4 = n → eb e.entry 4 4 = 0 →
        ownsSession s.dev inst n = true → eb e.entry 8 8 = (y.step + y.pending) % 2 ^ 64 →
        ∃ t, exec (.sessionInput inst ring pos) s = .next t ∧ SameMem s.dev t.dev ∧ storeAt t.dev (cmdKey inst ring pos) = none
          ∧ (sesAt t.dev n).pending = y.pending + 1 ∧ (sesAt t.dev n).arrivals = y.arrivals ++ [s.dev.time.hw] ∧ (sesAt t.dev n).step = y.step))

/-- Bindings and classes. BIND_CREATE enters a binding at the lowest free number, within the instance's quota (R297, R299); BIND_DESTROY removes one that no
session beyond Open uses; SET_CLASS sets the limits and the target of a class, and its cadence to CAD_MIN (R312).
The model's choices that it rests on: log entry 42. -/
def Obligations.BindingsAndClasses : Prop :=
  ∀ (s : State) (c : Cmd) (x : Ctx),
    (∀ n : Nat, Admits s.dev 0x18 c x →
      shapeOk (eb x.e 40 4) (eb x.e 48 1) (eb x.e 44 2) (eb x.e 49 1) (1024 * eb x.e 46 2) = true → islandsOk s.dev x.inst (eb x.e 32 8) = true →
      1 ≤ eb x.e 50 1 → eb x.e 50 1 ≤ 16 → 1 ≤ eb x.e 52 2 → eb x.e 52 2 ≤ 512 → 1 ≤ eb x.e 54 2 → eb x.e 54 2 ≤ 512 →
      (∀ o ∈ [56, 60], 32 ≤ eb x.e o 4 ∧ eb x.e o 4 ≤ 1048576 ∧ eb x.e o 4 % 32 = 0) → eb x.e 52 2 ≤ eb x.e 54 2 * popcount 44 (eb x.e 32 8) →
      eb x.e 16 8 % 8 = 0 → eb x.e 24 8 % 64 = 0 → namesLost s.dev (eb x.e 32 8) = false → n < 4096 →
      (∀ m, m ≤ n → (bindAt s.dev m = none ↔ m = n)) → fget s.dev (RF.INS_QUOTA_BINDINGS_USED x.inst) < fget s.dev (RF.INS_QUOTA_MAX_BINDINGS x.inst) →
      ∃ t, exec (.bindCreate c) s = .next t ∧ SameMem s.dev t.dev ∧ Completes s.dev t.dev x { Ret.ok with r0 := n }
        ∧ bindAt t.dev n = some { inst := x.inst, prog := eb x.e 16 8, args := eb x.e 24 8, islands := eb x.e 32 8,
                                   shape := ⟨eb x.e 40 4, eb x.e 48 1, eb x.e 44 2, eb x.e 49 1, 1024 * eb x.e 46 2⟩, frames := eb x.e 50 1,
                                   maxBatch := eb x.e 52 2, perIsland := eb x.e 54 2, inBytes := eb x.e 56 4, outBytes := eb x.e 60 4 }
        ∧ (∀ m, m ≠ n → bindAt t.dev m = bindAt s.dev m)
        ∧ fget t.dev (RF.INS_QUOTA_BINDINGS_USED x.inst) = (t.dev.fe.bindings.filter (fun p => p.2.inst == x.inst)).length % 2 ^ 13
        ∧ OnlyCmd [Reg.INS_QUOTA x.inst] s t x { s.dev with fe := { s.dev.fe with bindings := t.dev.fe.bindings } }) ∧
    (∀ b : Binding, Admits s.dev 0x19 c x → bindAt s.dev (eb x.e 16 2) = some b → b.inst = x.inst →
      (∀ p ∈ s.dev.fe.sessions, p.2.binding = eb x.e 16 2 → p.2.state = .opened) →
      ∃ t, exec (.bindDestroy c) s = .next t ∧ SameMem s.dev t.dev ∧ Completes s.dev t.dev x Ret.ok ∧ bindAt t.dev (eb x.e 16 2) = none
        ∧ (∀ m, m ≠ eb x.e 16 2 → bindAt t.dev m = bindAt s.dev m)
        ∧ OnlyCmd [Reg.INS_QUOTA x.inst] s t x { s.dev with fe := { s.dev.fe with bindings := t.dev.fe.bindings } }) ∧
    (∀ k : Nat, Admits s.dev 0x22 c x → eb x.e 16 1 = k → k ≤ 7 → 500 ≤ eb x.e 20 4 → eb x.e 20 4 ≤ eb x.e 24 4 → eb x.e 24 4 ≤ 20000 →
      eb x.e 20 4 + 200 ≤ eb x.e 28 4 → eb x.e 28 4 ≤ 65535 →
      ∃ t, exec (.setClass c) s = .next t ∧ SameMem s.dev t.dev ∧ Completes s.dev t.dev x Ret.ok
        ∧ fget t.dev (RF.SES_CLASS_CFG_CAD_MIN_US k) = eb x.e 20 4 ∧ fget t.dev (RF.SES_CLASS_CFG_CAD_MAX_US k) = eb x.e 24 4
        ∧ fget t.dev (RF.SES_CLASS_CFG_TARGET_US k) = eb x.e 28 4 ∧ fget t.dev (RF.SES_CLASS_CFG_CADENCE_US k) = eb x.e 20 4
        ∧ OnlyCmd [Reg.SES_CLASS_CFG k] s t x s.dev)

/-! ### The machine as a whole, continued -/

/-- After reset no command waits, the module is settled, both tiers read 0 (R240), instance 0 is Active and no other exists (R396), and every deadline class
has the limits of R312.
The model's choices that it rests on: log entries 3, 8. -/
def Obligations.ResetSettled : Prop :=
  State.reset.pending = [] ∧ Settled State.reset.dev ∧ (∀ a, dramByte State.reset.dev.dram a = 0) ∧ insState State.reset.dev 0 = 1
    ∧ (∀ i, 1 ≤ i → i ≤ 32 → insState State.reset.dev i = 0)
    ∧ ∀ k, k < 8 → fget State.reset.dev (RF.SES_CLASS_CFG_CAD_MIN_US k) = 500 ∧ fget State.reset.dev (RF.SES_CLASS_CFG_CAD_MAX_US k) = 20000
        ∧ fget State.reset.dev (RF.SES_CLASS_CFG_TARGET_US k) = 10000 ∧ fget State.reset.dev (RF.SES_CLASS_CFG_CADENCE_US k) = 500

/-- With no command waiting a step is one tick of the always-on clock (the model's choice, entry 1 of the log): where the module serves nothing, or has nothing to go on
with, the powered domains count, each throttle reason that applies lengthens its duration (R449, R464), and nothing else changes. -/
def Obligations.IdleStep : Prop :=
  ∀ s : State, s.pending = [] →
    (serving s.dev = false ∨ s.dev.fab.waiting = [] ∧ s.dev.mesh.waiting = [] ∧ s.dev.fab.segs = [] ∧ s.dev.fab.inbox = [] ∧ s.dev.fab.comms = []
      ∧ s.dev.traces = [] ∧ s.dev.traceQ = [] ∧ ∀ i, i ≤ 32 → insState s.dev i ≠ 4) →
    ∃ t, step s = .next t ∧ SameMem s.dev t.dev
      ∧ t.dev.time.hw = s.dev.time.hw + b2n s.dev.start.primary ∧ t.dev.time.he = s.dev.time.he + b2n s.dev.start.secondary
      ∧ t.dev.time.mn = s.dev.time.mn + b2n (s.dev.start.primary || s.dev.start.secondary)
      ∧ t.dev.time.ms = s.dev.time.ms + b2n (s.dev.start.primary || s.dev.start.secondary)
      ∧ t.dev.time.base = s.dev.time.base + b2n (s.dev.start.primary || s.dev.start.secondary)
      ∧ (∀ r, 1 ≤ r → r ≤ 8 → regRead t.dev (Reg.PWR_THR_DUR r)
          = (regRead s.dev (Reg.PWR_THR_DUR r) + b2n (s.dev.start.primary && reasonOn s.dev r)) % 2 ^ 64)
      ∧ OnlyIn ((List.range 8).map (fun i => Reg.PWR_THR_DUR (i + 1))) s t { s.dev with time := t.dev.time }

/-- The major opcodes (R93): those of the rows that issue an instruction, one each, are assigned and no other, and an instruction that carries another is
rejected with E_RESERVED (0x0103) where a lane participates: its group ends and is charged with that code at the instruction's address. -/
def Obligations.ReservedOpcodes : Prop :=
  (∀ op, op < 128 → (opAssigned op = true ↔ op ≤ 0x13 ∨ 0x18 ≤ op ∧ op ≤ 0x25 ∨ op = 0x28 ∨ 0x30 ≤ op ∧ op ≤ 0x33 ∨ 0x38 ≤ op ∧ op ≤ 0x39
      ∨ 0x3C ≤ op ∧ op ≤ 0x3F ∨ 0x40 ≤ op ∧ op ≤ 0x41 ∨ 0x48 ≤ op ∧ op ≤ 0x50 ∨ 0x58 ≤ op ∧ op ≤ 0x5C ∨ 0x60 ≤ op ∧ op ≤ 0x62 ∨ 0x68 ≤ op ∧ op ≤ 0x6C)) ∧
  issueRows.map (·.2) = (List.range 128).filter opAssigned ∧
  ∀ (s : State) (i : Issue) (e : Env) (mk : Issue → Instr) (op : Nat),
    (mk, op) ∈ issueRows → envOf s.dev i = some e → i.fetch = 0 → opAssigned (wOp i.w) = false → e.part ≠ 0 →
    ∃ t, exec (mk i) s = .next t ∧ SameMem s.dev t.dev ∧ (groupIn t.dev e).done = true
      ∧ (⟨0x0103, e.path.pc, e.c.seq⟩ : Charge) ∈ (groupIn t.dev e).charges ∧ (groupIn t.dev e).gr = e.g.gr ∧ (groupIn t.dev e).pr = e.g.pr
      ∧ (groupIn t.dev e).ur = e.g.ur

/-- A precise fault writes nothing, and the group ends at the instruction (R84): an instruction whose fetch failed, one whose access a verdict or a departed target has ended
(R278), and one that reads an uncorrectable SRAM (R481). One that no lane takes part in does nothing and goes on, but for BAR, CONV and JOIN (R72, R91).
The model's choices that it rests on: log entry 18. -/
def Obligations.PreciseFaults : Prop :=
  ∀ (s : State) (i : Issue) (e : Env) (mk : Issue → Instr) (op : Nat),
    (mk, op) ∈ issueRows → envOf s.dev i = some e → (i.fetch = 0 → wOp i.w = op) →
    (∀ code : Nat,
      (i.fetch ≠ 0 ∧ code = i.fetch ∨ i.fetch = 0 ∧ pendingEnd e.g = some code
        ∨ i.fetch = 0 ∧ pendingEnd e.g = none ∧ e.part ≠ 0 ∧ i.sram = .uncorrectable ∧ code = eUncorr) →
      ∃ t, exec (mk i) s = .next t ∧ t.pending = s.pending ∧ SameMem s.dev t.dev ∧ SameCoresBut e.core s.dev t.dev
        ∧ (groupIn t.dev e).done = true ∧ (groupIn t.dev e).run = none ∧ (groupIn t.dev e).queue = [] ∧ (groupIn t.dev e).gr = e.g.gr
        ∧ (groupIn t.dev e).pr = e.g.pr ∧ (groupIn t.dev e).ur = e.g.ur ∧ (groupIn t.dev e).flags = e.g.flags
        ∧ (groupIn t.dev e).charges = e.g.charges ++ [⟨code, e.path.pc, e.c.seq⟩] ++ undelivered e.c.tokens e.gno ++ undelivered e.c.handles e.gno
        ∧ (coreOf t.dev e.core).ls = e.c.ls ∧ (coreOf t.dev e.core).l1 = e.c.l1 ∧ (coreOf t.dev e.core).wb = e.c.wb
        ∧ (coreOf t.dev e.core).acc = e.c.acc ∧ (coreOf t.dev e.core).sb = e.c.sb) ∧
    (op ∉ [0x3E, 0x4B, 0x4C, 0x4F] → i.fetch = 0 → pendingEnd e.g = none → e.part = 0 →
      ∃ t, exec (mk i) s = .next t ∧ OnlyGroup s t e ∧ movedOn e (groupIn t.dev e) ∧ SamePaths e.g (groupIn t.dev e)
        ∧ (groupIn t.dev e).gr = e.g.gr ∧ (groupIn t.dev e).pr = e.g.pr ∧ (groupIn t.dev e).ur = e.g.ur ∧ (groupIn t.dev e).flags = e.g.flags)

/-- A command that fails a check of steps 1 and 2 of R293, or that its ring's instance cannot run, is rejected: it completes with the code, the rejection is counted and
entered in the log, and it has no other effect. Of the rows whose commands share an opcode, or set other work going after they have run, nothing is said here.
The model's choices that it rests on: log entries 16, 32, 33. -/
def Obligations.CommandRejections : Prop :=
  ∀ (s : State) (c : Cmd) (x : Ctx) (sp : CmdSpec) (mk : Cmd → Instr) (op code : Nat),
    (mk, op) ∈ cmdRows.filter (fun r => !([0x43, 0x72, 0x76, 0x78, 0x91, 0x92, 0x93, 0x94, 0x98].contains r.2)) →
    ctxOf op c s.dev = some x → s.dev.blocked = [] → Served s.dev op x → fget s.dev RF.BRG_START_STATUS_RECOVERY = 0 → specOf op = some sp →
    code = (if headCode s.dev sp x ≠ 0 then headCode s.dev sp x else ringCode s.dev sp x) → code ≠ 0 →
    ∃ t, exec (mk c) s = .next t ∧ SameMem s.dev t.dev ∧ Completes s.dev t.dev x { Ret.ok with status := code }
      ∧ regRead t.dev Reg.SES_CNT_REJECTS = (regRead s.dev Reg.SES_CNT_REJECTS + 1) % 2 ^ 64
      ∧ OnlyCmd [Reg.SES_CNT_REJECTS, Reg.LOG_CNT_AUTH_FAILS] s t x s.dev

/-! ### Rings and watch lines -/

/-- Rings. RING_CREATE puts a ring into service whose pages translate and are no migratable leaves, with its mark on its watch line (R285, R288); RING_DESTROY takes one
out of service with its mark and its commands (R296). ENABLE of a boot block starts ring 0 where its checks pass, and sets ERROR where they do
not (R314).
The model's choices that it rests on: log entry 35. -/
def Obligations.RingsMadeAndDropped : Prop :=
  ∀ (s : State) (c : Cmd) (x : Ctx),
    (∀ (n w : Nat) (rp cp l : List Nat) (s1 s2 s3 s4 : Dev) (rn cn : Nat) (rg : Ring), Admits s.dev 0x20 c x →
      eb x.e 16 1 ≤ 1 → 6 ≤ eb x.e 17 1 → eb x.e 17 1 ≤ 16 → 6 ≤ eb x.e 18 1 → eb x.e 18 1 ≤ 16 → eb x.e 20 2 < vectorsOf x.inst →
      eb x.e 24 8 % 4096 = 0 → eb x.e 32 8 % 4096 = 0 → eb x.e 40 8 % 64 = 0 →
      rn = entryBytesOf (eb x.e 16 1) * 2 ^ eb x.e 17 1 → cn = 64 + 32 * 2 ^ eb x.e 18 1 →
      vaPages s.dev x.inst (eb x.e 24 8) rn 0 = (s1, .inr rp) → vaPages s1 x.inst (eb x.e 32 8) cn 1 = (s2, .inr cp) →
      vaPages s2 x.inst (eb x.e 32 8) 8 0 = (s3, .inr l) → feTranslate s3 x.inst (eb x.e 40 8) 0 = (s4, .inl w) → s4.blocked = [] →
      anyMig s4 x.inst (eb x.e 24 8) rn = false → anyMig s4 x.inst (eb x.e 32 8) cn = false → anyMig s4 x.inst (eb x.e 40 8) 8 = false →
      (inHost w = false ∨ coherentBinding s4 x.inst = true) → tget s4.fe.marks (w / 64) = none →
      fget s4 (RF.INS_QUOTA_RINGS_USED x.inst) < fget s4 (RF.INS_QUOTA_MAX_RINGS x.inst) → s4.fe.rings.length < 4096 → 1 ≤ n → n ≤ 4095 →
      (∀ m, 1 ≤ m → m ≤ n → (ringAt s4 (ringKey x.inst m) = none ↔ m = n)) → ringAt s4 (ringKey x.inst x.ring) = some rg → rg.dead = false →
      (storeAt s4 x.key).isSome → x.origin ≤ 2 →
      ∃ t, exec (.ringCreate c) s = .next t
        ∧ ringAt t.dev (ringKey x.inst n) = some (Ring.make (eb x.e 16 1) (eb x.e 17 1) (eb x.e 18 1) (eb x.e 20 2) (eb x.e 22 2) (eb x.e 24 8)
            (eb x.e 32 8) (eb x.e 40 8) rp cp w (fget s4 (RF.HST_BIND_STATUS_GENERATION x.inst)))
        ∧ tget t.dev.fe.marks (w / 64) = some (ringKey x.inst n)
        ∧ (ringAt t.dev (ringKey x.inst x.ring)).map (·.cplQ) = some (rg.cplQ ++ [cplOf x { Ret.ok with r0 := n }])) ∧
    (∀ r : Ring, Admits s.dev 0x21 c x → eb x.e 16 2 < 4096 → ringAt s.dev (ringKey x.inst (eb x.e 16 2)) = some r → eb x.e 16 2 ≠ x.ring →
      (r.dead = true ∨ r.cplQ = [] ∧ ∀ e ∈ s.dev.fe.store, ringKey e.inst e.ring ≠ ringKey x.inst (eb x.e 16 2)) →
      (∀ p ∈ s.dev.fe.sessions, p.2.inst = x.inst → p.2.cplRing = eb x.e 16 2 → p.2.state = .closed) → x.ring < 4096 → x.origin ≤ 2 →
      ∃ t, exec (.ringDestroy c) s = .next t ∧ SameMem s.dev t.dev ∧ Completes s.dev t.dev x Ret.ok
        ∧ ringAt t.dev (ringKey x.inst (eb x.e 16 2)) = none ∧ (∀ k v, tget t.dev.fe.marks k = some v → v ≠ ringKey x.inst (eb x.e 16 2))
        ∧ (∀ k, k ≠ ringKey x.inst (eb x.e 16 2) → k ≠ ringKey x.inst x.ring → ringAt t.dev k = ringAt s.dev k)
        ∧ OnlyIn ([Reg.INS_QUOTA x.inst, Reg.WCH_STATUS] ++ logRegs) s t
            { s.dev with fe := t.dev.fe, log := t.dev.log, flash := { s.dev.flash with romLog := t.dev.flash.romLog } }
        ∧ t.dev.fe.sessions = s.dev.fe.sessions ∧ t.dev.fe.bindings = s.dev.fe.bindings ∧ t.dev.fe.journals = s.dev.fe.journals) ∧
    (∀ (fn value : Nat) (ide : Bool) (s1 : Dev), fn ≤ 32 → value % 2 = 1 → s.dev.blocked = [] → (fn = 0 ∨ fget s.dev (RF.HST_BIND_STATUS_TDISP fn) = 0) →
      wfget s.dev fn RF.WCH_BOOT_CTL_READY = 0 → s1.blocked = [] →
      (∀ r : Ring, bootRing (winWrite s.dev fn Reg.WCH_BOOT_CTL (value % 2 ^ 27 &&& 0x7FFFF01)) fn = (s1, some r) →
        ∃ t, exec (.wchBootCtlEnable fn value ide) s = .next t ∧ wfget t.dev fn RF.WCH_BOOT_CTL_READY = 1
          ∧ ringAt t.dev (ringKey fn 0) = some r ∧ tget t.dev.fe.marks (r.watch / 64) = some (ringKey fn 0)) ∧
      (bootRing (winWrite s.dev fn Reg.WCH_BOOT_CTL (value % 2 ^ 27 &&& 0x7FFFF01)) fn = (s1, none) →
        ∃ t, exec (.wchBootCtlEnable fn value ide) s = .next t ∧ wfget t.dev fn RF.WCH_BOOT_CTL_ERROR = 1 ∧ t.dev.fe.rings = s1.fe.rings))

/-- Service. A wake makes its ring woken and the front end awake (R285); a turn of a ring with one entry below its producer index reads that entry into the command store and
counts it in the completion ring's header (R286, R289); a completion that is owed is written in the completion ring with the phase of its turn, and counted there
(R291); where a moderation interval ends, the message that waits is sent (R292).
The model's choices that it rests on: log entries 37, 105. -/
def Obligations.RingService : Prop :=
  ∀ (s : State) (inst ring : Nat) (r : Ring), ringAt s.dev (ringKey inst ring) = some r → ring < 4096 → inst ≤ 32 →
    (ringKey inst ring ∈ s.dev.fe.wakes →
      ∃ t, exec (.watchLineWake inst ring) s = .next t ∧ SameMem s.dev t.dev ∧ (∀ k, k ∈ t.dev.fe.woken ↔ k = ringKey inst ring ∨ k ∈ s.dev.fe.woken)
        ∧ t.dev.fe.wakes = s.dev.fe.wakes.erase (ringKey inst ring) ∧ ringAt t.dev (ringKey inst ring) = some { r with fresh := true }
        ∧ fget t.dev RF.WCH_STATUS_FE_AWAKE = 1 ∧ regRead t.dev Reg.WCH_CNT_WAKES = (regRead s.dev Reg.WCH_CNT_WAKES + 1) % 2 ^ 64
        ∧ OnlyIn [Reg.WCH_STATUS, Reg.WCH_CNT_WAKES] s t
            { s.dev with fe := { s.dev.fe with rings := t.dev.fe.rings, wakes := t.dev.fe.wakes, woken := t.dev.fe.woken } }) ∧
    (∀ (given : Nat) (es : List Entry512) (lw le lc : Line) (loc hd : Nat), serving s.dev = true → s.dev.blocked = [] →
      nextServed s.dev = some (ringKey inst ring) → r.kind = 0 → jnlMode s.dev inst = 0 → r.watch % 64 = 0 → HeldHome s.dev (r.watch / 64) lw → lw.poison = 0 →
      lw.data.toNat % 2 ^ 64 = r.read + 1 → loc = pageLoc r.pages (64 * (r.read % 2 ^ r.sizeLog2)) → loc % 64 = 0 → HeldHome s.dev (loc / 64) le →
      le.poison = 0 → hd = pageLoc r.cplPages 16 → hd % 64 = 16 → HeldHome s.dev (hd / 64) lc → (specOf (entryOp le.data)).isSome →
      ∃ (t : State) (l : Line), exec (.ringService inst ring given es) s = .next t ∧ SameMem s.dev t.dev
        ∧ t.dev.fe.store = s.dev.fe.store ++ [⟨inst, ring, r.read, le.data, 0, false⟩]
        ∧ ringAt t.dev (ringKey inst ring) = some { r with read := r.read + 1, lastP := r.read + 1, fresh := false }
        ∧ lineAt t.dev (hd / 64) = some l ∧ bitsOf l.data.toNat 128 64 = (r.read + 1) % 2 ^ 64
        ∧ regRead t.dev Reg.WCH_CNT_ENTRIES = (regRead s.dev Reg.WCH_CNT_ENTRIES + 1) % 2 ^ 64) ∧
    (∀ (given : Nat) (c : Cpl) (rest : List Cpl) (lh lc : Line) (base loc : Nat), serving s.dev = true → s.dev.blocked = [] → r.dead = false →
      r.cplQ = c :: rest → r.written < r.consumed + 2 ^ r.cplLog2 → base = r.cplPages.headD 0 → base % 4096 = 0 → r.written % 2 ^ r.cplLog2 < 126 →
      jnlMode s.dev inst = 0 → loc = base + 64 + 32 * (r.written % 2 ^ r.cplLog2) → HeldHome s.dev (base / 64) lh → HeldHome s.dev (loc / 64) lc →
      locLive s.dev inst r base = true →
      ∃ (t : State) (l h : Line), exec (.completionWrite inst ring given) s = .next t ∧ SameMem s.dev t.dev
        ∧ lineAt t.dev (loc / 64) = some l
        ∧ halfOf l.data (loc / 32 % 2) = BitVec.ofNat 256 (ofLe (cplBody c ++ [BitVec.ofNat 8 ((r.written / 2 ^ r.cplLog2 + 1) % 2 + 2 * b2n c.implicit)]))
        ∧ lineAt t.dev (base / 64) = some h ∧ bitsOf h.data.toNat 64 64 = (r.written + 1) % 2 ^ 64
        ∧ (ringAt t.dev (ringKey inst ring)).map (fun r => (r.cplQ, r.written)) = some (rest, r.written + 1)
        ∧ (∀ key, c.key = some key → storeAt t.dev key = none)) ∧
    (∀ v : MsixVec, r.irqDue = true → hasHost s.dev inst = true → tget s.dev.host.msix (64 * inst + r.vector) = some v → v.masked = false →
      ∃ t, exec (.irqModerationExpiry inst ring) s = .next t ∧ SameMem s.dev t.dev ∧ t.dev.out = s.dev.out ++ [.msix inst r.vector]
        ∧ ringAt t.dev (ringKey inst ring) = some { r with irqDue := false, lastIrq := some s.dev.time.hw }
        ∧ (∀ k, k ≠ ringKey inst ring → ringAt t.dev k = ringAt s.dev k)
        ∧ OnlyIn [] s t { s.dev with fe := { s.dev.fe with rings := t.dev.fe.rings }, out := t.dev.out })

/-! ### Translation -/

/-- Walks and fault batches. A walk that the island's buffer answers gives the engine the translation (R269), and one of an instance without a root opens a fault record
with cause 1 at level 4, on which its access waits (R267, R271, R277); the open batch of an instance closes (R273); a closed one is written to the fault ring where
it has room, and its records are written (R275).
The model's choices that it rests on: log entries 29, 59. -/
def Obligations.WalksAndFaultBatches : Prop :=
  ∀ s : State,
    (∀ (core engine tag va n : Nat) (d : Dispatch) (w : Walk), s.dev.blocked = [] → (coreOf s.dev core).disp = some n → tget s.dev.disp n = some d → d.inst ≤ 32 →
      canonical va = true → 1 ≤ engine → 64 ≤ tag → neededWalk (coreOf s.dev core) engine tag va = some w →
      (∀ p : Nat × Tlb, s.dev.xl.l2.find? (fun p => p.1 == core / 4 && p.2.serves d.inst va w.access) = some p →
        ∃ t, exec (.translationWalk core engine tag va) s = .next t ∧ SameMem s.dev t.dev ∧ SameCoresBut core s.dev t.dev
          ∧ (engine, p.2) ∈ (coreOf t.dev core).tlb
          ∧ (∀ g, tget (coreOf t.dev core).groups (tag - 64) = some g → ∀ v ∈ g.walks, v.va / 4096 = w.va / 4096 → v.engine ≠ w.engine)
          ∧ OnlyIn [] s t { s.dev with cores := t.dev.cores }) ∧
      (s.dev.xl.l2.find? (fun p => p.1 == core / 4 && p.2.serves d.inst va w.access) = none → fget s.dev (RF.TRN_ROOT_VALID d.inst) = 0 →
        (fltOf s.dev d.inst).ringSet = true → fget s.dev (RF.FLT_STATUS_OPEN_RECORDS d.inst) < 256 →
        (∀ p ∈ s.dev.xl.recs, p.2.inst = d.inst → p.2.page ≠ va / 4096) →
        (s.dev.xl.recs.filter (fun p => p.2.island == core / 4 && p.2.phase == 0)).length < 32 →
        ∃ (t : State) (r : FltRec), exec (.translationWalk core engine tag va) s = .next t ∧ SameMem s.dev t.dev ∧ SameCoresBut core s.dev t.dev
          ∧ tget t.dev.xl.recs s.dev.xl.nextRec = some r ∧ r.inst = d.inst ∧ r.island = core / 4 ∧ r.page = va / 4096 ∧ r.cause = 1 ∧ r.level = 4 ∧ r.phase = 0
          ∧ r.access = accessBit w.access ∧ r.batch = fget s.dev (RF.FLT_STATUS_NEXT_BATCH d.inst)
          ∧ (∀ g g', tget (coreOf s.dev core).groups (tag - 64) = some g → tget (coreOf t.dev core).groups (tag - 64) = some g' →
              g'.faults = g.faults ++ [⟨s.dev.xl.nextRec, w.key, none⟩] ∧ g'.run = g.run ∧ g'.gr = g.gr)
          ∧ fget t.dev (RF.FLT_STATUS_OPEN_RECORDS d.inst) = fget s.dev (RF.FLT_STATUS_OPEN_RECORDS d.inst) + 1)) ∧
    (∀ inst b : Nat, inst ≤ 32 → (fltOf s.dev inst).openTick ≠ none → b = fget s.dev (RF.FLT_STATUS_NEXT_BATCH inst) →
      ∃ t, exec (.faultBatchClose inst) s = .next t ∧ SameMem s.dev t.dev ∧ fget t.dev (RF.FLT_STATUS_NEXT_BATCH inst) = (b + 1) % 2 ^ 32
        ∧ fget t.dev (RF.FLT_STATUS_OPEN_RECORDS inst) = 0
        ∧ fget t.dev (RF.FLT_STATUS_UNRESUMED inst) = min 255 (fget s.dev (RF.FLT_STATUS_UNRESUMED inst) + 1)
        ∧ (∀ n r, tget s.dev.xl.recs n = some r →
            tget t.dev.xl.recs n = some (if r.inst = inst ∧ r.batch = b ∧ r.phase = 0 then { r with phase := 1 } else r))
        ∧ (fltOf t.dev inst).openTick = none ∧ OnlyIn [Reg.FLT_STATUS inst] s t { s.dev with xl := { s.dev.xl with recs := t.dev.xl.recs, insts := t.dev.xl.insts } }) ∧
    (∀ (inst b : Nat) (f : FltInst), inst ≤ 32 → s.dev.blocked = [] → closedBatch s.dev inst = some b → f = fltOf s.dev inst → f.ringSet = true →
      f.producer + 256 ≤ f.consumed + 2 ^ f.sizeLog2 → f.base + 64 + 32 * 2 ^ f.sizeLog2 ≤ 2 ^ 52 →
      ∃ t, exec (.faultBatchWrite inst false) s = .next t ∧ SameMem s.dev t.dev
        ∧ (let n := (s.dev.xl.recs.filter (fun p => p.2.inst == inst && p.2.batch == b)).length
           fltOf t.dev inst = { f with producer := f.producer + n, lastBatch := b, waitedFull := false }
             ∧ regRead t.dev (Reg.FLT_CNT_RECORDS inst) = (regRead s.dev (Reg.FLT_CNT_RECORDS inst) + n) % 2 ^ 64)
        ∧ (∀ n r, tget s.dev.xl.recs n = some r →
            tget t.dev.xl.recs n = some (if r.inst = inst ∧ r.batch = b then { r with phase := 2 } else r)))

/-- The commands of translation. SET_XLATE_ROOT sets the root (R264); SET_FAULT_RING sets the fault ring and its indices to 0 (R275); RESUME_BATCH of a batch of one record
retries the accesses that wait on it or fails them with the code of its cause, and forgets the record (R278); XLATE_INVALIDATE drops the range from every
buffer and begins its drain (R280), at whose end the command completes.
The model's choices that it rests on: log entries 30, 57. -/
def Obligations.TranslationCommands : Prop :=
  ∀ (s : State) (c : Cmd) (x : Ctx),
    (Admits s.dev 0x30 c x → eb x.e 24 8 < 2 ^ 42 → eb x.e 24 8 % 4096 = 0 → insState s.dev (eb x.e 16 1) ≠ 0 → insState s.dev (eb x.e 16 1) ≠ 4 →
      (∀ p ∈ s.dev.disp, p.2.inst ≠ eb x.e 16 1) → (∀ p ∈ s.dev.fe.bindings, p.2.inst ≠ eb x.e 16 1) →
      ∃ t, exec (.setXlateRoot c) s = .next t ∧ SameMem s.dev t.dev ∧ Completes s.dev t.dev x Ret.ok
        ∧ fget t.dev (RF.TRN_ROOT_VALID (eb x.e 16 1)) = 1 ∧ fget t.dev (RF.TRN_ROOT_ROOT (eb x.e 16 1)) * 4096 = eb x.e 24 8
        ∧ OnlyCmd [Reg.TRN_ROOT (eb x.e 16 1)] s t x s.dev) ∧
    (∀ i : Nat, Admits s.dev 0x32 c x → i = eb x.e 16 1 → 9 ≤ eb x.e 17 1 → eb x.e 17 1 ≤ 16 → eb x.e 18 2 ≤ 63 → eb x.e 24 8 % 4096 = 0 → eb x.e 24 8 < 2 ^ 52 →
      inBinding s.dev i (eb x.e 24 8) (64 + 32 * 2 ^ eb x.e 17 1) = true → insState s.dev i ≠ 0 → insState s.dev i ≠ 4 →
      (fltOf s.dev i).openTick = none → unresumed s.dev i = [] →
      ∃ t, exec (.setFaultRing c) s = .next t ∧ SameMem s.dev t.dev ∧ Completes s.dev t.dev x Ret.ok
        ∧ fltOf t.dev i = { fltOf s.dev i with base := eb x.e 24 8, sizeLog2 := eb x.e 17 1, vector := eb x.e 18 2, ringSet := true, producer := 0, consumed := 0 }
        ∧ fget t.dev (RF.FLT_RING_SIZE_LOG2 i) = eb x.e 17 1 ∧ fget t.dev (RF.FLT_RING_VECTOR i) = eb x.e 18 2
        ∧ fget t.dev (RF.FLT_RING_BASE i) * 4096 = eb x.e 24 8
        ∧ OnlyCmd [Reg.FLT_RING i] s t x { s.dev with xl := { s.dev.xl with insts := t.dev.xl.insts } }) ∧
    (∀ (i n : Nat) (r : FltRec), Admits s.dev 0x33 c x → i = eb x.e 16 1 → eb x.e 17 1 ≤ 1 → eb x.e 24 8 ≤ (fltOf s.dev i).producer →
      (fltOf s.dev i).consumed ≤ eb x.e 24 8 → insState s.dev i ≠ 0 → insState s.dev i ≠ 4 →
      s.dev.xl.recs.filter (fun p => p.2.inst == i && p.2.batch == eb x.e 20 4 && p.2.phase == 2) = [(n, r)] →
      ∃ t, exec (.resumeBatch c) s = .next t ∧ SameMem s.dev t.dev ∧ Completes s.dev t.dev x Ret.ok ∧ tget t.dev.xl.recs n = none
        ∧ (∀ m, m ≠ n → tget t.dev.xl.recs m = tget s.dev.xl.recs m) ∧ (fltOf t.dev i).consumed = eb x.e 24 8
        ∧ (∀ core gno g, tget (coreOf s.dev core).groups gno = some g → thas s.dev.cores core = true →
            ∃ g', tget (coreOf t.dev core).groups gno = some g' ∧ g'.run = g.run ∧ g'.gr = g.gr
              ∧ g'.faults = if eb x.e 17 1 = 0 then g.faults.filter (fun f => f.record != n)
                  else g.faults.map (fun f => if f.record = n ∧ f.verdict = none then { f with verdict := some (causeCode r.cause) } else f))
        ∧ OnlyCmd [Reg.FLT_STATUS i, Reg.TRN_STATUS i] s t x { s.dev with xl := t.dev.xl, cores := t.dev.cores }) ∧
    (∀ i : Nat, Admits s.dev 0x31 c x → i = eb x.e 16 1 → eb x.e 17 1 ≤ 1 → eb x.e 18 1 ≤ 1 →
      (eb x.e 17 1 = 0 → 0 < eb x.e 32 8 ∧ eb x.e 32 8 ≤ 2 ^ 45 ∧ eb x.e 24 8 % 4096 = 0) → insState s.dev i ≠ 0 → insState s.dev i ≠ 4 →
      ∃ (t : State) (v : Inval), exec (.xlateInvalidate c) s = .next t ∧ SameMem s.dev t.dev ∧ Begins t.dev x ∧ t.dev.xl.invals = s.dev.xl.invals ++ [v]
        ∧ v.inst = i ∧ v.all = (eb x.e 17 1 == 1) ∧ v.base = eb x.e 24 8 ∧ v.pages = eb x.e 32 8 ∧ v.pin = (eb x.e 18 1 == 1) ∧ v.cmd = some x.key
        ∧ (∀ j, ∀ p ∈ (coreOf t.dev j).tlb, p ∈ (coreOf s.dev j).tlb
            ∧ (p.2.inst = i → eb x.e 17 1 = 0 ∧ (eb x.e 24 8 + 4096 * eb x.e 32 8 ≤ p.2.va ∨ p.2.va + p.2.size ≤ eb x.e 24 8)))
        ∧ (∀ p ∈ t.dev.xl.l2, p ∈ s.dev.xl.l2
            ∧ (p.2.inst = i → eb x.e 17 1 = 0 ∧ (eb x.e 24 8 + 4096 * eb x.e 32 8 ≤ p.2.va ∨ p.2.va + p.2.size ≤ eb x.e 24 8)))
        ∧ OnlyCmd [Reg.TRN_STATUS i] s t x { s.dev with xl := { s.dev.xl with l2 := t.dev.xl.l2, invals := t.dev.xl.invals }, cores := t.dev.cores }) ∧
    (∀ (inst key : Nat) (v : Inval) (e : StoreEntry), inst ≤ 32 → s.dev.blocked = [] → s.dev.xl.invals.find? (fun v => v.inst == inst) = some v →
      drained s.dev v = true → v.cmd = some key → v.pin = false → storeAt s.dev key = some e → entryOp e.entry = 0x31 →
      ∃ t, exec (.invalidateDrainComplete inst) s = .next t ∧ SameMem s.dev t.dev ∧ t.dev.xl.invals = s.dev.xl.invals.erase v
        ∧ Completes s.dev t.dev (laterCtx e) Ret.ok
        ∧ regRead t.dev (Reg.TRN_CNT_INVALIDATES inst) = (regRead s.dev (Reg.TRN_CNT_INVALIDATES inst) + 1) % 2 ^ 64)

/-! ### Homing, pools, migration and replica pairs -/

/-- Homing and regulators. SET_HOME_SET sets a home set's islands and their number (R215); SET_HOME_MAP gives frames a home set, and their lines leave the
slices (R217); SET_MEM_REGULATOR leaves values that take effect at the next window (R251); frames join and leave a migration pool (R252); REPLICA_CLEAR ends
a pair (R484).
The model's choices that it rests on: log entries 48, 53. -/
def Obligations.HomingCommands : Prop :=
  ∀ (s : State) (c : Cmd) (x : Ctx),
    (∀ h m : Nat, Admits s.dev 0x40 c x → h = eb x.e 16 1 → m = eb x.e 24 8 → 1 ≤ h → h ≤ 63 → 0 < m → m < 2 ^ 44 →
      m < 2 ^ fget s.dev RF.BRG_PKG_LEVEL_ENABLED_COUNT → (∀ p ∈ s.dev.shore.homeMap, p.2 ≠ h) →
      ∃ t, exec (.setHomeSet c) s = .next t ∧ SameMem s.dev t.dev ∧ Completes s.dev t.dev x Ret.ok
        ∧ (∀ i, i ∈ setMembers t.dev h ↔ i < 44 ∧ m.testBit i = true) ∧ fget t.dev (RF.SHC_HOME_SET_COUNT h) = (setMembers t.dev h).length
        ∧ OnlyCmd [Reg.SHC_HOME_SET h] s t x s.dev) ∧
    (∀ h first n : Nat, Admits s.dev 0x41 c x → h = eb x.e 16 1 → first = eb x.e 20 4 → n = eb x.e 24 4 → h ≤ 63 → fget s.dev (RF.SHC_HOME_SET_ISLANDS h) ≠ 0 →
      framesMapped s.dev first n = true →
      (x.origin = 2 → (0 < h → fget s.dev (RF.SHC_HOME_SET_ISLANDS h) &&& fget s.dev (RF.INS_ISLANDS_ISLANDS x.inst) = fget s.dev (RF.SHC_HOME_SET_ISLANDS h))
        ∧ ∀ fr ∈ runOf first n, owns s.dev x.inst fr = true) →
      (∀ k ∈ tkeys s.dev.shore.dir, k / 2 ^ 15 ∉ runOf first n) →
      ∃ t, exec (.setHomeMap c) s = .next t ∧ SameMem s.dev t.dev ∧ Completes s.dev t.dev x Ret.ok
        ∧ (∀ fr, homeSetOf t.dev fr = if first ≤ fr ∧ fr < first + n then h else homeSetOf s.dev fr)
        ∧ (∀ k, lineAt t.dev k = if first ≤ k / 2 ^ 15 ∧ k / 2 ^ 15 < first + n then none else lineAt s.dev k)
        ∧ OnlyCmd (Reg.SHC_CNT_WRITEBACKS :: (List.range 44).map Reg.SHC_SLICE_STATUS) s t x
            { s.dev with shore := { s.dev.shore with lines := t.dev.shore.lines, homeMap := t.dev.shore.homeMap },
                         mem := { s.dev.mem with writes := t.dev.mem.writes } }) ∧
    (∀ tier rq m : Nat, Admits s.dev 0x42 c x → tier = eb x.e 16 1 → rq = eb x.e 17 1 → m = eb x.e 24 8 → tier ≤ 1 → rq ≤ 33 → 1 ≤ eb x.e 20 2 →
      eb x.e 20 2 ≤ 256 → (tier = 1 → m < 2 ^ 32) →
      ∃ t, exec (.setMemRegulator c) s = .next t ∧ SameMem s.dev t.dev ∧ Completes s.dev t.dev x Ret.ok
        ∧ (∀ g, g < 64 → m.testBit g = true → tget t.dev.mem.regul (34 * (64 * tier + g) + rq)
            = some { tgetD s.dev.mem.regul (34 * (64 * tier + g) + rq) (regulDefault rq) with next := some (eb x.e 18 1, eb x.e 20 2) })
        ∧ (∀ k, (∀ g, g < 64 → m.testBit g = true → k ≠ 34 * (64 * tier + g) + rq) → tget t.dev.mem.regul k = tget s.dev.mem.regul k)
        ∧ OnlyCmd [] s t x { s.dev with mem := { s.dev.mem with regul := t.dev.mem.regul } }) ∧
    (∀ i first n : Nat, Admits s.dev 0x43 c x → i = eb x.e 16 1 → first = eb x.e 20 4 → n = eb x.e 24 4 → poolPagesOk s.dev i (eb x.e 17 1) first n = true →
      insState s.dev i ≠ 0 → insState s.dev i ≠ 4 →
      (eb x.e 18 1 = 0 → (∀ k, k < n → first + k ∉ tgetD s.dev.mem.pools i []) →
        ∃ t, exec (.setMigPoolAdd c) s = .next t ∧ SameMem s.dev t.dev ∧ Completes s.dev t.dev x Ret.ok
          ∧ (∀ p, p ∈ tgetD t.dev.mem.pools i [] ↔ p ∈ tgetD s.dev.mem.pools i [] ∨ first ≤ p ∧ p < first + n)
          ∧ (∀ j, j ≠ i → tget t.dev.mem.pools j = tget s.dev.mem.pools j)
          ∧ OnlyCmd [] s t x { s.dev with mem := { s.dev.mem with pools := t.dev.mem.pools } }) ∧
      (eb x.e 18 1 = 1 → (∀ k, k < n → first + k ∈ tgetD s.dev.mem.pools i []) →
        ∃ t, exec (.setMigPoolRemove c) s = .next t ∧ SameMem s.dev t.dev ∧ Completes s.dev t.dev x Ret.ok
          ∧ (∀ p, p ∈ tgetD t.dev.mem.pools i [] ↔ p ∈ tgetD s.dev.mem.pools i [] ∧ ¬ (first ≤ p ∧ p < first + n))
          ∧ (∀ j, j ≠ i → tget t.dev.mem.pools j = tget s.dev.mem.pools j)
          ∧ OnlyCmd [] s t x { s.dev with mem := { s.dev.mem with pools := t.dev.mem.pools } })) ∧
    (∀ r : Replica, Admits s.dev 0xC1 c x → eb x.e 17 1 ≤ 63 → tget s.dev.ins.pairs (eb x.e 17 1) = some r → r.inst = eb x.e 16 1 →
      insState s.dev (eb x.e 16 1) ≠ 0 → insState s.dev (eb x.e 16 1) ≠ 4 →
      ∃ t, exec (.replicaClear c) s = .next t ∧ SameMem s.dev t.dev ∧ Completes s.dev t.dev x Ret.ok ∧ tget t.dev.ins.pairs (eb x.e 17 1) = none
        ∧ (∀ p, p ≠ eb x.e 17 1 → tget t.dev.ins.pairs p = tget s.dev.ins.pairs p)
        ∧ OnlyCmd [Reg.BRG_ERR_STATUS] s t x { s.dev with ins := { s.dev.ins with pairs := t.dev.ins.pairs } })

/-- Copies of frames and pages. REPLICA_SET of runs of clean, idle frames copies every byte of the primary run and enters the pair (R483, R484). The end of a migration
period halves every access counter, and a hot page of tier B begins to move to a free frame of its pool (R253, R254); a move whose drain has
ended rewrites its leaf to the new frame with MOVING clear, gives the old frame to the pool, and is counted (R254).
The model's choices that it rests on: log entries 47, 55. -/
def Obligations.CopiesAndMoves : Prop :=
  ∀ s : State, s.dev.blocked = [] →
    (∀ (c : Cmd) (x : Ctx) (i first n copy p : Nat), Admits s.dev 0xC0 c x → i = eb x.e 16 1 → first = eb x.e 20 4 → n = eb x.e 24 4 → copy = eb x.e 28 4 →
      Settled s.dev → channelsKnown s.dev → 1 ≤ n → first + n ≤ 2 ^ 18 → 2 ^ 18 ≤ copy → insState s.dev i ≠ 0 → insState s.dev i ≠ 4 →
      fget s.dev (RF.TRN_ROOT_VALID i) = 0 → s.dev.mem.writes = [] → (∀ d ∈ s.dev.mem.wcb, d.2 = []) →
      (∀ fr ∈ runOf first n ++ runOf copy n, ownerOf s.dev fr = i ∧ inPair s.dev fr = false ∧ inPool s.dev fr = false ∧ holdsRing s.dev fr = false
        ∧ inExport s.dev fr = false ∧ (∀ k ∈ tkeys s.dev.shore.dir ++ tkeys s.dev.shore.lines, k / 2 ^ 15 ≠ fr)
        ∧ ∀ k, k / 2 ^ 15 = fr → ∃ id, chanOf s.dev (64 * k) = some id ∧ isHole s.dev id = false) →
      p < 64 → (∀ m, m ≤ p → (tget s.dev.ins.pairs m = none ↔ m = p)) →
      ∃ t, exec (.replicaSet c) s = .next t ∧ Completes s.dev t.dev x { Ret.ok with r0 := p } ∧ tget t.dev.ins.pairs p = some ⟨i, first, n, copy⟩
        ∧ (∀ q, q ≠ p → tget t.dev.ins.pairs q = tget s.dev.ins.pairs q)
        ∧ (∀ a, a < n * 2 ^ 21 → dramByte t.dev.dram (copy * 2 ^ 21 + a) = dramByte s.dev.dram (first * 2 ^ 21 + a))
        ∧ (∀ a, a < copy * 2 ^ 21 ∨ (copy + n) * 2 ^ 21 ≤ a → dramByte t.dev.dram a = dramByte s.dev.dram a)) ∧
    (fget s.dev RF.MEM_MIG_POLICY_MIG_EN = 1 → serving s.dev = true →
      ((∀ i, i ≤ 32 → fget s.dev (RF.TRN_ROOT_VALID i) = 0) →
        ∃ t, exec .migrationPeriod s = .next t ∧ SameMem s.dev t.dev ∧ (∀ p, tgetD t.dev.mem.counters p 0 = tgetD s.dev.mem.counters p 0 / 2)
          ∧ OnlyIn [] s t { s.dev with mem := { s.dev.mem with cold := t.dev.mem.cold, counters := t.dev.mem.counters } }) ∧
      (∀ (s1 : Dev) (i va leaf e d : Nat) (l : Line), movable s.dev = (s1, [(i, va, leaf, e)]) → s1.blocked = [] → pageInA (eAddr e / 65536) = false →
        fget s1 RF.MEM_MIG_POLICY_HOT_THRESH ≤ counterOf s1 e → 1 ≤ fget s1 RF.MEM_MIG_POLICY_MAX_MOVES → poolFrame s1 i (eAddr e / 65536) true = some d →
        leaf % 8 = 0 → HeldHome s1 (leaf / 64) l →
        ∃ (t : State) (m : Move), exec .migrationPeriod s = .next t ∧ t.dev.mem.moves = s1.mem.moves ++ [m] ∧ m.inst = i ∧ m.va = va / 65536 * 65536
          ∧ m.src = eAddr e / 65536 ∧ m.dst = d ∧ m.leaf = leaf ∧ m.drained = false ∧ tgetD t.dev.mem.pools i [] = (tgetD s1.mem.pools i []).erase d)) ∧
    (∀ (inst va : Nat) (m : Move) (s1 : Dev) (l : Line),
      s.dev.mem.moves.find? (fun m => m.inst == inst && m.va == va / 65536 * 65536 && m.drained) = some m → m.session = none →
      s1 = copyPage s.dev m.src m.dst → s1.blocked = [] → m.leaf % 8 = 0 → HeldHome s1 (m.leaf / 64) l → l.poison = 0 → pageHasHole s1 m.dst = false →
      m.dst < 2 ^ 26 →
      ∃ (t : State) (l' : Line), exec (.pageMoveComplete inst va) s = .next t ∧ t.dev.mem.moves = s1.mem.moves.erase m
        ∧ tgetD t.dev.mem.pools inst [] = tgetD s1.mem.pools inst [] ++ [m.src] ∧ lineAt t.dev (m.leaf / 64) = some l'
        ∧ (let e' := bitsOf l'.data.toNat (8 * (m.leaf % 64)) 64
           eMoving e' = false ∧ eAddr e' = m.dst * 65536 ∧ bitsOf e' 0 9 = bitsOf (bitsOf l.data.toNat (8 * (m.leaf % 64)) 64) 0 9)
        ∧ regRead t.dev (if pageInA m.dst then Reg.MEM_CNT_MIGRATIONS_UP else Reg.MEM_CNT_MIGRATIONS_DOWN)
            = (regRead s1 (if pageInA m.dst then Reg.MEM_CNT_MIGRATIONS_UP else Reg.MEM_CNT_MIGRATIONS_DOWN) + 1) % 2 ^ 64)

/-! ### The shore cache and the directory -/

/-- Requests at their slices (R210, R223, R225). A read of a line that its home slice holds gives the core the half asked for, as a fill of its L1 or as data for the
group; atomics are performed there and the line is dirty (R106, R107, R200). A line that is absent begins its fill, and the request waits. The slice of an
island that is Off, with no line of the directory, enters bypass empty (R219, R454). A directory probe shows a line's entry in the layout of R220 (R233).
The model's choices that it rests on: log entries 49, 56. -/
def Obligations.SlicesAndProbe : Prop :=
  ∀ s : State,
    (∀ (n k h : Nat) (r : Req), tget s.dev.net n = some r → (coreOf s.dev r.core).wb.any (fun w => w.sec == r.sec) = false → k = r.sec / 2 → h = r.sec % 2 →
      (∀ l, HeldHome s.dev k l → halfCode l h = 0 →
        ∃ t, exec (.sliceAccess n .ok false) s = .next t ∧ SameMem s.dev t.dev ∧ tget t.dev.net n = none ∧ SameCoresBut r.core s.dev t.dev
          ∧ (r.kind = .fill → tget (coreOf s.dev r.core).l1 r.sec = none →
              ∃ x, tget (coreOf t.dev r.core).l1 r.sec = some x ∧ x.data = halfOf l.data h ∧ x.valid = BitVec.allOnes 32 ∧ x.dirty = 0
                ∧ x.stale = false ∧ x.poison = false)
          ∧ (r.kind = .read →
              coreOf t.dev r.core = { coreOf s.dev r.core with rbuf := (coreOf s.dev r.core).rbuf ++ [⟨r.tag, r.sec, halfOf l.data h, 0⟩] })
          ∧ ((r.kind = .fill ∨ r.kind = .read) → lineAt t.dev k = some l)
          ∧ (∀ ops, r.kind = .atomic ops →
              (∃ l', lineAt t.dev k = some l' ∧ halfOf l'.data h = (amoAll (halfOf l.data h) ops).1 ∧ halfOf l'.data (1 - h) = halfOf l.data (1 - h)
                ∧ l'.dirty = true)
              ∧ coreOf t.dev r.core = { coreOf s.dev r.core with
                  abuf := (coreOf s.dev r.core).abuf ++ (amoAll (halfOf l.data h) ops).2.map (fun v => ⟨r.tag - 64, v.1, v.2, 0⟩) })
          ∧ (∀ j, j ≠ k → lineAt t.dev j = lineAt s.dev j)
          ∧ OnlyIn [Reg.SHC_CNT_HITS, Reg.SHC_SLICE_STATUS (sliceOf s.dev k)] s t
              { s.dev with cores := t.dev.cores, net := tdel s.dev.net n, shore := { s.dev.shore with lines := t.dev.shore.lines },
                           mem := { s.dev.mem with writes := t.dev.mem.writes }, fe := { s.dev.fe with wakes := t.dev.fe.wakes } }) ∧
      (isLocal k = true → lineAt s.dev k = none → (chanOf s.dev (64 * k)).isSome → tget s.dev.shore.fills k = none → tget s.dev.shore.txn k = none →
        tget s.dev.shore.queue k = none →
        ∃ t, exec (.sliceAccess n .ok false) s = .next t ∧ SameMem s.dev t.dev ∧ tget t.dev.shore.fills k = some ⟨none, none⟩
          ∧ tget t.dev.shore.queue k = some [ownReq n] ∧ regRead t.dev Reg.SHC_CNT_MISSES = (regRead s.dev Reg.SHC_CNT_MISSES + 1) % 2 ^ 64
          ∧ (∀ j, j ≠ k → tget t.dev.shore.fills j = tget s.dev.shore.fills j ∧ tget t.dev.shore.queue j = tget s.dev.shore.queue j)
          ∧ OnlyIn [Reg.SHC_CNT_MISSES] s t
              { s.dev with shore := { s.dev.shore with fills := t.dev.shore.fills, queue := t.dev.shore.queue } })) ∧
    (∀ island : Nat, island < 44 → fget s.dev RF.BRG_PKG_LEVEL_ENABLED_COUNT ≤ 44 → serving s.dev = true →
      fget s.dev RF.PWR_IDLE_POLICY_SLICE_BYPASS_EN = 1 → fget s.dev (RF.PWR_ISLAND_STATE island) = 2 → fget s.dev (RF.SHC_SLICE_STATUS_STATE island) ≤ 1 →
      (∀ p ∈ s.dev.shore.lines, sliceOf s.dev p.1 = island →
        p.2.ext = false ∧ p.2.hold ≠ .pending ∧ tget s.dev.shore.txn p.1 = none ∧ tget s.dev.shore.fills p.1 = none) →
      ∃ t, exec (.sliceBypassEnter island) s = .next t ∧ SameMem s.dev t.dev ∧ fget t.dev (RF.SHC_SLICE_STATUS_STATE island) = 2
        ∧ (∀ k, lineAt t.dev k = if sliceOf s.dev k = island then none else lineAt s.dev k)
        ∧ OnlyIn ([Reg.SHC_SLICE_STATUS island, Reg.SHC_CNT_WRITEBACKS, Reg.HST_CNT_POISON_SENT] ++ (List.range 44).map Reg.PWR_ISLAND ++ txRegs) s t
            { s.dev with shore := { s.dev.shore with lines := t.dev.shore.lines }, mem := { s.dev.mem with writes := t.dev.mem.writes },
                         fab := fabSent t.dev s.dev.fab, out := t.dev.out }) ∧
    ∀ v : Nat, ∃ t, exec (.shcDirProbeAddr v) s = .next t ∧ SameMem s.dev t.dev
      ∧ (let k := v % 2 ^ 36
         let w := if (dirAt s.dev k).isSome then dirWord k (thas s.dev.shore.txn k) (dirAt s.dev k) else 0
         regRead t.dev Reg.SHC_DIR_PROBE_ADDR = k + 2 ^ 63 ∧ regRead t.dev Reg.SHC_DIR_PROBE_LO = w % 2 ^ 64
           ∧ regRead t.dev Reg.SHC_DIR_PROBE_HI = w / 2 ^ 64 % 2 ^ 64)
      ∧ OnlyIn [Reg.SHC_DIR_PROBE_ADDR, Reg.SHC_DIR_PROBE_LO, Reg.SHC_DIR_PROBE_HI] s t s.dev

/-- Coherence at the home (R222, R223, R226, R349). A member's READ, RX or OWN of a line that no other agent holds is granted and entered as X or D; a READ
of a line in S adds the reader; a line that another holds is forwarded, and one that others share is invalidated, before the grant. One that no export admits is
refused. A WB of the holder, and a drop notice, leave the line V, or S where a forwarder leaves others. An answer that was waited for ends the
transaction.
The model's choices that it rests on: log entry 50. -/
def Obligations.CoherenceAtHome : Prop :=
  ∀ (s : State) (m : FabMsg) (a k : Nat), Arrives s.dev m → memberOf s.dev m.src = some a → k = m.offset / 64 →
    (∀ (mk : FabMsg → Bool → Instr) (op : CohOp) (kind third : Nat) (data : Option LineData),
      (mk, op, kind) ∈ [(Instr.cohRead, CohOp.read, 0), (Instr.cohRx, CohOp.rx, 1), (Instr.cohOwn, CohOp.own, 2)] → m.body = .coh op third data →
      (∀ c, c ≠ 0 → (admitRange s.dev m.src m.offset 64 (if kind = 0 then 0 else 1)).2 = c →
        ∃ t, exec (mk m false) s = .next t ∧ lineAt t.dev k = lineAt s.dev k ∧ dirAt t.dev k = dirAt s.dev k
          ∧ Sends s.dev t.dev (mkMsg s.dev m.src m.tag (64 * k) false (.coh .refuse c none)) ∧ OnlyCoh [Reg.FAB_CNT_EXPORT_DENIED] s t k) ∧
      (∀ l, (admitRange s.dev m.src m.offset 64 (if kind = 0 then 0 else 1)).2 = 0 → lineAt s.dev k = some l → tget s.dev.shore.txn k = none →
        tget s.dev.shore.fills k = none → tget s.dev.shore.queue k = none →
        ((dirAt s.dev k = none ∧ (dirSet s.dev k).length < 16 ∨
            ∃ e, dirAt s.dev k = some e ∧ (kind = 0 ∧ e.state = .shared ∨ kind ≠ 0 ∧ ∀ b ∈ agentsOf e, b = a)) →
          ∃ (t : State) (x : DirEntry) (third : Nat), exec (mk m false) s = .next t ∧ dirAt t.dev k = some x ∧ lineAt t.dev k = some { l with ext := true }
            ∧ x.state = (if kind ≠ 0 then .dirty else if dirAt s.dev k = none then .sole else .shared)
            ∧ (∀ b, b ∈ agentsOf x ↔ b = a ∨ kind = 0 ∧ ∃ e, dirAt s.dev k = some e ∧ b ∈ agentsOf e)
            ∧ (x.state ≠ .shared → holderOf x = a)
            ∧ Sends s.dev t.dev
                (if kind = 2 ∧ (∃ e, dirAt s.dev k = some e ∧ a ∈ agentsOf e) then mkMsg s.dev m.src m.tag (64 * k) false (.coh .grant third none)
                 else mkMsg s.dev m.src m.tag (64 * k) (l.poison != 0) (.coh .grant third (some ⟨l.data, l.poison⟩)))
            ∧ OnlyCoh [] s t k) ∧
        (∀ e, dirAt s.dev k = some e → holderOf e ∈ agentsOf e → holderOf e ≠ a → holderOf e ≠ 64 →
          (e.state = .dirty ∨ kind = 0 ∧ e.state ≠ .shared) →
          ∃ (t : State) (y : Txn), exec (mk m false) s = .next t ∧ tget t.dev.shore.txn k = some y ∧ y.waiting = [holderOf e] ∧ y.req = some ⟨a, 0, kind, m.tag⟩
            ∧ dirAt t.dev k = some e ∧ lineAt t.dev k = some l
            ∧ Sends s.dev t.dev (mkMsg s.dev (fget s.dev (RF.SHC_EPOCH_DEVICE (holderOf e))) e.tag (64 * k) false
                (.coh (if kind = 0 then .forwardRead else .forwardRx) a none))
            ∧ OnlyCoh [Reg.SHC_CNT_FORWARDS] s t k) ∧
        (∀ e, dirAt s.dev k = some e → e.state = .shared → kind ≠ 0 → (∃ b ∈ agentsOf e, b ≠ a) →
          ∃ (t : State) (y : Txn), exec (mk m false) s = .next t ∧ tget t.dev.shore.txn k = some y ∧ y.waiting = (agentsOf e).filter (· != a)
            ∧ dirAt t.dev k = some e ∧ lineAt t.dev k = some l
            ∧ regRead t.dev Reg.SHC_CNT_BACK_INVALIDATES = (regRead s.dev Reg.SHC_CNT_BACK_INVALIDATES + y.waiting.length) % 2 ^ 64
            ∧ OnlyCoh [Reg.SHC_CNT_BACK_INVALIDATES, Reg.HST_CNT_BI_SENT] s t k))) ∧
    (s.dev.shore.fills = [] → s.dev.shore.queue = [] →
      (∀ (third : Nat) (e : DirEntry) (l : Line), tget s.dev.shore.txn k = none → dirAt s.dev k = some e → holderOf e = a → lineAt s.dev k = some l →
        (∀ d, m.body = .coh .wb third (some d) → e.state = .dirty →
          ∃ t, exec (.cohWb m) s = .next t ∧ dirAt t.dev k = none
            ∧ lineAt t.dev k = some { l with data := d.data, poison := d.poison, uncorr := 0, dirty := true, ext := false }
            ∧ OnlyCoh [Reg.SHC_SLICE_STATUS (sliceOf s.dev k)] s t k) ∧
        (∀ data, m.body = .coh .drop third data → e.state = .sole ∨ e.state = .forwarder →
          ∃ t, exec (.cohDropNotice m) s = .next t
            ∧ (e.state = .sole ∨ (∀ b ∈ agentsOf e, b = a) → dirAt t.dev k = none ∧ lineAt t.dev k = some { l with ext := false })
            ∧ (e.state = .forwarder → (∃ b ∈ agentsOf e, b ≠ a) → ∃ x, dirAt t.dev k = some x ∧ x.state = .shared
                ∧ (∀ b, b ∈ agentsOf x ↔ b ∈ agentsOf e ∧ b ≠ a) ∧ lineAt t.dev k = some { l with ext := true })
            ∧ OnlyCoh [] s t k)) ∧
      (∀ (op : CohOp) (third : Nat) (y : Txn), op = .ack ∨ op = .noCopy → m.body = .coh op third none → tget s.dev.shore.txn k = some y → a ∈ y.waiting →
        ∃ t, exec (.cohResponse m) s = .next t
          ∧ ((∃ b ∈ y.waiting, b ≠ a) → tget t.dev.shore.txn k = some { y with waiting := y.waiting.filter (· != a) } ∧ dirAt t.dev k = dirAt s.dev k)
          ∧ ((∀ b ∈ y.waiting, b = a) → y.req = none → tget t.dev.shore.txn k = none ∧ (y.next = none → dirAt t.dev k = none))
          ∧ ((∃ b ∈ y.waiting, b ≠ a) ∨ y.req = none → OnlyCoh [] s t k)))

/-- Coherence at an outside agent (R185, R222, R223, R227, R383). A forward makes this device supply the line to the agent named and report it to the home; a recall gives
back what a holder has written; an invalidation is acknowledged, copy or none. A grant for reading leaves the line as granted; one for writing keeps the bytes
written while it was awaited, and takes the others. The host's GO does the same.
The model's choices that it rests on: log entry 50. -/
def Obligations.CoherenceAtAgent : Prop :=
  ∀ s : State,
    (∀ (m : FabMsg) (a k : Nat), Arrives s.dev m → memberOf s.dev m.src = some a → k = peerKey m.src m.offset → placeOf s.dev k = .member a →
      tget s.dev.shore.wants k = none →
      (∀ (op : CohOp) (third : Nat) (data : Option LineData) (l : Line), op = .forwardRead ∨ op = .forwardRx → m.body = .coh op third data →
        lineAt s.dev k = some l → l.hold ≠ .pending →
        ∃ (t : State) (u : Dev), exec (.cohForward m) s = .next t
          ∧ (let d : LineData := ⟨l.data, l.poison⟩
             let back := if l.hold = .d ∧ op = .forwardRead then some d else none
             Sends s.dev u (mkMsg s.dev (fget s.dev (RF.SHC_EPOCH_DEVICE third)) m.tag (64 * peerLine k) (l.poison != 0)
                 (.coh .supply ((64 * k - globalBase) / 2 ^ 42) (some d)))
               ∧ Sends u t.dev (mkMsg s.dev m.src m.tag (64 * peerLine k) (back.any (fun d => d.poison != 0)) (.coh .done 0 back)))
          ∧ lineAt t.dev k = (if op = .forwardRead then some { l with hold := .s } else none) ∧ OnlyCoh [] s t k) ∧
      (∀ (op : CohOp) (third : Nat) (data : Option LineData), op = .recallLine ∨ op = .recallInv ∨ op = .inval → m.body = .coh op third data →
        (∀ l, lineAt s.dev k = some l → l.hold ≠ .pending →
          ∃ t, exec (.cohRecall m) s = .next t
            ∧ Sends s.dev t.dev
                (if l.hold = .d ∧ op ≠ .inval then
                   mkMsg s.dev m.src m.tag (64 * peerLine k) (l.poison != 0) (.coh .data 0 (some ⟨l.data, l.poison⟩))
                 else mkMsg s.dev m.src m.tag (64 * peerLine k) false (.coh .ack 0 none))
            ∧ lineAt t.dev k = (if op = .recallLine then some { l with hold := .s } else none) ∧ OnlyCoh [] s t k) ∧
        (lineAt s.dev k = none →
          ∃ t, exec (.cohRecall m) s = .next t
            ∧ Sends s.dev t.dev (mkMsg s.dev m.src m.tag (64 * peerLine k) false (.coh (if op = .inval then .ack else .noCopy) 0 none))
            ∧ lineAt t.dev k = none ∧ OnlyCoh [] s t k))) ∧
    (∀ (c : Instr) (k w : Nat) (read : Hold) (own : Hold) (d : LineData),
      ((∃ (m : FabMsg) (op : CohOp) (third : Nat), Arrives s.dev m ∧ (memberOf s.dev m.src).isSome ∧ c = .cohGrant m ∧ m.body = .coh op third (some d) ∧
          (op = .grant ∧ k = peerKey m.src m.offset ∧ read = (if third = 4 then .f else if third = 3 then .x else .s) ∨
            op = .supply ∧ k = peerKey third m.offset ∧ read = .f) ∧ own = .d) ∨
        (∃ line sole, serving s.dev = true ∧ fget s.dev RF.HST_STATUS_HOST_VALID = 1 ∧ c = .hostGo line sole d ∧ k = hostLine line ∧
          read = (if sole then .x else .s) ∧ own = .x)) →
      tget s.dev.shore.wants k = some w → tget s.dev.shore.queue k = none → (∀ f ∈ s.dev.shore.heldFwd, f.line ≠ k) →
      ((∀ l, lineAt s.dev k = some l → l.hold ≠ .pending) →
        ∃ (t : State) (y : Line), exec c s = .next t ∧ lineAt t.dev k = some y ∧ y.data = d.data ∧ y.poison = d.poison
          ∧ y.hold = (if w % 4 = 0 then read else own) ∧ tget t.dev.shore.wants k = none ∧ OnlyCoh [] s t k) ∧
      (∀ l, lineAt s.dev k = some l → l.hold = .pending → w % 4 ≠ 0 →
        ∃ (t : State) (y : Line), exec c s = .next t ∧ lineAt t.dev k = some y ∧ y.hold = .d
          ∧ (∀ j, j < 64 → byteAt y.data.toNat j = if l.pmask.getLsbD j then byteAt l.data.toNat j else byteAt d.data.toNat j)
          ∧ tget t.dev.shore.wants k = none ∧ OnlyCoh [] s t k))

/-! ### Journals and replay -/

/-- Journals (R321, R325). JOURNAL_START gives the instance its next journal number, records from then on, and forms a START record; JOURNAL_STOP forms
an END record, and recording is over once it is written, or waits for room; when room returns, the record that waits is written and the instance is not held
any more.
The model's choices that it rests on: log entry 60. -/
def Obligations.Journals : Prop :=
  ∀ (s : State) (c : Cmd) (x : Ctx) (i : Nat), i ≤ 32 →
    (∀ (s1 s2 s3 s4 : Dev) (n base dig len : Nat), Admits s.dev 0x60 c x → i = eb x.e 16 1 → base = eb x.e 24 8 → dig = eb x.e 32 8 → len = eb x.e 40 4 →
      journalSizeOk (eb x.e 17 1) = true → len % 32 = 0 → len ≤ 16777216 → (bitOf (eb x.e 18 1) 1 = true → len ≠ 0) → base % 4096 = 0 → dig % 32 = 0 →
      vaCheck s.dev i base 64 1 = (s1, 0) → (if bitOf (eb x.e 18 1) 1 then vaCheck s1 i dig len 0 else (s1, 0)) = (s2, 0) →
      insState s2 i ≠ 0 → insState s2 i ≠ 4 → jnlMode s2 i = 0 → hasDispatch s2 i = false → n = (fget s2 (RF.SES_JNL_STATUS_JOURNAL i) + 1) % 2 ^ 32 →
      s3 = modJnl (fset (fset (fset (fset s2 (RF.SES_JNL_STATUS_JOURNAL i) n) (RF.SES_JNL_STATUS_MODE i) 1) (RF.SES_JNL_STATUS_HELD i) 0)
          (RF.SES_JNL_STATUS_GAPPED i) 0) i (fun _ => { Journal.none with
            base := base, sizeLog2 := eb x.e 17 1, drop := bitOf (eb x.e 18 1) 0, digLaunch := bitOf (eb x.e 18 1) 1, digVa := dig, digLen := len }) →
      s4 = jnlRecord s3 i 1 0 0xFFFF 0 0xFFFFFFFF n (leBytes 8 s2.time.hw ++ leBytes 8 (regRead s2 Reg.LOG_EPOCH) ++ List.replicate 16 0) →
      s4.blocked = [] → s4.fe.store = s.dev.fe.store → s4.fe.rings = s.dev.fe.rings →
      ∃ t, exec (.journalStart c) s = .next t ∧ Completes s4 t.dev x { Ret.ok with r0 := n } ∧ fget t.dev (RF.SES_JNL_STATUS_MODE i) = 1
        ∧ fget t.dev (RF.SES_JNL_STATUS_JOURNAL i) = n ∧ fget t.dev (RF.SES_JNL_STATUS_GAPPED i) = 0 ∧ (jnlOf t.dev i).base = base
        ∧ (jnlOf t.dev i).sizeLog2 = eb x.e 17 1 ∧ (jnlOf t.dev i).drop = bitOf (eb x.e 18 1) 0 ∧ (jnlOf t.dev i).lost ≤ 1
        ∧ SameMem s4 t.dev ∧ OnlyCmd [] { s with dev := s4 } t x s4) ∧
    (∀ (j : Journal) (r : JRec), Admits s.dev 0x61 c x → i = eb x.e 16 1 → insState s.dev i ≠ 0 → insState s.dev i ≠ 4 → jnlMode s.dev i = 1 →
      j = jnlOf s.dev i → j.stopping = none →
      r = ⟨11, 0, 0xFFFF, j.seq, 0, 0xFFFFFFFF, fget s.dev (RF.SES_JNL_STATUS_JOURNAL i), []⟩ →
      (∀ s1, j.queue = [] → j.lost = 0 → jnlWrite s.dev i r = (s1, true) → s1.blocked = [] → s1.fe.store = s.dev.fe.store → s1.fe.rings = s.dev.fe.rings →
        ∃ t, exec (.journalStop c) s = .next t ∧ Completes s1 t.dev x Ret.ok ∧ fget t.dev (RF.SES_JNL_STATUS_MODE i) = 0
          ∧ fget t.dev (RF.SES_JNL_STATUS_HELD i) = 0 ∧ SameMem s1 t.dev
          ∧ OnlyCmd [Reg.SES_JNL_STATUS i] { s with dev := s1 } t x { s1 with fe := { s1.fe with journals := t.dev.fe.journals } }) ∧
      (j.queue ≠ [] ∨ j.lost ≠ 0 →
        ∃ t, exec (.journalStop c) s = .next t ∧ Begins t.dev x ∧ jnlOf t.dev i = { j with queue := j.queue ++ [r], stopping := some x.key }
          ∧ SameMem s.dev t.dev ∧ OnlyCmd [] s t x { s.dev with fe := { s.dev.fe with journals := t.dev.fe.journals } })) ∧
    (∀ (r : JRec) (s1 : Dev), jnlMode s.dev i = 1 → (jnlOf s.dev i).queue = [r] → (jnlOf s.dev i).lost = 0 → (jnlOf s.dev i).stopping = none →
      jnlWrite s.dev i r = (s1, true) → s1.blocked = [] →
      ∃ t, exec (.journalRoomReturn i) s = .next t ∧ (jnlOf t.dev i).queue = [] ∧ (jnlOf t.dev i).produced = (jnlOf s1 i).produced
        ∧ fget t.dev (RF.SES_JNL_STATUS_HELD i) = 0 ∧ SameMem s1 t.dev
        ∧ OnlyIn [Reg.SES_JNL_STATUS i] { s with dev := s1 } t { s1 with fe := { s1.fe with journals := t.dev.fe.journals } })

/-- Replay (R327, R328). REPLAY_START of an idle instance makes it replay, and stays open. A record of the feed that can be taken now has its effect, is
counted, and is consumed; END ends the replay once nothing of it is under way.
The model's choices that it rests on: log entry 61. -/
def Obligations.Replay : Prop :=
  ∀ (s : State) (c : Cmd) (x : Ctx) (i : Nat), i ≤ 32 →
    (∀ (s1 s2 s3 : Dev) (b : List Byte) (feed watch : Nat), Admits s.dev 0x62 c x → i = eb x.e 16 1 → feed = eb x.e 24 8 → watch = eb x.e 32 8 →
      journalSizeOk (eb x.e 17 1) = true → feed % 4096 = 0 → watch % 64 = 0 → vaCheck s.dev i feed 64 1 = (s1, 0) →
      vaGiven s1 i (feed + 64) 32 x.payload = (s2, b, 0) → vaCheck s2 i watch 8 0 = (s3, 0) → b.getD 0 0 = 1 → s3.blocked = [] →
      s3.fe = s.dev.fe → insState s3 i ≠ 0 → insState s3 i ≠ 4 → jnlMode s3 i = 0 → hasDispatch s3 i = false →
      (∀ p ∈ s3.fe.sessions, p.2.inst = i → p.2.state ≠ .running) →
      ∃ t, exec (.replayStart c) s = .next t ∧ Begins t.dev x ∧ fget t.dev (RF.SES_JNL_STATUS_MODE i) = 2
        ∧ jnlOf t.dev i = { Journal.none with feed := feed, sizeLog2 := eb x.e 17 1, watch := watch, cmd := x.key, stopFirst := bitOf (eb x.e 18 1) 0 }
        ∧ SameMem s3 t.dev ∧ OnlyCmd [Reg.SES_JNL_STATUS i] { s with dev := s3 } t x { s3 with fe := { s3.fe with journals := t.dev.fe.journals } }) ∧
    (∀ (produced len pos : Nat) (given w h p : List Byte) (s1 s2 s3 s4 s5 : Dev), jnlMode s.dev i = 2 → serving s.dev = true →
      vaGiven s.dev i (jnlOf s.dev i).watch 8 (leBytes 8 produced) = (s1, w, 0) → (jnlOf s.dev i).consumed < ofLe w → replayReady s1 i = false →
      pos = (jnlOf s.dev i).feed + 64 + (jnlOf s.dev i).consumed % 2 ^ (jnlOf s.dev i).sizeLog2 → vaGiven s1 i pos 32 given = (s2, h, 0) →
      len = ofLe ((h.drop 4).take 4) → vaGiven s2 i (pos + 32) len (given.drop 32) = (s3, p, 0) → replayRecord s3 i h p = some s4 →
      s5 = (vaWrite (modJnl (bump s4 (Reg.SES_JNL_CNT_RECORDS i)) i (fun j => { j with consumed := j.consumed + 32 + len })) i
        ((jnlOf s.dev i).feed + 8) (leBytes 8 ((jnlOf s.dev i).consumed + 32 + len))).1 → s5.blocked = [] →
      ∃ t, exec (.replayFeedRecord i produced given) s = .next t ∧ (jnlOf t.dev i).consumed = (jnlOf s4 i).consumed + 32 + len
        ∧ regRead t.dev (Reg.SES_JNL_CNT_RECORDS i) = (regRead s4 (Reg.SES_JNL_CNT_RECORDS i) + 1) % 2 ^ 64
        ∧ ((h.getD 0 0).toNat = 11 → fget t.dev (RF.SES_JNL_STATUS_MODE i) = 0)
        ∧ SameMem s5 t.dev ∧ OnlyIn [] { s with dev := s5 } t s5)

/-! ### The fabric -/

/-- The fabric commands (R342, R348, R350 to R352, R355, R357, R360, R361, R368). The device takes its number; routes are set; the device takes its
archipelago and index, and asks for the admission of another, which departs; exports and groups are made, and unmade; a multicast and a collective begin;
communicators come and go.
The model's choices that it rests on: log entries 62, 65. -/
def Obligations.FabricCommands : Prop :=
  ∀ (s : State) (c : Cmd) (x : Ctx),
    (Admits s.dev 0x70 c x → eb x.e 16 2 ≤ 32767 → (∀ p, p < 16 → fget s.dev (RF.FAB_PORT_STATUS_STATE p) = 0) →
      ∃ t, exec (.fabSetDevice c) s = .next t ∧ SameMem s.dev t.dev ∧ Completes s.dev t.dev x Ret.ok ∧ fget t.dev RF.FAB_STATUS_DEVICE = eb x.e 16 2
        ∧ fget t.dev RF.FAB_STATUS_DEVICE_VALID = 1 ∧ fget t.dev RF.FAB_STATUS_PORTS_UP = fget s.dev RF.FAB_STATUS_PORTS_UP
        ∧ fget t.dev RF.FAB_STATUS_ARCH_ID = fget s.dev RF.FAB_STATUS_ARCH_ID ∧ fget t.dev RF.FAB_STATUS_ARCH_VALID = fget s.dev RF.FAB_STATUS_ARCH_VALID
        ∧ OnlyCmd [Reg.FAB_STATUS] s t x s.dev) ∧
    (∀ (first n : Nat) (s1 : Dev) (b : List Byte), Admits s.dev 0x71 c x → first = eb x.e 16 2 → n = eb x.e 18 2 → 0 < n → first + n ≤ 32768 →
      cmdBuffer s.dev x (eb x.e 24 8) (2 * n) = (s1, b, 0) → s1.blocked = [] → s1.fe = s.dev.fe → s1.fab = s.dev.fab → s.dev.fab.waiting = [] →
      ∃ t, exec (.fabRouteSet c) s = .next t ∧ SameMem s1 t.dev ∧ Completes s1 t.dev x Ret.ok
        ∧ (∀ d, tgetD t.dev.fab.routes d 0
            = if first ≤ d ∧ d < first + n then ofLe ((b.drop (2 * (d - first))).take 2) else tgetD s.dev.fab.routes d 0)
        ∧ OnlyCmd [] { s with dev := s1 } t x { s1 with fab := { s1.fab with routes := t.dev.fab.routes } }) ∧
    (∀ arch idx dev : Nat, Admits s.dev 0x72 c x → arch = eb x.e 16 2 → idx = eb x.e 18 1 → dev = eb x.e 20 2 → idx ≤ 63 → dev ≤ 32767 →
      (eb x.e 19 1 = 0 → tget s.dev.fab.members idx = none → s.dev.fab.notes = [] →
        (ownDevice s.dev dev = true → fget s.dev RF.FAB_STATUS_ARCH_VALID = 0 →
          ∃ t, exec (.fabArchAdmit c) s = .next t ∧ SameMem s.dev t.dev ∧ Completes s.dev t.dev x Ret.ok ∧ fget t.dev RF.FAB_STATUS_ARCH_ID = arch
            ∧ fget t.dev RF.FAB_STATUS_ARCH_VALID = 1 ∧ fget t.dev RF.FAB_STATUS_MY_MEMBER = idx
            ∧ fget t.dev RF.FAB_STATUS_DEVICE = fget s.dev RF.FAB_STATUS_DEVICE ∧ OnlyCmd [Reg.FAB_STATUS] s t x s.dev) ∧
        (ownDevice s.dev dev = false → fget s.dev RF.FAB_STATUS_ARCH_VALID = 1 → fget s.dev RF.FAB_STATUS_ARCH_ID = arch →
          fget s.dev RF.FAB_STATUS_MY_MEMBER ≠ idx → memberOf s.dev dev = none → (∀ p ∈ s.dev.fab.members, p.2.device ≠ dev) →
          ∃ t, exec (.fabArchAdmit c) s = .next t ∧ SameMem s.dev t.dev ∧ Begins t.dev x
            ∧ tget t.dev.fab.members idx = some ⟨dev, some x.key, s.dev.time.hw⟩
            ∧ (∀ j, j ≠ idx → tget t.dev.fab.members j = tget s.dev.fab.members j)
            ∧ Sends s.dev t.dev (mkMsg s.dev dev 0 0 false
                (.admission ⟨arch, fget s.dev RF.FAB_STATUS_MY_MEMBER, idx, tgetD s.dev.fab.epochs dev 0, Config.chain 0, ownMeasured s.dev⟩))
            ∧ OnlyCmd txRegs s t x { s.dev with fab := fabSent t.dev s.dev.fab })) ∧
      (∀ s1, eb x.e 19 1 = 1 → fget s.dev (RF.SHC_EPOCH_VALID idx) = 1 → fget s.dev (RF.SHC_EPOCH_DEVICE idx) = dev →
        fget s.dev RF.FAB_STATUS_ARCH_ID = arch → s1 = departMember (returnPeerLines s.dev dev) idx → s1.blocked = [] →
        s1.fe.store = s.dev.fe.store → s1.fe.rings = s.dev.fe.rings →
        ∃ t, exec (.fabArchDepart c) s = .next t ∧ Completes s1 t.dev x Ret.ok ∧ fget t.dev (RF.SHC_EPOCH_VALID idx) = 0
          ∧ tget t.dev.fab.members idx = none
          ∧ regRead t.dev Reg.FAB_CNT_DEPARTS = (regRead s.dev Reg.FAB_CNT_DEPARTS + 1) % 2 ^ 64
          ∧ SameMem s1 t.dev ∧ OnlyCmd [] { s with dev := s1 } t x s1)) ∧
    (∀ h i first n : Nat, Admits s.dev 0x73 c x → i = eb x.e 16 1 → first = eb x.e 24 4 → n = eb x.e 28 4 → eb x.e 18 1 ≤ 2 → eb x.e 20 2 ≤ 32767 → 0 < n →
      (∀ fr ∈ runOf first n, owns s.dev i fr = true ∧ inPair s.dev fr = false) → insState s.dev i ≠ 0 → insState s.dev i ≠ 4 → h < 1024 →
      (∀ m, m ≤ h → (tget s.dev.ins.exports m = none ↔ m = h)) →
      ∃ t, exec (.fabExport c) s = .next t ∧ SameMem s.dev t.dev ∧ Completes s.dev t.dev x { Ret.ok with r0 := h }
        ∧ tget t.dev.ins.exports h = some ⟨i, first, n, bitOf (eb x.e 17 1) 0, bitOf (eb x.e 17 1) 1, bitOf (eb x.e 17 1) 2, eb x.e 18 1, eb x.e 20 2, false⟩
        ∧ (∀ m, m ≠ h → tget t.dev.ins.exports m = tget s.dev.ins.exports m)
        ∧ OnlyCmd [] s t x { s.dev with ins := { s.dev.ins with exports := t.dev.ins.exports } }) ∧
    (∀ (h : Nat) (y : Export), Admits s.dev 0x74 c x → h = eb x.e 16 2 → tget s.dev.ins.exports h = some y → (x.origin = 2 → y.inst = x.inst) →
      (∀ p ∈ s.dev.shore.dir, p.1 / 2 ^ 15 < y.first ∨ y.first + y.frames ≤ p.1 / 2 ^ 15) →
      ∃ t, exec (.fabUnexport c) s = .next t ∧ SameMem s.dev t.dev ∧ Completes s.dev t.dev x Ret.ok ∧ tget t.dev.ins.exports h = none
        ∧ (∀ m, m ≠ h → tget t.dev.ins.exports m = tget s.dev.ins.exports m)
        ∧ OnlyCmd [] s t x { s.dev with ins := { s.dev.ins with exports := t.dev.ins.exports } }) ∧
    (∀ (n : Nat) (s1 : Dev) (b : List Byte) (l : List Nat), Admits s.dev 0x75 c x → n = eb x.e 17 1 → 1 ≤ n → n ≤ 64 → eb x.e 24 8 % 8 = 0 →
      vaGiven s.dev x.inst (eb x.e 24 8) (8 * n) x.payload = (s1, b, 0) → s1.blocked = [] → s1.fe = s.dev.fe →
      l = (List.range n).map (fun i => ofLe ((b.drop (8 * i)).take 8)) → (∀ v ∈ l, v < 2 ^ 57) →
      ∃ t, exec (.mcastGroupSet c) s = .next t ∧ SameMem s1 t.dev ∧ Completes s1 t.dev x Ret.ok
        ∧ tget t.dev.fab.groups (256 * x.inst + eb x.e 16 1) = some l
        ∧ (∀ k, k ≠ 256 * x.inst + eb x.e 16 1 → tget t.dev.fab.groups k = tget s1.fab.groups k)
        ∧ OnlyCmd [] { s with dev := s1 } t x { s1 with fab := { s1.fab with groups := t.dev.fab.groups } }) ∧
    (∀ (n bytes code : Nat) (s1 s2 : Dev) (data : List Byte) (l : List Nat), Admits s.dev 0x76 c x → x.replay = false → n = s.dev.fab.nextSend →
      bytes = eb x.e 32 4 → 1 ≤ bytes → bytes ≤ 16777216 → tget s.dev.fab.groups (256 * x.inst + eb x.e 16 1) = some l → l ≠ [] →
      vaCheck s.dev x.inst (eb x.e 24 8) bytes 0 = (s1, 0) → vaRead s1 x.inst (eb x.e 24 8) bytes = (s2, data, code) → bytes ≤ data.length →
      s2.blocked = [] → s2.fe = s.dev.fe → s2.fab = s.dev.fab → (∀ b ∈ l, ownDevice s2 (b / 2 ^ 42) = false ∧ fabReach s2 (b / 2 ^ 42) = true) →
      ∃ (t : State) (o : McastOp), exec (.mcastSend c) s = .next t ∧ SameMem s2 t.dev ∧ Begins t.dev x ∧ tget t.dev.fab.sends n = some o ∧ o.cmd = x.key
        ∧ o.inst = x.inst ∧ o.off = eb x.e 40 8 ∧ o.data = data ∧ o.targets = l.map (fun b => ⟨b, [], [], 0, none, false⟩)
        ∧ (∀ b, l = List.cons b [] → bytes = data.length → bytes ≤ 4096 →
            Sends s2 t.dev (mkMsg s2 (b / 2 ^ 42) (segTag n 0 0) ((b + o.off) % 2 ^ 42) o.poison (.segment data)))
        ∧ OnlyCmd txRegs { s with dev := s2 } t x
            { s2 with fab := { fabSent t.dev s2.fab with sends := t.dev.fab.sends, nextSend := n + 1 } }) ∧
    (∀ (n h r : Nat) (s1 : Dev) (b : List Byte) (ranks : List Nat), Admits s.dev 0x77 c x → n = eb x.e 16 4 → 2 ≤ n → n ≤ 32768 → eb x.e 24 8 % 2 = 0 →
      vaGiven s.dev x.inst (eb x.e 24 8) (2 * n) x.payload = (s1, b, 0) → s1.blocked = [] → s1.fe = s.dev.fe → s1.fab = s.dev.fab →
      ranks = (List.range n).map (fun i => ofLe ((b.drop (2 * i)).take 2)) → fget s1 RF.FAB_STATUS_DEVICE_VALID = 1 → r < n →
      ranks.getD r 0 = fget s1 RF.FAB_STATUS_DEVICE → ranks.Nodup → (∀ v ∈ ranks, v ≤ 32767) →
      (s.dev.fab.comms.filter (fun p => p.2.inst == x.inst)).length < 256 → h < 65536 → (∀ m, m ≤ h → (tget s.dev.fab.comms m = none ↔ m = h)) →
      ∃ t, exec (.commCreate c) s = .next t ∧ SameMem s1 t.dev ∧ Completes s1 t.dev x { Ret.ok with r0 := h, r1 := r }
        ∧ tget t.dev.fab.comms h = some ⟨x.inst, eb x.e 32 8, ranks, r, 0, [], []⟩
        ∧ (∀ m, m ≠ h → tget t.dev.fab.comms m = tget s.dev.fab.comms m)
        ∧ OnlyCmd [] { s with dev := s1 } t x { s1 with fab := { s1.fab with comms := t.dev.fab.comms } }) ∧
    (∀ (h kind dtype bytes : Nat) (s1 s2 : Dev) (cm : Comm) (g : CollHead) (kids : List Nat), Admits s.dev 0x78 c x → x.replay = false → h = eb x.e 16 2 →
      kind = eb x.e 18 1 → dtype = eb x.e 19 1 → s.dev.fab.comms = List.cons (h, cm) [] → cm.inst = x.inst → cm.colls = [] → cm.early = [] → kind ≤ 4 →
      dtype ≤ 4 → eb x.e 20 1 ≤ 2 → (kind = 0 → eb x.e 40 8 = 0 ∧ eb x.e 24 8 = 0 ∧ eb x.e 32 8 = 0) → eb x.e 24 8 % 4 = 0 → eb x.e 32 8 % 4 = 0 →
      bytes = eb x.e 40 8 * elemBytes dtype →
      (if kind ≠ 0 ∧ ¬ (kind = 1 ∧ cm.rank ≠ 0) then vaCheck s.dev x.inst (eb x.e 24 8) bytes 0 else (s.dev, 0)) = (s1, 0) →
      (if kind = 1 ∧ cm.rank ≠ 0 ∨ kind = 2 ∧ cm.rank = 0 ∨ 3 ≤ kind then
        vaCheck s1 x.inst (eb x.e 32 8) (if kind = 4 then bytes * cm.ranks.length else bytes) 1 else (s1, 0)) = (s2, 0) →
      s2.blocked = [] → s2.fe = s.dev.fe → s2.fab = s.dev.fab → g = ⟨cm.key, cm.issued, kind, dtype, eb x.e 20 1, eb x.e 40 8⟩ →
      kids = childRanks cm.ranks.length cm.rank →
      (kind = 1 ∧ cm.rank ≠ 0 ∨ kind ≠ 1 ∧ kids ≠ [] ∨ kind = 0 ∧ kids = [] ∧ cm.rank ≠ 0) →
      ∃ (t : State) (y : Coll), exec (.collRun c) s = .next t ∧ SameMem s2 t.dev ∧ Begins t.dev x
        ∧ tget t.dev.fab.comms h = some { cm with issued := cm.issued + 1, colls := [y] } ∧ y.cmd = x.key ∧ y.head = g ∧ y.src = eb x.e 24 8
        ∧ y.dst = eb x.e 32 8 ∧ y.got = []
        ∧ (kind = 0 → kids = [] → y.sentUp = true ∧ Sends s2 t.dev (mkMsg s2 (cm.ranks.getD (parentRank cm.rank) 0) 0 0 false
            (.signal g false 0 (regRead s2 Reg.FAB_PROGRESS))))
        ∧ (kind ≠ 0 ∨ kids ≠ [] → y.sentUp = false)
        ∧ OnlyCmd txRegs { s with dev := s2 } t x { s2 with fab := { fabSent t.dev s2.fab with comms := t.dev.fab.comms } }) ∧
    (∀ (h : Nat) (cm : Comm), Admits s.dev 0x79 c x → h = eb x.e 16 2 → commAt s.dev h = some cm → cm.inst = x.inst → cm.colls = [] →
      ∃ t, exec (.commDestroy c) s = .next t ∧ SameMem s.dev t.dev ∧ Completes s.dev t.dev x Ret.ok ∧ commAt t.dev h = none
        ∧ (∀ m, m ≠ h → commAt t.dev m = commAt s.dev m)
        ∧ OnlyCmd [] s t x { s.dev with fab := { s.dev.fab with comms := t.dev.fab.comms } })

/-- Requests and answers on the fabric (R107, R195, R206, R212, R336, R343, R349, R354, R358, R359, R361, R362, R364). An admitted read is answered with the bytes of
the line, an admitted write or segment is written and acknowledged, an admitted atomic is performed and answered, and what no export admits is refused. An answer
ends what waits for it, with its data or its code. A refused segment is sent again, and its target given up in time. Parts of a collective are kept.
The model's choices that it rests on: log entries 7, 62, 66. -/
def Obligations.FabricTraffic : Prop :=
  ∀ (s : State) (m : FabMsg), s.dev.blocked = [] →
    (∀ k h : Nat, Arrives s.dev m → k = m.offset / 64 → h = m.offset / 32 % 2 →
      (∀ len, m.body = .readReq len →
        (m.offset = progressOffset →
          ∃ t, exec (.fabReadRequest m) s = .next t ∧ SameMem s.dev t.dev ∧ SameMembers s.dev t.dev
            ∧ Sends s.dev t.dev (mkMsg s.dev m.src m.tag m.offset false (.readResp 0 ((leBytes 8 (regRead s.dev Reg.FAB_PROGRESS)).take len)))
            ∧ OnlyIn txRegs s t { s.dev with fab := fabSent t.dev s.dev.fab, out := t.dev.out }) ∧
        (m.offset ≠ progressOffset → ∀ c, (admitRange s.dev m.src m.offset len 0).2 = c → c ≠ 0 →
          ∃ t, exec (.fabReadRequest m) s = .next t ∧ SameMem s.dev t.dev ∧ SameMembers s.dev t.dev
            ∧ Sends s.dev t.dev (mkMsg s.dev m.src m.tag m.offset false (.readResp c []))
            ∧ OnlyIn (Reg.FAB_CNT_EXPORT_DENIED :: txRegs) s t { s.dev with fab := fabSent t.dev s.dev.fab, out := t.dev.out }) ∧
        (∀ l, m.offset ≠ progressOffset → (admitRange s.dev m.src m.offset len 0).2 = 0 → m.offset % 32 + len ≤ 32 → HeldHome s.dev k l → halfCode l h = 0 →
          ∃ t, exec (.fabReadRequest m) s = .next t ∧ SameMem s.dev t.dev ∧ SameMembers s.dev t.dev
            ∧ Sends s.dev t.dev (mkMsg s.dev m.src m.tag m.offset false
                (.readResp 0 (leBytes len ((halfOf l.data h).toNat / 2 ^ (8 * (m.offset % 32))))))
            ∧ OnlyIn txRegs s t { s.dev with fab := fabSent t.dev s.dev.fab, out := t.dev.out })) ∧
      (∀ (c : Instr) (b : FabBody) (data : List Byte) (l : Line),
        (c = .fabWrite m ∧ m.body = .write data ∧ b = .writeAck 0 ∨
          (∃ die, c = .multicastSegment m die) ∧ m.body = .segment data ∧ b = .segmentResp 0 ∧ s.dev.fab.segs = []) →
        (admitRange s.dev m.src m.offset data.length 1).2 = 0 → data ≠ [] → m.offset % 32 + data.length ≤ 32 → HeldHome s.dev k l →
        (∀ i, i ≤ 32 → ownerOf s.dev (m.offset / 2 ^ 21) = i → jnlMode s.dev i ≠ 1) →
        ∃ (t : State) (l' : Line), exec c s = .next t ∧ SameMem s.dev t.dev ∧ SameMembers s.dev t.dev ∧ lineAt t.dev k = some l' ∧ l'.dirty = true
          ∧ (∀ j, j < 64 → byteAt l'.data.toNat j
              = if m.offset % 64 ≤ j ∧ j < m.offset % 64 + data.length then data.getD (j - m.offset % 64) 0 else byteAt l.data.toNat j)
          ∧ (∀ j, j ≠ k → lineAt t.dev j = lineAt s.dev j) ∧ Sends s.dev t.dev (mkMsg s.dev m.src m.tag m.offset false b)
          ∧ OnlyIn ([Reg.SHC_CNT_HITS, Reg.SHC_SLICE_STATUS (sliceOf s.dev k)] ++ txRegs) s t
              { s.dev with shore := { s.dev.shore with lines := t.dev.shore.lines }, mem := { s.dev.mem with writes := t.dev.mem.writes },
                           fe := { s.dev.fe with wakes := t.dev.fe.wakes }, fab := fabSent t.dev s.dev.fab, out := t.dev.out }) ∧
      (∀ (ops : List LaneAtom) (l : Line), m.body = .atomic ops → (admitRange s.dev m.src m.offset 32 2).2 = 0 → HeldHome s.dev k l → halfCode l h = 0 →
        (∀ i, i ≤ 32 → jnlMode s.dev i ≠ 1) →
        ∃ (t : State) (l' : Line), exec (.fabAtomic m) s = .next t ∧ SameMem s.dev t.dev ∧ SameMembers s.dev t.dev ∧ lineAt t.dev k = some l'
          ∧ l'.dirty = true ∧ halfOf l'.data h = (amoAll (halfOf l.data h) ops).1 ∧ halfOf l'.data (1 - h) = halfOf l.data (1 - h)
          ∧ (∀ j, j ≠ k → lineAt t.dev j = lineAt s.dev j)
          ∧ Sends s.dev t.dev (mkMsg s.dev m.src m.tag m.offset false (.atomicResp 0 (amoAll (halfOf l.data h) ops).2))
          ∧ OnlyIn (Reg.SHC_SLICE_STATUS (sliceOf s.dev k) :: txRegs) s t
              { s.dev with shore := { s.dev.shore with lines := t.dev.shore.lines }, mem := { s.dev.mem with writes := t.dev.mem.writes },
                           fe := { s.dev.fe with wakes := t.dev.fe.wakes }, fab := fabSent t.dev s.dev.fab, out := t.dev.out })) ∧
    (Arrives s.dev m →
      (∀ (n code : Nat) (data : List Byte) (r : Req) (c : Core), m.body = .readResp code data → m.tag = 4 * n → tget s.dev.net n = some r →
        r.sent = true → r.kind = .read → c = coreOf s.dev r.core → (code = 0 ∨ badData code = false) →
        ∃ t, exec (.fabReadResponse m) s = .next t ∧ SameMem s.dev t.dev ∧ SameMembers s.dev t.dev ∧ tget t.dev.net n = none
          ∧ coreOf t.dev r.core = { c with
              rbuf := c.rbuf ++ [if code = 0 then ⟨r.tag, r.sec, BitVec.ofNat 256 (ofLe data), if m.poison then ePoison else 0⟩ else ⟨r.tag, r.sec, 0, code⟩] }
          ∧ SameCoresBut r.core s.dev t.dev
          ∧ OnlyIn [] s t { s.dev with cores := t.dev.cores, net := tdel s.dev.net n, fab := fabSent t.dev s.dev.fab }) ∧
      (∀ (n code : Nat) (vals : List (Nat × Nat)) (ops : List LaneAtom) (r : Req) (c : Core), m.body = .atomicResp code vals → m.tag = 4 * n →
        tget s.dev.net n = some r → r.sent = true → r.kind = .atomic ops → c = coreOf s.dev r.core →
        ∃ t, exec (.fabAtomicResponse m) s = .next t ∧ SameMem s.dev t.dev ∧ SameMembers s.dev t.dev ∧ tget t.dev.net n = none
          ∧ coreOf t.dev r.core = { c with
              abuf := c.abuf ++ (if code = 0 then vals.map (fun v => ⟨r.tag - 64, v.1, v.2, 0⟩) else ops.map (fun o => ⟨r.tag - 64, o.lane, 0, code⟩)) }
          ∧ SameCoresBut r.core s.dev t.dev
          ∧ OnlyIn [] s t { s.dev with cores := t.dev.cores, net := tdel s.dev.net n, fab := fabSent t.dev s.dev.fab }) ∧
      (∀ (code core a : Nat) (w : WbEntry), m.body = .writeAck code → sentWrite s.dev m.tag = some (core, w) → w.sent = some (m.tag, a) → 1 ≤ a →
        ∃ t, exec (.fabWriteAck m) s = .next t ∧ SameMem s.dev t.dev ∧ SameMembers s.dev t.dev ∧ SameCoresBut core s.dev t.dev
          ∧ (code ≠ 0 ∨ a = 1 → (coreOf t.dev core).wb = (coreOf s.dev core).wb.erase w)
          ∧ (code = 0 → a = 1 → coreOf t.dev core = { coreOf s.dev core with wb := (coreOf s.dev core).wb.erase w })
          ∧ (code = 0 → a ≠ 1 → coreOf t.dev core
              = { coreOf s.dev core with wb := (coreOf s.dev core).wb.map (fun y => if y = w then { y with sent := some (m.tag, a - 1) } else y) })
          ∧ OnlyIn [] s t { s.dev with cores := t.dev.cores, fab := fabSent t.dev s.dev.fab }) ∧
      (∀ (n t k code : Nat) (o : McastOp) (g : McastTarget), m.body = .segmentResp code → m.tag = segTag n t k → t < 128 → k < 8192 →
        tget s.dev.fab.sends n = some o → o.targets[t]? = some g → (∃ j g', j ≠ t ∧ o.targets[j]? = some g' ∧ g'.missed = false ∧ delivered o g' = false) →
        ∃ (u : State) (o' : McastOp), exec (.multicastResponse m) s = .next u ∧ SameMem s.dev u.dev ∧ SameMembers s.dev u.dev
          ∧ tget u.dev.fab.sends n = some o' ∧ (∀ j, j ≠ t → o'.targets[j]? = o.targets[j]?)
          ∧ (code = 0 → o'.targets[t]? = some { g with acked := insertNat k g.acked })
          ∧ (code = eBusy → g.refusals < 64 →
              o'.targets[t]? = some { g with refused := insertNat k g.refused, firstBusy := some (g.firstBusy.getD s.dev.time.hw) })
          ∧ (code ≠ 0 → code ≠ eBusy → o'.targets[t]? = some { g with missed := true })
          ∧ OnlyIn [Reg.FAB_CNT_MCAST_MISSED] s u { s.dev with fab := { fabSent u.dev s.dev.fab with sends := u.dev.fab.sends } }) ∧
      (∀ (h r : Nat) (cm : Comm) (y : Coll) (g : CollHead), s.dev.fab.comms = List.cons (h, cm) [] → cm.key = g.key → rankOf cm m.src = some r →
        cm.colls = List.cons y [] →
        (g.seq > y.head.seq →
          (∀ down blocks, m.body = .collective g down blocks →
            ∃ t, exec (.collectiveData m) s = .next t ∧ SameMem s.dev t.dev ∧ SameMembers s.dev t.dev
              ∧ t.dev.fab.comms = [(h, { cm with early := cm.early ++ [m] })]
              ∧ OnlyIn [] s t { s.dev with fab := { fabSent t.dev s.dev.fab with comms := t.dev.fab.comms } }) ∧
          (∀ down code word, m.body = .signal g down code word →
            ∃ t, exec (.collectiveSignal m) s = .next t ∧ SameMem s.dev t.dev ∧ SameMembers s.dev t.dev
              ∧ t.dev.fab.comms = [(h, { cm with early := cm.early ++ [m] })] ∧ tget t.dev.fab.words m.src = some word
              ∧ OnlyIn [] s t { s.dev with fab := { fabSent t.dev s.dev.fab with comms := t.dev.fab.comms, words := t.dev.fab.words } })) ∧
        (g = y.head → cm.early = [] → r ∈ childRanks cm.ranks.length cm.rank →
          (∃ q ∈ childRanks cm.ranks.length cm.rank, q ≠ r ∧ ∀ p ∈ y.got, p.1 ≠ q) → y.head.kind ≠ 1 →
          (∀ s0 blocks, m.body = .collective g false blocks → arrive s.dev m = (s0, true) →
            bufferExported s0 cm.inst y.src (1 * g.count * elemBytes g.dtype) m.src 0 = true →
            ∃ t, exec (.collectiveData m) s = .next t ∧ SameMem s.dev t.dev ∧ SameMembers s.dev t.dev
              ∧ t.dev.fab.comms = [(h, { cm with colls := [{ y with got := y.got ++ [(r, blocks)] }] })]
              ∧ OnlyIn [] s t { s.dev with fab := { fabSent t.dev s.dev.fab with comms := t.dev.fab.comms } }) ∧
          (∀ word, m.body = .signal g false 0 word →
            ∃ t, exec (.collectiveSignal m) s = .next t ∧ SameMem s.dev t.dev ∧ SameMembers s.dev t.dev
              ∧ t.dev.fab.comms = [(h, { cm with colls := [{ y with got := y.got ++ [(r, [])] }] })]
              ∧ OnlyIn [] s t { s.dev with fab := { fabSent t.dev s.dev.fab with comms := t.dev.fab.comms, words := t.dev.fab.words } })))) ∧
    (serving s.dev = true → ownDevice s.dev m.dst = true → m.reserved = false → m.body = .unreachable →
      (∀ (n : Nat) (r : Req), m.tag = 4 * n → tget s.dev.net n = some r → r.sent = true → r.kind = .read →
        ∃ t, exec (.unreachable m) s = .next t ∧ SameMem s.dev t.dev ∧ tget t.dev.net n = none ∧ SameCoresBut r.core s.dev t.dev
          ∧ coreOf t.dev r.core = { coreOf s.dev r.core with rbuf := (coreOf s.dev r.core).rbuf ++ [⟨r.tag, r.sec, 0, ePeerGone⟩] }
          ∧ OnlyIn [] s t { s.dev with cores := t.dev.cores, net := tdel s.dev.net n }) ∧
      (∀ (core : Nat) (w : WbEntry), m.tag % 4 = 1 → sentWrite s.dev m.tag = some (core, w) →
        ∃ t, exec (.unreachable m) s = .next t ∧ SameMem s.dev t.dev ∧ SameCoresBut core s.dev t.dev
          ∧ (coreOf t.dev core).wb = (coreOf s.dev core).wb.erase w
          ∧ (∀ n g, tget (coreOf s.dev core).groups n = some g → g.stall = .release → (tget (coreOf t.dev core).groups n).map (·.dead) = some (some ePeerGone))
          ∧ OnlyIn [] s t { s.dev with cores := t.dev.cores })) ∧
    (∀ (n t k : Nat) (o : McastOp) (g : McastTarget), tget s.dev.fab.sends n = some o → o.targets[t]? = some g → g.missed = false → delivered o g = false →
      (k ∈ g.refused → ownDevice s.dev (g.base / 2 ^ 42) = false → fabReach s.dev (g.base / 2 ^ 42) = true →
        ∃ (u : State) (o' : McastOp), exec (.mcastRetry n t k) s = .next u ∧ SameMem s.dev u.dev ∧ tget u.dev.fab.sends n = some o'
          ∧ o'.targets[t]? = some { g with refused := g.refused.filter (· != k), refusals := g.refusals + 1 }
          ∧ (∀ j, j ≠ t → o'.targets[j]? = o.targets[j]?)
          ∧ Sends s.dev u.dev (mkMsg s.dev (g.base / 2 ^ 42) (segTag n t k) ((g.base + o.off) % 2 ^ 42 + 4096 * k) o.poison (.segment (segBytes o k)))
          ∧ regRead u.dev Reg.FAB_CNT_MCAST_RETRIES = (regRead s.dev Reg.FAB_CNT_MCAST_RETRIES + 1) % 2 ^ 64
          ∧ OnlyIn (Reg.FAB_CNT_MCAST_RETRIES :: txRegs) s u
              { s.dev with fab := { fabSent u.dev s.dev.fab with sends := u.dev.fab.sends }, out := u.dev.out }) ∧
      (g.firstBusy.isSome → (∃ j g', j ≠ t ∧ o.targets[j]? = some g' ∧ g'.missed = false ∧ delivered o g' = false) →
        ∃ (u : State) (o' : McastOp), exec (.mcastTargetGiveUp n t) s = .next u ∧ SameMem s.dev u.dev ∧ tget u.dev.fab.sends n = some o'
          ∧ o'.targets[t]? = some { g with missed := true } ∧ (∀ j, j ≠ t → o'.targets[j]? = o.targets[j]?)
          ∧ regRead u.dev Reg.FAB_CNT_MCAST_MISSED = (regRead s.dev Reg.FAB_CNT_MCAST_MISSED + 1) % 2 ^ 64
          ∧ OnlyIn [Reg.FAB_CNT_MCAST_MISSED] s u { s.dev with fab := { s.dev.fab with sends := u.dev.fab.sends } }))

/-- Ports, links and members (R333, R337 to R347, R353 to R355, R364 to R366, R456). Flits are accepted in order, asked for again, or take a failed port out of service; a link
trains, attests and takes its keys; what a lost port held is asked after and sent again; members are admitted, tell their progress, and depart. What a verification finds
is a free value of Config.
The model's choices that it rests on: log entries 14, 15, 63, 64, 65. -/
def Obligations.PortsAndMembers : Prop :=
  ∀ s : State, serving s.dev = true →
    (∀ (p : Nat) (f : FabFlit) (q : Port), p ≤ 15 → q = portAt s.dev p → fget s.dev (RF.FAB_PORT_STATUS_STATE p) = 3 →
      (f.fecOk = true → f.crcOk = true → f.resvOk = true → f.secure = true → f.tagOk = true → f.nak = false → f.ackV = false → f.seq = q.rx →
        s.dev.fab.waiting = [] → s.dev.fab.inbox = [] →
        ((∀ m ∈ f.slots, m.body = .idle) →
          ∃ t, exec (.fabricFlitReceive p f) s = .next t ∧ SameMem s.dev t.dev ∧ portAt t.dev p = { q with rx := (q.rx + 1) % 2 ^ 32, fails := 0 }
            ∧ (∀ j, j ≠ p → portAt t.dev j = portAt s.dev j)
            ∧ regRead t.dev (Reg.FAB_PORT_CNT_RX p) = (regRead s.dev (Reg.FAB_PORT_CNT_RX p) + 1) % 2 ^ 64
            ∧ OnlyIn [Reg.FAB_PORT_CNT_RX p, Reg.FAB_PORT_CNT_FEC p] s t { s.dev with fab := { s.dev.fab with ports := t.dev.fab.ports } }) ∧
        (∀ (m : FabMsg) (data : List Byte), f.slots = List.cons m [] → m.body = .write data → m.reserved = false → ownDevice s.dev m.dst = false → m.hops < 7 →
          routePorts s.dev m.dst ≠ [] → (∃ r ∈ routePorts s.dev m.dst, (portAt s.dev r).replay.length < 128) →
          ∃ t, exec (.fabricFlitReceive p f) s = .next t ∧ SameMem s.dev t.dev ∧ Sends s.dev t.dev { m with hops := m.hops + 1 }
            ∧ regRead t.dev Reg.FAB_CNT_TRANSIT = (regRead s.dev Reg.FAB_CNT_TRANSIT + 1) % 2 ^ 64
            ∧ OnlyIn ([Reg.FAB_PORT_CNT_RX p, Reg.FAB_PORT_CNT_FEC p, Reg.FAB_CNT_TRANSIT] ++ txRegs) s t
                { s.dev with fab := fabSent t.dev s.dev.fab, out := t.dev.out })) ∧
      ((f.fecOk && f.crcOk && f.resvOk) = false → q.fails < 7 →
        ∃ t, exec (.fabricFlitReceive p f) s = .next t ∧ SameMem s.dev t.dev ∧ t.dev.out = s.dev.out ++ [.portNak p q.rx]
          ∧ portAt t.dev p = { q with fails := q.fails + 1 } ∧ (∀ j, j ≠ p → portAt t.dev j = portAt s.dev j)
          ∧ regRead t.dev (Reg.FAB_PORT_CNT_CRC p) = (regRead s.dev (Reg.FAB_PORT_CNT_CRC p) + 1) % 2 ^ 64
          ∧ OnlyIn [Reg.FAB_PORT_CNT_CRC p, Reg.FAB_PORT_CNT_FEC p] s t
              { s.dev with fab := { s.dev.fab with ports := t.dev.fab.ports }, out := t.dev.out }) ∧
      (∀ seq, ∃ t, exec (.fabricNak p seq) s = .next t ∧ SameMem s.dev t.dev
        ∧ (portAt t.dev p).replay = beyond ((seq + 2 ^ 32 - 1) % 2 ^ 32) q.replay
        ∧ t.dev.out = s.dev.out ++ (portAt t.dev p).replay.map (fun f => .flit p f) ∧ (∀ j, j ≠ p → portAt t.dev j = portAt s.dev j)
        ∧ OnlyIn [Reg.FAB_PORT_CNT_REPLAYS p] s t { s.dev with fab := { s.dev.fab with ports := t.dev.fab.ports }, out := t.dev.out }) ∧
      ((∀ m, m < 64 → fget s.dev (RF.SHC_EPOCH_VALID m) = 0) →
        ∀ c, c = Instr.portLoss p true ∨ (c = Instr.fabricFlitReceive p f ∧ (f.fecOk && f.crcOk && f.resvOk) = true ∧ f.tagOk = false) →
        ∃ t, exec c s = .next t ∧ SameMem s.dev t.dev ∧ fget t.dev (RF.FAB_PORT_STATUS_STATE p) = 0 ∧ fget t.dev (RF.FAB_PORT_STATUS_SECURE p) = 0
          ∧ fget t.dev (RF.FAB_PORT_STATUS_BW_GBPS p) = 0 ∧ (fget t.dev RF.FAB_STATUS_PORTS_UP).testBit p = false
          ∧ (∀ j, j < 16 → j ≠ p → (fget t.dev RF.FAB_STATUS_PORTS_UP).testBit j = (fget s.dev RF.FAB_STATUS_PORTS_UP).testBit j)
          ∧ (∀ j, j ∉ routePorts t.dev (fget s.dev (RF.FAB_PORT_STATUS_NEIGHBOUR p)) → j ≠ p → portAt t.dev j = portAt s.dev j)
          ∧ (portAt t.dev p).held = q.held ++ q.replay ∧ (portAt t.dev p).replay = []
          ∧ OnlyIn ([Reg.FAB_PORT_STATUS p, Reg.FAB_STATUS, Reg.FAB_CNT_REROUTES, Reg.FAB_PORT_CNT_TAG_FAILS p, Reg.FAB_PORT_CNT_FEC p] ++ txRegs ++ logRegs) s t
              { s.dev with fab := fabSent t.dev s.dev.fab, out := t.dev.out, log := t.dev.log, flash := { s.dev.flash with romLog := t.dev.flash.romLog } }) ∧
      (∃ t, exec (.keyUpdate p true) s = .next t ∧ SameMem s.dev t.dev
        ∧ fget t.dev (RF.FAB_PORT_STATUS_KEY_PHASE p) = 1 - fget s.dev (RF.FAB_PORT_STATUS_KEY_PHASE p) ∧ portAt t.dev p = { q with keyUse := 0 }
        ∧ (∀ j, j ≠ p → portAt t.dev j = portAt s.dev j)
        ∧ OnlyIn (Reg.FAB_PORT_STATUS p :: logRegs) s t
            { s.dev with fab := { s.dev.fab with ports := t.dev.fab.ports }, log := t.dev.log, flash := { s.dev.flash with romLog := t.dev.flash.romLog } }) ∧
      (∀ c park, (c = Instr.fabricLanePark p ∧ park = true ∧ fget s.dev (RF.FAB_PORT_STATUS_HALF p) = 0 ∧ q.replay.length < 32) ∨
          (c = Instr.fabricLaneUnpark p ∧ park = false ∧ q.parked = true ∧ 32 ≤ q.replay.length) →
        ∃ t, exec c s = .next t ∧ SameMem s.dev t.dev ∧ portAt t.dev p = { q with parked := park } ∧ (∀ j, j ≠ p → portAt t.dev j = portAt s.dev j)
          ∧ OnlyIn [] s t { s.dev with fab := { s.dev.fab with ports := t.dev.fab.ports } })) ∧
    (∀ (p : Nat) (q : Port), p ≤ 15 → q = portAt s.dev p →
      (∀ m, m.body = .resyncQuery p → ownDevice s.dev m.dst = true →
        ∃ t, exec (.fabricResyncQuery m) s = .next t ∧ SameMem s.dev t.dev
          ∧ Sends s.dev t.dev (mkMsg s.dev m.src m.tag 0 false (.resyncReply (fget s.dev (RF.FAB_PORT_STATUS_NEIGHBOUR_PORT p))
              (if fget s.dev (RF.FAB_PORT_STATUS_STATE p) = 3 then (q.rx + 2 ^ 32 - 1) % 2 ^ 32 else q.accepted)))
          ∧ OnlyIn txRegs s t { s.dev with fab := fabSent t.dev s.dev.fab, out := t.dev.out }) ∧
      (∀ m last, m.body = .resyncReply p last → ownDevice s.dev m.dst = true → q.heldFrom = m.src →
        ∃ t, exec (.fabricResyncReply m) s = .next t ∧ SameMem s.dev t.dev ∧ (portAt t.dev p).held = [] ∧ (portAt t.dev p).heldFrom = 0x8000
          ∧ ((beyond last q.held).flatMap (·.slots) = [] → t.dev.out = s.dev.out)
          ∧ (∀ y, (beyond last q.held).flatMap (·.slots) = List.cons y [] → Sends s.dev t.dev y)
          ∧ OnlyIn txRegs s t { s.dev with fab := fabSent t.dev s.dev.fab, out := t.dev.out }) ∧
      (fget s.dev RF.FAB_STATUS_DEVICE_VALID = 1 → fget s.dev (RF.FAB_PORT_STATUS_STATE p) = 0 →
        ∃ t, exec (.portDetect p) s = .next t ∧ SameMem s.dev t.dev ∧ fget t.dev (RF.FAB_PORT_STATUS_STATE p) = 1
          ∧ OnlyIn [Reg.FAB_PORT_STATUS p] s t s.dev) ∧
      (∀ lanes, fget s.dev (RF.FAB_PORT_STATUS_STATE p) = 1 →
        ∃ t, exec (.portTrained p lanes) s = .next t ∧ SameMem s.dev t.dev ∧ fget t.dev (RF.FAB_PORT_STATUS_GOOD_LANES p) = lanes % 256
          ∧ (lanes % 256 = 0xFF ∨ lanes % 16 = 0xF ∨ lanes / 16 % 16 = 0xF →
              fget t.dev (RF.FAB_PORT_STATUS_STATE p) = 2 ∧ fget t.dev (RF.FAB_PORT_STATUS_HALF p) = (if lanes % 256 = 0xFF then 0 else 1)
                ∧ ∃ f, t.dev.out = s.dev.out ++ [.flit p f] ∧ f.seq = 0
                    ∧ f.slots = [mkMsg s.dev (fget s.dev (RF.FAB_PORT_STATUS_NEIGHBOUR p)) 0 0 false
                        (.identity (fget s.dev RF.FAB_STATUS_DEVICE) (regRead s.dev Reg.BRG_MODULE_SERIAL) p (Config.chain 0))])
          ∧ (¬ (lanes % 256 = 0xFF ∨ lanes % 16 = 0xF ∨ lanes / 16 % 16 = 0xF) →
              fget t.dev (RF.FAB_PORT_STATUS_STATE p) = 0 ∧ t.dev.out = s.dev.out)
          ∧ (∀ j, j ≠ p → portAt t.dev j = portAt s.dev j)
          ∧ OnlyIn [Reg.FAB_PORT_STATUS p, Reg.FAB_PORT_CNT_TX p] s t
              { s.dev with fab := { s.dev.fab with ports := t.dev.fab.ports }, out := t.dev.out }) ∧
      ((∀ m, m < 64 → fget s.dev (RF.SHC_EPOCH_VALID m) = 0) → fget s.dev (RF.FAB_PORT_STATUS_STATE p) = 2 →
        (∀ m device serial port chain, m.body = .identity device serial port chain → q.passed = 0 → device ≤ 32767 → ownDevice s.dev device = false →
          port ≤ 15 →
          ∃ t, exec (.fabIdentity p m) s = .next t ∧ SameMem s.dev t.dev
            ∧ (Config.verifies 0 chain = true → (portAt t.dev p).passed = 1 ∧ fget t.dev (RF.FAB_PORT_STATUS_NEIGHBOUR p) = device
                ∧ fget t.dev (RF.FAB_PORT_STATUS_NEIGHBOUR_PORT p) = port ∧ fget t.dev (RF.FAB_PORT_STATUS_STATE p) = 2
                ∧ ∃ f, t.dev.out = s.dev.out ++ [.flit p f] ∧ f.slots = [mkMsg s.dev device 0 0 false (.measurements (ownMeasured s.dev))])
            ∧ (Config.verifies 0 chain = false → fget t.dev (RF.FAB_PORT_STATUS_STATE p) = 0
                ∧ regRead t.dev Reg.FAB_CNT_AUTH_FAILS = (regRead s.dev Reg.FAB_CNT_AUTH_FAILS + 1) % 2 ^ 64)
            ∧ (∀ j, j ≠ p → portAt t.dev j = portAt s.dev j)
            ∧ OnlyIn ([Reg.FAB_PORT_STATUS p, Reg.FAB_PORT_CNT_TX p, Reg.FAB_CNT_AUTH_FAILS] ++ logRegs) s t
                { s.dev with fab := { s.dev.fab with ports := t.dev.fab.ports }, out := t.dev.out, log := t.dev.log,
                             flash := { s.dev.flash with romLog := t.dev.flash.romLog } }) ∧
        (∀ m b, m.body = .measurements b → q.passed = 1 →
          ∃ t, exec (.fabricSpdmMessage p m) s = .next t ∧ SameMem s.dev t.dev
            ∧ (if measuredOk s.dev b then (portAt t.dev p).passed = 2 ∧ fget t.dev (RF.FAB_PORT_STATUS_STATE p) = 2
               else fget t.dev (RF.FAB_PORT_STATUS_STATE p) = 0)
            ∧ OnlyIn ([Reg.FAB_PORT_STATUS p, Reg.FAB_PORT_CNT_TX p, Reg.FAB_CNT_AUTH_FAILS] ++ logRegs) s t
                { s.dev with fab := { s.dev.fab with ports := t.dev.fab.ports }, out := t.dev.out, log := t.dev.log,
                             flash := { s.dev.flash with romLog := t.dev.flash.romLog } }) ∧
        (∀ m, m.body = .keys → q.passed = 2 → s.dev.fab.waiting = [] →
          ∃ t, exec (.fabricSpdmMessage p m) s = .next t ∧ SameMem s.dev t.dev ∧ fget t.dev (RF.FAB_PORT_STATUS_STATE p) = 3
            ∧ fget t.dev (RF.FAB_PORT_STATUS_SECURE p) = 1 ∧ fget t.dev (RF.FAB_PORT_STATUS_KEY_PHASE p) = 0
            ∧ fget t.dev (RF.FAB_PORT_STATUS_BW_GBPS p) = (if fget s.dev (RF.FAB_PORT_STATUS_HALF p) = 1 then 100 else 200)
            ∧ (∀ j, j < 16 → (fget t.dev RF.FAB_STATUS_PORTS_UP).testBit j = (j == p || (fget s.dev RF.FAB_STATUS_PORTS_UP).testBit j))
            ∧ (portAt t.dev p).tx = 0 ∧ (portAt t.dev p).rx = 0
            ∧ OnlyIn ([Reg.FAB_PORT_STATUS p, Reg.FAB_STATUS, Reg.FAB_PORT_CNT_TX p] ++ logRegs) s t
                { s.dev with fab := { s.dev.fab with ports := t.dev.fab.ports }, out := t.dev.out, log := t.dev.log,
                             flash := { s.dev.flash with romLog := t.dev.flash.romLog } }))) ∧
    (∀ (dev idx key : Nat) (mb : Member) (e : StoreEntry), s.dev.fab.members = List.cons (idx, mb) [] → mb.device = dev → mb.cmd = some key →
      storeAt s.dev key = some e → entryOp e.entry = 0x72 → e.inst ≤ 34 →
      ∃ t, exec (.admissionTimeout dev) s = .next t ∧ SameMem s.dev t.dev ∧ t.dev.fab.members = []
        ∧ Completes s.dev t.dev (laterCtx e) { Ret.ok with status := ePeerGone }
        ∧ OnlyCmd [] s t (laterCtx e) { s.dev with fab := { s.dev.fab with members := [] } }) ∧
    (∀ m w, Arrives s.dev m → m.body = .progress w →
      ∃ t, exec (.progressWord m) s = .next t ∧ SameMem s.dev t.dev ∧ SameMembers s.dev t.dev ∧ tget t.dev.fab.words m.src = some w
        ∧ (∀ d, d ≠ m.src → tget t.dev.fab.words d = tget s.dev.fab.words d)
        ∧ OnlyIn [] s t { s.dev with fab := { fabSent t.dev s.dev.fab with words := t.dev.fab.words } }) ∧
    (∀ a, a < 64 → (∀ m, m < 64 → (fget s.dev (RF.SHC_EPOCH_VALID m) = 1 ↔ m = a)) →
      ∃ t, exec .progressPush s = .next t ∧ SameMem s.dev t.dev
        ∧ Sends s.dev t.dev (mkMsg s.dev (fget s.dev (RF.SHC_EPOCH_DEVICE a)) 0 0 false (.progress (regRead s.dev Reg.FAB_PROGRESS)))
        ∧ OnlyIn txRegs s t { s.dev with fab := fabSent t.dev s.dev.fab, out := t.dev.out }) ∧
    (∃ t, exec .progressUpdate s = .next t ∧ SameMem s.dev t.dev
      ∧ (∀ i, i < 8 → (regRead t.dev Reg.FAB_PROGRESS).testBit i = reasonOn s.dev (i + 1))
      ∧ regRead t.dev Reg.FAB_PROGRESS / 2 ^ 8 % 2 ^ 8 = progressRate s.dev % 2 ^ 8
      ∧ OnlyIn [Reg.FAB_PROGRESS] s t s.dev) ∧
    (∀ (h q : Nat) (cm : Comm) (y : Coll), s.dev.blocked = [] → s.dev.fab.comms = List.cons (h, cm) [] → cm.colls = List.cons y [] → cm.early = [] →
      y.head.kind ≠ 1 → awaited cm y = List.cons q [] →
      (∃ t, exec (.collectiveProgressPoll h) s = .next t ∧ SameMem s.dev t.dev
        ∧ Sends s.dev t.dev (mkMsg s.dev (cm.ranks.getD q 0) 3 progressOffset false (.readReq 8))
        ∧ OnlyIn txRegs s t { s.dev with fab := fabSent t.dev s.dev.fab, out := t.dev.out }) ∧
      (fget s.dev RF.FAB_POLICY_PACE_EN = 1 → y.pacing = false → (tgetD s.dev.fab.words (cm.ranks.getD q 0) 0) % 256 &&& 0xDF ≠ 0 →
        ∃ t, exec (.paceTimeout h) s = .next t ∧ SameMem s.dev t.dev ∧ fget t.dev RF.FAB_STATUS_PACING = 1
          ∧ regRead t.dev Reg.FAB_CNT_PACE_EVENTS = (regRead s.dev Reg.FAB_CNT_PACE_EVENTS + 1) % 2 ^ 64
          ∧ t.dev.fab.comms = [(h, { cm with colls := [{ y with pacing := true }] })]
          ∧ (∀ i ∈ heldIslands s.dev cm.inst, (6, i) ∈ t.dev.power.applies)
          ∧ OnlyIn ([Reg.FAB_STATUS, Reg.FAB_CNT_PACE_EVENTS] ++ reasonRegs 6) s t
              { s.dev with fab := { s.dev.fab with comms := t.dev.fab.comms }, power := t.dev.power, host := t.dev.host, out := t.dev.out,
                           log := t.dev.log, flash := { s.dev.flash with romLog := t.dev.flash.romLog } })) ∧
    (∀ (c : Instr) (dev idx : Nat),
      ((∃ m, c = .fabricDepart m ∧ Arrives s.dev m ∧ m.src = dev ∧ m.body = .depart) ∨
        c = .memberSilenceTimeout dev ∧ fabReach s.dev dev = false ∧ ∀ p, p < 16 → (portAt s.dev p).heldFrom ≠ dev) →
      memberOf s.dev dev = some idx → s.dev.shore.dir = [] → s.dev.shore.txn = [] → s.dev.shore.queue = [] → s.dev.net = [] → s.dev.fab.comms = [] →
      s.dev.fab.sends = [] → (∀ p ∈ s.dev.fab.members, p.2.cmd = none) → (∀ p ∈ s.dev.cores, ∀ w ∈ p.2.wb, atDevice dev (32 * w.sec) = false) →
      (∀ p ∈ s.dev.shore.lines, p.2.hold = .pending → atDevice dev (64 * p.1) = false) →
      ∃ t, exec c s = .next t ∧ SameMem s.dev t.dev ∧ fget t.dev (RF.SHC_EPOCH_VALID idx) = 0 ∧ tget t.dev.fab.members idx = none
        ∧ regRead t.dev Reg.FAB_CNT_DEPARTS = (regRead s.dev Reg.FAB_CNT_DEPARTS + 1) % 2 ^ 64
        ∧ (∀ j, coreOf t.dev j = coreOf s.dev j) ∧ (∀ j, j ≠ idx → (tget t.dev.fab.members j).map (·.device) = (tget s.dev.fab.members j).map (·.device))
        ∧ OnlyIn ([Reg.SHC_EPOCH idx, Reg.FAB_STATUS, Reg.FAB_CNT_DEPARTS, Reg.SHC_CNT_RECLAIMS] ++ txRegs ++ logRegs) s t
            { s.dev with cores := t.dev.cores, fab := fabSent t.dev s.dev.fab, out := t.dev.out, log := t.dev.log,
                         shore := { s.dev.shore with wants := t.dev.shore.wants, heldFwd := t.dev.shore.heldFwd },
                         flash := { s.dev.flash with romLog := t.dev.flash.romLog } })

/-! ### The mesh -/

/-- The mesh (R35, R38 to R46, R455). A flit in order is accepted, one that fails its check is asked for again, and the sender replays; a lane moves onto a spare,
or the bundle-direction narrows, in a pause; bundles and straits are lost, and every router switches to other tables; idle bundles park.
The model's choices that it rests on: log entries 68, 69, 70, 71, 72. -/
def Obligations.MeshBundles : Prop :=
  ∀ s : State, meshOn s.dev = true →
    (∀ (k b d : Nat) (x : Bd), k < 110 → b < 8 → d < 2 → x = bdAt s.dev k b d →
      (∀ f : BitVec 2048, bdMode s.dev k b d ≠ 3 → x.phase ≠ .retraining →
        ((crcGood f && headerGood f) = true → bitOf f.toNat 21 = false → flitKind f = 1 → flitSeq f = x.rx → x.copy = none → flitDest f = receiver k d →
          s.dev.mesh.waiting = [] →
          ∃ t, exec (.flitReceive k b d f) s = .next t ∧ SameMem s.dev t.dev ∧ bdAt t.dev k b d = { x with rx := (x.rx + 1) % 2 ^ 32, fails := 0 }
            ∧ SameBdsBut k b d s.dev t.dev ∧ OnlyIn [] s t { s.dev with mesh := { s.dev.mesh with bds := t.dev.mesh.bds } }) ∧
        ((crcGood f && headerGood f) = false → x.fails < 7 →
          ∃ t, exec (.flitReceive k b d f) s = .next t ∧ SameMem s.dev t.dev ∧ bdAt t.dev k b d = { x with fails := x.fails + 1, copy := some f }
            ∧ t.dev.out = s.dev.out ++ [.meshNak k b d x.rx]
            ∧ regRead t.dev (Reg.STR_BD_CRC_ERRORS k b d) = (regRead s.dev (Reg.STR_BD_CRC_ERRORS k b d) + 1) % 2 ^ 64
            ∧ SameBdsBut k b d s.dev t.dev
            ∧ OnlyIn [Reg.STR_BD_CRC_ERRORS k b d] s t { s.dev with mesh := { s.dev.mesh with bds := t.dev.mesh.bds }, out := t.dev.out })) ∧
      (∀ seq, bdMode s.dev k b d ≠ 3 →
        ∃ t, exec (.meshNak k b d seq) s = .next t ∧ SameMem s.dev t.dev
          ∧ (let l := flitsBeyond ((seq + 2 ^ 32 - 1) % 2 ^ 32) x.replay
             bdAt t.dev k b d = { x with replay := l } ∧ t.dev.out = s.dev.out ++ l.map (fun p => .mesh k b d p.2)
               ∧ regRead t.dev (Reg.STR_BD_REPLAYS k b d) = (regRead s.dev (Reg.STR_BD_REPLAYS k b d) + l.length) % 2 ^ 64)
          ∧ SameBdsBut k b d s.dev t.dev
          ∧ OnlyIn [Reg.STR_BD_REPLAYS k b d] s t { s.dev with mesh := { s.dev.mesh with bds := t.dev.mesh.bds }, out := t.dev.out }) ∧
      (∀ c lane narrow, c = Instr.rotateReq k b d lane ∧ narrow = false ∨ c = Instr.narrowReq k b d lane ∧ narrow = true →
        fget s.dev RF.STR_LANE_POLICY_ROTATE_EN = 1 → bdMode s.dev k b d ≠ 3 → lane ≤ 67 → bitOf (failMask s.dev k b d) lane = false → x.phase = .running →
        pausedCount s.dev k d < 2 →
        ∃ t, exec c s = .next t ∧ SameMem s.dev t.dev ∧ bdMode t.dev k b d = 2
          ∧ bdAt t.dev k b d
              = { x with lanes := insertNat lane x.lanes, narrow := x.narrow || narrow || x.wasNarrow, phase := .draining, parked := false }
          ∧ SameBdsBut k b d s.dev t.dev ∧ OnlyIn (straitRegs k) s t { s.dev with mesh := { s.dev.mesh with bds := t.dev.mesh.bds } }) ∧
      (x.phase = .draining → x.replay = [] → bdMode s.dev k b d = 2 → x.narrow = false → (freeSpare s.dev k b d).isSome →
        ∃ t, exec (.replayBufferDrained k b d) s = .next t ∧ SameMem s.dev t.dev ∧ bdAt t.dev k b d = { x with phase := .training }
          ∧ SameBdsBut k b d s.dev t.dev ∧ OnlyIn [] s t { s.dev with mesh := { s.dev.mesh with bds := t.dev.mesh.bds } }) ∧
      (x.phase = .training →
        (x.narrow = false → ∃ t, exec (.laneTrainComplete k b d true) s = .next t ∧ SameMem s.dev t.dev
          ∧ bdAt t.dev k b d = { x with phase := .switching } ∧ t.dev.out = s.dev.out ++ [.meshCtl k b d 3 0] ∧ SameBdsBut k b d s.dev t.dev
          ∧ OnlyIn [] s t { s.dev with mesh := { s.dev.mesh with bds := t.dev.mesh.bds }, out := t.dev.out }) ∧
        (x.narrow = true → s.dev.mesh.waiting = [] → (∀ p ∈ x.lanes, p < 68) →
          ∃ t, exec (.laneTrainComplete k b d true) s = .next t ∧ SameMem s.dev t.dev
            ∧ bdMode t.dev k b d = 1 ∧ (bdAt t.dev k b d).wasNarrow = true ∧ (bdAt t.dev k b d).phase = .running
            ∧ regRead t.dev Reg.STR_CNT_NARROWINGS = (regRead s.dev Reg.STR_CNT_NARROWINGS + 1) % 2 ^ 64
            ∧ (∀ p ∈ x.lanes, bitOf (failMask t.dev k b d) p = true)
            ∧ OnlyIn (straitRegs k ++ laneRegList k b d ++ [Reg.STR_CNT_NARROWINGS] ++ logRegs) s t
                { s.dev with mesh := { s.dev.mesh with bds := t.dev.mesh.bds }, flash := t.dev.flash, log := t.dev.log })) ∧
      (∀ p q, x.phase = .switching → x.lanes = List.cons p [] → freeSpare s.dev k b d = some q → p < 64 → (∀ j, j < 4 → spareOf s.dev k b d j ≠ p) →
        s.dev.mesh.waiting = [] →
        ∃ t, exec (.rotateAck k b d true) s = .next t ∧ SameMem s.dev t.dev ∧ bdMode t.dev k b d = 0 ∧ (bdAt t.dev k b d).phase = .running
          ∧ spareOf t.dev k b d q = p ∧ bitOf (failMask t.dev k b d) p = true
          ∧ regRead t.dev Reg.STR_CNT_ROTATIONS = (regRead s.dev Reg.STR_CNT_ROTATIONS + 1) % 2 ^ 64
          ∧ OnlyIn (straitRegs k ++ laneRegList k b d ++ [Reg.STR_CNT_ROTATIONS] ++ logRegs) s t
              { s.dev with mesh := { s.dev.mesh with bds := t.dev.mesh.bds }, flash := t.dev.flash, log := t.dev.log }) ∧
      (bdMode s.dev k b d ≠ 3 → (∃ j, j < 8 ∧ j ≠ b ∧ bdMode s.dev k j d ≠ 3) →
        ∃ t, exec (.bundleDirectionLoss k b d) s = .next t ∧ SameMem s.dev t.dev ∧ bdMode t.dev k b d = 3
          ∧ t.dev.out = s.dev.out ++ [.meshCtl k b d 6 ((x.rx + 2 ^ 32 - 1) % 2 ^ 32)]
          ∧ regRead t.dev Reg.STR_CNT_BUNDLE_LOSSES = (regRead s.dev Reg.STR_CNT_BUNDLE_LOSSES + 1) % 2 ^ 64
          ∧ OnlyIn (straitRegs k ++ [Reg.STR_CNT_BUNDLE_LOSSES] ++ logRegs) s t
              { s.dev with mesh := { s.dev.mesh with bds := t.dev.mesh.bds }, out := t.dev.out, flash := t.dev.flash, log := t.dev.log }) ∧
      (x.phase = .retraining → s.dev.mesh.waiting = [] →
        ∃ t, exec (.bundleRetrainComplete k b d true) s = .next t ∧ SameMem s.dev t.dev ∧ bdMode t.dev k b d = (if x.wasNarrow then 1 else 0)
          ∧ (bdAt t.dev k b d).phase = .running ∧ (bdAt t.dev k b d).fails = 0 ∧ (bdAt t.dev k b d).wasNarrow = x.wasNarrow
          ∧ OnlyIn (straitRegs k) s t { s.dev with mesh := { s.dev.mesh with bds := t.dev.mesh.bds } }) ∧
      (∃ t, exec (.resyncQuery k b d) s = .next t ∧ SameMem s.dev t.dev
        ∧ OnlyIn [] s t { s.dev with out := s.dev.out ++ [.meshCtl k b d 6 ((x.rx + 2 ^ 32 - 1) % 2 ^ 32)] }) ∧
      (∀ last, bdMode s.dev k b d = 3 →
        ∃ t, exec (.resyncReply k b d last) s = .next t ∧ SameMem s.dev t.dev ∧ (bdAt t.dev k b d).replay = []
          ∧ (flitsBeyond last x.replay = [] → t.dev.out = s.dev.out ∧ SameBdsBut k b d s.dev t.dev)
          ∧ OnlyIn [] s t { s.dev with mesh := t.dev.mesh, out := t.dev.out }) ∧
      (fget s.dev RF.PWR_IDLE_POLICY_STRAIT_PARK_US ≠ 0 → b ≠ neverParks s.dev k d → bdMode s.dev k b d ≤ 1 → x.replay = [] →
        ∃ t, exec (.straitPark k b d) s = .next t ∧ SameMem s.dev t.dev ∧ bdAt t.dev k b d = { x with parked := true } ∧ SameBdsBut k b d s.dev t.dev
          ∧ OnlyIn [] s t { s.dev with mesh := { s.dev.mesh with bds := t.dev.mesh.bds } }) ∧
      (x.parked = true → s.dev.mesh.waiting = [] →
        ∃ t, exec (.straitUnpark k b d) s = .next t ∧ SameMem s.dev t.dev ∧ bdAt t.dev k b d = { x with parked := false } ∧ SameBdsBut k b d s.dev t.dev
          ∧ OnlyIn [] s t { s.dev with mesh := { s.dev.mesh with bds := t.dev.mesh.bds } })) ∧
    (∀ site, site ≤ 47 → (∀ i, i < 44 → siteOf s.dev i ≠ some site) →
      ∃ t, exec (.routerFail site) s = .next t ∧ SameMem s.dev t.dev ∧ (∀ k ∈ straitsOf site, 2 ≤ fget t.dev (RF.STR_STRAIT_STATUS_STATE k))
        ∧ (∀ k ∈ straitsOf site, fget s.dev (RF.STR_STRAIT_STATUS_STATE k) < 2 → fget t.dev (RF.STR_STRAIT_STATUS_STATE k) = 2 ∧ t.dev.mesh.switching = true)
        ∧ OnlyIn ((straitsOf site).flatMap straitRegs ++ [Reg.STR_CNT_STRAIT_LOSSES] ++ logRegs) s t
            { s.dev with mesh := t.dev.mesh, out := t.dev.out, flash := t.dev.flash, log := t.dev.log }) ∧
    (∀ c valid, (c = Instr.routeSwitch ∧ valid = 1 ∨ c = Instr.slowRerouteComplete ∧ valid = 0) → s.dev.mesh.switching = true →
      fget s.dev RF.STR_MESH_STATUS_STANDBY_VALID = valid → s.dev.mesh.waiting = [] →
      (∀ e ∈ [48, 49, 50, 51], ∃ k ∈ straitsOf e, straitUp s.dev k = true) →
      (∀ i n, i < 44 → siteOf s.dev i = some n → n ∈ reached s.dev) →
      ∃ t, exec c s = .next t ∧ SameMem s.dev t.dev ∧ t.dev.mesh.avoided = deadStraits s.dev ∧ t.dev.mesh.switching = false
        ∧ fget t.dev RF.STR_MESH_STATUS_ROUTE_GEN = (fget s.dev RF.STR_MESH_STATUS_ROUTE_GEN + 1) % 2 ^ 16
        ∧ fget t.dev RF.STR_MESH_STATUS_STANDBY_VALID = 0
        ∧ regRead t.dev Reg.STR_CNT_ROUTE_SWITCHES = (regRead s.dev Reg.STR_CNT_ROUTE_SWITCHES + 1) % 2 ^ 64
        ∧ regRead t.dev Reg.STR_CNT_SLOW_REROUTES = (regRead s.dev Reg.STR_CNT_SLOW_REROUTES + (1 - valid)) % 2 ^ 64
        ∧ OnlyIn ([Reg.STR_MESH_STATUS, Reg.STR_CNT_ROUTE_SWITCHES, Reg.STR_CNT_SLOW_REROUTES] ++ logRegs) s t
            { s.dev with mesh := { s.dev.mesh with avoided := t.dev.mesh.avoided, switching := false }, out := t.dev.out,
                         log := t.dev.log, flash := { s.dev.flash with romLog := t.dev.flash.romLog } }) ∧
    (s.dev.mesh.switching = false →
      ∃ t, exec .standbyRecomputeDone s = .next t ∧ SameMem s.dev t.dev ∧ fget t.dev RF.STR_MESH_STATUS_STANDBY_VALID = 1
        ∧ fget t.dev RF.STR_MESH_STATUS_ROUTE_GEN = fget s.dev RF.STR_MESH_STATUS_ROUTE_GEN ∧ OnlyIn [Reg.STR_MESH_STATUS] s t s.dev)

/-! ### Instances -/

/-- Instances (R395 to R415, R388, R393). INS_CREATE enters one with its islands, sessions and quotas, and instance 0 keeps what no other holds; INS_MEM gives it
frames, which read as zeros, and takes them back; INS_ISLANDS gives and takes islands. A reset of an instance of which nothing is under way, by INS_RESET or a
function-level reset, leaves it Running with none of its objects and under a new key; INS_DESTROY leaves it Free. INS_FREEZE begins, completes with the
instance Frozen, and INS_RESUME ends it. INS_SAVE writes the image, INS_RESTORE installs one that is sound, INS_MIG_KEY fills a key slot for a peer that passes. What
a signature, an image or a seal says is the opaque constants' (R412, R414).
The model's choices that it rests on: log entries 92, 93, 94, 95. -/
def Obligations.InstancesAndMigration : Prop :=
  ∀ (s : State) (c : Cmd) (x : Ctx) (i : Nat),
    (∀ m first n mb mr : Nat, Admits s.dev 0x90 c x → i = eb x.e 16 1 → m = eb x.e 32 8 → first = eb x.e 20 4 → n = eb x.e 24 4 → mb = eb x.e 28 2 →
      mr = eb x.e 30 2 → 1 ≤ i → i ≤ 32 → eb x.e 18 1 ≤ 2 → 0 < n → 0 < mr → m ≠ 0 → fget s.dev RF.BRG_PKG_LEVEL_ENABLED_COUNT ≤ 44 →
      m < 2 ^ fget s.dev RF.BRG_PKG_LEVEL_ENABLED_COUNT → first + n ≤ 1048576 → overlapsRange s.dev first n = false → insState s.dev i = 0 →
      heldByTenant s.dev m = false → (∀ p ∈ s.dev.fe.sessions, p.1 < first ∨ first + n ≤ p.1) →
      fget s.dev (RF.INS_ISLANDS_ISLANDS 0) &&& m ≠ fget s.dev (RF.INS_ISLANDS_ISLANDS 0) →
      tenantSum s.dev RF.INS_QUOTA_MAX_BINDINGS + mb + fget s.dev (RF.INS_QUOTA_BINDINGS_USED 0) ≤ 4096 →
      tenantSum s.dev RF.INS_QUOTA_MAX_RINGS + mr + fget s.dev (RF.INS_QUOTA_RINGS_USED 0) ≤ 4096 →
      ∃ t, exec (.insCreate c) s = .next t ∧ SameMem s.dev t.dev ∧ Completes s.dev t.dev x Ret.ok
        ∧ insState t.dev i = (if bitOf (eb x.e 17 1) 0 then 3 else 1) ∧ fget t.dev (RF.INS_STATUS_RESTORE_TARGET i) = b2n (bitOf (eb x.e 17 1) 0)
        ∧ fget t.dev (RF.INS_STATUS_REACH i) = eb x.e 18 1 ∧ fget t.dev (RF.INS_SESSIONS_FIRST i) = first ∧ fget t.dev (RF.INS_SESSIONS_COUNT i) = n
        ∧ fget t.dev (RF.INS_QUOTA_MAX_BINDINGS i) = mb ∧ fget t.dev (RF.INS_QUOTA_MAX_RINGS i) = mr ∧ fget t.dev (RF.INS_ISLANDS_ISLANDS i) = m
        ∧ fget t.dev (RF.INS_ISLANDS_ISLANDS 0)
            = (2 ^ fget s.dev RF.BRG_PKG_LEVEL_ENABLED_COUNT - 1) ^^^ tenants.foldl (fun a k => a ||| fget t.dev (RF.INS_ISLANDS_ISLANDS k)) 0
        ∧ fget t.dev (RF.INS_STATUS_KEY_GEN i) = (fget s.dev (RF.INS_STATUS_KEY_GEN i) + 1) % 2 ^ 16
        ∧ OnlyCmd ([0, i].flatMap (fun k => [Reg.INS_STATUS k, Reg.INS_SESSIONS k, Reg.INS_QUOTA k, Reg.INS_ISLANDS k])) s t x
            { s.dev with ins := { s.dev.ins with unfilled := t.dev.ins.unfilled } }) ∧
    (∀ first n : Nat, i = eb x.e 16 1 → i ≤ 32 → first = eb x.e 20 4 → n = eb x.e 24 4 → 0 < n → framesMapped s.dev first n = true → insState s.dev i ≠ 0 →
      insState s.dev i ≠ 4 → (insState s.dev i = 2 ∨ insState s.dev i = 3 → i ∈ s.dev.ins.unfilled) →
      (Admits s.dev 0x91 c x → eb x.e 17 1 = 0 → (∀ fr ∈ runOf first n, reservedFrame s.dev fr = false ∧ ownerOf s.dev fr = 0xFF) →
        ∃ t, exec (.insMemAssign c) s = .next t ∧ Completes s.dev t.dev x Ret.ok
          ∧ (∀ fr, ownerOf t.dev fr = if first ≤ fr ∧ fr < first + n then i else ownerOf s.dev fr)
          ∧ (∀ a, dramByte t.dev.dram a = if first ≤ a / 2 ^ 21 ∧ a / 2 ^ 21 < first + n then 0 else dramByte s.dev.dram a)
          ∧ (∀ sec, dramPoisoned t.dev.dram sec = (dramPoisoned s.dev.dram sec && !(decide (first ≤ sec / 2 ^ 16) && decide (sec / 2 ^ 16 < first + n))))
          ∧ OnlyCmd [Reg.INS_FRAMES i, Reg.MEM_CNT_HOLE_WRITES] s t x
              { s.dev with ins := { s.dev.ins with owner := t.dev.ins.owner },
                           mem := { s.dev.mem with writes := t.dev.mem.writes, wcb := t.dev.mem.wcb } }) ∧
      (∀ (s1 : Dev) (mig : List Nat), Admits s.dev 0x91 c x → eb x.e 17 1 = 1 → migFrames s.dev i = (s1, mig) → s1.blocked = [] →
        s1.fe = s.dev.fe → s1.ins = s.dev.ins → s1.shore = s.dev.shore →
        (∀ fr ∈ runOf first n, owns s1 i fr = true ∧ inPool s1 fr = false ∧ fr ∉ mig ∧ inExport s1 fr = false ∧ holdsRing s1 fr = false) →
        framesMapped s1 first n = true → insState s1 i = insState s.dev i →
        (∀ p ∈ s1.shore.dir, p.1 / 2 ^ 15 < first ∨ first + n ≤ p.1 / 2 ^ 15) →
        ∃ t, exec (.insMemRelease c) s = .next t ∧ Completes s1 t.dev x Ret.ok ∧ SameBytes s1 t.dev
          ∧ (∀ fr, ownerOf t.dev fr = if first ≤ fr ∧ fr < first + n then 0xFF else ownerOf s1 fr)
          ∧ (∀ k, lineAt t.dev k = if first ≤ k / 2 ^ 15 ∧ k / 2 ^ 15 < first + n then none else lineAt s1 k)
          ∧ (∀ n, sesAt t.dev n = sesAt s1 n) ∧ t.dev.cores = s1.cores ∧ t.dev.disp = s1.disp)) ∧
    (∀ m : Nat, i = eb x.e 16 1 → 1 ≤ i → i ≤ 32 → m = eb x.e 24 8 → m ≠ 0 → m < 2 ^ 44 → fget s.dev RF.BRG_PKG_LEVEL_ENABLED_COUNT ≤ 44 →
      insState s.dev i ≠ 0 → insState s.dev i ≠ 4 → (insState s.dev i = 2 ∨ insState s.dev i = 3 → i ∈ s.dev.ins.unfilled) → Admits s.dev 0x92 c x →
      (eb x.e 17 1 = 0 → fget s.dev (RF.INS_ISLANDS_ISLANDS 0) &&& m = m → fget s.dev (RF.INS_ISLANDS_ISLANDS 0) ≠ m →
        ∃ t, exec (.insIslandsAdd c) s = .next t ∧ SameMem s.dev t.dev ∧ Completes s.dev t.dev x Ret.ok
          ∧ fget t.dev (RF.INS_ISLANDS_ISLANDS i) = fget s.dev (RF.INS_ISLANDS_ISLANDS i) ||| m
          ∧ OnlyCmd ([0, i].flatMap (fun k => [Reg.INS_STATUS k, Reg.INS_SESSIONS k, Reg.INS_QUOTA k, Reg.INS_ISLANDS k])) s t x s.dev) ∧
      (eb x.e 17 1 = 1 → fget s.dev (RF.INS_ISLANDS_ISLANDS i) &&& m = m → fget s.dev (RF.INS_ISLANDS_ISLANDS i) ≠ m →
        (∀ p ∈ s.dev.fe.bindings, p.2.inst = i → p.2.islands &&& m = 0) → (∀ p ∈ s.dev.disp, ∀ k ∈ p.2.got, bitOf m k = false) →
        ∃ t, exec (.insIslandsRemove c) s = .next t ∧ SameMem s.dev t.dev ∧ Completes s.dev t.dev x Ret.ok
          ∧ fget t.dev (RF.INS_ISLANDS_ISLANDS i) = fget s.dev (RF.INS_ISLANDS_ISLANDS i) ^^^ m
          ∧ OnlyCmd ([0, i].flatMap (fun k => [Reg.INS_STATUS k, Reg.INS_SESSIONS k, Reg.INS_QUOTA k, Reg.INS_ISLANDS k])) s t x s.dev)) ∧
    (1 ≤ i → i ≤ 32 → x.inst ≠ i → x.ring < 4096 → insState s.dev i ≠ 0 → insState s.dev i ≠ 4 → (∀ j, j < 33 → insState s.dev j ≠ 4) →
      tget s.dev.ins.after i = none → i ∉ s.dev.ins.stopping → s.dev.disp = [] → s.dev.mem.moves = [] → s.dev.xl.invals = [] → s.dev.fab.comms = [] →
      s.dev.traces = [] → s.dev.shore.dir = [] → s.dev.shore.txn = [] → (∀ e ∈ s.dev.fe.store, e.phase ≠ 1 ∧ e.inst ≤ 32 ∧ e.ring < 4096) →
      (∀ a b : StoreEntry, a ∈ s.dev.fe.store → b ∈ s.dev.fe.store → cmdKey a.inst a.ring a.pos = cmdKey b.inst b.ring b.pos → a = b) →
      s.dev.fe.store.Nodup →
      (∀ mk op after, (mk, op, after) ∈ [(Instr.insReset, 0x94, 1), (Instr.insDestroy, 0x93, 0)] → Admits s.dev op c x → i = eb x.e 16 1 →
        (after = 0 → fget s.dev (RF.HST_BIND_STATUS_BOUND i) ≠ 1) →
        ∃ t, exec (mk c) s = .next t ∧ Completes s.dev t.dev x Ret.ok ∧ insState t.dev i = after
          ∧ regRead t.dev (Reg.INS_CNT_RESETS i) = (regRead s.dev (Reg.INS_CNT_RESETS i) + 1) % 2 ^ 64
          ∧ fget t.dev (RF.INS_STATUS_KEY_GEN i) = (fget s.dev (RF.INS_STATUS_KEY_GEN i) + 1) % 2 ^ 16
          ∧ (∀ p ∈ t.dev.fe.sessions, p.2.inst ≠ i) ∧ (∀ p ∈ t.dev.fe.bindings, p.2.inst ≠ i) ∧ (∀ p ∈ t.dev.ins.exports, p.2.inst ≠ i)
          ∧ (∀ k, k / 4096 = i → ringAt t.dev k = none) ∧ (∀ k, k / 4096 ≠ i → k ≠ ringKey x.inst x.ring → ringAt t.dev k = ringAt s.dev k)
          ∧ (∀ a, a / 2 ^ 21 ∉ framesOf s.dev i → dramByte t.dev.dram a = dramByte s.dev.dram a)
          ∧ (after = 1 → t.dev.ins.owner = s.dev.ins.owner)
          ∧ (after = 0 → framesOf t.dev i = [] ∧ fget t.dev (RF.INS_ISLANDS_ISLANDS i) = 0)) ∧
      (∀ ide, serving s.dev = true → s.dev.blocked = [] → fget s.dev (RF.HST_BIND_STATUS_TDISP i) ≠ 1 → fget s.dev (RF.HST_BIND_STATUS_TDISP i) ≠ 2 →
        ∃ t, exec (.vfFlr i ide) s = .next t ∧ insState t.dev i = 1
          ∧ regRead t.dev (Reg.INS_CNT_RESETS i) = (regRead s.dev (Reg.INS_CNT_RESETS i) + 1) % 2 ^ 64
          ∧ fget t.dev (RF.INS_STATUS_KEY_GEN i) = (fget s.dev (RF.INS_STATUS_KEY_GEN i) + 1) % 2 ^ 16
          ∧ (∀ p ∈ t.dev.fe.sessions, p.2.inst ≠ i) ∧ (∀ p ∈ t.dev.fe.bindings, p.2.inst ≠ i) ∧ (∀ k, k / 4096 = i → ringAt t.dev k = none)
          ∧ (∀ k, k / 4096 ≠ i → ringAt t.dev k = ringAt s.dev k)
          ∧ (∀ a, a / 2 ^ 21 ∉ framesOf s.dev i → dramByte t.dev.dram a = dramByte s.dev.dram a) ∧ t.dev.ins.owner = s.dev.ins.owner)) ∧
    (Admits s.dev 0x95 c x → i = eb x.e 16 1 → 1 ≤ i → i ≤ 32 → insState s.dev i = 1 → jnlMode s.dev i ≠ 2 →
      ∃ t, exec (.insFreeze c) s = .next t ∧ SameMem s.dev t.dev ∧ Begins t.dev x ∧ insState t.dev i = 2 ∧ OnlyCmd [Reg.INS_STATUS i] s t x s.dev) ∧
    (∀ (e : StoreEntry) (key : Nat), insState s.dev i = 2 → i ≤ 32 → quiet s.dev i = true → begunFor s.dev 0x95 i = List.cons key [] →
      storeAt s.dev key = some e → entryOp e.entry = 0x95 → e.inst ≤ 34 →
      ∃ t, exec (.freezeComplete i) s = .next t ∧ SameMem s.dev t.dev ∧ insState t.dev i = 3 ∧ Completes s.dev t.dev (laterCtx e) Ret.ok
        ∧ (∀ n ∈ t.dev.fe.cache, holderOfSession s.dev n ≠ i)
        ∧ OnlyCmd [Reg.INS_STATUS i] s t (laterCtx e) { s.dev with fe := { s.dev.fe with cache := t.dev.fe.cache } }) ∧
    (∀ s1 mine, Admits s.dev 0x96 c x → i = eb x.e 16 1 → 1 ≤ i → i ≤ 32 → insState s.dev i = 3 → i ∉ s.dev.ins.unfilled →
      mine = s.dev.fe.rings.filter (fun p => p.1 / 4096 == i) → retranslateAll s.dev mine = (s1, 0) → s1.blocked = [] → s1.fe.store = s.dev.fe.store →
      ∃ t, exec (.insResume c) s = .next t ∧ SameMem s1 t.dev ∧ Completes s1 t.dev x Ret.ok ∧ insState t.dev i = 1
        ∧ fget t.dev (RF.INS_STATUS_RESTORE_TARGET i) = 0 ∧ (∀ p ∈ mine, p.1 ∈ t.dev.fe.woken)
        ∧ OnlyCmd [Reg.INS_STATUS i, Reg.WCH_STATUS] { s with dev := s1 } t x { s1 with fe := { s1.fe with woken := t.dev.fe.woken } }) ∧
    (∀ slot va len key : Nat, i = eb x.e 16 1 → 1 ≤ i → i ≤ 32 → slot = eb x.e 17 1 → slot ≤ 7 → va = eb x.e 24 8 → len = eb x.e 32 8 → va % 4096 = 0 →
      insState s.dev i = 3 →
      (∀ s1 s2 m, Admits s.dev 0x97 c x → vaCheck s.dev 0 va len 1 = (s1, 0) → s1.ins = s.dev.ins → s1.trust = s.dev.trust →
        insState s1 i = 3 → slotKey s.dev slot 0 = some key → fget s1 (RF.FLT_STATUS_UNRESUMED i) = 0 → s2 = flushInstance s1 i → m = imageOf s2 i →
        imageBytes m ≤ len →
        ∃ (t : State) (s3 : Dev), exec (.insSave c) s = .next t ∧ s3 = (vaWrite s2 0 va ((Config.sealImage key m).take (imageBytes m))).1
          ∧ (s3.blocked = [] → s3.fe.store = s.dev.fe.store → s3.fe.rings = s.dev.fe.rings → SameMem s3 t.dev ∧ Completes s3 t.dev x Ret.ok
            ∧ tget t.dev.trust.slots slot = none
            ∧ OnlyCmd [] { s with dev := s3 } t x { s3 with trust := { s3.trust with slots := tdel s3.trust.slots slot } })) ∧
      (∀ s1 s2 bytes code, Admits s.dev 0x98 c x → x.inst ≠ i → (∀ j, j < 33 → insState s.dev j ≠ 4) → vaCheck s.dev 0 va len 0 = (s1, 0) →
        vaGiven s1 0 va len x.payload = (s2, bytes, code) → s2.blocked = [] → s1.trust = s.dev.trust → s1.ins = s.dev.ins → s2.ins = s.dev.ins →
        s2.trust = s.dev.trust → s2.fe = s.dev.fe → (∀ j, j < 33 → insState s1 j = insState s.dev j ∧ insState s2 j = insState s.dev j) →
        slotKey s.dev slot 1 = some key → i ∈ s.dev.ins.unfilled →
        ∃ t, exec (.insRestore c) s = .next t
          ∧ (Config.openHead key bytes = none → Completes s2 t.dev x { Ret.ok with status := eAuth } ∧ t.dev.ins = s.dev.ins)
          ∧ ∀ h, Config.openHead key bytes = some h →
              (imageCode s2 i h ≠ 0 → Completes s2 t.dev x { Ret.ok with status := imageCode s2 i h } ∧ t.dev.ins = s.dev.ins)
              ∧ ∀ m s3, imageCode s2 i h = 0 → Config.openAll key bytes = some m → s3 = installImage s2 i m → s3.blocked = [] →
                  s3.fe.store = s.dev.fe.store → ringAt s3 (ringKey x.inst x.ring) = ringAt s.dev (ringKey x.inst x.ring) →
                  (∀ j, j < 33 → insState s3 j = insState s.dev j) →
                  Completes s3 t.dev x Ret.ok ∧ SameMem s3 t.dev ∧ i ∉ t.dev.ins.unfilled ∧ tget t.dev.trust.slots slot = none
                    ∧ fget t.dev (RF.INS_STATUS_KEY_GEN i) = m.keyGen % 2 ^ 16)) ∧
    (∀ slot role path d key chain measured, Admits s.dev 0x99 c x → slot = eb x.e 16 1 → role = eb x.e 17 1 → path = eb x.e 18 1 → d = eb x.e 20 2 →
      slot ≤ 7 → role ≤ 1 → path ≤ 1 → (path = 0 → d ≤ 32767 ∧ fabReach s.dev d = true) →
      ∃ t, exec (.insMigKey c chain measured key) s = .next t ∧ SameMem s.dev t.dev
        ∧ (if Config.verifies 0 chain = true ∧ measuredOk s.dev measured = true then
            Completes s.dev t.dev x Ret.ok ∧ tget t.dev.trust.slots slot = some (role, key)
              ∧ regRead t.dev Reg.FAB_CNT_AUTH_FAILS = regRead s.dev Reg.FAB_CNT_AUTH_FAILS
          else
            Completes s.dev t.dev x { Ret.ok with status := eAuth } ∧ tget t.dev.trust.slots slot = tget s.dev.trust.slots slot
              ∧ regRead t.dev Reg.FAB_CNT_AUTH_FAILS = (regRead s.dev Reg.FAB_CNT_AUTH_FAILS + 1) % 2 ^ 64)
        ∧ (∀ j, j ≠ slot → tget t.dev.trust.slots j = tget s.dev.trust.slots j)
        ∧ OnlyCmd [Reg.FAB_CNT_AUTH_FAILS] s t x { s.dev with trust := { s.dev.trust with slots := t.dev.trust.slots } })

/-! ### Trust and the audit log -/

/-- Trust and audit (R30, R429, R431, R435, R439 to R444, R424). PKG_MANIFEST, LOG_READ and LOG_CHECKPOINT_READ return the manifest, the entries from FIRST on,
and a checkpoint that is held; a checkpoint is begun on command, signed in its turn and copied to flash; PERM_SET, ADMIT_POLICY_SET and SB_ROOT_SET
write what they name; FW_STAGE writes an image that passes to the other slot, and FW_COMMIT_SVN raises the fused SVN.
The model's choices that it rests on: log entries 74, 75, 101, 102, 103. -/
def Obligations.TrustAndLog : Prop :=
  ∀ (s : State) (c : Cmd) (x : Ctx),
    (Admits s.dev 0x50 c x → 3520 ≤ eb x.e 32 4 → eb x.e 24 8 % 64 = 0 →
      ∃ t, exec (.pkgManifest c) s = .next t ∧ (manifest s.dev).length = 3520 ∧ Gives s t x (eb x.e 24 8) (manifest s.dev) Ret.ok) ∧
    (∀ first count va l, Admits s.dev 0xA1 c x → first = eb x.e 24 8 → count = eb x.e 32 4 → va = eb x.e 40 8 → 0 < count → count ≤ 327680 →
      first ≤ regRead s.dev Reg.LOG_HEAD → 192 * count ≤ eb x.e 48 4 → va % 64 = 0 → l = (s.dev.log.entries.filter (fun p => decide (first ≤ p.1))).take count →
      ∃ t, exec (.logRead c) s = .next t
        ∧ Gives s t x va
            (l.flatMap (fun p => if x.origin = 2 ∧ p.2.inst ≠ x.inst ∧ p.2.inst ≠ 0xFF then redactedEntry p.2 else wholeEntry p.2))
            { Ret.ok with r0 := l.length, r1 := ((l.head?).map (·.1)).getD first }) ∧
    (∀ p, Admits s.dev 0xA2 c x → tget s.dev.log.cps (eb x.e 24 8) = some p → (p.inRing = true ∨ p.inFlash = true) → eb x.e 40 8 % 4096 = 0 →
      ∃ t, exec (.logCheckpointRead c) s = .next t ∧ (checkpointImage s.dev p).length = 8192
        ∧ Gives s t x (eb x.e 40 8) (checkpointImage s.dev p) Ret.ok) ∧
    (∀ n, Admits s.dev 0xA3 c x → n = s.dev.log.cpNext →
      ∃ t, exec (.logCheckpointNow c) s = .next t ∧ SameMem s.dev t.dev
        ∧ (if hasNew s.dev then
            Completes s.dev t.dev x { Ret.ok with r0 := n }
              ∧ (tget t.dev.log.cps n).map (fun p => (p.number, p.kind, p.last, p.chain, p.signed)) = some (n, 1, s.dev.log.next - 1, s.dev.log.chain, false)
          else Completes s.dev t.dev x { Ret.ok with r0 := n - 1 })
        ∧ OnlyCmd [] s t x s.dev) ∧
    (∀ (n : Nat) (p : Checkpoint), tget s.dev.log.cps n = some p → s.dev.start.primary = true → n < 2 ^ 64 →
      (p.signed = false → (∀ q ∈ s.dev.log.cps, n ≤ q.1 ∨ q.2.signed = true) →
        ∃ t, exec (.checkpointSigned n) s = .next t ∧ SameMem s.dev t.dev ∧ regRead t.dev Reg.LOG_CP_LAST = n
          ∧ regRead t.dev Reg.LOG_CNT_CHECKPOINTS = (regRead s.dev Reg.LOG_CNT_CHECKPOINTS + 1) % 2 ^ 64
          ∧ tget t.dev.log.cps n = some { p with
              signed := true, inRing := fget s.dev RF.BRG_ERR_STATUS_FATAL == 0 && fget s.dev RF.BRG_START_STATUS_STAGE == 9 }
          ∧ (∀ k, k ≠ n → k + 512 ≠ n → tget t.dev.log.cps k = tget s.dev.log.cps k)
          ∧ OnlyIn [Reg.LOG_CNT_CHECKPOINTS, Reg.LOG_CP_LAST] s t { s.dev with log := { s.dev.log with cps := t.dev.log.cps } }) ∧
      (p.signed = true → p.inFlash = false →
        (∃ t, exec (.checkpointFlashCopy n true) s = .next t ∧ SameMem s.dev t.dev ∧ tget t.dev.log.cps n = some { p with inFlash := true }
          ∧ (∀ k, k ≠ n → k + 2048 ≠ n → tget t.dev.log.cps k = tget s.dev.log.cps k)
          ∧ OnlyIn [] s t { s.dev with log := { s.dev.log with cps := t.dev.log.cps } }) ∧
        ∃ t, exec (.checkpointFlashCopy n false) s = .next t ∧ SameMem s.dev t.dev
          ∧ regRead t.dev Reg.LOG_CNT_FLASH_FAILS = (regRead s.dev Reg.LOG_CNT_FLASH_FAILS + 1) % 2 ^ 64
          ∧ t.dev.log.lastFlashFails = regRead t.dev Reg.LOG_CNT_FLASH_FAILS
          ∧ OnlyIn ([Reg.LOG_CNT_FLASH_FAILS] ++ logRegs) s t
              { s.dev with log := t.dev.log, flash := { s.dev.flash with romLog := t.dev.flash.romLog } })) ∧
    (∀ row clr set new : Nat, Admits s.dev 0xA4 c x → row = eb x.e 16 1 → clr = eb x.e 17 1 → set = eb x.e 18 1 → (x.origin = 1 → set = 0) → row ≤ 16 →
      fget s.dev (RF.SEC_PERM_FIXED row) ≠ 1 → set &&& (31 - fget s.dev (RF.SEC_PERM_CEILING row)) = 0 →
      new = (fget s.dev (RF.SEC_PERM_EFFECTIVE row) &&& (31 - clr)) ||| set →
      ∃ t, exec (.permSet c) s = .next t ∧ SameMem s.dev t.dev ∧ Completes s.dev t.dev x Ret.ok ∧ fget t.dev (RF.SEC_PERM_EFFECTIVE row) = new
        ∧ fget t.dev (RF.SEC_PERM_CEILING row) = fget s.dev (RF.SEC_PERM_CEILING row) ∧ fget t.dev (RF.SEC_PERM_FIXED row) = fget s.dev (RF.SEC_PERM_FIXED row)
        ∧ tget t.dev.flash.perms row = some new
        ∧ OnlyCmd [Reg.SEC_PERM row] s t x { s.dev with flash := { s.dev.flash with perms := t.dev.flash.perms } }) ∧
    (∀ n s1 b, Admits s.dev 0xA5 c x → n = eb x.e 18 1 → n ≤ 16 → cmdBuffer s.dev x (eb x.e 24 8) (64 * n) = (s1, b, 0) → s1.blocked = [] →
      s1.fe = s.dev.fe →
      ∃ t, exec (.admitPolicySet c) s = .next t ∧ SameMem s1 t.dev ∧ Completes s1 t.dev x Ret.ok
        ∧ OnlyCmd [] { s with dev := s1 } t x { s1 with
            flash := { s1.flash with minSvn := eb x.e 16 2, allowed := (List.range n).map (fun i => (b.drop (64 * i)).take 64) } }) ∧
    (∀ n s1 b, Admits s.dev 0xA6 c x → n = eb x.e 32 4 → n ≤ 2 ^ 25 → eb x.e 36 1 ≤ 1 → cmdBuffer s.dev x (eb x.e 24 8) n = (s1, b, 0) →
      s1.blocked = [] → s1.fe = s.dev.fe → fget s1 RF.BRG_START_STATUS_RECOVERY = 0 →
      ∃ t, exec (.fwStage c) s = .next t ∧ SameMem s1 t.dev
        ∧ (if imagePasses s1 (fwImageOf b) then
            Completes s1 t.dev x Ret.ok ∧ tget t.dev.flash.slots (1 - fget s1 RF.SEC_STATUS_SLOT) = some (fwImageOf b)
              ∧ t.dev.flash.active = (if eb x.e 36 1 = 1 then 1 - fget s1 RF.SEC_STATUS_SLOT else s1.flash.active)
          else Completes s1 t.dev x { Ret.ok with status := eAuth } ∧ t.dev.flash.slots = s1.flash.slots ∧ t.dev.flash.active = s1.flash.active)
        ∧ (∀ j, j ≠ 1 - fget s1 RF.SEC_STATUS_SLOT → tget t.dev.flash.slots j = tget s1.flash.slots j)
        ∧ OnlyCmd [Reg.SES_CNT_REJECTS, Reg.LOG_CNT_AUTH_FAILS] { s with dev := s1 } t x
            { s1 with flash := { s1.flash with slots := t.dev.flash.slots, active := t.dev.flash.active } }) ∧
    (Admits s.dev 0xA7 c x → s.dev.flash.fusedSvn < fget s.dev RF.SEC_STATUS_IMAGE_SVN → s.dev.flash.raises < 63 →
      ∃ t, exec (.fwCommitSvn c) s = .next t ∧ SameMem s.dev t.dev ∧ Completes s.dev t.dev x Ret.ok
        ∧ fget t.dev RF.SEC_STATUS_FUSED_SVN = fget s.dev RF.SEC_STATUS_IMAGE_SVN
        ∧ fget t.dev RF.SEC_STATUS_IMAGE_SVN = fget s.dev RF.SEC_STATUS_IMAGE_SVN
        ∧ OnlyCmd [Reg.SEC_STATUS] s t x { s.dev with
            flash := { s.dev.flash with fusedSvn := fget s.dev RF.SEC_STATUS_IMAGE_SVN, raises := s.dev.flash.raises + 1 } }) ∧
    (∀ s1 b, Admits s.dev 0xA8 c x → cmdBuffer s.dev x (eb x.e 24 8) 64 = (s1, b, 0) → s1.blocked = [] → s1.fe = s.dev.fe →
      ∃ t, exec (.sbRootSet c) s = .next t ∧ SameMem s1 t.dev ∧ Completes s1 t.dev x Ret.ok ∧ fget t.dev RF.SEC_STATUS_SB_ROOT_VALID = 1
        ∧ (∀ j, j < 8 → regRead t.dev (Reg.SEC_SB_ROOT j) = ofLe ((b.drop (8 * j)).take 8))
        ∧ OnlyCmd ([Reg.SEC_STATUS] ++ (List.range 8).map Reg.SEC_SB_ROOT) { s with dev := s1 } t x
            { s1 with flash := { s1.flash with sbRoot := some b } })

/-! ### The host port -/

/-- Bindings and the link (R370 to R373, R378 to R381, R389, R390). HOST_BIND forms a binding with its ranges; HOST_UNBIND and a completion that never comes end
one. The link trains: with CXL in 256 B flits binding 0 is formed with a new epoch; without a link the port shows none; a retry is counted, and when retries
are exhausted the link retrains. When the link stays down, or on a hot reset, the coherent host departs: no line of its memory stays, and its epoch ends.
The model's choices that it rests on: log entry 88. -/
def Obligations.HostBindingsAndLink : Prop :=
  ∀ (s : State),
    (∀ (c : Cmd) (x : Ctx) (placed : Bool) (fn n : Nat), Admits s.dev 0x80 c x → fn = eb x.e 16 1 → 1 ≤ fn → fn ≤ 32 → n = eb x.e 18 1 → (n = 1 ∨ n = 2) →
      (∀ o ∈ [24, 40], o = 24 ∨ n = 2 → eb x.e o 8 % 4096 = 0 ∧ (eb x.e (o + 8) 8 + 1) % 4096 = 0 ∧ eb x.e o 8 ≤ eb x.e (o + 8) 8
        ∧ eb x.e (o + 8) 8 < 2 ^ 52) → (n = 1 → eb x.e 40 8 = 0 ∧ eb x.e 48 8 = 0) → (x.origin = 3 → bitOf (eb x.e 17 1) 0 = true → placed = true) →
      fget s.dev (RF.HST_BIND_STATUS_TDISP fn) ≠ 1 → fget s.dev (RF.HST_BIND_STATUS_TDISP fn) ≠ 2 → fget s.dev (RF.HST_BIND_STATUS_BOUND fn) = 0 →
      ∃ t, exec (.hostBind c placed) s = .next t ∧ SameMem s.dev t.dev ∧ Completes s.dev t.dev x Ret.ok ∧ fget t.dev (RF.HST_BIND_STATUS_BOUND fn) = 1
        ∧ fget t.dev (RF.HST_BIND_STATUS_COHERENT fn) = b2n (bitOf (eb x.e 17 1) 0)
        ∧ fget t.dev (RF.HST_BIND_STATUS_TDISP fn) = fget s.dev (RF.HST_BIND_STATUS_TDISP fn)
        ∧ fget t.dev (RF.HST_BIND_STATUS_GENERATION fn) = (fget s.dev (RF.HST_BIND_STATUS_GENERATION fn) + 1) % 2 ^ 16
        ∧ regRead t.dev (Reg.HST_BIND_BASE0 fn) = eb x.e 24 8 ∧ regRead t.dev (Reg.HST_BIND_LIMIT0 fn) = eb x.e 32 8
        ∧ regRead t.dev (Reg.HST_BIND_BASE1 fn) = eb x.e 40 8 ∧ regRead t.dev (Reg.HST_BIND_LIMIT1 fn) = eb x.e 48 8
        ∧ OnlyCmd [Reg.HST_BIND_STATUS fn, Reg.HST_BIND_BASE0 fn, Reg.HST_BIND_LIMIT0 fn, Reg.HST_BIND_BASE1 fn, Reg.HST_BIND_LIMIT1 fn] s t x s.dev) ∧
    (∀ (c : Cmd) (x : Ctx) (fn : Nat), 1 ≤ fn → fn ≤ 32 → fget s.dev (RF.HST_BIND_STATUS_BOUND fn) = 1 →
      (Admits s.dev 0x81 c x → fn = eb x.e 16 1 → fget s.dev (RF.HST_BIND_STATUS_TDISP fn) ≠ 1 → fget s.dev (RF.HST_BIND_STATUS_TDISP fn) ≠ 2 →
        ∃ t, exec (.hostUnbind c) s = .next t ∧ SameMem s.dev t.dev ∧ Completes s.dev t.dev x Ret.ok ∧ fget t.dev (RF.HST_BIND_STATUS_BOUND fn) = 0
          ∧ tget t.dev.trust.conns fn = none ∧ (∀ p ∈ t.dev.xl.l2, p.2.inst = fn → inHost p.2.loc = false)
          ∧ (∀ h, h ≤ 32 → h ≠ fn → regRead t.dev (Reg.HST_BIND_STATUS h) = regRead s.dev (Reg.HST_BIND_STATUS h))) ∧
      (coherentBinding s.dev fn = false →
        ∃ t, exec (.cxlioCompletionTimeout fn) s = .next t ∧ SameMem s.dev t.dev ∧ fget t.dev (RF.HST_BIND_STATUS_BOUND fn) = 0
          ∧ tget t.dev.trust.conns fn = none ∧ (∀ p ∈ t.dev.xl.l2, p.2.inst = fn → inHost p.2.loc = false)
          ∧ regRead t.dev Reg.HST_CNT_HOST_DEPARTS = (regRead s.dev Reg.HST_CNT_HOST_DEPARTS + 1) % 2 ^ 64
          ∧ (∀ h, h ≤ 32 → h ≠ fn → regRead t.dev (Reg.HST_BIND_STATUS h) = regRead s.dev (Reg.HST_BIND_STATUS h)))) ∧
    (∀ u : LinkUp, 8 ≤ fget s.dev RF.BRG_START_STATUS_STAGE → fget s.dev RF.BRG_ERR_STATUS_FATAL = 0 → linkLegal u = true →
      (u.link = 3 → u.flit256 = true → fget s.dev (RF.HST_BIND_STATUS_BOUND 0) = 0 →
        ∃ t, exec (.linkTraining u) s = .next t ∧ SameMem s.dev t.dev ∧ fget t.dev RF.HST_STATUS_LINK = 3 ∧ fget t.dev RF.HST_STATUS_FLIT256 = 1
          ∧ fget t.dev RF.HST_STATUS_SPEED = u.speed ∧ fget t.dev RF.HST_STATUS_WIDTH = u.width
          ∧ fget t.dev RF.HST_STATUS_USABLE_GBPS = usableGbps true u.speed u.width
          ∧ fget t.dev RF.HST_STATUS_CACHE_EN = 1 ∧ fget t.dev RF.HST_STATUS_MEM_EN = 1 ∧ fget t.dev RF.HST_STATUS_HOST_VALID = 1
          ∧ fget t.dev (RF.HST_BIND_STATUS_BOUND 0) = 1 ∧ fget t.dev (RF.HST_BIND_STATUS_COHERENT 0) = 1
          ∧ fget t.dev (RF.SHC_EPOCH_EPOCH 64) = (fget s.dev (RF.SHC_EPOCH_EPOCH 64) + 1) % 2 ^ 16 ∧ fget t.dev (RF.SHC_EPOCH_VALID 64) = 1
          ∧ OnlyIn ([Reg.HST_STATUS, Reg.HST_BIND_STATUS 0, Reg.SHC_EPOCH 64] ++ logRegs) s t
              { s.dev with ins := { s.dev.ins with bar0 := t.dev.ins.bar0, bar2 := t.dev.ins.bar2 }, host := { s.dev.host with wide := true },
                           log := t.dev.log, flash := { s.dev.flash with romLog := t.dev.flash.romLog } }) ∧
      (u.link < 2 →
        ∃ t, exec (.linkTraining u) s = .next t ∧ SameMem s.dev t.dev ∧ fget t.dev RF.HST_STATUS_LINK = u.link
          ∧ (∀ f ∈ [RF.HST_STATUS_FLIT256, RF.HST_STATUS_LOPT, RF.HST_STATUS_SPEED, RF.HST_STATUS_WIDTH, RF.HST_STATUS_USABLE_GBPS, RF.HST_STATUS_CACHE_EN,
              RF.HST_STATUS_MEM_EN, RF.HST_STATUS_IDE_LINK, RF.HST_STATUS_IDE_STREAMS], fget t.dev f = 0)
          ∧ fget t.dev RF.HST_STATUS_HOST_VALID = fget s.dev RF.HST_STATUS_HOST_VALID
          ∧ OnlyIn [Reg.HST_STATUS] s t { s.dev with host := { s.dev.host with streams := [] } })) ∧
    (2 ≤ fget s.dev RF.HST_STATUS_LINK →
      (∃ t, exec (.linkRetry false) s = .next t ∧ SameMem s.dev t.dev
        ∧ regRead t.dev Reg.HST_CNT_LINK_RETRIES = (regRead s.dev Reg.HST_CNT_LINK_RETRIES + 1) % 2 ^ 64 ∧ OnlyIn [Reg.HST_CNT_LINK_RETRIES] s t s.dev) ∧
      ∃ t, exec (.linkRetry true) s = .next t ∧ SameMem s.dev t.dev ∧ fget t.dev RF.HST_STATUS_LINK = 1 ∧ fget t.dev RF.HST_STATUS_CACHE_EN = 0
        ∧ fget t.dev RF.HST_STATUS_HOST_VALID = fget s.dev RF.HST_STATUS_HOST_VALID
        ∧ OnlyIn ([Reg.HST_STATUS] ++ logRegs) s t
            { s.dev with log := t.dev.log, flash := { s.dev.flash with romLog := t.dev.flash.romLog } }) ∧
    (∀ c : Instr, (c = .linkDownTimeout ∧ fget s.dev RF.HST_STATUS_LINK < 2 ∨ c = .hotReset) → fget s.dev (RF.HST_BIND_STATUS_BOUND 0) = 1 →
      s.dev.shore.dir = [] → s.dev.shore.txn = [] → s.dev.shore.queue = [] → s.dev.net = [] → s.dev.cores = [] →
      ∃ t, exec c s = .next t ∧ SameMem s.dev t.dev ∧ fget t.dev RF.HST_STATUS_HOST_VALID = 0 ∧ fget t.dev (RF.SHC_EPOCH_VALID 64) = 0
        ∧ fget t.dev (RF.SHC_EPOCH_EPOCH 64) = fget s.dev (RF.SHC_EPOCH_EPOCH 64)
        ∧ (∀ h, h ≤ 32 → fget t.dev (RF.HST_BIND_STATUS_BOUND h) = if h ∈ coherentFns s.dev then 0 else fget s.dev (RF.HST_BIND_STATUS_BOUND h))
        ∧ (∀ k, lineAt t.dev k = if placeOf s.dev k = .host then none else lineAt s.dev k)
        ∧ (∀ h ∈ coherentFns s.dev, tget t.dev.trust.conns h = none ∧ ∀ p ∈ t.dev.xl.l2, p.2.inst = h → inHost p.2.loc = false)
        ∧ regRead t.dev Reg.HST_CNT_HOST_DEPARTS = (regRead s.dev Reg.HST_CNT_HOST_DEPARTS + 1) % 2 ^ 64
        ∧ regRead t.dev Reg.SHC_CNT_RECLAIMS = (regRead s.dev Reg.SHC_CNT_RECLAIMS + 1) % 2 ^ 64
        ∧ regRead t.dev Reg.HST_CNT_LOST_HOST_LINES = (regRead s.dev Reg.HST_CNT_LOST_HOST_LINES
            + (s.dev.shore.lines.filter (fun p => placeOf s.dev p.1 == .host && (p.2.hold == .d || p.2.hold == .pending))).length) % 2 ^ 64
        ∧ (c = .hotReset → t.dev.host.streams = [] ∧ (∀ n, n < 4 → hdmCommitted t.dev n = false))
        ∧ (c = .linkDownTimeout → t.dev.host.streams = s.dev.host.streams))

/-- CXL traffic (R377, R382, R384 to R386, R376). A CXL.mem read of a line that the coherent host may reach returns its data and enters the host in the directory as its
want says, or, for the present data alone, enters nothing; a write puts its bytes into the line; a frame that it may not reach answers poison to a read and
drops a write, and is counted. A snoop finds what this device holds of a host line. The host answers a back-invalidate; one that never comes
departs it. An access through BAR2 goes under the function's translation, and of a frozen instance is refused. Unmasking a vector sends what is pending.
The model's choices that it rests on: log entries 89, 90. -/
def Obligations.HostTraffic : Prop :=
  ∀ (s : State), serving s.dev = true → s.dev.blocked = [] →
    (∀ (hpa pa k : Nat) (s1 : Dev), fget s.dev RF.HST_STATUS_MEM_EN = 1 → fget s.dev RF.HST_STATUS_HOST_VALID = 1 →
      (hdmMap s.dev hpa = none → ∀ want,
        ∃ t, exec (.cxlMemRead hpa want) s = .next t ∧ SameMem s.dev t.dev ∧ OnlyIn [] s t { s.dev with out := s.dev.out ++ [.unsupported 0] }) ∧
      (hdmMap s.dev hpa = some pa → k = pa / 64 → memAdmitted s.dev (pa / 2 ^ 21) = (s1, true) → s1.blocked = [] →
        ∀ l, HeldHome s1 k l → tget s1.shore.fills k = none → tget s1.shore.queue k = none →
        (∃ t, exec (.cxlMemRead hpa .current) s = .next t ∧ SameMem s1 t.dev ∧ dirAt t.dev k = none
          ∧ (lineAt t.dev k).map (fun y => (y.data, y.poison, y.dirty)) = some (l.data, l.poison, l.dirty)
          ∧ (∀ j, j ≠ k → lineAt t.dev j = lineAt s1 j)
          ∧ OnlyIn [Reg.SHC_CNT_POISON_READS, Reg.HST_CNT_POISON_SENT] { s with dev := s1 } t
              { s1 with shore := { s1.shore with lines := t.dev.shore.lines }, out := s1.out ++ [.memData k false (some ⟨l.data, l.poison⟩)] }) ∧
        (∀ want kind st, (want, kind, st) ∈ [(MemRd.shared, false, DirState.sole), (.exclusive, true, .dirty), (.ownOnly, true, .dirty)] →
          (dirSet s1 k).length < 16 →
          ∃ t, exec (.cxlMemRead hpa want) s = .next t ∧ t.dev.out = s1.out ++ [.memData k kind (some ⟨l.data, l.poison⟩)]
            ∧ (dirAt t.dev k).map (fun e => (e.state, agentsOf e)) = some (st, [64])
            ∧ (lineAt t.dev k).map (fun y => (y.data, y.poison, y.dirty)) = some (l.data, l.poison, l.dirty)
            ∧ OnlyCoh [Reg.HST_CNT_POISON_SENT] { s with dev := s1 } t k) ∧
        (∀ (mask : BitVec 64) (d : LineData) (keep : MemKeep),
          ∃ (t : State) (l' : Line), exec (.cxlMemWrite hpa mask d keep) s = .next t ∧ SameMem s1 t.dev ∧ t.dev.out = s1.out ++ [.memDone k]
            ∧ lineAt t.dev k = some l' ∧ (mask ≠ 0 → l'.dirty = true) ∧ l'.hold = l.hold
            ∧ (∀ j, j < 64 → byteAt l'.data.toNat j = if mask.getLsbD j then byteAt d.data.toNat j else byteAt l.data.toNat j)
            ∧ (∀ j, j ≠ k → lineAt t.dev j = lineAt s1 j)
            ∧ OnlyIn [Reg.SHC_CNT_HITS, Reg.SHC_SLICE_STATUS (sliceOf s1 k)] { s with dev := s1 } t
                { s1 with shore := { s1.shore with lines := t.dev.shore.lines }, mem := { s1.mem with writes := t.dev.mem.writes },
                          fe := { s1.fe with wakes := t.dev.fe.wakes }, out := t.dev.out })) ∧
      (hdmMap s.dev hpa = some pa → memAdmitted s.dev (pa / 2 ^ 21) = (s1, false) → s1.blocked = [] →
        (∀ want, ∃ (t : State) (v : Nat), exec (.cxlMemRead hpa want) s = .next t ∧ SameMem s1 t.dev
          ∧ t.dev.out = s1.out ++ [.memData (hpa / 64) false (some ⟨BitVec.ofNat 512 v, 3⟩)] ∧ t.dev.shore = s1.shore
          ∧ regRead t.dev Reg.HST_CNT_MEM_REFUSED = (regRead s1 Reg.HST_CNT_MEM_REFUSED + 1) % 2 ^ 64) ∧
        (∀ mask d keep, ∃ t, exec (.cxlMemWrite hpa mask d keep) s = .next t ∧ SameMem s1 t.dev ∧ t.dev.out = s1.out ++ [.memDone (hpa / 64)]
          ∧ t.dev.shore = s1.shore ∧ regRead t.dev Reg.HST_CNT_MEM_REFUSED = (regRead s1 Reg.HST_CNT_MEM_REFUSED + 1) % 2 ^ 64))) ∧
    (∀ n k : Nat, fget s.dev RF.HST_STATUS_HOST_VALID = 1 → k = hostLine n →
      (∀ c ∈ [Instr.snpData n, .snpInv n, .snpCur n], ((lineAt s.dev k).map (·.hold) = none ∨ (lineAt s.dev k).map (·.hold) = some .pending) →
        ∃ t, exec c s = .next t ∧ SameMem s.dev t.dev ∧ OnlyIn [] s t { s.dev with out := s.dev.out ++ [.snoopRsp n false none] }) ∧
      (∀ (c : Instr) (kept : Bool) (l : Line) (f : Line → Option Line), lineAt s.dev k = some l → l.hold ≠ .pending →
        (c = .snpData n ∧ kept = true ∧ f = (fun l => some { l with hold := .s }) ∨ c = .snpInv n ∧ kept = false ∧ f = (fun _ => none)
          ∨ c = .snpCur n ∧ kept = true ∧ f = some) →
        ∃ t, exec c s = .next t ∧ SameMem s.dev t.dev ∧ lineAt t.dev k = f l ∧ (∀ j, j ≠ k → lineAt t.dev j = lineAt s.dev j)
          ∧ OnlyIn [Reg.HST_CNT_POISON_SENT] s t
              { s.dev with shore := { s.dev.shore with lines := t.dev.shore.lines }, fe := { s.dev.fe with wakes := t.dev.fe.wakes },
                           out := s.dev.out ++ [.snoopRsp n kept (if l.hold = .d then some ⟨l.data, l.poison⟩ else none)] })) ∧
    (∀ (line : Nat) (x : Txn), tget s.dev.shore.txn line = some x → x.waiting = List.cons 64 [] → x.req = none → x.next = none →
      s.dev.shore.queue = [] → s.dev.shore.fills = [] →
      (∀ l data, lineAt s.dev line = some l →
        ∃ t, exec (.birsp line data) s = .next t ∧ tget t.dev.shore.txn line = none ∧ dirAt t.dev line = none
          ∧ (lineAt t.dev line).map (fun y => (y.data, y.poison, y.dirty)) = some (match data with
              | none => (l.data, l.poison, l.dirty)
              | some d => (d.data, d.poison, true))
          ∧ OnlyCoh [Reg.SHC_SLICE_STATUS (sliceOf s.dev line)] s t line) ∧
      (fget s.dev (RF.HST_BIND_STATUS_BOUND 0) = 1 → coherentBinding s.dev 0 = true → s.dev.shore.txn = List.cons (line, x) [] →
        ∃ t, exec (.biTimeout line) s = .next t ∧ tget t.dev.shore.txn line = none ∧ dirAt t.dev line = none
          ∧ fget t.dev RF.HST_STATUS_HOST_VALID = 0 ∧ fget t.dev (RF.SHC_EPOCH_VALID 64) = 0 ∧ fget t.dev (RF.HST_BIND_STATUS_BOUND 0) = 0
          ∧ regRead t.dev Reg.HST_CNT_BI_TIMEOUTS = (regRead s.dev Reg.HST_CNT_BI_TIMEOUTS + 1) % 2 ^ 64
          ∧ regRead t.dev Reg.HST_CNT_HOST_DEPARTS = (regRead s.dev Reg.HST_CNT_HOST_DEPARTS + 1) % 2 ^ 64)) ∧
    (∀ (fn off n : Nat) (write : Bool) (data : List Byte) (poison ide : Bool) (va : Nat), fn ≤ 32 → 0 < n → n ≤ 4096 → off + n ≤ 2 ^ 36 →
      (write = true → data.length = n) → hasHost s.dev fn = true → fget s.dev RF.HST_STATUS_LINK ≠ 2 →
      (fn = 0 ∨ fget s.dev (RF.HST_BIND_STATUS_TDISP fn) = 0) → va = bar2Va s.dev fn + off → va % 4096 + n ≤ 4096 →
      (∀ s1 loc, insState s.dev fn ≠ 2 → insState s.dev fn ≠ 3 → barTranslate s.dev fn va (if write then 1 else 0) = (s1, some loc) →
        (write = false → ∀ s2 b, devRead s1 (loc / 4096 * 4096 + va % 4096) n = (s2, b, 0) → s2.blocked = [] →
          ∃ t, exec (.bar2Access fn off n write data poison ide) s = .next t ∧ SameMem s2 t.dev
            ∧ OnlyIn [] { s with dev := s2 } t { s2 with out := s2.out ++ [.barData fn b false] }) ∧
        (write = true → ∀ s2, s2 = putBytes s1 (loc / 4096 * 4096 + va % 4096) data poison (n / 32 + 2) → s2.blocked = [] →
          ∃ t, exec (.bar2Access fn off n write data poison ide) s = .next t ∧ SameMem s2 t.dev ∧ OnlyIn [] { s with dev := s2 } t s2)) ∧
      ((insState s.dev fn = 2 ∨ insState s.dev fn = 3) →
        ∃ t, exec (.bar2Access fn off n write data poison ide) s = .next t ∧ SameMem s.dev t.dev
          ∧ regRead t.dev Reg.HST_CNT_BAR2_REFUSED = (regRead s.dev Reg.HST_CNT_BAR2_REFUSED + 1) % 2 ^ 64
          ∧ (write = true → t.dev.out = s.dev.out) ∧ (write = false → ∃ v, t.dev.out = s.dev.out ++ [.barData fn (leBytes n v) true])
          ∧ OnlyIn [Reg.HST_CNT_BAR2_REFUSED, Reg.HST_CNT_POISON_SENT] s t { s.dev with out := t.dev.out, free := t.dev.free })) ∧
    (∀ (fn vec : Nat) (ide : Bool) (v : MsixVec), fn ≤ 32 → vec < vectorsOf fn → (fn = 0 ∨ fget s.dev (RF.HST_BIND_STATUS_TDISP fn) = 0) →
      v = tgetD s.dev.host.msix (64 * fn + vec) ⟨true, false⟩ →
      ∃ t, exec (.msixVectorUnmask fn vec ide) s = .next t ∧ SameMem s.dev t.dev ∧ tget t.dev.host.msix (64 * fn + vec) = some ⟨false, false⟩
        ∧ (∀ j, j ≠ 64 * fn + vec → tget t.dev.host.msix j = tget s.dev.host.msix j)
        ∧ t.dev.out = (if v.pending = true ∧ hasHost s.dev fn = true then s.dev.out ++ [.msix fn vec] else s.dev.out)
        ∧ OnlyIn [Reg.HST_CNT_DROPPED_CPL] s t { s.dev with host := { s.dev.host with msix := t.dev.host.msix }, out := t.dev.out })

/-! ### Mailboxes -/

/-- SPDM, TDISP and IDE (R387, R388, R390, R423 to R428). Before boot lock every SPDM request is answered NotReady; after it a certificate, a challenge, measurements
and a key exchange are answered, the last three signed, and a co-signature covers what was signed last; FINISH opens the session. Within it an interface is
locked to a secure stream, started, and stopped by a reset of its instance; it reports itself. The DOE mailbox answers discovery, CDAT and key management, and
sets its error bit for what it does not support. An integrity failure ends its stream.
The model's choices that it rests on: log entries 14, 111. -/
def Obligations.Mailboxes : Prop :=
  ∀ (s : State) (n : Nat) (y : SpdmConn), y = connAt s.dev n → connOpen s.dev n = true →
    (fget s.dev RF.SEC_STATUS_BOOT_LOCK = 0 →
      ∀ (c : Instr) (slot off len idx : Nat) (sg ok : Bool) (b : List Byte),
        c ∈ [Instr.getCertificate n slot off len, .spdmChallenge n slot b, .getMeasurements n idx sg b, .keyExchange n b, .spdmFinish n ok, .pqCosign n] →
        ∃ t, exec c s = .next t ∧ Replied [] s t n .notReady y s.dev) ∧
    (fget s.dev RF.SEC_STATUS_BOOT_LOCK = 1 →
      (∀ slot off len, ∃ t, exec (.getCertificate n slot off len) s = .next t
        ∧ Replied [] s t n (if slot ≤ 1 ∧ off ≤ (Config.chain slot).length then .certificate (((Config.chain slot).drop off).take len) else .invalid)
            { y with signed := none } s.dev) ∧
      (∀ nonce c, c = nonce ++ sha512 (Config.chain 0) →
        ∃ t, exec (.spdmChallenge n 0 nonce) s = .next t
          ∧ Replied [] s t n (.challengeAuth (sha512 (Config.chain 0)) (Config.signature 0 c)) { y with signed := some c } s.dev) ∧
      (∀ idx nonce content c, (idx = 0 ∨ idx = 0xFF ∨ idx ∈ blockIndices n) →
        content = BitVec.ofNat 8 (blockIndices n).length
            :: ((if idx = 0 then [] else if idx = 0xFF then blockIndices n else [idx]).map (fun k => BitVec.ofNat 8 k :: blockOf s.dev n k)).flatten →
        c = nonce ++ content →
        ∃ t, exec (.getMeasurements n idx true nonce) s = .next t
          ∧ Replied [] s t n (.measurements content (Config.signature 0 c)) { y with signed := some c } s.dev) ∧
      (∀ request, fget s.dev RF.SEC_STATUS_DRBG_OK = 1 →
        ∃ t, exec (.keyExchange n request) s = .next t
          ∧ Replied [] s t n (.keyExchange (Config.signature 0 request)) { y with exchanged := true, signed := some request } s.dev) ∧
      (y.exchanged = true →
        (∃ t, exec (.spdmFinish n true) s = .next t ∧ Replied [] s t n .finished { y with exchanged := false, session := true, signed := none } s.dev) ∧
        ∃ t, exec (.spdmFinish n false) s = .next t ∧ Replied [] s t n .invalid { y with exchanged := false, signed := none } s.dev) ∧
      ∃ t, exec (.pqCosign n) s = .next t ∧ Replied [] s t n (match y.signed with
        | some b => .cosign (Config.signature 1 b)
        | none => .unexpected) { y with signed := none } s.dev) ∧
    (1 ≤ n → n ≤ 32 →
      (y.session = false → ∀ (c : Instr) (stream : Nat),
        c ∈ [Instr.lockInterfaceRequest n stream, .startInterfaceRequest n, .stopInterfaceRequest n, .getDeviceInterfaceReport n, .getDeviceInterfaceState n,
             .getTdispVersion n, .getTdispCapabilities n] → s.dev.blocked = [] →
        ∃ t, exec c s = .next t ∧ Replied [] s t n .unexpected y s.dev) ∧
      (y.session = true →
        (∀ stream, fget s.dev (RF.HST_BIND_STATUS_TDISP n) = 0 → fget s.dev RF.HST_STATUS_FLIT256 = 1 → stream ∈ s.dev.host.streams →
          ∃ t, exec (.lockInterfaceRequest n stream) s = .next t ∧ fget t.dev (RF.HST_BIND_STATUS_TDISP n) = 1
            ∧ fget t.dev (RF.HST_BIND_STATUS_BOUND n) = fget s.dev (RF.HST_BIND_STATUS_BOUND n)
            ∧ Replied [Reg.HST_BIND_STATUS n] s t n .locked { y with signed := none }
                { s.dev with host := { s.dev.host with locked := tset s.dev.host.locked n stream } }) ∧
        (fget s.dev (RF.HST_BIND_STATUS_TDISP n) = 1 →
          ∃ t, exec (.startInterfaceRequest n) s = .next t ∧ fget t.dev (RF.HST_BIND_STATUS_TDISP n) = 2
            ∧ Replied [Reg.HST_BIND_STATUS n] s t n .started { y with signed := none } s.dev) ∧
        (fget s.dev (RF.HST_BIND_STATUS_TDISP n) ≠ 1 →
          ∃ t, exec (.startInterfaceRequest n) s = .next t ∧ Replied [] s t n .tdispError { y with signed := none } s.dev) ∧
        (s.dev.blocked = [] → insState s.dev n = 0 →
          ∃ t, exec (.stopInterfaceRequest n) s = .next t ∧ fget t.dev (RF.HST_BIND_STATUS_TDISP n) = 0
            ∧ Replied [Reg.HST_BIND_STATUS n] s t n .stopped { y with signed := none }
                { s.dev with host := { s.dev.host with locked := tdel s.dev.host.locked n } }) ∧
        (s.dev.blocked = [] → insState s.dev n ≠ 0 → insState s.dev n ≠ 4 → tget s.dev.ins.after n = none → s.dev.disp = [] → s.dev.mem.moves = [] →
          s.dev.xl.invals = [] → s.dev.fab.comms = [] → s.dev.traces = [] → s.dev.shore.dir = [] → s.dev.shore.txn = [] →
          (∀ e ∈ s.dev.fe.store, e.phase ≠ 1) →
          ∃ t, exec (.stopInterfaceRequest n) s = .next t ∧ fget t.dev (RF.HST_BIND_STATUS_TDISP n) = 0 ∧ insState t.dev n = 1
            ∧ tget t.dev.host.locked n = none ∧ (∀ p ∈ t.dev.fe.sessions, p.2.inst ≠ n) ∧ ∃ l, t.dev.out = l ++ [.mailbox n .stopped]) ∧
        ∀ (c : Instr) (r : Reply),
          (c, r) ∈ [(Instr.getDeviceInterfaceReport n, Reply.report (tgetD s.dev.ins.bar0 n 0) (tgetD s.dev.ins.bar2 n 0) 0x4000 (configDigest s.dev n)),
            (.getDeviceInterfaceState n, .ifState (fget s.dev (RF.HST_BIND_STATUS_TDISP n))), (.getTdispVersion n, .tdispVersion),
            (.getTdispCapabilities n, .tdispCapabilities)] →
          ∃ t, exec c s = .next t ∧ Replied [] s t n r { y with signed := none } s.dev)) ∧
    (n ≤ 32 → ∀ len,
      (∀ body, (65536 < len ∨ body = .unsupported ∨ (body = .cdat ∧ n ≠ 0)) →
        ∃ t, exec (.doeObject n len body) s = .next t ∧ SameMem s.dev t.dev ∧ tget t.dev.host.doeError n = some true
          ∧ OnlyIn [] s t { s.dev with host := { s.dev.host with doeError := t.dev.host.doeError } }) ∧
      (len ≤ 65536 →
        (∃ t, exec (.doeObject n len .discovery) s = .next t
          ∧ Replied [] s t n (.protocols (if n = 0 then [0, 1, 2, 3] else [0, 1, 2])) y s.dev) ∧
        (n = 0 → ∃ t, exec (.doeObject n len .cdat) s = .next t ∧ Replied [] s t n (.cdat [(600, 121), (750, 121)]) y s.dev) ∧
        (y.session = true → fget s.dev RF.HST_STATUS_FLIT256 = 1 → ∀ stream go,
          (∃ t, exec (.doeObject n len (.ideKm true stream go)) s = .next t ∧ fget t.dev RF.HST_STATUS_IDE_LINK = b2n go
            ∧ Replied [Reg.HST_STATUS] s t n (.ideKm true) y s.dev) ∧
          ∀ l, l = (if go then insertNat stream s.dev.host.streams else s.dev.host.streams.filter (· != stream)) → l.length ≤ 8 →
            ∃ t, exec (.doeObject n len (.ideKm false stream go)) s = .next t ∧ fget t.dev RF.HST_STATUS_IDE_STREAMS = l.length
              ∧ Replied [Reg.HST_STATUS] s t n (.ideKm true) y { s.dev with host := { s.dev.host with streams := l } }))) ∧
    (∀ (link : Bool) (stream : Nat), (if link then fget s.dev RF.HST_STATUS_IDE_LINK = 1 else stream ∈ s.dev.host.streams ∧ s.dev.host.streams.length ≤ 255) →
      ∃ t, exec (.ideIntegrityFailure link stream) s = .next t ∧ SameMem s.dev t.dev
        ∧ regRead t.dev Reg.HST_CNT_IDE_FAILS = (regRead s.dev Reg.HST_CNT_IDE_FAILS + 1) % 2 ^ 64
        ∧ (link = true → fget t.dev RF.HST_STATUS_IDE_LINK = 0 ∧ t.dev.host.streams = s.dev.host.streams)
        ∧ (link = false → stream ∉ t.dev.host.streams ∧ fget t.dev RF.HST_STATUS_IDE_STREAMS = t.dev.host.streams.length
            ∧ fget t.dev RF.HST_STATUS_IDE_LINK = fget s.dev RF.HST_STATUS_IDE_LINK)
        ∧ OnlyIn ([Reg.HST_STATUS, Reg.HST_CNT_IDE_FAILS] ++ logRegs) s t
            { s.dev with host := { s.dev.host with streams := t.dev.host.streams }, log := t.dev.log,
                         flash := { s.dev.flash with romLog := t.dev.flash.romLog } })

/-! ### Power, clocks and temperature -/

/-- Temperature and power (R256 to R258, R448, R451 to R471). A report of a stack's layers records the hottest and moves the stack between Normal, Hot and Duty, where its duty
level is 1 at first and 0 elsewhere; a package's report records its code, and moves it; the level of a unit in Duty rises or falls by one, a period of Duty begins with a
pause, which ends, and a unit that is too hot for too long is shut down for good. An island's temperature caps its frequency and its issue rate by R469. A
frequency change takes effect when it completes; one that droop defers goes on or is dropped after its time; a droop stretches the clock until it recovers. A power
sample is recorded, counts as energy, and lowers the limits at once where it exceeds them; the loop moves one term a period by R466. An idle island
is gated and turned off, and runs again under the limits as they stand when it has been asked to. The coolant signals, the PLLs and a host's limit act as R470, R448
and R468 say.
The model's choices that it rests on: log entries 7, 96, 97, 98. -/
def Obligations.PowerAndThermal : Prop :=
  ∀ s : State,
    (∀ (stack layer hot : Nat) (temps : List Nat), stack < 8 → temps.length = 16 → temps[layer]? = some hot → hot < 256 →
      (∀ j x, temps[j]? = some x → x ≤ hot ∧ (j < layer → x < hot)) →
      ∃ t, exec (.stackThermalReport stack temps) s = .next t ∧ SameMem s.dev t.dev
        ∧ fget t.dev (RF.MEM_A_THERMAL_HOT_TEMP stack) = hot ∧ fget t.dev (RF.MEM_A_THERMAL_HOT_LAYER stack) = layer
        ∧ (let old := fget s.dev (RF.MEM_A_THERMAL_THERMAL stack)
           let new := if old = 3 then 3 else if hot ≥ 105 then 2 else if old = 2 then (if hot < 102 then 1 else 2)
             else if old = 1 then (if hot < 92 then 0 else 1) else if hot ≥ 95 then 1 else 0
           fget t.dev (RF.MEM_A_THERMAL_THERMAL stack) = new
             ∧ (new ≠ old → fget t.dev (RF.MEM_A_THERMAL_DUTY stack) = if new = 2 then 1 else 0))
        ∧ OnlyIn ([Reg.MEM_A_THERMAL stack, Reg.MEM_CNT_THERMAL_EVENTS] ++ reasonRegs 4) s t
            { s.dev with mem := t.dev.mem, power := t.dev.power, host := t.dev.host, out := t.dev.out, log := t.dev.log, flash := t.dev.flash }) ∧
    (∀ pkg code level : Nat, pkg < 32 → code < 8 →
      ∃ t, exec (.mr4Report pkg code level) s = .next t ∧ SameMem s.dev t.dev ∧ fget t.dev (RF.MEM_B_PKG_REFRESH_CODE pkg) = code
        ∧ fget t.dev (RF.MEM_B_PKG_THERMAL pkg) = (if fget s.dev (RF.MEM_B_PKG_THERMAL pkg) = 3 then 3 else min level 2)
        ∧ OnlyIn ([Reg.MEM_B_PKG pkg, Reg.MEM_CNT_THERMAL_EVENTS] ++ reasonRegs 4) s t
            { s.dev with mem := t.dev.mem, power := t.dev.power, host := t.dev.host, out := t.dev.out, log := t.dev.log, flash := t.dev.flash }) ∧
    (∀ unit : Nat, unit < 40 → fget s.dev (thermalFld unit) = 2 → fget s.dev (dutyFld unit) ≤ 8 →
      (∃ t, exec (.dutyLevelStep unit) s = .next t ∧ SameMem s.dev t.dev ∧ fget t.dev (thermalFld unit) = 2
        ∧ fget t.dev (dutyFld unit)
            = (if unit < 8 ∧ fget s.dev (RF.MEM_A_THERMAL_HOT_TEMP unit) < 105 then fget s.dev (dutyFld unit) - 1 else min 8 (fget s.dev (dutyFld unit) + 1))
        ∧ OnlyIn ([(dutyFld unit).off, Reg.MEM_CNT_THERMAL_EVENTS] ++ reasonRegs 4) s t
            { s.dev with power := t.dev.power, host := t.dev.host, out := t.dev.out, log := t.dev.log, flash := t.dev.flash })
      ∧ (fget s.dev (dutyFld unit) ≠ 0 → ∃ t, exec (.dutyPausePeriod unit) s = .next t ∧ SameMem s.dev t.dev
          ∧ (thermalUnit t.dev unit).paused = true ∧ OnlyIn [] s t { s.dev with mem := { s.dev.mem with units := t.dev.mem.units } })) ∧
    (∀ unit : Nat, unit < 40 → ∃ t, exec (.thermalPauseEnd unit) s = .next t ∧ SameMem s.dev t.dev
        ∧ thermalUnit t.dev unit = ⟨(thermalUnit s.dev unit).hotSince, false⟩ ∧ (∀ u, u ≠ unit → thermalUnit t.dev u = thermalUnit s.dev u)
        ∧ OnlyIn [] s t { s.dev with mem := { s.dev.mem with units := t.dev.mem.units } }) ∧
    (∀ unit : Nat, unit < 40 → channelsKnown s.dev → fget s.dev (thermalFld unit) ≠ 3 → (thermalUnit s.dev unit).hotSince ≠ none →
      ∃ t, exec (.unitThermalShutdown unit) s = .next t ∧ SameMem s.dev t.dev ∧ fget t.dev (thermalFld unit) = 3 ∧ fget t.dev (dutyFld unit) = 0
        ∧ (∀ c ∈ s.dev.mem.listA ++ s.dev.mem.listB, unitOf c = unit →
            groupOf c ∈ t.dev.mem.asleep ∧ (fget s.dev (chanSTATE c) = 0 → fget t.dev (chanSTATE c) = 2 ∧ fget t.dev (chanCAUSE c) = 3))
        ∧ (∀ c, c < 1152 → unitOf c ≠ unit → regRead t.dev (chanReg c) = regRead s.dev (chanReg c))
        ∧ (4, thermalUnitCode unit) ∈ t.dev.power.applies) ∧
    (∀ i : Nat, i < 44 →
      (∀ f, tget s.dev.power.changing i = some f → i ∉ s.dev.power.deferred → fget s.dev (RF.PWR_ISLAND_STATE i) = 0 → f < 4096 →
        ∃ t, exec (.dvfsChangeComplete i) s = .next t ∧ SameMem s.dev t.dev ∧ fget t.dev (RF.PWR_ISLAND_F_MHZ i) = f
          ∧ fget t.dev (RF.PWR_ISLAND_L i) = fget s.dev (RF.PWR_ISLAND_L i)
          ∧ OnlyIn [Reg.PWR_ISLAND i, Reg.FAB_PROGRESS] s t
              { s.dev with power := { s.dev.power with changing := tdel s.dev.power.changing i } }) ∧
      (i ∈ s.dev.power.deferred →
        ∃ t, exec (.dvfsDeferTimeout i) s = .next t ∧ SameMem s.dev t.dev
          ∧ OnlyIn [] s t { s.dev with power := { s.dev.power with
              deferred := s.dev.power.deferred.filter (· != i),
              changing := (match tget s.dev.power.changing i with
                | some f => if fget s.dev (RF.PWR_ISLAND_F_MHZ i) < f then tdel s.dev.power.changing i else s.dev.power.changing
                | none => s.dev.power.changing) } }) ∧
      (fget s.dev (RF.PWR_ISLAND_STATE i) = 0 →
        ∃ t, exec (.droopTrip i) s = .next t ∧ SameMem s.dev t.dev ∧ fget t.dev (RF.PWR_ISLAND_STRETCH i) = 1 ∧ (5, i) ∈ t.dev.power.applies
          ∧ OnlyIn ([Reg.PWR_ISLAND i] ++ reasonRegs 5) s t
              { s.dev with power := t.dev.power, host := t.dev.host, out := t.dev.out, log := t.dev.log, flash := t.dev.flash }) ∧
      (fget s.dev (RF.PWR_ISLAND_STRETCH i) = 1 → ∀ cycles,
        ∃ t, exec (.droopRecover i cycles) s = .next t ∧ SameMem s.dev t.dev ∧ fget t.dev (RF.PWR_ISLAND_STRETCH i) = 0 ∧ (5, i) ∉ t.dev.power.applies
          ∧ i ∉ t.dev.power.deferred
          ∧ regRead t.dev Reg.CLK_CNT_STRETCH_CYCLES = (regRead s.dev Reg.CLK_CNT_STRETCH_CYCLES + cycles) % 2 ^ 64
          ∧ OnlyIn ([Reg.PWR_ISLAND i, Reg.CLK_CNT_STRETCH_CYCLES] ++ reasonRegs 5) s t { s.dev with power := t.dev.power }) ∧
      (fget s.dev (RF.PWR_ISLAND_STATE i) ≠ 3 →
        (∀ temp, let v := min temp 255
          let hot := fget s.dev RF.THM_POLICY_ISL_HOT_C
          ∃ t, exec (.islandThermalReport i temp) s = .next t ∧ SameMem s.dev t.dev ∧ fget t.dev (RF.THM_ISLAND_TEMP_C i) = v
            ∧ fget t.dev (RF.THM_ISLAND_MAX_C i) = max v (fget s.dev (RF.THM_ISLAND_MAX_C i))
            ∧ fget t.dev (RF.THM_ISLAND_F_THERM_MHZ i)
                = (if fget s.dev RF.THM_POLICY_ISL_SEVERE_C ≤ v then 600 else fget s.dev (RF.THM_ISLAND_F_THERM_MHZ i))
            ∧ fget t.dev (RF.THM_ISLAND_L_THERM i) = (if fget s.dev RF.THM_POLICY_ISL_SEVERE_C ≤ v then 4
                else if hot ≤ v ∨ v + 3 < hot then 16 else fget s.dev (RF.THM_ISLAND_L_THERM i))
            ∧ OnlyIn ([Reg.THM_ISLAND i, Reg.CLK_CNT_DROOP_DEFERRALS] ++ (List.range 64).map Reg.PWR_ISLAND ++ reasonRegs 3) s t
                { s.dev with power := t.dev.power, host := t.dev.host, out := t.dev.out, log := t.dev.log, flash := t.dev.flash }) ∧
        (let v := fget s.dev (RF.THM_ISLAND_TEMP_C i)
          let f := fget s.dev (RF.THM_ISLAND_F_THERM_MHZ i)
          let hot := fget s.dev RF.THM_POLICY_ISL_HOT_C
          ∃ t, exec (.islandThermalStep i) s = .next t ∧ SameMem s.dev t.dev
            ∧ fget t.dev (RF.THM_ISLAND_F_THERM_MHZ i) = (if fget s.dev RF.THM_POLICY_ISL_SEVERE_C ≤ v then 600 else if hot ≤ v then max 600 (f - 50)
                else if v + 3 < hot then min 2400 (f + 50) else f)
            ∧ fget t.dev (RF.THM_ISLAND_L_THERM i) = fget s.dev (RF.THM_ISLAND_L_THERM i)
            ∧ OnlyIn ([Reg.THM_ISLAND i, Reg.CLK_CNT_DROOP_DEFERRALS] ++ (List.range 64).map Reg.PWR_ISLAND ++ reasonRegs 3) s t
                { s.dev with power := t.dev.power, host := t.dev.host, out := t.dev.out, log := t.dev.log, flash := t.dev.flash })) ∧
      (i < islandCount s.dev → fget s.dev (RF.PWR_ISLAND_STATE i) = 0 → islandIdle s.dev i = true →
        ∃ t, exec (.islandGate i) s = .next t ∧ SameMem s.dev t.dev ∧ fget t.dev (RF.PWR_ISLAND_STATE i) = 1 ∧ fget t.dev (RF.PWR_ISLAND_F_MHZ i) = 0
          ∧ tget t.dev.power.changing i = none ∧ i ∉ t.dev.power.deferred
          ∧ OnlyIn ([Reg.PWR_ISLAND i] ++ reasonRegs 5) s t { s.dev with power := t.dev.power }) ∧
      (i < islandCount s.dev → fget s.dev (RF.PWR_ISLAND_STATE i) = 1 → fget s.dev RF.PWR_IDLE_POLICY_OFF_US ≠ 0 → islandIdle s.dev i = true →
        ∃ t, exec (.islandOff i) s = .next t ∧ SameMem s.dev t.dev
          ∧ (if ∀ c ∈ List.range 4, (l1PushAll (coreOf s.dev (4 * i + c))).wb = [] then
              fget t.dev (RF.PWR_ISLAND_STATE i) = 2 ∧ ∀ c, c < 4 → coreOf t.dev (4 * i + c) = Core.reset
            else fget t.dev (RF.PWR_ISLAND_STATE i) = 1 ∧ ∀ c, c < 4 → coreOf t.dev (4 * i + c) = l1PushAll (coreOf s.dev (4 * i + c)))
          ∧ (∀ c, c / 4 ≠ i → coreOf t.dev c = coreOf s.dev c)
          ∧ OnlyIn [Reg.PWR_ISLAND i] s t { s.dev with cores := t.dev.cores }) ∧
      (i ∈ s.dev.power.wake → (fget s.dev (RF.PWR_ISLAND_STATE i) = 1 ∨ fget s.dev (RF.PWR_ISLAND_STATE i) = 2) → fget s.dev RF.BRG_ERR_STATUS_FATAL = 0 →
        ∃ t, exec (.islandWakeComplete i) s = .next t ∧ SameMem s.dev t.dev ∧ fget t.dev (RF.PWR_ISLAND_STATE i) = 0
          ∧ fget t.dev (RF.PWR_ISLAND_F_MHZ i) = islandF s.dev i ∧ fget t.dev (RF.PWR_ISLAND_F_TARGET_MHZ i) = islandF s.dev i
          ∧ fget t.dev (RF.PWR_ISLAND_L i) = islandL s.dev i ∧ i ∉ t.dev.power.wake
          ∧ (fget s.dev (RF.SHC_SLICE_STATUS_STATE i) ≤ 2 → fget t.dev (RF.SHC_SLICE_STATUS_STATE i) = 0))) ∧
    (∀ vin iin : Nat, vin < 65536 → iin < 65536 →
      ∃ t, exec (.powerSample vin iin) s = .next t ∧ SameMem s.dev t.dev ∧ fget t.dev RF.PWR_STATUS_VIN_CV = vin ∧ fget t.dev RF.PWR_STATUS_IIN_CA = iin
        ∧ regRead t.dev Reg.PWR_ENERGY_DEVICE = (regRead s.dev Reg.PWR_ENERGY_DEVICE + vin * iin / 1000) % 2 ^ 64
        ∧ fget t.dev RF.PWR_LIMITS_L_CAP
            = (if 42000000 < vin * iin then max 4 (fget s.dev RF.PWR_LIMITS_L_CAP - 4) else fget s.dev RF.PWR_LIMITS_L_CAP)
        ∧ fget t.dev RF.PWR_LIMITS_L_CUR = (if ilim s.dev < iin then 8 else fget s.dev RF.PWR_LIMITS_L_CUR)
        ∧ (vin * iin ≤ 42000000 → iin ≤ ilim s.dev → OnlyIn [Reg.PWR_STATUS, Reg.PWR_ENERGY_DEVICE] s t
            { s.dev with power := { s.dev.power with samples := t.dev.power.samples, calm := s.dev.power.calm && decide (iin + 200 < ilim s.dev) } })) ∧
    (∀ x c sum f l : Nat, 10 ≤ s.dev.power.samples.length → fget s.dev RF.BRG_ERR_STATUS_FATAL = 0 → sum = s.dev.power.samples.foldl (· + ·) 0 →
      lowestCap s.dev = (x, c) → s.dev.power.source = x → f = fget s.dev (capF x) → l = fget s.dev (capL x) →
      ∃ t, exec .powerLoop s = .next t ∧ SameMem s.dev t.dev ∧ t.dev.power.source = x ∧ t.dev.power.calm = true
        ∧ fget t.dev (capF x) = (if c * 100000 < sum then (if 8 < l then f else max 600 (f - 50))
            else if sum + fget s.dev RF.PWR_POLICY_HYST_W * 100000 < c * 100000 then (if f < 2400 then min 2400 (f + 50) else f) else f)
        ∧ fget t.dev (capL x) = (if c * 100000 < sum then (if 8 < l then l - 1 else l)
            else if sum + fget s.dev RF.PWR_POLICY_HYST_W * 100000 < c * 100000 then (if f < 2400 then l else if l < 16 then l + 1 else l) else l)
        ∧ fget t.dev RF.PWR_STATUS_PIN_W = min 8191 (sum / 100000)
        ∧ fget t.dev RF.PWR_LIMITS_L_CUR
            = (if s.dev.power.calm then min 16 (fget s.dev RF.PWR_LIMITS_L_CUR + 1) else fget s.dev RF.PWR_LIMITS_L_CUR)
        ∧ t.dev.fe = s.dev.fe ∧ t.dev.shore = s.dev.shore ∧ t.dev.cores = s.dev.cores ∧ t.dev.disp = s.dev.disp) ∧
    (∀ (c : Cmd) (x : Ctx) (w : Nat), Admits s.dev 0xB0 c x → w = eb x.e 16 2 → (w = 0 ∨ 600 ≤ w) → w ≤ 3600 →
      ∃ t, exec (.pwrHostLimit c) s = .next t ∧ SameMem s.dev t.dev ∧ Completes s.dev t.dev x Ret.ok ∧ fget t.dev RF.PWR_LIMITS_HOST_LIMIT_W = w
        ∧ fget t.dev RF.PWR_LIMITS_F_CAP = fget s.dev RF.PWR_LIMITS_F_CAP ∧ OnlyCmd [Reg.PWR_LIMITS] s t x s.dev) ∧
    (∀ a b : Bool,
      ∃ t, exec (.coolantSignalChange a b) s = .next t ∧ fget t.dev RF.PWR_STATUS_COOLANT_OK_A = b2n a ∧ fget t.dev RF.PWR_STATUS_COOLANT_OK_B = b2n b
        ∧ (fget s.dev RF.BRG_START_STATUS_STAGE = 0 → t.dev.power.warning = (a != b)
          ∧ OnlyIn [Reg.PWR_STATUS] s t { s.dev with power := { s.dev.power with warning := a != b } })
        ∧ (fget s.dev RF.BRG_START_STATUS_STAGE ≠ 0 → fget s.dev RF.BRG_ERR_STATUS_FATAL = 0 →
            (a = false → b = false → Fatal s t 7) ∧
            ((a = true ∨ b = true) → t.dev.power.warning = (a != b) ∧ SameMem s.dev t.dev ∧ t.dev.fe = s.dev.fe
              ∧ (a ≠ b → s.dev.power.warning = false → (7, 0xFF) ∈ t.dev.power.applies)))) ∧
    (∀ die : Nat, die ≤ 3 →
      (∃ t, exec (.pllRelock die) s = .next t ∧ SameMem s.dev t.dev
        ∧ fget t.dev RF.CLK_STATUS_EDGE_LOCK = setBits (fget s.dev RF.CLK_STATUS_EDGE_LOCK) die 1 1 ∧ OnlyIn [Reg.CLK_STATUS] s t s.dev) ∧
      (fget s.dev RF.BRG_ERR_STATUS_FATAL = 0 →
        ∃ t, exec (.pllUnlock die) s = .next t ∧ fget t.dev RF.CLK_STATUS_EDGE_LOCK = setBits (fget s.dev RF.CLK_STATUS_EDGE_LOCK) die 1 0
          ∧ regRead t.dev Reg.CLK_CNT_UNLOCKS = (regRead s.dev Reg.CLK_CNT_UNLOCKS + 1) % 2 ^ 64
          ∧ ((∃ u, tget s.dev.power.unlocks die = some u ∧ s.dev.time.hw < u + ticksPerSecond) → Fatal s t 4)
          ∧ ((∀ u, tget s.dev.power.unlocks die = some u → u + ticksPerSecond ≤ s.dev.time.hw) →
              OnlyIn ([Reg.CLK_STATUS, Reg.CLK_CNT_UNLOCKS] ++ logRegs) s t
                { s.dev with power := { s.dev.power with unlocks := tset s.dev.power.unlocks die s.dev.time.hw }, log := t.dev.log,
                             flash := { s.dev.flash with romLog := t.dev.flash.romLog } })))

/-! ### Faults and starts -/

/-- Faults of the module (R420, R448, R450, R469, R487 to R491, R495, R496, R520, R531). A lost reference, an excursion of the input at READY, the last pair of an edge die, a
failed DRBG and a stopped primary domain are device-fatal, each with its cause. A failed pair is counted, and the other goes on. An island is lost with its
slice. Power that goes takes everything but flash.
The model's choices that it rests on: log entries 51, 73, 81. -/
def Obligations.FaultsOfTheModule : Prop :=
  ∀ s : State,
    (fget s.dev RF.BRG_ERR_STATUS_FATAL = 0 →
      (fget s.dev RF.BRG_START_STATUS_STAGE ≠ 0 → ∃ t, exec .refClockLoss s = .next t ∧ fget t.dev RF.CLK_STATUS_REF_OK = 0 ∧ Fatal s t 5) ∧
      ((s.dev.start.primary = true ∨ s.dev.start.secondary = true) → fget s.dev RF.BRG_START_STATUS_STAGE = 9 →
        ∃ t, exec .inputVoltageExcursion s = .next t ∧ Fatal s t 11) ∧
      (fget s.dev RF.SEC_STATUS_DRBG_OK = 1 → ∃ t, exec .drbgHealthFail s = .next t ∧ fget t.dev RF.SEC_STATUS_DRBG_OK = 0 ∧ Fatal s t 6) ∧
      (s.dev.start.primary = true → ∃ t, exec .primaryDomainStop s = .next t ∧ t.dev.start.primary = false ∧ t.dev.log.held = false ∧ Fatal s t 9)) ∧
    (fget s.dev RF.BRG_START_STATUS_STAGE = 0 →
      ∃ t, exec .refClockLoss s = .next t ∧ SameMem s.dev t.dev ∧ fget t.dev RF.CLK_STATUS_REF_OK = 0 ∧ OnlyIn [Reg.CLK_STATUS] s t s.dev) ∧
    (∀ (die pair : Nat) (mine other : Fld), die ≤ 1 →
      (pair = 0 ∧ mine = RF.BRG_EDGE_STATUS_CTL_PAIR0_OK die ∧ other = RF.BRG_EDGE_STATUS_CTL_PAIR1_OK die
        ∨ pair = 1 ∧ mine = RF.BRG_EDGE_STATUS_CTL_PAIR1_OK die ∧ other = RF.BRG_EDGE_STATUS_CTL_PAIR0_OK die) → fget s.dev mine = 1 →
      ∃ t, exec (.ctlPairMismatch die pair) s = .next t ∧ fget t.dev mine = 0 ∧ fget t.dev other = fget s.dev other
        ∧ regRead t.dev Reg.BRG_CNT_CTL_FAILOVERS = (regRead s.dev Reg.BRG_CNT_CTL_FAILOVERS + 1) % 2 ^ 64
        ∧ (fget s.dev other = 1 → SameMem s.dev t.dev
          ∧ OnlyIn ([Reg.BRG_EDGE_STATUS die, Reg.BRG_ERR_STATUS, Reg.BRG_CNT_CTL_FAILOVERS] ++ logRegs) s t
              { s.dev with log := t.dev.log, flash := { s.dev.flash with romLog := t.dev.flash.romLog } })
        ∧ (fget s.dev other = 0 → fget s.dev RF.BRG_ERR_STATUS_FATAL = 0 → Fatal s t (die + 1))) ∧
    (∀ (c : Instr) (i n : Nat) (dead : Bool), i < 44 → inService s.dev = true →
      (c = .islandLoss i dead ∨ c = .islandOverheat i ∧ 115 ≤ fget s.dev (RF.THM_ISLAND_TEMP_C i)) → siteOf s.dev i = some n →
      fget s.dev (RF.PWR_ISLAND_STATE i) ≠ 3 →
      ∃ t, exec c s = .next t ∧ fget t.dev (RF.PWR_ISLAND_STATE i) = 3 ∧ fget t.dev (RF.SHC_SLICE_STATUS_STATE i) = 3
        ∧ bitOf (regRead t.dev Reg.BRG_LOST_MAP) n = true ∧ fget t.dev (RF.BRG_SITE_STATUS_STATE n) = 3 ∧ fget t.dev (RF.BRG_SITE_STATUS_CHECK n) = 0x0A
        ∧ fget t.dev (RF.BRG_SITE_STATUS_DEFECT_ORIGIN n) = 3
        ∧ regRead t.dev Reg.BRG_CNT_ISLAND_LOSSES = (regRead s.dev Reg.BRG_CNT_ISLAND_LOSSES + 1) % 2 ^ 64
        ∧ (∀ k, k < 4 → coreOf t.dev (4 * i + k) = Core.reset) ∧ (∀ p ∈ t.dev.net, p.2.core / 4 ≠ i)) ∧
    (∀ (c : Instr) (vin : Nat), (c = .inputOvervoltage vin ∧ 7000 < vin ∨ c = .inputUndervoltage ∨ c = .psenseBreak) →
      ∃ t, exec c s = .next t ∧ t.pending = s.pending ∧ (∀ a, dramByte t.dev.dram a = 0) ∧ t.dev.flash = s.dev.flash
        ∧ (∀ o, o ≠ Reg.PWR_STATUS → o ≠ Reg.SHC_STATUS → regRead t.dev o = regRead State.reset.dev o)
        ∧ fget t.dev RF.PWR_STATUS_COOLANT_OK_A = fget s.dev RF.PWR_STATUS_COOLANT_OK_A
        ∧ fget t.dev RF.PWR_STATUS_COOLANT_OK_B = fget s.dev RF.PWR_STATUS_COOLANT_OK_B
        ∧ t.dev.cores = [] ∧ t.dev.disp = [] ∧ t.dev.fe = FrontEnd.reset ∧ t.dev.ins = Insts.reset ∧ t.dev.fab = Fabric.reset ∧ t.dev.mesh = Mesh.reset
        ∧ t.dev.start = { Start.reset with slot := s.dev.start.slot } ∧ t.dev.log.entries = [] ∧ (∀ p ∈ t.dev.log.cps, p.2.inFlash = true)
        ∧ t.dev.out = (if s.dev.start.closed then s.dev.out ++ [.inputSwitch false] else s.dev.out))

/-- The start (R421, R503 to R511). Power, a host's reset and MODULE_START begin one at the stage that R503 to R505 say, and MODULE_START is rejected without a session
where one is needed, with a HOLD that is not assigned, or in the midst of a start. Each stage does its work and leads to the next: the input, the boot ROM's choice of a
slot, the edge dies, the sites, the straits, the channels with what locks the start, and the zeroing that ends at READY.
The model's choices that it rests on: log entries 13, 15, 76, 77, 80, 82, 83. -/
def Obligations.StartStages : Prop :=
  ∀ s : State,
    (∀ slot, s.dev.start.primary = false → s.dev.start.secondary = false →
      ∃ t, exec (.powerApplied slot) s = .next t ∧ StartBegins s t 0 false 0 ∧ t.dev.start.closed = true ∧ t.dev.start.slot = slot % 32
        ∧ t.dev.start.hold = false ∧ t.dev.out = s.dev.out ++ [.inputSwitch true, .faultPin false]) ∧
    (fget s.dev RF.BRG_ERR_STATUS_FATAL = 1 →
      ∃ t, exec .hostResetWhileFatal s = .next t ∧ StartBegins s t 2 (s.dev.start.primary && s.dev.start.secondary) 0) ∧
    ((s.dev.start.primary = true ∨ s.dev.start.secondary = true) → fget s.dev RF.BRG_ERR_STATUS_FATAL = 0 →
      fget s.dev RF.BRG_START_STATUS_STAGE ≠ 9 →
      ∃ t, exec .inputVoltageExcursion s = .next t
        ∧ StartBegins s t (fget s.dev RF.BRG_START_STATUS_REASON) (fget s.dev RF.BRG_START_STATUS_KIND == 1) 0) ∧
    (∀ (bus hold : Nat) (session : Bool) (code : Nat), busOn s.dev (bus % 2) = true →
      code = (if session = false ∧ startOpen s.dev = false then eAuth else if 1 < hold then eArg
        else if fget s.dev RF.BRG_START_STATUS_STAGE < 7 ∧ startOpen s.dev = false then eBusy else 0) →
      ∃ t, exec (.moduleStart bus hold session) s = .next t
        ∧ (code ≠ 0 → SameMem s.dev t.dev ∧ t.dev.out = (startReply s.dev (bus % 2) code).out
          ∧ regRead t.dev Reg.SES_CNT_REJECTS = (regRead s.dev Reg.SES_CNT_REJECTS + 1) % 2 ^ 64
          ∧ OnlyIn ([Reg.SES_CNT_REJECTS, Reg.LOG_CNT_AUTH_FAILS] ++ logRegs) s t
              { s.dev with out := t.dev.out, log := t.dev.log, flash := { s.dev.flash with romLog := t.dev.flash.romLog } })
        ∧ (code = 0 → (∃ l, t.dev.out = (startReply s.dev (bus % 2) 0).out ++ l) ∧ t.dev.start.hold = (hold == 1)
          ∧ StartBegins s t 1 (s.dev.start.primary && s.dev.start.secondary)
              (if fget s.dev RF.BRG_ERR_STATUS_FATAL = 0 ∧ (fget s.dev RF.BRG_START_STATUS_STAGE = 7 ∨ fget s.dev RF.BRG_START_STATUS_STAGE = 8)
               then 1 else 0))) ∧
    (∀ ref, atStage s.dev 0 = true →
      ∃ t, exec (.waitInput ref) s = .next t ∧ SameMem s.dev t.dev ∧ fget t.dev RF.CLK_STATUS_REF_OK = b2n ref
        ∧ fget t.dev RF.BRG_START_STATUS_STAGE
            = b2n (ref && (fget s.dev RF.PWR_STATUS_COOLANT_OK_A == 1 || fget s.dev RF.PWR_STATUS_COOLANT_OK_B == 1))
        ∧ OnlyIn [Reg.CLK_STATUS, Reg.BRG_START_STATUS] s t s.dev) ∧
    (∀ (chains : Bool) (passes : Nat → FwImage → Prop),
      passes = (fun slot i => tget s.dev.flash.slots slot = some i ∧ imagePasses s.dev i = true ∧ chains = true) → atStage s.dev 1 = true →
      ∃ t, exec (.bootRomVerify chains) s = .next t ∧ SameMem s.dev t.dev ∧ t.dev.flash = s.dev.flash
        ∧ (∀ slot i, (passes slot i ∧ (slot = s.dev.flash.active ∨ slot = 1 - s.dev.flash.active ∧ ∀ j, ¬passes s.dev.flash.active j)) →
            fget t.dev RF.BRG_START_STATUS_STAGE = 2 ∧ fget t.dev RF.SEC_STATUS_SLOT = slot % 2 ∧ fget t.dev RF.SEC_STATUS_IMAGE_SVN = i.svn % 2 ^ 6
              ∧ regRead t.dev Reg.SEC_FW_VERSION = i.version % 2 ^ 64)
        ∧ ((∀ slot i, slot = s.dev.flash.active ∨ slot = 1 - s.dev.flash.active → ¬passes slot i) →
            fget t.dev RF.BRG_START_STATUS_RECOVERY = 1 ∧ fget t.dev RF.BRG_START_STATUS_STAGE = 1 ∧ t.dev.out = s.dev.out ++ [.faultPin true])) ∧
    (∀ (pairs plls hw he : Nat) (kat : Bool), atStage s.dev 2 = true → hw = b2n (bitOf pairs 0) + b2n (bitOf pairs 1) →
      he = b2n (bitOf pairs 2) + b2n (bitOf pairs 3) →
      ∃ t, exec (.edgeSelfTest pairs plls kat) s = .next t ∧ SameMem s.dev t.dev ∧ fget t.dev RF.BRG_START_STATUS_STAGE = 3
        ∧ fget t.dev (RF.BRG_EDGE_STATUS_CTL_PAIR0_OK 0) = b2n (bitOf pairs 0) ∧ fget t.dev (RF.BRG_EDGE_STATUS_CTL_PAIR1_OK 0) = b2n (bitOf pairs 1)
        ∧ fget t.dev (RF.BRG_EDGE_STATUS_CTL_PAIR0_OK 1) = b2n (bitOf pairs 2) ∧ fget t.dev (RF.BRG_EDGE_STATUS_CTL_PAIR1_OK 1) = b2n (bitOf pairs 3)
        ∧ fget t.dev RF.CLK_STATUS_EDGE_LOCK = plls % 16 ∧ fget t.dev RF.SEC_STATUS_DRBG_OK = b2n kat ∧ t.dev.start.kat = !kat
        ∧ t.dev.start.cause = (if s.dev.start.cause ≠ 0 then s.dev.start.cause else if plls % 16 ≠ 15 then 5
            else if hw = 0 ∨ he = 0 ∨ (hw < 2 ∧ he < 2) then 3 else 0)
        ∧ OnlyIn [Reg.BRG_EDGE_STATUS 0, Reg.BRG_EDGE_STATUS 1, Reg.BRG_ERR_STATUS, Reg.CLK_STATUS, Reg.SEC_STATUS, Reg.BRG_START_STATUS] s t
            { s.dev with start := t.dev.start }) ∧
    (∀ results : List (Nat × Nat), atStage s.dev 3 = true →
      ∃ t, exec (.siteCheck results) s = .next t ∧ SameMem s.dev t.dev ∧ fget t.dev RF.BRG_START_STATUS_STAGE = 4
        ∧ fget t.dev RF.BRG_PKG_LEVEL_ENABLED_COUNT = (sitesIn t.dev 0).length ∧ regRead t.dev Reg.BRG_ENABLE_MAP = siteMask (sitesIn t.dev 0)
        ∧ (∀ n, n < 48 → (siteRec s.dev n).state = 2 → fget t.dev (RF.BRG_SITE_STATUS_CHECK n) = 0xFF ∧ n ∉ sitesIn t.dev 0)
        ∧ (∀ n r, n < 48 → (siteRec s.dev n).state ≠ 2 → results[n]? = some r → 1 ≤ r.1 → r.1 ≤ 7 →
            fget t.dev (RF.BRG_SITE_STATUS_CHECK n) = r.1 ∧ (siteRec t.dev n).state = 2 ∧ n ∉ sitesIn t.dev 0)
        ∧ (∀ n, n < 48 → (siteRec s.dev n).state = 0 → (∀ r, results[n]? = some r → r.1 = 0) → n ∈ sitesIn t.dev 0)
        ∧ t.dev.start.cause = (if s.dev.start.cause = 0 ∧ (sitesIn t.dev 0).length < 40 then 1 else s.dev.start.cause)) ∧
    (∀ failed : List (Nat × Nat), atStage s.dev 4 = true →
      ∃ t, exec (.laneTest failed) s = .next t ∧ SameMem s.dev t.dev ∧ fget t.dev RF.BRG_START_STATUS_STAGE = 5 ∧ t.dev.mesh.avoided = deadStraits t.dev
        ∧ (failed = [] → (∀ k, k < 110 → fget s.dev (RF.STR_STRAIT_STATUS_STATE k) = 3) →
            (∀ k, k < 110 → fget t.dev (RF.STR_STRAIT_STATUS_STATE k) = if straitLit s.dev k then 0 else 3)
              ∧ ∀ k b d, k < 110 → b < 8 → d < 2 → straitLit s.dev k = true → bdMode t.dev k b d = 0)) ∧
    (∀ (stackMask : Nat) (failed : List Nat) (cause : Nat), atStage s.dev 5 = true → s.dev.start.cause < 256 →
      ∃ t, exec (.channelTest stackMask failed) s = .next t ∧ SameMem s.dev t.dev
        ∧ (∀ id, id ∈ t.dev.mem.listA ↔ id < 1024 ∧ id ∉ failed ∧ bitOf stackMask (id / 128) = false)
        ∧ (∀ id, id ∈ t.dev.mem.listB ↔ 1024 ≤ id ∧ id < 1152 ∧ id ∉ failed)
        ∧ fget t.dev RF.MEM_TIER_A_STATUS_CHANNELS_MAPPED = t.dev.mem.listA.length
        ∧ fget t.dev RF.MEM_TIER_B_STATUS_CHANNELS_MAPPED = t.dev.mem.listB.length
        ∧ fget t.dev RF.SEC_STATUS_BOOT_LOCK = 1 ∧ t.dev.log.started = true
        ∧ (cause = (if s.dev.start.cause ≠ 0 then s.dev.start.cause else if t.dev.mem.listA.length < 512 ∨ t.dev.mem.listB.length < 64 then 2 else 0) →
            fget t.dev RF.BRG_START_STATUS_STAGE = (if cause ≠ 0 ∨ s.dev.start.hold = true then 7 else 8)
              ∧ (cause ≠ 0 → fget t.dev RF.BRG_START_STATUS_STOPPED = 1 ∧ fget t.dev RF.BRG_START_STATUS_STOP_CAUSE = cause)
              ∧ (cause = 0 → s.dev.start.hold = true → fget t.dev RF.BRG_START_STATUS_HELD = 1))) ∧
    (atStage s.dev 8 = true → fget s.dev RF.BRG_PKG_LEVEL_ENABLED_COUNT ≤ 44 →
      ∃ t, exec .zeroStage s = .next t ∧ t.pending = s.pending ∧ (∀ a, dramByte t.dev.dram a = 0) ∧ t.dev.dram.poison = []
        ∧ (s.dev.start.kat = false → serving t.dev = true ∧ fget t.dev (RF.INS_STATUS_REACH 0) = 2
          ∧ fget t.dev (RF.SHC_HOME_SET_ISLANDS 0) = 2 ^ fget s.dev RF.BRG_PKG_LEVEL_ENABLED_COUNT - 1
          ∧ fget t.dev (RF.SHC_HOME_SET_COUNT 0) = fget s.dev RF.BRG_PKG_LEVEL_ENABLED_COUNT)
        ∧ (s.dev.start.kat = true → fget t.dev RF.BRG_ERR_STATUS_FATAL = 1 ∧ fget t.dev RF.BRG_ERR_STATUS_FATAL_CAUSE = 6))

/-! ### Registers, margining, test access and traces -/

/-- Registers and debug (R13, R14, R434, R512, R513, R515, R525). A write changes the writable bits of the part of a policy register that it addresses, and is entered;
one that the permission table refuses changes nothing, is counted and entered; a register without writable bits keeps its value. The answers over sideband are
the model's reading (entry 12 of the log). A misaligned access has no effect, reads all ones and is counted. GO starts a margining run in HELD or STOPPED, whose
end leaves its result. An instruction that the test access port may not run selects BYPASS. A read alert is released. A trace starts with its header, and stops.
The model's choices that it rests on: log entries 12, 85, 86, 100, 104. -/
def Obligations.RegistersAndDebug : Prop :=
  ∀ s : State, s.dev.blocked = [] →
    (∀ (w : RegWr) (base cur new : Nat), accessReaches s.dev w = (s.dev, true) → (w.fn = 0 ∨ accessLegal w.size w.off = false) →
      (w.side = true → w.authed = true ∧ fget s.dev RF.BRG_START_STATUS_RECOVERY = 0) → base = w.off / 8 * 8 →
      (accessLegal w.size w.off = true → cur = regRead s.dev base → policyMask base ≠ 0 → new = writtenValue w cur (policyMask base) →
        (permits s.dev 7 (accessOrigin w).1 = true →
          ∃ t, exec (.registerWrite w) s = .next t ∧ SameMem s.dev t.dev
            ∧ (∀ j, j < 64 → (regRead t.dev base).testBit j
                = if (policyMask base).testBit j = true ∧ (w.size = 8 ∨ j / 32 = w.off % 8 / 4) then w.value.testBit (if w.size = 8 then j else j % 32)
                  else cur.testBit j)
            ∧ t.dev.out = (if w.side then s.dev.out ++ [.regAck (w.bus % 2) 0] else s.dev.out)
            ∧ (base ≠ Reg.PWR_POLICY → OnlyIn (base :: logRegs) s t
                { s.dev with log := t.dev.log, flash := { s.dev.flash with romLog := t.dev.flash.romLog }, out := t.dev.out })
            ∧ (base ≠ Reg.PWR_POLICY → s.dev.log.started = true → fget s.dev RF.BRG_START_STATUS_RECOVERY = 0 → (s.dev.log.next + 1) % 4096 ≠ 0 →
                (tget t.dev.log.entries s.dev.log.next).map (fun e => (e.kind, e.object, e.result, e.old, e.new)) = some (1, base, 0, cur, new))) ∧
        (permits s.dev 7 (accessOrigin w).1 = false →
          ∃ t, exec (.registerWrite w) s = .next t ∧ SameMem s.dev t.dev
            ∧ regRead t.dev Reg.LOG_CNT_DENIED = (regRead s.dev Reg.LOG_CNT_DENIED + 1) % 2 ^ 64
            ∧ t.dev.out = (if w.side then s.dev.out ++ [.regAck (w.bus % 2) eOrigin] else s.dev.out)
            ∧ OnlyIn (Reg.LOG_CNT_DENIED :: logRegs) s t
                { s.dev with log := t.dev.log, flash := { s.dev.flash with romLog := t.dev.flash.romLog }, out := t.dev.out })) ∧
      (accessLegal w.size w.off = true → policyMask base = 0 → base ≠ Reg.BRG_MARGIN_CTL → base ≠ Reg.SHC_DIR_PROBE_ADDR → inEveryWindow base = false →
        (base < 0x1C0000 ∨ 0x1D0000 ≤ base) →
        ∃ t, exec (.registerWrite w) s = .next t ∧ SameMem s.dev t.dev
          ∧ OnlyIn [] s t { s.dev with out := if w.side then s.dev.out ++ [.regAck (w.bus % 2) 0] else s.dev.out }) ∧
      (accessLegal w.size w.off = false → ∀ write,
        ∃ t, exec (.registerAccessMisaligned w write) s = .next t ∧ SameMem s.dev t.dev
          ∧ regRead t.dev Reg.HST_CNT_ACCESS_ERRORS = (regRead s.dev Reg.HST_CNT_ACCESS_ERRORS + 1) % 2 ^ 64
          ∧ OnlyIn [Reg.HST_CNT_ACCESS_ERRORS] s t { s.dev with
              out := if write then (if w.side then s.dev.out ++ [.regAck (w.bus % 2) 0] else s.dev.out)
                else s.dev.out ++ [if w.side then .regData (w.bus % 2) (2 ^ (8 * w.size) - 1) else .barData w.fn (List.replicate w.size 0xFF) false] }) ∧
      (w.off = Reg.BRG_MARGIN_CTL → w.size = 8 → w.value % 2 = 1 → ∀ runs : Bool,
        runs = (fget s.dev RF.BRG_START_STATUS_STAGE == 7 && fget s.dev RF.BRG_ERR_STATUS_FATAL == 0 && !s.dev.start.margin) →
        ∃ t, exec (.brgMarginCtlGo w) s = .next t ∧ SameMem s.dev t.dev
          ∧ OnlyIn ([Reg.BRG_MARGIN_CTL, Reg.BRG_MARGIN_RESULT] ++ logRegs) s t
              { s.dev with start := { s.dev.start with margin := t.dev.start.margin }, log := t.dev.log,
                           flash := { s.dev.flash with romLog := t.dev.flash.romLog }, out := t.dev.out }
          ∧ (runs = false → regRead t.dev Reg.BRG_MARGIN_CTL = regRead s.dev Reg.BRG_MARGIN_CTL
              ∧ regRead t.dev Reg.BRG_MARGIN_RESULT = regRead s.dev Reg.BRG_MARGIN_RESULT ∧ t.dev.start.margin = s.dev.start.margin)
          ∧ (runs = true → regRead t.dev Reg.BRG_MARGIN_RESULT = 0
              ∧ (∀ j, (3 ≤ j ∧ j ≤ 27 ∨ 32 ≤ j ∧ j ≤ 47) → (regRead t.dev Reg.BRG_MARGIN_CTL).testBit j = w.value.testBit j)
              ∧ ∀ bad : Prop, (bad ↔ fget t.dev RF.BRG_MARGIN_CTL_TIER = 1 ∧ 127 < fget t.dev RF.BRG_MARGIN_CTL_CHANNEL
                    ∨ 2 < fget t.dev RF.BRG_MARGIN_CTL_PATTERN) →
                  (bad → t.dev.start.margin = false ∧ fget t.dev RF.BRG_MARGIN_CTL_DONE = 1 ∧ fget t.dev RF.BRG_MARGIN_CTL_ERROR = 1) ∧
                  (¬bad → t.dev.start.margin = true ∧ fget t.dev RF.BRG_MARGIN_CTL_DONE = 0 ∧ fget t.dev RF.BRG_MARGIN_CTL_ERROR = 0)))) ∧
    (s.dev.start.margin = true → ∀ errors low high : Nat,
      ∃ t, exec (.marginRunDone errors low high) s = .next t ∧ SameMem s.dev t.dev ∧ fget t.dev RF.BRG_MARGIN_CTL_DONE = 1
        ∧ (fget s.dev RF.BRG_MARGIN_CTL_SWEEP = 0 → regRead t.dev Reg.BRG_MARGIN_RESULT = min errors (2 ^ 32 - 1))
        ∧ (fget s.dev RF.BRG_MARGIN_CTL_SWEEP = 1 → fget t.dev RF.BRG_MARGIN_RESULT_ERRORS = 0
          ∧ fget t.dev RF.BRG_MARGIN_RESULT_EDGE_LOW = low % 2 ^ 16 ∧ fget t.dev RF.BRG_MARGIN_RESULT_EDGE_HIGH = high % 2 ^ 16)
        ∧ OnlyIn [Reg.BRG_MARGIN_CTL, Reg.BRG_MARGIN_RESULT] s t { s.dev with start := { s.dev.start with margin := false } }) ∧
    (∀ (die instr i : Nat), die ≤ 51 → s.dev.start.closed = true →
      i = (if (die < 4 ∨ fget s.dev (RF.BRG_SITE_STATUS_STATE (die - 4)) = 0 ∨ fget s.dev (RF.BRG_SITE_STATUS_STATE (die - 4)) = 3)
          ∧ (instr < 2 ∨ instr < 7 ∧ (fget s.dev RF.BRG_START_STATUS_STAGE = 7 ∨ fget s.dev RF.BRG_START_STATUS_RECOVERY = 1)
            ∧ fget s.dev RF.BRG_ERR_STATUS_FATAL = 0) then instr else 1) →
      ∃ t, exec (.tapInstruction die instr) s = .next t ∧ SameMem s.dev t.dev ∧ tget t.dev.start.tap die = some i
        ∧ (i ≠ 0 → t.dev.out = s.dev.out)
        ∧ (i = 0 → ∃ v, t.dev.out = s.dev.out ++ [.idcode die v] ∧ bitsOf v 0 1 = 1 ∧ bitsOf v 1 11 = Config.jep106 % 2 ^ 11
            ∧ bitsOf v 12 16 = 0x4801 + min die 4
            ∧ bitsOf v 28 4 = (if die < 4 then fget s.dev (RF.BRG_EDGE_STATUS_STEP die) else fget s.dev RF.BRG_PKG_LEVEL_BASE_STEP) % 16)
        ∧ fget t.dev RF.BRG_START_STATUS_TAP_OPENED = (if i = 3 ∨ i = 6 then 1 else fget s.dev RF.BRG_START_STATUS_TAP_OPENED)
        ∧ OnlyIn (Reg.BRG_START_STATUS :: logRegs) s t
            { s.dev with start := { s.dev.start with tap := t.dev.start.tap }, log := t.dev.log,
                         flash := { s.dev.flash with romLog := t.dev.flash.romLog }, out := t.dev.out }) ∧
    (∀ bus : Nat, bus ≤ 1 → busOn s.dev bus = true → s.dev.start.alerts.testBit bus = true →
      ∃ t, exec (.alertRead bus) s = .next t ∧ SameMem s.dev t.dev ∧ (∀ j, t.dev.start.alerts.testBit j = (s.dev.start.alerts.testBit j && j != bus))
        ∧ OnlyIn [] s t { s.dev with start := { s.dev.start with alerts := t.dev.start.alerts }, out := s.dev.out ++ [.alert bus false] }) ∧
    (∀ (c : Cmd) (x : Ctx) (isl va len n : Nat) (s1 s2 s3 : Dev) (y : Trace), Admits s.dev 0xD1 c x → eb x.e 16 1 = x.inst → isl = eb x.e 24 8 →
      va = eb x.e 32 8 → len = eb x.e 40 4 → isl &&& fget s.dev (RF.INS_ISLANDS_ISLANDS x.inst) = isl → 4096 ≤ len → len % 32 = 0 → va % 4096 = 0 →
      vaCheck s.dev x.inst va len 1 = (s1, 0) → insState s1 x.inst ≠ 0 → insState s1 x.inst ≠ 4 → n < 4 →
      (∀ m, m ≤ n → ((tget s1.traces m).any (fun z => z.state == 0) = true ↔ m < n)) →
      y = { inst := x.inst, events := eb x.e 17 1, islands := isl, va := va, len := len, records := 0, written := 0, state := 0, shown := 0 } →
      s2 = (setBitsOf 44 isl).foldl requestRun { s1 with traces := tset s1.traces n y } →
      s3 = (vaWrite s2 x.inst va (leBytes 8 0 ++ leBytes 1 0 ++ leBytes 1 y.events ++ leBytes 2 n ++ List.replicate 52 0)).1 →
      s3.traces = s2.traces → s3.fe.store = s.dev.fe.store → s3.blocked = [] →
      ∃ t, exec (.traceStart c) s = .next t ∧ SameMem s3 t.dev ∧ Completes s3 t.dev x { Ret.ok with r0 := n } ∧ tget t.dev.traces n = some y
        ∧ (∀ m, m ≠ n → tget t.dev.traces m = tget s1.traces m) ∧ OnlyCmd [] { s with dev := s3 } t x s3) ∧
    (∀ (c : Cmd) (x : Ctx) (n : Nat) (y : Trace), Admits s.dev 0xD2 c x → n = eb x.e 16 2 → tget s.dev.traces n = some y → y.inst = x.inst →
      (y.state ≠ 0 →
        ∃ t, exec (.traceStop c) s = .next t ∧ SameMem s.dev t.dev ∧ Completes s.dev t.dev x { Ret.ok with r0 := y.records } ∧ OnlyCmd [] s t x s.dev) ∧
      (∀ (s1 s2 : Dev), y.state = 0 → y.shown = 0 → s.dev.traceQ = [] → (∀ m z, m ≠ n → tget s.dev.traces m = some z → z.shown = z.state) →
        s1 = { s.dev with traces := tset s.dev.traces n { y with state := 1, shown := 1 } } →
        s2 = (vaWrite s1 y.inst y.va (leBytes 8 y.written ++ leBytes 1 1 ++ leBytes 1 y.events ++ leBytes 2 n ++ List.replicate 52 0)).1 →
        s2.traces = s1.traces → s2.traceQ = [] → s2.fe.store = s.dev.fe.store → s2.blocked = [] →
        ∃ t, exec (.traceStop c) s = .next t ∧ SameMem s2 t.dev ∧ Completes s2 t.dev x { Ret.ok with r0 := y.records }
          ∧ tget t.dev.traces n = some { y with state := 1, shown := 1 } ∧ OnlyCmd [] { s with dev := s2 } t x s2))

/-- The stamp of the log (R441). SET_EPOCH sets it, and an entry formed then carries it; a stamp below the current one is rejected with E_ARG
(0x0101) and the stamp stays; every start begins with 0. -/
def Obligations.StampOfTheLog : Prop :=
  (∀ (s : State) (c : Cmd) (x : Ctx) (v : Nat), Admits s.dev 0xA0 c x → v = eb x.e 24 8 →
    (regRead s.dev Reg.LOG_EPOCH ≤ v →
      ∃ t, exec (.setEpoch c) s = .next t ∧ SameMem s.dev t.dev ∧ Completes s.dev t.dev x Ret.ok ∧ regRead t.dev Reg.LOG_EPOCH = v
        ∧ OnlyCmd [Reg.LOG_EPOCH] s t x s.dev) ∧
    (v < regRead s.dev Reg.LOG_EPOCH →
      ∃ t, exec (.setEpoch c) s = .next t ∧ SameMem s.dev t.dev ∧ Completes s.dev t.dev x { Ret.ok with status := eArg }
        ∧ regRead t.dev Reg.LOG_EPOCH = regRead s.dev Reg.LOG_EPOCH ∧ OnlyCmd [Reg.SES_CNT_REJECTS] s t x s.dev)) ∧
  (∀ (s : Dev) (origin originId result kind object inst old new : Nat), s.log.started = true → fget s RF.BRG_START_STATUS_RECOVERY = 0 →
    (s.log.next + 1) % 4096 ≠ 0 →
    (tget (logAdd s origin originId result kind object inst old new).log.entries s.log.next).map (fun e => (e.kind, e.object, e.stamp))
      = some (kind, object, regRead s Reg.LOG_EPOCH)) ∧
  regRead State.reset.dev Reg.LOG_EPOCH = 0 ∧
  ∀ (s : State) (begins : Instr → Prop),
    (∀ c, begins c ↔
      (∃ slot, c = .powerApplied slot ∧ s.dev.start.primary = false ∧ s.dev.start.secondary = false) ∨
      (c = .hostResetWhileFatal ∧ fget s.dev RF.BRG_ERR_STATUS_FATAL = 1) ∨
      (c = .inputVoltageExcursion ∧ (s.dev.start.primary = true ∨ s.dev.start.secondary = true) ∧ fget s.dev RF.BRG_ERR_STATUS_FATAL = 0
        ∧ fget s.dev RF.BRG_START_STATUS_STAGE ≠ 9) ∨
      ∃ bus hold, c = .moduleStart bus hold true ∧ hold ≤ 1 ∧ busOn s.dev (bus % 2) = true
        ∧ (7 ≤ fget s.dev RF.BRG_START_STATUS_STAGE ∨ startOpen s.dev = true)) →
    ∀ c, begins c → ∃ t, exec c s = .next t ∧ regRead t.dev Reg.LOG_EPOCH = 0
end

