-- ==== Sys2Proof/Laws/Bits.lean ====
section
/-!
SUPPORT. Bit fields of numbers: a replaced field reads back, and fields that do not overlap it keep their bits.
-/
namespace Sys2Proof.Machine

/-- Bit i of a number with a field replaced. -/
theorem testBit_setBits (x lo w v i : Nat) :
    (setBits x lo w v).testBit i = if lo ≤ i ∧ i < lo + w then v.testBit (i - lo) else x.testBit i := by
  have e : setBits x lo w v = (x / 2 ^ (lo + w)) * 2 ^ (lo + w) + ((v % 2 ^ w) * 2 ^ lo + x % 2 ^ lo) := by
    unfold setBits; ring
  have h1 : x % 2 ^ lo < 2 ^ lo := Nat.mod_lt _ (by positivity)
  have h2 : v % 2 ^ w < 2 ^ w := Nat.mod_lt _ (by positivity)
  have h3 : (v % 2 ^ w) * 2 ^ lo + x % 2 ^ lo < 2 ^ (lo + w) := by
    rw [pow_add]
    calc (v % 2 ^ w) * 2 ^ lo + x % 2 ^ lo < (v % 2 ^ w) * 2 ^ lo + 2 ^ lo := by omega
      _ = (v % 2 ^ w + 1) * 2 ^ lo := by ring
      _ ≤ 2 ^ w * 2 ^ lo := Nat.mul_le_mul_right _ h2
      _ = 2 ^ lo * 2 ^ w := by ring
  rw [e, Nat.mul_comm, Nat.testBit_two_pow_mul_add _ h3]
  by_cases a : i < lo + w
  · rw [if_pos a, Nat.mul_comm (v % 2 ^ w), Nat.testBit_two_pow_mul_add _ h1]
    by_cases b : i < lo
    · have : ¬ (lo ≤ i ∧ i < lo + w) := by omega
      rw [if_pos b, if_neg this, Nat.testBit_mod_two_pow]
      simp [b]
    · have : lo ≤ i ∧ i < lo + w := by omega
      rw [if_neg b, if_pos this, Nat.testBit_mod_two_pow]
      have : i - lo < w := by omega
      simp [this]
  · have : ¬ (lo ≤ i ∧ i < lo + w) := by omega
    rw [if_neg a, if_neg this, Nat.testBit_div_two_pow]
    congr 1
    omega

/-- Bit i of a field. -/
theorem testBit_bitsOf (x lo w i : Nat) : (bitsOf x lo w).testBit i = (decide (i < w) && x.testBit (i + lo)) := by
  unfold bitsOf
  rw [Nat.testBit_mod_two_pow, Nat.testBit_div_two_pow]

/-- A replaced field reads back, cut to its width. -/
theorem bitsOf_setBits_same (x lo w v : Nat) : bitsOf (setBits x lo w v) lo w = v % 2 ^ w := by
  apply Nat.eq_of_testBit_eq
  intro i
  rw [testBit_bitsOf, testBit_setBits, Nat.testBit_mod_two_pow]
  by_cases h : i < w
  · have : lo ≤ i + lo ∧ i + lo < lo + w := by omega
    rw [if_pos this]
    simp
  · simp [h]

/-- A field that does not overlap the replaced one keeps its value. -/
theorem bitsOf_setBits_other (x lo w v lo' w' : Nat) (h : lo' + w' ≤ lo ∨ lo + w ≤ lo') :
    bitsOf (setBits x lo w v) lo' w' = bitsOf x lo' w' := by
  apply Nat.eq_of_testBit_eq
  intro i
  rw [testBit_bitsOf, testBit_bitsOf, testBit_setBits]
  by_cases a : i < w'
  · have : ¬ (lo ≤ i + lo' ∧ i + lo' < lo + w) := by omega
    rw [if_neg this]
  · simp [a]

/-- A field of a number cut to 64 bits. -/
theorem bitsOf_mod (x lo w n : Nat) (h : lo + w ≤ n) : bitsOf (x % 2 ^ n) lo w = bitsOf x lo w := by
  apply Nat.eq_of_testBit_eq
  intro i
  rw [testBit_bitsOf, testBit_bitsOf, Nat.testBit_mod_two_pow]
  by_cases a : i < w
  · have : i + lo < n := by omega
    simp [this]
  · simp [a]

/-- A field is below the power of two of its width. -/
theorem bitsOf_lt (x lo w : Nat) : bitsOf x lo w < 2 ^ w := Nat.mod_lt _ (by positivity)

end Sys2Proof.Machine
end

