-- ==== Sys2Proof/Laws/Tables.lean ====
section
/-!
SUPPORT. The sparse tables: an entry reads back as written, a write leaves every other entry alone.
-/
namespace Sys2Proof.Machine

variable {V : Type}

@[simp] theorem tget_nil (k : Nat) : tget ([] : List (Nat × V)) k = none := rfl

/-- A written entry reads back. -/
@[simp] theorem tget_tset_same (t : List (Nat × V)) (k : Nat) (v : V) : tget (tset t k v) k = some v := by
  induction t with
  | nil => simp [tset, tget]
  | cons p t ih =>
    obtain ⟨a, b⟩ := p
    unfold tset
    split
    · simp [tget]
    · split
      · simp [tget]
      · rename_i h _
        simp [tget, h, ih]

/-- A write leaves every other entry alone. -/
theorem tget_tset_other (t : List (Nat × V)) (k j : Nat) (v : V) (h : j ≠ k) : tget (tset t k v) j = tget t j := by
  induction t with
  | nil => simp [tset, tget, Ne.symm h]
  | cons p t ih =>
    obtain ⟨a, b⟩ := p
    unfold tset
    split
    · rename_i e
      subst e
      simp [tget, Ne.symm h]
    · split
      · simp [tget, Ne.symm h]
      · simp [tget, ih]

/-- Reading after a write, both cases at once. -/
theorem tget_tset (t : List (Nat × V)) (k j : Nat) (v : V) : tget (tset t k v) j = if j = k then some v else tget t j := by
  split
  · rename_i h
    rw [h, tget_tset_same]
  · rename_i h
    exact tget_tset_other t k j v h

@[simp] theorem tgetD_tset_same (t : List (Nat × V)) (k : Nat) (v d : V) : tgetD (tset t k v) k d = v := by
  simp [tgetD]

theorem tgetD_tset_other (t : List (Nat × V)) (k j : Nat) (v d : V) (h : j ≠ k) : tgetD (tset t k v) j d = tgetD t j d := by
  simp [tgetD, tget_tset_other t k j v h]

/-- A deleted entry is gone. -/
@[simp] theorem tget_tdel_same (t : List (Nat × V)) (k : Nat) : tget (tdel t k) k = none := by
  induction t with
  | nil => rfl
  | cons p t ih =>
    obtain ⟨a, b⟩ := p
    unfold tdel at *
    by_cases h : a = k
    · simp [List.filter, h, ih]
    · have : (a != k) = true := by simp [h]
      simp [List.filter, this, tget, h, ih]

/-- A deletion leaves every other entry alone. -/
theorem tget_tdel_other (t : List (Nat × V)) (k j : Nat) (h : j ≠ k) : tget (tdel t k) j = tget t j := by
  induction t with
  | nil => rfl
  | cons p t ih =>
    obtain ⟨a, b⟩ := p
    unfold tdel at *
    by_cases e : a = k
    · simp [List.filter, e, ih, tget, Ne.symm h]
    · have : (a != k) = true := by simp [e]
      simp [List.filter, this, tget, ih]

/-- A change of an entry that is there reads back changed. -/
theorem tget_tmod_same (t : List (Nat × V)) (k : Nat) (f : V → V) : tget (tmod t k f) k = (tget t k).map f := by
  unfold tmod
  cases h : tget t k with
  | none => simp [h]
  | some v => simp

/-- A change of one entry leaves every other entry alone. -/
theorem tget_tmod_other (t : List (Nat × V)) (k j : Nat) (f : V → V) (h : j ≠ k) : tget (tmod t k f) j = tget t j := by
  unfold tmod
  cases tget t k with
  | none => rfl
  | some v => exact tget_tset_other t k j _ h

end Sys2Proof.Machine
end

