-- ==== Sys2Proof/Laws/Memory.lean ====
section
/-!
SUPPORT. The memory tiers: a byte reads back as written, a write leaves every other byte alone, and every memory operation keeps the canonical form.
-/
namespace Sys2Proof.Machine

/-- Addresses of a list of cells all lie beyond one. -/
def cellsAbove (a : Nat) (l : List Host.Cell) : Prop := ∀ c ∈ l, a < c.1

theorem cellsRise_cons (c : Host.Cell) (l : List Host.Cell) : cellsRise (c :: l) = true ↔ cellsAbove c.1 l ∧ cellsRise l = true := by
  induction l generalizing c with
  | nil => simp [cellsRise, cellsAbove]
  | cons d t ih =>
    rw [cellsRise, Bool.and_eq_true, decide_eq_true_iff]
    constructor
    · rintro ⟨h, k⟩
      refine ⟨?_, k⟩
      intro x hx
      rcases List.mem_cons.mp hx with rfl | hx
      · exact h
      · exact lt_trans h (((ih d).mp k).1 x hx)
    · rintro ⟨h, k⟩
      exact ⟨h d (by simp), k⟩

/-- Where addresses rise above one, it is not listed. -/
theorem cellGet_none_of_above (a : Nat) (l : List Host.Cell) (h : cellsAbove a l) : cellGet l a = none := by
  induction l with
  | nil => rfl
  | cons c t ih =>
    have h1 : a < c.1 := h c (by simp)
    have h2 : ¬ c.1 = a := by omega
    simp only [cellGet, h2, if_false]
    exact ih (fun x hx => h x (by simp [hx]))

/-- Cells stay beyond an address when one beyond it is written. -/
theorem cellsAbove_cellSet (dflt : Byte) (m : Nat) (l : List Host.Cell) (a : Nat) (b : Byte) (h : cellsAbove m l) (ha : m < a) :
    cellsAbove m (cellSet dflt l a b) := by
  induction l with
  | nil =>
    unfold cellSet
    split
    · exact fun x hx => by simp at hx
    · intro x hx
      simp at hx
      subst hx
      exact ha
  | cons c t ih =>
    obtain ⟨a', b'⟩ := c
    have ht : cellsAbove m t := fun x hx => h x (by simp [hx])
    have hc : m < a' := h (a', b') (by simp)
    unfold cellSet
    split
    · split
      · exact ht
      · intro x hx
        rcases List.mem_cons.mp hx with rfl | hx
        · exact ha
        · exact ht x hx
    · split
      · split
        · exact h
        · intro x hx
          rcases List.mem_cons.mp hx with rfl | hx
          · exact ha
          · exact h x hx
      · intro x hx
        rcases List.mem_cons.mp hx with rfl | hx
        · exact hc
        · exact ih ht x hx

/-- A write keeps addresses rising. -/
theorem cellsRise_cellSet (dflt : Byte) (l : List Host.Cell) (a : Nat) (b : Byte) (h : cellsRise l = true) :
    cellsRise (cellSet dflt l a b) = true := by
  induction l with
  | nil => unfold cellSet; split <;> rfl
  | cons c t ih =>
    obtain ⟨a', b'⟩ := c
    have ⟨h1, h2⟩ := (cellsRise_cons _ _).mp h
    unfold cellSet
    split
    · rename_i e
      split
      · exact h2
      · exact (cellsRise_cons _ _).mpr ⟨by subst e; exact h1, h2⟩
    · split
      · rename_i lt
        split
        · exact h
        · refine (cellsRise_cons _ _).mpr ⟨?_, h⟩
          intro x hx
          rcases List.mem_cons.mp hx with rfl | hx
          · exact lt
          · exact lt_trans lt (h1 x hx)
      · refine (cellsRise_cons _ _).mpr ⟨cellsAbove_cellSet dflt a' t a b h1 (by omega), ih h2⟩

/-- Reading the list after a write: the byte written, unless an unlisted byte reads it. -/
theorem cellGet_cellSet (dflt : Byte) (l : List Host.Cell) (a j : Nat) (b : Byte) (h : cellsRise l = true) :
    cellGet (cellSet dflt l a b) j = if j = a then (if b = dflt then none else some b) else cellGet l j := by
  induction l with
  | nil =>
    unfold cellSet
    by_cases e : b = dflt <;> by_cases k : j = a
    · simp [e, cellGet]
    · simp [e, cellGet]
    · simp [e, k, cellGet]
    · have : ¬ a = j := fun x => k x.symm
      simp [e, k, cellGet, this]
  | cons c t ih =>
    obtain ⟨a', b'⟩ := c
    have ⟨h1, h2⟩ := (cellsRise_cons _ _).mp h
    have hn : cellGet t a' = none := cellGet_none_of_above a' t h1
    unfold cellSet
    split
    · rename_i e
      subst e
      by_cases e : b = dflt <;> by_cases k : j = a'
      · simp [e, k, hn]
      · have : ¬ a' = j := fun x => k x.symm
        simp [e, k, cellGet, this]
      · simp [e, k, cellGet]
      · have : ¬ a' = j := fun x => k x.symm
        simp [e, k, cellGet, this]
    · rename_i ne
      split
      · rename_i lt
        have hna : cellGet ((a', b') :: t) a = none := by
          apply cellGet_none_of_above
          intro x hx
          rcases List.mem_cons.mp hx with rfl | hx
          · exact lt
          · exact lt_trans lt (h1 x hx)
        by_cases e : b = dflt <;> by_cases k : j = a
        · simp [e, k, hna]
        · simp [e, k]
        · simp [e, k, cellGet]
        · have : ¬ a = j := fun x => k x.symm
          simp [e, k, cellGet, this]
      · by_cases k : j = a'
        · have : ¬ j = a := by omega
          rw [if_neg this]
          simp [cellGet, k]
        · have : ¬ a' = j := fun x => k x.symm
          simp only [cellGet, this, if_false]
          exact ih h2

/-- No listed byte equals what an unlisted one reads, after a write to such a list. -/
theorem noDefault_cellSet (sc : Tbl Nat) (l : List Host.Cell) (a : Nat) (b : Byte) (h : ∀ c ∈ l, c.2 ≠ dramDefault sc c.1) :
    ∀ c ∈ cellSet (dramDefault sc a) l a b, c.2 ≠ dramDefault sc c.1 := by
  induction l with
  | nil =>
    unfold cellSet
    split
    · simp
    · rename_i e
      intro c hc
      simp at hc
      subst hc
      exact e
  | cons d t ih =>
    obtain ⟨a', b'⟩ := d
    have ht : ∀ c ∈ t, c.2 ≠ dramDefault sc c.1 := fun c hc => h c (by simp [hc])
    unfold cellSet
    split
    · split
      · exact ht
      · rename_i e
        intro c hc
        rcases List.mem_cons.mp hc with rfl | hc
        · exact e
        · exact ht c hc
    · split
      · split
        · exact h
        · rename_i e
          intro c hc
          rcases List.mem_cons.mp hc with rfl | hc
          · exact e
          · exact h c hc
      · intro c hc
        rcases List.mem_cons.mp hc with rfl | hc
        · exact h (a', b') (by simp)
        · exact ih ht c hc

/-- The canonical form, spelled out. -/
theorem Memory.wf_iff (d : Dram) : Memory.wf d = true ↔ cellsRise d.cells = true ∧ ∀ c ∈ d.cells, c.2 ≠ dramDefault d.scrambled c.1 := by
  unfold Memory.wf
  rw [Bool.and_eq_true, List.all_eq_true]
  simp

/-- A written byte reads back. -/
theorem dramByte_dramSet_same (d : Dram) (a : Nat) (b : Byte) (h : Memory.wf d = true) : dramByte (dramSet d a b) a = b := by
  unfold dramByte dramSet
  simp only
  rw [cellGet_cellSet _ _ _ _ _ ((Memory.wf_iff d).mp h).1]
  by_cases e : b = dramDefault d.scrambled a <;> simp [e]

/-- A write leaves every other byte alone. -/
theorem dramByte_dramSet_other (d : Dram) (a j : Nat) (b : Byte) (h : Memory.wf d = true) (n : j ≠ a) :
    dramByte (dramSet d a b) j = dramByte d j := by
  unfold dramByte dramSet
  simp only
  rw [cellGet_cellSet _ _ _ _ _ ((Memory.wf_iff d).mp h).1, if_neg n]

/-- A write of one byte keeps the canonical form. -/
theorem dramSet_wf (d : Dram) (a : Nat) (b : Byte) (h : Memory.wf d = true) : Memory.wf (dramSet d a b) = true := by
  have ⟨h1, h2⟩ := (Memory.wf_iff d).mp h
  exact (Memory.wf_iff _).mpr ⟨cellsRise_cellSet _ _ _ _ h1, noDefault_cellSet _ _ _ _ h2⟩

/-- A write of the bytes of a sector keeps the canonical form. -/
theorem dramMerge_wf (d : Dram) (sec : Nat) (mask : BitVec 32) (data : BitVec 256) (h : Memory.wf d = true) :
    Memory.wf (dramMerge d sec mask data) = true := by
  unfold dramMerge
  generalize setBitsOf 32 mask.toNat = l
  induction l generalizing d with
  | nil => exact h
  | cons i t ih => exact ih _ (dramSet_wf _ _ _ h)

/-- A write of a POISON bit keeps the canonical form. -/
theorem dramSetPoison_wf (d : Dram) (sec : Nat) (p : Bool) (h : Memory.wf d = true) : Memory.wf (dramSetPoison d sec p) = true := h

/-- A write of a HELD_DIRTY mark keeps the canonical form. -/
theorem dramSetHeld_wf (d : Dram) (line : Nat) (p : Bool) (h : Memory.wf d = true) : Memory.wf (dramSetHeld d line p) = true := h

theorem cellsRise_filter (l : List Host.Cell) (p : Host.Cell → Bool) (h : cellsRise l = true) : cellsRise (l.filter p) = true := by
  induction l with
  | nil => rfl
  | cons c t ih =>
    have ⟨h1, h2⟩ := (cellsRise_cons _ _).mp h
    by_cases e : p c = true
    · rw [List.filter_cons_of_pos e]
      exact (cellsRise_cons _ _).mpr ⟨fun x hx => h1 x (List.mem_filter.mp hx).1, ih h2⟩
    · rw [List.filter_cons_of_neg e]
      exact ih h2

theorem dramDefault_tdel (sc : Tbl Nat) (f a : Nat) (h : a / 2 ^ 21 ≠ f) : dramDefault (tdel sc f) a = dramDefault sc a := by
  unfold dramDefault
  rw [tget_tdel_other _ _ _ h]

theorem dramDefault_tset (sc : Tbl Nat) (f g a : Nat) (h : a / 2 ^ 21 ≠ f) : dramDefault (tset sc f g) a = dramDefault sc a := by
  unfold dramDefault
  rw [tget_tset_other _ _ _ _ h]

/-- Zeroing a frame keeps the canonical form. -/
theorem dramZeroFrame_wf (d : Dram) (f : Nat) (h : Memory.wf d = true) : Memory.wf (dramZeroFrame d f) = true := by
  have ⟨h1, h2⟩ := (Memory.wf_iff d).mp h
  refine (Memory.wf_iff _).mpr ⟨cellsRise_filter _ _ h1, ?_⟩
  intro c hc
  have ⟨m, k⟩ := List.mem_filter.mp hc
  have k : c.1 / 2 ^ 21 ≠ f := by simpa using k
  have e : dramDefault (dramZeroFrame d f).scrambled c.1 = dramDefault d.scrambled c.1 := dramDefault_tdel _ _ _ k
  rw [e]
  exact h2 c m

/-- A change of a frame's key keeps the canonical form. -/
theorem dramScrambleFrame_wf (d : Dram) (f g : Nat) (h : Memory.wf d = true) : Memory.wf (dramScrambleFrame d f g) = true := by
  have ⟨h1, h2⟩ := (Memory.wf_iff d).mp h
  refine (Memory.wf_iff _).mpr ⟨cellsRise_filter _ _ h1, ?_⟩
  intro c hc
  have ⟨m, k⟩ := List.mem_filter.mp hc
  have k : c.1 / 2 ^ 21 ≠ f := by simpa using k
  have e : dramDefault (dramScrambleFrame d f g).scrambled c.1 = dramDefault d.scrambled c.1 := dramDefault_tset _ _ _ _ k
  rw [e]
  exact h2 c m

/-- A zeroed frame reads 0 throughout. -/
theorem dramByte_dramZeroFrame (d : Dram) (f a : Nat) (h : a / 2 ^ 21 = f) : dramByte (dramZeroFrame d f) a = 0 := by
  have k : cellGet (d.cells.filter (fun c => c.1 / 2 ^ 21 != f)) a = none := by
    induction d.cells with
    | nil => rfl
    | cons c t ih =>
      by_cases e : c.1 / 2 ^ 21 = f
      · have z : (c.1 / 2 ^ 21 != f) = false := by rw [bne_eq_false_iff_eq]; exact e
        rw [List.filter_cons, z]
        exact ih
      · have n : ¬ c.1 = a := fun x => e (by rw [x, h])
        have z : (c.1 / 2 ^ 21 != f) = true := bne_iff_ne.mpr e
        rw [List.filter_cons, z]
        simp only [cellGet, n, if_false, if_true]
        exact ih
  unfold dramByte dramZeroFrame dramDefault
  simp only [k, h, tget_tdel_same]
  rfl

theorem canon_fold (sc : Tbl Nat) (l : List Host.Cell) :
    cellsRise (l.foldr (fun c acc => cellSet (dramDefault sc c.1) acc c.1 c.2) []) = true ∧
    (∀ c ∈ l.foldr (fun c acc => cellSet (dramDefault sc c.1) acc c.1 c.2) [], c.2 ≠ dramDefault sc c.1) ∧
    ∀ a, (cellGet (l.foldr (fun c acc => cellSet (dramDefault sc c.1) acc c.1 c.2) []) a).getD (dramDefault sc a)
      = (cellGet l a).getD (dramDefault sc a) := by
  induction l with
  | nil => exact ⟨rfl, by simp, fun _ => rfl⟩
  | cons c t ih =>
    obtain ⟨h1, h2, h3⟩ := ih
    refine ⟨cellsRise_cellSet _ _ _ _ h1, noDefault_cellSet _ _ _ _ h2, ?_⟩
    intro a
    rw [List.foldr_cons, cellGet_cellSet _ _ _ _ _ h1]
    by_cases e : a = c.1
    · subst e
      by_cases k : c.2 = dramDefault sc c.1 <;> simp [k, cellGet]
    · have : ¬ c.1 = a := fun x => e x.symm
      obtain ⟨c1, c2⟩ := c
      simp only [e, if_false, cellGet, this]
      exact h3 a

/-- The canonical form is reached from any list. -/
theorem dramCanon_wf (d : Dram) : Memory.wf (dramCanon d) = true :=
  (Memory.wf_iff _).mpr ⟨(canon_fold d.scrambled d.cells).1, (canon_fold d.scrambled d.cells).2.1⟩

/-- Bringing memory to its canonical form changes no byte. -/
@[simp] theorem dramByte_dramCanon (d : Dram) (a : Nat) : dramByte (dramCanon d) a = dramByte d a :=
  (canon_fold d.scrambled d.cells).2.2 a

end Sys2Proof.Machine
end

