-- ==== Sys2Proof/Laws/Registers.lean ====
section
/-!
SUPPORT. Registers and their fields: what a write leaves in each, and what closing a command leaves.
-/
namespace Sys2Proof.Machine

/-- A register reads back as written, cut to 64 bits. -/
@[simp] theorem regRead_regWrite_same (s : Dev) (o v : Nat) : regRead (regWrite s o v) o = v % 2 ^ 64 := by
  simp [regRead, regWrite]

/-- A write of one register leaves the others alone. -/
theorem regRead_regWrite_other (s : Dev) (o o' v : Nat) (h : o' ≠ o) : regRead (regWrite s o v) o' = regRead s o' := by
  simp [regRead, regWrite, tgetD_tset_other _ _ _ _ _ h]

/-- A field reads back as written, cut to its width. -/
theorem fget_fset_same (s : Dev) (f : Fld) (v : Nat) (h : f.lo + f.width ≤ 64) : fget (fset s f v) f = v % 2 ^ f.width := by
  unfold fget fset
  rw [regRead_regWrite_same, bitsOf_mod _ _ _ _ h, bitsOf_setBits_same]

/-- A write of a field leaves the fields of other registers alone. -/
theorem fget_fset_reg (s : Dev) (f g : Fld) (v : Nat) (h : g.off ≠ f.off) : fget (fset s f v) g = fget s g := by
  unfold fget fset
  rw [regRead_regWrite_other _ _ _ _ h]

/-- A write of a field leaves fields of its register that do not overlap it alone. -/
theorem fget_fset_bits (s : Dev) (f g : Fld) (v : Nat) (o : g.off = f.off) (w : g.lo + g.width ≤ 64)
    (h : g.lo + g.width ≤ f.lo ∨ f.lo + f.width ≤ g.lo) : fget (fset s f v) g = fget s g := by
  unfold fget fset
  rw [o, regRead_regWrite_same, bitsOf_mod _ _ _ _ w, bitsOf_setBits_other _ _ _ _ _ _ h]

/-- Writing a field leaves other registers alone. -/
theorem regRead_fset_other (s : Dev) (f : Fld) (v o : Nat) (h : o ≠ f.off) : regRead (fset s f v) o = regRead s o :=
  regRead_regWrite_other _ _ _ _ h

/-- A counter that is counted up. -/
theorem regRead_bump_same (s : Dev) (o : Nat) : regRead (bump s o) o = (regRead s o + 1) % 2 ^ 64 := by
  simp [bump, bumpBy]

theorem regRead_bump_other (s : Dev) (o o' : Nat) (h : o' ≠ o) : regRead (bump s o) o' = regRead s o' :=
  regRead_regWrite_other _ _ _ _ h

theorem fget_bump_other (s : Dev) (o : Nat) (f : Fld) (h : f.off ≠ o) : fget (bump s o) f = fget s f := by
  unfold fget
  rw [regRead_bump_other _ _ _ h]

/-- An instance-window register reads back as written. -/
@[simp] theorem winRead_winWrite_same (s : Dev) (fn o v : Nat) : winRead (winWrite s fn o v) fn o = v % 2 ^ 64 := by
  simp [winRead, winWrite]

/-- A field's value is below the power of two of its width. -/
theorem fget_lt (s : Dev) (f : Fld) : fget s f < 2 ^ f.width := bitsOf_lt _ _ _

/-- Closing a command changes no register but SHC_STATUS. -/
theorem regRead_finish (s : Dev) (o : Nat) (h : o ≠ RF.SHC_STATUS_DIR_USED_HW.off) : regRead (finish s) o = regRead s o := by
  unfold finish
  exact (regRead_fset_other _ RF.SHC_STATUS_DIR_USED_HE _ _ h).trans (regRead_fset_other _ RF.SHC_STATUS_DIR_USED_HW _ _ h)

/-- Closing a command changes no field of a register other than SHC_STATUS. -/
theorem fget_finish (s : Dev) (f : Fld) (h : f.off ≠ RF.SHC_STATUS_DIR_USED_HW.off) : fget (finish s) f = fget s f := by
  unfold fget
  rw [regRead_finish _ _ h]

/-- Closing a command changes no byte of memory. -/
@[simp] theorem dramByte_finish (s : Dev) (a : Nat) : dramByte (finish s).dram a = dramByte s.dram a := dramByte_dramCanon s.dram a

/-- Memory is in its canonical form after every command. -/
theorem finish_wf (s : Dev) : Memory.wf (finish s).dram = true := dramCanon_wf s.dram

end Sys2Proof.Machine
end

