-- ==== Sys2Proof/Laws/State.lean ====
section
/-!
SUPPORT. What each update of the state leaves in each field: one lemma for each, true by the definition of the update.
-/
namespace Sys2Proof.Machine

variable (s : Dev)

/-! ### regWrite -/

@[simp] theorem regWrite_iregs (o v : Nat) : (regWrite s o v).iregs = s.iregs := rfl
@[simp] theorem regWrite_free (o v : Nat) : (regWrite s o v).free = s.free := rfl
@[simp] theorem regWrite_time (o v : Nat) : (regWrite s o v).time = s.time := rfl
@[simp] theorem regWrite_cores (o v : Nat) : (regWrite s o v).cores = s.cores := rfl
@[simp] theorem regWrite_disp (o v : Nat) : (regWrite s o v).disp = s.disp := rfl
@[simp] theorem regWrite_net (o v : Nat) : (regWrite s o v).net = s.net := rfl
@[simp] theorem regWrite_nextReq (o v : Nat) : (regWrite s o v).nextReq = s.nextReq := rfl
@[simp] theorem regWrite_shore (o v : Nat) : (regWrite s o v).shore = s.shore := rfl
@[simp] theorem regWrite_mem (o v : Nat) : (regWrite s o v).mem = s.mem := rfl
@[simp] theorem regWrite_dram (o v : Nat) : (regWrite s o v).dram = s.dram := rfl
@[simp] theorem regWrite_xl (o v : Nat) : (regWrite s o v).xl = s.xl := rfl
@[simp] theorem regWrite_ins (o v : Nat) : (regWrite s o v).ins = s.ins := rfl
@[simp] theorem regWrite_fe (o v : Nat) : (regWrite s o v).fe = s.fe := rfl
@[simp] theorem regWrite_fab (o v : Nat) : (regWrite s o v).fab = s.fab := rfl
@[simp] theorem regWrite_mesh (o v : Nat) : (regWrite s o v).mesh = s.mesh := rfl
@[simp] theorem regWrite_flash (o v : Nat) : (regWrite s o v).flash = s.flash := rfl
@[simp] theorem regWrite_trust (o v : Nat) : (regWrite s o v).trust = s.trust := rfl
@[simp] theorem regWrite_start (o v : Nat) : (regWrite s o v).start = s.start := rfl
@[simp] theorem regWrite_host (o v : Nat) : (regWrite s o v).host = s.host := rfl
@[simp] theorem regWrite_out (o v : Nat) : (regWrite s o v).out = s.out := rfl
@[simp] theorem regWrite_log (o v : Nat) : (regWrite s o v).log = s.log := rfl
@[simp] theorem regWrite_power (o v : Nat) : (regWrite s o v).power = s.power := rfl
@[simp] theorem regWrite_traces (o v : Nat) : (regWrite s o v).traces = s.traces := rfl
@[simp] theorem regWrite_traceQ (o v : Nat) : (regWrite s o v).traceQ = s.traceQ := rfl
@[simp] theorem regWrite_blocked (o v : Nat) : (regWrite s o v).blocked = s.blocked := rfl

/-! ### fset -/

@[simp] theorem fset_iregs (f : Fld) (v : Nat) : (fset s f v).iregs = s.iregs := rfl
@[simp] theorem fset_free (f : Fld) (v : Nat) : (fset s f v).free = s.free := rfl
@[simp] theorem fset_time (f : Fld) (v : Nat) : (fset s f v).time = s.time := rfl
@[simp] theorem fset_cores (f : Fld) (v : Nat) : (fset s f v).cores = s.cores := rfl
@[simp] theorem fset_disp (f : Fld) (v : Nat) : (fset s f v).disp = s.disp := rfl
@[simp] theorem fset_net (f : Fld) (v : Nat) : (fset s f v).net = s.net := rfl
@[simp] theorem fset_nextReq (f : Fld) (v : Nat) : (fset s f v).nextReq = s.nextReq := rfl
@[simp] theorem fset_shore (f : Fld) (v : Nat) : (fset s f v).shore = s.shore := rfl
@[simp] theorem fset_mem (f : Fld) (v : Nat) : (fset s f v).mem = s.mem := rfl
@[simp] theorem fset_dram (f : Fld) (v : Nat) : (fset s f v).dram = s.dram := rfl
@[simp] theorem fset_xl (f : Fld) (v : Nat) : (fset s f v).xl = s.xl := rfl
@[simp] theorem fset_ins (f : Fld) (v : Nat) : (fset s f v).ins = s.ins := rfl
@[simp] theorem fset_fe (f : Fld) (v : Nat) : (fset s f v).fe = s.fe := rfl
@[simp] theorem fset_fab (f : Fld) (v : Nat) : (fset s f v).fab = s.fab := rfl
@[simp] theorem fset_mesh (f : Fld) (v : Nat) : (fset s f v).mesh = s.mesh := rfl
@[simp] theorem fset_flash (f : Fld) (v : Nat) : (fset s f v).flash = s.flash := rfl
@[simp] theorem fset_trust (f : Fld) (v : Nat) : (fset s f v).trust = s.trust := rfl
@[simp] theorem fset_start (f : Fld) (v : Nat) : (fset s f v).start = s.start := rfl
@[simp] theorem fset_host (f : Fld) (v : Nat) : (fset s f v).host = s.host := rfl
@[simp] theorem fset_out (f : Fld) (v : Nat) : (fset s f v).out = s.out := rfl
@[simp] theorem fset_log (f : Fld) (v : Nat) : (fset s f v).log = s.log := rfl
@[simp] theorem fset_power (f : Fld) (v : Nat) : (fset s f v).power = s.power := rfl
@[simp] theorem fset_traces (f : Fld) (v : Nat) : (fset s f v).traces = s.traces := rfl
@[simp] theorem fset_traceQ (f : Fld) (v : Nat) : (fset s f v).traceQ = s.traceQ := rfl
@[simp] theorem fset_blocked (f : Fld) (v : Nat) : (fset s f v).blocked = s.blocked := rfl

/-! ### bumpBy -/

@[simp] theorem bumpBy_iregs (o n : Nat) : (bumpBy s o n).iregs = s.iregs := rfl
@[simp] theorem bumpBy_free (o n : Nat) : (bumpBy s o n).free = s.free := rfl
@[simp] theorem bumpBy_time (o n : Nat) : (bumpBy s o n).time = s.time := rfl
@[simp] theorem bumpBy_cores (o n : Nat) : (bumpBy s o n).cores = s.cores := rfl
@[simp] theorem bumpBy_disp (o n : Nat) : (bumpBy s o n).disp = s.disp := rfl
@[simp] theorem bumpBy_net (o n : Nat) : (bumpBy s o n).net = s.net := rfl
@[simp] theorem bumpBy_nextReq (o n : Nat) : (bumpBy s o n).nextReq = s.nextReq := rfl
@[simp] theorem bumpBy_shore (o n : Nat) : (bumpBy s o n).shore = s.shore := rfl
@[simp] theorem bumpBy_mem (o n : Nat) : (bumpBy s o n).mem = s.mem := rfl
@[simp] theorem bumpBy_dram (o n : Nat) : (bumpBy s o n).dram = s.dram := rfl
@[simp] theorem bumpBy_xl (o n : Nat) : (bumpBy s o n).xl = s.xl := rfl
@[simp] theorem bumpBy_ins (o n : Nat) : (bumpBy s o n).ins = s.ins := rfl
@[simp] theorem bumpBy_fe (o n : Nat) : (bumpBy s o n).fe = s.fe := rfl
@[simp] theorem bumpBy_fab (o n : Nat) : (bumpBy s o n).fab = s.fab := rfl
@[simp] theorem bumpBy_mesh (o n : Nat) : (bumpBy s o n).mesh = s.mesh := rfl
@[simp] theorem bumpBy_flash (o n : Nat) : (bumpBy s o n).flash = s.flash := rfl
@[simp] theorem bumpBy_trust (o n : Nat) : (bumpBy s o n).trust = s.trust := rfl
@[simp] theorem bumpBy_start (o n : Nat) : (bumpBy s o n).start = s.start := rfl
@[simp] theorem bumpBy_host (o n : Nat) : (bumpBy s o n).host = s.host := rfl
@[simp] theorem bumpBy_out (o n : Nat) : (bumpBy s o n).out = s.out := rfl
@[simp] theorem bumpBy_log (o n : Nat) : (bumpBy s o n).log = s.log := rfl
@[simp] theorem bumpBy_power (o n : Nat) : (bumpBy s o n).power = s.power := rfl
@[simp] theorem bumpBy_traces (o n : Nat) : (bumpBy s o n).traces = s.traces := rfl
@[simp] theorem bumpBy_traceQ (o n : Nat) : (bumpBy s o n).traceQ = s.traceQ := rfl
@[simp] theorem bumpBy_blocked (o n : Nat) : (bumpBy s o n).blocked = s.blocked := rfl

/-! ### bump -/

@[simp] theorem bump_iregs (o : Nat) : (bump s o).iregs = s.iregs := rfl
@[simp] theorem bump_free (o : Nat) : (bump s o).free = s.free := rfl
@[simp] theorem bump_time (o : Nat) : (bump s o).time = s.time := rfl
@[simp] theorem bump_cores (o : Nat) : (bump s o).cores = s.cores := rfl
@[simp] theorem bump_disp (o : Nat) : (bump s o).disp = s.disp := rfl
@[simp] theorem bump_net (o : Nat) : (bump s o).net = s.net := rfl
@[simp] theorem bump_nextReq (o : Nat) : (bump s o).nextReq = s.nextReq := rfl
@[simp] theorem bump_shore (o : Nat) : (bump s o).shore = s.shore := rfl
@[simp] theorem bump_mem (o : Nat) : (bump s o).mem = s.mem := rfl
@[simp] theorem bump_dram (o : Nat) : (bump s o).dram = s.dram := rfl
@[simp] theorem bump_xl (o : Nat) : (bump s o).xl = s.xl := rfl
@[simp] theorem bump_ins (o : Nat) : (bump s o).ins = s.ins := rfl
@[simp] theorem bump_fe (o : Nat) : (bump s o).fe = s.fe := rfl
@[simp] theorem bump_fab (o : Nat) : (bump s o).fab = s.fab := rfl
@[simp] theorem bump_mesh (o : Nat) : (bump s o).mesh = s.mesh := rfl
@[simp] theorem bump_flash (o : Nat) : (bump s o).flash = s.flash := rfl
@[simp] theorem bump_trust (o : Nat) : (bump s o).trust = s.trust := rfl
@[simp] theorem bump_start (o : Nat) : (bump s o).start = s.start := rfl
@[simp] theorem bump_host (o : Nat) : (bump s o).host = s.host := rfl
@[simp] theorem bump_out (o : Nat) : (bump s o).out = s.out := rfl
@[simp] theorem bump_log (o : Nat) : (bump s o).log = s.log := rfl
@[simp] theorem bump_power (o : Nat) : (bump s o).power = s.power := rfl
@[simp] theorem bump_traces (o : Nat) : (bump s o).traces = s.traces := rfl
@[simp] theorem bump_traceQ (o : Nat) : (bump s o).traceQ = s.traceQ := rfl
@[simp] theorem bump_blocked (o : Nat) : (bump s o).blocked = s.blocked := rfl

/-! ### fsat -/

@[simp] theorem fsat_iregs (f : Fld) (n : Nat) : (fsat s f n).iregs = s.iregs := rfl
@[simp] theorem fsat_free (f : Fld) (n : Nat) : (fsat s f n).free = s.free := rfl
@[simp] theorem fsat_time (f : Fld) (n : Nat) : (fsat s f n).time = s.time := rfl
@[simp] theorem fsat_cores (f : Fld) (n : Nat) : (fsat s f n).cores = s.cores := rfl
@[simp] theorem fsat_disp (f : Fld) (n : Nat) : (fsat s f n).disp = s.disp := rfl
@[simp] theorem fsat_net (f : Fld) (n : Nat) : (fsat s f n).net = s.net := rfl
@[simp] theorem fsat_nextReq (f : Fld) (n : Nat) : (fsat s f n).nextReq = s.nextReq := rfl
@[simp] theorem fsat_shore (f : Fld) (n : Nat) : (fsat s f n).shore = s.shore := rfl
@[simp] theorem fsat_mem (f : Fld) (n : Nat) : (fsat s f n).mem = s.mem := rfl
@[simp] theorem fsat_dram (f : Fld) (n : Nat) : (fsat s f n).dram = s.dram := rfl
@[simp] theorem fsat_xl (f : Fld) (n : Nat) : (fsat s f n).xl = s.xl := rfl
@[simp] theorem fsat_ins (f : Fld) (n : Nat) : (fsat s f n).ins = s.ins := rfl
@[simp] theorem fsat_fe (f : Fld) (n : Nat) : (fsat s f n).fe = s.fe := rfl
@[simp] theorem fsat_fab (f : Fld) (n : Nat) : (fsat s f n).fab = s.fab := rfl
@[simp] theorem fsat_mesh (f : Fld) (n : Nat) : (fsat s f n).mesh = s.mesh := rfl
@[simp] theorem fsat_flash (f : Fld) (n : Nat) : (fsat s f n).flash = s.flash := rfl
@[simp] theorem fsat_trust (f : Fld) (n : Nat) : (fsat s f n).trust = s.trust := rfl
@[simp] theorem fsat_start (f : Fld) (n : Nat) : (fsat s f n).start = s.start := rfl
@[simp] theorem fsat_host (f : Fld) (n : Nat) : (fsat s f n).host = s.host := rfl
@[simp] theorem fsat_out (f : Fld) (n : Nat) : (fsat s f n).out = s.out := rfl
@[simp] theorem fsat_log (f : Fld) (n : Nat) : (fsat s f n).log = s.log := rfl
@[simp] theorem fsat_power (f : Fld) (n : Nat) : (fsat s f n).power = s.power := rfl
@[simp] theorem fsat_traces (f : Fld) (n : Nat) : (fsat s f n).traces = s.traces := rfl
@[simp] theorem fsat_traceQ (f : Fld) (n : Nat) : (fsat s f n).traceQ = s.traceQ := rfl
@[simp] theorem fsat_blocked (f : Fld) (n : Nat) : (fsat s f n).blocked = s.blocked := rfl

/-! ### winWrite -/

@[simp] theorem winWrite_regs (fn o v : Nat) : (winWrite s fn o v).regs = s.regs := rfl
@[simp] theorem winWrite_free (fn o v : Nat) : (winWrite s fn o v).free = s.free := rfl
@[simp] theorem winWrite_time (fn o v : Nat) : (winWrite s fn o v).time = s.time := rfl
@[simp] theorem winWrite_cores (fn o v : Nat) : (winWrite s fn o v).cores = s.cores := rfl
@[simp] theorem winWrite_disp (fn o v : Nat) : (winWrite s fn o v).disp = s.disp := rfl
@[simp] theorem winWrite_net (fn o v : Nat) : (winWrite s fn o v).net = s.net := rfl
@[simp] theorem winWrite_nextReq (fn o v : Nat) : (winWrite s fn o v).nextReq = s.nextReq := rfl
@[simp] theorem winWrite_shore (fn o v : Nat) : (winWrite s fn o v).shore = s.shore := rfl
@[simp] theorem winWrite_mem (fn o v : Nat) : (winWrite s fn o v).mem = s.mem := rfl
@[simp] theorem winWrite_dram (fn o v : Nat) : (winWrite s fn o v).dram = s.dram := rfl
@[simp] theorem winWrite_xl (fn o v : Nat) : (winWrite s fn o v).xl = s.xl := rfl
@[simp] theorem winWrite_ins (fn o v : Nat) : (winWrite s fn o v).ins = s.ins := rfl
@[simp] theorem winWrite_fe (fn o v : Nat) : (winWrite s fn o v).fe = s.fe := rfl
@[simp] theorem winWrite_fab (fn o v : Nat) : (winWrite s fn o v).fab = s.fab := rfl
@[simp] theorem winWrite_mesh (fn o v : Nat) : (winWrite s fn o v).mesh = s.mesh := rfl
@[simp] theorem winWrite_flash (fn o v : Nat) : (winWrite s fn o v).flash = s.flash := rfl
@[simp] theorem winWrite_trust (fn o v : Nat) : (winWrite s fn o v).trust = s.trust := rfl
@[simp] theorem winWrite_start (fn o v : Nat) : (winWrite s fn o v).start = s.start := rfl
@[simp] theorem winWrite_host (fn o v : Nat) : (winWrite s fn o v).host = s.host := rfl
@[simp] theorem winWrite_out (fn o v : Nat) : (winWrite s fn o v).out = s.out := rfl
@[simp] theorem winWrite_log (fn o v : Nat) : (winWrite s fn o v).log = s.log := rfl
@[simp] theorem winWrite_power (fn o v : Nat) : (winWrite s fn o v).power = s.power := rfl
@[simp] theorem winWrite_traces (fn o v : Nat) : (winWrite s fn o v).traces = s.traces := rfl
@[simp] theorem winWrite_traceQ (fn o v : Nat) : (winWrite s fn o v).traceQ = s.traceQ := rfl
@[simp] theorem winWrite_blocked (fn o v : Nat) : (winWrite s fn o v).blocked = s.blocked := rfl

/-! ### wfset -/

@[simp] theorem wfset_regs (fn : Nat) (f : Fld) (v : Nat) : (wfset s fn f v).regs = s.regs := rfl
@[simp] theorem wfset_free (fn : Nat) (f : Fld) (v : Nat) : (wfset s fn f v).free = s.free := rfl
@[simp] theorem wfset_time (fn : Nat) (f : Fld) (v : Nat) : (wfset s fn f v).time = s.time := rfl
@[simp] theorem wfset_cores (fn : Nat) (f : Fld) (v : Nat) : (wfset s fn f v).cores = s.cores := rfl
@[simp] theorem wfset_disp (fn : Nat) (f : Fld) (v : Nat) : (wfset s fn f v).disp = s.disp := rfl
@[simp] theorem wfset_net (fn : Nat) (f : Fld) (v : Nat) : (wfset s fn f v).net = s.net := rfl
@[simp] theorem wfset_nextReq (fn : Nat) (f : Fld) (v : Nat) : (wfset s fn f v).nextReq = s.nextReq := rfl
@[simp] theorem wfset_shore (fn : Nat) (f : Fld) (v : Nat) : (wfset s fn f v).shore = s.shore := rfl
@[simp] theorem wfset_mem (fn : Nat) (f : Fld) (v : Nat) : (wfset s fn f v).mem = s.mem := rfl
@[simp] theorem wfset_dram (fn : Nat) (f : Fld) (v : Nat) : (wfset s fn f v).dram = s.dram := rfl
@[simp] theorem wfset_xl (fn : Nat) (f : Fld) (v : Nat) : (wfset s fn f v).xl = s.xl := rfl
@[simp] theorem wfset_ins (fn : Nat) (f : Fld) (v : Nat) : (wfset s fn f v).ins = s.ins := rfl
@[simp] theorem wfset_fe (fn : Nat) (f : Fld) (v : Nat) : (wfset s fn f v).fe = s.fe := rfl
@[simp] theorem wfset_fab (fn : Nat) (f : Fld) (v : Nat) : (wfset s fn f v).fab = s.fab := rfl
@[simp] theorem wfset_mesh (fn : Nat) (f : Fld) (v : Nat) : (wfset s fn f v).mesh = s.mesh := rfl
@[simp] theorem wfset_flash (fn : Nat) (f : Fld) (v : Nat) : (wfset s fn f v).flash = s.flash := rfl
@[simp] theorem wfset_trust (fn : Nat) (f : Fld) (v : Nat) : (wfset s fn f v).trust = s.trust := rfl
@[simp] theorem wfset_start (fn : Nat) (f : Fld) (v : Nat) : (wfset s fn f v).start = s.start := rfl
@[simp] theorem wfset_host (fn : Nat) (f : Fld) (v : Nat) : (wfset s fn f v).host = s.host := rfl
@[simp] theorem wfset_out (fn : Nat) (f : Fld) (v : Nat) : (wfset s fn f v).out = s.out := rfl
@[simp] theorem wfset_log (fn : Nat) (f : Fld) (v : Nat) : (wfset s fn f v).log = s.log := rfl
@[simp] theorem wfset_power (fn : Nat) (f : Fld) (v : Nat) : (wfset s fn f v).power = s.power := rfl
@[simp] theorem wfset_traces (fn : Nat) (f : Fld) (v : Nat) : (wfset s fn f v).traces = s.traces := rfl
@[simp] theorem wfset_traceQ (fn : Nat) (f : Fld) (v : Nat) : (wfset s fn f v).traceQ = s.traceQ := rfl
@[simp] theorem wfset_blocked (fn : Nat) (f : Fld) (v : Nat) : (wfset s fn f v).blocked = s.blocked := rfl

/-! ### setCore -/

@[simp] theorem setCore_regs (c : Nat) (x : Core) : (setCore s c x).regs = s.regs := rfl
@[simp] theorem setCore_iregs (c : Nat) (x : Core) : (setCore s c x).iregs = s.iregs := rfl
@[simp] theorem setCore_free (c : Nat) (x : Core) : (setCore s c x).free = s.free := rfl
@[simp] theorem setCore_time (c : Nat) (x : Core) : (setCore s c x).time = s.time := rfl
@[simp] theorem setCore_disp (c : Nat) (x : Core) : (setCore s c x).disp = s.disp := rfl
@[simp] theorem setCore_net (c : Nat) (x : Core) : (setCore s c x).net = s.net := rfl
@[simp] theorem setCore_nextReq (c : Nat) (x : Core) : (setCore s c x).nextReq = s.nextReq := rfl
@[simp] theorem setCore_shore (c : Nat) (x : Core) : (setCore s c x).shore = s.shore := rfl
@[simp] theorem setCore_mem (c : Nat) (x : Core) : (setCore s c x).mem = s.mem := rfl
@[simp] theorem setCore_dram (c : Nat) (x : Core) : (setCore s c x).dram = s.dram := rfl
@[simp] theorem setCore_xl (c : Nat) (x : Core) : (setCore s c x).xl = s.xl := rfl
@[simp] theorem setCore_ins (c : Nat) (x : Core) : (setCore s c x).ins = s.ins := rfl
@[simp] theorem setCore_fe (c : Nat) (x : Core) : (setCore s c x).fe = s.fe := rfl
@[simp] theorem setCore_fab (c : Nat) (x : Core) : (setCore s c x).fab = s.fab := rfl
@[simp] theorem setCore_mesh (c : Nat) (x : Core) : (setCore s c x).mesh = s.mesh := rfl
@[simp] theorem setCore_flash (c : Nat) (x : Core) : (setCore s c x).flash = s.flash := rfl
@[simp] theorem setCore_trust (c : Nat) (x : Core) : (setCore s c x).trust = s.trust := rfl
@[simp] theorem setCore_start (c : Nat) (x : Core) : (setCore s c x).start = s.start := rfl
@[simp] theorem setCore_host (c : Nat) (x : Core) : (setCore s c x).host = s.host := rfl
@[simp] theorem setCore_out (c : Nat) (x : Core) : (setCore s c x).out = s.out := rfl
@[simp] theorem setCore_log (c : Nat) (x : Core) : (setCore s c x).log = s.log := rfl
@[simp] theorem setCore_power (c : Nat) (x : Core) : (setCore s c x).power = s.power := rfl
@[simp] theorem setCore_traces (c : Nat) (x : Core) : (setCore s c x).traces = s.traces := rfl
@[simp] theorem setCore_traceQ (c : Nat) (x : Core) : (setCore s c x).traceQ = s.traceQ := rfl
@[simp] theorem setCore_blocked (c : Nat) (x : Core) : (setCore s c x).blocked = s.blocked := rfl

/-! ### modCore -/

@[simp] theorem modCore_regs (c : Nat) (f : Core → Core) : (modCore s c f).regs = s.regs := rfl
@[simp] theorem modCore_iregs (c : Nat) (f : Core → Core) : (modCore s c f).iregs = s.iregs := rfl
@[simp] theorem modCore_free (c : Nat) (f : Core → Core) : (modCore s c f).free = s.free := rfl
@[simp] theorem modCore_time (c : Nat) (f : Core → Core) : (modCore s c f).time = s.time := rfl
@[simp] theorem modCore_disp (c : Nat) (f : Core → Core) : (modCore s c f).disp = s.disp := rfl
@[simp] theorem modCore_net (c : Nat) (f : Core → Core) : (modCore s c f).net = s.net := rfl
@[simp] theorem modCore_nextReq (c : Nat) (f : Core → Core) : (modCore s c f).nextReq = s.nextReq := rfl
@[simp] theorem modCore_shore (c : Nat) (f : Core → Core) : (modCore s c f).shore = s.shore := rfl
@[simp] theorem modCore_mem (c : Nat) (f : Core → Core) : (modCore s c f).mem = s.mem := rfl
@[simp] theorem modCore_dram (c : Nat) (f : Core → Core) : (modCore s c f).dram = s.dram := rfl
@[simp] theorem modCore_xl (c : Nat) (f : Core → Core) : (modCore s c f).xl = s.xl := rfl
@[simp] theorem modCore_ins (c : Nat) (f : Core → Core) : (modCore s c f).ins = s.ins := rfl
@[simp] theorem modCore_fe (c : Nat) (f : Core → Core) : (modCore s c f).fe = s.fe := rfl
@[simp] theorem modCore_fab (c : Nat) (f : Core → Core) : (modCore s c f).fab = s.fab := rfl
@[simp] theorem modCore_mesh (c : Nat) (f : Core → Core) : (modCore s c f).mesh = s.mesh := rfl
@[simp] theorem modCore_flash (c : Nat) (f : Core → Core) : (modCore s c f).flash = s.flash := rfl
@[simp] theorem modCore_trust (c : Nat) (f : Core → Core) : (modCore s c f).trust = s.trust := rfl
@[simp] theorem modCore_start (c : Nat) (f : Core → Core) : (modCore s c f).start = s.start := rfl
@[simp] theorem modCore_host (c : Nat) (f : Core → Core) : (modCore s c f).host = s.host := rfl
@[simp] theorem modCore_out (c : Nat) (f : Core → Core) : (modCore s c f).out = s.out := rfl
@[simp] theorem modCore_log (c : Nat) (f : Core → Core) : (modCore s c f).log = s.log := rfl
@[simp] theorem modCore_power (c : Nat) (f : Core → Core) : (modCore s c f).power = s.power := rfl
@[simp] theorem modCore_traces (c : Nat) (f : Core → Core) : (modCore s c f).traces = s.traces := rfl
@[simp] theorem modCore_traceQ (c : Nat) (f : Core → Core) : (modCore s c f).traceQ = s.traceQ := rfl
@[simp] theorem modCore_blocked (c : Nat) (f : Core → Core) : (modCore s c f).blocked = s.blocked := rfl

/-! ### modDisp -/

@[simp] theorem modDisp_regs (d : Nat) (f : Dispatch → Dispatch) : (modDisp s d f).regs = s.regs := rfl
@[simp] theorem modDisp_iregs (d : Nat) (f : Dispatch → Dispatch) : (modDisp s d f).iregs = s.iregs := rfl
@[simp] theorem modDisp_free (d : Nat) (f : Dispatch → Dispatch) : (modDisp s d f).free = s.free := rfl
@[simp] theorem modDisp_time (d : Nat) (f : Dispatch → Dispatch) : (modDisp s d f).time = s.time := rfl
@[simp] theorem modDisp_cores (d : Nat) (f : Dispatch → Dispatch) : (modDisp s d f).cores = s.cores := rfl
@[simp] theorem modDisp_net (d : Nat) (f : Dispatch → Dispatch) : (modDisp s d f).net = s.net := rfl
@[simp] theorem modDisp_nextReq (d : Nat) (f : Dispatch → Dispatch) : (modDisp s d f).nextReq = s.nextReq := rfl
@[simp] theorem modDisp_shore (d : Nat) (f : Dispatch → Dispatch) : (modDisp s d f).shore = s.shore := rfl
@[simp] theorem modDisp_mem (d : Nat) (f : Dispatch → Dispatch) : (modDisp s d f).mem = s.mem := rfl
@[simp] theorem modDisp_dram (d : Nat) (f : Dispatch → Dispatch) : (modDisp s d f).dram = s.dram := rfl
@[simp] theorem modDisp_xl (d : Nat) (f : Dispatch → Dispatch) : (modDisp s d f).xl = s.xl := rfl
@[simp] theorem modDisp_ins (d : Nat) (f : Dispatch → Dispatch) : (modDisp s d f).ins = s.ins := rfl
@[simp] theorem modDisp_fe (d : Nat) (f : Dispatch → Dispatch) : (modDisp s d f).fe = s.fe := rfl
@[simp] theorem modDisp_fab (d : Nat) (f : Dispatch → Dispatch) : (modDisp s d f).fab = s.fab := rfl
@[simp] theorem modDisp_mesh (d : Nat) (f : Dispatch → Dispatch) : (modDisp s d f).mesh = s.mesh := rfl
@[simp] theorem modDisp_flash (d : Nat) (f : Dispatch → Dispatch) : (modDisp s d f).flash = s.flash := rfl
@[simp] theorem modDisp_trust (d : Nat) (f : Dispatch → Dispatch) : (modDisp s d f).trust = s.trust := rfl
@[simp] theorem modDisp_start (d : Nat) (f : Dispatch → Dispatch) : (modDisp s d f).start = s.start := rfl
@[simp] theorem modDisp_host (d : Nat) (f : Dispatch → Dispatch) : (modDisp s d f).host = s.host := rfl
@[simp] theorem modDisp_out (d : Nat) (f : Dispatch → Dispatch) : (modDisp s d f).out = s.out := rfl
@[simp] theorem modDisp_log (d : Nat) (f : Dispatch → Dispatch) : (modDisp s d f).log = s.log := rfl
@[simp] theorem modDisp_power (d : Nat) (f : Dispatch → Dispatch) : (modDisp s d f).power = s.power := rfl
@[simp] theorem modDisp_traces (d : Nat) (f : Dispatch → Dispatch) : (modDisp s d f).traces = s.traces := rfl
@[simp] theorem modDisp_traceQ (d : Nat) (f : Dispatch → Dispatch) : (modDisp s d f).traceQ = s.traceQ := rfl
@[simp] theorem modDisp_blocked (d : Nat) (f : Dispatch → Dispatch) : (modDisp s d f).blocked = s.blocked := rfl

/-! ### takeFree -/

@[simp] theorem takeFree_regs : ((takeFree s).2).regs = s.regs := rfl
@[simp] theorem takeFree_iregs : ((takeFree s).2).iregs = s.iregs := rfl
@[simp] theorem takeFree_time : ((takeFree s).2).time = s.time := rfl
@[simp] theorem takeFree_cores : ((takeFree s).2).cores = s.cores := rfl
@[simp] theorem takeFree_disp : ((takeFree s).2).disp = s.disp := rfl
@[simp] theorem takeFree_net : ((takeFree s).2).net = s.net := rfl
@[simp] theorem takeFree_nextReq : ((takeFree s).2).nextReq = s.nextReq := rfl
@[simp] theorem takeFree_shore : ((takeFree s).2).shore = s.shore := rfl
@[simp] theorem takeFree_mem : ((takeFree s).2).mem = s.mem := rfl
@[simp] theorem takeFree_dram : ((takeFree s).2).dram = s.dram := rfl
@[simp] theorem takeFree_xl : ((takeFree s).2).xl = s.xl := rfl
@[simp] theorem takeFree_ins : ((takeFree s).2).ins = s.ins := rfl
@[simp] theorem takeFree_fe : ((takeFree s).2).fe = s.fe := rfl
@[simp] theorem takeFree_fab : ((takeFree s).2).fab = s.fab := rfl
@[simp] theorem takeFree_mesh : ((takeFree s).2).mesh = s.mesh := rfl
@[simp] theorem takeFree_flash : ((takeFree s).2).flash = s.flash := rfl
@[simp] theorem takeFree_trust : ((takeFree s).2).trust = s.trust := rfl
@[simp] theorem takeFree_start : ((takeFree s).2).start = s.start := rfl
@[simp] theorem takeFree_host : ((takeFree s).2).host = s.host := rfl
@[simp] theorem takeFree_out : ((takeFree s).2).out = s.out := rfl
@[simp] theorem takeFree_log : ((takeFree s).2).log = s.log := rfl
@[simp] theorem takeFree_power : ((takeFree s).2).power = s.power := rfl
@[simp] theorem takeFree_traces : ((takeFree s).2).traces = s.traces := rfl
@[simp] theorem takeFree_traceQ : ((takeFree s).2).traceQ = s.traceQ := rfl
@[simp] theorem takeFree_blocked : ((takeFree s).2).blocked = s.blocked := rfl

/-! ### finish -/

@[simp] theorem finish_iregs : (finish s).iregs = s.iregs := rfl
@[simp] theorem finish_free : (finish s).free = s.free := rfl
@[simp] theorem finish_time : (finish s).time = s.time := rfl
@[simp] theorem finish_cores : (finish s).cores = s.cores := rfl
@[simp] theorem finish_disp : (finish s).disp = s.disp := rfl
@[simp] theorem finish_net : (finish s).net = s.net := rfl
@[simp] theorem finish_nextReq : (finish s).nextReq = s.nextReq := rfl
@[simp] theorem finish_shore : (finish s).shore = s.shore := rfl
@[simp] theorem finish_mem : (finish s).mem = s.mem := rfl
@[simp] theorem finish_xl : (finish s).xl = s.xl := rfl
@[simp] theorem finish_ins : (finish s).ins = s.ins := rfl
@[simp] theorem finish_fe : (finish s).fe = s.fe := rfl
@[simp] theorem finish_fab : (finish s).fab = s.fab := rfl
@[simp] theorem finish_mesh : (finish s).mesh = s.mesh := rfl
@[simp] theorem finish_flash : (finish s).flash = s.flash := rfl
@[simp] theorem finish_trust : (finish s).trust = s.trust := rfl
@[simp] theorem finish_start : (finish s).start = s.start := rfl
@[simp] theorem finish_host : (finish s).host = s.host := rfl
@[simp] theorem finish_out : (finish s).out = s.out := rfl
@[simp] theorem finish_log : (finish s).log = s.log := rfl
@[simp] theorem finish_power : (finish s).power = s.power := rfl
@[simp] theorem finish_traces : (finish s).traces = s.traces := rfl
@[simp] theorem finish_traceQ : (finish s).traceQ = s.traceQ := rfl

@[simp] theorem finish_dram : (finish s).dram = dramCanon s.dram := rfl
@[simp] theorem finish_blocked : (finish s).blocked = [] := rfl

/-! ### The two parts of the state -/

@[simp] theorem withDev_pending (t : State) (d : Dev) : ({ t with dev := d } : State).pending = t.pending := rfl
@[simp] theorem withDev_dev (t : State) (d : Dev) : ({ t with dev := d } : State).dev = d := rfl
@[simp] theorem withPending_dev (t : State) (l : List Instr) : ({ t with pending := l } : State).dev = t.dev := rfl

/-- A command's effect is closed by `finish`, and leaves the queue. -/
theorem perform_eq (t : State) (f : Dev → Dev) : perform t f = .next { pending := t.pending, dev := finish (f t.dev) } := rfl

/-! ### Cores -/

@[simp] theorem coreOf_setCore_same (c : Nat) (x : Core) : coreOf (setCore s c x) c = x := by simp [coreOf, setCore]

theorem coreOf_setCore_other (c j : Nat) (x : Core) (h : j ≠ c) : coreOf (setCore s c x) j = coreOf s j := by
  simp [coreOf, setCore, tgetD_tset_other _ _ _ _ _ h]

@[simp] theorem coreOf_modCore_same (c : Nat) (f : Core → Core) : coreOf (modCore s c f) c = f (coreOf s c) := by simp [modCore]

theorem coreOf_modCore_other (c j : Nat) (f : Core → Core) (h : j ≠ c) : coreOf (modCore s c f) j = coreOf s j :=
  coreOf_setCore_other s c j _ h

end Sys2Proof.Machine
end

