-- ==== Sys2Proof/Laws/Audit.lean ====
section
/-!
SUPPORT. The audit log and the throttle reasons: what forming an entry, or noting a reason, can change.
-/
namespace Sys2Proof.Machine

/-- Registers that report the log (R447). -/
def isLogReg (o : Nat) : Prop := o ∈ [Reg.LOG_HEAD, Reg.LOG_OLDEST, Reg.LOG_CNT_ENTRIES, Reg.LOG_CNT_OVERWRITTEN] ∨ ∃ j < 8, o = Reg.LOG_CHAIN j

/-- Everything but the log, its registers and the flash's record of it is the same. -/
structure OnlyLog (s t : Dev) : Prop where
  regs : ∀ o, ¬ isLogReg o → regRead t o = regRead s o
  rest : t = { s with regs := t.regs, log := t.log, flash := t.flash }
  flash : t.flash = { s.flash with romLog := t.flash.romLog }

theorem OnlyLog.refl (s : Dev) : OnlyLog s s := ⟨fun _ _ => rfl, rfl, rfl⟩

theorem OnlyLog.trans {s t u : Dev} (h : OnlyLog s t) (k : OnlyLog t u) : OnlyLog s u := by
  refine ⟨fun o n => (k.regs o n).trans (h.regs o n), ?_, ?_⟩
  · rw [k.rest, h.rest]
  · rw [k.flash, h.flash]

theorem onlyLog_regWrite (s : Dev) (o v : Nat) (h : isLogReg o) : OnlyLog s (regWrite s o v) :=
  ⟨fun _ n => regRead_regWrite_other _ _ _ _ (fun e => n (e ▸ h)), rfl, rfl⟩

theorem onlyLog_log (s : Dev) (l : LogUnit) : OnlyLog s { s with log := l } := ⟨fun _ _ => rfl, rfl, rfl⟩

theorem onlyLog_showChain (s : Dev) (ch : List Byte) : OnlyLog s (showChain s ch) := by
  unfold showChain
  have gen : ∀ (l : List Nat) (s : Dev), (∀ j ∈ l, j < 8) →
      OnlyLog s (l.foldl (fun s j => regWrite s (Reg.LOG_CHAIN j) (ofLe ((ch.drop (8 * j)).take 8))) s) := by
    intro l
    induction l with
    | nil => intro s _; exact OnlyLog.refl s
    | cons j t ih =>
      intro s h
      rw [List.foldl_cons]
      exact (onlyLog_regWrite s _ _ (Or.inr ⟨j, h j (by simp), rfl⟩)).trans (ih _ (fun i hi => h i (by simp [hi])))
  exact gen _ s (fun j hj => List.mem_range.mp hj)

theorem onlyLog_bump (s : Dev) (o : Nat) (h : isLogReg o) : OnlyLog s (bump s o) := onlyLog_regWrite s _ _ h

theorem onlyLog_beginCheckpoint (s : Dev) (k : Nat) : OnlyLog s (beginCheckpoint s k) := by
  unfold beginCheckpoint
  exact onlyLog_log s _

/-- A stage that leaves only log changes, whichever way its test goes. -/
theorem onlyLog_ite {s a b : Dev} {c : Prop} [Decidable c] (ha : OnlyLog s a) (hb : OnlyLog s b) : OnlyLog s (if c then a else b) := by
  split
  · exact ha
  · exact hb

theorem onlyLog_logPut (s : Dev) (e : LogEntry) : OnlyLog s (logPut s e) := by
  unfold logPut
  dsimp only
  have h1 : isLogReg Reg.LOG_HEAD := Or.inl (by simp)
  have h2 : isLogReg Reg.LOG_OLDEST := Or.inl (by simp)
  have h3 : isLogReg Reg.LOG_CNT_ENTRIES := Or.inl (by simp)
  have h4 : isLogReg Reg.LOG_CNT_OVERWRITTEN := Or.inl (by simp)
  have base : ∀ (l : LogUnit) (v w : Nat) (ch : List Byte),
      OnlyLog s (regWrite (showChain (regWrite { s with log := l } Reg.LOG_HEAD v) ch) Reg.LOG_OLDEST w) := fun l v w ch =>
    (((onlyLog_log s l).trans (onlyLog_regWrite _ _ v h1)).trans (onlyLog_showChain _ ch)).trans (onlyLog_regWrite _ _ w h2)
  have count : ∀ (t : Dev) (l : LogUnit), OnlyLog s t → OnlyLog s (bump { t with log := l } Reg.LOG_CNT_ENTRIES) := fun t l h =>
    (h.trans (onlyLog_log t l)).trans (onlyLog_bump _ _ h3)
  exact onlyLog_ite ((onlyLog_ite (count _ _ (base _ _ _ _)) (base _ _ _ _)).trans (onlyLog_bump _ _ h4))
    (onlyLog_ite (count _ _ (base _ _ _ _)) (base _ _ _ _))

theorem onlyLog_logCommit (s : Dev) (e : LogEntry) : OnlyLog s (logCommit s e) := by
  unfold logCommit
  dsimp only
  split
  · refine (onlyLog_logPut s e).trans ((onlyLog_beginCheckpoint _ 0).trans ?_)
    unfold noteOverwritten
    dsimp only
    split
    · exact OnlyLog.refl _
    · exact (onlyLog_log _ _).trans (onlyLog_logPut _ _)
  · exact onlyLog_logPut s e

/-- Forming an entry of the audit log changes the log, its registers, and in RECOVERY the flash's record (R431, R436 to R439). -/
theorem onlyLog_logAdd (s : Dev) (a b c d e f g h : Nat) : OnlyLog s (logAdd s a b c d e f g h) := by
  unfold logAdd
  dsimp only
  split
  · exact ⟨fun _ _ => rfl, rfl, rfl⟩
  · split
    · exact onlyLog_logCommit s _
    · exact onlyLog_log s _

theorem onlyLog_logFw (s : Dev) (a b c d : Nat) : OnlyLog s (logFw s a b c d) := onlyLog_logAdd s _ _ _ _ _ _ _ _

theorem onlyLog_logThrottle (s : Dev) (r u : Nat) : OnlyLog s (logThrottle s r u) := by
  unfold logThrottle
  dsimp only
  split
  · split
    · split
      · exact (onlyLog_log s _).trans (onlyLog_showChain _ _)
      · exact onlyLog_logFw s _ _ _ _
    · exact onlyLog_logFw s _ _ _ _
  · exact (onlyLog_logFw s _ _ _ _).trans (onlyLog_log _ _)

/-- A field of a register other than the log's keeps its value while the log changes. -/
theorem OnlyLog.fget {s t : Dev} (h : OnlyLog s t) (f : Fld) (n : ¬ isLogReg f.off) : fget t f = fget s f := by
  unfold Machine.fget
  rw [h.regs _ n]

/-- Memory and cores are the same while the log changes. -/
theorem OnlyLog.dram {s t : Dev} (h : OnlyLog s t) : t.dram = s.dram := by rw [h.rest]
theorem OnlyLog.mem {s t : Dev} (h : OnlyLog s t) : t.mem = s.mem := by rw [h.rest]
theorem OnlyLog.cores {s t : Dev} (h : OnlyLog s t) : t.cores = s.cores := by rw [h.rest]
theorem OnlyLog.shore {s t : Dev} (h : OnlyLog s t) : t.shore = s.shore := by rw [h.rest]
theorem OnlyLog.power {s t : Dev} (h : OnlyLog s t) : t.power = s.power := by rw [h.rest]
theorem OnlyLog.ins {s t : Dev} (h : OnlyLog s t) : t.ins = s.ins := by rw [h.rest]
theorem OnlyLog.fe {s t : Dev} (h : OnlyLog s t) : t.fe = s.fe := by rw [h.rest]
theorem OnlyLog.start {s t : Dev} (h : OnlyLog s t) : t.start = s.start := by rw [h.rest]
theorem OnlyLog.time {s t : Dev} (h : OnlyLog s t) : t.time = s.time := by rw [h.rest]

end Sys2Proof.Machine
end

