-- ==== Sys2Proof/Laws/Operands.lean ====
section
/-!
SUPPORT. Registers of a group: what a write of one lane, of several lanes, or of U registers leaves in each register.
-/
namespace Sys2Proof.Machine

/-- Register j of lane l after k registers of a lane are written. -/
theorem gReg_writeG (g : Group) (lane n k v l j : Nat) (h : n + k ≤ 256) (hj : j < 256) :
    gReg (writeG g lane n k v) l j = if l = lane ∧ n ≤ j ∧ j < n + k then v / 2 ^ (32 * (j - n)) % 2 ^ 32 else gReg g l j := by
  induction k generalizing g n v with
  | zero =>
    have : ¬ (l = lane ∧ n ≤ j ∧ j < n + 0) := by omega
    rw [if_neg this]
    rfl
  | succ k ih =>
    unfold writeG
    rw [ih _ (n + 1) _ (by omega)]
    by_cases a : l = lane ∧ n + 1 ≤ j ∧ j < n + 1 + k
    · have b : l = lane ∧ n ≤ j ∧ j < n + (k + 1) := by omega
      rw [if_pos a, if_pos b, Nat.div_div_eq_div_mul, ← pow_add]
      congr 3
      omega
    · rw [if_neg a]
      unfold gReg
      by_cases c : l = lane ∧ j = n
      · have b : l = lane ∧ n ≤ j ∧ j < n + (k + 1) := by omega
        obtain ⟨rfl, rfl⟩ := c
        rw [if_pos b, tgetD_tset_same]
        simp
      · have b : ¬ (l = lane ∧ n ≤ j ∧ j < n + (k + 1)) := by omega
        rw [if_neg b, tgetD_tset_other]
        omega

@[simp] theorem writeG_pr (g : Group) (lane n k v : Nat) : (writeG g lane n k v).pr = g.pr := by
  induction k generalizing g n v with
  | zero => rfl
  | succ k ih => unfold writeG; rw [ih]

@[simp] theorem writeG_ur (g : Group) (lane n k v : Nat) : (writeG g lane n k v).ur = g.ur := by
  induction k generalizing g n v with
  | zero => rfl
  | succ k ih => unfold writeG; rw [ih]

/-- A write of G registers changes nothing else of the group. -/
theorem writeG_eq (g : Group) (lane n k v : Nat) : writeG g lane n k v = { g with gr := (writeG g lane n k v).gr } := by
  induction k generalizing g n v with
  | zero => rfl
  | succ k ih =>
    unfold writeG
    rw [ih]

/-- A write of U registers changes nothing else of the group. -/
theorem writeU_eq (g : Group) (n k v : Nat) : writeU g n k v = { g with ur := (writeU g n k v).ur } := by
  induction k generalizing g n v with
  | zero => rfl
  | succ k ih =>
    unfold writeU
    rw [ih]

/-- Registers read back as written in one lane. -/
theorem readG_writeG_same (g : Group) (lane n k v : Nat) (h : n + k ≤ 256) : readG (writeG g lane n k v) lane n k = v % 2 ^ (32 * k) := by
  have gen : ∀ m i, i + m = k → readG (writeG g lane n k v) lane (n + i) m = v / 2 ^ (32 * i) % 2 ^ (32 * m) := by
    intro m
    induction m with
    | zero => intro i _; simp [readG, Nat.mod_one]
    | succ m ih =>
      intro i hi
      unfold readG
      rw [gReg_writeG _ _ _ _ _ _ _ h (by omega), if_pos (by omega), Nat.add_assoc, ih (i + 1) (by omega)]
      have e : n + i - n = i := by omega
      rw [e, show 32 * (m + 1) = 32 + 32 * m by ring, pow_add 2 32, Nat.mod_mul, Nat.div_div_eq_div_mul, ← pow_add]
      congr 4
  have := gen k 0 (by omega)
  simpa using this

/-- A U register after k of them are written. -/
theorem tget_writeU (g : Group) (n k v j : Nat) :
    tget (writeU g n k v).ur j = if n ≤ j ∧ j < n + k then some (BitVec.ofNat 32 (v / 2 ^ (32 * (j - n)))) else tget g.ur j := by
  induction k generalizing g n v with
  | zero =>
    have : ¬ (n ≤ j ∧ j < n + 0) := by omega
    rw [if_neg this]
    rfl
  | succ k ih =>
    unfold writeU
    rw [ih]
    by_cases a : n + 1 ≤ j ∧ j < n + 1 + k
    · have b : n ≤ j ∧ j < n + (k + 1) := by omega
      rw [if_pos a, if_pos b, Nat.div_div_eq_div_mul, ← pow_add]
      congr 4
      omega
    · rw [if_neg a]
      by_cases c : j = n
      · have b : n ≤ j ∧ j < n + (k + 1) := by omega
        subst c
        rw [if_pos b, tget_tset_same]
        simp
      · have b : ¬ (n ≤ j ∧ j < n + (k + 1)) := by omega
        rw [if_neg b, tget_tset_other _ _ _ _ c]

/-- U registers read back as written. -/
theorem readU_writeU_same (g : Group) (n k v : Nat) : readU (writeU g n k v) n k = v % 2 ^ (32 * k) := by
  have gen : ∀ m i, i + m = k → readU (writeU g n k v) (n + i) m = v / 2 ^ (32 * i) % 2 ^ (32 * m) := by
    intro m
    induction m with
    | zero => intro i _; simp [readU, Nat.mod_one]
    | succ m ih =>
      intro i hi
      have b : n ≤ n + i ∧ n + i < n + k := by omega
      unfold readU tgetD
      rw [tget_writeU, if_pos b, Nat.add_assoc, ih (i + 1) (by omega)]
      have e : n + i - n = i := by omega
      rw [e, Option.getD_some, BitVec.toNat_ofNat, show 32 * (m + 1) = 32 + 32 * m by ring, pow_add 2 32, Nat.mod_mul, Nat.div_div_eq_div_mul,
        ← pow_add]
      congr 4
  have := gen k 0 (by omega)
  simpa using this

/-- Lanes that the list does not name, and registers outside the destination, keep their values. -/
theorem gReg_writeLanes_other (g : Group) (dst k : Nat) (vals : List (Nat × Nat)) (l j : Nat) (h : dst + k ≤ 256) (hj : j < 256)
    (o : (∀ p ∈ vals, p.1 ≠ l) ∨ j < dst ∨ dst + k ≤ j) : gReg (writeLanes g dst k vals) l j = gReg g l j := by
  unfold writeLanes
  induction vals generalizing g with
  | nil => rfl
  | cons p t ih =>
    rw [List.foldl_cons, ih]
    · rw [gReg_writeG _ _ _ _ _ _ _ h hj, if_neg]
      rintro ⟨a, b, c⟩
      rcases o with o | o
      · exact o p (by simp) a.symm
      · omega
    · rcases o with o | o
      · exact Or.inl (fun q hq => o q (by simp [hq]))
      · exact Or.inr o

/-- A lane that the list names once reads what the list gives it. -/
theorem readG_writeLanes (g : Group) (dst k : Nat) (lanes : List Nat) (f : Nat → Nat) (l : Nat) (h : dst + k ≤ 256) (nd : lanes.Nodup)
    (hl : l ∈ lanes) : readG (writeLanes g dst k (lanes.map (fun l => (l, f l)))) l dst k = f l % 2 ^ (32 * k) := by
  have same : ∀ (g g' : Group) (m n : Nat), n + m ≤ dst + k → (∀ j, j < 256 → gReg g l j = gReg g' l j) → readG g l n m = readG g' l n m := by
    intro g g' m
    induction m with
    | zero => intro n _ _; rfl
    | succ m ih =>
      intro n hn e
      unfold readG
      rw [e n (by omega), ih (n + 1) (by omega) e]
  unfold writeLanes
  induction lanes generalizing g with
  | nil => simp at hl
  | cons a t ih =>
    rw [List.map_cons, List.foldl_cons]
    have ⟨na, nt⟩ := List.nodup_cons.mp nd
    rcases List.mem_cons.mp hl with rfl | hl
    · rw [← readG_writeG_same g l dst k (f l) h]
      apply same
      · omega
      · intro j hj
        exact gReg_writeLanes_other _ dst k _ l j h hj (Or.inl (by
          intro p hp e
          obtain ⟨x, hx, rfl⟩ := List.mem_map.mp hp
          exact na (e ▸ hx)))
    · exact ih _ nt hl

@[simp] theorem writeLanes_pr (g : Group) (dst k : Nat) (vals : List (Nat × Nat)) : (writeLanes g dst k vals).pr = g.pr := by
  unfold writeLanes
  induction vals generalizing g with
  | nil => rfl
  | cons p t ih => rw [List.foldl_cons, ih, writeG_pr]

@[simp] theorem writeLanes_ur (g : Group) (dst k : Nat) (vals : List (Nat × Nat)) : (writeLanes g dst k vals).ur = g.ur := by
  unfold writeLanes
  induction vals generalizing g with
  | nil => rfl
  | cons p t ih => rw [List.foldl_cons, ih, writeG_ur]

/-- Writing lanes changes nothing else of the group. -/
theorem writeLanes_eq (g : Group) (dst k : Nat) (vals : List (Nat × Nat)) :
    writeLanes g dst k vals = { g with gr := (writeLanes g dst k vals).gr } := by
  unfold writeLanes
  induction vals generalizing g with
  | nil => rfl
  | cons p t ih =>
    rw [List.foldl_cons, ih]
    rw [writeG_eq]

/-- The set bits below n of a number, counted from i. -/
theorem mem_bitList (n x i j : Nat) : j ∈ bitList n x i ↔ i ≤ j ∧ j < i + n ∧ x.testBit (j - i) = true := by
  induction n generalizing x i with
  | zero => simp [bitList]; omega
  | succ n ih =>
    have base : x.testBit 0 = decide (x % 2 = 1) := by simp [Nat.testBit_zero]
    unfold bitList
    by_cases e : x % 2 = 1
    · rw [if_pos (by simp [e]), List.mem_cons, ih]
      constructor
      · rintro (rfl | ⟨a, b, c⟩)
        · simp [e]
        · refine ⟨by omega, by omega, ?_⟩
          rw [show j - i = (j - (i + 1)) + 1 by omega, Nat.testBit_succ]
          exact c
      · rintro ⟨a, b, c⟩
        by_cases q : j = i
        · exact Or.inl q
        · refine Or.inr ⟨by omega, by omega, ?_⟩
          rw [show j - i = (j - (i + 1)) + 1 by omega, Nat.testBit_succ] at c
          exact c
    · rw [if_neg (by simp [e]), ih]
      constructor
      · rintro ⟨a, b, c⟩
        refine ⟨by omega, by omega, ?_⟩
        rw [show j - i = (j - (i + 1)) + 1 by omega, Nat.testBit_succ]
        exact c
      · rintro ⟨a, b, c⟩
        have q : j ≠ i := by
          rintro rfl
          simp [e] at c
        refine ⟨by omega, by omega, ?_⟩
        rw [show j - i = (j - (i + 1)) + 1 by omega, Nat.testBit_succ] at c
        exact c

theorem nodup_bitList (n x i : Nat) : (bitList n x i).Nodup := by
  induction n generalizing x i with
  | zero => simp [bitList]
  | succ n ih =>
    unfold bitList
    split
    · rw [List.nodup_cons]
      refine ⟨?_, ih _ _⟩
      rw [mem_bitList]
      omega
    · exact ih _ _

/-- The lanes of a mask are those whose bit is set. -/
theorem mem_lanesOf (m : LaneMask) (l : Nat) : l ∈ lanesOf m ↔ m.toNat.testBit l = true := by
  unfold lanesOf setBitsOf
  rw [mem_bitList]
  constructor
  · rintro ⟨_, _, c⟩
    simpa using c
  · intro c
    refine ⟨by omega, ?_, by simpa using c⟩
    by_contra h
    have : m.toNat.testBit l = false := Nat.testBit_lt_two_pow (lt_of_lt_of_le m.isLt (Nat.pow_le_pow_right (by omega) (by omega)))
    rw [this] at c
    exact absurd c (by simp)

theorem nodup_lanesOf (m : LaneMask) : (lanesOf m).Nodup := nodup_bitList _ _ _

end Sys2Proof.Machine
end

