-- ==== Sys2Proof/Laws/Issue.lean ====
section
/-!
SUPPORT. Group issue: what an instruction that is ready does, and what its completion leaves.
-/
namespace Sys2Proof.Machine

/-- Every opcode that Ready can name is assigned. -/
theorem issue_ready {s : Dev} {i : Issue} {op : Nat} {e : Env} (always : Bool) (body : Env → Dev → Dev) (h : Ready s i op e)
    (a : opAssigned op = true) : issue op always i s body = if e.part = 0 ∧ !always then complete s e e.g else body e s := by
  obtain ⟨h1, h2, h3, h4, h5⟩ := h
  unfold issue
  simp only [h1, h2, h3, h4, h5, a, ne_eq, not_true_eq_false, if_false, Bool.not_true, Bool.false_eq_true, reduceCtorEq]

/-- The environment of an issue names the issue's own core, group and words. -/
theorem envOf_fields {s : Dev} {i : Issue} {e : Env} (h : envOf s i = some e) :
    e.core = i.core ∧ e.gno = i.group ∧ e.w = i.w ∧ e.second = i.second ∧ e.c = coreOf s i.core ∧ tget (coreOf s i.core).groups i.group = some e.g
      ∧ e.g.run = some e.path ∧ e.g.done = false := by
  unfold envOf at h
  dsimp only at h
  split at h
  · cases h
  · split at h
    · rename_i hg
      split at h
      · rename_i hr
        split at h
        · cases h
        · rename_i c
          simp only [Option.some.injEq] at h
          subst h
          refine ⟨rfl, rfl, rfl, rfl, rfl, hg, hr, ?_⟩
          simp at c
          exact c.1.1
      · cases h
    · cases h

/-- The group after its instruction has completed. -/
theorem groupIn_complete (s : Dev) (e : Env) (g : Group) : groupIn (finish (complete s e g)) e = advancePc g (wLen e.w) := by
  unfold groupIn coreOf
  rw [finish_cores]
  unfold complete tickSeq putGroup modCore setCore coreOf
  simp

/-- Completing an instruction changes its group, and the core's place in its issue order. -/
theorem complete_onlyGroup (s : State) (e : Env) (g : Group) :
    OnlyGroup s { s with dev := finish (complete s.dev e g) } e := by
  refine ⟨rfl, ?_, ?_, ?_, ?_, ?_, ?_, ?_, ?_, ?_⟩
  · intro a
    rw [withDev_dev, dramByte_finish]
    rfl
  · intro o _ n
    rw [withDev_dev, regRead_finish _ _ n]
    rfl
  · exact ⟨rfl, rfl, rfl, rfl, rfl, rfl, rfl, rfl, rfl, rfl, rfl, rfl, rfl, rfl, rfl, rfl, rfl, rfl, rfl⟩
  · intro j hj
    have : coreOf (finish (complete s.dev e g)) j = coreOf (complete s.dev e g) j := by unfold coreOf; rw [finish_cores]
    rw [withDev_dev, this]
    unfold complete tickSeq putGroup
    rw [coreOf_modCore_other _ _ _ _ hj, coreOf_modCore_other _ _ _ _ hj]
  all_goals
    have k : coreOf (finish (complete s.dev e g)) e.core
        = { coreOf s.dev e.core with groups := tset (coreOf s.dev e.core).groups e.gno (advancePc g (wLen e.w)), seq := (coreOf s.dev e.core).seq + 1 } := by
      unfold coreOf
      rw [finish_cores]
      unfold complete tickSeq putGroup modCore setCore coreOf
      simp
  · intro j hj
    rw [withDev_dev, k]
    exact tget_tset_other _ _ _ _ hj
  all_goals rw [withDev_dev, k]

/-- A group-local instruction that is ready, with lanes to run in and no fault, completes with its own result. -/
theorem issue_runLocal {s : Dev} {i : Issue} {op : Nat} {e : Env} {g : Group} (always : Bool)
    (f : VCtx → Word64 → Word64 → Group → LaneMask → GRes) (h : Ready s i op e) (a : opAssigned op = true) (p : e.part ≠ 0)
    (r : f (tells s e) e.w e.second e.g e.part = .ok g) : issue op always i s (runLocal f) = complete s e g := by
  rw [issue_ready always _ h a, if_neg (fun q => p q.1)]
  unfold runLocal
  unfold tells at r
  rw [r]

/-- The checks of steps 1 and 2, passed. -/
theorem checked_ok {c : Ck} (g : Group) (h : ckCode c = 0) : checked c g = .ok g := by simp [checked, h]

/-- What moving on leaves of a group. -/
theorem advancePc_run (g : Group) (n : Nat) : (advancePc g n).run = g.run.map (fun p => { p with pc := (p.pc + n) % 2 ^ 64 }) := rfl
@[simp] theorem advancePc_gr (g : Group) (n : Nat) : (advancePc g n).gr = g.gr := rfl
@[simp] theorem advancePc_ur (g : Group) (n : Nat) : (advancePc g n).ur = g.ur := rfl
@[simp] theorem advancePc_pr (g : Group) (n : Nat) : (advancePc g n).pr = g.pr := rfl
@[simp] theorem advancePc_flags (g : Group) (n : Nat) : (advancePc g n).flags = g.flags := rfl
@[simp] theorem advancePc_slot (g : Group) (n : Nat) : (advancePc g n).slot = g.slot := rfl

end Sys2Proof.Machine
end

