-- ==== Sys2Proof/Laws/Results.lean ====
section
/-!
SUPPORT. Results of group instructions: a legal destination lies within the register file, and writing one leaves what `DstGets` and `PredGets` say.
-/
namespace Sys2Proof.Machine

/-- Checks that pass together pass one by one. -/
theorem ckCode_ckAll {l : List Ck} (h : ckCode (ckAll l) = 0) : ∀ c ∈ l, c.rsv = false ∧ c.arg = false := by
  unfold ckCode ckAll at h
  simp only at h
  intro c hc
  constructor
  · by_contra n
    have : l.any (·.rsv) = true := List.any_eq_true.mpr ⟨c, hc, by simpa using n⟩
    rw [this] at h
    simp [eReserved] at h
  · by_contra n
    have : l.any (·.arg) = true := List.any_eq_true.mpr ⟨c, hc, by simpa using n⟩
    rw [this] at h
    by_cases r : l.any (·.rsv) = true <;> simp [r, eReserved, eArg] at h

/-- A register field holds 8 bits. -/
theorem wDst_lt (w : Word64) : wDst w < 256 := bitsOf_lt _ _ _

/-- A legal destination lies within the 256 registers of a lane. -/
theorem gCk_fits {n k regs : Nat} (h : (gCk n k regs).arg = false) (hn : n < 256) (hk : k = 1 ∨ k = 2 ∨ k = 4) : n + k ≤ 256 := by
  unfold gCk argIf baseOk at h
  simp at h
  rcases hk with rfl | rfl | rfl <;> omega

/-- What writing a destination leaves (R90). -/
theorem dstGets_of_complete (s : State) (e : Env) (g : Group) (dsel : Bool) (k : Nat) (v : Nat → Nat) (hr : e.g.run = some e.path)
    (hd : dsel = false → wDst e.w + k ≤ 256)
    (hg : g = { writeDst e.g dsel (wDst e.w) k ((lanesOf e.part).map (fun l => (l, v l))) with flags := g.flags }) :
    DstGets s { s with dev := finish (complete s.dev e g) } e dsel k v := by
  have gi : groupIn (finish (complete s.dev e g)) e = advancePc g (wLen e.w) := groupIn_complete s.dev e g
  have gr := congrArg Group.gr hg
  have ur := congrArg Group.ur hg
  have pr := congrArg Group.pr hg
  have keep : (writeDst e.g dsel (wDst e.w) k ((lanesOf e.part).map (fun l => (l, v l)))) =
      { e.g with gr := (writeDst e.g dsel (wDst e.w) k ((lanesOf e.part).map (fun l => (l, v l)))).gr,
                 ur := (writeDst e.g dsel (wDst e.w) k ((lanesOf e.part).map (fun l => (l, v l)))).ur } := by
    unfold writeDst
    split
    · split
      · rfl
      · rw [writeU_eq]
    · rw [writeLanes_eq]
  have hrun : g.run = some e.path := by rw [hg]; rw [keep]; exact hr
  refine ⟨complete_onlyGroup s e g, ?_, ?_, ?_⟩
  · unfold movedOn
    rw [withDev_dev, gi, advancePc_run, hrun]
    rfl
  · unfold SamePaths
    rw [withDev_dev, gi, hg, keep]
    exact ⟨rfl, rfl, rfl, rfl, rfl, rfl, rfl⟩
  · rw [withDev_dev, gi]
    have pr' : g.pr = e.g.pr := by rw [pr, keep]
    cases dsel with
    | true =>
      simp only [if_true]
      have ur' : g.ur = (writeDst e.g true (wDst e.w) k ((lanesOf e.part).map (fun l => (l, v l)))).ur := ur
      have gr' : g.gr = e.g.gr := by
        rw [gr]
        unfold writeDst
        simp only [if_true]
        split
        · rfl
        · rw [writeU_eq]
      unfold writeDst at ur'
      simp only [if_true] at ur'
      constructor
      · intro l hl low
        have first : ∃ t, lanesOf e.part = l :: t := by
          have m : l ∈ lanesOf e.part := (mem_lanesOf _ _).mpr hl
          cases hL : lanesOf e.part with
          | nil => rw [hL] at m; simp at m
          | cons a t =>
            have am : e.part.toNat.testBit a = true := (mem_lanesOf _ _).mp (by rw [hL]; simp)
            have sorted : ∀ n x i, (bitList n x i).Pairwise (· < ·) := by
              intro n
              induction n with
              | zero => intro x i; simp [bitList]
              | succ n ih =>
                intro x i
                unfold bitList
                split
                · rw [List.pairwise_cons]
                  refine ⟨?_, ih _ _⟩
                  intro j hj
                  have := (mem_bitList _ _ _ _).mp hj
                  omega
                · exact ih _ _
            have so : (lanesOf e.part).Pairwise (· < ·) := sorted _ _ _
            rw [hL] at so m
            rcases List.mem_cons.mp m with rfl | m
            · exact ⟨t, rfl⟩
            · have lt := (List.pairwise_cons.mp so).1 l m
              rw [low a lt] at am
              exact absurd am (by simp)
        obtain ⟨t, ht⟩ := first
        rw [ht, List.map_cons] at ur'
        have same : ∀ (x y : Group), x.ur = y.ur → ∀ n m, readU x n m = readU y n m := by
          intro x y e n m
          induction m generalizing n with
          | zero => rfl
          | succ m ih => unfold readU; rw [e, ih]
        rw [same (advancePc g (wLen e.w)) (writeU e.g (wDst e.w) k (v l)) ur' _ _]
        exact readU_writeU_same _ _ _ _
      · refine ⟨?_, pr', gr'⟩
        intro n hn
        rw [advancePc_ur, ur']
        split
        · rfl
        · rw [tget_writeU, if_neg (by omega)]
    | false =>
      simp only [Bool.false_eq_true, if_false]
      have gr' : g.gr = (writeLanes e.g (wDst e.w) k ((lanesOf e.part).map (fun l => (l, v l)))).gr := gr
      have ur' : g.ur = e.g.ur := by rw [ur]; exact writeLanes_ur _ _ _ _
      have same : ∀ (x y : Group), x.gr = y.gr → ∀ l n m, readG x l n m = readG y l n m := by
        intro x y e l n m
        induction m generalizing n with
        | zero => rfl
        | succ m ih => unfold readG gReg; rw [e, ih]
      have one : ∀ (x y : Group), x.gr = y.gr → ∀ l n, gReg x l n = gReg y l n := by
        intro x y e l n
        unfold gReg
        rw [e]
      constructor
      · intro l hl
        rw [same (advancePc g (wLen e.w)) _ gr']
        exact readG_writeLanes _ _ _ _ _ _ (hd rfl) (nodup_lanesOf _) ((mem_lanesOf _ _).mpr hl)
      · refine ⟨?_, pr', ur'⟩
        intro lane n hn ho
        rw [one (advancePc g (wLen e.w)) _ gr']
        refine gReg_writeLanes_other _ _ _ _ _ _ (hd rfl) hn ?_
        rcases ho with ho | ho
        · refine Or.inl ?_
          intro p hp q
          obtain ⟨x, hx, rfl⟩ := List.mem_map.mp hp
          have := (mem_lanesOf _ _).mp hx
          have q : x = lane := q
          rw [q, ho] at this
          exact absurd this (by simp)
        · exact Or.inr ho

end Sys2Proof.Machine
end

