-- ==== Sys2Proof/Laws/Slices.lean ====
section
/-!
SUPPORT. The slices: what a read of a line that its home holds, a copy of a line that no channel holds, and a fold that meets one entry do.
-/
namespace Sys2Proof.Machine

/-- A read of eight aligned bytes of a clean line that its home slice holds gives them, and changes nothing (R209, R213). -/
theorem devRead_held {s : Dev} {loc : Nat} {l : Line} (hl : isLocal (loc / 64) = true) (hline : lineAt s (loc / 64) = some l)
    (ht : tget s.shore.txn (loc / 64) = none) (hd : dirAt s (loc / 64) = none) (hp : l.poison = 0) (ha : loc % 8 = 0) :
    devRead s loc 8 = (s, leBytes 8 ((halfOf l.data (loc / 32 % 2)).toNat / 2 ^ (8 * (loc % 32))), 0) := by
  have hk : loc / 32 / 2 = loc / 64 := by omega
  have hh : homeAccess s (loc / 64) false = (s, true) := by simp [homeAccess, ht, hd]
  have hn : lineNow s (loc / 64) = (s, some l) := by simp [lineNow, hline]
  have hsec : devReadSec s (loc / 32) = (s, halfOf l.data (loc / 32 % 2), 0) := by
    simp [devReadSec, hk, placeOf, hl, hh, hn, takeHalf, halfCode, hp]
  have hcnt : (loc + 7) / 32 - loc / 32 = 0 := by omega
  have hm : min 8 (32 - loc % 32) = 8 := by omega
  simp [devRead, devRead.go, hsec, hm, hcnt]

/-- A copy of a line of an address without a channel counts the access, and copies nothing (R237, R240). -/
theorem copyLine_unmapped {s : Dev} {src dst : Nat} (hline : lineAt s src = none) (hc : chanOf s (64 * src) = none) :
    copyLine s src dst = countUnmapped s (64 * src) := by
  simp [copyLine, lineNow, hline, hc]

/-- A table written twice at a key keeps the later value. -/
theorem tset_tset {V : Type} (t : List (Nat × V)) (k : Nat) (a b : V) : tset (tset t k a) k b = tset t k b := by
  induction t with
  | nil => simp [tset]
  | cons p t ih =>
    obtain ⟨k', v⟩ := p
    by_cases h1 : k' = k
    · subst h1; simp [tset]
    · by_cases h2 : k < k' <;> simp [tset, h1, h2, ih]

/-- A fold in which one element of a list acts on what stands before it, and no other element does anything. -/
theorem foldl_one {α β : Type} (f : β → α → β) (b c : β) (x : α) (l r : List α) (h1 : ∀ y ∈ l, f b y = b) (h : f b x = c) (h2 : ∀ y ∈ r, f c y = c) :
    (l ++ x :: r).foldl f b = c := by
  have fix : ∀ (d : β) (l : List α), (∀ y ∈ l, f d y = d) → l.foldl f d = d := by
    intro d l
    induction l with
    | nil => intro _; rfl
    | cons y l ih =>
      intro g
      rw [List.foldl_cons, g y (by simp)]
      exact ih (fun z hz => g z (by simp [hz]))
  rw [List.foldl_append, fix b l h1, List.foldl_cons, h, fix c r h2]

end Sys2Proof.Machine
end

