-- ==== Sys2Proof/Tests/Base.lean ====
section
/-!
SUPPORT. Small states and words for the tests: a module that is READY, a core that runs one group of a launch, commands, and the forms in which the
premises of the statements are decided.
-/
namespace Sys2Proof.Tests
open Sys2Proof Sys2Proof.Machine
set_option Elab.async false

/-- A base word with the always guard (R86). -/
def word (op dst a b mod : Nat) : Word64 := BitVec.ofNat 64 (op * 2 ^ 57 + dst * 2 ^ 49 + a * 2 ^ 41 + b * 2 ^ 33 + 7 * 2 ^ 29 + mod)

/-- A base word with a guard predicate. -/
def guarded (op dst a b mod p : Nat) : Word64 := BitVec.ofNat 64 (op * 2 ^ 57 + dst * 2 ^ 49 + a * 2 ^ 41 + b * 2 ^ 33 + p * 2 ^ 29 + mod)

/-- Registers of lanes 0 and 1. -/
def regsG : Tbl Reg32 :=
  [(0, 7), (1, 0xFFFFFFF0), (2, 0x10000), (3, 0), (4, 0x3F800000), (5, 0x40400000), (6, 0x10), (8, 0x40000000),
   (256, 0x80000000), (257, 0xFFFFFFFF), (258, 0x10020), (259, 0), (260, 0xBF800000), (261, 0x7FC00000), (262, 0x20), (264, 0x40000000)]

/-- A group with two threads that have not ended, at address 64. -/
def group0 : Group :=
  { Group.start 0 0 64 [(0, 9), (2, 0x10000)] with run := some ⟨64, 3⟩, gr := regsG, pr := [(1, 1), (2, 2)], flags := 1, ended := 0xFFFFFFFC }

/-- Two groups in one set, 64 registers, 256 KiB of local store. -/
def shape0 : Shape := { groups := 2, setGroups := 2, regs := 64, lsSplit := 1, lsPerSet := 4096 }

/-- A launch of instance 0 on core 0 with one slot. -/
def disp0 : Dispatch :=
  { inst := 0, plain := true, bind := 0, cls := 0, shape := shape0, prog := 0, args := 0, islands := 1, seed := 5, got := [0], cores := [0],
    canon := [0], slots := [⟨3, 4, 77, 0x10000, 256, 0x10000, 256, 0x10080, 4⟩], phase := .running, order := 0, source := none, uregs := [],
    flags := 0, poisonTiles := 0, code := 0, seq := 1, start := some 0 }

/-- Core 0 with its group, and the translation of one leaf. -/
def core0 : Core :=
  { Core.reset with
    disp := some 0, split := 1, groups := [(0, group0)], sets := [(0, ⟨0, true⟩)], nextSet := 1, ls := [(16, 0xFE), (17, 0xFF), (32, 1)],
    tlb := [(1, ⟨0, 0x10000, 65536, 0x4000, true, true, true, false⟩)] }

/-- A module at READY with all of its power. -/
def idle0 : Dev :=
  fset { State.reset.dev with start := { Start.reset with primary := true, secondary := true, closed := true } } RF.BRG_START_STATUS_STAGE 9

/-- READY, with two channels of tier A and one of tier B, and one island in home set 0. -/
def module0 : Dev :=
  let d := { idle0 with mem := { idle0.mem with listA := [0, 1], listB := [1024] } }
  let d := fset (fset d RF.MEM_TIER_A_CAP_VALUE (2 ^ 30)) RF.MEM_TIER_B_CAP_VALUE (2 ^ 34)
  let d := fset (fset (fset d (chanSTATE 0) 0) (chanSTATE 1) 0) (chanSTATE 1024) 0
  let d := fset (fset (fset d (RF.SHC_HOME_SET_ISLANDS 0) 1) (RF.SHC_HOME_SET_COUNT 0) 1) RF.BRG_PKG_LEVEL_ENABLED_COUNT 44
  fset (fset d (RF.SHC_SLICE_STATUS_STATE 0) 0) (RF.PWR_ISLAND_STATE 0) 0

/-- READY, with core 0 running. -/
def ready0 : Dev := { idle0 with cores := [(0, core0)], disp := [(0, disp0)] }

/-- A state with no command waiting. -/
def at0 (d : Dev) : State := ⟨[], d⟩

/-- The same module with another core 0. -/
def withCore (d : Dev) (c : Core) : Dev := { d with cores := [(0, c)] }

/-- Group 0 of core 0 issues a word. -/
def issueOf (w : Word64) : Issue := ⟨0, 0, w, 0, 0, .ok⟩

/-- The same with a second word. -/
def issue2 (w v : Word64) : Issue := ⟨0, 0, w, v, 0, .ok⟩

/-- What the instruction of an issue sees. -/
def envAt (d : Dev) (i : Issue) : Env := (envOf d i).getD ⟨0, 0, 0, 0, 0, ⟨0, 0⟩, group0, core0, disp0⟩

/-- A command entry: its opcode, its flags byte, and body bytes at their places. -/
def entryOf (op : Nat) (body : List (Nat × Nat)) : Entry512 := BitVec.ofNat 512 (body.foldl (fun a p => a + p.2 * 2 ^ (8 * p.1)) op)

/-- A ring in service, whose pages lie at local address 0x200000 on. -/
def ring0 : Ring := Ring.make 0 6 6 0 0 0 0 0 [0x200000] [0x210000] 0x220000 0

/-- A command that the front end has read from ring `ring` of an instance. -/
def withCmd (d : Dev) (inst ring : Nat) (e : Entry512) : Dev :=
  { d with fe := { d.fe with rings := tset d.fe.rings (ringKey inst ring) ring0, store := d.fe.store ++ [⟨inst, ring, 0, e, 0, false⟩] } }

/-- Its name. -/
def cmdAt (inst ring : Nat) : Cmd := { origin := if inst = 0 then 1 else 2, inst := inst, ring := ring, pos := 0, bus := 0, authed := false, entry := 0, payload := [] }

/-- A command that comes over a management bus within a session. -/
def sideCmd (e : Entry512) : Cmd := { origin := 4, inst := 0, ring := 0, pos := 0, bus := 0, authed := true, entry := e, payload := [] }

/-- What a command runs as. -/
def ctxAt (op : Nat) (c : Cmd) (d : Dev) : Ctx :=
  (ctxOf op c d).getD { e := 0, origin := 0, inst := 0, ring := 0, pos := 0, key := 0, bus := 0, authed := false, replay := false, payload := [] }

/-! ### Premises in decidable form -/

theorem ready_of {s : Dev} {i : Issue} {op : Nat} {e : Env}
    (h : (envOf s i = some e ∧ i.fetch = 0 ∧ i.sram = .ok ∧ wOp i.w = op ∧ pendingEnd e.g = none)) : Ready s i op e := h

/-- Whether a command can run now. -/
def servedB (s : Dev) (op : Nat) (x : Ctx) : Bool :=
  if x.origin = 4 then busOn s x.bus && sidebandRuns s op && fget s RF.BRG_START_STATUS_RECOVERY != 1 && s.fe.store.all (fun e => e.inst != 33)
      else serving s && s.fe.store.all (fun e => cmdKey e.inst e.ring e.pos != x.key || e.phase != 1)

/-- Whether a command is admitted. -/
def admitsB (s : Dev) (op : Nat) (c : Cmd) (x : Ctx) : Bool :=
  decide (ctxOf op c s = some x) && s.blocked.isEmpty && decide (x.inst ≤ 32)
    && (match specOf op with
      | some sp => headCode s sp x == 0 && ringCode s sp x == 0
      | none => false)
    && servedB s op x

theorem served_of {s : Dev} {op : Nat} {x : Ctx}
    (h : servedB s op x = true) : Served s op x := by
  unfold servedB at h
  unfold Served
  split
  · rename_i h4
    simp [h4] at h
    exact ⟨h.1.1.1, h.1.1.2, by simpa using h.1.2, fun e he => by simpa using h.2 e he⟩
  · rename_i h4
    simp [h4] at h
    refine ⟨h.1, fun e he hk => ?_⟩
    rcases h.2 e he with h' | h'
    · exact absurd hk h'
    · simpa using h'

theorem admits_of {s : Dev} {op : Nat} {c : Cmd} {x : Ctx} (h : admitsB s op c x = true) : Admits s op c x := by
  simp only [admitsB, Bool.and_eq_true, decide_eq_true_eq] at h
  obtain ⟨⟨⟨⟨h1, h2⟩, h3⟩, h4⟩, h5⟩ := h
  refine ⟨h1, by simpa using h2, h3, ?_, served_of h5⟩
  split at h4
  · rename_i sp hsp
    simp at h4
    exact ⟨sp, hsp, h4.1, h4.2⟩
  · exact absurd h4 (by simp)

theorem served_eq {s : Dev} {op : Nat} {x : Ctx} : Served s op x = (servedB s op x = true) := by
  apply propext
  refine ⟨fun h => ?_, served_of⟩
  unfold Served at h
  unfold servedB
  split at h
  · rename_i h4
    simp [h4, h.1, h.2.1, h.2.2.1]
    exact h.2.2.2
  · rename_i h4
    simp only [h4, if_false, h.1, Bool.true_and, List.all_eq_true]
    intro e he
    by_cases hk : cmdKey e.inst e.ring e.pos = x.key
    · simp [h.2 e he hk]
    · simp [hk]

theorem heldHome_of {s : Dev} {k : Nat} {l : Line}
    (h : isLocal k = true ∧ lineAt s k = some l ∧ tget s.shore.txn k = none ∧ dirAt s k = none ∧ inBypass s k = false) : HeldHome s k l := h

theorem settled_of {s : Dev} (h : Memory.wf s.dram = true ∧ fget s RF.SHC_STATUS_DIR_USED_HW = dirCount s 0 % 2 ^ 20
    ∧ fget s RF.SHC_STATUS_DIR_USED_HE = dirCount s 1 % 2 ^ 20 ∧ s.blocked = []) : Settled s := h

theorem known_of {s : Dev} (h : (s.mem.listA ++ s.mem.listB).all (fun c => decide (c < 1152)) = true) : channelsKnown s := by
  intro c hc
  simpa using List.all_eq_true.mp h c hc

theorem arrives_of {s : Dev} {m : FabMsg} (h : serving s = true ∧ ownDevice s m.dst = true ∧ m.reserved = false
    ∧ m.epoch = (match memberOf s m.src with
      | none => 0
      | some i => fget s (RF.SHC_EPOCH_EPOCH i))) : Arrives s m := h

theorem reachable_of {s : Dev} {e : Env} {access width : Nat} {write : Bool} {addrs : List (Nat × Nat)}
    (h : addrs.all (fun p => canonical p.2 && (heldLoc s e access p.2).isSome && !sbBlocks (coreOf s e.core) none p.2 width write) = true) :
    Reachable s e access width write addrs := by
  intro p hp
  have := List.all_eq_true.mp h p hp
  simp at this
  exact ⟨this.1.1, this.1.2, this.2⟩

theorem inL1_of {s : Dev} {e : Env} {access width : Nat} {addrs : List (Nat × Nat)} (h0 : (coreOf s e.core).rbuf = [])
    (h : addrs.all (fun p => match heldLoc s e access p.2 with
      | some loc => l1Has (coreOf s e.core) (loc / 32) (byteSpan (loc % 32) width) && l1Code (coreOf s e.core) (loc / 32) == 0
      | none => true) = true) : HeldInL1 s e access width addrs := by
  refine ⟨fun sec => by simp [bufFind, h0], fun p hp loc hl => ?_⟩
  have := List.all_eq_true.mp h p hp
  rw [hl] at this
  simpa using this

/-- A bound that every lane below 32 meets is met by every lane of a mask. -/
theorem lanes_of {p : Nat → Prop} [DecidablePred p] {m : LaneMask} (h : (List.range 32).all (fun l => !m.toNat.testBit l || decide (p l)) = true) :
    ∀ l, m.toNat.testBit l = true → p l := by
  intro l hl
  have hlt : l < 32 := by
    rcases Nat.lt_or_ge l 32 with h' | h'
    · exact h'
    · have : m.toNat < 2 ^ l := Nat.lt_of_lt_of_le m.isLt (Nat.pow_le_pow_right (by decide) h')
      rw [Nat.testBit_lt_two_pow this] at hl
      exact absurd hl (by decide)
  have := List.all_eq_true.mp h l (List.mem_range.mpr hlt)
  simpa [hl] using this

theorem lanes2_of {p : Nat → Nat → Prop} [∀ a b, Decidable (p a b)] {m : LaneMask}
    (h : (List.range 32).all (fun l => !m.toNat.testBit l || (List.range 32).all (fun j => !m.toNat.testBit j || decide (l = j) || decide (p l j))) = true) :
    ∀ l l', m.toNat.testBit l = true → m.toNat.testBit l' = true → l ≠ l' → p l l' := by
  intro l l' hl hl' hne
  have h1 := lanes_of (p := fun l => (List.range 32).all (fun j => !m.toNat.testBit j || decide (l = j) || decide (p l j)) = true) (m := m)
    (by simpa only [Bool.decide_eq_true] using h) l hl
  have h2 := lanes_of (p := fun j => l = j ∨ p l j) (m := m) (by simpa only [Bool.or_assoc, Bool.decide_or] using h1) l' hl'
  exact h2.resolve_left hne

end Sys2Proof.Tests
end

