-- ==== Sys2Proof/Tests/Slice0.lean ====
section
/-!
SUPPORT. Tests of the model's own: ill-formed commands that WellFormed refuses, and results that the spec's text works out, each named with its place.
-/
namespace Sys2Proof.Tests
open Sys2Proof Sys2Proof.Machine
set_option Elab.async false

/-! ### Well-formed and ill-formed commands: one ill-formed term for each check -/

def msg (dst src hops epoch tag : Nat) : FabMsg := ⟨dst, src, hops, false, epoch, tag, 0, false, .coh .read 0 none⟩
def flit (seq ack kp : Nat) (l : List FabMsg) : FabFlit := ⟨seq, ack, false, false, true, kp, true, 0, true, true, true, l⟩
def wr (fn size value bus : Nat) : RegWr := ⟨false, fn, 0, size, value, bus, false, false⟩
def cmd (origin inst ring bus : Nat) : Cmd := ⟨origin, inst, ring, 0, 0, bus, false, []⟩
def iss (core fetch : Nat) : Issue := ⟨core, 0, 0, 0, fetch, .ok⟩

theorem test_wf_issue : (Instr.add (iss 175 0)).wf = true ∧ (Instr.add (iss 0 0x0502)).wf = true := by decide
theorem test_ill_core : (Instr.add (iss 176 0)).wf = false := by decide
theorem test_ill_fetch : (Instr.endOp (iss 0 7)).wf = false := by decide
theorem test_wf_command : (Instr.ringCreate (cmd 1 32 4095 1)).wf = true := by decide
theorem test_ill_origin : (Instr.ringCreate (cmd 0 0 0 0)).wf = false ∧ (Instr.ringCreate (cmd 5 0 0 0)).wf = false := by decide
theorem test_ill_command_instance : (Instr.launch (cmd 1 33 0 0)).wf = false := by decide
theorem test_ill_command_ring : (Instr.launch (cmd 1 0 4096 0)).wf = false := by decide
theorem test_ill_command_bus : (Instr.launch (cmd 1 0 0 2)).wf = false := by decide
theorem test_wf_message : (Instr.cohRead (msg 0x7FFF 0x7FFF 7 65535 65535) false).wf = true := by decide
theorem test_ill_message_dst : (Instr.cohRead (msg 0x8000 0 0 0 0) false).wf = false := by decide
theorem test_ill_message_src : (Instr.cohRead (msg 0 0x8000 0 0 0) false).wf = false := by decide
theorem test_ill_message_hops : (Instr.fabWrite (msg 0 0 8 0 0)).wf = false := by decide
theorem test_ill_message_epoch : (Instr.fabWrite (msg 0 0 0 65536 0)).wf = false := by decide
theorem test_ill_message_tag : (Instr.fabWrite (msg 0 0 0 0 65536)).wf = false := by decide
theorem test_wf_flit : (Instr.fabricFlitReceive 15 (flit 5 5 1 [])).wf = true := by decide +kernel
theorem test_ill_flit_port : (Instr.fabricFlitReceive 16 (flit 5 5 1 [])).wf = false := by decide +kernel
theorem test_ill_flit_seq : (Instr.fabricFlitReceive 0 (flit (2 ^ 32) 0 0 [])).wf = false := by decide +kernel
theorem test_ill_flit_ack : (Instr.fabricFlitReceive 0 (flit 0 (2 ^ 32) 0 [])).wf = false := by decide +kernel
theorem test_ill_flit_phase : (Instr.fabricFlitReceive 0 (flit 0 0 2 [])).wf = false := by decide +kernel
theorem test_ill_flit_slot : (Instr.fabricFlitReceive 0 (flit 0 0 0 [msg 0x8000 0 0 0 0])).wf = false := by decide +kernel
theorem test_wf_write : (Instr.registerWrite (wr 32 4 0xFFFFFFFF 1)).wf = true := by decide +kernel
theorem test_ill_write_size : (Instr.registerWrite (wr 0 0 0 0)).wf = false ∧ (Instr.registerWrite (wr 0 9 0 0)).wf = false := by decide +kernel
theorem test_ill_write_value : (Instr.registerWrite (wr 0 4 (2 ^ 32) 0)).wf = false := by decide +kernel
theorem test_ill_write_fn : (Instr.registerAccessMisaligned (wr 33 4 0 0) true).wf = false := by decide +kernel
theorem test_ill_write_bus : (Instr.brgMarginCtlGo (wr 0 8 0 2)).wf = false := by decide +kernel
theorem test_ill_link : (Instr.linkTraining ⟨4, true, false, 4, 16, []⟩).wf = false := by decide +kernel
theorem test_ill_link_bar : (Instr.linkTraining ⟨3, true, false, 4, 16, [(33, 0, 0)]⟩).wf = false := by decide +kernel
theorem test_ill_mx_unit : (Instr.mxRow 0 (.acc 8 0)).wf = false := by decide +kernel
theorem test_ill_mx_word : (Instr.mxRow 0 (.operand 786432)).wf = false := by decide +kernel
theorem test_ill_mx_core : (Instr.mxRow 176 .ok).wf = false := by decide +kernel
theorem test_ill_token : (Instr.mxTokenComplete 0 16).wf = false := by decide +kernel
theorem test_ill_handle : (Instr.ferrySegment 0 16).wf = false := by decide +kernel
theorem test_ill_engine (v w) : (Instr.translationWalk 0 0 v w).wf = false ∧ (Instr.translationWalk 0 4 v w).wf = false := ⟨rfl, rfl⟩
theorem test_ill_instance : (Instr.faultBatchClose 33).wf = false := by decide +kernel
theorem test_ill_ring : (Instr.watchLineWake 0 4096).wf = false := by decide +kernel
theorem test_ill_class : (Instr.classTick 8).wf = false := by decide +kernel
theorem test_ill_vf (b) : (Instr.vfFlr 0 b).wf = false ∧ (Instr.vfFlr 33 b).wf = false := ⟨rfl, rfl⟩
theorem test_ill_hold (b) : (Instr.moduleStart 0 2 b).wf = false := rfl
theorem test_ill_probe : (Instr.shcDirProbeAddr (2 ^ 64)).wf = false := by decide +kernel
theorem test_ill_vector (b) : (Instr.msixVectorUnmask 0 64 b).wf = false ∧ (Instr.msixVectorUnmask 1 62 b).wf = false := ⟨by simp [Instr.wf, isFn], by simp [Instr.wf, isFn]⟩
theorem test_ill_strait : (Instr.straitPark 110 0 0).wf = false := by decide +kernel
theorem test_ill_bundle : (Instr.straitPark 0 8 0).wf = false := by decide +kernel
theorem test_ill_direction : (Instr.straitPark 0 0 2).wf = false := by decide +kernel
theorem test_ill_lane : (Instr.rotateReq 0 0 0 68).wf = false := by decide +kernel
theorem test_ill_mesh_seq : (Instr.meshNak 0 0 0 (2 ^ 32)).wf = false := by decide +kernel
theorem test_ill_site : (Instr.routerFail 48).wf = false := by decide +kernel
theorem test_ill_island : (Instr.islandGate 44).wf = false := by decide +kernel
theorem test_ill_retries (a b) : (Instr.memRead a b 4 .clean false).wf = false := by simp [Instr.wf, isRetries]
theorem test_ill_stack (l) : (Instr.stackThermalReport 8 l).wf = false := rfl
theorem test_ill_unit : (Instr.dutyPausePeriod 40).wf = false := by decide +kernel
theorem test_ill_package (a b) : (Instr.mr4Report 32 a b).wf = false := rfl
theorem test_ill_group : (Instr.regulatorWindow 96).wf = false := by decide +kernel
theorem test_ill_channel : (Instr.layerLoss 1024).wf = false := by decide +kernel
theorem test_ill_edge : (Instr.multicastSegment (msg 0 0 0 0 0) 4).wf = false := by decide +kernel
theorem test_ill_device : (Instr.admissionTimeout 0x8000).wf = false := by decide +kernel
theorem test_ill_lanes : (Instr.portTrained 0 5).wf = false := by decide +kernel
theorem test_ill_conn (a b) : (Instr.getCertificate (2 ^ 16) 0 a b).wf = false := by simp [Instr.wf, isConn]
theorem test_ill_slot (a b) : (Instr.getCertificate 0 2 a b).wf = false := by simp [Instr.wf, isDir]
theorem test_ill_pll : (Instr.pllUnlock 52).wf = false ∧ (Instr.pllRelock 4).wf = false := by decide +kernel
theorem test_ill_pair : (Instr.ctlPairMismatch 2 0).wf = false ∧ (Instr.ctlPairMismatch 0 2).wf = false := by decide +kernel
theorem test_ill_module_slot : (Instr.powerApplied 32).wf = false := by decide +kernel
theorem test_ill_die (i) : (Instr.tapInstruction 52 i).wf = false := rfl

/-! ### Words, steps and registers -/

/-- No row of the table has bits. -/
theorem test_no_words : decodeTableWord 64 0x001409FB48200000 = none := rfl

/-- The queue runs first in, first out, and what it runs leaves it. -/
theorem test_step_front : (match step ⟨[.hotReset, .zeroStage], State.reset.dev⟩ with
    | .next t => t.pending
    | _ => []) = [.zeroStage] := by decide +kernel

/-- Values that the spec states for reset: REPLAY_THRESH and the rest of STR_LANE_POLICY (the example of chapter 16), CAP_W and ILIM_A (R473). -/
theorem test_reset_lane_policy : regRead State.reset.dev Reg.STR_LANE_POLICY = 0x0000000100C35010 := by decide +kernel
theorem test_reset_power_policy : fget State.reset.dev RF.PWR_POLICY_CAP_W = 3600 ∧ fget State.reset.dev RF.PWR_POLICY_ILIM_A = 68 := by decide +kernel

/-- The core 0 that a command leaves. -/
def coreAfter (o : Host.Outcome State Fault Refusal) : Core := match o with
  | .next t => coreOf t.dev 0
  | _ => Core.reset

/-- A register of a lane of group 0. -/
def laneReg (c : Core) (lane n : Nat) : Nat := (tgetD ((tgetD c.groups 0 group0).gr) (lane * 256 + n) 0).toNat

/-- The example of chapter 04, 0x0014_09FB_4820_0000: a lane in which P2 is false computes G4 - 3 into G10; P2 is true in lane 1, which keeps G10. -/
theorem test_guarded_add :
    let c := coreAfter (execAdd (issueOf 0x001409FB48200000) (at0 ready0))
    laneReg c 0 10 = 0x3F7FFFFD ∧ laneReg c 1 10 = 0 := by decide +kernel

/-- R96: ADD is modulo 2^32. -/
theorem test_add_wraps :
    let c := coreAfter (execAdd (issueOf (word 0x00 8 1 0 0)) (at0 ready0))
    laneReg c 0 8 = 0xFFFFFFF7 ∧ laneReg c 1 8 = 0x7FFFFFFF := by decide +kernel

/-- R96: a divisor of 0 gives all ones, and the remainder is A. -/
theorem test_div_zero : laneReg (coreAfter (execDiv (issueOf (word 0x05 8 0 3 0)) (at0 ready0))) 0 8 = 0xFFFFFFFF := by decide +kernel
theorem test_rem_zero : laneReg (coreAfter (execRem (issueOf (word 0x06 8 0 3 0)) (at0 ready0))) 0 8 = 7 := by decide +kernel

/-- R99: 1.0 + 3.0 is 4.0, and -1.0 with a NaN is the canonical NaN. -/
theorem test_addf :
    let c := coreAfter (execAddf (issueOf (word 0x18 9 4 5 0)) (at0 ready0))
    laneReg c 0 9 = 0x40800000 ∧ laneReg c 1 9 = 0x7FC00000 := by decide +kernel

/-! ### Results that the spec works out -/

/-- Chapter 06: FP4 0xB is -1.5, and a UE4M4 byte of 0x68 is 0.75. -/
theorem test_fp4 : decodeF fmtE2M1 0xB = .fin true 3 (-1) := by decide +kernel
theorem test_ue4m4 : ue4m4 0x68 = .fin false 768 (-10) := by decide +kernel

/-- Chapter 06: the canonical sum of 2^24, 1, 1 and -2^24 is 2.0. -/
theorem test_canonical_sum :
    (accumulate 0 ([(0x6C, 0x6C), (0x3C, 0x3C), (0x3C, 0x3C), (0xEC, 0x6C), (0, 0)].map
      (fun p => mulMark (decodeF fmtE5M2 p.1, false) (decodeF fmtE5M2 p.2, false))) (.fin false 1 0) false).1 = 0x40000000 := by decide +kernel

/-- Chapter 06: stochastic rounding of 0x3FA6_6666 to E4M3 with two draws. -/
theorem test_stochastic :
    floatToF fmtE4M3 (.sr 0xA0000000) true (decodeF fmtF32 0x3FA66666) = (0x3B, flNX)
      ∧ floatToF fmtE4M3 (.sr 0x12345678) true (decodeF fmtF32 0x3FA66666) = (0x3A, flNX) := by decide +kernel

/-- Chapter 06: a block of an MX output, its scale byte and its flags. -/
theorem test_mx_block :
    let b := mxBlock 4 true ([FV.fin false 1000 0, .fin true 53 (-4), .fin false 5 (-10), .fin false 64 0].map (fun v => (v, Rnd.rne)))
    b.elems = [0x7E, 0xBD, 0x01, 0x60] ∧ b.scale = 0x80 ∧ b.flags = flOF ||| flSAT ||| flNX ||| flUF := by decide +kernel

/-- Chapter 08: homes of two consecutive lines with 44 islands. -/
theorem test_home_hash :
    let d := fset (fset idle0 (RF.SHC_HOME_SET_ISLANDS 0) (2 ^ 44 - 1)) (RF.SHC_HOME_SET_COUNT 0) 44
    homeUnder d 0 0x48D159 = 17 ∧ homeUnder d 0 0x48D15A = 1 := by decide +kernel

/-- Chapter 09: channels of an address, with every channel good and with A3.117 mapped out. -/
def tierDev (out : List Nat) : Dev :=
  fset { idle0 with mem := { idle0.mem with listA := channelList true out.contains } } RF.MEM_TIER_A_CAP_VALUE ((1024 - out.length) * 2 ^ 29)
theorem test_channel_good : chanOf (tierDev []) 0x12345678 = some (6 * 128 + 10) := by decide +kernel
theorem test_channel_out : chanOf (tierDev [3 * 128 + 117]) 0x12345678 = some (4 * 128 + 28) := by decide +kernel

/-- Chapter 13: ranks of a tree of ten, and the sums along it. -/
theorem test_tree : parentRank 9 = 1 ∧ childRanks 10 0 = [1, 2, 3, 4, 5, 6, 7, 8] ∧ childRanks 10 1 = [9] := by decide +kernel
theorem test_collective_sum :
    combineElem 0 0 0x3F800000 0x3F800000 = (0x40000000, 0) ∧ (combineElem 0 0 0x4B800000 0x40000000).1 = 0x4B800001
      ∧ (combineElem 0 0 0x4B800000 0x3F800000).1 = 0x4B800000 := by decide +kernel

/-- Chapter 16: raising REPLAY_THRESH from 16 to 24 enters what the register held and holds. -/
def thresholdWr : RegWr := ⟨true, 0, Reg.STR_LANE_POLICY, 8, 0x0000000100C35018, 0, true, false⟩
def started : Dev := let d := idle0; { d with log := { d.log with started := true, everStarted := true, next := 1048575 } }
theorem test_log_entry :
    (match execRegisterWrite thresholdWr (at0 started) with
      | .next t => (tget t.dev.log.entries 1048575).map (fun e => (e.kind, e.object, e.result, e.old, e.new))
      | _ => none) = some (1, 0x110018, 0, 0x0000000100C35010, 0x0000000100C35018) := by decide +kernel

end Sys2Proof.Tests
end

