-- ==== Sys2Proof/Tests/WitFront.lean ====
section
/-!
SUPPORT. Premises of the statements about launches, batches, sessions and bindings, met together by concrete states: one theorem for each clause.
-/
namespace Sys2Proof.Tests
open Sys2Proof Sys2Proof.Machine
set_option Elab.async false

/-- READY, with island 0 in instance 0, which may hold 8 bindings. -/
def own0 : Dev := fset (fset module0 (RF.INS_ISLANDS_ISLANDS 0) 1) (RF.INS_QUOTA_MAX_BINDINGS 0) 8

/-- A write that core 0 has sent, to a line that its home slice holds. -/
def writeDev : Dev :=
  { own0 with
    cores := [(0, { Core.reset with wb := [⟨0x200, 0x1122334455667788, 0xFF, false, none, 0, 0, none⟩] })]
    shore := { own0.shore with lines := [(0x100, ⟨5, false, 0, 0, false, .home, 0⟩)] } }

/-- The line of that write. -/
def line0 : Line := ⟨5, false, 0, 0, false, .home, 0⟩

/-- The next set of core 0 is due. -/
def admitDev : Dev :=
  { own0 with
    cores := [(0, { Core.reset with disp := some 0, split := 1, ls := [(5, 7)] })]
    disp := [(0, { disp0 with start := none, uregs := [(1, 2)] })] }

/-- A LAUNCH of one group. -/
def launchE : Entry512 := entryOf 0x01 [(32, 1), (40, 9), (48, 1), (52, 64), (54, 4), (56, 1), (57, 1)]

/-- A launch that waits for island 0, which is idle. -/
def waitDev : Dev := { fset own0 (RF.PWR_ISLAND_STATE 0) 1 with disp := [(0, { disp0 with phase := .waiting, got := [], cores := [], canon := [] })] }

/-- A launch that has its island. -/
def assignedDev : Dev :=
  { own0 with cores := [(0, { Core.reset with split := 1 })], disp := [(0, { disp0 with phase := .assigned, slots := [], cores := [0, 1, 2, 3], start := none })] }

/-- That launch after its cores have started. -/
def startedDev : Dev :=
  [0, 1, 2, 3].foldl (fun s c => startCore s 0 { disp0 with phase := .assigned, slots := [], cores := [0, 1, 2, 3], start := none } c) assignedDev

/-- A launch that runs no more set, with a dirty sector in the L1 of its core and a write on its way. -/
def lastDisp : Dispatch := { disp0 with slots := [], source := some (cmdKey 0 1 0) }

/-- Its core. -/
def lastCore : Core :=
  { Core.reset with disp := some 0, split := 1, nextSet := 1, l1 := [(0x200, ⟨7, 0xF, 0xF, 0, false, false, false⟩)], wb := [⟨0x201, 7, 1, false, none, 0, 0, none⟩] }

/-- A launch whose cores have finished. -/
def finishedDev : Dev := { own0 with cores := [(0, lastCore)], disp := [(0, lastDisp)] }

/-- A launch whose writes have been accepted: its command stands in the store, begun. -/
def endedDev : Dev :=
  let d := withCmd own0 0 1 launchE
  { d with
    cores := [(0, { lastCore with wb := [], l1 := [] })]
    disp := [(0, { lastDisp with phase := .ended })]
    fe := { d.fe with store := d.fe.store.map (fun e => { e with phase := 1 }) } }

/-- A session of instance 0, bound to binding 3. -/
def ses0 : Session := { Session.closed 0 with state := .ready, binding := 3, cplRing := 1, step := 6, seed := 5, ioVa := 0x10000, kvList := 0x20000 }

/-- Binding 3. -/
def bind0 : Binding :=
  { inst := 0, prog := 64, args := 0, islands := 1, shape := shape0, frames := 4, maxBatch := 8, perIsland := 8, inBytes := 64, outBytes := 64 }

/-- The module with that session and binding. -/
def sesDev (x : Session) : Dev := { own0 with fe := { own0.fe with sessions := [(9, x)], bindings := [(3, bind0)], rings := [(1, ring0)] } }

/-- The state of a session that a command finds. -/
def sesIn (st : SesState) (away : Bool) : Session := { ses0 with state := st, away := away }

/-- A command of instance 0 on ring 1, with a session in a state. -/
def sesCmd (x : Session) (op : Nat) (body : List (Nat × Nat)) : Dev := withCmd (sesDev x) 0 1 (entryOf op body)

/-- A step of the session runs. -/
def stepSlot : SlotInfo := ⟨9, 6, 5, 0x10000, 64, 0x10100, 64, 0x20000, 0⟩

/-- Its dispatch. -/
def stepDisp : Dispatch := { disp0 with plain := false, bind := 3, slots := [stepSlot], phase := .ended }

/-- The session while its step runs. -/
def ses1 : Session := { ses0 with state := .running, pending := 1, arrivals := [10] }

/-- A step whose cores have finished. -/
def stepEnd : Dev := { sesDev ses1 with cores := [(0, { Core.reset with disp := some 0, nextSet := 1 })], disp := [(0, stepDisp)] }

/-- A Ready session with a frame. -/
def tickDev : Dev := sesDev { ses0 with pending := 1, arrivals := [10] }

/-- Windows of three classes: a slow one, a quick one that was not full, and a full one. -/
def windowDev : Dev :=
  let d := { own0 with fe := { own0.fe with windows := [(0, ⟨200000, 2 ^ 32, 1⟩), (1, ⟨5, 2 ^ 30, 1⟩), (2, ⟨5, 2 ^ 32, 1⟩)] } }
  [0, 1, 2].foldl (fun d k => fset (fset (fset (fset d (RF.SES_CLASS_CFG_CAD_MIN_US k) 500) (RF.SES_CLASS_CFG_CAD_MAX_US k) 4000)
    (RF.SES_CLASS_CFG_TARGET_US k) 3000) (RF.SES_CLASS_CFG_CADENCE_US k) 2000) d

/-- An input ring with an entry that names the session. -/
def inputDev : Dev :=
  let d := sesDev ses0
  { d with fe := { d.fe with rings := tset d.fe.rings 2 { ring0 with kind := 1 },
                             store := [⟨0, 2, 0, BitVec.ofNat 512 (9 + 6 * 2 ^ 64), 0, false⟩] } }

/-- What a command of instance 0 on ring 1 runs as. -/
def runsAs (op : Nat) (d : Dev) : Ctx := ctxAt op (cmdAt 0 1) d

def w1_WriteBacksAndSets_accept : WbEntry := { sec := 512, data := 1234605616436508552, mask := 255, poison := false, op := none, group := 0, seq := 0, sent := none : WbEntry }

theorem wit_WriteBacksAndSets_accept :
    (oldestWrite (at0 writeDev).dev 0 none = some w1_WriteBacksAndSets_accept) ∧
    (HeldHome (at0 writeDev).dev (w1_WriteBacksAndSets_accept.sec / 2) line0) :=
  ⟨by decide +kernel, heldHome_of (by decide +kernel)⟩

def w1_WriteBacksAndSets_admit : Dispatch := let __src := disp0; { inst := __src.inst, plain := __src.plain, bind := __src.bind, cls := __src.cls, shape := __src.shape, prog := __src.prog, args := __src.args, islands := __src.islands, seed := __src.seed, got := __src.got, cores := __src.cores, canon := __src.canon, slots := __src.slots, phase := __src.phase, order := __src.order, source := __src.source, uregs := [(1, 2)], flags := __src.flags, poisonTiles := __src.poisonTiles, code := __src.code, seq := __src.seq, start := none : Dispatch }

def w2_WriteBacksAndSets_admit : Core := let __src := Core.reset; { disp := some 0, split := 1, groups := __src.groups, sets := __src.sets, nextSet := __src.nextSet, ls := [(5, 7)], l1 := __src.l1, wb := __src.wb, sb := __src.sb, sbWait := __src.sbWait, mxHold := __src.mxHold, seq := __src.seq, acc := __src.acc, accPoison := __src.accPoison, tokens := __src.tokens, mxq := __src.mxq, handles := __src.handles, ferries := __src.ferries, tlb := __src.tlb, rbuf := __src.rbuf, abuf := __src.abuf, releasing := __src.releasing : Core }

theorem wit_WriteBacksAndSets_admit :
    ((let __src := Core.reset;  { disp := some 0, split := 1, groups := __src.groups, sets := __src.sets, nextSet := __src.nextSet, ls := [(5, 7)], l1 := __src.l1, wb := __src.wb, sb := __src.sb, sbWait := __src.sbWait, mxHold := __src.mxHold, seq := __src.seq, acc := __src.acc, accPoison := __src.accPoison, tokens := __src.tokens, mxq := __src.mxq, handles := __src.handles, ferries := __src.ferries, tlb := __src.tlb, rbuf := __src.rbuf, abuf := __src.abuf, releasing := __src.releasing : Core })
      =  coreOf (at0 admitDev).dev 0) ∧
    ((let __src := Core.reset;   { disp := some 0, split := 1, groups := __src.groups, sets := __src.sets, nextSet := __src.nextSet, ls := [(5, 7)], l1 := __src.l1, wb := __src.wb, sb := __src.sb, sbWait := __src.sbWait, mxHold := __src.mxHold, seq := __src.seq, acc := __src.acc, accPoison := __src.accPoison, tokens := __src.tokens, mxq := __src.mxq, handles := __src.handles, ferries := __src.ferries, tlb := __src.tlb, rbuf := __src.rbuf, abuf := __src.abuf, releasing := __src.releasing : Core }).disp
      =  some 0) ∧
    (tget (at0 admitDev).dev.disp 0 =  some   (let __src := disp0;   { inst := __src.inst, plain := __src.plain, bind := __src.bind, cls := __src.cls, shape := __src.shape, prog := __src.prog, args := __src.args, islands := __src.islands, seed := __src.seed, got := __src.got, cores := __src.cores, canon := __src.canon, slots := __src.slots, phase := __src.phase, order := __src.order, source := __src.source, uregs := [(1, 2)], flags := __src.flags, poisonTiles := __src.poisonTiles, code := __src.code, seq := __src.seq, start := none : Dispatch })) ∧
    ((let __src := disp0;   { inst := __src.inst, plain := __src.plain, bind := __src.bind, cls := __src.cls, shape := __src.shape, prog := __src.prog, args := __src.args, islands := __src.islands, seed := __src.seed, got := __src.got, cores := __src.cores, canon := __src.canon, slots := __src.slots, phase := __src.phase, order := __src.order, source := __src.source, uregs := [(1, 2)], flags := __src.flags, poisonTiles := __src.poisonTiles, code := __src.code, seq := __src.seq, start := none : Dispatch }).phase
      =  DispPhase.running) ∧
    ((let __src := Core.reset;    { disp := some 0, split := 1, groups := __src.groups, sets := __src.sets, nextSet := __src.nextSet, ls := [(5, 7)], l1 := __src.l1, wb := __src.wb, sb := __src.sb, sbWait := __src.sbWait, mxHold := __src.mxHold, seq := __src.seq, acc := __src.acc, accPoison := __src.accPoison, tokens := __src.tokens, mxq := __src.mxq, handles := __src.handles, ferries := __src.ferries, tlb := __src.tlb, rbuf := __src.rbuf, abuf := __src.abuf, releasing := __src.releasing : Core }).nextSet
      *   (let __src := disp0;     { inst := __src.inst, plain := __src.plain, bind := __src.bind, cls := __src.cls, shape := __src.shape, prog := __src.prog, args := __src.args, islands := __src.islands, seed := __src.seed, got := __src.got, cores := __src.cores, canon := __src.canon, slots := __src.slots, phase := __src.phase, order := __src.order, source := __src.source, uregs := [(1, 2)], flags := __src.flags, poisonTiles := __src.poisonTiles, code := __src.code, seq := __src.seq, start := none : Dispatch }).shape.setGroups
      <  (let __src := disp0;    { inst := __src.inst, plain := __src.plain, bind := __src.bind, cls := __src.cls, shape := __src.shape, prog := __src.prog, args := __src.args, islands := __src.islands, seed := __src.seed, got := __src.got, cores := __src.cores, canon := __src.canon, slots := __src.slots, phase := __src.phase, order := __src.order, source := __src.source, uregs := [(1, 2)], flags := __src.flags, poisonTiles := __src.poisonTiles, code := __src.code, seq := __src.seq, start := none : Dispatch }).shape.groups) ∧
    (∀ (q : Nat),  q < 4 →   partUsed      (let __src := Core.reset;      { disp := some 0, split := 1, groups := __src.groups, sets := __src.sets, nextSet := __src.nextSet, ls := [(5, 7)], l1 := __src.l1, wb := __src.wb, sb := __src.sb, sbWait := __src.sbWait, mxHold := __src.mxHold, seq := __src.seq, acc := __src.acc, accPoison := __src.accPoison, tokens := __src.tokens, mxq := __src.mxq, handles := __src.handles, ferries := __src.ferries, tlb := __src.tlb, rbuf := __src.rbuf, abuf := __src.abuf, releasing := __src.releasing : Core })
           q +     (List.filter       (fun gi =>        partOf          (let __src := disp0;           { inst := __src.inst, plain := __src.plain, bind := __src.bind, cls := __src.cls, shape := __src.shape, prog := __src.prog, args := __src.args, islands := __src.islands, seed := __src.seed, got := __src.got, cores := __src.cores, canon := __src.canon, slots := __src.slots, phase := __src.phase, order := __src.order, source := __src.source, uregs := [(1, 2)], flags := __src.flags, poisonTiles := __src.poisonTiles, code := __src.code, seq := __src.seq, start := none : Dispatch }).shape
               (let __src := disp0;            { inst := __src.inst, plain := __src.plain, bind := __src.bind, cls := __src.cls, shape := __src.shape, prog := __src.prog, args := __src.args, islands := __src.islands, seed := __src.seed, got := __src.got, cores := __src.cores, canon := __src.canon, slots := __src.slots, phase := __src.phase, order := __src.order, source := __src.source, uregs := [(1, 2)], flags := __src.flags, poisonTiles := __src.poisonTiles, code := __src.code, seq := __src.seq, start := none : Dispatch }).cores.length
               (let __src := Core.reset;           { disp := some 0, split := 1, groups := __src.groups, sets := __src.sets, nextSet := __src.nextSet, ls := [(5, 7)], l1 := __src.l1, wb := __src.wb, sb := __src.sb, sbWait := __src.sbWait, mxHold := __src.mxHold, seq := __src.seq, acc := __src.acc, accPoison := __src.accPoison, tokens := __src.tokens, mxq := __src.mxq, handles := __src.handles, ferries := __src.ferries, tlb := __src.tlb, rbuf := __src.rbuf, abuf := __src.abuf, releasing := __src.releasing : Core }).nextSet
               gi ==         q)       (List.range        (let __src := disp0;          { inst := __src.inst, plain := __src.plain, bind := __src.bind, cls := __src.cls, shape := __src.shape, prog := __src.prog, args := __src.args, islands := __src.islands, seed := __src.seed, got := __src.got, cores := __src.cores, canon := __src.canon, slots := __src.slots, phase := __src.phase, order := __src.order, source := __src.source, uregs := [(1, 2)], flags := __src.flags, poisonTiles := __src.poisonTiles, code := __src.code, seq := __src.seq, start := none : Dispatch }).shape.setGroups)).length
      ≤    partCapacity     (let __src := disp0;      { inst := __src.inst, plain := __src.plain, bind := __src.bind, cls := __src.cls, shape := __src.shape, prog := __src.prog, args := __src.args, islands := __src.islands, seed := __src.seed, got := __src.got, cores := __src.cores, canon := __src.canon, slots := __src.slots, phase := __src.phase, order := __src.order, source := __src.source, uregs := [(1, 2)], flags := __src.flags, poisonTiles := __src.poisonTiles, code := __src.code, seq := __src.seq, start := none : Dispatch }).shape) ∧
    (freeSlot   (let __src := Core.reset;   { disp := some 0, split := 1, groups := __src.groups, sets := __src.sets, nextSet := __src.nextSet, ls := [(5, 7)], l1 := __src.l1, wb := __src.wb, sb := __src.sb, sbWait := __src.sbWait, mxHold := __src.mxHold, seq := __src.seq, acc := __src.acc, accPoison := __src.accPoison, tokens := __src.tokens, mxq := __src.mxq, handles := __src.handles, ferries := __src.ferries, tlb := __src.tlb, rbuf := __src.rbuf, abuf := __src.abuf, releasing := __src.releasing : Core })
        (let __src := disp0;    { inst := __src.inst, plain := __src.plain, bind := __src.bind, cls := __src.cls, shape := __src.shape, prog := __src.prog, args := __src.args, islands := __src.islands, seed := __src.seed, got := __src.got, cores := __src.cores, canon := __src.canon, slots := __src.slots, phase := __src.phase, order := __src.order, source := __src.source, uregs := [(1, 2)], flags := __src.flags, poisonTiles := __src.poisonTiles, code := __src.code, seq := __src.seq, start := none : Dispatch }).shape
      =  some 0) :=
  ⟨by decide +kernel, by decide +kernel, by decide +kernel, by decide +kernel, by decide +kernel, by decide +kernel, by decide +kernel⟩

def w1_LaunchesStart_launch : Ctx := runsAs 1 (withCmd own0 0 1 launchE)

def w2_LaunchesStart_launch : State := at0 (withCmd own0 0 1 launchE)

theorem wit_LaunchesStart_launch :
    (Admits w2_LaunchesStart_launch.dev 1 (cmdAt 0 1) w1_LaunchesStart_launch) ∧
    (shapeOk (eb w1_LaunchesStart_launch.e 48 4) (eb w1_LaunchesStart_launch.e 56 1) (eb w1_LaunchesStart_launch.e 52 2) (eb
      w1_LaunchesStart_launch.e 57 1) (1024 * eb w1_LaunchesStart_launch.e 54 2) = true) ∧
    (islandsOk w2_LaunchesStart_launch.dev w1_LaunchesStart_launch.inst (eb w1_LaunchesStart_launch.e 32 8) = true) ∧
    (eb w1_LaunchesStart_launch.e 58 1 ≤ 7) ∧
    (eb w1_LaunchesStart_launch.e 16 8 % 8 = 0) ∧
    (eb w1_LaunchesStart_launch.e 24 8 % 64 = 0) ∧
    (namesLost w2_LaunchesStart_launch.dev (eb w1_LaunchesStart_launch.e 32 8) = false) :=
  ⟨admits_of (by decide +kernel), by decide +kernel, by decide +kernel, by decide +kernel, by decide +kernel, by decide +kernel, by decide +kernel⟩

def w1_LaunchesStart_islands : Dispatch := let __src := disp0; { inst := __src.inst, plain := __src.plain, bind := __src.bind, cls := __src.cls, shape := __src.shape, prog := __src.prog, args := __src.args, islands := __src.islands, seed := __src.seed, got := [], cores := [], canon := [], slots := __src.slots, phase := DispPhase.waiting, order := __src.order, source := __src.source, uregs := __src.uregs, flags := __src.flags, poisonTiles := __src.poisonTiles, code := __src.code, seq := __src.seq, start := __src.start : Dispatch }

theorem wit_LaunchesStart_islands :
    (serving (at0 waitDev).dev = true) ∧
    (tget (at0 waitDev).dev.disp 0 =  some   (let __src := disp0;   { inst := __src.inst, plain := __src.plain, bind := __src.bind, cls := __src.cls, shape := __src.shape, prog := __src.prog, args := __src.args, islands := __src.islands, seed := __src.seed, got := [], cores := [], canon := [], slots := __src.slots, phase := DispPhase.waiting, order := __src.order, source := __src.source, uregs := __src.uregs, flags := __src.flags, poisonTiles := __src.poisonTiles, code := __src.code, seq := __src.seq, start := __src.start : Dispatch })) ∧
    ((let __src := disp0;   { inst := __src.inst, plain := __src.plain, bind := __src.bind, cls := __src.cls, shape := __src.shape, prog := __src.prog, args := __src.args, islands := __src.islands, seed := __src.seed, got := [], cores := [], canon := [], slots := __src.slots, phase := DispPhase.waiting, order := __src.order, source := __src.source, uregs := __src.uregs, flags := __src.flags, poisonTiles := __src.poisonTiles, code := __src.code, seq := __src.seq, start := __src.start : Dispatch }).phase
      =  DispPhase.waiting) ∧
    (∀ (p : Nat × Dispatch), p ∈ (at0 waitDev).dev.disp → p.snd.got = [] ∧ (p.fst ≠ 0 → p.snd.phase ≠ DispPhase.waiting)) ∧
    (wanted (at0 waitDev).dev   (let __src := disp0;   { inst := __src.inst, plain := __src.plain, bind := __src.bind, cls := __src.cls, shape := __src.shape, prog := __src.prog, args := __src.args, islands := __src.islands, seed := __src.seed, got := [], cores := [], canon := [], slots := __src.slots, phase := DispPhase.waiting, order := __src.order, source := __src.source, uregs := __src.uregs, flags := __src.flags, poisonTiles := __src.poisonTiles, code := __src.code, seq := __src.seq, start := __src.start : Dispatch })
      ≤  (liveIslands (at0 waitDev).dev    (let __src := disp0;     { inst := __src.inst, plain := __src.plain, bind := __src.bind, cls := __src.cls, shape := __src.shape, prog := __src.prog, args := __src.args, islands := __src.islands, seed := __src.seed, got := [], cores := [], canon := [], slots := __src.slots, phase := DispPhase.waiting, order := __src.order, source := __src.source, uregs := __src.uregs, flags := __src.flags, poisonTiles := __src.poisonTiles, code := __src.code, seq := __src.seq, start := __src.start : Dispatch }).islands).length) :=
  ⟨by decide +kernel, by decide +kernel, by decide +kernel, by decide +kernel, by decide +kernel⟩

def w1_LaunchesStart_start : Dispatch := let __src := disp0; { inst := __src.inst, plain := __src.plain, bind := __src.bind, cls := __src.cls, shape := __src.shape, prog := __src.prog, args := __src.args, islands := __src.islands, seed := __src.seed, got := __src.got, cores := [0, 1, 2, 3], canon := __src.canon, slots := [], phase := DispPhase.assigned, order := __src.order, source := __src.source, uregs := __src.uregs, flags := __src.flags, poisonTiles := __src.poisonTiles, code := __src.code, seq := __src.seq, start := none : Dispatch }

theorem wit_LaunchesStart_start :
    (serving (at0 assignedDev).dev = true) ∧
    (tget (at0 assignedDev).dev.disp 0 =  some   (let __src := disp0;   { inst := __src.inst, plain := __src.plain, bind := __src.bind, cls := __src.cls, shape := __src.shape, prog := __src.prog, args := __src.args, islands := __src.islands, seed := __src.seed, got := __src.got, cores := [0, 1, 2, 3], canon := __src.canon, slots := [], phase := DispPhase.assigned, order := __src.order, source := __src.source, uregs := __src.uregs, flags := __src.flags, poisonTiles := __src.poisonTiles, code := __src.code, seq := __src.seq, start := none : Dispatch })) ∧
    ((let __src := disp0;   { inst := __src.inst, plain := __src.plain, bind := __src.bind, cls := __src.cls, shape := __src.shape, prog := __src.prog, args := __src.args, islands := __src.islands, seed := __src.seed, got := __src.got, cores := [0, 1, 2, 3], canon := __src.canon, slots := [], phase := DispPhase.assigned, order := __src.order, source := __src.source, uregs := __src.uregs, flags := __src.flags, poisonTiles := __src.poisonTiles, code := __src.code, seq := __src.seq, start := none : Dispatch }).phase
      =  DispPhase.assigned) ∧
    ((let __src := disp0;   { inst := __src.inst, plain := __src.plain, bind := __src.bind, cls := __src.cls, shape := __src.shape, prog := __src.prog, args := __src.args, islands := __src.islands, seed := __src.seed, got := __src.got, cores := [0, 1, 2, 3], canon := __src.canon, slots := [], phase := DispPhase.assigned, order := __src.order, source := __src.source, uregs := __src.uregs, flags := __src.flags, poisonTiles := __src.poisonTiles, code := __src.code, seq := __src.seq, start := none : Dispatch }).plain
      =  true) ∧
    ((let __src := disp0;   { inst := __src.inst, plain := __src.plain, bind := __src.bind, cls := __src.cls, shape := __src.shape, prog := __src.prog, args := __src.args, islands := __src.islands, seed := __src.seed, got := __src.got, cores := [0, 1, 2, 3], canon := __src.canon, slots := [], phase := DispPhase.assigned, order := __src.order, source := __src.source, uregs := __src.uregs, flags := __src.flags, poisonTiles := __src.poisonTiles, code := __src.code, seq := __src.seq, start := none : Dispatch }).slots
      =  []) ∧
    (∀ (i : Nat),  i ∈    (let __src := disp0;     { inst := __src.inst, plain := __src.plain, bind := __src.bind, cls := __src.cls, shape := __src.shape, prog := __src.prog, args := __src.args, islands := __src.islands, seed := __src.seed, got := __src.got, cores := [0, 1, 2, 3], canon := __src.canon, slots := [], phase := DispPhase.assigned, order := __src.order, source := __src.source, uregs := __src.uregs, flags := __src.flags, poisonTiles := __src.poisonTiles, code := __src.code, seq := __src.seq, start := none : Dispatch }).got
      →   fget (at0 assignedDev).dev (RF.PWR_ISLAND_STATE i) = 0) ∧
    (startedDev =  List.foldl   (fun s c =>    startCore s 0     (let __src := disp0;     { inst := __src.inst, plain := __src.plain, bind := __src.bind, cls := __src.cls, shape := __src.shape, prog := __src.prog, args := __src.args, islands := __src.islands, seed := __src.seed, got := __src.got, cores := [0, 1, 2, 3], canon := __src.canon, slots := [], phase := DispPhase.assigned, order := __src.order, source := __src.source, uregs := __src.uregs, flags := __src.flags, poisonTiles := __src.poisonTiles, code := __src.code, seq := __src.seq, start := none : Dispatch })
          c)   (at0 assignedDev).dev   (let __src := disp0;    { inst := __src.inst, plain := __src.plain, bind := __src.bind, cls := __src.cls, shape := __src.shape, prog := __src.prog, args := __src.args, islands := __src.islands, seed := __src.seed, got := __src.got, cores := [0, 1, 2, 3], canon := __src.canon, slots := [], phase := DispPhase.assigned, order := __src.order, source := __src.source, uregs := __src.uregs, flags := __src.flags, poisonTiles := __src.poisonTiles, code := __src.code, seq := __src.seq, start := none : Dispatch }).cores) ∧
    ((if    (let __src := disp0;      { inst := __src.inst, plain := __src.plain, bind := __src.bind, cls := __src.cls, shape := __src.shape, prog := __src.prog, args := __src.args, islands := __src.islands, seed := __src.seed, got := __src.got, cores := [0, 1, 2, 3], canon := __src.canon, slots := [], phase := DispPhase.assigned, order := __src.order, source := __src.source, uregs := __src.uregs, flags := __src.flags, poisonTiles := __src.poisonTiles, code := __src.code, seq := __src.seq, start := none : Dispatch }).args
      =     0 then   (startedDev, [], 0)  else   vaRead startedDev    (let __src := disp0;     { inst := __src.inst, plain := __src.plain, bind := __src.bind, cls := __src.cls, shape := __src.shape, prog := __src.prog, args := __src.args, islands := __src.islands, seed := __src.seed, got := __src.got, cores := [0, 1, 2, 3], canon := __src.canon, slots := [], phase := DispPhase.assigned, order := __src.order, source := __src.source, uregs := __src.uregs, flags := __src.flags, poisonTiles := __src.poisonTiles, code := __src.code, seq := __src.seq, start := none : Dispatch }).inst
         (let __src := disp0;     { inst := __src.inst, plain := __src.plain, bind := __src.bind, cls := __src.cls, shape := __src.shape, prog := __src.prog, args := __src.args, islands := __src.islands, seed := __src.seed, got := __src.got, cores := [0, 1, 2, 3], canon := __src.canon, slots := [], phase := DispPhase.assigned, order := __src.order, source := __src.source, uregs := __src.uregs, flags := __src.flags, poisonTiles := __src.poisonTiles, code := __src.code, seq := __src.seq, start := none : Dispatch }).args
         256) =  (startedDev, [], 0)) ∧
    (startedDev.blocked = []) ∧
    (startedDev.disp = startedDev.disp) ∧
    (startedDev.cores = startedDev.cores) :=
  ⟨by decide +kernel, by decide +kernel, by decide +kernel, by decide +kernel, by decide +kernel, by decide +kernel, by decide +kernel,
    by decide +kernel, by decide +kernel, by decide +kernel, by decide +kernel⟩

theorem wit_DispatchesEnd_release :
    (serving (at0 finishedDev).dev = true) ∧
    ((at0 finishedDev).dev.blocked = []) ∧
    (tget (at0 finishedDev).dev.disp 0 = some lastDisp) ∧
    (∀ (c : Nat), c ∈ lastDisp.cores → c < 176) ∧
    (lastDisp.cls ≤ 7) ∧
    (lastDisp.inst ≤ 32) ∧
    (lastDisp.plain = true) ∧
    (lastDisp.phase = DispPhase.running) ∧
    (∀ (c : Nat), c ∈ lastDisp.cores → coreFinished (coreOf (at0 finishedDev).dev c) lastDisp.shape = true) ∧
    (∃ c, c ∈ lastDisp.cores ∧ (coreOf (at0 finishedDev).dev c).wb ≠ []) :=
  ⟨by decide +kernel, by decide +kernel, by decide +kernel, by decide +kernel, by decide +kernel, by decide +kernel, by decide +kernel,
    by decide +kernel, by decide +kernel, by decide +kernel⟩

def w1_DispatchesEnd_launch : Dispatch := let __src := lastDisp; { inst := __src.inst, plain := __src.plain, bind := __src.bind, cls := __src.cls, shape := __src.shape, prog := __src.prog, args := __src.args, islands := __src.islands, seed := __src.seed, got := __src.got, cores := __src.cores, canon := __src.canon, slots := __src.slots, phase := DispPhase.ended, order := __src.order, source := __src.source, uregs := __src.uregs, flags := __src.flags, poisonTiles := __src.poisonTiles, code := __src.code, seq := __src.seq, start := __src.start : Dispatch }

def w2_DispatchesEnd_launch : StoreEntry := { inst := 0, ring := 1, pos := 0, entry := launchE, phase := 1, replay := false : StoreEntry }

theorem wit_DispatchesEnd_launch :
    (serving (at0 endedDev).dev = true) ∧
    ((at0 endedDev).dev.blocked = []) ∧
    (tget (at0 endedDev).dev.disp 0 =  some   (let __src := lastDisp;   { inst := __src.inst, plain := __src.plain, bind := __src.bind, cls := __src.cls, shape := __src.shape, prog := __src.prog, args := __src.args, islands := __src.islands, seed := __src.seed, got := __src.got, cores := __src.cores, canon := __src.canon, slots := __src.slots, phase := DispPhase.ended, order := __src.order, source := __src.source, uregs := __src.uregs, flags := __src.flags, poisonTiles := __src.poisonTiles, code := __src.code, seq := __src.seq, start := __src.start : Dispatch })) ∧
    (∀ (c : Nat),  c ∈    (let __src := lastDisp;     { inst := __src.inst, plain := __src.plain, bind := __src.bind, cls := __src.cls, shape := __src.shape, prog := __src.prog, args := __src.args, islands := __src.islands, seed := __src.seed, got := __src.got, cores := __src.cores, canon := __src.canon, slots := __src.slots, phase := DispPhase.ended, order := __src.order, source := __src.source, uregs := __src.uregs, flags := __src.flags, poisonTiles := __src.poisonTiles, code := __src.code, seq := __src.seq, start := __src.start : Dispatch }).cores
      →   c < 176) ∧
    ((let __src := lastDisp;   { inst := __src.inst, plain := __src.plain, bind := __src.bind, cls := __src.cls, shape := __src.shape, prog := __src.prog, args := __src.args, islands := __src.islands, seed := __src.seed, got := __src.got, cores := __src.cores, canon := __src.canon, slots := __src.slots, phase := DispPhase.ended, order := __src.order, source := __src.source, uregs := __src.uregs, flags := __src.flags, poisonTiles := __src.poisonTiles, code := __src.code, seq := __src.seq, start := __src.start : Dispatch }).cls
      ≤  7) ∧
    ((let __src := lastDisp;   { inst := __src.inst, plain := __src.plain, bind := __src.bind, cls := __src.cls, shape := __src.shape, prog := __src.prog, args := __src.args, islands := __src.islands, seed := __src.seed, got := __src.got, cores := __src.cores, canon := __src.canon, slots := __src.slots, phase := DispPhase.ended, order := __src.order, source := __src.source, uregs := __src.uregs, flags := __src.flags, poisonTiles := __src.poisonTiles, code := __src.code, seq := __src.seq, start := __src.start : Dispatch }).inst
      ≤  32) ∧
    ((let __src := lastDisp;   { inst := __src.inst, plain := __src.plain, bind := __src.bind, cls := __src.cls, shape := __src.shape, prog := __src.prog, args := __src.args, islands := __src.islands, seed := __src.seed, got := __src.got, cores := __src.cores, canon := __src.canon, slots := __src.slots, phase := DispPhase.ended, order := __src.order, source := __src.source, uregs := __src.uregs, flags := __src.flags, poisonTiles := __src.poisonTiles, code := __src.code, seq := __src.seq, start := __src.start : Dispatch }).phase
      =  DispPhase.ended) ∧
    (∀ (c : Nat),  c ∈    (let __src := lastDisp;     { inst := __src.inst, plain := __src.plain, bind := __src.bind, cls := __src.cls, shape := __src.shape, prog := __src.prog, args := __src.args, islands := __src.islands, seed := __src.seed, got := __src.got, cores := __src.cores, canon := __src.canon, slots := __src.slots, phase := DispPhase.ended, order := __src.order, source := __src.source, uregs := __src.uregs, flags := __src.flags, poisonTiles := __src.poisonTiles, code := __src.code, seq := __src.seq, start := __src.start : Dispatch }).cores
      →   (coreOf (at0 endedDev).dev c).wb = []) ∧
    (pendingLine (at0 endedDev).dev false = false) ∧
    (pendingLine (at0 endedDev).dev true = false) ∧
    (∀ (c : Nat),  c ∈    (let __src := lastDisp;     { inst := __src.inst, plain := __src.plain, bind := __src.bind, cls := __src.cls, shape := __src.shape, prog := __src.prog, args := __src.args, islands := __src.islands, seed := __src.seed, got := __src.got, cores := __src.cores, canon := __src.canon, slots := __src.slots, phase := DispPhase.ended, order := __src.order, source := __src.source, uregs := __src.uregs, flags := __src.flags, poisonTiles := __src.poisonTiles, code := __src.code, seq := __src.seq, start := __src.start : Dispatch }).cores
      →   ∀ (p : Nat × Group), p ∈ (coreOf (at0 endedDev).dev c).groups → p.snd.charges = []) ∧
    ((let __src := lastDisp;   { inst := __src.inst, plain := __src.plain, bind := __src.bind, cls := __src.cls, shape := __src.shape, prog := __src.prog, args := __src.args, islands := __src.islands, seed := __src.seed, got := __src.got, cores := __src.cores, canon := __src.canon, slots := __src.slots, phase := DispPhase.ended, order := __src.order, source := __src.source, uregs := __src.uregs, flags := __src.flags, poisonTiles := __src.poisonTiles, code := __src.code, seq := __src.seq, start := __src.start : Dispatch }).plain
      =  true) ∧
    ((let __src := lastDisp;   { inst := __src.inst, plain := __src.plain, bind := __src.bind, cls := __src.cls, shape := __src.shape, prog := __src.prog, args := __src.args, islands := __src.islands, seed := __src.seed, got := __src.got, cores := __src.cores, canon := __src.canon, slots := __src.slots, phase := DispPhase.ended, order := __src.order, source := __src.source, uregs := __src.uregs, flags := __src.flags, poisonTiles := __src.poisonTiles, code := __src.code, seq := __src.seq, start := __src.start : Dispatch }).source
      =  some (cmdKey 0 1 0)) ∧
    ((let __src := lastDisp;   { inst := __src.inst, plain := __src.plain, bind := __src.bind, cls := __src.cls, shape := __src.shape, prog := __src.prog, args := __src.args, islands := __src.islands, seed := __src.seed, got := __src.got, cores := __src.cores, canon := __src.canon, slots := __src.slots, phase := DispPhase.ended, order := __src.order, source := __src.source, uregs := __src.uregs, flags := __src.flags, poisonTiles := __src.poisonTiles, code := __src.code, seq := __src.seq, start := __src.start : Dispatch }).slots
      =  []) ∧
    (jnlMode (at0 endedDev).dev   (let __src := lastDisp;    { inst := __src.inst, plain := __src.plain, bind := __src.bind, cls := __src.cls, shape := __src.shape, prog := __src.prog, args := __src.args, islands := __src.islands, seed := __src.seed, got := __src.got, cores := __src.cores, canon := __src.canon, slots := __src.slots, phase := DispPhase.ended, order := __src.order, source := __src.source, uregs := __src.uregs, flags := __src.flags, poisonTiles := __src.poisonTiles, code := __src.code, seq := __src.seq, start := __src.start : Dispatch }).inst
      =  0) ∧
    (storeAt (at0 endedDev).dev (cmdKey 0 1 0) = some w2_DispatchesEnd_launch) ∧
    (w2_DispatchesEnd_launch.inst ≤ 32) ∧
    (ringAt (at0 endedDev).dev (ringKey w2_DispatchesEnd_launch.inst w2_DispatchesEnd_launch.ring) = some ring0) ∧
    (ring0.dead = false) :=
  ⟨by decide +kernel, by decide +kernel, by decide +kernel, by decide +kernel, by decide +kernel, by decide +kernel, by decide +kernel,
    by decide +kernel, by decide +kernel, by decide +kernel, by decide +kernel, by decide +kernel, by decide +kernel, by decide +kernel,
    by decide +kernel, by decide +kernel, by decide +kernel, by decide +kernel, by decide +kernel⟩

theorem wit_DispatchesEnd_step :
    (serving (at0 stepEnd).dev = true) ∧
    ((at0 stepEnd).dev.blocked = []) ∧
    (tget (at0 stepEnd).dev.disp 0 = some stepDisp) ∧
    (∀ (c : Nat), c ∈ stepDisp.cores → c < 176) ∧
    (stepDisp.cls ≤ 7) ∧
    (stepDisp.inst ≤ 32) ∧
    (stepDisp.phase = DispPhase.ended) ∧
    (∀ (c : Nat), c ∈ stepDisp.cores → (coreOf (at0 stepEnd).dev c).wb = []) ∧
    (pendingLine (at0 stepEnd).dev false = false) ∧
    (pendingLine (at0 stepEnd).dev true = false) ∧
    (∀ (c : Nat), c ∈ stepDisp.cores → ∀ (p : Nat × Group), p ∈ (coreOf (at0 stepEnd).dev c).groups → p.snd.charges = []) ∧
    (stepDisp.plain = false) ∧
    (stepDisp.slots = [stepSlot]) ∧
    (ses1 = sesAt (at0 stepEnd).dev stepSlot.session) ∧
    (ses1.state = SesState.running) ∧
    (ses1.defer = none) ∧
    (ses1.pending = 1) ∧
    (ses1.step = stepSlot.step) ∧
    (ses1.steps = []) ∧
    (ses1.inst ≤ 32) ∧
    (jnlMode (at0 stepEnd).dev ses1.inst = 0) ∧
    (∀ (p : Nat × Session), p ∈ (at0 stepEnd).dev.fe.sessions → p.snd.binding = ses1.binding → p.snd.state = SesState.running) ∧
    (∀ (b : Binding), bindAt (at0 stepEnd).dev ses1.binding = some b → b.inst ≤ 32 ∧ jnlMode (at0 stepEnd).dev b.inst = 0) ∧
    (ringAt (at0 stepEnd).dev (ringKey ses1.inst ses1.cplRing) = some ring0) ∧
    (ring0.dead = false) :=
  ⟨by decide +kernel, by decide +kernel, by decide +kernel, by decide +kernel, by decide +kernel, by decide +kernel, by decide +kernel,
    by decide +kernel, by decide +kernel, by decide +kernel, by decide +kernel, by decide +kernel, by decide +kernel, by decide +kernel,
    by decide +kernel, by decide +kernel, by decide +kernel, by decide +kernel, by decide +kernel, by decide +kernel, by decide +kernel,
    by decide +kernel, by decide +kernel, by decide +kernel, by decide +kernel⟩

theorem wit_BatchFormer_tick :
    (serving (at0 tickDev).dev = true) ∧
    ((at0 tickDev).dev.blocked = []) ∧
    (0 ≤ 7) ∧
    ((at0 tickDev).dev.fe.bindings = [(3, bind0)]) ∧
    (formsFor (at0 tickDev).dev bind0.inst = true) ∧
    (jnlMode (at0 tickDev).dev bind0.inst = 0) ∧
    (batchLimit (at0 tickDev).dev bind0 ≠ 0) ∧
    (eligible (at0 tickDev).dev 3 0 ≠ []) ∧
    (runningCount (at0 tickDev).dev + (List.take (batchLimit (at0 tickDev).dev bind0) (eligible (at0 tickDev).dev 3 0)).length ≤ 16384) :=
  ⟨by decide +kernel, by decide +kernel, by decide +kernel, by decide +kernel, by decide +kernel, by decide +kernel, by decide +kernel,
    by decide +kernel, by decide +kernel⟩

def w1_SessionCommands_open : Ctx := runsAs 16 (sesCmd ses0 16 [(40, 1), (16, 5)])

def w2_SessionCommands_open : State := at0 (sesCmd ses0 16 [(40, 1), (16, 5)])

theorem wit_SessionCommands_open :
    (Session.closed 0 = sesAt w2_SessionCommands_open.dev 0) ∧
    (Admits w2_SessionCommands_open.dev 16 (cmdAt 0 1) w1_SessionCommands_open) ∧
    ((ringAt w2_SessionCommands_open.dev (ringKey w1_SessionCommands_open.inst (eb w1_SessionCommands_open.e 40 2))).isSome = true) ∧
    (eb w1_SessionCommands_open.e 40 2 < 4096) ∧
    (eb w1_SessionCommands_open.e 42 1 ≤ 7) ∧
    (eb w1_SessionCommands_open.e 24 8 % 4096 = 0) ∧
    (eb w1_SessionCommands_open.e 32 8 % 32 = 0) ∧
    (0 < 2 ^ 20) ∧
    (∀ (m : Nat), m ≤ 0 → (holderOfSession w2_SessionCommands_open.dev m = w1_SessionCommands_open.inst ∧ (sesAt w2_SessionCommands_open.dev
      m).state = SesState.closed ↔ m = 0)) :=
  ⟨by decide +kernel, admits_of (by decide +kernel), by decide +kernel, by decide +kernel, by decide +kernel, by decide +kernel, by decide +kernel,
    by decide +kernel, by decide +kernel⟩

def w1_SessionCommands_bind : Ctx := runsAs 17 (sesCmd (sesIn SesState.opened false) 17 [(16, 9), (20, 3)])

def w2_SessionCommands_bind : State := at0 (sesCmd (sesIn SesState.opened false) 17 [(16, 9), (20, 3)])

def w3_SessionCommands_bind : Session := sesIn SesState.opened false

theorem wit_SessionCommands_bind :
    (w3_SessionCommands_bind = sesAt w2_SessionCommands_bind.dev 9) ∧
    (Admits w2_SessionCommands_bind.dev 17 (cmdAt 0 1) w1_SessionCommands_bind) ∧
    (eb w1_SessionCommands_bind.e 16 4 = 9) ∧
    (ownsSession w2_SessionCommands_bind.dev w1_SessionCommands_bind.inst 9 = true) ∧
    (bindAt w2_SessionCommands_bind.dev (eb w1_SessionCommands_bind.e 20 2) = some bind0) ∧
    (bind0.inst = w1_SessionCommands_bind.inst) ∧
    (w3_SessionCommands_bind.moving = none) ∧
    (w3_SessionCommands_bind.state = SesState.opened) :=
  ⟨by decide +kernel, admits_of (by decide +kernel), by decide +kernel, by decide +kernel, by decide +kernel, by decide +kernel, by decide +kernel,
    by decide +kernel⟩

def w1_SessionCommands_park : Ctx := runsAs 19 (sesCmd (sesIn SesState.ready true) 19 [(16, 9)])

def w2_SessionCommands_park : State := at0 (sesCmd (sesIn SesState.ready true) 19 [(16, 9)])

def w3_SessionCommands_park : Session := sesIn SesState.ready true

theorem wit_SessionCommands_park :
    (w3_SessionCommands_park = sesAt w2_SessionCommands_park.dev 9) ∧
    ((Instr.sessionPark, 0, 19) ∈ [(Instr.sessionPark, 0, 19), (Instr.sessionResume, 3, 20), (Instr.sessionSuspend, 1, 21), (Instr.sessionClose,
      2, 22)]) ∧
    (Admits w2_SessionCommands_park.dev 19 (cmdAt 0 1) w1_SessionCommands_park) ∧
    (eb w1_SessionCommands_park.e 16 4 = 9) ∧
    (ownsSession w2_SessionCommands_park.dev w1_SessionCommands_park.inst 9 = true) ∧
    (w3_SessionCommands_park.moving = none) ∧
    (w3_SessionCommands_park.state ≠ SesState.running) ∧
    (sesNext 0 w3_SessionCommands_park.state = some SesState.parked) ∧
    (0 = 0 → w3_SessionCommands_park.away = true) ∧
    (0 = 3 → w3_SessionCommands_park.away = false) ∧
    (w3_SessionCommands_park.steps = []) :=
  ⟨by decide +kernel, by simp, admits_of (by decide +kernel), by decide +kernel, by decide +kernel, by decide +kernel, by decide +kernel,
    by decide +kernel, by decide +kernel, by decide +kernel, by decide +kernel⟩

def w1_SessionCommands_resume : Ctx := runsAs 20 (sesCmd (sesIn SesState.parked false) 20 [(16, 9)])

def w2_SessionCommands_resume : State := at0 (sesCmd (sesIn SesState.parked false) 20 [(16, 9)])

def w3_SessionCommands_resume : Session := sesIn SesState.parked false

theorem wit_SessionCommands_resume :
    (w3_SessionCommands_resume = sesAt w2_SessionCommands_resume.dev 9) ∧
    ((Instr.sessionResume, 3, 20) ∈ [(Instr.sessionPark, 0, 19), (Instr.sessionResume, 3, 20), (Instr.sessionSuspend, 1, 21), (Instr.sessionClose,
      2, 22)]) ∧
    (Admits w2_SessionCommands_resume.dev 20 (cmdAt 0 1) w1_SessionCommands_resume) ∧
    (eb w1_SessionCommands_resume.e 16 4 = 9) ∧
    (ownsSession w2_SessionCommands_resume.dev w1_SessionCommands_resume.inst 9 = true) ∧
    (w3_SessionCommands_resume.moving = none) ∧
    (w3_SessionCommands_resume.state ≠ SesState.running) ∧
    (sesNext 3 w3_SessionCommands_resume.state = some SesState.ready) ∧
    (3 = 0 → w3_SessionCommands_resume.away = true) ∧
    (3 = 3 → w3_SessionCommands_resume.away = false) ∧
    (w3_SessionCommands_resume.steps = []) :=
  ⟨by decide +kernel, by simp, admits_of (by decide +kernel), by decide +kernel, by decide +kernel, by decide +kernel, by decide +kernel,
    by decide +kernel, by decide +kernel, by decide +kernel, by decide +kernel⟩

def w1_SessionCommands_suspend : Ctx := runsAs 21 (sesCmd (sesIn SesState.parked true) 21 [(16, 9)])

def w2_SessionCommands_suspend : State := at0 (sesCmd (sesIn SesState.parked true) 21 [(16, 9)])

def w3_SessionCommands_suspend : Session := sesIn SesState.parked true

theorem wit_SessionCommands_suspend :
    (w3_SessionCommands_suspend = sesAt w2_SessionCommands_suspend.dev 9) ∧
    ((Instr.sessionSuspend, 1, 21) ∈ [(Instr.sessionPark, 0, 19), (Instr.sessionResume, 3, 20), (Instr.sessionSuspend, 1, 21),
      (Instr.sessionClose, 2, 22)]) ∧
    (Admits w2_SessionCommands_suspend.dev 21 (cmdAt 0 1) w1_SessionCommands_suspend) ∧
    (eb w1_SessionCommands_suspend.e 16 4 = 9) ∧
    (ownsSession w2_SessionCommands_suspend.dev w1_SessionCommands_suspend.inst 9 = true) ∧
    (w3_SessionCommands_suspend.moving = none) ∧
    (w3_SessionCommands_suspend.state ≠ SesState.running) ∧
    (sesNext 1 w3_SessionCommands_suspend.state = some SesState.suspended) ∧
    (1 = 0 → w3_SessionCommands_suspend.away = true) ∧
    (1 = 3 → w3_SessionCommands_suspend.away = false) ∧
    (w3_SessionCommands_suspend.steps = []) :=
  ⟨by decide +kernel, by simp, admits_of (by decide +kernel), by decide +kernel, by decide +kernel, by decide +kernel, by decide +kernel,
    by decide +kernel, by decide +kernel, by decide +kernel, by decide +kernel⟩

def w1_SessionCommands_close : Ctx := runsAs 22 (sesCmd (sesIn SesState.failed true) 22 [(16, 9)])

def w2_SessionCommands_close : State := at0 (sesCmd (sesIn SesState.failed true) 22 [(16, 9)])

def w3_SessionCommands_close : Session := sesIn SesState.failed true

theorem wit_SessionCommands_close :
    (w3_SessionCommands_close = sesAt w2_SessionCommands_close.dev 9) ∧
    ((Instr.sessionClose, 2, 22) ∈ [(Instr.sessionPark, 0, 19), (Instr.sessionResume, 3, 20), (Instr.sessionSuspend, 1, 21), (Instr.sessionClose,
      2, 22)]) ∧
    (Admits w2_SessionCommands_close.dev 22 (cmdAt 0 1) w1_SessionCommands_close) ∧
    (eb w1_SessionCommands_close.e 16 4 = 9) ∧
    (ownsSession w2_SessionCommands_close.dev w1_SessionCommands_close.inst 9 = true) ∧
    (w3_SessionCommands_close.moving = none) ∧
    (w3_SessionCommands_close.state ≠ SesState.running) ∧
    (sesNext 2 w3_SessionCommands_close.state = some SesState.closed) ∧
    (2 = 0 → w3_SessionCommands_close.away = true) ∧
    (2 = 3 → w3_SessionCommands_close.away = false) ∧
    (w3_SessionCommands_close.steps = []) :=
  ⟨by decide +kernel, by simp, admits_of (by decide +kernel), by decide +kernel, by decide +kernel, by decide +kernel, by decide +kernel,
    by decide +kernel, by decide +kernel, by decide +kernel, by decide +kernel⟩

def w1_SessionCommands_defer : Ctx := runsAs 19 (sesCmd ses1 19 [(16, 9)])

def w2_SessionCommands_defer : State := at0 (sesCmd ses1 19 [(16, 9)])

theorem wit_SessionCommands_defer :
    (ses1 = sesAt w2_SessionCommands_defer.dev 9) ∧
    ((Instr.sessionPark, 0, 19) ∈ [(Instr.sessionPark, 0, 19), (Instr.sessionResume, 3, 20), (Instr.sessionSuspend, 1, 21), (Instr.sessionClose,
      2, 22)]) ∧
    (Admits w2_SessionCommands_defer.dev 19 (cmdAt 0 1) w1_SessionCommands_defer) ∧
    (eb w1_SessionCommands_defer.e 16 4 = 9) ∧
    (ownsSession w2_SessionCommands_defer.dev w1_SessionCommands_defer.inst 9 = true) ∧
    (ses1.moving = none) ∧
    (ses1.state = SesState.running) ∧
    (0 ≠ 3) ∧
    (ses1.defer = none) :=
  ⟨by decide +kernel, by simp, admits_of (by decide +kernel), by decide +kernel, by decide +kernel, by decide +kernel, by decide +kernel,
    by decide +kernel, by decide +kernel⟩

def w1_SessionCommands_seek : Ctx := runsAs 99 (sesCmd ses0 99 [(16, 9), (24, 77), (32, 3)])

def w2_SessionCommands_seek : State := at0 (sesCmd ses0 99 [(16, 9), (24, 77), (32, 3)])

theorem wit_SessionCommands_seek :
    (ses0 = sesAt w2_SessionCommands_seek.dev 9) ∧
    (Admits w2_SessionCommands_seek.dev 99 (cmdAt 0 1) w1_SessionCommands_seek) ∧
    (eb w1_SessionCommands_seek.e 16 4 = 9) ∧
    (ownsSession w2_SessionCommands_seek.dev w1_SessionCommands_seek.inst 9 = true) ∧
    (ses0.state ≠ SesState.closed) ∧
    (ses0.state ≠ SesState.running) ∧
    (ses0.pending = 0) :=
  ⟨by decide +kernel, admits_of (by decide +kernel), by decide +kernel, by decide +kernel, by decide +kernel, by decide +kernel, by decide +kernel⟩

def w1_SessionCommands_step : Ctx := runsAs 18 (sesCmd ses1 18 [(16, 9), (24, 7), (8, 55)])

def w2_SessionCommands_step : State := at0 (sesCmd ses1 18 [(16, 9), (24, 7), (8, 55)])

theorem wit_SessionCommands_step :
    (ses1 = sesAt w2_SessionCommands_step.dev 9) ∧
    (ses1.state ≠ SesState.closed) ∧
    (ses1.state ≠ SesState.opened) ∧
    (ses1.state ≠ SesState.failed) ∧
    (bindAt w2_SessionCommands_step.dev ses1.binding = some bind0) ∧
    (ses1.pending < bind0.frames) ∧
    (jnlMode w2_SessionCommands_step.dev ses1.inst = 0) ∧
    (jnlMode w2_SessionCommands_step.dev bind0.inst = 0) ∧
    (Admits w2_SessionCommands_step.dev 18 (cmdAt 0 1) w1_SessionCommands_step) ∧
    (eb w1_SessionCommands_step.e 16 4 = 9) ∧
    (ownsSession w2_SessionCommands_step.dev w1_SessionCommands_step.inst 9 = true) ∧
    (eb w1_SessionCommands_step.e 24 8 = (ses1.step + ses1.pending) % 2 ^ 64) :=
  ⟨by decide +kernel, by decide +kernel, by decide +kernel, by decide +kernel, by decide +kernel, by decide +kernel, by decide +kernel,
    by decide +kernel, admits_of (by decide +kernel), by decide +kernel, by decide +kernel, by decide +kernel⟩

def w1_SessionCommands_input : Ring := let __src := ring0; { kind := 1, sizeLog2 := __src.sizeLog2, cplLog2 := __src.cplLog2, vector := __src.vector, irqMod := __src.irqMod, ringVa := __src.ringVa, cplVa := __src.cplVa, watchVa := __src.watchVa, pages := __src.pages, cplPages := __src.cplPages, watch := __src.watch, read := __src.read, written := __src.written, consumed := __src.consumed, lastP := __src.lastP, dead := __src.dead, gen := __src.gen, fresh := __src.fresh, cplQ := __src.cplQ, lastIrq := __src.lastIrq, irqDue := __src.irqDue, rejects := __src.rejects, lastReject := __src.lastReject : Ring }

def w2_SessionCommands_input : StoreEntry := { inst := 0, ring := 2, pos := 0, entry := BitVec.ofNat 512 (9 + 6 * 2 ^ 64), phase := 0, replay := false : StoreEntry }

theorem wit_SessionCommands_input :
    (ses0 = sesAt (at0 inputDev).dev 9) ∧
    (ses0.state ≠ SesState.closed) ∧
    (ses0.state ≠ SesState.opened) ∧
    (ses0.state ≠ SesState.failed) ∧
    (bindAt (at0 inputDev).dev ses0.binding = some bind0) ∧
    (ses0.pending < bind0.frames) ∧
    (jnlMode (at0 inputDev).dev ses0.inst = 0) ∧
    (jnlMode (at0 inputDev).dev bind0.inst = 0) ∧
    (storeAt (at0 inputDev).dev (cmdKey 0 2 0) = some w2_SessionCommands_input) ∧
    (ringAt (at0 inputDev).dev (ringKey 0 2) =  some   (let __src := ring0;   { kind := 1, sizeLog2 := __src.sizeLog2, cplLog2 := __src.cplLog2, vector := __src.vector, irqMod := __src.irqMod, ringVa := __src.ringVa, cplVa := __src.cplVa, watchVa := __src.watchVa, pages := __src.pages, cplPages := __src.cplPages, watch := __src.watch, read := __src.read, written := __src.written, consumed := __src.consumed, lastP := __src.lastP, dead := __src.dead, gen := __src.gen, fresh := __src.fresh, cplQ := __src.cplQ, lastIrq := __src.lastIrq, irqDue := __src.irqDue, rejects := __src.rejects, lastReject := __src.lastReject : Ring })) ∧
    ((let __src := ring0;   { kind := 1, sizeLog2 := __src.sizeLog2, cplLog2 := __src.cplLog2, vector := __src.vector, irqMod := __src.irqMod, ringVa := __src.ringVa, cplVa := __src.cplVa, watchVa := __src.watchVa, pages := __src.pages, cplPages := __src.cplPages, watch := __src.watch, read := __src.read, written := __src.written, consumed := __src.consumed, lastP := __src.lastP, dead := __src.dead, gen := __src.gen, fresh := __src.fresh, cplQ := __src.cplQ, lastIrq := __src.lastIrq, irqDue := __src.irqDue, rejects := __src.rejects, lastReject := __src.lastReject : Ring }).kind
      =  1) ∧
    (w2_SessionCommands_input.phase = 0) ∧
    (serving (at0 inputDev).dev = true) ∧
    ((at0 inputDev).dev.blocked = []) ∧
    (jnlHeld (at0 inputDev).dev 0 = false) ∧
    (∀ (d : StoreEntry), d ∈ (at0 inputDev).dev.fe.store → d.inst = 0 → d.ring = 2 → 0 ≤ d.pos) ∧
    (eb w2_SessionCommands_input.entry 0 4 = 9) ∧
    (eb w2_SessionCommands_input.entry 4 4 = 0) ∧
    (ownsSession (at0 inputDev).dev 0 9 = true) ∧
    (eb w2_SessionCommands_input.entry 8 8 = (ses0.step + ses0.pending) % 2 ^ 64) :=
  ⟨by decide +kernel, by decide +kernel, by decide +kernel, by decide +kernel, by decide +kernel, by decide +kernel, by decide +kernel,
    by decide +kernel, by decide +kernel, by decide +kernel, by decide +kernel, by decide +kernel, by decide +kernel, by decide +kernel,
    by decide +kernel, by decide +kernel, by decide +kernel, by decide +kernel, by decide +kernel, by decide +kernel⟩

def w1_BindingsAndClasses_create : Ctx := runsAs 24 (sesCmd ses0 24 [(16, 64), (32, 1), (40, 2), (44, 64), (46, 4), (48, 2), (49, 1), (50, 2),
  (52, 8), (54, 8), (56, 64), (60, 32)])

def w2_BindingsAndClasses_create : State := at0 (sesCmd ses0 24 [(16, 64), (32, 1), (40, 2), (44, 64), (46, 4), (48, 2), (49, 1), (50, 2), (52,
  8), (54, 8), (56, 64), (60, 32)])

theorem wit_BindingsAndClasses_create :
    (Admits w2_BindingsAndClasses_create.dev 24 (cmdAt 0 1) w1_BindingsAndClasses_create) ∧
    (shapeOk (eb w1_BindingsAndClasses_create.e 40 4) (eb w1_BindingsAndClasses_create.e 48 1) (eb w1_BindingsAndClasses_create.e 44 2) (eb
      w1_BindingsAndClasses_create.e 49 1) (1024 * eb w1_BindingsAndClasses_create.e 46 2) = true) ∧
    (islandsOk w2_BindingsAndClasses_create.dev w1_BindingsAndClasses_create.inst (eb w1_BindingsAndClasses_create.e 32 8) = true) ∧
    (1 ≤ eb w1_BindingsAndClasses_create.e 50 1) ∧
    (eb w1_BindingsAndClasses_create.e 50 1 ≤ 16) ∧
    (1 ≤ eb w1_BindingsAndClasses_create.e 52 2) ∧
    (eb w1_BindingsAndClasses_create.e 52 2 ≤ 512) ∧
    (1 ≤ eb w1_BindingsAndClasses_create.e 54 2) ∧
    (eb w1_BindingsAndClasses_create.e 54 2 ≤ 512) ∧
    (∀ (o : Nat), o ∈ [56, 60] → 32 ≤ eb w1_BindingsAndClasses_create.e o 4 ∧ eb w1_BindingsAndClasses_create.e o 4 ≤ 1048576 ∧ eb
      w1_BindingsAndClasses_create.e o 4 % 32 = 0) ∧
    (eb w1_BindingsAndClasses_create.e 52 2 ≤ eb w1_BindingsAndClasses_create.e 54 2 * popcount 44 (eb w1_BindingsAndClasses_create.e 32 8)) ∧
    (eb w1_BindingsAndClasses_create.e 16 8 % 8 = 0) ∧
    (eb w1_BindingsAndClasses_create.e 24 8 % 64 = 0) ∧
    (namesLost w2_BindingsAndClasses_create.dev (eb w1_BindingsAndClasses_create.e 32 8) = false) ∧
    (0 < 4096) ∧
    (∀ (m : Nat), m ≤ 0 → (bindAt w2_BindingsAndClasses_create.dev m = none ↔ m = 0)) ∧
    (fget w2_BindingsAndClasses_create.dev (RF.INS_QUOTA_BINDINGS_USED w1_BindingsAndClasses_create.inst) < fget w2_BindingsAndClasses_create.dev
      (RF.INS_QUOTA_MAX_BINDINGS w1_BindingsAndClasses_create.inst)) :=
  ⟨admits_of (by decide +kernel), by decide +kernel, by decide +kernel, by decide +kernel, by decide +kernel, by decide +kernel, by decide +kernel,
    by decide +kernel, by decide +kernel, by decide +kernel, by decide +kernel, by decide +kernel, by decide +kernel, by decide +kernel,
    by decide +kernel, by decide +kernel, by decide +kernel⟩

def w1_BindingsAndClasses_destroy : Ctx := runsAs 25 (sesCmd (sesIn SesState.opened false) 25 [(16, 3)])

def w2_BindingsAndClasses_destroy : State := at0 (sesCmd (sesIn SesState.opened false) 25 [(16, 3)])

theorem wit_BindingsAndClasses_destroy :
    (Admits w2_BindingsAndClasses_destroy.dev 25 (cmdAt 0 1) w1_BindingsAndClasses_destroy) ∧
    (bindAt w2_BindingsAndClasses_destroy.dev (eb w1_BindingsAndClasses_destroy.e 16 2) = some bind0) ∧
    (bind0.inst = w1_BindingsAndClasses_destroy.inst) ∧
    (∀ (p : Nat × Session), p ∈ w2_BindingsAndClasses_destroy.dev.fe.sessions → p.snd.binding = eb w1_BindingsAndClasses_destroy.e 16 2 →
      p.snd.state = SesState.opened) :=
  ⟨admits_of (by decide +kernel), by decide +kernel, by decide +kernel, by decide +kernel⟩

def w1_BindingsAndClasses_class : Ctx := runsAs 34 (sesCmd ses0 34 [(16, 7), (20, 500), (25, 16), (28, 700)])

def w2_BindingsAndClasses_class : State := at0 (sesCmd ses0 34 [(16, 7), (20, 500), (25, 16), (28, 700)])

theorem wit_BindingsAndClasses_class :
    (Admits w2_BindingsAndClasses_class.dev 34 (cmdAt 0 1) w1_BindingsAndClasses_class) ∧
    (eb w1_BindingsAndClasses_class.e 16 1 = 7) ∧
    (7 ≤ 7) ∧
    (500 ≤ eb w1_BindingsAndClasses_class.e 20 4) ∧
    (eb w1_BindingsAndClasses_class.e 20 4 ≤ eb w1_BindingsAndClasses_class.e 24 4) ∧
    (eb w1_BindingsAndClasses_class.e 24 4 ≤ 20000) ∧
    (eb w1_BindingsAndClasses_class.e 20 4 + 200 ≤ eb w1_BindingsAndClasses_class.e 28 4) ∧
    (eb w1_BindingsAndClasses_class.e 28 4 ≤ 65535) :=
  ⟨admits_of (by decide +kernel), by decide +kernel, by decide +kernel, by decide +kernel, by decide +kernel, by decide +kernel, by decide +kernel,
    by decide +kernel⟩

end Sys2Proof.Tests
end

