-- ==== Sys2Proof/Tests/WitCoherence.lean ====
section
/-!
SUPPORT. Premises of the statements about slices and coherence, met together by concrete states: one theorem for each clause.
-/
namespace Sys2Proof.Tests
open Sys2Proof Sys2Proof.Machine
set_option Elab.async false

/-- Device 100, member 0 of an archipelago in which devices 200 and 300 are members 1 and 2; two ports are up. Its frames 3 to 6 are exported. -/
def net0 : Dev :=
  let d := fset (fset (fset (fset own0 RF.FAB_STATUS_DEVICE_VALID 1) RF.FAB_STATUS_DEVICE 100) RF.FAB_STATUS_MY_MEMBER 0) RF.FAB_STATUS_PORTS_UP 3
  let d := fset (fset d (RF.SHC_EPOCH_VALID 1) 1) (RF.SHC_EPOCH_DEVICE 1) 200
  let d := fset (fset d (RF.SHC_EPOCH_VALID 2) 1) (RF.SHC_EPOCH_DEVICE 2) 300
  let d := fset (fset d RF.MEM_RSVD_A_VALUE (2 ^ 29)) RF.MEM_RSVD_B_VALUE (2 ^ 39 + 2 ^ 33)
  { d with
    fab := { d.fab with routes := [(200, 1), (300, 2)], members := [(1, ⟨200, none, 0⟩), (2, ⟨300, none, 0⟩)] }
    ins := { d.ins with owner := [(3, 0), (4, 0), (5, 0), (6, 0)], exports := [(0, ⟨0, 3, 4, true, true, true, 1, 0, false⟩)] } }

/-- A line of frame 3. -/
def peerOwn : Nat := 3 * 2 ^ 15 + 5

/-- The line of frame 3 with data, and its directory entry. -/
def homeDev (ext : Bool) (dir : Tbl DirEntry) (txn : Tbl Txn) : Dev :=
  { net0 with shore := { net0.shore with lines := [(peerOwn, ⟨0x1234, false, 0, 0, ext, .home, 0⟩)], dir := dir, txn := txn } }

/-- A message of a member about that line. -/
def fromMember (src : Nat) (op : CohOp) (third : Nat) (data : Option LineData) : FabMsg :=
  ⟨100, src, 1, false, 0, 9, 64 * peerOwn, false, .coh op third data⟩

/-- Members 1 and 2 share the line; member 2 alone holds it. -/
def shared12 : DirEntry := addAgent (soleEntry .shared 1 0 0) 2 0
/-- Held by a member. -/
def heldBy (st : DirState) (a : Nat) : DirEntry := soleEntry st a 0 0

/-- A request that has reached its slice. -/
def sliceDev (kind : ReqKind) (lines : Tbl Line) : Dev :=
  { own0 with net := [(5, ⟨0, 64, 0x201, kind, false⟩)], shore := { own0.shore with lines := lines } }

/-- The line of that request, in its slice. -/
def sliceLine : Line := ⟨BitVec.ofNat 512 (7 * 2 ^ 256 + 3), false, 0, 0, false, .home, 0⟩

/-- The island of a slice is off, and its slice holds a dirty line. -/
def bypassDev : Dev :=
  let d := fset (fset own0 RF.PWR_IDLE_POLICY_SLICE_BYPASS_EN 1) (RF.PWR_ISLAND_STATE 0) 2
  { d with shore := { d.shore with lines := [(0x100, { sliceLine with dirty := true }), (0x101, sliceLine)] } }

/-- The line 0x40 of device 200, as this device numbers it. -/
def farLine : Nat := peerKey 200 (64 * 0x40)

/-- This device holds that line in a state. -/
def agentDev (h : Hold) : Dev := { net0 with shore := { net0.shore with lines := [(farLine, ⟨0x77, false, 0, 0, false, h, 0⟩)] } }

/-- This device has asked for it: 0 to read, 1 and 2 to write, with bytes written while it waits. -/
def wantDev (want : Nat) (l : Tbl Line) : Dev := { net0 with shore := { net0.shore with lines := l, wants := [(farLine, want)] } }

/-- A line awaited, whose first byte has been written. -/
def pendingLine0 : Line := ⟨0x55, false, 0, 0, false, .pending, 1⟩

/-- A message of the home of that line. -/
def fromHome (op : CohOp) (third : Nat) (data : Option LineData) : FabMsg := ⟨100, 200, 1, false, 0, 9, 64 * 0x40, false, .coh op third data⟩

/-- A host whose line 0x99 this device has asked for. -/
def hostWant : Dev :=
  let d := fset net0 RF.HST_STATUS_HOST_VALID 1
  { d with shore := { d.shore with wants := [(hostLine 0x99, 1)] } }

def w1_SlicesAndProbe_fill : Req := { core := 0, tag := 64, sec := 513, kind := ReqKind.fill, sent := false : Req }

def w2_SlicesAndProbe_fill : State := at0 (sliceDev ReqKind.fill [(256, sliceLine)])

theorem wit_SlicesAndProbe_fill :
    (tget w2_SlicesAndProbe_fill.dev.net 5 = some w1_SlicesAndProbe_fill) ∧
    (((coreOf w2_SlicesAndProbe_fill.dev w1_SlicesAndProbe_fill.core).wb.any fun w => w.sec == w1_SlicesAndProbe_fill.sec) = false) ∧
    (256 = w1_SlicesAndProbe_fill.sec / 2) ∧
    (1 = w1_SlicesAndProbe_fill.sec % 2) ∧
    (HeldHome w2_SlicesAndProbe_fill.dev 256 sliceLine) ∧
    (halfCode sliceLine 1 = 0) :=
  ⟨by decide +kernel, by decide +kernel, by decide +kernel, by decide +kernel, heldHome_of (by decide +kernel), by decide +kernel⟩

def w1_SlicesAndProbe_read : Req := { core := 0, tag := 64, sec := 513, kind := ReqKind.read, sent := false : Req }

def w2_SlicesAndProbe_read : State := at0 (sliceDev ReqKind.read [(256, sliceLine)])

theorem wit_SlicesAndProbe_read :
    (tget w2_SlicesAndProbe_read.dev.net 5 = some w1_SlicesAndProbe_read) ∧
    (((coreOf w2_SlicesAndProbe_read.dev w1_SlicesAndProbe_read.core).wb.any fun w => w.sec == w1_SlicesAndProbe_read.sec) = false) ∧
    (256 = w1_SlicesAndProbe_read.sec / 2) ∧
    (1 = w1_SlicesAndProbe_read.sec % 2) ∧
    (HeldHome w2_SlicesAndProbe_read.dev 256 sliceLine) ∧
    (halfCode sliceLine 1 = 0) :=
  ⟨by decide +kernel, by decide +kernel, by decide +kernel, by decide +kernel, heldHome_of (by decide +kernel), by decide +kernel⟩

def w1_SlicesAndProbe_atomic : Req := { core := 0, tag := 64, sec := 513, kind := ReqKind.atomic [{ lane := 3, off := 4, op := 0, w64 := false, a := 5, b := 0 : LaneAtom }], sent := false : Req }

def w2_SlicesAndProbe_atomic : State := at0 (sliceDev (ReqKind.atomic [{ lane := 3, off := 4, op := 0, w64 := false, a := 5, b := 0 : LaneAtom }])
  [(256, sliceLine)])

theorem wit_SlicesAndProbe_atomic :
    (tget w2_SlicesAndProbe_atomic.dev.net 5 = some w1_SlicesAndProbe_atomic) ∧
    (((coreOf w2_SlicesAndProbe_atomic.dev w1_SlicesAndProbe_atomic.core).wb.any fun w => w.sec == w1_SlicesAndProbe_atomic.sec) = false) ∧
    (256 = w1_SlicesAndProbe_atomic.sec / 2) ∧
    (1 = w1_SlicesAndProbe_atomic.sec % 2) ∧
    (HeldHome w2_SlicesAndProbe_atomic.dev 256 sliceLine) ∧
    (halfCode sliceLine 1 = 0) :=
  ⟨by decide +kernel, by decide +kernel, by decide +kernel, by decide +kernel, heldHome_of (by decide +kernel), by decide +kernel⟩

def w1_SlicesAndProbe_miss : State := at0 (sliceDev ReqKind.fill [])

theorem wit_SlicesAndProbe_miss :
    (tget w1_SlicesAndProbe_miss.dev.net 5 = some w1_SlicesAndProbe_fill) ∧
    (((coreOf w1_SlicesAndProbe_miss.dev w1_SlicesAndProbe_fill.core).wb.any fun w => w.sec == w1_SlicesAndProbe_fill.sec) = false) ∧
    (256 = w1_SlicesAndProbe_fill.sec / 2) ∧
    (1 = w1_SlicesAndProbe_fill.sec % 2) ∧
    (isLocal 256 = true) ∧
    (lineAt w1_SlicesAndProbe_miss.dev 256 = none) ∧
    ((chanOf w1_SlicesAndProbe_miss.dev (64 * 256)).isSome = true) ∧
    (tget w1_SlicesAndProbe_miss.dev.shore.fills 256 = none) ∧
    (tget w1_SlicesAndProbe_miss.dev.shore.txn 256 = none) ∧
    (tget w1_SlicesAndProbe_miss.dev.shore.queue 256 = none) :=
  ⟨by decide +kernel, by decide +kernel, by decide +kernel, by decide +kernel, by decide +kernel, by decide +kernel, by decide +kernel,
    by decide +kernel, by decide +kernel, by decide +kernel⟩

theorem wit_SlicesAndProbe_bypass :
    (0 < 44) ∧
    (fget (at0 bypassDev).dev RF.BRG_PKG_LEVEL_ENABLED_COUNT ≤ 44) ∧
    (serving (at0 bypassDev).dev = true) ∧
    (fget (at0 bypassDev).dev RF.PWR_IDLE_POLICY_SLICE_BYPASS_EN = 1) ∧
    (fget (at0 bypassDev).dev (RF.PWR_ISLAND_STATE 0) = 2) ∧
    (fget (at0 bypassDev).dev (RF.SHC_SLICE_STATUS_STATE 0) ≤ 1) ∧
    (∀ (p : Nat × Line), p ∈ (at0 bypassDev).dev.shore.lines → sliceOf (at0 bypassDev).dev p.fst = 0 → p.snd.ext = false ∧ p.snd.hold ≠
      Hold.pending ∧ tget (at0 bypassDev).dev.shore.txn p.fst = none ∧ tget (at0 bypassDev).dev.shore.fills p.fst = none) :=
  ⟨by decide +kernel, by decide +kernel, by decide +kernel, by decide +kernel, by decide +kernel, by decide +kernel, by decide +kernel⟩

def w1_CoherenceAtHome_refuse : FabMsg := let __src := fromMember 200 CohOp.read 0 none; { dst := __src.dst, src := __src.src, hops := __src.hops, poison := __src.poison, epoch := __src.epoch, tag := __src.tag, offset := 64 * 7, reserved := __src.reserved, body := __src.body : FabMsg }

def w2_CoherenceAtHome_refuse : State := at0 (homeDev false [] [])

theorem wit_CoherenceAtHome_refuse :
    (Arrives w2_CoherenceAtHome_refuse.dev  (let __src := fromMember 200 CohOp.read 0 none;  { dst := __src.dst, src := __src.src, hops := __src.hops, poison := __src.poison, epoch := __src.epoch, tag := __src.tag, offset := 64 * 7, reserved := __src.reserved, body := __src.body : FabMsg })) ∧
    (memberOf w2_CoherenceAtHome_refuse.dev   (let __src := fromMember 200 CohOp.read 0 none;    { dst := __src.dst, src := __src.src, hops := __src.hops, poison := __src.poison, epoch := __src.epoch, tag := __src.tag, offset := 64 * 7, reserved := __src.reserved, body := __src.body : FabMsg }).src
      =  some 1) ∧
    (7 =  (let __src := fromMember 200 CohOp.read 0 none;    { dst := __src.dst, src := __src.src, hops := __src.hops, poison := __src.poison, epoch := __src.epoch, tag := __src.tag, offset := 64 * 7, reserved := __src.reserved, body := __src.body : FabMsg }).offset
      /   64) ∧
    ((Instr.cohRead, CohOp.read, 0) ∈ [(Instr.cohRead, CohOp.read, 0), (Instr.cohRx, CohOp.rx, 1), (Instr.cohOwn, CohOp.own, 2)]) ∧
    ((let __src := fromMember 200 CohOp.read 0 none;   { dst := __src.dst, src := __src.src, hops := __src.hops, poison := __src.poison, epoch := __src.epoch, tag := __src.tag, offset := 64 * 7, reserved := __src.reserved, body := __src.body : FabMsg }).body
      =  FabBody.coh CohOp.read 0 none) ∧
    (eRights ≠ 0) ∧
    ((admitRange w2_CoherenceAtHome_refuse.dev    (let __src := fromMember 200 CohOp.read 0 none;     { dst := __src.dst, src := __src.src, hops := __src.hops, poison := __src.poison, epoch := __src.epoch, tag := __src.tag, offset := 64 * 7, reserved := __src.reserved, body := __src.body : FabMsg }).src
         (let __src := fromMember 200 CohOp.read 0 none;     { dst := __src.dst, src := __src.src, hops := __src.hops, poison := __src.poison, epoch := __src.epoch, tag := __src.tag, offset := 64 * 7, reserved := __src.reserved, body := __src.body : FabMsg }).offset
         64 (if 0 = 0 then 0 else 1)).snd =  eRights) :=
  ⟨arrives_of (by decide +kernel), by decide +kernel, by decide +kernel, by simp, by decide +kernel, by decide +kernel, by decide +kernel⟩

def w1_CoherenceAtHome_read : Line := { data := 4660, dirty := false, poison := 0, uncorr := 0, ext := false, hold := Hold.home, pmask := 0 : Line }

def w2_CoherenceAtHome_read : FabMsg := fromMember 200 CohOp.read 0 none

theorem wit_CoherenceAtHome_read :
    (Arrives w2_CoherenceAtHome_refuse.dev w2_CoherenceAtHome_read) ∧
    (memberOf w2_CoherenceAtHome_refuse.dev w2_CoherenceAtHome_read.src = some 1) ∧
    (peerOwn = w2_CoherenceAtHome_read.offset / 64) ∧
    ((Instr.cohRead, CohOp.read, 0) ∈ [(Instr.cohRead, CohOp.read, 0), (Instr.cohRx, CohOp.rx, 1), (Instr.cohOwn, CohOp.own, 2)]) ∧
    (w2_CoherenceAtHome_read.body = FabBody.coh CohOp.read 0 none) ∧
    ((admitRange w2_CoherenceAtHome_refuse.dev w2_CoherenceAtHome_read.src w2_CoherenceAtHome_read.offset 64 (if 0 = 0 then 0 else 1)).snd = 0) ∧
    (lineAt w2_CoherenceAtHome_refuse.dev peerOwn = some w1_CoherenceAtHome_read) ∧
    (tget w2_CoherenceAtHome_refuse.dev.shore.txn peerOwn = none) ∧
    (tget w2_CoherenceAtHome_refuse.dev.shore.fills peerOwn = none) ∧
    (tget w2_CoherenceAtHome_refuse.dev.shore.queue peerOwn = none) ∧
    (dirAt w2_CoherenceAtHome_refuse.dev peerOwn = none ∧ (dirSet w2_CoherenceAtHome_refuse.dev peerOwn).length < 16 ∨ ∃ e, dirAt
      w2_CoherenceAtHome_refuse.dev peerOwn = some e ∧ (0 = 0 ∧ e.state = DirState.shared ∨ 0 ≠ 0 ∧ ∀ (b : Nat), b ∈ agentsOf e → b = 1)) :=
  ⟨arrives_of (by decide +kernel), by decide +kernel, by decide +kernel, by simp, by decide +kernel, by decide +kernel, by decide +kernel,
    by decide +kernel, by decide +kernel, by decide +kernel, by decide +kernel⟩

def w1_CoherenceAtHome_rx : FabMsg := fromMember 200 CohOp.rx 0 none

theorem wit_CoherenceAtHome_rx :
    (Arrives w2_CoherenceAtHome_refuse.dev w1_CoherenceAtHome_rx) ∧
    (memberOf w2_CoherenceAtHome_refuse.dev w1_CoherenceAtHome_rx.src = some 1) ∧
    (peerOwn = w1_CoherenceAtHome_rx.offset / 64) ∧
    ((Instr.cohRx, CohOp.rx, 1) ∈ [(Instr.cohRead, CohOp.read, 0), (Instr.cohRx, CohOp.rx, 1), (Instr.cohOwn, CohOp.own, 2)]) ∧
    (w1_CoherenceAtHome_rx.body = FabBody.coh CohOp.rx 0 none) ∧
    ((admitRange w2_CoherenceAtHome_refuse.dev w1_CoherenceAtHome_rx.src w1_CoherenceAtHome_rx.offset 64 (if 1 = 0 then 0 else 1)).snd = 0) ∧
    (lineAt w2_CoherenceAtHome_refuse.dev peerOwn = some w1_CoherenceAtHome_read) ∧
    (tget w2_CoherenceAtHome_refuse.dev.shore.txn peerOwn = none) ∧
    (tget w2_CoherenceAtHome_refuse.dev.shore.fills peerOwn = none) ∧
    (tget w2_CoherenceAtHome_refuse.dev.shore.queue peerOwn = none) ∧
    (dirAt w2_CoherenceAtHome_refuse.dev peerOwn = none ∧ (dirSet w2_CoherenceAtHome_refuse.dev peerOwn).length < 16 ∨ ∃ e, dirAt
      w2_CoherenceAtHome_refuse.dev peerOwn = some e ∧ (1 = 0 ∧ e.state = DirState.shared ∨ 1 ≠ 0 ∧ ∀ (b : Nat), b ∈ agentsOf e → b = 1)) :=
  ⟨arrives_of (by decide +kernel), by decide +kernel, by decide +kernel, by simp, by decide +kernel, by decide +kernel, by decide +kernel,
    by decide +kernel, by decide +kernel, by decide +kernel, by decide +kernel⟩

def w1_CoherenceAtHome_own : Line := { data := 4660, dirty := false, poison := 0, uncorr := 0, ext := true, hold := Hold.home, pmask := 0 : Line }

def w2_CoherenceAtHome_own : State := at0 (homeDev true [(peerOwn, heldBy DirState.shared 1)] [])

def w3_CoherenceAtHome_own : FabMsg := fromMember 200 CohOp.own 0 none

theorem wit_CoherenceAtHome_own :
    (Arrives w2_CoherenceAtHome_own.dev w3_CoherenceAtHome_own) ∧
    (memberOf w2_CoherenceAtHome_own.dev w3_CoherenceAtHome_own.src = some 1) ∧
    (peerOwn = w3_CoherenceAtHome_own.offset / 64) ∧
    ((Instr.cohOwn, CohOp.own, 2) ∈ [(Instr.cohRead, CohOp.read, 0), (Instr.cohRx, CohOp.rx, 1), (Instr.cohOwn, CohOp.own, 2)]) ∧
    (w3_CoherenceAtHome_own.body = FabBody.coh CohOp.own 0 none) ∧
    ((admitRange w2_CoherenceAtHome_own.dev w3_CoherenceAtHome_own.src w3_CoherenceAtHome_own.offset 64 (if 2 = 0 then 0 else 1)).snd = 0) ∧
    (lineAt w2_CoherenceAtHome_own.dev peerOwn = some w1_CoherenceAtHome_own) ∧
    (tget w2_CoherenceAtHome_own.dev.shore.txn peerOwn = none) ∧
    (tget w2_CoherenceAtHome_own.dev.shore.fills peerOwn = none) ∧
    (tget w2_CoherenceAtHome_own.dev.shore.queue peerOwn = none) ∧
    (dirAt w2_CoherenceAtHome_own.dev peerOwn = none ∧ (dirSet w2_CoherenceAtHome_own.dev peerOwn).length < 16 ∨ ∃ e, dirAt
      w2_CoherenceAtHome_own.dev peerOwn = some e ∧ (2 = 0 ∧ e.state = DirState.shared ∨ 2 ≠ 0 ∧ ∀ (b : Nat), b ∈ agentsOf e → b = 1)) :=
  ⟨arrives_of (by decide +kernel), by decide +kernel, by decide +kernel, by simp, by decide +kernel, by decide +kernel, by decide +kernel,
    by decide +kernel, by decide +kernel, by decide +kernel, by decide +kernel⟩

def w1_CoherenceAtHome_share : State := at0 (homeDev true [(peerOwn, heldBy DirState.shared 2)] [])

theorem wit_CoherenceAtHome_share :
    (Arrives w1_CoherenceAtHome_share.dev w2_CoherenceAtHome_read) ∧
    (memberOf w1_CoherenceAtHome_share.dev w2_CoherenceAtHome_read.src = some 1) ∧
    (peerOwn = w2_CoherenceAtHome_read.offset / 64) ∧
    ((Instr.cohRead, CohOp.read, 0) ∈ [(Instr.cohRead, CohOp.read, 0), (Instr.cohRx, CohOp.rx, 1), (Instr.cohOwn, CohOp.own, 2)]) ∧
    (w2_CoherenceAtHome_read.body = FabBody.coh CohOp.read 0 none) ∧
    ((admitRange w1_CoherenceAtHome_share.dev w2_CoherenceAtHome_read.src w2_CoherenceAtHome_read.offset 64 (if 0 = 0 then 0 else 1)).snd = 0) ∧
    (lineAt w1_CoherenceAtHome_share.dev peerOwn = some w1_CoherenceAtHome_own) ∧
    (tget w1_CoherenceAtHome_share.dev.shore.txn peerOwn = none) ∧
    (tget w1_CoherenceAtHome_share.dev.shore.fills peerOwn = none) ∧
    (tget w1_CoherenceAtHome_share.dev.shore.queue peerOwn = none) ∧
    (dirAt w1_CoherenceAtHome_share.dev peerOwn = none ∧ (dirSet w1_CoherenceAtHome_share.dev peerOwn).length < 16 ∨ ∃ e, dirAt
      w1_CoherenceAtHome_share.dev peerOwn = some e ∧ (0 = 0 ∧ e.state = DirState.shared ∨ 0 ≠ 0 ∧ ∀ (b : Nat), b ∈ agentsOf e → b = 1)) :=
  ⟨arrives_of (by decide +kernel), by decide +kernel, by decide +kernel, by simp, by decide +kernel, by decide +kernel, by decide +kernel,
    by decide +kernel, by decide +kernel, by decide +kernel, by decide +kernel⟩

def w1_CoherenceAtHome_forward : State := at0 (homeDev true [(peerOwn, heldBy DirState.dirty 2)] [])

theorem wit_CoherenceAtHome_forward :
    (Arrives w1_CoherenceAtHome_forward.dev w2_CoherenceAtHome_read) ∧
    (memberOf w1_CoherenceAtHome_forward.dev w2_CoherenceAtHome_read.src = some 1) ∧
    (peerOwn = w2_CoherenceAtHome_read.offset / 64) ∧
    ((Instr.cohRead, CohOp.read, 0) ∈ [(Instr.cohRead, CohOp.read, 0), (Instr.cohRx, CohOp.rx, 1), (Instr.cohOwn, CohOp.own, 2)]) ∧
    (w2_CoherenceAtHome_read.body = FabBody.coh CohOp.read 0 none) ∧
    ((admitRange w1_CoherenceAtHome_forward.dev w2_CoherenceAtHome_read.src w2_CoherenceAtHome_read.offset 64 (if 0 = 0 then 0 else 1)).snd = 0) ∧
    (lineAt w1_CoherenceAtHome_forward.dev peerOwn = some w1_CoherenceAtHome_own) ∧
    (tget w1_CoherenceAtHome_forward.dev.shore.txn peerOwn = none) ∧
    (tget w1_CoherenceAtHome_forward.dev.shore.fills peerOwn = none) ∧
    (tget w1_CoherenceAtHome_forward.dev.shore.queue peerOwn = none) ∧
    (dirAt w1_CoherenceAtHome_forward.dev peerOwn = some (heldBy DirState.dirty 2)) ∧
    (holderOf (heldBy DirState.dirty 2) ∈ agentsOf (heldBy DirState.dirty 2)) ∧
    (holderOf (heldBy DirState.dirty 2) ≠ 1) ∧
    (holderOf (heldBy DirState.dirty 2) ≠ 64) ∧
    ((heldBy DirState.dirty 2).state = DirState.dirty ∨ 0 = 0 ∧ (heldBy DirState.dirty 2).state ≠ DirState.shared) :=
  ⟨arrives_of (by decide +kernel), by decide +kernel, by decide +kernel, by simp, by decide +kernel, by decide +kernel, by decide +kernel,
    by decide +kernel, by decide +kernel, by decide +kernel, by decide +kernel, by decide +kernel, by decide +kernel, by decide +kernel,
    by decide +kernel⟩

theorem wit_CoherenceAtHome_forward_rx :
    (Arrives w1_CoherenceAtHome_forward.dev w1_CoherenceAtHome_rx) ∧
    (memberOf w1_CoherenceAtHome_forward.dev w1_CoherenceAtHome_rx.src = some 1) ∧
    (peerOwn = w1_CoherenceAtHome_rx.offset / 64) ∧
    ((Instr.cohRx, CohOp.rx, 1) ∈ [(Instr.cohRead, CohOp.read, 0), (Instr.cohRx, CohOp.rx, 1), (Instr.cohOwn, CohOp.own, 2)]) ∧
    (w1_CoherenceAtHome_rx.body = FabBody.coh CohOp.rx 0 none) ∧
    ((admitRange w1_CoherenceAtHome_forward.dev w1_CoherenceAtHome_rx.src w1_CoherenceAtHome_rx.offset 64 (if 1 = 0 then 0 else 1)).snd = 0) ∧
    (lineAt w1_CoherenceAtHome_forward.dev peerOwn = some w1_CoherenceAtHome_own) ∧
    (tget w1_CoherenceAtHome_forward.dev.shore.txn peerOwn = none) ∧
    (tget w1_CoherenceAtHome_forward.dev.shore.fills peerOwn = none) ∧
    (tget w1_CoherenceAtHome_forward.dev.shore.queue peerOwn = none) ∧
    (dirAt w1_CoherenceAtHome_forward.dev peerOwn = some (heldBy DirState.dirty 2)) ∧
    (holderOf (heldBy DirState.dirty 2) ∈ agentsOf (heldBy DirState.dirty 2)) ∧
    (holderOf (heldBy DirState.dirty 2) ≠ 1) ∧
    (holderOf (heldBy DirState.dirty 2) ≠ 64) ∧
    ((heldBy DirState.dirty 2).state = DirState.dirty ∨ 1 = 0 ∧ (heldBy DirState.dirty 2).state ≠ DirState.shared) :=
  ⟨arrives_of (by decide +kernel), by decide +kernel, by decide +kernel, by simp, by decide +kernel, by decide +kernel, by decide +kernel,
    by decide +kernel, by decide +kernel, by decide +kernel, by decide +kernel, by decide +kernel, by decide +kernel, by decide +kernel,
    by decide +kernel⟩

def w1_CoherenceAtHome_forward_sole : State := at0 (homeDev true [(peerOwn, heldBy DirState.sole 2)] [])

theorem wit_CoherenceAtHome_forward_sole :
    (Arrives w1_CoherenceAtHome_forward_sole.dev w2_CoherenceAtHome_read) ∧
    (memberOf w1_CoherenceAtHome_forward_sole.dev w2_CoherenceAtHome_read.src = some 1) ∧
    (peerOwn = w2_CoherenceAtHome_read.offset / 64) ∧
    ((Instr.cohRead, CohOp.read, 0) ∈ [(Instr.cohRead, CohOp.read, 0), (Instr.cohRx, CohOp.rx, 1), (Instr.cohOwn, CohOp.own, 2)]) ∧
    (w2_CoherenceAtHome_read.body = FabBody.coh CohOp.read 0 none) ∧
    ((admitRange w1_CoherenceAtHome_forward_sole.dev w2_CoherenceAtHome_read.src w2_CoherenceAtHome_read.offset 64 (if 0 = 0 then 0 else 1)).snd =
      0) ∧
    (lineAt w1_CoherenceAtHome_forward_sole.dev peerOwn = some w1_CoherenceAtHome_own) ∧
    (tget w1_CoherenceAtHome_forward_sole.dev.shore.txn peerOwn = none) ∧
    (tget w1_CoherenceAtHome_forward_sole.dev.shore.fills peerOwn = none) ∧
    (tget w1_CoherenceAtHome_forward_sole.dev.shore.queue peerOwn = none) ∧
    (dirAt w1_CoherenceAtHome_forward_sole.dev peerOwn = some (heldBy DirState.sole 2)) ∧
    (holderOf (heldBy DirState.sole 2) ∈ agentsOf (heldBy DirState.sole 2)) ∧
    (holderOf (heldBy DirState.sole 2) ≠ 1) ∧
    (holderOf (heldBy DirState.sole 2) ≠ 64) ∧
    ((heldBy DirState.sole 2).state = DirState.dirty ∨ 0 = 0 ∧ (heldBy DirState.sole 2).state ≠ DirState.shared) :=
  ⟨arrives_of (by decide +kernel), by decide +kernel, by decide +kernel, by simp, by decide +kernel, by decide +kernel, by decide +kernel,
    by decide +kernel, by decide +kernel, by decide +kernel, by decide +kernel, by decide +kernel, by decide +kernel, by decide +kernel,
    by decide +kernel⟩

def w1_CoherenceAtHome_invalidate : State := at0 (homeDev true [(peerOwn, shared12)] [])

theorem wit_CoherenceAtHome_invalidate :
    (Arrives w1_CoherenceAtHome_invalidate.dev w1_CoherenceAtHome_rx) ∧
    (memberOf w1_CoherenceAtHome_invalidate.dev w1_CoherenceAtHome_rx.src = some 1) ∧
    (peerOwn = w1_CoherenceAtHome_rx.offset / 64) ∧
    ((Instr.cohRx, CohOp.rx, 1) ∈ [(Instr.cohRead, CohOp.read, 0), (Instr.cohRx, CohOp.rx, 1), (Instr.cohOwn, CohOp.own, 2)]) ∧
    (w1_CoherenceAtHome_rx.body = FabBody.coh CohOp.rx 0 none) ∧
    ((admitRange w1_CoherenceAtHome_invalidate.dev w1_CoherenceAtHome_rx.src w1_CoherenceAtHome_rx.offset 64 (if 1 = 0 then 0 else 1)).snd = 0) ∧
    (lineAt w1_CoherenceAtHome_invalidate.dev peerOwn = some w1_CoherenceAtHome_own) ∧
    (tget w1_CoherenceAtHome_invalidate.dev.shore.txn peerOwn = none) ∧
    (tget w1_CoherenceAtHome_invalidate.dev.shore.fills peerOwn = none) ∧
    (tget w1_CoherenceAtHome_invalidate.dev.shore.queue peerOwn = none) ∧
    (dirAt w1_CoherenceAtHome_invalidate.dev peerOwn = some shared12) ∧
    (shared12.state = DirState.shared) ∧
    (1 ≠ 0) ∧
    (∃ b, b ∈ agentsOf shared12 ∧ b ≠ 1) :=
  ⟨arrives_of (by decide +kernel), by decide +kernel, by decide +kernel, by simp, by decide +kernel, by decide +kernel, by decide +kernel,
    by decide +kernel, by decide +kernel, by decide +kernel, by decide +kernel, by decide +kernel, by decide +kernel, by decide +kernel⟩

def w1_CoherenceAtHome_wb : FabMsg := fromMember 200 CohOp.wb 0 (some { data := 153, poison := 0 : LineData })

def w2_CoherenceAtHome_wb : State := at0 (homeDev true [(peerOwn, heldBy DirState.dirty 1)] [])

def w3_CoherenceAtHome_wb : LineData := { data := 153, poison := 0 : LineData }

theorem wit_CoherenceAtHome_wb :
    (Arrives w2_CoherenceAtHome_wb.dev w1_CoherenceAtHome_wb) ∧
    (memberOf w2_CoherenceAtHome_wb.dev w1_CoherenceAtHome_wb.src = some 1) ∧
    (peerOwn = w1_CoherenceAtHome_wb.offset / 64) ∧
    (w2_CoherenceAtHome_wb.dev.shore.fills = []) ∧
    (w2_CoherenceAtHome_wb.dev.shore.queue = []) ∧
    (tget w2_CoherenceAtHome_wb.dev.shore.txn peerOwn = none) ∧
    (dirAt w2_CoherenceAtHome_wb.dev peerOwn = some (heldBy DirState.dirty 1)) ∧
    (holderOf (heldBy DirState.dirty 1) = 1) ∧
    (lineAt w2_CoherenceAtHome_wb.dev peerOwn = some w1_CoherenceAtHome_own) ∧
    (w1_CoherenceAtHome_wb.body = FabBody.coh CohOp.wb 0 (some w3_CoherenceAtHome_wb)) ∧
    ((heldBy DirState.dirty 1).state = DirState.dirty) :=
  ⟨arrives_of (by decide +kernel), by decide +kernel, by decide +kernel, by decide +kernel, by decide +kernel, by decide +kernel, by decide +kernel,
    by decide +kernel, by decide +kernel, by decide +kernel, by decide +kernel⟩

def w1_CoherenceAtHome_drop : State := at0 (homeDev true [(peerOwn, heldBy DirState.sole 1)] [])

def w2_CoherenceAtHome_drop : FabMsg := fromMember 200 CohOp.drop 0 none

theorem wit_CoherenceAtHome_drop :
    (Arrives w1_CoherenceAtHome_drop.dev w2_CoherenceAtHome_drop) ∧
    (memberOf w1_CoherenceAtHome_drop.dev w2_CoherenceAtHome_drop.src = some 1) ∧
    (peerOwn = w2_CoherenceAtHome_drop.offset / 64) ∧
    (w1_CoherenceAtHome_drop.dev.shore.fills = []) ∧
    (w1_CoherenceAtHome_drop.dev.shore.queue = []) ∧
    (tget w1_CoherenceAtHome_drop.dev.shore.txn peerOwn = none) ∧
    (dirAt w1_CoherenceAtHome_drop.dev peerOwn = some (heldBy DirState.sole 1)) ∧
    (holderOf (heldBy DirState.sole 1) = 1) ∧
    (lineAt w1_CoherenceAtHome_drop.dev peerOwn = some w1_CoherenceAtHome_own) ∧
    (w2_CoherenceAtHome_drop.body = FabBody.coh CohOp.drop 0 none) ∧
    ((heldBy DirState.sole 1).state = DirState.sole ∨ (heldBy DirState.sole 1).state = DirState.forwarder) :=
  ⟨arrives_of (by decide +kernel), by decide +kernel, by decide +kernel, by decide +kernel, by decide +kernel, by decide +kernel, by decide +kernel,
    by decide +kernel, by decide +kernel, by decide +kernel, by decide +kernel⟩

def w1_CoherenceAtHome_drop_forwarder : State := at0  (homeDev true   [(peerOwn,     let __src := shared12;     { state := DirState.forwarder, agent := __src.agent, holderHost := __src.holderHost, hostId := __src.hostId, presHost := __src.presHost, pres := __src.pres, granted := __src.granted, tag := __src.tag : DirEntry })]
    [])

def w2_CoherenceAtHome_drop_forwarder : DirEntry := let __src := shared12; { state := DirState.forwarder, agent := __src.agent, holderHost := __src.holderHost, hostId := __src.hostId, presHost := __src.presHost, pres := __src.pres, granted := __src.granted, tag := __src.tag : DirEntry }

theorem wit_CoherenceAtHome_drop_forwarder :
    (Arrives  (at0    (homeDev true     [(peerOwn,       let __src := shared12;       { state := DirState.forwarder, agent := __src.agent, holderHost := __src.holderHost, hostId := __src.hostId, presHost := __src.presHost, pres := __src.pres, granted := __src.granted, tag := __src.tag : DirEntry })]
          [])).dev  w2_CoherenceAtHome_drop) ∧
    (memberOf   (at0     (homeDev true      [(peerOwn,        let __src := shared12;        { state := DirState.forwarder, agent := __src.agent, holderHost := __src.holderHost, hostId := __src.hostId, presHost := __src.presHost, pres := __src.pres, granted := __src.granted, tag := __src.tag : DirEntry })]
           [])).dev   w2_CoherenceAtHome_drop.src =  some 1) ∧
    (peerOwn = w2_CoherenceAtHome_drop.offset / 64) ∧
    ((at0      (homeDev true       [(peerOwn,         let __src := shared12;         { state := DirState.forwarder, agent := __src.agent, holderHost := __src.holderHost, hostId := __src.hostId, presHost := __src.presHost, pres := __src.pres, granted := __src.granted, tag := __src.tag : DirEntry })]
            [])).dev.shore.fills =  []) ∧
    ((at0      (homeDev true       [(peerOwn,         let __src := shared12;         { state := DirState.forwarder, agent := __src.agent, holderHost := __src.holderHost, hostId := __src.hostId, presHost := __src.presHost, pres := __src.pres, granted := __src.granted, tag := __src.tag : DirEntry })]
            [])).dev.shore.queue =  []) ∧
    (tget   (at0       (homeDev true        [(peerOwn,          let __src := shared12;          { state := DirState.forwarder, agent := __src.agent, holderHost := __src.holderHost, hostId := __src.hostId, presHost := __src.presHost, pres := __src.pres, granted := __src.granted, tag := __src.tag : DirEntry })]
             [])).dev.shore.txn   peerOwn =  none) ∧
    (dirAt   (at0     (homeDev true      [(peerOwn,        let __src := shared12;        { state := DirState.forwarder, agent := __src.agent, holderHost := __src.holderHost, hostId := __src.hostId, presHost := __src.presHost, pres := __src.pres, granted := __src.granted, tag := __src.tag : DirEntry })]
           [])).dev   peerOwn =  some   (let __src := shared12;   { state := DirState.forwarder, agent := __src.agent, holderHost := __src.holderHost, hostId := __src.hostId, presHost := __src.presHost, pres := __src.pres, granted := __src.granted, tag := __src.tag : DirEntry })) ∧
    (holderOf   (let __src := shared12;   { state := DirState.forwarder, agent := __src.agent, holderHost := __src.holderHost, hostId := __src.hostId, presHost := __src.presHost, pres := __src.pres, granted := __src.granted, tag := __src.tag : DirEntry })
      =  1) ∧
    (lineAt   (at0     (homeDev true      [(peerOwn,        let __src := shared12;        { state := DirState.forwarder, agent := __src.agent, holderHost := __src.holderHost, hostId := __src.hostId, presHost := __src.presHost, pres := __src.pres, granted := __src.granted, tag := __src.tag : DirEntry })]
           [])).dev   peerOwn =  some w1_CoherenceAtHome_own) ∧
    (w2_CoherenceAtHome_drop.body = FabBody.coh CohOp.drop 0 none) ∧
    ((let __src := shared12;    { state := DirState.forwarder, agent := __src.agent, holderHost := __src.holderHost, hostId := __src.hostId, presHost := __src.presHost, pres := __src.pres, granted := __src.granted, tag := __src.tag : DirEntry }).state
      =   DirState.sole ∨  (let __src := shared12;    { state := DirState.forwarder, agent := __src.agent, holderHost := __src.holderHost, hostId := __src.hostId, presHost := __src.presHost, pres := __src.pres, granted := __src.granted, tag := __src.tag : DirEntry }).state
      =   DirState.forwarder) :=
  ⟨arrives_of (by decide +kernel), by decide +kernel, by decide +kernel, by decide +kernel, by decide +kernel, by decide +kernel, by decide +kernel,
    by decide +kernel, by decide +kernel, by decide +kernel, by decide +kernel⟩

def w1_CoherenceAtHome_answer : State := at0 (homeDev true [(peerOwn, shared12)] [(peerOwn, { kind := TxnKind.invalidate, req := none, waiting := [1, 2], next := none, served := false : Txn })])

def w2_CoherenceAtHome_answer : Txn := { kind := TxnKind.invalidate, req := none, waiting := [1, 2], next := none, served := false : Txn }

def w3_CoherenceAtHome_answer : FabMsg := fromMember 200 CohOp.ack 0 none

theorem wit_CoherenceAtHome_answer :
    (Arrives w1_CoherenceAtHome_answer.dev w3_CoherenceAtHome_answer) ∧
    (memberOf w1_CoherenceAtHome_answer.dev w3_CoherenceAtHome_answer.src = some 1) ∧
    (peerOwn = w3_CoherenceAtHome_answer.offset / 64) ∧
    (w1_CoherenceAtHome_answer.dev.shore.fills = []) ∧
    (w1_CoherenceAtHome_answer.dev.shore.queue = []) ∧
    (CohOp.ack = CohOp.ack ∨ CohOp.ack = CohOp.noCopy) ∧
    (w3_CoherenceAtHome_answer.body = FabBody.coh CohOp.ack 0 none) ∧
    (tget w1_CoherenceAtHome_answer.dev.shore.txn peerOwn = some w2_CoherenceAtHome_answer) ∧
    (1 ∈ w2_CoherenceAtHome_answer.waiting) :=
  ⟨arrives_of (by decide +kernel), by decide +kernel, by decide +kernel, by decide +kernel, by decide +kernel, by decide +kernel, by decide +kernel,
    by decide +kernel, by decide +kernel⟩

def w1_CoherenceAtHome_last : State := at0 (homeDev true [(peerOwn, shared12)] [(peerOwn, { kind := TxnKind.free, req := none, waiting := [1], next := none, served := false : Txn })])

def w2_CoherenceAtHome_last : Txn := { kind := TxnKind.free, req := none, waiting := [1], next := none, served := false : Txn }

def w3_CoherenceAtHome_last : FabMsg := fromMember 200 CohOp.noCopy 0 none

theorem wit_CoherenceAtHome_last :
    (Arrives w1_CoherenceAtHome_last.dev w3_CoherenceAtHome_last) ∧
    (memberOf w1_CoherenceAtHome_last.dev w3_CoherenceAtHome_last.src = some 1) ∧
    (peerOwn = w3_CoherenceAtHome_last.offset / 64) ∧
    (w1_CoherenceAtHome_last.dev.shore.fills = []) ∧
    (w1_CoherenceAtHome_last.dev.shore.queue = []) ∧
    (CohOp.noCopy = CohOp.ack ∨ CohOp.noCopy = CohOp.noCopy) ∧
    (w3_CoherenceAtHome_last.body = FabBody.coh CohOp.noCopy 0 none) ∧
    (tget w1_CoherenceAtHome_last.dev.shore.txn peerOwn = some w2_CoherenceAtHome_last) ∧
    (1 ∈ w2_CoherenceAtHome_last.waiting) :=
  ⟨arrives_of (by decide +kernel), by decide +kernel, by decide +kernel, by decide +kernel, by decide +kernel, by decide +kernel, by decide +kernel,
    by decide +kernel, by decide +kernel⟩

def w1_CoherenceAtAgent_forward : Line := { data := 119, dirty := false, poison := 0, uncorr := 0, ext := false, hold := Hold.d, pmask := 0 : Line }

def w2_CoherenceAtAgent_forward : FabMsg := fromHome CohOp.forwardRead 2 none

theorem wit_CoherenceAtAgent_forward :
    (Arrives (at0 (agentDev Hold.d)).dev w2_CoherenceAtAgent_forward) ∧
    (memberOf (at0 (agentDev Hold.d)).dev w2_CoherenceAtAgent_forward.src = some 1) ∧
    (farLine = peerKey w2_CoherenceAtAgent_forward.src w2_CoherenceAtAgent_forward.offset) ∧
    (placeOf (at0 (agentDev Hold.d)).dev farLine = Place.member 1) ∧
    (tget (at0 (agentDev Hold.d)).dev.shore.wants farLine = none) ∧
    (CohOp.forwardRead = CohOp.forwardRead ∨ CohOp.forwardRead = CohOp.forwardRx) ∧
    (w2_CoherenceAtAgent_forward.body = FabBody.coh CohOp.forwardRead 2 none) ∧
    (lineAt (at0 (agentDev Hold.d)).dev farLine = some w1_CoherenceAtAgent_forward) ∧
    (w1_CoherenceAtAgent_forward.hold ≠ Hold.pending) :=
  ⟨arrives_of (by decide +kernel), by decide +kernel, by decide +kernel, by decide +kernel, by decide +kernel, by decide +kernel, by decide +kernel,
    by decide +kernel, by decide +kernel⟩

def w1_CoherenceAtAgent_recall : FabMsg := fromHome CohOp.recallInv 0 none

theorem wit_CoherenceAtAgent_recall :
    (Arrives (at0 (agentDev Hold.d)).dev w1_CoherenceAtAgent_recall) ∧
    (memberOf (at0 (agentDev Hold.d)).dev w1_CoherenceAtAgent_recall.src = some 1) ∧
    (farLine = peerKey w1_CoherenceAtAgent_recall.src w1_CoherenceAtAgent_recall.offset) ∧
    (placeOf (at0 (agentDev Hold.d)).dev farLine = Place.member 1) ∧
    (tget (at0 (agentDev Hold.d)).dev.shore.wants farLine = none) ∧
    (CohOp.recallInv = CohOp.recallLine ∨ CohOp.recallInv = CohOp.recallInv ∨ CohOp.recallInv = CohOp.inval) ∧
    (w1_CoherenceAtAgent_recall.body = FabBody.coh CohOp.recallInv 0 none) ∧
    (lineAt (at0 (agentDev Hold.d)).dev farLine = some w1_CoherenceAtAgent_forward) ∧
    (w1_CoherenceAtAgent_forward.hold ≠ Hold.pending) :=
  ⟨arrives_of (by decide +kernel), by decide +kernel, by decide +kernel, by decide +kernel, by decide +kernel, by decide +kernel, by decide +kernel,
    by decide +kernel, by decide +kernel⟩

def w1_CoherenceAtAgent_inval : Line := { data := 119, dirty := false, poison := 0, uncorr := 0, ext := false, hold := Hold.s, pmask := 0 : Line }

def w2_CoherenceAtAgent_inval : FabMsg := fromHome CohOp.inval 0 none

theorem wit_CoherenceAtAgent_inval :
    (Arrives (at0 (agentDev Hold.s)).dev w2_CoherenceAtAgent_inval) ∧
    (memberOf (at0 (agentDev Hold.s)).dev w2_CoherenceAtAgent_inval.src = some 1) ∧
    (farLine = peerKey w2_CoherenceAtAgent_inval.src w2_CoherenceAtAgent_inval.offset) ∧
    (placeOf (at0 (agentDev Hold.s)).dev farLine = Place.member 1) ∧
    (tget (at0 (agentDev Hold.s)).dev.shore.wants farLine = none) ∧
    (CohOp.inval = CohOp.recallLine ∨ CohOp.inval = CohOp.recallInv ∨ CohOp.inval = CohOp.inval) ∧
    (w2_CoherenceAtAgent_inval.body = FabBody.coh CohOp.inval 0 none) ∧
    (lineAt (at0 (agentDev Hold.s)).dev farLine = some w1_CoherenceAtAgent_inval) ∧
    (w1_CoherenceAtAgent_inval.hold ≠ Hold.pending) :=
  ⟨arrives_of (by decide +kernel), by decide +kernel, by decide +kernel, by decide +kernel, by decide +kernel, by decide +kernel, by decide +kernel,
    by decide +kernel, by decide +kernel⟩

def w1_CoherenceAtAgent_recall_kept : Line := { data := 119, dirty := false, poison := 0, uncorr := 0, ext := false, hold := Hold.x, pmask := 0 : Line }

def w2_CoherenceAtAgent_recall_kept : FabMsg := fromHome CohOp.recallLine 0 none

theorem wit_CoherenceAtAgent_recall_kept :
    (Arrives (at0 (agentDev Hold.x)).dev w2_CoherenceAtAgent_recall_kept) ∧
    (memberOf (at0 (agentDev Hold.x)).dev w2_CoherenceAtAgent_recall_kept.src = some 1) ∧
    (farLine = peerKey w2_CoherenceAtAgent_recall_kept.src w2_CoherenceAtAgent_recall_kept.offset) ∧
    (placeOf (at0 (agentDev Hold.x)).dev farLine = Place.member 1) ∧
    (tget (at0 (agentDev Hold.x)).dev.shore.wants farLine = none) ∧
    (CohOp.recallLine = CohOp.recallLine ∨ CohOp.recallLine = CohOp.recallInv ∨ CohOp.recallLine = CohOp.inval) ∧
    (w2_CoherenceAtAgent_recall_kept.body = FabBody.coh CohOp.recallLine 0 none) ∧
    (lineAt (at0 (agentDev Hold.x)).dev farLine = some w1_CoherenceAtAgent_recall_kept) ∧
    (w1_CoherenceAtAgent_recall_kept.hold ≠ Hold.pending) :=
  ⟨arrives_of (by decide +kernel), by decide +kernel, by decide +kernel, by decide +kernel, by decide +kernel, by decide +kernel, by decide +kernel,
    by decide +kernel, by decide +kernel⟩

theorem wit_CoherenceAtAgent_none :
    (Arrives (at0 net0).dev w2_CoherenceAtAgent_recall_kept) ∧
    (memberOf (at0 net0).dev w2_CoherenceAtAgent_recall_kept.src = some 1) ∧
    (farLine = peerKey w2_CoherenceAtAgent_recall_kept.src w2_CoherenceAtAgent_recall_kept.offset) ∧
    (placeOf (at0 net0).dev farLine = Place.member 1) ∧
    (tget (at0 net0).dev.shore.wants farLine = none) ∧
    (CohOp.recallLine = CohOp.recallLine ∨ CohOp.recallLine = CohOp.recallInv ∨ CohOp.recallLine = CohOp.inval) ∧
    (w2_CoherenceAtAgent_recall_kept.body = FabBody.coh CohOp.recallLine 0 none) ∧
    (lineAt (at0 net0).dev farLine = none) :=
  ⟨arrives_of (by decide +kernel), by decide +kernel, by decide +kernel, by decide +kernel, by decide +kernel, by decide +kernel, by decide +kernel,
    by decide +kernel⟩

def w1_CoherenceAtAgent_grant : LineData := { data := 136, poison := 0 : LineData }

theorem wit_CoherenceAtAgent_grant :
    ((∃ m op third, Arrives (at0 (wantDev 36 [])).dev m ∧ (memberOf (at0 (wantDev 36 [])).dev m.src).isSome = true ∧ Instr.cohGrant (fromHome
      CohOp.grant 3 (some w1_CoherenceAtAgent_grant)) = Instr.cohGrant m ∧ m.body = FabBody.coh op third (some w1_CoherenceAtAgent_grant) ∧ ((op =
      CohOp.grant ∧ farLine = peerKey m.src m.offset ∧ Hold.x = if third = 4 then Hold.f else if third = 3 then Hold.x else Hold.s) ∨ op =
      CohOp.supply ∧ farLine = peerKey third m.offset ∧ Hold.x = Hold.f) ∧ Hold.d = Hold.d) ∨ ∃ line sole, serving (at0 (wantDev 36 [])).dev =
      true ∧ fget (at0 (wantDev 36 [])).dev RF.HST_STATUS_HOST_VALID = 1 ∧ Instr.cohGrant (fromHome CohOp.grant 3 (some
      w1_CoherenceAtAgent_grant)) = Instr.hostGo line sole w1_CoherenceAtAgent_grant ∧ farLine = hostLine line ∧ (Hold.x = if sole = true then
      Hold.x else Hold.s) ∧ Hold.d = Hold.x) ∧
    (tget (at0 (wantDev 36 [])).dev.shore.wants farLine = some 36) ∧
    (tget (at0 (wantDev 36 [])).dev.shore.queue farLine = none) ∧
    (∀ (f : HeldFwd), f ∈ (at0 (wantDev 36 [])).dev.shore.heldFwd → f.line ≠ farLine) ∧
    (∀ (l : Line), lineAt (at0 (wantDev 36 [])).dev farLine = some l → l.hold ≠ Hold.pending) :=
  ⟨Or.inl ⟨_, _, _, arrives_of (by decide +kernel), by decide +kernel, rfl, rfl, Or.inl ⟨rfl, rfl, rfl⟩, rfl⟩, by decide +kernel, by decide +kernel,
    by decide +kernel, by decide +kernel⟩

theorem wit_CoherenceAtAgent_supply :
    ((∃ m op third,   Arrives (at0 (wantDev 36 [])).dev m ∧    (memberOf (at0 (wantDev 36 [])).dev m.src).isSome = true ∧     Instr.cohGrant
       (let __src := fromHome CohOp.supply 200 (some w1_CoherenceAtAgent_grant);        { dst := __src.dst, src := 300, hops := __src.hops, poison := __src.poison, epoch := __src.epoch, tag := __src.tag, offset := __src.offset, reserved := __src.reserved, body := __src.body : FabMsg })
      =       Instr.cohGrant m ∧      m.body = FabBody.coh op third (some w1_CoherenceAtAgent_grant) ∧ ((op = CohOp.grant ∧ farLine = peerKey
      m.src m.offset ∧ Hold.f = if third = 4 then Hold.f else if third = 3 then Hold.x else Hold.s) ∨ op = CohOp.supply ∧ farLine = peerKey third
      m.offset ∧ Hold.f = Hold.f) ∧ Hold.d = Hold.d) ∨  ∃ line sole,   serving (at0 (wantDev 36 [])).dev = true ∧    fget (at0 (wantDev 36
      [])).dev RF.HST_STATUS_HOST_VALID = 1 ∧     Instr.cohGrant        (let __src := fromHome CohOp.supply 200 (some w1_CoherenceAtAgent_grant);
            { dst := __src.dst, src := 300, hops := __src.hops, poison := __src.poison, epoch := __src.epoch, tag := __src.tag, offset := __src.offset, reserved := __src.reserved, body := __src.body : FabMsg })
      =       Instr.hostGo line sole w1_CoherenceAtAgent_grant ∧      farLine = hostLine line ∧ (Hold.f = if sole = true then Hold.x else Hold.s)
      ∧ Hold.d = Hold.x) ∧
    (tget (at0 (wantDev 36 [])).dev.shore.wants farLine = some 36) ∧
    (tget (at0 (wantDev 36 [])).dev.shore.queue farLine = none) ∧
    (∀ (f : HeldFwd), f ∈ (at0 (wantDev 36 [])).dev.shore.heldFwd → f.line ≠ farLine) ∧
    (∀ (l : Line), lineAt (at0 (wantDev 36 [])).dev farLine = some l → l.hold ≠ Hold.pending) :=
  ⟨Or.inl ⟨_, _, _, arrives_of (by decide +kernel), by decide +kernel, rfl, rfl, Or.inr ⟨rfl, rfl, rfl⟩, rfl⟩, by decide +kernel, by decide +kernel,
    by decide +kernel, by decide +kernel⟩

theorem wit_CoherenceAtAgent_go :
    ((∃ m op third, Arrives (at0 hostWant).dev m ∧ (memberOf (at0 hostWant).dev m.src).isSome = true ∧ Instr.hostGo 153 false
      w1_CoherenceAtAgent_grant = Instr.cohGrant m ∧ m.body = FabBody.coh op third (some w1_CoherenceAtAgent_grant) ∧ ((op = CohOp.grant ∧
      hostLine 153 = peerKey m.src m.offset ∧ Hold.s = if third = 4 then Hold.f else if third = 3 then Hold.x else Hold.s) ∨ op = CohOp.supply ∧
      hostLine 153 = peerKey third m.offset ∧ Hold.s = Hold.f) ∧ Hold.x = Hold.d) ∨ ∃ line sole, serving (at0 hostWant).dev = true ∧ fget (at0
      hostWant).dev RF.HST_STATUS_HOST_VALID = 1 ∧ Instr.hostGo 153 false w1_CoherenceAtAgent_grant = Instr.hostGo line sole
      w1_CoherenceAtAgent_grant ∧ hostLine 153 = hostLine line ∧ (Hold.s = if sole = true then Hold.x else Hold.s) ∧ Hold.x = Hold.x) ∧
    (tget (at0 hostWant).dev.shore.wants (hostLine 153) = some 1) ∧
    (tget (at0 hostWant).dev.shore.queue (hostLine 153) = none) ∧
    (∀ (f : HeldFwd), f ∈ (at0 hostWant).dev.shore.heldFwd → f.line ≠ hostLine 153) ∧
    (∀ (l : Line), lineAt (at0 hostWant).dev (hostLine 153) = some l → l.hold ≠ Hold.pending) :=
  ⟨Or.inr ⟨_, _, by decide +kernel, by decide +kernel, rfl, rfl, rfl, rfl⟩, by decide +kernel, by decide +kernel, by decide +kernel,
    by decide +kernel⟩

def w1_CoherenceAtAgent_merge : State := at0 (wantDev 37 [(farLine, pendingLine0)])

def w2_CoherenceAtAgent_merge : LineData := { data := 35071, poison := 0 : LineData }

theorem wit_CoherenceAtAgent_merge :
    ((∃ m op third, Arrives w1_CoherenceAtAgent_merge.dev m ∧ (memberOf w1_CoherenceAtAgent_merge.dev m.src).isSome = true ∧ Instr.cohGrant
      (fromHome CohOp.grant 2 (some w2_CoherenceAtAgent_merge)) = Instr.cohGrant m ∧ m.body = FabBody.coh op third (some
      w2_CoherenceAtAgent_merge) ∧ ((op = CohOp.grant ∧ farLine = peerKey m.src m.offset ∧ Hold.s = if third = 4 then Hold.f else if third = 3
      then Hold.x else Hold.s) ∨ op = CohOp.supply ∧ farLine = peerKey third m.offset ∧ Hold.s = Hold.f) ∧ Hold.d = Hold.d) ∨ ∃ line sole, serving
      w1_CoherenceAtAgent_merge.dev = true ∧ fget w1_CoherenceAtAgent_merge.dev RF.HST_STATUS_HOST_VALID = 1 ∧ Instr.cohGrant (fromHome
      CohOp.grant 2 (some w2_CoherenceAtAgent_merge)) = Instr.hostGo line sole w2_CoherenceAtAgent_merge ∧ farLine = hostLine line ∧ (Hold.s = if
      sole = true then Hold.x else Hold.s) ∧ Hold.d = Hold.x) ∧
    (tget w1_CoherenceAtAgent_merge.dev.shore.wants farLine = some 37) ∧
    (tget w1_CoherenceAtAgent_merge.dev.shore.queue farLine = none) ∧
    (∀ (f : HeldFwd), f ∈ w1_CoherenceAtAgent_merge.dev.shore.heldFwd → f.line ≠ farLine) ∧
    (lineAt w1_CoherenceAtAgent_merge.dev farLine = some pendingLine0) ∧
    (pendingLine0.hold = Hold.pending) ∧
    (37 % 4 ≠ 0) :=
  ⟨Or.inl ⟨_, _, _, arrives_of (by decide +kernel), by decide +kernel, rfl, rfl, Or.inl ⟨rfl, rfl, rfl⟩, rfl⟩, by decide +kernel, by decide +kernel,
    by decide +kernel, by decide +kernel, by decide +kernel, by decide +kernel⟩

end Sys2Proof.Tests
end

