-- ==== Sys2Proof/Tests/WitMemory.lean ====
section
/-!
SUPPORT. Premises of the statements about loads, stores, atomics, fences, the matrix engine, ferries and the memory controllers, met together by concrete
states: one theorem for each clause.
-/
namespace Sys2Proof.Tests
open Sys2Proof Sys2Proof.Machine
set_option Elab.async false

/-- What a word sees on a module. -/
def seesOn (d : Dev) (w : Word64) : Env := envAt d (issueOf w)

/-- The L1 of core 0 holds two sectors of the leaf. -/
def cached (d : Dev) : Dev :=
  withCore d { coreOf d 0 with
    l1 := [(0x200, ⟨0x1122334455667788, 0xFFFFFFFF, 0, 0, false, false, false⟩), (0x201, ⟨0x99AABBCC, 0xFFFFFFFF, 0xF, 0xF, false, false, false⟩)] }

/-- The group's instruction has come to a phase. -/
def phased (d : Dev) (p : Nat) : Dev := withCore d { coreOf d 0 with groups := tmap (coreOf d 0).groups (fun _ g => { g with phase := p }) }

/-- A step of a batch. -/
def stepDev : Dev := { ready0 with disp := [(0, { disp0 with plain := false })] }

/-- The address of each lane of a global access. -/
def vaOf (e : Env) : Nat → Nat := fun l => wrap ((srcA e.g e.w l 2 : Int) + wOffset e.w) 64

/-- The location of each lane's access. -/
def locOf (d : Dev) (e : Env) (access : Nat) : Nat → Nat := fun l => (heldLoc d e access (vaOf e l)).getD 0

/-- The place of each lane's access in the local store. -/
def slotAt (e : Env) : Nat → Nat := fun l => groupSlot e + wrap ((srcA e.g e.w l 1 : Int) + wOffset e.w) 32

/-- The address of each lane of SIN. -/
def inVaOf (e : Env) : Nat → Nat := fun l => ((slotOf e.d e.g.slot).inVa + wrap ((srcA e.g e.w l 1 : Int) + wOffset e.w) 32) % 2 ^ 64

/-- Results of an atomic have come back for the two lanes. -/
def answered (d : Dev) : Dev := withCore d { coreOf d 0 with abuf := [⟨0, 0, 7, 0⟩, ⟨0, 1, 8, 0⟩, ⟨1, 0, 9, 0⟩] }

/-- Fields at places of the local store. -/
def lsOf (l : List (Nat × Nat × Nat)) : Tbl Byte := l.flatMap (fun p => (List.range p.2.1).map (fun j => (p.1 + j, BitVec.ofNat 8 (p.2.2 / 2 ^ (8 * j)))))

/-- A matrix descriptor at offset 0 of a slot, one output row of one column from the local store to it, and its step table of one ZERO row. -/
def mxDesc : Tbl Byte :=
  lsOf [(0, 2, 32), (2, 1, 1), (3, 1, 1), (8, 4, 192), (12, 2, 1), (16, 8, 512), (32, 4, 32), (36, 4, 0), (44, 1, 0), (47, 1, 2), (56, 8, 1024), (72, 4, 32),
    (87, 1, 2), (96, 8, 2048), (112, 4, 32), (120, 4, 0x3F800000), (133, 1, 1), (192, 1, 1)]

/-- A ferry descriptor at offset 0: two rows of 8 bytes within the slot. -/
def fyDesc : Tbl Byte := lsOf [(0, 8, 256), (8, 8, 512), (16, 4, 8), (20, 2, 2), (22, 1, 3), (24, 4, 8), (28, 4, 64)]

/-- A group of which every thread runs. -/
def fullGroup : Group := { group0 with run := some ⟨64, 0xFFFFFFFF⟩, ended := 0, ur := [(0, 0)] }

/-- Every thread of the group runs, and the slot holds a descriptor. -/
def engineDev (ls : Tbl Byte) : Dev :=
  withCore ready0 { core0 with groups := [(0, fullGroup)], ls := ls }

/-- The operation that the descriptor gives. -/
def mxOp0 (k : MxKind) : MxOp :=
  match mxDescribe k (fun a n => lsRead (coreOf (engineDev mxDesc) 0) a n) 4096 0 with
  | .inr o => o
  | .inl _ => { token := 0, group := 0, set := 0, kTotal := 0, mValid := 0, nValid := 0, a := ⟨0, 0, 0, 0, 0, 0, 0, 0, 0, 0, 0, 0, []⟩,
                b := ⟨0, 0, 0, 0, 0, 0, 0, 0, 0, 0, 0, 0, []⟩, outAddr := 0, osAddr := 0, outStride := 0, osStride := 0, omul := 0, otscale := 0, odraw := 0,
                outKind := 0, ofmt := 0, oscale := 0, orm := 0, statusAddr := 0, statusKind := 0, rows := [], next := 0, outNext := 0, seed := 0, step := 0,
                seq := 0, flags := 0, code := 0, walks := [], faults := [], got := [] }

/-- The transfer that the descriptor gives. -/
def ferry0 : Ferry :=
  match ferryDescribe (fun a n => lsRead (coreOf (engineDev fyDesc) 0) a n) 4096 0 with
  | .inr f => f
  | .inl _ => { group := 0, set := 0, src := 0, dst := 0, rowBytes := 0, rows := 0, srcLs := true, dstLs := true, srcStride := 0, dstStride := 0, seq := 0,
                row := 0, off := 0, code := 0, bad := 0, walks := [], faults := [] }

/-- The operation at a row, with flags of its own. -/
def opAt (n : Nat) : MxOp := { mxOp0 .mxi with next := n, flags := 2 }

/-- The transfer at a row. -/
def ferryAt (n : Nat) : Ferry := { ferry0 with row := n }

/-- A core whose engines hold one operation and one transfer, of which `done` says whether they have ended. -/
def busyCore (done : Bool) : Core :=
  { coreOf (engineDev (fyDesc ++ [(600, 5)])) 0 with
    mxq := [opAt (if done then 1 else 0)], tokens := [(0, ⟨true, 0, 0, 64, 0, 0⟩)], handles := [(1, ⟨true, 0, 0, 64, 0, 0⟩)],
    ferries := [(1, ferryAt (if done then 2 else 1))], sb := [⟨some 0, 256, 16, false, 17, 0⟩, ⟨none, 0, 32, true, 3, 0⟩], acc := [(5, 9), (9000, 1)] }

/-- The module with that core. -/
def busyDev (done : Bool) : Dev := withCore ready0 (busyCore done)

/-- Memory holds a few bytes, a fill waits for line 0, and line 1 waits to be written. -/
def memDev : Dev :=
  (fun (d : Dev) => { d with dram := { d.dram with cells := [⟨3, 7⟩, ⟨64, 1⟩] }, shore := { d.shore with fills := [(0, ⟨none, none⟩)] },
                             mem := { d.mem with writes := [⟨1, BitVec.allOnes 64, 0xABCD, 0, 0, none⟩], wcb := [(0, [⟨256, 3, 0xBBAA, 0⟩])] } }) module0

/-- The address and location of each lane of SOUT. -/
def outVaOf (e : Env) : Nat → Nat := fun l => ((slotOf e.d e.g.slot).outVa + wrap ((srcA e.g e.w l 1 : Int) + wOffset e.w) 32) % 2 ^ 64

/-- The location of each lane's store. -/
def outLocOf (d : Dev) (e : Env) : Nat → Nat := fun l => (heldLoc d e 1 (outVaOf e l)).getD 0

/-- Regulators with values used and values that wait. -/
def regDev : Dev := { idle0 with mem := { idle0.mem with regul := [(1, ⟨3, 4, 5, none⟩), (33, ⟨3, 4, 5, some (7, 8)⟩), (34, ⟨3, 4, 5, some (7, 8)⟩)] } }

/-- The range instructions: U4 and U5 name the second sector, and the group stands in a phase. -/
def rangeDev (p : Nat) : Dev :=
  withCore ready0 { coreOf (cached ready0) 0 with groups := [(0, { group0 with ur := [(4, 0x10020)], phase := p })] }

def w1_LocalLoads : Env := seesOn ready0 (word 50 8 6 0 (2 ^ 22 + 2 ^ 21))

def w2_LocalLoads : Issue := issueOf (word 50 8 6 0 (2 ^ 22 + 2 ^ 21))

theorem wit_LocalLoads :
    (Ready (at0 ready0).dev w2_LocalLoads 50 w1_LocalLoads) ∧
    (w1_LocalLoads.part ≠ 0) ∧
    (ckCode (memCk w1_LocalLoads.w w1_LocalLoads.second w1_LocalLoads.d.shape.regs true false) = 0) ∧
    (localCk w1_LocalLoads (mWidth w1_LocalLoads.w) (localAddrs w1_LocalLoads) = 0) ∧
    (∀ (p : Nat × Nat), p ∈ localAddrs w1_LocalLoads → sbBlocks (coreOf (at0 ready0).dev w1_LocalLoads.core) (some w1_LocalLoads.g.set) p.snd
      (mWidth w1_LocalLoads.w) false = false) :=
  ⟨ready_of (by decide +kernel), by decide +kernel, by decide +kernel, by decide +kernel, by decide +kernel⟩

def w1_LocalLoads_quad : Env := seesOn ready0 (word 50 60 6 0 (4 * 2 ^ 22))

def w2_LocalLoads_quad : Issue := issueOf (word 50 60 6 0 (4 * 2 ^ 22))

theorem wit_LocalLoads_quad :
    (Ready (at0 ready0).dev w2_LocalLoads_quad 50 w1_LocalLoads_quad) ∧
    (w1_LocalLoads_quad.part ≠ 0) ∧
    (ckCode (memCk w1_LocalLoads_quad.w w1_LocalLoads_quad.second w1_LocalLoads_quad.d.shape.regs true false) = 0) ∧
    (localCk w1_LocalLoads_quad (mWidth w1_LocalLoads_quad.w) (localAddrs w1_LocalLoads_quad) = 0) ∧
    (∀ (p : Nat × Nat), p ∈ localAddrs w1_LocalLoads_quad → sbBlocks (coreOf (at0 ready0).dev w1_LocalLoads_quad.core) (some
      w1_LocalLoads_quad.g.set) p.snd (mWidth w1_LocalLoads_quad.w) false = false) :=
  ⟨ready_of (by decide +kernel), by decide +kernel, by decide +kernel, by decide +kernel, by decide +kernel⟩

def w1_LocalStores : Nat → Nat := slotAt (seesOn (phased ready0 1) (word 51 0 6 4 (2 * 2 ^ 22 + 2 * 2 ^ 19 + 2 ^ 16)))

def w2_LocalStores : Env := seesOn (phased ready0 1) (word 51 0 6 4 (2 * 2 ^ 22 + 2 * 2 ^ 19 + 2 ^ 16))

def w3_LocalStores : Issue := issueOf (word 51 0 6 4 (2 * 2 ^ 22 + 2 * 2 ^ 19 + 2 ^ 16))

theorem wit_LocalStores :
    (w1_LocalStores = fun l => groupSlot w2_LocalStores + wrap (↑(srcA w2_LocalStores.g w2_LocalStores.w l 1) + wOffset w2_LocalStores.w) 32) ∧
    (Ready (at0 (phased ready0 1)).dev w3_LocalStores 51 w2_LocalStores) ∧
    (4 = mWidth w2_LocalStores.w) ∧
    (w2_LocalStores.part ≠ 0) ∧
    (ckCode (memCk w2_LocalStores.w w2_LocalStores.second w2_LocalStores.d.shape.regs false false) = 0) ∧
    (localCk w2_LocalStores 4 (localAddrs w2_LocalStores) = 0) ∧
    (∀ (p : Nat × Nat), p ∈ localAddrs w2_LocalStores → sbBlocks (coreOf (at0 (phased ready0 1)).dev w2_LocalStores.core) (some
      w2_LocalStores.g.set) p.snd 4 true = false) ∧
    (mOrd w2_LocalStores.w = 2 → w2_LocalStores.g.phase = 1 ∧ ownStoresPending (coreOf (at0 (phased ready0 1)).dev w2_LocalStores.core)
      w2_LocalStores.gno = false) :=
  ⟨rfl, ready_of (by decide +kernel), by decide +kernel, by decide +kernel, by decide +kernel, by decide +kernel, by decide +kernel,
    by decide +kernel⟩

def w1_LocalAtomics : Nat → Nat := slotAt (seesOn ready0 (word 57 10 6 4 0))

def w2_LocalAtomics : Env := seesOn ready0 (word 57 10 6 4 0)

def w3_LocalAtomics : Issue := issueOf (word 57 10 6 4 0)

theorem wit_LocalAtomics :
    (w1_LocalAtomics = fun l => groupSlot w2_LocalAtomics + wrap (↑(srcA w2_LocalAtomics.g w2_LocalAtomics.w l 1) + wOffset w2_LocalAtomics.w) 32) ∧
    (Ready (at0 ready0).dev w3_LocalAtomics 57 w2_LocalAtomics) ∧
    (4 = if aW64 w2_LocalAtomics.w = true then 8 else 4) ∧
    (w2_LocalAtomics.part ≠ 0) ∧
    (ckCode (amoCk w2_LocalAtomics.w w2_LocalAtomics.second w2_LocalAtomics.d.shape.regs false) = 0) ∧
    (localCk w2_LocalAtomics 4 (localAddrs w2_LocalAtomics) = 0) ∧
    (∀ (p : Nat × Nat), p ∈ localAddrs w2_LocalAtomics → sbBlocks (coreOf (at0 ready0).dev w2_LocalAtomics.core) (some w2_LocalAtomics.g.set)
      p.snd 4 true = false) ∧
    (2 ≤ mOrd w2_LocalAtomics.w → w2_LocalAtomics.g.phase = 1 ∧ ownStoresPending (coreOf (at0 ready0).dev w2_LocalAtomics.core)
      w2_LocalAtomics.gno = false) ∧
    (∀ (l l' : Nat), (BitVec.toNat w2_LocalAtomics.part).testBit l = true → (BitVec.toNat w2_LocalAtomics.part).testBit l' = true → l ≠ l' →
      w1_LocalAtomics l ≠ w1_LocalAtomics l') :=
  ⟨rfl, ready_of (by decide +kernel), by decide +kernel, by decide +kernel, by decide +kernel, by decide +kernel, by decide +kernel,
    by decide +kernel, lanes2_of (by decide +kernel)⟩

def w1_GlobalLoads_acquire : Env := seesOn (cached ready0) (word 48 8 2 0 (4 * 2 ^ 22 + 2 ^ 19 + 2 ^ 16))

def w2_GlobalLoads_acquire : Issue := issueOf (word 48 8 2 0 (4 * 2 ^ 22 + 2 ^ 19 + 2 ^ 16))

theorem wit_GlobalLoads_acquire :
    (Ready (at0 (cached ready0)).dev w2_GlobalLoads_acquire 48 w1_GlobalLoads_acquire) ∧
    (w1_GlobalLoads_acquire.part ≠ 0) ∧
    (ckCode (memCk w1_GlobalLoads_acquire.w w1_GlobalLoads_acquire.second w1_GlobalLoads_acquire.d.shape.regs true true) = 0) ∧
    (mOrd w1_GlobalLoads_acquire.w = 1) ∧
    (mScope w1_GlobalLoads_acquire.w ≤ 1) ∧
    (misaligned (globalAddrs w1_GlobalLoads_acquire) (mWidth w1_GlobalLoads_acquire.w) = false) ∧
    (Reachable (at0 (cached ready0)).dev w1_GlobalLoads_acquire 0 (mWidth w1_GlobalLoads_acquire.w) false (globalAddrs w1_GlobalLoads_acquire)) ∧
    (HeldInL1 (at0 (cached ready0)).dev w1_GlobalLoads_acquire 0 (mWidth w1_GlobalLoads_acquire.w) (globalAddrs w1_GlobalLoads_acquire)) :=
  ⟨ready_of (by decide +kernel), by decide +kernel, by decide +kernel, by decide +kernel, by decide +kernel, by decide +kernel,
    reachable_of (by decide +kernel), inL1_of rfl (by decide +kernel)⟩

def w1_GlobalLoads_plain : Env := seesOn (cached ready0) (word 48 8 2 0 (2 ^ 22 + 2 ^ 21 + 30))

def w2_GlobalLoads_plain : Issue := issueOf (word 48 8 2 0 (2 ^ 22 + 2 ^ 21 + 30))

theorem wit_GlobalLoads_plain :
    (Ready (at0 (cached ready0)).dev w2_GlobalLoads_plain 48 w1_GlobalLoads_plain) ∧
    (w1_GlobalLoads_plain.part ≠ 0) ∧
    (ckCode (memCk w1_GlobalLoads_plain.w w1_GlobalLoads_plain.second w1_GlobalLoads_plain.d.shape.regs true true) = 0) ∧
    (mOrd w1_GlobalLoads_plain.w = 0) ∧
    (misaligned (globalAddrs w1_GlobalLoads_plain) (mWidth w1_GlobalLoads_plain.w) = false) ∧
    (Reachable (at0 (cached ready0)).dev w1_GlobalLoads_plain 0 (mWidth w1_GlobalLoads_plain.w) false (globalAddrs w1_GlobalLoads_plain)) ∧
    (HeldInL1 (at0 (cached ready0)).dev w1_GlobalLoads_plain 0 (mWidth w1_GlobalLoads_plain.w) (globalAddrs w1_GlobalLoads_plain)) :=
  ⟨ready_of (by decide +kernel), by decide +kernel, by decide +kernel, by decide +kernel, by decide +kernel, reachable_of (by decide +kernel),
    inL1_of rfl (by decide +kernel)⟩

def w1_GlobalLoads_sin : Nat → Nat := inVaOf (seesOn (cached stepDev) (word 105 8 6 0 (3 * 2 ^ 22)))

def w2_GlobalLoads_sin : Env := seesOn (cached stepDev) (word 105 8 6 0 (3 * 2 ^ 22))

def w3_GlobalLoads_sin : Issue := issueOf (word 105 8 6 0 (3 * 2 ^ 22))

theorem wit_GlobalLoads_sin :
    (w1_GlobalLoads_sin = fun l => ((slotOf w2_GlobalLoads_sin.d w2_GlobalLoads_sin.g.slot).inVa + wrap (↑(srcA w2_GlobalLoads_sin.g
      w2_GlobalLoads_sin.w l 1) + wOffset w2_GlobalLoads_sin.w) 32) % 2 ^ 64) ∧
    (Ready (at0 (cached stepDev)).dev w3_GlobalLoads_sin 105 w2_GlobalLoads_sin) ∧
    (w2_GlobalLoads_sin.part ≠ 0) ∧
    (ckCode (frameCk w2_GlobalLoads_sin.w w2_GlobalLoads_sin.second w2_GlobalLoads_sin.d.shape.regs true) = 0) ∧
    (w2_GlobalLoads_sin.d.plain = false) ∧
    (∀ (l : Nat), (BitVec.toNat w2_GlobalLoads_sin.part).testBit l = true → wrap (↑(srcA w2_GlobalLoads_sin.g w2_GlobalLoads_sin.w l 1) + wOffset
      w2_GlobalLoads_sin.w) 32 + mWidth w2_GlobalLoads_sin.w ≤ (slotOf w2_GlobalLoads_sin.d w2_GlobalLoads_sin.g.slot).inLen) ∧
    (misaligned (List.map (fun l => (l, w1_GlobalLoads_sin l)) (lanesOf w2_GlobalLoads_sin.part)) (mWidth w2_GlobalLoads_sin.w) = false) ∧
    (Reachable (at0 (cached stepDev)).dev w2_GlobalLoads_sin 0 (mWidth w2_GlobalLoads_sin.w) false (List.map (fun l => (l, w1_GlobalLoads_sin l))
      (lanesOf w2_GlobalLoads_sin.part))) ∧
    (HeldInL1 (at0 (cached stepDev)).dev w2_GlobalLoads_sin 0 (mWidth w2_GlobalLoads_sin.w) (List.map (fun l => (l, w1_GlobalLoads_sin l))
      (lanesOf w2_GlobalLoads_sin.part))) :=
  ⟨rfl, ready_of (by decide +kernel), by decide +kernel, by decide +kernel, by decide +kernel, lanes_of (by decide +kernel), by decide +kernel,
    reachable_of (by decide +kernel), inL1_of rfl (by decide +kernel)⟩

def w1_GlobalStores_wrg : List (Nat × Nat) := List.map (fun l => (l, vaOf (seesOn (cached ready0) (word 49 0 2 4 (2 * 2 ^ 22 + 28))) l)) (lanesOf
  (seesOn (cached ready0) (word 49 0 2 4 (2 * 2 ^ 22 + 28))).part)

def w2_GlobalStores_wrg : Nat → Nat := locOf (cached ready0) (seesOn (cached ready0) (word 49 0 2 4 (2 * 2 ^ 22 + 28))) 1

def w3_GlobalStores_wrg : Nat → Nat := vaOf (seesOn (cached ready0) (word 49 0 2 4 (2 * 2 ^ 22 + 28)))

def w4_GlobalStores_wrg : Env := seesOn (cached ready0) (word 49 0 2 4 (2 * 2 ^ 22 + 28))

def w5_GlobalStores_wrg : Instr := Instr.wrg (issueOf (word 49 0 2 4 (2 * 2 ^ 22 + 28)))

def w6_GlobalStores_wrg : Issue := issueOf (word 49 0 2 4 (2 * 2 ^ 22 + 28))

theorem wit_GlobalStores_wrg :
    (4 = mWidth w4_GlobalStores_wrg.w) ∧
    (w1_GlobalStores_wrg = w1_GlobalStores_wrg) ∧
    (∀ (l : Nat), w2_GlobalStores_wrg l = (heldLoc (at0 (cached ready0)).dev w4_GlobalStores_wrg 1 (w3_GlobalStores_wrg l)).getD 0) ∧
    (misaligned w1_GlobalStores_wrg 4 = false) ∧
    (Reachable (at0 (cached ready0)).dev w4_GlobalStores_wrg 1 4 true w1_GlobalStores_wrg) ∧
    (∀ (l : Nat), (BitVec.toNat w4_GlobalStores_wrg.part).testBit l = true → w2_GlobalStores_wrg l % 32 + 4 ≤ 32) ∧
    (w5_GlobalStores_wrg = w5_GlobalStores_wrg ∧ Ready (at0 (cached ready0)).dev w6_GlobalStores_wrg 49 w4_GlobalStores_wrg ∧ ckCode (memCk
      w4_GlobalStores_wrg.w w4_GlobalStores_wrg.second w4_GlobalStores_wrg.d.shape.regs false true) = 0 ∧ (w3_GlobalStores_wrg = fun l => wrap
      (↑(srcA w4_GlobalStores_wrg.g w4_GlobalStores_wrg.w l 2) + wOffset w4_GlobalStores_wrg.w) 64) ∧ (mOrd w4_GlobalStores_wrg.w = 0 ∧ mHint
      w4_GlobalStores_wrg.w ≠ 2 ∨ mOrd w4_GlobalStores_wrg.w = 2 ∧ mScope w4_GlobalStores_wrg.w ≤ 1 ∧ w4_GlobalStores_wrg.g.phase = 1 ∧
      ownStoresPending (coreOf (at0 (cached ready0)).dev w4_GlobalStores_wrg.core) w4_GlobalStores_wrg.gno = false) ∨ w5_GlobalStores_wrg =
      Instr.sout w6_GlobalStores_wrg ∧ Ready (at0 (cached ready0)).dev w6_GlobalStores_wrg 106 w4_GlobalStores_wrg ∧ ckCode (frameCk
      w4_GlobalStores_wrg.w w4_GlobalStores_wrg.second w4_GlobalStores_wrg.d.shape.regs false) = 0 ∧ w4_GlobalStores_wrg.d.plain = false ∧
      (w3_GlobalStores_wrg = fun l => ((slotOf w4_GlobalStores_wrg.d w4_GlobalStores_wrg.g.slot).outVa + wrap (↑(srcA w4_GlobalStores_wrg.g
      w4_GlobalStores_wrg.w l 1) + wOffset w4_GlobalStores_wrg.w) 32) % 2 ^ 64) ∧ ∀ (l : Nat), (BitVec.toNat w4_GlobalStores_wrg.part).testBit l =
      true → wrap (↑(srcA w4_GlobalStores_wrg.g w4_GlobalStores_wrg.w l 1) + wOffset w4_GlobalStores_wrg.w) 32 + mWidth w4_GlobalStores_wrg.w ≤
      (slotOf w4_GlobalStores_wrg.d w4_GlobalStores_wrg.g.slot).outLen) ∧
    (w4_GlobalStores_wrg.part ≠ 0) ∧
    (List.length (coreOf (at0 (cached ready0)).dev w4_GlobalStores_wrg.core).l1 + 32 ≤ l1Capacity (coreOf (at0 (cached ready0)).dev
      w4_GlobalStores_wrg.core)) :=
  ⟨by decide +kernel, by decide +kernel, fun _ => rfl, by decide +kernel, reachable_of (by decide +kernel), lanes_of (by decide +kernel),
    Or.inl ⟨rfl, ready_of (by decide +kernel), by decide +kernel, rfl, by decide +kernel⟩, by decide +kernel, by decide +kernel⟩

def w1_GlobalStores_release : List (Nat × Nat) := List.map (fun l => (l, vaOf (seesOn (phased ready0 1) (word 49 0 2 4 (4 * 2 ^ 22 + 2 * 2 ^ 19 +
  2 ^ 16))) l)) (lanesOf (seesOn (phased ready0 1) (word 49 0 2 4 (4 * 2 ^ 22 + 2 * 2 ^ 19 + 2 ^ 16))).part)

def w2_GlobalStores_release : Nat → Nat := locOf (phased ready0 1) (seesOn (phased ready0 1) (word 49 0 2 4 (4 * 2 ^ 22 + 2 * 2 ^ 19 + 2 ^ 16))) 1

def w3_GlobalStores_release : Nat → Nat := vaOf (seesOn (phased ready0 1) (word 49 0 2 4 (4 * 2 ^ 22 + 2 * 2 ^ 19 + 2 ^ 16)))

def w4_GlobalStores_release : Env := seesOn (phased ready0 1) (word 49 0 2 4 (4 * 2 ^ 22 + 2 * 2 ^ 19 + 2 ^ 16))

def w5_GlobalStores_release : Instr := Instr.wrg (issueOf (word 49 0 2 4 (4 * 2 ^ 22 + 2 * 2 ^ 19 + 2 ^ 16)))

def w6_GlobalStores_release : Issue := issueOf (word 49 0 2 4 (4 * 2 ^ 22 + 2 * 2 ^ 19 + 2 ^ 16))

theorem wit_GlobalStores_release :
    (16 = mWidth w4_GlobalStores_release.w) ∧
    (w1_GlobalStores_release = w1_GlobalStores_release) ∧
    (∀ (l : Nat), w2_GlobalStores_release l = (heldLoc (at0 (phased ready0 1)).dev w4_GlobalStores_release 1 (w3_GlobalStores_release l)).getD 0) ∧
    (misaligned w1_GlobalStores_release 16 = false) ∧
    (Reachable (at0 (phased ready0 1)).dev w4_GlobalStores_release 1 16 true w1_GlobalStores_release) ∧
    (∀ (l : Nat), (BitVec.toNat w4_GlobalStores_release.part).testBit l = true → w2_GlobalStores_release l % 32 + 16 ≤ 32) ∧
    (w5_GlobalStores_release = w5_GlobalStores_release ∧ Ready (at0 (phased ready0 1)).dev w6_GlobalStores_release 49 w4_GlobalStores_release ∧
      ckCode (memCk w4_GlobalStores_release.w w4_GlobalStores_release.second w4_GlobalStores_release.d.shape.regs false true) = 0 ∧
      (w3_GlobalStores_release = fun l => wrap (↑(srcA w4_GlobalStores_release.g w4_GlobalStores_release.w l 2) + wOffset
      w4_GlobalStores_release.w) 64) ∧ (mOrd w4_GlobalStores_release.w = 0 ∧ mHint w4_GlobalStores_release.w ≠ 2 ∨ mOrd w4_GlobalStores_release.w
      = 2 ∧ mScope w4_GlobalStores_release.w ≤ 1 ∧ w4_GlobalStores_release.g.phase = 1 ∧ ownStoresPending (coreOf (at0 (phased ready0 1)).dev
      w4_GlobalStores_release.core) w4_GlobalStores_release.gno = false) ∨ w5_GlobalStores_release = Instr.sout w6_GlobalStores_release ∧ Ready
      (at0 (phased ready0 1)).dev w6_GlobalStores_release 106 w4_GlobalStores_release ∧ ckCode (frameCk w4_GlobalStores_release.w
      w4_GlobalStores_release.second w4_GlobalStores_release.d.shape.regs false) = 0 ∧ w4_GlobalStores_release.d.plain = false ∧
      (w3_GlobalStores_release = fun l => ((slotOf w4_GlobalStores_release.d w4_GlobalStores_release.g.slot).outVa + wrap (↑(srcA
      w4_GlobalStores_release.g w4_GlobalStores_release.w l 1) + wOffset w4_GlobalStores_release.w) 32) % 2 ^ 64) ∧ ∀ (l : Nat), (BitVec.toNat
      w4_GlobalStores_release.part).testBit l = true → wrap (↑(srcA w4_GlobalStores_release.g w4_GlobalStores_release.w l 1) + wOffset
      w4_GlobalStores_release.w) 32 + mWidth w4_GlobalStores_release.w ≤ (slotOf w4_GlobalStores_release.d w4_GlobalStores_release.g.slot).outLen) ∧
    (w4_GlobalStores_release.part ≠ 0) ∧
    (List.length (coreOf (at0 (phased ready0 1)).dev w4_GlobalStores_release.core).l1 + 32 ≤ l1Capacity (coreOf (at0 (phased ready0 1)).dev
      w4_GlobalStores_release.core)) :=
  ⟨by decide +kernel, by decide +kernel, fun _ => rfl, by decide +kernel, reachable_of (by decide +kernel), lanes_of (by decide +kernel),
    Or.inl ⟨rfl, ready_of (by decide +kernel), by decide +kernel, rfl, by decide +kernel⟩, by decide +kernel, by decide +kernel⟩

def w1_GlobalStores_sout : List (Nat × Nat) := List.map (fun l => (l, outVaOf (seesOn stepDev (word 106 0 6 4 (3 * 2 ^ 22))) l)) (lanesOf (seesOn
  stepDev (word 106 0 6 4 (3 * 2 ^ 22))).part)

def w2_GlobalStores_sout : Nat → Nat := outLocOf stepDev (seesOn stepDev (word 106 0 6 4 (3 * 2 ^ 22)))

def w3_GlobalStores_sout : Nat → Nat := outVaOf (seesOn stepDev (word 106 0 6 4 (3 * 2 ^ 22)))

def w4_GlobalStores_sout : Instr := Instr.sout (issueOf (word 106 0 6 4 (3 * 2 ^ 22)))

def w5_GlobalStores_sout : Env := seesOn stepDev (word 106 0 6 4 (3 * 2 ^ 22))

def w6_GlobalStores_sout : Issue := issueOf (word 106 0 6 4 (3 * 2 ^ 22))

theorem wit_GlobalStores_sout :
    (8 = mWidth w5_GlobalStores_sout.w) ∧
    (w1_GlobalStores_sout = w1_GlobalStores_sout) ∧
    (∀ (l : Nat), w2_GlobalStores_sout l = (heldLoc (at0 stepDev).dev w5_GlobalStores_sout 1 (w3_GlobalStores_sout l)).getD 0) ∧
    (misaligned w1_GlobalStores_sout 8 = false) ∧
    (Reachable (at0 stepDev).dev w5_GlobalStores_sout 1 8 true w1_GlobalStores_sout) ∧
    (∀ (l : Nat), (BitVec.toNat w5_GlobalStores_sout.part).testBit l = true → w2_GlobalStores_sout l % 32 + 8 ≤ 32) ∧
    (w4_GlobalStores_sout = Instr.wrg w6_GlobalStores_sout ∧ Ready (at0 stepDev).dev w6_GlobalStores_sout 49 w5_GlobalStores_sout ∧ ckCode (memCk
      w5_GlobalStores_sout.w w5_GlobalStores_sout.second w5_GlobalStores_sout.d.shape.regs false true) = 0 ∧ (w3_GlobalStores_sout = fun l => wrap
      (↑(srcA w5_GlobalStores_sout.g w5_GlobalStores_sout.w l 2) + wOffset w5_GlobalStores_sout.w) 64) ∧ (mOrd w5_GlobalStores_sout.w = 0 ∧ mHint
      w5_GlobalStores_sout.w ≠ 2 ∨ mOrd w5_GlobalStores_sout.w = 2 ∧ mScope w5_GlobalStores_sout.w ≤ 1 ∧ w5_GlobalStores_sout.g.phase = 1 ∧
      ownStoresPending (coreOf (at0 stepDev).dev w5_GlobalStores_sout.core) w5_GlobalStores_sout.gno = false) ∨ w4_GlobalStores_sout =
      w4_GlobalStores_sout ∧ Ready (at0 stepDev).dev w6_GlobalStores_sout 106 w5_GlobalStores_sout ∧ ckCode (frameCk w5_GlobalStores_sout.w
      w5_GlobalStores_sout.second w5_GlobalStores_sout.d.shape.regs false) = 0 ∧ w5_GlobalStores_sout.d.plain = false ∧ (w3_GlobalStores_sout =
      fun l => ((slotOf w5_GlobalStores_sout.d w5_GlobalStores_sout.g.slot).outVa + wrap (↑(srcA w5_GlobalStores_sout.g w5_GlobalStores_sout.w l
      1) + wOffset w5_GlobalStores_sout.w) 32) % 2 ^ 64) ∧ ∀ (l : Nat), (BitVec.toNat w5_GlobalStores_sout.part).testBit l = true → wrap (↑(srcA
      w5_GlobalStores_sout.g w5_GlobalStores_sout.w l 1) + wOffset w5_GlobalStores_sout.w) 32 + mWidth w5_GlobalStores_sout.w ≤ (slotOf
      w5_GlobalStores_sout.d w5_GlobalStores_sout.g.slot).outLen) ∧
    (w5_GlobalStores_sout.part ≠ 0) ∧
    (List.length (coreOf (at0 stepDev).dev w5_GlobalStores_sout.core).l1 + 32 ≤ l1Capacity (coreOf (at0 stepDev).dev w5_GlobalStores_sout.core)) :=
  ⟨by decide +kernel, by decide +kernel, fun _ => rfl, by decide +kernel, reachable_of (by decide +kernel), lanes_of (by decide +kernel),
    Or.inr ⟨rfl, ready_of (by decide +kernel), by decide +kernel, by decide +kernel, rfl, lanes_of (by decide +kernel)⟩, by decide +kernel,
    by decide +kernel⟩

def w1_StoresPastTheL1_hint : Nat → Nat := locOf ready0 (seesOn ready0 (word 49 0 2 4 (2 * 2 ^ 14))) 1

def w2_StoresPastTheL1_hint : Nat → Nat := vaOf (seesOn ready0 (word 49 0 2 4 (2 * 2 ^ 14)))

def w3_StoresPastTheL1_hint : Env := seesOn ready0 (word 49 0 2 4 (2 * 2 ^ 14))

def w4_StoresPastTheL1_hint : Issue := issueOf (word 49 0 2 4 (2 * 2 ^ 14))

theorem wit_StoresPastTheL1_hint :
    (1 = mWidth w3_StoresPastTheL1_hint.w) ∧
    (w2_StoresPastTheL1_hint = fun l => wrap (↑(srcA w3_StoresPastTheL1_hint.g w3_StoresPastTheL1_hint.w l 2) + wOffset w3_StoresPastTheL1_hint.w)
      64) ∧
    (∀ (l : Nat), w1_StoresPastTheL1_hint l = (heldLoc (at0 ready0).dev w3_StoresPastTheL1_hint 1 (w2_StoresPastTheL1_hint l)).getD 0) ∧
    (Ready (at0 ready0).dev w4_StoresPastTheL1_hint 49 w3_StoresPastTheL1_hint) ∧
    (w3_StoresPastTheL1_hint.part ≠ 0) ∧
    (ckCode (memCk w3_StoresPastTheL1_hint.w w3_StoresPastTheL1_hint.second w3_StoresPastTheL1_hint.d.shape.regs false true) = 0) ∧
    (misaligned (globalAddrs w3_StoresPastTheL1_hint) 1 = false) ∧
    (Reachable (at0 ready0).dev w3_StoresPastTheL1_hint 1 1 true (globalAddrs w3_StoresPastTheL1_hint)) ∧
    (mOrd w3_StoresPastTheL1_hint.w = 0 ∧ mHint w3_StoresPastTheL1_hint.w = 2 ∨ mOrd w3_StoresPastTheL1_hint.w = 2 ∧ 2 ≤ mScope
      w3_StoresPastTheL1_hint.w ∧ w3_StoresPastTheL1_hint.g.phase = 1 ∧ releaseReady (at0 ready0).dev w3_StoresPastTheL1_hint.core
      w3_StoresPastTheL1_hint.gno w3_StoresPastTheL1_hint.g.relSeq (mScope w3_StoresPastTheL1_hint.w) = true) ∧
    (∀ (l : Nat), (BitVec.toNat w3_StoresPastTheL1_hint.part).testBit l = true → l1Holds (coreOf (at0 ready0).dev w3_StoresPastTheL1_hint.core)
      (w1_StoresPastTheL1_hint l / 32) = false) :=
  ⟨by decide +kernel, rfl, fun _ => rfl, ready_of (by decide +kernel), by decide +kernel, by decide +kernel, by decide +kernel,
    reachable_of (by decide +kernel), by decide +kernel, lanes_of (by decide +kernel)⟩

def w1_StoresPastTheL1_release : Nat → Nat := locOf (phased ready0 1) (seesOn (phased ready0 1) (word 49 0 2 4 (2 * 2 ^ 19 + 5 * 2 ^ 16))) 1

def w2_StoresPastTheL1_release : Nat → Nat := vaOf (seesOn (phased ready0 1) (word 49 0 2 4 (2 * 2 ^ 19 + 5 * 2 ^ 16)))

def w3_StoresPastTheL1_release : Env := seesOn (phased ready0 1) (word 49 0 2 4 (2 * 2 ^ 19 + 5 * 2 ^ 16))

def w4_StoresPastTheL1_release : Issue := issueOf (word 49 0 2 4 (2 * 2 ^ 19 + 5 * 2 ^ 16))

theorem wit_StoresPastTheL1_release :
    (1 = mWidth w3_StoresPastTheL1_release.w) ∧
    (w2_StoresPastTheL1_release = fun l => wrap (↑(srcA w3_StoresPastTheL1_release.g w3_StoresPastTheL1_release.w l 2) + wOffset
      w3_StoresPastTheL1_release.w) 64) ∧
    (∀ (l : Nat), w1_StoresPastTheL1_release l = (heldLoc (at0 (phased ready0 1)).dev w3_StoresPastTheL1_release 1 (w2_StoresPastTheL1_release
      l)).getD 0) ∧
    (Ready (at0 (phased ready0 1)).dev w4_StoresPastTheL1_release 49 w3_StoresPastTheL1_release) ∧
    (w3_StoresPastTheL1_release.part ≠ 0) ∧
    (ckCode (memCk w3_StoresPastTheL1_release.w w3_StoresPastTheL1_release.second w3_StoresPastTheL1_release.d.shape.regs false true) = 0) ∧
    (misaligned (globalAddrs w3_StoresPastTheL1_release) 1 = false) ∧
    (Reachable (at0 (phased ready0 1)).dev w3_StoresPastTheL1_release 1 1 true (globalAddrs w3_StoresPastTheL1_release)) ∧
    (mOrd w3_StoresPastTheL1_release.w = 0 ∧ mHint w3_StoresPastTheL1_release.w = 2 ∨ mOrd w3_StoresPastTheL1_release.w = 2 ∧ 2 ≤ mScope
      w3_StoresPastTheL1_release.w ∧ w3_StoresPastTheL1_release.g.phase = 1 ∧ releaseReady (at0 (phased ready0 1)).dev
      w3_StoresPastTheL1_release.core w3_StoresPastTheL1_release.gno w3_StoresPastTheL1_release.g.relSeq (mScope w3_StoresPastTheL1_release.w) =
      true) ∧
    (∀ (l : Nat), (BitVec.toNat w3_StoresPastTheL1_release.part).testBit l = true → l1Holds (coreOf (at0 (phased ready0 1)).dev
      w3_StoresPastTheL1_release.core) (w1_StoresPastTheL1_release l / 32) = false) :=
  ⟨by decide +kernel, rfl, fun _ => rfl, ready_of (by decide +kernel), by decide +kernel, by decide +kernel, by decide +kernel,
    reachable_of (by decide +kernel), by decide +kernel, lanes_of (by decide +kernel)⟩

def w1_GlobalAtomics_back : Env := seesOn (phased (answered (cached ready0)) 2) (word 56 10 2 4 (3 * 2 ^ 19 + 2 * 2 ^ 16))

def w2_GlobalAtomics_back : Issue := issueOf (word 56 10 2 4 (3 * 2 ^ 19 + 2 * 2 ^ 16))

def w3_GlobalAtomics_back : State := at0 (phased (answered (cached ready0)) 2)

theorem wit_GlobalAtomics_back :
    (Ready w3_GlobalAtomics_back.dev w2_GlobalAtomics_back 56 w1_GlobalAtomics_back) ∧
    (w1_GlobalAtomics_back.part ≠ 0) ∧
    (ckCode (amoCk w1_GlobalAtomics_back.w w1_GlobalAtomics_back.second w1_GlobalAtomics_back.d.shape.regs true) = 0) ∧
    (misaligned (globalAddrs w1_GlobalAtomics_back) (if aW64 w1_GlobalAtomics_back.w = true then 8 else 4) = false) ∧
    (Reachable w3_GlobalAtomics_back.dev w1_GlobalAtomics_back 2 (if aW64 w1_GlobalAtomics_back.w = true then 8 else 4) true (globalAddrs
      w1_GlobalAtomics_back)) ∧
    (1 < w1_GlobalAtomics_back.g.phase) ∧
    (List.filter (fun r => r.group == w1_GlobalAtomics_back.gno) (coreOf w3_GlobalAtomics_back.dev w1_GlobalAtomics_back.core).abuf = List.map
      (fun l => { group := w1_GlobalAtomics_back.gno, lane := l, value := (fun l => 7 + l) l, code := 0 : AmoResult }) (lanesOf
      w1_GlobalAtomics_back.part)) :=
  ⟨ready_of (by decide +kernel), by decide +kernel, by decide +kernel, by decide +kernel, reachable_of (by decide +kernel), by decide +kernel,
    by decide +kernel⟩

def w1_GlobalAtomics_back_group : Env := seesOn (phased (answered ready0) 2) (word 56 0 2 4 (2 ^ 14))

def w2_GlobalAtomics_back_group : State := at0 (phased (answered ready0) 2)

def w3_GlobalAtomics_back_group : Issue := issueOf (word 56 0 2 4 (2 ^ 14))

theorem wit_GlobalAtomics_back_group :
    (Ready w2_GlobalAtomics_back_group.dev w3_GlobalAtomics_back_group 56 w1_GlobalAtomics_back_group) ∧
    (w1_GlobalAtomics_back_group.part ≠ 0) ∧
    (ckCode (amoCk w1_GlobalAtomics_back_group.w w1_GlobalAtomics_back_group.second w1_GlobalAtomics_back_group.d.shape.regs true) = 0) ∧
    (misaligned (globalAddrs w1_GlobalAtomics_back_group) (if aW64 w1_GlobalAtomics_back_group.w = true then 8 else 4) = false) ∧
    (Reachable w2_GlobalAtomics_back_group.dev w1_GlobalAtomics_back_group 2 (if aW64 w1_GlobalAtomics_back_group.w = true then 8 else 4) true
      (globalAddrs w1_GlobalAtomics_back_group)) ∧
    (1 < w1_GlobalAtomics_back_group.g.phase) ∧
    (List.filter (fun r => r.group == w1_GlobalAtomics_back_group.gno) (coreOf w2_GlobalAtomics_back_group.dev
      w1_GlobalAtomics_back_group.core).abuf = List.map (fun l => { group := w1_GlobalAtomics_back_group.gno, lane := l, value := (fun l => 7 + l) l, code := 0 : AmoResult })
      (lanesOf w1_GlobalAtomics_back_group.part)) :=
  ⟨ready_of (by decide +kernel), by decide +kernel, by decide +kernel, by decide +kernel, reachable_of (by decide +kernel), by decide +kernel,
    by decide +kernel⟩

def w1_GlobalAtomics_send : Env := seesOn ready0 (guarded 56 10 2 4 (2 ^ 15) 1)

def w2_GlobalAtomics_send : Issue := issueOf (guarded 56 10 2 4 (2 ^ 15) 1)

theorem wit_GlobalAtomics_send :
    (Ready (at0 ready0).dev w2_GlobalAtomics_send 56 w1_GlobalAtomics_send) ∧
    (w1_GlobalAtomics_send.part ≠ 0) ∧
    (ckCode (amoCk w1_GlobalAtomics_send.w w1_GlobalAtomics_send.second w1_GlobalAtomics_send.d.shape.regs true) = 0) ∧
    (misaligned (globalAddrs w1_GlobalAtomics_send) (if aW64 w1_GlobalAtomics_send.w = true then 8 else 4) = false) ∧
    (Reachable (at0 ready0).dev w1_GlobalAtomics_send 2 (if aW64 w1_GlobalAtomics_send.w = true then 8 else 4) true (globalAddrs
      w1_GlobalAtomics_send)) ∧
    (mOrd w1_GlobalAtomics_send.w ≤ 1 ∧ w1_GlobalAtomics_send.g.phase = 0 ∨ 2 ≤ mOrd w1_GlobalAtomics_send.w ∧ w1_GlobalAtomics_send.g.phase = 1 ∧
      releaseReady (at0 ready0).dev w1_GlobalAtomics_send.core w1_GlobalAtomics_send.gno w1_GlobalAtomics_send.g.relSeq (mScope
      w1_GlobalAtomics_send.w) = true) ∧
    ((at0 ready0).dev.net = []) ∧
    (∀ (l : Nat), (BitVec.toNat w1_GlobalAtomics_send.part).testBit l = true → Option.map (fun x => x / 32) (heldLoc (at0 ready0).dev
      w1_GlobalAtomics_send 2 (wrap (↑(srcA w1_GlobalAtomics_send.g w1_GlobalAtomics_send.w l 2) + wOffset w1_GlobalAtomics_send.w) 64)) = some
      512) :=
  ⟨ready_of (by decide +kernel), by decide +kernel, by decide +kernel, by decide +kernel, reachable_of (by decide +kernel), by decide +kernel,
    by decide +kernel, lanes_of (by decide +kernel)⟩

def w1_GlobalAtomics_send_release : Env := seesOn (phased ready0 1) (guarded 56 10 2 4 (2 * 2 ^ 19 + 5 * 2 ^ 16) 1)

def w2_GlobalAtomics_send_release : Issue := issueOf (guarded 56 10 2 4 (2 * 2 ^ 19 + 5 * 2 ^ 16) 1)

theorem wit_GlobalAtomics_send_release :
    (Ready (at0 (phased ready0 1)).dev w2_GlobalAtomics_send_release 56 w1_GlobalAtomics_send_release) ∧
    (w1_GlobalAtomics_send_release.part ≠ 0) ∧
    (ckCode (amoCk w1_GlobalAtomics_send_release.w w1_GlobalAtomics_send_release.second w1_GlobalAtomics_send_release.d.shape.regs true) = 0) ∧
    (misaligned (globalAddrs w1_GlobalAtomics_send_release) (if aW64 w1_GlobalAtomics_send_release.w = true then 8 else 4) = false) ∧
    (Reachable (at0 (phased ready0 1)).dev w1_GlobalAtomics_send_release 2 (if aW64 w1_GlobalAtomics_send_release.w = true then 8 else 4) true
      (globalAddrs w1_GlobalAtomics_send_release)) ∧
    (mOrd w1_GlobalAtomics_send_release.w ≤ 1 ∧ w1_GlobalAtomics_send_release.g.phase = 0 ∨ 2 ≤ mOrd w1_GlobalAtomics_send_release.w ∧
      w1_GlobalAtomics_send_release.g.phase = 1 ∧ releaseReady (at0 (phased ready0 1)).dev w1_GlobalAtomics_send_release.core
      w1_GlobalAtomics_send_release.gno w1_GlobalAtomics_send_release.g.relSeq (mScope w1_GlobalAtomics_send_release.w) = true) ∧
    ((at0 (phased ready0 1)).dev.net = []) ∧
    (∀ (l : Nat), (BitVec.toNat w1_GlobalAtomics_send_release.part).testBit l = true → Option.map (fun x => x / 32) (heldLoc (at0 (phased ready0
      1)).dev w1_GlobalAtomics_send_release 2 (wrap (↑(srcA w1_GlobalAtomics_send_release.g w1_GlobalAtomics_send_release.w l 2) + wOffset
      w1_GlobalAtomics_send_release.w) 64)) = some 512) :=
  ⟨ready_of (by decide +kernel), by decide +kernel, by decide +kernel, by decide +kernel, reachable_of (by decide +kernel), by decide +kernel,
    by decide +kernel, lanes_of (by decide +kernel)⟩

def w1_FencesAndRanges_fence : Env := seesOn (phased (cached ready0) 1) (word 63 0 0 0 (3 * 2 ^ 19 + 5 * 2 ^ 16))

def w2_FencesAndRanges_fence : Issue := issueOf (word 63 0 0 0 (3 * 2 ^ 19 + 5 * 2 ^ 16))

def w3_FencesAndRanges_fence : State := at0 (phased (cached ready0) 1)

theorem wit_FencesAndRanges_fence :
    (Ready w3_FencesAndRanges_fence.dev w2_FencesAndRanges_fence 63 w1_FencesAndRanges_fence) ∧
    (w1_FencesAndRanges_fence.part ≠ 0) ∧
    (ckCode (ckAll [selCk w1_FencesAndRanges_fence.w, modCk w1_FencesAndRanges_fence.w 2031616, rsvIf (mOrd w1_FencesAndRanges_fence.w == 0 ||
      decide (mScope w1_FencesAndRanges_fence.w ≥ 6)), noA w1_FencesAndRanges_fence.w, noB w1_FencesAndRanges_fence.w, noD
      w1_FencesAndRanges_fence.w]) = 0) ∧
    (2 ≤ mOrd w1_FencesAndRanges_fence.w → w1_FencesAndRanges_fence.g.phase = 1 ∧ releaseReady w3_FencesAndRanges_fence.dev
      w1_FencesAndRanges_fence.core w1_FencesAndRanges_fence.gno w1_FencesAndRanges_fence.g.relSeq (mScope w1_FencesAndRanges_fence.w) = true) :=
  ⟨ready_of (by decide +kernel), by decide +kernel, by decide +kernel, by decide +kernel⟩

def w1_FencesAndRanges_group : Env := seesOn (phased (cached ready0) 1) (word 63 0 0 0 (2 * 2 ^ 19))

def w2_FencesAndRanges_group : Issue := issueOf (word 63 0 0 0 (2 * 2 ^ 19))

theorem wit_FencesAndRanges_group :
    (Ready w3_FencesAndRanges_fence.dev w2_FencesAndRanges_group 63 w1_FencesAndRanges_group) ∧
    (w1_FencesAndRanges_group.part ≠ 0) ∧
    (ckCode (ckAll [selCk w1_FencesAndRanges_group.w, modCk w1_FencesAndRanges_group.w 2031616, rsvIf (mOrd w1_FencesAndRanges_group.w == 0 ||
      decide (mScope w1_FencesAndRanges_group.w ≥ 6)), noA w1_FencesAndRanges_group.w, noB w1_FencesAndRanges_group.w, noD
      w1_FencesAndRanges_group.w]) = 0) ∧
    (2 ≤ mOrd w1_FencesAndRanges_group.w → w1_FencesAndRanges_group.g.phase = 1 ∧ releaseReady w3_FencesAndRanges_fence.dev
      w1_FencesAndRanges_group.core w1_FencesAndRanges_group.gno w1_FencesAndRanges_group.g.relSeq (mScope w1_FencesAndRanges_group.w) = true) :=
  ⟨ready_of (by decide +kernel), by decide +kernel, by decide +kernel, by decide +kernel⟩

def w1_MatrixIssue_mxi : Env := seesOn (engineDev mxDesc) (word 88 15 0 0 (2 ^ 25))

def w2_MatrixIssue_mxi : Instr := Instr.mxi (issueOf (word 88 15 0 0 (2 ^ 25)))

def w3_MatrixIssue_mxi : Issue := issueOf (word 88 15 0 0 (2 ^ 25))

theorem wit_MatrixIssue_mxi :
    ((w2_MatrixIssue_mxi, 88, MxKind.mxi) ∈ [(w2_MatrixIssue_mxi, 88, MxKind.mxi), (Instr.mxz w3_MatrixIssue_mxi, 91, MxKind.mxz), (Instr.mxst
      w3_MatrixIssue_mxi, 92, MxKind.mxst)]) ∧
    (Ready (at0 (engineDev mxDesc)).dev w3_MatrixIssue_mxi 88 w1_MatrixIssue_mxi) ∧
    (ckCode (descCk w1_MatrixIssue_mxi.w w1_MatrixIssue_mxi.second) = 0) ∧
    (w1_MatrixIssue_mxi.part = 4294967295) ∧
    (w1_MatrixIssue_mxi.c.mxHold = none) ∧
    (tget w1_MatrixIssue_mxi.c.tokens (wDst w1_MatrixIssue_mxi.w) = none) ∧
    (w1_MatrixIssue_mxi.c.sb = []) ∧
    (w1_MatrixIssue_mxi.c.sbWait = []) ∧
    (mxDescribe MxKind.mxi (fun a n => lsRead w1_MatrixIssue_mxi.c (slotBase w1_MatrixIssue_mxi.c w1_MatrixIssue_mxi.d.shape
      w1_MatrixIssue_mxi.g.set + a) n) w1_MatrixIssue_mxi.d.shape.lsPerSet (descOffset w1_MatrixIssue_mxi) = Sum.inr (mxOp0 MxKind.mxi)) ∧
    ((mxOp0 MxKind.mxi).a.kind ≠ 2) ∧
    ((mxOp0 MxKind.mxi).b.kind ≠ 2) ∧
    (spansClash (mxSpans (mxOp0 MxKind.mxi)) = false) :=
  ⟨by decide +kernel, ready_of (by decide +kernel), by decide +kernel, by decide +kernel, by decide +kernel, by decide +kernel, by decide +kernel,
    by decide +kernel, by decide +kernel, by decide +kernel, by decide +kernel, by decide +kernel⟩

def w1_MatrixIssue_mxz : Env := seesOn (engineDev mxDesc) (word 91 0 0 0 (2 ^ 25))

def w2_MatrixIssue_mxz : Instr := Instr.mxz (issueOf (word 91 0 0 0 (2 ^ 25)))

def w3_MatrixIssue_mxz : Issue := issueOf (word 91 0 0 0 (2 ^ 25))

theorem wit_MatrixIssue_mxz :
    ((w2_MatrixIssue_mxz, 91, MxKind.mxz) ∈ [(Instr.mxi w3_MatrixIssue_mxz, 88, MxKind.mxi), (w2_MatrixIssue_mxz, 91, MxKind.mxz), (Instr.mxst
      w3_MatrixIssue_mxz, 92, MxKind.mxst)]) ∧
    (Ready (at0 (engineDev mxDesc)).dev w3_MatrixIssue_mxz 91 w1_MatrixIssue_mxz) ∧
    (ckCode (descCk w1_MatrixIssue_mxz.w w1_MatrixIssue_mxz.second) = 0) ∧
    (w1_MatrixIssue_mxz.part = 4294967295) ∧
    (w1_MatrixIssue_mxz.c.mxHold = none) ∧
    (tget w1_MatrixIssue_mxz.c.tokens (wDst w1_MatrixIssue_mxz.w) = none) ∧
    (w1_MatrixIssue_mxz.c.sb = []) ∧
    (w1_MatrixIssue_mxz.c.sbWait = []) ∧
    (mxDescribe MxKind.mxz (fun a n => lsRead w1_MatrixIssue_mxz.c (slotBase w1_MatrixIssue_mxz.c w1_MatrixIssue_mxz.d.shape
      w1_MatrixIssue_mxz.g.set + a) n) w1_MatrixIssue_mxz.d.shape.lsPerSet (descOffset w1_MatrixIssue_mxz) = Sum.inr (mxOp0 MxKind.mxz)) ∧
    ((mxOp0 MxKind.mxz).a.kind ≠ 2) ∧
    ((mxOp0 MxKind.mxz).b.kind ≠ 2) ∧
    (spansClash (mxSpans (mxOp0 MxKind.mxz)) = false) :=
  ⟨by decide +kernel, ready_of (by decide +kernel), by decide +kernel, by decide +kernel, by decide +kernel, by decide +kernel, by decide +kernel,
    by decide +kernel, by decide +kernel, by decide +kernel, by decide +kernel, by decide +kernel⟩

def w1_MatrixIssue_mxst : Env := seesOn (engineDev mxDesc) (word 92 1 0 0 (2 ^ 25))

def w2_MatrixIssue_mxst : Instr := Instr.mxst (issueOf (word 92 1 0 0 (2 ^ 25)))

def w3_MatrixIssue_mxst : Issue := issueOf (word 92 1 0 0 (2 ^ 25))

theorem wit_MatrixIssue_mxst :
    ((w2_MatrixIssue_mxst, 92, MxKind.mxst) ∈ [(Instr.mxi w3_MatrixIssue_mxst, 88, MxKind.mxi), (Instr.mxz w3_MatrixIssue_mxst, 91, MxKind.mxz),
      (w2_MatrixIssue_mxst, 92, MxKind.mxst)]) ∧
    (Ready (at0 (engineDev mxDesc)).dev w3_MatrixIssue_mxst 92 w1_MatrixIssue_mxst) ∧
    (ckCode (descCk w1_MatrixIssue_mxst.w w1_MatrixIssue_mxst.second) = 0) ∧
    (w1_MatrixIssue_mxst.part = 4294967295) ∧
    (w1_MatrixIssue_mxst.c.mxHold = none) ∧
    (tget w1_MatrixIssue_mxst.c.tokens (wDst w1_MatrixIssue_mxst.w) = none) ∧
    (w1_MatrixIssue_mxst.c.sb = []) ∧
    (w1_MatrixIssue_mxst.c.sbWait = []) ∧
    (mxDescribe MxKind.mxst (fun a n => lsRead w1_MatrixIssue_mxst.c (slotBase w1_MatrixIssue_mxst.c w1_MatrixIssue_mxst.d.shape
      w1_MatrixIssue_mxst.g.set + a) n) w1_MatrixIssue_mxst.d.shape.lsPerSet (descOffset w1_MatrixIssue_mxst) = Sum.inr (mxOp0 MxKind.mxst)) ∧
    ((mxOp0 MxKind.mxst).a.kind ≠ 2) ∧
    ((mxOp0 MxKind.mxst).b.kind ≠ 2) ∧
    (spansClash (mxSpans (mxOp0 MxKind.mxst)) = false) :=
  ⟨by decide +kernel, ready_of (by decide +kernel), by decide +kernel, by decide +kernel, by decide +kernel, by decide +kernel, by decide +kernel,
    by decide +kernel, by decide +kernel, by decide +kernel, by decide +kernel, by decide +kernel⟩

def w1_FerriesAndWaits_fyi : Env := seesOn (engineDev fyDesc) (word 96 15 0 0 (2 ^ 25))

def w2_FerriesAndWaits_fyi : Issue := issueOf (word 96 15 0 0 (2 ^ 25))

theorem wit_FerriesAndWaits_fyi :
    (w1_FerriesAndWaits_fyi.part ≠ 0) ∧
    (Ready (at0 (engineDev fyDesc)).dev w2_FerriesAndWaits_fyi 96 w1_FerriesAndWaits_fyi) ∧
    (ckCode (descCk w1_FerriesAndWaits_fyi.w w1_FerriesAndWaits_fyi.second) = 0) ∧
    (tget w1_FerriesAndWaits_fyi.c.handles (wDst w1_FerriesAndWaits_fyi.w) = none) ∧
    (w1_FerriesAndWaits_fyi.c.sb = []) ∧
    (w1_FerriesAndWaits_fyi.c.sbWait = []) ∧
    (ferryDescribe (fun a n => lsRead w1_FerriesAndWaits_fyi.c (slotBase w1_FerriesAndWaits_fyi.c w1_FerriesAndWaits_fyi.d.shape
      w1_FerriesAndWaits_fyi.g.set + a) n) w1_FerriesAndWaits_fyi.d.shape.lsPerSet (descOffset w1_FerriesAndWaits_fyi) = Sum.inr ferry0) :=
  ⟨by decide +kernel, ready_of (by decide +kernel), by decide +kernel, by decide +kernel, by decide +kernel, by decide +kernel, by decide +kernel⟩

def w1_FerriesAndWaits_fyw : Env := seesOn (busyDev false) (word 97 0 0 0 65533)

def w2_FerriesAndWaits_fyw : Instr := Instr.fyw (issueOf (word 97 0 0 0 65533))

def w3_FerriesAndWaits_fyw : Issue := issueOf (word 97 0 0 0 65533)

theorem wit_FerriesAndWaits_fyw :
    (w1_FerriesAndWaits_fyw.part ≠ 0) ∧
    ((w2_FerriesAndWaits_fyw, 97, (busyCore false).handles) ∈ [(Instr.mxw w3_FerriesAndWaits_fyw, 89, w1_FerriesAndWaits_fyw.c.tokens),
      (w2_FerriesAndWaits_fyw, 97, w1_FerriesAndWaits_fyw.c.handles)]) ∧
    (Ready (at0 (busyDev false)).dev w3_FerriesAndWaits_fyw 97 w1_FerriesAndWaits_fyw) ∧
    (97 < 96 → w1_FerriesAndWaits_fyw.c.mxHold = none) ∧
    (ckCode (waitCk w1_FerriesAndWaits_fyw.w false) = 0) ∧
    (anyBusy (busyCore false).handles (wMod w1_FerriesAndWaits_fyw.w 0 16) = false) ∧
    (∀ (p : Nat × AsyncSlot), p ∈ (busyCore false).handles → bitOf (wMod w1_FerriesAndWaits_fyw.w 0 16) p.fst = true → p.snd.group =
      w1_FerriesAndWaits_fyw.gno → p.snd.code = 0) :=
  ⟨by decide +kernel, by decide +kernel, ready_of (by decide +kernel), by decide +kernel, by decide +kernel, by decide +kernel, by decide +kernel⟩

def w1_FerriesAndWaits_mxw : Env := seesOn (busyDev false) (word 89 0 0 0 2)

def w2_FerriesAndWaits_mxw : Instr := Instr.mxw (issueOf (word 89 0 0 0 2))

def w3_FerriesAndWaits_mxw : Issue := issueOf (word 89 0 0 0 2)

theorem wit_FerriesAndWaits_mxw :
    (w1_FerriesAndWaits_mxw.part ≠ 0) ∧
    ((w2_FerriesAndWaits_mxw, 89, (busyCore false).tokens) ∈ [(w2_FerriesAndWaits_mxw, 89, w1_FerriesAndWaits_mxw.c.tokens), (Instr.fyw
      w3_FerriesAndWaits_mxw, 97, w1_FerriesAndWaits_mxw.c.handles)]) ∧
    (Ready (at0 (busyDev false)).dev w3_FerriesAndWaits_mxw 89 w1_FerriesAndWaits_mxw) ∧
    (89 < 96 → w1_FerriesAndWaits_mxw.c.mxHold = none) ∧
    (ckCode (waitCk w1_FerriesAndWaits_mxw.w false) = 0) ∧
    (anyBusy (busyCore false).tokens (wMod w1_FerriesAndWaits_mxw.w 0 16) = false) ∧
    (∀ (p : Nat × AsyncSlot), p ∈ (busyCore false).tokens → bitOf (wMod w1_FerriesAndWaits_mxw.w 0 16) p.fst = true → p.snd.group =
      w1_FerriesAndWaits_mxw.gno → p.snd.code = 0) :=
  ⟨by decide +kernel, by decide +kernel, ready_of (by decide +kernel), by decide +kernel, by decide +kernel, by decide +kernel, by decide +kernel⟩

def w1_FerriesAndWaits_fyt : Env := seesOn (busyDev false) (word 98 3 0 0 2)

def w2_FerriesAndWaits_fyt : Instr := Instr.fyt (issueOf (word 98 3 0 0 2))

def w3_FerriesAndWaits_fyt : Issue := issueOf (word 98 3 0 0 2)

theorem wit_FerriesAndWaits_fyt :
    (w1_FerriesAndWaits_fyt.part ≠ 0) ∧
    ((w2_FerriesAndWaits_fyt, 98, (busyCore false).handles) ∈ [(Instr.mxt w3_FerriesAndWaits_fyt, 90, w1_FerriesAndWaits_fyt.c.tokens),
      (w2_FerriesAndWaits_fyt, 98, w1_FerriesAndWaits_fyt.c.handles)]) ∧
    (Ready (at0 (busyDev false)).dev w3_FerriesAndWaits_fyt 98 w1_FerriesAndWaits_fyt) ∧
    (98 < 96 → w1_FerriesAndWaits_fyt.c.mxHold = none) ∧
    (ckCode (waitCk w1_FerriesAndWaits_fyt.w true) = 0) :=
  ⟨by decide +kernel, by decide +kernel, ready_of (by decide +kernel), by decide +kernel, by decide +kernel⟩

def w1_FerriesAndWaits_mxt : Env := seesOn (busyDev false) (word 90 3 0 0 65534)

def w2_FerriesAndWaits_mxt : Instr := Instr.mxt (issueOf (word 90 3 0 0 65534))

def w3_FerriesAndWaits_mxt : Issue := issueOf (word 90 3 0 0 65534)

theorem wit_FerriesAndWaits_mxt :
    (w1_FerriesAndWaits_mxt.part ≠ 0) ∧
    ((w2_FerriesAndWaits_mxt, 90, (busyCore false).tokens) ∈ [(w2_FerriesAndWaits_mxt, 90, w1_FerriesAndWaits_mxt.c.tokens), (Instr.fyt
      w3_FerriesAndWaits_mxt, 98, w1_FerriesAndWaits_mxt.c.handles)]) ∧
    (Ready (at0 (busyDev false)).dev w3_FerriesAndWaits_mxt 90 w1_FerriesAndWaits_mxt) ∧
    (90 < 96 → w1_FerriesAndWaits_mxt.c.mxHold = none) ∧
    (ckCode (waitCk w1_FerriesAndWaits_mxt.w true) = 0) :=
  ⟨by decide +kernel, by decide +kernel, ready_of (by decide +kernel), by decide +kernel, by decide +kernel⟩

def w1_FencesAndRanges_cflush : L1Sector := { data := 2578103244, valid := 4294967295, dirty := 15, stored := 15, poison := false, uncorr := false, stale := false : L1Sector }

def w2_FencesAndRanges_cflush : Tlb := { inst := 0, va := 65536, size := 65536, loc := 16384, r := true, w := true, a := true, mig := false : Tlb }

def w3_FencesAndRanges_cflush : Instr := Instr.cflush (issueOf (word 60 0 4 32 (5 * 2 ^ 16 + 2 ^ 27 + 2 ^ 25)))

def w4_FencesAndRanges_cflush : Env := seesOn (rangeDev 0) (word 60 0 4 32 (5 * 2 ^ 16 + 2 ^ 27 + 2 ^ 25))

def w5_FencesAndRanges_cflush : Issue := issueOf (word 60 0 4 32 (5 * 2 ^ 16 + 2 ^ 27 + 2 ^ 25))

theorem wit_FencesAndRanges_cflush :
    ((w3_FencesAndRanges_cflush, 60, false) ∈ [(w3_FencesAndRanges_cflush, 60, false), (Instr.cinv w5_FencesAndRanges_cflush, 61, true)]) ∧
    (Ready (at0 (rangeDev 0)).dev w5_FencesAndRanges_cflush 60 w4_FencesAndRanges_cflush) ∧
    (w4_FencesAndRanges_cflush.part ≠ 0) ∧
    (ckCode (rangeCk w4_FencesAndRanges_cflush.w w4_FencesAndRanges_cflush.second) = 0) ∧
    (65568 = readU w4_FencesAndRanges_cflush.g (wSrcA w4_FencesAndRanges_cflush.w) 2) ∧
    (32 = srcB w4_FencesAndRanges_cflush.g w4_FencesAndRanges_cflush.w w4_FencesAndRanges_cflush.second 0 1) ∧
    (65568 % 32 = 0) ∧
    (32 = 32) ∧
    (canonical (65568 + 31) = true) ∧
    (2 ≤ mScope w4_FencesAndRanges_cflush.w) ∧
    (tlbFind (coreOf (at0 (rangeDev 0)).dev w4_FencesAndRanges_cflush.core) 1 w4_FencesAndRanges_cflush.d.inst 65568 4 = some
      w2_FencesAndRanges_cflush) ∧
    (w2_FencesAndRanges_cflush.at 65568 = 32 * 513) ∧
    (w4_FencesAndRanges_cflush.g.phase = 0) ∧
    (sbBlocks (coreOf (at0 (rangeDev 0)).dev w4_FencesAndRanges_cflush.core) none 65568 32 false = false) ∧
    (w2_FencesAndRanges_cflush.at (65568 + 31) = 32 * 513 + 31) ∧
    (tget (coreOf (at0 (rangeDev 0)).dev w4_FencesAndRanges_cflush.core).l1 513 = some w1_FencesAndRanges_cflush) ∧
    (w1_FencesAndRanges_cflush.dirty ≠ 0) :=
  ⟨by decide +kernel, ready_of (by decide +kernel), by decide +kernel, by decide +kernel, by decide +kernel, by decide +kernel, by decide +kernel,
    by decide +kernel, by decide +kernel, by decide +kernel, by decide +kernel, by decide +kernel, by decide +kernel, by decide +kernel,
    by decide +kernel, by decide +kernel, by decide +kernel⟩

def w1_FencesAndRanges_cinv : Instr := Instr.cinv (issueOf (word 61 0 4 32 (5 * 2 ^ 16 + 2 ^ 27 + 2 ^ 25)))

def w2_FencesAndRanges_cinv : Env := seesOn (rangeDev 0) (word 61 0 4 32 (5 * 2 ^ 16 + 2 ^ 27 + 2 ^ 25))

def w3_FencesAndRanges_cinv : Issue := issueOf (word 61 0 4 32 (5 * 2 ^ 16 + 2 ^ 27 + 2 ^ 25))

theorem wit_FencesAndRanges_cinv :
    ((w1_FencesAndRanges_cinv, 61, true) ∈ [(Instr.cflush w3_FencesAndRanges_cinv, 60, false), (w1_FencesAndRanges_cinv, 61, true)]) ∧
    (Ready (at0 (rangeDev 0)).dev w3_FencesAndRanges_cinv 61 w2_FencesAndRanges_cinv) ∧
    (w2_FencesAndRanges_cinv.part ≠ 0) ∧
    (ckCode (rangeCk w2_FencesAndRanges_cinv.w w2_FencesAndRanges_cinv.second) = 0) ∧
    (65568 = readU w2_FencesAndRanges_cinv.g (wSrcA w2_FencesAndRanges_cinv.w) 2) ∧
    (32 = srcB w2_FencesAndRanges_cinv.g w2_FencesAndRanges_cinv.w w2_FencesAndRanges_cinv.second 0 1) ∧
    (65568 % 32 = 0) ∧
    (32 = 32) ∧
    (canonical (65568 + 31) = true) ∧
    (2 ≤ mScope w2_FencesAndRanges_cinv.w) ∧
    (tlbFind (coreOf (at0 (rangeDev 0)).dev w2_FencesAndRanges_cinv.core) 1 w2_FencesAndRanges_cinv.d.inst 65568 4 = some
      w2_FencesAndRanges_cflush) ∧
    (w2_FencesAndRanges_cflush.at 65568 = 32 * 513) ∧
    (w2_FencesAndRanges_cinv.g.phase = 0) ∧
    (sbBlocks (coreOf (at0 (rangeDev 0)).dev w2_FencesAndRanges_cinv.core) none 65568 32 false = false) ∧
    (w2_FencesAndRanges_cflush.at (65568 + 31) = 32 * 513 + 31) ∧
    (tget (coreOf (at0 (rangeDev 0)).dev w2_FencesAndRanges_cinv.core).l1 513 = some w1_FencesAndRanges_cflush) ∧
    (w1_FencesAndRanges_cflush.dirty ≠ 0) :=
  ⟨by decide +kernel, ready_of (by decide +kernel), by decide +kernel, by decide +kernel, by decide +kernel, by decide +kernel, by decide +kernel,
    by decide +kernel, by decide +kernel, by decide +kernel, by decide +kernel, by decide +kernel, by decide +kernel, by decide +kernel,
    by decide +kernel, by decide +kernel, by decide +kernel⟩

def w1_FencesAndRanges_cflush_end : Env := seesOn (rangeDev 2) (word 60 0 4 32 (5 * 2 ^ 16 + 2 ^ 27 + 2 ^ 25))

theorem wit_FencesAndRanges_cflush_end :
    ((w3_FencesAndRanges_cflush, 60, false) ∈ [(w3_FencesAndRanges_cflush, 60, false), (Instr.cinv w5_FencesAndRanges_cflush, 61, true)]) ∧
    (Ready (at0 (rangeDev 2)).dev w5_FencesAndRanges_cflush 60 w1_FencesAndRanges_cflush_end) ∧
    (w1_FencesAndRanges_cflush_end.part ≠ 0) ∧
    (ckCode (rangeCk w1_FencesAndRanges_cflush_end.w w1_FencesAndRanges_cflush_end.second) = 0) ∧
    (65568 = readU w1_FencesAndRanges_cflush_end.g (wSrcA w1_FencesAndRanges_cflush_end.w) 2) ∧
    (32 = srcB w1_FencesAndRanges_cflush_end.g w1_FencesAndRanges_cflush_end.w w1_FencesAndRanges_cflush_end.second 0 1) ∧
    (65568 % 32 = 0) ∧
    (32 = 32) ∧
    (canonical (65568 + 31) = true) ∧
    (2 ≤ mScope w1_FencesAndRanges_cflush_end.w) ∧
    (tlbFind (coreOf (at0 (rangeDev 2)).dev w1_FencesAndRanges_cflush_end.core) 1 w1_FencesAndRanges_cflush_end.d.inst 65568 4 = some
      w2_FencesAndRanges_cflush) ∧
    (w2_FencesAndRanges_cflush.at 65568 = 32 * 513) ∧
    (w1_FencesAndRanges_cflush_end.g.phase = 2) ∧
    (ownStoresPending (coreOf (at0 (rangeDev 2)).dev w1_FencesAndRanges_cflush_end.core) w1_FencesAndRanges_cflush_end.gno = false) ∧
    (4 ≤ mScope w1_FencesAndRanges_cflush_end.w → pendingLine (at0 (rangeDev 2)).dev false = false) ∧
    (mScope w1_FencesAndRanges_cflush_end.w = 5 → pendingLine (at0 (rangeDev 2)).dev true = false) :=
  ⟨by decide +kernel, ready_of (by decide +kernel), by decide +kernel, by decide +kernel, by decide +kernel, by decide +kernel, by decide +kernel,
    by decide +kernel, by decide +kernel, by decide +kernel, by decide +kernel, by decide +kernel, by decide +kernel, by decide +kernel,
    by decide +kernel, by decide +kernel⟩

def w1_FencesAndRanges_cinv_end : Env := seesOn (rangeDev 2) (word 61 0 4 32 (5 * 2 ^ 16 + 2 ^ 27 + 2 ^ 25))

theorem wit_FencesAndRanges_cinv_end :
    ((w1_FencesAndRanges_cinv, 61, true) ∈ [(Instr.cflush w3_FencesAndRanges_cinv, 60, false), (w1_FencesAndRanges_cinv, 61, true)]) ∧
    (Ready (at0 (rangeDev 2)).dev w3_FencesAndRanges_cinv 61 w1_FencesAndRanges_cinv_end) ∧
    (w1_FencesAndRanges_cinv_end.part ≠ 0) ∧
    (ckCode (rangeCk w1_FencesAndRanges_cinv_end.w w1_FencesAndRanges_cinv_end.second) = 0) ∧
    (65568 = readU w1_FencesAndRanges_cinv_end.g (wSrcA w1_FencesAndRanges_cinv_end.w) 2) ∧
    (32 = srcB w1_FencesAndRanges_cinv_end.g w1_FencesAndRanges_cinv_end.w w1_FencesAndRanges_cinv_end.second 0 1) ∧
    (65568 % 32 = 0) ∧
    (32 = 32) ∧
    (canonical (65568 + 31) = true) ∧
    (2 ≤ mScope w1_FencesAndRanges_cinv_end.w) ∧
    (tlbFind (coreOf (at0 (rangeDev 2)).dev w1_FencesAndRanges_cinv_end.core) 1 w1_FencesAndRanges_cinv_end.d.inst 65568 4 = some
      w2_FencesAndRanges_cflush) ∧
    (w2_FencesAndRanges_cflush.at 65568 = 32 * 513) ∧
    (w1_FencesAndRanges_cinv_end.g.phase = 2) ∧
    (ownStoresPending (coreOf (at0 (rangeDev 2)).dev w1_FencesAndRanges_cinv_end.core) w1_FencesAndRanges_cinv_end.gno = false) ∧
    (4 ≤ mScope w1_FencesAndRanges_cinv_end.w → pendingLine (at0 (rangeDev 2)).dev false = false) ∧
    (mScope w1_FencesAndRanges_cinv_end.w = 5 → pendingLine (at0 (rangeDev 2)).dev true = false) :=
  ⟨by decide +kernel, ready_of (by decide +kernel), by decide +kernel, by decide +kernel, by decide +kernel, by decide +kernel, by decide +kernel,
    by decide +kernel, by decide +kernel, by decide +kernel, by decide +kernel, by decide +kernel, by decide +kernel, by decide +kernel,
    by decide +kernel, by decide +kernel⟩

def w1_EnginesOfACore_row : MxRow := { op := 1, acc := 0, zeroAfter := false, kFrom := 0, kCount := 0, mOff := 0, nOff := 0 : MxRow }

theorem wit_EnginesOfACore_row :
    (busyCore false = coreOf (at0 (busyDev false)).dev 0) ∧
    ((busyCore false).disp = some 0) ∧
    (tget (at0 (busyDev false)).dev.disp 0 = some disp0) ∧
    ((busyCore false).mxq = [opAt 0]) ∧
    ((opAt 0).code = 0) ∧
    (mxFamily (opAt 0) = some Family.h16) ∧
    ((opAt 0).rows[(opAt 0).next]? = some w1_EnginesOfACore_row) ∧
    (w1_EnginesOfACore_row.op = 1) ∧
    ((opAt 0).walks = []) ∧
    ((opAt 0).faults = []) ∧
    ((opAt 0).got = []) ∧
    (opHeld (busyCore false) (opAt 0).token (opAt 0).seq (mxGlobal (opAt 0)) = false) :=
  ⟨by decide +kernel, by decide +kernel, by decide +kernel, by decide +kernel, by decide +kernel, by decide +kernel, by decide +kernel,
    by decide +kernel, by decide +kernel, by decide +kernel, by decide +kernel, by decide +kernel⟩

def w1_EnginesOfACore_token : AsyncSlot := { busy := true, group := 0, set := 0, addr := 64, seq := 0, code := 0 : AsyncSlot }

theorem wit_EnginesOfACore_token :
    (busyCore true = coreOf (at0 (busyDev true)).dev 0) ∧
    ((busyCore true).disp = some 0) ∧
    (tget (at0 (busyDev true)).dev.disp 0 = some disp0) ∧
    ((busyCore true).mxq = [opAt 1]) ∧
    (tget (busyCore true).tokens (opAt 1).token = some w1_EnginesOfACore_token) ∧
    (tget (busyCore true).groups (opAt 1).group = some fullGroup) ∧
    ((opAt 1).code = 0) ∧
    ((opAt 1).rows.length ≤ (opAt 1).next) ∧
    (∀ (w : WbEntry), w ∈ (busyCore true).wb → w.op ≠ some (opAt 1).token) :=
  ⟨by decide +kernel, by decide +kernel, by decide +kernel, by decide +kernel, by decide +kernel, by decide +kernel, by decide +kernel,
    by decide +kernel, by decide +kernel⟩

theorem wit_EnginesOfACore_segment :
    (busyCore false = coreOf (at0 (busyDev false)).dev 0) ∧
    ((busyCore false).disp = some 0) ∧
    (tget (at0 (busyDev false)).dev.disp 0 = some disp0) ∧
    (tget (busyCore false).ferries 1 = some (ferryAt 1)) ∧
    ((ferryAt 1).srcLs = true) ∧
    ((ferryAt 1).dstLs = true) ∧
    ((ferryAt 1).code = 0) ∧
    ((ferryAt 1).row < (ferryAt 1).rows) ∧
    ((ferryAt 1).off < (ferryAt 1).rowBytes) ∧
    ((ferryAt 1).walks = []) ∧
    ((ferryAt 1).faults = []) ∧
    (opHeld (busyCore false) (16 + 1) (ferryAt 1).seq false = false) :=
  ⟨by decide +kernel, by decide +kernel, by decide +kernel, by decide +kernel, by decide +kernel, by decide +kernel, by decide +kernel,
    by decide +kernel, by decide +kernel, by decide +kernel, by decide +kernel, by decide +kernel⟩

theorem wit_EnginesOfACore_ferry :
    (busyCore true = coreOf (at0 (busyDev true)).dev 0) ∧
    ((busyCore true).disp = some 0) ∧
    (tget (at0 (busyDev true)).dev.disp 0 = some disp0) ∧
    (tget (busyCore true).ferries 1 = some (ferryAt 2)) ∧
    (tget (busyCore true).handles 1 = some w1_EnginesOfACore_token) ∧
    ((ferryAt 2).code = 0) ∧
    ((ferryAt 2).bad = 0) ∧
    ((ferryAt 2).rows ≤ (ferryAt 2).row) ∧
    (∀ (w : WbEntry), w ∈ (busyCore true).wb → w.op ≠ some (16 + 1)) :=
  ⟨by decide +kernel, by decide +kernel, by decide +kernel, by decide +kernel, by decide +kernel, by decide +kernel, by decide +kernel,
    by decide +kernel, by decide +kernel⟩

def w1_EnginesOfACore_entry : SbEntry := { lsSet := none, base := 0, len := 32, write := true, op := 3, seq := 0 : SbEntry }

theorem wit_EnginesOfACore_entry :
    (busyCore true = coreOf (at0 (busyDev true)).dev 0) ∧
    ((busyCore true).disp = some 0) ∧
    (tget (at0 (busyDev true)).dev.disp 0 = some disp0) ∧
    ((busyCore true).sb[1]? = some w1_EnginesOfACore_entry) ∧
    (entryDone (busyCore true) w1_EnginesOfACore_entry = true) :=
  ⟨by decide +kernel, by decide +kernel, by decide +kernel, by decide +kernel, by decide +kernel⟩

def w1_ControllerTransfers_read : Fill := { lo := none, hi := none : Fill }

theorem wit_ControllerTransfers_read :
    (Settled (at0 memDev).dev) ∧
    (channelsKnown (at0 memDev).dev) ∧
    (tget (at0 memDev).dev.shore.fills (0 / 2) = some w1_ControllerTransfers_read) ∧
    (w1_ControllerTransfers_read.lo = none) ∧
    (w1_ControllerTransfers_read.hi = none) ∧
    (chanOf (at0 memDev).dev (32 * 0) = some 0) ∧
    (isHole (at0 memDev).dev 0 = false) ∧
    (chanPaused (at0 memDev).dev 0 = false) ∧
    (∀ (w : MemWr), w ∈ (at0 memDev).dev.mem.writes → w.line ≠ 0 / 2) ∧
    (wcbFind (at0 memDev).dev 0 0 = none) ∧
    (dramPoisoned (at0 memDev).dev.dram 0 = false ∨ replicaLine (at0 memDev).dev (0 / 2) = none) :=
  ⟨settled_of (by decide +kernel), known_of (by decide +kernel), by decide +kernel, by decide +kernel, by decide +kernel, by decide +kernel,
    by decide +kernel, by decide +kernel, by decide +kernel, by decide +kernel, by decide +kernel⟩

def w1_ControllerTransfers_write : MemWr := { line := 1, mask := BitVec.allOnes 64, data := 43981, poison := 0, markPoison := 0, held := none : MemWr }

theorem wit_ControllerTransfers_write :
    (Settled (at0 memDev).dev) ∧
    (channelsKnown (at0 memDev).dev) ∧
    (List.find? (fun w => w.line == 1) (at0 memDev).dev.mem.writes = some w1_ControllerTransfers_write) ∧
    (chanOf (at0 memDev).dev (64 * 1) = some 0) ∧
    (isHole (at0 memDev).dev 0 = false) ∧
    (chanPaused (at0 memDev).dev 0 = false) ∧
    (replicaLine (at0 memDev).dev 1 = none) ∧
    (w1_ControllerTransfers_write.mask = BitVec.allOnes 64) :=
  ⟨settled_of (by decide +kernel), known_of (by decide +kernel), by decide +kernel, by decide +kernel, by decide +kernel, by decide +kernel,
    by decide +kernel, by decide +kernel⟩

def w1_ControllerTransfers_combine : WcbEntry := { sec := 256, mask := 3, data := 48042, time := 0 : WcbEntry }

theorem wit_ControllerTransfers_combine :
    (Settled (at0 memDev).dev) ∧
    (channelsKnown (at0 memDev).dev) ∧
    (chanOf (at0 memDev).dev (32 * 256) = some 0) ∧
    (wcbFind (at0 memDev).dev 0 256 = some w1_ControllerTransfers_combine) :=
  ⟨settled_of (by decide +kernel), known_of (by decide +kernel), by decide +kernel, by decide +kernel⟩

theorem wit_ControllerTransfers_patrol :
    (Settled (at0 memDev).dev) ∧
    (channelsKnown (at0 memDev).dev) ∧
    (fget (at0 memDev).dev RF.MEM_SCRUB_POLICY_SCRUB_HOURS ≠ 0) ∧
    (chanOf (at0 memDev).dev (32 * (at0 memDev).dev.mem.scrubNext) = some 0) ∧
    (isHole (at0 memDev).dev 0 = false) ∧
    (chanPaused (at0 memDev).dev 0 = false) ∧
    (wcbFind (at0 memDev).dev 0 (at0 memDev).dev.mem.scrubNext = none) :=
  ⟨settled_of (by decide +kernel), known_of (by decide +kernel), by decide +kernel, by decide +kernel, by decide +kernel, by decide +kernel,
    by decide +kernel⟩

theorem wit_ChannelsAndRegulators_layer :
    (channelsKnown (at0 module0).dev) ∧
    (1024 ∈ (at0 module0).dev.mem.listA ++ (at0 module0).dev.mem.listB) ∧
    (fget (at0 module0).dev (chanSTATE 1024) = 0) :=
  ⟨known_of (by decide +kernel), by decide +kernel, by decide +kernel⟩

theorem wit_ChannelsAndRegulators_refresh :
    (95 < 96) :=
  by decide +kernel

/-! ### The mirrored tables (R482) -/

/-- Sector of the home map of `module0`, whose reserved region starts at 0. -/
def mapSector : Nat := 64 * 2 ^ 20 / 32

/-- Rewrites counted, and the cause of a device-fatal fault, after a command. -/
def mirrorSeen (d : Dev) (i : Instr) : Option (Nat × Nat) :=
  match exec i (at0 d) with
  | .next t => some (regRead t.dev Reg.BRG_CNT_MIRROR_REPAIRS, fget t.dev RF.BRG_ERR_STATUS_FATAL_CAUSE)
  | _ => none

/-- A home-map sector that is found uncorrectable is rewritten from its other copy. -/
theorem test_mirror_repair : mirrorSeen module0 (.memRead mapSector .uncorrectable 0 .clean false) = some (1, 0) := by decide +kernel

/-- Where the other copy is bad as well, the module takes the device-fatal fault of cause 8. -/
theorem test_mirror_lost :
    mirrorSeen { module0 with dram := { module0.dram with poison := [mapSector + 2 ^ 24] } } (.memRead mapSector .uncorrectable 0 .clean false)
      = some (0, 8) := by decide +kernel

end Sys2Proof.Tests
end

