-- ==== Sys2Proof/Tests/WitRings.lean ====
section
/-!
SUPPORT. Premises of the statements about faults of instructions and commands, rings, translation, homing and page moves, met together by concrete states:
one theorem for each clause.
-/
namespace Sys2Proof.Tests
open Sys2Proof Sys2Proof.Machine
set_option Elab.async false

/-- Page tables of instance 0 from 0x400000 that map the first 2 MiB of its addresses to frame 1, and by a TABLE64 the page of 64 KiB at 2 MiB to frame 5 of
tier B, as a migratable leaf. -/
def tables : List Host.Cell :=
  [(0x400000, 0x01), (0x400001, 0x10), (0x400002, 0x40), (0x401000, 0x01), (0x401001, 0x20), (0x401002, 0x40), (0x402000, 0x01), (0x402001, 0x30),
   (0x402002, 0x40), (0x403000, 0x3B), (0x403002, 0x20), (0x403008, 0x05), (0x403009, 0x40), (0x40300A, 0x40), (0x404000, 0x3B), (0x404001, 0x01),
   (0x404002, 0x05), (0x404004, 0x80)]

/-- The module with those tables, and an instance 0 that may hold 8 rings. -/
def mapped0 : Dev :=
  let d := { own0 with dram := { own0.dram with cells := tables }, ins := { own0.ins with owner := [(1, 0), (2, 0), (2 ^ 18, 0)] } }
  let d := fset (fset d RF.MEM_RSVD_A_VALUE (2 ^ 29)) RF.MEM_RSVD_B_VALUE (2 ^ 39 + 2 ^ 33)
  fset (fset (fset d (RF.TRN_ROOT_VALID 0) 1) (RF.TRN_ROOT_ROOT 0) 0x400) (RF.INS_QUOTA_MAX_RINGS 0) 8

/-- A module that has not reached READY reads a fault. -/
def reservedWord : Word64 := word 0x14 0 0 0 0

/-- A group that waits on an access that a verdict ended. -/
def endedGroup : Dev := withCore ready0 { core0 with groups := [(0, { group0 with dead := some 0x0205 })] }

/-- An issue whose fetch failed. -/
def badFetch : Issue := ⟨0, 0, word 0 8 1 2 0, 0, 0x0201, .ok⟩

/-- An issue whose instruction reads an uncorrectable SRAM. -/
def badSram : Issue := ⟨0, 0, word 0 8 1 2 0, 0, 0, .uncorrectable⟩

/-- No lane takes part. -/
def noLane : Word64 := guarded 0 8 1 2 0 3

/-- The layout of a command. -/
def specAt (op : Nat) : CmdSpec := (specOf op).getD ⟨0, none, [], [], none, false, false⟩

/-- A LAUNCH with a reserved bit set, from a ring and over a bus. -/
def badLaunch : Dev := withCmd own0 0 1 (entryOf 0x01 [(32, 1), (4, 1)])

/-- A ring command of instance 0 on a mapped module. -/
def mapCmd (op : Nat) (body : List (Nat × Nat)) : Dev := withCmd mapped0 0 1 (entryOf op body)

/-- RING_CREATE of a command ring at 0x10000, its completion ring at 0x20000 and its watch line at 0x30040. -/
def createDev : Dev := mapCmd 0x20 [(17, 6), (18, 7), (20, 3), (22, 50), (26, 1), (34, 2), (40, 0x40), (42, 3)]

/-- What the checks of RING_CREATE find. -/
def createdBy (d : Dev) (va n access : Nat) : Dev := (vaPages d 0 va n access).1

/-- The pages that they find. -/
def pagesOf (d : Dev) (va n access : Nat) : List Nat :=
  match (vaPages d 0 va n access).2 with
  | .inr l => l
  | .inl _ => []

/-- After the ring's pages. -/
def create1 : Dev := createdBy createDev 0x10000 4096 0
/-- After the completion ring's pages. -/
def create2 : Dev := createdBy create1 0x20000 4160 1
/-- After its header. -/
def create3 : Dev := createdBy create2 0x20000 8 0
/-- After the watch line. -/
def create4 : Dev := (feTranslate create3 0 0x30040 0).1

/-- Two rings of instance 0, of which the second is idle, and a RING_DESTROY of it. -/
def destroyDev : Dev :=
  let d := mapCmd 0x21 [(16, 2)]
  { d with fe := { d.fe with rings := tset d.fe.rings 2 ring0, marks := [(0x8800, 2)] } }

/-- A host, and a boot block that names pages of its memory. -/
def bootDev : Dev :=
  let d := fset (fset mapped0 (RF.HST_BIND_STATUS_BOUND 0) 1) (RF.HST_BIND_STATUS_COHERENT 0) 1
  let d := fset (fset d RF.HST_STATUS_HOST_VALID 1) RF.HST_STATUS_LINK 1
  winWrite (winWrite (winWrite d 0 Reg.WCH_BOOT_RING 0x100000) 0 Reg.WCH_BOOT_CPL 0x110000) 0 Reg.WCH_BOOT_WATCH 0x120000

/-- ENABLE with rings of 64 entries. -/
def bootValue : Nat := 1 + 6 * 2 ^ RF.WCH_BOOT_CTL_SIZE_LOG2.lo + 6 * 2 ^ RF.WCH_BOOT_CTL_CPL_SIZE_LOG2.lo

/-- What ENABLE checks. -/
def bootAt (d : Dev) (v : Nat) : Dev × Option Ring := bootRing (winWrite d 0 Reg.WCH_BOOT_CTL (v % 2 ^ 27 &&& 0x7FFFF01)) 0

/-- A ring in service with an entry below its producer index, its lines in the slices. -/
def serveDev : Dev :=
  { own0 with
    shore := { own0.shore with lines := [(0x8000, ⟨BitVec.ofNat 512 0x63, false, 0, 0, false, .home, 0⟩), (0x8400, ⟨0, false, 0, 0, false, .home, 0⟩),
                                         (0x8800, ⟨1, false, 0, 0, false, .home, 0⟩)] }
    fe := { own0.fe with rings := [(1, ring0)], woken := [1], wakes := [1] } }

/-- A line of data. -/
def homeLine (v : Nat) : Line := ⟨BitVec.ofNat 512 v, false, 0, 0, false, .home, 0⟩

/-- A completion owed. -/
def cpl0 : Cpl := ⟨55, 0, 0x10, 9, 0, 2, 0, 0, false, false, some (cmdKey 0 1 0), none⟩

/-- The ring that owes it. -/
def oweRing : Ring := { ring0 with cplQ := [cpl0] }

/-- Its module. -/
def oweDev : Dev :=
  { own0 with
    shore := { own0.shore with lines := [(0x8400, homeLine 0), (0x8401, homeLine 0)] }
    fe := { own0.fe with rings := [(1, oweRing)], store := [⟨0, 1, 0, entryOf 0x10 [(8, 55)], 2, false⟩] } }

/-- A ring whose message waits for the end of its interval. -/
def irqRing : Ring := { ring0 with irqDue := true, vector := 5 }

/-- Its module. -/
def irqDev : Dev :=
  let d := fset own0 (RF.HST_BIND_STATUS_BOUND 0) 1
  { d with host := { d.host with msix := [(5, ⟨false, false⟩)] }, fe := { d.fe with rings := [(1, irqRing)] } }

def w1_ReservedOpcodes : Env := envAt ready0 (issueOf reservedWord)

theorem wit_ReservedOpcodes :
    ((Instr.add, 0) ∈ issueRows) ∧
    (envOf (at0 ready0).dev (issueOf reservedWord) = some w1_ReservedOpcodes) ∧
    ((issueOf reservedWord).fetch = 0) ∧
    (opAssigned (wOp (issueOf reservedWord).w) = false) ∧
    (w1_ReservedOpcodes.part ≠ 0) :=
  ⟨by simp [issueRows], by decide +kernel, by decide +kernel, by decide +kernel, by decide +kernel⟩

theorem wit_PreciseFaults_fetch :
    ((Instr.mul, 2) ∈ issueRows) ∧
    (envOf (at0 ready0).dev badFetch = some (envAt ready0 badFetch)) ∧
    (badFetch.fetch = 0 → wOp badFetch.w = 2) ∧
    (badFetch.fetch ≠ 0 ∧ 513 = badFetch.fetch ∨ badFetch.fetch = 0 ∧ pendingEnd (envAt ready0 badFetch).g = some 513 ∨ badFetch.fetch = 0 ∧
      pendingEnd (envAt ready0 badFetch).g = none ∧ (envAt ready0 badFetch).part ≠ 0 ∧ badFetch.sram = Sram.uncorrectable ∧ 513 = eUncorr) :=
  ⟨by simp [issueRows], by decide +kernel, by decide +kernel, by decide +kernel⟩

def w1_PreciseFaults_verdict : Env := envAt endedGroup (issueOf (word 0 8 1 2 0))

theorem wit_PreciseFaults_verdict :
    ((Instr.add, 0) ∈ issueRows) ∧
    (envOf (at0 endedGroup).dev (issueOf (word 0 8 1 2 0)) = some w1_PreciseFaults_verdict) ∧
    ((issueOf (word 0 8 1 2 0)).fetch = 0 → wOp (issueOf (word 0 8 1 2 0)).w = 0) ∧
    ((issueOf (word 0 8 1 2 0)).fetch ≠ 0 ∧ 517 = (issueOf (word 0 8 1 2 0)).fetch ∨ (issueOf (word 0 8 1 2 0)).fetch = 0 ∧ pendingEnd
      w1_PreciseFaults_verdict.g = some 517 ∨ (issueOf (word 0 8 1 2 0)).fetch = 0 ∧ pendingEnd w1_PreciseFaults_verdict.g = none ∧
      w1_PreciseFaults_verdict.part ≠ 0 ∧ (issueOf (word 0 8 1 2 0)).sram = Sram.uncorrectable ∧ 517 = eUncorr) :=
  ⟨by simp [issueRows], by decide +kernel, by decide +kernel, by decide +kernel⟩

theorem wit_PreciseFaults_sram :
    ((Instr.add, 0) ∈ issueRows) ∧
    (envOf (at0 ready0).dev badSram = some (envAt ready0 badSram)) ∧
    (badSram.fetch = 0 → wOp badSram.w = 0) ∧
    (badSram.fetch ≠ 0 ∧ eUncorr = badSram.fetch ∨ badSram.fetch = 0 ∧ pendingEnd (envAt ready0 badSram).g = some eUncorr ∨ badSram.fetch = 0 ∧
      pendingEnd (envAt ready0 badSram).g = none ∧ (envAt ready0 badSram).part ≠ 0 ∧ badSram.sram = Sram.uncorrectable ∧ eUncorr = eUncorr) :=
  ⟨by simp [issueRows], by decide +kernel, by decide +kernel, by decide +kernel⟩

def w1_PreciseFaults_none : Env := envAt ready0 (issueOf noLane)

theorem wit_PreciseFaults_none :
    ((Instr.add, 0) ∈ issueRows) ∧
    (envOf (at0 ready0).dev (issueOf noLane) = some w1_PreciseFaults_none) ∧
    ((issueOf noLane).fetch = 0 → wOp (issueOf noLane).w = 0) ∧
    (¬0 ∈ [62, 75, 76, 79]) ∧
    ((issueOf noLane).fetch = 0) ∧
    (pendingEnd w1_PreciseFaults_none.g = none) ∧
    (w1_PreciseFaults_none.part = 0) :=
  ⟨by simp [issueRows], by decide +kernel, by decide +kernel, by decide +kernel, by decide +kernel, by decide +kernel, by decide +kernel⟩

theorem wit_CommandRejections :
    ((Instr.launch, 1) ∈ List.filter (fun r => ! [67, 114, 118, 120, 145, 146, 147, 148, 152].contains r.snd) cmdRows) ∧
    (ctxOf 1 (cmdAt 0 1) (at0 badLaunch).dev = some (runsAs 1 badLaunch)) ∧
    ((at0 badLaunch).dev.blocked = []) ∧
    (Served (at0 badLaunch).dev 1 (runsAs 1 badLaunch)) ∧
    (fget (at0 badLaunch).dev RF.BRG_START_STATUS_RECOVERY = 0) ∧
    (specOf 1 = some (specAt 1)) ∧
    (eReserved = if headCode (at0 badLaunch).dev (specAt 1) (runsAs 1 badLaunch) ≠ 0 then headCode (at0 badLaunch).dev (specAt 1) (runsAs 1
      badLaunch) else ringCode (at0 badLaunch).dev (specAt 1) (runsAs 1 badLaunch)) ∧
    (eReserved ≠ 0) :=
  ⟨List.mem_filter.mpr ⟨by simp [cmdRows], by decide⟩, by decide +kernel, by decide +kernel, (by rw [served_eq]; decide +kernel), by decide +kernel,
    by decide +kernel, by decide +kernel, by decide +kernel⟩

def w1_CommandRejections_bus : Ctx := ctxAt 160 (sideCmd (entryOf 160 [(4, 1)])) own0

def w2_CommandRejections_bus : Cmd := sideCmd (entryOf 160 [(4, 1)])

theorem wit_CommandRejections_bus :
    ((Instr.setEpoch, 160) ∈ List.filter (fun r => ! [67, 114, 118, 120, 145, 146, 147, 148, 152].contains r.snd) cmdRows) ∧
    (ctxOf 160 w2_CommandRejections_bus (at0 own0).dev = some w1_CommandRejections_bus) ∧
    ((at0 own0).dev.blocked = []) ∧
    (Served (at0 own0).dev 160 w1_CommandRejections_bus) ∧
    (fget (at0 own0).dev RF.BRG_START_STATUS_RECOVERY = 0) ∧
    (specOf 160 = some (specAt 160)) ∧
    (eReserved = if headCode (at0 own0).dev (specAt 160) w1_CommandRejections_bus ≠ 0 then headCode (at0 own0).dev (specAt 160)
      w1_CommandRejections_bus else ringCode (at0 own0).dev (specAt 160) w1_CommandRejections_bus) ∧
    (eReserved ≠ 0) :=
  ⟨List.mem_filter.mpr ⟨by simp [cmdRows], by decide⟩, by decide +kernel, by decide +kernel, (by rw [served_eq]; decide +kernel), by decide +kernel,
    by decide +kernel, by decide +kernel, by decide +kernel⟩

def w1_RingsMadeAndDropped_create : List Nat := pagesOf createDev 65536 4096 0

def w2_RingsMadeAndDropped_create : List Nat := pagesOf create1 131072 4160 1

def w3_RingsMadeAndDropped_create : List Nat := pagesOf create2 131072 8 0

theorem wit_RingsMadeAndDropped_create :
    (Admits (at0 createDev).dev 32 (cmdAt 0 1) (runsAs 32 createDev)) ∧
    (eb (runsAs 32 createDev).e 16 1 ≤ 1) ∧
    (6 ≤ eb (runsAs 32 createDev).e 17 1) ∧
    (eb (runsAs 32 createDev).e 17 1 ≤ 16) ∧
    (6 ≤ eb (runsAs 32 createDev).e 18 1) ∧
    (eb (runsAs 32 createDev).e 18 1 ≤ 16) ∧
    (eb (runsAs 32 createDev).e 20 2 < vectorsOf (runsAs 32 createDev).inst) ∧
    (eb (runsAs 32 createDev).e 24 8 % 4096 = 0) ∧
    (eb (runsAs 32 createDev).e 32 8 % 4096 = 0) ∧
    (eb (runsAs 32 createDev).e 40 8 % 64 = 0) ∧
    (4096 = entryBytesOf (eb (runsAs 32 createDev).e 16 1) * 2 ^ eb (runsAs 32 createDev).e 17 1) ∧
    (4160 = 64 + 32 * 2 ^ eb (runsAs 32 createDev).e 18 1) ∧
    (vaPages (at0 createDev).dev (runsAs 32 createDev).inst (eb (runsAs 32 createDev).e 24 8) 4096 0 = (create1, Sum.inr
      w1_RingsMadeAndDropped_create)) ∧
    (vaPages create1 (runsAs 32 createDev).inst (eb (runsAs 32 createDev).e 32 8) 4160 1 = (create2, Sum.inr w2_RingsMadeAndDropped_create)) ∧
    (vaPages create2 (runsAs 32 createDev).inst (eb (runsAs 32 createDev).e 32 8) 8 0 = (create3, Sum.inr w3_RingsMadeAndDropped_create)) ∧
    (feTranslate create3 (runsAs 32 createDev).inst (eb (runsAs 32 createDev).e 40 8) 0 = (create4, Sum.inl 2293824)) ∧
    (create4.blocked = []) ∧
    (anyMig create4 (runsAs 32 createDev).inst (eb (runsAs 32 createDev).e 24 8) 4096 = false) ∧
    (anyMig create4 (runsAs 32 createDev).inst (eb (runsAs 32 createDev).e 32 8) 4160 = false) ∧
    (anyMig create4 (runsAs 32 createDev).inst (eb (runsAs 32 createDev).e 40 8) 8 = false) ∧
    (inHost 2293824 = false ∨ coherentBinding create4 (runsAs 32 createDev).inst = true) ∧
    (tget create4.fe.marks (2293824 / 64) = none) ∧
    (fget create4 (RF.INS_QUOTA_RINGS_USED (runsAs 32 createDev).inst) < fget create4 (RF.INS_QUOTA_MAX_RINGS (runsAs 32 createDev).inst)) ∧
    (List.length create4.fe.rings < 4096) ∧
    (1 ≤ 2) ∧
    (2 ≤ 4095) ∧
    (∀ (m : Nat), 1 ≤ m → m ≤ 2 → (ringAt create4 (ringKey (runsAs 32 createDev).inst m) = none ↔ m = 2)) ∧
    (ringAt create4 (ringKey (runsAs 32 createDev).inst (runsAs 32 createDev).ring) = some ring0) ∧
    (ring0.dead = false) ∧
    ((storeAt create4 (runsAs 32 createDev).key).isSome = true) ∧
    ((runsAs 32 createDev).origin ≤ 2) :=
  ⟨admits_of (by decide +kernel), by decide +kernel, by decide +kernel, by decide +kernel, by decide +kernel, by decide +kernel, by decide +kernel,
    by decide +kernel, by decide +kernel, by decide +kernel, by decide +kernel, by decide +kernel, by decide +kernel, by decide +kernel,
    by decide +kernel, by decide +kernel, by decide +kernel, by decide +kernel, by decide +kernel, by decide +kernel, by decide +kernel,
    by decide +kernel, by decide +kernel, by decide +kernel, by decide +kernel, by decide +kernel,
    (by intro m h1 h2; obtain rfl | rfl : m = 1 ∨ m = 2 := (by omega)  <;> decide +kernel), by decide +kernel, by decide +kernel, by decide +kernel,
    by decide +kernel⟩

theorem wit_RingsMadeAndDropped_destroy :
    (Admits (at0 destroyDev).dev 33 (cmdAt 0 1) (runsAs 33 destroyDev)) ∧
    (eb (runsAs 33 destroyDev).e 16 2 < 4096) ∧
    (ringAt (at0 destroyDev).dev (ringKey (runsAs 33 destroyDev).inst (eb (runsAs 33 destroyDev).e 16 2)) = some ring0) ∧
    (eb (runsAs 33 destroyDev).e 16 2 ≠ (runsAs 33 destroyDev).ring) ∧
    (ring0.dead = true ∨ ring0.cplQ = [] ∧ ∀ (e : StoreEntry), e ∈ (at0 destroyDev).dev.fe.store → ringKey e.inst e.ring ≠ ringKey (runsAs 33
      destroyDev).inst (eb (runsAs 33 destroyDev).e 16 2)) ∧
    (∀ (p : Nat × Session), p ∈ (at0 destroyDev).dev.fe.sessions → p.snd.inst = (runsAs 33 destroyDev).inst → p.snd.cplRing = eb (runsAs 33
      destroyDev).e 16 2 → p.snd.state = SesState.closed) ∧
    ((runsAs 33 destroyDev).ring < 4096) ∧
    ((runsAs 33 destroyDev).origin ≤ 2) :=
  ⟨admits_of (by decide +kernel), by decide +kernel, by decide +kernel, by decide +kernel, by decide +kernel, by decide +kernel, by decide +kernel,
    by decide +kernel⟩

def w1_RingsMadeAndDropped_boot : Ring := (bootAt bootDev bootValue).snd.getD ring0

def w2_RingsMadeAndDropped_boot : Dev := (bootAt bootDev bootValue).fst

theorem wit_RingsMadeAndDropped_boot :
    (0 ≤ 32) ∧
    (bootValue % 2 = 1) ∧
    ((at0 bootDev).dev.blocked = []) ∧
    (0 = 0 ∨ fget (at0 bootDev).dev (RF.HST_BIND_STATUS_TDISP 0) = 0) ∧
    (wfget (at0 bootDev).dev 0 RF.WCH_BOOT_CTL_READY = 0) ∧
    (w2_RingsMadeAndDropped_boot.blocked = []) ∧
    (bootRing (winWrite (at0 bootDev).dev 0 Reg.WCH_BOOT_CTL (bootValue % 2 ^ 27 &&& 134217473)) 0 = (w2_RingsMadeAndDropped_boot, some
      w1_RingsMadeAndDropped_boot)) :=
  ⟨by decide +kernel, by decide +kernel, by decide +kernel, by decide +kernel, by decide +kernel, by decide +kernel, by decide +kernel⟩

theorem wit_RingsMadeAndDropped_boot_error :
    (0 ≤ 32) ∧
    (1 % 2 = 1) ∧
    ((at0 own0).dev.blocked = []) ∧
    (0 = 0 ∨ fget (at0 own0).dev (RF.HST_BIND_STATUS_TDISP 0) = 0) ∧
    (wfget (at0 own0).dev 0 RF.WCH_BOOT_CTL_READY = 0) ∧
    ((bootAt own0 1).fst.blocked = []) ∧
    (bootRing (winWrite (at0 own0).dev 0 Reg.WCH_BOOT_CTL (1 % 2 ^ 27 &&& 134217473)) 0 = ((bootAt own0 1).fst, none)) :=
  ⟨by decide +kernel, by decide +kernel, by decide +kernel, by decide +kernel, by decide +kernel, by decide +kernel, by decide +kernel⟩

theorem wit_RingService_wake :
    (ringAt (at0 serveDev).dev (ringKey 0 1) = some ring0) ∧
    (1 < 4096) ∧
    (0 ≤ 32) ∧
    (ringKey 0 1 ∈ (at0 serveDev).dev.fe.wakes) :=
  ⟨by decide +kernel, by decide +kernel, by decide +kernel, by decide +kernel⟩

theorem wit_RingService_turn :
    (ringAt (at0 serveDev).dev (ringKey 0 1) = some ring0) ∧
    (1 < 4096) ∧
    (0 ≤ 32) ∧
    (serving (at0 serveDev).dev = true) ∧
    ((at0 serveDev).dev.blocked = []) ∧
    (nextServed (at0 serveDev).dev = some (ringKey 0 1)) ∧
    (ring0.kind = 0) ∧
    (jnlMode (at0 serveDev).dev 0 = 0) ∧
    (ring0.watch % 64 = 0) ∧
    (HeldHome (at0 serveDev).dev (ring0.watch / 64) (homeLine 1)) ∧
    ((homeLine 1).poison = 0) ∧
    ((homeLine 1).data.toNat % 2 ^ 64 = ring0.read + 1) ∧
    (2097152 = pageLoc ring0.pages (64 * (ring0.read % 2 ^ ring0.sizeLog2))) ∧
    (2097152 % 64 = 0) ∧
    (HeldHome (at0 serveDev).dev (2097152 / 64) (homeLine 99)) ∧
    ((homeLine 99).poison = 0) ∧
    (2162704 = pageLoc ring0.cplPages 16) ∧
    (2162704 % 64 = 16) ∧
    (HeldHome (at0 serveDev).dev (2162704 / 64) (homeLine 0)) ∧
    ((specOf (entryOp (homeLine 99).data)).isSome = true) :=
  ⟨by decide +kernel, by decide +kernel, by decide +kernel, by decide +kernel, by decide +kernel, by decide +kernel, by decide +kernel,
    by decide +kernel, by decide +kernel, heldHome_of (by decide +kernel), by decide +kernel, by decide +kernel, by decide +kernel,
    by decide +kernel, heldHome_of (by decide +kernel), by decide +kernel, by decide +kernel, by decide +kernel, heldHome_of (by decide +kernel),
    by decide +kernel⟩

theorem wit_RingService_completion :
    (ringAt (at0 oweDev).dev (ringKey 0 1) = some oweRing) ∧
    (1 < 4096) ∧
    (0 ≤ 32) ∧
    (serving (at0 oweDev).dev = true) ∧
    ((at0 oweDev).dev.blocked = []) ∧
    (oweRing.dead = false) ∧
    (oweRing.cplQ = [cpl0]) ∧
    (oweRing.written < oweRing.consumed + 2 ^ oweRing.cplLog2) ∧
    (2162688 = oweRing.cplPages.headD 0) ∧
    (2162688 % 4096 = 0) ∧
    (oweRing.written % 2 ^ oweRing.cplLog2 < 126) ∧
    (jnlMode (at0 oweDev).dev 0 = 0) ∧
    (2162752 = 2162688 + 64 + 32 * (oweRing.written % 2 ^ oweRing.cplLog2)) ∧
    (HeldHome (at0 oweDev).dev (2162688 / 64) (homeLine 0)) ∧
    (HeldHome (at0 oweDev).dev (2162752 / 64) (homeLine 0)) ∧
    (locLive (at0 oweDev).dev 0 oweRing 2162688 = true) :=
  ⟨by decide +kernel, by decide +kernel, by decide +kernel, by decide +kernel, by decide +kernel, by decide +kernel, by decide +kernel,
    by decide +kernel, by decide +kernel, by decide +kernel, by decide +kernel, by decide +kernel, by decide +kernel,
    heldHome_of (by decide +kernel), heldHome_of (by decide +kernel), by decide +kernel⟩

def w1_RingService_message : MsixVec := { masked := false, pending := false : MsixVec }

theorem wit_RingService_message :
    (ringAt (at0 irqDev).dev (ringKey 0 1) = some irqRing) ∧
    (1 < 4096) ∧
    (0 ≤ 32) ∧
    (irqRing.irqDue = true) ∧
    (hasHost (at0 irqDev).dev 0 = true) ∧
    (tget (at0 irqDev).dev.host.msix (64 * 0 + irqRing.vector) = some w1_RingService_message) ∧
    (w1_RingService_message.masked = false) :=
  ⟨by decide +kernel, by decide +kernel, by decide +kernel, by decide +kernel, by decide +kernel, by decide +kernel, by decide +kernel⟩

end Sys2Proof.Tests
end

