-- ==== Sys2Proof/Tests/WitMapping.lean ====
section
/-!
SUPPORT. Premises of the statements about walks, fault batches, the commands of translation and homing, replica pairs and page moves, met together by
concrete states: one theorem for each clause.
-/
namespace Sys2Proof.Tests
open Sys2Proof Sys2Proof.Machine
set_option Elab.async false

/-- A group of instance 0 that waits for a walk of its loads. -/
def walkGroup : Group := { group0 with walks := [⟨0x12345, 0, 0, 1⟩] }

/-- Its core. -/
def walkCore : Core := { core0 with tlb := [], groups := [(0, walkGroup)] }

/-- A translation that the island's buffer holds. -/
def tlb0 : Tlb := ⟨0, 0x10000, 65536, 0x4000, true, true, true, false⟩

/-- The island's buffer answers. -/
def hitDev : Dev := { own0 with cores := [(0, walkCore)], disp := [(0, disp0)], xl := { own0.xl with l2 := [(0, tlb0)] } }

/-- A fault ring of 512 records. -/
def flt0 : FltInst := { FltInst.none with base := 0x100000, sizeLog2 := 9, ringSet := true }

/-- No table, and a fault ring. -/
def missDev : Dev := { own0 with cores := [(0, walkCore)], disp := [(0, disp0)], xl := { own0.xl with insts := [(0, flt0)] } }

/-- A fault record of instance 0 in a phase. -/
def rec0 (phase : Nat) : FltRec := ⟨0, 0, 0x12, 1, 4, 1, 1, 0x12345, false, 5, 0, 0, phase⟩

/-- A group that waits on record 7. -/
def faultGroup : Group := { group0 with faults := [⟨7, 0, none⟩] }

/-- A batch of one record: open, closed or written, with a core that waits on it. -/
def batchDev (phase : Nat) : Dev :=
  let d := fset (fset own0 (RF.HST_BIND_STATUS_BOUND 0) 1) (RF.FLT_STATUS_OPEN_RECORDS 0) (b2n (phase == 0))
  { d with
    cores := [(0, { core0 with groups := [(0, faultGroup)] })], disp := [(0, disp0)]
    xl := { d.xl with recs := [(7, rec0 phase)], nextRec := 8, insts := [(0, { flt0 with openTick := if phase = 0 then some 5 else none, producer := if phase = 2 then 1 else 0 })] } }

/-- A command of instance 0 on ring 1 of a module. -/
def cmdOn (d : Dev) (op : Nat) (body : List (Nat × Nat)) : Dev := withCmd d 0 1 (entryOf op body)

/-- SET_XLATE_ROOT. -/
def rootDev : Dev := cmdOn own0 0x30 [(26, 0x40)]

/-- SET_FAULT_RING. -/
def faultRingDev : Dev := cmdOn (fset own0 (RF.HST_BIND_STATUS_BOUND 0) 1) 0x32 [(17, 9), (18, 5), (26, 0x10)]

/-- RESUME_BATCH of batch 0, which retries or fails. -/
def resumeDev (fail : Nat) : Dev := cmdOn (batchDev 2) 0x33 [(17, fail), (24, 1)]

/-- XLATE_INVALIDATE of one page. -/
def invalDev : Dev :=
  cmdOn { own0 with cores := [(0, core0)], xl := { own0.xl with l2 := [(0, tlb0), (0, { tlb0 with va := 0x40000 })] } } 0x31 [(26, 1), (32, 1)]

/-- An invalidation whose drain has ended. -/
def inval0 : Inval := ⟨0, false, 0x10000, 1, false, [3], [(0, 9)], 0, some (cmdKey 0 1 0)⟩

/-- Its module. -/
def drainDev : Dev :=
  let d := cmdOn own0 0x31 [(26, 1), (32, 1)]
  { d with xl := { d.xl with invals := [inval0] }, fe := { d.fe with store := d.fe.store.map (fun e => { e with phase := 1 }) } }

/-- SET_HOME_SET. -/
def homeSetDev : Dev := cmdOn own0 0x40 [(16, 5), (24, 0x81), (29, 8)]

/-- SET_HOME_MAP of frames 3 and 4 to home set 5, whose island is 0, with a dirty line of frame 3 in the slice. -/
def homeMapDev : Dev :=
  let d := fset own0 (RF.SHC_HOME_SET_ISLANDS 5) 1
  cmdOn { d with shore := { d.shore with lines := [(3 * 2 ^ 15 + 9, ⟨7, true, 0, 0, false, .home, 0⟩)] } } 0x41 [(16, 5), (20, 3), (24, 2)]

/-- SET_MEM_REGULATOR of tier B. -/
def regulDev : Dev := cmdOn regDev 0x42 [(16, 1), (17, 33), (18, 7), (20, 200), (24, 5)]

/-- SET_MIG_POOL of frames 33 and 34 of frame 1. -/
def poolDev (op : Nat) (pool : List Nat) : Dev :=
  cmdOn { mapped0 with mem := { mapped0.mem with pools := [(0, pool)] } } 0x43 [(18, op), (20, 33), (24, 2)]

/-- REPLICA_CLEAR of pair 3. -/
def pairDev : Dev := cmdOn { own0 with ins := { own0.ins with pairs := [(3, ⟨0, 1, 1, 2 ^ 18⟩)] } } 0xC1 [(17, 3)]

def w1_WalksAndFaultBatches_hit : Walk := { va := 74565, key := 0, access := 0, engine := 1 : Walk }

theorem wit_WalksAndFaultBatches_hit :
    ((at0 hitDev).dev.blocked = []) ∧
    ((coreOf (at0 hitDev).dev 0).disp = some 0) ∧
    (tget (at0 hitDev).dev.disp 0 = some disp0) ∧
    (disp0.inst ≤ 32) ∧
    (canonical 74565 = true) ∧
    (1 ≤ 1) ∧
    (64 ≤ 64) ∧
    (neededWalk (coreOf (at0 hitDev).dev 0) 1 64 74565 = some w1_WalksAndFaultBatches_hit) ∧
    (List.find? (fun p => p.fst == 0 / 4 && p.snd.serves disp0.inst 74565 w1_WalksAndFaultBatches_hit.access) (at0 hitDev).dev.xl.l2 = some (0,
      tlb0)) :=
  ⟨by decide +kernel, by decide +kernel, by decide +kernel, by decide +kernel, by decide +kernel, by decide +kernel, by decide +kernel,
    by decide +kernel, by decide +kernel⟩

theorem wit_WalksAndFaultBatches_fault :
    ((at0 missDev).dev.blocked = []) ∧
    ((coreOf (at0 missDev).dev 0).disp = some 0) ∧
    (tget (at0 missDev).dev.disp 0 = some disp0) ∧
    (disp0.inst ≤ 32) ∧
    (canonical 74565 = true) ∧
    (1 ≤ 1) ∧
    (64 ≤ 64) ∧
    (neededWalk (coreOf (at0 missDev).dev 0) 1 64 74565 = some w1_WalksAndFaultBatches_hit) ∧
    (List.find? (fun p => p.fst == 0 / 4 && p.snd.serves disp0.inst 74565 w1_WalksAndFaultBatches_hit.access) (at0 missDev).dev.xl.l2 = none) ∧
    (fget (at0 missDev).dev (RF.TRN_ROOT_VALID disp0.inst) = 0) ∧
    ((fltOf (at0 missDev).dev disp0.inst).ringSet = true) ∧
    (fget (at0 missDev).dev (RF.FLT_STATUS_OPEN_RECORDS disp0.inst) < 256) ∧
    (∀ (p : Nat × FltRec), p ∈ (at0 missDev).dev.xl.recs → p.snd.inst = disp0.inst → p.snd.page ≠ 74565 / 4096) ∧
    ((List.filter (fun p => p.snd.island == 0 / 4 && p.snd.phase == 0) (at0 missDev).dev.xl.recs).length < 32) :=
  ⟨by decide +kernel, by decide +kernel, by decide +kernel, by decide +kernel, by decide +kernel, by decide +kernel, by decide +kernel,
    by decide +kernel, by decide +kernel, by decide +kernel, by decide +kernel, by decide +kernel, by decide +kernel, by decide +kernel⟩

theorem wit_WalksAndFaultBatches_close :
    (0 ≤ 32) ∧
    ((fltOf (at0 (batchDev 0)).dev 0).openTick ≠ none) ∧
    (0 = fget (at0 (batchDev 0)).dev (RF.FLT_STATUS_NEXT_BATCH 0)) :=
  ⟨by decide +kernel, by decide +kernel, by decide +kernel⟩

theorem wit_WalksAndFaultBatches_write :
    (0 ≤ 32) ∧
    ((at0 (batchDev 1)).dev.blocked = []) ∧
    (closedBatch (at0 (batchDev 1)).dev 0 = some 0) ∧
    (fltOf (batchDev 1) 0 = fltOf (at0 (batchDev 1)).dev 0) ∧
    ((fltOf (batchDev 1) 0).ringSet = true) ∧
    ((fltOf (batchDev 1) 0).producer + 256 ≤ (fltOf (batchDev 1) 0).consumed + 2 ^ (fltOf (batchDev 1) 0).sizeLog2) ∧
    ((fltOf (batchDev 1) 0).base + 64 + 32 * 2 ^ (fltOf (batchDev 1) 0).sizeLog2 ≤ 2 ^ 52) :=
  ⟨by decide +kernel, by decide +kernel, by decide +kernel, by decide +kernel, by decide +kernel, by decide +kernel, by decide +kernel⟩

theorem wit_TranslationCommands_root :
    (Admits (at0 rootDev).dev 48 (cmdAt 0 1) (runsAs 48 rootDev)) ∧
    (eb (runsAs 48 rootDev).e 24 8 < 2 ^ 42) ∧
    (eb (runsAs 48 rootDev).e 24 8 % 4096 = 0) ∧
    (insState (at0 rootDev).dev (eb (runsAs 48 rootDev).e 16 1) ≠ 0) ∧
    (insState (at0 rootDev).dev (eb (runsAs 48 rootDev).e 16 1) ≠ 4) ∧
    (∀ (p : Nat × Dispatch), p ∈ (at0 rootDev).dev.disp → p.snd.inst ≠ eb (runsAs 48 rootDev).e 16 1) ∧
    (∀ (p : Nat × Binding), p ∈ (at0 rootDev).dev.fe.bindings → p.snd.inst ≠ eb (runsAs 48 rootDev).e 16 1) :=
  ⟨admits_of (by decide +kernel), by decide +kernel, by decide +kernel, by decide +kernel, by decide +kernel, by decide +kernel, by decide +kernel⟩

theorem wit_TranslationCommands_ring :
    (Admits (at0 faultRingDev).dev 50 (cmdAt 0 1) (runsAs 50 faultRingDev)) ∧
    (0 = eb (runsAs 50 faultRingDev).e 16 1) ∧
    (9 ≤ eb (runsAs 50 faultRingDev).e 17 1) ∧
    (eb (runsAs 50 faultRingDev).e 17 1 ≤ 16) ∧
    (eb (runsAs 50 faultRingDev).e 18 2 ≤ 63) ∧
    (eb (runsAs 50 faultRingDev).e 24 8 % 4096 = 0) ∧
    (eb (runsAs 50 faultRingDev).e 24 8 < 2 ^ 52) ∧
    (inBinding (at0 faultRingDev).dev 0 (eb (runsAs 50 faultRingDev).e 24 8) (64 + 32 * 2 ^ eb (runsAs 50 faultRingDev).e 17 1) = true) ∧
    (insState (at0 faultRingDev).dev 0 ≠ 0) ∧
    (insState (at0 faultRingDev).dev 0 ≠ 4) ∧
    ((fltOf (at0 faultRingDev).dev 0).openTick = none) ∧
    (unresumed (at0 faultRingDev).dev 0 = []) :=
  ⟨admits_of (by decide +kernel), by decide +kernel, by decide +kernel, by decide +kernel, by decide +kernel, by decide +kernel, by decide +kernel,
    by decide +kernel, by decide +kernel, by decide +kernel, by decide +kernel, by decide +kernel⟩

theorem wit_TranslationCommands_retry :
    (Admits (at0 (resumeDev 0)).dev 51 (cmdAt 0 1) (runsAs 51 (resumeDev 0))) ∧
    (0 = eb (runsAs 51 (resumeDev 0)).e 16 1) ∧
    (eb (runsAs 51 (resumeDev 0)).e 17 1 ≤ 1) ∧
    (eb (runsAs 51 (resumeDev 0)).e 24 8 ≤ (fltOf (at0 (resumeDev 0)).dev 0).producer) ∧
    ((fltOf (at0 (resumeDev 0)).dev 0).consumed ≤ eb (runsAs 51 (resumeDev 0)).e 24 8) ∧
    (insState (at0 (resumeDev 0)).dev 0 ≠ 0) ∧
    (insState (at0 (resumeDev 0)).dev 0 ≠ 4) ∧
    (List.filter (fun p => p.snd.inst == 0 && p.snd.batch == eb (runsAs 51 (resumeDev 0)).e 20 4 && p.snd.phase == 2) (at0 (resumeDev
      0)).dev.xl.recs = [(7, rec0 2)]) :=
  ⟨admits_of (by decide +kernel), by decide +kernel, by decide +kernel, by decide +kernel, by decide +kernel, by decide +kernel, by decide +kernel,
    by decide +kernel⟩

theorem wit_TranslationCommands_fail :
    (Admits (at0 (resumeDev 1)).dev 51 (cmdAt 0 1) (runsAs 51 (resumeDev 1))) ∧
    (0 = eb (runsAs 51 (resumeDev 1)).e 16 1) ∧
    (eb (runsAs 51 (resumeDev 1)).e 17 1 ≤ 1) ∧
    (eb (runsAs 51 (resumeDev 1)).e 24 8 ≤ (fltOf (at0 (resumeDev 1)).dev 0).producer) ∧
    ((fltOf (at0 (resumeDev 1)).dev 0).consumed ≤ eb (runsAs 51 (resumeDev 1)).e 24 8) ∧
    (insState (at0 (resumeDev 1)).dev 0 ≠ 0) ∧
    (insState (at0 (resumeDev 1)).dev 0 ≠ 4) ∧
    (List.filter (fun p => p.snd.inst == 0 && p.snd.batch == eb (runsAs 51 (resumeDev 1)).e 20 4 && p.snd.phase == 2) (at0 (resumeDev
      1)).dev.xl.recs = [(7, rec0 2)]) :=
  ⟨admits_of (by decide +kernel), by decide +kernel, by decide +kernel, by decide +kernel, by decide +kernel, by decide +kernel, by decide +kernel,
    by decide +kernel⟩

theorem wit_TranslationCommands_invalidate :
    (Admits (at0 invalDev).dev 49 (cmdAt 0 1) (runsAs 49 invalDev)) ∧
    (0 = eb (runsAs 49 invalDev).e 16 1) ∧
    (eb (runsAs 49 invalDev).e 17 1 ≤ 1) ∧
    (eb (runsAs 49 invalDev).e 18 1 ≤ 1) ∧
    (eb (runsAs 49 invalDev).e 17 1 = 0 → 0 < eb (runsAs 49 invalDev).e 32 8 ∧ eb (runsAs 49 invalDev).e 32 8 ≤ 2 ^ 45 ∧ eb (runsAs 49 invalDev).e
      24 8 % 4096 = 0) ∧
    (insState (at0 invalDev).dev 0 ≠ 0) ∧
    (insState (at0 invalDev).dev 0 ≠ 4) :=
  ⟨admits_of (by decide +kernel), by decide +kernel, by decide +kernel, by decide +kernel, by decide +kernel, by decide +kernel, by decide +kernel⟩

def w1_TranslationCommands_drain : StoreEntry := { inst := 0, ring := 1, pos := 0, entry := entryOf 49 [(26, 1), (32, 1)], phase := 1, replay := false : StoreEntry }

theorem wit_TranslationCommands_drain :
    (0 ≤ 32) ∧
    ((at0 drainDev).dev.blocked = []) ∧
    (List.find? (fun v => v.inst == 0) (at0 drainDev).dev.xl.invals = some inval0) ∧
    (drained (at0 drainDev).dev inval0 = true) ∧
    (inval0.cmd = some (cmdKey 0 1 0)) ∧
    (inval0.pin = false) ∧
    (storeAt (at0 drainDev).dev (cmdKey 0 1 0) = some w1_TranslationCommands_drain) ∧
    (entryOp w1_TranslationCommands_drain.entry = 49) :=
  ⟨by decide +kernel, by decide +kernel, by decide +kernel, by decide +kernel, by decide +kernel, by decide +kernel, by decide +kernel,
    by decide +kernel⟩

theorem wit_HomingCommands_set :
    (Admits (at0 homeSetDev).dev 64 (cmdAt 0 1) (runsAs 64 homeSetDev)) ∧
    (5 = eb (runsAs 64 homeSetDev).e 16 1) ∧
    (8796093022337 = eb (runsAs 64 homeSetDev).e 24 8) ∧
    (1 ≤ 5) ∧
    (5 ≤ 63) ∧
    (0 < 8796093022337) ∧
    (8796093022337 < 2 ^ 44) ∧
    (8796093022337 < 2 ^ fget (at0 homeSetDev).dev RF.BRG_PKG_LEVEL_ENABLED_COUNT) ∧
    (∀ (p : Nat × Nat), p ∈ (at0 homeSetDev).dev.shore.homeMap → p.snd ≠ 5) :=
  ⟨admits_of (by decide +kernel), by decide +kernel, by decide +kernel, by decide +kernel, by decide +kernel, by decide +kernel, by decide +kernel,
    by decide +kernel, by decide +kernel⟩

theorem wit_HomingCommands_map :
    (Admits (at0 homeMapDev).dev 65 (cmdAt 0 1) (runsAs 65 homeMapDev)) ∧
    (5 = eb (runsAs 65 homeMapDev).e 16 1) ∧
    (3 = eb (runsAs 65 homeMapDev).e 20 4) ∧
    (2 = eb (runsAs 65 homeMapDev).e 24 4) ∧
    (5 ≤ 63) ∧
    (fget (at0 homeMapDev).dev (RF.SHC_HOME_SET_ISLANDS 5) ≠ 0) ∧
    (framesMapped (at0 homeMapDev).dev 3 2 = true) ∧
    ((runsAs 65 homeMapDev).origin = 2 → (0 < 5 → fget (at0 homeMapDev).dev (RF.SHC_HOME_SET_ISLANDS 5) &&& fget (at0 homeMapDev).dev
      (RF.INS_ISLANDS_ISLANDS (runsAs 65 homeMapDev).inst) = fget (at0 homeMapDev).dev (RF.SHC_HOME_SET_ISLANDS 5)) ∧ ∀ (fr : Nat), fr ∈ runOf 3 2
      → owns (at0 homeMapDev).dev (runsAs 65 homeMapDev).inst fr = true) ∧
    (∀ (k : Nat), k ∈ tkeys (at0 homeMapDev).dev.shore.dir → ¬k / 2 ^ 15 ∈ runOf 3 2) :=
  ⟨admits_of (by decide +kernel), by decide +kernel, by decide +kernel, by decide +kernel, by decide +kernel, by decide +kernel, by decide +kernel,
    by decide +kernel, by decide +kernel⟩

theorem wit_HomingCommands_regulator :
    (Admits (at0 regulDev).dev 66 (cmdAt 0 1) (runsAs 66 regulDev)) ∧
    (1 = eb (runsAs 66 regulDev).e 16 1) ∧
    (33 = eb (runsAs 66 regulDev).e 17 1) ∧
    (5 = eb (runsAs 66 regulDev).e 24 8) ∧
    (1 ≤ 1) ∧
    (33 ≤ 33) ∧
    (1 ≤ eb (runsAs 66 regulDev).e 20 2) ∧
    (eb (runsAs 66 regulDev).e 20 2 ≤ 256) ∧
    (1 = 1 → 5 < 2 ^ 32) :=
  ⟨admits_of (by decide +kernel), by decide +kernel, by decide +kernel, by decide +kernel, by decide +kernel, by decide +kernel, by decide +kernel,
    by decide +kernel, by decide +kernel⟩

def w1_HomingCommands_add : Ctx := runsAs 67 (poolDev 0 [40])

theorem wit_HomingCommands_add :
    (Admits (at0 (poolDev 0 [40])).dev 67 (cmdAt 0 1) w1_HomingCommands_add) ∧
    (0 = eb w1_HomingCommands_add.e 16 1) ∧
    (33 = eb w1_HomingCommands_add.e 20 4) ∧
    (2 = eb w1_HomingCommands_add.e 24 4) ∧
    (poolPagesOk (at0 (poolDev 0 [40])).dev 0 (eb w1_HomingCommands_add.e 17 1) 33 2 = true) ∧
    (insState (at0 (poolDev 0 [40])).dev 0 ≠ 0) ∧
    (insState (at0 (poolDev 0 [40])).dev 0 ≠ 4) ∧
    (eb w1_HomingCommands_add.e 18 1 = 0) ∧
    (∀ (k : Nat), k < 2 → ¬33 + k ∈ tgetD (at0 (poolDev 0 [40])).dev.mem.pools 0 []) :=
  ⟨admits_of (by decide +kernel), by decide +kernel, by decide +kernel, by decide +kernel, by decide +kernel, by decide +kernel, by decide +kernel,
    by decide +kernel, by decide +kernel⟩

def w1_HomingCommands_remove : Ctx := runsAs 67 (poolDev 1 [33, 40, 34])

def w2_HomingCommands_remove : State := at0 (poolDev 1 [33, 40, 34])

theorem wit_HomingCommands_remove :
    (Admits w2_HomingCommands_remove.dev 67 (cmdAt 0 1) w1_HomingCommands_remove) ∧
    (0 = eb w1_HomingCommands_remove.e 16 1) ∧
    (33 = eb w1_HomingCommands_remove.e 20 4) ∧
    (2 = eb w1_HomingCommands_remove.e 24 4) ∧
    (poolPagesOk w2_HomingCommands_remove.dev 0 (eb w1_HomingCommands_remove.e 17 1) 33 2 = true) ∧
    (insState w2_HomingCommands_remove.dev 0 ≠ 0) ∧
    (insState w2_HomingCommands_remove.dev 0 ≠ 4) ∧
    (eb w1_HomingCommands_remove.e 18 1 = 1) ∧
    (∀ (k : Nat), k < 2 → 33 + k ∈ tgetD w2_HomingCommands_remove.dev.mem.pools 0 []) :=
  ⟨admits_of (by decide +kernel), by decide +kernel, by decide +kernel, by decide +kernel, by decide +kernel, by decide +kernel, by decide +kernel,
    by decide +kernel, by decide +kernel⟩

def w1_HomingCommands_clear : Replica := { inst := 0, first := 1, frames := 1, copy := 2 ^ 18 : Replica }

theorem wit_HomingCommands_clear :
    (Admits (at0 pairDev).dev 193 (cmdAt 0 1) (runsAs 193 pairDev)) ∧
    (eb (runsAs 193 pairDev).e 17 1 ≤ 63) ∧
    (tget (at0 pairDev).dev.ins.pairs (eb (runsAs 193 pairDev).e 17 1) = some w1_HomingCommands_clear) ∧
    (w1_HomingCommands_clear.inst = eb (runsAs 193 pairDev).e 16 1) ∧
    (insState (at0 pairDev).dev (eb (runsAs 193 pairDev).e 16 1) ≠ 0) ∧
    (insState (at0 pairDev).dev (eb (runsAs 193 pairDev).e 16 1) ≠ 4) :=
  ⟨admits_of (by decide +kernel), by decide +kernel, by decide +kernel, by decide +kernel, by decide +kernel, by decide +kernel⟩

end Sys2Proof.Tests
end

