-- ==== Sys2Proof/Tests/WitJournals.lean ====
section
/-!
SUPPORT. Premises of the statements about journals and replay, met together by concrete states: one theorem for each clause.
-/
namespace Sys2Proof.Tests
open Sys2Proof Sys2Proof.Machine
set_option Elab.async false

/-- A command of instance 0 on ring 1 of the module with page tables. -/
def mapOn (op : Nat) (body : List (Nat × Nat)) : Dev := cmdOn mapped0 op body

/-- JOURNAL_START of instance 0 at 0x10000, with digests at 0x40000. -/
def jnlStartDev : Dev := mapOn 0x60 [(17, 20), (18, 2), (26, 1), (34, 4), (40, 64)]

/-- What the checks of JOURNAL_START leave, for the records and for the digests. -/
def jnlStart1 : Dev := (vaCheck jnlStartDev 0 0x10000 64 1).1
def jnlStart2 : Dev := (vaCheck jnlStart1 0 0x40000 64 0).1

/-- A journal at 0x10000 of 1 MiB. -/
def jnl0 : Journal := { Journal.none with base := 0x10000, sizeLog2 := 20, seq := 4 }

/-- Instance 0 records. -/
def recording (d : Dev) (j : Journal) : Dev :=
  let d := fset (fset d (RF.SES_JNL_STATUS_MODE 0) 1) (RF.SES_JNL_STATUS_JOURNAL 0) 3
  { d with fe := { d.fe with journals := [(0, j)] } }

/-- JOURNAL_STOP of instance 0. -/
def jnlStopDev (j : Journal) : Dev := recording (mapOn 0x61 []) j

/-- The END record. -/
def endRec : JRec := ⟨11, 0, 0xFFFF, 4, 0, 0xFFFFFFFF, 3, []⟩

/-- A journal with a record that waits for room. -/
def jnlWaits : Journal := { jnl0 with queue := [⟨2, 0, 1, 4, 0, 0xFFFFFFFF, 0, List.replicate 32 7⟩] }

/-- What is left when a record has been written. -/
def written (d : Dev) (r : JRec) : Dev := (jnlWrite d 0 r).1

/-- Bytes of instance 0 from 0x10000 on. -/
def feedCells (b : List (Nat × Byte)) : List Host.Cell := b.map (fun p => (0x210000 + p.1, p.2)) ++ tables

/-- REPLAY_START of a feed at 0x10000, whose first record is START, with a watch at 0x30000. -/
def replayStartDev : Dev :=
  let d := mapOn 0x62 [(17, 20), (18, 1), (26, 1), (34, 3)]
  { d with dram := { d.dram with cells := feedCells [(64, 1)] } }

def replayStart1 : Dev := (vaCheck replayStartDev 0 0x10000 64 1).1
def replayStart2 : Dev := (vaGiven replayStart1 0 0x10040 32 []).1
def replayStart3 : Dev := (vaCheck replayStart2 0 0x30000 8 0).1

/-- Instance 0 replays the feed at 0x10000, of which `produced` bytes are there. -/
def replaying (rec : List (Nat × Byte)) (produced : Nat) : Dev :=
  let d := fset (mapOn 0x62 [(17, 20), (26, 1), (34, 3)]) (RF.SES_JNL_STATUS_MODE 0) 2
  { d with
    dram := { d.dram with cells := feedCells (rec ++ [(0x20000, BitVec.ofNat 8 produced)]) }
    fe := { d.fe with store := [⟨0, 1, 0, entryOf 0x62 [], 1, false⟩],
                      journals := [(0, { Journal.none with feed := 0x10000, sizeLog2 := 20, watch := 0x30000, cmd := cmdKey 0 1 0 })] } }

/-- A feed whose first record is one that is counted alone, and one that is END. -/
def replayPlain : Dev := replaying [(64, 3)] 32
def replayEnd : Dev := replaying [(64, 11)] 32
/-- One whose first record is a command. -/
def replayCmd : Dev := replaying [(64, 2), (66, 1), (68, 64), (96, 0x63)] 96

/-- The steps of consuming a record. -/
def feed1 (d : Dev) : Dev := (vaGiven d 0 0x30000 8 (leBytes 8 0)).1
def feed2 (d : Dev) : Dev := (vaGiven (feed1 d) 0 0x10040 32 []).1
def feed3 (d : Dev) (n : Nat) : Dev := (vaGiven (feed2 d) 0 0x10060 n []).1
def headOf (d : Dev) : List Byte := (vaGiven (feed1 d) 0 0x10040 32 []).2.1
def bodyOf (d : Dev) (n : Nat) : List Byte := (vaGiven (feed2 d) 0 0x10060 n []).2.1
def feed4 (d : Dev) (n : Nat) : Dev := (replayRecord (feed3 d n) 0 (headOf d) (bodyOf d n)).getD d
def watchOf (d : Dev) : List Byte := (vaGiven d 0 0x30000 8 (leBytes 8 0)).2.1
def feed5 (d : Dev) (n : Nat) : Dev :=
  (vaWrite (modJnl (bump (feed4 d n) (Reg.SES_JNL_CNT_RECORDS 0)) 0 (fun j => { j with consumed := j.consumed + 32 + n })) 0
        ((jnlOf d 0).feed + 8) (leBytes 8 ((jnlOf d 0).consumed + 32 + n))).1

/-- What JOURNAL_START sets before its record, and with it. -/
def jnlStart3 : Dev :=
  modJnl (fset (fset (fset (fset jnlStart2 (RF.SES_JNL_STATUS_JOURNAL 0) 1) (RF.SES_JNL_STATUS_MODE 0) 1) (RF.SES_JNL_STATUS_HELD 0) 0)
    (RF.SES_JNL_STATUS_GAPPED 0) 0) 0 (fun _ => { Journal.none with
      base := 0x10000, sizeLog2 := 20, drop := false, digLaunch := true, digVa := 0x40000, digLen := 64 })
def jnlStart4 : Dev :=
  jnlRecord jnlStart3 0 1 0 0xFFFF 0 0xFFFFFFFF 1 (leBytes 8 jnlStart2.time.hw ++ leBytes 8 (regRead jnlStart2 Reg.LOG_EPOCH) ++ List.replicate 16 0)

theorem wit_Journals_start :
    (0 ≤ 32) ∧
    (Admits (at0 jnlStartDev).dev 96 (cmdAt 0 1) (runsAs 96 jnlStartDev)) ∧
    (0 = eb (runsAs 96 jnlStartDev).e 16 1) ∧
    (65536 = eb (runsAs 96 jnlStartDev).e 24 8) ∧
    (262144 = eb (runsAs 96 jnlStartDev).e 32 8) ∧
    (64 = eb (runsAs 96 jnlStartDev).e 40 4) ∧
    (journalSizeOk (eb (runsAs 96 jnlStartDev).e 17 1) = true) ∧
    (64 % 32 = 0) ∧
    (64 ≤ 16777216) ∧
    (bitOf (eb (runsAs 96 jnlStartDev).e 18 1) 1 = true → 64 ≠ 0) ∧
    (65536 % 4096 = 0) ∧
    (262144 % 32 = 0) ∧
    (vaCheck (at0 jnlStartDev).dev 0 65536 64 1 = (jnlStart1, 0)) ∧
    ((if bitOf (eb (runsAs 96 jnlStartDev).e 18 1) 1 = true then vaCheck jnlStart1 0 262144 64 0 else (jnlStart1, 0)) = (jnlStart2, 0)) ∧
    (insState jnlStart2 0 ≠ 0) ∧
    (insState jnlStart2 0 ≠ 4) ∧
    (jnlMode jnlStart2 0 = 0) ∧
    (hasDispatch jnlStart2 0 = false) ∧
    (1 = (fget jnlStart2 (RF.SES_JNL_STATUS_JOURNAL 0) + 1) % 2 ^ 32) ∧
    (jnlStart3 =  modJnl (fset (fset (fset (fset jnlStart2 (RF.SES_JNL_STATUS_JOURNAL 0) 1) (RF.SES_JNL_STATUS_MODE 0) 1) (RF.SES_JNL_STATUS_HELD
      0) 0) (RF.SES_JNL_STATUS_GAPPED 0) 0) 0 fun x =>   have __src := Journal.none;   { base := 65536, sizeLog2 := eb (runsAs 96 jnlStartDev).e 17 1, drop := bitOf (eb (runsAs 96 jnlStartDev).e 18 1) 0, digLaunch := bitOf (eb (runsAs 96 jnlStartDev).e 18 1) 1, digVa := 262144, digLen := 64, produced := __src.produced, consumed := __src.consumed, records := __src.records, totalLost := __src.totalLost, lost := __src.lost, seq := __src.seq, queue := __src.queue, stopping := __src.stopping, digests := __src.digests, cmd := __src.cmd, stopFirst := __src.stopFirst, watch := __src.watch, feed := __src.feed, expect := __src.expect, outcomes := __src.outcomes, first := __src.first, diverged := __src.diverged, lastSeq := __src.lastSeq : Journal }) ∧
    (jnlStart4 = jnlRecord jnlStart3 0 1 0 65535 0 4294967295 1 (leBytes 8 jnlStart2.time.hw ++ leBytes 8 (regRead jnlStart2 Reg.LOG_EPOCH) ++
      List.replicate 16 0)) ∧
    (jnlStart4.blocked = []) ∧
    (jnlStart4.fe.store = (at0 jnlStartDev).dev.fe.store) ∧
    (jnlStart4.fe.rings = (at0 jnlStartDev).dev.fe.rings) :=
  ⟨by decide +kernel, admits_of (by decide +kernel), by decide +kernel, by decide +kernel, by decide +kernel, by decide +kernel, by decide +kernel,
    by decide +kernel, by decide +kernel, by decide +kernel, by decide +kernel, by decide +kernel, by decide +kernel, by decide +kernel,
    by decide +kernel, by decide +kernel, by decide +kernel, by decide +kernel, by decide +kernel, by decide +kernel, by decide +kernel,
    by decide +kernel, by decide +kernel, by decide +kernel⟩

def w1_Journals_stop : Dev := written (jnlStopDev jnl0) endRec

def w2_Journals_stop : Ctx := runsAs 97 (jnlStopDev jnl0)

theorem wit_Journals_stop :
    (0 ≤ 32) ∧
    (Admits (at0 (jnlStopDev jnl0)).dev 97 (cmdAt 0 1) w2_Journals_stop) ∧
    (0 = eb w2_Journals_stop.e 16 1) ∧
    (insState (at0 (jnlStopDev jnl0)).dev 0 ≠ 0) ∧
    (insState (at0 (jnlStopDev jnl0)).dev 0 ≠ 4) ∧
    (jnlMode (at0 (jnlStopDev jnl0)).dev 0 = 1) ∧
    (jnl0 = jnlOf (at0 (jnlStopDev jnl0)).dev 0) ∧
    (jnl0.stopping = none) ∧
    (endRec = { kind := 11, flags := 0, ring := 65535, seq := jnl0.seq, step := 0, session := 4294967295, aux := fget (at0 (jnlStopDev jnl0)).dev (RF.SES_JNL_STATUS_JOURNAL 0), payload := [] : JRec }) ∧
    (jnl0.queue = []) ∧
    (jnl0.lost = 0) ∧
    (jnlWrite (at0 (jnlStopDev jnl0)).dev 0 endRec = (w1_Journals_stop, true)) ∧
    (w1_Journals_stop.blocked = []) ∧
    (w1_Journals_stop.fe.store = (at0 (jnlStopDev jnl0)).dev.fe.store) ∧
    (w1_Journals_stop.fe.rings = (at0 (jnlStopDev jnl0)).dev.fe.rings) :=
  ⟨by decide +kernel, admits_of (by decide +kernel), by decide +kernel, by decide +kernel, by decide +kernel, by decide +kernel, by decide +kernel,
    by decide +kernel, by decide +kernel, by decide +kernel, by decide +kernel, by decide +kernel, by decide +kernel, by decide +kernel,
    by decide +kernel⟩

def w1_Journals_stop_waits : Ctx := runsAs 97 (jnlStopDev jnlWaits)

def w2_Journals_stop_waits : State := at0 (jnlStopDev jnlWaits)

theorem wit_Journals_stop_waits :
    (0 ≤ 32) ∧
    (Admits w2_Journals_stop_waits.dev 97 (cmdAt 0 1) w1_Journals_stop_waits) ∧
    (0 = eb w1_Journals_stop_waits.e 16 1) ∧
    (insState w2_Journals_stop_waits.dev 0 ≠ 0) ∧
    (insState w2_Journals_stop_waits.dev 0 ≠ 4) ∧
    (jnlMode w2_Journals_stop_waits.dev 0 = 1) ∧
    (jnlWaits = jnlOf w2_Journals_stop_waits.dev 0) ∧
    (jnlWaits.stopping = none) ∧
    (endRec = { kind := 11, flags := 0, ring := 65535, seq := jnlWaits.seq, step := 0, session := 4294967295, aux := fget w2_Journals_stop_waits.dev (RF.SES_JNL_STATUS_JOURNAL 0), payload := [] : JRec }) ∧
    (jnlWaits.queue ≠ [] ∨ jnlWaits.lost ≠ 0) :=
  ⟨by decide +kernel, admits_of (by decide +kernel), by decide +kernel, by decide +kernel, by decide +kernel, by decide +kernel, by decide +kernel,
    by decide +kernel, by decide +kernel, by decide +kernel⟩

def w1_Journals_room : Dev := written (recording mapped0 jnlWaits) { kind := 2, flags := 0, ring := 1, seq := 4, step := 0, session := 4294967295, aux := 0, payload := List.replicate 32 7 : JRec }

def w2_Journals_room : JRec := { kind := 2, flags := 0, ring := 1, seq := 4, step := 0, session := 4294967295, aux := 0, payload := List.replicate 32 7 : JRec }

def w3_Journals_room : State := at0 (recording mapped0 jnlWaits)

theorem wit_Journals_room :
    (0 ≤ 32) ∧
    (jnlMode w3_Journals_room.dev 0 = 1) ∧
    ((jnlOf w3_Journals_room.dev 0).queue = [w2_Journals_room]) ∧
    ((jnlOf w3_Journals_room.dev 0).lost = 0) ∧
    ((jnlOf w3_Journals_room.dev 0).stopping = none) ∧
    (jnlWrite w3_Journals_room.dev 0 w2_Journals_room = (w1_Journals_room, true)) ∧
    (w1_Journals_room.blocked = []) :=
  ⟨by decide +kernel, by decide +kernel, by decide +kernel, by decide +kernel, by decide +kernel, by decide +kernel, by decide +kernel⟩

def w1_Replay_start : List Byte := (vaGiven replayStart1 0 65600 32 []).snd.fst

theorem wit_Replay_start :
    (0 ≤ 32) ∧
    (Admits (at0 replayStartDev).dev 98 (cmdAt 0 1) (runsAs 98 replayStartDev)) ∧
    (0 = eb (runsAs 98 replayStartDev).e 16 1) ∧
    (65536 = eb (runsAs 98 replayStartDev).e 24 8) ∧
    (196608 = eb (runsAs 98 replayStartDev).e 32 8) ∧
    (journalSizeOk (eb (runsAs 98 replayStartDev).e 17 1) = true) ∧
    (65536 % 4096 = 0) ∧
    (196608 % 64 = 0) ∧
    (vaCheck (at0 replayStartDev).dev 0 65536 64 1 = (replayStart1, 0)) ∧
    (vaGiven replayStart1 0 (65536 + 64) 32 (runsAs 98 replayStartDev).payload = (replayStart2, w1_Replay_start, 0)) ∧
    (vaCheck replayStart2 0 196608 8 0 = (replayStart3, 0)) ∧
    (w1_Replay_start.getD 0 0 = 1) ∧
    (replayStart3.blocked = []) ∧
    (replayStart3.fe = (at0 replayStartDev).dev.fe) ∧
    (insState replayStart3 0 ≠ 0) ∧
    (insState replayStart3 0 ≠ 4) ∧
    (jnlMode replayStart3 0 = 0) ∧
    (hasDispatch replayStart3 0 = false) ∧
    (∀ (p : Nat × Session), p ∈ replayStart3.fe.sessions → p.snd.inst = 0 → p.snd.state ≠ SesState.running) :=
  ⟨by decide +kernel, admits_of (by decide +kernel), by decide +kernel, by decide +kernel, by decide +kernel, by decide +kernel, by decide +kernel,
    by decide +kernel, by decide +kernel, by decide +kernel, by decide +kernel, by decide +kernel, by decide +kernel, by decide +kernel,
    by decide +kernel, by decide +kernel, by decide +kernel, by decide +kernel, by decide +kernel⟩

theorem wit_Replay_record :
    (0 ≤ 32) ∧
    (jnlMode (at0 replayPlain).dev 0 = 2) ∧
    (serving (at0 replayPlain).dev = true) ∧
    (vaGiven (at0 replayPlain).dev 0 (jnlOf (at0 replayPlain).dev 0).watch 8 (leBytes 8 0) = (feed1 replayPlain, watchOf replayPlain, 0)) ∧
    ((jnlOf (at0 replayPlain).dev 0).consumed < ofLe (watchOf replayPlain)) ∧
    (replayReady (feed1 replayPlain) 0 = false) ∧
    (65600 = (jnlOf (at0 replayPlain).dev 0).feed + 64 + (jnlOf (at0 replayPlain).dev 0).consumed % 2 ^ (jnlOf (at0 replayPlain).dev 0).sizeLog2) ∧
    (vaGiven (feed1 replayPlain) 0 65600 32 [] = (feed2 replayPlain, headOf replayPlain, 0)) ∧
    (0 = ofLe (List.take 4 (List.drop 4 (headOf replayPlain)))) ∧
    (vaGiven (feed2 replayPlain) 0 (65600 + 32) 0 (List.drop 32 []) = (feed3 replayPlain 0, bodyOf replayPlain 0, 0)) ∧
    (replayRecord (feed3 replayPlain 0) 0 (headOf replayPlain) (bodyOf replayPlain 0) = some (feed4 replayPlain 0)) ∧
    (feed5 replayPlain 0 = (vaWrite (modJnl (bump (feed4 replayPlain 0) (Reg.SES_JNL_CNT_RECORDS 0)) 0 fun j => { base := j.base, sizeLog2 := j.sizeLog2, drop := j.drop, digLaunch := j.digLaunch, digVa := j.digVa, digLen := j.digLen, produced := j.produced, consumed := j.consumed + 32 + 0, records := j.records, totalLost := j.totalLost, lost := j.lost, seq := j.seq, queue := j.queue, stopping := j.stopping, digests := j.digests, cmd := j.cmd, stopFirst := j.stopFirst, watch := j.watch, feed := j.feed, expect := j.expect, outcomes := j.outcomes, first := j.first, diverged := j.diverged, lastSeq := j.lastSeq : Journal })
      0 ((jnlOf (at0 replayPlain).dev 0).feed + 8) (leBytes 8 ((jnlOf (at0 replayPlain).dev 0).consumed + 32 + 0))).fst) ∧
    ((feed5 replayPlain 0).blocked = []) :=
  ⟨by decide +kernel, by decide +kernel, by decide +kernel, by decide +kernel, by decide +kernel, by decide +kernel, by decide +kernel,
    by decide +kernel, by decide +kernel, by decide +kernel, by decide +kernel, by decide +kernel, by decide +kernel⟩

theorem wit_Replay_command :
    (0 ≤ 32) ∧
    (jnlMode (at0 replayCmd).dev 0 = 2) ∧
    (serving (at0 replayCmd).dev = true) ∧
    (vaGiven (at0 replayCmd).dev 0 (jnlOf (at0 replayCmd).dev 0).watch 8 (leBytes 8 0) = (feed1 replayCmd, watchOf replayCmd, 0)) ∧
    ((jnlOf (at0 replayCmd).dev 0).consumed < ofLe (watchOf replayCmd)) ∧
    (replayReady (feed1 replayCmd) 0 = false) ∧
    (65600 = (jnlOf (at0 replayCmd).dev 0).feed + 64 + (jnlOf (at0 replayCmd).dev 0).consumed % 2 ^ (jnlOf (at0 replayCmd).dev 0).sizeLog2) ∧
    (vaGiven (feed1 replayCmd) 0 65600 32 [] = (feed2 replayCmd, headOf replayCmd, 0)) ∧
    (64 = ofLe (List.take 4 (List.drop 4 (headOf replayCmd)))) ∧
    (vaGiven (feed2 replayCmd) 0 (65600 + 32) 64 (List.drop 32 []) = (feed3 replayCmd 64, bodyOf replayCmd 64, 0)) ∧
    (replayRecord (feed3 replayCmd 64) 0 (headOf replayCmd) (bodyOf replayCmd 64) = some (feed4 replayCmd 64)) ∧
    (feed5 replayCmd 64 = (vaWrite (modJnl (bump (feed4 replayCmd 64) (Reg.SES_JNL_CNT_RECORDS 0)) 0 fun j => { base := j.base, sizeLog2 := j.sizeLog2, drop := j.drop, digLaunch := j.digLaunch, digVa := j.digVa, digLen := j.digLen, produced := j.produced, consumed := j.consumed + 32 + 64, records := j.records, totalLost := j.totalLost, lost := j.lost, seq := j.seq, queue := j.queue, stopping := j.stopping, digests := j.digests, cmd := j.cmd, stopFirst := j.stopFirst, watch := j.watch, feed := j.feed, expect := j.expect, outcomes := j.outcomes, first := j.first, diverged := j.diverged, lastSeq := j.lastSeq : Journal })
      0 ((jnlOf (at0 replayCmd).dev 0).feed + 8) (leBytes 8 ((jnlOf (at0 replayCmd).dev 0).consumed + 32 + 64))).fst) ∧
    ((feed5 replayCmd 64).blocked = []) :=
  ⟨by decide +kernel, by decide +kernel, by decide +kernel, by decide +kernel, by decide +kernel, by decide +kernel, by decide +kernel,
    by decide +kernel, by decide +kernel, by decide +kernel, by decide +kernel, by decide +kernel, by decide +kernel⟩

theorem wit_Replay_end :
    (0 ≤ 32) ∧
    (jnlMode (at0 replayEnd).dev 0 = 2) ∧
    (serving (at0 replayEnd).dev = true) ∧
    (vaGiven (at0 replayEnd).dev 0 (jnlOf (at0 replayEnd).dev 0).watch 8 (leBytes 8 0) = (feed1 replayEnd, watchOf replayEnd, 0)) ∧
    ((jnlOf (at0 replayEnd).dev 0).consumed < ofLe (watchOf replayEnd)) ∧
    (replayReady (feed1 replayEnd) 0 = false) ∧
    (65600 = (jnlOf (at0 replayEnd).dev 0).feed + 64 + (jnlOf (at0 replayEnd).dev 0).consumed % 2 ^ (jnlOf (at0 replayEnd).dev 0).sizeLog2) ∧
    (vaGiven (feed1 replayEnd) 0 65600 32 [] = (feed2 replayEnd, headOf replayEnd, 0)) ∧
    (0 = ofLe (List.take 4 (List.drop 4 (headOf replayEnd)))) ∧
    (vaGiven (feed2 replayEnd) 0 (65600 + 32) 0 (List.drop 32 []) = (feed3 replayEnd 0, bodyOf replayEnd 0, 0)) ∧
    (replayRecord (feed3 replayEnd 0) 0 (headOf replayEnd) (bodyOf replayEnd 0) = some (feed4 replayEnd 0)) ∧
    (feed5 replayEnd 0 = (vaWrite (modJnl (bump (feed4 replayEnd 0) (Reg.SES_JNL_CNT_RECORDS 0)) 0 fun j => { base := j.base, sizeLog2 := j.sizeLog2, drop := j.drop, digLaunch := j.digLaunch, digVa := j.digVa, digLen := j.digLen, produced := j.produced, consumed := j.consumed + 32 + 0, records := j.records, totalLost := j.totalLost, lost := j.lost, seq := j.seq, queue := j.queue, stopping := j.stopping, digests := j.digests, cmd := j.cmd, stopFirst := j.stopFirst, watch := j.watch, feed := j.feed, expect := j.expect, outcomes := j.outcomes, first := j.first, diverged := j.diverged, lastSeq := j.lastSeq : Journal })
      0 ((jnlOf (at0 replayEnd).dev 0).feed + 8) (leBytes 8 ((jnlOf (at0 replayEnd).dev 0).consumed + 32 + 0))).fst) ∧
    ((feed5 replayEnd 0).blocked = []) :=
  ⟨by decide +kernel, by decide +kernel, by decide +kernel, by decide +kernel, by decide +kernel, by decide +kernel, by decide +kernel,
    by decide +kernel, by decide +kernel, by decide +kernel, by decide +kernel, by decide +kernel, by decide +kernel⟩

end Sys2Proof.Tests
end

