-- ==== Sys2Proof/Tests/WitFabric.lean ====
section
/-!
SUPPORT. Premises of the statements about the fabric commands, met together by concrete states: one theorem for each clause.
-/
namespace Sys2Proof.Tests
open Sys2Proof Sys2Proof.Machine
set_option Elab.async false

/-- The device 100 of the archipelago, with the page tables of instance 0, whose pages hold bytes. -/
def netMapped (b : List Host.Cell) : Dev :=
  let d := fset (fset net0 (RF.TRN_ROOT_VALID 0) 1) (RF.TRN_ROOT_ROOT 0) 0x400
  { d with dram := { d.dram with cells := b ++ tables }, ins := { d.ins with owner := [(1, 0), (2, 0), (3, 0), (4, 0), (5, 0), (6, 0), (2 ^ 18, 0)] } }

/-- The module alone: no number yet, and no port up. -/
def aloneDev : Dev := cmdOn own0 0x70 [(16, 100)]

/-- FAB_ROUTE_SET of devices 200 and 201, by a buffer at 0x10000. -/
def routeDev : Dev := cmdOn (netMapped [(0x210000, 2), (0x210002, 3)]) 0x71 [(16, 200), (18, 2), (26, 1)]

/-- FAB_ARCH_SET: archipelago 7; this device's own index 3, and device 400 as member 5; a departure of device 200. -/
def archSelf : Dev := cmdOn { net0 with fab := { net0.fab with members := [] } } 0x72 [(16, 7), (18, 3), (20, 100)]
def inArch : Dev := fset (fset net0 RF.FAB_STATUS_ARCH_VALID 1) RF.FAB_STATUS_ARCH_ID 7
def archOther : Dev := cmdOn inArch 0x72 [(16, 7), (18, 5), (20, 0x90), (21, 1)]
def archOut : Dev := cmdOn inArch 0x72 [(16, 7), (18, 1), (19, 1), (20, 200)]
def archOut1 : Dev := departMember (returnPeerLines archOut 200) 1

/-- FAB_EXPORT of frames 5 and 6 to device 200, and FAB_UNEXPORT of export 0. -/
def exportDev : Dev := cmdOn net0 0x73 [(17, 5), (20, 200), (24, 5), (28, 2)]
def unexportDev : Dev := cmdOn net0 0x74 []

/-- MCAST_GROUP_SET of group 4: one base, at 0x10000. -/
def groupDev : Dev := cmdOn (netMapped [(0x210001, 0x12), (0x210006, 0x20), (0x210005, 0x03)]) 0x75 [(16, 4), (17, 1), (26, 1)]

/-- MCAST_SEND of 64 bytes at 0x10000 to group 4. -/
def sendDev : Dev :=
  let d := netMapped [(0x210000, 9)]
  cmdOn { d with fab := { d.fab with groups := [(4, [200 * 2 ^ 42 + 0x6000])] } } 0x76 [(16, 4), (26, 1), (32, 64), (41, 1)]

/-- COMM_CREATE of devices 200, 100 and 300. -/
def commDev : Dev := cmdOn (netMapped [(0x210000, 200), (0x210002, 100), (0x210004, 44), (0x210005, 1)]) 0x77 [(16, 3), (26, 1), (32, 0x55)]

/-- A communicator of three ranks, of which this device is rank 0 or rank 1. -/
def comm0 (rank : Nat) : Comm := ⟨0, 0x55, if rank = 0 then [100, 200, 300] else [200, 100, 300], rank, 6, [], []⟩

/-- A collective of that communicator: a barrier, or a reduction of four words. -/
def collDev (rank kind : Nat) : Dev :=
  let d := netMapped []
  cmdOn { d with fab := { d.fab with comms := [(2, comm0 rank)] } } 0x78
    ([(16, 2), (18, kind)] ++ if kind = 0 then [] else [(26, 1), (34, 2), (40, 4)])

/-- COMM_DESTROY. -/
def uncommDev : Dev := cmdOn { net0 with fab := { net0.fab with comms := [(2, comm0 0)] } } 0x79 [(16, 2)]

/-- Rank 1 of three has no children. -/
def leafRank : List Nat := []

/-- A buffer at 0x10000, and what checking a range leaves. -/
def buf (d : Dev) (n : Nat) : Dev := (vaGiven d 0 0x10000 n []).1
def bufBytes (d : Dev) (n : Nat) : List Byte := (vaGiven d 0 0x10000 n []).2.1
def checked (d : Dev) (va n access : Nat) : Dev := (vaCheck d 0 va n access).1

theorem wit_FabricCommands_device :
    (Admits (at0 aloneDev).dev 112 (cmdAt 0 1) (runsAs 112 aloneDev)) ∧
    (eb (runsAs 112 aloneDev).e 16 2 ≤ 32767) ∧
    (∀ (p : Nat), p < 16 → fget (at0 aloneDev).dev (RF.FAB_PORT_STATUS_STATE p) = 0) :=
  ⟨admits_of (by decide +kernel), by decide +kernel, by decide +kernel⟩

theorem wit_FabricCommands_route :
    (Admits (at0 routeDev).dev 113 (cmdAt 0 1) (runsAs 113 routeDev)) ∧
    (200 = eb (runsAs 113 routeDev).e 16 2) ∧
    (2 = eb (runsAs 113 routeDev).e 18 2) ∧
    (0 < 2) ∧
    (200 + 2 ≤ 32768) ∧
    (cmdBuffer (at0 routeDev).dev (runsAs 113 routeDev) (eb (runsAs 113 routeDev).e 24 8) (2 * 2) = (buf routeDev 4, bufBytes routeDev 4, 0)) ∧
    ((buf routeDev 4).blocked = []) ∧
    ((buf routeDev 4).fe = (at0 routeDev).dev.fe) ∧
    ((buf routeDev 4).fab = (at0 routeDev).dev.fab) ∧
    ((at0 routeDev).dev.fab.waiting = []) :=
  ⟨admits_of (by decide +kernel), by decide +kernel, by decide +kernel, by decide +kernel, by decide +kernel, by decide +kernel, by decide +kernel,
    by decide +kernel, by decide +kernel, by decide +kernel⟩

theorem wit_FabricCommands_self :
    (Admits (at0 archSelf).dev 114 (cmdAt 0 1) (runsAs 114 archSelf)) ∧
    (7 = eb (runsAs 114 archSelf).e 16 2) ∧
    (3 = eb (runsAs 114 archSelf).e 18 1) ∧
    (100 = eb (runsAs 114 archSelf).e 20 2) ∧
    (3 ≤ 63) ∧
    (100 ≤ 32767) ∧
    (eb (runsAs 114 archSelf).e 19 1 = 0) ∧
    (tget (at0 archSelf).dev.fab.members 3 = none) ∧
    ((at0 archSelf).dev.fab.notes = []) ∧
    (ownDevice (at0 archSelf).dev 100 = true) ∧
    (fget (at0 archSelf).dev RF.FAB_STATUS_ARCH_VALID = 0) :=
  ⟨admits_of (by decide +kernel), by decide +kernel, by decide +kernel, by decide +kernel, by decide +kernel, by decide +kernel, by decide +kernel,
    by decide +kernel, by decide +kernel, by decide +kernel, by decide +kernel⟩

theorem wit_FabricCommands_admit :
    (Admits (at0 archOther).dev 114 (cmdAt 0 1) (runsAs 114 archOther)) ∧
    (7 = eb (runsAs 114 archOther).e 16 2) ∧
    (5 = eb (runsAs 114 archOther).e 18 1) ∧
    (400 = eb (runsAs 114 archOther).e 20 2) ∧
    (5 ≤ 63) ∧
    (400 ≤ 32767) ∧
    (eb (runsAs 114 archOther).e 19 1 = 0) ∧
    (tget (at0 archOther).dev.fab.members 5 = none) ∧
    ((at0 archOther).dev.fab.notes = []) ∧
    (ownDevice (at0 archOther).dev 400 = false) ∧
    (fget (at0 archOther).dev RF.FAB_STATUS_ARCH_VALID = 1) ∧
    (fget (at0 archOther).dev RF.FAB_STATUS_ARCH_ID = 7) ∧
    (fget (at0 archOther).dev RF.FAB_STATUS_MY_MEMBER ≠ 5) ∧
    (memberOf (at0 archOther).dev 400 = none) ∧
    (∀ (p : Nat × Member), p ∈ (at0 archOther).dev.fab.members → p.snd.device ≠ 400) :=
  ⟨admits_of (by decide +kernel), by decide +kernel, by decide +kernel, by decide +kernel, by decide +kernel, by decide +kernel, by decide +kernel,
    by decide +kernel, by decide +kernel, by decide +kernel, by decide +kernel, by decide +kernel, by decide +kernel, by decide +kernel,
    by decide +kernel⟩

theorem wit_FabricCommands_depart :
    (Admits (at0 archOut).dev 114 (cmdAt 0 1) (runsAs 114 archOut)) ∧
    (7 = eb (runsAs 114 archOut).e 16 2) ∧
    (1 = eb (runsAs 114 archOut).e 18 1) ∧
    (200 = eb (runsAs 114 archOut).e 20 2) ∧
    (1 ≤ 63) ∧
    (200 ≤ 32767) ∧
    (eb (runsAs 114 archOut).e 19 1 = 1) ∧
    (fget (at0 archOut).dev (RF.SHC_EPOCH_VALID 1) = 1) ∧
    (fget (at0 archOut).dev (RF.SHC_EPOCH_DEVICE 1) = 200) ∧
    (fget (at0 archOut).dev RF.FAB_STATUS_ARCH_ID = 7) ∧
    (archOut1 = departMember (returnPeerLines (at0 archOut).dev 200) 1) ∧
    (archOut1.blocked = []) ∧
    (archOut1.fe.store = (at0 archOut).dev.fe.store) ∧
    (archOut1.fe.rings = (at0 archOut).dev.fe.rings) :=
  ⟨admits_of (by decide +kernel), by decide +kernel, by decide +kernel, by decide +kernel, by decide +kernel, by decide +kernel, by decide +kernel,
    by decide +kernel, by decide +kernel, by decide +kernel, by decide +kernel, by decide +kernel, by decide +kernel, by decide +kernel⟩

theorem wit_FabricCommands_export :
    (Admits (at0 exportDev).dev 115 (cmdAt 0 1) (runsAs 115 exportDev)) ∧
    (0 = eb (runsAs 115 exportDev).e 16 1) ∧
    (5 = eb (runsAs 115 exportDev).e 24 4) ∧
    (2 = eb (runsAs 115 exportDev).e 28 4) ∧
    (eb (runsAs 115 exportDev).e 18 1 ≤ 2) ∧
    (eb (runsAs 115 exportDev).e 20 2 ≤ 32767) ∧
    (0 < 2) ∧
    (∀ (fr : Nat), fr ∈ runOf 5 2 → owns (at0 exportDev).dev 0 fr = true ∧ inPair (at0 exportDev).dev fr = false) ∧
    (insState (at0 exportDev).dev 0 ≠ 0) ∧
    (insState (at0 exportDev).dev 0 ≠ 4) ∧
    (1 < 1024) ∧
    (∀ (m : Nat), m ≤ 1 → (tget (at0 exportDev).dev.ins.exports m = none ↔ m = 1)) :=
  ⟨admits_of (by decide +kernel), by decide +kernel, by decide +kernel, by decide +kernel, by decide +kernel, by decide +kernel, by decide +kernel,
    by decide +kernel, by decide +kernel, by decide +kernel, by decide +kernel, by decide +kernel⟩

def w1_FabricCommands_unexport : Export := { inst := 0, first := 3, frames := 4, r := true, w := true, a := true, src := 1, device := 0, closing := false : Export }

theorem wit_FabricCommands_unexport :
    (Admits (at0 unexportDev).dev 116 (cmdAt 0 1) (runsAs 116 unexportDev)) ∧
    (0 = eb (runsAs 116 unexportDev).e 16 2) ∧
    (tget (at0 unexportDev).dev.ins.exports 0 = some w1_FabricCommands_unexport) ∧
    ((runsAs 116 unexportDev).origin = 2 → w1_FabricCommands_unexport.inst = (runsAs 116 unexportDev).inst) ∧
    (∀ (p : Nat × DirEntry), p ∈ (at0 unexportDev).dev.shore.dir → p.fst / 2 ^ 15 < w1_FabricCommands_unexport.first ∨
      w1_FabricCommands_unexport.first + w1_FabricCommands_unexport.frames ≤ p.fst / 2 ^ 15) :=
  ⟨admits_of (by decide +kernel), by decide +kernel, by decide +kernel, by decide +kernel, by decide +kernel⟩

theorem wit_FabricCommands_group :
    (Admits (at0 groupDev).dev 117 (cmdAt 0 1) (runsAs 117 groupDev)) ∧
    (1 = eb (runsAs 117 groupDev).e 17 1) ∧
    (1 ≤ 1) ∧
    (1 ≤ 64) ∧
    (eb (runsAs 117 groupDev).e 24 8 % 8 = 0) ∧
    (vaGiven (at0 groupDev).dev (runsAs 117 groupDev).inst (eb (runsAs 117 groupDev).e 24 8) (8 * 1) (runsAs 117 groupDev).payload = (buf groupDev
      8, bufBytes groupDev 8, 0)) ∧
    ((buf groupDev 8).blocked = []) ∧
    ((buf groupDev 8).fe = (at0 groupDev).dev.fe) ∧
    ([9010497789628928] = List.map (fun i => ofLe (List.take 8 (List.drop (8 * i) (bufBytes groupDev 8)))) (List.range 1)) ∧
    (∀ (v : Nat), v ∈ [9010497789628928] → v < 2 ^ 57) :=
  ⟨admits_of (by decide +kernel), by decide +kernel, by decide +kernel, by decide +kernel, by decide +kernel, by decide +kernel, by decide +kernel,
    by decide +kernel, by decide +kernel, by decide +kernel⟩

def w1_FabricCommands_send : List Byte := (vaRead (checked sendDev 65536 64 0) 0 65536 64).snd.fst

def w2_FabricCommands_send : Dev := (vaRead (checked sendDev 65536 64 0) 0 65536 64).fst

def w3_FabricCommands_send : Dev := checked sendDev 65536 64 0

theorem wit_FabricCommands_send :
    (Admits (at0 sendDev).dev 118 (cmdAt 0 1) (runsAs 118 sendDev)) ∧
    ((runsAs 118 sendDev).replay = false) ∧
    (0 = (at0 sendDev).dev.fab.nextSend) ∧
    (64 = eb (runsAs 118 sendDev).e 32 4) ∧
    (1 ≤ 64) ∧
    (64 ≤ 16777216) ∧
    (tget (at0 sendDev).dev.fab.groups (256 * (runsAs 118 sendDev).inst + eb (runsAs 118 sendDev).e 16 1) = some [200 * 2 ^ 42 + 24576]) ∧
    ([200 * 2 ^ 42 + 24576] ≠ []) ∧
    (vaCheck (at0 sendDev).dev (runsAs 118 sendDev).inst (eb (runsAs 118 sendDev).e 24 8) 64 0 = (w3_FabricCommands_send, 0)) ∧
    (vaRead w3_FabricCommands_send (runsAs 118 sendDev).inst (eb (runsAs 118 sendDev).e 24 8) 64 = (w2_FabricCommands_send,
      w1_FabricCommands_send, 0)) ∧
    (64 ≤ w1_FabricCommands_send.length) ∧
    (w2_FabricCommands_send.blocked = []) ∧
    (w2_FabricCommands_send.fe = (at0 sendDev).dev.fe) ∧
    (w2_FabricCommands_send.fab = (at0 sendDev).dev.fab) ∧
    (∀ (b : Nat), b ∈ [200 * 2 ^ 42 + 24576] → ownDevice w2_FabricCommands_send (b / 2 ^ 42) = false ∧ fabReach w2_FabricCommands_send (b / 2 ^
      42) = true) :=
  ⟨admits_of (by decide +kernel), by decide +kernel, by decide +kernel, by decide +kernel, by decide +kernel, by decide +kernel, by decide +kernel,
    by decide +kernel, by decide +kernel, by decide +kernel, by decide +kernel, by decide +kernel, by decide +kernel, by decide +kernel,
    by decide +kernel⟩

theorem wit_FabricCommands_comm :
    (Admits (at0 commDev).dev 119 (cmdAt 0 1) (runsAs 119 commDev)) ∧
    (3 = eb (runsAs 119 commDev).e 16 4) ∧
    (2 ≤ 3) ∧
    (3 ≤ 32768) ∧
    (eb (runsAs 119 commDev).e 24 8 % 2 = 0) ∧
    (vaGiven (at0 commDev).dev (runsAs 119 commDev).inst (eb (runsAs 119 commDev).e 24 8) (2 * 3) (runsAs 119 commDev).payload = (buf commDev 6,
      bufBytes commDev 6, 0)) ∧
    ((buf commDev 6).blocked = []) ∧
    ((buf commDev 6).fe = (at0 commDev).dev.fe) ∧
    ((buf commDev 6).fab = (at0 commDev).dev.fab) ∧
    ([200, 100, 300] = List.map (fun i => ofLe (List.take 2 (List.drop (2 * i) (bufBytes commDev 6)))) (List.range 3)) ∧
    (fget (buf commDev 6) RF.FAB_STATUS_DEVICE_VALID = 1) ∧
    (1 < 3) ∧
    ([200, 100, 300].getD 1 0 = fget (buf commDev 6) RF.FAB_STATUS_DEVICE) ∧
    ([200, 100, 300].Nodup) ∧
    (∀ (v : Nat), v ∈ [200, 100, 300] → v ≤ 32767) ∧
    ((List.filter (fun p => p.snd.inst == (runsAs 119 commDev).inst) (at0 commDev).dev.fab.comms).length < 256) ∧
    (0 < 65536) ∧
    (∀ (m : Nat), m ≤ 0 → (tget (at0 commDev).dev.fab.comms m = none ↔ m = 0)) :=
  ⟨admits_of (by decide +kernel), by decide +kernel, by decide +kernel, by decide +kernel, by decide +kernel, by decide +kernel, by decide +kernel,
    by decide +kernel, by decide +kernel, by decide +kernel, by decide +kernel, by decide +kernel, by decide +kernel, by decide +kernel,
    by decide +kernel, by decide +kernel, by decide +kernel, by decide +kernel⟩

def w1_FabricCommands_barrier : CollHead := { key := 85, seq := 6, kind := 0, dtype := 0, op := 0, count := 0 : CollHead }

theorem wit_FabricCommands_barrier :
    (Admits (at0 (collDev 1 0)).dev 120 (cmdAt 0 1) (runsAs 120 (collDev 1 0))) ∧
    ((runsAs 120 (collDev 1 0)).replay = false) ∧
    (2 = eb (runsAs 120 (collDev 1 0)).e 16 2) ∧
    (0 = eb (runsAs 120 (collDev 1 0)).e 18 1) ∧
    (0 = eb (runsAs 120 (collDev 1 0)).e 19 1) ∧
    ((at0 (collDev 1 0)).dev.fab.comms = [(2, comm0 1)]) ∧
    ((comm0 1).inst = (runsAs 120 (collDev 1 0)).inst) ∧
    ((comm0 1).colls = []) ∧
    ((comm0 1).early = []) ∧
    (0 ≤ 4) ∧
    (0 ≤ 4) ∧
    (eb (runsAs 120 (collDev 1 0)).e 20 1 ≤ 2) ∧
    (0 = 0 → eb (runsAs 120 (collDev 1 0)).e 40 8 = 0 ∧ eb (runsAs 120 (collDev 1 0)).e 24 8 = 0 ∧ eb (runsAs 120 (collDev 1 0)).e 32 8 = 0) ∧
    (eb (runsAs 120 (collDev 1 0)).e 24 8 % 4 = 0) ∧
    (eb (runsAs 120 (collDev 1 0)).e 32 8 % 4 = 0) ∧
    (0 = eb (runsAs 120 (collDev 1 0)).e 40 8 * elemBytes 0) ∧
    ((if 0 ≠ 0 ∧ ¬(0 = 1 ∧ (comm0 1).rank ≠ 0) then vaCheck (at0 (collDev 1 0)).dev (runsAs 120 (collDev 1 0)).inst (eb (runsAs 120 (collDev 1
      0)).e 24 8) 0 0 else ((at0 (collDev 1 0)).dev, 0)) = (collDev 1 0, 0)) ∧
    ((if 0 = 1 ∧ (comm0 1).rank ≠ 0 ∨ 0 = 2 ∧ (comm0 1).rank = 0 ∨ 3 ≤ 0 then vaCheck (collDev 1 0) (runsAs 120 (collDev 1 0)).inst (eb (runsAs
      120 (collDev 1 0)).e 32 8) (if 0 = 4 then 0 * (comm0 1).ranks.length else 0) 1 else (collDev 1 0, 0)) = (collDev 1 0, 0)) ∧
    ((collDev 1 0).blocked = []) ∧
    ((collDev 1 0).fe = (at0 (collDev 1 0)).dev.fe) ∧
    ((collDev 1 0).fab = (at0 (collDev 1 0)).dev.fab) ∧
    (w1_FabricCommands_barrier = { key := (comm0 1).key, seq := (comm0 1).issued, kind := 0, dtype := 0, op := eb (runsAs 120 (collDev 1 0)).e 20 1, count := eb (runsAs 120 (collDev 1 0)).e 40 8 : CollHead }) ∧
    (leafRank = childRanks (comm0 1).ranks.length (comm0 1).rank) ∧
    (0 = 1 ∧ (comm0 1).rank ≠ 0 ∨ 0 ≠ 1 ∧ leafRank ≠ [] ∨ 0 = 0 ∧ leafRank = [] ∧ (comm0 1).rank ≠ 0) :=
  ⟨admits_of (by decide +kernel), by decide +kernel, by decide +kernel, by decide +kernel, by decide +kernel, by decide +kernel, by decide +kernel,
    by decide +kernel, by decide +kernel, by decide +kernel, by decide +kernel, by decide +kernel, by decide +kernel, by decide +kernel,
    by decide +kernel, by decide +kernel, by decide +kernel, by decide +kernel, by decide +kernel, by decide +kernel, by decide +kernel,
    by decide +kernel, by decide +kernel, by decide +kernel⟩

def w1_FabricCommands_reduce : CollHead := { key := 85, seq := 6, kind := 2, dtype := 0, op := 0, count := 4 : CollHead }

def w2_FabricCommands_reduce : Dev := checked (checked (collDev 0 2) 65536 16 0) 131072 16 1

def w3_FabricCommands_reduce : Dev := checked (collDev 0 2) 65536 16 0

theorem wit_FabricCommands_reduce :
    (Admits (at0 (collDev 0 2)).dev 120 (cmdAt 0 1) (runsAs 120 (collDev 0 2))) ∧
    ((runsAs 120 (collDev 0 2)).replay = false) ∧
    (2 = eb (runsAs 120 (collDev 0 2)).e 16 2) ∧
    (2 = eb (runsAs 120 (collDev 0 2)).e 18 1) ∧
    (0 = eb (runsAs 120 (collDev 0 2)).e 19 1) ∧
    ((at0 (collDev 0 2)).dev.fab.comms = [(2, comm0 0)]) ∧
    ((comm0 0).inst = (runsAs 120 (collDev 0 2)).inst) ∧
    ((comm0 0).colls = []) ∧
    ((comm0 0).early = []) ∧
    (2 ≤ 4) ∧
    (0 ≤ 4) ∧
    (eb (runsAs 120 (collDev 0 2)).e 20 1 ≤ 2) ∧
    (2 = 0 → eb (runsAs 120 (collDev 0 2)).e 40 8 = 0 ∧ eb (runsAs 120 (collDev 0 2)).e 24 8 = 0 ∧ eb (runsAs 120 (collDev 0 2)).e 32 8 = 0) ∧
    (eb (runsAs 120 (collDev 0 2)).e 24 8 % 4 = 0) ∧
    (eb (runsAs 120 (collDev 0 2)).e 32 8 % 4 = 0) ∧
    (16 = eb (runsAs 120 (collDev 0 2)).e 40 8 * elemBytes 0) ∧
    ((if 2 ≠ 0 ∧ ¬(2 = 1 ∧ (comm0 0).rank ≠ 0) then vaCheck (at0 (collDev 0 2)).dev (runsAs 120 (collDev 0 2)).inst (eb (runsAs 120 (collDev 0
      2)).e 24 8) 16 0 else ((at0 (collDev 0 2)).dev, 0)) = (w3_FabricCommands_reduce, 0)) ∧
    ((if 2 = 1 ∧ (comm0 0).rank ≠ 0 ∨ 2 = 2 ∧ (comm0 0).rank = 0 ∨ 3 ≤ 2 then vaCheck w3_FabricCommands_reduce (runsAs 120 (collDev 0 2)).inst (eb
      (runsAs 120 (collDev 0 2)).e 32 8) (if 2 = 4 then 16 * (comm0 0).ranks.length else 16) 1 else (w3_FabricCommands_reduce, 0)) =
      (w2_FabricCommands_reduce, 0)) ∧
    (w2_FabricCommands_reduce.blocked = []) ∧
    (w2_FabricCommands_reduce.fe = (at0 (collDev 0 2)).dev.fe) ∧
    (w2_FabricCommands_reduce.fab = (at0 (collDev 0 2)).dev.fab) ∧
    (w1_FabricCommands_reduce = { key := (comm0 0).key, seq := (comm0 0).issued, kind := 2, dtype := 0, op := eb (runsAs 120 (collDev 0 2)).e 20 1, count := eb (runsAs 120 (collDev 0 2)).e 40 8 : CollHead }) ∧
    ([1, 2] = childRanks (comm0 0).ranks.length (comm0 0).rank) ∧
    (2 = 1 ∧ (comm0 0).rank ≠ 0 ∨ 2 ≠ 1 ∧ [1, 2] ≠ [] ∨ 2 = 0 ∧ [1, 2] = [] ∧ (comm0 0).rank ≠ 0) :=
  ⟨admits_of (by decide +kernel), by decide +kernel, by decide +kernel, by decide +kernel, by decide +kernel, by decide +kernel, by decide +kernel,
    by decide +kernel, by decide +kernel, by decide +kernel, by decide +kernel, by decide +kernel, by decide +kernel, by decide +kernel,
    by decide +kernel, by decide +kernel, by decide +kernel, by decide +kernel, by decide +kernel, by decide +kernel, by decide +kernel,
    by decide +kernel, by decide +kernel, by decide +kernel⟩

def w1_FabricCommands_receive : CollHead := { key := 85, seq := 6, kind := 1, dtype := 0, op := 0, count := 4 : CollHead }

def w2_FabricCommands_receive : Dev := checked (collDev 1 1) 131072 16 1

theorem wit_FabricCommands_receive :
    (Admits (at0 (collDev 1 1)).dev 120 (cmdAt 0 1) (runsAs 120 (collDev 1 1))) ∧
    ((runsAs 120 (collDev 1 1)).replay = false) ∧
    (2 = eb (runsAs 120 (collDev 1 1)).e 16 2) ∧
    (1 = eb (runsAs 120 (collDev 1 1)).e 18 1) ∧
    (0 = eb (runsAs 120 (collDev 1 1)).e 19 1) ∧
    ((at0 (collDev 1 1)).dev.fab.comms = [(2, comm0 1)]) ∧
    ((comm0 1).inst = (runsAs 120 (collDev 1 1)).inst) ∧
    ((comm0 1).colls = []) ∧
    ((comm0 1).early = []) ∧
    (1 ≤ 4) ∧
    (0 ≤ 4) ∧
    (eb (runsAs 120 (collDev 1 1)).e 20 1 ≤ 2) ∧
    (1 = 0 → eb (runsAs 120 (collDev 1 1)).e 40 8 = 0 ∧ eb (runsAs 120 (collDev 1 1)).e 24 8 = 0 ∧ eb (runsAs 120 (collDev 1 1)).e 32 8 = 0) ∧
    (eb (runsAs 120 (collDev 1 1)).e 24 8 % 4 = 0) ∧
    (eb (runsAs 120 (collDev 1 1)).e 32 8 % 4 = 0) ∧
    (16 = eb (runsAs 120 (collDev 1 1)).e 40 8 * elemBytes 0) ∧
    ((if 1 ≠ 0 ∧ ¬(1 = 1 ∧ (comm0 1).rank ≠ 0) then vaCheck (at0 (collDev 1 1)).dev (runsAs 120 (collDev 1 1)).inst (eb (runsAs 120 (collDev 1
      1)).e 24 8) 16 0 else ((at0 (collDev 1 1)).dev, 0)) = (collDev 1 1, 0)) ∧
    ((if 1 = 1 ∧ (comm0 1).rank ≠ 0 ∨ 1 = 2 ∧ (comm0 1).rank = 0 ∨ 3 ≤ 1 then vaCheck (collDev 1 1) (runsAs 120 (collDev 1 1)).inst (eb (runsAs
      120 (collDev 1 1)).e 32 8) (if 1 = 4 then 16 * (comm0 1).ranks.length else 16) 1 else (collDev 1 1, 0)) = (w2_FabricCommands_receive, 0)) ∧
    (w2_FabricCommands_receive.blocked = []) ∧
    (w2_FabricCommands_receive.fe = (at0 (collDev 1 1)).dev.fe) ∧
    (w2_FabricCommands_receive.fab = (at0 (collDev 1 1)).dev.fab) ∧
    (w1_FabricCommands_receive = { key := (comm0 1).key, seq := (comm0 1).issued, kind := 1, dtype := 0, op := eb (runsAs 120 (collDev 1 1)).e 20 1, count := eb (runsAs 120 (collDev 1 1)).e 40 8 : CollHead }) ∧
    (leafRank = childRanks (comm0 1).ranks.length (comm0 1).rank) ∧
    (1 = 1 ∧ (comm0 1).rank ≠ 0 ∨ 1 ≠ 1 ∧ leafRank ≠ [] ∨ 1 = 0 ∧ leafRank = [] ∧ (comm0 1).rank ≠ 0) :=
  ⟨admits_of (by decide +kernel), by decide +kernel, by decide +kernel, by decide +kernel, by decide +kernel, by decide +kernel, by decide +kernel,
    by decide +kernel, by decide +kernel, by decide +kernel, by decide +kernel, by decide +kernel, by decide +kernel, by decide +kernel,
    by decide +kernel, by decide +kernel, by decide +kernel, by decide +kernel, by decide +kernel, by decide +kernel, by decide +kernel,
    by decide +kernel, by decide +kernel, by decide +kernel⟩

theorem wit_FabricCommands_uncomm :
    (Admits (at0 uncommDev).dev 121 (cmdAt 0 1) (runsAs 121 uncommDev)) ∧
    (2 = eb (runsAs 121 uncommDev).e 16 2) ∧
    (commAt (at0 uncommDev).dev 2 = some (comm0 0)) ∧
    ((comm0 0).inst = (runsAs 121 uncommDev).inst) ∧
    ((comm0 0).colls = []) :=
  ⟨admits_of (by decide +kernel), by decide +kernel, by decide +kernel, by decide +kernel, by decide +kernel⟩

end Sys2Proof.Tests
end

