-- ==== Sys2Proof/Tests/WitTrust.lean ====
section
/-!
SUPPORT. Premises of the statements about trust, the audit log and its stamp, met together by concrete states: one theorem for each clause.
-/
namespace Sys2Proof.Tests
open Sys2Proof Sys2Proof.Machine
set_option Elab.async false

/-- A log with two entries of instances 0 and 2. -/
def logEntry (n inst : Nat) : LogEntry := ⟨n, 3, 100 + n, 0, 0, 0, 0, 5, 15, inst, 7, 8, List.replicate 64 9⟩
def log0 (cps : Tbl Checkpoint) : LogUnit :=
  { LogUnit.reset with started := true, everStarted := true, entries := [(0, logEntry 0 0), (1, logEntry 1 2)], next := 2, cps := cps, cpNext := 1 }

/-- A checkpoint. -/
def cp0 (signed ring : Bool) : Checkpoint := ⟨0, 0, 1, List.replicate 64 9, List.replicate 64 0, 3, 200, 1, signed, ring, false⟩

/-- The module with page tables and a log. -/
def logging (cps : Tbl Checkpoint) : Dev :=
  let d := regWrite (regWrite mapped0 Reg.LOG_HEAD 2) Reg.LOG_EPOCH 3
  { d with log := log0 cps }

def manifestDev : Dev := cmdOn (logging []) 0x50 [(26, 1), (32, 192), (33, 13)]
def logReadDev : Dev := cmdOn (logging []) 0xA1 [(32, 4), (42, 1), (49, 3)]
def cpReadDev : Dev := cmdOn (logging [(0, cp0 true true)]) 0xA2 [(42, 1)]
def cpNowDev : Dev := cmdOn (logging [(0, cp0 true true)]) 0xA3 []

/-- Instance 1 reads the log on a ring of its own. -/
def tenantReads : Dev :=
  let d := fset (fset (fset (logging []) (RF.INS_STATUS_STATE 1) 1) (RF.TRN_ROOT_VALID 1) 1) (RF.TRN_ROOT_ROOT 1) 0x400
  withCmd { d with ins := { d.ins with owner := [(1, 1), (2, 1)] } } 1 1 (entryOf 0xA1 [(32, 4), (42, 1), (49, 3)])

/-- PERM_SET of row 2 over a bus: bits 1 and 2 go. -/
def permCmd : Cmd := sideCmd (entryOf 0xA4 [(16, 2), (17, 6)])

def admitDev1 : Dev := cmdOn (logging []) 0xA5 [(16, 4), (18, 1), (26, 1)]
def stageDev : Dev := cmdOn (logging []) 0xA6 [(26, 1), (32, 64), (36, 1)]
def commitDev : Dev := cmdOn (fset (logging []) RF.SEC_STATUS_IMAGE_SVN 5) 0xA7 []
def rootCmd : Cmd := { sideCmd (entryOf 0xA8 []) with payload := List.replicate 64 7 }
def epochDev (v : Nat) : Dev := cmdOn (logging []) 0xA0 [(24, v)]

/-- The events that begin a start in a state (R503 to R506). -/
def begins (s : State) (c : Instr) : Prop :=
  (∃ slot, c = .powerApplied slot ∧ s.dev.start.primary = false ∧ s.dev.start.secondary = false) ∨
  (c = .hostResetWhileFatal ∧ fget s.dev RF.BRG_ERR_STATUS_FATAL = 1) ∨
  (c = .inputVoltageExcursion ∧ (s.dev.start.primary = true ∨ s.dev.start.secondary = true) ∧ fget s.dev RF.BRG_ERR_STATUS_FATAL = 0
    ∧ fget s.dev RF.BRG_START_STATUS_STAGE ≠ 9) ∨
  ∃ bus hold, c = .moduleStart bus hold true ∧ hold ≤ 1 ∧ busOn s.dev (bus % 2) = true
    ∧ (7 ≤ fget s.dev RF.BRG_START_STATUS_STAGE ∨ startOpen s.dev = true)

theorem wit_StampOfTheLog_power : (∀ c, begins State.reset c ↔ begins State.reset c) ∧ begins State.reset (.powerApplied 0) :=
  ⟨fun _ => Iff.rfl, Or.inl ⟨0, rfl, by decide +kernel, by decide +kernel⟩⟩

theorem wit_StampOfTheLog_module : begins (at0 idle0) (.moduleStart 0 0 true) :=
  Or.inr (Or.inr (Or.inr ⟨0, 0, rfl, by decide, by decide +kernel, by decide +kernel⟩))

theorem wit_StampOfTheLog_fatal : begins (at0 (fset idle0 RF.BRG_ERR_STATUS_FATAL 1)) .hostResetWhileFatal :=
  Or.inr (Or.inl ⟨rfl, by decide +kernel⟩)

theorem wit_StampOfTheLog_excursion : begins (at0 (fset idle0 RF.BRG_START_STATUS_STAGE 5)) .inputVoltageExcursion :=
  Or.inr (Or.inr (Or.inl ⟨rfl, Or.inl rfl, by decide +kernel, by decide +kernel⟩))

theorem wit_TrustAndLog_manifest :
    (Admits (at0 manifestDev).dev 80 (cmdAt 0 1) (runsAs 80 manifestDev)) ∧
    (3520 ≤ eb (runsAs 80 manifestDev).e 32 4) ∧
    (eb (runsAs 80 manifestDev).e 24 8 % 64 = 0) :=
  ⟨admits_of (by decide +kernel), by decide +kernel, by decide +kernel⟩

def w1_TrustAndLog_read : List (Nat × LogEntry) := [(0, logEntry 0 0), (1, logEntry 1 2)]

theorem wit_TrustAndLog_read :
    (Admits (at0 logReadDev).dev 161 (cmdAt 0 1) (runsAs 161 logReadDev)) ∧
    (0 = eb (runsAs 161 logReadDev).e 24 8) ∧
    (4 = eb (runsAs 161 logReadDev).e 32 4) ∧
    (65536 = eb (runsAs 161 logReadDev).e 40 8) ∧
    (0 < 4) ∧
    (4 ≤ 327680) ∧
    (0 ≤ regRead (at0 logReadDev).dev Reg.LOG_HEAD) ∧
    (192 * 4 ≤ eb (runsAs 161 logReadDev).e 48 4) ∧
    (65536 % 64 = 0) ∧
    (w1_TrustAndLog_read = List.take 4 (List.filter (fun p => decide (0 ≤ p.fst)) (at0 logReadDev).dev.log.entries)) :=
  ⟨admits_of (by decide +kernel), by decide +kernel, by decide +kernel, by decide +kernel, by decide +kernel, by decide +kernel, by decide +kernel,
    by decide +kernel, by decide +kernel, by decide +kernel⟩

theorem wit_TrustAndLog_checkpoint :
    (Admits (at0 cpReadDev).dev 162 (cmdAt 0 1) (runsAs 162 cpReadDev)) ∧
    (tget (at0 cpReadDev).dev.log.cps (eb (runsAs 162 cpReadDev).e 24 8) = some (cp0 true true)) ∧
    ((cp0 true true).inRing = true ∨ (cp0 true true).inFlash = true) ∧
    (eb (runsAs 162 cpReadDev).e 40 8 % 4096 = 0) :=
  ⟨admits_of (by decide +kernel), by decide +kernel, by decide +kernel, by decide +kernel⟩

theorem wit_TrustAndLog_now :
    (Admits (at0 cpNowDev).dev 163 (cmdAt 0 1) (runsAs 163 cpNowDev)) ∧
    (1 = (at0 cpNowDev).dev.log.cpNext) :=
  ⟨admits_of (by decide +kernel), by decide +kernel⟩

def w1_TrustAndLog_signed : State := at0 (logging [(0, cp0 false false)])

theorem wit_TrustAndLog_signed :
    (tget w1_TrustAndLog_signed.dev.log.cps 0 = some (cp0 false false)) ∧
    (w1_TrustAndLog_signed.dev.start.primary = true) ∧
    (0 < 2 ^ 64) ∧
    ((cp0 false false).signed = false) ∧
    (∀ (q : Nat × Checkpoint), q ∈ w1_TrustAndLog_signed.dev.log.cps → 0 ≤ q.fst ∨ q.snd.signed = true) :=
  ⟨by decide +kernel, by decide +kernel, by decide +kernel, by decide +kernel, by decide +kernel⟩

def w1_TrustAndLog_copied : State := at0 (logging [(0, cp0 true true)])

theorem wit_TrustAndLog_copied :
    (tget w1_TrustAndLog_copied.dev.log.cps 0 = some (cp0 true true)) ∧
    (w1_TrustAndLog_copied.dev.start.primary = true) ∧
    (0 < 2 ^ 64) ∧
    ((cp0 true true).signed = true) ∧
    ((cp0 true true).inFlash = false) :=
  ⟨by decide +kernel, by decide +kernel, by decide +kernel, by decide +kernel, by decide +kernel⟩

theorem wit_TrustAndLog_not_copied :
    (tget w1_TrustAndLog_copied.dev.log.cps 0 = some (cp0 true true)) ∧
    (w1_TrustAndLog_copied.dev.start.primary = true) ∧
    (0 < 2 ^ 64) ∧
    ((cp0 true true).signed = true) ∧
    ((cp0 true true).inFlash = false) :=
  ⟨by decide +kernel, by decide +kernel, by decide +kernel, by decide +kernel, by decide +kernel⟩

def w1_TrustAndLog_permission : Nat := fget (logging []) (RF.SEC_PERM_EFFECTIVE 2) &&& 25

def w2_TrustAndLog_permission : Ctx := ctxAt 164 permCmd (logging [])

theorem wit_TrustAndLog_permission :
    (Admits (at0 (logging [])).dev 164 permCmd w2_TrustAndLog_permission) ∧
    (2 = eb w2_TrustAndLog_permission.e 16 1) ∧
    (6 = eb w2_TrustAndLog_permission.e 17 1) ∧
    (0 = eb w2_TrustAndLog_permission.e 18 1) ∧
    (w2_TrustAndLog_permission.origin = 1 → 0 = 0) ∧
    (2 ≤ 16) ∧
    (fget (at0 (logging [])).dev (RF.SEC_PERM_FIXED 2) ≠ 1) ∧
    (0 &&& 31 - fget (at0 (logging [])).dev (RF.SEC_PERM_CEILING 2) = 0) ∧
    (w1_TrustAndLog_permission = fget (at0 (logging [])).dev (RF.SEC_PERM_EFFECTIVE 2) &&& 31 - 6 ||| 0) :=
  ⟨admits_of (by decide +kernel), by decide +kernel, by decide +kernel, by decide +kernel, by decide +kernel, by decide +kernel, by decide +kernel,
    by decide +kernel, by decide +kernel⟩

theorem wit_TrustAndLog_policy :
    (Admits (at0 admitDev1).dev 165 (cmdAt 0 1) (runsAs 165 admitDev1)) ∧
    (1 = eb (runsAs 165 admitDev1).e 18 1) ∧
    (1 ≤ 16) ∧
    (cmdBuffer (at0 admitDev1).dev (runsAs 165 admitDev1) (eb (runsAs 165 admitDev1).e 24 8) (64 * 1) = (buf admitDev1 64, bufBytes admitDev1 64,
      0)) ∧
    ((buf admitDev1 64).blocked = []) ∧
    ((buf admitDev1 64).fe = (at0 admitDev1).dev.fe) :=
  ⟨admits_of (by decide +kernel), by decide +kernel, by decide +kernel, by decide +kernel, by decide +kernel, by decide +kernel⟩

theorem wit_TrustAndLog_stage :
    (Admits (at0 stageDev).dev 166 (cmdAt 0 1) (runsAs 166 stageDev)) ∧
    (64 = eb (runsAs 166 stageDev).e 32 4) ∧
    (64 ≤ 2 ^ 25) ∧
    (eb (runsAs 166 stageDev).e 36 1 ≤ 1) ∧
    (cmdBuffer (at0 stageDev).dev (runsAs 166 stageDev) (eb (runsAs 166 stageDev).e 24 8) 64 = (buf stageDev 64, bufBytes stageDev 64, 0)) ∧
    ((buf stageDev 64).blocked = []) ∧
    ((buf stageDev 64).fe = (at0 stageDev).dev.fe) ∧
    (fget (buf stageDev 64) RF.BRG_START_STATUS_RECOVERY = 0) :=
  ⟨admits_of (by decide +kernel), by decide +kernel, by decide +kernel, by decide +kernel, by decide +kernel, by decide +kernel, by decide +kernel,
    by decide +kernel⟩

theorem wit_TrustAndLog_commit :
    (Admits (at0 commitDev).dev 167 (cmdAt 0 1) (runsAs 167 commitDev)) ∧
    ((at0 commitDev).dev.flash.fusedSvn < fget (at0 commitDev).dev RF.SEC_STATUS_IMAGE_SVN) ∧
    ((at0 commitDev).dev.flash.raises < 63) :=
  ⟨admits_of (by decide +kernel), by decide +kernel, by decide +kernel⟩

def w1_TrustAndLog_root : Ctx := ctxAt 168 rootCmd (logging [])

theorem wit_TrustAndLog_root :
    (Admits (at0 (logging [])).dev 168 rootCmd w1_TrustAndLog_root) ∧
    (cmdBuffer (at0 (logging [])).dev w1_TrustAndLog_root (eb w1_TrustAndLog_root.e 24 8) 64 = (logging [], List.replicate 64 7, 0)) ∧
    ((logging []).blocked = []) ∧
    ((logging []).fe = (at0 (logging [])).dev.fe) :=
  ⟨admits_of (by decide +kernel), by decide +kernel, by decide +kernel, by decide +kernel⟩

theorem wit_StampOfTheLog_set :
    (Admits (at0 (epochDev 9)).dev 160 (cmdAt 0 1) (runsAs 160 (epochDev 9))) ∧
    (9 = eb (runsAs 160 (epochDev 9)).e 24 8) ∧
    (regRead (at0 (epochDev 9)).dev Reg.LOG_EPOCH ≤ 9) :=
  ⟨admits_of (by decide +kernel), by decide +kernel, by decide +kernel⟩

theorem wit_StampOfTheLog_low :
    (Admits (at0 (epochDev 2)).dev 160 (cmdAt 0 1) (runsAs 160 (epochDev 2))) ∧
    (2 = eb (runsAs 160 (epochDev 2)).e 24 8) ∧
    (2 < regRead (at0 (epochDev 2)).dev Reg.LOG_EPOCH) :=
  ⟨admits_of (by decide +kernel), by decide +kernel, by decide +kernel⟩

theorem wit_StampOfTheLog_entry :
    ((logging []).log.started = true) ∧
    (fget (logging []) RF.BRG_START_STATUS_RECOVERY = 0) ∧
    (((logging []).log.next + 1) % 4096 ≠ 0) :=
  ⟨by decide +kernel, by decide +kernel, by decide +kernel⟩

end Sys2Proof.Tests
end

