-- ==== Sys2Proof/Tests/WitDebug.lean ====
section
/-!
SUPPORT. Premises of the statement about registers, margining, the test access port and traces, met together by concrete states: one theorem for each clause.
-/
namespace Sys2Proof.Tests
open Sys2Proof Sys2Proof.Machine
set_option Elab.async false

/-- A write over bus 0 within a session, and one of the host's physical function. -/
def sideWr (off size value : Nat) : RegWr := ⟨true, 0, off, size, value, 0, true, false⟩
def hostWr (off size value : Nat) : RegWr := ⟨false, 0, off, size, value, 0, false, false⟩
def linkUp : Dev := fset (logging []) RF.HST_STATUS_LINK 3

/-- Every origin may write policy, or none. -/
def openDev : Dev := fset (logging []) (RF.SEC_PERM_EFFECTIVE 7) 0x1F
def openLink : Dev := fset linkUp (RF.SEC_PERM_EFFECTIVE 7) 0x1F
def closedDev : Dev := fset (logging []) (RF.SEC_PERM_EFFECTIVE 7) 0
def closedLink : Dev := fset linkUp (RF.SEC_PERM_EFFECTIVE 7) 0

/-- The module is held at stage 7, and runs a margining run or not. -/
def margin0 (runs : Bool) : Dev := let d := fset (fset openDev RF.BRG_START_STATUS_STAGE 7) RF.BRG_START_STATUS_HELD 1; { d with start := { d.start with margin := runs } }
def sweeping : Dev := fset (margin0 true) RF.BRG_MARGIN_CTL_SWEEP 1

/-- Tier B, channel 100, pattern 1, and GO; channel 200; pattern 3. -/
def goWord (channel pattern : Nat) : Nat := 1 + 8 + channel * 2 ^ 4 + pattern * 2 ^ 25 + 5 * 2 ^ 32

def alerted : Dev := let d := openDev; { d with start := { d.start with alerts := 3 } }

def traceE (len : Nat) : List (Nat × Nat) := [(17, 3), (24, 1), (34, 1), (41, len)]
def traceDev : Dev := cmdOn mapped0 0xD1 (traceE 0x10)
def trace0 (state : Nat) : Trace := ⟨0, 3, 1, 0x10000, 4096, 5, 64, state, state⟩
def trace1 : Trace := ⟨0, 3, 1, 0x10000, 4096, 0, 0, 0, 0⟩
def traced1 : Dev := (vaCheck traceDev 0 0x10000 4096 1).1
def traced2 : Dev := (setBitsOf 44 1).foldl requestRun { traced1 with traces := tset traced1.traces 0 trace1 }
def traceHead (d : Dev) (n written state : Nat) : Dev :=
  (vaWrite d 0 0x10000 (leBytes 8 written ++ leBytes 1 state ++ leBytes 1 3 ++ leBytes 2 n ++ List.replicate 52 0)).1
def stopDev (state : Nat) : Dev := let d := cmdOn mapped0 0xD2 [(16, 2)]; { d with traces := [(2, trace0 state)] }
def stopped1 : Dev := let d := stopDev 0; { d with traces := tset d.traces 2 { trace0 0 with state := 1, shown := 1 } }

theorem onlyTrace2 : ∀ m z, m ≠ 2 → tget (at0 (stopDev 0)).dev.traces m = some z → z.shown = z.state := by
  intro m z hm h
  rw [show (at0 (stopDev 0)).dev.traces = [(2, trace0 0)] from rfl] at h
  simp [tget] at h
  exact absurd h.1.symm hm

def w1_RegistersAndDebug_write : Nat := writtenValue (hostWr (Reg.PWR_IDLE_POLICY + 4) 4 2882400018) (regRead openLink Reg.PWR_IDLE_POLICY)
  (policyMask Reg.PWR_IDLE_POLICY)

def w2_RegistersAndDebug_write : RegWr := hostWr (Reg.PWR_IDLE_POLICY + 4) 4 2882400018

def w3_RegistersAndDebug_write : Nat := regRead openLink Reg.PWR_IDLE_POLICY

theorem wit_RegistersAndDebug_write :
    ((at0 openLink).dev.blocked = []) ∧
    (accessReaches (at0 openLink).dev w2_RegistersAndDebug_write = ((at0 openLink).dev, true)) ∧
    (w2_RegistersAndDebug_write.fn = 0 ∨ accessLegal w2_RegistersAndDebug_write.size w2_RegistersAndDebug_write.off = false) ∧
    (w2_RegistersAndDebug_write.side = true → w2_RegistersAndDebug_write.authed = true ∧ fget (at0 openLink).dev RF.BRG_START_STATUS_RECOVERY = 0) ∧
    (Reg.PWR_IDLE_POLICY = w2_RegistersAndDebug_write.off / 8 * 8) ∧
    (accessLegal w2_RegistersAndDebug_write.size w2_RegistersAndDebug_write.off = true) ∧
    (w3_RegistersAndDebug_write = regRead (at0 openLink).dev Reg.PWR_IDLE_POLICY) ∧
    (policyMask Reg.PWR_IDLE_POLICY ≠ 0) ∧
    (w1_RegistersAndDebug_write = w1_RegistersAndDebug_write) ∧
    (permits (at0 openLink).dev 7 (accessOrigin w2_RegistersAndDebug_write).fst = true) :=
  ⟨by decide +kernel, by decide +kernel, by decide +kernel, by decide +kernel, by decide +kernel, by decide +kernel, by decide +kernel,
    by decide +kernel, by decide +kernel, by decide +kernel⟩

def w1_RegistersAndDebug_denied : Nat := writtenValue (sideWr Reg.THM_POLICY 8 5) (regRead closedDev Reg.THM_POLICY) (policyMask Reg.THM_POLICY)

def w2_RegistersAndDebug_denied : Nat := regRead closedDev Reg.THM_POLICY

def w3_RegistersAndDebug_denied : RegWr := sideWr Reg.THM_POLICY 8 5

theorem wit_RegistersAndDebug_denied :
    ((at0 closedDev).dev.blocked = []) ∧
    (accessReaches (at0 closedDev).dev w3_RegistersAndDebug_denied = ((at0 closedDev).dev, true)) ∧
    (w3_RegistersAndDebug_denied.fn = 0 ∨ accessLegal w3_RegistersAndDebug_denied.size w3_RegistersAndDebug_denied.off = false) ∧
    (w3_RegistersAndDebug_denied.side = true → w3_RegistersAndDebug_denied.authed = true ∧ fget (at0 closedDev).dev RF.BRG_START_STATUS_RECOVERY =
      0) ∧
    (Reg.THM_POLICY = w3_RegistersAndDebug_denied.off / 8 * 8) ∧
    (accessLegal w3_RegistersAndDebug_denied.size w3_RegistersAndDebug_denied.off = true) ∧
    (w2_RegistersAndDebug_denied = regRead (at0 closedDev).dev Reg.THM_POLICY) ∧
    (policyMask Reg.THM_POLICY ≠ 0) ∧
    (w1_RegistersAndDebug_denied = w1_RegistersAndDebug_denied) ∧
    (permits (at0 closedDev).dev 7 (accessOrigin w3_RegistersAndDebug_denied).fst = false) :=
  ⟨by decide +kernel, by decide +kernel, by decide +kernel, by decide +kernel, by decide +kernel, by decide +kernel, by decide +kernel,
    by decide +kernel, by decide +kernel, by decide +kernel⟩

def w1_RegistersAndDebug_read_only : RegWr := sideWr Reg.BRG_ERR_STATUS 8 5

theorem wit_RegistersAndDebug_read_only :
    ((at0 openDev).dev.blocked = []) ∧
    (accessReaches (at0 openDev).dev w1_RegistersAndDebug_read_only = ((at0 openDev).dev, true)) ∧
    (w1_RegistersAndDebug_read_only.fn = 0 ∨ accessLegal w1_RegistersAndDebug_read_only.size w1_RegistersAndDebug_read_only.off = false) ∧
    (w1_RegistersAndDebug_read_only.side = true → w1_RegistersAndDebug_read_only.authed = true ∧ fget (at0 openDev).dev
      RF.BRG_START_STATUS_RECOVERY = 0) ∧
    (Reg.BRG_ERR_STATUS = w1_RegistersAndDebug_read_only.off / 8 * 8) ∧
    (accessLegal w1_RegistersAndDebug_read_only.size w1_RegistersAndDebug_read_only.off = true) ∧
    (policyMask Reg.BRG_ERR_STATUS = 0) ∧
    (Reg.BRG_ERR_STATUS ≠ Reg.BRG_MARGIN_CTL) ∧
    (Reg.BRG_ERR_STATUS ≠ Reg.SHC_DIR_PROBE_ADDR) ∧
    (inEveryWindow Reg.BRG_ERR_STATUS = false) ∧
    (Reg.BRG_ERR_STATUS < 1835008 ∨ 1900544 ≤ Reg.BRG_ERR_STATUS) :=
  ⟨by decide +kernel, by decide +kernel, by decide +kernel, by decide +kernel, by decide +kernel, by decide +kernel, by decide +kernel,
    by decide +kernel, by decide +kernel, by decide +kernel, by decide +kernel⟩

def w1_RegistersAndDebug_misaligned : RegWr := hostWr (Reg.CLK_STATUS + 2) 4 5

theorem wit_RegistersAndDebug_misaligned :
    ((at0 linkUp).dev.blocked = []) ∧
    (accessReaches (at0 linkUp).dev w1_RegistersAndDebug_misaligned = ((at0 linkUp).dev, true)) ∧
    (w1_RegistersAndDebug_misaligned.fn = 0 ∨ accessLegal w1_RegistersAndDebug_misaligned.size w1_RegistersAndDebug_misaligned.off = false) ∧
    (w1_RegistersAndDebug_misaligned.side = true → w1_RegistersAndDebug_misaligned.authed = true ∧ fget (at0 linkUp).dev
      RF.BRG_START_STATUS_RECOVERY = 0) ∧
    (Reg.CLK_STATUS = w1_RegistersAndDebug_misaligned.off / 8 * 8) ∧
    (accessLegal w1_RegistersAndDebug_misaligned.size w1_RegistersAndDebug_misaligned.off = false) :=
  ⟨by decide +kernel, by decide +kernel, by decide +kernel, by decide +kernel, by decide +kernel, by decide +kernel⟩

def w1_RegistersAndDebug_margin : RegWr := sideWr Reg.BRG_MARGIN_CTL 8 (goWord 100 1)

theorem wit_RegistersAndDebug_margin :
    ((at0 (margin0 false)).dev.blocked = []) ∧
    (accessReaches (at0 (margin0 false)).dev w1_RegistersAndDebug_margin = ((at0 (margin0 false)).dev, true)) ∧
    (w1_RegistersAndDebug_margin.fn = 0 ∨ accessLegal w1_RegistersAndDebug_margin.size w1_RegistersAndDebug_margin.off = false) ∧
    (w1_RegistersAndDebug_margin.side = true → w1_RegistersAndDebug_margin.authed = true ∧ fget (at0 (margin0 false)).dev
      RF.BRG_START_STATUS_RECOVERY = 0) ∧
    (Reg.BRG_MARGIN_CTL = w1_RegistersAndDebug_margin.off / 8 * 8) ∧
    (w1_RegistersAndDebug_margin.off = Reg.BRG_MARGIN_CTL) ∧
    (w1_RegistersAndDebug_margin.size = 8) ∧
    (w1_RegistersAndDebug_margin.value % 2 = 1) ∧
    (true = (fget (at0 (margin0 false)).dev RF.BRG_START_STATUS_STAGE == 7 && fget (at0 (margin0 false)).dev RF.BRG_ERR_STATUS_FATAL == 0 && !(at0
      (margin0 false)).dev.start.margin)) :=
  ⟨by decide +kernel, by decide +kernel, by decide +kernel, by decide +kernel, by decide +kernel, by decide +kernel, by decide +kernel,
    by decide +kernel, by decide +kernel⟩

theorem wit_RegistersAndDebug_margin_done :
    ((at0 (margin0 true)).dev.blocked = []) ∧
    ((at0 (margin0 true)).dev.start.margin = true) :=
  ⟨by decide +kernel, by decide +kernel⟩

theorem wit_RegistersAndDebug_tap :
    ((at0 (margin0 false)).dev.blocked = []) ∧
    (0 ≤ 51) ∧
    ((at0 (margin0 false)).dev.start.closed = true) ∧
    (3 = if (0 < 4 ∨ fget (at0 (margin0 false)).dev (RF.BRG_SITE_STATUS_STATE (0 - 4)) = 0 ∨ fget (at0 (margin0 false)).dev
      (RF.BRG_SITE_STATUS_STATE (0 - 4)) = 3) ∧ (3 < 2 ∨ 3 < 7 ∧ (fget (at0 (margin0 false)).dev RF.BRG_START_STATUS_STAGE = 7 ∨ fget (at0
      (margin0 false)).dev RF.BRG_START_STATUS_RECOVERY = 1) ∧ fget (at0 (margin0 false)).dev RF.BRG_ERR_STATUS_FATAL = 0) then 3 else 1) :=
  ⟨by decide +kernel, by decide +kernel, by decide +kernel, by decide +kernel⟩

theorem wit_RegistersAndDebug_alert :
    ((at0 alerted).dev.blocked = []) ∧
    (1 ≤ 1) ∧
    (busOn (at0 alerted).dev 1 = true) ∧
    ((at0 alerted).dev.start.alerts.testBit 1 = true) :=
  ⟨by decide +kernel, by decide +kernel, by decide +kernel, by decide +kernel⟩

theorem wit_RegistersAndDebug_trace :
    ((at0 traceDev).dev.blocked = []) ∧
    (Admits (at0 traceDev).dev 209 (cmdAt 0 1) (runsAs 209 traceDev)) ∧
    (eb (runsAs 209 traceDev).e 16 1 = (runsAs 209 traceDev).inst) ∧
    (1 = eb (runsAs 209 traceDev).e 24 8) ∧
    (65536 = eb (runsAs 209 traceDev).e 32 8) ∧
    (4096 = eb (runsAs 209 traceDev).e 40 4) ∧
    (1 &&& fget (at0 traceDev).dev (RF.INS_ISLANDS_ISLANDS (runsAs 209 traceDev).inst) = 1) ∧
    (4096 ≤ 4096) ∧
    (4096 % 32 = 0) ∧
    (65536 % 4096 = 0) ∧
    (vaCheck (at0 traceDev).dev (runsAs 209 traceDev).inst 65536 4096 1 = (traced1, 0)) ∧
    (insState traced1 (runsAs 209 traceDev).inst ≠ 0) ∧
    (insState traced1 (runsAs 209 traceDev).inst ≠ 4) ∧
    (0 < 4) ∧
    (∀ (m : Nat), m ≤ 0 → (Option.any (fun z => z.state == 0) (tget traced1.traces m) = true ↔ m < 0)) ∧
    (trace1 = { inst := (runsAs 209 traceDev).inst, events := eb (runsAs 209 traceDev).e 17 1, islands := 1, va := 65536, len := 4096, records := 0, written := 0, state := 0, shown := 0 : Trace }) ∧
    (traced2 = List.foldl requestRun { regs := traced1.regs, iregs := traced1.iregs, free := traced1.free, time := traced1.time, cores := traced1.cores, disp := traced1.disp, net := traced1.net, nextReq := traced1.nextReq, shore := traced1.shore, mem := traced1.mem, dram := traced1.dram, xl := traced1.xl, ins := traced1.ins, fe := traced1.fe, fab := traced1.fab, mesh := traced1.mesh, flash := traced1.flash, trust := traced1.trust, start := traced1.start, host := traced1.host, out := traced1.out, log := traced1.log, power := traced1.power, traces := tset traced1.traces 0 trace1, traceQ := traced1.traceQ, blocked := traced1.blocked : Dev }
      (setBitsOf 44 1)) ∧
    (traceHead traced2 0 0 0 = (vaWrite traced2 (runsAs 209 traceDev).inst 65536 (leBytes 8 0 ++ leBytes 1 0 ++ leBytes 1 trace1.events ++ leBytes
      2 0 ++ List.replicate 52 0)).fst) ∧
    ((traceHead traced2 0 0 0).traces = traced2.traces) ∧
    ((traceHead traced2 0 0 0).fe.store = (at0 traceDev).dev.fe.store) ∧
    ((traceHead traced2 0 0 0).blocked = []) :=
  ⟨by decide +kernel, admits_of (by decide +kernel), by decide +kernel, by decide +kernel, by decide +kernel, by decide +kernel, by decide +kernel,
    by decide +kernel, by decide +kernel, by decide +kernel, by decide +kernel, by decide +kernel, by decide +kernel, by decide +kernel,
    by decide +kernel, by decide +kernel, by decide +kernel, by decide +kernel, by decide +kernel, by decide +kernel, by decide +kernel⟩

theorem wit_RegistersAndDebug_traced :
    ((at0 (stopDev 1)).dev.blocked = []) ∧
    (Admits (at0 (stopDev 1)).dev 210 (cmdAt 0 1) (runsAs 210 (stopDev 1))) ∧
    (2 = eb (runsAs 210 (stopDev 1)).e 16 2) ∧
    (tget (at0 (stopDev 1)).dev.traces 2 = some (trace0 1)) ∧
    ((trace0 1).inst = (runsAs 210 (stopDev 1)).inst) ∧
    ((trace0 1).state ≠ 0) :=
  ⟨by decide +kernel, admits_of (by decide +kernel), by decide +kernel, by decide +kernel, by decide +kernel, by decide +kernel⟩

def w1_RegistersAndDebug_stop : Dev := traceHead stopped1 2 64 1

theorem wit_RegistersAndDebug_stop :
    ((at0 (stopDev 0)).dev.blocked = []) ∧
    (Admits (at0 (stopDev 0)).dev 210 (cmdAt 0 1) (runsAs 210 (stopDev 0))) ∧
    (2 = eb (runsAs 210 (stopDev 0)).e 16 2) ∧
    (tget (at0 (stopDev 0)).dev.traces 2 = some (trace0 0)) ∧
    ((trace0 0).inst = (runsAs 210 (stopDev 0)).inst) ∧
    ((trace0 0).state = 0) ∧
    ((trace0 0).shown = 0) ∧
    ((at0 (stopDev 0)).dev.traceQ = []) ∧
    (∀ (m : Nat) (z : Trace), m ≠ 2 → tget (at0 (stopDev 0)).dev.traces m = some z → z.shown = z.state) ∧
    (stopped1 =  have __src := (at0 (stopDev 0)).dev;  { regs := __src.regs, iregs := __src.iregs, free := __src.free, time := __src.time, cores := __src.cores, disp := __src.disp, net := __src.net, nextReq := __src.nextReq, shore := __src.shore, mem := __src.mem, dram := __src.dram, xl := __src.xl, ins := __src.ins, fe := __src.fe, fab := __src.fab, mesh := __src.mesh, flash := __src.flash, trust := __src.trust, start := __src.start, host := __src.host, out := __src.out, log := __src.log, power := __src.power, traces := tset (at0 (stopDev 0)).dev.traces 2 { inst := (trace0 0).inst, events := (trace0 0).events, islands := (trace0 0).islands, va := (trace0 0).va, len := (trace0 0).len, records := (trace0 0).records, written := (trace0 0).written, state := 1, shown := 1 : Trace }, traceQ := __src.traceQ, blocked := __src.blocked : Dev }) ∧
    (w1_RegistersAndDebug_stop = (vaWrite stopped1 (trace0 0).inst (trace0 0).va (leBytes 8 (trace0 0).written ++ leBytes 1 1 ++ leBytes 1 (trace0
      0).events ++ leBytes 2 2 ++ List.replicate 52 0)).fst) ∧
    (w1_RegistersAndDebug_stop.traces = stopped1.traces) ∧
    (w1_RegistersAndDebug_stop.traceQ = []) ∧
    (w1_RegistersAndDebug_stop.fe.store = (at0 (stopDev 0)).dev.fe.store) ∧
    (w1_RegistersAndDebug_stop.blocked = []) :=
  ⟨by decide +kernel, admits_of (by decide +kernel), by decide +kernel, by decide +kernel, by decide +kernel, by decide +kernel, by decide +kernel,
    by decide +kernel, onlyTrace2, by decide +kernel, by decide +kernel, by decide +kernel, by decide +kernel, by decide +kernel, by decide +kernel⟩

end Sys2Proof.Tests
end

