-- ==== Sys2Proof/Tests/WitGroups.lean ====
section
/-!
SUPPORT. Premises of the statements about group instructions that work on registers, met together by concrete states: one theorem for each clause.
-/
namespace Sys2Proof.Tests
open Sys2Proof Sys2Proof.Machine
set_option Elab.async false

/-- What a word sees on the module that runs one group. -/
def sees (w : Word64) : Env := envAt ready0 (issueOf w)

/-- The same launch as a step of a batch. -/
def batch0 : Dev := { ready0 with disp := [(0, { disp0 with plain := false })] }

/-- A group that stands at the join address of its innermost record. -/
def joinDev (waiting : LaneMask) : Dev := withCore ready0 { core0 with groups := [(0, { group0 with recs := [⟨64, 7, waiting⟩], queue := [⟨8, 4⟩] })] }

/-- Two groups of one set. -/
def pairRegDev (done : Bool) : Dev := withCore ready0 { core0 with groups := [(0, group0), (1, { group0 with run := if done then none else some ⟨8, 1⟩, done := done })] }

theorem wit_StepRunsFront_idle :
    ((at0 idle0).pending = []) ∧
    (serving (at0 idle0).dev = false ∨ (at0 idle0).dev.fab.waiting = [] ∧ (at0 idle0).dev.mesh.waiting = [] ∧ (at0 idle0).dev.fab.segs = [] ∧ (at0
      idle0).dev.fab.inbox = [] ∧ (at0 idle0).dev.fab.comms = [] ∧ (at0 idle0).dev.traces = [] ∧ (at0 idle0).dev.traceQ = [] ∧ ∀ (i : Nat), i ≤ 32
      → insState (at0 idle0).dev i ≠ 4) :=
  ⟨by decide +kernel, by decide +kernel⟩

def w1_IntegerResults : Issue := issueOf (word 5 4 0 1 (1 * 2 ^ 21))

def w2_IntegerResults : Env := sees (word 5 4 0 1 (1 * 2 ^ 21))

theorem wit_IntegerResults :
    ((Instr.div, 5) ∈ intRows) ∧
    (Ready (at0 ready0).dev w1_IntegerResults 5 w2_IntegerResults) ∧
    (w2_IntegerResults.part ≠ 0) ∧
    (ckCode (intCk 5 w2_IntegerResults.w w2_IntegerResults.second w2_IntegerResults.d.shape.regs) = 0) :=
  ⟨by simp [intRows], ready_of (by decide +kernel), by decide +kernel, by decide +kernel⟩

def w1_IntegerResults_top : Issue := issueOf (word 17 62 0 2 (2 * 2 ^ 21))

def w2_IntegerResults_top : Env := sees (word 17 62 0 2 (2 * 2 ^ 21))

theorem wit_IntegerResults_top :
    ((Instr.notOp, 17) ∈ intRows) ∧
    (Ready (at0 ready0).dev w1_IntegerResults_top 17 w2_IntegerResults_top) ∧
    (w2_IntegerResults_top.part ≠ 0) ∧
    (ckCode (intCk 17 w2_IntegerResults_top.w w2_IntegerResults_top.second w2_IntegerResults_top.d.shape.regs) = 0) :=
  ⟨by simp [intRows], ready_of (by decide +kernel), by decide +kernel, by decide +kernel⟩

def w1_CountsAndChoices_cnt1 : Issue := issueOf (word 18 4 0 0 (2 * 2 ^ 21))

def w2_CountsAndChoices_cnt1 : Env := sees (word 18 4 0 0 (2 * 2 ^ 21))

theorem wit_CountsAndChoices_cnt1 :
    (Ready (at0 ready0).dev w1_CountsAndChoices_cnt1 18 w2_CountsAndChoices_cnt1) ∧
    (w2_CountsAndChoices_cnt1.part ≠ 0) ∧
    (ckCode (intCk 18 w2_CountsAndChoices_cnt1.w w2_CountsAndChoices_cnt1.second w2_CountsAndChoices_cnt1.d.shape.regs) = 0) :=
  ⟨ready_of (by decide +kernel), by decide +kernel, by decide +kernel⟩

def w1_CountsAndChoices_lzc : Issue := issueOf (word 19 4 0 2 0)

theorem wit_CountsAndChoices_lzc :
    (Ready (at0 ready0).dev w1_CountsAndChoices_lzc 19 (sees (word 19 4 0 2 0))) ∧
    ((sees (word 19 4 0 2 0)).part ≠ 0) ∧
    (ckCode (intCk 19 (sees (word 19 4 0 2 0)).w (sees (word 19 4 0 2 0)).second (sees (word 19 4 0 2 0)).d.shape.regs) = 0) :=
  ⟨ready_of (by decide +kernel), by decide +kernel, by decide +kernel⟩

def w1_CountsAndChoices_cmp : Issue := issueOf (word 14 7 0 1 (5 * 2 ^ 18))

def w2_CountsAndChoices_cmp : Env := sees (word 14 7 0 1 (5 * 2 ^ 18))

theorem wit_CountsAndChoices_cmp :
    (Ready (at0 ready0).dev w1_CountsAndChoices_cmp 14 w2_CountsAndChoices_cmp) ∧
    (w2_CountsAndChoices_cmp.part ≠ 0) ∧
    (ckCode (intCk 14 w2_CountsAndChoices_cmp.w w2_CountsAndChoices_cmp.second w2_CountsAndChoices_cmp.d.shape.regs) = 0) :=
  ⟨ready_of (by decide +kernel), by decide +kernel, by decide +kernel⟩

def w1_CountsAndChoices_pick : Issue := issueOf (word 15 6 0 2 (1 * 2 ^ 18))

def w2_CountsAndChoices_pick : Env := sees (word 15 6 0 2 (1 * 2 ^ 18))

theorem wit_CountsAndChoices_pick :
    (Ready (at0 ready0).dev w1_CountsAndChoices_pick 15 w2_CountsAndChoices_pick) ∧
    (w2_CountsAndChoices_pick.part ≠ 0) ∧
    (ckCode (intCk 15 w2_CountsAndChoices_pick.w w2_CountsAndChoices_pick.second w2_CountsAndChoices_pick.d.shape.regs) = 0) :=
  ⟨ready_of (by decide +kernel), by decide +kernel, by decide +kernel⟩

def w1_FloatResults : Issue := issueOf (word 26 6 4 5 0)

theorem wit_FloatResults :
    ((Instr.macf, 26) ∈ floatRows) ∧
    (Ready (at0 ready0).dev w1_FloatResults 26 (sees (word 26 6 4 5 0))) ∧
    ((sees (word 26 6 4 5 0)).part ≠ 0) ∧
    (ckCode (floatCk 26 (sees (word 26 6 4 5 0)).w (sees (word 26 6 4 5 0)).second (sees (word 26 6 4 5 0)).d.shape.regs) = 0) :=
  ⟨by simp [floatRows], ready_of (by decide +kernel), by decide +kernel, by decide +kernel⟩

def w1_FloatResults_unary : Issue := issueOf (word 37 6 5 0 0)

theorem wit_FloatResults_unary :
    ((Instr.tanhf, 37) ∈ floatRows) ∧
    (Ready (at0 ready0).dev w1_FloatResults_unary 37 (sees (word 37 6 5 0 0))) ∧
    ((sees (word 37 6 5 0 0)).part ≠ 0) ∧
    (ckCode (floatCk 37 (sees (word 37 6 5 0 0)).w (sees (word 37 6 5 0 0)).second (sees (word 37 6 5 0 0)).d.shape.regs) = 0) :=
  ⟨by simp [floatRows], ready_of (by decide +kernel), by decide +kernel, by decide +kernel⟩

def w1_FloatResults_cmpf : Issue := issueOf (word 29 3 4 5 0)

theorem wit_FloatResults_cmpf :
    (Ready (at0 ready0).dev w1_FloatResults_cmpf 29 (sees (word 29 3 4 5 0))) ∧
    ((sees (word 29 3 4 5 0)).part ≠ 0) ∧
    (ckCode (floatCk 29 (sees (word 29 3 4 5 0)).w (sees (word 29 3 4 5 0)).second (sees (word 29 3 4 5 0)).d.shape.regs) = 0) :=
  ⟨ready_of (by decide +kernel), by decide +kernel, by decide +kernel⟩

def w1_ConversionAndDraws_xfmt : Issue := issueOf (word 40 6 4 0 (2 ^ 21 + 2 * 2 ^ 17 + 2 ^ 8))

def w2_ConversionAndDraws_xfmt : Env := sees (word 40 6 4 0 (2 ^ 21 + 2 * 2 ^ 17 + 2 ^ 8))

theorem wit_ConversionAndDraws_xfmt :
    (Ready (at0 ready0).dev w1_ConversionAndDraws_xfmt 40 w2_ConversionAndDraws_xfmt) ∧
    (w2_ConversionAndDraws_xfmt.part ≠ 0) ∧
    (ckCode (xfmtCk w2_ConversionAndDraws_xfmt.w w2_ConversionAndDraws_xfmt.second w2_ConversionAndDraws_xfmt.d.shape.regs) = 0) :=
  ⟨ready_of (by decide +kernel), by decide +kernel, by decide +kernel⟩

def w1_ConversionAndDraws_rnd : Issue := issueOf (word 80 6 4 0 (2 ^ 22))

def w2_ConversionAndDraws_rnd : Env := sees (word 80 6 4 0 (2 ^ 22))

theorem wit_ConversionAndDraws_rnd :
    (Ready (at0 ready0).dev w1_ConversionAndDraws_rnd 80 w2_ConversionAndDraws_rnd) ∧
    (w2_ConversionAndDraws_rnd.part ≠ 0) ∧
    (ckCode (rndCk w2_ConversionAndDraws_rnd.w w2_ConversionAndDraws_rnd.d.shape.regs) = 0) :=
  ⟨ready_of (by decide +kernel), by decide +kernel, by decide +kernel⟩

def w1_LaneExchangeAndVotes_lxch : Issue := issueOf (word 64 6 0 31 (2 ^ 24 + 2 ^ 27))

def w2_LaneExchangeAndVotes_lxch : Env := sees (word 64 6 0 31 (2 ^ 24 + 2 ^ 27))

theorem wit_LaneExchangeAndVotes_lxch :
    (Ready (at0 ready0).dev w1_LaneExchangeAndVotes_lxch 64 w2_LaneExchangeAndVotes_lxch) ∧
    (w2_LaneExchangeAndVotes_lxch.part ≠ 0) ∧
    (ckCode (lxchCk w2_LaneExchangeAndVotes_lxch.w w2_LaneExchangeAndVotes_lxch.second w2_LaneExchangeAndVotes_lxch.d.shape.regs) = 0) :=
  ⟨ready_of (by decide +kernel), by decide +kernel, by decide +kernel⟩

def w1_LaneExchangeAndVotes_any : Issue := issueOf (word 65 3 0 0 (2 * 2 ^ 20))

def w2_LaneExchangeAndVotes_any : Env := sees (word 65 3 0 0 (2 * 2 ^ 20))

theorem wit_LaneExchangeAndVotes_any :
    (Ready (at0 ready0).dev w1_LaneExchangeAndVotes_any 65 w2_LaneExchangeAndVotes_any) ∧
    (w2_LaneExchangeAndVotes_any.part ≠ 0) ∧
    (ckCode (tallyCk w2_LaneExchangeAndVotes_any.w w2_LaneExchangeAndVotes_any.d.shape.regs) = 0) :=
  ⟨ready_of (by decide +kernel), by decide +kernel, by decide +kernel⟩

def w1_LaneExchangeAndVotes_mask : Issue := issueOf (word 65 3 0 0 (2 ^ 24 + 2 * 2 ^ 20))

def w2_LaneExchangeAndVotes_mask : Env := sees (word 65 3 0 0 (2 ^ 24 + 2 * 2 ^ 20))

theorem wit_LaneExchangeAndVotes_mask :
    (Ready (at0 ready0).dev w1_LaneExchangeAndVotes_mask 65 w2_LaneExchangeAndVotes_mask) ∧
    (w2_LaneExchangeAndVotes_mask.part ≠ 0) ∧
    (ckCode (tallyCk w2_LaneExchangeAndVotes_mask.w w2_LaneExchangeAndVotes_mask.d.shape.regs) = 0) :=
  ⟨ready_of (by decide +kernel), by decide +kernel, by decide +kernel⟩

def w1_SpecialReads_sread : Issue := issueOf (word 79 3 0 0 1)

theorem wit_SpecialReads_sread :
    (Ready (at0 ready0).dev w1_SpecialReads_sread 79 (sees (word 79 3 0 0 1))) ∧
    ((sees (word 79 3 0 0 1)).part ≠ 0) ∧
    (ckCode (sreadCk (sees (word 79 3 0 0 1)).w (sees (word 79 3 0 0 1)).d.shape.regs) = 0) :=
  ⟨ready_of (by decide +kernel), by decide +kernel, by decide +kernel⟩

def w1_SpecialReads_nop : Issue := issueOf (word 78 0 0 0 0)

theorem wit_SpecialReads_nop :
    (Ready (at0 ready0).dev w1_SpecialReads_nop 78 (sees (word 78 0 0 0 0))) ∧
    ((sees (word 78 0 0 0 0)).part ≠ 0) ∧
    (ckCode (ckAll [selCk (sees (word 78 0 0 0 0)).w, modCk (sees (word 78 0 0 0 0)).w 0, noA (sees (word 78 0 0 0 0)).w, noB (sees (word 78 0 0 0
      0)).w, noD (sees (word 78 0 0 0 0)).w]) = 0) :=
  ⟨ready_of (by decide +kernel), by decide +kernel, by decide +kernel⟩

def w1_SpecialReads_sslot : Issue := issueOf (word 104 0 0 0 (2 ^ 27))

def w2_SpecialReads_sslot : Env := sees (word 104 0 0 0 (2 ^ 27))

theorem wit_SpecialReads_sslot :
    (Ready (at0 ready0).dev w1_SpecialReads_sslot 104 w2_SpecialReads_sslot) ∧
    (w2_SpecialReads_sslot.part ≠ 0) ∧
    (ckCode (sslotCk w2_SpecialReads_sslot.w w2_SpecialReads_sslot.second) = 0) ∧
    (srcB w2_SpecialReads_sslot.g w2_SpecialReads_sslot.w w2_SpecialReads_sslot.second 0 1 < if w2_SpecialReads_sslot.d.plain = true then 1 else
      w2_SpecialReads_sslot.d.slots.length) :=
  ⟨ready_of (by decide +kernel), by decide +kernel, by decide +kernel, by decide +kernel⟩

def w1_SpecialReads_spgn : Env := envAt batch0 (issueOf (word 108 5 0 0 0))

def w2_SpecialReads_spgn : Issue := issueOf (word 108 5 0 0 0)

theorem wit_SpecialReads_spgn :
    (Ready (at0 batch0).dev w2_SpecialReads_spgn 108 w1_SpecialReads_spgn) ∧
    (w1_SpecialReads_spgn.part ≠ 0) ∧
    (ckCode (spgnCk w1_SpecialReads_spgn.w w1_SpecialReads_spgn.d.shape.regs) = 0) ∧
    (w1_SpecialReads_spgn.d.plain = false) :=
  ⟨ready_of (by decide +kernel), by decide +kernel, by decide +kernel, by decide +kernel⟩

def w1_SpecialReads_spgl : Env := envAt batch0 (issueOf (word 107 6 0 3 (2 ^ 27)))

def w2_SpecialReads_spgl : Issue := issueOf (word 107 6 0 3 (2 ^ 27))

theorem wit_SpecialReads_spgl :
    (Ready (at0 batch0).dev w2_SpecialReads_spgl 107 w1_SpecialReads_spgl) ∧
    (w1_SpecialReads_spgl.part ≠ 0) ∧
    (ckCode (ckAll [selCk w1_SpecialReads_spgl.w, modCk w1_SpecialReads_spgl.w 0, noA w1_SpecialReads_spgl.w, bCk w1_SpecialReads_spgl.w
      w1_SpecialReads_spgl.second 1 w1_SpecialReads_spgl.d.shape.regs, gCk (wDst w1_SpecialReads_spgl.w) 2 w1_SpecialReads_spgl.d.shape.regs]) =
      0) ∧
    (w1_SpecialReads_spgl.d.plain = false) ∧
    (∀ (l : Nat), (BitVec.toNat w1_SpecialReads_spgl.part).testBit l = true → srcB w1_SpecialReads_spgl.g w1_SpecialReads_spgl.w
      w1_SpecialReads_spgl.second l 1 < (slotOf w1_SpecialReads_spgl.d w1_SpecialReads_spgl.g.slot).kvCount) :=
  ⟨ready_of (by decide +kernel), by decide +kernel, by decide +kernel, by decide +kernel, lanes_of (by decide +kernel)⟩

def w1_Branches_jmp : Issue := issueOf (word 72 0 0 0 8388608)

def w2_Branches_jmp : Env := sees (word 72 0 0 0 8388608)

theorem wit_Branches_jmp :
    (Ready (at0 ready0).dev w1_Branches_jmp 72 w2_Branches_jmp) ∧
    (w2_Branches_jmp.part ≠ 0) ∧
    (ckCode (ckAll [branchCk w2_Branches_jmp.w, noD w2_Branches_jmp.w]) = 0) :=
  ⟨ready_of (by decide +kernel), by decide +kernel, by decide +kernel⟩

def w1_Branches_jmp_some : Issue := issueOf (guarded 72 0 0 0 2 1)

def w2_Branches_jmp_some : Env := sees (guarded 72 0 0 0 2 1)

theorem wit_Branches_jmp_some :
    (Ready (at0 ready0).dev w1_Branches_jmp_some 72 w2_Branches_jmp_some) ∧
    (w2_Branches_jmp_some.part ≠ 0) ∧
    (ckCode (ckAll [branchCk w2_Branches_jmp_some.w, noD w2_Branches_jmp_some.w]) = 0) :=
  ⟨ready_of (by decide +kernel), by decide +kernel, by decide +kernel⟩

def w1_Branches_call : Issue := issueOf (word 74 62 0 0 2)

theorem wit_Branches_call :
    (Ready (at0 ready0).dev w1_Branches_call 74 (sees (word 74 62 0 0 2))) ∧
    ((sees (word 74 62 0 0 2)).part ≠ 0) ∧
    (ckCode (ckAll [branchCk (sees (word 74 62 0 0 2)).w, gCk (wDst (sees (word 74 62 0 0 2)).w) 2 (sees (word 74 62 0 0 2)).d.shape.regs]) = 0) :=
  ⟨ready_of (by decide +kernel), by decide +kernel, by decide +kernel⟩

def w1_Branches_jmpr : Issue := issueOf (guarded 73 0 2 0 0 1)

def w2_Branches_jmpr : Env := sees (guarded 73 0 2 0 0 1)

theorem wit_Branches_jmpr :
    (Ready (at0 ready0).dev w1_Branches_jmpr 73 w2_Branches_jmpr) ∧
    (w2_Branches_jmpr.part ≠ 0) ∧
    (ckCode (ckAll [selCk w2_Branches_jmpr.w, modCk w2_Branches_jmpr.w 0, aCk w2_Branches_jmpr.w 2 w2_Branches_jmpr.d.shape.regs, noB
      w2_Branches_jmpr.w, noD w2_Branches_jmpr.w]) = 0) ∧
    (∀ (l : Nat), (BitVec.toNat w2_Branches_jmpr.part).testBit l = true → srcA w2_Branches_jmpr.g w2_Branches_jmpr.w l 2 % 8 = 0) ∧
    (∀ (l : Nat), (BitVec.toNat w2_Branches_jmpr.part).testBit l = true → srcA w2_Branches_jmpr.g w2_Branches_jmpr.w l 2 = 65536) :=
  ⟨ready_of (by decide +kernel), by decide +kernel, by decide +kernel, lanes_of (by decide +kernel), lanes_of (by decide +kernel)⟩

def w1_Convergence_conv : Issue := issueOf (word 75 0 0 0 4)

theorem wit_Convergence_conv :
    (Ready (at0 ready0).dev w1_Convergence_conv 75 (sees (word 75 0 0 0 4))) ∧
    (ckCode (ckAll [branchCk (sees (word 75 0 0 0 4)).w, noD (sees (word 75 0 0 0 4)).w, argIf !alwaysGuard (sees (word 75 0 0 0 4)).w]) = 0) ∧
    ((sees (word 75 0 0 0 4)).g.recs.length < 32) :=
  ⟨ready_of (by decide +kernel), by decide +kernel, by decide +kernel⟩

def w1_Convergence_join : Env := envAt (joinDev 4) (issueOf (word 76 0 0 0 0))

def w2_Convergence_join : Issue := issueOf (word 76 0 0 0 0)

theorem wit_Convergence_join :
    (Ready (at0 (joinDev 4)).dev w2_Convergence_join 76 w1_Convergence_join) ∧
    (ckCode (ckAll [selCk w1_Convergence_join.w, modCk w1_Convergence_join.w 0, noA w1_Convergence_join.w, noB w1_Convergence_join.w, noD
      w1_Convergence_join.w, argIf !alwaysGuard w1_Convergence_join.w]) = 0) :=
  ⟨ready_of (by decide +kernel), by decide +kernel⟩

def w1_Convergence_wait : Env := envAt (joinDev 0) (issueOf (word 76 0 0 0 0))

theorem wit_Convergence_wait :
    (Ready (at0 (joinDev 0)).dev w2_Convergence_join 76 w1_Convergence_wait) ∧
    (ckCode (ckAll [selCk w1_Convergence_wait.w, modCk w1_Convergence_wait.w 0, noA w1_Convergence_wait.w, noB w1_Convergence_wait.w, noD
      w1_Convergence_wait.w, argIf !alwaysGuard w1_Convergence_wait.w]) = 0) :=
  ⟨ready_of (by decide +kernel), by decide +kernel⟩

def w1_BarriersAndEnd_bar : Env := envAt (pairRegDev false) (issueOf (word 62 0 0 0 15))

def w2_BarriersAndEnd_bar : Issue := issueOf (word 62 0 0 0 15)

theorem wit_BarriersAndEnd_bar :
    (Ready (at0 (pairRegDev false)).dev w2_BarriersAndEnd_bar 62 w1_BarriersAndEnd_bar) ∧
    (ckCode (ckAll [selCk w1_BarriersAndEnd_bar.w, modCk w1_BarriersAndEnd_bar.w 15, noA w1_BarriersAndEnd_bar.w, noB w1_BarriersAndEnd_bar.w, noD
      w1_BarriersAndEnd_bar.w, argIf !alwaysGuard w1_BarriersAndEnd_bar.w]) = 0) ∧
    (ownStoresPending w1_BarriersAndEnd_bar.c w1_BarriersAndEnd_bar.gno = false) ∧
    (w1_BarriersAndEnd_bar.g.bars = []) ∧
    (w1_BarriersAndEnd_bar.g.queue = []) ∧
    (w1_BarriersAndEnd_bar.g.recs = []) :=
  ⟨ready_of (by decide +kernel), by decide +kernel, by decide +kernel, by decide +kernel, by decide +kernel, by decide +kernel⟩

def w1_BarriersAndEnd_last : Env := envAt (pairRegDev true) (issueOf (word 62 0 0 0 0))

def w2_BarriersAndEnd_last : Issue := issueOf (word 62 0 0 0 0)

theorem wit_BarriersAndEnd_last :
    (Ready (at0 (pairRegDev true)).dev w2_BarriersAndEnd_last 62 w1_BarriersAndEnd_last) ∧
    (ckCode (ckAll [selCk w1_BarriersAndEnd_last.w, modCk w1_BarriersAndEnd_last.w 15, noA w1_BarriersAndEnd_last.w, noB w1_BarriersAndEnd_last.w,
      noD w1_BarriersAndEnd_last.w, argIf !alwaysGuard w1_BarriersAndEnd_last.w]) = 0) ∧
    (ownStoresPending w1_BarriersAndEnd_last.c w1_BarriersAndEnd_last.gno = false) ∧
    (w1_BarriersAndEnd_last.g.bars = []) ∧
    (w1_BarriersAndEnd_last.g.queue = []) ∧
    (w1_BarriersAndEnd_last.g.recs = []) :=
  ⟨ready_of (by decide +kernel), by decide +kernel, by decide +kernel, by decide +kernel, by decide +kernel, by decide +kernel⟩

def w1_BarriersAndEnd_end : Issue := issueOf (word 77 0 0 0 0)

theorem wit_BarriersAndEnd_end :
    (Ready (at0 ready0).dev w1_BarriersAndEnd_end 77 (sees (word 77 0 0 0 0))) ∧
    ((sees (word 77 0 0 0 0)).part ≠ 0) ∧
    (ckCode (ckAll [selCk (sees (word 77 0 0 0 0)).w, modCk (sees (word 77 0 0 0 0)).w 0, noA (sees (word 77 0 0 0 0)).w, noB (sees (word 77 0 0 0
      0)).w, noD (sees (word 77 0 0 0 0)).w]) = 0) :=
  ⟨ready_of (by decide +kernel), by decide +kernel, by decide +kernel⟩

end Sys2Proof.Tests
end

