-- ==== Sys2Proof/Tests/WitHost.lean ====
section
/-!
SUPPORT. Premises of the statements about the host port, met together by concrete states: one theorem for each clause.
-/
namespace Sys2Proof.Tests
open Sys2Proof Sys2Proof.Machine
set_option Elab.async false

/-- A coherent host on a CXL link, bound to functions 0 and 2, with decoder 0 of 256 MiB from address 2^32 on. -/
def hostDev : Dev :=
  let d := fset (fset (fset net0 RF.HST_STATUS_LINK 3) RF.HST_STATUS_MEM_EN 1) RF.HST_STATUS_HOST_VALID 1
  let d := fset (fset d (RF.HST_BIND_STATUS_BOUND 0) 1) (RF.HST_BIND_STATUS_COHERENT 0) 1
  let d := fset (fset d (RF.HST_BIND_STATUS_BOUND 2) 1) (RF.HST_BIND_STATUS_COHERENT 2) 1
  let d := fset (fset (fset d (RF.SHC_EPOCH_VALID 64) 1) (RF.SHC_EPOCH_EPOCH 64) 7) (RF.HST_BIND_STATUS_BOUND 5) 1
  setComp32 (setComp32 (setComp32 d (hdmDec 0 + 4) 1) (hdmDec 0 + 8) 0x10000000) (hdmDec 0 + 16) 0x400

/-- The host binds, and unbinds, function 3 to two ranges. -/
def bindBody : List (Nat × Nat) := [(16, 3), (17, 1), (18, 2), (25, 16), (32, 255), (33, 255), (43, 1), (48, 255), (49, 255), (50, 255), (51, 1)]
def bindDev : Dev := cmdOn mapped0 0x80 bindBody
def unbindDev : Dev :=
  let d := fset mapped0 (RF.HST_BIND_STATUS_BOUND 3) 1
  cmdOn { d with trust := { d.trust with conns := [] } } 0x81 [(16, 3)]
def boundDev : Dev := fset mapped0 (RF.HST_BIND_STATUS_BOUND 3) 1

/-- What a training finds. -/
def cxlUp : LinkUp := ⟨3, true, false, 4, 16, [(0, 0x1000, 0x2000)]⟩
def noLink : LinkUp := ⟨0, false, false, 0, 0, []⟩

/-- A host with lines that this device holds, and a line of its own. -/
def hostLines : Dev :=
  { hostDev with shore := { hostDev.shore with lines := [(peerOwn, ⟨0x1234, false, 0, 0, false, .home, 0⟩), (hostLine 7, ⟨5, false, 0, 0, false, .s, 0⟩),
      (hostLine 8, ⟨6, false, 0, 0, false, .d, 0⟩), (hostLine 9, ⟨7, false, 0, 0, false, .pending, 1⟩)] } }
def hostDown : Dev := fset hostLines RF.HST_STATUS_LINK 1

/-- The line of frame 3. -/
def heldMem : Line := ⟨0x1234, false, 0, 0, false, .home, 0⟩

/-- It is in its slice; an address of the host that reaches it; frame 9 is not this host's. -/
def cxlDev : Dev := { hostDev with shore := { hostDev.shore with lines := [(peerOwn, heldMem)] } }
def memAt : Nat := 2 ^ 32 + 64 * peerOwn
def memElse : Nat := 2 ^ 32 + 9 * 2 ^ 21

/-- A line that the host holds, which has been asked for. -/
def snoopTxn : Txn := ⟨.free, none, [64], none, false⟩
def snooping : Dev :=
  { hostDev with shore := { hostDev.shore with lines := [(peerOwn, heldMem)], dir := [(peerOwn, soleEntry .dirty 64 0 0)], txn := [(peerOwn, snoopTxn)] } }

/-- Function 0 reaches the pages of instance 0. -/
def barDev : Dev := fset (fset (fset mapped0 (RF.HST_BIND_STATUS_BOUND 0) 1) RF.HST_STATUS_LINK 3) RF.HST_STATUS_HOST_VALID 1
/-- Function 5 is that of a frozen instance. -/
def barFrozen : Dev := fset (fset (fset mapped0 (RF.HST_BIND_STATUS_BOUND 5) 1) RF.HST_STATUS_LINK 3) (RF.INS_STATUS_STATE 5) 3

/-- A vector with a message that waits. -/
def maskedVec : MsixVec := ⟨true, true⟩
def msixDev : Dev := { barDev with host := { barDev.host with msix := [(3, maskedVec)] } }

/-- What an invalidating snoop leaves of a line. -/
def nothingLeft : Line → Option Line := fun _ => none

theorem wit_HostBindingsAndLink_bind :
    (Admits (at0 bindDev).dev 128 (cmdAt 0 1) (runsAs 128 bindDev)) ∧
    (3 = eb (runsAs 128 bindDev).e 16 1) ∧
    (1 ≤ 3) ∧
    (3 ≤ 32) ∧
    (2 = eb (runsAs 128 bindDev).e 18 1) ∧
    (2 = 1 ∨ 2 = 2) ∧
    (∀ (o : Nat), o ∈ [24, 40] → o = 24 ∨ 2 = 2 → eb (runsAs 128 bindDev).e o 8 % 4096 = 0 ∧ (eb (runsAs 128 bindDev).e (o + 8) 8 + 1) % 4096 = 0
      ∧ eb (runsAs 128 bindDev).e o 8 ≤ eb (runsAs 128 bindDev).e (o + 8) 8 ∧ eb (runsAs 128 bindDev).e (o + 8) 8 < 2 ^ 52) ∧
    (2 = 1 → eb (runsAs 128 bindDev).e 40 8 = 0 ∧ eb (runsAs 128 bindDev).e 48 8 = 0) ∧
    ((runsAs 128 bindDev).origin = 3 → bitOf (eb (runsAs 128 bindDev).e 17 1) 0 = true → false = true) ∧
    (fget (at0 bindDev).dev (RF.HST_BIND_STATUS_TDISP 3) ≠ 1) ∧
    (fget (at0 bindDev).dev (RF.HST_BIND_STATUS_TDISP 3) ≠ 2) ∧
    (fget (at0 bindDev).dev (RF.HST_BIND_STATUS_BOUND 3) = 0) :=
  ⟨admits_of (by decide +kernel), by decide +kernel, by decide +kernel, by decide +kernel, by decide +kernel, by decide +kernel, by decide +kernel,
    by decide +kernel, by decide +kernel, by decide +kernel, by decide +kernel, by decide +kernel⟩

theorem wit_HostBindingsAndLink_unbind :
    (1 ≤ 3) ∧
    (3 ≤ 32) ∧
    (fget (at0 unbindDev).dev (RF.HST_BIND_STATUS_BOUND 3) = 1) ∧
    (Admits (at0 unbindDev).dev 129 (cmdAt 0 1) (runsAs 129 unbindDev)) ∧
    (3 = eb (runsAs 129 unbindDev).e 16 1) ∧
    (fget (at0 unbindDev).dev (RF.HST_BIND_STATUS_TDISP 3) ≠ 1) ∧
    (fget (at0 unbindDev).dev (RF.HST_BIND_STATUS_TDISP 3) ≠ 2) :=
  ⟨by decide +kernel, by decide +kernel, by decide +kernel, admits_of (by decide +kernel), by decide +kernel, by decide +kernel, by decide +kernel⟩

theorem wit_HostBindingsAndLink_timeout :
    (1 ≤ 3) ∧
    (3 ≤ 32) ∧
    (fget (at0 boundDev).dev (RF.HST_BIND_STATUS_BOUND 3) = 1) ∧
    (coherentBinding (at0 boundDev).dev 3 = false) :=
  ⟨by decide +kernel, by decide +kernel, by decide +kernel, by decide +kernel⟩

theorem wit_HostBindingsAndLink_train :
    (8 ≤ fget (at0 mapped0).dev RF.BRG_START_STATUS_STAGE) ∧
    (fget (at0 mapped0).dev RF.BRG_ERR_STATUS_FATAL = 0) ∧
    (linkLegal cxlUp = true) ∧
    (cxlUp.link = 3) ∧
    (cxlUp.flit256 = true) ∧
    (fget (at0 mapped0).dev (RF.HST_BIND_STATUS_BOUND 0) = 0) :=
  ⟨by decide +kernel, by decide +kernel, by decide +kernel, by decide +kernel, by decide +kernel, by decide +kernel⟩

theorem wit_HostBindingsAndLink_none :
    (8 ≤ fget (at0 hostLines).dev RF.BRG_START_STATUS_STAGE) ∧
    (fget (at0 hostLines).dev RF.BRG_ERR_STATUS_FATAL = 0) ∧
    (linkLegal noLink = true) ∧
    (noLink.link < 2) :=
  ⟨by decide +kernel, by decide +kernel, by decide +kernel, by decide +kernel⟩

theorem wit_HostBindingsAndLink_retry :
    (2 ≤ fget (at0 hostLines).dev RF.HST_STATUS_LINK) :=
  by decide +kernel

theorem wit_HostBindingsAndLink_exhausted :
    (2 ≤ fget (at0 hostLines).dev RF.HST_STATUS_LINK) :=
  by decide +kernel

theorem wit_HostBindingsAndLink_down :
    (Instr.linkDownTimeout = Instr.linkDownTimeout ∧ fget (at0 hostDown).dev RF.HST_STATUS_LINK < 2 ∨ Instr.linkDownTimeout = Instr.hotReset) ∧
    (fget (at0 hostDown).dev (RF.HST_BIND_STATUS_BOUND 0) = 1) ∧
    ((at0 hostDown).dev.shore.dir = []) ∧
    ((at0 hostDown).dev.shore.txn = []) ∧
    ((at0 hostDown).dev.shore.queue = []) ∧
    ((at0 hostDown).dev.net = []) ∧
    ((at0 hostDown).dev.cores = []) :=
  ⟨Or.inl ⟨rfl, by decide +kernel⟩, by decide +kernel, by decide +kernel, by decide +kernel, by decide +kernel, by decide +kernel,
    by decide +kernel⟩

theorem wit_HostBindingsAndLink_reset :
    (Instr.hotReset = Instr.linkDownTimeout ∧ fget (at0 hostLines).dev RF.HST_STATUS_LINK < 2 ∨ Instr.hotReset = Instr.hotReset) ∧
    (fget (at0 hostLines).dev (RF.HST_BIND_STATUS_BOUND 0) = 1) ∧
    ((at0 hostLines).dev.shore.dir = []) ∧
    ((at0 hostLines).dev.shore.txn = []) ∧
    ((at0 hostLines).dev.shore.queue = []) ∧
    ((at0 hostLines).dev.net = []) ∧
    ((at0 hostLines).dev.cores = []) :=
  ⟨Or.inr rfl, by decide +kernel, by decide +kernel, by decide +kernel, by decide +kernel, by decide +kernel, by decide +kernel⟩

theorem wit_HostTraffic_unsupported :
    (serving (at0 cxlDev).dev = true) ∧
    ((at0 cxlDev).dev.blocked = []) ∧
    (fget (at0 cxlDev).dev RF.HST_STATUS_MEM_EN = 1) ∧
    (fget (at0 cxlDev).dev RF.HST_STATUS_HOST_VALID = 1) ∧
    (hdmMap (at0 cxlDev).dev 77 = none) :=
  ⟨by decide +kernel, by decide +kernel, by decide +kernel, by decide +kernel, by decide +kernel⟩

theorem wit_HostTraffic_current :
    (serving (at0 cxlDev).dev = true) ∧
    ((at0 cxlDev).dev.blocked = []) ∧
    (fget (at0 cxlDev).dev RF.HST_STATUS_MEM_EN = 1) ∧
    (fget (at0 cxlDev).dev RF.HST_STATUS_HOST_VALID = 1) ∧
    (hdmMap (at0 cxlDev).dev memAt = some (64 * peerOwn)) ∧
    (peerOwn = 64 * peerOwn / 64) ∧
    (memAdmitted (at0 cxlDev).dev (64 * peerOwn / 2 ^ 21) = (cxlDev, true)) ∧
    (cxlDev.blocked = []) ∧
    (HeldHome cxlDev peerOwn heldMem) ∧
    (tget cxlDev.shore.fills peerOwn = none) ∧
    (tget cxlDev.shore.queue peerOwn = none) :=
  ⟨by decide +kernel, by decide +kernel, by decide +kernel, by decide +kernel, by decide +kernel, by decide +kernel, by decide +kernel,
    by decide +kernel, heldHome_of (by decide +kernel), by decide +kernel, by decide +kernel⟩

theorem wit_HostTraffic_shared :
    (serving (at0 cxlDev).dev = true) ∧
    ((at0 cxlDev).dev.blocked = []) ∧
    (fget (at0 cxlDev).dev RF.HST_STATUS_MEM_EN = 1) ∧
    (fget (at0 cxlDev).dev RF.HST_STATUS_HOST_VALID = 1) ∧
    (hdmMap (at0 cxlDev).dev memAt = some (64 * peerOwn)) ∧
    (peerOwn = 64 * peerOwn / 64) ∧
    (memAdmitted (at0 cxlDev).dev (64 * peerOwn / 2 ^ 21) = (cxlDev, true)) ∧
    (cxlDev.blocked = []) ∧
    (HeldHome cxlDev peerOwn heldMem) ∧
    (tget cxlDev.shore.fills peerOwn = none) ∧
    (tget cxlDev.shore.queue peerOwn = none) ∧
    ((MemRd.shared, false, DirState.sole) ∈ [(MemRd.shared, false, DirState.sole), (MemRd.exclusive, true, DirState.dirty), (MemRd.ownOnly, true,
      DirState.dirty)]) ∧
    ((dirSet cxlDev peerOwn).length < 16) :=
  ⟨by decide +kernel, by decide +kernel, by decide +kernel, by decide +kernel, by decide +kernel, by decide +kernel, by decide +kernel,
    by decide +kernel, heldHome_of (by decide +kernel), by decide +kernel, by decide +kernel, by decide +kernel, by decide +kernel⟩

def w1_HostTraffic_write : LineData := { data := BitVec.ofNat 512 (2 ^ 512 - 1), poison := 0 : LineData }

theorem wit_HostTraffic_write :
    (serving (at0 cxlDev).dev = true) ∧
    ((at0 cxlDev).dev.blocked = []) ∧
    (fget (at0 cxlDev).dev RF.HST_STATUS_MEM_EN = 1) ∧
    (fget (at0 cxlDev).dev RF.HST_STATUS_HOST_VALID = 1) ∧
    (hdmMap (at0 cxlDev).dev memAt = some (64 * peerOwn)) ∧
    (peerOwn = 64 * peerOwn / 64) ∧
    (memAdmitted (at0 cxlDev).dev (64 * peerOwn / 2 ^ 21) = (cxlDev, true)) ∧
    (cxlDev.blocked = []) ∧
    (HeldHome cxlDev peerOwn heldMem) ∧
    (tget cxlDev.shore.fills peerOwn = none) ∧
    (tget cxlDev.shore.queue peerOwn = none) :=
  ⟨by decide +kernel, by decide +kernel, by decide +kernel, by decide +kernel, by decide +kernel, by decide +kernel, by decide +kernel,
    by decide +kernel, heldHome_of (by decide +kernel), by decide +kernel, by decide +kernel⟩

theorem wit_HostTraffic_refused :
    (serving (at0 cxlDev).dev = true) ∧
    ((at0 cxlDev).dev.blocked = []) ∧
    (fget (at0 cxlDev).dev RF.HST_STATUS_MEM_EN = 1) ∧
    (fget (at0 cxlDev).dev RF.HST_STATUS_HOST_VALID = 1) ∧
    (hdmMap (at0 cxlDev).dev memElse = some (9 * 2 ^ 21)) ∧
    (memAdmitted (at0 cxlDev).dev (9 * 2 ^ 21 / 2 ^ 21) = (cxlDev, false)) ∧
    (cxlDev.blocked = []) :=
  ⟨by decide +kernel, by decide +kernel, by decide +kernel, by decide +kernel, by decide +kernel, by decide +kernel, by decide +kernel⟩

def w1_HostTraffic_dropped : LineData := { data := 5, poison := 0 : LineData }

theorem wit_HostTraffic_dropped :
    (serving (at0 cxlDev).dev = true) ∧
    ((at0 cxlDev).dev.blocked = []) ∧
    (fget (at0 cxlDev).dev RF.HST_STATUS_MEM_EN = 1) ∧
    (fget (at0 cxlDev).dev RF.HST_STATUS_HOST_VALID = 1) ∧
    (hdmMap (at0 cxlDev).dev memElse = some (9 * 2 ^ 21)) ∧
    (memAdmitted (at0 cxlDev).dev (9 * 2 ^ 21 / 2 ^ 21) = (cxlDev, false)) ∧
    (cxlDev.blocked = []) :=
  ⟨by decide +kernel, by decide +kernel, by decide +kernel, by decide +kernel, by decide +kernel, by decide +kernel, by decide +kernel⟩

theorem wit_HostTraffic_absent :
    (serving (at0 hostLines).dev = true) ∧
    ((at0 hostLines).dev.blocked = []) ∧
    (fget (at0 hostLines).dev RF.HST_STATUS_HOST_VALID = 1) ∧
    (hostLine 9 = hostLine 9) ∧
    (Instr.snpInv 9 ∈ [Instr.snpData 9, Instr.snpInv 9, Instr.snpCur 9]) ∧
    (Option.map (fun x => x.hold) (lineAt (at0 hostLines).dev (hostLine 9)) = none ∨ Option.map (fun x => x.hold) (lineAt (at0 hostLines).dev
      (hostLine 9)) = some Hold.pending) :=
  ⟨by decide +kernel, by decide +kernel, by decide +kernel, by decide +kernel, by simp, by decide +kernel⟩

def w1_HostTraffic_snoop : Line := { data := 6, dirty := false, poison := 0, uncorr := 0, ext := false, hold := Hold.d, pmask := 0 : Line }

theorem wit_HostTraffic_snoop :
    (serving (at0 hostLines).dev = true) ∧
    ((at0 hostLines).dev.blocked = []) ∧
    (fget (at0 hostLines).dev RF.HST_STATUS_HOST_VALID = 1) ∧
    (hostLine 8 = hostLine 8) ∧
    (lineAt (at0 hostLines).dev (hostLine 8) = some w1_HostTraffic_snoop) ∧
    (w1_HostTraffic_snoop.hold ≠ Hold.pending) ∧
    ((Instr.snpInv 8 = Instr.snpData 8 ∧ false = true ∧ nothingLeft = fun l => some { data := l.data, dirty := l.dirty, poison := l.poison, uncorr := l.uncorr, ext := l.ext, hold := Hold.s, pmask := l.pmask : Line })
      ∨ (Instr.snpInv 8 = Instr.snpInv 8 ∧ false = false ∧ nothingLeft = fun x => none) ∨ Instr.snpInv 8 = Instr.snpCur 8 ∧ false = true ∧
      nothingLeft = some) :=
  ⟨by decide +kernel, by decide +kernel, by decide +kernel, by decide +kernel, by decide +kernel, by decide +kernel, Or.inr (Or.inl ⟨rfl, rfl,
    rfl⟩)⟩

def w1_HostTraffic_birsp : Option LineData := some { data := 153, poison := 0 : LineData }

theorem wit_HostTraffic_birsp :
    (serving (at0 snooping).dev = true) ∧
    ((at0 snooping).dev.blocked = []) ∧
    (tget (at0 snooping).dev.shore.txn peerOwn = some snoopTxn) ∧
    (snoopTxn.waiting = [64]) ∧
    (snoopTxn.req = none) ∧
    (snoopTxn.next = none) ∧
    ((at0 snooping).dev.shore.queue = []) ∧
    ((at0 snooping).dev.shore.fills = []) ∧
    (lineAt (at0 snooping).dev peerOwn = some heldMem) :=
  ⟨by decide +kernel, by decide +kernel, by decide +kernel, by decide +kernel, by decide +kernel, by decide +kernel, by decide +kernel,
    by decide +kernel, by decide +kernel⟩

theorem wit_HostTraffic_silent :
    (serving (at0 snooping).dev = true) ∧
    ((at0 snooping).dev.blocked = []) ∧
    (tget (at0 snooping).dev.shore.txn peerOwn = some snoopTxn) ∧
    (snoopTxn.waiting = [64]) ∧
    (snoopTxn.req = none) ∧
    (snoopTxn.next = none) ∧
    ((at0 snooping).dev.shore.queue = []) ∧
    ((at0 snooping).dev.shore.fills = []) ∧
    (fget (at0 snooping).dev (RF.HST_BIND_STATUS_BOUND 0) = 1) ∧
    (coherentBinding (at0 snooping).dev 0 = true) ∧
    ((at0 snooping).dev.shore.txn = [(peerOwn, snoopTxn)]) :=
  ⟨by decide +kernel, by decide +kernel, by decide +kernel, by decide +kernel, by decide +kernel, by decide +kernel, by decide +kernel,
    by decide +kernel, by decide +kernel, by decide +kernel, by decide +kernel⟩

def w1_HostTraffic_bar_read : List Byte := (devRead (barTranslate barDev 0 65568 0).fst 2162720 8).snd.fst

def w2_HostTraffic_bar_read : Dev := (devRead (barTranslate barDev 0 65568 0).fst 2162720 8).fst

def w3_HostTraffic_bar_read : Dev := (barTranslate barDev 0 65568 0).fst

theorem wit_HostTraffic_bar_read :
    (serving (at0 barDev).dev = true) ∧
    ((at0 barDev).dev.blocked = []) ∧
    (0 ≤ 32) ∧
    (0 < 8) ∧
    (8 ≤ 4096) ∧
    (65568 + 8 ≤ 2 ^ 36) ∧
    (false = true → [9].length = 8) ∧
    (hasHost (at0 barDev).dev 0 = true) ∧
    (fget (at0 barDev).dev RF.HST_STATUS_LINK ≠ 2) ∧
    (0 = 0 ∨ fget (at0 barDev).dev (RF.HST_BIND_STATUS_TDISP 0) = 0) ∧
    (65568 = bar2Va (at0 barDev).dev 0 + 65568) ∧
    (65568 % 4096 + 8 ≤ 4096) ∧
    (insState (at0 barDev).dev 0 ≠ 2) ∧
    (insState (at0 barDev).dev 0 ≠ 3) ∧
    (barTranslate (at0 barDev).dev 0 65568 (if false = true then 1 else 0) = (w3_HostTraffic_bar_read, some 2162720)) ∧
    (false = false) ∧
    (devRead w3_HostTraffic_bar_read (2162720 / 4096 * 4096 + 65568 % 4096) 8 = (w2_HostTraffic_bar_read, w1_HostTraffic_bar_read, 0)) ∧
    (w2_HostTraffic_bar_read.blocked = []) :=
  ⟨by decide +kernel, by decide +kernel, by decide +kernel, by decide +kernel, by decide +kernel, by decide +kernel, by decide +kernel,
    by decide +kernel, by decide +kernel, by decide +kernel, by decide +kernel, by decide +kernel, by decide +kernel, by decide +kernel,
    by decide +kernel, by decide +kernel, by decide +kernel, by decide +kernel⟩

def w1_HostTraffic_bar_write : Dev := putBytes (barTranslate barDev 0 65568 1).fst 2162720 [1, 2, 3] false 2

def w2_HostTraffic_bar_write : Dev := (barTranslate barDev 0 65568 1).fst

theorem wit_HostTraffic_bar_write :
    (serving (at0 barDev).dev = true) ∧
    ((at0 barDev).dev.blocked = []) ∧
    (0 ≤ 32) ∧
    (0 < 3) ∧
    (3 ≤ 4096) ∧
    (65568 + 3 ≤ 2 ^ 36) ∧
    (true = true → [1, 2, 3].length = 3) ∧
    (hasHost (at0 barDev).dev 0 = true) ∧
    (fget (at0 barDev).dev RF.HST_STATUS_LINK ≠ 2) ∧
    (0 = 0 ∨ fget (at0 barDev).dev (RF.HST_BIND_STATUS_TDISP 0) = 0) ∧
    (65568 = bar2Va (at0 barDev).dev 0 + 65568) ∧
    (65568 % 4096 + 3 ≤ 4096) ∧
    (insState (at0 barDev).dev 0 ≠ 2) ∧
    (insState (at0 barDev).dev 0 ≠ 3) ∧
    (barTranslate (at0 barDev).dev 0 65568 (if true = true then 1 else 0) = (w2_HostTraffic_bar_write, some 2162720)) ∧
    (true = true) ∧
    (w1_HostTraffic_bar_write = putBytes w2_HostTraffic_bar_write (2162720 / 4096 * 4096 + 65568 % 4096) [1, 2, 3] false (3 / 32 + 2)) ∧
    (w1_HostTraffic_bar_write.blocked = []) :=
  ⟨by decide +kernel, by decide +kernel, by decide +kernel, by decide +kernel, by decide +kernel, by decide +kernel, by decide +kernel,
    by decide +kernel, by decide +kernel, by decide +kernel, by decide +kernel, by decide +kernel, by decide +kernel, by decide +kernel,
    by decide +kernel, by decide +kernel, by decide +kernel, by decide +kernel⟩

theorem wit_HostTraffic_bar_frozen :
    (serving (at0 barFrozen).dev = true) ∧
    ((at0 barFrozen).dev.blocked = []) ∧
    (5 ≤ 32) ∧
    (0 < 8) ∧
    (8 ≤ 4096) ∧
    (32 + 8 ≤ 2 ^ 36) ∧
    (false = true → [9].length = 8) ∧
    (hasHost (at0 barFrozen).dev 5 = true) ∧
    (fget (at0 barFrozen).dev RF.HST_STATUS_LINK ≠ 2) ∧
    (5 = 0 ∨ fget (at0 barFrozen).dev (RF.HST_BIND_STATUS_TDISP 5) = 0) ∧
    (32 = bar2Va (at0 barFrozen).dev 5 + 32) ∧
    (32 % 4096 + 8 ≤ 4096) ∧
    (insState (at0 barFrozen).dev 5 = 2 ∨ insState (at0 barFrozen).dev 5 = 3) :=
  ⟨by decide +kernel, by decide +kernel, by decide +kernel, by decide +kernel, by decide +kernel, by decide +kernel, by decide +kernel,
    by decide +kernel, by decide +kernel, by decide +kernel, by decide +kernel, by decide +kernel, by decide +kernel⟩

theorem wit_HostTraffic_unmask :
    (serving (at0 msixDev).dev = true) ∧
    ((at0 msixDev).dev.blocked = []) ∧
    (0 ≤ 32) ∧
    (3 < vectorsOf 0) ∧
    (0 = 0 ∨ fget (at0 msixDev).dev (RF.HST_BIND_STATUS_TDISP 0) = 0) ∧
    (maskedVec = tgetD (at0 msixDev).dev.host.msix (64 * 0 + 3) { masked := true, pending := false : MsixVec }) :=
  ⟨by decide +kernel, by decide +kernel, by decide +kernel, by decide +kernel, by decide +kernel, by decide +kernel⟩

end Sys2Proof.Tests
end

