-- ==== Sys2Proof/Tests/WitInstances.lean ====
section
/-!
SUPPORT. Premises of the statement about instances and migration, met together by concrete states: one theorem for each clause.
-/
namespace Sys2Proof.Tests
open Sys2Proof Sys2Proof.Machine
set_option Elab.async false

/-- Instance 1 in a STATE, with islands 1 and 2, sessions 100 to 199 and frames 10 and 11. -/
def tenantDev (st : Nat) : Dev :=
  let d := fset (fset mapped0 (RF.INS_STATUS_STATE 1) st) (RF.INS_ISLANDS_ISLANDS 1) 6
  let d := fset (fset (fset d (RF.INS_SESSIONS_FIRST 1) 100) (RF.INS_SESSIONS_COUNT 1) 100) (RF.INS_ISLANDS_ISLANDS 0) 9
  { d with ins := { d.ins with owner := [(1, 0), (2, 0), (10, 1), (11, 1), (2 ^ 18, 0)] } }

/-- An open session of instance 1, bound to binding 3. -/
def tenantSes : Session := { Session.closed 1 with state := .ready, binding := 3 }

/-- Instance 1 with a ring, a session, and bytes in its frames. -/
def usedTenant : Dev :=
  let d := tenantDev 1
  { d with
    dram := { d.dram with cells := tables ++ [(10 * 2 ^ 21, 7)] }
    fe := { d.fe with rings := tset d.fe.rings (ringKey 1 2) ring0, sessions := [(100, tenantSes)] } }

/-- A command about instance 1. -/
def aboutOne (d : Dev) (op : Nat) (body : List (Nat × Nat)) : Dev := cmdOn d op ((16, 1) :: body)

def createIns : Dev := aboutOne (fset mapped0 (RF.INS_ISLANDS_ISLANDS 0) 0xF) 0x90 [(17, 1), (18, 1), (20, 100), (24, 10), (28, 4), (30, 2), (32, 6)]
def assignDev : Dev := aboutOne (tenantDev 1) 0x91 [(20, 20), (24, 2)]
def releaseDev : Dev := aboutOne (tenantDev 1) 0x91 [(17, 1), (20, 10), (24, 2)]
def addIslands : Dev := aboutOne (tenantDev 1) 0x92 [(24, 8)]
def removeIslands : Dev := aboutOne (tenantDev 1) 0x92 [(17, 1), (24, 4)]
def resetIns : Dev := aboutOne usedTenant 0x94 []
def destroyIns : Dev := aboutOne usedTenant 0x93 []
def freezeIns : Dev := aboutOne (tenantDev 1) 0x95 []
def resumeIns : Dev := aboutOne (let d := usedTenant; fset d (RF.INS_STATUS_STATE 1) 3) 0x96 []

/-- A freeze that has begun. -/
def freezeEntry : StoreEntry := ⟨0, 1, 0, entryOf 0x95 [(16, 1)], 1, false⟩
def freezing : Dev :=
  let d := tenantDev 2
  { d with fe := { d.fe with rings := tset d.fe.rings 1 ring0, store := [freezeEntry], cache := [100] } }

/-- A ring of instance 1 at 0x10000 of instance 1's page tables, which lie in its frame 10. -/
def ring1 : Ring := { ring0 with ringVa := 0x10000, cplVa := 0x20000, watchVa := 0x30040 }
def tables1 : List Host.Cell :=
  [(0x1400000, 0x01), (0x1400001, 0x10), (0x1400002, 0x40), (0x1400003, 0x01), (0x1401000, 0x01), (0x1401001, 0x20), (0x1401002, 0x40),
   (0x1401003, 0x01), (0x1402000, 0x01), (0x1402001, 0x30), (0x1402002, 0x40), (0x1402003, 0x01), (0x1403000, 0x3B), (0x1403002, 0x60), (0x1403003, 0x01)]
def resumable : Dev :=
  let d := fset (fset (tenantDev 3) (RF.TRN_ROOT_VALID 1) 1) (RF.TRN_ROOT_ROOT 1) 0x1400
  aboutOne { d with dram := { d.dram with cells := tables1 }, fe := { d.fe with rings := [(ringKey 1 2, ring1)] } } 0x96 []
def rings1 (d : Dev) : List (Nat × Ring) := d.fe.rings.filter (fun p => p.1 / 4096 == 1)

/-- A key for the slot 3 of a migration, with which the instance, which owns no frame, is saved, or restored. -/
def slotDev (op role : Nat) : Dev :=
  let d := fset (fset mapped0 (RF.INS_STATUS_STATE 1) 3) (RF.INS_STATUS_RESTORE_TARGET 1) role
  aboutOne { d with trust := { d.trust with slots := [(3, (role, 55))] }, ins := { d.ins with unfilled := if role = 1 then [1] else [] } } op
    [(17, 3), (26, 1), (if role = 1 then 32 else 34, if role = 1 then 64 else 1)]
def migKeyDev : Dev := cmdOn mapped0 0x99 [(16, 3), (18, 1)]

def checkedSave : Dev := (vaCheck (slotDev 0x97 0) 0 0x10000 0x10000 1).1
def checkedRest : Dev := (vaCheck (slotDev 0x98 1) 0 0x10000 64 0).1
def readRest : Dev := (vaGiven checkedRest 0 0x10000 64 []).1

/-- Commands of a store have different keys. -/
theorem keys_of {l : List StoreEntry} (h : l.all (fun a => l.all (fun b => cmdKey a.inst a.ring a.pos != cmdKey b.inst b.ring b.pos || a == b)) = true) :
    ∀ a b : StoreEntry, a ∈ l → b ∈ l → cmdKey a.inst a.ring a.pos = cmdKey b.inst b.ring b.pos → a = b := by
  intro a b ha hb hk
  have := List.all_eq_true.mp (List.all_eq_true.mp h a ha) b hb
  simpa [hk] using this

theorem wit_InstancesAndMigration_create :
    (Admits (at0 createIns).dev 144 (cmdAt 0 1) (runsAs 144 createIns)) ∧
    (1 = eb (runsAs 144 createIns).e 16 1) ∧
    (6 = eb (runsAs 144 createIns).e 32 8) ∧
    (100 = eb (runsAs 144 createIns).e 20 4) ∧
    (10 = eb (runsAs 144 createIns).e 24 4) ∧
    (4 = eb (runsAs 144 createIns).e 28 2) ∧
    (2 = eb (runsAs 144 createIns).e 30 2) ∧
    (1 ≤ 1) ∧
    (1 ≤ 32) ∧
    (eb (runsAs 144 createIns).e 18 1 ≤ 2) ∧
    (0 < 10) ∧
    (0 < 2) ∧
    (6 ≠ 0) ∧
    (fget (at0 createIns).dev RF.BRG_PKG_LEVEL_ENABLED_COUNT ≤ 44) ∧
    (6 < 2 ^ fget (at0 createIns).dev RF.BRG_PKG_LEVEL_ENABLED_COUNT) ∧
    (100 + 10 ≤ 1048576) ∧
    (overlapsRange (at0 createIns).dev 100 10 = false) ∧
    (insState (at0 createIns).dev 1 = 0) ∧
    (heldByTenant (at0 createIns).dev 6 = false) ∧
    (∀ (p : Nat × Session), p ∈ (at0 createIns).dev.fe.sessions → p.fst < 100 ∨ 100 + 10 ≤ p.fst) ∧
    (fget (at0 createIns).dev (RF.INS_ISLANDS_ISLANDS 0) &&& 6 ≠ fget (at0 createIns).dev (RF.INS_ISLANDS_ISLANDS 0)) ∧
    (tenantSum (at0 createIns).dev RF.INS_QUOTA_MAX_BINDINGS + 4 + fget (at0 createIns).dev (RF.INS_QUOTA_BINDINGS_USED 0) ≤ 4096) ∧
    (tenantSum (at0 createIns).dev RF.INS_QUOTA_MAX_RINGS + 2 + fget (at0 createIns).dev (RF.INS_QUOTA_RINGS_USED 0) ≤ 4096) :=
  ⟨admits_of (by decide +kernel), by decide +kernel, by decide +kernel, by decide +kernel, by decide +kernel, by decide +kernel, by decide +kernel,
    by decide +kernel, by decide +kernel, by decide +kernel, by decide +kernel, by decide +kernel, by decide +kernel, by decide +kernel,
    by decide +kernel, by decide +kernel, by decide +kernel, by decide +kernel, by decide +kernel, by decide +kernel, by decide +kernel,
    by decide +kernel, by decide +kernel⟩

theorem wit_InstancesAndMigration_assign :
    (1 = eb (runsAs 145 assignDev).e 16 1) ∧
    (1 ≤ 32) ∧
    (20 = eb (runsAs 145 assignDev).e 20 4) ∧
    (2 = eb (runsAs 145 assignDev).e 24 4) ∧
    (0 < 2) ∧
    (framesMapped (at0 assignDev).dev 20 2 = true) ∧
    (insState (at0 assignDev).dev 1 ≠ 0) ∧
    (insState (at0 assignDev).dev 1 ≠ 4) ∧
    (insState (at0 assignDev).dev 1 = 2 ∨ insState (at0 assignDev).dev 1 = 3 → 1 ∈ (at0 assignDev).dev.ins.unfilled) ∧
    (Admits (at0 assignDev).dev 145 (cmdAt 0 1) (runsAs 145 assignDev)) ∧
    (eb (runsAs 145 assignDev).e 17 1 = 0) ∧
    (∀ (fr : Nat), fr ∈ runOf 20 2 → reservedFrame (at0 assignDev).dev fr = false ∧ ownerOf (at0 assignDev).dev fr = 255) :=
  ⟨by decide +kernel, by decide +kernel, by decide +kernel, by decide +kernel, by decide +kernel, by decide +kernel, by decide +kernel,
    by decide +kernel, by decide +kernel, admits_of (by decide +kernel), by decide +kernel, by decide +kernel⟩

def w1_InstancesAndMigration_release : Dev := (migFrames releaseDev 1).fst

def w2_InstancesAndMigration_release : List Nat := (migFrames releaseDev 1).snd

theorem wit_InstancesAndMigration_release :
    (1 = eb (runsAs 145 releaseDev).e 16 1) ∧
    (1 ≤ 32) ∧
    (10 = eb (runsAs 145 releaseDev).e 20 4) ∧
    (2 = eb (runsAs 145 releaseDev).e 24 4) ∧
    (0 < 2) ∧
    (framesMapped (at0 releaseDev).dev 10 2 = true) ∧
    (insState (at0 releaseDev).dev 1 ≠ 0) ∧
    (insState (at0 releaseDev).dev 1 ≠ 4) ∧
    (insState (at0 releaseDev).dev 1 = 2 ∨ insState (at0 releaseDev).dev 1 = 3 → 1 ∈ (at0 releaseDev).dev.ins.unfilled) ∧
    (Admits (at0 releaseDev).dev 145 (cmdAt 0 1) (runsAs 145 releaseDev)) ∧
    (eb (runsAs 145 releaseDev).e 17 1 = 1) ∧
    (migFrames (at0 releaseDev).dev 1 = (w1_InstancesAndMigration_release, w2_InstancesAndMigration_release)) ∧
    (w1_InstancesAndMigration_release.blocked = []) ∧
    (w1_InstancesAndMigration_release.fe = (at0 releaseDev).dev.fe) ∧
    (w1_InstancesAndMigration_release.ins = (at0 releaseDev).dev.ins) ∧
    (w1_InstancesAndMigration_release.shore = (at0 releaseDev).dev.shore) ∧
    (∀ (fr : Nat), fr ∈ runOf 10 2 → owns w1_InstancesAndMigration_release 1 fr = true ∧ inPool w1_InstancesAndMigration_release fr = false ∧ ¬fr
      ∈ w2_InstancesAndMigration_release ∧ inExport w1_InstancesAndMigration_release fr = false ∧ holdsRing w1_InstancesAndMigration_release fr =
      false) ∧
    (framesMapped w1_InstancesAndMigration_release 10 2 = true) ∧
    (insState w1_InstancesAndMigration_release 1 = insState (at0 releaseDev).dev 1) ∧
    (∀ (p : Nat × DirEntry), p ∈ w1_InstancesAndMigration_release.shore.dir → p.fst / 2 ^ 15 < 10 ∨ 10 + 2 ≤ p.fst / 2 ^ 15) :=
  ⟨by decide +kernel, by decide +kernel, by decide +kernel, by decide +kernel, by decide +kernel, by decide +kernel, by decide +kernel,
    by decide +kernel, by decide +kernel, admits_of (by decide +kernel), by decide +kernel, by decide +kernel, by decide +kernel, by decide +kernel,
    by decide +kernel, by decide +kernel, by decide +kernel, by decide +kernel, by decide +kernel, by decide +kernel⟩

theorem wit_InstancesAndMigration_add :
    (1 = eb (runsAs 146 addIslands).e 16 1) ∧
    (1 ≤ 1) ∧
    (1 ≤ 32) ∧
    (8 = eb (runsAs 146 addIslands).e 24 8) ∧
    (8 ≠ 0) ∧
    (8 < 2 ^ 44) ∧
    (fget (at0 addIslands).dev RF.BRG_PKG_LEVEL_ENABLED_COUNT ≤ 44) ∧
    (insState (at0 addIslands).dev 1 ≠ 0) ∧
    (insState (at0 addIslands).dev 1 ≠ 4) ∧
    (insState (at0 addIslands).dev 1 = 2 ∨ insState (at0 addIslands).dev 1 = 3 → 1 ∈ (at0 addIslands).dev.ins.unfilled) ∧
    (Admits (at0 addIslands).dev 146 (cmdAt 0 1) (runsAs 146 addIslands)) ∧
    (eb (runsAs 146 addIslands).e 17 1 = 0) ∧
    (fget (at0 addIslands).dev (RF.INS_ISLANDS_ISLANDS 0) &&& 8 = 8) ∧
    (fget (at0 addIslands).dev (RF.INS_ISLANDS_ISLANDS 0) ≠ 8) :=
  ⟨by decide +kernel, by decide +kernel, by decide +kernel, by decide +kernel, by decide +kernel, by decide +kernel, by decide +kernel,
    by decide +kernel, by decide +kernel, by decide +kernel, admits_of (by decide +kernel), by decide +kernel, by decide +kernel, by decide +kernel⟩

theorem wit_InstancesAndMigration_remove :
    (1 = eb (runsAs 146 removeIslands).e 16 1) ∧
    (1 ≤ 1) ∧
    (1 ≤ 32) ∧
    (4 = eb (runsAs 146 removeIslands).e 24 8) ∧
    (4 ≠ 0) ∧
    (4 < 2 ^ 44) ∧
    (fget (at0 removeIslands).dev RF.BRG_PKG_LEVEL_ENABLED_COUNT ≤ 44) ∧
    (insState (at0 removeIslands).dev 1 ≠ 0) ∧
    (insState (at0 removeIslands).dev 1 ≠ 4) ∧
    (insState (at0 removeIslands).dev 1 = 2 ∨ insState (at0 removeIslands).dev 1 = 3 → 1 ∈ (at0 removeIslands).dev.ins.unfilled) ∧
    (Admits (at0 removeIslands).dev 146 (cmdAt 0 1) (runsAs 146 removeIslands)) ∧
    (eb (runsAs 146 removeIslands).e 17 1 = 1) ∧
    (fget (at0 removeIslands).dev (RF.INS_ISLANDS_ISLANDS 1) &&& 4 = 4) ∧
    (fget (at0 removeIslands).dev (RF.INS_ISLANDS_ISLANDS 1) ≠ 4) ∧
    (∀ (p : Nat × Binding), p ∈ (at0 removeIslands).dev.fe.bindings → p.snd.inst = 1 → p.snd.islands &&& 4 = 0) ∧
    (∀ (p : Nat × Dispatch), p ∈ (at0 removeIslands).dev.disp → ∀ (k : Nat), k ∈ p.snd.got → bitOf 4 k = false) :=
  ⟨by decide +kernel, by decide +kernel, by decide +kernel, by decide +kernel, by decide +kernel, by decide +kernel, by decide +kernel,
    by decide +kernel, by decide +kernel, by decide +kernel, admits_of (by decide +kernel), by decide +kernel, by decide +kernel, by decide +kernel,
    by decide +kernel, by decide +kernel⟩

theorem wit_InstancesAndMigration_reset :
    (1 ≤ 1) ∧
    (1 ≤ 32) ∧
    ((runsAs 148 resetIns).inst ≠ 1) ∧
    ((runsAs 148 resetIns).ring < 4096) ∧
    (insState (at0 resetIns).dev 1 ≠ 0) ∧
    (insState (at0 resetIns).dev 1 ≠ 4) ∧
    (∀ (j : Nat), j < 33 → insState (at0 resetIns).dev j ≠ 4) ∧
    (tget (at0 resetIns).dev.ins.after 1 = none) ∧
    (¬1 ∈ (at0 resetIns).dev.ins.stopping) ∧
    ((at0 resetIns).dev.disp = []) ∧
    ((at0 resetIns).dev.mem.moves = []) ∧
    ((at0 resetIns).dev.xl.invals = []) ∧
    ((at0 resetIns).dev.fab.comms = []) ∧
    ((at0 resetIns).dev.traces = []) ∧
    ((at0 resetIns).dev.shore.dir = []) ∧
    ((at0 resetIns).dev.shore.txn = []) ∧
    (∀ (e : StoreEntry), e ∈ (at0 resetIns).dev.fe.store → e.phase ≠ 1 ∧ e.inst ≤ 32 ∧ e.ring < 4096) ∧
    (∀ (a b : StoreEntry), a ∈ (at0 resetIns).dev.fe.store → b ∈ (at0 resetIns).dev.fe.store → cmdKey a.inst a.ring a.pos = cmdKey b.inst b.ring
      b.pos → a = b) ∧
    ((at0 resetIns).dev.fe.store.Nodup) ∧
    ((Instr.insReset, 148, 1) ∈ [(Instr.insReset, 148, 1), (Instr.insDestroy, 147, 0)]) ∧
    (Admits (at0 resetIns).dev 148 (cmdAt 0 1) (runsAs 148 resetIns)) ∧
    (1 = eb (runsAs 148 resetIns).e 16 1) ∧
    (1 = 0 → fget (at0 resetIns).dev (RF.HST_BIND_STATUS_BOUND 1) ≠ 1) :=
  ⟨by decide +kernel, by decide +kernel, by decide +kernel, by decide +kernel, by decide +kernel, by decide +kernel, by decide +kernel,
    by decide +kernel, by decide +kernel, by decide +kernel, by decide +kernel, by decide +kernel, by decide +kernel, by decide +kernel,
    by decide +kernel, by decide +kernel, by decide +kernel, keys_of (by decide +kernel), by decide +kernel, by simp, admits_of (by decide +kernel),
    by decide +kernel, by decide +kernel⟩

theorem wit_InstancesAndMigration_destroy :
    (1 ≤ 1) ∧
    (1 ≤ 32) ∧
    ((runsAs 147 destroyIns).inst ≠ 1) ∧
    ((runsAs 147 destroyIns).ring < 4096) ∧
    (insState (at0 destroyIns).dev 1 ≠ 0) ∧
    (insState (at0 destroyIns).dev 1 ≠ 4) ∧
    (∀ (j : Nat), j < 33 → insState (at0 destroyIns).dev j ≠ 4) ∧
    (tget (at0 destroyIns).dev.ins.after 1 = none) ∧
    (¬1 ∈ (at0 destroyIns).dev.ins.stopping) ∧
    ((at0 destroyIns).dev.disp = []) ∧
    ((at0 destroyIns).dev.mem.moves = []) ∧
    ((at0 destroyIns).dev.xl.invals = []) ∧
    ((at0 destroyIns).dev.fab.comms = []) ∧
    ((at0 destroyIns).dev.traces = []) ∧
    ((at0 destroyIns).dev.shore.dir = []) ∧
    ((at0 destroyIns).dev.shore.txn = []) ∧
    (∀ (e : StoreEntry), e ∈ (at0 destroyIns).dev.fe.store → e.phase ≠ 1 ∧ e.inst ≤ 32 ∧ e.ring < 4096) ∧
    (∀ (a b : StoreEntry), a ∈ (at0 destroyIns).dev.fe.store → b ∈ (at0 destroyIns).dev.fe.store → cmdKey a.inst a.ring a.pos = cmdKey b.inst
      b.ring b.pos → a = b) ∧
    ((at0 destroyIns).dev.fe.store.Nodup) ∧
    ((Instr.insDestroy, 147, 0) ∈ [(Instr.insReset, 148, 1), (Instr.insDestroy, 147, 0)]) ∧
    (Admits (at0 destroyIns).dev 147 (cmdAt 0 1) (runsAs 147 destroyIns)) ∧
    (1 = eb (runsAs 147 destroyIns).e 16 1) ∧
    (0 = 0 → fget (at0 destroyIns).dev (RF.HST_BIND_STATUS_BOUND 1) ≠ 1) :=
  ⟨by decide +kernel, by decide +kernel, by decide +kernel, by decide +kernel, by decide +kernel, by decide +kernel, by decide +kernel,
    by decide +kernel, by decide +kernel, by decide +kernel, by decide +kernel, by decide +kernel, by decide +kernel, by decide +kernel,
    by decide +kernel, by decide +kernel, by decide +kernel, keys_of (by decide +kernel), by decide +kernel, by simp, admits_of (by decide +kernel),
    by decide +kernel, by decide +kernel⟩

def w1_InstancesAndMigration_flr : Ctx := ctxAt 148 (cmdAt 0 1) resetIns

theorem wit_InstancesAndMigration_flr :
    (1 ≤ 1) ∧
    (1 ≤ 32) ∧
    (w1_InstancesAndMigration_flr.inst ≠ 1) ∧
    (w1_InstancesAndMigration_flr.ring < 4096) ∧
    (insState (at0 usedTenant).dev 1 ≠ 0) ∧
    (insState (at0 usedTenant).dev 1 ≠ 4) ∧
    (∀ (j : Nat), j < 33 → insState (at0 usedTenant).dev j ≠ 4) ∧
    (tget (at0 usedTenant).dev.ins.after 1 = none) ∧
    (¬1 ∈ (at0 usedTenant).dev.ins.stopping) ∧
    ((at0 usedTenant).dev.disp = []) ∧
    ((at0 usedTenant).dev.mem.moves = []) ∧
    ((at0 usedTenant).dev.xl.invals = []) ∧
    ((at0 usedTenant).dev.fab.comms = []) ∧
    ((at0 usedTenant).dev.traces = []) ∧
    ((at0 usedTenant).dev.shore.dir = []) ∧
    ((at0 usedTenant).dev.shore.txn = []) ∧
    (∀ (e : StoreEntry), e ∈ (at0 usedTenant).dev.fe.store → e.phase ≠ 1 ∧ e.inst ≤ 32 ∧ e.ring < 4096) ∧
    (∀ (a b : StoreEntry), a ∈ (at0 usedTenant).dev.fe.store → b ∈ (at0 usedTenant).dev.fe.store → cmdKey a.inst a.ring a.pos = cmdKey b.inst
      b.ring b.pos → a = b) ∧
    ((at0 usedTenant).dev.fe.store.Nodup) ∧
    (serving (at0 usedTenant).dev = true) ∧
    ((at0 usedTenant).dev.blocked = []) ∧
    (fget (at0 usedTenant).dev (RF.HST_BIND_STATUS_TDISP 1) ≠ 1) ∧
    (fget (at0 usedTenant).dev (RF.HST_BIND_STATUS_TDISP 1) ≠ 2) :=
  ⟨by decide +kernel, by decide +kernel, by decide +kernel, by decide +kernel, by decide +kernel, by decide +kernel, by decide +kernel,
    by decide +kernel, by decide +kernel, by decide +kernel, by decide +kernel, by decide +kernel, by decide +kernel, by decide +kernel,
    by decide +kernel, by decide +kernel, by decide +kernel, keys_of (by decide +kernel), by decide +kernel, by decide +kernel, by decide +kernel,
    by decide +kernel, by decide +kernel⟩

theorem wit_InstancesAndMigration_freeze :
    (Admits (at0 freezeIns).dev 149 (cmdAt 0 1) (runsAs 149 freezeIns)) ∧
    (1 = eb (runsAs 149 freezeIns).e 16 1) ∧
    (1 ≤ 1) ∧
    (1 ≤ 32) ∧
    (insState (at0 freezeIns).dev 1 = 1) ∧
    (jnlMode (at0 freezeIns).dev 1 ≠ 2) :=
  ⟨admits_of (by decide +kernel), by decide +kernel, by decide +kernel, by decide +kernel, by decide +kernel, by decide +kernel⟩

theorem wit_InstancesAndMigration_frozen :
    (insState (at0 freezing).dev 1 = 2) ∧
    (1 ≤ 32) ∧
    (quiet (at0 freezing).dev 1 = true) ∧
    (begunFor (at0 freezing).dev 149 1 = [cmdKey 0 1 0]) ∧
    (storeAt (at0 freezing).dev (cmdKey 0 1 0) = some freezeEntry) ∧
    (entryOp freezeEntry.entry = 149) ∧
    (freezeEntry.inst ≤ 34) :=
  ⟨by decide +kernel, by decide +kernel, by decide +kernel, by decide +kernel, by decide +kernel, by decide +kernel, by decide +kernel⟩

def w1_InstancesAndMigration_resume : Dev := (retranslateAll resumable (rings1 resumable)).fst

theorem wit_InstancesAndMigration_resume :
    (Admits (at0 resumable).dev 150 (cmdAt 0 1) (runsAs 150 resumable)) ∧
    (1 = eb (runsAs 150 resumable).e 16 1) ∧
    (1 ≤ 1) ∧
    (1 ≤ 32) ∧
    (insState (at0 resumable).dev 1 = 3) ∧
    (¬1 ∈ (at0 resumable).dev.ins.unfilled) ∧
    (rings1 resumable = List.filter (fun p => p.fst / 4096 == 1) (at0 resumable).dev.fe.rings) ∧
    (retranslateAll (at0 resumable).dev (rings1 resumable) = (w1_InstancesAndMigration_resume, 0)) ∧
    (w1_InstancesAndMigration_resume.blocked = []) ∧
    (w1_InstancesAndMigration_resume.fe.store = (at0 resumable).dev.fe.store) :=
  ⟨admits_of (by decide +kernel), by decide +kernel, by decide +kernel, by decide +kernel, by decide +kernel, by decide +kernel, by decide +kernel,
    by decide +kernel, by decide +kernel, by decide +kernel⟩

def w1_InstancesAndMigration_save : MigImage := imageOf (flushInstance checkedSave 1) 1

def w2_InstancesAndMigration_save : Dev := flushInstance checkedSave 1

def w3_InstancesAndMigration_save : Ctx := runsAs 151 (slotDev 151 0)

theorem wit_InstancesAndMigration_save :
    (1 = eb w3_InstancesAndMigration_save.e 16 1) ∧
    (1 ≤ 1) ∧
    (1 ≤ 32) ∧
    (3 = eb w3_InstancesAndMigration_save.e 17 1) ∧
    (3 ≤ 7) ∧
    (65536 = eb w3_InstancesAndMigration_save.e 24 8) ∧
    (65536 = eb w3_InstancesAndMigration_save.e 32 8) ∧
    (65536 % 4096 = 0) ∧
    (insState (at0 (slotDev 151 0)).dev 1 = 3) ∧
    (Admits (at0 (slotDev 151 0)).dev 151 (cmdAt 0 1) w3_InstancesAndMigration_save) ∧
    (vaCheck (at0 (slotDev 151 0)).dev 0 65536 65536 1 = (checkedSave, 0)) ∧
    (checkedSave.ins = (at0 (slotDev 151 0)).dev.ins) ∧
    (checkedSave.trust = (at0 (slotDev 151 0)).dev.trust) ∧
    (insState checkedSave 1 = 3) ∧
    (slotKey (at0 (slotDev 151 0)).dev 3 0 = some 55) ∧
    (fget checkedSave (RF.FLT_STATUS_UNRESUMED 1) = 0) ∧
    (w2_InstancesAndMigration_save = w2_InstancesAndMigration_save) ∧
    (w1_InstancesAndMigration_save = w1_InstancesAndMigration_save) ∧
    (imageBytes w1_InstancesAndMigration_save ≤ 65536) :=
  ⟨by decide +kernel, by decide +kernel, by decide +kernel, by decide +kernel, by decide +kernel, by decide +kernel, by decide +kernel,
    by decide +kernel, by decide +kernel, admits_of (by decide +kernel), by decide +kernel, by decide +kernel, by decide +kernel, by decide +kernel,
    by decide +kernel, by decide +kernel, by decide +kernel, by decide +kernel, by decide +kernel⟩

def w1_InstancesAndMigration_restore : List Byte := (vaGiven checkedRest 0 65536 64 []).snd.fst

def w2_InstancesAndMigration_restore : Nat := (vaGiven checkedRest 0 65536 64 []).snd.snd

def w3_InstancesAndMigration_restore : Ctx := runsAs 152 (slotDev 152 1)

theorem wit_InstancesAndMigration_restore :
    (1 = eb w3_InstancesAndMigration_restore.e 16 1) ∧
    (1 ≤ 1) ∧
    (1 ≤ 32) ∧
    (3 = eb w3_InstancesAndMigration_restore.e 17 1) ∧
    (3 ≤ 7) ∧
    (65536 = eb w3_InstancesAndMigration_restore.e 24 8) ∧
    (64 = eb w3_InstancesAndMigration_restore.e 32 8) ∧
    (65536 % 4096 = 0) ∧
    (insState (at0 (slotDev 152 1)).dev 1 = 3) ∧
    (Admits (at0 (slotDev 152 1)).dev 152 (cmdAt 0 1) w3_InstancesAndMigration_restore) ∧
    (w3_InstancesAndMigration_restore.inst ≠ 1) ∧
    (∀ (j : Nat), j < 33 → insState (at0 (slotDev 152 1)).dev j ≠ 4) ∧
    (vaCheck (at0 (slotDev 152 1)).dev 0 65536 64 0 = (checkedRest, 0)) ∧
    (vaGiven checkedRest 0 65536 64 w3_InstancesAndMigration_restore.payload = (readRest, w1_InstancesAndMigration_restore,
      w2_InstancesAndMigration_restore)) ∧
    (readRest.blocked = []) ∧
    (checkedRest.trust = (at0 (slotDev 152 1)).dev.trust) ∧
    (checkedRest.ins = (at0 (slotDev 152 1)).dev.ins) ∧
    (readRest.ins = (at0 (slotDev 152 1)).dev.ins) ∧
    (readRest.trust = (at0 (slotDev 152 1)).dev.trust) ∧
    (readRest.fe = (at0 (slotDev 152 1)).dev.fe) ∧
    (∀ (j : Nat), j < 33 → insState checkedRest j = insState (at0 (slotDev 152 1)).dev j ∧ insState readRest j = insState (at0 (slotDev 152
      1)).dev j) ∧
    (slotKey (at0 (slotDev 152 1)).dev 3 1 = some 55) ∧
    (1 ∈ (at0 (slotDev 152 1)).dev.ins.unfilled) :=
  ⟨by decide +kernel, by decide +kernel, by decide +kernel, by decide +kernel, by decide +kernel, by decide +kernel, by decide +kernel,
    by decide +kernel, by decide +kernel, admits_of (by decide +kernel), by decide +kernel, by decide +kernel, by decide +kernel, by decide +kernel,
    by decide +kernel, by decide +kernel, by decide +kernel, by decide +kernel, by decide +kernel, by decide +kernel, by decide +kernel,
    by decide +kernel, by decide +kernel⟩

theorem wit_InstancesAndMigration_key :
    (Admits (at0 migKeyDev).dev 153 (cmdAt 0 1) (runsAs 153 migKeyDev)) ∧
    (3 = eb (runsAs 153 migKeyDev).e 16 1) ∧
    (0 = eb (runsAs 153 migKeyDev).e 17 1) ∧
    (1 = eb (runsAs 153 migKeyDev).e 18 1) ∧
    (0 = eb (runsAs 153 migKeyDev).e 20 2) ∧
    (3 ≤ 7) ∧
    (0 ≤ 1) ∧
    (1 ≤ 1) ∧
    (1 = 0 → 0 ≤ 32767 ∧ fabReach (at0 migKeyDev).dev 0 = true) :=
  ⟨admits_of (by decide +kernel), by decide +kernel, by decide +kernel, by decide +kernel, by decide +kernel, by decide +kernel, by decide +kernel,
    by decide +kernel, by decide +kernel⟩

end Sys2Proof.Tests
end

