-- ==== Sys2Proof/Tests/WitMail.lean ====
section
/-!
SUPPORT. Premises of the statement about mailboxes, met together by concrete states: one theorem for each clause.
-/
namespace Sys2Proof.Tests
open Sys2Proof Sys2Proof.Machine
set_option Elab.async false

/-- The mailbox of function 5, before and after boot lock, on a link in 256 B flits with two secure streams. -/
def mailDev (lock : Nat) (y : SpdmConn) : Dev :=
  let d := fset (fset (fset hostDev RF.SEC_STATUS_BOOT_LOCK lock) RF.HST_STATUS_FLIT256 1) RF.SEC_STATUS_DRBG_OK 1
  let d := fset d RF.HST_STATUS_IDE_STREAMS 2
  { d with trust := { d.trust with conns := [(0, y), (5, y)] }, host := { d.host with streams := [3, 4] } }

/-- Connections without and with a session, and one whose keys have been exchanged. -/
def plainConn : SpdmConn := ⟨some [1, 2], false, false⟩
def openConn : SpdmConn := { connAt (mailDev 1 plainConn) 5 with session := true }
def halfConn : SpdmConn := { connAt (mailDev 1 plainConn) 5 with exchanged := true }

/-- The interface of function 5 is locked, and its instance runs. -/
def lockedDev : Dev := fset (mailDev 1 openConn) (RF.HST_BIND_STATUS_TDISP 5) 1
def lockedRuns : Dev := fset lockedDev (RF.INS_STATUS_STATE 5) 1

/-- The blocks of a measurement. -/
def contentOf (d : Dev) (l : List Nat) : List Byte :=
  BitVec.ofNat 8 (blockIndices 5).length :: (l.map (fun k => BitVec.ofNat 8 k :: blockOf d 5 k)).flatten

def w1_Mailboxes_locked : State := at0 (mailDev 0 plainConn)

theorem wit_Mailboxes_locked :
    (plainConn = connAt w1_Mailboxes_locked.dev 5) ∧
    (connOpen w1_Mailboxes_locked.dev 5 = true) ∧
    (fget w1_Mailboxes_locked.dev RF.SEC_STATUS_BOOT_LOCK = 0) ∧
    (Instr.getCertificate 5 0 0 64 ∈ [Instr.getCertificate 5 0 0 64, Instr.spdmChallenge 5 0 [9], Instr.getMeasurements 5 0 true [9],
      Instr.keyExchange 5 [9], Instr.spdmFinish 5 true, Instr.pqCosign 5]) :=
  ⟨by decide +kernel, by decide +kernel, by decide +kernel, by simp⟩

def w1_Mailboxes_certificate : State := at0 (mailDev 1 plainConn)

theorem wit_Mailboxes_certificate :
    (plainConn = connAt w1_Mailboxes_certificate.dev 5) ∧
    (connOpen w1_Mailboxes_certificate.dev 5 = true) ∧
    (fget w1_Mailboxes_certificate.dev RF.SEC_STATUS_BOOT_LOCK = 1) :=
  ⟨by decide +kernel, by decide +kernel, by decide +kernel⟩

def w1_Mailboxes_challenge : List Byte := [7] ++ sha512 (Config.chain 0)

theorem wit_Mailboxes_challenge :
    (plainConn = connAt w1_Mailboxes_certificate.dev 5) ∧
    (connOpen w1_Mailboxes_certificate.dev 5 = true) ∧
    (fget w1_Mailboxes_certificate.dev RF.SEC_STATUS_BOOT_LOCK = 1) ∧
    (w1_Mailboxes_challenge = w1_Mailboxes_challenge) :=
  ⟨by decide +kernel, by decide +kernel, by decide +kernel, rfl⟩

def w1_Mailboxes_measurements : List (BitVec 8) := [7] ++ contentOf (mailDev 1 plainConn) [2]

def w2_Mailboxes_measurements : List (BitVec 8) := contentOf (mailDev 1 plainConn) [2]

theorem wit_Mailboxes_measurements :
    (plainConn = connAt w1_Mailboxes_certificate.dev 5) ∧
    (connOpen w1_Mailboxes_certificate.dev 5 = true) ∧
    (fget w1_Mailboxes_certificate.dev RF.SEC_STATUS_BOOT_LOCK = 1) ∧
    (2 = 0 ∨ 2 = 255 ∨ 2 ∈ blockIndices 5) ∧
    (w2_Mailboxes_measurements = BitVec.ofNat 8 (blockIndices 5).length :: (List.map (fun k => BitVec.ofNat 8 k :: blockOf
      w1_Mailboxes_certificate.dev 5 k) (if 2 = 0 then [] else if 2 = 255 then blockIndices 5 else [2])).flatten) ∧
    (w1_Mailboxes_measurements = w1_Mailboxes_measurements) :=
  ⟨by decide +kernel, by decide +kernel, by decide +kernel, by decide +kernel, rfl, rfl⟩

theorem wit_Mailboxes_exchange :
    (plainConn = connAt w1_Mailboxes_certificate.dev 5) ∧
    (connOpen w1_Mailboxes_certificate.dev 5 = true) ∧
    (fget w1_Mailboxes_certificate.dev RF.SEC_STATUS_BOOT_LOCK = 1) ∧
    (fget w1_Mailboxes_certificate.dev RF.SEC_STATUS_DRBG_OK = 1) :=
  ⟨by decide +kernel, by decide +kernel, by decide +kernel, by decide +kernel⟩

theorem wit_Mailboxes_finish :
    (halfConn = connAt (at0 (mailDev 1 halfConn)).dev 5) ∧
    (connOpen (at0 (mailDev 1 halfConn)).dev 5 = true) ∧
    (fget (at0 (mailDev 1 halfConn)).dev RF.SEC_STATUS_BOOT_LOCK = 1) ∧
    (halfConn.exchanged = true) :=
  ⟨by decide +kernel, by decide +kernel, by decide +kernel, by decide +kernel⟩

theorem wit_Mailboxes_finish_fails :
    (halfConn = connAt (at0 (mailDev 1 halfConn)).dev 5) ∧
    (connOpen (at0 (mailDev 1 halfConn)).dev 5 = true) ∧
    (fget (at0 (mailDev 1 halfConn)).dev RF.SEC_STATUS_BOOT_LOCK = 1) ∧
    (halfConn.exchanged = true) :=
  ⟨by decide +kernel, by decide +kernel, by decide +kernel, by decide +kernel⟩

theorem wit_Mailboxes_cosign :
    (plainConn = connAt w1_Mailboxes_certificate.dev 5) ∧
    (connOpen w1_Mailboxes_certificate.dev 5 = true) ∧
    (fget w1_Mailboxes_certificate.dev RF.SEC_STATUS_BOOT_LOCK = 1) :=
  ⟨by decide +kernel, by decide +kernel, by decide +kernel⟩

theorem wit_Mailboxes_no_session :
    (plainConn = connAt w1_Mailboxes_certificate.dev 5) ∧
    (connOpen w1_Mailboxes_certificate.dev 5 = true) ∧
    (1 ≤ 5) ∧
    (5 ≤ 32) ∧
    (plainConn.session = false) ∧
    (Instr.startInterfaceRequest 5 ∈ [Instr.lockInterfaceRequest 5 3, Instr.startInterfaceRequest 5, Instr.stopInterfaceRequest 5,
      Instr.getDeviceInterfaceReport 5, Instr.getDeviceInterfaceState 5, Instr.getTdispVersion 5, Instr.getTdispCapabilities 5]) ∧
    (w1_Mailboxes_certificate.dev.blocked = []) :=
  ⟨by decide +kernel, by decide +kernel, by decide +kernel, by decide +kernel, by decide +kernel, by simp, by decide +kernel⟩

theorem wit_Mailboxes_lock :
    (openConn = connAt (at0 (mailDev 1 openConn)).dev 5) ∧
    (connOpen (at0 (mailDev 1 openConn)).dev 5 = true) ∧
    (1 ≤ 5) ∧
    (5 ≤ 32) ∧
    (openConn.session = true) ∧
    (fget (at0 (mailDev 1 openConn)).dev (RF.HST_BIND_STATUS_TDISP 5) = 0) ∧
    (fget (at0 (mailDev 1 openConn)).dev RF.HST_STATUS_FLIT256 = 1) ∧
    (3 ∈ (at0 (mailDev 1 openConn)).dev.host.streams) :=
  ⟨by decide +kernel, by decide +kernel, by decide +kernel, by decide +kernel, by decide +kernel, by decide +kernel, by decide +kernel,
    by decide +kernel⟩

theorem wit_Mailboxes_start :
    (openConn = connAt (at0 lockedDev).dev 5) ∧
    (connOpen (at0 lockedDev).dev 5 = true) ∧
    (1 ≤ 5) ∧
    (5 ≤ 32) ∧
    (openConn.session = true) ∧
    (fget (at0 lockedDev).dev (RF.HST_BIND_STATUS_TDISP 5) = 1) :=
  ⟨by decide +kernel, by decide +kernel, by decide +kernel, by decide +kernel, by decide +kernel, by decide +kernel⟩

theorem wit_Mailboxes_no_start :
    (openConn = connAt (at0 (mailDev 1 openConn)).dev 5) ∧
    (connOpen (at0 (mailDev 1 openConn)).dev 5 = true) ∧
    (1 ≤ 5) ∧
    (5 ≤ 32) ∧
    (openConn.session = true) ∧
    (fget (at0 (mailDev 1 openConn)).dev (RF.HST_BIND_STATUS_TDISP 5) ≠ 1) :=
  ⟨by decide +kernel, by decide +kernel, by decide +kernel, by decide +kernel, by decide +kernel, by decide +kernel⟩

theorem wit_Mailboxes_stop :
    (openConn = connAt (at0 lockedDev).dev 5) ∧
    (connOpen (at0 lockedDev).dev 5 = true) ∧
    (1 ≤ 5) ∧
    (5 ≤ 32) ∧
    (openConn.session = true) ∧
    ((at0 lockedDev).dev.blocked = []) ∧
    (insState (at0 lockedDev).dev 5 = 0) :=
  ⟨by decide +kernel, by decide +kernel, by decide +kernel, by decide +kernel, by decide +kernel, by decide +kernel, by decide +kernel⟩

theorem wit_Mailboxes_stop_reset :
    (openConn = connAt (at0 lockedRuns).dev 5) ∧
    (connOpen (at0 lockedRuns).dev 5 = true) ∧
    (1 ≤ 5) ∧
    (5 ≤ 32) ∧
    (openConn.session = true) ∧
    ((at0 lockedRuns).dev.blocked = []) ∧
    (insState (at0 lockedRuns).dev 5 ≠ 0) ∧
    (insState (at0 lockedRuns).dev 5 ≠ 4) ∧
    (tget (at0 lockedRuns).dev.ins.after 5 = none) ∧
    ((at0 lockedRuns).dev.disp = []) ∧
    ((at0 lockedRuns).dev.mem.moves = []) ∧
    ((at0 lockedRuns).dev.xl.invals = []) ∧
    ((at0 lockedRuns).dev.fab.comms = []) ∧
    ((at0 lockedRuns).dev.traces = []) ∧
    ((at0 lockedRuns).dev.shore.dir = []) ∧
    ((at0 lockedRuns).dev.shore.txn = []) ∧
    (∀ (e : StoreEntry), e ∈ (at0 lockedRuns).dev.fe.store → e.phase ≠ 1) :=
  ⟨by decide +kernel, by decide +kernel, by decide +kernel, by decide +kernel, by decide +kernel, by decide +kernel, by decide +kernel,
    by decide +kernel, by decide +kernel, by decide +kernel, by decide +kernel, by decide +kernel, by decide +kernel, by decide +kernel,
    by decide +kernel, by decide +kernel, by decide +kernel⟩

def w1_Mailboxes_report : Reply := Reply.report (tgetD lockedDev.ins.bar0 5 0) (tgetD lockedDev.ins.bar2 5 0) 16384 (configDigest lockedDev 5)

theorem wit_Mailboxes_report :
    (openConn = connAt (at0 lockedDev).dev 5) ∧
    (connOpen (at0 lockedDev).dev 5 = true) ∧
    (1 ≤ 5) ∧
    (5 ≤ 32) ∧
    (openConn.session = true) ∧
    ((Instr.getDeviceInterfaceReport 5, w1_Mailboxes_report) ∈ [(Instr.getDeviceInterfaceReport 5, Reply.report (tgetD (at0
      lockedDev).dev.ins.bar0 5 0) (tgetD (at0 lockedDev).dev.ins.bar2 5 0) 16384 (configDigest (at0 lockedDev).dev 5)),
      (Instr.getDeviceInterfaceState 5, Reply.ifState (fget (at0 lockedDev).dev (RF.HST_BIND_STATUS_TDISP 5))), (Instr.getTdispVersion 5,
      Reply.tdispVersion), (Instr.getTdispCapabilities 5, Reply.tdispCapabilities)]) :=
  ⟨by decide +kernel, by decide +kernel, by decide +kernel, by decide +kernel, by decide +kernel, by decide +kernel⟩

theorem wit_Mailboxes_object_error :
    (plainConn = connAt w1_Mailboxes_certificate.dev 5) ∧
    (connOpen w1_Mailboxes_certificate.dev 5 = true) ∧
    (5 ≤ 32) ∧
    (65536 < 64 ∨ DoeBody.cdat = DoeBody.unsupported ∨ DoeBody.cdat = DoeBody.cdat ∧ 5 ≠ 0) :=
  ⟨by decide +kernel, by decide +kernel, by decide +kernel, by decide +kernel⟩

theorem wit_Mailboxes_discovery :
    (plainConn = connAt w1_Mailboxes_certificate.dev 5) ∧
    (connOpen w1_Mailboxes_certificate.dev 5 = true) ∧
    (5 ≤ 32) ∧
    (64 ≤ 65536) :=
  ⟨by decide +kernel, by decide +kernel, by decide +kernel, by decide +kernel⟩

theorem wit_Mailboxes_cdat :
    (plainConn = connAt w1_Mailboxes_certificate.dev 0) ∧
    (connOpen w1_Mailboxes_certificate.dev 0 = true) ∧
    (0 ≤ 32) ∧
    (64 ≤ 65536) ∧
    (0 = 0) :=
  ⟨by decide +kernel, by decide +kernel, by decide +kernel, by decide +kernel, by decide +kernel⟩

theorem wit_Mailboxes_ide_link :
    (openConn = connAt (at0 (mailDev 1 openConn)).dev 5) ∧
    (connOpen (at0 (mailDev 1 openConn)).dev 5 = true) ∧
    (5 ≤ 32) ∧
    (64 ≤ 65536) ∧
    (openConn.session = true) ∧
    (fget (at0 (mailDev 1 openConn)).dev RF.HST_STATUS_FLIT256 = 1) :=
  ⟨by decide +kernel, by decide +kernel, by decide +kernel, by decide +kernel, by decide +kernel, by decide +kernel⟩

theorem wit_Mailboxes_ide :
    (openConn = connAt (at0 (mailDev 1 openConn)).dev 5) ∧
    (connOpen (at0 (mailDev 1 openConn)).dev 5 = true) ∧
    (5 ≤ 32) ∧
    (64 ≤ 65536) ∧
    (openConn.session = true) ∧
    (fget (at0 (mailDev 1 openConn)).dev RF.HST_STATUS_FLIT256 = 1) ∧
    ([3, 4, 7] = if true = true then insertNat 7 (at0 (mailDev 1 openConn)).dev.host.streams else List.filter (fun x => x != 7) (at0 (mailDev 1
      openConn)).dev.host.streams) ∧
    ([3, 4, 7].length ≤ 8) :=
  ⟨by decide +kernel, by decide +kernel, by decide +kernel, by decide +kernel, by decide +kernel, by decide +kernel, by decide +kernel,
    by decide +kernel⟩

theorem wit_Mailboxes_integrity :
    (openConn = connAt (at0 (mailDev 1 openConn)).dev 5) ∧
    (connOpen (at0 (mailDev 1 openConn)).dev 5 = true) ∧
    (if false = true then fget (at0 (mailDev 1 openConn)).dev RF.HST_STATUS_IDE_LINK = 1 else 3 ∈ (at0 (mailDev 1 openConn)).dev.host.streams ∧
      (at0 (mailDev 1 openConn)).dev.host.streams.length ≤ 255) :=
  ⟨by decide +kernel, by decide +kernel, by decide +kernel⟩

end Sys2Proof.Tests
end

