-- ==== Sys2Proof/Tests/WitMesh.lean ====
section
/-!
SUPPORT. Premises of the statement about the mesh, met together by concrete states: one theorem for each clause.
-/
namespace Sys2Proof.Tests
open Sys2Proof Sys2Proof.Machine
set_option Elab.async false

/-- The module with every strait in service, and every bundle-direction of strait 5 at full width. -/
def meshDev : Dev :=
  (List.range 16).foldl (fun d j => fset d (RF.STR_BD_STATUS_MODE 5 (j / 2) (j % 2)) 0)
    ((List.range 110).foldl (fun d k => fset d (RF.STR_STRAIT_STATUS_STATE k) 0) idle0)

/-- Bundle 2 of strait 5, from its lower to its higher end, with the state `x`. -/
def bdDev (x : Bd) : Dev := { meshDev with mesh := { meshDev.mesh with bds := [(bdKey 5 2 0, x)] } }

/-- The same in a MODE. -/
def bdIn (m : Nat) (x : Bd) : Dev := fset (bdDev x) (RF.STR_BD_STATUS_MODE 5 2 0) m

/-- A data flit to a node, numbered, with its CRC. -/
def dataFlit (dest seq : Nat) : BitVec 2048 :=
  let x := setBits (4 + 64 * dest) 1984 32 seq
  BitVec.ofNat 2048 (setBits x 2016 32 (flitCrc (BitVec.ofNat 2048 x)))

/-- Flits not acknowledged. -/
def unacked : List (Nat × BitVec 2048) := [(3, 12), (4, 13)]

/-- A bundle-direction that expects flit 7 and has flits in its replay buffer. -/
def bd0 : Bd := { Bd.reset with rx := 7, tx := 5, replay := unacked }

/-- One that repairs lane 9, in a phase. -/
def repair (ph : BdPhase) (narrow : Bool) : Bd := { Bd.reset with rx := 7, lanes := [9], phase := ph, narrow := narrow }

/-- One that has lost its lock; one that is parked; and one that has sent all. -/
def relock : Bd := { bd0 with phase := .retraining, fails := 8, wasNarrow := true }
def parkedBd : Bd := { bd0 with parked := true }
def quietBd : Bd := { bd0 with replay := [] }

/-- The mesh after straits have been lost: what is left joins the edge dies by the first row and the first column, with an island at site 3. -/
def lostStrait : Dev :=
  let d := fset (fset idle0 (RF.BRG_SITE_STATUS_LOGICAL 3) 0) (RF.BRG_SITE_STATUS_STATE 3) 0
  let d := [98, 82, 0, 1, 2, 3, 4, 5, 6, 104, 42, 50, 58, 66, 74, 90].foldl (fun d k => fset d (RF.STR_STRAIT_STATUS_STATE k) 0) d
  { d with mesh := { d.mesh with switching := true, bds := [(bdKey 5 2 0, bd0)] } }

/-- With its standby tables ready. -/
def readyTables : Dev := fset lostStrait RF.STR_MESH_STATUS_STANDBY_VALID 1
/-- Without them. -/
def noTables : Dev := fset lostStrait RF.STR_MESH_STATUS_STANDBY_VALID 0

/-- Every island in service lies at a node that is reached. -/
theorem sites_of {s : Dev} {r : List Nat} (h0 : reached s = r)
    (h : (List.range 44).all (fun i => match siteOf s i with
      | some n => r.contains n
      | none => true) = true) : ∀ i n, i < 44 → siteOf s i = some n → n ∈ reached s := by
  intro i n hi hn
  have := List.all_eq_true.mp h i (List.mem_range.mpr hi)
  rw [hn] at this
  rw [h0]
  simpa using this

def w1_MeshBundles_flit : BitVec 2048 := dataFlit (receiver 5 0) 7

theorem wit_MeshBundles_flit :
    (meshOn (at0 (bdDev bd0)).dev = true) ∧
    (5 < 110) ∧
    (2 < 8) ∧
    (0 < 2) ∧
    (bd0 = bdAt (at0 (bdDev bd0)).dev 5 2 0) ∧
    (bdMode (at0 (bdDev bd0)).dev 5 2 0 ≠ 3) ∧
    (bd0.phase ≠ BdPhase.retraining) ∧
    ((crcGood w1_MeshBundles_flit && headerGood w1_MeshBundles_flit) = true) ∧
    (bitOf w1_MeshBundles_flit.toNat 21 = false) ∧
    (flitKind w1_MeshBundles_flit = 1) ∧
    (flitSeq w1_MeshBundles_flit = bd0.rx) ∧
    (bd0.copy = none) ∧
    (flitDest w1_MeshBundles_flit = receiver 5 0) ∧
    ((at0 (bdDev bd0)).dev.mesh.waiting = []) :=
  ⟨by decide +kernel, by decide +kernel, by decide +kernel, by decide +kernel, by decide +kernel, by decide +kernel, by decide +kernel,
    by decide +kernel, by decide +kernel, by decide +kernel, by decide +kernel, by decide +kernel, by decide +kernel, by decide +kernel⟩

def w1_MeshBundles_bad : BitVec 2048 := dataFlit (receiver 5 0) 7 ^^^ 1048576

theorem wit_MeshBundles_bad :
    (meshOn (at0 (bdDev bd0)).dev = true) ∧
    (5 < 110) ∧
    (2 < 8) ∧
    (0 < 2) ∧
    (bd0 = bdAt (at0 (bdDev bd0)).dev 5 2 0) ∧
    (bdMode (at0 (bdDev bd0)).dev 5 2 0 ≠ 3) ∧
    (bd0.phase ≠ BdPhase.retraining) ∧
    ((crcGood w1_MeshBundles_bad && headerGood w1_MeshBundles_bad) = false) ∧
    (bd0.fails < 7) :=
  ⟨by decide +kernel, by decide +kernel, by decide +kernel, by decide +kernel, by decide +kernel, by decide +kernel, by decide +kernel,
    by decide +kernel, by decide +kernel⟩

theorem wit_MeshBundles_nak :
    (meshOn (at0 (bdDev bd0)).dev = true) ∧
    (5 < 110) ∧
    (2 < 8) ∧
    (0 < 2) ∧
    (bd0 = bdAt (at0 (bdDev bd0)).dev 5 2 0) ∧
    (bdMode (at0 (bdDev bd0)).dev 5 2 0 ≠ 3) :=
  ⟨by decide +kernel, by decide +kernel, by decide +kernel, by decide +kernel, by decide +kernel, by decide +kernel⟩

theorem wit_MeshBundles_rotate :
    (meshOn (at0 (bdDev bd0)).dev = true) ∧
    (5 < 110) ∧
    (2 < 8) ∧
    (0 < 2) ∧
    (bd0 = bdAt (at0 (bdDev bd0)).dev 5 2 0) ∧
    (Instr.rotateReq 5 2 0 9 = Instr.rotateReq 5 2 0 9 ∧ false = false ∨ Instr.rotateReq 5 2 0 9 = Instr.narrowReq 5 2 0 9 ∧ false = true) ∧
    (fget (at0 (bdDev bd0)).dev RF.STR_LANE_POLICY_ROTATE_EN = 1) ∧
    (bdMode (at0 (bdDev bd0)).dev 5 2 0 ≠ 3) ∧
    (9 ≤ 67) ∧
    (bitOf (failMask (at0 (bdDev bd0)).dev 5 2 0) 9 = false) ∧
    (bd0.phase = BdPhase.running) ∧
    (pausedCount (at0 (bdDev bd0)).dev 5 0 < 2) :=
  ⟨by decide +kernel, by decide +kernel, by decide +kernel, by decide +kernel, by decide +kernel, Or.inl ⟨rfl, rfl⟩, by decide +kernel,
    by decide +kernel, by decide +kernel, by decide +kernel, by decide +kernel, by decide +kernel⟩

theorem wit_MeshBundles_narrow :
    (meshOn (at0 (bdDev bd0)).dev = true) ∧
    (5 < 110) ∧
    (2 < 8) ∧
    (0 < 2) ∧
    (bd0 = bdAt (at0 (bdDev bd0)).dev 5 2 0) ∧
    (Instr.narrowReq 5 2 0 67 = Instr.rotateReq 5 2 0 67 ∧ true = false ∨ Instr.narrowReq 5 2 0 67 = Instr.narrowReq 5 2 0 67 ∧ true = true) ∧
    (fget (at0 (bdDev bd0)).dev RF.STR_LANE_POLICY_ROTATE_EN = 1) ∧
    (bdMode (at0 (bdDev bd0)).dev 5 2 0 ≠ 3) ∧
    (67 ≤ 67) ∧
    (bitOf (failMask (at0 (bdDev bd0)).dev 5 2 0) 67 = false) ∧
    (bd0.phase = BdPhase.running) ∧
    (pausedCount (at0 (bdDev bd0)).dev 5 0 < 2) :=
  ⟨by decide +kernel, by decide +kernel, by decide +kernel, by decide +kernel, by decide +kernel, Or.inr ⟨rfl, rfl⟩, by decide +kernel,
    by decide +kernel, by decide +kernel, by decide +kernel, by decide +kernel, by decide +kernel⟩

def w1_MeshBundles_drained : State := at0 (bdIn 2 (repair BdPhase.draining false))

def w2_MeshBundles_drained : Bd := repair BdPhase.draining false

theorem wit_MeshBundles_drained :
    (meshOn w1_MeshBundles_drained.dev = true) ∧
    (5 < 110) ∧
    (2 < 8) ∧
    (0 < 2) ∧
    (w2_MeshBundles_drained = bdAt w1_MeshBundles_drained.dev 5 2 0) ∧
    (w2_MeshBundles_drained.phase = BdPhase.draining) ∧
    (w2_MeshBundles_drained.replay = []) ∧
    (bdMode w1_MeshBundles_drained.dev 5 2 0 = 2) ∧
    (w2_MeshBundles_drained.narrow = false) ∧
    ((freeSpare w1_MeshBundles_drained.dev 5 2 0).isSome = true) :=
  ⟨by decide +kernel, by decide +kernel, by decide +kernel, by decide +kernel, by decide +kernel, by decide +kernel, by decide +kernel,
    by decide +kernel, by decide +kernel, by decide +kernel⟩

def w1_MeshBundles_trained : State := at0 (bdIn 2 (repair BdPhase.training false))

def w2_MeshBundles_trained : Bd := repair BdPhase.training false

theorem wit_MeshBundles_trained :
    (meshOn w1_MeshBundles_trained.dev = true) ∧
    (5 < 110) ∧
    (2 < 8) ∧
    (0 < 2) ∧
    (w2_MeshBundles_trained = bdAt w1_MeshBundles_trained.dev 5 2 0) ∧
    (w2_MeshBundles_trained.phase = BdPhase.training) ∧
    (w2_MeshBundles_trained.narrow = false) :=
  ⟨by decide +kernel, by decide +kernel, by decide +kernel, by decide +kernel, by decide +kernel, by decide +kernel, by decide +kernel⟩

def w1_MeshBundles_narrowed : State := at0 (bdIn 2 (repair BdPhase.training true))

def w2_MeshBundles_narrowed : Bd := repair BdPhase.training true

theorem wit_MeshBundles_narrowed :
    (meshOn w1_MeshBundles_narrowed.dev = true) ∧
    (5 < 110) ∧
    (2 < 8) ∧
    (0 < 2) ∧
    (w2_MeshBundles_narrowed = bdAt w1_MeshBundles_narrowed.dev 5 2 0) ∧
    (w2_MeshBundles_narrowed.phase = BdPhase.training) ∧
    (w2_MeshBundles_narrowed.narrow = true) ∧
    (w1_MeshBundles_narrowed.dev.mesh.waiting = []) ∧
    (∀ (p : Nat), p ∈ w2_MeshBundles_narrowed.lanes → p < 68) :=
  ⟨by decide +kernel, by decide +kernel, by decide +kernel, by decide +kernel, by decide +kernel, by decide +kernel, by decide +kernel,
    by decide +kernel, by decide +kernel⟩

def w1_MeshBundles_rotated : State := at0 (bdIn 2 (repair BdPhase.switching false))

def w2_MeshBundles_rotated : Bd := repair BdPhase.switching false

theorem wit_MeshBundles_rotated :
    (meshOn w1_MeshBundles_rotated.dev = true) ∧
    (5 < 110) ∧
    (2 < 8) ∧
    (0 < 2) ∧
    (w2_MeshBundles_rotated = bdAt w1_MeshBundles_rotated.dev 5 2 0) ∧
    (w2_MeshBundles_rotated.phase = BdPhase.switching) ∧
    (w2_MeshBundles_rotated.lanes = [9]) ∧
    (freeSpare w1_MeshBundles_rotated.dev 5 2 0 = some 0) ∧
    (9 < 64) ∧
    (∀ (j : Nat), j < 4 → spareOf w1_MeshBundles_rotated.dev 5 2 0 j ≠ 9) ∧
    (w1_MeshBundles_rotated.dev.mesh.waiting = []) :=
  ⟨by decide +kernel, by decide +kernel, by decide +kernel, by decide +kernel, by decide +kernel, by decide +kernel, by decide +kernel,
    by decide +kernel, by decide +kernel, by decide +kernel, by decide +kernel⟩

theorem wit_MeshBundles_loss :
    (meshOn (at0 (bdDev bd0)).dev = true) ∧
    (5 < 110) ∧
    (2 < 8) ∧
    (0 < 2) ∧
    (bd0 = bdAt (at0 (bdDev bd0)).dev 5 2 0) ∧
    (bdMode (at0 (bdDev bd0)).dev 5 2 0 ≠ 3) ∧
    (∃ j, j < 8 ∧ j ≠ 2 ∧ bdMode (at0 (bdDev bd0)).dev 5 j 0 ≠ 3) :=
  ⟨by decide +kernel, by decide +kernel, by decide +kernel, by decide +kernel, by decide +kernel, by decide +kernel, by decide +kernel⟩

theorem wit_MeshBundles_retrained :
    (meshOn (at0 (bdIn 2 relock)).dev = true) ∧
    (5 < 110) ∧
    (2 < 8) ∧
    (0 < 2) ∧
    (relock = bdAt (at0 (bdIn 2 relock)).dev 5 2 0) ∧
    (relock.phase = BdPhase.retraining) ∧
    ((at0 (bdIn 2 relock)).dev.mesh.waiting = []) :=
  ⟨by decide +kernel, by decide +kernel, by decide +kernel, by decide +kernel, by decide +kernel, by decide +kernel, by decide +kernel⟩

theorem wit_MeshBundles_query :
    (meshOn (at0 (bdDev bd0)).dev = true) ∧
    (5 < 110) ∧
    (2 < 8) ∧
    (0 < 2) ∧
    (bd0 = bdAt (at0 (bdDev bd0)).dev 5 2 0) :=
  ⟨by decide +kernel, by decide +kernel, by decide +kernel, by decide +kernel, by decide +kernel⟩

theorem wit_MeshBundles_reply :
    (meshOn (at0 (bdIn 3 bd0)).dev = true) ∧
    (5 < 110) ∧
    (2 < 8) ∧
    (0 < 2) ∧
    (bd0 = bdAt (at0 (bdIn 3 bd0)).dev 5 2 0) ∧
    (bdMode (at0 (bdIn 3 bd0)).dev 5 2 0 = 3) :=
  ⟨by decide +kernel, by decide +kernel, by decide +kernel, by decide +kernel, by decide +kernel, by decide +kernel⟩

theorem wit_MeshBundles_park :
    (meshOn (at0 (bdDev quietBd)).dev = true) ∧
    (5 < 110) ∧
    (2 < 8) ∧
    (0 < 2) ∧
    (quietBd = bdAt (at0 (bdDev quietBd)).dev 5 2 0) ∧
    (fget (at0 (bdDev quietBd)).dev RF.PWR_IDLE_POLICY_STRAIT_PARK_US ≠ 0) ∧
    (2 ≠ neverParks (at0 (bdDev quietBd)).dev 5 0) ∧
    (bdMode (at0 (bdDev quietBd)).dev 5 2 0 ≤ 1) ∧
    (quietBd.replay = []) :=
  ⟨by decide +kernel, by decide +kernel, by decide +kernel, by decide +kernel, by decide +kernel, by decide +kernel, by decide +kernel,
    by decide +kernel, by decide +kernel⟩

theorem wit_MeshBundles_unpark :
    (meshOn (at0 (bdDev parkedBd)).dev = true) ∧
    (5 < 110) ∧
    (2 < 8) ∧
    (0 < 2) ∧
    (parkedBd = bdAt (at0 (bdDev parkedBd)).dev 5 2 0) ∧
    (parkedBd.parked = true) ∧
    ((at0 (bdDev parkedBd)).dev.mesh.waiting = []) :=
  ⟨by decide +kernel, by decide +kernel, by decide +kernel, by decide +kernel, by decide +kernel, by decide +kernel, by decide +kernel⟩

theorem wit_MeshBundles_router :
    (meshOn (at0 meshDev).dev = true) ∧
    (19 ≤ 47) ∧
    (∀ (i : Nat), i < 44 → siteOf (at0 meshDev).dev i ≠ some 19) :=
  ⟨by decide +kernel, by decide +kernel, by decide +kernel⟩

theorem wit_MeshBundles_switch :
    (meshOn (at0 readyTables).dev = true) ∧
    (Instr.routeSwitch = Instr.routeSwitch ∧ 1 = 1 ∨ Instr.routeSwitch = Instr.slowRerouteComplete ∧ 1 = 0) ∧
    ((at0 readyTables).dev.mesh.switching = true) ∧
    (fget (at0 readyTables).dev RF.STR_MESH_STATUS_STANDBY_VALID = 1) ∧
    ((at0 readyTables).dev.mesh.waiting = []) ∧
    (∀ (e : Nat), e ∈ [48, 49, 50, 51] → ∃ k, k ∈ straitsOf e ∧ straitUp (at0 readyTables).dev k = true) ∧
    (∀ (i n : Nat), i < 44 → siteOf (at0 readyTables).dev i = some n → n ∈ reached (at0 readyTables).dev) :=
  ⟨by decide +kernel, Or.inl ⟨rfl, rfl⟩, by decide +kernel, by decide +kernel, by decide +kernel, by decide +kernel, sites_of (r := [0, 1, 2, 3, 4,
    5, 6, 7, 8, 16, 24, 32, 40, 48, 49, 50, 51]) (by decide +kernel) (by decide +kernel)⟩

theorem wit_MeshBundles_slow :
    (meshOn (at0 noTables).dev = true) ∧
    (Instr.slowRerouteComplete = Instr.routeSwitch ∧ 0 = 1 ∨ Instr.slowRerouteComplete = Instr.slowRerouteComplete ∧ 0 = 0) ∧
    ((at0 noTables).dev.mesh.switching = true) ∧
    (fget (at0 noTables).dev RF.STR_MESH_STATUS_STANDBY_VALID = 0) ∧
    ((at0 noTables).dev.mesh.waiting = []) ∧
    (∀ (e : Nat), e ∈ [48, 49, 50, 51] → ∃ k, k ∈ straitsOf e ∧ straitUp (at0 noTables).dev k = true) ∧
    (∀ (i n : Nat), i < 44 → siteOf (at0 noTables).dev i = some n → n ∈ reached (at0 noTables).dev) :=
  ⟨by decide +kernel, Or.inr ⟨rfl, rfl⟩, by decide +kernel, by decide +kernel, by decide +kernel, by decide +kernel, sites_of (r := [0, 1, 2, 3, 4,
    5, 6, 7, 8, 16, 24, 32, 40, 48, 49, 50, 51]) (by decide +kernel) (by decide +kernel)⟩

theorem wit_MeshBundles_standby :
    (meshOn (at0 meshDev).dev = true) ∧
    ((at0 meshDev).dev.mesh.switching = false) :=
  ⟨by decide +kernel, by decide +kernel⟩

end Sys2Proof.Tests
end

