-- ==== Sys2Proof/Tests/WitMoves.lean ====
section
/-!
SUPPORT. Premises of the statements about replica pairs and page moves, met together by concrete states: one theorem for each clause.
-/
namespace Sys2Proof.Tests
open Sys2Proof Sys2Proof.Machine
set_option Elab.async false

/-- REPLICA_SET of frame 2 with a copy in the first frame of tier B, on a module that holds some bytes and has no page tables in use. -/
def replDev : Dev := withCmd (fset mapped0 (RF.TRN_ROOT_VALID 0) 0) 0 1 (entryOf 0xC0 [(20, 2), (24, 1), (30, 4)])

/-- Every line of frame 2 lies in a channel of tier A that works. -/
theorem replDev_chan (k : Nat) (hk : k / 2 ^ 15 = 2) : ∃ id, chanOf replDev (64 * k) = some id ∧ isHole replDev id = false := by
  have hA : capA replDev = 2 ^ 30 := by decide +kernel
  have hl : replDev.mem.listA = [0, 1] := by decide +kernel
  have h1 : 64 * k < 2 ^ 30 := by omega
  unfold chanOf inA
  rw [hA, hl]
  simp only [h1, decide_true, if_true]
  rcases Nat.mod_two_eq_zero_or_one (64 * k / 256) with h | h
  · exact ⟨0, by simp [h], by decide +kernel⟩
  · exact ⟨1, by simp [h], by decide +kernel⟩

/-- Every line of the first frame of tier B lies in a channel that works. -/
theorem replDev_chanB (k : Nat) (hk : k / 2 ^ 15 = 2 ^ 18) : ∃ id, chanOf replDev (64 * k) = some id ∧ isHole replDev id = false := by
  have hA : capA replDev = 2 ^ 30 := by decide +kernel
  have hB : capB replDev = 2 ^ 34 := by decide +kernel
  have hl : replDev.mem.listB = [1024] := by decide +kernel
  have h1 : ¬ 64 * k < 2 ^ 30 := by omega
  have h2 : 2 ^ 39 ≤ 64 * k := by omega
  have h3 : 64 * k < 2 ^ 39 + 2 ^ 34 := by omega
  unfold chanOf inA inB tierB
  rw [hA, hB, hl]
  simp only [h1, h2, h3, decide_true, decide_false, Bool.and_self, if_true]
  exact ⟨1024, by simp [Nat.mod_one], by decide +kernel⟩

/-- What the frames of the pair must be. -/
theorem replDev_frames : ∀ fr ∈ runOf 2 1 ++ runOf 262144 1,
    ownerOf (at0 replDev).dev fr = 0 ∧ inPair (at0 replDev).dev fr = false ∧ inPool (at0 replDev).dev fr = false ∧ holdsRing (at0 replDev).dev fr = false
      ∧ inExport (at0 replDev).dev fr = false
      ∧ (∀ k ∈ tkeys (at0 replDev).dev.shore.dir ++ tkeys (at0 replDev).dev.shore.lines, k / 2 ^ 15 ≠ fr)
      ∧ ∀ k, k / 2 ^ 15 = fr → ∃ id, chanOf (at0 replDev).dev (64 * k) = some id ∧ isHole (at0 replDev).dev id = false := by
  intro fr h
  have : fr = 2 ∨ fr = 2 ^ 18 := by simpa [runOf] using h
  rcases this with rfl | rfl
  · exact ⟨by decide +kernel, by decide +kernel, by decide +kernel, by decide +kernel, by decide +kernel, by decide +kernel, replDev_chan⟩
  · exact ⟨by decide +kernel, by decide +kernel, by decide +kernel, by decide +kernel, by decide +kernel, by decide +kernel, replDev_chanB⟩

/-- Migration is on, and no instance has a root. -/
def idleMig : Dev :=
  let d := fset own0 RF.MEM_MIG_POLICY_MIG_EN 1
  { d with mem := { d.mem with counters := [(5, 9), (7, 1)] } }

/-- The lines of the five tables, in the slice. -/
def tableLine (j : Nat) : Line :=
  homeLine (if j = 0 then 0x401001 else if j = 64 then 0x402001 else if j = 128 then 0x403001 else if j = 192 then 0x20003B + 2 ^ 64 * 0x404005
    else if j = 256 then 0x800005013B else 0)

/-- The module with the tables in its slice. -/
def heldDev : Dev :=
  { mapped0 with shore := { mapped0.shore with lines := (List.range 320).map (fun j => (0x10000 + j, tableLine j)) } }

/-- The page of 64 KiB at 2 MiB of instance 0 is hot, and its pool holds frame 40 of tier A. -/
def hotDev : Dev :=
  let d := fset (fset heldDev RF.MEM_MIG_POLICY_MIG_EN 1) RF.MEM_MIG_POLICY_MAX_MOVES 4
  { fset d RF.MEM_MIG_POLICY_HOT_THRESH 5 with mem := { d.mem with counters := [(2 ^ 23 + 5, 9)], pools := [(0, [2 ^ 23 + 6, 40])] } }

/-- Entry `i` of table `p`. -/
def entryIn (p i : Nat) : Nat :=
  let loc := 0x400000 + 4096 * p + 8 * i
  ofLe (leBytes 8 ((halfOf (tableLine (64 * p + i / 8)).data (loc / 32 % 2)).toNat / 2 ^ (8 * (loc % 32))))

/-- Every line of the tables is held. -/
theorem hot_lines : ((List.range 5).all fun p => (List.range 64).all fun j =>
    decide (lineAt hotDev (0x10000 + 64 * p + j) = some (tableLine (64 * p + j)))) = true := by decide +kernel

/-- A read of a table's entry changes nothing. -/
theorem hot_read (p i : Nat) (hp : p < 5) (hi : i < 512) : ∃ b, devRead hotDev (0x400000 + 4096 * p + 8 * i) 8 = (hotDev, b, 0) ∧ ofLe b = entryIn p i := by
  have hk : (0x400000 + 4096 * p + 8 * i) / 64 = 0x10000 + 64 * p + i / 8 := by omega
  have hline : lineAt hotDev ((0x400000 + 4096 * p + 8 * i) / 64) = some (tableLine (64 * p + i / 8)) := by
    rw [hk]
    have := List.all_eq_true.mp (List.all_eq_true.mp hot_lines p (List.mem_range.mpr hp)) (i / 8) (List.mem_range.mpr (by omega))
    exact of_decide_eq_true this
  refine ⟨_, devRead_held ?_ hline rfl rfl ?_ (by omega), rfl⟩
  · rw [hk]
    unfold isLocal
    simp only [decide_eq_true_eq]
    omega
  · rfl

/-- A table of which one entry alone names a table. -/
theorem hot_table {p j n va : Nat} {t64 : Bool} {l r : List Nat} {lo : List (Nat × Nat × Nat)} (hp : p < 5) (hj : j < 512)
    (hr : List.range 512 = l ++ j :: r)
    (quiet : ∀ i ∈ l ++ r, i < 512 ∧ (eV (entryIn p i) && (eKind (entryIn p i) == 0 || eKind (entryIn p i) == 2)) = false)
    (loud : (eV (entryIn p j) && (eKind (entryIn p j) == 0 || eKind (entryIn p j) == 2)) = true)
    (sub : tableMig hotDev (va + j * 2 ^ (12 + 9 * (n + 1))) (eKind (entryIn p j) == 2) (eAddr (entryIn p j)) n = (hotDev, lo)) :
    tableMig hotDev va t64 (0x400000 + 4096 * p) (n + 1) = (hotDev, lo) := by
  unfold tableMig
  rw [hr]
  have still : ∀ (acc : List (Nat × Nat × Nat)) (i : Nat), i ∈ l ++ r → _ := fun acc i h => quiet i h
  refine foldl_one _ _ _ _ _ _ ?_ ?_ ?_
  · intro i h
    obtain ⟨h1, h2⟩ := quiet i (by simp [h])
    obtain ⟨b, hb, hb2⟩ := hot_read p i hp h1
    simp only [hb, hb2]
    rw [if_neg]
    rintro ⟨-, h3, h4⟩
    simp [h3] at h2
    rcases h4 with h4 | h4 <;> simp [h4] at h2
  · obtain ⟨b, hb, hb2⟩ := hot_read p j hp hj
    simp only [hb, hb2, sub]
    rw [if_pos]
    · simp
    · simp at loud
      exact ⟨trivial, loud⟩
  · intro i h
    obtain ⟨h1, h2⟩ := quiet i (by simp [h])
    obtain ⟨b, hb, hb2⟩ := hot_read p i hp h1
    simp only [hb, hb2]
    rw [if_neg]
    rintro ⟨-, h3, h4⟩
    simp [h3] at h2
    rcases h4 with h4 | h4 <;> simp [h4] at h2

/-- The last table, of 64 KiB pages. -/
theorem hot_last (va : Nat) : tableMig hotDev va true 0x404000 0 = (hotDev, [(va, 0x404000, 0x800005013B)]) := by
  unfold tableMig
  have hr : List.range (if true = true then 32 else 0) = [] ++ 0 :: (List.range 31).map (· + 1) := by decide
  rw [hr]
  refine foldl_one _ _ _ _ _ _ (by simp) ?_ ?_
  · obtain ⟨b, hb, hb2⟩ := hot_read 4 0 (by omega) (by omega)
    have he : entryIn 4 0 = 0x800005013B := by decide +kernel
    simp only [hb, hb2, he]
    rw [if_pos (by decide +kernel)]
    simp
  · intro i h
    have hi : 1 ≤ i ∧ i < 32 := by
      simp at h
      omega
    obtain ⟨b, hb, hb2⟩ := hot_read 4 i (by omega) (by omega)
    have he : eV (entryIn 4 i) = false := by
      have : ∀ i, i < 32 → 1 ≤ i → eV (entryIn 4 i) = false := by decide +kernel
      exact this i hi.2 hi.1
    simp only [hb, hb2, he]
    rw [if_neg (by simp)]

/-- The migratable leaves of instance 0. -/
theorem hot_all : allMig hotDev 0 = (hotDev, [(0x200000, 0x404000, 0x800005013B)]) := by
  have h1 : fget hotDev (RF.TRN_ROOT_VALID 0) = 1 := by decide +kernel
  have h2 : fget hotDev (RF.TRN_ROOT_ROOT 0) * 4096 = 0x400000 + 4096 * 0 := by decide +kernel
  unfold allMig
  rw [h1, h2]
  simp only [Nat.one_ne_zero, if_false]
  have r0 : List.range 512 = [] ++ 0 :: (List.range 511).map (· + 1) := by decide +kernel
  have r1 : List.range 512 = [0] ++ 1 :: (List.range 510).map (· + 2) := by decide +kernel
  refine hot_table (by omega) (by omega) r0 (by decide +kernel) (by decide +kernel) ?_
  have a1 : eAddr (entryIn 0 0) = 0x400000 + 4096 * 1 := by decide +kernel
  rw [a1]
  refine hot_table (by omega) (by omega) r0 (by decide +kernel) (by decide +kernel) ?_
  have a2 : eAddr (entryIn 1 0) = 0x400000 + 4096 * 2 := by decide +kernel
  rw [a2]
  refine hot_table (by omega) (by omega) r0 (by decide +kernel) (by decide +kernel) ?_
  have a3 : eAddr (entryIn 2 0) = 0x400000 + 4096 * 3 := by decide +kernel
  rw [a3]
  refine hot_table (by omega) (by omega) r1 (by decide +kernel) (by decide +kernel) ?_
  have a4 : eAddr (entryIn 3 1) = 0x404000 := by decide +kernel
  have k4 : (eKind (entryIn 3 1) == 2) = true := by decide +kernel
  rw [a4, k4]
  exact hot_last _

/-- Where instance 0 alone is Active, and a look at its tables changes nothing, its pages are the movable ones. -/
theorem movable_one {s : Dev} {l : List (Nat × Nat × Nat)} (h0 : insState s 0 = 1) (hi : ∀ i, i < 33 → 1 ≤ i → insState s i ≠ 1)
    (ha : allMig s 0 = (s, l)) (hm : s.mem.moves = []) (hv : s.xl.invals = []) : movable s = (s, l.map (fun x => (0, x.1, x.2.1, x.2.2))) := by
  unfold movable
  have hr : List.range 33 = [] ++ 0 :: (List.range 32).map (· + 1) := by decide
  rw [hr]
  refine foldl_one _ _ _ _ _ _ (by simp) ?_ ?_
  · simp [h0, ha, movingPage, hm, hv]
  · intro i h
    simp at h
    simp [hi i (by omega) (by omega)]

/-- What the end of the period finds. -/
theorem hot_movable : movable (at0 hotDev).dev = (hotDev, [(0, 0x200000, 0x404000, 0x800005013B)]) :=
  movable_one (by decide +kernel) (by decide +kernel) hot_all (by decide +kernel) (by decide +kernel)

/-- A move whose drain has ended, from a page whose addresses no channel holds. -/
def move0 : Move := ⟨0, 0x200000, 2 ^ 14, 40, 0x404000, true, false, none⟩

/-- Its module, which has counted such an access before. -/
def moveDev : Dev := regWrite { heldDev with mem := { heldDev.mem with moves := [move0], pools := [(0, [2 ^ 23 + 6])] } } Reg.MEM_CNT_UNMAPPED 1

/-- The module after `n` more. -/
def moveAt (n : Nat) : Dev := regWrite moveDev Reg.MEM_CNT_UNMAPPED (n + 1)

/-- A line of the page is copied. -/
theorem move_line (n : Nat) (hn : n < 1024) : copyLine (moveAt n) (2 ^ 14 * 1024 + n) (40 * 1024 + n) = moveAt (n + 1) := by
  have hA : fget (moveAt n) RF.MEM_TIER_A_CAP_VALUE = 2 ^ 30 := by
    have : fget moveDev RF.MEM_TIER_A_CAP_VALUE = 2 ^ 30 := by decide +kernel
    unfold fget moveAt at *
    rw [regRead_regWrite_other _ _ _ _ (by decide)]
    exact this
  have h : chanOf (moveAt n) (64 * (2 ^ 14 * 1024 + n)) = none := by
    have h1 : ¬ 64 * (2 ^ 14 * 1024 + n) < 2 ^ 30 := by omega
    have h2 : ¬ 2 ^ 39 ≤ 64 * (2 ^ 14 * 1024 + n) := by omega
    have e1 : inA (moveAt n) (64 * (2 ^ 14 * 1024 + n)) = false := by
      unfold inA capA
      rw [hA]
      exact decide_eq_false h1
    have e2 : inB (moveAt n) (64 * (2 ^ 14 * 1024 + n)) = false := by
      unfold inB tierB
      rw [decide_eq_false h2]
      rfl
    unfold chanOf
    rw [e1, e2]
    rfl
  have hl : lineAt (moveAt n) (2 ^ 14 * 1024 + n) = none := by
    have hkey : ∀ (l : List Nat) (k : Nat), (∀ j ∈ l, 0x10000 + j ≠ k) → tget (l.map (fun j => (0x10000 + j, tableLine j))) k = none := by
      intro l
      induction l with
      | nil => intro k _; rfl
      | cons a t ih =>
        intro k h
        simp only [List.map_cons, tget]
        rw [if_neg (h a (by simp))]
        exact ih k (fun j hj => h j (by simp [hj]))
    refine hkey _ _ (fun j hj => ?_)
    have := List.mem_range.mp hj
    omega
  have hr : regRead (moveAt n) Reg.MEM_CNT_UNMAPPED = n + 1 := by
    unfold moveAt
    rw [regRead_regWrite_same]
    omega
  rw [copyLine_unmapped hl h]
  unfold countUnmapped
  rw [hr, if_neg (by omega)]
  unfold bump bumpBy
  rw [hr]
  unfold moveAt regWrite
  simp only [tset_tset]

/-- The page is copied. -/
theorem move_page : moveAt 1024 = copyPage (at0 moveDev).dev move0.src move0.dst := by
  have gen : ∀ n, n ≤ 1024 → (List.range n).foldl (fun s i => copyLine s (2 ^ 14 * 1024 + i) (40 * 1024 + i)) (moveAt 0) = moveAt n := by
    intro n
    induction n with
    | zero => intro _; rfl
    | succ n ih =>
      intro h
      rw [List.range_succ, List.foldl_append, ih (by omega)]
      exact move_line n (by omega)
  have h0 : moveAt 0 = moveDev := by
    unfold moveAt moveDev regWrite
    simp only [tset_tset]
  have := gen 1024 (Nat.le_refl _)
  rw [h0] at this
  exact this.symm

theorem wit_CopiesAndMoves_pair :
    ((at0 replDev).dev.blocked = []) ∧
    (Admits (at0 replDev).dev 192 (cmdAt 0 1) (runsAs 192 replDev)) ∧
    (0 = eb (runsAs 192 replDev).e 16 1) ∧
    (2 = eb (runsAs 192 replDev).e 20 4) ∧
    (1 = eb (runsAs 192 replDev).e 24 4) ∧
    (262144 = eb (runsAs 192 replDev).e 28 4) ∧
    (Settled (at0 replDev).dev) ∧
    (channelsKnown (at0 replDev).dev) ∧
    (1 ≤ 1) ∧
    (2 + 1 ≤ 2 ^ 18) ∧
    (2 ^ 18 ≤ 262144) ∧
    (insState (at0 replDev).dev 0 ≠ 0) ∧
    (insState (at0 replDev).dev 0 ≠ 4) ∧
    (fget (at0 replDev).dev (RF.TRN_ROOT_VALID 0) = 0) ∧
    ((at0 replDev).dev.mem.writes = []) ∧
    (∀ d ∈ (at0 replDev).dev.mem.wcb, d.2 = []) ∧
    (∀ fr ∈ runOf 2 1 ++ runOf 262144 1, ownerOf (at0 replDev).dev fr = 0 ∧ inPair (at0 replDev).dev fr = false ∧ inPool (at0 replDev).dev fr =
      false ∧ holdsRing (at0 replDev).dev fr = false ∧ inExport (at0 replDev).dev fr = false ∧ (∀ k ∈ tkeys (at0 replDev).dev.shore.dir ++ tkeys
      (at0 replDev).dev.shore.lines, k / 2 ^ 15 ≠ fr) ∧ ∀ (k : ℕ), k / 2 ^ 15 = fr → ∃ id, chanOf (at0 replDev).dev (64 * k) = some id ∧ isHole
      (at0 replDev).dev id = false) ∧
    (0 < 64) ∧
    (∀ m ≤ 0, tget (at0 replDev).dev.ins.pairs m = none ↔ m = 0) :=
  ⟨by decide +kernel, admits_of (by decide +kernel), by decide +kernel, by decide +kernel, by decide +kernel, by decide +kernel,
    settled_of (by decide +kernel), known_of (by decide +kernel), by decide +kernel, by decide +kernel, by decide +kernel, by decide +kernel,
    by decide +kernel, by decide +kernel, by decide +kernel, by decide +kernel, replDev_frames, by decide +kernel, by decide +kernel⟩

theorem wit_CopiesAndMoves_cool :
    ((at0 idleMig).dev.blocked = []) ∧
    (fget (at0 idleMig).dev RF.MEM_MIG_POLICY_MIG_EN = 1) ∧
    (serving (at0 idleMig).dev = true) ∧
    (∀ i ≤ 32, fget (at0 idleMig).dev (RF.TRN_ROOT_VALID i) = 0) :=
  ⟨by decide +kernel, by decide +kernel, by decide +kernel, by decide +kernel⟩

theorem wit_CopiesAndMoves_hot :
    ((at0 hotDev).dev.blocked = []) ∧
    (fget (at0 hotDev).dev RF.MEM_MIG_POLICY_MIG_EN = 1) ∧
    (serving (at0 hotDev).dev = true) ∧
    (movable (at0 hotDev).dev = (hotDev, [(0, 2097152, 4210688, 549756141883)])) ∧
    (hotDev.blocked = []) ∧
    (pageInA (eAddr 549756141883 / 65536) = false) ∧
    (fget hotDev RF.MEM_MIG_POLICY_HOT_THRESH ≤ counterOf hotDev 549756141883) ∧
    (1 ≤ fget hotDev RF.MEM_MIG_POLICY_MAX_MOVES) ∧
    (poolFrame hotDev 0 (eAddr 549756141883 / 65536) true = some 40) ∧
    (4210688 % 8 = 0) ∧
    (HeldHome hotDev (4210688 / 64) (tableLine 256)) :=
  ⟨by decide +kernel, by decide +kernel, by decide +kernel, hot_movable, by decide +kernel, by decide +kernel, by decide +kernel, by decide +kernel,
    by decide +kernel, by decide +kernel, heldHome_of (by decide +kernel)⟩

theorem wit_CopiesAndMoves_done :
    ((at0 moveDev).dev.blocked = []) ∧
    (List.find? (fun m => m.inst == 0 && m.va == 2097152 / 65536 * 65536 && m.drained) (at0 moveDev).dev.mem.moves = some move0) ∧
    (move0.session = none) ∧
    (moveAt 1024 = copyPage (at0 moveDev).dev move0.src move0.dst) ∧
    ((moveAt 1024).blocked = []) ∧
    (move0.leaf % 8 = 0) ∧
    (HeldHome (moveAt 1024) (move0.leaf / 64) (tableLine 256)) ∧
    ((tableLine 256).poison = 0) ∧
    (pageHasHole (moveAt 1024) move0.dst = false) ∧
    (move0.dst < 2 ^ 26) :=
  ⟨by decide +kernel, by decide +kernel, by decide +kernel, move_page, by decide +kernel, by decide +kernel, heldHome_of (by decide +kernel),
    by decide +kernel, by decide +kernel, by decide +kernel⟩

end Sys2Proof.Tests
end

