-- ==== Sys2Proof/Tests/WitTraffic.lean ====
section
/-!
SUPPORT. Premises of the statement about requests and answers on the fabric, met together by concrete states: one theorem for each clause.
-/
namespace Sys2Proof.Tests
open Sys2Proof Sys2Proof.Machine
set_option Elab.async false

/-- A message of device 200 or 300 about the bytes at offset 20 of the line of frame 3. -/
def asks (src : Nat) (b : FabBody) : FabMsg := ⟨100, src, 1, false, 0, 8, 64 * peerOwn, false, b⟩
def asksAt (off : Nat) (b : FabBody) : FabMsg := { asks 200 b with offset := off }

/-- The home line, held with nothing under way. -/
def heldSegDev : Dev := homeDev false [] []
def heldLine : Line := ⟨0x1234, false, 0, 0, false, .home, 0⟩

/-- A request of core 0 that has been sent, and an answer for it. -/
def sentReq (k : ReqKind) : Req := ⟨0, 64, 0x999, k, true⟩
def sentDev (k : ReqKind) : Dev := { net0 with net := [(2, sentReq k)], cores := [(0, core0)] }

/-- A write of core 0 that waits for `n` acknowledgements, and a group that waits for its stores. -/
def sentW (n : Nat) : WbEntry := ⟨0x999, 7, 0xFF, false, none, 0, 0, some (9, n)⟩
def otherW : WbEntry := ⟨0x99A, 8, 0xFF, false, none, 0, 0, none⟩
def wroteDev (n : Nat) : Dev :=
  { net0 with cores := [(0, { core0 with groups := [(0, { group0 with stall := .release })], wb := [otherW, sentW n] })], disp := [(0, disp0)] }

/-- A multicast of 64 bytes to two targets. -/
def target (b : Nat) : McastTarget := ⟨b * 2 ^ 42 + 0x6000, [], [], 0, none, false⟩
def busy (b : Nat) : McastTarget := { target b with refused := [0], refusals := 2, firstBusy := some 100 }
def cast (g : McastTarget) : McastOp := ⟨cmdKey 0 1 0, 0, 0x100, List.replicate 64 9, false, [g, target 300]⟩
def castDev (g : McastTarget) : Dev := { cmdOn net0 0x76 [] with fab := { net0.fab with sends := [(3, cast g)], nextSend := 4 } }

/-- A collective at rank 0 of three. -/
def head0 (seq kind count : Nat) : CollHead := ⟨0x55, seq, kind, 0, 0, count⟩
def coll0 (kind count : Nat) : Coll := ⟨cmdKey 0 1 0, head0 5 kind count, 0x10000, 0x20000, [], false, 0, 0, false⟩
def commIn (kind count : Nat) : Comm := { comm0 0 with colls := [coll0 kind count] }
def commDev0 (kind count : Nat) : Dev :=
  let d := netMapped []
  { d with ins := { d.ins with exports := [(0, ⟨0, 1, 6, true, true, true, 1, 0, false⟩)] }, fab := { d.fab with comms := [(2, commIn kind count)] } }

def w1_FabricTraffic_progress : FabMsg := asksAt progressOffset (FabBody.readReq 8)

theorem wit_FabricTraffic_progress :
    ((at0 net0).dev.blocked = []) ∧
    (Arrives (at0 net0).dev w1_FabricTraffic_progress) ∧
    (progressOffset / 64 = w1_FabricTraffic_progress.offset / 64) ∧
    (0 = w1_FabricTraffic_progress.offset / 32 % 2) ∧
    (w1_FabricTraffic_progress.body = FabBody.readReq 8) ∧
    (w1_FabricTraffic_progress.offset = progressOffset) :=
  ⟨by decide +kernel, arrives_of (by decide +kernel), by decide +kernel, by decide +kernel, by decide +kernel, by decide +kernel⟩

def w1_FabricTraffic_denied : FabMsg := asksAt (64 * 7) (FabBody.readReq 8)

theorem wit_FabricTraffic_denied :
    ((at0 net0).dev.blocked = []) ∧
    (Arrives (at0 net0).dev w1_FabricTraffic_denied) ∧
    (7 = w1_FabricTraffic_denied.offset / 64) ∧
    (0 = w1_FabricTraffic_denied.offset / 32 % 2) ∧
    (w1_FabricTraffic_denied.body = FabBody.readReq 8) ∧
    (w1_FabricTraffic_denied.offset ≠ progressOffset) ∧
    ((admitRange (at0 net0).dev w1_FabricTraffic_denied.src w1_FabricTraffic_denied.offset 8 0).snd = eRights) ∧
    (eRights ≠ 0) :=
  ⟨by decide +kernel, arrives_of (by decide +kernel), by decide +kernel, by decide +kernel, by decide +kernel, by decide +kernel, by decide +kernel,
    by decide +kernel⟩

def w1_FabricTraffic_read : FabMsg := asksAt (64 * peerOwn + 20) (FabBody.readReq 8)

theorem wit_FabricTraffic_read :
    ((at0 heldSegDev).dev.blocked = []) ∧
    (Arrives (at0 heldSegDev).dev w1_FabricTraffic_read) ∧
    (peerOwn = w1_FabricTraffic_read.offset / 64) ∧
    (0 = w1_FabricTraffic_read.offset / 32 % 2) ∧
    (w1_FabricTraffic_read.body = FabBody.readReq 8) ∧
    (w1_FabricTraffic_read.offset ≠ progressOffset) ∧
    ((admitRange (at0 heldSegDev).dev w1_FabricTraffic_read.src w1_FabricTraffic_read.offset 8 0).snd = 0) ∧
    (w1_FabricTraffic_read.offset % 32 + 8 ≤ 32) ∧
    (HeldHome (at0 heldSegDev).dev peerOwn heldLine) ∧
    (halfCode heldLine 0 = 0) :=
  ⟨by decide +kernel, arrives_of (by decide +kernel), by decide +kernel, by decide +kernel, by decide +kernel, by decide +kernel, by decide +kernel,
    by decide +kernel, heldHome_of (by decide +kernel), by decide +kernel⟩

def w1_FabricTraffic_write : FabMsg := asksAt (64 * peerOwn + 40) (FabBody.write [1, 2, 3])

theorem wit_FabricTraffic_write :
    ((at0 heldSegDev).dev.blocked = []) ∧
    (Arrives (at0 heldSegDev).dev w1_FabricTraffic_write) ∧
    (peerOwn = w1_FabricTraffic_write.offset / 64) ∧
    (1 = w1_FabricTraffic_write.offset / 32 % 2) ∧
    (Instr.fabWrite w1_FabricTraffic_write = Instr.fabWrite w1_FabricTraffic_write ∧ w1_FabricTraffic_write.body = FabBody.write [1, 2, 3] ∧
      FabBody.writeAck 0 = FabBody.writeAck 0 ∨ (∃ die, Instr.fabWrite w1_FabricTraffic_write = Instr.multicastSegment w1_FabricTraffic_write die)
      ∧ w1_FabricTraffic_write.body = FabBody.segment [1, 2, 3] ∧ FabBody.writeAck 0 = FabBody.segmentResp 0 ∧ (at0 heldSegDev).dev.fab.segs = []) ∧
    ((admitRange (at0 heldSegDev).dev w1_FabricTraffic_write.src w1_FabricTraffic_write.offset [1, 2, 3].length 1).snd = 0) ∧
    ([1, 2, 3] ≠ []) ∧
    (w1_FabricTraffic_write.offset % 32 + [1, 2, 3].length ≤ 32) ∧
    (HeldHome (at0 heldSegDev).dev peerOwn heldLine) ∧
    (∀ (i : Nat), i ≤ 32 → ownerOf (at0 heldSegDev).dev (w1_FabricTraffic_write.offset / 2 ^ 21) = i → jnlMode (at0 heldSegDev).dev i ≠ 1) :=
  ⟨by decide +kernel, arrives_of (by decide +kernel), by decide +kernel, by decide +kernel, Or.inl ⟨rfl, rfl, rfl⟩, by decide +kernel,
    by decide +kernel, by decide +kernel, heldHome_of (by decide +kernel), by decide +kernel⟩

def w1_FabricTraffic_segment : FabMsg := asksAt (64 * peerOwn + 32) (FabBody.segment (List.replicate 32 7))

theorem wit_FabricTraffic_segment :
    ((at0 heldSegDev).dev.blocked = []) ∧
    (Arrives (at0 heldSegDev).dev w1_FabricTraffic_segment) ∧
    (peerOwn = w1_FabricTraffic_segment.offset / 64) ∧
    (1 = w1_FabricTraffic_segment.offset / 32 % 2) ∧
    (Instr.multicastSegment w1_FabricTraffic_segment 1 = Instr.fabWrite w1_FabricTraffic_segment ∧ w1_FabricTraffic_segment.body = FabBody.write
      (List.replicate 32 7) ∧ FabBody.segmentResp 0 = FabBody.writeAck 0 ∨ (∃ die, Instr.multicastSegment w1_FabricTraffic_segment 1 =
      Instr.multicastSegment w1_FabricTraffic_segment die) ∧ w1_FabricTraffic_segment.body = FabBody.segment (List.replicate 32 7) ∧
      FabBody.segmentResp 0 = FabBody.segmentResp 0 ∧ (at0 heldSegDev).dev.fab.segs = []) ∧
    ((admitRange (at0 heldSegDev).dev w1_FabricTraffic_segment.src w1_FabricTraffic_segment.offset (List.replicate 32 7).length 1).snd = 0) ∧
    (List.replicate 32 7 ≠ []) ∧
    (w1_FabricTraffic_segment.offset % 32 + (List.replicate 32 7).length ≤ 32) ∧
    (HeldHome (at0 heldSegDev).dev peerOwn heldLine) ∧
    (∀ (i : Nat), i ≤ 32 → ownerOf (at0 heldSegDev).dev (w1_FabricTraffic_segment.offset / 2 ^ 21) = i → jnlMode (at0 heldSegDev).dev i ≠ 1) :=
  ⟨by decide +kernel, arrives_of (by decide +kernel), by decide +kernel, by decide +kernel, Or.inr ⟨⟨_, rfl⟩, rfl, rfl, by decide +kernel⟩,
    by decide +kernel, by decide +kernel, by decide +kernel, heldHome_of (by decide +kernel), by decide +kernel⟩

def w1_FabricTraffic_atomic : FabMsg := asks 200 (FabBody.atomic [{ lane := 3, off := 4, op := 0, w64 := false, a := 5, b := 0 : LaneAtom }])

def w2_FabricTraffic_atomic : List LaneAtom := [{ lane := 3, off := 4, op := 0, w64 := false, a := 5, b := 0 : LaneAtom }]

theorem wit_FabricTraffic_atomic :
    ((at0 heldSegDev).dev.blocked = []) ∧
    (Arrives (at0 heldSegDev).dev w1_FabricTraffic_atomic) ∧
    (peerOwn = w1_FabricTraffic_atomic.offset / 64) ∧
    (0 = w1_FabricTraffic_atomic.offset / 32 % 2) ∧
    (w1_FabricTraffic_atomic.body = FabBody.atomic w2_FabricTraffic_atomic) ∧
    ((admitRange (at0 heldSegDev).dev w1_FabricTraffic_atomic.src w1_FabricTraffic_atomic.offset 32 2).snd = 0) ∧
    (HeldHome (at0 heldSegDev).dev peerOwn heldLine) ∧
    (halfCode heldLine 0 = 0) ∧
    (∀ (i : Nat), i ≤ 32 → jnlMode (at0 heldSegDev).dev i ≠ 1) :=
  ⟨by decide +kernel, arrives_of (by decide +kernel), by decide +kernel, by decide +kernel, by decide +kernel, by decide +kernel,
    heldHome_of (by decide +kernel), by decide +kernel, by decide +kernel⟩

def w1_FabricTraffic_answer : FabMsg := asks 200 (FabBody.readResp 0 (List.replicate 32 5))

def w2_FabricTraffic_answer : State := at0 (sentDev ReqKind.read)

theorem wit_FabricTraffic_answer :
    (w2_FabricTraffic_answer.dev.blocked = []) ∧
    (Arrives w2_FabricTraffic_answer.dev w1_FabricTraffic_answer) ∧
    (w1_FabricTraffic_answer.body = FabBody.readResp 0 (List.replicate 32 5)) ∧
    (w1_FabricTraffic_answer.tag = 4 * 2) ∧
    (tget w2_FabricTraffic_answer.dev.net 2 = some (sentReq ReqKind.read)) ∧
    ((sentReq ReqKind.read).sent = true) ∧
    ((sentReq ReqKind.read).kind = ReqKind.read) ∧
    (core0 = coreOf w2_FabricTraffic_answer.dev (sentReq ReqKind.read).core) ∧
    (0 = 0 ∨ badData 0 = false) :=
  ⟨by decide +kernel, arrives_of (by decide +kernel), by decide +kernel, by decide +kernel, by decide +kernel, by decide +kernel, by decide +kernel,
    by decide +kernel, by decide +kernel⟩

def w1_FabricTraffic_bad : FabMsg := asks 200 (FabBody.readResp eRights [])

theorem wit_FabricTraffic_bad :
    (w2_FabricTraffic_answer.dev.blocked = []) ∧
    (Arrives w2_FabricTraffic_answer.dev w1_FabricTraffic_bad) ∧
    (w1_FabricTraffic_bad.body = FabBody.readResp eRights []) ∧
    (w1_FabricTraffic_bad.tag = 4 * 2) ∧
    (tget w2_FabricTraffic_answer.dev.net 2 = some (sentReq ReqKind.read)) ∧
    ((sentReq ReqKind.read).sent = true) ∧
    ((sentReq ReqKind.read).kind = ReqKind.read) ∧
    (core0 = coreOf w2_FabricTraffic_answer.dev (sentReq ReqKind.read).core) ∧
    (eRights = 0 ∨ badData eRights = false) :=
  ⟨by decide +kernel, arrives_of (by decide +kernel), by decide +kernel, by decide +kernel, by decide +kernel, by decide +kernel, by decide +kernel,
    by decide +kernel, by decide +kernel⟩

def w1_FabricTraffic_values : State := at0 (sentDev (ReqKind.atomic [{ lane := 3, off := 4, op := 0, w64 := false, a := 5, b := 0 : LaneAtom }]))

def w2_FabricTraffic_values : Req := sentReq (ReqKind.atomic [{ lane := 3, off := 4, op := 0, w64 := false, a := 5, b := 0 : LaneAtom }])

def w3_FabricTraffic_values : FabMsg := asks 200 (FabBody.atomicResp 0 [(3, 77)])

theorem wit_FabricTraffic_values :
    (w1_FabricTraffic_values.dev.blocked = []) ∧
    (Arrives w1_FabricTraffic_values.dev w3_FabricTraffic_values) ∧
    (w3_FabricTraffic_values.body = FabBody.atomicResp 0 [(3, 77)]) ∧
    (w3_FabricTraffic_values.tag = 4 * 2) ∧
    (tget w1_FabricTraffic_values.dev.net 2 = some w2_FabricTraffic_values) ∧
    (w2_FabricTraffic_values.sent = true) ∧
    (w2_FabricTraffic_values.kind = ReqKind.atomic w2_FabricTraffic_atomic) ∧
    (core0 = coreOf w1_FabricTraffic_values.dev w2_FabricTraffic_values.core) :=
  ⟨by decide +kernel, arrives_of (by decide +kernel), by decide +kernel, by decide +kernel, by decide +kernel, by decide +kernel, by decide +kernel,
    by decide +kernel⟩

def w1_FabricTraffic_refused : FabMsg := asks 200 (FabBody.atomicResp eRights [])

theorem wit_FabricTraffic_refused :
    (w1_FabricTraffic_values.dev.blocked = []) ∧
    (Arrives w1_FabricTraffic_values.dev w1_FabricTraffic_refused) ∧
    (w1_FabricTraffic_refused.body = FabBody.atomicResp eRights []) ∧
    (w1_FabricTraffic_refused.tag = 4 * 2) ∧
    (tget w1_FabricTraffic_values.dev.net 2 = some w2_FabricTraffic_values) ∧
    (w2_FabricTraffic_values.sent = true) ∧
    (w2_FabricTraffic_values.kind = ReqKind.atomic w2_FabricTraffic_atomic) ∧
    (core0 = coreOf w1_FabricTraffic_values.dev w2_FabricTraffic_values.core) :=
  ⟨by decide +kernel, arrives_of (by decide +kernel), by decide +kernel, by decide +kernel, by decide +kernel, by decide +kernel, by decide +kernel,
    by decide +kernel⟩

def w1_FabricTraffic_acks : FabMsg := let __src := asks 200 (FabBody.writeAck 0); { dst := __src.dst, src := __src.src, hops := __src.hops, poison := __src.poison, epoch := __src.epoch, tag := 9, offset := __src.offset, reserved := __src.reserved, body := __src.body : FabMsg }

theorem wit_FabricTraffic_acks :
    ((at0 (wroteDev 2)).dev.blocked = []) ∧
    (Arrives (at0 (wroteDev 2)).dev  (let __src := asks 200 (FabBody.writeAck 0);  { dst := __src.dst, src := __src.src, hops := __src.hops, poison := __src.poison, epoch := __src.epoch, tag := 9, offset := __src.offset, reserved := __src.reserved, body := __src.body : FabMsg })) ∧
    ((let __src := asks 200 (FabBody.writeAck 0);   { dst := __src.dst, src := __src.src, hops := __src.hops, poison := __src.poison, epoch := __src.epoch, tag := 9, offset := __src.offset, reserved := __src.reserved, body := __src.body : FabMsg }).body
      =  FabBody.writeAck 0) ∧
    (sentWrite (at0 (wroteDev 2)).dev   (let __src := asks 200 (FabBody.writeAck 0);    { dst := __src.dst, src := __src.src, hops := __src.hops, poison := __src.poison, epoch := __src.epoch, tag := 9, offset := __src.offset, reserved := __src.reserved, body := __src.body : FabMsg }).tag
      =  some (0, sentW 2)) ∧
    ((sentW 2).sent =  some   ((let __src := asks 200 (FabBody.writeAck 0);     { dst := __src.dst, src := __src.src, hops := __src.hops, poison := __src.poison, epoch := __src.epoch, tag := 9, offset := __src.offset, reserved := __src.reserved, body := __src.body : FabMsg }).tag,
         2)) ∧
    (1 ≤ 2) :=
  ⟨by decide +kernel, arrives_of (by decide +kernel), by decide +kernel, by decide +kernel, by decide +kernel, by decide +kernel⟩

theorem wit_FabricTraffic_accepted :
    ((at0 (wroteDev 1)).dev.blocked = []) ∧
    (Arrives (at0 (wroteDev 1)).dev  (let __src := asks 200 (FabBody.writeAck 0);  { dst := __src.dst, src := __src.src, hops := __src.hops, poison := __src.poison, epoch := __src.epoch, tag := 9, offset := __src.offset, reserved := __src.reserved, body := __src.body : FabMsg })) ∧
    ((let __src := asks 200 (FabBody.writeAck 0);   { dst := __src.dst, src := __src.src, hops := __src.hops, poison := __src.poison, epoch := __src.epoch, tag := 9, offset := __src.offset, reserved := __src.reserved, body := __src.body : FabMsg }).body
      =  FabBody.writeAck 0) ∧
    (sentWrite (at0 (wroteDev 1)).dev   (let __src := asks 200 (FabBody.writeAck 0);    { dst := __src.dst, src := __src.src, hops := __src.hops, poison := __src.poison, epoch := __src.epoch, tag := 9, offset := __src.offset, reserved := __src.reserved, body := __src.body : FabMsg }).tag
      =  some (0, sentW 1)) ∧
    ((sentW 1).sent =  some   ((let __src := asks 200 (FabBody.writeAck 0);     { dst := __src.dst, src := __src.src, hops := __src.hops, poison := __src.poison, epoch := __src.epoch, tag := 9, offset := __src.offset, reserved := __src.reserved, body := __src.body : FabMsg }).tag,
         1)) ∧
    (1 ≤ 1) :=
  ⟨by decide +kernel, arrives_of (by decide +kernel), by decide +kernel, by decide +kernel, by decide +kernel, by decide +kernel⟩

def w1_FabricTraffic_lost : FabMsg := let __src := asks 200 (FabBody.writeAck eRights); { dst := __src.dst, src := __src.src, hops := __src.hops, poison := __src.poison, epoch := __src.epoch, tag := 9, offset := __src.offset, reserved := __src.reserved, body := __src.body : FabMsg }

theorem wit_FabricTraffic_lost :
    ((at0 (wroteDev 2)).dev.blocked = []) ∧
    (Arrives (at0 (wroteDev 2)).dev  (let __src := asks 200 (FabBody.writeAck eRights);  { dst := __src.dst, src := __src.src, hops := __src.hops, poison := __src.poison, epoch := __src.epoch, tag := 9, offset := __src.offset, reserved := __src.reserved, body := __src.body : FabMsg })) ∧
    ((let __src := asks 200 (FabBody.writeAck eRights);   { dst := __src.dst, src := __src.src, hops := __src.hops, poison := __src.poison, epoch := __src.epoch, tag := 9, offset := __src.offset, reserved := __src.reserved, body := __src.body : FabMsg }).body
      =  FabBody.writeAck eRights) ∧
    (sentWrite (at0 (wroteDev 2)).dev   (let __src := asks 200 (FabBody.writeAck eRights);    { dst := __src.dst, src := __src.src, hops := __src.hops, poison := __src.poison, epoch := __src.epoch, tag := 9, offset := __src.offset, reserved := __src.reserved, body := __src.body : FabMsg }).tag
      =  some (0, sentW 2)) ∧
    ((sentW 2).sent =  some   ((let __src := asks 200 (FabBody.writeAck eRights);     { dst := __src.dst, src := __src.src, hops := __src.hops, poison := __src.poison, epoch := __src.epoch, tag := 9, offset := __src.offset, reserved := __src.reserved, body := __src.body : FabMsg }).tag,
         2)) ∧
    (1 ≤ 2) :=
  ⟨by decide +kernel, arrives_of (by decide +kernel), by decide +kernel, by decide +kernel, by decide +kernel, by decide +kernel⟩

def w1_FabricTraffic_acked : FabMsg := let __src := asks 200 (FabBody.segmentResp 0); { dst := __src.dst, src := __src.src, hops := __src.hops, poison := __src.poison, epoch := __src.epoch, tag := segTag 3 0 0, offset := __src.offset, reserved := __src.reserved, body := __src.body : FabMsg }

def w2_FabricTraffic_acked : State := at0 (castDev (target 200))

theorem wit_FabricTraffic_acked :
    (w2_FabricTraffic_acked.dev.blocked = []) ∧
    (Arrives w2_FabricTraffic_acked.dev  (let __src := asks 200 (FabBody.segmentResp 0);  { dst := __src.dst, src := __src.src, hops := __src.hops, poison := __src.poison, epoch := __src.epoch, tag := segTag 3 0 0, offset := __src.offset, reserved := __src.reserved, body := __src.body : FabMsg })) ∧
    ((let __src := asks 200 (FabBody.segmentResp 0);   { dst := __src.dst, src := __src.src, hops := __src.hops, poison := __src.poison, epoch := __src.epoch, tag := segTag 3 0 0, offset := __src.offset, reserved := __src.reserved, body := __src.body : FabMsg }).body
      =  FabBody.segmentResp 0) ∧
    ((let __src := asks 200 (FabBody.segmentResp 0);   { dst := __src.dst, src := __src.src, hops := __src.hops, poison := __src.poison, epoch := __src.epoch, tag := segTag 3 0 0, offset := __src.offset, reserved := __src.reserved, body := __src.body : FabMsg }).tag
      =  segTag 3 0 0) ∧
    (0 < 128) ∧
    (0 < 8192) ∧
    (tget w2_FabricTraffic_acked.dev.fab.sends 3 = some (cast (target 200))) ∧
    ((cast (target 200)).targets[0]? = some (target 200)) ∧
    (∃ j g', j ≠ 0 ∧ (cast (target 200)).targets[j]? = some g' ∧ g'.missed = false ∧ delivered (cast (target 200)) g' = false) :=
  ⟨by decide +kernel, arrives_of (by decide +kernel), by decide +kernel, by decide +kernel, by decide +kernel, by decide +kernel, by decide +kernel,
    by decide +kernel, ⟨1, _, by decide, rfl, by decide +kernel, by decide +kernel⟩⟩

def w1_FabricTraffic_busy : FabMsg := let __src := asks 200 (FabBody.segmentResp eBusy); { dst := __src.dst, src := __src.src, hops := __src.hops, poison := __src.poison, epoch := __src.epoch, tag := segTag 3 0 0, offset := __src.offset, reserved := __src.reserved, body := __src.body : FabMsg }

theorem wit_FabricTraffic_busy :
    ((at0 (castDev (busy 200))).dev.blocked = []) ∧
    (Arrives (at0 (castDev (busy 200))).dev  (let __src := asks 200 (FabBody.segmentResp eBusy);  { dst := __src.dst, src := __src.src, hops := __src.hops, poison := __src.poison, epoch := __src.epoch, tag := segTag 3 0 0, offset := __src.offset, reserved := __src.reserved, body := __src.body : FabMsg })) ∧
    ((let __src := asks 200 (FabBody.segmentResp eBusy);   { dst := __src.dst, src := __src.src, hops := __src.hops, poison := __src.poison, epoch := __src.epoch, tag := segTag 3 0 0, offset := __src.offset, reserved := __src.reserved, body := __src.body : FabMsg }).body
      =  FabBody.segmentResp eBusy) ∧
    ((let __src := asks 200 (FabBody.segmentResp eBusy);   { dst := __src.dst, src := __src.src, hops := __src.hops, poison := __src.poison, epoch := __src.epoch, tag := segTag 3 0 0, offset := __src.offset, reserved := __src.reserved, body := __src.body : FabMsg }).tag
      =  segTag 3 0 0) ∧
    (0 < 128) ∧
    (0 < 8192) ∧
    (tget (at0 (castDev (busy 200))).dev.fab.sends 3 = some (cast (busy 200))) ∧
    ((cast (busy 200)).targets[0]? = some (busy 200)) ∧
    (∃ j g', j ≠ 0 ∧ (cast (busy 200)).targets[j]? = some g' ∧ g'.missed = false ∧ delivered (cast (busy 200)) g' = false) :=
  ⟨by decide +kernel, arrives_of (by decide +kernel), by decide +kernel, by decide +kernel, by decide +kernel, by decide +kernel, by decide +kernel,
    by decide +kernel, ⟨1, _, by decide, rfl, by decide +kernel, by decide +kernel⟩⟩

def w1_FabricTraffic_missed : FabMsg := let __src := asks 200 (FabBody.segmentResp eRights); { dst := __src.dst, src := __src.src, hops := __src.hops, poison := __src.poison, epoch := __src.epoch, tag := segTag 3 0 0, offset := __src.offset, reserved := __src.reserved, body := __src.body : FabMsg }

theorem wit_FabricTraffic_missed :
    (w2_FabricTraffic_acked.dev.blocked = []) ∧
    (Arrives w2_FabricTraffic_acked.dev  (let __src := asks 200 (FabBody.segmentResp eRights);  { dst := __src.dst, src := __src.src, hops := __src.hops, poison := __src.poison, epoch := __src.epoch, tag := segTag 3 0 0, offset := __src.offset, reserved := __src.reserved, body := __src.body : FabMsg })) ∧
    ((let __src := asks 200 (FabBody.segmentResp eRights);   { dst := __src.dst, src := __src.src, hops := __src.hops, poison := __src.poison, epoch := __src.epoch, tag := segTag 3 0 0, offset := __src.offset, reserved := __src.reserved, body := __src.body : FabMsg }).body
      =  FabBody.segmentResp eRights) ∧
    ((let __src := asks 200 (FabBody.segmentResp eRights);   { dst := __src.dst, src := __src.src, hops := __src.hops, poison := __src.poison, epoch := __src.epoch, tag := segTag 3 0 0, offset := __src.offset, reserved := __src.reserved, body := __src.body : FabMsg }).tag
      =  segTag 3 0 0) ∧
    (0 < 128) ∧
    (0 < 8192) ∧
    (tget w2_FabricTraffic_acked.dev.fab.sends 3 = some (cast (target 200))) ∧
    ((cast (target 200)).targets[0]? = some (target 200)) ∧
    (∃ j g', j ≠ 0 ∧ (cast (target 200)).targets[j]? = some g' ∧ g'.missed = false ∧ delivered (cast (target 200)) g' = false) :=
  ⟨by decide +kernel, arrives_of (by decide +kernel), by decide +kernel, by decide +kernel, by decide +kernel, by decide +kernel, by decide +kernel,
    by decide +kernel, ⟨1, _, by decide, rfl, by decide +kernel, by decide +kernel⟩⟩

def w1_FabricTraffic_early : FabMsg := asks 200 (FabBody.collective (head0 6 2 4) false [(0, [1, 2, 3, 4])])

theorem wit_FabricTraffic_early :
    ((at0 (commDev0 2 4)).dev.blocked = []) ∧
    (Arrives (at0 (commDev0 2 4)).dev w1_FabricTraffic_early) ∧
    ((at0 (commDev0 2 4)).dev.fab.comms = [(2, commIn 2 4)]) ∧
    ((commIn 2 4).key = (head0 6 2 4).key) ∧
    (rankOf (commIn 2 4) w1_FabricTraffic_early.src = some 1) ∧
    ((commIn 2 4).colls = [coll0 2 4]) ∧
    ((head0 6 2 4).seq > (coll0 2 4).head.seq) ∧
    (w1_FabricTraffic_early.body = FabBody.collective (head0 6 2 4) false [(0, [1, 2, 3, 4])]) :=
  ⟨by decide +kernel, arrives_of (by decide +kernel), by decide +kernel, by decide +kernel, by decide +kernel, by decide +kernel, by decide +kernel,
    by decide +kernel⟩

def w1_FabricTraffic_early_signal : FabMsg := asks 200 (FabBody.signal (head0 6 0 0) false 0 5)

theorem wit_FabricTraffic_early_signal :
    ((at0 (commDev0 2 4)).dev.blocked = []) ∧
    (Arrives (at0 (commDev0 2 4)).dev w1_FabricTraffic_early_signal) ∧
    ((at0 (commDev0 2 4)).dev.fab.comms = [(2, commIn 2 4)]) ∧
    ((commIn 2 4).key = (head0 6 0 0).key) ∧
    (rankOf (commIn 2 4) w1_FabricTraffic_early_signal.src = some 1) ∧
    ((commIn 2 4).colls = [coll0 2 4]) ∧
    ((head0 6 0 0).seq > (coll0 2 4).head.seq) ∧
    (w1_FabricTraffic_early_signal.body = FabBody.signal (head0 6 0 0) false 0 5) :=
  ⟨by decide +kernel, arrives_of (by decide +kernel), by decide +kernel, by decide +kernel, by decide +kernel, by decide +kernel, by decide +kernel,
    by decide +kernel⟩

def w1_FabricTraffic_part : Dev := (arrive (commDev0 2 4) (asks 200 (FabBody.collective (head0 5 2 4) false [(0, List.replicate 16 1)]))).fst

def w2_FabricTraffic_part : FabMsg := asks 200 (FabBody.collective (head0 5 2 4) false [(0, List.replicate 16 1)])

def w3_FabricTraffic_part : List (Nat × List Byte) := [(0, List.replicate 16 1)]

theorem wit_FabricTraffic_part :
    ((at0 (commDev0 2 4)).dev.blocked = []) ∧
    (Arrives (at0 (commDev0 2 4)).dev w2_FabricTraffic_part) ∧
    ((at0 (commDev0 2 4)).dev.fab.comms = [(2, commIn 2 4)]) ∧
    ((commIn 2 4).key = (head0 5 2 4).key) ∧
    (rankOf (commIn 2 4) w2_FabricTraffic_part.src = some 1) ∧
    ((commIn 2 4).colls = [coll0 2 4]) ∧
    (head0 5 2 4 = (coll0 2 4).head) ∧
    ((commIn 2 4).early = []) ∧
    (1 ∈ childRanks (commIn 2 4).ranks.length (commIn 2 4).rank) ∧
    (∃ q, q ∈ childRanks (commIn 2 4).ranks.length (commIn 2 4).rank ∧ q ≠ 1 ∧ ∀ (p : Nat × List (Nat × List Byte)), p ∈ (coll0 2 4).got → p.fst ≠
      q) ∧
    ((coll0 2 4).head.kind ≠ 1) ∧
    (w2_FabricTraffic_part.body = FabBody.collective (head0 5 2 4) false w3_FabricTraffic_part) ∧
    (arrive (at0 (commDev0 2 4)).dev w2_FabricTraffic_part = (w1_FabricTraffic_part, true)) ∧
    (bufferExported w1_FabricTraffic_part (commIn 2 4).inst (coll0 2 4).src (1 * (head0 5 2 4).count * elemBytes (head0 5 2 4).dtype)
      w2_FabricTraffic_part.src 0 = true) :=
  ⟨by decide +kernel, arrives_of (by decide +kernel), by decide +kernel, by decide +kernel, by decide +kernel, by decide +kernel, by decide +kernel,
    by decide +kernel, by decide +kernel, by decide +kernel, by decide +kernel, by decide +kernel, by decide +kernel, by decide +kernel⟩

def w1_FabricTraffic_signal : FabMsg := asks 200 (FabBody.signal (head0 5 0 0) false 0 5)

theorem wit_FabricTraffic_signal :
    ((at0 (commDev0 0 0)).dev.blocked = []) ∧
    (Arrives (at0 (commDev0 0 0)).dev w1_FabricTraffic_signal) ∧
    ((at0 (commDev0 0 0)).dev.fab.comms = [(2, commIn 0 0)]) ∧
    ((commIn 0 0).key = (head0 5 0 0).key) ∧
    (rankOf (commIn 0 0) w1_FabricTraffic_signal.src = some 1) ∧
    ((commIn 0 0).colls = [coll0 0 0]) ∧
    (head0 5 0 0 = (coll0 0 0).head) ∧
    ((commIn 0 0).early = []) ∧
    (1 ∈ childRanks (commIn 0 0).ranks.length (commIn 0 0).rank) ∧
    (∃ q, q ∈ childRanks (commIn 0 0).ranks.length (commIn 0 0).rank ∧ q ≠ 1 ∧ ∀ (p : Nat × List (Nat × List Byte)), p ∈ (coll0 0 0).got → p.fst ≠
      q) ∧
    ((coll0 0 0).head.kind ≠ 1) ∧
    (w1_FabricTraffic_signal.body = FabBody.signal (head0 5 0 0) false 0 5) :=
  ⟨by decide +kernel, arrives_of (by decide +kernel), by decide +kernel, by decide +kernel, by decide +kernel, by decide +kernel, by decide +kernel,
    by decide +kernel, by decide +kernel, by decide +kernel, by decide +kernel, by decide +kernel⟩

def w1_FabricTraffic_unreachable : FabMsg := asks 200 FabBody.unreachable

theorem wit_FabricTraffic_unreachable :
    (w2_FabricTraffic_answer.dev.blocked = []) ∧
    (serving w2_FabricTraffic_answer.dev = true) ∧
    (ownDevice w2_FabricTraffic_answer.dev w1_FabricTraffic_unreachable.dst = true) ∧
    (w1_FabricTraffic_unreachable.reserved = false) ∧
    (w1_FabricTraffic_unreachable.body = FabBody.unreachable) ∧
    (w1_FabricTraffic_unreachable.tag = 4 * 2) ∧
    (tget w2_FabricTraffic_answer.dev.net 2 = some (sentReq ReqKind.read)) ∧
    ((sentReq ReqKind.read).sent = true) ∧
    ((sentReq ReqKind.read).kind = ReqKind.read) :=
  ⟨by decide +kernel, by decide +kernel, by decide +kernel, by decide +kernel, by decide +kernel, by decide +kernel, by decide +kernel,
    by decide +kernel, by decide +kernel⟩

def w1_FabricTraffic_unreachable_write : FabMsg := let __src := asks 200 FabBody.unreachable; { dst := __src.dst, src := __src.src, hops := __src.hops, poison := __src.poison, epoch := __src.epoch, tag := 9, offset := __src.offset, reserved := __src.reserved, body := __src.body : FabMsg }

theorem wit_FabricTraffic_unreachable_write :
    ((at0 (wroteDev 2)).dev.blocked = []) ∧
    (serving (at0 (wroteDev 2)).dev = true) ∧
    (ownDevice (at0 (wroteDev 2)).dev   (let __src := asks 200 FabBody.unreachable;    { dst := __src.dst, src := __src.src, hops := __src.hops, poison := __src.poison, epoch := __src.epoch, tag := 9, offset := __src.offset, reserved := __src.reserved, body := __src.body : FabMsg }).dst
      =  true) ∧
    ((let __src := asks 200 FabBody.unreachable;   { dst := __src.dst, src := __src.src, hops := __src.hops, poison := __src.poison, epoch := __src.epoch, tag := 9, offset := __src.offset, reserved := __src.reserved, body := __src.body : FabMsg }).reserved
      =  false) ∧
    ((let __src := asks 200 FabBody.unreachable;   { dst := __src.dst, src := __src.src, hops := __src.hops, poison := __src.poison, epoch := __src.epoch, tag := 9, offset := __src.offset, reserved := __src.reserved, body := __src.body : FabMsg }).body
      =  FabBody.unreachable) ∧
    ((let __src := asks 200 FabBody.unreachable;    { dst := __src.dst, src := __src.src, hops := __src.hops, poison := __src.poison, epoch := __src.epoch, tag := 9, offset := __src.offset, reserved := __src.reserved, body := __src.body : FabMsg }).tag
      %   4 =  1) ∧
    (sentWrite (at0 (wroteDev 2)).dev   (let __src := asks 200 FabBody.unreachable;    { dst := __src.dst, src := __src.src, hops := __src.hops, poison := __src.poison, epoch := __src.epoch, tag := 9, offset := __src.offset, reserved := __src.reserved, body := __src.body : FabMsg }).tag
      =  some (0, sentW 2)) :=
  ⟨by decide +kernel, by decide +kernel, by decide +kernel, by decide +kernel, by decide +kernel, by decide +kernel, by decide +kernel⟩

theorem wit_FabricTraffic_retry :
    ((at0 (castDev (busy 200))).dev.blocked = []) ∧
    (tget (at0 (castDev (busy 200))).dev.fab.sends 3 = some (cast (busy 200))) ∧
    ((cast (busy 200)).targets[0]? = some (busy 200)) ∧
    ((busy 200).missed = false) ∧
    (delivered (cast (busy 200)) (busy 200) = false) ∧
    (0 ∈ (busy 200).refused) ∧
    (ownDevice (at0 (castDev (busy 200))).dev ((busy 200).base / 2 ^ 42) = false) ∧
    (fabReach (at0 (castDev (busy 200))).dev ((busy 200).base / 2 ^ 42) = true) :=
  ⟨by decide +kernel, by decide +kernel, by decide +kernel, by decide +kernel, by decide +kernel, by decide +kernel, by decide +kernel,
    by decide +kernel⟩

theorem wit_FabricTraffic_give_up :
    ((at0 (castDev (busy 200))).dev.blocked = []) ∧
    (tget (at0 (castDev (busy 200))).dev.fab.sends 3 = some (cast (busy 200))) ∧
    ((cast (busy 200)).targets[0]? = some (busy 200)) ∧
    ((busy 200).missed = false) ∧
    (delivered (cast (busy 200)) (busy 200) = false) ∧
    ((busy 200).firstBusy.isSome = true) ∧
    (∃ j g', j ≠ 0 ∧ (cast (busy 200)).targets[j]? = some g' ∧ g'.missed = false ∧ delivered (cast (busy 200)) g' = false) :=
  ⟨by decide +kernel, by decide +kernel, by decide +kernel, by decide +kernel, by decide +kernel, by decide +kernel, ⟨1, _, by decide, rfl,
    by decide +kernel, by decide +kernel⟩⟩

end Sys2Proof.Tests
end

