-- ==== Sys2Proof/Tests/WitPorts.lean ====
section
/-!
SUPPORT. Premises of the statement about ports, links and members, met together by concrete states: one theorem for each clause.
-/
namespace Sys2Proof.Tests
open Sys2Proof Sys2Proof.Machine
set_option Elab.async false

/-- Port 2 in a STATE, towards port 5 of device 400; device 300 is reached by port 1. No member is admitted. -/
def linkDev (st : Nat) (q : Port) : Dev :=
  let d := fset (fset (fset own0 RF.FAB_STATUS_DEVICE_VALID 1) RF.FAB_STATUS_DEVICE 100) RF.FAB_STATUS_PORTS_UP (if st = 3 then 7 else 3)
  let d := fset (fset (fset d (RF.FAB_PORT_STATUS_STATE 2) st) (RF.FAB_PORT_STATUS_NEIGHBOUR 2) 400) (RF.FAB_PORT_STATUS_NEIGHBOUR_PORT 2) 5
  { d with fab := { d.fab with routes := [(300, 2), (400, 5)], ports := [(2, q)] } }

/-- A flit that passes its checks, and one that fails its CRC or its tag. -/
def flit0 (l : List FabMsg) : FabFlit := ⟨7, 0, false, false, true, 0, true, 0, true, true, true, l⟩
def badFlit : FabFlit := { flit0 [] with crcOk := false }
def wrongTag : FabFlit := { flit0 [] with tagOk := false }

/-- A port that has sent flits 3 and 4, and expects 7. -/
def port0 : Port := { Port.reset with tx := 5, rx := 7, replay := [{ flit0 [] with seq := 3 }, { flit0 [] with seq := 4 }] }

/-- A port whose replay buffer fills. -/
def fullPort : Port := { port0 with parked := true, replay := List.replicate 32 (flit0 []) }

/-- A write that passes through. -/
def passing : FabMsg := ⟨300, 400, 2, false, 0, 8, 64, false, .write [1, 2, 3]⟩

/-- A message of device 400 for this one. -/
def from400 (b : FabBody) : FabMsg := ⟨100, 400, 0, false, 0, 8, 0, false, b⟩

/-- A lost port that holds a flit with a message of this device. -/
def lostPort : Port := { Port.reset with heldFrom := 400, accepted := 9, held := [{ flit0 [] with seq := 3 }, { flit0 [{ passing with dst := 300, src := 100 }] with seq := 4 }] }

/-- An admission of device 400 that has begun. -/
def admitEntry : StoreEntry := ⟨0, 1, 0, entryOf 0x72 [(16, 7), (18, 5)], 1, false⟩
def admitting : Dev :=
  let d := linkDev 3 port0
  { d with fab := { d.fab with members := [(5, ⟨400, some (cmdKey 0 1 0), 0⟩)] }, fe := { d.fe with rings := [(1, ring0)], store := [admitEntry] } }

/-- One member. -/
def oneMember : Dev := fset (fset (linkDev 3 port0) (RF.SHC_EPOCH_VALID 4) 1) (RF.SHC_EPOCH_DEVICE 4) 400

/-- A collective that waits for device 300. -/
def pairColl : Comm := { commIn 2 4 with ranks := [100, 300] }
def waitColl : Dev :=
  let d := fset (linkDev 3 port0) RF.FAB_POLICY_PACE_EN 1
  { d with fab := { d.fab with comms := [(2, pairColl)], words := [(300, 2)] } }

def w1_PortsAndMembers_flit : FabFlit := flit0  [let __src := passing;   { dst := __src.dst, src := __src.src, hops := __src.hops, poison := __src.poison, epoch := __src.epoch, tag := __src.tag, offset := __src.offset, reserved := __src.reserved, body := FabBody.idle : FabMsg }]

theorem wit_PortsAndMembers_flit :
    (serving (at0 (linkDev 3 port0)).dev = true) ∧
    (2 ≤ 15) ∧
    (port0 = portAt (at0 (linkDev 3 port0)).dev 2) ∧
    (fget (at0 (linkDev 3 port0)).dev (RF.FAB_PORT_STATUS_STATE 2) = 3) ∧
    ((flit0    [let __src := passing;     { dst := __src.dst, src := __src.src, hops := __src.hops, poison := __src.poison, epoch := __src.epoch, tag := __src.tag, offset := __src.offset, reserved := __src.reserved, body := FabBody.idle : FabMsg }]).fecOk
      =  true) ∧
    ((flit0    [let __src := passing;     { dst := __src.dst, src := __src.src, hops := __src.hops, poison := __src.poison, epoch := __src.epoch, tag := __src.tag, offset := __src.offset, reserved := __src.reserved, body := FabBody.idle : FabMsg }]).crcOk
      =  true) ∧
    ((flit0    [let __src := passing;     { dst := __src.dst, src := __src.src, hops := __src.hops, poison := __src.poison, epoch := __src.epoch, tag := __src.tag, offset := __src.offset, reserved := __src.reserved, body := FabBody.idle : FabMsg }]).resvOk
      =  true) ∧
    ((flit0    [let __src := passing;     { dst := __src.dst, src := __src.src, hops := __src.hops, poison := __src.poison, epoch := __src.epoch, tag := __src.tag, offset := __src.offset, reserved := __src.reserved, body := FabBody.idle : FabMsg }]).secure
      =  true) ∧
    ((flit0    [let __src := passing;     { dst := __src.dst, src := __src.src, hops := __src.hops, poison := __src.poison, epoch := __src.epoch, tag := __src.tag, offset := __src.offset, reserved := __src.reserved, body := FabBody.idle : FabMsg }]).tagOk
      =  true) ∧
    ((flit0    [let __src := passing;     { dst := __src.dst, src := __src.src, hops := __src.hops, poison := __src.poison, epoch := __src.epoch, tag := __src.tag, offset := __src.offset, reserved := __src.reserved, body := FabBody.idle : FabMsg }]).nak
      =  false) ∧
    ((flit0    [let __src := passing;     { dst := __src.dst, src := __src.src, hops := __src.hops, poison := __src.poison, epoch := __src.epoch, tag := __src.tag, offset := __src.offset, reserved := __src.reserved, body := FabBody.idle : FabMsg }]).ackV
      =  false) ∧
    ((flit0    [let __src := passing;     { dst := __src.dst, src := __src.src, hops := __src.hops, poison := __src.poison, epoch := __src.epoch, tag := __src.tag, offset := __src.offset, reserved := __src.reserved, body := FabBody.idle : FabMsg }]).seq
      =  port0.rx) ∧
    ((at0 (linkDev 3 port0)).dev.fab.waiting = []) ∧
    ((at0 (linkDev 3 port0)).dev.fab.inbox = []) ∧
    (∀ (m : FabMsg),  m ∈    (flit0      [let __src := passing;       { dst := __src.dst, src := __src.src, hops := __src.hops, poison := __src.poison, epoch := __src.epoch, tag := __src.tag, offset := __src.offset, reserved := __src.reserved, body := FabBody.idle : FabMsg }]).slots
      →   m.body = FabBody.idle) :=
  ⟨by decide +kernel, by decide +kernel, by decide +kernel, by decide +kernel, by decide +kernel, by decide +kernel, by decide +kernel,
    by decide +kernel, by decide +kernel, by decide +kernel, by decide +kernel, by decide +kernel, by decide +kernel, by decide +kernel,
    by decide +kernel⟩

theorem wit_PortsAndMembers_transit :
    (serving (at0 (linkDev 3 port0)).dev = true) ∧
    (2 ≤ 15) ∧
    (port0 = portAt (at0 (linkDev 3 port0)).dev 2) ∧
    (fget (at0 (linkDev 3 port0)).dev (RF.FAB_PORT_STATUS_STATE 2) = 3) ∧
    ((flit0 [passing]).fecOk = true) ∧
    ((flit0 [passing]).crcOk = true) ∧
    ((flit0 [passing]).resvOk = true) ∧
    ((flit0 [passing]).secure = true) ∧
    ((flit0 [passing]).tagOk = true) ∧
    ((flit0 [passing]).nak = false) ∧
    ((flit0 [passing]).ackV = false) ∧
    ((flit0 [passing]).seq = port0.rx) ∧
    ((at0 (linkDev 3 port0)).dev.fab.waiting = []) ∧
    ((at0 (linkDev 3 port0)).dev.fab.inbox = []) ∧
    ((flit0 [passing]).slots = [passing]) ∧
    (passing.body = FabBody.write [1, 2, 3]) ∧
    (passing.reserved = false) ∧
    (ownDevice (at0 (linkDev 3 port0)).dev passing.dst = false) ∧
    (passing.hops < 7) ∧
    (routePorts (at0 (linkDev 3 port0)).dev passing.dst ≠ []) ∧
    (∃ r, r ∈ routePorts (at0 (linkDev 3 port0)).dev passing.dst ∧ (portAt (at0 (linkDev 3 port0)).dev r).replay.length < 128) :=
  ⟨by decide +kernel, by decide +kernel, by decide +kernel, by decide +kernel, by decide +kernel, by decide +kernel, by decide +kernel,
    by decide +kernel, by decide +kernel, by decide +kernel, by decide +kernel, by decide +kernel, by decide +kernel, by decide +kernel,
    by decide +kernel, by decide +kernel, by decide +kernel, by decide +kernel, by decide +kernel, by decide +kernel, by decide +kernel⟩

theorem wit_PortsAndMembers_bad :
    (serving (at0 (linkDev 3 port0)).dev = true) ∧
    (2 ≤ 15) ∧
    (port0 = portAt (at0 (linkDev 3 port0)).dev 2) ∧
    (fget (at0 (linkDev 3 port0)).dev (RF.FAB_PORT_STATUS_STATE 2) = 3) ∧
    ((badFlit.fecOk && badFlit.crcOk && badFlit.resvOk) = false) ∧
    (port0.fails < 7) :=
  ⟨by decide +kernel, by decide +kernel, by decide +kernel, by decide +kernel, by decide +kernel, by decide +kernel⟩

theorem wit_PortsAndMembers_nak :
    (serving (at0 (linkDev 3 port0)).dev = true) ∧
    (2 ≤ 15) ∧
    (port0 = portAt (at0 (linkDev 3 port0)).dev 2) ∧
    (fget (at0 (linkDev 3 port0)).dev (RF.FAB_PORT_STATUS_STATE 2) = 3) :=
  ⟨by decide +kernel, by decide +kernel, by decide +kernel, by decide +kernel⟩

theorem wit_PortsAndMembers_light :
    (serving (at0 (linkDev 3 port0)).dev = true) ∧
    (2 ≤ 15) ∧
    (port0 = portAt (at0 (linkDev 3 port0)).dev 2) ∧
    (fget (at0 (linkDev 3 port0)).dev (RF.FAB_PORT_STATUS_STATE 2) = 3) ∧
    (∀ (m : Nat), m < 64 → fget (at0 (linkDev 3 port0)).dev (RF.SHC_EPOCH_VALID m) = 0) ∧
    (Instr.portLoss 2 true = Instr.portLoss 2 true ∨ Instr.portLoss 2 true = Instr.fabricFlitReceive 2 badFlit ∧ (badFlit.fecOk && badFlit.crcOk
      && badFlit.resvOk) = true ∧ badFlit.tagOk = false) :=
  ⟨by decide +kernel, by decide +kernel, by decide +kernel, by decide +kernel, by decide +kernel, Or.inl rfl⟩

theorem wit_PortsAndMembers_tag :
    (serving (at0 (linkDev 3 port0)).dev = true) ∧
    (2 ≤ 15) ∧
    (port0 = portAt (at0 (linkDev 3 port0)).dev 2) ∧
    (fget (at0 (linkDev 3 port0)).dev (RF.FAB_PORT_STATUS_STATE 2) = 3) ∧
    (∀ (m : Nat), m < 64 → fget (at0 (linkDev 3 port0)).dev (RF.SHC_EPOCH_VALID m) = 0) ∧
    (Instr.fabricFlitReceive 2 wrongTag = Instr.portLoss 2 true ∨ Instr.fabricFlitReceive 2 wrongTag = Instr.fabricFlitReceive 2 wrongTag ∧
      (wrongTag.fecOk && wrongTag.crcOk && wrongTag.resvOk) = true ∧ wrongTag.tagOk = false) :=
  ⟨by decide +kernel, by decide +kernel, by decide +kernel, by decide +kernel, by decide +kernel, Or.inr ⟨rfl, by decide +kernel,
    by decide +kernel⟩⟩

theorem wit_PortsAndMembers_keys_update :
    (serving (at0 (linkDev 3 port0)).dev = true) ∧
    (2 ≤ 15) ∧
    (port0 = portAt (at0 (linkDev 3 port0)).dev 2) ∧
    (fget (at0 (linkDev 3 port0)).dev (RF.FAB_PORT_STATUS_STATE 2) = 3) :=
  ⟨by decide +kernel, by decide +kernel, by decide +kernel, by decide +kernel⟩

theorem wit_PortsAndMembers_park :
    (serving (at0 (linkDev 3 port0)).dev = true) ∧
    (2 ≤ 15) ∧
    (port0 = portAt (at0 (linkDev 3 port0)).dev 2) ∧
    (fget (at0 (linkDev 3 port0)).dev (RF.FAB_PORT_STATUS_STATE 2) = 3) ∧
    (Instr.fabricLanePark 2 = Instr.fabricLanePark 2 ∧ true = true ∧ fget (at0 (linkDev 3 port0)).dev (RF.FAB_PORT_STATUS_HALF 2) = 0 ∧
      port0.replay.length < 32 ∨ Instr.fabricLanePark 2 = Instr.fabricLaneUnpark 2 ∧ true = false ∧ port0.parked = true ∧ 32 ≤
      port0.replay.length) :=
  ⟨by decide +kernel, by decide +kernel, by decide +kernel, by decide +kernel, Or.inl ⟨rfl, rfl, by decide +kernel, by decide +kernel⟩⟩

theorem wit_PortsAndMembers_unpark :
    (serving (at0 (linkDev 3 fullPort)).dev = true) ∧
    (2 ≤ 15) ∧
    (fullPort = portAt (at0 (linkDev 3 fullPort)).dev 2) ∧
    (fget (at0 (linkDev 3 fullPort)).dev (RF.FAB_PORT_STATUS_STATE 2) = 3) ∧
    (Instr.fabricLaneUnpark 2 = Instr.fabricLanePark 2 ∧ false = true ∧ fget (at0 (linkDev 3 fullPort)).dev (RF.FAB_PORT_STATUS_HALF 2) = 0 ∧
      fullPort.replay.length < 32 ∨ Instr.fabricLaneUnpark 2 = Instr.fabricLaneUnpark 2 ∧ false = false ∧ fullPort.parked = true ∧ 32 ≤
      fullPort.replay.length) :=
  ⟨by decide +kernel, by decide +kernel, by decide +kernel, by decide +kernel, Or.inr ⟨rfl, rfl, rfl, by decide +kernel⟩⟩

def w1_PortsAndMembers_query : FabMsg := from400 (FabBody.resyncQuery 2)

theorem wit_PortsAndMembers_query :
    (serving (at0 (linkDev 3 port0)).dev = true) ∧
    (2 ≤ 15) ∧
    (port0 = portAt (at0 (linkDev 3 port0)).dev 2) ∧
    (w1_PortsAndMembers_query.body = FabBody.resyncQuery 2) ∧
    (ownDevice (at0 (linkDev 3 port0)).dev w1_PortsAndMembers_query.dst = true) :=
  ⟨by decide +kernel, by decide +kernel, by decide +kernel, by decide +kernel, by decide +kernel⟩

def w1_PortsAndMembers_reply : FabMsg := from400 (FabBody.resyncReply 2 3)

theorem wit_PortsAndMembers_reply :
    (serving (at0 (linkDev 0 lostPort)).dev = true) ∧
    (2 ≤ 15) ∧
    (lostPort = portAt (at0 (linkDev 0 lostPort)).dev 2) ∧
    (w1_PortsAndMembers_reply.body = FabBody.resyncReply 2 3) ∧
    (ownDevice (at0 (linkDev 0 lostPort)).dev w1_PortsAndMembers_reply.dst = true) ∧
    (lostPort.heldFrom = w1_PortsAndMembers_reply.src) :=
  ⟨by decide +kernel, by decide +kernel, by decide +kernel, by decide +kernel, by decide +kernel, by decide +kernel⟩

def w1_PortsAndMembers_detect : State := at0 (linkDev 0 Port.reset)

theorem wit_PortsAndMembers_detect :
    (serving w1_PortsAndMembers_detect.dev = true) ∧
    (2 ≤ 15) ∧
    (Port.reset = portAt w1_PortsAndMembers_detect.dev 2) ∧
    (fget w1_PortsAndMembers_detect.dev RF.FAB_STATUS_DEVICE_VALID = 1) ∧
    (fget w1_PortsAndMembers_detect.dev (RF.FAB_PORT_STATUS_STATE 2) = 0) :=
  ⟨by decide +kernel, by decide +kernel, by decide +kernel, by decide +kernel, by decide +kernel⟩

def w1_PortsAndMembers_trained : State := at0 (linkDev 1 Port.reset)

theorem wit_PortsAndMembers_trained :
    (serving w1_PortsAndMembers_trained.dev = true) ∧
    (2 ≤ 15) ∧
    (Port.reset = portAt w1_PortsAndMembers_trained.dev 2) ∧
    (fget w1_PortsAndMembers_trained.dev (RF.FAB_PORT_STATUS_STATE 2) = 1) :=
  ⟨by decide +kernel, by decide +kernel, by decide +kernel, by decide +kernel⟩

def w1_PortsAndMembers_identity : FabMsg := from400 (FabBody.identity 400 77 5 [])

def w2_PortsAndMembers_identity : State := at0 (linkDev 2 Port.reset)

theorem wit_PortsAndMembers_identity :
    (serving w2_PortsAndMembers_identity.dev = true) ∧
    (2 ≤ 15) ∧
    (Port.reset = portAt w2_PortsAndMembers_identity.dev 2) ∧
    (∀ (m : Nat), m < 64 → fget w2_PortsAndMembers_identity.dev (RF.SHC_EPOCH_VALID m) = 0) ∧
    (fget w2_PortsAndMembers_identity.dev (RF.FAB_PORT_STATUS_STATE 2) = 2) ∧
    (w1_PortsAndMembers_identity.body = FabBody.identity 400 77 5 []) ∧
    (Port.reset.passed = 0) ∧
    (400 ≤ 32767) ∧
    (ownDevice w2_PortsAndMembers_identity.dev 400 = false) ∧
    (5 ≤ 15) :=
  ⟨by decide +kernel, by decide +kernel, by decide +kernel, by decide +kernel, by decide +kernel, by decide +kernel, by decide +kernel,
    by decide +kernel, by decide +kernel, by decide +kernel⟩

def w1_PortsAndMembers_measurements : State := at0  (linkDev 2   (let __src := Port.reset;   { tx := __src.tx, rx := __src.rx, replay := __src.replay, fails := __src.fails, held := __src.held, heldFrom := __src.heldFrom, accepted := __src.accepted, passed := 1, trained := __src.trained, keyUse := __src.keyUse, parked := __src.parked : Port }))

def w2_PortsAndMembers_measurements : Port := let __src := Port.reset; { tx := __src.tx, rx := __src.rx, replay := __src.replay, fails := __src.fails, held := __src.held, heldFrom := __src.heldFrom, accepted := __src.accepted, passed := 1, trained := __src.trained, keyUse := __src.keyUse, parked := __src.parked : Port }

def w3_PortsAndMembers_measurements : FabMsg := from400 (FabBody.measurements [])

theorem wit_PortsAndMembers_measurements :
    (serving   (at0     (linkDev 2      (let __src := Port.reset;      { tx := __src.tx, rx := __src.rx, replay := __src.replay, fails := __src.fails, held := __src.held, heldFrom := __src.heldFrom, accepted := __src.accepted, passed := 1, trained := __src.trained, keyUse := __src.keyUse, parked := __src.parked : Port }))).dev
      =  true) ∧
    (2 ≤ 15) ∧
    ((let __src := Port.reset;  { tx := __src.tx, rx := __src.rx, replay := __src.replay, fails := __src.fails, held := __src.held, heldFrom := __src.heldFrom, accepted := __src.accepted, passed := 1, trained := __src.trained, keyUse := __src.keyUse, parked := __src.parked : Port })
      =  portAt   (at0     (linkDev 2      (let __src := Port.reset;      { tx := __src.tx, rx := __src.rx, replay := __src.replay, fails := __src.fails, held := __src.held, heldFrom := __src.heldFrom, accepted := __src.accepted, passed := 1, trained := __src.trained, keyUse := __src.keyUse, parked := __src.parked : Port }))).dev
        2) ∧
    (∀ (m : Nat),  m < 64 →   fget     (at0       (linkDev 2        (let __src := Port.reset;        { tx := __src.tx, rx := __src.rx, replay := __src.replay, fails := __src.fails, held := __src.held, heldFrom := __src.heldFrom, accepted := __src.accepted, passed := 1, trained := __src.trained, keyUse := __src.keyUse, parked := __src.parked : Port }))).dev
          (RF.SHC_EPOCH_VALID m) =    0) ∧
    (fget   (at0     (linkDev 2      (let __src := Port.reset;      { tx := __src.tx, rx := __src.rx, replay := __src.replay, fails := __src.fails, held := __src.held, heldFrom := __src.heldFrom, accepted := __src.accepted, passed := 1, trained := __src.trained, keyUse := __src.keyUse, parked := __src.parked : Port }))).dev
        (RF.FAB_PORT_STATUS_STATE 2) =  2) ∧
    (w3_PortsAndMembers_measurements.body = FabBody.measurements []) ∧
    ((let __src := Port.reset;   { tx := __src.tx, rx := __src.rx, replay := __src.replay, fails := __src.fails, held := __src.held, heldFrom := __src.heldFrom, accepted := __src.accepted, passed := 1, trained := __src.trained, keyUse := __src.keyUse, parked := __src.parked : Port }).passed
      =  1) :=
  ⟨by decide +kernel, by decide +kernel, by decide +kernel, by decide +kernel, by decide +kernel, by decide +kernel, by decide +kernel⟩

def w1_PortsAndMembers_keys : State := at0  (linkDev 2   (let __src := Port.reset;   { tx := __src.tx, rx := __src.rx, replay := __src.replay, fails := __src.fails, held := __src.held, heldFrom := __src.heldFrom, accepted := __src.accepted, passed := 2, trained := __src.trained, keyUse := __src.keyUse, parked := __src.parked : Port }))

def w2_PortsAndMembers_keys : Port := let __src := Port.reset; { tx := __src.tx, rx := __src.rx, replay := __src.replay, fails := __src.fails, held := __src.held, heldFrom := __src.heldFrom, accepted := __src.accepted, passed := 2, trained := __src.trained, keyUse := __src.keyUse, parked := __src.parked : Port }

theorem wit_PortsAndMembers_keys :
    (serving   (at0     (linkDev 2      (let __src := Port.reset;      { tx := __src.tx, rx := __src.rx, replay := __src.replay, fails := __src.fails, held := __src.held, heldFrom := __src.heldFrom, accepted := __src.accepted, passed := 2, trained := __src.trained, keyUse := __src.keyUse, parked := __src.parked : Port }))).dev
      =  true) ∧
    (2 ≤ 15) ∧
    ((let __src := Port.reset;  { tx := __src.tx, rx := __src.rx, replay := __src.replay, fails := __src.fails, held := __src.held, heldFrom := __src.heldFrom, accepted := __src.accepted, passed := 2, trained := __src.trained, keyUse := __src.keyUse, parked := __src.parked : Port })
      =  portAt   (at0     (linkDev 2      (let __src := Port.reset;      { tx := __src.tx, rx := __src.rx, replay := __src.replay, fails := __src.fails, held := __src.held, heldFrom := __src.heldFrom, accepted := __src.accepted, passed := 2, trained := __src.trained, keyUse := __src.keyUse, parked := __src.parked : Port }))).dev
        2) ∧
    (∀ (m : Nat),  m < 64 →   fget     (at0       (linkDev 2        (let __src := Port.reset;        { tx := __src.tx, rx := __src.rx, replay := __src.replay, fails := __src.fails, held := __src.held, heldFrom := __src.heldFrom, accepted := __src.accepted, passed := 2, trained := __src.trained, keyUse := __src.keyUse, parked := __src.parked : Port }))).dev
          (RF.SHC_EPOCH_VALID m) =    0) ∧
    (fget   (at0     (linkDev 2      (let __src := Port.reset;      { tx := __src.tx, rx := __src.rx, replay := __src.replay, fails := __src.fails, held := __src.held, heldFrom := __src.heldFrom, accepted := __src.accepted, passed := 2, trained := __src.trained, keyUse := __src.keyUse, parked := __src.parked : Port }))).dev
        (RF.FAB_PORT_STATUS_STATE 2) =  2) ∧
    ((from400 FabBody.keys).body = FabBody.keys) ∧
    ((let __src := Port.reset;   { tx := __src.tx, rx := __src.rx, replay := __src.replay, fails := __src.fails, held := __src.held, heldFrom := __src.heldFrom, accepted := __src.accepted, passed := 2, trained := __src.trained, keyUse := __src.keyUse, parked := __src.parked : Port }).passed
      =  2) ∧
    ((at0      (linkDev 2       (let __src := Port.reset;       { tx := __src.tx, rx := __src.rx, replay := __src.replay, fails := __src.fails, held := __src.held, heldFrom := __src.heldFrom, accepted := __src.accepted, passed := 2, trained := __src.trained, keyUse := __src.keyUse, parked := __src.parked : Port }))).dev.fab.waiting
      =  []) :=
  ⟨by decide +kernel, by decide +kernel, by decide +kernel, by decide +kernel, by decide +kernel, by decide +kernel, by decide +kernel,
    by decide +kernel⟩

def w1_PortsAndMembers_timeout : Member := { device := 400, cmd := some (cmdKey 0 1 0), heard := 0 : Member }

theorem wit_PortsAndMembers_timeout :
    (serving (at0 admitting).dev = true) ∧
    ((at0 admitting).dev.fab.members = [(5, w1_PortsAndMembers_timeout)]) ∧
    (w1_PortsAndMembers_timeout.device = 400) ∧
    (w1_PortsAndMembers_timeout.cmd = some (cmdKey 0 1 0)) ∧
    (storeAt (at0 admitting).dev (cmdKey 0 1 0) = some admitEntry) ∧
    (entryOp admitEntry.entry = 114) ∧
    (admitEntry.inst ≤ 34) :=
  ⟨by decide +kernel, by decide +kernel, by decide +kernel, by decide +kernel, by decide +kernel, by decide +kernel, by decide +kernel⟩

def w1_PortsAndMembers_word : FabMsg := asks 200 (FabBody.progress 5)

theorem wit_PortsAndMembers_word :
    (serving (at0 net0).dev = true) ∧
    (Arrives (at0 net0).dev w1_PortsAndMembers_word) ∧
    (w1_PortsAndMembers_word.body = FabBody.progress 5) :=
  ⟨by decide +kernel, arrives_of (by decide +kernel), by decide +kernel⟩

theorem wit_PortsAndMembers_push :
    (serving (at0 oneMember).dev = true) ∧
    (4 < 64) ∧
    (∀ (m : Nat), m < 64 → (fget (at0 oneMember).dev (RF.SHC_EPOCH_VALID m) = 1 ↔ m = 4)) :=
  ⟨by decide +kernel, by decide +kernel, by decide +kernel⟩

theorem wit_PortsAndMembers_poll :
    (serving (at0 waitColl).dev = true) ∧
    ((at0 waitColl).dev.blocked = []) ∧
    ((at0 waitColl).dev.fab.comms = [(2, pairColl)]) ∧
    (pairColl.colls = [coll0 2 4]) ∧
    (pairColl.early = []) ∧
    ((coll0 2 4).head.kind ≠ 1) ∧
    (awaited pairColl (coll0 2 4) = [1]) :=
  ⟨by decide +kernel, by decide +kernel, by decide +kernel, by decide +kernel, by decide +kernel, by decide +kernel, by decide +kernel⟩

theorem wit_PortsAndMembers_pace :
    (serving (at0 waitColl).dev = true) ∧
    ((at0 waitColl).dev.blocked = []) ∧
    ((at0 waitColl).dev.fab.comms = [(2, pairColl)]) ∧
    (pairColl.colls = [coll0 2 4]) ∧
    (pairColl.early = []) ∧
    ((coll0 2 4).head.kind ≠ 1) ∧
    (awaited pairColl (coll0 2 4) = [1]) ∧
    (fget (at0 waitColl).dev RF.FAB_POLICY_PACE_EN = 1) ∧
    ((coll0 2 4).pacing = false) ∧
    (tgetD (at0 waitColl).dev.fab.words (pairColl.ranks.getD 1 0) 0 % 256 &&& 223 ≠ 0) :=
  ⟨by decide +kernel, by decide +kernel, by decide +kernel, by decide +kernel, by decide +kernel, by decide +kernel, by decide +kernel,
    by decide +kernel, by decide +kernel, by decide +kernel⟩

theorem wit_PortsAndMembers_depart :
    (serving (at0 net0).dev = true) ∧
    ((∃ m, Instr.fabricDepart (asks 200 FabBody.depart) = Instr.fabricDepart m ∧ Arrives (at0 net0).dev m ∧ m.src = 200 ∧ m.body = FabBody.depart)
      ∨ Instr.fabricDepart (asks 200 FabBody.depart) = Instr.memberSilenceTimeout 200 ∧ fabReach (at0 net0).dev 200 = false ∧ ∀ (p : Nat), p < 16
      → (portAt (at0 net0).dev p).heldFrom ≠ 200) ∧
    (memberOf (at0 net0).dev 200 = some 1) ∧
    ((at0 net0).dev.shore.dir = []) ∧
    ((at0 net0).dev.shore.txn = []) ∧
    ((at0 net0).dev.shore.queue = []) ∧
    ((at0 net0).dev.net = []) ∧
    ((at0 net0).dev.fab.comms = []) ∧
    ((at0 net0).dev.fab.sends = []) ∧
    (∀ (p : Nat × Member), p ∈ (at0 net0).dev.fab.members → p.snd.cmd = none) ∧
    (∀ (p : Nat × Core), p ∈ (at0 net0).dev.cores → ∀ (w : WbEntry), w ∈ p.snd.wb → atDevice 200 (32 * w.sec) = false) ∧
    (∀ (p : Nat × Line), p ∈ (at0 net0).dev.shore.lines → p.snd.hold = Hold.pending → atDevice 200 (64 * p.fst) = false) :=
  ⟨by decide +kernel, Or.inl ⟨_, rfl, arrives_of (by decide +kernel), rfl, rfl⟩, by decide +kernel, by decide +kernel, by decide +kernel,
    by decide +kernel, by decide +kernel, by decide +kernel, by decide +kernel, by decide +kernel, by decide +kernel, by decide +kernel⟩

def w1_PortsAndMembers_silence : State := at0  (let __src := net0;  { regs := __src.regs, iregs := __src.iregs, free := __src.free, time := __src.time, cores := __src.cores, disp := __src.disp, net := __src.net, nextReq := __src.nextReq, shore := __src.shore, mem := __src.mem, dram := __src.dram, xl := __src.xl, ins := __src.ins, fe := __src.fe,   fab :=    let __src := net0.fab;    { routes := [], ports := __src.ports, lastPort := __src.lastPort, waiting := __src.waiting, members := __src.members, epochs := __src.epochs, groups := __src.groups, sends := __src.sends, nextSend := __src.nextSend, segs := __src.segs, comms := __src.comms, words := __src.words, inbox := __src.inbox, notes := __src.notes, lastBad := __src.lastBad : Fabric },   mesh := __src.mesh, flash := __src.flash, trust := __src.trust, start := __src.start, host := __src.host, out := __src.out, log := __src.log, power := __src.power, traces := __src.traces, traceQ := __src.traceQ, blocked := __src.blocked : Dev })

theorem wit_PortsAndMembers_silence :
    (serving   (at0     (let __src := net0;     { regs := __src.regs, iregs := __src.iregs, free := __src.free, time := __src.time, cores := __src.cores, disp := __src.disp, net := __src.net, nextReq := __src.nextReq, shore := __src.shore, mem := __src.mem, dram := __src.dram, xl := __src.xl, ins := __src.ins, fe := __src.fe,      fab :=       let __src := net0.fab;       { routes := [], ports := __src.ports, lastPort := __src.lastPort, waiting := __src.waiting, members := __src.members, epochs := __src.epochs, groups := __src.groups, sends := __src.sends, nextSend := __src.nextSend, segs := __src.segs, comms := __src.comms, words := __src.words, inbox := __src.inbox, notes := __src.notes, lastBad := __src.lastBad : Fabric },      mesh := __src.mesh, flash := __src.flash, trust := __src.trust, start := __src.start, host := __src.host, out := __src.out, log := __src.log, power := __src.power, traces := __src.traces, traceQ := __src.traceQ, blocked := __src.blocked : Dev })).dev
      =  true) ∧
    ((∃ m,   Instr.memberSilenceTimeout 200 = Instr.fabricDepart m ∧    Arrives      (at0        (let __src := net0;        { regs := __src.regs, iregs := __src.iregs, free := __src.free, time := __src.time, cores := __src.cores, disp := __src.disp, net := __src.net, nextReq := __src.nextReq, shore := __src.shore, mem := __src.mem, dram := __src.dram, xl := __src.xl, ins := __src.ins, fe := __src.fe,         fab :=          let __src := net0.fab;          { routes := [], ports := __src.ports, lastPort := __src.lastPort, waiting := __src.waiting, members := __src.members, epochs := __src.epochs, groups := __src.groups, sends := __src.sends, nextSend := __src.nextSend, segs := __src.segs, comms := __src.comms, words := __src.words, inbox := __src.inbox, notes := __src.notes, lastBad := __src.lastBad : Fabric },         mesh := __src.mesh, flash := __src.flash, trust := __src.trust, start := __src.start, host := __src.host, out := __src.out, log := __src.log, power := __src.power, traces := __src.traces, traceQ := __src.traceQ, blocked := __src.blocked : Dev })).dev
           m ∧     m.src = 200 ∧ m.body = FabBody.depart) ∨  Instr.memberSilenceTimeout 200 = Instr.memberSilenceTimeout 200 ∧   fabReach
      (at0        (let __src := net0;        { regs := __src.regs, iregs := __src.iregs, free := __src.free, time := __src.time, cores := __src.cores, disp := __src.disp, net := __src.net, nextReq := __src.nextReq, shore := __src.shore, mem := __src.mem, dram := __src.dram, xl := __src.xl, ins := __src.ins, fe := __src.fe,         fab :=          let __src := net0.fab;          { routes := [], ports := __src.ports, lastPort := __src.lastPort, waiting := __src.waiting, members := __src.members, epochs := __src.epochs, groups := __src.groups, sends := __src.sends, nextSend := __src.nextSend, segs := __src.segs, comms := __src.comms, words := __src.words, inbox := __src.inbox, notes := __src.notes, lastBad := __src.lastBad : Fabric },         mesh := __src.mesh, flash := __src.flash, trust := __src.trust, start := __src.start, host := __src.host, out := __src.out, log := __src.log, power := __src.power, traces := __src.traces, traceQ := __src.traceQ, blocked := __src.blocked : Dev })).dev
           200 =     false ∧    ∀ (p : Nat),     p < 16 →      (portAt         (at0           (let __src := net0;           { regs := __src.regs, iregs := __src.iregs, free := __src.free, time := __src.time, cores := __src.cores, disp := __src.disp, net := __src.net, nextReq := __src.nextReq, shore := __src.shore, mem := __src.mem, dram := __src.dram, xl := __src.xl, ins := __src.ins, fe := __src.fe,            fab :=             let __src := net0.fab;             { routes := [], ports := __src.ports, lastPort := __src.lastPort, waiting := __src.waiting, members := __src.members, epochs := __src.epochs, groups := __src.groups, sends := __src.sends, nextSend := __src.nextSend, segs := __src.segs, comms := __src.comms, words := __src.words, inbox := __src.inbox, notes := __src.notes, lastBad := __src.lastBad : Fabric },            mesh := __src.mesh, flash := __src.flash, trust := __src.trust, start := __src.start, host := __src.host, out := __src.out, log := __src.log, power := __src.power, traces := __src.traces, traceQ := __src.traceQ, blocked := __src.blocked : Dev })).dev
              p).heldFrom ≠       200) ∧
    (memberOf   (at0     (let __src := net0;     { regs := __src.regs, iregs := __src.iregs, free := __src.free, time := __src.time, cores := __src.cores, disp := __src.disp, net := __src.net, nextReq := __src.nextReq, shore := __src.shore, mem := __src.mem, dram := __src.dram, xl := __src.xl, ins := __src.ins, fe := __src.fe,      fab :=       let __src := net0.fab;       { routes := [], ports := __src.ports, lastPort := __src.lastPort, waiting := __src.waiting, members := __src.members, epochs := __src.epochs, groups := __src.groups, sends := __src.sends, nextSend := __src.nextSend, segs := __src.segs, comms := __src.comms, words := __src.words, inbox := __src.inbox, notes := __src.notes, lastBad := __src.lastBad : Fabric },      mesh := __src.mesh, flash := __src.flash, trust := __src.trust, start := __src.start, host := __src.host, out := __src.out, log := __src.log, power := __src.power, traces := __src.traces, traceQ := __src.traceQ, blocked := __src.blocked : Dev })).dev
        200 =  some 1) ∧
    ((at0      (let __src := net0;      { regs := __src.regs, iregs := __src.iregs, free := __src.free, time := __src.time, cores := __src.cores, disp := __src.disp, net := __src.net, nextReq := __src.nextReq, shore := __src.shore, mem := __src.mem, dram := __src.dram, xl := __src.xl, ins := __src.ins, fe := __src.fe,       fab :=        let __src := net0.fab;        { routes := [], ports := __src.ports, lastPort := __src.lastPort, waiting := __src.waiting, members := __src.members, epochs := __src.epochs, groups := __src.groups, sends := __src.sends, nextSend := __src.nextSend, segs := __src.segs, comms := __src.comms, words := __src.words, inbox := __src.inbox, notes := __src.notes, lastBad := __src.lastBad : Fabric },       mesh := __src.mesh, flash := __src.flash, trust := __src.trust, start := __src.start, host := __src.host, out := __src.out, log := __src.log, power := __src.power, traces := __src.traces, traceQ := __src.traceQ, blocked := __src.blocked : Dev })).dev.shore.dir
      =  []) ∧
    ((at0      (let __src := net0;      { regs := __src.regs, iregs := __src.iregs, free := __src.free, time := __src.time, cores := __src.cores, disp := __src.disp, net := __src.net, nextReq := __src.nextReq, shore := __src.shore, mem := __src.mem, dram := __src.dram, xl := __src.xl, ins := __src.ins, fe := __src.fe,       fab :=        let __src := net0.fab;        { routes := [], ports := __src.ports, lastPort := __src.lastPort, waiting := __src.waiting, members := __src.members, epochs := __src.epochs, groups := __src.groups, sends := __src.sends, nextSend := __src.nextSend, segs := __src.segs, comms := __src.comms, words := __src.words, inbox := __src.inbox, notes := __src.notes, lastBad := __src.lastBad : Fabric },       mesh := __src.mesh, flash := __src.flash, trust := __src.trust, start := __src.start, host := __src.host, out := __src.out, log := __src.log, power := __src.power, traces := __src.traces, traceQ := __src.traceQ, blocked := __src.blocked : Dev })).dev.shore.txn
      =  []) ∧
    ((at0      (let __src := net0;      { regs := __src.regs, iregs := __src.iregs, free := __src.free, time := __src.time, cores := __src.cores, disp := __src.disp, net := __src.net, nextReq := __src.nextReq, shore := __src.shore, mem := __src.mem, dram := __src.dram, xl := __src.xl, ins := __src.ins, fe := __src.fe,       fab :=        let __src := net0.fab;        { routes := [], ports := __src.ports, lastPort := __src.lastPort, waiting := __src.waiting, members := __src.members, epochs := __src.epochs, groups := __src.groups, sends := __src.sends, nextSend := __src.nextSend, segs := __src.segs, comms := __src.comms, words := __src.words, inbox := __src.inbox, notes := __src.notes, lastBad := __src.lastBad : Fabric },       mesh := __src.mesh, flash := __src.flash, trust := __src.trust, start := __src.start, host := __src.host, out := __src.out, log := __src.log, power := __src.power, traces := __src.traces, traceQ := __src.traceQ, blocked := __src.blocked : Dev })).dev.shore.queue
      =  []) ∧
    ((at0     (let __src := net0;     { regs := __src.regs, iregs := __src.iregs, free := __src.free, time := __src.time, cores := __src.cores, disp := __src.disp, net := __src.net, nextReq := __src.nextReq, shore := __src.shore, mem := __src.mem, dram := __src.dram, xl := __src.xl, ins := __src.ins, fe := __src.fe,      fab :=       let __src := net0.fab;       { routes := [], ports := __src.ports, lastPort := __src.lastPort, waiting := __src.waiting, members := __src.members, epochs := __src.epochs, groups := __src.groups, sends := __src.sends, nextSend := __src.nextSend, segs := __src.segs, comms := __src.comms, words := __src.words, inbox := __src.inbox, notes := __src.notes, lastBad := __src.lastBad : Fabric },      mesh := __src.mesh, flash := __src.flash, trust := __src.trust, start := __src.start, host := __src.host, out := __src.out, log := __src.log, power := __src.power, traces := __src.traces, traceQ := __src.traceQ, blocked := __src.blocked : Dev })).dev.net
      =  []) ∧
    ((at0      (let __src := net0;      { regs := __src.regs, iregs := __src.iregs, free := __src.free, time := __src.time, cores := __src.cores, disp := __src.disp, net := __src.net, nextReq := __src.nextReq, shore := __src.shore, mem := __src.mem, dram := __src.dram, xl := __src.xl, ins := __src.ins, fe := __src.fe,       fab :=        let __src := net0.fab;        { routes := [], ports := __src.ports, lastPort := __src.lastPort, waiting := __src.waiting, members := __src.members, epochs := __src.epochs, groups := __src.groups, sends := __src.sends, nextSend := __src.nextSend, segs := __src.segs, comms := __src.comms, words := __src.words, inbox := __src.inbox, notes := __src.notes, lastBad := __src.lastBad : Fabric },       mesh := __src.mesh, flash := __src.flash, trust := __src.trust, start := __src.start, host := __src.host, out := __src.out, log := __src.log, power := __src.power, traces := __src.traces, traceQ := __src.traceQ, blocked := __src.blocked : Dev })).dev.fab.comms
      =  []) ∧
    ((at0      (let __src := net0;      { regs := __src.regs, iregs := __src.iregs, free := __src.free, time := __src.time, cores := __src.cores, disp := __src.disp, net := __src.net, nextReq := __src.nextReq, shore := __src.shore, mem := __src.mem, dram := __src.dram, xl := __src.xl, ins := __src.ins, fe := __src.fe,       fab :=        let __src := net0.fab;        { routes := [], ports := __src.ports, lastPort := __src.lastPort, waiting := __src.waiting, members := __src.members, epochs := __src.epochs, groups := __src.groups, sends := __src.sends, nextSend := __src.nextSend, segs := __src.segs, comms := __src.comms, words := __src.words, inbox := __src.inbox, notes := __src.notes, lastBad := __src.lastBad : Fabric },       mesh := __src.mesh, flash := __src.flash, trust := __src.trust, start := __src.start, host := __src.host, out := __src.out, log := __src.log, power := __src.power, traces := __src.traces, traceQ := __src.traceQ, blocked := __src.blocked : Dev })).dev.fab.sends
      =  []) ∧
    (∀ (p : Nat × Member),  p ∈    (at0        (let __src := net0;        { regs := __src.regs, iregs := __src.iregs, free := __src.free, time := __src.time, cores := __src.cores, disp := __src.disp, net := __src.net, nextReq := __src.nextReq, shore := __src.shore, mem := __src.mem, dram := __src.dram, xl := __src.xl, ins := __src.ins, fe := __src.fe,         fab :=          let __src := net0.fab;          { routes := [], ports := __src.ports, lastPort := __src.lastPort, waiting := __src.waiting, members := __src.members, epochs := __src.epochs, groups := __src.groups, sends := __src.sends, nextSend := __src.nextSend, segs := __src.segs, comms := __src.comms, words := __src.words, inbox := __src.inbox, notes := __src.notes, lastBad := __src.lastBad : Fabric },         mesh := __src.mesh, flash := __src.flash, trust := __src.trust, start := __src.start, host := __src.host, out := __src.out, log := __src.log, power := __src.power, traces := __src.traces, traceQ := __src.traceQ, blocked := __src.blocked : Dev })).dev.fab.members
      →   p.snd.cmd = none) ∧
    (∀ (p : Nat × Core),  p ∈    (at0       (let __src := net0;       { regs := __src.regs, iregs := __src.iregs, free := __src.free, time := __src.time, cores := __src.cores, disp := __src.disp, net := __src.net, nextReq := __src.nextReq, shore := __src.shore, mem := __src.mem, dram := __src.dram, xl := __src.xl, ins := __src.ins, fe := __src.fe,        fab :=         let __src := net0.fab;         { routes := [], ports := __src.ports, lastPort := __src.lastPort, waiting := __src.waiting, members := __src.members, epochs := __src.epochs, groups := __src.groups, sends := __src.sends, nextSend := __src.nextSend, segs := __src.segs, comms := __src.comms, words := __src.words, inbox := __src.inbox, notes := __src.notes, lastBad := __src.lastBad : Fabric },        mesh := __src.mesh, flash := __src.flash, trust := __src.trust, start := __src.start, host := __src.host, out := __src.out, log := __src.log, power := __src.power, traces := __src.traces, traceQ := __src.traceQ, blocked := __src.blocked : Dev })).dev.cores
      →   ∀ (w : WbEntry), w ∈ p.snd.wb → atDevice 200 (32 * w.sec) = false) ∧
    (∀ (p : Nat × Line),  p ∈    (at0        (let __src := net0;        { regs := __src.regs, iregs := __src.iregs, free := __src.free, time := __src.time, cores := __src.cores, disp := __src.disp, net := __src.net, nextReq := __src.nextReq, shore := __src.shore, mem := __src.mem, dram := __src.dram, xl := __src.xl, ins := __src.ins, fe := __src.fe,         fab :=          let __src := net0.fab;          { routes := [], ports := __src.ports, lastPort := __src.lastPort, waiting := __src.waiting, members := __src.members, epochs := __src.epochs, groups := __src.groups, sends := __src.sends, nextSend := __src.nextSend, segs := __src.segs, comms := __src.comms, words := __src.words, inbox := __src.inbox, notes := __src.notes, lastBad := __src.lastBad : Fabric },         mesh := __src.mesh, flash := __src.flash, trust := __src.trust, start := __src.start, host := __src.host, out := __src.out, log := __src.log, power := __src.power, traces := __src.traces, traceQ := __src.traceQ, blocked := __src.blocked : Dev })).dev.shore.lines
      →   p.snd.hold = Hold.pending → atDevice 200 (64 * p.fst) = false) :=
  ⟨by decide +kernel, Or.inr ⟨rfl, by decide +kernel, by decide +kernel⟩, by decide +kernel, by decide +kernel, by decide +kernel,
    by decide +kernel, by decide +kernel, by decide +kernel, by decide +kernel, by decide +kernel, by decide +kernel, by decide +kernel⟩

end Sys2Proof.Tests
end

