-- ==== Sys2Proof/Tests/WitPower.lean ====
section
/-!
SUPPORT. Premises of the statement about power, clocks and temperature, met together by concrete states: one theorem for each clause.
-/
namespace Sys2Proof.Tests
open Sys2Proof Sys2Proof.Machine
set_option Elab.async false

/-- Stack 0, and package 3 as unit 11, in Duty at level 2 and 95 °C. -/
def dutyDev (temp : Nat) : Dev :=
  let d := fset (fset (fset module0 (RF.MEM_A_THERMAL_THERMAL 0) 2) (RF.MEM_A_THERMAL_DUTY 0) 2) (RF.MEM_A_THERMAL_HOT_TEMP 0) temp
  { d with mem := { d.mem with units := [(0, ⟨some 50, false⟩)] } }

/-- Stack 0 has been too hot since tick 50. -/
def hotUnitDev : Dev := { module0 with mem := { module0.mem with units := [(0, ⟨some 50, true⟩)] } }

/-- Sixteen layers of which the sixth is the hottest. -/
def layers (n : Nat) : List Nat := (List.range 16).map (fun i => if i = 5 then n else 40 + i)

/-- Island 0 runs, at 2,000 MHz, with a change under way, put off or not. -/
def changeDev (deferred : List Nat) : Dev :=
  let d := fset (fset module0 (RF.PWR_ISLAND_F_MHZ 0) 2000) (RF.PWR_ISLAND_L 0) 16
  { d with power := { d.power with changing := [(0, 2400)], deferred := deferred } }
def stretched : Dev :=
  let d := fset (changeDev [0]) (RF.PWR_ISLAND_STRETCH 0) 1
  { d with power := { d.power with applies := [(5, 0)] } }

/-- Island 0 is Gated, and asked to run or not. -/
def gatedDev (wake : List Nat) : Dev :=
  let d := fset (fset module0 (RF.PWR_ISLAND_STATE 0) 1) RF.PWR_IDLE_POLICY_OFF_US 5
  { d with power := { d.power with wake := wake } }

/-- Ten samples of 2.5 kW. -/
def sampledDev : Dev := { module0 with power := { module0.power with samples := List.replicate 10 25000000 } }
def coldDev : Dev := fset idle0 RF.BRG_START_STATUS_STAGE 0

/-- PWR_HOST_LIMIT of 1,024 W. -/
def limitDev : Dev := cmdOn own0 0xB0 [(17, 4)]

/-- A bound on every element of a list with its place. -/
theorem each_of {l : List Nat} {p : Nat → Nat → Prop} [∀ j x, Decidable (p j x)]
    (h : (List.range l.length).all (fun j => match l[j]? with
      | some x => decide (p j x)
      | none => true) = true) : ∀ j x, l[j]? = some x → p j x := by
  intro j x hx
  have hj : j < l.length := (List.getElem?_eq_some_iff.mp hx).1
  have := List.all_eq_true.mp h j (List.mem_range.mpr hj)
  rw [hx] at this
  simpa using this

theorem wit_PowerAndThermal_stack :
    (0 < 8) ∧
    ((layers 106).length = 16) ∧
    ((layers 106)[5]? = some 106) ∧
    (106 < 256) ∧
    (∀ (j x : Nat), (layers 106)[j]? = some x → x ≤ 106 ∧ (j < 5 → x < 106)) :=
  ⟨by decide +kernel, by decide +kernel, by decide +kernel, by decide +kernel, each_of (by decide +kernel)⟩

theorem wit_PowerAndThermal_package :
    (3 < 32) ∧
    (5 < 8) :=
  ⟨by decide +kernel, by decide +kernel⟩

theorem wit_PowerAndThermal_level :
    (0 < 40) ∧
    (fget (at0 (dutyDev 95)).dev (thermalFld 0) = 2) ∧
    (fget (at0 (dutyDev 95)).dev (dutyFld 0) ≤ 8) :=
  ⟨by decide +kernel, by decide +kernel, by decide +kernel⟩

theorem wit_PowerAndThermal_pause :
    (0 < 40) ∧
    (fget (at0 (dutyDev 107)).dev (thermalFld 0) = 2) ∧
    (fget (at0 (dutyDev 107)).dev (dutyFld 0) ≤ 8) ∧
    (fget (at0 (dutyDev 107)).dev (dutyFld 0) ≠ 0) :=
  ⟨by decide +kernel, by decide +kernel, by decide +kernel, by decide +kernel⟩

theorem wit_PowerAndThermal_pause_end :
    (0 < 40) :=
  by decide +kernel

theorem wit_PowerAndThermal_shutdown :
    (0 < 40) ∧
    (channelsKnown (at0 hotUnitDev).dev) ∧
    (fget (at0 hotUnitDev).dev (thermalFld 0) ≠ 3) ∧
    ((thermalUnit (at0 hotUnitDev).dev 0).hotSince ≠ none) :=
  ⟨by decide +kernel, known_of (by decide +kernel), by decide +kernel, by decide +kernel⟩

theorem wit_PowerAndThermal_change :
    (0 < 44) ∧
    (tget (at0 (changeDev [])).dev.power.changing 0 = some 2400) ∧
    (¬0 ∈ (at0 (changeDev [])).dev.power.deferred) ∧
    (fget (at0 (changeDev [])).dev (RF.PWR_ISLAND_STATE 0) = 0) ∧
    (2400 < 4096) :=
  ⟨by decide +kernel, by decide +kernel, by decide +kernel, by decide +kernel, by decide +kernel⟩

theorem wit_PowerAndThermal_put_off :
    (0 < 44) ∧
    (0 ∈ (at0 (changeDev [0])).dev.power.deferred) :=
  ⟨by decide +kernel, by decide +kernel⟩

theorem wit_PowerAndThermal_droop :
    (0 < 44) ∧
    (fget (at0 (changeDev [])).dev (RF.PWR_ISLAND_STATE 0) = 0) :=
  ⟨by decide +kernel, by decide +kernel⟩

theorem wit_PowerAndThermal_recover :
    (0 < 44) ∧
    (fget (at0 stretched).dev (RF.PWR_ISLAND_STRETCH 0) = 1) :=
  ⟨by decide +kernel, by decide +kernel⟩

theorem wit_PowerAndThermal_report :
    (0 < 44) ∧
    (fget (at0 (changeDev [])).dev (RF.PWR_ISLAND_STATE 0) ≠ 3) :=
  ⟨by decide +kernel, by decide +kernel⟩

def w1_PowerAndThermal_step : State := at0 (fset (changeDev []) (RF.THM_ISLAND_TEMP_C 0) 96)

theorem wit_PowerAndThermal_step :
    (0 < 44) ∧
    (fget w1_PowerAndThermal_step.dev (RF.PWR_ISLAND_STATE 0) ≠ 3) :=
  ⟨by decide +kernel, by decide +kernel⟩

theorem wit_PowerAndThermal_gate :
    (0 < 44) ∧
    (0 < islandCount (at0 stretched).dev) ∧
    (fget (at0 stretched).dev (RF.PWR_ISLAND_STATE 0) = 0) ∧
    (islandIdle (at0 stretched).dev 0 = true) :=
  ⟨by decide +kernel, by decide +kernel, by decide +kernel, by decide +kernel⟩

theorem wit_PowerAndThermal_off :
    (0 < 44) ∧
    (0 < islandCount (at0 (gatedDev [])).dev) ∧
    (fget (at0 (gatedDev [])).dev (RF.PWR_ISLAND_STATE 0) = 1) ∧
    (fget (at0 (gatedDev [])).dev RF.PWR_IDLE_POLICY_OFF_US ≠ 0) ∧
    (islandIdle (at0 (gatedDev [])).dev 0 = true) :=
  ⟨by decide +kernel, by decide +kernel, by decide +kernel, by decide +kernel, by decide +kernel⟩

theorem wit_PowerAndThermal_wake :
    (0 < 44) ∧
    (0 ∈ (at0 (gatedDev [0])).dev.power.wake) ∧
    (fget (at0 (gatedDev [0])).dev (RF.PWR_ISLAND_STATE 0) = 1 ∨ fget (at0 (gatedDev [0])).dev (RF.PWR_ISLAND_STATE 0) = 2) ∧
    (fget (at0 (gatedDev [0])).dev RF.BRG_ERR_STATUS_FATAL = 0) :=
  ⟨by decide +kernel, by decide +kernel, by decide +kernel, by decide +kernel⟩

theorem wit_PowerAndThermal_sample :
    (5000 < 65536) ∧
    (7000 < 65536) :=
  ⟨by decide +kernel, by decide +kernel⟩

def w1_PowerAndThermal_loop : Nat := (lowestCap sampledDev).fst

def w2_PowerAndThermal_loop : Nat := (lowestCap sampledDev).snd

theorem wit_PowerAndThermal_loop :
    (10 ≤ (at0 sampledDev).dev.power.samples.length) ∧
    (fget (at0 sampledDev).dev RF.BRG_ERR_STATUS_FATAL = 0) ∧
    (250000000 = List.foldl (fun x1 x2 => x1 + x2) 0 (at0 sampledDev).dev.power.samples) ∧
    (lowestCap (at0 sampledDev).dev = (w1_PowerAndThermal_loop, w2_PowerAndThermal_loop)) ∧
    ((at0 sampledDev).dev.power.source = w1_PowerAndThermal_loop) ∧
    (fget sampledDev (capF 1) = fget (at0 sampledDev).dev (capF w1_PowerAndThermal_loop)) ∧
    (fget sampledDev (capL 1) = fget (at0 sampledDev).dev (capL w1_PowerAndThermal_loop)) :=
  ⟨by decide +kernel, by decide +kernel, by decide +kernel, by decide +kernel, by decide +kernel, by decide +kernel, by decide +kernel⟩

theorem wit_PowerAndThermal_limit :
    (Admits (at0 limitDev).dev 176 (cmdAt 0 1) (runsAs 176 limitDev)) ∧
    (1024 = eb (runsAs 176 limitDev).e 16 2) ∧
    (1024 = 0 ∨ 600 ≤ 1024) ∧
    (1024 ≤ 3600) :=
  ⟨admits_of (by decide +kernel), by decide +kernel, by decide +kernel, by decide +kernel⟩

theorem wit_PowerAndThermal_relock :
    (2 ≤ 3) :=
  by decide +kernel

def w1_PowerAndThermal_unlock : State := at0  (let __src := module0;  { regs := __src.regs, iregs := __src.iregs, free := __src.free, time := __src.time, cores := __src.cores, disp := __src.disp, net := __src.net, nextReq := __src.nextReq, shore := __src.shore, mem := __src.mem, dram := __src.dram, xl := __src.xl, ins := __src.ins, fe := __src.fe, fab := __src.fab, mesh := __src.mesh, flash := __src.flash, trust := __src.trust, start := __src.start, host := __src.host, out := __src.out, log := __src.log,   power :=    let __src := module0.power;    { applies := __src.applies, told := __src.told, wake := __src.wake, samples := __src.samples, calm := __src.calm, source := __src.source, warning := __src.warning, changing := __src.changing, deferred := __src.deferred, unlocks := [(2, 5)] : Power },   traces := __src.traces, traceQ := __src.traceQ, blocked := __src.blocked : Dev })

theorem wit_PowerAndThermal_unlock :
    (2 ≤ 3) ∧
    (fget   (at0     (let __src := module0;     { regs := __src.regs, iregs := __src.iregs, free := __src.free, time := __src.time, cores := __src.cores, disp := __src.disp, net := __src.net, nextReq := __src.nextReq, shore := __src.shore, mem := __src.mem, dram := __src.dram, xl := __src.xl, ins := __src.ins, fe := __src.fe, fab := __src.fab, mesh := __src.mesh, flash := __src.flash, trust := __src.trust, start := __src.start, host := __src.host, out := __src.out, log := __src.log,      power :=       let __src := module0.power;       { applies := __src.applies, told := __src.told, wake := __src.wake, samples := __src.samples, calm := __src.calm, source := __src.source, warning := __src.warning, changing := __src.changing, deferred := __src.deferred, unlocks := [(2, 5)] : Power },      traces := __src.traces, traceQ := __src.traceQ, blocked := __src.blocked : Dev })).dev
        RF.BRG_ERR_STATUS_FATAL =  0) :=
  ⟨by decide +kernel, by decide +kernel⟩

end Sys2Proof.Tests
end

