-- ==== Sys2Proof/Tests/WitStart.lean ====
section
/-!
SUPPORT. Premises of the statements about faults of the module and its start, met together by concrete states: one theorem for each clause.
-/
namespace Sys2Proof.Tests
open Sys2Proof Sys2Proof.Machine
set_option Elab.async false

/-- The pairs of both edge dies run. -/
def pairsDev (own other : Nat) : Dev := fset (fset module0 (RF.BRG_EDGE_STATUS_CTL_PAIR0_OK 0) own) (RF.BRG_EDGE_STATUS_CTL_PAIR1_OK 0) other
def drbgDev : Dev := fset module0 RF.SEC_STATUS_DRBG_OK 1

/-- A core at work in island 0, and its temperature. -/
def islandDev (temp : Nat) : Dev :=
  let d := fset (fset ready0 (RF.THM_ISLAND_TEMP_C 0) temp) (RF.BRG_SITE_STATUS_LOGICAL 7) 0
  regWrite (fset d (RF.BRG_SITE_STATUS_STATE 7) 0) Reg.BRG_ENABLE_MAP (2 ^ 7)

/-- A start at a stage, with the reference, its coolant and both domains of power. -/
def stageAt (n : Nat) : Dev := fset (fset (fset idle0 RF.BRG_START_STATUS_STAGE n) RF.CLK_STATUS_REF_OK 1) RF.PWR_STATUS_COOLANT_OK_A 1
def stage1 (slots : Tbl FwImage) : Dev := let d := stageAt 1; { d with flash := { d.flash with slots := slots } }
def good3 : FwImage := ⟨List.replicate 64 5, 3, 0x10002, true⟩
def passOf (d : Dev) (chains : Bool) (slot : Nat) (i : FwImage) : Prop := tget d.flash.slots slot = some i ∧ imagePasses d i = true ∧ chains = true
def held0 : Dev := fset (stageAt 7) RF.BRG_START_STATUS_HELD 1
def heldStart (d : Dev) : Dev := { d with start := { d.start with hold := true } }
def caused (d : Dev) (n : Nat) : Dev := { d with start := { d.start with cause := n } }
def results3 (n : Nat) : List (Nat × Nat) := (List.range n).map (fun i => (i % 9, i % 4))
def stage8 : Dev := { (fset (stageAt 8) RF.BRG_PKG_LEVEL_ENABLED_COUNT 44) with dram := { module0.dram with poison := [5] } }
def resultsNone : List (Nat × Nat) := []
def noStraits : Dev := (List.range 110).foldl (fun d k => fset d (RF.STR_STRAIT_STATUS_STATE k) 3) (stageAt 4)

theorem wit_StartStages_verify : (passOf (stage1 [(0, good3)]) true = fun slot i => tget (stage1 [(0, good3)]).flash.slots slot = some i
      ∧ imagePasses (stage1 [(0, good3)]) i = true ∧ true = true) ∧ atStage (stage1 [(0, good3)]) 1 = true
    ∧ passOf (stage1 [(0, good3)]) true 0 good3 ∧ (stage1 [(0, good3)]).flash.active = 0 :=
  ⟨rfl, by decide +kernel, ⟨by decide +kernel, by decide +kernel, rfl⟩, by decide +kernel⟩

theorem wit_StartStages_verify_none : atStage (stage1 []) 1 = true
    ∧ ∀ slot i, slot = (stage1 []).flash.active ∨ slot = 1 - (stage1 []).flash.active → ¬passOf (stage1 []) true slot i :=
  ⟨by decide +kernel, fun _ _ _ h => absurd h.1 (by simp [stage1, tget])⟩

theorem wit_StartStages_sites : atStage (stageAt 3) 3 = true ∧ (siteRec (stageAt 3) 30).state ≠ 2 ∧ (results3 48)[30]? = some (3, 2)
    ∧ (siteRec (stageAt 3) 19).state = 2 ∧ (siteRec (stageAt 3) 47).state = 0 :=
  ⟨by decide +kernel, by decide +kernel, by decide +kernel, by decide +kernel, by decide +kernel⟩

theorem wit_FaultsOfTheModule_ref :
    (fget (at0 module0).dev RF.BRG_ERR_STATUS_FATAL = 0) ∧
    (fget (at0 module0).dev RF.BRG_START_STATUS_STAGE ≠ 0) :=
  ⟨by decide +kernel, by decide +kernel⟩

theorem wit_FaultsOfTheModule_excursion :
    (fget (at0 module0).dev RF.BRG_ERR_STATUS_FATAL = 0) ∧
    ((at0 module0).dev.start.primary = true ∨ (at0 module0).dev.start.secondary = true) ∧
    (fget (at0 module0).dev RF.BRG_START_STATUS_STAGE = 9) :=
  ⟨by decide +kernel, by decide +kernel, by decide +kernel⟩

theorem wit_FaultsOfTheModule_drbg :
    (fget (at0 drbgDev).dev RF.BRG_ERR_STATUS_FATAL = 0) ∧
    (fget (at0 drbgDev).dev RF.SEC_STATUS_DRBG_OK = 1) :=
  ⟨by decide +kernel, by decide +kernel⟩

theorem wit_FaultsOfTheModule_primary :
    (fget (at0 module0).dev RF.BRG_ERR_STATUS_FATAL = 0) ∧
    ((at0 module0).dev.start.primary = true) :=
  ⟨by decide +kernel, by decide +kernel⟩

theorem wit_FaultsOfTheModule_ref_early :
    (fget (at0 (stageAt 0)).dev RF.BRG_START_STATUS_STAGE = 0) :=
  by decide +kernel

def w1_FaultsOfTheModule_pair : Fld := RF.BRG_EDGE_STATUS_CTL_PAIR0_OK 0

def w2_FaultsOfTheModule_pair : Fld := RF.BRG_EDGE_STATUS_CTL_PAIR1_OK 0

theorem wit_FaultsOfTheModule_pair :
    (0 ≤ 1) ∧
    (0 = 0 ∧ w1_FaultsOfTheModule_pair = w1_FaultsOfTheModule_pair ∧ w2_FaultsOfTheModule_pair = w2_FaultsOfTheModule_pair ∨ 0 = 1 ∧
      w1_FaultsOfTheModule_pair = w2_FaultsOfTheModule_pair ∧ w2_FaultsOfTheModule_pair = w1_FaultsOfTheModule_pair) ∧
    (fget (at0 (pairsDev 1 1)).dev w1_FaultsOfTheModule_pair = 1) :=
  ⟨by decide +kernel, by decide +kernel, by decide +kernel⟩

theorem wit_FaultsOfTheModule_island :
    (0 < 44) ∧
    (inService (at0 (islandDev 116)).dev = true) ∧
    (Instr.islandOverheat 0 = Instr.islandLoss 0 false ∨ Instr.islandOverheat 0 = Instr.islandOverheat 0 ∧ 115 ≤ fget (at0 (islandDev 116)).dev
      (RF.THM_ISLAND_TEMP_C 0)) ∧
    (siteOf (at0 (islandDev 116)).dev 0 = some 7) ∧
    (fget (at0 (islandDev 116)).dev (RF.PWR_ISLAND_STATE 0) ≠ 3) :=
  ⟨by decide +kernel, by decide +kernel, Or.inr ⟨rfl, by decide +kernel⟩, by decide +kernel, by decide +kernel⟩

theorem wit_FaultsOfTheModule_power :
    (Instr.inputOvervoltage 7100 = Instr.inputOvervoltage 7100 ∧ 7000 < 7100 ∨ Instr.inputOvervoltage 7100 = Instr.inputUndervoltage ∨
      Instr.inputOvervoltage 7100 = Instr.psenseBreak) :=
  Or.inl ⟨rfl, by decide⟩

theorem wit_StartStages_power :
    (State.reset.dev.start.primary = false) ∧
    (State.reset.dev.start.secondary = false) :=
  ⟨by decide +kernel, by decide +kernel⟩

def w1_StartStages_reset : State := at0 (fset idle0 RF.BRG_ERR_STATUS_FATAL 1)

theorem wit_StartStages_reset :
    (fget w1_StartStages_reset.dev RF.BRG_ERR_STATUS_FATAL = 1) :=
  by decide +kernel

theorem wit_StartStages_excursion :
    ((at0 (stageAt 5)).dev.start.primary = true ∨ (at0 (stageAt 5)).dev.start.secondary = true) ∧
    (fget (at0 (stageAt 5)).dev RF.BRG_ERR_STATUS_FATAL = 0) ∧
    (fget (at0 (stageAt 5)).dev RF.BRG_START_STATUS_STAGE ≠ 9) :=
  ⟨by decide +kernel, by decide +kernel, by decide +kernel⟩

theorem wit_StartStages_module :
    (busOn (at0 idle0).dev (0 % 2) = true) ∧
    (0 = if true = false ∧ startOpen (at0 idle0).dev = false then eAuth else if 1 < 1 then eArg else if fget (at0 idle0).dev
      RF.BRG_START_STATUS_STAGE < 7 ∧ startOpen (at0 idle0).dev = false then eBusy else 0) :=
  ⟨by decide +kernel, by decide +kernel⟩

theorem wit_StartStages_wait :
    (atStage (at0 (stageAt 0)).dev 0 = true) :=
  by decide +kernel

theorem wit_StartStages_edges :
    (atStage (at0 (stageAt 2)).dev 2 = true) ∧
    (2 = b2n (bitOf 15 0) + b2n (bitOf 15 1)) ∧
    (2 = b2n (bitOf 15 2) + b2n (bitOf 15 3)) :=
  ⟨by decide +kernel, by decide +kernel, by decide +kernel⟩

theorem wit_StartStages_lanes :
    (atStage (at0 (stageAt 4)).dev 4 = true) :=
  by decide +kernel

theorem wit_StartStages_channels :
    (atStage (at0 (stageAt 5)).dev 5 = true) ∧
    ((at0 (stageAt 5)).dev.start.cause < 256) :=
  ⟨by decide +kernel, by decide +kernel⟩

theorem wit_StartStages_zero :
    (atStage (at0 stage8).dev 8 = true) ∧
    (fget (at0 stage8).dev RF.BRG_PKG_LEVEL_ENABLED_COUNT ≤ 44) :=
  ⟨by decide +kernel, by decide +kernel⟩

end Sys2Proof.Tests
end

section
/-!
SUPPORT. Group-local instructions that complete: the state they end in, and what a destination and a predicate hold then.
-/
namespace Sys2Proof.Machine

/-- A row whose instruction is group-local, ready, with lanes to run in and no fault, ends in the completed state. -/
theorem perform_runLocal {s : State} {i : Issue} {op : Nat} {e : Env} {g : Group} {always : Bool}
    {f : VCtx → Word64 → Word64 → Group → LaneMask → GRes} (ready : Ready s.dev i op e) (assigned : opAssigned op = true) (lanes : e.part ≠ 0)
    (result : f (tells s.dev e) e.w e.second e.g e.part = .ok g) :
    perform s (fun d => issue op always i d (runLocal f)) = .next { s with dev := finish (complete s.dev e g) } := by
  rw [perform_eq, issue_runLocal always f ready assigned lanes result]

/-- The group that a ready instruction belongs to runs the environment's path. -/
theorem Ready.run_eq {s : Dev} {i : Issue} {op : Nat} {e : Env} (h : Ready s i op e) : e.g.run = some e.path := by
  obtain ⟨env, -⟩ := h
  obtain ⟨-, -, -, -, -, -, run, -⟩ := envOf_fields env
  exact run

/-- Writing a destination leaves the sticky flags. -/
@[simp] theorem writeDst_flags (g : Group) (dsel : Bool) (dst k : Nat) (vals : List (Nat × Nat)) : (writeDst g dsel dst k vals).flags = g.flags := by
  unfold writeDst
  split
  · split
    · rfl
    · rw [writeU_eq]
  · rw [writeLanes_eq]

/-- Writing a predicate changes nothing else of the group. -/
theorem writePred_eq (g : Group) (p : Nat) (lanes vals : LaneMask) :
    writePred g p lanes vals = { g with pr := (writePred g p lanes vals).pr } := by
  unfold writePred
  split <;> rfl

/-- Writing a predicate leaves every other predicate. -/
theorem predMask_writePred_other (g : Group) (p q : Nat) (lanes vals : LaneMask) (h : q ≠ p) :
    predMask (writePred g p lanes vals) q = predMask g q := by
  unfold writePred
  split
  · rfl
  · unfold predMask
    rw [tgetD_tset_other _ _ _ _ _ h]

/-- A predicate written in the lanes of a mask: P7 keeps reading true, and lanes outside the mask keep their bits (R90). -/
theorem testBit_predMask_writePred (g : Group) (p : Nat) (lanes vals : LaneMask) (l : Nat) :
    (predMask (writePred g p lanes vals) p).toNat.testBit l
      = if p ≠ 7 ∧ lanes.toNat.testBit l = true then vals.toNat.testBit l else (predMask g p).toNat.testBit l := by
  by_cases p7 : p = 7
  · simp [writePred, p7]
  · have written : predMask (writePred g p lanes vals) p = (predMask g p &&& ~~~lanes) ||| (vals &&& lanes) := by
      simp [writePred, predMask, p7]
    simp only [written, BitVec.testBit_toNat, BitVec.getLsbD_or, BitVec.getLsbD_and, BitVec.getLsbD_not]
    by_cases inside : l < 32
    · cases lanes.getLsbD l <;> simp [p7, inside]
    · simp [BitVec.getLsbD_of_ge _ _ (Nat.le_of_not_lt inside)]

/-- An instruction that writes a predicate leaves the sticky flags. -/
theorem PredGets.flags_eq {s t : State} {e : Env} {v : Nat → Bool} (h : PredGets s t e v) : (groupIn t.dev e).flags = e.g.flags := by
  obtain ⟨-, -, -, -, -, flags, -⟩ := h
  exact flags

/-- What writing a predicate leaves (R59, R90). -/
theorem predGets_of_complete (s : State) (e : Env) (vals : LaneMask) (v : Nat → Bool) (run : e.g.run = some e.path)
    (agree : ∀ l, e.part.toNat.testBit l = true → vals.toNat.testBit l = v l) :
    PredGets s { s with dev := finish (complete s.dev e (writePred e.g (wDst e.w) e.part vals)) } e v := by
  have keep := writePred_eq e.g (wDst e.w) e.part vals
  have mask : ∀ p, predMask (advancePc (writePred e.g (wDst e.w) e.part vals) (wLen e.w)) p
      = predMask (writePred e.g (wDst e.w) e.part vals) p := fun _ => rfl
  refine ⟨complete_onlyGroup s e _, ?_⟩
  rw [withDev_dev, groupIn_complete]
  refine ⟨?_, ?_, ?_, ?_, ?_, ?_, ?_⟩
  · unfold movedOn
    rw [advancePc_run, keep, run]
    rfl
  · rw [keep]
    exact ⟨rfl, rfl, rfl, rfl, rfl, rfl, rfl⟩
  · rw [keep, advancePc_gr]
  · rw [keep, advancePc_ur]
  · rw [keep, advancePc_flags]
  · intro p other
    rw [mask, predMask_writePred_other _ _ _ _ _ other]
  · intro l
    rw [mask, testBit_predMask_writePred]
    split
    · rename_i written
      exact agree l written.2
    · rfl

end Sys2Proof.Machine
end

section
/-!
SUPPORT. Lane masks as sets of lanes: none, all of another mask, and the mask as a number.
-/
namespace Sys2Proof.Machine

/-- Lanes number 0 to 31. -/
theorem lt_of_testBit_lane {m : LaneMask} {l : Nat} (h : m.toNat.testBit l = true) : l < 32 := by
  rw [BitVec.testBit_toNat] at h
  exact BitVec.lt_of_getLsbD h

/-- The mask of all lanes or of none, read in a lane of some mask. -/
theorem testBit_allLanes_or_none (b : Bool) {m : LaneMask} {l : Nat} (h : m.toNat.testBit l = true) :
    (if b then (0xFFFFFFFF : LaneMask) else 0).toNat.testBit l = b := by
  have all : (0xFFFFFFFF : LaneMask) = BitVec.allOnes 32 := rfl
  cases b
  · simp
  · rw [if_pos rfl, all, BitVec.testBit_toNat, BitVec.getLsbD_allOnes, decide_eq_true (lt_of_testBit_lane h)]

/-- A mask is not empty exactly where some lane is in it. -/
theorem bne_zero_eq_any (m : LaneMask) : (m != 0) = (List.range 32).any (fun j => m.toNat.testBit j) := by
  rw [Bool.eq_iff_iff, bne_iff_ne, List.any_eq_true, ne_eq, BitVec.eq_of_getLsbD_eq_iff]
  simp only [BitVec.testBit_toNat, List.mem_range]
  simp

/-- A mask is the whole of another exactly where every lane of that one is in it, and no other lane is. -/
theorem beq_eq_all {m part : LaneMask} (within : ∀ j, m.toNat.testBit j = true → part.toNat.testBit j = true) :
    (m == part) = (List.range 32).all (fun j => !part.toNat.testBit j || m.toNat.testBit j) := by
  rw [Bool.eq_iff_iff, beq_iff_eq, List.all_eq_true]
  constructor
  · rintro rfl j -
    exact Bool.not_or_self _
  · intro covers
    apply BitVec.eq_of_getLsbD_eq
    intro j inside
    have cover := covers j (List.mem_range.mpr inside)
    have sub := within j
    simp only [BitVec.testBit_toNat] at cover sub
    exact Bool.eq_iff_iff.mpr ⟨sub, fun inPart => by simpa [inPart] using cover⟩

/-- The low bits of a number, added up. -/
theorem foldl_testBit_eq_mod (x n : Nat) :
    (List.range n).foldl (fun m j => m + if x.testBit j then 2 ^ j else 0) 0 = x % 2 ^ n := by
  induction n with
  | zero => simp [Nat.mod_one]
  | succ n ih =>
    rw [List.range_succ, List.foldl_append, ih, Nat.pow_succ, Nat.mod_mul, ← Nat.toNat_testBit, List.foldl_cons, List.foldl_nil]
    cases x.testBit n <;> simp

/-- A lane mask is the sum of its lanes' bits. -/
theorem foldl_testBit_toNat (m : LaneMask) :
    (List.range 32).foldl (fun n j => n + if m.toNat.testBit j then 2 ^ j else 0) 0 = m.toNat := by
  rw [foldl_testBit_eq_mod, Nat.mod_eq_of_lt m.isLt]

end Sys2Proof.Machine
end

section
/-!
Lane exchange (R73, R110).
-/
namespace Sys2Proof.Machine

/-- The lane that LXCH names for a lane with operand `b`, which may lie outside 0 to 31 (R73). -/
def lxchLane (mode lane b : Nat) : Int :=
  match mode with
  | 0 => (b % 64 : Nat)
  | 1 => (lane : Int) - (b % 64 : Nat)
  | 2 => (lane : Int) + (b % 64 : Nat)
  | _ => (lane ^^^ (b % 32) : Nat)

/-- Registers of the value that LXCH moves (R110). -/
def lxchRegs (w : Word64) : Nat := if bitOf w.toNat 22 then 2 else 1

/-- The value that LXCH gives a lane: 0 where the lane named lies outside 0 to 31 or does not participate (R72, R73). -/
def lxchValue (w second : Word64) (g : Group) (part : LaneMask) (l : Nat) : Nat :=
  let j := lxchLane (wMod w 23 2) l (srcB g w second l 1)
  if 0 ≤ j ∧ j ≤ 31 ∧ part.toNat.testBit j.toNat = true then srcA g w j.toNat (lxchRegs w) else 0

/-- The model's source lane is the lane named, where that is one of the 32. -/
theorem lxchSrc_eq {mode lane b : Nat} (h : lane < 32) :
    lxchSrc mode lane b = if 0 ≤ lxchLane mode lane b ∧ lxchLane mode lane b ≤ 31 then some (lxchLane mode lane b).toNat else none := by
  match mode with
  | 0 => exact if_congr (by simp only [lxchLane]; omega) rfl rfl
  | 1 => exact if_congr (by simp only [lxchLane]; omega) (congrArg some (by simp only [lxchLane]; omega)) rfl
  | 2 => exact if_congr (by simp only [lxchLane]; omega) (congrArg some (by simp only [lxchLane]; omega)) rfl
  | _ + 3 =>
    have bound : lane ^^^ (b % 32) < 2 ^ 5 := Nat.xor_lt_two_pow h (Nat.mod_lt _ (by decide))
    simp only [lxchSrc, lxchLane]
    rw [if_pos (by omega), Int.toNat_natCast]

/-- LXCH whose checks pass writes the value of the lane named in each participating lane. -/
theorem lxchGroup_eq {v : VCtx} {w second : Word64} (g : Group) (part : LaneMask) (ok : ckCode (lxchCk w second v.regs) = 0) :
    lxchGroup v w second g part
      = .ok (writeDst g false (wDst w) (lxchRegs w) ((lanesOf part).map (fun l => (l, lxchValue w second g part l)))) := by
  unfold lxchGroup
  rw [checked_ok _ ok]
  unfold writeDst lxchRegs
  simp only [Bool.false_eq_true, if_false]
  congr 2
  apply List.map_congr_left
  intro l inPart
  rw [lxchSrc_eq (lt_of_testBit_lane ((mem_lanesOf _ _).mp inPart))]
  unfold lxchValue lxchRegs
  by_cases named : 0 ≤ lxchLane (wMod w 23 2) l (srcB g w second l 1) ∧ lxchLane (wMod w 23 2) l (srcB g w second l 1) ≤ 31
  · simp [named]
  · simp only [if_neg named]
    rw [if_neg (fun source => named ⟨source.1, source.2.1⟩)]

/-- The destination of LXCH lies within a lane's registers where its checks pass. -/
theorem lxchCk_fits {w second : Word64} {regs : Nat} (ok : ckCode (lxchCk w second regs) = 0) : wDst w + lxchRegs w ≤ 256 := by
  obtain ⟨-, dst⟩ := ckCode_ckAll ok (gCk (wDst w) (lxchRegs w) regs) (by simp [lxchRegs])
  refine gCk_fits dst (wDst_lt w) ?_
  unfold lxchRegs
  split <;> simp

end Sys2Proof.Machine
end

section
/-!
Votes (R73, R111).
-/
namespace Sys2Proof.Machine

/-- A lane votes where it participates and its predicate operand holds (R73). -/
theorem testBit_tallyMask (w : Word64) (g : Group) (part : LaneMask) (j : Nat) :
    (tallyMask w g part).toNat.testBit j
      = (part.toNat.testBit j && ((predMask g (wMod w 20 3)).toNat.testBit j != bitOf w.toNat 19)) := by
  unfold tallyMask
  simp only [BitVec.testBit_toNat]
  by_cases inside : j < 32
  · cases bitOf w.toNat 19 <;> simp [inside]
  · simp [BitVec.getLsbD_of_ge _ _ (Nat.le_of_not_lt inside)]

/-- TALLY.MASK whose checks pass writes the mask of the lanes that vote. -/
theorem tallyGroup_mask {v : VCtx} {w : Word64} (second : Word64) (g : Group) (part : LaneMask) (ok : ckCode (tallyCk w v.regs) = 0)
    (mode : wMod w 23 2 = 2) :
    tallyGroup v w second g part
      = .ok (writeDst g (bitOf w.toNat 18) (wDst w) 1 ((lanesOf part).map (fun l => (l, (tallyMask w g part).toNat)))) := by
  unfold tallyGroup
  rw [checked_ok _ ok]
  simp only [mode, if_true]

/-- The outcome of TALLY.ANY and TALLY.ALL (R73). -/
def tallyVote (w : Word64) (g : Group) (part : LaneMask) : Bool :=
  if wMod w 23 2 = 0 then tallyMask w g part != 0 else tallyMask w g part == part

/-- TALLY.ANY and TALLY.ALL whose checks pass write one outcome to a predicate. -/
theorem tallyGroup_vote {v : VCtx} {w : Word64} (second : Word64) (g : Group) (part : LaneMask) (ok : ckCode (tallyCk w v.regs) = 0)
    (mode : wMod w 23 2 ≠ 2) :
    tallyGroup v w second g part = .ok (writePred g (wDst w) part (if tallyVote w g part then 0xFFFFFFFF else 0)) := by
  unfold tallyGroup
  rw [checked_ok _ ok]
  simp only [mode, if_false]
  rfl

/-- TALLY.ANY holds where some lane votes. -/
theorem tallyVote_any {w : Word64} (g : Group) (part : LaneMask) (mode : wMod w 23 2 = 0) :
    tallyVote w g part = (List.range 32).any (fun j => (tallyMask w g part).toNat.testBit j) := by
  rw [tallyVote, if_pos mode, bne_zero_eq_any]

/-- TALLY.ALL holds where every participating lane votes. -/
theorem tallyVote_all {w : Word64} (g : Group) (part : LaneMask) (mode : wMod w 23 2 = 1) :
    tallyVote w g part = (List.range 32).all (fun j => !part.toNat.testBit j || (tallyMask w g part).toNat.testBit j) := by
  rw [tallyVote, if_neg (by omega), beq_eq_all]
  intro j votes
  rw [testBit_tallyMask, Bool.and_eq_true] at votes
  exact votes.1

end Sys2Proof.Machine
end

section
/-!
The obligation on lane exchange and votes.
-/
namespace Sys2Proof.Machine

/-- LXCH completes with the value of the lane named. -/
theorem exec_lxch {s : State} {i : Issue} {e : Env} (ready : Ready s.dev i 0x40 e) (lanes : e.part ≠ 0)
    (ok : ckCode (lxchCk e.w e.second e.d.shape.regs) = 0) :
    ∃ t, exec (.lxch i) s = .next t ∧ (groupIn t.dev e).flags = e.g.flags
      ∧ DstGets s t e false (lxchRegs e.w) (lxchValue e.w e.second e.g e.part) := by
  refine ⟨_, perform_runLocal ready rfl lanes (lxchGroup_eq e.g e.part ok), ?_, ?_⟩
  · simp [groupIn_complete]
  · exact dstGets_of_complete s e _ false _ _ ready.run_eq (fun _ => lxchCk_fits ok) rfl

/-- TALLY.MASK completes with the mask of the lanes that vote. -/
theorem exec_tally_mask {s : State} {i : Issue} {e : Env} (ready : Ready s.dev i 0x41 e) (lanes : e.part ≠ 0)
    (ok : ckCode (tallyCk e.w e.d.shape.regs) = 0) (mode : wMod e.w 23 2 = 2) :
    ∃ t, exec (.tally i) s = .next t ∧ (groupIn t.dev e).flags = e.g.flags
      ∧ DstGets s t e (bitOf e.w.toNat 18) 1 (fun _ => (tallyMask e.w e.g e.part).toNat) := by
  refine ⟨_, perform_runLocal ready rfl lanes (tallyGroup_mask e.second e.g e.part ok mode), ?_, ?_⟩
  · simp [groupIn_complete]
  · exact dstGets_of_complete s e _ _ 1 _ ready.run_eq (fun _ => wDst_lt e.w) rfl

/-- TALLY.ANY and TALLY.ALL complete with one outcome in every participating lane. -/
theorem exec_tally_vote {s : State} {i : Issue} {e : Env} (ready : Ready s.dev i 0x41 e) (lanes : e.part ≠ 0)
    (ok : ckCode (tallyCk e.w e.d.shape.regs) = 0) (mode : wMod e.w 23 2 ≠ 2) :
    ∃ t, exec (.tally i) s = .next t ∧ (groupIn t.dev e).flags = e.g.flags ∧ PredGets s t e (fun _ => tallyVote e.w e.g e.part) := by
  have gets := predGets_of_complete s e _ _ ready.run_eq (fun _ => testBit_allLanes_or_none (tallyVote e.w e.g e.part))
  exact ⟨_, perform_runLocal ready rfl lanes (tallyGroup_vote e.second e.g e.part ok mode), gets.flags_eq, gets⟩

/-- Settles O8: LXCH by the lane that each mode names, TALLY by the mask of the lanes that vote. -/
theorem laneExchangeAndVotes : Obligations.LaneExchangeAndVotes := by
  unfold Obligations.LaneExchangeAndVotes
  intro s i e
  refine ⟨exec_lxch, ?_⟩
  intro ready lanes ok p
  have votes : p = (tallyMask e.w e.g e.part).toNat.testBit := funext fun j => (testBit_tallyMask e.w e.g e.part j).symm
  rw [votes, foldl_testBit_toNat]
  by_cases mode : wMod e.w 23 2 = 2
  · obtain ⟨t, ran, flags, gets⟩ := exec_tally_mask ready lanes ok mode
    exact ⟨t, ran, flags, fun any => by omega, fun all => by omega, fun _ => gets⟩
  · obtain ⟨t, ran, flags, gets⟩ := exec_tally_vote ready lanes ok mode
    refine ⟨t, ran, flags, ?_, ?_, fun isMask => absurd isMask mode⟩
    · intro any
      rwa [tallyVote_any e.g e.part any] at gets
    · intro all
      rwa [tallyVote_all e.g e.part all] at gets

end Sys2Proof.Machine
end

section
/-!
SUPPORT. Precise faults (R84): what a group holds that ended at its instruction, and what stays as it was.
-/
namespace Sys2Proof.Machine

/-- Mapping every value of a table maps each entry. -/
theorem tget_tmap {V W : Type} (t : List (Nat × V)) (f : Nat → V → W) (k : Nat) : tget (tmap t f) k = (tget t k).map (f k) := by
  induction t with
  | nil => rfl
  | cons p t ih =>
    obtain ⟨j, v⟩ := p
    unfold tmap at ih ⊢
    rw [List.map_cons]
    unfold tget
    by_cases here : j = k
    · simp [here]
    · simp [here, ih]

/-! ### Ended groups -/

/-- Releasing a set changes no group. -/
@[simp] theorem releaseSet_groups (c : Core) (set : Nat) : (releaseSet c set).groups = c.groups := by
  unfold releaseSet
  split <;> rfl

/-- A barrier that completes leaves a group that has ended. -/
theorem completeBarrier_keeps_done {c : Core} {n : Nat} {g : Group} (here : tget c.groups n = some g) (done : g.done = true) (set b : Nat) :
    tget (completeBarrier c set b).groups n = some g := by
  unfold completeBarrier
  split
  · rw [tget_tmap, here]
    simp [done]
  · exact here

/-- What follows a group's end leaves a group that has ended. -/
theorem afterGroupEnd_keeps_done {c : Core} {n : Nat} {g : Group} (here : tget c.groups n = some g) (done : g.done = true) (set : Nat) :
    tget (afterGroupEnd c set).groups n = some g := by
  unfold afterGroupEnd
  rw [releaseSet_groups]
  refine List.foldlRecOn (motive := fun c : Core => tget c.groups n = some g) _ _ here ?_
  intro c here b _
  split
  · exact completeBarrier_keeps_done here done set b
  · exact here

/-- A group that its core ends has no path, and is charged with the errors that no wait delivered. -/
theorem tget_endGroup (c : Core) (n : Nat) (g : Group) :
    tget (endGroup c n g).groups n
      = some (endedGroup { g with charges := g.charges ++ undelivered c.tokens n ++ undelivered c.handles n }) :=
  afterGroupEnd_keeps_done (tget_tset_same _ _ _) rfl _

/-! ### Traces -/

/-- The module is as before, but for its traces. -/
def SameButTraces (s t : Dev) : Prop := t = { s with traces := t.traces, traceQ := t.traceQ }

/-- Forming a record changes the traces only. -/
theorem SameButTraces.traceAdd {s t : Dev} (h : SameButTraces s t) (n rec : Nat) : SameButTraces s (traceAdd t n rec) := by
  unfold SameButTraces at *
  unfold Machine.traceAdd
  rw [h]
  split
  · split
    · rfl
    · split <;> rfl
  · rfl

/-- An event on a core changes the traces only. -/
theorem traceCore_sameButTraces (s : Dev) (event bit core addr group code id : Nat) :
    SameButTraces s (traceCore s event bit core addr group code id) := by
  unfold traceCore
  refine List.foldlRecOn (motive := SameButTraces s) _ _ rfl ?_
  intro t same n _
  split
  · split
    · exact same.traceAdd _ _
    · exact same
  · exact same

@[simp] theorem traceCore_cores (s : Dev) (event bit core addr group code id : Nat) :
    (traceCore s event bit core addr group code id).cores = s.cores := by
  rw [traceCore_sameButTraces s event bit core addr group code id]

@[simp] theorem traceCore_dram (s : Dev) (event bit core addr group code id : Nat) :
    (traceCore s event bit core addr group code id).dram = s.dram := by
  rw [traceCore_sameButTraces s event bit core addr group code id]

/-! ### The fault -/

/-- A core is as before where the table of cores is. -/
theorem coreOf_congr {s t : Dev} (same : t.cores = s.cores) (c : Nat) : coreOf t c = coreOf s c := by
  rw [coreOf, same, coreOf]

/-- Closing a command changes no core. -/
@[simp] theorem coreOf_finish (s : Dev) (c : Nat) : coreOf (finish s) c = coreOf s c := coreOf_congr (finish_cores s) c

/-- A precise fault changes nothing in memory. -/
@[simp] theorem preciseFault_dram (s : Dev) (e : Env) (code : Nat) : (preciseFault s e code).dram = s.dram := by
  unfold preciseFault
  rw [modCore_dram, traceCore_dram]
  split <;> rfl

/-- A precise fault ends the group on its core, charged at the instruction. -/
theorem coreOf_preciseFault (s : Dev) (e : Env) (code : Nat) :
    coreOf (preciseFault s e code) e.core
      = endGroup { coreOf s e.core with seq := (coreOf s e.core).seq + 1 } e.gno (charge e.g code e.path.pc (coreOf s e.core).seq) := by
  unfold preciseFault
  rw [coreOf_modCore_same, coreOf_congr (s := s)]
  rw [traceCore_cores]
  split <;> rfl

/-- The group after a precise fault: ended, charged with the code at the instruction, and then with the errors that no wait delivered. -/
theorem groupIn_preciseFault {s : Dev} {i : Issue} {e : Env} (env : envOf s i = some e) (code : Nat) :
    groupIn (finish (preciseFault s e code)) e
      = endedGroup
          { e.g with charges := e.g.charges ++ [⟨code, e.path.pc, e.c.seq⟩] ++ undelivered e.c.tokens e.gno ++ undelivered e.c.handles e.gno } := by
  obtain ⟨core, -, -, -, own, -, -, -⟩ := envOf_fields env
  unfold groupIn tgetD
  rw [coreOf_finish, coreOf_preciseFault, tget_endGroup, own, ← core]
  rfl

/-- Closing a command leaves memory as the command left it. -/
theorem sameMem_finish {s t : Dev} (same : t.dram = s.dram) : SameMem s (finish t) := by
  refine ⟨?_, ?_, ?_, ?_⟩
  · intro a
    rw [dramByte_finish, same]
  all_goals
    rw [finish_dram, same]
    rfl

end Sys2Proof.Machine
end

section
/-!
The obligation on the major opcodes (R93).
-/
namespace Sys2Proof.Machine

/-- The assigned major opcodes, as ranges. -/
theorem opAssigned_iff (op : Nat) :
    opAssigned op = true ↔ op ≤ 0x13 ∨ 0x18 ≤ op ∧ op ≤ 0x25 ∨ op = 0x28 ∨ 0x30 ≤ op ∧ op ≤ 0x33 ∨ 0x38 ≤ op ∧ op ≤ 0x39
      ∨ 0x3C ≤ op ∧ op ≤ 0x3F ∨ 0x40 ≤ op ∧ op ≤ 0x41 ∨ 0x48 ≤ op ∧ op ≤ 0x50 ∨ 0x58 ≤ op ∧ op ≤ 0x5C ∨ 0x60 ≤ op ∧ op ≤ 0x62
      ∨ 0x68 ≤ op ∧ op ≤ 0x6C := by
  simp only [opAssigned, Bool.or_eq_true, Bool.and_eq_true, decide_eq_true_eq, beq_iff_eq]
  omega

/-- The rows that issue an instruction name each assigned opcode once, in order. -/
theorem issueRows_opcodes : issueRows.map (·.2) = (List.range 128).filter opAssigned := by decide

/-- The opcode of a row is an assigned one. -/
theorem opAssigned_of_row {mk : Issue → Instr} {op : Nat} (row : (mk, op) ∈ issueRows) : opAssigned op = true := by
  have named : op ∈ issueRows.map (·.2) := List.mem_map_of_mem row
  rw [issueRows_opcodes, List.mem_filter] at named
  exact named.2

/-- A row's command runs through `issue` with the row's opcode, where its word carries another. -/
def RunsIssue (mk : Issue → Instr) (op : Nat) : Prop :=
  ∀ (i : Issue) (s : State), wOp i.w ≠ op → ∃ always body, exec (mk i) s = perform s (fun d => issue op always i d body)

/-- A row whose meaning is an issue runs through it. -/
theorem runsIssue_of_issue {mk : Issue → Instr} {op : Nat} {always : Bool} {body : Issue → Env → Dev → Dev}
    (meaning : ∀ i s, exec (mk i) s = perform s (fun d => issue op always i d (body i))) : RunsIssue mk op :=
  fun i s _ => ⟨always, body i, meaning i s⟩

/-- A matrix row counts no rejection of a word that carries another opcode (R156), and runs through `issue` too. -/
theorem runsIssue_of_mxRun {mk : Issue → Instr} {op : Nat} (kind : MxKind)
    (meaning : ∀ i s, exec (mk i) s = perform s (fun d => mxRun op kind i d)) : RunsIssue mk op := by
  intro i s other
  refine ⟨false, mxIssue kind, ?_⟩
  rw [meaning]
  simp [mxRun, other]

/-- Every row that issues an instruction runs through `issue`: the three rows of matrix operations by way of `mxRun`, each other directly. -/
theorem runsIssue_of_row : ∀ row ∈ issueRows, RunsIssue row.1 row.2 := by
  have mxi : RunsIssue .mxi 0x58 := runsIssue_of_mxRun .mxi (fun _ _ => rfl)
  have mxz : RunsIssue .mxz 0x5B := runsIssue_of_mxRun .mxz (fun _ _ => rfl)
  have mxst : RunsIssue .mxst 0x5C := runsIssue_of_mxRun .mxst (fun _ _ => rfl)
  simp only [issueRows, List.forall_mem_append, List.forall_mem_cons, List.not_mem_nil, false_implies, implies_true, and_true, true_and, mxi, mxz,
    mxst]
  and_intros
  all_goals exact runsIssue_of_issue (fun _ _ => rfl)

/-- An instruction with an unassigned opcode, in which a lane participates, is rejected with E_RESERVED (R91, R93). -/
theorem issue_reserved {s : Dev} {i : Issue} {e : Env} (op : Nat) (always : Bool) (body : Env → Dev → Dev) (env : envOf s i = some e)
    (fetched : i.fetch = 0) (reserved : opAssigned (wOp i.w) = false) (lanes : e.part ≠ 0) :
    issue op always i s body = preciseFault s e eReserved := by
  unfold issue
  simp only [env, fetched, reserved, lanes, ne_eq, not_true_eq_false, if_false, Bool.not_false, if_true]

/-- A row's command whose word carries an unassigned opcode ends in the precise fault. -/
theorem exec_reserved {s : State} {i : Issue} {e : Env} {mk : Issue → Instr} {op : Nat} (row : (mk, op) ∈ issueRows)
    (env : envOf s.dev i = some e) (fetched : i.fetch = 0) (reserved : opAssigned (wOp i.w) = false) (lanes : e.part ≠ 0) :
    exec (mk i) s = .next { s with dev := finish (preciseFault s.dev e eReserved) } := by
  have other : wOp i.w ≠ op := by
    rintro rfl
    simp [opAssigned_of_row row] at reserved
  obtain ⟨always, body, meaning⟩ := runsIssue_of_row _ row i s other
  rw [meaning, perform_eq, issue_reserved op always body env fetched reserved lanes]

/-- Settles O33: the rows name the assigned opcodes, and any other ends the group in a precise fault with E_RESERVED. -/
theorem reservedOpcodes : Obligations.ReservedOpcodes := by
  unfold Obligations.ReservedOpcodes
  refine ⟨fun op _ => opAssigned_iff op, issueRows_opcodes, ?_⟩
  intro s i e mk op row env fetched reserved lanes
  refine ⟨_, exec_reserved row env fetched reserved lanes, sameMem_finish (preciseFault_dram _ _ _), ?_⟩
  rw [withDev_dev, groupIn_preciseFault env]
  refine ⟨rfl, ?_, rfl, rfl, rfl⟩
  simp [endedGroup, freshInstr]

end Sys2Proof.Machine
end

section
/-!
SUPPORT. Commands that the front end, the fabric manager or the sideband sends (R293, R431): an admitted one runs its own effect, and ends in its
completion.
-/
namespace Sys2Proof.Machine

/-! ### Running -/

/-- The row of an opcode carries it. -/
theorem specOf_op {op : Nat} {sp : CmdSpec} (row : specOf op = some sp) : sp.op = op :=
  eq_of_beq (List.find?_some (p := fun c : CmdSpec => c.op == op) row)

/-- What the store holds at a key is one of its commands, and has that key. -/
theorem storeAt_some {s : Dev} {key : Nat} {e : StoreEntry} (found : storeAt s key = some e) :
    e ∈ s.fe.store ∧ cmdKey e.inst e.ring e.pos = key := by
  unfold storeAt at found
  exact ⟨List.mem_of_find?_eq_some found, by simpa using List.find?_some found⟩

/-- An admitted command passes the checks of its head, and runs. -/
theorem command_of_admits {s : Dev} {op : Nat} {c : Cmd} {x : Ctx} {sp : CmdSpec} (row : specOf op = some sp) (admits : Admits s op c x)
    (f : Ctx → Dev → Dev × CmdRes) : command op c s f = runCmd s sp x f ∧ headCode s sp x = 0 ∧ ringCode s sp x = 0 := by
  obtain ⟨context, -, -, ⟨sp', row', head, ring⟩, served⟩ := admits
  obtain rfl : sp' = sp := Option.some.inj (row'.symm.trans row)
  refine ⟨?_, head, ring⟩
  unfold command
  simp only [row, context]
  unfold Served at served
  by_cases side : x.origin = 4
  · obtain ⟨bus, runs, normal, alone⟩ := by simpa only [side, if_true] using served
    have free : s.fe.store.any (fun e => e.inst == 33) = false := by simpa using alone
    simp [side, runSideband, bus, free, specOf_op row, runs, normal]
  · obtain ⟨ready, fresh⟩ := by simpa only [side, if_false] using served
    have unbegun : (storeAt s x.key).any (fun e => e.phase == 1) = false := by
      rw [Option.any_eq_false]
      intro e found
      obtain ⟨stored, key⟩ := storeAt_some found
      simpa using fresh e stored key
    simp [side, ready, unbegun]

/-- What blocks on no line stands as it is. -/
theorem whole_of_unblocked {s : Dev} {f : Dev → Dev} (free : (f s).blocked = []) : whole s f = f s := by
  simp [whole, free]

/-! ### Phases -/

section
variable {α : Type} (k : α → Nat) {g : α → α} (keeps : ∀ a, k (g a) = k a) (key : Nat) (l : List α)
include keeps

/-- A change of the elements of a key, which keeps their key, shows in what is found at that key. -/
theorem find?_map_atKey :
    (l.map (fun a => if k a = key then g a else a)).find? (fun a => k a == key) = (l.find? (fun a => k a == key)).map g := by
  induction l with
  | nil => rfl
  | cons a t ih => by_cases own : k a = key <;> simp [own, keeps, ih]

/-- A change of the elements of a key, which keeps their key, leaves the others. -/
theorem filter_map_atKey :
    (l.map (fun a => if k a = key then g a else a)).filter (fun a => k a != key) = l.filter (fun a => k a != key) := by
  induction l with
  | nil => rfl
  | cons a t ih => by_cases own : k a = key <;> simp [own, keeps, ih]

end

/-- The command of a key takes on the phase that it is given. -/
theorem storeAt_setPhase (s : Dev) (key ph : Nat) :
    storeAt (setPhase s key ph) key = (storeAt s key).map (fun e => { e with phase := ph }) :=
  find?_map_atKey (fun e : StoreEntry => cmdKey e.inst e.ring e.pos) (g := fun e => { e with phase := ph }) (fun _ => rfl) key s.fe.store

/-- A change of one command's phase keeps every other command. -/
theorem filter_store_setPhase (s : Dev) (key ph : Nat) :
    (setPhase s key ph).fe.store.filter (fun e => cmdKey e.inst e.ring e.pos != key)
      = s.fe.store.filter (fun e => cmdKey e.inst e.ring e.pos != key) :=
  filter_map_atKey (fun e : StoreEntry => cmdKey e.inst e.ring e.pos) (g := fun e => { e with phase := ph }) (fun _ => rfl) key s.fe.store

/-! ### Answers -/

/-- An answer to a command: its ring, where there is one in service, owes the completion; without one a ring's command is over; and a command of a bus
or the tunnel is answered there (R291, R431, R534). -/
theorem answerCmd_cases (s : Dev) {x : Ctx} {c : Cpl} (data : List Byte) (key : c.key = some x.key) :
    (x.origin ≤ 2 ∧ (∃ rg, ringAt s (ringKey x.inst x.ring) = some rg ∧ rg.dead = false)
      ∧ answerCmd s x c data = modRing (setPhase s x.key 2) (ringKey x.inst x.ring) (fun r => { r with cplQ := r.cplQ ++ [c] })) ∨
    (x.origin ≤ 2 ∧ (∀ rg, ringAt s (ringKey x.inst x.ring) = some rg → rg.dead = true)
      ∧ answerCmd s x c data = dropStore (setPhase s x.key 2) x.key) ∨
    (2 < x.origin ∧ answerCmd s x c data
      = { dropStore s x.key with out := s.out ++ [.reply x.origin x.bus (cplBody c ++ [0]) data] }) := by
  unfold answerCmd
  by_cases ring : x.origin ≤ 2
  · have sameRing : ringAt (setPhase s x.key 2) (ringKey x.inst x.ring) = ringAt s (ringKey x.inst x.ring) := rfl
    simp only [ring, if_true, oweCpl, key, sameRing]
    cases ringAt s (ringKey x.inst x.ring) with
    | none => simp
    | some rg => cases dead : rg.dead <;> simp [dead]
  · refine Or.inr (Or.inr ⟨by omega, ?_⟩)
    rw [if_neg ring]
    rfl

/-- The completion of a command names the command. -/
@[simp] theorem cplOf_key (x : Ctx) (r : Ret) : (cplOf x r).key = some x.key := rfl

section
variable (s : Dev) {x : Ctx} {c : Cpl} (data : List Byte) (key : c.key = some x.key)
include key

/-- An answer keeps all but the command store, the completions of rings, and messages. -/
theorem answerCmd_rest :
    answerCmd s x c data
      = { s with
          fe := { s.fe with store := (answerCmd s x c data).fe.store, rings := (answerCmd s x c data).fe.rings }
          out := (answerCmd s x c data).out } := by
  rcases answerCmd_cases s data key with ⟨-, -, e⟩ | ⟨-, -, e⟩ | ⟨-, e⟩
  all_goals
    rw [e]
    rfl

/-- An answer keeps every other command. -/
theorem answerCmd_others :
    (answerCmd s x c data).fe.store.filter (fun e => cmdKey e.inst e.ring e.pos != x.key)
      = s.fe.store.filter (fun e => cmdKey e.inst e.ring e.pos != x.key) := by
  have dropped : ∀ s : Dev, (dropStore s x.key).fe.store.filter (fun e => cmdKey e.inst e.ring e.pos != x.key)
      = s.fe.store.filter (fun e => cmdKey e.inst e.ring e.pos != x.key) := fun s => by simp [dropStore]
  have phased := filter_store_setPhase s x.key 2
  rcases answerCmd_cases s data key with ⟨-, -, e⟩ | ⟨-, -, e⟩ | ⟨-, e⟩
  · rw [e]
    exact phased
  · rw [e, dropped, phased]
  · rw [e]
    exact dropped s

/-- An answer keeps every other ring. -/
theorem ringAt_answerCmd_other {k : Nat} (other : k ≠ ringKey x.inst x.ring) : ringAt (answerCmd s x c data) k = ringAt s k := by
  rcases answerCmd_cases s data key with ⟨-, -, e⟩ | ⟨-, -, e⟩ | ⟨-, e⟩
  · rw [e]
    exact tget_tmod_other _ _ _ _ other
  all_goals
    rw [e]
    rfl

end

/-- A command is completed by its answer. -/
theorem completes_answerCmd {s : Dev} {x : Ctx} (r : Ret) (stored : x.origin ≤ 2 → (storeAt s x.key).isSome = true) :
    Completes s (answerCmd s x (cplOf x r) r.data) x r := by
  unfold Completes
  rcases answerCmd_cases s r.data (cplOf_key x r) with ⟨ring, ⟨rg, here, -⟩, e⟩ | ⟨ring, dead, -⟩ | ⟨bus, e⟩
  · rw [if_pos ring, e]
    rintro rg' here' -
    obtain rfl : rg = rg' := Option.some.inj (here.symm.trans here')
    constructor
    · have owed := tget_tmod_same s.fe.rings (ringKey x.inst x.ring) (fun r' => { r' with cplQ := r'.cplQ ++ [cplOf x r] })
      unfold ringAt at here ⊢
      exact (congrArg _ owed).trans (by simp [here])
    · obtain ⟨e, found⟩ := Option.isSome_iff_exists.mp (stored ring)
      exact (congrArg (Option.map _) (storeAt_setPhase s x.key 2)).trans (by rw [found]; rfl)
  · rw [if_pos ring]
    intro rg here alive
    exact absurd (dead rg here) (by simp [alive])
  · rw [if_neg (by omega), e]
    exact ⟨_, rfl⟩

end Sys2Proof.Machine
end

section
/-!
SUPPORT. Commands that change registers and the audit log alone (R289 to R293, R436): what they leave.
-/
namespace Sys2Proof.Machine

/-! ### Registers and the log -/

/-- The two lists of the registers that report the log agree. -/
theorem mem_logRegs {o : Nat} : o ∈ logRegs ↔ isLogReg o := by
  unfold logRegs isLogReg
  rw [List.mem_append, List.mem_map]
  simp only [List.mem_range, eq_comm]

/-- Everything but the registers named, the log, its registers and the flash's record of it is the same. -/
structure OnlyLogAnd (l : List Nat) (s t : Dev) : Prop where
  regs : SameRegsBut (l ++ logRegs) s t
  rest : t = { s with regs := t.regs, log := t.log, flash := { s.flash with romLog := t.flash.romLog } }

theorem OnlyLog.and {s t : Dev} (h : OnlyLog s t) (l : List Nat) : OnlyLogAnd l s t := by
  refine ⟨fun o others _ => h.regs o (fun report => others (List.mem_append_right _ (mem_logRegs.mpr report))), h.rest.trans ?_⟩
  rw [← h.flash]

theorem OnlyLogAnd.trans {l : List Nat} {s t u : Dev} (h : OnlyLogAnd l s t) (k : OnlyLogAnd l t u) : OnlyLogAnd l s u := by
  refine ⟨fun o others shc => (k.regs o others shc).trans (h.regs o others shc), ?_⟩
  rw [k.rest, h.rest]

theorem onlyLogAnd_regWrite {l : List Nat} (s : Dev) {o : Nat} (v : Nat) (named : o ∈ l) : OnlyLogAnd l s (regWrite s o v) :=
  ⟨fun _ others _ => regRead_regWrite_other _ _ _ _ (fun same => others (List.mem_append_left _ (same ▸ named))), rfl⟩

/-! ### The end of such a command -/

/-- A ring's command that may run is in the store. -/
theorem stored_of_ctxOf {op : Nat} {c : Cmd} {s : Dev} {x : Ctx} (context : ctxOf op c s = some x) (ring : x.origin ≤ 2) :
    (storeAt s x.key).isSome = true := by
  unfold ctxOf at context
  split at context
  · rename_i outside
    dsimp only at context
    split at context
    · obtain rfl := Option.some.inj context
      dsimp only at ring
      omega
    · cases context
  · dsimp only at context
    split at context
    · cases context
    · rename_i e found
      split at context
      · obtain rfl := Option.some.inj context
        simp [found]
      · cases context

/-- Closing a command changes memory, registers and marks alone. -/
theorem finish_rest (s : Dev) : ∃ dram regs, finish s = { s with dram := dram, regs := regs, blocked := [] } := by
  unfold finish fset regWrite
  exact ⟨_, _, rfl⟩

/-- Beside what an answer, the log, memory and registers change, and with no line marked, the module is as before. -/
def SameButAnswer (s t : Dev) : Prop :=
  t = { s with
        fe := { s.fe with store := t.fe.store, rings := t.fe.rings }
        out := t.out
        log := t.log
        flash := { s.flash with romLog := t.flash.romLog }
        dram := t.dram
        regs := t.regs
        blocked := [] }

/-- What is closed after an answer to a command that changed registers and the log alone. -/
theorem sameButAnswer_of_closed {s u a t : Dev}
    (changed : u = { s with regs := u.regs, log := u.log, flash := { s.flash with romLog := u.flash.romLog } })
    (answered : a = { u with fe := { u.fe with store := a.fe.store, rings := a.fe.rings }, out := a.out })
    (closed : ∃ dram regs, t = { a with dram := dram, regs := regs, blocked := [] }) :
    SameButAnswer s t := by
  obtain ⟨dram, regs, rfl⟩ := closed
  obtain ⟨store, rings, out, rfl⟩ : ∃ store rings out, a = { u with fe := { u.fe with store := store, rings := rings }, out := out } :=
    ⟨_, _, _, answered⟩
  obtain ⟨regs', log, rom, rfl⟩ : ∃ regs' log rom, u = { s with regs := regs', log := log, flash := { s.flash with romLog := rom } } :=
    ⟨_, _, _, changed⟩
  rfl

/-- What `OnlyCmd` says of a command that changed the registers named and the log. -/
theorem onlyCmd_of_sameButAnswer {s : State} {t : Dev} {x : Ctx} {l : List Nat} (rest : SameButAnswer s.dev t)
    (regs : SameRegsBut (l ++ logRegs) s.dev t) (rings : ∀ k, k ≠ ringKey x.inst x.ring → ringAt t k = ringAt s.dev k)
    (others : t.fe.store.filter (fun e => cmdKey e.inst e.ring e.pos != x.key)
      = s.dev.fe.store.filter (fun e => cmdKey e.inst e.ring e.pos != x.key)) :
    OnlyCmd l s { s with dev := t } x s.dev :=
  ⟨⟨rfl, rest, regs⟩, rings, others⟩

/-- What a command leaves that changed the registers named and the log, and ends with `r`. -/
theorem answered_leaves {s : State} {x : Ctx} {u : Dev} {l : List Nat} (r : Ret) (effect : OnlyLogAnd l s.dev u)
    (stored : x.origin ≤ 2 → (storeAt s.dev x.key).isSome = true) :
    SameMem s.dev (finish (answerCmd u x (cplOf x r) r.data)) ∧ Completes s.dev (finish (answerCmd u x (cplOf x r) r.data)) x r
      ∧ OnlyCmd l s { s with dev := finish (answerCmd u x (cplOf x r) r.data) } x s.dev := by
  have key := cplOf_key x r
  have fe : u.fe = s.dev.fe := by rw [effect.rest]
  have rest := sameButAnswer_of_closed effect.rest (answerCmd_rest u r.data key) (finish_rest _)
  refine ⟨sameMem_finish ?_, ?_, onlyCmd_of_sameButAnswer rest ?_ ?_ ?_⟩
  · rw [answerCmd_rest u r.data key, effect.rest]
  · have completes : Completes u (answerCmd u x (cplOf x r) r.data) x r :=
      completes_answerCmd r (fun ring => by unfold storeAt; rw [fe]; exact stored ring)
    unfold Completes ringAt storeAt at completes ⊢
    rw [fe] at completes
    rw [finish_fe, finish_out]
    exact completes
  · intro o others shc
    rw [regRead_finish _ _ shc, answerCmd_rest u r.data key]
    exact effect.regs o others shc
  · intro k other
    have same := ringAt_answerCmd_other u r.data key other
    unfold ringAt at same ⊢
    rw [finish_fe, same, fe]
  · rw [finish_fe, answerCmd_others u r.data key, fe]

end Sys2Proof.Machine
end

section
/-!
SUPPORT. How a command ends whose effect is at hand: done, or rejected by a check of its own (R293).
-/
namespace Sys2Proof.Machine

section
variable {s u : Dev} {op : Nat} {c : Cmd} {x : Ctx} {sp : CmdSpec} {f : Ctx → Dev → Dev × CmdRes}

/-- An admitted command that is done, and is not entered as COMMAND, is answered with its result. -/
theorem command_done {r : Ret} (row : specOf op = some sp) (admits : Admits s op c x) (unlogged : sp.logged = false) (single : op ≠ 0x12)
    (ran : f x s = (u, .done r)) (free : u.blocked = []) : command op c s f = answerCmd u x (cplOf x r) r.data := by
  obtain ⟨runs, head, ring⟩ := command_of_admits row admits f
  have ended : endCmd u sp x r = answerCmd u x (cplOf x r) r.data := by
    have notStep : (sp.op == 0x12) = false := by simpa [specOf_op row] using single
    simp only [endCmd, unlogged, notStep, Bool.or_false, Bool.false_eq_true, if_false]
  have unblocked : (answerCmd u x (cplOf x r) r.data).blocked = [] := by rw [answerCmd_rest u r.data (cplOf_key x r), free]
  rw [runs, runCmd, whole_of_unblocked]
  all_goals simp only [head, ring, ran, ended, unblocked, ne_eq, not_true_eq_false, if_false]

/-- A rejection counts, is entered in the log and is answered with its code (R293). -/
theorem rejectCmd_eq (s : Dev) (x : Ctx) (inst : Nat) {code : Nat} (known : code ≠ eAuth) :
    ∃ u, OnlyLogAnd [Reg.SES_CNT_REJECTS] s u ∧ rejectCmd s x inst code = answerCmd u x (cplOf x { Ret.ok with status := code }) [] := by
  have counted : OnlyLogAnd [Reg.SES_CNT_REJECTS] s (bump s Reg.SES_CNT_REJECTS) := onlyLogAnd_regWrite s _ (by simp)
  unfold rejectCmd
  simp only [known, false_and, if_false]
  refine ⟨_, ?_, rfl⟩
  split
  · exact counted
  · exact counted.trans ((onlyLog_logAdd _ _ _ _ _ _ _ _ _).and _)

/-- An admitted command that a check of its own rejects is answered with the check's code. -/
theorem command_reject {code : Nat} (row : specOf op = some sp) (admits : Admits s op c x) (ran : f x s = (s, .reject code))
    (known : code ≠ eAuth) :
    ∃ u, OnlyLogAnd [Reg.SES_CNT_REJECTS] s u ∧ command op c s f = answerCmd u x (cplOf x { Ret.ok with status := code }) [] := by
  obtain ⟨u, counted, rejected⟩ := rejectCmd_eq s x (affected sp x) known
  obtain ⟨runs, head, ring⟩ := command_of_admits row admits f
  obtain ⟨-, free, -⟩ := admits
  have unblocked : (answerCmd u x (cplOf x { Ret.ok with status := code }) []).blocked = [] := by
    rw [answerCmd_rest u [] (cplOf_key x _), counted.rest, free]
  refine ⟨u, counted, ?_⟩
  rw [runs, runCmd, whole_of_unblocked]
  all_goals simp only [head, ring, ran, rejected, unblocked, ne_eq, not_true_eq_false, if_false]

end

end Sys2Proof.Machine
end

section
/-!
SET_EPOCH (R441).
-/
namespace Sys2Proof.Machine

/-- What SET_EPOCH does once its head is checked (R441). -/
def setEpoch (x : Ctx) (s : Dev) : Dev × CmdRes :=
  afterChecks s [(decide (eb x.e 24 8 < regRead s Reg.LOG_EPOCH), eArg)]
    (regWrite (logAdd s x.origin (originId x) 0 14 0 0xFF (regRead s Reg.LOG_EPOCH) (eb x.e 24 8)) Reg.LOG_EPOCH (eb x.e 24 8), .done Ret.ok)

/-- SET_EPOCH does what `setEpoch` says, as a command of its opcode. -/
theorem exec_setEpoch (c : Cmd) (s : State) :
    exec (.setEpoch c) s = .next { s with dev := finish (command 0xA0 c s.dev setEpoch) } := rfl

theorem setEpoch_of_le {x : Ctx} {s : Dev} (later : regRead s Reg.LOG_EPOCH ≤ eb x.e 24 8) :
    setEpoch x s
      = (regWrite (logAdd s x.origin (originId x) 0 14 0 0xFF (regRead s Reg.LOG_EPOCH) (eb x.e 24 8)) Reg.LOG_EPOCH (eb x.e 24 8),
          .done Ret.ok) := by
  simp [setEpoch, afterChecks, firstCode, later]

theorem setEpoch_of_lt {x : Ctx} {s : Dev} (below : eb x.e 24 8 < regRead s Reg.LOG_EPOCH) : setEpoch x s = (s, .reject eArg) := by
  simp [setEpoch, afterChecks, firstCode, below, eArg]

/-- SET_EPOCH with a stamp that is not below the current one sets it. -/
theorem exec_setEpoch_set {s : State} {c : Cmd} {x : Ctx} (admits : Admits s.dev 0xA0 c x)
    (later : regRead s.dev Reg.LOG_EPOCH ≤ eb x.e 24 8) :
    ∃ t, exec (.setEpoch c) s = .next t ∧ SameMem s.dev t.dev ∧ Completes s.dev t.dev x Ret.ok
      ∧ regRead t.dev Reg.LOG_EPOCH = eb x.e 24 8 ∧ OnlyCmd [Reg.LOG_EPOCH] s t x s.dev := by
  have ⟨context, free, _⟩ := admits
  have entered := onlyLog_logAdd s.dev x.origin (originId x) 0 14 0 0xFF (regRead s.dev Reg.LOG_EPOCH) (eb x.e 24 8)
  have effect := (entered.and [Reg.LOG_EPOCH]).trans (onlyLogAnd_regWrite _ (eb x.e 24 8) (List.mem_singleton_self _))
  obtain ⟨mem, completes, only⟩ := answered_leaves (x := x) Ret.ok effect (stored_of_ctxOf context)
  refine ⟨_, (exec_setEpoch c s).trans ?_, mem, completes, ?_, only⟩
  · rw [command_done rfl admits rfl (by decide) (setEpoch_of_le later)]
    rw [effect.rest, free]
  · rw [regRead_finish _ _ (by decide), answerCmd_rest _ _ (cplOf_key x _)]
    exact (regRead_regWrite_same _ _ _).trans (Nat.mod_eq_of_lt (bitsOf_lt _ _ _))

/-- SET_EPOCH with a stamp below the current one is rejected. -/
theorem exec_setEpoch_reject {s : State} {c : Cmd} {x : Ctx} (admits : Admits s.dev 0xA0 c x)
    (below : eb x.e 24 8 < regRead s.dev Reg.LOG_EPOCH) :
    ∃ t, exec (.setEpoch c) s = .next t ∧ SameMem s.dev t.dev ∧ Completes s.dev t.dev x { Ret.ok with status := eArg }
      ∧ regRead t.dev Reg.LOG_EPOCH = regRead s.dev Reg.LOG_EPOCH ∧ OnlyCmd [Reg.SES_CNT_REJECTS] s t x s.dev := by
  have ⟨context, _⟩ := admits
  obtain ⟨u, counted, rejected⟩ := command_reject rfl admits (setEpoch_of_lt below) (by decide)
  obtain ⟨mem, completes, only⟩ := answered_leaves (x := x) { Ret.ok with status := eArg } counted (stored_of_ctxOf context)
  refine ⟨_, (exec_setEpoch c s).trans ?_, mem, completes, ?_, only⟩
  · rw [rejected]
    rfl
  · obtain ⟨⟨-, -, regs⟩, -, -⟩ := only
    exact regs _ (by decide) (by decide)

end Sys2Proof.Machine
end

section
/-!
SUPPORT. The entry that forming one puts into the log (R436 to R438).
-/
namespace Sys2Proof.Machine

@[simp] theorem showChain_log (s : Dev) (chain : List Byte) : (showChain s chain).log = s.log := by
  unfold showChain
  exact List.foldlRecOn (motive := fun t : Dev => t.log = s.log) _ _ rfl (fun _ same _ _ => same)

/-- An entry takes the next SEQ, and CHAIN goes on over it. -/
theorem logPut_entries (s : Dev) (e : LogEntry) :
    tget (logPut s e).log.entries s.log.next
      = some { e with seq := s.log.next, chain := chainStep s.log.chain { e with seq := s.log.next } } := by
  unfold logPut
  dsimp only
  split_ifs <;> simp

theorem logPut_next (s : Dev) (e : LogEntry) : (logPut s e).log.next = s.log.next + 1 := by
  unfold logPut
  dsimp only
  split_ifs <;> simp

/-- A formed entry stands in the log as it was formed, under the stamp of the log, where no checkpoint follows it. -/
theorem logAdd_entered {s : Dev} (origin originId result kind object inst old new : Nat) (started : s.log.started = true)
    (normal : fget s RF.BRG_START_STATUS_RECOVERY = 0) (within : (s.log.next + 1) % 4096 ≠ 0) :
    ∃ e, tget (logAdd s origin originId result kind object inst old new).log.entries s.log.next = some e
      ∧ e.kind = kind ∧ e.object = object ∧ e.stamp = regRead s Reg.LOG_EPOCH := by
  unfold logAdd logCommit
  simp only [normal, started, if_true, zero_ne_one, if_false, logPut_next, within, logPut_entries]
  exact ⟨_, rfl, rfl, rfl, rfl⟩

end Sys2Proof.Machine
end

section
/-!
SUPPORT. Registers at the begin of a start (R13, R503, R505).
-/
namespace Sys2Proof.Machine

/-- A register reads as before where the table of registers is. -/
theorem regRead_congr {s t : Dev} (same : t.regs = s.regs) (o : Nat) : regRead t o = regRead s o := by
  rw [regRead, same, regRead]

/-- A register that the table does not hold has its reset value. -/
theorem regRead_of_absent {s : Dev} {o : Nat} (absent : tget s.regs o = none) : regRead s o = regReset o % 2 ^ 64 := by
  simp [regRead, tgetD, absent]

/-- Steps that each keep a register keep it together. -/
theorem regRead_foldl {α : Type} {o : Nat} (f : Dev → α → Dev) (l : List α) (keeps : ∀ a ∈ l, ∀ s, regRead (f s a) o = regRead s o)
    (s : Dev) : regRead (l.foldl f s) o = regRead s o :=
  List.foldlRecOn (motive := fun t => regRead t o = regRead s o) _ _ rfl (fun t same a member => (keeps a member t).trans same)

/-- What a filter by key drops is gone. -/
theorem tget_filter_key {V : Type} (t : List (Nat × V)) {keep : Nat → Bool} {k : Nat} (dropped : keep k = false) :
    tget (t.filter (fun p => keep p.1)) k = none := by
  induction t with
  | nil => rfl
  | cons p t ih =>
    obtain ⟨a, v⟩ := p
    by_cases kept : keep a = true
    · have other : a ≠ k := by
        rintro rfl
        simp [dropped] at kept
      simp [kept, tget, other, ih]
    · simp [kept, ih]

/-- The registers whose values a start takes over or shows from its begin on. -/
def startRegs : List Nat :=
  policyRegs ++ [Reg.PWR_STATUS, Reg.PWR_LIMITS, Reg.CLK_STATUS, Reg.SEC_STATUS, Reg.BRG_START_STATUS] ++ (List.range 17).map Reg.SEC_PERM
    ++ (List.range 8).map Reg.SEC_SB_ROOT

theorem regRead_withPower (s : Dev) (p : Power) (o : Nat) : regRead { s with power := p } o = regRead s o := rfl

@[simp] theorem regRead_showFault (s : Dev) (o : Nat) : regRead (showFault s) o = regRead s o := rfl

section
variable {o : Nat} (other : o ∉ startRegs)
include other

/-- Every register a start takes over or shows is another one. -/
theorem ne_of_mem_startRegs {o' : Nat} (shown : o' ∈ startRegs) : o ≠ o' := fun same => other (same ▸ shown)

/-- A field that a start shows is no part of another register. -/
theorem regRead_fset_startRegs (s : Dev) (f : Fld) (v : Nat) (shown : f.off ∈ startRegs) : regRead (fset s f v) o = regRead s o :=
  regRead_fset_other _ _ _ _ (ne_of_mem_startRegs other shown)

/-- Clearing the module leaves every other register at its reset value. -/
theorem regRead_clearModule (s : Dev) (warm : Bool) : regRead (clearModule s warm) o = regReset o % 2 ^ 64 := by
  have cleared : tget (if warm then s.regs.filter (fun p => policyRegs.contains p.1) else []) o = none := by
    split
    · refine tget_filter_key s.regs (keep := fun k => policyRegs.contains k) ?_
      rw [List.contains_eq_mem, decide_eq_false_iff_not]
      exact fun policy => other (by simp [startRegs, policy])
    · rfl
  have coolantA : RF.PWR_STATUS_COOLANT_OK_A.off ∈ startRegs := by decide
  have coolantB : RF.PWR_STATUS_COOLANT_OK_B.off ∈ startRegs := by decide
  have vector : RF.PWR_LIMITS_POWER_VECTOR.off ∈ startRegs := by decide
  have ref : RF.CLK_STATUS_REF_OK.off ∈ startRegs := by decide
  unfold clearModule
  dsimp only
  rw [regRead_withPower]
  cases warm
  · simp only [Bool.false_eq_true, if_false, regRead_fset_startRegs other, coolantA, coolantB]
    exact regRead_of_absent cleared
  · simp only [if_true, regRead_fset_startRegs other, coolantA, coolantB, vector, ref]
    exact regRead_of_absent cleared

theorem regRead_showRoot (s : Dev) : regRead (showRoot s) o = regRead s o := by
  have valid : RF.SEC_STATUS_SB_ROOT_VALID.off ∈ startRegs := by decide
  have root : ∀ j < 8, Reg.SEC_SB_ROOT j ∈ startRegs := by decide
  unfold showRoot
  split
  · rw [regRead_foldl, regRead_fset_startRegs other _ _ _ valid]
    intro j member t
    exact regRead_regWrite_other _ _ _ _ (ne_of_mem_startRegs other (root j (List.mem_range.mp member)))
  · rfl

theorem regRead_showFlash (s : Dev) : regRead (showFlash s) o = regRead s o := by
  have svn : RF.SEC_STATUS_FUSED_SVN.off ∈ startRegs := by decide
  have perms : ∀ r < 17, (RF.SEC_PERM_EFFECTIVE r).off ∈ startRegs := by decide
  unfold showFlash
  rw [regRead_showRoot other, regRead_foldl, regRead_fset_startRegs other _ _ _ svn]
  intro r member t
  split
  · exact regRead_fset_startRegs other _ _ _ (perms r (List.mem_range.mp member))
  · rfl

/-- A start leaves every other register at its reset value. -/
theorem regRead_beginStart (s : Dev) (reason : Nat) (hold warm : Bool) (stage : Nat) :
    regRead (beginStart s reason hold warm stage) o = regReset o % 2 ^ 64 := by
  have status : ∀ (t : Dev) (f : Fld) (v : Nat), f.off = Reg.BRG_START_STATUS → regRead (fset t f v) o = regRead t o :=
    fun t f v start => regRead_fset_startRegs other t f v (by rw [start]; decide)
  unfold beginStart
  rw [regRead_showFault, regRead_showFlash other, status, status, status, status]
  · refine (regRead_congr (s := clearModule s warm) ?_ o).trans (regRead_clearModule other s warm)
    rfl
  all_goals rfl

end

end Sys2Proof.Machine
end

section
/-!
The obligation on the log's stamp (R441).
-/
namespace Sys2Proof.Machine

/-- A command begins a start. -/
def BeginsStart (c : Instr) (s : State) : Prop :=
  ∃ u reason hold warm stage, exec c s = .next { s with dev := finish (beginStart u reason hold warm stage) }

theorem beginsStart_of_perform {c : Instr} {s : State} {f : Dev → Dev} {u : Dev} {reason stage : Nat} {hold warm : Bool}
    (ran : exec c s = perform s f) (begun : f s.dev = beginStart u reason hold warm stage) : BeginsStart c s :=
  ⟨u, reason, hold, warm, stage, by rw [ran, perform_eq, begun]⟩

theorem beginsStart_powerApplied {s : State} (slot : Nat) (primary : s.dev.start.primary = false) (secondary : s.dev.start.secondary = false) :
    BeginsStart (.powerApplied slot) s := by
  have ran : exec (.powerApplied slot) s = execPowerApplied slot s := rfl
  have off : ¬ (s.dev.start.primary || s.dev.start.secondary) = true := by simp [primary, secondary]
  exact beginsStart_of_perform ran (if_neg off)

theorem beginsStart_hostResetWhileFatal {s : State} (fatal : fget s.dev RF.BRG_ERR_STATUS_FATAL = 1) : BeginsStart .hostResetWhileFatal s := by
  have ran : exec .hostResetWhileFatal s = execHostResetWhileFatal s := rfl
  exact beginsStart_of_perform ran (if_pos fatal)

theorem beginsStart_inputVoltageExcursion {s : State} (on : s.dev.start.primary = true ∨ s.dev.start.secondary = true)
    (sound : fget s.dev RF.BRG_ERR_STATUS_FATAL = 0) (starting : fget s.dev RF.BRG_START_STATUS_STAGE ≠ 9) :
    BeginsStart .inputVoltageExcursion s := by
  have ran : exec .inputVoltageExcursion s = execInputVoltageExcursion s := rfl
  have runs : ¬ (!(s.dev.start.primary || s.dev.start.secondary) || fget s.dev RF.BRG_ERR_STATUS_FATAL == 1) = true := by
    rcases on with on | on <;> simp [on, sound]
  exact beginsStart_of_perform ran ((if_neg runs).trans (if_neg starting))

/-- MODULE_START, where it is accepted, begins a start from every state (R504). -/
theorem moduleStart_eq_beginStart (s : Dev) (hold : Bool) : ∃ u reason warm stage, moduleStart s hold = beginStart u reason hold warm stage := by
  unfold moduleStart
  dsimp only
  split_ifs
  all_goals exact ⟨_, _, _, _, rfl⟩

theorem beginsStart_moduleStart {s : State} {bus hold : Nat} (known : hold ≤ 1) (on : busOn s.dev (bus % 2) = true)
    (accepting : 7 ≤ fget s.dev RF.BRG_START_STATUS_STAGE ∨ startOpen s.dev = true) : BeginsStart (.moduleStart bus hold true) s := by
  obtain ⟨u, reason, warm, stage, begun⟩ := moduleStart_eq_beginStart (startReply s.dev (bus % 2) 0) (hold == 1)
  have idle : ¬ (fget s.dev RF.BRG_START_STATUS_STAGE < 7 ∧ (!startOpen s.dev) = true) := by
    rintro ⟨early, closed⟩
    rcases accepting with late | opened
    · omega
    · simp [opened] at closed
  have ran : exec (.moduleStart bus hold true) s = execModuleStart bus hold true s := rfl
  refine beginsStart_of_perform ran (Eq.trans ?_ begun)
  simp only [on, idle, Nat.not_lt.mpr known, Bool.not_true, Bool.false_and, Bool.false_eq_true, if_false]

/-- After every start the stamp is 0. -/
theorem BeginsStart.epoch_zero {c : Instr} {s : State} (begins : BeginsStart c s) :
    ∃ t, exec c s = .next t ∧ regRead t.dev Reg.LOG_EPOCH = 0 := by
  obtain ⟨u, reason, hold, warm, stage, ran⟩ := begins
  refine ⟨_, ran, ?_⟩
  rw [withDev_dev, regRead_finish _ _ (by decide), regRead_beginStart (by decide)]
  decide

/-- Settles O60: SET_EPOCH moves the stamp forward alone, an entry is formed under it, and every start finds it 0. -/
theorem stampOfTheLog : Obligations.StampOfTheLog := by
  unfold Obligations.StampOfTheLog
  refine ⟨?_, ?_, ?_, ?_⟩
  · rintro s c x v admits rfl
    exact ⟨exec_setEpoch_set admits, exec_setEpoch_reject admits⟩
  · intro s origin originId result kind object inst old new started normal within
    obtain ⟨e, entered, rfl, rfl, stamp⟩ := logAdd_entered origin originId result kind object inst old new started normal within
    rw [entered, Option.map_some, stamp]
  · exact (regRead_of_absent rfl).trans (by decide)
  · intro s begins cases c begun
    refine BeginsStart.epoch_zero ?_
    rcases (cases c).mp begun with ⟨slot, rfl, primary, secondary⟩ | ⟨rfl, fatal⟩ | ⟨rfl, on, sound, starting⟩
      | ⟨bus, hold, rfl, known, on, accepting⟩
    · exact beginsStart_powerApplied slot primary secondary
    · exact beginsStart_hostResetWhileFatal fatal
    · exact beginsStart_inputVoltageExcursion on sound starting
    · exact beginsStart_moduleStart known on accepting

end Sys2Proof.Machine
end

section
/-!
SUPPORT. Every row is an effect closed by `finish`; what a closed command leaves.
-/
namespace Sys2Proof.Machine

/-- Every row is an effect on the module, closed by `finish`; the queue of waiting commands stays. -/
theorem exec_eq_finish (c : Instr) (s : State) : ∃ d, exec c s = .next { s with dev := finish d } := by
  cases c
  all_goals exact ⟨_, rfl⟩

/-- A step, with a command waiting or with none, is closed by `finish` too. -/
theorem step_eq_finish (s : State) : ∃ l d, step s = .next { pending := l, dev := finish d } := by
  unfold step
  cases s.pending with
  | nil => exact ⟨s.pending, idleTick s.dev, perform_eq s idleTick⟩
  | cons c rest =>
    obtain ⟨d, ran⟩ := exec_eq_finish c { s with pending := rest }
    exact ⟨rest, d, ran⟩

/-- What closes a command leaves the module settled, whatever the command did. -/
theorem settled_finish (s : Dev) : Settled (finish s) := by
  have low := fget_fset_same { s with dram := dramCanon s.dram, blocked := [] } RF.SHC_STATUS_DIR_USED_HW (dirCount s 0) (by decide)
  refine ⟨finish_wf s, ?_, fget_fset_same _ RF.SHC_STATUS_DIR_USED_HE (dirCount s 1) (by decide), finish_blocked s⟩
  exact (fget_fset_bits _ RF.SHC_STATUS_DIR_USED_HE RF.SHC_STATUS_DIR_USED_HW _ rfl (by decide) (by decide)).trans low

/-- A device's closing changes registers, memory and marks alone. -/
theorem finish_eq (s : Dev) : finish s = { s with dram := (finish s).dram, regs := (finish s).regs, blocked := [] } := by
  obtain ⟨dram, regs, closed⟩ := finish_rest s
  rw [closed]

/-- Closing a command leaves registers as the command left them. -/
theorem sameRegsBut_finish {l : List Nat} {s t : Dev} (same : SameRegsBut l s t) : SameRegsBut l s (finish t) :=
  fun o others shc => (regRead_finish _ _ shc).trans (same o others shc)

/-- What `OnlyIn` says of a closed command, by what the command did. -/
theorem onlyIn_finish {l : List Nat} {s : State} {t f : Dev} (rest : t = { f with dram := t.dram, regs := t.regs, blocked := t.blocked })
    (regs : SameRegsBut l s.dev t) : OnlyIn l s { s with dev := finish t } f := by
  refine ⟨rfl, ?_, sameRegsBut_finish regs⟩
  rw [withDev_dev, finish_eq, rest]

end Sys2Proof.Machine
end

section
/-!
The obligations on the machine as a whole.
-/
namespace Sys2Proof.Machine

/-- Settles O1: the queue's front is what `step` runs. -/
theorem stepRunsFront : Obligations.StepRunsFront := by
  unfold Obligations.StepRunsFront
  intro s c
  rfl

/-- Settles O2: every row is an effect closed by `finish`, which keeps the queue. -/
theorem execCompletes : Obligations.ExecCompletes := by
  unfold Obligations.ExecCompletes
  intro c s
  obtain ⟨d, ran⟩ := exec_eq_finish c s
  exact ⟨finish d, ran⟩

/-- Settles O3: every step is closed by `finish`, which settles the module. -/
theorem stepSettles : Obligations.StepSettles := by
  unfold Obligations.StepSettles
  intro s t stepped
  obtain ⟨l, d, ran⟩ := step_eq_finish s
  rw [ran, Host.Outcome.next.injEq] at stepped
  rw [← stepped]
  exact settled_finish d

/-- A field of a register that the table does not hold has its reset value. -/
theorem fget_reset (f : Fld) : fget State.reset.dev f = bitsOf (regReset f.off % 2 ^ 64) f.lo f.width := by
  rw [fget, regRead_of_absent rfl]

/-- No instance but instance 0 exists after reset (R396). -/
theorem insState_reset_other {i : Nat} (other : 1 ≤ i) (known : i ≤ 32) : insState State.reset.dev i = 0 := by
  unfold insState
  rw [fget_reset]
  interval_cases i <;> decide

/-- Settles O31: the register table is empty at reset, so every field reads its reset value. -/
theorem resetSettled : Obligations.ResetSettled := by
  unfold Obligations.ResetSettled
  refine ⟨rfl, ?_, fun a => rfl, ?_, fun i => insState_reset_other, ?_⟩
  · unfold Settled
    rw [fget_reset, fget_reset]
    decide
  · unfold insState
    rw [fget_reset]
    decide
  · intro k known
    simp only [fget_reset]
    interval_cases k <;> decide

end Sys2Proof.Machine
end

section
/-!
The tick of the always-on clock (R449, R464).
-/
namespace Sys2Proof.Machine

/-- A register holds 64 bits. -/
theorem regRead_lt (s : Dev) (o : Nat) : regRead s o < 2 ^ 64 := BitVec.isLt _

/-- A register's value is cut to 64 bits as it stands. -/
theorem regRead_mod (s : Dev) (o : Nat) : regRead s o % 2 ^ 64 = regRead s o := Nat.mod_eq_of_lt (regRead_lt s o)

/-- One reason's part of a tick: its duration counts where it applies. -/
def tickReason (s : Dev) (i : Nat) : Dev := if reasonOn s (i + 1) then bump s (Reg.PWR_THR_DUR (i + 1)) else s

theorem tickReasons_eq (s : Dev) : tickReasons s = if s.start.primary then (List.range 8).foldl tickReason s else s := rfl

theorem tickReason_rest (s : Dev) (i : Nat) : tickReason s i = { s with regs := (tickReason s i).regs } := by
  unfold tickReason
  split <;> rfl

theorem foldl_tickReason_rest (l : List Nat) (s : Dev) : l.foldl tickReason s = { s with regs := (l.foldl tickReason s).regs } := by
  refine List.foldlRecOn (motive := fun t : Dev => t = { s with regs := t.regs }) _ _ rfl ?_
  intro t same i _
  rw [tickReason_rest, same]

theorem tickReasons_rest (s : Dev) : tickReasons s = { s with regs := (tickReasons s).regs } := by
  rw [tickReasons_eq]
  split
  · exact foldl_tickReason_rest _ s
  · rfl

/-- A reason's part of a tick shows in its own duration alone. -/
theorem regRead_tickReason (s : Dev) (i o : Nat) :
    regRead (tickReason s i) o
      = if o = Reg.PWR_THR_DUR (i + 1) then (regRead s o + b2n (reasonOn s (i + 1))) % 2 ^ 64 else regRead s o := by
  unfold tickReason
  by_cases own : o = Reg.PWR_THR_DUR (i + 1)
  · subst own
    cases reasonOn s (i + 1)
    · exact (if_pos rfl).symm ▸ (regRead_mod s _).symm
    · simp [b2n, regRead_bump_same]
  · rw [if_neg own]
    split
    · exact regRead_bump_other _ _ _ own
    · rfl

/-- Reasons that a list does not name keep their durations. -/
theorem regRead_foldl_tickReason_other (l : List Nat) (s : Dev) (o : Nat) (other : ∀ i ∈ l, o ≠ Reg.PWR_THR_DUR (i + 1)) :
    regRead (l.foldl tickReason s) o = regRead s o := by
  refine List.foldlRecOn (motive := fun t : Dev => regRead t o = regRead s o) _ _ rfl ?_
  intro t same i named
  rw [regRead_tickReason, if_neg (other i named), same]

/-- A reason that a list names once counts once, where it applies. -/
theorem regRead_foldl_tickReason_same (l : List Nat) (s : Dev) (i : Nat) (once : l.Nodup) (named : i ∈ l) :
    regRead (l.foldl tickReason s) (Reg.PWR_THR_DUR (i + 1))
      = (regRead s (Reg.PWR_THR_DUR (i + 1)) + b2n (reasonOn s (i + 1))) % 2 ^ 64 := by
  induction l generalizing s with
  | nil => cases named
  | cons j l ih =>
    obtain ⟨fresh, once⟩ := List.nodup_cons.mp once
    rw [List.foldl_cons]
    rcases List.mem_cons.mp named with rfl | later
    · rw [regRead_foldl_tickReason_other, regRead_tickReason, if_pos rfl]
      rintro j inList same
      obtain rfl : i = j := by unfold Reg.PWR_THR_DUR at same; omega
      exact fresh inList
    · have other : Reg.PWR_THR_DUR (i + 1) ≠ Reg.PWR_THR_DUR (j + 1) := by
        intro same
        obtain rfl : i = j := by unfold Reg.PWR_THR_DUR at same; omega
        exact fresh later
      have reason : reasonOn (tickReason s j) (i + 1) = reasonOn s (i + 1) := by rw [tickReason_rest]; rfl
      rw [ih _ once later, reason, regRead_tickReason, if_neg other]

/-- A tick counts the reasons that apply, while the primary domain has power. -/
theorem regRead_tickReasons_same (s : Dev) {r : Nat} (first : 1 ≤ r) (last : r ≤ 8) :
    regRead (tickReasons s) (Reg.PWR_THR_DUR r) = (regRead s (Reg.PWR_THR_DUR r) + b2n (s.start.primary && reasonOn s r)) % 2 ^ 64 := by
  obtain ⟨i, rfl⟩ := Nat.exists_eq_add_of_le' first
  rw [tickReasons_eq]
  cases s.start.primary
  · exact (regRead_mod s _).symm
  · exact regRead_foldl_tickReason_same _ s i List.nodup_range (List.mem_range.mpr (by omega))

/-- A tick changes no other register. -/
theorem regRead_tickReasons_other (s : Dev) {o : Nat} (other : o ∉ (List.range 8).map (fun i => Reg.PWR_THR_DUR (i + 1))) :
    regRead (tickReasons s) o = regRead s o := by
  rw [tickReasons_eq]
  split
  · refine regRead_foldl_tickReason_other _ s o ?_
    rintro i inRange rfl
    exact other (List.mem_map_of_mem inRange)
  · rfl

theorem regRead_tickTime (s : Dev) (o : Nat) : regRead (tickTime s) o = regRead s o := rfl

theorem reasonOn_tickTime (s : Dev) (r : Nat) : reasonOn (tickTime s) r = reasonOn s r := rfl

theorem tickTime_start (s : Dev) : (tickTime s).start = s.start := rfl

/-- Nothing is left for the module to go on with by itself. -/
def NothingToGoOn (s : Dev) : Prop :=
  s.fab.waiting = [] ∧ s.mesh.waiting = [] ∧ s.fab.segs = [] ∧ s.fab.inbox = [] ∧ s.fab.comms = [] ∧ s.traces = [] ∧ s.traceQ = []
    ∧ ∀ i, i ≤ 32 → insState s i ≠ 4

theorem drainWaiting_of_nil {s : Dev} (none : s.fab.waiting = []) : drainWaiting s = s := by
  have keep : ({ s.fab with waiting := [] } : Fabric) = s.fab := by rw [← none]
  rw [drainWaiting, none, List.foldl_nil, keep]

theorem drainMesh_of_nil {s : Dev} (none : s.mesh.waiting = []) : drainMesh s = s := by
  have keep : ({ s.mesh with waiting := [] } : Mesh) = s.mesh := by rw [← none]
  rw [drainMesh, none, List.foldl_nil, keep]

theorem drainResets_of_none {s : Dev} (none : ∀ i, i ≤ 32 → insState s i ≠ 4) : drainResets s = s := by
  unfold drainResets
  refine List.foldlRecOn (motive := fun t : Dev => t = s) _ _ rfl ?_
  rintro t rfl i inRange
  unfold goReset
  rw [if_pos (none i (by have := List.mem_range.mp inRange; omega))]

/-- Where nothing is left to go on with, nothing goes on. -/
theorem goOn_of_nothing {s : Dev} (nothing : NothingToGoOn s) : goOn s = s := by
  obtain ⟨waiting, mesh, segs, inbox, comms, traces, traceQ, resets⟩ := nothing
  have drainedSegs : drainSegs s = s := by rw [drainSegs, segs, List.foldl_nil]
  have drainedInbox : drainInbox s = s := by rw [drainInbox, inbox, List.foldl_nil]
  have turns : collTurns s = s := by rw [collTurns, comms]; rfl
  have drainedTraces : drainTraces s = s := by
    unfold drainTraces
    simp only [traceQ, traces, List.foldl_nil]
    rfl
  rw [goOn, drainWaiting_of_nil waiting, drainMesh_of_nil mesh, drainedSegs, drainedInbox, turns, drainResets_of_none resets, drainedTraces]

/-- A register that is no duration reads through a tick. -/
theorem fget_tickReasons_tickTime (s : Dev) (f : Fld) (other : f.off ∉ (List.range 8).map (fun i => Reg.PWR_THR_DUR (i + 1))) :
    fget (tickReasons (tickTime s)) f = fget s f := by
  unfold fget
  rw [regRead_tickReasons_other _ other]
  rfl

/-- A tick of a module that serves nothing, or has nothing to go on with, is its counts alone. -/
theorem idleTick_eq {s : Dev} (idle : serving s = false ∨ NothingToGoOn s) : idleTick s = tickReasons (tickTime s) := by
  have rest := tickReasons_rest (tickTime s)
  unfold idleTick
  dsimp only
  split
  · rename_i serves
    rcases idle with stopped | nothing
    · unfold serving at serves stopped
      rw [fget_tickReasons_tickTime _ _ (by decide), fget_tickReasons_tickTime _ _ (by decide), stopped] at serves
      cases serves
    · obtain ⟨waiting, mesh, segs, inbox, comms, traces, traceQ, resets⟩ := nothing
      refine goOn_of_nothing ?_
      refine ⟨?_, ?_, ?_, ?_, ?_, ?_, ?_, fun i known => ?_⟩
      iterate 7
        rw [rest]
        assumption
      unfold insState
      rw [fget_tickReasons_tickTime]
      · exact resets i known
      · intro duration
        obtain ⟨j, inRange, same⟩ := List.mem_map.mp duration
        have := List.mem_range.mp inRange
        simp only [RF.INS_STATUS_STATE, Reg.INS_STATUS, Reg.PWR_THR_DUR] at same
        omega
  · rfl

theorem durationIsNotShc (r : Nat) : Reg.PWR_THR_DUR r ≠ RF.SHC_STATUS_DIR_USED_HW.off := by
  show 0x1F0300 + 16 * (r - 1) ≠ 0x150000
  omega

/-- What is left where only the clocks and the registers named changed. -/
theorem tick_leaves {s : State} {u : Dev} {l : List Nat} (rest : u = { tickTime s.dev with regs := u.regs }) (regs : SameRegsBut l s.dev u) :
    SameMem s.dev (finish u) ∧ (finish u).time = (tickTime s.dev).time
      ∧ OnlyIn l s { s with dev := finish u } { s.dev with time := (finish u).time } := by
  obtain ⟨r, rfl⟩ : ∃ r, u = { tickTime s.dev with regs := r } := ⟨_, rest⟩
  exact ⟨sameMem_finish rfl, rfl, onlyIn_finish rfl regs⟩

/-- Settles O32: with an empty queue a step is the tick, and the tick is its counts alone. -/
theorem idleStep : Obligations.IdleStep := by
  unfold Obligations.IdleStep
  intro s empty idle
  have ran : step s = perform s idleTick := by unfold step; rw [empty]
  obtain ⟨mem, time, only⟩ := tick_leaves (tickReasons_rest (tickTime s.dev))
    (fun o (other : o ∉ (List.range 8).map (fun i => Reg.PWR_THR_DUR (i + 1))) _ => regRead_tickReasons_other _ other)
  refine ⟨_, ran.trans (perform_eq s idleTick), ?_⟩
  rw [idleTick_eq idle]
  refine ⟨mem, ?_, ?_, ?_, ?_, ?_, ?_, only⟩
  iterate 5
    rw [time]
    rfl
  · intro r first last
    rw [regRead_finish _ _ (durationIsNotShc r), regRead_tickReasons_same _ first last, regRead_tickTime, reasonOn_tickTime, tickTime_start]

end Sys2Proof.Machine
end

section
/-!
SUPPORT. Integer results (R95, R96): the model computes on integers and cuts to the width, which is what the operations of bit vectors do.
-/
namespace Sys2Proof.Machine

/-- The number that a bit vector spells for a TYPE: signed or unsigned. -/
def valOf (signed : Bool) {w : Nat} (a : BitVec w) : Int := if signed then a.toInt else (a.toNat : Int)

/-- An operand's value is that of its low bits. -/
theorem iVal_eq_valOf (signed : Bool) {w : Nat} (positive : 0 < w) (x : Nat) : iVal signed w x = valOf signed (BitVec.ofNat w x) := by
  cases signed
  · simp [iVal, valOf]
  · obtain ⟨v, rfl⟩ := Nat.exists_eq_add_of_le' positive
    simp only [iVal, valOf, signedOf, if_true, BitVec.toInt_eq_toNat_cond, BitVec.toNat_ofNat, Nat.add_sub_cancel]
    refine if_congr ?_ rfl rfl
    rw [pow_succ]
    omega

/-- Cutting an integer to a width is taking its bits. -/
theorem wrap_eq_toNat_ofInt (z : Int) (w : Nat) : wrap z w = (BitVec.ofInt w z).toNat := by
  rw [wrap, BitVec.toNat_ofInt]

@[simp] theorem ofInt_valOf (signed : Bool) {w : Nat} (a : BitVec w) : BitVec.ofInt w (valOf signed a) = a := by
  cases signed
  · simp [valOf]
  · simp [valOf, BitVec.ofInt_toInt]

theorem valOf_lt_iff (signed : Bool) {w : Nat} (a b : BitVec w) :
    valOf signed a < valOf signed b ↔ (if signed then a.slt b else a.ult b) = true := by
  cases signed
  · simp [valOf, BitVec.ult_eq_decide]
  · simp [valOf, BitVec.slt_eq_decide]

theorem valOf_inj (signed : Bool) {w : Nat} {a b : BitVec w} : valOf signed a = valOf signed b ↔ a = b := by
  refine ⟨fun same => ?_, fun same => by rw [same]⟩
  rw [← ofInt_valOf signed a, same, ofInt_valOf]

/-- MULH: the upper half of the product. -/
theorem ofInt_mulh (signed : Bool) {w : Nat} (a b : BitVec w) :
    BitVec.ofInt w (valOf signed a * valOf signed b / (2 ^ w : Nat))
      = if signed then BitVec.ofInt w (a.toInt * b.toInt / 2 ^ w) else BitVec.ofNat w (a.toNat * b.toNat / 2 ^ w) := by
  cases signed
  · simp only [valOf, Bool.false_eq_true, if_false]
    rw [← BitVec.ofInt_natCast]
    push_cast
    rfl
  · simp [valOf]

/-- DIV rounds towards zero, and wraps where the quotient does not fit. -/
theorem ofInt_tdiv (signed : Bool) {w : Nat} (a b : BitVec w) :
    BitVec.ofInt w ((valOf signed a).tdiv (valOf signed b)) = if signed then a.sdiv b else a / b := by
  cases signed
  · apply BitVec.eq_of_toNat_eq
    simp only [valOf, Bool.false_eq_true, if_false]
    rw [← Int.ofNat_tdiv, BitVec.ofInt_natCast, BitVec.toNat_ofNat, BitVec.toNat_udiv]
    exact Nat.mod_eq_of_lt (lt_of_le_of_lt (Nat.div_le_self _ _) a.isLt)
  · apply BitVec.eq_of_toInt_eq
    simp only [valOf, if_true, BitVec.toInt_ofInt, BitVec.toInt_sdiv]

/-- REM has the sign of the dividend. -/
theorem ofInt_tmod (signed : Bool) {w : Nat} (a b : BitVec w) :
    BitVec.ofInt w ((valOf signed a).tmod (valOf signed b)) = if signed then a.srem b else a % b := by
  cases signed
  · apply BitVec.eq_of_toNat_eq
    simp only [valOf, Bool.false_eq_true, if_false]
    rw [← Int.ofNat_tmod, BitVec.ofInt_natCast, BitVec.toNat_ofNat, BitVec.toNat_umod]
    exact Nat.mod_eq_of_lt (lt_of_le_of_lt (Nat.mod_le _ _) a.isLt)
  · simp only [valOf, if_true]
    rw [← BitVec.toInt_srem, BitVec.ofInt_toInt]

theorem ofInt_min (signed : Bool) {w : Nat} (a b : BitVec w) :
    BitVec.ofInt w (min (valOf signed a) (valOf signed b)) = if (if signed then a.slt b else a.ult b) then a else b := by
  have lt := valOf_lt_iff signed a b
  rcases lt_or_ge (valOf signed a) (valOf signed b) with less | more
  · rw [min_eq_left less.le, if_pos (lt.mp less), ofInt_valOf]
  · rw [min_eq_right more, if_neg (fun less => absurd (lt.mpr less) (not_lt.mpr more)), ofInt_valOf]

theorem ofInt_max (signed : Bool) {w : Nat} (a b : BitVec w) :
    BitVec.ofInt w (max (valOf signed a) (valOf signed b)) = if (if signed then a.slt b else a.ult b) then b else a := by
  have lt := valOf_lt_iff signed a b
  rcases lt_or_ge (valOf signed a) (valOf signed b) with less | more
  · rw [max_eq_right less.le, if_pos (lt.mp less), ofInt_valOf]
  · rw [max_eq_left more, if_neg (fun less => absurd (lt.mpr less) (not_lt.mpr more)), ofInt_valOf]

/-- SHR keeps the sign of a signed TYPE. -/
theorem ofInt_shiftRight (signed : Bool) {w : Nat} (a : BitVec w) (n : Nat) :
    BitVec.ofInt w (valOf signed a / (2 ^ n : Nat)) = if signed then a.sshiftRight n else a >>> n := by
  cases signed
  · apply BitVec.eq_of_toNat_eq
    simp only [valOf, Bool.false_eq_true, if_false]
    rw [← Int.natCast_ediv, BitVec.ofInt_natCast, BitVec.toNat_ofNat, BitVec.toNat_ushiftRight, Nat.shiftRight_eq_div_pow]
    exact Nat.mod_eq_of_lt (lt_of_le_of_lt (Nat.div_le_self _ _) a.isLt)
  · simp only [valOf, if_true]
    rw [← Int.shiftRight_eq_div_pow, ← BitVec.toInt_sshiftRight, BitVec.ofInt_toInt]

/-- A zero divisor is one whose low bits are zero. -/
theorem ofNat_eq_zero_iff {w : Nat} (b : Nat) : BitVec.ofNat w b = 0 ↔ b % 2 ^ w = 0 := by
  rw [← BitVec.toNat_inj, BitVec.toNat_ofNat]
  rfl

/-- The model's integer results are those of R96, where the width is a power of two. -/
theorem intResult_eq_intRule {op w : Nat} (row : op ∈ intRows.map (·.2)) (signed : Bool) (positive : 0 < w) (power : w ∣ 2 ^ w) (a b d : Nat) :
    intResult op signed w a b d = (intRule op signed (BitVec.ofNat w a) (BitVec.ofNat w b) (BitVec.ofNat w d)).toNat := by
  have amount : (BitVec.ofNat w b).toNat % w = b % w := by rw [BitVec.toNat_ofNat, Nat.mod_mod_of_dvd _ power]
  simp only [intRows, List.map_cons, List.map_nil, List.mem_cons, List.not_mem_nil, or_false] at row
  rcases row with rfl | rfl | rfl | rfl | rfl | rfl | rfl | rfl | rfl | rfl | rfl | rfl | rfl | rfl | rfl | rfl
  all_goals simp only [intResult, intRule, iVal_eq_valOf _ positive, wrap_eq_toNat_ofInt, amount]
  · rw [BitVec.ofInt_add, ofInt_valOf, ofInt_valOf]
  · rw [Int.sub_eq_add_neg, BitVec.ofInt_add, BitVec.ofInt_neg, ofInt_valOf, ofInt_valOf, ← BitVec.sub_eq_add_neg]
  · rw [BitVec.ofInt_mul, ofInt_valOf, ofInt_valOf]
  · rw [ofInt_mulh]
  · rw [BitVec.ofInt_add, BitVec.ofInt_mul, ofInt_valOf, ofInt_valOf, BitVec.ofInt_natCast]
  · rw [ofInt_tdiv]
    simp only [ofNat_eq_zero_iff]
    split
    · rw [BitVec.toNat_allOnes]
    · rfl
  · rw [ofInt_tmod]
    simp only [ofNat_eq_zero_iff]
    split
    · rw [BitVec.toNat_ofNat]
    · rfl
  · rw [ofInt_min]
  · rw [ofInt_max]
  · rw [BitVec.toNat_and, BitVec.toNat_ofNat, BitVec.toNat_ofNat, Nat.and_mod_two_pow]
  · rw [BitVec.toNat_or, BitVec.toNat_ofNat, BitVec.toNat_ofNat, Nat.or_mod_two_pow]
  · rw [BitVec.toNat_xor, BitVec.toNat_ofNat, BitVec.toNat_ofNat, Nat.xor_mod_two_pow]
  · rw [BitVec.toNat_shiftLeft, BitVec.toNat_ofNat, Nat.shiftLeft_eq, Nat.mod_mul_mod]
  · rw [ofInt_shiftRight]
  · rw [BitVec.toNat_ofNat]
  · rw [BitVec.toNat_not, BitVec.toNat_ofNat]

end Sys2Proof.Machine
end

section
/-!
Integer instructions (R95 to R97).
-/
namespace Sys2Proof.Machine

/-- The set bits of a number, counted. -/
theorem popcount_eq_length (n x : Nat) : popcount n x = ((List.range n).filter (fun j => x.testBit j)).length := by
  induction n generalizing x with
  | zero => rfl
  | succ n ih =>
    have rest : ((List.range n).map Nat.succ).filter (fun j => x.testBit j) = ((List.range n).filter (fun j => (x / 2).testBit j)).map Nat.succ := by
      rw [List.filter_map]
      congr 2
      funext j
      exact Nat.testBit_succ x j
    rw [popcount, ih, List.range_succ_eq_map, List.filter_cons, rest]
    rcases Nat.mod_two_eq_zero_or_one x with even | odd
    · simp [Nat.testBit_zero, even]
    · simp [Nat.testBit_zero, odd, Nat.add_comm]

/-- The leading zeros of a number's low bits are those of its bit vector. -/
theorem lzc_eq_clz {w : Nat} (positive : 0 < w) (x : Nat) : lzc w x = (BitVec.clz (BitVec.ofNat w x)).toNat := by
  have value : (BitVec.ofNat w x).toNat = x % 2 ^ w := BitVec.toNat_ofNat x w
  have below := BitVec.toNat_lt_two_pow_sub_clz (x := BitVec.ofNat w x)
  unfold lzc
  by_cases zero : x % 2 ^ w = 0
  · rw [if_pos zero, BitVec.clz_eq_iff_eq_zero.mpr ((ofNat_eq_zero_iff x).mpr zero)]
    exact (Nat.mod_eq_of_lt Nat.lt_two_pow_self).symm
  · have above := BitVec.two_pow_sub_clz_le_toNat_of_ne_zero positive (fun none => zero ((ofNat_eq_zero_iff x).mp none))
    rw [value] at above below
    have some : (BitVec.ofNat w x).clz.toNat < w := by
      by_contra all
      rw [Nat.sub_eq_zero_of_le (not_lt.mp all)] at below
      omega
    have log : (x % 2 ^ w).log2 = w - 1 - (BitVec.ofNat w x).clz.toNat :=
      (Nat.log2_eq_iff zero).mpr ⟨above, by rwa [show w - 1 - (BitVec.ofNat w x).clz.toNat + 1 = w - (BitVec.ofNat w x).clz.toNat by omega]⟩
    rw [if_neg zero, log]
    omega

/-- The model's comparisons are those of R95. -/
theorem icmp_eq_cmpRule (cond : Nat) (signed : Bool) {w : Nat} (a b : BitVec w) :
    icmp cond (valOf signed a) (valOf signed b) = cmpRule cond signed a b := by
  have lt : (if signed = true then a.slt b else a.ult b) = decide (valOf signed a < valOf signed b) := by
    rw [Bool.eq_iff_iff, decide_eq_true_iff, valOf_lt_iff]
  have eq : (a == b) = decide (valOf signed a = valOf signed b) := by
    rw [Bool.eq_iff_iff, decide_eq_true_iff, valOf_inj, beq_iff_eq]
  unfold icmp cmpRule
  simp only [bne, lt, eq]
  split <;> simp only [← decide_not, ← Bool.decide_or, ← Bool.decide_and, decide_eq_decide] <;> omega

/-- A lane is in the mask of a list of lanes where the list names it. -/
theorem testBit_maskOf (l : List Nat) (j : Nat) : (maskOf l).toNat.testBit j = (decide (j < 32) && decide (j ∈ l)) := by
  have gen : ∀ (l : List Nat) (m : LaneMask), (l.foldl (fun m i => m ||| ((1 : LaneMask) <<< i)) m).getLsbD j
      = (m.getLsbD j || (decide (j < 32) && decide (j ∈ l))) := by
    intro l
    induction l with
    | nil => intro m; simp
    | cons i l ih =>
      intro m
      have one : ((1 : LaneMask) <<< i).getLsbD j = (decide (j < 32) && decide (j = i)) := by
        rw [BitVec.getLsbD_shiftLeft]
        rcases lt_trichotomy j i with less | rfl | more
        · simp [less, less.ne]
        · simp
        · simp [BitVec.getLsbD_one, show ¬ j < i by omega, show j ≠ i by omega, show j - i ≠ 0 by omega]
      rw [List.foldl_cons, ih, BitVec.getLsbD_or, one, Bool.or_assoc, ← Bool.and_or_distrib_left]
      simp
  rw [BitVec.testBit_toNat, maskOf, gen]
  simp

/-- A test holds in a lane of the mask tested where it holds of the lane. -/
theorem testBit_laneTest (part : LaneMask) (p : Nat → Bool) {l : Nat} (lane : part.toNat.testBit l = true) :
    (laneTest part p).toNat.testBit l = p l := by
  rw [laneTest, testBit_maskOf, decide_eq_true (lt_of_testBit_lane lane), Bool.true_and, Bool.eq_iff_iff, decide_eq_true_iff, List.mem_filter,
    mem_lanesOf]
  simp [lane]

/-- Integer operands have 32 or 64 bits. -/
theorem iRegs_cases (w : Word64) : iRegs w = 1 ∨ iRegs w = 2 := by
  unfold iRegs
  split <;> simp

theorem width_pos (w : Word64) : 0 < 32 * iRegs w := by
  rcases iRegs_cases w with one | two <;> omega

/-- The widths of integer operands are powers of two. -/
theorem width_dvd (w : Word64) : 32 * iRegs w ∣ 2 ^ (32 * iRegs w) := by
  rcases iRegs_cases w with one | two
  · rw [one]
    decide
  · rw [two]
    decide

/-- Checks that pass together pass one by one, in the second step too. -/
theorem arg_of_ckAll {l : List Ck} (passed : (ckAll l).arg = false) {c : Ck} (named : c ∈ l) : c.arg = false := by
  have none : l.any (·.arg) = false := passed
  exact Bool.eq_false_iff.mpr (List.any_eq_false.mp none c named)

/-- A legal G destination lies within a lane's registers. -/
theorem dCk_fits {w : Word64} {k regs : Nat} {dsel : Bool} (passed : (dCk w k regs dsel).arg = false) (size : k = 1 ∨ k = 2 ∨ k = 4)
    (general : dsel = false) : wDst w + k ≤ 256 := by
  subst general
  exact gCk_fits passed (wDst_lt w) size

/-- The destination of an integer instruction but CMP lies within a lane's registers where its checks pass. -/
theorem intCk_fits {op : Nat} {w second : Word64} {regs : Nat} (passed : ckCode (intCk op w second regs) = 0) (value : op ≠ 0x0E)
    (general : iDsel w = false) : wDst w + intDstRegs op w ≤ 256 := by
  unfold intCk at passed
  rw [if_neg value] at passed
  obtain ⟨-, both⟩ := ckCode_ckAll passed _ (List.mem_cons_of_mem _ (List.mem_cons_of_mem _ (List.mem_cons_of_mem _ (List.mem_cons_self ..))))
  refine dCk_fits (arg_of_ckAll both (List.mem_cons_of_mem _ (List.mem_cons_self ..))) ?_ general
  unfold intDstRegs iRegs
  split_ifs <;> simp

/-- What the rows of R96 but CMP and PICK do in a lane. -/
def intLane (op : Nat) (w second : Word64) (g : Group) (l : Nat) : Nat :=
  intResult op (iSigned w) (32 * iRegs w) (intA op g w l) (srcB g w second l (iRegs w)) (oldDst g w (iDsel w) l (iRegs w))

/-- An integer instruction but CMP and PICK completes with its result in each lane. -/
theorem dstGets_intGroup {s : State} {i : Issue} {e : Env} {c : Instr} {op : Nat}
    (meaning : exec c s = perform s (fun d => issue op false i d (runLocal (intGroup op)))) (assigned : opAssigned op = true) (value : op ≠ 0x0E)
    (ready : Ready s.dev i op e) (lanes : e.part ≠ 0) (ok : ckCode (intCk op e.w e.second e.d.shape.regs) = 0) :
    ∃ t, exec c s = .next t ∧ (groupIn t.dev e).flags = e.g.flags
      ∧ DstGets s t e (iDsel e.w) (intDstRegs op e.w) (intLane op e.w e.second e.g) := by
  refine ⟨_, meaning.trans (perform_runLocal ready assigned lanes (checked_ok _ ok)), ?_, ?_⟩
  · simp [groupIn_complete]
  · exact dstGets_of_complete s e _ _ _ _ ready.run_eq (intCk_fits ok value) rfl

/-- Every row of R96 with one value of the width of TYPE is the integer meaning of its opcode. -/
theorem exec_intRow : ∀ row ∈ intRows, ∀ (i : Issue) (s : State),
    exec (row.1 i) s = perform s (fun d => issue row.2 false i d (runLocal (intGroup row.2))) := by
  simp only [intRows, List.forall_mem_cons, List.not_mem_nil, false_implies, implies_true, and_true]
  and_intros
  all_goals exact fun _ _ => rfl

/-- CMP completes with its comparison in each lane. -/
theorem exec_cmp {s : State} {i : Issue} {e : Env} (ready : Ready s.dev i 0x0E e) (lanes : e.part ≠ 0)
    (ok : ckCode (intCk 0x0E e.w e.second e.d.shape.regs) = 0) :
    ∃ t, exec (.cmp i) s = .next t
      ∧ PredGets s t e (fun l => cmpRule (w := 32 * iRegs e.w) (iCond e.w) (iSigned e.w) (BitVec.ofNat _ (srcA e.g e.w l (iRegs e.w)))
          (BitVec.ofNat _ (srcB e.g e.w e.second l (iRegs e.w)))) := by
  refine ⟨_, perform_runLocal ready rfl lanes (checked_ok _ ok), predGets_of_complete s e _ _ ready.run_eq ?_⟩
  intro l lane
  rw [testBit_laneTest _ _ lane, iVal_eq_valOf _ (width_pos _), iVal_eq_valOf _ (width_pos _), icmp_eq_cmpRule]

/-- PICK completes with its choice in each lane. -/
theorem exec_pick {s : State} {i : Issue} {e : Env} (ready : Ready s.dev i 0x0F e) (lanes : e.part ≠ 0)
    (ok : ckCode (intCk 0x0F e.w e.second e.d.shape.regs) = 0) :
    ∃ t, exec (.pick i) s = .next t ∧ (groupIn t.dev e).flags = e.g.flags
      ∧ DstGets s t e (iDsel e.w) (iRegs e.w) (fun l =>
          if (predMask e.g (iCond e.w)).toNat.testBit l != iSeln e.w then srcA e.g e.w l (iRegs e.w)
          else srcB e.g e.w e.second l (iRegs e.w)) := by
  refine ⟨_, perform_runLocal ready rfl lanes (checked_ok _ ok), ?_, ?_⟩
  · simp [groupIn_complete]
  · exact dstGets_of_complete s e _ _ _ _ ready.run_eq (intCk_fits ok (by decide)) rfl

/-- Settles O4: the model's integer result is the operation of bit vectors that R96 names. -/
theorem integerResults : Obligations.IntegerResults := by
  unfold Obligations.IntegerResults
  intro s i e mk op row ready lanes ok
  have opcode : op ∈ intRows.map (·.2) := List.mem_map_of_mem row
  have shape : op ≠ 0x0E ∧ opAssigned op = true ∧ intDstRegs op e.w = iRegs e.w ∧ intNoA op = decide (0x10 ≤ op) := by
    simp only [intRows, List.map_cons, List.map_nil, List.mem_cons, List.not_mem_nil, or_false] at opcode
    unfold intDstRegs intNoA opAssigned
    refine ⟨by omega, by simp; omega, if_neg (by omega), ?_⟩
    rw [Bool.eq_iff_iff]
    simp
    omega
  obtain ⟨value, assigned, regs, noA⟩ := shape
  obtain ⟨t, ran, flags, gets⟩ := dstGets_intGroup (exec_intRow _ row i s) assigned value ready lanes ok
  refine ⟨t, ran, flags, ?_⟩
  rw [regs] at gets
  convert gets using 1
  funext l
  rw [intLane, intResult_eq_intRule opcode _ (width_pos _) (width_dvd _), intA, noA]
  simp only [decide_eq_true_eq]

/-- Settles O5: CNT1 and LZC by counting bits, CMP by the order of the integers that its operands spell. -/
theorem countsAndChoices : Obligations.CountsAndChoices := by
  unfold Obligations.CountsAndChoices
  intro s i e
  refine ⟨fun ready lanes ok => ?_, fun ready lanes ok => ?_, exec_cmp, exec_pick⟩
  · obtain ⟨t, ran, flags, gets⟩ := dstGets_intGroup (c := .cnt1 i) rfl rfl (by decide) ready lanes ok
    refine ⟨t, ran, flags, ?_⟩
    convert gets using 1
    · rfl
    · funext l
      exact (popcount_eq_length _ _).symm
  · obtain ⟨t, ran, flags, gets⟩ := dstGets_intGroup (c := .lzc i) rfl rfl (by decide) ready lanes ok
    refine ⟨t, ran, flags, ?_⟩
    convert gets using 1
    · rfl
    · funext l
      exact (lzc_eq_clz (width_pos _) _).symm

end Sys2Proof.Machine
end

section
/-!
SUPPORT. Group instructions that change their core alone: what runs, and what stays as it was.
-/
namespace Sys2Proof.Machine

/-! ### Running -/

/-- A row whose instruction is ready, and whose lanes let it run, is its own effect. -/
theorem perform_ready {s : State} {i : Issue} {op : Nat} {e : Env} {always : Bool} (body : Env → Dev → Dev) (ready : Ready s.dev i op e)
    (assigned : opAssigned op = true) (lanes : e.part ≠ 0 ∨ always = true) :
    perform s (fun d => issue op always i d body) = .next { s with dev := finish (body e s.dev) } := by
  rw [perform_eq, issue_ready always body ready assigned, if_neg]
  rintro ⟨none, guarded⟩
  rcases lanes with some | free
  · exact some none
  · simp [free] at guarded

/-- Checks that pass let an instruction go on. -/
theorem orFail_ok {s : Dev} {e : Env} {c : Ck} (passed : ckCode c = 0) (k : Dev) : orFail s e c k = k := by simp [orFail, passed]

/-- The environment's core, group and path are those of the state. -/
theorem Ready.own {s : Dev} {i : Issue} {op : Nat} {e : Env} (h : Ready s i op e) :
    e.c = coreOf s e.core ∧ tget (coreOf s e.core).groups e.gno = some e.g ∧ e.g.done = false := by
  obtain ⟨env, -⟩ := h
  obtain ⟨core, gno, -, -, own, group, -, live⟩ := envOf_fields env
  rw [core, gno]
  exact ⟨own, group, live⟩

/-- The lanes that participate are lanes of the path (R66, R91). -/
theorem Ready.part_eq {s : Dev} {i : Issue} {op : Nat} {e : Env} (h : Ready s i op e) : e.part = e.path.mask &&& guardMask e.g e.w := by
  obtain ⟨env, -⟩ := h
  unfold envOf at env
  dsimp only at env
  split at env
  · cases env
  · split at env
    · split at env
      · split at env
        · cases env
        · obtain rfl := Option.some.inj env
          rfl
      · cases env
    · cases env

/-- No lane of the path is left where all participate, and only then. -/
theorem rest_eq_zero_iff {s : Dev} {i : Issue} {op : Nat} {e : Env} (h : Ready s i op e) :
    e.path.mask &&& ~~~e.part = 0 ↔ e.part = e.path.mask := by
  have within : ∀ m g : LaneMask, m &&& ~~~(m &&& g) = 0 ↔ m &&& g = m := by
    intro m g
    simp only [BitVec.eq_of_getLsbD_eq_iff, BitVec.getLsbD_and, BitVec.getLsbD_not]
    refine forall₂_congr fun l inside => ?_
    cases m.getLsbD l <;> cases g.getLsbD l <;> simp [inside]
  rw [h.part_eq]
  exact within _ _

/-! ### Changes of one core -/

/-- Two changes of a core are one. -/
theorem modCore_modCore (s : Dev) (c : Nat) (f g : Core → Core) : modCore (modCore s c f) c g = modCore s c (fun x => g (f x)) := by
  unfold modCore setCore
  simp only [tset_tset]
  simp [coreOf]

/-- Beside its own core, a group instruction that changes one core changes nothing. -/
theorem modCore_leaves (s : State) (c : Nat) (f : Core → Core) :
    SameBytes s.dev (finish (modCore s.dev c f)) ∧ SameRegsBut [] s.dev (finish (modCore s.dev c f))
      ∧ SameUnits s.dev (finish (modCore s.dev c f)) ∧ SameCoresBut c s.dev (finish (modCore s.dev c f)) := by
  refine ⟨fun a => ?_, fun o _ shc => ?_, ?_, fun j other => ?_⟩
  · rw [dramByte_finish]
    rfl
  · rw [regRead_finish _ _ shc]
    rfl
  · exact ⟨rfl, rfl, rfl, rfl, rfl, rfl, rfl, rfl, rfl, rfl, rfl, rfl, rfl, rfl, rfl, rfl, rfl, rfl, rfl⟩
  · rw [coreOf_finish, coreOf_modCore_other _ _ _ _ other]

/-- The group after a change of its core. -/
theorem groupIn_modCore (s : Dev) (e : Env) (f : Core → Core) :
    groupIn (finish (modCore s e.core f)) e = tgetD (f (coreOf s e.core)).groups e.gno e.g := by
  rw [groupIn, coreOf_finish, coreOf_modCore_same]

/-- A core with one group replaced, and counted in its issue order. -/
def withGroup (gno : Nat) (g : Group) (c : Core) : Core := { c with groups := tset c.groups gno g, seq := c.seq + 1 }

theorem tickSeq_putGroup (s : Dev) (e : Env) (g : Group) : tickSeq (putGroup s e g) e.core = modCore s e.core (withGroup e.gno g) :=
  modCore_modCore s e.core _ _

theorem complete_eq_modCore (s : Dev) (e : Env) (g : Group) : complete s e g = modCore s e.core (withGroup e.gno (advancePc g (wLen e.w))) :=
  tickSeq_putGroup s e _

/-- Replacing its group is all that such an instruction does. -/
theorem onlyGroup_withGroup (s : State) (e : Env) (g : Group) :
    OnlyGroup s { s with dev := finish (modCore s.dev e.core (withGroup e.gno g)) } e := by
  obtain ⟨bytes, regs, units, cores⟩ := modCore_leaves s e.core (withGroup e.gno g)
  have core : coreOf (finish (modCore s.dev e.core (withGroup e.gno g))) e.core = withGroup e.gno g (coreOf s.dev e.core) := by
    rw [coreOf_finish, coreOf_modCore_same]
  refine ⟨rfl, bytes, regs, units, cores, ?_, ?_, ?_, ?_, ?_⟩
  all_goals rw [withDev_dev, core]
  · exact fun j other => tget_tset_other _ _ _ _ other
  all_goals rfl

theorem groupIn_withGroup (s : Dev) (e : Env) (g : Group) : groupIn (finish (modCore s e.core (withGroup e.gno g))) e = g := by
  rw [groupIn_modCore]
  exact tgetD_tset_same _ _ _ _

/-- A group that moves on stands behind the instruction. -/
theorem movedOn_advancePc {e : Env} {g : Group} (run : g.run = some e.path) : movedOn e (advancePc g (wLen e.w)) := by
  rw [movedOn, advancePc_run, run]
  rfl

/-- A value that a destination gets counts modulo its width alone. -/
theorem DstGets.congr {s t : State} {e : Env} {dsel : Bool} {k : Nat} {v v' : Nat → Nat} (gets : DstGets s t e dsel k v)
    (same : ∀ l, e.part.toNat.testBit l = true → v l % 2 ^ (32 * k) = v' l % 2 ^ (32 * k)) : DstGets s t e dsel k v' := by
  obtain ⟨only, moved, paths, values⟩ := gets
  refine ⟨only, moved, paths, ?_⟩
  cases dsel with
  | true =>
    obtain ⟨written, others⟩ := values
    exact ⟨fun l lane lowest => (written l lane lowest).trans (same l lane), others⟩
  | false =>
    obtain ⟨written, others⟩ := values
    exact ⟨fun l lane => (written l lane).trans (same l lane), others⟩

/-- Writing a destination and moving on is what `DstGets` says. -/
theorem dstGets_writeDst (s : State) {e : Env} (dsel : Bool) (k : Nat) (v : Nat → Nat) (run : e.g.run = some e.path)
    (fits : dsel = false → wDst e.w + k ≤ 256) :
    DstGets s { s with dev := finish (complete s.dev e (writeDst e.g dsel (wDst e.w) k ((lanesOf e.part).map (fun l => (l, v l))))) } e dsel k v :=
  dstGets_of_complete s e _ dsel k v run fits rfl

/-- A base word that carries no second word is 8 bytes long (R87, R88). -/
theorem wLen_eq_eight {w : Word64} (select : (selCk w).rsv = false) (noSource : (noB w).rsv = false) : wLen w = 8 := by
  have notLong : wLong w = false := by
    have immediate : (wBsel w == 3) = false := by
      simp only [noB, rsvIf, Bool.or_eq_false_iff, bne_eq_false_iff_eq] at noSource
      simp [noSource.2]
    simpa [selCk, rsvIf, immediate] using select
  simp [wLen, notLong]

/-- Lanes stand in increasing order. -/
theorem pairwise_lanesOf (m : LaneMask) : (lanesOf m).Pairwise (· < ·) := by
  have rising : ∀ n x i, (bitList n x i).Pairwise (· < ·) := by
    intro n
    induction n with
    | zero => intro x i; exact List.Pairwise.nil
    | succ n ih =>
      intro x i
      unfold bitList
      split
      · refine List.pairwise_cons.mpr ⟨fun j later => ?_, ih _ _⟩
        have := (mem_bitList _ _ _ _).mp later
        omega
      · exact ih _ _
  exact rising _ _ _

theorem lanesOf_ne_nil {m : LaneMask} (some : m ≠ 0) : lanesOf m ≠ [] := by
  intro none
  refine some (BitVec.eq_of_getLsbD_eq fun l _ => ?_)
  have absent : ¬ m.toNat.testBit l = true := fun lane => by simpa [none] using (mem_lanesOf m l).mpr lane
  simpa [BitVec.testBit_toNat] using absent

end Sys2Proof.Machine
end

section
/-!
The obligation on SREAD, SPGN, SPGL, SSLOT and NOP (R92, R112, R119, R120).
-/
namespace Sys2Proof.Machine

/-- SREAD whose checks pass writes the special register. -/
theorem sreadGroup_eq {v : VCtx} {w : Word64} (second : Word64) (g : Group) (part : LaneMask) (ok : ckCode (sreadCk w v.regs) = 0) :
    sreadGroup v w second g part = .ok (writeDst g (iDsel w) (wDst w) 1 ((lanesOf part).map (fun l => (l, sregVal v g l (wMod w 0 5))))) :=
  checked_ok _ ok

/-- The count of free values is no part of what a destination's result keeps. -/
theorem DstGets.withFree {s t : State} {e : Env} {dsel : Bool} {k : Nat} {v : Nat → Nat} (gets : DstGets s t e dsel k v) (n : Nat) :
    DstGets s { t with dev := { t.dev with free := n } } e dsel k v := gets

theorem groupIn_withFree (t : Dev) (n : Nat) (e : Env) : groupIn { t with free := n } e = groupIn t e := rfl

theorem finish_withFree (s : Dev) (n : Nat) : finish { s with free := n } = { finish s with free := n } := by
  unfold finish fset regWrite
  rfl

/-- SREAD completes with the special register; a read of CYCLE takes a free value. -/
theorem exec_sread {s : State} {i : Issue} {e : Env} (ready : Ready s.dev i 0x4F e) (lanes : e.part ≠ 0)
    (ok : ckCode (sreadCk e.w e.d.shape.regs) = 0) :
    ∃ t, exec (.sread i) s = .next t ∧ (groupIn t.dev e).flags = e.g.flags
      ∧ DstGets s t e (iDsel e.w) 1 (fun l => sregVal (tells s.dev e) e.g l (wMod e.w 0 5)) := by
  have fits : iDsel e.w = false → wDst e.w + 1 ≤ 256 := fun _ => wDst_lt e.w
  have gets := dstGets_writeDst s (iDsel e.w) 1 (fun l => sregVal (tells s.dev e) e.g l (wMod e.w 0 5)) ready.run_eq fits
  have local_ : runLocal sreadGroup e s.dev = complete s.dev e
      (writeDst e.g (iDsel e.w) (wDst e.w) 1 ((lanesOf e.part).map (fun l => (l, sregVal (tells s.dev e) e.g l (wMod e.w 0 5))))) := by
    unfold runLocal
    rw [← tells, sreadGroup_eq (v := tells s.dev e) e.second e.g e.part ok]
  have flags : (groupIn (finish (runLocal sreadGroup e s.dev)) e).flags = e.g.flags := by simp [local_, groupIn_complete]
  rw [← local_] at gets
  refine ⟨_, perform_ready _ ready rfl (.inl lanes), ?_⟩
  dsimp only
  split
  · rw [finish_withFree]
    exact ⟨(congrArg Group.flags (groupIn_withFree _ _ e)).trans flags, gets.withFree _⟩
  · exact ⟨flags, gets⟩

/-- SPGN in a launch over sessions whose checks pass writes the page count. -/
theorem spgnGroup_eq {v : VCtx} {w : Word64} (second : Word64) (g : Group) (part : LaneMask) (ok : ckCode (spgnCk w v.regs) = 0)
    (sessions : v.plain = false) :
    spgnGroup v w second g part = .ok (writeDst g false (wDst w) 1 ((lanesOf part).map (fun l => (l, v.kvCount)))) := by
  simp [spgnGroup, ok, sessions, writeDst]

/-- SSLOT with a slot of the batch, whose checks pass, sets it. -/
theorem sslotGroup_eq {v : VCtx} {w second : Word64} {g : Group} (part : LaneMask) (ok : ckCode (sslotCk w second) = 0)
    (within : srcB g w second 0 1 < if v.plain then 1 else v.batch) :
    sslotGroup v w second g part = .ok { g with slot := srcB g w second 0 1 } := by
  simp [sslotGroup, ok, not_le.mpr within]

/-- SPGL of entries that exist writes their addresses. -/
theorem exec_spgl {s : State} {i : Issue} {e : Env} (ready : Ready s.dev i 0x6B e) (lanes : e.part ≠ 0)
    (ok : ckCode (ckAll [selCk e.w, modCk e.w 0, noA e.w, bCk e.w e.second 1 e.d.shape.regs, gCk (wDst e.w) 2 e.d.shape.regs]) = 0)
    (sessions : e.d.plain = false) (within : ∀ l, e.part.toNat.testBit l = true → srcB e.g e.w e.second l 1 < (slotOf e.d e.g.slot).kvCount) :
    ∃ t, exec (.spgl i) s = .next t ∧ (groupIn t.dev e).flags = e.g.flags
      ∧ DstGets s t e false 2 (fun l => (slotOf e.d e.g.slot).kvVa + 8 + 8 * srcB e.g e.w e.second l 1) := by
  have legal : (lanesOf e.part).any (fun l => decide (srcB e.g e.w e.second l 1 ≥ (slotOf e.d e.g.slot).kvCount)) = false := by
    simpa [mem_lanesOf] using within
  have fits : wDst e.w + 2 ≤ 256 := by
    obtain ⟨-, dst⟩ := ckCode_ckAll ok (gCk (wDst e.w) 2 e.d.shape.regs) (by simp)
    exact gCk_fits dst (wDst_lt _) (by simp)
  have gets : DstGets s { s with dev := finish (complete s.dev e (writeDst e.g false (wDst e.w) 2 ((lanesOf e.part).map (fun l =>
      (l, ((slotOf e.d e.g.slot).kvVa + 8 + 8 * srcB e.g e.w e.second l 1) % 2 ^ 64))))) } e false 2 _ :=
    dstGets_writeDst s false 2 _ ready.run_eq (fun _ => fits)
  refine ⟨_, (perform_ready _ ready rfl (.inl lanes)).trans ?_, ?_, gets.congr fun l _ => Nat.mod_mod _ _⟩
  · simp only [orFail_ok ok, sessions, legal, Bool.false_eq_true, if_false, writeDst]
  · simp [groupIn_complete]

/-- Settles O9: each reads what its code, its slot or its page list names. -/
theorem specialReads : Obligations.SpecialReads := by
  unfold Obligations.SpecialReads
  intro s i e
  refine ⟨exec_sread, fun ready lanes ok => ?_, fun ready lanes ok within => ?_, fun ready lanes ok sessions => ?_, exec_spgl⟩
  · refine ⟨_, perform_runLocal ready rfl lanes (checked_ok _ ok), complete_onlyGroup s e e.g, ?_⟩
    rw [withDev_dev, groupIn_complete]
    exact ⟨movedOn_advancePc ready.run_eq, ⟨rfl, rfl, rfl, rfl, rfl, rfl, rfl⟩, rfl, rfl, rfl, rfl⟩
  · refine ⟨_, perform_runLocal ready rfl lanes (sslotGroup_eq (v := tells s.dev e) _ ok within), complete_onlyGroup s e _, ?_⟩
    rw [withDev_dev, groupIn_complete]
    exact ⟨movedOn_advancePc ready.run_eq, rfl, rfl, rfl, rfl, rfl⟩
  · refine ⟨_, perform_runLocal ready rfl lanes (spgnGroup_eq (v := tells s.dev e) e.second e.g e.part ok sessions), ?_, ?_⟩
    · simp [groupIn_complete]
    · exact dstGets_of_complete s e _ false 1 _ ready.run_eq (fun _ => wDst_lt e.w) rfl

end Sys2Proof.Machine
end

section
/-!
The obligation on branches (R66, R67, R112).
-/
namespace Sys2Proof.Machine

/-- A group as its next instruction finds it, on a path, with paths behind it. -/
def onPath (g : Group) (p : Path) (queue : List Path) : Group := { freshInstr g with run := some p, queue := queue }

/-- A path that yields joins the back of the queue, and the front runs (R67). -/
theorem yieldPath_eq (g : Group) (p : Path) : yieldPath { freshInstr g with run := some p } = onPath g (g.queue.headD p) ((g.queue ++ [p]).drop 1) := by
  unfold yieldPath schedule onPath
  cases queue : g.queue with
  | nil => simp [freshInstr, queue]
  | cons q rest => simp [freshInstr, queue]

section
variable {s : State} {i : Issue} {op : Nat} {e : Env} (ready : Ready s.dev i op e) (g : Group) (target : Nat)
include ready

/-- Where only some lanes take the branch, the others run on. -/
theorem takeBranch_part (some : e.part ≠ e.path.mask) :
    takeBranch g e.path e.part (e.path.pc + 8) target
      = onPath g ⟨e.path.pc + 8, e.path.mask &&& ~~~e.part⟩ (g.queue ++ [⟨target, e.part⟩]) := by
  unfold takeBranch
  simp only [if_neg (fun rest => some ((rest_eq_zero_iff ready).mp rest))]
  rfl

/-- Where all lanes branch beyond the instruction, the path goes on there. -/
theorem takeBranch_forward (all : e.part = e.path.mask) (beyond : e.path.pc < target) :
    takeBranch g e.path e.part (e.path.pc + 8) target = onPath g ⟨target, e.part⟩ g.queue := by
  unfold takeBranch
  dsimp only
  rw [if_pos ((rest_eq_zero_iff ready).mpr all), if_neg (not_le.mpr beyond), all]
  rfl

/-- Where all lanes branch back, the path yields. -/
theorem takeBranch_back (all : e.part = e.path.mask) (back : target ≤ e.path.pc) :
    takeBranch g e.path e.part (e.path.pc + 8) target
      = onPath g (g.queue.headD ⟨target, e.part⟩) ((g.queue ++ [Path.mk target e.part]).drop 1) := by
  unfold takeBranch
  dsimp only
  rw [if_pos ((rest_eq_zero_iff ready).mpr all), if_pos back, all]
  exact yieldPath_eq g _

/-- A branch changes the running path and the queue. -/
theorem takeBranch_onPath : ∃ p queue, takeBranch g e.path e.part (e.path.pc + 8) target = onPath g p queue := by
  by_cases all : e.part = e.path.mask
  · rcases lt_or_ge e.path.pc target with beyond | back
    · exact ⟨_, _, takeBranch_forward ready g target all beyond⟩
    · exact ⟨_, _, takeBranch_back ready g target all back⟩
  · exact ⟨_, _, takeBranch_part ready g target all⟩

/-- Where the lanes that take part go on, and where the others do. -/
theorem takeBranch_paths (g' : Group) (taken : g' = takeBranch g e.path e.part (e.path.pc + 8) target) :
    (e.part = e.path.mask → e.path.pc < target → g'.run = some ⟨target, e.part⟩ ∧ g'.queue = g.queue)
      ∧ (e.part = e.path.mask → target ≤ e.path.pc →
          g'.run = some (g.queue.headD ⟨target, e.part⟩) ∧ g'.queue = (g.queue ++ [Path.mk target e.part]).drop 1)
      ∧ (e.part ≠ e.path.mask → g'.run = some ⟨e.path.pc + 8, e.path.mask &&& ~~~e.part⟩ ∧ g'.queue = g.queue ++ [Path.mk target e.part]) := by
  subst taken
  refine ⟨fun all beyond => ?_, fun all back => ?_, fun some => ?_⟩
  · rw [takeBranch_forward ready g target all beyond]
    exact ⟨rfl, rfl⟩
  · rw [takeBranch_back ready g target all back]
    exact ⟨rfl, rfl⟩
  · rw [takeBranch_part ready g target some]
    exact ⟨rfl, rfl⟩

end

/-- Equal targets are one target. -/
theorem foldl_insertNat_const (l : List Nat) (f : Nat → Nat) (target : Nat) (some : l ≠ []) (same : ∀ x ∈ l, f x = target) :
    l.foldl (fun ts x => insertNat (f x) ts) [] = [target] := by
  cases l with
  | nil => exact absurd rfl some
  | cons a l =>
    rw [List.foldl_cons]
    refine List.foldlRecOn (motive := fun ts => ts = [target]) _ _ ?_ ?_
    · rw [same a (by simp)]
      rfl
    · rintro _ rfl x later
      rw [same x (by simp [later])]
      simp [insertNat]

/-- A test that holds in every lane holds in the whole mask. -/
theorem laneTest_all {part : LaneMask} {p : Nat → Bool} (all : ∀ l, part.toNat.testBit l = true → p l = true) : laneTest part p = part := by
  apply BitVec.eq_of_getLsbD_eq
  intro l inside
  rw [← BitVec.testBit_toNat, ← BitVec.testBit_toNat]
  by_cases lane : part.toNat.testBit l = true
  · rw [testBit_laneTest part p lane, lane, all l lane]
  · rw [laneTest, testBit_maskOf]
    simp [mem_lanesOf, lane]

/-- An indirect branch of all taking lanes to one target is one path there. -/
theorem takeIndirect_one (g : Group) (p : Path) {part : LaneMask} (next target : Nat) {tgt : Nat → Nat} (lanes : part ≠ 0)
    (same : ∀ l, part.toNat.testBit l = true → tgt l = target) :
    takeIndirect g p part next tgt
      = if p.mask &&& ~~~part = 0 then yieldPath { freshInstr g with run := some ⟨target, part⟩ }
        else onPath g ⟨next, p.mask &&& ~~~part⟩ (g.queue ++ [⟨target, part⟩]) := by
  have one := foldl_insertNat_const (lanesOf part) tgt target (lanesOf_ne_nil lanes) (fun l lane => same l ((mem_lanesOf _ _).mp lane))
  have whole : laneTest part (fun l => tgt l == target) = part := laneTest_all (fun l lane => by simp [same l lane])
  unfold takeIndirect
  simp only [one, List.map_cons, List.map_nil, whole]
  rfl

/-- CALL completes with its return address, and branches as JMP. -/
theorem exec_call {s : State} {i : Issue} {e : Env} (ready : Ready s.dev i 0x4A e) (lanes : e.part ≠ 0)
    (ok : ckCode (ckAll [branchCk e.w, gCk (wDst e.w) 2 e.d.shape.regs]) = 0) :
    let linked := writeLanes e.g (wDst e.w) 2 ((lanesOf e.part).map (fun l => (l, (e.path.pc + 8) % 2 ^ 64)))
    ∃ t, exec (.call i) s = .next t ∧ OnlyGroup s t e
      ∧ groupIn t.dev e = takeBranch linked e.path e.part (e.path.pc + 8) (branchTarget e.w e.path.pc)
      ∧ linked.queue = e.g.queue ∧ linked.flags = e.g.flags
      ∧ (∀ l, e.part.toNat.testBit l = true → readG linked l (wDst e.w) 2 = (e.path.pc + 8) % 2 ^ 64) ∧ SameButG (wDst e.w) 2 e.part e.g linked := by
  intro linked
  have keep : linked = { e.g with gr := linked.gr } := writeLanes_eq _ _ _ _
  have fits : wDst e.w + 2 ≤ 256 := by
    obtain ⟨-, dst⟩ := ckCode_ckAll ok (gCk (wDst e.w) 2 e.d.shape.regs) (by simp)
    exact gCk_fits dst (wDst_lt _) (by simp)
  refine ⟨_, (perform_ready _ ready rfl (.inl lanes)).trans ?_, onlyGroup_withGroup s e _, groupIn_withGroup _ _ _, ?_, ?_, fun l lane => ?_, ?_⟩
  · simp only [orFail_ok ok, tickSeq_putGroup]
    rfl
  · rw [keep]
  · rw [keep]
  · exact (readG_writeLanes _ _ _ _ (fun _ => (e.path.pc + 8) % 2 ^ 64) l fits (nodup_lanesOf _) ((mem_lanesOf _ _).mpr lane)).trans
      (Nat.mod_mod _ _)
  · refine ⟨fun lane n inside other => gReg_writeLanes_other _ _ _ _ _ _ fits inside (other.imp (fun absent => ?_) id), writeLanes_pr _ _ _ _,
      writeLanes_ur _ _ _ _⟩
    rintro p written rfl
    obtain ⟨l, lane, rfl⟩ := List.mem_map.mp written
    rw [(mem_lanesOf _ _).mp lane] at absent
    cases absent

/-- Settles O10: what a branch leaves of the running path and the queue, by whether all of the path's lanes take it. -/
theorem branches : Obligations.Branches := by
  unfold Obligations.Branches
  intro s i e
  refine ⟨fun ready lanes ok => ?_, fun ready lanes ok => ?_, fun target ready lanes ok aligned same => ?_⟩
  · refine ⟨_, (perform_ready _ ready rfl (.inl lanes)).trans ?_, onlyGroup_withGroup s e (takeBranch e.g e.path e.part (e.path.pc + 8)
      (branchTarget e.w e.path.pc)), ?_⟩
    · rw [orFail_ok ok, tickSeq_putGroup]
    · rw [withDev_dev, groupIn_withGroup]
      obtain ⟨p, queue, taken⟩ := takeBranch_onPath ready e.g (branchTarget e.w e.path.pc)
      refine ⟨?_, ?_, ?_, ?_, takeBranch_paths ready e.g _ _ rfl⟩
      all_goals
        rw [taken]
        rfl
  · obtain ⟨t, ran, only, group, queue, flags, written, others⟩ := exec_call ready lanes ok
    have paths := takeBranch_paths ready _ _ _ group
    rw [queue] at paths
    obtain ⟨p, queue', taken⟩ := takeBranch_onPath ready
      (writeLanes e.g (wDst e.w) 2 ((lanesOf e.part).map (fun l => (l, (e.path.pc + 8) % 2 ^ 64)))) (branchTarget e.w e.path.pc)
    refine ⟨t, ran, only, ?_, ?_, ?_, paths⟩
    all_goals rw [group, taken]
    · exact written
    · exact others
    · exact flags
  · have notMisaligned : (lanesOf e.part).any (fun l => srcA e.g e.w l 2 % 8 != 0) = false := by simpa [mem_lanesOf] using aligned
    refine ⟨_, (perform_ready _ ready rfl (.inl lanes)).trans ?_, onlyGroup_withGroup s e (takeIndirect e.g e.path e.part (e.path.pc + 8)
      (fun l => srcA e.g e.w l 2)), ?_⟩
    · simp only [orFail_ok ok, notMisaligned, Bool.false_eq_true, if_false, tickSeq_putGroup]
    · rw [withDev_dev, groupIn_withGroup, takeIndirect_one e.g e.path _ target lanes same, yieldPath_eq]
      by_cases all : e.part = e.path.mask
      · rw [if_pos ((rest_eq_zero_iff ready).mpr all)]
        exact ⟨rfl, rfl, rfl, rfl, fun _ => ⟨rfl, rfl⟩, fun some => absurd all some⟩
      · rw [if_neg (fun rest => all ((rest_eq_zero_iff ready).mp rest))]
        exact ⟨rfl, rfl, rfl, rfl, fun whole => absurd whole all, fun _ => ⟨rfl, rfl⟩⟩

end Sys2Proof.Machine
end

section
/-!
The obligation on convergence (R69).
-/
namespace Sys2Proof.Machine

/-- A JOIN that names no waiting record, or none of this path's threads, has no effect. -/
theorem joinGroup_elsewhere {g : Group} {p : Path} (elsewhere : ∀ r, g.recs.head? = some r → r.addr ≠ p.pc ∨ p.mask &&& r.mask = 0) :
    joinGroup g p = advancePc g 8 := by
  unfold joinGroup
  cases recs : g.recs with
  | nil => rfl
  | cons r rs =>
    have apart := elsewhere r (by rw [recs]; rfl)
    simp only [if_pos apart]

section
variable {g : Group} {p : Path} {r : ConvRec} {rs : List ConvRec} (top : g.recs = r :: rs) (here : r.addr = p.pc)
  (whole : p.mask &&& r.mask = p.mask) (some : p.mask ≠ 0)
include top here whole some

/-- No thread of a path of the record's threads runs on beside the record. -/
theorem joinGroup_here :
    joinGroup g p
      = if r.mask &&& ~~~(r.waiting ||| p.mask) = 0 then
          { freshInstr g with recs := rs, run := Option.some ⟨(p.pc + 8) % 2 ^ 64, r.waiting ||| p.mask⟩ }
        else schedule { freshInstr g with recs := { r with waiting := r.waiting ||| p.mask } :: rs, run := none } := by
  have none : p.mask &&& ~~~r.mask = 0 := by
    rw [← whole, BitVec.eq_of_getLsbD_eq_iff]
    intro l inside
    simp only [BitVec.getLsbD_and, BitVec.getLsbD_not]
    cases p.mask.getLsbD l <;> cases r.mask.getLsbD l <;> simp
  have joins : ¬ (r.addr ≠ p.pc ∨ p.mask = 0) := fun apart => apart.elim (fun away => away here) some
  unfold joinGroup
  simp only [top, whole, if_neg joins, none, if_true, recComplete, beq_iff_eq, List.append_nil]

end

/-- JOIN keeps the group's registers and flags. -/
theorem joinGroup_keeps (g : Group) (p : Path) :
    (joinGroup g p).gr = g.gr ∧ (joinGroup g p).ur = g.ur ∧ (joinGroup g p).pr = g.pr ∧ (joinGroup g p).flags = g.flags := by
  have scheduled : ∀ g : Group, (schedule g).gr = g.gr ∧ (schedule g).ur = g.ur ∧ (schedule g).pr = g.pr ∧ (schedule g).flags = g.flags := by
    intro g
    unfold schedule
    split <;> exact ⟨rfl, rfl, rfl, rfl⟩
  unfold joinGroup
  split
  · exact ⟨rfl, rfl, rfl, rfl⟩
  · dsimp only
    split
    · exact ⟨rfl, rfl, rfl, rfl⟩
    · split
      · exact ⟨rfl, rfl, rfl, rfl⟩
      · exact scheduled _

/-- Where a path stops, the front of the queue runs. -/
theorem schedule_stopped {g : Group} (stopped : g.run = none) :
    (schedule g).run = g.queue.head? ∧ (schedule g).queue = g.queue.drop 1 ∧ (schedule g).recs = g.recs := by
  unfold schedule
  cases queue : g.queue <;> simp [stopped, queue]

/-- Settles O11: a record pushed, waited at, completed, or left alone. -/
theorem convergence : Obligations.Convergence := by
  unfold Obligations.Convergence
  intro s i e
  refine ⟨fun ready ok room => ?_, fun ready ok => ?_⟩
  · refine ⟨_, (perform_ready _ ready rfl (.inr rfl)).trans ?_, complete_onlyGroup s e
      { e.g with recs := ⟨branchTarget e.w e.path.pc, e.path.mask, 0⟩ :: e.g.recs }, ?_⟩
    · rw [orFail_ok ok, if_neg (not_le.mpr room)]
    · rw [withDev_dev, groupIn_complete]
      exact ⟨movedOn_advancePc ready.run_eq, rfl, rfl, rfl, rfl, rfl, rfl⟩
  · refine ⟨_, (perform_ready _ ready rfl (.inr rfl)).trans ?_, onlyGroup_withGroup s e (joinGroup e.g e.path), ?_⟩
    · rw [orFail_ok ok, tickSeq_putGroup]
    · rw [withDev_dev, groupIn_withGroup]
      obtain ⟨gr, ur, pr, flags⟩ := joinGroup_keeps e.g e.path
      refine ⟨gr, ur, pr, flags, fun elsewhere => ?_, fun r rs top here whole some => ⟨fun last => ?_, fun waits => ?_⟩⟩
      · rw [joinGroup_elsewhere elsewhere, advancePc_run, ready.run_eq]
        exact ⟨rfl, rfl, rfl⟩
      · rw [joinGroup_here top here whole some, if_pos last]
        exact ⟨rfl, rfl, rfl⟩
      · rw [joinGroup_here top here whole some, if_neg waits]
        obtain ⟨run, queue, recs⟩ := schedule_stopped
          (g := { freshInstr e.g with recs := { r with waiting := r.waiting ||| e.path.mask } :: rs, run := none }) rfl
        exact ⟨recs, run, queue⟩

end Sys2Proof.Machine
end

section
/-!
The obligation on barriers and END (R70, R71).
-/
namespace Sys2Proof.Machine

/-- An entry that a table gives is one of its pairs. -/
theorem mem_of_tget {V : Type} {t : List (Nat × V)} {k : Nat} {v : V} (found : tget t k = some v) : (k, v) ∈ t := by
  induction t with
  | nil => cases found
  | cons p t ih =>
    obtain ⟨j, x⟩ := p
    unfold tget at found
    split at found
    · rename_i here
      obtain rfl := Option.some.inj found
      simp [here]
    · exact List.mem_cons_of_mem _ (ih found)

/-! ### Barriers -/

/-- A group of one path that arrives at barrier b. -/
def arrived (g : Group) (b : Nat) (p : Path) : Group := { freshInstr g with run := none, bars := [(b, p)] }

section
variable {g : Group} {b : Nat} {p : Path} (live : g.done = false) (queue : g.queue = []) (recs : g.recs = [])
include queue

theorem schedule_arrived : schedule (arrived g b p) = arrived g b p := by
  have still : (arrived g b p).queue = [] := queue
  unfold schedule
  rw [still]
  rfl

/-- Where the barrier completes, the path that arrived runs on. -/
theorem leaveBarrier_arrived : leaveBarrier (arrived g b p) = { freshInstr g with run := some p, bars := [] } := by
  have still : (arrived g b p).queue = [] := queue
  unfold leaveBarrier schedule arrived
  simp [freshInstr, queue]

include recs

theorem atBarrier_arrived : atBarrier (arrived g b p) b = true := by
  have still : (arrived g b p).queue = [] := queue
  have none : (arrived g b p).recs = [] := recs
  simp [atBarrier, still, none]
  simp [arrived]

include live

/-- What the arrival leaves of the group: it waits while a group of its set is still to come, and the last arrival lets it run on (R70). -/
theorem tget_settleBarriers {c : Core} {n : Nat} (here : tget c.groups n = some (arrived g b p)) :
    tget (settleBarriers c n).groups n
      = some (if c.groups.all (fun q => q.2.set != g.set || atBarrier q.2 b) then { freshInstr g with run := some p, bars := [] }
          else arrived g b p) := by
  have settled : settleBarriers c n = completeBarrier c g.set b := by
    have bars : (arrived g b p).bars = [(b, p)] := rfl
    unfold settleBarriers
    simp only [here, bars, atBarrier_arrived queue recs, if_true]
    rfl
  rw [settled]
  unfold completeBarrier
  split
  · have set : (arrived g b p).set = g.set := rfl
    have notDone : (arrived g b p).done = false := live
    rw [tget_tmap, here]
    simp only [Option.map_some, set, notDone, Bool.not_false, and_self, if_true, leaveBarrier_arrived queue]
  · exact here

end

/-- BAR leaves its core with the group arrived, and the barrier settled. -/
def barCore (gno : Nat) (g : Group) (c : Core) : Core := settleBarriers (withGroup gno g c) gno

/-- BAR's effect on a group of one path. -/
theorem exec_bar {s : State} {i : Issue} {e : Env} (ready : Ready s.dev i 0x3E e)
    (ok : ckCode (ckAll [selCk e.w, modCk e.w 0xF, noA e.w, noB e.w, noD e.w, argIf (!alwaysGuard e.w)]) = 0)
    (stored : ownStoresPending e.c e.gno = false) (bars : e.g.bars = []) (queue : e.g.queue = []) :
    exec (.bar i) s = .next { s with dev := finish (modCore s.dev e.core
      (barCore e.gno (arrived e.g (wMod e.w 0 4) ⟨(e.path.pc + 8) % 2 ^ 64, e.path.mask⟩))) } := by
  refine (perform_ready _ ready rfl (.inr rfl)).trans ?_
  rw [orFail_ok ok, stored]
  simp only [Bool.false_eq_true, if_false, bars, List.nil_append]
  rw [tickSeq_putGroup, modCore_modCore]
  have same : schedule { freshInstr e.g with run := none, bars := [(wMod e.w 0 4, ⟨(e.path.pc + 8) % 2 ^ 64, e.path.mask⟩)] }
      = arrived e.g (wMod e.w 0 4) ⟨(e.path.pc + 8) % 2 ^ 64, e.path.mask⟩ := schedule_arrived queue
  rw [same]
  rfl

/-! ### END -/

/-- Letting the front run changes the running path and the queue. -/
theorem schedule_eq (g : Group) : schedule g = { g with run := (schedule g).run, queue := (schedule g).queue } := by
  unfold schedule
  split <;> rfl

/-- Ending threads keeps registers, and the group ends not by itself. -/
theorem endThreads_keeps (g : Group) (m : LaneMask) :
    (endThreads g m).gr = g.gr ∧ (endThreads g m).ended = g.ended ||| m ∧ (endThreads g m).done = g.done := by
  unfold endThreads
  rw [schedule_eq]
  exact ⟨rfl, rfl, rfl⟩

/-- Settling barriers leaves a live group as it is, or lets its paths resume. -/
theorem settleBarriers_keeps {c : Core} {n : Nat} {g : Group} (here : tget c.groups n = some g) :
    tget (settleBarriers c n).groups n = some g ∨ tget (settleBarriers c n).groups n = some (leaveBarrier g) := by
  unfold settleBarriers
  rw [here]
  dsimp only
  split
  · split
    · unfold completeBarrier
      split
      · rw [tget_tmap, here, Option.map_some]
        split
        · exact .inr rfl
        · exact .inl rfl
      · exact .inl here
    · exact .inl here
  · exact .inl here

/-- What END does to its core. -/
def endCore (gno : Nat) (g : Group) (c : Core) : Core :=
  if g.ended = 0xFFFFFFFF then endGroup c gno g else settleBarriers { c with groups := tset c.groups gno g } gno

/-- The group after END: its threads have ended, and it has ended with the last of them. -/
theorem tget_endCore (c : Core) (gno : Nat) {g : Group} (live : g.done = false) :
    ∃ g', tget (endCore gno g c).groups gno = some g' ∧ g'.gr = g.gr ∧ g'.ended = g.ended ∧ (g'.done = true ↔ g.ended = 0xFFFFFFFF) := by
  unfold endCore
  split
  · rename_i last
    exact ⟨_, tget_endGroup c gno g, rfl, last.symm, iff_of_true rfl last⟩
  · rename_i some
    rcases settleBarriers_keeps (c := { c with groups := tset c.groups gno g }) (tget_tset_same c.groups gno g) with same | resumed
    · exact ⟨_, same, rfl, rfl, iff_of_false (by simp [live]) some⟩
    · refine ⟨_, resumed, ?_⟩
      unfold leaveBarrier
      rw [schedule_eq]
      exact ⟨rfl, rfl, iff_of_false (by simp [live]) some⟩

/-- END's effect. -/
theorem exec_endOp {s : State} {i : Issue} {e : Env} (ready : Ready s.dev i 0x4D e) (lanes : e.part ≠ 0)
    (ok : ckCode (ckAll [selCk e.w, modCk e.w 0, noA e.w, noB e.w, noD e.w]) = 0) :
    exec (.endOp i) s = .next { s with dev := finish (modCore s.dev e.core (fun c =>
      { endCore e.gno (endThreads (advancePc e.g 8) e.part) c with seq := (endCore e.gno (endThreads (advancePc e.g 8) e.part) c).seq + 1 })) } := by
  refine (perform_ready _ ready rfl (.inl lanes)).trans ?_
  rw [orFail_ok ok]
  exact congrArg (fun d => Host.Outcome.next { s with dev := finish d }) (modCore_modCore s.dev e.core _ _)

/-- Settles O12: BAR by whether its set is there, END by whether threads are left. -/
theorem barriersAndEnd : Obligations.BarriersAndEnd := by
  unfold Obligations.BarriersAndEnd
  intro s i e
  refine ⟨fun ready ok stored bars queue recs => ?_, fun ready lanes ok => ?_⟩
  · obtain ⟨-, own, live⟩ := ready.own
    obtain ⟨bytes, regs, units, cores⟩ := modCore_leaves s e.core
      (barCore e.gno (arrived e.g (wMod e.w 0 4) ⟨(e.path.pc + 8) % 2 ^ 64, e.path.mask⟩))
    refine ⟨_, exec_bar ready ok stored bars queue, rfl, bytes, regs, units, cores, ?_⟩
    rw [withDev_dev, groupIn_modCore]
    unfold barCore tgetD
    rw [tget_settleBarriers live queue recs (tget_tset_same _ _ _)]
    have all : (withGroup e.gno (arrived e.g (wMod e.w 0 4) ⟨(e.path.pc + 8) % 2 ^ 64, e.path.mask⟩) (coreOf s.dev e.core)).groups
        = tset (coreOf s.dev e.core).groups e.gno (arrived e.g (wMod e.w 0 4) ⟨(e.path.pc + 8) % 2 ^ 64, e.path.mask⟩) := rfl
    rw [all, Option.getD_some]
    split
    · rename_i there
      refine ⟨rfl, rfl, rfl, rfl, queue, ?_, fun _ => ⟨rfl, rfl⟩⟩
      rintro ⟨n, o, other, apart, set, away⟩
      have inTable := mem_of_tget ((tget_tset_other (coreOf s.dev e.core).groups e.gno n
        (arrived e.g (wMod e.w 0 4) ⟨(e.path.pc + 8) % 2 ^ 64, e.path.mask⟩) apart).trans other)
      have := List.all_eq_true.mp there _ inTable
      simp [set, away] at this
    · rename_i notAll
      exact ⟨rfl, rfl, rfl, rfl, queue, fun _ => ⟨rfl, rfl⟩, fun there => absurd there notAll⟩
  · obtain ⟨-, -, live⟩ := ready.own
    obtain ⟨gr, ended, done⟩ := endThreads_keeps (advancePc e.g 8) e.part
    obtain ⟨g', found, gr', ended', done'⟩ := tget_endCore (coreOf s.dev e.core) e.gno (done.trans live)
    obtain ⟨bytes, regs, units, cores⟩ := modCore_leaves s e.core (fun c =>
      { endCore e.gno (endThreads (advancePc e.g 8) e.part) c with seq := (endCore e.gno (endThreads (advancePc e.g 8) e.part) c).seq + 1 })
    refine ⟨_, exec_endOp ready lanes ok, rfl, bytes, regs, units, cores, ?_⟩
    rw [withDev_dev, groupIn_modCore]
    unfold tgetD
    dsimp only
    rw [found, Option.getD_some, gr', ended', done', gr, ended]
    exact ⟨rfl, rfl, Iff.rfl⟩

end Sys2Proof.Machine
end

section
/-!
SUPPORT. The local store (R63): bytes read and written.
-/
namespace Sys2Proof.Machine

/-- A number's bytes, put together from the lowest. -/
theorem ofLe_map_range (f : Nat → Byte) (n : Nat) :
    ofLe ((List.range (n + 1)).map f) = (f 0).toNat + 256 * ofLe ((List.range n).map (fun j => f (j + 1))) := by
  rw [List.range_succ_eq_map, List.map_cons, List.map_map]
  rfl

/-- A read of the local store puts its bytes together, lowest first. -/
theorem lsRead_eq_ofLe (c : Core) (a n : Nat) : lsRead c a n = ofLe ((List.range n).map (fun j => lsByte c (a + j))) := by
  induction n generalizing a with
  | zero => rfl
  | succ n ih =>
    rw [lsRead, ih, ofLe_map_range]
    simp only [Nat.add_right_comm, Nat.add_assoc, Nat.add_zero, lsByte]

/-- A read depends on the bytes of its range alone. -/
theorem lsRead_congr {c d : Core} {a n : Nat} (same : ∀ j, j < n → lsByte d (a + j) = lsByte c (a + j)) : lsRead d a n = lsRead c a n := by
  rw [lsRead_eq_ofLe, lsRead_eq_ofLe]
  congr 1
  exact List.map_congr_left (fun j inside => same j (List.mem_range.mp inside))

/-- A read of n bytes is a number of n bytes. -/
theorem lsRead_lt (c : Core) (a n : Nat) : lsRead c a n < 2 ^ (8 * n) := by
  induction n generalizing a with
  | zero => simp [lsRead]
  | succ n ih =>
    have := ih (a + 1)
    have byte : (tgetD c.ls a 0).toNat < 256 := (tgetD c.ls a 0).isLt
    rw [lsRead, show 8 * (n + 1) = 8 * n + 8 by ring, pow_add]
    omega

/-- One byte of the local store; a zero byte is kept as absent. -/
theorem lsByte_put (c : Core) (a v x : Nat) :
    lsByte { c with ls := if v % 256 = 0 then tdel c.ls a else tset c.ls a (BitVec.ofNat 8 v) } x
      = if x = a then BitVec.ofNat 8 v else lsByte c x := by
  unfold lsByte tgetD
  by_cases here : x = a
  · subst here
    rw [if_pos rfl]
    split
    · rename_i zero
      rw [tget_tdel_same]
      exact BitVec.eq_of_toNat_eq zero.symm
    · rw [tget_tset_same]
      rfl
  · rw [if_neg here]
    split
    · rw [tget_tdel_other _ _ _ here]
    · rw [tget_tset_other _ _ _ _ here]

/-- A write of the local store, byte by byte. -/
theorem lsByte_lsWrite (c : Core) (a n v x : Nat) : lsByte (lsWrite c a n v) x = if a ≤ x ∧ x < a + n then byteAt v (x - a) else lsByte c x := by
  induction n generalizing c a v with
  | zero => rw [if_neg (by omega)]; rfl
  | succ n ih =>
    rw [lsWrite, ih, lsByte_put]
    by_cases first : x = a
    · subst first
      rw [if_neg (by omega), if_pos rfl, if_pos (by omega), Nat.sub_self]
      simp [byteAt]
    · rw [if_neg first]
      by_cases inside : a ≤ x ∧ x < a + (n + 1)
      · rw [if_pos (by omega), if_pos inside, byteAt, byteAt, Nat.div_div_eq_div_mul, show (256 : Nat) = 2 ^ 8 by rfl, ← pow_add,
          show 8 + 8 * (x - (a + 1)) = 8 * (x - a) by omega]
      · rw [if_neg (by omega), if_neg inside]

/-- A write of the local store changes nothing else of the core. -/
theorem lsWrite_eq (c : Core) (a n v : Nat) : lsWrite c a n v = { c with ls := (lsWrite c a n v).ls } := by
  induction n generalizing c a v with
  | zero => rfl
  | succ n ih => rw [lsWrite, ih]

/-- What is written reads back, cut to its bytes. -/
theorem lsRead_lsWrite_same (c : Core) (a n v : Nat) : lsRead (lsWrite c a n v) a n = v % 2 ^ (8 * n) := by
  have gen : ∀ m i, i + m = n → lsRead (lsWrite c a n v) (a + i) m = v / 2 ^ (8 * i) % 2 ^ (8 * m) := by
    intro m
    induction m with
    | zero => intro i _; simp [lsRead, Nat.mod_one]
    | succ m ih =>
      intro i sum
      have byte : (tgetD (lsWrite c a n v).ls (a + i) 0) = byteAt v i := by
        have := lsByte_lsWrite c a n v (a + i)
        rw [if_pos (by omega), Nat.add_sub_cancel_left] at this
        exact this
      rw [lsRead, byte, Nat.add_assoc, ih (i + 1) (by omega), byteAt, BitVec.toNat_ofNat, show 8 * (m + 1) = 8 + 8 * m by ring, pow_add 2 8,
        Nat.mod_mul, Nat.div_div_eq_div_mul, ← pow_add, show 8 * i + 8 = 8 * (i + 1) by ring]
      rfl
  have := gen n 0 (by omega)
  simpa using this

/-! ### Writes of lanes, in increasing order -/

section
variable {β γ : Type} (step : β → Nat → β) (see : β → γ) (val : Nat → γ) (covers : Nat → Prop)

/-- What no lane's write covers stays. -/
theorem foldl_uncovered {l : List Nat} {c : β} (misses : ∀ c x, x ∈ l → ¬ covers x → see (step c x) = see c) (apart : ∀ x ∈ l, ¬ covers x) :
    see (l.foldl step c) = see c := by
  refine List.foldlRecOn (motive := fun d => see d = see c) _ _ rfl ?_
  intro d same x lane
  rw [misses d x lane (apart x lane), same]

/-- What a lane's write covers, and no later lane's, is as that lane left it (R77). -/
theorem foldl_last {l : List Nat} {c : β} (misses : ∀ c x, x ∈ l → ¬ covers x → see (step c x) = see c)
    (hits : ∀ c x, x ∈ l → covers x → see (step c x) = val x) (rising : l.Pairwise (· < ·)) {x : Nat} (lane : x ∈ l) (covered : covers x)
    (last : ∀ y ∈ l, x < y → ¬ covers y) : see (l.foldl step c) = val x := by
  induction l generalizing c with
  | nil => cases lane
  | cons y l ih =>
    obtain ⟨first, rest⟩ := List.pairwise_cons.mp rising
    rw [List.foldl_cons]
    rcases List.mem_cons.mp lane with rfl | later
    · rw [foldl_uncovered step see covers (fun c z m => misses c z (by simp [m])) (fun z m => last z (by simp [m]) (first z m)),
        hits c x (by simp) covered]
    · exact ih (fun c z m => misses c z (by simp [m])) (fun c z m => hits c z (by simp [m])) rest later
        (fun z m => last z (by simp [m]))

end

end Sys2Proof.Machine
end

section
/-!
The obligation on loads from the local store (R63, R104, R105).
-/
namespace Sys2Proof.Machine

/-- A loaded value is extended as its bits are (R104). -/
theorem extend_eq {sx : Bool} {width : Nat} (positive : 0 < width) (v : Nat) :
    extend sx width v = if sx && decide (width ≤ 2) then (BitVec.signExtend 32 (BitVec.ofNat (8 * width) v)).toNat else v := by
  have signed : signedOf v (8 * width) = (BitVec.ofNat (8 * width) v).toInt := iVal_eq_valOf true (by omega) v
  unfold extend
  rw [signed, wrap_eq_toNat_ofInt]
  rfl

theorem mWidth_pos (w : Word64) : 0 < mWidth w := Nat.two_pow_pos _

/-- The checks of the memory class keep a width of at most 16 bytes, and where they load, a legal destination. -/
theorem memCk_width {w second : Word64} {regs : Nat} {load isGlobal : Bool} (ok : ckCode (memCk w second regs load isGlobal) = 0) :
    regsOfWidth (mWidth w) = 1 ∨ regsOfWidth (mWidth w) = 2 ∨ regsOfWidth (mWidth w) = 4 := by
  obtain ⟨rsv, -⟩ := ckCode_ckAll ok (rsvIf (wMod w 22 3 ≥ 5 || mOrd w == 3 || mScope w ≥ 6 || mHint w == 3)) (by simp)
  have small : wMod w 22 3 < 5 := by
    simp only [rsvIf, Bool.or_eq_false_iff, decide_eq_false_iff_not] at rsv
    omega
  unfold mWidth
  interval_cases wMod w 22 3 <;> decide

theorem memCk_fits {w second : Word64} {regs : Nat} {isGlobal : Bool} (ok : ckCode (memCk w second regs true isGlobal) = 0) :
    wDst w + regsOfWidth (mWidth w) ≤ 256 := by
  obtain ⟨-, both⟩ := ckCode_ckAll ok (ckAll [noB w, gCk (wDst w) (regsOfWidth (mWidth w)) regs]) (by simp)
  exact gCk_fits (regs := regs) (arg_of_ckAll both (by simp)) (wDst_lt w) (memCk_width ok)

/-- Loaded values are written as a destination. -/
theorem finishLoad_eq (width : Nat) (sx : Bool) (s : Dev) (e : Env) (f : Nat → Nat) :
    finishLoad width sx s e ((lanesOf e.part).map (fun l => (l, f l)))
      = complete s e (writeDst e.g false (wDst e.w) (regsOfWidth width) ((lanesOf e.part).map (fun l => (l, extend sx width (f l))))) := by
  unfold finishLoad writeDst
  rw [List.map_map]
  rfl

/-- No lane's access meets a range in use. -/
theorem any_sbBlocks_eq_false {c : Core} {set : Option Nat} {addrs : List (Nat × Nat)} {width : Nat} {write : Bool}
    (free : ∀ p ∈ addrs, sbBlocks c set p.2 width write = false) : addrs.any (fun p => sbBlocks c set p.2 width write) = false :=
  List.any_eq_false.mpr (fun p named => by simp [free p named])

/-- Settles O13: a lane's value is its slot's bytes at the lane's offset, put together lowest first. -/
theorem localLoads : Obligations.LocalLoads := by
  unfold Obligations.LocalLoads
  intro s i e ready lanes ok legal free
  have values : (localAddrs e).map (fun p => (p.1, lsRead (coreOf s.dev e.core) (groupSlot e + p.2) (mWidth e.w)))
      = (lanesOf e.part).map (fun l => (l, lsRead (coreOf s.dev e.core) (groupSlot e + wrap ((srcA e.g e.w l 1 : Int) + wOffset e.w) 32) (mWidth e.w))) := by
    rw [localAddrs, List.map_map]
    rfl
  have gets := dstGets_writeDst s false (regsOfWidth (mWidth e.w)) (fun l => extend (mSx e.w) (mWidth e.w)
    (lsRead (coreOf s.dev e.core) (groupSlot e + wrap ((srcA e.g e.w l 1 : Int) + wOffset e.w) 32) (mWidth e.w))) ready.run_eq (fun _ => memCk_fits ok)
  refine ⟨_, (perform_ready _ ready rfl (.inl lanes)).trans ?_, ?_, gets.congr fun l _ => ?_⟩
  · rw [orFail_ok ok]
    simp only [legal, any_sbBlocks_eq_false free, ne_eq, not_true_eq_false, Bool.false_eq_true, if_false, values, finishLoad_eq]
  · simp [groupIn_complete]
  · rw [extend_eq (mWidth_pos _), lsRead_eq_ofLe]

end Sys2Proof.Machine
end

section
/-!
The obligation on stores to the local store and atomics there (R63, R77, R104 to R107, R188).
-/
namespace Sys2Proof.Machine

/-- A release whose writes have been accepted lets the instruction go on (R188). -/
theorem afterRelease_of_ready {s : Dev} {e : Env} {scope : Nat} (begun : e.g.phase = 1)
    (accepted : releaseReady s e.core e.gno e.g.relSeq scope = true) (k : Dev → Env → Dev) : afterRelease s e scope k = k s e := by
  unfold afterRelease
  simp only [begun, one_ne_zero, if_false, accepted, if_true]

/-- At core scope a release waits for the group's own stores (R188). -/
theorem releaseReady_core {s : Dev} {core gno : Nat} (stored : ownStoresPending (coreOf s core) gno = false) (relSeq : Nat) {scope : Nat}
    (narrow : scope ≤ 1) : releaseReady s core gno relSeq scope = true := by
  simp [releaseReady, narrow, stored]

/-- The release that an ordered instruction at core scope waits for has completed. -/
theorem afterRelease_core {s : Dev} {e : Env} {scope : Nat} (narrow : scope ≤ 1)
    (waited : e.g.phase = 1 ∧ ownStoresPending (coreOf s e.core) e.gno = false) (k : Dev → Env → Dev) : afterRelease s e scope k = k s e :=
  afterRelease_of_ready waited.1 (releaseReady_core waited.2 _ narrow) k

/-- A change of the core before its group moves on. -/
theorem complete_modCore (s : Dev) (e : Env) (g : Group) (f : Core → Core) :
    complete (modCore s e.core f) e g = modCore s e.core (fun c => withGroup e.gno (advancePc g (wLen e.w)) (f c)) := by
  rw [complete_eq_modCore, modCore_modCore]

/-- Instructions on the local store order at core scope alone (R105). -/
theorem memCk_local_scope {w second : Word64} {regs : Nat} {load : Bool} (ok : ckCode (memCk w second regs load false) = 0) : mScope w ≤ 1 := by
  obtain ⟨-, arg⟩ := ckCode_ckAll ok (argIf (!false && (mHint w != 0 || mScope w > 1))) (by simp)
  simp only [argIf, Bool.not_false, Bool.true_and, Bool.or_eq_false_iff, decide_eq_false_iff_not] at arg
  omega

theorem amoCk_local_scope {w second : Word64} {regs : Nat} (ok : ckCode (amoCk w second regs false) = 0) : mScope w ≤ 1 := by
  obtain ⟨-, arg⟩ := ckCode_ckAll ok (argIf (!false && mScope w > 1)) (by simp)
  simpa [argIf] using arg

/-- The old values of an atomic have a legal destination, where they are returned. -/
theorem amoCk_fits {w second : Word64} {regs : Nat} {isGlobal : Bool} (ok : ckCode (amoCk w second regs isGlobal) = 0) (returns : aNr w = false) :
    wDst w + (if aW64 w then 2 else 1) ≤ 256 := by
  obtain ⟨-, dst⟩ := ckCode_ckAll ok (if aNr w then argIf (wDst w != 0) else gCk (wDst w) (if aW64 w then 2 else 1) regs) (by simp)
  rw [returns] at dst
  refine gCk_fits (regs := regs) dst (wDst_lt w) ?_
  split <;> simp

/-! ### Stores -/

/-- The stores of WRL, lane by lane. -/
def wrlStore (at_ val : Nat → Nat) (w : Nat) (c : Core) (l : Nat) : Core := lsWrite c (at_ l) w (val l)

theorem foldl_wrlStore_eq (at_ val : Nat → Nat) (w : Nat) (l : List Nat) (c : Core) :
    l.foldl (wrlStore at_ val w) c = { c with ls := (l.foldl (wrlStore at_ val w) c).ls } := by
  refine List.foldlRecOn (motive := fun d : Core => d = { c with ls := d.ls }) _ _ rfl ?_
  intro d same x _
  rw [wrlStore, lsWrite_eq, same]

/-- Bytes that no lane's range holds stay. -/
theorem lsByte_foldl_wrlStore_other {at_ val : Nat → Nat} {w : Nat} {l : List Nat} (c : Core) {a : Nat} (apart : ∀ x ∈ l, a < at_ x ∨ at_ x + w ≤ a) :
    lsByte (l.foldl (wrlStore at_ val w) c) a = lsByte c a := by
  refine foldl_uncovered _ (fun c => lsByte c a) (fun x => at_ x ≤ a ∧ a < at_ x + w) (fun c x _ miss => ?_) (fun x lane => ?_)
  · exact (lsByte_lsWrite c _ _ _ _).trans (if_neg miss)
  · have := apart x lane
    omega

/-- A lane's bytes that no later lane's range holds are as the lane stored them. -/
theorem lsByte_foldl_wrlStore_last {at_ val : Nat → Nat} {w : Nat} {l : List Nat} (c : Core) {x j : Nat} (rising : l.Pairwise (· < ·)) (lane : x ∈ l)
    (inside : j < w) (last : ∀ y ∈ l, x < y → at_ x + j < at_ y ∨ at_ y + w ≤ at_ x + j) :
    lsByte (l.foldl (wrlStore at_ val w) c) (at_ x + j) = byteAt (val x) j := by
  have seen := foldl_last (wrlStore at_ val w) (fun c => lsByte c (at_ x + j)) (fun y => byteAt (val y) (at_ x + j - at_ y))
    (fun y => at_ y ≤ at_ x + j ∧ at_ x + j < at_ y + w) (c := c) (fun c y _ miss => (lsByte_lsWrite c _ _ _ _).trans (if_neg miss))
    (fun c y _ hit => (lsByte_lsWrite c _ _ _ _).trans (if_pos hit)) rising lane ⟨by omega, by omega⟩
    (fun y m later hit => by have := last y m later; omega)
  rwa [Nat.add_sub_cancel_left] at seen

/-- WRL's effect. -/
theorem exec_wrl {s : State} {i : Issue} {e : Env} (ready : Ready s.dev i 0x33 e) (lanes : e.part ≠ 0)
    (ok : ckCode (memCk e.w e.second e.d.shape.regs false false) = 0) (legal : localCk e (mWidth e.w) (localAddrs e) = 0)
    (free : ∀ p ∈ localAddrs e, sbBlocks (coreOf s.dev e.core) (some e.g.set) p.2 (mWidth e.w) true = false)
    (released : mOrd e.w = 2 → e.g.phase = 1 ∧ ownStoresPending (coreOf s.dev e.core) e.gno = false) :
    exec (.wrl i) s = .next { s with dev := finish (modCore s.dev e.core (fun c => withGroup e.gno (advancePc e.g (wLen e.w))
      ((lanesOf e.part).foldl (wrlStore (fun l => groupSlot e + wrap ((srcA e.g e.w l 1 : Int) + wOffset e.w) 32)
        (fun l => srcB e.g e.w e.second l (regsOfWidth (mWidth e.w))) (mWidth e.w)) c))) } := by
  refine (perform_ready _ ready rfl (.inl lanes)).trans ?_
  rw [orFail_ok ok]
  simp only [legal, any_sbBlocks_eq_false free, ne_eq, not_true_eq_false, Bool.false_eq_true, if_false]
  rw [ite_eq_right_iff.mpr (fun ordered => afterRelease_core (memCk_local_scope ok) (released ordered) _), complete_modCore]
  simp only [localAddrs, List.foldl_map]
  rfl

/-- What WRL leaves. -/
theorem wrl_leaves {s : State} {i : Issue} {e : Env} {w : Nat} {at_ : Nat → Nat}
    (base : at_ = fun l => groupSlot e + wrap ((srcA e.g e.w l 1 : Int) + wOffset e.w) 32) (ready : Ready s.dev i 0x33 e) (width : w = mWidth e.w)
    (lanes : e.part ≠ 0) (ok : ckCode (memCk e.w e.second e.d.shape.regs false false) = 0) (legal : localCk e w (localAddrs e) = 0)
    (free : ∀ p ∈ localAddrs e, sbBlocks (coreOf s.dev e.core) (some e.g.set) p.2 w true = false)
    (released : mOrd e.w = 2 → e.g.phase = 1 ∧ ownStoresPending (coreOf s.dev e.core) e.gno = false) :
    ∃ t, exec (.wrl i) s = .next t ∧ t.pending = s.pending ∧ SameBytes s.dev t.dev ∧ SameRegsBut [] s.dev t.dev ∧ SameUnits s.dev t.dev
      ∧ SameCoresBut e.core s.dev t.dev ∧ movedOn e (groupIn t.dev e) ∧ (groupIn t.dev e).gr = e.g.gr ∧ (groupIn t.dev e).pr = e.g.pr
      ∧ (groupIn t.dev e).ur = e.g.ur ∧ (coreOf t.dev e.core).l1 = (coreOf s.dev e.core).l1
      ∧ (∀ a, (∀ l, e.part.toNat.testBit l = true → a < at_ l ∨ at_ l + w ≤ a) →
          lsByte (coreOf t.dev e.core) a = lsByte (coreOf s.dev e.core) a)
      ∧ ∀ l j, e.part.toNat.testBit l = true → j < w →
          (∀ l', l < l' → e.part.toNat.testBit l' = true → at_ l + j < at_ l' ∨ at_ l' + w ≤ at_ l + j) →
          lsByte (coreOf t.dev e.core) (at_ l + j) = byteAt (srcB e.g e.w e.second l (regsOfWidth w)) j := by
  subst base width
  refine ⟨_, exec_wrl ready lanes ok legal free released, rfl, ?_⟩
  rw [withDev_dev, groupIn_modCore, coreOf_finish, coreOf_modCore_same]
  obtain ⟨bytes, regs, units, cores⟩ := modCore_leaves s e.core (fun c => withGroup e.gno (advancePc e.g (wLen e.w))
    ((lanesOf e.part).foldl (wrlStore (fun l => groupSlot e + wrap ((srcA e.g e.w l 1 : Int) + wOffset e.w) 32)
      (fun l => srcB e.g e.w e.second l (regsOfWidth (mWidth e.w))) (mWidth e.w)) c))
  have group : ∀ c, tgetD (withGroup e.gno (advancePc e.g (wLen e.w)) c).groups e.gno e.g = advancePc e.g (wLen e.w) :=
    fun c => tgetD_tset_same _ _ _ _
  rw [group]
  have keep := foldl_wrlStore_eq (fun l => groupSlot e + wrap ((srcA e.g e.w l 1 : Int) + wOffset e.w) 32)
    (fun l => srcB e.g e.w e.second l (regsOfWidth (mWidth e.w))) (mWidth e.w) (lanesOf e.part) (coreOf s.dev e.core)
  refine ⟨bytes, regs, units, cores, movedOn_advancePc ready.run_eq, rfl, rfl, rfl, by rw [keep]; rfl, fun a apart => ?_, fun l j lane inside last => ?_⟩
  · exact lsByte_foldl_wrlStore_other _ (fun x lane => apart x ((mem_lanesOf _ _).mp lane))
  · exact lsByte_foldl_wrlStore_last _ (pairwise_lanesOf _) ((mem_lanesOf _ _).mpr lane) inside
      (fun y m later => last y later ((mem_lanesOf _ _).mp m))

/-! ### Atomics -/

/-- One lane's atomic on the local store: what it leaves there, and the old value beside those of the lanes before. -/
def amolStep (at_ : Nat → Nat) (w : Nat) (res : Nat → Nat → Nat) (x : Core × List (Nat × Nat)) (l : Nat) : Core × List (Nat × Nat) :=
  (lsWrite x.1 (at_ l) w (res l (lsRead x.1 (at_ l) w)), x.2 ++ [(l, lsRead x.1 (at_ l) w)])

/-- Ranges of w bytes that do not meet. -/
def rangesApart (at_ : Nat → Nat) (w : Nat) (l : List Nat) : Prop := l.Pairwise (fun x y => at_ x + w ≤ at_ y ∨ at_ y + w ≤ at_ x)

/-- A read beside a write is as before. -/
theorem lsRead_lsWrite_apart {c : Core} {a b w v : Nat} (apart : a + w ≤ b ∨ b + w ≤ a) : lsRead (lsWrite c a w v) b w = lsRead c b w :=
  lsRead_congr (fun j inside => by rw [lsByte_lsWrite, if_neg (by omega)])

/-- Atomics of lanes whose ranges do not meet: each works on the bytes as they stood before the instruction. -/
theorem foldl_amolStep {at_ : Nat → Nat} {w : Nat} (res : Nat → Nat → Nat) {l : List Nat} (apart : rangesApart at_ w l) (c : Core) (acc : List (Nat × Nat)) :
    (l.foldl (amolStep at_ w res) (c, acc)).1 = { c with ls := (l.foldl (amolStep at_ w res) (c, acc)).1.ls }
      ∧ (l.foldl (amolStep at_ w res) (c, acc)).2 = acc ++ l.map (fun x => (x, lsRead c (at_ x) w))
      ∧ (∀ a, (∀ x ∈ l, a < at_ x ∨ at_ x + w ≤ a) → lsByte (l.foldl (amolStep at_ w res) (c, acc)).1 a = lsByte c a)
      ∧ ∀ x ∈ l, lsRead (l.foldl (amolStep at_ w res) (c, acc)).1 (at_ x) w = res x (lsRead c (at_ x) w) % 2 ^ (8 * w) := by
  induction l generalizing c acc with
  | nil => simp
  | cons y l ih =>
    obtain ⟨first, rest⟩ := List.pairwise_cons.mp apart
    obtain ⟨keep, olds, others, results⟩ := ih rest (amolStep at_ w res (c, acc) y).1 (amolStep at_ w res (c, acc) y).2
    have asBefore : ∀ x ∈ l, lsRead (amolStep at_ w res (c, acc) y).1 (at_ x) w = lsRead c (at_ x) w :=
      fun x lane => lsRead_lsWrite_apart (first x lane)
    rw [List.foldl_cons]
    refine ⟨?_, ?_, fun a away => ?_, fun x lane => ?_⟩
    · rw [keep, amolStep, lsWrite_eq]
    · rw [olds, List.map_congr_left (fun x lane => congrArg (Prod.mk x) (asBefore x lane))]
      simp [amolStep]
    · rw [others a (fun x lane => away x (by simp [lane])), amolStep, lsByte_lsWrite, if_neg (by have := away y (by simp); omega)]
    · rcases List.mem_cons.mp lane with rfl | later
      · have still : lsRead (l.foldl (amolStep at_ w res) (amolStep at_ w res (c, acc) x)).1 (at_ x) w
            = lsRead (amolStep at_ w res (c, acc) x).1 (at_ x) w :=
          lsRead_congr (fun j inside => others _ (fun z m => by have := first z m; omega))
        rw [still, amolStep, lsRead_lsWrite_same]
      · exact (results x later).trans (by rw [asBefore x later])

/-- The atomics of AMOL, lane by lane. -/
def amolRun (e : Env) (at_ : Nat → Nat) (w : Nat) (c : Core) : Core × List (Nat × Nat) :=
  (lanesOf e.part).foldl (amolStep at_ w (fun l old => amoResult (aOp e.w) (aW64 e.w) old (laneAtom e l 0).a (laneAtom e l 0).b)) (c, [])

theorem laneAtom_row (e : Env) (l off : Nat) : (laneAtom e l off).op = aOp e.w ∧ (laneAtom e l off).w64 = aW64 e.w := by
  unfold laneAtom
  dsimp only
  split
  · rename_i cas
    exact ⟨cas.symm, rfl⟩
  · exact ⟨rfl, rfl⟩

/-- The group after an atomic that completes with the old values. -/
def atomicGroup (e : Env) (vals : List (Nat × Nat)) : Group :=
  if aNr e.w then e.g else writeLanes e.g (wDst e.w) (if aW64 e.w then 2 else 1) vals

/-- AMOL's effect. -/
theorem exec_amol {s : State} {i : Issue} {e : Env} {at_ : Nat → Nat} {w : Nat}
    (base : at_ = fun l => groupSlot e + wrap ((srcA e.g e.w l 1 : Int) + wOffset e.w) 32) (width : w = if aW64 e.w then 8 else 4)
    (ready : Ready s.dev i 0x39 e) (lanes : e.part ≠ 0) (ok : ckCode (amoCk e.w e.second e.d.shape.regs false) = 0)
    (legal : localCk e w (localAddrs e) = 0)
    (free : ∀ p ∈ localAddrs e, sbBlocks (coreOf s.dev e.core) (some e.g.set) p.2 w true = false)
    (released : 2 ≤ mOrd e.w → e.g.phase = 1 ∧ ownStoresPending (coreOf s.dev e.core) e.gno = false) :
    exec (.amol i) s = .next { s with dev := finish (modCore s.dev e.core (fun _ => withGroup e.gno
      (advancePc (atomicGroup e (amolRun e at_ w (coreOf s.dev e.core)).2) (wLen e.w)) (amolRun e at_ w (coreOf s.dev e.core)).1)) } := by
  subst base width
  refine (perform_ready _ ready rfl (.inl lanes)).trans ?_
  rw [orFail_ok ok]
  simp only [legal, any_sbBlocks_eq_false free, ne_eq, not_true_eq_false, Bool.false_eq_true, if_false]
  rw [ite_eq_right_iff.mpr (fun ordered => afterRelease_core (amoCk_local_scope ok) (released ordered) _)]
  simp only [localAddrs, List.foldl_map, (laneAtom_row e _ _).1, (laneAtom_row e _ _).2]
  have asChange : ∀ c, setCore s.dev e.core c = modCore s.dev e.core (fun _ => c) := fun _ => rfl
  rw [finishAtomic, asChange, complete_modCore]
  rfl

/-- Ranges of aligned accesses at distinct addresses do not meet. -/
theorem rangesApart_of_aligned {e : Env} {w : Nat} (width : w = 4 ∨ w = 8) (legal : localCk e w (localAddrs e) = 0)
    (distinct : ∀ l l', e.part.toNat.testBit l = true → e.part.toNat.testBit l' = true → l ≠ l' →
      groupSlot e + wrap ((srcA e.g e.w l 1 : Int) + wOffset e.w) 32 ≠ groupSlot e + wrap ((srcA e.g e.w l' 1 : Int) + wOffset e.w) 32) :
    rangesApart (fun l => groupSlot e + wrap ((srcA e.g e.w l 1 : Int) + wOffset e.w) 32) w (lanesOf e.part) := by
  have aligned : ∀ l, e.part.toNat.testBit l = true → wrap ((srcA e.g e.w l 1 : Int) + wOffset e.w) 32 % w = 0 := by
    intro l lane
    by_contra off
    have : misaligned (localAddrs e) w = true :=
      List.any_eq_true.mpr ⟨(l, _), List.mem_map_of_mem ((mem_lanesOf _ _).mpr lane), by simpa using off⟩
    simp only [localCk, this, if_true] at legal
    split at legal <;> cases legal
  refine (nodup_lanesOf e.part).imp_of_mem (fun {l l'} lane lane' other => ?_)
  have first := aligned l ((mem_lanesOf _ _).mp lane)
  have second := aligned l' ((mem_lanesOf _ _).mp lane')
  have apart := distinct l l' ((mem_lanesOf _ _).mp lane) ((mem_lanesOf _ _).mp lane') other
  dsimp only
  rcases width with rfl | rfl <;> omega

/-- A register reads the same in groups with the same registers. -/
theorem readG_congr {g h : Group} (same : g.gr = h.gr) (l r k : Nat) : readG g l r k = readG h l r k := by
  have one : ∀ n, gReg g l n = gReg h l n := fun n => by simp only [gReg, same]
  induction k generalizing r with
  | zero => rfl
  | succ k ih => simp only [readG, ih, one]

/-- Settles O14: the lanes' writes one after the other; atomics at distinct addresses each on the bytes that stood before. -/
theorem localStoresAndAtomics : Obligations.LocalStoresAndAtomics := by
  unfold Obligations.LocalStoresAndAtomics
  intro s i e w at_ base
  refine ⟨wrl_leaves base, fun ready width lanes ok legal free released distinct => ?_⟩
  have wide : (w = 4 ∨ w = 8) ∧ 8 * w = 32 * (if aW64 e.w then 2 else 1) := by
    rw [width]
    split <;> simp
  have apart : rangesApart at_ w (lanesOf e.part) := by
    subst base
    exact rangesApart_of_aligned wide.1 legal distinct
  obtain ⟨-, olds, others, results⟩ := foldl_amolStep
    (fun l old => amoResult (aOp e.w) (aW64 e.w) old (laneAtom e l 0).a (laneAtom e l 0).b) apart (coreOf s.dev e.core) []
  refine ⟨_, exec_amol base width ready lanes ok legal free released, rfl, ?_⟩
  rw [withDev_dev, groupIn_modCore, coreOf_finish, coreOf_modCore_same]
  obtain ⟨bytes, regs, units, cores⟩ := modCore_leaves s e.core (fun _ => withGroup e.gno
    (advancePc (atomicGroup e (amolRun e at_ w (coreOf s.dev e.core)).2) (wLen e.w)) (amolRun e at_ w (coreOf s.dev e.core)).1)
  have group : ∀ g c, tgetD (withGroup e.gno g c).groups e.gno e.g = g := fun g c => tgetD_tset_same _ _ _ _
  rw [group]
  have run : ∀ vals, (atomicGroup e vals).run = some e.path := by
    intro vals
    unfold atomicGroup
    split
    · exact ready.run_eq
    · rw [writeLanes_eq]
      exact ready.run_eq
  refine ⟨bytes, regs, units, cores, movedOn_advancePc (run _), fun a away => ?_, fun l lane => ⟨?_, ?_⟩⟩
  · exact others a (fun x m => away x ((mem_lanesOf _ _).mp m))
  · exact (lsRead_congr (d := withGroup _ _ _) (c := (amolRun e at_ w (coreOf s.dev e.core)).1) (fun _ _ => rfl)).trans (results l ((mem_lanesOf _ _).mpr lane))
  · have old : lsRead (coreOf s.dev e.core) (at_ l) w < 2 ^ (32 * if aW64 e.w then 2 else 1) := wide.2 ▸ lsRead_lt _ _ _
    have vals : (amolRun e at_ w (coreOf s.dev e.core)).2 = (lanesOf e.part).map (fun x => (x, lsRead (coreOf s.dev e.core) (at_ x) w)) := olds
    rw [vals]
    unfold atomicGroup
    cases returns : aNr e.w
    · have written := readG_writeLanes e.g (wDst e.w) (if aW64 e.w then 2 else 1) (lanesOf e.part) (fun x => lsRead (coreOf s.dev e.core) (at_ x) w) l
        (amoCk_fits ok returns) (nodup_lanesOf _) ((mem_lanesOf _ _).mpr lane)
      rw [Nat.mod_eq_of_lt old] at written
      simp only [Bool.false_eq_true, if_false]
      exact (readG_congr (by rfl) _ _ _).trans written
    · rfl

end Sys2Proof.Machine
end

section
/-!
SUPPORT. Global accesses: the lanes' locations (R121, R269), and loads that the L1 serves (R105, R187).
-/
namespace Sys2Proof.Machine

/-- Lane accesses at addresses that the core's buffer translates. -/
def lanesAt (s : Dev) (e : Env) (access : Nat) (va : Nat → Nat) : List (Nat × Nat × Nat) :=
  (lanesOf e.part).map (fun l => (l, va l, (heldLoc s e access (va l)).getD 0))

/-- Where every lane's address is translated, the access goes on at the lanes' locations. -/
theorem lanesTranslate_of_reachable {s : Dev} {e : Env} {access width : Nat} {write : Bool} {va : Nat → Nat}
    (reach : Reachable s e access width write ((lanesOf e.part).map (fun l => (l, va l)))) :
    lanesTranslate s e access ((lanesOf e.part).map (fun l => (l, va l))) = (s, some (lanesAt s e access va)) := by
  have sound : ∀ l ∈ lanesOf e.part, canonical (va l) = true ∧ ∃ t, tlbFind (coreOf s e.core) 1 e.d.inst (va l) access = some t := by
    intro l lane
    obtain ⟨legal, found, -⟩ := reach (l, va l) (List.mem_map_of_mem lane)
    rw [heldLoc, Option.isSome_map] at found
    exact ⟨legal, Option.isSome_iff_exists.mp found⟩
  unfold lanesTranslate lanesAt
  have known : ((lanesOf e.part).map (fun l => (l, va l))).find? (fun p => !canonical p.2) = none := by
    rw [List.find?_eq_none]
    intro p named
    obtain ⟨l, lane, rfl⟩ := List.mem_map.mp named
    simp [(sound l lane).1]
  have translated : ((lanesOf e.part).map (fun l => (l, va l))).filter (fun p => (tlbFind (coreOf s e.core) 1 e.d.inst p.2 access).isNone) = [] := by
    rw [List.filter_eq_nil_iff]
    intro p named
    obtain ⟨l, lane, rfl⟩ := List.mem_map.mp named
    obtain ⟨-, t, found⟩ := sound l lane
    simp [found]
  simp only [known, translated, List.isEmpty_nil, if_true, List.filterMap_map, Prod.mk.injEq, true_and, Option.some.injEq]
  rw [← List.filterMap_eq_map]
  refine List.filterMap_congr (fun l lane => ?_)
  obtain ⟨-, t, found⟩ := sound l lane
  simp [heldLoc, found]

/-- No lane's access meets a range in use. -/
theorem free_of_reachable {s : Dev} {e : Env} {access width : Nat} {write : Bool} {va : Nat → Nat}
    (reach : Reachable s e access width write ((lanesOf e.part).map (fun l => (l, va l)))) :
    (lanesAt s e access va).any (fun p => sbBlocks (coreOf s e.core) none p.2.1 width write) = false := by
  rw [List.any_eq_false]
  intro p named
  obtain ⟨l, lane, rfl⟩ := List.mem_map.mp named
  obtain ⟨-, -, free⟩ := reach (l, va l) (List.mem_map_of_mem lane)
  simp [free]

/-- A sector whose bytes the L1 serves is one it holds, and gives its data. -/
theorem sectorFor_of_has {c : Core} {gno loc width : Nat} (past : Bool) (unkept : bufFind c (groupTag gno) (loc / 32) = none)
    (served : l1Has c (loc / 32) (byteSpan (loc % 32) width) = true) (sound : l1Code c (loc / 32) = 0) :
    ∃ d : BitVec 256, sectorFor c gno past (loc / 32) (byteSpan (loc % 32) width) = some (d, 0)
      ∧ bitsOf d.toNat (8 * (loc % 32)) (8 * width) = l1Value c loc width := by
  unfold l1Has at served
  unfold sectorFor l1Value l1Holds l1Has
  cases found : tget c.l1 (loc / 32) with
  | none => simp [found] at served
  | some x =>
    simp only [found] at served
    have fresh : x.stale = false := by
      cases stale : x.stale
      · rfl
      · simp [stale] at served
    refine ⟨x.data, ?_, rfl⟩
    simp only [unkept, fresh, Bool.not_false, Bool.not_true, Bool.and_false, Bool.false_eq_true, if_false, sound]
    rw [if_pos (by simpa [fresh] using served)]
    rfl

/-- A load that the L1 serves has its values at once. -/
theorem loadLanes_of_held {s : Dev} {e : Env} {access width : Nat} {va : Nat → Nat} {write : Bool} (past : Bool)
    (reach : Reachable s e access width write ((lanesOf e.part).map (fun l => (l, va l))))
    (held : HeldInL1 s e access width ((lanesOf e.part).map (fun l => (l, va l)))) (k : Dev → List (Nat × Nat) → Dev) :
    loadLanes s e past false width (lanesAt s e access va) k = k (bufClear s e.core (groupTag e.gno))
      ((lanesOf e.part).map (fun l => (l, l1Value (coreOf s e.core) ((heldLoc s e access (va l)).getD 0) width))) := by
  obtain ⟨unkept, inL1⟩ := held
  have look : ∀ l ∈ lanesOf e.part, ∃ d : BitVec 256,
      sectorFor (coreOf s e.core) e.gno past ((heldLoc s e access (va l)).getD 0 / 32)
        (byteSpan ((heldLoc s e access (va l)).getD 0 % 32) width) = some (d, 0)
      ∧ bitsOf d.toNat (8 * ((heldLoc s e access (va l)).getD 0 % 32)) (8 * width)
        = l1Value (coreOf s e.core) ((heldLoc s e access (va l)).getD 0) width := by
    intro l lane
    obtain ⟨loc, here⟩ := Option.isSome_iff_exists.mp (reach (l, va l) (List.mem_map_of_mem lane)).2.1
    obtain ⟨served, sound⟩ := inL1 (l, va l) (List.mem_map_of_mem lane) loc here
    rw [here]
    exact sectorFor_of_has past (unkept _) served sound
  unfold loadLanes lanesAt
  have there : ((lanesOf e.part).map (fun l => (l, va l, (heldLoc s e access (va l)).getD 0))).filter (fun p =>
      (sectorFor (coreOf s e.core) e.gno past (p.2.2 / 32) (byteSpan (p.2.2 % 32) width)).isNone) = [] := by
    rw [List.filter_eq_nil_iff]
    intro p named
    obtain ⟨l, lane, rfl⟩ := List.mem_map.mp named
    obtain ⟨d, found, -⟩ := look l lane
    simp [found]
  choose! d found value using look
  have got : (lanesOf e.part).filterMap (fun l => (sectorFor (coreOf s e.core) e.gno past ((heldLoc s e access (va l)).getD 0 / 32)
        (byteSpan ((heldLoc s e access (va l)).getD 0 % 32) width)).map (fun x => (l, (heldLoc s e access (va l)).getD 0, x)))
      = (lanesOf e.part).map (fun l => (l, (heldLoc s e access (va l)).getD 0, d l, 0)) := by
    rw [← List.filterMap_eq_map]
    refine List.filterMap_congr (fun l lane => ?_)
    simp [found l lane]
  have sound : ((lanesOf e.part).map (fun l => (l, (heldLoc s e access (va l)).getD 0, d l, 0))).find? (fun g => g.2.2.2 != 0) = none := by
    rw [List.find?_eq_none]
    intro g named
    obtain ⟨l, -, rfl⟩ := List.mem_map.mp named
    simp
  simp only [Bool.false_eq_true, if_false, there, List.isEmpty_nil, if_true, List.filterMap_map, Function.comp_def, got, sound, List.map_map]
  congr 1
  exact List.map_congr_left (fun l lane => by rw [value l lane])

/-- Nothing outside the group changes where its core keeps what `OnlyGroup` names. -/
theorem onlyGroup_modCore (s : State) (e : Env) (f : Core → Core) (g : Group) (groups : (f (coreOf s.dev e.core)).groups = tset (coreOf s.dev e.core).groups e.gno g)
    (ls : (f (coreOf s.dev e.core)).ls = (coreOf s.dev e.core).ls) (l1 : (f (coreOf s.dev e.core)).l1 = (coreOf s.dev e.core).l1)
    (acc : (f (coreOf s.dev e.core)).acc = (coreOf s.dev e.core).acc) (wb : (f (coreOf s.dev e.core)).wb = (coreOf s.dev e.core).wb) :
    OnlyGroup s { s with dev := finish (modCore s.dev e.core f) } e ∧ groupIn (finish (modCore s.dev e.core f)) e = g := by
  obtain ⟨bytes, regs, units, cores⟩ := modCore_leaves s e.core f
  have core : coreOf (finish (modCore s.dev e.core f)) e.core = f (coreOf s.dev e.core) := by
    rw [coreOf_finish, coreOf_modCore_same]
  refine ⟨⟨rfl, bytes, regs, units, cores, ?_, ?_, ?_, ?_, ?_⟩, ?_⟩
  · rw [withDev_dev, core]
    exact fun j other => by rw [groups, tget_tset_other _ _ _ _ other]
  · rwa [withDev_dev, core]
  · rwa [withDev_dev, core]
  · rwa [withDev_dev, core]
  · rwa [withDev_dev, core]
  · rw [groupIn_modCore, groups]
    exact tgetD_tset_same _ _ _ _

/-- What a destination gets is a matter of the group alone, beside what stays. -/
theorem DstGets.of_group {s t u : State} {e : Env} {dsel : Bool} {k : Nat} {v : Nat → Nat} (gets : DstGets s t e dsel k v) (only : OnlyGroup s u e)
    (same : groupIn u.dev e = groupIn t.dev e) : DstGets s u e dsel k v := by
  obtain ⟨-, moved, paths, values⟩ := gets
  refine ⟨only, ?_⟩
  rw [same]
  exact ⟨moved, paths, values⟩

/-- A load that has its values, and has let go of what was kept for it, writes them. -/
theorem dstGets_finishLoad (s : State) {e : Env} (width : Nat) (sx : Bool) (f : Nat → Nat) (run : e.g.run = some e.path)
    (fits : wDst e.w + regsOfWidth width ≤ 256) {d : Dev}
    (done : d = finishLoad width sx (bufClear s.dev e.core (groupTag e.gno)) e ((lanesOf e.part).map (fun l => (l, f l)))) :
    (groupIn (finish d) e).flags = e.g.flags
      ∧ DstGets s { s with dev := finish d } e false (regsOfWidth width) (fun l => extend sx width (f l)) := by
  rw [finishLoad_eq, bufClear, complete_modCore] at done
  subst done
  have gets := dstGets_writeDst s false (regsOfWidth width) (fun l => extend sx width (f l)) run (fun _ => fits)
  obtain ⟨only, group⟩ := onlyGroup_modCore s e (fun c => withGroup e.gno
    (advancePc (writeDst e.g false (wDst e.w) (regsOfWidth width) ((lanesOf e.part).map (fun l => (l, extend sx width (f l))))) (wLen e.w))
    { c with rbuf := c.rbuf.filter (fun r => r.tag != groupTag e.gno) }) _ rfl rfl rfl rfl rfl
  refine ⟨?_, gets.of_group only ?_⟩
  · rw [group]
    simp
  · rw [withDev_dev, group, withDev_dev, groupIn_complete]

end Sys2Proof.Machine
end

section
/-!
The obligation on global loads (R105, R119, R120, R187).
-/
namespace Sys2Proof.Machine

/-- SIN's checks keep its width and its destination. -/
theorem frameCk_fits {w second : Word64} {regs : Nat} (ok : ckCode (frameCk w second regs true) = 0) : wDst w + regsOfWidth (mWidth w) ≤ 256 := by
  obtain ⟨-, both⟩ := ckCode_ckAll ok (ckAll [noB w, gCk (wDst w) (regsOfWidth (widthOf (min (wMod w 22 3) 4))) regs]) (by simp)
  obtain ⟨-, width⟩ := ckCode_ckAll ok (argIf (wMod w 22 3 < 2 || wMod w 22 3 > 4)) (by simp)
  simp only [argIf, Bool.or_eq_false_iff, decide_eq_false_iff_not, not_lt, gt_iff_lt] at width
  obtain ⟨low, high⟩ := width
  have dst := arg_of_ckAll both (c := gCk (wDst w) (regsOfWidth (widthOf (min (wMod w 22 3) 4))) regs) (by simp)
  rw [Nat.min_eq_left high] at dst
  refine gCk_fits (regs := regs) dst (wDst_lt w) ?_
  unfold mWidth
  interval_cases wMod w 22 3 <;> decide

/-- The addresses of a frame access by lane (R120). -/
theorem frameAddrs_eq {e : Env} {va : Nat → Nat} {start : Nat} (base : va = fun l => (start + wrap ((srcA e.g e.w l 1 : Int) + wOffset e.w) 32) % 2 ^ 64)
    (len width : Nat) : (frameAddrs e start len width).1 = (lanesOf e.part).map (fun l => (l, va l)) := by
  subst base
  simp only [frameAddrs, localAddrs, List.map_map]
  rfl

/-- Accesses that end within the frame. -/
theorem frameAddrs_inside {e : Env} {len width : Nat} (start : Nat)
    (inside : ∀ l, e.part.toNat.testBit l = true → wrap ((srcA e.g e.w l 1 : Int) + wOffset e.w) 32 + width ≤ len) :
    (frameAddrs e start len width).2 = false := by
  simp only [frameAddrs, localAddrs, List.any_map, List.any_eq_false, mem_lanesOf]
  intro l lane
  simpa using inside l lane

/-- A sound L1 gives no trouble (R480). -/
theorem l1Trouble_ok (s : Dev) (e : Env) (locs : List (Nat × Nat × Nat)) : l1Trouble s e .ok locs = s := rfl

/-- An acquire at core scope leaves the L1 alone (R189). -/
theorem acquire_core (s : Dev) (core : Nat) {scope : Nat} (narrow : scope ≤ 1) : acquire s core scope = s := if_neg (by omega)

/-- RDG's effect where the L1 serves it. -/
theorem exec_rdg {s : State} {i : Issue} {e : Env} (ready : Ready s.dev i 0x30 e) (lanes : e.part ≠ 0)
    (ok : ckCode (memCk e.w e.second e.d.shape.regs true true) = 0) (order : mOrd e.w = 1 ∧ mScope e.w ≤ 1 ∨ mOrd e.w = 0)
    (aligned : misaligned (globalAddrs e) (mWidth e.w) = false) (reach : Reachable s.dev e 0 (mWidth e.w) false (globalAddrs e))
    (held : HeldInL1 s.dev e 0 (mWidth e.w) (globalAddrs e)) :
    exec (.rdg i) s = .next { s with dev := finish (finishLoad (mWidth e.w) (mSx e.w) (bufClear s.dev e.core (groupTag e.gno)) e
      ((lanesOf e.part).map (fun l => (l, l1Value (coreOf s.dev e.core)
        ((heldLoc s.dev e 0 (wrap ((srcA e.g e.w l 2 : Int) + wOffset e.w) 64)).getD 0) (mWidth e.w))))) } := by
  have sound : i.sram = .ok := ready.2.2.1
  have translated := lanesTranslate_of_reachable reach
  refine (perform_ready _ ready rfl (.inl lanes)).trans ?_
  rw [orFail_ok ok]
  unfold globalAddrs at aligned translated ⊢
  simp only [aligned, translated, free_of_reachable reach, sound, l1Trouble_ok, Bool.false_eq_true, if_false, loadLanes_of_held _ reach held]
  rcases order with ⟨acquires, narrow⟩ | plain
  · have wide : decide (2 ≤ mScope e.w) = false := decide_eq_false (by omega)
    simp only [acquires, if_true, ge_iff_le, wide, loadLanes_of_held _ reach held, acquire_core _ _ narrow]
  · simp only [plain, zero_ne_one, if_false]

/-- What RDG leaves where the L1 serves it. -/
theorem rdg_leaves {s : State} {i : Issue} {e : Env} (ready : Ready s.dev i 0x30 e) (lanes : e.part ≠ 0)
    (ok : ckCode (memCk e.w e.second e.d.shape.regs true true) = 0) (order : mOrd e.w = 1 ∧ mScope e.w ≤ 1 ∨ mOrd e.w = 0)
    (aligned : misaligned (globalAddrs e) (mWidth e.w) = false) (reach : Reachable s.dev e 0 (mWidth e.w) false (globalAddrs e))
    (held : HeldInL1 s.dev e 0 (mWidth e.w) (globalAddrs e)) :
    ∃ t, exec (.rdg i) s = .next t ∧ (groupIn t.dev e).flags = e.g.flags
      ∧ DstGets s t e false (regsOfWidth (mWidth e.w)) (fun l =>
          let loc := (heldLoc s.dev e 0 (wrap ((srcA e.g e.w l 2 : Int) + wOffset e.w) 64)).getD 0
          let v := l1Value (coreOf s.dev e.core) loc (mWidth e.w)
          if mSx e.w && decide (mWidth e.w ≤ 2) then (BitVec.signExtend 32 (BitVec.ofNat (8 * mWidth e.w) v)).toNat else v) := by
  obtain ⟨flags, gets⟩ := dstGets_finishLoad s (mWidth e.w) (mSx e.w) _ ready.run_eq (memCk_fits ok) rfl
  exact ⟨_, exec_rdg ready lanes ok order aligned reach held, flags, gets.congr fun l _ => by rw [extend_eq (mWidth_pos _)]⟩

/-- SIN's effect where the L1 serves it. -/
theorem exec_sin {s : State} {i : Issue} {e : Env} {va : Nat → Nat}
    (base : va = fun l => ((slotOf e.d e.g.slot).inVa + wrap ((srcA e.g e.w l 1 : Int) + wOffset e.w) 32) % 2 ^ 64)
    (ready : Ready s.dev i 0x69 e) (lanes : e.part ≠ 0) (ok : ckCode (frameCk e.w e.second e.d.shape.regs true) = 0) (session : e.d.plain = false)
    (inside : ∀ l, e.part.toNat.testBit l = true → wrap ((srcA e.g e.w l 1 : Int) + wOffset e.w) 32 + mWidth e.w ≤ (slotOf e.d e.g.slot).inLen)
    (aligned : misaligned ((lanesOf e.part).map (fun l => (l, va l))) (mWidth e.w) = false)
    (reach : Reachable s.dev e 0 (mWidth e.w) false ((lanesOf e.part).map (fun l => (l, va l))))
    (held : HeldInL1 s.dev e 0 (mWidth e.w) ((lanesOf e.part).map (fun l => (l, va l)))) :
    exec (.sin i) s = .next { s with dev := finish (finishLoad (mWidth e.w) false (bufClear s.dev e.core (groupTag e.gno)) e
      ((lanesOf e.part).map (fun l => (l, l1Value (coreOf s.dev e.core) ((heldLoc s.dev e 0 (va l)).getD 0) (mWidth e.w))))) } := by
  have sound : i.sram = .ok := ready.2.2.1
  refine (perform_ready _ ready rfl (.inl lanes)).trans ?_
  rw [orFail_ok ok]
  simp only [session, frameAddrs_eq base, frameAddrs_inside _ inside, aligned, lanesTranslate_of_reachable reach, free_of_reachable reach, sound,
    l1Trouble_ok, Bool.false_eq_true, if_false, loadLanes_of_held _ reach held]

/-- Settles O15: RDG and SIN share the load of their lanes' locations, which the L1 serves at once. -/
theorem globalLoads : Obligations.GlobalLoads := by
  unfold Obligations.GlobalLoads
  intro s i e
  refine ⟨fun ready lanes ok ordered narrow aligned reach held => ?_, fun ready lanes ok plain aligned reach held => ?_,
    fun va base ready lanes ok session inside aligned reach held => ?_⟩
  · exact rdg_leaves ready lanes ok (.inl ⟨ordered, narrow⟩) aligned reach held
  · exact rdg_leaves ready lanes ok (.inr plain) aligned reach held
  · obtain ⟨flags, gets⟩ := dstGets_finishLoad s (mWidth e.w) false _ ready.run_eq (frameCk_fits ok) rfl
    exact ⟨_, exec_sin base ready lanes ok session inside aligned reach held, flags, gets.congr fun l _ => by simp [extend]⟩

end Sys2Proof.Machine
end

section
/-!
SUPPORT. Bytes of sectors: masks (R187) and merged bytes.
-/
namespace Sys2Proof.Machine

/-- A bit of a mask of bits is that of its byte. -/
theorem testBit_spread (n m i : Nat) : (spread n m).testBit i = (decide (i / 8 < n) && m.testBit (i / 8)) := by
  induction n generalizing m i with
  | zero => simp [spread]
  | succ n ih =>
    have low : (if m % 2 = 1 then 255 else 0) < 2 ^ 8 := by split <;> omega
    have form : spread (n + 1) m = 2 ^ 8 * spread n (m / 2) + (if m % 2 = 1 then 255 else 0) := by
      rw [spread]
      omega
    rw [form, Nat.testBit_two_pow_mul_add _ low]
    split
    · next first =>
      have here : i / 8 = 0 := by omega
      have ones : (255 : Nat).testBit i = decide (i < 8) := Nat.testBit_two_pow_sub_one 8 i
      rw [here, Nat.testBit_zero]
      split
      · next odd => simp [ones, first, odd]
      · next even => simp [even]
    · next later =>
      rw [ih]
      have before : (i - 8) / 8 = i / 8 - 1 := by omega
      have after : i / 8 = i / 8 - 1 + 1 := by omega
      rw [before, after, Nat.testBit_succ, Nat.add_sub_cancel]
      simp

/-- A bit of a byte of a number. -/
theorem getLsbD_byteAt (x j k : Nat) : (byteAt x j).getLsbD k = (decide (k < 8) && x.testBit (8 * j + k)) := by
  rw [byteAt, BitVec.getLsbD_ofNat, Nat.testBit_div_two_pow, Nat.add_comm]

/-- A byte of merged sectors. -/
theorem byteAt_merge256 (old new : BitVec 256) (mask : BitVec 32) {j : Nat} (inside : j < 32) :
    byteAt (merge256 old new mask).toNat j = if mask.getLsbD j then byteAt new.toNat j else byteAt old.toNat j := by
  apply BitVec.eq_of_getLsbD_eq
  intro k bit
  have place : (8 * j + k) / 8 = j := by omega
  have small : 8 * j + k < 256 := by omega
  have merged : (merge256 old new mask).toNat.testBit (8 * j + k)
      = if mask.getLsbD j then new.toNat.testBit (8 * j + k) else old.toNat.testBit (8 * j + k) := by
    rw [BitVec.testBit_toNat, merge256]
    simp only [BitVec.getLsbD_or, BitVec.getLsbD_and, BitVec.getLsbD_not, BitVec.getLsbD_ofNat, testBit_spread, place, small, inside, decide_true,
      Bool.true_and, BitVec.testBit_toNat]
    cases mask.getLsbD j <;> simp
  rw [getLsbD_byteAt, merged]
  split <;> rw [getLsbD_byteAt]

/-- The bytes that a span names. -/
theorem getLsbD_byteSpan (off n j : Nat) : (byteSpan off n).getLsbD j = (decide (j < 32) && decide (off ≤ j) && decide (j < off + n)) := by
  rw [byteSpan, BitVec.getLsbD_ofNat, Nat.testBit_mul_two_pow, Nat.testBit_two_pow_sub_one]
  by_cases above : off ≤ j
  · have : j - off < n ↔ j < off + n := by omega
    simp [above, this]
  · simp [above]

/-- A byte of a value set in a sector. -/
theorem byteAt_placed (v : Nat) {w off j : Nat} (inside : j < 32) (above : off ≤ j) (below : j < off + w) :
    byteAt (BitVec.ofNat 256 (v % 2 ^ (8 * w) * 2 ^ (8 * off))).toNat j = byteAt v (j - off) := by
  apply BitVec.eq_of_getLsbD_eq
  intro k bit
  have placed : 8 * off ≤ 8 * j + k := by omega
  have within : 8 * j + k - 8 * off < 8 * w := by omega
  have same : 8 * j + k - 8 * off = 8 * (j - off) + k := by omega
  have small : 8 * j + k < 256 := by omega
  rw [getLsbD_byteAt, getLsbD_byteAt, BitVec.toNat_ofNat, Nat.testBit_mod_two_pow, Nat.testBit_mul_two_pow, Nat.testBit_mod_two_pow]
  rw [same] at within
  simp [placed, within, small, same]

end Sys2Proof.Machine
end

section
/-!
SUPPORT. Stores into the L1 (R187).
-/
namespace Sys2Proof.Machine

/-- A table grows by one entry at most. -/
theorem length_tset {V : Type} (t : List (Nat × V)) (k : Nat) (v : V) : (tset t k v).length ≤ t.length + 1 := by
  induction t with
  | nil => simp [tset]
  | cons p t ih =>
    unfold tset
    split
    · simp
    · split
      · simp
      · simpa using ih

/-- A sector as a store finds it: what the L1 holds of it, or nothing. -/
def storeBase (c : Core) (sec : Nat) : L1Sector :=
  match tget c.l1 sec with
  | some x => if x.stale then ⟨0, 0, 0, 0, false, false, false⟩ else x
  | none => ⟨0, 0, 0, 0, false, false, false⟩

/-- A sector with bytes stored to it. -/
def L1Sector.withStore (x : L1Sector) (mask : BitVec 32) (data : BitVec 256) : L1Sector :=
  { x with data := merge256 x.data data mask, valid := x.valid ||| mask, dirty := x.dirty ||| mask, stored := x.stored ||| mask,
           poison := x.poison && !((x.stored ||| mask) == 0xFFFFFFFF), uncorr := x.uncorr && !((x.stored ||| mask) == 0xFFFFFFFF) }

/-- A store that finds room. -/
def putStore (c : Core) (sec : Nat) (mask : BitVec 32) (data : BitVec 256) : Core :=
  { c with l1 := tset c.l1 sec ((storeBase c sec).withStore mask data) }

/-- Where there is room a store changes its sector alone. -/
theorem l1Store_eq {c : Core} (room : c.l1.length < l1Capacity c) (sec : Nat) (mask : BitVec 32) (data : BitVec 256) :
    l1Store c sec mask data true = putStore c sec mask data := by
  have stays : l1Room c sec = c := by simp [l1Room, room]
  unfold l1Store
  rw [stays]
  rfl

theorem storeBase_fresh (c : Core) (sec : Nat) : (storeBase c sec).stale = false := by
  unfold storeBase
  split
  · split
    · rfl
    · next live => simpa using live
  · rfl

/-- What the L1 holds of a byte is what a store to its sector finds. -/
theorem l1Byte_eq_storeBase (c : Core) (a : Nat) :
    l1Byte c a = if (storeBase c (a / 32)).valid.getLsbD (a % 32) then some (byteAt (storeBase c (a / 32)).data.toNat (a % 32)) else none := by
  unfold l1Byte storeBase
  cases tget c.l1 (a / 32) with
  | none => simp
  | some x => cases stale : x.stale <;> simp [stale]

/-- A byte held by the L1 after a store. -/
theorem l1Byte_putStore (c : Core) (sec : Nat) (mask : BitVec 32) (data : BitVec 256) (a : Nat) :
    l1Byte (putStore c sec mask data) a
      = if a / 32 = sec ∧ mask.getLsbD (a % 32) = true then some (byteAt data.toNat (a % 32)) else l1Byte c a := by
  by_cases here : a / 32 = sec
  · subst here
    have written : l1Byte (putStore c (a / 32) mask data) a
        = if ((storeBase c (a / 32)).valid ||| mask).getLsbD (a % 32)
          then some (byteAt (merge256 (storeBase c (a / 32)).data data mask).toNat (a % 32)) else none := by
      simp [l1Byte, putStore, L1Sector.withStore, storeBase_fresh]
    rw [written, byteAt_merge256 _ _ _ (Nat.mod_lt _ (by norm_num)), l1Byte_eq_storeBase, BitVec.getLsbD_or]
    cases mask.getLsbD (a % 32) <;> simp
  · rw [if_neg (fun both => here both.1)]
    simp only [l1Byte, putStore, tget_tset_other _ _ _ _ here]

/-! ### The lanes' stores -/

/-- The store of one lane at its location. -/
def laneStore (loc val : Nat → Nat) (w : Nat) (c : Core) (l : Nat) : Core :=
  putStore c (loc l / 32) (byteSpan (loc l % 32) w) (BitVec.ofNat 256 (val l % 2 ^ (8 * w) * 2 ^ (8 * (loc l % 32))))

/-- The lanes' stores change the L1 alone. -/
theorem foldl_laneStore_eq (loc val : Nat → Nat) (w : Nat) (l : List Nat) (c : Core) :
    l.foldl (laneStore loc val w) c = { c with l1 := (l.foldl (laneStore loc val w) c).l1 } := by
  refine List.foldlRecOn (motive := fun d : Core => d = { c with l1 := d.l1 }) _ _ rfl ?_
  intro d same x _
  rw [laneStore, putStore, same]

/-- Where the L1 has room for each lane, the stores are the lanes' one after the other. -/
theorem storeLanes_eq (gno w : Nat) (va loc val : Nat → Nat) (l : List Nat) {c : Core} (room : c.l1.length + l.length ≤ l1Capacity c) :
    storeLanes c gno w false (l.map (fun x => (x, va x, loc x))) val = l.foldl (laneStore loc val w) c := by
  unfold storeLanes
  simp only [List.foldl_map, Bool.false_and, Bool.false_eq_true, if_false]
  induction l generalizing c with
  | nil => rfl
  | cons x l ih =>
    rw [List.length_cons] at room
    rw [List.foldl_cons, List.foldl_cons, l1Store_eq (by omega)]
    refine ih ?_
    have grown := length_tset c.l1 (loc x / 32) ((storeBase c (loc x / 32)).withStore (byteSpan (loc x % 32) w)
      (BitVec.ofNat 256 (val x % 2 ^ (8 * w) * 2 ^ (8 * (loc x % 32)))))
    show (tset c.l1 _ _).length + l.length ≤ l1Capacity c
    omega

/-- A byte that a lane's store covers, and one that it does not. -/
theorem l1Byte_laneStore (loc val : Nat → Nat) {w : Nat} (c : Core) {l : Nat} (within : loc l % 32 + w ≤ 32) (a : Nat) :
    l1Byte (laneStore loc val w c l) a = if loc l ≤ a ∧ a < loc l + w then some (byteAt (val l) (a - loc l)) else l1Byte c a := by
  have covers : (a / 32 = loc l / 32 ∧ (byteSpan (loc l % 32) w).getLsbD (a % 32) = true) ↔ loc l ≤ a ∧ a < loc l + w := by
    rw [getLsbD_byteSpan]
    simp only [Bool.and_eq_true, decide_eq_true_eq]
    omega
  rw [laneStore, l1Byte_putStore]
  simp only [covers]
  split
  · next here =>
    have place : a % 32 - loc l % 32 = a - loc l := by omega
    rw [byteAt_placed _ (by omega) (by omega) (by omega), place]
  · rfl

/-- Bytes that no lane's range holds stay. -/
theorem l1Byte_foldl_laneStore_other {loc val : Nat → Nat} {w : Nat} {l : List Nat} (c : Core) {a : Nat} (within : ∀ x ∈ l, loc x % 32 + w ≤ 32)
    (apart : ∀ x ∈ l, a < loc x ∨ loc x + w ≤ a) : l1Byte (l.foldl (laneStore loc val w) c) a = l1Byte c a := by
  refine foldl_uncovered _ (fun c => l1Byte c a) (fun x => loc x ≤ a ∧ a < loc x + w) (fun c x lane miss => ?_) (fun x lane => ?_)
  · exact (l1Byte_laneStore loc val c (within x lane) a).trans (if_neg miss)
  · have := apart x lane
    omega

/-- A lane's bytes that no later lane's range holds are as the lane stored them. -/
theorem l1Byte_foldl_laneStore_last {loc val : Nat → Nat} {w : Nat} {l : List Nat} (c : Core) {x j : Nat} (within : ∀ x ∈ l, loc x % 32 + w ≤ 32)
    (rising : l.Pairwise (· < ·)) (lane : x ∈ l) (inside : j < w) (last : ∀ y ∈ l, x < y → loc x + j < loc y ∨ loc y + w ≤ loc x + j) :
    l1Byte (l.foldl (laneStore loc val w) c) (loc x + j) = some (byteAt (val x) j) := by
  have seen := foldl_last (laneStore loc val w) (fun c => l1Byte c (loc x + j)) (fun y => some (byteAt (val y) (loc x + j - loc y)))
    (fun y => loc y ≤ loc x + j ∧ loc x + j < loc y + w) (c := c) (fun c y m miss => (l1Byte_laneStore loc val c (within y m) _).trans (if_neg miss))
    (fun c y m hit => (l1Byte_laneStore loc val c (within y m) _).trans (if_pos hit)) rising lane ⟨by omega, by omega⟩
    (fun y m later hit => by have := last y m later; omega)
  rwa [Nat.add_sub_cancel_left] at seen

end Sys2Proof.Machine
end

section
/-!
The obligation on global stores (R105, R119, R120, R187).
-/
namespace Sys2Proof.Machine

theorem length_lanesOf (m : LaneMask) : (lanesOf m).length ≤ 32 := by
  have within : lanesOf m ⊆ List.range 32 := fun l lane => List.mem_range.mpr (lt_of_testBit_lane ((mem_lanesOf m l).mp lane))
  simpa using (List.subperm_of_subset (nodup_lanesOf m) within).length_le

/-- The core after stores of lanes to the L1, its group standing behind the instruction. -/
def storedCore (e : Env) (w : Nat) (locs : List (Nat × Nat × Nat)) (c : Core) : Core :=
  withGroup e.gno (advancePc e.g (wLen e.w)) (storeLanes c e.gno w false locs (fun l => srcB e.g e.w e.second l (regsOfWidth w)))

/-- WRG's effect where it stores to the L1. -/
theorem exec_wrg {s : State} {i : Issue} {e : Env} {va : Nat → Nat} (base : va = fun l => wrap ((srcA e.g e.w l 2 : Int) + wOffset e.w) 64)
    (ready : Ready s.dev i 0x31 e) (lanes : e.part ≠ 0) (ok : ckCode (memCk e.w e.second e.d.shape.regs false true) = 0)
    (order : mOrd e.w = 0 ∧ mHint e.w ≠ 2
      ∨ mOrd e.w = 2 ∧ mScope e.w ≤ 1 ∧ e.g.phase = 1 ∧ ownStoresPending (coreOf s.dev e.core) e.gno = false)
    (aligned : misaligned ((lanesOf e.part).map (fun l => (l, va l))) (mWidth e.w) = false)
    (reach : Reachable s.dev e 1 (mWidth e.w) true ((lanesOf e.part).map (fun l => (l, va l)))) :
    exec (.wrg i) s = .next { s with dev := finish (modCore s.dev e.core (storedCore e (mWidth e.w) (lanesAt s.dev e 1 va))) } := by
  subst base
  refine (perform_ready _ ready rfl (.inl lanes)).trans ?_
  rw [orFail_ok ok]
  simp only [globalAddrs, aligned, lanesTranslate_of_reachable reach, free_of_reachable reach, Bool.false_eq_true, if_false]
  rcases order with ⟨plain, hint⟩ | ⟨ordered, narrow, waited⟩
  · have kept : (mHint e.w == 2) = false := beq_false_of_ne hint
    simp only [plain, OfNat.zero_ne_ofNat, if_false, kept, complete_modCore]
    rfl
  · simp only [ordered, if_true, afterRelease_core narrow waited, narrow, complete_modCore]
    rfl

/-- SOUT's effect. -/
theorem exec_sout {s : State} {i : Issue} {e : Env} {va : Nat → Nat}
    (base : va = fun l => ((slotOf e.d e.g.slot).outVa + wrap ((srcA e.g e.w l 1 : Int) + wOffset e.w) 32) % 2 ^ 64)
    (ready : Ready s.dev i 0x6A e) (lanes : e.part ≠ 0) (ok : ckCode (frameCk e.w e.second e.d.shape.regs false) = 0) (session : e.d.plain = false)
    (inside : ∀ l, e.part.toNat.testBit l = true → wrap ((srcA e.g e.w l 1 : Int) + wOffset e.w) 32 + mWidth e.w ≤ (slotOf e.d e.g.slot).outLen)
    (aligned : misaligned ((lanesOf e.part).map (fun l => (l, va l))) (mWidth e.w) = false)
    (reach : Reachable s.dev e 1 (mWidth e.w) true ((lanesOf e.part).map (fun l => (l, va l)))) :
    exec (.sout i) s = .next { s with dev := finish (modCore s.dev e.core (storedCore e (mWidth e.w) (lanesAt s.dev e 1 va))) } := by
  refine (perform_ready _ ready rfl (.inl lanes)).trans ?_
  rw [orFail_ok ok]
  simp only [session, frameAddrs_eq base, frameAddrs_inside _ inside, aligned, lanesTranslate_of_reachable reach, free_of_reachable reach,
    Bool.false_eq_true, if_false, complete_modCore]
  rfl

/-- Settles O16: with room for each lane, both rows' stores are the lanes' one after the other. -/
theorem globalStores : Obligations.GlobalStores := by
  unfold Obligations.GlobalStores
  intro s i e w va addrs loc width named place aligned reach within c which lanes room
  subst width named
  have effect : exec c s = .next { s with dev := finish (modCore s.dev e.core (storedCore e (mWidth e.w) (lanesAt s.dev e 1 va))) } := by
    rcases which with ⟨rfl, ready, ok, base, order⟩ | ⟨rfl, ready, ok, session, base, inside⟩
    · exact exec_wrg base ready lanes ok order aligned reach
    · exact exec_sout base ready lanes ok session inside aligned reach
  have run : e.g.run = some e.path := by
    rcases which with ⟨-, ready, -⟩ | ⟨-, ready, -⟩
    · exact ready.run_eq
    · exact ready.run_eq
  have locs : lanesAt s.dev e 1 va = (lanesOf e.part).map (fun l => (l, va l, loc l)) := by
    simp only [lanesAt, place]
  have count := length_lanesOf e.part
  have stores := storeLanes_eq e.gno (mWidth e.w) va loc (fun l => srcB e.g e.w e.second l (regsOfWidth (mWidth e.w))) (lanesOf e.part)
    (c := coreOf s.dev e.core) (by omega)
  refine ⟨_, effect, rfl, ?_⟩
  rw [withDev_dev, groupIn_modCore, coreOf_finish, coreOf_modCore_same, storedCore, locs, stores]
  obtain ⟨bytes, regs, units, cores⟩ := modCore_leaves s e.core (storedCore e (mWidth e.w) ((lanesOf e.part).map (fun l => (l, va l, loc l))))
  have group : ∀ c, tgetD (withGroup e.gno (advancePc e.g (wLen e.w)) c).groups e.gno e.g = advancePc e.g (wLen e.w) :=
    fun c => tgetD_tset_same _ _ _ _
  rw [group]
  have keep := foldl_laneStore_eq loc (fun l => srcB e.g e.w e.second l (regsOfWidth (mWidth e.w))) (mWidth e.w) (lanesOf e.part) (coreOf s.dev e.core)
  have inSector : ∀ l ∈ lanesOf e.part, loc l % 32 + mWidth e.w ≤ 32 := fun l lane => within l ((mem_lanesOf _ _).mp lane)
  refine ⟨bytes, regs, units, cores, movedOn_advancePc run, rfl, rfl, by rw [keep]; rfl, by rw [keep]; rfl, fun a apart => ?_,
    fun l j lane inside last => ?_⟩
  · exact l1Byte_foldl_laneStore_other _ inSector (fun x lane => apart x ((mem_lanesOf _ _).mp lane))
  · exact l1Byte_foldl_laneStore_last _ inSector (pairwise_lanesOf _) ((mem_lanesOf _ _).mpr lane) inside
      (fun y m later => last y later ((mem_lanesOf _ _).mp m))

end Sys2Proof.Machine
end

section
/-!
The obligation on stores that go past the L1 (R77, R187, R190).
-/
namespace Sys2Proof.Machine

/-- The write that a lane's store past the L1 sends. -/
def laneWrite (c : Core) (gno w : Nat) (loc val : Nat → Nat) (l : Nat) : WbEntry :=
  ⟨loc l / 32, BitVec.ofNat 256 (val l % 2 ^ (8 * w) * 2 ^ (8 * (loc l % 32))), byteSpan (loc l % 32) w, false, none, gno, c.seq, none⟩

/-- A core with the writes of lanes behind its own. -/
def withWrites (c : Core) (gno w : Nat) (loc val : Nat → Nat) (l : List Nat) : Core := { c with wb := c.wb ++ l.map (laneWrite c gno w loc val) }

theorem withWrites_cons (c : Core) (gno w : Nat) (loc val : Nat → Nat) (x : Nat) (l : List Nat) :
    withWrites c gno w loc val (x :: l) = withWrites { c with wb := c.wb ++ [laneWrite c gno w loc val x] } gno w loc val l := by
  simp only [withWrites, List.map_cons, List.append_assoc, List.singleton_append]
  rfl

/-- Stores past the L1 send a write for each lane (R187). -/
theorem storeLanes_past (gno w : Nat) (va loc val : Nat → Nat) (l : List Nat) {c : Core} (absent : ∀ x ∈ l, l1Holds c (loc x / 32) = false) :
    storeLanes c gno w true (l.map (fun x => (x, va x, loc x))) val = withWrites c gno w loc val l := by
  unfold storeLanes
  simp only [List.foldl_map]
  induction l generalizing c with
  | nil => simp [withWrites]
  | cons x l ih =>
    rw [List.foldl_cons, withWrites_cons]
    refine Eq.trans ?_ (ih (c := { c with wb := c.wb ++ [laneWrite c gno w loc val x] }) (fun y m => absent y (by simp [m])))
    simp only [absent x (by simp), Bool.not_false, Bool.and_self, if_true]
    rfl

/-- Ordered stores past the L1 do the same (R190). -/
theorem storeThrough_absent (gno w : Nat) (va loc val : Nat → Nat) (l : List Nat) {c : Core} (absent : ∀ x ∈ l, l1Holds c (loc x / 32) = false) :
    storeThrough c gno w (l.map (fun x => (x, va x, loc x))) val = withWrites c gno w loc val l := by
  unfold storeThrough
  simp only [List.foldl_map]
  induction l generalizing c with
  | nil => simp [withWrites]
  | cons x l ih =>
    rw [List.foldl_cons, withWrites_cons]
    refine Eq.trans ?_ (ih (c := { c with wb := c.wb ++ [laneWrite c gno w loc val x] }) (fun y m => absent y (by simp [m])))
    simp only [absent x (by simp), Bool.false_eq_true, if_false]
    rfl

/-- WRG's effect where it stores past the L1. -/
theorem exec_wrg_past {s : State} {i : Issue} {e : Env} {va loc : Nat → Nat} (base : va = fun l => wrap ((srcA e.g e.w l 2 : Int) + wOffset e.w) 64)
    (place : ∀ l, loc l = (heldLoc s.dev e 1 (va l)).getD 0) (ready : Ready s.dev i 0x31 e) (lanes : e.part ≠ 0)
    (ok : ckCode (memCk e.w e.second e.d.shape.regs false true) = 0)
    (order : mOrd e.w = 0 ∧ mHint e.w = 2
      ∨ mOrd e.w = 2 ∧ 2 ≤ mScope e.w ∧ e.g.phase = 1 ∧ releaseReady s.dev e.core e.gno e.g.relSeq (mScope e.w) = true)
    (aligned : misaligned ((lanesOf e.part).map (fun l => (l, va l))) (mWidth e.w) = false)
    (reach : Reachable s.dev e 1 (mWidth e.w) true ((lanesOf e.part).map (fun l => (l, va l))))
    (absent : ∀ l, e.part.toNat.testBit l = true → l1Holds (coreOf s.dev e.core) (loc l / 32) = false) :
    exec (.wrg i) s = .next { s with dev := finish (modCore s.dev e.core (fun _ => withGroup e.gno (advancePc e.g (wLen e.w))
      (withWrites (coreOf s.dev e.core) e.gno (mWidth e.w) loc (fun l => srcB e.g e.w e.second l (regsOfWidth (mWidth e.w))) (lanesOf e.part)))) } := by
  have locs : lanesAt s.dev e 1 va = (lanesOf e.part).map (fun l => (l, va l, loc l)) := by
    simp only [lanesAt, place]
  have translated := lanesTranslate_of_reachable reach
  have free := free_of_reachable reach
  rw [locs] at translated free
  subst base
  have missing : ∀ x ∈ lanesOf e.part, l1Holds (coreOf s.dev e.core) (loc x / 32) = false := fun x m => absent x ((mem_lanesOf _ _).mp m)
  refine (perform_ready _ ready rfl (.inl lanes)).trans ?_
  rw [orFail_ok ok]
  simp only [globalAddrs, aligned, translated, free, Bool.false_eq_true, if_false]
  rcases order with ⟨plain, hint⟩ | ⟨ordered, wide, begun, accepted⟩
  · have past : (mHint e.w == 2) = true := beq_iff_eq.mpr hint
    simp only [plain, OfNat.zero_ne_ofNat, if_false, past, complete_modCore]
    rw [modCore, storeLanes_past _ _ _ _ _ _ missing]
    rfl
  · have notCore : ¬ mScope e.w ≤ 1 := by omega
    simp only [ordered, if_true, afterRelease_of_ready begun accepted, notCore, if_false, complete_modCore]
    rw [modCore, storeThrough_absent _ _ _ _ _ _ missing]
    rfl

/-- A core replaced is a core changed to a constant. -/
theorem modCore_const (s : Dev) (core : Nat) (c : Core) : modCore s core (fun _ => c) = setCore s core c := rfl

/-- Settles O17: neither way of storing finds a lane's sector in the L1, so each lane's bytes join the core's writes. -/
theorem storesPastTheL1 : Obligations.StoresPastTheL1 := by
  unfold Obligations.StoresPastTheL1
  intro s i e w va loc width base place ready lanes ok aligned reach order absent
  subst width
  refine ⟨_, exec_wrg_past base place ready lanes ok order (by rw [base]; exact aligned) (by rw [base]; exact reach) absent, ?_⟩
  have sent : (withGroup e.gno (advancePc e.g (wLen e.w)) (withWrites (coreOf s.dev e.core) e.gno (mWidth e.w) loc
      (fun l => srcB e.g e.w e.second l (regsOfWidth (mWidth e.w))) (lanesOf e.part))).wb = (coreOf s.dev e.core).wb ++ (lanesOf e.part).map
        (laneWrite (coreOf s.dev e.core) e.gno (mWidth e.w) loc (fun l => srcB e.g e.w e.second l (regsOfWidth (mWidth e.w)))) := rfl
  rw [withDev_dev, groupIn_modCore, coreOf_finish, coreOf_modCore_same, sent]
  have group : ∀ c, tgetD (withGroup e.gno (advancePc e.g (wLen e.w)) c).groups e.gno e.g = advancePc e.g (wLen e.w) :=
    fun c => tgetD_tset_same _ _ _ _
  rw [group]
  refine ⟨?_, movedOn_advancePc ready.run_eq, rfl, rfl⟩
  have only := onlyGroup_withGroup { s with dev := setCore s.dev e.core (withWrites (coreOf s.dev e.core) e.gno (mWidth e.w) loc
    (fun l => srcB e.g e.w e.second l (regsOfWidth (mWidth e.w))) (lanesOf e.part)) } e (advancePc e.g (wLen e.w))
  rwa [withDev_dev, ← modCore_const, modCore_modCore] at only

end Sys2Proof.Machine
end

section
/-!
SUPPORT. Writing the L1 back and making it stale (R188, R189).
-/
namespace Sys2Proof.Machine

/-- Pushing a sector changes the L1 and the core's writes alone. -/
theorem l1Push_eq (c : Core) (sec : Nat) : l1Push c sec = { c with l1 := (l1Push c sec).l1, wb := (l1Push c sec).wb } := by
  unfold l1Push
  split
  · split <;> rfl
  · rfl

theorem l1PushAll_eq (c : Core) : l1PushAll c = { c with l1 := (l1PushAll c).l1, wb := (l1PushAll c).wb } := by
  refine List.foldlRecOn (motive := fun d : Core => d = { c with l1 := d.l1, wb := d.wb }) _ _ rfl ?_
  intro d same sec _
  rw [l1Push_eq, same]

/-- So does an acquire. -/
theorem l1Acquire_eq (c : Core) : l1Acquire c = { c with l1 := (l1Acquire c).l1, wb := (l1Acquire c).wb } := by
  rw [l1Acquire, l1PushAll_eq]

/-- An acquire leaves every sector stale and clean (R189). -/
theorem l1Fresh_l1Acquire (c : Core) : l1Fresh (l1Acquire c) := by
  intro sec x found
  rw [l1Acquire, tget_tmap, Option.map_eq_some_iff] at found
  obtain ⟨y, -, rfl⟩ := found
  exact ⟨rfl, rfl⟩

/-- What an instruction with an ORD field does to its core's L1: an acquire, where it is one at island scope or wider. -/
def acquired (w : Word64) (c : Core) : Core := if mOrd w % 2 = 1 ∧ 2 ≤ mScope w then l1Acquire c else c

theorem acquired_eq (w : Word64) (c : Core) : acquired w c = { c with l1 := (acquired w c).l1, wb := (acquired w c).wb } := by
  unfold acquired
  split
  · exact l1Acquire_eq c
  · rfl

/-- A change of a core, and the acquire of an instruction with an ORD field. -/
theorem acquire_modCore (s : Dev) (core : Nat) (f : Core → Core) (w : Word64) :
    (if mOrd w % 2 = 1 then acquire (modCore s core f) core (mScope w) else modCore s core f) = modCore s core (fun c => acquired w (f c)) := by
  unfold acquire acquired
  split
  · next acquires =>
    split
    · next wide => simp only [modCore_modCore, acquires, wide, true_and, if_true]
    · next narrow => simp only [narrow, and_false, if_false]
  · next plain => simp only [plain, false_and, if_false]

end Sys2Proof.Machine
end

section
/-!
The obligation on global atomics (R77, R106, R107, R190, R200).
-/
namespace Sys2Proof.Machine

/-- The core after an atomic whose results have come back: they have left its buffer, and an acquire has made the L1 stale. -/
def atomicCore (e : Env) (v : Nat → Nat) (c : Core) : Core :=
  withGroup e.gno (advancePc (atomicGroup e ((lanesOf e.part).map (fun l => (l, v l)))) (wLen e.w))
    (acquired e.w { c with abuf := c.abuf.filter (fun r => r.group != e.gno) })

/-- A lane is found among lanes by itself. -/
theorem find?_lane {lanes : List Nat} {l : Nat} (lane : l ∈ lanes) : lanes.find? (fun x => x == l) = some l := by
  cases found : lanes.find? (fun x => x == l) with
  | none => exact absurd (List.find?_eq_none.mp found l lane) (by simp)
  | some x =>
    have here : (x == l) = true := List.find?_some (p := fun x => x == l) found
    rw [beq_iff_eq.mp here]

/-- An atomic whose results are all there takes them (R106). -/
theorem runAtomics_of_results {s : Dev} {e : Env} {va v : Nat → Nat} (sent : 1 < e.g.phase)
    (results : (coreOf s e.core).abuf.filter (fun r => r.group == e.gno) = (lanesOf e.part).map (fun l => ⟨e.gno, l, v l, 0⟩)) :
    runAtomics s e (lanesAt s e 2 va) = modCore s e.core (atomicCore e v) := by
  have later : ¬ e.g.phase ≤ 1 := by omega
  have all : ¬ (lanesOf e.part).length < (lanesAt s e 2 va).length := by simp [lanesAt]
  have sorted : (lanesAt s e 2 va).filterMap (fun p => ((lanesOf e.part).map (fun l => (⟨e.gno, l, v l, 0⟩ : AmoResult))).find? (fun r => r.lane == p.1))
      = (lanesOf e.part).map (fun l => ⟨e.gno, l, v l, 0⟩) := by
    rw [lanesAt, List.filterMap_map]
    refine (List.filterMap_congr (fun l lane => ?_)).trans (congrFun List.filterMap_eq_map _)
    rw [Function.comp_apply, List.find?_map, Function.comp_def, find?_lane lane]
    rfl
  have sound : ((lanesOf e.part).map (fun l => (⟨e.gno, l, v l, 0⟩ : AmoResult))).find? (fun r => r.code != 0) = none := by
    rw [List.find?_eq_none]
    intro r named
    obtain ⟨l, -, rfl⟩ := List.mem_map.mp named
    simp
  unfold runAtomics
  simp only [later, if_false, results, List.length_map, all, sorted, sound, acquire_modCore, finishAtomic, complete_modCore, List.map_map]
  rfl

/-- The sectors of accesses to one sector. -/
theorem sectorsOf_one {lanes : List Nat} {va loc : Nat → Nat} {sec : Nat} (some : lanes ≠ []) (one : ∀ l ∈ lanes, loc l / 32 = sec) :
    sectorsOf (lanes.map (fun l => (l, va l, loc l))) = [sec] := by
  rw [sectorsOf, List.foldl_map]
  exact foldl_insertNat_const lanes (fun l => loc l / 32) sec some one

/-- AMOG's effect, from its checks on. -/
theorem exec_amog {s : State} {i : Issue} {e : Env} {va : Nat → Nat} (base : va = fun l => wrap ((srcA e.g e.w l 2 : Int) + wOffset e.w) 64)
    (ready : Ready s.dev i 0x38 e) (lanes : e.part ≠ 0) (ok : ckCode (amoCk e.w e.second e.d.shape.regs true) = 0)
    (aligned : misaligned (globalAddrs e) (if aW64 e.w then 8 else 4) = false)
    (reach : Reachable s.dev e 2 (if aW64 e.w then 8 else 4) true (globalAddrs e))
    (released : 2 ≤ mOrd e.w → 1 < e.g.phase ∨ e.g.phase = 1 ∧ releaseReady s.dev e.core e.gno e.g.relSeq (mScope e.w) = true) :
    exec (.amog i) s = .next { s with dev := finish (runAtomics s.dev e (lanesAt s.dev e 2 va)) } := by
  have translated := lanesTranslate_of_reachable reach
  subst base
  refine (perform_ready _ ready rfl (.inl lanes)).trans ?_
  rw [orFail_ok ok]
  unfold globalAddrs at aligned translated ⊢
  simp only [aligned, translated, free_of_reachable reach, Bool.false_eq_true, and_false, if_false]
  split
  · next orders =>
    obtain ⟨ordered, early⟩ := orders
    obtain ⟨begun, accepted⟩ := (released ordered).resolve_left (by omega)
    rw [afterRelease_of_ready begun accepted]
  · rfl

/-- The request for the sector of an atomic, sent where none is under way. -/
theorem sendReq_first {s : Dev} (none : s.net = []) (core tag sec : Nat) (kind : ReqKind) :
    sendReq s core tag sec kind = { s with net := [(s.nextReq, ⟨core, tag, sec, kind, false⟩)], nextReq := s.nextReq + 1 } := by
  simp [sendReq, none, tset]

/-- An atomic on one sector sends one request for its lanes, and its group waits (R106). -/
theorem sendAtomics_one {s : Dev} {e : Env} {va loc : Nat → Nat} {sec : Nat} (none : s.net = []) (lanes : e.part ≠ 0)
    (one : ∀ l ∈ lanesOf e.part, loc l / 32 = sec) :
    sendAtomics s e ((lanesOf e.part).map (fun l => (l, va l, loc l))) = putGroup
      { modCore s e.core (fun c => { l1Push c sec with l1 := tmod (l1Push c sec).l1 sec L1Sector.staled }) with
        net := [(s.nextReq, ⟨e.core, groupTag e.gno, sec, .atomic ((lanesOf e.part).map (fun l => laneAtom e l (loc l % 32))), false⟩)],
        nextReq := s.nextReq + 1 } e { e.g with phase := 3, stall := .response } := by
  have whole : ((lanesOf e.part).map (fun l => (l, va l, loc l))).filter (fun p => p.2.2 / 32 == sec) = (lanesOf e.part).map (fun l => (l, va l, loc l)) := by
    rw [List.filter_eq_self]
    intro p named
    obtain ⟨l, lane, rfl⟩ := List.mem_map.mp named
    simpa using one l lane
  unfold sendAtomics
  rw [sectorsOf_one (lanesOf_ne_nil lanes) one]
  simp only [List.foldl_cons, List.foldl_nil]
  rw [sendReq_first (by exact none), whole, List.map_map]
  rfl

/-- The group after an atomic with its old values: they are written, unless none are returned. -/
theorem atomicGroup_gets {e : Env} (v : Nat → Nat) (fits : aNr e.w = false → wDst e.w + (if aW64 e.w then 2 else 1) ≤ 256) :
    if aNr e.w then (atomicGroup e ((lanesOf e.part).map (fun l => (l, v l)))).gr = e.g.gr
    else (∀ l, e.part.toNat.testBit l = true → readG (atomicGroup e ((lanesOf e.part).map (fun l => (l, v l)))) l (wDst e.w) (if aW64 e.w then 2 else 1)
          = v l % (if aW64 e.w then 2 ^ 64 else 2 ^ 32))
      ∧ SameButG (wDst e.w) (if aW64 e.w then 2 else 1) e.part e.g (atomicGroup e ((lanesOf e.part).map (fun l => (l, v l)))) := by
  unfold atomicGroup
  cases returns : aNr e.w with
  | true => rfl
  | false =>
    simp only [Bool.false_eq_true, if_false]
    refine ⟨fun l lane => ?_, fun lane n inside outside => ?_, writeLanes_pr _ _ _ _, writeLanes_ur _ _ _ _⟩
    · rw [readG_writeLanes e.g (wDst e.w) _ _ v l (fits returns) (nodup_lanesOf _) ((mem_lanesOf _ _).mpr lane)]
      split <;> rfl
    · refine gReg_writeLanes_other _ _ _ _ _ _ (fits returns) inside (outside.imp_left (fun absent p named => ?_))
      obtain ⟨l, present, rfl⟩ := List.mem_map.mp named
      rintro rfl
      simp [(mem_lanesOf _ _).mp present] at absent

theorem atomicGroup_run {e : Env} (run : e.g.run = some e.path) (vals : List (Nat × Nat)) : (atomicGroup e vals).run = some e.path := by
  unfold atomicGroup
  split
  · exact run
  · rw [writeLanes_eq]
    exact run

/-- An atomic on one sector sends its request once its release has completed (R106). -/
theorem runAtomics_sends {s : Dev} {e : Env} {va : Nat → Nat} {sec : Nat} (none : s.net = []) (lanes : e.part ≠ 0) (early : e.g.phase ≤ 1)
    (one : ∀ l ∈ lanesOf e.part, (heldLoc s e 2 (va l)).getD 0 / 32 = sec) :
    runAtomics s e (lanesAt s e 2 va) = putGroup
      { modCore s e.core (fun c => { l1Push c sec with l1 := tmod (l1Push c sec).l1 sec L1Sector.staled }) with
        net := [(s.nextReq, ⟨e.core, groupTag e.gno, sec,
          .atomic ((lanesOf e.part).map (fun l => laneAtom e l ((heldLoc s e 2 (va l)).getD 0 % 32))), false⟩)],
        nextReq := s.nextReq + 1 } e { e.g with phase := 3, stall := .response } := by
  unfold runAtomics
  rw [if_pos early, lanesAt, sectorsOf_one (lanesOf_ne_nil lanes) one, if_pos (by simp), sendAtomics_one none lanes one]

/-- A group put into its core. -/
theorem groupIn_putGroup (s : Dev) (e : Env) (g : Group) : groupIn (finish (putGroup s e g)) e = g := by
  rw [putGroup, groupIn_modCore]
  exact tgetD_tset_same _ _ _ _

/-- Settles O18: with its results an atomic takes them from the buffer and goes on; before that it sends the request of its one sector. -/
theorem globalAtomics : Obligations.GlobalAtomics := by
  unfold Obligations.GlobalAtomics
  intro s i e ready lanes ok aligned reach
  refine ⟨fun v sent results => ?_, fun sec order none one => ?_⟩
  · refine ⟨_, (exec_amog rfl ready lanes ok aligned reach (fun _ => .inl sent)).trans (by rw [runAtomics_of_results sent results]), ?_⟩
    obtain ⟨bytes, -⟩ := modCore_leaves s e.core (atomicCore e v)
    have group : groupIn (finish (modCore s.dev e.core (atomicCore e v))) e
        = advancePc (atomicGroup e ((lanesOf e.part).map (fun l => (l, v l)))) (wLen e.w) := by
      rw [groupIn_modCore]
      exact tgetD_tset_same _ _ _ _
    have values := atomicGroup_gets v (amoCk_fits ok)
    rw [withDev_dev, group, coreOf_finish, coreOf_modCore_same]
    refine ⟨bytes, movedOn_advancePc (atomicGroup_run ready.run_eq _), ?_, ?_, fun acquires wide => ?_, fun narrow => ?_⟩
    · rw [atomicCore, acquired_eq]
      rfl
    · split at values
      · next none =>
        rw [if_pos none]
        exact values
      · next returns =>
        rw [if_neg returns]
        obtain ⟨written, others, preds, uniform⟩ := values
        exact ⟨fun l lane => (readG_congr (by rfl) _ _ _).trans (written l lane), others, preds, uniform⟩
    · have fresh := l1Fresh_l1Acquire { coreOf s.dev e.core with abuf := (coreOf s.dev e.core).abuf.filter (fun r => r.group != e.gno) }
      rw [atomicCore, acquired, if_pos ⟨acquires, wide⟩]
      exact fresh
    · have plain : ¬ (mOrd e.w % 2 = 1 ∧ 2 ≤ mScope e.w) := by omega
      have same : atomicCore e v = fun c => withGroup e.gno (advancePc (atomicGroup e ((lanesOf e.part).map (fun l => (l, v l)))) (wLen e.w))
          { c with abuf := c.abuf.filter (fun r => r.group != e.gno) } := by
        funext c
        rw [atomicCore, acquired, if_neg plain]
      rw [same]
      exact (onlyGroup_modCore s e _ _ rfl rfl rfl rfl rfl).1
  · have place : ∀ l ∈ lanesOf e.part, (heldLoc s.dev e 2 (wrap ((srcA e.g e.w l 2 : Int) + wOffset e.w) 64)).getD 0 / 32 = sec := by
      intro l lane
      obtain ⟨loc, found, here⟩ := Option.map_eq_some_iff.mp (one l ((mem_lanesOf _ _).mp lane))
      rw [found]
      exact here
    have released : 2 ≤ mOrd e.w → 1 < e.g.phase ∨ e.g.phase = 1 ∧ releaseReady s.dev e.core e.gno e.g.relSeq (mScope e.w) = true := by
      intro ordered
      rcases order with ⟨plain, -⟩ | ⟨-, begun⟩
      · omega
      · exact .inr begun
    have effect := exec_amog rfl ready lanes ok aligned reach released
    rw [runAtomics_sends none lanes (by omega) place] at effect
    refine ⟨_, effect, ?_⟩
    rw [withDev_dev, groupIn_putGroup, finish_net]
    refine ⟨fun a => ?_, ?_, ?_, rfl⟩
    · rw [dramByte_finish]
      rfl
    · rfl
    · rfl

end Sys2Proof.Machine
end

section
/-!
The obligation on fences and cache range operations (R108, R109, R188 to R190, R194).
-/
namespace Sys2Proof.Machine

/-! ### Fences -/

/-- An acquire before the group moves on. -/
theorem complete_acquire (s : Dev) (e : Env) (g : Group) :
    complete (if mOrd e.w % 2 = 1 then acquire s e.core (mScope e.w) else s) e g
      = modCore s e.core (fun c => withGroup e.gno (advancePc g (wLen e.w)) (acquired e.w c)) := by
  unfold acquire acquired
  split
  · next acquires =>
    split
    · next wide => simp only [complete_modCore, acquires, wide, true_and, if_true]
    · next narrow =>
      simp only [narrow, and_false, if_false]
      exact complete_eq_modCore s e g
  · next plain =>
    simp only [plain, false_and, if_false]
    exact complete_eq_modCore s e g

/-- FENCE's effect. -/
theorem exec_fence {s : State} {i : Issue} {e : Env} (ready : Ready s.dev i 0x3F e) (lanes : e.part ≠ 0)
    (ok : ckCode (ckAll [selCk e.w, modCk e.w 0x1F0000, rsvIf (mOrd e.w == 0 || mScope e.w ≥ 6), noA e.w, noB e.w, noD e.w]) = 0)
    (released : 2 ≤ mOrd e.w → e.g.phase = 1 ∧ releaseReady s.dev e.core e.gno e.g.relSeq (mScope e.w) = true) :
    exec (.fence i) s = .next { s with dev := finish (modCore s.dev e.core (fun c =>
      withGroup e.gno (advancePc e.g (wLen e.w)) (acquired e.w c))) } := by
  refine (perform_ready _ ready rfl (.inl lanes)).trans ?_
  rw [orFail_ok ok]
  simp only [complete_acquire]
  split
  · next ordered =>
    obtain ⟨begun, accepted⟩ := released ordered
    rw [afterRelease_of_ready begun accepted]
  · rfl

/-- What FENCE leaves. -/
theorem fence_leaves {s : State} {i : Issue} {e : Env} (ready : Ready s.dev i 0x3F e) (lanes : e.part ≠ 0)
    (ok : ckCode (ckAll [selCk e.w, modCk e.w 0x1F0000, rsvIf (mOrd e.w == 0 || mScope e.w ≥ 6), noA e.w, noB e.w, noD e.w]) = 0)
    (released : 2 ≤ mOrd e.w → e.g.phase = 1 ∧ releaseReady s.dev e.core e.gno e.g.relSeq (mScope e.w) = true) :
    ∃ t, exec (.fence i) s = .next t ∧ t.pending = s.pending ∧ SameBytes s.dev t.dev ∧ SameRegsBut [] s.dev t.dev ∧ SameUnits s.dev t.dev
      ∧ SameCoresBut e.core s.dev t.dev ∧ movedOn e (groupIn t.dev e) ∧ (groupIn t.dev e).gr = e.g.gr
      ∧ (mOrd e.w % 2 = 1 → 2 ≤ mScope e.w → l1Fresh (coreOf t.dev e.core))
      ∧ (mOrd e.w % 2 = 0 ∨ mScope e.w ≤ 1 → (coreOf t.dev e.core).l1 = (coreOf s.dev e.core).l1) := by
  refine ⟨_, exec_fence ready lanes ok released, rfl, ?_⟩
  obtain ⟨bytes, regs, units, cores⟩ := modCore_leaves s e.core (fun c => withGroup e.gno (advancePc e.g (wLen e.w)) (acquired e.w c))
  have group : groupIn (finish (modCore s.dev e.core (fun c => withGroup e.gno (advancePc e.g (wLen e.w)) (acquired e.w c)))) e
      = advancePc e.g (wLen e.w) := by
    rw [groupIn_modCore]
    exact tgetD_tset_same _ _ _ _
  rw [withDev_dev, group, coreOf_finish, coreOf_modCore_same]
  refine ⟨bytes, regs, units, cores, movedOn_advancePc ready.run_eq, rfl, fun acquires wide => ?_, fun narrow => ?_⟩
  · rw [acquired, if_pos ⟨acquires, wide⟩]
    exact l1Fresh_l1Acquire (coreOf s.dev e.core)
  · have plain : ¬ (mOrd e.w % 2 = 1 ∧ 2 ≤ mScope e.w) := by omega
    rw [acquired, if_neg plain]
    rfl

/-! ### Cache range operations -/

/-- A sector written back once is clean: more pushes of it do nothing. -/
theorem foldl_l1PushFor (gno : Nat) (c : Core) {sec : Nat} {x : L1Sector} (held : tget c.l1 sec = some x) (dirty : x.dirty ≠ 0) {l : List Nat}
    (some : l ≠ []) (one : ∀ k ∈ l, k = sec) :
    l.foldl (l1PushFor gno) c = { c with l1 := tset c.l1 sec { x with dirty := 0 },
                                         wb := c.wb ++ [⟨sec, x.data, x.dirty, false, none, gno, c.seq, none⟩] } := by
  have first : l1PushFor gno c sec = { c with l1 := tset c.l1 sec { x with dirty := 0 },
                                              wb := c.wb ++ [⟨sec, x.data, x.dirty, false, none, gno, c.seq, none⟩] } := by
    simp only [l1PushFor, held, dirty, if_false]
  cases l with
  | nil => exact absurd rfl some
  | cons k l =>
    rw [List.foldl_cons, one k (by simp), first]
    refine List.foldlRecOn (motive := fun d => d = _) _ _ rfl ?_
    rintro _ rfl k later
    rw [one k (by simp [later])]
    simp [l1PushFor]

/-- A sector made stale, however often. -/
theorem tget_foldl_staled {t : Tbl L1Sector} {sec : Nat} {x : L1Sector} (held : tget t sec = some x) {l : List Nat} (some : l ≠ [])
    (one : ∀ k ∈ l, k = sec) : tget (l.foldl (fun t k => tmod t k L1Sector.staled) t) sec = .some x.staled := by
  cases l with
  | nil => exact absurd rfl some
  | cons k l =>
    rw [List.foldl_cons, one k (by simp)]
    refine List.foldlRecOn (motive := fun d => tget d sec = .some x.staled) _ _ ?_ ?_
    · rw [tget_tmod_same, held]
      rfl
    · intro d stale k later
      rw [one k (by simp [later]), tget_tmod_same, stale]
      rfl

/-- A held sector alone lies in a range of one sector. -/
theorem heldSectors_one {c : Core} {sec : Nat} {x : L1Sector} (held : tget c.l1 sec = some x) :
    heldSectors c sec sec ≠ [] ∧ ∀ k ∈ heldSectors c sec sec, k = sec := by
  constructor
  · refine List.ne_nil_of_mem (a := sec) (List.mem_filter.mpr ⟨List.mem_map_of_mem (mem_of_tget held), by simp⟩)
  · intro k named
    have := (List.mem_filter.mp named).2
    simp only [Bool.and_eq_true, decide_eq_true_eq] at this
    omega

/-- The core after its one sector of the range has been written back, and for CINV made stale. -/
def rangeCore (inv : Bool) (gno sec : Nat) (c : Core) : Core :=
  let d := (heldSectors c sec sec).foldl (l1PushFor gno) c
  if inv then { d with l1 := (heldSectors c sec sec).foldl (fun t k => tmod t k L1Sector.staled) d.l1 } else d

/-- A range of one sector that is dirty: its write joins the core's, for the group, and the sector is clean, or stale with CINV. -/
theorem rangeCore_dirty (inv : Bool) (gno : Nat) {c : Core} {sec : Nat} {x : L1Sector} (held : tget c.l1 sec = some x) (dirty : x.dirty ≠ 0) :
    (rangeCore inv gno sec c).wb = c.wb ++ [⟨sec, x.data, x.dirty, false, none, gno, c.seq, none⟩]
      ∧ tget (rangeCore inv gno sec c).l1 sec = some (if inv then x.staled else { x with dirty := 0 }) := by
  obtain ⟨some, one⟩ := heldSectors_one held
  unfold rangeCore
  rw [foldl_l1PushFor gno c held dirty some one]
  cases inv with
  | false => exact ⟨rfl, tget_tset_same _ _ _⟩
  | true => exact ⟨rfl, tget_foldl_staled (tget_tset_same _ _ _) some one⟩

/-- The numbers of a range of one sector: its last byte, and its page. -/
theorem range_one {base : Nat} (aligned : base % 32 = 0) :
    base / 32 * 32 = base ∧ (base + 32 - 1) / 32 * 32 + 31 = base + 31 ∧ (base + 31) / 4096 - base / 4096 + 1 = 1
      ∧ max base (base / 4096 * 4096) = base ∧ min (base + 31) (base / 4096 * 4096 + 4095) = base + 31 := by
  omega

/-- A range of one sector that its core translates. -/
theorem rangePages_one {s : Dev} {e : Env} (inv : Bool) {base sec : Nat} {tl : Tlb} (aligned : base % 32 = 0)
    (found : tlbFind (coreOf s e.core) 1 e.d.inst base 4 = some tl) (here : tl.at base = 32 * sec) (there : tl.at (base + 31) = 32 * sec + 31) :
    rangePages s e inv base (base + 31) 1 (base / 4096) = (modCore s e.core (rangeCore inv e.gno sec), true) := by
  obtain ⟨-, -, -, low, high⟩ := range_one aligned
  have first : 32 * sec / 32 = sec := by omega
  have last : (32 * sec + 31) / 32 = sec := by omega
  simp only [rangePages, low, high, found, here, there, first, last]
  rfl

/-- A range operation that begins on one dirty sector waits for its write. -/
theorem rangeOp_begins {s : Dev} {e : Env} (inv : Bool) {base sec : Nat} {tl : Tlb} {x : L1Sector} (ok : ckCode (rangeCk e.w e.second) = 0)
    (start : base = readU e.g (wSrcA e.w) 2) (size : srcB e.g e.w e.second 0 1 = 32) (aligned : base % 32 = 0) (legal : canonical (base + 31) = true)
    (wide : 2 ≤ mScope e.w) (found : tlbFind (coreOf s e.core) 1 e.d.inst base 4 = some tl) (here : tl.at base = 32 * sec)
    (begins : e.g.phase = 0) (free : sbBlocks (coreOf s e.core) none base 32 false = false) (there : tl.at (base + 31) = 32 * sec + 31)
    (held : tget (coreOf s e.core).l1 sec = some x) (dirty : x.dirty ≠ 0) :
    rangeOp inv e s = putGroup (modCore s e.core (rangeCore inv e.gno sec)) e { e.g with phase := 2, stall := .release } := by
  obtain ⟨first, last, pages, -⟩ := range_one aligned
  have low : canonical base = true := by
    simp only [canonical, decide_eq_true_eq] at legal ⊢
    omega
  have span : base + 31 + 1 - base = 32 := by omega
  have notCore : ¬ mScope e.w ≤ 1 := by omega
  have waits : (rangeCore inv e.gno sec (coreOf s e.core)).wb.any (fun w => w.group == e.gno) = true := by
    rw [(rangeCore_dirty inv e.gno held dirty).1]
    simp
  unfold rangeOp
  rw [orFail_ok ok]
  simp only [← start, size, OfNat.ofNat_ne_zero, if_false, first, last, low, legal, Bool.and_self, Bool.not_true, Bool.false_eq_true, span, free,
    and_false, notCore, pages, begins, Nat.zero_sub, Nat.sub_zero, Nat.add_zero, rangePages_one inv aligned found here there, coreOf_modCore_same, waits,
    Bool.true_or, if_true]

/-- A range operation whose writes have been accepted goes on. -/
theorem rangeOp_ends {s : Dev} {e : Env} (inv : Bool) {base : Nat} (ok : ckCode (rangeCk e.w e.second) = 0)
    (start : base = readU e.g (wSrcA e.w) 2) (size : srcB e.g e.w e.second 0 1 = 32) (aligned : base % 32 = 0) (legal : canonical (base + 31) = true)
    (wide : 2 ≤ mScope e.w) (waited : e.g.phase = 2) (accepted : ownStoresPending (coreOf s e.core) e.gno = false)
    (members : 4 ≤ mScope e.w → pendingLine s false = false) (host : mScope e.w = 5 → pendingLine s true = false) :
    rangeOp inv e s = complete s e e.g := by
  obtain ⟨first, last, pages, -⟩ := range_one aligned
  have low : canonical base = true := by
    simp only [canonical, decide_eq_true_eq] at legal ⊢
    omega
  have notCore : ¬ mScope e.w ≤ 1 := by omega
  have done : 2 - 1 = 1 := rfl
  have own : (coreOf s e.core).wb.any (fun w => w.group == e.gno) = false := accepted
  have noMember : (decide (mScope e.w ≥ 4) && pendingLine s false) = false := by
    by_cases at_ : 4 ≤ mScope e.w
    · simp [members at_]
    · simp [at_]
  have noHost : (decide (mScope e.w = 5) && pendingLine s true) = false := by
    by_cases at_ : mScope e.w = 5
    · simp [host at_]
    · simp [at_]
  unfold rangeOp
  rw [orFail_ok ok]
  simp only [← start, size, OfNat.ofNat_ne_zero, if_false, first, last, low, legal, Bool.and_self, Bool.not_true, Bool.false_eq_true, false_and, notCore,
    pages, waited, done, Nat.sub_self, rangePages, own, noMember, noHost, Bool.or_self]

/-- CFLUSH and CINV run the operation on their range. -/
theorem exec_range {s : State} {i : Issue} {e : Env} {c : Instr} {op : Nat} {inv : Bool}
    (row : (c, op, inv) ∈ [(Instr.cflush i, 0x3C, false), (Instr.cinv i, 0x3D, true)]) (ready : Ready s.dev i op e) (lanes : e.part ≠ 0) :
    exec c s = .next { s with dev := finish (rangeOp inv e s.dev) } := by
  rcases List.mem_cons.mp row with flush | row
  · obtain ⟨rfl, rfl, rfl⟩ : c = .cflush i ∧ op = 0x3C ∧ inv = false := by simpa using flush
    exact perform_ready _ ready rfl (.inl lanes)
  · obtain ⟨rfl, rfl, rfl⟩ : c = .cinv i ∧ op = 0x3D ∧ inv = true := by simpa using row
    exact perform_ready _ ready rfl (.inl lanes)

/-- Settles O19: a range of one sector pushes it once, and its next turn finds the write accepted. -/
theorem fencesAndRanges : Obligations.FencesAndRanges := by
  unfold Obligations.FencesAndRanges
  intro s i e
  refine ⟨fence_leaves, fun inv c op base len sec x tl row ready lanes ok start size aligned short legal wide found here => ⟨?_, ?_⟩⟩
  all_goals rw [short] at size
  · intro begins free there held dirty
    have effect := exec_range row ready lanes
    rw [rangeOp_begins inv ok start size.symm aligned legal wide found here begins free there held dirty] at effect
    obtain ⟨written, left⟩ := rangeCore_dirty inv e.gno held dirty
    refine ⟨_, effect, fun a => ?_, ?_, ?_, ?_⟩
    · rw [withDev_dev, dramByte_finish]
      rfl
    · rw [withDev_dev, groupIn_putGroup]
    · rw [withDev_dev, coreOf_finish, putGroup, coreOf_modCore_same, coreOf_modCore_same]
      exact written
    · rw [withDev_dev, coreOf_finish, putGroup, coreOf_modCore_same, coreOf_modCore_same]
      exact left
  · intro waited accepted members host
    have effect := exec_range row ready lanes
    rw [rangeOp_ends inv ok start size.symm aligned legal wide waited accepted members host, complete_eq_modCore] at effect
    refine ⟨_, effect, onlyGroup_withGroup s e _, ?_, ?_⟩
    · rw [withDev_dev, groupIn_withGroup]
      exact movedOn_advancePc ready.run_eq
    · rw [withDev_dev, groupIn_withGroup]
      rfl

end Sys2Proof.Machine
end

section
/-!
The obligation on precise faults (R72, R84, R91, R278, R481).
-/
namespace Sys2Proof.Machine

/-! ### The rows -/

/-- The rows whose instruction runs with no lane participating: BAR, CONV and JOIN (R91). -/
def runsEmpty (op : Nat) : Bool := [0x3E, 0x4B, 0x4C].contains op

/-- A row's command runs through `issue`; beside that it counts, at most, a rejection of an instruction whose group has ended (R156). -/
def RunsRow (mk : Issue → Instr) (op : Nat) : Prop :=
  ∀ (i : Issue) (s : State), ∃ body,
    exec (mk i) s = .next { s with dev := finish (issue op (runsEmpty op) i s.dev body) } ∨
    groupDone (issue op (runsEmpty op) i s.dev body) i.core i.group = true
      ∧ exec (mk i) s = .next { s with dev := finish (bump (issue op (runsEmpty op) i s.dev body) (Reg.MXE_CNT_REJECTS i.core)) }

theorem runsRow_of_issue {mk : Issue → Instr} {op : Nat} {body : Issue → Env → Dev → Dev}
    (meaning : ∀ i s, exec (mk i) s = perform s (fun d => issue op (runsEmpty op) i d (body i))) : RunsRow mk op :=
  fun i s => ⟨body i, .inl (meaning i s)⟩

theorem runsRow_of_mxRun {mk : Issue → Instr} {op : Nat} (kind : MxKind) (lanes : runsEmpty op = false)
    (meaning : ∀ i s, exec (mk i) s = perform s (fun d => mxRun op kind i d)) : RunsRow mk op := by
  intro i s
  refine ⟨mxIssue kind, ?_⟩
  rw [meaning, perform_eq, mxRun, lanes]
  split
  · next counted =>
    simp only [Bool.and_eq_true] at counted
    obtain ⟨⟨⟨⟨-, ended⟩, -⟩, -⟩, -⟩ := counted
    exact .inr ⟨ended, rfl⟩
  · exact .inl rfl

theorem runsRow_of_row : ∀ row ∈ issueRows, RunsRow row.1 row.2 := by
  have mxi : RunsRow .mxi 0x58 := runsRow_of_mxRun .mxi rfl (fun _ _ => rfl)
  have mxz : RunsRow .mxz 0x5B := runsRow_of_mxRun .mxz rfl (fun _ _ => rfl)
  have mxst : RunsRow .mxst 0x5C := runsRow_of_mxRun .mxst rfl (fun _ _ => rfl)
  simp only [issueRows, List.forall_mem_append, List.forall_mem_cons, List.not_mem_nil, false_implies, implies_true, and_true, true_and, mxi, mxz,
    mxst]
  and_intros
  all_goals exact runsRow_of_issue (fun _ _ => rfl)

/-! ### What a precise fault leaves -/

theorem completeBarrier_eq (c : Core) (set b : Nat) : completeBarrier c set b = { c with groups := (completeBarrier c set b).groups } := by
  unfold completeBarrier
  split <;> rfl

theorem releaseSet_eq (c : Core) (set : Nat) : releaseSet c set = { c with sets := (releaseSet c set).sets } := by
  unfold releaseSet
  split <;> rfl

/-- The barriers that a set completes, one number after the other, change groups alone. -/
theorem foldl_completeBarrier_eq (l : List Nat) (c : Core) (set : Nat) :
    l.foldl (fun c b => if c.groups.any (fun p => p.2.set == set && !p.2.done && p.2.bars.any (fun q => q.1 == b)) then completeBarrier c set b else c) c
      = { c with groups := (l.foldl (fun c b =>
          if c.groups.any (fun p => p.2.set == set && !p.2.done && p.2.bars.any (fun q => q.1 == b)) then completeBarrier c set b else c) c).groups } := by
  refine List.foldlRecOn (motive := fun d : Core => d = { c with groups := d.groups }) _ _ rfl ?_
  intro d same b _
  split
  · rw [completeBarrier_eq, same]
  · exact same

/-- A group's end moves its set on, and changes no more of its core. -/
theorem afterGroupEnd_eq (c : Core) (set : Nat) :
    afterGroupEnd c set = { c with groups := (afterGroupEnd c set).groups, sets := (afterGroupEnd c set).sets } := by
  unfold afterGroupEnd
  rw [releaseSet_eq, foldl_completeBarrier_eq]

/-- What a group's end keeps of its core: the local store, the L1, its writes, the accumulators and the scoreboard. -/
theorem endGroup_keeps (c : Core) (n : Nat) (g : Group) :
    (endGroup c n g).ls = c.ls ∧ (endGroup c n g).l1 = c.l1 ∧ (endGroup c n g).wb = c.wb ∧ (endGroup c n g).acc = c.acc
      ∧ (endGroup c n g).sb = c.sb := by
  unfold endGroup
  rw [afterGroupEnd_eq]
  exact ⟨rfl, rfl, rfl, rfl, rfl⟩

theorem coreOf_preciseFault_other (s : Dev) (e : Env) (code : Nat) {j : Nat} (other : j ≠ e.core) : coreOf (preciseFault s e code) j = coreOf s j := by
  unfold preciseFault
  rw [coreOf_modCore_other _ _ _ _ other, coreOf_congr (s := s)]
  rw [traceCore_cores]
  split <;> rfl

/-- The outcomes of an issue that end the group are one precise fault, counted where an SRAM was found uncorrectable (R84, R278, R481). -/
theorem issue_faults {s : Dev} {i : Issue} {e : Env} {op code : Nat} (body : Env → Dev → Dev) (env : envOf s i = some e)
    (own : i.fetch = 0 → wOp i.w = op) (assigned : opAssigned op = true)
    (fails : i.fetch ≠ 0 ∧ code = i.fetch ∨ i.fetch = 0 ∧ pendingEnd e.g = some code
      ∨ i.fetch = 0 ∧ pendingEnd e.g = none ∧ e.part ≠ 0 ∧ i.sram = .uncorrectable ∧ code = eUncorr) (always : Bool) :
    (issue op always i s body).dram = s.dram ∧ (issue op always i s body).cores = (preciseFault s e code).cores := by
  unfold issue
  rcases fails with ⟨failed, rfl⟩ | ⟨fetched, ended⟩ | ⟨fetched, sound, lanes, lost, rfl⟩
  · simp only [env, failed, ne_eq, not_false_eq_true, if_true]
    exact ⟨preciseFault_dram _ _ _, trivial⟩
  · simp only [env, fetched, own fetched, assigned, ended, ne_eq, not_true_eq_false, Bool.not_true, Bool.false_eq_true, if_false]
    exact ⟨preciseFault_dram _ _ _, trivial⟩
  · simp only [env, fetched, own fetched, assigned, sound, lanes, lost, ne_eq, not_true_eq_false, Bool.not_true, Bool.false_eq_true, false_and, if_false,
      if_true]
    exact ⟨preciseFault_dram _ _ _, rfl⟩

/-- A row's command that a fault ends. -/
theorem exec_faults {s : State} {i : Issue} {e : Env} {mk : Issue → Instr} {op code : Nat} (row : (mk, op) ∈ issueRows) (env : envOf s.dev i = some e)
    (own : i.fetch = 0 → wOp i.w = op)
    (fails : i.fetch ≠ 0 ∧ code = i.fetch ∨ i.fetch = 0 ∧ pendingEnd e.g = some code
      ∨ i.fetch = 0 ∧ pendingEnd e.g = none ∧ e.part ≠ 0 ∧ i.sram = .uncorrectable ∧ code = eUncorr) :
    ∃ u, exec (mk i) s = .next { s with dev := finish u } ∧ u.dram = s.dev.dram ∧ u.cores = (preciseFault s.dev e code).cores := by
  obtain ⟨body, runs | ⟨-, counts⟩⟩ := runsRow_of_row _ row i s
  all_goals obtain ⟨dram, cores⟩ := issue_faults body env own (opAssigned_of_row row) fails (runsEmpty op)
  · exact ⟨_, runs, dram, cores⟩
  · exact ⟨_, counts, dram, cores⟩

/-! ### Empty masks -/

/-- An instruction that no lane takes part in moves on. -/
theorem exec_empty {s : State} {i : Issue} {e : Env} {mk : Issue → Instr} {op : Nat} (row : (mk, op) ∈ issueRows) (env : envOf s.dev i = some e)
    (own : i.fetch = 0 → wOp i.w = op) (guarded : runsEmpty op = false) (fetched : i.fetch = 0) (sound : pendingEnd e.g = none) (none : e.part = 0) :
    exec (mk i) s = .next { s with dev := finish (complete s.dev e e.g) } := by
  have issued : ∀ body, issue op (runsEmpty op) i s.dev body = complete s.dev e e.g := by
    intro body
    unfold issue
    simp only [env, fetched, own fetched, opAssigned_of_row row, sound, none, guarded, ne_eq, not_true_eq_false, Bool.not_true, Bool.not_false,
      Bool.false_eq_true, if_false, and_self, if_true]
  obtain ⟨body, runs | ⟨ended, -⟩⟩ := runsRow_of_row _ row i s
  · rw [runs, issued]
  · obtain ⟨core, gno, -, -, -, -, -, live⟩ := envOf_fields env
    rw [issued, complete_eq_modCore, groupDone, ← core, ← gno, coreOf_modCore_same] at ended
    simp [withGroup, advancePc, freshInstr, live] at ended

/-- Settles O34: every row that issues an instruction shares the precise fault, and the step past an empty mask. -/
theorem preciseFaults : Obligations.PreciseFaults := by
  unfold Obligations.PreciseFaults
  intro s i e mk op row env own
  obtain ⟨core, -, -, -, here, -, run, -⟩ := envOf_fields env
  refine ⟨fun code fails => ?_, fun guarded fetched sound none => ?_⟩
  · obtain ⟨u, runs, dram, cores⟩ := exec_faults row env own fails
    have group : groupIn (finish u) e = _ := (congrArg (fun c : Core => tgetD c.groups e.gno e.g)
      ((coreOf_finish u e.core).trans ((coreOf_congr cores e.core).trans (coreOf_finish _ e.core).symm))).trans (groupIn_preciseFault env code)
    refine ⟨_, runs, rfl, sameMem_finish dram, fun j other => ?_, ?_⟩
    · rw [withDev_dev, coreOf_finish, coreOf_congr cores, coreOf_preciseFault_other _ _ _ other]
    · rw [withDev_dev, group, coreOf_finish, coreOf_congr cores, coreOf_preciseFault, core, ← here]
      obtain ⟨ls, l1, wb, acc, sb⟩ := endGroup_keeps { e.c with seq := e.c.seq + 1 } e.gno (charge e.g code e.path.pc e.c.seq)
      exact ⟨rfl, rfl, rfl, rfl, rfl, rfl, rfl, rfl, ls, l1, wb, acc, sb⟩
  · have stays : runsEmpty op = false := by
      simp only [List.mem_cons, not_or] at guarded
      simp [runsEmpty, guarded]
    refine ⟨_, exec_empty row env own stays fetched sound none, complete_onlyGroup s e e.g, ?_⟩
    rw [withDev_dev, groupIn_complete]
    exact ⟨movedOn_advancePc run, ⟨rfl, rfl, rfl, rfl, rfl, rfl, rfl⟩, rfl, rfl, rfl, rfl⟩

end Sys2Proof.Machine
end

section
/-!
SUPPORT. Accepting matrix operations (R126, R127, R144, R156).
-/
namespace Sys2Proof.Machine

/-! ### The scoreboard and the engine's registers -/

theorem length_spanOf (isLs write : Bool) (h : Option (Nat × Nat)) : (spanOf isLs write h).length ≤ 1 := by
  unfold spanOf
  split <;> simp

/-- An operation without page lists has at most four spans. -/
theorem length_mxSpans (o : MxOp) : (mxSpans o).length ≤ 4 := by
  have a := length_spanOf (o.a.kind == 0) false (operandHull o o.a false)
  have b := length_spanOf (o.b.kind == 0) false (operandHull o o.b true)
  have out := length_spanOf (o.outKind == 0) true (outHull o)
  unfold mxSpans
  simp only [List.length_append]
  split <;> split <;> split <;> simp only [List.length_nil, List.length_cons] <;> omega

/-- A free scoreboard takes the entries of an operation at once (R80). -/
theorem claim_free {c : Core} {l : List SbEntry} (empty : c.sb = []) (none : c.sbWait = []) (few : l.length ≤ 16) (gno : Nat) :
    claim c gno l = ({ c with sb := l }, true) := by
  unfold claim
  simp [empty, none, few]

/-- Nothing is blocked by a scoreboard without entries. -/
theorem sbBlocks_empty {c : Core} (empty : c.sb = []) (set : Option Nat) (base len : Nat) (write : Bool) : sbBlocks c set base len write = false := by
  simp [sbBlocks, empty]

/-- Write-backs before an operation change the L1 and the core's writes alone (R82). -/
theorem flushFor_eq (c : Core) (l : List SbEntry) : flushFor c l = { c with l1 := (flushFor c l).l1, wb := (flushFor c l).wb } := by
  unfold flushFor
  split
  · rw [l1PushAll_eq]
  · split
    · exact l1PushAll_eq c
    · rfl

@[simp] theorem syncMx_cores (s : Dev) (core : Nat) : (syncMx s core).cores = s.cores := rfl

@[simp] theorem syncMx_dram (s : Dev) (core : Nat) : (syncMx s core).dram = s.dram := rfl

@[simp] theorem syncMx_shore (s : Dev) (core : Nat) : (syncMx s core).shore = s.shore := rfl

@[simp] theorem traceCore_shore (s : Dev) (event bit core addr group code id : Nat) :
    (traceCore s event bit core addr group code id).shore = s.shore := by
  rw [traceCore_sameButTraces s event bit core addr group code id]

/-- The status register shows how many operations the engine holds. -/
theorem fget_syncMx_queued (s : Dev) (core : Nat) :
    fget (syncMx s core) (RF.MXE_CORE_STATUS_QUEUED core) = (coreOf s core).mxq.length % 2 ^ (RF.MXE_CORE_STATUS_QUEUED core).width := by
  have inside : (RF.MXE_CORE_STATUS_QUEUED core).lo + (RF.MXE_CORE_STATUS_QUEUED core).width ≤ 64 := by
    show 0 + 5 ≤ 64
    omega
  have keeps : ∀ (d : Dev) (f : Fld) (v : Nat), f.off = (RF.MXE_CORE_STATUS_QUEUED core).off → 5 ≤ f.lo →
      fget (fset d f v) (RF.MXE_CORE_STATUS_QUEUED core) = fget d (RF.MXE_CORE_STATUS_QUEUED core) := by
    intro d f v same above
    refine fget_fset_bits d f (RF.MXE_CORE_STATUS_QUEUED core) v same.symm inside (.inl ?_)
    show 0 + 5 ≤ f.lo
    omega
  unfold syncMx
  dsimp only
  rw [keeps _ (RF.MXE_CORE_STATUS_XLATE_STALL core) _ rfl (by show 5 ≤ 32; omega),
    keeps _ (RF.MXE_CORE_STATUS_TOKENS_BUSY core) _ rfl (by show 5 ≤ 16; omega),
    keeps _ (RF.MXE_CORE_STATUS_ACC_POISON core) _ rfl (by show 5 ≤ 8; omega), fget_fset_same _ _ _ inside]

/-! ### Acceptance -/

/-- The core once a matrix operation has been accepted: the token is busy for the group, the operation stands in the engine's queue, and the group goes
on. -/
def acceptedCore (s : Dev) (e : Env) (o : MxOp) (c : Core) : Core :=
  let d := flushFor { c with sb := sbEntries e (wDst e.w) (mxSpans o) } (sbEntries e (wDst e.w) (mxSpans o))
  withGroup e.gno (advancePc e.g (wLen e.w))
    { d with mxq := d.mxq ++ [mxTaken s e o], mxHold := none, rbuf := d.rbuf.filter (fun r => r.tag != groupTag e.gno),
             tokens := tset d.tokens (wDst e.w) ⟨true, e.gno, e.g.set, e.path.pc, e.c.seq, 0⟩ }

/-- What an accepted matrix operation leaves of a module: its core, the traces, and the engine's status register. -/
structure MxAccepted (s : Dev) (e : Env) (o : MxOp) (d : Dev) : Prop where
  core : coreOf d e.core = acceptedCore s e o (coreOf s e.core)
  dram : d.dram = s.dram
  shore : d.shore = s.shore
  queued : fget d (RF.MXE_CORE_STATUS_QUEUED e.core) = (coreOf d e.core).mxq.length % 2 ^ (RF.MXE_CORE_STATUS_QUEUED e.core).width

/-- Step 5 of R126, with the entries claimed. -/
theorem mxAccept_accepts (s : Dev) (e : Env) (o : MxOp) :
    MxAccepted s e o (mxAccept (setCore s e.core { coreOf s e.core with sb := sbEntries e (wDst e.w) (mxSpans o) }) e o
      (sbEntries e (wDst e.w) (mxSpans o))) := by
  unfold mxAccept
  refine ⟨?_, ?_, ?_, ?_⟩
  · rw [coreOf_congr (syncMx_cores _ _), complete_eq_modCore, coreOf_modCore_same, coreOf_congr (traceCore_cores _ _ _ _ _ _ _ _),
      coreOf_modCore_same, coreOf_setCore_same]
    rfl
  · rw [syncMx_dram, complete_eq_modCore, modCore_dram, traceCore_dram]
    rfl
  · rw [syncMx_shore, complete_eq_modCore, modCore_shore, traceCore_shore]
    rfl
  · exact fget_syncMx_queued _ _

/-- Steps 6 and 7 of R150, and step 5 of R126. -/
theorem mxClaim_accepts {s : Dev} {e : Env} {o : MxOp} (empty : (coreOf s e.core).sb = []) (none : (coreOf s e.core).sbWait = []) (a : o.a.kind ≠ 2)
    (b : o.b.kind ≠ 2) (apart : spansClash (mxSpans o) = false) (look : Nat → Option (BitVec 256 × Nat)) : MxAccepted s e o (mxClaim s e o look) := by
  have unpaged : ∀ x, x.kind ≠ 2 → pagedSpan x = [] := fun x kind => if_neg kind
  have few : (sbEntries e (wDst e.w) (mxSpans o)).length ≤ 16 := by
    have := length_mxSpans o
    simp only [sbEntries, List.length_map]
    omega
  unfold mxClaim
  simp only [listPages, a, b, ne_eq, not_false_eq_true, if_true, unpaged _ a, unpaged _ b, List.append_nil, apart, Bool.false_eq_true, if_false,
    claim_free empty none few]
  exact mxAccept_accepts s e o

/-! ### The rows -/

/-- A matrix instruction that passes the checks of R126 is accepted. -/
theorem mxIssue_accepts {s : Dev} {e : Env} {k : MxKind} {o : MxOp} (own : e.c = coreOf s e.core) (ok : ckCode (descCk e.w e.second) = 0)
    (all : e.part = 0xFFFFFFFF) (unheld : e.c.mxHold = none) (idle : tget e.c.tokens (wDst e.w) = none) (empty : e.c.sb = []) (none : e.c.sbWait = [])
    (described : mxDescribe k (fun a n => lsRead e.c (slotBase e.c e.d.shape e.g.set + a) n) e.d.shape.lsPerSet (descOffset e) = .inr o)
    (a : o.a.kind ≠ 2) (b : o.b.kind ≠ 2) (apart : spansClash (mxSpans o) = false) : MxAccepted s e o (mxIssue k e s) := by
  have unlisted : listSectors o o.a false ++ listSectors o o.b true = [] := by simp [listSectors, a, b]
  have accepts := mxClaim_accepts (own ▸ empty) (own ▸ none) a b apart (fun _ => .none)
  unfold mxIssue mxPages
  simp only [ok, all, unheld, idle, tgetD, sbBlocks_empty empty, described, unlisted, ne_eq, not_true_eq_false, if_false, Option.isSome_none,
    Option.getD_none, Bool.false_and, Bool.and_false, Bool.or_self, Bool.false_eq_true, List.isEmpty_nil, if_true, ite_self]
  exact accepts

/-- The group of an accepted operation goes on. -/
theorem MxAccepted.group {s : Dev} {e : Env} {o : MxOp} {d : Dev} (accepted : MxAccepted s e o d) :
    tget (coreOf d e.core).groups e.gno = some (advancePc e.g (wLen e.w)) := by
  rw [accepted.core]
  exact tget_tset_same _ _ _

/-- An issue of which no rejection is counted (R156). -/
theorem mxRun_accepts {s : Dev} {i : Issue} {e : Env} {op : Nat} {k : MxKind} {o : MxOp} (ready : Ready s i op e) (assigned : opAssigned op = true)
    (all : e.part = 0xFFFFFFFF) (accepts : MxAccepted s e o (mxIssue k e s)) : mxRun op k i s = mxIssue k e s := by
  have some : e.part ≠ 0 := by
    rw [all]
    decide
  have issued : issue op false i s (mxIssue k) = mxIssue k e s := by
    rw [issue_ready false (mxIssue k) ready assigned, if_neg (fun none => some none.1)]
  obtain ⟨core, gno, -, -, -, -, -, live⟩ := envOf_fields ready.1
  have goes : groupDone (mxIssue k e s) i.core i.group = false := by
    rw [← core, ← gno, groupDone, accepts.group]
    exact live
  unfold mxRun
  simp only [issued, goes, Bool.and_false, Bool.false_and, Bool.false_eq_true, if_false]

/-- MXI, MXZ and MXST run the issue of their kind. -/
theorem exec_mx {s : State} {i : Issue} {e : Env} {c : Instr} {op : Nat} {k : MxKind} {o : MxOp}
    (row : (c, op, k) ∈ [(Instr.mxi i, 0x58, MxKind.mxi), (Instr.mxz i, 0x5B, MxKind.mxz), (Instr.mxst i, 0x5C, MxKind.mxst)])
    (ready : Ready s.dev i op e) (all : e.part = 0xFFFFFFFF) (accepts : MxAccepted s.dev e o (mxIssue k e s.dev)) :
    exec c s = .next { s with dev := finish (mxIssue k e s.dev) } := by
  have runs : ∀ op' k', op = op' → k = k' → opAssigned op' = true →
      perform s (fun d => mxRun op' k' i d) = .next { s with dev := finish (mxIssue k e s.dev) } := by
    rintro _ _ rfl rfl assigned
    rw [perform_eq, mxRun_accepts ready assigned all accepts]
  simp only [List.mem_cons, Prod.mk.injEq, List.not_mem_nil, or_false] at row
  rcases row with ⟨rfl, op', k'⟩ | ⟨rfl, op', k'⟩ | ⟨rfl, op', k'⟩
  · exact runs _ _ op' k' rfl
  · exact runs _ _ op' k' rfl
  · exact runs _ _ op' k' rfl

/-- What an accepted matrix operation leaves. -/
theorem MxAccepted.leaves {s : Dev} {i : Issue} {e : Env} {op : Nat} {o : MxOp} {d : Dev} (ready : Ready s i op e) (accepted : MxAccepted s e o d) :
    SameBytes s (finish d) ∧ movedOn e (groupIn (finish d) e) ∧ (groupIn (finish d) e).gr = e.g.gr
      ∧ tget (coreOf (finish d) e.core).tokens (wDst e.w) = some ⟨true, e.gno, e.g.set, e.path.pc, e.c.seq, 0⟩
      ∧ (coreOf (finish d) e.core).mxq = e.c.mxq ++ [mxTaken s e o]
      ∧ (coreOf (finish d) e.core).sb = sbEntries e (wDst e.w) (mxSpans o) := by
  obtain ⟨own, -⟩ := ready.own
  have group : groupIn (finish d) e = advancePc e.g (wLen e.w) := by
    rw [groupIn, coreOf_finish, tgetD, accepted.group]
    rfl
  rw [group, coreOf_finish, accepted.core]
  refine ⟨fun a => ?_, movedOn_advancePc ready.run_eq, rfl, ?_, ?_, ?_⟩
  · rw [dramByte_finish, accepted.dram]
  · unfold acceptedCore
    exact tget_tset_same _ _ _
  · unfold acceptedCore
    rw [flushFor_eq, own]
    rfl
  · unfold acceptedCore
    rw [flushFor_eq]
    rfl

end Sys2Proof.Machine
end

section
/-!
The obligation on accepting matrix operations (R126, R127, R144): its count of the engine's operations names a register of core 1024 that is SHC_STATUS.
-/
namespace Sys2Proof.Machine

/-- For the cores that the register map has room for, all that the obligation says holds: their status registers are not SHC_STATUS. -/
theorem matrixIssue_of_ownStatus {s : State} {i : Issue} {e : Env} {c : Instr} {op : Nat} {k : MxKind} {o : MxOp}
    (row : (c, op, k) ∈ [(Instr.mxi i, 0x58, MxKind.mxi), (Instr.mxz i, 0x5B, MxKind.mxz), (Instr.mxst i, 0x5C, MxKind.mxst)])
    (ready : Ready s.dev i op e) (all : e.part = 0xFFFFFFFF) (accepts : MxAccepted s.dev e o (mxIssue k e s.dev))
    (own : Reg.MXE_CORE_STATUS e.core ≠ Reg.SHC_STATUS) :
    ∃ t, exec c s = .next t ∧ t.pending = s.pending ∧ SameBytes s.dev t.dev ∧ movedOn e (groupIn t.dev e) ∧ (groupIn t.dev e).gr = e.g.gr
      ∧ tget (coreOf t.dev e.core).tokens (wDst e.w) = some ⟨true, e.gno, e.g.set, e.path.pc, e.c.seq, 0⟩
      ∧ (coreOf t.dev e.core).mxq = e.c.mxq ++ [mxTaken s.dev e o]
      ∧ (coreOf t.dev e.core).sb = sbEntries e (wDst e.w) (mxSpans o)
      ∧ fget t.dev (RF.MXE_CORE_STATUS_QUEUED e.core) = (e.c.mxq.length + 1) % 2 ^ (RF.MXE_CORE_STATUS_QUEUED e.core).width := by
  obtain ⟨bytes, moved, regs, token, queue, board⟩ := accepts.leaves ready
  refine ⟨_, exec_mx row ready all accepts, rfl, bytes, moved, regs, token, queue, board, ?_⟩
  rw [withDev_dev, fget_finish _ _ own, accepts.queued, ← coreOf_finish, queue, List.length_append]
  rfl

/-! ### The counterexample -/

/-- A group of which every thread runs, at the word of `farIssue`. -/
def farGroup : Group := Group.start 0 0 64 []

/-- A core with the group, and a descriptor of BF16 operands in its slot. -/
def farCore : Core := { Core.reset with disp := some 0, groups := [(0, farGroup)], sets := [(0, ⟨0, true⟩)], ls := [(47, 2), (87, 2)] }

/-- A launch of one group with 4 KiB of local store. -/
def farDispatch : Dispatch :=
  { inst := 0, plain := true, bind := 0, cls := 0, shape := { groups := 1, setGroups := 1, regs := 64, lsSplit := 1, lsPerSet := 4096 }, prog := 0,
    args := 0, islands := 1, seed := 0, got := [], cores := [1024], canon := [], slots := [], phase := .running, order := 0, source := none,
    uregs := [], flags := 0, poisonTiles := 0, code := 0, seq := 0, start := none }

/-- The module after reset, with the launch on core 1024. -/
def farState : State := ⟨[], { State.reset.dev with cores := [(1024, farCore)], disp := [(0, farDispatch)] }⟩

/-- MXZ of token 0, its descriptor at the offset in U register 0. -/
def farIssue : Issue := ⟨1024, 0, BitVec.ofNat 64 (0x5B * 2 ^ 57 + 7 * 2 ^ 29 + 2 ^ 25), 0, 0, .ok⟩

/-- What the instruction sees. -/
def farEnv : Env :=
  { core := 1024, gno := 0, w := farIssue.w, second := 0, part := 0xFFFFFFFF, path := ⟨64, 0xFFFFFFFF⟩, g := farGroup, c := farCore, d := farDispatch }

/-- The operation that the descriptor describes. -/
def farOp : MxOp := readOp (lsRead farCore 0 160) (mxRows .mxz (lsRead farCore 0 160) [])

theorem farReady : Ready farState.dev farIssue 0x5B farEnv := ⟨by decide +kernel, rfl, rfl, by decide +kernel, by decide +kernel⟩

theorem farDescribed : mxDescribe .mxz (fun a n => lsRead farEnv.c (slotBase farEnv.c farEnv.d.shape farEnv.g.set + a) n) farEnv.d.shape.lsPerSet
    (descOffset farEnv) = .inr farOp := by
  decide +kernel

theorem farAccepted : MxAccepted farState.dev farEnv farOp (mxIssue .mxz farEnv farState.dev) :=
  mxIssue_accepts (by decide +kernel) (by decide +kernel) rfl rfl (by decide +kernel) rfl rfl farDescribed (by decide +kernel) (by decide +kernel)
    (by decide +kernel)

/-- At core 1024 the count of the engine's operations is the five lowest bits of SHC_STATUS, which count directory entries. -/
theorem fget_farStatus (d : Dev) : fget (finish d) (RF.MXE_CORE_STATUS_QUEUED 1024) = dirCount d 0 % 32 := by
  obtain ⟨-, count, -⟩ := settled_finish d
  have low : regRead (finish d) Reg.SHC_STATUS % 2 ^ 20 = dirCount d 0 % 2 ^ 20 := by
    simpa [fget, bitsOf, RF.SHC_STATUS_DIR_USED_HW, dirCount] using count
  show bitsOf (regRead (finish d) Reg.SHC_STATUS) 0 5 = dirCount d 0 % 32
  simp only [bitsOf, pow_zero, Nat.div_one]
  omega

/-- Refutes O20: at core 1024 the engine's status register is SHC_STATUS, which shows the count of directory entries when the command has ended, and not
the one operation in the engine's queue. -/
theorem not_matrixIssue : ¬ Obligations.MatrixIssue := by
  unfold Obligations.MatrixIssue
  intro h
  have row : (Instr.mxz farIssue, 0x5B, MxKind.mxz)
      ∈ [(Instr.mxi farIssue, 0x58, MxKind.mxi), (Instr.mxz farIssue, 0x5B, MxKind.mxz), (Instr.mxst farIssue, 0x5C, MxKind.mxst)] := by simp
  obtain ⟨t, runs, -, -, -, -, -, -, -, queued⟩ := h farState farIssue farEnv (.mxz farIssue) 0x5B .mxz farOp row farReady (by decide +kernel) rfl rfl
    (by decide +kernel) rfl rfl farDescribed (by decide +kernel) (by decide +kernel) (by decide +kernel)
  rw [exec_mx row farReady rfl farAccepted] at runs
  obtain rfl := Host.Outcome.next.inj runs
  have shown : fget (finish (mxIssue .mxz farEnv farState.dev)) (RF.MXE_CORE_STATUS_QUEUED 1024) = 1 := queued
  rw [fget_farStatus, dirCount, farAccepted.shore] at shown
  cases shown

end Sys2Proof.Machine
end

section
/-!
The obligation on the engines of a core (R129, R144, R156, R220): here too core 1024 shares its status register with the count of directory entries.
-/
namespace Sys2Proof.Machine

/-- A matrix operation's completion leaves the slices and the directory alone (R129). -/
theorem mxComplete_shore (s : Dev) (core token : Nat) : (mxComplete s core token).shore = s.shore := by
  unfold mxComplete
  dsimp only
  split
  · split
    · rfl
    · exact traceCore_shore _ _ _ _ _ _ _ _
  · rfl

/-- The core of `farCore`, whose engine holds one operation with every row done. -/
def farBusyCore : Core := { farCore with mxq := [{ farOp with next := 1 }], tokens := [(0, ⟨true, 0, 0, 64, 0, 0⟩)] }

/-- The module with that core, and a directory entry of line 0, shared. -/
def farBusyState : State :=
  ⟨[], { State.reset.dev with
    cores := [(1024, farBusyCore)], disp := [(0, farDispatch)],
    shore := { State.reset.dev.shore with dir := [(0, ⟨.shared, 0, false, 0, false, 1, 0, 0⟩)] } }⟩

/-- Refutes O22: at core 1024 the engine's status register is SHC_STATUS, which shows the one directory entry where the engine's queue is empty. -/
theorem not_enginesOfACore : ¬ Obligations.EnginesOfACore := by
  unfold Obligations.EnginesOfACore
  intro h
  obtain ⟨-, token, -⟩ := h farBusyState 1024 0 farDispatch farBusyCore rfl rfl rfl
  obtain ⟨t, runs, -, -, -, -, -, queued⟩ := token { farOp with next := 1 } ⟨true, 0, 0, 64, 0, 0⟩ farGroup rfl (by decide +kernel) (by decide +kernel)
    (by decide +kernel) (by decide +kernel) (fun w named => absurd named List.not_mem_nil)
  have ended : perform farBusyState (fun s => syncMx (mxComplete s 1024 0) 1024) = .next t := runs
  rw [perform_eq] at ended
  obtain rfl := Host.Outcome.next.inj ended
  rw [withDev_dev, fget_farStatus, dirCount, syncMx_shore, mxComplete_shore] at queued
  cases queued

end Sys2Proof.Machine
end

section
/-!
The obligation on starting ferries and on waits and tests (R114 to R118, R130).
-/
namespace Sys2Proof.Machine

/-! ### Ferries -/

/-- A transfer that a descriptor describes stands at its first byte (R117). -/
theorem ferryDescribe_fresh {rd : Nat → Nat → Nat} {len off : Nat} {f : Ferry} (described : ferryDescribe rd len off = .inr f) :
    f.row = 0 ∧ f.off = 0 ∧ f.code = 0 := by
  unfold ferryDescribe at described
  dsimp only at described
  repeat' split at described
  all_goals cases described
  exact ⟨rfl, rfl, rfl⟩

/-- The core once a ferry has been accepted (R117). -/
def ferriedCore (e : Env) (f : Ferry) (c : Core) : Core :=
  let d := flushFor { c with sb := sbEntries e (16 + wDst e.w) (ferrySpans f) } (sbEntries e (16 + wDst e.w) (ferrySpans f))
  withGroup e.gno (advancePc e.g (wLen e.w))
    { d with ferries := tset d.ferries (wDst e.w) { f with group := e.gno, set := e.g.set, seq := e.c.seq },
             handles := tset d.handles (wDst e.w) ⟨true, e.gno, e.g.set, e.path.pc, e.c.seq, 0⟩ }

@[simp] theorem traceCore_regs (s : Dev) (event bit core addr group code id : Nat) :
    (traceCore s event bit core addr group code id).regs = s.regs := by
  rw [traceCore_sameButTraces s event bit core addr group code id]

/-- A ferry instruction that passes its checks is accepted: beside its core and the traces nothing changes. -/
theorem ferryIssue_accepts {s : Dev} {e : Env} {f : Ferry} (own : e.c = coreOf s e.core) (ok : ckCode (descCk e.w e.second) = 0)
    (idle : tget e.c.handles (wDst e.w) = none) (empty : e.c.sb = []) (none : e.c.sbWait = [])
    (described : ferryDescribe (fun a n => lsRead e.c (slotBase e.c e.d.shape e.g.set + a) n) e.d.shape.lsPerSet (descOffset e) = .inr f) :
    (ferryIssue e s).dram = s.dram ∧ (ferryIssue e s).regs = s.regs ∧ coreOf (ferryIssue e s) e.core = ferriedCore e f (coreOf s e.core)
      ∧ ∀ j, j ≠ e.core → coreOf (ferryIssue e s) j = coreOf s j := by
  have few : (sbEntries e (16 + wDst e.w) (ferrySpans f)).length ≤ 16 := by simp [sbEntries, ferrySpans]
  have accepted : ferryIssue e s = ferryAccept (setCore s e.core { coreOf s e.core with sb := sbEntries e (16 + wDst e.w) (ferrySpans f) }) e f
      (sbEntries e (16 + wDst e.w) (ferrySpans f)) := by
    unfold ferryIssue
    rw [orFail_ok ok]
    simp only [idle, tgetD, Option.getD_none, Bool.false_eq_true, if_false, sbBlocks_empty empty, described,
      claim_free (own ▸ empty) (own ▸ none) few, if_true]
  rw [accepted, ferryAccept, complete_eq_modCore]
  refine ⟨?_, ?_, ?_, fun j other => ?_⟩
  · rw [modCore_dram, traceCore_dram]
    rfl
  · rw [modCore_regs, traceCore_regs]
    rfl
  · rw [coreOf_modCore_same, coreOf_congr (traceCore_cores _ _ _ _ _ _ _ _), coreOf_modCore_same, coreOf_setCore_same]
    rfl
  · rw [coreOf_modCore_other _ _ _ _ other, coreOf_congr (traceCore_cores _ _ _ _ _ _ _ _), coreOf_modCore_other _ _ _ _ other,
      coreOf_setCore_other _ _ _ _ other]

/-- What FYI leaves. -/
theorem fyi_leaves {s : State} {i : Issue} {e : Env} {f : Ferry} (lanes : e.part ≠ 0) (ready : Ready s.dev i 0x60 e)
    (ok : ckCode (descCk e.w e.second) = 0) (idle : tget e.c.handles (wDst e.w) = none) (empty : e.c.sb = []) (none : e.c.sbWait = [])
    (described : ferryDescribe (fun a n => lsRead e.c (slotBase e.c e.d.shape e.g.set + a) n) e.d.shape.lsPerSet (descOffset e) = .inr f) :
    ∃ t, exec (.fyi i) s = .next t ∧ t.pending = s.pending ∧ SameBytes s.dev t.dev ∧ SameRegsBut [] s.dev t.dev ∧ SameCoresBut e.core s.dev t.dev
      ∧ movedOn e (groupIn t.dev e) ∧ (groupIn t.dev e).gr = e.g.gr
      ∧ tget (coreOf t.dev e.core).handles (wDst e.w) = some ⟨true, e.gno, e.g.set, e.path.pc, e.c.seq, 0⟩
      ∧ tget (coreOf t.dev e.core).ferries (wDst e.w) = some { f with group := e.gno, set := e.g.set, seq := e.c.seq }
      ∧ f.row = 0 ∧ f.off = 0 ∧ f.code = 0 ∧ (coreOf t.dev e.core).sb = sbEntries e (16 + wDst e.w) (ferrySpans f) := by
  obtain ⟨dram, regs, core, cores⟩ := ferryIssue_accepts ready.own.1 ok idle empty none described
  obtain ⟨row, off, code⟩ := ferryDescribe_fresh described
  refine ⟨_, perform_ready ferryIssue ready rfl (.inl lanes), rfl, fun a => ?_, fun o _ shc => ?_, fun j other => ?_, ?_⟩
  · rw [withDev_dev, dramByte_finish, dram]
  · rw [withDev_dev, regRead_finish _ _ shc, regRead_congr regs]
  · rw [withDev_dev, coreOf_finish, cores j other]
  · have group : groupIn (finish (ferryIssue e s.dev)) e = advancePc e.g (wLen e.w) := by
      rw [groupIn, coreOf_finish, core]
      exact tgetD_tset_same _ _ _ _
    rw [withDev_dev, group, coreOf_finish, core]
    refine ⟨movedOn_advancePc ready.run_eq, rfl, ?_, ?_, row, off, code, ?_⟩
    · exact tget_tset_same _ _ _
    · exact tget_tset_same _ _ _
    · unfold ferriedCore
      rw [flushFor_eq]
      rfl

/-! ### Waits and tests -/

/-- No slot that a mask names has an error for a group. -/
theorem firstError_none {slots : Tbl AsyncSlot} {mask gno : Nat} (sound : ∀ p ∈ slots, bitOf mask p.1 = true → p.2.group = gno → p.2.code = 0) :
    firstError slots mask gno = none := by
  have none : slots.filter (fun p => bitOf mask p.1 && p.2.group == gno && p.2.code != 0) = [] := by
    rw [List.filter_eq_nil_iff]
    intro p named
    simp only [Bool.and_eq_true, beq_iff_eq, bne_iff_ne, not_and, not_not, and_imp]
    exact sound p named
  rw [firstError, none]

/-- A wait for what has completed, with no error to deliver, lets the path go on (R118, R130). -/
theorem waitOn_completed (get : Core → Tbl AsyncSlot) (put : Core → Tbl AsyncSlot → Core) {s : Dev} {e : Env} (ok : ckCode (waitCk e.w false) = 0)
    (ended : anyBusy (get e.c) (wMod e.w 0 16) = false)
    (sound : ∀ p ∈ get e.c, bitOf (wMod e.w 0 16) p.1 = true → p.2.group = e.gno → p.2.code = 0) : waitOn get put e s = complete s e e.g := by
  unfold waitOn
  rw [orFail_ok ok]
  simp only [ended, Bool.false_eq_true, if_false, firstError_none sound]

/-- Matrix waits run where no matrix instruction is held. -/
theorem behindHold_free {e : Env} (free : e.c.mxHold = none) (s k : Dev) : behindHold e s k = k := by
  simp [behindHold, free]

/-- MXW and FYW, once what they wait for has completed. -/
theorem exec_wait {s : State} {i : Issue} {e : Env} {c : Instr} {op : Nat} {slots : Tbl AsyncSlot} (lanes : e.part ≠ 0)
    (row : (c, op, slots) ∈ [(Instr.mxw i, 0x59, e.c.tokens), (Instr.fyw i, 0x61, e.c.handles)]) (ready : Ready s.dev i op e)
    (free : op < 0x60 → e.c.mxHold = none) (ok : ckCode (waitCk e.w false) = 0) (ended : anyBusy slots (wMod e.w 0 16) = false)
    (sound : ∀ p ∈ slots, bitOf (wMod e.w 0 16) p.1 = true → p.2.group = e.gno → p.2.code = 0) :
    exec c s = .next { s with dev := finish (complete s.dev e e.g) } := by
  simp only [List.mem_cons, Prod.mk.injEq, List.not_mem_nil, or_false] at row
  rcases row with ⟨rfl, rfl, rfl⟩ | ⟨rfl, rfl, rfl⟩
  · refine (perform_ready _ ready rfl (.inl lanes)).trans ?_
    rw [behindHold_free (free (by omega)), waitOn_completed (fun c => c.tokens) _ ok ended sound]
  · refine (perform_ready _ ready rfl (.inl lanes)).trans ?_
    rw [waitOn_completed (fun c => c.handles) _ ok ended sound]

/-- MXT and FYT. -/
theorem exec_test {s : State} {i : Issue} {e : Env} {c : Instr} {op : Nat} {slots : Tbl AsyncSlot} (lanes : e.part ≠ 0)
    (row : (c, op, slots) ∈ [(Instr.mxt i, 0x5A, e.c.tokens), (Instr.fyt i, 0x62, e.c.handles)]) (ready : Ready s.dev i op e)
    (free : op < 0x60 → e.c.mxHold = none) (ok : ckCode (waitCk e.w true) = 0) :
    exec c s = .next { s with dev := finish (complete s.dev e
      (writePred e.g (wDst e.w) e.part (if anyBusy slots (wMod e.w 0 16) then 0 else 0xFFFFFFFF))) } := by
  simp only [List.mem_cons, Prod.mk.injEq, List.not_mem_nil, or_false] at row
  rcases row with ⟨rfl, rfl, rfl⟩ | ⟨rfl, rfl, rfl⟩
  · refine (perform_ready _ ready rfl (.inl lanes)).trans ?_
    rw [behindHold_free (free (by omega)), testOn, orFail_ok ok]
  · refine (perform_ready _ ready rfl (.inl lanes)).trans ?_
    rw [testOn, orFail_ok ok]

/-- Settles O21: a ferry's acceptance changes its core; a wait whose slots have completed only moves on, and a test writes one predicate. -/
theorem ferriesAndWaits : Obligations.FerriesAndWaits := by
  unfold Obligations.FerriesAndWaits
  intro s i e lanes
  refine ⟨fun f => fyi_leaves lanes, fun slots c op => ⟨fun row ready free ok ended sound => ?_, fun row ready free ok => ?_⟩⟩
  · refine ⟨_, exec_wait lanes row ready free ok ended sound, complete_onlyGroup s e e.g, ?_⟩
    rw [withDev_dev, groupIn_complete]
    exact ⟨movedOn_advancePc ready.run_eq, ⟨rfl, rfl, rfl, rfl, rfl, rfl, rfl⟩, rfl, rfl⟩
  · refine ⟨_, exec_test lanes row ready free ok, predGets_of_complete s e _ _ ready.run_eq (fun l lane => ?_)⟩
    rw [← testBit_allLanes_or_none (!anyBusy slots (wMod e.w 0 16)) lane]
    cases anyBusy slots (wMod e.w 0 16)
    · rfl
    · rfl

end Sys2Proof.Machine
end

section
/-!
SUPPORT. Channels (R238, R261): their registers, and what an access to one does beside its data (R235, R249, R253).
-/
namespace Sys2Proof.Machine

/-- The registers of the module's channels lie together (R261). -/
theorem chanReg_range {id : Nat} (known : id < 1152) : 0x161000 ≤ chanReg id ∧ chanReg id < 0x163400 := by
  unfold chanReg
  split
  · show 0x161000 ≤ 0x161000 + 8 * (128 * (id / 128) + id % 128) ∧ 0x161000 + 8 * (128 * (id / 128) + id % 128) < 0x163400
    omega
  · show 0x161000 ≤ 0x163000 + 8 * (4 * ((id - 1024) / 4) + (id - 1024) % 4) ∧ 0x163000 + 8 * (4 * ((id - 1024) / 4) + (id - 1024) % 4) < 0x163400
    omega

/-- A register that lies below those of the channels is none of them. -/
theorem ne_chanReg {id o : Nat} (known : id < 1152) (below : o < 0x161000) : o ≠ chanReg id := by
  have := (chanReg_range known).1
  omega

/-- The channel of an address is one of the two lists. -/
theorem mem_of_chanOf {s : Dev} {pa id : Nat} (here : chanOf s pa = some id) : id ∈ s.mem.listA ++ s.mem.listB := by
  unfold chanOf at here
  split at here
  · exact List.mem_append_left _ (List.mem_of_getElem? here)
  · split at here
    · exact List.mem_append_right _ (List.mem_of_getElem? here)
    · cases here

/-- The registers of an access: the channel's, whose STATE stays, and the count of retries. -/
theorem regRead_countRetries (s : Dev) (id n : Nat) {o : Nat} (other : o ≠ chanReg id) (uncounted : o ≠ Reg.MEM_CNT_LINK_RETRIES) :
    regRead (countRetries s id n) o = regRead s o := by
  unfold countRetries fsat
  rw [regRead_fset_other _ _ _ _ other]
  exact regRead_regWrite_other _ _ _ _ uncounted

theorem isHole_countRetries (s : Dev) {id : Nat} (n : Nat) (known : id < 1152) : isHole (countRetries s id n) id = isHole s id := by
  have low : (chanSTATE id).lo + (chanSTATE id).width ≤ (chanRETRIES id).lo := by
    show 0 + 2 ≤ 48
    omega
  have uncounted : (chanSTATE id).off ≠ Reg.MEM_CNT_LINK_RETRIES := (ne_chanReg known (by show 0x160050 < 0x161000; omega)).symm
  unfold isHole countRetries fsat
  rw [fget_fset_bits _ (chanRETRIES id) (chanSTATE id) _ rfl (by show 0 + 2 ≤ 64; omega) (.inl low), fget, fget]
  exact congrArg (fun x => bitsOf x 0 2 == 2) (regRead_regWrite_other _ _ _ _ uncounted)

/-- What an access to a channel does beside its data. -/
def accessed (s : Dev) (pa id n : Nat) (device : Bool) : Dev := countRetries (touchChannel s pa id device) id n

/-- An access changes the controllers' own state and registers. -/
theorem accessed_eq (s : Dev) (pa id n : Nat) (device : Bool) : accessed s pa id n device
    = { s with regs := (accessed s pa id n device).regs,
               mem := { s.mem with regul := (accessed s pa id n device).mem.regul, samples := (accessed s pa id n device).mem.samples,
                                   counters := (accessed s pa id n device).mem.counters, asleep := (accessed s pa id n device).mem.asleep } } := rfl

theorem regRead_accessed (s : Dev) (pa id n : Nat) (device : Bool) {o : Nat} (other : o ≠ chanReg id) (uncounted : o ≠ Reg.MEM_CNT_LINK_RETRIES) :
    regRead (accessed s pa id n device) o = regRead s o :=
  regRead_countRetries _ id n other uncounted

theorem wcbFind_accessed (s : Dev) (pa id n : Nat) (device : Bool) (id' sec : Nat) : wcbFind (accessed s pa id n device) id' sec = wcbFind s id' sec := rfl

end Sys2Proof.Machine
end

section
/-!
SUPPORT. Bytes of memory that a controller writes (R212, R234, R242).
-/
namespace Sys2Proof.Machine

/-- Bytes set one after the other at an address. -/
def setBytes (sec : Nat) (data : BitVec 256) (d : Dram) (l : List Nat) : Dram := l.foldl (fun d i => dramSet d (32 * sec + i) (byteAt data.toNat i)) d

theorem dramByte_setBytes (sec : Nat) (data : BitVec 256) (l : List Nat) {d : Dram} (wf : Memory.wf d = true) (a : Nat) :
    dramByte (setBytes sec data d l) a = if 32 * sec ≤ a ∧ a - 32 * sec ∈ l then byteAt data.toNat (a - 32 * sec) else dramByte d a := by
  induction l generalizing d with
  | nil => simp [setBytes]
  | cons i l ih =>
    have next := ih (dramSet_wf d (32 * sec + i) (byteAt data.toNat i) wf)
    rw [setBytes, List.foldl_cons]
    refine next.trans ?_
    by_cases later : 32 * sec ≤ a ∧ a - 32 * sec ∈ l
    · rw [if_pos later, if_pos ⟨later.1, List.mem_cons_of_mem _ later.2⟩]
    · rw [if_neg later]
      by_cases here : a = 32 * sec + i
      · subst here
        rw [dramByte_dramSet_same _ _ _ wf, if_pos ⟨Nat.le_add_right _ _, by simp⟩, Nat.add_sub_cancel_left]
      · rw [dramByte_dramSet_other _ _ _ _ wf here, if_neg]
        rintro ⟨above, named⟩
        rcases List.mem_cons.mp named with same | more
        · omega
        · exact later ⟨above, more⟩

/-- A byte of memory after a masked write of a sector (R212). -/
theorem dramByte_dramMerge {d : Dram} (wf : Memory.wf d = true) (sec : Nat) (mask : BitVec 32) (data : BitVec 256) (a : Nat) :
    dramByte (dramMerge d sec mask data) a
      = if a / 32 = sec ∧ mask.getLsbD (a % 32) = true then byteAt data.toNat (a % 32) else dramByte d a := by
  have named : (32 * sec ≤ a ∧ a - 32 * sec ∈ setBitsOf 32 mask.toNat) ↔ (a / 32 = sec ∧ mask.getLsbD (a % 32) = true) := by
    rw [setBitsOf, mem_bitList, Nat.sub_zero, BitVec.testBit_toNat]
    constructor
    · rintro ⟨above, -, below, bit⟩
      have place : a - 32 * sec = a % 32 := by omega
      rw [place] at bit
      exact ⟨by omega, bit⟩
    · rintro ⟨sector, bit⟩
      have place : a - 32 * sec = a % 32 := by omega
      rw [place]
      exact ⟨by omega, by omega, by omega, bit⟩
  refine (dramByte_setBytes sec data _ wf a).trans ?_
  simp only [named]
  split
  · next here =>
    have place : a - 32 * sec = a % 32 := by omega
    rw [place]
  · rfl

theorem mem_insertNat {x y : Nat} {l : List Nat} : y ∈ insertNat x l ↔ y = x ∨ y ∈ l := by
  induction l with
  | nil => simp [insertNat]
  | cons a l ih =>
    unfold insertNat
    split
    · next same => simp [same]
    · split
      · simp
      · rw [List.mem_cons, ih, List.mem_cons]
        tauto

/-- A sector's POISON bit after one is written. -/
theorem dramPoisoned_dramSetPoison (d : Dram) (sec sec' : Nat) (p : Bool) :
    dramPoisoned (dramSetPoison d sec p) sec' = if sec' = sec then p else dramPoisoned d sec' := by
  unfold dramPoisoned dramSetPoison
  cases p with
  | true => by_cases same : sec' = sec <;> simp [same, mem_insertNat]
  | false => by_cases same : sec' = sec <;> simp [same]

end Sys2Proof.Machine
end

section
/-!
The obligation on the transfers of the memory controllers (R212, R242, R243, R245).
-/
namespace Sys2Proof.Machine

/-! ### Reads -/

/-- A clean read of a working channel, of a sector that no write is combined for (R245). -/
theorem ctlSector_clean {s : Dev} {id sec : Nat} (working : isHole s id = false) (uncombined : wcbFind s id sec = none) (n : Nat) (device : Bool) :
    ctlSector s id sec .clean n device
      = (accessed s (32 * sec) id (min n 3) device, dramSector s.dram sec, if dramPoisoned s.dram sec then ePoison else 0) := by
  have combined : wcbFind (countRetries (touchChannel s (32 * sec) id device) id (min n 3)) id sec = none := uncombined
  unfold ctlSector
  simp only [working, Bool.false_eq_true, if_false, reduceCtorEq, combined]
  rfl

/-- So is one that was corrected, which is counted. -/
theorem ctlSector_corrected {s : Dev} {id sec : Nat} (working : isHole s id = false) (uncombined : wcbFind s id sec = none) (n : Nat) (device : Bool) :
    ctlSector s id sec .corrected n device
      = (fsat (bump (accessed s (32 * sec) id (min n 3) device) Reg.MEM_CNT_CORRECTED) (chanCORRECTED id) 1, dramSector s.dram sec,
          if dramPoisoned s.dram sec then ePoison else 0) := by
  have combined : wcbFind (fsat (bump (countRetries (touchChannel s (32 * sec) id device) id (min n 3)) Reg.MEM_CNT_CORRECTED) (chanCORRECTED id) 1) id sec
      = none := uncombined
  unfold ctlSector
  simp only [working, Bool.false_eq_true, if_false, if_true, combined]
  rfl

/-- Where no write of the line is queued, draining its writes does nothing (R244). -/
theorem drainWrites_none {s : Dev} {line : Nat} (none : ∀ w ∈ s.mem.writes, w.line ≠ line) : drainWrites s line = s := by
  have mine : s.mem.writes.filter (fun w => w.line == line) = [] := by
    rw [List.filter_eq_nil_iff]
    exact fun w named => by simpa using none w named
  have others : s.mem.writes.filter (fun w => w.line != line) = s.mem.writes := by
    rw [List.filter_eq_self]
    exact fun w named => by simpa using none w named
  unfold drainWrites
  simp only [mine, others, List.foldl_nil]

/-- A fill with one of its halves. -/
def halfFilled (f : Fill) (sec : Nat) (x : FillHalf) : Fill := if sec % 2 = 0 then { f with lo := some x } else { f with hi := some x }

/-- A fill that waits for its other half does not finish (R210). -/
theorem tryFinishFill_half {s : Dev} {k sec : Nat} {f : Fill} {x : FillHalf} (lo : f.lo = none) (hi : f.hi = none)
    (found : tget s.shore.fills k = some (halfFilled f sec x)) : tryFinishFill s k = s := by
  unfold tryFinishFill
  rw [found]
  split
  · next lo' hi' both =>
    unfold halfFilled at both
    split at both
    · simp [hi] at both
    · simp [lo] at both
  · rfl

/-- A module of which a fill has got one of its halves. -/
def halfRead (s : Dev) (f : Fill) (sec : Nat) (x : FillHalf) : Dev :=
  { s with shore := { s.shore with fills := tset s.shore.fills (sec / 2) (halfFilled f sec x) } }

theorem tryFinishFill_halfRead (s : Dev) {f : Fill} (lo : f.lo = none) (hi : f.hi = none) (sec : Nat) (x : FillHalf) :
    tryFinishFill (halfRead s f sec x) (sec / 2) = halfRead s f sec x :=
  tryFinishFill_half lo hi (tget_tset_same _ _ _)

/-- MEM_READ's effect on a clean sector whose data, or whose copy's absence, ends the read. -/
theorem exec_memRead {s : State} {sec n id : Nat} {f : Fill} (waits : tget s.dev.shore.fills (sec / 2) = some f) (lo : f.lo = none) (hi : f.hi = none)
    (here : chanOf s.dev (32 * sec) = some id) (working : isHole s.dev id = false) (served : chanPaused s.dev id = false)
    (unqueued : ∀ w ∈ s.dev.mem.writes, w.line ≠ sec / 2) (uncombined : wcbFind s.dev id sec = none)
    (final : dramPoisoned s.dev.dram sec = false ∨ replicaLine s.dev (sec / 2) = none) :
    exec (.memRead sec .clean n .clean false) s = .next { s with dev := finish (halfRead (accessed s.dev (32 * sec) id (min n 3) false) f sec
      ⟨dramSector s.dev.dram sec, if dramPoisoned s.dev.dram sec then ePoison else 0⟩) } := by
  have read : ctlRead s.dev sec .clean n .clean
      = (accessed s.dev (32 * sec) id (min n 3) false, dramSector s.dev.dram sec, if dramPoisoned s.dev.dram sec then ePoison else 0) := by
    unfold ctlRead
    simp only [here, ctlSector_clean working uncombined]
    rcases final with clean | single
    · simp [clean]
    · have copy : replicaLine (accessed s.dev (32 * sec) id (min n 3) false) (sec / 2) = none := single
      simp only [copy]
      have marked : ePoison ≠ 0 := by decide
      cases dramPoisoned s.dev.dram sec with
      | true => simp [marked]
      | false => simp
  have empty : (if sec % 2 = 0 then f.lo else f.hi).isSome = false := by simp [lo, hi]
  show execMemRead sec .clean n .clean false s = _
  unfold execMemRead
  rw [perform_eq]
  simp only [waits, here, empty, served, Bool.false_eq_true, or_self, if_false, Bool.false_and, drainWrites_none unqueued, read]
  exact congrArg (fun d => Host.Outcome.next { s with dev := finish d }) (tryFinishFill_halfRead _ lo hi sec _)

/-! ### Writes of whole lines -/

/-- A byte of a half of a line. -/
theorem byteAt_halfOf (l : BitVec 512) (h : Nat) {j : Nat} (inside : j < 32) : byteAt (halfOf l h).toNat j = byteAt l.toNat (32 * h + j) := by
  apply BitVec.eq_of_getLsbD_eq
  intro k bit
  have small : 8 * j + k < 256 := by omega
  have place : 8 * j + k + 256 * h = 8 * (32 * h + j) + k := by ring
  rw [getLsbD_byteAt, getLsbD_byteAt, halfOf, BitVec.toNat_ofNat, Nat.testBit_mod_two_pow, Nat.testBit_div_two_pow, place]
  simp [small]

/-- Memory after a controller has written a whole sector of a line (R212, R242). -/
def halfDram (d : Dram) (w : MemWr) (h : Nat) : Dram :=
  let e := dramSetPoison (dramMerge d (2 * w.line + h) 0xFFFFFFFF (halfOf w.data h)) (2 * w.line + h) (w.poison.getLsbD h)
  if w.markPoison.getLsbD h then dramSetPoison e (2 * w.line + h) true else e

theorem halfDram_wf {d : Dram} (wf : Memory.wf d = true) (w : MemWr) (h : Nat) : Memory.wf (halfDram d w h) = true := by
  have merged := dramMerge_wf d (2 * w.line + h) 0xFFFFFFFF (halfOf w.data h) wf
  unfold halfDram
  dsimp only
  split
  · exact dramSetPoison_wf _ _ _ (dramSetPoison_wf _ _ _ merged)
  · exact dramSetPoison_wf _ _ _ merged

/-- POISON bits are beside the bytes. -/
theorem dramByte_dramSetPoison (d : Dram) (sec : Nat) (p : Bool) (a : Nat) : dramByte (dramSetPoison d sec p) a = dramByte d a := rfl

theorem dramByte_halfDram {d : Dram} (wf : Memory.wf d = true) (w : MemWr) (h a : Nat) :
    dramByte (halfDram d w h) a = if a / 32 = 2 * w.line + h then byteAt (halfOf w.data h).toNat (a % 32) else dramByte d a := by
  have merged := dramByte_dramMerge wf (2 * w.line + h) 0xFFFFFFFF (halfOf w.data h) a
  have all : (0xFFFFFFFF : BitVec 32).getLsbD (a % 32) = true := by
    have ones : (0xFFFFFFFF : BitVec 32) = BitVec.allOnes 32 := rfl
    rw [ones, BitVec.getLsbD_allOnes]
    exact decide_eq_true (Nat.mod_lt _ (by norm_num))
  simp only [all, and_true] at merged
  refine Eq.trans ?_ merged
  unfold halfDram
  dsimp only
  split
  · rw [dramByte_dramSetPoison, dramByte_dramSetPoison]
  · rw [dramByte_dramSetPoison]

theorem dramPoisoned_halfDram (d : Dram) (w : MemWr) (h sec : Nat) : dramPoisoned (halfDram d w h) sec
    = if sec = 2 * w.line + h then (w.poison.getLsbD h || w.markPoison.getLsbD h) else dramPoisoned d sec := by
  have merged : dramPoisoned (dramMerge d (2 * w.line + h) 0xFFFFFFFF (halfOf w.data h)) sec = dramPoisoned d sec := by
    unfold dramPoisoned dramMerge
    refine congrArg (fun l : List Nat => l.contains sec) (List.foldlRecOn (motive := fun e : Dram => e.poison = d.poison) _ _ rfl ?_)
    exact fun e same i _ => same
  unfold halfDram
  dsimp only
  cases w.markPoison.getLsbD h with
  | true =>
    simp only [if_true, dramPoisoned_dramSetPoison, merged, Bool.or_true]
    split <;> rfl
  | false => simp only [Bool.false_eq_true, if_false, dramPoisoned_dramSetPoison, merged, Bool.or_false]

/-- A sector of a write of the whole line (R242): its bytes go to memory, and what was combined for it is dropped. -/
theorem ctlWriteHalf_full (s : Dev) (id : Nat) {w : MemWr} (full : w.mask = BitVec.allOnes 64) {h : Nat} (half : h < 2) :
    ∃ wcb, ctlWriteHalf s id w h = { s with dram := halfDram s.dram w h, mem := { s.mem with wcb := wcb } } := by
  have whole : BitVec.ofNat 32 (w.mask.toNat / 2 ^ (32 * h)) = 0xFFFFFFFF := by
    rw [full]
    interval_cases h <;> decide
  have dropped : ∃ wcb, wcbDrop s id (2 * w.line + h) = { s with mem := { s.mem with wcb := wcb } } := by
    unfold wcbDrop
    split
    · exact ⟨_, rfl⟩
    · exact ⟨_, rfl⟩
  obtain ⟨wcb, drop⟩ := dropped
  refine ⟨wcb, ?_⟩
  unfold ctlWriteHalf halfDram
  have some : (0xFFFFFFFF : BitVec 32) ≠ 0 := by decide
  simp only [whole, drop, some, if_false, if_true]
  split
  · rfl
  · rfl

/-- Memory after a write request of a whole line. -/
def lineDram (d : Dram) (w : MemWr) : Dram :=
  let e := halfDram (halfDram d w 0) w 1
  match w.held with
  | none => e
  | some b => dramSetHeld e w.line b

/-- A write request of a whole line at a working channel: memory changes, and the controllers' own state (R212, R247). -/
theorem ctlWriteChan_full {s : Dev} {id : Nat} {w : MemWr} (full : w.mask = BitVec.allOnes 64) (working : isHole s id = false) :
    ∃ mem, ctlWriteChan s id w = { s with dram := lineDram s.dram w, mem := mem } ∧ mem.writes = s.mem.writes := by
  obtain ⟨low, first⟩ := ctlWriteHalf_full (touchChannel s (64 * w.line) id false) id full (h := 0) (by omega)
  obtain ⟨high, second⟩ := ctlWriteHalf_full (ctlWriteHalf (touchChannel s (64 * w.line) id false) id w 0) id full (h := 1) (by omega)
  unfold ctlWriteChan lineDram
  simp only [working, Bool.false_eq_true, if_false]
  rw [second, first]
  cases w.held with
  | none => exact ⟨_, rfl, rfl⟩
  | some b => exact ⟨_, rfl, rfl⟩

/-- A module with other bytes in memory and another state of its controllers. -/
def withTiers (s : Dev) (dram : Dram) (mem : Mem) : Dev := { s with dram := dram, mem := mem }

/-- A module with other queued writes. -/
def queuedWrites (s : Dev) (writes : List MemWr) : Dev := withTiers s s.dram { s.mem with writes := writes }

/-- A write request of a whole line that its channel performs, no replica standing beside it (R212). -/
theorem ctlWrite_full {s : Dev} {n id : Nat} {w : MemWr} (known : id < 1152) (here : chanOf s (64 * w.line) = some id) (working : isHole s id = false)
    (single : replicaLine s w.line = none) (full : w.mask = BitVec.allOnes 64) :
    ∃ mem, ctlWrite s w n false = withTiers (countRetries s id (min n 3)) (lineDram s.dram w) mem ∧ mem.writes = s.mem.writes := by
  obtain ⟨mem, written, kept⟩ := ctlWriteChan_full (s := countRetries s id (min n 3)) full ((isHole_countRetries _ _ known).trans working)
  refine ⟨mem, ?_, kept⟩
  have alone : replicaLine (ctlWriteChan (countRetries s id (min n 3)) id w) w.line = none := by
    rw [written]
    exact single
  unfold ctlWrite
  simp only [here, working, Bool.false_eq_true, if_false, alone]
  exact written

/-- MEM_WRITE's effect on a whole line (R212). -/
theorem exec_memWrite {s : State} {line n id : Nat} {w : MemWr} (known : id < 1152) (queued : s.dev.mem.writes.find? (fun w => w.line == line) = some w)
    (here : chanOf s.dev (64 * line) = some id) (working : isHole s.dev id = false) (served : chanPaused s.dev id = false)
    (single : replicaLine s.dev line = none) (full : w.mask = BitVec.allOnes 64) :
    ∃ mem, exec (.memWrite line n false) s
        = .next { s with dev := finish (withTiers (countRetries (queuedWrites s.dev (s.dev.mem.writes.erase w)) id (min n 3)) (lineDram s.dev.dram w) mem) }
      ∧ mem.writes = s.dev.mem.writes.erase w := by
  have own : w.line = line := eq_of_beq (List.find?_some (p := fun w : MemWr => w.line == line) queued)
  subst own
  obtain ⟨mem, written, kept⟩ := ctlWrite_full (s := queuedWrites s.dev (s.dev.mem.writes.erase w)) (n := n) known here working single full
  refine ⟨mem, ?_, kept⟩
  show execMemWrite w.line n false s = _
  unfold execMemWrite
  rw [perform_eq]
  simp only [queued, here, served, Bool.false_eq_true, if_false]
  exact congrArg (fun d => Host.Outcome.next { s with dev := finish d }) written

/-- What a write request of a whole line leaves in memory. -/
theorem dramByte_lineDram {d : Dram} (wf : Memory.wf d = true) (w : MemWr) (a : Nat) :
    dramByte (lineDram d w) a = if a / 64 = w.line then byteAt w.data.toNat (a % 64) else dramByte d a := by
  have held : dramByte (lineDram d w) a = dramByte (halfDram (halfDram d w 0) w 1) a := by
    unfold lineDram
    cases w.held <;> rfl
  rw [held, dramByte_halfDram (halfDram_wf wf w 0), dramByte_halfDram wf]
  have inside : a % 32 < 32 := Nat.mod_lt _ (by norm_num)
  by_cases high : a / 32 = 2 * w.line + 1
  · have place : 32 * 1 + a % 32 = a % 64 := by omega
    rw [if_pos high, if_pos (by omega), byteAt_halfOf _ _ inside, place]
  · rw [if_neg high]
    by_cases low : a / 32 = 2 * w.line
    · have place : 32 * 0 + a % 32 = a % 64 := by omega
      rw [if_pos (by omega), if_pos (by omega), byteAt_halfOf _ _ inside, place]
    · rw [if_neg (by omega), if_neg (by omega)]

theorem dramPoisoned_lineDram (d : Dram) (w : MemWr) {h : Nat} (half : h < 2) :
    dramPoisoned (lineDram d w) (2 * w.line + h) = (w.poison.getLsbD h || w.markPoison.getLsbD h) := by
  have held : dramPoisoned (lineDram d w) (2 * w.line + h) = dramPoisoned (halfDram (halfDram d w 0) w 1) (2 * w.line + h) := by
    unfold lineDram
    cases w.held <;> rfl
  rw [held, dramPoisoned_halfDram, dramPoisoned_halfDram]
  interval_cases h
  · rw [if_neg (by omega), if_pos rfl]
  · rw [if_pos rfl]

end Sys2Proof.Machine
end

section
/-!
The obligation on the transfers of the memory controllers (R212, R242, R243, R245), put together.
-/
namespace Sys2Proof.Machine

theorem known_of_chanOf {s : Dev} (known : channelsKnown s) {pa id : Nat} (here : chanOf s pa = some id) : id < 1152 := known _ (mem_of_chanOf here)

theorem ne_of_not_mem_pair {o a b : Nat} (others : o ∉ [a, b]) : o ≠ a ∧ o ≠ b := by
  refine ⟨?_, ?_⟩
  · rintro rfl
    exact others (by simp)
  · rintro rfl
    exact others (by simp)

/-- What an access, and a patrol's read, leave alone. -/
theorem accessed_shape (s : Dev) (pa id n : Nat) (device : Bool) : ∃ regs mem, accessed s pa id n device = { s with regs := regs, mem := mem } := ⟨_, _, rfl⟩

theorem countRetries_shape (s : Dev) (id n : Nat) : ∃ regs, countRetries s id n = { s with regs := regs } := ⟨_, rfl⟩

theorem sameRegsBut_accessed (s : Dev) (pa id n : Nat) (device : Bool) :
    SameRegsBut [chanReg id, Reg.MEM_CNT_LINK_RETRIES] s (accessed s pa id n device) := by
  intro o others _
  obtain ⟨other, uncounted⟩ := ne_of_not_mem_pair others
  exact regRead_accessed _ _ _ _ _ other uncounted

theorem sameRegsBut_countRetries (s : Dev) (id n : Nat) : SameRegsBut [chanReg id, Reg.MEM_CNT_LINK_RETRIES] s (countRetries s id n) := by
  intro o others _
  obtain ⟨other, uncounted⟩ := ne_of_not_mem_pair others
  exact regRead_countRetries _ _ _ other uncounted

/-- MEM_READ gives the half of a fill (R212). -/
theorem memRead_fills {s : State} {sec n id : Nat} {f : Fill} (waits : tget s.dev.shore.fills (sec / 2) = some f) (lo : f.lo = none) (hi : f.hi = none)
    (here : chanOf s.dev (32 * sec) = some id) (working : isHole s.dev id = false) (served : chanPaused s.dev id = false)
    (unqueued : ∀ w ∈ s.dev.mem.writes, w.line ≠ sec / 2) (uncombined : wcbFind s.dev id sec = none)
    (final : dramPoisoned s.dev.dram sec = false ∨ replicaLine s.dev (sec / 2) = none) :
    ∃ t, exec (.memRead sec .clean n .clean false) s = .next t ∧ SameMem s.dev t.dev
      ∧ OnlyIn [chanReg id, Reg.MEM_CNT_LINK_RETRIES] s t { s.dev with mem := t.dev.mem, shore := { s.dev.shore with fills := t.dev.shore.fills } }
      ∧ (tget t.dev.shore.fills (sec / 2)).map (fun f => if sec % 2 = 0 then f.lo else f.hi)
          = some (some ⟨dramSector s.dev.dram sec, if dramPoisoned s.dev.dram sec then ePoison else 0⟩) := by
  have runs := exec_memRead (n := n) waits lo hi here working served unqueued uncombined final
  have same := sameRegsBut_accessed s.dev (32 * sec) id (min n 3) false
  obtain ⟨regs, mem, shape⟩ := accessed_shape s.dev (32 * sec) id (min n 3) false
  rw [shape] at runs same
  refine ⟨_, runs, sameMem_finish rfl, onlyIn_finish rfl same, ?_⟩
  · rw [withDev_dev, finish_shore, halfRead, tget_tset_same, Option.map_some]
    unfold halfFilled
    split
    · rfl
    · rfl

/-- MEM_WRITE puts a whole line into memory (R212, R242). -/
theorem memWrite_writes {s : State} (settled : Settled s.dev) {line n id : Nat} {w : MemWr} (known : id < 1152)
    (queued : s.dev.mem.writes.find? (fun w => w.line == line) = some w)
    (here : chanOf s.dev (64 * line) = some id) (working : isHole s.dev id = false) (served : chanPaused s.dev id = false)
    (single : replicaLine s.dev line = none) (full : w.mask = BitVec.allOnes 64) :
    ∃ t, exec (.memWrite line n false) s = .next t ∧ t.dev.mem.writes = s.dev.mem.writes.erase w
      ∧ (∀ j, j < 64 → dramByte t.dev.dram (64 * line + j) = byteAt w.data.toNat j)
      ∧ (∀ a, a < 64 * line ∨ 64 * line + 64 ≤ a → dramByte t.dev.dram a = dramByte s.dev.dram a)
      ∧ (∀ h, h < 2 → dramPoisoned t.dev.dram (2 * line + h) = (w.poison.getLsbD h || w.markPoison.getLsbD h))
      ∧ OnlyIn [chanReg id, Reg.MEM_CNT_LINK_RETRIES] s t { s.dev with mem := t.dev.mem } := by
  obtain ⟨mem, runs, kept⟩ := exec_memWrite (n := n) known queued here working served single full
  have own : w.line = line := eq_of_beq (List.find?_some (p := fun w : MemWr => w.line == line) queued)
  subst own
  have wf := settled.1
  have same := sameRegsBut_countRetries (queuedWrites s.dev (s.dev.mem.writes.erase w)) id (min n 3)
  obtain ⟨regs, shape⟩ := countRetries_shape (queuedWrites s.dev (s.dev.mem.writes.erase w)) id (min n 3)
  rw [shape] at runs same
  refine ⟨_, runs, kept, ?_, ?_, ?_, onlyIn_finish rfl same⟩
  · intro j below
    have index : (64 * w.line + j) / 64 = w.line := by omega
    have place : (64 * w.line + j) % 64 = j := by omega
    rw [withDev_dev, dramByte_finish]
    exact (dramByte_lineDram wf w _).trans (by rw [if_pos index, place])
  · intro a outside
    rw [withDev_dev, dramByte_finish]
    exact (dramByte_lineDram wf w _).trans (if_neg (by omega))
  · intro h half
    exact dramPoisoned_lineDram _ w half

/-- What a controller leaves that has retired an entry (R243). -/
theorem wcbDrop_eq (s : Dev) (id sec : Nat) : ∃ mem, wcbDrop s id sec = { s with mem := mem } := by
  unfold wcbDrop
  split
  · exact ⟨_, rfl⟩
  · exact ⟨_, rfl⟩

theorem wcbFind_setWcb_filter (s : Dev) (id sec : Nat) : wcbFind (setWcb s id ((wcbOf s id).filter (fun w => w.sec != sec))) id sec = none := by
  unfold wcbFind setWcb
  rw [tgetD_tset_same, List.find?_eq_none]
  intro w kept
  simpa using (List.mem_filter.mp kept).2

theorem wcbFind_wcbDrop (s : Dev) (id sec : Nat) : wcbFind (wcbDrop s id sec) id sec = none := by
  unfold wcbDrop
  split
  · exact wcbFind_setWcb_filter s id sec
  · next absent => simpa using absent

theorem exec_wcbTimeout {s : State} {sec id : Nat} {w : WcbEntry} (here : chanOf s.dev (32 * sec) = some id) (combined : wcbFind s.dev id sec = some w) :
    exec (.wcbTimeout sec .clean) s = .next { s with dev := finish (wcbRetire (touchChannel s.dev (32 * sec) id false) id w) } := by
  show execWcbTimeout sec .clean s = _
  unfold execWcbTimeout
  rw [perform_eq]
  simp only [here, combined]

/-- WCB_TIMEOUT merges the bytes of its entry (R243). -/
theorem wcbTimeout_merges {s : State} (settled : Settled s.dev) {sec id : Nat} {w : WcbEntry} (here : chanOf s.dev (32 * sec) = some id)
    (combined : wcbFind s.dev id sec = some w) :
    ∃ t, exec (.wcbTimeout sec .clean) s = .next t ∧ wcbFind t.dev id sec = none
      ∧ (∀ j, j < 32 → dramByte t.dev.dram (32 * sec + j)
          = if w.mask.getLsbD j then byteAt w.data.toNat j else dramByte s.dev.dram (32 * sec + j))
      ∧ (∀ a, a < 32 * sec ∨ 32 * sec + 32 ≤ a → dramByte t.dev.dram a = dramByte s.dev.dram a)
      ∧ regRead t.dev Reg.MEM_CNT_RMW = (regRead s.dev Reg.MEM_CNT_RMW + 1) % 2 ^ 64
      ∧ OnlyIn [Reg.MEM_CNT_RMW] s t { s.dev with mem := t.dev.mem } := by
  have own : w.sec = sec := eq_of_beq (List.find?_some (p := fun w : WcbEntry => w.sec == sec) combined)
  subst own
  obtain ⟨mem, dropped⟩ := wcbDrop_eq (withTiers (touchChannel s.dev (32 * w.sec) id false) (dramMerge s.dev.dram w.sec w.mask w.data)
    (touchChannel s.dev (32 * w.sec) id false).mem) id w.sec
  have retired : wcbRetire (touchChannel s.dev (32 * w.sec) id false) id w
      = bump (withTiers s.dev (dramMerge s.dev.dram w.sec w.mask w.data) mem) Reg.MEM_CNT_RMW := congrArg (fun d => bump d Reg.MEM_CNT_RMW) dropped
  have gone : wcbFind (withTiers s.dev (dramMerge s.dev.dram w.sec w.mask w.data) mem) id w.sec = none := by
    have drop := wcbFind_wcbDrop (withTiers (touchChannel s.dev (32 * w.sec) id false) (dramMerge s.dev.dram w.sec w.mask w.data)
      (touchChannel s.dev (32 * w.sec) id false).mem) id w.sec
    rw [dropped] at drop
    exact drop
  have runs := exec_wcbTimeout here combined
  rw [retired] at runs
  have merged := dramByte_dramMerge settled.1 w.sec w.mask w.data
  refine ⟨_, runs, gone, ?_, ?_, ?_, onlyIn_finish rfl ?_⟩
  · intro j below
    have index : (32 * w.sec + j) / 32 = w.sec := by omega
    have place : (32 * w.sec + j) % 32 = j := by omega
    rw [withDev_dev, dramByte_finish]
    exact (merged _).trans (by simp only [index, place, true_and])
  · intro a outside
    rw [withDev_dev, dramByte_finish]
    exact (merged _).trans (if_neg (by omega))
  · rw [withDev_dev, regRead_finish _ _ (by decide), regRead_bump_same]
    rfl
  · intro o others _
    exact regRead_bump_other _ _ _ (by simpa using others)

/-- A module whose patrol stands at a sector. -/
def scrubAt (s : Dev) (sec : Nat) : Dev := { s with mem := { s.mem with scrubNext := sec } }

/-- A patrol's read that was corrected. -/
def patrolRead (s : Dev) (id n : Nat) : Dev :=
  fsat (bump (accessed s (32 * s.mem.scrubNext) id (min n 3) true) Reg.MEM_CNT_CORRECTED) (chanCORRECTED id) 1

theorem regRead_patrolRead (s : Dev) (id n : Nat) {o : Nat} (other : o ≠ chanReg id) (uncounted : o ≠ Reg.MEM_CNT_LINK_RETRIES)
    (uncorrected : o ≠ Reg.MEM_CNT_CORRECTED) : regRead (patrolRead s id n) o = regRead s o := by
  unfold patrolRead fsat
  rw [regRead_fset_other _ _ _ _ other, regRead_bump_other _ _ _ uncorrected]
  exact regRead_accessed _ _ _ _ _ other uncounted

theorem nextScrub_patrolRead (s : Dev) {id : Nat} (n : Nat) (known : id < 1152) (sec : Nat) : nextScrub (patrolRead s id n) sec = nextScrub s sec := by
  have a : capA (patrolRead s id n) = capA s := by
    unfold capA fget
    rw [regRead_patrolRead _ _ _ (ne_chanReg known (by decide)) (by decide) (by decide)]
  have b : capB (patrolRead s id n) = capB s := by
    unfold capB fget
    rw [regRead_patrolRead _ _ _ (ne_chanReg known (by decide)) (by decide) (by decide)]
  unfold nextScrub
  rw [a, b]

theorem exec_patrolScrubRead {s : State} {id : Nat} (n : Nat) (known : id < 1152) (on : fget s.dev RF.MEM_SCRUB_POLICY_SCRUB_HOURS ≠ 0)
    (here : chanOf s.dev (32 * s.dev.mem.scrubNext) = some id) (working : isHole s.dev id = false) (served : chanPaused s.dev id = false)
    (uncombined : wcbFind s.dev id s.dev.mem.scrubNext = none) :
    exec (.patrolScrubRead .corrected n) s
      = .next { s with dev := finish (scrubAt (patrolRead s.dev id n) (nextScrub s.dev s.dev.mem.scrubNext)) } := by
  have bad : (if dramPoisoned s.dev.dram s.dev.mem.scrubNext then ePoison else 0) ≠ eUncorr := by
    split
    · decide
    · decide
  show execPatrolScrubRead .corrected n s = _
  unfold execPatrolScrubRead
  rw [perform_eq]
  simp only [on, here, served, Bool.false_eq_true, if_false, ctlSector_corrected working uncombined, bad]
  rw [← nextScrub_patrolRead s.dev n known]
  rfl

theorem patrolRead_shape (s : Dev) (id n : Nat) : ∃ regs mem, patrolRead s id n = { s with regs := regs, mem := mem } := ⟨_, _, rfl⟩

/-- PATROL_SCRUB_READ moves on and counts a corrected error (R245). -/
theorem patrolScrubRead_counts {s : State} {id : Nat} (n : Nat) (known : id < 1152) (on : fget s.dev RF.MEM_SCRUB_POLICY_SCRUB_HOURS ≠ 0)
    (here : chanOf s.dev (32 * s.dev.mem.scrubNext) = some id) (working : isHole s.dev id = false) (served : chanPaused s.dev id = false)
    (uncombined : wcbFind s.dev id s.dev.mem.scrubNext = none) :
    ∃ t, exec (.patrolScrubRead .corrected n) s = .next t ∧ SameMem s.dev t.dev ∧ t.dev.mem.scrubNext = nextScrub s.dev s.dev.mem.scrubNext
      ∧ regRead t.dev Reg.MEM_CNT_CORRECTED = (regRead s.dev Reg.MEM_CNT_CORRECTED + 1) % 2 ^ 64
      ∧ OnlyIn [chanReg id, Reg.MEM_CNT_LINK_RETRIES, Reg.MEM_CNT_CORRECTED] s t { s.dev with mem := t.dev.mem } := by
  have apart : Reg.MEM_CNT_CORRECTED ≠ chanReg id := ne_chanReg known (by decide)
  have counted : regRead (patrolRead s.dev id n) Reg.MEM_CNT_CORRECTED = (regRead s.dev Reg.MEM_CNT_CORRECTED + 1) % 2 ^ 64 := by
    unfold patrolRead fsat
    rw [regRead_fset_other _ _ _ _ apart, regRead_bump_same, regRead_accessed _ _ _ _ _ apart (by decide)]
  have same : SameRegsBut [chanReg id, Reg.MEM_CNT_LINK_RETRIES, Reg.MEM_CNT_CORRECTED] s.dev (patrolRead s.dev id n) := by
    intro o others _
    simp only [List.mem_cons, List.not_mem_nil, or_false, not_or] at others
    obtain ⟨other, uncounted, uncorrected⟩ := others
    exact regRead_patrolRead _ _ _ other uncounted uncorrected
  have runs := exec_patrolScrubRead n known on here working served uncombined
  obtain ⟨regs, mem, shape⟩ := patrolRead_shape s.dev id n
  rw [shape] at runs same counted
  refine ⟨_, runs, sameMem_finish rfl, rfl, ?_, onlyIn_finish rfl same⟩
  rw [withDev_dev, regRead_finish _ _ (by decide)]
  exact counted

/-- Settles O23: each transfer of a controller is one of its effects above, on a channel that the module knows. -/
theorem controllerTransfers : Obligations.ControllerTransfers := by
  unfold Obligations.ControllerTransfers
  intro s settled known
  refine ⟨?_, ?_, ?_, ?_⟩
  · intro sec n id f waits lo hi here working served unqueued uncombined final
    exact memRead_fills waits lo hi here working served unqueued uncombined final
  · intro line n id w queued here working served single full
    exact memWrite_writes settled (known_of_chanOf known here) queued here working served single full
  · intro sec id w here combined
    exact wcbTimeout_merges settled here combined
  · intro id n on here working served uncombined
    exact patrolScrubRead_counts n (known_of_chanOf known here) on here working served uncombined

end Sys2Proof.Machine
end

section
/-!
SUPPORT. How an admitted command leaves the module, whatever its effect: where it ends at once, and where it begins and ends later (R291, R293).
-/
namespace Sys2Proof.Machine

theorem SameMem.trans {s t u : Dev} (h : SameMem s t) (k : SameMem t u) : SameMem s u := by
  obtain ⟨bytes, poison, held, scrambled⟩ := h
  obtain ⟨bytes', poison', held', scrambled'⟩ := k
  exact ⟨fun a => (bytes' a).trans (bytes a), poison'.trans poison, held'.trans held, scrambled'.trans scrambled⟩

theorem sameMem_of_dram {s t : Dev} (same : t.dram = s.dram) : SameMem s t := by
  refine ⟨fun a => ?_, ?_, ?_, ?_⟩
  all_goals rw [same]

/-- What is closed as `t` after a command that led to `u` from `s` and ends with `r`: its ring owes the completion, or its bus has had the answer, and the
log may have an entry of it; beside that, `t` is `u`. -/
structure Ended (s u t : Dev) (x : Ctx) (r : Ret) : Prop where
  shape : SameButAnswer u t
  mem : SameMem u t
  regs : SameRegsBut logRegs u t
  completes : Completes s t x r
  rings : ∀ k, k ≠ ringKey x.inst x.ring → ringAt t k = ringAt s k
  others : t.fe.store.filter (fun e => cmdKey e.inst e.ring e.pos != x.key) = s.fe.store.filter (fun e => cmdKey e.inst e.ring e.pos != x.key)

/-- What is closed as `t` after a command that led to `u` from `s` and has begun: beside its phase in the store, `t` is `u`. -/
structure Begun (s u t : Dev) (x : Ctx) : Prop where
  shape : ∃ store dram regs, t = { u with fe := { u.fe with store := store }, dram := dram, regs := regs, blocked := [] }
  mem : SameMem u t
  regs : SameRegsBut [] u t
  begins : Begins t x
  rings : ∀ k, k ≠ ringKey x.inst x.ring → ringAt t k = ringAt s k
  others : t.fe.store.filter (fun e => cmdKey e.inst e.ring e.pos != x.key) = s.fe.store.filter (fun e => cmdKey e.inst e.ring e.pos != x.key)

/-- An answer, after changes of the log alone, ends a command whose effect left the command store and the rings. -/
theorem ended_answerCmd {s u v : Dev} {x : Ctx} (r : Ret) (store : u.fe.store = s.fe.store) (rings : u.fe.rings = s.fe.rings)
    (stored : x.origin ≤ 2 → (storeAt s x.key).isSome = true) (logged : OnlyLogAnd [] u v) :
    Ended s u (finish (answerCmd v x (cplOf x r) r.data)) x r := by
  have key := cplOf_key x r
  have fe : v.fe = u.fe := by rw [logged.rest]
  have vstore : v.fe.store = s.fe.store := by rw [fe, store]
  have vrings : v.fe.rings = s.fe.rings := by rw [fe, rings]
  refine ⟨sameButAnswer_of_closed logged.rest (answerCmd_rest v r.data key) (finish_rest _), sameMem_finish ?_, ?_, ?_, ?_, ?_⟩
  · rw [answerCmd_rest v r.data key, logged.rest]
  · intro o others shc
    rw [regRead_finish _ _ shc, answerCmd_rest v r.data key]
    exact logged.regs o others shc
  · have completes : Completes v (answerCmd v x (cplOf x r) r.data) x r :=
      completes_answerCmd r (fun ring => by unfold storeAt; rw [vstore]; exact stored ring)
    unfold Completes ringAt storeAt at completes ⊢
    rw [vrings] at completes
    rw [finish_fe, finish_out]
    exact completes
  · intro k other
    have same := ringAt_answerCmd_other v r.data key other
    unfold ringAt at same ⊢
    rw [finish_fe, same, vrings]
  · rw [finish_fe, answerCmd_others v r.data key, vstore]

/-- What `OnlyCmd` says of an ended command, by what its effect did. -/
theorem Ended.onlyCmd {s : State} {u t f : Dev} {x : Ctx} {r : Ret} {l : List Nat} (ended : Ended s.dev u t x r)
    (rest : SameButAnswer f t) (regs : SameRegsBut l s.dev u) : OnlyCmd l s { s with dev := t } x f := by
  refine ⟨⟨rfl, rest, ?_⟩, ended.rings, ended.others⟩
  intro o others shc
  rw [withDev_dev, ended.regs o (fun report => others (List.mem_append_right _ report)) shc]
  exact regs o (fun named => others (List.mem_append_left _ named)) shc

section
variable {s : State} {op : Nat} {c : Cmd} {x : Ctx} {sp : CmdSpec} {f : Ctx → Dev → Dev × CmdRes} {u : Dev}

theorem stored_of_admits {s : Dev} (admits : Admits s op c x) : x.origin ≤ 2 → (storeAt s x.key).isSome = true := by
  obtain ⟨context, -⟩ := admits
  exact stored_of_ctxOf context

/-- An admitted command that is done ends, with its entry in the log where it is one of those that have one (R436). -/
theorem command_ends {r : Ret} (row : specOf op = some sp) (admits : Admits s.dev op c x) (single : op ≠ 0x12)
    (ran : f x s.dev = (u, .done r)) (free : u.blocked = []) (store : u.fe.store = s.dev.fe.store) (rings : u.fe.rings = s.dev.fe.rings) :
    Ended s.dev u (finish (command op c s.dev f)) x r := by
  obtain ⟨runs, head, ring⟩ := command_of_admits row admits f
  have notStep : (sp.op == 0x12) = false := by simpa [specOf_op row] using single
  obtain ⟨v, logged, ends⟩ : ∃ v, OnlyLogAnd [] u v ∧ endCmd u sp x r = answerCmd v x (cplOf x r) r.data := by
    simp only [endCmd, notStep, Bool.or_false]
    split
    · exact ⟨_, (onlyLog_logAdd _ _ _ _ _ _ _ _ _).and _, rfl⟩
    · exact ⟨_, (OnlyLog.refl u).and _, rfl⟩
  have unblocked : (answerCmd v x (cplOf x r) r.data).blocked = [] := by rw [answerCmd_rest v r.data (cplOf_key x r), logged.rest, free]
  have whole : command op c s.dev f = answerCmd v x (cplOf x r) r.data := by
    rw [runs, runCmd, whole_of_unblocked]
    all_goals simp only [head, ring, ran, ends, unblocked, ne_eq, not_true_eq_false, if_false]
  rw [whole]
  exact ended_answerCmd r store rings (stored_of_admits admits) logged

/-- What is in the store keeps its key and its entry when a phase is set. -/
theorem begins_setPhase {s : Dev} {x : Ctx} {e : StoreEntry} (found : storeAt s x.key = some e) (entry : e.entry = x.e) :
    Begins (setPhase s x.key 1) x := by
  obtain ⟨member, key⟩ := storeAt_some found
  refine ⟨{ e with phase := 1 }, ?_, key, entry, rfl⟩
  refine List.mem_map.mpr ⟨e, member, ?_⟩
  simp only [key, if_true]

/-- A ring's command stands in the store under its key. -/
theorem entry_of_ctxOf {s : Dev} (context : ctxOf op c s = some x) (ring : x.origin ≤ 2) : ∃ e, storeAt s x.key = some e ∧ e.entry = x.e := by
  unfold ctxOf at context
  split at context
  · next outside =>
    dsimp only at context
    split at context
    · obtain rfl := Option.some.inj context
      dsimp only at ring
      omega
    · cases context
  · dsimp only at context
    split at context
    · cases context
    · next e found =>
      split at context
      · obtain rfl := Option.some.inj context
        exact ⟨e, found, rfl⟩
      · cases context

/-- A command of the sideband or the tunnel has its bus in its key (R431). -/
theorem key_of_ctxOf {s : Dev} (context : ctxOf op c s = some x) (outside : ¬ x.origin ≤ 2) : x.key = cmdKey (37 - x.origin) x.bus 0 := by
  unfold ctxOf at context
  split at context
  · dsimp only at context
    split at context
    · obtain rfl := Option.some.inj context
      rfl
    · cases context
  · dsimp only at context
    split at context
    · cases context
    · split at context
      · obtain rfl := Option.some.inj context
        dsimp only at outside
        split at outside
        · omega
        · omega
      · cases context

theorem beginCmd_rest (u : Dev) (x : Ctx) : beginCmd u x = { u with fe := { u.fe with store := (beginCmd u x).fe.store } } := by
  unfold beginCmd
  split
  · rfl
  · rfl

theorem begins_beginCmd {s u : Dev} (context : ctxOf op c s = some x) (store : u.fe.store = s.fe.store) : Begins (beginCmd u x) x := by
  unfold beginCmd
  split
  · next ring =>
    obtain ⟨e, found, entry⟩ := entry_of_ctxOf context ring
    refine begins_setPhase (e := e) ?_ entry
    unfold storeAt at found ⊢
    rw [store]
    exact found
  · next outside => exact ⟨_, List.mem_append_right _ (List.mem_singleton_self _), (key_of_ctxOf context outside).symm, rfl, rfl⟩

theorem others_beginCmd {s u : Dev} (context : ctxOf op c s = some x) (store : u.fe.store = s.fe.store) :
    (beginCmd u x).fe.store.filter (fun e => cmdKey e.inst e.ring e.pos != x.key) = s.fe.store.filter (fun e => cmdKey e.inst e.ring e.pos != x.key) := by
  rw [← store]
  unfold beginCmd
  split
  · exact filter_store_setPhase u x.key 1
  · next outside =>
    have own := key_of_ctxOf context outside
    simp [own]

/-- An admitted command that goes on later has begun (R291). -/
theorem command_begins (row : specOf op = some sp) (admits : Admits s.dev op c x)
    (ran : f x s.dev = (u, .later)) (free : u.blocked = []) (store : u.fe.store = s.dev.fe.store) (rings : u.fe.rings = s.dev.fe.rings) :
    Begun s.dev u (finish (command op c s.dev f)) x := by
  obtain ⟨runs, head, ring⟩ := command_of_admits row admits f
  obtain ⟨context, -⟩ := admits
  have unblocked : (beginCmd u x).blocked = [] := by rw [beginCmd_rest, free]
  have whole : command op c s.dev f = beginCmd u x := by
    rw [runs, runCmd, whole_of_unblocked]
    all_goals simp only [head, ring, ran, unblocked, ne_eq, not_true_eq_false, if_false]
  rw [whole]
  refine ⟨?_, sameMem_finish ?_, ?_, ?_, ?_, ?_⟩
  · obtain ⟨dram, regs, closed⟩ := finish_rest (beginCmd u x)
    rw [closed, beginCmd_rest]
    exact ⟨_, _, _, rfl⟩
  · rw [beginCmd_rest]
  · intro o _ shc
    rw [regRead_finish _ _ shc, beginCmd_rest]
    rfl
  · exact begins_beginCmd context store
  · intro k _
    unfold ringAt
    rw [finish_fe, beginCmd_rest, rings]
  · rw [finish_fe]
    exact others_beginCmd context store

end

/-- What `OnlyCmd` says of a begun command, by what its effect did. -/
theorem Begun.onlyCmd {s : State} {u t f : Dev} {x : Ctx} {l : List Nat} (begun : Begun s.dev u t x)
    (rest : SameButAnswer f t) (regs : SameRegsBut l s.dev u) : OnlyCmd l s { s with dev := t } x f := by
  refine ⟨⟨rfl, rest, ?_⟩, begun.rings, begun.others⟩
  intro o others shc
  rw [withDev_dev, begun.regs o (by simp) shc]
  exact regs o (fun named => others (List.mem_append_left _ named)) shc

/-- Checks that all pass. -/
theorem afterChecks_pass {s : Dev} {l : List (Bool × Nat)} (pass : ∀ p ∈ l, p.1 = false) (k : Dev × CmdRes) : afterChecks s l k = k := by
  have none : firstCode l = 0 := by
    induction l with
    | nil => rfl
    | cons p l ih =>
      obtain ⟨b, code⟩ := p
      have clear : b = false := pass (b, code) (List.mem_cons_self ..)
      subst clear
      exact ih (fun q later => pass q (List.mem_cons_of_mem _ later))
  unfold afterChecks
  rw [none]
  rfl

end Sys2Proof.Machine
end

section
/-!
The obligation on rejected commands (R293).
-/
namespace Sys2Proof.Machine

/-- A row's command runs through `command` with the row's opcode, and nothing beside. -/
def RunsCommand (mk : Cmd → Instr) (op : Nat) : Prop :=
  ∀ (c : Cmd) (s : State), ∃ f, exec (mk c) s = .next { s with dev := finish (command op c s.dev f) }

/-- The rows of which the obligation speaks run so. -/
theorem runsCommand_of_row :
    ∀ row ∈ cmdRows.filter (fun r => !([0x43, 0x72, 0x76, 0x78, 0x91, 0x92, 0x93, 0x94, 0x98].contains r.2)), RunsCommand row.1 row.2 := by
  simp only [List.contains_eq_mem, List.mem_cons, List.not_mem_nil, or_false, Bool.decide_or, Bool.not_or, cmdRows, List.cons_append, List.nil_append,
    OfNat.one_ne_ofNat, decide_false, Bool.not_false, Bool.and_self, List.filter_cons_of_pos, Nat.reduceEqDiff, decide_true, Bool.not_true,
    Bool.and_true, Bool.false_eq_true, not_false_eq_true, List.filter_cons_of_neg, Bool.and_false, Nat.succ_ne_self, List.filter_nil,
    forall_eq_or_imp, forall_eq]
  and_intros
  all_goals exact fun c s => ⟨_, rfl⟩

/-- A rejection, with whichever code, counts and is answered (R293). -/
theorem rejectCmd_counts (s : Dev) (x : Ctx) (inst code : Nat) :
    ∃ u, OnlyLogAnd [Reg.SES_CNT_REJECTS, Reg.LOG_CNT_AUTH_FAILS] s u ∧ regRead u Reg.SES_CNT_REJECTS = (regRead s Reg.SES_CNT_REJECTS + 1) % 2 ^ 64
      ∧ rejectCmd s x inst code = answerCmd u x (cplOf x { Ret.ok with status := code }) [] := by
  obtain ⟨v, counted, rejects, shape⟩ : ∃ v, OnlyLogAnd [Reg.SES_CNT_REJECTS, Reg.LOG_CNT_AUTH_FAILS] s v
      ∧ regRead v Reg.SES_CNT_REJECTS = (regRead s Reg.SES_CNT_REJECTS + 1) % 2 ^ 64
      ∧ v = if code = eAuth ∧ x.origin = 4 then bump (bump s Reg.SES_CNT_REJECTS) Reg.LOG_CNT_AUTH_FAILS else bump s Reg.SES_CNT_REJECTS := by
    have first : OnlyLogAnd [Reg.SES_CNT_REJECTS, Reg.LOG_CNT_AUTH_FAILS] s (bump s Reg.SES_CNT_REJECTS) := onlyLogAnd_regWrite s _ (by simp)
    have count := regRead_bump_same s Reg.SES_CNT_REJECTS
    split
    · refine ⟨_, first.trans (onlyLogAnd_regWrite _ _ (by simp)), ?_, rfl⟩
      exact (regRead_bump_other _ _ _ (by decide)).trans count
    · exact ⟨_, first, count, rfl⟩
  have apart : ¬ isLogReg Reg.SES_CNT_REJECTS := by
    rw [← mem_logRegs]
    decide
  unfold rejectCmd
  dsimp only
  rw [← shape]
  split
  · exact ⟨v, counted, rejects, rfl⟩
  · have entered := onlyLog_logAdd v x.origin (originId x) code 2
      (entryOp x.e + 2 ^ 16 * (x.ring % 2 ^ 16) + 2 ^ 32 * (x.pos % 2 ^ 32)) inst (eb x.e 16 40)
      (eb x.e 56 8 + 2 ^ 64 * bitsOf (ofLe (cplBody (cplOf x { Ret.ok with status := code }))) 64 176)
    exact ⟨_, counted.trans (entered.and _), (entered.regs _ apart).trans rejects, rfl⟩

/-- A command that can run now runs as a command of its opcode, and is checked. -/
theorem command_of_served {s : Dev} {op : Nat} {c : Cmd} {x : Ctx} {sp : CmdSpec} (row : specOf op = some sp) (context : ctxOf op c s = some x)
    (served : Served s op x) (f : Ctx → Dev → Dev × CmdRes) : command op c s f = runCmd s sp x f := by
  unfold command
  simp only [row, context]
  unfold Served at served
  by_cases side : x.origin = 4
  · rw [if_pos side] at served
    obtain ⟨bus, runs, normal, alone⟩ := served
    have free : s.fe.store.any (fun e => e.inst == 33) = false := by simpa using alone
    simp [side, runSideband, bus, free, specOf_op row, runs, normal]
  · rw [if_neg side] at served
    obtain ⟨ready, fresh⟩ := served
    have unbegun : (storeAt s x.key).any (fun e => e.phase == 1) = false := by
      rw [Option.any_eq_false]
      intro e found
      obtain ⟨stored, key⟩ := storeAt_some found
      simpa using fresh e stored key
    simp [side, ready, unbegun]

/-- A command that fails a check of its head, or of its ring, is rejected with the check's code. -/
theorem runCmd_rejects {s : Dev} {sp : CmdSpec} {x : Ctx} {code : Nat} (f : Ctx → Dev → Dev × CmdRes) (free : s.blocked = [])
    (fails : code = if headCode s sp x ≠ 0 then headCode s sp x else ringCode s sp x) (bad : code ≠ 0) :
    runCmd s sp x f = rejectCmd s x (affected sp x) code := by
  obtain ⟨u, counted, -, rejected⟩ := rejectCmd_counts s x (affected sp x) code
  have unblocked : (rejectCmd s x (affected sp x) code).blocked = [] := by
    rw [rejected, answerCmd_rest u [] (cplOf_key x _), counted.rest, free]
  by_cases head : headCode s sp x = 0
  · rw [if_neg (by simp [head])] at fails
    subst fails
    rw [runCmd, whole_of_unblocked]
    all_goals simp only [head, bad, unblocked, ne_eq, not_true_eq_false, not_false_eq_true, if_false, if_true]
  · rw [if_pos head] at fails
    subst fails
    rw [runCmd, whole_of_unblocked]
    all_goals simp only [bad, unblocked, ne_eq, not_false_eq_true, if_true]

/-- Settles O35: each of the rows runs through `command`, which checks, counts, enters and answers. -/
theorem commandRejections : Obligations.CommandRejections := by
  unfold Obligations.CommandRejections
  intro s c x sp mk op code row context free served _ spec fails bad
  obtain ⟨f, runs⟩ := runsCommand_of_row _ row c s
  obtain ⟨u, counted, rejects, rejected⟩ := rejectCmd_counts s.dev x (affected sp x) code
  obtain ⟨mem, completes, only⟩ := answered_leaves (x := x) { Ret.ok with status := code } counted (stored_of_ctxOf context)
  refine ⟨_, runs.trans ?_, mem, completes, ?_, only⟩
  · rw [command_of_served spec context served, runCmd_rejects f free fails bad, rejected]
    rfl
  · rw [withDev_dev, regRead_finish _ _ (by decide), answerCmd_rest u _ (cplOf_key x _)]
    exact rejects

end Sys2Proof.Machine
end

section
/-!
The obligation on lost channels, self-refresh and regulator windows (R246, R250, R457).
-/
namespace Sys2Proof.Machine

/-- A channel becomes a hole: its state and cause, the tier's count, and what was combined for it (R246). -/
def holeMarked (s : Dev) (id cause : Nat) : Dev :=
  let t := fset (fset s (chanSTATE id) 2) (chanCAUSE id) cause
  if id < 1024 then setPeak (fsat t RF.MEM_TIER_A_STATUS_HOLES 1) true else setPeak (fsat t RF.MEM_TIER_B_STATUS_HOLES 1) false

/-- The write-combining entries that stay when a channel becomes a hole. -/
def keptWcb (s : Dev) (id : Nat) : List WcbEntry := (wcbOf s id).filter (fun w => chanOf s (32 * w.sec) != some id)

/-- The registers of the tiers. -/
theorem sameRegsBut_setPeak (s : Dev) (a : Bool) : SameRegsBut [Reg.MEM_TIER_A_STATUS, Reg.MEM_TIER_B_STATUS] s (setPeak s a) := by
  intro o others _
  obtain ⟨tierA, tierB⟩ := ne_of_not_mem_pair others
  cases a with
  | true => exact regRead_fset_other _ _ _ _ tierA
  | false => exact regRead_fset_other _ _ _ _ tierB

theorem sameRegsBut_holeMarked (s : Dev) (id cause : Nat) :
    SameRegsBut [Reg.MEM_TIER_A_STATUS, Reg.MEM_TIER_B_STATUS] (fset (fset s (chanSTATE id) 2) (chanCAUSE id) cause) (holeMarked s id cause) := by
  intro o others shc
  obtain ⟨tierA, tierB⟩ := ne_of_not_mem_pair others
  unfold holeMarked fsat
  dsimp only
  split
  · exact (sameRegsBut_setPeak _ _ o others shc).trans (regRead_fset_other _ _ _ _ tierA)
  · exact (sameRegsBut_setPeak _ _ o others shc).trans (regRead_fset_other _ _ _ _ tierB)

/-- A channel's register after it has become a hole. -/
theorem regRead_holeMarked_own (s : Dev) {id : Nat} (known : id < 1152) (cause : Nat) :
    regRead (holeMarked s id cause) (chanReg id) = regRead (fset (fset s (chanSTATE id) 2) (chanCAUSE id) cause) (chanReg id) := by
  have range := (chanReg_range known).1
  have a : Reg.MEM_TIER_A_STATUS < 0x161000 := by decide
  have b : Reg.MEM_TIER_B_STATUS < 0x161000 := by decide
  have shc : Reg.SHC_STATUS < 0x161000 := by decide
  refine sameRegsBut_holeMarked s id cause _ ?_ ?_
  · simp only [List.mem_cons, List.not_mem_nil, or_false, not_or]
    exact ⟨by omega, by omega⟩
  · omega

theorem fget_holeMarked (s : Dev) {id : Nat} (known : id < 1152) {cause : Nat} (code : cause < 4) :
    fget (holeMarked s id cause) (chanSTATE id) = 2 ∧ fget (holeMarked s id cause) (chanCAUSE id) = cause := by
  have own := regRead_holeMarked_own s known cause
  refine ⟨?_, ?_⟩
  · refine (congrArg (fun v => bitsOf v 0 2) own).trans ?_
    refine (fget_fset_bits _ (chanCAUSE id) (chanSTATE id) _ rfl (by show 0 + 2 ≤ 64; omega) (.inl (by show 0 + 2 ≤ 2; omega))).trans ?_
    exact fget_fset_same _ _ _ (by show 0 + 2 ≤ 64; omega)
  · refine (congrArg (fun v => bitsOf v 2 2) own).trans ?_
    exact (fget_fset_same _ _ _ (by show 2 + 2 ≤ 64; omega)).trans (Nat.mod_eq_of_lt code)

theorem holeMarked_shape (s : Dev) (id cause : Nat) : ∃ regs, holeMarked s id cause = { s with regs := regs } := by
  unfold holeMarked
  dsimp only
  split
  · exact ⟨_, rfl⟩
  · exact ⟨_, rfl⟩

theorem sameRegsBut_chan (s : Dev) (id cause : Nat) :
    SameRegsBut [chanReg id, Reg.MEM_TIER_A_STATUS, Reg.MEM_TIER_B_STATUS] s (holeMarked s id cause) := by
  intro o others shc
  rw [List.mem_cons, not_or] at others
  obtain ⟨other, tiers⟩ := others
  rw [sameRegsBut_holeMarked s id cause o tiers shc, regRead_fset_other _ _ _ _ other, regRead_fset_other _ _ _ _ other]

/-- The channel of an address follows from the lists and the capacities. -/
theorem chanOf_congr {s t : Dev} (mem : t.mem = s.mem) (a : capA t = capA s) (b : capB t = capB s) (pa : Nat) : chanOf t pa = chanOf s pa := by
  unfold chanOf inA inB
  rw [mem, a, b]

/-- A hole leaves the addresses of the channels. -/
theorem chanOf_holeMarked (s : Dev) {id : Nat} (known : id < 1152) (cause pa : Nat) : chanOf (holeMarked s id cause) pa = chanOf s pa := by
  have mem : (holeMarked s id cause).mem = s.mem := by
    obtain ⟨regs, shape⟩ := holeMarked_shape s id cause
    rw [shape]
  have low : ∀ o, o < 0x161000 → o ∉ [Reg.MEM_TIER_A_STATUS, Reg.MEM_TIER_B_STATUS] → o ≠ Reg.SHC_STATUS →
      regRead (holeMarked s id cause) o = regRead s o := by
    intro o below apart shc
    exact sameRegsBut_chan s id cause o (List.not_mem_cons_of_ne_of_not_mem (ne_chanReg known below) apart) shc
  refine chanOf_congr mem ?_ ?_ pa
  · exact congrArg (fun v => bitsOf v 0 42) (low Reg.MEM_TIER_A_CAP (by decide) (by decide) (by decide))
  · exact congrArg (fun v => bitsOf v 0 42) (low Reg.MEM_TIER_B_CAP (by decide) (by decide) (by decide))

/-- A module of which a die combines other writes. -/
def withWcb (s : Dev) (id : Nat) (l : List WcbEntry) : Dev := { s with mem := { s.mem with wcb := tset s.mem.wcb (dieOf id) l } }

/-- A mapped channel becomes a hole, and the change is entered in the log (R246, R436). -/
theorem makeHole_mapped {s : Dev} {id : Nat} (known : id < 1152) (mapped : fget s (chanSTATE id) = 0) (cause : Nat) :
    ∃ old cap, makeHole s id cause = logChannel (withWcb (holeMarked s id cause) id (keptWcb s id)) id old cap := by
  have kept : (tgetD (holeMarked s id cause).mem.wcb (dieOf id) []).filter (fun w => chanOf (holeMarked s id cause) (32 * w.sec) != some id)
      = keptWcb s id := by
    obtain ⟨regs, shape⟩ := holeMarked_shape s id cause
    simp only [chanOf_holeMarked s known]
    rw [shape]
    rfl
  have marked : makeHole s id cause
      = logChannel (withWcb (holeMarked s id cause) id
          ((tgetD (holeMarked s id cause).mem.wcb (dieOf id) []).filter (fun w => chanOf (holeMarked s id cause) (32 * w.sec) != some id)))
        id (regRead s (chanReg id)) (if id < 1024 then capA s else capB s) := by
    unfold makeHole
    rw [if_neg (by simp [mapped])]
    rfl
  exact ⟨_, _, marked.trans (by rw [kept])⟩

/-- A regulator at the end of a window of a group (R250, R251). -/
def windowEnd (group k : Nat) (r : Regulator) : Regulator :=
  if k / 34 = group then
    (match r.next with
     | some (w, c) => { weight := w, cap := c, used := 0, next := none }
     | none => { r with used := 0 })
  else r

/-- A module after the end of a window. -/
def regulated (s : Dev) (group : Nat) : Dev := { s with mem := { s.mem with regul := tmap s.mem.regul (windowEnd group) } }

/-- LAYER_LOSS of a mapped channel (R246). -/
theorem exec_layerLoss {s : State} {id : Nat} (channels : channelsKnown s.dev) (listed : id ∈ s.dev.mem.listA ++ s.dev.mem.listB)
    (mapped : fget s.dev (chanSTATE id) = 0) :
    ∃ t, exec (.layerLoss id) s = .next t ∧ SameMem s.dev t.dev ∧ fget t.dev (chanSTATE id) = 2 ∧ fget t.dev (chanCAUSE id) = 3
      ∧ (∀ w ∈ wcbOf t.dev id, w ∈ wcbOf s.dev id ∧ chanOf s.dev (32 * w.sec) ≠ some id)
      ∧ OnlyIn ([chanReg id, Reg.MEM_TIER_A_STATUS, Reg.MEM_TIER_B_STATUS] ++ logRegs) s t
          { s.dev with mem := { s.dev.mem with wcb := t.dev.mem.wcb }, log := t.dev.log, flash := t.dev.flash } := by
  have known : id < 1152 := channels _ listed
  obtain ⟨old, cap, made⟩ := makeHole_mapped known mapped 3
  have ran : exec (.layerLoss id) s = .next { s with dev := finish (makeHole s.dev id 3) } := by
    show execLayerLoss id s = _
    unfold execLayerLoss
    rw [perform_eq]
    simp only [List.contains_eq_mem, listed, decide_true, if_true]
  have entered : OnlyLog (withWcb (holeMarked s.dev id 3) id (keptWcb s.dev id)) (makeHole s.dev id 3) := by
    rw [made]
    exact onlyLog_logAdd _ _ _ _ _ _ _ _ _
  have own : ¬ isLogReg (chanReg id) := by
    rw [← mem_logRegs]
    have above : ∀ o ∈ logRegs, 0x1E0000 ≤ o := by decide
    have range := (chanReg_range known).2
    intro report
    have := above _ report
    omega
  obtain ⟨state, code⟩ := fget_holeMarked s.dev known (cause := 3) (by omega)
  have marks := sameRegsBut_chan s.dev id 3
  obtain ⟨regs, shape⟩ := holeMarked_shape s.dev id 3
  have shc : chanReg id ≠ Reg.SHC_STATUS := (ne_chanReg known (by decide)).symm
  have ownReg : regRead (finish (makeHole s.dev id 3)) (chanReg id) = regRead (holeMarked s.dev id 3) (chanReg id) :=
    (regRead_finish _ _ shc).trans (entered.regs _ own)
  refine ⟨_, ran, sameMem_finish ?_, ?_, ?_, ?_, onlyIn_finish ?_ ?_⟩
  · rw [entered.rest, shape]
    rfl
  · exact (congrArg (fun v => bitsOf v 0 2) ownReg).trans state
  · exact (congrArg (fun v => bitsOf v 2 2) ownReg).trans code
  · intro w kept
    have stays : wcbOf (finish (makeHole s.dev id 3)) id = keptWcb s.dev id := by
      unfold wcbOf
      rw [finish_mem, entered.rest]
      exact tgetD_tset_same _ _ _ _
    rw [withDev_dev, stays] at kept
    obtain ⟨member, other⟩ := List.mem_filter.mp kept
    exact ⟨member, by simpa using other⟩
  · rw [entered.rest, shape]
    rfl
  · intro o others shc'
    have ⟨marked, report⟩ : o ∉ [chanReg id, Reg.MEM_TIER_A_STATUS, Reg.MEM_TIER_B_STATUS] ∧ o ∉ logRegs := by
      rw [← not_or, ← List.mem_append]
      exact others
    rw [entered.regs o (fun r => report (mem_logRegs.mpr r))]
    exact marks o marked shc'

/-- Settles O24: a lost channel's marks and log, the list of sleeping groups, and the regulators of one group. -/
theorem channelsAndRegulators : Obligations.ChannelsAndRegulators := by
  unfold Obligations.ChannelsAndRegulators
  intro s
  refine ⟨?_, ?_, ?_⟩
  · intro id channels listed mapped
    exact exec_layerLoss channels listed mapped
  · intro group below
    have ran : exec (.selfRefreshEntry group) s
        = .next { s with dev := finish { s.dev with mem := { s.dev.mem with asleep := insertNat group s.dev.mem.asleep } } } := by
      show execSelfRefreshEntry group s = _
      unfold execSelfRefreshEntry
      rw [perform_eq]
      simp only [Nat.not_le.mpr below, if_false]
    refine ⟨_, ran, sameMem_finish rfl, ?_, onlyIn_finish rfl (fun o _ _ => rfl)⟩
    exact fun g => mem_insertNat
  · intro group
    have ran : exec (.regulatorWindow group) s = .next { s with dev := finish (regulated s.dev group) } := rfl
    refine ⟨_, ran, sameMem_finish rfl, ?_, ?_, onlyIn_finish rfl (fun o _ _ => rfl)⟩
    · intro k r here own
      have moved := tget_tmap s.dev.mem.regul (windowEnd group) k
      rw [here] at moved
      refine moved.trans ?_
      simp only [Option.map_some, windowEnd, own, if_true]
      cases r.next with
      | none => rfl
      | some p => rfl
    · intro k other
      have moved := tget_tmap s.dev.mem.regul (windowEnd group) k
      have same : windowEnd group k = id := by
        funext r
        simp only [windowEnd, other, if_false, id]
      rw [same, Option.map_id] at moved
      exact moved

end Sys2Proof.Machine
end

section
/-!
SUPPORT. Numbers that a unit assigns: the lowest that is free.
-/
namespace Sys2Proof.Machine

theorem lowestFrom_eq {p : Nat → Bool} {k : Nat} (here : p k = true) (n i : Nat) (from' : i ≤ k) (within : k < i + n)
    (before : ∀ m, i ≤ m → m < k → p m = false) : lowestFrom p n i = some k := by
  induction n generalizing i with
  | zero => omega
  | succ n ih =>
    unfold lowestFrom
    by_cases own : i = k
    · subst own
      rw [if_pos here]
    · have earlier := before i le_rfl (by omega)
      rw [earlier]
      exact ih (i + 1) (by omega) (by omega) (fun m above below => before m (by omega) below)

/-- The lowest free number is the one before which all are taken. -/
theorem lowest_eq {p : Nat → Bool} {n k : Nat} (within : k < n) (here : p k = true) (before : ∀ m, m < k → p m = false) : lowest n p = some k :=
  lowestFrom_eq here n 0 (Nat.zero_le _) (by omega) (fun m _ below => before m below)

/-- The lowest number that a table has no entry for. -/
theorem lowest_free {V : Type} {t : List (Nat × V)} {n k : Nat} (within : k < n) (free : ∀ m, m ≤ k → (tget t m = none ↔ m = k)) :
    lowest n (fun m => !thas t m) = some k := by
  refine lowest_eq within ?_ ?_
  · unfold thas
    rw [(free k le_rfl).mpr rfl]
    rfl
  · intro m below
    have taken : tget t m ≠ none := fun none => absurd ((free m below.le).mp none) below.ne
    unfold thas
    rw [Option.isSome_iff_ne_none.mpr taken]
    rfl

/-- A write of a field changes its register. -/
theorem sameRegsBut_fset (s : Dev) (f : Fld) (v : Nat) : SameRegsBut [f.off] s (fset s f v) :=
  fun _ others _ => regRead_fset_other _ _ _ _ (List.ne_of_not_mem_cons others)

/-- A register that a command's end leaves: none of the log's, nor SHC_STATUS. -/
theorem Ended.fget {s u t : Dev} {x : Ctx} {r : Ret} (ended : Ended s u t x r) {f : Fld} (low : f.off < 0x1E0000) (shc : f.off ≠ 0x150000) :
    fget t f = Machine.fget u f := by
  have above : ∀ o ∈ logRegs, 0x1E0000 ≤ o := by decide
  exact congrArg (fun v => bitsOf v f.lo f.width) (ended.regs f.off (fun report => absurd (above _ report) (by omega)) shc)

/-- What the answer to a command leaves of its effect. -/
theorem SameButAnswer.literal {u t : Dev} (same : SameButAnswer u t) :
    ∃ store rings out log rom dram regs, t = { u with fe := { u.fe with store := store, rings := rings }, out := out, log := log,
                                                       flash := { u.flash with romLog := rom }, dram := dram, regs := regs, blocked := [] } :=
  ⟨_, _, _, _, _, _, _, same⟩

end Sys2Proof.Machine
end

section
/-!
The obligation on bindings and classes (R297, R299, R312).
-/
namespace Sys2Proof.Machine

/-! ### Bindings -/

/-- The binding that BIND_CREATE names (R297). -/
def namedBinding (x : Ctx) : Binding :=
  { inst := x.inst, prog := eb x.e 16 8, args := eb x.e 24 8, islands := eb x.e 32 8,
    shape := ⟨eb x.e 40 4, eb x.e 48 1, eb x.e 44 2, eb x.e 49 1, 1024 * eb x.e 46 2⟩, frames := eb x.e 50 1,
    maxBatch := eb x.e 52 2, perIsland := eb x.e 54 2, inBytes := eb x.e 56 4, outBytes := eb x.e 60 4 }

/-- A module whose bindings are others, shown in the quota of an instance. -/
def withBindings (s : Dev) (inst : Nat) (l : List (Nat × Binding)) : Dev := showBindings { s with fe := { s.fe with bindings := l } } inst

theorem withBindings_shape (s : Dev) (inst : Nat) (l : List (Nat × Binding)) :
    ∃ regs, withBindings s inst l = { s with regs := regs, fe := { s.fe with bindings := l } } := ⟨_, rfl⟩

theorem sameRegsBut_withBindings (s : Dev) (inst : Nat) (l : List (Nat × Binding)) : SameRegsBut [Reg.INS_QUOTA inst] s (withBindings s inst l) :=
  sameRegsBut_fset _ (RF.INS_QUOTA_BINDINGS_USED inst) _

theorem fget_withBindings (s : Dev) (inst : Nat) (l : List (Nat × Binding)) :
    fget (withBindings s inst l) (RF.INS_QUOTA_BINDINGS_USED inst) = (l.filter (fun p => p.2.inst == inst)).length % 2 ^ 13 :=
  fget_fset_same _ _ _ (by show 16 + 13 ≤ 64; omega)

/-- What ends of a command that changed the bindings, beside its answer. -/
theorem bindings_ended {s : State} {x : Ctx} {l : List (Nat × Binding)} {t : Dev} {r : Ret} (named : x.inst ≤ 32)
    (ended : Ended s.dev (withBindings s.dev x.inst l) t x r) :
    SameMem s.dev t ∧ t.fe.bindings = l
      ∧ fget t (RF.INS_QUOTA_BINDINGS_USED x.inst) = (t.fe.bindings.filter (fun p => p.2.inst == x.inst)).length % 2 ^ 13
      ∧ OnlyCmd [Reg.INS_QUOTA x.inst] s { s with dev := t } x { s.dev with fe := { s.dev.fe with bindings := t.fe.bindings } } := by
  have mem : SameMem s.dev t := (sameMem_of_dram rfl).trans ended.mem
  have same := sameRegsBut_withBindings s.dev x.inst l
  have used := fget_withBindings s.dev x.inst l
  have shown := ended.fget (f := RF.INS_QUOTA_BINDINGS_USED x.inst) (by show 0x1B0000 + 64 * x.inst + 0x18 < 0x1E0000; omega)
    (by show 0x1B0000 + 64 * x.inst + 0x18 ≠ 0x150000; omega)
  have bindings : t.fe.bindings = l := by
    rw [ended.shape]
    rfl
  refine ⟨mem, bindings, ?_, ended.onlyCmd ?_ (fun o others => same o (fun own => others (by simpa using own)))⟩
  · rw [shown, used, bindings]
  · obtain ⟨regs, shape⟩ := withBindings_shape s.dev x.inst l
    have rest := ended.shape
    rw [shape] at rest
    rw [bindings]
    exact rest

/-- BIND_CREATE's own effect where its checks pass (R297). -/
theorem bindCreate_ends {s : State} {c : Cmd} {x : Ctx} {n : Nat} (admits : Admits s.dev 0x18 c x)
    (shape : shapeOk (eb x.e 40 4) (eb x.e 48 1) (eb x.e 44 2) (eb x.e 49 1) (1024 * eb x.e 46 2) = true)
    (islands : islandsOk s.dev x.inst (eb x.e 32 8) = true) (frames : 1 ≤ eb x.e 50 1 ∧ eb x.e 50 1 ≤ 16)
    (batch : 1 ≤ eb x.e 52 2 ∧ eb x.e 52 2 ≤ 512) (each : 1 ≤ eb x.e 54 2 ∧ eb x.e 54 2 ≤ 512)
    (bytes : ∀ o ∈ [56, 60], 32 ≤ eb x.e o 4 ∧ eb x.e o 4 ≤ 1048576 ∧ eb x.e o 4 % 32 = 0)
    (room : eb x.e 52 2 ≤ eb x.e 54 2 * popcount 44 (eb x.e 32 8)) (prog : eb x.e 16 8 % 8 = 0) (args : eb x.e 24 8 % 64 = 0)
    (present : namesLost s.dev (eb x.e 32 8) = false) (below : n < 4096) (free : ∀ m, m ≤ n → (bindAt s.dev m = none ↔ m = n))
    (quota : fget s.dev (RF.INS_QUOTA_BINDINGS_USED x.inst) < fget s.dev (RF.INS_QUOTA_MAX_BINDINGS x.inst)) :
    ∃ t, exec (.bindCreate c) s = .next { s with dev := t }
      ∧ Ended s.dev (withBindings s.dev x.inst (tset s.dev.fe.bindings n (namedBinding x))) t x { Ret.ok with r0 := n } := by
  obtain ⟨inMin, inMax, inUnit⟩ := bytes 56 (by simp)
  obtain ⟨outMin, outMax, outUnit⟩ := bytes 60 (by simp)
  have first : lowest 4096 (fun k => !thas s.dev.fe.bindings k) = some n := lowest_free below free
  have unblocked : s.dev.blocked = [] := by
    obtain ⟨-, free, -⟩ := admits
    exact free
  refine ⟨_, rfl, command_ends rfl admits (by decide) ?_ unblocked rfl rfl⟩
  dsimp only
  rw [first]
  refine (afterChecks_pass ?_ _).trans rfl
  simp only [List.forall_mem_cons, List.not_mem_nil, false_implies, implies_true, and_true]
  refine ⟨?_, ?_, present, ?_⟩
  · simp [shape, islands, frames, batch, each, inMin, inMax, inUnit, outMin, outMax, outUnit, room, Nat.not_lt.mpr]
  · simp [prog, args]
  · simpa using quota

/-- BIND_DESTROY's own effect where its checks pass (R299). -/
theorem bindDestroy_ends {s : State} {c : Cmd} {x : Ctx} {b : Binding} (admits : Admits s.dev 0x19 c x)
    (here : bindAt s.dev (eb x.e 16 2) = some b) (own : b.inst = x.inst)
    (unused : ∀ p ∈ s.dev.fe.sessions, p.2.binding = eb x.e 16 2 → p.2.state = .opened) :
    ∃ t, exec (.bindDestroy c) s = .next { s with dev := t }
      ∧ Ended s.dev (withBindings s.dev x.inst (tdel s.dev.fe.bindings (eb x.e 16 2))) t x Ret.ok := by
  have unblocked : s.dev.blocked = [] := by
    obtain ⟨-, free, -⟩ := admits
    exact free
  refine ⟨_, rfl, command_ends rfl admits (by decide) ?_ unblocked rfl rfl⟩
  dsimp only
  rw [here]
  refine (afterChecks_pass ?_ _).trans rfl
  simp only [List.forall_mem_cons, List.not_mem_nil, false_implies, implies_true, and_true]
  refine ⟨by simp [own], ?_⟩
  rw [List.any_eq_false]
  intro p member
  simpa using unused p member

/-! ### Classes -/

/-- The limits of a class as SET_CLASS sets them, its cadence with them (R312). -/
def withClass (s : Dev) (k lo hi target : Nat) : Dev :=
  fset (fset (fset (fset s (RF.SES_CLASS_CFG_CAD_MIN_US k) lo) (RF.SES_CLASS_CFG_CAD_MAX_US k) hi) (RF.SES_CLASS_CFG_TARGET_US k) target)
    (RF.SES_CLASS_CFG_CADENCE_US k) lo

theorem withClass_shape (s : Dev) (k lo hi target : Nat) : ∃ regs, withClass s k lo hi target = { s with regs := regs } := ⟨_, rfl⟩

theorem sameRegsBut_withClass (s : Dev) (k lo hi target : Nat) : SameRegsBut [Reg.SES_CLASS_CFG k] s (withClass s k lo hi target) := by
  intro o others _
  have apart : o ≠ Reg.SES_CLASS_CFG k := List.ne_of_not_mem_cons others
  unfold withClass
  rw [regRead_fset_other _ _ _ _ apart, regRead_fset_other _ _ _ _ apart, regRead_fset_other _ _ _ _ apart, regRead_fset_other _ _ _ _ apart]

/-- What SET_CLASS leaves in the class's register. -/
theorem fget_withClass (s : Dev) {k lo hi target : Nat} (low : lo < 65536) (high : hi < 65536) (aim : target < 65536) :
    fget (withClass s k lo hi target) (RF.SES_CLASS_CFG_CAD_MIN_US k) = lo ∧ fget (withClass s k lo hi target) (RF.SES_CLASS_CFG_CAD_MAX_US k) = hi
      ∧ fget (withClass s k lo hi target) (RF.SES_CLASS_CFG_TARGET_US k) = target
      ∧ fget (withClass s k lo hi target) (RF.SES_CLASS_CFG_CADENCE_US k) = lo := by
  unfold withClass
  refine ⟨?_, ?_, ?_, ?_⟩
  · rw [fget_fset_bits _ (RF.SES_CLASS_CFG_CADENCE_US k) (RF.SES_CLASS_CFG_CAD_MIN_US k) _ rfl (by show 0 + 16 ≤ 64; omega) (.inl (by show 0 + 16 ≤ 48; omega)),
      fget_fset_bits _ (RF.SES_CLASS_CFG_TARGET_US k) (RF.SES_CLASS_CFG_CAD_MIN_US k) _ rfl (by show 0 + 16 ≤ 64; omega) (.inl (by show 0 + 16 ≤ 32; omega)),
      fget_fset_bits _ (RF.SES_CLASS_CFG_CAD_MAX_US k) (RF.SES_CLASS_CFG_CAD_MIN_US k) _ rfl (by show 0 + 16 ≤ 64; omega) (.inl (by show 0 + 16 ≤ 16; omega)),
      fget_fset_same _ _ _ (by show 0 + 16 ≤ 64; omega)]
    exact Nat.mod_eq_of_lt low
  · rw [fget_fset_bits _ (RF.SES_CLASS_CFG_CADENCE_US k) (RF.SES_CLASS_CFG_CAD_MAX_US k) _ rfl (by show 16 + 16 ≤ 64; omega) (.inl (by show 16 + 16 ≤ 48; omega)),
      fget_fset_bits _ (RF.SES_CLASS_CFG_TARGET_US k) (RF.SES_CLASS_CFG_CAD_MAX_US k) _ rfl (by show 16 + 16 ≤ 64; omega) (.inl (by show 16 + 16 ≤ 32; omega)),
      fget_fset_same _ _ _ (by show 16 + 16 ≤ 64; omega)]
    exact Nat.mod_eq_of_lt high
  · rw [fget_fset_bits _ (RF.SES_CLASS_CFG_CADENCE_US k) (RF.SES_CLASS_CFG_TARGET_US k) _ rfl (by show 32 + 16 ≤ 64; omega) (.inl (by show 32 + 16 ≤ 48; omega)),
      fget_fset_same _ _ _ (by show 32 + 16 ≤ 64; omega)]
    exact Nat.mod_eq_of_lt aim
  · rw [fget_fset_same _ _ _ (by show 48 + 16 ≤ 64; omega)]
    exact Nat.mod_eq_of_lt low

/-- SET_CLASS's own effect where its checks pass (R312). -/
theorem setClass_ends {s : State} {c : Cmd} {x : Ctx} {k : Nat} (admits : Admits s.dev 0x22 c x) (named : eb x.e 16 1 = k) (known : k ≤ 7)
    (least : 500 ≤ eb x.e 20 4) (order : eb x.e 20 4 ≤ eb x.e 24 4) (most : eb x.e 24 4 ≤ 20000) (later : eb x.e 20 4 + 200 ≤ eb x.e 28 4)
    (fits : eb x.e 28 4 ≤ 65535) :
    ∃ t, exec (.setClass c) s = .next { s with dev := t } ∧ Ended s.dev (withClass s.dev k (eb x.e 20 4) (eb x.e 24 4) (eb x.e 28 4)) t x Ret.ok := by
  have unblocked : s.dev.blocked = [] := by
    obtain ⟨-, free, -⟩ := admits
    exact free
  refine ⟨_, rfl, command_ends rfl admits (by decide) ?_ unblocked rfl rfl⟩
  subst named
  refine (afterChecks_pass ?_ _).trans rfl
  simp only [List.forall_mem_cons, List.not_mem_nil, false_implies, implies_true, and_true]
  simp [known, least, order, most, later, fits, Nat.not_lt.mpr]

/-- Settles O30: the three commands' own effects, ended by their answers. -/
theorem bindingsAndClasses : Obligations.BindingsAndClasses := by
  unfold Obligations.BindingsAndClasses
  intro s c x
  refine ⟨?_, ?_, ?_⟩
  · intro n admits shape islands some few one atMost per within bytes room prog args present below free quota
    have ⟨_, _, named, _⟩ := admits
    obtain ⟨t, ran, ended⟩ := bindCreate_ends admits shape islands ⟨some, few⟩ ⟨one, atMost⟩ ⟨per, within⟩ bytes room prog args present below free quota
    obtain ⟨mem, bindings, used, only⟩ := bindings_ended named ended
    refine ⟨_, ran, mem, ended.completes, ?_, ?_, used, only⟩
    · rw [withDev_dev, bindAt, bindings]
      exact tget_tset_same _ _ _
    · intro m other
      rw [withDev_dev, bindAt, bindings]
      exact tget_tset_other _ _ _ _ other
  · intro b admits here own unused
    have ⟨_, _, named, _⟩ := admits
    obtain ⟨t, ran, ended⟩ := bindDestroy_ends admits here own unused
    obtain ⟨mem, bindings, -, only⟩ := bindings_ended named ended
    refine ⟨_, ran, mem, ended.completes, ?_, ?_, only⟩
    · rw [withDev_dev, bindAt, bindings]
      exact tget_tdel_same _ _
    · intro m other
      rw [withDev_dev, bindAt, bindings]
      exact tget_tdel_other _ _ _ other
  · intro k admits named known least order most later fits
    obtain ⟨t, ran, ended⟩ := setClass_ends admits named known least order most later fits
    have place : Reg.SES_CLASS_CFG k = 0x180100 + 32 * k := rfl
    have low : Reg.SES_CLASS_CFG k < 0x1E0000 := by omega
    have shc : Reg.SES_CLASS_CFG k ≠ 0x150000 := by omega
    obtain ⟨min, max, target, cadence⟩ := fget_withClass s.dev (k := k) (lo := eb x.e 20 4) (hi := eb x.e 24 4) (target := eb x.e 28 4) (by omega)
      (by omega) (by omega)
    have same := sameRegsBut_withClass s.dev k (eb x.e 20 4) (eb x.e 24 4) (eb x.e 28 4)
    have fields : ∀ f : Fld, f.off = Reg.SES_CLASS_CFG k → fget t f = fget (withClass s.dev k (eb x.e 20 4) (eb x.e 24 4) (eb x.e 28 4)) f :=
      fun f own => ended.fget (by rw [own]; exact low) (by rw [own]; exact shc)
    refine ⟨_, ran, (sameMem_of_dram rfl).trans ended.mem, ended.completes, (fields _ rfl).trans min, (fields _ rfl).trans max,
      (fields _ rfl).trans target, (fields _ rfl).trans cadence, ended.onlyCmd ?_ same⟩
    obtain ⟨regs, shape⟩ := withClass_shape s.dev k (eb x.e 20 4) (eb x.e 24 4) (eb x.e 28 4)
    have rest := ended.shape
    rw [shape] at rest
    exact rest

end Sys2Proof.Machine
end

section
/-!
SUPPORT. Home sets and the slices of lines (R214 to R217).
-/
namespace Sys2Proof.Machine

theorem mem_setBitsOf {n x j : Nat} : j ∈ setBitsOf n x ↔ j < n ∧ x.testBit j = true := by
  rw [setBitsOf, mem_bitList, Nat.sub_zero]
  simp

theorem length_bitList (n x i : Nat) : (bitList n x i).length = popcount n x := by
  induction n generalizing x i with
  | zero => rfl
  | succ n ih =>
    unfold bitList popcount
    rcases Nat.mod_two_eq_zero_or_one x with even | odd
    · simp [even, ih]
    · simp [odd, ih, Nat.add_comm]

theorem popcount_le (n x : Nat) : popcount n x ≤ n := by
  induction n generalizing x with
  | zero => exact le_rfl
  | succ n ih =>
    have rest := ih (x / 2)
    have bit := Nat.mod_lt x (y := 2) (by norm_num)
    unfold popcount
    omega

/-- A place in a list of islands is one of them. -/
theorem getD_lt {l : List Nat} {n : Nat} (all : ∀ i ∈ l, i < n) (positive : 0 < n) (i : Nat) : l.getD i 0 < n := by
  rw [List.getD_eq_getElem?_getD]
  cases found : l[i]? with
  | none => exact positive
  | some a => exact all a (List.mem_of_getElem? found)

theorem skipLost_lt (s : Dev) {l : List Nat} {n : Nat} (all : ∀ i ∈ l, i < n) (positive : 0 < n) (k i : Nat) : skipLost s l k i < n := by
  induction k generalizing i with
  | zero => exact getD_lt all positive _
  | succ k ih =>
    unfold skipLost
    split
    · exact ih _
    · exact getD_lt all positive _

theorem setMembers_lt (s : Dev) (h : Nat) : ∀ i ∈ setMembers s h, i < 44 := fun _ member => (mem_setBitsOf.mp member).1

/-- Every line has its slice in one of the 44 islands. -/
theorem sliceOf_lt (s : Dev) (k : Nat) : sliceOf s k < 44 := by
  have home : ∀ h l, homeUnder s h l < 44 := by
    intro h l
    unfold homeUnder
    dsimp only
    refine skipLost_lt s ?_ (by norm_num) _ _
    split
    · exact setMembers_lt s 0
    · exact setMembers_lt s h
  unfold sliceOf
  split
  · exact home _ _
  · exact home _ _

end Sys2Proof.Machine
end

section
/-!
SUPPORT. Lines that leave their slices, written back (R211, R217).
-/
namespace Sys2Proof.Machine

/-- The registers that show lines written back. -/
def homeRegs : List Nat := Reg.SHC_CNT_WRITEBACKS :: (List.range 44).map Reg.SHC_SLICE_STATUS

/-- Lines, the home map, queued writes and the registers of the slices may differ. -/
structure Rehomed (s t : Dev) : Prop where
  shape : ∃ regs lines homeMap writes, t = { s with regs := regs, shore := { s.shore with lines := lines, homeMap := homeMap },
                                                    mem := { s.mem with writes := writes } }
  regs : SameRegsBut homeRegs s t

theorem Rehomed.refl (s : Dev) : Rehomed s s := ⟨⟨_, _, _, _, rfl⟩, fun _ _ _ => rfl⟩

theorem Rehomed.trans {s t u : Dev} (h : Rehomed s t) (k : Rehomed t u) : Rehomed s u := by
  obtain ⟨regs, lines, homeMap, writes, rfl⟩ := h.shape
  obtain ⟨regs', lines', homeMap', writes', rfl⟩ := k.shape
  exact ⟨⟨_, _, _, _, rfl⟩, fun o others shc => (k.regs o others shc).trans (h.regs o others shc)⟩

theorem Rehomed.dir {s t : Dev} (h : Rehomed s t) : t.shore.dir = s.shore.dir := by
  obtain ⟨regs, lines, homeMap, writes, rfl⟩ := h.shape
  rfl

theorem sliceStatus_mem (s : Dev) (k : Nat) : Reg.SHC_SLICE_STATUS (sliceOf s k) ∈ homeRegs :=
  List.mem_cons_of_mem _ (List.mem_map.mpr ⟨_, List.mem_range.mpr (sliceOf_lt s k), rfl⟩)

theorem rehomed_cleanHomeLine (s : Dev) (k : Nat) (l : Line) : Rehomed s (cleanHomeLine s k l) := by
  unfold cleanHomeLine
  split
  · refine ⟨⟨_, _, _, _, rfl⟩, ?_⟩
    intro o others _
    have slice : o ≠ Reg.SHC_SLICE_STATUS (sliceOf s k) := fun same => others (same ▸ sliceStatus_mem s k)
    have count : o ≠ Reg.SHC_CNT_WRITEBACKS := List.ne_of_not_mem_cons others
    have first : regRead (fadj s (RF.SHC_SLICE_STATUS_DIRTY_LINES (sliceOf s k)) (-1)) o = regRead s o := regRead_fset_other _ _ _ _ slice
    exact (regRead_bump_other _ _ _ count).trans first
  · exact Rehomed.refl s

/-- A line that is written back changes at its own key alone. -/
theorem lineAt_cleanHomeLine_other (s : Dev) (k : Nat) (l : Line) {j : Nat} (other : j ≠ k) : lineAt (cleanHomeLine s k l) j = lineAt s j := by
  unfold cleanHomeLine
  split
  · exact tget_tset_other _ _ _ _ other
  · rfl

theorem homeMap_cleanHomeLine (s : Dev) (k : Nat) (l : Line) : (cleanHomeLine s k l).shore.homeMap = s.shore.homeMap := by
  unfold cleanHomeLine
  split
  · rfl
  · rfl

/-- One line is written back and leaves its slice. -/
def sendHome (s : Dev) (p : Nat × Line) : Dev := dropLine (cleanHomeLine s p.1 p.2) p.1

theorem rehomed_sendHome (s : Dev) (p : Nat × Line) : Rehomed s (sendHome s p) :=
  (rehomed_cleanHomeLine s p.1 p.2).trans ⟨⟨_, _, _, _, rfl⟩, fun _ _ _ => rfl⟩

theorem lineAt_sendHome (s : Dev) (p : Nat × Line) (k : Nat) : lineAt (sendHome s p) k = if k = p.1 then none else lineAt s k := by
  split
  · next own =>
    subst own
    exact tget_tdel_same _ _
  · next other => exact (tget_tdel_other _ _ _ other).trans (lineAt_cleanHomeLine_other s p.1 p.2 other)

/-- Lines are written back and leave their slices. -/
theorem sendHome_all (s : Dev) (l : List (Nat × Line)) :
    Rehomed s (l.foldl sendHome s) ∧ (l.foldl sendHome s).shore.homeMap = s.shore.homeMap
      ∧ ∀ k, lineAt (l.foldl sendHome s) k = if (∃ p ∈ l, p.1 = k) then none else lineAt s k := by
  induction l generalizing s with
  | nil => exact ⟨Rehomed.refl s, rfl, fun k => by simp⟩
  | cons p l ih =>
    obtain ⟨rehomed, homeMap, lines⟩ := ih (sendHome s p)
    refine ⟨(rehomed_sendHome s p).trans rehomed, homeMap.trans (homeMap_cleanHomeLine s p.1 p.2), ?_⟩
    intro k
    rw [List.foldl_cons, lines, lineAt_sendHome]
    by_cases later : ∃ q ∈ l, q.1 = k
    · have named : ∃ q ∈ p :: l, q.1 = k := by
        obtain ⟨q, member, key⟩ := later
        exact ⟨q, List.mem_cons_of_mem _ member, key⟩
      rw [if_pos later, if_pos named]
    · rw [if_neg later]
      by_cases own : k = p.1
      · rw [if_pos own, if_pos ⟨p, List.mem_cons_self .., own.symm⟩]
      · rw [if_neg own, if_neg]
        rintro ⟨q, member, key⟩
        rcases List.mem_cons.mp member with rfl | more
        · exact own key.symm
        · exact later ⟨q, more, key⟩

/-- The lines of a frame are written back and leave their slices. -/
theorem dropFrameLines_eq (s : Dev) (fr : Nat) : dropFrameLines s fr true = (s.shore.lines.filter (fun p => p.1 / 2 ^ 15 == fr)).foldl sendHome s := rfl

theorem lineAt_dropFrameLines (s : Dev) (fr k : Nat) : lineAt (dropFrameLines s fr true) k = if k / 2 ^ 15 = fr then none else lineAt s k := by
  obtain ⟨-, -, lines⟩ := sendHome_all s (s.shore.lines.filter (fun p => p.1 / 2 ^ 15 == fr))
  rw [dropFrameLines_eq, lines]
  split
  · next named =>
    obtain ⟨p, member, key⟩ := named
    have frame : p.1 / 2 ^ 15 = fr := by simpa using (List.mem_filter.mp member).2
    rw [if_pos (by rw [← key, frame])]
  · next unnamed =>
    split
    · next frame =>
      cases here : lineAt s k with
      | none => rfl
      | some l => exact absurd ⟨(k, l), List.mem_filter.mpr ⟨mem_of_tget here, by simpa using frame⟩, rfl⟩ unnamed
    · rfl

/-- Where no line of a frame is in the directory, no entry of it is freed (R224). -/
theorem freeEntries_none {s : Dev} {fr : Nat} (none : ∀ k ∈ tkeys s.shore.dir, k / 2 ^ 15 ≠ fr) : freeEntries s fr = s := by
  have empty : (tkeys s.shore.dir).filter (fun k => k / 2 ^ 15 == fr) = [] := by
    rw [List.filter_eq_nil_iff]
    exact fun k member => by simpa using none k member
  unfold freeEntries
  rw [empty]
  rfl

/-- Frames take on a home set (R217): their lines leave the slices, and every other frame and line is as before. -/
theorem rehome_all {s : Dev} {l : List Nat} (h : Nat) (free : ∀ k ∈ tkeys s.shore.dir, k / 2 ^ 15 ∉ l) :
    Rehomed s (l.foldl (fun s fr => rehome s fr h) s)
      ∧ (∀ fr, homeSetOf (l.foldl (fun s fr => rehome s fr h) s) fr = if fr ∈ l then h else homeSetOf s fr)
      ∧ ∀ k, lineAt (l.foldl (fun s fr => rehome s fr h) s) k = if k / 2 ^ 15 ∈ l then none else lineAt s k := by
  induction l generalizing s with
  | nil => exact ⟨Rehomed.refl s, fun _ => rfl, fun _ => rfl⟩
  | cons fr l ih =>
    have idle : freeEntries s fr = s := freeEntries_none (fun k member => by
      have := free k member
      rw [List.mem_cons, not_or] at this
      exact this.1)
    obtain ⟨dropped, homeMap, -⟩ := sendHome_all s (s.shore.lines.filter (fun p => p.1 / 2 ^ 15 == fr))
    have step : Rehomed s (rehome s fr h) := by
      unfold rehome
      rw [idle]
      exact dropped.trans ⟨⟨_, _, _, _, rfl⟩, fun _ _ _ => rfl⟩
    have line : ∀ k, lineAt (rehome s fr h) k = if k / 2 ^ 15 = fr then none else lineAt s k := by
      intro k
      unfold rehome
      rw [idle]
      exact lineAt_dropFrameLines s fr k
    have home : ∀ j, homeSetOf (rehome s fr h) j = if j = fr then h else homeSetOf s j := by
      intro j
      have shape : (rehome s fr h).shore.homeMap = if h = 0 then tdel s.shore.homeMap fr else tset s.shore.homeMap fr h := by
        unfold rehome
        rw [idle]
        dsimp only
        rw [dropFrameLines_eq, homeMap]
      unfold homeSetOf
      rw [shape]
      by_cases own : j = fr
      · subst own
        rw [if_pos rfl]
        split
        · next zero => rw [tgetD, tget_tdel_same, zero]; rfl
        · exact tgetD_tset_same _ _ _ _
      · rw [if_neg own]
        split
        · rw [tgetD, tgetD, tget_tdel_other _ _ _ own]
        · exact tgetD_tset_other _ _ _ _ _ own
    obtain ⟨rest, homes, lines⟩ := ih (s := rehome s fr h) (by
      intro k member
      rw [step.dir] at member
      have := free k member
      rw [List.mem_cons, not_or] at this
      exact this.2)
    refine ⟨step.trans rest, ?_, ?_⟩
    · intro j
      rw [List.foldl_cons, homes, home]
      by_cases later : j ∈ l
      · simp [later]
      · simp [later]
    · intro k
      rw [List.foldl_cons, lines, line]
      by_cases later : k / 2 ^ 15 ∈ l
      · rw [if_pos later, if_pos (List.mem_cons_of_mem _ later)]
      · simp only [List.mem_cons, later, or_false, if_false]

theorem mem_runOf {first n fr : Nat} : fr ∈ runOf first n ↔ first ≤ fr ∧ fr < first + n := by
  unfold runOf
  rw [List.mem_map]
  constructor
  · rintro ⟨i, member, rfl⟩
    have := List.mem_range.mp member
    omega
  · rintro ⟨above, below⟩
    exact ⟨fr - first, List.mem_range.mpr (by omega), by omega⟩

end Sys2Proof.Machine
end

section
/-!
The obligation on homing, regulators, pools and pairs (R215, R217, R251, R252, R484).
-/
namespace Sys2Proof.Machine

theorem free_of_admits {s : Dev} {op : Nat} {c : Cmd} {x : Ctx} (admits : Admits s op c x) : s.blocked = [] := by
  obtain ⟨-, free, -⟩ := admits
  exact free

/-- An instance that a command names is neither Free nor Resetting (R396). -/
theorem namedState_pass {s : Dev} {i : Nat} (exists' : insState s i ≠ 0) (running : insState s i ≠ 4) : ∀ p ∈ namedState s i, p.1 = false := by
  unfold namedState
  simp [exists', running]

/-! ### Home sets -/

/-- A home set with its islands and their number (R215). -/
def withHomeSet (s : Dev) (h m : Nat) : Dev := fset (fset s (RF.SHC_HOME_SET_ISLANDS h) m) (RF.SHC_HOME_SET_COUNT h) (popcount 44 m)

theorem withHomeSet_shape (s : Dev) (h m : Nat) : ∃ regs, withHomeSet s h m = { s with regs := regs } := ⟨_, rfl⟩

theorem sameRegsBut_withHomeSet (s : Dev) (h m : Nat) : SameRegsBut [Reg.SHC_HOME_SET h] s (withHomeSet s h m) := by
  intro o others _
  have apart : o ≠ Reg.SHC_HOME_SET h := List.ne_of_not_mem_cons others
  unfold withHomeSet
  rw [regRead_fset_other _ _ _ _ apart, regRead_fset_other _ _ _ _ apart]

theorem fget_withHomeSet (s : Dev) (h : Nat) {m : Nat} (fits : m < 2 ^ 44) :
    fget (withHomeSet s h m) (RF.SHC_HOME_SET_ISLANDS h) = m ∧ fget (withHomeSet s h m) (RF.SHC_HOME_SET_COUNT h) = popcount 44 m := by
  unfold withHomeSet
  refine ⟨?_, ?_⟩
  · rw [fget_fset_bits _ (RF.SHC_HOME_SET_COUNT h) (RF.SHC_HOME_SET_ISLANDS h) _ rfl (by show 0 + 44 ≤ 64; omega)
      (.inl (by show 0 + 44 ≤ 44; omega)), fget_fset_same _ _ _ (by show 0 + 44 ≤ 64; omega)]
    exact Nat.mod_eq_of_lt fits
  · have few := popcount_le 44 m
    rw [fget_fset_same _ _ _ (by show 44 + 6 ≤ 64; omega)]
    exact Nat.mod_eq_of_lt (by show popcount 44 m < 64; omega)

/-- SET_HOME_SET's own effect where its checks pass (R215). -/
theorem setHomeSet_ends {s : State} {c : Cmd} {x : Ctx} (admits : Admits s.dev 0x40 c x) (some : 1 ≤ eb x.e 16 1) (known : eb x.e 16 1 ≤ 63)
    (islands : 0 < eb x.e 24 8) (enabled : eb x.e 24 8 < 2 ^ fget s.dev RF.BRG_PKG_LEVEL_ENABLED_COUNT)
    (unused : ∀ p ∈ s.dev.shore.homeMap, p.2 ≠ eb x.e 16 1) :
    ∃ t, exec (.setHomeSet c) s = .next { s with dev := t } ∧ Ended s.dev (withHomeSet s.dev (eb x.e 16 1) (eb x.e 24 8)) t x Ret.ok := by
  have unblocked := free_of_admits admits
  refine ⟨_, rfl, command_ends rfl admits (by decide) ?_ unblocked rfl rfl⟩
  refine (afterChecks_pass ?_ _).trans rfl
  simp only [List.forall_mem_cons, List.not_mem_nil, false_implies, implies_true, and_true]
  refine ⟨?_, ?_⟩
  · simp only [Bool.or_eq_false_iff, beq_eq_false_iff_ne, decide_eq_false_iff_not, ge_iff_le, gt_iff_lt]
    refine ⟨⟨⟨?_, ?_⟩, ?_⟩, ?_⟩
    all_goals omega
  · rw [List.any_eq_false]
    exact fun p member => by simpa using unused p member

/-- SET_HOME_MAP's own effect where its checks pass (R217). -/
theorem setHomeMap_ends {s : State} {c : Cmd} {x : Ctx} (admits : Admits s.dev 0x41 c x) (known : eb x.e 16 1 ≤ 63)
    (islands : fget s.dev (RF.SHC_HOME_SET_ISLANDS (eb x.e 16 1)) ≠ 0) (mapped : framesMapped s.dev (eb x.e 20 4) (eb x.e 24 4) = true)
    (own : x.origin = 2 → (0 < eb x.e 16 1 → fget s.dev (RF.SHC_HOME_SET_ISLANDS (eb x.e 16 1)) &&& fget s.dev (RF.INS_ISLANDS_ISLANDS x.inst)
        = fget s.dev (RF.SHC_HOME_SET_ISLANDS (eb x.e 16 1))) ∧ ∀ fr ∈ runOf (eb x.e 20 4) (eb x.e 24 4), owns s.dev x.inst fr = true)
    (free : ∀ k ∈ tkeys s.dev.shore.dir, k / 2 ^ 15 ∉ runOf (eb x.e 20 4) (eb x.e 24 4)) :
    ∃ t, exec (.setHomeMap c) s = .next { s with dev := t }
      ∧ Ended s.dev ((runOf (eb x.e 20 4) (eb x.e 24 4)).foldl (fun s fr => rehome s fr (eb x.e 16 1)) s.dev) t x Ret.ok := by
  obtain ⟨rest, -, -⟩ := rehome_all (eb x.e 16 1) free
  have small : eb x.e 16 1 % 64 = eb x.e 16 1 := Nat.mod_eq_of_lt (by omega)
  have unblocked := free_of_admits admits
  refine ⟨_, rfl, command_ends rfl admits (by decide) ?_ ?_ ?_ ?_⟩
  · refine (afterChecks_pass ?_ _).trans rfl
    simp only [List.forall_mem_cons, List.not_mem_nil, false_implies, implies_true, and_true, small]
    refine ⟨?_, ?_⟩
    · by_cases guest : x.origin = 2
      · obtain ⟨held, frames⟩ := own guest
        have all : (runOf (eb x.e 20 4) (eb x.e 24 4)).any (fun fr => !owns s.dev x.inst fr) = false := by
          rw [List.any_eq_false]
          exact fun fr member => by simp [frames fr member]
        rw [all]
        by_cases own : 0 < eb x.e 16 1
        · simp [held own]
        · simp [own]
      · simp [guest]
    · simp [known, islands, mapped, Nat.not_lt.mpr]
  · obtain ⟨regs, lines, homeMap, writes, shape⟩ := rest.shape
    rw [shape]
    exact unblocked
  · obtain ⟨regs, lines, homeMap, writes, shape⟩ := rest.shape
    rw [shape]
  · obtain ⟨regs, lines, homeMap, writes, shape⟩ := rest.shape
    rw [shape]

/-! ### Regulators -/

/-- A regulator whose values take effect at its next window (R251). -/
def nextRegulated (s : Dev) (rq weight cap k : Nat) : Dev :=
  { s with mem := { s.mem with regul := tset s.mem.regul k { tgetD s.mem.regul k (regulDefault rq) with next := some (weight, cap) } } }

/-- Regulators of a requester, one for each group, take on their next values. -/
theorem nextRegulated_all (s : Dev) (rq weight cap base : Nat) (l : List Nat) :
    (∃ regul, l.foldl (fun s g => nextRegulated s rq weight cap (34 * (base + g) + rq)) s = { s with mem := { s.mem with regul := regul } })
      ∧ ∀ k, tget (l.foldl (fun s g => nextRegulated s rq weight cap (34 * (base + g) + rq)) s).mem.regul k
          = if (∃ g ∈ l, k = 34 * (base + g) + rq) then some { tgetD s.mem.regul k (regulDefault rq) with next := some (weight, cap) }
            else tget s.mem.regul k := by
  induction l generalizing s with
  | nil => exact ⟨⟨_, rfl⟩, fun k => by simp⟩
  | cons g l ih =>
    obtain ⟨⟨regul, shape⟩, values⟩ := ih (nextRegulated s rq weight cap (34 * (base + g) + rq))
    refine ⟨⟨regul, shape.trans rfl⟩, ?_⟩
    intro k
    rw [List.foldl_cons, values]
    by_cases own : k = 34 * (base + g) + rq
    · subst own
      have set : tget (nextRegulated s rq weight cap (34 * (base + g) + rq)).mem.regul (34 * (base + g) + rq)
          = some { tgetD s.mem.regul (34 * (base + g) + rq) (regulDefault rq) with next := some (weight, cap) } := tget_tset_same _ _ _
      rw [tgetD, set, if_pos (⟨g, List.mem_cons_self .., rfl⟩ : ∃ g' ∈ g :: l, 34 * (base + g) + rq = 34 * (base + g') + rq)]
      split
      · rfl
      · rfl
    · have kept : tget (nextRegulated s rq weight cap (34 * (base + g) + rq)).mem.regul k = tget s.mem.regul k := tget_tset_other _ _ _ _ own
      rw [tgetD, kept]
      by_cases later : ∃ g' ∈ l, k = 34 * (base + g') + rq
      · have named : ∃ g' ∈ g :: l, k = 34 * (base + g') + rq := by
          obtain ⟨g', member, key⟩ := later
          exact ⟨g', List.mem_cons_of_mem _ member, key⟩
        rw [if_pos later, if_pos named, tgetD]
      · rw [if_neg later, if_neg]
        rintro ⟨g', member, key⟩
        rcases List.mem_cons.mp member with rfl | more
        · exact own key
        · exact later ⟨g', more, key⟩

/-- SET_MEM_REGULATOR's own effect where its checks pass (R251). -/
theorem setMemRegulator_ends {s : State} {c : Cmd} {x : Ctx} (admits : Admits s.dev 0x42 c x) (tier : eb x.e 16 1 ≤ 1) (requester : eb x.e 17 1 ≤ 33)
    (some : 1 ≤ eb x.e 20 2) (most : eb x.e 20 2 ≤ 256) (groups : eb x.e 16 1 = 1 → eb x.e 24 8 < 2 ^ 32) :
    ∃ t, exec (.setMemRegulator c) s = .next { s with dev := t }
      ∧ Ended s.dev ((setBitsOf 64 (eb x.e 24 8)).foldl
          (fun s g => nextRegulated s (eb x.e 17 1) (eb x.e 18 1) (eb x.e 20 2) (34 * (64 * eb x.e 16 1 + g) + eb x.e 17 1)) s.dev) t x Ret.ok := by
  obtain ⟨⟨regul, shape⟩, -⟩ := nextRegulated_all s.dev (eb x.e 17 1) (eb x.e 18 1) (eb x.e 20 2) (64 * eb x.e 16 1) (setBitsOf 64 (eb x.e 24 8))
  have unblocked := free_of_admits admits
  refine ⟨_, rfl, command_ends rfl admits (by decide) ?_ ?_ ?_ ?_⟩
  · have base : (if eb x.e 16 1 = 0 then 0 else 64) = 64 * eb x.e 16 1 := by
      split
      · omega
      · omega
    refine (afterChecks_pass ?_ _).trans ?_
    · simp only [List.forall_mem_cons, List.not_mem_nil, false_implies, implies_true, and_true]
      simp only [Bool.or_eq_false_iff, Bool.and_eq_false_iff, beq_eq_false_iff_ne, decide_eq_false_iff_not, ge_iff_le, gt_iff_lt]
      refine ⟨⟨⟨⟨?_, ?_⟩, ?_⟩, ?_⟩, ?_⟩
      all_goals omega
    · dsimp only
      rw [base]
      rfl
  · rw [shape]
    exact unblocked
  · rw [shape]
  · rw [shape]

/-! ### Pools and pairs -/

/-- A command whose OP is that of its row is not left to the other row. -/
theorem otherOp_own {s : Dev} {op off want : Nat} {c : Cmd} {x : Ctx} (admits : Admits s op c x)
    (own : (eb x.e off 1 == 1) = (want == 1)) : otherOp off want c s op = false := by
  obtain ⟨context, -⟩ := admits
  unfold otherOp
  rw [context]
  simp [own]

/-- A module with another pool of an instance. -/
def withPool (s : Dev) (i : Nat) (l : List Nat) : Dev := { s with mem := { s.mem with pools := tset s.mem.pools i l } }

/-- SET_MIG_POOL's own effect where frames join (R252). -/
theorem setMigPoolAdd_ends {s : State} {c : Cmd} {x : Ctx} (admits : Admits s.dev 0x43 c x)
    (legal : poolPagesOk s.dev (eb x.e 16 1) (eb x.e 17 1) (eb x.e 20 4) (eb x.e 24 4) = true)
    (exists' : insState s.dev (eb x.e 16 1) ≠ 0) (running : insState s.dev (eb x.e 16 1) ≠ 4) (joins : eb x.e 18 1 = 0)
    (fresh : ∀ k, k < eb x.e 24 4 → eb x.e 20 4 + k ∉ tgetD s.dev.mem.pools (eb x.e 16 1) []) :
    ∃ t, exec (.setMigPoolAdd c) s = .next { s with dev := t }
      ∧ Ended s.dev (withPool s.dev (eb x.e 16 1)
          (tgetD s.dev.mem.pools (eb x.e 16 1) [] ++ (List.range (eb x.e 24 4)).map (eb x.e 20 4 + ·))) t x Ret.ok := by
  have unblocked := free_of_admits admits
  have own : otherOp 18 0 c s.dev 0x43 = false := otherOp_own admits (by simp [joins])
  obtain ⟨f, ran, effect⟩ : ∃ f, exec (.setMigPoolAdd c) s = .next { s with dev := finish (command 0x43 c s.dev f) }
      ∧ f x s.dev = (withPool s.dev (eb x.e 16 1)
          (tgetD s.dev.mem.pools (eb x.e 16 1) [] ++ (List.range (eb x.e 24 4)).map (eb x.e 20 4 + ·)), .done Ret.ok) := by
    show ∃ f, execSetMigPoolAdd c s = _ ∧ _
    unfold execSetMigPoolAdd
    rw [perform_eq, own]
    refine ⟨_, rfl, (afterChecks_pass ?_ _).trans rfl⟩
    simp only [List.forall_mem_append, List.forall_mem_cons, List.not_mem_nil, false_implies, implies_true, and_true]
    refine ⟨⟨?_, namedState_pass exists' running⟩, ?_⟩
    · simp [joins, legal]
    · rw [List.any_eq_false]
      intro k member
      simpa using fresh k (List.mem_range.mp member)
  exact ⟨_, ran, command_ends rfl admits (by decide) effect unblocked rfl rfl⟩

/-- SET_MIG_POOL's own effect where frames leave (R252). -/
theorem setMigPoolRemove_ends {s : State} {c : Cmd} {x : Ctx} (admits : Admits s.dev 0x43 c x)
    (legal : poolPagesOk s.dev (eb x.e 16 1) (eb x.e 17 1) (eb x.e 20 4) (eb x.e 24 4) = true)
    (exists' : insState s.dev (eb x.e 16 1) ≠ 0) (running : insState s.dev (eb x.e 16 1) ≠ 4) (leaves : eb x.e 18 1 = 1)
    (held : ∀ k, k < eb x.e 24 4 → eb x.e 20 4 + k ∈ tgetD s.dev.mem.pools (eb x.e 16 1) []) :
    ∃ t, exec (.setMigPoolRemove c) s = .next { s with dev := t }
      ∧ Ended s.dev (withPool s.dev (eb x.e 16 1)
          ((tgetD s.dev.mem.pools (eb x.e 16 1) []).filter
            (fun p => !(decide (eb x.e 20 4 ≤ p) && decide (p < eb x.e 20 4 + eb x.e 24 4))))) t x Ret.ok := by
  have unblocked := free_of_admits admits
  have own : otherOp 18 1 c s.dev 0x43 = false := otherOp_own admits (by rw [leaves])
  obtain ⟨f, ran, effect⟩ : ∃ f, exec (.setMigPoolRemove c) s = .next { s with dev := finish (command 0x43 c s.dev f) }
      ∧ f x s.dev = (withPool s.dev (eb x.e 16 1) ((tgetD s.dev.mem.pools (eb x.e 16 1) []).filter
          (fun p => !(decide (eb x.e 20 4 ≤ p) && decide (p < eb x.e 20 4 + eb x.e 24 4)))), .done Ret.ok) := by
    show ∃ f, execSetMigPoolRemove c s = _ ∧ _
    unfold execSetMigPoolRemove
    rw [perform_eq, own]
    refine ⟨_, rfl, (afterChecks_pass ?_ _).trans rfl⟩
    simp only [List.forall_mem_append, List.forall_mem_cons, List.not_mem_nil, false_implies, implies_true, and_true]
    refine ⟨⟨?_, namedState_pass exists' running⟩, ?_⟩
    · simp [legal]
    · rw [List.any_eq_false]
      intro k member
      simpa using held k (List.mem_range.mp member)
  exact ⟨_, ran, command_ends rfl admits (by decide) effect unblocked rfl rfl⟩

/-- A module with other replica pairs, and their number shown (R498). -/
def withPairs (s : Dev) (l : List (Nat × Replica)) : Dev := showPairs { s with ins := { s.ins with pairs := l } }

theorem withPairs_shape (s : Dev) (l : List (Nat × Replica)) : ∃ regs, withPairs s l = { s with regs := regs, ins := { s.ins with pairs := l } } := ⟨_, rfl⟩

theorem sameRegsBut_withPairs (s : Dev) (l : List (Nat × Replica)) : SameRegsBut [Reg.BRG_ERR_STATUS] s (withPairs s l) :=
  sameRegsBut_fset _ RF.BRG_ERR_STATUS_REPLICA_PAIRS _

/-- REPLICA_CLEAR's own effect where its checks pass (R484). -/
theorem replicaClear_ends {s : State} {c : Cmd} {x : Ctx} {r : Replica} (admits : Admits s.dev 0xC1 c x) (known : eb x.e 17 1 ≤ 63)
    (here : tget s.dev.ins.pairs (eb x.e 17 1) = some r) (own : r.inst = eb x.e 16 1)
    (exists' : insState s.dev (eb x.e 16 1) ≠ 0) (running : insState s.dev (eb x.e 16 1) ≠ 4) :
    ∃ t, exec (.replicaClear c) s = .next { s with dev := t } ∧ Ended s.dev (withPairs s.dev (tdel s.dev.ins.pairs (eb x.e 17 1))) t x Ret.ok := by
  have unblocked := free_of_admits admits
  refine ⟨_, rfl, command_ends rfl admits (by decide) ?_ unblocked rfl rfl⟩
  dsimp only
  rw [here]
  refine (afterChecks_pass ?_ _).trans rfl
  simp only [List.forall_mem_append, List.forall_mem_cons, List.not_mem_nil, false_implies, implies_true, and_true]
  exact ⟨by simp [known, own, Nat.not_lt.mpr], namedState_pass exists' running⟩

/-! ### The obligation -/

/-- SET_HOME_SET (R215). -/
theorem setHomeSet_sets {s : State} {c : Cmd} {x : Ctx} (admits : Admits s.dev 0x40 c x) (some : 1 ≤ eb x.e 16 1) (known : eb x.e 16 1 ≤ 63)
    (islands : 0 < eb x.e 24 8) (fits : eb x.e 24 8 < 2 ^ 44) (enabled : eb x.e 24 8 < 2 ^ fget s.dev RF.BRG_PKG_LEVEL_ENABLED_COUNT)
    (unused : ∀ p ∈ s.dev.shore.homeMap, p.2 ≠ eb x.e 16 1) :
    ∃ t, exec (.setHomeSet c) s = .next t ∧ SameMem s.dev t.dev ∧ Completes s.dev t.dev x Ret.ok
      ∧ (∀ i, i ∈ setMembers t.dev (eb x.e 16 1) ↔ i < 44 ∧ (eb x.e 24 8).testBit i = true)
      ∧ fget t.dev (RF.SHC_HOME_SET_COUNT (eb x.e 16 1)) = (setMembers t.dev (eb x.e 16 1)).length
      ∧ OnlyCmd [Reg.SHC_HOME_SET (eb x.e 16 1)] s t x s.dev := by
  obtain ⟨t, ran, ended⟩ := setHomeSet_ends admits some known islands enabled unused
  obtain ⟨mask, count⟩ := fget_withHomeSet s.dev (eb x.e 16 1) fits
  have place : Reg.SHC_HOME_SET (eb x.e 16 1) = 0x150200 + 8 * eb x.e 16 1 := rfl
  have low : Reg.SHC_HOME_SET (eb x.e 16 1) < 0x1E0000 := by omega
  have shc : Reg.SHC_HOME_SET (eb x.e 16 1) ≠ 0x150000 := by omega
  have members : setMembers t (eb x.e 16 1) = setBitsOf 44 (eb x.e 24 8) :=
    congrArg (setBitsOf 44) ((ended.fget (f := RF.SHC_HOME_SET_ISLANDS (eb x.e 16 1)) low shc).trans mask)
  have same := sameRegsBut_withHomeSet s.dev (eb x.e 16 1) (eb x.e 24 8)
  refine ⟨_, ran, (sameMem_of_dram rfl).trans ended.mem, ended.completes, ?_, ?_, ended.onlyCmd ?_ same⟩
  · intro i
    rw [withDev_dev, members]
    exact mem_setBitsOf
  · rw [withDev_dev, members]
    exact (ended.fget (f := RF.SHC_HOME_SET_COUNT (eb x.e 16 1)) low shc).trans (count.trans (length_bitList 44 _ 0).symm)
  · obtain ⟨regs, shape⟩ := withHomeSet_shape s.dev (eb x.e 16 1) (eb x.e 24 8)
    have rest := ended.shape
    rw [shape] at rest
    exact rest

/-- SET_HOME_MAP (R217). -/
theorem setHomeMap_maps {s : State} {c : Cmd} {x : Ctx} (admits : Admits s.dev 0x41 c x) (known : eb x.e 16 1 ≤ 63)
    (islands : fget s.dev (RF.SHC_HOME_SET_ISLANDS (eb x.e 16 1)) ≠ 0) (mapped : framesMapped s.dev (eb x.e 20 4) (eb x.e 24 4) = true)
    (own : x.origin = 2 → (0 < eb x.e 16 1 → fget s.dev (RF.SHC_HOME_SET_ISLANDS (eb x.e 16 1)) &&& fget s.dev (RF.INS_ISLANDS_ISLANDS x.inst)
        = fget s.dev (RF.SHC_HOME_SET_ISLANDS (eb x.e 16 1))) ∧ ∀ fr ∈ runOf (eb x.e 20 4) (eb x.e 24 4), owns s.dev x.inst fr = true)
    (free : ∀ k ∈ tkeys s.dev.shore.dir, k / 2 ^ 15 ∉ runOf (eb x.e 20 4) (eb x.e 24 4)) :
    ∃ t, exec (.setHomeMap c) s = .next t ∧ SameMem s.dev t.dev ∧ Completes s.dev t.dev x Ret.ok
      ∧ (∀ fr, homeSetOf t.dev fr = if eb x.e 20 4 ≤ fr ∧ fr < eb x.e 20 4 + eb x.e 24 4 then eb x.e 16 1 else homeSetOf s.dev fr)
      ∧ (∀ k, lineAt t.dev k = if eb x.e 20 4 ≤ k / 2 ^ 15 ∧ k / 2 ^ 15 < eb x.e 20 4 + eb x.e 24 4 then none else lineAt s.dev k)
      ∧ OnlyCmd (Reg.SHC_CNT_WRITEBACKS :: (List.range 44).map Reg.SHC_SLICE_STATUS) s t x
          { s.dev with shore := { s.dev.shore with lines := t.dev.shore.lines, homeMap := t.dev.shore.homeMap },
                       mem := { s.dev.mem with writes := t.dev.mem.writes } } := by
  obtain ⟨t, ran, ended⟩ := setHomeMap_ends admits known islands mapped own free
  obtain ⟨rest, homes, gone⟩ := rehome_all (eb x.e 16 1) free
  obtain ⟨regs, lines, homeMap, writes, shape⟩ := rest.shape
  have same := rest.regs
  rw [shape] at ended same homes gone
  refine ⟨_, ran, (sameMem_of_dram rfl).trans ended.mem, ended.completes, ?_, ?_, ended.onlyCmd ?_ same⟩
  · intro fr
    simp only [← mem_runOf]
    refine Eq.trans ?_ (homes fr)
    rw [homeSetOf, withDev_dev, ended.shape]
    rfl
  · intro k
    simp only [← mem_runOf]
    refine Eq.trans ?_ (gone k)
    rw [lineAt, withDev_dev, ended.shape]
    rfl
  · obtain ⟨store, rings, out, log, rom, dram, regs', rfl⟩ := ended.shape.literal
    rfl

/-- SET_MEM_REGULATOR (R251). -/
theorem setMemRegulator_sets {s : State} {c : Cmd} {x : Ctx} (admits : Admits s.dev 0x42 c x) (tier : eb x.e 16 1 ≤ 1) (requester : eb x.e 17 1 ≤ 33)
    (some' : 1 ≤ eb x.e 20 2) (most : eb x.e 20 2 ≤ 256) (groups : eb x.e 16 1 = 1 → eb x.e 24 8 < 2 ^ 32) :
    ∃ t, exec (.setMemRegulator c) s = .next t ∧ SameMem s.dev t.dev ∧ Completes s.dev t.dev x Ret.ok
      ∧ (∀ g, g < 64 → (eb x.e 24 8).testBit g = true → tget t.dev.mem.regul (34 * (64 * eb x.e 16 1 + g) + eb x.e 17 1)
          = some { tgetD s.dev.mem.regul (34 * (64 * eb x.e 16 1 + g) + eb x.e 17 1) (regulDefault (eb x.e 17 1)) with
              next := some (eb x.e 18 1, eb x.e 20 2) })
      ∧ (∀ k, (∀ g, g < 64 → (eb x.e 24 8).testBit g = true → k ≠ 34 * (64 * eb x.e 16 1 + g) + eb x.e 17 1) →
          tget t.dev.mem.regul k = tget s.dev.mem.regul k)
      ∧ OnlyCmd [] s t x { s.dev with mem := { s.dev.mem with regul := t.dev.mem.regul } } := by
  obtain ⟨t, ran, ended⟩ := setMemRegulator_ends admits tier requester some' most groups
  obtain ⟨⟨regul, shape⟩, values⟩ :=
    nextRegulated_all s.dev (eb x.e 17 1) (eb x.e 18 1) (eb x.e 20 2) (64 * eb x.e 16 1) (setBitsOf 64 (eb x.e 24 8))
  rw [shape] at ended values
  have kept : t.mem.regul = regul := by
    rw [ended.shape]
  refine ⟨_, ran, (sameMem_of_dram rfl).trans ended.mem, ended.completes, ?_, ?_, ended.onlyCmd ?_ (fun o _ _ => rfl)⟩
  · intro g below bit
    rw [withDev_dev, kept]
    exact (values _).trans (if_pos ⟨g, mem_setBitsOf.mpr ⟨below, bit⟩, rfl⟩)
  · intro k others
    rw [withDev_dev, kept]
    refine (values k).trans (if_neg ?_)
    rintro ⟨g, member, key⟩
    obtain ⟨below, bit⟩ := mem_setBitsOf.mp member
    exact others g below bit key
  · obtain ⟨store, rings, out, log, rom, dram, regs', rfl⟩ := ended.shape.literal
    rfl

/-- What a command leaves that set a pool (R252). -/
theorem withPool_ended {s : State} {x : Ctx} {i : Nat} {l : List Nat} {t : Dev} {r : Ret} (ended : Ended s.dev (withPool s.dev i l) t x r) :
    SameMem s.dev t ∧ tgetD t.mem.pools i [] = l ∧ (∀ j, j ≠ i → tget t.mem.pools j = tget s.dev.mem.pools j)
      ∧ OnlyCmd [] s { s with dev := t } x { s.dev with mem := { s.dev.mem with pools := t.mem.pools } } := by
  have pools : t.mem.pools = tset s.dev.mem.pools i l := by
    rw [ended.shape]
    rfl
  refine ⟨(sameMem_of_dram rfl).trans ended.mem, ?_, ?_, ended.onlyCmd ?_ (fun o _ _ => rfl)⟩
  · rw [pools]
    exact tgetD_tset_same _ _ _ _
  · intro j other
    rw [pools]
    exact tget_tset_other _ _ _ _ other
  · rw [pools]
    exact ended.shape

/-- Settles O40: each command's own effect, ended by its answer. -/
theorem homingCommands : Obligations.HomingCommands := by
  unfold Obligations.HomingCommands
  intro s c x
  refine ⟨?_, ?_, ?_, ?_, ?_⟩
  · rintro h m admits rfl rfl some known islands fits enabled unused
    exact setHomeSet_sets admits some known islands fits enabled unused
  · rintro h first n admits rfl rfl rfl known islands mapped own free
    exact setHomeMap_maps admits known islands mapped own free
  · rintro tier rq m admits rfl rfl rfl tier requester some most groups
    exact setMemRegulator_sets admits tier requester some most groups
  · rintro i first n admits rfl rfl rfl legal exists' running
    refine ⟨?_, ?_⟩
    · intro joins fresh
      obtain ⟨t, ran, ended⟩ := setMigPoolAdd_ends admits legal exists' running joins fresh
      obtain ⟨mem, pool, others, only⟩ := withPool_ended ended
      refine ⟨_, ran, mem, ended.completes, ?_, others, only⟩
      intro p
      rw [withDev_dev, pool, List.mem_append]
      exact or_congr Iff.rfl mem_runOf
    · intro leaves held
      obtain ⟨t, ran, ended⟩ := setMigPoolRemove_ends admits legal exists' running leaves held
      obtain ⟨mem, pool, others, only⟩ := withPool_ended ended
      refine ⟨_, ran, mem, ended.completes, ?_, others, only⟩
      intro p
      rw [withDev_dev, pool, List.mem_filter]
      simp only [Bool.not_eq_true', Bool.and_eq_false_iff, decide_eq_false_iff_not, not_and_or]
  · intro r admits known here own exists' running
    obtain ⟨t, ran, ended⟩ := replicaClear_ends admits known here own exists' running
    have same := sameRegsBut_withPairs s.dev (tdel s.dev.ins.pairs (eb x.e 17 1))
    obtain ⟨regs, shape⟩ := withPairs_shape s.dev (tdel s.dev.ins.pairs (eb x.e 17 1))
    rw [shape] at ended same
    have pairs : t.ins.pairs = tdel s.dev.ins.pairs (eb x.e 17 1) := by
      rw [ended.shape]
    refine ⟨_, ran, (sameMem_of_dram rfl).trans ended.mem, ended.completes, ?_, ?_, ended.onlyCmd ?_ same⟩
    · rw [withDev_dev, pairs]
      exact tget_tdel_same _ _
    · intro p other
      rw [withDev_dev, pairs]
      exact tget_tdel_other _ _ _ other
    · rw [pairs]
      exact ended.shape

end Sys2Proof.Machine
end

section
/-!
SUPPORT. Commands that end later (R291), and cores that all change in one way.
-/
namespace Sys2Proof.Machine

/-- A command's end is its answer, once the log has its entry. -/
theorem endCmd_answers {u : Dev} {sp : CmdSpec} (notStep : (sp.op == 0x12) = false) (x : Ctx) (r : Ret) :
    ∃ v, OnlyLogAnd [] u v ∧ endCmd u sp x r = answerCmd v x (cplOf x r) r.data := by
  simp only [endCmd, notStep, Bool.or_false]
  split
  · exact ⟨_, (onlyLog_logAdd _ _ _ _ _ _ _ _ _).and _, rfl⟩
  · exact ⟨_, (OnlyLog.refl u).and _, rfl⟩

/-- A command's end, after changes that leave the command store and the rings. -/
theorem endCmd_ended {s u : Dev} {sp : CmdSpec} {x : Ctx} {r : Ret} (notStep : (sp.op == 0x12) = false) (store : u.fe.store = s.fe.store)
    (rings : u.fe.rings = s.fe.rings) (stored : x.origin ≤ 2 → (storeAt s x.key).isSome = true) : Ended s u (finish (endCmd u sp x r)) x r := by
  obtain ⟨v, logged, ends⟩ := endCmd_answers (u := u) notStep x r
  rw [ends]
  exact ended_answerCmd r store rings stored logged

theorem endCmd_blocked {u : Dev} {sp : CmdSpec} {x : Ctx} {r : Ret} (notStep : (sp.op == 0x12) = false) : (endCmd u sp x r).blocked = u.blocked := by
  obtain ⟨v, logged, ends⟩ := endCmd_answers (u := u) notStep x r
  rw [ends, answerCmd_rest v r.data (cplOf_key x r), logged.rest]

/-- A command that was begun earlier ends as the context of its entry. -/
theorem completeKey_eq {s u : Dev} {sp : CmdSpec} {key : Nat} {e : StoreEntry} (found : storeAt s key = some e)
    (row : specOf (entryOp e.entry) = some sp) (store : u.fe.store = s.fe.store) (r : Ret) : completeKey u key r = endCmd u sp (laterCtx e) r := by
  have here : storeAt u key = some e := by
    unfold storeAt at found ⊢
    rw [store]
    exact found
  unfold completeKey
  simp only [here, row]

theorem completeKey_ended {s u : Dev} {sp : CmdSpec} {key : Nat} {e : StoreEntry} {r : Ret} (found : storeAt s key = some e)
    (row : specOf (entryOp e.entry) = some sp) (single : entryOp e.entry ≠ 0x12) (store : u.fe.store = s.fe.store)
    (rings : u.fe.rings = s.fe.rings) : Ended s u (finish (completeKey u key r)) (laterCtx e) r := by
  have notStep : (sp.op == 0x12) = false := by simpa [specOf_op row] using single
  obtain ⟨-, named⟩ := storeAt_some found
  have ownKey : (laterCtx e).key = key := named
  rw [completeKey_eq found row store]
  refine endCmd_ended notStep store rings (fun _ => ?_)
  rw [ownKey, found]
  rfl

/-- One of a module that nothing blocks. -/
theorem completeKey_ends {s u : Dev} {sp : CmdSpec} {key : Nat} {e : StoreEntry} {r : Ret} (found : storeAt s key = some e)
    (row : specOf (entryOp e.entry) = some sp) (single : entryOp e.entry ≠ 0x12) (store : u.fe.store = s.fe.store)
    (rings : u.fe.rings = s.fe.rings) (free : u.blocked = []) :
    Ended s u (finish (completeKey u key r)) (laterCtx e) r ∧ (completeKey u key r).blocked = [] := by
  have notStep : (sp.op == 0x12) = false := by simpa [specOf_op row] using single
  refine ⟨completeKey_ended found row single store rings, ?_⟩
  rw [completeKey_eq found row store, endCmd_blocked notStep, free]

/-- A core after all of them have changed in one way. -/
theorem coreOf_tmap {s t : Dev} {f : Nat → Core → Core} (cores : t.cores = tmap s.cores f) (j : Nat) :
    coreOf t j = if thas s.cores j = true then f j (coreOf s j) else Core.reset := by
  unfold coreOf tgetD thas
  rw [cores, tget_tmap]
  cases tget s.cores j with
  | none => rfl
  | some c => rfl

theorem coreOf_absent {s : Dev} {j : Nat} (absent : ¬ thas s.cores j = true) : coreOf s j = Core.reset := by
  unfold coreOf tgetD
  unfold thas at absent
  cases here : tget s.cores j with
  | none => rfl
  | some c => simp [here] at absent

/-- What each of some changes of cores keeps of a core, all of them keep. -/
theorem coreOf_foldl_modCore {α : Type} (get : Core → α) (f : Core → Core) (keeps : ∀ c, get (f c) = get c) (l : List Nat) (s : Dev) (j : Nat) :
    get (coreOf (l.foldl (fun s c => modCore s c f) s) j) = get (coreOf s j) := by
  induction l generalizing s with
  | nil => rfl
  | cons c l ih =>
    rw [List.foldl_cons, ih]
    by_cases own : j = c
    · subst own
      rw [coreOf_modCore_same, keeps]
    · rw [coreOf_modCore_other _ _ _ _ own]

theorem foldl_modCore_shape (f : Core → Core) (l : List Nat) (s : Dev) :
    ∃ cores, l.foldl (fun s c => modCore s c f) s = { s with cores := cores } := by
  refine List.foldlRecOn (motive := fun t : Dev => ∃ cores, t = { s with cores := cores }) _ _ ⟨_, rfl⟩ ?_
  rintro t ⟨cores, rfl⟩ c _
  exact ⟨_, rfl⟩

end Sys2Proof.Machine
end

section
/-!
The obligation on the commands of translation (R264, R275, R278, R280).
-/
namespace Sys2Proof.Machine

/-- An instance that a command names by its INSTANCE field is one of the 33 (R293). -/
theorem inst_of_admits {s : Dev} {op : Nat} {c : Cmd} {x : Ctx} {sp : CmdSpec} (row : specOf op = some sp) (field : sp.inst = some 16)
    (admits : Admits s op c x) : eb x.e 16 1 ≤ 32 := by
  obtain ⟨-, -, -, ⟨sp', row', head, -⟩, -⟩ := admits
  obtain rfl : sp' = sp := Option.some.inj (row'.symm.trans row)
  by_contra beyond
  unfold headCode at head
  simp only [field, true_and, gt_iff_lt, Nat.lt_of_not_le beyond, if_true] at head
  split_ifs at head

/-! ### The root -/

/-- A module with another translation root of an instance (R264). -/
def withRoot (s : Dev) (i root : Nat) : Dev := fset (fset s (RF.TRN_ROOT_VALID i) 1) (RF.TRN_ROOT_ROOT i) (root / 4096)

theorem withRoot_shape (s : Dev) (i root : Nat) : ∃ regs, withRoot s i root = { s with regs := regs } := ⟨_, rfl⟩

theorem sameRegsBut_withRoot (s : Dev) (i root : Nat) : SameRegsBut [Reg.TRN_ROOT i] s (withRoot s i root) := by
  intro o others _
  have apart : o ≠ Reg.TRN_ROOT i := List.ne_of_not_mem_cons others
  unfold withRoot
  rw [regRead_fset_other _ _ _ _ apart, regRead_fset_other _ _ _ _ apart]

theorem fget_withRoot (s : Dev) (i : Nat) {root : Nat} (fits : root < 2 ^ 42) (aligned : root % 4096 = 0) :
    fget (withRoot s i root) (RF.TRN_ROOT_VALID i) = 1 ∧ fget (withRoot s i root) (RF.TRN_ROOT_ROOT i) * 4096 = root := by
  unfold withRoot
  refine ⟨?_, ?_⟩
  · rw [fget_fset_bits _ (RF.TRN_ROOT_ROOT i) (RF.TRN_ROOT_VALID i) _ rfl (by show 0 + 1 ≤ 64; omega) (.inl (by show 0 + 1 ≤ 12; omega)),
      fget_fset_same _ _ _ (by show 0 + 1 ≤ 64; omega)]
    rfl
  · have small : root / 4096 < 2 ^ 30 := by omega
    rw [fget_fset_same _ _ _ (by show 12 + 30 ≤ 64; omega)]
    show root / 4096 % 2 ^ 30 * 4096 = root
    rw [Nat.mod_eq_of_lt small]
    omega

/-- SET_XLATE_ROOT (R264). -/
theorem setXlateRoot_sets {s : State} {c : Cmd} {x : Ctx} (admits : Admits s.dev 0x30 c x) (fits : eb x.e 24 8 < 2 ^ 42) (aligned : eb x.e 24 8 % 4096 = 0)
    (exists' : insState s.dev (eb x.e 16 1) ≠ 0) (running : insState s.dev (eb x.e 16 1) ≠ 4) (idle : ∀ p ∈ s.dev.disp, p.2.inst ≠ eb x.e 16 1)
    (unbound : ∀ p ∈ s.dev.fe.bindings, p.2.inst ≠ eb x.e 16 1) :
    ∃ t, exec (.setXlateRoot c) s = .next t ∧ SameMem s.dev t.dev ∧ Completes s.dev t.dev x Ret.ok
      ∧ fget t.dev (RF.TRN_ROOT_VALID (eb x.e 16 1)) = 1 ∧ fget t.dev (RF.TRN_ROOT_ROOT (eb x.e 16 1)) * 4096 = eb x.e 24 8
      ∧ OnlyCmd [Reg.TRN_ROOT (eb x.e 16 1)] s t x s.dev := by
  have unblocked := free_of_admits admits
  have known := inst_of_admits rfl rfl admits
  obtain ⟨t, ran, ended⟩ : ∃ t, exec (.setXlateRoot c) s = .next { s with dev := t }
      ∧ Ended s.dev (withRoot s.dev (eb x.e 16 1) (eb x.e 24 8)) t x Ret.ok := by
    refine ⟨_, rfl, command_ends rfl admits (by decide) ?_ unblocked rfl rfl⟩
    refine (afterChecks_pass ?_ _).trans rfl
    simp only [List.forall_mem_append, List.forall_mem_cons, List.not_mem_nil, false_implies, implies_true, and_true]
    refine ⟨⟨⟨?_, ?_⟩, namedState_pass exists' running⟩, ?_⟩
    · exact decide_eq_false (Nat.not_le.mpr fits)
    · simp [aligned]
    · rw [Bool.or_eq_false_iff, List.any_eq_false, List.any_eq_false]
      exact ⟨fun p member => by simpa using idle p member, fun p member => by simpa using unbound p member⟩
  have place : Reg.TRN_ROOT (eb x.e 16 1) = 0x170000 + 64 * eb x.e 16 1 := rfl
  have low : Reg.TRN_ROOT (eb x.e 16 1) < 0x1E0000 := by omega
  have shc : Reg.TRN_ROOT (eb x.e 16 1) ≠ 0x150000 := by omega
  obtain ⟨valid, root⟩ := fget_withRoot s.dev (eb x.e 16 1) fits aligned
  have same := sameRegsBut_withRoot s.dev (eb x.e 16 1) (eb x.e 24 8)
  refine ⟨_, ran, (sameMem_of_dram rfl).trans ended.mem, ended.completes,
    (ended.fget (f := RF.TRN_ROOT_VALID (eb x.e 16 1)) low shc).trans valid, ?_, ended.onlyCmd ?_ same⟩
  · rw [withDev_dev, ended.fget (f := RF.TRN_ROOT_ROOT (eb x.e 16 1)) low shc]
    exact root
  · obtain ⟨regs, shape⟩ := withRoot_shape s.dev (eb x.e 16 1) (eb x.e 24 8)
    have rest := ended.shape
    rw [shape] at rest
    exact rest

/-! ### The fault ring -/

/-- A fault collection with an empty ring (R275). -/
def ringed (f : FltInst) (base size vec : Nat) : FltInst :=
  { f with base := base, sizeLog2 := size, vector := vec, ringSet := true, producer := 0, consumed := 0 }

/-- A module with a fault ring of an instance (R275). -/
def withFaultRing (s : Dev) (i base size vec : Nat) : Dev :=
  fset (fset (fset (modFlt s i (fun f => ringed f base size vec)) (RF.FLT_RING_SIZE_LOG2 i) size) (RF.FLT_RING_VECTOR i) vec) (RF.FLT_RING_BASE i) (base / 4096)

theorem withFaultRing_shape (s : Dev) (i base size vec : Nat) :
    ∃ regs, withFaultRing s i base size vec
      = { s with regs := regs, xl := { s.xl with insts := tset s.xl.insts i (ringed (fltOf s i) base size vec) } } := ⟨_, rfl⟩

theorem sameRegsBut_withFaultRing (s : Dev) (i base size vec : Nat) : SameRegsBut [Reg.FLT_RING i] s (withFaultRing s i base size vec) := by
  intro o others _
  have apart : o ≠ Reg.FLT_RING i := List.ne_of_not_mem_cons others
  unfold withFaultRing
  rw [regRead_fset_other _ _ _ _ apart, regRead_fset_other _ _ _ _ apart, regRead_fset_other _ _ _ _ apart]
  rfl

theorem fget_withFaultRing (s : Dev) (i : Nat) {base size vec : Nat} (small : size ≤ 16) (vector : vec ≤ 63) (fits : base < 2 ^ 52)
    (aligned : base % 4096 = 0) :
    fget (withFaultRing s i base size vec) (RF.FLT_RING_SIZE_LOG2 i) = size ∧ fget (withFaultRing s i base size vec) (RF.FLT_RING_VECTOR i) = vec
      ∧ fget (withFaultRing s i base size vec) (RF.FLT_RING_BASE i) * 4096 = base := by
  unfold withFaultRing
  refine ⟨?_, ?_, ?_⟩
  · rw [fget_fset_bits _ (RF.FLT_RING_BASE i) (RF.FLT_RING_SIZE_LOG2 i) _ rfl (by show 0 + 5 ≤ 64; omega) (.inl (by show 0 + 5 ≤ 12; omega)),
      fget_fset_bits _ (RF.FLT_RING_VECTOR i) (RF.FLT_RING_SIZE_LOG2 i) _ rfl (by show 0 + 5 ≤ 64; omega) (.inl (by show 0 + 5 ≤ 5; omega)),
      fget_fset_same _ _ _ (by show 0 + 5 ≤ 64; omega)]
    exact Nat.mod_eq_of_lt (by show size < 32; omega)
  · rw [fget_fset_bits _ (RF.FLT_RING_BASE i) (RF.FLT_RING_VECTOR i) _ rfl (by show 5 + 6 ≤ 64; omega) (.inl (by show 5 + 6 ≤ 12; omega)),
      fget_fset_same _ _ _ (by show 5 + 6 ≤ 64; omega)]
    exact Nat.mod_eq_of_lt (by show vec < 64; omega)
  · have fit : base / 4096 < 2 ^ 40 := by omega
    rw [fget_fset_same _ _ _ (by show 12 + 40 ≤ 64; omega)]
    show base / 4096 % 2 ^ 40 * 4096 = base
    rw [Nat.mod_eq_of_lt fit]
    omega

/-- SET_FAULT_RING (R275). -/
theorem setFaultRing_sets {s : State} {c : Cmd} {x : Ctx} (admits : Admits s.dev 0x32 c x) (least : 9 ≤ eb x.e 17 1) (most : eb x.e 17 1 ≤ 16)
    (vector : eb x.e 18 2 ≤ 63) (aligned : eb x.e 24 8 % 4096 = 0) (fits : eb x.e 24 8 < 2 ^ 52)
    (bound : inBinding s.dev (eb x.e 16 1) (eb x.e 24 8) (64 + 32 * 2 ^ eb x.e 17 1) = true)
    (exists' : insState s.dev (eb x.e 16 1) ≠ 0) (running : insState s.dev (eb x.e 16 1) ≠ 4)
    (shut : (fltOf s.dev (eb x.e 16 1)).openTick = none) (resumed : unresumed s.dev (eb x.e 16 1) = []) :
    ∃ t, exec (.setFaultRing c) s = .next t ∧ SameMem s.dev t.dev ∧ Completes s.dev t.dev x Ret.ok
      ∧ fltOf t.dev (eb x.e 16 1) = { fltOf s.dev (eb x.e 16 1) with
          base := eb x.e 24 8, sizeLog2 := eb x.e 17 1, vector := eb x.e 18 2, ringSet := true, producer := 0, consumed := 0 }
      ∧ fget t.dev (RF.FLT_RING_SIZE_LOG2 (eb x.e 16 1)) = eb x.e 17 1 ∧ fget t.dev (RF.FLT_RING_VECTOR (eb x.e 16 1)) = eb x.e 18 2
      ∧ fget t.dev (RF.FLT_RING_BASE (eb x.e 16 1)) * 4096 = eb x.e 24 8
      ∧ OnlyCmd [Reg.FLT_RING (eb x.e 16 1)] s t x { s.dev with xl := { s.dev.xl with insts := t.dev.xl.insts } } := by
  have unblocked := free_of_admits admits
  have known := inst_of_admits rfl rfl admits
  obtain ⟨t, ran, ended⟩ : ∃ t, exec (.setFaultRing c) s = .next { s with dev := t }
      ∧ Ended s.dev (withFaultRing s.dev (eb x.e 16 1) (eb x.e 24 8) (eb x.e 17 1) (eb x.e 18 2)) t x Ret.ok := by
    refine ⟨_, rfl, command_ends rfl admits (by decide) ?_ unblocked rfl rfl⟩
    refine (afterChecks_pass ?_ _).trans rfl
    simp only [List.forall_mem_append, List.forall_mem_cons, List.not_mem_nil, false_implies, implies_true, and_true]
    refine ⟨⟨⟨?_, ?_, ?_⟩, namedState_pass exists' running⟩, ?_⟩
    · simp [least, most, vector, Nat.not_lt.mpr]
    · simp [bound]
    · simp [aligned]
    · simp [shut, resumed]
  have place : Reg.FLT_RING (eb x.e 16 1) = 0x171000 + 64 * eb x.e 16 1 := rfl
  have low : Reg.FLT_RING (eb x.e 16 1) < 0x1E0000 := by omega
  have shc : Reg.FLT_RING (eb x.e 16 1) ≠ 0x150000 := by omega
  obtain ⟨size, vec, base⟩ := fget_withFaultRing s.dev (eb x.e 16 1) most vector fits aligned
  have same := sameRegsBut_withFaultRing s.dev (eb x.e 16 1) (eb x.e 24 8) (eb x.e 17 1) (eb x.e 18 2)
  have insts : t.xl.insts = tset s.dev.xl.insts (eb x.e 16 1)
      (ringed (fltOf s.dev (eb x.e 16 1)) (eb x.e 24 8) (eb x.e 17 1) (eb x.e 18 2)) := by
    rw [ended.shape]
    rfl
  refine ⟨_, ran, (sameMem_of_dram rfl).trans ended.mem, ended.completes, ?_,
    (ended.fget (f := RF.FLT_RING_SIZE_LOG2 (eb x.e 16 1)) low shc).trans size,
    (ended.fget (f := RF.FLT_RING_VECTOR (eb x.e 16 1)) low shc).trans vec, ?_, ended.onlyCmd ?_ same⟩
  · rw [fltOf, withDev_dev, insts]
    exact tgetD_tset_same _ _ _ _
  · rw [withDev_dev, ended.fget (f := RF.FLT_RING_BASE (eb x.e 16 1)) low shc]
    exact base
  · obtain ⟨regs, shape⟩ := withFaultRing_shape s.dev (eb x.e 16 1) (eb x.e 24 8) (eb x.e 17 1) (eb x.e 18 2)
    have rest := ended.shape
    rw [shape] at rest
    rw [insts]
    exact rest

end Sys2Proof.Machine
end

section
/-!
The obligation on the commands of translation, continued: resumed batches (R278) and invalidations (R280).
-/
namespace Sys2Proof.Machine

/-! ### Resumed batches -/

theorem thas_tmap {V W : Type} (t : List (Nat × V)) (f : Nat → V → W) (k : Nat) : thas (tmap t f) k = thas t k := by
  unfold thas
  rw [tget_tmap, Option.isSome_map]

/-- A core in which the waits on a record have their verdict. -/
def settledCore (n verdict : Nat) (c : Core) : Core :=
  { c with groups := tmap c.groups (fun _ g => { g with faults := settleFaults n verdict g.faults }),
           mxq := c.mxq.map (fun m => { m with faults := settleFaults n verdict m.faults }),
           ferries := tmap c.ferries (fun _ f => { f with faults := settleFaults n verdict f.faults }) }

theorem cores_settleRecord (s : Dev) (n verdict : Nat) : (settleRecord s n verdict).cores = tmap s.cores (fun _ c => settledCore n verdict c) := rfl

theorem tget_groups_settledCore {n verdict gno : Nat} {c : Core} {g : Group} (here : tget c.groups gno = some g) :
    tget (settledCore n verdict c).groups gno = some { g with faults := settleFaults n verdict g.faults } := by
  have mapped := tget_tmap c.groups (fun _ g => { g with faults := settleFaults n verdict g.faults }) gno
  rw [here] at mapped
  exact mapped

/-- A buffered translation is dropped by an invalidation (R280). -/
def droppedBy (inst : Nat) (all : Bool) (lo hi : Nat) (t : Tlb) : Bool := t.inst == inst && (all || (decide (t.va < hi) && decide (lo < t.va + t.size)))

/-- A core whose buffer drops translations. -/
def droppedCore (inst : Nat) (all : Bool) (lo hi : Nat) (c : Core) : Core := { c with tlb := c.tlb.filter (fun p => !droppedBy inst all lo hi p.2) }

theorem cores_dropBuffered (s : Dev) (inst : Nat) (all : Bool) (lo hi : Nat) :
    (dropBuffered s inst all lo hi).cores = tmap s.cores (fun _ c => droppedCore inst all lo hi c) := rfl

/-- A record that is resumed leaves the table, and what waits on it has its verdict. -/
theorem resumeRecord_eq (s : Dev) (n : Nat) (r : FltRec) {verdict : Nat} (known : verdict ≤ 1) (mask : Nat) :
    ∃ cores l2, resumeRecord s n r verdict mask = { s with cores := cores, xl := { s.xl with recs := tdel s.xl.recs n, l2 := l2 } }
      ∧ ∀ core gno g, tget (coreOf s core).groups gno = some g → thas s.cores core = true →
          tget (tgetD cores core Core.reset).groups gno
            = some { g with faults := settleFaults n (if verdict = 0 then 0 else causeCode r.cause) g.faults } := by
  have settles : ∀ (t : Dev) (v core gno : Nat) (g : Group), tget (coreOf t core).groups gno = some g → thas t.cores core = true →
      tget (coreOf (settleRecord t n v) core).groups gno = some { g with faults := settleFaults n v g.faults } := by
    intro t v core gno g here has
    rw [coreOf_tmap (cores_settleRecord t n v), if_pos has]
    exact tget_groups_settledCore here
  by_cases zero : verdict = 0
  · subst zero
    refine ⟨(settleRecord (dropBuffered s r.inst false (r.page * 4096) (r.page * 4096 + 4096)) n 0).cores, _, rfl, ?_⟩
    intro core gno g here has
    refine settles (dropBuffered s r.inst false (r.page * 4096) (r.page * 4096 + 4096)) 0 core gno g ?_ ?_
    · rw [coreOf_tmap (cores_dropBuffered _ _ _ _ _) core, if_pos has]
      exact here
    · rw [cores_dropBuffered, thas_tmap]
      exact has
  · obtain rfl : verdict = 1 := by omega
    refine ⟨(settleRecord s n (causeCode r.cause)).cores, _, rfl, ?_⟩
    intro core gno g here has
    exact settles s (causeCode r.cause) core gno g here has

/-- A module in which one record of a batch has been resumed (R278). -/
def withResumed (s : Dev) (i n : Nat) (r : FltRec) (verdict mask consumed : Nat) : Dev :=
  let t := modFlt (resumeRecord s n r verdict mask) i (fun f => { f with consumed := consumed })
  showStalled (fset t (RF.FLT_STATUS_UNRESUMED i) (min 255 (unresumed t i).length)) i

theorem withResumed_shape (s : Dev) (i n : Nat) (r : FltRec) {verdict : Nat} (known : verdict ≤ 1) (mask consumed : Nat) :
    ∃ regs cores l2, withResumed s i n r verdict mask consumed
        = { s with regs := regs, cores := cores, xl := { s.xl with
              recs := tdel s.xl.recs n, l2 := l2, insts := tset s.xl.insts i { fltOf s i with consumed := consumed } } }
      ∧ ∀ core gno g, tget (coreOf s core).groups gno = some g → thas s.cores core = true →
          tget (tgetD cores core Core.reset).groups gno
            = some { g with faults := settleFaults n (if verdict = 0 then 0 else causeCode r.cause) g.faults } := by
  obtain ⟨cores, l2, resumed, faults⟩ := resumeRecord_eq s n r known mask
  unfold withResumed
  rw [resumed]
  exact ⟨_, cores, l2, rfl, faults⟩

theorem sameRegsBut_withResumed (s : Dev) (i n : Nat) (r : FltRec) {verdict : Nat} (known : verdict ≤ 1) (mask consumed : Nat) :
    SameRegsBut [Reg.FLT_STATUS i, Reg.TRN_STATUS i] s (withResumed s i n r verdict mask consumed) := by
  obtain ⟨cores, l2, resumed, -⟩ := resumeRecord_eq s n r known mask
  intro o others _
  obtain ⟨flt, trn⟩ := ne_of_not_mem_pair others
  unfold withResumed showStalled
  rw [regRead_fset_other _ _ _ _ trn, regRead_fset_other _ _ _ _ flt, resumed]
  rfl

theorem causeCode_ne_zero (cause : Nat) : causeCode cause ≠ 0 := by
  unfold causeCode
  split
  · decide
  · decide

/-- RESUME_BATCH of a batch of one record (R278). -/
theorem resumeBatch_resumes {s : State} {c : Cmd} {x : Ctx} {n : Nat} {r : FltRec} (admits : Admits s.dev 0x33 c x) (known : eb x.e 17 1 ≤ 1)
    (written : eb x.e 24 8 ≤ (fltOf s.dev (eb x.e 16 1)).producer) (later : (fltOf s.dev (eb x.e 16 1)).consumed ≤ eb x.e 24 8)
    (exists' : insState s.dev (eb x.e 16 1) ≠ 0) (running : insState s.dev (eb x.e 16 1) ≠ 4)
    (one : s.dev.xl.recs.filter (fun p => p.2.inst == eb x.e 16 1 && p.2.batch == eb x.e 20 4 && p.2.phase == 2) = [(n, r)]) :
    ∃ t, exec (.resumeBatch c) s = .next t ∧ SameMem s.dev t.dev ∧ Completes s.dev t.dev x Ret.ok ∧ tget t.dev.xl.recs n = none
      ∧ (∀ m, m ≠ n → tget t.dev.xl.recs m = tget s.dev.xl.recs m) ∧ (fltOf t.dev (eb x.e 16 1)).consumed = eb x.e 24 8
      ∧ (∀ core gno g, tget (coreOf s.dev core).groups gno = some g → thas s.dev.cores core = true →
          ∃ g', tget (coreOf t.dev core).groups gno = some g' ∧ g'.run = g.run ∧ g'.gr = g.gr
            ∧ g'.faults = if eb x.e 17 1 = 0 then g.faults.filter (fun f => f.record != n)
                else g.faults.map (fun f => if f.record = n ∧ f.verdict = none then { f with verdict := some (causeCode r.cause) } else f))
      ∧ OnlyCmd [Reg.FLT_STATUS (eb x.e 16 1), Reg.TRN_STATUS (eb x.e 16 1)] s t x { s.dev with xl := t.dev.xl, cores := t.dev.cores } := by
  have unblocked := free_of_admits admits
  obtain ⟨regs, cores, l2, shape, faults⟩ := withResumed_shape s.dev (eb x.e 16 1) n r known (eb x.e 32 32) (eb x.e 24 8)
  have same := sameRegsBut_withResumed s.dev (eb x.e 16 1) n r known (eb x.e 32 32) (eb x.e 24 8)
  obtain ⟨t, ran, ended⟩ : ∃ t, exec (.resumeBatch c) s = .next { s with dev := t }
      ∧ Ended s.dev (withResumed s.dev (eb x.e 16 1) n r (eb x.e 17 1) (eb x.e 32 32) (eb x.e 24 8)) t x Ret.ok := by
    refine ⟨_, rfl, command_ends rfl admits (by decide) ?_ ?_ ?_ ?_⟩
    · dsimp only
      rw [one]
      refine (afterChecks_pass ?_ _).trans rfl
      simp only [List.forall_mem_append, List.forall_mem_cons, List.not_mem_nil, false_implies, implies_true, and_true]
      refine ⟨⟨⟨?_, ?_⟩, namedState_pass exists' running⟩, rfl⟩
      · exact decide_eq_false (by omega)
      · simp [written, later, Nat.not_lt.mpr]
    · rw [shape]
      exact unblocked
    · rw [shape]
    · rw [shape]
  rw [shape] at ended same
  have xl : t.xl = { s.dev.xl with recs := tdel s.dev.xl.recs n, l2 := l2,
                                   insts := tset s.dev.xl.insts (eb x.e 16 1) { fltOf s.dev (eb x.e 16 1) with consumed := eb x.e 24 8 } } := by
    rw [ended.shape]
  have kept : t.cores = cores := by
    rw [ended.shape]
  refine ⟨_, ran, (sameMem_of_dram rfl).trans ended.mem, ended.completes, ?_, ?_, ?_, ?_, ended.onlyCmd ?_ same⟩
  · rw [withDev_dev, xl]
    exact tget_tdel_same _ _
  · intro m other
    rw [withDev_dev, xl]
    exact tget_tdel_other _ _ _ other
  · rw [fltOf, withDev_dev, xl]
    exact congrArg FltInst.consumed (tgetD_tset_same _ _ _ _)
  · intro core gno g here has
    have now : coreOf t core = tgetD cores core Core.reset := congrArg (fun l => tgetD l core Core.reset) kept
    refine ⟨_, (congrArg (fun c : Core => tget c.groups gno) now).trans (faults core gno g here has), rfl, rfl, ?_⟩
    dsimp only
    split
    · rfl
    · unfold settleFaults
      rw [if_neg (causeCode_ne_zero _)]
      simp only [Option.isNone_iff_eq_none]
  · obtain ⟨store, rings, out, log, rom, dram, regs', rfl⟩ := ended.shape.literal
    rfl

/-! ### Invalidations -/

/-- What XLATE_INVALIDATE leaves of translations, and the invalidation that it enters (R280). -/
theorem beginInval_eq (s : Dev) (inst : Nat) (all : Bool) (base pages : Nat) (pin : Bool) (cmd : Option Nat) :
    ∃ cores v, beginInval s inst all base pages pin cmd
        = { s with cores := cores, xl := { s.xl with l2 := s.xl.l2.filter (fun p => !droppedBy inst all base (base + 4096 * pages) p.2),
                                                     invals := s.xl.invals ++ [v] } }
      ∧ (v.inst = inst ∧ v.all = all ∧ v.base = base ∧ v.pages = pages ∧ v.pin = pin ∧ v.cmd = cmd)
      ∧ ∀ j, (tgetD cores j Core.reset).tlb = (coreOf s j).tlb.filter (fun p => !droppedBy inst all base (base + 4096 * pages) p.2) := by
  have keeps : ∀ c : Core, ({ l1PushAll c with l1 := [] } : Core).tlb = c.tlb := by
    intro c
    rw [l1PushAll_eq]
  have tlbs := coreOf_foldl_modCore Core.tlb (fun x => { l1PushAll x with l1 := [] }) keeps
    (instCores (dropBuffered s inst all base (base + 4096 * pages)) inst) (dropBuffered s inst all base (base + 4096 * pages))
  obtain ⟨cores, shape⟩ := foldl_modCore_shape (fun x => { l1PushAll x with l1 := [] })
    (instCores (dropBuffered s inst all base (base + 4096 * pages)) inst) (dropBuffered s inst all base (base + 4096 * pages))
  rw [shape] at tlbs
  unfold beginInval
  dsimp only
  rw [shape]
  refine ⟨cores, _, rfl, ⟨rfl, rfl, rfl, rfl, rfl, rfl⟩, ?_⟩
  intro j
  refine (tlbs j).trans ?_
  rw [coreOf_tmap (cores_dropBuffered _ _ _ _ _) j]
  split
  · rfl
  · next absent =>
    rw [coreOf_absent absent]
    rfl

/-- What stays in a buffer does not overlap the range. -/
theorem stays_of_not_dropped {inst : Nat} {mode base pages : Nat} {t : Tlb} (known : mode ≤ 1)
    (stays : (!droppedBy inst (mode == 1) base (base + 4096 * pages) t) = true) (own : t.inst = inst) :
    mode = 0 ∧ (base + 4096 * pages ≤ t.va ∨ t.va + t.size ≤ base) := by
  unfold droppedBy at stays
  simp only [own, beq_self_eq_true, Bool.true_and, Bool.not_eq_true', Bool.or_eq_false_iff, beq_eq_false_iff_ne, Bool.and_eq_false_iff,
    decide_eq_false_iff_not] at stays
  obtain ⟨some, apart⟩ := stays
  exact ⟨by omega, by omega⟩

/-- XLATE_INVALIDATE (R280). -/
theorem xlateInvalidate_begins {s : State} {c : Cmd} {x : Ctx} (admits : Admits s.dev 0x31 c x) (mode : eb x.e 17 1 ≤ 1) (pin : eb x.e 18 1 ≤ 1)
    (range : eb x.e 17 1 = 0 → 0 < eb x.e 32 8 ∧ eb x.e 32 8 ≤ 2 ^ 45 ∧ eb x.e 24 8 % 4096 = 0)
    (exists' : insState s.dev (eb x.e 16 1) ≠ 0) (running : insState s.dev (eb x.e 16 1) ≠ 4) :
    ∃ (t : State) (v : Inval), exec (.xlateInvalidate c) s = .next t ∧ SameMem s.dev t.dev ∧ Begins t.dev x ∧ t.dev.xl.invals = s.dev.xl.invals ++ [v]
      ∧ v.inst = eb x.e 16 1 ∧ v.all = (eb x.e 17 1 == 1) ∧ v.base = eb x.e 24 8 ∧ v.pages = eb x.e 32 8 ∧ v.pin = (eb x.e 18 1 == 1)
      ∧ v.cmd = some x.key
      ∧ (∀ j, ∀ p ∈ (coreOf t.dev j).tlb, p ∈ (coreOf s.dev j).tlb
          ∧ (p.2.inst = eb x.e 16 1 → eb x.e 17 1 = 0 ∧ (eb x.e 24 8 + 4096 * eb x.e 32 8 ≤ p.2.va ∨ p.2.va + p.2.size ≤ eb x.e 24 8)))
      ∧ (∀ p ∈ t.dev.xl.l2, p ∈ s.dev.xl.l2
          ∧ (p.2.inst = eb x.e 16 1 → eb x.e 17 1 = 0 ∧ (eb x.e 24 8 + 4096 * eb x.e 32 8 ≤ p.2.va ∨ p.2.va + p.2.size ≤ eb x.e 24 8)))
      ∧ OnlyCmd [Reg.TRN_STATUS (eb x.e 16 1)] s t x
          { s.dev with xl := { s.dev.xl with l2 := t.dev.xl.l2, invals := t.dev.xl.invals }, cores := t.dev.cores } := by
  have unblocked := free_of_admits admits
  obtain ⟨cores, v, shape, ⟨inst, all, base, pages, pinned, cmd⟩, tlbs⟩ := beginInval_eq s.dev (eb x.e 16 1) (eb x.e 17 1 == 1) (eb x.e 24 8)
    (eb x.e 32 8) (eb x.e 18 1 == 1) (some x.key)
  obtain ⟨t, ran, begun⟩ : ∃ t, exec (.xlateInvalidate c) s = .next { s with dev := t }
      ∧ Begun s.dev (fadj (beginInval s.dev (eb x.e 16 1) (eb x.e 17 1 == 1) (eb x.e 24 8) (eb x.e 32 8) (eb x.e 18 1 == 1) (some x.key))
          (RF.TRN_STATUS_INVALIDATES_BUSY (eb x.e 16 1)) 1) t x := by
    refine ⟨_, rfl, command_begins rfl admits ?_ ?_ ?_ ?_⟩
    · refine (afterChecks_pass ?_ _).trans rfl
      simp only [List.forall_mem_append, List.forall_mem_cons, List.not_mem_nil, false_implies, implies_true, and_true]
      refine ⟨⟨?_, ?_, ?_⟩, namedState_pass exists' running⟩
      · simp [mode, pin, Nat.not_lt.mpr]
      · by_cases ranged : eb x.e 17 1 = 0
        · obtain ⟨some, most, -⟩ := range ranged
          simp only [ranged, beq_self_eq_true, Bool.true_and, Bool.or_eq_false_iff, beq_eq_false_iff_ne, decide_eq_false_iff_not, gt_iff_lt, not_lt]
          exact ⟨Nat.ne_of_gt some, most⟩
        · simp [ranged]
      · by_cases ranged : eb x.e 17 1 = 0
        · obtain ⟨-, -, aligned⟩ := range ranged
          simp [aligned]
        · simp [ranged]
    · rw [shape]
      exact unblocked
    · rw [shape]
      rfl
    · rw [shape]
      rfl
  rw [shape] at begun
  have regs := sameRegsBut_fset { s.dev with cores := cores, xl := { s.dev.xl with
    l2 := s.dev.xl.l2.filter (fun p => !droppedBy (eb x.e 16 1) (eb x.e 17 1 == 1) (eb x.e 24 8) (eb x.e 24 8 + 4096 * eb x.e 32 8) p.2),
    invals := s.dev.xl.invals ++ [v] } } (RF.TRN_STATUS_INVALIDATES_BUSY (eb x.e 16 1))
  obtain ⟨store, dram, regs', closed⟩ := begun.shape
  have xl : t.xl = { s.dev.xl with
      l2 := s.dev.xl.l2.filter (fun p => !droppedBy (eb x.e 16 1) (eb x.e 17 1 == 1) (eb x.e 24 8) (eb x.e 24 8 + 4096 * eb x.e 32 8) p.2),
      invals := s.dev.xl.invals ++ [v] } := by
    rw [closed]
    rfl
  have kept : t.cores = cores := by
    rw [closed]
    rfl
  refine ⟨_, v, ran, (sameMem_of_dram rfl).trans begun.mem, begun.begins, ?_, inst, all, base, pages, pinned, cmd, ?_, ?_,
    begun.onlyCmd ?_ (regs _)⟩
  · rw [withDev_dev, xl]
  · intro j p member
    have tlb : (coreOf t j).tlb = (coreOf s.dev j).tlb.filter
        (fun p => !droppedBy (eb x.e 16 1) (eb x.e 17 1 == 1) (eb x.e 24 8) (eb x.e 24 8 + 4096 * eb x.e 32 8) p.2) :=
      (congrArg (fun l => (tgetD l j Core.reset).tlb) kept).trans (tlbs j)
    rw [withDev_dev, tlb] at member
    obtain ⟨held, stays⟩ := List.mem_filter.mp member
    exact ⟨held, stays_of_not_dropped mode stays⟩
  · intro p member
    rw [withDev_dev, xl] at member
    obtain ⟨held, stays⟩ := List.mem_filter.mp member
    exact ⟨held, stays_of_not_dropped mode stays⟩
  · rw [closed]
    rfl

/-- A module whose longest drain is brought up to date (R281). -/
def longestDrain (s : Dev) (inst : Nat) (v : Inval) : Dev :=
  if s.time.hw - v.tick > fget s (RF.TRN_DRAIN_MAX_TICKS inst) then fset s (RF.TRN_DRAIN_MAX_TICKS inst) (min (s.time.hw - v.tick) (2 ^ 32 - 1)) else s

/-- A module that has counted an invalidation. -/
def drainCounted (s : Dev) (inst : Nat) (v : Inval) : Dev :=
  bump (fadj (longestDrain s inst v) (RF.TRN_STATUS_INVALIDATES_BUSY inst) (-1)) (Reg.TRN_CNT_INVALIDATES inst)

/-- A module in which an invalidation has drained (R280, R281). -/
def drainedOf (s : Dev) (inst : Nat) (v : Inval) : Dev :=
  { drainCounted s inst v with xl := { (drainCounted s inst v).xl with invals := (drainCounted s inst v).xl.invals.erase v } }

theorem drainCounted_shape (s : Dev) (inst : Nat) (v : Inval) : ∃ regs, drainCounted s inst v = { s with regs := regs } := by
  unfold drainCounted longestDrain
  split
  · exact ⟨_, rfl⟩
  · exact ⟨_, rfl⟩

theorem regRead_longestDrain (s : Dev) (inst : Nat) (v : Inval) {o : Nat} (apart : o ≠ Reg.TRN_DRAIN_MAX inst) :
    regRead (longestDrain s inst v) o = regRead s o := by
  unfold longestDrain
  split
  · exact regRead_fset_other _ _ _ _ apart
  · rfl

theorem regRead_drainCounted (s : Dev) (inst : Nat) (v : Inval) :
    regRead (drainCounted s inst v) (Reg.TRN_CNT_INVALIDATES inst) = (regRead s (Reg.TRN_CNT_INVALIDATES inst) + 1) % 2 ^ 64 := by
  have longest : Reg.TRN_CNT_INVALIDATES inst ≠ Reg.TRN_DRAIN_MAX inst := by
    show 0x170020 + 64 * inst ≠ 0x170028 + 64 * inst
    omega
  have status : Reg.TRN_CNT_INVALIDATES inst ≠ (RF.TRN_STATUS_INVALIDATES_BUSY inst).off := by
    show 0x170020 + 64 * inst ≠ 0x170008 + 64 * inst
    omega
  unfold drainCounted
  rw [regRead_bump_same, fadj, regRead_fset_other _ _ _ _ status, regRead_longestDrain _ _ _ longest]

/-- INVALIDATE_DRAIN_COMPLETE of a command's invalidation (R280). -/
theorem invalidateDrainComplete_ends {s : State} {inst key : Nat} {v : Inval} {e : StoreEntry} (known : inst ≤ 32) (unblocked : s.dev.blocked = [])
    (first : s.dev.xl.invals.find? (fun v => v.inst == inst) = some v) (over' : drained s.dev v = true) (cmd : v.cmd = some key)
    (unpinned : v.pin = false) (stored : storeAt s.dev key = some e) (named : entryOp e.entry = 0x31) :
    ∃ t, exec (.invalidateDrainComplete inst) s = .next t ∧ SameMem s.dev t.dev ∧ t.dev.xl.invals = s.dev.xl.invals.erase v
      ∧ Completes s.dev t.dev (laterCtx e) Ret.ok
      ∧ regRead t.dev (Reg.TRN_CNT_INVALIDATES inst) = (regRead s.dev (Reg.TRN_CNT_INVALIDATES inst) + 1) % 2 ^ 64 := by
  have count := regRead_drainCounted s.dev inst v
  have steps : drainStep s.dev inst = completeKey (drainedOf s.dev inst v) key Ret.ok := by
    unfold drainStep
    simp only [first, over', cmd, unpinned, Bool.not_true, Bool.false_and, Bool.false_eq_true, if_false]
    rfl
  obtain ⟨regs, shape⟩ := drainCounted_shape s.dev inst v
  rw [drainedOf, shape] at steps
  rw [shape] at count
  obtain ⟨ended, free⟩ := completeKey_ends (s := s.dev) (u := { s.dev with regs := regs, xl := { s.dev.xl with invals := s.dev.xl.invals.erase v } })
    (sp := ⟨0x31, some 2, [(16, 3), (24, 16)], [], some 16, false, false⟩) (r := Ret.ok) stored (by rw [named]; rfl) (by rw [named]; decide) rfl rfl
    unblocked
  have ran : exec (.invalidateDrainComplete inst) s = .next { s with dev := finish (completeKey
      { s.dev with regs := regs, xl := { s.dev.xl with invals := s.dev.xl.invals.erase v } } key Ret.ok) } := by
    show execInvalidateDrainComplete inst s = _
    unfold execInvalidateDrainComplete
    rw [perform_eq, whole_of_unblocked]
    all_goals rw [steps]
    exact free
  refine ⟨_, ran, (sameMem_of_dram rfl).trans ended.mem, ?_, ended.completes, ?_⟩
  · rw [withDev_dev, ended.shape]
  · have above : ∀ o ∈ logRegs, 0x1E0000 ≤ o := by decide
    have place : Reg.TRN_CNT_INVALIDATES inst = 0x170020 + 64 * inst := rfl
    have shc : Reg.TRN_CNT_INVALIDATES inst ≠ 0x150000 := by omega
    refine (ended.regs _ (fun report => absurd (above _ report) (by omega)) shc).trans count

/-- Settles O39: each command's own effect, ended by its answer at once or at the end of its drain. -/
theorem translationCommands : Obligations.TranslationCommands := by
  unfold Obligations.TranslationCommands
  intro s c x
  refine ⟨?_, ?_, ?_, ?_, ?_⟩
  · intro admits fits aligned exists' running idle unbound
    exact setXlateRoot_sets admits fits aligned exists' running idle unbound
  · rintro i admits rfl least most vector aligned fits bound exists' running shut resumed
    exact setFaultRing_sets admits least most vector aligned fits bound exists' running shut resumed
  · rintro i n r admits rfl known written later exists' running one
    exact resumeBatch_resumes admits known written later exists' running one
  · rintro i admits rfl mode pin range exists' running
    exact xlateInvalidate_begins admits mode pin range exists' running
  · intro inst key v e known unblocked first over' cmd unpinned stored named
    exact invalidateDrainComplete_ends known unblocked first over' cmd unpinned stored named

end Sys2Proof.Machine
end

section
/-!
SUPPORT. The cadence of a class (R312).
-/
namespace Sys2Proof.Machine

/-- The cadence that a class goes on with after a window (R312). -/
def nextCadence (w : ClassWindow) (cad tgt lo hi : Nat) : Nat :=
  if w.batches = 0 then cad
  else if w.maxLat > 50 * tgt then max lo (cad / 2)
  else if 2 * w.maxLat ≤ 50 * tgt ∧ 2 * w.fill < w.batches * 2 ^ 32 then min hi (cad + 500)
  else cad

/-- The registers of a class. -/
def classRegs (k : Nat) : List Nat := [Reg.SES_CLASS_CFG k, Reg.SES_CLASS_LAT k]

theorem cfg_ne_lat (j k : Nat) : Reg.SES_CLASS_CFG j ≠ Reg.SES_CLASS_LAT k := by
  show 0x180100 + 32 * j ≠ 0x180108 + 32 * k
  omega

theorem cfg_ne_cfg {j k : Nat} (other : j ≠ k) : Reg.SES_CLASS_CFG j ≠ Reg.SES_CLASS_CFG k := by
  show 0x180100 + 32 * j ≠ 0x180100 + 32 * k
  omega

/-- Registers that the log does not report. -/
theorem cfg_not_log {k : Nat} (known : k < 8) : ¬ isLogReg (Reg.SES_CLASS_CFG k) := by
  rw [← mem_logRegs]
  have above : ∀ o ∈ logRegs, 0x1E0000 ≤ o := by decide
  intro report
  have := above _ report
  have place : Reg.SES_CLASS_CFG k = 0x180100 + 32 * k := rfl
  omega

/-- What a class's window shows of it (R312). -/
def latencyShown (s : Dev) (k lat fill : Nat) : Dev := fset (fset s (RF.SES_CLASS_LAT_MAX_LAT_US k) lat) (RF.SES_CLASS_LAT_FILL_PCT k) fill

theorem onlyLogAnd_fset {l : List Nat} (s : Dev) (f : Fld) (v : Nat) (named : f.off ∈ l) : OnlyLogAnd l s (fset s f v) := onlyLogAnd_regWrite s _ named

theorem latencyShown_leaves (s : Dev) (k lat fill : Nat) : OnlyLogAnd (classRegs k) s (latencyShown s k lat fill) := by
  have named : Reg.SES_CLASS_LAT k ∈ classRegs k := by simp [classRegs]
  exact (onlyLogAnd_fset _ (RF.SES_CLASS_LAT_MAX_LAT_US k) _ named).trans (onlyLogAnd_fset _ (RF.SES_CLASS_LAT_FILL_PCT k) _ named)

theorem fget_latencyShown (s : Dev) (k lat fill : Nat) (f : Fld) {j : Nat} (cfg : f.off = Reg.SES_CLASS_CFG j) :
    fget (latencyShown s k lat fill) f = fget s f := by
  have apart : f.off ≠ Reg.SES_CLASS_LAT k := by
    rw [cfg]
    exact cfg_ne_lat j k
  unfold latencyShown
  rw [fget_fset_reg _ _ _ _ apart, fget_fset_reg _ _ _ _ apart]

/-- A class with another cadence, entered in the log (R312, R436). -/
def cadenceSet (s : Dev) (k new : Nat) : Dev :=
  let t := fset s (RF.SES_CLASS_CFG_CADENCE_US k) new
  logFw t 1 (Reg.SES_CLASS_CFG k) (regRead s (Reg.SES_CLASS_CFG k)) (regRead t (Reg.SES_CLASS_CFG k))

theorem cadenceSet_leaves (s : Dev) (k new : Nat) : OnlyLogAnd (classRegs k) s (cadenceSet s k new) := by
  have named : Reg.SES_CLASS_CFG k ∈ classRegs k := by simp [classRegs]
  exact (onlyLogAnd_fset _ (RF.SES_CLASS_CFG_CADENCE_US k) _ named).trans ((onlyLog_logAdd _ _ _ _ _ _ _ _ _).and _)

theorem regRead_cadenceSet (s : Dev) (k new : Nat) {j : Nat} (known : j < 8) :
    regRead (cadenceSet s k new) (Reg.SES_CLASS_CFG j) = regRead (fset s (RF.SES_CLASS_CFG_CADENCE_US k) new) (Reg.SES_CLASS_CFG j) :=
  (onlyLog_logAdd (fset s (RF.SES_CLASS_CFG_CADENCE_US k) new) 5 0 0 1 (Reg.SES_CLASS_CFG k) 0xFF (regRead s (Reg.SES_CLASS_CFG k)) _).regs _
    (cfg_not_log known)

/-- The window of a class. -/
def windowOf (s : Dev) (k : Nat) : ClassWindow := tgetD s.fe.windows k ⟨0, 0, 0⟩

/-- A class's next cadence, by its registers and its window. -/
def cadenceOf (s : Dev) (k : Nat) : Nat :=
  nextCadence (windowOf s k) (fget s (RF.SES_CLASS_CFG_CADENCE_US k)) (fget s (RF.SES_CLASS_CFG_TARGET_US k)) (fget s (RF.SES_CLASS_CFG_CAD_MIN_US k))
    (fget s (RF.SES_CLASS_CFG_CAD_MAX_US k))

theorem cadenceOf_lt (s : Dev) (k : Nat) : cadenceOf s k < 65536 := by
  have cad : fget s (RF.SES_CLASS_CFG_CADENCE_US k) < 65536 := bitsOf_lt _ _ _
  have lo : fget s (RF.SES_CLASS_CFG_CAD_MIN_US k) < 65536 := bitsOf_lt _ _ _
  have hi : fget s (RF.SES_CLASS_CFG_CAD_MAX_US k) < 65536 := bitsOf_lt _ _ _
  unfold cadenceOf nextCadence
  split_ifs
  all_goals omega

/-- What CADENCE_ADJUST does to a class: what it shows, and its cadence where it changes (R312). -/
theorem adjustClass_eq (s : Dev) (k : Nat) :
    ∃ lat fill, adjustClass s k = if cadenceOf s k = fget s (RF.SES_CLASS_CFG_CADENCE_US k) then latencyShown s k lat fill
      else cadenceSet (latencyShown s k lat fill) k (cadenceOf s k) := by
  by_cases empty : (windowOf s k).batches = 0
  · refine ⟨0, 0, ?_⟩
    have same : cadenceOf s k = fget s (RF.SES_CLASS_CFG_CADENCE_US k) := if_pos empty
    unfold windowOf at empty
    rw [if_pos same]
    unfold adjustClass
    rw [if_pos empty]
    rfl
  · refine ⟨(windowOf s k).maxLat / 50, (windowOf s k).fill * 100 / ((windowOf s k).batches * 2 ^ 32), ?_⟩
    have shown := fun (f : Fld) (cfg : f.off = Reg.SES_CLASS_CFG k) =>
      fget_latencyShown s k ((windowOf s k).maxLat / 50) ((windowOf s k).fill * 100 / ((windowOf s k).batches * 2 ^ 32)) f cfg
    have new : cadenceOf s k = (if (windowOf s k).maxLat > usTicks (fget s (RF.SES_CLASS_CFG_TARGET_US k)) then
          max (fget s (RF.SES_CLASS_CFG_CAD_MIN_US k)) (fget s (RF.SES_CLASS_CFG_CADENCE_US k) / 2)
        else if 2 * (windowOf s k).maxLat ≤ usTicks (fget s (RF.SES_CLASS_CFG_TARGET_US k)) ∧ 2 * (windowOf s k).fill < (windowOf s k).batches * 2 ^ 32 then
          min (fget s (RF.SES_CLASS_CFG_CAD_MAX_US k)) (fget s (RF.SES_CLASS_CFG_CADENCE_US k) + 500)
        else fget s (RF.SES_CLASS_CFG_CADENCE_US k)) := by
      unfold cadenceOf nextCadence usTicks
      rw [if_neg empty]
    rw [new, ← shown (RF.SES_CLASS_CFG_CADENCE_US k) rfl, ← shown (RF.SES_CLASS_CFG_TARGET_US k) rfl, ← shown (RF.SES_CLASS_CFG_CAD_MIN_US k) rfl,
      ← shown (RF.SES_CLASS_CFG_CAD_MAX_US k) rfl]
    unfold windowOf at empty
    unfold adjustClass
    rw [if_neg empty]
    rfl

/-- A class after CADENCE_ADJUST has come to it: its limits and target as before, its cadence the next; other classes as before. -/
theorem adjustClass_leaves (s : Dev) {k : Nat} (known : k < 8) :
    OnlyLogAnd (classRegs k) s (adjustClass s k)
      ∧ fget (adjustClass s k) (RF.SES_CLASS_CFG_CADENCE_US k) = cadenceOf s k
      ∧ (∀ f : Fld, f.off = Reg.SES_CLASS_CFG k → f.lo + f.width ≤ 48 → fget (adjustClass s k) f = fget s f)
      ∧ ∀ j, j < 8 → j ≠ k → regRead (adjustClass s k) (Reg.SES_CLASS_CFG j) = regRead s (Reg.SES_CLASS_CFG j) := by
  obtain ⟨lat, fill, adjusted⟩ := adjustClass_eq s k
  have shown := latencyShown_leaves s k lat fill
  have reads : ∀ j, regRead (latencyShown s k lat fill) (Reg.SES_CLASS_CFG j) = regRead s (Reg.SES_CLASS_CFG j) := by
    intro j
    unfold latencyShown
    have apart : Reg.SES_CLASS_CFG j ≠ Reg.SES_CLASS_LAT k := cfg_ne_lat j k
    rw [regRead_fset_other _ _ _ _ apart, regRead_fset_other _ _ _ _ apart]
  have field : ∀ f : Fld, f.off = Reg.SES_CLASS_CFG k → fget (latencyShown s k lat fill) f = fget s f :=
    fun f cfg => fget_latencyShown s k lat fill f cfg
  rw [adjusted]
  split
  · next same => exact ⟨shown, (field _ rfl).trans same.symm, fun f cfg _ => field f cfg, fun j _ _ => reads j⟩
  · refine ⟨shown.trans (cadenceSet_leaves _ _ _), ?_, ?_, ?_⟩
    · refine (congrArg (fun v => bitsOf v 48 16) (regRead_cadenceSet _ k _ known)).trans ?_
      exact (fget_fset_same _ (RF.SES_CLASS_CFG_CADENCE_US k) _ (by show 48 + 16 ≤ 64; omega)).trans (Nat.mod_eq_of_lt (cadenceOf_lt s k))
    · intro f cfg low
      have own : fget (cadenceSet (latencyShown s k lat fill) k (cadenceOf s k)) f
          = fget (fset (latencyShown s k lat fill) (RF.SES_CLASS_CFG_CADENCE_US k) (cadenceOf s k)) f := by
        unfold fget
        rw [cfg, regRead_cadenceSet _ k _ known]
      rw [own, fget_fset_bits _ (RF.SES_CLASS_CFG_CADENCE_US k) f _ cfg (by omega) (.inl low), field f cfg]
    · intro j small other
      rw [regRead_cadenceSet _ k _ small, regRead_fset_other _ _ _ _ (cfg_ne_cfg other), reads]

/-- The classes of a list after CADENCE_ADJUST has come to each of them, once. -/
theorem adjustClass_all (s : Dev) {l : List Nat} (once : l.Nodup) (known : ∀ k ∈ l, k < 8) :
    OnlyLogAnd (l.flatMap classRegs) s (l.foldl adjustClass s)
      ∧ (∀ k ∈ l, fget (l.foldl adjustClass s) (RF.SES_CLASS_CFG_CADENCE_US k) = cadenceOf s k)
      ∧ (∀ k ∈ l, ∀ f : Fld, f.off = Reg.SES_CLASS_CFG k → f.lo + f.width ≤ 48 → fget (l.foldl adjustClass s) f = fget s f)
      ∧ ∀ j, j < 8 → j ∉ l → regRead (l.foldl adjustClass s) (Reg.SES_CLASS_CFG j) = regRead s (Reg.SES_CLASS_CFG j) := by
  induction l generalizing s with
  | nil => exact ⟨(OnlyLog.refl s).and _, by simp, by simp, fun _ _ _ => rfl⟩
  | cons k l ih =>
    obtain ⟨absent, once'⟩ := List.nodup_cons.mp once
    have small : k < 8 := known k (List.mem_cons_self ..)
    obtain ⟨first, cadence, limits, others⟩ := adjustClass_leaves s small
    obtain ⟨rest, cadences, limits', others'⟩ := ih (adjustClass s k) once' (fun j member => known j (List.mem_cons_of_mem _ member))
    have ne : ∀ j ∈ l, j ≠ k := fun j member same => absent (same ▸ member)
    have keeps : ∀ (j : Nat), j < 8 → j ≠ k → ∀ f : Fld, f.off = Reg.SES_CLASS_CFG j → fget (adjustClass s k) f = fget s f := by
      intro j below other f cfg
      unfold fget
      rw [cfg, others j below other]
    have own : ∀ f : Fld, f.off = Reg.SES_CLASS_CFG k → fget (l.foldl adjustClass (adjustClass s k)) f = fget (adjustClass s k) f := by
      intro f cfg
      unfold fget
      rw [cfg, others' k small absent]
    refine ⟨?_, ?_, ?_, ?_⟩
    · have wide : ∀ {m n : List Nat} {a b : Dev}, OnlyLogAnd m a b → (∀ o ∈ m, o ∈ n) → OnlyLogAnd n a b := by
        intro m n a b only sub
        refine ⟨fun o out shc => only.regs o (fun named => out ?_) shc, only.rest⟩
        rcases List.mem_append.mp named with named | report
        · exact List.mem_append_left _ (sub o named)
        · exact List.mem_append_right _ report
      rw [List.foldl_cons]
      refine (wide first ?_).trans (wide rest ?_)
      · exact fun o named => List.mem_flatMap.mpr ⟨k, List.mem_cons_self .., named⟩
      · intro o named
        obtain ⟨j, member, reg⟩ := List.mem_flatMap.mp named
        exact List.mem_flatMap.mpr ⟨j, List.mem_cons_of_mem _ member, reg⟩
    · intro j member
      rw [List.foldl_cons]
      rcases List.mem_cons.mp member with rfl | later
      · exact (own _ rfl).trans cadence
      · have below := known j member
        have window : windowOf (adjustClass s k) j = windowOf s j := by
          unfold windowOf
          rw [first.rest]
        rw [cadences j later]
        unfold cadenceOf
        rw [window, keeps j below (ne j later) _ rfl, keeps j below (ne j later) _ rfl, keeps j below (ne j later) _ rfl,
          keeps j below (ne j later) _ rfl]
    · intro j member f cfg low
      rw [List.foldl_cons]
      rcases List.mem_cons.mp member with rfl | later
      · exact (own f cfg).trans (limits f cfg low)
      · exact (limits' j later f cfg low).trans (keeps j (known j member) (ne j later) f cfg)
    · intro j below absent'
      rw [List.mem_cons, not_or] at absent'
      rw [List.foldl_cons, others' j below absent'.2, others j below absent'.1]

/-- CADENCE_ADJUST (R312). -/
theorem exec_cadenceAdjust {s : State} (ready : serving s.dev = true) :
    ∃ t, exec .cadenceAdjust s = .next t ∧ SameMem s.dev t.dev ∧ t.dev.fe.windows = []
      ∧ (∀ k, k < 8 → fget t.dev (RF.SES_CLASS_CFG_CADENCE_US k) = cadenceOf s.dev k
          ∧ ∀ f : Fld, f.off = Reg.SES_CLASS_CFG k → f.lo + f.width ≤ 48 → fget t.dev f = fget s.dev f)
      ∧ OnlyIn ((List.range 8).map Reg.SES_CLASS_CFG ++ (List.range 8).map Reg.SES_CLASS_LAT ++ logRegs) s t
          { s.dev with fe := { s.dev.fe with windows := [] }, log := t.dev.log, flash := { s.dev.flash with romLog := t.dev.flash.romLog } } := by
  obtain ⟨only, cadences, limits, -⟩ := adjustClass_all s.dev (l := List.range 8) List.nodup_range (fun k member => List.mem_range.mp member)
  have ran : exec .cadenceAdjust s = .next { s with dev := finish { (List.range 8).foldl adjustClass s.dev with
      fe := { ((List.range 8).foldl adjustClass s.dev).fe with windows := [] } } } := by
    show execCadenceAdjust s = _
    unfold execCadenceAdjust
    rw [perform_eq]
    simp only [ready, Bool.not_true, Bool.false_eq_true, if_false]
  generalize (List.range 8).foldl adjustClass s.dev = u at only cadences limits ran
  have field : ∀ f : Fld, f.off ≠ 0x150000 → fget (finish { u with fe := { u.fe with windows := [] } }) f = fget u f :=
    fun f shc => fget_finish _ f shc
  refine ⟨_, ran, sameMem_finish ?_, rfl, ?_, onlyIn_finish ?_ ?_⟩
  · rw [only.rest]
  · intro k below
    have shc : Reg.SES_CLASS_CFG k ≠ 0x150000 := by
      show 0x180100 + 32 * k ≠ 0x150000
      omega
    have member := List.mem_range.mpr below
    refine ⟨(field _ shc).trans (cadences k member), ?_⟩
    intro f cfg low
    exact (field f (by rw [cfg]; exact shc)).trans (limits k member f cfg low)
  · obtain ⟨regs, log, rom, rfl⟩ : ∃ regs log rom, u = { s.dev with regs := regs, log := log, flash := { s.dev.flash with romLog := rom } } :=
      ⟨_, _, _, only.rest⟩
    rfl
  · intro o others shc
    refine only.regs o (fun named => others ?_) shc
    rcases List.mem_append.mp named with named | report
    · obtain ⟨k, member, reg⟩ := List.mem_flatMap.mp named
      rcases List.mem_cons.mp reg with rfl | lat
      · exact List.mem_append_left _ (List.mem_append_left _ (List.mem_map.mpr ⟨k, member, rfl⟩))
      · rw [List.mem_singleton] at lat
        subst lat
        exact List.mem_append_left _ (List.mem_append_right _ (List.mem_map.mpr ⟨k, member, rfl⟩))
    · exact List.mem_append_right _ report

end Sys2Proof.Machine
end

section
/-!
The obligation on the batch former (R309, R310, R312).
-/
namespace Sys2Proof.Machine

/-! ### Sessions in the table -/

/-- A session's entry that is written and not Closed. -/
theorem tget_putSession_same (s : Dev) (n : Nat) {x : Session} (live : x.state ≠ .closed) : tget (putSession s n x).fe.sessions n = some x := by
  unfold putSession
  dsimp only
  rw [if_neg live]
  split
  · exact tget_tset_same _ _ _
  · exact tget_tset_same _ _ _

theorem tget_putSession_other (s : Dev) (n : Nat) (x : Session) {m : Nat} (other : m ≠ n) :
    tget (putSession s n x).fe.sessions m = tget s.fe.sessions m := by
  unfold putSession
  dsimp only
  split_ifs
  · exact tget_tdel_other _ _ _ other
  · exact tget_tdel_other _ _ _ other
  · exact tget_tset_other _ _ _ _ other
  · exact tget_tset_other _ _ _ _ other

theorem tget_touchSession (s : Dev) (n m : Nat) : tget (touchSession s n).fe.sessions m = tget s.fe.sessions m := by
  unfold touchSession
  split
  · rfl
  · rfl

theorem sesAt_of_tget {s : Dev} {n : Nat} {x : Session} (here : tget s.fe.sessions n = some x) : sesAt s n = x := by
  unfold sesAt tgetD
  rw [here]
  rfl

/-- Sessions, their cache and the counts of sessions may differ. -/
structure SessionsOnly (s t : Dev) : Prop where
  shape : ∃ regs sessions cache, t = { s with regs := regs, fe := { s.fe with sessions := sessions, cache := cache } }
  regs : SameRegsBut sessionRegs s t

theorem SessionsOnly.refl (s : Dev) : SessionsOnly s s := ⟨⟨_, _, _, rfl⟩, fun _ _ _ => rfl⟩

theorem SessionsOnly.trans {s t u : Dev} (h : SessionsOnly s t) (k : SessionsOnly t u) : SessionsOnly s u := by
  obtain ⟨regs, sessions, cache, rfl⟩ := h.shape
  obtain ⟨regs', sessions', cache', rfl⟩ := k.shape
  exact ⟨⟨_, _, _, rfl⟩, fun o others shc => (k.regs o others shc).trans (h.regs o others shc)⟩

theorem sessionsOnly_putSession (s : Dev) (n : Nat) (x : Session) : SessionsOnly s (putSession s n x) := by
  have status : Reg.SES_STATUS ∈ sessionRegs := by simp [sessionRegs]
  have failed : Reg.SES_CNT_FAILED ∈ sessionRegs := by simp [sessionRegs]
  unfold putSession fadj
  dsimp only
  refine ⟨?_, ?_⟩
  · split
    · exact ⟨_, _, _, rfl⟩
    · exact ⟨_, _, _, rfl⟩
  · intro o others _
    have apart : o ≠ Reg.SES_STATUS := fun same => others (same ▸ status)
    have uncounted : o ≠ Reg.SES_CNT_FAILED := fun same => others (same ▸ failed)
    have counts : ∀ d : Dev, regRead (if x.state = .failed ∧ (sesAt s n).state ≠ .failed then bump d Reg.SES_CNT_FAILED else d) o = regRead d o := by
      intro d
      split
      · exact regRead_bump_other _ _ _ uncounted
      · rfl
    refine (counts _).trans ?_
    rw [regRead_fset_other _ _ _ _ apart, regRead_fset_other _ _ _ _ apart, regRead_fset_other _ _ _ _ apart]

theorem sessionsOnly_touchSession (s : Dev) (n : Nat) : SessionsOnly s (touchSession s n) := by
  have misses : Reg.SES_CNT_CACHE_MISSES ∈ sessionRegs := by simp [sessionRegs]
  unfold touchSession
  split
  · exact SessionsOnly.refl s
  · exact ⟨⟨_, _, _, rfl⟩, fun o others _ => regRead_bump_other _ _ _ (fun same => others (same ▸ misses))⟩

/-- Writing sessions leaves the journals' registers. -/
theorem SessionsOnly.jnlMode {s t : Dev} (h : SessionsOnly s t) (i : Nat) : Machine.jnlMode t i = Machine.jnlMode s i := by
  have below : ∀ o ∈ sessionRegs, o < 0x181000 := by decide
  have place : Reg.SES_JNL_STATUS i = 0x181000 + 32 * i := rfl
  have apart : Reg.SES_JNL_STATUS i ∉ sessionRegs := fun named => absurd (below _ named) (by omega)
  have shc : Reg.SES_JNL_STATUS i ≠ 0x150000 := by omega
  exact congrArg (fun v => bitsOf v 0 2) (h.regs _ apart shc)

/-- An instance that does not record forms no record (R321). -/
theorem jnlRecord_of_mode {s : Dev} {i : Nat} (mode : jnlMode s i ≠ 1) (kind flags ring step session aux : Nat) (payload : List Byte) :
    jnlRecord s i kind flags ring step session aux payload = s := by
  unfold jnlRecord
  rw [if_pos (.inl mode)]

/-! ### Batches -/

/-- A session begins its step (R309). -/
def startStep (s : Dev) (n : Nat) : Dev := putSession (touchSession s n) n { sesAt s n with state := .running }

theorem sessionsOnly_startStep (s : Dev) (n : Nat) : SessionsOnly s (startStep s n) :=
  (sessionsOnly_touchSession s n).trans (sessionsOnly_putSession _ _ _)

theorem tget_startStep (s : Dev) (n m : Nat) :
    tget (startStep s n).fe.sessions m = if m = n then some { sesAt s n with state := .running } else tget s.fe.sessions m := by
  unfold startStep
  split
  · next own =>
    subst own
    exact tget_putSession_same _ _ (fun closed => SesState.noConfusion closed)
  · next other => exact (tget_putSession_other _ _ _ other).trans (tget_touchSession s n m)

theorem sessionsOnly_startSteps (s : Dev) (l : List Nat) : SessionsOnly s (l.foldl startStep s) :=
  List.foldlRecOn (motive := fun t => SessionsOnly s t) _ _ (SessionsOnly.refl s) (fun _ h n _ => h.trans (sessionsOnly_startStep _ n))

/-- A session that runs with a step goes on so, and those of a list are Running with their step. -/
def RunsAt (t : Dev) (n step : Nat) : Prop := ∃ x, tget t.fe.sessions n = some x ∧ x.state = .running ∧ x.step = step

theorem RunsAt.startStep {t : Dev} {n step : Nat} (runs : RunsAt t n step) (m : Nat) : RunsAt (startStep t m) n step := by
  obtain ⟨x, here, state, own⟩ := runs
  unfold RunsAt
  rw [tget_startStep]
  split
  · next same =>
    subst same
    rw [sesAt_of_tget here]
    exact ⟨_, rfl, rfl, own⟩
  · exact ⟨x, here, state, own⟩

theorem RunsAt.startSteps {t : Dev} {n step : Nat} (runs : RunsAt t n step) (l : List Nat) : RunsAt (l.foldl Machine.startStep t) n step :=
  List.foldlRecOn (motive := fun t => RunsAt t n step) _ _ runs (fun _ h m _ => h.startStep m)

/-- A session's step follows from its place in the table. -/
theorem step_congr {s t : Dev} {n : Nat} (same : tget t.fe.sessions n = tget s.fe.sessions n) : (sesAt t n).step = (sesAt s n).step := by
  unfold sesAt tgetD
  rw [same]
  cases tget s.fe.sessions n with
  | none => rfl
  | some x => rfl

/-- The sessions of a list are Running, each with its step. -/
theorem runsAt_startSteps (s : Dev) (l : List Nat) : ∀ n ∈ l, RunsAt (l.foldl startStep s) n (sesAt s n).step := by
  induction l generalizing s with
  | nil => simp
  | cons m l ih =>
    have first : RunsAt (startStep s m) m (sesAt s m).step := by
      unfold RunsAt
      rw [tget_startStep, if_pos rfl]
      exact ⟨_, rfl, rfl, rfl⟩
    intro n member
    rw [List.foldl_cons]
    by_cases own : n = m
    · subst own
      exact first.startSteps l
    · have later : n ∈ l := (List.mem_cons.mp member).resolve_left own
      rw [← step_congr (s := s) (t := startStep s m) (by rw [tget_startStep, if_neg own])]
      exact ih (startStep s m) n later

/-- A batch as it is entered (R309, R310). -/
def batchOf (s : Dev) (b : Nat) (bd : Binding) (cls : Nat) (l : List Nat) (seq order : Nat) : Dispatch :=
  { inst := bd.inst, plain := false, bind := b, cls := cls, shape := bd.shape, prog := bd.prog, args := bd.args,
    islands := bd.islands, seed := 0, got := [], cores := [], canon := [], slots := l.map (slotInfo s bd), phase := .waiting, order := order,
    source := none, uregs := [], flags := 0, poisonTiles := 0, code := 0, seq := seq, start := none }

/-- A module with a batch more (R309). -/
def withBatch (u : Dev) (d : Dispatch) (journals : List (Nat × Journal)) : Dev :=
  { u with disp := tset u.disp u.fe.order { d with order := u.fe.order }, fe := { u.fe with journals := journals, order := u.fe.order + 1 } }

/-- A batch that is cut, where the instance records nothing: its sessions are Running, and it waits (R309). -/
theorem cutBatch_eq {s : Dev} {b : Nat} {bd : Binding} {cls : Nat} {l : List Nat} (quiet : jnlMode s bd.inst = 0) (some' : l ≠ [])
    (room : runningCount s + l.length ≤ 16384) :
    ∃ journals seq, cutBatch s b bd cls l = withBatch (l.foldl startStep s) (batchOf s b bd cls l seq 0) journals := by
  have mode : jnlMode (l.foldl startStep s) bd.inst ≠ 1 := by
    rw [(sessionsOnly_startSteps s l).jnlMode, quiet]
    decide
  have empty : (l.isEmpty || decide (runningCount s + l.length > 16384)) = false := by
    rw [Bool.or_eq_false_iff]
    exact ⟨by simpa using some', decide_eq_false (by omega)⟩
  have unrecorded : ∀ (f : Journal → Journal) (aux : Nat) (payload : List Byte),
      jnlRecord (modJnl (l.foldl startStep s) bd.inst f) bd.inst 5 0 0xFFFF 0 0xFFFFFFFF aux payload = modJnl (l.foldl startStep s) bd.inst f :=
    fun f aux payload => jnlRecord_of_mode (s := modJnl (l.foldl startStep s) bd.inst f) mode _ _ _ _ _ _ _
  have steps : (fun (s : Dev) (n : Nat) => putSession (touchSession s n) n { sesAt s n with state := .running }) = startStep := rfl
  unfold cutBatch
  rw [empty]
  simp only [Bool.false_eq_true, if_false]
  rw [steps, unrecorded]
  exact ⟨_, _, rfl⟩

/-- Where nothing is cut because there is no room or no session, the batch former leaves the module. -/
theorem cutBatch_cases {s : Dev} {b : Nat} {bd : Binding} {cls : Nat} (l : List Nat) (quiet : jnlMode s bd.inst = 0) :
    cutBatch s b bd cls l = s ∨ ∃ journals seq, cutBatch s b bd cls l = withBatch (l.foldl startStep s) (batchOf s b bd cls l seq 0) journals := by
  by_cases some' : l ≠ [] ∧ runningCount s + l.length ≤ 16384
  · obtain ⟨members, room⟩ := some'
    exact .inr (cutBatch_eq quiet members room)
  · left
    have none : (l.isEmpty || decide (runningCount s + l.length > 16384)) = true := by
      rw [Bool.or_eq_true, List.isEmpty_iff, decide_eq_true_iff]
      by_contra both
      rw [not_or] at both
      exact some' ⟨both.1, by omega⟩
    unfold cutBatch
    rw [none]
    rfl

/-- What the batch former keeps once it has cut a batch: the batch, and that its sessions run. -/
structure Formed (s t : Dev) (order : Nat) (d : Dispatch) (l : List Nat) (b : Nat) (bd : Binding) : Prop where
  batch : tget t.disp order = some d
  next : order < t.fe.order
  runs : ∀ n ∈ l, RunsAt t n (sesAt s n).step
  dram : t.dram = s.dram
  free : t.blocked = []
  bindings : bindAt t b = some bd
  quiet : jnlMode t bd.inst = 0

theorem Formed.cut {s t : Dev} {order : Nat} {d : Dispatch} {l : List Nat} {b : Nat} {bd : Binding} (formed : Formed s t order d l b bd) (cls : Nat)
    (m : List Nat) : Formed s (cutBatch t b bd cls m) order d l b bd := by
  rcases cutBatch_cases (b := b) (cls := cls) m formed.quiet with same | ⟨journals, seq, cut⟩
  · rw [same]
    exact formed
  · have sessions := sessionsOnly_startSteps t m
    have quiet := sessions.jnlMode bd.inst
    have runs := fun n member => (formed.runs n member).startSteps m
    obtain ⟨regs, ses, cache, shape⟩ := sessions.shape
    rw [cut]
    rw [shape] at quiet runs ⊢
    refine ⟨?_, Nat.lt_succ_of_lt formed.next, runs, formed.dram, formed.free, formed.bindings, quiet.trans formed.quiet⟩
    exact (tget_tset_other _ _ _ _ formed.next.ne).trans formed.batch

/-- A count of misses changes nothing that the batch former keeps. -/
theorem Formed.bump {s t : Dev} {order : Nat} {d : Dispatch} {l : List Nat} {b : Nat} {bd : Binding} (formed : Formed s t order d l b bd)
    (cls : Nat) : Formed s (Machine.bump t (Reg.SES_CLASS_CNT_MISSES cls)) order d l b bd := by
  refine ⟨formed.batch, formed.next, formed.runs, formed.dram, formed.free, formed.bindings, ?_⟩
  have apart : Reg.SES_JNL_STATUS bd.inst ≠ Reg.SES_CLASS_CNT_MISSES cls := by
    show 0x181000 + 32 * bd.inst ≠ 0x180118 + 32 * cls
    omega
  exact (congrArg (fun v => bitsOf v 0 2) (regRead_bump_other _ _ _ apart)).trans formed.quiet

theorem Formed.group {s t : Dev} {order : Nat} {d : Dispatch} {l : List Nat} {b : Nat} {bd : Binding} (formed : Formed s t order d l b bd)
    (cls : Nat) (tick : Bool) (fuel : Nat) : Formed s (cutGroup t b cls tick fuel) order d l b bd := by
  induction fuel generalizing t with
  | zero => exact formed
  | succ fuel ih =>
    unfold cutGroup
    simp only [formed.bindings]
    split
    · split
      · exact formed.bump cls
      · exact formed
    · split
      · exact formed
      · split
        · exact formed
        · exact ih (formed.cut cls _)

/-- The batch that a tick cuts first. -/
theorem formed_cutBatch {s : Dev} {b : Nat} {bd : Binding} {cls : Nat} {l : List Nat} (quiet : jnlMode s bd.inst = 0) (some' : l ≠ [])
    (room : runningCount s + l.length ≤ 16384) (free : s.blocked = []) (bound : bindAt s b = some bd) :
    ∃ seq, Formed s (cutBatch s b bd cls l) s.fe.order (batchOf s b bd cls l seq s.fe.order) l b bd
      ∧ (cutBatch s b bd cls l).fe.order ≠ s.fe.order := by
  obtain ⟨journals, seq, cut⟩ := cutBatch_eq (b := b) (cls := cls) quiet some' room
  have sessions := sessionsOnly_startSteps s l
  have quiet' := sessions.jnlMode bd.inst
  have runs := runsAt_startSteps s l
  obtain ⟨regs, ses, cache, shape⟩ := sessions.shape
  rw [cut]
  rw [shape] at quiet' runs ⊢
  refine ⟨seq, ⟨?_, Nat.lt_succ_self _, runs, rfl, free, bound, quiet'.trans quiet⟩, Nat.succ_ne_self _⟩
  exact tget_tset_same _ _ _

/-- CLASS_TICK with one binding, whose instance forms batches (R309). -/
theorem exec_classTick {s : State} {cls b : Nat} {bd : Binding} (ready : serving s.dev = true) (free : s.dev.blocked = []) (known : cls ≤ 7)
    (only : s.dev.fe.bindings = [(b, bd)]) (forms : formsFor s.dev bd.inst = true) (quiet : jnlMode s.dev bd.inst = 0) (limit : batchLimit s.dev bd ≠ 0)
    (some' : eligible s.dev b cls ≠ [])
    (room : runningCount s.dev + ((eligible s.dev b cls).take (batchLimit s.dev bd)).length ≤ 16384) :
    ∃ (t : State) (d : Dispatch), exec (.classTick cls) s = .next t ∧ SameMem s.dev t.dev ∧ tget t.dev.disp s.dev.fe.order = some d
      ∧ d.phase = .waiting ∧ d.plain = false ∧ d.inst = bd.inst ∧ d.bind = b ∧ d.cls = cls ∧ d.prog = bd.prog ∧ d.shape = bd.shape
      ∧ d.slots.map (·.session) = (eligible s.dev b cls).take (batchLimit s.dev bd)
      ∧ ∀ n ∈ (eligible s.dev b cls).take (batchLimit s.dev bd), (sesAt t.dev n).state = .running ∧ (sesAt t.dev n).step = (sesAt s.dev n).step := by
  have bound : bindAt s.dev b = some bd := by
    unfold bindAt
    rw [only]
    simp [tget]
  have cutSome : (eligible s.dev b cls).take (batchLimit s.dev bd) ≠ [] := by
    rw [Ne, List.take_eq_nil_iff]
    exact fun empty => empty.elim limit some'
  obtain ⟨seq, formed, later⟩ := formed_cutBatch (cls := cls) quiet cutSome room free bound
  have first : cutGroup s.dev b cls true 16385
      = cutGroup (cutBatch s.dev b bd cls ((eligible s.dev b cls).take (batchLimit s.dev bd))) b cls true 16384 := by
    rw [cutGroup]
    simp only [bound, forms, limit, List.isEmpty_eq_false_iff.mpr some', later, Bool.not_true, Bool.false_eq_true, Bool.false_and, Bool.or_self, if_false,
      decide_false]
  have final := formed.group cls true 16384
  rw [← first] at final
  have ran : exec (.classTick cls) s = .next { s with dev := finish (cutGroup s.dev b cls true 16385) } := by
    have tick : (if cls > 7 ∨ (!serving s.dev) = true then s.dev
        else (tkeys s.dev.fe.bindings).foldl (fun s b => cutGroup s b cls true 16385) s.dev) = cutGroup s.dev b cls true 16385 := by
      have go : ¬ (cls > 7 ∨ (!serving s.dev) = true) := by
        rw [ready]
        simp [known]
      rw [if_neg go, only]
      rfl
    show execClassTick cls s = _
    unfold execClassTick
    rw [perform_eq, whole_of_unblocked]
    · rw [tick]
    · rw [tick]
      exact final.free
  refine ⟨_, _, ran, sameMem_finish final.dram, final.batch, rfl, rfl, rfl, rfl, rfl, rfl, rfl, ?_, ?_⟩
  · show ((List.take _ _).map (slotInfo s.dev bd)).map (·.session) = _
    rw [List.map_map]
    exact List.map_id' _
  · intro n member
    obtain ⟨x, here, state, step⟩ := final.runs n member
    have entry : sesAt (finish (cutGroup s.dev b cls true 16385)) n = x := sesAt_of_tget here
    rw [withDev_dev, entry]
    exact ⟨state, step⟩

/-- Settles O28: the first batch of a tick stays while later ones are cut, and each class's cadence is adjusted in its own register. -/
theorem batchFormer : Obligations.BatchFormer := by
  unfold Obligations.BatchFormer
  intro s ready free
  refine ⟨?_, ?_⟩
  · intro cls b bd known only forms quiet limit some' room
    exact exec_classTick ready free known only forms quiet limit some' room
  · obtain ⟨t, ran, mem, windows, classes, rest⟩ := exec_cadenceAdjust ready
    refine ⟨t, ran, mem, windows, ?_, rest⟩
    intro k below
    obtain ⟨cadence, limits⟩ := classes k below
    exact ⟨cadence, limits (RF.SES_CLASS_CFG_CAD_MIN_US k) rfl (by show 0 + 16 ≤ 48; omega),
      limits (RF.SES_CLASS_CFG_CAD_MAX_US k) rfl (by show 16 + 16 ≤ 48; omega), limits (RF.SES_CLASS_CFG_TARGET_US k) rfl (by show 32 + 16 ≤ 48; omega)⟩

end Sys2Proof.Machine
end

section
/-!
SUPPORT. Entries of sessions: which instance holds them, and what writing one leaves (R299, R300).
-/
namespace Sys2Proof.Machine

/-- Writing sessions leaves every register of the instances. -/
theorem SessionsOnly.fget {s t : Dev} (h : SessionsOnly s t) {f : Fld} (above : 0x181000 ≤ f.off) : fget t f = Machine.fget s f := by
  have below : ∀ o ∈ sessionRegs, o < 0x181000 := by decide
  have out : f.off ∉ sessionRegs := fun named => absurd (below _ named) (by omega)
  exact congrArg (fun v => bitsOf v f.lo f.width) (h.regs _ out (by show f.off ≠ 0x150000; omega))

/-- The holder of a session index follows from the instances' registers (R399). -/
theorem holderOfSession_congr {s t : Dev} (same : ∀ f : Fld, 0x1B0000 ≤ f.off → f.off < 0x1B0900 → Machine.fget t f = Machine.fget s f) (n : Nat) :
    holderOfSession t n = holderOfSession s n := by
  have agree : ∀ k ∈ List.range 32, (insState t (k + 1) != 0 && decide (Machine.fget t (RF.INS_SESSIONS_FIRST (k + 1)) ≤ n)
        && decide (n < Machine.fget t (RF.INS_SESSIONS_FIRST (k + 1)) + Machine.fget t (RF.INS_SESSIONS_COUNT (k + 1))))
      = (insState s (k + 1) != 0 && decide (Machine.fget s (RF.INS_SESSIONS_FIRST (k + 1)) ≤ n)
        && decide (n < Machine.fget s (RF.INS_SESSIONS_FIRST (k + 1)) + Machine.fget s (RF.INS_SESSIONS_COUNT (k + 1)))) := by
    intro k known
    rw [List.mem_range] at known
    have state : (RF.INS_STATUS_STATE (k + 1)).off = 0x1B0000 + 64 * (k + 1) := rfl
    have range : (RF.INS_SESSIONS_FIRST (k + 1)).off = 0x1B0000 + 64 * (k + 1) + 0x10 := rfl
    have count : (RF.INS_SESSIONS_COUNT (k + 1)).off = 0x1B0000 + 64 * (k + 1) + 0x10 := rfl
    unfold insState
    rw [same (RF.INS_STATUS_STATE (k + 1)) (by omega) (by omega), same (RF.INS_SESSIONS_FIRST (k + 1)) (by omega) (by omega),
      same (RF.INS_SESSIONS_COUNT (k + 1)) (by omega) (by omega)]
  unfold holderOfSession
  rw [List.find?_congr agree]

theorem SessionsOnly.holder {s t : Dev} (h : SessionsOnly s t) (n : Nat) : holderOfSession t n = holderOfSession s n :=
  holderOfSession_congr (fun _ above _ => h.fget (by omega)) n

/-- A session's entry follows from its place in the table and from its holder. -/
theorem sesAt_congr {s t : Dev} {n : Nat} (same : tget t.fe.sessions n = tget s.fe.sessions n) (holder : holderOfSession t n = holderOfSession s n) :
    sesAt t n = sesAt s n := by
  unfold sesAt tgetD
  rw [same, holder]

@[simp] theorem sesAt_touchSession (s : Dev) (n m : Nat) : sesAt (touchSession s n) m = sesAt s m :=
  sesAt_congr (tget_touchSession s n m) ((sessionsOnly_touchSession s n).holder m)

/-- A module in which a session's entry is brought into the cache and written. -/
def withSession (s : Dev) (n : Nat) (y : Session) : Dev := putSession (touchSession s n) n y

theorem sessionsOnly_withSession (s : Dev) (n : Nat) (y : Session) : SessionsOnly s (withSession s n y) :=
  (sessionsOnly_touchSession s n).trans (sessionsOnly_putSession _ _ _)

theorem tget_withSession_other (s : Dev) (n : Nat) (y : Session) {m : Nat} (other : m ≠ n) :
    tget (withSession s n y).fe.sessions m = tget s.fe.sessions m :=
  (tget_putSession_other _ _ _ other).trans (tget_touchSession s n m)

/-- A Closed session has no entry. -/
theorem tget_putSession_closed (s : Dev) (n : Nat) {x : Session} (closed : x.state = .closed) : tget (putSession s n x).fe.sessions n = none := by
  unfold putSession
  dsimp only
  rw [if_pos closed]
  split
  · exact tget_tdel_same _ _
  · exact tget_tdel_same _ _

theorem sesAt_withSession (s : Dev) (n : Nat) {y : Session} (live : y.state ≠ .closed) : sesAt (withSession s n y) n = y :=
  sesAt_of_tget (tget_putSession_same _ _ live)

theorem sesAt_withSession_closed (s : Dev) (n inst : Nat) : sesAt (withSession s n (Session.closed inst)) n = Session.closed (holderOfSession s n) := by
  unfold sesAt tgetD withSession
  rw [tget_putSession_closed _ _ rfl]
  exact congrArg Session.closed ((sessionsOnly_withSession s n _).holder n)

end Sys2Proof.Machine
end

section
/-!
The obligation on the commands of sessions (R300 to R306, R320).
-/
namespace Sys2Proof.Machine

/-! ### What a session's command leaves -/

/-- What a command that wrote sessions, and at most memory, has left: its sessions as written, and of the rest nothing but its answer. -/
structure SessionsLeft (s : State) (v t : Dev) (x : Ctx) : Prop where
  table : t.fe.sessions = v.fe.sessions
  entries : ∀ n, sesAt t n = sesAt v n
  only : OnlyCmd sessionRegs s { s with dev := t } x { s.dev with fe := { s.dev.fe with sessions := t.fe.sessions, cache := t.fe.cache } }

theorem Ended.sessions {s : State} {v t : Dev} {x : Ctx} {r : Ret} {d : Dram} (ended : Ended s.dev { v with dram := d } t x r)
    (only : SessionsOnly s.dev v) : SessionsLeft s v t x := by
  have rest := ended.shape
  have table : t.fe.sessions = v.fe.sessions := by rw [rest]
  have fields : ∀ f : Fld, f.off < 0x1E0000 → f.off ≠ 0x150000 → Machine.fget t f = Machine.fget v f := fun f low shc => ended.fget low shc
  refine ⟨table, fun n => sesAt_congr (congrArg (fun l => tget l n) table) ?_, ?_⟩
  · exact holderOfSession_congr (fun f above below => fields f (by omega) (by omega)) n
  · refine ended.onlyCmd ?_ only.regs
    obtain ⟨regs, sessions, cache, rfl⟩ := only.shape
    rw [rest]
    rfl

/-- What a command that began and wrote sessions has left. -/
theorem Begun.sessions {s : State} {v t : Dev} {x : Ctx} (begun : Begun s.dev v t x) (only : SessionsOnly s.dev v) : SessionsLeft s v t x := by
  obtain ⟨store, dram, regs, closed⟩ := begun.shape
  have table : t.fe.sessions = v.fe.sessions := by rw [closed]
  have fields : ∀ f : Fld, f.off ≠ 0x150000 → Machine.fget t f = Machine.fget v f :=
    fun f shc => congrArg (fun w => bitsOf w f.lo f.width) (begun.regs f.off (by simp) shc)
  refine ⟨table, fun n => sesAt_congr (congrArg (fun l => tget l n) table) ?_, ?_⟩
  · exact holderOfSession_congr (fun f above below => fields f (by omega)) n
  · refine begun.onlyCmd ?_ only.regs
    obtain ⟨regs', sessions, cache, rfl⟩ := only.shape
    rw [closed]
    rfl

theorem SessionsLeft.others {s : State} {t : Dev} {x : Ctx} {n : Nat} {y : Session} (left : SessionsLeft s (withSession s.dev n y) t x) :
    OtherSessions s.dev t n := by
  intro m other
  rw [left.table]
  exact tget_withSession_other _ _ _ other

theorem sesRet_withSession (s : Dev) (n : Nat) {y : Session} (live : y.state ≠ .closed) :
    sesRet (withSession s n y) n 0 = { Ret.ok with r0 := n, r1 := y.step, r2 := sesCode y.state } := by
  unfold sesRet
  rw [sesAt_withSession s n live]
  rfl

/-- What is named of a session's command that is done: its effect, and what it leaves (R301). -/
theorem session_ends {s : State} {op : Nat} {c : Cmd} {x : Ctx} {sp : CmdSpec} {f : Ctx → Dev → Dev × CmdRes} {n : Nat} {y : Session}
    (row : specOf op = some sp) (admits : Admits s.dev op c x) (single : op ≠ 0x12) (live : y.state ≠ .closed)
    (ran : f x s.dev = (withSession s.dev n y, .done (sesRet (withSession s.dev n y) n 0))) :
    SameMem s.dev (finish (command op c s.dev f)) ∧ SessionsLeft s (withSession s.dev n y) (finish (command op c s.dev f)) x
      ∧ Completes s.dev (finish (command op c s.dev f)) x { Ret.ok with r0 := n, r1 := y.step, r2 := sesCode y.state } := by
  rw [sesRet_withSession s.dev n live] at ran
  have unblocked := free_of_admits admits
  have only := sessionsOnly_withSession s.dev n y
  obtain ⟨regs, sessions, cache, shape⟩ := only.shape
  have ended := command_ends row admits single ran (by rw [shape, unblocked]) (by rw [shape]) (by rw [shape])
  exact ⟨(sameMem_of_dram (by rw [shape])).trans ended.mem, ended.sessions only, ended.completes⟩

/-- What is named of a session's command that goes on later (R301). -/
theorem session_begins {s : State} {op : Nat} {c : Cmd} {x : Ctx} {sp : CmdSpec} {f : Ctx → Dev → Dev × CmdRes} {n : Nat} {y : Session}
    (row : specOf op = some sp) (admits : Admits s.dev op c x) (ran : f x s.dev = (withSession s.dev n y, .later)) :
    SameMem s.dev (finish (command op c s.dev f)) ∧ SessionsLeft s (withSession s.dev n y) (finish (command op c s.dev f)) x
      ∧ Begins (finish (command op c s.dev f)) x := by
  have unblocked := free_of_admits admits
  have only := sessionsOnly_withSession s.dev n y
  obtain ⟨regs, sessions, cache, shape⟩ := only.shape
  have begun := command_begins row admits ran (by rw [shape, unblocked]) (by rw [shape]) (by rw [shape])
  exact ⟨(sameMem_of_dram (by rw [shape])).trans begun.mem, begun.sessions only, begun.begins⟩

/-! ### OPEN, BIND and SEEK -/

/-- The entry that SESSION_OPEN makes (R300). -/
def openedSession (x : Ctx) : Session :=
  { Session.closed x.inst with
    state := .opened, cls := eb x.e 42 1, seed := BitVec.ofNat 64 (eb x.e 16 8), ioVa := eb x.e 24 8, kvList := eb x.e 32 8, cplRing := eb x.e 40 2,
    binding := 0xFFFF }

theorem sessionOpen_opens {s : State} {c : Cmd} {x : Ctx} {n : Nat} (admits : Admits s.dev 0x10 c x)
    (served : (ringAt s.dev (ringKey x.inst (eb x.e 40 2))).isSome = true) (ring : eb x.e 40 2 < 4096) (cls : eb x.e 42 1 ≤ 7)
    (area : eb x.e 24 8 % 4096 = 0) (list : eb x.e 32 8 % 32 = 0) (below : n < 2 ^ 20)
    (free : ∀ m, m ≤ n → ((holderOfSession s.dev m = x.inst ∧ (sesAt s.dev m).state = .closed) ↔ m = n)) :
    ∃ t, exec (.sessionOpen c) s = .next { s with dev := t } ∧ SameMem s.dev t ∧ SessionsLeft s (withSession s.dev n (openedSession x)) t x
      ∧ Completes s.dev t x { Ret.ok with r0 := n, r2 := 1 } := by
  have first : lowest (2 ^ 20) (fun n => holderOfSession s.dev n == x.inst && (sesAt s.dev n).state == .closed) = some n := by
    refine lowest_eq below ?_ ?_
    · obtain ⟨holder, closed⟩ := (free n le_rfl).mpr rfl
      simp [holder, closed]
    · intro m lower
      have taken := mt (free m (Nat.le_of_lt lower)).mp (Nat.ne_of_lt lower)
      rw [Bool.and_eq_false_iff, beq_eq_false_iff_ne, beq_eq_false_iff_ne]
      exact Decidable.not_and_iff_or_not.mp taken
  refine ⟨_, rfl, session_ends rfl admits (by decide) (fun closed => SesState.noConfusion closed) ?_⟩
  dsimp only
  rw [first]
  refine (afterChecks_pass ?_ _).trans rfl
  simp only [List.forall_mem_cons, List.not_mem_nil, false_implies, implies_true, and_true]
  refine ⟨?_, ?_, rfl⟩
  · simp [cls, ring, served, Nat.not_lt.mpr, Nat.not_le.mpr]
  · simp [area, list]

/-- SESSION_BIND of an Open session (R301). -/
theorem sessionBind_binds {s : State} {c : Cmd} {x : Ctx} {n : Nat} {bd : Binding} (admits : Admits s.dev 0x11 c x) (named : eb x.e 16 4 = n)
    (own : ownsSession s.dev x.inst n = true) (bound : bindAt s.dev (eb x.e 20 2) = some bd) (inst : bd.inst = x.inst)
    (still : (sesAt s.dev n).moving = none) (opened : (sesAt s.dev n).state = .opened) :
    ∃ t, exec (.sessionBind c) s = .next { s with dev := t } ∧ SameMem s.dev t
      ∧ SessionsLeft s (withSession s.dev n { sesAt s.dev n with state := .ready, binding := eb x.e 20 2 }) t x
      ∧ Completes s.dev t x { Ret.ok with r0 := n, r1 := (sesAt s.dev n).step, r2 := 2 } := by
  subst named
  refine ⟨_, rfl, session_ends rfl admits (by decide) (fun closed => SesState.noConfusion closed) ?_⟩
  simp only [own, bound, inst, sesAt_touchSession, still, opened, ne_eq, not_true_eq_false, if_false, Option.isSome_none, Bool.false_eq_true]
  rfl

/-- SESSION_SEEK of a session that no frame waits for (R320). -/
theorem sessionSeek_seeks {s : State} {c : Cmd} {x : Ctx} {n : Nat} (admits : Admits s.dev 0x63 c x) (named : eb x.e 16 4 = n)
    (own : ownsSession s.dev x.inst n = true) (live : (sesAt s.dev n).state ≠ .closed) (idle : (sesAt s.dev n).state ≠ .running)
    (empty : (sesAt s.dev n).pending = 0) :
    ∃ t, exec (.sessionSeek c) s = .next { s with dev := t } ∧ SameMem s.dev t
      ∧ SessionsLeft s (withSession s.dev n { sesAt s.dev n with step := eb x.e 24 8, seed := BitVec.ofNat 64 (eb x.e 32 8) }) t x
      ∧ Completes s.dev t x { Ret.ok with r0 := n, r1 := eb x.e 24 8, r2 := sesCode (sesAt s.dev n).state } := by
  subst named
  refine ⟨_, rfl, session_ends rfl admits (by decide) live ?_⟩
  simp only [own, sesAt_touchSession, live, idle, empty, ne_eq, not_true_eq_false, if_false, or_self, Bool.not_true, Bool.false_eq_true]
  rfl

/-! ### PARK, RESUME, SUSPEND and CLOSE -/

/-- The rows that change a session's state, with the number of what they do (R301). -/
theorem sesCommand_rows {mk : Cmd → Instr} {op code : Nat}
    (row : (mk, op, code) ∈ [(Instr.sessionPark, 0, 0x13), (Instr.sessionResume, 3, 0x14), (Instr.sessionSuspend, 1, 0x15), (Instr.sessionClose, 2, 0x16)]) :
    (∃ sp, specOf code = some sp) ∧ code ≠ 0x12
      ∧ ∀ (c : Cmd) (s : State), exec (mk c) s = .next { s with dev := finish (command code c s.dev (sesCommand op)) } := by
  simp only [List.mem_cons, Prod.mk.injEq, List.not_mem_nil, or_false] at row
  obtain ⟨rfl, rfl, rfl⟩ | ⟨rfl, rfl, rfl⟩ | ⟨rfl, rfl, rfl⟩ | ⟨rfl, rfl, rfl⟩ := row
  · exact ⟨⟨_, rfl⟩, by decide, fun _ _ => rfl⟩
  · exact ⟨⟨_, rfl⟩, by decide, fun _ _ => rfl⟩
  · exact ⟨⟨_, rfl⟩, by decide, fun _ _ => rfl⟩
  · exact ⟨⟨_, rfl⟩, by decide, fun _ _ => rfl⟩

/-- Only CLOSE leads to Closed (R301). -/
theorem sesNext_closed {op : Nat} {st next : SesState} (leads : sesNext op st = some next) : next = .closed ↔ op = 2 := by
  unfold sesNext at leads
  grind

/-- A Running session defers the command (R301). -/
theorem sesCommand_defers {s : State} {op : Nat} {x : Ctx} {n : Nat} (named : eb x.e 16 4 = n) (own : ownsSession s.dev x.inst n = true)
    (still : (sesAt s.dev n).moving = none) (runs : (sesAt s.dev n).state = .running) (other : op ≠ 3) (free : (sesAt s.dev n).defer = none) :
    sesCommand op x s.dev = (withSession s.dev n { sesAt s.dev n with defer := some (op, x.key) }, .later) := by
  subst named
  unfold sesCommand
  simp only [own, sesAt_touchSession, still, runs, other, free, ne_eq, not_false_eq_true, and_self, if_true, if_false, Option.isSome_none, Bool.not_true,
    Bool.false_eq_true]
  rfl

/-- A session goes to its next state where no page has to move (R301, R303). -/
theorem sesCommand_moves {s : State} {op : Nat} {x : Ctx} {n : Nat} {next : SesState} (named : eb x.e 16 4 = n) (own : ownsSession s.dev x.inst n = true)
    (still : (sesAt s.dev n).moving = none) (idle : (sesAt s.dev n).state ≠ .running) (leads : sesNext op (sesAt s.dev n).state = some next)
    (live : next ≠ .closed) (parked : op = 0 → (sesAt s.dev n).away = true) (resident : op = 3 → (sesAt s.dev n).away = false) :
    sesCommand op x s.dev = (withSession s.dev n { sesAt s.dev n with state := next },
      .done (sesRet (withSession s.dev n { sesAt s.dev n with state := next }) n 0)) := by
  subst named
  have stays : ¬ (op = 0 ∧ (!(sesAt s.dev (eb x.e 16 4)).away) = true ∨ op = 3 ∧ (sesAt s.dev (eb x.e 16 4)).away = true) := by
    rintro (⟨park, here⟩ | ⟨resume, away⟩)
    · rw [parked park] at here
      cases here
    · rw [resident resume] at away
      cases away
  unfold sesCommand applyNext
  simp only [own, sesAt_touchSession, still, idle, leads, live, stays, false_and, if_false, Option.isSome_none, Bool.not_true, Bool.false_eq_true]
  rfl

/-- Memory in which the sectors of a session's entry are written whole: they are not marked poisoned (R482, R534). -/
def entryWritten (s : Dev) (n : Nat) : Dram := { s.dram with poison := s.dram.poison.filter (fun k => !(entrySectors s n).contains k) }

theorem foldl_dramSetPoison (l : List Nat) (d : Dram) :
    l.foldl (fun d k => dramSetPoison d k false) d = { d with poison := d.poison.filter (fun k => !l.contains k) } := by
  induction l generalizing d with
  | nil => simp
  | cons k l ih =>
    rw [List.foldl_cons, ih]
    unfold dramSetPoison
    simp only [Bool.false_eq_true, if_false, List.filter_filter]
    congr 1
    refine List.filter_congr fun j _ => ?_
    rw [List.contains_cons, Bool.not_or, Bool.and_comm]
    rfl

theorem rewriteEntry_eq {s v : Dev} (only : SessionsOnly s v) (n : Nat) : rewriteEntry v n = { v with dram := entryWritten s n } := by
  have region : fget v RF.MEM_RSVD_A_VALUE = fget s RF.MEM_RSVD_A_VALUE := congrArg (fun w => bitsOf w RF.MEM_RSVD_A_VALUE.lo RF.MEM_RSVD_A_VALUE.width)
    (only.regs RF.MEM_RSVD_A_VALUE.off (by decide) (by decide))
  have sectors : entrySectors v n = entrySectors s n := by
    unfold entrySectors
    rw [region]
  obtain ⟨regs, sessions, cache, rfl⟩ := only.shape
  unfold rewriteEntry entryWritten
  rw [foldl_dramSetPoison, sectors]

/-- Memory has no say in a session's entry. -/
theorem sesAt_dram (v : Dev) (d : Dram) (n : Nat) : sesAt { v with dram := d } n = sesAt v n := rfl

/-- The completion of a session that is Closed. -/
theorem sesRet_closed {v : Dev} {n inst : Nat} (closed : sesAt v n = Session.closed inst) : sesRet v n 0 = { Ret.ok with r0 := n } := by
  unfold sesRet
  rw [closed]
  rfl

theorem closeSession_eq (s : Dev) (n : Nat) (none' : (sesAt s n).steps = []) :
    closeSession (touchSession s n) n = withSession s n (Session.closed (sesAt s n).inst) := by
  unfold closeSession
  dsimp only
  rw [sesAt_touchSession, none']
  rfl

/-- CLOSE of a session with no step under way (R301). -/
theorem sesCommand_closes {s : State} {x : Ctx} {n : Nat} {next : SesState} (named : eb x.e 16 4 = n) (own : ownsSession s.dev x.inst n = true)
    (still : (sesAt s.dev n).moving = none) (idle : (sesAt s.dev n).state ≠ .running) (leads : sesNext 2 (sesAt s.dev n).state = some next)
    (none' : (sesAt s.dev n).steps = []) :
    sesCommand 2 x s.dev = ({ withSession s.dev n (Session.closed (sesAt s.dev n).inst) with dram := entryWritten s.dev n },
      .done { Ret.ok with r0 := n }) := by
  have closed : next = .closed := (sesNext_closed leads).mpr rfl
  have only := sessionsOnly_withSession s.dev n (Session.closed (sesAt s.dev n).inst)
  have entry := sesAt_withSession_closed s.dev n (sesAt s.dev n).inst
  have applied : applyNext (touchSession s.dev n) n 2 x.key next
      = ({ withSession s.dev n (Session.closed (sesAt s.dev n).inst) with dram := entryWritten s.dev n }, some 0) := by
    unfold applyNext
    rw [if_pos closed, closeSession_eq s.dev n none', rewriteEntry_eq only]
  have ret := sesRet_closed ((sesAt_dram _ (entryWritten s.dev n) n).trans entry)
  unfold sesCommand
  rw [named]
  simp only [own, sesAt_touchSession, still, idle, leads, applied, ret, false_and, if_false, Option.isSome_none, Bool.not_true, Bool.false_eq_true]

/-! ### Frames -/

/-- A session with a frame more (R306). -/
def withFrame (y : Session) (hw f : Nat) (step : Option (Nat × Nat)) : Session :=
  { y with
    pending := y.pending + 1, oldest := if y.pending = 0 then hw % 2 ^ 32 else y.oldest, arrivals := y.arrivals ++ [hw],
    steps := match step with
      | some (k, t) => y.steps ++ [(f, k, t)]
      | none => y.steps }

/-- A frame is accepted where its session's instance does not record (R306). -/
theorem acceptFrame_eq {s : Dev} {n : Nat} (quiet : jnlMode s (sesAt s n).inst = 0)
    (f ring : Nat) (step : Option (Nat × Nat)) :
    acceptFrame s n f ring step = withSession s n (withFrame (sesAt s n) s.time.hw f step) := by
  have only := sessionsOnly_withSession s n (withFrame (sesAt s n) s.time.hw f step)
  have mode : jnlMode (withSession s n (withFrame (sesAt s n) s.time.hw f step)) (sesAt s n).inst ≠ 1 := by
    rw [only.jnlMode, quiet]
    decide
  have time : (touchSession s n).time = s.time := by
    obtain ⟨regs, sessions, cache, shape⟩ := (sessionsOnly_touchSession s n).shape
    rw [shape]
  unfold acceptFrame
  simp only [sesAt_touchSession, time]
  split
  · exact if_pos mode
  · rfl

/-- A session's frames and its step are those of `y`. -/
def HasFrames (t : Dev) (n : Nat) (y : Session) : Prop :=
  ∃ x, tget t.fe.sessions n = some x ∧ x.pending = y.pending ∧ x.arrivals = y.arrivals ∧ x.steps = y.steps ∧ x.step = y.step

theorem HasFrames.startStep {t : Dev} {n : Nat} {y : Session} (frames : HasFrames t n y) (m : Nat) : HasFrames (Machine.startStep t m) n y := by
  obtain ⟨x, here, same⟩ := frames
  unfold HasFrames
  rw [tget_startStep]
  split
  · next own =>
    subst own
    rw [sesAt_of_tget here]
    exact ⟨_, rfl, same⟩
  · exact ⟨x, here, same⟩

theorem HasFrames.startSteps {t : Dev} {n : Nat} {y : Session} (frames : HasFrames t n y) (l : List Nat) :
    HasFrames (l.foldl Machine.startStep t) n y :=
  List.foldlRecOn (motive := fun t => HasFrames t n y) _ _ frames (fun _ h m _ => h.startStep m)

/-- What the batch former keeps of a session's frames and of the front end, for a binding whose instance does not record. -/
structure Poked (s t : Dev) (n : Nat) (y : Session) (b : Nat) (bd : Binding) : Prop where
  frames : HasFrames t n y
  dram : t.dram = s.dram
  free : t.blocked = s.blocked
  store : t.fe.store = s.fe.store
  rings : t.fe.rings = s.fe.rings
  bound : bindAt t b = some bd
  quiet : jnlMode t bd.inst = 0

theorem Poked.cut {s t : Dev} {n : Nat} {y : Session} {b : Nat} {bd : Binding} (poked : Poked s t n y b bd) (cls : Nat) (l : List Nat) :
    Poked s (cutBatch t b bd cls l) n y b bd := by
  rcases cutBatch_cases (b := b) (cls := cls) l poked.quiet with same | ⟨journals, seq, cut⟩
  · rw [same]
    exact poked
  · have sessions := sessionsOnly_startSteps t l
    have quiet := sessions.jnlMode bd.inst
    have frames := poked.frames.startSteps l
    obtain ⟨regs, ses, cache, shape⟩ := sessions.shape
    rw [cut]
    rw [shape] at quiet frames ⊢
    exact ⟨frames, poked.dram, poked.free, poked.store, poked.rings, poked.bound, quiet.trans poked.quiet⟩

theorem Poked.group {s t : Dev} {n : Nat} {y : Session} {b : Nat} {bd : Binding} (poked : Poked s t n y b bd) (cls fuel : Nat) :
    Poked s (cutGroup t b cls false fuel) n y b bd := by
  induction fuel generalizing t with
  | zero => exact poked
  | succ fuel ih =>
    unfold cutGroup
    simp only [poked.bound, Bool.false_and, Bool.false_eq_true, if_false]
    split
    · exact poked
    · split
      · exact poked
      · split
        · exact poked
        · exact ih (poked.cut cls _)

/-- A frame that is accepted stays with its session, whatever the batch former does (R306, R309). -/
theorem poked_acceptFrame {s : Dev} {n : Nat} {b : Binding} (live : (sesAt s n).state ≠ .closed) (bound : bindAt s (sesAt s n).binding = some b)
    (quiet : jnlMode s (sesAt s n).inst = 0) (quiet' : jnlMode s b.inst = 0) (f ring : Nat) (step : Option (Nat × Nat)) :
    Poked s (pokeFormer (acceptFrame s n f ring step) n) n (withFrame (sesAt s n) s.time.hw f step) (sesAt s n).binding b := by
  have only := sessionsOnly_withSession s n (withFrame (sesAt s n) s.time.hw f step)
  have entry : sesAt (withSession s n (withFrame (sesAt s n) s.time.hw f step)) n = withFrame (sesAt s n) s.time.hw f step := sesAt_withSession _ _ live
  have here : tget (withSession s n (withFrame (sesAt s n) s.time.hw f step)).fe.sessions n = some (withFrame (sesAt s n) s.time.hw f step) :=
    tget_putSession_same _ _ live
  have mode := (only.jnlMode b.inst).trans quiet'
  have first : Poked s (withSession s n (withFrame (sesAt s n) s.time.hw f step)) n (withFrame (sesAt s n) s.time.hw f step) (sesAt s n).binding b := by
    obtain ⟨regs, sessions, cache, shape⟩ := only.shape
    rw [shape] at here mode ⊢
    exact ⟨⟨_, here, rfl, rfl, rfl, rfl⟩, rfl, rfl, rfl, rfl, bound, mode⟩
  rw [acceptFrame_eq quiet]
  unfold pokeFormer
  dsimp only
  rw [entry]
  exact first.group _ _

/-- A frame that its session awaits, with room for it, is accepted (R301, R306). -/
theorem frameCode_ok {s : Dev} {inst n f : Nat} {b : Binding} (own : ownsSession s inst n = true)
    (awaited : f = ((sesAt s n).step + (sesAt s n).pending) % 2 ^ 64) (live : (sesAt s n).state ≠ .closed) (bound : (sesAt s n).state ≠ .opened)
    (sound : (sesAt s n).state ≠ .failed) (binding : bindAt s (sesAt s n).binding = some b) (room : (sesAt s n).pending < b.frames) :
    frameCode s inst n f = 0 := by
  unfold frameCode
  simp [firstCode, own, awaited, live, bound, sound, binding, room, Nat.not_le.mpr]

/-- SESSION_STEP of the frame that its session awaits (R306). -/
theorem sessionStep_begins {s : State} {c : Cmd} {x : Ctx} {n : Nat} {b : Binding} (admits : Admits s.dev 0x12 c x) (named : eb x.e 16 4 = n)
    (accepted : frameCode s.dev x.inst n (eb x.e 24 8) = 0) (live : (sesAt s.dev n).state ≠ .closed)
    (bound : bindAt s.dev (sesAt s.dev n).binding = some b) (quiet : jnlMode s.dev (sesAt s.dev n).inst = 0) (quiet' : jnlMode s.dev b.inst = 0) :
    ∃ t, exec (.sessionStep c) s = .next { s with dev := t } ∧ SameMem s.dev t ∧ Begins t x
      ∧ HasFrames t n (withFrame (sesAt s.dev n) s.dev.time.hw (eb x.e 24 8) (some (x.key, eb x.e 8 8))) := by
  have poked := poked_acceptFrame live bound quiet quiet' (eb x.e 24 8) x.ring (some (x.key, eb x.e 8 8))
  have begun := command_begins rfl admits (u := pokeFormer (acceptFrame s.dev n (eb x.e 24 8) x.ring (some (x.key, eb x.e 8 8))) n)
    (f := fun x s =>
      let n := eb x.e 16 4
      let f := eb x.e 24 8
      let code := frameCode s x.inst n f
      if code ≠ 0 then (s, .reject code)
      else (pokeFormer (acceptFrame s n f x.ring (some (x.key, eb x.e 8 8))) n, .later))
    (by subst named; simp [accepted]) (poked.free.trans (free_of_admits admits)) poked.store poked.rings
  obtain ⟨store, dram, regs, closed⟩ := begun.shape
  refine ⟨_, rfl, (sameMem_of_dram poked.dram).trans begun.mem, begun.begins, ?_⟩
  have table := congrArg (fun d : Dev => d.fe.sessions) closed
  have frames := poked.frames
  unfold HasFrames at frames ⊢
  exact table ▸ frames

/-- An input entry of the frame that its session awaits (R306). -/
theorem sessionInput_accepts {s : State} {inst ring pos n : Nat} {e : StoreEntry} {r : Ring} {b : Binding}
    (stored : storeAt s.dev (cmdKey inst ring pos) = some e) (served : ringAt s.dev (ringKey inst ring) = some r) (input : r.kind = 1)
    (waits : e.phase = 0) (ready : serving s.dev = true) (free : s.dev.blocked = []) (goes : jnlHeld s.dev inst = false)
    (first : ∀ d ∈ s.dev.fe.store, d.inst = inst → d.ring = ring → pos ≤ d.pos) (named : eb e.entry 0 4 = n) (clear : eb e.entry 4 4 = 0)
    (accepted : frameCode s.dev inst n (eb e.entry 8 8) = 0) (live : (sesAt s.dev n).state ≠ .closed)
    (bound : bindAt s.dev (sesAt s.dev n).binding = some b) (quiet : jnlMode s.dev (sesAt s.dev n).inst = 0) (quiet' : jnlMode s.dev b.inst = 0) :
    ∃ t, exec (.sessionInput inst ring pos) s = .next { s with dev := t } ∧ SameMem s.dev t ∧ storeAt t (cmdKey inst ring pos) = none
      ∧ HasFrames t n (withFrame (sesAt s.dev n) s.dev.time.hw (eb e.entry 8 8) none) := by
  have poked := poked_acceptFrame (s := dropStore s.dev (cmdKey inst ring pos)) (n := n) (b := b) live bound quiet quiet' (eb e.entry 8 8) ring none
  have turn : (s.dev.fe.store.any fun d => d.inst == inst && d.ring == ring && decide (d.pos < pos)) = false := by
    rw [List.any_eq_false]
    intro d member
    simpa using first d member
  have ran : exec (.sessionInput inst ring pos) s
      = .next { s with dev := finish (pokeFormer (acceptFrame (dropStore s.dev (cmdKey inst ring pos)) n (eb e.entry 8 8) ring none) n) } := by
    show execSessionInput inst ring pos s = _
    unfold execSessionInput
    rw [perform_eq, whole_of_unblocked]
    all_goals
      simp only [stored, served, input, waits, goes, ready, turn, named, clear, accepted, ne_eq, not_true_eq_false, Bool.not_true, Bool.false_eq_true,
        or_self, if_false]
    exact poked.free.trans free
  refine ⟨_, ran, sameMem_finish poked.dram, ?_, ?_⟩
  · unfold storeAt
    rw [finish_fe, poked.store, List.find?_eq_none]
    intro d member
    have kept := (List.mem_filter.mp member).2
    simpa using kept
  · have frames := poked.frames
    unfold HasFrames at frames ⊢
    rw [finish_fe]
    exact frames

/-- Settles O29: each command writes its session's entry, and a frame stays with its session whatever the batch former does. -/
theorem sessionCommands : Obligations.SessionCommands := by
  unfold Obligations.SessionCommands
  intro s c x n y entry
  subst entry
  refine ⟨?_, ?_, ?_, ?_, ?_⟩
  · intro admits served ring cls area list below free
    obtain ⟨t, ran, mem, left, completes⟩ := sessionOpen_opens admits served ring cls area list below free
    exact ⟨_, ran, mem, completes, (left.entries n).trans (sesAt_withSession _ _ (fun closed => SesState.noConfusion closed)), left.others, left.only⟩
  · intro bd admits named own bound inst still opened
    obtain ⟨t, ran, mem, left, completes⟩ := sessionBind_binds admits named own bound inst still opened
    exact ⟨_, ran, mem, completes, (left.entries n).trans (sesAt_withSession _ _ (fun closed => SesState.noConfusion closed)), left.others, left.only⟩
  · intro mk op code next row admits named own still
    obtain ⟨⟨sp, spec⟩, single, ran⟩ := sesCommand_rows row
    refine ⟨?_, ?_⟩
    · intro idle leads parked resident none'
      by_cases close : op = 2
      · subst close
        have closed : next = .closed := (sesNext_closed leads).mpr rfl
        have only := sessionsOnly_withSession s.dev n (Session.closed (sesAt s.dev n).inst)
        have gone := sesAt_withSession_closed s.dev n (sesAt s.dev n).inst
        have unblocked := free_of_admits admits
        have ended := command_ends spec admits single (sesCommand_closes named own still idle leads none')
          (by obtain ⟨regs, sessions, cache, shape⟩ := only.shape; rw [shape, unblocked])
          (by obtain ⟨regs, sessions, cache, shape⟩ := only.shape; rw [shape]) (by obtain ⟨regs, sessions, cache, shape⟩ := only.shape; rw [shape])
        have left := ended.sessions only
        have holder : holderOfSession s.dev n = x.inst := by
          unfold ownsSession at own
          simpa using (Bool.and_eq_true_iff.mp own).2
        rw [holder] at gone
        have entry := (left.entries n).trans gone
        refine ⟨_, ran c s, ?_, (sameMem_of_dram rfl).trans ended.mem, by simp, fun _ => ⟨entry, ended.completes⟩, left.others, left.only⟩
        rw [withDev_dev, entry, closed]
        rfl
      · have live : next ≠ .closed := fun closed => close ((sesNext_closed leads).mp closed)
        obtain ⟨mem, left, completes⟩ := session_ends (y := { sesAt s.dev n with state := next }) spec admits single live
          (sesCommand_moves named own still idle leads live parked resident)
        have entry := (left.entries n).trans (sesAt_withSession s.dev n (y := { sesAt s.dev n with state := next }) live)
        refine ⟨_, ran c s, ?_, ?_, fun _ => ⟨entry, completes⟩, fun closes => absurd closes close, left.others, left.only⟩
        · rw [withDev_dev, entry]
        · rw [if_neg close]
          exact mem
    · intro runs other free
      obtain ⟨mem, left, begins⟩ := session_begins spec admits (sesCommand_defers named own still runs other free)
      have live : (sesAt s.dev n).state ≠ .closed := by
        rw [runs]
        exact fun closed => SesState.noConfusion closed
      exact ⟨_, ran c s, mem, (left.entries n).trans (sesAt_withSession _ _ live), begins, left.others, left.only⟩
  · intro admits named own live idle empty
    obtain ⟨t, ran, mem, left, completes⟩ := sessionSeek_seeks admits named own live idle empty
    exact ⟨_, ran, mem, (left.entries n).trans (sesAt_withSession _ _ live), completes, left.others, left.only⟩
  · intro b live unbound sound bound room quiet quiet'
    refine ⟨?_, ?_⟩
    · intro admits named own awaited
      obtain ⟨t, ran, mem, begins, z, here, pending, arrivals, steps, step⟩ :=
        sessionStep_begins admits named (frameCode_ok own awaited live unbound sound bound room) live bound quiet quiet'
      have entry : sesAt t n = z := sesAt_of_tget here
      refine ⟨_, ran, mem, begins, ?_, ?_, ?_, ?_⟩
      · rw [withDev_dev, entry, pending]
        rfl
      · rw [withDev_dev, entry, arrivals]
        rfl
      · rw [withDev_dev, entry, steps]
        rfl
      · rw [withDev_dev, entry, step]
        rfl
    · intro inst ring pos e r stored served input waits ready free goes first named clear own awaited
      obtain ⟨t, ran, mem, gone, z, here, pending, arrivals, steps, step⟩ := sessionInput_accepts stored served input waits ready free goes first named clear
        (frameCode_ok own awaited live unbound sound bound room) live bound quiet quiet'
      have entry : sesAt t n = z := sesAt_of_tget here
      refine ⟨_, ran, mem, gone, ?_, ?_, ?_⟩
      · rw [withDev_dev, entry, pending]
        rfl
      · rw [withDev_dev, entry, arrivals]
        rfl
      · rw [withDev_dev, entry, step]
        rfl

end Sys2Proof.Machine
end

section
/-!
The obligation on write-backs and sets (R184, R214): a home map may name a home set whose register is the status of the line's own slice, so that the
line's slice is another once the line is dirty.
-/
namespace Sys2Proof.Machine

/-- One byte for sector 0. -/
def strayWrite : WbEntry := { sec := 0, data := 1, mask := 1, poison := false, op := none, group := 0, seq := 0, sent := none }

/-- A core with that write alone. -/
def strayCore : Core := { Core.reset with wb := [strayWrite] }

/-- Frame 0 has home set 73, whose register is the status of slice 9: it names no island, so that home set 0 holds, which is island 9. With one line dirty
it names island 8, whose slice is in bypass. -/
def strayState : State :=
  ⟨[], { State.reset.dev with
    regs := [(Reg.SHC_HOME_SET 0, 2 ^ 9), (Reg.SHC_SLICE_STATUS 8, 2)], cores := [(0, strayCore)],
    shore := { State.reset.dev.shore with homeMap := [(0, 73)], lines := [(0, Line.fresh 0 0 0 false)], dir := [], txn := [] } }⟩

/-- The line goes back at once from the slice in bypass. -/
theorem lineAt_strayState : lineAt (acceptOldest strayState.dev 0 none) 0 = none := by decide +kernel

/-- Refutes O25: frame 0 has home set 73, whose register is the status of the line's slice, so that the line, once dirty, lies in a slice in bypass, which
does not keep it. -/
theorem not_writeBacksAndSets : ¬ Obligations.WriteBacksAndSets := by
  unfold Obligations.WriteBacksAndSets
  intro h
  obtain ⟨accepted, -⟩ := h strayState 0
  obtain ⟨t, l, runs, -, -, -, held, -⟩ := accepted strayWrite (Line.fresh 0 0 0 false) (by decide +kernel)
    ⟨by decide +kernel, by decide +kernel, by decide +kernel, by decide +kernel, by decide +kernel⟩
  have ended : perform strayState (fun s => acceptOldest s 0 none) = .next t := runs
  rw [perform_eq] at ended
  obtain rfl := Host.Outcome.next.inj ended
  have kept : lineAt (finish (acceptOldest strayState.dev 0 none)) 0 = some l := held
  rw [lineAt, finish_shore, ← lineAt, lineAt_strayState] at kept
  cases kept

end Sys2Proof.Machine
end

section
/-!
The obligations on rings in service and on requests at their slices: with the home map of `strayState` a line that is written leaves its slice at once.
-/
namespace Sys2Proof.Machine

/-- What an instruction leaves of a line. -/
def lineAfter (c : Instr) (s : State) (k : Nat) : Option Line :=
  match exec c s with
  | .next t => lineAt t.dev k
  | _ => none

theorem lineAt_of_lineAfter {c : Instr} {s t : State} {k : Nat} (runs : exec c s = .next t) : lineAt t.dev k = lineAfter c s k := by
  unfold lineAfter
  rw [runs]

/-! ### Ring service (R289, R291) -/

/-- A completion without a command. -/
def strayCpl : Cpl := ⟨0, 0, 0, 0, 0, 0, 0, 0, false, false, none, none⟩

/-- A ring whose completion ring is frame 0, with one completion owed. -/
def strayRing : Ring := { Ring.make 0 6 6 0 0 0 0 0 [] [0] 0 0 with cplQ := [strayCpl] }

/-- The module of `strayState` at READY, with that ring. -/
def strayRingState : State :=
  ⟨[], { strayState.dev with
    regs := strayState.dev.regs ++ [(Reg.BRG_START_STATUS, 9)],
    shore := { strayState.dev.shore with lines := [(0, Line.fresh 0 0 0 false), (1, Line.fresh 0 0 0 false)] },
    fe := { strayState.dev.fe with rings := [(0, strayRing)] } }⟩

/-- The completion's line goes back at once from the slice in bypass. -/
theorem lineAfter_strayRingState : lineAfter (.completionWrite 0 0 0) strayRingState 1 = none := by decide +kernel

/-- Refutes O37: frame 0 has home set 73, whose register is the status of the slice of the completion's line, so that the line, once dirty, lies in a slice
in bypass, which does not keep it. -/
theorem not_ringService : ¬ Obligations.RingService := by
  unfold Obligations.RingService
  intro h
  obtain ⟨-, -, written, -⟩ := h strayRingState 0 0 strayRing (by decide +kernel) (by decide) (by decide)
  obtain ⟨t, l, -, runs, -, held, -⟩ := written 0 strayCpl [] (Line.fresh 0 0 0 false) (Line.fresh 0 0 0 false) 0 64
    (by decide +kernel) (by decide +kernel) rfl rfl (by decide +kernel) rfl rfl (by decide +kernel) (by decide +kernel) rfl
    ⟨by decide +kernel, by decide +kernel, by decide +kernel, by decide +kernel, by decide +kernel⟩
    ⟨by decide +kernel, by decide +kernel, by decide +kernel, by decide +kernel, by decide +kernel⟩ (by decide +kernel)
  have gone : lineAt t.dev 1 = none := (lineAt_of_lineAfter runs).trans lineAfter_strayRingState
  cases gone.symm.trans held

/-! ### Requests at a slice (R210, R225) -/

/-- A core's request for no atomic operation on sector 0. -/
def strayAtomic : Req := ⟨0, 64, 0, .atomic [], false⟩

/-- The module of `strayState` with that request, whose core writes nothing back. -/
def strayAtomicState : State := ⟨[], { strayState.dev with cores := [], net := [(0, strayAtomic)] }⟩

/-- The line goes back at once from the slice in bypass. -/
theorem lineAfter_strayAtomicState : lineAfter (.sliceAccess 0 .ok false) strayAtomicState 0 = none := by decide +kernel

/-- Refutes O42: frame 0 has home set 73, whose register is the status of the slice of the line that the atomic writes, so that the line, once dirty, lies in a
slice in bypass, which does not keep it. -/
theorem not_slicesAndProbe : ¬ Obligations.SlicesAndProbe := by
  unfold Obligations.SlicesAndProbe
  intro h
  obtain ⟨served, -⟩ := h strayAtomicState
  obtain ⟨hit, -⟩ := served 0 0 0 strayAtomic (by decide +kernel) (by decide +kernel) rfl rfl
  obtain ⟨t, runs, -, -, -, -, -, -, atomic, -⟩ := hit (Line.fresh 0 0 0 false)
    ⟨by decide +kernel, by decide +kernel, by decide +kernel, by decide +kernel, by decide +kernel⟩ (by decide +kernel)
  obtain ⟨⟨l, held, -⟩, -⟩ := atomic [] rfl
  have gone : lineAt t.dev 0 = none := (lineAt_of_lineAfter runs).trans lineAfter_strayAtomicState
  cases gone.symm.trans held

end Sys2Proof.Machine
end

section
/-!
The obligation on copies and moves (R254): with the home map of `strayState` the leaf's line leaves its slice when the leaf is rewritten.
-/
namespace Sys2Proof.Machine

theorem regWrite_regWrite (s : Dev) (o a b : Nat) : regWrite (regWrite s o a) o b = regWrite s o b := by
  unfold regWrite
  dsimp only
  rw [tset_tset]

/-- Lines of unmapped addresses that no slice holds are not copied, and each is counted (R237). -/
theorem foldl_copyLine_unmapped (s : Dev) (l : List (Nat × Nat)) (absent : ∀ p ∈ l, lineAt s p.1 = none) (unmapped : ∀ p ∈ l, chanOf s (64 * p.1) = none)
    (c : Nat) (counted : c ≠ 0) (fits : c + l.length < 2 ^ 64) :
    l.foldl (fun s p => copyLine s p.1 p.2) (regWrite s Reg.MEM_CNT_UNMAPPED c) = regWrite s Reg.MEM_CNT_UNMAPPED (c + l.length) := by
  induction l generalizing c with
  | nil => rfl
  | cons p l ih =>
    have here : regRead (regWrite s Reg.MEM_CNT_UNMAPPED c) Reg.MEM_CNT_UNMAPPED = c := by
      rw [regRead_regWrite_same]
      exact Nat.mod_eq_of_lt (by rw [List.length_cons] at fits; omega)
    have none' : lineAt (regWrite s Reg.MEM_CNT_UNMAPPED c) p.1 = none := absent p (List.mem_cons_self ..)
    have off : chanOf (regWrite s Reg.MEM_CNT_UNMAPPED c) (64 * p.1) = none := by
      have capacities : ∀ o, o ≠ Reg.MEM_CNT_UNMAPPED → regRead (regWrite s Reg.MEM_CNT_UNMAPPED c) o = regRead s o :=
        fun o other => regRead_regWrite_other s _ o c other
      have a : capA (regWrite s Reg.MEM_CNT_UNMAPPED c) = capA s := congrArg (fun v => bitsOf v _ _) (capacities _ (by decide))
      have b : capB (regWrite s Reg.MEM_CNT_UNMAPPED c) = capB s := congrArg (fun v => bitsOf v _ _) (capacities _ (by decide))
      exact (chanOf_congr (s := s) (t := regWrite s Reg.MEM_CNT_UNMAPPED c) rfl a b _).trans (unmapped p (List.mem_cons_self ..))
    have first : copyLine (regWrite s Reg.MEM_CNT_UNMAPPED c) p.1 p.2 = regWrite s Reg.MEM_CNT_UNMAPPED (c + 1) := by
      unfold copyLine lineNow countUnmapped bump bumpBy
      simp only [none', off, here, counted, Option.isNone_none, if_true, if_false, regWrite_regWrite]
    rw [List.foldl_cons, first, ih (fun q later => absent q (List.mem_cons_of_mem _ later)) (fun q later => unmapped q (List.mem_cons_of_mem _ later))
      (c + 1) (Nat.succ_ne_zero c) (by rw [List.length_cons] at fits; omega), List.length_cons, Nat.add_assoc, Nat.add_comm 1]

/-- Steps 4 to 6 of R254, once the page is copied. -/
def moveLeaf (s : Dev) (m : Move) : Dev :=
  let (s, b, _) := devRead s m.leaf 8
  let e := setBits (setBits (ofLe b) 9 1 0) 12 45 (m.dst * 16)
  let (s, _) := devWrite s m.leaf (leBytes 8 e)
  let s := { s with mem := { s.mem with moves := s.mem.moves.erase m,
                                        pools := tset s.mem.pools m.inst (tgetD s.mem.pools m.inst [] ++ [m.src]) } }
  let s := bump s (if pageInA m.dst then Reg.MEM_CNT_MIGRATIONS_UP else Reg.MEM_CNT_MIGRATIONS_DOWN)
  if pageHasHole s m.dst then
    match poolFrame s m.inst m.dst (pageInA m.dst) with
    | some d => startMove s m.inst m.va m.leaf e d m.session
    | none => s
  else s

theorem finishMove_eq (s : Dev) (m : Move) : finishMove s m = moveLeaf (copyPage s m.src m.dst) m := rfl

/-- PAGE_MOVE_COMPLETE of a move that no session waits for (R254). -/
theorem exec_pageMoveComplete {s : State} {inst va : Nat} {m : Move}
    (found : s.dev.mem.moves.find? (fun m => m.inst == inst && m.va == va / 65536 * 65536 && m.drained) = some m) (session : m.session = none)
    (free : (finishMove s.dev m).blocked = []) :
    exec (.pageMoveComplete inst va) s = .next { s with dev := finish (finishMove s.dev m) } := by
  show execPageMoveComplete inst va s = _
  unfold execPageMoveComplete
  rw [perform_eq, whole_of_unblocked]
  all_goals simp only [found, session, free]

/-- A move of an unmapped page to page 1, whose leaf is at address 0. -/
def strayMove : Move := ⟨0, 0, 16, 1, 0, true, false, none⟩

/-- The module of `strayState` with that move, and 128 KiB of tier A on one channel. -/
def strayPages : Dev :=
  { strayState.dev with
    regs := strayState.dev.regs ++ [(Reg.MEM_TIER_A_CAP, 2 ^ 17)], mem := { strayState.dev.mem with listA := [0], moves := [strayMove] } }

/-- The same after a number of unmapped accesses. -/
def strayMoved (count : Nat) : Dev := regWrite strayPages Reg.MEM_CNT_UNMAPPED count

theorem lineAt_strayPages {k : Nat} (other : k ≠ 0) : lineAt strayPages k = none := if_neg other.symm

/-- Tier A ends at 128 KiB, and there is no tier B. -/
theorem chanOf_strayPages {pa : Nat} (beyond : 2 ^ 17 ≤ pa) : chanOf strayPages pa = none := by
  have a : capA strayPages = 2 ^ 17 := by decide +kernel
  have b : capB strayPages = 0 := by decide +kernel
  unfold chanOf inA inB tierB
  rw [a, b, if_neg (by simpa using beyond), if_neg (by simp)]

/-- No line of the page is copied. -/
theorem copyPage_strayMoved : copyPage (strayMoved 1) 16 1 = strayMoved 1025 := by
  have pages : copyPage (strayMoved 1) 16 1
      = ((List.range 1024).map (fun i => (16 * 1024 + i, 1 * 1024 + i))).foldl (fun s p => copyLine s p.1 p.2) (strayMoved 1) := by
    rw [List.foldl_map]
    rfl
  rw [pages]
  refine (foldl_copyLine_unmapped _ _ ?_ ?_ 1 (by decide) ?_).trans ?_
  · intro p member
    obtain ⟨i, -, rfl⟩ := List.mem_map.mp member
    exact lineAt_strayPages (by dsimp only; omega)
  · intro p member
    obtain ⟨i, -, rfl⟩ := List.mem_map.mp member
    exact chanOf_strayPages (by dsimp only; omega)
  · rw [List.length_map, List.length_range]
    decide
  · rw [List.length_map, List.length_range]
    rfl

/-- The leaf's line goes back at once from the slice in bypass. -/
theorem lineAt_moveLeaf_strayMoved : lineAt (moveLeaf (strayMoved 1025) strayMove) 0 = none := by decide +kernel

theorem blocked_moveLeaf_strayMoved : (moveLeaf (strayMoved 1025) strayMove).blocked = [] := by decide +kernel

/-- Refutes O41: frame 0 has home set 73, whose register is the status of the slice of the leaf's line, so that the line, once dirty, lies in a slice in
bypass, which does not keep it. -/
theorem not_copiesAndMoves : ¬ Obligations.CopiesAndMoves := by
  unfold Obligations.CopiesAndMoves
  intro h
  obtain ⟨-, -, complete⟩ := h ⟨[], strayMoved 1⟩ rfl
  obtain ⟨t, l, runs, -, -, held, -⟩ := complete 0 0 strayMove (strayMoved 1025) (Line.fresh 0 0 0 false) (by decide +kernel) rfl copyPage_strayMoved.symm rfl
    rfl ⟨by decide +kernel, by decide +kernel, by decide +kernel, by decide +kernel, by decide +kernel⟩ rfl (by decide +kernel) (by decide)
  have finished : finishMove (strayMoved 1) strayMove = moveLeaf (strayMoved 1025) strayMove :=
    (finishMove_eq _ _).trans (congrArg (moveLeaf · strayMove) copyPage_strayMoved)
  have ended := exec_pageMoveComplete (s := ⟨[], strayMoved 1⟩) (inst := 0) (va := 0) (m := strayMove) (by decide +kernel) rfl
    (by rw [finished]; exact blocked_moveLeaf_strayMoved)
  rw [finished] at ended
  obtain rfl := Host.Outcome.next.inj (ended.symm.trans runs)
  have kept : lineAt (finish (moveLeaf (strayMoved 1025) strayMove)) 0 = some l := held
  rw [lineAt, finish_shore, ← lineAt, lineAt_moveLeaf_strayMoved] at kept
  cases kept

end Sys2Proof.Machine
end

section
/-!
The obligations on requests of the fabric and of the coherent host: with the home map of `strayState` a line of frame 0 that is written leaves its slice at
once.
-/
namespace Sys2Proof.Machine

/-! ### Requests on the fabric (R349) -/

/-- An export of frame 0 to every device. -/
def strayExport : Export := { inst := 0, first := 0, frames := 1, r := true, w := true, a := true, src := 2, device := 0, closing := false }

/-- The module of `strayState` at READY as device 0, with that export. -/
def strayFabState : State :=
  ⟨[], { strayState.dev with
    regs := strayState.dev.regs ++ [(Reg.BRG_START_STATUS, 9), (Reg.MEM_RSVD_A, 2 ^ 40), (Reg.FAB_STATUS, 2 ^ 15)], cores := [],
    ins := { strayState.dev.ins with exports := [(0, strayExport)], owner := [(0, 0)] } }⟩

/-- Device 1 writes a byte of line 0. -/
def strayMsg : FabMsg :=
  { dst := 0, src := 1, hops := 0, poison := false, epoch := 0, tag := 1, offset := 0, reserved := false, body := .write [1] }

/-- The line goes back at once from the slice in bypass. -/
theorem lineAfter_strayFabState : lineAfter (.fabWrite strayMsg) strayFabState 0 = none := by decide +kernel

/-- Refutes O48: frame 0 has home set 73, whose register is the status of the slice of the line that the admitted write reaches, so that the line, once
dirty, lies in a slice in bypass, which does not keep it. -/
theorem not_fabricTraffic : ¬ Obligations.FabricTraffic := by
  unfold Obligations.FabricTraffic
  intro h
  obtain ⟨requests, -⟩ := h strayFabState strayMsg rfl
  obtain ⟨-, writes, -⟩ := requests 0 0 ⟨by decide +kernel, by decide +kernel, rfl, by decide +kernel⟩ rfl rfl
  obtain ⟨t, l, runs, -, -, held, -⟩ := writes (.fabWrite strayMsg) (.writeAck 0) [1] (Line.fresh 0 0 0 false) (.inl ⟨rfl, rfl, rfl⟩)
    (by decide +kernel) (List.cons_ne_nil _ _) (by decide)
    ⟨by decide +kernel, by decide +kernel, by decide +kernel, by decide +kernel, by decide +kernel⟩ (by decide +kernel)
  have gone : lineAt t.dev 0 = none := (lineAt_of_lineAfter runs).trans lineAfter_strayFabState
  cases gone.symm.trans held

/-! ### CXL.mem (R384) -/

/-- The module of `strayState` at READY with a coherent host, whose decoder 0 maps the frames from 0 on. -/
def strayHostState : State :=
  ⟨[], { strayState.dev with
    regs := strayState.dev.regs ++ [(Reg.BRG_START_STATUS, 9), (Reg.MEM_RSVD_A, 2 ^ 40), (Reg.HST_STATUS, 2 ^ 17 + 2 ^ 28), (hdmDec 0 + 8, 2 ^ 28),
      (hdmDec 0 + 16, 2 ^ 10)],
    cores := [], ins := { strayState.dev.ins with owner := [(0, 0)] } }⟩

/-- The line goes back at once from the slice in bypass. -/
theorem lineAfter_strayHostState : lineAfter (.cxlMemWrite 0 1 ⟨1, 0⟩ .none) strayHostState 0 = none := by decide +kernel

/-- The host may reach frame 0. -/
theorem memAdmitted_strayHostState : (memAdmitted strayHostState.dev 0).2 = true := by decide +kernel

/-- Refutes O54: frame 0 has home set 73, whose register is the status of the slice of the line that the host writes, so that the line, once dirty, lies in a
slice in bypass, which does not keep it. -/
theorem not_hostTraffic : ¬ Obligations.HostTraffic := by
  unfold Obligations.HostTraffic
  intro h
  obtain ⟨mem, -⟩ := h strayHostState (by decide +kernel) rfl
  obtain ⟨-, admitted, -⟩ := mem 0 0 0 (memAdmitted strayHostState.dev 0).1 (by decide +kernel) (by decide +kernel)
  obtain ⟨-, -, written⟩ := admitted (by decide +kernel) rfl (Prod.ext rfl memAdmitted_strayHostState) (by decide +kernel) (Line.fresh 0 0 0 false)
    ⟨by decide +kernel, by decide +kernel, by decide +kernel, by decide +kernel, by decide +kernel⟩ (by decide +kernel) (by decide +kernel)
  obtain ⟨t, l, runs, -, -, held, -⟩ := written 1 ⟨1, 0⟩ .none
  have gone : lineAt t.dev 0 = none := (lineAt_of_lineAfter runs).trans lineAfter_strayHostState
  cases gone.symm.trans held

end Sys2Proof.Machine
end

section
/-!
The obligation on faults of the module (R487, R488): a dispatch may run on a core number beyond the cores there are, whose engine's status register is that of
a slice, so that the core's release writes the state of the lost slice.
-/
namespace Sys2Proof.Machine

/-- A launch that runs on island 0, with core 1040 in its list. -/
def lostDispatch : Dispatch :=
  { inst := 0, plain := true, bind := 0, cls := 0, shape := ⟨1, 1, 1, 0, 0⟩, prog := 0, args := 0, islands := 0, seed := 0, got := [0], cores := [1040],
    canon := [], slots := [], phase := .running, order := 0, source := none, uregs := [], flags := 0, poisonTiles := 0, code := 0, seq := 0, start := none }

/-- A module in stage 4 of its start, with logical island 0 at site 0, that runs the launch. -/
def lostState : State :=
  ⟨[], { State.reset.dev with
    regs := [(Reg.BRG_START_STATUS, 4), (Reg.BRG_SITE_STATUS 0, 0)], disp := [(0, lostDispatch)], cores := [(1040, { Core.reset with disp := some 0 })] }⟩

/-- The slice of the lost island shows as active. -/
theorem fget_loseIsland_lostState : fget (loseIsland lostState.dev 0 false) (RF.SHC_SLICE_STATUS_STATE 0) = 0 := by decide +kernel

/-- Refutes O57: MXE_CORE_STATUS 1040 is the register SHC_SLICE_STATUS 0, so that the end of a launch on core 1040 clears the state of the lost slice. -/
theorem not_faultsOfTheModule : ¬ Obligations.FaultsOfTheModule := by
  unfold Obligations.FaultsOfTheModule
  intro h
  obtain ⟨-, -, -, lost, -⟩ := h lostState
  obtain ⟨t, runs, -, state, -⟩ := lost (.islandLoss 0 false) 0 0 false (by decide) (by decide +kernel) (.inl rfl) (by decide +kernel) (by decide +kernel)
  have ended : perform lostState (fun s => if inService s then loseIsland s 0 false else s) = .next t := runs
  rw [perform_eq, if_pos (by decide +kernel)] at ended
  obtain rfl := Host.Outcome.next.inj ended
  have shown : fget (finish (loseIsland lostState.dev 0 false)) (RF.SHC_SLICE_STATUS_STATE 0) = 3 := state
  rw [fget_finish _ _ (by decide), fget_loseIsland_lostState] at shown
  cases shown

end Sys2Proof.Machine
end

section
/-!
The obligation on the stages of a start (R240, R508): where HW failed its known-answer test, the header of a trace is written once the tiers hold zeros, and
the walk for it reads a line whose write still waits for its controller.
-/
namespace Sys2Proof.Machine

/-- A trace of instance 0 that runs, with its header at address 0. -/
def zeroTrace : Trace := { inst := 0, events := 0, islands := 0, va := 0, len := 0, records := 0, written := 0, state := 0, shown := 0 }

/-- A write of line 0 that waits for its controller, whose lowest byte is 1. -/
def zeroWrite : MemWr := ⟨0, BitVec.allOnes 64, 1, 0, 0, none⟩

/-- A module in stage 8 with a failed known-answer test, that trace and that write; the root table of instance 0 is line 0. -/
def zeroState : State :=
  ⟨[], { State.reset.dev with
    regs := [(Reg.BRG_START_STATUS, 8), (Reg.MEM_RSVD_A, 2 ^ 40), (Reg.MEM_TIER_A_CAP, 2 ^ 30), (Reg.TRN_ROOT 0, 1)], traces := [(0, zeroTrace)],
    ins := { State.reset.dev.ins with owner := [(0, 0)] }, start := { State.reset.dev.start with kat := true, primary := true },
    mem := { State.reset.dev.mem with listA := [0], writes := [zeroWrite] } }⟩

/-- What an instruction leaves of a byte of memory. -/
def byteAfter (c : Instr) (s : State) (a : Nat) : Option Byte :=
  match exec c s with
  | .next t => some (dramByte t.dev.dram a)
  | _ => none

/-- The write reaches memory after it was zeroed. -/
theorem byteAfter_zeroState : byteAfter .zeroStage zeroState 0 = some 1 := by decide +kernel

/-- Refutes O58: the walk for the header of a trace that the fault of stage 8 ends has the write of the table's line performed, so that memory does not read
as zeros. -/
theorem not_startStages : ¬ Obligations.StartStages := by
  unfold Obligations.StartStages
  intro h
  obtain ⟨-, -, -, -, -, -, -, -, -, -, zero⟩ := h zeroState
  obtain ⟨t, runs, -, zeros, -⟩ := zero (by decide +kernel) (by decide +kernel)
  have left := byteAfter_zeroState
  unfold byteAfter at left
  rw [runs] at left
  have one : dramByte t.dev.dram 0 = 1 := Option.some.inj left
  rw [zeros 0] at one
  cases one

end Sys2Proof.Machine
end

section
/-!
SUPPORT. Commands whose buffer is read, or whose result is written, by virtual address: they end over the module that the access left (R431).
-/
namespace Sys2Proof.Machine

/-- An end is judged by the rings and the store alone of what was before. -/
theorem Ended.of_fe {s v u t : Dev} {x : Ctx} {r : Ret} (ended : Ended s u t x r) (fe : v.fe = s.fe) : Ended v u t x r := by
  obtain ⟨shape, mem, regs, completes, rings, others⟩ := ended
  refine ⟨shape, mem, regs, ?_, ?_, ?_⟩
  · unfold Completes ringAt at completes ⊢
    rw [fe]
    exact completes
  · intro k other
    rw [rings k other]
    unfold ringAt
    rw [fe]
  · rw [fe, others]

/-- What `OnlyCmd` says of an ended command whose effect entered something in the log. -/
theorem Ended.onlyCmd_logged {s : State} {u t f : Dev} {x : Ctx} {r : Ret} {l : List Nat} (ended : Ended s.dev u t x r)
    (rest : SameButAnswer f t) (regs : SameRegsBut (l ++ logRegs) s.dev u) : OnlyCmd l s { s with dev := t } x f := by
  refine ⟨⟨rfl, rest, ?_⟩, ended.rings, ended.others⟩
  intro o others shc
  rw [withDev_dev, ended.regs o (fun report => others (List.mem_append_right _ report)) shc]
  exact regs o others shc

/-- An admitted command that is done is answered, after its entry in the log where it is one of those that have one (R436). -/
theorem command_answers {s : State} {op : Nat} {c : Cmd} {x : Ctx} {sp : CmdSpec} {f : Ctx → Dev → Dev × CmdRes} {u : Dev} {r : Ret}
    (row : specOf op = some sp) (admits : Admits s.dev op c x) (single : op ≠ 0x12) (ran : f x s.dev = (u, .done r)) (free : u.blocked = []) :
    ∃ v, OnlyLogAnd [] u v ∧ (v = u ∨ ∃ a b c d e f g h, v = logAdd u a b c d e f g h)
      ∧ command op c s.dev f = answerCmd v x (cplOf x r) r.data := by
  obtain ⟨runs, head, ring⟩ := command_of_admits row admits f
  have notStep : (sp.op == 0x12) = false := by simpa [specOf_op row] using single
  obtain ⟨v, logged, entry, ends⟩ : ∃ v, OnlyLogAnd [] u v ∧ (v = u ∨ ∃ a b c d e f g h, v = logAdd u a b c d e f g h)
      ∧ endCmd u sp x r = answerCmd v x (cplOf x r) r.data := by
    simp only [endCmd, notStep, Bool.or_false]
    split
    · exact ⟨_, (onlyLog_logAdd _ _ _ _ _ _ _ _ _).and _, .inr ⟨_, _, _, _, _, _, _, _, rfl⟩, rfl⟩
    · exact ⟨_, (OnlyLog.refl u).and _, .inl rfl, rfl⟩
  have unblocked : (answerCmd v x (cplOf x r) r.data).blocked = [] := by rw [answerCmd_rest v r.data (cplOf_key x r), logged.rest, free]
  refine ⟨v, logged, entry, ?_⟩
  rw [runs, runCmd, whole_of_unblocked]
  all_goals simp only [head, ring, ran, ends, unblocked, ne_eq, not_true_eq_false, if_false]

/-- An admitted command that is done ends over whatever its effect left, where it is still in the store. -/
theorem command_ends_over {s : State} {op : Nat} {c : Cmd} {x : Ctx} {sp : CmdSpec} {f : Ctx → Dev → Dev × CmdRes} {u : Dev} {r : Ret}
    (row : specOf op = some sp) (admits : Admits s.dev op c x) (single : op ≠ 0x12) (ran : f x s.dev = (u, .done r)) (free : u.blocked = [])
    (stored : x.origin ≤ 2 → (storeAt u x.key).isSome = true) : Ended u u (finish (command op c s.dev f)) x r := by
  obtain ⟨v, logged, -, answered⟩ := command_answers row admits single ran free
  rw [answered]
  exact ended_answerCmd r rfl rfl stored logged

/-- An admitted command that returns bytes does so, whichever way it came (R431). -/
theorem command_gives {s : State} {op : Nat} {c : Cmd} {x : Ctx} {sp : CmdSpec} {f : Ctx → Dev → Dev × CmdRes} {va : Nat} {b : List Byte} {r : Ret}
    (row : specOf op = some sp) (admits : Admits s.dev op c x) (single : op ≠ 0x12) (ran : f x s.dev = giveBuffer s.dev x va b r) :
    Gives s { s with dev := finish (command op c s.dev f) } x va b r := by
  unfold giveBuffer at ran
  unfold Gives
  split at ran
  · next ring =>
    rw [if_pos ring]
    intro s1 s2 checked written free fe
    dsimp only at ran
    rw [checked] at ran
    have done : f x s.dev = (s2, .done r) := by rw [ran, written]; rfl
    have ended := (command_ends row admits single done free (by rw [fe]) (by rw [fe])).of_fe (v := s2) fe
    exact ⟨ended.completes, ended.mem, Ended.onlyCmd (s := { s with dev := s2 }) ended ended.shape (fun _ _ _ => rfl)⟩
  · next outside =>
    rw [if_neg outside]
    have ended := command_ends row admits single ran (free_of_admits admits) rfl rfl
    exact ⟨ended.completes, ended.mem, ended.onlyCmd ended.shape (fun _ _ _ => rfl)⟩

/-- An admitted command that a check of its own rejects ends with the code, over the module that its accesses left (R293). -/
theorem command_rejects {s : State} {op : Nat} {c : Cmd} {x : Ctx} {sp : CmdSpec} {f : Ctx → Dev → Dev × CmdRes} {u : Dev} {code : Nat}
    (row : specOf op = some sp) (admits : Admits s.dev op c x) (ran : f x s.dev = (u, .reject code)) (free : u.blocked = []) (fe : u.fe = s.dev.fe) :
    ∃ t, finish (command op c s.dev f) = t ∧ SameMem u t ∧ Completes u t x { Ret.ok with status := code }
      ∧ OnlyCmd [Reg.SES_CNT_REJECTS, Reg.LOG_CNT_AUTH_FAILS] { s with dev := u } { s with dev := t } x u := by
  obtain ⟨v, counted, -, rejected⟩ := rejectCmd_counts u x (affected sp x) code
  obtain ⟨runs, head, ring⟩ := command_of_admits row admits f
  have unblocked : (rejectCmd u x (affected sp x) code).blocked = [] := by rw [rejected, answerCmd_rest v [] (cplOf_key x _), counted.rest, free]
  have whole : command op c s.dev f = rejectCmd u x (affected sp x) code := by
    rw [runs, runCmd, whole_of_unblocked]
    all_goals simp only [head, ring, ran, unblocked, ne_eq, not_true_eq_false, if_false]
  have stored : x.origin ≤ 2 → (storeAt u x.key).isSome = true := by
    unfold storeAt
    rw [fe]
    exact stored_of_admits admits
  refine ⟨_, rfl, ?_⟩
  rw [whole, rejected]
  exact answered_leaves (s := { s with dev := u }) (x := x) { Ret.ok with status := code } counted stored

end Sys2Proof.Machine
end

section
/-!
SUPPORT. The manifest and the checkpoints of the log: their sizes, and what a change of one leaves of the others (R30, R439, R440).
-/
namespace Sys2Proof.Machine

/-! ### Sizes -/

@[simp] theorem length_leBytes (n v : Nat) : (leBytes n v).length = n := by
  induction n generalizing v with
  | zero => rfl
  | succ n ih => simp [leBytes, ih]

@[simp] theorem length_fitBytes (n : Nat) (b : List Byte) : (fitBytes n b).length = n := by simp [fitBytes]

@[simp] theorem length_dieRecord (kind pos step state id : Nat) : (dieRecord kind pos step state id).length = 32 := by simp [dieRecord]

@[simp] theorem length_siteRecord (s : Dev) (kind n : Nat) : (siteRecord s kind n).length = 32 := by simp [siteRecord]

/-- Records of 32 bytes, one for each number. -/
theorem length_flatMap_records (n : Nat) (f : Nat → List Byte) (each : ∀ i, (f i).length = 32) : ((List.range n).flatMap f).length = 32 * n := by
  simp [List.length_flatMap, each, Nat.mul_comm]

theorem length_manifest (s : Dev) : (manifest s).length = 3520 := by
  have sites := fun kind : Nat => length_flatMap_records 48 (siteRecord s kind) (length_siteRecord s kind)
  have edges := length_flatMap_records 4 (fun d => dieRecord (3 + d) 0 (fget s (RF.BRG_EDGE_STATUS_STEP d)) 0 (Config.dieId (96 + d)))
    (fun _ => length_dieRecord ..)
  have packages := length_flatMap_records 8 (fun k => dieRecord 7 k (Config.stackStep k) 0 (Config.dieId (100 + k))) (fun _ => length_dieRecord ..)
  unfold manifest
  simp only [List.length_append, length_leBytes, List.length_replicate, sites, edges, packages]

/-! ### Checkpoints -/

/-- What a filter keeps at a key, whatever it drops elsewhere. -/
theorem tget_tfilter_kept {V : Type} (t : List (Nat × V)) {q : Nat → V → Bool} {k : Nat} (kept : ∀ v, tget t k = some v → q k v = true) :
    tget (tfilter t q) k = tget t k := by
  induction t with
  | nil => rfl
  | cons p t ih =>
    obtain ⟨a, v⟩ := p
    unfold tfilter at ih ⊢
    by_cases own : a = k
    · subst own
      have here : q a v = true := kept v (by simp [tget])
      simp [here, tget]
    · have step := ih (fun w found => kept w (by simpa [tget, own] using found))
      by_cases other : q a v = true
      · simp [other, tget, own, step]
      · simp [other, tget, own, step]

theorem tget_modCheckpoint_other (s : Dev) {n k : Nat} (f : Checkpoint → Checkpoint) (other : k ≠ n) :
    tget (modCheckpoint s n f).log.cps k = tget s.log.cps k := by
  show tget (tfilter (tmod s.log.cps n f) (fun k p => k != n || !p.signed || p.inRing || p.inFlash)) k = _
  rw [tget_tfilter_kept _ (fun _ _ => by simp [other]), tget_tmod_other _ _ _ _ other]

theorem tget_modCheckpoint_same {s : Dev} {n : Nat} {p : Checkpoint} (f : Checkpoint → Checkpoint) (here : tget s.log.cps n = some p)
    (held : (!(f p).signed || (f p).inRing || (f p).inFlash) = true) : tget (modCheckpoint s n f).log.cps n = some (f p) := by
  have changed : tget (tmod s.log.cps n f) n = some (f p) := by rw [tget_tmod_same, here]; rfl
  show tget (tfilter (tmod s.log.cps n f) (fun k p => k != n || !p.signed || p.inRing || p.inFlash)) n = _
  refine (tget_tfilter_kept _ (fun q found => ?_)).trans changed
  obtain rfl := Option.some.inj (changed.symm.trans found)
  simpa [Bool.or_assoc] using held

/-- An entry that is written leaves the checkpoints. -/
theorem logPut_cps (s : Dev) (e : LogEntry) : (logPut s e).log.cps = s.log.cps ∧ (logPut s e).log.cpNext = s.log.cpNext := by
  unfold logPut
  dsimp only
  split_ifs <;> simp

theorem noteOverwritten_cps (s : Dev) : (noteOverwritten s).log.cps = s.log.cps := by
  unfold noteOverwritten
  dsimp only
  split
  · rfl
  · exact (logPut_cps _ _).1

/-- Entries of the log leave the checkpoints that have begun. -/
theorem tget_logAdd_cps (s : Dev) {k : Nat} (begun : k < s.log.cpNext) (a b c d e f g h : Nat) :
    tget (logAdd s a b c d e f g h).log.cps k = tget s.log.cps k := by
  have put := fun entry => logPut_cps s entry
  unfold logAdd
  dsimp only
  split
  · rfl
  · split
    · unfold logCommit
      dsimp only
      split
      · rw [noteOverwritten_cps]
        unfold beginCheckpoint
        dsimp only
        rw [(put _).2, tget_tset_other _ _ _ _ begun.ne, (put _).1]
      · rw [(put _).1]
    · rfl

end Sys2Proof.Machine
end

section
/-!
The obligation on the manifest, the audit log, permissions and firmware (R30, R421 to R444).
-/
namespace Sys2Proof.Machine

/-- What `OnlyIn` says of a closed command that changed registers and the log. -/
theorem OnlyLogAnd.onlyIn {s : State} {u : Dev} {l : List Nat} (logged : OnlyLogAnd l s.dev u) :
    OnlyIn (l ++ logRegs) s { s with dev := finish u }
      { s.dev with log := (finish u).log, flash := { s.dev.flash with romLog := (finish u).flash.romLog } } := by
  obtain ⟨regs, rest⟩ := logged
  refine onlyIn_finish ?_ regs
  rw [finish_log, finish_flash, rest]

/-! ### Checkpoints -/

/-- The log at the end of an admitted command that is done: as its effect left it, or with the command's own entry (R436). -/
theorem command_log {s : State} {op : Nat} {c : Cmd} {x : Ctx} {sp : CmdSpec} {f : Ctx → Dev → Dev × CmdRes} {u : Dev} {r : Ret}
    (row : specOf op = some sp) (admits : Admits s.dev op c x) (single : op ≠ 0x12) (ran : f x s.dev = (u, .done r)) (free : u.blocked = []) :
    ∃ v, (finish (command op c s.dev f)).log = v.log ∧ (v = u ∨ ∃ a b c d e f g h, v = logAdd u a b c d e f g h) := by
  obtain ⟨v, -, entry, answered⟩ := command_answers row admits single ran free
  refine ⟨v, ?_, entry⟩
  rw [answered, finish_log, answerCmd_rest v r.data (cplOf_key x r)]

/-- LOG_CHECKPOINT_NOW ends over the log that its own entry went on (R436, R439). -/
theorem logCheckpointNow_begun {s : State} {c : Cmd} {x : Ctx} (admits : Admits s.dev 0xA3 c x) (new : hasNew s.dev = true) :
    ∃ t, exec (.logCheckpointNow c) s = .next { s with dev := t } ∧ Ended s.dev (beginCheckpoint s.dev 1) t x { Ret.ok with r0 := s.dev.log.cpNext }
      ∧ tget t.log.cps s.dev.log.cpNext = tget (beginCheckpoint s.dev 1).log.cps s.dev.log.cpNext := by
  have unblocked := free_of_admits admits
  obtain ⟨f, runs, ran⟩ : ∃ f, exec (.logCheckpointNow c) s = .next { s with dev := finish (command 0xA3 c s.dev f) }
      ∧ f x s.dev = (beginCheckpoint s.dev 1, .done { Ret.ok with r0 := s.dev.log.cpNext }) := ⟨_, rfl, if_neg (by simp [new])⟩
  refine ⟨_, runs, command_ends rfl admits (by decide) ran unblocked rfl rfl, ?_⟩
  obtain ⟨v, same, entry⟩ := command_log rfl admits (by decide) ran unblocked
  rw [same]
  obtain rfl | ⟨_, _, _, _, _, _, _, _, rfl⟩ := entry
  · rfl
  · exact tget_logAdd_cps _ (Nat.lt_succ_self _) _ _ _ _ _ _ _ _

/-- A checkpoint that is signed, and is held in the ring where the ring takes it (R439, R440). -/
def withSigned (s : Dev) (n : Nat) (ring : Bool) : Dev :=
  let s := { s with log := { s.log with cps := tmod s.log.cps n (fun p => { p with signed := true, inRing := ring }) } }
  if ring ∧ n ≥ 512 then modCheckpoint s (n - 512) (fun p => { p with inRing := false }) else s

/-- A checkpoint that flash has taken, in the place of the one 2,048 before it (R439). -/
def withFlashCopy (s : Dev) (n : Nat) : Dev :=
  let s := modCheckpoint s n (fun p => { p with inFlash := true })
  if n ≥ 2048 then modCheckpoint s (n - 2048) (fun p => { p with inFlash := false }) else s

theorem withSigned_shape (s : Dev) (n : Nat) (ring : Bool) :
    ∃ cps, withSigned s n ring = { s with log := { s.log with cps := cps } } := by
  unfold withSigned
  dsimp only
  split
  · exact ⟨_, rfl⟩
  · exact ⟨_, rfl⟩

theorem withFlashCopy_shape (s : Dev) (n : Nat) : ∃ cps, withFlashCopy s n = { s with log := { s.log with cps := cps } } := by
  unfold withFlashCopy
  dsimp only
  split
  · exact ⟨_, rfl⟩
  · exact ⟨_, rfl⟩

theorem tget_withSigned_same {s : Dev} {n : Nat} {p : Checkpoint} (ring : Bool) (here : tget s.log.cps n = some p) :
    tget (withSigned s n ring).log.cps n = some { p with signed := true, inRing := ring } := by
  have signed : tget (tmod s.log.cps n (fun p => { p with signed := true, inRing := ring })) n = some { p with signed := true, inRing := ring } := by
    rw [tget_tmod_same, here]
    rfl
  unfold withSigned
  dsimp only
  split
  · next wraps =>
    rw [tget_modCheckpoint_other _ _ (by omega : n ≠ n - 512)]
    exact signed
  · exact signed

theorem tget_withSigned_other (s : Dev) {n k : Nat} (ring : Bool) (other : k ≠ n) (before : k + 512 ≠ n) :
    tget (withSigned s n ring).log.cps k = tget s.log.cps k := by
  have kept := tget_tmod_other s.log.cps n k (fun p => { p with signed := true, inRing := ring }) other
  unfold withSigned
  dsimp only
  split
  · next wraps =>
    rw [tget_modCheckpoint_other _ _ (by omega : k ≠ n - 512)]
    exact kept
  · exact kept

theorem tget_withFlashCopy_same {s : Dev} {n : Nat} {p : Checkpoint} (here : tget s.log.cps n = some p) :
    tget (withFlashCopy s n).log.cps n = some { p with inFlash := true } := by
  have copied := tget_modCheckpoint_same (fun p => { p with inFlash := true }) here (by simp)
  unfold withFlashCopy
  dsimp only
  split
  · next wraps =>
    rw [tget_modCheckpoint_other _ _ (by omega : n ≠ n - 2048)]
    exact copied
  · exact copied

theorem tget_withFlashCopy_other (s : Dev) {n k : Nat} (other : k ≠ n) (before : k + 2048 ≠ n) :
    tget (withFlashCopy s n).log.cps k = tget s.log.cps k := by
  have kept := tget_modCheckpoint_other s (fun p => { p with inFlash := true }) other
  unfold withFlashCopy
  dsimp only
  split
  · next wraps =>
    rw [tget_modCheckpoint_other _ _ (by omega : k ≠ n - 2048)]
    exact kept
  · exact kept

/-- Entries of the log leave the count of failed copies that was entered last. -/
theorem logPut_lastFlashFails (s : Dev) (e : LogEntry) : (logPut s e).log.lastFlashFails = s.log.lastFlashFails := by
  unfold logPut
  dsimp only
  split_ifs <;> simp

theorem logAdd_lastFlashFails (s : Dev) (a b c d e f g h : Nat) : (logAdd s a b c d e f g h).log.lastFlashFails = s.log.lastFlashFails := by
  have put := fun s entry => logPut_lastFlashFails s entry
  unfold logAdd
  dsimp only
  split
  · rfl
  · split
    · unfold logCommit
      dsimp only
      split
      · unfold noteOverwritten
        dsimp only
        split
        · exact put _ _
        · rw [put]
          exact put _ _
      · exact put _ _
    · rfl

/-- A copy to flash that fails is counted, and entered with the count of the entry before (R439). -/
def withFlashFail (s : Dev) : Dev :=
  let s := bump s Reg.LOG_CNT_FLASH_FAILS
  let fails := regRead s Reg.LOG_CNT_FLASH_FAILS
  logFw { s with log := { s.log with lastFlashFails := fails } } 13 2 s.log.lastFlashFails fails

theorem withFlashFail_leaves (s : Dev) : OnlyLogAnd [Reg.LOG_CNT_FLASH_FAILS] s (withFlashFail s)
    ∧ regRead (withFlashFail s) Reg.LOG_CNT_FLASH_FAILS = (regRead s Reg.LOG_CNT_FLASH_FAILS + 1) % 2 ^ 64
    ∧ (withFlashFail s).log.lastFlashFails = regRead (withFlashFail s) Reg.LOG_CNT_FLASH_FAILS := by
  have apart : ¬ isLogReg Reg.LOG_CNT_FLASH_FAILS := by
    rw [← mem_logRegs]
    decide
  have counted : OnlyLogAnd [Reg.LOG_CNT_FLASH_FAILS] s (bump s Reg.LOG_CNT_FLASH_FAILS) := onlyLogAnd_regWrite s _ (by simp)
  have logged := fun (u : Dev) (a b c d : Nat) => onlyLog_logFw u a b c d
  have count := regRead_bump_same s Reg.LOG_CNT_FLASH_FAILS
  unfold withFlashFail
  dsimp only
  refine ⟨(counted.trans ((onlyLog_log _ _).and _)).trans ((logged _ _ _ _ _).and _), ?_, ?_⟩
  · rw [(logged _ _ _ _ _).regs _ apart]
    exact count
  · rw [(logged _ _ _ _ _).regs _ apart]
    exact logAdd_lastFlashFails _ _ _ _ _ _ _ _ _

section
variable {s : State} {n : Nat} {p : Checkpoint}

/-- A checkpoint whose turn it is is signed (R440). -/
theorem exec_checkpointSigned (here : tget s.dev.log.cps n = some p) (primary : s.dev.start.primary = true) (fits : n < 2 ^ 64) (unsigned : p.signed = false)
    (turn : ∀ q ∈ s.dev.log.cps, n ≤ q.1 ∨ q.2.signed = true) :
    ∃ t, exec (.checkpointSigned n) s = .next t ∧ SameMem s.dev t.dev ∧ regRead t.dev Reg.LOG_CP_LAST = n
      ∧ regRead t.dev Reg.LOG_CNT_CHECKPOINTS = (regRead s.dev Reg.LOG_CNT_CHECKPOINTS + 1) % 2 ^ 64
      ∧ tget t.dev.log.cps n = some { p with
          signed := true, inRing := fget s.dev RF.BRG_ERR_STATUS_FATAL == 0 && fget s.dev RF.BRG_START_STATUS_STAGE == 9 }
      ∧ (∀ k, k ≠ n → k + 512 ≠ n → tget t.dev.log.cps k = tget s.dev.log.cps k)
      ∧ OnlyIn [Reg.LOG_CNT_CHECKPOINTS, Reg.LOG_CP_LAST] s t { s.dev with log := { s.dev.log with cps := t.dev.log.cps } } := by
  have mine : ¬ (p.signed = true ∨ (!s.dev.start.primary) = true ∨ s.dev.log.cps.any (fun q => decide (q.1 < n) && !q.2.signed) = true) := by
    have early : s.dev.log.cps.any (fun q => decide (q.1 < n) && !q.2.signed) = false := by
      rw [List.any_eq_false]
      intro q member
      simpa using fun before => (turn q member).resolve_left (Nat.not_le.mpr before)
    simp [unsigned, primary, early]
  obtain ⟨ring, isRing⟩ : ∃ ring, ring = (fget s.dev RF.BRG_ERR_STATUS_FATAL == 0 && fget s.dev RF.BRG_START_STATUS_STAGE == 9) := ⟨_, rfl⟩
  have runs : exec (.checkpointSigned n) s = .next { s with
      dev := finish (regWrite (bump (withSigned s.dev n ring) Reg.LOG_CNT_CHECKPOINTS) Reg.LOG_CP_LAST n) } := by
    show execCheckpointSigned n s = _
    unfold execCheckpointSigned
    rw [perform_eq, here]
    dsimp only
    rw [if_neg mine, isRing]
    rfl
  have same := tget_withSigned_same (n := n) ring here
  have others := fun k => tget_withSigned_other s.dev (n := n) (k := k) ring
  obtain ⟨cps, shape⟩ := withSigned_shape s.dev n ring
  rw [shape] at runs same others
  refine ⟨_, runs, sameMem_finish rfl, ?_, ?_, isRing ▸ same, others, onlyIn_finish rfl ?_⟩
  · rw [withDev_dev, regRead_finish _ _ (by decide), regRead_regWrite_same, Nat.mod_eq_of_lt fits]
  · rw [withDev_dev, regRead_finish _ _ (by decide), regRead_regWrite_other _ _ _ _ (by decide), regRead_bump_same]
    rfl
  · intro o others _
    obtain ⟨uncounted, unnamed⟩ := ne_of_not_mem_pair others
    rw [regRead_regWrite_other _ _ _ _ unnamed, regRead_bump_other _ _ _ uncounted]
    rfl

/-- A signed checkpoint reaches its flash slot (R439). -/
theorem exec_checkpointFlashCopy_ok (here : tget s.dev.log.cps n = some p) (primary : s.dev.start.primary = true) (signed : p.signed = true)
    (missing : p.inFlash = false) :
    ∃ t, exec (.checkpointFlashCopy n true) s = .next t ∧ SameMem s.dev t.dev ∧ tget t.dev.log.cps n = some { p with inFlash := true }
      ∧ (∀ k, k ≠ n → k + 2048 ≠ n → tget t.dev.log.cps k = tget s.dev.log.cps k)
      ∧ OnlyIn [] s t { s.dev with log := { s.dev.log with cps := t.dev.log.cps } } := by
  have runs : exec (.checkpointFlashCopy n true) s = .next { s with dev := finish (withFlashCopy s.dev n) } := by
    show execCheckpointFlashCopy n true s = _
    unfold execCheckpointFlashCopy
    rw [perform_eq, here]
    dsimp only
    rw [if_neg (by simp [signed, missing, primary]), if_pos rfl]
    rfl
  have same := tget_withFlashCopy_same here
  have others := fun k => tget_withFlashCopy_other s.dev (n := n) (k := k)
  obtain ⟨cps, shape⟩ := withFlashCopy_shape s.dev n
  rw [shape] at runs same others
  exact ⟨_, runs, sameMem_finish rfl, same, others, onlyIn_finish rfl (fun _ _ _ => rfl)⟩

/-- A copy that fails is counted and entered (R439). -/
theorem exec_checkpointFlashCopy_fails (here : tget s.dev.log.cps n = some p) (primary : s.dev.start.primary = true) (signed : p.signed = true)
    (missing : p.inFlash = false) :
    ∃ t, exec (.checkpointFlashCopy n false) s = .next t ∧ SameMem s.dev t.dev
      ∧ regRead t.dev Reg.LOG_CNT_FLASH_FAILS = (regRead s.dev Reg.LOG_CNT_FLASH_FAILS + 1) % 2 ^ 64
      ∧ t.dev.log.lastFlashFails = regRead t.dev Reg.LOG_CNT_FLASH_FAILS
      ∧ OnlyIn ([Reg.LOG_CNT_FLASH_FAILS] ++ logRegs) s t
          { s.dev with log := t.dev.log, flash := { s.dev.flash with romLog := t.dev.flash.romLog } } := by
  have runs : exec (.checkpointFlashCopy n false) s = .next { s with dev := finish (withFlashFail s.dev) } := by
    show execCheckpointFlashCopy n false s = _
    unfold execCheckpointFlashCopy
    rw [perform_eq, here]
    dsimp only
    rw [if_neg (by simp [signed, missing, primary]), if_neg (by decide)]
    rfl
  obtain ⟨logged, count, last⟩ := withFlashFail_leaves s.dev
  refine ⟨_, runs, sameMem_finish (by rw [logged.rest]), ?_, ?_, ?_⟩
  · rw [withDev_dev, regRead_finish _ _ (by decide)]
    exact count
  · rw [withDev_dev, regRead_finish _ _ (by decide), finish_log]
    exact last
  · exact logged.onlyIn

end

end Sys2Proof.Machine
end

section
/-!
SUPPORT. What the commands of permissions, policy and firmware leave (R424, R429, R431, R435, R444).
-/
namespace Sys2Proof.Machine

/-! ### The head of a command -/

/-- A command that is admitted has nothing set that is reserved (R290, R295). -/
theorem unreserved_of_admits {s : Dev} {op : Nat} {c : Cmd} {x : Ctx} {sp : CmdSpec} (row : specOf op = some sp) (admits : Admits s op c x) :
    reservedSet sp x.e = false := by
  obtain ⟨-, -, -, ⟨sp', row', head, -⟩, -⟩ := admits
  obtain rfl : sp' = sp := Option.some.inj (row'.symm.trans row)
  unfold headCode at head
  split at head
  · simp [eReserved] at head
  · next clear => simpa using clear

/-- The reserved bits of a byte that has some are clear. -/
theorem reservedBits_clear {sp : CmdSpec} {e : Entry512} (clear : reservedSet sp e = false) {off mask : Nat} (named : (off, mask) ∈ sp.resv) :
    eb e off 1 &&& mask = 0 := by
  unfold reservedSet at clear
  simp only [Bool.or_eq_false_iff, List.any_eq_false] at clear
  obtain ⟨-, bits⟩ := clear
  simpa using bits (off, mask) named

/-- A byte whose three highest bits are clear is one of five bits. -/
theorem five_bits : ∀ b < 256, b &&& 0xE0 = 0 → b < 32 := by decide +kernel

/-- The sets that PERM_SET names are of five origins (R435). -/
theorem permSets_of_admits {s : Dev} {c : Cmd} {x : Ctx} (admits : Admits s 0xA4 c x) : eb x.e 17 1 < 32 ∧ eb x.e 18 1 < 32 := by
  have clear := unreserved_of_admits rfl admits
  exact ⟨five_bits _ (bitsOf_lt _ _ _) (reservedBits_clear clear (by simp)), five_bits _ (bitsOf_lt _ _ _) (reservedBits_clear clear (by simp))⟩

/-! ### Permissions -/

/-- A permission row whose effective set is another one, kept in flash (R435). -/
def withPerm (s : Dev) (row new : Nat) : Dev :=
  fset { s with flash := { s.flash with perms := tset s.flash.perms row new } } (RF.SEC_PERM_EFFECTIVE row) new

/-- PERM_SET's own effect where its checks pass (R435). -/
theorem permSet_ends {s : State} {c : Cmd} {x : Ctx} {row clr set new : Nat} (admits : Admits s.dev 0xA4 c x) (isRow : row = eb x.e 16 1)
    (isClr : clr = eb x.e 17 1) (isSet : set = eb x.e 18 1) (origin : x.origin = 1 → set = 0) (known : row ≤ 16)
    (free : fget s.dev (RF.SEC_PERM_FIXED row) ≠ 1) (within : set &&& (31 - fget s.dev (RF.SEC_PERM_CEILING row)) = 0)
    (isNew : new = (fget s.dev (RF.SEC_PERM_EFFECTIVE row) &&& (31 - clr)) ||| set) :
    ∃ u t, OnlyLog s.dev u ∧ exec (.permSet c) s = .next { s with dev := t } ∧ Ended s.dev (withPerm u row new) t x Ret.ok := by
  obtain ⟨five, -⟩ := permSets_of_admits admits
  have short : clr % 32 = clr := Nat.mod_eq_of_lt (isClr ▸ five)
  have logged := onlyLog_logAdd s.dev x.origin (originId x) 0 12 row 0xFF (fget s.dev (RF.SEC_PERM_EFFECTIVE row)) new
  have unblocked := free_of_admits admits
  refine ⟨_, _, logged, rfl, command_ends rfl admits (by decide) ?_ ?_ ?_ ?_⟩
  · subst isRow isClr isSet isNew
    refine (afterChecks_pass ?_ _).trans ?_
    · simp only [List.forall_mem_cons, List.not_mem_nil, false_implies, implies_true, and_true]
      refine ⟨by simpa using origin, ?_⟩
      simpa [known, within] using free
    · rw [short]
      rfl
  · show (logAdd _ _ _ _ _ _ _ _ _).blocked = []
    rw [logged.rest, unblocked]
  · show (logAdd _ _ _ _ _ _ _ _ _).fe.store = _
    rw [logged.fe]
  · show (logAdd _ _ _ _ _ _ _ _ _).fe.rings = _
    rw [logged.fe]

/-- Of its row, a permission row's change touches the effective set (R435). -/
theorem fget_withPerm (u : Dev) {row new : Nat} (five : new < 32) :
    fget (withPerm u row new) (RF.SEC_PERM_EFFECTIVE row) = new
      ∧ fget (withPerm u row new) (RF.SEC_PERM_CEILING row) = fget u (RF.SEC_PERM_CEILING row)
      ∧ fget (withPerm u row new) (RF.SEC_PERM_FIXED row) = fget u (RF.SEC_PERM_FIXED row) := by
  refine ⟨?_, ?_, ?_⟩
  · exact (fget_fset_same _ _ _ (by show 0 + 5 ≤ 64; omega)).trans (Nat.mod_eq_of_lt five)
  · exact fget_fset_bits _ (RF.SEC_PERM_EFFECTIVE row) (RF.SEC_PERM_CEILING row) _ rfl (by show 8 + 5 ≤ 64; omega) (.inr (by show 0 + 5 ≤ 8; omega))
  · exact fget_fset_bits _ (RF.SEC_PERM_EFFECTIVE row) (RF.SEC_PERM_FIXED row) _ rfl (by show 16 + 1 ≤ 64; omega) (.inr (by show 0 + 5 ≤ 16; omega))

/-- PERM_SET's clause (R435). -/
theorem exec_permSet {s : State} {c : Cmd} {x : Ctx} {row clr set new : Nat} (admits : Admits s.dev 0xA4 c x) (isRow : row = eb x.e 16 1)
    (isClr : clr = eb x.e 17 1) (isSet : set = eb x.e 18 1) (origin : x.origin = 1 → set = 0) (known : row ≤ 16)
    (free : fget s.dev (RF.SEC_PERM_FIXED row) ≠ 1) (within : set &&& (31 - fget s.dev (RF.SEC_PERM_CEILING row)) = 0)
    (isNew : new = (fget s.dev (RF.SEC_PERM_EFFECTIVE row) &&& (31 - clr)) ||| set) :
    ∃ t, exec (.permSet c) s = .next t ∧ SameMem s.dev t.dev ∧ Completes s.dev t.dev x Ret.ok ∧ fget t.dev (RF.SEC_PERM_EFFECTIVE row) = new
      ∧ fget t.dev (RF.SEC_PERM_CEILING row) = fget s.dev (RF.SEC_PERM_CEILING row) ∧ fget t.dev (RF.SEC_PERM_FIXED row) = fget s.dev (RF.SEC_PERM_FIXED row)
      ∧ tget t.dev.flash.perms row = some new
      ∧ OnlyCmd [Reg.SEC_PERM row] s t x { s.dev with flash := { s.dev.flash with perms := t.dev.flash.perms } } := by
  obtain ⟨u, t, logged, ran, ended⟩ := permSet_ends admits isRow isClr isSet origin known free within isNew
  obtain ⟨-, five⟩ := permSets_of_admits admits
  have place : Reg.SEC_PERM row = 0x1D0800 + 8 * row := rfl
  have small : new < 2 ^ 5 := by
    rw [isNew]
    exact Nat.or_lt_two_pow ((Nat.and_le_left).trans_lt (bitsOf_lt _ _ _)) (isSet ▸ five)
  obtain ⟨effective, ceiling, fixed⟩ := fget_withPerm u (row := row) small
  have fields : ∀ f : Fld, f.off = Reg.SEC_PERM row → fget t f = fget (withPerm u row new) f :=
    fun f own => ended.fget (by rw [own]; omega) (by rw [own]; omega)
  have apart : ¬ isLogReg (Reg.SEC_PERM row) := by
    have above : ∀ o ∈ logRegs, 0x1E0000 ≤ o := by decide
    rw [← mem_logRegs]
    exact fun report => absurd (above _ report) (by omega)
  have regs : SameRegsBut ([Reg.SEC_PERM row] ++ logRegs) s.dev (withPerm u row new) := by
    intro o others shc
    rw [List.mem_append, not_or] at others
    obtain ⟨other, report⟩ := others
    refine (sameRegsBut_fset _ (RF.SEC_PERM_EFFECTIVE row) new o other shc).trans ?_
    exact logged.regs o (fun own => report (mem_logRegs.mpr own))
  obtain ⟨regs', log, rom, rfl⟩ : ∃ regs log rom, u = { s.dev with regs := regs, log := log, flash := { s.dev.flash with romLog := rom } } :=
    ⟨_, _, _, (logged.and []).rest⟩
  have shape := ended.shape
  have perms : t.flash.perms = tset s.dev.flash.perms row new := by rw [shape]; rfl
  refine ⟨_, ran, (sameMem_of_dram rfl).trans ended.mem, ended.completes, (fields _ rfl).trans effective,
    ((fields _ rfl).trans ceiling).trans (logged.fget _ apart), ((fields _ rfl).trans fixed).trans (logged.fget _ apart), ?_,
    ended.onlyCmd_logged ?_ regs⟩
  · rw [withDev_dev, perms]
    exact tget_tset_same _ _ _
  · rw [withDev_dev, perms]
    exact shape

/-! ### Policy -/

/-- ADMIT_POLICY_SET's clause (R429). -/
theorem exec_admitPolicySet {s : State} {c : Cmd} {x : Ctx} {n : Nat} {s1 : Dev} {b : List Byte} (admits : Admits s.dev 0xA5 c x)
    (isN : n = eb x.e 18 1) (few : n ≤ 16) (given : cmdBuffer s.dev x (eb x.e 24 8) (64 * n) = (s1, b, 0)) (free : s1.blocked = [])
    (fe : s1.fe = s.dev.fe) :
    ∃ t, exec (.admitPolicySet c) s = .next t ∧ SameMem s1 t.dev ∧ Completes s1 t.dev x Ret.ok
      ∧ OnlyCmd [] { s with dev := s1 } t x { s1 with
          flash := { s1.flash with minSvn := eb x.e 16 2, allowed := (List.range n).map (fun i => (b.drop (64 * i)).take 64) } } := by
  obtain ⟨f, runs, ran⟩ : ∃ f, exec (.admitPolicySet c) s = .next { s with dev := finish (command 0xA5 c s.dev f) }
      ∧ f x s.dev = ({ s1 with flash := { s1.flash with
          minSvn := eb x.e 16 2, allowed := (List.range n).map (fun i => (b.drop (64 * i)).take 64) } }, .done Ret.ok) := by
    refine ⟨_, rfl, ?_⟩
    subst isN
    dsimp only
    rw [if_neg (Nat.not_lt.mpr few), given]
    rfl
  have ended := (command_ends rfl admits (by decide) ran free (by rw [fe]) (by rw [fe])).of_fe (v := s1) fe
  exact ⟨_, runs, (sameMem_of_dram rfl).trans ended.mem, ended.completes,
    Ended.onlyCmd (s := { s with dev := s1 }) ended ended.shape (fun _ _ _ => rfl)⟩

/-! ### Firmware -/

/-- A module with another image in a slot of flash, which is the active one where ACTIVATE asks for it (R444). -/
def withImage (s : Dev) (slot : Nat) (i : FwImage) (act : Nat) : Dev :=
  { s with flash := { s.flash with slots := tset s.flash.slots slot i, active := if act = 1 then slot else s.flash.active } }

/-- What the answer to a command leaves of the slots of flash. -/
theorem flash_of_sameButAnswer {u t : Dev} (same : SameButAnswer u t) : t.flash.slots = u.flash.slots ∧ t.flash.active = u.flash.active := by
  rw [same]
  exact ⟨rfl, rfl⟩

/-- FW_STAGE's clause (R444). -/
theorem exec_fwStage {s : State} {c : Cmd} {x : Ctx} {n : Nat} {s1 : Dev} {b : List Byte} (admits : Admits s.dev 0xA6 c x)
    (isN : n = eb x.e 32 4) (few : n ≤ 2 ^ 25) (act : eb x.e 36 1 ≤ 1) (given : cmdBuffer s.dev x (eb x.e 24 8) n = (s1, b, 0))
    (free : s1.blocked = []) (fe : s1.fe = s.dev.fe) (normal : fget s1 RF.BRG_START_STATUS_RECOVERY = 0) :
    ∃ t, exec (.fwStage c) s = .next t ∧ SameMem s1 t.dev
      ∧ (if imagePasses s1 (fwImageOf b) then
          Completes s1 t.dev x Ret.ok ∧ tget t.dev.flash.slots (1 - fget s1 RF.SEC_STATUS_SLOT) = some (fwImageOf b)
            ∧ t.dev.flash.active = (if eb x.e 36 1 = 1 then 1 - fget s1 RF.SEC_STATUS_SLOT else s1.flash.active)
        else Completes s1 t.dev x { Ret.ok with status := eAuth } ∧ t.dev.flash.slots = s1.flash.slots ∧ t.dev.flash.active = s1.flash.active)
      ∧ (∀ j, j ≠ 1 - fget s1 RF.SEC_STATUS_SLOT → tget t.dev.flash.slots j = tget s1.flash.slots j)
      ∧ OnlyCmd [Reg.SES_CNT_REJECTS, Reg.LOG_CNT_AUTH_FAILS] { s with dev := s1 } t x
          { s1 with flash := { s1.flash with slots := t.dev.flash.slots, active := t.dev.flash.active } } := by
  have slot : stageSlot s1 = 1 - fget s1 RF.SEC_STATUS_SLOT := if_neg (by rw [normal]; decide)
  obtain ⟨old, isOld⟩ : ∃ old, old = ((tget s1.flash.slots (stageSlot s1)).map (·.svn)).getD 0 := ⟨_, rfl⟩
  obtain ⟨f, runs, ran⟩ : ∃ f, exec (.fwStage c) s = .next { s with dev := finish (command 0xA6 c s.dev f) }
      ∧ f x s.dev = afterChecks s1 [(!imagePasses s1 (fwImageOf b), eAuth)]
          (logAdd (withImage s1 (stageSlot s1) (fwImageOf b) (eb x.e 36 1)) x.origin (originId x) 0 11 (stageSlot s1) 0xFF old (fwImageOf b).svn,
            .done Ret.ok) := by
    refine ⟨_, rfl, ?_⟩
    subst isN isOld
    dsimp only
    rw [if_neg (by omega), given]
    rfl
  rw [← slot]
  by_cases passes : imagePasses s1 (fwImageOf b) = true
  · have done := ran.trans (afterChecks_pass (by simp [passes]) _)
    obtain ⟨u, logged, isU⟩ : ∃ u, OnlyLog (withImage s1 (stageSlot s1) (fwImageOf b) (eb x.e 36 1)) u
        ∧ u = logAdd (withImage s1 (stageSlot s1) (fwImageOf b) (eb x.e 36 1)) x.origin (originId x) 0 11 (stageSlot s1) 0xFF old (fwImageOf b).svn :=
      ⟨_, onlyLog_logAdd _ _ _ _ _ _ _ _ _, rfl⟩
    rw [← isU] at done
    have ended := (command_ends rfl admits (by decide) done (by rw [logged.rest]; exact free) (by rw [logged.fe]; exact congrArg _ fe)
      (by rw [logged.fe]; exact congrArg _ fe)).of_fe (v := s1) fe
    have regs : SameRegsBut logRegs s1 u := fun o others _ => logged.regs o (fun own => others (mem_logRegs.mpr own))
    obtain ⟨regs', log, rom, rfl⟩ : ∃ regs log rom, u = { s1 with
        regs := regs, log := log,
        flash := { s1.flash with slots := tset s1.flash.slots (stageSlot s1) (fwImageOf b),
                                 active := if eb x.e 36 1 = 1 then stageSlot s1 else s1.flash.active, romLog := rom } } :=
      ⟨_, _, _, (logged.and []).rest⟩
    obtain ⟨slots, active⟩ := flash_of_sameButAnswer ended.shape
    refine ⟨_, runs, (sameMem_of_dram rfl).trans ended.mem, ?_, ?_, Ended.onlyCmd_logged (s := { s with dev := s1 }) ended ?_ ?_⟩
    · rw [if_pos passes]
      refine ⟨ended.completes, ?_, active⟩
      rw [withDev_dev, slots]
      exact tget_tset_same _ _ _
    · intro j other
      rw [withDev_dev, slots]
      exact tget_tset_other _ _ _ _ other
    · rw [withDev_dev, slots, active]
      exact ended.shape
    · intro o others shc
      exact regs o (fun report => others (List.mem_append_right _ report)) shc
  · have rejected : f x s.dev = (s1, .reject eAuth) := by
      rw [ran, Bool.not_eq_true _ |>.mp passes]
      rfl
    obtain ⟨t, isT, mem, completes, only⟩ := command_rejects rfl admits rejected free fe
    rw [isT] at runs
    have ⟨⟨_, shape, _⟩, _, _⟩ := only
    obtain ⟨slots, active⟩ := flash_of_sameButAnswer shape
    refine ⟨_, runs, mem, ?_, ?_, ?_⟩
    · rw [if_neg passes]
      exact ⟨completes, slots, active⟩
    · intro j _
      rw [withDev_dev, slots]
    · rw [withDev_dev, slots, active]
      exact only

/-- A module whose fused SVN has been raised to another (R424). -/
def withSvn (s : Dev) (svn : Nat) : Dev :=
  fset { s with flash := { s.flash with fusedSvn := svn, raises := s.flash.raises + 1 } } RF.SEC_STATUS_FUSED_SVN svn

/-- FW_COMMIT_SVN's clause (R424). -/
theorem exec_fwCommitSvn {s : State} {c : Cmd} {x : Ctx} (admits : Admits s.dev 0xA7 c x)
    (higher : s.dev.flash.fusedSvn < fget s.dev RF.SEC_STATUS_IMAGE_SVN) (room : s.dev.flash.raises < 63) :
    ∃ t, exec (.fwCommitSvn c) s = .next t ∧ SameMem s.dev t.dev ∧ Completes s.dev t.dev x Ret.ok
      ∧ fget t.dev RF.SEC_STATUS_FUSED_SVN = fget s.dev RF.SEC_STATUS_IMAGE_SVN
      ∧ fget t.dev RF.SEC_STATUS_IMAGE_SVN = fget s.dev RF.SEC_STATUS_IMAGE_SVN
      ∧ OnlyCmd [Reg.SEC_STATUS] s t x { s.dev with
          flash := { s.dev.flash with fusedSvn := fget s.dev RF.SEC_STATUS_IMAGE_SVN, raises := s.dev.flash.raises + 1 } } := by
  obtain ⟨image, isImage⟩ : ∃ image, image = fget s.dev RF.SEC_STATUS_IMAGE_SVN := ⟨_, rfl⟩
  obtain ⟨u, logged, isU⟩ : ∃ u, OnlyLog s.dev u
      ∧ u = logAdd s.dev x.origin (originId x) 0 11 (fget s.dev RF.SEC_STATUS_SLOT) 0xFF s.dev.flash.fusedSvn (fget s.dev RF.SEC_STATUS_IMAGE_SVN) :=
    ⟨_, onlyLog_logAdd _ _ _ _ _ _ _ _ _, rfl⟩
  obtain ⟨f, runs, ran⟩ : ∃ f, exec (.fwCommitSvn c) s = .next { s with dev := finish (command 0xA7 c s.dev f) }
      ∧ f x s.dev = (withSvn u image, .done Ret.ok) := by
    refine ⟨_, rfl, ?_⟩
    refine (afterChecks_pass ?_ _).trans ?_
    · simp only [List.forall_mem_cons, List.not_mem_nil, false_implies, implies_true, and_true]
      simp [higher, room]
    · rw [isImage, isU]
      rfl
  have ended := command_ends rfl admits (by decide) ran (by show u.blocked = []; rw [logged.rest]; exact free_of_admits (s := s.dev) admits)
    (by show u.fe.store = _; rw [logged.fe]) (by show u.fe.rings = _; rw [logged.fe])
  have apart : ¬ isLogReg Reg.SEC_STATUS := by
    rw [← mem_logRegs]
    decide
  have fused : fget (withSvn u image) RF.SEC_STATUS_FUSED_SVN = image := by
    refine (fget_fset_same _ RF.SEC_STATUS_FUSED_SVN _ (by decide)).trans (Nat.mod_eq_of_lt ?_)
    rw [isImage]
    exact bitsOf_lt _ _ _
  have shown : fget (withSvn u image) RF.SEC_STATUS_IMAGE_SVN = image := by
    refine (fget_fset_bits _ RF.SEC_STATUS_FUSED_SVN RF.SEC_STATUS_IMAGE_SVN _ rfl (by decide) (by decide)).trans ?_
    exact (logged.fget _ apart).trans isImage.symm
  have regs : SameRegsBut ([Reg.SEC_STATUS] ++ logRegs) s.dev (withSvn u image) := by
    intro o others shc
    rw [List.mem_append, not_or] at others
    obtain ⟨other, report⟩ := others
    refine (sameRegsBut_fset _ RF.SEC_STATUS_FUSED_SVN image o other shc).trans ?_
    exact logged.regs o (fun own => report (mem_logRegs.mpr own))
  obtain ⟨regs', log, rom, shape⟩ : ∃ regs log rom, withSvn u image = { s.dev with
      regs := regs, log := log,
      flash := { s.dev.flash with fusedSvn := image, raises := s.dev.flash.raises + 1, romLog := rom } } := by
    obtain ⟨regs', log, rom, isU'⟩ : ∃ regs log rom, u = { s.dev with regs := regs, log := log, flash := { s.dev.flash with romLog := rom } } :=
      ⟨_, _, _, (logged.and []).rest⟩
    rw [isU']
    exact ⟨_, _, _, rfl⟩
  have both : ∀ g : Fld, g.off = Reg.SEC_STATUS → fget (finish (command 0xA7 c s.dev f)) g = fget (withSvn u image) g :=
    fun g own => ended.fget (by rw [own]; decide) (by rw [own]; decide)
  rw [← isImage]
  refine ⟨_, runs, (sameMem_of_dram (by rw [shape])).trans ended.mem, ended.completes, (both _ rfl).trans fused, (both _ rfl).trans shown,
    ended.onlyCmd_logged ?_ regs⟩
  have rest := ended.shape
  rw [shape] at rest
  exact rest

/-! ### The sideband root -/

/-- A foldl of writes to registers of their own leaves in each its value. -/
theorem regRead_foldl_regWrite (reg val : Nat → Nat) (apart : ∀ i j, reg i = reg j → i = j) (l : List Nat) (once : l.Nodup) {j : Nat} (named : j ∈ l)
    (s : Dev) : regRead (l.foldl (fun s j => regWrite s (reg j) (val j)) s) (reg j) = val j % 2 ^ 64 := by
  induction l generalizing s with
  | nil => cases named
  | cons i l ih =>
    obtain ⟨fresh, once⟩ := List.nodup_cons.mp once
    rw [List.foldl_cons]
    by_cases own : j = i
    · subst own
      rw [regRead_foldl (fun s j => regWrite s (reg j) (val j)) l]
      · exact regRead_regWrite_same _ _ _
      · intro k member s
        exact regRead_regWrite_other _ _ _ _ (fun same => fresh (apart _ _ same ▸ member))
    · exact ih once ((List.mem_cons.mp named).resolve_left own) _

theorem ofLe_lt (b : List Byte) : ofLe b < 2 ^ (8 * b.length) := by
  induction b with
  | nil => simp [ofLe]
  | cons a b ih =>
    have byte := a.isLt
    have grow : 2 ^ (8 * (a :: b).length) = 256 * 2 ^ (8 * b.length) := by
      rw [List.length_cons, Nat.mul_add, Nat.pow_add, Nat.mul_comm]
    rw [grow, ofLe]
    omega

/-- A module whose flash holds a sideband root, and shows it (R431). -/
def withSbRoot (s : Dev) (d : List Byte) : Dev := showRoot { s with flash := { s.flash with sbRoot := some d } }

theorem withSbRoot_eq (s : Dev) (d : List Byte) :
    withSbRoot s d = (List.range 8).foldl (fun s j => regWrite s (Reg.SEC_SB_ROOT j) (ofLe ((d.drop (8 * j)).take 8)))
      (fset { s with flash := { s.flash with sbRoot := some d } } RF.SEC_STATUS_SB_ROOT_VALID 1) := rfl

theorem withSbRoot_shape (s : Dev) (d : List Byte) : ∃ regs, withSbRoot s d = { s with regs := regs, flash := { s.flash with sbRoot := some d } } := ⟨_, rfl⟩


theorem sameRegsBut_withSbRoot (s : Dev) (d : List Byte) : SameRegsBut ([Reg.SEC_STATUS] ++ (List.range 8).map Reg.SEC_SB_ROOT) s (withSbRoot s d) := by
  intro o others _
  rw [List.mem_append, not_or] at others
  obtain ⟨status, root⟩ := others
  rw [withSbRoot_eq, regRead_foldl]
  · exact regRead_fset_other _ _ _ _ (List.ne_of_not_mem_cons status)
  · intro j member s
    exact regRead_regWrite_other _ _ _ _ (fun own => root (List.mem_map.mpr ⟨j, member, own.symm⟩))

/-- What is shown of a sideband root is the root. -/
theorem regRead_withSbRoot (s : Dev) (d : List Byte) {j : Nat} (known : j < 8) :
    regRead (withSbRoot s d) (Reg.SEC_SB_ROOT j) = ofLe ((d.drop (8 * j)).take 8) := by
  have short : ofLe ((d.drop (8 * j)).take 8) < 2 ^ 64 :=
    (ofLe_lt _).trans_le (Nat.pow_le_pow_right (by omega) (by rw [List.length_take]; omega))
  rw [withSbRoot_eq, regRead_foldl_regWrite Reg.SEC_SB_ROOT (fun j => ofLe ((d.drop (8 * j)).take 8)) (fun i j same => by
    have places : 0x1D0040 + 8 * i = 0x1D0040 + 8 * j := same
    omega) _ List.nodup_range (List.mem_range.mpr known)]
  exact Nat.mod_eq_of_lt short

theorem fget_withSbRoot (s : Dev) (d : List Byte) : fget (withSbRoot s d) RF.SEC_STATUS_SB_ROOT_VALID = 1 := by
  have kept : regRead (withSbRoot s d) Reg.SEC_STATUS
      = regRead (fset { s with flash := { s.flash with sbRoot := some d } } RF.SEC_STATUS_SB_ROOT_VALID 1) Reg.SEC_STATUS := by
    rw [withSbRoot_eq]
    refine regRead_foldl _ _ (fun j member s => regRead_regWrite_other _ _ _ _ ?_) _
    have apart : ∀ j ∈ List.range 8, Reg.SEC_STATUS ≠ Reg.SEC_SB_ROOT j := by decide
    exact apart j member
  exact (congrArg (fun v => bitsOf v 2 1) kept).trans (fget_fset_same _ RF.SEC_STATUS_SB_ROOT_VALID 1 (by decide))

/-- SB_ROOT_SET's clause (R431). -/
theorem exec_sbRootSet {s : State} {c : Cmd} {x : Ctx} {s1 : Dev} {b : List Byte} (admits : Admits s.dev 0xA8 c x)
    (given : cmdBuffer s.dev x (eb x.e 24 8) 64 = (s1, b, 0)) (free : s1.blocked = []) (fe : s1.fe = s.dev.fe) :
    ∃ t, exec (.sbRootSet c) s = .next t ∧ SameMem s1 t.dev ∧ Completes s1 t.dev x Ret.ok ∧ fget t.dev RF.SEC_STATUS_SB_ROOT_VALID = 1
      ∧ (∀ j, j < 8 → regRead t.dev (Reg.SEC_SB_ROOT j) = ofLe ((b.drop (8 * j)).take 8))
      ∧ OnlyCmd ([Reg.SEC_STATUS] ++ (List.range 8).map Reg.SEC_SB_ROOT) { s with dev := s1 } t x
          { s1 with flash := { s1.flash with sbRoot := some b } } := by
  obtain ⟨f, runs, ran⟩ : ∃ f, exec (.sbRootSet c) s = .next { s with dev := finish (command 0xA8 c s.dev f) }
      ∧ f x s.dev = (withSbRoot s1 b, .done Ret.ok) := by
    refine ⟨_, rfl, ?_⟩
    dsimp only
    rw [given]
    rfl
  have valid := fget_withSbRoot s1 b
  have digest := fun j (known : j < 8) => regRead_withSbRoot s1 b known
  have same := sameRegsBut_withSbRoot s1 b
  obtain ⟨regs, shape⟩ := withSbRoot_shape s1 b
  rw [shape] at ran valid digest same
  have ended := (command_ends rfl admits (by decide) ran free (by rw [fe]) (by rw [fe])).of_fe (v := s1) fe
  have apart : ∀ j < 8, Reg.SEC_SB_ROOT j ∉ logRegs ∧ Reg.SEC_SB_ROOT j ≠ Reg.SHC_STATUS := by decide
  refine ⟨_, runs, (sameMem_of_dram rfl).trans ended.mem, ended.completes, (ended.fget (by decide) (by decide)).trans valid, ?_,
    Ended.onlyCmd (s := { s with dev := s1 }) ended ended.shape same⟩
  intro j known
  obtain ⟨report, shc⟩ := apart j known
  exact (ended.regs _ report shc).trans (digest j known)

end Sys2Proof.Machine
end

section
/-!
The obligation on trust and the audit log.
-/
namespace Sys2Proof.Machine

/-- Settles O52: each command's own effect, ended by its answer, and the two ends of a checkpoint. -/
theorem trustAndLog : Obligations.TrustAndLog := by
  unfold Obligations.TrustAndLog
  intro s c x
  refine ⟨?_, ?_, ?_, ?_, ?_, ?_, ?_, ?_, ?_, ?_⟩
  · intro admits long aligned
    refine ⟨_, rfl, length_manifest _, command_gives rfl admits (by decide) (afterChecks_pass ?_ _)⟩
    simp [long, aligned]
  · intro first count va l admits isFirst isCount isVa some few known fits aligned isL
    subst isFirst isCount isVa isL
    refine ⟨_, rfl, command_gives rfl admits (by decide) (afterChecks_pass ?_ _)⟩
    simp only [List.forall_mem_cons, List.not_mem_nil, false_implies, implies_true, and_true]
    refine ⟨?_, by simp [aligned]⟩
    have capacity : logCapacity = 327680 := rfl
    simp [capacity, few, known, fits, Nat.ne_of_gt some]
  · intro p admits here held aligned
    obtain ⟨f, runs, ran⟩ : ∃ f, exec (.logCheckpointRead c) s = .next { s with dev := finish (command 0xA2 c s.dev f) }
        ∧ f x s.dev = giveBuffer s.dev x (eb x.e 40 8) (checkpointImage s.dev p) Ret.ok := by
      refine ⟨_, rfl, ?_⟩
      dsimp only
      rw [here]
      refine afterChecks_pass ?_ _
      simp only [List.forall_mem_cons, List.not_mem_nil, false_implies, implies_true, and_true]
      exact ⟨by simpa [imp_iff_not_or] using held, by simp [aligned]⟩
    exact ⟨_, runs, length_fitBytes _ _, command_gives rfl admits (by decide) ran⟩
  · intro n admits isN
    subst isN
    by_cases new : hasNew s.dev = true
    · obtain ⟨t, runs, ended, begun⟩ := logCheckpointNow_begun admits new
      refine ⟨_, runs, (sameMem_of_dram rfl).trans ended.mem, ?_, ended.onlyCmd ended.shape (fun _ _ _ => rfl)⟩
      rw [if_pos new]
      refine ⟨ended.completes, ?_⟩
      rw [withDev_dev, begun]
      unfold beginCheckpoint
      dsimp only
      rw [tget_tset_same]
      rfl
    · obtain ⟨f, runs, ran⟩ : ∃ f, exec (.logCheckpointNow c) s = .next { s with dev := finish (command 0xA3 c s.dev f) }
          ∧ f x s.dev = (s.dev, .done { Ret.ok with r0 := s.dev.log.cpNext - 1 }) := ⟨_, rfl, if_pos (by simp [new])⟩
      have ended := command_ends rfl admits (by decide) ran (free_of_admits admits) rfl rfl
      refine ⟨_, runs, ended.mem, ?_, ended.onlyCmd ended.shape (fun _ _ _ => rfl)⟩
      rw [if_neg new]
      exact ended.completes
  · intro n p here primary fits
    refine ⟨fun unsigned turn => exec_checkpointSigned here primary fits unsigned turn, fun signed missing => ⟨?_, ?_⟩⟩
    · exact exec_checkpointFlashCopy_ok here primary signed missing
    · exact exec_checkpointFlashCopy_fails here primary signed missing
  · intro row clr set new admits isRow isClr isSet origin known free within isNew
    exact exec_permSet admits isRow isClr isSet origin known free within isNew
  · intro n s1 b admits isN few given free fe
    exact exec_admitPolicySet admits isN few given free fe
  · intro n s1 b admits isN few act given free fe normal
    exact exec_fwStage admits isN few act given free fe normal
  · exact exec_fwCommitSvn
  · intro s1 b admits given free fe
    exact exec_sbRootSet admits given free fe

end Sys2Proof.Machine
end

section
/-!
The obligation on the host link (R389): where the slices hold, pending ownership, a line whose location lies between local memory and the hosts', the place of
that line is the coherent host, and its departure leaves the line.
-/
namespace Sys2Proof.Machine

/-- The line of location 2^42: beyond local memory, and below the hosts' locations. -/
def betweenLine : Nat := 2 ^ 36

/-- A module with binding 0 formed, which holds that line pending ownership. -/
def betweenState : State :=
  ⟨[], { State.reset.dev with
    regs := [(Reg.HST_BIND_STATUS 0, 3)],
    shore := { State.reset.dev.shore with lines := [(betweenLine, ⟨0, false, 0, 0, false, .pending, 0⟩)] } }⟩

/-- After a hot reset the line is held as before. -/
theorem lineAfter_betweenState : lineAfter .hotReset betweenState betweenLine = some ⟨0, false, 0, 0, false, .pending, 0⟩ := by decide +kernel

/-- Refutes O53: a line between local memory and the hosts' locations that pends ownership outlives the coherent host, whose line it is by its place. -/
theorem not_hostBindingsAndLink : ¬ Obligations.HostBindingsAndLink := by
  unfold Obligations.HostBindingsAndLink
  intro holds
  obtain ⟨-, -, -, -, departs⟩ := holds betweenState
  obtain ⟨t, ran, -, -, -, -, -, lines, -⟩ := departs .hotReset (.inr rfl) (by decide +kernel) rfl rfl rfl rfl rfl
  have gone := (lines betweenLine).trans (if_pos (by decide +kernel))
  have kept := (lineAt_of_lineAfter ran).trans lineAfter_betweenState
  rw [gone] at kept
  cases kept

end Sys2Proof.Machine
end

section
/-!
SUPPORT. Messages of the fabric: what the arrival of one, and the sending of one, can change (R334 to R342, R356).
-/
namespace Sys2Proof.Machine

/-- Nothing has changed but the transmit counts, the messages on their way, and when members were heard. -/
structure OnlySent (s t : Dev) : Prop where
  regs : SameRegsBut txRegs s t
  rest : t = { s with regs := t.regs, out := t.out, fab := fabSent t s.fab }
  members : SameMembers s t

theorem OnlySent.refl (s : Dev) : OnlySent s s := ⟨fun _ _ _ => rfl, rfl, fun _ => rfl⟩

theorem OnlySent.trans {s t u : Dev} (h : OnlySent s t) (k : OnlySent t u) : OnlySent s u := by
  refine ⟨fun o others shc => (k.regs o others shc).trans (h.regs o others shc), ?_, fun i => (k.members i).trans (h.members i)⟩
  rw [k.rest, h.rest]
  rfl

/-! ### Arrival (R336, R356) -/

/-- The module once the sender of a message has been heard. -/
def heardFrom (s : Dev) (m : FabMsg) : Dev :=
  match memberOf s m.src with
  | none => s
  | some i => { s with fab := { s.fab with members := tmod s.fab.members i (fun x => { x with heard := s.time.hw }) } }

theorem arrive_of_arrives {s : Dev} {m : FabMsg} (arrives : Arrives s m) : arrive s m = (heardFrom s m, true) := by
  obtain ⟨runs, own, clear, epoch⟩ := arrives
  unfold arrive heardFrom
  rw [if_neg (by simp [runs, own]), if_neg (by simp [clear])]
  cases member : memberOf s m.src with
  | none =>
    rw [member] at epoch
    exact if_pos epoch
  | some i =>
    rw [member] at epoch
    exact if_pos epoch

theorem heardFrom_shape (s : Dev) (m : FabMsg) : ∃ members, heardFrom s m = { s with fab := { s.fab with members := members } } := by
  unfold heardFrom
  split
  · exact ⟨_, rfl⟩
  · exact ⟨_, rfl⟩

theorem onlySent_heardFrom (s : Dev) (m : FabMsg) : OnlySent s (heardFrom s m) := by
  unfold heardFrom
  split
  · exact .refl s
  · next i _ =>
    refine ⟨fun _ _ _ => rfl, rfl, fun j => ?_⟩
    dsimp only
    by_cases own : j = i
    · subst own
      rw [tget_tmod_same, Option.map_map]
      rfl
    · rw [tget_tmod_other _ _ _ _ own]

/-- A member's coherence message is acted on (R231). -/
theorem cohFrom_of_arrives {s : Dev} {m : FabMsg} {a : Nat} (arrives : Arrives s m) (member : memberOf s m.src = some a) :
    cohFrom s m = (heardFrom s m, some a) := by
  obtain ⟨members, shape⟩ := heardFrom_shape s m
  have same : memberOf (heardFrom s m) m.src = memberOf s m.src := by
    rw [shape]
    rfl
  unfold cohFrom
  rw [arrive_of_arrives arrives]
  dsimp only
  rw [same, member]

/-! ### Sending (R337, R342) -/

theorem mem_routePorts {s : Dev} {d p : Nat} (route : p ∈ routePorts s d) : p < 16 := (mem_setBitsOf.mp route).1

theorem onlySent_placeFlit (s : Dev) {p : Nat} (known : p < 16) (m : FabMsg) : OnlySent s (placeFlit s p m) := by
  refine ⟨fun o others _ => ?_, rfl, fun _ => rfl⟩
  exact regRead_bump_other _ _ _ (fun own => others (List.mem_map.mpr ⟨p, List.mem_range.mpr known, own.symm⟩))

theorem portAt_placeFlit (s : Dev) (p : Nat) (m : FabMsg) :
    ∃ f : FabFlit, f.slots = [m] ∧ f.seq = (portAt s p).tx ∧ (placeFlit s p m).out = s.out ++ [.flit p f] ∧ (placeFlit s p m).fab.waiting = s.fab.waiting
      ∧ (portAt (placeFlit s p m) p).replay = (portAt s p).replay ++ [f] := by
  refine ⟨_, rfl, rfl, rfl, rfl, ?_⟩
  show (tgetD (tset s.fab.ports p _) p Port.reset).replay = _
  unfold tgetD
  rw [tget_tset_same]
  rfl

/-- A message is sent: it takes a port, or waits. -/
theorem routeMsg_sends (s : Dev) (m : FabMsg) : OnlySent s (routeMsg s m) ∧ Sends s (routeMsg s m) m := by
  unfold routeMsg
  dsimp only
  split
  · next p picked =>
    have free : p ∈ (routePorts s m.dst).filter (fun p => decide ((portAt s p).replay.length < 128)) := by
      split at picked
      · next q found =>
        obtain rfl := Option.some.inj picked
        exact List.mem_of_find?_eq_some found
      · exact List.mem_of_head? picked
    obtain ⟨route, room⟩ := List.mem_filter.mp free
    obtain ⟨f, slots, seq, out, waiting, replay⟩ := portAt_placeFlit { s with fab := { s.fab with lastPort := p } } p m
    have turn : OnlySent s { s with fab := { s.fab with lastPort := p } } := ⟨fun _ _ _ => rfl, rfl, fun _ => rfl⟩
    exact ⟨turn.trans (onlySent_placeFlit _ (mem_routePorts route) m), .inr ⟨p, f, route, by simpa using room, slots, seq, out, waiting, replay⟩⟩
  · next picked =>
    refine ⟨⟨fun _ _ _ => rfl, rfl, fun _ => rfl⟩, .inl ⟨rfl, rfl, fun p route => ?_⟩⟩
    split at picked
    · cases picked
    · rw [List.head?_eq_none_iff, List.filter_eq_nil_iff] at picked
      simpa using picked p route

/-- What a message sent afterwards finds is what it would have found before the sender was heard. -/
theorem Sends.of_heard {s t : Dev} {m x : FabMsg} (sends : Sends (heardFrom s m) t x) : Sends s t x := by
  obtain ⟨members, shape⟩ := heardFrom_shape s m
  rw [shape] at sends
  exact sends

/-- What is done after a message has been sent, and leaves the fabric and what went out. -/
theorem Sends.followed {s t u : Dev} {x : FabMsg} (sends : Sends s t x) (out : u.out = t.out) (fab : u.fab = t.fab) : Sends s u x := by
  unfold Sends portAt at sends ⊢
  rw [out, fab]
  exact sends

/-! ### What a message says of its sender -/

theorem lowestFrom_congr {p q : Nat → Bool} (n i : Nat) (same : ∀ k, i ≤ k → k < i + n → p k = q k) : lowestFrom p n i = lowestFrom q n i := by
  induction n generalizing i with
  | zero => rfl
  | succ n ih =>
    unfold lowestFrom
    rw [same i le_rfl (by omega), ih (i + 1) (fun k above below => same k (by omega) (by omega))]

theorem lowestFrom_lt {p : Nat → Bool} {n i k : Nat} (found : lowestFrom p n i = some k) : k < i + n := by
  induction n generalizing i with
  | zero => cases found
  | succ n ih =>
    unfold lowestFrom at found
    split at found
    · obtain rfl := Option.some.inj found
      omega
    · have := ih found
      omega

theorem lowest_lt {p : Nat → Bool} {n k : Nat} (found : lowest n p = some k) : k < n := by
  simpa using lowestFrom_lt found

theorem lowest_congr {p q : Nat → Bool} {n : Nat} (same : ∀ k < n, p k = q k) : lowest n p = lowest n q :=
  lowestFrom_congr n 0 (fun k _ below => same k (by omega))

/-- The transmit counts lie together. -/
theorem txRegs_place : ∀ o ∈ txRegs, 0x191008 ≤ o ∧ o ≤ 0x191788 := by decide

theorem OnlySent.fget {s t : Dev} (h : OnlySent s t) {f : Fld} (other : f.off < 0x191008 ∨ 0x191788 < f.off) (shc : f.off ≠ 0x150000) :
    fget t f = Machine.fget s f := by
  refine congrArg (fun v => bitsOf v f.lo f.width) (h.regs f.off (fun counts => ?_) shc)
  have := txRegs_place _ counts
  omega

theorem OnlySent.epochField {s t : Dev} (h : OnlySent s t) {m : Nat} (known : m < 64) (f : Nat → Fld) (place : (f m).off = 0x150600 + 8 * m) :
    Machine.fget t (f m) = Machine.fget s (f m) := h.fget (.inl (by rw [place]; omega)) (by rw [place]; omega)

/-- A message speaks of the device and of the epochs as they are; sending others changes neither. -/
theorem OnlySent.mkMsg {s t : Dev} (h : OnlySent s t) (d tag offset : Nat) (poison : Bool) (body : FabBody) :
    mkMsg t d tag offset poison body = Machine.mkMsg s d tag offset poison body := by
  have device : Machine.fget t RF.FAB_STATUS_DEVICE = Machine.fget s RF.FAB_STATUS_DEVICE := h.fget (by decide) (by decide)
  have same : (lowest 64 fun m => Machine.fget t (RF.SHC_EPOCH_VALID m) == 1 && Machine.fget t (RF.SHC_EPOCH_DEVICE m) == d)
      = lowest 64 fun m => Machine.fget s (RF.SHC_EPOCH_VALID m) == 1 && Machine.fget s (RF.SHC_EPOCH_DEVICE m) == d :=
    lowest_congr (fun m known => by rw [h.epochField known RF.SHC_EPOCH_VALID rfl, h.epochField known RF.SHC_EPOCH_DEVICE rfl])
  have epoch : epochFor t d = epochFor s d := by
    unfold epochFor
    rw [same]
    split
    · next m found =>
      exact h.epochField (lowest_lt found) RF.SHC_EPOCH_EPOCH rfl
    · rfl
  unfold Machine.mkMsg
  rw [device, epoch]

end Sys2Proof.Machine
end

section
/-!
SUPPORT. This device as an outside agent of a line: how it answers what the home asks (R222, R223, R227).
-/
namespace Sys2Proof.Machine

/-- What is found at a member's index is the member. -/
theorem lowestFrom_holds {p : Nat → Bool} {n i k : Nat} (found : lowestFrom p n i = some k) : p k = true := by
  induction n generalizing i with
  | zero => cases found
  | succ n ih =>
    unfold lowestFrom at found
    split at found
    · next here =>
      obtain rfl := Option.some.inj found
      exact here
    · exact ih found

theorem device_of_memberOf {s : Dev} {d a : Nat} (member : memberOf s d = some a) : a < 64 ∧ fget s (RF.SHC_EPOCH_DEVICE a) = d := by
  have holds := lowestFrom_holds (i := 0) member
  rw [Bool.and_eq_true, beq_iff_eq, beq_iff_eq] at holds
  exact ⟨lowest_lt member, holds.2⟩

/-- A message to a member about a line, as the device sends it. -/
def cohMsg (s : Dev) (d line : Nat) (op : CohOp) (third tag : Nat) (data : Option LineData) : FabMsg :=
  mkMsg s d tag (64 * line) (data.any (fun d => d.poison != 0)) (.coh op third data)

theorem sendCoh_eq (s : Dev) (m line : Nat) (op : CohOp) (third tag : Nat) (data : Option LineData) :
    sendCoh s m line op third tag data = routeMsg s (cohMsg s (fget s (RF.SHC_EPOCH_DEVICE m)) line op third tag data) := by
  cases data with
  | none => rfl
  | some d => rfl

theorem sendSupply_eq (s : Dev) (agent k tag : Nat) (data : Option LineData) :
    sendSupply s agent k tag data
      = routeMsg s (cohMsg s (fget s (RF.SHC_EPOCH_DEVICE agent)) (peerLine k) .supply ((64 * k - globalBase) / 2 ^ 42) tag data) := by
  cases data with
  | none => rfl
  | some d => rfl

theorem OnlySent.cohMsg {s t : Dev} (h : OnlySent s t) (d line : Nat) (op : CohOp) (third tag : Nat) (data : Option LineData) :
    cohMsg t d line op third tag data = Machine.cohMsg s d line op third tag data := h.mkMsg ..

/-! ### What is asked of an agent -/

/-- The place of a line, with a sender heard in between. -/
theorem placeOf_heardFrom (s : Dev) (m : FabMsg) (k : Nat) : placeOf (heardFrom s m) k = placeOf s k := by
  obtain ⟨members, shape⟩ := heardFrom_shape s m
  rw [shape]
  rfl

theorem lineAt_heardFrom (s : Dev) (m : FabMsg) (k : Nat) : lineAt (heardFrom s m) k = lineAt s k := by
  obtain ⟨members, shape⟩ := heardFrom_shape s m
  rw [shape]
  rfl

/-- A forward, a recall or an invalidation that does not follow a grant under way is honoured. -/
theorem cohAsked_honoured {s : Dev} {m : FabMsg} {a k : Nat} (arrives : Arrives s m) (member : memberOf s m.src = some a) (line : k = peerKey m.src m.offset)
    (still : tget s.shore.wants k = none) (kind third : Nat) : cohAsked s m kind third = honour (heardFrom s m) ⟨k, third, kind, m.tag⟩ := by
  have wants : tget (heardFrom s m).shore.wants (peerKey m.src m.offset) = none := by
    obtain ⟨members, shape⟩ := heardFrom_shape s m
    rw [shape, ← line]
    exact still
  unfold cohAsked
  rw [cohFrom_of_arrives arrives member]
  dsimp only
  rw [wants, ← line]
  rfl

/-- What a holder gives back of a line to its home: kinds 0, 2 and 3 ask for dirty data (R223). -/
def givenBack (l : Line) (kind : Nat) : Option LineData :=
  if l.hold == .d && (kind = 0 || kind = 2 || kind = 3) then some ⟨l.data, l.poison⟩ else none

/-- The report of an agent to the home of a line (R223). -/
def reportHome (s : Dev) (a : Nat) (f : HeldFwd) (l : Line) : Dev :=
  sendCoh s a (peerLine f.line) (if f.kind ≤ 1 then .done else if (givenBack l f.kind).isSome then .data else .ack) 0 f.tag (givenBack l f.kind)

/-- What an agent keeps of a line that it was asked for (R223). -/
def keepAsked (s : Dev) (f : HeldFwd) (l : Line) : Dev :=
  if f.kind = 0 ∨ f.kind = 2 then putLine s f.line { l with hold := .s } else dropLine s f.line

theorem honour_held {s : Dev} {f : HeldFwd} {a : Nat} {l : Line} (place : placeOf s f.line = .member a) (here : lineAt s f.line = some l)
    (held : l.hold ≠ .pending) :
    honour s f = keepAsked (reportHome (if f.kind ≤ 1 then sendSupply s f.dest f.line f.tag (some ⟨l.data, l.poison⟩) else s) a f l) f l := by
  unfold honour
  rw [place, here]
  dsimp only
  rw [if_neg held]
  rfl

theorem honour_none {s : Dev} {f : HeldFwd} {a : Nat} (place : placeOf s f.line = .member a) (absent : lineAt s f.line = none) :
    honour s f = sendCoh s a (peerLine f.line) (if f.kind = 4 then .ack else .noCopy) 0 f.tag none := by
  unfold honour
  rw [place, absent]

theorem lineAt_keepAsked (s : Dev) (f : HeldFwd) (l : Line) :
    lineAt (keepAsked s f l) f.line = if f.kind = 0 ∨ f.kind = 2 then some { l with hold := .s } else none := by
  unfold keepAsked
  split
  · exact tget_tset_same _ _ _
  · exact tget_tdel_same _ _

theorem keepAsked_shape (s : Dev) (f : HeldFwd) (l : Line) : ∃ lines, keepAsked s f l = { s with shore := { s.shore with lines := lines } }
    ∧ ∀ j, j ≠ f.line → tget lines j = tget s.shore.lines j := by
  unfold keepAsked
  split
  · exact ⟨_, rfl, fun j other => tget_tset_other _ _ _ _ other⟩
  · exact ⟨_, rfl, fun j other => tget_tdel_other _ _ _ other⟩

/-- Messages, and a change of one line, are all that such a command does. -/
theorem onlyCoh_of_sent {s : State} {u : Dev} {k : Nat} (sent : OnlySent s.dev u) {lines : List (Nat × Line)}
    (others : ∀ j, j ≠ k → tget lines j = tget u.shore.lines j) :
    OnlyCoh [] s { s with dev := finish { u with shore := { u.shore with lines := lines } } } k := by
  obtain ⟨regs, rest, members⟩ := sent
  have shore : u.shore = s.dev.shore := by rw [rest]
  refine ⟨onlyIn_finish ?_ regs, sameMem_finish (by rw [rest]), members, fun j other => ⟨?_, ?_, ?_, ?_, ?_⟩⟩
  · rw [rest]
    rfl
  · exact (others j other).trans (congrArg (fun x => tget x.lines j) shore)
  · exact congrArg (fun x => tget x.dir j) shore
  · exact congrArg (fun x => tget x.txn j) shore
  · exact congrArg (fun x => tget x.wants j) shore
  · exact congrArg (fun x => tget x.queue j) shore

end Sys2Proof.Machine
end

section
/-!
SUPPORT. The clauses on what a home asks of an agent (R223, R227).
-/
namespace Sys2Proof.Machine

section
variable {s : State} {m : FabMsg} {a k : Nat} (arrives : Arrives s.dev m) (member : memberOf s.dev m.src = some a) (line : k = peerKey m.src m.offset)
  (place : placeOf s.dev k = .member a) (still : tget s.dev.shore.wants k = none)
include arrives member line place still

/-- What an agent that holds the line does with a message of one of the kinds. -/
theorem asked_held {c : Instr} {kind third : Nat} {l : Line}
    (runs : exec c s = .next { s with dev := finish (cohAsked s.dev m kind third) }) (here : lineAt s.dev k = some l) (held : l.hold ≠ .pending) :
    ∃ (t : State) (u : Dev), exec c s = .next t
      ∧ (if kind ≤ 1 then
          Sends s.dev u (cohMsg s.dev (fget s.dev (RF.SHC_EPOCH_DEVICE third)) (peerLine k) .supply ((64 * k - globalBase) / 2 ^ 42) m.tag
            (some ⟨l.data, l.poison⟩))
        else u = heardFrom s.dev m)
      ∧ Sends u t.dev (cohMsg s.dev m.src (peerLine k) (if kind ≤ 1 then .done else if (givenBack l kind).isSome then .data else .ack) 0 m.tag
          (givenBack l kind))
      ∧ lineAt t.dev k = (if kind = 0 ∨ kind = 2 then some { l with hold := .s } else none) ∧ OnlyCoh [] s t k := by
  obtain ⟨known, device⟩ := device_of_memberOf member
  have heard := onlySent_heardFrom s.dev m
  obtain ⟨u, isU⟩ : ∃ u, u = if kind ≤ 1 then sendSupply (heardFrom s.dev m) third k m.tag (some ⟨l.data, l.poison⟩) else heardFrom s.dev m :=
    ⟨_, rfl⟩
  have first : OnlySent s.dev u ∧ if kind ≤ 1 then
      Sends s.dev u (cohMsg s.dev (fget s.dev (RF.SHC_EPOCH_DEVICE third)) (peerLine k) .supply ((64 * k - globalBase) / 2 ^ 42) m.tag
        (some ⟨l.data, l.poison⟩))
      else u = heardFrom s.dev m := by
    by_cases forward : kind ≤ 1
    · rw [if_pos forward, sendSupply_eq, heard.cohMsg] at isU
      obtain ⟨sent, sends⟩ := routeMsg_sends (heardFrom s.dev m) (cohMsg s.dev (fget (heardFrom s.dev m) (RF.SHC_EPOCH_DEVICE third)) (peerLine k) .supply
        ((64 * k - globalBase) / 2 ^ 42) m.tag (some ⟨l.data, l.poison⟩))
      have same : fget (heardFrom s.dev m) (RF.SHC_EPOCH_DEVICE third) = fget s.dev (RF.SHC_EPOCH_DEVICE third) := by
        obtain ⟨members, shape⟩ := heardFrom_shape s.dev m
        rw [shape]
        rfl
      rw [same] at isU sent sends
      rw [if_pos forward, isU]
      exact ⟨heard.trans sent, sends.of_heard⟩
    · rw [if_neg forward] at isU ⊢
      exact ⟨isU ▸ heard, isU⟩
  obtain ⟨sent, first⟩ := first
  have report : reportHome u a ⟨k, third, kind, m.tag⟩ l = routeMsg u (cohMsg s.dev m.src (peerLine k)
      (if kind ≤ 1 then .done else if (givenBack l kind).isSome then .data else .ack) 0 m.tag (givenBack l kind)) := by
    unfold reportHome
    rw [sendCoh_eq, sent.cohMsg, sent.epochField known RF.SHC_EPOCH_DEVICE rfl, device]
  obtain ⟨sent', sends⟩ := routeMsg_sends u (cohMsg s.dev m.src (peerLine k)
    (if kind ≤ 1 then .done else if (givenBack l kind).isSome then .data else .ack) 0 m.tag (givenBack l kind))
  rw [cohAsked_honoured arrives member line still, honour_held ((placeOf_heardFrom ..).trans place) ((lineAt_heardFrom ..).trans here) held, ← isU,
    report] at runs
  obtain ⟨lines, shape, others⟩ := keepAsked_shape (routeMsg u (cohMsg s.dev m.src (peerLine k)
    (if kind ≤ 1 then .done else if (givenBack l kind).isSome then .data else .ack) 0 m.tag (givenBack l kind))) ⟨k, third, kind, m.tag⟩ l
  have kept := lineAt_keepAsked (routeMsg u (cohMsg s.dev m.src (peerLine k)
    (if kind ≤ 1 then .done else if (givenBack l kind).isSome then .data else .ack) 0 m.tag (givenBack l kind))) ⟨k, third, kind, m.tag⟩ l
  rw [shape] at runs kept
  exact ⟨_, u, runs, first, sends.followed rfl rfl, kept, onlyCoh_of_sent (sent.trans sent') others⟩

/-- An agent without a copy says so. -/
theorem asked_none {c : Instr} {kind third : Nat} (runs : exec c s = .next { s with dev := finish (cohAsked s.dev m kind third) })
    (absent : lineAt s.dev k = none) :
    ∃ t, exec c s = .next t ∧ Sends s.dev t.dev (cohMsg s.dev m.src (peerLine k) (if kind = 4 then .ack else .noCopy) 0 m.tag none)
      ∧ lineAt t.dev k = none ∧ OnlyCoh [] s t k := by
  obtain ⟨known, device⟩ := device_of_memberOf member
  have heard := onlySent_heardFrom s.dev m
  obtain ⟨sent, sends⟩ := routeMsg_sends (heardFrom s.dev m) (cohMsg s.dev m.src (peerLine k) (if kind = 4 then .ack else .noCopy) 0 m.tag none)
  rw [cohAsked_honoured arrives member line still, honour_none ((placeOf_heardFrom ..).trans place) ((lineAt_heardFrom ..).trans absent), sendCoh_eq,
    heard.cohMsg, heard.epochField known RF.SHC_EPOCH_DEVICE rfl, device] at runs
  refine ⟨_, runs, sends.of_heard.followed rfl rfl, ?_, onlyCoh_of_sent (heard.trans sent) (fun _ _ => rfl)⟩
  show lineAt (routeMsg _ _) k = none
  unfold lineAt
  rw [(heard.trans sent).rest]
  exact absent

end

end Sys2Proof.Machine
end

section
/-!
SUPPORT. A grant that reaches this device as an outside agent (R185, R227).
-/
namespace Sys2Proof.Machine

/-- Of a line of 64 bytes, the bytes of a mask come from the second. -/
theorem byteAt_merge512 (old new : BitVec 512) (mask : BitVec 64) {j : Nat} (inside : j < 64) :
    byteAt ((old &&& ~~~(BitVec.ofNat 512 (spread 64 mask.toNat))) ||| (new &&& BitVec.ofNat 512 (spread 64 mask.toNat))).toNat j
      = if mask.getLsbD j then byteAt new.toNat j else byteAt old.toNat j := by
  apply BitVec.eq_of_getLsbD_eq
  intro k bit
  have place : (8 * j + k) / 8 = j := by omega
  have small : 8 * j + k < 512 := by omega
  have merged : ((old &&& ~~~(BitVec.ofNat 512 (spread 64 mask.toNat))) ||| (new &&& BitVec.ofNat 512 (spread 64 mask.toNat))).toNat.testBit (8 * j + k)
      = if mask.getLsbD j then new.toNat.testBit (8 * j + k) else old.toNat.testBit (8 * j + k) := by
    rw [BitVec.testBit_toNat]
    simp only [BitVec.getLsbD_or, BitVec.getLsbD_and, BitVec.getLsbD_not, BitVec.getLsbD_ofNat, testBit_spread, place, small, inside, decide_true,
      Bool.true_and, BitVec.testBit_toNat]
    cases mask.getLsbD j with
    | true => simp
    | false => simp
  rw [getLsbD_byteAt, merged]
  split
  · rw [getLsbD_byteAt]
  · rw [getLsbD_byteAt]

/-- The line as a grant with data leaves it: bytes written meanwhile are kept (R185). -/
def grantedLine (old : Option Line) (hold own : Hold) (d : LineData) (w : Nat) : Line :=
  match old with
  | some l =>
    if l.hold = .pending then
      let m := BitVec.ofNat 512 (spread 64 l.pmask.toNat)
      let full := fun (h : Nat) => l.pmask.toNat / 2 ^ (32 * h) % 2 ^ 32 == 2 ^ 32 - 1
      { l with data := (d.data &&& ~~~m) ||| (l.data &&& m),
               poison := (if full 0 then 0 else d.poison &&& 1) ||| (if full 1 then 0 else d.poison &&& 2) ||| l.poison,
               hold := if w = 0 then .pending else .d, pmask := if w = 0 then l.pmask else 0 }
    else { l with data := d.data, poison := d.poison, hold := if w = 0 then hold else own }
  | none => { Line.fresh d.data d.poison 0 false with hold := if w = 0 then hold else own }

theorem grantedLine_clean {old : Option Line} (hold own : Hold) (d : LineData) (w : Nat) (clean : ∀ l, old = some l → l.hold ≠ .pending) :
    (grantedLine old hold own d w).data = d.data ∧ (grantedLine old hold own d w).poison = d.poison
      ∧ (grantedLine old hold own d w).hold = if w = 0 then hold else own := by
  unfold grantedLine
  cases old with
  | none => exact ⟨rfl, rfl, rfl⟩
  | some l =>
    dsimp only
    rw [if_neg (clean l rfl)]
    exact ⟨rfl, rfl, rfl⟩

theorem grantedLine_pending {l : Line} (hold own : Hold) (d : LineData) {w : Nat} (pending : l.hold = .pending) (write : w ≠ 0) :
    (grantedLine (some l) hold own d w).hold = .d
      ∧ ∀ j, j < 64 → byteAt (grantedLine (some l) hold own d w).data.toNat j = if l.pmask.getLsbD j then byteAt l.data.toNat j else byteAt d.data.toNat j := by
  unfold grantedLine
  dsimp only
  rw [if_pos pending]
  exact ⟨if_neg write, fun j inside => byteAt_merge512 _ _ _ inside⟩

/-- Where nothing waits for a line, serving its queue does nothing. -/
theorem serveQueue_empty {s : Dev} {k : Nat} (empty : tget s.shore.queue k = none) :
    ∃ queue, serveQueue s k = { s with shore := { s.shore with queue := queue } } ∧ ∀ j, tget queue j = tget s.shore.queue j := by
  have none : tgetD s.shore.queue k [] = [] := by
    unfold tgetD
    rw [empty]
    rfl
  unfold serveQueue
  rw [none]
  show ∃ queue, serveQueueN s k 1 = _ ∧ _
  unfold serveQueueN
  split
  · exact ⟨_, rfl, fun _ => rfl⟩
  · rw [none]
    refine ⟨_, rfl, fun j => ?_⟩
    by_cases own : j = k
    · subst own
      exact (tget_tdel_same _ _).trans empty.symm
    · exact tget_tdel_other _ _ _ own

/-- The grant's steps, with the line as it leaves it. -/
theorem takeGrant_eq {s : Dev} {k w : Nat} (hold own : Hold) (d : LineData) (waits : tget s.shore.wants k = some w) :
    takeGrant s k hold own (some d) =
      (let line := grantedLine (lineAt s k) hold own d (w % 4)
       let s := putLine { s with shore := { s.shore with wants := tdel s.shore.wants k } } k line
       let s := if w % 4 = 0 ∧ line.hold = .pending then
           (match placeOf s k with
            | .member m => askOwn m k s false
            | _ => askHostOwn k s false)
         else s
       let s := serveQueue s k
       let early := s.shore.heldFwd.filter (fun f => f.line == k)
       let s := { s with shore := { s.shore with heldFwd := s.shore.heldFwd.filter (fun f => f.line != k) } }
       early.foldl honour s) := by
  unfold takeGrant
  rw [waits]
  have old : lineAt { s with shore := { s.shore with wants := tdel s.shore.wants k } } k = lineAt s k := rfl
  dsimp only
  rw [old]
  cases lineAt s k with
  | none => rfl
  | some l => rfl

/-- A grant with data, of a line for which nothing else waits, leaves the line as granted. -/
theorem takeGrant_leaves {s : Dev} {k w : Nat} (hold own : Hold) (d : LineData) (waits : tget s.shore.wants k = some w)
    (empty : tget s.shore.queue k = none) (early : ∀ f ∈ s.shore.heldFwd, f.line ≠ k)
    (settled : ¬ (w % 4 = 0 ∧ (grantedLine (lineAt s k) hold own d (w % 4)).hold = .pending)) :
    ∃ queue, takeGrant s k hold own (some d) = { s with shore := { s.shore with
          lines := tset s.shore.lines k (grantedLine (lineAt s k) hold own d (w % 4)), wants := tdel s.shore.wants k, queue := queue } }
      ∧ ∀ j, tget queue j = tget s.shore.queue j := by
  obtain ⟨queue, served, same⟩ := serveQueue_empty (s := { s with shore := { s.shore with
    lines := tset s.shore.lines k (grantedLine (lineAt s k) hold own d (w % 4)), wants := tdel s.shore.wants k } }) empty
  have none : s.shore.heldFwd.filter (fun f => f.line == k) = [] := by
    rw [List.filter_eq_nil_iff]
    intro f member
    simpa using early f member
  have all : s.shore.heldFwd.filter (fun f => f.line != k) = s.shore.heldFwd := by
    rw [List.filter_eq_self]
    intro f member
    simpa using early f member
  refine ⟨queue, ?_, same⟩
  have kept : (serveQueue { s with shore := { s.shore with
      lines := tset s.shore.lines k (grantedLine (lineAt s k) hold own d (w % 4)), wants := tdel s.shore.wants k } } k).shore.heldFwd = s.shore.heldFwd := by
    rw [served]
  rw [takeGrant_eq hold own d waits]
  dsimp only
  rw [if_neg settled]
  unfold putLine
  dsimp only
  rw [kept, none, all, served]
  rfl

/-- A grant changes the line, and what waits for it, alone. -/
theorem onlyCoh_of_granted {s : State} {u : Dev} {k : Nat} (sent : OnlySent s.dev u) {lines : List (Nat × Line)} {wants : List (Nat × Nat)}
    {queue : List (Nat × List CohReq)} (line : ∀ j, j ≠ k → tget lines j = tget u.shore.lines j)
    (want : ∀ j, j ≠ k → tget wants j = tget u.shore.wants j) (waiting : ∀ j, tget queue j = tget u.shore.queue j) :
    OnlyCoh [] s { s with dev := finish { u with shore := { u.shore with lines := lines, wants := wants, queue := queue } } } k := by
  obtain ⟨regs, rest, members⟩ := sent
  have shore : u.shore = s.dev.shore := by rw [rest]
  refine ⟨onlyIn_finish ?_ regs, sameMem_finish (by rw [rest]), members, fun j other => ⟨?_, ?_, ?_, ?_, ?_⟩⟩
  · rw [rest]
    rfl
  · exact (line j other).trans (congrArg (fun x => tget x.lines j) shore)
  · exact congrArg (fun x => tget x.dir j) shore
  · exact congrArg (fun x => tget x.txn j) shore
  · exact (want j other).trans (congrArg (fun x => tget x.wants j) shore)
  · exact (waiting j).trans (congrArg (fun x => tget x.queue j) shore)

section
variable {s : State} {c : Instr} {u : Dev} {k w : Nat} {hold own : Hold} {d : LineData} (sent : OnlySent s.dev u) (shore : u.shore = s.dev.shore)
  (runs : exec c s = .next { s with dev := finish (takeGrant u k hold own (some d)) }) (waits : tget s.dev.shore.wants k = some w)
  (empty : tget s.dev.shore.queue k = none) (early : ∀ f ∈ s.dev.shore.heldFwd, f.line ≠ k)
include sent shore runs waits empty early

/-- What a granted line leaves, whatever it was. -/
theorem granted_leaves (settled : ¬ (w % 4 = 0 ∧ (grantedLine (lineAt s.dev k) hold own d (w % 4)).hold = .pending)) :
    ∃ t, exec c s = .next t ∧ lineAt t.dev k = some (grantedLine (lineAt s.dev k) hold own d (w % 4)) ∧ tget t.dev.shore.wants k = none
      ∧ OnlyCoh [] s t k := by
  have line : lineAt u k = lineAt s.dev k := congrArg (fun x : Shore => tget x.lines k) shore
  rw [← shore] at waits empty early
  rw [← line] at settled ⊢
  obtain ⟨queue, granted, same⟩ := takeGrant_leaves hold own d waits empty early settled
  rw [granted] at runs
  exact ⟨_, runs, tget_tset_same _ _ _, tget_tdel_same _ _,
    onlyCoh_of_granted sent (fun j other => tget_tset_other _ _ _ _ other) (fun j other => tget_tdel_other _ _ _ other) same⟩

/-- A line that was not written meanwhile is as granted. -/
theorem granted_clean (clean : ∀ l, lineAt s.dev k = some l → l.hold ≠ .pending) (known : hold ≠ .pending) :
    ∃ (t : State) (y : Line), exec c s = .next t ∧ lineAt t.dev k = some y ∧ y.data = d.data ∧ y.poison = d.poison
      ∧ y.hold = (if w % 4 = 0 then hold else own) ∧ tget t.dev.shore.wants k = none ∧ OnlyCoh [] s t k := by
  obtain ⟨data, poison, held⟩ := grantedLine_clean hold own d (w % 4) clean
  obtain ⟨t, ran, line, want, only⟩ := granted_leaves sent shore runs waits empty early (by
    rintro ⟨read, pends⟩
    rw [held, if_pos read] at pends
    exact known pends)
  exact ⟨t, _, ran, line, data, poison, held, want, only⟩

/-- A line that was written meanwhile keeps what was written. -/
theorem granted_pending {l : Line} (here : lineAt s.dev k = some l) (pending : l.hold = .pending) (write : w % 4 ≠ 0) :
    ∃ (t : State) (y : Line), exec c s = .next t ∧ lineAt t.dev k = some y ∧ y.hold = .d
      ∧ (∀ j, j < 64 → byteAt y.data.toNat j = if l.pmask.getLsbD j then byteAt l.data.toNat j else byteAt d.data.toNat j)
      ∧ tget t.dev.shore.wants k = none ∧ OnlyCoh [] s t k := by
  obtain ⟨t, ran, line, want, only⟩ := granted_leaves sent shore runs waits empty early (fun both => write both.1)
  rw [here] at line
  obtain ⟨held, bytes⟩ := grantedLine_pending hold own d pending write
  exact ⟨t, _, ran, line, held, bytes, want, only⟩

end

/-! ### The grants (R223, R383) -/

/-- A member's grant with data runs as one of its line. -/
theorem exec_cohGrant {s : State} {m : FabMsg} {op : CohOp} {third : Nat} {d : LineData} (arrives : Arrives s.dev m)
    (member : (memberOf s.dev m.src).isSome = true) (body : m.body = .coh op third (some d)) (granted : op = .grant ∨ op = .supply) :
    exec (.cohGrant m) s = .next { s with dev := finish (takeGrant (heardFrom s.dev m) (peerKey (if op = .supply then third else m.src) m.offset)
      (if op = .supply ∨ third = 4 then .f else if third = 3 then .x else .s) .d (some d)) } := by
  obtain ⟨a, found⟩ := Option.isSome_iff_exists.mp member
  have acted : cohGrant s.dev m op third (some d) = takeGrant (heardFrom s.dev m) (peerKey (if op = .supply then third else m.src) m.offset)
      (if op = .supply ∨ third = 4 then .f else if third = 3 then .x else .s) .d (some d) := by
    unfold cohGrant
    rw [cohFrom_of_arrives arrives found]
    dsimp only
    rw [if_neg (by rintro rfl; simp at granted)]
  have ran : cohOf s.dev m [.grant, .supply, .refuse] = cohGrant s.dev m op third (some d) := by
    unfold cohOf
    rw [body]
    obtain rfl | rfl := granted
    · rfl
    · rfl
  show execCohGrant m s = _
  unfold execCohGrant
  rw [perform_eq, ran, acted]

/-- The host's grant runs as one of its line (R383). -/
theorem exec_hostGo {s : State} {line : Nat} {sole : Bool} {d : LineData} (runs : serving s.dev = true) (valid : fget s.dev RF.HST_STATUS_HOST_VALID = 1) :
    exec (.hostGo line sole d) s = .next { s with dev := finish (takeGrant s.dev (hostLine line) (if sole then .x else .s) .x (some d)) } := by
  show execHostGo line sole d s = _
  unfold execHostGo
  rw [perform_eq, if_pos ⟨runs, valid⟩]

theorem heardFrom_shore (s : Dev) (m : FabMsg) : (heardFrom s m).shore = s.shore := by
  obtain ⟨members, shape⟩ := heardFrom_shape s m
  rw [shape]

end Sys2Proof.Machine
end

section
/-!
The obligation on coherence at an outside agent (R185, R223, R227, R383).
-/
namespace Sys2Proof.Machine

/-- A forward, a recall or an invalidation runs as what is asked of its line. -/
theorem exec_cohForward {s : State} {m : FabMsg} {op : CohOp} {third : Nat} {data : Option LineData} (forward : op = .forwardRead ∨ op = .forwardRx)
    (body : m.body = .coh op third data) :
    exec (.cohForward m) s = .next { s with dev := finish (cohAsked s.dev m (if op = .forwardRead then 0 else 1) third) } := by
  have ran : cohOf s.dev m [.forwardRead, .forwardRx] = cohForward s.dev m op third := by
    unfold cohOf
    rw [body]
    obtain rfl | rfl := forward
    · rfl
    · rfl
  show execCohForward m s = _
  unfold execCohForward
  rw [perform_eq, ran]
  rfl

/-- The kind of a recall or an invalidation. -/
def recallKind (op : CohOp) : Nat := if op = .recallLine then 2 else if op = .recallInv then 3 else 4

section
variable {op : CohOp} (asked : op = .recallLine ∨ op = .recallInv ∨ op = .inval)
include asked

theorem recallKind_cases : ¬ recallKind op ≤ 1 ∧ (recallKind op = 0 ∨ recallKind op = 2 ↔ op = .recallLine) ∧ (recallKind op = 4 ↔ op = .inval) := by
  obtain rfl | rfl | rfl := asked
  · decide
  · decide
  · decide

theorem givenBack_recall (l : Line) :
    givenBack l (recallKind op) = if l.hold = .d ∧ op ≠ .inval then some ⟨l.data, l.poison⟩ else none := by
  unfold givenBack
  obtain rfl | rfl | rfl := asked
  · simp [recallKind]
  · simp [recallKind]
  · simp [recallKind]

theorem exec_cohRecall {s : State} {m : FabMsg} {third : Nat} {data : Option LineData} (body : m.body = .coh op third data) :
    exec (.cohRecall m) s = .next { s with dev := finish (cohAsked s.dev m (recallKind op) 0) } := by
  have ran : cohOf s.dev m [.recallLine, .recallInv, .inval] = cohAsked s.dev m (recallKind op) 0 := by
    unfold cohOf
    rw [body]
    obtain rfl | rfl | rfl := asked
    · rfl
    · rfl
    · rfl
  show execCohRecall m s = _
  unfold execCohRecall
  rw [perform_eq, ran]

end

theorem givenBack_forward {op : CohOp} (l : Line) :
    givenBack l (if op = .forwardRead then 0 else 1) = if l.hold = .d ∧ op = .forwardRead then some ⟨l.data, l.poison⟩ else none := by
  unfold givenBack
  by_cases read : op = .forwardRead
  · simp [read]
  · simp [read]

/-- Settles O44: what the home asks is answered from what is held, and a grant is merged with what was written while it was awaited. -/
theorem coherenceAtAgent : Obligations.CoherenceAtAgent := by
  unfold Obligations.CoherenceAtAgent
  intro s
  refine ⟨fun m a k arrives member line place still => ⟨?_, ?_⟩, ?_⟩
  · intro op third data l forward body here held
    obtain ⟨t, u, ran, supply, done, kept, only⟩ := asked_held arrives member line place still (exec_cohForward forward body) here held
    have few : (if op = .forwardRead then 0 else 1) ≤ 1 := by split <;> omega
    have reads : ((if op = .forwardRead then 0 else 1) = 0 ∨ (if op = .forwardRead then 0 else 1) = 2) ↔ op = .forwardRead := by
      by_cases read : op = .forwardRead
      · simp [read]
      · simp [read]
    rw [if_pos few] at supply
    rw [if_pos few, givenBack_forward] at done
    simp only [reads] at kept
    exact ⟨t, u, ran, ⟨supply, done⟩, kept, only⟩
  · intro op third data asked body
    obtain ⟨late, lines, inval⟩ := recallKind_cases asked
    refine ⟨fun l here held => ?_, fun absent => ?_⟩
    · obtain ⟨t, u, ran, first, answer, kept, only⟩ := asked_held arrives member line place still (exec_cohRecall asked body) here held
      rw [if_neg late] at first
      rw [if_neg late, givenBack_recall asked, first] at answer
      simp only [lines] at kept
      refine ⟨t, ran, ?_, kept, only⟩
      have sends := answer.of_heard
      by_cases back : l.hold = .d ∧ op ≠ .inval
      · rw [if_pos back] at sends ⊢
        exact sends
      · rw [if_neg back] at sends ⊢
        exact sends
    · obtain ⟨t, ran, answer, kept, only⟩ := asked_none arrives member line place still (exec_cohRecall asked body) absent
      simp only [inval] at answer
      exact ⟨t, ran, answer, kept, only⟩
  · intro c k w read own d which waits empty early
    obtain ⟨u, sent, shore, runs, known⟩ : ∃ u, OnlySent s.dev u ∧ u.shore = s.dev.shore
        ∧ exec c s = .next { s with dev := finish (takeGrant u k read own (some d)) } ∧ read ≠ .pending := by
      obtain ⟨m, op, third, arrives, member, rfl, body, granted, rfl⟩ | ⟨line, sole, running, valid, rfl, rfl, rfl, rfl⟩ := which
      · obtain ⟨rfl, rfl, rfl⟩ | ⟨rfl, rfl, rfl⟩ := granted
        · refine ⟨_, onlySent_heardFrom s.dev m, heardFrom_shore s.dev m, ?_, ?_⟩
          · rw [exec_cohGrant arrives member body (.inl rfl)]
            simp
          · split
            · decide
            · split
              · decide
              · decide
        · refine ⟨_, onlySent_heardFrom s.dev m, heardFrom_shore s.dev m, ?_, by decide⟩
          rw [exec_cohGrant arrives member body (.inr rfl)]
          simp
      · refine ⟨_, .refl s.dev, rfl, exec_hostGo running valid, ?_⟩
        split
        · decide
        · decide
    exact ⟨fun clean => granted_clean sent shore runs waits empty early clean known,
      fun l here pending write => granted_pending sent shore runs waits empty early here pending write⟩

end Sys2Proof.Machine
end

section
/-!
The obligation on rings (R285, R288, R296, R314).
-/
namespace Sys2Proof.Machine

/-- A ring that is put into service stands with its mark, and of the rest of the front end nothing changes. -/
theorem addRing_leaves (s : Dev) (i n : Nat) (r : Ring) :
    (addRing s i n r).fe = { s.fe with rings := tset s.fe.rings (ringKey i n) r, marks := tset s.fe.marks (r.watch / 64) (ringKey i n) }
      ∧ (addRing s i n r).blocked = s.blocked ∧ (addRing s i n r).iregs = s.iregs := by
  unfold addRing takeWatch askRead
  dsimp only
  split
  · split
    · exact ⟨rfl, rfl, rfl⟩
    · exact ⟨rfl, rfl, rfl⟩
  · exact ⟨rfl, rfl, rfl⟩

theorem ringKey_inj {i m n : Nat} : ringKey i m = ringKey i n ↔ m = n := by
  unfold ringKey
  omega

theorem ringKey_div {i n : Nat} (known : n < 4096) : ringKey i n / 4096 = i := by
  unfold ringKey
  omega

/-! ### RING_CREATE (R288, R296) -/

section
variable {s : State} {c : Cmd} {x : Ctx} {n w : Nat} {rp cp l : List Nat} {s1 s2 s3 s4 : Dev} {rn cn : Nat}

/-- RING_CREATE's own effect where its checks pass. -/
theorem ringCreate_ends (admits : Admits s.dev 0x20 c x) (kind : eb x.e 16 1 ≤ 1) (least : 6 ≤ eb x.e 17 1) (most : eb x.e 17 1 ≤ 16)
    (least' : 6 ≤ eb x.e 18 1) (most' : eb x.e 18 1 ≤ 16) (vector : eb x.e 20 2 < vectorsOf x.inst) (page : eb x.e 24 8 % 4096 = 0)
    (page' : eb x.e 32 8 % 4096 = 0) (line : eb x.e 40 8 % 64 = 0) (isRn : rn = entryBytesOf (eb x.e 16 1) * 2 ^ eb x.e 17 1)
    (isCn : cn = 64 + 32 * 2 ^ eb x.e 18 1) (entries : vaPages s.dev x.inst (eb x.e 24 8) rn 0 = (s1, .inr rp))
    (completions : vaPages s1 x.inst (eb x.e 32 8) cn 1 = (s2, .inr cp)) (header : vaPages s2 x.inst (eb x.e 32 8) 8 0 = (s3, .inr l))
    (watch : feTranslate s3 x.inst (eb x.e 40 8) 0 = (s4, .inl w)) (free : s4.blocked = []) (still : anyMig s4 x.inst (eb x.e 24 8) rn = false)
    (still' : anyMig s4 x.inst (eb x.e 32 8) cn = false) (still'' : anyMig s4 x.inst (eb x.e 40 8) 8 = false)
    (coherent : inHost w = false ∨ coherentBinding s4 x.inst = true) (unmarked : tget s4.fe.marks (w / 64) = none)
    (quota : fget s4 (RF.INS_QUOTA_RINGS_USED x.inst) < fget s4 (RF.INS_QUOTA_MAX_RINGS x.inst)) (room : s4.fe.rings.length < 4096) (first : 1 ≤ n)
    (known : n ≤ 4095) (lowestFree : ∀ m, 1 ≤ m → m ≤ n → (ringAt s4 (ringKey x.inst m) = none ↔ m = n)) (stored : (storeAt s4 x.key).isSome) :
    ∃ u t, exec (.ringCreate c) s = .next { s with dev := t }
      ∧ u = addRing s4 x.inst n (Ring.make (eb x.e 16 1) (eb x.e 17 1) (eb x.e 18 1) (eb x.e 20 2) (eb x.e 22 2) (eb x.e 24 8)
          (eb x.e 32 8) (eb x.e 40 8) rp cp w (fget s4 (RF.HST_BIND_STATUS_GENERATION x.inst)))
      ∧ Ended u u t x { Ret.ok with r0 := n } := by
  have number : lowest 4095 (fun m => !thas s4.fe.rings (ringKey x.inst (m + 1))) = some (n - 1) := by
    refine lowest_eq (by omega) ?_ (fun m below => ?_)
    · have absent := (lowestFree n first le_rfl).mpr rfl
      unfold ringAt at absent
      simp only [thas, Nat.sub_add_cancel first, absent, Option.isSome_none, Bool.not_false]
    · have taken : tget s4.fe.rings (ringKey x.inst (m + 1)) ≠ none := fun absent =>
        absurd ((lowestFree (m + 1) (by omega) (by omega)).mp absent) (by omega)
      simp only [thas, Option.isSome_iff_ne_none.mpr taken, Bool.not_true]
  obtain ⟨u, isU⟩ : ∃ u, u = addRing s4 x.inst n (Ring.make (eb x.e 16 1) (eb x.e 17 1) (eb x.e 18 1) (eb x.e 20 2) (eb x.e 22 2) (eb x.e 24 8)
      (eb x.e 32 8) (eb x.e 40 8) rp cp w (fget s4 (RF.HST_BIND_STATUS_GENERATION x.inst))) := ⟨_, rfl⟩
  obtain ⟨fe, blocked, -⟩ := addRing_leaves s4 x.inst n (Ring.make (eb x.e 16 1) (eb x.e 17 1) (eb x.e 18 1) (eb x.e 20 2) (eb x.e 22 2) (eb x.e 24 8)
      (eb x.e 32 8) (eb x.e 40 8) rp cp w (fget s4 (RF.HST_BIND_STATUS_GENERATION x.inst)))
  rw [← isU] at fe blocked
  obtain ⟨f, runs, ran⟩ : ∃ f, exec (.ringCreate c) s = .next { s with dev := finish (command 0x20 c s.dev f) }
      ∧ f x s.dev = (u, .done { Ret.ok with r0 := n }) := by
    refine ⟨_, rfl, ?_⟩
    dsimp only
    rw [if_neg ?_]
    · subst isRn isCn
      rw [entries]
      dsimp only
      rw [completions]
      dsimp only
      rw [header]
      dsimp only
      rw [watch]
      dsimp only
      rw [number]
      refine (afterChecks_pass ?_ _).trans ?_
      · simp only [List.forall_mem_cons, List.not_mem_nil, false_implies, implies_true, and_true]
        refine ⟨?_, ?_, ?_, ?_⟩
        · simpa [still, still', still'', or_iff_not_imp_left] using coherent
        · simp [thas, unmarked]
        · simpa using quota
        · simpa using room
      · rw [isU, Option.getD_some, Nat.sub_add_cancel first]
    · simp [firstCode, kind, least, most, least', most', vector, page, page', line, Nat.not_lt.mpr, Nat.not_le.mpr]
  refine ⟨u, _, runs, isU, command_ends_over rfl admits (by decide) ran (blocked.trans free) (fun _ => ?_)⟩
  unfold storeAt at stored ⊢
  rw [fe]
  exact stored

end

/-! ### RING_DESTROY (R296) -/

/-- A ring that is dropped, as the parts of the front end that it leaves. -/
theorem dropRing_shape (s : Dev) (k : Nat) : ∃ regs, dropRing s k = { s with regs := regs, fe := { s.fe with
    rings := tdel s.fe.rings k, marks := tfilter s.fe.marks (fun _ r => r != k), wakes := s.fe.wakes.filter (· != k),
    woken := s.fe.woken.filter (· != k), store := s.fe.store.filter (fun e => ringKey e.inst e.ring != k) } } := ⟨_, rfl⟩

theorem sameRegsBut_dropRing (s : Dev) {i n : Nat} (known : n < 4096) : SameRegsBut [Reg.INS_QUOTA i, Reg.WCH_STATUS] s (dropRing s (ringKey i n)) := by
  intro o others _
  obtain ⟨quota, status⟩ := ne_of_not_mem_pair others
  unfold dropRing showRings
  rw [ringKey_div known, regRead_fset_other _ _ _ _ status, regRead_fset_other _ _ _ _ quota]
  rfl

/-- A ring's command stands in the store with the ring's instance and number. -/
theorem ring_of_ctxOf {op : Nat} {c : Cmd} {s : Dev} {x : Ctx} (context : ctxOf op c s = some x) (ring : x.origin ≤ 2) :
    ∃ e, storeAt s x.key = some e ∧ e.inst = x.inst ∧ e.ring = x.ring := by
  unfold ctxOf at context
  split at context
  · dsimp only at context
    split at context
    · obtain rfl := Option.some.inj context
      dsimp only at ring
      omega
    · cases context
  · dsimp only at context
    split at context
    · cases context
    · next e found =>
      split at context
      · obtain rfl := Option.some.inj context
        exact ⟨e, found, rfl, rfl⟩
      · cases context

/-- A command of another ring stays in the store. -/
theorem storeAt_dropRing {s : Dev} {key k : Nat} {e : StoreEntry} (stored : storeAt s key = some e) (other : ringKey e.inst e.ring ≠ k) :
    (storeAt (dropRing s k) key).isSome = true := by
  obtain ⟨member, own⟩ := storeAt_some stored
  refine List.find?_isSome.mpr ⟨e, List.mem_filter.mpr ⟨member, by simpa using other⟩, by simpa using own⟩

/-- An answer on a ring sends nothing. -/
theorem answerCmd_out (s : Dev) {x : Ctx} {c : Cpl} {data : List Byte} (ring : x.origin ≤ 2) : (answerCmd s x c data).out = s.out := by
  unfold answerCmd
  rw [if_pos ring]
  unfold oweCpl
  dsimp only
  split
  · split
    · split
      · rfl
      · rfl
    · rfl
  · split
    · rfl
    · rfl

/-- The check of RING_DESTROY on what still uses the ring (R296). -/
theorem destroyBusy_clear {s : Dev} {x : Ctx} {r : Ring} {n : Nat} (other : n ≠ x.ring)
    (idle : r.dead = true ∨ r.cplQ = [] ∧ ∀ e ∈ s.fe.store, ringKey e.inst e.ring ≠ ringKey x.inst n)
    (unused : ∀ p ∈ s.fe.sessions, p.2.inst = x.inst → p.2.cplRing = n → p.2.state = .closed) :
    (n == x.ring || (!r.dead && (s.fe.store.any (fun e => ringKey e.inst e.ring == ringKey x.inst n) || !r.cplQ.isEmpty))
      || s.fe.sessions.any (fun p => p.2.inst == x.inst && p.2.cplRing == n && p.2.state != .closed)) = false := by
  have sessions : s.fe.sessions.any (fun p => p.2.inst == x.inst && p.2.cplRing == n && p.2.state != .closed) = false := by
    rw [List.any_eq_false]
    intro p member
    simpa using unused p member
  rw [sessions, Bool.or_false]
  obtain dead | ⟨empty, none⟩ := idle
  · simp [dead, other]
  · have commands : s.fe.store.any (fun e => ringKey e.inst e.ring == ringKey x.inst n) = false := by
      rw [List.any_eq_false]
      intro e member
      simpa using none e member
    simp [commands, empty, other]

/-- RING_DESTROY's clause. -/
theorem exec_ringDestroy {s : State} {c : Cmd} {x : Ctx} {r : Ring} (admits : Admits s.dev 0x21 c x) (known : eb x.e 16 2 < 4096)
    (here : ringAt s.dev (ringKey x.inst (eb x.e 16 2)) = some r) (other : eb x.e 16 2 ≠ x.ring)
    (idle : r.dead = true ∨ r.cplQ = [] ∧ ∀ e ∈ s.dev.fe.store, ringKey e.inst e.ring ≠ ringKey x.inst (eb x.e 16 2))
    (unused : ∀ p ∈ s.dev.fe.sessions, p.2.inst = x.inst → p.2.cplRing = eb x.e 16 2 → p.2.state = .closed) (ring : x.origin ≤ 2) :
    ∃ t, exec (.ringDestroy c) s = .next t ∧ SameMem s.dev t.dev ∧ Completes s.dev t.dev x Ret.ok
      ∧ ringAt t.dev (ringKey x.inst (eb x.e 16 2)) = none ∧ (∀ k v, tget t.dev.fe.marks k = some v → v ≠ ringKey x.inst (eb x.e 16 2))
      ∧ (∀ k, k ≠ ringKey x.inst (eb x.e 16 2) → k ≠ ringKey x.inst x.ring → ringAt t.dev k = ringAt s.dev k)
      ∧ OnlyIn ([Reg.INS_QUOTA x.inst, Reg.WCH_STATUS] ++ logRegs) s t
          { s.dev with fe := t.dev.fe, log := t.dev.log, flash := { s.dev.flash with romLog := t.dev.flash.romLog } }
      ∧ t.dev.fe.sessions = s.dev.fe.sessions ∧ t.dev.fe.bindings = s.dev.fe.bindings ∧ t.dev.fe.journals = s.dev.fe.journals := by
  have ⟨context, free, _⟩ := admits
  obtain ⟨f, runs, ran⟩ : ∃ f, exec (.ringDestroy c) s = .next { s with dev := finish (command 0x21 c s.dev f) }
      ∧ f x s.dev = (dropRing s.dev (ringKey x.inst (eb x.e 16 2)), .done Ret.ok) := by
    refine ⟨_, rfl, ?_⟩
    dsimp only
    rw [decide_eq_true known, here]
    refine afterChecks_pass ?_ _
    simp only [List.forall_mem_cons, List.not_mem_nil, false_implies, implies_true, and_true]
    exact destroyBusy_clear other idle unused
  have same := sameRegsBut_dropRing s.dev (i := x.inst) known
  have apart : ringKey x.inst x.ring ≠ ringKey x.inst (eb x.e 16 2) := fun own => other (ringKey_inj.mp own).symm
  obtain ⟨e, stored, inst, number⟩ := ring_of_ctxOf context ring
  have left := storeAt_dropRing stored (k := ringKey x.inst (eb x.e 16 2)) (by rw [inst, number]; exact apart)
  have kept : ∀ k, k ≠ ringKey x.inst (eb x.e 16 2) → ringAt (dropRing s.dev (ringKey x.inst (eb x.e 16 2))) k = ringAt s.dev k :=
    fun k other => tget_tdel_other _ _ _ other
  obtain ⟨v, logged, -, answered⟩ := command_answers rfl admits (by decide) ran free
  have ended := command_ends_over rfl admits (by decide) ran free (fun _ => left)
  have out : (finish (command 0x21 c s.dev f)).out = s.dev.out := by
    rw [answered, finish_out, answerCmd_out v ring, logged.rest]
    rfl
  obtain ⟨t, isT⟩ : ∃ t, t = finish (command 0x21 c s.dev f) := ⟨_, rfl⟩
  rw [← isT] at runs ended out
  have marks : t.fe.marks = tfilter s.dev.fe.marks (fun _ r => r != ringKey x.inst (eb x.e 16 2)) := by
    rw [ended.shape]
    rfl
  have shape := ended.shape
  refine ⟨_, runs, (sameMem_of_dram rfl).trans ended.mem, ?_, ?_, ?_, ?_, ⟨rfl, ?_, ?_⟩, ?_, ?_, ?_⟩
  · have completes := ended.completes
    unfold Completes at completes ⊢
    rw [if_pos ring] at completes ⊢
    intro rg found alive
    exact completes rg ((kept _ apart).trans found) alive
  · rw [withDev_dev, ended.rings _ apart.symm]
    exact tget_tdel_same _ _
  · intro k v found
    rw [withDev_dev, marks] at found
    have member := List.mem_filter.mp (mem_of_tget found)
    simpa using member.2
  · intro k other own
    rw [withDev_dev, ended.rings _ own, kept _ other]
  · obtain ⟨regs, dropped⟩ := dropRing_shape s.dev (ringKey x.inst (eb x.e 16 2))
    rw [dropped] at shape
    obtain ⟨store, rings, sent, log, rom, dram, regs', literal⟩ := shape.literal
    rw [literal] at out ⊢
    obtain rfl : sent = s.dev.out := out
    rfl
  · intro o others shc
    rw [withDev_dev, ended.regs o (fun report => others (List.mem_append_right _ report)) shc]
    exact same o (fun named => others (List.mem_append_left _ named)) shc
  all_goals
    rw [withDev_dev, shape]
    rfl

/-! ### ENABLE of a boot block (R314) -/

/-- A write of ENABLE that is let through runs the boot block's checks. -/
theorem exec_wchBootCtlEnable {s : State} {fn value : Nat} {ide : Bool} (known : fn ≤ 32) (enable : value % 2 = 1)
    (plain : fn = 0 ∨ fget s.dev (RF.HST_BIND_STATUS_TDISP fn) = 0) (free : (enableBoot s.dev fn value).blocked = []) :
    exec (.wchBootCtlEnable fn value ide) s = .next { s with dev := finish (enableBoot s.dev fn value) } := by
  have gate : vfGate s.dev fn ide = (s.dev, true) := by
    unfold vfGate
    obtain rfl | plain := plain
    · exact if_pos rfl
    · rw [plain]
      split
      · rfl
      · rfl
  show execWchBootCtlEnable fn value ide s = _
  unfold execWchBootCtlEnable
  rw [perform_eq, whole_of_unblocked]
  all_goals rw [if_neg (by omega), gate]
  exact free

section
variable {s s1 : Dev} {fn value : Nat} (notReady : wfget s fn RF.WCH_BOOT_CTL_READY = 0)
include notReady

theorem enableBoot_some {r : Ring} (checked : bootRing (winWrite s fn Reg.WCH_BOOT_CTL (value % 2 ^ 27 &&& 0x7FFFF01)) fn = (s1, some r)) :
    enableBoot s fn value = addRing (wfset s1 fn RF.WCH_BOOT_CTL_READY 1) fn 0 r := by
  unfold enableBoot
  rw [if_neg (by rw [notReady]; decide)]
  dsimp only
  rw [checked]

theorem enableBoot_none (checked : bootRing (winWrite s fn Reg.WCH_BOOT_CTL (value % 2 ^ 27 &&& 0x7FFFF01)) fn = (s1, none)) :
    enableBoot s fn value = wfset s1 fn RF.WCH_BOOT_CTL_ERROR 1 := by
  unfold enableBoot
  rw [if_neg (by rw [notReady]; decide)]
  dsimp only
  rw [checked]

end

/-- A field of a window that is written reads so. -/
theorem wfget_wfset_same (s : Dev) (fn : Nat) (f : Fld) (v : Nat) (fits : f.lo + f.width ≤ 64) : wfget (wfset s fn f v) fn f = v % 2 ^ f.width := by
  unfold wfget wfset
  rw [winRead_winWrite_same, bitsOf_mod _ _ _ _ fits, bitsOf_setBits_same]

/-- Settles O36: the checks pass, the ring is put into service or dropped, and the command is answered. -/
theorem ringsMadeAndDropped : Obligations.RingsMadeAndDropped := by
  unfold Obligations.RingsMadeAndDropped
  intro s c x
  refine ⟨?_, ?_, ?_⟩
  · intro n w rp cp l s1 s2 s3 s4 rn cn rg admits kind least most least' most' vector page page' line isRn isCn entries completions header watch free still
      still' still'' coherent unmarked quota room first known lowestFree own alive stored ring
    obtain ⟨u, t, runs, isU, ended⟩ := ringCreate_ends admits kind least most least' most' vector page page' line isRn isCn entries completions header
      watch free still still' still'' coherent unmarked quota room first known lowestFree stored
    obtain ⟨fe, -, -⟩ := addRing_leaves s4 x.inst n (Ring.make (eb x.e 16 1) (eb x.e 17 1) (eb x.e 18 1) (eb x.e 20 2) (eb x.e 22 2) (eb x.e 24 8)
      (eb x.e 32 8) (eb x.e 40 8) rp cp w (fget s4 (RF.HST_BIND_STATUS_GENERATION x.inst)))
    rw [← isU] at fe
    have absent := (lowestFree n first le_rfl).mpr rfl
    have apart : ringKey x.inst x.ring ≠ ringKey x.inst n := by
      intro same
      rw [same, absent] at own
      cases own
    have ringOf : ∀ k, ringAt u k = tget (tset s4.fe.rings (ringKey x.inst n) (Ring.make (eb x.e 16 1) (eb x.e 17 1) (eb x.e 18 1) (eb x.e 20 2)
        (eb x.e 22 2) (eb x.e 24 8) (eb x.e 32 8) (eb x.e 40 8) rp cp w (fget s4 (RF.HST_BIND_STATUS_GENERATION x.inst)))) k := by
      intro k
      unfold ringAt
      rw [fe]
    have completes := ended.completes
    unfold Completes at completes
    rw [if_pos ring] at completes
    refine ⟨_, runs, ?_, ?_, ?_⟩
    · rw [withDev_dev, ended.rings _ apart.symm, ringOf]
      exact tget_tset_same _ _ _
    · rw [withDev_dev, ended.shape]
      show tget u.fe.marks (w / 64) = _
      rw [fe]
      exact tget_tset_same _ _ _
    · exact (completes rg ((ringOf _).trans ((tget_tset_other _ _ _ _ apart).trans own)) alive).1
  · intro r admits known here other idle unused _ ring
    exact exec_ringDestroy admits known here other idle unused ring
  · intro fn value ide s1 known enable _ plain notReady free
    refine ⟨fun r checked => ?_, fun checked => ?_⟩
    · have enabled := enableBoot_some notReady checked
      obtain ⟨fe, blocked, iregs⟩ := addRing_leaves (wfset s1 fn RF.WCH_BOOT_CTL_READY 1) fn 0 r
      rw [← enabled] at fe blocked iregs
      refine ⟨_, exec_wchBootCtlEnable known enable plain (blocked.trans free), ?_, ?_, ?_⟩
      · have ready := wfget_wfset_same s1 fn RF.WCH_BOOT_CTL_READY 1 (by decide)
        unfold wfget winRead at ready ⊢
        rw [withDev_dev, finish_iregs, iregs]
        exact ready
      · show tget (enableBoot s.dev fn value).fe.rings _ = _
        rw [fe]
        exact tget_tset_same _ _ _
      · show tget (enableBoot s.dev fn value).fe.marks _ = _
        rw [fe]
        exact tget_tset_same _ _ _
    · have enabled := enableBoot_none notReady checked
      refine ⟨_, exec_wchBootCtlEnable known enable plain (by rw [enabled]; exact free), ?_, ?_⟩
      · rw [enabled]
        exact wfget_wfset_same s1 fn RF.WCH_BOOT_CTL_ERROR 1 (by decide)
      · rw [enabled]
        rfl

end Sys2Proof.Machine
end

section
/-!
SUPPORT. Writes of firmware into the memory of a host (R184, R185): they change what the slices hold and what goes out.
-/
namespace Sys2Proof.Machine

/-- Nothing has changed but the slices, the wakes and what went out. -/
def Beyond (s t : Dev) : Prop := t = { s with out := t.out, shore := t.shore, fe := { s.fe with wakes := t.fe.wakes } }

theorem Beyond.refl (s : Dev) : Beyond s s := rfl

theorem Beyond.trans {s t u : Dev} (h : Beyond s t) (k : Beyond t u) : Beyond s u := by
  unfold Beyond at *
  rw [k, h]

theorem beyond_sendWake (s : Dev) (k : Nat) : Beyond s (sendWake s k) := by
  unfold sendWake
  split
  · rfl
  · rfl

theorem beyond_askHostOwn (s : Dev) (k : Nat) (held : Bool) : Beyond s (askHostOwn k s held) := by
  unfold askHostOwn
  split
  · rfl
  · rfl

theorem beyond_putLine (s : Dev) (k : Nat) (l : Line) : Beyond s (putLine s k l) := rfl

theorem beyond_pendingWrite (s : Dev) (k h : Nat) (mask : BitVec 32) (data : BitVec 256) (poison : Bool) :
    Beyond s (pendingWrite s k h mask data poison (askHostOwn k)) := by
  have woken := beyond_sendWake s k
  unfold pendingWrite
  dsimp only
  split
  · split
    · exact woken.trans (beyond_putLine _ _ _)
    · exact woken.trans (beyond_putLine _ _ _)
    · exact (woken.trans (beyond_putLine _ _ _)).trans (beyond_askHostOwn _ _ _)
  · exact (woken.trans (beyond_putLine _ _ _)).trans (beyond_askHostOwn _ _ _)

/-- The place of a line in a host's memory. -/
theorem placeOf_host {s : Dev} {k : Nat} (low : hostBase ≤ 64 * k) (high : 64 * k < globalBase) :
    placeOf s k = .host ∨ ∃ b, placeOf s k = .io b := by
  have outside : isLocal k = false := by
    unfold isLocal
    unfold hostBase at low
    rw [decide_eq_false_iff_not]
    omega
  unfold placeOf
  rw [outside, if_neg (by decide), if_pos high]
  dsimp only
  split
  · exact .inl rfl
  · exact .inr ⟨_, rfl⟩

theorem beyond_acceptWrite {s : Dev} {sec : Nat} (low : hostBase ≤ 64 * (sec / 2)) (high : 64 * (sec / 2) < globalBase) (mask : BitVec 32)
    (data : BitVec 256) (direct now : Bool) : Beyond s (acceptWrite s sec mask data false direct now).1 := by
  unfold acceptWrite
  dsimp only
  obtain place | ⟨b, place⟩ := placeOf_host (s := s) low high
  · rw [place]
    dsimp only
    split
    · split
      · split
        · exact (beyond_sendWake _ _).trans (beyond_putLine _ _ _)
        · exact beyond_pendingWrite _ _ _ _ _ _
      · exact beyond_pendingWrite _ _ _ _ _ _
    · exact .refl s
  · rw [place]
    dsimp only
    split
    · rfl
    · exact .refl s

theorem beyond_devWriteGo (f : Nat) (s : Dev) (loc : Nat) (bytes : List Byte) (low : hostBase ≤ loc) (high : loc + bytes.length ≤ globalBase) :
    Beyond s (devWriteGo s loc bytes f).1 := by
  induction f generalizing s loc bytes with
  | zero => exact .refl s
  | succ f ih =>
    unfold devWriteGo
    split
    · exact .refl s
    · next some =>
      have some : bytes.length ≠ 0 := by simpa using some
      have base : hostBase % 64 = 0 := by decide
      have first := beyond_acceptWrite (s := s) (sec := loc / 32) (by omega) (by omega)
        (BitVec.ofNat 32 ((2 ^ min bytes.length (32 - loc % 32) - 1) * 2 ^ (loc % 32)))
        (BitVec.ofNat 256 (ofLe (bytes.take (min bytes.length (32 - loc % 32))) * 2 ^ (8 * (loc % 32)))) false true
      dsimp only
      refine first.trans (ih _ _ _ (by omega) ?_)
      rw [List.length_drop]
      omega

/-- A write of bytes into a host's memory. -/
theorem beyond_devWrite (s : Dev) {loc : Nat} {bytes : List Byte} (low : hostBase ≤ loc) (high : loc + bytes.length ≤ globalBase) :
    Beyond s (devWrite s loc bytes).1 := beyond_devWriteGo _ _ _ _ low high

end Sys2Proof.Machine
end

section
/-!
SUPPORT. Walks and fault batches (R267 to R277).
-/
namespace Sys2Proof.Machine

/-! ### Batches -/

/-- The location of bytes of the fault ring of an instance lies in a host's memory. -/
theorem fltLoc_host {s : Dev} {i off n : Nat} (known : i ≤ 32) (within : (fltOf s i).base + off + n ≤ 2 ^ 52) :
    hostBase ≤ fltLoc s i off ∧ fltLoc s i off + n ≤ globalBase := by
  unfold fltLoc hostLoc hostBase globalBase
  split
  · omega
  · omega

theorem length_fltBytes (r : FltRec) : (fltBytes r).length = 32 := by simp [fltBytes]

/-- The records of a batch, as they are written. -/
theorem beyond_writeRecords (s : Dev) {i : Nat} (known : i ≤ 32) (producer : Nat) {cap : Nat} (some : 0 < cap) (recs : List FltRec)
    (within : (fltOf s i).base + 64 + 32 * cap ≤ 2 ^ 52) :
    Beyond s (recs.foldl (fun s r => (devWrite s (fltLoc s i (64 + 32 * ((producer + r.index) % cap))) (fltBytes r)).1) s) := by
  refine List.foldlRecOn (motive := Beyond s) _ _ (.refl s) (fun t same r _ => ?_)
  have base : (fltOf t i).base = (fltOf s i).base := by
    unfold Beyond at same
    rw [same]
    rfl
  have place := Nat.mod_lt (producer + r.index) some
  obtain ⟨low, high⟩ := fltLoc_host (s := t) (n := 32) (off := 64 + 32 * ((producer + r.index) % cap)) known (by rw [base]; omega)
  exact same.trans (beyond_devWrite _ low (by rw [length_fltBytes]; exact high))

/-- A message to a function sends it, keeps it, or counts it. -/
theorem sendMsix_leaves (s : Dev) (fn vec : Nat) : (sendMsix s fn vec).xl = s.xl ∧ (sendMsix s fn vec).dram = s.dram
    ∧ (sendMsix s fn vec).blocked = s.blocked ∧ ∀ o, o ≠ Reg.HST_CNT_DROPPED_CPL → regRead (sendMsix s fn vec) o = regRead s o := by
  unfold sendMsix
  dsimp only
  split
  · exact ⟨rfl, rfl, rfl, fun o other => regRead_bump_other _ _ _ other⟩
  · split
    · exact ⟨rfl, rfl, rfl, fun _ _ => rfl⟩
    · exact ⟨rfl, rfl, rfl, fun _ _ => rfl⟩

/-- The module between the records of a batch and its message (R275): the ring's indices, the header, the phases. -/
def batchHeader (s : Dev) (i b n : Nat) : Dev :=
  let s := modFlt s i (fun f => { f with producer := f.producer + n, lastBatch := b, waitedFull := false })
  let s := (devWrite s (fltLoc s i 0) (leBytes 8 (fltOf s i).producer ++ leBytes 4 b)).1
  { s with xl := { s.xl with recs := tmap s.xl.recs (fun _ r => if r.inst = i ∧ r.batch = b then { r with phase := 2 } else r) } }

theorem fltOf_modFlt_same (s : Dev) (i : Nat) (f : FltInst → FltInst) : fltOf (modFlt s i f) i = f (fltOf s i) := by
  unfold fltOf modFlt tgetD
  dsimp only
  rw [tget_tset_same]
  rfl

theorem batchHeader_shape (s : Dev) {i : Nat} (known : i ≤ 32) (b n : Nat) (within : (fltOf s i).base + 64 ≤ 2 ^ 52) :
    ∃ out shore wakes, batchHeader s i b n = { s with
      out := out, shore := shore, fe := { s.fe with wakes := wakes }
      xl := { s.xl with
        insts := tset s.xl.insts i { fltOf s i with producer := (fltOf s i).producer + n, lastBatch := b, waitedFull := false }
        recs := tmap s.xl.recs (fun _ r => if r.inst = i ∧ r.batch = b then { r with phase := 2 } else r) } } := by
  obtain ⟨u, isU⟩ : ∃ u, u = modFlt s i (fun f => { f with producer := f.producer + n, lastBatch := b, waitedFull := false }) := ⟨_, rfl⟩
  have base : (fltOf u i).base = (fltOf s i).base := by rw [isU, fltOf_modFlt_same]
  obtain ⟨low, high⟩ := fltLoc_host (s := u) (off := 0) (n := 12) known (by rw [base]; omega)
  have written := beyond_devWrite u (bytes := leBytes 8 (fltOf u i).producer ++ leBytes 4 b) low (by simpa using high)
  unfold batchHeader
  dsimp only
  rw [← isU, written, isU]
  exact ⟨_, _, _, rfl⟩

/-- A closed batch that is written (R275). -/
theorem writeBatch_leaves (s : Dev) {i : Nat} (known : i ≤ 32) (b : Nat)
    (within : (fltOf s i).base + 64 + 32 * 2 ^ (fltOf s i).sizeLog2 ≤ 2 ^ 52) :
    (writeBatch s i b).dram = s.dram ∧ (writeBatch s i b).blocked = s.blocked
      ∧ (writeBatch s i b).xl.recs = tmap s.xl.recs (fun _ r => if r.inst = i ∧ r.batch = b then { r with phase := 2 } else r)
      ∧ fltOf (writeBatch s i b) i = { fltOf s i with
          producer := (fltOf s i).producer + (s.xl.recs.filter (fun p => p.2.inst == i && p.2.batch == b)).length, lastBatch := b, waitedFull := false }
      ∧ regRead (writeBatch s i b) (Reg.FLT_CNT_RECORDS i)
          = (regRead s (Reg.FLT_CNT_RECORDS i) + (s.xl.recs.filter (fun p => p.2.inst == i && p.2.batch == b)).length) % 2 ^ 64 := by
  obtain ⟨recs, isRecs⟩ : ∃ recs, recs = (s.xl.recs.filter (fun p => p.2.inst == i && p.2.batch == b)).map (·.2) := ⟨_, rfl⟩
  obtain ⟨u, isU⟩ : ∃ u, u = recs.foldl (fun t r =>
      (devWrite t (fltLoc t i (64 + 32 * (((fltOf s i).producer + r.index) % 2 ^ (fltOf s i).sizeLog2))) (fltBytes r)).1) s := ⟨_, rfl⟩
  have written := beyond_writeRecords s known (fltOf s i).producer (Nat.two_pow_pos (fltOf s i).sizeLog2) recs within
  rw [← isU] at written
  have length : recs.length = (s.xl.recs.filter (fun p => p.2.inst == i && p.2.batch == b)).length := by rw [isRecs, List.length_map]
  have flt : fltOf u i = fltOf s i := by
    unfold Beyond at written
    rw [written]
    rfl
  obtain ⟨out, shore, wakes, header⟩ := batchHeader_shape u known b recs.length (by rw [flt]; omega)
  have whole : writeBatch s i b = sendMsix (bumpBy (batchHeader u i b recs.length) (Reg.FLT_CNT_RECORDS i) recs.length) i (fltOf s i).vector := by
    unfold writeBatch
    dsimp only
    rw [← isRecs, ← isU]
    rfl
  obtain ⟨xl, dram, blocked, regs⟩ := sendMsix_leaves (bumpBy (batchHeader u i b recs.length) (Reg.FLT_CNT_RECORDS i) recs.length) i (fltOf s i).vector
  have place : Reg.FLT_CNT_RECORDS i = 0x171010 + 64 * i := rfl
  have dropped : Reg.HST_CNT_DROPPED_CPL = 0x1A0090 := rfl
  have count := regs (Reg.FLT_CNT_RECORDS i) (by omega)
  rw [← whole] at xl dram blocked count
  unfold Beyond at written
  rw [header, flt, written] at xl dram blocked count
  refine ⟨dram, blocked, ?_, ?_, ?_⟩
  · rw [xl]
    rfl
  · unfold fltOf tgetD
    rw [xl, ← length]
    show (tget (tset _ _ _) i).getD _ = _
    rw [tget_tset_same]
    rfl
  · rw [count, ← length]
    exact regRead_regWrite_same _ _ _

/-- FAULT_BATCH_CLOSE (R273). -/
theorem closeBatch_leaves (s : Dev) (i : Nat) (opened : (fltOf s i).openTick ≠ none) : ∃ regs, closeBatch s i = { s with
    regs := regs
    xl := { s.xl with
      insts := tset s.xl.insts i { fltOf s i with openTick := none }
      recs := tmap s.xl.recs (fun _ r =>
        if r.inst = i ∧ r.batch = fget s (RF.FLT_STATUS_NEXT_BATCH i) ∧ r.phase = 0 then { r with phase := 1 } else r) } }
      ∧ regs = (fsat (fset (fset s (RF.FLT_STATUS_NEXT_BATCH i) (fget s (RF.FLT_STATUS_NEXT_BATCH i) + 1)) (RF.FLT_STATUS_OPEN_RECORDS i) 0)
          (RF.FLT_STATUS_UNRESUMED i) 1).regs := by
  unfold closeBatch
  rw [if_neg (by rwa [Option.isNone_iff_eq_none])]
  exact ⟨_, rfl, rfl⟩

theorem exec_faultBatchClose (s : State) (i : Nat) (opened : (fltOf s.dev i).openTick ≠ none) :
    ∃ t, exec (.faultBatchClose i) s = .next t ∧ SameMem s.dev t.dev
      ∧ fget t.dev (RF.FLT_STATUS_NEXT_BATCH i) = (fget s.dev (RF.FLT_STATUS_NEXT_BATCH i) + 1) % 2 ^ 32
      ∧ fget t.dev (RF.FLT_STATUS_OPEN_RECORDS i) = 0
      ∧ fget t.dev (RF.FLT_STATUS_UNRESUMED i) = min 255 (fget s.dev (RF.FLT_STATUS_UNRESUMED i) + 1)
      ∧ (∀ n r, tget s.dev.xl.recs n = some r → tget t.dev.xl.recs n
          = some (if r.inst = i ∧ r.batch = fget s.dev (RF.FLT_STATUS_NEXT_BATCH i) ∧ r.phase = 0 then { r with phase := 1 } else r))
      ∧ (fltOf t.dev i).openTick = none
      ∧ OnlyIn [Reg.FLT_STATUS i] s t { s.dev with xl := { s.dev.xl with recs := t.dev.xl.recs, insts := t.dev.xl.insts } } := by
  obtain ⟨regs, shape, areRegs⟩ := closeBatch_leaves s.dev i opened
  have here : Reg.FLT_STATUS i = 0x171008 + 64 * i := rfl
  have apart : Reg.FLT_STATUS i ≠ Reg.SHC_STATUS := by
    have : Reg.SHC_STATUS = 0x150000 := rfl
    omega
  have read (f : Fld) (own : f.off = Reg.FLT_STATUS i) : fget (finish (closeBatch s.dev i)) f
      = fget (fsat (fset (fset s.dev (RF.FLT_STATUS_NEXT_BATCH i) (fget s.dev (RF.FLT_STATUS_NEXT_BATCH i) + 1)) (RF.FLT_STATUS_OPEN_RECORDS i) 0)
          (RF.FLT_STATUS_UNRESUMED i) 1) f := by
    rw [fget_finish _ _ (by rw [own]; exact apart), shape, areRegs]
    rfl
  refine ⟨_, show execFaultBatchClose i s = _ from perform_eq _ _, sameMem_finish (by rw [shape]), ?_, ?_, ?_, ?_, ?_, ?_⟩
  · rw [read _ rfl]
    unfold fsat
    rw [fget_fset_bits _ (RF.FLT_STATUS_UNRESUMED i) (RF.FLT_STATUS_NEXT_BATCH i) _ rfl (Nat.le_of_ble_eq_true rfl) (.inl (Nat.le_of_ble_eq_true rfl)),
      fget_fset_bits _ (RF.FLT_STATUS_OPEN_RECORDS i) (RF.FLT_STATUS_NEXT_BATCH i) _ rfl (Nat.le_of_ble_eq_true rfl) (.inl (Nat.le_of_ble_eq_true rfl)),
      fget_fset_same _ _ _ (Nat.le_of_ble_eq_true rfl)]
    rfl
  · rw [read _ rfl]
    unfold fsat
    rw [fget_fset_bits _ (RF.FLT_STATUS_UNRESUMED i) (RF.FLT_STATUS_OPEN_RECORDS i) _ rfl (Nat.le_of_ble_eq_true rfl) (.inr (Nat.le_of_ble_eq_true rfl)),
      fget_fset_same _ _ _ (Nat.le_of_ble_eq_true rfl)]
    rfl
  · have small := fget_lt s.dev (RF.FLT_STATUS_UNRESUMED i)
    have width : 2 ^ (RF.FLT_STATUS_UNRESUMED i).width = 256 := rfl
    rw [read _ rfl]
    unfold fsat
    rw [fget_fset_same _ _ _ (Nat.le_of_ble_eq_true rfl),
      fget_fset_bits _ (RF.FLT_STATUS_OPEN_RECORDS i) (RF.FLT_STATUS_UNRESUMED i) _ rfl (Nat.le_of_ble_eq_true rfl) (.inl (Nat.le_of_ble_eq_true rfl)),
      fget_fset_bits _ (RF.FLT_STATUS_NEXT_BATCH i) (RF.FLT_STATUS_UNRESUMED i) _ rfl (Nat.le_of_ble_eq_true rfl) (.inr (Nat.le_of_ble_eq_true rfl)), width]
    rw [width] at small
    omega
  · intro n r there
    show tget (closeBatch s.dev i).xl.recs n = _
    rw [shape]
    dsimp only
    rw [tget_tmap, there]
    rfl
  · show (fltOf (closeBatch s.dev i) i).openTick = _
    rw [shape]
    unfold fltOf tgetD
    dsimp only
    rw [tget_tset_same]
    rfl
  · refine onlyIn_finish (by rw [shape]; rfl) ?_
    intro o other _
    rw [shape, areRegs]
    have other : o ≠ Reg.FLT_STATUS i := by simpa using other
    have first := regRead_fset_other (fset (fset s.dev (RF.FLT_STATUS_NEXT_BATCH i) (fget s.dev (RF.FLT_STATUS_NEXT_BATCH i) + 1))
      (RF.FLT_STATUS_OPEN_RECORDS i) 0) (RF.FLT_STATUS_UNRESUMED i) (min (fget (fset (fset s.dev (RF.FLT_STATUS_NEXT_BATCH i)
        (fget s.dev (RF.FLT_STATUS_NEXT_BATCH i) + 1)) (RF.FLT_STATUS_OPEN_RECORDS i) 0) (RF.FLT_STATUS_UNRESUMED i) + 1)
        (2 ^ (RF.FLT_STATUS_UNRESUMED i).width - 1)) o other
    exact first.trans ((regRead_fset_other _ (RF.FLT_STATUS_OPEN_RECORDS i) 0 o other).trans
      (regRead_fset_other _ (RF.FLT_STATUS_NEXT_BATCH i) _ o other))

/-- FAULT_BATCH_WRITE of a ring with room (R275). -/
theorem exec_faultBatchWrite (s : State) {i b : Nat} (known : i ≤ 32) (free : s.dev.blocked = []) (closed : closedBatch s.dev i = some b)
    (ring : (fltOf s.dev i).ringSet = true) (room : (fltOf s.dev i).producer + 256 ≤ (fltOf s.dev i).consumed + 2 ^ (fltOf s.dev i).sizeLog2)
    (within : (fltOf s.dev i).base + 64 + 32 * 2 ^ (fltOf s.dev i).sizeLog2 ≤ 2 ^ 52) :
    exec (.faultBatchWrite i false) s = .next { s with dev := finish (writeBatch s.dev i b) } := by
  show execFaultBatchWrite i false s = _
  unfold execFaultBatchWrite
  rw [perform_eq]
  have unblocked : (writeBatch s.dev i b).blocked = [] := (writeBatch_leaves s.dev known b within).2.1.trans free
  refine congrArg (fun d => Host.Outcome.next { s with dev := finish d }) ?_
  have ran : (match closedBatch s.dev i with
      | none => s.dev
      | some b =>
        let f := fltOf s.dev i
        if !f.ringSet then s.dev
        else if false then modFlt (instanceFatal s.dev i) i (fun f => { f with ringSet := false })
        else if f.producer + 256 > f.consumed + 2 ^ f.sizeLog2 then
          (if f.waitedFull then s.dev else modFlt (bump s.dev (Reg.FLT_CNT_RING_FULL i)) i (fun f => { f with waitedFull := true }))
        else writeBatch s.dev i b) = writeBatch s.dev i b := by
    rw [closed]
    dsimp only
    rw [ring, if_neg (by decide), if_neg (by decide), if_neg (by omega)]
  rw [whole_of_unblocked]
  · exact ran
  · dsimp only
    exact (congrArg Dev.blocked ran).trans unblocked

/-! ### Walks -/

theorem neededWalk_names {c : Core} {engine tag va : Nat} {w : Walk} (engines : 1 ≤ engine) (needed : neededWalk c engine tag va = some w) :
    w.va / 4096 = va / 4096 ∧ w.engine = engine := by
  unfold neededWalk at needed
  rw [if_neg (by omega)] at needed
  split at needed
  · simpa using List.find?_some needed
  · cases needed

theorem mem_tlbPut (l : List (Nat × Tlb)) (owner : Nat) {n : Nat} (some : 1 ≤ n) (t : Tlb) : (owner, t) ∈ tlbPut l owner n t := by
  unfold tlbPut
  refine List.mem_append_right _ ?_
  obtain ⟨others, areOthers⟩ : ∃ others, others = l.filter (fun p => p.1 == owner && p.2 != t) := ⟨_, rfl⟩
  rw [← areOthers, List.drop_append_of_le_length (by rw [List.length_append, List.length_singleton]; omega)]
  exact List.mem_append_right _ (List.mem_singleton.mpr rfl)

/-- The group of a walk that is done with. -/
theorem endWalk_group (s : Dev) (core : Nat) {tag : Nat} (group : 64 ≤ tag) (w : Walk) (f : Option FaultWait) (g : Group)
    (there : tget (coreOf s core).groups (tag - 64) = some g) :
    tget (coreOf (endWalk s core tag w f) core).groups (tag - 64) = some { g with
      walks := g.walks.filter (fun x => !(x.va / 4096 == w.va / 4096 && x.engine == w.engine))
      faults := match f with
        | some f => g.faults ++ [f]
        | none => g.faults } := by
  unfold endWalk
  rw [coreOf_modCore_same]
  unfold modUser
  rw [if_pos group]
  show tget (tmod _ _ _) _ = _
  rw [tget_tmod_same, there]
  rfl

theorem endWalk_walks (s : Dev) (core : Nat) {tag : Nat} (group : 64 ≤ tag) (w : Walk) (f : Option FaultWait) (g : Group)
    (there : tget (coreOf (endWalk s core tag w f) core).groups (tag - 64) = some g) (v : Walk) (mem : v ∈ g.walks)
    (page : v.va / 4096 = w.va / 4096) : v.engine ≠ w.engine := by
  cases before : tget (coreOf s core).groups (tag - 64) with
  | none =>
    unfold endWalk at there
    rw [coreOf_modCore_same] at there
    unfold modUser at there
    rw [if_pos group] at there
    replace there : tget (tmod _ _ _) _ = some g := there
    rw [tget_tmod_same, before] at there
    cases there
  | some h =>
    rw [endWalk_group s core group w f h before] at there
    cases there
    have kept := (List.mem_filter.mp mem).2
    intro same
    rw [page, same] at kept
    simp at kept

theorem endWalk_cores (s : Dev) (core tag : Nat) (w : Walk) (f : Option FaultWait) : ∃ cores, endWalk s core tag w f = { s with cores := cores } :=
  ⟨_, rfl⟩

theorem endWalk_tlb (s : Dev) (core : Nat) {tag : Nat} (group : 64 ≤ tag) (w : Walk) (f : Option FaultWait) :
    (coreOf (endWalk s core tag w f) core).tlb = (coreOf s core).tlb := by
  unfold endWalk
  rw [coreOf_modCore_same]
  unfold modUser
  rw [if_pos group]

theorem endWalk_others (s : Dev) (core tag : Nat) (w : Walk) (f : Option FaultWait) {j : Nat} (other : j ≠ core) :
    coreOf (endWalk s core tag w f) j = coreOf s j := coreOf_modCore_other _ _ _ _ other

theorem exec_translationWalk (s : State) (core engine tag va : Nat) (free : (translationWalk s.dev core engine tag va).blocked = []) :
    exec (.translationWalk core engine tag va) s = .next { s with dev := finish (translationWalk s.dev core engine tag va) } := by
  show execTranslationWalk core engine tag va s = _
  unfold execTranslationWalk
  rw [perform_eq, whole_of_unblocked free]

section
variable {s : Dev} {core engine tag va n : Nat} {d : Dispatch} {w : Walk}
  (runs : (coreOf s core).disp = some n) (disp : tget s.disp n = some d) (canon : canonical va = true)
  (needed : neededWalk (coreOf s core) engine tag va = some w)
include runs disp canon needed

/-- A walk that the buffer of the island answers (R269). -/
theorem translationWalk_hit {p : Nat × Tlb} (hit : s.xl.l2.find? (fun p => p.1 == core / 4 && p.2.serves d.inst va w.access) = some p) :
    translationWalk s core engine tag va
      = endWalk (modCore s core (fun c => { c with tlb := tlbPut c.tlb engine 64 p.2 })) core tag w none := by
  have answer : walkFor s core d.inst va w.access = (s, .ok p.2) := by
    unfold walkFor
    rw [hit]
  have who : (coreOf s core).disp.bind (fun n => tget s.disp n) = some d := by
    rw [runs]
    exact disp
  unfold translationWalk
  dsimp only
  rw [who, needed]
  dsimp only
  rw [canon, if_neg (by decide), answer]

/-- The module after a walk that found no root: its counts. -/
def rootless (s : Dev) (i : Nat) : Dev := bump (bump s (Reg.TRN_CNT_L2_MISSES i)) (Reg.TRN_CNT_WALKS i)

theorem translationWalk_rootless (missed : s.xl.l2.find? (fun p => p.1 == core / 4 && p.2.serves d.inst va w.access) = none)
    (root : fget s (RF.TRN_ROOT_VALID d.inst) = 0) {u : Dev} {r : Nat}
    (opened : openFault (rootless s d.inst) d.inst core engine 1 4 w.access va = (u, .joined r)) :
    translationWalk s core engine tag va = endWalk u core tag w (some ⟨r, w.key, none⟩) := by
  have invalid : fget (rootless s d.inst) (RF.TRN_ROOT_VALID d.inst) = 0 := by
    unfold rootless
    rw [fget_bump_other _ _ _ (by show 0x170000 + 64 * d.inst ≠ 0x170010 + 64 * d.inst; omega),
      fget_bump_other _ _ _ (by show 0x170000 + 64 * d.inst ≠ 0x170018 + 64 * d.inst; omega), root]
  have answer : walkFor s core d.inst va w.access = (rootless s d.inst, .fault 1 4) := by
    unfold walkFor
    rw [missed]
    show (match walk (rootless s d.inst) d.inst va w.access with | (s, .ok t) => _ | r => r) = _
    unfold walk
    dsimp only
    rw [if_pos invalid]
  have who : (coreOf s core).disp.bind (fun n => tget s.disp n) = some d := by
    rw [runs]
    exact disp
  unfold translationWalk
  dsimp only
  rw [who, needed]
  dsimp only
  rw [canon, if_neg (by decide), answer]
  dsimp only
  rw [opened]

end

/-- The record that a walk of an instance opens (R277). -/
def openedRecord (s : Dev) (inst core engine cause level access va : Nat) : FltRec :=
  { inst := inst, island := core / 4, page := va / 4096, cause := cause, level := level, access := accessBit access
    engines := 2 ^ (4 * (core % 4) + engine), va := va, terminal := false, tick := s.time.base
    batch := fget s (RF.FLT_STATUS_NEXT_BATCH inst), index := fget s (RF.FLT_STATUS_OPEN_RECORDS inst), phase := 0 }

/-- A failed walk of a page that no record names opens one (R271, R273). -/
theorem openFault_opens (s : Dev) {inst core engine cause level access va : Nat} (ring : (fltOf s inst).ringSet = true)
    (room : fget s (RF.FLT_STATUS_OPEN_RECORDS inst) < 256) (fresh : ∀ p ∈ s.xl.recs, p.2.inst = inst → p.2.page ≠ va / 4096)
    (table : (s.xl.recs.filter (fun p => p.2.island == core / 4 && p.2.phase == 0)).length < 32) :
    ∃ u, openFault s inst core engine cause level access va = (u, .joined s.xl.nextRec) ∧ u.dram = s.dram ∧ u.cores = s.cores ∧ u.blocked = s.blocked
      ∧ tget u.xl.recs s.xl.nextRec = some (openedRecord s inst core engine cause level access va)
      ∧ fget u (RF.FLT_STATUS_OPEN_RECORDS inst) = fget s (RF.FLT_STATUS_OPEN_RECORDS inst) + 1 := by
  have none (f : FltRec → Bool) : tfindKey s.xl.recs (fun _ r =>
      (r.inst == inst && r.page == va / 4096 && r.cause == cause && r.island == core / 4 && !r.terminal) && f r) = none := by
    unfold tfindKey
    rw [Option.map_eq_none_iff, List.find?_eq_none]
    intro p mem hit
    have named := fresh p mem
    simp only [Bool.and_eq_true, beq_iff_eq] at hit
    exact named hit.1.1.1.1.1 hit.1.1.1.1.2
  obtain ⟨u, isU⟩ : ∃ u, u = (newRecord s inst (core / 4) cause level (accessBit access) (2 ^ (4 * (core % 4) + engine)) va false).1 := ⟨_, rfl⟩
  have made : newRecord s inst (core / 4) cause level (accessBit access) (2 ^ (4 * (core % 4) + engine)) va false = (u, s.xl.nextRec) := by
    rw [isU]
    unfold newRecord
    dsimp only
    rw [if_neg (by omega)]
  refine ⟨u, ?_, ?_⟩
  · unfold openFault
    dsimp only
    rw [ring, if_neg (by decide), none, none]
    dsimp only
    rw [if_neg (by omega), made]
  · rw [isU]
    unfold newRecord
    dsimp only
    rw [if_neg (by omega)]
    refine ⟨rfl, rfl, rfl, tget_tset_same _ _ _, ?_⟩
    unfold showStalled
    dsimp only
    rw [fget_fset_reg _ _ _ _ (by show 0x171008 + 64 * inst ≠ 0x170008 + 64 * inst; omega), fget_fset_same _ _ _ (Nat.le_of_ble_eq_true rfl)]
    show (fget s (RF.FLT_STATUS_OPEN_RECORDS inst) + 1) % 2 ^ 9 = _
    rw [Nat.mod_eq_of_lt (by omega)]

theorem fget_rootless (s : Dev) (i : Nat) {f : Fld} (other : f.off = Reg.FLT_STATUS i) : fget (rootless s i) f = fget s f := by
  unfold rootless
  rw [fget_bump_other _ _ _ (by rw [other]; show 0x171008 + 64 * i ≠ 0x170010 + 64 * i; omega),
    fget_bump_other _ _ _ (by rw [other]; show 0x171008 + 64 * i ≠ 0x170018 + 64 * i; omega)]

section
variable {s : State} {core engine tag va n : Nat} {d : Dispatch} {w : Walk} (free : s.dev.blocked = [])
  (runs : (coreOf s.dev core).disp = some n) (disp : tget s.dev.disp n = some d) (canon : canonical va = true) (group : 64 ≤ tag)
  (needed : neededWalk (coreOf s.dev core) engine tag va = some w)
include free runs disp canon group needed

/-- The first clause of O38. -/
theorem walk_hit {p : Nat × Tlb} (hit : s.dev.xl.l2.find? (fun p => p.1 == core / 4 && p.2.serves d.inst va w.access) = some p) :
    ∃ t, exec (.translationWalk core engine tag va) s = .next t ∧ SameMem s.dev t.dev ∧ SameCoresBut core s.dev t.dev
      ∧ (engine, p.2) ∈ (coreOf t.dev core).tlb
      ∧ (∀ g, tget (coreOf t.dev core).groups (tag - 64) = some g → ∀ v ∈ g.walks, v.va / 4096 = w.va / 4096 → v.engine ≠ w.engine)
      ∧ OnlyIn [] s t { s.dev with cores := t.dev.cores } := by
  have walked := translationWalk_hit runs disp canon needed hit
  obtain ⟨u, isU⟩ : ∃ u, u = modCore s.dev core (fun c => { c with tlb := tlbPut c.tlb engine 64 p.2 }) := ⟨_, rfl⟩
  rw [← isU] at walked
  obtain ⟨cores, shape⟩ : ∃ cores, translationWalk s.dev core engine tag va = { s.dev with cores := cores } := by
    rw [walked, isU]
    exact ⟨_, rfl⟩
  refine ⟨_, exec_translationWalk s core engine tag va (by rw [shape]; exact free), sameMem_finish (by rw [shape]), ?_, ?_, ?_, ?_⟩
  · intro j other
    rw [coreOf_finish, walked, endWalk_others _ _ _ _ _ other, isU, coreOf_modCore_other _ _ _ _ other]
  · rw [coreOf_finish, walked, endWalk_tlb _ _ group, isU, coreOf_modCore_same]
    exact mem_tlbPut _ _ (by decide) _
  · intro g there
    rw [coreOf_finish, walked] at there
    exact endWalk_walks u core group w _ g there
  · refine onlyIn_finish (by rw [shape]; rfl) ?_
    intro o _ _
    rw [shape]
    rfl

/-- The second clause of O38. -/
theorem walk_rootless (missed : s.dev.xl.l2.find? (fun p => p.1 == core / 4 && p.2.serves d.inst va w.access) = none)
    (root : fget s.dev (RF.TRN_ROOT_VALID d.inst) = 0) (ring : (fltOf s.dev d.inst).ringSet = true)
    (room : fget s.dev (RF.FLT_STATUS_OPEN_RECORDS d.inst) < 256)
    (fresh : ∀ p ∈ s.dev.xl.recs, p.2.inst = d.inst → p.2.page ≠ va / 4096)
    (table : (s.dev.xl.recs.filter (fun p => p.2.island == core / 4 && p.2.phase == 0)).length < 32) :
    ∃ (t : State) (r : FltRec), exec (.translationWalk core engine tag va) s = .next t ∧ SameMem s.dev t.dev ∧ SameCoresBut core s.dev t.dev
      ∧ tget t.dev.xl.recs s.dev.xl.nextRec = some r ∧ r.inst = d.inst ∧ r.island = core / 4 ∧ r.page = va / 4096 ∧ r.cause = 1 ∧ r.level = 4 ∧ r.phase = 0
      ∧ r.access = accessBit w.access ∧ r.batch = fget s.dev (RF.FLT_STATUS_NEXT_BATCH d.inst)
      ∧ (∀ g g', tget (coreOf s.dev core).groups (tag - 64) = some g → tget (coreOf t.dev core).groups (tag - 64) = some g' →
          g'.faults = g.faults ++ [⟨s.dev.xl.nextRec, w.key, none⟩] ∧ g'.run = g.run ∧ g'.gr = g.gr)
      ∧ fget t.dev (RF.FLT_STATUS_OPEN_RECORDS d.inst) = fget s.dev (RF.FLT_STATUS_OPEN_RECORDS d.inst) + 1 := by
  have ownBits := fget_rootless s.dev d.inst (f := RF.FLT_STATUS_OPEN_RECORDS d.inst) rfl
  have batch := fget_rootless s.dev d.inst (f := RF.FLT_STATUS_NEXT_BATCH d.inst) rfl
  obtain ⟨u, opened, dram, cores, blocked, record, count⟩ := openFault_opens (core := core) (engine := engine) (cause := 1) (level := 4)
    (access := w.access) (va := va) (rootless s.dev d.inst) ring (by rwa [ownBits]) fresh table
  have walked := translationWalk_rootless runs disp canon needed missed root opened
  obtain ⟨after, shape⟩ := endWalk_cores u core tag w (some ⟨(rootless s.dev d.inst).xl.nextRec, w.key, none⟩)
  have own : coreOf u core = coreOf s.dev core := coreOf_congr cores core
  refine ⟨_, openedRecord (rootless s.dev d.inst) d.inst core engine 1 4 w.access va,
    exec_translationWalk s core engine tag va (by rw [walked, shape]; exact blocked.trans free), sameMem_finish ?_, ?_, ?_, rfl, rfl, rfl, rfl, rfl, rfl, rfl, batch, ?_, ?_⟩
  · rw [walked, shape]
    exact dram
  · intro j other
    rw [coreOf_finish, walked, endWalk_others _ _ _ _ _ other]
    exact coreOf_congr cores j
  · rw [finish_xl, walked, shape]
    exact record
  · intro g g' before after
    rw [coreOf_finish, walked, endWalk_group u core group w _ g (by rw [own]; exact before)] at after
    cases after
    exact ⟨rfl, rfl, rfl⟩
  · rw [fget_finish _ _ (by show 0x171008 + 64 * d.inst ≠ 0x150000; omega), walked, shape]
    exact count.trans (by rw [ownBits])

end

/-- Settles O38: a walk is answered from the island's buffer or, without a root, by a new record of the open batch; a batch that is written lies in the
memory of a host, so that the module's own memory keeps what it holds. -/
theorem walksAndFaultBatches : Obligations.WalksAndFaultBatches := by
  unfold Obligations.WalksAndFaultBatches
  intro s
  refine ⟨?_, ?_, ?_⟩
  · intro core engine tag va n d w free runs disp _ canon engines group needed
    exact ⟨fun p hit => walk_hit free runs disp canon group needed hit,
      fun missed root ring room fresh table => walk_rootless free runs disp canon group needed missed root ring room fresh table⟩
  · rintro i b - opened rfl
    exact exec_faultBatchClose s i opened
  · rintro i b f known free closed rfl ring room within
    obtain ⟨dram, -, recs, flt, count⟩ := writeBatch_leaves s.dev known b within
    refine ⟨_, exec_faultBatchWrite s known free closed ring room within, sameMem_finish dram, ⟨?_, ?_⟩, ?_⟩
    · exact flt
    · rw [regRead_finish _ _ (by show 0x171010 + 64 * i ≠ 0x150000; omega)]
      exact count
    · intro n r there
      rw [finish_xl, recs, tget_tmap, there]
      rfl

end Sys2Proof.Machine
end

section
/-!
SUPPORT. What accesses to memory leave alone (chapters 08 to 10): the front end, the instances, the cores, the clocks, power, the host's state, and every
register but their own counters and states.
-/
namespace Sys2Proof.Machine

/-! ### The frame -/

/-- The registers that an access to memory may change. -/
def trafficRegs : List Nat :=
  (List.range 44).map Reg.SHC_SLICE_STATUS
    ++ [Reg.SHC_CNT_HITS, Reg.SHC_CNT_MISSES, Reg.SHC_CNT_WRITEBACKS, Reg.SHC_CNT_BACK_INVALIDATES, Reg.SHC_CNT_RACE_QUEUED, Reg.SHC_CNT_LOST_DIRTY,
      Reg.SHC_CNT_POISON_READS, Reg.MEM_CNT_LINK_RETRIES, Reg.MEM_CNT_RMW, Reg.MEM_CNT_WCB_MERGES, Reg.MEM_CNT_HOLE_WRITES, Reg.MEM_CNT_UNMAPPED,
      Reg.BRG_CNT_REFETCHES, Reg.BRG_CNT_REFETCH_FAILS, Reg.HST_CNT_BI_SENT, Reg.HST_CNT_POISON_SENT]
    ++ txRegs ++ logRegs

/-- What accesses to memory leave alone. -/
structure Traffic (s t : Dev) : Prop where
  regs : SameRegsBut trafficRegs s t
  rest : t = { s with
    regs := t.regs, free := t.free, nextReq := t.nextReq, shore := t.shore, mem := t.mem, dram := t.dram, blocked := t.blocked, log := t.log
    out := t.out, traces := t.traces, traceQ := t.traceQ, fe := { s.fe with wakes := t.fe.wakes }, fab := fabSent t s.fab
    flash := { s.flash with romLog := t.flash.romLog } }

namespace Traffic

theorem refl (s : Dev) : Traffic s s := ⟨fun _ _ _ => rfl, rfl⟩

theorem trans {s t u : Dev} (h : Traffic s t) (k : Traffic t u) : Traffic s u := by
  refine ⟨fun o others shc => (k.regs o others shc).trans (h.regs o others shc), ?_⟩
  rw [k.rest, h.rest]
  rfl

/-- One step of two. -/
theorem ite {s a b : Dev} {c : Prop} [Decidable c] (yes : Traffic s a) (no : Traffic s b) : Traffic s (if c then a else b) := by
  split
  · exact yes
  · exact no

/-- A list of steps. -/
theorem foldl {α : Type} {f : Dev → α → Dev} (step : ∀ t a, Traffic t (f t a)) (l : List α) (s : Dev) : Traffic s (l.foldl f s) :=
  List.foldlRecOn (motive := Traffic s) _ _ (.refl s) (fun t before a _ => before.trans (step t a))

end Traffic

theorem traffic_regWrite (s : Dev) {o : Nat} (v : Nat) (named : o ∈ trafficRegs) : Traffic s (regWrite s o v) :=
  ⟨fun _ others _ => regRead_regWrite_other _ _ _ _ (fun own => others (own ▸ named)), rfl⟩

theorem traffic_bump (s : Dev) {o : Nat} (named : o ∈ trafficRegs) : Traffic s (bump s o) := traffic_regWrite s _ named

theorem OnlySent.traffic {s t : Dev} (h : OnlySent s t) : Traffic s t := by
  obtain ⟨regs, rest, -⟩ := h
  refine ⟨fun o others shc => regs o (fun named => others ?_) shc, ?_⟩
  · exact List.mem_append_left _ (List.mem_append_right _ named)
  · rw [rest]
    rfl

theorem OnlyLog.traffic {s t : Dev} (h : OnlyLog s t) : Traffic s t := by
  obtain ⟨regs, rest⟩ := h.and []
  refine ⟨fun o others shc => regs o (fun named => others (List.mem_append_right _ named)) shc, ?_⟩
  rw [rest]
  rfl

theorem traffic_logEvent (s : Dev) {o : Nat} (addr : Nat) (named : o ∈ trafficRegs) : Traffic s (logEvent s o addr) := by
  unfold logEvent
  exact (traffic_bump s named).trans (onlyLog_logFw _ _ _ _ _).traffic

/-! ### Controllers (R235 to R247) -/

theorem traffic_takeFree (s : Dev) : Traffic s (takeFree s).2 := ⟨fun _ _ _ => rfl, rfl⟩

theorem traffic_touchChannel (s : Dev) (pa id : Nat) (device : Bool) : Traffic s (touchChannel s pa id device) := ⟨fun _ _ _ => rfl, rfl⟩

theorem setBits_own (x lo w : Nat) : setBits x lo w (bitsOf x lo w) = x := by
  refine Nat.eq_of_testBit_eq (fun i => ?_)
  rw [testBit_setBits]
  split
  · next within =>
    unfold bitsOf
    rw [Nat.testBit_mod_two_pow, Nat.testBit_div_two_pow]
    have : i - lo + lo = i := by omega
    rw [this]
    simp only [Bool.and_eq_right_iff_imp, decide_eq_true_eq]
    omega
  · rfl

theorem regRead_fset_own (s : Dev) (f : Fld) (o : Nat) : regRead (fset s f (fget s f)) o = regRead s o := by
  by_cases here : o = f.off
  · have small : regRead s f.off < 2 ^ 64 := BitVec.isLt _
    rw [here]
    unfold fset fget
    rw [setBits_own, regRead_regWrite_same, Nat.mod_eq_of_lt small]
  · exact regRead_fset_other _ _ _ _ here

theorem regRead_fsat_zero (s : Dev) (f : Fld) (o : Nat) : regRead (fsat s f 0) o = regRead s o := by
  have small := fget_lt s f
  have own : min (fget s f + 0) (2 ^ f.width - 1) = fget s f := by omega
  unfold fsat
  rw [own]
  exact regRead_fset_own s f o

theorem traffic_countRetries (s : Dev) (id : Nat) : Traffic s (countRetries s id 0) := by
  have named : Reg.MEM_CNT_LINK_RETRIES ∈ trafficRegs := by decide
  have regs : SameRegsBut trafficRegs s (countRetries s id 0) := by
    intro o others _
    unfold countRetries
    rw [regRead_fsat_zero]
    exact regRead_regWrite_other _ _ _ _ (fun own => others (own ▸ named))
  obtain ⟨r, shape⟩ := countRetries_shape s id 0
  rw [shape] at regs ⊢
  exact ⟨regs, rfl⟩

theorem traffic_wcbDrop (s : Dev) (id sec : Nat) : Traffic s (wcbDrop s id sec) := by
  unfold wcbDrop
  exact .ite ⟨fun _ _ _ => rfl, rfl⟩ (.refl s)

theorem traffic_withDram (s : Dev) (d : Dram) : Traffic s { s with dram := d } := ⟨fun _ _ _ => rfl, rfl⟩

theorem traffic_wcbRetire (s : Dev) (id : Nat) (w : WcbEntry) : Traffic s (wcbRetire s id w) :=
  ((traffic_withDram s _).trans (traffic_wcbDrop _ id w.sec)).trans (traffic_bump _ (by decide))

theorem traffic_setWcb (s : Dev) (id : Nat) (l : List WcbEntry) : Traffic s (setWcb s id l) := ⟨fun _ _ _ => rfl, rfl⟩

theorem traffic_wcbWrite (s : Dev) (id sec : Nat) (mask : BitVec 32) (data : BitVec 256) : Traffic s (wcbWrite s id sec mask data) := by
  unfold wcbWrite
  split
  · exact (traffic_bump s (o := Reg.MEM_CNT_WCB_MERGES) (by decide)).trans
      (.ite ((traffic_wcbDrop _ id sec).trans (traffic_withDram _ _)) (traffic_setWcb _ _ _))
  · refine Traffic.trans ?_ (traffic_setWcb _ _ _)
    split
    · exact .refl s
    · exact .ite (traffic_wcbRetire s id _) (.refl s)

/-- A sector read in which no new error is found. -/
theorem traffic_ctlSector (s : Dev) (id sec : Nat) (device : Bool) : Traffic s (ctlSector s id sec .clean 0 device).1 := by
  unfold ctlSector
  split
  · exact traffic_takeFree s
  · have reached : Traffic s (countRetries (touchChannel s (32 * sec) id device) id (min 0 3)) :=
      (traffic_touchChannel s _ _ _).trans (traffic_countRetries _ id)
    dsimp only
    rw [if_neg (by decide)]
    split
    · exact reached.trans (traffic_wcbRetire _ _ _)
    · exact reached

theorem traffic_ctlRead (s : Dev) (sec : Nat) : Traffic s (ctlRead s sec .clean 0 .clean).1 := by
  have refetches : Reg.BRG_CNT_REFETCHES ∈ trafficRegs := by decide
  have fails : Reg.BRG_CNT_REFETCH_FAILS ∈ trafficRegs := by decide
  unfold ctlRead
  split
  · exact traffic_takeFree s
  · next id _ =>
    have first := traffic_ctlSector s id sec false
    dsimp only
    split
    · exact first
    · split
      · exact first
      · next cl _ =>
        split
        · exact first.trans (traffic_bump _ fails)
        · next cid _ =>
          have second := first.trans (traffic_ctlSector _ cid (2 * cl + sec % 2) false)
          split
          · exact (second.trans (.ite (.refl _) (traffic_withDram _ _))).trans (traffic_logEvent _ _ refetches)
          · exact second.trans (traffic_bump _ fails)

theorem traffic_ctlWriteHalf (s : Dev) (id : Nat) (w : MemWr) (h : Nat) : Traffic s (ctlWriteHalf s id w h) := by
  have written : Traffic s (
      if BitVec.ofNat 32 (w.mask.toNat / 2 ^ (32 * h)) = 0 then s
      else if BitVec.ofNat 32 (w.mask.toNat / 2 ^ (32 * h)) = 0xFFFFFFFF then
        { wcbDrop s id (2 * w.line + h) with dram := dramSetPoison (dramMerge (wcbDrop s id (2 * w.line + h)).dram (2 * w.line + h)
            (BitVec.ofNat 32 (w.mask.toNat / 2 ^ (32 * h))) (halfOf w.data h)) (2 * w.line + h) (w.poison.getLsbD h) }
      else wcbWrite s id (2 * w.line + h) (BitVec.ofNat 32 (w.mask.toNat / 2 ^ (32 * h))) (halfOf w.data h)) :=
    .ite (.refl s) (.ite ((traffic_wcbDrop s _ _).trans (traffic_withDram _ _)) (traffic_wcbWrite s _ _ _ _))
  unfold ctlWriteHalf
  exact .ite (written.trans (traffic_withDram _ _)) written

theorem traffic_ctlWriteChan (s : Dev) (id : Nat) (w : MemWr) : Traffic s (ctlWriteChan s id w) := by
  have holes : Reg.MEM_CNT_HOLE_WRITES ∈ trafficRegs := by decide
  have written : Traffic s (ctlWriteHalf (ctlWriteHalf (touchChannel s (64 * w.line) id false) id w 0) id w 1) :=
    ((traffic_touchChannel s _ _ _).trans (traffic_ctlWriteHalf _ _ _ _)).trans (traffic_ctlWriteHalf _ _ _ _)
  unfold ctlWriteChan
  refine .ite (traffic_bump s holes) ?_
  dsimp only
  split
  · exact written
  · exact written.trans (traffic_withDram _ _)

theorem traffic_countUnmapped (s : Dev) (pa : Nat) : Traffic s (countUnmapped s pa) := by
  have named : Reg.MEM_CNT_UNMAPPED ∈ trafficRegs := by decide
  exact .ite (traffic_logEvent s _ named) (traffic_bump s named)

theorem traffic_ctlWrite (s : Dev) (w : MemWr) : Traffic s (ctlWrite s w 0 false) := by
  unfold ctlWrite
  split
  · exact traffic_countUnmapped s _
  · next id _ =>
    have reached : Traffic s (if isHole s id then s else countRetries s id 0) := .ite (.refl s) (traffic_countRetries s id)
    have written := reached.trans (traffic_ctlWriteChan _ id w)
    dsimp only
    split
    · exact written
    · split
      · exact written.trans (traffic_ctlWriteChan _ _ _)
      · exact written

theorem traffic_drainWrites (s : Dev) (line : Nat) : Traffic s (drainWrites s line) := by
  have taken : Traffic s { s with mem := { s.mem with writes := s.mem.writes.filter (fun w => w.line != line) } } := ⟨fun _ _ _ => rfl, rfl⟩
  exact taken.trans (.foldl (fun t w => traffic_ctlWrite t w) _ _)

theorem traffic_queueWrite (s : Dev) (w : MemWr) : Traffic s (queueWrite s w) := ⟨fun _ _ _ => rfl, rfl⟩

/-! ### Lines of the slices (R208 to R213) -/

theorem traffic_putLine (s : Dev) (k : Nat) (l : Line) : Traffic s (putLine s k l) := ⟨fun _ _ _ => rfl, rfl⟩

theorem traffic_dropLine (s : Dev) (k : Nat) : Traffic s (dropLine s k) := ⟨fun _ _ _ => rfl, rfl⟩

theorem traffic_withOut (s : Dev) (l : List Out) : Traffic s { s with out := l } := ⟨fun _ _ _ => rfl, rfl⟩

theorem traffic_withShore (s : Dev) (x : Shore) : Traffic s { s with shore := x } := ⟨fun _ _ _ => rfl, rfl⟩

theorem traffic_withBlocked (s : Dev) (l : List (Nat × Nat)) : Traffic s { s with blocked := l } := ⟨fun _ _ _ => rfl, rfl⟩

theorem traffic_nextReq (s : Dev) (n : Nat) : Traffic s { s with nextReq := n } := ⟨fun _ _ _ => rfl, rfl⟩

theorem traffic_sendWake (s : Dev) (k : Nat) : Traffic s (sendWake s k) := by
  unfold sendWake
  split
  · exact ⟨fun _ _ _ => rfl, rfl⟩
  · exact .refl s

theorem sliceStatus_traffic (s : Dev) (k : Nat) : Reg.SHC_SLICE_STATUS (sliceOf s k) ∈ trafficRegs := by
  refine List.mem_append_left _ (List.mem_append_left _ (List.mem_append_left _ ?_))
  exact List.mem_map_of_mem (List.mem_range.mpr (sliceOf_lt s k))

theorem traffic_storeHomeLine (s : Dev) (k : Nat) (l : Line) : Traffic s (storeHomeLine s k l) := by
  unfold storeHomeLine
  refine Traffic.trans ?_ (traffic_putLine _ _ _)
  refine .ite (traffic_sendWake s k) ((traffic_sendWake s k).trans (Traffic.trans ?_ (traffic_queueWrite _ _)))
  exact traffic_regWrite _ _ (sliceStatus_traffic s k)

theorem traffic_cleanHomeLine (s : Dev) (k : Nat) (l : Line) : Traffic s (cleanHomeLine s k l) := by
  have writeBacks : Reg.SHC_CNT_WRITEBACKS ∈ trafficRegs := by decide
  unfold cleanHomeLine
  refine .ite (Traffic.trans ?_ (traffic_queueWrite _ _)) (.refl s)
  exact ((traffic_regWrite s _ (sliceStatus_traffic s k)).trans (traffic_bump _ writeBacks)).trans (traffic_putLine _ _ _)

theorem traffic_sendFab (s : Dev) (d tag offset : Nat) (poison : Bool) (b : FabBody) : Traffic s (sendFab s d tag offset poison b) :=
  (routeMsg_sends s _).1.traffic

theorem traffic_sendCoh (s : Dev) (m line : Nat) (op : CohOp) (third tag : Nat) (data : Option LineData) :
    Traffic s (sendCoh s m line op third tag data) := traffic_sendFab s _ _ _ _ _

theorem traffic_tellAgent (s : Dev) (agent : Nat) (op : CohOp) (k third : Nat) : Traffic s (tellAgent s agent op k third) := by
  have sent : Reg.HST_CNT_BI_SENT ∈ trafficRegs := by decide
  unfold tellAgent
  split
  · exact (traffic_withOut s _).trans (traffic_bump _ sent)
  · exact traffic_sendCoh s _ _ _ _ _ _

theorem traffic_countSent (s : Dev) (d : Option LineData) : Traffic s (countSent s d) := by
  have sent : Reg.HST_CNT_POISON_SENT ∈ trafficRegs := by decide
  unfold countSent
  split
  · exact .ite (.refl s) (traffic_bump s sent)
  · exact .refl s

theorem traffic_evictLine (s : Dev) (k : Nat) (l : Line) : Traffic s (evictLine s k l) := by
  unfold evictLine
  split
  · exact (traffic_cleanHomeLine s k l).trans (traffic_dropLine _ k)
  · exact .refl s
  · refine (traffic_dropLine s k).trans ?_
    dsimp only
    split
    · exact .ite (.refl _) (traffic_sendCoh _ _ _ _ _ _ _)
    · exact .ite (.refl _) ((traffic_withOut _ _).trans (traffic_countSent _ _))
    · exact .refl _

/-! ### The directory (R220 to R227) -/

theorem traffic_traceDir (s : Dev) (owner entry : Nat) : Traffic s (traceDir s owner entry) := by
  have same : SameButTraces s (traceDir s owner entry) := by
    unfold traceDir
    refine List.foldlRecOn (motive := SameButTraces s) _ _ rfl (fun t same n _ => ?_)
    split
    · split
      · exact same.traceAdd n _
      · exact same
    · exact same
  unfold SameButTraces at same
  rw [same]
  exact ⟨fun _ _ _ => rfl, rfl⟩

theorem traffic_setEntry (s : Dev) (k : Nat) (e : Option DirEntry) : Traffic s (setEntry s k e) := by
  have traced := traffic_traceDir s (ownerOf s (k / 2 ^ 15)) (dirWord k (thas s.shore.txn k) e)
  unfold setEntry
  generalize traceDir s (ownerOf s (k / 2 ^ 15)) (dirWord k (thas s.shore.txn k) e) = u at traced ⊢
  dsimp only
  refine traced.trans ?_
  split
  · split
    · exact (traffic_putLine _ _ _).trans (traffic_withShore _ _)
    · exact traffic_withShore _ _
  · split
    · exact (traffic_putLine _ _ _).trans (traffic_withShore _ _)
    · exact traffic_withShore _ _

theorem traffic_startTxn (s : Dev) (k : Nat) (t : Txn) (tell : Nat → CohOp) (third : Nat) : Traffic s (startTxn s k t tell third) := by
  have named : Reg.SHC_CNT_BACK_INVALIDATES ∈ trafficRegs := by decide
  unfold startTxn
  refine (traffic_withShore s _).trans (.foldl (fun u a => ?_) _ _)
  exact (traffic_tellAgent u a (tell a) k third).trans (.ite (.refl _) (traffic_bump _ named))

theorem traffic_startFree (s : Dev) (k : Nat) : Traffic s (startFree s k) := by
  unfold startFree
  split
  · exact .ite (traffic_setEntry s _ _) (traffic_startTxn s _ _ _ _)
  · exact .refl s

theorem traffic_homeAccess (s : Dev) (k : Nat) (write : Bool) : Traffic s (homeAccess s k write).1 := by
  unfold homeAccess
  split
  · exact .refl s
  · exact .refl s
  · split
    · split
      · exact traffic_setEntry s k none
      · exact traffic_startTxn s _ _ _ _
    · split
      · exact traffic_startTxn s _ _ _ _
      · exact .refl s

theorem traffic_startFill (s : Dev) (k : Nat) : Traffic s (startFill s k) := by
  have named : Reg.SHC_CNT_MISSES ∈ trafficRegs := by decide
  exact .ite (.refl s) ((traffic_withShore s _).trans (traffic_bump _ named))

theorem traffic_makeRoom (s : Dev) (k : Nat) : Traffic s (makeRoom s k).1 := by
  unfold makeRoom
  dsimp only
  split
  · exact .refl s
  · split
    · exact traffic_evictLine s _ _
    · split
      · exact traffic_startFree s _
      · exact .refl s

theorem traffic_finishFill (s : Dev) (k : Nat) (lo hi : FillHalf) : Traffic s (finishFill s k lo hi).1 := by
  have named : Reg.SHC_CNT_LOST_DIRTY ∈ trafficRegs := by decide
  have room := traffic_makeRoom s k
  unfold finishFill
  dsimp only
  split
  · exact room
  · have taken := room.trans (traffic_withShore (makeRoom s k).1 { (makeRoom s k).1.shore with fills := tdel (makeRoom s k).1.shore.fills k })
    exact (taken.trans (.ite ((traffic_bump _ named).trans (traffic_queueWrite _ _)) (.refl _))).trans (traffic_putLine _ _ _)

theorem traffic_readHalf (s : Dev) (sec : Nat) : Traffic s (readHalf s sec).1 := traffic_ctlRead s sec

theorem traffic_lineNow (s : Dev) (k : Nat) : Traffic s (lineNow s k).1 := by
  unfold lineNow
  split
  · exact .refl s
  · dsimp only
    split
    · exact traffic_countUnmapped s _
    · have filled := (((traffic_drainWrites s k).trans (traffic_readHalf _ (2 * k))).trans (traffic_readHalf _ (2 * k + 1))).trans
        (traffic_finishFill _ k (readHalf (drainWrites s k) (2 * k)).2 (readHalf (readHalf (drainWrites s k) (2 * k)).1 (2 * k + 1)).2)
      split
      · exact filled
      · exact filled.trans (traffic_withBlocked _ _)

theorem traffic_takeHalf (s : Dev) (k : Nat) (l : Line) (h : Nat) : Traffic s (takeHalf s k l h).1 := by
  have named : Reg.SHC_CNT_POISON_READS ∈ trafficRegs := by decide
  unfold takeHalf
  dsimp only
  split
  · exact .refl s
  · exact (traffic_putLine s _ _).trans (traffic_bump _ named)

theorem traffic_settleBypass (s : Dev) (k : Nat) : Traffic s (settleBypass s k) := by
  unfold settleBypass
  refine .ite ?_ (.refl s)
  split
  · exact .ite (.refl s) (traffic_evictLine s _ _)
  · exact .refl s

/-! ### Accesses at a visibility point (R184, R185, R195) -/

theorem traffic_pendingWrite (s : Dev) (k h : Nat) (mask : BitVec 32) (data : BitVec 256) (poison : Bool) {ask : Dev → Bool → Dev}
    (asks : ∀ t held, Traffic t (ask t held)) : Traffic s (pendingWrite s k h mask data poison ask) := by
  have woken := traffic_sendWake s k
  unfold pendingWrite
  dsimp only
  split
  · split
    · exact woken.trans (traffic_putLine _ _ _)
    · exact woken.trans (traffic_putLine _ _ _)
    · exact (woken.trans (traffic_putLine _ _ _)).trans (asks _ _)
  · exact (woken.trans (traffic_putLine _ _ _)).trans (asks _ _)

theorem traffic_askOwn (m k : Nat) (s : Dev) (held : Bool) : Traffic s (askOwn m k s held) := by
  unfold askOwn
  refine .ite (.refl s) ?_
  exact ((traffic_nextReq s _).trans (traffic_sendCoh _ _ _ _ _ _ _)).trans (traffic_withShore _ _)

theorem traffic_askHostOwn (k : Nat) (s : Dev) (held : Bool) : Traffic s (askHostOwn k s held) := by
  unfold askHostOwn
  exact .ite (.refl s) ⟨fun _ _ _ => rfl, rfl⟩

theorem traffic_sendWrites (s : Dev) (d tag offset : Nat) (mask : BitVec 32) (data : BitVec 256) (poison : Bool) :
    Traffic s (sendWrites s d tag offset mask data poison) := .foldl (fun t _ => traffic_sendFab t _ _ _ _ _) _ _

theorem traffic_acceptWrite (s : Dev) (sec : Nat) (mask : BitVec 32) (data : BitVec 256) (poison direct now : Bool) :
    Traffic s (acceptWrite s sec mask data poison direct now).1 := by
  have hits : Reg.SHC_CNT_HITS ∈ trafficRegs := by decide
  have sent : Reg.HST_CNT_POISON_SENT ∈ trafficRegs := by decide
  unfold acceptWrite
  dsimp only
  split
  · generalize (if isLocal (sec / 2) = true then sec / 2 else addrAt (sec / 2) / 64) = k
    have asked := traffic_homeAccess s k true
    split
    · exact .ite (asked.trans (traffic_withBlocked _ _)) asked
    · refine asked.trans ?_
      split
      · exact ((traffic_bump _ hits).trans (traffic_storeHomeLine _ _ _)).trans (traffic_settleBypass _ _)
      · split
        · exact traffic_countUnmapped _ _
        · split
          · exact (traffic_sendWake _ _).trans (traffic_queueWrite _ _)
          · split
            · have filled := traffic_lineNow (homeAccess s k true).1 k
              split
              · next found =>
                rw [found] at filled
                exact filled.trans (traffic_storeHomeLine _ _ _)
              · next found =>
                rw [found] at filled
                exact filled
            · exact traffic_startFill _ _
  · split
    · exact traffic_pendingWrite s _ _ _ _ _ (traffic_askOwn _ _)
    · exact .refl s
  · split
    · split
      · split
        · exact (traffic_sendWake s _).trans (traffic_putLine _ _ _)
        · exact traffic_pendingWrite s _ _ _ _ _ (traffic_askHostOwn _)
      · exact traffic_pendingWrite s _ _ _ _ _ (traffic_askHostOwn _)
    · exact .refl s
  · split
    · exact (traffic_nextReq s _).trans (traffic_sendWrites _ _ _ _ _ _ _)
    · exact .refl s
  · split
    · exact .ite ((traffic_withOut s _).trans (traffic_bump _ sent)) (traffic_withOut s _)
    · exact .refl s

theorem traffic_openRead (s : Dev) : Traffic s (devReadSec.openRead s).1 := traffic_takeFree s

theorem traffic_devReadSec (s : Dev) (sec : Nat) : Traffic s (devReadSec s sec).1 := by
  unfold devReadSec
  dsimp only
  split
  · generalize (if isLocal (sec / 2) = true then sec / 2 else addrAt (sec / 2) / 64) = k
    have asked := traffic_homeAccess s k false
    split
    · exact asked.trans (traffic_withBlocked _ _)
    · refine asked.trans ?_
      have filled := traffic_lineNow (homeAccess s k false).1 k
      split
      · next found =>
        rw [found] at filled
        exact filled.trans (traffic_takeHalf _ _ _ _)
      · next found =>
        rw [found] at filled
        exact filled
  · split
    · exact traffic_openRead s
    · exact .refl s
  · split
    · exact (traffic_withOut s _).trans (traffic_openRead _)
    · exact .refl s
  · split
    · split
      · exact traffic_openRead s
      · exact traffic_takeHalf s _ _ _
    · split
      · exact traffic_openRead s
      · exact .refl s
  · split
    · split
      · exact traffic_openRead s
      · exact traffic_takeHalf s _ _ _
    · split
      · exact traffic_openRead s
      · exact .refl s

theorem traffic_devReadGo (f : Nat) (s : Dev) (loc n : Nat) : Traffic s (devRead.go s loc n f).1 := by
  induction f generalizing s loc n with
  | zero => exact .refl s
  | succ f ih =>
    unfold devRead.go
    split
    · exact .refl s
    · exact (traffic_devReadSec s _).trans (ih _ _ _)

theorem traffic_devRead (s : Dev) (loc n : Nat) : Traffic s (devRead s loc n).1 := by
  cases n with
  | zero => exact .refl s
  | succ n => exact traffic_devReadGo _ s loc _

theorem traffic_devWriteGo (f : Nat) (s : Dev) (loc : Nat) (bytes : List Byte) : Traffic s (devWriteGo s loc bytes f).1 := by
  induction f generalizing s loc bytes with
  | zero => exact .refl s
  | succ f ih =>
    unfold devWriteGo
    split
    · exact .refl s
    · exact (traffic_acceptWrite s _ _ _ _ _ _).trans (ih _ _ _)

theorem traffic_devWrite (s : Dev) (loc : Nat) (bytes : List Byte) : Traffic s (devWrite s loc bytes).1 := traffic_devWriteGo _ s loc bytes

/-! ### Accesses by virtual address (R264 to R270) -/

/-- What accesses to memory and walks of an instance leave alone. -/
structure TrafficOf (i : Nat) (s t : Dev) : Prop where
  regs : SameRegsBut (Reg.TRN_CNT_WALKS i :: trafficRegs) s t
  rest : t = { s with
    regs := t.regs, free := t.free, nextReq := t.nextReq, shore := t.shore, mem := t.mem, dram := t.dram, blocked := t.blocked, log := t.log
    out := t.out, traces := t.traces, traceQ := t.traceQ, fe := { s.fe with wakes := t.fe.wakes }, fab := fabSent t s.fab
    flash := { s.flash with romLog := t.flash.romLog } }

theorem Traffic.of {s t : Dev} (h : Traffic s t) (i : Nat) : TrafficOf i s t :=
  ⟨fun o others shc => h.regs o (fun named => others (List.mem_cons_of_mem _ named)) shc, h.rest⟩

theorem TrafficOf.refl (i : Nat) (s : Dev) : TrafficOf i s s := (Traffic.refl s).of i

theorem TrafficOf.trans {i : Nat} {s t u : Dev} (h : TrafficOf i s t) (k : TrafficOf i t u) : TrafficOf i s u := by
  refine ⟨fun o others shc => (k.regs o others shc).trans (h.regs o others shc), ?_⟩
  rw [k.rest, h.rest]
  rfl

theorem traffic_walkGo (s : Dev) (inst va access : Nat) (t64 : Bool) (table level : Nat) {below : Dev → Nat → Dev × WalkRes}
    (lower : ∀ t e, Traffic t (below t e).1) : Traffic s (walkFrom.go inst va access t64 table level s below).1 := by
  have read := traffic_devRead s (table + 8 * tableIndex level t64 va) 8
  unfold walkFrom.go
  dsimp only
  split
  · exact read
  · split
    · exact read
    · split
      · exact read
      · split
        · split
          · exact read
          · split
            · exact read
            · split
              · exact read
              · exact read
        · split
          · exact read
          · exact read.trans (lower _ _)

theorem traffic_walkFrom (n : Nat) (s : Dev) (inst va access : Nat) (t64 : Bool) (table : Nat) :
    Traffic s (walkFrom s inst va access t64 table n).1 := by
  induction n generalizing s t64 table with
  | zero => exact traffic_walkGo s _ _ _ _ _ _ (fun t _ => .refl t)
  | succ n ih => exact traffic_walkGo s _ _ _ _ _ _ (fun t e => ih t _ _)

theorem traffic_walk (s : Dev) (inst va access : Nat) : Traffic s (walk s inst va access).1 := by
  unfold walk
  dsimp only
  split
  · exact .refl s
  · split
    · exact .refl s
    · exact traffic_walkFrom 4 s _ _ _ _ _

theorem trafficOf_feTranslate (s : Dev) (i va access : Nat) : TrafficOf i s (feTranslate s i va access).1 := by
  have counted : TrafficOf i s (bump s (Reg.TRN_CNT_WALKS i)) :=
    ⟨fun o others _ => regRead_bump_other _ _ _ (List.ne_of_not_mem_cons others), rfl⟩
  have walked := counted.trans ((traffic_walk (bump s (Reg.TRN_CNT_WALKS i)) i va access).of i)
  unfold feTranslate
  split
  · exact .refl i s
  · dsimp only
    split
    · exact walked
    · exact walked
    · exact walked.trans ((traffic_withBlocked _ _).of i)
    · exact walked

theorem trafficOf_vaReadN (f : Nat) (s : Dev) (i va n : Nat) : TrafficOf i s (vaReadN s i va n f).1 := by
  induction f generalizing s va n with
  | zero => exact .refl i s
  | succ f ih =>
    have walked := trafficOf_feTranslate s i va 0
    unfold vaReadN
    split
    · exact .refl i s
    · dsimp only
      split
      · next found =>
        rw [found] at walked
        exact walked
      · next u loc found =>
        rw [found] at walked
        have read := walked.trans ((traffic_devRead u loc (min n (4096 - va % 4096))).of i)
        split
        · exact read
        · exact read.trans (ih _ _ _)

theorem trafficOf_vaRead (s : Dev) (i va n : Nat) : TrafficOf i s (vaRead s i va n).1 := trafficOf_vaReadN _ s i va n

theorem trafficOf_vaWriteN (f : Nat) (s : Dev) (i va : Nat) (b : List Byte) : TrafficOf i s (vaWriteN s i va b f).1 := by
  induction f generalizing s va b with
  | zero => exact .refl i s
  | succ f ih =>
    have walked := trafficOf_feTranslate s i va 1
    unfold vaWriteN
    split
    · exact .refl i s
    · dsimp only
      split
      · next found =>
        rw [found] at walked
        exact walked
      · next u loc found =>
        rw [found] at walked
        have written := walked.trans ((traffic_devWrite u loc (b.take (min b.length (4096 - va % 4096)))).of i)
        split
        · exact written
        · exact written.trans (ih _ _ _)

theorem trafficOf_vaWrite (s : Dev) (i va : Nat) (b : List Byte) : TrafficOf i s (vaWrite s i va b).1 := trafficOf_vaWriteN _ s i va b

/-- A command that is run whole does no more than it and what it waits for do. -/
theorem Traffic.whole {s : Dev} {f : Dev → Dev} : Traffic s (Machine.whole s f) ∨ Machine.whole s f = f s := by
  unfold Machine.whole
  dsimp only
  split
  · exact .inr rfl
  · refine .inl (.foldl (fun t p => ?_) _ _)
    split
    · exact traffic_startFree t _
    · split
      · exact traffic_makeRoom t _
      · split
        · exact .refl t
        · exact traffic_homeAccess t _ _

end Sys2Proof.Machine
end

section
/-!
SUPPORT. Journal records as they are written (R321 to R325): what a write of one leaves of the journal and of SES_JNL_STATUS.
-/
namespace Sys2Proof.Machine

/-! ### Commands over a module that accesses left -/

/-- An end is judged by the rings and the store alone of what was before. -/
theorem Ended.over {s v u t : Dev} {x : Ctx} {r : Ret} (ended : Ended s u t x r) (store : v.fe.store = s.fe.store) (rings : v.fe.rings = s.fe.rings) :
    Ended v u t x r := by
  obtain ⟨shape, mem, regs, completes, rings', others⟩ := ended
  refine ⟨shape, mem, regs, ?_, ?_, ?_⟩
  · unfold Completes ringAt at completes ⊢
    rw [rings]
    exact completes
  · intro k other
    rw [rings' k other]
    unfold ringAt
    rw [rings]
  · rw [store, others]

/-- So is a begin. -/
theorem Begun.over {s v u t : Dev} {x : Ctx} (begun : Begun s u t x) (store : v.fe.store = s.fe.store) (rings : v.fe.rings = s.fe.rings) :
    Begun v u t x := by
  obtain ⟨shape, mem, regs, begins, rings', others⟩ := begun
  refine ⟨shape, mem, regs, begins, ?_, ?_⟩
  · intro k other
    rw [rings' k other]
    unfold ringAt
    rw [rings]
  · rw [store, others]

/-! ### Registers of the journals -/

theorem trafficRegs_place : ∀ o ∈ trafficRegs, o < 0x170000 ∨ 0x190000 ≤ o := by decide

/-- Accesses of an instance leave the registers of the journals. -/
theorem TrafficOf.journalReg {i : Nat} {s t : Dev} (h : TrafficOf i s t) (known : i ≤ 32) {o : Nat} (low : 0x181000 ≤ o) (high : o < 0x190000) :
    regRead t o = regRead s o := by
  refine h.regs o ?_ (by show o ≠ 0x150000; omega)
  rw [List.mem_cons, not_or]
  refine ⟨?_, fun named => ?_⟩
  · show o ≠ 0x170010 + 64 * i
    omega
  · have := trafficRegs_place o named
    omega

theorem TrafficOf.journals {i : Nat} {s t : Dev} (h : TrafficOf i s t) : t.fe.journals = s.fe.journals := by rw [h.rest]

theorem jnlOf_modJnl (s : Dev) (i : Nat) (f : Journal → Journal) : jnlOf (modJnl s i f) i = f (jnlOf s i) := by
  unfold jnlOf modJnl tgetD
  dsimp only
  rw [tget_tset_same]
  rfl

theorem jnlOf_congr {s t : Dev} (same : t.fe.journals = s.fe.journals) (i : Nat) : jnlOf t i = jnlOf s i := by
  unfold jnlOf
  rw [same]

/-! ### What a write of a record leaves -/

/-- The status register of a journal is as before, and of the journal all but what counts its stream. -/
structure JournalKept (i : Nat) (s t : Dev) : Prop where
  status : regRead t (Reg.SES_JNL_STATUS i) = regRead s (Reg.SES_JNL_STATUS i)
  journal : ∃ c p r, jnlOf t i = { jnlOf s i with consumed := c, produced := p, records := r }

namespace JournalKept

theorem refl (i : Nat) (s : Dev) : JournalKept i s s := ⟨rfl, _, _, _, rfl⟩

theorem trans {i : Nat} {s t u : Dev} (h : JournalKept i s t) (k : JournalKept i t u) : JournalKept i s u := by
  obtain ⟨status, c, p, r, journal⟩ := h
  obtain ⟨status', c', p', r', journal'⟩ := k
  refine ⟨status'.trans status, c', p', r', ?_⟩
  rw [journal', journal]

theorem fget {i : Nat} {s t : Dev} (h : JournalKept i s t) {f : Fld} (own : f.off = Reg.SES_JNL_STATUS i) : fget t f = Machine.fget s f := by
  unfold Machine.fget
  rw [own, h.status]

end JournalKept

theorem TrafficOf.journalKept {i : Nat} {s t : Dev} (h : TrafficOf i s t) (known : i ≤ 32) : JournalKept i s t :=
  ⟨h.journalReg known (by show 0x181000 ≤ 0x181000 + 32 * i; omega) (by show 0x181000 + 32 * i < 0x190000; omega), _, _, _,
    jnlOf_congr h.journals i⟩

/-- A change of what counts the stream. -/
theorem journalKept_modJnl (s : Dev) (i : Nat) (c p r : Journal → Nat) :
    JournalKept i s (modJnl s i (fun j => { j with consumed := c j, produced := p j, records := r j })) := ⟨rfl, _, _, _, jnlOf_modJnl _ _ _⟩

theorem journalKept_bump (s : Dev) (i : Nat) {o : Nat} (other : o ≠ Reg.SES_JNL_STATUS i) : JournalKept i s (bump s o) :=
  ⟨regRead_bump_other _ _ _ (Ne.symm other), _, _, _, rfl⟩

theorem journalKept_jnlHeader (s : Dev) {i : Nat} (known : i ≤ 32) : JournalKept i s (jnlHeader s i) := by
  unfold jnlHeader
  exact ((trafficOf_vaWrite s i (jnlOf s i).base (leBytes 8 (jnlOf s i).produced)).trans (trafficOf_vaWrite _ i ((jnlOf s i).base + 16)
    (leBytes 8 (jnlOf s i).records ++ leBytes 8 (jnlOf s i).totalLost))).journalKept known

theorem journalKept_jnlPut (s : Dev) {i : Nat} (known : i ≤ 32) (b : List Byte) : JournalKept i s (jnlPut s i b) := by
  have written := (trafficOf_vaWrite s i ((jnlOf s i).base + 64 + (jnlOf s i).produced % 2 ^ (jnlOf s i).sizeLog2) b).journalKept known
  refine (written.trans (journalKept_modJnl _ i (fun j => j.consumed) (fun j => j.produced + b.length) (fun j => j.records + 1))).trans
    (journalKept_bump _ i ?_)
  show 0x181008 + 32 * i ≠ 0x181000 + 32 * i
  omega

theorem journalKept_jnlWrite (s : Dev) {i : Nat} (known : i ≤ 32) (r : JRec) : JournalKept i s (jnlWrite s i r).1 := by
  have read := (trafficOf_vaRead s i ((jnlOf s i).base + 8) 8).journalKept known
  unfold jnlWrite
  generalize vaRead s i ((jnlOf s i).base + 8) 8 = q at read ⊢
  obtain ⟨u, cons, code⟩ := q
  dsimp only at read ⊢
  have noted : JournalKept i s (if code = 0 then modJnl u i (fun j => { j with consumed := ofLe cons }) else u) := by
    split
    · exact read.trans (journalKept_modJnl u i (fun _ => ofLe cons) (fun j => j.produced) (fun j => j.records))
    · exact read
  generalize (if code = 0 then modJnl u i (fun j => { j with consumed := ofLe cons }) else u) = v at noted ⊢
  generalize (if (recBytes r).length > 2 ^ (jnlOf v i).sizeLog2 - (jnlOf v i).produced % 2 ^ (jnlOf v i).sizeLog2
    then 2 ^ (jnlOf v i).sizeLog2 - (jnlOf v i).produced % 2 ^ (jnlOf v i).sizeLog2 else 0) = pad
  split
  · exact noted
  · have padded (b : List Byte) : JournalKept i s (if pad = 0 then v else jnlPut v i b) := by
      split
      · exact noted
      · exact noted.trans (journalKept_jnlPut v known b)
    exact ((padded _).trans (journalKept_jnlPut _ known _)).trans (journalKept_jnlHeader _ known)

/-- A record that is written leaves room for no complaint: what it finds of the journal beside its stream stays. -/
theorem JournalKept.stopping {i : Nat} {s t : Dev} (h : JournalKept i s t) : (jnlOf t i).stopping = (jnlOf s i).stopping := by
  obtain ⟨-, _, _, _, journal⟩ := h
  rw [journal]

theorem JournalKept.queue {i : Nat} {s t : Dev} (h : JournalKept i s t) : (jnlOf t i).queue = (jnlOf s i).queue := by
  obtain ⟨-, _, _, _, journal⟩ := h
  rw [journal]

/-- A record that is lost (R325). -/
theorem jnlLose_leaves (s : Dev) {i : Nat} (known : i ≤ 32) : regRead (jnlLose s i) (Reg.SES_JNL_STATUS i) = regRead s (Reg.SES_JNL_STATUS i)
    ∧ ∃ c p r, jnlOf (jnlLose s i) i = { jnlOf s i with
        lost := (jnlOf s i).lost + 1, totalLost := (jnlOf s i).totalLost + 1, consumed := c, produced := p, records := r } := by
  have counted : Reg.SES_JNL_CNT_LOST i ≠ Reg.SES_JNL_STATUS i := by
    show 0x181010 + 32 * i ≠ 0x181000 + 32 * i
    omega
  obtain ⟨u, isU⟩ : ∃ u, u = modJnl s i (fun j => { j with lost := j.lost + 1, totalLost := j.totalLost + 1 }) := ⟨_, rfl⟩
  obtain ⟨status, c, p, r, journal⟩ := (journalKept_bump u i counted).trans (journalKept_jnlHeader _ known)
  have lost : jnlLose s i = jnlHeader (bump u (Reg.SES_JNL_CNT_LOST i)) i := by rw [isU]; rfl
  rw [lost, status, journal, isU, jnlOf_modJnl]
  exact ⟨rfl, _, _, _, rfl⟩

/-- What a record of a fresh journal leaves, whether it is written, waits, or is lost (R324, R325). -/
theorem jnlRecord_fresh (s : Dev) {i : Nat} (known : i ≤ 32) (queue : (jnlOf s i).queue = []) (lost : (jnlOf s i).lost = 0)
    (kind flags ring step session aux : Nat) (payload : List Byte) {t : Dev} (isT : t = jnlRecord s i kind flags ring step session aux payload) :
    (∀ f : Fld, f.off = Reg.SES_JNL_STATUS i → f.lo + f.width ≤ 64 → f.lo + f.width ≤ 2 ∨ 3 ≤ f.lo → fget t f = fget s f)
      ∧ (jnlOf t i).base = (jnlOf s i).base ∧ (jnlOf t i).sizeLog2 = (jnlOf s i).sizeLog2 ∧ (jnlOf t i).drop = (jnlOf s i).drop
      ∧ (jnlOf t i).lost ≤ 1 := by
  have kept := journalKept_jnlWrite s known ⟨kind, flags, ring, (jnlOf s i).seq, step, session, aux, pad32 payload⟩
  rw [isT]
  unfold jnlRecord
  split
  · exact ⟨fun _ _ _ _ => rfl, rfl, rfl, rfl, by omega⟩
  · dsimp only
    rw [queue, if_neg (by decide), if_neg (by rw [lost]; decide)]
    generalize jnlWrite s i ⟨kind, flags, ring, (jnlOf s i).seq, step, session, aux, pad32 payload⟩ = q at kept ⊢
    obtain ⟨u, ok⟩ := q
    dsimp only at kept ⊢
    have ⟨_, c, p, r, journal⟩ := kept
    have ⟨base, size, drop, count⟩ : (jnlOf u i).base = (jnlOf s i).base ∧ (jnlOf u i).sizeLog2 = (jnlOf s i).sizeLog2
        ∧ (jnlOf u i).drop = (jnlOf s i).drop ∧ (jnlOf u i).lost = (jnlOf s i).lost := by
      rw [journal]
      exact ⟨rfl, rfl, rfl, rfl⟩
    split
    · exact ⟨fun f own _ _ => kept.fget own, base, size, drop, by omega⟩
    · split
      · obtain ⟨status, c', p', r', after⟩ := jnlLose_leaves u known
        refine ⟨fun f own _ _ => ?_, ?_, ?_, ?_, ?_⟩
        · rw [← kept.fget own]
          unfold fget
          rw [own, status]
        · rw [after, ← base]
        · rw [after, ← size]
        · rw [after, ← drop]
        · rw [after]
          show (jnlOf u i).lost + 1 ≤ 1
          omega
      · obtain ⟨v, isV⟩ : ∃ v, v = modJnl u i (fun j => { j with queue := j.queue ++
            [⟨kind, flags, ring, (jnlOf s i).seq, step, session, aux, pad32 payload⟩] }) := ⟨_, rfl⟩
        rw [← isV]
        have waits : jnlOf (fset v (RF.SES_JNL_STATUS_HELD i) 1) i = { jnlOf u i with queue := (jnlOf u i).queue ++
            [⟨kind, flags, ring, (jnlOf s i).seq, step, session, aux, pad32 payload⟩] } := by
          show jnlOf v i = _
          rw [isV, jnlOf_modJnl]
        refine ⟨fun f own within apart => ?_, ?_, ?_, ?_, ?_⟩
        · rw [fget_fset_bits _ (RF.SES_JNL_STATUS_HELD i) f _ own within apart, isV]
          exact kept.fget own
        · rw [waits, ← base]
        · rw [waits, ← size]
        · rw [waits, ← drop]
        · rw [waits]
          show (jnlOf u i).lost ≤ 1
          omega

end Sys2Proof.Machine
end

section
/-!
Journals: O45 (R321, R325).
-/
namespace Sys2Proof.Machine

/-! ### JOURNAL_START -/

/-- The module with a new recording, before its first record. -/
def withJournal (s : Dev) (i n base size : Nat) (drop digest : Bool) (dig len : Nat) : Dev :=
  modJnl (fset (fset (fset (fset s (RF.SES_JNL_STATUS_JOURNAL i) n) (RF.SES_JNL_STATUS_MODE i) 1) (RF.SES_JNL_STATUS_HELD i) 0)
    (RF.SES_JNL_STATUS_GAPPED i) 0) i (fun _ => { Journal.none with
      base := base, sizeLog2 := size, drop := drop, digLaunch := digest, digVa := dig, digLen := len })

theorem fget_withJournal (s : Dev) (i n base size : Nat) (drop digest : Bool) (dig len : Nat) :
    fget (withJournal s i n base size drop digest dig len) (RF.SES_JNL_STATUS_MODE i) = 1
      ∧ fget (withJournal s i n base size drop digest dig len) (RF.SES_JNL_STATUS_JOURNAL i) = n % 2 ^ 32
      ∧ fget (withJournal s i n base size drop digest dig len) (RF.SES_JNL_STATUS_GAPPED i) = 0 := by
  obtain ⟨u, isU⟩ : ∃ u, u = fset (fset (fset (fset s (RF.SES_JNL_STATUS_JOURNAL i) n) (RF.SES_JNL_STATUS_MODE i) 1) (RF.SES_JNL_STATUS_HELD i) 0)
    (RF.SES_JNL_STATUS_GAPPED i) 0 := ⟨_, rfl⟩
  have here (f : Fld) : fget (withJournal s i n base size drop digest dig len) f = fget u f := by
    unfold withJournal
    rw [← isU]
    rfl
  rw [here, here, here, isU]
  refine ⟨?_, ?_, ?_⟩
  · rw [fget_fset_bits _ (RF.SES_JNL_STATUS_GAPPED i) (RF.SES_JNL_STATUS_MODE i) _ rfl (Nat.le_of_ble_eq_true rfl) (.inl (Nat.le_of_ble_eq_true rfl)),
      fget_fset_bits _ (RF.SES_JNL_STATUS_HELD i) (RF.SES_JNL_STATUS_MODE i) _ rfl (Nat.le_of_ble_eq_true rfl) (.inl (Nat.le_of_ble_eq_true rfl)),
      fget_fset_same _ _ _ (Nat.le_of_ble_eq_true rfl)]
    rfl
  · rw [fget_fset_bits _ (RF.SES_JNL_STATUS_GAPPED i) (RF.SES_JNL_STATUS_JOURNAL i) _ rfl (Nat.le_of_ble_eq_true rfl) (.inr (Nat.le_of_ble_eq_true rfl)),
      fget_fset_bits _ (RF.SES_JNL_STATUS_HELD i) (RF.SES_JNL_STATUS_JOURNAL i) _ rfl (Nat.le_of_ble_eq_true rfl) (.inr (Nat.le_of_ble_eq_true rfl)),
      fget_fset_bits _ (RF.SES_JNL_STATUS_MODE i) (RF.SES_JNL_STATUS_JOURNAL i) _ rfl (Nat.le_of_ble_eq_true rfl) (.inr (Nat.le_of_ble_eq_true rfl)),
      fget_fset_same _ _ _ (Nat.le_of_ble_eq_true rfl)]
    rfl
  · rw [fget_fset_same _ _ _ (Nat.le_of_ble_eq_true rfl)]
    rfl

theorem regRead_withJournal (s : Dev) (i n base size : Nat) (drop digest : Bool) (dig len : Nat) {o : Nat} (apart : o ≠ Reg.SES_JNL_STATUS i) :
    regRead (withJournal s i n base size drop digest dig len) o = regRead s o := by
  obtain ⟨u, isU⟩ : ∃ u, u = fset (fset (fset (fset s (RF.SES_JNL_STATUS_JOURNAL i) n) (RF.SES_JNL_STATUS_MODE i) 1) (RF.SES_JNL_STATUS_HELD i) 0)
    (RF.SES_JNL_STATUS_GAPPED i) 0 := ⟨_, rfl⟩
  unfold withJournal
  rw [← isU]
  refine (regRead_congr (s := u) rfl o).trans ?_
  rw [isU, regRead_fset_other _ _ _ _ apart, regRead_fset_other _ _ _ _ apart, regRead_fset_other _ _ _ _ apart, regRead_fset_other _ _ _ _ apart]

theorem journalStart_starts {s : State} {c : Cmd} {x : Ctx} {i : Nat} (known : i ≤ 32) {s1 s2 s4 : Dev} {n base dig len : Nat}
    (admits : Admits s.dev 0x60 c x) (isI : i = eb x.e 16 1) (isBase : base = eb x.e 24 8) (isDig : dig = eb x.e 32 8) (isLen : len = eb x.e 40 4)
    (size : journalSizeOk (eb x.e 17 1) = true) (whole : len % 32 = 0) (fits : len ≤ 16777216) (some : bitOf (eb x.e 18 1) 1 = true → len ≠ 0)
    (aligned : base % 4096 = 0) (aligned' : dig % 32 = 0) (checked : vaCheck s.dev i base 64 1 = (s1, 0))
    (checked' : (if bitOf (eb x.e 18 1) 1 then vaCheck s1 i dig len 0 else (s1, 0)) = (s2, 0))
    (exists' : insState s2 i ≠ 0) (running : insState s2 i ≠ 4) (off : jnlMode s2 i = 0) (idle : hasDispatch s2 i = false)
    (isN : n = (fget s2 (RF.SES_JNL_STATUS_JOURNAL i) + 1) % 2 ^ 32)
    (isS4 : s4 = jnlRecord (withJournal s2 i n base (eb x.e 17 1) (bitOf (eb x.e 18 1) 0) (bitOf (eb x.e 18 1) 1) dig len) i 1 0 0xFFFF 0 0xFFFFFFFF n
      (leBytes 8 s2.time.hw ++ leBytes 8 (regRead s2 Reg.LOG_EPOCH) ++ List.replicate 16 0))
    (free : s4.blocked = []) (store : s4.fe.store = s.dev.fe.store) (rings : s4.fe.rings = s.dev.fe.rings) :
    ∃ t, exec (.journalStart c) s = .next t ∧ Completes s4 t.dev x { Ret.ok with r0 := n } ∧ fget t.dev (RF.SES_JNL_STATUS_MODE i) = 1
      ∧ fget t.dev (RF.SES_JNL_STATUS_JOURNAL i) = n ∧ fget t.dev (RF.SES_JNL_STATUS_GAPPED i) = 0 ∧ (jnlOf t.dev i).base = base
      ∧ (jnlOf t.dev i).sizeLog2 = eb x.e 17 1 ∧ (jnlOf t.dev i).drop = bitOf (eb x.e 18 1) 0 ∧ (jnlOf t.dev i).lost ≤ 1
      ∧ SameMem s4 t.dev ∧ OnlyCmd [] { s with dev := s4 } t x s4 := by
  have early : firstCode [(!journalSizeOk (eb x.e 17 1) || len % 32 != 0 || decide (len > 16777216) || (len == 0 && bitOf (eb x.e 18 1) 1), eArg),
      (base % 4096 != 0 || dig % 32 != 0, eAlign)] = 0 := by
    have given : (len == 0 && bitOf (eb x.e 18 1) 1) = false := by
      rw [Bool.and_eq_false_iff]
      by_cases none : len = 0
      · right
        rw [← Bool.not_eq_true]
        exact fun digest => some digest none
      · left
        simpa using none
    simp [firstCode, size, whole, aligned, aligned', given, fits]
  have epoch : regRead (withJournal s2 i n base (eb x.e 17 1) (bitOf (eb x.e 18 1) 0) (bitOf (eb x.e 18 1) 1) dig len) Reg.LOG_EPOCH
      = regRead s2 Reg.LOG_EPOCH := by
    have apart : Reg.LOG_EPOCH ≠ Reg.SES_JNL_STATUS i := by
      show 0x1E0018 ≠ 0x181000 + 32 * i
      omega
    exact regRead_withJournal _ _ _ _ _ _ _ _ _ apart
  obtain ⟨f, runs, ran⟩ : ∃ f, exec (.journalStart c) s = .next { s with dev := finish (command 0x60 c s.dev f) }
      ∧ f x s.dev = (s4, .done { Ret.ok with r0 := n }) := by
    refine ⟨_, rfl, ?_⟩
    dsimp only
    rw [← isI, ← isBase, ← isDig, ← isLen, early, if_neg (by decide), checked]
    dsimp only
    rw [checked']
    dsimp only
    rw [afterChecks_pass]
    · rw [← isN, isS4, ← epoch]
      rfl
    · intro p mem
      simp only [List.mem_append, List.mem_cons, List.not_mem_nil, or_false] at mem
      obtain ((rfl | rfl) | named) | rfl | rfl := mem
      · rfl
      · rfl
      · exact namedState_pass exists' running p named
      · simp [off]
      · exact idle
  have ended := (command_ends rfl admits (by decide) ran free store rings).over (v := s4) store rings
  obtain ⟨mode, journal, gapped⟩ := fget_withJournal s2 i n base (eb x.e 17 1) (bitOf (eb x.e 18 1) 0) (bitOf (eb x.e 18 1) 1) dig len
  have fresh := jnlOf_modJnl (fset (fset (fset (fset s2 (RF.SES_JNL_STATUS_JOURNAL i) n) (RF.SES_JNL_STATUS_MODE i) 1) (RF.SES_JNL_STATUS_HELD i) 0)
    (RF.SES_JNL_STATUS_GAPPED i) 0) i (fun _ => { Journal.none with base := base, sizeLog2 := eb x.e 17 1, drop := bitOf (eb x.e 18 1) 0, digLaunch := bitOf (eb x.e 18 1) 1, digVa := dig, digLen := len })
  obtain ⟨fields, base', size', drop', lost⟩ := jnlRecord_fresh _ known (by unfold withJournal; rw [fresh]; rfl) (by unfold withJournal; rw [fresh]; rfl)
    _ _ _ _ _ _ _ isS4
  have after : jnlOf (finish (command 0x60 c s.dev f)) i = jnlOf s4 i := by
    rw [ended.shape]
    rfl
  have low : Reg.SES_JNL_STATUS i < 0x1E0000 := by
    show 0x181000 + 32 * i < 0x1E0000
    omega
  have apart : Reg.SES_JNL_STATUS i ≠ 0x150000 := by
    show 0x181000 + 32 * i ≠ 0x150000
    omega
  refine ⟨_, runs, ended.completes, ?_, ?_, ?_, ?_, ?_, ?_, ?_, ended.mem, Ended.onlyCmd (s := { s with dev := s4 }) ended ended.shape (fun _ _ _ => rfl)⟩
  · rw [ended.fget low apart, fields _ rfl (Nat.le_of_ble_eq_true rfl) (.inl (Nat.le_of_ble_eq_true rfl)), mode]
  · rw [ended.fget low apart, fields _ rfl (Nat.le_of_ble_eq_true rfl) (.inr (Nat.le_of_ble_eq_true rfl)), journal, isN, Nat.mod_mod]
  · rw [ended.fget low apart, fields _ rfl (Nat.le_of_ble_eq_true rfl) (.inr (Nat.le_of_ble_eq_true rfl)), gapped]
  · rw [after, base']
    unfold withJournal
    rw [fresh]
  · rw [after, size']
    unfold withJournal
    rw [fresh]
  · rw [after, drop']
    unfold withJournal
    rw [fresh]
  · rw [after]
    exact lost

/-! ### JOURNAL_STOP -/

/-- What a begun command leaves is its effect, beside the store and what closes it. -/
theorem Begun.sameButAnswer {s u t : Dev} {x : Ctx} (begun : Begun s u t x) : SameButAnswer u t := by
  obtain ⟨store, dram, regs, rfl⟩ := begun.shape
  rfl

/-- An effect on a journal and its registers, closed. -/
theorem sameButAnswer_journals {u t : Dev} {regs : List (Nat × BitVec 64)} {journals : List (Nat × Journal)}
    (same : SameButAnswer { u with regs := regs, fe := { u.fe with journals := journals } } t) :
    SameButAnswer { u with fe := { u.fe with journals := t.fe.journals } } t ∧ t.fe.journals = journals := by
  obtain ⟨store, rings, out, log, rom, dram, regs', rfl⟩ := same.literal
  exact ⟨rfl, rfl⟩

/-- Recording is over: what remains of the module, of the journal's registers and of the journal. -/
theorem stopRecording_shape (s : Dev) (i : Nat) : ∃ regs, stopRecording s i = { s with
    regs := regs, fe := { s.fe with journals := tset s.fe.journals i { jnlOf s i with stopping := none, digests := [] } } }
      ∧ regs = (fset (fset s (RF.SES_JNL_STATUS_MODE i) 0) (RF.SES_JNL_STATUS_HELD i) 0).regs := ⟨_, rfl, rfl⟩

theorem fget_stopRecording (s : Dev) (i : Nat) :
    fget (stopRecording s i) (RF.SES_JNL_STATUS_MODE i) = 0 ∧ fget (stopRecording s i) (RF.SES_JNL_STATUS_HELD i) = 0 := by
  obtain ⟨regs, shape, areRegs⟩ := stopRecording_shape s i
  have here (f : Fld) : fget (stopRecording s i) f = fget (fset (fset s (RF.SES_JNL_STATUS_MODE i) 0) (RF.SES_JNL_STATUS_HELD i) 0) f := by
    rw [shape]
    exact congrArg (fun v => bitsOf v f.lo f.width) (regRead_congr areRegs f.off)
  rw [here, here]
  refine ⟨?_, ?_⟩
  · rw [fget_fset_bits _ (RF.SES_JNL_STATUS_HELD i) (RF.SES_JNL_STATUS_MODE i) _ rfl (Nat.le_of_ble_eq_true rfl) (.inl (Nat.le_of_ble_eq_true rfl)),
      fget_fset_same _ _ _ (Nat.le_of_ble_eq_true rfl)]
    rfl
  · rw [fget_fset_same _ _ _ (Nat.le_of_ble_eq_true rfl)]
    rfl

theorem sameRegsBut_stopRecording (s : Dev) (i : Nat) : SameRegsBut [Reg.SES_JNL_STATUS i] s (stopRecording s i) := by
  obtain ⟨regs, shape, areRegs⟩ := stopRecording_shape s i
  intro o others _
  have apart : o ≠ Reg.SES_JNL_STATUS i := List.ne_of_not_mem_cons others
  rw [shape]
  refine (regRead_congr areRegs o).trans ?_
  rw [regRead_fset_other _ _ _ _ apart, regRead_fset_other _ _ _ _ apart]

/-- The END record of a recording (R323). -/
def endRecord (s : Dev) (i : Nat) : JRec := ⟨11, 0, 0xFFFF, (jnlOf s i).seq, 0, 0xFFFFFFFF, fget s (RF.SES_JNL_STATUS_JOURNAL i), []⟩

section
variable {s : State} {c : Cmd} {x : Ctx} {i : Nat} (isI : i = eb x.e 16 1) (exists' : insState s.dev i ≠ 0)
  (running : insState s.dev i ≠ 4) (records : jnlMode s.dev i = 1) (going : (jnlOf s.dev i).stopping = none)
include isI exists' running records going

theorem journalStop_runs : ∃ f, exec (.journalStop c) s = .next { s with dev := finish (command 0x61 c s.dev f) }
    ∧ f x s.dev = (let (u, ok) := if (jnlOf s.dev i).queue.isEmpty && (jnlOf s.dev i).lost == 0 then jnlWrite s.dev i (endRecord s.dev i) else (s.dev, false)
        if ok then (stopRecording u i, .done Ret.ok)
        else (modJnl u i (fun j => { j with queue := j.queue ++ [endRecord s.dev i], stopping := some x.key }), .later)) := by
  refine ⟨_, rfl, ?_⟩
  dsimp only
  rw [← isI, afterChecks_pass]
  · rfl
  · intro p mem
    simp only [List.mem_append, List.mem_cons, List.not_mem_nil, or_false] at mem
    obtain named | rfl := mem
    · exact namedState_pass exists' running p named
    · simp [records, going]

theorem journalStop_ends {u : Dev} (admits : Admits s.dev 0x61 c x) (queue : (jnlOf s.dev i).queue = []) (lost : (jnlOf s.dev i).lost = 0)
    (written : jnlWrite s.dev i (endRecord s.dev i) = (u, true)) (free : u.blocked = []) (store : u.fe.store = s.dev.fe.store)
    (rings : u.fe.rings = s.dev.fe.rings) (known : i ≤ 32) :
    ∃ t, exec (.journalStop c) s = .next t ∧ Completes u t.dev x Ret.ok ∧ fget t.dev (RF.SES_JNL_STATUS_MODE i) = 0
      ∧ fget t.dev (RF.SES_JNL_STATUS_HELD i) = 0 ∧ SameMem u t.dev
      ∧ OnlyCmd [Reg.SES_JNL_STATUS i] { s with dev := u } t x { u with fe := { u.fe with journals := t.dev.fe.journals } } := by
  obtain ⟨f, runs, ran⟩ := journalStop_runs (c := c) isI exists' running records going
  rw [queue, lost, written] at ran
  obtain ⟨regs, shape, -⟩ := stopRecording_shape u i
  have ended := (command_ends rfl admits (by decide) ran (by rw [shape]; exact free) (by rw [shape]; exact store)
    (by rw [shape]; exact rings)).over (v := u) store rings
  obtain ⟨mode, held⟩ := fget_stopRecording u i
  have low : Reg.SES_JNL_STATUS i < 0x1E0000 := by
    show 0x181000 + 32 * i < 0x1E0000
    omega
  have apart : Reg.SES_JNL_STATUS i ≠ 0x150000 := by
    show 0x181000 + 32 * i ≠ 0x150000
    omega
  refine ⟨_, runs, ended.completes, by rw [ended.fget low apart, mode], by rw [ended.fget low apart, held], ?_, ?_⟩
  · have mem := ended.mem
    rw [shape] at mem
    exact mem
  · refine Ended.onlyCmd (s := { s with dev := u }) ended ?_ (sameRegsBut_stopRecording u i)
    have closed := ended.shape
    rw [shape] at closed
    exact (sameButAnswer_journals closed).1

theorem journalStop_waits (admits : Admits s.dev 0x61 c x) (waits : (jnlOf s.dev i).queue ≠ [] ∨ (jnlOf s.dev i).lost ≠ 0) :
    ∃ t, exec (.journalStop c) s = .next t ∧ Begins t.dev x
      ∧ jnlOf t.dev i = { jnlOf s.dev i with queue := (jnlOf s.dev i).queue ++ [endRecord s.dev i], stopping := some x.key }
      ∧ SameMem s.dev t.dev ∧ OnlyCmd [] s t x { s.dev with fe := { s.dev.fe with journals := t.dev.fe.journals } } := by
  obtain ⟨f, runs, ran⟩ := journalStop_runs (c := c) isI exists' running records going
  have behind : ((jnlOf s.dev i).queue.isEmpty && (jnlOf s.dev i).lost == 0) = false := by
    rw [Bool.and_eq_false_iff, List.isEmpty_eq_false_iff, beq_eq_false_iff_ne]
    exact waits
  rw [behind] at ran
  have begun := command_begins rfl admits ran (free_of_admits admits) rfl rfl
  obtain ⟨closed, journals⟩ := sameButAnswer_journals (u := s.dev) (regs := s.dev.regs) begun.sameButAnswer
  refine ⟨_, runs, begun.begins, ?_, begun.mem, begun.onlyCmd closed (fun _ _ _ => rfl)⟩
  unfold jnlOf tgetD
  rw [withDev_dev, journals, tget_tset_same]
  rfl

end

/-! ### JOURNAL_ROOM_RETURN -/

/-- The one record that waits is written (R325). -/
theorem journalRoom_writes {s u : Dev} {i : Nat} {r : JRec} (known : i ≤ 32) (records : jnlMode s i = 1) (queue : (jnlOf s i).queue = [r])
    (lost : (jnlOf s i).lost = 0) (going : (jnlOf s i).stopping = none) (written : jnlWrite s i r = (u, true)) :
    journalRoom s i = fset (modJnl u i (fun j => { j with queue := [] })) (RF.SES_JNL_STATUS_HELD i) 0 := by
  have kept := journalKept_jnlWrite s known r
  rw [written] at kept
  obtain ⟨v, isV⟩ : ∃ v, v = modJnl u i (fun j => { j with queue := [] }) := ⟨_, rfl⟩
  have after : jnlOf v i = { jnlOf u i with queue := [] } := by rw [isV, jnlOf_modJnl]
  have queue' : (jnlOf v i).queue = [] := by rw [after]
  have going' : (jnlOf (fset v (RF.SES_JNL_STATUS_HELD i) 0) i).stopping = none := by
    show (jnlOf v i).stopping = none
    rw [after]
    exact kept.stopping.trans going
  have flushed : flushQueue s i ([r].length + 1) = v := by
    show flushQueue s i 2 = v
    rw [flushQueue, queue]
    dsimp only
    rw [written]
    dsimp only
    rw [if_pos rfl, ← isV, flushQueue, queue']
  unfold journalRoom
  dsimp only
  rw [records, if_neg (by decide), lost, if_pos rfl, if_pos lost, queue]
  rw [flushed, queue', ← isV, if_neg (by decide), going']

theorem journalRoomReturn_writes {s : State} {u : Dev} {i : Nat} {r : JRec} (known : i ≤ 32) (records : jnlMode s.dev i = 1)
    (queue : (jnlOf s.dev i).queue = [r]) (lost : (jnlOf s.dev i).lost = 0) (going : (jnlOf s.dev i).stopping = none)
    (written : jnlWrite s.dev i r = (u, true)) (free : u.blocked = []) :
    ∃ t, exec (.journalRoomReturn i) s = .next t ∧ (jnlOf t.dev i).queue = [] ∧ (jnlOf t.dev i).produced = (jnlOf u i).produced
      ∧ fget t.dev (RF.SES_JNL_STATUS_HELD i) = 0 ∧ SameMem u t.dev
      ∧ OnlyIn [Reg.SES_JNL_STATUS i] { s with dev := u } t { u with fe := { u.fe with journals := t.dev.fe.journals } } := by
  have room := journalRoom_writes known records queue lost going written
  obtain ⟨v, isV⟩ : ∃ v, v = modJnl u i (fun j => { j with queue := [] }) := ⟨_, rfl⟩
  rw [← isV] at room
  have after : jnlOf v i = { jnlOf u i with queue := [] } := by rw [isV, jnlOf_modJnl]
  have runs : exec (.journalRoomReturn i) s = .next { s with dev := finish (fset v (RF.SES_JNL_STATUS_HELD i) 0) } := by
    show execJournalRoomReturn i s = _
    unfold execJournalRoomReturn
    rw [perform_eq, whole_of_unblocked]
    · rw [room]
    · rw [room, isV]
      exact free
  have apart : Reg.SES_JNL_STATUS i ≠ 0x150000 := by
    show 0x181000 + 32 * i ≠ 0x150000
    omega
  have journal : jnlOf (finish (fset v (RF.SES_JNL_STATUS_HELD i) 0)) i = { jnlOf u i with queue := [] } := after
  refine ⟨_, runs, by rw [withDev_dev, journal], by rw [withDev_dev, journal], ?_, sameMem_finish ?_, onlyIn_finish (l := [Reg.SES_JNL_STATUS i]) ?_ ?_⟩
  · rw [withDev_dev, fget_finish _ _ apart, fget_fset_same _ _ _ (Nat.le_of_ble_eq_true rfl)]
    rfl
  · rw [isV]
    rfl
  · rw [isV]
    rfl
  · intro o others shc
    refine (sameRegsBut_fset v (RF.SES_JNL_STATUS_HELD i) 0 o others shc).trans ?_
    rw [isV]
    rfl

/-- Settles O45: a record that is written changes of its journal only what counts the stream, and none of its registers but the count of records. -/
theorem journals : Obligations.Journals := by
  unfold Obligations.Journals
  intro s c x i known
  refine ⟨?_, ?_, ?_⟩
  · rintro s1 s2 s3 s4 n base dig len admits isI isBase isDig isLen size whole fits some aligned aligned' checked checked' exists' running off idle isN rfl
    exact journalStart_starts known admits isI isBase isDig isLen size whole fits some aligned aligned' checked checked' exists' running off idle isN
  · rintro j r admits isI exists' running records rfl going rfl
    exact ⟨fun u queue lost written free store rings =>
        journalStop_ends isI exists' running records going admits queue lost written free store rings known,
      fun waits => journalStop_waits isI exists' running records going admits waits⟩
  · intro r u records queue lost going written free
    exact journalRoomReturn_writes known records queue lost going written free

end Sys2Proof.Machine
end

section
/-!
Replay: O46 (R327, R328).
-/
namespace Sys2Proof.Machine

/-! ### REPLAY_START -/

/-- The module that replays a journal (R327). -/
def withReplay (s : Dev) (i feed size watch cmd : Nat) (stopFirst : Bool) : Dev :=
  modJnl (fset s (RF.SES_JNL_STATUS_MODE i) 2) i (fun _ => { Journal.none with
    feed := feed, sizeLog2 := size, watch := watch, cmd := cmd, stopFirst := stopFirst })

theorem withReplay_shape (s : Dev) (i feed size watch cmd : Nat) (stopFirst : Bool) : ∃ regs, withReplay s i feed size watch cmd stopFirst = { s with
    regs := regs
    fe := { s.fe with journals := tset s.fe.journals i { Journal.none with
      feed := feed, sizeLog2 := size, watch := watch, cmd := cmd, stopFirst := stopFirst } } }
      ∧ regs = (fset s (RF.SES_JNL_STATUS_MODE i) 2).regs := ⟨_, rfl, rfl⟩

/-- What an admitted command carries beside its entry: over a ring nothing, else its buffer (R431). -/
theorem payload_of_ctxOf {op : Nat} {c : Cmd} {s : Dev} {x : Ctx} (context : ctxOf op c s = some x) : x.payload = [] ∨ x.payload = c.payload := by
  unfold ctxOf at context
  split at context
  · dsimp only at context
    split at context
    · cases context
      exact .inr rfl
    · cases context
  · dsimp only at context
    split at context
    · cases context
    · split at context
      · cases context
        exact .inl rfl
      · cases context

/-- Bytes that lie in this device are read there, whatever is given. -/
theorem vaGiven_here {s u : Dev} {inst va n : Nat} {b : List Byte} (read : vaGiven s inst va n [] = (u, b, 0)) (some : b ≠ []) (given : List Byte) :
    vaGiven s inst va n given = (u, b, 0) := by
  unfold vaGiven at read ⊢
  split at read
  · exact read
  · next v loc _ =>
    dsimp only at read ⊢
    cases here : heldHere v loc with
    | true =>
      rw [here] at read
      exact read
    | false =>
      rw [here, if_neg (by decide), List.take_nil] at read
      exact absurd (congrArg (fun q => q.2.1) read).symm some

theorem replayStart_starts {s : State} {c : Cmd} {x : Ctx} {i : Nat} {s1 s2 s3 : Dev} {b : List Byte} {feed watch : Nat}
    (admits : Admits s.dev 0x62 c x) (isI : i = eb x.e 16 1) (isFeed : feed = eb x.e 24 8) (isWatch : watch = eb x.e 32 8)
    (size : journalSizeOk (eb x.e 17 1) = true) (aligned : feed % 4096 = 0) (aligned' : watch % 64 = 0)
    (checked : vaCheck s.dev i feed 64 1 = (s1, 0)) (head : vaGiven s1 i (feed + 64) 32 x.payload = (s2, b, 0))
    (checked' : vaCheck s2 i watch 8 0 = (s3, 0)) (start : b.getD 0 0 = 1) (free : s3.blocked = []) (fe : s3.fe = s.dev.fe)
    (exists' : insState s3 i ≠ 0) (running : insState s3 i ≠ 4) (off : jnlMode s3 i = 0) (idle : hasDispatch s3 i = false)
    (still : ∀ p ∈ s3.fe.sessions, p.2.inst = i → p.2.state ≠ .running) :
    ∃ t, exec (.replayStart c) s = .next t ∧ Begins t.dev x ∧ fget t.dev (RF.SES_JNL_STATUS_MODE i) = 2
      ∧ jnlOf t.dev i = { Journal.none with feed := feed, sizeLog2 := eb x.e 17 1, watch := watch, cmd := x.key, stopFirst := bitOf (eb x.e 18 1) 0 }
      ∧ SameMem s3 t.dev ∧ OnlyCmd [Reg.SES_JNL_STATUS i] { s with dev := s3 } t x { s3 with fe := { s3.fe with journals := t.dev.fe.journals } } := by
  have early : firstCode [(!journalSizeOk (eb x.e 17 1), eArg), (feed % 4096 != 0 || watch % 64 != 0, eAlign)] = 0 := by
    simp [firstCode, size, aligned, aligned']
  obtain ⟨f, runs, ran⟩ : ∃ f, exec (.replayStart c) s = .next { s with dev := finish (command 0x62 c s.dev f) }
      ∧ f x s.dev = (withReplay s3 i feed (eb x.e 17 1) watch x.key (bitOf (eb x.e 18 1) 0), .later) := by
    refine ⟨_, rfl, ?_⟩
    dsimp only
    rw [← isI, ← isFeed, ← isWatch, early, if_neg (by decide), checked]
    dsimp only
    have read : vaGiven s1 i (feed + 64) 32 c.payload = (s2, b, 0) := by
      obtain ⟨context, -⟩ := admits
      obtain none | given := payload_of_ctxOf context
      · rw [none] at head
        refine vaGiven_here head ?_ c.payload
        rintro rfl
        exact absurd start (by decide)
      · rw [← given]
        exact head
    rw [read]
    dsimp only
    rw [checked']
    dsimp only
    rw [afterChecks_pass]
    · rfl
    · intro p mem
      simp only [List.mem_append, List.mem_cons, List.not_mem_nil, or_false] at mem
      obtain ((rfl | rfl | rfl | rfl) | named) | rfl | rfl := mem
      · rfl
      · rfl
      · rfl
      · rw [start]
        rfl
      · exact namedState_pass exists' running p named
      · simp [off]
      · rw [idle, Bool.false_or, List.any_eq_false]
        intro q mem
        simp only [Bool.and_eq_true, beq_iff_eq, not_and]
        exact still q mem
  obtain ⟨regs, shape, areRegs⟩ := withReplay_shape s3 i feed (eb x.e 17 1) watch x.key (bitOf (eb x.e 18 1) 0)
  have begun := (command_begins rfl admits ran (by rw [shape]; exact free) (by rw [shape, ← fe]) (by rw [shape, ← fe])).over (v := s3)
    (congrArg FrontEnd.store fe) (congrArg FrontEnd.rings fe)
  have answered := begun.sameButAnswer
  have mem := begun.mem
  rw [shape] at answered mem
  obtain ⟨closed, journals⟩ := sameButAnswer_journals answered
  have apart : Reg.SES_JNL_STATUS i ≠ 0x150000 := by
    show 0x181000 + 32 * i ≠ 0x150000
    omega
  refine ⟨_, runs, begun.begins, ?_, ?_, mem, Begun.onlyCmd (s := { s with dev := s3 }) begun closed ?_⟩
  · have kept := begun.regs (Reg.SES_JNL_STATUS i) (List.not_mem_nil) apart
    rw [withDev_dev]
    refine (congrArg (fun v => bitsOf v 0 2) kept).trans ?_
    rw [shape]
    refine (congrArg (fun v => bitsOf v 0 2) (regRead_congr areRegs _)).trans ?_
    exact fget_fset_same s3 (RF.SES_JNL_STATUS_MODE i) 2 (Nat.le_of_ble_eq_true rfl)
  · unfold jnlOf tgetD
    rw [withDev_dev, journals, tget_tset_same]
    rfl
  · intro o others _
    rw [shape]
    exact (regRead_congr areRegs o).trans (regRead_fset_other _ _ _ _ (List.ne_of_not_mem_cons others))

/-! ### A record of the feed -/

/-- An answer changes no register, whatever it answers. -/
theorem answerCmd_regs (s : Dev) (x : Ctx) (c : Cpl) (data : List Byte) : (answerCmd s x c data).regs = s.regs := by
  have dropped (u : Dev) (key : Option Nat) : (match key with
      | some key => dropStore u key
      | none => u).regs = u.regs := by
    split
    · rfl
    · rfl
  unfold answerCmd
  split
  · unfold oweCpl
    dsimp only
    split
    · split
      · exact dropped _ c.key
      · rfl
    · exact dropped _ c.key
  · rfl

theorem regRead_completeKey (s : Dev) (key : Nat) (r : Ret) {o : Nat} (other : ¬ isLogReg o) : regRead (completeKey s key r) o = regRead s o := by
  unfold completeKey
  split
  · rfl
  · next e _ =>
    split
    · next sp _ =>
      unfold endCmd
      dsimp only
      rw [regRead_congr (answerCmd_regs _ _ _ _)]
      split
      · exact (onlyLog_logAdd _ _ _ _ _ _ _ _ _).regs o other
      · rfl
    · rfl

theorem fget_endReplay (s : Dev) {i : Nat} (known : i ≤ 32) (r3 : Nat) : fget (endReplay s i r3) (RF.SES_JNL_STATUS_MODE i) = 0 := by
  have other : ¬ isLogReg (Reg.SES_JNL_STATUS i) := by
    rw [← mem_logRegs]
    intro named
    have above : ∀ o ∈ logRegs, 0x1E0000 ≤ o := by decide
    have low : 0x181000 + 32 * i < 0x1E0000 := by omega
    exact absurd (above _ named) (Nat.not_le.mpr low)
  unfold endReplay
  dsimp only
  refine (congrArg (fun v => bitsOf v 0 2) (regRead_completeKey _ _ _ other)).trans ?_
  exact fget_fset_same s (RF.SES_JNL_STATUS_MODE i) 0 (Nat.le_of_ble_eq_true rfl)

/-- An END record that is taken ends the replay (R327). -/
theorem replayRecord_end {s u : Dev} {i : Nat} {h p : List Byte} (kind : (h.getD 0 0).toNat = 11) (taken : replayRecord s i h p = some u) :
    u = endReplay s i 0 := by
  have first : ofLe ((h.drop 0).take 1) = 11 := by
    cases h with
    | nil => cases kind
    | cons a t =>
      have kind : a.toNat = 11 := kind
      simp [ofLe, kind]
  unfold replayRecord at taken
  dsimp only at taken
  rw [first] at taken
  replace taken : (if replayBusy s i then none else some (endReplay s i 0)) = some u := taken
  split at taken
  · cases taken
  · exact (Option.some.inj taken).symm

/-- The module once a record of the feed has been taken and is consumed (R328). -/
def recordTaken (s : Dev) (i feed consumed len : Nat) : Dev :=
  (vaWrite (modJnl (bump s (Reg.SES_JNL_CNT_RECORDS i)) i (fun j => { j with consumed := j.consumed + 32 + len })) i (feed + 8)
    (leBytes 8 (consumed + 32 + len))).1

theorem feedStep_takes {s s1 s2 s3 s4 : Dev} {i produced len pos : Nat} {given w h p : List Byte}
    (noted : vaGiven s i (jnlOf s i).watch 8 (leBytes 8 produced) = (s1, w, 0)) (more : (jnlOf s i).consumed < ofLe w) (settled : replayReady s1 i = false)
    (isPos : pos = (jnlOf s i).feed + 64 + (jnlOf s i).consumed % 2 ^ (jnlOf s i).sizeLog2) (head : vaGiven s1 i pos 32 given = (s2, h, 0))
    (isLen : len = ofLe ((h.drop 4).take 4)) (body : vaGiven s2 i (pos + 32) len (given.drop 32) = (s3, p, 0)) (taken : replayRecord s3 i h p = some s4) :
    feedStep s i produced given = recordTaken s4 i (jnlOf s i).feed (jnlOf s i).consumed len := by
  have goOn : ¬ (0 ≠ 0 ∨ ofLe w ≤ (jnlOf s i).consumed ∨ replayReady s1 i = true) := by
    rw [settled]
    simp only [ne_eq, not_true_eq_false, Bool.false_eq_true, or_false, false_or]
    omega
  unfold feedStep
  dsimp only
  rw [noted]
  dsimp only
  rw [if_neg goOn, ← isPos, head]
  dsimp only
  rw [← isLen, body]
  dsimp only
  rw [if_neg (by decide), taken]
  rfl

theorem recordTaken_leaves (s : Dev) {i : Nat} (known : i ≤ 32) (feed consumed len : Nat) :
    (jnlOf (recordTaken s i feed consumed len) i).consumed = (jnlOf s i).consumed + 32 + len
      ∧ regRead (recordTaken s i feed consumed len) (Reg.SES_JNL_CNT_RECORDS i) = (regRead s (Reg.SES_JNL_CNT_RECORDS i) + 1) % 2 ^ 64
      ∧ regRead (recordTaken s i feed consumed len) (Reg.SES_JNL_STATUS i) = regRead s (Reg.SES_JNL_STATUS i) := by
  obtain ⟨u, isU⟩ : ∃ u, u = bump s (Reg.SES_JNL_CNT_RECORDS i) := ⟨_, rfl⟩
  obtain ⟨v, isV⟩ : ∃ v, v = modJnl u i (fun j => { j with consumed := j.consumed + 32 + len }) := ⟨_, rfl⟩
  have written := trafficOf_vaWrite v i (feed + 8) (leBytes 8 (consumed + 32 + len))
  have whole : recordTaken s i feed consumed len = (vaWrite v i (feed + 8) (leBytes 8 (consumed + 32 + len))).1 := by rw [isV, isU]; rfl
  rw [whole]
  refine ⟨?_, ?_, ?_⟩
  · rw [jnlOf_congr written.journals, isV, jnlOf_modJnl]
    show (jnlOf u i).consumed + 32 + len = _
    rw [isU]
    rfl
  · rw [written.journalReg known (by show 0x181000 ≤ 0x181008 + 32 * i; omega) (by show 0x181008 + 32 * i < 0x190000; omega), isV]
    show regRead u _ = _
    rw [isU, regRead_bump_same]
  · rw [written.journalReg known (by show 0x181000 ≤ 0x181000 + 32 * i; omega) (by show 0x181000 + 32 * i < 0x190000; omega), isV]
    show regRead u _ = _
    rw [isU, regRead_bump_other _ _ _ (by show 0x181000 + 32 * i ≠ 0x181008 + 32 * i; omega)]

/-- Settles O46: a record of the feed is consumed after its effect, in a write by virtual address that leaves the journals and their registers. -/
theorem replay : Obligations.Replay := by
  unfold Obligations.Replay
  intro s c x i known
  refine ⟨?_, ?_⟩
  · intro s1 s2 s3 b feed watch admits isI isFeed isWatch size aligned aligned' checked head checked' start free fe exists' running off idle still
    exact replayStart_starts admits isI isFeed isWatch size aligned aligned' checked head checked' start free fe exists' running off idle still
  · intro produced len pos given w h p s1 s2 s3 s4 s5 mode on noted more settled isPos head isLen body taken isS5 free
    have step := feedStep_takes noted more settled isPos head isLen body taken
    replace isS5 : s5 = recordTaken s4 i (jnlOf s.dev i).feed (jnlOf s.dev i).consumed len := isS5
    obtain ⟨consumed, count, status⟩ := recordTaken_leaves s4 known (jnlOf s.dev i).feed (jnlOf s.dev i).consumed len
    rw [← isS5] at step consumed count status
    have runs : exec (.replayFeedRecord i produced given) s = .next { s with dev := finish s5 } := by
      show execReplayFeedRecord i produced given s = _
      unfold execReplayFeedRecord
      rw [perform_eq, whole_of_unblocked]
      · rw [mode, on, if_pos ⟨rfl, rfl⟩, step]
      · rw [mode, on, if_pos ⟨rfl, rfl⟩, step]
        exact free
    have records : Reg.SES_JNL_CNT_RECORDS i ≠ 0x150000 := by
      show 0x181008 + 32 * i ≠ 0x150000
      omega
    have apart : Reg.SES_JNL_STATUS i ≠ 0x150000 := by
      show 0x181000 + 32 * i ≠ 0x150000
      omega
    refine ⟨_, runs, consumed, ?_, ?_, sameMem_finish rfl, onlyIn_finish rfl (fun _ _ _ => rfl)⟩
    · rw [withDev_dev, regRead_finish _ _ records]
      exact count
    · intro kind
      rw [withDev_dev, fget_finish _ _ apart]
      refine (congrArg (fun v => bitsOf v 0 2) status).trans ?_
      rw [replayRecord_end kind taken]
      exact fget_endReplay s3 known 0

end Sys2Proof.Machine
end

section
/-!
SUPPORT. Throttle reasons (R464, R465): what one that begins or ends changes of the registers, and what it leaves.
-/
namespace Sys2Proof.Machine

/-! ### Fields -/

/-- Two fields have no bit in common. -/
def Fld.Apart (f g : Fld) : Prop := f.off ≠ g.off ∨ f.lo + f.width ≤ g.lo ∨ g.lo + g.width ≤ f.lo

theorem fget_fset_apart (s : Dev) {f g : Fld} (v : Nat) (within : f.lo + f.width ≤ 64) (apart : f.Apart g) : fget (fset s g v) f = fget s f := by
  by_cases same : f.off = g.off
  · exact fget_fset_bits s g f v same within (apart.resolve_left (not_not.mpr same))
  · exact fget_fset_reg _ _ _ _ same

theorem fget_congr {s t : Dev} (same : t.regs = s.regs) (f : Fld) : fget t f = fget s f :=
  congrArg (fun v => bitsOf v f.lo f.width) (regRead_congr same f.off)

/-- Steps that each keep a field keep it together. -/
theorem fget_foldl {α : Type} {f : Fld} (step : Dev → α → Dev) (l : List α) (keeps : ∀ a ∈ l, ∀ s, fget (step s a) f = fget s f) (s : Dev) :
    fget (l.foldl step s) f = fget s f :=
  List.foldlRecOn (motive := fun t => fget t f = fget s f) _ _ rfl (fun t same a member => (keeps a member t).trans same)

/-! ### The frame of a report -/

/-- Nothing has changed but the registers named, the reasons, what waits for a host, what went out, and the log. -/
structure Told (l : List Nat) (s t : Dev) : Prop where
  regs : SameRegsBut l s t
  rest : t = { s with
    regs := t.regs, power := t.power, host := t.host, out := t.out, log := t.log, flash := { s.flash with romLog := t.flash.romLog } }

namespace Told

theorem refl (l : List Nat) (s : Dev) : Told l s s := ⟨fun _ _ _ => rfl, rfl⟩

theorem trans {l : List Nat} {s t u : Dev} (h : Told l s t) (k : Told l t u) : Told l s u := by
  refine ⟨fun o others shc => (k.regs o others shc).trans (h.regs o others shc), ?_⟩
  rw [k.rest, h.rest]

theorem mono {l l' : List Nat} {s t : Dev} (h : Told l s t) (more : l ⊆ l') : Told l' s t :=
  ⟨fun o others shc => h.regs o (fun named => others (more named)) shc, h.rest⟩

theorem ite {l : List Nat} {s a b : Dev} {c : Prop} [Decidable c] (yes : Told l s a) (no : Told l s b) : Told l s (if c then a else b) := by
  split
  · exact yes
  · exact no

theorem foldl {α : Type} {l : List Nat} {f : Dev → α → Dev} (items : List α) (step : ∀ a ∈ items, ∀ t, Told l t (f t a)) (s : Dev) :
    Told l s (items.foldl f s) :=
  List.foldlRecOn (motive := Told l s) _ _ (.refl l s) (fun t before a member => before.trans (step a member t))

theorem dram {l : List Nat} {s t : Dev} (h : Told l s t) : t.dram = s.dram := by rw [h.rest]
theorem mem {l : List Nat} {s t : Dev} (h : Told l s t) : t.mem = s.mem := by rw [h.rest]
theorem time {l : List Nat} {s t : Dev} (h : Told l s t) : t.time = s.time := by rw [h.rest]

/-- A step that is told of, closed. -/
theorem onlyIn {l : List Nat} {s : State} {u : Dev} (h : Told l s.dev u) : OnlyIn l s { s with dev := finish u }
    { s.dev with power := (finish u).power, host := (finish u).host, out := (finish u).out, log := (finish u).log, flash := (finish u).flash } := by
  obtain ⟨regs, rest⟩ := h
  refine onlyIn_finish ?_ regs
  rw [finish_power, finish_host, finish_out, finish_log, finish_flash, rest]

theorem fget {l : List Nat} {s t : Dev} (h : Told l s t) {f : Fld} (other : f.off ∉ l) (shc : f.off ≠ 0x150000) : fget t f = Machine.fget s f :=
  congrArg (fun v => bitsOf v f.lo f.width) (h.regs f.off other shc)

end Told

theorem told_regWrite {l : List Nat} (s : Dev) {o : Nat} (v : Nat) (named : o ∈ l) : Told l s (regWrite s o v) :=
  ⟨fun _ others _ => regRead_regWrite_other _ _ _ _ (fun own => others (own ▸ named)), rfl⟩

theorem told_fset {l : List Nat} (s : Dev) (f : Fld) (v : Nat) (named : f.off ∈ l) : Told l s (fset s f v) := told_regWrite s _ named

theorem told_power (l : List Nat) (s : Dev) (p : Power) : Told l s { s with power := p } := ⟨fun _ _ _ => rfl, rfl⟩

theorem OnlyLog.told {l : List Nat} {s t : Dev} (h : OnlyLog s t) (logged : logRegs ⊆ l) : Told l s t := by
  obtain ⟨regs, rest⟩ := h.and []
  exact ⟨fun o others shc => regs o (fun named => others (logged named)) shc, by rw [rest]⟩

theorem told_sendMsix {l : List Nat} (s : Dev) (fn vec : Nat) (named : Reg.HST_CNT_DROPPED_CPL ∈ l) : Told l s (sendMsix s fn vec) := by
  unfold sendMsix
  dsimp only
  split
  · exact told_regWrite s _ named
  · split
    · exact ⟨fun _ _ _ => rfl, rfl⟩
    · exact ⟨fun _ _ _ => rfl, rfl⟩

/-! ### Showing the reasons (R364, R465, R473) -/

/-- A field that a report of reasons leaves. -/
structure Fld.Spared (f : Fld) : Prop where
  within : f.lo + f.width ≤ 64
  progress : f.off ≠ Reg.FAB_PROGRESS
  status : f.off = Reg.PWR_STATUS → f.lo + f.width ≤ 48 ∨ 56 ≤ f.lo
  island : ∀ i, i < 44 → f.off = Reg.PWR_ISLAND i → f.lo + f.width ≤ 40 ∨ 48 ≤ f.lo
  log : f.off < 0x1E0000 ∨ 0x1F0000 ≤ f.off
  dropped : f.off ≠ Reg.HST_CNT_DROPPED_CPL
  count : f.off < 0x1F0300 ∨ 0x1F0400 ≤ f.off
  shc : f.off ≠ 0x150000

/-- A field of a register that no report touches. -/
theorem Fld.spared_elsewhere {f : Fld} (within : f.lo + f.width ≤ 64) (low : f.off ≠ 0x150000 ∧ f.off < 0x190000 ∨ 0x1F0008 ≤ f.off)
    (high : f.off < 0x1F0300 ∨ 0x1F0560 ≤ f.off) : f.Spared := by
  refine ⟨within, ?_, fun own => absurd own ?_, fun i known own => absurd own ?_, by omega, ?_, by omega, by omega⟩
  · show f.off ≠ 0x190008
    omega
  · show f.off ≠ 0x1F0000
    omega
  · show f.off ≠ 0x1F0400 + 8 * i
    omega
  · show f.off ≠ 0x1A0090
    omega

/-- A field of an island's register beside its reasons. -/
theorem Fld.spared_island {f : Fld} {i : Nat} (known : i < 44) (own : f.off = Reg.PWR_ISLAND i) (within : f.lo + f.width ≤ 64)
    (apart : f.lo + f.width ≤ 40 ∨ 48 ≤ f.lo) : f.Spared := by
  have place : f.off = 0x1F0400 + 8 * i := own
  refine ⟨within, ?_, fun own => absurd own ?_, fun _ _ _ => apart, by omega, ?_, by omega, by omega⟩
  · show f.off ≠ 0x190008
    omega
  · show f.off ≠ 0x1F0000
    omega
  · show f.off ≠ 0x1A0090
    omega

/-- A field of PWR_STATUS beside REASONS. -/
theorem Fld.spared_status {f : Fld} (own : f.off = Reg.PWR_STATUS) (within : f.lo + f.width ≤ 64) (apart : f.lo + f.width ≤ 48 ∨ 56 ≤ f.lo) : f.Spared := by
  have place : f.off = 0x1F0000 := own
  refine ⟨within, ?_, fun _ => apart, fun i known own => absurd own ?_, by omega, ?_, by omega, by omega⟩
  · show f.off ≠ 0x190008
    omega
  · show f.off ≠ 0x1F0400 + 8 * i
    omega
  · show f.off ≠ 0x1A0090
    omega

/-- The registers that show the reasons. -/
def shownRegs : List Nat := [Reg.PWR_STATUS, Reg.FAB_PROGRESS] ++ (List.range 44).map Reg.PWR_ISLAND

/-- What shows the reasons writes registers alone. -/
theorem regWrites_shape {α : Type} (l : List α) {f : Dev → α → Dev} (step : ∀ t a, ∃ regs, f t a = { t with regs := regs }) (s : Dev) :
    ∃ regs, l.foldl f s = { s with regs := regs } := by
  refine List.foldlRecOn (motive := fun t : Dev => ∃ regs : Tbl Word64, t = { s with regs := regs }) _ _ ⟨s.regs, rfl⟩ (fun t before a _ => ?_)
  obtain ⟨regs, rfl⟩ := before
  obtain ⟨regs', after⟩ := step { s with regs := regs } a
  exact ⟨regs', after⟩

theorem updateProgress_shape (s : Dev) : ∃ regs, updateProgress s = { s with regs := regs } := ⟨_, rfl⟩

theorem showReasons_shape (s : Dev) : ∃ regs, showReasons s = { s with regs := regs } := by
  obtain ⟨u, isU⟩ : ∃ u, u = fset s RF.PWR_STATUS_REASONS ((List.range 8).foldl (fun n i => if reasonOn s (i + 1) then n + 2 ^ i else n) 0) := ⟨_, rfl⟩
  obtain ⟨regs, shown⟩ := regWrites_shape (List.range 44) (f := fun s i => fset s (RF.PWR_ISLAND_REASONS i) (islandReasons s i))
    (fun t i => ⟨_, rfl⟩) u
  obtain ⟨regs', after⟩ := updateProgress_shape ((List.range 44).foldl (fun s i => fset s (RF.PWR_ISLAND_REASONS i) (islandReasons s i)) u)
  refine ⟨regs', ?_⟩
  unfold showReasons
  dsimp only
  rw [← isU, after, shown, isU]
  rfl

theorem told_showReasons {l : List Nat} (s : Dev) (shown : shownRegs ⊆ l) : Told l s (showReasons s) := by
  have progress : Reg.FAB_PROGRESS ∈ l := shown (by decide)
  have status : Reg.PWR_STATUS ∈ l := shown (by decide)
  have island : ∀ i ∈ List.range 44, Reg.PWR_ISLAND i ∈ l := fun i known => shown (List.mem_append_right _ (List.mem_map_of_mem known))
  unfold showReasons
  dsimp only
  exact (told_fset s RF.PWR_STATUS_REASONS _ status).trans
    ((Told.foldl _ (fun i known t => told_fset t (RF.PWR_ISLAND_REASONS i) (islandReasons t i) (island i known)) _).trans (told_regWrite _ _ progress))

theorem fget_updateProgress (s : Dev) {f : Fld} (other : f.off ≠ Reg.FAB_PROGRESS) : fget (updateProgress s) f = fget s f :=
  congrArg (fun v => bitsOf v f.lo f.width) (regRead_regWrite_other _ _ _ _ other)

theorem fget_showReasons (s : Dev) {f : Fld} (spared : f.Spared) : fget (showReasons s) f = fget s f := by
  unfold showReasons
  dsimp only
  rw [fget_updateProgress _ spared.progress, fget_foldl]
  · refine fget_fset_apart _ _ spared.within ?_
    by_cases own : f.off = Reg.PWR_STATUS
    · exact .inr (spared.status own)
    · exact .inl own
  · intro i known t
    refine fget_fset_apart _ _ spared.within ?_
    by_cases own : f.off = Reg.PWR_ISLAND i
    · exact .inr (spared.island i (List.mem_range.mp known) own)
    · exact .inl own

/-! ### Reasons that begin and end (R465) -/

theorem reasonRegs_shown (r : Nat) : shownRegs ⊆ reasonRegs r := by
  intro o shown
  unfold shownRegs at shown
  unfold reasonRegs
  simp only [List.mem_append, List.mem_cons, List.not_mem_nil, or_false] at shown ⊢
  obtain (rfl | rfl) | island := shown
  · exact .inl (.inl (.inl rfl))
  · exact .inl (.inl (.inr (.inl rfl)))
  · exact .inl (.inr island)

theorem endReason_shape (s : Dev) (r unit : Nat) : ∃ regs, endReason s r unit
    = { s with regs := regs, power := { s.power with applies := s.power.applies.filter (· != (r, unit)) } } := by
  obtain ⟨regs, shown⟩ := showReasons_shape { s with power := { s.power with applies := s.power.applies.filter (· != (r, unit)) } }
  exact ⟨regs, shown⟩

theorem told_endReason {l : List Nat} (s : Dev) (r unit : Nat) (shown : shownRegs ⊆ l) : Told l s (endReason s r unit) :=
  (told_power l s _).trans (told_showReasons _ shown)

theorem fget_endReason (s : Dev) (r unit : Nat) {f : Fld} (spared : f.Spared) : fget (endReason s r unit) f = fget s f :=
  fget_showReasons { s with power := { s.power with applies := s.power.applies.filter (· != (r, unit)) } } spared

theorem not_mem_endReason (s : Dev) (r unit : Nat) : (r, unit) ∉ (endReason s r unit).power.applies := by
  obtain ⟨regs, shape⟩ := endReason_shape s r unit
  rw [shape]
  simp

@[simp] theorem sendMsix_power (s : Dev) (fn vec : Nat) : (sendMsix s fn vec).power = s.power := by
  unfold sendMsix
  dsimp only
  split
  · rfl
  · split
    · rfl
    · rfl

/-- The reason's count and its entry in the log. -/
theorem logThrottle_leaves (u : Dev) {r : Nat} (reason : r ≤ 8) (unit : Nat) (first : Bool) {w : Dev}
    (isW : w = logThrottle (if first then bump u (Reg.PWR_THR_CNT r) else u) r unit) :
    Told (reasonRegs r) u w ∧ w.power = u.power ∧ ∀ f : Fld, f.Spared → fget w f = fget u f := by
  obtain ⟨v, isV⟩ : ∃ v, v = if first then bump u (Reg.PWR_THR_CNT r) else u := ⟨_, rfl⟩
  rw [← isV] at isW
  have counts : Reg.PWR_THR_CNT r ∈ reasonRegs r := by simp [reasonRegs]
  have entered : OnlyLog v w := isW ▸ onlyLog_logThrottle v r unit
  have counted : Told (reasonRegs r) u v := isV ▸ .ite (told_regWrite _ _ counts) (.refl _ _)
  refine ⟨counted.trans (entered.told (List.subset_append_right _ _)), ?_, fun f spared => ?_⟩
  · rw [entered.power, isV]
    split
    · exact bump_power _ _
    · rfl
  · have other : f.off ≠ Reg.PWR_THR_CNT r := by
      have := spared.count
      show f.off ≠ 0x1F0308 + 16 * (r - 1)
      omega
    have unlogged : ¬ isLogReg f.off := by
      rw [← mem_logRegs]
      have above : ∀ o ∈ logRegs, 0x1E0000 ≤ o ∧ o < 0x1F0000 := by decide
      have := spared.log
      intro named
      have := above _ named
      omega
    rw [entered.fget f unlogged, isV]
    split
    · exact fget_bump_other _ _ _ other
    · rfl

/-- The message of a reason (R465). -/
theorem tellReason_leaves (w : Dev) (r at' vec : Nat) {z : Dev}
    (isZ : z = sendMsix { w with power := { w.power with told := tset w.power.told r at' } } 0 vec) :
    Told (reasonRegs r) w z ∧ z.power = { w.power with told := tset w.power.told r at' } ∧ ∀ f : Fld, f.Spared → fget z f = fget w f := by
  have drops : Reg.HST_CNT_DROPPED_CPL ∈ reasonRegs r := by simp [reasonRegs]
  obtain ⟨y, isY⟩ : ∃ y, y = { w with power := { w.power with told := tset w.power.told r at' } } := ⟨_, rfl⟩
  have noted : Told (reasonRegs r) w y := isY ▸ told_power _ w _
  rw [← isY] at isZ
  rw [isZ]
  refine ⟨noted.trans (told_sendMsix y 0 _ drops), ?_, fun f spared => ?_⟩
  · rw [sendMsix_power, isY]
  · refine ((told_sendMsix (l := [Reg.HST_CNT_DROPPED_CPL]) y 0 _ (List.mem_singleton_self _)).fget ?_ spared.shc).trans ?_
    · rw [List.mem_singleton]
      exact spared.dropped
    · rw [isY]
      rfl

/-- What a report leaves of the fields of other registers, and of power beside the reasons. -/
structure Reported (r : Nat) (s t : Dev) : Prop where
  told : Told (reasonRegs r) s t
  fields : ∀ f : Fld, f.Spared → fget t f = fget s f
  power : ∃ applies told, t.power = { s.power with applies := applies, told := told }

/-- A reason that begins applies (R465). -/
theorem beginReason_leaves (s : Dev) {r : Nat} (reason : r ≤ 8) (unit : Nat) :
    Reported r s (beginReason s r unit) ∧ (r, unit) ∈ (beginReason s r unit).power.applies := by
  unfold beginReason
  split
  · next already => exact ⟨⟨.refl _ s, fun _ _ => rfl, _, _, rfl⟩, List.contains_iff_mem.mp already⟩
  · obtain ⟨u, isU⟩ : ∃ u, u = showReasons { s with power := { s.power with applies := s.power.applies ++ [(r, unit)] } } := ⟨_, rfl⟩
    obtain ⟨w, isW⟩ : ∃ w, w = logThrottle (if !reasonOn s r then bump u (Reg.PWR_THR_CNT r) else u) r unit := ⟨_, rfl⟩
    obtain ⟨logged, same, fields⟩ := logThrottle_leaves u reason unit _ isW
    have shown : Told (reasonRegs r) s u := isU ▸ (told_power _ s _).trans (told_showReasons _ (reasonRegs_shown r))
    have power : w.power = { s.power with applies := s.power.applies ++ [(r, unit)] } := by
      obtain ⟨regs, shape⟩ := showReasons_shape { s with power := { s.power with applies := s.power.applies ++ [(r, unit)] } }
      rw [same, isU, shape]
    have kept : ∀ f : Fld, f.Spared → fget w f = fget s f := fun f spared => by
      rw [fields f spared, isU, fget_showReasons _ spared]
      rfl
    have last (tells : Bool) (vec : Nat) {z : Dev}
        (isZ : z = if tells then sendMsix { w with power := { w.power with told := tset w.power.told r w.time.hw } } 0 vec else w) :
        Reported r s z ∧ (r, unit) ∈ z.power.applies := by
      cases tells with
      | true =>
        obtain ⟨told, after, fields'⟩ := tellReason_leaves w r w.time.hw vec isZ
        rw [power] at after
        exact ⟨⟨(shown.trans logged).trans told, fun f spared => (fields' f spared).trans (kept f spared), _, _, after⟩, by rw [after]; simp⟩
      | false =>
        replace isZ : z = w := isZ
        rw [isZ]
        exact ⟨⟨shown.trans logged, kept, _, _, power⟩, by rw [power]; simp⟩
    dsimp only
    rw [← isU, ← isW]
    exact last _ _ rfl

theorem endReason_leaves (s : Dev) (r unit : Nat) : Reported r s (endReason s r unit) := by
  obtain ⟨regs, shape⟩ := endReason_shape s r unit
  refine ⟨told_endReason s r unit (reasonRegs_shown r), fun f spared => fget_endReason s r unit spared, ?_⟩
  rw [shape]
  exact ⟨_, _, rfl⟩

theorem setReason_leaves (s : Dev) {r : Nat} (reason : r ≤ 8) (unit : Nat) (on : Bool) : Reported r s (setReason s r unit on) := by
  unfold setReason
  split
  · exact (beginReason_leaves s reason unit).1
  · exact endReason_leaves s r unit

end Sys2Proof.Machine
end

section
/-!
SUPPORT. Thermal states of the stacks and packages of memory (R256 to R259).
-/
namespace Sys2Proof.Machine

/-! ### The frame -/

/-- Nothing has changed but the registers named, the controllers' own state, the reasons, what waits for a host, what went out, and the log. -/
structure Warmed (l : List Nat) (s t : Dev) : Prop where
  regs : SameRegsBut l s t
  rest : t = { s with
    regs := t.regs, mem := t.mem, power := t.power, host := t.host, out := t.out, log := t.log, flash := { s.flash with romLog := t.flash.romLog } }

theorem Told.warmed {l : List Nat} {s t : Dev} (h : Told l s t) : Warmed l s t := ⟨h.regs, h.rest.trans (by rw [h.rest])⟩

theorem Warmed.refl (l : List Nat) (s : Dev) : Warmed l s s := ⟨fun _ _ _ => rfl, rfl⟩

theorem Warmed.trans {l : List Nat} {s t u : Dev} (h : Warmed l s t) (k : Warmed l t u) : Warmed l s u := by
  refine ⟨fun o others shc => (k.regs o others shc).trans (h.regs o others shc), ?_⟩
  rw [k.rest, h.rest]

theorem Warmed.dram {l : List Nat} {s t : Dev} (h : Warmed l s t) : t.dram = s.dram := by rw [h.rest]

theorem Warmed.onlyIn {l : List Nat} {s : State} {u : Dev} (h : Warmed l s.dev u) : OnlyIn l s { s with dev := finish u }
    { s.dev with mem := (finish u).mem, power := (finish u).power, host := (finish u).host, out := (finish u).out, log := (finish u).log,
                 flash := (finish u).flash } := by
  obtain ⟨regs, rest⟩ := h
  refine onlyIn_finish ?_ regs
  rw [finish_mem, finish_power, finish_host, finish_out, finish_log, finish_flash, rest]

theorem warmed_modUnit (l : List Nat) (s : Dev) (u : Nat) (f : ThermalUnit → ThermalUnit) : Warmed l s (modUnit s u f) := ⟨fun _ _ _ => rfl, rfl⟩

/-! ### Fields of a unit -/

section
variable {u : Nat}

theorem thermalFld_low (known : u < 40) : 0x163400 ≤ (thermalFld u).off ∧ (thermalFld u).off < 0x163900 := by
  unfold thermalFld
  split
  · show 0x163400 ≤ 0x163800 + 8 * u ∧ 0x163800 + 8 * u < 0x163900
    omega
  · show 0x163400 ≤ 0x163400 + 8 * (u - 8) ∧ 0x163400 + 8 * (u - 8) < 0x163900
    omega

@[simp] theorem dutyFld_off : (dutyFld u).off = (thermalFld u).off := by
  unfold dutyFld thermalFld
  split
  · rfl
  · rfl

@[simp] theorem thermalFld_width : (thermalFld u).width = 2 := by
  unfold thermalFld
  split
  · rfl
  · rfl

@[simp] theorem dutyFld_width : (dutyFld u).width = 4 := by
  unfold dutyFld
  split
  · rfl
  · rfl

theorem thermalFld_within : (thermalFld u).lo + (thermalFld u).width ≤ (dutyFld u).lo ∧ (dutyFld u).lo + (dutyFld u).width ≤ 64 := by
  unfold thermalFld dutyFld
  split
  · exact ⟨Nat.le_of_ble_eq_true rfl, Nat.le_of_ble_eq_true rfl⟩
  · exact ⟨Nat.le_of_ble_eq_true rfl, Nat.le_of_ble_eq_true rfl⟩

theorem thermalFld_spared (known : u < 40) : (thermalFld u).Spared := by
  have := thermalFld_low known
  have := thermalFld_within (u := u)
  exact Fld.spared_elsewhere (by omega) (by omega) (by omega)

theorem dutyFld_spared (known : u < 40) : (dutyFld u).Spared := by
  have := thermalFld_low known
  have := thermalFld_within (u := u)
  exact Fld.spared_elsewhere (by omega) (by rw [dutyFld_off]; omega) (by rw [dutyFld_off]; omega)

end

/-! ### Events and states -/

/-- The registers of a unit's thermal state, with its events and its reason. -/
def thermalRegs (u : Nat) : List Nat := [(thermalFld u).off, Reg.MEM_CNT_THERMAL_EVENTS] ++ reasonRegs 4

theorem reasonRegs_thermal (u : Nat) : reasonRegs 4 ⊆ thermalRegs u := List.subset_append_right _ _

/-- A thermal event is counted, entered in the log, and told (R259). -/
theorem thermalEvent_leaves (s : Dev) (u : Nat) : Told (thermalRegs u) s (thermalEvent s u)
    ∧ ∀ f : Fld, f.Spared → f.off ≠ Reg.MEM_CNT_THERMAL_EVENTS → fget (thermalEvent s u) f = fget s f := by
  obtain ⟨v, isV⟩ : ∃ v, v = bump s Reg.MEM_CNT_THERMAL_EVENTS := ⟨_, rfl⟩
  have counted : Told (thermalRegs u) s v := isV ▸ told_regWrite s _ (List.mem_cons_of_mem _ (List.mem_cons_self ..))
  have kept (f : Fld) (other : f.off ≠ Reg.MEM_CNT_THERMAL_EVENTS) : fget v f = fget s f := isV ▸ fget_bump_other _ _ _ other
  unfold thermalEvent
  dsimp only
  rw [← isV]
  split
  · obtain ⟨told, -, fields⟩ := logThrottle_leaves v (r := 4) (by decide) (thermalUnitCode u) false rfl
    exact ⟨counted.trans (told.mono (reasonRegs_thermal u)), fun f spared other => (fields f spared).trans (kept f other)⟩
  · obtain ⟨reported, -⟩ := beginReason_leaves v (r := 4) (by decide) (thermalUnitCode u)
    exact ⟨counted.trans (reported.told.mono (reasonRegs_thermal u)), fun f spared other => (reported.fields f spared).trans (kept f other)⟩

/-- A unit enters a state (R256, R257): one that is shut down stays so. -/
theorem setThermal_leaves (s : Dev) {u t : Nat} (known : u < 40) (state : t < 4) : Warmed (thermalRegs u) s (setThermal s u t)
    ∧ fget (setThermal s u t) (thermalFld u) = (if fget s (thermalFld u) = 3 then 3 else t)
    ∧ (fget (setThermal s u t) (thermalFld u) ≠ fget s (thermalFld u) → fget (setThermal s u t) (dutyFld u) = if t = 2 then 1 else 0)
    ∧ ∀ f : Fld, f.Spared → f.off ≠ Reg.MEM_CNT_THERMAL_EVENTS → f.Apart (thermalFld u) → f.Apart (dutyFld u) → fget (setThermal s u t) f = fget s f := by
  have low := thermalFld_low known
  have ⟨order, within⟩ := thermalFld_within (u := u)
  have uncounted : (thermalFld u).off ≠ Reg.MEM_CNT_THERMAL_EVENTS := by
    show (thermalFld u).off ≠ 0x160088
    omega
  unfold setThermal
  dsimp only
  split
  · next stays =>
    refine ⟨.refl _ s, ?_, fun moved => absurd rfl moved, fun _ _ _ _ _ => rfl⟩
    split
    · assumption
    · next up => exact stays.resolve_right up
  · next moves =>
    rw [not_or] at moves
    obtain ⟨moved, up⟩ := moves
    obtain ⟨v, isV⟩ : ∃ v, v = fset (fset s (thermalFld u) t) (dutyFld u) (if t = 2 then 1 else 0) := ⟨_, rfl⟩
    have thermal : fget v (thermalFld u) = t := by
      rw [isV, fget_fset_apart _ _ (by omega) (.inr (.inl order)), fget_fset_same _ _ _ (by omega), thermalFld_width]
      omega
    have duty : fget v (dutyFld u) = if t = 2 then 1 else 0 := by
      rw [isV, fget_fset_same _ _ _ within, dutyFld_width]
      split
      · rfl
      · rfl
    have kept (f : Fld) (spared : f.Spared) (a : f.Apart (thermalFld u)) (b : f.Apart (dutyFld u)) : fget v f = fget s f := by
      rw [isV, fget_fset_apart _ _ spared.within b, fget_fset_apart _ _ spared.within a]
    have own : (thermalFld u).off ∈ thermalRegs u := List.mem_cons_self ..
    have written : Warmed (thermalRegs u) s v := by
      rw [isV]
      exact ((told_fset s (thermalFld u) t own).trans (told_fset _ (dutyFld u) _ (by rw [dutyFld_off]; exact own))).warmed
    obtain ⟨w, isW⟩ : ∃ w, w = if t = 2 then v else modUnit v u (fun x => { x with paused := false }) := ⟨_, rfl⟩
    have released : Warmed (thermalRegs u) v w := by
      rw [isW]
      split
      · exact .refl _ v
      · exact warmed_modUnit _ v u _
    have sameRegs : w.regs = v.regs := by
      rw [isW]
      split
      · rfl
      · rfl
    rw [← isV, ← isW, if_neg up]
    have last {z : Dev} (told : Told (thermalRegs u) w z)
        (fields : ∀ f : Fld, f.Spared → f.off ≠ Reg.MEM_CNT_THERMAL_EVENTS → fget z f = fget w f) :
        Warmed (thermalRegs u) s z ∧ fget z (thermalFld u) = t
          ∧ (fget z (thermalFld u) ≠ fget s (thermalFld u) → fget z (dutyFld u) = if t = 2 then 1 else 0)
          ∧ ∀ f : Fld, f.Spared → f.off ≠ Reg.MEM_CNT_THERMAL_EVENTS → f.Apart (thermalFld u) → f.Apart (dutyFld u) → fget z f = fget s f := by
      refine ⟨(written.trans released).trans told.warmed, ?_, fun _ => ?_, fun f spared other a b => ?_⟩
      · rw [fields _ (thermalFld_spared known) uncounted, fget_congr sameRegs, thermal]
      · rw [fields _ (dutyFld_spared known) (by rw [dutyFld_off]; exact uncounted), fget_congr sameRegs, duty]
      · rw [fields f spared other, fget_congr sameRegs, kept f spared a b]
    split
    · have reported := endReason_leaves w 4 (thermalUnitCode u)
      exact last (reported.told.mono (reasonRegs_thermal u)) (fun f spared _ => reported.fields f spared)
    · obtain ⟨told, fields⟩ := thermalEvent_leaves w u
      exact last told fields

end Sys2Proof.Machine
end

section
/-!
SUPPORT. The clauses of temperature in the tiers of memory (R256 to R259).
-/
namespace Sys2Proof.Machine

/-! ### Reports -/

/-- The hotter of the two, and of two that are as hot the first. -/
def hotter (b p : Nat × Nat) : Nat × Nat := if p.2 > b.2 then p else b

theorem hotter_below {hot : Nat} (l : List (Nat × Nat)) (b : Nat × Nat) (below : ∀ p ∈ l, p.2 < hot) (first : b.2 < hot) : (l.foldl hotter b).2 < hot := by
  refine List.foldlRecOn (motive := fun b : Nat × Nat => b.2 < hot) _ _ first (fun b before p member => ?_)
  unfold hotter
  split
  · exact below p member
  · exact before

theorem hotter_top (l : List (Nat × Nat)) (b : Nat × Nat) (below : ∀ p ∈ l, p.2 ≤ b.2) : l.foldl hotter b = b := by
  refine List.foldlRecOn (motive := fun c => c = b) _ _ rfl (fun c before p member => ?_)
  rw [before]
  exact if_neg (Nat.not_lt.mpr (below p member))

/-- The first of the hottest layers (R256). -/
theorem hottest_first {temps : List Nat} {layer hot : Nat} (place : temps[layer]? = some hot)
    (top : ∀ j x, temps[j]? = some x → x ≤ hot ∧ (j < layer → x < hot)) : hottest temps = (layer, hot) := by
  obtain ⟨inside, value⟩ := List.getElem?_eq_some_iff.mp place
  obtain ⟨z, isZ⟩ : ∃ z, z = (List.range temps.length).zip temps := ⟨_, rfl⟩
  have long : z.length = temps.length := by simp [isZ]
  have entry (j : Nat) (h : j < z.length) : z[j] = (j, temps[j]'(long ▸ h)) := by simp [isZ]
  have here : z[layer]'(long.symm ▸ inside) = (layer, hot) := by rw [entry, value]
  have before : ∀ p ∈ z.take layer, p.2 < hot := by
    intro p member
    obtain ⟨j, bound, rfl⟩ := List.mem_take_iff_getElem.mp member
    have short : j < temps.length := by omega
    rw [entry]
    exact (top j _ (List.getElem?_eq_getElem short)).2 (by omega)
  have after : ∀ p ∈ z.drop (layer + 1), p.2 ≤ hot := by
    intro p member
    obtain ⟨j, bound, rfl⟩ := List.mem_drop_iff_getElem.mp member
    have short : layer + 1 + j < temps.length := by omega
    rw [entry]
    exact (top _ _ (List.getElem?_eq_getElem short)).1
  have parts : z = z.take layer ++ (layer, hot) :: z.drop (layer + 1) := by
    rw [← here, List.getElem_cons_drop, List.take_append_drop]
  have reached : (z.take layer).foldl hotter (0, temps.headD 0) = (layer, hot) ∨ ((z.take layer).foldl hotter (0, temps.headD 0)).2 < hot := by
    by_cases zero : layer = 0
    · subst zero
      have head : temps.headD 0 = hot := by
        cases temps with
        | nil => exact absurd inside (Nat.not_lt_zero _)
        | cons a l => exact value
      rw [List.take_zero, head]
      exact .inl rfl
    · refine .inr (hotter_below _ _ before ?_)
      have first := (top 0 _ (List.getElem?_eq_getElem (show 0 < temps.length by omega))).2 (by omega)
      cases temps with
      | nil => exact absurd inside (Nat.not_lt_zero _)
      | cons a l => exact first
  have folded : hottest temps = z.foldl hotter (0, temps.headD 0) := by
    rw [isZ]
    rfl
  have now : hotter ((z.take layer).foldl hotter (0, temps.headD 0)) (layer, hot) = (layer, hot) := by
    unfold hotter at reached ⊢
    obtain same | less := reached
    · rw [same]
      exact if_neg (lt_irrefl _)
    · exact if_pos less
  rw [folded, parts, List.foldl_append, List.foldl_cons, now]
  exact hotter_top _ _ after

/-- What a report's temperature leads to (R256), with a unit that is shut down kept so. -/
theorem nextThermal_eq (old hot : Nat) : (if old = 3 then 3 else nextThermal old hot)
    = (if old = 3 then 3 else if hot ≥ 105 then 2 else if old = 2 then (if hot < 102 then 1 else 2)
        else if old = 1 then (if hot < 92 then 0 else 1) else if hot ≥ 95 then 1 else 0) := by
  unfold nextThermal
  split
  · rfl
  · split
    · rfl
    · split
      · rfl
      · rfl
      · next two one =>
        have notTwo : ¬ old = 2 := two
        have notOne : ¬ old = 1 := one
        simp only [notTwo, notOne, if_false]

theorem nextThermal_lt (old hot : Nat) : nextThermal old hot < 4 := by
  unfold nextThermal
  repeat' split
  all_goals omega

/-! ### The clauses -/

section
variable {s : State}

/-- A report that writes fields of a unit and sets when it became hot, and then moves the unit (R256, R257). -/
theorem report_onlyIn {v : Dev} {unit t : Nat} {l : List Nat} (known : unit < 40) (state : t < 4) (sub : thermalRegs unit ⊆ l) (written : Warmed l s.dev v) :
    SameMem s.dev (finish (setThermal v unit t)) ∧ OnlyIn l s { s with dev := finish (setThermal v unit t) }
      { s.dev with mem := (finish (setThermal v unit t)).mem, power := (finish (setThermal v unit t)).power,
                   host := (finish (setThermal v unit t)).host, out := (finish (setThermal v unit t)).out,
                   log := (finish (setThermal v unit t)).log, flash := (finish (setThermal v unit t)).flash } := by
  obtain ⟨moved, -⟩ := setThermal_leaves v known state
  have all := written.trans (⟨fun o others shc => moved.regs o (fun named => others (sub named)) shc, moved.rest⟩ : Warmed l v _)
  exact ⟨sameMem_finish all.dram, all.onlyIn⟩

/-- STACK_THERMAL_REPORT (R256, R258). -/
theorem exec_stackThermalReport {stack layer hot : Nat} {temps : List Nat} (known : stack < 8) (sixteen : temps.length = 16)
    (place : temps[layer]? = some hot) (byte : hot < 256) (top : ∀ j x, temps[j]? = some x → x ≤ hot ∧ (j < layer → x < hot)) :
    ∃ t, exec (.stackThermalReport stack temps) s = .next t ∧ SameMem s.dev t.dev
      ∧ fget t.dev (RF.MEM_A_THERMAL_HOT_TEMP stack) = hot ∧ fget t.dev (RF.MEM_A_THERMAL_HOT_LAYER stack) = layer
      ∧ (let old := fget s.dev (RF.MEM_A_THERMAL_THERMAL stack)
         let new := if old = 3 then 3 else if hot ≥ 105 then 2 else if old = 2 then (if hot < 102 then 1 else 2)
           else if old = 1 then (if hot < 92 then 0 else 1) else if hot ≥ 95 then 1 else 0
         fget t.dev (RF.MEM_A_THERMAL_THERMAL stack) = new
           ∧ (new ≠ old → fget t.dev (RF.MEM_A_THERMAL_DUTY stack) = if new = 2 then 1 else 0))
      ∧ OnlyIn ([Reg.MEM_A_THERMAL stack, Reg.MEM_CNT_THERMAL_EVENTS] ++ reasonRegs 4) s t
          { s.dev with mem := t.dev.mem, power := t.dev.power, host := t.dev.host, out := t.dev.out, log := t.dev.log, flash := t.dev.flash } := by
  have unit : stack < 40 := by omega
  have short : layer < 16 := sixteen ▸ (List.getElem?_eq_some_iff.mp place).1
  have thermal : thermalFld stack = RF.MEM_A_THERMAL_THERMAL stack := if_pos known
  have duty : dutyFld stack = RF.MEM_A_THERMAL_DUTY stack := if_pos known
  have regs : thermalRegs stack = [Reg.MEM_A_THERMAL stack, Reg.MEM_CNT_THERMAL_EVENTS] ++ reasonRegs 4 := by
    unfold thermalRegs
    rw [thermal]
    rfl
  have low := thermalFld_low unit
  rw [thermal] at low
  obtain ⟨f, isF⟩ : ∃ f, f = RF.MEM_A_THERMAL_HOT_TEMP stack := ⟨_, rfl⟩
  obtain ⟨g, isG⟩ : ∃ g, g = RF.MEM_A_THERMAL_HOT_LAYER stack := ⟨_, rfl⟩
  have fOff : f.off = (RF.MEM_A_THERMAL_THERMAL stack).off := by
    rw [isF]
    rfl
  have gOff : g.off = (RF.MEM_A_THERMAL_THERMAL stack).off := by
    rw [isG]
    rfl
  have fSpan : f.lo = 0 ∧ f.width = 8 := by
    rw [isF]
    exact ⟨rfl, rfl⟩
  have gSpan : g.lo = 8 ∧ g.width = 4 := by
    rw [isG]
    exact ⟨rfl, rfl⟩
  obtain ⟨fLo, fWidth⟩ := fSpan
  obtain ⟨gLo, gWidth⟩ := gSpan
  have own : (RF.MEM_A_THERMAL_THERMAL stack).off ∈ thermalRegs stack := thermal ▸ List.mem_cons_self ..
  obtain ⟨v, isV⟩ : ∃ v, v = fset (fset s.dev f hot) g layer := ⟨_, rfl⟩
  obtain ⟨w, isW⟩ : ∃ w, w = modUnit v stack (fun x => { x with hotSince := if hot ≥ 115 then some (x.hotSince.getD
      (if stack < 4 then v.time.mn else v.time.ms)) else none }) := ⟨_, rfl⟩
  have written : Warmed (thermalRegs stack) s.dev w := by
    have first : Told (thermalRegs stack) s.dev v := by
      rw [isV]
      exact (told_fset _ f hot (fOff ▸ own)).trans (told_fset _ g layer (gOff ▸ own))
    rw [isW]
    exact first.warmed.trans (warmed_modUnit _ _ _ _)
  have same : w.regs = v.regs := by
    rw [isW]
    rfl
  have hotTemp : fget v f = hot := by
    rw [isV, fget_fset_apart _ _ (by omega) (.inr (.inl (by omega))), fget_fset_same _ _ _ (by omega), fWidth]
    omega
  have hotLayer : fget v g = layer := by
    rw [isV, fget_fset_same _ _ _ (by omega), gWidth]
    omega
  have old : fget w (thermalFld stack) = fget s.dev (RF.MEM_A_THERMAL_THERMAL stack) := by
    have lo : (RF.MEM_A_THERMAL_THERMAL stack).lo = 12 := rfl
    have width : (RF.MEM_A_THERMAL_THERMAL stack).width = 2 := rfl
    rw [thermal, fget_congr same, isV, fget_fset_apart _ _ (by omega) (.inr (.inr (by omega))), fget_fset_apart _ _ (by omega) (.inr (.inr (by omega)))]
  obtain ⟨n, isN⟩ : ∃ n, n = nextThermal (fget w (thermalFld stack)) hot := ⟨_, rfl⟩
  have ran : exec (.stackThermalReport stack temps) s = .next { s with dev := finish (setThermal w stack n) } := by
    show execStackThermalReport stack temps s = _
    unfold execStackThermalReport
    rw [perform_eq]
    dsimp only
    rw [if_neg (Nat.not_le.mpr known), hottest_first place top, ← isF, ← isG]
    dsimp only
    rw [← isV, ← isW, ← isN]
  obtain ⟨-, reached, level, fields⟩ := setThermal_leaves w unit (isN ▸ nextThermal_lt _ _ : n < 4)
  obtain ⟨sameMem, onlyIn⟩ := report_onlyIn (s := s) (t := n) unit (isN ▸ nextThermal_lt _ _ : n < 4) (List.Subset.refl _) written
  rw [regs] at onlyIn
  have closed (h : Fld) (place : h.off = (RF.MEM_A_THERMAL_THERMAL stack).off) : h.off ≠ Reg.SHC_STATUS := by
    show h.off ≠ 0x150000
    omega
  have kept (h : Fld) (place : h.off = (RF.MEM_A_THERMAL_THERMAL stack).off) (below : h.lo + h.width ≤ 12) :
      fget (setThermal w stack n) h = fget v h := by
    have counter : Reg.MEM_CNT_THERMAL_EVENTS = 0x160088 := rfl
    refine (fields h (Fld.spared_elsewhere (by omega) (by omega) (by omega)) (by omega) (.inr (.inl ?_)) (.inr (.inl ?_))).trans (fget_congr same h)
    · rw [thermal]
      exact below
    · rw [duty]
      show _ ≤ 16
      omega
  rw [old] at reached level
  have isNew : n = nextThermal (fget s.dev (RF.MEM_A_THERMAL_THERMAL stack)) hot := isN.trans (by rw [old])
  refine ⟨_, ran, sameMem, ?_, ?_, ⟨?_, fun moved => ?_⟩, onlyIn⟩
  · rw [← isF]
    exact (fget_finish _ f (closed f fOff)).trans ((kept f fOff (by omega)).trans hotTemp)
  · rw [← isG]
    exact (fget_finish _ g (closed g gOff)).trans ((kept g gOff (by omega)).trans hotLayer)
  · refine (fget_finish _ _ (closed _ rfl)).trans ?_
    rw [← nextThermal_eq, ← isNew]
    exact thermal ▸ reached
  · refine (fget_finish _ (RF.MEM_A_THERMAL_DUTY stack) (closed _ rfl)).trans ?_
    rw [← nextThermal_eq, ← isNew] at moved ⊢
    have notDown : fget s.dev (RF.MEM_A_THERMAL_THERMAL stack) ≠ 3 := fun down => moved (by rw [if_pos down, down])
    rw [if_neg notDown] at moved reached ⊢
    rw [← duty]
    exact level (by rw [reached]; exact moved)

/-- MR4_REPORT (R257). -/
theorem exec_mr4Report {pkg code : Nat} (level : Nat) (known : pkg < 32) (small : code < 8) :
    ∃ t, exec (.mr4Report pkg code level) s = .next t ∧ SameMem s.dev t.dev ∧ fget t.dev (RF.MEM_B_PKG_REFRESH_CODE pkg) = code
      ∧ fget t.dev (RF.MEM_B_PKG_THERMAL pkg) = (if fget s.dev (RF.MEM_B_PKG_THERMAL pkg) = 3 then 3 else min level 2)
      ∧ OnlyIn ([Reg.MEM_B_PKG pkg, Reg.MEM_CNT_THERMAL_EVENTS] ++ reasonRegs 4) s t
          { s.dev with mem := t.dev.mem, power := t.dev.power, host := t.dev.host, out := t.dev.out, log := t.dev.log, flash := t.dev.flash } := by
  have unit : 8 + pkg < 40 := by omega
  have minor : min level 2 < 4 := by omega
  have thermal : thermalFld (8 + pkg) = RF.MEM_B_PKG_THERMAL pkg := by
    unfold thermalFld
    rw [if_neg (by omega), Nat.add_sub_cancel_left]
  have duty : dutyFld (8 + pkg) = RF.MEM_B_PKG_DUTY pkg := by
    unfold dutyFld
    rw [if_neg (by omega), Nat.add_sub_cancel_left]
  have regs : thermalRegs (8 + pkg) = [Reg.MEM_B_PKG pkg, Reg.MEM_CNT_THERMAL_EVENTS] ++ reasonRegs 4 := by
    unfold thermalRegs
    rw [thermal]
    rfl
  have low := thermalFld_low unit
  rw [thermal] at low
  obtain ⟨f, isF⟩ : ∃ f, f = RF.MEM_B_PKG_REFRESH_CODE pkg := ⟨_, rfl⟩
  have fOff : f.off = (RF.MEM_B_PKG_THERMAL pkg).off := by
    rw [isF]
    rfl
  have fSpan : f.lo = 36 ∧ f.width = 3 := by
    rw [isF]
    exact ⟨rfl, rfl⟩
  obtain ⟨fLo, fWidth⟩ := fSpan
  have own : (RF.MEM_B_PKG_THERMAL pkg).off ∈ thermalRegs (8 + pkg) := thermal ▸ List.mem_cons_self ..
  obtain ⟨v, isV⟩ : ∃ v, v = fset s.dev f code := ⟨_, rfl⟩
  obtain ⟨w, isW⟩ : ∃ w, w = modUnit v (8 + pkg) (fun x => { x with hotSince :=
      if (decide (level ≥ 2) && fget v (dutyFld (8 + pkg)) == 8) = true then some (x.hotSince.getD (if pkg < 16 then v.time.mn else v.time.ms)) else none }) := ⟨_, rfl⟩
  have written : Warmed (thermalRegs (8 + pkg)) s.dev w := by
    have first : Told (thermalRegs (8 + pkg)) s.dev v := isV ▸ told_fset _ f code (fOff ▸ own)
    rw [isW]
    exact first.warmed.trans (warmed_modUnit _ _ _ _)
  have same : w.regs = v.regs := by
    rw [isW]
    rfl
  have shown : fget v f = code := by
    rw [isV, fget_fset_same _ _ _ (by omega), fWidth]
    omega
  have old : fget w (thermalFld (8 + pkg)) = fget s.dev (RF.MEM_B_PKG_THERMAL pkg) := by
    have lo : (RF.MEM_B_PKG_THERMAL pkg).lo = 39 := rfl
    have width : (RF.MEM_B_PKG_THERMAL pkg).width = 2 := rfl
    rw [thermal, fget_congr same, isV, fget_fset_apart _ _ (by omega) (.inr (.inr (by omega)))]
  have ran : exec (.mr4Report pkg code level) s = .next { s with dev := finish (setThermal w (8 + pkg) (min level 2)) } := by
    show execMr4Report pkg code level s = _
    unfold execMr4Report
    rw [perform_eq]
    dsimp only
    rw [if_neg (Nat.not_le.mpr known), ← isF, ← isV, ← isW]
  obtain ⟨-, reached, -, fields⟩ := setThermal_leaves w unit minor
  obtain ⟨sameMem, onlyIn⟩ := report_onlyIn (s := s) unit minor (List.Subset.refl _) written
  rw [regs] at onlyIn
  have closed (h : Fld) (place : h.off = (RF.MEM_B_PKG_THERMAL pkg).off) : h.off ≠ Reg.SHC_STATUS := by
    show h.off ≠ 0x150000
    omega
  refine ⟨_, ran, sameMem, ?_, ?_, onlyIn⟩
  · have counter : Reg.MEM_CNT_THERMAL_EVENTS = 0x160088 := rfl
    rw [← isF]
    refine (fget_finish _ f (closed f fOff)).trans ((fields f ?_ ?_ (.inr (.inl ?_)) (.inr (.inl ?_))).trans ((fget_congr same f).trans shown))
    · exact Fld.spared_elsewhere (by omega) (by omega) (by omega)
    · omega
    · rw [thermal]
      show _ ≤ 39
      omega
    · rw [duty]
      show _ ≤ 41
      omega
  · refine (fget_finish _ (RF.MEM_B_PKG_THERMAL pkg) (closed _ rfl)).trans ?_
    rw [old] at reached
    exact thermal ▸ reached

/-- DUTY_LEVEL_STEP (R256, R259). -/
theorem exec_dutyLevelStep {unit : Nat} (known : unit < 40) (duty : fget s.dev (thermalFld unit) = 2) (level : fget s.dev (dutyFld unit) ≤ 8) :
    ∃ t, exec (.dutyLevelStep unit) s = .next t ∧ SameMem s.dev t.dev ∧ fget t.dev (thermalFld unit) = 2
      ∧ fget t.dev (dutyFld unit)
          = (if unit < 8 ∧ fget s.dev (RF.MEM_A_THERMAL_HOT_TEMP unit) < 105 then fget s.dev (dutyFld unit) - 1 else min 8 (fget s.dev (dutyFld unit) + 1))
      ∧ OnlyIn ([(dutyFld unit).off, Reg.MEM_CNT_THERMAL_EVENTS] ++ reasonRegs 4) s t
          { s.dev with power := t.dev.power, host := t.dev.host, out := t.dev.out, log := t.dev.log, flash := t.dev.flash } := by
  have low := thermalFld_low known
  have ⟨order, within⟩ := thermalFld_within (u := unit)
  have regs : thermalRegs unit = [(dutyFld unit).off, Reg.MEM_CNT_THERMAL_EVENTS] ++ reasonRegs 4 := by
    rw [dutyFld_off]
    rfl
  obtain ⟨d, isD⟩ : ∃ d, d = fget s.dev (dutyFld unit) := ⟨_, rfl⟩
  obtain ⟨d', isD'⟩ : ∃ d', d' = if dutyRises s.dev unit = true then min 8 (d + 1) else d - 1 := ⟨_, rfl⟩
  have goal : d' = (if unit < 8 ∧ fget s.dev (RF.MEM_A_THERMAL_HOT_TEMP unit) < 105 then d - 1 else min 8 (d + 1)) := by
    rw [isD']
    unfold dutyRises
    by_cases stack : unit < 8
    · by_cases cool : fget s.dev (RF.MEM_A_THERMAL_HOT_TEMP unit) < 105
      · simp [stack, cool, Nat.not_le.mpr cool]
      · simp [stack, Nat.not_lt.mp cool]
    · simp [stack]
  have ran : exec (.dutyLevelStep unit) s
      = .next { s with dev := finish (if d' = d then s.dev else thermalEvent (fset s.dev (dutyFld unit) d') unit) } := by
    show execDutyLevelStep unit s = _
    unfold execDutyLevelStep
    rw [perform_eq]
    have served : ¬ (unit ≥ 40 ∨ fget s.dev (thermalFld unit) ≠ 2) := by
      rw [not_or, not_not]
      exact ⟨Nat.not_le.mpr known, duty⟩
    dsimp only
    rw [if_neg served, ← isD, ← isD']
  rw [← isD] at level ⊢
  rw [← goal, ← regs]
  obtain ⟨u, isU⟩ : ∃ u, u = (if d' = d then s.dev else thermalEvent (fset s.dev (dutyFld unit) d') unit) := ⟨_, rfl⟩
  have done : Told (thermalRegs unit) s.dev u ∧ fget u (thermalFld unit) = 2 ∧ fget u (dutyFld unit) = d' := by
    rw [isU]
    split
    · next same => exact ⟨.refl _ _, duty, isD.symm.trans same.symm⟩
    · have counter : Reg.MEM_CNT_THERMAL_EVENTS = 0x160088 := rfl
      obtain ⟨told, fields⟩ := thermalEvent_leaves (fset s.dev (dutyFld unit) d') unit
      refine ⟨(told_fset _ _ _ (by rw [dutyFld_off]; exact List.mem_cons_self ..)).trans told, ?_, ?_⟩
      · rw [fields _ (thermalFld_spared known) (by omega), fget_fset_apart _ _ (by omega) (.inr (.inl order)), duty]
      · have small : d' ≤ 8 := by
          rw [goal]
          split
          · omega
          · omega
        rw [fields _ (dutyFld_spared known) (by rw [dutyFld_off]; omega), fget_fset_same _ _ _ within, dutyFld_width]
        omega
  obtain ⟨told, state, now⟩ := done
  rw [← isU] at ran
  have shc : (thermalFld unit).off ≠ Reg.SHC_STATUS := by
    show (thermalFld unit).off ≠ 0x150000
    omega
  exact ⟨_, ran, sameMem_finish told.dram, (fget_finish _ _ shc).trans state, (fget_finish _ _ (by rw [dutyFld_off]; exact shc)).trans now, told.onlyIn⟩

/-- A unit's traffic pauses, or goes on. -/
theorem modUnit_onlyIn (unit : Nat) (f : ThermalUnit → ThermalUnit) : SameMem s.dev (finish (modUnit s.dev unit f))
    ∧ thermalUnit (finish (modUnit s.dev unit f)) unit = f (thermalUnit s.dev unit)
    ∧ (∀ u, u ≠ unit → thermalUnit (finish (modUnit s.dev unit f)) u = thermalUnit s.dev u)
    ∧ OnlyIn [] s { s with dev := finish (modUnit s.dev unit f) }
        { s.dev with mem := { s.dev.mem with units := (finish (modUnit s.dev unit f)).mem.units } } := by
  refine ⟨sameMem_finish rfl, ?_, fun u other => ?_, onlyIn_finish ?_ (fun _ _ _ => rfl)⟩
  · unfold thermalUnit
    rw [finish_mem]
    exact tgetD_tset_same _ _ _ _
  · unfold thermalUnit
    rw [finish_mem]
    exact tgetD_tset_other _ _ _ _ _ other
  · rw [finish_mem]
    rfl

/-- DUTY_PAUSE_PERIOD (R256). -/
theorem exec_dutyPausePeriod {unit : Nat} (known : unit < 40) (duty : fget s.dev (thermalFld unit) = 2) (level : fget s.dev (dutyFld unit) ≠ 0) :
    ∃ t, exec (.dutyPausePeriod unit) s = .next t ∧ SameMem s.dev t.dev
      ∧ (thermalUnit t.dev unit).paused = true ∧ OnlyIn [] s t { s.dev with mem := { s.dev.mem with units := t.dev.mem.units } } := by
  obtain ⟨sameMem, own, -, onlyIn⟩ := modUnit_onlyIn (s := s) unit (fun x => { x with paused := true })
  refine ⟨_, ?_, sameMem, congrArg ThermalUnit.paused own, onlyIn⟩
  show execDutyPausePeriod unit s = _
  unfold execDutyPausePeriod
  rw [perform_eq]
  have served : ¬ (unit ≥ 40 ∨ fget s.dev (thermalFld unit) ≠ 2 ∨ fget s.dev (dutyFld unit) = 0) := by
    rw [not_or, not_or, not_not]
    exact ⟨Nat.not_le.mpr known, duty, level⟩
  rw [if_neg served]

/-- THERMAL_PAUSE_END (R256). -/
theorem exec_thermalPauseEnd {unit : Nat} (known : unit < 40) :
    ∃ t, exec (.thermalPauseEnd unit) s = .next t ∧ SameMem s.dev t.dev
      ∧ thermalUnit t.dev unit = ⟨(thermalUnit s.dev unit).hotSince, false⟩ ∧ (∀ u, u ≠ unit → thermalUnit t.dev u = thermalUnit s.dev u)
      ∧ OnlyIn [] s t { s.dev with mem := { s.dev.mem with units := t.dev.mem.units } } := by
  obtain ⟨sameMem, own, others, onlyIn⟩ := modUnit_onlyIn (s := s) unit (fun x => { x with paused := false })
  refine ⟨_, ?_, sameMem, own, others, onlyIn⟩
  show execThermalPauseEnd unit s = _
  unfold execThermalPauseEnd
  rw [perform_eq, if_neg (Nat.not_le.mpr known)]

/-! ### A unit that is shut down (R258) -/

theorem chanReg_eq (id : Nat) : chanReg id = 0x161000 + 8 * id := by
  unfold chanReg
  split
  · show 0x161000 + 8 * (128 * (id / 128) + id % 128) = _
    omega
  · show 0x163000 + 8 * (4 * ((id - 1024) / 4) + (id - 1024) % 4) = _
    omega

/-- What a hole leaves of the channels, and of memory. -/
theorem makeHole_leaves (s : Dev) {id cause : Nat} (known : id < 1152) (code : cause < 4) : (makeHole s id cause).dram = s.dram
    ∧ (∀ c, c < 1152 → (c ≠ id ∨ fget s (chanSTATE c) ≠ 0) → regRead (makeHole s id cause) (chanReg c) = regRead s (chanReg c))
    ∧ (fget s (chanSTATE id) = 0 → fget (makeHole s id cause) (chanSTATE id) = 2 ∧ fget (makeHole s id cause) (chanCAUSE id) = cause) := by
  by_cases mapped : fget s (chanSTATE id) = 0
  · obtain ⟨old, cap, made⟩ := makeHole_mapped known mapped cause
    have entered : OnlyLog (withWcb (holeMarked s id cause) id (keptWcb s id)) (makeHole s id cause) := by
      rw [made]
      exact onlyLog_logAdd _ _ _ _ _ _ _ _ _
    obtain ⟨regs, shape⟩ := holeMarked_shape s id cause
    have reg (c : Nat) (small : c < 1152) : regRead (makeHole s id cause) (chanReg c) = regRead (holeMarked s id cause) (chanReg c) := by
      refine entered.regs _ (fun report => ?_)
      have above : ∀ o ∈ logRegs, 0x1E0000 ≤ o := by decide
      have := above _ (mem_logRegs.mpr report)
      have := (chanReg_range small).2
      omega
    obtain ⟨state, reason⟩ := fget_holeMarked s known code
    refine ⟨by rw [entered.dram, shape]; rfl, fun c small other => (reg c small).trans ?_, fun _ => ⟨?_, ?_⟩⟩
    · have apart : c ≠ id := other.elim (fun h => h) (fun h same => h (same ▸ mapped))
      have tierA : Reg.MEM_TIER_A_STATUS < 0x161000 := by decide
      have tierB : Reg.MEM_TIER_B_STATUS < 0x161000 := by decide
      have shc : Reg.SHC_STATUS < 0x161000 := by decide
      have := chanReg_eq c
      have := chanReg_eq id
      refine sameRegsBut_chan s id cause (chanReg c) ?_ (ne_chanReg small shc).symm
      simp only [List.mem_cons, List.not_mem_nil, or_false, not_or]
      exact ⟨by omega, (ne_chanReg small tierA).symm, (ne_chanReg small tierB).symm⟩
    · exact (congrArg (fun v => bitsOf v 0 2) (reg id known)).trans state
    · exact (congrArg (fun v => bitsOf v 2 2) (reg id known)).trans reason
  · have stays : makeHole s id cause = s := if_pos mapped
    rw [stays]
    exact ⟨rfl, fun _ _ _ => rfl, fun zero => absurd zero mapped⟩

/-- Channels that become holes one after another. -/
theorem makeHoles_leave (l : List Nat) (s : Dev) {cause : Nat} (known : ∀ c ∈ l, c < 1152) (code : cause < 4) :
    (l.foldl (fun s c => makeHole s c cause) s).dram = s.dram
    ∧ (∀ c, c < 1152 → (c ∉ l ∨ fget s (chanSTATE c) ≠ 0) →
        regRead (l.foldl (fun s c => makeHole s c cause) s) (chanReg c) = regRead s (chanReg c))
    ∧ (∀ c ∈ l, fget s (chanSTATE c) = 0 → fget (l.foldl (fun s c => makeHole s c cause) s) (chanSTATE c) = 2
        ∧ fget (l.foldl (fun s c => makeHole s c cause) s) (chanCAUSE c) = cause) := by
  induction l generalizing s with
  | nil => exact ⟨rfl, fun _ _ _ => rfl, fun c member => absurd member List.not_mem_nil⟩
  | cons a l ih =>
    obtain ⟨dram, regs, own⟩ := makeHole_leaves s (known a (List.mem_cons_self ..)) code
    obtain ⟨dram', regs', own'⟩ := ih (makeHole s a cause) (fun c member => known c (List.mem_cons_of_mem _ member))
    rw [List.foldl_cons]
    refine ⟨dram'.trans dram, fun c small other => ?_, fun c member zero => ?_⟩
    · have first : regRead (makeHole s a cause) (chanReg c) = regRead s (chanReg c) :=
        regs c small (other.imp_left (fun h same => h (same ▸ List.mem_cons_self ..)))
      have state : fget (makeHole s a cause) (chanSTATE c) = fget s (chanSTATE c) := congrArg (fun v => bitsOf v 0 2) first
      refine (regs' c small ?_).trans first
      rw [state]
      exact other.imp_left (fun h member => h (List.mem_cons_of_mem _ member))
    · have small := known c member
      by_cases here : c = a
      · subst here
        obtain ⟨state, reason⟩ := own zero
        have stays := regs' c small (.inr (by rw [state]; decide))
        exact ⟨(congrArg (fun v => bitsOf v 0 2) stays).trans state, (congrArg (fun v => bitsOf v 2 2) stays).trans reason⟩
      · have state : fget (makeHole s a cause) (chanSTATE c) = fget s (chanSTATE c) := congrArg (fun v => bitsOf v 0 2) (regs c small (.inl here))
        exact own' c ((List.mem_cons.mp member).resolve_left here) (state.trans zero)

/-- A list that has taken others holds them. -/
theorem mem_insertAll {x : Nat} (more l : List Nat) (member : x ∈ more ∨ x ∈ l) : x ∈ more.foldl (fun l g => insertNat g l) l := by
  induction more generalizing l with
  | nil => exact member.resolve_left List.not_mem_nil
  | cons a more ih =>
    rw [List.foldl_cons]
    refine ih _ ?_
    obtain first | last := member
    · obtain rfl | later := List.mem_cons.mp first
      · exact .inr (mem_insertNat.mpr (.inl rfl))
      · exact .inl later
    · exact .inr (mem_insertNat.mpr (.inr last))

/-- UNIT_THERMAL_SHUTDOWN (R258). -/
theorem exec_unitThermalShutdown {unit : Nat} (small : unit < 40) (channels : channelsKnown s.dev) (up : fget s.dev (thermalFld unit) ≠ 3)
    (hot : (thermalUnit s.dev unit).hotSince ≠ none) :
    ∃ t, exec (.unitThermalShutdown unit) s = .next t ∧ SameMem s.dev t.dev ∧ fget t.dev (thermalFld unit) = 3 ∧ fget t.dev (dutyFld unit) = 0
      ∧ (∀ c ∈ s.dev.mem.listA ++ s.dev.mem.listB, unitOf c = unit →
          groupOf c ∈ t.dev.mem.asleep ∧ (fget s.dev (chanSTATE c) = 0 → fget t.dev (chanSTATE c) = 2 ∧ fget t.dev (chanCAUSE c) = 3))
      ∧ (∀ c, c < 1152 → unitOf c ≠ unit → regRead t.dev (chanReg c) = regRead s.dev (chanReg c))
      ∧ (4, thermalUnitCode unit) ∈ t.dev.power.applies := by
  have low := thermalFld_low small
  have ⟨order, within⟩ := thermalFld_within (u := unit)
  have member (c : Nat) : c ∈ unitChannels s.dev unit ↔ c ∈ s.dev.mem.listA ++ s.dev.mem.listB ∧ unitOf c = unit := by
    unfold unitChannels
    rw [List.mem_filter]
    simp
  obtain ⟨chans, isChans⟩ : ∃ l, l = unitChannels s.dev unit := ⟨_, rfl⟩
  rw [← isChans] at member
  obtain ⟨dram, regs, holes⟩ := makeHoles_leave chans s.dev (cause := 3) (fun c listed => channels c ((member c).mp listed).1) (by decide)
  obtain ⟨u, isU⟩ : ∃ u, u = chans.foldl (fun s c => makeHole s c 3) s.dev := ⟨_, rfl⟩
  rw [← isU] at dram regs holes
  obtain ⟨v, isV⟩ : ∃ v, v = { u with mem := { u.mem with asleep := (chans.map groupOf).foldl (fun l g => insertNat g l) u.mem.asleep } } := ⟨_, rfl⟩
  obtain ⟨w, isW⟩ : ∃ w, w = fset (fset (bump v Reg.MEM_CNT_THERMAL_EVENTS) (thermalFld unit) 3) (dutyFld unit) 0 := ⟨_, rfl⟩
  obtain ⟨x, isX⟩ : ∃ x, x = logFw w 15 Reg.MEM_CNT_THERMAL_EVENTS (regRead v Reg.MEM_CNT_THERMAL_EVENTS) (regRead v Reg.MEM_CNT_THERMAL_EVENTS + 1) := ⟨_, rfl⟩
  obtain ⟨y, isY⟩ : ∃ y, y = modUnit x unit (fun x => { x with paused := false }) := ⟨_, rfl⟩
  have ran : exec (.unitThermalShutdown unit) s = .next { s with dev := finish (beginReason y 4 (thermalUnitCode unit)) } := by
    have served : ¬ (unit ≥ 40 ∨ fget s.dev (thermalFld unit) = 3 ∨ (thermalUnit s.dev unit).hotSince.isNone = true) := by
      rw [not_or, not_or, Option.isNone_iff_eq_none]
      exact ⟨Nat.not_le.mpr small, up, hot⟩
    show execUnitThermalShutdown unit s = _
    unfold execUnitThermalShutdown
    rw [perform_eq, if_neg served]
    dsimp only
    rw [← isChans, ← isU, ← isV, ← isW, ← isX, ← isY]
  have logged : OnlyLog w x := isX ▸ onlyLog_logFw _ _ _ _ _
  obtain ⟨reported, applies⟩ := beginReason_leaves y (r := 4) (by decide) (thermalUnitCode unit)
  obtain ⟨z, isZ⟩ : ∃ z, z = beginReason y 4 (thermalUnitCode unit) := ⟨_, rfl⟩
  rw [← isZ] at ran reported applies
  have sameRegs : y.regs = x.regs := by
    rw [isY]
    rfl
  have asleep : z.mem.asleep = v.mem.asleep := by
    rw [reported.told.mem, isY]
    show x.mem.asleep = _
    rw [logged.rest, isW]
    rfl
  have unlogged (o : Nat) (below : o < 0x1E0000) : ¬ isLogReg o := by
    rw [← mem_logRegs]
    have above : ∀ o ∈ logRegs, 0x1E0000 ≤ o := by decide
    intro named
    have := above o named
    omega
  have unitField (f : Fld) (spared : f.Spared) (below : f.off < 0x163900) : fget z f = fget w f := by
    rw [reported.fields f spared, fget_congr sameRegs, logged.fget f (unlogged _ (by omega))]
  have channel (c : Nat) (known : c < 1152) : regRead z (chanReg c) = regRead u (chanReg c) := by
    have range := chanReg_range known
    have counter : Reg.MEM_CNT_THERMAL_EVENTS = 0x160088 := rfl
    have others : ∀ o ∈ reasonRegs 4, 0x163900 ≤ o := by decide
    rw [reported.told.regs _ (fun named => by have := others _ named; omega) (by show _ ≠ 0x150000; omega), regRead_congr sameRegs,
      logged.regs _ (unlogged _ (by omega)), isW, regRead_fset_other _ _ _ _ (by rw [dutyFld_off]; omega), regRead_fset_other _ _ _ _ (by omega),
      regRead_bump_other _ _ _ (by omega), isV]
    rfl
  have closed (c : Nat) (known : c < 1152) : regRead (finish z) (chanReg c) = regRead u (chanReg c) := by
    have range := chanReg_range known
    exact (regRead_finish _ _ (by show _ ≠ 0x150000; omega)).trans (channel c known)
  have shc : (thermalFld unit).off ≠ Reg.SHC_STATUS := by
    show (thermalFld unit).off ≠ 0x150000
    omega
  refine ⟨_, ran, sameMem_finish ?_, ?_, ?_, fun c listed mine => ⟨?_, fun mapped => ?_⟩, fun c known other => ?_, ?_⟩
  · rw [reported.told.dram, isY]
    show x.dram = _
    rw [logged.dram, isW]
    show v.dram = _
    rw [isV]
    exact dram
  · refine (fget_finish _ _ shc).trans ?_
    rw [unitField _ (thermalFld_spared small) (by omega), isW, fget_fset_apart _ _ (by omega) (.inr (.inl order)), fget_fset_same _ _ _ (by omega),
      thermalFld_width]
    rfl
  · refine (fget_finish _ _ (by rw [dutyFld_off]; exact shc)).trans ?_
    rw [unitField _ (dutyFld_spared small) (by rw [dutyFld_off]; omega), isW, fget_fset_same _ _ _ within, dutyFld_width]
    rfl
  · show groupOf c ∈ (finish z).mem.asleep
    rw [finish_mem, asleep, isV]
    exact mem_insertAll _ _ (.inl (List.mem_map_of_mem ((member c).mpr ⟨listed, mine⟩)))
  · obtain ⟨state, reason⟩ := holes c ((member c).mpr ⟨listed, mine⟩) mapped
    have same := closed c (channels c listed)
    exact ⟨(congrArg (fun v => bitsOf v 0 2) same).trans state, (congrArg (fun v => bitsOf v 2 2) same).trans reason⟩
  · exact (closed c known).trans (regs c known (.inl (fun listed => other ((member c).mp listed).2)))
  · show _ ∈ (finish z).power.applies
    rw [finish_power]
    exact applies

end

end Sys2Proof.Machine
end

section
/-!
SUPPORT. The clauses of an island's frequency, droop and temperature (R459 to R463, R469).
-/
namespace Sys2Proof.Machine

/-! ### Islands that follow the terms (R461) -/

/-- The registers of the islands' limits. -/
def targetRegs : List Nat := (List.range 64).map Reg.PWR_ISLAND ++ [Reg.CLK_CNT_DROOP_DEFERRALS, Reg.FAB_PROGRESS] ++ logRegs

theorem mem_targetRegs {i : Nat} (known : i < 64) : Reg.PWR_ISLAND i ∈ targetRegs :=
  List.mem_append_left _ (List.mem_append_left _ (List.mem_map_of_mem (List.mem_range.mpr known)))

theorem not_mem_targetRegs {o : Nat} (place : o < 0x190000 ∨ 0x1F0000 ≤ o) (island : o < 0x1F0400 ∨ 0x1F0600 ≤ o) (deferrals : o ≠ 0x1F2018) :
    o ∉ targetRegs := by
  have logs : ∀ o ∈ logRegs, 0x1E0000 ≤ o ∧ o < 0x1F0000 := by decide
  unfold targetRegs
  simp only [List.mem_append, List.mem_map, List.mem_range, List.mem_cons, List.not_mem_nil, or_false, not_or]
  refine ⟨⟨?_, deferrals, ?_⟩, fun named => ?_⟩
  · rintro ⟨i, known, rfl⟩
    have : Reg.PWR_ISLAND i = 0x1F0400 + 8 * i := rfl
    omega
  · show o ≠ 0x190008
    omega
  · have := logs o named
    omega

/-- What retargeting leaves of power: all but the changes under way. -/
structure Retargeted (s t : Dev) : Prop where
  told : Told targetRegs s t
  power : ∃ changing deferred, t.power = { s.power with changing := changing, deferred := deferred }

theorem Retargeted.refl (s : Dev) : Retargeted s s := ⟨.refl _ s, _, _, rfl⟩

theorem Retargeted.trans {s t u : Dev} (h : Retargeted s t) (k : Retargeted t u) : Retargeted s u := by
  obtain ⟨told, c, d, power⟩ := h
  obtain ⟨told', c', d', power'⟩ := k
  exact ⟨told.trans told', c', d', by rw [power', power]⟩

theorem retargeted_fset (s : Dev) (f : Fld) (v : Nat) (named : f.off ∈ targetRegs) : Retargeted s (fset s f v) := ⟨told_fset s f v named, _, _, rfl⟩

theorem retargeted_power (s : Dev) (changing : Tbl Nat) (deferred : List Nat) :
    Retargeted s { s with power := { s.power with changing := changing, deferred := deferred } } := ⟨told_power _ s _, _, _, rfl⟩

theorem deferChange_retargeted (s : Dev) (i : Nat) : Retargeted s (deferChange s i) := by
  have logged : logRegs ⊆ targetRegs := List.subset_append_right _ _
  have counted : Reg.CLK_CNT_DROOP_DEFERRALS ∈ targetRegs := List.mem_append_left _ (List.mem_append_right _ (List.mem_cons_self ..))
  unfold deferChange
  split
  · exact .refl s
  · obtain ⟨u, isU⟩ : ∃ u, u = bump { s with power := { s.power with deferred := s.power.deferred ++ [i] } } Reg.CLK_CNT_DROOP_DEFERRALS := ⟨_, rfl⟩
    have entered := onlyLog_logThrottle u 5 i
    rw [← isU]
    refine ⟨(Told.trans ?_ (entered.told logged)), s.power.changing, s.power.deferred ++ [i], ?_⟩
    · rw [isU]
      exact (told_power _ s _).trans (told_regWrite _ _ counted)
    · rw [entered.power, isU]
      rfl

theorem retargetIsland_retargeted (s : Dev) {i : Nat} (known : i < 64) : Retargeted s (retargetIsland s i) := by
  have own := mem_targetRegs known
  unfold retargetIsland
  dsimp only
  obtain ⟨u, isU⟩ : ∃ u, u = fset s (RF.PWR_ISLAND_F_TARGET_MHZ i) (islandF s i) := ⟨_, rfl⟩
  have first : Retargeted s u := isU ▸ retargeted_fset s _ _ own
  rw [← isU]
  split
  · exact first
  · obtain ⟨v, isV⟩ : ∃ v, v = fset u (RF.PWR_ISLAND_L i) (islandL u i) := ⟨_, rfl⟩
    have second : Retargeted s v := first.trans (isV ▸ retargeted_fset u _ _ own)
    rw [← isV]
    split
    · exact second.trans (retargeted_power v _ _)
    · split
      · exact second
      · split
        · exact (second.trans (retargeted_power v _ _)).trans (deferChange_retargeted _ i)
        · exact second.trans (retargeted_power v _ _)

theorem islandCount_lt (s : Dev) : islandCount s < 64 := fget_lt s RF.BRG_PKG_LEVEL_ENABLED_COUNT

theorem retarget_retargeted (s : Dev) : Retargeted s (retarget s) := by
  have shown : Reg.FAB_PROGRESS ∈ targetRegs := by
    unfold targetRegs
    simp
  have islands : Retargeted s ((List.range (islandCount s)).foldl retargetIsland s) := by
    refine List.foldlRecOn (motive := Retargeted s) _ _ (.refl s) (fun t before i member => before.trans (retargetIsland_retargeted t ?_))
    exact (List.mem_range.mp member).trans (islandCount_lt s)
  exact islands.trans ⟨told_regWrite _ _ shown, _, _, rfl⟩

/-! ### Frequency changes (R459, R463) -/

section
variable {s : State} {i : Nat}

/-- A register of an island is none that a report spares. -/
theorem island_shc (i : Nat) : Reg.PWR_ISLAND i ≠ Reg.SHC_STATUS := by
  show 0x1F0400 + 8 * i ≠ 0x150000
  omega

theorem island_progress (i : Nat) : Reg.PWR_ISLAND i ≠ Reg.FAB_PROGRESS := by
  show 0x1F0400 + 8 * i ≠ 0x190008
  omega

/-- A step that changes registers and power alone, closed. -/
theorem onlyIn_power {l : List Nat} {u : Dev} (rest : u = { s.dev with regs := u.regs, power := u.power }) (regs : SameRegsBut l s.dev u) :
    OnlyIn l s { s with dev := finish u } { s.dev with power := (finish u).power } := by
  refine onlyIn_finish ?_ regs
  rw [finish_power, rest]

/-- DVFS_CHANGE_COMPLETE (R459). -/
theorem exec_dvfsChangeComplete {f : Nat} (change : tget s.dev.power.changing i = some f) (free : i ∉ s.dev.power.deferred)
    (runs : fget s.dev (RF.PWR_ISLAND_STATE i) = 0) (small : f < 4096) :
    ∃ t, exec (.dvfsChangeComplete i) s = .next t ∧ SameMem s.dev t.dev ∧ fget t.dev (RF.PWR_ISLAND_F_MHZ i) = f
      ∧ fget t.dev (RF.PWR_ISLAND_L i) = fget s.dev (RF.PWR_ISLAND_L i)
      ∧ OnlyIn [Reg.PWR_ISLAND i, Reg.FAB_PROGRESS] s t
          { s.dev with power := { s.dev.power with changing := tdel s.dev.power.changing i } } := by
  obtain ⟨u, isU⟩ : ∃ u, u = { s.dev with power := { s.dev.power with changing := tdel s.dev.power.changing i } } := ⟨_, rfl⟩
  obtain ⟨v, isV⟩ : ∃ v, v = updateProgress (fset u (RF.PWR_ISLAND_F_MHZ i) f) := ⟨_, rfl⟩
  have ran : exec (.dvfsChangeComplete i) s = .next { s with dev := finish v } := by
    show execDvfsChangeComplete i s = _
    unfold execDvfsChangeComplete
    rw [perform_eq]
    have served : ¬ (s.dev.power.deferred.contains i = true ∨ fget s.dev (RF.PWR_ISLAND_STATE i) ≠ 0) := by
      rw [not_or, not_not, List.contains_iff_mem]
      exact ⟨free, runs⟩
    rw [change]
    dsimp only
    rw [if_neg served, ← isU, ← isV]
  obtain ⟨regs, shape⟩ : ∃ regs, v = { u with regs := regs } := isV ▸ ⟨_, rfl⟩
  have unchanged : u.regs = s.dev.regs := by
    rw [isU]
  have told : Told [Reg.PWR_ISLAND i, Reg.FAB_PROGRESS] u v := by
    rw [isV]
    exact (told_fset u (RF.PWR_ISLAND_F_MHZ i) f (List.mem_cons_self ..)).trans (told_regWrite _ _ (List.mem_cons_of_mem _ (List.mem_cons_self ..)))
  have value : fget v (RF.PWR_ISLAND_F_MHZ i) = f := by
    rw [isV, fget_updateProgress _ (island_progress i), fget_fset_same _ _ _ (Nat.le_of_ble_eq_true rfl)]
    exact Nat.mod_eq_of_lt small
  have rate : fget v (RF.PWR_ISLAND_L i) = fget s.dev (RF.PWR_ISLAND_L i) := by
    rw [isV, fget_updateProgress _ (island_progress i), fget_fset_apart _ _ (Nat.le_of_ble_eq_true rfl) (.inr (.inr (Nat.le_of_ble_eq_true rfl))), fget_congr unchanged]
  refine ⟨_, ran, sameMem_finish ?_, (fget_finish _ _ (island_shc i)).trans value, (fget_finish _ _ (island_shc i)).trans rate, onlyIn_finish ?_ ?_⟩
  · rw [shape, isU]
  · rw [shape, isU]
  · intro o others shc
    rw [told.regs o others shc]
    exact regRead_congr unchanged o

/-- DVFS_DEFER_TIMEOUT (R463). -/
theorem exec_dvfsDeferTimeout (defers : i ∈ s.dev.power.deferred) :
    ∃ t, exec (.dvfsDeferTimeout i) s = .next t ∧ SameMem s.dev t.dev
      ∧ OnlyIn [] s t { s.dev with power := { s.dev.power with
          deferred := s.dev.power.deferred.filter (· != i),
          changing := (match tget s.dev.power.changing i with
            | some f => if fget s.dev (RF.PWR_ISLAND_F_MHZ i) < f then tdel s.dev.power.changing i else s.dev.power.changing
            | none => s.dev.power.changing) } } := by
  obtain ⟨p, isP⟩ : ∃ p, p = { s.dev.power with
      deferred := s.dev.power.deferred.filter (· != i),
      changing := (match tget s.dev.power.changing i with
        | some f => if fget s.dev (RF.PWR_ISLAND_F_MHZ i) < f then tdel s.dev.power.changing i else s.dev.power.changing
        | none => s.dev.power.changing) } := ⟨_, rfl⟩
  have ran : exec (.dvfsDeferTimeout i) s = .next { s with dev := finish { s.dev with power := p } } := by
    show execDvfsDeferTimeout i s = _
    unfold execDvfsDeferTimeout
    rw [perform_eq]
    have listed : ¬ (!s.dev.power.deferred.contains i) = true := by
      rw [Bool.not_eq_true, Bool.not_eq_false', List.contains_iff_mem]
      exact defers
    dsimp only
    rw [if_neg listed, isP]
    have same : fget { s.dev with power := { s.dev.power with deferred := s.dev.power.deferred.filter (· != i) } } (RF.PWR_ISLAND_F_MHZ i)
        = fget s.dev (RF.PWR_ISLAND_F_MHZ i) := rfl
    rw [same]
    cases tget s.dev.power.changing i with
    | none => rfl
    | some f =>
      by_cases more : fget s.dev (RF.PWR_ISLAND_F_MHZ i) < f
      · simp only [Option.any_some, gt_iff_lt, more, decide_true, if_true]
      · simp only [Option.any_some, gt_iff_lt, more, decide_false, Bool.false_eq_true, if_false]
  rw [← isP]
  exact ⟨_, ran, sameMem_finish rfl, onlyIn_finish rfl (fun o _ _ => rfl)⟩

/-- A field of an island beside its reasons. -/
theorem islandFld_spared {f : Fld} (known : i < 44) (own : f.off = Reg.PWR_ISLAND i) (apart : f.lo + f.width ≤ 40 ∨ 48 ≤ f.lo ∧ f.lo + f.width ≤ 64) : f.Spared :=
  Fld.spared_island known own (by omega) (apart.imp_right And.left)

theorem mem_reasonRegs {r : Nat} (known : i < 44) : Reg.PWR_ISLAND i ∈ reasonRegs r :=
  List.mem_append_left _ (List.mem_append_right _ (List.mem_map_of_mem (List.mem_range.mpr known)))

/-- DROOP_TRIP (R462). -/
theorem exec_droopTrip (known : i < 44) (runs : fget s.dev (RF.PWR_ISLAND_STATE i) = 0) :
    ∃ t, exec (.droopTrip i) s = .next t ∧ SameMem s.dev t.dev ∧ fget t.dev (RF.PWR_ISLAND_STRETCH i) = 1 ∧ (5, i) ∈ t.dev.power.applies
      ∧ OnlyIn ([Reg.PWR_ISLAND i] ++ reasonRegs 5) s t
          { s.dev with power := t.dev.power, host := t.dev.host, out := t.dev.out, log := t.dev.log, flash := t.dev.flash } := by
  obtain ⟨u, isU⟩ : ∃ u, u = fset s.dev (RF.PWR_ISLAND_STRETCH i) 1 := ⟨_, rfl⟩
  have ran : exec (.droopTrip i) s = .next { s with dev := finish (beginReason u 5 i) } := by
    show execDroopTrip i s = _
    unfold execDroopTrip
    rw [perform_eq]
    have served : ¬ (i ≥ 44 ∨ fget s.dev (RF.PWR_ISLAND_STATE i) ≠ 0) := by
      rw [not_or, not_not]
      exact ⟨Nat.not_le.mpr known, runs⟩
    rw [if_neg served, ← isU]
  have stretched : fget u (RF.PWR_ISLAND_STRETCH i) = 1 := by
    rw [isU]
    exact fget_fset_same _ _ _ (Nat.le_of_ble_eq_true rfl)
  have written : Told ([Reg.PWR_ISLAND i] ++ reasonRegs 5) s.dev u := isU ▸ told_fset _ _ _ (List.mem_cons_self ..)
  obtain ⟨reported, applies⟩ := beginReason_leaves u (r := 5) (by decide) i
  have told := written.trans (reported.told.mono (List.subset_append_right [Reg.PWR_ISLAND i] _))
  refine ⟨_, ran, sameMem_finish told.dram, (fget_finish _ _ (island_shc i)).trans ?_, ?_, told.onlyIn⟩
  · exact (reported.fields _ (islandFld_spared known rfl (.inr ⟨Nat.le_refl 48, Nat.le_of_ble_eq_true rfl⟩))).trans stretched
  · show _ ∈ (finish _).power.applies
    rw [finish_power]
    exact applies

theorem fget_bumpBy_other (s : Dev) {o : Nat} (n : Nat) {f : Fld} (other : f.off ≠ o) : fget (bumpBy s o n) f = fget s f :=
  congrArg (fun v => bitsOf v f.lo f.width) (regRead_regWrite_other _ _ _ _ other)

/-- DROOP_RECOVER (R462, R463). -/
theorem exec_droopRecover (cycles : Nat) (known : i < 44) (stretched : fget s.dev (RF.PWR_ISLAND_STRETCH i) = 1) :
    ∃ t, exec (.droopRecover i cycles) s = .next t ∧ SameMem s.dev t.dev ∧ fget t.dev (RF.PWR_ISLAND_STRETCH i) = 0 ∧ (5, i) ∉ t.dev.power.applies
      ∧ i ∉ t.dev.power.deferred
      ∧ regRead t.dev Reg.CLK_CNT_STRETCH_CYCLES = (regRead s.dev Reg.CLK_CNT_STRETCH_CYCLES + cycles) % 2 ^ 64
      ∧ OnlyIn ([Reg.PWR_ISLAND i, Reg.CLK_CNT_STRETCH_CYCLES] ++ reasonRegs 5) s t { s.dev with power := t.dev.power } := by
  obtain ⟨u, isU⟩ : ∃ u, u = fset s.dev (RF.PWR_ISLAND_STRETCH i) 0 := ⟨_, rfl⟩
  obtain ⟨v, isV⟩ : ∃ v, v = bumpBy u Reg.CLK_CNT_STRETCH_CYCLES cycles := ⟨_, rfl⟩
  obtain ⟨w, isW⟩ : ∃ w, w = { v with power := { v.power with deferred := v.power.deferred.filter (· != i) } } := ⟨_, rfl⟩
  have ran : exec (.droopRecover i cycles) s = .next { s with dev := finish (endReason w 5 i) } := by
    show execDroopRecover i cycles s = _
    unfold execDroopRecover
    rw [perform_eq]
    have served : ¬ (i ≥ 44 ∨ fget s.dev (RF.PWR_ISLAND_STRETCH i) = 0) := by
      rw [not_or, stretched]
      exact ⟨Nat.not_le.mpr known, by decide⟩
    rw [if_neg served]
    dsimp only
    rw [← isU, ← isV, ← isW]
  have counter : Reg.CLK_CNT_STRETCH_CYCLES = 0x1F2010 := rfl
  have place : Reg.PWR_ISLAND i = 0x1F0400 + 8 * i := rfl
  have flat : fget u (RF.PWR_ISLAND_STRETCH i) = 0 := by
    rw [isU]
    exact fget_fset_same _ _ _ (Nat.le_of_ble_eq_true rfl)
  have counted : regRead v Reg.CLK_CNT_STRETCH_CYCLES = (regRead s.dev Reg.CLK_CNT_STRETCH_CYCLES + cycles) % 2 ^ 64 := by
    have same : regRead u Reg.CLK_CNT_STRETCH_CYCLES = regRead s.dev Reg.CLK_CNT_STRETCH_CYCLES := by
      rw [isU]
      exact regRead_fset_other _ _ _ _ (by show Reg.CLK_CNT_STRETCH_CYCLES ≠ Reg.PWR_ISLAND i; omega)
    rw [isV, ← same]
    exact regRead_regWrite_same _ _ _
  have sameRegs : w.regs = v.regs := by
    rw [isW]
  obtain ⟨regs, shapeV⟩ : ∃ regs, v = { s.dev with regs := regs } := by
    obtain ⟨regs, shapeU⟩ : ∃ regs, u = { s.dev with regs := regs } := isU ▸ ⟨_, rfl⟩
    obtain ⟨regs', shape⟩ : ∃ regs', v = { u with regs := regs' } := isV ▸ ⟨_, rfl⟩
    exact ⟨regs', by rw [shape, shapeU]⟩
  obtain ⟨regs', shape⟩ := endReason_shape w 5 i
  have fields := fun f spared => fget_endReason w 5 i (f := f) spared
  have ends := not_mem_endReason w 5 i
  have told : Told ([Reg.PWR_ISLAND i, Reg.CLK_CNT_STRETCH_CYCLES] ++ reasonRegs 5) s.dev (endReason w 5 i) := by
    have first : Told ([Reg.PWR_ISLAND i, Reg.CLK_CNT_STRETCH_CYCLES] ++ reasonRegs 5) s.dev u := isU ▸ told_fset _ _ _ (List.mem_cons_self ..)
    have second : Told ([Reg.PWR_ISLAND i, Reg.CLK_CNT_STRETCH_CYCLES] ++ reasonRegs 5) u v :=
      isV ▸ told_regWrite _ _ (List.mem_cons_of_mem _ (List.mem_cons_self ..))
    have third : Told ([Reg.PWR_ISLAND i, Reg.CLK_CNT_STRETCH_CYCLES] ++ reasonRegs 5) v w := isW ▸ told_power _ _ _
    exact ((first.trans second).trans third).trans (told_endReason w 5 i (List.Subset.trans (reasonRegs_shown 5) (List.subset_append_right _ _)))
  have kept : regRead (endReason w 5 i) Reg.CLK_CNT_STRETCH_CYCLES = regRead v Reg.CLK_CNT_STRETCH_CYCLES :=
    ((told_endReason w 5 i (List.Subset.refl shownRegs)).regs _ (by decide) (by decide)).trans (regRead_congr sameRegs _)
  obtain ⟨z, isZ⟩ : ∃ z, z = endReason w 5 i := ⟨_, rfl⟩
  rw [← isZ] at ran shape fields ends told kept
  have whole : z = { s.dev with regs := z.regs, power := z.power } := by
    rw [shape, isW, shapeV]
  refine ⟨_, ran, sameMem_finish told.dram, (fget_finish _ _ (island_shc i)).trans ?_, ?_, ?_, ?_, onlyIn_power whole told.regs⟩
  · rw [fields _ (islandFld_spared known rfl (.inr ⟨Nat.le_refl 48, Nat.le_of_ble_eq_true rfl⟩)), fget_congr sameRegs, isV]
    exact (fget_bumpBy_other _ _ (by show Reg.PWR_ISLAND i ≠ _; omega)).trans flat
  · show _ ∉ (finish z).power.applies
    rw [finish_power]
    exact ends
  · show i ∉ (finish z).power.deferred
    rw [finish_power, shape, isW]
    exact fun listed => absurd (List.mem_filter.mp listed).2 (by simp)
  · exact (regRead_finish _ _ (by decide)).trans (kept.trans counted)

/-! ### Island temperature (R469) -/

/-- The registers of a report of an island's temperature. -/
def islandThermalRegs (i : Nat) : List Nat := [Reg.THM_ISLAND i, Reg.CLK_CNT_DROOP_DEFERRALS] ++ (List.range 64).map Reg.PWR_ISLAND ++ reasonRegs 3

theorem targetRegs_thermal (i : Nat) : targetRegs ⊆ islandThermalRegs i := by
  intro o named
  unfold targetRegs at named
  unfold islandThermalRegs reasonRegs
  simp only [List.mem_append, List.mem_cons, List.not_mem_nil, or_false] at named ⊢
  obtain (island | deferrals | progress) | log := named
  · exact .inl (.inr island)
  · exact .inl (.inl (.inr deferrals))
  · exact .inr (.inl (.inl (.inr (.inl progress))))
  · exact .inr (.inr log)

/-- The reason of an island's temperature, and the limits that follow: the island's own register stays. -/
theorem showThermal_leaves (u : Dev) {i : Nat} (known : i < 44) : Told (islandThermalRegs i) u (showThermal u i)
    ∧ ∀ f : Fld, f.off = Reg.THM_ISLAND i → f.lo + f.width ≤ 64 → fget (showThermal u i) f = fget u f := by
  obtain ⟨v, isV⟩ : ∃ v, v = setReason u 3 i (decide (fget u (RF.THM_ISLAND_F_THERM_MHZ i) < 2400) || decide (fget u (RF.THM_ISLAND_L_THERM i) < 16)) :=
    ⟨_, rfl⟩
  have reported : Reported 3 u v := isV ▸ setReason_leaves u (by decide) i _
  have moved := (retarget_retargeted v).told
  unfold showThermal
  rw [← isV]
  refine ⟨(reported.told.mono (List.subset_append_right _ _)).trans (moved.mono (targetRegs_thermal i)), fun f own within => ?_⟩
  have place : f.off = 0x1F1100 + 8 * i := own
  have unmoved : f.off ∉ targetRegs := not_mem_targetRegs (.inr (by omega)) (.inr (by omega)) (by omega)
  have spared : f.Spared := Fld.spared_elsewhere within (.inr (by omega)) (.inr (by omega))
  exact (moved.fget unmoved (by omega)).trans (reported.fields f spared)

theorem thm_shc (i : Nat) : Reg.THM_ISLAND i ≠ Reg.SHC_STATUS := by
  show 0x1F1100 + 8 * i ≠ 0x150000
  omega

theorem thm_policy (i : Nat) : Reg.THM_POLICY ≠ Reg.THM_ISLAND i := by
  show 0x1F1000 ≠ 0x1F1100 + 8 * i
  omega

/-- A report that writes fields of the island's register, closed. -/
theorem thermal_onlyIn {u : Dev} (known : i < 44) (written : Told (islandThermalRegs i) s.dev u) :
    SameMem s.dev (finish (showThermal u i))
    ∧ OnlyIn ([Reg.THM_ISLAND i, Reg.CLK_CNT_DROOP_DEFERRALS] ++ (List.range 64).map Reg.PWR_ISLAND ++ reasonRegs 3) s
        { s with dev := finish (showThermal u i) }
        { s.dev with power := (finish (showThermal u i)).power, host := (finish (showThermal u i)).host, out := (finish (showThermal u i)).out,
                     log := (finish (showThermal u i)).log, flash := (finish (showThermal u i)).flash }
    ∧ ∀ f : Fld, f.off = Reg.THM_ISLAND i → f.lo + f.width ≤ 64 → fget (finish (showThermal u i)) f = fget u f := by
  obtain ⟨told, fields⟩ := showThermal_leaves u known
  have all := written.trans told
  refine ⟨sameMem_finish all.dram, all.onlyIn, fun f own within => ?_⟩
  exact (fget_finish _ f (by rw [own]; exact thm_shc i)).trans (fields f own within)

/-- The fields that a report of an island's temperature sets. -/
def heated (s : Dev) (i v : Nat) : Dev :=
  let t := fset (fset s (RF.THM_ISLAND_TEMP_C i) v) (RF.THM_ISLAND_MAX_C i) (max v (fget (fset s (RF.THM_ISLAND_TEMP_C i) v) (RF.THM_ISLAND_MAX_C i)))
  if v ≥ fget t RF.THM_POLICY_ISL_SEVERE_C then fset (fset t (RF.THM_ISLAND_F_THERM_MHZ i) 600) (RF.THM_ISLAND_L_THERM i) 4
  else if v ≥ fget s RF.THM_POLICY_ISL_HOT_C ∨ v + 3 < fget s RF.THM_POLICY_ISL_HOT_C then fset t (RF.THM_ISLAND_L_THERM i) 16 else t

theorem heated_leaves (u : Dev) (i : Nat) {v : Nat} (byte : v < 256) : Told (islandThermalRegs i) u (heated u i v)
    ∧ fget (heated u i v) (RF.THM_ISLAND_TEMP_C i) = v
    ∧ fget (heated u i v) (RF.THM_ISLAND_MAX_C i) = max v (fget u (RF.THM_ISLAND_MAX_C i))
    ∧ fget (heated u i v) (RF.THM_ISLAND_F_THERM_MHZ i)
        = (if fget u RF.THM_POLICY_ISL_SEVERE_C ≤ v then 600 else fget u (RF.THM_ISLAND_F_THERM_MHZ i))
    ∧ fget (heated u i v) (RF.THM_ISLAND_L_THERM i) = (if fget u RF.THM_POLICY_ISL_SEVERE_C ≤ v then 4
        else if fget u RF.THM_POLICY_ISL_HOT_C ≤ v ∨ v + 3 < fget u RF.THM_POLICY_ISL_HOT_C then 16 else fget u (RF.THM_ISLAND_L_THERM i)) := by
  have own : Reg.THM_ISLAND i ∈ islandThermalRegs i := List.mem_append_left _ (List.mem_append_left _ (List.mem_cons_self ..))
  have oldMax : fget u (RF.THM_ISLAND_MAX_C i) < 256 := fget_lt u (RF.THM_ISLAND_MAX_C i)
  obtain ⟨a, isA⟩ : ∃ a, a = fset u (RF.THM_ISLAND_TEMP_C i) v := ⟨_, rfl⟩
  obtain ⟨m, isM⟩ : ∃ m, m = max v (fget a (RF.THM_ISLAND_MAX_C i)) := ⟨_, rfl⟩
  obtain ⟨b, isB⟩ : ∃ b, b = fset a (RF.THM_ISLAND_MAX_C i) m := ⟨_, rfl⟩
  have sameMax : fget a (RF.THM_ISLAND_MAX_C i) = fget u (RF.THM_ISLAND_MAX_C i) := by
    rw [isA, fget_fset_apart _ _ (Nat.le_of_ble_eq_true rfl) (.inr (.inr (Nat.le_of_ble_eq_true rfl)))]
  rw [sameMax] at isM
  have policy (f : Fld) (place : f.off = Reg.THM_POLICY) : fget b f = fget u f := by
    rw [isB, fget_fset_reg _ _ _ _ (by rw [place]; exact thm_policy i), isA, fget_fset_reg _ _ _ _ (by rw [place]; exact thm_policy i)]
  have temp : fget b (RF.THM_ISLAND_TEMP_C i) = v := by
    rw [isB, fget_fset_apart _ _ (Nat.le_of_ble_eq_true rfl) (.inr (.inl (Nat.le_of_ble_eq_true rfl))), isA,
      fget_fset_same _ _ _ (Nat.le_of_ble_eq_true rfl)]
    exact Nat.mod_eq_of_lt byte
  have top : fget b (RF.THM_ISLAND_MAX_C i) = m := by
    rw [isB, fget_fset_same _ _ _ (Nat.le_of_ble_eq_true rfl)]
    exact Nat.mod_eq_of_lt (show m < 256 by omega)
  have freq : fget b (RF.THM_ISLAND_F_THERM_MHZ i) = fget u (RF.THM_ISLAND_F_THERM_MHZ i) := by
    rw [isB, fget_fset_apart _ _ (Nat.le_of_ble_eq_true rfl) (.inr (.inr (Nat.le_of_ble_eq_true rfl))), isA,
      fget_fset_apart _ _ (Nat.le_of_ble_eq_true rfl) (.inr (.inr (Nat.le_of_ble_eq_true rfl)))]
  have rate : fget b (RF.THM_ISLAND_L_THERM i) = fget u (RF.THM_ISLAND_L_THERM i) := by
    rw [isB, fget_fset_apart _ _ (Nat.le_of_ble_eq_true rfl) (.inr (.inr (Nat.le_of_ble_eq_true rfl))), isA,
      fget_fset_apart _ _ (Nat.le_of_ble_eq_true rfl) (.inr (.inr (Nat.le_of_ble_eq_true rfl)))]
  have written : Told (islandThermalRegs i) u b := by
    rw [isB, isA]
    exact (told_fset u (RF.THM_ISLAND_TEMP_C i) v own).trans (told_fset _ (RF.THM_ISLAND_MAX_C i) m own)
  have whole : heated u i v = if fget u RF.THM_POLICY_ISL_SEVERE_C ≤ v then fset (fset b (RF.THM_ISLAND_F_THERM_MHZ i) 600) (RF.THM_ISLAND_L_THERM i) 4
      else if fget u RF.THM_POLICY_ISL_HOT_C ≤ v ∨ v + 3 < fget u RF.THM_POLICY_ISL_HOT_C then fset b (RF.THM_ISLAND_L_THERM i) 16 else b := by
    unfold heated
    dsimp only
    rw [← isA, sameMax, ← isM, ← isB, policy RF.THM_POLICY_ISL_SEVERE_C rfl]
  rw [whole, ← isM]
  split
  · refine ⟨written.trans ((told_fset b (RF.THM_ISLAND_F_THERM_MHZ i) 600 own).trans (told_fset _ (RF.THM_ISLAND_L_THERM i) 4 own)), ?_, ?_, ?_, ?_⟩
    · rw [fget_fset_apart _ _ (Nat.le_of_ble_eq_true rfl) (.inr (.inl (Nat.le_of_ble_eq_true rfl))),
        fget_fset_apart _ _ (Nat.le_of_ble_eq_true rfl) (.inr (.inl (Nat.le_of_ble_eq_true rfl))), temp]
    · rw [fget_fset_apart _ _ (Nat.le_of_ble_eq_true rfl) (.inr (.inl (Nat.le_of_ble_eq_true rfl))),
        fget_fset_apart _ _ (Nat.le_of_ble_eq_true rfl) (.inr (.inl (Nat.le_of_ble_eq_true rfl))), top]
    · rw [fget_fset_apart _ _ (Nat.le_of_ble_eq_true rfl) (.inr (.inl (Nat.le_of_ble_eq_true rfl))),
        fget_fset_same _ _ _ (Nat.le_of_ble_eq_true rfl)]
      rfl
    · rw [fget_fset_same _ _ _ (Nat.le_of_ble_eq_true rfl)]
      rfl
  · split
    · refine ⟨written.trans (told_fset b (RF.THM_ISLAND_L_THERM i) 16 own), ?_, ?_, ?_, ?_⟩
      · rw [fget_fset_apart _ _ (Nat.le_of_ble_eq_true rfl) (.inr (.inl (Nat.le_of_ble_eq_true rfl))), temp]
      · rw [fget_fset_apart _ _ (Nat.le_of_ble_eq_true rfl) (.inr (.inl (Nat.le_of_ble_eq_true rfl))), top]
      · rw [fget_fset_apart _ _ (Nat.le_of_ble_eq_true rfl) (.inr (.inl (Nat.le_of_ble_eq_true rfl))), freq]
      · rw [fget_fset_same _ _ _ (Nat.le_of_ble_eq_true rfl)]
        rfl
    · exact ⟨written, temp, top, freq, rate⟩

/-- ISLAND_THERMAL_REPORT (R469). -/
theorem exec_islandThermalReport (temp : Nat) (known : i < 44) (up : fget s.dev (RF.PWR_ISLAND_STATE i) ≠ 3) :
    let v := min temp 255
    let hot := fget s.dev RF.THM_POLICY_ISL_HOT_C
    ∃ t, exec (.islandThermalReport i temp) s = .next t ∧ SameMem s.dev t.dev ∧ fget t.dev (RF.THM_ISLAND_TEMP_C i) = v
      ∧ fget t.dev (RF.THM_ISLAND_MAX_C i) = max v (fget s.dev (RF.THM_ISLAND_MAX_C i))
      ∧ fget t.dev (RF.THM_ISLAND_F_THERM_MHZ i)
          = (if fget s.dev RF.THM_POLICY_ISL_SEVERE_C ≤ v then 600 else fget s.dev (RF.THM_ISLAND_F_THERM_MHZ i))
      ∧ fget t.dev (RF.THM_ISLAND_L_THERM i) = (if fget s.dev RF.THM_POLICY_ISL_SEVERE_C ≤ v then 4
          else if hot ≤ v ∨ v + 3 < hot then 16 else fget s.dev (RF.THM_ISLAND_L_THERM i))
      ∧ OnlyIn ([Reg.THM_ISLAND i, Reg.CLK_CNT_DROOP_DEFERRALS] ++ (List.range 64).map Reg.PWR_ISLAND ++ reasonRegs 3) s t
          { s.dev with power := t.dev.power, host := t.dev.host, out := t.dev.out, log := t.dev.log, flash := t.dev.flash } := by
  intro v hot
  have ran : exec (.islandThermalReport i temp) s = .next { s with dev := finish (showThermal (heated s.dev i v) i) } := by
    show execIslandThermalReport i temp s = _
    unfold execIslandThermalReport
    rw [perform_eq]
    have served : ¬ (i ≥ 44 ∨ fget s.dev (RF.PWR_ISLAND_STATE i) = 3) := by
      rw [not_or]
      exact ⟨Nat.not_le.mpr known, up⟩
    rw [if_neg served]
    rfl
  obtain ⟨written, t, m, f, l⟩ := heated_leaves s.dev i (v := v) (by omega)
  obtain ⟨sameMem, onlyIn, fields⟩ := thermal_onlyIn (s := s) known written
  exact ⟨_, ran, sameMem, (fields _ rfl (Nat.le_of_ble_eq_true rfl)).trans t, (fields _ rfl (Nat.le_of_ble_eq_true rfl)).trans m,
    (fields _ rfl (Nat.le_of_ble_eq_true rfl)).trans f, (fields _ rfl (Nat.le_of_ble_eq_true rfl)).trans l, onlyIn⟩

/-- ISLAND_THERMAL_STEP (R469). -/
theorem exec_islandThermalStep (known : i < 44) (up : fget s.dev (RF.PWR_ISLAND_STATE i) ≠ 3) :
    let v := fget s.dev (RF.THM_ISLAND_TEMP_C i)
    let f := fget s.dev (RF.THM_ISLAND_F_THERM_MHZ i)
    let hot := fget s.dev RF.THM_POLICY_ISL_HOT_C
    ∃ t, exec (.islandThermalStep i) s = .next t ∧ SameMem s.dev t.dev
      ∧ fget t.dev (RF.THM_ISLAND_F_THERM_MHZ i) = (if fget s.dev RF.THM_POLICY_ISL_SEVERE_C ≤ v then 600 else if hot ≤ v then max 600 (f - 50)
          else if v + 3 < hot then min 2400 (f + 50) else f)
      ∧ fget t.dev (RF.THM_ISLAND_L_THERM i) = fget s.dev (RF.THM_ISLAND_L_THERM i)
      ∧ OnlyIn ([Reg.THM_ISLAND i, Reg.CLK_CNT_DROOP_DEFERRALS] ++ (List.range 64).map Reg.PWR_ISLAND ++ reasonRegs 3) s t
          { s.dev with power := t.dev.power, host := t.dev.host, out := t.dev.out, log := t.dev.log, flash := t.dev.flash } := by
  intro v f hot
  have own : Reg.THM_ISLAND i ∈ islandThermalRegs i := List.mem_append_left _ (List.mem_append_left _ (List.mem_cons_self ..))
  obtain ⟨f', isF⟩ : ∃ f', f' = (if fget s.dev RF.THM_POLICY_ISL_SEVERE_C ≤ v then 600 else if hot ≤ v then max 600 (f - 50)
      else if v + 3 < hot then min 2400 (f + 50) else f) := ⟨_, rfl⟩
  have small : f' < 4096 := by
    have : f < 4096 := fget_lt s.dev (RF.THM_ISLAND_F_THERM_MHZ i)
    rw [isF]
    split
    · omega
    · split
      · omega
      · split
        · omega
        · omega
  obtain ⟨u, isU⟩ : ∃ u, u = fset s.dev (RF.THM_ISLAND_F_THERM_MHZ i) f' := ⟨_, rfl⟩
  have ran : exec (.islandThermalStep i) s = .next { s with dev := finish (showThermal u i) } := by
    show execIslandThermalStep i s = _
    unfold execIslandThermalStep
    rw [perform_eq]
    have served : ¬ (i ≥ 44 ∨ fget s.dev (RF.PWR_ISLAND_STATE i) = 3) := by
      rw [not_or]
      exact ⟨Nat.not_le.mpr known, up⟩
    rw [if_neg served, isU, isF]
  have written : Told (islandThermalRegs i) s.dev u := isU ▸ told_fset _ _ _ own
  have value : fget u (RF.THM_ISLAND_F_THERM_MHZ i) = f' := by
    rw [isU, fget_fset_same _ _ _ (Nat.le_of_ble_eq_true rfl)]
    exact Nat.mod_eq_of_lt small
  have rate : fget u (RF.THM_ISLAND_L_THERM i) = fget s.dev (RF.THM_ISLAND_L_THERM i) := by
    rw [isU, fget_fset_apart _ _ (Nat.le_of_ble_eq_true rfl) (.inr (.inr (Nat.le_of_ble_eq_true rfl)))]
  obtain ⟨sameMem, onlyIn, fields⟩ := thermal_onlyIn (s := s) known written
  refine ⟨_, ran, sameMem, ?_, (fields _ rfl (Nat.le_of_ble_eq_true rfl)).trans rate, onlyIn⟩
  rw [← isF]
  exact (fields _ rfl (Nat.le_of_ble_eq_true rfl)).trans value

end

end Sys2Proof.Machine
end

section
/-!
SUPPORT. The clauses of an island's power states (R451 to R454).
-/
namespace Sys2Proof.Machine

/-- Cores that are changed one after another, each once. -/
theorem coreOf_foldl_once (f : Core → Core) (l : List Nat) (once : l.Nodup) (s : Dev) (j : Nat) :
    coreOf (l.foldl (fun s c => modCore s c f) s) j = if j ∈ l then f (coreOf s j) else coreOf s j := by
  induction l generalizing s with
  | nil => exact (if_neg List.not_mem_nil).symm
  | cons a l ih =>
    obtain ⟨apart, rest⟩ := List.nodup_cons.mp once
    rw [List.foldl_cons, ih rest]
    by_cases here : j = a
    · subst here
      rw [if_neg apart, if_pos (List.mem_cons_self ..), coreOf_modCore_same]
    · rw [coreOf_modCore_other _ _ _ _ here]
      simp only [List.mem_cons, here, false_or]

/-- The cores of an island. -/
def islandCores (i : Nat) : List Nat := (List.range 4).map (4 * i + ·)

theorem mem_islandCores {i c : Nat} : c ∈ islandCores i ↔ c / 4 = i := by
  unfold islandCores
  rw [List.mem_map]
  constructor
  · rintro ⟨k, known, rfl⟩
    have := List.mem_range.mp known
    omega
  · intro here
    exact ⟨c % 4, List.mem_range.mpr (by omega), by omega⟩

theorem nodup_islandCores (i : Nat) : (islandCores i).Nodup := List.nodup_range.map (fun a b same => by simpa using same)

/-- What the slices' states are shown in: the islands' BYPASS bits, and SHC_STATUS. -/
theorem showSlices_leaves (s : Dev) : (∃ regs, showSlices s = { s with regs := regs })
    ∧ ∀ f : Fld, f.lo + f.width ≤ 64 → f.off ≠ Reg.SHC_STATUS → (∀ k, f.Apart (RF.PWR_ISLAND_BYPASS k)) → fget (showSlices s) f = fget s f := by
  have step (f : Dev → Nat → Nat) : ∀ (t : Dev) (k : Nat), ∃ regs, fset t (RF.PWR_ISLAND_BYPASS k) (f t k) = { t with regs := regs } := fun t k => ⟨_, rfl⟩
  unfold showSlices
  dsimp only
  obtain ⟨u, isU⟩ : ∃ u, u = (List.range (fget s RF.BRG_PKG_LEVEL_ENABLED_COUNT)).foldl (fun s i =>
      fset s (RF.PWR_ISLAND_BYPASS i) (b2n (fget s (RF.SHC_SLICE_STATUS_STATE i) == 2))) s := ⟨_, rfl⟩
  rw [← isU]
  refine ⟨?_, fun f within shc apart => ?_⟩
  · obtain ⟨regs, shape⟩ := regWrites_shape (List.range (fget s RF.BRG_PKG_LEVEL_ENABLED_COUNT))
      (step (fun s i => b2n (fget s (RF.SHC_SLICE_STATUS_STATE i) == 2))) s
    rw [← isU] at shape
    rw [shape]
    exact ⟨_, rfl⟩
  · rw [fget_fset_reg _ _ _ _ shc, fget_fset_reg _ _ _ _ shc, isU]
    exact fget_foldl _ _ (fun k _ t => fget_fset_apart _ _ within (apart k)) s

/-- What a slice that leaves bypass leaves. -/
theorem leaveBypass_leaves (s : Dev) {i : Nat} (known : i < 44) : (∃ regs, leaveBypass s i = { s with regs := regs })
    ∧ (∀ f : Fld, f.off = Reg.PWR_ISLAND i → f.lo + f.width ≤ 64 → (3 ≤ f.lo ∨ f.lo + f.width ≤ 2) → fget (leaveBypass s i) f = fget s f)
    ∧ (fget s (RF.SHC_SLICE_STATUS_STATE i) ≤ 2 → fget (leaveBypass s i) (RF.SHC_SLICE_STATUS_STATE i) = 0) := by
  have place : Reg.SHC_SLICE_STATUS i = 0x150400 + 8 * i := rfl
  obtain ⟨state, isState⟩ : ∃ f, f = RF.SHC_SLICE_STATUS_STATE i := ⟨_, rfl⟩
  have stateOff : state.off = Reg.SHC_SLICE_STATUS i := by
    rw [isState]
    rfl
  have stateSpan : state.lo = 0 ∧ state.width = 2 := by
    rw [isState]
    exact ⟨rfl, rfl⟩
  obtain ⟨lo, width⟩ := stateSpan
  unfold leaveBypass
  rw [← isState]
  split
  · obtain ⟨u, isU⟩ : ∃ u, u = if fget s state = 2 then
        fset s (RF.SHC_SLICE_STATUS_EPOCH i) (fget s (RF.SHC_SLICE_STATUS_EPOCH i) + 1) else s := ⟨_, rfl⟩
    obtain ⟨v, isV⟩ : ∃ v, v = fset u state 0 := ⟨_, rfl⟩
    obtain ⟨⟨regs, shape⟩, fields⟩ := showSlices_leaves v
    dsimp only
    rw [← isU, ← isV]
    have shapeV : ∃ regs, v = { s with regs := regs } := by
      rw [isV, isU]
      split
      · exact ⟨_, rfl⟩
      · exact ⟨_, rfl⟩
    obtain ⟨regs', shapeV⟩ := shapeV
    refine ⟨⟨regs, shape.trans (by rw [shapeV])⟩, fun f own within apart => ?_, fun _ => ?_⟩
    · have here : f.off = 0x1F0400 + 8 * i := own
      have other : f.off ≠ Reg.SHC_SLICE_STATUS i := by omega
      rw [fields f within (by show _ ≠ 0x150000; omega) (fun k => .inr ?_), isV, fget_fset_reg _ _ _ _ (by rw [stateOff]; exact other), isU]
      · split
        · exact fget_fset_reg _ _ _ _ other
        · rfl
      · show f.lo + f.width ≤ 2 ∨ 2 + 1 ≤ f.lo
        omega
    · rw [fields state (by omega) (by rw [stateOff]; show _ ≠ 0x150000; omega) (fun k => .inr ?_), isV, fget_fset_same _ _ _ (by omega)]
      · exact Nat.zero_mod _
      · show state.lo + state.width ≤ 2 ∨ 2 + 1 ≤ state.lo
        omega
  · next runs =>
    refine ⟨⟨_, rfl⟩, fun _ _ _ _ => rfl, fun small => ?_⟩
    omega

/-! ### The clauses -/

section
variable {s : State} {i : Nat}

/-- ISLAND_GATE (R452). -/
theorem exec_islandGate (known : i < 44) (present : i < islandCount s.dev) (runs : fget s.dev (RF.PWR_ISLAND_STATE i) = 0) (idle : islandIdle s.dev i = true) :
    ∃ t, exec (.islandGate i) s = .next t ∧ SameMem s.dev t.dev ∧ fget t.dev (RF.PWR_ISLAND_STATE i) = 1 ∧ fget t.dev (RF.PWR_ISLAND_F_MHZ i) = 0
      ∧ tget t.dev.power.changing i = none ∧ i ∉ t.dev.power.deferred
      ∧ OnlyIn ([Reg.PWR_ISLAND i] ++ reasonRegs 5) s t { s.dev with power := t.dev.power } := by
  have own : Reg.PWR_ISLAND i ∈ [Reg.PWR_ISLAND i] ++ reasonRegs 5 := List.mem_cons_self ..
  obtain ⟨u, isU⟩ : ∃ u, u = { s.dev with power := { s.dev.power with
      changing := tdel s.dev.power.changing i, deferred := s.dev.power.deferred.filter (· != i) } } := ⟨_, rfl⟩
  obtain ⟨v, isV⟩ : ∃ v, v = fset (fset (fset u (RF.PWR_ISLAND_STATE i) 1) (RF.PWR_ISLAND_F_MHZ i) 0) (RF.PWR_ISLAND_STRETCH i) 0 := ⟨_, rfl⟩
  obtain ⟨w, isW⟩ : ∃ w, w = endReason v 5 i := ⟨_, rfl⟩
  obtain ⟨z, isZ⟩ : ∃ z, z = updateProgress w := ⟨_, rfl⟩
  have ran : exec (.islandGate i) s = .next { s with dev := finish z } := by
    show execIslandGate i s = _
    unfold execIslandGate
    rw [perform_eq]
    have served : ¬ (i ≥ islandCount s.dev ∨ fget s.dev (RF.PWR_ISLAND_STATE i) ≠ 0 ∨ (!islandIdle s.dev i) = true) := by
      rw [not_or, not_or, not_not, idle]
      exact ⟨Nat.not_le.mpr present, runs, by decide⟩
    rw [if_neg served]
    dsimp only
    rw [← isU, ← isV, ← isW, ← isZ]
  have state : fget v (RF.PWR_ISLAND_STATE i) = 1 := by
    rw [isV, fget_fset_apart _ _ (Nat.le_of_ble_eq_true rfl) (.inr (.inl (Nat.le_of_ble_eq_true rfl))),
      fget_fset_apart _ _ (Nat.le_of_ble_eq_true rfl) (.inr (.inl (Nat.le_of_ble_eq_true rfl))), fget_fset_same _ _ _ (Nat.le_of_ble_eq_true rfl)]
    rfl
  have freq : fget v (RF.PWR_ISLAND_F_MHZ i) = 0 := by
    rw [isV, fget_fset_apart _ _ (Nat.le_of_ble_eq_true rfl) (.inr (.inl (Nat.le_of_ble_eq_true rfl))), fget_fset_same _ _ _ (Nat.le_of_ble_eq_true rfl)]
    rfl
  obtain ⟨regsV, shapeV⟩ : ∃ regs, v = { u with regs := regs } := isV ▸ ⟨_, rfl⟩
  obtain ⟨regsW, shapeW⟩ := endReason_shape v 5 i
  obtain ⟨regsZ, shapeZ⟩ := updateProgress_shape w
  rw [← isW] at shapeW
  rw [← isZ] at shapeZ
  have power : z.power = { u.power with applies := u.power.applies.filter (· != (5, i)) } := by
    rw [shapeZ, shapeW, shapeV]
  have whole : z = { s.dev with regs := z.regs, power := z.power } := by
    rw [shapeZ, shapeW, shapeV, isU]
  have fields (f : Fld) (spared : f.Spared) : fget z f = fget v f := by
    rw [isZ, fget_updateProgress _ spared.progress, isW, fget_endReason _ _ _ spared]
  have told : Told ([Reg.PWR_ISLAND i] ++ reasonRegs 5) s.dev z := by
    have first : Told ([Reg.PWR_ISLAND i] ++ reasonRegs 5) s.dev u := isU ▸ told_power _ s.dev _
    have second : Told ([Reg.PWR_ISLAND i] ++ reasonRegs 5) u v := by
      rw [isV]
      exact ((told_fset u (RF.PWR_ISLAND_STATE i) 1 own).trans (told_fset _ (RF.PWR_ISLAND_F_MHZ i) 0 own)).trans
        (told_fset _ (RF.PWR_ISLAND_STRETCH i) 0 own)
    have third : Told ([Reg.PWR_ISLAND i] ++ reasonRegs 5) v w :=
      isW ▸ told_endReason v 5 i (List.Subset.trans (reasonRegs_shown 5) (List.subset_append_right _ _))
    have last : Told ([Reg.PWR_ISLAND i] ++ reasonRegs 5) w z :=
      isZ ▸ told_regWrite w _ (List.mem_append_right _ (reasonRegs_shown 5 (by decide)))
    exact ((first.trans second).trans third).trans last
  refine ⟨_, ran, sameMem_finish told.dram, (fget_finish _ _ (island_shc i)).trans ?_, (fget_finish _ _ (island_shc i)).trans ?_, ?_, ?_,
    onlyIn_power whole told.regs⟩
  · exact (fields _ (islandFld_spared known rfl (.inl (Nat.le_of_ble_eq_true rfl)))).trans state
  · exact (fields _ (islandFld_spared known rfl (.inl (Nat.le_of_ble_eq_true rfl)))).trans freq
  · show tget (finish z).power.changing i = none
    rw [finish_power, power, isU]
    exact tget_tdel_same _ _
  · show i ∉ (finish z).power.deferred
    rw [finish_power, power, isU]
    exact fun listed => absurd (List.mem_filter.mp listed).2 (by simp)

/-- A step that changes registers and cores alone, closed. -/
theorem onlyIn_cores {l : List Nat} {u : Dev} (rest : u = { s.dev with regs := u.regs, cores := u.cores }) (regs : SameRegsBut l s.dev u) :
    OnlyIn l s { s with dev := finish u } { s.dev with cores := (finish u).cores } := by
  refine onlyIn_finish ?_ regs
  rw [finish_cores, rest]

/-- ISLAND_OFF (R452, R453). -/
theorem exec_islandOff (present : i < islandCount s.dev) (gated : fget s.dev (RF.PWR_ISLAND_STATE i) = 1)
    (policy : fget s.dev RF.PWR_IDLE_POLICY_OFF_US ≠ 0) (idle : islandIdle s.dev i = true) :
    ∃ t, exec (.islandOff i) s = .next t ∧ SameMem s.dev t.dev
      ∧ (if ∀ c ∈ List.range 4, (l1PushAll (coreOf s.dev (4 * i + c))).wb = [] then
          fget t.dev (RF.PWR_ISLAND_STATE i) = 2 ∧ ∀ c, c < 4 → coreOf t.dev (4 * i + c) = Core.reset
        else fget t.dev (RF.PWR_ISLAND_STATE i) = 1 ∧ ∀ c, c < 4 → coreOf t.dev (4 * i + c) = l1PushAll (coreOf s.dev (4 * i + c)))
      ∧ (∀ c, c / 4 ≠ i → coreOf t.dev c = coreOf s.dev c)
      ∧ OnlyIn [Reg.PWR_ISLAND i] s t { s.dev with cores := t.dev.cores } := by
  obtain ⟨u, isU⟩ : ∃ u, u = (islandCores i).foldl (fun s c => modCore s c l1PushAll) s.dev := ⟨_, rfl⟩
  obtain ⟨v, isV⟩ : ∃ v, v = fset u (RF.PWR_ISLAND_STATE i) 2 := ⟨_, rfl⟩
  obtain ⟨w, isW⟩ : ∃ w, w = (islandCores i).foldl (fun s c => modCore s c (fun _ => Core.reset)) v := ⟨_, rfl⟩
  obtain ⟨cores, shapeU⟩ := foldl_modCore_shape l1PushAll (islandCores i) s.dev
  obtain ⟨cores', shapeW⟩ := foldl_modCore_shape (fun _ => Core.reset) (islandCores i) v
  have pushed := coreOf_foldl_once l1PushAll (islandCores i) (nodup_islandCores i) s.dev
  have cleared := coreOf_foldl_once (fun _ => Core.reset) (islandCores i) (nodup_islandCores i) v
  rw [← isU] at shapeU pushed
  rw [← isW] at shapeW cleared
  have sameCores : v.cores = u.cores := by
    rw [isV]
    rfl
  have pushedOwn (c : Nat) (small : c < 4) : coreOf u (4 * i + c) = l1PushAll (coreOf s.dev (4 * i + c)) := by
    rw [pushed, if_pos (mem_islandCores.mpr (by omega))]
  have ran : exec (.islandOff i) s
      = .next { s with dev := finish (if (islandCores i).any (fun c => !(coreOf u c).wb.isEmpty) = true then u else w) } := by
    show execIslandOff i s = _
    unfold execIslandOff
    rw [perform_eq]
    have served : ¬ (i ≥ islandCount s.dev ∨ fget s.dev (RF.PWR_ISLAND_STATE i) ≠ 1 ∨ fget s.dev RF.PWR_IDLE_POLICY_OFF_US = 0
        ∨ (!islandIdle s.dev i) = true) := by
      rw [not_or, not_or, not_or, not_not, idle]
      exact ⟨Nat.not_le.mpr present, gated, policy, by decide⟩
    have resets : (fun s c => setCore s c Core.reset) = (fun s c => modCore s c (fun _ => Core.reset)) := rfl
    have cores : (List.range 4).map (4 * i + ·) = islandCores i := rfl
    rw [if_neg served]
    dsimp only
    rw [cores, ← isU, ← isV, resets, ← isW]
  have empty : (islandCores i).any (fun c => !(coreOf u c).wb.isEmpty) = true ↔ ¬ ∀ c ∈ List.range 4, (l1PushAll (coreOf s.dev (4 * i + c))).wb = [] := by
    unfold islandCores
    rw [List.any_map, List.any_eq_true]
    constructor
    · rintro ⟨c, small, waits⟩ none'
      have := none' c small
      rw [← pushedOwn c (List.mem_range.mp small)] at this
      simp [this] at waits
    · intro some'
      simp only [not_forall] at some'
      obtain ⟨c, small, waits⟩ := some'
      rw [← pushedOwn c (List.mem_range.mp small)] at waits
      exact ⟨c, small, by simpa using waits⟩
  rw [ran]
  by_cases done : ∀ c ∈ List.range 4, (l1PushAll (coreOf s.dev (4 * i + c))).wb = []
  · rw [if_neg (fun waits => empty.mp waits done)]
    have sameRegs : w.regs = v.regs := by rw [shapeW]
    refine ⟨_, rfl, sameMem_finish ?_, ?_, fun c other => ?_, onlyIn_cores ?_ ?_⟩
    · rw [shapeW]
      show v.dram = _
      rw [isV]
      show u.dram = _
      rw [shapeU]
    · rw [if_pos done]
      refine ⟨(fget_finish _ _ (island_shc i)).trans ?_, fun c small => ?_⟩
      · rw [fget_congr sameRegs, isV, fget_fset_same _ _ _ (Nat.le_of_ble_eq_true rfl)]
        rfl
      · refine (congrArg (fun t => tgetD t _ Core.reset) (finish_cores w)).trans ?_
        exact (cleared _).trans (if_pos (mem_islandCores.mpr (by omega)))
    · refine (congrArg (fun t => tgetD t _ Core.reset) (finish_cores w)).trans ((cleared c).trans ?_)
      rw [if_neg (fun listed => other (mem_islandCores.mp listed))]
      refine (congrArg (fun t => tgetD t c Core.reset) sameCores).trans ((pushed c).trans ?_)
      exact if_neg (fun listed => other (mem_islandCores.mp listed))
    · obtain ⟨regs, shapeV⟩ : ∃ regs, v = { u with regs := regs } := isV ▸ ⟨_, rfl⟩
      rw [shapeW, shapeV, shapeU]
    · intro o others _
      rw [regRead_congr sameRegs, isV, regRead_fset_other _ _ _ _ (fun own => others (List.mem_singleton.mpr own))]
      exact regRead_congr (by rw [shapeU]) o
  · rw [if_pos (empty.mpr done)]
    have sameRegs : u.regs = s.dev.regs := by rw [shapeU]
    refine ⟨_, rfl, sameMem_finish ?_, ?_, fun c other => ?_, onlyIn_cores ?_ ?_⟩
    · rw [shapeU]
    · rw [if_neg done]
      refine ⟨(fget_finish _ _ (island_shc i)).trans ?_, fun c small => ?_⟩
      · rw [fget_congr sameRegs, gated]
      · exact (congrArg (fun t => tgetD t _ Core.reset) (finish_cores u)).trans (pushedOwn c small)
    · refine (congrArg (fun t => tgetD t _ Core.reset) (finish_cores u)).trans ((pushed c).trans ?_)
      exact if_neg (fun listed => other (mem_islandCores.mp listed))
    · rw [shapeU]
    · exact fun o _ _ => regRead_congr sameRegs o

/-! ### Islands that run again (R451, R461) -/

/-- The limits of an island follow from the terms and the reasons. -/
theorem islandF_congr {a b : Dev} (i : Nat) (applies : b.power.applies = a.power.applies)
    (same : ∀ f : Fld, f.off = Reg.PWR_POLICY ∨ f.off = Reg.PWR_LIMITS ∨ f.off = Reg.THM_ISLAND i → fget b f = fget a f) : islandF b i = islandF a i := by
  unfold islandF
  rw [applies, same _ (.inl rfl), same _ (.inl rfl), same _ (.inr (.inl rfl)), same _ (.inr (.inl rfl)), same _ (.inr (.inr rfl))]

theorem islandL_congr {a b : Dev} (i : Nat)
    (same : ∀ f : Fld, f.off = Reg.PWR_POLICY ∨ f.off = Reg.PWR_LIMITS ∨ f.off = Reg.THM_ISLAND i → fget b f = fget a f) : islandL b i = islandL a i := by
  unfold islandL
  rw [same _ (.inr (.inl rfl)), same _ (.inr (.inl rfl)), same _ (.inr (.inl rfl)), same _ (.inr (.inr rfl))]

theorem islandF_lt (s : Dev) (i : Nat) : islandF s i < 4096 := by
  have : mhz (fget s RF.PWR_POLICY_FMAX_MHZ) ≤ 2400 := by
    unfold mhz
    omega
  unfold islandF
  dsimp only
  omega

theorem islandL_lt (s : Dev) (i : Nat) : islandL s i < 32 := by
  unfold islandL
  omega

/-- ISLAND_WAKE_COMPLETE (R451, R452). -/
theorem exec_islandWakeComplete (known : i < 44) (asked : i ∈ s.dev.power.wake)
    (sleeps : fget s.dev (RF.PWR_ISLAND_STATE i) = 1 ∨ fget s.dev (RF.PWR_ISLAND_STATE i) = 2) (fatal : fget s.dev RF.BRG_ERR_STATUS_FATAL = 0) :
    ∃ t, exec (.islandWakeComplete i) s = .next t ∧ SameMem s.dev t.dev ∧ fget t.dev (RF.PWR_ISLAND_STATE i) = 0
      ∧ fget t.dev (RF.PWR_ISLAND_F_MHZ i) = islandF s.dev i ∧ fget t.dev (RF.PWR_ISLAND_F_TARGET_MHZ i) = islandF s.dev i
      ∧ fget t.dev (RF.PWR_ISLAND_L i) = islandL s.dev i ∧ i ∉ t.dev.power.wake
      ∧ (fget s.dev (RF.SHC_SLICE_STATUS_STATE i) ≤ 2 → fget t.dev (RF.SHC_SLICE_STATUS_STATE i) = 0) := by
  have place : Reg.PWR_ISLAND i = 0x1F0400 + 8 * i := rfl
  have slice : Reg.SHC_SLICE_STATUS i = 0x150400 + 8 * i := rfl
  obtain ⟨u, isU⟩ : ∃ u, u = { s.dev with power := { s.dev.power with wake := s.dev.power.wake.filter (· != i) } } := ⟨_, rfl⟩
  obtain ⟨v, isV⟩ : ∃ v, v = fset (fset u (RF.PWR_ISLAND_STATE i) 0) (RF.PWR_ISLAND_F_MHZ i) (islandF u i) := ⟨_, rfl⟩
  obtain ⟨w, isW⟩ : ∃ w, w = fset (fset v (RF.PWR_ISLAND_F_TARGET_MHZ i) (islandF v i)) (RF.PWR_ISLAND_L i) (islandL v i) := ⟨_, rfl⟩
  obtain ⟨x, isX⟩ : ∃ x, x = leaveBypass w i := ⟨_, rfl⟩
  obtain ⟨z, isZ⟩ : ∃ z, z = updateProgress x := ⟨_, rfl⟩
  have ran : exec (.islandWakeComplete i) s = .next { s with dev := finish z } := by
    show execIslandWakeComplete i s = _
    unfold execIslandWakeComplete
    rw [perform_eq]
    have served : ¬ ((!s.dev.power.wake.contains i) = true ∨ (fget s.dev (RF.PWR_ISLAND_STATE i) ≠ 1 ∧ fget s.dev (RF.PWR_ISLAND_STATE i) ≠ 2)
        ∨ fget s.dev RF.BRG_ERR_STATUS_FATAL = 1) := by
      rw [not_or, not_or, List.contains_iff_mem.mpr asked, fatal]
      exact ⟨by decide, fun other => sleeps.elim other.1 other.2, by decide⟩
    dsimp only
    rw [if_neg served, ← isU, ← isV, ← isW, ← isX, ← isZ]
  have sameRegs : u.regs = s.dev.regs := by rw [isU]
  have elsewhere (f : Fld) (other : f.off ≠ Reg.PWR_ISLAND i) : fget v f = fget s.dev f := by
    rw [isV, fget_fset_reg _ _ _ _ other, fget_fset_reg _ _ _ _ other, fget_congr sameRegs]
  obtain ⟨regsV, shapeV⟩ : ∃ regs, v = { u with regs := regs } := isV ▸ ⟨_, rfl⟩
  obtain ⟨regsW, shapeW⟩ : ∃ regs, w = { v with regs := regs } := isW ▸ ⟨_, rfl⟩
  obtain ⟨⟨regsX, shapeX⟩, islandFields, sliceState⟩ := leaveBypass_leaves w known
  rw [← isX] at shapeX islandFields sliceState
  obtain ⟨regsZ, shapeZ⟩ := updateProgress_shape x
  rw [← isZ] at shapeZ
  have terms (f : Fld) (own : f.off = Reg.PWR_POLICY ∨ f.off = Reg.PWR_LIMITS ∨ f.off = Reg.THM_ISLAND i) : f.off ≠ Reg.PWR_ISLAND i := by
    have policy : Reg.PWR_POLICY = 0x1F0008 := rfl
    have limits : Reg.PWR_LIMITS = 0x1F0018 := rfl
    have thermal : Reg.THM_ISLAND i = 0x1F1100 + 8 * i := rfl
    omega
  have applies : u.power.applies = s.dev.power.applies := by rw [isU]
  have freqU : islandF u i = islandF s.dev i := islandF_congr i applies (fun f _ => fget_congr sameRegs f)
  have freqV : islandF v i = islandF s.dev i :=
    islandF_congr i ((by rw [shapeV] : v.power.applies = u.power.applies).trans applies) (fun f own => elsewhere f (terms f own))
  have rateV : islandL v i = islandL s.dev i := islandL_congr i (fun f own => elsewhere f (terms f own))
  have fields (f : Fld) (own : f.off = Reg.PWR_ISLAND i) (within : f.lo + f.width ≤ 64) (apart : 3 ≤ f.lo ∨ f.lo + f.width ≤ 2) :
      fget (finish z) f = fget w f := by
    rw [fget_finish _ _ (by rw [own]; exact island_shc i), isZ, fget_updateProgress _ (by rw [own]; exact island_progress i), islandFields f own within apart]
  have stateW (f : Fld) (own : f.off = Reg.PWR_ISLAND i) (below : f.lo + f.width ≤ 20) : fget w f = fget v f := by
    rw [isW, fget_fset_apart _ _ (by omega) (.inr (.inl (by show _ ≤ 32; omega))), fget_fset_apart _ _ (by omega) (.inr (.inl (by show _ ≤ 20; omega)))]
  refine ⟨_, ran, sameMem_finish ?_, ?_, ?_, ?_, ?_, ?_, fun small => ?_⟩
  · rw [shapeZ, shapeX, shapeW, shapeV, isU]
  · rw [fields _ rfl (Nat.le_of_ble_eq_true rfl) (.inr (Nat.le_of_ble_eq_true rfl)), stateW _ rfl (Nat.le_of_ble_eq_true rfl), isV,
      fget_fset_apart _ _ (Nat.le_of_ble_eq_true rfl) (.inr (.inl (Nat.le_of_ble_eq_true rfl))), fget_fset_same _ _ _ (Nat.le_of_ble_eq_true rfl)]
    rfl
  · rw [fields _ rfl (Nat.le_of_ble_eq_true rfl) (.inl (Nat.le_of_ble_eq_true rfl)), stateW _ rfl (Nat.le_of_ble_eq_true rfl), isV,
      fget_fset_same _ _ _ (Nat.le_of_ble_eq_true rfl), freqU]
    exact Nat.mod_eq_of_lt (islandF_lt _ _)
  · rw [fields _ rfl (Nat.le_of_ble_eq_true rfl) (.inl (Nat.le_of_ble_eq_true rfl)), isW,
      fget_fset_apart _ _ (Nat.le_of_ble_eq_true rfl) (.inr (.inl (Nat.le_of_ble_eq_true rfl))), fget_fset_same _ _ _ (Nat.le_of_ble_eq_true rfl), freqV]
    exact Nat.mod_eq_of_lt (islandF_lt _ _)
  · rw [fields _ rfl (Nat.le_of_ble_eq_true rfl) (.inl (Nat.le_of_ble_eq_true rfl)), isW, fget_fset_same _ _ _ (Nat.le_of_ble_eq_true rfl), rateV]
    exact Nat.mod_eq_of_lt (islandL_lt _ _)
  · show i ∉ (finish z).power.wake
    have same : z.power = u.power := by rw [shapeZ, shapeX, shapeW, shapeV]
    rw [finish_power, same, isU]
    exact fun listed => absurd (List.mem_filter.mp listed).2 (by simp)
  · have other : (RF.SHC_SLICE_STATUS_STATE i).off ≠ Reg.PWR_ISLAND i := by
      show Reg.SHC_SLICE_STATUS i ≠ _
      omega
    have sameW : fget w (RF.SHC_SLICE_STATUS_STATE i) = fget s.dev (RF.SHC_SLICE_STATUS_STATE i) := by
      rw [isW, fget_fset_reg _ _ _ _ other, fget_fset_reg _ _ _ _ other, elsewhere _ other]
    rw [fget_finish _ _ (by show Reg.SHC_SLICE_STATUS i ≠ 0x150000; omega), isZ,
      fget_updateProgress _ (by show Reg.SHC_SLICE_STATUS i ≠ 0x190008; omega)]
    exact sliceState (by rw [sameW]; exact small)

end

end Sys2Proof.Machine
end

section
/-!
SUPPORT. The clauses of the power caps (R466 to R468, R471).
-/
namespace Sys2Proof.Machine

/-! ### The reasons of the caps -/

/-- The registers of the caps' reasons, and of the limits that follow. -/
def capRegs : List Nat := reasonRegs 1 ++ reasonRegs 7 ++ reasonRegs 8 ++ reasonRegs 2 ++ targetRegs

/-- What a change of the caps' terms leaves, once it is shown. -/
structure CapsShown (s t : Dev) : Prop where
  told : Told capRegs s t
  fields : ∀ f : Fld, f.Spared → f.off ∉ targetRegs → fget t f = fget s f
  power : ∃ applies told changing deferred, t.power = { s.power with applies := applies, told := told, changing := changing, deferred := deferred }

theorem CapsShown.trans {s t u : Dev} (h : CapsShown s t) (k : CapsShown t u) : CapsShown s u := by
  obtain ⟨told, fields, a, b, c, d, power⟩ := h
  obtain ⟨told', fields', a', b', c', d', power'⟩ := k
  exact ⟨told.trans told', fun f spared other => (fields' f spared other).trans (fields f spared other), a', b', c', d', by rw [power', power]⟩

theorem Reported.capsShown {r : Nat} {s t : Dev} (h : Reported r s t) (cap : reasonRegs r ⊆ capRegs) : CapsShown s t := by
  obtain ⟨told, fields, applies, tells, power⟩ := h
  exact ⟨told.mono cap, fun f spared _ => fields f spared, applies, tells, s.power.changing, s.power.deferred, power⟩

theorem showCaps_leaves (s : Dev) : CapsShown s (showCaps s) := by
  have one : reasonRegs 1 ⊆ capRegs := fun o named => by simp only [capRegs, List.mem_append, named, true_or]
  have seven : reasonRegs 7 ⊆ capRegs := fun o named => by simp only [capRegs, List.mem_append, named, true_or, or_true]
  have eight : reasonRegs 8 ⊆ capRegs := fun o named => by simp only [capRegs, List.mem_append, named, true_or, or_true]
  have two : reasonRegs 2 ⊆ capRegs := fun o named => by simp only [capRegs, List.mem_append, named, true_or, or_true]
  unfold showCaps
  dsimp only
  exact ((((setReason_leaves s (by decide) _ _).capsShown one).trans ((setReason_leaves _ (by decide) _ _).capsShown seven)).trans
    ((setReason_leaves _ (by decide) _ _).capsShown eight)).trans ((setReason_leaves _ (by decide) _ _).capsShown two)

theorem Retargeted.capsShown {s t : Dev} (h : Retargeted s t) : CapsShown s t := by
  obtain ⟨told, changing, deferred, power⟩ := h
  exact ⟨told.mono (List.subset_append_right _ _), fun f spared other => told.fget other spared.shc, s.power.applies, s.power.told, changing, deferred, power⟩

theorem retarget_showCaps_leaves (s : Dev) : CapsShown s (retarget (showCaps s)) := (showCaps_leaves s).trans (retarget_retargeted _).capsShown

/-- A field of PWR_LIMITS. -/
theorem limits_spared {f : Fld} (own : f.off = Reg.PWR_LIMITS) (within : f.lo + f.width ≤ 64) : f.Spared ∧ f.off ∉ targetRegs := by
  have place : f.off = 0x1F0018 := own
  refine ⟨Fld.spared_elsewhere within (.inr (by omega)) (.inl (by omega)), ?_⟩
  rw [place]
  decide

/-- A field of PWR_STATUS beside REASONS. -/
theorem status_spared {f : Fld} (own : f.off = Reg.PWR_STATUS) (within : f.lo + f.width ≤ 64) (apart : f.lo + f.width ≤ 48 ∨ 56 ≤ f.lo) :
    f.Spared ∧ f.off ∉ targetRegs := by
  refine ⟨Fld.spared_status own within apart, ?_⟩
  rw [own]
  decide

/-! ### Samples (R466, R467, R471) -/

section
variable {s : State}

theorem ilim_congr {a b : Dev} (same : fget b RF.PWR_POLICY_ILIM_A = fget a RF.PWR_POLICY_ILIM_A) : ilim b = ilim a := by
  unfold ilim
  rw [same]

/-- POWER_SAMPLE (R466, R467, R471). -/
theorem exec_powerSample {vin iin : Nat} (smallV : vin < 65536) (smallI : iin < 65536) :
    ∃ t, exec (.powerSample vin iin) s = .next t ∧ SameMem s.dev t.dev ∧ fget t.dev RF.PWR_STATUS_VIN_CV = vin ∧ fget t.dev RF.PWR_STATUS_IIN_CA = iin
      ∧ regRead t.dev Reg.PWR_ENERGY_DEVICE = (regRead s.dev Reg.PWR_ENERGY_DEVICE + vin * iin / 1000) % 2 ^ 64
      ∧ fget t.dev RF.PWR_LIMITS_L_CAP
          = (if 42000000 < vin * iin then max 4 (fget s.dev RF.PWR_LIMITS_L_CAP - 4) else fget s.dev RF.PWR_LIMITS_L_CAP)
      ∧ fget t.dev RF.PWR_LIMITS_L_CUR = (if ilim s.dev < iin then 8 else fget s.dev RF.PWR_LIMITS_L_CUR)
      ∧ (vin * iin ≤ 42000000 → iin ≤ ilim s.dev → OnlyIn [Reg.PWR_STATUS, Reg.PWR_ENERGY_DEVICE] s t
          { s.dev with power := { s.dev.power with samples := t.dev.power.samples, calm := s.dev.power.calm && decide (iin + 200 < ilim s.dev) } }) := by
  obtain ⟨a, isA⟩ : ∃ a, a = fset (fset s.dev RF.PWR_STATUS_VIN_CV vin) RF.PWR_STATUS_IIN_CA iin := ⟨_, rfl⟩
  obtain ⟨b, isB⟩ : ∃ b, b = bumpBy a Reg.PWR_ENERGY_DEVICE (vin * iin / 1000) := ⟨_, rfl⟩
  obtain ⟨c, isC⟩ : ∃ c, c = { b with power := { b.power with
      samples := (b.power.samples ++ [vin * iin]).drop (b.power.samples.length - 9), calm := b.power.calm && decide (iin + 200 < ilim b) } } := ⟨_, rfl⟩
  obtain ⟨d, isD⟩ : ∃ d, d = if 42000000 < vin * iin then fset c RF.PWR_LIMITS_L_CAP (max 4 (fget c RF.PWR_LIMITS_L_CAP - 4)) else c := ⟨_, rfl⟩
  obtain ⟨e, isE⟩ : ∃ e, e = if ilim d < iin then fset d RF.PWR_LIMITS_L_CUR 8 else d := ⟨_, rfl⟩
  obtain ⟨z, isZ⟩ : ∃ z, z = if 42000000 < vin * iin ∨ ilim e < iin then retarget (showCaps e) else e := ⟨_, rfl⟩
  have ran : exec (.powerSample vin iin) s = .next { s with dev := finish z } := by
    show execPowerSample vin iin s = _
    unfold execPowerSample
    rw [perform_eq, Nat.mod_eq_of_lt smallV, Nat.mod_eq_of_lt smallI]
    dsimp only
    rw [← isA, ← isB, ← isC]
    simp only [gt_iff_lt]
    rw [← isD, ← isE, ← isZ]
  have sameRegs : c.regs = b.regs := by rw [isC]
  have early (f : Fld) (status : f.off ≠ Reg.PWR_STATUS) (energy : f.off ≠ Reg.PWR_ENERGY_DEVICE) : fget c f = fget s.dev f := by
    rw [fget_congr sameRegs, isB, fget_bumpBy_other _ _ energy, isA, fget_fset_reg _ _ _ _ status, fget_fset_reg _ _ _ _ status]
  have later (f : Fld) (limits : f.off ≠ Reg.PWR_LIMITS) : fget e f = fget c f := by
    rw [isE]
    split
    · rw [fget_fset_reg _ _ _ _ limits, isD]
      split
      · exact fget_fset_reg _ _ _ _ limits
      · rfl
    · rw [isD]
      split
      · exact fget_fset_reg _ _ _ _ limits
      · rfl
  have limB : ilim b = ilim s.dev := ilim_congr ((fget_congr sameRegs _).symm.trans (early _ (by decide) (by decide)))
  have limD : ilim d = ilim s.dev := by
    refine ilim_congr ?_
    rw [isD]
    split
    · exact (fget_fset_reg _ _ _ _ (by decide)).trans (early _ (by decide) (by decide))
    · exact early _ (by decide) (by decide)
  have limE : ilim e = ilim s.dev := ilim_congr ((later _ (by decide)).trans (early _ (by decide) (by decide)))
  rw [limB] at isC
  rw [limD] at isE
  rw [limE] at isZ
  have fields (f : Fld) (spared : f.Spared ∧ f.off ∉ targetRegs) : fget z f = fget e f := by
    rw [isZ]
    split
    · exact (retarget_showCaps_leaves e).fields f spared.1 spared.2
    · rfl
  have status (f : Fld) (own : f.off = Reg.PWR_STATUS) (low : f.lo + f.width ≤ 48) : fget (finish z) f = fget a f := by
    have energy : f.off ≠ Reg.PWR_ENERGY_DEVICE := by
      rw [own]
      decide
    have limits : f.off ≠ Reg.PWR_LIMITS := by
      rw [own]
      decide
    have shc : f.off ≠ Reg.SHC_STATUS := by
      rw [own]
      decide
    rw [fget_finish _ _ shc, fields f (status_spared own (by omega) (.inl low)), later f limits, fget_congr sameRegs, isB, fget_bumpBy_other _ _ energy]
  have limits (f : Fld) (own : f.off = Reg.PWR_LIMITS) (within : f.lo + f.width ≤ 64) : fget (finish z) f = fget e f := by
    have shc : f.off ≠ Reg.SHC_STATUS := by
      rw [own]
      decide
    rw [fget_finish _ _ shc, fields f (limits_spared own within)]
  have capC : fget c RF.PWR_LIMITS_L_CAP = fget s.dev RF.PWR_LIMITS_L_CAP := early _ (by decide) (by decide)
  have curC : fget c RF.PWR_LIMITS_L_CUR = fget s.dev RF.PWR_LIMITS_L_CUR := early _ (by decide) (by decide)
  have capE : fget e RF.PWR_LIMITS_L_CAP
      = (if 42000000 < vin * iin then max 4 (fget s.dev RF.PWR_LIMITS_L_CAP - 4) else fget s.dev RF.PWR_LIMITS_L_CAP) := by
    have small : fget s.dev RF.PWR_LIMITS_L_CAP < 32 := fget_lt s.dev RF.PWR_LIMITS_L_CAP
    have same : fget e RF.PWR_LIMITS_L_CAP = fget d RF.PWR_LIMITS_L_CAP := by
      rw [isE]
      split
      · exact fget_fset_apart _ _ (by decide) (.inr (.inl (by decide)))
      · rfl
    rw [same, isD, capC]
    split
    · rw [fget_fset_same _ _ _ (by decide)]
      exact Nat.mod_eq_of_lt (show _ < 32 by omega)
    · exact capC
  have curE : fget e RF.PWR_LIMITS_L_CUR = (if ilim s.dev < iin then 8 else fget s.dev RF.PWR_LIMITS_L_CUR) := by
    have same : fget d RF.PWR_LIMITS_L_CUR = fget s.dev RF.PWR_LIMITS_L_CUR := by
      rw [isD]
      split
      · exact (fget_fset_apart _ _ (by decide) (.inr (.inr (by decide)))).trans curC
      · exact curC
    rw [isE]
    split
    · exact fget_fset_same _ _ _ (by decide)
    · exact same
  have energy : regRead z Reg.PWR_ENERGY_DEVICE = regRead b Reg.PWR_ENERGY_DEVICE := by
    have shown : regRead z Reg.PWR_ENERGY_DEVICE = regRead e Reg.PWR_ENERGY_DEVICE := by
      rw [isZ]
      split
      · exact (retarget_showCaps_leaves e).told.regs _ (by decide) (by decide)
      · rfl
    have set : regRead e Reg.PWR_ENERGY_DEVICE = regRead d Reg.PWR_ENERGY_DEVICE := by
      rw [isE]
      split
      · exact regRead_fset_other _ _ _ _ (by decide)
      · rfl
    have cap : regRead d Reg.PWR_ENERGY_DEVICE = regRead c Reg.PWR_ENERGY_DEVICE := by
      rw [isD]
      split
      · exact regRead_fset_other _ _ _ _ (by decide)
      · rfl
    exact ((shown.trans set).trans cap).trans (regRead_congr sameRegs _)
  obtain ⟨regsA, shapeA⟩ : ∃ regs, a = { s.dev with regs := regs } := isA ▸ ⟨_, rfl⟩
  obtain ⟨regsB, shapeB⟩ : ∃ regs, b = { a with regs := regs } := isB ▸ ⟨_, rfl⟩
  have dram : z.dram = s.dev.dram := by
    have shown : z.dram = e.dram := by
      rw [isZ]
      split
      · exact (retarget_showCaps_leaves e).told.dram
      · rfl
    have set : e.dram = d.dram := by
      rw [isE]
      split
      · rfl
      · rfl
    have cap : d.dram = c.dram := by
      rw [isD]
      split
      · rfl
      · rfl
    rw [shown, set, cap, isC, shapeB, shapeA]
  refine ⟨_, ran, sameMem_finish dram, ?_, ?_, ?_, (limits _ rfl (by decide)).trans capE, (limits _ rfl (by decide)).trans curE, fun quiet under => ?_⟩
  · rw [status _ rfl (by decide), isA, fget_fset_apart _ _ (by decide) (.inr (.inl (by decide))), fget_fset_same _ _ _ (by decide)]
    exact Nat.mod_eq_of_lt smallV
  · rw [status _ rfl (by decide), isA, fget_fset_same _ _ _ (by decide)]
    exact Nat.mod_eq_of_lt smallI
  · refine (regRead_finish _ _ (by decide)).trans (energy.trans ?_)
    have sameA : regRead a Reg.PWR_ENERGY_DEVICE = regRead s.dev Reg.PWR_ENERGY_DEVICE := by
      rw [isA, regRead_fset_other _ _ _ _ (by decide), regRead_fset_other _ _ _ _ (by decide)]
    rw [isB, ← sameA]
    exact regRead_regWrite_same _ _ _
  · rw [if_neg (Nat.not_lt.mpr quiet)] at isD
    rw [if_neg (Nat.not_lt.mpr under)] at isE
    rw [if_neg (by omega)] at isZ
    have same : z = c := isZ.trans (isE.trans isD)
    have calm : c.power = { s.dev.power with samples := c.power.samples, calm := s.dev.power.calm && decide (iin + 200 < ilim s.dev) } := by
      rw [isC, shapeB, shapeA]
    rw [same]
    have closed : OnlyIn [Reg.PWR_STATUS, Reg.PWR_ENERGY_DEVICE] s { s with dev := finish c } { s.dev with power := (finish c).power } := by
      refine onlyIn_power ?_ (fun o others shc => ?_)
      · rw [isC, shapeB, shapeA]
      · obtain ⟨noStatus, noEnergy⟩ := ne_of_not_mem_pair others
        rw [regRead_congr sameRegs, isB]
        refine (regRead_regWrite_other _ _ _ _ noEnergy).trans ?_
        rw [isA, regRead_fset_other _ _ _ _ noStatus, regRead_fset_other _ _ _ _ noStatus]
    rw [finish_power, calm] at closed
    rw [finish_power]
    exact closed

/-! ### The loop (R466) -/

section
variable {x : Nat}

theorem capF_off : (capF x).off = Reg.PWR_LIMITS := by
  unfold capF
  split
  · rfl
  · rfl

theorem capL_off : (capL x).off = Reg.PWR_LIMITS := by
  unfold capL
  split
  · rfl
  · rfl

@[simp] theorem capF_width : (capF x).width = 12 := by
  unfold capF
  split
  · rfl
  · rfl

@[simp] theorem capL_width : (capL x).width = 5 := by
  unfold capL
  split
  · rfl
  · rfl

/-- The two terms of a source lie side by side, below L_CUR. -/
theorem capF_below : (capF x).lo + 12 ≤ (capL x).lo ∧ (capL x).lo + 5 ≤ 34 := by
  unfold capF capL
  split
  · exact ⟨Nat.le_of_ble_eq_true rfl, Nat.le_of_ble_eq_true rfl⟩
  · exact ⟨Nat.le_of_ble_eq_true rfl, Nat.le_of_ble_eq_true rfl⟩

end

/-- One period of the loop (R466): the terms of the source, and what lies above them. -/
theorem powerStep_leaves (u : Dev) (sum c x : Nat) : (∃ regs, powerStep u sum c x = { u with regs := regs })
    ∧ fget (powerStep u sum c x) (capF x) = (if c * 100000 < sum then (if 8 < fget u (capL x) then fget u (capF x) else max 600 (fget u (capF x) - 50))
        else if sum + fget u RF.PWR_POLICY_HYST_W * 100000 < c * 100000 then
          (if fget u (capF x) < 2400 then min 2400 (fget u (capF x) + 50) else fget u (capF x)) else fget u (capF x))
    ∧ fget (powerStep u sum c x) (capL x) = (if c * 100000 < sum then (if 8 < fget u (capL x) then fget u (capL x) - 1 else fget u (capL x))
        else if sum + fget u RF.PWR_POLICY_HYST_W * 100000 < c * 100000 then
          (if fget u (capF x) < 2400 then fget u (capL x) else if fget u (capL x) < 16 then fget u (capL x) + 1 else fget u (capL x)) else fget u (capL x))
    ∧ ∀ f : Fld, f.lo + f.width ≤ 64 → (f.off ≠ Reg.PWR_LIMITS ∨ 34 ≤ f.lo) → fget (powerStep u sum c x) f = fget u f := by
  have ⟨order, top⟩ := capF_below (x := x)
  have fSmall : fget u (capF x) < 4096 := by
    have := fget_lt u (capF x)
    rwa [capF_width] at this
  have lSmall : fget u (capL x) < 32 := by
    have := fget_lt u (capL x)
    rwa [capL_width] at this
  have wF : (capF x).width = 12 := capF_width
  have wL : (capL x).width = 5 := capL_width
  have setF (v : Nat) (small : v < 4096) : fget (fset u (capF x) v) (capF x) = v ∧ fget (fset u (capF x) v) (capL x) = fget u (capL x) := by
    refine ⟨?_, fget_fset_apart _ _ (by omega) (.inr (.inr (by omega)))⟩
    rw [fget_fset_same _ _ _ (by omega), wF]
    exact Nat.mod_eq_of_lt small
  have setL (v : Nat) (small : v < 32) : fget (fset u (capL x) v) (capF x) = fget u (capF x) ∧ fget (fset u (capL x) v) (capL x) = v := by
    refine ⟨fget_fset_apart _ _ (by omega) (.inr (.inl (by omega))), ?_⟩
    rw [fget_fset_same _ _ _ (by omega), wL]
    exact Nat.mod_eq_of_lt small
  have restF (v : Nat) (f : Fld) (within : f.lo + f.width ≤ 64) (high : f.off ≠ Reg.PWR_LIMITS ∨ 34 ≤ f.lo) : fget (fset u (capF x) v) f = fget u f := by
    refine fget_fset_apart _ _ within (high.imp (fun h => by rw [capF_off]; exact h) (fun h => .inr (by omega)))
  have restL (v : Nat) (f : Fld) (within : f.lo + f.width ≤ 64) (high : f.off ≠ Reg.PWR_LIMITS ∨ 34 ≤ f.lo) : fget (fset u (capL x) v) f = fget u f := by
    refine fget_fset_apart _ _ within (high.imp (fun h => by rw [capL_off]; exact h) (fun h => .inr (by omega)))
  unfold powerStep
  dsimp only
  simp only [gt_iff_lt]
  by_cases above : c * 100000 < sum
  · simp only [above, if_true]
    by_cases more : 8 < fget u (capL x)
    · simp only [more, if_true]
      obtain ⟨a, b⟩ := setL (fget u (capL x) - 1) (by omega)
      exact ⟨⟨_, rfl⟩, a, b, restL _⟩
    · simp only [more, if_false]
      obtain ⟨a, b⟩ := setF (max 600 (fget u (capF x) - 50)) (by omega)
      exact ⟨⟨_, rfl⟩, a, b, restF _⟩
  · simp only [above, if_false]
    by_cases below : sum + fget u RF.PWR_POLICY_HYST_W * 100000 < c * 100000
    · simp only [below, if_true]
      by_cases slow : fget u (capF x) < 2400
      · simp only [slow, if_true]
        obtain ⟨a, b⟩ := setF (min 2400 (fget u (capF x) + 50)) (by omega)
        exact ⟨⟨_, rfl⟩, a, b, restF _⟩
      · simp only [slow, if_false]
        by_cases few : fget u (capL x) < 16
        · simp only [few, if_true]
          obtain ⟨a, b⟩ := setL (fget u (capL x) + 1) (by omega)
          exact ⟨⟨_, rfl⟩, a, b, restL _⟩
        · simp only [few, if_false]
          exact ⟨⟨_, rfl⟩, trivial, trivial, fun _ _ _ => trivial⟩
    · simp only [below, if_false]
      exact ⟨⟨_, rfl⟩, trivial, trivial, fun _ _ _ => trivial⟩

/-- The energy of the instances is counted in registers of their own. -/
theorem addEnergy_leaves (u : Dev) : (∃ regs free, addEnergy u = { u with regs := regs, free := free })
    ∧ ∀ f : Fld, f.off < 0x1F0100 → fget (addEnergy u) f = fget u f := by
  refine List.foldlRecOn (motive := fun v : Dev => (∃ (regs : Tbl Word64) (free : Nat), v = { u with regs := regs, free := free })
    ∧ ∀ f : Fld, f.off < 0x1F0100 → fget v f = fget u f) _ _ ⟨⟨_, _, rfl⟩, fun _ _ => rfl⟩ (fun v before i _ => ?_)
  obtain ⟨⟨regs, free, shape⟩, fields⟩ := before
  dsimp only
  split
  · exact ⟨⟨regs, free, shape⟩, fields⟩
  · obtain ⟨w, isW⟩ : ∃ w, w = { v with free := v.free + 1 } := ⟨_, rfl⟩
    have taken : (takeFree v).2 = w := isW.symm
    have sameRegs : w.regs = v.regs := by rw [isW]
    rw [taken]
    refine ⟨?_, fun f low => ?_⟩
    · obtain ⟨regs', shape'⟩ : ∃ regs', bumpBy w (Reg.PWR_ENERGY_INST i) (takeFree v).1 = { w with regs := regs' } := ⟨_, rfl⟩
      exact ⟨regs', v.free + 1, by rw [shape', isW, shape]⟩
    · have other : f.off ≠ Reg.PWR_ENERGY_INST i := by
        show f.off ≠ 0x1F0100 + 8 * i
        omega
      rw [fget_bumpBy_other _ _ other, fget_congr sameRegs, fields f low]

/-- POWER_LOOP (R466, R467). -/
theorem exec_powerLoop {x c sum f l : Nat} (ten : 10 ≤ s.dev.power.samples.length) (fatal : fget s.dev RF.BRG_ERR_STATUS_FATAL = 0)
    (isSum : sum = s.dev.power.samples.foldl (· + ·) 0) (cap : lowestCap s.dev = (x, c)) (source : s.dev.power.source = x)
    (isF : f = fget s.dev (capF x)) (isL : l = fget s.dev (capL x)) :
    ∃ t, exec .powerLoop s = .next t ∧ SameMem s.dev t.dev ∧ t.dev.power.source = x ∧ t.dev.power.calm = true
      ∧ fget t.dev (capF x) = (if c * 100000 < sum then (if 8 < l then f else max 600 (f - 50))
          else if sum + fget s.dev RF.PWR_POLICY_HYST_W * 100000 < c * 100000 then (if f < 2400 then min 2400 (f + 50) else f) else f)
      ∧ fget t.dev (capL x) = (if c * 100000 < sum then (if 8 < l then l - 1 else l)
          else if sum + fget s.dev RF.PWR_POLICY_HYST_W * 100000 < c * 100000 then (if f < 2400 then l else if l < 16 then l + 1 else l) else l)
      ∧ fget t.dev RF.PWR_STATUS_PIN_W = min 8191 (sum / 100000)
      ∧ fget t.dev RF.PWR_LIMITS_L_CUR
          = (if s.dev.power.calm then min 16 (fget s.dev RF.PWR_LIMITS_L_CUR + 1) else fget s.dev RF.PWR_LIMITS_L_CUR)
      ∧ t.dev.fe = s.dev.fe ∧ t.dev.shore = s.dev.shore ∧ t.dev.cores = s.dev.cores ∧ t.dev.disp = s.dev.disp := by
  have same : changeSource s.dev x = s.dev := if_pos source.symm
  obtain ⟨a, isA⟩ : ∃ a, a = powerStep s.dev sum c x := ⟨_, rfl⟩
  obtain ⟨b, isB⟩ : ∃ b, b = if x = 1 then a else fset (fset a RF.PWR_LIMITS_F_CAP 2400) RF.PWR_LIMITS_L_CAP 16 := ⟨_, rfl⟩
  obtain ⟨d, isD⟩ : ∃ d, d = fset b RF.PWR_STATUS_PIN_W (min 8191 (sum / 100000)) := ⟨_, rfl⟩
  obtain ⟨e, isE⟩ : ∃ e, e = if d.power.calm then fset d RF.PWR_LIMITS_L_CUR (min 16 (fget d RF.PWR_LIMITS_L_CUR + 1)) else d := ⟨_, rfl⟩
  obtain ⟨g, isG⟩ : ∃ g, g = { e with power := { e.power with calm := true } } := ⟨_, rfl⟩
  obtain ⟨h, isH⟩ : ∃ h, h = retarget (showCaps g) := ⟨_, rfl⟩
  obtain ⟨z, isZ⟩ : ∃ z, z = addEnergy h := ⟨_, rfl⟩
  have ran : exec .powerLoop s = .next { s with dev := finish z } := by
    show execPowerLoop s = _
    unfold execPowerLoop
    have served : ¬ (s.dev.power.samples.length < 10 ∨ fget s.dev RF.BRG_ERR_STATUS_FATAL = 1) := by
      rw [not_or, fatal]
      exact ⟨Nat.not_lt.mpr ten, by decide⟩
    rw [perform_eq, if_neg served]
    dsimp only
    rw [cap, ← isSum]
    dsimp only
    rw [same, ← isA, ← isB, ← isD, ← isE, ← isG, ← isH, ← isZ]
  obtain ⟨⟨regsA, shapeA⟩, stepF, stepL, fieldsA⟩ := powerStep_leaves s.dev sum c x
  rw [← isA] at shapeA stepF stepL fieldsA
  obtain ⟨regsB, shapeB⟩ : ∃ regs, b = { a with regs := regs } := by
    rw [isB]
    split
    · exact ⟨_, rfl⟩
    · exact ⟨_, rfl⟩
  obtain ⟨regsD, shapeD⟩ : ∃ regs, d = { b with regs := regs } := isD ▸ ⟨_, rfl⟩
  obtain ⟨regsE, shapeE⟩ : ∃ regs, e = { d with regs := regs } := by
    rw [isE]
    split
    · exact ⟨_, rfl⟩
    · exact ⟨_, rfl⟩
  have sameRegs : g.regs = e.regs := by rw [isG]
  have shown : CapsShown g h := isH ▸ retarget_showCaps_leaves g
  obtain ⟨⟨regsZ, freeZ, shapeZ⟩, fieldsZ⟩ := addEnergy_leaves h
  rw [← isZ] at shapeZ fieldsZ
  have ⟨order, top⟩ := capF_below (x := x)
  have wF : (capF x).width = 12 := capF_width
  have wL : (capL x).width = 5 := capL_width
  have oF : (capF x).off = Reg.PWR_LIMITS := capF_off
  have oL : (capL x).off = Reg.PWR_LIMITS := capL_off
  have closed (f : Fld) (own : f.off = Reg.PWR_LIMITS ∨ f.off = Reg.PWR_STATUS) (spared : f.Spared ∧ f.off ∉ targetRegs) : fget (finish z) f = fget e f := by
    have low : f.off < 0x1F0100 := by
      obtain own | own := own
      · rw [own]
        decide
      · rw [own]
        decide
    rw [fget_finish _ _ spared.1.shc, fieldsZ f low, shown.fields f spared.1 spared.2, fget_congr sameRegs]
  have term (f : Fld) (own : f.off = Reg.PWR_LIMITS) (below : f.lo + f.width ≤ 34) (other : x = 1 ∨ 17 ≤ f.lo) : fget (finish z) f = fget a f := by
    have toB : fget b f = fget a f := by
      rw [isB]
      split
      · rfl
      · next second =>
        have high := other.resolve_left second
        rw [fget_fset_apart _ _ (by omega) (.inr (.inr (by show 12 + 5 ≤ _; omega))), fget_fset_apart _ _ (by omega) (.inr (.inr (by show 0 + 12 ≤ _; omega)))]
    have toD : fget d f = fget b f := by
      rw [isD]
      exact fget_fset_reg _ _ _ _ (by rw [own]; decide)
    have toE : fget e f = fget d f := by
      rw [isE]
      split
      · exact fget_fset_apart _ _ (by omega) (.inr (.inl below))
      · rfl
    rw [closed f (.inl own) (limits_spared own (by omega)), toE, toD, toB]
  have place : x = 1 ∨ 17 ≤ (capF x).lo := by
    by_cases one : x = 1
    · exact .inl one
    · refine .inr ?_
      unfold capF
      rw [if_neg one]
      exact Nat.le_of_ble_eq_true rfl
  have curA : fget a RF.PWR_LIMITS_L_CUR = fget s.dev RF.PWR_LIMITS_L_CUR := fieldsA _ (by decide) (.inr (by decide))
  have curD : fget d RF.PWR_LIMITS_L_CUR = fget s.dev RF.PWR_LIMITS_L_CUR := by
    rw [isD, fget_fset_reg _ _ _ _ (by decide), isB]
    split
    · exact curA
    · rw [fget_fset_apart _ _ (by decide) (.inr (.inr (by decide))), fget_fset_apart _ _ (by decide) (.inr (.inr (by decide))), curA]
  have calmD : d.power.calm = s.dev.power.calm := by rw [shapeD, shapeB, shapeA]
  have power : ∃ applies told changing deferred, z.power
      = { s.dev.power with calm := true, applies := applies, told := told, changing := changing, deferred := deferred } := by
    obtain ⟨applies, told, changing, deferred, after⟩ := shown.power
    have fromZ : z.power = h.power := by rw [shapeZ]
    have toG : g.power = { s.dev.power with calm := true } := by rw [isG, shapeE, shapeD, shapeB, shapeA]
    exact ⟨applies, told, changing, deferred, by rw [fromZ, after, toG]⟩
  obtain ⟨applies, told, changing, deferred, power⟩ := power
  have rest := shown.told.rest
  rw [isF, isL]
  refine ⟨_, ran, sameMem_finish ?_, ?_, ?_, ?_, ?_, ?_, ?_, ?_, ?_, ?_, ?_⟩
  · rw [shapeZ, rest, isG, shapeE, shapeD, shapeB, shapeA]
  · show (finish z).power.source = x
    rw [finish_power, power]
    exact source
  · show (finish z).power.calm = true
    rw [finish_power, power]
  · exact (term _ oF (by omega) place).trans stepF
  · exact (term _ oL (by omega) (place.imp_right (by omega))).trans stepL
  · refine (closed _ (.inr rfl) (status_spared rfl (by decide) (.inl (by decide)))).trans ?_
    have toE : fget e RF.PWR_STATUS_PIN_W = fget d RF.PWR_STATUS_PIN_W := by
      rw [isE]
      split
      · exact fget_fset_reg _ _ _ _ (by decide)
      · rfl
    rw [toE, isD, fget_fset_same _ _ _ (by decide)]
    exact Nat.mod_eq_of_lt (show _ < 8192 by omega)
  · refine (closed _ (.inl rfl) (limits_spared rfl (by decide))).trans ?_
    rw [isE, calmD]
    have small : fget s.dev RF.PWR_LIMITS_L_CUR < 32 := fget_lt s.dev RF.PWR_LIMITS_L_CUR
    split
    · rw [fget_fset_same _ _ _ (by decide), curD]
      exact Nat.mod_eq_of_lt (show _ < 32 by omega)
    · exact curD
  · show (finish z).fe = _
    rw [finish_fe, shapeZ, rest, isG, shapeE, shapeD, shapeB, shapeA]
  · show (finish z).shore = _
    rw [finish_shore, shapeZ, rest, isG, shapeE, shapeD, shapeB, shapeA]
  · show (finish z).cores = _
    rw [finish_cores, shapeZ, rest, isG, shapeE, shapeD, shapeB, shapeA]
  · show (finish z).disp = _
    rw [finish_disp, shapeZ, rest, isG, shapeE, shapeD, shapeB, shapeA]

/-- PWR_HOST_LIMIT (R468). -/
theorem exec_pwrHostLimit {c : Cmd} {x : Ctx} {w : Nat} (admits : Admits s.dev 0xB0 c x) (isW : w = eb x.e 16 2) (low : w = 0 ∨ 600 ≤ w) (high : w ≤ 3600) :
    ∃ t, exec (.pwrHostLimit c) s = .next t ∧ SameMem s.dev t.dev ∧ Completes s.dev t.dev x Ret.ok ∧ fget t.dev RF.PWR_LIMITS_HOST_LIMIT_W = w
      ∧ fget t.dev RF.PWR_LIMITS_F_CAP = fget s.dev RF.PWR_LIMITS_F_CAP ∧ OnlyCmd [Reg.PWR_LIMITS] s t x s.dev := by
  have unblocked : s.dev.blocked = [] := free_of_admits admits
  have ends : ∃ t, exec (.pwrHostLimit c) s = .next { s with dev := t } ∧ Ended s.dev (fset s.dev RF.PWR_LIMITS_HOST_LIMIT_W w) t x Ret.ok := by
    refine ⟨_, rfl, command_ends rfl admits (by decide) ?_ unblocked rfl rfl⟩
    dsimp only
    rw [← isW]
    refine (afterChecks_pass ?_ _).trans rfl
    intro p member
    rw [List.mem_singleton.mp member]
    simp
    omega
  obtain ⟨t, ran, ended⟩ := ends
  obtain ⟨u, isU⟩ : ∃ u, u = fset s.dev RF.PWR_LIMITS_HOST_LIMIT_W w := ⟨_, rfl⟩
  rw [← isU] at ended
  obtain ⟨regs, shape⟩ : ∃ regs, u = { s.dev with regs := regs } := isU ▸ ⟨_, rfl⟩
  have limits : regRead t Reg.PWR_LIMITS = regRead u Reg.PWR_LIMITS := ended.regs _ (by decide) (by decide)
  have field (f : Fld) (own : f.off = Reg.PWR_LIMITS) : fget t f = fget u f := by
    refine congrArg (fun v => bitsOf v f.lo f.width) ?_
    rw [own]
    exact limits
  refine ⟨_, ran, (sameMem_of_dram (by rw [shape])).trans ended.mem, ended.completes, (field _ rfl).trans ?_, (field _ rfl).trans ?_, ended.onlyCmd ?_ ?_⟩
  · rw [isU, fget_fset_same _ _ _ (by decide)]
    exact Nat.mod_eq_of_lt (show w < 4096 by omega)
  · rw [isU, fget_fset_apart _ _ (by decide) (.inr (.inl (by decide)))]
  · have rest := ended.shape
    rw [shape] at rest
    obtain ⟨store, rings, out, log, rom, dram, regs', rfl⟩ := rest.literal
    rfl
  · intro o others _
    rw [isU]
    exact regRead_fset_other _ _ _ _ (fun own => others (List.mem_singleton.mpr own))

end

end Sys2Proof.Machine
end

section
/-!
SUPPORT. Device-fatal faults (R495, R496): what they end, what they show, and what they leave.
-/
namespace Sys2Proof.Machine

/-! ### Traces that end -/

/-- What the records of traces leave alone: walks of any instance are counted. -/
structure Traced (s t : Dev) : Prop where
  regs : ∀ o, o ∉ trafficRegs → (∀ i, o ≠ Reg.TRN_CNT_WALKS i) → o ≠ 0x150000 → regRead t o = regRead s o
  rest : t = { s with
    regs := t.regs, free := t.free, nextReq := t.nextReq, shore := t.shore, mem := t.mem, dram := t.dram, blocked := t.blocked, log := t.log
    out := t.out, traces := t.traces, traceQ := t.traceQ, fe := { s.fe with wakes := t.fe.wakes }, fab := fabSent t s.fab
    flash := { s.flash with romLog := t.flash.romLog } }

namespace Traced

theorem refl (s : Dev) : Traced s s := ⟨fun _ _ _ _ => rfl, rfl⟩

theorem trans {s t u : Dev} (h : Traced s t) (k : Traced t u) : Traced s u := by
  refine ⟨fun o others walks shc => (k.regs o others walks shc).trans (h.regs o others walks shc), ?_⟩
  rw [k.rest, h.rest]
  rfl

theorem foldl {α : Type} {f : Dev → α → Dev} (step : ∀ t a, Traced t (f t a)) (l : List α) (s : Dev) : Traced s (l.foldl f s) :=
  List.foldlRecOn (motive := Traced s) _ _ (.refl s) (fun t before a _ => before.trans (step t a))

end Traced

theorem TrafficOf.traced {i : Nat} {s t : Dev} (h : TrafficOf i s t) : Traced s t := by
  obtain ⟨regs, rest⟩ := h
  refine ⟨fun o others walks shc => regs o ?_ shc, rest⟩
  rw [List.mem_cons, not_or]
  exact ⟨walks i, others⟩

theorem traced_whole (s : Dev) {f : Dev → Dev} (ran : Traced s (f s)) : Traced s (whole s f) := by
  obtain rest | same := Traffic.whole (s := s) (f := f)
  · exact (rest.of 0).traced
  · rw [same]
    exact ran

theorem traced_traceHeader (s : Dev) (t : Nat) : Traced s (traceHeader s t) := by
  unfold traceHeader
  split
  · next x here =>
    have shown : Traced s { s with traces := tset s.traces t { x with shown := x.state } } := ⟨fun _ _ _ _ => rfl, rfl⟩
    exact shown.trans (trafficOf_vaWrite _ _ _ _).traced
  · exact .refl s

theorem traced_traceWrite (s : Dev) (q : Nat × Nat × Nat) : Traced s (traceWrite s q) := by
  have taken : Traced s { s with traceQ := s.traceQ.erase q } := ⟨fun _ _ _ _ => rfl, rfl⟩
  unfold traceWrite
  dsimp only
  split
  · next x here =>
    obtain ⟨u, isU⟩ : ∃ u, u = (vaWrite { s with traceQ := s.traceQ.erase q } x.inst (x.va + 64 + 32 * q.2.1) (leBytes 32 q.2.2)).1 := ⟨_, rfl⟩
    have written : Traced s u := isU ▸ taken.trans (trafficOf_vaWrite _ _ _ _).traced
    rw [← isU]
    have counted : Traced u { u with traces := tset u.traces q.1 { x with written := q.2.1 + 1 } } := ⟨fun _ _ _ _ => rfl, rfl⟩
    exact (written.trans counted).trans (traced_traceHeader _ _)
  · exact taken

theorem traced_drainTraces (s : Dev) : Traced s (drainTraces s) := by
  unfold drainTraces
  refine (Traced.foldl (fun t q => traced_whole t (traced_traceWrite t q)) _ s).trans (.foldl (fun t k => ?_) _ _)
  split
  · split
    · exact .refl t
    · exact traced_whole t (traced_traceHeader t k)
  · exact .refl t

theorem traced_endTrace (s : Dev) (t state : Nat) : Traced s (endTrace s t state) := by
  unfold endTrace
  split
  · next x here =>
    split
    · exact .refl s
    · have ended : Traced s { s with traces := tset s.traces t { x with state := state } } := ⟨fun _ _ _ _ => rfl, rfl⟩
      exact ended.trans (traced_drainTraces _)
  · exact .refl s

/-! ### Ports and rails -/

/-- What one of the steps reaches and every step keeps holds after them. -/
theorem foldl_reaches {α : Type} (P : Dev → Prop) (step : Dev → α → Dev) (keeps : ∀ t a, P t → P (step t a)) {a : α} {l : List α} (member : a ∈ l)
    (sets : ∀ t, P (step t a)) (s : Dev) : P (l.foldl step s) := by
  induction l generalizing s with
  | nil => exact absurd member List.not_mem_nil
  | cons b l ih =>
    rw [List.foldl_cons]
    by_cases later : a ∈ l
    · exact ih later _
    · obtain rfl := (List.mem_cons.mp member).resolve_right later
      exact List.foldlRecOn (motive := P) _ _ (sets s) (fun t before b _ => keeps t b before)

/-- The registers that a device-fatal fault leaves to those who caused it. -/
def steadyRegs : List Nat := [Reg.BRG_ERR_STATUS, Reg.BRG_START_STATUS, Reg.PWR_STATUS, Reg.CLK_STATUS, Reg.CLK_CNT_UNLOCKS]

/-- A register that stays while all work ends (R496). -/
theorem steady_apart {o : Nat} (steady : o ∈ steadyRegs) : o ∉ trafficRegs ∧ (∀ i, o ≠ Reg.TRN_CNT_WALKS i) ∧ o ∉ txRegs ∧ o ∉ logRegs
    ∧ o ≠ Reg.HST_CNT_DROPPED_CPL ∧ (o < 0x150000 ∨ 0x1F0000 ≤ o) ∧ (o < 0x1F0400 ∨ 0x1F0560 ≤ o) := by
  have walks : ∀ o ∈ steadyRegs, o % 64 ≠ 16 := by decide
  have all : ∀ o ∈ steadyRegs, o ∉ trafficRegs ∧ o ∉ txRegs ∧ o ∉ logRegs ∧ o ≠ Reg.HST_CNT_DROPPED_CPL ∧ (o < 0x150000 ∨ 0x1F0000 ≤ o)
    ∧ (o < 0x1F0400 ∨ 0x1F0560 ≤ o) := by decide
  obtain ⟨traffic, tx, log, dropped, place, island⟩ := all o steady
  refine ⟨traffic, fun i own => walks o steady ?_, tx, log, dropped, place, island⟩
  have : Reg.TRN_CNT_WALKS i = 0x170010 + 64 * i := rfl
  omega

/-- The fabric ports go down: those that are told, the ports' states, and what is left (R496). -/
theorem portsDown_leaves (s : Dev) : (∃ regs out fab, portsDown s = { s with regs := regs, out := out, fab := fab })
    ∧ (∀ o ∈ steadyRegs, regRead (portsDown s) o = regRead s o) ∧ fget (portsDown s) RF.FAB_STATUS_PORTS_UP = 0
    ∧ ∀ p, p < 16 → fget (portsDown s) (RF.FAB_PORT_STATUS_STATE p) = 0 := by
  unfold portsDown
  dsimp only
  obtain ⟨u, isU⟩ : ∃ u, u = ((List.range 64).filter (fun m => fget s (RF.SHC_EPOCH_VALID m) == 1)).foldl (fun s m =>
    if fabReach s (fget s (RF.SHC_EPOCH_DEVICE m)) then sendFab s (fget s (RF.SHC_EPOCH_DEVICE m)) 0 0 false .depart else s) s := ⟨_, rfl⟩
  rw [← isU]
  have sent : OnlySent s u := by
    rw [isU]
    refine List.foldlRecOn (motive := OnlySent s) _ _ (.refl s) (fun t before m _ => before.trans ?_)
    split
    · exact (routeMsg_sends t _).1
    · exact .refl t
  obtain ⟨v, isV⟩ : ∃ v, v = (List.range 16).foldl (fun s p =>
    fset (fset (fset s (RF.FAB_PORT_STATUS_STATE p) 0) (RF.FAB_PORT_STATUS_SECURE p) 0) (RF.FAB_PORT_STATUS_BW_GBPS p) 0) u := ⟨_, rfl⟩
  rw [← isV]
  have shapeV : ∃ regs, v = { u with regs := regs } := isV ▸ regWrites_shape _ (fun t p => ⟨_, rfl⟩) u
  obtain ⟨regsV, shapeV⟩ := shapeV
  have portsRegs (o : Nat) (other : ∀ p < 16, o ≠ Reg.FAB_PORT_STATUS p) : regRead v o = regRead u o := by
    rw [isV]
    refine regRead_foldl _ _ (fun p member t => ?_) u
    have away := other p (List.mem_range.mp member)
    rw [regRead_fset_other _ _ _ _ away, regRead_fset_other _ _ _ _ away, regRead_fset_other _ _ _ _ away]
  have down (p : Nat) (known : p < 16) : fget v (RF.FAB_PORT_STATUS_STATE p) = 0 := by
    have apart (g : Fld) (a : g.lo = 36 ∨ g.lo = 48) (t : Dev) : fget (fset t g 0) (RF.FAB_PORT_STATUS_STATE p) = fget t (RF.FAB_PORT_STATUS_STATE p) := by
      refine fget_fset_apart _ _ (Nat.le_of_ble_eq_true rfl) (.inr (.inl ?_))
      show 0 + 3 ≤ g.lo
      omega
    rw [isV]
    refine foldl_reaches (fun t => fget t (RF.FAB_PORT_STATUS_STATE p) = 0) _ (fun t q before => ?_) (List.mem_range.mpr known) (fun t => ?_) u
    · rw [apart _ (.inr rfl), apart _ (.inl rfl)]
      by_cases here : q = p
      · subst here
        rw [fget_fset_same _ _ _ (Nat.le_of_ble_eq_true rfl)]
        exact Nat.zero_mod _
      · have other : Reg.FAB_PORT_STATUS p ≠ Reg.FAB_PORT_STATUS q := by
          show 0x191000 + 128 * p + 0x00 ≠ 0x191000 + 128 * q + 0x00
          omega
        exact (fget_fset_reg _ _ _ _ other).trans before
    · rw [apart _ (.inr rfl), apart _ (.inl rfl), fget_fset_same _ _ _ (Nat.le_of_ble_eq_true rfl)]
      exact Nat.zero_mod _
  obtain ⟨regsW, shapeW⟩ : ∃ regs, fset v RF.FAB_STATUS_PORTS_UP 0 = { v with regs := regs } := ⟨_, rfl⟩
  refine ⟨⟨regsW, u.out, u.fab, ?_⟩, fun o steady => ?_, ?_, fun p known => ?_⟩
  · rw [shapeW, shapeV, sent.rest]
  · obtain ⟨-, -, unsent, -, -, place, -⟩ := steady_apart steady
    have status : o ≠ Reg.FAB_STATUS := by
      show o ≠ 0x190000
      omega
    have shc : o ≠ Reg.SHC_STATUS := by
      show o ≠ 0x150000
      omega
    rw [regRead_fset_other _ _ _ _ status, portsRegs o, sent.regs o unsent shc]
    intro p known
    show o ≠ 0x191000 + 128 * p + 0x00
    omega
  · rw [fget_fset_same _ _ _ (Nat.le_of_ble_eq_true rfl)]
    exact Nat.zero_mod _
  · rw [fget_fset_reg _ _ _ _ (by show 0x191000 + 128 * p + 0x00 ≠ 0x190000; omega), down p known]

/-- The rails turn off (R496): every island is Off or Lost, and nothing that was in flight is left. -/
theorem railsOff_leaves (s : Dev) : (∃ regs log mem, railsOff s = { s with
      regs := regs, log := log, mem := mem, cores := [], disp := [], net := [], blocked := [], fe := FrontEnd.reset, traceQ := [],
      shore := { s.shore with lines := [], fills := [], dir := [], txn := [], queue := [], wants := [], heldFwd := [] } })
    ∧ (∀ o, o < 0x1F0400 ∨ 0x1F0560 ≤ o → regRead (railsOff s) o = regRead s o)
    ∧ ∀ i, i < 44 → 2 ≤ fget (railsOff s) (RF.PWR_ISLAND_STATE i) := by
  unfold railsOff
  dsimp only
  obtain ⟨u, isU⟩ : ∃ u, u = (List.range 44).foldl (fun s i => if fget s (RF.PWR_ISLAND_STATE i) = 3 then s else fset s (RF.PWR_ISLAND_STATE i) 2) s :=
    ⟨_, rfl⟩
  rw [← isU]
  have shape : ∃ regs, u = { s with regs := regs } := by
    rw [isU]
    refine regWrites_shape _ (fun t i => ?_) s
    split
    · exact ⟨_, rfl⟩
    · exact ⟨_, rfl⟩
  obtain ⟨regs, shape⟩ := shape
  have islands (o : Nat) (other : o < 0x1F0400 ∨ 0x1F0560 ≤ o) : regRead u o = regRead s o := by
    rw [isU]
    refine regRead_foldl _ _ (fun i member t => ?_) s
    have known := List.mem_range.mp member
    split
    · rfl
    · refine regRead_fset_other _ _ _ _ ?_
      show o ≠ 0x1F0400 + 8 * i
      omega
  have off (i : Nat) (known : i < 44) : 2 ≤ fget u (RF.PWR_ISLAND_STATE i) := by
    have set (t : Dev) : fget (fset t (RF.PWR_ISLAND_STATE i) 2) (RF.PWR_ISLAND_STATE i) = 2 := fget_fset_same _ _ _ (Nat.le_of_ble_eq_true rfl)
    rw [isU]
    refine foldl_reaches (fun t => 2 ≤ fget t (RF.PWR_ISLAND_STATE i)) _ (fun t j before => ?_) (List.mem_range.mpr known) (fun t => ?_) s
    · split
      · exact before
      · by_cases here : j = i
        · subst here
          rw [set]
        · have other : Reg.PWR_ISLAND i ≠ Reg.PWR_ISLAND j := by
            show 0x1F0400 + 8 * i ≠ 0x1F0400 + 8 * j
            omega
          rw [fget_fset_reg _ _ _ _ other]
          exact before
    · split
      · next lost => omega
      · rw [set]
  obtain ⟨w, isW⟩ : ∃ w : Dev, w = { u with
      cores := [], disp := [], net := [], blocked := [], fe := FrontEnd.reset, traceQ := [],
      shore := { u.shore with lines := [], fills := [], dir := [], txn := [], queue := [], wants := [], heldFwd := [] },
      mem := { u.mem with wcb := [], writes := [], moves := [], asleep := List.range 96 },
      log := { u.log with held := (fget u RF.BRG_START_STATUS_STAGE == 9 || u.log.held) && u.start.primary && u.start.secondary } } := ⟨_, rfl⟩
  rw [← isW]
  have sameRegs : w.regs = u.regs := by rw [isW]
  refine ⟨⟨regs, w.log, w.mem, ?_⟩, fun o other => (regRead_congr sameRegs o).trans (islands o other), fun i known => ?_⟩
  · rw [isW, shape]
  · rw [fget_congr sameRegs]
    exact off i known

/-! ### The fault itself -/

/-- A fault's marks (R496). -/
def fatalMarked (u : Dev) (cause : Nat) : Dev :=
  let s := fset (fset u RF.BRG_ERR_STATUS_FATAL 1) RF.BRG_ERR_STATUS_FATAL_CAUSE cause
  if cause = 7 then fset s RF.PWR_STATUS_HALTED 1 else s

/-- What a module is left with once all its work has ended. -/
structure WorkEnded (t : Dev) : Prop where
  cores : t.cores = []
  disp : t.disp = []
  net : t.net = []
  front : t.fe = FrontEnd.reset
  lines : t.shore.lines = []
  dir : t.shore.dir = []
  islands : ∀ i, i < 44 → 2 ≤ fget t (RF.PWR_ISLAND_STATE i)
  ports : fget t RF.FAB_STATUS_PORTS_UP = 0
  states : ∀ p, p < 16 → fget t (RF.FAB_PORT_STATUS_STATE p) = 0
  viral : Out.viral ∈ t.out

theorem endAllWork_leaves (u : Dev) : WorkEnded (endAllWork u) ∧ (∀ o ∈ steadyRegs, regRead (endAllWork u) o = regRead u o)
    ∧ (u.traces = [] → (endAllWork u).dram = u.dram) := by
  obtain ⟨a, isA⟩ : ∃ a, a = (tkeys u.traces).foldl (fun s t => endTrace s t 3) u := ⟨_, rfl⟩
  have traced : Traced u a := isA ▸ Traced.foldl (fun t k => traced_endTrace t k 3) _ u
  obtain ⟨⟨regsB, outB, fabB, shapeB⟩, steadyB, portsB, statesB⟩ := portsDown_leaves a
  obtain ⟨b, isB⟩ : ∃ b, b = portsDown a := ⟨_, rfl⟩
  rw [← isB] at shapeB steadyB portsB statesB
  obtain ⟨⟨regsC, logC, memC, shapeC⟩, elsewhereC, islandsC⟩ := railsOff_leaves b
  obtain ⟨c, isC⟩ : ∃ c, c = railsOff b := ⟨_, rfl⟩
  rw [← isC] at shapeC elsewhereC islandsC
  obtain ⟨z, isZ⟩ : ∃ z, z = { c with out := c.out ++ [Out.viral] } := ⟨_, rfl⟩
  have whole : endAllWork u = z := by
    unfold endAllWork
    dsimp only
    rw [← isA, ← isB, ← isC, ← isZ]
  have sameRegs : z.regs = c.regs := by rw [isZ]
  rw [whole]
  refine ⟨⟨?_, ?_, ?_, ?_, ?_, ?_, fun i known => ?_, ?_, fun p known => ?_, ?_⟩, fun o steady => ?_, fun none => ?_⟩
  · rw [isZ, shapeC]
  · rw [isZ, shapeC]
  · rw [isZ, shapeC]
  · rw [isZ, shapeC]
  · rw [isZ, shapeC]
  · rw [isZ, shapeC]
  · rw [fget_congr sameRegs]
    exact islandsC i known
  · rw [fget_congr sameRegs]
    exact (congrArg (fun v => bitsOf v 16 16) (elsewhereC Reg.FAB_STATUS (.inl (by decide)))).trans portsB
  · have low : Reg.FAB_PORT_STATUS p < 0x1F0400 := by
      show 0x191000 + 128 * p + 0x00 < 0x1F0400
      omega
    rw [fget_congr sameRegs]
    exact (congrArg (fun v => bitsOf v 0 3) (elsewhereC _ (.inl low))).trans (statesB p known)
  · rw [isZ]
    exact List.mem_append_right _ (List.mem_singleton_self _)
  · obtain ⟨traffic, walks, -, -, -, place, island⟩ := steady_apart steady
    rw [regRead_congr sameRegs, elsewhereC o island, steadyB o steady, traced.regs o traffic walks (by omega)]
  · have first : a = u := by
      rw [isA, none]
      rfl
    rw [isZ, shapeC, shapeB, first]

/-- What a device-fatal fault leaves (R496). -/
structure FatalEnd (u z : Dev) (cause : Nat) : Prop where
  fatal : fget z RF.BRG_ERR_STATUS_FATAL = 1
  code : fget z RF.BRG_ERR_STATUS_FATAL_CAUSE = cause
  halted : cause = 7 → fget z RF.PWR_STATUS_HALTED = 1
  ended : WorkEnded z
  pin : z.out.getLast? = some (.faultPin true)
  regs : ∀ o ∈ steadyRegs, regRead z o = regRead (fatalMarked u cause) o
  dram : u.traces = [] → z.dram = u.dram

/-- What is told of a fault once its work has ended. -/
structure FaultTold (s t : Dev) : Prop where
  regs : SameRegsBut (Reg.HST_CNT_DROPPED_CPL :: logRegs) s t
  rest : t = { s with regs := t.regs, out := t.out, log := t.log, flash := t.flash, host := t.host, start := t.start }
  out : s.out <+: t.out

namespace FaultTold

theorem trans {s t u : Dev} (h : FaultTold s t) (k : FaultTold t u) : FaultTold s u := by
  refine ⟨fun o others shc => (k.regs o others shc).trans (h.regs o others shc), ?_, h.out.trans k.out⟩
  rw [k.rest, h.rest]

end FaultTold

theorem OnlyLog.faultTold {s t : Dev} (h : OnlyLog s t) : FaultTold s t := by
  obtain ⟨regs, rest⟩ := h.and []
  refine ⟨fun o others shc => regs o (fun named => others (List.mem_cons_of_mem _ named)) shc, ?_, ?_⟩
  · rw [rest]
  · rw [rest]

theorem faultTold_sendMsix (s : Dev) (fn vec : Nat) : FaultTold s (sendMsix s fn vec) := by
  unfold sendMsix
  dsimp only
  split
  · exact ⟨fun o others _ => regRead_bump_other _ _ _ (List.ne_of_not_mem_cons others), rfl, List.prefix_refl _⟩
  · split
    · exact ⟨fun _ _ _ => rfl, rfl, List.prefix_refl _⟩
    · exact ⟨fun _ _ _ => rfl, rfl, List.prefix_append _ _⟩

theorem faultTold_sendAlert (s : Dev) : FaultTold s (sendAlert s) := ⟨fun _ _ _ => rfl, rfl, List.prefix_append _ _⟩

/-- What is told leaves what has ended. -/
theorem WorkEnded.told {s t : Dev} (h : WorkEnded s) (k : FaultTold s t) : WorkEnded t := by
  obtain ⟨cores, disp, net, front, lines, dir, islands, ports, states, viral⟩ := h
  obtain ⟨regs, rest, out⟩ := k
  have field (f : Fld) (other : f.off ∉ Reg.HST_CNT_DROPPED_CPL :: logRegs) (shc : f.off ≠ Reg.SHC_STATUS) : fget t f = fget s f :=
    congrArg (fun v => bitsOf v f.lo f.width) (regs f.off other shc)
  have places : ∀ o ∈ Reg.HST_CNT_DROPPED_CPL :: logRegs, 0x1A0000 ≤ o ∧ o < 0x1F0000 := by decide
  refine ⟨?_, ?_, ?_, ?_, ?_, ?_, fun i known => ?_, ?_, fun p known => ?_, out.subset viral⟩
  · rw [rest, cores]
  · rw [rest, disp]
  · rw [rest, net]
  · rw [rest, front]
  · rw [rest, lines]
  · rw [rest, dir]
  · have place : Reg.PWR_ISLAND i = 0x1F0400 + 8 * i := rfl
    have other : Reg.PWR_ISLAND i ∉ Reg.HST_CNT_DROPPED_CPL :: logRegs := fun named => by
      have := (places _ named).2
      omega
    rw [field _ other (island_shc i)]
    exact islands i known
  · rw [field _ (by decide) (by decide), ports]
  · have place : Reg.FAB_PORT_STATUS p = 0x191000 + 128 * p + 0x00 := rfl
    have shc : Reg.SHC_STATUS = 0x150000 := rfl
    have other : Reg.FAB_PORT_STATUS p ∉ Reg.HST_CNT_DROPPED_CPL :: logRegs := fun named => by
      have := (places _ named).1
      omega
    rw [field _ other (by show Reg.FAB_PORT_STATUS p ≠ _; omega), states p known]

/-- The first device-fatal fault (R496). -/
theorem deviceFatal_leaves {u : Dev} {cause : Nat} (free : fget u RF.BRG_ERR_STATUS_FATAL = 0) (small : cause < 256) :
    FatalEnd u (deviceFatal u cause) cause := by
  obtain ⟨m, isM⟩ : ∃ m, m = fatalMarked u cause := ⟨_, rfl⟩
  have marks : fget m RF.BRG_ERR_STATUS_FATAL = 1 ∧ fget m RF.BRG_ERR_STATUS_FATAL_CAUSE = cause ∧ (cause = 7 → fget m RF.PWR_STATUS_HALTED = 1) := by
    obtain ⟨v, isV⟩ : ∃ v, v = fset (fset u RF.BRG_ERR_STATUS_FATAL 1) RF.BRG_ERR_STATUS_FATAL_CAUSE cause := ⟨_, rfl⟩
    have fatal : fget v RF.BRG_ERR_STATUS_FATAL = 1 := by
      rw [isV, fget_fset_apart _ _ (by decide) (.inr (.inl (by decide))), fget_fset_same _ _ _ (by decide)]
      rfl
    have code : fget v RF.BRG_ERR_STATUS_FATAL_CAUSE = cause := by
      rw [isV, fget_fset_same _ _ _ (by decide)]
      exact Nat.mod_eq_of_lt small
    have whole : m = if cause = 7 then fset v RF.PWR_STATUS_HALTED 1 else v := by
      rw [isM, isV]
      rfl
    rw [whole]
    split
    · next seven =>
      exact ⟨(fget_fset_reg _ _ _ _ (by decide)).trans fatal, (fget_fset_reg _ _ _ _ (by decide)).trans code, fun _ => fget_fset_same _ _ _ (by decide)⟩
    · next other => exact ⟨fatal, code, fun seven => absurd seven other⟩
  have sameMarks : m.traces = u.traces ∧ m.dram = u.dram := by
    rw [isM]
    unfold fatalMarked
    dsimp only
    split
    · exact ⟨rfl, rfl⟩
    · exact ⟨rfl, rfl⟩
  obtain ⟨traces, dramM⟩ := sameMarks
  obtain ⟨ended, steady, dram⟩ := endAllWork_leaves m
  obtain ⟨e, isE⟩ : ∃ e, e = endAllWork m := ⟨_, rfl⟩
  rw [← isE] at ended steady dram
  obtain ⟨l, isL⟩ : ∃ l, l = logFw e 1 Reg.BRG_ERR_STATUS (regRead u Reg.BRG_ERR_STATUS) (regRead e Reg.BRG_ERR_STATUS) := ⟨_, rfl⟩
  obtain ⟨k, isK⟩ : ∃ k, k = if l.log.started then beginCheckpoint l (if cause = 7 then 3 else 2) else l := ⟨_, rfl⟩
  obtain ⟨y, isY⟩ : ∃ y, y = sendMsix (sendAlert k) 0 (fget k RF.PWR_LIMITS_POWER_VECTOR % 64) := ⟨_, rfl⟩
  have whole : deviceFatal u cause = showFault y := by
    unfold deviceFatal
    rw [if_neg (by rw [free]; decide)]
    have mark : (if cause = 7 then fset (fset (fset u RF.BRG_ERR_STATUS_FATAL 1) RF.BRG_ERR_STATUS_FATAL_CAUSE cause) RF.PWR_STATUS_HALTED 1
        else fset (fset u RF.BRG_ERR_STATUS_FATAL 1) RF.BRG_ERR_STATUS_FATAL_CAUSE cause) = m := isM.symm
    dsimp only
    rw [mark, ← isE, ← isL, ← isK, ← isY]
  have told : FaultTold e y := by
    have logged : FaultTold e l := isL ▸ (onlyLog_logFw e _ _ _ _).faultTold
    have begun : FaultTold l k := by
      rw [isK]
      split
      · exact (onlyLog_beginCheckpoint l _).faultTold
      · exact (OnlyLog.refl l).faultTold
    exact (logged.trans begun).trans (isY ▸ (faultTold_sendAlert k).trans (faultTold_sendMsix _ _ _))
  have kept (o : Nat) (named : o ∈ steadyRegs) : regRead y o = regRead m o := by
    obtain ⟨-, -, -, log, dropped, place, -⟩ := steady_apart named
    refine (told.regs o ?_ ?_).trans (steady o named)
    · rw [List.mem_cons, not_or]
      exact ⟨dropped, log⟩
    · show o ≠ 0x150000
      omega
  have field (f : Fld) (named : f.off ∈ steadyRegs) : fget y f = fget m f := congrArg (fun v => bitsOf v f.lo f.width) (kept f.off named)
  obtain ⟨z, isZ⟩ : ∃ z, z = showFault y := ⟨_, rfl⟩
  have shapeZ : z = { y with out := y.out ++ [Out.faultPin true] } := by
    rw [isZ]
    unfold showFault
    rw [field RF.BRG_ERR_STATUS_FATAL (by decide), marks.1]
    rfl
  have sameRegs : z.regs = y.regs := by rw [shapeZ]
  have pinned : FaultTold y z := by
    rw [shapeZ]
    exact ⟨fun _ _ _ => rfl, rfl, List.prefix_append _ _⟩
  rw [whole, ← isZ]
  obtain ⟨fatal, code, halted⟩ := marks
  refine ⟨?_, ?_, fun seven => ?_, ended.told (told.trans pinned), ?_, fun o named => ?_, fun none => ?_⟩
  · rw [fget_congr sameRegs, field _ (by decide), fatal]
  · rw [fget_congr sameRegs, field _ (by decide), code]
  · rw [fget_congr sameRegs, field _ (by decide), halted seven]
  · rw [shapeZ]
    exact List.getLast?_concat
  · rw [regRead_congr sameRegs, kept o named, isM]
  · have fromY : z.dram = y.dram := by rw [shapeZ]
    have fromE : y.dram = e.dram := by rw [told.rest]
    rw [fromY, fromE, dram (traces.trans none), dramM]

/-- A device-fatal fault, as the obligations say it. -/
theorem FatalEnd.fatal_of {s : State} {u z : Dev} {cause : Nat} (h : FatalEnd u z cause) (traces : u.traces = s.dev.traces) (dram : u.dram = s.dev.dram) :
    Fatal s { s with dev := finish z } cause := by
  obtain ⟨fatal, code, halted, ended, pin, -, kept⟩ := h
  obtain ⟨cores, disp, net, front, lines, dir, islands, ports, states, viral⟩ := ended
  refine ⟨(fget_finish _ _ (by decide)).trans fatal, (fget_finish _ _ (by decide)).trans code, rfl, fun seven => (fget_finish _ _ (by decide)).trans (halted seven),
    ?_, ?_, ?_, ?_, ?_, ?_, fun i known => ?_, (fget_finish _ _ (by decide)).trans ports, fun p known => ?_, ?_, ?_, fun none => ?_⟩
  · exact (finish_cores z).trans cores
  · exact (finish_disp z).trans disp
  · exact (finish_net z).trans net
  · exact (finish_fe z).trans front
  · exact (congrArg Shore.lines (finish_shore z)).trans lines
  · exact (congrArg Shore.dir (finish_shore z)).trans dir
  · exact (islands i known).trans_eq (fget_finish z (RF.PWR_ISLAND_STATE i) (island_shc i)).symm
  · refine (fget_finish z (RF.FAB_PORT_STATUS_STATE p) ?_).trans (states p known)
    show 0x191000 + 128 * p + 0x00 ≠ 0x150000
    omega
  · exact (finish_out z).symm ▸ viral
  · exact (congrArg List.getLast? (finish_out z)).trans pin
  · have same : SameMem s.dev (finish z) := sameMem_finish ((kept (traces.trans none)).trans dram)
    obtain ⟨bytes, -⟩ := same
    exact bytes

end Sys2Proof.Machine
end

section
/-!
The obligation on temperature, frequency and power (R256 to R258, R448, R451 to R471), with the clauses of coolant and clocks.
-/
namespace Sys2Proof.Machine

section
variable {s : State}

/-! ### Coolant (R470) -/

/-- The signals as they are shown. -/
def cooled (s : Dev) (a b : Bool) : Dev := fset (fset s RF.PWR_STATUS_COOLANT_OK_A (b2n a)) RF.PWR_STATUS_COOLANT_OK_B (b2n b)

theorem cooled_leaves (s : Dev) (a b : Bool) : (∃ regs, cooled s a b = { s with regs := regs }) ∧ fget (cooled s a b) RF.PWR_STATUS_COOLANT_OK_A = b2n a
    ∧ fget (cooled s a b) RF.PWR_STATUS_COOLANT_OK_B = b2n b ∧ ∀ o, o ≠ Reg.PWR_STATUS → regRead (cooled s a b) o = regRead s o := by
  have bit (x : Bool) : b2n x % 2 = b2n x := by cases x <;> rfl
  unfold cooled
  refine ⟨⟨_, rfl⟩, ?_, ?_, fun o other => ?_⟩
  · rw [fget_fset_apart _ _ (by decide) (.inr (.inl (by decide))), fget_fset_same _ _ _ (by decide)]
    exact bit a
  · rw [fget_fset_same _ _ _ (by decide)]
    exact bit b
  · rw [regRead_fset_other _ _ _ _ other, regRead_fset_other _ _ _ _ other]

/-- The signals once a fault or a report of the caps has followed. -/
theorem coolant_kept {u z : Dev} {a b : Bool} (signals : fget u RF.PWR_STATUS_COOLANT_OK_A = b2n a ∧ fget u RF.PWR_STATUS_COOLANT_OK_B = b2n b)
    (kept : ∀ f : Fld, f.off = Reg.PWR_STATUS → 56 ≤ f.lo → f.lo + f.width ≤ 58 → fget z f = fget u f) :
    fget (finish z) RF.PWR_STATUS_COOLANT_OK_A = b2n a ∧ fget (finish z) RF.PWR_STATUS_COOLANT_OK_B = b2n b := by
  obtain ⟨first, second⟩ := signals
  rw [fget_finish _ _ (by decide), fget_finish _ _ (by decide), kept _ rfl (by decide) (by decide), kept _ rfl (by decide) (by decide)]
  exact ⟨first, second⟩

theorem sendAlert_shape (u : Dev) : ∃ out start, sendAlert u = { u with out := out, start := start } := ⟨_, _, rfl⟩

/-- COOLANT_SIGNAL_CHANGE (R470, R531). -/
theorem exec_coolantSignalChange (a b : Bool) :
    ∃ t, exec (.coolantSignalChange a b) s = .next t ∧ fget t.dev RF.PWR_STATUS_COOLANT_OK_A = b2n a ∧ fget t.dev RF.PWR_STATUS_COOLANT_OK_B = b2n b
      ∧ (fget s.dev RF.BRG_START_STATUS_STAGE = 0 → t.dev.power.warning = (a != b)
        ∧ OnlyIn [Reg.PWR_STATUS] s t { s.dev with power := { s.dev.power with warning := a != b } })
      ∧ (fget s.dev RF.BRG_START_STATUS_STAGE ≠ 0 → fget s.dev RF.BRG_ERR_STATUS_FATAL = 0 →
          (a = false → b = false → Fatal s t 7) ∧
          ((a = true ∨ b = true) → t.dev.power.warning = (a != b) ∧ SameMem s.dev t.dev ∧ t.dev.fe = s.dev.fe
            ∧ (a ≠ b → s.dev.power.warning = false → (7, 0xFF) ∈ t.dev.power.applies))) := by
  obtain ⟨u, isU⟩ : ∃ u, u = cooled s.dev a b := ⟨_, rfl⟩
  obtain ⟨⟨regs, shape⟩, first, second, others⟩ := cooled_leaves s.dev a b
  rw [← isU] at shape first second others
  have field (f : Fld) (other : f.off ≠ Reg.PWR_STATUS) : fget u f = fget s.dev f := congrArg (fun v => bitsOf v f.lo f.width) (others f.off other)
  obtain ⟨z, isZ⟩ : ∃ z, z = if fget u RF.BRG_START_STATUS_STAGE = 0 ∨ fget u RF.BRG_ERR_STATUS_FATAL = 1 then
        { u with power := { u.power with warning := a != b } }
      else if (!a && !b) = true then deviceFatal u 7
      else if (a != b) = true then
        (if u.power.warning then u else sendAlert (beginReason { u with power := { u.power with warning := true } } 7 0xFF))
      else showCaps { u with power := { u.power with warning := false } } := ⟨_, rfl⟩
  have ran : exec (.coolantSignalChange a b) s = .next { s with dev := finish z } := by
    show execCoolantSignalChange a b s = _
    unfold execCoolantSignalChange
    rw [perform_eq, isZ, isU]
    rfl
  have stage : fget u RF.BRG_START_STATUS_STAGE = fget s.dev RF.BRG_START_STATUS_STAGE := field _ (by decide)
  have fatal : fget u RF.BRG_ERR_STATUS_FATAL = fget s.dev RF.BRG_ERR_STATUS_FATAL := field _ (by decide)
  have sameDram : u.dram = s.dev.dram := by rw [shape]
  have sameFe : u.fe = s.dev.fe := by rw [shape]
  have sameWarning : u.power.warning = s.dev.power.warning := by rw [shape]
  rw [stage, fatal] at isZ
  by_cases quiet : fget s.dev RF.BRG_START_STATUS_STAGE = 0 ∨ fget s.dev RF.BRG_ERR_STATUS_FATAL = 1
  · rw [if_pos quiet] at isZ
    have sameRegs : z.regs = u.regs := by rw [isZ]
    have power : z.power = { s.dev.power with warning := a != b } := by rw [isZ, shape]
    have signals := coolant_kept (z := z) ⟨first, second⟩ (fun f _ _ _ => fget_congr sameRegs f)
    refine ⟨_, ran, signals.1, signals.2, fun _ => ⟨?_, ?_⟩, fun runs alive => ?_⟩
    · exact congrArg Power.warning ((finish_power z).trans power)
    · have closed : OnlyIn [Reg.PWR_STATUS] s { s with dev := finish z } { s.dev with power := (finish z).power } := by
        refine onlyIn_power (by rw [isZ, shape]) (fun o named _ => ?_)
        rw [regRead_congr sameRegs]
        exact others o (fun own => named (List.mem_singleton.mpr own))
      rw [finish_power, power] at closed
      exact closed
    · rw [alive] at quiet
      exact absurd quiet (not_or.mpr ⟨runs, by decide⟩)
  · rw [if_neg quiet] at isZ
    rw [not_or] at quiet
    obtain ⟨runs, alive⟩ := quiet
    by_cases halt : (!a && !b) = true
    · rw [if_pos halt] at isZ
      have noA : a = false := by simpa using (Bool.and_eq_true_iff.mp halt).1
      have noB : b = false := by simpa using (Bool.and_eq_true_iff.mp halt).2
      have zero : fget u RF.BRG_ERR_STATUS_FATAL = 0 := by
        have : fget u RF.BRG_ERR_STATUS_FATAL < 2 := fget_lt u RF.BRG_ERR_STATUS_FATAL
        omega
      have ends : FatalEnd u z 7 := isZ ▸ deviceFatal_leaves zero (by decide)
      have signals := coolant_kept (z := z) ⟨first, second⟩ (fun f own low high => by
        have reg := ends.regs Reg.PWR_STATUS (by decide)
        have marked : fget z f = fget (fatalMarked u 7) f := congrArg (fun v => bitsOf v f.lo f.width) (own.symm ▸ reg)
        rw [marked]
        unfold fatalMarked
        rw [if_pos rfl, fget_fset_apart _ _ (by omega) (.inr (.inl high)), fget_fset_reg _ _ _ _ (by rw [own]; decide),
          fget_fset_reg _ _ _ _ (by rw [own]; decide)])
      refine ⟨_, ran, signals.1, signals.2, fun none => absurd none runs, fun _ _ => ⟨fun _ _ => ?_, fun some' => ?_⟩⟩
      · exact ends.fatal_of (by rw [shape]) sameDram
      · rw [noA, noB] at some'
        simp at some'
    · rw [if_neg halt] at isZ
      have done : (z.power.warning = (a != b)) ∧ z.dram = s.dev.dram ∧ z.fe = s.dev.fe
          ∧ (a ≠ b → s.dev.power.warning = false → (7, 0xFF) ∈ z.power.applies)
          ∧ ∀ f : Fld, f.off = Reg.PWR_STATUS → 56 ≤ f.lo → f.lo + f.width ≤ 58 → fget z f = fget u f := by
        by_cases differ : (a != b) = true
        · rw [if_pos differ] at isZ
          rw [differ]
          by_cases warned : u.power.warning = true
          · rw [if_pos warned] at isZ
            rw [isZ]
            exact ⟨warned, sameDram, sameFe, fun _ calm => absurd (sameWarning.symm.trans warned) (by rw [calm]; decide), fun _ _ _ _ => rfl⟩
          · rw [if_neg warned] at isZ
            obtain ⟨w, isW⟩ : ∃ w, w = { u with power := { u.power with warning := true } } := ⟨_, rfl⟩
            rw [← isW] at isZ
            obtain ⟨⟨told, fields, applies, tells, power⟩, listed⟩ := beginReason_leaves w (r := 7) (by decide) 0xFF
            obtain ⟨x, isX⟩ : ∃ x, x = beginReason w 7 0xFF := ⟨_, rfl⟩
            rw [← isX] at isZ told fields power listed
            obtain ⟨out, start, shapeZ⟩ := sendAlert_shape x
            rw [← isZ] at shapeZ
            have sameRegs : z.regs = x.regs := by rw [shapeZ]
            have regsW : w.regs = u.regs := by rw [isW]
            have samePower : z.power = x.power := by rw [shapeZ]
            refine ⟨?_, ?_, ?_, fun _ _ => ?_, fun f own low high => ?_⟩
            · rw [samePower, power, isW]
            · have fromX : z.dram = x.dram := by rw [shapeZ]
              rw [fromX, told.dram, isW]
              exact sameDram
            · have fromX : z.fe = x.fe := by rw [shapeZ]
              have fromW : x.fe = w.fe := by rw [told.rest]
              rw [fromX, fromW, isW]
              exact sameFe
            · rw [samePower]
              exact listed
            · rw [fget_congr sameRegs, fields f (status_spared own (by omega) (.inr low)).1, fget_congr regsW]
        · rw [if_neg differ] at isZ
          have same : a = b := by simpa using differ
          have off : (a != b) = false := by simpa using differ
          rw [off]
          obtain ⟨w, isW⟩ : ∃ w, w = { u with power := { u.power with warning := false } } := ⟨_, rfl⟩
          rw [← isW] at isZ
          obtain ⟨told, fields, applies, tells, changing, deferred, power⟩ := showCaps_leaves w
          rw [← isZ] at told fields power
          have regsW : w.regs = u.regs := by rw [isW]
          refine ⟨?_, ?_, ?_, fun other => absurd same other, fun f own low high => ?_⟩
          · rw [power, isW]
          · rw [told.dram, isW]
            exact sameDram
          · have fromW : z.fe = w.fe := by rw [told.rest]
            rw [fromW, isW]
            exact sameFe
          · have spared := status_spared own (by omega) (.inr low)
            rw [fields f spared.1 spared.2, fget_congr regsW]
      obtain ⟨warning, dram, fe, applies, kept⟩ := done
      have signals := coolant_kept (z := z) ⟨first, second⟩ kept
      refine ⟨_, ran, signals.1, signals.2, fun none => absurd none runs, fun _ _ => ⟨fun noA noB => ?_, fun _ => ⟨?_, sameMem_finish dram, ?_, fun x y => ?_⟩⟩⟩
      · rw [noA, noB] at halt
        exact absurd rfl halt
      · exact (congrArg Power.warning (finish_power z)).trans warning
      · exact (finish_fe z).trans fe
      · exact (finish_power z).symm ▸ applies x y

/-! ### PLLs of the edge dies (R448) -/

theorem setBits_four {v die b : Nat} (small : v < 16) (known : die ≤ 3) : setBits v die 1 b % 2 ^ 4 = setBits v die 1 b := by
  refine Nat.mod_eq_of_lt (Nat.lt_pow_two_of_testBit _ (fun i high => ?_))
  rw [testBit_setBits, if_neg (by omega)]
  exact Nat.testBit_lt_two_pow (Nat.lt_of_lt_of_le small (by exact Nat.pow_le_pow_right (by decide) high : 2 ^ 4 ≤ 2 ^ i))

theorem edgeLock_set (u : Dev) {die : Nat} (known : die ≤ 3) (b : Nat) :
    fget (fset u RF.CLK_STATUS_EDGE_LOCK (setBits (fget u RF.CLK_STATUS_EDGE_LOCK) die 1 b)) RF.CLK_STATUS_EDGE_LOCK
      = setBits (fget u RF.CLK_STATUS_EDGE_LOCK) die 1 b := by
  rw [fget_fset_same _ _ _ (by decide)]
  exact setBits_four (fget_lt u RF.CLK_STATUS_EDGE_LOCK) known

/-- A step that changes registers, power and the log alone, closed. -/
theorem Told.onlyIn_logged {l : List Nat} {v : Dev} {p : Power} (told : Told l s.dev v) (host : v.host = s.dev.host) (out : v.out = s.dev.out)
    (power : v.power = p) :
    OnlyIn l s { s with dev := finish v } { s.dev with power := p, log := (finish v).log, flash := { s.dev.flash with romLog := (finish v).flash.romLog } } := by
  obtain ⟨regs, rest⟩ := told
  rw [host, out, power] at rest
  refine onlyIn_finish ?_ regs
  rw [finish_log, finish_flash, rest]

/-- PLL_RELOCK (R448). -/
theorem exec_pllRelock {die : Nat} (known : die ≤ 3) :
    ∃ t, exec (.pllRelock die) s = .next t ∧ SameMem s.dev t.dev
      ∧ fget t.dev RF.CLK_STATUS_EDGE_LOCK = setBits (fget s.dev RF.CLK_STATUS_EDGE_LOCK) die 1 1 ∧ OnlyIn [Reg.CLK_STATUS] s t s.dev := by
  obtain ⟨u, isU⟩ : ∃ u, u = fset s.dev RF.CLK_STATUS_EDGE_LOCK (setBits (fget s.dev RF.CLK_STATUS_EDGE_LOCK) die 1 1) := ⟨_, rfl⟩
  have ran : exec (.pllRelock die) s = .next { s with dev := finish u } := by
    show execPllRelock die s = _
    unfold execPllRelock
    rw [perform_eq, if_neg (Nat.not_lt.mpr known), ← isU]
  have lock : fget u RF.CLK_STATUS_EDGE_LOCK = setBits (fget s.dev RF.CLK_STATUS_EDGE_LOCK) die 1 1 := isU ▸ edgeLock_set s.dev known 1
  obtain ⟨regs, shape⟩ : ∃ regs, u = { s.dev with regs := regs } := isU ▸ ⟨_, rfl⟩
  refine ⟨_, ran, sameMem_finish (by rw [shape]), (fget_finish _ _ (by decide)).trans lock, onlyIn_finish (by rw [shape]) (fun o others _ => ?_)⟩
  rw [isU]
  exact regRead_fset_other _ _ _ _ (fun own => others (List.mem_singleton.mpr own))

/-- PLL_UNLOCK of an edge die (R448). -/
theorem exec_pllUnlock {die : Nat} (known : die ≤ 3) (alive : fget s.dev RF.BRG_ERR_STATUS_FATAL = 0) :
    ∃ t, exec (.pllUnlock die) s = .next t ∧ fget t.dev RF.CLK_STATUS_EDGE_LOCK = setBits (fget s.dev RF.CLK_STATUS_EDGE_LOCK) die 1 0
      ∧ regRead t.dev Reg.CLK_CNT_UNLOCKS = (regRead s.dev Reg.CLK_CNT_UNLOCKS + 1) % 2 ^ 64
      ∧ ((∃ u, tget s.dev.power.unlocks die = some u ∧ s.dev.time.hw < u + ticksPerSecond) → Fatal s t 4)
      ∧ ((∀ u, tget s.dev.power.unlocks die = some u → u + ticksPerSecond ≤ s.dev.time.hw) →
          OnlyIn ([Reg.CLK_STATUS, Reg.CLK_CNT_UNLOCKS] ++ logRegs) s t
            { s.dev with power := { s.dev.power with unlocks := tset s.dev.power.unlocks die s.dev.time.hw }, log := t.dev.log,
                         flash := { s.dev.flash with romLog := t.dev.flash.romLog } }) := by
  obtain ⟨c, isC⟩ : ∃ c, c = bump s.dev Reg.CLK_CNT_UNLOCKS := ⟨_, rfl⟩
  obtain ⟨l, isL⟩ : ∃ l, l = logEvent s.dev Reg.CLK_CNT_UNLOCKS 0 := ⟨_, rfl⟩
  obtain ⟨u, isU⟩ : ∃ u, u = fset l RF.CLK_STATUS_EDGE_LOCK (setBits (fget l RF.CLK_STATUS_EDGE_LOCK) die 1 0) := ⟨_, rfl⟩
  obtain ⟨again, isAgain⟩ : ∃ again, again = (tget u.power.unlocks die).any (fun t => decide (u.time.hw < t + ticksPerSecond)) := ⟨_, rfl⟩
  obtain ⟨v, isV⟩ : ∃ v, v = { u with power := { u.power with unlocks := tset u.power.unlocks die u.time.hw } } := ⟨_, rfl⟩
  obtain ⟨z, isZ⟩ : ∃ z, z = if again = true then deviceFatal v 4 else v := ⟨_, rfl⟩
  have ran : exec (.pllUnlock die) s = .next { s with dev := finish z } := by
    show execPllUnlock die s = _
    unfold execPllUnlock
    have served : ¬ (fget s.dev RF.BRG_ERR_STATUS_FATAL = 1 ∨ die > 51) := by
      rw [not_or, alive]
      exact ⟨by decide, by omega⟩
    rw [perform_eq, if_neg served]
    dsimp only
    rw [if_pos (by omega), ← isL, ← isU, ← isAgain, ← isV, ← isZ]
  have logged : OnlyLog c l := by
    rw [isL]
    unfold logEvent
    dsimp only
    rw [← isC]
    exact onlyLog_logFw _ _ _ _ _
  obtain ⟨regsL, entries⟩ := logged.and []
  have shapeC : ∃ regs, c = { s.dev with regs := regs } := isC ▸ ⟨_, rfl⟩
  obtain ⟨regsC, shapeC⟩ := shapeC
  obtain ⟨regsU, shapeU⟩ : ∃ regs, u = { l with regs := regs } := isU ▸ ⟨_, rfl⟩
  have sameRegs : v.regs = u.regs := by rw [isV]
  have steady (o : Nat) (unlogged : ¬ isLogReg o) (uncounted : o ≠ Reg.CLK_CNT_UNLOCKS) : regRead l o = regRead s.dev o := by
    rw [logged.regs o unlogged, isC]
    exact regRead_bump_other _ _ _ uncounted
  have unlogged (o : Nat) (named : o ∈ [Reg.CLK_STATUS, Reg.CLK_CNT_UNLOCKS, Reg.BRG_ERR_STATUS]) : ¬ isLogReg o := by
    rw [← mem_logRegs]
    have all : ∀ o ∈ [Reg.CLK_STATUS, Reg.CLK_CNT_UNLOCKS, Reg.BRG_ERR_STATUS], o ∉ logRegs := by decide
    exact all o named
  have lock : fget v RF.CLK_STATUS_EDGE_LOCK = setBits (fget s.dev RF.CLK_STATUS_EDGE_LOCK) die 1 0 := by
    have before : fget l RF.CLK_STATUS_EDGE_LOCK = fget s.dev RF.CLK_STATUS_EDGE_LOCK :=
      congrArg (fun v => bitsOf v 1 4) (steady Reg.CLK_STATUS (unlogged _ (by decide)) (by decide))
    rw [fget_congr sameRegs, isU, edgeLock_set l known 0, before]
  have counted : regRead v Reg.CLK_CNT_UNLOCKS = (regRead s.dev Reg.CLK_CNT_UNLOCKS + 1) % 2 ^ 64 := by
    rw [regRead_congr sameRegs, isU, regRead_fset_other _ _ _ _ (by decide), logged.regs _ (unlogged _ (by decide)), isC]
    exact regRead_bump_same _ _
  have fatalV : fget v RF.BRG_ERR_STATUS_FATAL = 0 := by
    rw [fget_congr sameRegs, isU, fget_fset_reg _ _ _ _ (by decide)]
    exact (congrArg (fun v => bitsOf v 0 1) (steady Reg.BRG_ERR_STATUS (unlogged _ (by decide)) (by decide))).trans alive
  have rest : v.traces = s.dev.traces ∧ v.dram = s.dev.dram ∧ v.host = s.dev.host ∧ v.out = s.dev.out := by
    have fromU : v.traces = u.traces ∧ v.dram = u.dram ∧ v.host = u.host ∧ v.out = u.out := by
      rw [isV]
      exact ⟨rfl, rfl, rfl, rfl⟩
    obtain ⟨traces, dram, host, out⟩ := fromU
    rw [traces, dram, host, out, shapeU, entries, shapeC]
    exact ⟨rfl, rfl, rfl, rfl⟩
  obtain ⟨traces, dram, host, out⟩ := rest
  have samePower : u.power = s.dev.power := by rw [shapeU, entries, shapeC]
  have sameTime : u.time = s.dev.time := by rw [shapeU, entries, shapeC]
  rw [samePower, sameTime] at isAgain
  have regs (o : Nat) (named : o ∈ steadyRegs) (other : o ≠ Reg.BRG_ERR_STATUS) : regRead z o = regRead v o := by
    rw [isZ]
    split
    · have ends : FatalEnd v (deviceFatal v 4) 4 := deviceFatal_leaves fatalV (by decide)
      rw [ends.regs o named]
      unfold fatalMarked
      rw [if_neg (by decide), regRead_fset_other _ _ _ _ other, regRead_fset_other _ _ _ _ other]
    · rfl
  refine ⟨_, ran, ?_, ?_, fun soon => ?_, fun late => ?_⟩
  · rw [fget_finish _ _ (by decide)]
    exact (congrArg (fun v => bitsOf v 1 4) (regs Reg.CLK_STATUS (by decide) (by decide))).trans lock
  · exact (regRead_finish _ _ (by decide)).trans ((regs Reg.CLK_CNT_UNLOCKS (by decide) (by decide)).trans counted)
  · obtain ⟨w, before, near⟩ := soon
    have yes : again = true := by
      rw [isAgain, before, Option.any_some]
      exact decide_eq_true near
    rw [if_pos yes] at isZ
    have ends : FatalEnd v z 4 := isZ ▸ deviceFatal_leaves fatalV (by decide)
    exact ends.fatal_of traces dram
  · have no : again = false := by
      rw [isAgain]
      cases before : tget s.dev.power.unlocks die with
      | none => rfl
      | some w =>
        rw [Option.any_some]
        exact decide_eq_false (Nat.not_lt.mpr (late w before))
    rw [no] at isZ
    have same : z = v := isZ
    rw [same]
    have power : v.power = { s.dev.power with unlocks := tset s.dev.power.unlocks die s.dev.time.hw } := by
      rw [isV, ← samePower, ← sameTime]
    have told : Told ([Reg.CLK_STATUS, Reg.CLK_CNT_UNLOCKS] ++ logRegs) s.dev v := by
      have first : Told ([Reg.CLK_STATUS, Reg.CLK_CNT_UNLOCKS] ++ logRegs) s.dev c := isC ▸ told_regWrite _ _ (List.mem_cons_of_mem _ (List.mem_cons_self ..))
      have second : Told ([Reg.CLK_STATUS, Reg.CLK_CNT_UNLOCKS] ++ logRegs) c l := logged.told (List.subset_append_right _ _)
      have third : Told ([Reg.CLK_STATUS, Reg.CLK_CNT_UNLOCKS] ++ logRegs) l u := isU ▸ told_fset _ _ _ (List.mem_cons_self ..)
      exact ((first.trans second).trans third).trans (isV ▸ told_power _ u _)
    exact told.onlyIn_logged host out power

end

/-- Settles O56: each row changes the fields of its own registers, and reports of reasons, limits that follow and device-fatal faults leave those fields. -/
theorem powerAndThermal : Obligations.PowerAndThermal := by
  unfold Obligations.PowerAndThermal
  intro s
  refine ⟨?_, ?_, ?_, ?_, ?_, ?_, ?_, ?_, ?_, ?_, ?_⟩
  · intro stack layer hot temps known sixteen place byte top
    exact exec_stackThermalReport known sixteen place byte top
  · intro pkg code level known small
    exact exec_mr4Report level known small
  · intro unit known duty level
    exact ⟨exec_dutyLevelStep known duty level, fun some' => exec_dutyPausePeriod known duty some'⟩
  · intro unit known
    exact exec_thermalPauseEnd known
  · intro unit known channels up hot
    exact exec_unitThermalShutdown known channels up hot
  · intro i known
    refine ⟨fun f change free runs small => exec_dvfsChangeComplete change free runs small, fun defers => exec_dvfsDeferTimeout defers,
      fun runs => exec_droopTrip known runs, fun stretched cycles => exec_droopRecover cycles known stretched,
      fun up => ⟨fun temp => exec_islandThermalReport temp known up, exec_islandThermalStep known up⟩,
      fun present runs idle => exec_islandGate known present runs idle,
      fun present gated policy idle => exec_islandOff present gated policy idle,
      fun asked sleeps fatal => exec_islandWakeComplete known asked sleeps fatal⟩
  · intro vin iin smallV smallI
    exact exec_powerSample smallV smallI
  · intro x c sum f l ten fatal isSum cap source isF isL
    exact exec_powerLoop ten fatal isSum cap source isF isL
  · intro c x w admits isW low high
    exact exec_pwrHostLimit admits isW low high
  · intro a b
    exact exec_coolantSignalChange a b
  · intro die known
    exact ⟨exec_pllRelock known, fun alive => exec_pllUnlock known alive⟩

end Sys2Proof.Machine
end

section
/-!
The obligation on the start of a launch (R57, R62, R204, R297, R298, R310).
-/
namespace Sys2Proof.Machine

/-! ### LAUNCH (R297) -/

/-- The work that a LAUNCH enters. -/
def launched (s : Dev) (x : Ctx) : Dispatch :=
  { inst := x.inst, plain := true, bind := 0, cls := eb x.e 58 1, shape := ⟨eb x.e 48 4, eb x.e 56 1, eb x.e 52 2, eb x.e 57 1, 1024 * eb x.e 54 2⟩
    prog := eb x.e 16 8, args := eb x.e 24 8, islands := eb x.e 32 8, seed := BitVec.ofNat 64 (eb x.e 40 8), got := [], cores := [], canon := [], slots := []
    phase := .waiting, order := s.fe.order, source := some x.key, uregs := [], flags := 0, poisonTiles := 0, code := 0
    seq := (jnlOf (modJnl s x.inst (fun j => { j with seq := j.seq + 1 })) x.inst).seq, start := none }

/-- A module that a LAUNCH has been entered in. -/
def withLaunch (s : Dev) (x : Ctx) : Dev :=
  { s with disp := tset s.disp s.fe.order (launched s x)
           fe := { s.fe with order := s.fe.order + 1, journals := (modJnl s x.inst (fun j => { j with seq := j.seq + 1 })).fe.journals } }

section
variable {s : State}

/-- LAUNCH (R297). -/
theorem exec_launch {c : Cmd} {x : Ctx} (admits : Admits s.dev 0x01 c x)
    (shape : shapeOk (eb x.e 48 4) (eb x.e 56 1) (eb x.e 52 2) (eb x.e 57 1) (1024 * eb x.e 54 2) = true)
    (islands : islandsOk s.dev x.inst (eb x.e 32 8) = true) (cls : eb x.e 58 1 ≤ 7) (prog : eb x.e 16 8 % 8 = 0) (args : eb x.e 24 8 % 64 = 0)
    (present : namesLost s.dev (eb x.e 32 8) = false) :
    ∃ (t : State) (d : Dispatch), exec (.launch c) s = .next t ∧ SameMem s.dev t.dev ∧ Begins t.dev x
      ∧ tget t.dev.disp s.dev.fe.order = some d ∧ t.dev.fe.order = s.dev.fe.order + 1 ∧ d.phase = .waiting ∧ d.plain = true ∧ d.inst = x.inst
      ∧ d.cls = eb x.e 58 1 ∧ d.prog = eb x.e 16 8 ∧ d.args = eb x.e 24 8 ∧ d.islands = eb x.e 32 8 ∧ d.source = some x.key
      ∧ d.shape = ⟨eb x.e 48 4, eb x.e 56 1, eb x.e 52 2, eb x.e 57 1, 1024 * eb x.e 54 2⟩ ∧ d.seed.toNat = eb x.e 40 8
      ∧ OnlyCmd [] s t x { s.dev with disp := t.dev.disp, fe := { s.dev.fe with order := t.dev.fe.order, journals := t.dev.fe.journals } } := by
  have begins : ∃ t, exec (.launch c) s = .next { s with dev := t } ∧ Begun s.dev (withLaunch s.dev x) t x := by
    refine ⟨_, rfl, command_begins rfl admits ?_ (free_of_admits admits) rfl rfl⟩
    dsimp only
    refine (afterChecks_pass ?_ _).trans rfl
    simp only [List.forall_mem_cons, List.not_mem_nil, false_implies, implies_true, and_true]
    refine ⟨?_, ?_, present⟩
    · simp [shape, islands, cls]
    · simp [prog, args]
  obtain ⟨t, ran, begun⟩ := begins
  obtain ⟨store, dram, regs, closed⟩ := begun.shape
  have disp : t.disp = tset s.dev.disp s.dev.fe.order (launched s.dev x) := by
    rw [closed]
    rfl
  refine ⟨_, launched s.dev x, ran, (sameMem_of_dram rfl).trans begun.mem, begun.begins, ?_, ?_, rfl, rfl, rfl, rfl, rfl, rfl, rfl, rfl, rfl, ?_,
    begun.onlyCmd ?_ (fun _ _ _ => rfl)⟩
  · show tget t.disp _ = _
    rw [disp]
    exact tget_tset_same _ _ _
  · show t.fe.order = _
    rw [closed]
    rfl
  · show (BitVec.ofNat 64 (eb x.e 40 8)).toNat = _
    rw [BitVec.toNat_ofNat]
    exact Nat.mod_eq_of_lt (bitsOf_lt _ _ _)
  · rw [closed]
    rfl

/-! ### Islands (R57, R310) -/

theorem pairwise_bitList (n x i : Nat) : (bitList n x i).Pairwise (· < ·) := by
  induction n generalizing x i with
  | zero => exact List.Pairwise.nil
  | succ n ih =>
    unfold bitList
    split
    · refine List.pairwise_cons.mpr ⟨fun j member => ?_, ih _ _⟩
      obtain ⟨above, -⟩ := (mem_bitList _ _ _ _).mp member
      omega
    · exact ih _ _

theorem insertNat_of_above {x : Nat} {l : List Nat} (above : ∀ a ∈ l, a < x) : insertNat x l = l ++ [x] := by
  induction l with
  | nil => rfl
  | cons a l ih =>
    obtain ⟨first, later⟩ := List.forall_mem_cons.mp above
    unfold insertNat
    rw [if_neg (by omega), if_neg (by omega), ih later, List.cons_append]

/-- Numbers inserted in rising order stand as they came. -/
theorem foldl_insertNat_of_rising {l : List Nat} (rising : l.Pairwise (· < ·)) : l.foldl (fun l i => insertNat i l) [] = l := by
  suffices general : ∀ front : List Nat, (∀ a ∈ front, ∀ b ∈ l, a < b) → l.foldl (fun l i => insertNat i l) front = front ++ l from
    general [] (fun a member => absurd member List.not_mem_nil)
  induction l with
  | nil => exact fun front _ => (List.append_nil _).symm
  | cons x l ih =>
    intro front below
    obtain ⟨least, rest⟩ := List.pairwise_cons.mp rising
    rw [List.foldl_cons, insertNat_of_above (fun a member => below a member x List.mem_cons_self), ih rest, List.append_assoc]
    · rfl
    · intro a member b later
      obtain early | last := List.mem_append.mp member
      · exact below a early b (List.mem_cons_of_mem _ later)
      · rw [List.mem_singleton.mp last]
        exact least b later

theorem requestRun_shape (s : Dev) (i : Nat) : ∃ wake, requestRun s i = { s with power := { s.power with wake := wake } } := by
  unfold requestRun
  split
  · exact ⟨_, rfl⟩
  · exact ⟨_, rfl⟩

theorem foldl_requestRun_shape (l : List Nat) (s : Dev) : ∃ wake, l.foldl requestRun s = { s with power := { s.power with wake := wake } } := by
  refine List.foldlRecOn (motive := fun t : Dev => ∃ wake, t = { s with power := { s.power with wake := wake } }) _ _ ⟨_, rfl⟩ ?_
  rintro t ⟨wake, rfl⟩ i _
  obtain ⟨next, same⟩ := requestRun_shape { s with power := { s.power with wake := wake } } i
  exact ⟨next, same⟩

/-- The islands that are asked to run, of those that are gated or off, are to wake. -/
theorem wake_foldl_requestRun {l : List Nat} {i : Nat} (member : i ∈ l) (s : Dev)
    (idle : fget s (RF.PWR_ISLAND_STATE i) = 1 ∨ fget s (RF.PWR_ISLAND_STATE i) = 2) : i ∈ (l.foldl requestRun s).power.wake := by
  refine (foldl_reaches (fun t => t.regs = s.regs → i ∈ t.power.wake) requestRun ?_ member ?_ s) ?_
  · intro t j kept same
    unfold requestRun at same ⊢
    split
    · exact mem_insertNat.mpr (.inr (kept (by rwa [if_pos (by assumption)] at same)))
    · exact kept (by rwa [if_neg (by assumption)] at same)
  · intro t same
    unfold requestRun at same ⊢
    split
    · exact mem_insertNat.mpr (.inl rfl)
    · next runs =>
      rw [if_neg runs] at same
      rw [fget_congr same] at runs
      exact absurd idle runs
  · obtain ⟨wake, shape⟩ := foldl_requestRun_shape l s
    rw [shape]

/-- A dispatch that has its islands. -/
def assigned (s : Dev) (d x : Dispatch) : Dispatch :=
  { x with got := (liveIslands s d.islands).take (wanted s d), cores := coresOf ((liveIslands s d.islands).take (wanted s d))
           canon := coresOf (canonIslands x (wanted s d)), phase := .assigned }

/-- Work for which nothing else waits and no island is taken takes the lowest islands of its mask, as many as it needs. -/
theorem takeIslands_alone {n : Nat} {d : Dispatch} {s : Dev} (here : tget s.disp n = some d) (waits : d.phase = .waiting)
    (alone : ∀ p ∈ s.disp, p.2.got = [] ∧ (p.1 ≠ n → p.2.phase ≠ .waiting)) (none' : d.got = [])
    (enough : wanted s d ≤ (liveIslands s d.islands).length) :
    takeIslands s n = ((liveIslands s d.islands).take (wanted s d)).foldl requestRun (modDisp s n (assigned s d)) := by
  have nobody : s.disp.filter (fun p => p.1 != n && p.2.phase == .waiting && goesBefore p.2 d) = [] := by
    refine List.filter_eq_nil_iff.mpr (fun p member => ?_)
    have other := (alone p member).2
    by_cases own : p.1 = n
    · simp [own]
    · simp [other own]
  have untaken (i : Nat) : islandTaken s i = false := by
    refine List.any_eq_false.mpr (fun p member => ?_)
    rw [(alone p member).1]
    simp
  have free : (liveIslands s d.islands).filter (fun i => !islandTaken s i && !([] : Tbl Dispatch).any (fun p => bitOf p.2.islands i))
      = liveIslands s d.islands := List.filter_eq_self.mpr (fun i _ => by simp [untaken])
  have rising : ((liveIslands s d.islands).take (wanted s d)).Pairwise (· < ·) := ((pairwise_bitList _ _ _).filter _).take
  have length : ((liveIslands s d.islands).take (wanted s d)).length = wanted s d := by
    rw [List.length_take]
    omega
  unfold takeIslands
  rw [here]
  dsimp only
  rw [if_neg (not_not_intro waits), nobody, free, none', List.nil_append, List.length_nil, Nat.sub_zero, foldl_insertNat_of_rising rising,
    if_neg (by omega)]
  rfl

/-- BATCH_DISPATCH (R57, R310). -/
theorem exec_batchDispatch {n : Nat} {d : Dispatch} (serves : serving s.dev = true) (here : tget s.dev.disp n = some d) (waits : d.phase = .waiting)
    (alone : ∀ p ∈ s.dev.disp, p.2.got = [] ∧ (p.1 ≠ n → p.2.phase ≠ .waiting)) (enough : wanted s.dev d ≤ (liveIslands s.dev d.islands).length) :
    ∃ t, exec (.batchDispatch n) s = .next t ∧ SameMem s.dev t.dev
      ∧ (let got := (liveIslands s.dev d.islands).take (wanted s.dev d)
         tget t.dev.disp n = some { d with got := got, cores := coresOf got, canon := coresOf (canonIslands d (wanted s.dev d)), phase := .assigned }
           ∧ ∀ i ∈ got, fget s.dev (RF.PWR_ISLAND_STATE i) = 1 ∨ fget s.dev (RF.PWR_ISLAND_STATE i) = 2 → i ∈ t.dev.power.wake)
      ∧ OnlyIn [] s t { s.dev with disp := t.dev.disp, power := { s.dev.power with wake := t.dev.power.wake } } := by
  have empty : d.got = [] := (alone (n, d) (mem_of_tget here)).1
  obtain ⟨wake, shape⟩ := foldl_requestRun_shape ((liveIslands s.dev d.islands).take (wanted s.dev d)) (modDisp s.dev n (assigned s.dev d))
  have ran : exec (.batchDispatch n) s = .next { s with dev := finish (takeIslands s.dev n) } := by
    show execBatchDispatch n s = _
    unfold execBatchDispatch
    rw [perform_eq, if_pos serves]
  rw [takeIslands_alone here waits alone empty enough] at ran
  refine ⟨_, ran, ?_, ⟨?_, ?_⟩, ?_⟩
  · refine sameMem_finish ?_
    rw [shape]
    rfl
  · rw [finish_disp, shape]
    show tget (tmod s.dev.disp n _) n = _
    rw [tget_tmod_same, here]
    rfl
  · intro i member idle
    rw [finish_power]
    exact wake_foldl_requestRun member _ idle
  · rw [shape]
    exact onlyIn_finish rfl (fun _ _ _ => rfl)

/-! ### The start of a launch (R62, R204, R298) -/

/-- What a core that a launch has taken shows. -/
def Taken (n : Nat) (d : Dispatch) (c : Core) : Prop := c.disp = some n ∧ c.split = d.shape.lsSplit ∧ l1Fresh c

theorem taken_startCore (s : Dev) (n : Nat) (d : Dispatch) (c : Nat) : Taken n d (coreOf (startCore s n d c) c) := by
  unfold startCore
  rw [coreOf_modCore_same]
  refine ⟨rfl, ?_, ?_⟩
  · dsimp only
    split
    · assumption
    · rfl
  · dsimp only
    intro sec x found
    dsimp only at found
    split at found
    · exact l1Fresh_l1Acquire _ sec x found
    · exact absurd found (by simp [tget])

theorem taken_foldl_startCore {n : Nat} {d : Dispatch} {c : Nat} {l : List Nat} (member : c ∈ l) (s : Dev) :
    Taken n d (coreOf (l.foldl (fun s c => startCore s n d c) s) c) := by
  refine foldl_reaches (fun t => Taken n d (coreOf t c)) (fun s c => startCore s n d c) ?_ member (fun t => taken_startCore t n d c) s
  intro t j kept
  by_cases own : c = j
  · rw [own]
    exact taken_startCore t n d j
  · exact (coreOf_modCore_other t j c _ own).symm ▸ kept

theorem coreOf_foldl_startCore_other {n : Nat} {d : Dispatch} {j : Nat} {l : List Nat} (outside : j ∉ l) (s : Dev) :
    coreOf (l.foldl (fun s c => startCore s n d c) s) j = coreOf s j := by
  refine List.foldlRecOn (motive := fun t : Dev => coreOf t j = coreOf s j) _ _ rfl ?_
  intro t kept c member
  exact (coreOf_modCore_other t c j _ (fun same => outside (same ▸ member))).trans kept

theorem foldl_startCore_shape (n : Nat) (d : Dispatch) (l : List Nat) (s : Dev) :
    ∃ cores, l.foldl (fun s c => startCore s n d c) s = { s with cores := cores } := by
  refine List.foldlRecOn (motive := fun t : Dev => ∃ cores, t = { s with cores := cores }) _ _ ⟨_, rfl⟩ ?_
  rintro t ⟨cores, rfl⟩ c _
  exact ⟨_, rfl⟩

/-- What the admission of a set keeps: all but the core's sets and groups, and the start of its dispatch. -/
structure SetKept (core : Nat) (s t : Dev) : Prop where
  shape : ∃ cores disp, t = { s with cores := cores, disp := disp }
  others : ∀ j, j ≠ core → coreOf t j = coreOf s j
  taken : ∀ (n : Nat) (d : Dispatch) (j : Nat), Taken n d (coreOf s j) → Taken n d (coreOf t j)
  phases : ∀ n, (tget t.disp n).map (fun d => (d.phase, d.uregs)) = (tget s.disp n).map (fun d => (d.phase, d.uregs))

theorem SetKept.refl (core : Nat) (s : Dev) : SetKept core s s := ⟨⟨_, _, rfl⟩, fun _ _ => rfl, fun _ _ _ taken => taken, fun _ => rfl⟩

theorem SetKept.setCore (core : Nat) (s : Dev) (c : Core) (disp : c.disp = (coreOf s core).disp) (split : c.split = (coreOf s core).split)
    (l1 : c.l1 = (coreOf s core).l1) : SetKept core s (setCore s core c) := by
  refine ⟨⟨_, _, rfl⟩, fun j other => coreOf_setCore_other s core j c other, ?_, fun _ => rfl⟩
  intro n d j taken
  by_cases own : j = core
  · subst own
    obtain ⟨isDisp, isSplit, fresh⟩ := taken
    rw [coreOf_setCore_same]
    refine ⟨disp.trans isDisp, split.trans isSplit, fun sec x found => fresh sec x ?_⟩
    rwa [l1] at found
  · rwa [coreOf_setCore_other s core j c own]

theorem SetKept.started {core : Nat} {s t : Dev} (kept : SetKept core s t) (n hw : Nat) :
    SetKept core s (modDisp t n (fun d => { d with start := some hw })) := by
  obtain ⟨⟨cores, disp, rfl⟩, others, taken, phases⟩ := kept
  refine ⟨⟨_, _, rfl⟩, others, taken, fun m => ?_⟩
  refine Eq.trans ?_ (phases m)
  show Option.map _ (tget (tmod disp n _) m) = Option.map _ (tget disp m)
  by_cases own : m = n
  · subst own
    rw [tget_tmod_same, Option.map_map]
    rfl
  · rw [tget_tmod_other _ _ _ _ own]

theorem setKept_admitSet (s : Dev) (core : Nat) : SetKept core s (admitSet s core) := by
  unfold admitSet
  dsimp only
  split
  · exact SetKept.refl core s
  · split
    · exact SetKept.refl core s
    · split
      · exact SetKept.refl core s
      · split
        · exact SetKept.setCore core s _ rfl rfl rfl
        · refine SetKept.started ?_ _ _
          exact SetKept.setCore core s _ rfl rfl rfl

/-- A launch whose islands run is started with its argument block. -/
theorem startDispatch_plain {s s2 : Dev} {n : Nat} {d : Dispatch} {b : List Byte} (here : tget s.disp n = some d) (holds : d.phase = .assigned)
    (plain : d.plain = true) (slots : d.slots = []) (runs : ∀ i ∈ d.got, fget s (RF.PWR_ISLAND_STATE i) = 0)
    (read : (if d.args = 0 then (d.cores.foldl (fun s c => startCore s n d c) s, [], 0)
      else vaRead (d.cores.foldl (fun s c => startCore s n d c) s) d.inst d.args 256) = (s2, b, 0)) :
    startDispatch s n = admitSet (modDisp s2 n (fun d => { d with slots := [], uregs := argRegs b, phase := .running })) (d.cores.headD 0) := by
  have ready : ¬(d.phase ≠ .assigned ∨ d.got.any (fun i => fget s (RF.PWR_ISLAND_STATE i) != 0) = true) := by
    rintro (other | stopped)
    · exact other holds
    · obtain ⟨i, member, bad⟩ := List.any_eq_true.mp stopped
      rw [runs i member] at bad
      exact absurd bad (by decide)
  unfold startDispatch
  rw [here]
  dsimp only
  rw [if_neg ready, read]
  dsimp only
  rw [if_neg (by decide), slots]
  unfold countStart
  rw [if_pos plain]
  rfl

/-- DISPATCH_START of a launch (R62, R204, R298). -/
theorem exec_dispatchStart {n : Nat} {d : Dispatch} {s' s2 : Dev} {b : List Byte} (serves : serving s.dev = true) (here : tget s.dev.disp n = some d)
    (holds : d.phase = .assigned) (plain : d.plain = true) (slots : d.slots = []) (runs : ∀ i ∈ d.got, fget s.dev (RF.PWR_ISLAND_STATE i) = 0)
    (isS' : s' = d.cores.foldl (fun s c => startCore s n d c) s.dev)
    (read : (if d.args = 0 then (s', [], 0) else vaRead s' d.inst d.args 256) = (s2, b, 0)) (free : s2.blocked = []) (disp : s2.disp = s'.disp)
    (cores : s2.cores = s'.cores) :
    ∃ t, exec (.dispatchStart n) s = .next t ∧ (tget t.dev.disp n).map (fun d => (d.phase, d.uregs)) = some (.running, argRegs b)
      ∧ (∀ c ∈ d.cores, (coreOf t.dev c).disp = some n ∧ (coreOf t.dev c).split = d.shape.lsSplit ∧ l1Fresh (coreOf t.dev c))
      ∧ (∀ j, j ∉ d.cores → j ≠ d.cores.headD 0 → coreOf t.dev j = coreOf s.dev j)
      ∧ (d.args = 0 → SameMem s.dev t.dev ∧ OnlyIn [] s t { s.dev with cores := t.dev.cores, disp := t.dev.disp }) := by
  obtain ⟨z, isZ⟩ : ∃ z, z = startDispatch s.dev n := ⟨_, rfl⟩
  obtain ⟨m, isM⟩ : ∃ m, m = modDisp s2 n (fun d => { d with slots := [], uregs := argRegs b, phase := .running }) := ⟨_, rfl⟩
  have kept : SetKept (d.cores.headD 0) m z := by
    rw [isZ, startDispatch_plain here holds plain slots runs (isS' ▸ read), ← isM]
    exact setKept_admitSet m _
  have coresM (j : Nat) : coreOf m j = coreOf s' j := by
    rw [isM]
    exact coreOf_congr cores j
  have startedDisp : s'.disp = s.dev.disp := by
    obtain ⟨all, shape⟩ := foldl_startCore_shape n d d.cores s.dev
    rw [isS', shape]
  have unblocked : z.blocked = [] := by
    obtain ⟨_, _, shape⟩ := kept.shape
    rw [shape, isM]
    exact free
  have ran : exec (.dispatchStart n) s = .next { s with dev := finish z } := by
    show execDispatchStart n s = _
    unfold execDispatchStart
    rw [perform_eq, if_pos serves, whole_of_unblocked (by rw [← isZ]; exact unblocked), ← isZ]
  refine ⟨_, ran, ?_, ?_, ?_, ?_⟩
  · rw [finish_disp, kept.phases, isM]
    show Option.map _ (tget (tmod s2.disp n _) n) = _
    rw [tget_tmod_same, disp, startedDisp, here]
    rfl
  · intro c member
    rw [coreOf_finish]
    refine kept.taken n d c ?_
    rw [coresM, isS']
    exact taken_foldl_startCore member s.dev
  · intro j outside first
    rw [coreOf_finish, kept.others j first, coresM, isS']
    exact coreOf_foldl_startCore_other outside s.dev
  · intro zero
    rw [if_pos zero] at read
    obtain ⟨rfl, -⟩ := Prod.mk.inj read
    obtain ⟨all, shape⟩ := foldl_startCore_shape n d d.cores s.dev
    obtain ⟨last, table, close⟩ := kept.shape
    rw [isM, isS', shape] at close
    refine ⟨sameMem_finish (by rw [close]; rfl), ?_⟩
    rw [close]
    exact onlyIn_finish rfl (fun _ _ _ => rfl)

end

/-- Settles O26: a launch that is entered waits, one that finds its islands free takes the lowest of them, and its cores start afresh (R57, R62, R204,
R297, R298, R310). -/
theorem launchesStart : Obligations.LaunchesStart := by
  unfold Obligations.LaunchesStart
  intro s
  refine ⟨?_, ?_, ?_⟩
  · intro c x admits shape islands cls prog args present
    exact exec_launch admits shape islands cls prog args present
  · intro n d serves here waits alone enough
    exact exec_batchDispatch serves here waits alone enough
  · intro n d s' s2 b serves here holds plain slots runs isS' read free disp cores
    exact exec_dispatchStart serves here holds plain slots runs isS' read free disp cores

end Sys2Proof.Machine
end

section
/-!
The obligation on the end of a launch or a step (R85, R299, R307).
-/
namespace Sys2Proof.Machine

/-! ### Writing an L1 back whole (R188) -/

theorem mem_tkeys_of_tget {V : Type} {t : List (Nat × V)} {k : Nat} {v : V} (found : tget t k = some v) : k ∈ tkeys t :=
  List.mem_map_of_mem (f := Prod.fst) (mem_of_tget found)

/-- A sector is clean, or it is not held. -/
def CleanAt (sec : Nat) (c : Core) : Prop := ∀ x, tget c.l1 sec = some x → x.dirty = 0

theorem cleanAt_l1Push_same (c : Core) (sec : Nat) : CleanAt sec (l1Push c sec) := by
  intro x found
  unfold l1Push at found
  split at found
  · next y here =>
    split at found
    · next clean =>
      rw [here] at found
      rw [← Option.some.inj found]
      exact clean
    · have written : tget (tset c.l1 sec { y with dirty := 0 }) sec = some x := found
      rw [tget_tset_same] at written
      rw [← Option.some.inj written]
  · next absent =>
    rw [absent] at found
    exact absurd found (by simp)

theorem CleanAt.l1Push {sec : Nat} {c : Core} (clean : CleanAt sec c) (k : Nat) : CleanAt sec (l1Push c k) := by
  by_cases own : sec = k
  · rw [own]
    exact cleanAt_l1Push_same c k
  · intro x found
    unfold Machine.l1Push at found
    split at found
    · next y here =>
      split at found
      · exact clean x found
      · exact clean x ((tget_tset_other _ _ _ _ own).symm.trans found)
    · exact clean x found

/-- Pushing never makes a sector appear. -/
theorem tget_l1Push_none {sec : Nat} {c : Core} (absent : tget c.l1 sec = none) (k : Nat) : tget (l1Push c k).l1 sec = none := by
  unfold l1Push
  split
  · next y here =>
    split
    · exact absent
    · have other : sec ≠ k := fun same => by simp [same, here] at absent
      exact (tget_tset_other _ _ _ _ other).trans absent
  · exact absent

theorem cleanAt_l1PushAll (c : Core) (sec : Nat) : CleanAt sec (l1PushAll c) := by
  unfold l1PushAll
  by_cases held : sec ∈ tkeys c.l1
  · suffices general : ∀ (l : List Nat) (d : Core), sec ∈ l ∨ CleanAt sec d → CleanAt sec (l.foldl Machine.l1Push d) from general _ c (.inl held)
    intro l
    induction l with
    | nil => exact fun d cases' => cases'.resolve_left List.not_mem_nil
    | cons k l ih =>
      intro d cases'
      refine ih _ ?_
      obtain member | clean := cases'
      · obtain rfl | later := List.mem_cons.mp member
        · exact .inr (cleanAt_l1Push_same d sec)
        · exact .inl later
      · exact .inr (clean.l1Push k)
  · have absent : tget c.l1 sec = none := by
      cases here : tget c.l1 sec with
      | none => rfl
      | some x => exact absurd (mem_tkeys_of_tget here) held
    have none' : tget ((tkeys c.l1).foldl Machine.l1Push c).l1 sec = none :=
      List.foldlRecOn (motive := fun d : Core => tget d.l1 sec = none) _ _ absent (fun _ kept k _ => tget_l1Push_none kept k)
    exact fun x found => absurd (none'.symm.trans found) (by simp)

theorem wb_l1Push (c : Core) (sec : Nat) : ∃ l, (l1Push c sec).wb = c.wb ++ l := by
  unfold l1Push
  split
  · split
    · exact ⟨[], (List.append_nil _).symm⟩
    · exact ⟨_, rfl⟩
  · exact ⟨[], (List.append_nil _).symm⟩

theorem wb_l1PushAll (c : Core) : ∃ l, (l1PushAll c).wb = c.wb ++ l := by
  refine List.foldlRecOn (motive := fun d : Core => ∃ l, d.wb = c.wb ++ l) _ _ ⟨[], (List.append_nil _).symm⟩ ?_
  rintro d ⟨l, same⟩ k _
  obtain ⟨more, grown⟩ := wb_l1Push d k
  exact ⟨l ++ more, by rw [grown, same, List.append_assoc]⟩

/-- The L1s of some cores are written back. -/
theorem cleanAt_foldl_l1PushAll {l : List Nat} {c : Nat} (member : c ∈ l) (sec : Nat) (s : Dev) :
    CleanAt sec (coreOf (l.foldl (fun s c => modCore s c l1PushAll) s) c) := by
  refine foldl_reaches (fun t => CleanAt sec (coreOf t c)) (fun s c => modCore s c l1PushAll) ?_ member ?_ s
  · intro t j kept
    by_cases own : c = j
    · rw [own, coreOf_modCore_same]
      exact cleanAt_l1PushAll _ sec
    · rwa [coreOf_modCore_other _ _ _ _ own]
  · intro t
    rw [coreOf_modCore_same]
    exact cleanAt_l1PushAll _ sec

theorem wb_foldl_l1PushAll (l : List Nat) (c : Nat) (s : Dev) :
    ∃ more, (coreOf (l.foldl (fun s c => modCore s c l1PushAll) s) c).wb = (coreOf s c).wb ++ more := by
  refine List.foldlRecOn (motive := fun t : Dev => ∃ more, (coreOf t c).wb = (coreOf s c).wb ++ more) _ _ ⟨[], (List.append_nil _).symm⟩ ?_
  rintro t ⟨more, same⟩ j _
  by_cases own : c = j
  · subst own
    rw [coreOf_modCore_same]
    obtain ⟨next, grown⟩ := wb_l1PushAll (coreOf t c)
    exact ⟨more ++ next, by rw [grown, same, List.append_assoc]⟩
  · rw [coreOf_modCore_other _ _ _ _ own]
    exact ⟨more, same⟩

/-! ### The release of a launch (R85) -/

section
variable {s : State} {n : Nat} {d : Dispatch}

/-- The module once the cores of a dispatch that has finished have written back. -/
def released (s : Dev) (n : Nat) (d : Dispatch) : Dev := d.cores.foldl (fun s c => modCore s c l1PushAll) (modDisp s n (fun d => { d with phase := .ended }))

/-- While a write waits, a dispatch whose cores have finished is released and not over yet. -/
theorem endDispatch_released {s : Dev} (here : tget s.disp n = some d) (plain : d.plain = true) (runs : d.phase = .running)
    (finished : ∀ c ∈ d.cores, coreFinished (coreOf s c) d.shape = true) (busy : ∃ c ∈ d.cores, (coreOf s c).wb ≠ []) :
    endDispatch s n true = released s n d := by
  obtain ⟨cores, shape⟩ := foldl_modCore_shape l1PushAll d.cores (modDisp s n (fun d => { d with phase := .ended }))
  have entry : tget (released s n d).disp n = some { d with phase := .ended } := by
    unfold released
    rw [shape]
    show tget (tmod s.disp n _) n = _
    rw [tget_tmod_same, here]
    rfl
  have waits : ¬ ({ d with phase := DispPhase.ended }.phase = .ended ∧ d.cores.all (fun c => (coreOf (released s n d) c).wb.isEmpty) = true
      ∧ (!pendingLine (released s n d) false) = true ∧ (!pendingLine (released s n d) true) = true) := by
    rintro ⟨-, empty, -⟩
    obtain ⟨c, member, full⟩ := busy
    obtain ⟨more, grown⟩ := wb_foldl_l1PushAll d.cores c (modDisp s n (fun d => { d with phase := .ended }))
    have none' := List.all_eq_true.mp empty c member
    have grown' : (coreOf (released s n d) c).wb = (coreOf s c).wb ++ more := grown
    rw [grown', List.isEmpty_iff, List.append_eq_nil_iff] at none'
    exact full none'.1
  unfold endDispatch
  rw [here]
  dsimp only
  rw [if_neg (not_not_intro plain), if_pos ⟨runs, List.all_eq_true.mpr finished⟩]
  show (match tget (released s n d).disp n with
    | some d => _
    | none => _) = _
  rw [entry]
  exact if_neg waits

/-- LAUNCH_COMPLETE while a write waits (R85). -/
theorem exec_launchComplete_releases (serves : serving s.dev = true) (free : s.dev.blocked = []) (here : tget s.dev.disp n = some d)
    (plain : d.plain = true) (runs : d.phase = .running) (finished : ∀ c ∈ d.cores, coreFinished (coreOf s.dev c) d.shape = true)
    (busy : ∃ c ∈ d.cores, (coreOf s.dev c).wb ≠ []) :
    ∃ t, exec (.launchComplete n) s = .next t ∧ SameMem s.dev t.dev ∧ (tget t.dev.disp n).map (·.phase) = some .ended
      ∧ (∀ c ∈ d.cores, ∀ sec x, tget (coreOf t.dev c).l1 sec = some x → x.dirty = 0)
      ∧ (∀ c ∈ d.cores, ∃ l, (coreOf t.dev c).wb = (coreOf s.dev c).wb ++ l)
      ∧ OnlyIn [] s t { s.dev with disp := t.dev.disp, cores := t.dev.cores } := by
  obtain ⟨cores, shape⟩ := foldl_modCore_shape l1PushAll d.cores (modDisp s.dev n (fun d => { d with phase := .ended }))
  have closed : released s.dev n d = { modDisp s.dev n (fun d => { d with phase := .ended }) with cores := cores } := shape
  have ran : exec (.launchComplete n) s = .next { s with dev := finish (released s.dev n d) } := by
    show execLaunchComplete n s = _
    unfold execLaunchComplete
    have same := endDispatch_released here plain runs finished busy
    rw [perform_eq, if_pos serves, whole_of_unblocked, same]
    rw [same, closed]
    exact free
  refine ⟨_, ran, ?_, ?_, ?_, ?_, ?_⟩
  · exact sameMem_finish (by rw [closed]; rfl)
  · rw [finish_disp, closed]
    show Option.map _ (tget (tmod s.dev.disp n _) n) = _
    rw [tget_tmod_same, here]
    rfl
  · intro c member sec
    rw [coreOf_finish]
    exact cleanAt_foldl_l1PushAll member sec _
  · intro c _
    rw [coreOf_finish]
    exact wb_foldl_l1PushAll d.cores c _
  · rw [closed]
    exact onlyIn_finish rfl (fun _ _ _ => rfl)

end

/-! ### Cores that are freed -/

/-- Freed cores: their state, what is under way in the mesh, and the registers that show their engines may differ. -/
structure Freed (s t : Dev) : Prop where
  shape : ∃ regs cores net disp, t = { s with regs := regs, cores := cores, net := net, disp := disp }
  regs : ∀ o, (∀ c, c < 176 → o ≠ Reg.MXE_CORE_STATUS c) → regRead t o = regRead s o

theorem Freed.refl (s : Dev) : Freed s s := ⟨⟨_, _, _, _, rfl⟩, fun _ _ => rfl⟩

theorem Freed.trans {s t u : Dev} (h : Freed s t) (k : Freed t u) : Freed s u := by
  obtain ⟨regs, cores, net, disp, rfl⟩ := h.shape
  obtain ⟨regs', cores', net', disp', rfl⟩ := k.shape
  exact ⟨⟨_, _, _, _, rfl⟩, fun o apart => (k.regs o apart).trans (h.regs o apart)⟩

theorem regRead_syncMx_other (s : Dev) {core o : Nat} (other : o ≠ Reg.MXE_CORE_STATUS core) : regRead (syncMx s core) o = regRead s o := by
  unfold syncMx
  dsimp only
  rw [regRead_fset_other _ _ _ _ other, regRead_fset_other _ _ _ _ other, regRead_fset_other _ _ _ _ other, regRead_fset_other _ _ _ _ other]

theorem freed_vacate (s : Dev) {core : Nat} (small : core < 176) (discard : Bool) : Freed s (vacate s core discard) :=
  ⟨⟨_, _, _, _, rfl⟩, fun _ apart => regRead_syncMx_other _ (apart core small)⟩

theorem coreOf_vacate_same (s : Dev) (core : Nat) (discard : Bool) : coreOf (vacate s core discard) core = Core.vacate (coreOf s core) discard := by
  unfold vacate
  refine (coreOf_congr (syncMx_cores _ _) core).trans ?_
  exact (coreOf_congr (s := modCore s core (fun c => Core.vacate c discard)) rfl core).trans (coreOf_modCore_same _ _ _)

theorem coreOf_vacate_other (s : Dev) {core j : Nat} (discard : Bool) (other : j ≠ core) : coreOf (vacate s core discard) j = coreOf s j := by
  unfold vacate
  refine (coreOf_congr (syncMx_cores _ _) j).trans ?_
  exact (coreOf_congr (s := modCore s core (fun c => Core.vacate c discard)) rfl j).trans (coreOf_modCore_other _ _ _ _ other)

/-- A core that ran a dispatch is free. -/
def IsFree (c : Core) : Prop := c.disp = none ∧ c.groups = []

/-- One core leaves a dispatch. -/
def leaveDisp (n : Nat) (s : Dev) (c : Nat) : Dev := if (coreOf s c).disp = some n then vacate s c false else s

theorem coreOf_leaveDisp (n : Nat) (s : Dev) (c j : Nat) : IsFree (coreOf (leaveDisp n s c) j) ∨ coreOf (leaveDisp n s c) j = coreOf s j := by
  unfold leaveDisp
  split
  · by_cases own : j = c
    · rw [own, coreOf_vacate_same]
      exact .inl ⟨rfl, rfl⟩
    · exact .inr (coreOf_vacate_other _ _ own)
  · exact .inr rfl

theorem isFree_foldl_leaveDisp {n j : Nat} {l : List Nat} (member : j ∈ l) {s : Dev} (ran : (coreOf s j).disp = some n) :
    IsFree (coreOf (l.foldl (leaveDisp n) s) j) := by
  have left : (coreOf (l.foldl (leaveDisp n) s) j).disp ≠ some n := by
    refine foldl_reaches (fun t => (coreOf t j).disp ≠ some n) (leaveDisp n) ?_ member ?_ s
    · intro t c kept
      obtain ⟨none', -⟩ | same := coreOf_leaveDisp n t c j
      · simp [none']
      · rwa [same]
    · intro t
      unfold leaveDisp
      split
      · rw [coreOf_vacate_same]
        simp [Core.vacate]
      · assumption
  have kept : IsFree (coreOf (l.foldl (leaveDisp n) s) j) ∨ coreOf (l.foldl (leaveDisp n) s) j = coreOf s j := by
    refine List.foldlRecOn (motive := fun t : Dev => IsFree (coreOf t j) ∨ coreOf t j = coreOf s j) _ _ (.inr rfl) ?_
    intro t so c _
    obtain free | same := coreOf_leaveDisp n t c j
    · exact .inl free
    · rwa [same]
  exact kept.resolve_right (fun same => left (same ▸ ran))

theorem freed_foldl_leaveDisp (n : Nat) {l : List Nat} (small : ∀ c ∈ l, c < 176) (s : Dev) : Freed s (l.foldl (leaveDisp n) s) := by
  refine List.foldlRecOn (motive := fun t => Freed s t) _ _ (Freed.refl s) ?_
  intro t freed c member
  refine freed.trans ?_
  unfold leaveDisp
  split
  · exact freed_vacate t (small c member) false
  · exact Freed.refl t

/-- What the removal of a dispatch leaves. -/
structure Removed (n : Nat) (d : Dispatch) (s t : Dev) : Prop where
  freed : Freed s t
  gone : tget t.disp n = none
  cores : ∀ j ∈ d.cores, (coreOf s j).disp = some n → IsFree (coreOf t j)

theorem removed_removeDispatch {s : Dev} {n : Nat} {d : Dispatch} (here : tget s.disp n = some d) (small : ∀ c ∈ d.cores, c < 176) :
    Removed n d s (removeDispatch s n false) := by
  have whole' : removeDispatch s n false = { d.cores.foldl (leaveDisp n) s with disp := tdel (d.cores.foldl (leaveDisp n) s).disp n } := by
    unfold removeDispatch
    rw [here]
    rfl
  rw [whole']
  refine ⟨(freed_foldl_leaveDisp n small s).trans ⟨⟨_, _, _, _, rfl⟩, fun _ _ => rfl⟩, tget_tdel_same _ _, ?_⟩
  intro j member ran
  exact isFree_foldl_leaveDisp member ran

/-! ### Completions that are owed -/

/-- A completion joins the queue of a ring that is in service. -/
theorem oweCpl_live {s : Dev} {k : Nat} {r : Ring} (here : ringAt s k = some r) (live : r.dead = false) (c : Cpl) :
    oweCpl s k c = modRing s k (fun r => { r with cplQ := r.cplQ ++ [c] }) := by
  unfold oweCpl
  dsimp only
  rw [here]
  dsimp only
  rw [if_neg (by simp [live])]

theorem queue_modRing {s : Dev} {k : Nat} {r : Ring} (here : ringAt s k = some r) (c : Cpl) :
    (ringAt (modRing s k (fun r => { r with cplQ := r.cplQ ++ [c] })) k).map (·.cplQ) = some (r.cplQ ++ [c]) := by
  show Option.map _ (tget (tmod s.fe.rings k _) k) = _
  have place : tget s.fe.rings k = some r := here
  rw [tget_tmod_same, place]
  rfl

/-! ### Results (R84, R299) -/

/-- A dispatch of whose groups none is charged ends with E_OK. -/
theorem resultOf_clean {s : Dev} {d : Dispatch} (clean : ∀ c ∈ d.cores, ∀ p ∈ (coreOf s c).groups, p.2.charges = []) :
    ∃ r3 flags, resultOf s d = ⟨0, 0xFFFFFFFF, 0, 0, r3, flags⟩ := by
  have uncharged : ∀ p ∈ dispGroups s d, p.2.charges = [] := by
    unfold dispGroups
    refine List.foldlRecOn (motive := fun l : List (Nat × Group) => ∀ p ∈ l, p.2.charges = []) _ _ (fun p member => absurd member List.not_mem_nil) ?_
    intro l before c member p inside
    obtain early | own := List.mem_append.mp inside
    · exact before p early
    · exact clean c member p own
  have nobody : faultedGroups s d = [] := by
    refine List.filterMap_eq_nil_iff.mpr (fun p member => ?_)
    unfold firstCharge
    rw [uncharged p member]
    rfl
  unfold resultOf
  dsimp only
  rw [nobody]
  exact ⟨_, _, rfl⟩

/-- A dispatch that is over is concluded once its writes are accepted. -/
theorem endDispatch_ended {s : Dev} {n : Nat} {d : Dispatch} {plain : Bool} (here : tget s.disp n = some d) (kind : d.plain = plain) (over' : d.phase = .ended)
    (quiet : ∀ c ∈ d.cores, (coreOf s c).wb = []) (members : pendingLine s false = false) (host : pendingLine s true = false) :
    endDispatch s n plain = (d.slots.map (·.session)).foldl pokeFormer (conclude s n (resultOf s d)) := by
  have still : ¬ (d.phase = .running ∧ d.cores.all (fun c => coreFinished (coreOf s c) d.shape) = true) := by
    rintro ⟨runs, -⟩
    rw [over'] at runs
    exact absurd runs (by decide)
  have ready : d.phase = .ended ∧ d.cores.all (fun c => (coreOf s c).wb.isEmpty) = true ∧ (!pendingLine s false) = true ∧ (!pendingLine s true) = true :=
    ⟨over', List.all_eq_true.mpr (fun c member => by simp [quiet c member]), by simp [members], by simp [host]⟩
  unfold endDispatch
  rw [here]
  dsimp only
  rw [if_neg (not_not_intro kind), if_neg still, here]
  dsimp only
  rw [if_pos ready]

/-! ### The end of a launch (R299) -/

/-- A dispatch is taken out, and the energy of its islands is counted. -/
def metered (s : Dev) (n : Nat) (d : Dispatch) : Dev :=
  bumpBy (takeFree (removeDispatch s n false)).2 (Reg.PWR_ENERGY_CLASS d.cls) (takeFree (removeDispatch s n false)).1

/-- What a dispatch leaves when it is taken out: its registers, cores and requests, and a free value that is used. -/
structure Metered (n : Nat) (d : Dispatch) (s t : Dev) : Prop where
  shape : ∃ regs cores net disp free, t = { s with regs := regs, cores := cores, net := net, disp := disp, free := free }
  regs : ∀ o, (∀ c, c < 176 → o ≠ Reg.MXE_CORE_STATUS c) → o ≠ Reg.PWR_ENERGY_CLASS d.cls → regRead t o = regRead s o
  gone : tget t.disp n = none
  cores : ∀ j ∈ d.cores, (coreOf s j).disp = some n → IsFree (coreOf t j)

theorem metered_metered {s : Dev} {n : Nat} {d : Dispatch} (here : tget s.disp n = some d) (small : ∀ c ∈ d.cores, c < 176) :
    Metered n d s (metered s n d) := by
  obtain ⟨freed, gone, cores⟩ := removed_removeDispatch here small
  unfold metered
  refine ⟨?_, ?_, gone, cores⟩
  · obtain ⟨regs, cores', net, disp, shape⟩ := freed.shape
    rw [shape]
    exact ⟨_, _, _, _, _, rfl⟩
  · intro o apart other
    exact (regRead_regWrite_other _ _ _ _ other).trans (freed.regs o apart)

/-- The registers of sessions and journals stand apart from those of engines and of energy. -/
theorem Metered.sesRegs {n : Nat} {d : Dispatch} {s t : Dev} (out : Metered n d s t) {o : Nat} (above : 0x150000 ≤ o) (below : o < 0x1F0000) :
    regRead t o = regRead s o := by
  refine out.regs o (fun c small => ?_) ?_
  · have place : Reg.MXE_CORE_STATUS c = 0x140000 + 64 * c := rfl
    omega
  · have place : Reg.PWR_ENERGY_CLASS d.cls = 0x1F0280 + 8 * d.cls := rfl
    omega

theorem Metered.jnlMode {n : Nat} {d : Dispatch} {s t : Dev} (out : Metered n d s t) {i : Nat} (small : i ≤ 32) : Machine.jnlMode t i = Machine.jnlMode s i := by
  have place : Reg.SES_JNL_STATUS i = 0x181000 + 32 * i := rfl
  exact congrArg (fun v => bitsOf v 0 2) (out.sesRegs (o := Reg.SES_JNL_STATUS i) (by omega) (by omega))

/-- The completion that a dispatch owes for a command. -/
def cplFor (e : StoreEntry) (n : Nat) (r : Ret) : Cpl := { cplOf (laterCtx e) r with irq := (cplOf (laterCtx e) r).irq || false, disp := some n }

/-- What a launch's result gives its command. -/
def launchRet (r : DispResult) : Ret := { status := r.status, r0 := r.group, r1 := r.r1, r2 := r.r2, r3 := r.r3, flags := r.flags, data := [] }

theorem conclude_launch {s : Dev} {n key : Nat} {d : Dispatch} {e : StoreEntry} {rg : Ring} (here : tget s.disp n = some d) (small : ∀ c ∈ d.cores, c < 176)
    (plain : d.plain = true) (source : d.source = some key) (own : d.inst ≤ 32) (mode : jnlMode s d.inst = 0) (stored : storeAt s key = some e)
    (ring : ringAt s (ringKey e.inst e.ring) = some rg) (live : rg.dead = false) (r : DispResult) :
    conclude s n r = modRing (setPhase (metered s n d) key 2) (ringKey e.inst e.ring) (fun g => { g with cplQ := g.cplQ ++ [cplFor e n (launchRet r)] }) := by
  have out := metered_metered here small
  obtain ⟨regs, cores, net, disp, free, shape⟩ := out.shape
  have quiet : ¬ (jnlMode (metered s n d) d.inst ≠ 0 ∧ (jnlOf (metered s n d) d.inst).digLaunch = true) := by
    rintro ⟨records, -⟩
    exact records ((out.jnlMode own).trans mode)
  have stored' : storeAt (metered s n d) key = some e := by
    rw [shape]
    exact stored
  have ring' : ringAt (setPhase (metered s n d) key 2) (ringKey e.inst e.ring) = some rg := by
    rw [shape]
    exact ring
  have unfolded : conclude s n r = oweFor (metered s n d) key n (launchRet r) false := by
    unfold conclude
    rw [here]
    dsimp only
    rw [if_pos plain, source]
    dsimp only
    exact congrArg (fun u => oweFor u key n (launchRet r) false) (if_neg quiet)
  rw [unfolded]
  unfold oweFor
  rw [stored']
  exact oweCpl_live ring' live _

section
variable {s : State} {n : Nat} {d : Dispatch}

/-- LAUNCH_COMPLETE of a launch that is over (R299). -/
theorem exec_launchComplete_ends (serves : serving s.dev = true) (free : s.dev.blocked = []) (here : tget s.dev.disp n = some d)
    (small : ∀ c ∈ d.cores, c < 176) (own : d.inst ≤ 32) (over' : d.phase = .ended) (quiet : ∀ c ∈ d.cores, (coreOf s.dev c).wb = [])
    (members : pendingLine s.dev false = false) (host : pendingLine s.dev true = false)
    (clean : ∀ c ∈ d.cores, ∀ p ∈ (coreOf s.dev c).groups, p.2.charges = []) {e : StoreEntry} {rg : Ring} {key : Nat} (plain : d.plain = true)
    (source : d.source = some key) (slots : d.slots = []) (mode : jnlMode s.dev d.inst = 0) (stored : storeAt s.dev key = some e)
    (ring : ringAt s.dev (ringKey e.inst e.ring) = some rg) (live : rg.dead = false) :
    ∃ (t : State) (c : Cpl), exec (.launchComplete n) s = .next t ∧ SameMem s.dev t.dev ∧ tget t.dev.disp n = none
      ∧ (∀ j ∈ d.cores, (coreOf s.dev j).disp = some n → (coreOf t.dev j).disp = none ∧ (coreOf t.dev j).groups = [])
      ∧ (ringAt t.dev (ringKey e.inst e.ring)).map (·.cplQ) = some (rg.cplQ ++ [c]) ∧ c.tag = eb e.entry 8 8 ∧ c.opcode = entryOp e.entry
      ∧ c.status = 0 ∧ c.r0 = 0xFFFFFFFF ∧ c.r1 = 0 ∧ c.r2 = 0 := by
  obtain ⟨r3, flags, result⟩ := resultOf_clean clean
  obtain ⟨m, isM⟩ : ∃ m, m = metered s.dev n d := ⟨_, rfl⟩
  have out : Metered n d s.dev m := isM ▸ metered_metered here small
  obtain ⟨regs, cores, net, disp, free', shape⟩ := out.shape
  obtain ⟨c, isC⟩ : ∃ c, c = cplFor e n (launchRet ⟨0, 0xFFFFFFFF, 0, 0, r3, flags⟩) := ⟨_, rfl⟩
  have ended : endDispatch s.dev n true = modRing (setPhase m key 2) (ringKey e.inst e.ring) (fun g => { g with cplQ := g.cplQ ++ [c] }) := by
    rw [endDispatch_ended here plain over' quiet members host, slots, result, isC, isM]
    exact conclude_launch here small plain source own mode stored ring live _
  have ran : exec (.launchComplete n) s
      = .next { s with dev := finish (modRing (setPhase m key 2) (ringKey e.inst e.ring) (fun g => { g with cplQ := g.cplQ ++ [c] })) } := by
    show execLaunchComplete n s = _
    unfold execLaunchComplete
    rw [perform_eq, if_pos serves, whole_of_unblocked, ended]
    rw [ended, shape]
    exact free
  have ring' : ringAt (setPhase m key 2) (ringKey e.inst e.ring) = some rg := by
    rw [shape]
    exact ring
  refine ⟨_, c, ran, sameMem_finish (by rw [shape]; rfl), out.gone, ?_, queue_modRing ring' c, ?_⟩
  · intro j member before
    exact out.cores j member before
  · rw [isC]
    exact ⟨rfl, rfl, rfl, rfl, rfl, rfl⟩

end

/-! ### The end of a step (R307) -/

theorem sessions_putSession (s : Dev) (n : Nat) {x : Session} (live : x.state ≠ .closed) :
    (putSession s n x).fe.sessions = tset s.fe.sessions n x := by
  unfold putSession
  dsimp only
  rw [if_neg live]
  split
  · rfl
  · rfl

theorem mem_tset_cases {V : Type} {t : List (Nat × V)} {k : Nat} {v : V} {p : Nat × V} (member : p ∈ tset t k v) : p ∈ t ∨ (p.1 = k ∧ p.2 = v) := by
  induction t with
  | nil =>
    rw [List.mem_singleton.mp member]
    exact .inr ⟨rfl, rfl⟩
  | cons q t ih =>
    unfold tset at member
    split at member
    · obtain rfl | later := List.mem_cons.mp member
      · exact .inr ⟨rfl, rfl⟩
      · exact .inl (List.mem_cons_of_mem _ later)
    · split at member
      · obtain rfl | old := List.mem_cons.mp member
        · exact .inr ⟨rfl, rfl⟩
        · exact .inl old
      · obtain rfl | later := List.mem_cons.mp member
        · exact .inl List.mem_cons_self
        · exact (ih later).imp_left (List.mem_cons_of_mem _)

theorem tget_of_running {s : Dev} {n : Nat} (runs : (sesAt s n).state = .running) : tget s.fe.sessions n = some (sesAt s n) := by
  unfold sesAt tgetD at runs ⊢
  cases here : tget s.fe.sessions n with
  | none =>
    rw [here] at runs
    exact SesState.noConfusion runs
  | some x => rfl

/-- Without a session that is Ready with a frame the batch former cuts nothing. -/
theorem eligible_none {s : Dev} {b : Nat} (cls : Nat) (busy : ∀ p ∈ s.fe.sessions, p.2.binding = b → p.2.state ≠ .ready ∨ p.2.pending = 0) :
    eligible s b cls = [] := by
  have nobody : s.fe.sessions.filter (fun p => p.2.state == .ready && decide (p.2.pending ≥ 1) && p.2.binding == b && p.2.cls == cls && p.2.moving.isNone)
      = [] := by
    refine List.filter_eq_nil_iff.mpr (fun p member => ?_)
    by_cases own : p.2.binding = b
    · obtain notReady | noFrame := busy p member own
      · simp [notReady]
      · simp [noFrame]
    · simp [own]
  unfold eligible
  dsimp only
  rw [nobody]
  rfl

theorem cutGroup_idle {s : Dev} {b cls : Nat} (idle : eligible s b cls = []) (fuel : Nat) : cutGroup s b cls false fuel = s := by
  cases fuel with
  | zero => rfl
  | succ fuel =>
    unfold cutGroup
    split
    · rfl
    · dsimp only
      rw [idle]
      split
      · rfl
      · rw [if_pos (by simp)]

theorem applyDeferred_none {s : Dev} {n : Nat} (none' : (sesAt s n).defer = none) : applyDeferred s n = s := by
  unfold applyDeferred
  dsimp only
  rw [none']

/-- A session's entry after a step of it (R307). -/
def stepped (x : Session) (hw energy : Nat) : Session :=
  { x with state := .ready, step := (x.step + 1) % 2 ^ 64, pending := x.pending - 1, arrivals := x.arrivals.drop 1, ended := hw
           oldest := ((x.arrivals.drop 1).headD x.oldest) % 2 ^ 32, energy := (x.energy + energy) % 2 ^ 64
           steps := x.steps.filter (fun p => p.1 != x.step) }

/-- The completion of a step (R307). -/
def stepDone (n : Nat) (sl : SlotInfo) (r : DispResult) : Cpl :=
  { tag := sl.step, status := r.status, opcode := 0x12, r0 := sl.session, r1 := r.r1, r2 := r.r2, r3 := r.r3, flags := r.flags, implicit := true
    irq := true, key := none, disp := some n }

/-- The module once a session's step has ended and its frame is done. -/
def sessionDone (s : Dev) (n : Nat) (y : Session) : Dev := bump (putSession s n y) Reg.SES_CNT_STEPS

/-- What the end of a step changes: the session's entry, and registers. -/
structure SessionDone (n : Nat) (y : Session) (s t : Dev) : Prop where
  shape : ∃ regs, t = { s with regs := regs, fe := { s.fe with sessions := tset s.fe.sessions n y } }
  regs : ∀ o, o ∉ sessionRegs → o ≠ 0x150000 → o ≠ Reg.SES_CNT_STEPS → regRead t o = regRead s o
  count : regRead t Reg.SES_CNT_STEPS = (regRead s Reg.SES_CNT_STEPS + 1) % 2 ^ 64

theorem sessionDone_sessionDone (s : Dev) (n : Nat) {y : Session} (live : y.state ≠ .closed) : SessionDone n y s (sessionDone s n y) := by
  obtain ⟨shape, regs⟩ := sessionsOnly_putSession s n y
  have table := sessions_putSession s n live
  have cache : (putSession s n y).fe.cache = s.fe.cache := by
    unfold putSession
    dsimp only
    split
    · rfl
    · rfl
  unfold sessionDone
  refine ⟨?_, ?_, ?_⟩
  · obtain ⟨regs', sessions, cache', same⟩ := shape
    rw [same] at table cache ⊢
    have table' : sessions = tset s.fe.sessions n y := table
    have cache'' : cache' = s.fe.cache := cache
    exact ⟨_, by rw [table', cache'']; rfl⟩
  · intro o others shc other
    exact (regRead_bump_other _ _ _ other).trans (regs o others shc)
  · rw [regRead_bump_same]
    exact congrArg (fun v => (v + 1) % 2 ^ 64) (regs _ (by decide) (by decide))

theorem SessionDone.jnlMode {n : Nat} {y : Session} {s t : Dev} (out : SessionDone n y s t) (i : Nat) : Machine.jnlMode t i = Machine.jnlMode s i := by
  have below : ∀ o ∈ sessionRegs, o < 0x181000 := by decide
  have place : Reg.SES_JNL_STATUS i = 0x181000 + 32 * i := rfl
  have steps : Reg.SES_CNT_STEPS = 0x180030 := rfl
  have apart : Reg.SES_JNL_STATUS i ∉ sessionRegs := fun named => absurd (below _ named) (by omega)
  have shc : Reg.SES_JNL_STATUS i ≠ 0x150000 := by omega
  have other : Reg.SES_JNL_STATUS i ≠ Reg.SES_CNT_STEPS := by omega
  exact congrArg (fun v => bitsOf v 0 2) (out.regs _ apart shc other)

section
variable {s : Dev} {n : Nat} {d : Dispatch} {sl : SlotInfo} {rg : Ring}

/-- A batch of one session that ends well leaves its session Ready and owes its completion. -/
theorem conclude_step (here : tget s.disp n = some d) (small : ∀ c ∈ d.cores, c < 176) (plain : d.plain = false) (slots : d.slots = [sl])
    (runs : (sesAt s sl.session).state = .running) (defer : (sesAt s sl.session).defer = none) (steps : (sesAt s sl.session).steps = [])
    (own : (sesAt s sl.session).inst ≤ 32) (mode : jnlMode s (sesAt s sl.session).inst = 0)
    (ring : ringAt s (ringKey (sesAt s sl.session).inst (sesAt s sl.session).cplRing) = some rg) (live : rg.dead = false) {r : DispResult}
    (well : r.status = 0) :
    ∃ energy, conclude s n r = modRing (sessionDone (metered s n d) sl.session (stepped (sesAt s sl.session) s.time.hw energy))
      (ringKey (sesAt s sl.session).inst (sesAt s sl.session).cplRing) (fun g => { g with cplQ := g.cplQ ++ [stepDone n sl r] }) := by
  obtain ⟨m, isM⟩ : ∃ m, m = metered s n d := ⟨_, rfl⟩
  have out : Metered n d s m := isM ▸ metered_metered here small
  obtain ⟨regs, cores, net, disp, free, shape⟩ := out.shape
  obtain ⟨x, isX⟩ : ∃ x, x = sesAt s sl.session := ⟨_, rfl⟩
  obtain ⟨e, isE⟩ : ∃ e, e = (takeFree (removeDispatch s n false)).1 := ⟨_, rfl⟩
  have atX : sesAt m sl.session = x := by
    rw [isX]
    refine sesAt_of_tget ?_
    rw [shape]
    exact tget_of_running runs
  have time : m.time = s.time := by rw [shape]
  rw [← isX] at runs defer steps own mode ring ⊢
  obtain ⟨v, isV⟩ : ∃ v, v = sessionDone m sl.session (stepped x s.time.hw (e / 1 + if 0 = 0 then e % 1 else 0)) := ⟨_, rfl⟩
  have done' : SessionDone sl.session (stepped x s.time.hw (e / 1 + if 0 = 0 then e % 1 else 0)) m v :=
    isV ▸ sessionDone_sessionDone m sl.session (fun closed => SesState.noConfusion closed)
  have first : endStep m sl.session (e / 1 + if 0 = 0 then e % 1 else 0) (r.status == 0) r.status = v := by
    unfold endStep
    dsimp only
    rw [atX, if_pos (by simp [well]), time, isV]
    rfl
  have quiet : jnlMode v x.inst = 0 := (done'.jnlMode x.inst).trans ((out.jnlMode own).trans mode)
  obtain ⟨regs', closed⟩ := done'.shape
  have ring' : ringAt v (ringKey x.inst x.cplRing) = some rg := by
    rw [closed, shape]
    exact ring
  have second : slotDone v n sl r x = modRing v (ringKey x.inst x.cplRing) (fun g => { g with cplQ := g.cplQ ++ [stepDone n sl r] }) := by
    unfold slotDone addDigest
    rw [if_pos quiet]
    unfold stepCpl
    dsimp only
    rw [steps]
    exact oweCpl_live ring' live _
  have last : applyDeferred (modRing v (ringKey x.inst x.cplRing) (fun g => { g with cplQ := g.cplQ ++ [stepDone n sl r] })) sl.session
      = modRing v (ringKey x.inst x.cplRing) (fun g => { g with cplQ := g.cplQ ++ [stepDone n sl r] }) := by
    have entry : sesAt (modRing v (ringKey x.inst x.cplRing) (fun g => { g with cplQ := g.cplQ ++ [stepDone n sl r] })) sl.session
        = stepped x s.time.hw (e / 1 + if 0 = 0 then e % 1 else 0) := by
      refine sesAt_of_tget ?_
      rw [closed]
      exact tget_tset_same _ _ _
    exact applyDeferred_none (by rw [entry]; exact defer)
  refine ⟨e / 1 + if 0 = 0 then e % 1 else 0, ?_⟩
  rw [← isM, ← isV]
  refine Eq.trans ?_ last
  rw [← second, ← first]
  unfold conclude
  rw [here]
  dsimp only
  rw [if_neg (by simp [plain]), slots]
  rw [isE]
  show applyDeferred (slotDone (endStep (metered s n d) _ _ _ _) n sl r (sesAt (metered s n d) sl.session)) sl.session = _
  rw [← isM, atX]
  rfl

end

section
variable {s : State} {n : Nat} {d : Dispatch}

/-- STEP_COMPLETE of a batch of one session that is over (R307). -/
theorem exec_stepComplete_ends (serves : serving s.dev = true) (free : s.dev.blocked = []) (here : tget s.dev.disp n = some d)
    (small : ∀ c ∈ d.cores, c < 176) (over' : d.phase = .ended) (quiet : ∀ c ∈ d.cores, (coreOf s.dev c).wb = [])
    (members : pendingLine s.dev false = false) (host : pendingLine s.dev true = false)
    (clean : ∀ c ∈ d.cores, ∀ p ∈ (coreOf s.dev c).groups, p.2.charges = []) {sl : SlotInfo} {x : Session} {rg : Ring} (plain : d.plain = false)
    (slots : d.slots = [sl]) (isX : x = sesAt s.dev sl.session) (runs : x.state = .running) (defer : x.defer = none) (one : x.pending = 1)
    (step : x.step = sl.step) (steps : x.steps = []) (own : x.inst ≤ 32) (mode : jnlMode s.dev x.inst = 0)
    (busy : ∀ p ∈ s.dev.fe.sessions, p.2.binding = x.binding → p.2.state = .running)
    (ring : ringAt s.dev (ringKey x.inst x.cplRing) = some rg) (live : rg.dead = false) :
    ∃ (t : State) (c : Cpl), exec (.stepComplete n) s = .next t ∧ SameMem s.dev t.dev ∧ tget t.dev.disp n = none
      ∧ (sesAt t.dev sl.session).state = .ready ∧ (sesAt t.dev sl.session).step = (x.step + 1) % 2 ^ 64 ∧ (sesAt t.dev sl.session).pending = 0
      ∧ (sesAt t.dev sl.session).seed = x.seed ∧ (sesAt t.dev sl.session).binding = x.binding
      ∧ (ringAt t.dev (ringKey x.inst x.cplRing)).map (·.cplQ) = some (rg.cplQ ++ [c]) ∧ c.tag = x.step ∧ c.opcode = 0x12 ∧ c.status = 0
      ∧ c.r0 = sl.session ∧ c.implicit = true
      ∧ regRead t.dev Reg.SES_CNT_STEPS = (regRead s.dev Reg.SES_CNT_STEPS + 1) % 2 ^ 64 := by
  obtain ⟨r3, flags, result⟩ := resultOf_clean clean
  have concluded : ∃ energy, conclude s.dev n (resultOf s.dev d)
      = modRing (sessionDone (metered s.dev n d) sl.session (stepped x s.dev.time.hw energy)) (ringKey x.inst x.cplRing)
        (fun g => { g with cplQ := g.cplQ ++ [stepDone n sl (resultOf s.dev d)] }) := by
    subst isX
    exact conclude_step here small plain slots runs defer steps own mode ring live (by rw [result])
  obtain ⟨energy, concluded⟩ := concluded
  obtain ⟨m, isM⟩ : ∃ m, m = metered s.dev n d := ⟨_, rfl⟩
  have out : Metered n d s.dev m := isM ▸ metered_metered here small
  obtain ⟨regs, cores, net, disp, free', shape⟩ := out.shape
  obtain ⟨y, isY⟩ : ∃ y, y = stepped x s.dev.time.hw energy := ⟨_, rfl⟩
  obtain ⟨v, isV⟩ : ∃ v, v = sessionDone m sl.session y := ⟨_, rfl⟩
  have done' : SessionDone sl.session y m v := isV ▸ sessionDone_sessionDone m sl.session (fun closed => SesState.noConfusion (isY ▸ closed))
  obtain ⟨regs', closed⟩ := done'.shape
  obtain ⟨c, isC⟩ : ∃ c, c = stepDone n sl (resultOf s.dev d) := ⟨_, rfl⟩
  obtain ⟨w, isW⟩ : ∃ w, w = modRing v (ringKey x.inst x.cplRing) (fun g => { g with cplQ := g.cplQ ++ [c] }) := ⟨_, rfl⟩
  rw [← isM, ← isY, ← isV, ← isC, ← isW] at concluded
  have ring' : ringAt v (ringKey x.inst x.cplRing) = some rg := by
    rw [closed, shape]
    exact ring
  have sessions : w.fe.sessions = tset s.dev.fe.sessions sl.session y := by
    rw [isW, closed, shape]
    rfl
  have entry : sesAt w sl.session = y := by
    refine sesAt_of_tget ?_
    rw [sessions]
    exact tget_tset_same _ _ _
  have idle : eligible w x.binding x.cls = [] := by
    refine eligible_none _ (fun p member same => ?_)
    rw [sessions] at member
    obtain early | ⟨-, own⟩ := mem_tset_cases member
    · rw [busy p early same]
      exact .inl (by decide)
    · rw [own, isY]
      refine .inr ?_
      show x.pending - 1 = 0
      omega
  have poked : pokeFormer w sl.session = w := by
    unfold pokeFormer
    dsimp only
    rw [entry, isY]
    exact cutGroup_idle idle _
  have ended : endDispatch s.dev n false = w := by
    rw [endDispatch_ended here plain over' quiet members host, slots, concluded]
    exact poked
  have unblocked : w.blocked = [] := by
    rw [isW, closed, shape]
    exact free
  have ran : exec (.stepComplete n) s = .next { s with dev := finish w } := by
    show execStepComplete n s = _
    unfold execStepComplete
    rw [perform_eq, if_pos serves, whole_of_unblocked (by rw [ended]; exact unblocked), ended]
  have atEnd : sesAt (finish w) sl.session = y := by
    refine sesAt_of_tget ?_
    rw [finish_fe, sessions]
    exact tget_tset_same _ _ _
  have count : regRead w Reg.SES_CNT_STEPS = (regRead s.dev Reg.SES_CNT_STEPS + 1) % 2 ^ 64 := by
    have same : regRead w Reg.SES_CNT_STEPS = regRead v Reg.SES_CNT_STEPS := by
      rw [isW]
      rfl
    rw [same, done'.count, out.sesRegs (by decide) (by decide)]
  refine ⟨_, c, ran, sameMem_finish (by rw [isW, closed, shape]; rfl), ?_, ?_, ?_, ?_, ?_, ?_, ?_, ?_, ?_, ?_, ?_, ?_, ?_⟩
  · have same : w.disp = m.disp := by
      rw [isW, closed]
      rfl
    rw [finish_disp, same]
    exact out.gone
  · rw [atEnd, isY]
    rfl
  · rw [atEnd, isY]
    rfl
  · rw [atEnd, isY]
    show x.pending - 1 = 0
    omega
  · rw [atEnd, isY]
    rfl
  · rw [atEnd, isY]
    rfl
  · rw [isW]
    exact queue_modRing ring' c
  · rw [isC, step]
    rfl
  · rw [isC]
    rfl
  · rw [isC, result]
    rfl
  · rw [isC]
    rfl
  · rw [isC]
    rfl
  · exact (regRead_finish w _ (by decide)).trans count

end

/-- Settles O27: a dispatch whose cores have finished is released, and once its writes are accepted its cores are free and its completion is owed
(R85, R299, R307). -/
theorem dispatchesEnd : Obligations.DispatchesEnd := by
  unfold Obligations.DispatchesEnd
  intro s n d serves free here small _ own
  refine ⟨?_, ?_⟩
  · intro plain runs finished busy
    exact exec_launchComplete_releases serves free here plain runs finished busy
  · intro over' quiet members host clean
    refine ⟨?_, ?_⟩
    · intro e rg key plain source slots mode stored _ ring live
      exact exec_launchComplete_ends serves free here small own over' quiet members host clean plain source slots mode stored ring live
    · intro sl x rg plain slots isX runs defer one step steps owned mode busy _ ring live
      exact exec_stepComplete_ends serves free here small over' quiet members host clean plain slots isX runs defer one step steps owned mode busy ring live

end Sys2Proof.Machine
end

section
/-!
The commands of the fabric that set what the device is and where messages go, and that make and drop exports, groups and communicators (R342, R348,
R350 to R352, R357, R360, R368).
-/
namespace Sys2Proof.Machine

section
variable {s : State} {c : Cmd} {x : Ctx}

/-! ### The device's number (R348) -/

/-- The module with a number of its own. -/
def numbered (s : Dev) (d : Nat) : Dev := fset (fset s RF.FAB_STATUS_DEVICE d) RF.FAB_STATUS_DEVICE_VALID 1

theorem exec_fabSetDevice (admits : Admits s.dev 0x70 c x) (small : eb x.e 16 2 ≤ 32767) (down : ∀ p, p < 16 → fget s.dev (RF.FAB_PORT_STATUS_STATE p) = 0) :
    ∃ t, exec (.fabSetDevice c) s = .next t ∧ SameMem s.dev t.dev ∧ Completes s.dev t.dev x Ret.ok ∧ fget t.dev RF.FAB_STATUS_DEVICE = eb x.e 16 2
      ∧ fget t.dev RF.FAB_STATUS_DEVICE_VALID = 1 ∧ fget t.dev RF.FAB_STATUS_PORTS_UP = fget s.dev RF.FAB_STATUS_PORTS_UP
      ∧ fget t.dev RF.FAB_STATUS_ARCH_ID = fget s.dev RF.FAB_STATUS_ARCH_ID ∧ fget t.dev RF.FAB_STATUS_ARCH_VALID = fget s.dev RF.FAB_STATUS_ARCH_VALID
      ∧ OnlyCmd [Reg.FAB_STATUS] s t x s.dev := by
  have idle : ((List.range 16).any (fun p => fget s.dev (RF.FAB_PORT_STATUS_STATE p) != 0)) = false := by
    refine List.any_eq_false.mpr (fun p member => ?_)
    simp [down p (List.mem_range.mp member)]
  have ends : ∃ t, exec (.fabSetDevice c) s = .next { s with dev := t } ∧ Ended s.dev (numbered s.dev (eb x.e 16 2)) t x Ret.ok := by
    refine ⟨_, rfl, command_ends rfl admits (by decide) ((afterChecks_pass ?_ _).trans rfl)
      (show s.dev.blocked = [] from free_of_admits admits) rfl rfl⟩
    simp only [List.forall_mem_cons, List.not_mem_nil, false_implies, implies_true, and_true]
    exact ⟨by simp [small], idle⟩
  obtain ⟨t, ran, ended⟩ := ends
  have field (f : Fld) (own : f.off = Reg.FAB_STATUS) (within : f.lo + f.width ≤ 64) (number : f.Apart RF.FAB_STATUS_DEVICE)
      (valid : f.Apart RF.FAB_STATUS_DEVICE_VALID) : fget t f = fget s.dev f := by
    rw [ended.fget (by rw [own]; decide) (by rw [own]; decide)]
    exact (fget_fset_apart _ _ within valid).trans (fget_fset_apart _ _ within number)
  have number : fget t RF.FAB_STATUS_DEVICE = eb x.e 16 2 := by
    rw [ended.fget (by decide) (by decide)]
    refine (fget_fset_apart _ _ (by decide) (.inr (.inl (by decide)))).trans ?_
    rw [fget_fset_same _ _ _ (by decide)]
    exact Nat.mod_eq_of_lt (by show _ < 2 ^ 15; omega)
  have valid : fget t RF.FAB_STATUS_DEVICE_VALID = 1 := by
    rw [ended.fget (by decide) (by decide)]
    exact fget_fset_same _ _ _ (by decide)
  refine ⟨_, ran, (sameMem_of_dram rfl).trans ended.mem, ended.completes, number, valid, ?_, ?_, ?_, ended.onlyCmd ended.shape ?_⟩
  · exact field _ rfl (by decide) (.inr (.inr (by decide))) (.inr (.inr (by decide)))
  · exact field _ rfl (by decide) (.inr (.inr (by decide))) (.inr (.inr (by decide)))
  · exact field _ rfl (by decide) (.inr (.inr (by decide))) (.inr (.inr (by decide)))
  · intro o others shc
    exact (sameRegsBut_fset _ RF.FAB_STATUS_DEVICE_VALID _ o others shc).trans (sameRegsBut_fset _ RF.FAB_STATUS_DEVICE _ o others shc)

/-! ### Routes (R342) -/

/-- The routes of a table after the first `n` of some bytes. -/
def routed (t : Tbl Nat) (first n : Nat) (b : List Byte) : Tbl Nat :=
  (List.range n).foldl (fun t i =>
    let v := ofLe ((b.drop (2 * i)).take 2)
    if v = 0 then tdel t (first + i) else tset t (first + i) v) t

theorem tgetD_routed (t : Tbl Nat) (first n : Nat) (b : List Byte) (d : Nat) :
    tgetD (routed t first n b) d 0 = if first ≤ d ∧ d < first + n then ofLe ((b.drop (2 * (d - first))).take 2) else tgetD t d 0 := by
  unfold routed
  induction n with
  | zero => exact (if_neg (by omega)).symm
  | succ n ih =>
    rw [List.range_succ, List.foldl_append, List.foldl_cons, List.foldl_nil]
    by_cases own : d = first + n
    · subst own
      have inside : first ≤ first + n ∧ first + n < first + (n + 1) := by omega
      rw [if_pos inside, Nat.add_sub_cancel_left]
      dsimp only
      split
      · next zero =>
        rw [zero]
        unfold tgetD
        rw [tget_tdel_same]
        rfl
      · unfold tgetD
        rw [tget_tset_same]
        rfl
    · have kept (v : Nat) (u : Tbl Nat) : tgetD (if v = 0 then tdel u (first + n) else tset u (first + n) v) d 0 = tgetD u d 0 := by
        unfold tgetD
        split
        · rw [tget_tdel_other _ _ _ own]
        · rw [tget_tset_other _ _ _ _ own]
      dsimp only
      rw [kept, ih]
      by_cases inside : first ≤ d ∧ d < first + n
      · rw [if_pos inside, if_pos (by omega)]
      · rw [if_neg inside, if_neg (by omega)]

theorem drainWaiting_none {v : Dev} (none' : v.fab.waiting = []) : drainWaiting v = v := by
  have same : { v with fab := { v.fab with waiting := [] } } = v := by
    rw [← none']
  unfold drainWaiting
  rw [none', same]
  rfl

theorem exec_fabRouteSet {first n : Nat} {s1 : Dev} {b : List Byte} (admits : Admits s.dev 0x71 c x) (isFirst : first = eb x.e 16 2) (isN : n = eb x.e 18 2)
    (some' : 0 < n) (within : first + n ≤ 32768) (buffer : cmdBuffer s.dev x (eb x.e 24 8) (2 * n) = (s1, b, 0)) (free : s1.blocked = [])
    (fe : s1.fe = s.dev.fe) (fab : s1.fab = s.dev.fab) (none' : s.dev.fab.waiting = []) :
    ∃ t, exec (.fabRouteSet c) s = .next t ∧ SameMem s1 t.dev ∧ Completes s1 t.dev x Ret.ok
      ∧ (∀ d, tgetD t.dev.fab.routes d 0
          = if first ≤ d ∧ d < first + n then ofLe ((b.drop (2 * (d - first))).take 2) else tgetD s.dev.fab.routes d 0)
      ∧ OnlyCmd [] { s with dev := s1 } t x { s1 with fab := { s1.fab with routes := t.dev.fab.routes } } := by
  have ends : ∃ t, exec (.fabRouteSet c) s = .next { s with dev := t }
      ∧ Ended s.dev { s1 with fab := { s1.fab with routes := routed s1.fab.routes first n b } } t x Ret.ok := by
    refine ⟨_, rfl, command_ends rfl admits (by decide) ?_ free (by rw [fe]) (by rw [fe])⟩
    dsimp only
    rw [← isFirst, ← isN, if_neg (by omega), buffer]
    exact congrArg (fun u => (u, CmdRes.done Ret.ok)) (drainWaiting_none (by show s1.fab.waiting = []; rw [fab, none']))
  obtain ⟨t, ran, ended⟩ := ends
  have ended := ended.of_fe (v := s1) fe
  have routes : t.fab.routes = routed s1.fab.routes first n b := by rw [ended.shape]
  refine ⟨_, ran, (sameMem_of_dram rfl).trans ended.mem, ended.completes, ?_, Ended.onlyCmd (s := { s with dev := s1 }) ended ?_ (fun _ _ _ => rfl)⟩
  · intro d
    show tgetD t.fab.routes d 0 = _
    rw [routes, tgetD_routed, fab]
  · show SameButAnswer { s1 with fab := { s1.fab with routes := t.fab.routes } } t
    rw [routes]
    exact ended.shape

/-! ### Exports (R350, R351) -/

/-- The export that FAB_EXPORT names. -/
def namedExport (x : Ctx) : Export :=
  ⟨eb x.e 16 1, eb x.e 24 4, eb x.e 28 4, bitOf (eb x.e 17 1) 0, bitOf (eb x.e 17 1) 1, bitOf (eb x.e 17 1) 2, eb x.e 18 1, eb x.e 20 2, false⟩

/-- A module whose exports are others. -/
def withExports (s : Dev) (l : Tbl Export) : Dev := { s with ins := { s.ins with exports := l } }

theorem exec_fabExport {h i first n : Nat} (admits : Admits s.dev 0x73 c x) (isI : i = eb x.e 16 1) (isFirst : first = eb x.e 24 4) (isN : n = eb x.e 28 4)
    (kind : eb x.e 18 1 ≤ 2) (device : eb x.e 20 2 ≤ 32767) (some' : 0 < n)
    (frames : ∀ fr ∈ runOf first n, owns s.dev i fr = true ∧ inPair s.dev fr = false) (there : insState s.dev i ≠ 0) (alive : insState s.dev i ≠ 4)
    (room : h < 1024) (lowest' : ∀ m, m ≤ h → (tget s.dev.ins.exports m = none ↔ m = h)) :
    ∃ t, exec (.fabExport c) s = .next t ∧ SameMem s.dev t.dev ∧ Completes s.dev t.dev x { Ret.ok with r0 := h }
      ∧ tget t.dev.ins.exports h = some ⟨i, first, n, bitOf (eb x.e 17 1) 0, bitOf (eb x.e 17 1) 1, bitOf (eb x.e 17 1) 2, eb x.e 18 1, eb x.e 20 2, false⟩
      ∧ (∀ m, m ≠ h → tget t.dev.ins.exports m = tget s.dev.ins.exports m)
      ∧ OnlyCmd [] s t x { s.dev with ins := { s.dev.ins with exports := t.dev.ins.exports } } := by
  have free : lowest 1024 (fun h => !thas s.dev.ins.exports h) = some h := lowest_free room lowest'
  have owned : (runOf (eb x.e 24 4) (eb x.e 28 4)).any (fun fr => !owns s.dev (eb x.e 16 1) fr) = false := by
    refine List.any_eq_false.mpr (fun fr member => ?_)
    rw [← isFirst, ← isN] at member
    simp [← isI, (frames fr member).1]
  have single : (runOf (eb x.e 24 4) (eb x.e 28 4)).any (inPair s.dev) = false := by
    refine List.any_eq_false.mpr (fun fr member => ?_)
    rw [← isFirst, ← isN] at member
    simp [(frames fr member).2]
  have ends : ∃ t, exec (.fabExport c) s = .next { s with dev := t }
      ∧ Ended s.dev (withExports s.dev (tset s.dev.ins.exports h (namedExport x))) t x { Ret.ok with r0 := h } := by
    refine ⟨_, rfl, command_ends rfl admits (by decide) ?_ (free_of_admits admits) rfl rfl⟩
    dsimp only
    rw [free]
    refine (afterChecks_pass ?_ _).trans rfl
    unfold namedState
    simp only [List.cons_append, List.nil_append, List.forall_mem_cons, List.not_mem_nil, false_implies, implies_true, and_true]
    refine ⟨?_, ?_, single, rfl⟩
    · simp [kind, device, owned]
      omega
    · simp [← isI, there, alive]
  obtain ⟨t, ran, ended⟩ := ends
  have exports : t.ins.exports = tset s.dev.ins.exports h (namedExport x) := by
    rw [ended.shape]
    rfl
  refine ⟨_, ran, (sameMem_of_dram rfl).trans ended.mem, ended.completes, ?_, ?_, ended.onlyCmd ?_ (fun _ _ _ => rfl)⟩
  · show tget t.ins.exports h = _
    rw [exports, tget_tset_same, isI, isFirst, isN]
    rfl
  · intro m other
    show tget t.ins.exports m = _
    rw [exports, tget_tset_other _ _ _ _ other]
  · show SameButAnswer (withExports s.dev t.ins.exports) t
    rw [exports]
    exact ended.shape

/-- An export whose frames no entry of the directory names is closed by marking it. -/
theorem closeExport_clear {v : Dev} {h : Nat} {y : Export} (here : tget v.ins.exports h = some y)
    (clear : ∀ p ∈ v.shore.dir, p.1 / 2 ^ 15 < y.first ∨ y.first + y.frames ≤ p.1 / 2 ^ 15) :
    closeExport v h = withExports v (tset v.ins.exports h { y with closing := true }) := by
  have nobody (p : Nat × DirEntry) (member : p ∈ v.shore.dir) (q : Bool) :
      (decide (y.first ≤ p.1 / 2 ^ 15) && decide (p.1 / 2 ^ 15 < y.first + y.frames) && q) = false := by
    obtain below | above := clear p member
    · rw [decide_eq_false (Nat.not_le.mpr below), Bool.false_and, Bool.false_and]
    · rw [decide_eq_false (Nat.not_lt.mpr above), Bool.and_false, Bool.false_and]
  have empty (u : Dev) : v.shore.dir.filter (fun p => decide (y.first ≤ p.1 / 2 ^ 15) && decide (p.1 / 2 ^ 15 < y.first + y.frames)
      && uncovered u (p.1 / 2 ^ 15) p.2) = [] :=
    List.filter_eq_nil_iff.mpr (fun p member => by rw [nobody p member]; decide)
  unfold closeExport
  rw [here]
  dsimp only
  rw [empty]
  rfl

theorem exec_fabUnexport {h : Nat} {y : Export} (admits : Admits s.dev 0x74 c x) (isH : h = eb x.e 16 2) (here : tget s.dev.ins.exports h = some y)
    (own : x.origin = 2 → y.inst = x.inst) (clear : ∀ p ∈ s.dev.shore.dir, p.1 / 2 ^ 15 < y.first ∨ y.first + y.frames ≤ p.1 / 2 ^ 15) :
    ∃ t, exec (.fabUnexport c) s = .next t ∧ SameMem s.dev t.dev ∧ Completes s.dev t.dev x Ret.ok ∧ tget t.dev.ins.exports h = none
      ∧ (∀ m, m ≠ h → tget t.dev.ins.exports m = tget s.dev.ins.exports m)
      ∧ OnlyCmd [] s t x { s.dev with ins := { s.dev.ins with exports := t.dev.ins.exports } } := by
  have ends : ∃ t, exec (.fabUnexport c) s = .next { s with dev := t }
      ∧ Ended s.dev (withExports s.dev (tdel (tset s.dev.ins.exports h { y with closing := true }) h)) t x Ret.ok := by
    refine ⟨_, rfl, command_ends rfl admits (by decide) ?_ (free_of_admits admits) rfl rfl⟩
    dsimp only
    rw [← isH, here]
    dsimp only
    rw [if_neg (fun bad => bad.1 (own bad.2)), closeExport_clear here clear]
    rfl
  obtain ⟨t, ran, ended⟩ := ends
  have exports : t.ins.exports = tdel (tset s.dev.ins.exports h { y with closing := true }) h := by
    rw [ended.shape]
    rfl
  refine ⟨_, ran, (sameMem_of_dram rfl).trans ended.mem, ended.completes, ?_, ?_, ended.onlyCmd ?_ (fun _ _ _ => rfl)⟩
  · show tget t.ins.exports h = _
    rw [exports, tget_tdel_same]
  · intro m other
    show tget t.ins.exports m = _
    rw [exports, tget_tdel_other _ _ _ other, tget_tset_other _ _ _ _ other]
  · show SameButAnswer (withExports s.dev t.ins.exports) t
    rw [exports]
    exact ended.shape

/-! ### Multicast groups (R357) -/

theorem exec_mcastGroupSet {n : Nat} {s1 : Dev} {b : List Byte} {l : List Nat} (admits : Admits s.dev 0x75 c x) (isN : n = eb x.e 17 1) (some' : 1 ≤ n)
    (within : n ≤ 64) (aligned : eb x.e 24 8 % 8 = 0) (given : vaGiven s.dev x.inst (eb x.e 24 8) (8 * n) x.payload = (s1, b, 0)) (free : s1.blocked = [])
    (fe : s1.fe = s.dev.fe) (isL : l = (List.range n).map (fun i => ofLe ((b.drop (8 * i)).take 8))) (small : ∀ v ∈ l, v < 2 ^ 57) :
    ∃ t, exec (.mcastGroupSet c) s = .next t ∧ SameMem s1 t.dev ∧ Completes s1 t.dev x Ret.ok
      ∧ tget t.dev.fab.groups (256 * x.inst + eb x.e 16 1) = some l
      ∧ (∀ k, k ≠ 256 * x.inst + eb x.e 16 1 → tget t.dev.fab.groups k = tget s1.fab.groups k)
      ∧ OnlyCmd [] { s with dev := s1 } t x { s1 with fab := { s1.fab with groups := t.dev.fab.groups } } := by
  have narrow : l.any (fun v => decide (v ≥ 2 ^ 57)) = false := List.any_eq_false.mpr (fun v member => by simpa using small v member)
  have ends : ∃ t, exec (.mcastGroupSet c) s = .next { s with dev := t }
      ∧ Ended s.dev { s1 with fab := { s1.fab with groups := tset s1.fab.groups (256 * x.inst + eb x.e 16 1) l } } t x Ret.ok := by
    refine ⟨_, rfl, command_ends rfl admits (by decide) ?_ free (by rw [fe]) (by rw [fe])⟩
    dsimp only
    rw [← isN, if_neg (by omega), if_neg (not_not_intro aligned), given]
    subst isL
    exact if_neg (by rw [narrow]; decide)
  obtain ⟨t, ran, ended⟩ := ends
  have ended := ended.of_fe (v := s1) fe
  have groups : t.fab.groups = tset s1.fab.groups (256 * x.inst + eb x.e 16 1) l := by rw [ended.shape]
  refine ⟨_, ran, (sameMem_of_dram rfl).trans ended.mem, ended.completes, ?_, ?_, Ended.onlyCmd (s := { s with dev := s1 }) ended ?_ (fun _ _ _ => rfl)⟩
  · show tget t.fab.groups _ = _
    rw [groups, tget_tset_same]
  · intro k other
    show tget t.fab.groups _ = _
    rw [groups, tget_tset_other _ _ _ _ other]
  · show SameButAnswer { s1 with fab := { s1.fab with groups := t.fab.groups } } t
    rw [groups]
    exact ended.shape

/-! ### Communicators (R360, R368) -/

theorem noRepeats_of_nodup {l : List Nat} (once : l.Nodup) : noRepeats l = true := by
  induction l with
  | nil => rfl
  | cons a l ih =>
    obtain ⟨apart, rest⟩ := List.nodup_cons.mp once
    unfold noRepeats
    simp [apart, ih rest]

/-- The rank of a device that a list without repeats names. -/
theorem rank_of_nodup {l : List Nat} (once : l.Nodup) {r d : Nat} (inside : r < l.length) (here : l.getD r 0 = d) :
    lowest l.length (fun r => l.getD r 0x8000 == d) = some r := by
  have value (m : Nat) (below : m < l.length) : l.getD m 0x8000 = l[m] := by simp [below]
  have own : l[r] = d := by
    rw [← here]
    simp [inside]
  refine lowest_eq inside ?_ ?_
  · rw [value r inside, own]
    exact beq_self_eq_true d
  · intro m earlier
    rw [value m (by omega), ← own]
    refine beq_eq_false_iff_ne.mpr (fun same => ?_)
    have := (List.Nodup.getElem_inj_iff once).mp same
    omega

theorem exec_commCreate {n h r : Nat} {s1 : Dev} {b : List Byte} {ranks : List Nat} (admits : Admits s.dev 0x77 c x) (isN : n = eb x.e 16 4) (some' : 2 ≤ n)
    (within : n ≤ 32768) (aligned : eb x.e 24 8 % 2 = 0) (given : vaGiven s.dev x.inst (eb x.e 24 8) (2 * n) x.payload = (s1, b, 0)) (free : s1.blocked = [])
    (fe : s1.fe = s.dev.fe) (fab : s1.fab = s.dev.fab) (isRanks : ranks = (List.range n).map (fun i => ofLe ((b.drop (2 * i)).take 2)))
    (valid : fget s1 RF.FAB_STATUS_DEVICE_VALID = 1) (inside : r < n) (me : ranks.getD r 0 = fget s1 RF.FAB_STATUS_DEVICE) (once : ranks.Nodup)
    (small : ∀ v ∈ ranks, v ≤ 32767) (quota : (s.dev.fab.comms.filter (fun p => p.2.inst == x.inst)).length < 256) (room : h < 65536)
    (lowest' : ∀ m, m ≤ h → (tget s.dev.fab.comms m = none ↔ m = h)) :
    ∃ t, exec (.commCreate c) s = .next t ∧ SameMem s1 t.dev ∧ Completes s1 t.dev x { Ret.ok with r0 := h, r1 := r }
      ∧ tget t.dev.fab.comms h = some ⟨x.inst, eb x.e 32 8, ranks, r, 0, [], []⟩
      ∧ (∀ m, m ≠ h → tget t.dev.fab.comms m = tget s.dev.fab.comms m)
      ∧ OnlyCmd [] { s with dev := s1 } t x { s1 with fab := { s1.fab with comms := t.dev.fab.comms } } := by
  have length : ranks.length = n := by simp [isRanks]
  have rank : rankOf { inst := 0, key := 0, ranks := ranks, rank := 0, issued := 0, colls := [], early := [] } (fget s1 RF.FAB_STATUS_DEVICE) = some r :=
    rank_of_nodup once (by omega) me
  have place : lowest 65536 (fun h => !thas s1.fab.comms h) = some h := by
    rw [fab]
    exact lowest_free room lowest'
  have narrow : ranks.any (fun r => decide (r > 32767)) = false := List.any_eq_false.mpr (fun v member => by simpa using small v member)
  have ends : ∃ t, exec (.commCreate c) s = .next { s with dev := t }
      ∧ Ended s.dev { s1 with fab := { s1.fab with comms := tset s1.fab.comms h ⟨x.inst, eb x.e 32 8, ranks, r, 0, [], []⟩ } } t x
          { Ret.ok with r0 := h, r1 := r } := by
    refine ⟨_, rfl, command_ends rfl admits (by decide) ?_ free (by rw [fe]) (by rw [fe])⟩
    dsimp only
    rw [← isN, if_neg (by omega), if_neg (not_not_intro aligned), given]
    refine Eq.trans (b := afterChecks s1 _ _) rfl ?_
    rw [← isRanks, rank, place]
    refine (afterChecks_pass ?_ _).trans rfl
    simp only [List.forall_mem_cons, List.not_mem_nil, false_implies, implies_true, and_true]
    refine ⟨?_, ?_⟩
    · simp [valid, noRepeats_of_nodup once, narrow]
    · simp [fab, quota]
  obtain ⟨t, ran, ended⟩ := ends
  have ended := ended.of_fe (v := s1) fe
  have comms : t.fab.comms = tset s1.fab.comms h ⟨x.inst, eb x.e 32 8, ranks, r, 0, [], []⟩ := by rw [ended.shape]
  refine ⟨_, ran, (sameMem_of_dram rfl).trans ended.mem, ended.completes, ?_, ?_, Ended.onlyCmd (s := { s with dev := s1 }) ended ?_ (fun _ _ _ => rfl)⟩
  · show tget t.fab.comms h = _
    rw [comms, tget_tset_same]
  · intro m other
    show tget t.fab.comms m = _
    rw [comms, tget_tset_other _ _ _ _ other, fab]
  · show SameButAnswer { s1 with fab := { s1.fab with comms := t.fab.comms } } t
    rw [comms]
    exact ended.shape

theorem exec_commDestroy {h : Nat} {cm : Comm} (admits : Admits s.dev 0x79 c x) (isH : h = eb x.e 16 2) (here : commAt s.dev h = some cm)
    (own : cm.inst = x.inst) (idle : cm.colls = []) :
    ∃ t, exec (.commDestroy c) s = .next t ∧ SameMem s.dev t.dev ∧ Completes s.dev t.dev x Ret.ok ∧ commAt t.dev h = none
      ∧ (∀ m, m ≠ h → commAt t.dev m = commAt s.dev m)
      ∧ OnlyCmd [] s t x { s.dev with fab := { s.dev.fab with comms := t.dev.fab.comms } } := by
  have ends : ∃ t, exec (.commDestroy c) s = .next { s with dev := t }
      ∧ Ended s.dev { s.dev with fab := { s.dev.fab with comms := tdel s.dev.fab.comms h } } t x Ret.ok := by
    refine ⟨_, rfl, command_ends rfl admits (by decide) ?_ (free_of_admits admits) rfl rfl⟩
    dsimp only
    rw [← isH, here]
    dsimp only
    rw [if_neg (not_not_intro own), if_neg (by simp [idle])]
  obtain ⟨t, ran, ended⟩ := ends
  have comms : t.fab.comms = tdel s.dev.fab.comms h := by rw [ended.shape]
  refine ⟨_, ran, (sameMem_of_dram rfl).trans ended.mem, ended.completes, ?_, ?_, ended.onlyCmd ?_ (fun _ _ _ => rfl)⟩
  · show tget t.fab.comms h = _
    rw [comms, tget_tdel_same]
  · intro m other
    show tget t.fab.comms m = tget s.dev.fab.comms m
    rw [comms, tget_tdel_other _ _ _ other]
  · show SameButAnswer { s.dev with fab := { s.dev.fab with comms := t.fab.comms } } t
    rw [comms]
    exact ended.shape

end

end Sys2Proof.Machine
end

section
/-!
The commands by which the device takes its place in an archipelago and asks for the admission of another (R352).
-/
namespace Sys2Proof.Machine

section
variable {s : State} {c : Cmd} {x : Ctx}

/-! ### The device's own place (R352) -/

/-- The module with a place of its own in an archipelago. -/
def placed (s : Dev) (arch idx : Nat) : Dev :=
  showMembers (fset (fset (fset s RF.FAB_STATUS_ARCH_ID arch) RF.FAB_STATUS_ARCH_VALID 1) RF.FAB_STATUS_MY_MEMBER idx)

/-- A field of FAB_STATUS that none of those written is. -/
theorem fget_placed (s : Dev) (arch idx : Nat) {f : Fld} (within : f.lo + f.width ≤ 64) (members : f.Apart RF.FAB_STATUS_MEMBERS) :
    fget (placed s arch idx) f = fget (fset (fset (fset s RF.FAB_STATUS_ARCH_ID arch) RF.FAB_STATUS_ARCH_VALID 1) RF.FAB_STATUS_MY_MEMBER idx) f :=
  fget_fset_apart _ _ within members

theorem sameRegs_placed (s : Dev) (arch idx : Nat) : SameRegsBut [Reg.FAB_STATUS] s (placed s arch idx) := by
  intro o others shc
  refine (sameRegsBut_fset _ RF.FAB_STATUS_MEMBERS _ o others shc).trans ((sameRegsBut_fset _ RF.FAB_STATUS_MY_MEMBER _ o others shc).trans ?_)
  exact (sameRegsBut_fset _ RF.FAB_STATUS_ARCH_VALID _ o others shc).trans (sameRegsBut_fset _ RF.FAB_STATUS_ARCH_ID _ o others shc)

/-- What follows FAB_ARCH_SET does nothing where no peer's side waits. -/
theorem finish_admitted {u v w : Dev} {r : Ret} (ended : Ended s.dev u (finish v) x r) (notes : u.fab.notes = [])
    (after : w = if v.fab.notes.isEmpty then v else (tkeys v.fab.notes).foldl tryAdmit v) : w = v := by
  have kept : v.fab.notes = u.fab.notes := by
    show (finish v).fab.notes = _
    rw [ended.shape]
  rw [after, kept, notes]
  rfl

theorem exec_fabArchAdmit_own {arch idx dev : Nat} (admits : Admits s.dev 0x72 c x) (isArch : arch = eb x.e 16 2) (isIdx : idx = eb x.e 18 1)
    (isDev : dev = eb x.e 20 2) (small : idx ≤ 63) (device : dev ≤ 32767) (op : eb x.e 19 1 = 0) (vacant : tget s.dev.fab.members idx = none)
    (notes : s.dev.fab.notes = []) (own : ownDevice s.dev dev = true) (fresh : fget s.dev RF.FAB_STATUS_ARCH_VALID = 0) :
    ∃ t, exec (.fabArchAdmit c) s = .next t ∧ SameMem s.dev t.dev ∧ Completes s.dev t.dev x Ret.ok ∧ fget t.dev RF.FAB_STATUS_ARCH_ID = arch
      ∧ fget t.dev RF.FAB_STATUS_ARCH_VALID = 1 ∧ fget t.dev RF.FAB_STATUS_MY_MEMBER = idx
      ∧ fget t.dev RF.FAB_STATUS_DEVICE = fget s.dev RF.FAB_STATUS_DEVICE ∧ OnlyCmd [Reg.FAB_STATUS] s t x s.dev := by
  have first : otherOp 19 0 c s.dev 0x72 = false := otherOp_own admits (by simp [op])
  have ends : ∃ (f : Ctx → Dev → Dev × CmdRes) (w : Dev), exec (.fabArchAdmit c) s = .next { s with dev := finish w }
      ∧ (w = if (command 0x72 c s.dev f).fab.notes.isEmpty then command 0x72 c s.dev f
          else (tkeys (command 0x72 c s.dev f).fab.notes).foldl tryAdmit (command 0x72 c s.dev f))
      ∧ Ended s.dev (placed s.dev arch idx) (finish (command 0x72 c s.dev f)) x Ret.ok := by
    refine ⟨?_, ?_, ?run, ?after, ?ends⟩
    case run =>
      show execFabArchAdmit c s = _
      unfold execFabArchAdmit
      rw [perform_eq, if_neg (by rw [first]; decide)]
    case after => rfl
    refine command_ends rfl admits (by decide) ((afterChecks_pass ?_ _).trans ?_) (show s.dev.blocked = [] from free_of_admits admits) rfl rfl
    · rw [← isArch, ← isIdx, ← isDev, vacant, own, fresh]
      simp [thas, vacant, small, device, op]
    · rw [← isArch, ← isIdx, ← isDev, own]
      rfl
  obtain ⟨f, w, ran, after, ended⟩ := ends
  rw [finish_admitted ended notes after] at ran
  have field (f : Fld) (place : f.off = Reg.FAB_STATUS) : fget (finish (command 0x72 c s.dev ‹_›)) f = fget (placed s.dev arch idx) f :=
    ended.fget (by rw [place]; decide) (by rw [place]; decide)
  refine ⟨_, ran, (sameMem_of_dram rfl).trans ended.mem, ended.completes, ?_, ?_, ?_, ?_, ended.onlyCmd ended.shape (sameRegs_placed _ _ _)⟩
  · refine (field _ rfl).trans ((fget_placed _ _ _ (by decide) (.inr (.inl (by decide)))).trans ?_)
    refine (fget_fset_apart _ _ (by decide) (.inr (.inl (by decide)))).trans ((fget_fset_apart _ _ (by decide) (.inr (.inl (by decide)))).trans ?_)
    rw [fget_fset_same _ _ _ (by decide)]
    rw [isArch]
    exact Nat.mod_eq_of_lt (bitsOf_lt _ _ _)
  · refine (field _ rfl).trans ((fget_placed _ _ _ (by decide) (.inr (.inl (by decide)))).trans ?_)
    refine (fget_fset_apart _ _ (by decide) (.inr (.inl (by decide)))).trans ?_
    exact fget_fset_same _ _ _ (by decide)
  · refine (field _ rfl).trans ((fget_placed _ _ _ (by decide) (.inr (.inl (by decide)))).trans ?_)
    rw [fget_fset_same _ _ _ (by decide)]
    exact Nat.mod_eq_of_lt (by show _ < 2 ^ 6; omega)
  · refine (field _ rfl).trans ((fget_placed _ _ _ (by decide) (.inr (.inl (by decide)))).trans ?_)
    refine (fget_fset_apart _ _ (by decide) (.inr (.inl (by decide)))).trans ((fget_fset_apart _ _ (by decide) (.inr (.inl (by decide)))).trans ?_)
    exact fget_fset_apart _ _ (by decide) (.inr (.inl (by decide)))

/-! ### The admission of another device (R352, R353) -/

/-- The module that awaits a device as a member. -/
def awaiting (s : Dev) (idx dev key : Nat) : Dev :=
  { s with fab := { s.fab with members := tset s.fab.members idx { device := dev, cmd := some key, heard := s.time.hw } } }

/-- This device's side of an admission (R353). -/
def admitMsg (s : Dev) (idx dev : Nat) : FabMsg :=
  mkMsg s dev 0 0 false (.admission ⟨fget s RF.FAB_STATUS_ARCH_ID, fget s RF.FAB_STATUS_MY_MEMBER, idx, tgetD s.fab.epochs dev 0, Config.chain 0, ownMeasured s⟩)

theorem sendAdmit_eq (s : Dev) (idx dev : Nat) : sendAdmit s idx dev = routeMsg s (admitMsg s idx dev) := rfl

theorem routeMsg_members (v : Dev) (m : FabMsg) : (routeMsg v m).fab.members = v.fab.members := by
  unfold routeMsg
  dsimp only
  split
  · rfl
  · rfl

theorem finish_begun {u v w : Dev} (begun : Begun s.dev u (finish v) x) (notes : u.fab.notes = [])
    (after : w = if v.fab.notes.isEmpty then v else (tkeys v.fab.notes).foldl tryAdmit v) : w = v := by
  obtain ⟨store, dram, regs, closed⟩ := begun.shape
  have kept : v.fab.notes = u.fab.notes := by
    show (finish v).fab.notes = _
    rw [closed]
  rw [after, kept, notes]
  rfl

theorem exec_fabArchAdmit_other {arch idx dev : Nat} (admits : Admits s.dev 0x72 c x) (isArch : arch = eb x.e 16 2) (isIdx : idx = eb x.e 18 1)
    (isDev : dev = eb x.e 20 2) (small : idx ≤ 63) (device : dev ≤ 32767) (op : eb x.e 19 1 = 0) (vacant : tget s.dev.fab.members idx = none)
    (notes : s.dev.fab.notes = []) (other : ownDevice s.dev dev = false) (valid : fget s.dev RF.FAB_STATUS_ARCH_VALID = 1)
    (same : fget s.dev RF.FAB_STATUS_ARCH_ID = arch) (apart : fget s.dev RF.FAB_STATUS_MY_MEMBER ≠ idx) (stranger : memberOf s.dev dev = none)
    (unasked : ∀ p ∈ s.dev.fab.members, p.2.device ≠ dev) :
    ∃ t, exec (.fabArchAdmit c) s = .next t ∧ SameMem s.dev t.dev ∧ Begins t.dev x
      ∧ tget t.dev.fab.members idx = some ⟨dev, some x.key, s.dev.time.hw⟩
      ∧ (∀ j, j ≠ idx → tget t.dev.fab.members j = tget s.dev.fab.members j)
      ∧ Sends s.dev t.dev (mkMsg s.dev dev 0 0 false
          (.admission ⟨arch, fget s.dev RF.FAB_STATUS_MY_MEMBER, idx, tgetD s.dev.fab.epochs dev 0, Config.chain 0, ownMeasured s.dev⟩))
      ∧ OnlyCmd txRegs s t x { s.dev with fab := fabSent t.dev s.dev.fab } := by
  have first : otherOp 19 0 c s.dev 0x72 = false := otherOp_own admits (by simp [op])
  have nobody : s.dev.fab.members.any (fun p => p.2.device == dev) = false := List.any_eq_false.mpr (fun p member => by simpa using unasked p member)
  obtain ⟨sent, sends⟩ := routeMsg_sends (awaiting s.dev idx dev x.key) (admitMsg (awaiting s.dev idx dev x.key) idx dev)
  rw [← sendAdmit_eq] at sent sends
  obtain ⟨u, isU⟩ : ∃ u, u = sendAdmit (awaiting s.dev idx dev x.key) idx dev := ⟨_, rfl⟩
  rw [← isU] at sent sends
  have blocked : u.blocked = [] := by
    rw [sent.rest]
    exact (show s.dev.blocked = [] from free_of_admits admits)
  have fe : u.fe = s.dev.fe := by
    rw [sent.rest]
    rfl
  have ends : ∃ (f : Ctx → Dev → Dev × CmdRes) (w : Dev), exec (.fabArchAdmit c) s = .next { s with dev := finish w }
      ∧ (w = if (command 0x72 c s.dev f).fab.notes.isEmpty then command 0x72 c s.dev f
          else (tkeys (command 0x72 c s.dev f).fab.notes).foldl tryAdmit (command 0x72 c s.dev f))
      ∧ Begun s.dev u (finish (command 0x72 c s.dev f)) x := by
    refine ⟨?_, ?_, ?run, ?after, ?ends⟩
    case run =>
      show execFabArchAdmit c s = _
      unfold execFabArchAdmit
      rw [perform_eq, if_neg (by rw [first]; decide)]
    case after => rfl
    refine command_begins rfl admits ((afterChecks_pass ?_ _).trans ?_) blocked (by rw [fe]) (by rw [fe])
    · rw [← isArch, ← isIdx, ← isDev, vacant, other, valid, same, stranger, nobody]
      simp [small, device, op, apart]
    · rw [← isIdx, ← isDev, other, if_neg (by decide), isU]
      rfl
  obtain ⟨f, w, ran, after, begun⟩ := ends
  have uNotes : u.fab.notes = [] := by
    rw [sent.rest]
    exact notes
  rw [finish_begun begun uNotes after] at ran
  obtain ⟨t, isT⟩ : ∃ t, t = finish (command 0x72 c s.dev f) := ⟨_, rfl⟩
  rw [← isT] at begun ran
  obtain ⟨store, dram, regs, closed⟩ := begun.shape
  have fab : t.fab = u.fab := by rw [closed]
  have out : t.out = u.out := by rw [closed]
  have members : t.fab.members = tset s.dev.fab.members idx ⟨dev, some x.key, s.dev.time.hw⟩ := by
    rw [fab, isU]
    exact routeMsg_members _ _
  refine ⟨_, ran, (sameMem_of_dram (by rw [sent.rest]; rfl)).trans begun.mem, begun.begins, ?_, ?_, ?_, begun.onlyCmd ?_ sent.regs⟩
  · show tget t.fab.members idx = _
    rw [members, tget_tset_same]
  · intro j far
    show tget t.fab.members j = _
    rw [members, tget_tset_other _ _ _ _ far]
  · have told := sends.followed out fab
    rw [← same]
    exact told
  · show SameButAnswer { s.dev with fab := fabSent t s.dev.fab } t
    have sentFab : fabSent t s.dev.fab = u.fab := by
      rw [sent.rest]
      unfold fabSent
      rw [fab]
      rfl
    rw [sentFab, closed, sent.rest]
    rfl

end

end Sys2Proof.Machine
end

section
/-!
SUPPORT. The epochs of members, and the count of departures, through all that requests, answers and departures do at this device (R206, R225, R355).
-/
namespace Sys2Proof.Machine

/-! ### The frame -/

/-- The registers of the members' epochs, and the count of departures. -/
def EpochReg (o : Nat) : Prop := (0x150600 ≤ o ∧ o < 0x150800) ∨ o = 0x190048

/-- The epochs and the count of departures are as they were. -/
def Steady (s t : Dev) : Prop := ∀ o, EpochReg o → regRead t o = regRead s o

namespace Steady

theorem refl (s : Dev) : Steady s s := fun _ _ => rfl

theorem trans {s t u : Dev} (h : Steady s t) (k : Steady t u) : Steady s u := fun o named => (k o named).trans (h o named)

theorem of_regs {s t : Dev} (same : t.regs = s.regs) : Steady s t := fun o _ => regRead_congr same o

theorem ite {s a b : Dev} {c : Prop} [Decidable c] (yes : Steady s a) (no : Steady s b) : Steady s (if c then a else b) := by
  split
  · exact yes
  · exact no

theorem foldl {α : Type} {f : Dev → α → Dev} (step : ∀ t a, Steady t (f t a)) (l : List α) (s : Dev) : Steady s (l.foldl f s) :=
  List.foldlRecOn (motive := Steady s) _ _ (refl s) (fun t before a _ => before.trans (step t a))

end Steady

/-- A register that lies elsewhere. -/
abbrev Elsewhere (o : Nat) : Prop := o < 0x150600 ∨ (0x150800 ≤ o ∧ o < 0x190048) ∨ 0x190048 < o

theorem Elsewhere.ne {o r : Nat} (out : Elsewhere o) (named : EpochReg r) : r ≠ o := by
  unfold EpochReg at named
  omega

theorem steady_regWrite (s : Dev) {o : Nat} (v : Nat) (out : Elsewhere o) : Steady s (regWrite s o v) :=
  fun _ named => regRead_regWrite_other _ _ _ _ (out.ne named)

theorem steady_bump (s : Dev) {o : Nat} (out : Elsewhere o) : Steady s (bump s o) := steady_regWrite s _ out

theorem steady_fset (s : Dev) (f : Fld) (v : Nat) (out : Elsewhere f.off) : Steady s (fset s f v) :=
  fun _ named => regRead_fset_other _ _ _ _ (out.ne named)

theorem trafficRegs_elsewhere : ∀ o ∈ trafficRegs, o < 0x150600 ∨ (0x150800 ≤ o ∧ o < 0x190048) ∨ 0x190048 < o := by decide

theorem Traffic.steady {s t : Dev} (h : Traffic s t) : Steady s t := by
  intro o named
  have shc : o ≠ 0x150000 := by
    unfold EpochReg at named
    omega
  exact h.regs o (fun counts => Elsewhere.ne (trafficRegs_elsewhere o counts) named rfl) shc

/-! ### Requests of the cores (R210, R223) -/

theorem steady_failReq (s : Dev) (n : Nat) (r : Req) (code : Nat) : Steady s (failReq s n r code) := by
  unfold failReq
  split
  · exact .of_regs rfl
  · exact .of_regs rfl

theorem steady_deliver (s : Dev) (n : Nat) (r : Req) (data : BitVec 256) (code : Nat) : Steady s (deliver s n r data code) := .of_regs rfl

theorem steady_deliverAtomic (s : Dev) (n : Nat) (r : Req) (ops : List LaneAtom) (vals : List (Nat × Nat)) (code : Nat) :
    Steady s (deliverAtomic s n r ops vals code) := .of_regs rfl

theorem steady_enqueue (s : Dev) (k : Nat) (r : CohReq) : Steady s (enqueue s k r) := by
  unfold enqueue
  dsimp only
  split
  · exact .refl s
  · split
    · exact (steady_bump s (by decide)).trans (.of_regs rfl)
    · exact .of_regs rfl

theorem steady_atomicHere (s : Dev) (n k h : Nat) (r : Req) (ops : List LaneAtom) (l : Line) {put : Dev → Line → Dev} (puts : ∀ s l, Steady s (put s l)) :
    Steady s (atomicHere s n k h r ops l put) := by
  unfold atomicHere
  dsimp only
  split
  · exact (traffic_takeHalf s k l h).steady.trans (steady_failReq _ _ _ _)
  · exact (puts _ _).trans (steady_deliverAtomic _ _ _ _ _ _)

theorem steady_serveHome (s : Dev) (n k : Nat) (r : Req) : Steady s (serveHome s n k r) := by
  unfold serveHome
  dsimp only
  split
  · split
    · have counted := ((traffic_countUnmapped s (64 * k)).trans (traffic_takeFree _)).steady
      split
      · exact counted.trans (steady_failReq _ _ _ _)
      · exact counted.trans (steady_deliver _ _ _ _ _)
    · exact (traffic_startFill s k).steady.trans (steady_enqueue _ _ _)
  · have access (write : Bool) := (traffic_homeAccess s k write).steady
    have hit (write : Bool) := (access write).trans (steady_bump _ (o := Reg.SHC_CNT_HITS) (by decide))
    cases kind : r.kind with
    | atomic ops =>
      dsimp only
      split
      · exact (access true).trans (steady_enqueue _ _ _)
      · split
        · exact access true
        · exact (hit true).trans ((steady_atomicHere _ _ _ _ _ _ _ (fun s l => (traffic_storeHomeLine s k l).steady)).trans (traffic_settleBypass _ _).steady)
    | _ =>
      dsimp only
      split
      · exact (access false).trans (steady_enqueue _ _ _)
      · split
        · exact access false
        · exact (hit false).trans ((traffic_takeHalf _ _ _ _).steady.trans ((steady_deliver _ _ _ _ _).trans (traffic_settleBypass _ _).steady))

theorem steady_askPeer (s : Dev) (k m : Nat) : Steady s (askPeer s k m) := by
  unfold askPeer
  dsimp only
  split
  · exact .refl s
  · have asked := ((traffic_nextReq s (s.nextReq + 1)).trans (traffic_sendCoh _ m (peerLine k) .read 0 (4 * s.nextReq + 3) none)).steady
    exact asked.trans (.of_regs rfl)

theorem steady_serveMember (s : Dev) (n k m : Nat) (r : Req) : Steady s (serveMember s n k m r) := by
  unfold serveMember
  dsimp only
  split
  · exact .refl s
  · split
    · exact steady_failReq _ _ _ _
    · split
      · split
        · exact steady_enqueue _ _ _
        · have marked : Steady s (markSent s n) := .of_regs rfl
          exact marked.trans (traffic_sendFab _ _ _ _ _ _).steady
      · split
        · exact steady_enqueue _ _ _
        · exact (steady_bump s (by decide)).trans ((traffic_takeHalf _ _ _ _).steady.trans (steady_deliver _ _ _ _ _))
      · exact (steady_bump s (by decide)).trans ((steady_askPeer _ _ _).trans (steady_enqueue _ _ _))

theorem steady_askRead (s : Dev) (k : Nat) (o : Out) : Steady s (askRead s k o) := by
  unfold askRead
  exact .ite (.refl s) (.of_regs rfl)

theorem steady_serveHost (s : Dev) (n k : Nat) (r : Req) : Steady s (serveHost s n k r) := by
  unfold serveHost
  dsimp only
  split
  · exact steady_failReq _ _ _ _
  · split
    · split
      · exact steady_atomicHere _ _ _ _ _ _ _ (fun s l => ((traffic_sendWake s k).trans (traffic_putLine _ _ _)).steady)
      · exact (traffic_askHostOwn k s true).steady.trans (steady_enqueue _ _ _)
    · exact (traffic_askHostOwn k s false).steady.trans (steady_enqueue _ _ _)
    · split
      · exact steady_enqueue _ _ _
      · exact (steady_bump s (by decide)).trans ((traffic_takeHalf _ _ _ _).steady.trans (steady_deliver _ _ _ _ _))
    · exact (steady_bump s (by decide)).trans ((steady_askRead _ _ _).trans (steady_enqueue _ _ _))

theorem steady_serveFar (s : Dev) (n k d : Nat) (r : Req) : Steady s (serveFar s n k d r) := by
  have marked : Steady s (markSent s n) := .of_regs rfl
  unfold serveFar
  dsimp only
  split
  · exact .refl s
  · split
    · exact steady_failReq _ _ _ _
    · split
      · exact marked.trans (traffic_sendFab _ _ _ _ _ _).steady
      · exact marked.trans (traffic_sendFab _ _ _ _ _ _).steady

theorem steady_serveIo (s : Dev) (n k b : Nat) (r : Req) : Steady s (serveIo s n k b r) := by
  unfold serveIo
  dsimp only
  split
  · exact steady_failReq _ _ _ _
  · split
    · exact .of_regs rfl
    · exact .of_regs rfl

theorem steady_serveReq (s : Dev) (n : Nat) : Steady s (serveReq s n) := by
  unfold serveReq
  dsimp only
  split
  · exact .refl s
  · split
    · exact .refl s
    · split
      · exact steady_serveHome _ _ _ _
      · exact steady_serveMember _ _ _ _ _
      · exact steady_serveHost _ _ _ _
      · exact steady_serveFar _ _ _ _ _
      · exact steady_serveIo _ _ _ _ _

/-! ### Writes of the cores (R188) -/

theorem steady_acceptOne (s : Dev) (core : Nat) (w : WbEntry) : Steady s (acceptOne s core w) := by
  unfold acceptOne
  dsimp only
  have accepted := (traffic_acceptWrite s w.sec w.mask w.data w.poison (match w.op with | some o => decide (o ≥ 16) | none => false) false).steady
  split
  · exact accepted.trans (.of_regs rfl)
  · exact accepted.trans (steady_enqueue _ _ _)
  · exact accepted.trans (.of_regs rfl)
  · exact accepted.trans (.of_regs rfl)

theorem steady_acceptOldest (s : Dev) (core : Nat) (line : Option Nat) : Steady s (acceptOldest s core line) := by
  unfold acceptOldest
  split
  · exact steady_acceptOne _ _ _
  · exact .refl s

/-! ### Requests of agents (R223 to R225) -/

theorem steady_sendGrant (s : Dev) (k : Nat) (r : CohReq) (withData : Bool) : Steady s (sendGrant s k r withData) := by
  unfold sendGrant
  dsimp only
  split
  · exact ((traffic_withOut s _).trans (traffic_countSent _ _)).steady
  · exact (traffic_sendCoh _ _ _ _ _ _ _).steady

theorem steady_dirRoom (s : Dev) (k : Nat) : Steady s (dirRoom s k).1 := by
  unfold dirRoom
  split
  · exact .refl s
  · split
    · exact (steady_bump s (by decide)).trans (traffic_startFree _ _).steady
    · exact .refl s

theorem steady_forwarded (s : Dev) (k : Nat) (t : Txn) (tell : Nat → CohOp) (third : Nat) :
    Steady s (bump (startTxn s k t tell third) Reg.SHC_CNT_FORWARDS) :=
  (traffic_startTxn s k t tell third).steady.trans (steady_bump _ (by decide))

theorem steady_granted (s : Dev) (k : Nat) (e : Option DirEntry) (r : CohReq) (withData : Bool) : Steady s (sendGrant (setEntry s k e) k r withData) :=
  (traffic_setEntry s k e).steady.trans (steady_sendGrant _ _ _ _)

theorem steady_serveAgent (s : Dev) (k : Nat) (r : CohReq) : Steady s (serveAgent s k r) := by
  unfold serveAgent
  split
  · exact (traffic_startFill s k).steady.trans (steady_enqueue _ _ _)
  · split
    · have room := steady_dirRoom s k
      dsimp only
      exact .ite (room.trans (steady_granted _ _ _ _ _)) (room.trans (steady_enqueue _ _ _))
    · next e _ =>
      dsimp only
      split
      · split
        · exact steady_granted _ _ _ _ _
        · exact .ite (steady_granted _ _ _ _ _) (steady_forwarded _ _ _ _ _)
      · split
        · exact steady_granted _ _ _ _ _
        · split
          · exact steady_forwarded _ _ _ _ _
          · exact .ite (traffic_startTxn _ _ _ _ _).steady (steady_forwarded _ _ _ _ _)
          · exact (traffic_startTxn _ _ _ _ _).steady

theorem steady_serveOne (s : Dev) (k : Nat) (r : CohReq) : Steady s (serveOne s k r) := by
  unfold serveOne
  exact .ite (steady_serveReq _ _) (.ite (steady_acceptOldest _ _ _) (steady_serveAgent _ _ _))

theorem steady_serveQueueN (f : Nat) (s : Dev) (k : Nat) : Steady s (serveQueueN s k f) := by
  induction f generalizing s with
  | zero => exact .refl s
  | succ f ih =>
    unfold serveQueueN
    split
    · exact .refl s
    · split
      · exact .of_regs rfl
      · next r q _ =>
        have taken : Steady s { s with shore := { s.shore with queue := tset s.shore.queue k q } } := .of_regs rfl
        exact taken.trans ((steady_serveOne _ _ _).trans (ih _))

theorem steady_serveQueue (s : Dev) (k : Nat) : Steady s (serveQueue s k) := steady_serveQueueN _ s k

/-! ### Fills, transactions and answers (R210, R223) -/

theorem steady_tryFinishFill (s : Dev) (k : Nat) : Steady s (tryFinishFill s k) := by
  unfold tryFinishFill
  split
  · next lo hi _ =>
    have finished := (traffic_finishFill s k lo hi).steady
    dsimp only
    exact .ite (finished.trans ((steady_serveQueue _ _).trans (traffic_settleBypass _ _).steady)) finished
  · exact .refl s

theorem steady_afterFree (s : Dev) (k : Nat) : Steady s (afterFree s k) := by
  unfold afterFree
  refine (Steady.foldl (fun t a => steady_tryFinishFill t a) _ s).trans (Steady.foldl (fun t q => ?_) _ _)
  exact .ite (steady_serveQueue t q) (.refl t)

theorem steady_finishTxn (s : Dev) (k : Nat) (t : Txn) : Steady s (finishTxn s k t) := by
  have begun : Steady s { s with shore := { s.shore with txn := tdel s.shore.txn k } } := .of_regs rfl
  unfold finishTxn
  dsimp only
  refine (begun.trans (traffic_setEntry _ k t.next).steady).trans ?_
  obtain ⟨u, isU⟩ : ∃ u, u = setEntry { s with shore := { s.shore with txn := tdel s.shore.txn k } } k t.next := ⟨_, rfl⟩
  rw [← isU]
  have granted (v : Dev) : Steady v (match t.req with
      | some r => if t.served then v else sendGrant v k r (r.kind != 2)
      | none => v) := by
    split
    · exact .ite (.refl v) (steady_sendGrant _ _ _ _)
    · exact .refl v
  have served := (granted u).trans (steady_serveQueue _ k)
  exact .ite (served.trans (steady_afterFree _ k)) served

theorem steady_homeTakes (s : Dev) (k : Nat) (d : LineData) : Steady s (homeTakes s k d) := by
  unfold homeTakes
  split
  · exact (traffic_storeHomeLine _ _ _).steady
  · exact (traffic_queueWrite _ _).steady

theorem steady_answerTxn (s : Dev) (k agent : Nat) (data : Option LineData) (served : Bool) : Steady s (answerTxn s k agent data served) := by
  unfold answerTxn
  split
  · exact .refl s
  · next t _ =>
    split
    · exact .refl s
    · have put (v : Dev) (u : Txn) : Steady v { v with shore := { v.shore with txn := tset v.shore.txn k u } } := .of_regs rfl
      cases data with
      | none =>
        dsimp only
        split
        · exact (put _ _).trans (steady_finishTxn _ _ _)
        · exact put _ _
      | some d =>
        refine (steady_homeTakes s k d).trans ?_
        dsimp only
        split
        · exact (put _ _).trans (steady_finishTxn _ _ _)
        · exact put _ _

/-! ### Reclaiming an agent's lines (R228) -/

theorem steady_poisonLost (s : Dev) (k : Nat) : Steady s (poisonLost s k) := by
  have put : Steady s (match lineAt s k with
      | some l => putLine s k { l with poison := 3, uncorr := 0 }
      | none => s) := by
    split
    · exact (traffic_putLine _ _ _).steady
    · exact .refl s
  unfold poisonLost
  exact put.trans ((traffic_queueWrite _ _).steady.trans (steady_bump _ (by decide)))

/-- A line is lost with an agent that held it dirty. -/
def lostWith (s : Dev) (a k : Nat) : Bool :=
  match dirAt s k with
  | some e => e.state == .dirty && holderOf e == a
  | none => false

/-- The requests of an agent that is gone leave the queue of a line. -/
def dropAsked (s : Dev) (a k : Nat) : Dev :=
  let q := (tgetD s.shore.queue k []).filter (fun r => r.agent != a)
  { s with shore := { s.shore with queue := if q.isEmpty then tdel s.shore.queue k else tset s.shore.queue k q } }

/-- What the reclaiming of a line does once its loss is marked and the agent's requests are gone. -/
def reclaimHeld (s : Dev) (lost : Bool) (a k : Nat) : Dev × Bool :=
  match tget s.shore.txn k with
  | none =>
    (match dirAt s k with
     | some e =>
       if (agentsOf e).contains a then
         (let s := setEntry s k (reclaimEntry e a)
          (if (dirAt s k).isNone then afterFree (serveQueue s k) k else s, lost))
       else (s, lost)
     | none => (s, lost))
  | some t =>
    let mine := match t.req with
      | some r => r.agent == a
      | none => false
    let t' := { t with req := if mine then none else t.req, next := t.next.bind (fun e => reclaimEntry e a) }
    let s := { s with shore := { s.shore with txn := tset s.shore.txn k t' } }
    (answerTxn s k a none false, lost)

theorem reclaimLine_eq (s : Dev) (a k : Nat) :
    reclaimLine s a k = reclaimHeld (dropAsked (if lostWith s a k then poisonLost s k else s) a k) (lostWith s a k) a k := rfl

theorem steady_reclaimHeld (s : Dev) (lost : Bool) (a k : Nat) : Steady s (reclaimHeld s lost a k).1 := by
  have put (v : Dev) (x : Txn) : Steady v { v with shore := { v.shore with txn := tset v.shore.txn k x } } := .of_regs rfl
  unfold reclaimHeld
  dsimp only
  split
  · split
    · next e _ =>
      split
      · refine (traffic_setEntry s k (reclaimEntry e a)).steady.trans ?_
        exact .ite ((steady_serveQueue _ _).trans (steady_afterFree _ _)) (.refl _)
      · exact .refl _
    · exact .refl _
  · refine Steady.trans ?_ (steady_answerTxn _ k a none false)
    exact put s _

theorem steady_reclaimLine (s : Dev) (a k : Nat) : Steady s (reclaimLine s a k).1 := by
  rw [reclaimLine_eq]
  have marked : Steady s (if lostWith s a k = true then poisonLost s k else s) := .ite (steady_poisonLost s k) (.refl s)
  have asked (v : Dev) : Steady v (dropAsked v a k) := .of_regs rfl
  exact (marked.trans (asked _)).trans (steady_reclaimHeld _ _ _ _)

theorem steady_reclaimAgent (s : Dev) (a : Nat) : Steady s (reclaimAgent s a).1 := by
  unfold reclaimAgent
  dsimp only
  refine Steady.trans ?_ (steady_bump _ (by decide))
  exact List.foldlRecOn (motive := fun p : Dev × List Nat => Steady s p.1) _ _ (.refl s) (fun p before k _ => before.trans (steady_reclaimLine p.1 a k))

/-! ### Accesses that await what has departed (R206) -/

theorem steady_modCore (s : Dev) (c : Nat) (f : Core → Core) : Steady s (modCore s c f) := .of_regs rfl

theorem steady_endAccesses (s : Dev) (hit : Nat → Bool) : Steady s (endAccesses s hit) := by
  have released (v : Dev) : Steady v (failReleases v) := .of_regs rfl
  obtain ⟨u, isU⟩ : ∃ u, u = (s.net.filter (fun p => hit (32 * p.2.sec))).foldl (fun s p => failReq s p.1 p.2 ePeerGone) s := ⟨_, rfl⟩
  obtain ⟨v, isV⟩ : ∃ v, v = (tkeys u.cores).foldl (fun s c => modCore s c (fun x =>
    (x.wb.filter (fun w => hit (32 * w.sec))).foldl (fun x w => loseWrite { x with wb := x.wb.erase w } w ePeerGone) x)) u := ⟨_, rfl⟩
  have first : Steady s u := isU ▸ Steady.foldl (fun t (p : Nat × Req) => steady_failReq t p.1 p.2 ePeerGone) _ s
  have second : Steady u v := isV ▸ Steady.foldl (fun t c => steady_modCore t c _) _ u
  refine (first.trans second).trans ?_
  unfold endAccesses
  dsimp only
  rw [← isU, ← isV]
  obtain ⟨w, isW⟩ : ∃ w, w = (v.shore.lines.filter (fun p => hit (64 * p.1) && p.2.hold == .pending)).foldl (fun s p => dropLine s p.1) v := ⟨_, rfl⟩
  have third : Steady v w := isW ▸ Steady.foldl (fun t (p : Nat × Line) => (traffic_dropLine t p.1).steady) _ v
  rw [← isW]
  refine third.trans ?_
  split
  · exact (traffic_withShore _ _).steady
  · exact (traffic_withShore _ _).steady.trans (released _)

/-! ### Completions, collectives and multicasts (R358, R359, R363) -/

theorem OnlyLog.steady {s t : Dev} (h : OnlyLog s t) : Steady s t := h.traffic.steady

theorem steady_endCmd (s : Dev) (sp : CmdSpec) (x : Ctx) (r : Ret) : Steady s (endCmd s sp x r) := by
  unfold endCmd
  dsimp only
  refine Steady.trans ?_ (.of_regs (answerCmd_regs _ _ _ _))
  exact .ite (onlyLog_logAdd _ _ _ _ _ _ _ _ _).steady (.refl s)

theorem steady_completeKey (s : Dev) (key : Nat) (r : Ret) : Steady s (completeKey s key r) := by
  unfold completeKey
  split
  · exact .refl s
  · split
    · exact steady_endCmd _ _ _ _
    · exact .refl s

theorem shownRegs_elsewhere : ∀ o ∈ shownRegs, o < 0x150600 ∨ (0x150800 ≤ o ∧ o < 0x190048) ∨ 0x190048 < o := by decide

theorem steady_endReason (s : Dev) (r unit : Nat) : Steady s (endReason s r unit) := by
  intro o named
  have shc : o ≠ 0x150000 := by
    unfold EpochReg at named
    omega
  exact (told_endReason s r unit (List.Subset.refl shownRegs)).regs o (fun shown => Elsewhere.ne (shownRegs_elsewhere o shown) named rfl) shc

theorem steady_endPacing (s : Dev) (inst : Nat) : Steady s (endPacing s inst) := by
  unfold endPacing
  exact (Steady.foldl (fun t i => steady_endReason t 6 i) _ s).trans (steady_fset _ _ _ (by decide))

theorem steady_endColl (s : Dev) (h status flags : Nat) : Steady s (endColl s h status flags) := by
  unfold endColl
  split
  · exact .refl s
  · split
    · exact .refl s
    · dsimp only
      refine Steady.trans ?_ (steady_completeKey _ _ _)
      exact .ite (Steady.trans (.of_regs rfl) (steady_endPacing _ _)) (.of_regs rfl)

theorem steady_sendRank (s : Dev) (c : Comm) (r : Nat) (b : FabBody) : Steady s (sendRank s c r b) := (traffic_sendFab _ _ _ _ _ _).steady

theorem steady_failColl (s : Dev) (h code : Nat) : Steady s (failColl s h code) := by
  unfold failColl
  split
  · exact .refl s
  · next c _ =>
    split
    · exact .refl s
    · next y rest _ =>
      dsimp only
      have down (b : FabBody) := Steady.foldl (fun t r => steady_sendRank t c r b) (childRanks c.ranks.length c.rank) s
      refine Steady.trans ?_ (steady_endColl _ _ _ _)
      exact .ite (down _) ((down _).trans (steady_sendRank _ _ _ _))

theorem steady_departColls (s : Dev) (d : Nat) : Steady s (departColls s d) := by
  unfold departColls
  exact Steady.foldl (fun t (p : Nat × Comm) => Steady.foldl (fun u _ => steady_failColl u p.1 ePeerGone) _ t) _ s

theorem steady_missTarget (s : Dev) (n t : Nat) : Steady s (missTarget s n t) := by
  unfold missTarget
  split
  · exact .ite (.refl s) (Steady.trans (.of_regs rfl) (steady_bump _ (by decide)))
  · exact .refl s

theorem steady_finishMcast (s : Dev) (n : Nat) : Steady s (finishMcast s n) := by
  unfold finishMcast
  split
  · exact .refl s
  · dsimp only
    exact .ite (.refl s) (Steady.trans (.of_regs rfl) (steady_completeKey _ _ _))

theorem steady_departMcast (s : Dev) (d : Nat) : Steady s (departMcast s d) := by
  unfold departMcast
  refine Steady.foldl (fun t n => ?_) _ s
  split
  · refine Steady.trans (Steady.foldl (fun u p => ?_) _ t) (steady_finishMcast _ n)
    exact .ite (steady_missTarget _ _ _) (.refl u)
  · exact .refl t

theorem steady_returnPeerLines (s : Dev) (d : Nat) : Steady s (returnPeerLines s d) := by
  unfold returnPeerLines
  exact Steady.foldl (fun t (p : Nat × Line) => (traffic_evictLine t p.1 p.2).steady) _ s

end Sys2Proof.Machine
end

section
/-!
The command by which a member leaves an archipelago in order (R355).
-/
namespace Sys2Proof.Machine

/-! ### A departure (R355) -/

/-- What a departure does to the epochs, the count of departures and the members' table. -/
structure Departed (idx : Nat) (s t : Dev) : Prop where
  gone : fget t (RF.SHC_EPOCH_VALID idx) = 0
  count : regRead t Reg.FAB_CNT_DEPARTS = (regRead s Reg.FAB_CNT_DEPARTS + 1) % 2 ^ 64
  member : tget t.fab.members idx = none

theorem epochReg_epoch {idx : Nat} (known : idx < 64) : EpochReg (Reg.SHC_EPOCH idx) := by
  have place : Reg.SHC_EPOCH idx = 0x150600 + 8 * idx := rfl
  unfold EpochReg
  omega

theorem Steady.epochField {s t : Dev} (h : Steady s t) {idx : Nat} (known : idx < 64) {f : Fld} (own : f.off = Reg.SHC_EPOCH idx) : fget t f = fget s f :=
  congrArg (fun v => bitsOf v f.lo f.width) (h f.off (own ▸ epochReg_epoch known))

theorem Steady.departs {s t : Dev} (h : Steady s t) : regRead t Reg.FAB_CNT_DEPARTS = regRead s Reg.FAB_CNT_DEPARTS := h _ (.inr rfl)

theorem steady_showMembers (s : Dev) : Steady s (showMembers s) := steady_fset _ _ _ (by decide)

/-- What remains to be done once a member's accesses, collectives and multicasts have ended. -/
theorem departed_of_ended {idx : Nat} (known : idx < 64) {s u y : Dev} (marked : u = fset s (RF.SHC_EPOCH_VALID idx) 0) (steady : Steady u y)
    {t : Dev} (left : ∃ object old new,
      t = logFw (showMembers (bump { y with fab := { y.fab with members := tdel y.fab.members idx } } Reg.FAB_CNT_DEPARTS)) 6 object old new) :
    Departed idx s t := by
  obtain ⟨object, old, new, left⟩ := left
  obtain ⟨m, isM⟩ : ∃ m, m = { y with fab := { y.fab with members := tdel y.fab.members idx } } := ⟨_, rfl⟩
  rw [← isM] at left
  have place : Reg.SHC_EPOCH idx = 0x150600 + 8 * idx := rfl
  have logged : OnlyLog (showMembers (bump m Reg.FAB_CNT_DEPARTS)) t := left ▸ onlyLog_logFw _ _ _ _ _
  have told : Steady (bump m Reg.FAB_CNT_DEPARTS) t := (steady_showMembers _).trans logged.steady
  have held : Steady u m := steady.trans (isM ▸ .of_regs rfl)
  refine ⟨?_, ?_, ?_⟩
  · have counted : fget (bump m Reg.FAB_CNT_DEPARTS) (RF.SHC_EPOCH_VALID idx) = fget m (RF.SHC_EPOCH_VALID idx) := by
      refine fget_bump_other _ _ _ ?_
      show Reg.SHC_EPOCH idx ≠ 0x190048
      omega
    rw [told.epochField known rfl, counted, held.epochField known rfl, marked]
    exact fget_fset_same _ _ _ (Nat.le_of_ble_eq_true rfl)
  · have unmarked : regRead u Reg.FAB_CNT_DEPARTS = regRead s Reg.FAB_CNT_DEPARTS := by
      rw [marked]
      refine regRead_fset_other _ _ _ _ ?_
      show 0x190048 ≠ Reg.SHC_EPOCH idx
      omega
    rw [told.departs, regRead_bump_same, held.departs, unmarked]
  · have table : t.fab.members = m.fab.members := by
      rw [logged.rest]
      rfl
    rw [table, isM]
    exact tget_tdel_same _ _

/-- A member that is admitted departs. -/
theorem departed_departMember {idx : Nat} (known : idx < 64) {s : Dev} (valid : fget s (RF.SHC_EPOCH_VALID idx) ≠ 0) : Departed idx s (departMember s idx) := by
  obtain ⟨u, isU⟩ : ∃ u, u = fset s (RF.SHC_EPOCH_VALID idx) 0 := ⟨_, rfl⟩
  obtain ⟨v, isV⟩ : ∃ v, v = (if fabReach u (fget s (RF.SHC_EPOCH_DEVICE idx)) then
    routeMsg u (mkMsg s (fget s (RF.SHC_EPOCH_DEVICE idx)) 0 0 false .depart) else u) := ⟨_, rfl⟩
  obtain ⟨w, isW⟩ : ∃ w, w = endAccesses (reclaimAgent v idx).1 (atDevice (fget s (RF.SHC_EPOCH_DEVICE idx))) := ⟨_, rfl⟩
  obtain ⟨y, isY⟩ : ∃ y, y = departMcast (departColls w (fget s (RF.SHC_EPOCH_DEVICE idx))) (fget s (RF.SHC_EPOCH_DEVICE idx)) := ⟨_, rfl⟩
  have first : Steady u v := isV ▸ .ite (routeMsg_sends _ _).1.traffic.steady (.refl u)
  have second : Steady v w := isW ▸ (steady_reclaimAgent v idx).trans (steady_endAccesses _ _)
  have third : Steady w y := isY ▸ (steady_departColls w _).trans (steady_departMcast _ _)
  refine departed_of_ended known isU (first.trans (second.trans third)) ?_
  unfold departMember
  rw [if_neg valid]
  dsimp only
  rw [← isU, ← isV, ← isW, ← isY]
  exact ⟨_, _, _, rfl⟩

/-- FAB_ARCH_SET with OP 1 (R355). -/
theorem exec_fabArchDepart {s : State} {c : Cmd} {x : Ctx} {arch idx dev : Nat} {s1 : Dev} (admits : Admits s.dev 0x72 c x) (isArch : arch = eb x.e 16 2)
    (isIdx : idx = eb x.e 18 1) (isDev : dev = eb x.e 20 2) (small : idx ≤ 63) (op : eb x.e 19 1 = 1) (valid : fget s.dev (RF.SHC_EPOCH_VALID idx) = 1)
    (device : fget s.dev (RF.SHC_EPOCH_DEVICE idx) = dev) (same : fget s.dev RF.FAB_STATUS_ARCH_ID = arch)
    (isS1 : s1 = departMember (returnPeerLines s.dev dev) idx) (free : s1.blocked = []) (store : s1.fe.store = s.dev.fe.store) :
    ∃ t, exec (.fabArchDepart c) s = .next t ∧ Completes s1 t.dev x Ret.ok ∧ fget t.dev (RF.SHC_EPOCH_VALID idx) = 0
      ∧ tget t.dev.fab.members idx = none
      ∧ regRead t.dev Reg.FAB_CNT_DEPARTS = (regRead s.dev Reg.FAB_CNT_DEPARTS + 1) % 2 ^ 64
      ∧ SameMem s1 t.dev ∧ OnlyCmd [] { s with dev := s1 } t x s1 := by
  have first : otherOp 19 1 c s.dev 0x72 = false := otherOp_own admits (by rw [op])
  have known : idx < 64 := by omega
  have returned := steady_returnPeerLines s.dev dev
  have departed : Departed idx (returnPeerLines s.dev dev) s1 := by
    rw [isS1]
    refine departed_departMember known ?_
    rw [returned.epochField known rfl, valid]
    decide
  have ends : ∃ t, exec (.fabArchDepart c) s = .next { s with dev := t } ∧ Ended s1 s1 t x Ret.ok := by
    refine ⟨?_, ?run, ?ends⟩
    case run =>
      show execFabArchDepart c s = _
      unfold execFabArchDepart
      rw [perform_eq, if_neg (by rw [first]; decide)]
    refine command_ends_over rfl admits (by decide) ((afterChecks_pass ?_ _).trans ?_) free ?_
    · rw [← isIdx, ← isDev, ← isArch, valid, device, same]
      simp [small]
    · rw [← isIdx, ← isDev, ← isS1]
    · intro ring
      have found := stored_of_admits admits ring
      unfold storeAt at found ⊢
      rwa [store]
  obtain ⟨t, ran, ended⟩ := ends
  obtain ⟨gone, count, member⟩ := departed
  refine ⟨_, ran, ended.completes, ?_, ?_, ?_, ended.mem, Ended.onlyCmd (s := { s with dev := s1 }) ended ended.shape (fun _ _ _ => rfl)⟩
  · have place : (RF.SHC_EPOCH_VALID idx).off = 0x150600 + 8 * idx := rfl
    exact (ended.fget (by omega) (by omega)).trans gone
  · have table : t.fab = s1.fab := by rw [ended.shape]
    show tget t.fab.members idx = none
    rw [table, member]
  · rw [ended.regs _ (by decide) (by decide), count, returned.departs]

end Sys2Proof.Machine
end

section
/-!
The commands that begin a multicast and a collective (R357, R361).
-/
namespace Sys2Proof.Machine

/-! ### What follows a command that has begun -/

section
variable {s : State} {op : Nat} {c : Cmd} {x : Ctx} {sp : CmdSpec} {f : Ctx → Dev → Dev × CmdRes} {u : Dev}

/-- An admitted command that goes on later is begun, and nothing else. -/
theorem command_later (row : specOf op = some sp) (admits : Admits s.dev op c x) (ran : f x s.dev = (u, .later)) (free : u.blocked = []) :
    command op c s.dev f = beginCmd u x := by
  obtain ⟨runs, head, ring⟩ := command_of_admits row admits f
  have unblocked : (beginCmd u x).blocked = [] := by rw [beginCmd_rest, free]
  rw [runs, runCmd, whole_of_unblocked]
  all_goals simp only [head, ring, ran, unblocked, ne_eq, not_true_eq_false, if_false]

/-- What is done after a command has begun leaves it begun, where it leaves the front end. -/
theorem begun_beginCmd {w : Dev} (admits : Admits s.dev op c x) (store : u.fe.store = s.dev.fe.store) (rings : u.fe.rings = s.dev.fe.rings)
    (fe : w.fe = (beginCmd u x).fe) : Begun s.dev w (finish w) x := by
  obtain ⟨context, -⟩ := admits
  have wholeFe : (finish w).fe = (beginCmd u x).fe := (finish_fe w).trans fe
  refine ⟨?_, sameMem_finish rfl, ?_, ?_, ?_, ?_⟩
  · obtain ⟨dram, regs, closed⟩ := finish_rest w
    exact ⟨w.fe.store, dram, regs, closed⟩
  · intro o _ shc
    exact regRead_finish _ _ shc
  · obtain ⟨e, member, key, entry, phase⟩ := begins_beginCmd context store
    exact ⟨e, by rw [wholeFe]; exact member, key, entry, phase⟩
  · intro k _
    unfold ringAt
    rw [wholeFe, beginCmd_rest, rings]
  · rw [wholeFe]
    exact others_beginCmd context store

end

/-! ### Segments (R357) -/

/-- The segment that a multicast sends to a target, as a message. -/
def segMsg (s : Dev) (n t k : Nat) (o : McastOp) (g : McastTarget) : FabMsg :=
  mkMsg s (g.base / 2 ^ 42) (segTag n t k) ((g.base + o.off) % 2 ^ 42 + 4096 * k) o.poison (.segment (segBytes o k))

theorem sendSegment_far {v : Dev} {n t : Nat} {o : McastOp} {g : McastTarget} (op : tget v.fab.sends n = some o) (target : o.targets[t]? = some g)
    (awaited : g.missed = false) (far : ownDevice v (g.base / 2 ^ 42) = false) (reach : fabReach v (g.base / 2 ^ 42) = true) (k : Nat) :
    sendSegment v n t k = routeMsg v (segMsg v n t k o g) := by
  unfold sendSegment
  rw [op]
  dsimp only
  rw [target]
  dsimp only
  rw [if_neg (by simp [awaited]), if_neg (by rw [far]; decide), if_pos reach]
  rfl

/-- What a multicast needs of the module while its segments go out. -/
structure Sending (n : Nat) (o : McastOp) (v : Dev) : Prop where
  op : tget v.fab.sends n = some o
  targets : ∀ g ∈ o.targets, g.missed = false ∧ ownDevice v (g.base / 2 ^ 42) = false ∧ fabReach v (g.base / 2 ^ 42) = true

theorem OnlySent.ownDevice {s t : Dev} (h : OnlySent s t) (d : Nat) : ownDevice t d = Machine.ownDevice s d := by
  unfold Machine.ownDevice
  rw [h.fget (f := RF.FAB_STATUS_DEVICE_VALID) (by decide) (by decide), h.fget (f := RF.FAB_STATUS_DEVICE) (by decide) (by decide)]

theorem OnlySent.fabReach {s t : Dev} (h : OnlySent s t) (d : Nat) : fabReach t d = Machine.fabReach s d := by
  have routes : t.fab.routes = s.fab.routes := by
    rw [h.rest]
    rfl
  unfold Machine.fabReach
  rw [routes, h.fget (f := RF.FAB_STATUS_PORTS_UP) (by decide) (by decide)]

theorem Sending.sent {n : Nat} {o : McastOp} {v w : Dev} (sending : Sending n o v) (h : OnlySent v w) : Sending n o w := by
  have sends : w.fab.sends = v.fab.sends := by
    rw [h.rest]
    rfl
  refine ⟨by rw [sends, sending.op], fun g member => ?_⟩
  obtain ⟨waits, far, reach⟩ := sending.targets g member
  exact ⟨waits, (h.ownDevice _).trans far, (h.fabReach _).trans reach⟩

theorem onlySent_sendSegment {n : Nat} {o : McastOp} {v : Dev} (sending : Sending n o v) {t : Nat} (inside : t < o.targets.length) (k : Nat) :
    OnlySent v (sendSegment v n t k) := by
  have target : o.targets[t]? = some o.targets[t] := List.getElem?_eq_getElem inside
  obtain ⟨waits, far, reach⟩ := sending.targets _ (List.getElem_mem inside)
  rw [sendSegment_far sending.op target waits far reach]
  exact (routeMsg_sends _ _).1

/-- Every segment goes to every target. -/
def sendAll (v : Dev) (n : Nat) (o : McastOp) : Dev :=
  (List.range o.targets.length).foldl (fun s t => (List.range (segCount o)).foldl (fun s k => sendSegment s n t k) s) v

theorem onlySent_sendAll {n : Nat} {o : McastOp} {v : Dev} (sending : Sending n o v) : OnlySent v (sendAll v n o) := by
  refine List.foldlRecOn (motive := fun w => OnlySent v w) _ _ (.refl v) (fun w sent t member => ?_)
  refine List.foldlRecOn (motive := fun z => OnlySent v z) _ _ sent (fun z sent' k _ => ?_)
  exact sent'.trans (onlySent_sendSegment (sending.sent sent') (List.mem_range.mp member) k)

/-- A multicast of which a target has acknowledged nothing goes on. -/
theorem finishMcast_waits {n : Nat} {o : McastOp} {v : Dev} (op : tget v.fab.sends n = some o) {g : McastTarget} (member : g ∈ o.targets)
    (awaited : g.missed = false) (silent : g.acked = []) (some' : o.data ≠ []) : finishMcast v n = v := by
  have parts : 0 < segCount o := by
    have length := List.length_pos_iff.mpr some'
    unfold segCount ceilDiv
    omega
  have owed : (g.missed || delivered o g) = false := by
    unfold delivered
    rw [awaited, silent, List.length_nil]
    simp [Nat.pos_iff_ne_zero.mp parts]
  have waits : o.targets.all (fun g => g.missed || delivered o g) = false := List.all_eq_false.mpr ⟨g, member, by rw [owed]; decide⟩
  unfold finishMcast
  rw [op]
  dsimp only
  rw [if_pos (by rw [waits]; decide)]

/-- A multicast of one segment to one target is one message. -/
theorem sendAll_single {n : Nat} {o : McastOp} {v : Dev} (sending : Sending n o v) {g : McastTarget} (only : o.targets = [g]) (one : segCount o = 1) :
    sendAll v n o = routeMsg v (segMsg v n 0 0 o g) := by
  have target : o.targets[0]? = some g := by rw [only]; rfl
  obtain ⟨waits, far, reach⟩ := sending.targets g (by rw [only]; exact List.mem_singleton_self g)
  have alone : sendAll v n o = sendSegment v n 0 0 := by
    unfold sendAll
    rw [only, one]
    rfl
  rw [alone, sendSegment_far sending.op target waits far reach]

/-! ### MCAST_SEND (R357) -/

section
variable {s : State} {c : Cmd} {x : Ctx}

/-- The multicast that MCAST_SEND begins. -/
def namedMcast (x : Ctx) (data : List Byte) (code : Nat) (l : List Nat) : McastOp :=
  { cmd := x.key, inst := x.inst, off := eb x.e 40 8, data := data, poison := badData code, targets := l.map (fun b => ⟨b, [], [], 0, none, false⟩) }

/-- A module that has begun a multicast. -/
def withMcast (s : Dev) (n : Nat) (o : McastOp) : Dev := { s with fab := { s.fab with sends := tset s.fab.sends n o, nextSend := n + 1 } }

theorem exec_mcastSend {n bytes code : Nat} {s1 s2 : Dev} {data : List Byte} {l : List Nat} (admits : Admits s.dev 0x76 c x) (live : x.replay = false)
    (isN : n = s.dev.fab.nextSend) (isBytes : bytes = eb x.e 32 4) (some' : 1 ≤ bytes) (within : bytes ≤ 16777216)
    (group : tget s.dev.fab.groups (256 * x.inst + eb x.e 16 1) = some l) (targets : l ≠ [])
    (checked : vaCheck s.dev x.inst (eb x.e 24 8) bytes 0 = (s1, 0)) (read : vaRead s1 x.inst (eb x.e 24 8) bytes = (s2, data, code))
    (full : bytes ≤ data.length) (free : s2.blocked = []) (fe : s2.fe = s.dev.fe)
    (far : ∀ b ∈ l, ownDevice s2 (b / 2 ^ 42) = false ∧ fabReach s2 (b / 2 ^ 42) = true) :
    ∃ (t : State) (o : McastOp), exec (.mcastSend c) s = .next t ∧ SameMem s2 t.dev ∧ Begins t.dev x ∧ tget t.dev.fab.sends n = some o ∧ o.cmd = x.key
      ∧ o.inst = x.inst ∧ o.off = eb x.e 40 8 ∧ o.data = data ∧ o.targets = l.map (fun b => ⟨b, [], [], 0, none, false⟩)
      ∧ (∀ b, l = List.cons b [] → bytes = data.length → bytes ≤ 4096 →
          Sends s2 t.dev (mkMsg s2 (b / 2 ^ 42) (segTag n 0 0) ((b + o.off) % 2 ^ 42) o.poison (.segment data)))
      ∧ OnlyCmd txRegs { s with dev := s2 } t x
          { s2 with fab := { fabSent t.dev s2.fab with sends := t.dev.fab.sends, nextSend := n + 1 } } := by
  obtain ⟨o, isO⟩ : ∃ o, o = namedMcast x data code l := ⟨_, rfl⟩
  obtain ⟨u, isU⟩ : ∃ u, u = withMcast s2 n o := ⟨_, rfl⟩
  obtain ⟨v, isV⟩ : ∃ v, v = beginCmd u x := ⟨_, rfl⟩
  have vRest : ∃ store, v = { withMcast s2 n o with fe := { s2.fe with store := store } } := by
    rw [isV, beginCmd_rest, isU]
    exact ⟨_, rfl⟩
  obtain ⟨store, vRest⟩ := vRest
  have filled : data ≠ [] := by
    intro empty
    rw [empty, List.length_nil] at full
    omega
  have op : tget v.fab.sends n = some o := by
    rw [vRest]
    exact tget_tset_same _ _ _
  have sending : Sending n o v := by
    refine ⟨op, fun g member => ?_⟩
    rw [isO] at member
    obtain ⟨b, inside, rfl⟩ := List.mem_map.mp member
    rw [vRest]
    exact ⟨rfl, far b inside⟩
  obtain ⟨b0, first⟩ := List.exists_mem_of_ne_nil l targets
  have waits (w : Dev) (still : tget w.fab.sends n = some o) : finishMcast w n = w := by
    refine finishMcast_waits (g := ⟨b0, [], [], 0, none, false⟩) still ?_ rfl rfl (by rw [isO]; exact filled)
    rw [isO]
    exact List.mem_map.mpr ⟨b0, first, rfl⟩
  have sent : OnlySent v (sendAll v n o) := onlySent_sendAll sending
  have after : ∃ f : Ctx → Dev → Dev × CmdRes, exec (.mcastSend c) s = .next { s with dev := finish (match tget (command 0x76 c s.dev f).fab.sends n with
        | none => command 0x76 c s.dev f
        | some o => finishMcast (sendAll (command 0x76 c s.dev f) n o) n) }
      ∧ command 0x76 c s.dev f = v := by
    refine ⟨?_, ?run, ?begun⟩
    case run =>
      rw [isN]
      rfl
    rw [isV]
    refine command_later rfl admits ?_ (by rw [isU]; exact free)
    unfold fromRecord
    rw [if_pos (by simp [live])]
    dsimp only
    rw [group]
    dsimp only
    rw [← isBytes, if_neg (by omega), checked]
    dsimp only
    rw [if_neg (not_not_intro rfl), read]
    dsimp only
    rw [if_neg (by omega), isU, isO, isN]
    rfl
  obtain ⟨f, ran, begun⟩ := after
  rw [begun, op] at ran
  dsimp only at ran
  rw [waits _ (sending.sent sent).op] at ran
  have fromS2 : SameRegsBut txRegs s2 (sendAll v n o) := by
    intro r others shc
    rw [sent.regs r others shc, vRest]
    rfl
  have wFe : (sendAll v n o).fe = v.fe := by rw [sent.rest]
  have heard : ∀ b, l = List.cons b [] → bytes = data.length → bytes ≤ 4096 →
      Sends s2 (sendAll v n o) (mkMsg s2 (b / 2 ^ 42) (segTag n 0 0) ((b + o.off) % 2 ^ 42) o.poison (.segment data)) := by
    intro b single length short
    have count : segCount o = 1 := by
      unfold segCount ceilDiv
      rw [isO]
      show (data.length + 4096 - 1) / 4096 = 1
      omega
    have whole' : segBytes o 0 = data := by
      unfold segBytes
      rw [isO]
      exact List.take_of_length_le (by show data.length ≤ 4096; omega)
    rw [sendAll_single sending (g := ⟨b, [], [], 0, none, false⟩) (by rw [isO, single]; rfl) count]
    have out := (routeMsg_sends v (segMsg v n 0 0 o ⟨b, [], [], 0, none, false⟩)).2
    unfold segMsg at out ⊢
    rw [whole', Nat.mul_zero, Nat.add_zero] at out ⊢
    rw [vRest] at out ⊢
    exact out
  obtain ⟨w, isW⟩ : ∃ w, w = sendAll v n o := ⟨_, rfl⟩
  rw [← isW] at ran sent fromS2 wFe heard
  have begun : Begun s2 w (finish w) x := by
    refine (begun_beginCmd (u := u) admits ?_ ?_ (by rw [wFe, isV])).over (by rw [fe]) (by rw [fe])
    · rw [isU, ← fe]
      rfl
    · rw [isU, ← fe]
      rfl
  have sends : w.fab.sends = tset s2.fab.sends n o := by
    rw [sent.rest, vRest]
    rfl
  obtain ⟨z, isZ⟩ : ∃ z, z = finish w := ⟨_, rfl⟩
  rw [← isZ] at ran begun
  have zFab : z.fab = w.fab := by rw [isZ]; rfl
  have zOut : z.out = w.out := by rw [isZ]; rfl
  refine ⟨_, o, ran, (sameMem_of_dram ?_).trans begun.mem, begun.begins, ?_, by rw [isO]; rfl, by rw [isO]; rfl, by rw [isO]; rfl, by rw [isO]; rfl,
    by rw [isO]; rfl, fun b single length short => (heard b single length short).followed zOut zFab,
    Begun.onlyCmd (s := { s with dev := s2 }) begun ?_ fromS2⟩
  · rw [sent.rest, vRest]
    rfl
  · show tget z.fab.sends n = _
    rw [zFab, sends, tget_tset_same]
  · show SameButAnswer { s2 with fab := { fabSent z s2.fab with sends := z.fab.sends, nextSend := n + 1 } } z
    have fabW : ({ fabSent z s2.fab with sends := z.fab.sends, nextSend := n + 1 } : Fabric) = w.fab := by
      rw [zFab, sends, sent.rest, vRest]
      unfold fabSent
      rw [zFab]
      rfl
    rw [fabW]
    obtain ⟨store', dram, regs, closed⟩ := begun.shape
    rw [closed, sent.rest, vRest]
    rfl

end

end Sys2Proof.Machine
end

section
/-!
The command that begins a collective (R361), and the commands of the fabric together.
-/
namespace Sys2Proof.Machine

/-! ### A collective that is first (R361) -/

section
variable {v : Dev} {h : Nat} {c : Comm} {y : Coll}

/-- A part of a collective that has more to come from others does not go on. -/
theorem collStep_waits (here : commAt v h = some c) (only : c.colls = [y])
    (waits : y.head.kind = 1 ∧ c.rank ≠ 0 ∨ y.head.kind ≠ 1 ∧ allIn c y = false) : collStep v h = v := by
  unfold collStep
  rw [here]
  dsimp only
  rw [only]
  dsimp only
  obtain ⟨kind, below⟩ | ⟨kind, owed⟩ := waits
  · rw [kind, if_pos below]
    exact ite_self v
  · split
    · rfl
    · split
      · rw [if_pos (by rw [owed]; rfl)]
      · next one => exact absurd one kind
      · rw [if_pos (by rw [owed]; rfl)]
      · rw [if_pos (by rw [owed]; rfl)]

/-- A barrier's leaf signals its parent. -/
theorem collStep_signals (here : commAt v h = some c) (only : c.colls = [y]) (fresh : y.sentUp = false) (kind : y.head.kind = 0) (all : allIn c y = true)
    (below : c.rank ≠ 0) :
    collStep v h = modComm (sendRank v c (parentRank c.rank) (.signal y.head false 0 (regRead v Reg.FAB_PROGRESS))) h
      (fun c => { c with colls := [{ y with sentUp := true, flags := 0 }] }) := by
  unfold collStep
  rw [here]
  dsimp only
  rw [only]
  dsimp only
  rw [kind, fresh, all, if_neg (by decide), if_neg (by decide), if_neg below, if_neg (by decide)]
  rfl

/-- What a communicator's first collective does at its turn, where no message waits for it and it stays first. -/
theorem collAdvance_stays {y' : Coll} {c' : Comm} (here : commAt v h = some c) (only : c.colls = [y]) (none' : c.early = [])
    (after : commAt (collStep v h) h = some c') (only' : c'.colls = [y']) (none'' : c'.early = []) (n : Nat) :
    collAdvance v h (n + 1) = collStep v h := by
  have early : replayEarly (collStep v h) h 1 = collStep v h := by
    unfold replayEarly
    rw [after]
    dsimp only
    rw [only', none'']
    rfl
  unfold collAdvance
  rw [here]
  dsimp only
  rw [none', List.length_nil, early, after]
  dsimp only
  rw [if_neg (by rw [only, only']; simp)]

end

/-! ### COLL_RUN (R361) -/

section
variable {s : State} {c : Cmd} {x : Ctx}

/-- The collective that COLL_RUN begins, as it was issued. -/
def namedColl (s : Dev) (x : Ctx) (g : CollHead) : Coll :=
  { cmd := x.key, head := g, src := eb x.e 24 8, dst := eb x.e 32 8, got := [], sentUp := false, flags := 0, since := s.time.hw, pacing := false }

theorem modComm_only (s : Dev) {h : Nat} {cm : Comm} (only : s.fab.comms = [(h, cm)]) (f : Comm → Comm) :
    modComm s h f = { s with fab := { s.fab with comms := [(h, f cm)] } } := by
  unfold modComm tmod
  rw [only]
  simp [tget, tset]

/-- A leaf has every part. -/
theorem allIn_fresh (cm : Comm) (y : Coll) (got : y.got = []) : allIn cm y = (childRanks cm.ranks.length cm.rank).isEmpty := by
  unfold allIn
  rw [got]
  cases childRanks cm.ranks.length cm.rank with
  | nil => rfl
  | cons a l => rfl

/-- A module whose only communicator has one collective under way. -/
def underWay (s : Dev) (h : Nat) (cm : Comm) (y : Coll) : Dev :=
  { s with fab := { s.fab with comms := [(h, { cm with colls := [y] })] } }

theorem commAt_underWay (s : Dev) (h : Nat) (cm : Comm) (y : Coll) : commAt (underWay s h cm y) h = some { cm with colls := [y] } := by
  unfold commAt underWay
  simp [tget]

theorem underWay_self {v : Dev} {h : Nat} {cm : Comm} {y : Coll} (only : v.fab.comms = [(h, cm)]) (first : cm.colls = [y]) : underWay v h cm y = v := by
  unfold underWay
  rw [← first, ← only]

/-- What a collective that has just been issued has done after its turn: it waits, or has signalled. -/
theorem collAdvance_issued {v : Dev} {h : Nat} {cm : Comm} {y : Coll} (only : v.fab.comms = [(h, cm)]) (first : cm.colls = [y]) (none' : cm.early = [])
    (got : y.got = []) (fresh : y.sentUp = false) (flags : y.flags = 0)
    (issued : y.head.kind = 1 ∧ cm.rank ≠ 0 ∨ y.head.kind ≠ 1 ∧ childRanks cm.ranks.length cm.rank ≠ []
      ∨ y.head.kind = 0 ∧ childRanks cm.ranks.length cm.rank = [] ∧ cm.rank ≠ 0) :
    ∃ (up : Bool) (w : Dev), OnlySent v w ∧ collAdvance v h 4096 = underWay w h cm { y with sentUp := up }
      ∧ (y.head.kind = 0 → childRanks cm.ranks.length cm.rank = [] → up = true ∧ Sends v w
          (mkMsg v (cm.ranks.getD (parentRank cm.rank) 0) 0 0 false (.signal y.head false 0 (regRead v Reg.FAB_PROGRESS))))
      ∧ (y.head.kind ≠ 0 ∨ childRanks cm.ranks.length cm.rank ≠ [] → up = false) := by
  have here : commAt v h = some cm := by
    unfold commAt
    rw [only]
    simp [tget]
  have all : allIn cm y = (childRanks cm.ranks.length cm.rank).isEmpty := allIn_fresh cm y got
  by_cases leaf : y.head.kind = 0 ∧ childRanks cm.ranks.length cm.rank = []
  · have below : cm.rank ≠ 0 := by
      obtain ⟨one, -⟩ | ⟨-, more⟩ | ⟨-, -, below⟩ := issued
      · omega
      · exact absurd leaf.2 more
      · exact below
    obtain ⟨w, isW⟩ : ∃ w, w = sendRank v cm (parentRank cm.rank) (.signal y.head false 0 (regRead v Reg.FAB_PROGRESS)) := ⟨_, rfl⟩
    obtain ⟨sent, sends⟩ := routeMsg_sends v
      (mkMsg v (cm.ranks.getD (parentRank cm.rank) 0) 0 0 false (.signal y.head false 0 (regRead v Reg.FAB_PROGRESS)))
    have comms : w.fab.comms = [(h, cm)] := by
      rw [isW]
      show (routeMsg v _).fab.comms = _
      rw [sent.rest]
      exact only
    have step : collStep v h = underWay w h cm { y with sentUp := true } := by
      rw [collStep_signals here first fresh leaf.1 (by rw [all, leaf.2]; rfl) below, ← isW, modComm_only w comms, ← flags]
      rfl
    have stays := collAdvance_stays here first none' (y' := { y with sentUp := true }) (c' := { cm with colls := [{ y with sentUp := true }] })
      (by rw [step]; exact commAt_underWay _ _ _ _) rfl none' 4095
    refine ⟨true, w, by rw [isW]; exact sent, stays.trans step, fun _ _ => ⟨rfl, by rw [isW]; exact sends⟩, fun other => ?_⟩
    exact absurd leaf (fun both => other.elim (fun kind => kind both.1) (fun more => more both.2))
  · have waits : y.head.kind = 1 ∧ cm.rank ≠ 0 ∨ y.head.kind ≠ 1 ∧ allIn cm y = false := by
      obtain one | ⟨kind, more⟩ | ⟨kind, alone, -⟩ := issued
      · exact .inl one
      · exact .inr ⟨kind, all.trans (List.isEmpty_eq_false_iff.mpr more)⟩
      · exact absurd ⟨kind, alone⟩ leaf
    have step : collStep v h = v := collStep_waits here first waits
    have kept : { y with sentUp := false } = y := by rw [← fresh]
    have same : underWay v h cm { y with sentUp := false } = v := by rw [kept, underWay_self only first]
    have stays := collAdvance_stays here first none' (by rw [step]; exact here) first none' 4095
    exact ⟨false, v, .refl v, (stays.trans step).trans same.symm, fun kind alone => absurd ⟨kind, alone⟩ leaf, fun _ => rfl⟩

/-- The module that has accepted COLL_RUN. -/
def withColl (s : Dev) (h : Nat) (cm : Comm) (y : Coll) : Dev := underWay s h { cm with issued := cm.issued + 1 } y

theorem exec_collRun {h kind dtype bytes : Nat} {s1 s2 : Dev} {cm : Comm} {g : CollHead} {kids : List Nat} (admits : Admits s.dev 0x78 c x) (live : x.replay = false)
    (isH : h = eb x.e 16 2) (isKind : kind = eb x.e 18 1) (isType : dtype = eb x.e 19 1) (only : s.dev.fab.comms = List.cons (h, cm) [])
    (own : cm.inst = x.inst) (idle : cm.colls = []) (early : cm.early = []) (kinds : kind ≤ 4) (types : dtype ≤ 4) (ops : eb x.e 20 1 ≤ 2)
    (barrier : kind = 0 → eb x.e 40 8 = 0 ∧ eb x.e 24 8 = 0 ∧ eb x.e 32 8 = 0) (from' : eb x.e 24 8 % 4 = 0) (to' : eb x.e 32 8 % 4 = 0)
    (isBytes : bytes = eb x.e 40 8 * elemBytes dtype)
    (reads : (if kind ≠ 0 ∧ ¬ (kind = 1 ∧ cm.rank ≠ 0) then vaCheck s.dev x.inst (eb x.e 24 8) bytes 0 else (s.dev, 0)) = (s1, 0))
    (writes : (if kind = 1 ∧ cm.rank ≠ 0 ∨ kind = 2 ∧ cm.rank = 0 ∨ 3 ≤ kind then
        vaCheck s1 x.inst (eb x.e 32 8) (if kind = 4 then bytes * cm.ranks.length else bytes) 1 else (s1, 0)) = (s2, 0))
    (free : s2.blocked = []) (fe : s2.fe = s.dev.fe) (fab : s2.fab = s.dev.fab) (isG : g = ⟨cm.key, cm.issued, kind, dtype, eb x.e 20 1, eb x.e 40 8⟩)
    (isKids : kids = childRanks cm.ranks.length cm.rank)
    (issued : kind = 1 ∧ cm.rank ≠ 0 ∨ kind ≠ 1 ∧ kids ≠ [] ∨ kind = 0 ∧ kids = [] ∧ cm.rank ≠ 0) :
    ∃ (t : State) (y : Coll), exec (.collRun c) s = .next t ∧ SameMem s2 t.dev ∧ Begins t.dev x
      ∧ tget t.dev.fab.comms h = some { cm with issued := cm.issued + 1, colls := [y] } ∧ y.cmd = x.key ∧ y.head = g ∧ y.src = eb x.e 24 8
      ∧ y.dst = eb x.e 32 8 ∧ y.got = []
      ∧ (kind = 0 → kids = [] → y.sentUp = true ∧ Sends s2 t.dev (mkMsg s2 (cm.ranks.getD (parentRank cm.rank) 0) 0 0 false
          (.signal g false 0 (regRead s2 Reg.FAB_PROGRESS))))
      ∧ (kind ≠ 0 ∨ kids ≠ [] → y.sentUp = false)
      ∧ OnlyCmd txRegs { s with dev := s2 } t x { s2 with fab := { fabSent t.dev s2.fab with comms := t.dev.fab.comms } } := by
  obtain ⟨y, isY⟩ : ∃ y, y = namedColl s2 x g := ⟨_, rfl⟩
  obtain ⟨u, isU⟩ : ∃ u, u = withColl s2 h cm y := ⟨_, rfl⟩
  obtain ⟨v, isV⟩ : ∃ v, v = beginCmd u x := ⟨_, rfl⟩
  have vRest : ∃ store, v = { withColl s2 h cm y with fe := { s2.fe with store := store } } := by
    rw [isV, beginCmd_rest, isU]
    exact ⟨_, rfl⟩
  obtain ⟨store, vRest⟩ := vRest
  have after : ∃ f : Ctx → Dev → Dev × CmdRes, exec (.collRun c) s = .next { s with dev := finish (collTurns (command 0x78 c s.dev f)) }
      ∧ command 0x78 c s.dev f = v := by
    refine ⟨?_, ?run, ?begun⟩
    case run => rfl
    rw [isV]
    refine command_later rfl admits ?_ (by rw [isU]; exact free)
    unfold fromRecord
    rw [if_pos (by simp [live])]
    have here : commAt s.dev h = some cm := by
      unfold commAt
      rw [only]
      simp [tget]
    dsimp only
    rw [← isH, ← isKind, ← isType, here]
    dsimp only
    have named : firstCode [(cm.inst != x.inst || decide (kind > 4) || decide (dtype > 4) || decide (eb x.e 20 1 > 2)
            || (kind == 0 && (eb x.e 40 8 != 0 || eb x.e 24 8 != 0 || eb x.e 32 8 != 0)), eArg),
          (kind != 0 && (eb x.e 24 8 % 4 != 0 || eb x.e 32 8 % 4 != 0), eAlign)] = 0 := by
      have empty : (kind == 0 && (eb x.e 40 8 != 0 || eb x.e 24 8 != 0 || eb x.e 32 8 != 0)) = false := by
        by_cases zero : kind = 0
        · obtain ⟨a, b, c⟩ := barrier zero
          simp [a, b, c]
        · simp [zero]
      rw [empty]
      simp [firstCode, own, kinds, types, ops, from', to']
    have checkedRead : (if (kind != 0 && !(kind == 1 && cm.rank != 0)) = true then vaCheck s.dev x.inst (eb x.e 24 8) bytes 0 else (s.dev, 0)) = (s1, 0) := by
      exact (if_congr (by simp [← imp_iff_not_or]) rfl rfl).trans reads
    have written : (if (kind == 1 && cm.rank != 0 || kind == 2 && cm.rank == 0 || decide (kind ≥ 3)) = true then
        vaCheck s1 x.inst (eb x.e 32 8) (if kind = 4 then bytes * cm.ranks.length else bytes) 1 else (s1, 0)) = (s2, 0) := by
      exact (if_congr (by simp [or_assoc]) rfl rfl).trans writes
    rw [← isBytes, named, if_neg (not_not_intro rfl), checkedRead]
    dsimp only
    rw [written]
    refine Eq.trans (b := (modComm s2 h (fun c => { c with issued := c.issued + 1, colls := c.colls ++ [y] }), CmdRes.later)) ?_ ?_
    · rw [isY, isG]
      rfl
    · rw [modComm_only s2 (by rw [fab, only]), isU, idle]
      rfl
  obtain ⟨f, ran, begun⟩ := after
  have comms : v.fab.comms = [(h, { cm with issued := cm.issued + 1, colls := [y] })] := by
    rw [vRest]
    rfl
  obtain ⟨up, w, sent, turn, signals, waits⟩ := collAdvance_issued (y := y) comms rfl early (by rw [isY]; rfl) (by rw [isY]; rfl) (by rw [isY]; rfl)
    (by rw [isY]; show g.kind = _ ∧ _ ∨ _; rw [isG, ← isKids]; exact issued)
  obtain ⟨z, isZ⟩ : ∃ z, z = underWay w h { cm with issued := cm.issued + 1, colls := [y] } { y with sentUp := up } := ⟨_, rfl⟩
  rw [← isZ] at turn
  have blocked : z.blocked = [] := by
    rw [isZ]
    show w.blocked = []
    rw [sent.rest, vRest]
    exact free
  have turns : collTurns v = z := by
    unfold collTurns
    rw [comms]
    show whole v (fun s => collAdvance s h 4096) = z
    rw [whole_of_unblocked (by rw [turn, blocked]), turn]
  rw [begun, turns] at ran
  have zFe : z.fe = v.fe := by
    rw [isZ]
    show w.fe = v.fe
    rw [sent.rest]
  have begun : Begun s2 z (finish z) x := by
    refine (begun_beginCmd (u := u) admits ?_ ?_ (by rw [zFe, isV])).over (by rw [fe]) (by rw [fe])
    · rw [isU, ← fe]
      rfl
    · rw [isU, ← fe]
      rfl
  have fromS2 : SameRegsBut txRegs s2 z := by
    intro r others shc
    rw [isZ]
    refine (sent.regs r others shc).trans ?_
    rw [vRest]
    rfl
  obtain ⟨t, isT⟩ : ∃ t, t = finish z := ⟨_, rfl⟩
  rw [← isT] at ran begun
  have tFab : t.fab = z.fab := by rw [isT]; rfl
  have tOut : t.out = w.out := by rw [isT, isZ]; rfl
  refine ⟨_, { y with sentUp := up }, ran, (sameMem_of_dram ?_).trans begun.mem, begun.begins, ?_, by rw [isY]; rfl, by rw [isY]; rfl, by rw [isY]; rfl,
    by rw [isY]; rfl, by rw [isY]; rfl, ?_, ?_, Begun.onlyCmd (s := { s with dev := s2 }) begun ?_ fromS2⟩
  · rw [isZ]
    show w.dram = s2.dram
    rw [sent.rest, vRest]
    rfl
  · show tget t.fab.comms h = _
    rw [tFab, isZ]
    exact commAt_underWay _ _ _ _
  · intro kind0 alone
    obtain ⟨isUp, told⟩ := signals (by rw [isY]; show g.kind = 0; rw [isG]; exact kind0) (by rw [← isKids]; exact alone)
    refine ⟨isUp, ?_⟩
    have told : Sends s2 w (mkMsg s2 (cm.ranks.getD (parentRank cm.rank) 0) 0 0 false (.signal g false 0 (regRead s2 Reg.FAB_PROGRESS))) := by
      rw [vRest] at told
      rw [isY] at told
      exact told
    unfold Sends portAt at told ⊢
    show (t.out = _ ∧ t.fab.waiting = _ ∧ _) ∨ _
    rw [tOut, tFab, isZ]
    exact told
  · intro other
    refine waits ?_
    rw [← isKids, isY]
    show g.kind ≠ 0 ∨ _
    rw [isG]
    exact other
  · show SameButAnswer { s2 with fab := { fabSent t s2.fab with comms := t.fab.comms } } t
    have fabZ : ({ fabSent t s2.fab with comms := t.fab.comms } : Fabric) = z.fab := by
      unfold fabSent
      rw [tFab, isZ]
      unfold underWay
      rw [sent.rest, vRest]
      rfl
    rw [fabZ]
    obtain ⟨store', dram, regs, closed⟩ := begun.shape
    rw [closed, isZ]
    unfold underWay
    rw [sent.rest, vRest]
    rfl

end

/-! ### The commands of the fabric -/

/-- Settles O47: every command of the fabric, command by command. -/
theorem fabricCommands : Obligations.FabricCommands := by
  intro s c x
  refine ⟨exec_fabSetDevice, fun first n s1 b => exec_fabRouteSet, fun arch idx dev => ?_, fun h i first n => exec_fabExport,
    fun h y => exec_fabUnexport, fun n s1 b l => exec_mcastGroupSet, ?_, fun n h r s1 b ranks => exec_commCreate,
    fun h kind dtype bytes s1 s2 cm g kids => exec_collRun, fun h cm => exec_commDestroy⟩
  · intro admits isArch isIdx isDev small device
    refine ⟨fun op vacant notes => ⟨exec_fabArchAdmit_own admits isArch isIdx isDev small device op vacant notes,
      exec_fabArchAdmit_other admits isArch isIdx isDev small device op vacant notes⟩, fun s1 op valid device same isS1 free store _ => ?_⟩
    exact exec_fabArchDepart admits isArch isIdx isDev small op valid device same isS1 free store
  · intro n bytes code s1 s2 data l admits live isN isBytes some' within group targets checked read full free fe _ far
    exact exec_mcastSend admits live isN isBytes some' within group targets checked read full free fe far

end Sys2Proof.Machine
end

section
/-!
SUPPORT. The mesh's registers and its bundle-directions: what a change of MODE shows, what a pause and a loss leave (R37 to R42, R53, R54).
-/
namespace Sys2Proof.Machine

/-! ### Steps of registers and bundle-directions -/

/-- A step changes registers of a list and bundle-directions alone. -/
structure Shown (l : List Nat) (s t : Dev) : Prop where
  regs : ∀ o, o ∉ l → regRead t o = regRead s o
  rest : t = { s with regs := t.regs, mesh := { s.mesh with bds := t.mesh.bds } }

namespace Shown

theorem refl (l : List Nat) (s : Dev) : Shown l s s := ⟨fun _ _ => rfl, rfl⟩

theorem trans {l : List Nat} {s t u : Dev} (h : Shown l s t) (k : Shown l t u) : Shown l s u := by
  refine ⟨fun o other => (k.regs o other).trans (h.regs o other), ?_⟩
  rw [k.rest, h.rest]

theorem mono {l l' : List Nat} {s t : Dev} (h : Shown l s t) (more : l ⊆ l') : Shown l' s t := ⟨fun o other => h.regs o (fun own => other (more own)), h.rest⟩

theorem foldl {α : Type} {l : List Nat} {f : Dev → α → Dev} (items : List α) (step : ∀ a ∈ items, ∀ t, Shown l t (f t a)) (s : Dev) :
    Shown l s (items.foldl f s) :=
  List.foldlRecOn (motive := Shown l s) _ _ (.refl l s) (fun t shown a member => shown.trans (step a member t))

theorem fget {l : List Nat} {s t : Dev} (h : Shown l s t) {f : Fld} (other : f.off ∉ l) : fget t f = Machine.fget s f :=
  congrArg (fun v => bitsOf v _ _) (h.regs _ other)

theorem waiting {l : List Nat} {s t : Dev} (h : Shown l s t) : t.mesh.waiting = s.mesh.waiting := by rw [h.rest]

theorem onlyIn {l : List Nat} {s : State} {u : Dev} (h : Shown l s.dev u) :
    OnlyIn l s { s with dev := finish u } { s.dev with mesh := { s.dev.mesh with bds := u.mesh.bds } } := by
  refine onlyIn_finish ?_ (fun o others _ => h.regs o others)
  rw [h.rest]

end Shown

theorem shown_regWrite {l : List Nat} (s : Dev) {o : Nat} (v : Nat) (named : o ∈ l) : Shown l s (regWrite s o v) :=
  ⟨fun _ other => regRead_regWrite_other _ _ _ _ (fun own => other (own ▸ named)), rfl⟩

theorem shown_fset {l : List Nat} (s : Dev) (f : Fld) (v : Nat) (named : f.off ∈ l) : Shown l s (fset s f v) := shown_regWrite s _ named

theorem shown_modBd (l : List Nat) (s : Dev) (k b d : Nat) (f : Bd → Bd) : Shown l s (modBd s k b d f) := ⟨fun _ _ => rfl, rfl⟩

theorem fget_modBd (s : Dev) (k b d : Nat) (f : Bd → Bd) (g : Fld) : fget (modBd s k b d f) g = fget s g := rfl

theorem bdMode_modBd (s : Dev) (k b d : Nat) (f : Bd → Bd) (k' b' d' : Nat) : bdMode (modBd s k b d f) k' b' d' = bdMode s k' b' d' := rfl

theorem bdAt_modBd_same (s : Dev) (k b d : Nat) (f : Bd → Bd) : bdAt (modBd s k b d f) k b d = f (bdAt s k b d) := by
  show tgetD (tset _ _ _) _ _ = _
  unfold tgetD
  rw [tget_tset_same]
  rfl

theorem sameBdsBut_modBd (s : Dev) (k b d : Nat) (f : Bd → Bd) : SameBdsBut k b d s (modBd s k b d f) := fun _ other => tget_tset_other _ _ _ _ other

theorem bdKey_inj {k b d k' b' d' : Nat} (hb : b < 8) (hd : d < 2) (hb' : b' < 8) (hd' : d' < 2) (same : bdKey k b d = bdKey k' b' d') :
    k = k' ∧ b = b' ∧ d = d' := by
  unfold bdKey at same
  omega

theorem bdAt_modBd_other (s : Dev) {k b d k' b' d' : Nat} (f : Bd → Bd) (other : bdKey k' b' d' ≠ bdKey k b d) :
    bdAt (modBd s k b d f) k' b' d' = bdAt s k' b' d' := by
  unfold bdAt tgetD
  rw [sameBdsBut_modBd s k b d f _ other]

theorem bdAt_congr {s t : Dev} (same : t.mesh.bds = s.mesh.bds) (k b d : Nat) : bdAt t k b d = bdAt s k b d := by
  unfold bdAt
  rw [same]

/-! ### What the mesh shows (R53, R54) -/

/-- The registers that report the whole mesh. -/
def meshRegs : List Nat := [Reg.STR_MESH_STATUS, Reg.STR_MESH_BW, Reg.STR_EDGE_BW]

theorem shown_showMesh (s : Dev) : Shown meshRegs s (showMesh s) := by
  have status (s : Dev) (f : Fld) (own : f.off = Reg.STR_MESH_STATUS) (v : Nat) : Shown meshRegs s (fset s f v) := shown_fset s f v (own ▸ by decide)
  have bw (s : Dev) (f : Fld) (own : f.off = Reg.STR_MESH_BW) (v : Nat) : Shown meshRegs s (fset s f v) := shown_fset s f v (own ▸ by decide)
  have edge (s : Dev) (f : Fld) (own : f.off = Reg.STR_EDGE_BW) (v : Nat) : Shown meshRegs s (fset s f v) := shown_fset s f v (own ▸ by decide)
  unfold showMesh
  dsimp only
  refine Shown.trans ?_ (edge _ _ rfl _)
  refine Shown.trans ?_ (edge _ _ rfl _)
  refine Shown.trans ?_ (edge _ _ rfl _)
  refine Shown.trans ?_ (edge _ _ rfl _)
  refine Shown.trans ?_ (bw _ _ rfl _)
  refine Shown.trans ?_ (bw _ _ rfl _)
  refine Shown.trans ?_ (bw _ _ rfl _)
  refine Shown.trans ?_ (status _ _ rfl _)
  refine Shown.trans ?_ (status _ _ rfl _)
  exact (status _ _ rfl _).trans (status _ _ rfl _)

theorem bwFld_off (k d : Nat) : (bwFld k d).off = Reg.STR_STRAIT_STATUS k := by
  unfold bwFld
  split
  · rfl
  · rfl

theorem bwFld_apart (k d : Nat) : (RF.STR_STRAIT_STATUS_STATE k).Apart (bwFld k d) := by
  unfold bwFld
  split
  · exact .inr (.inl (Nat.le_of_ble_eq_true rfl))
  · exact .inr (.inl (Nat.le_of_ble_eq_true rfl))

/-- The registers that a strait's state shows in. -/
def shownOf (k : Nat) : List Nat := Reg.STR_STRAIT_STATUS k :: meshRegs

theorem shown_showStrait (s : Dev) (k : Nat) : Shown (shownOf k) s (showStrait s k) := by
  have own (s : Dev) (f : Fld) (own : f.off = Reg.STR_STRAIT_STATUS k) (v : Nat) : Shown (shownOf k) s (fset s f v) :=
    shown_fset s f v (own ▸ List.mem_cons_self)
  have mesh (s : Dev) : Shown (shownOf k) s (showMesh s) := (shown_showMesh s).mono (List.subset_cons_self _ _)
  unfold showStrait
  dsimp only
  split
  · exact ((own _ _ (bwFld_off k 0) _).trans (own _ _ (bwFld_off k 1) _)).trans (mesh _)
  · exact (((own s _ rfl _).trans (own _ _ (bwFld_off k 0) _)).trans (own _ _ (bwFld_off k 1) _)).trans (mesh _)

theorem meshRegs_low : ∀ o ∈ meshRegs, o < 0x110018 := by decide

theorem state_apart_mesh (k : Nat) : (RF.STR_STRAIT_STATUS_STATE k).off ∉ meshRegs := by
  intro own
  have low := meshRegs_low _ own
  have place : (RF.STR_STRAIT_STATUS_STATE k).off = 0x110100 + 8 * k := rfl
  omega

/-- A strait that is lost or unused stays so. -/
theorem state_showStrait_lost (s : Dev) (k : Nat) (lost : 2 ≤ fget s (RF.STR_STRAIT_STATUS_STATE k)) :
    fget (showStrait s k) (RF.STR_STRAIT_STATUS_STATE k) = fget s (RF.STR_STRAIT_STATUS_STATE k) := by
  unfold showStrait
  dsimp only
  rw [if_pos lost, (shown_showMesh _).fget (state_apart_mesh k), fget_fset_apart _ _ (Nat.le_of_ble_eq_true rfl) (bwFld_apart k 1),
    fget_fset_apart _ _ (Nat.le_of_ble_eq_true rfl) (bwFld_apart k 0)]

/-! ### A change of MODE -/

section
variable {k b d : Nat}

theorem shown_setMode (s : Dev) (m : Nat) : Shown (Reg.STR_BD_STATUS k b d :: shownOf k) s (setMode s k b d m) :=
  (shown_fset s (RF.STR_BD_STATUS_MODE k b d) _ List.mem_cons_self).trans ((shown_showStrait _ k).mono (List.subset_cons_self _ _))

theorem bdStatus_apart_shown (k' : Nat) (known : k' < 110) : (RF.STR_BD_STATUS_MODE k b d).off ∉ shownOf k' := by
  have place : (RF.STR_BD_STATUS_MODE k b d).off = 0x120000 + 1024 * k + 128 * b + 64 * d := rfl
  intro own
  obtain same | own := List.mem_cons.mp own
  · have strait : Reg.STR_STRAIT_STATUS k' = 0x110100 + 8 * k' := rfl
    omega
  · have low := meshRegs_low _ own
    omega

theorem bdMode_setMode_same (s : Dev) {m : Nat} (known : k < 110) (mode : m < 4) : bdMode (setMode s k b d m) k b d = m := by
  show fget (showStrait _ k) _ = m
  rw [(shown_showStrait _ k).fget (bdStatus_apart_shown k known), fget_fset_same _ _ _ (Nat.le_of_ble_eq_true rfl)]
  exact Nat.mod_eq_of_lt mode

theorem bdMode_setMode_other (s : Dev) (m : Nat) (known : k < 110) {b' d' : Nat} (other : Reg.STR_BD_STATUS k b' d' ≠ Reg.STR_BD_STATUS k b d) :
    bdMode (setMode s k b d m) k b' d' = bdMode s k b' d' := by
  show fget (showStrait _ k) _ = fget s _
  rw [(shown_showStrait _ k).fget (bdStatus_apart_shown k known)]
  exact fget_fset_apart _ _ (Nat.le_of_ble_eq_true rfl) (.inl other)

theorem setMode_bds (s : Dev) (m : Nat) : (setMode s k b d m).mesh = s.mesh := by
  have shape (t : Dev) : (showMesh t).mesh = t.mesh := rfl
  unfold setMode showStrait
  dsimp only
  split
  · exact shape _
  · exact shape _

theorem straitRegs_shown (k : Nat) : shownOf k ⊆ straitRegs k := by
  unfold shownOf meshRegs straitRegs
  exact List.subset_append_left _ _

theorem straitRegs_status (hb : b < 8) (hd : d < 2) : Reg.STR_BD_STATUS k b d ∈ straitRegs k := by
  unfold straitRegs
  refine List.mem_append_right _ (List.mem_map.mpr ⟨2 * b + d, List.mem_range.mpr (by omega), ?_⟩)
  rw [show (2 * b + d) / 2 = b by omega, show (2 * b + d) % 2 = d by omega]

theorem shown_setMode_strait (s : Dev) (m : Nat) (hb : b < 8) (hd : d < 2) : Shown (straitRegs k) s (setMode s k b d m) :=
  (shown_setMode s m).mono (List.cons_subset.mpr ⟨straitRegs_status hb hd, straitRegs_shown k⟩)

end

/-! ### Pauses (R38, R51) -/

section
variable {k d : Nat}

theorem shown_beginPause (s : Dev) {b : Nat} (hb : b < 8) (hd : d < 2) : Shown (straitRegs k) s (beginPause s k b d) := by
  unfold beginPause
  split
  · exact shown_modBd _ _ _ _ _ _
  · exact (shown_modBd _ _ _ _ _ _).trans (shown_setMode_strait _ _ hb hd)

theorem beginPause_others (s : Dev) (known : k < 110) {b b' : Nat} (hb : b < 8) (hb' : b' < 8) (hd : d < 2) (other : b' ≠ b) :
    bdAt (beginPause s k b d) k b' d = bdAt s k b' d ∧ bdMode (beginPause s k b d) k b' d = bdMode s k b' d := by
  have key : bdKey k b' d ≠ bdKey k b d := fun same => other (bdKey_inj hb' hd hb hd same).2.1
  unfold beginPause
  split
  · exact ⟨bdAt_modBd_other _ _ key, rfl⟩
  · refine ⟨(bdAt_congr (congrArg Mesh.bds (setMode_bds _ _)) _ _ _).trans (bdAt_modBd_other _ _ key), ?_⟩
    refine bdMode_setMode_other _ _ known ?_
    show 0x120000 + 1024 * k + 128 * b' + 64 * d + 0 ≠ 0x120000 + 1024 * k + 128 * b + 64 * d + 0
    omega

theorem shown_nextPause (s : Dev) (hd : d < 2) : Shown (straitRegs k) s (nextPause s k d) := by
  unfold nextPause
  split
  · next b found => exact shown_beginPause s (lowest_lt found) hd
  · exact .refl _ s

/-- The next pause leaves a bundle-direction that does not wait for one. -/
theorem nextPause_others (s : Dev) (known : k < 110) {b : Nat} (hb : b < 8) (hd : d < 2) (awake : (bdAt s k b d).phase ≠ .queued) :
    bdAt (nextPause s k d) k b d = bdAt s k b d ∧ bdMode (nextPause s k d) k b d = bdMode s k b d := by
  unfold nextPause
  split
  · next b' found =>
    refine beginPause_others s known (lowest_lt found) hb hd ?_
    rintro rfl
    have queued := lowestFrom_holds (i := 0) found
    simp only [Bool.and_eq_true, beq_iff_eq] at queued
    exact awake queued.1
  · exact ⟨rfl, rfl⟩

end

/-! ### Resumption -/

theorem drainMesh_none {s : Dev} (none' : s.mesh.waiting = []) : drainMesh s = s := by
  have same : { s with mesh := { s.mesh with waiting := [] } } = s := by rw [← none']
  unfold drainMesh
  rw [none', same]
  rfl

/-- A bundle-direction that has resumed. -/
def resumed (narrow : Bool) (x : Bd) : Bd :=
  { x with phase := .running, narrow := false, wasNarrow := narrow, lanes := [], fails := 0, copy := none, charges := [] }

theorem resumeBd_leaves (s : Dev) {k b d : Nat} (known : k < 110) (hb : b < 8) (hd : d < 2) (narrow : Bool) (none' : s.mesh.waiting = []) :
    Shown (straitRegs k) s (resumeBd s k b d narrow) ∧ bdMode (resumeBd s k b d narrow) k b d = b2n narrow
      ∧ bdAt (resumeBd s k b d narrow) k b d = resumed narrow (bdAt s k b d) := by
  obtain ⟨u, isU⟩ : ∃ u, u = setMode (modBd s k b d (resumed narrow)) k b d (b2n narrow) := ⟨_, rfl⟩
  have shownU : Shown (straitRegs k) s u := by
    rw [isU]
    exact (shown_modBd _ _ _ _ _ _).trans (shown_setMode_strait _ _ hb hd)
  have shown : Shown (straitRegs k) s (nextPause u k d) := shownU.trans (shown_nextPause u hd)
  have mode : bdMode u k b d = b2n narrow := by
    rw [isU]
    refine bdMode_setMode_same _ known ?_
    cases narrow with
    | true => decide
    | false => decide
  have bd : bdAt u k b d = resumed narrow (bdAt s k b d) := by
    rw [isU]
    exact (bdAt_congr (congrArg Mesh.bds (setMode_bds _ _)) _ _ _).trans (bdAt_modBd_same _ _ _ _ _)
  obtain ⟨bd', mode'⟩ := nextPause_others u known hb hd (by rw [bd]; exact BdPhase.noConfusion)
  have ran : resumeBd s k b d narrow = nextPause u k d := by
    rw [isU]
    rw [isU] at shown
    exact drainMesh_none (shown.waiting.trans none')
  rw [ran]
  exact ⟨shown, mode'.trans mode, bd'.trans bd⟩

end Sys2Proof.Machine
end

section
/-!
The mesh, first part: flits and their replay, the requests for repair, what answers a query, and what parks (R35, R38 to R40, R455).
-/
namespace Sys2Proof.Machine

section
variable {s : State} {k b d : Nat} (on : meshOn s.dev = true) (hk : k < 110) (hb : b < 8) (hd : d < 2)
include on hk hb hd

theorem onBd_known (f : Dev → Dev) : onBd s.dev k b d f = f s.dev := if_pos (by simp [bdOk, on, hk, hb, hd])

omit on in
/-- The status of a bundle-direction is not among the registers that closing a step recounts. -/
theorem bdMode_finish (u : Dev) : bdMode (finish u) k b d = bdMode u k b d := by
  refine congrArg (fun v => bitsOf v _ _) (regRead_finish _ _ ?_)
  show 0x120000 + 1024 * k + 128 * b + 64 * d + 0 ≠ 0x150000
  omega

omit on in
/-- A counter of a bundle-direction. -/
theorem regRead_finish_counter (u : Dev) {n : Nat} (small : n < 64) : regRead (finish u) (0x120000 + 1024 * k + 128 * b + 64 * d + n)
    = regRead u (0x120000 + 1024 * k + 128 * b + 64 * d + n) := by
  refine regRead_finish _ _ ?_
  show _ ≠ 0x150000
  omega

/-! ### Flits (R35) -/

omit on hk hb hd in
/-- A flit with no acknowledgement leaves the reverse direction. -/
theorem takeAck_none (u : Dev) (k b d : Nat) {f : BitVec 2048} (none' : bitOf f.toNat 21 = false) : takeAck u k b d f = u := by
  unfold takeAck
  rw [none']
  rfl

theorem exec_flitReceive_accepts {x : Bd} (isX : x = bdAt s.dev k b d) {f : BitVec 2048} (mode : bdMode s.dev k b d ≠ 3) (phase : x.phase ≠ .retraining)
    (good : (crcGood f && headerGood f) = true) (silent : bitOf f.toNat 21 = false) (kind : flitKind f = 1) (next : flitSeq f = x.rx)
    (fresh : x.copy = none) (here : flitDest f = receiver k d) (none' : s.dev.mesh.waiting = []) :
    ∃ t, exec (.flitReceive k b d f) s = .next t ∧ SameMem s.dev t.dev ∧ bdAt t.dev k b d = { x with rx := (x.rx + 1) % 2 ^ 32, fails := 0 }
      ∧ SameBdsBut k b d s.dev t.dev ∧ OnlyIn [] s t { s.dev with mesh := { s.dev.mesh with bds := t.dev.mesh.bds } } := by
  subst isX
  obtain ⟨u, isU⟩ : ∃ u, u = modBd s.dev k b d (fun x => { x with rx := (x.rx + 1) % 2 ^ 32, fails := 0, copy := none }) := ⟨_, rfl⟩
  have shown : Shown [] s.dev u := by
    rw [isU]
    exact shown_modBd _ _ _ _ _ _
  have ran : meshFlit s.dev k b d f = u := by
    have passed : passOn u k d f = u := if_pos (.inl here)
    unfold meshFlit
    rw [if_neg (by simp [on, mode, phase]), if_neg (by rw [good]; decide), takeAck_none _ _ _ _ silent]
    dsimp only
    rw [if_neg (by rw [kind]; omega), if_neg (not_not_intro next), fresh]
    dsimp only
    rw [← isU, passed]
    exact drainMesh_none (shown.waiting.trans none')
  refine ⟨_, ?_, sameMem_finish (by rw [shown.rest]), ?_, ?_, shown.onlyIn⟩
  · show perform s (fun s => onBd s k b d (fun s => meshFlit s k b d f)) = _
    rw [perform_eq, onBd_known on hk hb hd, ran]
  · show bdAt u k b d = _
    rw [isU, bdAt_modBd_same, ← fresh]
  · show SameBdsBut k b d s.dev u
    rw [isU]
    exact sameBdsBut_modBd _ _ _ _ _

omit on hk hb hd in
/-- A step of registers and bundle-directions after which messages go out, closed. -/
theorem Shown.onlyIn_out {l : List Nat} {s : State} {w : Dev} (h : Shown l s.dev w) (out : List Out) :
    OnlyIn l s { s with dev := finish { w with out := out } } { s.dev with mesh := { s.dev.mesh with bds := w.mesh.bds }, out := out } := by
  refine onlyIn_finish ?_ (fun o others _ => h.regs o others)
  rw [h.rest]

theorem exec_flitReceive_fails {x : Bd} (isX : x = bdAt s.dev k b d) {f : BitVec 2048} (mode : bdMode s.dev k b d ≠ 3) (phase : x.phase ≠ .retraining)
    (bad : (crcGood f && headerGood f) = false) (few : x.fails < 7) :
    ∃ t, exec (.flitReceive k b d f) s = .next t ∧ SameMem s.dev t.dev ∧ bdAt t.dev k b d = { x with fails := x.fails + 1, copy := some f }
      ∧ t.dev.out = s.dev.out ++ [.meshNak k b d x.rx]
      ∧ regRead t.dev (Reg.STR_BD_CRC_ERRORS k b d) = (regRead s.dev (Reg.STR_BD_CRC_ERRORS k b d) + 1) % 2 ^ 64
      ∧ SameBdsBut k b d s.dev t.dev
      ∧ OnlyIn [Reg.STR_BD_CRC_ERRORS k b d] s t { s.dev with mesh := { s.dev.mesh with bds := t.dev.mesh.bds }, out := t.dev.out } := by
  subst isX
  obtain ⟨v, isV⟩ : ∃ v, v = bump s.dev (Reg.STR_BD_CRC_ERRORS k b d) := ⟨_, rfl⟩
  obtain ⟨w, isW⟩ : ∃ w, w = modBd v k b d (fun x => { x with fails := x.fails + 1, copy := some f }) := ⟨_, rfl⟩
  have shownV : Shown [Reg.STR_BD_CRC_ERRORS k b d] s.dev v := by
    rw [isV]
    exact shown_regWrite _ _ (List.mem_singleton_self _)
  have bdsV : v.mesh.bds = s.dev.mesh.bds := by rw [isV, bump, bumpBy_mesh]
  have shown : Shown [Reg.STR_BD_CRC_ERRORS k b d] s.dev w := by
    rw [isW]
    exact shownV.trans (shown_modBd _ _ _ _ _ _)
  have bd : bdAt w k b d = { bdAt s.dev k b d with fails := (bdAt s.dev k b d).fails + 1, copy := some f } := by
    rw [isW, bdAt_modBd_same, bdAt_congr bdsV]
  have out : w.out = s.dev.out := by rw [shown.rest]
  have ran : meshFlit s.dev k b d f = { w with out := s.dev.out ++ [.meshNak k b d (bdAt s.dev k b d).rx] } := by
    unfold meshFlit
    rw [if_neg (by simp [on, mode, phase]), if_pos (by rw [bad]; decide)]
    unfold flitFails
    dsimp only
    rw [← isV, ← isW, bd, if_neg (by dsimp only; omega), out]
  refine ⟨{ s with dev := finish { w with out := s.dev.out ++ [.meshNak k b d (bdAt s.dev k b d).rx] } }, ?_, sameMem_finish ?_, bd, rfl, ?_, ?_,
    shown.onlyIn_out _⟩
  · show perform s (fun s => onBd s k b d (fun s => meshFlit s k b d f)) = _
    rw [perform_eq, onBd_known on hk hb hd, ran]
  · show w.dram = _
    rw [shown.rest]
  · refine (regRead_finish_counter hk hb hd _ (by decide)).trans ?_
    show regRead w _ = _
    rw [isW]
    show regRead v _ = _
    rw [isV]
    exact regRead_bump_same _ _
  · show SameBdsBut k b d s.dev w
    intro j other
    rw [isW, sameBdsBut_modBd _ _ _ _ _ j other, bdsV]

theorem exec_meshNak {x : Bd} (isX : x = bdAt s.dev k b d) (seq : Nat) (mode : bdMode s.dev k b d ≠ 3) :
    ∃ t, exec (.meshNak k b d seq) s = .next t ∧ SameMem s.dev t.dev
      ∧ (let l := flitsBeyond ((seq + 2 ^ 32 - 1) % 2 ^ 32) x.replay
         bdAt t.dev k b d = { x with replay := l } ∧ t.dev.out = s.dev.out ++ l.map (fun p => .mesh k b d p.2)
           ∧ regRead t.dev (Reg.STR_BD_REPLAYS k b d) = (regRead s.dev (Reg.STR_BD_REPLAYS k b d) + l.length) % 2 ^ 64)
      ∧ SameBdsBut k b d s.dev t.dev
      ∧ OnlyIn [Reg.STR_BD_REPLAYS k b d] s t { s.dev with mesh := { s.dev.mesh with bds := t.dev.mesh.bds }, out := t.dev.out } := by
  subst isX
  obtain ⟨l, isL⟩ : ∃ l, l = flitsBeyond ((seq + 2 ^ 32 - 1) % 2 ^ 32) (bdAt s.dev k b d).replay := ⟨_, rfl⟩
  obtain ⟨u, isU⟩ : ∃ u, u = modBd s.dev k b d (fun x => { x with replay := flitsBeyond ((seq + 2 ^ 32 - 1) % 2 ^ 32) x.replay }) := ⟨_, rfl⟩
  obtain ⟨w, isW⟩ : ∃ w, w = bumpBy u (Reg.STR_BD_REPLAYS k b d) l.length := ⟨_, rfl⟩
  have bd : bdAt u k b d = { bdAt s.dev k b d with replay := l } := by
    rw [isU, bdAt_modBd_same, isL]
  have shownU : Shown [Reg.STR_BD_REPLAYS k b d] s.dev u := by
    rw [isU]
    exact shown_modBd _ _ _ _ _ _
  have shown : Shown [Reg.STR_BD_REPLAYS k b d] s.dev w := by
    rw [isW]
    exact shownU.trans (shown_regWrite _ _ (List.mem_singleton_self _))
  have bds : w.mesh.bds = u.mesh.bds := by rw [isW, bumpBy_mesh]
  have ran : replayMesh s.dev k b d seq = { w with out := s.dev.out ++ l.map (fun p => .mesh k b d p.2) } := by
    unfold replayMesh
    rw [if_neg mode]
    dsimp only
    rw [← isU, bd, isW, show u.out = s.dev.out by rw [shownU.rest]]
    rfl
  refine ⟨{ s with dev := finish { w with out := s.dev.out ++ l.map (fun p => .mesh k b d p.2) } }, ?_, sameMem_finish ?_, ?_, ?_, shown.onlyIn_out _⟩
  · show perform s (fun s => onBd s k b d (fun s => replayMesh s k b d seq)) = _
    rw [perform_eq, onBd_known on hk hb hd, ran]
  · show w.dram = _
    rw [shown.rest]
  · dsimp only
    rw [← isL]
    refine ⟨(bdAt_congr bds k b d).trans bd, rfl, (regRead_finish_counter hk hb hd _ (by decide)).trans ?_⟩
    show regRead w _ = _
    rw [isW, isU]
    exact regRead_regWrite_same _ _ _
  · show SameBdsBut k b d s.dev w
    intro j other
    rw [bds, isU, sameBdsBut_modBd _ _ _ _ _ j other]

/-! ### Requests for repair (R38, R39) -/

theorem exec_askRepair {x : Bd} (isX : x = bdAt s.dev k b d) {c : Instr} {lane : Nat} {narrow : Bool}
    (row : c = Instr.rotateReq k b d lane ∧ narrow = false ∨ c = Instr.narrowReq k b d lane ∧ narrow = true)
    (enabled : fget s.dev RF.STR_LANE_POLICY_ROTATE_EN = 1) (mode : bdMode s.dev k b d ≠ 3) (lanes : lane ≤ 67)
    (sound : bitOf (failMask s.dev k b d) lane = false) (phase : x.phase = .running) (room : pausedCount s.dev k d < 2) :
    ∃ t, exec c s = .next t ∧ SameMem s.dev t.dev ∧ bdMode t.dev k b d = 2
      ∧ bdAt t.dev k b d = { x with lanes := insertNat lane x.lanes, narrow := x.narrow || narrow || x.wasNarrow, phase := .draining, parked := false }
      ∧ SameBdsBut k b d s.dev t.dev ∧ OnlyIn (straitRegs k) s t { s.dev with mesh := { s.dev.mesh with bds := t.dev.mesh.bds } } := by
  subst isX
  obtain ⟨v, isV⟩ : ∃ v, v = modBd s.dev k b d (fun x => { x with lanes := insertNat lane x.lanes, narrow := x.narrow || narrow || x.wasNarrow }) := ⟨_, rfl⟩
  obtain ⟨w, isW⟩ : ∃ w, w = modBd v k b d (fun x => { x with phase := .draining, parked := false }) := ⟨_, rfl⟩
  obtain ⟨u, isU⟩ : ∃ u, u = setMode w k b d 2 := ⟨_, rfl⟩
  have room' : ¬ pausedCount v k d ≥ 2 := by
    rw [isV]
    exact Nat.not_le.mpr room
  have ran : askRepair s.dev k b d lane narrow = u := by
    unfold askRepair
    dsimp only
    rw [if_neg (by simp [enabled, mode, sound]; omega), phase]
    dsimp only
    rw [← isV]
    unfold beginPause
    rw [if_neg room', ← isW, isU]
  have shown : Shown (straitRegs k) s.dev u := by
    have first : Shown (straitRegs k) s.dev v := by
      rw [isV]
      exact shown_modBd _ _ _ _ _ _
    have second : Shown (straitRegs k) v w := by
      rw [isW]
      exact shown_modBd _ _ _ _ _ _
    rw [isU]
    exact (first.trans second).trans (shown_setMode_strait _ _ hb hd)
  have bds : u.mesh.bds = w.mesh.bds := by
    rw [isU]
    exact congrArg Mesh.bds (setMode_bds _ _)
  refine ⟨_, ?_, sameMem_finish (by rw [shown.rest]), ?_, ?_, ?_, shown.onlyIn⟩
  · obtain ⟨rfl, rfl⟩ | ⟨rfl, rfl⟩ := row
    · show perform s (fun s => onBd s k b d (fun s => askRepair s k b d lane false)) = _
      rw [perform_eq, onBd_known on hk hb hd, ran]
    · show perform s (fun s => onBd s k b d (fun s => askRepair s k b d lane true)) = _
      rw [perform_eq, onBd_known on hk hb hd, ran]
  · rw [bdMode_finish hk hb hd, isU]
    exact bdMode_setMode_same _ hk (by decide)
  · show bdAt u k b d = _
    rw [bdAt_congr bds, isW, bdAt_modBd_same, isV, bdAt_modBd_same]
  · intro j other
    show tget u.mesh.bds j = _
    rw [bds, isW, sameBdsBut_modBd _ _ _ _ _ j other, isV, sameBdsBut_modBd _ _ _ _ _ j other]

/-- A step that changes a bundle-direction alone. -/
theorem exec_modBd {c : Instr} {f : Dev → Dev} {g : Bd → Bd} (row : exec c s = perform s (fun s => onBd s k b d f)) (ran : f s.dev = modBd s.dev k b d g) :
    ∃ t, exec c s = .next t ∧ SameMem s.dev t.dev ∧ bdAt t.dev k b d = g (bdAt s.dev k b d) ∧ SameBdsBut k b d s.dev t.dev
      ∧ OnlyIn [] s t { s.dev with mesh := { s.dev.mesh with bds := t.dev.mesh.bds } } := by
  refine ⟨{ s with dev := finish (modBd s.dev k b d g) }, ?_, sameMem_finish rfl, bdAt_modBd_same s.dev k b d g, sameBdsBut_modBd s.dev k b d g, (shown_modBd [] s.dev k b d g).onlyIn⟩
  rw [row, perform_eq, onBd_known on hk hb hd, ran]

theorem exec_replayBufferDrained {x : Bd} (isX : x = bdAt s.dev k b d) (phase : x.phase = .draining) (empty : x.replay = []) (mode : bdMode s.dev k b d = 2)
    (wide : x.narrow = false) (spare : (freeSpare s.dev k b d).isSome) :
    ∃ t, exec (.replayBufferDrained k b d) s = .next t ∧ SameMem s.dev t.dev ∧ bdAt t.dev k b d = { x with phase := .training }
      ∧ SameBdsBut k b d s.dev t.dev ∧ OnlyIn [] s t { s.dev with mesh := { s.dev.mesh with bds := t.dev.mesh.bds } } := by
  subst isX
  refine exec_modBd (g := fun x => { x with phase := .training }) on hk hb hd (f := fun s => startTraining s k b d) rfl ?_
  have free : (freeSpare s.dev k b d).isNone = false := Option.isNone_eq_false_iff.mpr spare
  unfold startTraining
  dsimp only
  rw [if_neg (by simp [phase, empty, mode]), if_neg (by rw [wide, free]; decide)]

theorem exec_straitPark {x : Bd} (isX : x = bdAt s.dev k b d) (enabled : fget s.dev RF.PWR_IDLE_POLICY_STRAIT_PARK_US ≠ 0)
    (parks : b ≠ neverParks s.dev k d) (mode : bdMode s.dev k b d ≤ 1) (empty : x.replay = []) :
    ∃ t, exec (.straitPark k b d) s = .next t ∧ SameMem s.dev t.dev ∧ bdAt t.dev k b d = { x with parked := true } ∧ SameBdsBut k b d s.dev t.dev
      ∧ OnlyIn [] s t { s.dev with mesh := { s.dev.mesh with bds := t.dev.mesh.bds } } := by
  subst isX
  refine exec_modBd (g := fun x => { x with parked := true }) on hk hb hd rfl ?_
  exact if_neg (by simp [enabled, parks, empty]; omega)

theorem exec_straitUnpark {x : Bd} (isX : x = bdAt s.dev k b d) (parked : x.parked = true) (none' : s.dev.mesh.waiting = []) :
    ∃ t, exec (.straitUnpark k b d) s = .next t ∧ SameMem s.dev t.dev ∧ bdAt t.dev k b d = { x with parked := false } ∧ SameBdsBut k b d s.dev t.dev
      ∧ OnlyIn [] s t { s.dev with mesh := { s.dev.mesh with bds := t.dev.mesh.bds } } := by
  subst isX
  refine exec_modBd (g := fun x => { x with parked := false }) on hk hb hd rfl ?_
  exact (if_pos parked).trans (drainMesh_none none')

/-! ### Queries (R40, R45) -/

theorem exec_resyncQuery {x : Bd} (isX : x = bdAt s.dev k b d) : ∃ t, exec (.resyncQuery k b d) s = .next t ∧ SameMem s.dev t.dev
    ∧ OnlyIn [] s t { s.dev with out := s.dev.out ++ [.meshCtl k b d 6 ((x.rx + 2 ^ 32 - 1) % 2 ^ 32)] } := by
  subst isX
  refine ⟨{ s with dev := finish { s.dev with out := s.dev.out ++ [.meshCtl k b d 6 (((bdAt s.dev k b d).rx + 2 ^ 32 - 1) % 2 ^ 32)] } }, ?_, sameMem_finish rfl,
    onlyIn_finish rfl (fun _ _ _ => rfl)⟩
  show perform s (fun s => onBd s k b d _) = _
  rw [perform_eq, onBd_known on hk hb hd]

/-- A training that passes at full width leads to the switch. -/
theorem exec_laneTrainComplete_wide {x : Bd} (isX : x = bdAt s.dev k b d) (phase : x.phase = .training) (wide : x.narrow = false) :
    ∃ t, exec (.laneTrainComplete k b d true) s = .next t ∧ SameMem s.dev t.dev
      ∧ bdAt t.dev k b d = { x with phase := .switching } ∧ t.dev.out = s.dev.out ++ [.meshCtl k b d 3 0] ∧ SameBdsBut k b d s.dev t.dev
      ∧ OnlyIn [] s t { s.dev with mesh := { s.dev.mesh with bds := t.dev.mesh.bds }, out := t.dev.out } := by
  subst isX
  obtain ⟨w, isW⟩ : ∃ w, w = modBd s.dev k b d (fun x => { x with phase := .switching }) := ⟨_, rfl⟩
  have shown : Shown [] s.dev w := by
    rw [isW]
    exact shown_modBd _ _ _ _ _ _
  have ran : endTraining s.dev k b d true = { w with out := s.dev.out ++ [Out.meshCtl k b d 3 0] } := by
    unfold endTraining
    dsimp only
    rw [if_neg (not_not_intro phase), if_neg (by rw [wide]; decide), if_pos rfl, ← isW]
  refine ⟨{ s with dev := finish { w with out := s.dev.out ++ [Out.meshCtl k b d 3 0] } }, ?_, sameMem_finish ?_, ?_, rfl, ?_, shown.onlyIn_out _⟩
  · show perform s (fun s => onBd s k b d (fun s => endTraining s k b d true)) = _
    rw [perform_eq, onBd_known on hk hb hd, ran]
  · show w.dram = _
    rw [shown.rest]
  · show bdAt w k b d = _
    rw [isW, bdAt_modBd_same]
  · show SameBdsBut k b d s.dev w
    rw [isW]
    exact sameBdsBut_modBd _ _ _ _ _

end

end Sys2Proof.Machine
end

section
/-!
The mesh, second part: lanes that fail and spares that take their place, narrowing, loss of a bundle-direction, and what its sender sends again (R37 to R41).
-/
namespace Sys2Proof.Machine

/-! ### Steps that are entered in the log -/

/-- A step changes registers of a list, bundle-directions, and what flash and log hold. -/
structure Noted (l : List Nat) (s t : Dev) : Prop where
  regs : ∀ o, o ∉ l → regRead t o = regRead s o
  rest : t = { s with regs := t.regs, mesh := { s.mesh with bds := t.mesh.bds }, flash := t.flash, log := t.log }

namespace Noted

theorem trans {l : List Nat} {s t u : Dev} (h : Noted l s t) (k : Noted l t u) : Noted l s u := by
  refine ⟨fun o other => (k.regs o other).trans (h.regs o other), ?_⟩
  rw [k.rest, h.rest]

theorem mono {l l' : List Nat} {s t : Dev} (h : Noted l s t) (more : l ⊆ l') : Noted l' s t := ⟨fun o other => h.regs o (fun own => other (more own)), h.rest⟩

theorem fget {l : List Nat} {s t : Dev} (h : Noted l s t) {f : Fld} (other : f.off ∉ l) : fget t f = Machine.fget s f :=
  congrArg (fun v => bitsOf v _ _) (h.regs _ other)

theorem waiting {l : List Nat} {s t : Dev} (h : Noted l s t) : t.mesh.waiting = s.mesh.waiting := by rw [h.rest]

theorem dram {l : List Nat} {s t : Dev} (h : Noted l s t) : t.dram = s.dram := by rw [h.rest]

theorem onlyIn {l : List Nat} {s : State} {u : Dev} (h : Noted l s.dev u) : OnlyIn l s { s with dev := finish u }
    { s.dev with mesh := { s.dev.mesh with bds := u.mesh.bds }, flash := u.flash, log := u.log } := by
  refine onlyIn_finish ?_ (fun o others _ => h.regs o others)
  rw [h.rest]

end Noted

theorem Shown.noted {l l' : List Nat} {s t : Dev} (h : Shown l s t) (more : l ⊆ l') : Noted l' s t :=
  ⟨fun o other => h.regs o (fun own => other (more own)), by rw [h.rest]⟩

theorem OnlyLog.noted {s t : Dev} (h : OnlyLog s t) : Noted logRegs s t :=
  ⟨fun o other => h.regs o (fun own => other (mem_logRegs.mpr own)), by rw [h.rest]⟩

theorem noted_flash (l : List Nat) (s : Dev) (f : Flash) : Noted l s { s with flash := f } := ⟨fun _ _ => rfl, rfl⟩

theorem noted_logLanes (s : Dev) (k b d : Nat) (old : List Nat) : Noted logRegs s (logLanes s k b d old) :=
  (noted_flash _ s _).trans (onlyLog_logFw _ _ _ _ _).noted

theorem logLanes_bds (s : Dev) (k b d : Nat) (old : List Nat) : (logLanes s k b d old).mesh.bds = s.mesh.bds := by
  unfold logLanes
  rw [(onlyLog_logFw _ _ _ _ _).rest]

/-! ### Lanes (R37) -/

theorem bitOf_testBit (x i : Nat) : bitOf x i = x.testBit i := by
  rw [Nat.testBit_eq_decide_div_mod_eq]
  rfl

section
variable {k b d : Nat}

/-- The registers of lanes that a failed one shows in. -/
def laneShown (k b d : Nat) : List Nat := Reg.STR_BD_STATUS k b d :: laneRegList k b d

theorem shown_showLanes (s : Dev) : Shown [Reg.STR_BD_STATUS k b d] s (showLanes s k b d) :=
  (shown_fset s (RF.STR_BD_STATUS_GOOD_LANES k b d) _ (List.mem_singleton_self _)).trans
    (shown_fset _ (RF.STR_BD_STATUS_SPARES_LEFT k b d) _ (List.mem_singleton_self _))

theorem laneShown_status : [Reg.STR_BD_STATUS k b d] ⊆ laneShown k b d := List.cons_subset_cons _ (List.nil_subset _)

theorem shown_setSpare (s : Dev) (q v : Nat) : Shown (laneShown k b d) s (setSpare s k b d q v) :=
  shown_fset s _ _ (by simp [laneShown, laneRegList])

theorem shown_failLane (s : Dev) (p : Nat) : Shown (laneShown k b d) s (failLane s k b d p) := by
  unfold failLane
  dsimp only
  refine Shown.trans ?_ ((shown_showLanes _).mono laneShown_status)
  split
  · exact shown_regWrite s _ (by simp [laneShown, laneRegList])
  · exact (shown_fset s (RF.STR_BD_LANE_FAIL_HI_FAIL k b d) _ (by simp [laneShown, laneRegList, RF.STR_BD_LANE_FAIL_HI_FAIL])).trans (shown_setSpare _ _ _)

theorem testBit_failMask (s : Dev) (p : Nat) : bitOf (failMask s k b d) p
    = if p < 64 then (regRead s (Reg.STR_BD_LANE_FAIL_LO k b d)).testBit p else (fget s (RF.STR_BD_LANE_FAIL_HI_FAIL k b d)).testBit (p - 64) := by
  rw [bitOf_testBit]
  unfold failMask
  have small : regRead s (Reg.STR_BD_LANE_FAIL_LO k b d) < 2 ^ 64 := BitVec.isLt _
  rw [Nat.add_comm, Nat.testBit_two_pow_mul_add _ small]

/-- A lane that is marked failed is, and the others as before or failed. -/
theorem failMask_failLane (s : Dev) (p q : Nat) (failed : q = p ∧ p < 68 ∨ bitOf (failMask s k b d) q = true) :
    bitOf (failMask (failLane s k b d p) k b d) q = true := by
  have lo : Reg.STR_BD_LANE_FAIL_LO k b d = 0x120000 + 1024 * k + 128 * b + 64 * d + 0x10 := rfl
  have hi : Reg.STR_BD_LANE_FAIL_HI k b d = 0x120000 + 1024 * k + 128 * b + 64 * d + 0x18 := rfl
  have map : Reg.STR_BD_LANE_MAP k b d = 0x120000 + 1024 * k + 128 * b + 64 * d + 0x08 := rfl
  have status : Reg.STR_BD_STATUS k b d = 0x120000 + 1024 * k + 128 * b + 64 * d + 0x00 := rfl
  have spared (t : Dev) {o : Nat} (other : o ≠ Reg.STR_BD_STATUS k b d) : regRead (showLanes t k b d) o = regRead t o :=
    (shown_showLanes t).regs o (by simpa using other)
  rw [testBit_failMask] at failed ⊢
  unfold failLane
  dsimp only
  by_cases low : p < 64
  · rw [if_pos low]
    have highKept (v : Nat) : fget (regWrite s (Reg.STR_BD_LANE_FAIL_LO k b d) v) (RF.STR_BD_LANE_FAIL_HI_FAIL k b d)
        = fget s (RF.STR_BD_LANE_FAIL_HI_FAIL k b d) :=
      congrArg (fun v => bitsOf v _ _) (regRead_regWrite_other _ _ _ _ (show Reg.STR_BD_LANE_FAIL_HI k b d ≠ _ by omega))
    have highShown (t : Dev) : fget (showLanes t k b d) (RF.STR_BD_LANE_FAIL_HI_FAIL k b d) = fget t (RF.STR_BD_LANE_FAIL_HI_FAIL k b d) :=
      (shown_showLanes t).fget (by show Reg.STR_BD_LANE_FAIL_HI k b d ∉ _; simp only [List.mem_singleton]; omega)
    rw [spared _ (by omega), regRead_regWrite_same, highShown, highKept]
    by_cases own : q < 64
    · rw [if_pos own] at failed ⊢
      rw [Nat.testBit_mod_two_pow, Nat.testBit_or]
      obtain ⟨rfl, -⟩ | before := failed
      · simp [own, Nat.testBit_two_pow_self]
      · simp [own, before]
    · rw [if_neg own] at failed ⊢
      exact failed.resolve_left (by omega)
  · rw [if_neg low]
    have lowKept (t : Dev) {f : Fld} {v : Nat} (other : Reg.STR_BD_LANE_FAIL_LO k b d ≠ f.off) :
        regRead (fset t f v) (Reg.STR_BD_LANE_FAIL_LO k b d) = regRead t (Reg.STR_BD_LANE_FAIL_LO k b d) := regRead_fset_other _ _ _ _ other
    have highShown (t : Dev) : fget (showLanes t k b d) (RF.STR_BD_LANE_FAIL_HI_FAIL k b d) = fget t (RF.STR_BD_LANE_FAIL_HI_FAIL k b d) :=
      (shown_showLanes t).fget (by show Reg.STR_BD_LANE_FAIL_HI k b d ∉ _; simp only [List.mem_singleton]; omega)
    have highSpare (t : Dev) (v : Nat) : fget (setSpare t k b d (p - 64) v) (RF.STR_BD_LANE_FAIL_HI_FAIL k b d) = fget t (RF.STR_BD_LANE_FAIL_HI_FAIL k b d) :=
      fget_fset_reg _ _ _ _ (show Reg.STR_BD_LANE_FAIL_HI k b d ≠ Reg.STR_BD_LANE_MAP k b d by omega)
    rw [spared _ (by omega), highShown, highSpare, fget_fset_same _ _ _ (Nat.le_of_ble_eq_true rfl)]
    unfold setSpare
    rw [lowKept _ (show _ ≠ Reg.STR_BD_LANE_MAP k b d by omega), lowKept _ (show _ ≠ Reg.STR_BD_LANE_FAIL_HI k b d by omega)]
    by_cases own : q < 64
    · rw [if_pos own] at failed ⊢
      exact failed.resolve_left (by omega)
    · rw [if_neg own] at failed ⊢
      rw [show (RF.STR_BD_LANE_FAIL_HI_FAIL k b d).width = 4 from rfl, Nat.testBit_mod_two_pow, Nat.testBit_or]
      have inside (old : (fget s (RF.STR_BD_LANE_FAIL_HI_FAIL k b d)).testBit (q - 64) = true) : q - 64 < 4 := by
        by_contra far
        have width : (RF.STR_BD_LANE_FAIL_HI_FAIL k b d).width = 4 := rfl
        have narrow : fget s (RF.STR_BD_LANE_FAIL_HI_FAIL k b d) < 2 ^ (q - 64) :=
          lt_of_lt_of_le (bitsOf_lt _ _ _) (Nat.pow_le_pow_right (by decide) (by omega))
        rw [Nat.testBit_lt_two_pow narrow] at old
        exact absurd old (by decide)
      obtain ⟨rfl, small⟩ | before := failed
      · have room : q - 64 < 4 := by omega
        simp [room, Nat.testBit_two_pow_self]
      · simp [inside before, before]

theorem bds_failLane (s : Dev) (p : Nat) : (failLane s k b d p).mesh.bds = s.mesh.bds := by
  unfold failLane
  dsimp only
  split
  · rfl
  · rfl

end

/-! ### What a repair and a loss change -/

section
variable {s : State} {k b d : Nat} (on : meshOn s.dev = true) (hk : k < 110) (hb : b < 8) (hd : d < 2)

/-- The registers that a repair counted in `c` may change. -/
def repairRegs (k b d c : Nat) : List Nat := straitRegs k ++ laneRegList k b d ++ [c] ++ logRegs

theorem repairRegs_strait (k b d c : Nat) : straitRegs k ⊆ repairRegs k b d c :=
  fun _ own => List.mem_append_left _ (List.mem_append_left _ (List.mem_append_left _ own))

theorem repairRegs_count (k b d c : Nat) : c ∈ repairRegs k b d c := List.mem_append_left _ (List.mem_append_right _ (List.mem_singleton_self c))

theorem repairRegs_log (k b d c : Nat) : logRegs ⊆ repairRegs k b d c := List.subset_append_right _ _

include hb hd in
theorem repairRegs_lanes (c : Nat) : laneShown k b d ⊆ repairRegs k b d c := by
  refine List.cons_subset.mpr ⟨repairRegs_strait k b d c (straitRegs_status hb hd), fun _ own => ?_⟩
  exact List.mem_append_left _ (List.mem_append_left _ (List.mem_append_right _ own))

include hk in
/-- A register of the straits lies among theirs. -/
theorem straitRegs_place {o : Nat} (own : o ∈ straitRegs k) :
    0x110000 ≤ o ∧ o < 0x110018 ∨ 0x110100 ≤ o ∧ o < 0x110470 ∨ 0x120000 ≤ o ∧ o < 0x13B800 ∧ o % 64 = 0 := by
  unfold straitRegs at own
  obtain own | own := List.mem_append.mp own
  · simp only [List.mem_cons, List.not_mem_nil, or_false] at own
    have strait : Reg.STR_STRAIT_STATUS k = 0x110100 + 8 * k := rfl
    have mesh : Reg.STR_MESH_STATUS = 0x110000 := rfl
    have bw : Reg.STR_MESH_BW = 0x110008 := rfl
    have edge : Reg.STR_EDGE_BW = 0x110010 := rfl
    omega
  · obtain ⟨j, below, rfl⟩ := List.mem_map.mp own
    have small := List.mem_range.mp below
    have place : Reg.STR_BD_STATUS k (j / 2) (j % 2) = 0x120000 + 1024 * k + 128 * (j / 2) + 64 * (j % 2) + 0 := rfl
    omega

theorem logRegs_high : ∀ o ∈ logRegs, 0x1E0000 ≤ o := by decide

include hk hb hd

/-- A counter of the mesh is none of the registers of straits, lanes and log. -/
theorem counter_apart {o : Nat} (low : 0x110040 ≤ o) (high : o < 0x110070) : o ∉ straitRegs k ∧ o ∉ laneShown k b d ∧ o ∉ logRegs := by
  refine ⟨fun own => ?_, fun own => ?_, fun own => ?_⟩
  · have place := straitRegs_place hk own
    omega
  · have map : Reg.STR_BD_LANE_MAP k b d = 0x120000 + 1024 * k + 128 * b + 64 * d + 0x08 := rfl
    have lo : Reg.STR_BD_LANE_FAIL_LO k b d = 0x120000 + 1024 * k + 128 * b + 64 * d + 0x10 := rfl
    have hi : Reg.STR_BD_LANE_FAIL_HI k b d = 0x120000 + 1024 * k + 128 * b + 64 * d + 0x18 := rfl
    have status : Reg.STR_BD_STATUS k b d = 0x120000 + 1024 * k + 128 * b + 64 * d + 0x00 := rfl
    simp only [laneShown, laneRegList, List.mem_cons, List.not_mem_nil, or_false] at own
    omega
  · have := logRegs_high _ own
    omega

/-- The lane registers are none of those of straits and log. -/
theorem lanes_apart {o : Nat} (own : o ∈ laneRegList k b d) : o ∉ straitRegs k ∧ o ∉ logRegs ∧ o ≠ 0x150000 := by
  have map : Reg.STR_BD_LANE_MAP k b d = 0x120000 + 1024 * k + 128 * b + 64 * d + 0x08 := rfl
  have lo : Reg.STR_BD_LANE_FAIL_LO k b d = 0x120000 + 1024 * k + 128 * b + 64 * d + 0x10 := rfl
  have hi : Reg.STR_BD_LANE_FAIL_HI k b d = 0x120000 + 1024 * k + 128 * b + 64 * d + 0x18 := rfl
  simp only [laneRegList, List.mem_cons, List.not_mem_nil, or_false] at own
  refine ⟨fun strait => ?_, fun log => ?_, ?_⟩
  · have place := straitRegs_place hk strait
    omega
  · have := logRegs_high _ log
    omega
  · omega

omit hk hb hd in
/-- The failed lanes are read from two lane registers. -/
theorem failMask_congr {u t : Dev} (same : ∀ o ∈ laneRegList k b d, regRead t o = regRead u o) : failMask t k b d = failMask u k b d := by
  unfold failMask fget
  rw [same _ (by simp [laneRegList]), same (RF.STR_BD_LANE_FAIL_HI_FAIL k b d).off (by simp [laneRegList, RF.STR_BD_LANE_FAIL_HI_FAIL])]

theorem failMask_finish (u : Dev) : failMask (finish u) k b d = failMask u k b d :=
  failMask_congr (fun _ own => regRead_finish _ _ (lanes_apart hk hb hd own).2.2)

include on

theorem exec_laneTrainComplete_narrow {x : Bd} (isX : x = bdAt s.dev k b d) (phase : x.phase = .training) (narrow : x.narrow = true)
    (none' : s.dev.mesh.waiting = []) (lanes : ∀ p ∈ x.lanes, p < 68) :
    ∃ t, exec (.laneTrainComplete k b d true) s = .next t ∧ SameMem s.dev t.dev
      ∧ bdMode t.dev k b d = 1 ∧ (bdAt t.dev k b d).wasNarrow = true ∧ (bdAt t.dev k b d).phase = .running
      ∧ regRead t.dev Reg.STR_CNT_NARROWINGS = (regRead s.dev Reg.STR_CNT_NARROWINGS + 1) % 2 ^ 64
      ∧ (∀ p ∈ x.lanes, bitOf (failMask t.dev k b d) p = true)
      ∧ OnlyIn (straitRegs k ++ laneRegList k b d ++ [Reg.STR_CNT_NARROWINGS] ++ logRegs) s t
          { s.dev with mesh := { s.dev.mesh with bds := t.dev.mesh.bds }, flash := t.dev.flash, log := t.dev.log } := by
  obtain ⟨v, isV⟩ : ∃ v, v = bump s.dev Reg.STR_CNT_NARROWINGS := ⟨_, rfl⟩
  obtain ⟨w, isW⟩ : ∃ w, w = x.lanes.foldl (fun s p => failLane s k b d p) v := ⟨_, rfl⟩
  obtain ⟨y, isY⟩ : ∃ y, y = fset w (RF.STR_BD_STATUS_MODE k b d) 1 := ⟨_, rfl⟩
  obtain ⟨z, isZ⟩ : ∃ z, z = logLanes y k b d (laneRegs s.dev k b d) := ⟨_, rfl⟩
  have toV : Noted (repairRegs k b d Reg.STR_CNT_NARROWINGS) s.dev v := by
    rw [isV]
    exact (shown_regWrite _ _ (List.mem_singleton_self _)).noted (List.cons_subset.mpr ⟨repairRegs_count _ _ _ _, List.nil_subset _⟩)
  have lanesW : Shown (laneShown k b d) v w := by
    rw [isW]
    exact .foldl _ (fun p _ t => shown_failLane t p) v
  have statusY : Shown [Reg.STR_BD_STATUS k b d] w y := by
    rw [isY]
    exact shown_fset _ (RF.STR_BD_STATUS_MODE k b d) _ (List.mem_singleton_self _)
  have logZ : Noted logRegs y z := by
    rw [isZ]
    exact noted_logLanes _ _ _ _ _
  have toZ : Noted (repairRegs k b d Reg.STR_CNT_NARROWINGS) s.dev z :=
    ((toV.trans (lanesW.noted (repairRegs_lanes hb hd _))).trans (statusY.noted (List.Subset.trans laneShown_status (repairRegs_lanes hb hd _)))).trans
      (logZ.mono (repairRegs_log _ _ _ _))
  obtain ⟨shown, mode, bd⟩ := resumeBd_leaves z hk hb hd true (toZ.waiting.trans none')
  obtain ⟨u, isU⟩ : ∃ u, u = resumeBd z k b d true := ⟨_, rfl⟩
  have ran : endTraining s.dev k b d true = u := by
    unfold endTraining
    dsimp only
    rw [← isX, if_neg (not_not_intro phase), if_pos narrow, if_pos rfl, ← isV, ← isW, ← isY, ← isZ, isU]
  rw [← isU] at shown mode bd
  have toU : Noted (repairRegs k b d Reg.STR_CNT_NARROWINGS) s.dev u := toZ.trans (shown.noted (repairRegs_strait _ _ _ _))
  have failed : ∀ p ∈ x.lanes, bitOf (failMask w k b d) p = true := by
    intro p member
    rw [isW]
    exact foldl_reaches (fun t => bitOf (failMask t k b d) p = true) _ (fun t q before => failMask_failLane t q p (.inr before)) member
      (fun t => failMask_failLane t p p (.inl ⟨rfl, lanes p member⟩)) v
  have kept (o : Nat) (own : o ∈ laneRegList k b d) : regRead u o = regRead w o := by
    obtain ⟨strait, log, -⟩ := lanes_apart hk hb hd own
    rw [shown.regs o strait, logZ.regs o log, statusY.regs o (fun status => strait (List.mem_singleton.mp status ▸ straitRegs_status hb hd))]
  have bdZ : bdAt z k b d = x := by
    rw [isX]
    refine bdAt_congr ?_ k b d
    rw [isZ, logLanes_bds, isY]
    show w.mesh.bds = _
    have bdsW : w.mesh.bds = v.mesh.bds := by
      rw [isW]
      exact List.foldlRecOn (motive := fun t : Dev => t.mesh.bds = v.mesh.bds) _ _ rfl (fun t same p _ => (bds_failLane t p).trans same)
    rw [bdsW, isV, bump, bumpBy_mesh]
  rw [bdZ] at bd
  refine ⟨{ s with dev := finish u }, ?_, sameMem_finish toU.dram, (bdMode_finish hk hb hd u).trans mode, ?_, ?_, ?_, ?_, toU.onlyIn⟩
  · show perform s (fun s => onBd s k b d (fun s => endTraining s k b d true)) = _
    rw [perform_eq, onBd_known on hk hb hd, ran]
  · show (bdAt u k b d).wasNarrow = true
    rw [bd]
    rfl
  · show (bdAt u k b d).phase = .running
    rw [bd]
    rfl
  · obtain ⟨strait, lane, log⟩ := counter_apart (o := Reg.STR_CNT_NARROWINGS) hk hb hd (by decide) (by decide)
    refine (regRead_finish _ _ (by decide)).trans ?_
    rw [shown.regs _ strait, logZ.regs _ log, statusY.regs _ (fun status => lane (laneShown_status status)), lanesW.regs _ lane, isV]
    exact regRead_bump_same _ _
  · intro p member
    show bitOf (failMask (finish u) k b d) p = true
    rw [failMask_finish hk hb hd, failMask_congr kept]
    exact failed p member

/-! ### A spare takes a lane's place (R37, R38) -/

theorem exec_rotateAck {x : Bd} (isX : x = bdAt s.dev k b d) {p q : Nat} (phase : x.phase = .switching) (lanes : x.lanes = List.cons p [])
    (spare : freeSpare s.dev k b d = some q) (small : p < 64) (own : ∀ j, j < 4 → spareOf s.dev k b d j ≠ p) (none' : s.dev.mesh.waiting = []) :
    ∃ t, exec (.rotateAck k b d true) s = .next t ∧ SameMem s.dev t.dev ∧ bdMode t.dev k b d = 0 ∧ (bdAt t.dev k b d).phase = .running
      ∧ spareOf t.dev k b d q = p ∧ bitOf (failMask t.dev k b d) p = true
      ∧ regRead t.dev Reg.STR_CNT_ROTATIONS = (regRead s.dev Reg.STR_CNT_ROTATIONS + 1) % 2 ^ 64
      ∧ OnlyIn (straitRegs k ++ laneRegList k b d ++ [Reg.STR_CNT_ROTATIONS] ++ logRegs) s t
          { s.dev with mesh := { s.dev.mesh with bds := t.dev.mesh.bds }, flash := t.dev.flash, log := t.dev.log } := by
  have carried : carries s.dev k b d p = some p := by
    have alone : (List.range 4).any (fun q => spareOf s.dev k b d q == p) = false :=
      List.any_eq_false.mpr (fun j member => by simpa using own j (List.mem_range.mp member))
    unfold carries
    rw [if_pos small, if_neg (by rw [alone]; decide)]
  have known : q < 4 := lowest_lt spare
  obtain ⟨v, isV⟩ : ∃ v, v = setSpare s.dev k b d q p := ⟨_, rfl⟩
  obtain ⟨w, isW⟩ : ∃ w, w = failLane v k b d p := ⟨_, rfl⟩
  obtain ⟨c, isC⟩ : ∃ c, c = bump w Reg.STR_CNT_ROTATIONS := ⟨_, rfl⟩
  obtain ⟨y, isY⟩ : ∃ y, y = fsat c (RF.STR_BD_STATUS_ROTATIONS k b d) 1 := ⟨_, rfl⟩
  obtain ⟨z, isZ⟩ : ∃ z, z = logLanes y k b d (laneRegs s.dev k b d) := ⟨_, rfl⟩
  obtain ⟨a, isA⟩ : ∃ a, a = modBd z k b d (fun x => { x with lanes := [], phase := .training }) := ⟨_, rfl⟩
  have lanesV : Shown (laneShown k b d) s.dev v := by
    rw [isV]
    exact shown_setSpare _ _ _
  have lanesW : Shown (laneShown k b d) v w := by
    rw [isW]
    exact shown_failLane _ _
  have countC : Shown [Reg.STR_CNT_ROTATIONS] w c := by
    rw [isC]
    exact shown_regWrite _ _ (List.mem_singleton_self _)
  have statusY : Shown [Reg.STR_BD_STATUS k b d] c y := by
    rw [isY]
    exact shown_fset _ (RF.STR_BD_STATUS_ROTATIONS k b d) _ (List.mem_singleton_self _)
  have logZ : Noted logRegs y z := by
    rw [isZ]
    exact noted_logLanes _ _ _ _ _
  have bdA : Shown [] z a := by
    rw [isA]
    exact shown_modBd _ _ _ _ _ _
  have toC : Noted (repairRegs k b d Reg.STR_CNT_ROTATIONS) s.dev c :=
    ((lanesV.trans lanesW).noted (repairRegs_lanes hb hd _)).trans (countC.noted (List.cons_subset.mpr ⟨repairRegs_count _ _ _ _, List.nil_subset _⟩))
  have toA : Noted (repairRegs k b d Reg.STR_CNT_ROTATIONS) s.dev a :=
    ((toC.trans (statusY.noted (List.Subset.trans laneShown_status (repairRegs_lanes hb hd _)))).trans (logZ.mono (repairRegs_log _ _ _ _))).trans
      (bdA.noted (List.nil_subset _))
  obtain ⟨shown, mode, bd⟩ := resumeBd_leaves a hk hb hd false (toA.waiting.trans none')
  obtain ⟨u, isU⟩ : ∃ u, u = resumeBd a k b d false := ⟨_, rfl⟩
  have ran : switchLane s.dev k b d true = u := by
    unfold switchLane
    dsimp only
    rw [← isX, phase, lanes, spare]
    dsimp only
    rw [carried]
    dsimp only
    rw [if_neg (by decide), if_pos List.isEmpty_nil, isU, isA, isZ, isY, isC, isW, isV]
  rw [← isU] at shown mode bd
  have toU : Noted (repairRegs k b d Reg.STR_CNT_ROTATIONS) s.dev u := toA.trans (shown.noted (repairRegs_strait _ _ _ _))
  have kept (o : Nat) (own : o ∈ laneRegList k b d) : regRead u o = regRead w o := by
    obtain ⟨strait, log, -⟩ := lanes_apart hk hb hd own
    have count : o ∉ [Reg.STR_CNT_ROTATIONS] := by
      intro same
      have := (counter_apart (o := Reg.STR_CNT_ROTATIONS) hk hb hd (by decide) (by decide)).2.1
      exact this (List.mem_singleton.mp same ▸ List.mem_cons_of_mem _ own)
    rw [shown.regs o strait, bdA.regs o List.not_mem_nil, logZ.regs o log,
      statusY.regs o (fun status => strait (List.mem_singleton.mp status ▸ straitRegs_status hb hd)), countC.regs o count]
  have spared : spareOf w k b d q = p := by
    have untouched : regRead w (Reg.STR_BD_LANE_MAP k b d) = regRead v (Reg.STR_BD_LANE_MAP k b d) := by
      have lo : Reg.STR_BD_LANE_FAIL_LO k b d = 0x120000 + 1024 * k + 128 * b + 64 * d + 0x10 := rfl
      have map : Reg.STR_BD_LANE_MAP k b d = 0x120000 + 1024 * k + 128 * b + 64 * d + 0x08 := rfl
      have status : Reg.STR_BD_STATUS k b d = 0x120000 + 1024 * k + 128 * b + 64 * d + 0x00 := rfl
      rw [isW]
      unfold failLane
      dsimp only
      rw [if_pos small, (shown_showLanes _).regs _ (by simp only [List.mem_singleton]; omega), regRead_regWrite_other _ _ _ _ (by omega)]
    unfold spareOf
    rw [untouched, isV]
    show fget (setSpare s.dev k b d q p) ⟨Reg.STR_BD_LANE_MAP k b d, 8 * q, 8⟩ = p
    unfold setSpare
    rw [fget_fset_same _ _ _ (by show 8 * q + 8 ≤ 64; omega)]
    exact Nat.mod_eq_of_lt (by show p < 2 ^ 8; omega)
  refine ⟨{ s with dev := finish u }, ?_, sameMem_finish toU.dram, (bdMode_finish hk hb hd u).trans mode, ?_, ?_, ?_, ?_, toU.onlyIn⟩
  · show perform s (fun s => onBd s k b d (fun s => switchLane s k b d true)) = _
    rw [perform_eq, onBd_known on hk hb hd, ran]
  · show (bdAt u k b d).phase = .running
    rw [bd]
    rfl
  · have map : Reg.STR_BD_LANE_MAP k b d ∈ laneRegList k b d := List.mem_cons_self
    rw [← spared]
    unfold spareOf
    rw [← kept _ map]
    exact congrArg (fun v => bitsOf v _ _) (regRead_finish _ _ (lanes_apart hk hb hd map).2.2)
  · show bitOf (failMask (finish u) k b d) p = true
    rw [failMask_finish hk hb hd, failMask_congr kept, isW]
    exact failMask_failLane v p p (.inl ⟨rfl, by omega⟩)
  · obtain ⟨strait, lane, log⟩ := counter_apart (o := Reg.STR_CNT_ROTATIONS) hk hb hd (by decide) (by decide)
    refine (regRead_finish _ _ (by decide)).trans ?_
    rw [shown.regs _ strait, bdA.regs _ List.not_mem_nil, logZ.regs _ log, statusY.regs _ (fun status => lane (laneShown_status status)), isC,
      regRead_bump_same, lanesW.regs _ lane, lanesV.regs _ lane]

/-! ### Loss and retraining (R35, R40) -/

theorem exec_bundleRetrainComplete {x : Bd} (isX : x = bdAt s.dev k b d) (phase : x.phase = .retraining) (none' : s.dev.mesh.waiting = []) :
    ∃ t, exec (.bundleRetrainComplete k b d true) s = .next t ∧ SameMem s.dev t.dev ∧ bdMode t.dev k b d = (if x.wasNarrow then 1 else 0)
      ∧ (bdAt t.dev k b d).phase = .running ∧ (bdAt t.dev k b d).fails = 0 ∧ (bdAt t.dev k b d).wasNarrow = x.wasNarrow
      ∧ OnlyIn (straitRegs k) s t { s.dev with mesh := { s.dev.mesh with bds := t.dev.mesh.bds } } := by
  obtain ⟨shown, mode, bd⟩ := resumeBd_leaves s.dev hk hb hd x.wasNarrow none'
  obtain ⟨u, isU⟩ : ∃ u, u = resumeBd s.dev k b d x.wasNarrow := ⟨_, rfl⟩
  rw [← isU] at shown mode bd
  refine ⟨{ s with dev := finish u }, ?_, sameMem_finish (by rw [shown.rest]), ?_, ?_, ?_, ?_, shown.onlyIn⟩
  · show perform s (fun s => onBd s k b d _) = _
    rw [perform_eq, onBd_known on hk hb hd]
    dsimp only
    rw [← isX, if_neg (not_not_intro phase), if_pos rfl, isU]
  · refine (bdMode_finish hk hb hd u).trans (mode.trans ?_)
    rfl
  · show (bdAt u k b d).phase = .running
    rw [bd]
    rfl
  · show (bdAt u k b d).fails = 0
    rw [bd]
    rfl
  · show (bdAt u k b d).wasNarrow = _
    rw [bd]
    rfl

end

end Sys2Proof.Machine
end

section
/-!
The mesh, third part: loss of a bundle-direction and what its sender sends again, a router that fails, and the switch to other tables (R40, R44 to R47).
-/
namespace Sys2Proof.Machine

section
variable {s : State} {k b d : Nat} (on : meshOn s.dev = true) (hk : k < 110) (hb : b < 8) (hd : d < 2)

/-! ### Loss of a bundle-direction (R40) -/

include on hk hb hd in
theorem exec_bundleDirectionLoss {x : Bd} (isX : x = bdAt s.dev k b d) (mode : bdMode s.dev k b d ≠ 3) (left : ∃ j, j < 8 ∧ j ≠ b ∧ bdMode s.dev k j d ≠ 3) :
    ∃ t, exec (.bundleDirectionLoss k b d) s = .next t ∧ SameMem s.dev t.dev ∧ bdMode t.dev k b d = 3
      ∧ t.dev.out = s.dev.out ++ [.meshCtl k b d 6 ((x.rx + 2 ^ 32 - 1) % 2 ^ 32)]
      ∧ regRead t.dev Reg.STR_CNT_BUNDLE_LOSSES = (regRead s.dev Reg.STR_CNT_BUNDLE_LOSSES + 1) % 2 ^ 64
      ∧ OnlyIn (straitRegs k ++ [Reg.STR_CNT_BUNDLE_LOSSES] ++ logRegs) s t
          { s.dev with mesh := { s.dev.mesh with bds := t.dev.mesh.bds }, out := t.dev.out, flash := t.dev.flash, log := t.dev.log } := by
  subst isX
  obtain ⟨l, isL⟩ : ∃ l, l = straitRegs k ++ [Reg.STR_CNT_BUNDLE_LOSSES] ++ logRegs := ⟨_, rfl⟩
  have strait : straitRegs k ⊆ l := by
    rw [isL]
    exact fun _ own => List.mem_append_left _ (List.mem_append_left _ own)
  have count : Reg.STR_CNT_BUNDLE_LOSSES ∈ l := by
    rw [isL]
    exact List.mem_append_left _ (List.mem_append_right _ (List.mem_singleton_self _))
  have log : logRegs ⊆ l := by
    rw [isL]
    exact List.subset_append_right _ _
  obtain ⟨v, isV⟩ : ∃ v, v = bump s.dev Reg.STR_CNT_BUNDLE_LOSSES := ⟨_, rfl⟩
  obtain ⟨w, isW⟩ : ∃ w, w = modBd v k b d (fun x => { x with phase := .running, lanes := [], parked := false }) := ⟨_, rfl⟩
  obtain ⟨y, isY⟩ : ∃ y, y = setMode w k b d 3 := ⟨_, rfl⟩
  obtain ⟨z, isZ⟩ : ∃ z, z = logLanes y k b d (laneRegs s.dev k b d) := ⟨_, rfl⟩
  obtain ⟨a, isA⟩ : ∃ a, a = { z with out := z.out ++ [Out.meshCtl k b d 6 (((bdAt s.dev k b d).rx + 2 ^ 32 - 1) % 2 ^ 32)] } := ⟨_, rfl⟩
  have countV : Shown [Reg.STR_CNT_BUNDLE_LOSSES] s.dev v := by
    rw [isV]
    exact shown_regWrite _ _ (List.mem_singleton_self _)
  have bdW : Shown [] v w := by
    rw [isW]
    exact shown_modBd _ _ _ _ _ _
  have modeY : Shown (straitRegs k) w y := by
    rw [isY]
    exact shown_setMode_strait _ _ hb hd
  have logZ : Noted logRegs y z := by
    rw [isZ]
    exact noted_logLanes _ _ _ _ _
  have toZ : Noted l s.dev z := by
    refine Noted.trans ?_ (logZ.mono log)
    exact ((countV.noted (List.cons_subset.mpr ⟨count, List.nil_subset _⟩)).trans (bdW.noted (List.nil_subset _))).trans (modeY.noted strait)
  have bdsZ : z.mesh.bds = w.mesh.bds := by
    rw [isZ, logLanes_bds, isY]
    exact congrArg Mesh.bds (setMode_bds _ _)
  have bdZ : bdAt z k b d = { bdAt s.dev k b d with phase := .running, lanes := [], parked := false } := by
    rw [bdAt_congr bdsZ, isW, bdAt_modBd_same, bdAt_congr (s := s.dev) (by rw [isV, bump, bumpBy_mesh])]
  have modeZ {b' : Nat} (hb' : b' < 8) : bdMode z k b' d = bdMode y k b' d := logZ.fget (fun own => by
    have high := logRegs_high _ own
    have place : (RF.STR_BD_STATUS_MODE k b' d).off = 0x120000 + 1024 * k + 128 * b' + 64 * d := rfl
    omega)
  have lost : bdMode z k b d = 3 := by
    rw [modeZ hb, isY]
    exact bdMode_setMode_same _ hk (by decide)
  have some' : (List.range 8).all (fun b => bdMode z k b d == 3) = false := by
    obtain ⟨j, hj, other, up⟩ := left
    refine List.all_eq_false.mpr ⟨j, List.mem_range.mpr hj, ?_⟩
    have same : bdMode z k j d = bdMode s.dev k j d := by
      have apart : Reg.STR_BD_STATUS k j d ≠ Reg.STR_BD_STATUS k b d := by
        show 0x120000 + 1024 * k + 128 * j + 64 * d + 0 ≠ 0x120000 + 1024 * k + 128 * b + 64 * d + 0
        omega
      have counted : bdMode v k j d = bdMode s.dev k j d := countV.fget (fun own => by
        have same := List.mem_singleton.mp own
        have place : (RF.STR_BD_STATUS_MODE k j d).off = 0x120000 + 1024 * k + 128 * j + 64 * d := rfl
        have counter : Reg.STR_CNT_BUNDLE_LOSSES = 0x110050 := rfl
        omega)
      rw [modeZ hj, isY, bdMode_setMode_other _ _ hk apart, isW]
      exact counted
    rw [same]
    simpa using up
  have bdA : bdAt a k b d = bdAt z k b d := by rw [isA]; rfl
  have modeA : bdMode a k b d = bdMode z k b d := by rw [isA]; rfl
  obtain ⟨u, isU⟩ : ∃ u, u = nextPause a k d := ⟨_, rfl⟩
  have shown : Shown (straitRegs k) a u := by
    rw [isU]
    exact shown_nextPause a hd
  have modeU : bdMode u k b d = 3 := by
    rw [isU, (nextPause_others a hk hb hd (by rw [bdA, bdZ]; exact BdPhase.noConfusion)).2, modeA, lost]
  have ran : loseBd s.dev k b d = u := by
    unfold loseBd
    dsimp only
    rw [if_neg mode, ← isV, ← isW, ← isY, ← isZ, if_neg (by rw [some']; decide), bdZ, isU, isA]
  have out : u.out = s.dev.out ++ [.meshCtl k b d 6 (((bdAt s.dev k b d).rx + 2 ^ 32 - 1) % 2 ^ 32)] := by
    rw [shown.rest, isA]
    show z.out ++ _ = _
    rw [toZ.rest]
  have regsA (o : Nat) : regRead a o = regRead z o := by rw [isA]; rfl
  refine ⟨{ s with dev := finish u }, ?_, sameMem_finish ?_, (bdMode_finish hk hb hd u).trans modeU, out, ?_, onlyIn_finish ?_ ?_⟩
  · show perform s (fun s => onBd s k b d (fun s => loseBd s k b d)) = _
    rw [perform_eq, onBd_known on hk hb hd, ran]
  · rw [shown.rest, isA]
    exact toZ.dram
  · obtain ⟨strait', -, log'⟩ := counter_apart (o := Reg.STR_CNT_BUNDLE_LOSSES) hk hb hd (by decide) (by decide)
    refine (regRead_finish _ _ (by decide)).trans ?_
    rw [shown.regs _ strait', regsA, logZ.regs _ log', modeY.regs _ strait', bdW.regs _ List.not_mem_nil, isV]
    exact regRead_bump_same _ _
  · show u = _
    rw [shown.rest, isA, toZ.rest]
    rfl
  · intro o others _
    rw [← isL] at others
    rw [shown.regs _ (fun own => others (strait own)), regsA, toZ.regs _ others]

/-! ### What the sender sends again (R40) -/

/-- A step of the mesh that changes no register. -/
structure Placed (k b d : Nat) (s t : Dev) : Prop where
  rest : t = { s with mesh := t.mesh, out := t.out }
  bd : bdMode s k b d = 3 → bdAt t k b d = bdAt s k b d

theorem pickBundle_takes {v : Dev} {k d vc b : Nat} (picked : pickBundle v k d vc = some b) : b < 8 ∧ bdTakes v k b d = true := by
  have awake {m b : Nat} (found : lowest 8 (fun b => bdTakes v k b d && bdMode v k b d == m && !(bdAt v k b d).parked) = some b) :
      b < 8 ∧ bdTakes v k b d = true := by
    have holds := lowestFrom_holds (i := 0) found
    simp only [Bool.and_eq_true] at holds
    exact ⟨lowest_lt found, holds.1.1⟩
  unfold pickBundle at picked
  split at picked
  · dsimp only at picked
    cases full : lowest 8 (fun b => bdTakes v k b d && bdMode v k b d == 0 && !(bdAt v k b d).parked) with
    | some j =>
      rw [full] at picked
      obtain rfl := Option.some.inj picked
      exact awake full
    | none =>
      cases half : lowest 8 (fun b => bdTakes v k b d && bdMode v k b d == 1 && !(bdAt v k b d).parked) with
      | some j =>
        rw [full, half] at picked
        obtain rfl := Option.some.inj picked
        exact awake half
      | none =>
        rw [full, half] at picked
        exact ⟨lowest_lt picked, lowestFrom_holds (p := fun b => bdTakes v k b d) (i := 0) picked⟩
  · obtain ⟨i, found, rfl⟩ := Option.map_eq_some_iff.mp picked
    exact ⟨Nat.mod_lt _ (by decide), lowestFrom_holds (p := fun i => bdTakes v k ((tgetD v.mesh.last (2 * k + d) 7 + 1 + i) % 8) d) (i := 0) found⟩

include hb hd in
theorem placed_placeMesh (v : Dev) (n : Nat) (kin : Option Nat) (f : BitVec 2048) : Placed k b d v (placeMesh v n kin f) := by
  unfold placeMesh
  dsimp only
  split
  · exact ⟨rfl, fun _ => rfl⟩
  · next j picked =>
    refine ⟨rfl, fun lost => ?_⟩
    split at picked
    · obtain ⟨known, takes⟩ := pickBundle_takes picked
      obtain ⟨k', isK⟩ : ∃ k', k' = routeStrait v n (flitDest f) (tgetD v.mesh.last (1000 + n) 0) := ⟨_, rfl⟩
      rw [← isK] at takes ⊢
      refine congrArg (fun o : Option Bd => o.getD Bd.reset) (tget_tset_other _ _ _ _ (fun same => ?_))
      have direction : dirFrom k' n < 2 := by
        unfold dirFrom
        split
        · decide
        · decide
      obtain ⟨rfl, rfl, isD⟩ := bdKey_inj hb hd known direction same
      unfold bdTakes at takes
      rw [← isD, lost] at takes
      exact absurd takes (by simp)
    · exact absurd picked (by simp)

theorem Placed.trans {v w u : Dev} (h : Placed k b d v w) (g : Placed k b d w u) : Placed k b d v u := by
  refine ⟨?_, fun lost => ?_⟩
  · rw [g.rest, h.rest]
  · have still : bdMode w k b d = 3 := by
      rw [← lost, h.rest]
      rfl
    rw [g.bd still, h.bd lost]

include on hk hb hd in
theorem exec_resyncReply {x : Bd} (isX : x = bdAt s.dev k b d) (last : Nat) (mode : bdMode s.dev k b d = 3) :
    ∃ t, exec (.resyncReply k b d last) s = .next t ∧ SameMem s.dev t.dev ∧ (bdAt t.dev k b d).replay = []
      ∧ (flitsBeyond last x.replay = [] → t.dev.out = s.dev.out ∧ SameBdsBut k b d s.dev t.dev)
      ∧ OnlyIn [] s t { s.dev with mesh := t.dev.mesh, out := t.dev.out } := by
  subst isX
  obtain ⟨v, isV⟩ : ∃ v, v = modBd s.dev k b d (fun x => { x with replay := [] }) := ⟨_, rfl⟩
  obtain ⟨u, isU⟩ : ∃ u, u = (flitsBeyond last (bdAt s.dev k b d).replay).foldl (fun s p => placeMesh s (sender k d) none p.2) v := ⟨_, rfl⟩
  have placed : Placed k b d v u := by
    rw [isU]
    exact List.foldlRecOn (motive := Placed k b d v) _ _ ⟨rfl, fun _ => rfl⟩ (fun t before p _ => before.trans (placed_placeMesh hb hd t _ _ _))
  have lost : bdMode v k b d = 3 := by
    rw [isV]
    exact mode
  have ran : resendLost s.dev k b d last = u := by
    unfold resendLost
    dsimp only
    rw [if_neg (not_not_intro mode), ← isV, isU]
  have rest : u = { s.dev with mesh := u.mesh, out := u.out } := by
    rw [placed.rest, isV]
    rfl
  refine ⟨{ s with dev := finish u }, ?_, sameMem_finish (by rw [rest]), ?_, ?_, onlyIn_finish ?_ ?_⟩
  · show perform s (fun s => onBd s k b d (fun s => resendLost s k b d last)) = _
    rw [perform_eq, onBd_known on hk hb hd, ran]
  · show (bdAt u k b d).replay = []
    rw [placed.bd lost, isV, bdAt_modBd_same]
  · intro none'
    show u.out = s.dev.out ∧ SameBdsBut k b d s.dev u
    rw [none', List.foldl_nil] at isU
    rw [isU, isV]
    exact ⟨rfl, sameBdsBut_modBd _ _ _ _ _⟩
  · show u = _
    rw [rest]
    rfl
  · intro o _ _
    rw [rest]
    rfl

end

end Sys2Proof.Machine
end

section
/-!
The mesh, fourth part: lost straits and the switch to other tables (R44 to R47), and the mesh together.
-/
namespace Sys2Proof.Machine

/-! ### Loss of straits (R41, R45) -/

/-- A step changes registers of a list, the mesh, what went out, and what flash and log hold. -/
structure Rerouted (l : List Nat) (s t : Dev) : Prop where
  regs : ∀ o, o ∉ l → regRead t o = regRead s o
  rest : t = { s with regs := t.regs, mesh := t.mesh, out := t.out, flash := t.flash, log := t.log }

theorem Rerouted.trans {l : List Nat} {s t u : Dev} (h : Rerouted l s t) (k : Rerouted l t u) : Rerouted l s u := by
  refine ⟨fun o other => (k.regs o other).trans (h.regs o other), ?_⟩
  rw [k.rest, h.rest]

theorem Noted.rerouted {l l' : List Nat} {s t : Dev} (h : Noted l s t) (more : l ⊆ l') : Rerouted l' s t :=
  ⟨fun o other => h.regs o (fun own => other (more own)), by rw [h.rest]⟩

theorem Shown.rerouted {l l' : List Nat} {s t : Dev} (h : Shown l s t) (more : l ⊆ l') : Rerouted l' s t :=
  ⟨fun o other => h.regs o (fun own => other (more own)), by rw [h.rest]⟩

/-- STATE of a strait. -/
def straitState (s : Dev) (k : Nat) : Nat := fget s (RF.STR_STRAIT_STATUS_STATE k)

/-- Straits may have been lost: one that carried traffic carries it still, or is lost and a switch is due; the others are as they were. -/
structure StraitsLost (l : List Nat) (s t : Dev) : Prop where
  step : Rerouted l s t
  dead : ∀ k, k < 110 → 2 ≤ straitState s k → straitState t k = straitState s k
  alive : ∀ k, k < 110 → straitState s k < 2 → straitState t k = straitState s k ∨ straitState t k = 2 ∧ t.mesh.switching = true
  due : s.mesh.switching = true → t.mesh.switching = true

theorem StraitsLost.refl (l : List Nat) (s : Dev) : StraitsLost l s s := ⟨⟨fun _ _ => rfl, rfl⟩, fun _ _ _ => rfl, fun _ _ _ => .inl rfl, fun h => h⟩

theorem StraitsLost.trans {l : List Nat} {s t u : Dev} (h : StraitsLost l s t) (g : StraitsLost l t u) : StraitsLost l s u := by
  refine ⟨h.step.trans g.step, fun k known dead => ?_, fun k known up => ?_, fun due => g.due (h.due due)⟩
  · have same := h.dead k known dead
    rw [g.dead k known (by omega), same]
  · obtain same | ⟨lost, due⟩ := h.alive k known up
    · obtain same' | later := g.alive k known (by omega)
      · exact .inl (same'.trans same)
      · exact .inr later
    · exact .inr ⟨(g.dead k known (by omega)).trans lost, g.due due⟩

theorem straitState_of_regs {s t : Dev} {k : Nat} (same : regRead t (Reg.STR_STRAIT_STATUS k) = regRead s (Reg.STR_STRAIT_STATUS k)) :
    straitState t k = straitState s k := congrArg (fun v => bitsOf v _ _) same

theorem straitState_fset (s : Dev) (f : Fld) (v : Nat) {k : Nat} (other : Reg.STR_STRAIT_STATUS k ≠ f.off) : straitState (fset s f v) k = straitState s k :=
  straitState_of_regs (regRead_fset_other _ _ _ _ other)

/-- The registers that the loss of a strait may change. -/
def lossRegs (k : Nat) : List Nat := straitRegs k ++ [Reg.STR_CNT_STRAIT_LOSSES] ++ logRegs

theorem lossRegs_strait (k : Nat) : straitRegs k ⊆ lossRegs k := fun _ own => List.mem_append_left _ (List.mem_append_left _ own)

theorem loseStrait_leaves (s : Dev) {k : Nat} (known : k < 110) (b d : Nat) (old : List Nat) :
    StraitsLost (lossRegs k) s (loseStrait s k b d old) ∧ 2 ≤ straitState (loseStrait s k b d old) k := by
  unfold loseStrait
  split
  · next dead => exact ⟨.refl _ s, dead⟩
  · next up =>
    dsimp only
    have place (j : Nat) : Reg.STR_STRAIT_STATUS j = 0x110100 + 8 * j := rfl
    obtain ⟨v, isV⟩ : ∃ v, v = (List.range 16).foldl (fun s j =>
      modBd (fset s (RF.STR_BD_STATUS_MODE k (j / 2) (j % 2)) 3) k (j / 2) (j % 2) (fun x => { x with phase := .running, lanes := [] })) s := ⟨_, rfl⟩
    obtain ⟨c, isC⟩ : ∃ c, c = bump v Reg.STR_CNT_STRAIT_LOSSES := ⟨_, rfl⟩
    obtain ⟨w, isW⟩ : ∃ w, w = fset c (RF.STR_STRAIT_STATUS_STATE k) 2 := ⟨_, rfl⟩
    obtain ⟨y, isY⟩ : ∃ y, y = showStrait w k := ⟨_, rfl⟩
    obtain ⟨z, isZ⟩ : ∃ z, z = logLanes y k b d old := ⟨_, rfl⟩
    obtain ⟨a, isA⟩ : ∃ a, a = if z.mesh.switching = true then fset z RF.STR_MESH_STATUS_STANDBY_VALID 0 else z := ⟨_, rfl⟩
    rw [← isV, ← isC, ← isW, ← isY, ← isZ, ← isA]
    have modes : Shown (straitRegs k) s v ∧ ∀ j, j < 110 → straitState v j = straitState s j := by
      rw [isV]
      refine List.foldlRecOn (motive := fun t => Shown (straitRegs k) s t ∧ ∀ j, j < 110 → straitState t j = straitState s j) _ _ ⟨.refl _ s, fun _ _ => rfl⟩
        (fun t ⟨shown, same⟩ i member => ?_)
      have small := List.mem_range.mp member
      refine ⟨shown.trans (Shown.trans (shown_fset t (RF.STR_BD_STATUS_MODE k (i / 2) (i % 2)) 3 (straitRegs_status (by omega) (by omega)))
        (shown_modBd _ _ _ _ _ _)), fun j small => ?_⟩
      have bd : (RF.STR_BD_STATUS_MODE k (i / 2) (i % 2)).off = 0x120000 + 1024 * k + 128 * (i / 2) + 64 * (i % 2) := rfl
      have far := place j
      exact (straitState_fset t _ _ (by omega)).trans (same j small)
    obtain ⟨modes, states⟩ := modes
    have counted : Shown (lossRegs k) v c := by
      rw [isC]
      exact shown_regWrite _ _ (List.mem_append_left _ (List.mem_append_right _ (List.mem_singleton_self _)))
    have marked : Shown (straitRegs k) c w := by
      rw [isW]
      exact shown_fset _ (RF.STR_STRAIT_STATUS_STATE k) _ (straitRegs_shown k List.mem_cons_self)
    have shownY : Shown (shownOf k) w y := by
      rw [isY]
      exact shown_showStrait w k
    have logged : Noted logRegs y z := by
      rw [isZ]
      exact noted_logLanes _ _ _ _ _
    have standby : Shown meshRegs z a := by
      rw [isA]
      split
      · exact shown_fset _ RF.STR_MESH_STATUS_STANDBY_VALID _ (by decide)
      · exact .refl _ z
    have step : Rerouted (lossRegs k) s a := by
      have toY : Rerouted (lossRegs k) s y := (((modes.rerouted (lossRegs_strait k)).trans (counted.rerouted (List.Subset.refl _))).trans
        (marked.rerouted (lossRegs_strait k))).trans (shownY.rerouted (List.Subset.trans (straitRegs_shown k) (lossRegs_strait k)))
      refine (toY.trans (logged.rerouted (List.subset_append_right _ _))).trans (standby.rerouted ?_)
      exact List.Subset.trans (List.subset_cons_self _ _) (List.Subset.trans (straitRegs_shown k) (lossRegs_strait k))
    have after (j : Nat) (small : j < 110) : straitState a j = straitState y j := by
      have far := place j
      rw [straitState_of_regs (standby.regs _ (fun own => ?_)), straitState_of_regs (logged.regs _ (fun own => ?_))]
      · have high := logRegs_high _ own
        omega
      · have low := meshRegs_low _ own
        omega
    have two : straitState w k = 2 := by
      rw [isW]
      exact fget_fset_same _ _ _ (Nat.le_of_ble_eq_true rfl)
    have lost : straitState a k = 2 := by
      rw [after k known, isY]
      exact (state_showStrait_lost w k (le_of_eq two.symm)).trans two
    have others (j : Nat) (small : j < 110) (other : j ≠ k) : straitState a j = straitState s j := by
      have far := place j
      have near := place k
      have counter : Reg.STR_CNT_STRAIT_LOSSES = 0x110058 := rfl
      have apart : Reg.STR_STRAIT_STATUS j ∉ shownOf k := by
        intro own
        obtain same | own := List.mem_cons.mp own
        · omega
        · have low := meshRegs_low _ own
          omega
      have toW : straitState w j = straitState c j := by
        rw [isW]
        exact straitState_fset _ _ _ (show _ ≠ Reg.STR_STRAIT_STATUS k by omega)
      have toC : straitState c j = straitState v j := by
        rw [isC]
        exact straitState_of_regs (regRead_bump_other _ _ _ (by omega))
      rw [after j small, straitState_of_regs (shownY.regs _ apart), toW, toC, states j small]
    refine ⟨⟨?_, fun j small dead => ?_, fun j small alive => ?_, fun _ => rfl⟩, ?_⟩
    · exact step.trans ⟨fun _ _ => rfl, rfl⟩
    · by_cases own : j = k
      · subst own
        exact absurd dead up
      · exact others j small own
    · by_cases own : j = k
      · subst own
        exact .inr ⟨lost, rfl⟩
      · exact .inl (others j small own)
    · exact le_of_eq lost.symm

/-! ### A router that fails (R45, R47) -/

theorem straitsOf_known {site k : Nat} (member : k ∈ straitsOf site) : k < 110 := List.mem_range.mp (List.mem_of_mem_filter member)

theorem straits_dead (l : List Nat) (known : ∀ k ∈ l, k < 110) (v : Dev) :
    ∀ k ∈ l, 2 ≤ straitState (l.foldl (fun s k => loseStrait s k 0 0 (laneRegs s k 0 0)) v) k := by
  induction l generalizing v with
  | nil => exact fun k member => absurd member List.not_mem_nil
  | cons a l ih =>
    obtain ⟨small, known'⟩ := List.forall_mem_cons.mp known
    intro k member
    rw [List.foldl_cons]
    by_cases later : k ∈ l
    · exact ih known' _ k later
    · obtain rfl := (List.mem_cons.mp member).resolve_right later
      refine List.foldlRecOn (motive := fun t => 2 ≤ straitState t k) _ _ (loseStrait_leaves v small 0 0 _).2 (fun t dead j inside => ?_)
      rw [(loseStrait_leaves t (known' j inside) 0 0 _).1.dead k small dead]
      exact dead

theorem exec_routerFail {s : State} (on : meshOn s.dev = true) {site : Nat} (known : site ≤ 47) (vacant : ∀ i, i < 44 → siteOf s.dev i ≠ some site) :
    ∃ t, exec (.routerFail site) s = .next t ∧ SameMem s.dev t.dev ∧ (∀ k ∈ straitsOf site, 2 ≤ fget t.dev (RF.STR_STRAIT_STATUS_STATE k))
      ∧ (∀ k ∈ straitsOf site, fget s.dev (RF.STR_STRAIT_STATUS_STATE k) < 2 → fget t.dev (RF.STR_STRAIT_STATUS_STATE k) = 2 ∧ t.dev.mesh.switching = true)
      ∧ OnlyIn ((straitsOf site).flatMap straitRegs ++ [Reg.STR_CNT_STRAIT_LOSSES] ++ logRegs) s t
          { s.dev with mesh := t.dev.mesh, out := t.dev.out, flash := t.dev.flash, log := t.dev.log } := by
  obtain ⟨l, isL⟩ : ∃ l, l = (straitsOf site).flatMap straitRegs ++ [Reg.STR_CNT_STRAIT_LOSSES] ++ logRegs := ⟨_, rfl⟩
  have named {k : Nat} (member : k ∈ straitsOf site) : lossRegs k ⊆ l := by
    rw [isL]
    unfold lossRegs
    intro o own
    obtain own | own := List.mem_append.mp own
    · refine List.mem_append_left _ ?_
      obtain own | own := List.mem_append.mp own
      · exact List.mem_append_left _ (List.mem_flatMap.mpr ⟨k, member, own⟩)
      · exact List.mem_append_right _ own
    · exact List.mem_append_right _ own
  have one (v : Dev) {k : Nat} (member : k ∈ straitsOf site) : StraitsLost l v (loseStrait v k 0 0 (laneRegs v k 0 0)) := by
    obtain ⟨⟨step, dead, alive, due⟩, -⟩ := loseStrait_leaves v (straitsOf_known member) 0 0 (laneRegs v k 0 0)
    exact ⟨⟨fun o other => step.regs o (fun own => other (named member own)), step.rest⟩, dead, alive, due⟩
  obtain ⟨u, isU⟩ : ∃ u, u = (straitsOf site).foldl (fun s k => loseStrait s k 0 0 (laneRegs s k 0 0)) s.dev := ⟨_, rfl⟩
  have lost : StraitsLost l s.dev u := by
    rw [isU]
    exact List.foldlRecOn (motive := StraitsLost l s.dev) _ _ (.refl l s.dev) (fun t before k member => before.trans (one t member))
  have dead : ∀ k ∈ straitsOf site, 2 ≤ straitState u k := by
    rw [isU]
    exact straits_dead _ (fun k member => straitsOf_known member) s.dev
  have low : ∀ o ∈ l, 0x110000 ≤ o := by
    intro o own
    rw [isL] at own
    obtain own | own := List.mem_append.mp own
    · obtain own | own := List.mem_append.mp own
      · obtain ⟨k, member, own⟩ := List.mem_flatMap.mp own
        have place := straitRegs_place (straitsOf_known member) own
        omega
      · exact List.mem_singleton.mp own ▸ (by decide)
    · have high := logRegs_high _ own
      omega
  have sites (i : Nat) : siteOf u i = siteOf s.dev i := by
    refine lowest_congr (fun n small => ?_)
    have same : regRead u (Reg.BRG_SITE_STATUS n) = regRead s.dev (Reg.BRG_SITE_STATUS n) := lost.step.regs _ (fun own => by
      have high := low _ own
      have place : Reg.BRG_SITE_STATUS n = 0x100100 + 8 * n := rfl
      omega)
    unfold fget
    rw [show regRead u (RF.BRG_SITE_STATUS_LOGICAL n).off = _ from same, show regRead u (RF.BRG_SITE_STATUS_STATE n).off = _ from same]
    rfl
  have empty : lowest 44 (fun i => siteOf u i == some site) = none := by
    cases found : lowest 44 (fun i => siteOf u i == some site) with
    | none => rfl
    | some i =>
      have holds := lowestFrom_holds (p := fun i => siteOf u i == some site) (i := 0) found
      rw [sites] at holds
      exact absurd (by simpa using holds) (vacant i (lowest_lt found))
  have ran : exec (.routerFail site) s = .next { s with dev := finish u } := by
    show execRouterFail site s = _
    unfold execRouterFail
    rw [perform_eq, if_neg (by rw [on]; simp; omega), ← isU]
    dsimp only
    rw [empty]
  have state (k : Nat) (member : k ∈ straitsOf site) : fget (finish u) (RF.STR_STRAIT_STATUS_STATE k) = straitState u k := by
    have small := straitsOf_known member
    refine congrArg (fun v => bitsOf v _ _) (regRead_finish _ _ ?_)
    show 0x110100 + 8 * k ≠ 0x150000
    omega
  refine ⟨_, ran, sameMem_finish (by rw [lost.step.rest]), fun k member => ?_, fun k member up => ?_, onlyIn_finish ?_ (fun o others _ => ?_)⟩
  · exact le_of_le_of_eq (dead k member) (state k member).symm
  · have gone := dead k member
    obtain same | ⟨two, due⟩ := lost.alive k (straitsOf_known member) up
    · have still : straitState s.dev k < 2 := up
      omega
    · exact ⟨(state k member).trans two, due⟩
  · show u = _
    rw [lost.step.rest]
    rfl
  · rw [← isL] at others
    exact lost.step.regs o others

/-! ### The switch to other tables (R44 to R46) -/

/-- The switch to other tables, where nothing waits. -/
theorem switchRoutes_leaves (v : Dev) (none' : v.mesh.waiting = []) :
    ∃ (regs : _) (out : _), switchRoutes v = { v with regs := regs, mesh := { v.mesh with avoided := deadStraits v, switching := false }, out := out }
      ∧ (∀ o, o ≠ Reg.STR_MESH_STATUS → o ≠ Reg.STR_CNT_ROUTE_SWITCHES → regRead (switchRoutes v) o = regRead v o)
      ∧ fget (switchRoutes v) RF.STR_MESH_STATUS_ROUTE_GEN = (fget v RF.STR_MESH_STATUS_ROUTE_GEN + 1) % 2 ^ 16
      ∧ fget (switchRoutes v) RF.STR_MESH_STATUS_STANDBY_VALID = 0
      ∧ regRead (switchRoutes v) Reg.STR_CNT_ROUTE_SWITCHES = (regRead v Reg.STR_CNT_ROUTE_SWITCHES + 1) % 2 ^ 64 := by
  obtain ⟨w, isW⟩ : ∃ w : Dev, w = { v with mesh := { v.mesh with avoided := deadStraits v, switching := false } } := ⟨_, rfl⟩
  obtain ⟨a, isA⟩ : ∃ a, a = fset w RF.STR_MESH_STATUS_ROUTE_GEN ((fget w RF.STR_MESH_STATUS_ROUTE_GEN + 1) % 2 ^ 16) := ⟨_, rfl⟩
  obtain ⟨b, isB⟩ : ∃ b, b = bump a Reg.STR_CNT_ROUTE_SWITCHES := ⟨_, rfl⟩
  obtain ⟨c, isC⟩ : ∃ c, c = fset b RF.STR_MESH_STATUS_STANDBY_VALID 0 := ⟨_, rfl⟩
  have meshC : c.mesh = w.mesh := by
    rw [isC, isB, isA]
    rfl
  have shape : ∃ regs, c = { w with regs := regs } := by
    rw [isC, isB, isA]
    exact ⟨_, rfl⟩
  have ran : ∃ out, switchRoutes v = { c with out := out } := by
    unfold switchRoutes
    dsimp only
    rw [← isW, ← isA, ← isB, ← isC]
    refine ⟨_, drainMesh_none ?_⟩
    show c.mesh.waiting = []
    rw [meshC, isW]
    exact none'
  obtain ⟨out, ran⟩ := ran
  obtain ⟨regs, shape⟩ := shape
  have same (o : Nat) : regRead (switchRoutes v) o = regRead c o := by
    rw [ran]
    rfl
  have field (f : Fld) : fget (switchRoutes v) f = fget c f := congrArg (fun v => bitsOf v _ _) (same _)
  have kept (f : Fld) : fget w f = fget v f := by
    rw [isW]
    rfl
  refine ⟨regs, out, ?_, fun o status count => ?_, ?_, ?_, ?_⟩
  · rw [ran, shape, isW]
  · rw [same, isC, regRead_fset_other _ RF.STR_MESH_STATUS_STANDBY_VALID _ _ status, isB, regRead_bump_other _ _ _ count, isA,
      regRead_fset_other _ RF.STR_MESH_STATUS_ROUTE_GEN _ _ status, isW]
    rfl
  · rw [field, isC, fget_fset_apart _ _ (by decide) (.inr (.inl (by decide))), isB, fget_bump_other _ _ _ (by decide), isA,
      fget_fset_same _ _ _ (by decide), kept]
    exact Nat.mod_mod _ _
  · rw [field, isC, fget_fset_same _ _ _ (by decide)]
    rfl
  · rw [same, isC, regRead_fset_other _ RF.STR_MESH_STATUS_STANDBY_VALID _ _ (by decide), isB, regRead_bump_same, isA,
      regRead_fset_other _ RF.STR_MESH_STATUS_ROUTE_GEN _ _ (by decide), isW]
    rfl

theorem straitUp_of_state {s t : Dev} {k : Nat} (same : straitState t k = straitState s k) : straitUp t k = straitUp s k := by
  unfold straitUp
  rw [show fget t (RF.STR_STRAIT_STATUS_STATE k) = _ from same]
  rfl

/-- Where the straits that are left reach every edge and every island, nothing is lost. -/
theorem checkReach_reaches {u : Dev} (edges : ∀ e ∈ [48, 49, 50, 51], ∃ k ∈ straitsOf e, straitUp u k = true)
    (islands : ∀ i n, i < 44 → siteOf u i = some n → n ∈ reached u) : checkReach u = u := by
  have up : [48, 49, 50, 51].any (fun e => (straitsOf e).all (fun k => !straitUp u k)) = false := by
    refine List.any_eq_false.mpr (fun e member => ?_)
    obtain ⟨k, inside, alive⟩ := edges e member
    have some' : (straitsOf e).all (fun k => !straitUp u k) = false := List.all_eq_false.mpr ⟨k, inside, by simp [alive]⟩
    rw [some']
    decide
  unfold checkReach
  rw [if_neg (by rw [up]; decide)]
  dsimp only
  obtain ⟨r, isR⟩ : ∃ r, r = reached u := ⟨_, rfl⟩
  rw [← isR]
  refine List.foldlRecOn (motive := fun t => t = u) _ _ rfl (fun t same i member => ?_)
  subst same
  split
  · next n site =>
    rw [if_pos (by rw [isR]; simpa using islands i n (List.mem_range.mp member) site)]
  · rfl

section
variable {s : State} (on : meshOn s.dev = true)
include on

theorem exec_standbyRecomputeDone (steady : s.dev.mesh.switching = false) :
    ∃ t, exec .standbyRecomputeDone s = .next t ∧ SameMem s.dev t.dev ∧ fget t.dev RF.STR_MESH_STATUS_STANDBY_VALID = 1
      ∧ fget t.dev RF.STR_MESH_STATUS_ROUTE_GEN = fget s.dev RF.STR_MESH_STATUS_ROUTE_GEN ∧ OnlyIn [Reg.STR_MESH_STATUS] s t s.dev := by
  have field (u : Dev) (f : Fld) (own : f.off = Reg.STR_MESH_STATUS) : fget (finish u) f = fget u f :=
    congrArg (fun v => bitsOf v _ _) (regRead_finish _ _ (by rw [own]; decide))
  refine ⟨{ s with dev := finish (fset s.dev RF.STR_MESH_STATUS_STANDBY_VALID 1) }, ?_, sameMem_finish rfl, ?_, ?_, onlyIn_finish rfl ?_⟩
  · show execStandbyRecomputeDone s = _
    unfold execStandbyRecomputeDone
    rw [perform_eq, if_pos (by rw [on, steady]; rfl)]
  · rw [field _ _ rfl, fget_fset_same _ _ _ (by decide)]
    rfl
  · rw [field _ _ rfl]
    exact fget_fset_apart _ _ (by decide) (.inr (.inl (by decide)))
  · exact sameRegsBut_fset _ RF.STR_MESH_STATUS_STANDBY_VALID _

/-- What comes before a switch of tables: a loss without standby sets is counted and entered. -/
theorem before_switch {c : Instr} {valid : Nat} (row : c = Instr.routeSwitch ∧ valid = 1 ∨ c = Instr.slowRerouteComplete ∧ valid = 0)
    (switching : s.dev.mesh.switching = true) (standby : fget s.dev RF.STR_MESH_STATUS_STANDBY_VALID = valid) :
    ∃ v, exec c s = .next { s with dev := finish (checkReach (switchRoutes v)) }
      ∧ (∃ regs log rom, v = { s.dev with regs := regs, log := log, flash := { s.dev.flash with romLog := rom } })
      ∧ (∀ o, o ≠ Reg.STR_CNT_SLOW_REROUTES → o ∉ logRegs → regRead v o = regRead s.dev o)
      ∧ regRead v Reg.STR_CNT_SLOW_REROUTES = (regRead s.dev Reg.STR_CNT_SLOW_REROUTES + (1 - valid)) % 2 ^ 64 := by
  obtain ⟨rfl, rfl⟩ | ⟨rfl, rfl⟩ := row
  · refine ⟨s.dev, ?_, ⟨_, _, _, rfl⟩, fun _ _ _ => rfl, (Nat.mod_eq_of_lt (BitVec.isLt _)).symm⟩
    show execRouteSwitch s = _
    unfold execRouteSwitch
    rw [perform_eq, if_pos (by rw [on, switching, standby]; rfl)]
  · obtain ⟨w, isW⟩ : ∃ w, w = bump s.dev Reg.STR_CNT_SLOW_REROUTES := ⟨_, rfl⟩
    obtain ⟨v, isV⟩ : ∃ v, v = logEvent s.dev Reg.STR_CNT_SLOW_REROUTES 0 := ⟨_, rfl⟩
    have logged : OnlyLog w v := by
      rw [isV, isW]
      exact onlyLog_logFw _ _ _ _ _
    have wRest : ∃ regs, w = { s.dev with regs := regs } := by
      rw [isW]
      exact ⟨_, rfl⟩
    obtain ⟨regs, wRest⟩ := wRest
    refine ⟨v, ?_, ⟨v.regs, v.log, v.flash.romLog, ?_⟩, fun o count log => ?_, ?_⟩
    · show execSlowRerouteComplete s = _
      unfold execSlowRerouteComplete
      rw [perform_eq, if_pos (by rw [on, switching, standby]; rfl), isV]
    · have flash : v.flash = { s.dev.flash with romLog := v.flash.romLog } := by
        rw [logged.flash, wRest]
      rw [← flash]
      refine logged.rest.trans ?_
      rw [wRest]
    · rw [logged.regs o (fun own => log (mem_logRegs.mpr own)), isW, regRead_bump_other _ _ _ count]
    · rw [logged.regs _ (fun own => absurd (mem_logRegs.mpr own) (by decide)), isW, regRead_bump_same]

theorem exec_routeSwitch {c : Instr} {valid : Nat} (row : c = Instr.routeSwitch ∧ valid = 1 ∨ c = Instr.slowRerouteComplete ∧ valid = 0)
    (switching : s.dev.mesh.switching = true) (standby : fget s.dev RF.STR_MESH_STATUS_STANDBY_VALID = valid) (none' : s.dev.mesh.waiting = [])
    (edges : ∀ e ∈ [48, 49, 50, 51], ∃ k ∈ straitsOf e, straitUp s.dev k = true)
    (islands : ∀ i n, i < 44 → siteOf s.dev i = some n → n ∈ reached s.dev) :
    ∃ t, exec c s = .next t ∧ SameMem s.dev t.dev ∧ t.dev.mesh.avoided = deadStraits s.dev ∧ t.dev.mesh.switching = false
      ∧ fget t.dev RF.STR_MESH_STATUS_ROUTE_GEN = (fget s.dev RF.STR_MESH_STATUS_ROUTE_GEN + 1) % 2 ^ 16
      ∧ fget t.dev RF.STR_MESH_STATUS_STANDBY_VALID = 0
      ∧ regRead t.dev Reg.STR_CNT_ROUTE_SWITCHES = (regRead s.dev Reg.STR_CNT_ROUTE_SWITCHES + 1) % 2 ^ 64
      ∧ regRead t.dev Reg.STR_CNT_SLOW_REROUTES = (regRead s.dev Reg.STR_CNT_SLOW_REROUTES + (1 - valid)) % 2 ^ 64
      ∧ OnlyIn ([Reg.STR_MESH_STATUS, Reg.STR_CNT_ROUTE_SWITCHES, Reg.STR_CNT_SLOW_REROUTES] ++ logRegs) s t
          { s.dev with mesh := { s.dev.mesh with avoided := t.dev.mesh.avoided, switching := false }, out := t.dev.out,
                       log := t.dev.log, flash := { s.dev.flash with romLog := t.dev.flash.romLog } } := by
  obtain ⟨v, ran, ⟨regs, log, rom, rest⟩, kept, count⟩ := before_switch on row switching standby
  have waits : v.mesh.waiting = [] := by rw [rest, none']
  obtain ⟨regs', out, shape, others, gen, spent, switches⟩ := switchRoutes_leaves v waits
  obtain ⟨u, isU⟩ : ∃ u, u = switchRoutes v := ⟨_, rfl⟩
  rw [← isU] at ran shape others gen spent switches
  have quiet : ∀ o ∈ [Reg.STR_MESH_STATUS, Reg.STR_CNT_ROUTE_SWITCHES, Reg.STR_CNT_SLOW_REROUTES], 0x110000 ≤ o ∧ o < 0x110070 := by decide
  have regsU (o : Nat) (other : o ∉ [Reg.STR_MESH_STATUS, Reg.STR_CNT_ROUTE_SWITCHES, Reg.STR_CNT_SLOW_REROUTES] ++ logRegs) : regRead u o = regRead s.dev o := by
    simp only [List.cons_append, List.nil_append, List.mem_cons, not_or] at other
    obtain ⟨status, count, slow, log⟩ := other
    rw [others o status count, kept o slow log]
  have apart (o : Nat) (far : o < 0x110000 ∨ 0x110070 ≤ o ∧ o < 0x1E0000) :
      o ∉ [Reg.STR_MESH_STATUS, Reg.STR_CNT_ROUTE_SWITCHES, Reg.STR_CNT_SLOW_REROUTES] ++ logRegs := by
    intro own
    obtain own | own := List.mem_append.mp own
    · have near := quiet o own
      omega
    · have high := logRegs_high o own
      omega
  have state (k : Nat) (known : k < 110) : straitState u k = straitState s.dev k :=
    straitState_of_regs (regsU _ (apart _ (by show 0x110100 + 8 * k < _ ∨ 0x110070 ≤ 0x110100 + 8 * k ∧ 0x110100 + 8 * k < _; omega)))
  have up (k : Nat) (known : k < 110) : straitUp u k = straitUp s.dev k := straitUp_of_state (state k known)
  have sites (i : Nat) : siteOf u i = siteOf s.dev i := by
    refine lowest_congr (fun n small => ?_)
    have same : regRead u (Reg.BRG_SITE_STATUS n) = regRead s.dev (Reg.BRG_SITE_STATUS n) :=
      regsU _ (apart _ (.inl (by show 0x100100 + 8 * n < _; omega)))
    unfold fget
    rw [show regRead u (RF.BRG_SITE_STATUS_LOGICAL n).off = _ from same, show regRead u (RF.BRG_SITE_STATUS_STATE n).off = _ from same]
    rfl
  have reaches : reached u = reached s.dev := by
    have same : (List.range 110).filter (straitUp u) = (List.range 110).filter (straitUp s.dev) :=
      List.filter_congr (fun k member => up k (List.mem_range.mp member))
    unfold reached
    rw [same]
  have dead : deadStraits v = deadStraits s.dev := by
    refine List.filter_congr (fun k member => ?_)
    have small := List.mem_range.mp member
    have place : Reg.STR_STRAIT_STATUS k = 0x110100 + 8 * k := rfl
    have slow : Reg.STR_CNT_SLOW_REROUTES = 0x110068 := rfl
    have same : straitState v k = straitState s.dev k := straitState_of_regs (kept _ (by omega) (fun own => by
      have high := logRegs_high _ own
      omega))
    rw [straitUp_of_state same]
  have whole' : checkReach u = u := by
    refine checkReach_reaches (fun e member => ?_) (fun i n small site => ?_)
    · obtain ⟨k, inside, alive⟩ := edges e member
      exact ⟨k, inside, (up k (straitsOf_known inside)).trans alive⟩
    · rw [sites] at site
      rw [reaches]
      exact islands i n small site
  rw [whole'] at ran
  have mesh : u.mesh = { s.dev.mesh with avoided := deadStraits s.dev, switching := false } := by
    rw [shape]
    show { v.mesh with avoided := deadStraits v, switching := false } = _
    rw [dead, rest]
  have read (o : Nat) (shc : o ≠ 0x150000) : regRead (finish u) o = regRead u o := regRead_finish _ _ shc
  have field (f : Fld) (own : f.off = Reg.STR_MESH_STATUS) : fget (finish u) f = fget u f := congrArg (fun v => bitsOf v _ _) (read _ (by rw [own]; decide))
  have before (f : Fld) (own : f.off = Reg.STR_MESH_STATUS) : fget v f = fget s.dev f :=
    congrArg (fun v => bitsOf v _ _) (kept _ (by rw [own]; decide) (by rw [own]; decide))
  refine ⟨_, ran, sameMem_finish ?_, ?_, ?_, ?_, ?_, ?_, ?_, onlyIn_finish ?_ (fun o other _ => regsU o other)⟩
  · rw [shape, rest]
  · show u.mesh.avoided = _
    rw [mesh]
  · show u.mesh.switching = _
    rw [mesh]
  · rw [field _ rfl, gen, before _ rfl]
  · rw [field _ rfl, spent]
  · rw [read _ (by decide), switches, kept _ (by decide) (by decide)]
  · rw [read _ (by decide), others _ (by decide) (by decide), count]
  · show u = { s.dev with mesh := { s.dev.mesh with avoided := u.mesh.avoided, switching := false }, out := u.out, log := u.log,
                          flash := { s.dev.flash with romLog := u.flash.romLog }, regs := u.regs, dram := u.dram, blocked := u.blocked }
    have meshU : { s.dev.mesh with avoided := u.mesh.avoided, switching := false } = u.mesh := by rw [mesh]
    rw [meshU, shape, rest]

end

/-! ### The mesh -/

/-- Settles O50: every row of the mesh, row by row. -/
theorem meshBundles : Obligations.MeshBundles := by
  intro s on
  refine ⟨fun k b d x hk hb hd isX => ⟨fun f mode phase => ⟨?_, ?_⟩, ?_, ?_, ?_, fun phase => ⟨?_, ?_⟩, ?_, ?_, ?_, ?_, ?_, ?_, ?_⟩,
    fun site known vacant => exec_routerFail on known vacant, fun c valid row => exec_routeSwitch on row, exec_standbyRecomputeDone on⟩
  · exact fun good silent kind next fresh here none' => exec_flitReceive_accepts on hk hb hd isX mode phase good silent kind next fresh here none'
  · exact fun bad few => exec_flitReceive_fails on hk hb hd isX mode phase bad few
  · exact fun seq mode => exec_meshNak on hk hb hd isX seq mode
  · exact fun c lane narrow row enabled mode lanes sound phase room => exec_askRepair on hk hb hd isX row enabled mode lanes sound phase room
  · exact fun phase empty mode wide spare => exec_replayBufferDrained on hk hb hd isX phase empty mode wide spare
  · exact fun wide => exec_laneTrainComplete_wide on hk hb hd isX phase wide
  · exact fun narrow none' lanes => exec_laneTrainComplete_narrow on hk hb hd isX phase narrow none' lanes
  · exact fun p q phase lanes spare small own none' => exec_rotateAck on hk hb hd isX phase lanes spare small own none'
  · exact fun mode left => exec_bundleDirectionLoss on hk hb hd isX mode left
  · exact fun phase none' => exec_bundleRetrainComplete on hk hb hd isX phase none'
  · exact exec_resyncQuery on hk hb hd isX
  · exact fun last mode => exec_resyncReply on hk hb hd isX last mode
  · exact fun enabled parks mode empty => exec_straitPark on hk hb hd isX enabled parks mode empty
  · exact fun parked none' => exec_straitUnpark on hk hb hd isX parked none'

end Sys2Proof.Machine
end

section
/-!
SUPPORT. When a member was heard has no part in what memory and the directory do: a read of memory, as the walk over an instance's tables makes it, answers the
same whatever the member table holds (R349, R355, R410).
-/
namespace Sys2Proof.Machine

/-- The module with another member table. -/
def heardAs (M : List (Nat × Member)) (s : Dev) : Dev := { s with fab := { s.fab with members := M } }

/-- An answer of the module with another member table. -/
def heardIn {α : Type} (M : List (Nat × Member)) (p : Dev × α) : Dev × α := (heardAs M p.1, p.2)

section
variable {M : List (Nat × Member)}

theorem heardIn_mk {α : Type} (s : Dev) (a : α) : heardIn M (s, a) = (heardAs M s, a) := rfl

theorem ite_heard {c c' : Prop} [Decidable c] [Decidable c'] {a a' b b' : Dev} (same : c ↔ c') (yes : a = heardAs M a') (no : b = heardAs M b') :
    (if c then a else b) = heardAs M (if c' then a' else b') := by
  rw [yes, no, apply_ite (heardAs M)]
  exact if_congr same rfl rfl

theorem ite_heardIn {α : Type} {c c' : Prop} [Decidable c] [Decidable c'] {a a' b b' : Dev × α} (same : c ↔ c') (yes : a = heardIn M a')
    (no : b = heardIn M b') : (if c then a else b) = heardIn M (if c' then a' else b') := by
  rw [yes, no, apply_ite (heardIn M)]
  exact if_congr same rfl rfl

theorem heardAs_foldl {α : Type} {f : Dev → α → Dev} (step : ∀ t a, f (heardAs M t) a = heardAs M (f t a)) (l : List α) (s : Dev) :
    l.foldl f (heardAs M s) = heardAs M (l.foldl f s) := by
  induction l generalizing s with
  | nil => rfl
  | cons a l ih => rw [List.foldl_cons, List.foldl_cons, step, ih]

theorem heardIn_foldl {α β : Type} {f : Dev × β → α → Dev × β} (step : ∀ t a, f (heardIn M t) a = heardIn M (f t a)) (l : List α) (p : Dev × β) :
    l.foldl f (heardIn M p) = heardIn M (l.foldl f p) := by
  induction l generalizing p with
  | nil => rfl
  | cons a l ih => rw [List.foldl_cons, List.foldl_cons, step, ih]

/-! ### Registers and the log -/

theorem bump_heard (s : Dev) (o : Nat) : bump (heardAs M s) o = heardAs M (bump s o) := rfl

theorem fset_heard (s : Dev) (f : Fld) (v : Nat) : fset (heardAs M s) f v = heardAs M (fset s f v) := rfl

theorem fget_heard (s : Dev) (f : Fld) : fget (heardAs M s) f = fget s f := rfl

theorem regWrite_heard (s : Dev) (o v : Nat) : regWrite (heardAs M s) o v = heardAs M (regWrite s o v) := rfl

theorem bumpBy_heard (s : Dev) (o n : Nat) : bumpBy (heardAs M s) o n = heardAs M (bumpBy s o n) := rfl

theorem fsat_heard (s : Dev) (f : Fld) (n : Nat) : fsat (heardAs M s) f n = heardAs M (fsat s f n) := by
  unfold fsat
  rw [fget_heard, fset_heard]

theorem showChain_heard (s : Dev) (c : List Byte) : showChain (heardAs M s) c = heardAs M (showChain s c) := heardAs_foldl (fun _ _ => rfl) _ s

/-- The log with an entry put at its end. -/
def entered (s : Dev) (e : LogEntry) (entries : Tbl LogEntry) : Dev :=
  regWrite (showChain (regWrite { s with log := { s.log with entries := entries, next := e.seq + 1, chain := e.chain } } Reg.LOG_HEAD e.seq) e.chain)
    Reg.LOG_OLDEST ((tkeys entries).headD e.seq)

theorem entered_heard (s : Dev) (e : LogEntry) (entries : Tbl LogEntry) : entered (heardAs M s) e entries = heardAs M (entered s e entries) := by
  unfold entered
  rw [← regWrite_heard, ← showChain_heard]
  rfl

/-- An entry that is written is counted. -/
def countEntry (s : Dev) : Dev :=
  if fget s RF.BRG_START_STATUS_STAGE = 9 then bump { s with log := { s.log with wrote := s.log.next } } Reg.LOG_CNT_ENTRIES else s

theorem countEntry_heard (s : Dev) : countEntry (heardAs M s) = heardAs M (countEntry s) := ite_heard Iff.rfl rfl rfl

/-- An entry as it is put at the end of the log. -/
def placedEntry (l : LogUnit) (e : LogEntry) : LogEntry := { e with seq := l.next, chain := chainStep l.chain { e with seq := l.next } }

/-- An entry overwrites another. -/
def spills (l : LogUnit) (e : LogEntry) : Bool := decide (logCapacity ≤ e.seq) && thas l.entries (e.seq - logCapacity)

/-- The entries with one more. -/
def entriesWith (l : LogUnit) (e : LogEntry) : Tbl LogEntry := tset (if spills l e then tdel l.entries (e.seq - logCapacity) else l.entries) e.seq e

theorem logPut_eq (s : Dev) (e : LogEntry) : logPut s e =
    if spills s.log (placedEntry s.log e) then
      bump (countEntry (entered s (placedEntry s.log e) (entriesWith s.log (placedEntry s.log e)))) Reg.LOG_CNT_OVERWRITTEN
    else countEntry (entered s (placedEntry s.log e) (entriesWith s.log (placedEntry s.log e))) := rfl

theorem logPut_heard (s : Dev) (e : LogEntry) : logPut (heardAs M s) e = heardAs M (logPut s e) := by
  have log : (heardAs M s).log = s.log := rfl
  rw [logPut_eq, logPut_eq, log, entered_heard, countEntry_heard]
  exact ite_heard Iff.rfl rfl rfl

theorem noteOverwritten_heard (s : Dev) : noteOverwritten (heardAs M s) = heardAs M (noteOverwritten s) :=
  ite_heard Iff.rfl rfl (logPut_heard { s with log := { s.log with lastOverwritten := regRead s Reg.LOG_CNT_OVERWRITTEN } } _)

theorem logCommit_heard (s : Dev) (e : LogEntry) : logCommit (heardAs M s) e = heardAs M (logCommit s e) := by
  unfold logCommit
  dsimp only
  rw [logPut_heard]
  exact ite_heard Iff.rfl (noteOverwritten_heard (beginCheckpoint (logPut s e) 0)) rfl

theorem logFw_heard (s : Dev) (kind object old new : Nat) : logFw (heardAs M s) kind object old new = heardAs M (logFw s kind object old new) :=
  ite_heard Iff.rfl rfl (ite_heard Iff.rfl (logCommit_heard s _) rfl)

theorem logEvent_heard (s : Dev) (o addr : Nat) : logEvent (heardAs M s) o addr = heardAs M (logEvent s o addr) := logFw_heard (bump s o) _ _ _ _

theorem takeFree_heard (s : Dev) : takeFree (heardAs M s) = ((takeFree s).1, heardAs M (takeFree s).2) := rfl

/-! ### Memory -/

theorem setWcb_heard (s : Dev) (id : Nat) (l : List WcbEntry) : setWcb (heardAs M s) id l = heardAs M (setWcb s id l) := rfl

theorem wcbDrop_heard (s : Dev) (id sec : Nat) : wcbDrop (heardAs M s) id sec = heardAs M (wcbDrop s id sec) := ite_heard Iff.rfl rfl rfl

theorem wcbRetire_heard (s : Dev) (id : Nat) (w : WcbEntry) : wcbRetire (heardAs M s) id w = heardAs M (wcbRetire s id w) :=
  congrArg (fun v => bump v Reg.MEM_CNT_RMW) (wcbDrop_heard { s with dram := dramMerge s.dram w.sec w.mask w.data } id w.sec)

theorem touchChannel_heard (s : Dev) (pa id : Nat) (device : Bool) : touchChannel (heardAs M s) pa id device = heardAs M (touchChannel s pa id device) := rfl

theorem countRetries_heard (s : Dev) (id n : Nat) : countRetries (heardAs M s) id n = heardAs M (countRetries s id n) := by
  unfold countRetries
  rw [bumpBy_heard, fsat_heard]

theorem wcbFind_heard (s : Dev) (id sec : Nat) : wcbFind (heardAs M s) id sec = wcbFind s id sec := rfl

theorem isHole_heard (s : Dev) (id : Nat) : isHole (heardAs M s) id = isHole s id := rfl

/-- The oldest entry leaves a write-combining buffer that is full. -/
def wcbRoom (s : Dev) (id : Nat) : Dev :=
  match wcbOf s id with
  | [] => s
  | oldest :: _ => if (wcbOf s id).length ≥ 256 then wcbRetire s id oldest else s

theorem wcbRoom_heard (s : Dev) (id : Nat) : wcbRoom (heardAs M s) id = heardAs M (wcbRoom s id) := by
  unfold wcbRoom
  rw [show wcbOf (heardAs M s) id = wcbOf s id from rfl]
  cases wcbOf s id with
  | nil => rfl
  | cons oldest l => exact ite_heard Iff.rfl (wcbRetire_heard s id oldest) rfl

/-- The entry of a sector, if any, is written to memory. -/
def wcbMerged (s : Dev) (id sec : Nat) : Dev :=
  match wcbFind s id sec with
  | some w => wcbRetire s id w
  | none => s

theorem wcbMerged_heard (s : Dev) (id sec : Nat) : wcbMerged (heardAs M s) id sec = heardAs M (wcbMerged s id sec) := by
  unfold wcbMerged
  rw [wcbFind_heard]
  cases wcbFind s id sec with
  | none => rfl
  | some w => exact wcbRetire_heard s id w

theorem wcbWrite_none {s : Dev} {id sec : Nat} (absent : wcbFind s id sec = none) (mask : BitVec 32) (data : BitVec 256) :
    wcbWrite s id sec mask data = setWcb (wcbRoom s id) id (wcbOf (wcbRoom s id) id ++ [⟨sec, mask, data, (wcbRoom s id).time.hw⟩]) := by
  unfold wcbWrite
  rw [absent]
  rfl

theorem wcbWrite_heard (s : Dev) (id sec : Nat) (mask : BitVec 32) (data : BitVec 256) :
    wcbWrite (heardAs M s) id sec mask data = heardAs M (wcbWrite s id sec mask data) := by
  cases found : wcbFind s id sec with
  | none =>
    rw [wcbWrite_none found, wcbWrite_none (s := heardAs M s) found, wcbRoom_heard]
    rfl
  | some w =>
    unfold wcbWrite
    rw [wcbFind_heard, found]
    refine ite_heard Iff.rfl ?_ rfl
    rw [bump_heard, wcbDrop_heard]
    rfl

theorem ctlSector_eq (s : Dev) (id sec : Nat) (device : Bool) : ctlSector s id sec .clean 0 device =
    if isHole s id then ((takeFree s).2, BitVec.ofNat 256 (takeFree s).1, ePoison)
    else
      (wcbMerged (countRetries (touchChannel s (32 * sec) id device) id 0) id sec,
        dramSector (wcbMerged (countRetries (touchChannel s (32 * sec) id device) id 0) id sec).dram sec,
        if dramPoisoned (wcbMerged (countRetries (touchChannel s (32 * sec) id device) id 0) id sec).dram sec then ePoison else 0) := by
  unfold ctlSector
  by_cases hole : isHole s id = true
  · exact (if_pos hole).trans (if_pos hole).symm
  · exact (if_neg hole).trans (if_neg hole).symm

theorem ctlSector_heard (s : Dev) (id sec : Nat) (device : Bool) :
    ctlSector (heardAs M s) id sec .clean 0 device = heardIn M (ctlSector s id sec .clean 0 device) := by
  rw [ctlSector_eq, ctlSector_eq, touchChannel_heard, countRetries_heard, wcbMerged_heard]
  exact ite_heardIn Iff.rfl rfl rfl

/-- A sector whose copy has been read holds it. -/
def refreshed (s : Dev) (id sec : Nat) (d : BitVec 256) : Dev :=
  if isHole s id then s else { s with dram := dramSetPoison (dramMerge s.dram sec 0xFFFFFFFF d) sec false }

theorem refreshed_heard (s : Dev) (id sec : Nat) (d : BitVec 256) : refreshed (heardAs M s) id sec d = heardAs M (refreshed s id sec d) :=
  ite_heard Iff.rfl rfl rfl

theorem ctlRead_heard (s : Dev) (sec : Nat) : ctlRead (heardAs M s) sec .clean 0 .clean = heardIn M (ctlRead s sec .clean 0 .clean) := by
  unfold ctlRead
  rw [show chanOf (heardAs M s) (32 * sec) = chanOf s (32 * sec) from rfl]
  cases chanOf s (32 * sec) with
  | none => rfl
  | some id =>
    dsimp only
    rw [ctlSector_heard]
    obtain ⟨t, d, c⟩ := ctlSector s id sec .clean 0 false
    rw [heardIn_mk]
    dsimp only
    refine ite_heardIn Iff.rfl rfl ?_
    rw [show replicaLine (heardAs M t) (sec / 2) = replicaLine t (sec / 2) from rfl]
    cases replicaLine t (sec / 2) with
    | none => rfl
    | some cl =>
      dsimp only
      rw [show chanOf (heardAs M t) (64 * cl) = chanOf t (64 * cl) from rfl]
      cases chanOf t (64 * cl) with
      | none => rfl
      | some cid =>
        dsimp only
        rw [ctlSector_heard]
        obtain ⟨u, d2, c2⟩ := ctlSector t cid (2 * cl + sec % 2) .clean 0 false
        rw [heardIn_mk]
        dsimp only
        refine ite_heardIn Iff.rfl ?_ rfl
        show (logEvent (refreshed (heardAs M u) id sec d2) Reg.BRG_CNT_REFETCHES 0, d2, 0)
          = heardIn M (logEvent (refreshed u id sec d2) Reg.BRG_CNT_REFETCHES 0, d2, 0)
        rw [refreshed_heard, logEvent_heard]
        rfl

/-- The part of a half of a line that a write names. -/
def halfWritten (s : Dev) (id sec : Nat) (m : BitVec 32) (d : BitVec 256) (poison : Bool) : Dev :=
  if m = 0 then s
  else if m = 0xFFFFFFFF then { wcbDrop s id sec with dram := dramSetPoison (dramMerge (wcbDrop s id sec).dram sec m d) sec poison }
  else wcbWrite s id sec m d

theorem halfWritten_heard (s : Dev) (id sec : Nat) (m : BitVec 32) (d : BitVec 256) (poison : Bool) :
    halfWritten (heardAs M s) id sec m d poison = heardAs M (halfWritten s id sec m d poison) := by
  refine ite_heard Iff.rfl rfl (ite_heard Iff.rfl ?_ (wcbWrite_heard s id sec m d))
  rw [wcbDrop_heard]
  rfl

theorem ctlWriteHalf_eq (id : Nat) (w : MemWr) (h : Nat) : ∃ sec m d poison, ∀ s, ctlWriteHalf s id w h =
    if w.markPoison.getLsbD h then { halfWritten s id sec m d poison with dram := dramSetPoison (halfWritten s id sec m d poison).dram sec true }
    else halfWritten s id sec m d poison :=
  ⟨2 * w.line + h, BitVec.ofNat 32 (w.mask.toNat / 2 ^ (32 * h)), halfOf w.data h, w.poison.getLsbD h, fun _ => rfl⟩

theorem ctlWriteHalf_heard (s : Dev) (id : Nat) (w : MemWr) (h : Nat) : ctlWriteHalf (heardAs M s) id w h = heardAs M (ctlWriteHalf s id w h) := by
  obtain ⟨sec, m, d, poison, shape⟩ := ctlWriteHalf_eq id w h
  rw [shape, shape, halfWritten_heard]
  exact ite_heard Iff.rfl rfl rfl

theorem ctlWriteChan_heard (s : Dev) (id : Nat) (w : MemWr) : ctlWriteChan (heardAs M s) id w = heardAs M (ctlWriteChan s id w) := by
  unfold ctlWriteChan
  rw [touchChannel_heard, ctlWriteHalf_heard, ctlWriteHalf_heard]
  refine ite_heard Iff.rfl rfl ?_
  dsimp only
  cases w.held with
  | none => rfl
  | some b => rfl

theorem countUnmapped_heard (s : Dev) (pa : Nat) : countUnmapped (heardAs M s) pa = heardAs M (countUnmapped s pa) :=
  ite_heard Iff.rfl (logEvent_heard s _ _) rfl

/-- The channel of a write has been reached. -/
def writeReached (s : Dev) (id : Nat) : Dev := if isHole s id then s else countRetries s id 0

theorem writeReached_heard (s : Dev) (id : Nat) : writeReached (heardAs M s) id = heardAs M (writeReached s id) :=
  ite_heard Iff.rfl rfl (countRetries_heard s id 0)

theorem ctlWrite_heard (s : Dev) (w : MemWr) : ctlWrite (heardAs M s) w 0 false = heardAs M (ctlWrite s w 0 false) := by
  unfold ctlWrite
  rw [show chanOf (heardAs M s) (64 * w.line) = chanOf s (64 * w.line) from rfl]
  cases chanOf s (64 * w.line) with
  | none => exact countUnmapped_heard s _
  | some id =>
    dsimp only
    rw [if_neg Bool.false_ne_true, if_neg Bool.false_ne_true, Nat.zero_min]
    rw [show (if isHole (heardAs M s) id = true then heardAs M s else countRetries (heardAs M s) id 0) = heardAs M (writeReached s id) from writeReached_heard s id,
      ctlWriteChan_heard]
    rw [show (if isHole s id = true then s else countRetries s id 0) = writeReached s id from rfl]
    obtain ⟨t, isT⟩ : ∃ t, t = ctlWriteChan (writeReached s id) id w := ⟨_, rfl⟩
    rw [← isT, show replicaLine (heardAs M t) w.line = replicaLine t w.line from rfl]
    cases replicaLine t w.line with
    | none => rfl
    | some cl =>
      dsimp only
      rw [show chanOf (heardAs M t) (64 * cl) = chanOf t (64 * cl) from rfl]
      cases chanOf t (64 * cl) with
      | none => rfl
      | some cid => exact ctlWriteChan_heard t cid _

theorem drainWrites_heard (s : Dev) (line : Nat) : drainWrites (heardAs M s) line = heardAs M (drainWrites s line) :=
  heardAs_foldl (fun t w => ctlWrite_heard t w) _ { s with mem := { s.mem with writes := s.mem.writes.filter (fun w => w.line != line) } }

/-! ### Messages and the directory -/

theorem modPort_heard (s : Dev) (p : Nat) (f : Port → Port) : modPort (heardAs M s) p f = heardAs M (modPort s p f) := rfl

theorem placeFlit_heard (s : Dev) (p : Nat) (m : FabMsg) : placeFlit (heardAs M s) p m = heardAs M (placeFlit s p m) := rfl

theorem routePorts_heard (s : Dev) (d : Nat) : routePorts (heardAs M s) d = routePorts s d := rfl

theorem routeMsg_heard (s : Dev) (m : FabMsg) : routeMsg (heardAs M s) m = heardAs M (routeMsg s m) := by
  unfold routeMsg
  rw [routePorts_heard]
  dsimp only
  rw [show portAt (heardAs M s) = portAt s from rfl, show (heardAs M s).fab.lastPort = s.fab.lastPort from rfl]
  split
  · exact placeFlit_heard { s with fab := { s.fab with lastPort := _ } } _ m
  · rfl

theorem sendFab_heard (s : Dev) (d tag offset : Nat) (poison : Bool) (b : FabBody) :
    sendFab (heardAs M s) d tag offset poison b = heardAs M (sendFab s d tag offset poison b) := routeMsg_heard s _

theorem sendCoh_heard (s : Dev) (m line : Nat) (op : CohOp) (third tag : Nat) (data : Option LineData) :
    sendCoh (heardAs M s) m line op third tag data = heardAs M (sendCoh s m line op third tag data) := sendFab_heard s _ _ _ _ _

theorem tellAgent_heard (s : Dev) (agent : Nat) (op : CohOp) (k third : Nat) : tellAgent (heardAs M s) agent op k third = heardAs M (tellAgent s agent op k third) :=
  ite_heard Iff.rfl rfl (sendCoh_heard s _ _ _ _ _ _)

theorem traceAdd_heard (s : Dev) (t rec' : Nat) : traceAdd (heardAs M s) t rec' = heardAs M (traceAdd s t rec') := by
  unfold traceAdd
  rw [show (heardAs M s).traces = s.traces from rfl]
  cases tget s.traces t with
  | none => rfl
  | some x => exact ite_heard Iff.rfl rfl (ite_heard Iff.rfl rfl rfl)

theorem traceDir_heard (s : Dev) (owner entry : Nat) : traceDir (heardAs M s) owner entry = heardAs M (traceDir s owner entry) := by
  refine heardAs_foldl (fun u t => ?_) _ s
  rw [show (heardAs M u).traces = u.traces from rfl]
  cases tget u.traces t with
  | none => rfl
  | some x => exact ite_heard Iff.rfl (traceAdd_heard u t _) rfl

/-- The home's copy shows whether its line has an entry. -/
def shownExt (s : Dev) (k : Nat) (ext : Bool) : Dev :=
  match lineAt s k with
  | some l => putLine s k { l with ext := ext }
  | none => s

theorem shownExt_heard (s : Dev) (k : Nat) (ext : Bool) : shownExt (heardAs M s) k ext = heardAs M (shownExt s k ext) := by
  unfold shownExt
  rw [show lineAt (heardAs M s) k = lineAt s k from rfl]
  cases lineAt s k with
  | none => rfl
  | some l => rfl

/-- An entry is put, or taken away. -/
def entryPut (s : Dev) (k : Nat) : Option DirEntry → Dev
  | some e => { s with shore := { s.shore with dir := tset s.shore.dir k { e with granted := s.shore.grants }, grants := s.shore.grants + 1 } }
  | none => { s with shore := { s.shore with dir := tdel s.shore.dir k } }

theorem entryPut_heard (s : Dev) (k : Nat) (e : Option DirEntry) : entryPut (heardAs M s) k e = heardAs M (entryPut s k e) := by
  cases e with
  | none => rfl
  | some e => rfl

theorem setEntry_eq (s : Dev) (k : Nat) (e : Option DirEntry) :
    setEntry s k e = entryPut (shownExt (traceDir s (ownerOf s (k / 2 ^ 15)) (dirWord k (thas s.shore.txn k) e)) k e.isSome) k e := by
  cases e with
  | none => rfl
  | some e => rfl

theorem setEntry_heard (s : Dev) (k : Nat) (e : Option DirEntry) : setEntry (heardAs M s) k e = heardAs M (setEntry s k e) := by
  rw [setEntry_eq, setEntry_eq, traceDir_heard, shownExt_heard, entryPut_heard]
  rfl

theorem startTxn_heard (s : Dev) (k : Nat) (t : Txn) (tell : Nat → CohOp) (third : Nat) :
    startTxn (heardAs M s) k t tell third = heardAs M (startTxn s k t tell third) := by
  refine heardAs_foldl (fun u a => ?_) _ { s with shore := { s.shore with txn := tset s.shore.txn k t } }
  rw [tellAgent_heard]
  exact ite_heard Iff.rfl rfl rfl

theorem startFree_heard (s : Dev) (k : Nat) : startFree (heardAs M s) k = heardAs M (startFree s k) := by
  unfold startFree
  rw [show dirAt (heardAs M s) k = dirAt s k from rfl, show (heardAs M s).shore = s.shore from rfl]
  cases dirAt s k with
  | none => rfl
  | some e =>
    cases tget s.shore.txn k with
    | some t => rfl
    | none => exact ite_heard Iff.rfl (setEntry_heard s k none) (startTxn_heard s k _ _ _)

theorem homeAccess_heard (s : Dev) (k : Nat) : homeAccess (heardAs M s) k false = heardIn M (homeAccess s k false) := by
  unfold homeAccess
  rw [show dirAt (heardAs M s) k = dirAt s k from rfl, show (heardAs M s).shore = s.shore from rfl]
  cases tget s.shore.txn k with
  | some t => rfl
  | none =>
    cases dirAt s k with
    | none => rfl
    | some e =>
      dsimp only
      rw [if_neg Bool.false_ne_true, if_neg Bool.false_ne_true, startTxn_heard]
      exact ite_heardIn Iff.rfl rfl rfl

/-! ### Fills -/

theorem skipLost_heard (s : Dev) (m : List Nat) (n i : Nat) : skipLost (heardAs M s) m n i = skipLost s m n i := by
  induction n generalizing i with
  | zero => rfl
  | succ n ih =>
    unfold skipLost
    rw [ih]
    rfl

theorem homeUnder_heard (s : Dev) (h l : Nat) : homeUnder (heardAs M s) h l = homeUnder s h l := by
  unfold homeUnder
  dsimp only
  rw [skipLost_heard]
  rfl

theorem sliceOf_heard (s : Dev) (k : Nat) : sliceOf (heardAs M s) k = sliceOf s k := by
  unfold sliceOf
  rw [homeUnder_heard, homeUnder_heard]
  rfl

theorem fadj_heard (s : Dev) (f : Fld) (n : Int) : fadj (heardAs M s) f n = heardAs M (fadj s f n) := by
  unfold fadj
  rw [fget_heard, fset_heard]

/-- A line that is written back. -/
def writtenBack (u : Dev) (k : Nat) (l : Line) : Dev :=
  queueWrite (putLine u k { l with dirty := false }) ⟨k, BitVec.allOnes 64, l.data, l.poison, 0, some false⟩

theorem writtenBack_heard (u : Dev) (k : Nat) (l : Line) : writtenBack (heardAs M u) k l = heardAs M (writtenBack u k l) := rfl

theorem cleanHomeLine_eq (s : Dev) (k : Nat) (l : Line) : cleanHomeLine s k l =
    if l.dirty then writtenBack (bump (fadj s (RF.SHC_SLICE_STATUS_DIRTY_LINES (sliceOf s k)) (-1)) Reg.SHC_CNT_WRITEBACKS) k l else s := by
  unfold cleanHomeLine writtenBack
  rfl

theorem cleanHomeLine_heard (s : Dev) (k : Nat) (l : Line) : cleanHomeLine (heardAs M s) k l = heardAs M (cleanHomeLine s k l) := by
  rw [cleanHomeLine_eq, cleanHomeLine_eq, sliceOf_heard, fadj_heard, bump_heard, writtenBack_heard]
  exact (apply_ite _ _ _ _).symm

theorem countSent_heard (s : Dev) (d : Option LineData) : countSent (heardAs M s) d = heardAs M (countSent s d) := by
  cases d with
  | none => rfl
  | some d => exact ite_heard Iff.rfl rfl rfl

/-- A line of another device, or of the host, is given up. -/
def giveUp (s : Dev) (k : Nat) (shared dirty : Bool) (data : Option LineData) : Dev :=
  match placeOf s k with
  | .member m => if shared then s else sendCoh s m (peerLine k) (if dirty then .wb else .drop) 0 0 data
  | .host => if shared then s
      else countSent { s with out := s.out ++ [.cxlCache (if dirty then .dirtyEvict else .cleanEvict) k data] } data
  | _ => s

theorem giveUp_heard (s : Dev) (k : Nat) (shared dirty : Bool) (data : Option LineData) :
    giveUp (heardAs M s) k shared dirty data = heardAs M (giveUp s k shared dirty data) := by
  unfold giveUp
  rw [show placeOf (heardAs M s) k = placeOf s k from rfl]
  cases placeOf s k with
  | member m => exact ite_heard Iff.rfl rfl (sendCoh_heard s _ _ _ _ _ _)
  | host => exact ite_heard Iff.rfl rfl (countSent_heard { s with out := s.out ++ [.cxlCache (if dirty then .dirtyEvict else .cleanEvict) k data] } data)
  | home => rfl
  | far d => rfl
  | io b => rfl

theorem evictLine_heard (s : Dev) (k : Nat) (l : Line) : evictLine (heardAs M s) k l = heardAs M (evictLine s k l) := by
  unfold evictLine
  cases l.hold with
  | home =>
    dsimp only
    rw [cleanHomeLine_heard]
    rfl
  | pending => rfl
  | s => exact giveUp_heard (dropLine s k) k true false none
  | f => exact giveUp_heard (dropLine s k) k false false none
  | x => exact giveUp_heard (dropLine s k) k false false none
  | d => exact giveUp_heard (dropLine s k) k false true (some ⟨l.data, l.poison⟩)

theorem rivals_heard (s : Dev) (k : Nat) : rivals (heardAs M s) k = rivals s k :=
  List.filter_congr (fun p _ => by rw [sliceOf_heard, sliceOf_heard])

theorem makeRoom_heard (s : Dev) (k : Nat) : makeRoom (heardAs M s) k = heardIn M (makeRoom s k) := by
  unfold makeRoom
  rw [rivals_heard, show (heardAs M s).shore = s.shore from rfl]
  refine ite_heardIn Iff.rfl rfl ?_
  split
  · exact congrArg (fun v => (v, true)) (evictLine_heard s _ _)
  · split
    · exact congrArg (fun v => (v, false)) (startFree_heard s _)
    · rfl

theorem takeHalf_heard (s : Dev) (k : Nat) (l : Line) (h : Nat) : takeHalf (heardAs M s) k l h = heardIn M (takeHalf s k l h) := ite_heardIn Iff.rfl rfl rfl

/-- A fill that found a held-dirty mark without its line is counted. -/
def fillMarked (s : Dev) (k : Nat) : Dev :=
  if s.dram.held.contains k then queueWrite (bump s Reg.SHC_CNT_LOST_DIRTY) ⟨k, 0, 0, 0, 3, some false⟩ else s

theorem fillMarked_heard (s : Dev) (k : Nat) : fillMarked (heardAs M s) k = heardAs M (fillMarked s k) := ite_heard Iff.rfl rfl rfl

theorem homeMoved_heard (s : Dev) (k : Nat) : homeMoved (heardAs M s) k = homeMoved s k := rfl

theorem finishFill_eq (k : Nat) (lo hi : FillHalf) : ∃ line : Bool → Bool → Line, ∀ s, finishFill s k lo hi =
    if !(makeRoom s k).2 then ((makeRoom s k).1, false)
    else
      (putLine (fillMarked { (makeRoom s k).1 with shore := { (makeRoom s k).1.shore with fills := tdel (makeRoom s k).1.shore.fills k } } k) k
        (line ((makeRoom s k).1.dram.held.contains k)
          (homeMoved (fillMarked { (makeRoom s k).1 with shore := { (makeRoom s k).1.shore with fills := tdel (makeRoom s k).1.shore.fills k } } k) k
            && thas (fillMarked { (makeRoom s k).1 with shore := { (makeRoom s k).1.shore with fills := tdel (makeRoom s k).1.shore.fills k } } k).shore.dir
              k)), true) := by
  refine ⟨fun lost moved => Line.fresh (setHalf (setHalf 0 0 lo.data) 1 hi.data)
    (if lost then 3 else (if lo.code ≠ 0 then 1 else 0) ||| (if hi.code ≠ 0 then 2 else 0))
    (if lost then 0 else (if lo.code = eUncorr then 1 else 0) ||| (if hi.code = eUncorr then 2 else 0)) moved, fun s => rfl⟩

theorem finishFill_heard (s : Dev) (k : Nat) (lo hi : FillHalf) : finishFill (heardAs M s) k lo hi = heardIn M (finishFill s k lo hi) := by
  obtain ⟨line, shape⟩ := finishFill_eq k lo hi
  rw [shape, shape, makeRoom_heard]
  obtain ⟨t, room⟩ := makeRoom s k
  refine ite_heardIn Iff.rfl rfl ?_
  obtain ⟨u, isU⟩ : ∃ u : Dev, u = { t with shore := { t.shore with fills := tdel t.shore.fills k } } := ⟨_, rfl⟩
  show (putLine (fillMarked (heardAs M { t with shore := { t.shore with fills := tdel t.shore.fills k } }) k) k
      (line (t.dram.held.contains k) (homeMoved (fillMarked (heardAs M { t with shore := { t.shore with fills := tdel t.shore.fills k } }) k) k
        && thas (fillMarked (heardAs M { t with shore := { t.shore with fills := tdel t.shore.fills k } }) k).shore.dir k)), true)
    = heardIn M (putLine (fillMarked { t with shore := { t.shore with fills := tdel t.shore.fills k } } k) k
      (line (t.dram.held.contains k) (homeMoved (fillMarked { t with shore := { t.shore with fills := tdel t.shore.fills k } } k) k
        && thas (fillMarked { t with shore := { t.shore with fills := tdel t.shore.fills k } } k).shore.dir k)), true)
  rw [← isU, fillMarked_heard]
  rfl

theorem readHalf_heard (s : Dev) (sec : Nat) : readHalf (heardAs M s) sec = heardIn M (readHalf s sec) := by
  unfold readHalf
  rw [ctlRead_heard]
  rfl

theorem lineNow_heard (s : Dev) (k : Nat) : lineNow (heardAs M s) k = heardIn M (lineNow s k) := by
  unfold lineNow
  rw [show lineAt (heardAs M s) k = lineAt s k from rfl]
  cases lineAt s k with
  | some l => rfl
  | none =>
    refine ite_heardIn Iff.rfl ?_ ?_
    · rw [countUnmapped_heard]
      rfl
    · dsimp only
      rw [drainWrites_heard, readHalf_heard]
      obtain ⟨t, lo⟩ := readHalf (drainWrites s k) (2 * k)
      rw [heardIn_mk]
      dsimp only
      rw [readHalf_heard]
      obtain ⟨u, hi⟩ := readHalf t (2 * k + 1)
      rw [heardIn_mk]
      dsimp only
      rw [finishFill_heard]
      obtain ⟨v, ok⟩ := finishFill u k lo hi
      exact ite_heardIn Iff.rfl rfl rfl

/-! ### Reads -/

/-- A sector of a line that another device or the host holds is read. -/
def readAway (s : Dev) (k h : Nat) (reach : Prop) [Decidable reach] : Dev × BitVec 256 × Nat :=
  match lineAt s k with
  | some l => if l.hold = .pending then devReadSec.openRead s else takeHalf s k l h
  | none => if reach then devReadSec.openRead s else (s, 0, ePeerGone)

theorem readAway_heard (s : Dev) (k h : Nat) (reach : Prop) [Decidable reach] : readAway (heardAs M s) k h reach = heardIn M (readAway s k h reach) := by
  unfold readAway
  rw [show lineAt (heardAs M s) k = lineAt s k from rfl]
  cases lineAt s k with
  | some l => exact ite_heardIn Iff.rfl rfl (takeHalf_heard s k l h)
  | none => exact ite_heardIn Iff.rfl rfl rfl

/-- A sector of a line at its home is read. -/
def readHome (s : Dev) (k h : Nat) : Dev × BitVec 256 × Nat :=
  if !(homeAccess s k false).2 then ({ (homeAccess s k false).1 with blocked := (homeAccess s k false).1.blocked ++ [(k, 0)] }, 0, 0)
  else match lineNow (homeAccess s k false).1 k with
    | (s, some l) => takeHalf s k l h
    | (s, none) => (s, 0, ePoison)

theorem readHome_heard (s : Dev) (k h : Nat) : readHome (heardAs M s) k h = heardIn M (readHome s k h) := by
  unfold readHome
  rw [homeAccess_heard]
  obtain ⟨t, ok⟩ := homeAccess s k false
  rw [heardIn_mk]
  refine ite_heardIn Iff.rfl rfl ?_
  dsimp only
  rw [lineNow_heard]
  obtain ⟨u, l⟩ := lineNow t k
  rw [heardIn_mk]
  cases l with
  | none => rfl
  | some l => exact takeHalf_heard u k l h

theorem devReadSec_heard (s : Dev) (sec : Nat) : devReadSec (heardAs M s) sec = heardIn M (devReadSec s sec) := by
  unfold devReadSec
  dsimp only
  rw [show placeOf (heardAs M s) (sec / 2) = placeOf s (sec / 2) from rfl]
  cases placeOf s (sec / 2) with
  | home => exact readHome_heard s (if isLocal (sec / 2) then sec / 2 else addrAt (sec / 2) / 64) (sec % 2)
  | member m => exact readAway_heard s (sec / 2) (sec % 2) (fabReach s ((64 * (sec / 2) - globalBase) / 2 ^ 42) = true)
  | host => exact readAway_heard s (sec / 2) (sec % 2) (fget s RF.HST_STATUS_HOST_VALID = 1)
  | far d => exact ite_heardIn Iff.rfl rfl rfl
  | io b => exact ite_heardIn Iff.rfl rfl rfl

theorem devReadGo_heard (f : Nat) (s : Dev) (loc n : Nat) : devRead.go (heardAs M s) loc n f = heardIn M (devRead.go s loc n f) := by
  induction f generalizing s loc n with
  | zero => rfl
  | succ f ih =>
    unfold devRead.go
    refine ite_heardIn Iff.rfl rfl ?_
    dsimp only
    rw [devReadSec_heard]
    obtain ⟨t, d, c⟩ := devReadSec s (loc / 32)
    rw [heardIn_mk]
    dsimp only
    rw [ih]
    rfl

theorem devRead_heard (s : Dev) (loc n : Nat) : devRead (heardAs M s) loc n = heardIn M (devRead s loc n) := by
  cases n with
  | zero => rfl
  | succ n => exact devReadGo_heard _ s loc _

/-! ### Migratable leaves and admission -/

theorem tableMig_heard (n : Nat) (s : Dev) (va : Nat) (t64 : Bool) (table : Nat) :
    tableMig (heardAs M s) va t64 table n = heardIn M (tableMig s va t64 table n) := by
  induction n generalizing s va t64 table with
  | zero =>
    refine heardIn_foldl (fun p i => ?_) _ (s, ([] : List (Nat × Nat × Nat)))
    dsimp only
    rw [show (heardIn M p).1 = heardAs M p.1 from rfl, devRead_heard]
    rfl
  | succ n ih =>
    refine heardIn_foldl (fun p i => ?_) _ (s, ([] : List (Nat × Nat × Nat)))
    dsimp only
    rw [show (heardIn M p).1 = heardAs M p.1 from rfl, devRead_heard]
    obtain ⟨t, b, c⟩ := devRead p.1 (table + 8 * i) 8
    rw [heardIn_mk]
    refine ite_heardIn Iff.rfl ?_ rfl
    rw [ih]
    rfl

theorem migFrames_heard (s : Dev) (i : Nat) : (migFrames (heardAs M s) i).2 = (migFrames s i).2 := by
  have all : allMig (heardAs M s) i = heardIn M (allMig s i) := ite_heardIn Iff.rfl rfl (tableMig_heard 4 s 0 false _)
  unfold migFrames
  rw [all]
  rfl

theorem admitFrame_heard (s : Dev) (src fr right : Nat) : admitFrame (heardAs M s) src fr right = admitFrame s src fr right := by
  unfold admitFrame
  dsimp only
  rw [migFrames_heard]
  rfl

theorem admitRange_heard (s : Dev) (src off n right : Nat) : admitRange (heardAs M s) src off n right = heardIn M (admitRange s src off n right) := by
  unfold admitRange
  dsimp only
  rw [show admitFrame (heardAs M s) = admitFrame s from funext (fun src => funext (fun fr => funext (fun right => admitFrame_heard s src fr right)))]
  split
  · next c denied _ => 
    cases denied with
    | true => rfl
    | false => rfl
  · rfl

end

end Sys2Proof.Machine
end

section
/-!
SUPPORT. Steps of coherence at the home of a line: each changes the line, its entry and what is under way on it, and at most sends messages (R220 to R226).
-/
namespace Sys2Proof.Machine

/-- What a coherence message about a line may change, of the registers those named and the transmit counts. -/
structure CohStep (l : List Nat) (k : Nat) (s t : Dev) : Prop where
  regs : SameRegsBut (l ++ txRegs) s t
  rest : t = { s with
    regs := t.regs
    shore := { s.shore with lines := t.shore.lines, dir := t.shore.dir, txn := t.shore.txn, queue := t.shore.queue, wants := t.shore.wants,
                            grants := t.shore.grants }
    mem := { s.mem with writes := t.mem.writes }
    fe := { s.fe with wakes := t.fe.wakes }
    fab := fabSent t s.fab
    out := t.out
    traces := t.traces
    traceQ := t.traceQ }
  members : SameMembers s t
  others : ∀ j, j ≠ k → lineAt t j = lineAt s j ∧ dirAt t j = dirAt s j ∧ tget t.shore.txn j = tget s.shore.txn j
    ∧ tget t.shore.wants j = tget s.shore.wants j ∧ tget t.shore.queue j = tget s.shore.queue j

namespace CohStep

theorem refl (l : List Nat) (k : Nat) (s : Dev) : CohStep l k s s :=
  ⟨fun _ _ _ => rfl, rfl, fun _ => rfl, fun _ _ => ⟨rfl, rfl, rfl, rfl, rfl⟩⟩

theorem trans {l : List Nat} {k : Nat} {s t u : Dev} (h : CohStep l k s t) (g : CohStep l k t u) : CohStep l k s u := by
  refine ⟨fun o others shc => (g.regs o others shc).trans (h.regs o others shc), ?_, fun i => (g.members i).trans (h.members i), fun j other => ?_⟩
  · rw [g.rest, h.rest]
    rfl
  · obtain ⟨line, dir, txn, wants, queue⟩ := h.others j other
    obtain ⟨line', dir', txn', wants', queue'⟩ := g.others j other
    exact ⟨line'.trans line, dir'.trans dir, txn'.trans txn, wants'.trans wants, queue'.trans queue⟩

theorem mono {l l' : List Nat} {k : Nat} {s t : Dev} (h : CohStep l k s t) (more : l ⊆ l') : CohStep l' k s t := by
  refine ⟨fun o others shc => h.regs o (fun named => others ?_) shc, h.rest, h.members, h.others⟩
  exact List.append_subset.mpr ⟨fun _ own => List.mem_append_left _ (more own), fun _ own => List.mem_append_right _ own⟩ named

/-- Such a step, closed. -/
theorem onlyCoh {l : List Nat} {k : Nat} {s : State} {t : Dev} (h : CohStep l k s.dev t) : OnlyCoh l s { s with dev := finish t } k := by
  obtain ⟨regs, rest, members, others⟩ := h
  refine ⟨onlyIn_finish ?_ regs, sameMem_finish (by rw [rest]), members, others⟩
  rw [rest]
  rfl

end CohStep

theorem OnlySent.cohStep {s t : Dev} (h : OnlySent s t) (k : Nat) : CohStep [] k s t := by
  obtain ⟨regs, rest, members⟩ := h
  have shore : t.shore = s.shore := by rw [rest]
  refine ⟨regs, ?_, members, fun j _ => ?_⟩
  · rw [rest]
    rfl
  · unfold lineAt dirAt
    rw [shore]
    exact ⟨rfl, rfl, rfl, rfl, rfl⟩

/-- A register of its own that is counted. -/
theorem cohStep_bump (s : Dev) (k o : Nat) : CohStep [o] k s (bump s o) :=
  ⟨fun _ others _ => regRead_bump_other _ _ _ (fun own => others (List.mem_append_left _ (own ▸ List.mem_singleton_self _))), rfl, fun _ => rfl,
    fun _ _ => ⟨rfl, rfl, rfl, rfl, rfl⟩⟩

/-! ### Entries (R220, R223) -/

theorem traceDir_sameButTraces (s : Dev) (owner entry : Nat) : SameButTraces s (traceDir s owner entry) := by
  unfold traceDir
  refine List.foldlRecOn (motive := SameButTraces s) _ _ rfl (fun t same n _ => ?_)
  split
  · split
    · exact same.traceAdd n _
    · exact same
  · exact same

/-- A step that changes a line, its entry, and the count of grants. -/
theorem cohStep_entry (s : Dev) (k : Nat) {lines : List (Nat × Line)} {dir : List (Nat × DirEntry)} (grants : Nat)
    (line : ∀ j, j ≠ k → tget lines j = tget s.shore.lines j) (entry : ∀ j, j ≠ k → tget dir j = tget s.shore.dir j) (traces : List (Nat × Trace))
    (traceQ : List (Nat × Nat × Nat)) :
    CohStep [] k s { s with shore := { s.shore with lines := lines, dir := dir, grants := grants }, traces := traces, traceQ := traceQ } :=
  ⟨fun _ _ _ => rfl, rfl, fun _ => rfl, fun j other => ⟨line j other, entry j other, rfl, rfl, rfl⟩⟩

/-- The lines of the slices once a line's entry is another one. -/
def entryLines (s : Dev) (k : Nat) (ext : Bool) : List (Nat × Line) :=
  match lineAt s k with
  | some l => tset s.shore.lines k { l with ext := ext }
  | none => s.shore.lines

theorem setEntry_shape (s : Dev) (k : Nat) (e : Option DirEntry) :
    ∃ traces traceQ, setEntry s k e = { s with
      shore := { s.shore with
        lines := entryLines s k e.isSome
        dir := (match e with
          | some e => tset s.shore.dir k { e with granted := s.shore.grants }
          | none => tdel s.shore.dir k)
        grants := (match e with
          | some _ => s.shore.grants + 1
          | none => s.shore.grants) }
      traces := traces, traceQ := traceQ } := by
  obtain ⟨traces, traceQ, traced⟩ : ∃ traces traceQ, traceDir s (ownerOf s (k / 2 ^ 15)) (dirWord k (thas s.shore.txn k) e)
      = { s with traces := traces, traceQ := traceQ } := by
    have same := traceDir_sameButTraces s (ownerOf s (k / 2 ^ 15)) (dirWord k (thas s.shore.txn k) e)
    exact ⟨_, _, same⟩
  have line : lineAt { s with traces := traces, traceQ := traceQ } k = lineAt s k := rfl
  refine ⟨traces, traceQ, ?_⟩
  unfold setEntry entryLines
  rw [traced]
  dsimp only
  rw [line]
  cases lineAt s k with
  | none =>
    cases e with
    | none => rfl
    | some e => rfl
  | some l =>
    cases e with
    | none => rfl
    | some e => rfl

theorem tget_entryLines_same (s : Dev) (k : Nat) (ext : Bool) : tget (entryLines s k ext) k = (lineAt s k).map (fun l => { l with ext := ext }) := by
  unfold entryLines
  split
  · next l here =>
    rw [here]
    exact tget_tset_same _ _ _
  · next absent =>
    rw [absent]
    exact absent

theorem tget_entryLines_other (s : Dev) {k j : Nat} (ext : Bool) (other : j ≠ k) : tget (entryLines s k ext) j = tget s.shore.lines j := by
  unfold entryLines
  split
  · exact tget_tset_other _ _ _ _ other
  · rfl

/-- What recording an entry leaves. -/
structure EntrySet (s t : Dev) (k : Nat) (e : Option DirEntry) : Prop where
  step : CohStep [] k s t
  entry : dirAt t k = e.map (fun e => { e with granted := s.shore.grants })
  line : lineAt t k = (lineAt s k).map (fun l => { l with ext := e.isSome })
  txn : t.shore.txn = s.shore.txn
  queue : t.shore.queue = s.shore.queue
  fills : t.shore.fills = s.shore.fills
  sent : t.regs = s.regs ∧ t.out = s.out ∧ t.fab = s.fab

theorem setEntry_leaves (s : Dev) (k : Nat) (e : Option DirEntry) : EntrySet s (setEntry s k e) k e := by
  obtain ⟨traces, traceQ, shape⟩ := setEntry_shape s k e
  have line := tget_entryLines_same s k e.isSome
  have others := fun j (other : j ≠ k) => tget_entryLines_other s e.isSome other
  rw [shape]
  cases e with
  | none => exact ⟨cohStep_entry s k _ others (fun j other => tget_tdel_other _ _ _ other) _ _, tget_tdel_same _ _, line, rfl, rfl, rfl, ⟨rfl, rfl, rfl⟩⟩
  | some e =>
    exact ⟨cohStep_entry s k _ others (fun j other => tget_tset_other _ _ _ _ other) _ _, tget_tset_same _ _ _, line, rfl, rfl, rfl, ⟨rfl, rfl, rfl⟩⟩

/-! ### Agents of an entry (R220) -/

theorem mem_agentsOf {e : DirEntry} {b : Nat} : b ∈ agentsOf e ↔ b < 64 ∧ e.pres.getLsbD b = true ∨ b = 64 ∧ e.presHost = true := by
  unfold agentsOf
  rw [List.mem_append, mem_setBitsOf, BitVec.testBit_toNat]
  cases e.presHost with
  | false => simp
  | true => simp

theorem getLsbD_one_shiftLeft {a b : Nat} (known : b < 64) : ((1 : BitVec 64) <<< a).getLsbD b = decide (b = a) := by
  rw [BitVec.getLsbD_shiftLeft]
  simp only [known, decide_true, Bool.true_and, BitVec.ofNat_eq_ofNat, BitVec.getLsbD_one]
  rw [Bool.eq_iff_iff]
  simp
  omega

section
variable {a : Nat} (known : a < 64)
include known

theorem mem_agentsOf_addAgent (e : DirEntry) (hostId b : Nat) : b ∈ agentsOf (addAgent e a hostId) ↔ b = a ∨ b ∈ agentsOf e := by
  have added : addAgent e a hostId = { e with pres := e.pres ||| ((1 : BitVec 64) <<< a) } := if_neg (by omega)
  rw [added, mem_agentsOf, mem_agentsOf]
  dsimp only
  by_cases low : b < 64
  · simp only [BitVec.getLsbD_or, getLsbD_one_shiftLeft low, low, Bool.or_eq_true, decide_eq_true_eq, true_and]
    tauto
  · have other : b ≠ a := by omega
    simp only [low, false_and, other, false_or]

theorem mem_agentsOf_removeAgent (e : DirEntry) (b : Nat) : b ∈ agentsOf (removeAgent e a) ↔ b ∈ agentsOf e ∧ b ≠ a := by
  have removed : removeAgent e a = { e with pres := e.pres &&& ~~~((1 : BitVec 64) <<< a) } := if_neg (by omega)
  rw [removed, mem_agentsOf, mem_agentsOf]
  dsimp only
  by_cases low : b < 64
  · have high : b ≠ 64 := by omega
    simp only [BitVec.getLsbD_and, BitVec.getLsbD_not, getLsbD_one_shiftLeft low, low, decide_true, Bool.true_and, Bool.and_eq_true, true_and,
      high, false_and, or_false, Bool.not_eq_true', decide_eq_false_iff_not]
  · have other : b ≠ a := by omega
    simp only [low, false_and, false_or, other, ne_eq, not_false_eq_true, and_true]

/-- An entry of one agent. -/
theorem soleEntry_leaves (st : DirState) (hostId granted : Nat) :
    (∀ b, b ∈ agentsOf (soleEntry st a hostId granted) ↔ b = a) ∧ holderOf (soleEntry st a hostId granted) = a
      ∧ (soleEntry st a hostId granted).state = st := by
  have member : a ≠ 64 := by omega
  refine ⟨fun b => ?_, ?_, ?_⟩
  · unfold soleEntry
    rw [mem_agentsOf_addAgent known, mem_agentsOf]
    simp
  · simp [holderOf, soleEntry, addAgent, member]
  · simp [soleEntry, addAgent, member]

end

end Sys2Proof.Machine
end

section
/-!
SUPPORT. A request of a member at the home of a line: what it is refused, granted, or made to wait for (R223, R336, R349).
-/
namespace Sys2Proof.Machine

/-- A message names the device and the epoch agreed with its receiver. -/
theorem mkMsg_congr {s u : Dev} (status : regRead u Reg.FAB_STATUS = regRead s Reg.FAB_STATUS)
    (epochs : ∀ m < 64, regRead u (Reg.SHC_EPOCH m) = regRead s (Reg.SHC_EPOCH m)) (d tag offset : Nat) (poison : Bool) (body : FabBody) :
    mkMsg u d tag offset poison body = mkMsg s d tag offset poison body := by
  have own : fget u RF.FAB_STATUS_DEVICE = fget s RF.FAB_STATUS_DEVICE := congrArg (fun v => bitsOf v _ _) status
  have valid : ∀ m < 64, fget u (RF.SHC_EPOCH_VALID m) = fget s (RF.SHC_EPOCH_VALID m) := fun m known => congrArg (fun v => bitsOf v _ _) (epochs m known)
  have device : ∀ m < 64, fget u (RF.SHC_EPOCH_DEVICE m) = fget s (RF.SHC_EPOCH_DEVICE m) := fun m known => congrArg (fun v => bitsOf v _ _) (epochs m known)
  have same : (lowest 64 fun m => fget u (RF.SHC_EPOCH_VALID m) == 1 && fget u (RF.SHC_EPOCH_DEVICE m) == d)
      = lowest 64 fun m => fget s (RF.SHC_EPOCH_VALID m) == 1 && fget s (RF.SHC_EPOCH_DEVICE m) == d :=
    lowest_congr (fun m known => by rw [valid m known, device m known])
  have epoch : epochFor u d = epochFor s d := by
    unfold epochFor
    rw [same]
    split
    · next m found => exact congrArg (fun v => bitsOf v _ _) (epochs m (lowest_lt found))
    · rfl
  unfold mkMsg
  rw [own, epoch]

/-- Of what a message that is sent depends on, nothing has changed. -/
structure SameSending (s u : Dev) : Prop where
  out : u.out = s.out
  waiting : u.fab.waiting = s.fab.waiting
  ports : u.fab.ports = s.fab.ports
  routes : u.fab.routes = s.fab.routes
  status : regRead u Reg.FAB_STATUS = regRead s Reg.FAB_STATUS
  epochs : ∀ m < 64, regRead u (Reg.SHC_EPOCH m) = regRead s (Reg.SHC_EPOCH m)

namespace SameSending

theorem refl (s : Dev) : SameSending s s := ⟨rfl, rfl, rfl, rfl, rfl, fun _ _ => rfl⟩

theorem trans {s t u : Dev} (h : SameSending s t) (k : SameSending t u) : SameSending s u :=
  ⟨k.out.trans h.out, k.waiting.trans h.waiting, k.ports.trans h.ports, k.routes.trans h.routes, k.status.trans h.status,
    fun m known => (k.epochs m known).trans (h.epochs m known)⟩

theorem device {s u : Dev} (h : SameSending s u) {a : Nat} (known : a < 64) : fget u (RF.SHC_EPOCH_DEVICE a) = fget s (RF.SHC_EPOCH_DEVICE a) :=
  congrArg (fun v => bitsOf v _ _) (h.epochs a known)

theorem mkMsg {s u : Dev} (h : SameSending s u) (d tag offset : Nat) (poison : Bool) (body : FabBody) :
    mkMsg u d tag offset poison body = Machine.mkMsg s d tag offset poison body := mkMsg_congr h.status h.epochs ..

theorem sends {s u t : Dev} (h : SameSending s u) {x : FabMsg} (sent : Sends u t x) : Sends s t x := by
  have up : fget u RF.FAB_STATUS_PORTS_UP = fget s RF.FAB_STATUS_PORTS_UP := congrArg (fun v => bitsOf v _ _) h.status
  unfold Sends routePorts portAt at sent ⊢
  rw [h.out, h.waiting, h.ports, h.routes, up] at sent
  exact sent

end SameSending

theorem sameSending_heardFrom (s : Dev) (m : FabMsg) : SameSending s (heardFrom s m) := by
  obtain ⟨members, shape⟩ := heardFrom_shape s m
  rw [shape]
  exact ⟨rfl, rfl, rfl, rfl, rfl, fun _ _ => rfl⟩

theorem sameSending_bump (s : Dev) {o : Nat} (status : Reg.FAB_STATUS ≠ o) (epochs : ∀ m < 64, Reg.SHC_EPOCH m ≠ o) : SameSending s (bump s o) :=
  ⟨rfl, rfl, rfl, rfl, regRead_bump_other _ _ _ status, fun m known => regRead_bump_other _ _ _ (epochs m known)⟩

theorem EntrySet.sameSending {s t : Dev} {k : Nat} {e : Option DirEntry} (h : EntrySet s t k e) : SameSending s t := by
  obtain ⟨regs, out, fab⟩ := h.sent
  exact ⟨out, by rw [fab], by rw [fab], by rw [fab], regRead_congr regs _, fun _ _ => regRead_congr regs _⟩

/-- A message to a member about a line is sent (R223). -/
theorem sendCoh_sends {s u : Dev} (same : SameSending s u) {a : Nat} (known : a < 64) (line : Nat) (op : CohOp) (third tag : Nat) (data : Option LineData) :
    OnlySent u (sendCoh u a line op third tag data)
      ∧ Sends s (sendCoh u a line op third tag data) (cohMsg s (fget s (RF.SHC_EPOCH_DEVICE a)) line op third tag data) := by
  have message : cohMsg u (fget u (RF.SHC_EPOCH_DEVICE a)) line op third tag data = cohMsg s (fget s (RF.SHC_EPOCH_DEVICE a)) line op third tag data := by
    rw [same.device known]
    exact same.mkMsg ..
  rw [sendCoh_eq, message]
  obtain ⟨sent, sends⟩ := routeMsg_sends u (cohMsg s (fget s (RF.SHC_EPOCH_DEVICE a)) line op third tag data)
  exact ⟨sent, same.sends sends⟩

/-! ### Admission (R349, R350) -/

theorem admitRange_leaves (s : Dev) (src off n right : Nat) :
    ∃ t, admitRange s src off n right = (t, (admitRange s src off n right).2) ∧ (t = s ∨ t = bump s Reg.FAB_CNT_EXPORT_DENIED)
      ∧ ((admitRange s src off n right).2 = 0 → t = s) := by
  unfold admitRange
  dsimp only
  split
  · next c denied found =>
    have bad : c ≠ 0 := by simpa using List.find?_some found
    refine ⟨_, rfl, ?_, fun passes => absurd passes bad⟩
    cases denied with
    | true => exact .inr rfl
    | false => exact .inl rfl
  · exact ⟨_, rfl, .inl rfl, fun _ => rfl⟩

theorem admitRange_heardFrom (s : Dev) (m : FabMsg) (src off n right : Nat) :
    (admitRange (heardFrom s m) src off n right).2 = (admitRange s src off n right).2 := by
  obtain ⟨members, shape⟩ := heardFrom_shape s m
  rw [shape]
  show (admitRange (heardAs members s) src off n right).2 = _
  rw [admitRange_heard]
  rfl

/-! ### Requests -/

/-- The request of a message at the home. -/
def reqOf (m : FabMsg) (a kind : Nat) : CohReq := ⟨a, 0, kind, m.tag⟩

section
variable {s : State} {m : FabMsg} {a k kind third : Nat} {op : CohOp} {data : Option LineData} {mk : FabMsg → Bool → Instr}
  (arrives : Arrives s.dev m) (member : memberOf s.dev m.src = some a) (line : k = m.offset / 64)
  (row : (mk, op, kind) ∈ [(Instr.cohRead, CohOp.read, 0), (Instr.cohRx, CohOp.rx, 1), (Instr.cohOwn, CohOp.own, 2)])
  (body : m.body = .coh op third data)
include arrives member line row body

/-- A request runs as an admission, and a refusal or its service. -/
theorem exec_cohRequest : ∃ u, (u = heardFrom s.dev m ∨ u = bump (heardFrom s.dev m) Reg.FAB_CNT_EXPORT_DENIED)
    ∧ ((admitRange s.dev m.src m.offset 64 (if kind = 0 then 0 else 1)).2 = 0 → u = heardFrom s.dev m)
    ∧ exec (mk m false) s = .next { s with dev := finish (
        if (admitRange s.dev m.src m.offset 64 (if kind = 0 then 0 else 1)).2 = 0 then arriveAgent u k (reqOf m a kind)
        else sendCoh u a k .refuse (admitRange s.dev m.src m.offset 64 (if kind = 0 then 0 else 1)).2 m.tag none) } := by
  obtain ⟨u, admitted, which, passes⟩ := admitRange_leaves (heardFrom s.dev m) m.src m.offset 64 (if kind = 0 then 0 else 1)
  rw [admitRange_heardFrom] at admitted passes
  have ran : exec (mk m false) s = .next { s with dev := finish (cohRequest s.dev m kind false) } := by
    simp only [List.mem_cons, Prod.mk.injEq, List.not_mem_nil, or_false] at row
    obtain ⟨rfl, rfl, rfl⟩ | ⟨rfl, rfl, rfl⟩ | ⟨rfl, rfl, rfl⟩ := row
    · show execCohRead m false s = _
      unfold execCohRead cohAsks
      rw [perform_eq, body]
      rfl
    · show execCohRx m false s = _
      unfold execCohRx cohAsks
      rw [perform_eq, body]
      rfl
    · show execCohOwn m false s = _
      unfold execCohOwn cohAsks
      rw [perform_eq, body]
      rfl
  refine ⟨u, which, passes, ran.trans ?_⟩
  unfold cohRequest
  rw [cohFrom_of_arrives arrives member]
  dsimp only
  rw [admitted]
  by_cases pass : (admitRange s.dev m.src m.offset 64 (if kind = 0 then 0 else 1)).2 = 0
  · rw [if_pos pass, pass, line]
    rfl
  · rw [if_neg pass, line]
    split
    · next passed => exact absurd (Prod.mk.inj passed).2 pass
    · next refused =>
      obtain ⟨rfl, rfl⟩ := Prod.mk.inj refused
      rfl

end

end Sys2Proof.Machine
end

section
/-!
SUPPORT. A request that the home of a line serves: a grant, a forward, or invalidations (R223).
-/
namespace Sys2Proof.Machine

/-- A device once the sender of a message has been heard: as far as lines and messages go, it is as before. -/
structure Heard (s u : Dev) : Prop where
  sent : OnlySent s u
  sending : SameSending s u
  shore : u.shore = s.shore

theorem heard_heardFrom (s : Dev) (m : FabMsg) : Heard s (heardFrom s m) := by
  refine ⟨onlySent_heardFrom s m, sameSending_heardFrom s m, ?_⟩
  obtain ⟨members, shape⟩ := heardFrom_shape s m
  rw [shape]

namespace Heard

variable {s u : Dev} (h : Heard s u)
include h

theorem lineAt (k : Nat) : lineAt u k = Machine.lineAt s k := congrArg (fun x : Shore => tget x.lines k) h.shore

theorem dirAt (k : Nat) : dirAt u k = Machine.dirAt s k := congrArg (fun x : Shore => tget x.dir k) h.shore

theorem step (k : Nat) : CohStep [] k s u := h.sent.cohStep k

end Heard

theorem sendGrant_member {s : Dev} {k : Nat} {r : CohReq} {l : Line} (known : r.agent < 64) (here : lineAt s k = some l) (withData : Bool) :
    sendGrant s k r withData = sendCoh s r.agent k .grant (grantKind s k r) r.tag (if withData then some ⟨l.data, l.poison⟩ else none) := by
  unfold sendGrant
  rw [here]
  exact if_neg (by omega)

/-- An entry is recorded, and the request that it answers granted. -/
theorem grant_leaves {s u : Dev} (h : Heard s u) {k : Nat} {l : Line} {r : CohReq} (known : r.agent < 64) (here : lineAt s k = some l) (e : DirEntry)
    (withData : Bool) :
    ∃ v third, sendGrant (setEntry u k (some e)) k r withData = v ∧ dirAt v k = some { e with granted := s.shore.grants }
      ∧ lineAt v k = some { l with ext := true }
      ∧ Sends s v (cohMsg s (fget s (RF.SHC_EPOCH_DEVICE r.agent)) k .grant third r.tag (if withData then some ⟨l.data, l.poison⟩ else none))
      ∧ CohStep [] k s v := by
  have set := setEntry_leaves u k (some e)
  have line : lineAt (setEntry u k (some e)) k = some { l with ext := true } := by
    rw [set.line, h.lineAt, here]
    rfl
  have entry : dirAt (setEntry u k (some e)) k = some { e with granted := s.shore.grants } := by
    rw [set.entry, h.shore]
    rfl
  obtain ⟨sent, sends⟩ := sendCoh_sends (h.sending.trans set.sameSending) known k .grant (grantKind (setEntry u k (some e)) k r) r.tag
    (if withData then some ⟨l.data, l.poison⟩ else none)
  rw [← sendGrant_member known line] at sent sends
  have shore : (sendGrant (setEntry u k (some e)) k r withData).shore = (setEntry u k (some e)).shore := by rw [sent.rest]
  refine ⟨_, _, rfl, ?_, ?_, sends, (h.step k).trans (set.step.trans (sent.cohStep k))⟩
  · exact (congrArg (fun x : Shore => tget x.dir k) shore).trans entry
  · exact (congrArg (fun x : Shore => tget x.lines k) shore).trans line

/-! ### Transactions -/

/-- A line's transaction is entered. -/
def busyWith (s : Dev) (k : Nat) (y : Txn) : Dev := { s with shore := { s.shore with txn := tset s.shore.txn k y } }

theorem cohStep_busyWith (s : Dev) (k : Nat) (y : Txn) : CohStep [] k s (busyWith s k y) :=
  ⟨fun _ _ _ => rfl, rfl, fun _ => rfl, fun _ other => ⟨rfl, rfl, tget_tset_other _ _ _ _ other, rfl, rfl⟩⟩

theorem sameSending_busyWith (s : Dev) (k : Nat) (y : Txn) : SameSending s (busyWith s k y) := ⟨rfl, rfl, rfl, rfl, rfl, fun _ _ => rfl⟩

/-- One agent is told of a line; what is no forward is counted. -/
def tellOne (k third : Nat) (tell : Nat → CohOp) (s : Dev) (a : Nat) : Dev :=
  if tell a = .forwardRead ∨ tell a = .forwardRx then tellAgent s a (tell a) k third
  else bump (tellAgent s a (tell a) k third) Reg.SHC_CNT_BACK_INVALIDATES

theorem startTxn_tells (s : Dev) (k : Nat) (y : Txn) (tell : Nat → CohOp) (third : Nat) :
    startTxn s k y tell third = y.waiting.foldl (tellOne k third tell) (busyWith s k y) := rfl

/-- The tag that a message to an agent names. -/
def toldTag (s : Dev) (a k : Nat) : Nat :=
  match tget s.shore.dir k with
  | some e => if e.agent = a then e.tag else 0
  | none => 0

theorem tellAgent_member (s : Dev) {a : Nat} (member : a ≠ 64) (op : CohOp) (k third : Nat) :
    tellAgent s a op k third = sendCoh s a k op third (toldTag s a k) none := if_neg member

theorem tellAgent_leaves (s : Dev) (a : Nat) (op : CohOp) (k third : Nat) :
    CohStep [Reg.HST_CNT_BI_SENT] k s (tellAgent s a op k third) ∧ (tellAgent s a op k third).shore = s.shore := by
  by_cases host : a = 64
  · have told : tellAgent s a op k third
        = bump { s with out := s.out ++ [.biSnoop k (op != .recallLine && op != .forwardRead)] } Reg.HST_CNT_BI_SENT := if_pos host
    rw [told]
    refine ⟨CohStep.trans (t := { s with out := s.out ++ [.biSnoop k (op != .recallLine && op != .forwardRead)] }) ?_ (cohStep_bump _ _ _), rfl⟩
    exact ⟨fun _ _ _ => rfl, rfl, fun _ => rfl, fun _ _ => ⟨rfl, rfl, rfl, rfl, rfl⟩⟩
  · rw [tellAgent_member s host, sendCoh_eq]
    obtain ⟨sent, -⟩ := routeMsg_sends s (cohMsg s (fget s (RF.SHC_EPOCH_DEVICE a)) k op third (toldTag s a k) none)
    exact ⟨(sent.cohStep k).mono (List.nil_subset _), by rw [sent.rest]⟩

/-- Several agents are told to give up a line: each is counted. -/
theorem tellOne_all {k third : Nat} {tell : Nat → CohOp} (invalidates : ∀ a, ¬ (tell a = .forwardRead ∨ tell a = .forwardRx)) (l : List Nat) (s : Dev) :
    CohStep [Reg.SHC_CNT_BACK_INVALIDATES, Reg.HST_CNT_BI_SENT] k s (l.foldl (tellOne k third tell) s)
      ∧ (l.foldl (tellOne k third tell) s).shore = s.shore
      ∧ regRead (l.foldl (tellOne k third tell) s) Reg.SHC_CNT_BACK_INVALIDATES = (regRead s Reg.SHC_CNT_BACK_INVALIDATES + l.length) % 2 ^ 64 := by
  induction l generalizing s with
  | nil => exact ⟨.refl _ k s, rfl, (Nat.mod_eq_of_lt (BitVec.isLt _)).symm⟩
  | cons a l ih =>
    have one : tellOne k third tell s a = bump (tellAgent s a (tell a) k third) Reg.SHC_CNT_BACK_INVALIDATES := if_neg (invalidates a)
    obtain ⟨told, shore⟩ := tellAgent_leaves s a (tell a) k third
    obtain ⟨step, lines, count⟩ := ih (tellOne k third tell s a)
    rw [List.foldl_cons]
    refine ⟨CohStep.trans (t := tellOne k third tell s a) ?_ step, ?_, ?_⟩
    · rw [one]
      exact (told.mono (by simp)).trans ((cohStep_bump _ k _).mono (by simp))
    · rw [lines, one]
      exact shore
    · rw [count, one, regRead_bump_same, told.regs Reg.SHC_CNT_BACK_INVALIDATES (by decide) (by decide)]
      simp only [List.length_cons]
      omega

section
variable {s u : Dev} (h : Heard s u) {k : Nat}
include h

theorem Heard.busy (y : Txn) : (busyWith u k y).shore = { s.shore with txn := tset s.shore.txn k y } := by
  unfold busyWith
  rw [h.shore]

/-- A line's holder is sent a forward. -/
theorem forward_leaves {a : Nat} (known : a < 64) (y : Txn) (waits : y.waiting = [a]) (tell : Nat → CohOp)
    (forwards : tell a = .forwardRead ∨ tell a = .forwardRx) (third : Nat) :
    ∃ v, bump (startTxn u k y tell third) Reg.SHC_CNT_FORWARDS = v ∧ v.shore = { s.shore with txn := tset s.shore.txn k y }
      ∧ Sends s v (cohMsg s (fget s (RF.SHC_EPOCH_DEVICE a)) k (tell a) third (toldTag s a k) none) ∧ CohStep [Reg.SHC_CNT_FORWARDS] k s v := by
  obtain ⟨sent, sends⟩ := sendCoh_sends (h.sending.trans (sameSending_busyWith u k y)) known k (tell a) third (toldTag s a k) none
  have started : startTxn u k y tell third = sendCoh (busyWith u k y) a k (tell a) third (toldTag s a k) none := by
    have tag : toldTag (busyWith u k y) a k = toldTag s a k := by
      unfold toldTag busyWith
      rw [h.shore]
    rw [startTxn_tells, waits, ← tag, ← tellAgent_member _ (by omega)]
    exact if_pos forwards
  rw [started]
  refine ⟨_, rfl, ?_, sends.followed rfl rfl, ?_⟩
  · show (sendCoh _ _ _ _ _ _ _).shore = _
    rw [sent.rest]
    exact h.busy y
  · exact (((h.step k).trans (cohStep_busyWith u k y)).trans (sent.cohStep k)).mono (List.nil_subset _) |>.trans (cohStep_bump _ k _)

/-- The others that hold a line are told to give it up. -/
theorem invalidate_leaves (y : Txn) {tell : Nat → CohOp} (invalidates : ∀ a, ¬ (tell a = .forwardRead ∨ tell a = .forwardRx)) (third : Nat) :
    ∃ v, startTxn u k y tell third = v ∧ v.shore = { s.shore with txn := tset s.shore.txn k y }
      ∧ regRead v Reg.SHC_CNT_BACK_INVALIDATES = (regRead s Reg.SHC_CNT_BACK_INVALIDATES + y.waiting.length) % 2 ^ 64
      ∧ CohStep [Reg.SHC_CNT_BACK_INVALIDATES, Reg.HST_CNT_BI_SENT] k s v := by
  obtain ⟨step, shore, count⟩ := tellOne_all (k := k) (third := third) invalidates y.waiting (busyWith u k y)
  refine ⟨_, startTxn_tells u k y tell third, ?_, ?_, (((h.step k).trans (cohStep_busyWith u k y)).mono (List.nil_subset _)).trans step⟩
  · exact shore.trans (h.busy y)
  · rw [count]
    show (regRead u _ + _) % _ = _
    rw [h.sent.regs Reg.SHC_CNT_BACK_INVALIDATES (by decide) (by decide)]

end

end Sys2Proof.Machine
end

section
/-!
SUPPORT. What the home of a line does with a request, by what is held of the line (R223).
-/
namespace Sys2Proof.Machine

/-! ### The entry that a grant leaves -/

theorem entryAfter_vacant {r : CohReq} (read : r.kind = 0) :
    entryAfter none r = { soleEntry .sole r.agent r.hostId 0 with tag := (entryAfter none r).tag } := by
  unfold entryAfter
  rw [if_pos read]

theorem entryAfter_shared {e : DirEntry} {r : CohReq} (read : r.kind = 0) (shared : e.state = .shared) :
    entryAfter (some e) r = { addAgent e r.agent r.hostId with tag := (entryAfter (some e) r).tag } := by
  unfold entryAfter
  rw [if_pos read]
  dsimp only
  rw [shared]

theorem entryAfter_own {e : Option DirEntry} {r : CohReq} (write : r.kind ≠ 0) :
    entryAfter e r = { soleEntry .dirty r.agent r.hostId 0 with tag := (entryAfter e r).tag } := by
  unfold entryAfter
  rw [if_neg write]

/-- A request that can be granted at once: of a line that none holds, for reading of one in S, or for writing. -/
theorem entryAfter_granted {e : Option DirEntry} {r : CohReq} (known : r.agent < 64)
    (plain : r.kind = 0 → ∀ x, e = some x → x.state = .shared) :
    (entryAfter e r).state = (if r.kind ≠ 0 then .dirty else if e = none then .sole else .shared)
      ∧ (∀ b, b ∈ agentsOf (entryAfter e r) ↔ b = r.agent ∨ r.kind = 0 ∧ ∃ x, e = some x ∧ b ∈ agentsOf x)
      ∧ ((entryAfter e r).state ≠ .shared → holderOf (entryAfter e r) = r.agent) := by
  by_cases read : r.kind = 0
  · rw [if_neg (not_not_intro read)]
    cases e with
    | none =>
      obtain ⟨agents, holder, state⟩ := soleEntry_leaves known .sole r.hostId 0
      rw [entryAfter_vacant read]
      exact ⟨state, fun b => (agents b).trans (by simp), fun _ => holder⟩
    | some x =>
      have shared := plain read x rfl
      have added : (addAgent x r.agent r.hostId).state = .shared := by
        unfold addAgent
        rw [if_neg (by omega)]
        exact shared
      rw [entryAfter_shared read shared, if_neg (by simp)]
      exact ⟨added, fun b => (mem_agentsOf_addAgent known x r.hostId b).trans (by simp [read]), fun other => absurd added other⟩
  · rw [if_pos read, entryAfter_own read]
    obtain ⟨agents, holder, state⟩ := soleEntry_leaves known .dirty r.hostId 0
    exact ⟨state, fun b => (agents b).trans (by simp [read]), fun _ => holder⟩

/-! ### Serving a request -/

section
variable {u : Dev} {k : Nat} {l : Line} {r : CohReq} (here : lineAt u k = some l)
include here

theorem serveAgent_vacant (vacant : dirAt u k = none) (room : (dirSet u k).length < 16) :
    serveAgent u k r = sendGrant (setEntry u k (some (entryAfter none r))) k r true := by
  have free : dirRoom u k = (u, true) := if_pos room
  unfold serveAgent
  rw [here, vacant]
  dsimp only
  rw [free]
  rfl

theorem serveAgent_shared {e : DirEntry} (entry : dirAt u k = some e) (read : r.kind = 0) (shared : e.state = .shared) :
    serveAgent u k r = sendGrant (setEntry u k (some (entryAfter (some e) r))) k r true := by
  unfold serveAgent
  rw [here, entry]
  dsimp only
  rw [if_pos read, shared]

theorem serveAgent_alone {e : DirEntry} (entry : dirAt u k = some e) (write : r.kind ≠ 0) (alone : (agentsOf e).filter (· != r.agent) = []) :
    serveAgent u k r
      = sendGrant (setEntry u k (some (entryAfter (some e) r))) k r (!(r.kind == 2 && (agentsOf e).contains r.agent)) := by
  unfold serveAgent
  rw [here, entry]
  dsimp only
  rw [if_neg write, if_pos alone]

theorem serveAgent_forwards {e : DirEntry} (entry : dirAt u k = some e) (held : holderOf e ∈ agentsOf e) (other : holderOf e ≠ r.agent)
    (member : holderOf e ≠ 64) (known : r.agent ≠ 64) (state : e.state = .dirty ∨ r.kind = 0 ∧ e.state ≠ .shared) :
    serveAgent u k r = bump (startTxn u k ⟨.forward, some r, [holderOf e], some (entryAfter (some e) r), false⟩
      (fun _ => if r.kind = 0 then .forwardRead else .forwardRx) r.agent) Reg.SHC_CNT_FORWARDS := by
  have members : ¬ (holderOf e = 64 ∨ r.agent = 64) := not_or.mpr ⟨member, known⟩
  unfold serveAgent
  rw [here, entry]
  dsimp only
  by_cases read : r.kind = 0
  · rw [if_pos read, if_neg other, if_neg members, if_pos read]
    split
    · next shared =>
      obtain dirty | ⟨-, unshared⟩ := state
      · rw [dirty] at shared
        cases shared
      · exact absurd shared unshared
    · rfl
  · have dirty : e.state = .dirty := state.resolve_right (fun both => read both.1)
    have others : (agentsOf e).filter (· != r.agent) ≠ [] :=
      List.ne_nil_of_mem (List.mem_filter.mpr ⟨held, by simpa using other⟩)
    rw [if_neg read, if_neg others, if_neg members, if_neg read, dirty]

theorem serveAgent_invalidates {e : DirEntry} (entry : dirAt u k = some e) (write : r.kind ≠ 0) (shared : e.state = .shared)
    (others : (agentsOf e).filter (· != r.agent) ≠ []) :
    serveAgent u k r = startTxn u k ⟨.invalidate, some { r with kind := if r.kind == 2 && (agentsOf e).contains r.agent then 2 else 1 },
      (agentsOf e).filter (· != r.agent), some (entryAfter (some e) r), false⟩ (fun _ => .inval) r.agent := by
  unfold serveAgent
  rw [here, entry]
  dsimp only
  rw [if_neg write, if_neg others, shared]

end

theorem arriveAgent_served {u : Dev} {k : Nat} (idle : tget u.shore.txn k = none) (filled : tget u.shore.fills k = none)
    (alone : tget u.shore.queue k = none) (r : CohReq) : arriveAgent u k r = serveAgent u k r := by
  unfold arriveAgent thas tgetD
  rw [idle, filled, alone]
  rfl

end Sys2Proof.Machine
end

section
/-!
SUPPORT. A member's request at the home of a line, clause by clause (R223, R336, R349).
-/
namespace Sys2Proof.Machine

section
variable {s : State} {m : FabMsg} {a k kind third : Nat} {op : CohOp} {data : Option LineData} {mk : FabMsg → Bool → Instr}
  (arrives : Arrives s.dev m) (member : memberOf s.dev m.src = some a) (line : k = m.offset / 64)
  (row : (mk, op, kind) ∈ [(Instr.cohRead, CohOp.read, 0), (Instr.cohRx, CohOp.rx, 1), (Instr.cohOwn, CohOp.own, 2)])
  (body : m.body = .coh op third data)
include arrives member line row body

/-- What no export admits is refused. -/
theorem cohRequest_refused {c : Nat} (bad : c ≠ 0) (verdict : (admitRange s.dev m.src m.offset 64 (if kind = 0 then 0 else 1)).2 = c) :
    ∃ t, exec (mk m false) s = .next t ∧ lineAt t.dev k = lineAt s.dev k ∧ dirAt t.dev k = dirAt s.dev k
      ∧ Sends s.dev t.dev (mkMsg s.dev m.src m.tag (64 * k) false (.coh .refuse c none)) ∧ OnlyCoh [Reg.FAB_CNT_EXPORT_DENIED] s t k := by
  obtain ⟨known, device⟩ := device_of_memberOf member
  obtain ⟨u, which, -, ran⟩ := exec_cohRequest arrives member line row body
  rw [verdict, if_neg bad] at ran
  have heard := heard_heardFrom s.dev m
  obtain ⟨same, step, shore⟩ : SameSending s.dev u ∧ CohStep [Reg.FAB_CNT_EXPORT_DENIED] k s.dev u ∧ u.shore = s.dev.shore := by
    obtain rfl | rfl := which
    · exact ⟨heard.sending, (heard.step k).mono (List.nil_subset _), heard.shore⟩
    · have apart : ∀ i < 64, Reg.SHC_EPOCH i ≠ Reg.FAB_CNT_EXPORT_DENIED := by decide
      exact ⟨heard.sending.trans (sameSending_bump _ (by decide) apart), ((heard.step k).mono (List.nil_subset _)).trans (cohStep_bump _ k _), heard.shore⟩
  obtain ⟨sent, sends⟩ := sendCoh_sends same known k .refuse c m.tag none
  rw [device] at sends
  have kept : (sendCoh u a k .refuse c m.tag none).shore = s.dev.shore := by
    rw [sent.rest]
    exact shore
  exact ⟨_, ran, congrArg (fun x : Shore => tget x.lines k) kept, congrArg (fun x : Shore => tget x.dir k) kept, sends.followed rfl rfl,
    (step.trans ((sent.cohStep k).mono (List.nil_subset _))).onlyCoh⟩

section
variable {l : Line} (admitted : (admitRange s.dev m.src m.offset 64 (if kind = 0 then 0 else 1)).2 = 0) (here : lineAt s.dev k = some l)
  (idle : tget s.dev.shore.txn k = none) (filled : tget s.dev.shore.fills k = none) (alone : tget s.dev.shore.queue k = none)
include admitted idle filled alone

/-- An admitted request of a line that is at rest is served at once. -/
theorem cohRequest_served : exec (mk m false) s = .next { s with dev := finish (serveAgent (heardFrom s.dev m) k (reqOf m a kind)) } := by
  obtain ⟨u, -, passes, ran⟩ := exec_cohRequest arrives member line row body
  obtain rfl := passes admitted
  have shore := (heard_heardFrom s.dev m).shore
  rw [if_pos admitted, arriveAgent_served (by rw [shore, idle]) (by rw [shore, filled]) (by rw [shore, alone])] at ran
  exact ran

include here

/-- A line that no other agent holds is granted. -/
theorem cohRequest_granted (free : dirAt s.dev k = none ∧ (dirSet s.dev k).length < 16 ∨
      ∃ e, dirAt s.dev k = some e ∧ (kind = 0 ∧ e.state = .shared ∨ kind ≠ 0 ∧ ∀ b ∈ agentsOf e, b = a)) :
    ∃ (t : State) (x : DirEntry) (third : Nat), exec (mk m false) s = .next t ∧ dirAt t.dev k = some x ∧ lineAt t.dev k = some { l with ext := true }
      ∧ x.state = (if kind ≠ 0 then .dirty else if dirAt s.dev k = none then .sole else .shared)
      ∧ (∀ b, b ∈ agentsOf x ↔ b = a ∨ kind = 0 ∧ ∃ e, dirAt s.dev k = some e ∧ b ∈ agentsOf e)
      ∧ (x.state ≠ .shared → holderOf x = a)
      ∧ Sends s.dev t.dev
          (if kind = 2 ∧ (∃ e, dirAt s.dev k = some e ∧ a ∈ agentsOf e) then mkMsg s.dev m.src m.tag (64 * k) false (.coh .grant third none)
           else mkMsg s.dev m.src m.tag (64 * k) (l.poison != 0) (.coh .grant third (some ⟨l.data, l.poison⟩)))
      ∧ OnlyCoh [] s t k := by
  obtain ⟨known, device⟩ := device_of_memberOf member
  have ran := cohRequest_served arrives member line row body admitted idle filled alone
  have heard := heard_heardFrom s.dev m
  have lineHere := (heard.lineAt k).trans here
  have plain : kind = 0 → ∀ x, dirAt s.dev k = some x → x.state = .shared := by
    rintro read x entry
    obtain ⟨vacant, -⟩ | ⟨e, found, ⟨-, shared⟩ | ⟨write, -⟩⟩ := free
    · rw [vacant] at entry
      cases entry
    · obtain rfl := Option.some.inj (entry.symm.trans found)
      exact shared
    · exact absurd read write
  obtain ⟨state, agents, holder⟩ := entryAfter_granted (e := dirAt s.dev k) (r := reqOf m a kind) known plain
  obtain ⟨withData, owned, served⟩ : ∃ withData : Bool, (withData = false ↔ kind = 2 ∧ ∃ e, dirAt s.dev k = some e ∧ a ∈ agentsOf e)
      ∧ serveAgent (heardFrom s.dev m) k (reqOf m a kind)
        = sendGrant (setEntry (heardFrom s.dev m) k (some (entryAfter (dirAt s.dev k) (reqOf m a kind)))) k (reqOf m a kind) withData := by
    obtain ⟨vacant, room⟩ | ⟨e, found, ⟨read, shared⟩ | ⟨write, all⟩⟩ := free
    · refine ⟨true, by simp [vacant], ?_⟩
      rw [vacant]
      refine serveAgent_vacant lineHere ((heard.dirAt k).trans vacant) ?_
      unfold dirSet at room ⊢
      rw [heard.shore]
      exact room
    · refine ⟨true, by simp [read], ?_⟩
      rw [found]
      exact serveAgent_shared lineHere ((heard.dirAt k).trans found) read shared
    · refine ⟨!(kind == 2 && (agentsOf e).contains a), by simp [found], ?_⟩
      rw [found]
      refine serveAgent_alone lineHere ((heard.dirAt k).trans found) write (List.filter_eq_nil_iff.mpr (fun b held => ?_))
      simpa [reqOf] using all b held
  obtain ⟨v, third, isV, entry, kept, sends, step⟩ := grant_leaves heard (r := reqOf m a kind) known here (entryAfter (dirAt s.dev k) (reqOf m a kind)) withData
  rw [served, isV] at ran
  refine ⟨_, _, third, ran, entry, kept, state, agents, holder, ?_, step.onlyCoh⟩
  have sent := sends.followed (u := finish v) rfl rfl
  rw [show (reqOf m a kind).agent = a from rfl, device] at sent
  cases withData with
  | false =>
    rw [if_pos (owned.mp rfl)]
    exact sent
  | true =>
    rw [if_neg (fun own => Bool.noConfusion (owned.mpr own))]
    exact sent

/-- A line that another agent holds is asked of it. -/
theorem cohRequest_forwarded {e : DirEntry} (entry : dirAt s.dev k = some e) (held : holderOf e ∈ agentsOf e) (other : holderOf e ≠ a)
    (agent : holderOf e ≠ 64) (state : e.state = .dirty ∨ kind = 0 ∧ e.state ≠ .shared) :
    ∃ (t : State) (y : Txn), exec (mk m false) s = .next t ∧ tget t.dev.shore.txn k = some y ∧ y.waiting = [holderOf e] ∧ y.req = some ⟨a, 0, kind, m.tag⟩
      ∧ dirAt t.dev k = some e ∧ lineAt t.dev k = some l
      ∧ Sends s.dev t.dev (mkMsg s.dev (fget s.dev (RF.SHC_EPOCH_DEVICE (holderOf e))) e.tag (64 * k) false
          (.coh (if kind = 0 then .forwardRead else .forwardRx) a none))
      ∧ OnlyCoh [Reg.SHC_CNT_FORWARDS] s t k := by
  obtain ⟨known, -⟩ := device_of_memberOf member
  have ran := cohRequest_served arrives member line row body admitted idle filled alone
  have heard := heard_heardFrom s.dev m
  have low : holderOf e < 64 := ((mem_agentsOf.mp held).resolve_right (fun host => agent host.1)).1
  have tag : toldTag s.dev (holderOf e) k = e.tag := by
    have named : e.agent = holderOf e := by
      unfold holderOf at agent ⊢
      split at agent
      · exact absurd rfl agent
      · next device => rw [if_neg device]
    unfold toldTag
    rw [show tget s.dev.shore.dir k = some e from entry]
    exact if_pos named
  have forwards : (if kind = 0 then CohOp.forwardRead else .forwardRx) = .forwardRead ∨ (if kind = 0 then CohOp.forwardRead else .forwardRx) = .forwardRx := by
    split
    · exact .inl rfl
    · exact .inr rfl
  rw [serveAgent_forwards (r := reqOf m a kind) ((heard.lineAt k).trans here) ((heard.dirAt k).trans entry) held other agent
    (show a ≠ 64 by omega) state] at ran
  obtain ⟨v, isV, shore, sends, step⟩ := forward_leaves heard (k := k) low
    ⟨.forward, some (reqOf m a kind), [holderOf e], some (entryAfter (some e) (reqOf m a kind)), false⟩ rfl
    (fun _ => if kind = 0 then .forwardRead else .forwardRx) forwards a
  rw [tag] at sends
  refine ⟨_, ⟨.forward, some (reqOf m a kind), [holderOf e], some (entryAfter (some e) (reqOf m a kind)), false⟩,
    ran.trans (congrArg (fun v => Host.Outcome.next { s with dev := finish v }) isV), ?_, rfl, rfl, ?_, ?_, sends.followed rfl rfl, step.onlyCoh⟩
  · show tget v.shore.txn k = _
    rw [shore]
    exact tget_tset_same _ _ _
  · show tget v.shore.dir k = _
    rw [shore]
    exact entry
  · show tget v.shore.lines k = _
    rw [shore]
    exact here

/-- A line that others share is invalidated before it is granted for writing. -/
theorem cohRequest_invalidates {e : DirEntry} (entry : dirAt s.dev k = some e) (shared : e.state = .shared) (write : kind ≠ 0)
    (others : ∃ b ∈ agentsOf e, b ≠ a) :
    ∃ (t : State) (y : Txn), exec (mk m false) s = .next t ∧ tget t.dev.shore.txn k = some y ∧ y.waiting = (agentsOf e).filter (· != a)
      ∧ dirAt t.dev k = some e ∧ lineAt t.dev k = some l
      ∧ regRead t.dev Reg.SHC_CNT_BACK_INVALIDATES = (regRead s.dev Reg.SHC_CNT_BACK_INVALIDATES + y.waiting.length) % 2 ^ 64
      ∧ OnlyCoh [Reg.SHC_CNT_BACK_INVALIDATES, Reg.HST_CNT_BI_SENT] s t k := by
  have ran := cohRequest_served arrives member line row body admitted idle filled alone
  have heard := heard_heardFrom s.dev m
  obtain ⟨b, held, other⟩ := others
  rw [serveAgent_invalidates (r := reqOf m a kind) ((heard.lineAt k).trans here) ((heard.dirAt k).trans entry) write shared
    (List.ne_nil_of_mem (List.mem_filter.mpr ⟨held, by simpa [reqOf] using other⟩))] at ran
  obtain ⟨y, waits, isY⟩ : ∃ y : Txn, y.waiting = (agentsOf e).filter (· != a) ∧ ⟨.invalidate,
      some { reqOf m a kind with kind := if (reqOf m a kind).kind == 2 && (agentsOf e).contains (reqOf m a kind).agent then 2 else 1 },
      (agentsOf e).filter (· != (reqOf m a kind).agent), some (entryAfter (some e) (reqOf m a kind)), false⟩ = y := ⟨_, rfl, rfl⟩
  rw [isY] at ran
  obtain ⟨v, isV, shore, count, step⟩ := invalidate_leaves heard (k := k) y (tell := fun _ => .inval) (fun _ => by decide) a
  refine ⟨_, y, ran.trans (congrArg (fun v => Host.Outcome.next { s with dev := finish v }) isV), ?_, waits, ?_, ?_, ?_, step.onlyCoh⟩
  · show tget v.shore.txn k = _
    rw [shore]
    exact tget_tset_same _ _ _
  · show tget v.shore.dir k = _
    rw [shore]
    exact entry
  · show tget v.shore.lines k = _
    rw [shore]
    exact here
  · exact (regRead_finish v Reg.SHC_CNT_BACK_INVALIDATES (by decide)).trans count

end

end

end Sys2Proof.Machine
end

section
/-!
SUPPORT. Write-backs, drop notices and answers at the home of a line (R222, R223, R226).
-/
namespace Sys2Proof.Machine

/-! ### A home that has nothing waiting -/

/-- No fill is under way, and no request waits. -/
structure Quiet (s : Dev) : Prop where
  fills : s.shore.fills = []
  queue : s.shore.queue = []

namespace Quiet

variable {s : Dev} (h : Quiet s)
include h

theorem afterFree (k : Nat) : afterFree s k = s := by
  unfold Machine.afterFree
  rw [h.fills]
  show (tkeys s.shore.queue).foldl _ s = s
  rw [h.queue]
  rfl

theorem serveQueue (k : Nat) : serveQueue s k = s := by
  have same : tdel s.shore.queue k = s.shore.queue := by
    rw [h.queue]
    rfl
  have empty : tgetD s.shore.queue k [] = [] := by
    rw [h.queue]
    rfl
  unfold Machine.serveQueue
  rw [empty]
  show serveQueueN s k 1 = s
  unfold serveQueueN
  rw [empty, same]
  exact ite_self s

theorem congr {t : Dev} (fills : t.shore.fills = s.shore.fills) (queue : t.shore.queue = s.shore.queue) : Quiet t :=
  ⟨fills.trans h.fills, queue.trans h.queue⟩

theorem setEntry (k : Nat) (e : Option DirEntry) : Quiet (setEntry s k e) :=
  h.congr (setEntry_leaves s k e).fills (setEntry_leaves s k e).queue

theorem heard {u : Dev} (heard : Heard s u) : Quiet u := h.congr (by rw [heard.shore]) (by rw [heard.shore])

end Quiet

/-! ### The home's copy is written (R212, R213) -/

theorem sliceOf_congr {s t : Dev} (regs : t.regs = s.regs) (homes : t.shore.homeMap = s.shore.homeMap) (k : Nat) : sliceOf t k = sliceOf s k := by
  have lost : sliceLost t = sliceLost s := by
    funext i
    unfold sliceLost fget regRead
    rw [regs]
  have members : setMembers t = setMembers s := by
    funext i
    unfold setMembers fget regRead
    rw [regs]
  have skip : ∀ (m : List Nat) (n i : Nat), skipLost t m n i = skipLost s m n i := by
    intro m n
    induction n with
    | zero => exact fun _ => rfl
    | succ n ih =>
      intro i
      unfold skipLost
      rw [lost, ih]
  have home : ∀ h l, homeUnder t h l = homeUnder s h l := by
    intro h l
    unfold homeUnder
    dsimp only
    rw [members, lost, skip]
  unfold sliceOf homeSetOf
  rw [homes, home, home]

/-- The wakes of a watched line are queued. -/
theorem sendWake_shape (s : Dev) (k : Nat) : ∃ wakes, sendWake s k = { s with fe := { s.fe with wakes := wakes } } := by
  unfold sendWake
  split
  · exact ⟨_, rfl⟩
  · exact ⟨_, rfl⟩

/-- A line at its home that is written: its bytes are dirty there, and the slice may count one more dirty line. -/
theorem storeHomeLine_leaves (s : Dev) (k : Nat) (l : Line) :
    CohStep [Reg.SHC_SLICE_STATUS (sliceOf s k)] k s (storeHomeLine s k l)
      ∧ (storeHomeLine s k l).shore = { s.shore with lines := tset s.shore.lines k { l with dirty := true } } := by
  obtain ⟨wakes, woken⟩ := sendWake_shape s k
  have woke : CohStep [Reg.SHC_SLICE_STATUS (sliceOf s k)] k s (sendWake s k) := by
    rw [woken]
    exact ⟨fun _ _ _ => rfl, rfl, fun _ => rfl, fun _ _ => ⟨rfl, rfl, rfl, rfl, rfl⟩⟩
  have shore : (sendWake s k).shore = s.shore := by rw [woken]
  obtain ⟨v, stored, step, kept⟩ : ∃ v, storeHomeLine s k l = putLine v k { l with dirty := true }
      ∧ CohStep [Reg.SHC_SLICE_STATUS (sliceOf s k)] k s v ∧ v.shore = s.shore := by
    by_cases dirty : l.dirty = true
    · refine ⟨sendWake s k, ?_, woke, shore⟩
      unfold storeHomeLine
      rw [if_pos dirty]
    · refine ⟨queueWrite (fadj (sendWake s k) (RF.SHC_SLICE_STATUS_DIRTY_LINES (sliceOf s k)) 1) ⟨k, 0, 0, 0, 0, some true⟩, ?_, woke.trans ?_, shore⟩
      · unfold storeHomeLine
        rw [if_neg dirty]
      · refine ⟨fun o others _ => regRead_fset_other _ _ _ _ (fun own => others (List.mem_append_left _ ?_)), rfl, fun _ => rfl,
          fun _ _ => ⟨rfl, rfl, rfl, rfl, rfl⟩⟩
        rw [own]
        exact List.mem_singleton_self _
  rw [stored]
  refine ⟨step.trans ⟨fun _ _ _ => rfl, rfl, fun _ => rfl, fun j other => ⟨tget_tset_other _ _ _ _ other, rfl, rfl, rfl, rfl⟩⟩, ?_⟩
  unfold putLine
  rw [kept]

/-! ### The end of a transaction -/

/-- A line's transaction is over. -/
def idleAt (s : Dev) (k : Nat) : Dev := { s with shore := { s.shore with txn := tdel s.shore.txn k } }

theorem cohStep_idleAt (s : Dev) (k : Nat) : CohStep [] k s (idleAt s k) :=
  ⟨fun _ _ _ => rfl, rfl, fun _ => rfl, fun _ other => ⟨rfl, rfl, tget_tdel_other _ _ _ other, rfl, rfl⟩⟩

/-- One that no request caused leaves its entry. -/
theorem finishTxn_unasked {u : Dev} (quiet : Quiet u) {k : Nat} {z : Txn} (unasked : z.req = none) :
    finishTxn (busyWith u k z) k z = setEntry (idleAt (busyWith u k z) k) k z.next := by
  have done : Quiet (setEntry (idleAt (busyWith u k z) k) k z.next) :=
    Quiet.setEntry (s := idleAt (busyWith u k z) k) ⟨quiet.fills, quiet.queue⟩ k z.next
  unfold finishTxn
  rw [unasked]
  show (if z.next.isNone then afterFree (serveQueue (setEntry (idleAt (busyWith u k z) k) k z.next) k) k
    else serveQueue (setEntry (idleAt (busyWith u k z) k) k z.next) k) = _
  rw [done.serveQueue, done.afterFree]
  exact ite_self _

/-! ### Messages of a holder -/

section
variable {s : State} {m : FabMsg} {a k third : Nat} (arrives : Arrives s.dev m) (member : memberOf s.dev m.src = some a) (line : k = m.offset / 64)
  (quiet : Quiet s.dev)
include arrives member line quiet

section
variable {e : DirEntry} {l : Line} (idle : tget s.dev.shore.txn k = none) (entry : dirAt s.dev k = some e) (holder : holderOf e = a)
  (here : lineAt s.dev k = some l)
include idle entry holder here

/-- A write-back of the holder leaves the line Vacant, with its data at the home. -/
theorem exec_cohWb {d : LineData} (body : m.body = .coh .wb third (some d)) (dirty : e.state = .dirty) :
    ∃ t, exec (.cohWb m) s = .next t ∧ dirAt t.dev k = none
      ∧ lineAt t.dev k = some { l with data := d.data, poison := d.poison, uncorr := 0, dirty := true, ext := false }
      ∧ OnlyCoh [Reg.SHC_SLICE_STATUS (sliceOf s.dev k)] s t k := by
  have heard := heard_heardFrom s.dev m
  obtain ⟨step, shore⟩ := storeHomeLine_leaves (heardFrom s.dev m) k { l with data := d.data, poison := d.poison, uncorr := 0 }
  have slice : sliceOf (heardFrom s.dev m) k = sliceOf s.dev k := by
    obtain ⟨members, shape⟩ := heardFrom_shape s.dev m
    exact sliceOf_congr (by rw [shape]) (by rw [shape]) k
  have takes : homeTakes (heardFrom s.dev m) k d = storeHomeLine (heardFrom s.dev m) k { l with data := d.data, poison := d.poison, uncorr := 0 } := by
    unfold homeTakes
    rw [heard.lineAt, here]
  obtain ⟨v, isV⟩ : ∃ v, v = storeHomeLine (heardFrom s.dev m) k { l with data := d.data, poison := d.poison, uncorr := 0 } := ⟨_, rfl⟩
  rw [← isV] at step shore takes
  have set := setEntry_leaves v k none
  have done : Quiet (setEntry v k none) := Quiet.setEntry ((quiet.heard heard).congr (by rw [shore]) (by rw [shore])) k none
  have back : cohWb s.dev m (some d) = setEntry v k none := by
    unfold cohWb
    rw [cohFrom_of_arrives arrives member]
    dsimp only
    rw [← line, heard.shore, idle, heard.dirAt, entry]
    dsimp only
    rw [if_pos ⟨dirty, holder⟩, takes, done.serveQueue, done.afterFree]
  have ran : exec (.cohWb m) s = .next { s with dev := finish (setEntry v k none) } := by
    show execCohWb m s = _
    unfold execCohWb cohOf
    rw [perform_eq, body]
    exact congrArg (fun v => Host.Outcome.next { s with dev := finish v }) back
  refine ⟨_, ran, set.entry, ?_, ?_⟩
  · refine set.line.trans ?_
    have stored : lineAt v k = some { l with data := d.data, poison := d.poison, uncorr := 0, dirty := true } := by
      unfold lineAt
      rw [shore]
      exact tget_tset_same _ _ _
    rw [stored]
    rfl
  · rw [slice] at step
    exact ((((heard.step k).mono (List.nil_subset _)).trans step).trans (set.step.mono (List.nil_subset _))).onlyCoh

/-- What a drop notice leaves. -/
theorem exec_cohDropNotice {data : Option LineData} (body : m.body = .coh .drop third data) (clean : e.state = .sole ∨ e.state = .forwarder) :
    ∃ t, exec (.cohDropNotice m) s = .next t
      ∧ (e.state = .sole ∨ (∀ b ∈ agentsOf e, b = a) → dirAt t.dev k = none ∧ lineAt t.dev k = some { l with ext := false })
      ∧ (e.state = .forwarder → (∃ b ∈ agentsOf e, b ≠ a) → ∃ x, dirAt t.dev k = some x ∧ x.state = .shared
          ∧ (∀ b, b ∈ agentsOf x ↔ b ∈ agentsOf e ∧ b ≠ a) ∧ lineAt t.dev k = some { l with ext := true })
      ∧ OnlyCoh [] s t k := by
  obtain ⟨known, -⟩ := device_of_memberOf member
  have heard := heard_heardFrom s.dev m
  obtain ⟨x, dropped, alone, shared⟩ : ∃ x, cohDrop s.dev m = setEntry (heardFrom s.dev m) k x
      ∧ (e.state = .sole ∨ (∀ b ∈ agentsOf e, b = a) → x = none)
      ∧ (e.state = .forwarder → (∃ b ∈ agentsOf e, b ≠ a) → x = some { removeAgent e a with state := .shared }) := by
    have vacant := ((quiet.heard heard).setEntry k none).afterFree k
    unfold cohDrop
    rw [cohFrom_of_arrives arrives member]
    dsimp only
    rw [← line, heard.shore, idle, heard.dirAt, entry]
    dsimp only
    rw [if_neg (not_not_intro holder)]
    obtain sole | forwarder := clean
    · rw [sole]
      exact ⟨none, vacant, fun _ => rfl, fun other => DirState.noConfusion other⟩
    · rw [forwarder]
      dsimp only
      by_cases others : ∃ b ∈ agentsOf e, b ≠ a
      · obtain ⟨b, held, other⟩ := others
        have left : ¬ (agentsOf (removeAgent e a)).isEmpty = true := by
          rw [List.isEmpty_iff]
          exact List.ne_nil_of_mem ((mem_agentsOf_removeAgent known e b).mpr ⟨held, other⟩)
        rw [if_neg left]
        refine ⟨_, rfl, fun all => ?_, fun _ _ => rfl⟩
        obtain sole | only := all
        · cases sole
        · exact absurd (only b held) other
      · have gone : (agentsOf (removeAgent e a)).isEmpty = true := by
          rw [List.isEmpty_iff, List.eq_nil_iff_forall_not_mem]
          exact fun b held => others ⟨b, (mem_agentsOf_removeAgent known e b).mp held⟩
        rw [if_pos gone]
        exact ⟨none, vacant, fun _ => rfl, fun _ some => absurd some others⟩
  have set := setEntry_leaves (heardFrom s.dev m) k x
  have kept : lineAt (setEntry (heardFrom s.dev m) k x) k = some { l with ext := x.isSome } := by
    rw [set.line, heard.lineAt, here]
    rfl
  have ran : exec (.cohDropNotice m) s = .next { s with dev := finish (setEntry (heardFrom s.dev m) k x) } := by
    show execCohDropNotice m s = _
    unfold execCohDropNotice cohOf
    rw [perform_eq, body]
    exact congrArg (fun v => Host.Outcome.next { s with dev := finish v }) dropped
  refine ⟨_, ran, fun all => ?_, fun forwarder others => ?_, ((heard.step k).trans set.step).onlyCoh⟩
  · obtain rfl := alone all
    exact ⟨set.entry, kept⟩
  · obtain rfl := shared forwarder others
    exact ⟨_, set.entry, rfl, mem_agentsOf_removeAgent known e, kept⟩

end

/-- An answer that was waited for: the others are waited for still, or the transaction ends. -/
theorem exec_cohResponse {op : CohOp} (row : op = .ack ∨ op = .noCopy) (body : m.body = .coh op third none) {y : Txn} (busy : tget s.dev.shore.txn k = some y)
    (waited : a ∈ y.waiting) :
    ∃ t, exec (.cohResponse m) s = .next t
      ∧ ((∃ b ∈ y.waiting, b ≠ a) → tget t.dev.shore.txn k = some { y with waiting := y.waiting.filter (· != a) } ∧ dirAt t.dev k = dirAt s.dev k)
      ∧ ((∀ b ∈ y.waiting, b = a) → y.req = none → tget t.dev.shore.txn k = none ∧ (y.next = none → dirAt t.dev k = none))
      ∧ ((∃ b ∈ y.waiting, b ≠ a) ∨ y.req = none → OnlyCoh [] s t k) := by
  have heard := heard_heardFrom s.dev m
  have answered : exec (.cohResponse m) s = .next { s with dev := finish (answerTxn (heardFrom s.dev m) k a none false) } := by
    have response : cohMessage s.dev m op third none = answerTxn (heardFrom s.dev m) k a none false := by
      obtain rfl | rfl := row
      · show cohResponse s.dev m .ack none = _
        unfold cohResponse
        rw [cohFrom_of_arrives arrives member, line]
        rfl
      · show cohResponse s.dev m .noCopy none = _
        unfold cohResponse
        rw [cohFrom_of_arrives arrives member, line]
        rfl
    have listed : [CohOp.data, .ack, .noCopy, .done].contains op = true := by
      obtain rfl | rfl := row
      · rfl
      · rfl
    show execCohResponse m s = _
    unfold execCohResponse cohOf
    rw [perform_eq, body]
    exact congrArg (fun v => Host.Outcome.next { s with dev := finish v }) ((if_pos listed).trans response)
  obtain ⟨z, isZ, waits⟩ : ∃ z : Txn, { y with waiting := y.waiting.filter (· != a), served := y.served || false } = z
      ∧ z = { y with waiting := y.waiting.filter (· != a) } := by
    refine ⟨_, rfl, ?_⟩
    rw [Bool.or_false]
  have ends : answerTxn (heardFrom s.dev m) k a none false
      = if z.waiting.isEmpty then finishTxn (busyWith (heardFrom s.dev m) k z) k z else busyWith (heardFrom s.dev m) k z := by
    have found : tget (heardFrom s.dev m).shore.txn k = some y := by rw [heard.shore, busy]
    unfold answerTxn
    rw [found]
    dsimp only
    rw [if_neg (by simpa using waited)]
    subst isZ
    rfl
  have entered := (heard.step k).trans (cohStep_busyWith (heardFrom s.dev m) k z)
  by_cases others : ∃ b ∈ y.waiting, b ≠ a
  · obtain ⟨b, held, other⟩ := others
    have left : ¬ z.waiting.isEmpty = true := by
      rw [waits, List.isEmpty_iff]
      exact List.ne_nil_of_mem (List.mem_filter.mpr ⟨held, by simpa using other⟩)
    rw [ends, if_neg left] at answered
    refine ⟨_, answered, fun _ => ⟨?_, heard.dirAt k⟩, fun all => absurd (all b held) other, fun _ => entered.onlyCoh⟩
    rw [← waits]
    exact tget_tset_same _ _ _
  · have gone : z.waiting.isEmpty = true := by
      rw [waits, List.isEmpty_iff]
      refine List.filter_eq_nil_iff.mpr (fun b held => ?_)
      simpa using fun other => others ⟨b, held, other⟩
    rw [ends, if_pos gone] at answered
    refine ⟨_, answered, fun some => absurd some others, fun _ unasked => ?_, fun which => ?_⟩
    · rw [finishTxn_unasked (quiet.heard heard) (by rw [waits]; exact unasked)]
      have set := setEntry_leaves (idleAt (busyWith (heardFrom s.dev m) k z) k) k z.next
      refine ⟨(congrArg (fun x => tget x k) set.txn).trans (tget_tdel_same _ _), fun last => set.entry.trans ?_⟩
      rw [waits, show ({ y with waiting := y.waiting.filter (· != a) } : Txn).next = none from last]
      rfl
    · rw [finishTxn_unasked (quiet.heard heard) (by rw [waits]; exact which.resolve_left others)]
      exact ((entered.trans (cohStep_idleAt _ k)).trans (setEntry_leaves _ k z.next).step).onlyCoh

end

end Sys2Proof.Machine
end

section
/-!
PROOF of O43: coherence at the home of a line.
-/
namespace Sys2Proof.Machine

/-- Settles O43: a request is refused, granted, forwarded or made to wait by what is held of the line, and what comes back to the home changes the line's
entry alone. -/
theorem coherenceAtHome : Obligations.CoherenceAtHome := by
  unfold Obligations.CoherenceAtHome
  intro s m a k arrives member line
  refine ⟨fun mk op kind third data row body => ⟨fun c bad verdict => ?_, fun l admitted here idle filled alone => ⟨fun free => ?_, ?_, ?_⟩⟩,
    fun fills queue => ?_⟩
  · exact cohRequest_refused arrives member line row body bad verdict
  · exact cohRequest_granted arrives member line row body admitted here idle filled alone free
  · intro e entry held other agent state
    exact cohRequest_forwarded arrives member line row body admitted here idle filled alone entry held other agent state
  · intro e entry shared write others
    exact cohRequest_invalidates arrives member line row body admitted here idle filled alone entry shared write others
  · have quiet : Quiet s.dev := ⟨fills, queue⟩
    refine ⟨fun third e l idle entry holder here => ⟨fun d body dirty => ?_, fun data body clean => ?_⟩, fun op third y row body busy waited => ?_⟩
    · exact exec_cohWb arrives member line quiet idle entry holder here body dirty
    · exact exec_cohDropNotice arrives member line quiet idle entry holder here body clean
    · exact exec_cohResponse arrives member line quiet row body busy waited

end Sys2Proof.Machine
end

section
/-!
SUPPORT. Steps of a port of the fabric: they change the port, its registers and the log, and at most put flits on the link (R337 to R347).
-/
namespace Sys2Proof.Machine

/-- A step of a port changes registers of a list, the port, the log, and what went out. -/
structure Ported (l : List Nat) (p : Nat) (s t : Dev) : Prop where
  regs : ∀ o, o ∉ l → regRead t o = regRead s o
  rest : t = { s with regs := t.regs, fab := { s.fab with ports := t.fab.ports }, out := t.out, log := t.log,
                      flash := { s.flash with romLog := t.flash.romLog } }
  others : ∀ j, j ≠ p → portAt t j = portAt s j

theorem portAt_modPort_same (s : Dev) (p : Nat) (f : Port → Port) : portAt (modPort s p f) p = f (portAt s p) := by
  show tgetD (tset s.fab.ports p _) p Port.reset = _
  unfold tgetD
  rw [tget_tset_same]
  rfl

theorem portAt_modPort_other (s : Dev) {p j : Nat} (f : Port → Port) (other : j ≠ p) : portAt (modPort s p f) j = portAt s j := by
  show tgetD (tset s.fab.ports p _) j Port.reset = _
  unfold tgetD
  rw [tget_tset_other _ _ _ _ other]
  rfl

theorem portAt_congr {s t : Dev} (same : t.fab = s.fab) (j : Nat) : portAt t j = portAt s j :=
  congrArg (fun f : Fabric => tgetD f.ports j Port.reset) same

theorem portAt_finish (s : Dev) (j : Nat) : portAt (finish s) j = portAt s j := portAt_congr (finish_fab s) j

namespace Ported

variable {l : List Nat} {p : Nat} {s t : Dev}

theorem refl (l : List Nat) (p : Nat) (s : Dev) : Ported l p s s := ⟨fun _ _ => rfl, rfl, fun _ _ => rfl⟩

theorem trans {u : Dev} (h : Ported l p s t) (k : Ported l p t u) : Ported l p s u := by
  refine ⟨fun o other => (k.regs o other).trans (h.regs o other), ?_, fun j other => (k.others j other).trans (h.others j other)⟩
  rw [k.rest, h.rest]

theorem modPort (h : Ported l p s t) (f : Port → Port) : Ported l p s (modPort t p f) :=
  h.trans ⟨fun _ _ => rfl, rfl, fun _ other => portAt_modPort_other t f other⟩

theorem regWrite (h : Ported l p s t) {o : Nat} (named : o ∈ l) (v : Nat) : Ported l p s (regWrite t o v) :=
  h.trans ⟨fun _ other => regRead_regWrite_other _ _ _ _ (fun own => other (own ▸ named)), rfl, fun _ _ => rfl⟩

theorem fset (h : Ported l p s t) {f : Fld} (named : f.off ∈ l) (v : Nat) : Ported l p s (fset t f v) := h.regWrite named _

theorem bump (h : Ported l p s t) {o : Nat} (named : o ∈ l) : Ported l p s (bump t o) := h.regWrite named _

theorem bumpBy (h : Ported l p s t) {o : Nat} (named : o ∈ l) (n : Nat) : Ported l p s (bumpBy t o n) := h.regWrite named _

theorem gone (h : Ported l p s t) (out : List Out) : Ported l p s { t with out := out } :=
  h.trans ⟨fun _ _ => rfl, rfl, fun _ _ => rfl⟩

theorem placeFlit (h : Ported l p s t) (named : Reg.FAB_PORT_CNT_TX p ∈ l) (m : FabMsg) : Ported l p s (placeFlit t p m) :=
  ((h.modPort _).bump named).gone _

theorem logFw (h : Ported l p s t) (named : logRegs ⊆ l) (a b c d : Nat) : Ported l p s (logFw t a b c d) := by
  have entered := onlyLog_logFw t a b c d
  refine h.trans ⟨fun o other => entered.regs o (fun own => other (named (mem_logRegs.mpr own))), ?_, fun j _ => ?_⟩
  · have rest := entered.rest
    have fab : (Machine.logFw t a b c d).fab = t.fab := by rw [rest]
    have out : (Machine.logFw t a b c d).out = t.out := by rw [rest]
    rw [entered.flash] at rest
    rw [fab, out]
    exact rest
  · unfold portAt
    rw [entered.rest]

theorem fget (h : Ported l p s t) {f : Fld} (other : f.off ∉ l) : fget t f = Machine.fget s f :=
  congrArg (fun v => bitsOf v _ _) (h.regs _ other)

theorem dram (h : Ported l p s t) : t.dram = s.dram := by rw [h.rest]

theorem waiting (h : Ported l p s t) : t.fab.waiting = s.fab.waiting := by rw [h.rest]

/-! ### A step of a port, closed -/

variable {s : State}

theorem othersClosed (h : Ported l p s.dev t) (j : Nat) (other : j ≠ p) : portAt (finish t) j = portAt s.dev j :=
  (portAt_finish t j).trans (h.others j other)

theorem sameMem (h : Ported l p s.dev t) : SameMem s.dev (finish t) := sameMem_finish h.dram

theorem only (h : Ported l p s.dev t) : OnlyIn l s { s with dev := finish t }
    { s.dev with fab := { s.dev.fab with ports := (finish t).fab.ports }, out := (finish t).out, log := (finish t).log,
                 flash := { s.dev.flash with romLog := (finish t).flash.romLog } } := by
  rw [finish_fab, finish_out, finish_log, finish_flash]
  refine onlyIn_finish ?_ (fun o others _ => h.regs o others)
  rw [h.rest]

/-- One that puts flits on the link, and enters nothing in the log. -/
theorem onlyOut (h : Ported l p s.dev t) (log : t.log = s.dev.log) (flash : t.flash = s.dev.flash) : OnlyIn l s { s with dev := finish t }
    { s.dev with fab := { s.dev.fab with ports := (finish t).fab.ports }, out := (finish t).out } := by
  have within := h.only
  rw [finish_log, finish_flash, log, flash] at within
  exact within

/-- One that puts nothing on the link. -/
theorem onlyLog (h : Ported l p s.dev t) (out : t.out = s.dev.out) : OnlyIn l s { s with dev := finish t }
    { s.dev with fab := { s.dev.fab with ports := (finish t).fab.ports }, log := (finish t).log,
                 flash := { s.dev.flash with romLog := (finish t).flash.romLog } } := by
  have within := h.only
  rw [finish_out, out] at within
  exact within

/-- One that does neither. -/
theorem onlyPort (h : Ported l p s.dev t) (out : t.out = s.dev.out) (log : t.log = s.dev.log) (flash : t.flash = s.dev.flash) :
    OnlyIn l s { s with dev := finish t } { s.dev with fab := { s.dev.fab with ports := (finish t).fab.ports } } := by
  have within := h.only
  rw [finish_out, finish_log, finish_flash, out, log, flash] at within
  exact within

end Ported

/-! ### Flits and keys of a port in service -/

theorem drainWaiting_idle {s : Dev} (empty : s.fab.waiting = []) : drainWaiting s = s := by
  unfold drainWaiting
  rw [empty]
  show { s with fab := { s.fab with waiting := [] } } = s
  rw [← empty]

theorem drainInbox_idle {s : Dev} (empty : s.fab.inbox = []) : drainInbox s = s := by
  unfold drainInbox
  rw [empty]
  rfl

/-- The messages of a flit that are idle do nothing. -/
theorem slotIn_idle (s : Dev) (p : Nat) (l : List FabMsg) (idle : ∀ m ∈ l, m.body = .idle) : l.foldl (fun s m => slotIn s p m) s = s := by
  refine List.foldlRecOn (motive := fun t => t = s) _ _ rfl (fun t same m member => ?_)
  subst same
  unfold slotIn
  rw [idle m member]

/-- What lies beyond a flit that was accepted goes out again. -/
def replayed (s : Dev) (p last : Nat) : Dev :=
  bumpBy { ackFlits s p last with out := (ackFlits s p last).out ++ (portAt (ackFlits s p last) p).replay.map (fun f => .flit p f) }
    (Reg.FAB_PORT_CNT_REPLAYS p) (portAt (ackFlits s p last) p).replay.length

theorem replayFrom_eq (s : Dev) (p seq : Nat) : replayFrom s p seq = replayed s p ((seq + 2 ^ 32 - 1) % 2 ^ 32) := by
  unfold replayFrom replayed
  rfl

theorem fab_bumpBy (s : Dev) (o n : Nat) : (bumpBy s o n).fab = s.fab := rfl

theorem out_bumpBy (s : Dev) (o n : Nat) : (bumpBy s o n).out = s.out := rfl

theorem logs_bumpBy (s : Dev) (o n : Nat) : (bumpBy s o n).log = s.log ∧ (bumpBy s o n).flash = s.flash := ⟨rfl, rfl⟩

theorem replayed_leaves (s : Dev) (p last : Nat) : Ported [Reg.FAB_PORT_CNT_REPLAYS p] p s (replayed s p last)
    ∧ (portAt (replayed s p last) p).replay = beyond last (portAt s p).replay
    ∧ (replayed s p last).out = s.out ++ (portAt (replayed s p last) p).replay.map (fun f => .flit p f)
    ∧ (replayed s p last).log = s.log ∧ (replayed s p last).flash = s.flash := by
  have acked : Ported [Reg.FAB_PORT_CNT_REPLAYS p] p s (ackFlits s p last) := (Ported.refl _ p s).modPort _
  have kept : (portAt (ackFlits s p last) p).replay = beyond last (portAt s p).replay := congrArg Port.replay (portAt_modPort_same s p _)
  have out : (ackFlits s p last).out = s.out := rfl
  have logs : (ackFlits s p last).log = s.log ∧ (ackFlits s p last).flash = s.flash := ⟨rfl, rfl⟩
  unfold replayed
  generalize ackFlits s p last = u at acked kept out logs
  obtain ⟨l, isL⟩ : ∃ l, l = u.out ++ (portAt u p).replay.map (fun f => Out.flit p f) := ⟨_, rfl⟩
  rw [← isL]
  generalize (portAt u p).replay.length = n
  obtain ⟨v, isV⟩ : ∃ v, v = { u with out := l } := ⟨_, rfl⟩
  have fab : v.fab = u.fab := by rw [isV]
  have gone : v.out = l := by rw [isV]
  have step : Ported [Reg.FAB_PORT_CNT_REPLAYS p] p s v := by
    rw [isV]
    exact acked.gone l
  have same : v.log = u.log ∧ v.flash = u.flash := by
    rw [isV]
    exact ⟨rfl, rfl⟩
  rw [← isV, portAt_congr (fab_bumpBy v _ n), portAt_congr fab, out_bumpBy, gone, isL, out, kept, (logs_bumpBy v _ n).1, (logs_bumpBy v _ n).2, same.1, same.2]
  exact ⟨step.bumpBy (List.mem_singleton_self _) n, rfl, rfl, logs⟩

section
variable {s : State} {p : Nat} {f : FabFlit} (runs : serving s.dev = true) (known : p ≤ 15) (up : fget s.dev (RF.FAB_PORT_STATUS_STATE p) = 3)

/-- A flit arrived: its corrections are counted. -/
def flitCame (s : Dev) (p : Nat) (f : FabFlit) : Dev := bumpBy s (Reg.FAB_PORT_CNT_FEC p) f.fixed

/-- The next flit is awaited. -/
def Port.next (q : Port) : Port := { q with rx := (q.rx + 1) % 2 ^ 32, fails := 0 }

/-- A flit is the next one. -/
def flitTaken (s : Dev) (p : Nat) (f : FabFlit) : Dev := bump (modPort (flitCame s p f) p Port.next) (Reg.FAB_PORT_CNT_RX p)

theorem portAt_flitTaken (s : Dev) (p : Nat) (f : FabFlit) : portAt (flitTaken s p f) p = (portAt s p).next :=
  portAt_modPort_same (flitCame s p f) p Port.next

theorem flitTaken_counts (s : Dev) (p : Nat) (f : FabFlit) :
    regRead (flitTaken s p f) (Reg.FAB_PORT_CNT_RX p) = (regRead s (Reg.FAB_PORT_CNT_RX p) + 1) % 2 ^ 64 := by
  have apart : Reg.FAB_PORT_CNT_RX p ≠ Reg.FAB_PORT_CNT_FEC p := by
    have rx : Reg.FAB_PORT_CNT_RX p = 0x191000 + 128 * p + 0x10 := rfl
    have fec : Reg.FAB_PORT_CNT_FEC p = 0x191000 + 128 * p + 0x18 := rfl
    omega
  refine (regRead_bump_same (modPort (flitCame s p f) p Port.next) _).trans (congrArg (fun n => (n + 1) % 2 ^ 64) ?_)
  exact regRead_regWrite_other s _ _ _ apart

theorem flitTaken_quiet (s : Dev) (p : Nat) (f : FabFlit) :
    (flitTaken s p f).out = s.out ∧ (flitTaken s p f).log = s.log ∧ (flitTaken s p f).flash = s.flash := ⟨rfl, rfl, rfl⟩

theorem flitTaken_ported (s : Dev) (p : Nat) (f : FabFlit) : Ported [Reg.FAB_PORT_CNT_RX p, Reg.FAB_PORT_CNT_FEC p] p s (flitTaken s p f) :=
  (((Ported.refl _ p s).bumpBy (by simp) _).modPort _).bump (by simp)

theorem exec_flit {u : Dev} (takes : flitIn s.dev p f = u) : exec (.fabricFlitReceive p f) s = .next { s with dev := finish u } := by
  show execFabricFlitReceive p f s = _
  unfold execFabricFlitReceive
  rw [perform_eq, takes]

include runs known up

theorem flitIn_accepted (good : (f.fecOk && f.crcOk && f.resvOk) = true) (authentic : (f.secure && f.tagOk) = true) (ack : f.nak = false)
    (none' : f.ackV = false) (next : f.seq = (portAt s.dev p).rx) :
    flitIn s.dev p f = drainInbox (drainWaiting (f.slots.foldl (fun s m => slotIn s p m) (flitTaken s.dev p f))) := by
  unfold flitIn
  rw [up, runs]
  dsimp only
  rw [if_neg (by simpa using known), good, authentic, ack, none']
  exact if_neg (not_not_intro next)

theorem flitIn_bad (bad : (f.fecOk && f.crcOk && f.resvOk) = false) : flitIn s.dev p f = flitBad (flitCame s.dev p f) p := by
  unfold flitIn
  rw [up, runs]
  dsimp only
  rw [if_neg (by simpa using known), bad]
  rfl

theorem flitIn_tampered (good : (f.fecOk && f.crcOk && f.resvOk) = true) (forged : f.tagOk = false) :
    flitIn s.dev p f = flitTampered (flitCame s.dev p f) p := by
  unfold flitIn
  rw [up, runs]
  dsimp only
  rw [if_neg (by simpa using known), good, forged, Bool.and_false]
  rfl

/-- A flit in order whose messages are idle is accepted. -/
theorem flit_idle (good : (f.fecOk && f.crcOk && f.resvOk) = true) (authentic : (f.secure && f.tagOk) = true) (ack : f.nak = false) (none' : f.ackV = false)
    (next : f.seq = (portAt s.dev p).rx) (waiting : s.dev.fab.waiting = []) (inbox : s.dev.fab.inbox = []) (idle : ∀ m ∈ f.slots, m.body = .idle) :
    ∃ t, exec (.fabricFlitReceive p f) s = .next t ∧ SameMem s.dev t.dev
      ∧ portAt t.dev p = { portAt s.dev p with rx := ((portAt s.dev p).rx + 1) % 2 ^ 32, fails := 0 }
      ∧ (∀ j, j ≠ p → portAt t.dev j = portAt s.dev j)
      ∧ regRead t.dev (Reg.FAB_PORT_CNT_RX p) = (regRead s.dev (Reg.FAB_PORT_CNT_RX p) + 1) % 2 ^ 64
      ∧ OnlyIn [Reg.FAB_PORT_CNT_RX p, Reg.FAB_PORT_CNT_FEC p] s t { s.dev with fab := { s.dev.fab with ports := t.dev.fab.ports } } := by
  have step := flitTaken_ported s.dev p f
  have takes : flitIn s.dev p f = flitTaken s.dev p f := by
    rw [flitIn_accepted runs known up good authentic ack none' next, slotIn_idle _ p _ idle, drainWaiting_idle (step.waiting.trans waiting)]
    exact drainInbox_idle (by rw [step.rest]; exact inbox)
  obtain ⟨out, log, flash⟩ := flitTaken_quiet s.dev p f
  have port := portAt_flitTaken s.dev p f
  have count := flitTaken_counts s.dev p f
  obtain ⟨u, isU⟩ : ∃ u, u = flitTaken s.dev p f := ⟨_, rfl⟩
  rw [← isU] at step takes out log flash port count
  have place : Reg.FAB_PORT_CNT_RX p = 0x191000 + 128 * p + 0x10 := rfl
  exact ⟨_, exec_flit takes, step.sameMem, port, step.othersClosed, (regRead_finish u _ (by show _ ≠ 0x150000; omega)).trans count, step.onlyPort out log flash⟩

/-- A flit that fails a check is asked for again. -/
theorem flit_bad (bad : (f.fecOk && f.crcOk && f.resvOk) = false) (few : (portAt s.dev p).fails < 7) :
    ∃ t, exec (.fabricFlitReceive p f) s = .next t ∧ SameMem s.dev t.dev ∧ t.dev.out = s.dev.out ++ [.portNak p (portAt s.dev p).rx]
      ∧ portAt t.dev p = { portAt s.dev p with fails := (portAt s.dev p).fails + 1 } ∧ (∀ j, j ≠ p → portAt t.dev j = portAt s.dev j)
      ∧ regRead t.dev (Reg.FAB_PORT_CNT_CRC p) = (regRead s.dev (Reg.FAB_PORT_CNT_CRC p) + 1) % 2 ^ 64
      ∧ OnlyIn [Reg.FAB_PORT_CNT_CRC p, Reg.FAB_PORT_CNT_FEC p] s t
          { s.dev with fab := { s.dev.fab with ports := t.dev.fab.ports }, out := t.dev.out } := by
  obtain ⟨u, isU⟩ : ∃ u, u = modPort (bump (flitCame s.dev p f) (Reg.FAB_PORT_CNT_CRC p)) p (fun q => { q with fails := q.fails + 1 }) := ⟨_, rfl⟩
  have step : Ported [Reg.FAB_PORT_CNT_CRC p, Reg.FAB_PORT_CNT_FEC p] p s.dev u := by
    rw [isU]
    exact (((Ported.refl _ p s.dev).bumpBy (by simp) _).bump (by simp)).modPort _
  have port : portAt u p = { portAt s.dev p with fails := (portAt s.dev p).fails + 1 } := by
    rw [isU]
    exact portAt_modPort_same _ p _
  have takes : flitIn s.dev p f = { u with out := u.out ++ [.portNak p (portAt u p).rx] } := by
    rw [flitIn_bad runs known up bad, flitBad, ← isU]
    exact if_neg (by rw [port]; show ¬ (_ + 1 ≥ 8); omega)
  rw [port] at takes
  have out : u.out = s.dev.out := by
    rw [isU]
    rfl
  have logs : u.log = s.dev.log ∧ u.flash = s.dev.flash := by
    rw [isU]
    exact ⟨rfl, rfl⟩
  have place : Reg.FAB_PORT_CNT_CRC p = 0x191000 + 128 * p + 0x20 := rfl
  refine ⟨_, exec_flit takes, (step.gone _).sameMem, congrArg (· ++ [_]) out, port, step.othersClosed, ?_, (step.gone _).onlyOut logs.1 logs.2⟩
  have apart : Reg.FAB_PORT_CNT_CRC p ≠ Reg.FAB_PORT_CNT_FEC p := by
    have fec : Reg.FAB_PORT_CNT_FEC p = 0x191000 + 128 * p + 0x18 := rfl
    omega
  have counted : regRead u (Reg.FAB_PORT_CNT_CRC p) = (regRead s.dev (Reg.FAB_PORT_CNT_CRC p) + 1) % 2 ^ 64 := by
    rw [isU]
    refine (regRead_bump_same (flitCame s.dev p f) _).trans (congrArg (fun n => (n + 1) % 2 ^ 64) ?_)
    exact regRead_regWrite_other s.dev _ _ _ apart
  exact (regRead_finish _ _ (by show _ ≠ 0x150000; omega)).trans counted

omit known in
theorem exec_fabricNak (seq : Nat) :
    exec (.fabricNak p seq) s = .next { s with dev := finish (replayed s.dev p ((seq + 2 ^ 32 - 1) % 2 ^ 32)) } := by
  have asked : (serving s.dev && (fget s.dev (RF.FAB_PORT_STATUS_STATE p) == 3 || fget s.dev (RF.FAB_PORT_STATUS_STATE p) == 2)) = true := by
    rw [runs, up]
    rfl
  show execFabricNak p seq s = _
  unfold execFabricNak
  rw [perform_eq, if_pos asked, replayFrom_eq]

omit known in
/-- What a neighbour asks for again is replayed. -/
theorem flit_replays (seq : Nat) : ∃ t, exec (.fabricNak p seq) s = .next t ∧ SameMem s.dev t.dev
    ∧ (portAt t.dev p).replay = beyond ((seq + 2 ^ 32 - 1) % 2 ^ 32) (portAt s.dev p).replay
    ∧ t.dev.out = s.dev.out ++ (portAt t.dev p).replay.map (fun f => .flit p f) ∧ (∀ j, j ≠ p → portAt t.dev j = portAt s.dev j)
    ∧ OnlyIn [Reg.FAB_PORT_CNT_REPLAYS p] s t { s.dev with fab := { s.dev.fab with ports := t.dev.fab.ports }, out := t.dev.out } := by
  have ran := exec_fabricNak runs up seq
  obtain ⟨step, kept, out, log, flash⟩ := replayed_leaves s.dev p ((seq + 2 ^ 32 - 1) % 2 ^ 32)
  generalize replayed s.dev p ((seq + 2 ^ 32 - 1) % 2 ^ 32) = u at ran step kept out log flash
  refine ⟨{ s with dev := finish u }, ran, step.sameMem, ?_, ?_, step.othersClosed, step.onlyOut log flash⟩
  · rw [withDev_dev, portAt_finish]
    exact kept
  · rw [withDev_dev, portAt_finish, finish_out]
    exact out

/-- Lanes are parked, and go into service again. -/
theorem lanes_parked {c : Instr} {park : Bool}
    (row : (c = .fabricLanePark p ∧ park = true ∧ fget s.dev (RF.FAB_PORT_STATUS_HALF p) = 0 ∧ (portAt s.dev p).replay.length < 32) ∨
      (c = .fabricLaneUnpark p ∧ park = false ∧ (portAt s.dev p).parked = true ∧ 32 ≤ (portAt s.dev p).replay.length)) :
    ∃ t, exec c s = .next t ∧ SameMem s.dev t.dev ∧ portAt t.dev p = { portAt s.dev p with parked := park } ∧ (∀ j, j ≠ p → portAt t.dev j = portAt s.dev j)
      ∧ OnlyIn [] s t { s.dev with fab := { s.dev.fab with ports := t.dev.fab.ports } } := by
  have step : Ported [] p s.dev (modPort s.dev p (fun q => { q with parked := park })) := (Ported.refl _ p s.dev).modPort _
  have ran : exec c s = .next { s with dev := finish (modPort s.dev p (fun q => { q with parked := park })) } := by
    obtain ⟨rfl, rfl, full, few⟩ | ⟨rfl, rfl, parked, many⟩ := row
    · show execFabricLanePark p s = _
      unfold execFabricLanePark
      rw [perform_eq, runs, up, full, if_neg (by simpa using ⟨known, few⟩)]
    · show execFabricLaneUnpark p s = _
      unfold execFabricLaneUnpark
      rw [perform_eq, parked, if_pos (by simpa using many)]
  have port := portAt_modPort_same s.dev p (fun q => { q with parked := park })
  exact ⟨_, ran, step.sameMem, port, step.othersClosed, step.onlyPort rfl rfl rfl⟩

/-- A port's keys are changed. -/
theorem keys_changed : ∃ t, exec (.keyUpdate p true) s = .next t ∧ SameMem s.dev t.dev
    ∧ fget t.dev (RF.FAB_PORT_STATUS_KEY_PHASE p) = 1 - fget s.dev (RF.FAB_PORT_STATUS_KEY_PHASE p) ∧ portAt t.dev p = { portAt s.dev p with keyUse := 0 }
    ∧ (∀ j, j ≠ p → portAt t.dev j = portAt s.dev j)
    ∧ OnlyIn (Reg.FAB_PORT_STATUS p :: logRegs) s t
        { s.dev with fab := { s.dev.fab with ports := t.dev.fab.ports }, log := t.dev.log, flash := { s.dev.flash with romLog := t.dev.flash.romLog } } := by
  obtain ⟨u, isU⟩ : ∃ u, u = fset (modPort s.dev p (fun q => { q with keyUse := 0 })) (RF.FAB_PORT_STATUS_KEY_PHASE p)
    (1 - fget s.dev (RF.FAB_PORT_STATUS_KEY_PHASE p)) := ⟨_, rfl⟩
  have changed : Ported (Reg.FAB_PORT_STATUS p :: logRegs) p s.dev u := by
    rw [isU]
    exact ((Ported.refl (Reg.FAB_PORT_STATUS p :: logRegs) p s.dev).modPort _).fset (f := RF.FAB_PORT_STATUS_KEY_PHASE p) (List.mem_cons_self ..) _
  have step : Ported (Reg.FAB_PORT_STATUS p :: logRegs) p s.dev
      (logLinkKey u p (fget s.dev (RF.FAB_PORT_STATUS_KEY_PHASE p)) (1 - fget s.dev (RF.FAB_PORT_STATUS_KEY_PHASE p))) :=
    changed.logFw (List.subset_cons_self _ _) _ _ _ _
  have entered := onlyLog_logFw u 9 (4 + 2 ^ 8 * p) (fget s.dev (RF.FAB_PORT_STATUS_KEY_PHASE p)) (1 - fget s.dev (RF.FAB_PORT_STATUS_KEY_PHASE p))
  have ran : exec (.keyUpdate p true) s = .next { s with
      dev := finish (logLinkKey u p (fget s.dev (RF.FAB_PORT_STATUS_KEY_PHASE p)) (1 - fget s.dev (RF.FAB_PORT_STATUS_KEY_PHASE p))) } := by
    show execKeyUpdate p true s = _
    unfold execKeyUpdate
    rw [perform_eq, runs, up, if_neg (by simpa using known), isU]
    rfl
  have place : (RF.FAB_PORT_STATUS_KEY_PHASE p).off = 0x191000 + 128 * p + 0x00 := rfl
  refine ⟨_, ran, step.sameMem, ?_, ?_, step.othersClosed, step.onlyLog ?_⟩
  · rw [fget_finish _ _ (by show _ ≠ 0x150000; omega)]
    refine (congrArg (fun v => bitsOf v _ _) (entered.regs _ (fun own => ?_))).trans ?_
    · have high := logRegs_high _ (mem_logRegs.mpr own)
      omega
    · show fget u _ = _
      rw [isU, fget_fset_same _ _ _ (Nat.le_of_ble_eq_true rfl)]
      exact Nat.mod_eq_of_lt (by show _ < 2; omega)
  · have fab : (logFw u 9 (4 + 2 ^ 8 * p) (fget s.dev (RF.FAB_PORT_STATUS_KEY_PHASE p)) (1 - fget s.dev (RF.FAB_PORT_STATUS_KEY_PHASE p))).fab = u.fab := by
      rw [entered.rest]
    refine (congrArg (fun f : Fabric => tgetD f.ports p Port.reset) fab).trans ?_
    rw [isU]
    exact portAt_modPort_same s.dev p (fun q => { q with keyUse := 0 })
  · refine (congrArg Dev.out entered.rest).trans ?_
    rw [isU]
    rfl

end

end Sys2Proof.Machine
end

section
/-!
SUPPORT. Ports whose messages go by the routes: transit, and a port that is lost (R339, R343).
-/
namespace Sys2Proof.Machine

/-! ### Messages by their routes -/

/-- A step of the fabric's ports changes registers of a list, what arrivals and sends may change, the log, and what went out. -/
structure Linked (l : List Nat) (s t : Dev) : Prop where
  regs : ∀ o, o ∉ l → o ≠ Reg.SHC_STATUS → regRead t o = regRead s o
  rest : t = { s with regs := t.regs, fab := fabSent t s.fab, out := t.out, log := t.log, flash := { s.flash with romLog := t.flash.romLog } }

namespace Linked

variable {l : List Nat} {s t : Dev}

theorem trans {u : Dev} (h : Linked l s t) (k : Linked l t u) : Linked l s u := by
  refine ⟨fun o other shc => (k.regs o other shc).trans (h.regs o other shc), ?_⟩
  rw [k.rest, h.rest]
  rfl

theorem dram (h : Linked l s t) : t.dram = s.dram := by rw [h.rest]

theorem routes (h : Linked l s t) : t.fab.routes = s.fab.routes := by rw [h.rest]; rfl

theorem inbox (h : Linked l s t) : t.fab.inbox = s.fab.inbox := by rw [h.rest]; rfl

theorem fget (h : Linked l s t) {f : Fld} (other : f.off ∉ l) (shc : f.off ≠ 0x150000) : fget t f = Machine.fget s f :=
  congrArg (fun v => bitsOf v _ _) (h.regs _ other shc)

variable {s : State}

theorem sameMem (h : Linked l s.dev t) : SameMem s.dev (finish t) := sameMem_finish h.dram

theorem only (h : Linked l s.dev t) : OnlyIn l s { s with dev := finish t }
    { s.dev with fab := fabSent (finish t) s.dev.fab, out := (finish t).out, log := (finish t).log,
                 flash := { s.dev.flash with romLog := (finish t).flash.romLog } } := by
  unfold fabSent
  rw [finish_fab, finish_out, finish_log, finish_flash]
  refine onlyIn_finish ?_ h.regs
  rw [h.rest]
  rfl

theorem onlyOut (h : Linked l s.dev t) (log : t.log = s.dev.log) (flash : t.flash = s.dev.flash) : OnlyIn l s { s with dev := finish t }
    { s.dev with fab := fabSent (finish t) s.dev.fab, out := (finish t).out } := by
  have within := h.only
  rw [finish_log, finish_flash, log, flash] at within
  exact within

end Linked

theorem Ported.linked {l l' : List Nat} {p : Nat} {s t : Dev} (h : Ported l p s t) (more : l ⊆ l') : Linked l' s t := by
  refine ⟨fun o other _ => h.regs o (fun own => other (more own)), ?_⟩
  rw [h.rest]
  rfl

theorem OnlySent.linked {l : List Nat} {s t : Dev} (h : OnlySent s t) (more : txRegs ⊆ l) : Linked l s t := by
  refine ⟨fun o other shc => h.regs o (fun own => other (more own)) shc, ?_⟩
  rw [h.rest]
  rfl

theorem OnlySent.quiet {s t : Dev} (h : OnlySent s t) : t.log = s.log ∧ t.flash = s.flash := by
  rw [h.rest]
  exact ⟨rfl, rfl⟩

/-- What has been sent after the ports received has been sent. -/
theorem Sends.of_ports {s u t : Dev} {x : FabMsg} (sends : Sends u t x) (out : u.out = s.out) (waiting : u.fab.waiting = s.fab.waiting)
    (routes : routePorts u x.dst = routePorts s x.dst) (ports : ∀ j, (portAt u j).replay = (portAt s j).replay ∧ (portAt u j).tx = (portAt s j).tx) :
    Sends s t x := by
  unfold Sends at sends ⊢
  rw [out, waiting, routes] at sends
  obtain ⟨same, queued, full⟩ | ⟨p, f, route, room, slots, seq, sent, idle, replay⟩ := sends
  · exact .inl ⟨same, queued, fun p route => (ports p).1 ▸ full p route⟩
  · exact .inr ⟨p, f, route, (ports p).1 ▸ room, slots, seq.trans (ports p).2, sent, idle, (ports p).1 ▸ replay⟩

/-- Sending changes the ports of the route alone. -/
theorem portAt_routeMsg (s : Dev) (m : FabMsg) {j : Nat} (off : j ∉ routePorts s m.dst) : portAt (routeMsg s m) j = portAt s j := by
  unfold routeMsg
  dsimp only
  split
  · next p picked =>
    have listed : p ∈ (routePorts s m.dst).filter (fun p => decide ((portAt s p).replay.length < 128)) := by
      split at picked
      · next q found =>
        obtain rfl := Option.some.inj picked
        exact List.mem_of_find?_eq_some found
      · exact List.mem_of_head? picked
    have other : j ≠ p := fun own => off (own ▸ (List.mem_filter.mp listed).1)
    exact ((Ported.refl (Reg.FAB_PORT_CNT_TX p :: []) p { s with fab := { s.fab with lastPort := p } }).placeFlit (List.mem_singleton_self _) m).others j other
  · rfl

/-! ### Transit (R343) -/

section
variable {s : State} {p : Nat} {f : FabFlit} (runs : serving s.dev = true) (known : p ≤ 15) (up : fget s.dev (RF.FAB_PORT_STATUS_STATE p) = 3)
include runs known up

/-- A write of others passes through. -/
theorem flit_transit {m : FabMsg} {data : List Byte} (good : (f.fecOk && f.crcOk && f.resvOk) = true) (authentic : (f.secure && f.tagOk) = true)
    (ack : f.nak = false) (none' : f.ackV = false) (next : f.seq = (portAt s.dev p).rx) (waiting : s.dev.fab.waiting = []) (inbox : s.dev.fab.inbox = [])
    (one : f.slots = [m]) (body : m.body = .write data) (clear : m.reserved = false) (others : ownDevice s.dev m.dst = false) (few : m.hops < 7)
    (route : routePorts s.dev m.dst ≠ []) (room : ∃ r ∈ routePorts s.dev m.dst, (portAt s.dev r).replay.length < 128) :
    ∃ t, exec (.fabricFlitReceive p f) s = .next t ∧ SameMem s.dev t.dev ∧ Sends s.dev t.dev { m with hops := m.hops + 1 }
      ∧ regRead t.dev Reg.FAB_CNT_TRANSIT = (regRead s.dev Reg.FAB_CNT_TRANSIT + 1) % 2 ^ 64
      ∧ OnlyIn ([Reg.FAB_PORT_CNT_RX p, Reg.FAB_PORT_CNT_FEC p, Reg.FAB_CNT_TRANSIT] ++ txRegs) s t
          { s.dev with fab := fabSent t.dev s.dev.fab, out := t.dev.out } := by
  have taken := flitTaken_ported s.dev p f
  obtain ⟨out, log, flash⟩ := flitTaken_quiet s.dev p f
  have port := portAt_flitTaken s.dev p f
  have takes := flitIn_accepted runs known up good authentic ack none' next
  rw [one, List.foldl_cons, List.foldl_nil] at takes
  generalize flitTaken s.dev p f = u at taken out log flash port takes
  have rx : Reg.FAB_PORT_CNT_RX p = 0x191000 + 128 * p + 0x10 := rfl
  have fec : Reg.FAB_PORT_CNT_FEC p = 0x191000 + 128 * p + 0x18 := rfl
  have status : (RF.FAB_PORT_STATUS_STATE p).off = 0x191000 + 128 * p + 0x00 := rfl
  have apart : ∀ o, o < 0x191000 → o ∉ [Reg.FAB_PORT_CNT_RX p, Reg.FAB_PORT_CNT_FEC p] := by
    intro o low own
    simp only [List.mem_cons, List.not_mem_nil, or_false] at own
    omega
  have state : fget u (RF.FAB_PORT_STATUS_STATE p) = 3 := by
    rw [taken.fget (by simp only [List.mem_cons, List.not_mem_nil, or_false]; omega)]
    exact up
  have upPorts : fget u RF.FAB_STATUS_PORTS_UP = fget s.dev RF.FAB_STATUS_PORTS_UP := taken.fget (apart _ (by decide))
  have routes : routePorts u m.dst = routePorts s.dev m.dst := by
    unfold routePorts
    rw [upPorts, taken.rest]
  have foreign : ownDevice u m.dst = false := by
    have same : ownDevice u m.dst = ownDevice s.dev m.dst := by
      unfold ownDevice
      rw [taken.fget (f := RF.FAB_STATUS_DEVICE_VALID) (apart _ (by decide)), taken.fget (f := RF.FAB_STATUS_DEVICE) (apart _ (by decide))]
    rw [same, others]
  have passes : slotIn u p m = routeMsg (bump u Reg.FAB_CNT_TRANSIT) { m with hops := m.hops + 1 } := by
    have onwards : slotIn u p m = transit u m := by
      unfold slotIn
      rw [body]
      dsimp only
      rw [state, if_neg (by simp), clear, foreign, if_neg Bool.false_ne_true, if_neg Bool.false_ne_true]
    rw [onwards]
    unfold transit
    refine if_neg ?_
    rw [routes, List.isEmpty_iff]
    exact not_or.mpr ⟨by omega, route⟩
  have counted : Ported ([Reg.FAB_PORT_CNT_RX p, Reg.FAB_PORT_CNT_FEC p, Reg.FAB_CNT_TRANSIT] ++ txRegs) p u (bump u Reg.FAB_CNT_TRANSIT) :=
    (Ported.refl _ p u).bump (by simp)
  obtain ⟨sent, sends⟩ := routeMsg_sends (bump u Reg.FAB_CNT_TRANSIT) { m with hops := m.hops + 1 }
  rw [← passes] at sent sends
  have goes : Sends s.dev (slotIn u p m) { m with hops := m.hops + 1 } := by
    refine sends.of_ports out taken.waiting ?_ (fun j => ?_)
    · refine Eq.trans ?_ routes
      unfold routePorts
      rw [show fget (bump u Reg.FAB_CNT_TRANSIT) RF.FAB_STATUS_PORTS_UP = fget u RF.FAB_STATUS_PORTS_UP from fget_bump_other _ _ _ (by decide)]
      rfl
    · rw [show portAt (bump u Reg.FAB_CNT_TRANSIT) j = portAt u j from portAt_congr rfl j]
      by_cases own : j = p
      · rw [own, port]
        exact ⟨rfl, rfl⟩
      · rw [taken.others j own]
        exact ⟨rfl, rfl⟩
  have idle : (slotIn u p m).fab.waiting = [] := by
    obtain ⟨-, -, full⟩ | ⟨q, g, -, -, -, -, -, same, -⟩ := goes
    · obtain ⟨r, listed, short⟩ := room
      exact absurd (full r listed) (by omega)
    · exact same.trans waiting
  have linked := ((taken.linked (l' := [Reg.FAB_PORT_CNT_RX p, Reg.FAB_PORT_CNT_FEC p, Reg.FAB_CNT_TRANSIT] ++ txRegs) (by simp)).trans (counted.linked (List.Subset.refl _))).trans
    (sent.linked (List.subset_append_right _ _))
  rw [drainWaiting_idle idle, drainInbox_idle (linked.inbox.trans inbox)] at takes
  have count : regRead (slotIn u p m) Reg.FAB_CNT_TRANSIT = (regRead s.dev Reg.FAB_CNT_TRANSIT + 1) % 2 ^ 64 := by
    rw [sent.regs Reg.FAB_CNT_TRANSIT (by decide) (by decide), regRead_bump_same, taken.regs _ (apart _ (by decide))]
  obtain ⟨log', flash'⟩ := sent.quiet
  refine ⟨{ s with dev := finish (slotIn u p m) }, exec_flit takes, linked.sameMem, goes.followed (finish_out _) (finish_fab _), ?_,
    linked.onlyOut (log'.trans log) (flash'.trans flash)⟩
  rw [withDev_dev, regRead_finish _ _ (by decide)]
  exact count

end

end Sys2Proof.Machine
end

section
/-!
SUPPORT. A port goes out of service (R339, R346).
-/
namespace Sys2Proof.Machine

/-- Its registers show a port out of service in a STATE. -/
def portDown (s : Dev) (p state : Nat) : Dev :=
  fset (fset (fset s (RF.FAB_PORT_STATUS_STATE p) state) (RF.FAB_PORT_STATUS_SECURE p) 0) (RF.FAB_PORT_STATUS_BW_GBPS p) 0

/-- What a port that is not in service forgets of its link. -/
def Port.unlinked (q : Port) : Port := { q with fails := 0, trained := false, parked := false, passed := 0 }

/-- What a port that was in service keeps to be sent by others. -/
def Port.setAside (q : Port) : Port := { q with held := q.held ++ q.replay, replay := [], accepted := (q.rx + 2 ^ 32 - 1) % 2 ^ 32 }

/-- The port leaves the route masks. -/
def routedAround (s : Dev) (p : Nat) : Dev := bump (fset s RF.FAB_STATUS_PORTS_UP (fget s RF.FAB_STATUS_PORTS_UP &&& (0xFFFF - 2 ^ p))) Reg.FAB_CNT_REROUTES

theorem regs_modPort (s : Dev) (p : Nat) (f : Port → Port) : (modPort s p f).regs = s.regs := rfl

theorem portOut_idle {s : Dev} {p : Nat} (idle : fget s (RF.FAB_PORT_STATUS_STATE p) ≠ 3) : portOut s p 0 = modPort (portDown s p 0) p Port.unlinked := by
  unfold portOut
  exact if_neg idle

section
variable {p : Nat} (known : p ≤ 15)

theorem fget_portDown (s : Dev) : fget (portDown s p 0) (RF.FAB_PORT_STATUS_STATE p) = 0 ∧ fget (portDown s p 0) (RF.FAB_PORT_STATUS_SECURE p) = 0
    ∧ fget (portDown s p 0) (RF.FAB_PORT_STATUS_BW_GBPS p) = 0 := by
  unfold portDown
  refine ⟨?_, ?_, ?_⟩
  · rw [fget_fset_apart _ _ (Nat.le_of_ble_eq_true rfl) (.inr (.inl (Nat.le_of_ble_eq_true rfl))),
      fget_fset_apart _ _ (Nat.le_of_ble_eq_true rfl) (.inr (.inl (Nat.le_of_ble_eq_true rfl))), fget_fset_same _ _ _ (Nat.le_of_ble_eq_true rfl)]
    rfl
  · rw [fget_fset_apart _ _ (Nat.le_of_ble_eq_true rfl) (.inr (.inl (Nat.le_of_ble_eq_true rfl))), fget_fset_same _ _ _ (Nat.le_of_ble_eq_true rfl)]
    rfl
  · rw [fget_fset_same _ _ _ (Nat.le_of_ble_eq_true rfl)]
    rfl

theorem portDown_ported (s : Dev) (l : List Nat) (named : Reg.FAB_PORT_STATUS p ∈ l) : Ported l p s (portDown s p 0) :=
  (((Ported.refl l p s).fset (f := RF.FAB_PORT_STATUS_STATE p) named _).fset (f := RF.FAB_PORT_STATUS_SECURE p) named _).fset
    (f := RF.FAB_PORT_STATUS_BW_GBPS p) named _

include known

theorem testBit_without {j : Nat} (low : j < 16) (x : Nat) : (x &&& (0xFFFF - 2 ^ p)).testBit j = (x.testBit j && j != p) := by
  have mask : (0xFFFF - 2 ^ p).testBit j = (j != p) := by
    rw [show 0xFFFF - 2 ^ p = 2 ^ 16 - (2 ^ p + 1) by omega, Nat.testBit_two_pow_sub_succ (Nat.pow_lt_pow_right (by decide) (by omega)),
      Nat.testBit_two_pow]
    simp [low, bne, Bool.beq_eq_decide_eq, eq_comm]
  rw [Nat.testBit_and, mask]

/-- A port that leaves the route masks. -/
theorem routedAround_leaves (s : Dev) : Ported [Reg.FAB_STATUS, Reg.FAB_CNT_REROUTES] p s (routedAround s p)
    ∧ ∀ j < 16, (fget (routedAround s p) RF.FAB_STATUS_PORTS_UP).testBit j = ((fget s RF.FAB_STATUS_PORTS_UP).testBit j && j != p) := by
  refine ⟨((Ported.refl _ p s).fset (f := RF.FAB_STATUS_PORTS_UP) (List.mem_cons_self ..) _).bump (by simp), fun j low => ?_⟩
  unfold routedAround
  rw [fget_bump_other _ _ _ (by decide), fget_fset_same _ _ _ (by decide), Nat.mod_eq_of_lt]
  · exact testBit_without known low _
  · exact lt_of_le_of_lt Nat.and_le_left (fget_lt s RF.FAB_STATUS_PORTS_UP)

end

/-- A port that was in service, without its neighbour's answer. -/
def lostPort (s : Dev) (p : Nat) : Dev := modPort (routedAround (modPort (portDown s p 0) p Port.unlinked) p) p Port.setAside

/-- The neighbour of a port is asked what it accepted. -/
def askNeighbour (s : Dev) (p n : Nat) : Dev :=
  sendFab (modPort s p (fun q => { q with heldFrom := n })) n 0 0 false (.resyncQuery (fget s (RF.FAB_PORT_STATUS_NEIGHBOUR_PORT p)))

theorem portOut_up {s : Dev} {p : Nat} (up : fget s (RF.FAB_PORT_STATUS_STATE p) = 3) :
    portOut s p 0 = if (portAt (lostPort s p) p).held.isEmpty then lostPort s p
      else askNeighbour (lostPort s p) p (fget (modPort (portDown s p 0) p Port.unlinked) (RF.FAB_PORT_STATUS_NEIGHBOUR p)) := by
  unfold portOut
  exact if_pos up

/-- The registers that the loss of a port may change. -/
def portOutRegs (p : Nat) : List Nat := [Reg.FAB_PORT_STATUS p, Reg.FAB_STATUS, Reg.FAB_CNT_REROUTES]

theorem portAt_lostPort (s : Dev) (p : Nat) : portAt (lostPort s p) p = (portAt s p).unlinked.setAside := by
  have down : (portDown s p 0).fab = s.fab := rfl
  have around : ∀ u : Dev, (routedAround u p).fab = u.fab := fun _ => rfl
  unfold lostPort
  rw [portAt_modPort_same, portAt_congr (around _), portAt_modPort_same, portAt_congr down]

section
variable {s : Dev} {p : Nat} (known : p ≤ 15)
include known

theorem lostPort_leaves : Ported (portOutRegs p) p s (lostPort s p)
    ∧ (fget (lostPort s p) (RF.FAB_PORT_STATUS_STATE p) = 0 ∧ fget (lostPort s p) (RF.FAB_PORT_STATUS_SECURE p) = 0
      ∧ fget (lostPort s p) (RF.FAB_PORT_STATUS_BW_GBPS p) = 0)
    ∧ (∀ j < 16, (fget (lostPort s p) RF.FAB_STATUS_PORTS_UP).testBit j = ((fget s RF.FAB_STATUS_PORTS_UP).testBit j && j != p)) := by
  have place : Reg.FAB_PORT_STATUS p = 0x191000 + 128 * p + 0x00 := rfl
  have down := portDown_ported s (portOutRegs p) (p := p) (List.mem_cons_self ..)
  obtain ⟨state, secure, bw⟩ := fget_portDown (p := p) s
  have up : fget (portDown s p 0) RF.FAB_STATUS_PORTS_UP = fget s RF.FAB_STATUS_PORTS_UP :=
    (portDown_ported s [Reg.FAB_PORT_STATUS p] (List.mem_cons_self ..)).fget (by
      rw [List.mem_singleton, place]
      show ¬ 0x190000 = _
      omega)
  unfold lostPort
  generalize portDown s p 0 = u at down state secure bw up
  have forgets := down.modPort Port.unlinked
  have same : (modPort u p Port.unlinked).regs = u.regs := rfl
  generalize modPort u p Port.unlinked = v at forgets same
  obtain ⟨around, ups⟩ := routedAround_leaves known v
  rw [fget_congr same, up] at ups
  have kept : ∀ f : Fld, f.off = Reg.FAB_PORT_STATUS p → fget (routedAround v p) f = fget u f := by
    intro f own
    refine (around.fget ?_).trans (fget_congr same f)
    rw [own, place]
    simp only [List.mem_cons, List.not_mem_nil, or_false]
    show ¬ (_ = 0x190000 ∨ _ = 0x190050)
    omega
  have off : Ported (portOutRegs p) p s (routedAround v p) :=
    forgets.trans ⟨fun o other => around.regs o (fun own => other (List.mem_cons_of_mem _ own)), around.rest, around.others⟩
  generalize routedAround v p = w at off ups kept
  have regs : (modPort w p Port.setAside).regs = w.regs := rfl
  refine ⟨off.modPort _, ⟨?_, ?_, ?_⟩, ?_⟩
  · rw [fget_congr regs, kept _ rfl, state]
  · rw [fget_congr regs, kept _ rfl, secure]
  · rw [fget_congr regs, kept _ rfl, bw]
  · rw [fget_congr regs]
    exact ups

omit known in
theorem portStatus_apart : Reg.FAB_PORT_STATUS p ∉ txRegs := by
  unfold txRegs
  rw [List.mem_map]
  rintro ⟨i, -, own⟩
  have place : Reg.FAB_PORT_STATUS p = 0x191000 + 128 * p + 0x00 := rfl
  have tx : Reg.FAB_PORT_CNT_TX i = 0x191000 + 128 * i + 0x08 := rfl
  omega

omit known in
/-- Asking the neighbour leaves the port as it is, but for whom it waits. -/
theorem askNeighbour_leaves {u : Dev} {n : Nat} (off : (fget u RF.FAB_STATUS_PORTS_UP).testBit p = false) : ∃ t, askNeighbour u p n = t ∧ Linked txRegs u t
    ∧ (∀ f : Fld, f.off = Reg.FAB_PORT_STATUS p → fget t f = fget u f) ∧ fget t RF.FAB_STATUS_PORTS_UP = fget u RF.FAB_STATUS_PORTS_UP
    ∧ (∀ j, j ∉ routePorts t n → j ≠ p → portAt t j = portAt u j)
    ∧ (portAt t p).held = (portAt u p).held ∧ (portAt t p).replay = (portAt u p).replay := by
  unfold askNeighbour sendFab
  obtain ⟨x, dst, isX⟩ : ∃ x : FabMsg, x.dst = n
    ∧ mkMsg (modPort u p (fun q => { q with heldFrom := n })) n 0 0 false (.resyncQuery (fget u (RF.FAB_PORT_STATUS_NEIGHBOUR_PORT p))) = x := ⟨_, rfl, rfl⟩
  rw [isX]
  have named := (Ported.refl [] p u).modPort (fun q => { q with heldFrom := n })
  have portN := portAt_modPort_same u p (fun q => { q with heldFrom := n })
  generalize modPort u p (fun q => { q with heldFrom := n }) = v at named portN
  have regs : ∀ f, fget v f = fget u f := fun f => named.fget (List.not_mem_nil)
  obtain ⟨sent, -⟩ := routeMsg_sends v x
  have kept := fun (j : Nat) (off : j ∉ routePorts v x.dst) => portAt_routeMsg v x off
  generalize routeMsg v x = t at sent kept
  have shown : ∀ f : Fld, f.off = Reg.FAB_PORT_STATUS p → fget t f = fget u f := by
    intro f own
    have place : Reg.FAB_PORT_STATUS p = 0x191000 + 128 * p + 0x00 := rfl
    refine (congrArg (fun v => bitsOf v _ _) (sent.regs f.off (own ▸ portStatus_apart) ?_)).trans (regs f)
    rw [own, place]
    show _ ≠ 0x150000
    omega
  have upT : fget t RF.FAB_STATUS_PORTS_UP = fget u RF.FAB_STATUS_PORTS_UP := (sent.fget (.inl (by decide)) (by decide)).trans (regs _)
  have routes : routePorts t n = routePorts v x.dst := by
    unfold routePorts
    rw [upT, regs, sent.rest, dst]
    rfl
  have out : p ∉ routePorts v x.dst := by
    intro listed
    obtain ⟨low, bit⟩ := mem_setBitsOf.mp listed
    rw [Nat.testBit_and, regs, off] at bit
    simp at bit
  refine ⟨t, rfl, (named.linked (List.nil_subset _)).trans (sent.linked (List.Subset.refl _)), shown, upT, fun j off other => ?_, ?_⟩
  · rw [kept j (routes ▸ off), named.others j other]
  · rw [kept p out, portN]
    exact ⟨rfl, rfl⟩

/-- What the loss of a port in service leaves. -/
structure PortLost (s t : Dev) (p : Nat) : Prop where
  linked : Linked (portOutRegs p ++ txRegs) s t
  down : fget t (RF.FAB_PORT_STATUS_STATE p) = 0 ∧ fget t (RF.FAB_PORT_STATUS_SECURE p) = 0 ∧ fget t (RF.FAB_PORT_STATUS_BW_GBPS p) = 0
  up : ∀ j < 16, (fget t RF.FAB_STATUS_PORTS_UP).testBit j = ((fget s RF.FAB_STATUS_PORTS_UP).testBit j && j != p)
  others : ∀ j, j ∉ routePorts t (fget s (RF.FAB_PORT_STATUS_NEIGHBOUR p)) → j ≠ p → portAt t j = portAt s j
  held : (portAt t p).held = (portAt s p).held ++ (portAt s p).replay ∧ (portAt t p).replay = []

omit known in
theorem Linked.mono {l l' : List Nat} {t : Dev} (h : Linked l s t) (more : l ⊆ l') : Linked l' s t :=
  ⟨fun o other shc => h.regs o (fun own => other (more own)) shc, h.rest⟩

omit known in
theorem fget_neighbour_down : fget (modPort (portDown s p 0) p Port.unlinked) (RF.FAB_PORT_STATUS_NEIGHBOUR p) = fget s (RF.FAB_PORT_STATUS_NEIGHBOUR p) := by
  refine (fget_congr (regs_modPort (portDown s p 0) p Port.unlinked) _).trans ?_
  unfold portDown
  rw [fget_fset_apart _ _ (Nat.le_of_ble_eq_true rfl) (.inr (.inl (Nat.le_of_ble_eq_true rfl))),
    fget_fset_apart _ _ (Nat.le_of_ble_eq_true rfl) (.inr (.inl (Nat.le_of_ble_eq_true rfl))),
    fget_fset_apart _ _ (Nat.le_of_ble_eq_true rfl) (.inr (.inr (Nat.le_of_ble_eq_true rfl)))]

theorem portOut_lost (up : fget s (RF.FAB_PORT_STATUS_STATE p) = 3) : PortLost s (portOut s p 0) p := by
  obtain ⟨step, down, ups⟩ := lostPort_leaves (s := s) known
  have port := portAt_lostPort s p
  have out := portOut_up up
  rw [fget_neighbour_down] at out
  rw [out]
  generalize lostPort s p = u at step down ups port
  have held : (portAt u p).held = (portAt s p).held ++ (portAt s p).replay ∧ (portAt u p).replay = [] := by
    rw [port]
    exact ⟨rfl, rfl⟩
  have linked : Linked (portOutRegs p ++ txRegs) s u := step.linked (List.subset_append_left _ _)
  split
  · exact ⟨linked, down, ups, fun j _ other => step.others j other, held⟩
  · obtain ⟨t, asked, sent, shown, upT, others, heldT, replayT⟩ := askNeighbour_leaves (u := u) (p := p) (n := fget s (RF.FAB_PORT_STATUS_NEIGHBOUR p)) (by
      rw [ups p (by omega)]
      simp)
    rw [asked]
    obtain ⟨state, secure, bw⟩ := down
    exact ⟨linked.trans (sent.mono (List.subset_append_right _ _)), ⟨(shown _ rfl).trans state, (shown _ rfl).trans secure, (shown _ rfl).trans bw⟩,
      fun j low => by rw [upT]; exact ups j low, fun j off other => (others j off other).trans (step.others j other), heldT.trans held.1, replayT.trans held.2⟩

end

end Sys2Proof.Machine
end

section
/-!
SUPPORT. A port that is lost, and what is asked about it (R337 to R339).
-/
namespace Sys2Proof.Machine

/-- A port that has sent a flit. -/
def Port.gaveOut (q : Port) (f : FabFlit) : Port := { q with tx := (q.tx + 1) % 2 ^ 32, replay := q.replay ++ [f], keyUse := q.keyUse + 1 }

/-- A message is sent over a port. -/
theorem placeFlit_leaves (s : Dev) (p : Nat) (m : FabMsg) : ∃ f : FabFlit, f.slots = [m] ∧ f.seq = (portAt s p).tx
    ∧ (placeFlit s p m).out = s.out ++ [.flit p f] ∧ portAt (placeFlit s p m) p = (portAt s p).gaveOut f := by
  obtain ⟨f, placed⟩ : ∃ f : FabFlit, (f.slots = [m] ∧ f.seq = (portAt s p).tx)
      ∧ placeFlit s p m = { bump (modPort s p (fun q => q.gaveOut f)) (Reg.FAB_PORT_CNT_TX p) with out := s.out ++ [.flit p f] } :=
    ⟨_, ⟨rfl, rfl⟩, rfl⟩
  obtain ⟨⟨slots, seq⟩, placed⟩ := placed
  refine ⟨f, slots, seq, by rw [placed], ?_⟩
  rw [placed]
  exact portAt_modPort_same s p (fun q => q.gaveOut f)

theorem departUnreached_none {s : Dev} (none' : ∀ m < 64, fget s (RF.SHC_EPOCH_VALID m) = 0) : departUnreached s = s := by
  unfold departUnreached
  refine List.foldlRecOn (motive := fun t => t = s) _ _ rfl (fun t same m listed => ?_)
  subst same
  rw [none' m (List.mem_range.mp listed)]
  rfl

section
variable {p : Nat} (known : p ≤ 15)

theorem portOutRegs_place {o : Nat} (own : o ∈ portOutRegs p) : 0x190000 ≤ o ∧ o % 128 ≤ 80 := by
  unfold portOutRegs at own
  simp only [List.mem_cons, List.not_mem_nil, or_false] at own
  have status : Reg.FAB_PORT_STATUS p = 0x191000 + 128 * p + 0x00 := rfl
  have fab : Reg.FAB_STATUS = 0x190000 := rfl
  have reroutes : Reg.FAB_CNT_REROUTES = 0x190050 := rfl
  omega

/-- The epochs of members lie apart from the fabric's registers. -/
theorem Linked.epochs {s t : Dev} (h : Linked (portOutRegs p ++ txRegs) s t) {m : Nat} (member : m < 64) :
    Machine.fget t (RF.SHC_EPOCH_VALID m) = Machine.fget s (RF.SHC_EPOCH_VALID m) := by
  have place : (RF.SHC_EPOCH_VALID m).off = 0x150600 + 8 * m := rfl
  refine h.fget (fun own => ?_) (by rw [place]; omega)
  obtain own | own := List.mem_append.mp own
  · have high := portOutRegs_place own
    omega
  · have high := txRegs_place _ own
    omega

end

/-- Registers of a port that fails its tag. -/
def tamperRegs (p : Nat) : List Nat := [Reg.FAB_PORT_CNT_TAG_FAILS p, Reg.FAB_PORT_CNT_FEC p]

section
variable {s : State} {p : Nat} (known : p ≤ 15) (up : fget s.dev (RF.FAB_PORT_STATUS_STATE p) = 3)
  (alone : ∀ m, m < 64 → fget s.dev (RF.SHC_EPOCH_VALID m) = 0)

/-- A step before the loss: the count and the log entry of a flit that failed its tag. -/
structure BeforeLoss (p : Nat) (s v : Dev) : Prop where
  step : Ported (tamperRegs p ++ logRegs) p s v
  fab : v.fab = s.fab

include known

theorem BeforeLoss.fget {v : Dev} (h : BeforeLoss p s.dev v) {f : Fld} (low : f.off < 0x1E0000) (apart : f.off % 128 < 0x18 ∨ f.off < 0x191000) :
    fget v f = Machine.fget s.dev f := by
  refine h.step.fget (fun own => ?_)
  obtain own | own := List.mem_append.mp own
  · have tag : Reg.FAB_PORT_CNT_TAG_FAILS p = 0x191000 + 128 * p + 0x30 := rfl
    have fec : Reg.FAB_PORT_CNT_FEC p = 0x191000 + 128 * p + 0x18 := rfl
    unfold tamperRegs at own
    simp only [List.mem_cons, List.not_mem_nil, or_false] at own
    omega
  · have high := logRegs_high _ own
    omega

include up alone

/-- A port in service that is lost. -/
theorem port_lost {v : Dev} (before : BeforeLoss p s.dev v) {c : Instr} (ran : exec c s = .next { s with dev := finish (departUnreached (portOut v p 0)) }) :
    ∃ t, exec c s = .next t ∧ SameMem s.dev t.dev ∧ fget t.dev (RF.FAB_PORT_STATUS_STATE p) = 0 ∧ fget t.dev (RF.FAB_PORT_STATUS_SECURE p) = 0
      ∧ fget t.dev (RF.FAB_PORT_STATUS_BW_GBPS p) = 0 ∧ (fget t.dev RF.FAB_STATUS_PORTS_UP).testBit p = false
      ∧ (∀ j, j < 16 → j ≠ p → (fget t.dev RF.FAB_STATUS_PORTS_UP).testBit j = (fget s.dev RF.FAB_STATUS_PORTS_UP).testBit j)
      ∧ (∀ j, j ∉ routePorts t.dev (fget s.dev (RF.FAB_PORT_STATUS_NEIGHBOUR p)) → j ≠ p → portAt t.dev j = portAt s.dev j)
      ∧ (portAt t.dev p).held = (portAt s.dev p).held ++ (portAt s.dev p).replay ∧ (portAt t.dev p).replay = []
      ∧ OnlyIn ([Reg.FAB_PORT_STATUS p, Reg.FAB_STATUS, Reg.FAB_CNT_REROUTES, Reg.FAB_PORT_CNT_TAG_FAILS p, Reg.FAB_PORT_CNT_FEC p] ++ txRegs ++ logRegs) s t
          { s.dev with fab := fabSent t.dev s.dev.fab, out := t.dev.out, log := t.dev.log, flash := { s.dev.flash with romLog := t.dev.flash.romLog } } := by
  have status : Reg.FAB_PORT_STATUS p = 0x191000 + 128 * p + 0x00 := rfl
  have shown : ∀ f : Fld, f.off = Reg.FAB_PORT_STATUS p → fget v f = fget s.dev f := fun f own =>
    before.fget known (by rw [own, status]; omega) (.inl (by rw [own, status]; omega))
  have lost := portOut_lost known ((shown _ rfl).trans up)
  have kept := portAt_congr before.fab
  have ports : fget v RF.FAB_STATUS_PORTS_UP = fget s.dev RF.FAB_STATUS_PORTS_UP := before.fget known (by decide) (.inr (by decide))
  have quiet : departUnreached (portOut v p 0) = portOut v p 0 := departUnreached_none (fun m member => by
    have place : (RF.SHC_EPOCH_VALID m).off = 0x150600 + 8 * m := rfl
    rw [lost.linked.epochs member, before.fget known (by rw [place]; omega) (.inr (by rw [place]; omega))]
    exact alone m member)
  rw [quiet] at ran
  generalize portOut v p 0 = u at ran lost
  obtain ⟨linked, ⟨state, secure, bw⟩, ups, others, held, replay⟩ := lost
  rw [shown _ rfl] at others
  rw [kept] at held
  have within : Linked ([Reg.FAB_PORT_STATUS p, Reg.FAB_STATUS, Reg.FAB_CNT_REROUTES, Reg.FAB_PORT_CNT_TAG_FAILS p, Reg.FAB_PORT_CNT_FEC p] ++ txRegs ++ logRegs)
      s.dev u := by
    refine (before.step.linked ?_).trans (linked.mono ?_)
    · unfold tamperRegs
      intro o own
      simp only [List.mem_append, List.mem_cons, List.not_mem_nil, or_false] at own ⊢
      tauto
    · unfold portOutRegs
      intro o own
      simp only [List.mem_append, List.mem_cons, List.not_mem_nil, or_false] at own ⊢
      tauto
  have closed : ∀ f : Fld, f.off = Reg.FAB_PORT_STATUS p → fget (finish u) f = fget u f := fun f own =>
    fget_finish u f (by rw [own, status]; show _ ≠ 0x150000; omega)
  have closedUp : fget (finish u) RF.FAB_STATUS_PORTS_UP = fget u RF.FAB_STATUS_PORTS_UP := fget_finish u _ (by decide)
  refine ⟨{ s with dev := finish u }, ran, within.sameMem, (closed _ rfl).trans state, (closed _ rfl).trans secure, (closed _ rfl).trans bw, ?_,
    fun j low other => ?_, fun j off other => ?_, ?_, ?_, within.only⟩
  · rw [withDev_dev, closedUp, ups p (by omega)]
    simp
  · rw [withDev_dev, closedUp, ups j low, ports]
    simp [other]
  · have routes : ∀ d, routePorts (finish u) d = routePorts u d := by
      intro d
      unfold routePorts
      rw [closedUp, finish_fab]
    rw [withDev_dev, routes] at off
    rw [withDev_dev, portAt_finish, others j off other, kept]
  · rw [withDev_dev, portAt_finish]
    exact held
  · rw [withDev_dev, portAt_finish]
    exact replay

omit known up alone in
/-- A flit that fails its tag is counted and entered in the log. -/
theorem beforeLoss_tampered (f : FabFlit) : BeforeLoss p s.dev (logEvent (flitCame s.dev p f) (Reg.FAB_PORT_CNT_TAG_FAILS p) 0) := by
  have came : Ported (tamperRegs p ++ logRegs) p s.dev (flitCame s.dev p f) := (Ported.refl _ p s.dev).bumpBy (by simp [tamperRegs]) _
  have fab : (flitCame s.dev p f).fab = s.dev.fab := fab_bumpBy ..
  generalize flitCame s.dev p f = u at came fab
  have counted := came.bump (o := Reg.FAB_PORT_CNT_TAG_FAILS p) (by simp [tamperRegs])
  have fab' : (bump u (Reg.FAB_PORT_CNT_TAG_FAILS p)).fab = u.fab := fab_bumpBy ..
  unfold logEvent
  dsimp only
  generalize bump u (Reg.FAB_PORT_CNT_TAG_FAILS p) = w at counted fab'
  refine ⟨counted.logFw (List.subset_append_right _ _) _ _ _ _, ?_⟩
  rw [(onlyLog_logFw w _ _ _ _).rest]
  exact fab'.trans fab

omit alone in
theorem loss_runs {f : FabFlit} {c : Instr} (runs : serving s.dev = true)
    (row : c = .portLoss p true ∨ (c = .fabricFlitReceive p f ∧ (f.fecOk && f.crcOk && f.resvOk) = true ∧ f.tagOk = false)) :
    ∃ v, BeforeLoss p s.dev v ∧ exec c s = .next { s with dev := finish (departUnreached (portOut v p 0)) } := by
  obtain rfl | ⟨rfl, good, forged⟩ := row
  · refine ⟨s.dev, ⟨.refl _ p _, rfl⟩, ?_⟩
    show execPortLoss p true s = _
    unfold execPortLoss
    rw [perform_eq, runs, up, if_neg (by simpa using known), if_pos rfl]
  · exact ⟨_, beforeLoss_tampered f, exec_flit (flitIn_tampered runs known up good forged)⟩

end

/-! ### What a neighbour accepted (R339) -/

section
variable {s : State} {p : Nat} {m : FabMsg} (runs : serving s.dev = true) (known : p ≤ 15) (own : ownDevice s.dev m.dst = true)
include runs known own

theorem resync_answered (body : m.body = .resyncQuery p) :
    ∃ t, exec (.fabricResyncQuery m) s = .next t ∧ SameMem s.dev t.dev
      ∧ Sends s.dev t.dev (mkMsg s.dev m.src m.tag 0 false (.resyncReply (fget s.dev (RF.FAB_PORT_STATUS_NEIGHBOUR_PORT p))
          (if fget s.dev (RF.FAB_PORT_STATUS_STATE p) = 3 then ((portAt s.dev p).rx + 2 ^ 32 - 1) % 2 ^ 32 else (portAt s.dev p).accepted)))
      ∧ OnlyIn txRegs s t { s.dev with fab := fabSent t.dev s.dev.fab, out := t.dev.out } := by
  obtain ⟨x, isX⟩ : ∃ x, mkMsg s.dev m.src m.tag 0 false (.resyncReply (fget s.dev (RF.FAB_PORT_STATUS_NEIGHBOUR_PORT p))
    (if fget s.dev (RF.FAB_PORT_STATUS_STATE p) = 3 then ((portAt s.dev p).rx + 2 ^ 32 - 1) % 2 ^ 32 else (portAt s.dev p).accepted)) = x := ⟨_, rfl⟩
  have ran : exec (.fabricResyncQuery m) s = .next { s with dev := finish (routeMsg s.dev x) } := by
    show execFabricResyncQuery m s = _
    unfold execFabricResyncQuery answerResync sendFab
    rw [perform_eq, body]
    dsimp only
    rw [if_pos own, runs, if_neg (by simpa using known), isX]
  obtain ⟨sent, sends⟩ := routeMsg_sends s.dev x
  obtain ⟨log, flash⟩ := sent.quiet
  have linked := sent.linked (List.Subset.refl txRegs)
  rw [isX]
  exact ⟨{ s with dev := finish (routeMsg s.dev x) }, ran, linked.sameMem, sends.followed (finish_out _) (finish_fab _), linked.onlyOut log flash⟩

omit runs known own in
/-- Routing several messages. -/
theorem onlySent_all (l : List FabMsg) (s : Dev) : OnlySent s (l.foldl routeMsg s) :=
  List.foldlRecOn (motive := OnlySent s) _ _ (.refl s) (fun _ sent x _ => sent.trans (routeMsg_sends _ x).1)

omit runs known own in
/-- Sending leaves what the ports hold for others. -/
theorem held_routeMsg (s : Dev) (x : FabMsg) (j : Nat) :
    (portAt (routeMsg s x) j).held = (portAt s j).held ∧ (portAt (routeMsg s x) j).heldFrom = (portAt s j).heldFrom := by
  unfold routeMsg
  dsimp only
  split
  · next q picked =>
    by_cases same : j = q
    · subst same
      obtain ⟨f, -, -, -, port⟩ := placeFlit_leaves { s with fab := { s.fab with lastPort := j } } j x
      rw [port]
      exact ⟨rfl, rfl⟩
    · rw [((Ported.refl [Reg.FAB_PORT_CNT_TX q] q { s with fab := { s.fab with lastPort := q } }).placeFlit (List.mem_singleton_self _) x).others j same]
      exact ⟨rfl, rfl⟩
  · exact ⟨rfl, rfl⟩

theorem resync_taken {last : Nat} (body : m.body = .resyncReply p last) (asked : (portAt s.dev p).heldFrom = m.src) :
    ∃ t, exec (.fabricResyncReply m) s = .next t ∧ SameMem s.dev t.dev ∧ (portAt t.dev p).held = [] ∧ (portAt t.dev p).heldFrom = 0x8000
      ∧ ((beyond last (portAt s.dev p).held).flatMap (·.slots) = [] → t.dev.out = s.dev.out)
      ∧ (∀ y, (beyond last (portAt s.dev p).held).flatMap (·.slots) = List.cons y [] → Sends s.dev t.dev y)
      ∧ OnlyIn txRegs s t { s.dev with fab := fabSent t.dev s.dev.fab, out := t.dev.out } := by
  have ran : exec (.fabricResyncReply m) s = .next { s with dev := finish (((beyond last (portAt s.dev p).held).flatMap (·.slots)).foldl routeMsg
      (modPort s.dev p (fun q => { q with held := [], heldFrom := 0x8000 }))) } := by
    show execFabricResyncReply m s = _
    unfold execFabricResyncReply takeResync
    rw [perform_eq, body]
    dsimp only
    rw [if_pos own, runs, if_neg (by simpa using ⟨known, asked⟩)]
  generalize (beyond last (portAt s.dev p).held).flatMap (·.slots) = l at ran ⊢
  have cleared := (Ported.refl txRegs p s.dev).modPort (fun q => { q with held := [], heldFrom := 0x8000 })
  have portV := portAt_modPort_same s.dev p (fun q => { q with held := [], heldFrom := 0x8000 })
  have quietV : (modPort s.dev p (fun q => { q with held := [], heldFrom := 0x8000 })).out = s.dev.out
    ∧ (modPort s.dev p (fun q => { q with held := [], heldFrom := 0x8000 })).log = s.dev.log
    ∧ (modPort s.dev p (fun q => { q with held := [], heldFrom := 0x8000 })).flash = s.dev.flash := ⟨rfl, rfl, rfl⟩
  generalize modPort s.dev p (fun q => { q with held := [], heldFrom := 0x8000 }) = v at ran cleared portV quietV
  obtain ⟨out, log, flash⟩ := quietV
  have sent := onlySent_all l v
  have linked := (cleared.linked (List.Subset.refl _)).trans (sent.linked (List.Subset.refl txRegs))
  have port : (portAt (l.foldl routeMsg v) p).held = [] ∧ (portAt (l.foldl routeMsg v) p).heldFrom = 0x8000 := by
    refine List.foldlRecOn (motive := fun t => (portAt t p).held = [] ∧ (portAt t p).heldFrom = 0x8000) _ _ ?_ (fun t same x _ => ?_)
    · rw [portV]
      exact ⟨rfl, rfl⟩
    · obtain ⟨held, waits⟩ := held_routeMsg t x p
      exact ⟨held.trans same.1, waits.trans same.2⟩
  have ports : ∀ j, (portAt v j).replay = (portAt s.dev j).replay ∧ (portAt v j).tx = (portAt s.dev j).tx := by
    intro j
    by_cases same : j = p
    · rw [same, portV]
      exact ⟨rfl, rfl⟩
    · rw [cleared.others j same]
      exact ⟨rfl, rfl⟩
  have routes : ∀ d, routePorts v d = routePorts s.dev d := by
    intro d
    unfold routePorts
    rw [cleared.fget (f := RF.FAB_STATUS_PORTS_UP) (by decide), cleared.rest]
  refine ⟨{ s with dev := finish (l.foldl routeMsg v) }, ran, linked.sameMem, ?_, ?_, fun none' => ?_, fun y one => ?_,
    linked.onlyOut (sent.quiet.1.trans log) (sent.quiet.2.trans flash)⟩
  · rw [withDev_dev, portAt_finish]
    exact port.1
  · rw [withDev_dev, portAt_finish]
    exact port.2
  · rw [withDev_dev, finish_out, none']
    exact out
  · have sends := (routeMsg_sends v y).2.of_ports out cleared.waiting (routes y.dst) ports
    rw [one]
    exact sends.followed (finish_out _) (finish_fab _)

end

end Sys2Proof.Machine
end

section
/-!
SUPPORT. A port is detected, trains, attests, and takes its keys (R333, R345, R346, R348).
-/
namespace Sys2Proof.Machine

/-- Registers that the attestation of a port may change, with those of the log. -/
def attestRegs (p : Nat) : List Nat := [Reg.FAB_PORT_STATUS p, Reg.FAB_PORT_CNT_TX p, Reg.FAB_CNT_AUTH_FAILS] ++ logRegs

theorem attestRegs_status (p : Nat) : Reg.FAB_PORT_STATUS p ∈ attestRegs p := List.mem_append_left _ (List.mem_cons_self ..)

theorem attestRegs_tx (p : Nat) : Reg.FAB_PORT_CNT_TX p ∈ attestRegs p := List.mem_append_left _ (by simp)

theorem attestRegs_fails (p : Nat) : Reg.FAB_CNT_AUTH_FAILS ∈ attestRegs p := List.mem_append_left _ (by simp)

theorem attestRegs_log (p : Nat) : logRegs ⊆ attestRegs p := List.subset_append_right _ _

/-! ### Registers of the port -/

theorem fset_ported (s : Dev) {p : Nat} {f : Fld} (own : f.off = Reg.FAB_PORT_STATUS p) (v : Nat) : Ported [Reg.FAB_PORT_STATUS p] p s (fset s f v) :=
  (Ported.refl _ p s).fset (own ▸ List.mem_singleton_self _) v

/-- What lies apart from a port's registers. -/
theorem Ported.elsewhere {p : Nat} {s t : Dev} (h : Ported [Reg.FAB_PORT_STATUS p] p s t) {o : Nat} (low : o < 0x191000 ∨ 0x192000 ≤ o) (known : p ≤ 15) :
    regRead t o = regRead s o := by
  refine h.regs o (fun own => ?_)
  have place : Reg.FAB_PORT_STATUS p = 0x191000 + 128 * p + 0x00 := rfl
  rw [List.mem_singleton] at own
  omega

theorem Ported.mono {l l' : List Nat} {p : Nat} {s t : Dev} (h : Ported l p s t) (more : l ⊆ l') : Ported l' p s t :=
  ⟨fun o other => h.regs o (fun own => other (more own)), h.rest, h.others⟩

theorem Ported.mkMsg {p : Nat} {s t : Dev} (h : Ported [Reg.FAB_PORT_STATUS p] p s t) (known : p ≤ 15) (d tag offset : Nat) (poison : Bool) (body : FabBody) :
    Machine.mkMsg t d tag offset poison body = Machine.mkMsg s d tag offset poison body := by
  refine mkMsg_congr (h.elsewhere (.inl (by decide)) known) (fun m member => h.elsewhere (.inl ?_) known) ..
  have place : Reg.SHC_EPOCH m = 0x150600 + 8 * m := rfl
  omega

theorem Ported.ownMeasured {p : Nat} {s t : Dev} (h : Ported [Reg.FAB_PORT_STATUS p] p s t) (known : p ≤ 15) : ownMeasured t = Machine.ownMeasured s := by
  have status : regRead t Reg.SEC_STATUS = regRead s Reg.SEC_STATUS := h.elsewhere (.inr (by decide)) known
  have image : Machine.fget t RF.SEC_STATUS_IMAGE_SVN = Machine.fget s RF.SEC_STATUS_IMAGE_SVN := congrArg (fun v => bitsOf v _ _) status
  have fused : Machine.fget t RF.SEC_STATUS_FUSED_SVN = Machine.fget s RF.SEC_STATUS_FUSED_SVN := congrArg (fun v => bitsOf v _ _) status
  have meas : (List.range 8).map (fun j => leBytes 8 (regRead t (Reg.SEC_MEAS 1 j))) = (List.range 8).map (fun j => leBytes 8 (regRead s (Reg.SEC_MEAS 1 j))) := by
    refine List.map_congr_left (fun j _ => congrArg (leBytes 8) (h.elsewhere (.inr ?_) known))
    have place : Reg.SEC_MEAS 1 j = 0x1D0100 + 64 * 1 + 8 * j := rfl
    omega
  unfold Machine.ownMeasured
  rw [image, fused, meas]

/-- Sending over a port leaves its registers. -/
theorem fget_placeFlit (s : Dev) {p : Nat} (m : FabMsg) {f : Fld} (own : f.off = Reg.FAB_PORT_STATUS p) : fget (placeFlit s p m) f = fget s f := by
  refine ((Ported.refl [Reg.FAB_PORT_CNT_TX p] p s).placeFlit (List.mem_singleton_self _) m).fget ?_
  rw [own, List.mem_singleton]
  show 0x191000 + 128 * p + 0x00 ≠ 0x191000 + 128 * p + 0x08
  omega

/-- Two fields of a port's register that do not overlap. -/
theorem fget_fset_below (s : Dev) {f g : Fld} (v : Nat) (within : f.lo + f.width ≤ 64) (below : f.lo + f.width ≤ g.lo) : fget (fset s g v) f = fget s f :=
  fget_fset_apart s v within (.inr (.inl below))

theorem fget_fset_above (s : Dev) {f g : Fld} (v : Nat) (within : f.lo + f.width ≤ 64) (above : g.lo + g.width ≤ f.lo) : fget (fset s g v) f = fget s f :=
  fget_fset_apart s v within (.inr (.inr above))

theorem logs_placeFlit (s : Dev) (p : Nat) (m : FabMsg) : (placeFlit s p m).log = s.log ∧ (placeFlit s p m).flash = s.flash := ⟨rfl, rfl⟩

section
variable {s : State} {p : Nat} (runs : serving s.dev = true) (known : p ≤ 15)

theorem fget_finish_port (u : Dev) {f : Fld} (own : f.off = Reg.FAB_PORT_STATUS p) : fget (finish u) f = fget u f := by
  refine fget_finish u f ?_
  rw [own]
  show 0x191000 + 128 * p + 0x00 ≠ 0x150000
  omega

include runs known

/-- A port without a link is detected. -/
theorem port_detected (number : fget s.dev RF.FAB_STATUS_DEVICE_VALID = 1) (down : fget s.dev (RF.FAB_PORT_STATUS_STATE p) = 0) :
    ∃ t, exec (.portDetect p) s = .next t ∧ SameMem s.dev t.dev ∧ fget t.dev (RF.FAB_PORT_STATUS_STATE p) = 1 ∧ OnlyIn [Reg.FAB_PORT_STATUS p] s t s.dev := by
  have ran : exec (.portDetect p) s = .next { s with dev := finish (fset s.dev (RF.FAB_PORT_STATUS_STATE p) 1) } := by
    show execPortDetect p s = _
    unfold execPortDetect
    rw [perform_eq, runs, number, down, if_neg (by simpa using known)]
  refine ⟨_, ran, sameMem_finish rfl, ?_, onlyIn_finish rfl (fun o others _ => regRead_fset_other _ _ _ _ (fun own => others (own ▸ List.mem_singleton_self _)))⟩
  exact (fget_finish_port _ rfl).trans (fget_fset_same _ _ _ (Nat.le_of_ble_eq_true rfl))

/-! ### Training -/

/-- The lanes that a port has. -/
def lanesSeen (s : Dev) (p lanes : Nat) : Dev := fset s (RF.FAB_PORT_STATUS_GOOD_LANES p) (lanes % 256)

/-- A port whose lanes are good. -/
def trainedPort (s : Dev) (p lanes : Nat) : Dev := fset (lanesSeen s p lanes) (RF.FAB_PORT_STATUS_HALF p) (b2n (lanes % 256 != 0xFF))

/-- A port that starts anew. -/
def Port.fresh (q : Port) : Port := { q with tx := 0, rx := 0, passed := 0, replay := [] }

theorem exec_portTrained (lanes : Nat) (training : fget s.dev (RF.FAB_PORT_STATUS_STATE p) = 1) : exec (.portTrained p lanes) s = .next { s with
    dev := finish (if lanes % 256 = 0xFF ∨ lanes % 16 = 0xF ∨ lanes / 16 % 16 = 0xF then startAttest (trainedPort s.dev p lanes) p
      else portOut (lanesSeen s.dev p lanes) p 0) } := by
  have same : (lanes % 256 = 0xFF ∨ lanes % 256 % 16 = 0xF ∨ lanes % 256 / 16 = 0xF) ↔ (lanes % 256 = 0xFF ∨ lanes % 16 = 0xF ∨ lanes / 16 % 16 = 0xF) := by
    omega
  show execPortTrained p lanes s = _
  unfold execPortTrained
  rw [perform_eq, runs, training, if_neg (by simpa using known), if_congr same rfl rfl]
  rfl

omit runs in
/-- A port begins to attest. -/
theorem startAttest_leaves {v : Dev} (before : Ported [Reg.FAB_PORT_STATUS p] p s.dev v) :
    ∃ t, startAttest v p = t ∧ Ported [Reg.FAB_PORT_STATUS p, Reg.FAB_PORT_CNT_TX p] p s.dev t ∧ fget t (RF.FAB_PORT_STATUS_STATE p) = 2
      ∧ fget t (RF.FAB_PORT_STATUS_HALF p) = fget v (RF.FAB_PORT_STATUS_HALF p) ∧ fget t (RF.FAB_PORT_STATUS_GOOD_LANES p) = fget v (RF.FAB_PORT_STATUS_GOOD_LANES p)
      ∧ (t.log = v.log ∧ t.flash = v.flash) ∧ ∃ f, t.out = v.out ++ [.flit p f] ∧ f.seq = 0
        ∧ f.slots = [mkMsg s.dev (fget v (RF.FAB_PORT_STATUS_NEIGHBOUR p)) 0 0 false
            (.identity (fget s.dev RF.FAB_STATUS_DEVICE) (regRead s.dev Reg.BRG_MODULE_SERIAL) p (Config.chain 0))] := by
  have shown := before.trans (fset_ported v (f := RF.FAB_PORT_STATUS_STATE p) rfl 2)
  have state : fget (fset v (RF.FAB_PORT_STATUS_STATE p) 2) (RF.FAB_PORT_STATUS_STATE p) = 2 := fget_fset_same _ _ _ (Nat.le_of_ble_eq_true rfl)
  have half : fget (fset v (RF.FAB_PORT_STATUS_STATE p) 2) (RF.FAB_PORT_STATUS_HALF p) = _ :=
    fget_fset_above v 2 (Nat.le_of_ble_eq_true rfl) (Nat.le_of_ble_eq_true rfl)
  have good : fget (fset v (RF.FAB_PORT_STATUS_STATE p) 2) (RF.FAB_PORT_STATUS_GOOD_LANES p) = _ :=
    fget_fset_above v 2 (Nat.le_of_ble_eq_true rfl) (Nat.le_of_ble_eq_true rfl)
  have neighbour : fget (fset v (RF.FAB_PORT_STATUS_STATE p) 2) (RF.FAB_PORT_STATUS_NEIGHBOUR p) = _ :=
    fget_fset_above v 2 (Nat.le_of_ble_eq_true rfl) (Nat.le_of_ble_eq_true rfl)
  have quiet : (fset v (RF.FAB_PORT_STATUS_STATE p) 2).out = v.out ∧ (fset v (RF.FAB_PORT_STATUS_STATE p) 2).log = v.log
    ∧ (fset v (RF.FAB_PORT_STATUS_STATE p) 2).flash = v.flash := ⟨rfl, rfl, rfl⟩
  unfold startAttest
  dsimp only
  generalize fset v (RF.FAB_PORT_STATUS_STATE p) 2 = w at *
  have anew := shown.modPort Port.fresh
  have port := portAt_modPort_same w p Port.fresh
  have regs := regs_modPort w p Port.fresh
  have quiet' : (modPort w p Port.fresh).out = w.out ∧ (modPort w p Port.fresh).log = w.log ∧ (modPort w p Port.fresh).flash = w.flash := ⟨rfl, rfl, rfl⟩
  change ∃ t, sendPort (modPort w p Port.fresh) p (.identity (fget (modPort w p Port.fresh) RF.FAB_STATUS_DEVICE)
    (regRead (modPort w p Port.fresh) Reg.BRG_MODULE_SERIAL) p (Config.chain 0)) = t ∧ _
  generalize modPort w p Port.fresh = x at *
  have device : fget x RF.FAB_STATUS_DEVICE = fget s.dev RF.FAB_STATUS_DEVICE :=
    congrArg (fun v => bitsOf v _ _) (anew.elsewhere (o := Reg.FAB_STATUS) (.inl (by decide)) known)
  have serial : regRead x Reg.BRG_MODULE_SERIAL = regRead s.dev Reg.BRG_MODULE_SERIAL := anew.elsewhere (.inl (by decide)) known
  unfold sendPort
  rw [device, serial, fget_congr regs, neighbour, anew.mkMsg known]
  obtain ⟨m, isM⟩ : ∃ m, mkMsg s.dev (fget v (RF.FAB_PORT_STATUS_NEIGHBOUR p)) 0 0 false
    (.identity (fget s.dev RF.FAB_STATUS_DEVICE) (regRead s.dev Reg.BRG_MODULE_SERIAL) p (Config.chain 0)) = m := ⟨_, rfl⟩
  rw [isM]
  have fields := fun (f : Fld) (own : f.off = Reg.FAB_PORT_STATUS p) => (fget_placeFlit x m own).trans (fget_congr regs f)
  have sent := (anew.mono (l' := [Reg.FAB_PORT_STATUS p, Reg.FAB_PORT_CNT_TX p]) (by simp)).placeFlit (by simp) m
  obtain ⟨f, slots, seq, out, -⟩ := placeFlit_leaves x p m
  have logs := logs_placeFlit x p m
  generalize placeFlit x p m = t at *
  refine ⟨t, rfl, sent, (fields _ rfl).trans state, (fields _ rfl).trans half, (fields _ rfl).trans good,
    ⟨logs.1.trans (quiet'.2.1.trans quiet.2.1), logs.2.trans (quiet'.2.2.trans quiet.2.2)⟩, f, ?_, ?_, slots⟩
  · rw [out, quiet'.1, quiet.1]
  · rw [seq, port]
    rfl

/-- A port that has trained. -/
theorem port_trained (lanes : Nat) (training : fget s.dev (RF.FAB_PORT_STATUS_STATE p) = 1) :
    ∃ t, exec (.portTrained p lanes) s = .next t ∧ SameMem s.dev t.dev ∧ fget t.dev (RF.FAB_PORT_STATUS_GOOD_LANES p) = lanes % 256
      ∧ (lanes % 256 = 0xFF ∨ lanes % 16 = 0xF ∨ lanes / 16 % 16 = 0xF →
          fget t.dev (RF.FAB_PORT_STATUS_STATE p) = 2 ∧ fget t.dev (RF.FAB_PORT_STATUS_HALF p) = (if lanes % 256 = 0xFF then 0 else 1)
            ∧ ∃ f, t.dev.out = s.dev.out ++ [.flit p f] ∧ f.seq = 0
                ∧ f.slots = [mkMsg s.dev (fget s.dev (RF.FAB_PORT_STATUS_NEIGHBOUR p)) 0 0 false
                    (.identity (fget s.dev RF.FAB_STATUS_DEVICE) (regRead s.dev Reg.BRG_MODULE_SERIAL) p (Config.chain 0))])
      ∧ (¬ (lanes % 256 = 0xFF ∨ lanes % 16 = 0xF ∨ lanes / 16 % 16 = 0xF) →
          fget t.dev (RF.FAB_PORT_STATUS_STATE p) = 0 ∧ t.dev.out = s.dev.out)
      ∧ (∀ j, j ≠ p → portAt t.dev j = portAt s.dev j)
      ∧ OnlyIn [Reg.FAB_PORT_STATUS p, Reg.FAB_PORT_CNT_TX p] s t
          { s.dev with fab := { s.dev.fab with ports := t.dev.fab.ports }, out := t.dev.out } := by
  have ran := exec_portTrained runs known lanes training
  have closed := fun (u : Dev) (f : Fld) (own : f.off = Reg.FAB_PORT_STATUS p) => fget_finish_port u own
  have seen := fset_ported s.dev (f := RF.FAB_PORT_STATUS_GOOD_LANES p) rfl (lanes % 256)
  have good : fget (lanesSeen s.dev p lanes) (RF.FAB_PORT_STATUS_GOOD_LANES p) = lanes % 256 :=
    (fget_fset_same _ _ _ (Nat.le_of_ble_eq_true rfl)).trans (Nat.mod_mod _ _)
  have state : fget (lanesSeen s.dev p lanes) (RF.FAB_PORT_STATUS_STATE p) = 1 :=
    (fget_fset_below _ _ (Nat.le_of_ble_eq_true rfl) (Nat.le_of_ble_eq_true rfl)).trans training
  have neighbour : fget (lanesSeen s.dev p lanes) (RF.FAB_PORT_STATUS_NEIGHBOUR p) = fget s.dev (RF.FAB_PORT_STATUS_NEIGHBOUR p) :=
    fget_fset_above _ _ (Nat.le_of_ble_eq_true rfl) (Nat.le_of_ble_eq_true rfl)
  have quiet : (lanesSeen s.dev p lanes).out = s.dev.out ∧ (lanesSeen s.dev p lanes).log = s.dev.log
    ∧ (lanesSeen s.dev p lanes).flash = s.dev.flash := ⟨rfl, rfl, rfl⟩
  change Ported _ p s.dev (lanesSeen s.dev p lanes) at seen
  unfold trainedPort at ran
  generalize lanesSeen s.dev p lanes = u at *
  obtain ⟨outU, logU, flashU⟩ := quiet
  by_cases pass : lanes % 256 = 0xFF ∨ lanes % 16 = 0xF ∨ lanes / 16 % 16 = 0xF
  · rw [if_pos pass] at ran
    have trained := seen.trans (fset_ported u (f := RF.FAB_PORT_STATUS_HALF p) rfl (b2n (lanes % 256 != 0xFF)))
    have half : fget (fset u (RF.FAB_PORT_STATUS_HALF p) (b2n (lanes % 256 != 0xFF))) (RF.FAB_PORT_STATUS_HALF p) = if lanes % 256 = 0xFF then 0 else 1 := by
      rw [fget_fset_same _ _ _ (Nat.le_of_ble_eq_true rfl)]
      unfold b2n
      by_cases full : lanes % 256 = 0xFF
      · rw [full]
        rfl
      · rw [if_neg full, if_pos (by simpa using full)]
        rfl
    have goodV : fget (fset u (RF.FAB_PORT_STATUS_HALF p) (b2n (lanes % 256 != 0xFF))) (RF.FAB_PORT_STATUS_GOOD_LANES p) = _ :=
      (fget_fset_above u _ (Nat.le_of_ble_eq_true rfl) (Nat.le_of_ble_eq_true rfl)).trans good
    have neighbourV : fget (fset u (RF.FAB_PORT_STATUS_HALF p) (b2n (lanes % 256 != 0xFF))) (RF.FAB_PORT_STATUS_NEIGHBOUR p) = _ :=
      (fget_fset_above u _ (Nat.le_of_ble_eq_true rfl) (Nat.le_of_ble_eq_true rfl)).trans neighbour
    have quietV : (fset u (RF.FAB_PORT_STATUS_HALF p) (b2n (lanes % 256 != 0xFF))).out = u.out
      ∧ (fset u (RF.FAB_PORT_STATUS_HALF p) (b2n (lanes % 256 != 0xFF))).log = u.log
      ∧ (fset u (RF.FAB_PORT_STATUS_HALF p) (b2n (lanes % 256 != 0xFF))).flash = u.flash := ⟨rfl, rfl, rfl⟩
    generalize fset u (RF.FAB_PORT_STATUS_HALF p) (b2n (lanes % 256 != 0xFF)) = v at *
    obtain ⟨t, isT, step, stateT, halfT, goodT, logs, f, out, seq, slots⟩ := startAttest_leaves known trained
    rw [isT] at ran
    rw [neighbourV] at slots
    refine ⟨{ s with dev := finish t }, ran, step.sameMem, (closed t _ rfl).trans (goodT.trans goodV),
      fun _ => ⟨(closed t _ rfl).trans stateT, (closed t _ rfl).trans (halfT.trans half), f, ?_, seq, slots⟩, fun fails => absurd pass fails,
      step.othersClosed, step.onlyOut (logs.1.trans (quietV.2.1.trans logU)) (logs.2.trans (quietV.2.2.trans flashU))⟩
    rw [withDev_dev, finish_out, out, quietV.1, outU]
  · rw [if_neg pass, portOut_idle (by rw [state]; decide)] at ran
    have down := (seen.trans (portDown_ported u _ (List.mem_singleton_self _))).modPort Port.unlinked
    obtain ⟨stateD, -, -⟩ := fget_portDown (p := p) u
    have goodD : fget (portDown u p 0) (RF.FAB_PORT_STATUS_GOOD_LANES p) = lanes % 256 := by
      unfold portDown
      rw [fget_fset_below _ _ (Nat.le_of_ble_eq_true rfl) (Nat.le_of_ble_eq_true rfl), fget_fset_below _ _ (Nat.le_of_ble_eq_true rfl) (Nat.le_of_ble_eq_true rfl),
        fget_fset_above _ _ (Nat.le_of_ble_eq_true rfl) (Nat.le_of_ble_eq_true rfl)]
      exact good
    have quietD : (portDown u p 0).out = u.out ∧ (portDown u p 0).log = u.log ∧ (portDown u p 0).flash = u.flash := ⟨rfl, rfl, rfl⟩
    generalize portDown u p 0 = d at *
    have regs := regs_modPort d p Port.unlinked
    have quietM : (modPort d p Port.unlinked).out = d.out ∧ (modPort d p Port.unlinked).log = d.log ∧ (modPort d p Port.unlinked).flash = d.flash :=
      ⟨rfl, rfl, rfl⟩
    generalize modPort d p Port.unlinked = t at *
    have step := down.mono (l' := [Reg.FAB_PORT_STATUS p, Reg.FAB_PORT_CNT_TX p]) (by simp)
    refine ⟨{ s with dev := finish t }, ran, step.sameMem, (closed t _ rfl).trans ((fget_congr regs _).trans goodD), fun passes => absurd passes pass,
      fun _ => ⟨(closed t _ rfl).trans ((fget_congr regs _).trans stateD), ?_⟩, step.othersClosed,
      step.onlyOut (quietM.2.1.trans (quietD.2.1.trans logU)) (quietM.2.2.trans (quietD.2.2.trans flashU))⟩
    rw [withDev_dev, finish_out, quietM.1, quietD.1, outU]

end

end Sys2Proof.Machine
end

section
/-!
SUPPORT. The attestation of a link and its keys (R345 to R347).
-/
namespace Sys2Proof.Machine

theorem attestRegs_place {p o : Nat} (own : o ∈ attestRegs p) : 0x190000 ≤ o := by
  obtain own | own := List.mem_append.mp own
  · have status : Reg.FAB_PORT_STATUS p = 0x191000 + 128 * p + 0x00 := rfl
    have tx : Reg.FAB_PORT_CNT_TX p = 0x191000 + 128 * p + 0x08 := rfl
    have fails : Reg.FAB_CNT_AUTH_FAILS = 0x190080 := rfl
    simp only [List.mem_cons, List.not_mem_nil, or_false] at own
    omega
  · have high := logRegs_high _ own
    omega

/-- The attestation of a link leaves the epochs of members. -/
theorem Ported.epochs {p : Nat} {s t : Dev} (h : Ported (attestRegs p) p s t) {m : Nat} (member : m < 64) :
    Machine.fget t (RF.SHC_EPOCH_VALID m) = Machine.fget s (RF.SHC_EPOCH_VALID m) := by
  refine h.fget (fun own => ?_)
  have high := attestRegs_place own
  have place : (RF.SHC_EPOCH_VALID m).off = 0x150600 + 8 * m := rfl
  omega

section
variable {s : State} {p : Nat} (runs : serving s.dev = true) (known : p ≤ 15) (alone : ∀ m, m < 64 → fget s.dev (RF.SHC_EPOCH_VALID m) = 0)
  (attests : fget s.dev (RF.FAB_PORT_STATUS_STATE p) = 2)
include known alone attests

/-- An attestation that fails is counted, and the port stays down. -/
theorem attestFail_leaves : ∃ t, attestFail s.dev p = t ∧ Ported (attestRegs p) p s.dev t ∧ fget t (RF.FAB_PORT_STATUS_STATE p) = 0
    ∧ regRead t Reg.FAB_CNT_AUTH_FAILS = (regRead s.dev Reg.FAB_CNT_AUTH_FAILS + 1) % 2 ^ 64 := by
  have place : Reg.FAB_PORT_STATUS p = 0x191000 + 128 * p + 0x00 := rfl
  have out := portOut_idle (s := s.dev) (p := p) (by rw [attests]; decide)
  have down := (portDown_ported s.dev [Reg.FAB_PORT_STATUS p] (List.mem_singleton_self _)).modPort Port.unlinked
  have state := (fget_congr (regs_modPort (portDown s.dev p 0) p Port.unlinked) _).trans (fget_portDown (p := p) s.dev).1
  rw [← out] at down state
  unfold attestFail authFail logEvent
  generalize portOut s.dev p 0 = u at down state
  have fails : regRead u Reg.FAB_CNT_AUTH_FAILS = regRead s.dev Reg.FAB_CNT_AUTH_FAILS := down.elsewhere (.inl (by decide)) known
  have count := regRead_bump_same u Reg.FAB_CNT_AUTH_FAILS
  have counted := (down.mono (l' := attestRegs p) (by simp [attestRegs])).bump (attestRegs_fails p)
  have stateB := (fget_bump_other u Reg.FAB_CNT_AUTH_FAILS (RF.FAB_PORT_STATUS_STATE p) (by
    show 0x191000 + 128 * p + 0x00 ≠ 0x190080
    omega)).trans state
  dsimp only
  generalize bump u Reg.FAB_CNT_AUTH_FAILS = v at count counted stateB
  have entered := onlyLog_logFw v 15 Reg.FAB_CNT_AUTH_FAILS (regRead u Reg.FAB_CNT_AUTH_FAILS) (regRead v Reg.FAB_CNT_AUTH_FAILS + 0 * 2 ^ 64)
  have step := counted.logFw (attestRegs_log p) 15 Reg.FAB_CNT_AUTH_FAILS (regRead u Reg.FAB_CNT_AUTH_FAILS) (regRead v Reg.FAB_CNT_AUTH_FAILS + 0 * 2 ^ 64)
  generalize logFw v 15 Reg.FAB_CNT_AUTH_FAILS (regRead u Reg.FAB_CNT_AUTH_FAILS) (regRead v Reg.FAB_CNT_AUTH_FAILS + 0 * 2 ^ 64) = w at entered step
  rw [departUnreached_none (fun m member => (step.epochs member).trans (alone m member))]
  have apart : ∀ o, o < 0x1E0000 → ¬ isLogReg o := fun o low own => by
    have high := logRegs_high _ (mem_logRegs.mpr own)
    omega
  refine ⟨w, rfl, step, ?_, ?_⟩
  · exact (congrArg (fun v => bitsOf v _ _) (entered.regs _ (apart _ (by show 0x191000 + 128 * p + 0x00 < 0x1E0000; omega)))).trans stateB
  · rw [entered.regs _ (apart _ (by decide)), count, fails]

include runs

/-- The neighbour's identity. -/
theorem identity_taken {m : FabMsg} {device serial port : Nat} {chain : List Byte} (body : m.body = .identity device serial port chain)
    (first : (portAt s.dev p).passed = 0) (number : device ≤ 32767) (other : ownDevice s.dev device = false) (ports : port ≤ 15) :
    ∃ t, exec (.fabIdentity p m) s = .next t ∧ SameMem s.dev t.dev
      ∧ (Config.verifies 0 chain = true → (portAt t.dev p).passed = 1 ∧ fget t.dev (RF.FAB_PORT_STATUS_NEIGHBOUR p) = device
          ∧ fget t.dev (RF.FAB_PORT_STATUS_NEIGHBOUR_PORT p) = port ∧ fget t.dev (RF.FAB_PORT_STATUS_STATE p) = 2
          ∧ ∃ f, t.dev.out = s.dev.out ++ [.flit p f] ∧ f.slots = [mkMsg s.dev device 0 0 false (.measurements (ownMeasured s.dev))])
      ∧ (Config.verifies 0 chain = false → fget t.dev (RF.FAB_PORT_STATUS_STATE p) = 0
          ∧ regRead t.dev Reg.FAB_CNT_AUTH_FAILS = (regRead s.dev Reg.FAB_CNT_AUTH_FAILS + 1) % 2 ^ 64)
      ∧ (∀ j, j ≠ p → portAt t.dev j = portAt s.dev j)
      ∧ OnlyIn ([Reg.FAB_PORT_STATUS p, Reg.FAB_PORT_CNT_TX p, Reg.FAB_CNT_AUTH_FAILS] ++ logRegs) s t
          { s.dev with fab := { s.dev.fab with ports := t.dev.fab.ports }, out := t.dev.out, log := t.dev.log,
                       flash := { s.dev.flash with romLog := t.dev.flash.romLog } } := by
  have ran : exec (.fabIdentity p m) s = .next { s with dev := finish (takeIdentity s.dev p device port chain) } := by
    show execFabIdentity p m s = _
    unfold execFabIdentity
    rw [perform_eq, body]
    exact congrArg (fun v => Host.Outcome.next { s with dev := finish v }) (if_pos runs)
  have entering : ¬ (fget s.dev (RF.FAB_PORT_STATUS_STATE p) ≠ 2 ∨ (portAt s.dev p).passed ≠ 0) := by simp [attests, first]
  have closed := fun (u : Dev) (f : Fld) (own : f.off = Reg.FAB_PORT_STATUS p) => fget_finish_port u own
  unfold takeIdentity at ran
  rw [if_neg entering, decide_eq_true number, other] at ran
  cases verified : Config.verifies 0 chain with
  | false =>
    rw [verified] at ran
    obtain ⟨t, isT, step, state, count⟩ := attestFail_leaves known alone attests
    have runT : exec (.fabIdentity p m) s = .next { s with dev := finish t } := ran.trans (congrArg (fun v => Host.Outcome.next { s with dev := finish v }) isT)
    exact ⟨{ s with dev := finish t }, runT, step.sameMem, fun yes => Bool.noConfusion yes,
      fun _ => ⟨(closed t _ rfl).trans state, (regRead_finish t _ (by decide)).trans count⟩, step.othersClosed, step.only⟩
  | true =>
    rw [verified] at ran
    replace ran : exec (.fabIdentity p m) s = .next { s with
        dev := finish (sendPort (modPort (fset (fset s.dev (RF.FAB_PORT_STATUS_NEIGHBOUR p) device) (RF.FAB_PORT_STATUS_NEIGHBOUR_PORT p) port) p
          (fun q => { q with passed := 1 })) p
          (.measurements (ownMeasured (fset (fset s.dev (RF.FAB_PORT_STATUS_NEIGHBOUR p) device) (RF.FAB_PORT_STATUS_NEIGHBOUR_PORT p) port)))) } := ran
    have shown := (fset_ported s.dev (f := RF.FAB_PORT_STATUS_NEIGHBOUR p) rfl device).trans
      (fset_ported (fset s.dev (RF.FAB_PORT_STATUS_NEIGHBOUR p) device) (f := RF.FAB_PORT_STATUS_NEIGHBOUR_PORT p) rfl port)
    have neighbour : fget (fset (fset s.dev (RF.FAB_PORT_STATUS_NEIGHBOUR p) device) (RF.FAB_PORT_STATUS_NEIGHBOUR_PORT p) port)
        (RF.FAB_PORT_STATUS_NEIGHBOUR p) = device := by
      rw [fget_fset_below _ _ (Nat.le_of_ble_eq_true rfl) (Nat.le_of_ble_eq_true rfl), fget_fset_same _ _ _ (Nat.le_of_ble_eq_true rfl)]
      exact Nat.mod_eq_of_lt (by show _ < 32768; omega)
    have there : fget (fset (fset s.dev (RF.FAB_PORT_STATUS_NEIGHBOUR p) device) (RF.FAB_PORT_STATUS_NEIGHBOUR_PORT p) port)
        (RF.FAB_PORT_STATUS_NEIGHBOUR_PORT p) = port := by
      rw [fget_fset_same _ _ _ (Nat.le_of_ble_eq_true rfl)]
      exact Nat.mod_eq_of_lt (by show _ < 16; omega)
    have state : fget (fset (fset s.dev (RF.FAB_PORT_STATUS_NEIGHBOUR p) device) (RF.FAB_PORT_STATUS_NEIGHBOUR_PORT p) port)
        (RF.FAB_PORT_STATUS_STATE p) = 2 := by
      rw [fget_fset_below _ _ (Nat.le_of_ble_eq_true rfl) (Nat.le_of_ble_eq_true rfl), fget_fset_below _ _ (Nat.le_of_ble_eq_true rfl) (Nat.le_of_ble_eq_true rfl)]
      exact attests
    have quiet : (fset (fset s.dev (RF.FAB_PORT_STATUS_NEIGHBOUR p) device) (RF.FAB_PORT_STATUS_NEIGHBOUR_PORT p) port).out = s.dev.out := rfl
    generalize fset (fset s.dev (RF.FAB_PORT_STATUS_NEIGHBOUR p) device) (RF.FAB_PORT_STATUS_NEIGHBOUR_PORT p) port = u at *
    have passed := shown.modPort (fun q => { q with passed := 1 })
    have portV := portAt_modPort_same u p (fun q => { q with passed := 1 })
    have regs := regs_modPort u p (fun q => { q with passed := 1 })
    have quietV : (modPort u p (fun q => { q with passed := 1 })).out = u.out := rfl
    generalize modPort u p (fun q => { q with passed := 1 }) = v at *
    unfold sendPort at ran
    rw [shown.ownMeasured known, passed.mkMsg known, fget_congr regs, neighbour] at ran
    obtain ⟨x, isX⟩ : ∃ x, mkMsg s.dev device 0 0 false (.measurements (ownMeasured s.dev)) = x := ⟨_, rfl⟩
    rw [isX] at ran
    rw [isX]
    have fields := fun (f : Fld) (own : f.off = Reg.FAB_PORT_STATUS p) => (fget_placeFlit v x own).trans (fget_congr regs f)
    have step := (passed.mono (l' := attestRegs p) (by simp [attestRegs])).placeFlit (attestRegs_tx p) x
    obtain ⟨f, slots, -, out, port⟩ := placeFlit_leaves v p x
    generalize placeFlit v p x = t at *
    refine ⟨{ s with dev := finish t }, ran, step.sameMem, fun _ => ⟨?_, (closed t _ rfl).trans ((fields _ rfl).trans neighbour),
      (closed t _ rfl).trans ((fields _ rfl).trans there), (closed t _ rfl).trans ((fields _ rfl).trans state), f, ?_, slots⟩,
      fun no => Bool.noConfusion no, step.othersClosed, step.only⟩
    · rw [withDev_dev, portAt_finish, port, portV]
      rfl
    · rw [withDev_dev, finish_out, out, quietV, quiet]

/-- The neighbour's measurements. -/
theorem measurements_taken {m : FabMsg} {b : List Byte} (body : m.body = .measurements b) (second : (portAt s.dev p).passed = 1) :
    ∃ t, exec (.fabricSpdmMessage p m) s = .next t ∧ SameMem s.dev t.dev
      ∧ (if measuredOk s.dev b then (portAt t.dev p).passed = 2 ∧ fget t.dev (RF.FAB_PORT_STATUS_STATE p) = 2
         else fget t.dev (RF.FAB_PORT_STATUS_STATE p) = 0)
      ∧ OnlyIn ([Reg.FAB_PORT_STATUS p, Reg.FAB_PORT_CNT_TX p, Reg.FAB_CNT_AUTH_FAILS] ++ logRegs) s t
          { s.dev with fab := { s.dev.fab with ports := t.dev.fab.ports }, out := t.dev.out, log := t.dev.log,
                       flash := { s.dev.flash with romLog := t.dev.flash.romLog } } := by
  have ran : exec (.fabricSpdmMessage p m) s = .next { s with dev := finish (takeMeasured s.dev p b) } := by
    show execFabricSpdmMessage p m s = _
    unfold execFabricSpdmMessage linkMsg
    rw [perform_eq, body, runs]
    rfl
  have entering : ¬ (fget s.dev (RF.FAB_PORT_STATUS_STATE p) ≠ 2 ∨ (portAt s.dev p).passed ≠ 1) := by simp [attests, second]
  have closed := fun (u : Dev) (f : Fld) (own : f.off = Reg.FAB_PORT_STATUS p) => fget_finish_port u own
  unfold takeMeasured at ran
  rw [if_neg entering] at ran
  cases passes : measuredOk s.dev b with
  | false =>
    rw [passes] at ran
    obtain ⟨t, isT, step, state, -⟩ := attestFail_leaves known alone attests
    have runT : exec (.fabricSpdmMessage p m) s = .next { s with dev := finish t } := ran.trans (congrArg (fun v => Host.Outcome.next { s with dev := finish v }) isT)
    exact ⟨{ s with dev := finish t }, runT, step.sameMem, (closed t _ rfl).trans state, step.only⟩
  | true =>
    rw [passes] at ran
    have passed := (Ported.refl [Reg.FAB_PORT_STATUS p] p s.dev).modPort (fun q => { q with passed := 2 })
    have portV := portAt_modPort_same s.dev p (fun q => { q with passed := 2 })
    have regs := regs_modPort s.dev p (fun q => { q with passed := 2 })
    replace ran : exec (.fabricSpdmMessage p m) s = .next { s with
      dev := finish (if fget (modPort s.dev p (fun q => { q with passed := 2 })) RF.FAB_STATUS_DEVICE
          < fget (modPort s.dev p (fun q => { q with passed := 2 })) (RF.FAB_PORT_STATUS_NEIGHBOUR p) then
        sendPort (modPort s.dev p (fun q => { q with passed := 2 })) p .keys else modPort s.dev p (fun q => { q with passed := 2 })) } := ran
    generalize modPort s.dev p (fun q => { q with passed := 2 }) = v at *
    have within := passed.mono (l' := attestRegs p) (by simp [attestRegs])
    have pass : (portAt v p).passed = 2 := by rw [portV]
    have state : fget v (RF.FAB_PORT_STATUS_STATE p) = 2 := (fget_congr regs _).trans attests
    by_cases lower : fget v RF.FAB_STATUS_DEVICE < fget v (RF.FAB_PORT_STATUS_NEIGHBOUR p)
    · rw [if_pos lower] at ran
      unfold sendPort at ran
      generalize mkMsg v (fget v (RF.FAB_PORT_STATUS_NEIGHBOUR p)) 0 0 false .keys = x at ran
      have field := fget_placeFlit v x (f := RF.FAB_PORT_STATUS_STATE p) rfl
      have step := within.placeFlit (attestRegs_tx p) x
      obtain ⟨f, -, -, -, port⟩ := placeFlit_leaves v p x
      generalize placeFlit v p x = t at *
      refine ⟨{ s with dev := finish t }, ran, step.sameMem, ⟨?_, (closed t _ rfl).trans (field.trans state)⟩, step.only⟩
      rw [withDev_dev, portAt_finish, port]
      exact pass
    · rw [if_neg lower] at ran
      refine ⟨{ s with dev := finish v }, ran, within.sameMem, ⟨?_, (closed v _ rfl).trans state⟩, within.only⟩
      rw [withDev_dev, portAt_finish]
      exact pass

end

end Sys2Proof.Machine
end

section
/-!
SUPPORT. A port that takes its keys is in service (R345, R347).
-/
namespace Sys2Proof.Machine

/-- Registers that a port which takes its keys may change, with those of the log. -/
def keyRegs (p : Nat) : List Nat := [Reg.FAB_PORT_STATUS p, Reg.FAB_STATUS, Reg.FAB_PORT_CNT_TX p] ++ logRegs

/-- A port in service, its flits counted anew. -/
def Port.inService (q : Port) : Port := { q with tx := 0, rx := 0, replay := [], trained := false, keyUse := 0 }

/-- The registers of a port show it in service. -/
def shownUp (s : Dev) (p : Nat) : Dev :=
  fset (fset (fset s (RF.FAB_PORT_STATUS_STATE p) 3) (RF.FAB_PORT_STATUS_SECURE p) 1) (RF.FAB_PORT_STATUS_BW_GBPS p)
    (portBw (fget (fset (fset s (RF.FAB_PORT_STATUS_STATE p) 3) (RF.FAB_PORT_STATUS_SECURE p) 1) (RF.FAB_PORT_STATUS_HALF p) == 1))

/-- The port joins the route masks. -/
def routedOver (s : Dev) (p : Nat) : Dev := fset s RF.FAB_STATUS_PORTS_UP (fget s RF.FAB_STATUS_PORTS_UP ||| 2 ^ p)

theorem portUp_eq (s : Dev) (p : Nat) : portUp s p = drainWaiting (routedOver (modPort (shownUp s p) p Port.inService) p) := by
  unfold portUp routedOver shownUp
  rfl

theorem fab_fset (s : Dev) (f : Fld) (v : Nat) : (fset s f v).fab = s.fab := rfl

theorem shownUp_leaves (s : Dev) (p : Nat) : (shownUp s p).fab = s.fab ∧ Ported [Reg.FAB_PORT_STATUS p] p s (shownUp s p)
    ∧ fget (shownUp s p) (RF.FAB_PORT_STATUS_STATE p) = 3 ∧ fget (shownUp s p) (RF.FAB_PORT_STATUS_SECURE p) = 1
    ∧ fget (shownUp s p) (RF.FAB_PORT_STATUS_KEY_PHASE p) = fget s (RF.FAB_PORT_STATUS_KEY_PHASE p)
    ∧ fget (shownUp s p) (RF.FAB_PORT_STATUS_BW_GBPS p) = if fget s (RF.FAB_PORT_STATUS_HALF p) = 1 then 100 else 200 := by
  have half : fget (fset (fset s (RF.FAB_PORT_STATUS_STATE p) 3) (RF.FAB_PORT_STATUS_SECURE p) 1) (RF.FAB_PORT_STATUS_HALF p)
      = fget s (RF.FAB_PORT_STATUS_HALF p) :=
    (fget_fset_below _ _ (Nat.le_of_ble_eq_true rfl) (Nat.le_of_ble_eq_true rfl)).trans (fget_fset_above _ _ (Nat.le_of_ble_eq_true rfl) (Nat.le_of_ble_eq_true rfl))
  obtain ⟨w, isW⟩ : ∃ w, w = portBw (fget s (RF.FAB_PORT_STATUS_HALF p) == 1) := ⟨_, rfl⟩
  have small : w % 2 ^ 16 = if fget s (RF.FAB_PORT_STATUS_HALF p) = 1 then 100 else 200 := by
    rw [isW]
    unfold portBw
    by_cases one : fget s (RF.FAB_PORT_STATUS_HALF p) = 1
    · rw [one]
      rfl
    · rw [if_neg one, if_neg (by simpa using one)]
      rfl
  unfold shownUp
  rw [half, ← isW]
  refine ⟨by rw [fab_fset, fab_fset, fab_fset], ((fset_ported s rfl 3).trans (fset_ported _ rfl 1)).trans (fset_ported _ rfl w), ?_, ?_, ?_, ?_⟩
  · rw [fget_fset_below _ _ (Nat.le_of_ble_eq_true rfl) (Nat.le_of_ble_eq_true rfl), fget_fset_below _ _ (Nat.le_of_ble_eq_true rfl) (Nat.le_of_ble_eq_true rfl),
      fget_fset_same _ _ _ (Nat.le_of_ble_eq_true rfl)]
    rfl
  · rw [fget_fset_below _ _ (Nat.le_of_ble_eq_true rfl) (Nat.le_of_ble_eq_true rfl), fget_fset_same _ _ _ (Nat.le_of_ble_eq_true rfl)]
    rfl
  · rw [fget_fset_below _ _ (Nat.le_of_ble_eq_true rfl) (Nat.le_of_ble_eq_true rfl), fget_fset_above _ _ (Nat.le_of_ble_eq_true rfl) (Nat.le_of_ble_eq_true rfl),
      fget_fset_above _ _ (Nat.le_of_ble_eq_true rfl) (Nat.le_of_ble_eq_true rfl)]
  · rw [fget_fset_same _ _ _ (Nat.le_of_ble_eq_true rfl)]
    exact small

/-- A port that joins the route masks. -/
theorem routedOver_leaves (s : Dev) {p : Nat} (known : p ≤ 15) : Ported [Reg.FAB_STATUS] p s (routedOver s p)
    ∧ ∀ j < 16, (fget (routedOver s p) RF.FAB_STATUS_PORTS_UP).testBit j = (j == p || (fget s RF.FAB_STATUS_PORTS_UP).testBit j) := by
  refine ⟨(Ported.refl _ p s).fset (f := RF.FAB_STATUS_PORTS_UP) (List.mem_singleton_self _) _, fun j _ => ?_⟩
  unfold routedOver
  rw [fget_fset_same _ _ _ (by decide), Nat.mod_eq_of_lt, Nat.testBit_or, Nat.testBit_two_pow, Bool.or_comm]
  · simp [Bool.beq_eq_decide_eq, eq_comm]
  · exact Nat.or_lt_two_pow (fget_lt s RF.FAB_STATUS_PORTS_UP) (Nat.pow_lt_pow_right (by decide) (by show p < 16; omega))

/-- What a port in service leaves. -/
structure InService (s t : Dev) (p : Nat) : Prop where
  step : Ported (keyRegs p) p s t
  state : fget t (RF.FAB_PORT_STATUS_STATE p) = 3 ∧ fget t (RF.FAB_PORT_STATUS_SECURE p) = 1
    ∧ fget t (RF.FAB_PORT_STATUS_KEY_PHASE p) = fget s (RF.FAB_PORT_STATUS_KEY_PHASE p)
    ∧ fget t (RF.FAB_PORT_STATUS_BW_GBPS p) = if fget s (RF.FAB_PORT_STATUS_HALF p) = 1 then 100 else 200
  up : ∀ j < 16, (fget t RF.FAB_STATUS_PORTS_UP).testBit j = (j == p || (fget s RF.FAB_STATUS_PORTS_UP).testBit j)
  port : portAt t p = (portAt s p).inService

theorem portUp_leaves {s : Dev} {p : Nat} (known : p ≤ 15) (empty : s.fab.waiting = []) : ∃ t, portUp s p = t ∧ InService s t p := by
  have place : Reg.FAB_PORT_STATUS p = 0x191000 + 128 * p + 0x00 := rfl
  obtain ⟨fab, shown, state, secure, phase, bw⟩ := shownUp_leaves s p
  rw [portUp_eq]
  generalize shownUp s p = u at *
  have anew := shown.modPort Port.inService
  have regs := regs_modPort u p Port.inService
  have portV := portAt_modPort_same u p Port.inService
  generalize modPort u p Port.inService = v at *
  obtain ⟨over', up⟩ := routedOver_leaves v known
  have portT : portAt (routedOver v p) p = portAt v p := portAt_congr (fab_fset _ _ _) p
  generalize routedOver v p = w at *
  have kept : ∀ f : Fld, f.off = Reg.FAB_PORT_STATUS p → fget w f = fget u f := by
    intro f own
    refine (over'.fget ?_).trans (fget_congr regs f)
    rw [own, place, List.mem_singleton]
    show _ ≠ 0x190000
    omega
  have within : Ported (keyRegs p) p s w := (anew.mono (by simp [keyRegs])).trans (over'.mono (by simp [keyRegs]))
  refine ⟨w, drainWaiting_idle (within.waiting.trans empty), within, ⟨(kept _ rfl).trans state, (kept _ rfl).trans secure, (kept _ rfl).trans phase,
    (kept _ rfl).trans bw⟩, fun j low => ?_, ?_⟩
  · rw [up j low, show fget v RF.FAB_STATUS_PORTS_UP = fget s RF.FAB_STATUS_PORTS_UP from congrArg (fun v => bitsOf v _ _) (anew.elsewhere (.inl (by decide)) known)]
  · rw [portT, portV, portAt_congr fab]

section
variable {s : State} {p : Nat} (runs : serving s.dev = true) (known : p ≤ 15) (attests : fget s.dev (RF.FAB_PORT_STATUS_STATE p) = 2)

/-- The side with the higher number answers. -/
def keysAnswered (s : Dev) (p : Nat) : Dev :=
  if fget s RF.FAB_STATUS_DEVICE < fget s (RF.FAB_PORT_STATUS_NEIGHBOUR p) then s else sendPort s p .keys

theorem keysAnswered_leaves (s : Dev) (p : Nat) : Ported [Reg.FAB_PORT_CNT_TX p] p s (keysAnswered s p) := by
  unfold keysAnswered
  split
  · exact .refl _ p s
  · exact (Ported.refl _ p s).placeFlit (List.mem_singleton_self _) _

include runs known attests

/-- A port takes its keys. -/
theorem keys_taken {m : FabMsg} (body : m.body = .keys) (third : (portAt s.dev p).passed = 2) (empty : s.dev.fab.waiting = []) :
    ∃ t, exec (.fabricSpdmMessage p m) s = .next t ∧ SameMem s.dev t.dev ∧ fget t.dev (RF.FAB_PORT_STATUS_STATE p) = 3
      ∧ fget t.dev (RF.FAB_PORT_STATUS_SECURE p) = 1 ∧ fget t.dev (RF.FAB_PORT_STATUS_KEY_PHASE p) = 0
      ∧ fget t.dev (RF.FAB_PORT_STATUS_BW_GBPS p) = (if fget s.dev (RF.FAB_PORT_STATUS_HALF p) = 1 then 100 else 200)
      ∧ (∀ j, j < 16 → (fget t.dev RF.FAB_STATUS_PORTS_UP).testBit j = (j == p || (fget s.dev RF.FAB_STATUS_PORTS_UP).testBit j))
      ∧ (portAt t.dev p).tx = 0 ∧ (portAt t.dev p).rx = 0
      ∧ OnlyIn ([Reg.FAB_PORT_STATUS p, Reg.FAB_STATUS, Reg.FAB_PORT_CNT_TX p] ++ logRegs) s t
          { s.dev with fab := { s.dev.fab with ports := t.dev.fab.ports }, out := t.dev.out, log := t.dev.log,
                       flash := { s.dev.flash with romLog := t.dev.flash.romLog } } := by
  have place : Reg.FAB_PORT_STATUS p = 0x191000 + 128 * p + 0x00 := rfl
  have entering : ¬ (fget s.dev (RF.FAB_PORT_STATUS_STATE p) ≠ 2 ∨ (portAt s.dev p).passed ≠ 2) := by simp [attests, third]
  have ran : exec (.fabricSpdmMessage p m) s
      = .next { s with dev := finish (portUp (logFw (fset (keysAnswered s.dev p) (RF.FAB_PORT_STATUS_KEY_PHASE p) 0) 9 (4 + 2 ^ 8 * p) 0 0) p) } := by
    show execFabricSpdmMessage p m s = _
    unfold execFabricSpdmMessage linkMsg
    rw [perform_eq, body, runs]
    refine congrArg (fun v => Host.Outcome.next { s with dev := finish v }) ?_
    exact if_neg entering
  have answered := (keysAnswered_leaves s.dev p).mono (l' := keyRegs p) (by simp [keyRegs])
  have half : fget (keysAnswered s.dev p) (RF.FAB_PORT_STATUS_HALF p) = fget s.dev (RF.FAB_PORT_STATUS_HALF p) :=
    (keysAnswered_leaves s.dev p).fget (by
      rw [List.mem_singleton]
      show 0x191000 + 128 * p + 0x00 ≠ 0x191000 + 128 * p + 0x08
      omega)
  have ups : fget (keysAnswered s.dev p) RF.FAB_STATUS_PORTS_UP = fget s.dev RF.FAB_STATUS_PORTS_UP :=
    (keysAnswered_leaves s.dev p).fget (by
      rw [List.mem_singleton]
      show 0x190000 ≠ 0x191000 + 128 * p + 0x08
      omega)
  generalize keysAnswered s.dev p = u at *
  have phased := answered.fset (f := RF.FAB_PORT_STATUS_KEY_PHASE p) (List.mem_append_left _ (List.mem_cons_self ..)) 0
  have phase : fget (fset u (RF.FAB_PORT_STATUS_KEY_PHASE p) 0) (RF.FAB_PORT_STATUS_KEY_PHASE p) = 0 := fget_fset_same _ _ _ (Nat.le_of_ble_eq_true rfl)
  have halfV : fget (fset u (RF.FAB_PORT_STATUS_KEY_PHASE p) 0) (RF.FAB_PORT_STATUS_HALF p) = _ :=
    (fget_fset_below u 0 (Nat.le_of_ble_eq_true rfl) (Nat.le_of_ble_eq_true rfl)).trans half
  have upsV : fget (fset u (RF.FAB_PORT_STATUS_KEY_PHASE p) 0) RF.FAB_STATUS_PORTS_UP = _ :=
    (fget_fset_reg u (RF.FAB_PORT_STATUS_KEY_PHASE p) RF.FAB_STATUS_PORTS_UP 0 (by
      show 0x190000 ≠ 0x191000 + 128 * p + 0x00
      omega)).trans ups
  generalize fset u (RF.FAB_PORT_STATUS_KEY_PHASE p) 0 = v at *
  have entered := onlyLog_logFw v 9 (4 + 2 ^ 8 * p) 0 0
  have logged := phased.logFw (List.subset_append_right _ _) 9 (4 + 2 ^ 8 * p) 0 0
  generalize logFw v 9 (4 + 2 ^ 8 * p) 0 0 = w at *
  have kept : ∀ f : Fld, f.off < 0x1E0000 → fget w f = fget v f := fun f low => congrArg (fun v => bitsOf v _ _) (entered.regs _ (fun own => by
    have high := logRegs_high _ (mem_logRegs.mpr own)
    omega))
  have low : (RF.FAB_PORT_STATUS_STATE p).off < 0x1E0000 := by
    show 0x191000 + 128 * p + 0x00 < 0x1E0000
    omega
  obtain ⟨t, isT, step, ⟨state, secure, phaseT, bw⟩, up, port⟩ := portUp_leaves known (logged.waiting.trans empty)
  rw [isT] at ran
  rw [kept (RF.FAB_PORT_STATUS_KEY_PHASE p) low] at phaseT
  rw [kept (RF.FAB_PORT_STATUS_HALF p) low, halfV] at bw
  rw [kept _ (by decide), upsV] at up
  have within := logged.trans step
  have closed := fun (f : Fld) (own : f.off = Reg.FAB_PORT_STATUS p) => fget_finish_port t own
  have closedUp : fget (finish t) RF.FAB_STATUS_PORTS_UP = fget t RF.FAB_STATUS_PORTS_UP := fget_finish t _ (by decide)
  refine ⟨{ s with dev := finish t }, ran, within.sameMem, (closed _ rfl).trans state, (closed _ rfl).trans secure,
    (closed _ rfl).trans (phaseT.trans phase), (closed _ rfl).trans bw, fun j small => ?_, ?_, ?_, within.only⟩
  · rw [withDev_dev, closedUp]
    exact up j small
  · rw [withDev_dev, portAt_finish, port]
    rfl
  · rw [withDev_dev, portAt_finish, port]
    rfl

end

end Sys2Proof.Machine
end

section
/-!
SUPPORT. What members tell each other: admission, progress words, and the pace of collectives (R353, R354, R364 to R366).
-/
namespace Sys2Proof.Machine

/-! ### The progress word (R364) -/

/-- A word of bits, one for each index that holds. -/
theorem bits_foldl (p : Nat → Bool) (n : Nat) : (List.range n).foldl (fun m i => if p i then m + 2 ^ i else m) 0 < 2 ^ n
    ∧ ∀ i < n, ((List.range n).foldl (fun m i => if p i then m + 2 ^ i else m) 0).testBit i = p i := by
  induction n with
  | zero => exact ⟨Nat.one_pos, fun i low => absurd low (Nat.not_lt_zero i)⟩
  | succ n ih =>
    obtain ⟨small, bits⟩ := ih
    rw [List.range_succ, List.foldl_append, List.foldl_cons, List.foldl_nil]
    generalize (List.range n).foldl (fun m i => if p i then m + 2 ^ i else m) 0 = x at small bits ⊢
    have top : x.testBit n = false := Nat.testBit_lt_two_pow small
    have double : 2 ^ (n + 1) = 2 ^ n + 2 ^ n := by omega
    split
    · next holds =>
      refine ⟨by omega, fun i low => ?_⟩
      rw [Nat.add_comm x]
      obtain below | rfl := Nat.lt_succ_iff_lt_or_eq.mp low
      · rw [Nat.testBit_two_pow_add_gt below, bits i below]
      · rw [Nat.testBit_two_pow_add_eq, top, holds]
        rfl
    · next fails =>
      refine ⟨by omega, fun i low => ?_⟩
      obtain below | rfl := Nat.lt_succ_iff_lt_or_eq.mp low
      · exact bits i below
      · rw [top]
        exact (Bool.eq_false_iff.mpr fails).symm

theorem progress_updated (s : State) : ∃ t, exec .progressUpdate s = .next t ∧ SameMem s.dev t.dev
    ∧ (∀ i, i < 8 → (regRead t.dev Reg.FAB_PROGRESS).testBit i = reasonOn s.dev (i + 1))
    ∧ regRead t.dev Reg.FAB_PROGRESS / 2 ^ 8 % 2 ^ 8 = progressRate s.dev % 2 ^ 8
    ∧ OnlyIn [Reg.FAB_PROGRESS] s t s.dev := by
  have ran : exec .progressUpdate s = .next { s with dev := finish (updateProgress s.dev) } := by
    show execProgressUpdate s = _
    unfold execProgressUpdate
    rw [perform_eq]
  obtain ⟨small, bits⟩ := bits_foldl (fun i => reasonOn s.dev (i + 1)) 8
  obtain ⟨x, word, low, rate⟩ : ∃ x, updateProgress s.dev = regWrite s.dev Reg.FAB_PROGRESS x
      ∧ x % 2 ^ 8 = (List.range 8).foldl (fun n i => if reasonOn s.dev (i + 1) then n + 2 ^ i else n) 0 ∧ x / 2 ^ 8 % 2 ^ 8 = progressRate s.dev % 2 ^ 8 := by
    refine ⟨_, rfl, ?_, ?_⟩
    · generalize (List.range 8).foldl (fun n i => if reasonOn s.dev (i + 1) then n + 2 ^ i else n) 0 = n at small ⊢
      omega
    · generalize (List.range 8).foldl (fun n i => if reasonOn s.dev (i + 1) then n + 2 ^ i else n) 0 = n at small ⊢
      omega
  rw [word] at ran
  have shown : regRead (finish (regWrite s.dev Reg.FAB_PROGRESS x)) Reg.FAB_PROGRESS = x % 2 ^ 64 :=
    (regRead_finish _ _ (by decide)).trans (regRead_regWrite_same _ _ _)
  refine ⟨_, ran, sameMem_finish rfl, fun i inside => ?_, ?_,
    onlyIn_finish rfl (fun o others _ => regRead_regWrite_other _ _ _ _ (fun own => others (own ▸ List.mem_singleton_self _)))⟩
  · rw [withDev_dev, shown, Nat.testBit_mod_two_pow, decide_eq_true (by omega : i < 64), Bool.true_and, ← bits i inside, ← low, Nat.testBit_mod_two_pow,
      decide_eq_true inside, Bool.true_and]
  · rw [withDev_dev, shown]
    omega

/-! ### What members send (R353, R354) -/

section
variable {s : State} (runs : serving s.dev = true)
include runs

/-- An admission that has waited too long ends. -/
theorem admission_ends {dev idx key : Nat} {mb : Member} {e : StoreEntry} (only : s.dev.fab.members = List.cons (idx, mb) []) (device : mb.device = dev)
    (waits : mb.cmd = some key) (stored : storeAt s.dev key = some e) (named : entryOp e.entry = 0x72) :
    ∃ t, exec (.admissionTimeout dev) s = .next t ∧ SameMem s.dev t.dev ∧ t.dev.fab.members = []
      ∧ Completes s.dev t.dev (laterCtx e) { Ret.ok with status := ePeerGone }
      ∧ OnlyCmd [] s t (laterCtx e) { s.dev with fab := { s.dev.fab with members := [] } } := by
  have ran : exec (.admissionTimeout dev) s = .next { s with
      dev := finish (completeKey { s.dev with fab := { s.dev.fab with members := [] } } key { Ret.ok with status := ePeerGone }) } := by
    show execAdmissionTimeout dev s = _
    unfold execAdmissionTimeout endAdmission
    have listed : s.dev.fab.members.filter (fun p => p.2.device == dev && p.2.cmd.isSome) = [(idx, mb)] := by
      rw [only]
      simp [device, waits]
    have gone : tdel s.dev.fab.members idx = [] := by
      rw [only]
      simp [tdel]
    rw [perform_eq, if_pos runs, listed, List.foldl_cons, List.foldl_nil]
    dsimp only
    rw [gone, waits]
  have ended := completeKey_ended (s := s.dev) (u := { s.dev with fab := { s.dev.fab with members := [] } }) (r := { Ret.ok with status := ePeerGone })
    (sp := ⟨0x72, some 5, [(16, 6)], [], none, true, true⟩) stored (by rw [named]; rfl) (by rw [named]; decide) rfl rfl
  refine ⟨_, ran, (sameMem_of_dram rfl).trans ended.mem, ?_, ended.completes, ended.onlyCmd ?_ (fun _ _ _ => rfl)⟩
  · rw [withDev_dev, ended.shape]
  · exact ended.shape

omit runs in
/-- A progress word is kept. -/
theorem progress_kept {m : FabMsg} {w : Nat} (arrives : Arrives s.dev m) (body : m.body = .progress w) :
    ∃ t, exec (.progressWord m) s = .next t ∧ SameMem s.dev t.dev ∧ SameMembers s.dev t.dev ∧ tget t.dev.fab.words m.src = some w
      ∧ (∀ d, d ≠ m.src → tget t.dev.fab.words d = tget s.dev.fab.words d)
      ∧ OnlyIn [] s t { s.dev with fab := { fabSent t.dev s.dev.fab with words := t.dev.fab.words } } := by
  obtain ⟨members, shape⟩ := heardFrom_shape s.dev m
  have same := (onlySent_heardFrom s.dev m).members
  have ran : exec (.progressWord m) s = .next { s with
      dev := finish { s.dev with fab := { s.dev.fab with members := members, words := tset s.dev.fab.words m.src w } } } := by
    show execProgressWord m s = _
    unfold execProgressWord
    rw [perform_eq, body, arrive_of_arrives arrives, shape]
  rw [shape] at same
  exact ⟨_, ran, sameMem_finish rfl, same, tget_tset_same _ _ _, fun d other => tget_tset_other _ _ _ _ other, onlyIn_finish rfl (fun _ _ _ => rfl)⟩

/-- The progress word is sent to the only other member. -/
theorem progress_sent {a : Nat} (known : a < 64) (only : ∀ m, m < 64 → (fget s.dev (RF.SHC_EPOCH_VALID m) = 1 ↔ m = a)) :
    ∃ t, exec .progressPush s = .next t ∧ SameMem s.dev t.dev
      ∧ Sends s.dev t.dev (mkMsg s.dev (fget s.dev (RF.SHC_EPOCH_DEVICE a)) 0 0 false (.progress (regRead s.dev Reg.FAB_PROGRESS)))
      ∧ OnlyIn txRegs s t { s.dev with fab := fabSent t.dev s.dev.fab, out := t.dev.out } := by
  have listed : (List.range 64).filter (fun m => fget s.dev (RF.SHC_EPOCH_VALID m) == 1) = [a] := by
    have same : (List.range 64).filter (fun m => fget s.dev (RF.SHC_EPOCH_VALID m) == 1) = (List.range 64).filter (fun m => m == a) :=
      List.filter_congr (fun m inside => by
        rw [Bool.eq_iff_iff, beq_iff_eq, beq_iff_eq]
        exact only m (List.mem_range.mp inside))
    rw [same, List.filter_beq, List.count_eq_one_of_mem List.nodup_range (List.mem_range.mpr known)]
    rfl
  obtain ⟨x, isX⟩ : ∃ x, mkMsg s.dev (fget s.dev (RF.SHC_EPOCH_DEVICE a)) 0 0 false (.progress (regRead s.dev Reg.FAB_PROGRESS)) = x := ⟨_, rfl⟩
  have ran : exec .progressPush s = .next { s with dev := finish (routeMsg s.dev x) } := by
    show execProgressPush s = _
    unfold execProgressPush sendFab
    rw [perform_eq, runs, listed, ← isX]
    rfl
  obtain ⟨sent, sends⟩ := routeMsg_sends s.dev x
  have linked := sent.linked (List.Subset.refl txRegs)
  rw [isX]
  exact ⟨{ s with dev := finish (routeMsg s.dev x) }, ran, linked.sameMem, sends.followed (finish_out _) (finish_fab _),
    linked.onlyOut sent.quiet.1 sent.quiet.2⟩

end

end Sys2Proof.Machine
end

section
/-!
SUPPORT. The pace of collectives, and members that depart (R355, R365, R366).
-/
namespace Sys2Proof.Machine

/-! ### Collectives that wait (R365, R366) -/

section
variable {s : State} {h q : Nat} {cm : Comm} {y : Coll} (only : s.dev.fab.comms = List.cons (h, cm) []) (first : cm.colls = List.cons y [])
  (none' : cm.early = []) (kind : y.head.kind ≠ 1) (waits : awaited cm y = List.cons q [])
include only first none' kind waits

/-- A collective that awaits others does not go on. -/
theorem collTurns_waits (free : s.dev.blocked = []) : collTurns s.dev = s.dev := by
  have here : commAt s.dev h = some cm := by
    unfold commAt
    rw [only]
    simp [tget]
  have owed : allIn cm y = false := by
    rw [Bool.eq_false_iff]
    intro all
    have none : (childRanks cm.ranks.length cm.rank).filter (fun r => y.head.kind != 1 && !y.got.any (fun g => g.1 == r)) = [] := by
      refine List.filter_eq_nil_iff.mpr (fun r child => ?_)
      have came := List.all_eq_true.mp all r child
      rw [came]
      simp
    unfold awaited at waits
    rw [none] at waits
    cases waits
  have step : collStep s.dev h = s.dev := collStep_waits here first (.inr ⟨kind, owed⟩)
  have stays : collAdvance s.dev h 4096 = s.dev :=
    (collAdvance_stays here first none' (by rw [step]; exact here) first none' 4095).trans step
  have turn : whole s.dev (fun s => collAdvance s h 4096) = s.dev := by
    rw [whole_of_unblocked]
    · exact stays
    · rw [stays]
      exact free
  unfold collTurns tkeys
  rw [only]
  exact turn

theorem collective_polled (free : s.dev.blocked = []) : ∃ t, exec (.collectiveProgressPoll h) s = .next t ∧ SameMem s.dev t.dev
    ∧ Sends s.dev t.dev (mkMsg s.dev (cm.ranks.getD q 0) 3 progressOffset false (.readReq 8))
    ∧ OnlyIn txRegs s t { s.dev with fab := fabSent t.dev s.dev.fab, out := t.dev.out } := by
  have here : commAt s.dev h = some cm := by
    unfold commAt
    rw [only]
    simp [tget]
  obtain ⟨x, isX⟩ : ∃ x, mkMsg s.dev (cm.ranks.getD q 0) 3 progressOffset false (.readReq 8) = x := ⟨_, rfl⟩
  have ran : exec (.collectiveProgressPoll h) s = .next { s with dev := finish (routeMsg s.dev x) } := by
    show execCollectiveProgressPoll h s = _
    unfold execCollectiveProgressPoll sendFab
    rw [perform_eq, collTurns_waits only first none' kind waits free]
    dsimp only
    rw [here]
    dsimp only
    rw [first]
    dsimp only
    rw [waits, ← isX]
    rfl
  obtain ⟨sent, sends⟩ := routeMsg_sends s.dev x
  have linked := sent.linked (List.Subset.refl txRegs)
  rw [isX]
  exact ⟨{ s with dev := finish (routeMsg s.dev x) }, ran, linked.sameMem, sends.followed (finish_out _) (finish_fab _),
    linked.onlyOut sent.quiet.1 sent.quiet.2⟩

end

/-! ### Pacing -/

/-- A reason that begins leaves the others that apply. -/
theorem beginReason_keeps (s : Dev) {r : Nat} (reason : r ≤ 8) (unit : Nat) : s.power.applies ⊆ (beginReason s r unit).power.applies := by
  unfold beginReason
  split
  · exact List.Subset.refl _
  · obtain ⟨u, isU⟩ : ∃ u, u = showReasons { s with power := { s.power with applies := s.power.applies ++ [(r, unit)] } } := ⟨_, rfl⟩
    obtain ⟨w, isW⟩ : ∃ w, w = logThrottle (if !reasonOn s r then bump u (Reg.PWR_THR_CNT r) else u) r unit := ⟨_, rfl⟩
    obtain ⟨-, same, -⟩ := logThrottle_leaves u reason unit _ isW
    have listed : s.power.applies ⊆ w.power.applies := by
      obtain ⟨regs, shape⟩ := showReasons_shape { s with power := { s.power with applies := s.power.applies ++ [(r, unit)] } }
      rw [same, isU, shape]
      exact List.subset_append_left _ _
    have last (tells : Bool) (vec : Nat) : s.power.applies
        ⊆ (if tells then sendMsix { w with power := { w.power with told := tset w.power.told r w.time.hw } } 0 vec else w).power.applies := by
      cases tells with
      | true =>
        rw [if_pos rfl, sendMsix_power]
        exact listed
      | false => exact listed
    dsimp only
    rw [← isU, ← isW]
    exact last _ _

/-- A reason that begins for several units. -/
theorem beginReason_all {r : Nat} (reason : r ≤ 8) (l : List Nat) (s : Dev) : Told (reasonRegs r) s (l.foldl (fun s i => beginReason s r i) s)
    ∧ s.power.applies ⊆ (l.foldl (fun s i => beginReason s r i) s).power.applies
    ∧ ∀ i ∈ l, (r, i) ∈ (l.foldl (fun s i => beginReason s r i) s).power.applies := by
  induction l generalizing s with
  | nil => exact ⟨.refl _ s, List.Subset.refl _, fun i none => absurd none List.not_mem_nil⟩
  | cons i l ih =>
    obtain ⟨reported, applies⟩ := beginReason_leaves s reason i
    obtain ⟨told, keeps, all⟩ := ih (beginReason s r i)
    rw [List.foldl_cons]
    refine ⟨reported.told.trans told, fun p listed => keeps (beginReason_keeps s reason i listed), fun j listed => ?_⟩
    obtain rfl | later := List.mem_cons.mp listed
    · exact keeps applies
    · exact all j later

theorem collective_paced {s : State} {h q : Nat} {cm : Comm} {y : Coll} (only : s.dev.fab.comms = List.cons (h, cm) []) (first : cm.colls = List.cons y [])
    (waits : awaited cm y = List.cons q []) (enabled : fget s.dev RF.FAB_POLICY_PACE_EN = 1) (fresh : y.pacing = false)
    (slow : (tgetD s.dev.fab.words (cm.ranks.getD q 0) 0) % 256 &&& 0xDF ≠ 0) :
    ∃ t, exec (.paceTimeout h) s = .next t ∧ SameMem s.dev t.dev ∧ fget t.dev RF.FAB_STATUS_PACING = 1
      ∧ regRead t.dev Reg.FAB_CNT_PACE_EVENTS = (regRead s.dev Reg.FAB_CNT_PACE_EVENTS + 1) % 2 ^ 64
      ∧ t.dev.fab.comms = [(h, { cm with colls := [{ y with pacing := true }] })]
      ∧ (∀ i ∈ heldIslands s.dev cm.inst, (6, i) ∈ t.dev.power.applies)
      ∧ OnlyIn ([Reg.FAB_STATUS, Reg.FAB_CNT_PACE_EVENTS] ++ reasonRegs 6) s t
          { s.dev with fab := { s.dev.fab with comms := t.dev.fab.comms }, power := t.dev.power, host := t.dev.host, out := t.dev.out,
                       log := t.dev.log, flash := { s.dev.flash with romLog := t.dev.flash.romLog } } := by
  have here : commAt s.dev h = some cm := by
    unfold commAt
    rw [only]
    simp [tget]
  obtain ⟨u, isU⟩ : ∃ u, u = { s.dev with fab := { s.dev.fab with comms := [(h, { cm with colls := [{ y with pacing := true }] })] } } := ⟨_, rfl⟩
  obtain ⟨v, isV⟩ : ∃ v, v = (heldIslands s.dev cm.inst).foldl (fun s i => beginReason s 6 i) u := ⟨_, rfl⟩
  have behind : [q].any (fun r => (tgetD s.dev.fab.words (cm.ranks.getD r 0) 0) % 256 &&& 0xDF != 0) = true := by
    rw [List.any_cons, Bool.or_eq_true]
    exact .inl (bne_iff_ne.mpr slow)
  have ran : exec (.paceTimeout h) s = .next { s with dev := finish (fset (bump v Reg.FAB_CNT_PACE_EVENTS) RF.FAB_STATUS_PACING 1) } := by
    show execPaceTimeout h s = _
    unfold execPaceTimeout
    rw [perform_eq, here]
    dsimp only
    rw [first]
    dsimp only
    rw [waits, behind, enabled, fresh, if_neg (by decide), modComm_only _ only, isV, isU]
    rfl
  obtain ⟨told, -, all⟩ := beginReason_all (r := 6) (by decide) (heldIslands s.dev cm.inst) u
  rw [← isV] at told all
  have regsU : ∀ o, regRead u o = regRead s.dev o := fun o => by
    rw [isU]
    rfl
  have count : regRead v Reg.FAB_CNT_PACE_EVENTS = regRead s.dev Reg.FAB_CNT_PACE_EVENTS := (told.regs _ (by decide) (by decide)).trans (regsU _)
  have pace : fget (fset (bump v Reg.FAB_CNT_PACE_EVENTS) RF.FAB_STATUS_PACING 1) RF.FAB_STATUS_PACING = 1 := fget_fset_same _ _ _ (by decide)
  have counted : regRead (fset (bump v Reg.FAB_CNT_PACE_EVENTS) RF.FAB_STATUS_PACING 1) Reg.FAB_CNT_PACE_EVENTS
      = (regRead s.dev Reg.FAB_CNT_PACE_EVENTS + 1) % 2 ^ 64 := by
    rw [regRead_fset_other _ _ _ _ (by decide), regRead_bump_same, count]
  have within : Told ([Reg.FAB_STATUS, Reg.FAB_CNT_PACE_EVENTS] ++ reasonRegs 6) v (fset (bump v Reg.FAB_CNT_PACE_EVENTS) RF.FAB_STATUS_PACING 1) :=
    (told_regWrite v _ (by simp)).trans (told_fset _ RF.FAB_STATUS_PACING 1 (by simp [RF.FAB_STATUS_PACING]))
  have power : (fset (bump v Reg.FAB_CNT_PACE_EVENTS) RF.FAB_STATUS_PACING 1).power = v.power := rfl
  generalize fset (bump v Reg.FAB_CNT_PACE_EVENTS) RF.FAB_STATUS_PACING 1 = w at *
  have whole' := (told.mono (List.subset_append_right [Reg.FAB_STATUS, Reg.FAB_CNT_PACE_EVENTS] (reasonRegs 6))).trans within
  have comms : w.fab.comms = [(h, { cm with colls := [{ y with pacing := true }] })] := by
    rw [whole'.rest, isU]
  refine ⟨{ s with dev := finish w }, ran, sameMem_finish ?_, (fget_finish w _ (by decide)).trans pace, (regRead_finish w _ (by decide)).trans counted, ?_,
    fun i held => ?_, ?_⟩
  · rw [whole'.dram, isU]
  · rw [withDev_dev, finish_fab]
    exact comms
  · rw [withDev_dev, finish_power, power]
    exact all i held
  · rw [withDev_dev, finish_fab, finish_power, finish_host, finish_out, finish_log, finish_flash, comms]
    refine onlyIn_finish ?_ (fun o others shc => (whole'.regs o others shc).trans (regsU o))
    rw [whole'.rest, isU]

end Sys2Proof.Machine
end

section
/-!
SUPPORT. A member departs of which nothing is under way (R355).
-/
namespace Sys2Proof.Machine

/-- A departure changes registers of a list, the cores' tables, what is sent, the members, the log, and what is asked of lines. -/
structure Leaving (l : List Nat) (s t : Dev) : Prop where
  regs : ∀ o, o ∉ l → o ≠ Reg.SHC_STATUS → regRead t o = regRead s o
  rest : t = { s with
    regs := t.regs, cores := t.cores, fab := fabSent t s.fab, out := t.out, log := t.log,
    shore := { s.shore with wants := t.shore.wants, heldFwd := t.shore.heldFwd }, flash := { s.flash with romLog := t.flash.romLog } }
  cores : ∀ j, coreOf t j = coreOf s j

namespace Leaving

variable {l : List Nat} {s t u : Dev}

theorem refl (l : List Nat) (s : Dev) : Leaving l s s := ⟨fun _ _ _ => rfl, rfl, fun _ => rfl⟩

theorem trans (h : Leaving l s t) (k : Leaving l t u) : Leaving l s u := by
  refine ⟨fun o other shc => (k.regs o other shc).trans (h.regs o other shc), ?_, fun j => (k.cores j).trans (h.cores j)⟩
  rw [k.rest, h.rest]
  rfl

theorem mono {l' : List Nat} (h : Leaving l s t) (more : l ⊆ l') : Leaving l' s t :=
  ⟨fun o other => h.regs o (fun own => other (more own)), h.rest, h.cores⟩

theorem of_linked (h : Linked l s t) : Leaving l s t := by
  have cores : t.cores = s.cores := by rw [h.rest]
  refine ⟨h.regs, ?_, fun j => congrArg (fun x => tgetD x j Core.reset) cores⟩
  rw [h.rest]
  rfl

theorem dram (h : Leaving l s t) : t.dram = s.dram := by rw [h.rest]

end Leaving

/-- Of a device nothing is under way. -/
structure Quit (dev : Nat) (s : Dev) : Prop where
  dir : s.shore.dir = []
  txn : s.shore.txn = []
  queue : s.shore.queue = []
  net : s.net = []
  comms : s.fab.comms = []
  sends : s.fab.sends = []
  writes : ∀ p ∈ s.cores, ∀ w ∈ p.2.wb, atDevice dev (32 * w.sec) = false
  lines : ∀ p ∈ s.shore.lines, p.2.hold = .pending → atDevice dev (64 * p.1) = false

namespace Quit

variable {dev : Nat} {s t : Dev}

theorem congr (h : Quit dev s) (shore : t.shore = s.shore) (net : t.net = s.net) (comms : t.fab.comms = s.fab.comms) (sends : t.fab.sends = s.fab.sends)
    (cores : t.cores = s.cores) : Quit dev t := by
  obtain ⟨d, x, q, n, c, m, w, l⟩ := h
  exact ⟨by rw [shore, d], by rw [shore, x], by rw [shore, q], by rw [net, n], by rw [comms, c], by rw [sends, m], by rw [cores]; exact w, by rw [shore]; exact l⟩

theorem linked {l : List Nat} (h : Quit dev s) (step : Linked l s t) : Quit dev t :=
  h.congr (by rw [step.rest]) (by rw [step.rest]) (by rw [step.rest]; rfl) (by rw [step.rest]; rfl) (by rw [step.rest])

/-- No line is reclaimed. -/
theorem reclaimAgent (h : Quit dev s) (a : Nat) : (reclaimAgent s a).1 = bump s Reg.SHC_CNT_RECLAIMS := by
  unfold Machine.reclaimAgent
  rw [h.dir, h.txn, h.queue]
  rfl

end Quit

theorem departColls_none {s : Dev} (idle : s.fab.comms = []) (d : Nat) : departColls s d = s := by
  unfold departColls
  rw [idle]
  rfl

theorem departMcast_none {s : Dev} (idle : s.fab.sends = []) (d : Nat) : departMcast s d = s := by
  unfold departMcast
  rw [idle]
  rfl

/-- The writes of a core that go to a device are lost. -/
def loseTo (dev : Nat) (s : Dev) (c : Nat) : Dev :=
  modCore s c (fun x => (x.wb.filter (fun w => atDevice dev (32 * w.sec))).foldl (fun x w => loseWrite { x with wb := x.wb.erase w } w ePeerGone) x)

/-- What awaits a line at a device is dropped. -/
def forgetLines (dev : Nat) (s : Dev) : Dev :=
  { s with shore := { s.shore with
    wants := tfilter s.shore.wants (fun k _ => !atDevice dev (64 * k)), queue := tfilter s.shore.queue (fun k _ => !atDevice dev (64 * k)),
    heldFwd := s.shore.heldFwd.filter (fun f => !atDevice dev (64 * f.line)) } }

/-- The lines that await a device are dropped. -/
def dropPending (dev : Nat) (s : Dev) : Dev :=
  let held := s.shore.lines.filter (fun p => atDevice dev (64 * p.1) && p.2.hold == .pending)
  let t := forgetLines dev (held.foldl (fun s p => dropLine s p.1) s)
  if held.isEmpty then t else failReleases t

section
variable {dev : Nat} {s : Dev}

/-- Each core has its writes elsewhere. -/
theorem coreOf_writes (writes : ∀ p ∈ s.cores, ∀ w ∈ p.2.wb, atDevice dev (32 * w.sec) = false) (c : Nat) :
    (coreOf s c).wb.filter (fun w => atDevice dev (32 * w.sec)) = [] := by
  refine List.filter_eq_nil_iff.mpr (fun w listed => ?_)
  rw [Bool.not_eq_true]
  unfold coreOf tgetD at listed
  cases found : tget s.cores c with
  | none =>
    rw [found] at listed
    cases listed
  | some x =>
    rw [found] at listed
    exact writes (c, x) (mem_of_tget found) w listed

theorem coreOf_loseTo (writes : ∀ c, (coreOf s c).wb.filter (fun w => atDevice dev (32 * w.sec)) = []) (c j : Nat) :
    coreOf (loseTo dev s c) j = coreOf s j := by
  unfold loseTo modCore
  by_cases own : j = c
  · subst own
    rw [coreOf_setCore_same]
    dsimp only
    rw [writes j]
    rfl
  · exact coreOf_setCore_other _ _ _ _ own

theorem loseTo_all (l : List Nat) (writes : ∀ c, (coreOf s c).wb.filter (fun w => atDevice dev (32 * w.sec)) = []) :
    (∀ j, coreOf (l.foldl (loseTo dev) s) j = coreOf s j) ∧ ∃ cores, l.foldl (loseTo dev) s = { s with cores := cores } := by
  induction l generalizing s with
  | nil => exact ⟨fun _ => rfl, _, rfl⟩
  | cons c l ih =>
    have kept := coreOf_loseTo writes c
    obtain ⟨same, cores, shape⟩ := ih (s := loseTo dev s c) (fun j => by rw [kept j]; exact writes j)
    rw [List.foldl_cons]
    exact ⟨fun j => (same j).trans (kept j), cores, shape⟩

/-- Nothing awaits the device: what is told of its lines is forgotten. -/
theorem endAccesses_eq (quit : Quit dev s) :
    endAccesses s (atDevice dev) = forgetLines dev ((tkeys s.cores).foldl (loseTo dev) s) := by
  obtain ⟨_, cores, shape⟩ := loseTo_all (tkeys s.cores) (coreOf_writes quit.writes)
  have held : ((tkeys s.cores).foldl (loseTo dev) s).shore.lines.filter (fun p => atDevice dev (64 * p.1) && p.2.hold == .pending) = [] := by
    rw [shape]
    refine List.filter_eq_nil_iff.mpr (fun p listed both => ?_)
    rw [Bool.and_eq_true, beq_iff_eq] at both
    exact absurd ((quit.lines p listed both.2).symm.trans both.1) (by decide)
  have whole : endAccesses s (atDevice dev) = dropPending dev ((tkeys s.cores).foldl (loseTo dev) s) := by
    unfold endAccesses
    rw [quit.net, List.filter_nil, List.foldl_nil]
    rfl
  rw [whole]
  unfold dropPending
  rw [held]
  rfl

theorem endAccesses_leaves (quit : Quit dev s) :
    Leaving [] s (endAccesses s (atDevice dev)) ∧ (endAccesses s (atDevice dev)).fab = s.fab := by
  obtain ⟨same, cores, shape⟩ := loseTo_all (tkeys s.cores) (coreOf_writes quit.writes)
  rw [endAccesses_eq quit]
  generalize (tkeys s.cores).foldl (loseTo dev) s = t at same shape
  refine ⟨⟨?_, ?_, same⟩, ?_⟩
  · intro o _ _
    rw [shape]
    rfl
  · have none : tfilter t.shore.queue (fun k _ => !atDevice dev (64 * k)) = s.shore.queue := by
      rw [shape, quit.queue]
      rfl
    unfold forgetLines
    rw [none, shape]
    rfl
  · rw [shape]
    rfl

end

end Sys2Proof.Machine
end

section
/-!
SUPPORT. The departure of a member, and the rows by which one departs (R355).
-/
namespace Sys2Proof.Machine

/-- The registers that a departure may change. -/
def departRegs (idx : Nat) : List Nat := [Reg.SHC_EPOCH idx, Reg.FAB_STATUS, Reg.FAB_CNT_DEPARTS, Reg.SHC_CNT_RECLAIMS] ++ txRegs ++ logRegs

theorem tx_departs (idx : Nat) : txRegs ⊆ departRegs idx := fun _ own => List.mem_append_left _ (List.mem_append_right _ own)

theorem log_departs (idx : Nat) : logRegs ⊆ departRegs idx := fun _ own => List.mem_append_right _ own

theorem Linked.regWrite {l : List Nat} (s : Dev) {o : Nat} (named : o ∈ l) (v : Nat) : Linked l s (regWrite s o v) :=
  ⟨fun _ other _ => regRead_regWrite_other _ _ _ _ (fun own => other (own ▸ named)), rfl⟩

theorem OnlyLog.linked {l : List Nat} {s t : Dev} (h : OnlyLog s t) (more : logRegs ⊆ l) : Linked l s t := by
  refine ⟨fun o other _ => h.regs o (fun own => other (more (mem_logRegs.mpr own))), ?_⟩
  rw [h.rest, h.flash]
  rfl

section
variable {dev idx : Nat} {s : Dev}

/-- A member of which nothing is under way departs. -/
theorem departMember_leaves (quit : Quit dev s) (valid : fget s (RF.SHC_EPOCH_VALID idx) ≠ 0) (device : fget s (RF.SHC_EPOCH_DEVICE idx) = dev) :
    Leaving (departRegs idx) s (departMember s idx)
      ∧ ∀ j, j ≠ idx → (tget (departMember s idx).fab.members j).map (·.device) = (tget s.fab.members j).map (·.device) := by
  obtain ⟨u, isU⟩ : ∃ u, u = fset s (RF.SHC_EPOCH_VALID idx) 0 := ⟨_, rfl⟩
  obtain ⟨v, isV⟩ : ∃ v, v = (if fabReach u dev then routeMsg u (mkMsg s dev 0 0 false .depart) else u) := ⟨_, rfl⟩
  obtain ⟨w, isW⟩ : ∃ w, w = bump v Reg.SHC_CNT_RECLAIMS := ⟨_, rfl⟩
  obtain ⟨x, isX⟩ : ∃ x, x = endAccesses w (atDevice dev) := ⟨_, rfl⟩
  have marked : Linked (departRegs idx) s u := by
    rw [isU]
    exact .regWrite s (List.mem_append_left _ (List.mem_append_left _ (.head _))) _
  have told : OnlySent u v := by
    rw [isV]
    split
    · exact (routeMsg_sends _ _).1
    · exact .refl u
  have counted : Linked (departRegs idx) v w := by
    rw [isW]
    exact .regWrite v (by simp [departRegs]) _
  have before : Linked (departRegs idx) s w := (marked.trans (told.linked (tx_departs idx))).trans counted
  have left : Quit dev w := quit.linked before
  obtain ⟨ended, fab⟩ := endAccesses_leaves left
  rw [← isX] at ended fab
  have idle : x.fab.comms = [] ∧ x.fab.sends = [] := by
    rw [fab]
    exact ⟨left.comms, left.sends⟩
  have whole : ∃ object old new, departMember s idx =
      logFw (showMembers (bump { x with fab := { x.fab with members := tdel x.fab.members idx } } Reg.FAB_CNT_DEPARTS)) 6 object old new := by
    unfold departMember
    rw [if_neg valid]
    dsimp only
    rw [device, ← isU, ← isV, (quit.linked (marked.trans (told.linked (tx_departs idx)))).reclaimAgent idx, ← isW, ← isX,
      departColls_none idle.1, departMcast_none idle.2]
    exact ⟨_, _, _, rfl⟩
  obtain ⟨object, old, new, whole⟩ := whole
  obtain ⟨m, isM⟩ : ∃ m, m = { x with fab := { x.fab with members := tdel x.fab.members idx } } := ⟨_, rfl⟩
  rw [← isM] at whole
  have logged := onlyLog_logFw (showMembers (bump m Reg.FAB_CNT_DEPARTS)) 6 object old new
  rw [← whole] at logged
  have removed : Linked (departRegs idx) x m := by
    rw [isM]
    exact ⟨fun _ _ _ => rfl, rfl⟩
  have shown : Linked (departRegs idx) m (showMembers (bump m Reg.FAB_CNT_DEPARTS)) :=
    (Linked.regWrite m (by simp [departRegs]) _).trans (.regWrite _ (List.mem_append_left _ (List.mem_append_left _ (.tail _ (.head _)))) _)
  refine ⟨((Leaving.of_linked before).trans (ended.mono (List.nil_subset _))).trans
    (.of_linked ((removed.trans shown).trans (logged.linked (log_departs idx)))), fun j other => ?_⟩
  have table : (departMember s idx).fab.members = tdel x.fab.members idx := by
    rw [logged.rest]
    show (showMembers (bump m Reg.FAB_CNT_DEPARTS)).fab.members = _
    rw [isM]
    rfl
  have kept := congrArg (Option.map Prod.fst) (told.members j)
  rw [Option.map_map, Option.map_map, isU] at kept
  rw [table, tget_tdel_other _ _ _ other, fab, isW]
  exact kept

end

/-! ### The rows -/

theorem valid_of_memberOf {s : Dev} {d a : Nat} (member : memberOf s d = some a) : fget s (RF.SHC_EPOCH_VALID a) = 1 := by
  have holds := lowestFrom_holds member
  rw [Bool.and_eq_true, beq_iff_eq] at holds
  exact holds.1

/-- Without an admission under way, the departure of a device is that of the member. -/
theorem departDevice_eq {dev idx : Nat} {s : Dev} (member : memberOf s dev = some idx) (answered : ∀ p ∈ s.fab.members, p.2.cmd = none) :
    departDevice s dev = departMember s idx := by
  have none : s.fab.members.filter (fun p => p.2.device == dev && p.2.cmd.isSome) = [] := by
    refine List.filter_eq_nil_iff.mpr (fun p listed => ?_)
    rw [answered p listed]
    simp
  unfold departDevice endAdmission
  rw [none, List.foldl_nil]
  dsimp only
  rw [member]

section
variable {s : State} {dev idx : Nat} {v : Dev}

/-- A device departs, in a module that differs from the one before in when members were heard. -/
theorem device_departs (heard : OnlySent s.dev v) (regs : v.regs = s.dev.regs) (quit : Quit dev v) (member : memberOf v dev = some idx)
    (answered : ∀ p ∈ v.fab.members, p.2.cmd = none) :
    ∃ t, t = finish (departDevice v dev) ∧ SameMem s.dev t ∧ fget t (RF.SHC_EPOCH_VALID idx) = 0 ∧ tget t.fab.members idx = none
      ∧ regRead t Reg.FAB_CNT_DEPARTS = (regRead s.dev Reg.FAB_CNT_DEPARTS + 1) % 2 ^ 64 ∧ (∀ j, coreOf t j = coreOf s.dev j)
      ∧ (∀ j, j ≠ idx → (tget t.fab.members j).map (·.device) = (tget s.dev.fab.members j).map (·.device))
      ∧ OnlyIn ([Reg.SHC_EPOCH idx, Reg.FAB_STATUS, Reg.FAB_CNT_DEPARTS, Reg.SHC_CNT_RECLAIMS] ++ txRegs ++ logRegs) s { s with dev := t }
          { s.dev with cores := t.cores, fab := fabSent t s.dev.fab, out := t.out, log := t.log,
                       shore := { s.dev.shore with wants := t.shore.wants, heldFwd := t.shore.heldFwd },
                       flash := { s.dev.flash with romLog := t.flash.romLog } } := by
  obtain ⟨known, device⟩ := device_of_memberOf member
  have valid : fget v (RF.SHC_EPOCH_VALID idx) ≠ 0 := by
    rw [valid_of_memberOf member]
    decide
  obtain ⟨left, others⟩ := departMember_leaves quit valid device
  obtain ⟨gone, count, member'⟩ := departed_departMember known valid
  have apart : (RF.SHC_EPOCH_VALID idx).off ≠ 0x150000 := by
    show 0x150600 + 8 * idx ≠ 0x150000
    omega
  rw [departDevice_eq member answered]
  generalize departMember v idx = t at left others gone count member'
  have whole : Leaving (departRegs idx) s.dev t := (Leaving.of_linked (heard.linked (tx_departs idx))).trans left
  refine ⟨_, rfl, sameMem_finish whole.dram, ?_, ?_, ?_, ?_, ?_, ?_⟩
  · exact (fget_finish _ _ apart).trans gone
  · rw [finish_fab]
    exact member'
  · rw [regRead_finish _ _ (by decide), count]
    unfold regRead
    rw [regs]
  · intro j
    exact whole.cores j
  · intro j other
    have kept := congrArg (Option.map Prod.fst) (heard.members j)
    rw [Option.map_map, Option.map_map] at kept
    rw [finish_fab, others j other]
    exact kept
  · unfold fabSent
    rw [finish_fab, finish_out, finish_log, finish_flash, finish_cores, finish_shore]
    refine onlyIn_finish ?_ whole.regs
    rw [whole.rest]
    rfl

end

section
variable {s : State} {dev idx : Nat} {c : Instr}

theorem foldl_idle {α β : Type} {f : β → α → β} {b : β} (l : List α) (idle : ∀ x ∈ l, f b x = b) : l.foldl f b = b := by
  induction l with
  | nil => rfl
  | cons x l ih =>
    rw [List.foldl_cons, idle x List.mem_cons_self]
    exact ih (fun y inside => idle y (List.mem_cons_of_mem x inside))

/-- A member that says farewell, and one that is silent and out of reach. -/
theorem member_departs (runs : serving s.dev = true)
    (how : (∃ m, c = .fabricDepart m ∧ Arrives s.dev m ∧ m.src = dev ∧ m.body = .depart) ∨
      c = .memberSilenceTimeout dev ∧ fabReach s.dev dev = false ∧ ∀ p, p < 16 → (portAt s.dev p).heldFrom ≠ dev)
    (quit : Quit dev s.dev) (member : memberOf s.dev dev = some idx) (answered : ∀ p ∈ s.dev.fab.members, p.2.cmd = none) :
    ∃ v, exec c s = .next { s with dev := finish (departDevice v dev) } ∧ OnlySent s.dev v ∧ v.regs = s.dev.regs ∧ Quit dev v
      ∧ memberOf v dev = some idx ∧ ∀ p ∈ v.fab.members, p.2.cmd = none := by
  obtain ⟨m, rfl, arrives, rfl, body⟩ | ⟨rfl, far, free⟩ := how
  · refine ⟨heardFrom s.dev m, ?_, onlySent_heardFrom _ _, ?_, quit.linked ((onlySent_heardFrom _ _).linked (List.Subset.refl _)), ?_, ?_⟩
    · show execFabricDepart m s = _
      unfold execFabricDepart
      rw [perform_eq, body, arrive_of_arrives arrives]
    · obtain ⟨members, shape⟩ := heardFrom_shape s.dev m
      rw [shape]
    · obtain ⟨members, shape⟩ := heardFrom_shape s.dev m
      rw [shape]
      exact member
    · intro p listed
      unfold heardFrom tmod at listed
      rw [member] at listed
      dsimp only at listed
      cases found : tget s.dev.fab.members idx with
      | none =>
        rw [found] at listed
        exact answered p listed
      | some x =>
        rw [found] at listed
        obtain old | ⟨_, new⟩ := mem_tset_cases listed
        · exact answered p old
        · rw [new]
          exact answered (idx, x) (mem_of_tget found)
  · refine ⟨s.dev, ?_, .refl _, rfl, quit, member, answered⟩
    have kept : dropHeld s.dev dev = (s.dev, []) := by
      unfold dropHeld
      exact foldl_idle _ (fun p inside => if_neg (free p (List.mem_range.mp inside)))
    show execMemberSilenceTimeout dev s = _
    unfold execMemberSilenceTimeout
    rw [perform_eq, if_neg (by simp [runs, far]), kept]
    rfl

end

end Sys2Proof.Machine
end

section
/-!
PROOF. Ports, links and members.
-/
namespace Sys2Proof.Machine

/-- Settles O49: each row is taken by the lemma of its own that says what it leaves. -/
theorem portsAndMembers : Obligations.PortsAndMembers := by
  unfold Obligations.PortsAndMembers
  intro s runs
  refine ⟨?ports, ?links, ?admission, ?word, ?push, progress_updated s, ?collective, ?departure⟩
  case ports =>
    intro p f q known isQ up
    subst isQ
    refine ⟨?_, flit_bad runs known up, flit_replays runs up, ?_, keys_changed runs known up, fun c park => lanes_parked runs known up⟩
    · intro fec crc resv secure tag ack none' next waiting inbox
      have good : (f.fecOk && f.crcOk && f.resvOk) = true := by rw [fec, crc, resv]; rfl
      have authentic : (f.secure && f.tagOk) = true := by rw [secure, tag]; rfl
      exact ⟨flit_idle runs known up good authentic ack none' next waiting inbox,
        fun m data => flit_transit runs known up good authentic ack none' next waiting inbox⟩
    · intro alone c row
      obtain ⟨v, before, ran⟩ := loss_runs known up runs row
      exact port_lost known up alone before ran
  case links =>
    intro p q known isQ
    subst isQ
    refine ⟨fun m body own => resync_answered runs known own body, fun m last body own asked => resync_taken runs known own body asked,
      port_detected runs known, port_trained runs known, fun alone attests => ⟨?_, ?_, ?_⟩⟩
    · intro m device serial port chain body first number other ports
      exact identity_taken runs known alone attests body first number other ports
    · intro m b body second
      exact measurements_taken runs known alone attests body second
    · intro m body third empty
      exact keys_taken runs known attests body third empty
  case admission =>
    intro dev idx key mb e only device waits stored named _
    exact admission_ends runs only device waits stored named
  case word =>
    intro m w arrives body
    exact progress_kept arrives body
  case push =>
    intro a known only
    exact progress_sent runs known only
  case collective =>
    intro h q cm y free only first none' kind waits
    exact ⟨collective_polled only first none' kind waits free, collective_paced only first waits⟩
  case departure =>
    intro c dev idx how member dir txn queue net comms sends answered writes lines
    obtain ⟨v, ran, heard, regs, quit, member', answered'⟩ :=
      member_departs runs how ⟨dir, txn, queue, net, comms, sends, writes, lines⟩ member answered
    obtain ⟨t, isT, left⟩ := device_departs heard regs quit member' answered'
    exact ⟨{ s with dev := t }, by rw [ran, isT], left⟩

end Sys2Proof.Machine
end

section
/-!
SUPPORT. Connections of SPDM, and the answers on them (R425 to R427).
-/
namespace Sys2Proof.Machine

/-- Nothing changes but one connection, which stands as `y`. -/
structure Conned (n : Nat) (y : SpdmConn) (s u : Dev) : Prop where
  rest : u = { s with trust := { s.trust with conns := u.trust.conns } }
  own : connAt u n = y
  others : ∀ j, j ≠ n → tget u.trust.conns j = tget s.trust.conns j

namespace Conned

variable {n : Nat} {y : SpdmConn} {s u : Dev}

theorem refl (n : Nat) (s : Dev) : Conned n (connAt s n) s s := ⟨rfl, rfl, fun _ _ => rfl⟩

theorem setConn (h : Conned n y s u) (z : SpdmConn) : Conned n z s (setConn u n z) := by
  refine ⟨?_, ?_, fun j other => (tget_tset_other _ _ _ _ other).trans (h.others j other)⟩
  · rw [h.rest]
    rfl
  · show (tget (tset u.trust.conns n z) n).getD _ = z
    rw [tget_tset_same]
    rfl

theorem regs (h : Conned n y s u) : u.regs = s.regs := by rw [h.rest]

/-- An answer is all that goes out. -/
theorem replied {s : State} {v f u : Dev} {l : List Nat} (h : Conned n y v u) (shape : v = { f with regs := v.regs })
    (conns : f.trust.conns = s.dev.trust.conns) (dram : f.dram = s.dev.dram)
    (regs : ∀ o, o ∉ l → o ≠ Reg.SHC_STATUS → regRead v o = regRead s.dev o) (r : Reply) :
    Replied l s { s with dev := finish (reply u n r) } n r y f := by
  have same : u.dram = s.dev.dram := by rw [h.rest, shape, ← dram]
  have table : v.trust.conns = s.dev.trust.conns := by rw [shape, ← conns]
  refine ⟨?_, sameMem_finish same, ?_, ?_⟩
  · refine onlyIn_finish ?_ (fun o other shc => ?_)
    · show reply u n r = _
      rw [finish_trust]
      unfold reply
      rw [h.rest, shape]
    · show regRead u o = _
      unfold regRead at regs ⊢
      rw [h.regs]
      exact regs o other shc
  · exact h.own
  · intro j other
    exact (h.others j other).trans (by rw [table])

end Conned

section
variable {s : State} {n : Nat} {y : SpdmConn}

/-- An answer of which nothing but the connection changes. -/
theorem replied_plain {u : Dev} (h : Conned n y s.dev u) (r : Reply) : Replied [] s { s with dev := finish (reply u n r) } n r y s.dev :=
  h.replied rfl rfl rfl (fun _ _ _ => rfl) r

variable (isY : y = connAt s.dev n) (up : connOpen s.dev n = true)

/-- A connection once what it could co-sign is gone. -/
def signedOff (s : Dev) (n : Nat) : Dev := setConn s n { connAt s n with signed := none }

include isY in
theorem conned_signedOff : Conned n { y with signed := none } s.dev (signedOff s.dev n) := by
  subst isY
  exact (Conned.refl n s.dev).setConn _

include isY up in
/-- Before boot lock (R423). -/
theorem spdm_early (locked : fget s.dev RF.SEC_STATUS_BOOT_LOCK = 0) {c : Instr} {f : Dev → Dev} (runs : exec c s = perform s (fun s => spdm s n f)) :
    ∃ t, exec c s = .next t ∧ Replied [] s t n .notReady y s.dev := by
  have answers : spdm s.dev n f = reply s.dev n .notReady := by
    unfold spdm
    rw [up, locked]
    rfl
  rw [perform_eq, answers] at runs
  subst isY
  exact ⟨_, runs, replied_plain (.refl n s.dev) _⟩

include up in
/-- After it. -/
theorem spdm_answers (locked : fget s.dev RF.SEC_STATUS_BOOT_LOCK = 1) {c : Instr} {f : Dev → Dev} {u : Dev} {r : Reply} {z : SpdmConn}
    (runs : exec c s = perform s (fun s => spdm s n f)) (conned : Conned n z s.dev u) (answers : f (signedOff s.dev n) = reply u n r) :
    ∃ t, exec c s = .next t ∧ Replied [] s t n r z s.dev := by
  have whole : spdm s.dev n f = reply u n r := by
    rw [← answers]
    unfold spdm
    rw [up, locked]
    rfl
  rw [perform_eq, whole] at runs
  exact ⟨_, runs, replied_plain conned _⟩

end

end Sys2Proof.Machine
end

section
/-!
SUPPORT. The requests of SPDM (R425 to R428).
-/
namespace Sys2Proof.Machine

section
variable {s : State} {n : Nat} {y : SpdmConn} (isY : y = connAt s.dev n) (up : connOpen s.dev n = true)

include isY up in
/-- Every request before boot lock. -/
theorem requests_wait (locked : fget s.dev RF.SEC_STATUS_BOOT_LOCK = 0) (c : Instr) (slot off len idx : Nat) (sg ok : Bool) (b : List Byte)
    (row : c ∈ [Instr.getCertificate n slot off len, .spdmChallenge n slot b, .getMeasurements n idx sg b, .keyExchange n b, .spdmFinish n ok, .pqCosign n]) :
    ∃ t, exec c s = .next t ∧ Replied [] s t n .notReady y s.dev := by
  simp only [List.mem_cons, List.not_mem_nil, or_false] at row
  obtain rfl | rfl | rfl | rfl | rfl | rfl := row
  · exact spdm_early isY up locked rfl
  · exact spdm_early isY up locked rfl
  · exact spdm_early isY up locked rfl
  · exact spdm_early isY up locked rfl
  · exact spdm_early isY up locked rfl
  · exact spdm_early (f := fun t => reply t n (match (connAt s.dev n).signed with
      | some b => .cosign (Config.signature 1 b)
      | none => .unexpected)) isY up locked rfl

variable (locked : fget s.dev RF.SEC_STATUS_BOOT_LOCK = 1)

include isY up locked

theorem certificate_answered (slot off len : Nat) : ∃ t, exec (.getCertificate n slot off len) s = .next t
    ∧ Replied [] s t n (if slot ≤ 1 ∧ off ≤ (Config.chain slot).length then .certificate (((Config.chain slot).drop off).take len) else .invalid)
        { y with signed := none } s.dev := by
  refine spdm_answers up locked rfl (conned_signedOff isY) (congrArg (reply _ n) ?_)
  by_cases have' : slot ≤ 1 ∧ off ≤ (Config.chain slot).length
  · rw [if_pos have', if_neg (by omega)]
  · rw [if_neg have', if_pos (by omega)]

theorem challenge_answered {nonce c : List Byte} (isC : c = nonce ++ sha512 (Config.chain 0)) : ∃ t, exec (.spdmChallenge n 0 nonce) s = .next t
    ∧ Replied [] s t n (.challengeAuth (sha512 (Config.chain 0)) (Config.signature 0 c)) { y with signed := some c } s.dev := by
  subst isC
  refine spdm_answers (u := setConn (signedOff s.dev n) n { connAt (signedOff s.dev n) n with signed := some (nonce ++ sha512 (Config.chain 0)) })
    up locked rfl ?_ rfl
  rw [(conned_signedOff isY).own]
  exact (conned_signedOff isY).setConn _

theorem measurements_answered {idx : Nat} {nonce content c : List Byte} (known : idx = 0 ∨ idx = 0xFF ∨ idx ∈ blockIndices n)
    (isContent : content = BitVec.ofNat 8 (blockIndices n).length
      :: ((if idx = 0 then [] else if idx = 0xFF then blockIndices n else [idx]).map (fun k => BitVec.ofNat 8 k :: blockOf s.dev n k)).flatten)
    (isC : c = nonce ++ content) : ∃ t, exec (.getMeasurements n idx true nonce) s = .next t
      ∧ Replied [] s t n (.measurements content (Config.signature 0 c)) { y with signed := some c } s.dev := by
  have asked : (!true || !(idx == 0 || idx == 0xFF || (blockIndices n).contains idx)) = false := by
    simp only [Bool.not_true, Bool.false_or, Bool.not_eq_false', Bool.or_eq_true, beq_iff_eq, List.contains_iff_mem, or_assoc]
    exact known
  refine spdm_answers (u := setConn (signedOff s.dev n) n { connAt (signedOff s.dev n) n with signed := some c }) up locked rfl ?_ ?_
  · rw [(conned_signedOff isY).own]
    exact (conned_signedOff isY).setConn _
  · subst isC isContent
    dsimp only
    rw [asked]
    rfl

theorem keys_exchanged {request : List Byte} (random : fget s.dev RF.SEC_STATUS_DRBG_OK = 1) : ∃ t, exec (.keyExchange n request) s = .next t
    ∧ Replied [] s t n (.keyExchange (Config.signature 0 request)) { y with exchanged := true, signed := some request } s.dev := by
  have off := conned_signedOff isY
  have asked := off.setConn { connAt (signedOff s.dev n) n with exchanged := true }
  refine spdm_answers (u := setConn (setConn (signedOff s.dev n) n { connAt (signedOff s.dev n) n with exchanged := true }) n
    { { connAt (signedOff s.dev n) n with exchanged := true } with signed := some request }) up locked rfl ?_ ?_
  · rw [off.own] at asked ⊢
    exact asked.setConn _
  · have healthy : fget (signedOff s.dev n) RF.SEC_STATUS_DRBG_OK ≠ 0 := by
      show fget s.dev RF.SEC_STATUS_DRBG_OK ≠ 0
      rw [random]
      decide
    dsimp only
    rw [if_neg healthy]
    unfold signedReply
    rw [asked.own, List.append_nil]

theorem session_opens (exchanged : y.exchanged = true) :
    (∃ t, exec (.spdmFinish n true) s = .next t ∧ Replied [] s t n .finished { y with exchanged := false, session := true, signed := none } s.dev) ∧
    ∃ t, exec (.spdmFinish n false) s = .next t ∧ Replied [] s t n .invalid { y with exchanged := false, signed := none } s.dev := by
  have off := conned_signedOff isY
  refine ⟨spdm_answers up locked rfl (off.setConn _) ?_, spdm_answers up locked rfl (off.setConn _) ?_⟩
  · dsimp only
    rw [off.own, exchanged]
    rfl
  · dsimp only
    rw [off.own, exchanged]
    rfl

theorem cosign_answered : ∃ t, exec (.pqCosign n) s = .next t ∧ Replied [] s t n (match y.signed with
    | some b => .cosign (Config.signature 1 b)
    | none => .unexpected) { y with signed := none } s.dev := by
  refine spdm_answers up locked (f := fun t => reply t n (match (connAt s.dev n).signed with
      | some b => .cosign (Config.signature 1 b)
      | none => .unexpected)) rfl (conned_signedOff isY) ?_
  rw [isY]

end

end Sys2Proof.Machine
end

section
/-!
SUPPORT. TDISP (R388), and DOE objects (R387).
-/
namespace Sys2Proof.Machine

theorem sameRegs_fset {s : Dev} {f : Fld} {v : Nat} {o : Nat} (other : o ∉ [f.off]) : regRead (fset s f v) o = regRead s o :=
  regRead_fset_other _ _ _ _ (fun own => other (own ▸ List.mem_singleton_self _))

/-- The interface's state as TDISP says, with other streams bound. -/
def statusSet (s : Dev) (n v : Nat) (h : HostPort) : Dev := { fset s (RF.HST_BIND_STATUS_TDISP n) v with host := h }

theorem statusSet_fields {s : Dev} {n : Nat} (known : n ≤ 32) (v : Nat) (h : HostPort) (r : Reply) :
    fget (finish (reply (statusSet s n v h) n r)) (RF.HST_BIND_STATUS_TDISP n) = v % 4
      ∧ fget (finish (reply (statusSet s n v h) n r)) (RF.HST_BIND_STATUS_BOUND n) = fget s (RF.HST_BIND_STATUS_BOUND n) := by
  have closed : ∀ f, f.off = Reg.HST_BIND_STATUS n →
      fget (finish (reply (statusSet s n v h) n r)) f = fget (fset s (RF.HST_BIND_STATUS_TDISP n) v) f := by
    intro f own
    refine (fget_finish _ _ ?_).trans rfl
    rw [own]
    show 0x1A0100 + 64 * n + 0x00 ≠ 0x150000
    omega
  rw [closed _ rfl, closed _ rfl]
  exact ⟨fget_fset_same _ _ _ (Nat.le_of_ble_eq_true rfl),
    fget_fset_apart _ _ (Nat.le_of_ble_eq_true rfl) (.inr (.inl (Nat.le_of_ble_eq_true rfl)))⟩

theorem statusSet_replied {s : State} {n : Nat} {y : SpdmConn} {w : Dev} (conned : Conned n y s.dev w) (v : Nat) (h : HostPort) (r : Reply) :
    Replied [Reg.HST_BIND_STATUS n] s { s with dev := finish (reply (statusSet w n v h) n r) } n r y { s.dev with host := h } := by
  have step : Conned n y (statusSet s.dev n v h) (statusSet w n v h) := by
    refine ⟨?_, conned.own, conned.others⟩
    rw [conned.rest]
    rfl
  exact step.replied (f := { s.dev with host := h }) rfl rfl rfl (fun o other _ => sameRegs_fset other) r

section
variable {s : State} {n : Nat} {y : SpdmConn} (isY : y = connAt s.dev n) (up : connOpen s.dev n = true) (from' : 1 ≤ n) (known : n ≤ 32)

include up from' known

theorem tdisp_eq (f : Dev → Nat → Dev) :
    tdisp s.dev n f = if (connAt s.dev n).session = true then f (signedOff s.dev n) (fget s.dev (RF.HST_BIND_STATUS_TDISP n)) else reply s.dev n .unexpected := by
  unfold tdisp
  rw [if_neg (by rw [up]; simp; omega)]
  cases session : (connAt s.dev n).session with
  | true => rfl
  | false => rfl

/-- A request of a TDISP row outside a session. -/
theorem tdisp_unexpected (closed : (connAt s.dev n).session = false) {c : Instr} {f : Dev → Nat → Dev}
    (runs : exec c s = perform s (fun s => tdisp s n f)) :
    ∃ t, exec c s = .next t ∧ Replied [] s t n .unexpected (connAt s.dev n) s.dev := by
  rw [perform_eq, tdisp_eq up from' known, closed, if_neg (by decide)] at runs
  exact ⟨_, runs, replied_plain (.refl n s.dev) _⟩

include isY

theorem requests_unexpected (closed : y.session = false) (c : Instr) (stream : Nat)
    (row : c ∈ [Instr.lockInterfaceRequest n stream, .startInterfaceRequest n, .stopInterfaceRequest n, .getDeviceInterfaceReport n,
      .getDeviceInterfaceState n, .getTdispVersion n, .getTdispCapabilities n]) (free : s.dev.blocked = []) :
    ∃ t, exec c s = .next t ∧ Replied [] s t n .unexpected y s.dev := by
  subst isY
  have outside := fun {c : Instr} {f : Dev → Nat → Dev} => tdisp_unexpected up from' known closed (c := c) (f := f)
  simp only [List.mem_cons, List.not_mem_nil, or_false] at row
  obtain rfl | rfl | rfl | rfl | rfl | rfl | rfl := row
  · exact outside rfl
  · exact outside rfl
  · refine ⟨_, ?_, replied_plain (.refl n s.dev) _⟩
    show execStopInterfaceRequest n s = _
    unfold execStopInterfaceRequest
    rw [perform_eq, whole_of_unblocked]
    · rw [tdisp_eq up from' known, closed, if_neg (by decide)]
    · rw [tdisp_eq up from' known, closed, if_neg (by decide)]
      exact free
  · exact outside rfl
  · exact outside rfl
  · exact outside rfl
  · exact outside rfl

variable (session : y.session = true)

include session

/-- A request within a session is answered. -/
theorem tdisp_answers {c : Instr} {f : Dev → Nat → Dev} {u : Dev} (runs : exec c s = perform s (fun s => tdisp s n f))
    (answers : f (signedOff s.dev n) (fget s.dev (RF.HST_BIND_STATUS_TDISP n)) = u) : exec c s = .next { s with dev := finish u } := by
  subst isY
  rw [perform_eq, tdisp_eq up from' known, session, if_pos rfl, answers] at runs
  exact runs

theorem interface_locked {stream : Nat} (unlocked : fget s.dev (RF.HST_BIND_STATUS_TDISP n) = 0) (flit : fget s.dev RF.HST_STATUS_FLIT256 = 1)
    (secure : stream ∈ s.dev.host.streams) :
    ∃ t, exec (.lockInterfaceRequest n stream) s = .next t ∧ fget t.dev (RF.HST_BIND_STATUS_TDISP n) = 1
      ∧ fget t.dev (RF.HST_BIND_STATUS_BOUND n) = fget s.dev (RF.HST_BIND_STATUS_BOUND n)
      ∧ Replied [Reg.HST_BIND_STATUS n] s t n .locked { y with signed := none }
          { s.dev with host := { s.dev.host with locked := tset s.dev.host.locked n stream } } := by
  have clear : fget (signedOff s.dev n) RF.HST_STATUS_FLIT256 ≠ 0 := by
    show fget s.dev RF.HST_STATUS_FLIT256 ≠ 0
    rw [flit]
    decide
  have listed : (signedOff s.dev n).host.streams.contains stream = true := List.contains_iff_mem.mpr secure
  have ran := tdisp_answers isY up from' known session (c := .lockInterfaceRequest n stream)
    (u := reply (statusSet (signedOff s.dev n) n 1 { s.dev.host with locked := tset s.dev.host.locked n stream }) n .locked) rfl
    (if_neg (by rw [unlocked, listed]; simp [clear]))
  obtain ⟨tdisp, bound⟩ := statusSet_fields (s := signedOff s.dev n) known 1 { s.dev.host with locked := tset s.dev.host.locked n stream } .locked
  exact ⟨_, ran, tdisp, bound, statusSet_replied (conned_signedOff isY) _ _ _⟩

theorem interface_started (locked : fget s.dev (RF.HST_BIND_STATUS_TDISP n) = 1) :
    ∃ t, exec (.startInterfaceRequest n) s = .next t ∧ fget t.dev (RF.HST_BIND_STATUS_TDISP n) = 2
      ∧ Replied [Reg.HST_BIND_STATUS n] s t n .started { y with signed := none } s.dev := by
  have ran := tdisp_answers isY up from' known session (c := .startInterfaceRequest n)
    (u := reply (statusSet (signedOff s.dev n) n 2 s.dev.host) n .started) rfl (if_pos locked)
  obtain ⟨tdisp, -⟩ := statusSet_fields (s := signedOff s.dev n) known 2 s.dev.host .started
  exact ⟨_, ran, tdisp, statusSet_replied (conned_signedOff isY) _ _ _⟩

theorem start_refused (locked : fget s.dev (RF.HST_BIND_STATUS_TDISP n) ≠ 1) :
    ∃ t, exec (.startInterfaceRequest n) s = .next t ∧ Replied [] s t n .tdispError { y with signed := none } s.dev :=
  ⟨_, tdisp_answers isY up from' known session rfl (if_neg locked), replied_plain (conned_signedOff isY) _⟩

/-- An interface of no instance stops at once. -/
theorem interface_stopped (free : s.dev.blocked = []) (empty : insState s.dev n = 0) :
    ∃ t, exec (.stopInterfaceRequest n) s = .next t ∧ fget t.dev (RF.HST_BIND_STATUS_TDISP n) = 0
      ∧ Replied [Reg.HST_BIND_STATUS n] s t n .stopped { y with signed := none }
          { s.dev with host := { s.dev.host with locked := tdel s.dev.host.locked n } } := by
  obtain ⟨f, isF⟩ : ∃ f : Dev → Nat → Dev, f = fun s _ =>
    if insState s n = 0 then
      (let s := fset s (RF.HST_BIND_STATUS_TDISP n) 0
       reply { s with host := { s.host with locked := tdel s.host.locked n } } n .stopped)
    else resetInstance { s with ins := { s.ins with stopping := insertNat n s.ins.stopping } } n := ⟨_, rfl⟩
  have stops : tdisp s.dev n f = reply (statusSet (signedOff s.dev n) n 0 { s.dev.host with locked := tdel s.dev.host.locked n }) n .stopped := by
    subst isY
    rw [tdisp_eq up from' known, session, if_pos rfl, isF]
    exact if_pos empty
  have ran : exec (.stopInterfaceRequest n) s = .next { s with
      dev := finish (reply (statusSet (signedOff s.dev n) n 0 { s.dev.host with locked := tdel s.dev.host.locked n }) n .stopped) } := by
    have whole : whole s.dev (fun s => tdisp s n f) = tdisp s.dev n f := whole_of_unblocked (by rw [stops]; exact free)
    rw [← stops, ← whole, isF]
    rfl
  obtain ⟨tdisp, -⟩ := statusSet_fields (s := signedOff s.dev n) known 0 { s.dev.host with locked := tdel s.dev.host.locked n } .stopped
  exact ⟨_, ran, tdisp, statusSet_replied (conned_signedOff isY) _ _ _⟩

/-- What an interface says of itself. -/
theorem interface_reports (c : Instr) (r : Reply)
    (row : (c, r) ∈ [(Instr.getDeviceInterfaceReport n, Reply.report (tgetD s.dev.ins.bar0 n 0) (tgetD s.dev.ins.bar2 n 0) 0x4000 (configDigest s.dev n)),
      (.getDeviceInterfaceState n, .ifState (fget s.dev (RF.HST_BIND_STATUS_TDISP n))), (.getTdispVersion n, .tdispVersion),
      (.getTdispCapabilities n, .tdispCapabilities)]) :
    ∃ t, exec c s = .next t ∧ Replied [] s t n r { y with signed := none } s.dev := by
  have off := conned_signedOff isY
  simp only [List.mem_cons, List.not_mem_nil, or_false, Prod.mk.injEq] at row
  obtain ⟨rfl, rfl⟩ | ⟨rfl, rfl⟩ | ⟨rfl, rfl⟩ | ⟨rfl, rfl⟩ := row
  · exact ⟨_, tdisp_answers isY up from' known session rfl rfl, replied_plain off _⟩
  · exact ⟨_, tdisp_answers isY up from' known session rfl rfl, replied_plain off _⟩
  · exact ⟨_, tdisp_answers isY up from' known session rfl rfl, replied_plain off _⟩
  · exact ⟨_, tdisp_answers isY up from' known session rfl rfl, replied_plain off _⟩

end

end Sys2Proof.Machine
end

section
/-!
SUPPORT. DOE objects (R387), and IDE streams (R390).
-/
namespace Sys2Proof.Machine

section
variable {s : State} {n : Nat} {y : SpdmConn} (isY : y = connAt s.dev n) (up : connOpen s.dev n = true) (known : n ≤ 32)

/-- An object that is discarded. -/
def discarded (s : Dev) (n : Nat) : Dev := { s with host := { s.host with doeError := tset s.host.doeError n true } }

/-- What is done with an object of a length that is legal. -/
def doeTaken (s : Dev) (n : Nat) (body : DoeBody) : Dev :=
  match body with
  | .unsupported => discarded s n
  | .discovery => reply s n (.protocols (if n = 0 then [0, 1, 2, 3] else [0, 1, 2]))
  | .cdat => if n = 0 then reply s n (.cdat [(600, 121), (750, 121)]) else discarded s n
  | .ideKm link stream go => ideKm s n link stream go

include up known

theorem exec_doeObject (len : Nat) (body : DoeBody) :
    exec (.doeObject n len body) s = .next { s with dev := finish (if len > 65536 then discarded s.dev n else doeTaken s.dev n body) } := by
  show execDoeObject n len body s = _
  unfold execDoeObject
  rw [perform_eq]
  dsimp only
  rw [if_neg (by rw [up]; simpa using known)]
  cases body with
  | unsupported => rfl
  | discovery => rfl
  | cdat => rfl
  | ideKm link stream go => rfl

theorem object_discarded (len : Nat) (body : DoeBody) (bad : 65536 < len ∨ body = .unsupported ∨ (body = .cdat ∧ n ≠ 0)) :
    ∃ t, exec (.doeObject n len body) s = .next t ∧ SameMem s.dev t.dev ∧ tget t.dev.host.doeError n = some true
      ∧ OnlyIn [] s t { s.dev with host := { s.dev.host with doeError := t.dev.host.doeError } } := by
  have ran := exec_doeObject up known len body
  have gone : (if len > 65536 then discarded s.dev n else doeTaken s.dev n body) = discarded s.dev n := by
    obtain long | rfl | ⟨rfl, other⟩ := bad
    · exact if_pos long
    · exact ite_self _
    · rw [show doeTaken s.dev n .cdat = discarded s.dev n from if_neg other]
      exact ite_self _
  rw [gone] at ran
  exact ⟨_, ran, sameMem_finish rfl, tget_tset_same _ _ _, onlyIn_finish rfl (fun _ _ _ => rfl)⟩

variable {len : Nat} (legal : len ≤ 65536)

include legal isY

/-- An object that is answered, without a change but of registers and the streams. -/
theorem object_answered {l : List Nat} {body : DoeBody} {r : Reply} {v : Dev} {h : HostPort} (answers : doeTaken s.dev n body = reply v n r)
    (shape : v = { s.dev with regs := v.regs, host := h }) (regs : ∀ o, o ∉ l → o ≠ Reg.SHC_STATUS → regRead v o = regRead s.dev o) :
    ∃ t, exec (.doeObject n len body) s = .next t ∧ t.dev = finish (reply v n r) ∧ Replied l s t n r y { s.dev with host := h } := by
  subst isY
  have conned : Conned n (connAt s.dev n) v v := by
    have same : connAt v n = connAt s.dev n := by rw [shape]; rfl
    exact same ▸ .refl n v
  have ran := exec_doeObject up known len body
  rw [if_neg (by omega), answers] at ran
  exact ⟨_, ran, rfl, conned.replied (f := { s.dev with host := h }) shape rfl rfl regs r⟩

theorem discovery_answered : ∃ t, exec (.doeObject n len .discovery) s = .next t
    ∧ Replied [] s t n (.protocols (if n = 0 then [0, 1, 2, 3] else [0, 1, 2])) y s.dev := by
  obtain ⟨t, ran, -, replied⟩ := object_answered isY up known legal (l := []) (body := .discovery) (v := s.dev) (h := s.dev.host) rfl rfl (fun _ _ _ => rfl)
  exact ⟨t, ran, replied⟩

theorem cdat_answered (first : n = 0) : ∃ t, exec (.doeObject n len .cdat) s = .next t ∧ Replied [] s t n (.cdat [(600, 121), (750, 121)]) y s.dev := by
  obtain ⟨t, ran, -, replied⟩ := object_answered isY up known legal (l := []) (body := .cdat) (v := s.dev) (h := s.dev.host) (if_pos first) rfl (fun _ _ _ => rfl)
  exact ⟨t, ran, replied⟩

variable (session : y.session = true) (flit : fget s.dev RF.HST_STATUS_FLIT256 = 1)

include session flit

omit up known legal in
theorem ideKm_eq (link : Bool) (stream : Nat) (go : Bool) : ideKm s.dev n link stream go =
    if link then reply (fset s.dev RF.HST_STATUS_IDE_LINK (b2n go)) n (.ideKm true)
    else
      let l := if go then insertNat stream s.dev.host.streams else s.dev.host.streams.filter (· != stream)
      if l.length > 8 then reply s.dev n (.ideKm false)
      else reply (showStreams { s.dev with host := { s.dev.host with streams := l } }) n (.ideKm true) := by
  unfold ideKm
  rw [← isY, session, flit]
  rfl

theorem link_keyed (stream : Nat) (go : Bool) : ∃ t, exec (.doeObject n len (.ideKm true stream go)) s = .next t
    ∧ fget t.dev RF.HST_STATUS_IDE_LINK = b2n go ∧ Replied [Reg.HST_STATUS] s t n (.ideKm true) y s.dev := by
  obtain ⟨t, ran, isT, replied⟩ := object_answered isY up known legal (l := [Reg.HST_STATUS]) (body := .ideKm true stream go)
    (v := fset s.dev RF.HST_STATUS_IDE_LINK (b2n go)) (h := s.dev.host) (ideKm_eq isY session flit true stream go) rfl
    (fun o other _ => sameRegs_fset other)
  refine ⟨t, ran, ?_, replied⟩
  rw [isT, fget_finish _ _ (by decide)]
  refine (fget_fset_same s.dev RF.HST_STATUS_IDE_LINK (b2n go) (by decide)).trans ?_
  cases go with
  | true => rfl
  | false => rfl

theorem stream_keyed (stream : Nat) (go : Bool) (l : List Nat)
    (isL : l = (if go then insertNat stream s.dev.host.streams else s.dev.host.streams.filter (· != stream))) (few : l.length ≤ 8) :
    ∃ t, exec (.doeObject n len (.ideKm false stream go)) s = .next t ∧ fget t.dev RF.HST_STATUS_IDE_STREAMS = l.length
      ∧ Replied [Reg.HST_STATUS] s t n (.ideKm true) y { s.dev with host := { s.dev.host with streams := l } } := by
  have keyed := ideKm_eq isY session flit false stream go
  dsimp only at keyed
  rw [if_neg Bool.false_ne_true, ← isL, if_neg (by omega)] at keyed
  obtain ⟨t, ran, isT, replied⟩ := object_answered isY up known legal (l := [Reg.HST_STATUS]) (body := .ideKm false stream go)
    (v := showStreams { s.dev with host := { s.dev.host with streams := l } }) (h := { s.dev.host with streams := l }) keyed rfl
    (fun o other _ => sameRegs_fset other)
  refine ⟨t, ran, ?_, replied⟩
  rw [isT, fget_finish _ _ (by decide)]
  refine (fget_fset_same { s.dev with host := { s.dev.host with streams := l } } RF.HST_STATUS_IDE_STREAMS l.length (by decide)).trans ?_
  exact Nat.mod_eq_of_lt (by show l.length < 256; omega)

end

/-! ### Integrity (R390) -/

/-- An event is counted and entered in the log. -/
theorem logEvent_leaves {o : Nat} (plain : ¬ isLogReg o) (u : Dev) (addr : Nat) :
    OnlyLog (bump u o) (logEvent u o addr) ∧ regRead (logEvent u o addr) o = (regRead u o + 1) % 2 ^ 64 := by
  have logged : OnlyLog (bump u o) (logEvent u o addr) := onlyLog_logFw _ _ _ _ _
  exact ⟨logged, (logged.regs o plain).trans (regRead_bump_same _ _)⟩

/-- A stream, or the link, enters its insecure state. -/
theorem integrity_fails {s : State} {u : Dev} {c : Instr} {streams : List Nat} (ran : exec c s = .next { s with dev := finish (logEvent u Reg.HST_CNT_IDE_FAILS 0) })
    (shape : u = { s.dev with regs := u.regs, host := { s.dev.host with streams := streams } })
    (regs : ∀ o, o ≠ Reg.HST_STATUS → regRead u o = regRead s.dev o) :
    ∃ t, exec c s = .next t ∧ SameMem s.dev t.dev ∧ regRead t.dev Reg.HST_CNT_IDE_FAILS = (regRead s.dev Reg.HST_CNT_IDE_FAILS + 1) % 2 ^ 64
      ∧ t.dev.host.streams = streams ∧ (∀ f, f.off = Reg.HST_STATUS → fget t.dev f = fget u f)
      ∧ OnlyIn ([Reg.HST_STATUS, Reg.HST_CNT_IDE_FAILS] ++ logRegs) s t
          { s.dev with host := { s.dev.host with streams := t.dev.host.streams }, log := t.dev.log,
                       flash := { s.dev.flash with romLog := t.dev.flash.romLog } } := by
  have unlogged : ∀ o, o = Reg.HST_CNT_IDE_FAILS ∨ o = Reg.HST_STATUS → ¬ isLogReg o := by
    intro o which logged
    have high := logRegs_high o (mem_logRegs.mpr logged)
    obtain rfl | rfl := which
    · exact absurd high (by decide)
    · exact absurd high (by decide)
  obtain ⟨logged, count⟩ := logEvent_leaves (unlogged _ (.inl rfl)) u 0
  have rest := logged.rest
  have flash := logged.flash
  generalize logEvent u Reg.HST_CNT_IDE_FAILS 0 = t at ran logged count rest flash
  have host : t.host = { s.dev.host with streams := streams } := by
    rw [rest, shape]
    rfl
  refine ⟨_, ran, sameMem_finish ?_, ?_, ?_, ?_, ?_⟩
  · rw [rest, shape]
    rfl
  · rw [regRead_finish _ _ (by decide), count, regs _ (by decide)]
  · rw [finish_host, host]
  · intro f own
    rw [fget_finish _ _ (by rw [own]; decide), logged.fget f (by rw [own]; exact unlogged _ (.inr rfl)), fget_bump_other _ _ _ (by rw [own]; decide)]
  · rw [withDev_dev, finish_host, finish_log, finish_flash]
    refine onlyIn_finish ?_ (fun o other shc => ?_)
    · rw [host, rest, flash, shape]
      rfl
    · rw [List.mem_append, not_or, List.mem_cons, List.mem_singleton, not_or] at other
      rw [logged.regs o (fun own => other.2 (mem_logRegs.mpr own)), regRead_bump_other _ _ _ other.1.2]
      exact regs o other.1.1

theorem stream_fails {s : State} {link : Bool} {stream : Nat}
    (secure : if link then fget s.dev RF.HST_STATUS_IDE_LINK = 1 else stream ∈ s.dev.host.streams ∧ s.dev.host.streams.length ≤ 255) :
    ∃ t, exec (.ideIntegrityFailure link stream) s = .next t ∧ SameMem s.dev t.dev
      ∧ regRead t.dev Reg.HST_CNT_IDE_FAILS = (regRead s.dev Reg.HST_CNT_IDE_FAILS + 1) % 2 ^ 64
      ∧ (link = true → fget t.dev RF.HST_STATUS_IDE_LINK = 0 ∧ t.dev.host.streams = s.dev.host.streams)
      ∧ (link = false → stream ∉ t.dev.host.streams ∧ fget t.dev RF.HST_STATUS_IDE_STREAMS = t.dev.host.streams.length
          ∧ fget t.dev RF.HST_STATUS_IDE_LINK = fget s.dev RF.HST_STATUS_IDE_LINK)
      ∧ OnlyIn ([Reg.HST_STATUS, Reg.HST_CNT_IDE_FAILS] ++ logRegs) s t
          { s.dev with host := { s.dev.host with streams := t.dev.host.streams }, log := t.dev.log,
                       flash := { s.dev.flash with romLog := t.dev.flash.romLog } } := by
  cases link with
  | true =>
    rw [if_pos rfl] at secure
    have ran : exec (.ideIntegrityFailure true stream) s
        = .next { s with dev := finish (logEvent (fset s.dev RF.HST_STATUS_IDE_LINK 0) Reg.HST_CNT_IDE_FAILS 0) } := by
      show execIdeIntegrityFailure true stream s = _
      unfold execIdeIntegrityFailure
      rw [perform_eq, if_pos rfl, if_neg (by rw [secure]; decide)]
    obtain ⟨t, ran, mem, count, streams, fields, only⟩ := integrity_fails ran (streams := s.dev.host.streams) rfl
      (fun o other => regRead_fset_other _ _ _ _ other)
    refine ⟨t, ran, mem, count, fun _ => ⟨?_, streams⟩, fun no => absurd no (by decide), only⟩
    exact (fields _ rfl).trans (fget_fset_same _ _ _ (by decide))
  | false =>
    rw [if_neg (by decide)] at secure
    obtain ⟨listed, few⟩ := secure
    obtain ⟨u, isU⟩ : ∃ u, u = showStreams { s.dev with host := { s.dev.host with streams := s.dev.host.streams.filter (· != stream) } } := ⟨_, rfl⟩
    have ran : exec (.ideIntegrityFailure false stream) s = .next { s with dev := finish (logEvent u Reg.HST_CNT_IDE_FAILS 0) } := by
      show execIdeIntegrityFailure false stream s = _
      unfold execIdeIntegrityFailure
      rw [perform_eq, if_neg (by decide), List.contains_iff_mem.mpr listed, isU]
      rfl
    obtain ⟨t, ran, mem, count, streams, fields, only⟩ := integrity_fails ran (streams := s.dev.host.streams.filter (· != stream)) (by rw [isU]; rfl)
      (fun o other => by rw [isU]; exact regRead_fset_other _ _ _ _ other)
    refine ⟨t, ran, mem, count, fun no => absurd no (by decide), fun _ => ⟨?_, ?_, ?_⟩, only⟩
    · rw [streams]
      simp
    · rw [fields _ rfl, streams, isU]
      refine (fget_fset_same _ RF.HST_STATUS_IDE_STREAMS _ (by decide)).trans (Nat.mod_eq_of_lt ?_)
      exact Nat.lt_of_le_of_lt (List.length_filter_le _ _) (Nat.lt_of_le_of_lt few (by decide))
    · rw [fields _ rfl, isU]
      exact fget_fset_apart _ _ (by decide) (.inr (by decide))

end Sys2Proof.Machine
end

section
/-!
SUPPORT. What becomes of an instance's frames (R405, R408): their bytes, their lines, and what waits for their controllers.
-/
namespace Sys2Proof.Machine

theorem cellGet_filter_kept {p : Nat → Bool} {a : Nat} (kept : p a = true) (l : List Host.Cell) :
    cellGet (l.filter (fun c => p c.1)) a = cellGet l a := by
  induction l with
  | nil => rfl
  | cons c l ih =>
    by_cases own : c.1 = a
    · have stays : p c.1 = true := own ▸ kept
      rw [List.filter_cons_of_pos (p := fun c : Host.Cell => p c.1) stays]
      simp only [cellGet, own, if_true]
    · by_cases stays : p c.1 = true
      · rw [List.filter_cons_of_pos (p := fun c : Host.Cell => p c.1) stays]
        simp only [cellGet, own, if_false]
        exact ih
      · rw [List.filter_cons_of_neg (p := fun c : Host.Cell => p c.1) stays]
        simp only [cellGet, own, if_false]
        exact ih

theorem dramByte_dramZeroFrame_other (d : Dram) {f a : Nat} (other : a / 2 ^ 21 ≠ f) : dramByte (dramZeroFrame d f) a = dramByte d a := by
  have cells : cellGet (d.cells.filter (fun c => c.1 / 2 ^ 21 != f)) a = cellGet d.cells a :=
    cellGet_filter_kept (p := fun a => a / 2 ^ 21 != f) (by simpa using other) _
  unfold dramByte
  rw [show (dramZeroFrame d f).cells = d.cells.filter (fun c => c.1 / 2 ^ 21 != f) from rfl, cells]
  exact congrArg _ (dramDefault_tdel _ _ _ other)

theorem dramByte_dramScrambleFrame_other (d : Dram) {f g a : Nat} (other : a / 2 ^ 21 ≠ f) :
    dramByte (dramScrambleFrame d f g) a = dramByte d a := by
  have cells : cellGet (d.cells.filter (fun c => c.1 / 2 ^ 21 != f)) a = cellGet d.cells a :=
    cellGet_filter_kept (p := fun a => a / 2 ^ 21 != f) (by simpa using other) _
  unfold dramByte
  rw [show (dramScrambleFrame d f g).cells = d.cells.filter (fun c => c.1 / 2 ^ 21 != f) from rfl, cells]
  exact congrArg _ (dramDefault_tset _ _ _ _ other)

/-- Slices' counts, lines, what waits for controllers, and the marks of held lines may differ. -/
structure Swept (s t : Dev) : Prop where
  regs : ∀ o, o < 0x150400 ∨ 0x150560 ≤ o → regRead t o = regRead s o
  rest : t = { s with
    regs := t.regs, shore := { s.shore with lines := t.shore.lines }, mem := { s.mem with writes := t.mem.writes, wcb := t.mem.wcb },
    dram := { s.dram with held := t.dram.held } }

namespace Swept

variable {s t u : Dev}

theorem refl (s : Dev) : Swept s s := ⟨fun _ _ => rfl, rfl⟩

theorem trans (h : Swept s t) (k : Swept t u) : Swept s u := by
  refine ⟨fun o apart => (k.regs o apart).trans (h.regs o apart), ?_⟩
  rw [k.rest, h.rest]

theorem bytes (h : Swept s t) (a : Nat) : dramByte t.dram a = dramByte s.dram a := by
  rw [h.rest]
  rfl

theorem fget (h : Swept s t) {f : Fld} (apart : f.off < 0x150400 ∨ 0x150560 ≤ f.off) : fget t f = Machine.fget s f :=
  congrArg (fun v => bitsOf v f.lo f.width) (h.regs f.off apart)

end Swept

/-- A line leaves its slice without being written back. -/
def loseLine (s : Dev) (p : Nat × Line) : Dev :=
  dropLine (if p.2.dirty then fadj s (RF.SHC_SLICE_STATUS_DIRTY_LINES (sliceOf s p.1)) (-1) else s) p.1

theorem loseLine_swept (s : Dev) (p : Nat × Line) : Swept s (loseLine s p) := by
  have place : Reg.SHC_SLICE_STATUS (sliceOf s p.1) = 0x150400 + 8 * sliceOf s p.1 := rfl
  have slice := sliceOf_lt s p.1
  unfold loseLine
  split
  · refine ⟨fun o apart => ?_, rfl⟩
    refine regRead_fset_other _ _ _ _ ?_
    show o ≠ Reg.SHC_SLICE_STATUS (sliceOf s p.1)
    omega
  · exact ⟨fun _ _ => rfl, rfl⟩

theorem lineAt_loseLine (s : Dev) (p : Nat × Line) (k : Nat) : lineAt (loseLine s p) k = if k = p.1 then none else lineAt s k := by
  have lines : (loseLine s p).shore.lines = tdel s.shore.lines p.1 := by
    unfold loseLine
    split
    · rfl
    · rfl
  unfold lineAt
  rw [lines]
  split
  · next own =>
    subst own
    exact tget_tdel_same _ _
  · next other => exact tget_tdel_other _ _ _ other

theorem loseLine_all (l : List (Nat × Line)) (s : Dev) :
    Swept s (l.foldl loseLine s) ∧ ∀ k, lineAt (l.foldl loseLine s) k = if ∃ p ∈ l, p.1 = k then none else lineAt s k := by
  induction l generalizing s with
  | nil => exact ⟨.refl s, fun _ => by simp⟩
  | cons p l ih =>
    obtain ⟨step, lines⟩ := ih (loseLine s p)
    refine ⟨(loseLine_swept s p).trans step, fun k => ?_⟩
    rw [List.foldl_cons, lines, lineAt_loseLine]
    by_cases later : ∃ q ∈ l, q.1 = k
    · obtain ⟨q, inside, own⟩ := later
      rw [if_pos ⟨q, inside, own⟩, if_pos ⟨q, List.mem_cons_of_mem _ inside, own⟩]
    · rw [if_neg later]
      by_cases own : k = p.1
      · rw [if_pos own, if_pos ⟨p, List.mem_cons_self, own.symm⟩]
      · rw [if_neg own, if_neg]
        rintro ⟨q, inside, key⟩
        obtain rfl | more := List.mem_cons.mp inside
        · exact own key.symm
        · exact later ⟨q, more, key⟩

/-- The lines of a frame that are lost leave their slices. -/
theorem loseLines_all (s : Dev) (fr : Nat) :
    Swept s (dropFrameLines s fr false) ∧ ∀ k, lineAt (dropFrameLines s fr false) k = if k / 2 ^ 15 = fr then none else lineAt s k := by
  have whole : dropFrameLines s fr false = (s.shore.lines.filter (fun p => p.1 / 2 ^ 15 == fr)).foldl loseLine s := rfl
  obtain ⟨step, lines⟩ := loseLine_all (s.shore.lines.filter (fun p => p.1 / 2 ^ 15 == fr)) s
  rw [whole]
  refine ⟨step, fun k => ?_⟩
  rw [lines]
  split
  · next named =>
    obtain ⟨p, member, key⟩ := named
    have frame : p.1 / 2 ^ 15 = fr := by simpa using (List.mem_filter.mp member).2
    rw [if_pos (by rw [← key, frame])]
  · next unnamed =>
    split
    · next frame =>
      cases here : lineAt s k with
      | none => rfl
      | some l => exact absurd ⟨(k, l), List.mem_filter.mpr ⟨mem_of_tget here, by simpa using frame⟩, rfl⟩ unnamed
    · rfl

/-- A frame with no entry in the directory is cleared (R405). -/
theorem clearFrame_swept {s : Dev} {fr : Nat} (free : ∀ k ∈ tkeys s.shore.dir, k / 2 ^ 15 ≠ fr) :
    Swept s (clearFrame s fr) ∧ ∀ k, lineAt (clearFrame s fr) k = if k / 2 ^ 15 = fr then none else lineAt s k := by
  obtain ⟨step, lines⟩ := loseLines_all s fr
  have whole : clearFrame s fr = { dropWrites (dropFrameLines s fr false) fr with
      dram := { (dropWrites (dropFrameLines s fr false) fr).dram with
        held := (dropWrites (dropFrameLines s fr false) fr).dram.held.filter (fun l => l / 2 ^ 15 != fr) } } := by
    unfold clearFrame
    rw [freeEntries_none free]
  rw [whole]
  refine ⟨step.trans ⟨fun _ _ => rfl, rfl⟩, fun k => ?_⟩
  exact lines k

theorem clearFrame_all {l : List Nat} {s : Dev} (free : ∀ k ∈ tkeys s.shore.dir, k / 2 ^ 15 ∉ l) : Swept s (l.foldl clearFrame s) := by
  induction l generalizing s with
  | nil => exact .refl s
  | cons fr l ih =>
    have apart := fun k (listed : k ∈ tkeys s.shore.dir) => not_or.mp (fun own => free k listed (List.mem_cons.mpr own))
    have step := (clearFrame_swept (fun k listed => (apart k listed).1)).1
    have dir : (clearFrame s fr).shore.dir = s.shore.dir := by rw [step.rest]
    exact step.trans (ih (fun k listed => (apart k (dir ▸ listed)).2))

end Sys2Proof.Machine
end

section
/-!
SUPPORT. What an instance reset leaves (R408): the frame of its steps, and the objects that go.
-/
namespace Sys2Proof.Machine

/-- A register of the host port or of the instances, but for the quotas. -/
def ResetReg (o : Nat) : Prop := 0x1A0000 ≤ o ∧ o < 0x1C0000 ∧ o % 64 ≠ 0x18

/-- Steps of a reset keep the registers of the instances but those of `m`, and the bytes of every frame but those of `l`. -/
structure Tidied (m l : List Nat) (s t : Dev) : Prop where
  regs : ∀ o, ResetReg o → o ∉ m → regRead t o = regRead s o
  bytes : ∀ a, a / 2 ^ 21 ∉ l → dramByte t.dram a = dramByte s.dram a
  rest : t = { s with
    regs := t.regs, iregs := t.iregs, free := t.free, cores := t.cores, shore := { s.shore with lines := t.shore.lines }, mem := t.mem,
    dram := t.dram, xl := t.xl, ins := { s.ins with exports := t.ins.exports, after := t.ins.after, unfilled := t.ins.unfilled }, fe := t.fe,
    fab := { s.fab with groups := t.fab.groups, sends := t.fab.sends }, log := t.log, flash := t.flash }

namespace Tidied

variable {m l : List Nat} {s t u : Dev}

theorem refl (m l : List Nat) (s : Dev) : Tidied m l s s := ⟨fun _ _ _ => rfl, fun _ _ => rfl, rfl⟩

theorem trans (h : Tidied m l s t) (k : Tidied m l t u) : Tidied m l s u := by
  refine ⟨fun o named other => (k.regs o named other).trans (h.regs o named other), fun a other => (k.bytes a other).trans (h.bytes a other), ?_⟩
  rw [k.rest, h.rest]

theorem mono {m' l' : List Nat} (h : Tidied m l s t) (regs : m ⊆ m') (frames : l ⊆ l') : Tidied m' l' s t :=
  ⟨fun o named other => h.regs o named (fun own => other (regs own)), fun a other => h.bytes a (fun own => other (frames own)), h.rest⟩

theorem fget (h : Tidied m l s t) {f : Fld} (named : ResetReg f.off) (other : f.off ∉ m) : fget t f = Machine.fget s f :=
  congrArg (fun v => bitsOf v f.lo f.width) (h.regs f.off named other)

/-- A field of another register. -/
theorem fset (s : Dev) (m l : List Nat) (f : Fld) (v : Nat) (apart : ¬ ResetReg f.off ∨ f.off ∈ m) : Tidied m l s (fset s f v) := by
  refine ⟨fun o named other => regRead_fset_other _ _ _ _ ?_, fun _ _ => rfl, rfl⟩
  rintro rfl
  exact apart.elim (fun no => no named) other

theorem regWrite (s : Dev) (m l : List Nat) {o : Nat} (v : Nat) (apart : ¬ ResetReg o ∨ o ∈ m) : Tidied m l s (regWrite s o v) := by
  refine ⟨fun o' named other => regRead_regWrite_other _ _ _ _ ?_, fun _ _ => rfl, rfl⟩
  rintro rfl
  exact apart.elim (fun no => no named) other

theorem of_swept (h : Swept s t) (m l : List Nat) : Tidied m l s t := by
  refine ⟨fun o named _ => h.regs o (.inr ?_), fun a _ => h.bytes a, ?_⟩
  · have low := named.1
    omega
  · rw [h.rest]

theorem of_log (h : OnlyLog s t) (m l : List Nat) : Tidied m l s t := by
  refine ⟨fun o named _ => h.regs o ?_, fun a _ => by rw [h.rest], ?_⟩
  · intro logged
    have high := logRegs_high o (mem_logRegs.mpr logged)
    have low := named.2.1
    omega
  · rw [h.rest]

theorem of_sessions (h : SessionsOnly s t) (m l : List Nat) : Tidied m l s t := by
  obtain ⟨⟨regs, sessions, cache, shape⟩, others⟩ := h
  refine ⟨fun o named _ => others o ?_ ?_, fun a _ => by rw [shape], by rw [shape]⟩
  · intro own
    have small : ∀ o ∈ sessionRegs, o < 0x1A0000 := by decide
    have := small o own
    have low := named.1
    omega
  · rintro rfl
    exact absurd named.1 (by decide)

end Tidied

theorem resetReg_insStatus {i : Nat} (known : i ≤ 32) : ResetReg (Reg.INS_STATUS i) := by
  have place : Reg.INS_STATUS i = 0x1B0000 + 64 * i + 0x00 := rfl
  unfold ResetReg
  omega

theorem resetReg_insCount {i : Nat} (known : i ≤ 32) : ResetReg (Reg.INS_CNT_RESETS i) := by
  have place : Reg.INS_CNT_RESETS i = 0x1B0000 + 64 * i + 0x28 := rfl
  unfold ResetReg
  omega

theorem resetReg_bindStatus {i : Nat} (known : i ≤ 32) : ResetReg (Reg.HST_BIND_STATUS i) := by
  have place : Reg.HST_BIND_STATUS i = 0x1A0100 + 64 * i + 0x00 := rfl
  unfold ResetReg
  omega

theorem not_resetReg_low {o : Nat} (low : o < 0x1A0000) : ¬ ResetReg o := fun named => by
  have := named.1
  omega

theorem not_resetReg_quota (i : Nat) : ¬ ResetReg (Reg.INS_QUOTA i) := by
  intro named
  have place : Reg.INS_QUOTA i = 0x1B0000 + 64 * i + 0x18 := rfl
  have apart := named.2.2
  omega

/-! ### Rings -/

section
variable {i : Nat}

/-- Rings of an instance go, with their commands. -/
theorem dropRings_all {l : List Nat} (own : ∀ k ∈ l, k / 4096 = i) (s : Dev) :
    Tidied [] [] s (l.foldl dropRing s)
      ∧ (∀ k, ringAt (l.foldl dropRing s) k = if k ∈ l then none else ringAt s k)
      ∧ (l.foldl dropRing s).fe.sessions = s.fe.sessions ∧ (l.foldl dropRing s).fe.bindings = s.fe.bindings
      ∧ (l.foldl dropRing s).fe.store = s.fe.store.filter (fun e => decide (ringKey e.inst e.ring ∉ l)) := by
  induction l generalizing s with
  | nil =>
    refine ⟨.refl _ _ s, fun k => ?_, rfl, rfl, ?_⟩
    · rw [if_neg List.not_mem_nil]
      rfl
    · simp
  | cons k l ih =>
    obtain ⟨tidied, rings, sessions, bindings, store⟩ := ih (fun k inside => own k (List.mem_cons_of_mem _ inside)) (dropRing s k)
    obtain ⟨regs, shape⟩ := dropRing_shape s k
    have step : Tidied [] [] s (dropRing s k) := by
      refine ⟨fun o named _ => ?_, fun _ _ => by rw [shape], by rw [shape]⟩
      unfold dropRing showRings
      rw [own k List.mem_cons_self]
      have status : o ≠ 0x180000 := by
        have low := named.1
        omega
      have quota : o ≠ Reg.INS_QUOTA i := by
        rintro rfl
        exact not_resetReg_quota i named
      rw [regRead_fset_other _ _ _ _ status, regRead_fset_other _ _ _ _ quota]
      rfl
    rw [List.foldl_cons]
    refine ⟨step.trans tidied, fun j => ?_, sessions.trans (by rw [shape]), bindings.trans (by rw [shape]), ?_⟩
    · have first : ringAt (dropRing s k) j = if j = k then none else ringAt s j := by
        unfold ringAt
        rw [shape]
        split
        · next here =>
          subst here
          exact tget_tdel_same _ _
        · next other => exact tget_tdel_other _ _ _ other
      rw [rings, first]
      by_cases later : j ∈ l
      · rw [if_pos later, if_pos (List.mem_cons_of_mem _ later)]
      · rw [if_neg later]
        by_cases here : j = k
        · rw [if_pos here, if_pos (here ▸ List.mem_cons_self)]
        · rw [if_neg here, if_neg (fun inside => (List.mem_cons.mp inside).elim here later)]
    · rw [store, shape, List.filter_filter]
      refine List.filter_congr (fun e _ => ?_)
      rw [Bool.eq_iff_iff]
      simp [and_comm]

/-! ### Sessions -/

theorem sessions_putSession_closed (s : Dev) (n : Nat) {x : Session} (closed : x.state = .closed) :
    (putSession s n x).fe.sessions = tdel s.fe.sessions n := by
  unfold putSession
  dsimp only
  rw [if_pos closed]
  split
  · rfl
  · rfl

/-- Sessions that are closed leave the table. -/
theorem closeSessions_all {l : List (Nat × Session)} (s : Dev) (i : Nat) :
    SessionsOnly s (l.foldl (fun s p => putSession s p.1 (Session.closed i)) s)
      ∧ (l.foldl (fun s p => putSession s p.1 (Session.closed i)) s).fe.sessions = s.fe.sessions.filter (fun q => decide (q.1 ∉ l.map (·.1))) := by
  induction l generalizing s with
  | nil => exact ⟨.refl s, by simp⟩
  | cons p l ih =>
    obtain ⟨only, sessions⟩ := ih (putSession s p.1 (Session.closed i))
    have table : (putSession s p.1 (Session.closed i)).fe.sessions = tdel s.fe.sessions p.1 := sessions_putSession_closed s p.1 rfl
    refine ⟨(sessionsOnly_putSession _ _ _).trans only, ?_⟩
    rw [List.foldl_cons, sessions, table, tdel, List.filter_filter]
    refine List.filter_congr (fun q _ => ?_)
    rw [Bool.eq_iff_iff]
    simp [and_comm]

end

end Sys2Proof.Machine
end

section
/-!
SUPPORT. The objects that an instance reset clears (R408, step 5), and its earlier steps.
-/
namespace Sys2Proof.Machine

section
variable {i : Nat} (known : i ≤ 32)

/-- The sessions of an instance leave the table. -/
theorem sessions_closed (s : Dev) (i : Nat) :
    ∀ q ∈ ((s.fe.sessions.filter (fun p => p.2.inst == i)).foldl (fun s p => putSession s p.1 (Session.closed i)) s).fe.sessions, q.2.inst ≠ i := by
  obtain ⟨-, sessions⟩ := closeSessions_all (l := s.fe.sessions.filter (fun p => p.2.inst == i)) s i
  intro q inside own
  rw [sessions] at inside
  obtain ⟨member, stays⟩ := List.mem_filter.mp inside
  have listed : q.1 ∈ (s.fe.sessions.filter (fun p => p.2.inst == i)).map (·.1) :=
    List.mem_map_of_mem (List.mem_filter.mpr ⟨member, by simpa using own⟩)
  exact absurd listed (by simpa using stays)

/-- The module once the rings, sessions, bindings and commands of an instance are gone. -/
def objectsGone (s : Dev) (i : Nat) : Dev :=
  let r := ((tkeys s.fe.rings).filter (fun k => k / 4096 == i)).foldl dropRing s
  let c := (r.fe.sessions.filter (fun p => p.2.inst == i)).foldl (fun s p => putSession s p.1 (Session.closed i)) r
  { c with fe := { c.fe with bindings := tfilter c.fe.bindings (fun _ b => b.inst != i), store := c.fe.store.filter (fun e => e.inst != i) } }

/-- What is left of the objects of an instance, and of the others. -/
structure Emptied (i : Nat) (s t : Dev) : Prop where
  tidied : Tidied [] [] s t
  ins : t.ins = s.ins
  sessions : ∀ p ∈ t.fe.sessions, p.2.inst ≠ i
  bindings : ∀ p ∈ t.fe.bindings, p.2.inst ≠ i
  ringsOwn : ∀ k, k / 4096 = i → ringAt t k = none
  ringsOthers : ∀ k, k / 4096 ≠ i → ringAt t k = ringAt s k
  store : ∃ p : StoreEntry → Bool, t.fe.store = s.fe.store.filter p ∧ ∀ e, e.inst ≠ i → ringKey e.inst e.ring / 4096 ≠ i → p e = true

theorem objectsGone_emptied (s : Dev) (i : Nat) : Emptied i s (objectsGone s i) := by
  obtain ⟨l, isL⟩ : ∃ l, l = (tkeys s.fe.rings).filter (fun k => k / 4096 == i) := ⟨_, rfl⟩
  have own : ∀ k ∈ l, k / 4096 = i := fun k inside => by
    rw [isL] at inside
    simpa using (List.mem_filter.mp inside).2
  obtain ⟨dropped, rings, sessions, bindings, store⟩ := dropRings_all own s
  obtain ⟨only, -⟩ := closeSessions_all (l := (l.foldl dropRing s).fe.sessions.filter (fun p => p.2.inst == i)) (l.foldl dropRing s) i
  have none' := sessions_closed (l.foldl dropRing s) i
  have ins : (l.foldl dropRing s).ins = s.ins := by
    refine List.foldlRecOn (motive := fun t : Dev => t.ins = s.ins) _ _ rfl (fun t same k _ => ?_)
    obtain ⟨regs, shape⟩ := dropRing_shape t k
    rw [shape]
    exact same
  have whole : objectsGone s i = (fun c : Dev => { c with fe := { c.fe with
      bindings := tfilter c.fe.bindings (fun _ b => b.inst != i), store := c.fe.store.filter (fun e => e.inst != i) } })
      (((l.foldl dropRing s).fe.sessions.filter (fun p => p.2.inst == i)).foldl (fun s p => putSession s p.1 (Session.closed i)) (l.foldl dropRing s)) := by
    rw [isL]
    rfl
  rw [whole]
  generalize l.foldl dropRing s = r at dropped rings sessions bindings store only none' ins
  generalize (r.fe.sessions.filter (fun p => p.2.inst == i)).foldl (fun s p => putSession s p.1 (Session.closed i)) r = c at only none'
  have tidied : Tidied [] [] s c := dropped.trans (.of_sessions only _ _)
  obtain ⟨⟨regs, sessions', cache, shape⟩, -⟩ := only
  have ringsC : ∀ k, ringAt c k = ringAt r k := fun k => by rw [shape]; rfl
  refine ⟨tidied.trans ⟨fun _ _ _ => rfl, fun _ _ => rfl, rfl⟩, ?_, none', ?_, fun k here => ?_, fun k other => ?_, ?_⟩
  · show c.ins = s.ins
    rw [shape]
    exact ins
  · intro p inside
    simpa using (List.mem_filter.mp inside).2
  · show ringAt c k = none
    rw [ringsC, rings]
    split
    · rfl
    · next absent =>
      cases found : tget s.fe.rings k with
      | none => exact found
      | some rg =>
        refine absurd ?_ absent
        rw [isL]
        exact List.mem_filter.mpr ⟨List.mem_map_of_mem (mem_of_tget found), by simpa using here⟩
  · show ringAt c k = _
    rw [ringsC, rings, if_neg (fun inside => other (own k inside))]
  · refine ⟨fun e => decide (ringKey e.inst e.ring ∉ l) && (e.inst != i), ?_, fun e other apart => ?_⟩
    · show c.fe.store.filter (fun e => e.inst != i) = _
      have kept : c.fe.store = r.fe.store := by rw [shape]
      rw [kept, store, List.filter_filter]
      refine List.filter_congr (fun e _ => ?_)
      rw [Bool.and_comm]
    · simp only [Bool.and_eq_true, decide_eq_true_eq, bne_iff_ne, ne_eq]
      exact ⟨fun inside => apart (own _ inside), other⟩

theorem Emptied.step {s t u : Dev} (h : Emptied i s t) (tidied : Tidied [] [] t u) (ins : u.ins = t.ins) (fe : u.fe = t.fe) : Emptied i s u := by
  obtain ⟨before, ins', sessions, bindings, ringsOwn, ringsOthers, store⟩ := h
  have rings : ∀ k, ringAt u k = ringAt t k := fun k => by
    unfold ringAt
    rw [fe]
  exact ⟨before.trans tidied, ins.trans ins', fe ▸ sessions, fe ▸ bindings, fun k own => (rings k).trans (ringsOwn k own),
    fun k other => (rings k).trans (ringsOthers k other), fe ▸ store⟩

/-- The fault table of an instance is gone. -/
def faultsGone (s : Dev) (i : Nat) : Dev := { s with xl := { s.xl with insts := tdel s.xl.insts i } }

/-- The registers of an instance's window that name objects read 0. -/
def windowGone (s : Dev) (i : Nat) : Dev :=
  [Reg.WCH_BOOT_RING, Reg.WCH_BOOT_CPL, Reg.WCH_BOOT_WATCH, Reg.WCH_BOOT_CTL, Reg.HST_BAR2_VA].foldl (fun s r => winWrite s i r 0) s

theorem clearObjects_eq (s : Dev) (i : Nat) : clearObjects s i = windowGone
    (regWrite (regWrite (faultsGone (dropBuffered (showBindings (objectsGone s i) i) i true 0 0) i) (Reg.FLT_RING i) 0) (Reg.TRN_ROOT i) 0) i := rfl

section
variable {s t : Dev} (h : Emptied i s t)

include h

theorem Emptied.showBindings : Emptied i s (showBindings t i) := by
  unfold Machine.showBindings
  exact h.step (.fset _ [] [] _ _ (.inl (not_resetReg_quota i))) rfl rfl

theorem Emptied.dropBuffered : Emptied i s (dropBuffered t i true 0 0) := h.step ⟨fun _ _ _ => rfl, fun _ _ => rfl, rfl⟩ rfl rfl

theorem Emptied.faultsGone : Emptied i s (faultsGone t i) := h.step ⟨fun _ _ _ => rfl, fun _ _ => rfl, rfl⟩ rfl rfl

theorem Emptied.regWrite {o : Nat} (low : o < 0x1A0000) (v : Nat) : Emptied i s (regWrite t o v) :=
  h.step (.regWrite t [] [] v (.inl (not_resetReg_low low))) rfl rfl

theorem Emptied.windowGone : Emptied i s (windowGone t i) := by
  obtain ⟨iregs, shape⟩ : ∃ iregs, Machine.windowGone t i = { t with iregs := iregs } := ⟨_, rfl⟩
  rw [shape]
  exact h.step ⟨fun _ _ _ => rfl, fun _ _ => rfl, rfl⟩ rfl rfl

end

include known in
theorem clearObjects_emptied (s : Dev) : Emptied i s (clearObjects s i) := by
  have fault : Reg.FLT_RING i < 0x1A0000 := by
    show 0x171000 + 64 * i < 0x1A0000
    omega
  have root : Reg.TRN_ROOT i < 0x1A0000 := by
    show 0x170000 + 64 * i < 0x1A0000
    omega
  rw [clearObjects_eq]
  exact ((((objectsGone_emptied s i).showBindings.dropBuffered.faultsGone).regWrite fault 0).regWrite root 0).windowGone

/-! ### Earlier steps -/

/-- The communicators of an instance are gone. -/
def commsGone (s : Dev) (i : Nat) : Dev :=
  (s.fab.comms.filter (fun p => p.2.inst == i)).foldl (fun s p =>
    let s := (List.range p.2.colls.length).foldl (fun s _ => failColl s p.1 ePeerGone) s
    { s with fab := { s.fab with comms := tdel s.fab.comms p.1 } }) s

/-- Its journal is gone. -/
def journalGone (s : Dev) (i : Nat) : Dev :=
  let s := fset (fset s (RF.SES_JNL_STATUS_MODE i) 0) (RF.SES_JNL_STATUS_HELD i) 0
  { s with fe := { s.fe with journals := tdel s.fe.journals i } }

include known in
/-- Exports, multicasts and the journal of an instance without communicators end (step 3). -/
theorem endFabricOf_leaves {s : Dev} (idle : s.fab.comms = []) :
    Tidied [] [] s (endFabricOf s i) ∧ (endFabricOf s i).ins = { s.ins with exports := tfilter s.ins.exports (fun _ x => x.inst != i) }
      ∧ (∃ journals, (endFabricOf s i).fe = { s.fe with journals := journals }) ∧ (endFabricOf s i).shore = s.shore := by
  obtain ⟨u, isU⟩ : ∃ u : Dev, u = { s with
    ins := { s.ins with exports := tfilter s.ins.exports (fun _ x => x.inst != i) },
    fab := { s.fab with groups := tfilter s.fab.groups (fun k _ => k / 256 != i), sends := tfilter s.fab.sends (fun _ o => o.inst != i) } } := ⟨_, rfl⟩
  have whole : endFabricOf s i = journalGone u i := by
    have idle' : u.fab.comms.filter (fun p => p.2.inst == i) = [] := by
      rw [isU]
      show s.fab.comms.filter _ = []
      rw [idle]
      rfl
    have split' : endFabricOf s i = journalGone (commsGone u i) i := by
      rw [isU]
      rfl
    rw [split', commsGone, idle']
    rfl
  have status : ¬ ResetReg (Reg.SES_JNL_STATUS i) := not_resetReg_low (by
    have place : Reg.SES_JNL_STATUS i = 0x181000 + 32 * i := rfl
    omega)
  have ended : Tidied [] [] s u := by
    rw [isU]
    exact ⟨fun _ _ _ => rfl, fun _ _ => rfl, rfl⟩
  have stopped := (ended.trans (.fset u [] [] (RF.SES_JNL_STATUS_MODE i) 0 (.inl status))).trans (.fset _ [] [] (RF.SES_JNL_STATUS_HELD i) 0 (.inl status))
  rw [whole]
  refine ⟨stopped.trans ⟨fun _ _ _ => rfl, fun _ _ => rfl, rfl⟩, ?_, ⟨tdel u.fe.journals i, ?_⟩, ?_⟩
  · show u.ins = _
    rw [isU]
  · show { u.fe with journals := tdel u.fe.journals i } = _
    rw [isU]
  · show u.shore = _
    rw [isU]

/-- A new key (R402). -/
theorem newKey_leaves (s : Dev) (i : Nat) :
    OnlyLog (fset s (RF.INS_STATUS_KEY_GEN i) (fget s (RF.INS_STATUS_KEY_GEN i) + 1)) (newKey s i) := onlyLog_logAdd _ _ _ _ _ _ _ _ _

/-- The frames of an instance are under another key. -/
def scrambled (s : Dev) (l : List Nat) : Dev := l.foldl (fun s fr => { s with dram := dramScrambleFrame s.dram fr s.free, free := s.free + 1 }) s

theorem scrambled_leaves (l : List Nat) (s : Dev) :
    (∃ dram free, scrambled s l = { s with dram := dram, free := free }) ∧ Tidied [] l s (scrambled s l) := by
  induction l generalizing s with
  | nil => exact ⟨⟨_, _, rfl⟩, .refl _ _ s⟩
  | cons fr l ih =>
    obtain ⟨⟨dram, free, shape⟩, tidied⟩ := ih { s with dram := dramScrambleFrame s.dram fr s.free, free := s.free + 1 }
    refine ⟨⟨dram, free, shape⟩, ?_⟩
    have first : Tidied [] (fr :: l) s { s with dram := dramScrambleFrame s.dram fr s.free, free := s.free + 1 } :=
      ⟨fun _ _ _ => rfl, fun a other => dramByte_dramScrambleFrame_other _ (List.ne_of_not_mem_cons other), rfl⟩
    exact first.trans (tidied.mono (List.Subset.refl _) (List.subset_cons_self _ _))

end

end Sys2Proof.Machine
end

section
/-!
SUPPORT. An instance reset of which nothing is under way (R408): its beginning, and what it leaves of the instance.
-/
namespace Sys2Proof.Machine

/-- Nothing of an instance is under way that a reset would end first. -/
structure ResetIdle (s : Dev) : Prop where
  disp : s.disp = []
  moves : s.mem.moves = []
  invals : s.xl.invals = []
  comms : s.fab.comms = []
  traces : s.traces = []
  dir : s.shore.dir = []
  txn : s.shore.txn = []
  begun : ∀ e ∈ s.fe.store, e.phase ≠ 1

section
variable {i : Nat} {s : Dev}

theorem begunFor_none (begun : ∀ e ∈ s.fe.store, e.phase ≠ 1) (op : Nat) : begunFor s op i = [] := by
  unfold begunFor
  rw [List.map_eq_nil_iff, List.filter_eq_nil_iff]
  intro e inside
  simp [begun e inside]

theorem settleInstance_eq (idle : ResetIdle s) :
    settleInstance s i = fset (fset s (RF.TRN_STATUS_INVALIDATES_BUSY i) 0) (RF.TRN_STATUS_PIN_BUSY i) 0 := by
  unfold settleInstance
  rw [begunFor_none idle.begun, List.foldl_nil]
  dsimp only
  rw [idle.moves, List.filter_nil, List.foldl_nil, idle.invals]
  rfl

/-- The islands of an instance have no line in their cores' L1. -/
def l1Cleared (s : Dev) (i : Nat) : Dev :=
  (heldIslands s i).foldl (fun s isl => (List.range 4).foldl (fun s c => modCore s (4 * isl + c) (fun x => { x with l1 := [] })) s) s

theorem l1Cleared_shape (s : Dev) (i : Nat) : ∃ cores, l1Cleared s i = { s with cores := cores } := by
  refine List.foldlRecOn (motive := fun t : Dev => ∃ cores, t = { s with cores := cores }) _ _ ⟨_, rfl⟩ ?_
  rintro t ⟨cores, rfl⟩ isl _
  refine List.foldlRecOn (motive := fun t : Dev => ∃ cores, t = { s with cores := cores }) _ _ ⟨_, rfl⟩ ?_
  rintro t ⟨cores, rfl⟩ c _
  exact ⟨_, rfl⟩

theorem stopWork_eq (idle : s.disp = []) : stopWork s i = dropFaults (l1Cleared s i) i := by
  unfold stopWork
  rw [idle]
  rfl

theorem endTraces_none (untraced : s.traces = []) {state : Nat} : endTraces s i state = s := by
  unfold endTraces
  rw [untraced]
  rfl

theorem regRead_fset_state (s : Dev) (i : Nat) : regRead (fset s (RF.INS_STATUS_STATE i) 4) (Reg.INS_STATUS i)
    = setBits (regRead s (Reg.INS_STATUS i)) 0 3 4 % 2 ^ 64 := regRead_regWrite_same s (Reg.INS_STATUS i) _

variable (known : i ≤ 32)

include known

theorem dropFaults_tidied (s : Dev) : Tidied [] [] s (dropFaults s i) ∧ (dropFaults s i).ins = s.ins ∧ (dropFaults s i).fe = s.fe
    ∧ (dropFaults s i).traces = s.traces := by
  have fault : ¬ ResetReg (Reg.FLT_STATUS i) := not_resetReg_low (by
    show 0x171008 + 64 * i < 0x1A0000
    omega)
  have status : ¬ ResetReg (Reg.TRN_STATUS i) := not_resetReg_low (by
    show 0x170008 + 64 * i < 0x1A0000
    omega)
  obtain ⟨u, isU⟩ : ∃ u, u = modFlt { s with xl := { s.xl with recs := tfilter s.xl.recs (fun _ r => r.inst != i) } } i
    (fun f => { f with openTick := none, waitedFull := false }) := ⟨_, rfl⟩
  have changed : Tidied [] [] s u := by
    rw [isU]
    exact ⟨fun _ _ _ => rfl, fun _ _ => rfl, rfl⟩
  have kept : u.ins = s.ins ∧ u.fe = s.fe ∧ u.traces = s.traces := by
    rw [isU]
    exact ⟨rfl, rfl, rfl⟩
  have whole : dropFaults s i = showStalled (fset (fset u (RF.FLT_STATUS_OPEN_RECORDS i) 0) (RF.FLT_STATUS_UNRESUMED i) 0) i := by
    rw [isU]
    rfl
  rw [whole]
  unfold showStalled
  exact ⟨((changed.trans (.fset u [] [] (RF.FLT_STATUS_OPEN_RECORDS i) 0 (.inl fault))).trans (.fset _ [] [] (RF.FLT_STATUS_UNRESUMED i) 0 (.inl fault))).trans
    (.fset _ [] [] (RF.TRN_STATUS_STALLED_ENGINES i) _ (.inl status)), kept⟩

/-- The instance is Resetting. -/
def resetMarked (s : Dev) (i : Nat) : Dev := fset (settleInstance s i) (RF.INS_STATUS_STATE i) 4

theorem resetMarked_leaves (idle : ResetIdle s) :
    Tidied [Reg.INS_STATUS i] [] s (resetMarked s i) ∧ (∃ regs, resetMarked s i = { s with regs := regs })
      ∧ regRead (resetMarked s i) (Reg.INS_STATUS i) = regRead (fset s (RF.INS_STATUS_STATE i) 4) (Reg.INS_STATUS i) := by
  have status : ¬ ResetReg (Reg.TRN_STATUS i) := not_resetReg_low (by
    show 0x170008 + 64 * i < 0x1A0000
    omega)
  have settled : Tidied [] [] s (settleInstance s i) := by
    rw [settleInstance_eq idle]
    exact (Tidied.fset s [] [] (RF.TRN_STATUS_INVALIDATES_BUSY i) 0 (.inl status)).trans (.fset _ [] [] (RF.TRN_STATUS_PIN_BUSY i) 0 (.inl status))
  have same : regRead (settleInstance s i) (Reg.INS_STATUS i) = regRead s (Reg.INS_STATUS i) :=
    settled.regs _ (resetReg_insStatus known) List.not_mem_nil
  obtain ⟨regs, shape⟩ : ∃ regs, settleInstance s i = { s with regs := regs } := by
    rw [settleInstance_eq idle]
    exact ⟨_, rfl⟩
  refine ⟨?_, ?_, ?_⟩
  · exact (settled.mono (List.nil_subset _) (List.Subset.refl _)).trans (.fset _ _ [] (RF.INS_STATUS_STATE i) 4 (.inr (List.mem_singleton_self _)))
  · unfold resetMarked
    rw [shape]
    exact ⟨_, rfl⟩
  · unfold resetMarked
    rw [regRead_fset_state, regRead_fset_state, same]

omit known in
theorem beginReset_eq (s : Dev) : beginReset s i = endTraces ((instCores (stopWork (resetMarked s i) i) i).foldl
    (fun s c => modCore s c (fun x => { x with wb := [] })) (stopWork (resetMarked s i) i)) i 3 := by
  unfold beginReset resetMarked
  rfl

omit known in
/-- The writes of cores are lost, and no trace ends. -/
theorem writes_lost {d : Dev} (traces : d.traces = []) (l : List Nat) : ∃ t,
    endTraces (l.foldl (fun s c => modCore s c (fun x => { x with wb := [] })) d) i 3 = t ∧ Tidied [] [] d t ∧ t.ins = d.ins ∧ t.fe = d.fe := by
  obtain ⟨cores, shape⟩ := foldl_modCore_shape (fun x => { x with wb := [] }) l d
  rw [shape]
  exact ⟨{ d with cores := cores }, endTraces_none (s := { d with cores := cores }) traces, ⟨fun _ _ _ => rfl, fun _ _ => rfl, rfl⟩, rfl, rfl⟩

omit known in
theorem l1Cleared_tidied (s : Dev) : Tidied [] [] s (l1Cleared s i) ∧ (l1Cleared s i).ins = s.ins ∧ (l1Cleared s i).fe = s.fe
    ∧ (l1Cleared s i).traces = s.traces := by
  obtain ⟨cores, shape⟩ := l1Cleared_shape s i
  rw [shape]
  exact ⟨⟨fun _ _ _ => rfl, fun _ _ => rfl, rfl⟩, rfl, rfl, rfl⟩

/-- What was under way of an instance without a dispatch or a trace is stopped. -/
theorem stopped_leaves {b : Dev} (disp : b.disp = []) (traces : b.traces = []) : ∃ t,
    endTraces ((instCores (stopWork b i) i).foldl (fun s c => modCore s c (fun x => { x with wb := [] })) (stopWork b i)) i 3 = t
      ∧ Tidied [] [] b t ∧ t.ins = b.ins ∧ t.fe = b.fe := by
  obtain ⟨cleared, insC, feC, tracesC⟩ := l1Cleared_tidied (i := i) b
  obtain ⟨dropped, insD, feD, tracesD⟩ := dropFaults_tidied known (l1Cleared b i)
  rw [stopWork_eq disp]
  obtain ⟨t, ends, path, insE, feE⟩ := writes_lost (i := i) (tracesD.trans (tracesC.trans traces)) (instCores (dropFaults (l1Cleared b i) i) i)
  exact ⟨t, ends, (cleared.trans dropped).trans path, insE.trans (insD.trans insC), feE.trans (feD.trans feC)⟩

/-- A reset begins: the instance is Resetting, and the rest of what identifies it stays. -/
theorem beginReset_leaves (idle : ResetIdle s) :
    Tidied [Reg.INS_STATUS i] [] s (beginReset s i) ∧ (beginReset s i).ins = s.ins ∧ (beginReset s i).fe = s.fe
      ∧ regRead (beginReset s i) (Reg.INS_STATUS i) = regRead (fset s (RF.INS_STATUS_STATE i) 4) (Reg.INS_STATUS i) := by
  obtain ⟨marked, ⟨regs, shape⟩, status⟩ := resetMarked_leaves known idle
  have kept : (resetMarked s i).disp = [] ∧ (resetMarked s i).traces = [] ∧ (resetMarked s i).ins = s.ins ∧ (resetMarked s i).fe = s.fe := by
    rw [shape]
    exact ⟨idle.disp, idle.traces, rfl, rfl⟩
  obtain ⟨disp, traces, ins, fe⟩ := kept
  obtain ⟨t, stops, path, ins', fe'⟩ := stopped_leaves known disp traces
  rw [beginReset_eq, stops]
  exact ⟨marked.trans (path.mono (List.nil_subset _) (List.Subset.refl _)), ins'.trans ins, fe'.trans fe,
    (path.regs _ (resetReg_insStatus known) List.not_mem_nil).trans status⟩

end

end Sys2Proof.Machine
end

section
/-!
SUPPORT. The end of an instance reset (R408, steps 3 to 6).
-/
namespace Sys2Proof.Machine

/-- An instance without its objects, its frames under a new key. -/
def emptied (s : Dev) (i : Nat) : Dev :=
  clearObjects (scrambled (newKey ((framesOf s i).foldl clearFrame (endFabricOf s i)) i) (framesOf s i)) i

/-- The instance serves again, or takes an image. -/
def renewed (s : Dev) (i after : Nat) : Dev :=
  let un := if after = 2 then insertNat i s.ins.unfilled else s.ins.unfilled.filter (· != i)
  let s := { s with ins := { s.ins with after := tdel s.ins.after i, unfilled := un } }
  let s := fset s (RF.INS_STATUS_STATE i) (if after = 2 then 3 else 1)
  if after = 2 then s else fset s (RF.INS_STATUS_RESTORE_TARGET i) 0

/-- The reset is counted, and entered in the log. -/
def resetCounted (s : Dev) (i : Nat) : Dev :=
  logAdd (bump s (Reg.INS_CNT_RESETS i)) 5 0 0 15 (Reg.INS_CNT_RESETS i) i (regRead s (Reg.INS_CNT_RESETS i))
    (regRead (bump s (Reg.INS_CNT_RESETS i)) (Reg.INS_CNT_RESETS i))

/-- The commands that waited for the reset complete. -/
def commandsEnded (s : Dev) (i : Nat) : Dev :=
  let s := (begunFor s 0x94 i ++ begunFor s 0x93 i).foldl (fun s k => completeKey s k Ret.ok) s
  (begunFor s 0x98 i).foldl (fun s k => completeKey s k { Ret.ok with status := eAuth }) s

/-- An interface that was to stop is unlocked, and its request answered. -/
def interfaceEnded (s : Dev) (i : Nat) : Dev :=
  if s.ins.stopping.contains i then
    let s := fset s (RF.HST_BIND_STATUS_TDISP i) 0
    { s with
      ins := { s.ins with stopping := s.ins.stopping.filter (· != i) }, out := s.out ++ [.mailbox i .stopped],
      host := { s.host with locked := tdel s.host.locked i } }
  else s

theorem endReset_eq (s : Dev) (i : Nat) : ∃ u, u = resetCounted (renewed (emptied s i) i (tgetD (emptied s i).ins.after i 0)) i
    ∧ endReset s i = interfaceEnded (commandsEnded (if tgetD (emptied s i).ins.after i 0 = 1 then destroyInstance u i else u) i) i := by
  unfold endReset
  extract_lets frames keyed coded cleared after un ins running marked serving off old counted logged gone done ret failed unlocked
  have isCleared : cleared = emptied s i := rfl
  clear_value cleared
  rw [← isCleared]
  have isServing : serving = renewed cleared i after := rfl
  clear_value serving
  have isLogged : logged = resetCounted serving i := rfl
  clear_value logged
  have isGone : gone = if after = 1 then destroyInstance logged i else logged := rfl
  clear_value gone
  have isFailed : failed = commandsEnded gone i := rfl
  clear_value failed
  refine ⟨logged, isServing ▸ isLogged, ?_⟩
  rw [← isGone, ← isFailed]
  rfl

/-- What a reset leaves of an instance before commands complete. -/
structure Reborn (i : Nat) (s t : Dev) : Prop where
  tidied : Tidied [Reg.INS_STATUS i, Reg.INS_CNT_RESETS i] (framesOf s i) s t
  state : insState t i = 1
  key : fget t (RF.INS_STATUS_KEY_GEN i) = (fget s (RF.INS_STATUS_KEY_GEN i) + 1) % 2 ^ 16
  count : regRead t (Reg.INS_CNT_RESETS i) = (regRead s (Reg.INS_CNT_RESETS i) + 1) % 2 ^ 64
  sessions : ∀ p ∈ t.fe.sessions, p.2.inst ≠ i
  bindings : ∀ p ∈ t.fe.bindings, p.2.inst ≠ i
  exports : ∀ p ∈ t.ins.exports, p.2.inst ≠ i
  ringsOwn : ∀ k, k / 4096 = i → ringAt t k = none
  ringsOthers : ∀ k, k / 4096 ≠ i → ringAt t k = ringAt s k

/-- Of the commands in the store only some of the instance's are gone. -/
def StoreKept (i : Nat) (s t : Dev) : Prop :=
  ∃ p : StoreEntry → Bool, t.fe.store = s.fe.store.filter p ∧ ∀ e, e.inst ≠ i → ringKey e.inst e.ring / 4096 ≠ i → p e = true

section
variable {i : Nat} (known : i ≤ 32) {s : Dev}

include known

/-- The steps up to the clearing of objects. -/
theorem emptied_leaves (comms : s.fab.comms = []) (dir : s.shore.dir = []) :
    Tidied [Reg.INS_STATUS i] (framesOf s i) s (emptied s i)
      ∧ regRead (emptied s i) (Reg.INS_STATUS i) = regRead (fset s (RF.INS_STATUS_KEY_GEN i) (fget s (RF.INS_STATUS_KEY_GEN i) + 1)) (Reg.INS_STATUS i)
      ∧ (emptied s i).ins = { s.ins with exports := tfilter s.ins.exports (fun _ x => x.inst != i) }
      ∧ (∀ p ∈ (emptied s i).fe.sessions, p.2.inst ≠ i) ∧ (∀ p ∈ (emptied s i).fe.bindings, p.2.inst ≠ i)
      ∧ (∀ k, k / 4096 = i → ringAt (emptied s i) k = none) ∧ (∀ k, k / 4096 ≠ i → ringAt (emptied s i) k = ringAt s k)
      ∧ StoreKept i s (emptied s i) := by
  have own := resetReg_insStatus known
  obtain ⟨fabric, insA, ⟨journals, feA⟩, shoreA⟩ := endFabricOf_leaves known comms
  unfold emptied
  generalize framesOf s i = l
  generalize endFabricOf s i = a at fabric insA feA shoreA
  have swept : Swept a (l.foldl clearFrame a) := clearFrame_all (fun k listed => by rw [shoreA, dir] at listed; cases listed)
  have keptB : (l.foldl clearFrame a).ins = a.ins ∧ (l.foldl clearFrame a).fe = a.fe := by
    rw [swept.rest]
    exact ⟨rfl, rfl⟩
  generalize l.foldl clearFrame a = b at swept keptB
  have keyed := newKey_leaves b i
  have keptC : (newKey b i).ins = b.ins ∧ (newKey b i).fe = b.fe := by
    rw [keyed.rest]
    exact ⟨rfl, rfl⟩
  have logged : Tidied [Reg.INS_STATUS i] l b (newKey b i) :=
    (Tidied.fset b _ l (RF.INS_STATUS_KEY_GEN i) _ (.inr (List.mem_singleton_self _))).trans (.of_log keyed _ _)
  have statusC : regRead (newKey b i) (Reg.INS_STATUS i)
      = regRead (fset b (RF.INS_STATUS_KEY_GEN i) (fget b (RF.INS_STATUS_KEY_GEN i) + 1)) (Reg.INS_STATUS i) := by
    refine keyed.regs _ (fun named => ?_)
    have high := logRegs_high _ (mem_logRegs.mpr named)
    have low := own.2.1
    omega
  generalize newKey b i = c at keyed keptC logged statusC
  obtain ⟨⟨dram, free, shapeD⟩, scrambles⟩ := scrambled_leaves l c
  have keptD : (scrambled c l).ins = c.ins ∧ (scrambled c l).fe = c.fe := by
    rw [shapeD]
    exact ⟨rfl, rfl⟩
  generalize scrambled c l = d at scrambles keptD
  obtain ⟨cleared, insE, sessions, bindings, ringsOwn, ringsOthers, store⟩ := clearObjects_emptied known d
  generalize clearObjects d i = t at cleared insE sessions bindings ringsOwn ringsOthers store
  have fe : d.fe = { s.fe with journals := journals } := keptD.2.trans (keptC.2.trans (keptB.2.trans feA))
  have before : Tidied [] [] s b := fabric.trans (.of_swept swept _ _)
  have after : Tidied [] l c t := scrambles.trans (cleared.mono (List.Subset.refl _) (List.nil_subset _))
  have same : regRead b (Reg.INS_STATUS i) = regRead s (Reg.INS_STATUS i) := before.regs _ own List.not_mem_nil
  have written : ∀ (t : Dev) v, regRead (fset t (RF.INS_STATUS_KEY_GEN i) v) (Reg.INS_STATUS i) = setBits (regRead t (Reg.INS_STATUS i)) 16 16 v % 2 ^ 64 :=
    fun t v => regRead_regWrite_same t (Reg.INS_STATUS i) _
  refine ⟨((before.mono (List.nil_subset _) (List.nil_subset _)).trans logged).trans (after.mono (List.nil_subset _) (List.Subset.refl _)), ?_, ?_,
    sessions, bindings, ringsOwn, fun k other => (ringsOthers k other).trans ?_, ?_⟩
  · rw [after.regs _ own List.not_mem_nil, statusC, written, written, same, before.fget (f := RF.INS_STATUS_KEY_GEN i) own List.not_mem_nil]
  · rw [insE, keptD.1, keptC.1, keptB.1, insA]
  · unfold ringAt
    rw [fe]
  · unfold StoreKept
    rw [fe] at store
    exact store

omit known in
/-- The instance serves, under the key that it has. -/
theorem renewed_leaves (e : Dev) {after : Nat} (serves : after ≠ 2) (l : List Nat) :
    Tidied [Reg.INS_STATUS i] l e (renewed e i after) ∧ (renewed e i after).fe = e.fe ∧ (renewed e i after).ins.exports = e.ins.exports
      ∧ (renewed e i after).ins.after = tdel e.ins.after i ∧ insState (renewed e i after) i = 1
      ∧ fget (renewed e i after) (RF.INS_STATUS_KEY_GEN i) = fget e (RF.INS_STATUS_KEY_GEN i) := by
  obtain ⟨a, isA⟩ : ∃ a : Dev, a = { e with ins := { e.ins with after := tdel e.ins.after i, unfilled := e.ins.unfilled.filter (· != i) } } := ⟨_, rfl⟩
  have whole : renewed e i after = fset (fset a (RF.INS_STATUS_STATE i) 1) (RF.INS_STATUS_RESTORE_TARGET i) 0 := by
    unfold renewed
    dsimp only
    rw [if_neg serves, if_neg serves, if_neg serves, isA]
  have marked : Tidied [Reg.INS_STATUS i] l e a := by
    rw [isA]
    exact ⟨fun _ _ _ => rfl, fun _ _ => rfl, rfl⟩
  have inA : a.fe = e.fe ∧ a.ins.exports = e.ins.exports ∧ a.ins.after = tdel e.ins.after i ∧ a.regs = e.regs := by
    rw [isA]
    exact ⟨rfl, rfl, rfl, rfl⟩
  obtain ⟨fe, exports, left, regs⟩ := inA
  rw [whole]
  have own : (RF.INS_STATUS_STATE i).off ∈ [Reg.INS_STATUS i] := List.mem_singleton_self _
  refine ⟨(marked.trans (.fset a _ _ (RF.INS_STATUS_STATE i) 1 (.inr own))).trans (.fset _ _ _ (RF.INS_STATUS_RESTORE_TARGET i) 0 (.inr own)),
    fe, exports, left, ?_, ?_⟩
  · refine (fget_fset_apart _ _ (Nat.le_of_ble_eq_true rfl) (.inr (.inl (Nat.le_of_ble_eq_true rfl)))).trans ?_
    exact fget_fset_same _ _ _ (Nat.le_of_ble_eq_true rfl)
  · rw [fget_fset_apart _ _ (Nat.le_of_ble_eq_true rfl) (.inr (.inr (Nat.le_of_ble_eq_true rfl))),
      fget_fset_apart _ _ (Nat.le_of_ble_eq_true rfl) (.inr (.inr (Nat.le_of_ble_eq_true rfl))), fget_congr regs]

omit known in
theorem not_log_of_reset {o : Nat} (named : ResetReg o) : ¬ isLogReg o := fun log => by
  have high := logRegs_high o (mem_logRegs.mpr log)
  have low := named.2.1
  omega

/-- A reset is counted. -/
theorem resetCounted_leaves (b : Dev) (l : List Nat) :
    Tidied [Reg.INS_CNT_RESETS i] l b (resetCounted b i) ∧ (resetCounted b i).fe = b.fe ∧ (resetCounted b i).ins = b.ins
      ∧ regRead (resetCounted b i) (Reg.INS_CNT_RESETS i) = (regRead b (Reg.INS_CNT_RESETS i) + 1) % 2 ^ 64 := by
  have logged : OnlyLog (bump b (Reg.INS_CNT_RESETS i)) (resetCounted b i) := onlyLog_logAdd _ _ _ _ _ _ _ _ _
  refine ⟨(Tidied.regWrite b _ _ _ (.inr (List.mem_singleton_self _))).trans (.of_log logged _ _), ?_, ?_, ?_⟩
  · rw [logged.rest]
    rfl
  · rw [logged.rest]
    rfl
  · rw [logged.regs _ (not_log_of_reset (resetReg_insCount known)), regRead_bump_same]

/-- The instance, renewed and counted, is reborn. -/
theorem reborn (comms : s.fab.comms = []) (dir : s.shore.dir = []) {after : Nat} (serves : after ≠ 2) :
    Reborn i s (resetCounted (renewed (emptied s i) i after) i) ∧ StoreKept i s (resetCounted (renewed (emptied s i) i after) i)
      ∧ (resetCounted (renewed (emptied s i) i after) i).ins.after = tdel s.ins.after i := by
  have own := resetReg_insStatus known
  have ownCount := resetReg_insCount known
  have apart : Reg.INS_STATUS i ≠ Reg.INS_CNT_RESETS i := by
    show 0x1B0000 + 64 * i + 0x00 ≠ 0x1B0000 + 64 * i + 0x28
    omega
  obtain ⟨tidied, status, ins, sessions, bindings, ringsOwn, ringsOthers, store⟩ := emptied_leaves known comms dir
  obtain ⟨served, feB, exportsB, afterB, stateB, keyB⟩ := renewed_leaves (i := i) (emptied s i) serves (framesOf s i)
  obtain ⟨counted, feT, insT, countT⟩ := resetCounted_leaves known (renewed (emptied s i) i after) (framesOf s i)
  generalize emptied s i = e at *
  generalize renewed e i after = b at *
  generalize resetCounted b i = t at *
  have fe : t.fe = e.fe := feT.trans feB
  have rings : ∀ k, ringAt t k = ringAt e k := fun k => by
    unfold ringAt
    rw [fe]
  have unmarked : ∀ o, o = Reg.INS_STATUS i → o ∉ [Reg.INS_CNT_RESETS i] := fun o is named => apart (is.symm.trans (List.mem_singleton.mp named))
  have uncounted : ∀ o, o = Reg.INS_CNT_RESETS i → o ∉ [Reg.INS_STATUS i] := fun o is named => apart ((List.mem_singleton.mp named).symm.trans is)
  have key : fget e (RF.INS_STATUS_KEY_GEN i) = (fget s (RF.INS_STATUS_KEY_GEN i) + 1) % 2 ^ 16 :=
    (congrArg (fun v => bitsOf v 16 16) status).trans (fget_fset_same s (RF.INS_STATUS_KEY_GEN i) _ (Nat.le_of_ble_eq_true rfl))
  have path : Tidied [Reg.INS_STATUS i] (framesOf s i) s b := tidied.trans served
  refine ⟨⟨?_, ?_, ?_, ?_, fe ▸ sessions, fe ▸ bindings, ?_, fun k here => (rings k).trans (ringsOwn k here),
    fun k other => (rings k).trans (ringsOthers k other)⟩, ?_, ?_⟩
  · exact (path.mono (by simp) (List.Subset.refl _)).trans (counted.mono (by simp) (List.Subset.refl _))
  · exact (counted.fget (f := RF.INS_STATUS_STATE i) own (unmarked _ rfl)).trans stateB
  · exact (counted.fget (f := RF.INS_STATUS_KEY_GEN i) own (unmarked _ rfl)).trans (keyB.trans key)
  · rw [countT, path.regs _ ownCount (uncounted _ rfl)]
  · intro p inside
    rw [insT, exportsB, ins] at inside
    simpa using (List.mem_filter.mp inside).2
  · unfold StoreKept
    rw [fe]
    exact store
  · rw [insT, afterB, ins]

end

end Sys2Proof.Machine
end

section
/-!
SUPPORT. A reset of which nothing is under way ends at once (R408, R409).
-/
namespace Sys2Proof.Machine

theorem Tidied.framesOf {m l : List Nat} {s t : Dev} (h : Tidied m l s t) (i : Nat) : framesOf t i = framesOf s i := by
  unfold Machine.framesOf
  rw [h.rest]

/-- What went before a reset may have made the instance Resetting. -/
theorem Reborn.before {i : Nat} (known : i ≤ 32) {s w t : Dev} (h : Reborn i w t) (path : Tidied [Reg.INS_STATUS i] [] s w)
    (rings : w.fe.rings = s.fe.rings) (key : fget w (RF.INS_STATUS_KEY_GEN i) = fget s (RF.INS_STATUS_KEY_GEN i)) : Reborn i s t := by
  obtain ⟨tidied, state, key', count, sessions, bindings, exports, ringsOwn, ringsOthers⟩ := h
  rw [path.framesOf i] at tidied
  have apart : Reg.INS_CNT_RESETS i ∉ [Reg.INS_STATUS i] := by
    have place : Reg.INS_STATUS i = 0x1B0000 + 64 * i + 0x00 := rfl
    have place' : Reg.INS_CNT_RESETS i = 0x1B0000 + 64 * i + 0x28 := rfl
    rw [List.mem_singleton]
    omega
  refine ⟨(path.mono (by simp) (List.nil_subset _)).trans tidied, state, key'.trans (by rw [key]), ?_, sessions, bindings, exports, ringsOwn,
    fun k other => (ringsOthers k other).trans ?_⟩
  · rw [count, path.regs _ (resetReg_insCount known) apart]
  · unfold ringAt
    rw [rings]

section
variable {i : Nat} {s : Dev}

/-- Where no entry of the directory is left, a reset in progress ends. -/
theorem goReset_ends (resetting : insState s i = 4) (dir : s.shore.dir = []) (txn : s.shore.txn = []) : goReset s i = endReset s i := by
  unfold goReset
  rw [if_neg (not_not.mpr resetting), dir, txn]
  exact if_pos rfl

variable (known : i ≤ 32)

include known

/-- A reset of an idle instance has begun. -/
theorem beginReset_resets (idle : ResetIdle s) : insState (beginReset s i) i = 4
    ∧ fget (beginReset s i) (RF.INS_STATUS_KEY_GEN i) = fget s (RF.INS_STATUS_KEY_GEN i) := by
  obtain ⟨-, -, -, status⟩ := beginReset_leaves known idle
  refine ⟨(congrArg (fun v => bitsOf v 0 3) status).trans (fget_fset_same s (RF.INS_STATUS_STATE i) 4 (Nat.le_of_ble_eq_true rfl)), ?_⟩
  exact (congrArg (fun v => bitsOf v 16 16) status).trans
    (fget_fset_apart s (f := RF.INS_STATUS_KEY_GEN i) (g := RF.INS_STATUS_STATE i) 4 (Nat.le_of_ble_eq_true rfl) (.inr (.inr (Nat.le_of_ble_eq_true rfl))))

/-- A reset that no command waits for. -/
theorem resetInstance_reborn (idle : ResetIdle s) (served : insState s i ≠ 4) (none' : tget s.ins.after i = none) :
    ∃ t, resetInstance s i = interfaceEnded t i ∧ Reborn i s t ∧ t.ins.after = tdel s.ins.after i := by
  obtain ⟨path, ins, fe, -⟩ := beginReset_leaves known idle
  obtain ⟨resetting, key⟩ := beginReset_resets known idle
  have whole : resetInstance s i = goReset (beginReset s i) i := by
    unfold resetInstance
    rw [if_neg served]
  rw [whole]
  generalize beginReset s i = w at path ins fe resetting key
  have comms : w.fab.comms = [] := by
    rw [path.rest]
    exact idle.comms
  have dir : w.shore.dir = [] := by
    rw [path.rest]
    exact idle.dir
  have txn : w.shore.txn = [] := by
    rw [path.rest]
    exact idle.txn
  obtain ⟨-, -, emptiedIns, -⟩ := emptied_leaves known comms dir
  have after : tgetD (emptied w i).ins.after i 0 = 0 := by
    rw [emptiedIns, ins]
    unfold tgetD
    show (tget s.ins.after i).getD 0 = 0
    rw [none']
    rfl
  obtain ⟨u, isU, ends⟩ := endReset_eq w i
  rw [after] at isU ends
  obtain ⟨born, ⟨p, store, -⟩, left⟩ := reborn known comms dir (after := 0) (by decide)
  rw [← isU] at born store left
  have unbegun : ∀ e ∈ u.fe.store, e.phase ≠ 1 := fun e inside => by
    rw [store, fe] at inside
    exact idle.begun e (List.mem_filter.mp inside).1
  have quiet : commandsEnded u i = u := by
    unfold commandsEnded
    rw [begunFor_none unbegun, begunFor_none unbegun]
    dsimp only [List.nil_append, List.foldl_nil]
    rw [begunFor_none unbegun]
    rfl
  refine ⟨u, ?_, born.before known path (by rw [fe]) key, left.trans (by rw [ins])⟩
  rw [goReset_ends resetting dir txn, ends, if_neg (by decide), quiet]

end

end Sys2Proof.Machine
end

section
/-!
SUPPORT. An interface that is asked to stop while its instance exists (R388).
-/
namespace Sys2Proof.Machine

theorem ResetIdle.congr {s t : Dev} (h : ResetIdle s) (disp : t.disp = s.disp) (mem : t.mem = s.mem) (xl : t.xl = s.xl) (fab : t.fab = s.fab)
    (traces : t.traces = s.traces) (shore : t.shore = s.shore) (fe : t.fe = s.fe) : ResetIdle t := by
  obtain ⟨a, b, c, d, e, f, g, k⟩ := h
  exact ⟨disp.trans a, by rw [mem, b], by rw [xl, c], by rw [fab, d], traces.trans e, by rw [shore, f], by rw [shore, g], by rw [fe]; exact k⟩

/-- An interface that was to stop has stopped. -/
theorem interfaceEnded_stops {t : Dev} {i : Nat} (asked : i ∈ t.ins.stopping) :
    fget (interfaceEnded t i) (RF.HST_BIND_STATUS_TDISP i) = 0 ∧ insState (interfaceEnded t i) i = insState t i
      ∧ tget (interfaceEnded t i).host.locked i = none ∧ (interfaceEnded t i).fe = t.fe
      ∧ (interfaceEnded t i).out = t.out ++ [.mailbox i .stopped] ∧ (interfaceEnded t i).blocked = t.blocked := by
  unfold interfaceEnded
  rw [if_pos (List.contains_iff_mem.mpr asked)]
  refine ⟨fget_fset_same t (RF.HST_BIND_STATUS_TDISP i) 0 (Nat.le_of_ble_eq_true rfl), ?_, tget_tdel_same _ _, rfl, rfl, rfl⟩
  refine fget_fset_reg t (RF.HST_BIND_STATUS_TDISP i) (RF.INS_STATUS_STATE i) 0 ?_
  show 0x1B0000 + 64 * i + 0x00 ≠ 0x1A0100 + 64 * i + 0x00
  omega

section
variable {s : State} {n : Nat} {y : SpdmConn} (isY : y = connAt s.dev n) (up : connOpen s.dev n = true) (from' : 1 ≤ n) (known : n ≤ 32)
  (session : y.session = true)

include isY up from' known session

theorem interface_reset (free : s.dev.blocked = []) (exists' : insState s.dev n ≠ 0) (served : insState s.dev n ≠ 4)
    (none' : tget s.dev.ins.after n = none) (idle : ResetIdle s.dev) :
    ∃ t, exec (.stopInterfaceRequest n) s = .next t ∧ fget t.dev (RF.HST_BIND_STATUS_TDISP n) = 0 ∧ insState t.dev n = 1
      ∧ tget t.dev.host.locked n = none ∧ (∀ p ∈ t.dev.fe.sessions, p.2.inst ≠ n) ∧ ∃ l, t.dev.out = l ++ [.mailbox n .stopped] := by
  obtain ⟨f, isF⟩ : ∃ f : Dev → Nat → Dev, f = fun s _ =>
    if insState s n = 0 then
      (let s := fset s (RF.HST_BIND_STATUS_TDISP n) 0
       reply { s with host := { s.host with locked := tdel s.host.locked n } } n .stopped)
    else resetInstance { s with ins := { s.ins with stopping := insertNat n s.ins.stopping } } n := ⟨_, rfl⟩
  obtain ⟨v, isV⟩ : ∃ v : Dev, v = { signedOff s.dev n with
    ins := { (signedOff s.dev n).ins with stopping := insertNat n (signedOff s.dev n).ins.stopping } } := ⟨_, rfl⟩
  have stops : tdisp s.dev n f = resetInstance v n := by
    subst isY
    rw [tdisp_eq up from' known, session, if_pos rfl, isF, isV]
    exact if_neg exists'
  have idleV : ResetIdle v := by
    rw [isV]
    exact idle.congr rfl rfl rfl rfl rfl rfl rfl
  have inV : insState v n = insState s.dev n ∧ v.ins.after = s.dev.ins.after ∧ v.blocked = s.dev.blocked ∧ v.ins.stopping = insertNat n s.dev.ins.stopping := by
    rw [isV]
    exact ⟨rfl, rfl, rfl, rfl⟩
  obtain ⟨stateV, afterV, blockedV, stoppingV⟩ := inV
  obtain ⟨u, resets, born, -⟩ := resetInstance_reborn known idleV (by rw [stateV]; exact served) (by rw [afterV]; exact none')
  have asked : n ∈ u.ins.stopping := by
    rw [born.tidied.rest]
    show n ∈ v.ins.stopping
    rw [stoppingV]
    exact mem_insertNat.mpr (.inl rfl)
  obtain ⟨unlocked, state, unbound, fe, out, blocked⟩ := interfaceEnded_stops asked
  have freeU : (interfaceEnded u n).blocked = [] := by
    rw [blocked, born.tidied.rest]
    exact blockedV.trans free
  have ran : exec (.stopInterfaceRequest n) s = .next { s with dev := finish (interfaceEnded u n) } := by
    have whole : whole s.dev (fun s => tdisp s n f) = tdisp s.dev n f := whole_of_unblocked (by rw [stops, resets]; exact freeU)
    rw [← resets, ← stops, ← whole, isF]
    rfl
  have sessions : ∀ p ∈ (interfaceEnded u n).fe.sessions, p.2.inst ≠ n := by
    rw [fe]
    exact born.sessions
  have state' := state.trans born.state
  generalize interfaceEnded u n = t at ran unlocked state' unbound sessions out
  refine ⟨{ s with dev := finish t }, ran, ?_, ?_, ?_, ?_, ?_⟩
  · refine (fget_finish t (RF.HST_BIND_STATUS_TDISP n) ?_).trans unlocked
    show 0x1A0100 + 64 * n + 0x00 ≠ 0x150000
    omega
  · refine (fget_finish t (RF.INS_STATUS_STATE n) ?_).trans state'
    show 0x1B0000 + 64 * n + 0x00 ≠ 0x150000
    omega
  · rw [withDev_dev, finish_host]
    exact unbound
  · rw [withDev_dev, finish_fe]
    exact sessions
  · rw [withDev_dev, finish_out]
    exact ⟨_, out⟩

end

end Sys2Proof.Machine
end

section
/-!
PROOF. SPDM, TDISP, DOE and IDE.
-/
namespace Sys2Proof.Machine

/-- Settles O55: a connection's rows answer as the lemma of each says, and a reset of an idle instance ends at once. -/
theorem mailboxes : Obligations.Mailboxes := by
  unfold Obligations.Mailboxes
  intro s n y isY up
  refine ⟨?early, ?spdm, ?tdisp, ?doe, fun link stream => stream_fails⟩
  case early => exact requests_wait isY up
  case spdm =>
    intro locked
    exact ⟨certificate_answered isY up locked, fun nonce c => challenge_answered isY up locked,
      fun idx nonce content c => measurements_answered isY up locked, fun request => keys_exchanged isY up locked,
      session_opens isY up locked, cosign_answered isY up locked⟩
  case tdisp =>
    intro from' known
    refine ⟨requests_unexpected isY up from' known, fun session => ⟨fun stream => interface_locked isY up from' known session,
      interface_started isY up from' known session, start_refused isY up from' known session, interface_stopped isY up from' known session, ?_,
      interface_reports isY up from' known session⟩⟩
    intro free exists' served none' disp moves invals comms traces dir txn begun
    exact interface_reset isY up from' known session free exists' served none' ⟨disp, moves, invals, comms, traces, dir, txn, begun⟩
  case doe =>
    intro known len
    refine ⟨object_discarded up known len, fun legal => ⟨discovery_answered isY up known legal, cdat_answered isY up known legal, ?_⟩⟩
    intro session flit stream go
    exact ⟨link_keyed isY up known legal session flit stream go, stream_keyed isY up known legal session flit stream go⟩

end Sys2Proof.Machine
end

section
/-!
SUPPORT. The registers that sum up an instance, and those of instance 0, which holds what no other instance holds (R397, R399, R418).
-/
namespace Sys2Proof.Machine

/-- Registers named have been written, and nothing else has changed. -/
structure Rewritten (l : List Nat) (s t : Dev) : Prop where
  regs : ∀ o, o ∉ l → regRead t o = regRead s o
  rest : t = { s with regs := t.regs }

namespace Rewritten

theorem refl (l : List Nat) (s : Dev) : Rewritten l s s := ⟨fun _ _ => rfl, rfl⟩

theorem trans {l : List Nat} {s t u : Dev} (h : Rewritten l s t) (k : Rewritten l t u) : Rewritten l s u := by
  refine ⟨fun o other => (k.regs o other).trans (h.regs o other), ?_⟩
  rw [k.rest, h.rest]

theorem mono {l l' : List Nat} {s t : Dev} (h : Rewritten l s t) (more : l ⊆ l') : Rewritten l' s t :=
  ⟨fun o other => h.regs o (fun own => other (more own)), h.rest⟩

theorem fget {l : List Nat} {s t : Dev} (h : Rewritten l s t) {f : Fld} (other : f.off ∉ l) : fget t f = Machine.fget s f :=
  congrArg (fun v => bitsOf v f.lo f.width) (h.regs f.off other)

theorem sameRegsBut {l : List Nat} {s t : Dev} (h : Rewritten l s t) : SameRegsBut l s t := fun o other _ => h.regs o other

end Rewritten

theorem rewritten_fset {l : List Nat} (s : Dev) (f : Fld) (v : Nat) (named : f.off ∈ l) : Rewritten l s (fset s f v) :=
  ⟨fun _ other => regRead_fset_other _ _ _ _ (fun own => other (own ▸ named)), rfl⟩

/-- Two fields of a register that have been written one after the other. -/
theorem fget_fset_fset (s : Dev) {f g : Fld} (a b : Nat) (below : f.lo + f.width ≤ g.lo) (within : g.lo + g.width ≤ 64) :
    fget (fset (fset s f a) g b) f = a % 2 ^ f.width ∧ fget (fset (fset s f a) g b) g = b % 2 ^ g.width := by
  refine ⟨?_, fget_fset_same _ _ _ within⟩
  rw [fget_fset_apart _ _ (by omega) (.inr (.inl below)), fget_fset_same _ _ _ (by omega)]

/-! ### Instance 0 -/

/-- The registers that sum up an instance's resources. -/
def insRegs (k : Nat) : List Nat := [Reg.INS_STATUS k, Reg.INS_SESSIONS k, Reg.INS_QUOTA k, Reg.INS_ISLANDS k]

/-- The islands that instances 1 to 32 hold. -/
def takenIslands (s : Dev) : Nat := tenants.foldl (fun a k => a ||| fget s (RF.INS_ISLANDS_ISLANDS k)) 0

theorem takenIslands_lt (s : Dev) : takenIslands s < 2 ^ 44 :=
  List.foldlRecOn (motive := fun a => a < 2 ^ 44) _ _ (by decide) (fun _ below k _ => Nat.or_lt_two_pow below (fget_lt s (RF.INS_ISLANDS_ISLANDS k)))

theorem rewritten_setIslands (s : Dev) (i m : Nat) : Rewritten (insRegs i) s (setIslands s i m) :=
  (rewritten_fset s (RF.INS_ISLANDS_ISLANDS i) m (by simp [insRegs, RF.INS_ISLANDS_ISLANDS])).trans
    (rewritten_fset _ (RF.INS_STATUS_ISLAND_COUNT i) _ (by simp [insRegs, RF.INS_STATUS_ISLAND_COUNT]))

theorem fget_setIslands (s : Dev) (i m : Nat) : fget (setIslands s i m) (RF.INS_ISLANDS_ISLANDS i) = m % 2 ^ 44 := by
  have other : Reg.INS_ISLANDS i ≠ Reg.INS_STATUS i := by
    show 0x1B0000 + 64 * i + 0x08 ≠ 0x1B0000 + 64 * i + 0x00
    omega
  unfold setIslands
  rw [fget_fset_reg _ _ _ _ other]
  exact fget_fset_same _ (RF.INS_ISLANDS_ISLANDS i) m (Nat.le_of_ble_eq_true rfl)

/-- The fields of INS_STATUS other than the number of islands. -/
theorem fget_setIslands_status (s : Dev) (i m : Nat) {f : Fld} (within : f.lo + f.width ≤ 64) (register : f.off = Reg.INS_STATUS i)
    (apart : f.lo + f.width ≤ 8 ∨ 14 ≤ f.lo) : fget (setIslands s i m) f = fget s f := by
  have other : Reg.INS_STATUS i ≠ Reg.INS_ISLANDS i := by
    show 0x1B0000 + 64 * i + 0x00 ≠ 0x1B0000 + 64 * i + 0x08
    omega
  unfold setIslands
  rw [fget_fset_apart _ _ within (.inr apart), fget_fset_reg _ _ _ _ (register ▸ other)]

theorem showZero_eq (s : Dev) :
    ∃ a b c, showZero s
      = fset (fset (fset (fset (setIslands s 0 ((2 ^ fget s RF.BRG_PKG_LEVEL_ENABLED_COUNT - 1) ^^^ takenIslands s)) (RF.INS_SESSIONS_FIRST 0) 0)
          (RF.INS_SESSIONS_COUNT 0) a) (RF.INS_QUOTA_MAX_BINDINGS 0) b) (RF.INS_QUOTA_MAX_RINGS 0) c := ⟨_, _, _, rfl⟩

theorem rewritten_showZero (s : Dev) : Rewritten (insRegs 0) s (showZero s) := by
  obtain ⟨a, b, c, shown⟩ := showZero_eq s
  rw [shown]
  refine Rewritten.trans ?_ (rewritten_fset _ (RF.INS_QUOTA_MAX_RINGS 0) c (by decide))
  refine Rewritten.trans ?_ (rewritten_fset _ (RF.INS_QUOTA_MAX_BINDINGS 0) b (by decide))
  refine Rewritten.trans ?_ (rewritten_fset _ (RF.INS_SESSIONS_COUNT 0) a (by decide))
  refine Rewritten.trans ?_ (rewritten_fset _ (RF.INS_SESSIONS_FIRST 0) 0 (by decide))
  exact rewritten_setIslands s 0 _

theorem fget_showZero_islands {s : Dev} (few : fget s RF.BRG_PKG_LEVEL_ENABLED_COUNT ≤ 44) :
    fget (showZero s) (RF.INS_ISLANDS_ISLANDS 0) = (2 ^ fget s RF.BRG_PKG_LEVEL_ENABLED_COUNT - 1) ^^^ takenIslands s := by
  have all : 2 ^ fget s RF.BRG_PKG_LEVEL_ENABLED_COUNT - 1 < 2 ^ 44 := by
    have most := Nat.pow_le_pow_right (show 0 < 2 by decide) few
    have least := Nat.two_pow_pos (fget s RF.BRG_PKG_LEVEL_ENABLED_COUNT)
    omega
  obtain ⟨a, b, c, shown⟩ := showZero_eq s
  rw [shown, fget_fset_reg _ _ _ _ (by decide), fget_fset_reg _ _ _ _ (by decide), fget_fset_reg _ _ _ _ (by decide), fget_fset_reg _ _ _ _ (by decide),
    fget_setIslands]
  exact Nat.mod_eq_of_lt (Nat.xor_lt_two_pow all (takenIslands_lt s))

/-- What instances 1 to 32 hold lies beyond instance 0's registers. -/
theorem not_mem_insRegs_zero {o : Nat} (beyond : 0x1B0020 ≤ o) : o ∉ insRegs 0 := by
  simp only [insRegs, List.mem_cons, List.not_mem_nil, or_false, not_or]
  refine ⟨?_, ?_, ?_, ?_⟩
  · show o ≠ 0x1B0000
    omega
  · show o ≠ 0x1B0010
    omega
  · show o ≠ 0x1B0018
    omega
  · show o ≠ 0x1B0008
    omega

theorem takenIslands_showZero (s : Dev) : takenIslands (showZero s) = takenIslands s := by
  unfold takenIslands
  refine List.foldl_ext _ _ _ (fun a k member => ?_)
  obtain ⟨n, -, rfl⟩ := List.mem_map.mp member
  rw [(rewritten_showZero s).fget (f := RF.INS_ISLANDS_ISLANDS (n + 1)) (not_mem_insRegs_zero (by show 0x1B0020 ≤ 0x1B0000 + 64 * (n + 1) + 0x08; omega))]

/-! ### Islands given and taken -/

theorem giveIslands_leaves (s : Dev) {i : Nat} (tenant : 1 ≤ i) (m : Nat) :
    Rewritten ([0, i].flatMap insRegs) s (giveIslands s i m) ∧ fget (giveIslands s i m) (RF.INS_ISLANDS_ISLANDS i) = m % 2 ^ 44 := by
  have given := rewritten_setIslands s i m
  have shown := rewritten_showZero (setIslands s i m)
  refine ⟨(given.mono (by simp)).trans (shown.mono (by simp)), ?_⟩
  show fget (showZero _) _ = _
  rw [shown.fget (not_mem_insRegs_zero (by show 0x1B0020 ≤ 0x1B0000 + 64 * i + 0x08; omega)), fget_setIslands]

end Sys2Proof.Machine
end

section
/-!
The clauses of the obligation on islands that an instance is given and gives back (R404).
-/
namespace Sys2Proof.Machine

section
variable {s : State} {c : Cmd} {x : Ctx} {i m : Nat}

/-- A row that gives an instance the islands `m` ends with them, and leaves every other instance's but instance 0's. -/
theorem islands_end {t : Dev} {r : Ret} (tenant : 1 ≤ i) (known : i ≤ 32) (ended : Ended s.dev (giveIslands s.dev i m) t x r) (fits : m < 2 ^ 44) :
    SameMem s.dev t ∧ Completes s.dev t x r ∧ fget t (RF.INS_ISLANDS_ISLANDS i) = m
      ∧ OnlyCmd ([0, i].flatMap (fun k => [Reg.INS_STATUS k, Reg.INS_SESSIONS k, Reg.INS_QUOTA k, Reg.INS_ISLANDS k])) s { s with dev := t } x s.dev := by
  obtain ⟨leaves, held⟩ := giveIslands_leaves s.dev tenant m
  have islands := ended.fget (f := RF.INS_ISLANDS_ISLANDS i) (by show 0x1B0000 + 64 * i + 0x08 < 0x1E0000; omega)
    (by show 0x1B0000 + 64 * i + 0x08 ≠ 0x150000; omega)
  refine ⟨(sameMem_of_dram rfl).trans ended.mem, ended.completes, ?_, ended.onlyCmd ?_ leaves.sameRegsBut⟩
  · rw [islands, held, Nat.mod_eq_of_lt fits]
  · have rest := ended.shape
    rw [leaves.rest] at rest
    exact rest

/-- What an instance must be for INS_MEM and INS_ISLANDS (R404, R414). -/
theorem resizable_pass {s : Dev} (exists' : insState s i ≠ 0) (running : insState s i ≠ 4)
    (filling : insState s i = 2 ∨ insState s i = 3 → i ∈ s.ins.unfilled) : ∀ p ∈ resizable s i, p.1 = false := by
  unfold resizable
  simp only [List.forall_mem_append, List.forall_mem_cons, List.not_mem_nil, false_implies, implies_true, and_true]
  refine ⟨namedState_pass exists' running, ?_⟩
  by_cases frozen : insState s i = 2 ∨ insState s i = 3
  · simp [filling frozen]
  · rw [not_or] at frozen
    simp [frozen]

theorem insIslandsAdd_ends (named : i = eb x.e 16 1) (tenant : 1 ≤ i) (mask : m = eb x.e 24 8) (some' : m ≠ 0)
    (exists' : insState s.dev i ≠ 0) (running : insState s.dev i ≠ 4)
    (filling : insState s.dev i = 2 ∨ insState s.dev i = 3 → i ∈ s.dev.ins.unfilled) (admits : Admits s.dev 0x92 c x) (adds : eb x.e 17 1 = 0)
    (free : fget s.dev (RF.INS_ISLANDS_ISLANDS 0) &&& m = m) (others : fget s.dev (RF.INS_ISLANDS_ISLANDS 0) ≠ m) :
    ∃ t, exec (.insIslandsAdd c) s = .next { s with dev := t }
      ∧ Ended s.dev (giveIslands s.dev i (fget s.dev (RF.INS_ISLANDS_ISLANDS i) ||| m)) t x Ret.ok := by
  subst named mask
  have own : otherOp 17 0 c s.dev 0x92 = false := otherOp_own admits (by simp [adds])
  obtain ⟨f, ran, effect⟩ : ∃ f, exec (.insIslandsAdd c) s = .next { s with dev := finish (command 0x92 c s.dev f) }
      ∧ f x s.dev = (giveIslands s.dev (eb x.e 16 1) (fget s.dev (RF.INS_ISLANDS_ISLANDS (eb x.e 16 1)) ||| eb x.e 24 8), .done Ret.ok) := by
    show ∃ f, execInsIslandsAdd c s = _ ∧ _
    unfold execInsIslandsAdd
    rw [perform_eq, own]
    refine ⟨_, rfl, (afterChecks_pass ?_ _).trans rfl⟩
    simp only [List.forall_mem_append, List.forall_mem_cons, List.not_mem_nil, false_implies, implies_true, and_true]
    refine ⟨⟨?_, resizable_pass exists' running filling⟩, ?_⟩
    · simp [adds, some', free, Nat.one_le_iff_ne_zero.mp tenant]
    · simp [others]
  have unblocked : s.dev.blocked = [] := free_of_admits admits
  exact ⟨_, ran, command_ends rfl admits (by decide) effect unblocked rfl rfl⟩

theorem insIslandsRemove_ends (named : i = eb x.e 16 1) (tenant : 1 ≤ i) (mask : m = eb x.e 24 8) (some' : m ≠ 0)
    (exists' : insState s.dev i ≠ 0) (running : insState s.dev i ≠ 4)
    (filling : insState s.dev i = 2 ∨ insState s.dev i = 3 → i ∈ s.dev.ins.unfilled) (admits : Admits s.dev 0x92 c x) (removes : eb x.e 17 1 = 1)
    (held : fget s.dev (RF.INS_ISLANDS_ISLANDS i) &&& m = m) (others : fget s.dev (RF.INS_ISLANDS_ISLANDS i) ≠ m)
    (unbound : ∀ p ∈ s.dev.fe.bindings, p.2.inst = i → p.2.islands &&& m = 0) (idle : ∀ p ∈ s.dev.disp, ∀ k ∈ p.2.got, bitOf m k = false) :
    ∃ t, exec (.insIslandsRemove c) s = .next { s with dev := t }
      ∧ Ended s.dev (giveIslands s.dev i (fget s.dev (RF.INS_ISLANDS_ISLANDS i) ^^^ m)) t x Ret.ok := by
  subst named mask
  have own : otherOp 17 1 c s.dev 0x92 = false := otherOp_own admits (by rw [removes])
  obtain ⟨f, ran, effect⟩ : ∃ f, exec (.insIslandsRemove c) s = .next { s with dev := finish (command 0x92 c s.dev f) }
      ∧ f x s.dev = (giveIslands s.dev (eb x.e 16 1) (fget s.dev (RF.INS_ISLANDS_ISLANDS (eb x.e 16 1)) ^^^ eb x.e 24 8), .done Ret.ok) := by
    show ∃ f, execInsIslandsRemove c s = _ ∧ _
    unfold execInsIslandsRemove
    rw [perform_eq, own]
    refine ⟨_, rfl, (afterChecks_pass ?_ _).trans rfl⟩
    simp only [List.forall_mem_append, List.forall_mem_cons, List.not_mem_nil, false_implies, implies_true, and_true]
    refine ⟨⟨?_, resizable_pass exists' running filling⟩, ?_, ?_⟩
    · simp [removes, some', held, Nat.one_le_iff_ne_zero.mp tenant]
    · rw [Bool.or_eq_false_iff, List.any_eq_false, List.any_eq_false]
      refine ⟨fun p member => ?_, fun p member => ?_⟩
      · by_cases owner : p.2.inst = eb x.e 16 1
        · simp [owner, unbound p member owner]
        · simp [owner]
      · rw [Bool.not_eq_true, List.any_eq_false]
        exact fun k taken => by simp [idle p member k taken]
    · simp [others]
  have unblocked : s.dev.blocked = [] := free_of_admits admits
  exact ⟨_, ran, command_ends rfl admits (by decide) effect unblocked rfl rfl⟩

end

end Sys2Proof.Machine
end

section
/-!
The clauses of the obligation on instances that are entered and whose freeze begins and completes (R397 to R404, R410).
-/
namespace Sys2Proof.Machine

/-! ### Creation -/

/-- The registers of an instance's number lie below the log's. -/
theorem insReg_notLog {i n : Nat} (known : i ≤ 32) (within : n < 64) : ¬ isLogReg (0x1B0000 + 64 * i + n) := by
  intro report
  have above : ∀ o ∈ logRegs, 0x1E0000 ≤ o := by decide
  have high := above _ (mem_logRegs.mpr report)
  omega

theorem not_mem_insRegs_below {o i : Nat} (below : o < 0x1B0000) : o ∉ insRegs i := by
  simp only [insRegs, List.mem_cons, List.not_mem_nil, or_false, not_or]
  refine ⟨?_, ?_, ?_, ?_⟩
  · show o ≠ 0x1B0000 + 64 * i + 0x00
    omega
  · show o ≠ 0x1B0000 + 64 * i + 0x10
    omega
  · show o ≠ 0x1B0000 + 64 * i + 0x18
    omega
  · show o ≠ 0x1B0000 + 64 * i + 0x08
    omega

/-- The resources that an instance is entered with. -/
structure Resources where
  target : Bool
  reach : Nat
  first : Nat
  n : Nat
  mb : Nat
  mr : Nat
  m : Nat

/-- An instance entered with its resources, but for its islands. -/
def withResources (s : Dev) (i : Nat) (q : Resources) : Dev :=
  fset (fset (fset (fset (fset (fset (fset s (RF.INS_STATUS_STATE i) (if q.target then 3 else 1)) (RF.INS_STATUS_RESTORE_TARGET i) (b2n q.target))
    (RF.INS_STATUS_REACH i) q.reach) (RF.INS_SESSIONS_FIRST i) q.first) (RF.INS_SESSIONS_COUNT i) q.n) (RF.INS_QUOTA_MAX_BINDINGS i) q.mb)
    (RF.INS_QUOTA_MAX_RINGS i) q.mr

/-- An instance entered with its resources, instance 0 keeping what no other holds, under its new key. -/
def insEntered (s : Dev) (i : Nat) (q : Resources) : Dev :=
  let s := giveIslands (withResources s i q) i q.m
  newKey { s with ins := { s.ins with unfilled := if q.target then insertNat i s.ins.unfilled else s.ins.unfilled } } i

theorem rewritten_withResources (s : Dev) (i : Nat) (q : Resources) : Rewritten (insRegs i) s (withResources s i q) := by
  have status : Reg.INS_STATUS i ∈ insRegs i := by simp [insRegs]
  have sessions : Reg.INS_SESSIONS i ∈ insRegs i := by simp [insRegs]
  have quota : Reg.INS_QUOTA i ∈ insRegs i := by simp [insRegs]
  unfold withResources
  refine Rewritten.trans ?_ (rewritten_fset _ (RF.INS_QUOTA_MAX_RINGS i) _ quota)
  refine Rewritten.trans ?_ (rewritten_fset _ (RF.INS_QUOTA_MAX_BINDINGS i) _ quota)
  refine Rewritten.trans ?_ (rewritten_fset _ (RF.INS_SESSIONS_COUNT i) _ sessions)
  refine Rewritten.trans ?_ (rewritten_fset _ (RF.INS_SESSIONS_FIRST i) _ sessions)
  refine Rewritten.trans ?_ (rewritten_fset _ (RF.INS_STATUS_REACH i) _ status)
  refine Rewritten.trans ?_ (rewritten_fset _ (RF.INS_STATUS_RESTORE_TARGET i) _ status)
  exact rewritten_fset _ (RF.INS_STATUS_STATE i) _ status

section
variable (i : Nat)

theorem status_ne_sessions : Reg.INS_STATUS i ≠ Reg.INS_SESSIONS i := by
  show 0x1B0000 + 64 * i + 0x00 ≠ 0x1B0000 + 64 * i + 0x10
  omega

theorem status_ne_quota : Reg.INS_STATUS i ≠ Reg.INS_QUOTA i := by
  show 0x1B0000 + 64 * i + 0x00 ≠ 0x1B0000 + 64 * i + 0x18
  omega

theorem sessions_ne_quota : Reg.INS_SESSIONS i ≠ Reg.INS_QUOTA i := by
  show 0x1B0000 + 64 * i + 0x10 ≠ 0x1B0000 + 64 * i + 0x18
  omega

theorem islands_ne_status : Reg.INS_ISLANDS i ≠ Reg.INS_STATUS i := by
  show 0x1B0000 + 64 * i + 0x08 ≠ 0x1B0000 + 64 * i + 0x00
  omega

end

/-- INS_STATUS of an instance that is entered. -/
theorem fget_withResources_status (s : Dev) (i : Nat) (q : Resources) {f : Fld} (register : f.off = Reg.INS_STATUS i) :
    fget (withResources s i q) f
      = fget (fset (fset (fset s (RF.INS_STATUS_STATE i) (if q.target then 3 else 1)) (RF.INS_STATUS_RESTORE_TARGET i) (b2n q.target))
          (RF.INS_STATUS_REACH i) q.reach) f := by
  unfold withResources
  rw [fget_fset_reg _ _ _ _ (register ▸ status_ne_quota i), fget_fset_reg _ _ _ _ (register ▸ status_ne_quota i),
    fget_fset_reg _ _ _ _ (register ▸ status_ne_sessions i), fget_fset_reg _ _ _ _ (register ▸ status_ne_sessions i)]

theorem withResources_status (s : Dev) (i : Nat) (q : Resources) (reach : q.reach ≤ 2) :
    fget (withResources s i q) (RF.INS_STATUS_STATE i) = (if q.target then 3 else 1) ∧ fget (withResources s i q) (RF.INS_STATUS_RESTORE_TARGET i) = b2n q.target
      ∧ fget (withResources s i q) (RF.INS_STATUS_REACH i) = q.reach ∧ fget (withResources s i q) (RF.INS_STATUS_KEY_GEN i) = fget s (RF.INS_STATUS_KEY_GEN i) := by
  have state : (if q.target then 3 else 1) % 2 ^ 3 = (if q.target then 3 else 1) := by
    cases q.target with
    | false => rfl
    | true => rfl
  have restore : b2n q.target % 2 ^ 1 = b2n q.target := by
    cases q.target with
    | false => rfl
    | true => rfl
  have most : q.reach % 2 ^ 2 = q.reach := Nat.mod_eq_of_lt (show q.reach < 4 by omega)
  refine ⟨?_, ?_, ?_, ?_⟩
  · rw [fget_withResources_status s i q rfl, fget_fset_apart _ _ (Nat.le_of_ble_eq_true rfl) (.inr (.inl (Nat.le_of_ble_eq_true rfl))),
      fget_fset_apart _ _ (Nat.le_of_ble_eq_true rfl) (.inr (.inl (Nat.le_of_ble_eq_true rfl))), fget_fset_same _ _ _ (Nat.le_of_ble_eq_true rfl)]
    exact state
  · rw [fget_withResources_status s i q rfl, fget_fset_apart _ _ (Nat.le_of_ble_eq_true rfl) (.inr (.inl (Nat.le_of_ble_eq_true rfl))),
      fget_fset_same _ _ _ (Nat.le_of_ble_eq_true rfl)]
    exact restore
  · rw [fget_withResources_status s i q rfl, fget_fset_same _ _ _ (Nat.le_of_ble_eq_true rfl)]
    exact most
  · rw [fget_withResources_status s i q rfl, fget_fset_apart _ _ (Nat.le_of_ble_eq_true rfl) (.inr (.inr (Nat.le_of_ble_eq_true rfl))),
      fget_fset_apart _ _ (Nat.le_of_ble_eq_true rfl) (.inr (.inr (Nat.le_of_ble_eq_true rfl))),
      fget_fset_apart _ _ (Nat.le_of_ble_eq_true rfl) (.inr (.inr (Nat.le_of_ble_eq_true rfl)))]

theorem withResources_sessions (s : Dev) (i : Nat) (q : Resources) (first : q.first < 2 ^ 20) (n : q.n < 2 ^ 21) :
    fget (withResources s i q) (RF.INS_SESSIONS_FIRST i) = q.first ∧ fget (withResources s i q) (RF.INS_SESSIONS_COUNT i) = q.n := by
  have kept (f : Fld) (register : f.off = Reg.INS_SESSIONS i) (t : Dev) (a b : Nat) :
      fget (fset (fset t (RF.INS_QUOTA_MAX_BINDINGS i) a) (RF.INS_QUOTA_MAX_RINGS i) b) f = fget t f := by
    rw [fget_fset_reg _ _ _ _ (register ▸ sessions_ne_quota i), fget_fset_reg _ _ _ _ (register ▸ sessions_ne_quota i)]
  unfold withResources
  rw [kept _ rfl, kept _ rfl]
  obtain ⟨low, high⟩ := fget_fset_fset _ (f := RF.INS_SESSIONS_FIRST i) (g := RF.INS_SESSIONS_COUNT i) q.first q.n (Nat.le_of_ble_eq_true rfl)
    (Nat.le_of_ble_eq_true rfl)
  exact ⟨low.trans (Nat.mod_eq_of_lt first), high.trans (Nat.mod_eq_of_lt n)⟩

theorem withResources_quota (s : Dev) (i : Nat) (q : Resources) (mb : q.mb ≤ 4096) (mr : q.mr ≤ 4096) :
    fget (withResources s i q) (RF.INS_QUOTA_MAX_BINDINGS i) = q.mb ∧ fget (withResources s i q) (RF.INS_QUOTA_MAX_RINGS i) = q.mr := by
  unfold withResources
  obtain ⟨low, high⟩ := fget_fset_fset _ (f := RF.INS_QUOTA_MAX_BINDINGS i) (g := RF.INS_QUOTA_MAX_RINGS i) q.mb q.mr (Nat.le_of_ble_eq_true rfl)
    (Nat.le_of_ble_eq_true rfl)
  exact ⟨low.trans (Nat.mod_eq_of_lt (show q.mb < 8192 by omega)), high.trans (Nat.mod_eq_of_lt (show q.mr < 8192 by omega))⟩

/-- What instance 0's registers and the number of islands are not: a field of a tenant's that islands given to it leave. -/
theorem fget_giveIslands_status (s : Dev) {i : Nat} (tenant : 1 ≤ i) (m : Nat) {f : Fld} (within : f.lo + f.width ≤ 64)
    (register : f.off = Reg.INS_STATUS i) (apart : f.lo + f.width ≤ 8 ∨ 14 ≤ f.lo) : fget (giveIslands s i m) f = fget s f := by
  have beyond : 0x1B0020 ≤ f.off := by
    rw [register]
    show 0x1B0020 ≤ 0x1B0000 + 64 * i + 0x00
    omega
  show fget (showZero _) f = _
  rw [(rewritten_showZero _).fget (not_mem_insRegs_zero beyond), fget_setIslands_status s i m within register apart]

theorem fget_giveIslands_other (s : Dev) {i : Nat} (m : Nat) {f : Fld} (beyond : 0x1B0020 ≤ f.off) (status : f.off ≠ Reg.INS_STATUS i)
    (islands : f.off ≠ Reg.INS_ISLANDS i) : fget (giveIslands s i m) f = fget s f := by
  show fget (showZero _) f = _
  rw [(rewritten_showZero _).fget (not_mem_insRegs_zero beyond)]
  unfold setIslands
  rw [fget_fset_reg _ _ _ _ status, fget_fset_reg _ _ _ _ islands]

/-- What the entry of an instance leaves: its resources, and beside the registers of the two instances and the log, what a restore target waits for. -/
structure EnteredWith (s u : Dev) (i : Nat) (q : Resources) : Prop where
  state : insState u i = (if q.target then 3 else 1)
  restore : fget u (RF.INS_STATUS_RESTORE_TARGET i) = b2n q.target
  reach : fget u (RF.INS_STATUS_REACH i) = q.reach
  first : fget u (RF.INS_SESSIONS_FIRST i) = q.first
  count : fget u (RF.INS_SESSIONS_COUNT i) = q.n
  bindings : fget u (RF.INS_QUOTA_MAX_BINDINGS i) = q.mb
  rings : fget u (RF.INS_QUOTA_MAX_RINGS i) = q.mr
  islands : fget u (RF.INS_ISLANDS_ISLANDS i) = q.m
  rest : fget u (RF.INS_ISLANDS_ISLANDS 0) = (2 ^ fget s RF.BRG_PKG_LEVEL_ENABLED_COUNT - 1) ^^^ takenIslands u
  key : fget u (RF.INS_STATUS_KEY_GEN i) = (fget s (RF.INS_STATUS_KEY_GEN i) + 1) % 2 ^ 16
  regs : SameRegsBut ([0, i].flatMap insRegs ++ logRegs) s u
  shape : ∃ regs unfilled log rom, u = { s with regs := regs, ins := { s.ins with unfilled := unfilled }, log := log,
                                                flash := { s.flash with romLog := rom } }

/-- A new key changes KEY_GEN of its instance and the log. -/
theorem newKey_fields (s : Dev) {i : Nat} (known : i ≤ 32) :
    fget (newKey s i) (RF.INS_STATUS_KEY_GEN i) = (fget s (RF.INS_STATUS_KEY_GEN i) + 1) % 2 ^ 16
      ∧ (∀ f : Fld, f.lo + f.width ≤ 64 → ¬ isLogReg f.off → (f.off = Reg.INS_STATUS i → f.lo + f.width ≤ 16) → fget (newKey s i) f = fget s f)
      ∧ OnlyLogAnd [Reg.INS_STATUS i] s (newKey s i) := by
  have keyed := newKey_leaves s i
  refine ⟨?_, ?_, ?_⟩
  · rw [keyed.fget _ (insReg_notLog known (n := 0) (by decide)), fget_fset_same _ _ _ (Nat.le_of_ble_eq_true rfl)]
    rfl
  · intro f within beyond below
    rw [keyed.fget _ beyond]
    by_cases register : f.off = Reg.INS_STATUS i
    · exact fget_fset_apart _ _ within (.inr (.inl (below register)))
    · exact fget_fset_reg _ _ _ _ register
  · refine ⟨fun o others _ => ?_, ?_⟩
    · rw [List.mem_append, not_or] at others
      obtain ⟨status, report⟩ := others
      rw [keyed.regs o (fun own => report (mem_logRegs.mpr own))]
      exact regRead_fset_other _ _ _ _ (fun own => status (List.mem_singleton.mpr own))
    · have rest := keyed.rest
      rw [keyed.flash] at rest
      exact rest

theorem enteredWith (s : Dev) {i : Nat} {q : Resources} (tenant : 1 ≤ i) (known : i ≤ 32) (reach : q.reach ≤ 2) (some' : 0 < q.n)
    (range : q.first + q.n ≤ 1048576) (mb : q.mb ≤ 4096) (mr : q.mr ≤ 4096) (few : fget s RF.BRG_PKG_LEVEL_ENABLED_COUNT ≤ 44)
    (fits : q.m < 2 ^ 44) : EnteredWith s (insEntered s i q) i q := by
  obtain ⟨state, restore, reaches, key⟩ := withResources_status s i q reach
  obtain ⟨first, count⟩ := withResources_sessions s i q (show q.first < 1048576 by omega) (show q.n < 2097152 by omega)
  obtain ⟨bindings, rings⟩ := withResources_quota s i q mb mr
  have written := rewritten_withResources s i q
  obtain ⟨given, islands⟩ := giveIslands_leaves (withResources s i q) tenant q.m
  have zero : fget (giveIslands (withResources s i q) i q.m) (RF.INS_ISLANDS_ISLANDS 0)
      = (2 ^ fget s RF.BRG_PKG_LEVEL_ENABLED_COUNT - 1) ^^^ takenIslands (giveIslands (withResources s i q) i q.m) := by
    have level : fget (setIslands (withResources s i q) i q.m) RF.BRG_PKG_LEVEL_ENABLED_COUNT = fget s RF.BRG_PKG_LEVEL_ENABLED_COUNT := by
      have apart : RF.BRG_PKG_LEVEL_ENABLED_COUNT.off ∉ insRegs i := not_mem_insRegs_below (by decide)
      rw [(rewritten_setIslands _ i _).fget apart, written.fget apart]
    show fget (showZero _) _ = _ ^^^ takenIslands (showZero _)
    rw [fget_showZero_islands (by rw [level]; exact few), takenIslands_showZero, level]
  have keepsStatus (f : Fld) (register : f.off = Reg.INS_STATUS i) (within : f.lo + f.width ≤ 64) (apart : f.lo + f.width ≤ 8 ∨ 14 ≤ f.lo) :=
    fget_giveIslands_status (withResources s i q) tenant q.m (f := f) within register apart
  have keepsOther (f : Fld) (beyond : 0x1B0020 ≤ f.off) (status : f.off ≠ Reg.INS_STATUS i) (other : f.off ≠ Reg.INS_ISLANDS i) :=
    fget_giveIslands_other (withResources s i q) q.m (f := f) beyond status other
  have sessions : 0x1B0020 ≤ Reg.INS_SESSIONS i ∧ Reg.INS_SESSIONS i ≠ Reg.INS_ISLANDS i := by
    show 0x1B0020 ≤ 0x1B0000 + 64 * i + 0x10 ∧ 0x1B0000 + 64 * i + 0x10 ≠ 0x1B0000 + 64 * i + 0x08
    omega
  have quota : 0x1B0020 ≤ Reg.INS_QUOTA i ∧ Reg.INS_QUOTA i ≠ Reg.INS_ISLANDS i := by
    show 0x1B0020 ≤ 0x1B0000 + 64 * i + 0x18 ∧ 0x1B0000 + 64 * i + 0x18 ≠ 0x1B0000 + 64 * i + 0x08
    omega
  unfold insEntered
  obtain ⟨v, isV⟩ : ∃ v, v = giveIslands (withResources s i q) i q.m := ⟨_, rfl⟩
  simp only [← isV] at islands zero keepsStatus keepsOther ⊢
  obtain ⟨w, isW⟩ : ∃ w : Dev, w = { v with ins := { v.ins with unfilled := if q.target then insertNat i v.ins.unfilled else v.ins.unfilled } } := ⟨_, rfl⟩
  have same (f : Fld) : fget w f = fget v f := fget_congr (by rw [isW]) f
  have shapeW : ∃ regs unfilled, w = { s with regs := regs, ins := { s.ins with unfilled := unfilled } } := by
    rw [isW, isV, given.rest, written.rest]
    exact ⟨_, _, rfl⟩
  have regsW : SameRegsBut ([0, i].flatMap insRegs) s w := by
    intro o others _
    have tenants : o ∉ insRegs i := fun own => others (by simp [own])
    rw [regRead_congr (show w.regs = v.regs by rw [isW]), isV, given.regs o others, written.regs o tenants]
  rw [← isW]
  clear isW isV
  obtain ⟨renewed, keeps, logged⟩ := newKey_fields w known
  have statusLow : ¬ isLogReg (Reg.INS_STATUS i) := insReg_notLog known (n := 0x00) (by decide)
  have sessionsLow : ¬ isLogReg (Reg.INS_SESSIONS i) := insReg_notLog known (n := 0x10) (by decide)
  have quotaLow : ¬ isLogReg (Reg.INS_QUOTA i) := insReg_notLog known (n := 0x18) (by decide)
  have islandsLow {k : Nat} (known : k ≤ 32) : ¬ isLogReg (Reg.INS_ISLANDS k) := insReg_notLog known (n := 0x08) (by decide)
  have islandsOff (k : Nat) : Reg.INS_ISLANDS k ≠ Reg.INS_STATUS i := by
    show 0x1B0000 + 64 * k + 0x08 ≠ 0x1B0000 + 64 * i + 0x00
    omega
  have islandsKept {k : Nat} (known : k ≤ 32) : fget (newKey w i) (RF.INS_ISLANDS_ISLANDS k) = fget v (RF.INS_ISLANDS_ISLANDS k) := by
    rw [keeps _ (Nat.le_of_ble_eq_true rfl) (islandsLow known) (fun own => absurd own (islandsOff k)), same]
  have taken : takenIslands (newKey w i) = takenIslands v := by
    unfold takenIslands
    refine List.foldl_ext _ _ _ (fun a k member => ?_)
    obtain ⟨n, below, rfl⟩ := List.mem_map.mp member
    rw [islandsKept (by rw [List.mem_range] at below; omega)]
  refine ⟨?_, ?_, ?_, ?_, ?_, ?_, ?_, ?_, ?_, ?_, ?_, ?_⟩
  · unfold insState
    rw [keeps _ (Nat.le_of_ble_eq_true rfl) statusLow (fun _ => Nat.le_of_ble_eq_true rfl), same,
      keepsStatus _ rfl (Nat.le_of_ble_eq_true rfl) (.inl (Nat.le_of_ble_eq_true rfl)), state]
  · rw [keeps _ (Nat.le_of_ble_eq_true rfl) statusLow (fun _ => Nat.le_of_ble_eq_true rfl), same,
      keepsStatus _ rfl (Nat.le_of_ble_eq_true rfl) (.inl (Nat.le_of_ble_eq_true rfl)), restore]
  · rw [keeps _ (Nat.le_of_ble_eq_true rfl) statusLow (fun _ => Nat.le_of_ble_eq_true rfl), same,
      keepsStatus _ rfl (Nat.le_of_ble_eq_true rfl) (.inl (Nat.le_of_ble_eq_true rfl)), reaches]
  · rw [keeps _ (Nat.le_of_ble_eq_true rfl) sessionsLow (fun own => absurd own.symm (status_ne_sessions i)), same,
      keepsOther _ sessions.1 (status_ne_sessions i).symm sessions.2, first]
  · rw [keeps _ (Nat.le_of_ble_eq_true rfl) sessionsLow (fun own => absurd own.symm (status_ne_sessions i)), same,
      keepsOther _ sessions.1 (status_ne_sessions i).symm sessions.2, count]
  · rw [keeps _ (Nat.le_of_ble_eq_true rfl) quotaLow (fun own => absurd own.symm (status_ne_quota i)), same,
      keepsOther _ quota.1 (status_ne_quota i).symm quota.2, bindings]
  · rw [keeps _ (Nat.le_of_ble_eq_true rfl) quotaLow (fun own => absurd own.symm (status_ne_quota i)), same,
      keepsOther _ quota.1 (status_ne_quota i).symm quota.2, rings]
  · rw [islandsKept known, islands, Nat.mod_eq_of_lt fits]
  · rw [islandsKept (by decide), zero, taken]
  · rw [renewed, same, keepsStatus _ rfl (Nat.le_of_ble_eq_true rfl) (.inr (Nat.le_of_ble_eq_true rfl)), key]
  · intro o others shc
    have tenantsOff : o ∉ [0, i].flatMap insRegs := fun own => others (List.mem_append_left _ own)
    rw [logged.regs o ?_ shc, regsW o tenantsOff shc]
    rw [List.mem_append, not_or]
    exact ⟨fun own => tenantsOff (by rw [List.mem_singleton.mp own]; simp [insRegs]), fun report => others (List.mem_append_right _ report)⟩
  · have rest := logged.rest
    obtain ⟨regs, unfilled, shape⟩ := shapeW
    rw [shape] at rest
    rw [shape]
    exact ⟨_, _, _, _, rest⟩

end Sys2Proof.Machine
end

section
/-!
The clauses of the obligation on INS_CREATE, INS_FREEZE and its end, and INS_MIG_KEY (R397 to R404, R410, R411).
-/
namespace Sys2Proof.Machine

/-! ### INS_CREATE -/

/-- The resources that INS_CREATE names (R403). -/
def resourcesOf (x : Ctx) : Resources :=
  ⟨bitOf (eb x.e 17 1) 0, eb x.e 18 1, eb x.e 20 4, eb x.e 24 4, eb x.e 28 2, eb x.e 30 2, eb x.e 32 8⟩

section
variable {s : State} {c : Cmd} {x : Ctx}

theorem insCreate_ends (admits : Admits s.dev 0x90 c x) (tenant : 1 ≤ eb x.e 16 1) (known : eb x.e 16 1 ≤ 32) (reach : eb x.e 18 1 ≤ 2)
    (some' : 0 < eb x.e 24 4) (rings : 0 < eb x.e 30 2) (islands : eb x.e 32 8 ≠ 0) (few : fget s.dev RF.BRG_PKG_LEVEL_ENABLED_COUNT ≤ 44)
    (enabled : eb x.e 32 8 < 2 ^ fget s.dev RF.BRG_PKG_LEVEL_ENABLED_COUNT) (range : eb x.e 20 4 + eb x.e 24 4 ≤ 1048576)
    (apart : overlapsRange s.dev (eb x.e 20 4) (eb x.e 24 4) = false) (absent : insState s.dev (eb x.e 16 1) = 0)
    (free : heldByTenant s.dev (eb x.e 32 8) = false) (idle : ∀ p ∈ s.dev.fe.sessions, p.1 < eb x.e 20 4 ∨ eb x.e 20 4 + eb x.e 24 4 ≤ p.1)
    (left : fget s.dev (RF.INS_ISLANDS_ISLANDS 0) &&& eb x.e 32 8 ≠ fget s.dev (RF.INS_ISLANDS_ISLANDS 0))
    (bindingQuota : tenantSum s.dev RF.INS_QUOTA_MAX_BINDINGS + eb x.e 28 2 + fget s.dev (RF.INS_QUOTA_BINDINGS_USED 0) ≤ 4096)
    (ringQuota : tenantSum s.dev RF.INS_QUOTA_MAX_RINGS + eb x.e 30 2 + fget s.dev (RF.INS_QUOTA_RINGS_USED 0) ≤ 4096) :
    ∃ t, exec (.insCreate c) s = .next { s with dev := t }
      ∧ EnteredWith s.dev (insEntered s.dev (eb x.e 16 1) (resourcesOf x)) (eb x.e 16 1) (resourcesOf x)
      ∧ Ended s.dev (insEntered s.dev (eb x.e 16 1) (resourcesOf x)) t x Ret.ok := by
  obtain ⟨f, ran, effect⟩ : ∃ f, exec (.insCreate c) s = .next { s with dev := finish (command 0x90 c s.dev f) }
      ∧ f x s.dev = (insEntered s.dev (eb x.e 16 1) (resourcesOf x), .done Ret.ok) := by
    refine ⟨_, rfl, (afterChecks_pass ?_ _).trans rfl⟩
    simp only [List.forall_mem_cons, List.not_mem_nil, false_implies, implies_true, and_true]
    have mask : eb x.e 32 8 &&& (2 ^ fget s.dev RF.BRG_PKG_LEVEL_ENABLED_COUNT - 1) = eb x.e 32 8 := by
      rw [Nat.and_two_pow_sub_one_eq_mod, Nat.mod_eq_of_lt enabled]
    have unheld : (s.dev.fe.sessions.any fun p => decide (eb x.e 20 4 ≤ p.1) && decide (p.1 < eb x.e 20 4 + eb x.e 24 4)) = false := by
      rw [List.any_eq_false]
      intro p member
      have off := idle p member
      simp only [Bool.and_eq_true, decide_eq_true_eq, not_and]
      omega
    refine ⟨?_, ?_, ?_, ?_⟩
    · simp only [Bool.or_eq_false_iff, decide_eq_false_iff_not, beq_eq_false_iff_ne, bne_eq_false_iff_eq, mask, apart, and_true]
      omega
    · simp [absent]
    · rw [free, unheld]
      rfl
    · simp only [Bool.or_eq_false_iff, decide_eq_false_iff_not, beq_eq_false_iff_ne]
      exact ⟨⟨left, by omega⟩, by omega⟩
  have fits : eb x.e 32 8 < 2 ^ 44 := lt_of_lt_of_le enabled (Nat.pow_le_pow_right (by decide) few)
  have entered := enteredWith s.dev (q := resourcesOf x) tenant known reach some' range (by show eb x.e 28 2 ≤ 4096; omega)
    (by show eb x.e 30 2 ≤ 4096; omega) few fits
  obtain ⟨regs, unfilled, log, rom, shape⟩ := entered.shape
  have unblocked : s.dev.blocked = [] := free_of_admits admits
  refine ⟨_, ran, entered, command_ends rfl admits (by decide) effect ?_ ?_ ?_⟩
  · rw [shape]
    exact unblocked
  · rw [shape]
  · rw [shape]

/-- What INS_CREATE leaves, once it has ended. -/
theorem created_leaves {i : Nat} {q : Resources} {u t : Dev} {r : Ret} (tenant : 1 ≤ i) (known : i ≤ 32) (entered : EnteredWith s.dev u i q)
    (ended : Ended s.dev u t x r) :
    SameMem s.dev t ∧ (∀ f : Fld, f.off ∈ [0, i].flatMap insRegs → fget t f = fget u f) ∧ takenIslands t = takenIslands u
      ∧ OnlyCmd ([0, i].flatMap (fun k => [Reg.INS_STATUS k, Reg.INS_SESSIONS k, Reg.INS_QUOTA k, Reg.INS_ISLANDS k])) s { s with dev := t } x
          { s.dev with ins := { s.dev.ins with unfilled := t.ins.unfilled } } := by
  have below {k : Nat} (known : k ≤ 32) {o : Nat} (own : o ∈ insRegs k) : 0x1B0000 ≤ o ∧ o < 0x1E0000 := by
    simp only [insRegs, List.mem_cons, List.not_mem_nil, or_false] at own
    obtain own | own | own | own := own
    · rw [own]
      show 0x1B0000 ≤ 0x1B0000 + 64 * k + 0x00 ∧ 0x1B0000 + 64 * k + 0x00 < 0x1E0000
      omega
    · rw [own]
      show 0x1B0000 ≤ 0x1B0000 + 64 * k + 0x10 ∧ 0x1B0000 + 64 * k + 0x10 < 0x1E0000
      omega
    · rw [own]
      show 0x1B0000 ≤ 0x1B0000 + 64 * k + 0x18 ∧ 0x1B0000 + 64 * k + 0x18 < 0x1E0000
      omega
    · rw [own]
      show 0x1B0000 ≤ 0x1B0000 + 64 * k + 0x08 ∧ 0x1B0000 + 64 * k + 0x08 < 0x1E0000
      omega
  have keeps {k : Nat} (known : k ≤ 32) {f : Fld} (own : f.off ∈ insRegs k) : fget t f = fget u f := by
    obtain ⟨low, high⟩ := below known own
    exact ended.fget high (by omega)
  obtain ⟨regs, unfilled, log, rom, shape⟩ := entered.shape
  refine ⟨?_, ?_, ?_, ended.onlyCmd_logged ?_ entered.regs⟩
  · refine (sameMem_of_dram ?_).trans ended.mem
    rw [shape]
  · intro f own
    obtain ⟨k, of, own⟩ := List.mem_flatMap.mp own
    exact keeps (by simp only [List.mem_cons, List.not_mem_nil, or_false] at of; omega) own
  · unfold takenIslands
    refine List.foldl_ext _ _ _ (fun a k member => ?_)
    obtain ⟨n, among, rfl⟩ := List.mem_map.mp member
    rw [keeps (k := n + 1) (f := RF.INS_ISLANDS_ISLANDS (n + 1)) (by rw [List.mem_range] at among; omega) (by simp [insRegs, RF.INS_ISLANDS_ISLANDS])]
  · have rest := ended.shape
    rw [shape] at rest
    have filled : t.ins.unfilled = unfilled := by rw [rest]
    rw [filled]
    exact rest

/-! ### INS_FREEZE -/

theorem insFreeze_ends {i : Nat} (admits : Admits s.dev 0x95 c x) (own : i = eb x.e 16 1) (tenant : 1 ≤ i) (running : insState s.dev i = 1)
    (replays : jnlMode s.dev i ≠ 2) :
    ∃ t, exec (.insFreeze c) s = .next { s with dev := t } ∧ Begun s.dev (fset s.dev (RF.INS_STATUS_STATE i) 2) t x := by
  subst own
  obtain ⟨f, ran, effect⟩ : ∃ f, exec (.insFreeze c) s = .next { s with dev := finish (command 0x95 c s.dev f) }
      ∧ f x s.dev = (fset s.dev (RF.INS_STATUS_STATE (eb x.e 16 1)) 2, .later) := by
    refine ⟨_, rfl, (afterChecks_pass ?_ _).trans rfl⟩
    simp only [List.forall_mem_append, List.forall_mem_cons, List.not_mem_nil, false_implies, implies_true, and_true]
    refine ⟨⟨?_, namedState_pass (by rw [running]; decide) (by rw [running]; decide)⟩, ?_⟩
    · simp [Nat.one_le_iff_ne_zero.mp tenant]
    · simp [running, replays]
  have unblocked : s.dev.blocked = [] := free_of_admits admits
  exact ⟨_, ran, command_begins rfl admits effect unblocked rfl rfl⟩

theorem insState_of_status {s t : Dev} {i : Nat} (same : regRead t (Reg.INS_STATUS i) = regRead s (Reg.INS_STATUS i)) : insState t i = insState s i :=
  congrArg (fun v => bitsOf v 0 3) same

theorem frozen_leaves {i : Nat} {t : Dev} (known : i ≤ 32) (begun : Begun s.dev (fset s.dev (RF.INS_STATUS_STATE i) 2) t x) :
    SameMem s.dev t ∧ insState t i = 2 ∧ OnlyCmd [Reg.INS_STATUS i] s { s with dev := t } x s.dev := by
  refine ⟨(sameMem_of_dram rfl).trans begun.mem, ?_, begun.onlyCmd ?_ (sameRegsBut_fset s.dev (RF.INS_STATUS_STATE i) 2)⟩
  · rw [insState_of_status (begun.regs _ (by simp) (by show 0x1B0000 + 64 * i + 0x00 ≠ 0x150000; omega))]
    exact fget_fset_same _ (RF.INS_STATUS_STATE i) 2 (Nat.le_of_ble_eq_true rfl)
  · obtain ⟨store, dram, regs, rest⟩ := begun.shape
    rw [rest]
    rfl

end

end Sys2Proof.Machine
end

section
/-!
The clauses of the obligation on FREEZE_COMPLETE and INS_MIG_KEY (R410, R411).
-/
namespace Sys2Proof.Machine

/-! ### FREEZE_COMPLETE -/

/-- An instance Frozen, with no session of its own in the front end's cache. -/
def nowFrozen (s : Dev) (i : Nat) : Dev :=
  let s := fset s (RF.INS_STATUS_STATE i) 3
  { s with fe := { s.fe with cache := s.fe.cache.filter (fun n => holderOfSession s n != i) } }

/-- Who holds a session index does not depend on whether an instance in service is Running or Frozen. -/
theorem holderOfSession_fset_state {s : Dev} {i v : Nat} (exists' : insState s i ≠ 0) (some' : v % 8 ≠ 0) (n : Nat) :
    holderOfSession (fset s (RF.INS_STATUS_STATE i) v) n = holderOfSession s n := by
  have serving (k : Nat) : (insState (fset s (RF.INS_STATUS_STATE i) v) k != 0) = (insState s k != 0) := by
    by_cases own : k = i
    · subst own
      have written : insState (fset s (RF.INS_STATUS_STATE k) v) k = v % 8 := fget_fset_same _ (RF.INS_STATUS_STATE k) v (Nat.le_of_ble_eq_true rfl)
      rw [written, bne_iff_ne.mpr some', bne_iff_ne.mpr exists']
    · have other : insState (fset s (RF.INS_STATUS_STATE i) v) k = insState s k := by
        refine fget_fset_reg _ (RF.INS_STATUS_STATE i) (RF.INS_STATUS_STATE k) _ ?_
        show 0x1B0000 + 64 * k + 0x00 ≠ 0x1B0000 + 64 * i + 0x00
        omega
      rw [other]
  have range (f : Nat → Fld) (at' : ∀ k, (f k).off = Reg.INS_SESSIONS k) (k : Nat) : fget (fset s (RF.INS_STATUS_STATE i) v) (f k) = fget s (f k) := by
    refine fget_fset_reg _ (RF.INS_STATUS_STATE i) _ _ ?_
    rw [at' k]
    show 0x1B0000 + 64 * k + 0x10 ≠ 0x1B0000 + 64 * i + 0x00
    omega
  unfold holderOfSession
  simp only [serving, range RF.INS_SESSIONS_FIRST (fun _ => rfl), range RF.INS_SESSIONS_COUNT (fun _ => rfl)]

theorem freezeComplete_ends {s : State} {i key : Nat} {e : StoreEntry} (freezing : insState s.dev i = 2) (quiet' : quiet s.dev i = true)
    (begun : begunFor s.dev 0x95 i = [key]) (found : storeAt s.dev key = some e) (op : entryOp e.entry = 0x95) :
    ∃ t, exec (.freezeComplete i) s = .next { s with dev := t } ∧ Ended s.dev (nowFrozen s.dev i) t (laterCtx e) Ret.ok := by
  have row : specOf (entryOp e.entry) = specOf 0x95 := congrArg specOf op
  have ends : exec (.freezeComplete i) s = .next { s with dev := finish (completeKey (nowFrozen s.dev i) key Ret.ok) } := by
    have same : begunFor (nowFrozen s.dev i) 0x95 i = [key] := begun
    show execFreezeComplete i s = _
    unfold execFreezeComplete
    rw [perform_eq, if_neg (by simp [freezing, quiet'])]
    show Host.Outcome.next { s with dev := finish ((begunFor (nowFrozen s.dev i) 0x95 i).foldl _ (nowFrozen s.dev i)) } = _
    rw [same]
    rfl
  exact ⟨_, ends, completeKey_ended found (row.trans rfl) (by rw [op]; decide) rfl rfl⟩

theorem nowFrozen_leaves {s : State} {i : Nat} {t : Dev} {x : Ctx} (known : i ≤ 32) (freezing : insState s.dev i = 2)
    (ended : Ended s.dev (nowFrozen s.dev i) t x Ret.ok) :
    SameMem s.dev t ∧ insState t i = 3 ∧ (∀ n ∈ t.fe.cache, holderOfSession s.dev n ≠ i)
      ∧ OnlyCmd [Reg.INS_STATUS i] s { s with dev := t } x { s.dev with fe := { s.dev.fe with cache := t.fe.cache } } := by
  have cache : t.fe.cache = (nowFrozen s.dev i).fe.cache := by rw [ended.shape]
  have state : insState t i = insState (nowFrozen s.dev i) i :=
    ended.fget (f := RF.INS_STATUS_STATE i) (by show 0x1B0000 + 64 * i + 0x00 < 0x1E0000; omega) (by show 0x1B0000 + 64 * i + 0x00 ≠ 0x150000; omega)
  refine ⟨(sameMem_of_dram rfl).trans ended.mem, ?_, ?_, ended.onlyCmd ?_ (sameRegsBut_fset s.dev (RF.INS_STATUS_STATE i) 3)⟩
  · rw [state]
    exact fget_fset_same s.dev (RF.INS_STATUS_STATE i) 3 (Nat.le_of_ble_eq_true rfl)
  · intro n member
    rw [cache] at member
    have other : holderOfSession (fset s.dev (RF.INS_STATUS_STATE i) 3) n ≠ i := by simpa using (List.mem_filter.mp member).2
    rwa [holderOfSession_fset_state (by rw [freezing]; decide) (by decide)] at other
  · rw [cache]
    exact ended.shape

/-! ### INS_MIG_KEY -/

/-- What a peer presents in an INS_MIG_KEY session passes (R411). -/
def peerPasses (s : Dev) (chain measured : List Byte) : Bool := Config.verifies 0 chain && measuredOk s measured

/-- What INS_MIG_KEY leaves: the key in its slot where the peer passes, or a failure counted, with an entry in the log (R411). -/
def keyTried (s : Dev) (passes : Bool) (slot role key : Nat) : Dev :=
  if passes then logFw { s with trust := { s.trust with slots := tset s.trust.slots slot (role, key) } } 9 (7 + 2 ^ 8 * slot) 0 0 else authFail s

/-- The code of INS_MIG_KEY (R411). -/
def keyCode (passes : Bool) : Nat := if passes then 0 else eAuth

/-- What `keyTried` changes. -/
structure KeyTried (s u : Dev) (passes : Bool) (slot role key : Nat) : Prop where
  slots : u.trust.slots = if passes then tset s.trust.slots slot (role, key) else s.trust.slots
  count : regRead u Reg.FAB_CNT_AUTH_FAILS = if passes then regRead s Reg.FAB_CNT_AUTH_FAILS else (regRead s Reg.FAB_CNT_AUTH_FAILS + 1) % 2 ^ 64
  regs : SameRegsBut ([Reg.FAB_CNT_AUTH_FAILS] ++ logRegs) s u
  shape : u = { s with regs := u.regs, log := u.log, flash := { s.flash with romLog := u.flash.romLog },
                       trust := { s.trust with slots := u.trust.slots } }

theorem keyTried_leaves (s : Dev) (passes : Bool) (slot role key : Nat) : KeyTried s (keyTried s passes slot role key) passes slot role key := by
  have plain : ¬ isLogReg Reg.FAB_CNT_AUTH_FAILS := fun report => absurd (mem_logRegs.mpr report) (by decide)
  unfold keyTried
  cases passes with
  | true =>
    have logged := onlyLog_logFw { s with trust := { s.trust with slots := tset s.trust.slots slot (role, key) } } 9 (7 + 2 ^ 8 * slot) 0 0
    rw [if_pos rfl]
    generalize logFw _ _ _ _ _ = u at logged
    have rest := logged.rest
    rw [logged.flash] at rest
    have trust : u.trust = { s.trust with slots := tset s.trust.slots slot (role, key) } := by rw [rest]
    refine ⟨?_, logged.regs _ plain, fun o others _ => logged.regs o (fun own => others (List.mem_append_right _ (mem_logRegs.mpr own))), ?_⟩
    · rw [trust]
      rfl
    · rw [trust]
      exact rest
  | false =>
    obtain ⟨logged, count⟩ := logEvent_leaves plain s 0
    rw [if_neg Bool.false_ne_true]
    unfold authFail
    generalize logEvent s Reg.FAB_CNT_AUTH_FAILS 0 = u at logged count
    have rest := logged.rest
    rw [logged.flash] at rest
    have trust : u.trust = s.trust := by
      rw [rest]
      rfl
    refine ⟨?_, count, fun o others _ => ?_, ?_⟩
    · rw [trust]
      rfl
    · rw [List.mem_append, not_or] at others
      obtain ⟨own, report⟩ := others
      rw [logged.regs o (fun log => report (mem_logRegs.mpr log))]
      exact regRead_bump_other _ _ _ (fun same => own (List.mem_singleton.mpr same))
    · rw [trust]
      exact rest

section
variable {s : State} {c : Cmd} {x : Ctx} {chain measured : List Byte} {key : Nat}

theorem insMigKey_ends (admits : Admits s.dev 0x99 c x) (slot : eb x.e 16 1 ≤ 7) (role : eb x.e 17 1 ≤ 1) (path : eb x.e 18 1 ≤ 1)
    (reached : eb x.e 18 1 = 0 → eb x.e 20 2 ≤ 32767 ∧ fabReach s.dev (eb x.e 20 2) = true) :
    ∃ t, exec (.insMigKey c chain measured key) s = .next { s with dev := t }
      ∧ Ended s.dev (keyTried s.dev (peerPasses s.dev chain measured) (eb x.e 16 1) (eb x.e 17 1) key) t x
          { Ret.ok with status := keyCode (peerPasses s.dev chain measured) } := by
  have unblocked : s.dev.blocked = [] := free_of_admits admits
  obtain ⟨f, ran, effect⟩ : ∃ f, exec (.insMigKey c chain measured key) s = .next { s with dev := finish (command 0x99 c s.dev f) }
      ∧ f x s.dev = (keyTried s.dev (peerPasses s.dev chain measured) (eb x.e 16 1) (eb x.e 17 1) key,
          .done { Ret.ok with status := keyCode (peerPasses s.dev chain measured) }) := by
    refine ⟨_, rfl, (afterChecks_pass ?_ _).trans ((if_neg ?_).trans ?_)⟩
    · simp only [List.forall_mem_cons, List.not_mem_nil, false_implies, implies_true, and_true]
      simp only [Bool.or_eq_false_iff, Bool.and_eq_false_iff, decide_eq_false_iff_not, beq_eq_false_iff_ne]
      refine ⟨⟨⟨by omega, by omega⟩, by omega⟩, ?_⟩
      by_cases fabric : eb x.e 18 1 = 0
      · obtain ⟨device, -⟩ := reached fabric
        exact .inr (by omega)
      · exact .inl fabric
    · rintro ⟨fabric, unreached⟩
      obtain ⟨-, reach⟩ := reached fabric
      simp [reach] at unreached
    · show (if (!peerPasses s.dev chain measured) = true then _ else _) = _
      cases peerPasses s.dev chain measured with
      | true => rfl
      | false => rfl
  have left := keyTried_leaves s.dev (peerPasses s.dev chain measured) (eb x.e 16 1) (eb x.e 17 1) key
  refine ⟨_, ran, command_ends rfl admits (by decide) effect ?_ ?_ ?_⟩
  · rw [left.shape]
    exact unblocked
  · rw [left.shape]
  · rw [left.shape]

theorem keyTried_ended {passes : Bool} {slot role : Nat} {t : Dev} {r : Ret} (ended : Ended s.dev (keyTried s.dev passes slot role key) t x r) :
    SameMem s.dev t ∧ Completes s.dev t x r ∧ t.trust.slots = (if passes then tset s.dev.trust.slots slot (role, key) else s.dev.trust.slots)
      ∧ regRead t Reg.FAB_CNT_AUTH_FAILS
          = (if passes then regRead s.dev Reg.FAB_CNT_AUTH_FAILS else (regRead s.dev Reg.FAB_CNT_AUTH_FAILS + 1) % 2 ^ 64)
      ∧ OnlyCmd [Reg.FAB_CNT_AUTH_FAILS] s { s with dev := t } x { s.dev with trust := { s.dev.trust with slots := t.trust.slots } } := by
  obtain ⟨slots, count, regs, shape⟩ := keyTried_leaves s.dev passes slot role key
  generalize keyTried s.dev passes slot role key = u at ended slots count regs shape
  have trust : t.trust = u.trust := by rw [ended.shape]
  refine ⟨(sameMem_of_dram ?_).trans ended.mem, ended.completes, ?_, ?_, ended.onlyCmd_logged ?_ regs⟩
  · rw [shape]
  · rw [trust, slots]
  · rw [ended.regs _ (by decide) (by decide), count]
  · have rest := ended.shape
    rw [shape] at rest
    rw [trust]
    exact rest

end

end Sys2Proof.Machine
end

section
/-!
SUPPORT. Frames assigned to an instance and given back: their bytes, POISON bits, owners and lines (R398, R405).
-/
namespace Sys2Proof.Machine

/-- What is listed late or early is listed. -/
theorem ite_mem_append {α β : Type} [DecidableEq α] (x : α) (l m : List α) (a b : β) :
    (if x ∈ m then a else if x ∈ l then a else b) = if x ∈ l ++ m then a else b := by
  by_cases late : x ∈ m
  · simp [late]
  · simp [late]

/-! ### A frame of zeros -/

theorem dramByte_dramZeroFrame_if (d : Dram) (f a : Nat) : dramByte (dramZeroFrame d f) a = if a / 2 ^ 21 = f then 0 else dramByte d a := by
  split
  · next own => exact dramByte_dramZeroFrame d f a own
  · next other => exact dramByte_dramZeroFrame_other d other

theorem dramPoisoned_dramZeroFrame (d : Dram) (f sec : Nat) :
    dramPoisoned (dramZeroFrame d f) sec = if sec / 2 ^ 16 = f then false else dramPoisoned d sec := by
  unfold dramPoisoned
  rw [Bool.eq_iff_iff, List.contains_iff_mem]
  show sec ∈ d.poison.filter (fun x => x / 2 ^ 16 != f) ↔ _
  rw [List.mem_filter, bne_iff_ne]
  split
  · next own => simp only [own, ne_eq, not_true_eq_false, and_false, Bool.false_eq_true]
  · next other => simp only [ne_eq, other, not_false_eq_true, and_true, List.contains_iff_mem]

/-! ### Frames assigned -/

/-- Frames `l` have been assigned to `i`: they hold zeros, and nothing waits to be written to them. -/
structure Assigned (i : Nat) (l : List Nat) (s t : Dev) : Prop where
  regs : ∀ o, o ≠ Reg.MEM_CNT_HOLE_WRITES → regRead t o = regRead s o
  rest : t = { s with
    regs := t.regs, dram := t.dram, ins := { s.ins with owner := t.ins.owner }, mem := { s.mem with writes := t.mem.writes, wcb := t.mem.wcb } }
  owner : ∀ fr, tget t.ins.owner fr = if fr ∈ l then some i else tget s.ins.owner fr
  bytes : ∀ a, dramByte t.dram a = if a / 2 ^ 21 ∈ l then 0 else dramByte s.dram a
  poison : ∀ sec, dramPoisoned t.dram sec = if sec / 2 ^ 16 ∈ l then false else dramPoisoned s.dram sec

theorem assignFrame_assigned (s : Dev) (i fr : Nat) : Assigned i [fr] s (assignFrame s i fr) := by
  obtain ⟨n, isN⟩ : ∃ n, n = if fget s RF.MEM_TIER_A_STATUS_HOLES = 0 ∧ fget s RF.MEM_TIER_B_STATUS_HOLES = 0 then 0 else holeLines s fr := ⟨_, rfl⟩
  obtain ⟨u, isU⟩ : ∃ u, u = if n = 0 then s else bumpBy s Reg.MEM_CNT_HOLE_WRITES n := ⟨_, rfl⟩
  have whole : assignFrame s i fr = { dropWrites u fr with dram := dramZeroFrame u.dram fr, ins := { u.ins with owner := tset u.ins.owner fr i } } := by
    rw [isU, isN]
    rfl
  have counted : Rewritten [Reg.MEM_CNT_HOLE_WRITES] s u := by
    rw [isU]
    split
    · exact .refl _ s
    · exact ⟨fun o other => regRead_regWrite_other _ _ _ _ (fun own => other (List.mem_singleton.mpr own)), rfl⟩
  have dram : u.dram = s.dram := by rw [counted.rest]
  have owner : u.ins.owner = s.ins.owner := by rw [counted.rest]
  clear isN isU
  rw [whole]
  refine ⟨fun o other => counted.regs o (by simpa using other), ?_, fun f => ?_, fun a => ?_, fun sec => ?_⟩
  · rw [counted.rest]
    rfl
  · show tget (tset u.ins.owner fr i) f = _
    rw [owner]
    by_cases own : f = fr
    · subst own
      simp
    · rw [tget_tset_other _ _ _ _ own]
      simp [own]
  · show dramByte (dramZeroFrame u.dram fr) a = _
    rw [dram, dramByte_dramZeroFrame_if]
    simp only [List.mem_singleton]
  · show dramPoisoned (dramZeroFrame u.dram fr) sec = _
    rw [dram, dramPoisoned_dramZeroFrame]
    simp only [List.mem_singleton]

theorem Assigned.trans {i : Nat} {l m : List Nat} {s t u : Dev} (h : Assigned i l s t) (k : Assigned i m t u) : Assigned i (l ++ m) s u := by
  refine ⟨fun o other => (k.regs o other).trans (h.regs o other), ?_, fun fr => ?_, fun a => ?_, fun sec => ?_⟩
  · rw [k.rest, h.rest]
  · rw [k.owner, h.owner]
    exact ite_mem_append _ _ _ _ _
  · rw [k.bytes, h.bytes]
    exact ite_mem_append _ _ _ _ _
  · rw [k.poison, h.poison]
    exact ite_mem_append _ _ _ _ _

theorem assignFrame_all (i : Nat) (l : List Nat) (s : Dev) : Assigned i l s (l.foldl (fun s fr => assignFrame s i fr) s) := by
  induction l generalizing s with
  | nil => exact ⟨fun _ _ => rfl, rfl, fun _ => by simp, fun _ => by simp, fun _ => by simp⟩
  | cons fr l ih => exact (assignFrame_assigned s i fr).trans (ih _)

/-! ### Frames given back -/

/-- Frames `l` are not owned any more, and their lines have left the slices. -/
structure Released (l : List Nat) (s t : Dev) : Prop where
  regs : ∀ o, o < 0x150400 ∨ 0x150560 ≤ o → regRead t o = regRead s o
  rest : t = { s with
    regs := t.regs, shore := { s.shore with lines := t.shore.lines }, mem := { s.mem with writes := t.mem.writes, wcb := t.mem.wcb },
    dram := { s.dram with held := t.dram.held }, ins := { s.ins with owner := t.ins.owner } }
  owner : ∀ fr, tget t.ins.owner fr = if fr ∈ l then none else tget s.ins.owner fr
  owners : ∀ p ∈ t.ins.owner, p ∈ s.ins.owner ∧ p.1 ∉ l
  lines : ∀ k, lineAt t k = if k / 2 ^ 15 ∈ l then none else lineAt s k

theorem releaseFrame_released {s : Dev} {fr : Nat} (free : ∀ k ∈ tkeys s.shore.dir, k / 2 ^ 15 ≠ fr) : Released [fr] s (releaseFrame s fr) := by
  obtain ⟨swept, lines⟩ := clearFrame_swept free
  unfold releaseFrame
  generalize clearFrame s fr = u at swept lines
  have owner : u.ins.owner = s.ins.owner := by rw [swept.rest]
  refine ⟨swept.regs, ?_, fun f => ?_, fun p inside => ?_, fun k => ?_⟩
  · rw [swept.rest]
  · show tget (tdel u.ins.owner fr) f = _
    rw [owner]
    by_cases own : f = fr
    · subst own
      simp
    · rw [tget_tdel_other _ _ _ own]
      simp [own]
  · obtain ⟨kept, apart⟩ := List.mem_filter.mp (show p ∈ tdel u.ins.owner fr from inside)
    rw [owner] at kept
    exact ⟨kept, by simpa using apart⟩
  · simp only [List.mem_singleton]
    exact lines k

theorem Released.trans {l m : List Nat} {s t u : Dev} (h : Released l s t) (k : Released m t u) : Released (l ++ m) s u := by
  refine ⟨fun o apart => (k.regs o apart).trans (h.regs o apart), ?_, fun fr => ?_, fun p inside => ?_, fun a => ?_⟩
  · rw [k.rest, h.rest]
  · rw [k.owner, h.owner]
    exact ite_mem_append _ _ _ _ _
  · obtain ⟨later, apart'⟩ := k.owners p inside
    obtain ⟨earlier, apart⟩ := h.owners p later
    exact ⟨earlier, fun own => (List.mem_append.mp own).elim apart apart'⟩
  · rw [k.lines, h.lines]
    exact ite_mem_append _ _ _ _ _

theorem releaseFrame_all {l : List Nat} {s : Dev} (free : ∀ k ∈ tkeys s.shore.dir, k / 2 ^ 15 ∉ l) : Released l s (l.foldl releaseFrame s) := by
  induction l generalizing s with
  | nil => exact ⟨fun _ _ => rfl, rfl, fun _ => by simp, fun _ inside => ⟨inside, List.not_mem_nil⟩, fun _ => by simp⟩
  | cons fr l ih =>
    have first := releaseFrame_released (s := s) (fr := fr) (fun k listed own => free k listed (List.mem_cons.mpr (.inl own)))
    have dir : (releaseFrame s fr).shore.dir = s.shore.dir := by rw [first.rest]
    refine first.trans (ih (fun k listed own => ?_))
    rw [dir] at listed
    exact free k listed (List.mem_cons.mpr (.inr own))

/-! ### Owners -/

/-- What is reserved depends on the capacities and the reserved bases. -/
theorem reservedFrame_congr {s t : Dev} (same : ∀ o ∈ [Reg.MEM_RSVD_A, Reg.MEM_RSVD_B, Reg.MEM_TIER_A_CAP, Reg.MEM_TIER_B_CAP], regRead t o = regRead s o)
    (fr : Nat) : reservedFrame t fr = reservedFrame s fr := by
  have field (f : Fld) (named : f.off ∈ [Reg.MEM_RSVD_A, Reg.MEM_RSVD_B, Reg.MEM_TIER_A_CAP, Reg.MEM_TIER_B_CAP]) : fget t f = fget s f :=
    congrArg (fun v => bitsOf v f.lo f.width) (same f.off named)
  unfold reservedFrame inA inB capA capB
  rw [field RF.MEM_RSVD_A_VALUE (by decide), field RF.MEM_RSVD_B_VALUE (by decide), field RF.MEM_TIER_A_CAP_VALUE (by decide),
    field RF.MEM_TIER_B_CAP_VALUE (by decide)]

/-- Keeping INS_FRAMES writes that register alone. -/
theorem rewritten_showFrames (s : Dev) (i : Nat) : Rewritten [Reg.INS_FRAMES i] s (showFrames s i) :=
  (rewritten_fset s (RF.INS_FRAMES_FRAMES_A i) _ (List.mem_singleton.mpr rfl)).trans
    (rewritten_fset _ (RF.INS_FRAMES_FRAMES_B i) _ (List.mem_singleton.mpr rfl))

end Sys2Proof.Machine
end

section
/-!
The clauses of the obligation on frames that an instance is given and gives back (R398, R405).
-/
namespace Sys2Proof.Machine

/-- Who holds a session index follows from INS_STATUS and INS_SESSIONS. -/
theorem holderOfSession_of_registers {s t : Dev} (status : ∀ k, k ≤ 32 → regRead t (Reg.INS_STATUS k) = regRead s (Reg.INS_STATUS k))
    (sessions : ∀ k, k ≤ 32 → regRead t (Reg.INS_SESSIONS k) = regRead s (Reg.INS_SESSIONS k)) (n : Nat) :
    holderOfSession t n = holderOfSession s n := by
  have agree : ∀ k ∈ List.range 32, (insState t (k + 1) != 0 && decide (fget t (RF.INS_SESSIONS_FIRST (k + 1)) ≤ n)
        && decide (n < fget t (RF.INS_SESSIONS_FIRST (k + 1)) + fget t (RF.INS_SESSIONS_COUNT (k + 1))))
      = (insState s (k + 1) != 0 && decide (fget s (RF.INS_SESSIONS_FIRST (k + 1)) ≤ n)
        && decide (n < fget s (RF.INS_SESSIONS_FIRST (k + 1)) + fget s (RF.INS_SESSIONS_COUNT (k + 1)))) := by
    intro k member
    have known : k + 1 ≤ 32 := by
      rw [List.mem_range] at member
      omega
    have state := insState_of_status (status _ known)
    have first : fget t (RF.INS_SESSIONS_FIRST (k + 1)) = fget s (RF.INS_SESSIONS_FIRST (k + 1)) := congrArg (fun v => bitsOf v 0 20) (sessions _ known)
    have count : fget t (RF.INS_SESSIONS_COUNT (k + 1)) = fget s (RF.INS_SESSIONS_COUNT (k + 1)) := congrArg (fun v => bitsOf v 32 21) (sessions _ known)
    rw [state, first, count]
  unfold holderOfSession
  rw [List.find?_congr agree]

section
variable {s : State} {c : Cmd} {x : Ctx}

/-! ### Assignment -/

/-- The module after INS_MEM has assigned a run of frames. -/
def runAssigned (s : Dev) (i first n : Nat) : Dev := showFrames ((runOf first n).foldl (fun s fr => assignFrame s i fr) s) i

theorem insMemAssign_ends (some' : 0 < eb x.e 24 4) (mapped : framesMapped s.dev (eb x.e 20 4) (eb x.e 24 4) = true)
    (exists' : insState s.dev (eb x.e 16 1) ≠ 0) (running : insState s.dev (eb x.e 16 1) ≠ 4)
    (filling : insState s.dev (eb x.e 16 1) = 2 ∨ insState s.dev (eb x.e 16 1) = 3 → eb x.e 16 1 ∈ s.dev.ins.unfilled)
    (admits : Admits s.dev 0x91 c x) (assigns : eb x.e 17 1 = 0)
    (free : ∀ fr ∈ runOf (eb x.e 20 4) (eb x.e 24 4), reservedFrame s.dev fr = false ∧ ownerOf s.dev fr = 0xFF) :
    ∃ t, exec (.insMemAssign c) s = .next { s with dev := t }
      ∧ Ended s.dev (runAssigned s.dev (eb x.e 16 1) (eb x.e 20 4) (eb x.e 24 4)) t x Ret.ok := by
  have own : otherOp 17 0 c s.dev 0x91 = false := otherOp_own admits (by simp [assigns])
  obtain ⟨f, ran, effect⟩ : ∃ f, exec (.insMemAssign c) s = .next { s with dev := finish (command 0x91 c s.dev f) }
      ∧ f x s.dev = (runAssigned s.dev (eb x.e 16 1) (eb x.e 20 4) (eb x.e 24 4), .done Ret.ok) := by
    show ∃ f, execInsMemAssign c s = _ ∧ _
    unfold execInsMemAssign
    rw [perform_eq, own]
    refine ⟨_, rfl, (afterChecks_pass ?_ _).trans rfl⟩
    simp only [List.forall_mem_append, List.forall_mem_cons, List.not_mem_nil, false_implies, implies_true, and_true]
    refine ⟨⟨?_, resizable_pass exists' running filling⟩, ?_⟩
    · have unreserved : (runOf (eb x.e 20 4) (eb x.e 24 4)).any (reservedFrame s.dev) = false := by
        rw [List.any_eq_false]
        intro fr member
        obtain ⟨unreserved, -⟩ := free fr member
        rw [unreserved]
        exact Bool.false_ne_true
      simp [assigns, mapped, unreserved, Nat.pos_iff_ne_zero.mp some']
    · rw [List.any_eq_false]
      intro fr member
      obtain ⟨-, unowned⟩ := free fr member
      simp [unowned]
  have shown := rewritten_showFrames ((runOf (eb x.e 20 4) (eb x.e 24 4)).foldl (fun s fr => assignFrame s (eb x.e 16 1) fr) s.dev) (eb x.e 16 1)
  have assigned := assignFrame_all (eb x.e 16 1) (runOf (eb x.e 20 4) (eb x.e 24 4)) s.dev
  have unblocked : s.dev.blocked = [] := free_of_admits admits
  refine ⟨_, ran, command_ends rfl admits (by decide) effect ?_ ?_ ?_⟩
  · unfold runAssigned
    rw [shown.rest, assigned.rest]
    exact unblocked
  · unfold runAssigned
    rw [shown.rest, assigned.rest]
  · unfold runAssigned
    rw [shown.rest, assigned.rest]

/-- Registers of the capacities and the reserved bases lie below what frames change. -/
theorem reservedFrame_of_low {s t : Dev} (same : ∀ o, 0x160000 ≤ o → o < 0x160030 → regRead t o = regRead s o) (fr : Nat) :
    reservedFrame t fr = reservedFrame s fr := by
  have within : ∀ o ∈ [Reg.MEM_RSVD_A, Reg.MEM_RSVD_B, Reg.MEM_TIER_A_CAP, Reg.MEM_TIER_B_CAP], 0x160000 ≤ o ∧ o < 0x160030 := by decide
  refine reservedFrame_congr (fun o named => ?_) fr
  obtain ⟨low, high⟩ := within o named
  exact same o low high

theorem runAssigned_leaves {i first n : Nat} {t : Dev} {r : Ret}
    (free : ∀ fr ∈ runOf first n, reservedFrame s.dev fr = false ∧ ownerOf s.dev fr = 0xFF) (ended : Ended s.dev (runAssigned s.dev i first n) t x r) :
    (∀ fr, ownerOf t fr = if first ≤ fr ∧ fr < first + n then i else ownerOf s.dev fr)
      ∧ (∀ a, dramByte t.dram a = if first ≤ a / 2 ^ 21 ∧ a / 2 ^ 21 < first + n then 0 else dramByte s.dev.dram a)
      ∧ (∀ sec, dramPoisoned t.dram sec = (dramPoisoned s.dev.dram sec && !(decide (first ≤ sec / 2 ^ 16) && decide (sec / 2 ^ 16 < first + n))))
      ∧ OnlyCmd [Reg.INS_FRAMES i, Reg.MEM_CNT_HOLE_WRITES] s { s with dev := t } x
          { s.dev with ins := { s.dev.ins with owner := t.ins.owner },
                       mem := { s.dev.mem with writes := t.mem.writes, wcb := t.mem.wcb } } := by
  obtain ⟨regs, rest, owner, bytes, poison⟩ := assignFrame_all i (runOf first n) s.dev
  unfold runAssigned at ended
  generalize (runOf first n).foldl (fun s fr => assignFrame s i fr) s.dev = u at ended regs rest owner bytes poison
  have shown := rewritten_showFrames u i
  generalize showFrames u i = v at ended shown
  have frames : Reg.INS_FRAMES i = 0x1B0000 + 64 * i + 0x20 := rfl
  have holes : Reg.MEM_CNT_HOLE_WRITES = 0x160068 := rfl
  have ins : t.ins = u.ins := by
    rw [ended.shape, shown.rest]
  have mem : t.mem = u.mem := by
    rw [ended.shape, shown.rest]
  have dram : v.dram = u.dram := by rw [shown.rest]
  obtain ⟨same, marks, -⟩ := ended.mem
  refine ⟨fun fr => ?_, fun a => ?_, fun sec => ?_, ended.onlyCmd ?_ (fun o others _ => ?_)⟩
  · have reserved : reservedFrame t fr = reservedFrame s.dev fr := by
      refine reservedFrame_of_low (fun o low high => ?_) fr
      rw [ended.regs o (fun report => absurd (logRegs_high o report) (by omega)) (by show o ≠ 0x150000; omega), shown.regs o ?_, regs o (by omega)]
      rw [List.mem_singleton]
      omega
    unfold ownerOf
    rw [reserved, ins]
    unfold tgetD
    rw [owner]
    by_cases within : fr ∈ runOf first n
    · rw [(free fr within).1, if_pos within, if_pos (mem_runOf.mp within)]
      rfl
    · rw [if_neg within, if_neg (fun own => within (mem_runOf.mpr own))]
  · rw [same, dram, bytes]
    simp only [mem_runOf]
  · have here : dramPoisoned t.dram sec = dramPoisoned u.dram sec := by
      unfold dramPoisoned
      rw [marks, dram]
    rw [here, poison]
    by_cases within : sec / 2 ^ 16 ∈ runOf first n
    · rw [if_pos within]
      obtain ⟨low, high⟩ := mem_runOf.mp within
      rw [decide_eq_true low, decide_eq_true high, Bool.and_self, Bool.not_true, Bool.and_false]
    · rw [if_neg within]
      have off : (decide (first ≤ sec / 2 ^ 16) && decide (sec / 2 ^ 16 < first + n)) = false := by
        rw [← Bool.not_eq_true, Bool.and_eq_true, decide_eq_true_eq, decide_eq_true_eq]
        exact fun own => within (mem_runOf.mpr own)
      rw [off, Bool.not_false, Bool.and_true]
  · have shape := ended.shape
    rw [shown.rest, rest] at shape
    rw [ins, mem]
    exact shape
  · simp only [List.mem_cons, List.not_mem_nil, or_false, not_or] at others
    obtain ⟨offFrames, offHoles⟩ := others
    rw [shown.regs o (by rw [List.mem_singleton]; exact offFrames), regs o offHoles]

/-! ### Release -/

/-- The module after INS_MEM has released a run of frames. -/
def runReleased (s : Dev) (i first n : Nat) : Dev := showFrames ((runOf first n).foldl releaseFrame s) i

section
variable {s1 : Dev} {i first n : Nat}

theorem insMemRelease_ends {mig : List Nat} (own : i = eb x.e 16 1) (from' : first = eb x.e 20 4) (count : n = eb x.e 24 4) (some' : 0 < n)
    (mapped : framesMapped s1 first n = true) (exists' : insState s1 i ≠ 0) (running : insState s1 i ≠ 4)
    (filling : insState s1 i = 2 ∨ insState s1 i = 3 → i ∈ s1.ins.unfilled) (admits : Admits s.dev 0x91 c x) (releases : eb x.e 17 1 = 1)
    (walked : migFrames s.dev i = (s1, mig)) (unblocked : s1.blocked = []) (fe : s1.fe = s.dev.fe)
    (free : ∀ fr ∈ runOf first n, owns s1 i fr = true ∧ inPool s1 fr = false ∧ fr ∉ mig ∧ inExport s1 fr = false ∧ holdsRing s1 fr = false)
    (undirected : ∀ p ∈ s1.shore.dir, p.1 / 2 ^ 15 < first ∨ first + n ≤ p.1 / 2 ^ 15) :
    ∃ t, exec (.insMemRelease c) s = .next { s with dev := t } ∧ Released (runOf first n) s1 ((runOf first n).foldl releaseFrame s1)
      ∧ Ended s1 (runReleased s1 i first n) t x Ret.ok := by
  have alone : otherOp 17 1 c s.dev 0x91 = false := otherOp_own admits (by rw [releases])
  subst own from' count
  obtain ⟨f, ran, effect⟩ : ∃ f, exec (.insMemRelease c) s = .next { s with dev := finish (command 0x91 c s.dev f) }
      ∧ f x s.dev = (runReleased s1 (eb x.e 16 1) (eb x.e 20 4) (eb x.e 24 4), .done Ret.ok) := by
    show ∃ f, execInsMemRelease c s = _ ∧ _
    unfold execInsMemRelease
    rw [perform_eq, alone]
    refine ⟨_, rfl, ?_⟩
    dsimp only
    rw [walked]
    refine (afterChecks_pass ?_ _).trans rfl
    simp only [List.forall_mem_append, List.forall_mem_cons, List.not_mem_nil, false_implies, implies_true, and_true]
    refine ⟨⟨?_, resizable_pass exists' running filling⟩, ?_⟩
    · have owned : (runOf (eb x.e 20 4) (eb x.e 24 4)).any (fun fr => !owns s1 (eb x.e 16 1) fr) = false := by
        rw [List.any_eq_false]
        intro fr member
        obtain ⟨mine, -⟩ := free fr member
        simp [mine]
      simp [releases, mapped, owned, Nat.pos_iff_ne_zero.mp some']
    · rw [List.any_eq_false]
      intro fr member
      obtain ⟨-, pool, apart, exported, ring⟩ := free fr member
      simp [pool, apart, exported, ring]
  have released : Released (runOf (eb x.e 20 4) (eb x.e 24 4)) s1 ((runOf (eb x.e 20 4) (eb x.e 24 4)).foldl releaseFrame s1) := by
    refine releaseFrame_all (fun k listed own => ?_)
    obtain ⟨p, member, rfl⟩ := List.mem_map.mp listed
    have apart := undirected p member
    have within := mem_runOf.mp own
    omega
  have shown := rewritten_showFrames ((runOf (eb x.e 20 4) (eb x.e 24 4)).foldl releaseFrame s1) (eb x.e 16 1)
  have front : (runReleased s1 (eb x.e 16 1) (eb x.e 20 4) (eb x.e 24 4)).fe = s1.fe := by
    unfold runReleased
    rw [shown.rest, released.rest]
  refine ⟨_, ran, released, (command_ends rfl admits (by decide) effect ?_ ?_ ?_).of_fe fe⟩
  · unfold runReleased
    rw [shown.rest, released.rest]
    exact unblocked
  · rw [front, fe]
  · rw [front, fe]

theorem runReleased_leaves {t : Dev} {r : Ret} (known : i ≤ 32) (owned : ∀ fr ∈ runOf first n, owns s1 i fr = true)
    (released : Released (runOf first n) s1 ((runOf first n).foldl releaseFrame s1)) (ended : Ended s1 (runReleased s1 i first n) t x r) :
    SameBytes s1 t ∧ (∀ fr, ownerOf t fr = if first ≤ fr ∧ fr < first + n then 0xFF else ownerOf s1 fr)
      ∧ (∀ k, lineAt t k = if first ≤ k / 2 ^ 15 ∧ k / 2 ^ 15 < first + n then none else lineAt s1 k)
      ∧ (∀ n, sesAt t n = sesAt s1 n) ∧ t.cores = s1.cores ∧ t.disp = s1.disp := by
  obtain ⟨regs, rest, owner, -, lines⟩ := released
  unfold runReleased at ended
  generalize (runOf first n).foldl releaseFrame s1 = u at ended regs rest owner lines
  have shown := rewritten_showFrames u i
  generalize showFrames u i = v at ended shown
  have frames : Reg.INS_FRAMES i = 0x1B0000 + 64 * i + 0x20 := rfl
  have ins : t.ins = u.ins := by rw [ended.shape, shown.rest]
  have shore : t.shore = u.shore := by rw [ended.shape, shown.rest]
  have sessions : t.fe.sessions = s1.fe.sessions := by rw [ended.shape, shown.rest, rest]
  have dram : v.dram = u.dram := by rw [shown.rest]
  have kept {o : Nat} (above : 0x150560 ≤ o) (below : o < 0x1E0000) (other : o ≠ Reg.INS_FRAMES i) : regRead t o = regRead s1 o := by
    rw [ended.regs o (fun report => absurd (logRegs_high o report) (by omega)) (by show o ≠ 0x150000; omega),
      shown.regs o (by rw [List.mem_singleton]; exact other), regs o (.inr above)]
  obtain ⟨same, -⟩ := ended.mem
  refine ⟨fun a => ?_, fun fr => ?_, fun k => ?_, fun n => ?_, ?_, ?_⟩
  · rw [same, dram, rest]
    rfl
  · have reserved : reservedFrame t fr = reservedFrame s1 fr := reservedFrame_of_low (fun o low high => kept (by omega) (by omega) (by omega)) fr
    unfold ownerOf
    rw [reserved, ins]
    unfold tgetD
    rw [owner]
    by_cases within : fr ∈ runOf first n
    · have mine := owned fr within
      have unreserved : reservedFrame s1 fr = false := by
        rw [← Bool.not_eq_true]
        intro held
        unfold owns ownerOf at mine
        rw [held, if_pos rfl, Bool.and_eq_true, beq_iff_eq] at mine
        omega
      rw [unreserved, if_pos within, if_pos (mem_runOf.mp within)]
      rfl
    · rw [if_neg within, if_neg (fun own => within (mem_runOf.mpr own))]
  · have here : lineAt t k = lineAt u k := by
      unfold lineAt
      rw [shore]
    rw [here, lines]
    simp only [mem_runOf]
  · refine sesAt_congr (by rw [sessions]) (holderOfSession_of_registers (fun k known => kept ?_ ?_ ?_) (fun k known => kept ?_ ?_ ?_) n)
    · show 0x150560 ≤ 0x1B0000 + 64 * k + 0x00
      omega
    · show 0x1B0000 + 64 * k + 0x00 < 0x1E0000
      omega
    · show 0x1B0000 + 64 * k + 0x00 ≠ 0x1B0000 + 64 * i + 0x20
      omega
    · show 0x150560 ≤ 0x1B0000 + 64 * k + 0x10
      omega
    · show 0x1B0000 + 64 * k + 0x10 < 0x1E0000
      omega
    · show 0x1B0000 + 64 * k + 0x10 ≠ 0x1B0000 + 64 * i + 0x20
      omega
  · rw [ended.shape, shown.rest, rest]
  · rw [ended.shape, shown.rest, rest]

end

end

end Sys2Proof.Machine
end

section
/-!
The clause of the obligation on INS_RESUME (R415).
-/
namespace Sys2Proof.Machine

/-- An end is judged by the rings and the store alone of what was before. -/
theorem Ended.of_rings {s v u t : Dev} {x : Ctx} {r : Ret} (ended : Ended s u t x r) (store : v.fe.store = s.fe.store) (rings : v.fe.rings = s.fe.rings) :
    Ended v u t x r := by
  obtain ⟨shape, mem, regs, completes, others, entries⟩ := ended
  refine ⟨shape, mem, regs, ?_, ?_, ?_⟩
  · unfold Completes ringAt at completes ⊢
    rw [rings]
    exact completes
  · intro k other
    rw [others k other]
    unfold ringAt
    rw [rings]
  · rw [store, entries]

theorem mem_foldl_insertNat {α : Type} (get : α → Nat) (l : List α) (m : List Nat) (k : Nat) :
    k ∈ l.foldl (fun m p => insertNat (get p) m) m ↔ k ∈ m ∨ ∃ p ∈ l, get p = k := by
  induction l generalizing m with
  | nil => simp
  | cons p l ih =>
    rw [List.foldl_cons, ih, mem_insertNat]
    simp only [List.mem_cons, exists_eq_or_imp]
    constructor
    · rintro ((rfl | old) | late)
      · exact .inr (.inl rfl)
      · exact .inl old
      · exact .inr (.inr late)
    · rintro (old | rfl | late)
      · exact .inl (.inr old)
      · exact .inl (.inl rfl)
      · exact .inr late

/-- An instance that runs again, its rings woken (R286, R415). -/
def runsAgain (s : Dev) (i : Nat) (mine : List (Nat × Ring)) : Dev :=
  let s := fset (fset s (RF.INS_STATUS_STATE i) 1) (RF.INS_STATUS_RESTORE_TARGET i) 0
  let s := { s with fe := { s.fe with woken := mine.foldl (fun l p => insertNat p.1 l) s.fe.woken } }
  if mine.isEmpty then s else fset s RF.WCH_STATUS_FE_AWAKE 1

theorem runsAgain_leaves (s : Dev) (i : Nat) (mine : List (Nat × Ring)) :
    insState (runsAgain s i mine) i = 1 ∧ fget (runsAgain s i mine) (RF.INS_STATUS_RESTORE_TARGET i) = 0
      ∧ (∀ p ∈ mine, p.1 ∈ (runsAgain s i mine).fe.woken) ∧ SameRegsBut [Reg.INS_STATUS i, Reg.WCH_STATUS] s (runsAgain s i mine)
      ∧ runsAgain s i mine = { s with regs := (runsAgain s i mine).regs, fe := { s.fe with woken := (runsAgain s i mine).fe.woken } } := by
  obtain ⟨state, target⟩ := fget_fset_fset s (f := RF.INS_STATUS_STATE i) (g := RF.INS_STATUS_RESTORE_TARGET i) 1 0 (Nat.le_of_ble_eq_true rfl)
    (Nat.le_of_ble_eq_true rfl)
  obtain ⟨u, isU⟩ : ∃ u, u = fset (fset s (RF.INS_STATUS_STATE i) 1) (RF.INS_STATUS_RESTORE_TARGET i) 0 := ⟨_, rfl⟩
  have written : Rewritten [Reg.INS_STATUS i] s u := by
    rw [isU]
    exact (rewritten_fset s (RF.INS_STATUS_STATE i) 1 (List.mem_singleton.mpr rfl)).trans
      (rewritten_fset _ (RF.INS_STATUS_RESTORE_TARGET i) 0 (List.mem_singleton.mpr rfl))
  rw [← isU] at state target
  obtain ⟨v, isV⟩ : ∃ v : Dev, v = { u with fe := { u.fe with woken := mine.foldl (fun l p => insertNat p.1 l) u.fe.woken } } := ⟨_, rfl⟩
  obtain ⟨w, isW⟩ : ∃ w, w = if mine.isEmpty then v else fset v RF.WCH_STATUS_FE_AWAKE 1 := ⟨_, rfl⟩
  have whole : runsAgain s i mine = w := by
    rw [isW, isV, isU]
    rfl
  have awake : Rewritten [Reg.WCH_STATUS] v w := by
    rw [isW]
    split
    · exact .refl _ v
    · exact rewritten_fset v RF.WCH_STATUS_FE_AWAKE 1 (List.mem_singleton.mpr rfl)
  have apart : Reg.INS_STATUS i ∉ [Reg.WCH_STATUS] := by
    rw [List.mem_singleton]
    have low : Reg.WCH_STATUS < 0x1B0000 := by decide
    show 0x1B0000 + 64 * i + 0x00 ≠ Reg.WCH_STATUS
    omega
  have regs : v.regs = u.regs := by rw [isV]
  have woken : w.fe.woken = mine.foldl (fun l p => insertNat p.1 l) s.fe.woken := by
    rw [awake.rest, isV, written.rest]
  rw [whole]
  clear whole isW isU
  refine ⟨?_, ?_, fun p member => ?_, fun o others _ => ?_, ?_⟩
  · unfold insState
    rw [awake.fget (f := RF.INS_STATUS_STATE i) apart, fget_congr regs, state]
    rfl
  · rw [awake.fget (f := RF.INS_STATUS_RESTORE_TARGET i) apart, fget_congr regs, target]
    rfl
  · rw [woken, mem_foldl_insertNat]
    exact .inr ⟨p, member, rfl⟩
  · simp only [List.mem_cons, List.not_mem_nil, or_false, not_or] at others
    obtain ⟨status, front⟩ := others
    rw [awake.regs o (by rw [List.mem_singleton]; exact front), regRead_congr regs, written.regs o (by rw [List.mem_singleton]; exact status)]
  · rw [woken]
    rw [awake.rest, isV, written.rest]

section
variable {s : State} {c : Cmd} {x : Ctx} {s1 : Dev} {i : Nat} {mine : List (Nat × Ring)}

theorem insResume_ends (admits : Admits s.dev 0x96 c x) (own : i = eb x.e 16 1) (tenant : 1 ≤ i) (frozen : insState s.dev i = 3)
    (filled : i ∉ s.dev.ins.unfilled) (rings : mine = s.dev.fe.rings.filter (fun p => p.1 / 4096 == i)) (afresh : retranslateAll s.dev mine = (s1, 0))
    (unblocked : s1.blocked = []) (store : s1.fe.store = s.dev.fe.store) :
    ∃ t, exec (.insResume c) s = .next { s with dev := t } ∧ Ended s1 (runsAgain s1 i mine) t x Ret.ok := by
  subst own rings
  obtain ⟨f, ran, effect⟩ : ∃ f, exec (.insResume c) s = .next { s with dev := finish (command 0x96 c s.dev f) }
      ∧ f x s.dev = (runsAgain s1 (eb x.e 16 1) (s.dev.fe.rings.filter (fun p => p.1 / 4096 == eb x.e 16 1)), .done Ret.ok) := by
    refine ⟨_, rfl, (afterChecks_pass ?_ _).trans ?_⟩
    · simp only [List.forall_mem_append, List.forall_mem_cons, List.not_mem_nil, false_implies, implies_true, and_true]
      refine ⟨⟨?_, namedState_pass (by rw [frozen]; decide) (by rw [frozen]; decide)⟩, ?_⟩
      · simp [Nat.one_le_iff_ne_zero.mp tenant]
      · simp [frozen, filled]
    · rw [afresh]
      rfl
  obtain ⟨-, -, -, -, shape⟩ := runsAgain_leaves s1 (eb x.e 16 1) (s.dev.fe.rings.filter (fun p => p.1 / 4096 == eb x.e 16 1))
  generalize runsAgain s1 (eb x.e 16 1) (s.dev.fe.rings.filter (fun p => p.1 / 4096 == eb x.e 16 1)) = u at effect shape ⊢
  have free : u.blocked = [] := by
    rw [shape]
    exact unblocked
  have kept : u.fe.store = s1.fe.store ∧ u.fe.rings = s1.fe.rings := by
    rw [shape]
    exact ⟨rfl, rfl⟩
  have stored : x.origin ≤ 2 → (storeAt u x.key).isSome = true := by
    unfold storeAt
    rw [kept.1, store]
    exact stored_of_admits admits
  exact ⟨_, ran, (command_ends_over rfl admits (by decide) effect free stored).of_rings kept.1.symm kept.2.symm⟩

theorem runsAgain_ended {t : Dev} (known : i ≤ 32) (ended : Ended s1 (runsAgain s1 i mine) t x Ret.ok) :
    SameMem s1 t ∧ Completes s1 t x Ret.ok ∧ insState t i = 1 ∧ fget t (RF.INS_STATUS_RESTORE_TARGET i) = 0 ∧ (∀ p ∈ mine, p.1 ∈ t.fe.woken)
      ∧ OnlyCmd [Reg.INS_STATUS i, Reg.WCH_STATUS] { s with dev := s1 } { s with dev := t } x { s1 with fe := { s1.fe with woken := t.fe.woken } } := by
  obtain ⟨state, target, woken, regs, shape⟩ := runsAgain_leaves s1 i mine
  generalize runsAgain s1 i mine = u at ended state target woken regs shape
  have front : t.fe.woken = u.fe.woken := by rw [ended.shape]
  have kept (f : Fld) (own : f.off = Reg.INS_STATUS i) : fget t f = fget u f :=
    ended.fget (by rw [own]; show 0x1B0000 + 64 * i + 0x00 < 0x1E0000; omega) (by rw [own]; show 0x1B0000 + 64 * i + 0x00 ≠ 0x150000; omega)
  refine ⟨(sameMem_of_dram ?_).trans ended.mem, ended.completes, ?_, ?_, fun p member => ?_,
    Ended.onlyCmd (s := { s with dev := s1 }) ended ?_ regs⟩
  · rw [shape]
  · unfold insState
    rw [kept _ rfl]
    exact state
  · rw [kept _ rfl, target]
  · rw [front]
    exact woken p member
  · have rest := ended.shape
    rw [shape] at rest
    rw [front]
    exact rest

end

end Sys2Proof.Machine
end

section
/-!
The clause of the obligation on INS_SAVE (R412, R413).
-/
namespace Sys2Proof.Machine

theorem firstCode_pass {l : List (Bool × Nat)} (pass : ∀ p ∈ l, p.1 = false) : firstCode l = 0 := by
  induction l with
  | nil => rfl
  | cons p l ih =>
    obtain ⟨b, code⟩ := p
    have clear : b = false := pass (b, code) (List.mem_cons_self ..)
    subst clear
    exact ih (fun q later => pass q (List.mem_cons_of_mem _ later))

theorem slotKey_congr {s t : Dev} (same : t.trust = s.trust) (slot role : Nat) : slotKey t slot role = slotKey s slot role := by
  unfold slotKey
  rw [same]

section
variable {s : State} {c : Cmd} {x : Ctx} {s1 : Dev} {i slot va len key : Nat}

/-- The checks that INS_SAVE and INS_RESTORE make before any access (R412, R414). -/
theorem early_passes (tenant : 1 ≤ i) (few : slot ≤ 7) (aligned : va % 4096 = 0) :
    firstCode [(i == 0 || decide (slot > 7), eArg), (va % 4096 != 0, eAlign)] = 0 := by
  refine firstCode_pass ?_
  simp only [List.forall_mem_cons, List.not_mem_nil, false_implies, implies_true, and_true, Bool.or_eq_false_iff, decide_eq_false_iff_not,
    beq_eq_false_iff_ne, bne_eq_false_iff_eq]
  exact ⟨⟨by omega, by omega⟩, aligned⟩

/-- The module after INS_SAVE has written an image and used the slot up. -/
def savedAs (s : Dev) (va slot : Nat) (b : List Byte) : Dev := clearSlot (vaWrite s 0 va b).1 slot

theorem insSave_runs (own : i = eb x.e 16 1) (tenant : 1 ≤ i) (place : slot = eb x.e 17 1) (few : slot ≤ 7) (at' : va = eb x.e 24 8)
    (length : len = eb x.e 32 8) (aligned : va % 4096 = 0) (checked : vaCheck s.dev 0 va len 1 = (s1, 0))
    (trust : s1.trust = s.dev.trust) (frozen : insState s1 i = 3) (held : slotKey s.dev slot 0 = some key)
    (resumed : fget s1 (RF.FLT_STATUS_UNRESUMED i) = 0) (room : imageBytes (imageOf (flushInstance s1 i) i) ≤ len) :
    ∃ f, exec (.insSave c) s = .next { s with dev := finish (command 0x97 c s.dev f) }
      ∧ f x s.dev = (savedAs (flushInstance s1 i) va slot
          ((Config.sealImage key (imageOf (flushInstance s1 i) i)).take (imageBytes (imageOf (flushInstance s1 i) i))), .done Ret.ok) := by
  have slotHeld : slotKey s1 slot 0 = some key := (slotKey_congr trust slot 0).trans held
  subst own place at' length
  refine ⟨_, rfl, ?_⟩
  dsimp only
  rw [if_neg (not_not.mpr (early_passes tenant few aligned)), checked]
  dsimp only
  refine (afterChecks_pass ?_ _).trans ?_
  · simp only [List.forall_mem_append, List.forall_mem_cons, List.not_mem_nil, false_implies, implies_true, and_true]
    refine ⟨⟨rfl, namedState_pass (by rw [frozen]; decide) (by rw [frozen]; decide)⟩, ?_, ?_, ?_⟩
    · simp [frozen, slotHeld]
    · simp [resumed]
    · simpa using room
  · rw [slotHeld]
    rfl

theorem insSave_ends {f : Ctx → Dev → Dev × CmdRes} {s2 s3 : Dev} {b : List Byte} (admits : Admits s.dev 0x97 c x)
    (effect : f x s.dev = (savedAs s2 va slot b, .done Ret.ok)) (written : s3 = (vaWrite s2 0 va b).1) (free : s3.blocked = [])
    (store : s3.fe.store = s.dev.fe.store) (rings : s3.fe.rings = s.dev.fe.rings) :
    SameMem s3 (finish (command 0x97 c s.dev f)) ∧ Completes s3 (finish (command 0x97 c s.dev f)) x Ret.ok
      ∧ tget (finish (command 0x97 c s.dev f)).trust.slots slot = none
      ∧ OnlyCmd [] { s with dev := s3 } { s with dev := finish (command 0x97 c s.dev f) } x
          { s3 with trust := { s3.trust with slots := tdel s3.trust.slots slot } } := by
  have saved : savedAs s2 va slot b = clearSlot s3 slot := by rw [written]; rfl
  rw [saved] at effect
  have ended : Ended s3 (clearSlot s3 slot) (finish (command 0x97 c s.dev f)) x Ret.ok :=
    (command_ends (s := s) rfl admits (by decide) effect free store rings).of_rings store rings
  have slots : (finish (command 0x97 c s.dev f)).trust.slots = tdel s3.trust.slots slot := by
    rw [ended.shape]
    rfl
  refine ⟨(sameMem_of_dram rfl).trans ended.mem, ended.completes, ?_, Ended.onlyCmd (s := { s with dev := s3 }) ended ended.shape (fun _ _ _ => rfl)⟩
  rw [slots, tget_tdel_same]

end

end Sys2Proof.Machine
end

section
/-!
The clause of the obligation on INS_RESTORE (R414).
-/
namespace Sys2Proof.Machine

/-! ### A command whose end is followed by the resets in progress -/

/-- What the log and an answer leave of the instances' states. -/
theorem OnlyLogAnd.insState {l : List Nat} {u v : Dev} (h : OnlyLogAnd l u v) (apart : ∀ o ∈ l, o < 0x1B0000 ∨ 0x1B0900 ≤ o) {j : Nat} (known : j ≤ 32) :
    insState v j = insState u j := by
  have place : Reg.INS_STATUS j = 0x1B0000 + 64 * j + 0x00 := rfl
  refine insState_of_status (h.regs _ ?_ (by show 0x1B0000 + 64 * j + 0x00 ≠ 0x150000; omega))
  rw [List.mem_append, not_or]
  refine ⟨fun own => ?_, fun report => ?_⟩
  · have off := apart _ own
    omega
  · have high := logRegs_high _ report
    omega

theorem insState_answerCmd (v : Dev) {x : Ctx} {c : Cpl} (data : List Byte) (key : c.key = some x.key) (j : Nat) :
    insState (answerCmd v x c data) j = insState v j := by
  rw [answerCmd_rest v data key]
  rfl

section
variable {s : State} {op : Nat} {c : Cmd} {x : Ctx} {sp : CmdSpec} {f : Ctx → Dev → Dev × CmdRes} {u : Dev}

/-- A command that is done over a module with no reset in progress leaves none to go on with. -/
theorem drainResets_done {r : Ret} (row : specOf op = some sp) (admits : Admits s.dev op c x) (single : op ≠ 0x12) (ran : f x s.dev = (u, .done r))
    (free : u.blocked = []) (idle : ∀ j, j ≤ 32 → insState u j ≠ 4) : drainResets (command op c s.dev f) = command op c s.dev f := by
  obtain ⟨v, logged, -, answered⟩ := command_answers row admits single ran free
  refine drainResets_of_none (fun j known => ?_)
  rw [answered, insState_answerCmd v r.data (cplOf_key x r), logged.insState (by simp) known]
  exact idle j known

/-- One that is rejected leaves none either. -/
theorem drainResets_rejected {code : Nat} (row : specOf op = some sp) (admits : Admits s.dev op c x) (ran : f x s.dev = (u, .reject code))
    (free : u.blocked = []) (idle : ∀ j, j ≤ 32 → insState u j ≠ 4) : drainResets (command op c s.dev f) = command op c s.dev f := by
  obtain ⟨v, counted, -, rejected⟩ := rejectCmd_counts u x (affected sp x) code
  obtain ⟨runs, head, ring⟩ := command_of_admits row admits f
  have unblocked : (rejectCmd u x (affected sp x) code).blocked = [] := by rw [rejected, answerCmd_rest v [] (cplOf_key x _), counted.rest, free]
  have whole : command op c s.dev f = rejectCmd u x (affected sp x) code := by
    rw [runs, runCmd, whole_of_unblocked]
    all_goals simp only [head, ring, ran, unblocked, ne_eq, not_true_eq_false, if_false]
  refine drainResets_of_none (fun j known => ?_)
  rw [whole, rejected, insState_answerCmd v [] (cplOf_key x _), counted.insState (by decide) known]
  exact idle j known

end

/-! ### INS_RESTORE -/

section
variable {s : State} {c : Cmd} {x : Ctx} {s1 s2 : Dev} {i slot va len key code : Nat} {bytes : List Byte}

/-- What INS_RESTORE does once the image has been read (R414). -/
def restoreRead (s : Dev) (i slot key : Nat) (bytes : List Byte) : Dev × CmdRes :=
  match Config.openHead key bytes with
  | none => (s, .reject eAuth)
  | some h =>
    if imageCode s i h ≠ 0 then (s, .reject (imageCode s i h))
    else match Config.openAll key bytes with
      | none => (beginReset { clearSlot s slot with ins := { s.ins with after := tset s.ins.after i 2 } } i, .later)
      | some m => (clearSlot (installImage s i m) slot, .done Ret.ok)

theorem insRestore_runs (own : i = eb x.e 16 1) (tenant : 1 ≤ i) (place : slot = eb x.e 17 1) (few : slot ≤ 7) (at' : va = eb x.e 24 8)
    (length : len = eb x.e 32 8) (aligned : va % 4096 = 0) (checked : vaCheck s.dev 0 va len 0 = (s1, 0))
    (given : vaGiven s1 0 va len x.payload = (s2, bytes, code)) (trust : s1.trust = s.dev.trust) (trust' : s2.trust = s.dev.trust)
    (frozen : insState s1 i = 3) (held : slotKey s.dev slot 1 = some key) (unfilled : i ∈ s1.ins.unfilled) :
    ∃ f, exec (.insRestore c) s = .next { s with dev := finish (drainResets (command 0x98 c s.dev f)) }
      ∧ f x s.dev = restoreRead s2 i slot key bytes := by
  have slotHeld : slotKey s1 slot 1 = some key := (slotKey_congr trust slot 1).trans held
  have slotHeld' : slotKey s2 slot 1 = some key := (slotKey_congr trust' slot 1).trans held
  subst own place at' length
  refine ⟨_, rfl, ?_⟩
  dsimp only
  rw [if_neg (not_not.mpr (early_passes tenant few aligned)), checked]
  dsimp only
  have passes : firstCode ([((0 : Nat) != 0, 0)] ++ namedState s1 (eb x.e 16 1)
      ++ [(insState s1 (eb x.e 16 1) != 3 || (slotKey s1 (eb x.e 17 1) 1).isNone || !s1.ins.unfilled.contains (eb x.e 16 1), eState)]) = 0 := by
    refine firstCode_pass ?_
    simp only [List.forall_mem_append, List.forall_mem_cons, List.not_mem_nil, false_implies, implies_true, and_true]
    refine ⟨⟨rfl, namedState_pass (by rw [frozen]; decide) (by rw [frozen]; decide)⟩, ?_⟩
    simp [frozen, slotHeld, unfilled]
  rw [if_neg (not_not.mpr passes), given]
  dsimp only
  rw [slotHeld']
  rfl

/-- An image that is not sound is rejected, and its target stays as it was. -/
theorem insRestore_rejects {f : Ctx → Dev → Dev × CmdRes} {status : Nat} (admits : Admits s.dev 0x98 c x)
    (effect : f x s.dev = (s2, .reject status)) (free : s2.blocked = []) (fe : s2.fe = s.dev.fe) (ins : s2.ins = s.dev.ins)
    (idle : ∀ j, j < 33 → insState s2 j ≠ 4) :
    Completes s2 (finish (drainResets (command 0x98 c s.dev f))) x { Ret.ok with status := status }
      ∧ (finish (drainResets (command 0x98 c s.dev f))).ins = s.dev.ins := by
  rw [drainResets_rejected rfl admits effect free (fun j known => idle j (by omega))]
  obtain ⟨t, isT, -, completes, ⟨-, shape, -⟩, -⟩ := command_rejects rfl admits effect free fe
  rw [isT]
  refine ⟨completes, ?_⟩
  have rest : t.ins = s2.ins := by
    have whole : t = _ := shape
    rw [whole]
  rw [rest, ins]

/-- An image's target under the image's key generation, and filled. -/
theorem installImage_leaves (s : Dev) (i : Nat) (m : MigImage) :
    fget (installImage s i m) (RF.INS_STATUS_KEY_GEN i) = m.keyGen % 2 ^ 16 ∧ i ∉ (installImage s i m).ins.unfilled := by
  obtain ⟨u, isU⟩ : ∃ u : Dev, installImage s i m = { fset u (RF.INS_STATUS_KEY_GEN i) m.keyGen with
      ins := { (fset u (RF.INS_STATUS_KEY_GEN i) m.keyGen).ins with
        unfilled := (fset u (RF.INS_STATUS_KEY_GEN i) m.keyGen).ins.unfilled.filter (· != i) } } := ⟨_, rfl⟩
  rw [isU]
  refine ⟨?_, fun member => ?_⟩
  · exact fget_fset_same u (RF.INS_STATUS_KEY_GEN i) m.keyGen (Nat.le_of_ble_eq_true rfl)
  · have other := (List.mem_filter.mp member).2
    simp at other

theorem insRestore_installs {f : Ctx → Dev → Dev × CmdRes} {s3 : Dev} {m : MigImage} (admits : Admits s.dev 0x98 c x) (known : i ≤ 32)
    (effect : f x s.dev = (clearSlot s3 slot, .done Ret.ok)) (installed : s3 = installImage s2 i m) (free : s3.blocked = [])
    (store : s3.fe.store = s.dev.fe.store) (idle : ∀ j, j < 33 → insState s3 j ≠ 4) :
    Completes s3 (finish (drainResets (command 0x98 c s.dev f))) x Ret.ok ∧ SameMem s3 (finish (drainResets (command 0x98 c s.dev f)))
      ∧ i ∉ (finish (drainResets (command 0x98 c s.dev f))).ins.unfilled
      ∧ tget (finish (drainResets (command 0x98 c s.dev f))).trust.slots slot = none
      ∧ fget (finish (drainResets (command 0x98 c s.dev f))) (RF.INS_STATUS_KEY_GEN i) = m.keyGen % 2 ^ 16 := by
  have stored : x.origin ≤ 2 → (storeAt (clearSlot s3 slot) x.key).isSome = true := by
    unfold storeAt
    rw [show (clearSlot s3 slot).fe.store = s.dev.fe.store from store]
    exact stored_of_admits admits
  rw [drainResets_done rfl admits (by decide) effect free (fun j known => idle j (by omega))]
  have ended := (command_ends_over rfl admits (by decide) effect free stored).of_fe (v := s3) rfl
  generalize finish (command 0x98 c s.dev f) = t at ended
  obtain ⟨generation, filled⟩ := installImage_leaves s2 i m
  rw [← installed] at generation filled
  have unfilled : t.ins.unfilled = s3.ins.unfilled := by
    rw [ended.shape]
    rfl
  have slots : t.trust.slots = tdel s3.trust.slots slot := by
    rw [ended.shape]
    rfl
  refine ⟨ended.completes, (sameMem_of_dram rfl).trans ended.mem, ?_, ?_, ?_⟩
  · rw [unfilled]
    exact filled
  · rw [slots, tget_tdel_same]
  · rw [ended.fget (f := RF.INS_STATUS_KEY_GEN i) (by show 0x1B0000 + 64 * i + 0x00 < 0x1E0000; omega)
      (by show 0x1B0000 + 64 * i + 0x00 ≠ 0x150000; omega)]
    exact generation

end

end Sys2Proof.Machine
end

section
/-!
SUPPORT. A command that waits for an instance reset: the only one of the store that has begun (R291, R408).
-/
namespace Sys2Proof.Machine

/-- Key of a command in the store. -/
def entryKey (e : StoreEntry) : Nat := cmdKey e.inst e.ring e.pos

/-- A command has begun. -/
def hasBegun (e : StoreEntry) : Bool := e.phase == 1

/-- A command with its phase changed, where it has the key. -/
def begunAs (key : Nat) (e : StoreEntry) : StoreEntry := if cmdKey e.inst e.ring e.pos = key then { e with phase := 1 } else e

theorem begunAs_own {key : Nat} {e : StoreEntry} (own : entryKey e = key) : begunAs key e = { e with phase := 1 } := if_pos own

theorem begunAs_other {key : Nat} {e : StoreEntry} (other : entryKey e ≠ key) : begunAs key e = e := if_neg other

/-- Of a store's commands `e` alone has begun, and it alone has its key. -/
structure OnlyBegun (l : List StoreEntry) (e : StoreEntry) : Prop where
  begun : l.filter hasBegun = [e]
  unique : ∀ a ∈ l, entryKey a = entryKey e → a = e

namespace OnlyBegun

variable {l : List StoreEntry} {e : StoreEntry}

theorem member (h : OnlyBegun l e) : e ∈ l ∧ e.phase = 1 := by
  have inside : e ∈ l.filter hasBegun := by
    rw [h.begun]
    exact List.mem_singleton_self e
  obtain ⟨own, phase⟩ := List.mem_filter.mp inside
  exact ⟨own, by simpa [hasBegun] using phase⟩

theorem alone (h : OnlyBegun l e) {a : StoreEntry} (inside : a ∈ l) (phase : a.phase = 1) : a = e := by
  have listed : a ∈ l.filter hasBegun := List.mem_filter.mpr ⟨inside, by simp [hasBegun, phase]⟩
  rw [h.begun] at listed
  exact List.mem_singleton.mp listed

theorem filter (h : OnlyBegun l e) {p : StoreEntry → Bool} (stays : p e = true) : OnlyBegun (l.filter p) e := by
  refine ⟨?_, fun a inside => h.unique a (List.mem_filter.mp inside).1⟩
  have swap : (l.filter p).filter hasBegun = (l.filter hasBegun).filter p := by
    rw [List.filter_filter, List.filter_filter]
    exact List.filter_congr (fun a _ => Bool.and_comm _ _)
  rw [swap, h.begun]
  simp [stays]

/-- The command is found under its key. -/
theorem storeAt {s : Dev} (h : OnlyBegun s.fe.store e) : storeAt s (entryKey e) = some e := by
  have here : (s.fe.store.find? (fun a => cmdKey a.inst a.ring a.pos == entryKey e)).isSome = true :=
    List.find?_isSome.mpr ⟨e, h.member.1, beq_self_eq_true (entryKey e)⟩
  obtain ⟨a, found⟩ := Option.isSome_iff_exists.mp here
  have key : (cmdKey a.inst a.ring a.pos == entryKey e) = true :=
    List.find?_some (p := fun a : StoreEntry => cmdKey a.inst a.ring a.pos == entryKey e) found
  have same : a = e := h.unique a (List.mem_of_find?_eq_some found) (beq_iff_eq.mp key)
  exact found.trans (congrArg some same)

/-- It is the only one that a reset can wait for. -/
theorem begunFor {s : Dev} (h : OnlyBegun s.fe.store e) (op i : Nat) :
    begunFor s op i = if entryOp e.entry = op ∧ eb e.entry 16 1 = i then [entryKey e] else [] := by
  have split : s.fe.store.filter (fun a => a.phase == 1 && entryOp a.entry == op && eb a.entry 16 1 == i)
      = (s.fe.store.filter hasBegun).filter (fun a => entryOp a.entry == op && eb a.entry 16 1 == i) := by
    rw [List.filter_filter]
    exact List.filter_congr (fun a _ => by rw [hasBegun, Bool.and_assoc, Bool.and_comm])
  unfold Machine.begunFor
  rw [split, h.begun, List.filter_singleton]
  by_cases own : entryOp e.entry = op ∧ eb e.entry 16 1 = i
  · obtain ⟨code, names⟩ := own
    simp [code, names, entryKey]
  · rw [if_neg own]
    rw [not_and_or] at own
    have fails : (entryOp e.entry == op && eb e.entry 16 1 == i) = false := by
      rw [Bool.and_eq_false_iff, beq_eq_false_iff_ne, beq_eq_false_iff_ne]
      exact own
    rw [fails]
    rfl

end OnlyBegun

/-- A choice after a change is a choice before it. -/
theorem filter_map_of_agree {α : Type} {l : List α} {p q : α → Bool} {g : α → α} (agree : ∀ a ∈ l, p (g a) = q a) :
    (l.map g).filter p = (l.filter q).map g := by
  rw [List.filter_map, List.filter_congr (p := p ∘ g) agree]

/-- A command's context and its entry in the store say the same of it. -/
structure EntryOf (x : Ctx) (e : StoreEntry) : Prop where
  entry : e.entry = x.e
  key : entryKey e = x.key
  origin : (laterCtx e).origin = x.origin
  inst : (laterCtx e).inst = x.inst
  ring : (laterCtx e).ring = x.ring
  bus : (laterCtx e).bus = x.bus
  place : ringKey e.inst e.ring / 4096 = e.inst
  holder : e.inst = x.inst ∨ 32 < e.inst

/-- Where a command that has begun later ends, it ends as itself. -/
theorem EntryOf.completes {x : Ctx} {e : StoreEntry} {s t : Dev} {r : Ret} (same : EntryOf x e) (completes : Completes s t (laterCtx e) r) :
    Completes s t x r := by
  have answer : cplOf (laterCtx e) r = cplOf x r := by
    have body : (laterCtx e).e = x.e := same.entry
    have key : (laterCtx e).key = x.key := same.key
    unfold cplOf
    rw [body, key]
  have key : (laterCtx e).key = x.key := same.key
  unfold Completes at completes ⊢
  rw [answer, same.origin, same.inst, same.ring, same.bus, key] at completes
  exact completes

section
variable {op : Nat} {c : Cmd} {s u : Dev} {x : Ctx}

/-- A ring's command is its entry of the store. -/
theorem entryOf_ctxOf (context : ctxOf op c s = some x) (ring : x.origin ≤ 2) :
    ∃ e, storeAt s x.key = some e ∧ e.entry = x.e ∧ x.origin = (if e.inst = 0 then 1 else 2) ∧ x.inst = e.inst ∧ x.ring = e.ring ∧ x.bus = 0 := by
  unfold ctxOf at context
  split at context
  · next outside =>
    dsimp only at context
    split at context
    · obtain rfl := Option.some.inj context
      dsimp only at ring
      omega
    · cases context
  · dsimp only at context
    split at context
    · cases context
    · next e found =>
      split at context
      · obtain rfl := Option.some.inj context
        exact ⟨e, found, rfl, rfl, rfl, rfl, rfl⟩
      · cases context

/-- A command of the sideband or the tunnel has no instance and no ring. -/
theorem outside_of_ctxOf (context : ctxOf op c s = some x) (outside : ¬ x.origin ≤ 2) :
    (x.origin = 3 ∨ x.origin = 4) ∧ x.inst = 0 ∧ x.ring = 0 ∧ x.bus < 2 := by
  unfold ctxOf at context
  split at context
  · next origin =>
    dsimp only at context
    split at context
    · obtain rfl := Option.some.inj context
      refine ⟨origin, rfl, rfl, ?_⟩
      dsimp only
      split
      · omega
      · omega
    · cases context
  · dsimp only at context
    split at context
    · cases context
    · split at context
      · obtain rfl := Option.some.inj context
        dsimp only at outside
        split at outside
        · omega
        · omega
      · cases context

variable (phases : ∀ e ∈ s.fe.store, e.phase ≠ 1 ∧ e.inst ≤ 32 ∧ e.ring < 4096)
  (keys : ∀ a b : StoreEntry, a ∈ s.fe.store → b ∈ s.fe.store → cmdKey a.inst a.ring a.pos = cmdKey b.inst b.ring b.pos → a = b)
  (once : s.fe.store.Nodup)

include phases keys once

theorem ring_onlyBegun (store : u.fe.store = s.fe.store) {e : StoreEntry} (found : storeAt s x.key = some e) (ring : x.origin ≤ 2) :
    OnlyBegun (beginCmd u x).fe.store { e with phase := 1 } := by
  obtain ⟨member, key⟩ := storeAt_some found
  have whole : (beginCmd u x).fe.store = s.fe.store.map (begunAs x.key) := by
    unfold beginCmd
    rw [if_pos ring, ← store]
    rfl
  have own : ∀ a ∈ s.fe.store, entryKey a = x.key → a = e := fun a inside same => keys a e inside member (same.trans key.symm)
  have mine : begunAs x.key e = { e with phase := 1 } := begunAs_own key
  have agree : ∀ a ∈ s.fe.store, hasBegun (begunAs x.key a) = (a == e) := by
    intro a inside
    by_cases same : entryKey a = x.key
    · rw [own a inside same, mine, beq_self_eq_true]
      rfl
    · have other : a ≠ e := by
        rintro rfl
        exact same key
      obtain ⟨phase, -⟩ := phases a inside
      rw [begunAs_other same, hasBegun, beq_false_of_ne other, beq_false_of_ne phase]
  refine ⟨?_, ?_⟩
  · rw [whole, filter_map_of_agree agree, List.filter_beq, List.count_eq_one_of_mem once member, List.replicate_one, List.map_singleton, mine]
  · intro a inside same
    rw [whole] at inside
    obtain ⟨b, listed, rfl⟩ := List.mem_map.mp inside
    by_cases here : entryKey b = x.key
    · rw [own b listed here, mine]
    · rw [begunAs_other here] at same
      have mineKey : entryKey { e with phase := 1 } = x.key := key
      exact absurd (same.trans mineKey) here

omit keys once in
theorem outside_onlyBegun (store : u.fe.store = s.fe.store) (ring : ¬ x.origin ≤ 2) (known : x.origin = 3 ∨ x.origin = 4) (few : x.bus < 2) :
    OnlyBegun (beginCmd u x).fe.store ⟨37 - x.origin, x.bus, 0, x.e, 1, false⟩ := by
  have whole : (beginCmd u x).fe.store = s.fe.store ++ [⟨37 - x.origin, x.bus, 0, x.e, 1, false⟩] := by
    unfold beginCmd
    rw [if_neg ring, ← store]
  refine ⟨?_, ?_⟩
  · have waiting : s.fe.store.filter hasBegun = [] := by
      rw [List.filter_eq_nil_iff]
      intro a inside
      obtain ⟨phase, -⟩ := phases a inside
      simp [hasBegun, phase]
    rw [whole, List.filter_append, waiting]
    rfl
  · intro a inside same
    rw [whole] at inside
    obtain old | new := List.mem_append.mp inside
    · obtain ⟨-, inst, ring⟩ := phases a old
      have key : cmdKey a.inst a.ring a.pos = cmdKey (37 - x.origin) x.bus 0 := same
      have left : cmdKey a.inst a.ring a.pos = a.pos * 2 ^ 20 + (4096 * a.inst + a.ring) := rfl
      have right : cmdKey (37 - x.origin) x.bus 0 = 0 * 2 ^ 20 + (4096 * (37 - x.origin) + x.bus) := rfl
      omega
    · exact List.mem_singleton.mp new

/-- A command that has begun, where none had, is the only one that a reset can wait for. -/
theorem beginCmd_onlyBegun (context : ctxOf op c s = some x) (store : u.fe.store = s.fe.store) :
    ∃ e, OnlyBegun (beginCmd u x).fe.store e ∧ EntryOf x e := by
  by_cases ring : x.origin ≤ 2
  · obtain ⟨e, found, entry, origin, inst, number, bus⟩ := entryOf_ctxOf context ring
    obtain ⟨member, key⟩ := storeAt_some found
    obtain ⟨-, known, below⟩ := phases e member
    have place : ringKey e.inst e.ring = 4096 * e.inst + e.ring := rfl
    refine ⟨_, ring_onlyBegun phases keys once store found ring, entry, key, ?_, ?_, ?_, ?_, ?_, .inl inst.symm⟩
    · unfold laterCtx
      dsimp only
      rw [origin, decide_eq_true known]
      rfl
    · unfold laterCtx
      dsimp only
      rw [inst, decide_eq_true known]
      rfl
    · unfold laterCtx
      dsimp only
      rw [number, decide_eq_true known]
      rfl
    · unfold laterCtx
      dsimp only
      rw [bus, decide_eq_true known]
      rfl
    · show ringKey e.inst e.ring / 4096 = e.inst
      omega
  · obtain ⟨known, inst, number, few⟩ := outside_of_ctxOf context ring
    have beyond : ¬ 37 - x.origin ≤ 32 := by omega
    have place : ringKey (37 - x.origin) x.bus = 4096 * (37 - x.origin) + x.bus := rfl
    refine ⟨_, outside_onlyBegun phases store ring known few, rfl, (key_of_ctxOf context ring).symm, ?_, ?_, ?_, ?_, ?_, .inr (by show 32 < 37 - x.origin; omega)⟩
    · unfold laterCtx
      dsimp only
      rw [decide_eq_false beyond, if_neg (by omega), if_neg Bool.false_ne_true]
      omega
    · unfold laterCtx
      dsimp only
      rw [decide_eq_false beyond, inst]
      rfl
    · unfold laterCtx
      dsimp only
      rw [decide_eq_false beyond, number]
      rfl
    · unfold laterCtx
      dsimp only
      rw [decide_eq_false beyond]
      rfl
    · show ringKey (37 - x.origin) x.bus / 4096 = 37 - x.origin
      omega

end

end Sys2Proof.Machine
end

section
/-!
SUPPORT. What INS_DESTROY releases once the instance has been reset (R406).
-/
namespace Sys2Proof.Machine

/-- The registers of the instance, and of all pairs, that the release of its resources writes. -/
def ownRegs (i : Nat) : List Nat := [Reg.BRG_ERR_STATUS, Reg.INS_FRAMES i] ++ insRegs i

/-- The registers of an instance without resources. -/
def unresourced (s : Dev) (i : Nat) : Dev :=
  let s := setIslands (showFrames (showPairs s) i) i 0
  let s := fset (fset s (RF.INS_SESSIONS_FIRST i) 0) (RF.INS_SESSIONS_COUNT i) 0
  let s := fset (fset s (RF.INS_QUOTA_MAX_BINDINGS i) 0) (RF.INS_QUOTA_MAX_RINGS i) 0
  fset (fset s (RF.INS_STATUS_REACH i) 0) (RF.INS_STATUS_STATE i) 0

/-- Pairs and pools of an instance are gone. -/
def unpaired (s : Dev) (i : Nat) : Dev :=
  { s with ins := { s.ins with pairs := tfilter s.ins.pairs (fun _ p => p.inst != i) }, mem := { s.mem with pools := tdel s.mem.pools i } }

theorem destroyInstance_eq (s : Dev) (i : Nat) :
    destroyInstance s i = showZero (unresourced (unpaired ((framesOf s i).foldl releaseFrame s) i) i) := rfl

theorem rewritten_unresourced (s : Dev) (i : Nat) : Rewritten (ownRegs i) s (unresourced s i) := by
  have status : Reg.INS_STATUS i ∈ ownRegs i := by simp [ownRegs, insRegs]
  have sessions : Reg.INS_SESSIONS i ∈ ownRegs i := by simp [ownRegs, insRegs]
  have quota : Reg.INS_QUOTA i ∈ ownRegs i := by simp [ownRegs, insRegs]
  unfold unresourced
  refine Rewritten.trans ?_ (rewritten_fset _ (RF.INS_STATUS_STATE i) _ status)
  refine Rewritten.trans ?_ (rewritten_fset _ (RF.INS_STATUS_REACH i) _ status)
  refine Rewritten.trans ?_ (rewritten_fset _ (RF.INS_QUOTA_MAX_RINGS i) _ quota)
  refine Rewritten.trans ?_ (rewritten_fset _ (RF.INS_QUOTA_MAX_BINDINGS i) _ quota)
  refine Rewritten.trans ?_ (rewritten_fset _ (RF.INS_SESSIONS_COUNT i) _ sessions)
  refine Rewritten.trans ?_ (rewritten_fset _ (RF.INS_SESSIONS_FIRST i) _ sessions)
  refine Rewritten.trans ?_ ((rewritten_setIslands _ i 0).mono (List.subset_append_right _ _))
  refine Rewritten.trans ?_ ((rewritten_showFrames _ i).mono (by simp [ownRegs]))
  exact rewritten_fset s RF.BRG_ERR_STATUS_REPLICA_PAIRS _ (by simp [ownRegs, RF.BRG_ERR_STATUS_REPLICA_PAIRS])

/-- An instance without resources is Free, and has no island; its key is as it was. -/
theorem unresourced_fields (s : Dev) (i : Nat) :
    insState (unresourced s i) i = 0 ∧ fget (unresourced s i) (RF.INS_STATUS_KEY_GEN i) = fget s (RF.INS_STATUS_KEY_GEN i)
      ∧ fget (unresourced s i) (RF.INS_ISLANDS_ISLANDS i) = 0 := by
  have frames : Reg.INS_STATUS i ∉ [Reg.INS_FRAMES i] := by
    rw [List.mem_singleton]
    show 0x1B0000 + 64 * i + 0x00 ≠ 0x1B0000 + 64 * i + 0x20
    omega
  have pairs : Reg.INS_STATUS i ≠ Reg.BRG_ERR_STATUS := by
    show 0x1B0000 + 64 * i + 0x00 ≠ 0x100800
    omega
  have sessions : Reg.INS_ISLANDS i ≠ Reg.INS_SESSIONS i := by
    show 0x1B0000 + 64 * i + 0x08 ≠ 0x1B0000 + 64 * i + 0x10
    omega
  have quota : Reg.INS_ISLANDS i ≠ Reg.INS_QUOTA i := by
    show 0x1B0000 + 64 * i + 0x08 ≠ 0x1B0000 + 64 * i + 0x18
    omega
  have key (t : Dev) (g : Fld) (v : Nat) (below : g.lo + g.width ≤ 16) : fget (fset t g v) (RF.INS_STATUS_KEY_GEN i) = fget t (RF.INS_STATUS_KEY_GEN i) :=
    fget_fset_apart _ _ (Nat.le_of_ble_eq_true rfl) (.inr (.inr below))
  unfold unresourced
  refine ⟨fget_fset_same _ (RF.INS_STATUS_STATE i) 0 (Nat.le_of_ble_eq_true rfl), ?_, ?_⟩
  · rw [key _ (RF.INS_STATUS_STATE i) _ (Nat.le_of_ble_eq_true rfl), key _ (RF.INS_STATUS_REACH i) _ (Nat.le_of_ble_eq_true rfl),
      fget_fset_reg _ _ _ _ (status_ne_quota i), fget_fset_reg _ _ _ _ (status_ne_quota i), fget_fset_reg _ _ _ _ (status_ne_sessions i),
      fget_fset_reg _ _ _ _ (status_ne_sessions i),
      fget_setIslands_status _ i 0 (Nat.le_of_ble_eq_true rfl) rfl (.inr (Nat.le_of_ble_eq_true rfl)),
      (rewritten_showFrames _ i).fget (f := RF.INS_STATUS_KEY_GEN i) frames]
    exact fget_fset_reg s RF.BRG_ERR_STATUS_REPLICA_PAIRS _ _ pairs
  · rw [fget_fset_reg _ _ _ _ (islands_ne_status i), fget_fset_reg _ _ _ _ (islands_ne_status i), fget_fset_reg _ _ _ _ quota,
      fget_fset_reg _ _ _ _ quota, fget_fset_reg _ _ _ _ sessions, fget_fset_reg _ _ _ _ sessions, fget_setIslands]
    rfl

/-- What is left of an instance once its resources have been released. -/
structure Destroyed (i : Nat) (s t : Dev) : Prop where
  regs : ∀ o, 0x1A0000 ≤ o → o ∉ ownRegs i → o ∉ insRegs 0 → regRead t o = regRead s o
  bytes : SameBytes s t
  rest : t = { s with
    regs := t.regs, shore := { s.shore with lines := t.shore.lines }, mem := t.mem, dram := t.dram,
    ins := { s.ins with owner := t.ins.owner, pairs := t.ins.pairs } }
  state : insState t i = 0
  others : ∀ j, j ≠ i → insState t j = insState s j
  key : fget t (RF.INS_STATUS_KEY_GEN i) = fget s (RF.INS_STATUS_KEY_GEN i)
  islands : fget t (RF.INS_ISLANDS_ISLANDS i) = 0
  frames : framesOf t i = []

/-- The states of the other instances stay, instance 0's too. -/
theorem insState_showZero (s : Dev) (j : Nat) : insState (showZero s) j = insState s j := by
  by_cases zero : j = 0
  · subst zero
    obtain ⟨a, b, c, shown⟩ := showZero_eq s
    unfold insState
    rw [shown, fget_fset_reg _ _ _ _ (by decide), fget_fset_reg _ _ _ _ (by decide), fget_fset_reg _ _ _ _ (by decide), fget_fset_reg _ _ _ _ (by decide),
      fget_setIslands_status _ 0 _ (by decide) rfl (by decide)]
  · exact (rewritten_showZero s).fget (f := RF.INS_STATUS_STATE j) (not_mem_insRegs_zero (by show 0x1B0020 ≤ 0x1B0000 + 64 * j + 0x00; omega))

theorem destroyInstance_destroyed {s : Dev} {i : Nat} (tenant : 1 ≤ i) (dir : s.shore.dir = []) : Destroyed i s (destroyInstance s i) := by
  have released : Released (framesOf s i) s ((framesOf s i).foldl releaseFrame s) :=
    releaseFrame_all (fun k listed => by rw [dir] at listed; cases listed)
  rw [destroyInstance_eq]
  obtain ⟨l, isL⟩ : ∃ l, l = framesOf s i := ⟨_, rfl⟩
  rw [← isL] at released ⊢
  generalize l.foldl releaseFrame s = a at released
  obtain ⟨regs, rest, -, owners, -⟩ := released
  obtain ⟨b, isB⟩ : ∃ b, b = unpaired a i := ⟨_, rfl⟩
  have sameRegs : b.regs = a.regs := by
    rw [isB]
    rfl
  have shapeB : b = { s with
      regs := b.regs, shore := { s.shore with lines := b.shore.lines }, mem := b.mem, dram := { s.dram with held := b.dram.held },
      ins := { s.ins with owner := b.ins.owner, pairs := b.ins.pairs } } := by
    rw [isB, rest]
    rfl
  have ownersB : b.ins.owner = a.ins.owner := by
    rw [isB]
    rfl
  have regsB {o : Nat} (above : 0x1A0000 ≤ o) : regRead b o = regRead s o := by
    rw [regRead_congr sameRegs, regs o (.inr (by omega))]
  rw [← isB]
  clear isB rest
  have written := rewritten_unresourced b i
  obtain ⟨state, key, islands⟩ := unresourced_fields b i
  generalize unresourced b i = c at written state key islands
  have shown := rewritten_showZero c
  have beyond {n : Nat} (low : n < 64) : 0x1B0000 + 64 * i + n ∉ insRegs 0 := not_mem_insRegs_zero (by omega)
  have dram : (showZero c).dram = { s.dram with held := b.dram.held } := by
    rw [shown.rest, written.rest, shapeB]
  refine ⟨fun o above other zero => ?_, fun a => ?_, ?_, ?_, fun j other => ?_, ?_, ?_, ?_⟩
  · rw [shown.regs o zero, written.regs o other, regsB above]
  · rw [dram]
    rfl
  · rw [shown.rest, written.rest, shapeB]
  · rw [insState_showZero, state]
  · have apart : Reg.INS_STATUS j ∉ ownRegs i := by
      have place : Reg.INS_STATUS j = 0x1B0000 + 64 * j + 0x00 := rfl
      have status : Reg.INS_STATUS i = 0x1B0000 + 64 * i + 0x00 := rfl
      have sessions : Reg.INS_SESSIONS i = 0x1B0000 + 64 * i + 0x10 := rfl
      have quota : Reg.INS_QUOTA i = 0x1B0000 + 64 * i + 0x18 := rfl
      have islands : Reg.INS_ISLANDS i = 0x1B0000 + 64 * i + 0x08 := rfl
      have frames : Reg.INS_FRAMES i = 0x1B0000 + 64 * i + 0x20 := rfl
      have pairs : Reg.BRG_ERR_STATUS = 0x100800 := rfl
      simp only [ownRegs, insRegs, List.cons_append, List.nil_append, List.mem_cons, List.not_mem_nil, or_false, not_or]
      omega
    rw [insState_showZero, insState_of_status (written.regs _ apart)]
    exact insState_of_status (regsB (by show 0x1A0000 ≤ 0x1B0000 + 64 * j + 0x00; omega))
  · rw [shown.fget (f := RF.INS_STATUS_KEY_GEN i) (beyond (n := 0) (by decide)), key]
    exact congrArg (fun v => bitsOf v 16 16) (regsB (o := Reg.INS_STATUS i) (by show 0x1A0000 ≤ 0x1B0000 + 64 * i + 0x00; omega))
  · rw [shown.fget (f := RF.INS_ISLANDS_ISLANDS i) (beyond (n := 8) (by decide)), islands]
  · have owner : (showZero c).ins.owner = a.ins.owner := by
      rw [shown.rest, written.rest]
      exact ownersB
    unfold framesOf
    rw [owner, List.map_eq_nil_iff, List.filter_eq_nil_iff]
    intro p inside own
    obtain ⟨earlier, apart⟩ := owners p inside
    refine apart ?_
    rw [isL]
    exact List.mem_map.mpr ⟨p, List.mem_filter.mpr ⟨earlier, own⟩, rfl⟩

end Sys2Proof.Machine
end

section
/-!
SUPPORT. A reset that a command waits for: the instance is reset, and the command completes (R408, R409).
-/
namespace Sys2Proof.Machine

/-! ### What is left of an instance -/

/-- What a reset leaves of an instance, whether it serves again or is Free. -/
structure ResetLeaves (i state : Nat) (s t : Dev) : Prop where
  state : insState t i = state
  others : ∀ j, j ≤ 32 → j ≠ i → insState t j = insState s j
  key : fget t (RF.INS_STATUS_KEY_GEN i) = (fget s (RF.INS_STATUS_KEY_GEN i) + 1) % 2 ^ 16
  count : regRead t (Reg.INS_CNT_RESETS i) = (regRead s (Reg.INS_CNT_RESETS i) + 1) % 2 ^ 64
  sessions : ∀ p ∈ t.fe.sessions, p.2.inst ≠ i
  bindings : ∀ p ∈ t.fe.bindings, p.2.inst ≠ i
  exports : ∀ p ∈ t.ins.exports, p.2.inst ≠ i
  ringsOwn : ∀ k, k / 4096 = i → ringAt t k = none
  ringsOthers : ∀ k, k / 4096 ≠ i → ringAt t k = ringAt s k
  bytes : ∀ a, a / 2 ^ 21 ∉ framesOf s i → dramByte t.dram a = dramByte s.dram a
  stopping : t.ins.stopping = s.ins.stopping
  blocked : t.blocked = s.blocked

section
variable {i : Nat} {s u : Dev}

theorem Reborn.leaves (born : Reborn i s u) : ResetLeaves i 1 s u := by
  obtain ⟨tidied, state, key, count, sessions, bindings, exports, ringsOwn, ringsOthers⟩ := born
  refine ⟨state, fun j below other => ?_, key, count, sessions, bindings, exports, ringsOwn, ringsOthers, tidied.bytes, ?_, ?_⟩
  · refine insState_of_status (tidied.regs _ (resetReg_insStatus below) ?_)
    have place : Reg.INS_STATUS j = 0x1B0000 + 64 * j + 0x00 := rfl
    have own : Reg.INS_STATUS i = 0x1B0000 + 64 * i + 0x00 := rfl
    have counter : Reg.INS_CNT_RESETS i = 0x1B0000 + 64 * i + 0x28 := rfl
    simp only [List.mem_cons, List.not_mem_nil, or_false, not_or]
    omega
  · rw [tidied.rest]
  · rw [tidied.rest]

theorem ResetLeaves.destroyed {z : Dev} (tenant : 1 ≤ i) (left : ResetLeaves i 1 s u) (gone : Destroyed i u z) : ResetLeaves i 0 s z := by
  obtain ⟨-, others, key, count, sessions, bindings, exports, ringsOwn, ringsOthers, bytes, stopping, blocked⟩ := left
  have fe : z.fe = u.fe := by rw [gone.rest]
  have exports' : z.ins.exports = u.ins.exports := by rw [gone.rest]
  have rings (k : Nat) : ringAt z k = ringAt u k := by
    unfold ringAt
    rw [fe]
  have counter : Reg.INS_CNT_RESETS i = 0x1B0000 + 64 * i + 0x28 := rfl
  have apart : Reg.INS_CNT_RESETS i ∉ ownRegs i := by
    have status : Reg.INS_STATUS i = 0x1B0000 + 64 * i + 0x00 := rfl
    have sessions : Reg.INS_SESSIONS i = 0x1B0000 + 64 * i + 0x10 := rfl
    have quota : Reg.INS_QUOTA i = 0x1B0000 + 64 * i + 0x18 := rfl
    have islands : Reg.INS_ISLANDS i = 0x1B0000 + 64 * i + 0x08 := rfl
    have frames : Reg.INS_FRAMES i = 0x1B0000 + 64 * i + 0x20 := rfl
    have pairs : Reg.BRG_ERR_STATUS = 0x100800 := rfl
    simp only [ownRegs, insRegs, List.cons_append, List.nil_append, List.mem_cons, List.not_mem_nil, or_false, not_or]
    omega
  refine ⟨gone.state, fun j below other => (gone.others j other).trans (others j below other), gone.key.trans key, ?_, fe ▸ sessions, fe ▸ bindings,
    exports' ▸ exports, fun k own => (rings k).trans (ringsOwn k own), fun k other => (rings k).trans (ringsOthers k other),
    fun a other => (gone.bytes a).trans (bytes a other), ?_, ?_⟩
  · rw [gone.regs _ (by omega) apart (not_mem_insRegs_zero (by omega)), count]
  · rw [gone.rest]
    exact stopping
  · rw [gone.rest]
    exact blocked

end

/-! ### The command that waits -/

/-- What is in the store after an answer was there before; no command begins by it. -/
theorem mem_store_answerCmd (s : Dev) {x : Ctx} {c : Cpl} (data : List Byte) (key : c.key = some x.key) {a : StoreEntry}
    (inside : a ∈ (answerCmd s x c data).fe.store) (phase : a.phase = 1) : a ∈ s.fe.store := by
  have phased {a : StoreEntry} (inside : a ∈ (setPhase s x.key 2).fe.store) (phase : a.phase = 1) : a ∈ s.fe.store := by
    obtain ⟨b, old, made⟩ := List.mem_map.mp inside
    split at made
    · subst made
      exact absurd phase (show ¬ (2 = 1) by decide)
    · rw [← made]
      exact old
  rcases answerCmd_cases s data key with ⟨-, -, e⟩ | ⟨-, -, e⟩ | ⟨-, e⟩
  · rw [e] at inside
    exact phased inside phase
  · rw [e] at inside
    exact phased (List.mem_filter.mp inside).1 phase
  · rw [e] at inside
    exact (List.mem_filter.mp inside).1

theorem begunFor_of_none {s : Dev} {op i : Nat} (none' : ∀ a ∈ s.fe.store, a.phase = 1 → entryOp a.entry ≠ op) : begunFor s op i = [] := by
  unfold begunFor
  rw [List.map_eq_nil_iff, List.filter_eq_nil_iff]
  intro a inside
  simp only [Bool.and_eq_true, beq_iff_eq, not_and]
  rintro ⟨phase, code⟩
  exact absurd code (none' a inside phase)

section
variable {i op : Nat} {z : Dev} {e : StoreEntry}

/-- The end of a command that has begun: its answer, once the log has its entry. -/
theorem completeKey_answers {sp : CmdSpec} (begun : OnlyBegun z.fe.store e) (row : specOf (entryOp e.entry) = some sp) (single : entryOp e.entry ≠ 0x12)
    (r : Ret) : ∃ v, OnlyLogAnd [] z v ∧ completeKey z (entryKey e) r = answerCmd v (laterCtx e) (cplOf (laterCtx e) r) r.data := by
  have notStep : (sp.op == 0x12) = false := by simpa [specOf_op row] using single
  rw [completeKey_eq begun.storeAt row rfl]
  exact endCmd_answers notStep _ _

/-- Where one command waits for the reset, it completes, and nothing else does. -/
theorem commandsEnded_one (begun : OnlyBegun z.fe.store e) (code : entryOp e.entry = 0x94 ∨ entryOp e.entry = 0x93) (names : eb e.entry 16 1 = i) :
    commandsEnded z i = completeKey z (entryKey e) Ret.ok := by
  obtain ⟨sp, row⟩ : ∃ sp, specOf (entryOp e.entry) = some sp := by
    obtain code | code := code
    · rw [code]
      exact ⟨_, rfl⟩
    · rw [code]
      exact ⟨_, rfl⟩
  have single : entryOp e.entry ≠ 0x12 := by omega
  have waits : begunFor z 0x94 i ++ begunFor z 0x93 i = [entryKey e] := by
    rw [begun.begunFor, begun.begunFor]
    obtain code | code := code
    · rw [if_pos ⟨code, names⟩, if_neg (by rw [code]; simp)]
      rfl
    · rw [if_neg (by rw [code]; simp), if_pos ⟨code, names⟩]
      rfl
  obtain ⟨v, logged, answers⟩ := completeKey_answers begun row single Ret.ok
  have none' : begunFor (completeKey z (entryKey e) Ret.ok) 0x98 i = [] := by
    refine begunFor_of_none (fun a inside phase => ?_)
    rw [answers] at inside
    have old := mem_store_answerCmd v Ret.ok.data (cplOf_key (laterCtx e) Ret.ok) inside phase
    rw [show v.fe.store = z.fe.store by rw [logged.rest]] at old
    rw [begun.alone old phase]
    omega
  unfold commandsEnded
  rw [waits]
  show List.foldl _ (completeKey z (entryKey e) Ret.ok) (begunFor (completeKey z (entryKey e) Ret.ok) 0x98 i) = _
  rw [none']
  rfl

end

/-! ### The reset that goes on -/

/-- Where one reset is in progress, and ends, nothing else goes on. -/
theorem drainResets_one {w : Dev} {i : Nat} (known : i ≤ 32) (others : ∀ j, j ≤ 32 → j ≠ i → insState w j ≠ 4)
    (ends : ∀ j, j ≤ 32 → insState (goReset w i) j ≠ 4) : drainResets w = goReset w i := by
  have stays {t : Dev} {j : Nat} (idle : insState t j ≠ 4) : goReset t j = t := by
    unfold goReset
    rw [if_pos idle]
  have before (l : List Nat) (within : ∀ j ∈ l, j ≤ 32 ∧ j ≠ i) : l.foldl goReset w = w := by
    refine List.foldlRecOn (motive := fun t : Dev => t = w) _ _ rfl ?_
    rintro t rfl j member
    obtain ⟨below, other⟩ := within j member
    exact stays (others j below other)
  have after (l : List Nat) (within : ∀ j ∈ l, j ≤ 32) : l.foldl goReset (goReset w i) = goReset w i := by
    refine List.foldlRecOn (motive := fun t : Dev => t = goReset w i) _ _ rfl ?_
    rintro t rfl j member
    exact stays (ends j (within j member))
  obtain ⟨a, b, cut⟩ := List.append_of_mem (List.mem_range.mpr (show i < 33 by omega))
  have apart : ∀ j ∈ a, ∀ k ∈ i :: b, j ≠ k := (List.nodup_append.mp (cut ▸ List.nodup_range (n := 33))).2.2
  have within : ∀ j ∈ a ++ i :: b, j ≤ 32 := by
    rw [← cut]
    intro j member
    rw [List.mem_range] at member
    omega
  unfold drainResets
  rw [cut, List.foldl_append, List.foldl_cons, before a (fun j member => ?_), after b (fun j member => ?_)]
  · exact within j (List.mem_append_right _ (List.mem_cons_of_mem _ member))
  · exact ⟨within j (List.mem_append_left _ member), apart j member i (List.mem_cons_self ..)⟩

end Sys2Proof.Machine
end

section
/-!
The clauses of the obligation on instance resets: INS_RESET, INS_DESTROY and a function-level reset (R388, R393, R404, R406, R408, R409).
-/
namespace Sys2Proof.Machine

/-- A reset that the command of `e` waits for is in progress; it is to leave the instance in service (0) or Free (1). -/
structure Waiting (i n : Nat) (s w : Dev) (e : StoreEntry) : Prop where
  path : Tidied [Reg.INS_STATUS i] [] s w
  rings : w.fe.rings = s.fe.rings
  state : insState w i = 4
  key : fget w (RF.INS_STATUS_KEY_GEN i) = fget s (RF.INS_STATUS_KEY_GEN i)
  comms : w.fab.comms = []
  dir : w.shore.dir = []
  txn : w.shore.txn = []
  after : tgetD w.ins.after i 0 = n
  begun : OnlyBegun w.fe.store e

section
variable {i n : Nat}

/-- A module whose reset of `i` is to end in a way that a table says. -/
def afterReset (s : Dev) (after : Tbl Nat) : Dev := { s with ins := { s.ins with after := after } }

theorem afterReset_idle {s : Dev} (idle : ResetIdle s) (after : Tbl Nat) : ResetIdle (afterReset s after) :=
  ⟨idle.disp, idle.moves, idle.invals, idle.comms, idle.traces, idle.dir, idle.txn, idle.begun⟩

theorem beginReset_blocked (known : i ≤ 32) {s : Dev} (idle : ResetIdle s) : (beginReset s i).blocked = s.blocked := by
  obtain ⟨path, -⟩ := beginReset_leaves known idle
  rw [path.rest]

theorem opcode_of_ctxOf {op : Nat} {c : Cmd} {s : Dev} {x : Ctx} (context : ctxOf op c s = some x) : entryOp x.e = op := by
  unfold ctxOf at context
  split at context
  · dsimp only at context
    split at context
    · next code =>
      obtain rfl := Option.some.inj context
      exact code
    · cases context
  · dsimp only at context
    split at context
    · cases context
    · split at context
      · next runs =>
        obtain rfl := Option.some.inj context
        exact runs.1
      · cases context

/-- A command that asks for a reset waits for it. -/
theorem waiting_of_begun {op : Nat} {c : Cmd} {s : Dev} {x : Ctx} {after : Tbl Nat} (known : i ≤ 32) (idle : ResetIdle s)
    (ending : tgetD after i 0 = n) (context : ctxOf op c s = some x) (phases : ∀ e ∈ s.fe.store, e.phase ≠ 1 ∧ e.inst ≤ 32 ∧ e.ring < 4096)
    (keys : ∀ a b : StoreEntry, a ∈ s.fe.store → b ∈ s.fe.store → cmdKey a.inst a.ring a.pos = cmdKey b.inst b.ring b.pos → a = b)
    (once : s.fe.store.Nodup) :
    ∃ e, Waiting i n s (beginCmd (beginReset (afterReset s after) i) x) e ∧ EntryOf x e := by
  obtain ⟨u, isU⟩ : ∃ u, u = afterReset s after := ⟨_, rfl⟩
  have idleU : ResetIdle u := by
    rw [isU]
    exact afterReset_idle idle after
  have marked : Tidied [Reg.INS_STATUS i] [] s u := by
    rw [isU]
    exact ⟨fun _ _ _ => rfl, fun _ _ => rfl, rfl⟩
  have feU : u.fe = s.fe := by
    rw [isU]
    rfl
  have afterU : u.ins.after = after := by
    rw [isU]
    rfl
  have sameKey : fget u (RF.INS_STATUS_KEY_GEN i) = fget s (RF.INS_STATUS_KEY_GEN i) := by
    rw [isU]
    rfl
  rw [← isU]
  clear isU
  obtain ⟨path, ins, fe, -⟩ := beginReset_leaves known idleU
  obtain ⟨resetting, key⟩ := beginReset_resets known idleU
  have kept : (beginReset u i).fab.comms = [] ∧ (beginReset u i).shore.dir = [] ∧ (beginReset u i).shore.txn = [] := by
    rw [path.rest]
    exact ⟨idleU.comms, idleU.dir, idleU.txn⟩
  obtain ⟨comms, dir, txn⟩ := kept
  generalize beginReset u i = v at path ins fe resetting key comms dir txn
  obtain ⟨e, begun, same⟩ := beginCmd_onlyBegun phases keys once (u := v) context (by rw [fe, feU])
  have rest := beginCmd_rest v x
  generalize beginCmd v x = w at begun rest
  have began : Tidied [Reg.INS_STATUS i] [] v w := by
    rw [rest]
    exact ⟨fun _ _ _ => rfl, fun _ _ => rfl, rfl⟩
  have regs : w.regs = v.regs := by rw [rest]
  refine ⟨e, ⟨(marked.trans path).trans began, ?_, ?_, ?_, ?_, ?_, ?_, ?_, begun⟩, same⟩
  · rw [rest]
    show v.fe.rings = _
    rw [fe, feU]
  · exact (fget_congr regs _).trans resetting
  · rw [fget_congr regs, key, sameKey]
  · rw [rest]
    exact comms
  · rw [rest]
    exact dir
  · rw [rest]
    exact txn
  · rw [rest]
    show tgetD v.ins.after i 0 = n
    rw [ins, afterU, ending]

/-- The reset ends at once, and the command that waits completes. -/
theorem goReset_waits {s w : Dev} {e : StoreEntry} (waits : Waiting i n s w e) (tenant : 1 ≤ i) (known : i ≤ 32) (ways : n = 0 ∨ n = 1)
    (code : entryOp e.entry = 0x94 ∨ entryOp e.entry = 0x93) (names : eb e.entry 16 1 = i) (other : e.inst ≠ i)
    (place : ringKey e.inst e.ring / 4096 = e.inst) (running : i ∉ s.ins.stopping) :
    ∃ z, goReset w i = completeKey z (entryKey e) Ret.ok ∧ ResetLeaves i (1 - n) s z ∧ OnlyBegun z.fe.store e
      ∧ (n = 0 → z.ins.owner = s.ins.owner) ∧ (n = 1 → framesOf z i = [] ∧ fget z (RF.INS_ISLANDS_ISLANDS i) = 0) := by
  obtain ⟨path, rings, state, key, comms, dir, txn, after, begun⟩ := waits
  obtain ⟨-, -, emptiedIns, -⟩ := emptied_leaves known comms dir
  have ending : tgetD (emptied w i).ins.after i 0 = n := by
    rw [emptiedIns]
    exact after
  obtain ⟨u, isU, ends⟩ := endReset_eq w i
  rw [ending] at isU ends
  obtain ⟨born, ⟨p, store, keeps⟩, -⟩ := reborn known comms dir (after := n) (by omega)
  rw [← isU] at born store
  have shore : u.shore.dir = [] := by
    rw [born.tidied.rest]
    exact dir
  have owner : u.ins.owner = s.ins.owner := by
    rw [born.tidied.rest, path.rest]
  have begunU : OnlyBegun u.fe.store e := by
    rw [store]
    exact begun.filter (keeps e other (by rw [place]; exact other))
  have left := (born.before known path rings key).leaves
  clear isU
  obtain ⟨z, isZ⟩ : ∃ z, z = if n = 1 then destroyInstance u i else u := ⟨_, rfl⟩
  have leaves : ResetLeaves i (1 - n) s z ∧ OnlyBegun z.fe.store e ∧ (n = 0 → z.ins.owner = s.ins.owner)
      ∧ (n = 1 → framesOf z i = [] ∧ fget z (RF.INS_ISLANDS_ISLANDS i) = 0) := by
    obtain rfl | rfl := ways
    · rw [if_neg (by decide)] at isZ
      rw [isZ]
      exact ⟨left, begunU, fun _ => owner, fun no => absurd no (by decide)⟩
    · rw [if_pos rfl] at isZ
      have gone := destroyInstance_destroyed (s := u) (i := i) tenant shore
      rw [← isZ] at gone
      refine ⟨left.destroyed tenant gone, ?_, fun no => absurd no (by decide), fun _ => ⟨gone.frames, gone.islands⟩⟩
      rw [show z.fe = u.fe by rw [gone.rest]]
      exact begunU
  rw [← isZ] at ends
  obtain ⟨left, begunZ, rest⟩ := leaves
  refine ⟨z, ?_, left, begunZ, rest⟩
  have done := commandsEnded_one begunZ code names
  have idle : (completeKey z (entryKey e) Ret.ok).ins.stopping.contains i = false := by
    obtain ⟨sp, row⟩ : ∃ sp, specOf (entryOp e.entry) = some sp := by
      obtain code | code := code
      · rw [code]
        exact ⟨_, rfl⟩
      · rw [code]
        exact ⟨_, rfl⟩
    obtain ⟨v, logged, answers⟩ := completeKey_answers begunZ row (by omega) Ret.ok
    have same : (completeKey z (entryKey e) Ret.ok).ins = z.ins := by
      rw [answers, answerCmd_rest v Ret.ok.data (cplOf_key (laterCtx e) Ret.ok), logged.rest]
    rw [same, left.stopping]
    simpa using running
  rw [goReset_ends state dir txn, ends, done]
  unfold interfaceEnded
  rw [idle]
  exact if_neg Bool.false_ne_true

end

section
variable {s : State} {op : Nat} {c : Cmd} {x : Ctx} {i n : Nat} {after : Tbl Nat} {f : Ctx → Dev → Dev × CmdRes}

/-- What a command that asked for a reset leaves, once it has completed. -/
structure ResetCompleted (i n : Nat) (s t : Dev) (x : Ctx) : Prop where
  completes : Completes s t x Ret.ok
  state : insState t i = 1 - n
  count : regRead t (Reg.INS_CNT_RESETS i) = (regRead s (Reg.INS_CNT_RESETS i) + 1) % 2 ^ 64
  key : fget t (RF.INS_STATUS_KEY_GEN i) = (fget s (RF.INS_STATUS_KEY_GEN i) + 1) % 2 ^ 16
  sessions : ∀ p ∈ t.fe.sessions, p.2.inst ≠ i
  bindings : ∀ p ∈ t.fe.bindings, p.2.inst ≠ i
  exports : ∀ p ∈ t.ins.exports, p.2.inst ≠ i
  ringsOwn : ∀ k, k / 4096 = i → ringAt t k = none
  ringsOthers : ∀ k, k / 4096 ≠ i → k ≠ ringKey x.inst x.ring → ringAt t k = ringAt s k
  bytes : ∀ a, a / 2 ^ 21 ∉ framesOf s i → dramByte t.dram a = dramByte s.dram a
  owner : n = 0 → t.ins.owner = s.ins.owner
  resources : n = 1 → framesOf t i = [] ∧ fget t (RF.INS_ISLANDS_ISLANDS i) = 0

theorem resetCompleted {sp : CmdSpec} (row : specOf op = some sp) (code : op = 0x94 ∨ op = 0x93) (admits : Admits s.dev op c x)
    (effect : f x s.dev = (beginReset (afterReset s.dev after) i, .later)) (ending : tgetD after i 0 = n) (ways : n = 0 ∨ n = 1)
    (names : eb x.e 16 1 = i) (tenant : 1 ≤ i) (known : i ≤ 32) (foreign : x.inst ≠ i) (below : x.ring < 4096)
    (idle : ResetIdle s.dev) (quiet' : ∀ j, j < 33 → insState s.dev j ≠ 4) (running : i ∉ s.dev.ins.stopping)
    (phases : ∀ e ∈ s.dev.fe.store, e.phase ≠ 1 ∧ e.inst ≤ 32 ∧ e.ring < 4096)
    (keys : ∀ a b : StoreEntry, a ∈ s.dev.fe.store → b ∈ s.dev.fe.store → cmdKey a.inst a.ring a.pos = cmdKey b.inst b.ring b.pos → a = b)
    (once : s.dev.fe.store.Nodup) : ResetCompleted i n s.dev (finish (drainResets (command op c s.dev f))) x := by
  have context : ctxOf op c s.dev = some x := by
    obtain ⟨context, -⟩ := admits
    exact context
  have opcode : entryOp x.e = op := opcode_of_ctxOf context
  obtain ⟨e, waits, same⟩ := waiting_of_begun known idle ending context phases keys once
  have unblocked : (beginReset (afterReset s.dev after) i).blocked = [] :=
    (beginReset_blocked known (afterReset_idle idle after)).trans (free_of_admits admits)
  rw [command_later row admits effect unblocked]
  generalize beginCmd (beginReset (afterReset s.dev after) i) x = w at waits
  have entry := same.entry
  have codeE : entryOp e.entry = 0x94 ∨ entryOp e.entry = 0x93 := by
    rw [entry, opcode]
    exact code
  have rowE : specOf (entryOp e.entry) = some sp := by
    rw [entry, opcode]
    exact row
  have single : entryOp e.entry ≠ 0x12 := by omega
  have holder : e.inst ≠ i := by
    have either := same.holder
    omega
  obtain ⟨z, ends, left, begun, owner, resources⟩ := goReset_waits waits tenant known ways codeE (by rw [entry]; exact names) holder same.place running
  obtain ⟨v, logged, answers⟩ := completeKey_answers begun rowE single Ret.ok
  have statesY {j : Nat} (near : j ≤ 32) : insState (completeKey z (entryKey e) Ret.ok) j = insState z j := by
    rw [answers, insState_answerCmd v Ret.ok.data (cplOf_key (laterCtx e) Ret.ok), logged.insState (by simp) near]
  have settled : ∀ j, j ≤ 32 → insState (goReset w i) j ≠ 4 := by
    intro j near
    rw [ends, statesY near]
    by_cases own : j = i
    · rw [own, left.state]
      omega
    · rw [left.others j near own]
      exact quiet' j (by omega)
  have elsewhere : ∀ j, j ≤ 32 → j ≠ i → insState w j ≠ 4 := by
    intro j near own
    have kept : insState w j = insState s.dev j := by
      refine insState_of_status (waits.path.regs _ (resetReg_insStatus near) ?_)
      have place : Reg.INS_STATUS j = 0x1B0000 + 64 * j + 0x00 := rfl
      have place' : Reg.INS_STATUS i = 0x1B0000 + 64 * i + 0x00 := rfl
      rw [List.mem_singleton]
      omega
    rw [kept]
    exact quiet' j (by omega)
  rw [drainResets_one known elsewhere settled, ends]
  have ended : Ended z z (finish (completeKey z (entryKey e) Ret.ok)) (laterCtx e) Ret.ok := completeKey_ended begun.storeAt rowE single rfl rfl
  generalize finish (completeKey z (entryKey e) Ret.ok) = t at ended
  have place : ringKey x.inst x.ring / 4096 ≠ i := by
    have number : ringKey x.inst x.ring = 4096 * x.inst + x.ring := rfl
    omega
  have rings : ∀ k, k ≠ ringKey x.inst x.ring → ringAt t k = ringAt z k := by
    intro k other
    refine ended.rings k ?_
    rw [same.inst, same.ring]
    exact other
  have ins : t.ins = z.ins := by rw [ended.shape]
  have sessions : t.fe.sessions = z.fe.sessions := by rw [ended.shape]
  have bindings : t.fe.bindings = z.fe.bindings := by rw [ended.shape]
  have field (f : Fld) (low : 0x1B0000 ≤ f.off) (high : f.off < 0x1E0000) : fget t f = fget z f := ended.fget high (by omega)
  obtain ⟨bytes, -⟩ := ended.mem
  refine ⟨?_, ?_, ?_, ?_, sessions ▸ left.sessions, bindings ▸ left.bindings, ins ▸ left.exports, fun k own => ?_, fun k other apart => ?_,
    fun a other => ?_, fun reset => ?_, fun destroy => ?_⟩
  · have done := same.completes ended.completes
    unfold Completes at done ⊢
    rw [left.ringsOthers _ place] at done
    exact done
  · unfold insState
    rw [field _ (by show 0x1B0000 ≤ 0x1B0000 + 64 * i + 0x00; omega) (by show 0x1B0000 + 64 * i + 0x00 < 0x1E0000; omega)]
    exact left.state
  · have number : Reg.INS_CNT_RESETS i = 0x1B0000 + 64 * i + 0x28 := rfl
    rw [ended.regs _ (fun report => absurd (logRegs_high _ report) (by omega)) (by show Reg.INS_CNT_RESETS i ≠ 0x150000; omega), left.count]
  · rw [field _ (by show 0x1B0000 ≤ 0x1B0000 + 64 * i + 0x00; omega) (by show 0x1B0000 + 64 * i + 0x00 < 0x1E0000; omega), left.key]
  · rw [rings k (fun is => place (is ▸ own)), left.ringsOwn k own]
  · rw [rings k apart, left.ringsOthers k other]
  · rw [bytes, left.bytes a other]
  · rw [ins, owner reset]
  · obtain ⟨frames, islands⟩ := resources destroy
    refine ⟨?_, ?_⟩
    · unfold framesOf at frames ⊢
      rw [ins]
      exact frames
    · rw [field _ (by show 0x1B0000 ≤ 0x1B0000 + 64 * i + 0x08; omega) (by show 0x1B0000 + 64 * i + 0x08 < 0x1E0000; omega), islands]

end

end Sys2Proof.Machine
end

section
/-!
The obligation on instances, their resources, images and keys (R395 to R415, R388, R393).
-/
namespace Sys2Proof.Machine

section
variable {s : State} {c : Cmd} {x : Ctx} {i : Nat}

/-! ### Resets -/

theorem insReset_runs (named : i = eb x.e 16 1) (tenant : 1 ≤ i) (exists' : insState s.dev i ≠ 0) (served : insState s.dev i ≠ 4) :
    ∃ f, exec (.insReset c) s = .next { s with dev := finish (drainResets (command 0x94 c s.dev f)) }
      ∧ f x s.dev = (beginReset (afterReset s.dev s.dev.ins.after) i, .later) := by
  subst named
  refine ⟨_, rfl, (afterChecks_pass ?_ _).trans ?_⟩
  · simp only [List.forall_mem_cons, List.not_mem_nil, false_implies, implies_true, and_true, beq_eq_false_iff_ne]
    exact ⟨by omega, exists'⟩
  · rw [if_neg served]
    rfl

theorem insDestroy_runs (named : i = eb x.e 16 1) (tenant : 1 ≤ i) (exists' : insState s.dev i ≠ 0) (served : insState s.dev i ≠ 4)
    (unbound : fget s.dev (RF.HST_BIND_STATUS_BOUND i) ≠ 1) :
    ∃ f, exec (.insDestroy c) s = .next { s with dev := finish (drainResets (command 0x93 c s.dev f)) }
      ∧ f x s.dev = (beginReset (afterReset s.dev (tset s.dev.ins.after i 1)) i, .later) := by
  subst named
  refine ⟨_, rfl, (afterChecks_pass ?_ _).trans rfl⟩
  simp only [List.forall_mem_append, List.forall_mem_cons, List.not_mem_nil, false_implies, implies_true, and_true, beq_eq_false_iff_ne]
  exact ⟨⟨by omega, namedState_pass exists' served⟩, unbound⟩

/-- A function-level reset of a function whose interface is not locked (R388). -/
theorem vfFlr_resets {ide : Bool} (tenant : 1 ≤ i) (known : i ≤ 32) (exists' : insState s.dev i ≠ 0) (served : insState s.dev i ≠ 4)
    (ending : tget s.dev.ins.after i = none) (running : i ∉ s.dev.ins.stopping) (idle : ResetIdle s.dev) (ready : serving s.dev = true)
    (free : s.dev.blocked = []) (unlocked : fget s.dev (RF.HST_BIND_STATUS_TDISP i) ≠ 1) (unstarted : fget s.dev (RF.HST_BIND_STATUS_TDISP i) ≠ 2) :
    ∃ u, exec (.vfFlr i ide) s = .next { s with dev := finish u } ∧ Reborn i s.dev u := by
  obtain ⟨u, ends, born, -⟩ := resetInstance_reborn known idle served ending
  have kept : u.ins.stopping = s.dev.ins.stopping ∧ u.blocked = s.dev.blocked := by
    rw [born.tidied.rest]
    exact ⟨rfl, rfl⟩
  obtain ⟨stopping, blocked⟩ := kept
  have done : interfaceEnded u i = u := by
    unfold interfaceEnded
    rw [stopping]
    exact if_neg (by simpa using running)
  refine ⟨u, ?_, born⟩
  show execVfFlr i ide s = _
  unfold execVfFlr
  obtain ⟨g, isG⟩ : ∃ g : Dev → Dev, g s.dev = u ∧ (execVfFlr i ide s = perform s (fun s => whole s g)) := by
    refine ⟨_, ?_, rfl⟩
    dsimp only
    rw [if_neg (by rw [ready]; simp; omega), if_neg (by simp [unlocked, unstarted]), if_neg exists', ends, done]
  obtain ⟨made, runs⟩ := isG
  refine runs.trans ?_
  rw [perform_eq, whole_of_unblocked, made]
  rw [made, blocked, free]

theorem Reborn.finished {u : Dev} (born : Reborn i s.dev u) (known : i ≤ 32) :
    insState (finish u) i = 1 ∧ regRead (finish u) (Reg.INS_CNT_RESETS i) = (regRead s.dev (Reg.INS_CNT_RESETS i) + 1) % 2 ^ 64
      ∧ fget (finish u) (RF.INS_STATUS_KEY_GEN i) = (fget s.dev (RF.INS_STATUS_KEY_GEN i) + 1) % 2 ^ 16
      ∧ (∀ a, a / 2 ^ 21 ∉ framesOf s.dev i → dramByte (finish u).dram a = dramByte s.dev.dram a) ∧ (finish u).ins.owner = s.dev.ins.owner := by
  have status : Reg.INS_STATUS i ≠ Reg.SHC_STATUS := by
    show 0x1B0000 + 64 * i + 0x00 ≠ 0x150000
    omega
  have counter : Reg.INS_CNT_RESETS i ≠ Reg.SHC_STATUS := by
    show 0x1B0000 + 64 * i + 0x28 ≠ 0x150000
    omega
  have same := regRead_finish u _ status
  refine ⟨(insState_of_status same).trans born.state, (regRead_finish u _ counter).trans born.count,
    (congrArg (fun v => bitsOf v 16 16) same).trans born.key, fun a other => (dramByte_finish u a).trans (born.tidied.bytes a other), ?_⟩
  rw [finish_ins, born.tidied.rest]

end

end Sys2Proof.Machine
end

section
/-!
The obligation on instances, put together from its clauses (R395 to R415, R388, R393).
-/
namespace Sys2Proof.Machine

/-- Settles O51: each row runs its command where its checks pass; a reset of an idle instance ends within the row that asks for it, and the command that waits
for it, the only one that has begun, completes then. -/
theorem instancesAndMigration : Obligations.InstancesAndMigration := by
  intro s c x i
  refine ⟨?create, ?memory, ?islands, ?resets, ?freeze, ?frozen, ?resume, ?images, ?keys⟩
  case create =>
    intro m first n mb mr admits named mask start count bindings rings tenant known reach some' ringQuota islands few enabled range apart absent free idle
      left enoughBindings enoughRings
    subst named mask start count bindings rings
    obtain ⟨t, ran, entered, ended⟩ := insCreate_ends admits tenant known reach some' ringQuota islands few enabled range apart absent free idle left
      enoughBindings enoughRings
    obtain ⟨mem, fields, taken, only⟩ := created_leaves tenant known entered ended
    have own {o : Nat} (listed : o ∈ insRegs (eb x.e 16 1)) : o ∈ [0, eb x.e 16 1].flatMap insRegs :=
      List.mem_flatMap.mpr ⟨_, by simp, listed⟩
    have zero {o : Nat} (listed : o ∈ insRegs 0) : o ∈ [0, eb x.e 16 1].flatMap insRegs := List.mem_flatMap.mpr ⟨_, by simp, listed⟩
    have status : Reg.INS_STATUS (eb x.e 16 1) ∈ insRegs (eb x.e 16 1) := by simp [insRegs]
    have sessions : Reg.INS_SESSIONS (eb x.e 16 1) ∈ insRegs (eb x.e 16 1) := by simp [insRegs]
    have quota : Reg.INS_QUOTA (eb x.e 16 1) ∈ insRegs (eb x.e 16 1) := by simp [insRegs]
    have held {k : Nat} : Reg.INS_ISLANDS k ∈ insRegs k := by simp [insRegs]
    refine ⟨_, ran, mem, ended.completes, (fields _ (own status)).trans entered.state, (fields _ (own status)).trans entered.restore,
      (fields _ (own status)).trans entered.reach, (fields _ (own sessions)).trans entered.first, (fields _ (own sessions)).trans entered.count,
      (fields _ (own quota)).trans entered.bindings, (fields _ (own quota)).trans entered.rings, (fields _ (own held)).trans entered.islands, ?_,
      (fields _ (own status)).trans entered.key, only⟩
    rw [fields (RF.INS_ISLANDS_ISLANDS 0) (zero held), entered.rest, ← taken]
    rfl
  case memory =>
    intro first n named known start count some' mapped exists' served filling
    refine ⟨?_, ?_⟩
    · intro admits assigns free
      subst named start count
      obtain ⟨t, ran, ended⟩ := insMemAssign_ends some' mapped exists' served filling admits assigns free
      exact ⟨_, ran, ended.completes, runAssigned_leaves free ended⟩
    · intro s1 mig admits releases walked unblocked fe ins shore free mapped' state undirected
      obtain ⟨t, ran, released, ended⟩ := insMemRelease_ends named start count some' mapped' (by rw [state]; exact exists') (by rw [state]; exact served)
        (by rw [state, ins]; exact filling) admits releases walked unblocked fe free undirected
      exact ⟨_, ran, ended.completes, runReleased_leaves known (fun fr member => (free fr member).1) released ended⟩
  case islands =>
    intro m named tenant known mask some' fits few exists' served filling admits
    refine ⟨?_, ?_⟩
    · intro adds free others
      obtain ⟨t, ran, ended⟩ := insIslandsAdd_ends named tenant mask some' exists' served filling admits adds free others
      exact ⟨_, ran, islands_end tenant known ended (Nat.or_lt_two_pow (fget_lt s.dev (RF.INS_ISLANDS_ISLANDS i)) fits)⟩
    · intro removes held others unbound idle
      obtain ⟨t, ran, ended⟩ := insIslandsRemove_ends named tenant mask some' exists' served filling admits removes held others unbound idle
      exact ⟨_, ran, islands_end tenant known ended (Nat.xor_lt_two_pow (fget_lt s.dev (RF.INS_ISLANDS_ISLANDS i)) fits)⟩
  case resets =>
    intro tenant known foreign below exists' served quiet' ending running disp moves invals comms traces dir txn phases keys once
    have idle : ResetIdle s.dev := ⟨disp, moves, invals, comms, traces, dir, txn, fun e inside => (phases e inside).1⟩
    refine ⟨?_, ?_⟩
    · intro mk op after row admits named unbound
      simp only [List.mem_cons, List.not_mem_nil, or_false, Prod.mk.injEq] at row
      obtain ⟨rfl, rfl, rfl⟩ | ⟨rfl, rfl, rfl⟩ := row
      · obtain ⟨f, ran, effect⟩ := insReset_runs named tenant exists' served
        have done := resetCompleted (n := 0) rfl (.inl rfl) admits effect (by unfold tgetD; rw [ending]; rfl) (.inl rfl) named.symm tenant known foreign
          below idle quiet' running phases keys once
        exact ⟨_, ran, done.completes, done.state, done.count, done.key, done.sessions, done.bindings, done.exports, done.ringsOwn, done.ringsOthers,
          done.bytes, fun _ => done.owner rfl, fun no => absurd no (by decide)⟩
      · obtain ⟨f, ran, effect⟩ := insDestroy_runs named tenant exists' served (unbound rfl)
        have done := resetCompleted (n := 1) rfl (.inr rfl) admits effect (by rw [tgetD_tset_same]) (.inr rfl) named.symm tenant known foreign
          below idle quiet' running phases keys once
        exact ⟨_, ran, done.completes, done.state, done.count, done.key, done.sessions, done.bindings, done.exports, done.ringsOwn, done.ringsOthers,
          done.bytes, fun no => absurd no (by decide), fun _ => done.resources rfl⟩
    · intro ide ready free unlocked unstarted
      obtain ⟨u, ran, born⟩ := vfFlr_resets (ide := ide) tenant known exists' served ending running idle ready free unlocked unstarted
      obtain ⟨state, count, key, bytes, owner⟩ := born.finished known
      exact ⟨_, ran, state, count, key, born.sessions, born.bindings, born.ringsOwn, born.ringsOthers, bytes, owner⟩
  case freeze =>
    intro admits named tenant known running replays
    obtain ⟨t, ran, begun⟩ := insFreeze_ends admits named tenant running replays
    obtain ⟨mem, state, only⟩ := frozen_leaves known begun
    exact ⟨_, ran, mem, begun.begins, state, only⟩
  case frozen =>
    intro e key freezing known idle begun found op holder
    obtain ⟨t, ran, ended⟩ := freezeComplete_ends freezing idle begun found op
    obtain ⟨mem, state, cache, only⟩ := nowFrozen_leaves known freezing ended
    exact ⟨_, ran, mem, state, ended.completes, cache, only⟩
  case resume =>
    intro s1 mine admits named tenant known frozen filled rings afresh unblocked store
    obtain ⟨t, ran, ended⟩ := insResume_ends admits named tenant frozen filled rings afresh unblocked store
    exact ⟨_, ran, runsAgain_ended known ended⟩
  case images =>
    intro slot va len key named tenant known place few at' length aligned frozen
    refine ⟨?_, ?_⟩
    · intro s1 s2 m admits checked ins trust frozen' held resumed flushed image room
      subst flushed image
      obtain ⟨f, ran, effect⟩ := insSave_runs named tenant place few at' length aligned checked trust frozen' held resumed room
      exact ⟨_, _, ran, rfl, fun free store rings => insSave_ends admits effect rfl free store rings⟩
    · intro s1 s2 bytes code admits foreign quiet' checked given free trust ins ins' trust' fe states held unfilled
      obtain ⟨f, ran, effect⟩ := insRestore_runs named tenant place few at' length aligned checked given trust trust'
        ((states i (by omega)).1.trans frozen) held (by rw [ins]; exact unfilled)
      have idle : ∀ j, j < 33 → insState s2 j ≠ 4 := fun j near => by
        rw [(states j near).2]
        exact quiet' j near
      refine ⟨_, ran, fun none' => ?_, fun h opened => ⟨fun bad => ?_, fun m s3 sound whole installed free' store ring states' => ?_⟩⟩
      · have rejected : f x s.dev = (s2, .reject eAuth) := by
          rw [effect]
          unfold restoreRead
          rw [none']
        exact insRestore_rejects admits rejected free fe ins' idle
      · have rejected : f x s.dev = (s2, .reject (imageCode s2 i h)) := by
          rw [effect]
          unfold restoreRead
          rw [opened]
          exact if_pos bad
        exact insRestore_rejects admits rejected free fe ins' idle
      · have done : f x s.dev = (clearSlot s3 slot, .done Ret.ok) := by
          rw [effect, installed]
          unfold restoreRead
          rw [opened]
          refine (if_neg (not_not.mpr sound)).trans ?_
          rw [whole]
        refine insRestore_installs admits known done installed free' store (fun j near => ?_)
        rw [states' j near]
        exact quiet' j near
  case keys =>
    intro slot role path d key chain measured admits place named way device few two ways reached
    subst place named way device
    obtain ⟨t, ran, ended⟩ := insMigKey_ends (chain := chain) (measured := measured) (key := key) admits few two ways reached
    obtain ⟨mem, completes, slots, count, only⟩ := keyTried_ended ended
    have verdict : peerPasses s.dev chain measured = true ↔ Config.verifies 0 chain = true ∧ measuredOk s.dev measured = true := Bool.and_eq_true_iff
    refine ⟨_, ran, mem, ?_, fun j other => ?_, only⟩
    · by_cases passes : Config.verifies 0 chain = true ∧ measuredOk s.dev measured = true
      · rw [if_pos passes]
        rw [verdict.mpr passes] at completes slots count
        refine ⟨completes, ?_, count⟩
        show tget t.trust.slots _ = _
        rw [slots]
        exact tget_tset_same _ _ _
      · rw [if_neg passes]
        have fails : peerPasses s.dev chain measured = false := by
          rw [← Bool.not_eq_true, verdict]
          exact passes
        rw [fails] at completes slots count
        refine ⟨completes, ?_, count⟩
        show tget t.trust.slots _ = _
        rw [slots]
        rfl
    · show tget t.trust.slots j = _
      rw [slots]
      split
      · exact tget_tset_other _ _ _ _ other
      · rfl

end Sys2Proof.Machine
end
